-- ==== Sys2Proof/Word.lean ====
section
/-!
DEFINITION. The word types of the block and the two plain readings of a bit pattern.
-/
namespace Sys2Proof

/-- A register word: every register is 32 bits and little-endian (00, Register tables). -/
abbrev Word := BitVec 32

/-- One byte of the shared SRAM or of a buffer. -/
abbrev Byte := BitVec 8

/-- The two's complement reading of the low `w` bits of `v`. -/
def toSigned (w v : Nat) : Int :=
  if v % 2 ^ w < 2 ^ (w - 1) then (v % 2 ^ w : Int) else (v % 2 ^ w : Int) - 2 ^ w

/-- The `w`-bit two's complement pattern of `x`, as a number below `2 ^ w`. -/
def ofSigned (w : Nat) (x : Int) : Nat := (x % (2 ^ w : Int)).toNat

/-- Bit `i` of `v`. -/
def bit (v i : Nat) : Bool := v / 2 ^ i % 2 == 1

/-- Bits `hi` down to `lo` of `v`, as a number. -/
def bits (v hi lo : Nat) : Nat := v / 2 ^ lo % 2 ^ (hi - lo + 1)

/-- One as a number for true. -/
def ofBool (b : Bool) : Nat := if b then 1 else 0

end Sys2Proof
end

