-- ==== Sys2Proof/Syntax.lean ====
section
/-!
DEFINITION. The commands of the block: one constructor per row of spec/opcode_table.json. An operand is what the
command carries from outside the block (an address, a value, a measured code, a frame) or which of several equal
units it acts on.
-/
namespace Sys2Proof

/-- A descriptor as the host writes it (R255): the seven words that the module reads. -/
structure Desc where
  /-- OP. -/
  op : BitVec 8
  /-- INL: the payload stands in bytes 0x08 to 0x17. -/
  inl : Bool
  /-- FENCE. -/
  fence : Bool
  /-- IRQ: signal when it completes. -/
  irq : Bool
  /-- PREEMPT. -/
  preempt : Bool
  /-- TAG. -/
  tag : BitVec 16
  /-- LEN in bytes. -/
  len : BitVec 32
  /-- The words at 0x08, 0x0C, 0x10 and 0x14. -/
  w0 : BitVec 32
  /-- The word at 0x0C. -/
  w1 : BitVec 32
  /-- PARAM0, or inline bytes 8 to 11. -/
  w2 : BitVec 32
  /-- PARAM1, or inline bytes 12 to 15. -/
  w3 : BitVec 32
deriving DecidableEq, Repr

/-- A downlink frame that is in progress on a gate link when another becomes ready (R188). -/
inductive DownFrame where
  /-- IDLE, CFG_WR or CFG_RD. -/
  | plain
  /-- An EDGE frame with its content, and how long before the other's command instant its own was, in 1.25 ns. -/
  | edge (on : Bool) (slot : Fin 16) (dly : BitVec 12) (ahead : BitVec 8)
  /-- A frame with CAIRN set. -/
  | cairn
  /-- SOFT_OFF. -/
  | softOff
deriving DecidableEq, Repr

/-- A CAN frame (R273, R351): the words of a frame record that the bus carries, and its data bytes. -/
structure CanFrame where
  /-- Extended identifier. -/
  ide : Bool
  /-- CAN FD format. -/
  fdf : Bool
  /-- Bit rate switch. -/
  brs : Bool
  /-- Remote frame. -/
  rtr : Bool
  /-- Error state indicator. -/
  esi : Bool
  /-- The identifier. -/
  ident : BitVec 29
  /-- The data length code. -/
  dlc : BitVec 4
  /-- The data bytes. -/
  data : List Byte
deriving DecidableEq, Repr

/-- A safety-class message as the Belay island receives it (R309, R310, R315): its channel (0 PCIe, 1 CAN, 2 Ethernet),
the controller, port or ring it came by, the identifier or EtherType, on Ethernet its source address, and its bytes. -/
structure RidgeMsg where
  /-- CHAN. -/
  chan : Nat
  /-- Controller, port, or ring. -/
  inst : Nat
  /-- CAN identifier or EtherType. -/
  ident : Nat
  /-- The source MAC address of an Ethernet frame, else 0. -/
  mac : Nat
  /-- The data: payload and trailer. -/
  data : List Nat
deriving DecidableEq, Repr


/-- What the SecTAG of a received Ethernet frame holds, and whether its ICV is good (R363). -/
structure SecTag where
  /-- Secure channel identifier. -/
  sci : BitVec 64
  /-- Association number. -/
  an : BitVec 2
  /-- Packet number, recovered to 64 bits for the XPN suites. -/
  pn : BitVec 64
  /-- The ICV is good. -/
  icvOk : Bool
deriving DecidableEq, Repr

/-- One sample of an aux bridge's three phase nodes while its rotor is watched (R225). -/
structure AuxNodes where
  /-- Its instant in 2.5 ns after the start of the watch. -/
  time : BitVec 32
  /-- The codes of the 10-bit dividers, 60 V / 1024 each. -/
  u : BitVec 10
  /-- Phase V. -/
  v : BitVec 10
  /-- Phase W. -/
  w : BitVec 10
deriving DecidableEq, Repr

/-- What gives the level of a settled phase node, with the Vds code that tells it (R56). -/
inductive PvLevel where
  /-- The low side conducts: the low-side island's code. -/
  | low (code : BitVec 10)
  /-- The high side conducts: the high-side island's code. -/
  | high (code : BitVec 10)
  /-- Both switches are off: the low-side island's code. -/
  | off (code : BitVec 10)
deriving DecidableEq, Repr

/-- One interval of a leg in a decision tick (R56, R57), times in 1.25 ns. -/
inductive PvSeg where
  /-- A settled interval: its part in this tick, how long it had lasted at the tick's start, its level, and the Vds code of the leg's
  other island. -/
  | settled (ticks before : Nat) (level : PvLevel) (other : BitVec 10)
  /-- A part of an edge between its start and end timestamps: its length, how much of the edge had passed at its start, the whole
  edge's length, and the levels on both sides. -/
  | edge (ticks done total : Nat) (before after : PvLevel)
deriving DecidableEq, Repr

/-- What MOV moves between (R167): two registers of one kind, or a data and an address register. -/
inductive EngMove where
  | dd (dst src : Fin 16)
  | aa (dst src : Fin 4)
  | pp (dst src : Fin 8)
  | cc (dst src : Fin 4)
  | pd (dst : Fin 8) (src : Fin 16)
  | dp (dst : Fin 16) (src : Fin 8)
deriving DecidableEq, Repr

/-- The register that LDI loads. -/
inductive EngDst where
  | d (n : Fin 16)
  | p (n : Fin 8)
  | c (n : Fin 4)
deriving DecidableEq, Repr

/-- Where LDA takes an accumulator's value from: a data register, or the two words that STAW stores. -/
inductive EngAccSrc where
  | reg (n : Fin 16)
  | mem (p : Fin 8)
deriving DecidableEq, Repr

/-- The registers of an operation of two operands (R165): data registers or accumulators. -/
inductive EngBin where
  | d (dst x y : Fin 16)
  | a (dst x y : Fin 4)
deriving DecidableEq, Repr

/-- The registers of an operation of one operand. -/
inductive EngUn where
  | d (dst x : Fin 16)
  | a (dst x : Fin 4)
deriving DecidableEq, Repr

/-- What OUT writes: a data register, or an accumulator rounded and saturated on its way. -/
inductive EngOutSrc where
  | d (n : Fin 16)
  | a (n : Fin 4)
deriving DecidableEq, Repr

/-- The target of BR and CALL: an immediate code word address, or an address register. -/
inductive EngTarget where
  | imm (w : BitVec 14)
  | reg (p : Fin 8)
deriving DecidableEq, Repr

/-- The ports that IN reads (R169): data ports, and from `mode` on the state ports. -/
inductive EngPort where
  /-- Fast sample of a current channel. -/
  | fast (ch : Fin 6)
  /-- Control sample of a current channel. -/
  | ctrl (ch : Fin 6)
  /-- VDC. -/
  | vdc
  /-- The offered electrical angle. -/
  | angle
  /-- The offered speed. -/
  | speed
  /-- The mechanical angle. -/
  | mech
  /-- A result of OB, in the order of its result registers. -/
  | ob (k : Fin 13)
  /-- The Belay-accepted setpoint: 0 VALUE, 1 T_SP_LIM, 2 SMODE. -/
  | setpoint (k : Fin 3)
  /-- The thermal limit, of the positive or the negative torque. -/
  | thermal (neg : Bool)
  /-- The bivouac limit. -/
  | bivouac
  /-- The partner's sample marker of a current channel. -/
  | marker (ch : Fin 6)
  /-- A phase current of the AX channel. -/
  | auxCurrent (ph : Fin 3)
  /-- The measured speed of the AX channel. -/
  | auxSpeed
  /-- State port of AX: the channel number (R222). -/
  | channel
  /-- State port MODE. -/
  | mode
  /-- State port period number. -/
  | period
  /-- State port entry. -/
  | entry
  /-- State port mode-change flag. -/
  | modeChange
deriving DecidableEq, Repr

/-- Whose frame a MAC sends (R361): ring 31's, or NET's, an 802.1AS message or a Ridge response. -/
inductive EthSrc where
  | ring
  | gptp
  | ridge
deriving DecidableEq, Repr

/-- What the debug access port reaches (R394 to R396). -/
inductive DbgSpace where
  /-- The registers and the shared SRAM through BAR0. -/
  | bar0 (addr : BitVec 26)
  /-- A word of a host core's memory. -/
  | hostMem (core : Fin 2) (word : BitVec 16)
  /-- A word of the microcode store of SQ0 or SQ1. -/
  | sqStore (axis : Fin 2) (word : BitVec 12)
  /-- A word of an engine's local data. -/
  | localData (eng : Fin 7) (word : BitVec 14)
  /-- A register of an engine's register file: D0 to D15, A0 to A3, P0 to P7, C0 to C3. -/
  | engReg (eng : Fin 7) (k : BitVec 6)
  /-- A word of an engine's code. -/
  | code (eng : Fin 7) (word : BitVec 14)
  /-- A word of 32 bits of the calibration RAM. -/
  | calRam (word : BitVec 19)
deriving DecidableEq, Repr

/-- A command of the block: one constructor per row of the table of commands. -/
inductive Instr where
  /-- REG_WRITE (R3): A write to a register that has no row of its own takes effect, or is ignored, according to the field's access code. Operands: the offset in BAR0 and the word -/
  | regWrite (addr : BitVec 26) (data : BitVec 32)
  /-- FAST_SAMPLE (R42): SEN delivers the fast-channel current sample of each channel to OB and SQ at the decision tick. -/
  | fastSample
  /-- CTRL_SAMPLE (R42): SEN closes a control-channel decimation window and delivers the sample to the control engines and the Belay island. -/
  | ctrlSample (axis : Fin 2)
  /-- COMPARATOR_SAMPLE (R49): A sinc2 comparator value is compared with OC_HI and OC_LO each modulator clock. Operands: the level of the six inputs ISDn_DAT at the sampling instant of this modulator clock, bit n of channel n -/
  | comparatorSample (dat : BitVec 6)
  /-- CH_VALID (R43): After CH_EN is set, the fast and control channels become valid after 24 and 192 modulator clocks. -/
  | chValid (ch : Fin 6)
  /-- OFS_START (R46): A START_A or START_B write starts the offset measurement of an axis, or is refused with CFG_REJECT. -/
  | ofsStart (axis : Fin 2)
  /-- OFS_DONE (R47): The offset measurement completes and writes OFS per channel, or sets OFS_FAIL for a channel beyond OFS_LIM. -/
  | ofsDone (axis : Fin 2)
  /-- OFS_ABANDON (R46): A condition fails during the offset measurement, which is abandoned with OFS_FAIL on every channel of the axis. -/
  | ofsAbandon (axis : Fin 2)
  /-- CLIP (R48): A run of 24 identical bits on ISDn_DAT sets CLIP. -/
  | senClip (ch : Fin 6)
  /-- BSL (R48): A run of LOSS_WIN identical bits sets BSL for the channel. -/
  | senBsl (ch : Fin 6)
  /-- SUM_FAULT (R50): The phase sum of a star exceeds SUM_LIM for SUM_N ticks, which sets SUM and passes it to the trip unit. -/
  | sumFault (star : Fin 2)
  /-- SUP5_FAULT (R32): A sensor supply output folds back on overload and its island raises SUP5A_FAULT or SUP5B_FAULT. Operands: b: SUP5B, else SUP5A -/
  | sup5Fault (b : Bool)
  /-- IHA_SAMPLE (R53): The Belay ADC converts a simultaneous set of six IHA samples and scales them to amperes. Operands: the ADC codes of the six channels -/
  | ihaSample (codes : List (BitVec 12))
  /-- IHA_SAT (R60): An IHA code at 0 or 4095 for 3 samples sets IHA_SAT, the loss of one redundant channel. -/
  | ihaSat (ch : Fin 6)
  /-- IHA_CM (R60): An IHA common mode outside 0.5–4.5 V sets IHA_CM, the loss of one redundant channel. -/
  | ihaCm (ch : Fin 6)
  /-- IHA_ADC (R60): No IHA conversion for 3 periods sets IHA_ADC, the loss of one redundant channel. -/
  | ihaAdc (ch : Fin 6)
  /-- IHA_SUM (R60): The IHA phase sum of a star above 40 A for 20 samples sets IHA_SUM and calls for the safe state. -/
  | ihaSum (star : Fin 2)
  /-- XCHK_WINDOW (R54): At the end of a 1 ms window the Belay island compares the averages of the two current paths per phase. -/
  | xchkWindow
  /-- CUR_XCHK (R55): A phase out of tolerance for 3 consecutive windows sets CUR_XCHK, attributed to a path or unattributed. -/
  | curXchk (ch : Fin 6)
  /-- PV_RECON (R56): SEN computes the volt-second phase-voltage average of each leg 220 ns after the end of a tick. Operands: the intervals of the tick for each leg of the axis -/
  | pvRecon (axis : Fin 2) (legs : List (List PvSeg))
  /-- LEG_MIS (R57): A leg whose Vds sum misses V_dc for PV_N ticks sets its bit in PVR_STAT. -/
  | legMis (leg : Fin 6)
  /-- VDC_FRAME (R58): A DLI V_dc frame arrives, is checked by CRC and sequence, updates VDC_FAST and VDC_FILT and is forwarded to the Belay island. -/
  | vdcFrame (code : BitVec 14) (fb : BitVec 14) (seq : BitVec 4) (crcOk : Bool)
  /-- VDC_STALE (R59): No good V_dc sample for STALE_US sets VDC_STALE and the estimator holds the last value. -/
  | vdcStale
  /-- VDC_LOST (R59): No good V_dc sample for LOST_US sets VDC_LOST and passes it to both traction trip units. -/
  | vdcLost
  /-- SEN_PIT_ARM (R61): A write to SEN PIT_CTL arms a SEN piton, or is ignored with ACCESS_REFUSED. -/
  | senPitArm (sel : BitVec 4) (ch : BitVec 3)
  /-- PIT_TIMEOUT (R330): An armed piton that has not acted within 10 s disarms on its own. -/
  | pitTimeout
  /-- CAP_REQUEST (R66): Every REQ_PER ticks POS issues a CAP request by a rising clock edge, or skips it while a frame is busy. -/
  | capRequest (axis : Fin 2)
  /-- CAP_FRAME (R65): A CAP frame completes and its word is used, or discarded for CRC, framing or VALID = 0. Operands: whether the START pattern's second bit read low, VALID, ATTN, WORD with its first bit sent as bit 0, the CRC bits, the START edge's delay in 2.5 ns, and the device time of the request's rising edge -/
  | capFrame (axis : Fin 2) (startOk : Bool) (valid : Bool) (attn : Bool) (word : BitVec 32) (crc : BitVec 6) (delay : BitVec 8) (request : Nat)
  /-- CAP_TIMEOUT (R65): No START edge within 20 µs of a request ends the request and sets TMO. -/
  | capTimeout (axis : Fin 2)
  /-- CAP_RECOVERY_END (R63): The recovery time after a CAP frame ends and the interface is free for the next request. -/
  | capRecoveryEnd (axis : Fin 2)
  /-- ABS_LOST (R65): INV_N consecutive discarded frames set ABS_LOST and the absolute source leaves the cross-check. -/
  | absLost (axis : Fin 2)
  /-- INC_EDGE (R69): A filtered A or B edge moves INC_COUNT and INC_POS and updates the edge-interval speed. Operands: whether A leads B at this edge, and the edge's device time -/
  | incEdge (axis : Fin 2) (aLeads : Bool) (stamp : Nat)
  /-- INC_ILLEGAL (R70): A simultaneous change of A and B sets ILLEGAL, increments ILL_CNT and leaves the counters unchanged. -/
  | incIllegal (axis : Fin 2)
  /-- INDEX (R71): The active Z edge latches INC_POS into IDX_LAT, sets the reference at the first index, and checks drift later. -/
  | incIndex (axis : Fin 2)
  /-- REREF (R71): A REREF write clears REF_VALID while the axis is not enabled, or is refused with CFG_REJECT. -/
  | reref (axis : Fin 2)
  /-- LINE_FLT (R72): A differential amplitude below 200 mV for 1 µs sets LINE_FLT and invalidates the source. Operands: the pair: 0 A or B, 1 Z, 2 the CAP data line; present: below 200 mV for 1 µs, else recovered -/
  | lineFlt (axis : Fin 2) (pair : Fin 3) (present : Bool)
  /-- STILL (R74): No edge for STILL_MS sets STILL and the reported speed becomes 0. -/
  | posStill (axis : Fin 2)
  /-- SOURCE_LOST (R78): A source pair that disagrees for ANG_N ticks marks a lost source by majority, or requests the safe state. -/
  | sourceLost (axis : Fin 2)
  /-- POS_PIT_ARM (R85): A write to POS PIT_CTL arms a POS piton on the selected axis. -/
  | posPitArm (axis : Fin 2) (sel : BitVec 4)
  /-- DECISION_TICK (R87): At each decision boundary the OB and SQ pipeline runs, commits staged values and hands leg commands to the gate links. -/
  | decisionTick
  /-- TBL_SWAP (R100): A write to TBL_CTL.SWAP checks the inactive bank and schedules the swap, or refuses it with TBL_REJECT. -/
  | tblSwap (axis : Fin 2)
  /-- REF_STALE (R106): No reference write within 2 × REF_DIV ticks sets REF_STALE as a trip source. -/
  | refStale (axis : Fin 2)
  /-- BAND_WINDOW (R103): At the end of each band window the band controller updates S or counts a discarded window. -/
  | bandWindow (axis : Fin 2)
  /-- OBS_LOST (R108): RES above RES_TH for 8 ticks in TABLE sets OBS_LOST and starts STOPPING with a torque ramp. -/
  | obsLost (axis : Fin 2)
  /-- STOPPING_RAMP_END (R109): At the end of the STOPPING ramp SQ selects OPEN or SHORT-LO and then re-catches or disables the axis. -/
  | stoppingRampEnd (axis : Fin 2)
  /-- XY_HIGH (R107): |i_xy| above XY_LIM for XY_N ticks sets XY_HIGH and raises a warning event. -/
  | xyHigh (axis : Fin 2)
  /-- AF_CONV (R94): The active-flux tracker sets or clears its convergence flag once its speed and error conditions hold for CONV_N ticks. -/
  | afConv (axis : Fin 2)
  /-- OB_PIT_ARM (R113): A write to OB PIT_CTL arms an OB piton on its axis. -/
  | obPitArm (axis : Fin 2) (sel : BitVec 4)
  /-- SQ_PIT_ARM (R113): A write to SQ PIT_CTL arms an SQ piton on its axis. -/
  | sqPitArm (axis : Fin 2) (sel : BitVec 4)
  /-- INJ_CONV (R119): |EPS| below INJ_TOL for INJ_N updates sets INJ_CONV. -/
  | injConv (axis : Fin 2)
  /-- POL_PULSE_END (R122): A polarity pulse ends on reaching POL_I or POL_TMAX, and the next pulse or the outcome follows. -/
  | polPulseEnd (axis : Fin 2)
  /-- POL_FAIL (R123): No POL_DONE within 20 ms of the injection start sets POL_FAIL and turns all switches off. -/
  | polFail (axis : Fin 2)
  /-- INJ_LOST (R121): |EPS| above INJ_TOL for INJ_N updates after convergence sets INJ_LOST and removes SLS from the cross-check. -/
  | injLost (axis : Fin 2)
  /-- INJ_LOST_RAMP_END (R121): With SLS the only source, the torque ramp after INJ_LOST ends and SQ turns every switch off. -/
  | injLostRampEnd (axis : Fin 2)
  /-- TRAV_REQUEST (R125): The speed beyond a traverse threshold for TRAV_N valleys requests a traverse. -/
  | travRequest (axis : Fin 2)
  /-- TRAV_HANDOVER (R126): At the first valley where the conditions hold, control passes between PU carrier and table mode. -/
  | travHandover (axis : Fin 2)
  /-- TRAV_ABORT (R126): The handover conditions not met within TRAV_WAIT periods abandons TRAV_UP and starts TRAV_HOLD. -/
  | travAbort (axis : Fin 2)
  /-- TRAV_HOLD_END (R125): TRAV_HOLD expires and the opposite traverse may be requested again. -/
  | travHoldEnd (axis : Fin 2)
  /-- TRAV_STEP (R128): The torque step across a traverse is measured after one period and flagged beyond TSTEP_LIM. -/
  | travStep (axis : Fin 2)
  /-- CATCH_CLASSIFY (R130): OB classifies the rotor as STILL, BEMF or PULSE after 16 ticks of back-EMF magnitude. -/
  | catchClassify (axis : Fin 2)
  /-- CATCH_PULSE (R132): SQ applies a 2 µs zero-vector pulse every CATCH_PER ticks and OB reads the current change. -/
  | catchPulse (axis : Fin 2)
  /-- CATCH_RESULT (R133): A catch result stands and OB initialises the estimator and SQ selects TABLE or CARRIER. -/
  | catchResult (axis : Fin 2)
  /-- CATCH_DEADLINE (R134): A catch without result by its deadline fails and leaves the axis OPEN or SHORT-LO. -/
  | catchDeadline (axis : Fin 2)
  /-- PU_RELOAD (R145): At a valley or peak reload pending shadows transfer to the active compares and dependent work runs. Operands: whether the counter is at its peak, else at its valley, and the device time of it -/
  | puReload (pu : Fin 5) (peak : Bool) (stamp : Nat)
  /-- CMP_WRITE (R145): A write to CMP_U, CMP_V or CMP_W lands in the shadow and, with GRP_EN clear, makes its commit pending. Operands: late: the write lands in the cycle of the reload that comes next -/
  | cmpWrite (pu : Fin 5) (leg : Fin 3) (value : BitVec 16) (late : Bool)
  /-- COMMIT (R145): A write of COMMIT.GO makes the commit of all three shadows pending. Operands: late: the write lands in the cycle of the reload that comes next -/
  | puCommit (pu : Fin 5) (late : Bool)
  /-- PU_COMPARE (R142): The counter crosses an edge instant and the PU sends a time-stamped edge command. Operands: the leg whose compare the counter crosses, and the device time of it -/
  | puCompare (pu : Fin 5) (leg : Fin 3) (stamp : Nat)
  /-- TRIP (R153): A trip source active after its filter latches the trip, stops the outputs and signals the Belay island. Operands: the source that has been asserted for its filter length, its island, channel or phase, and the time of detection in 1.25 ns of device time -/
  | puTrip (pu : Fin 5) (src : Fin 19) (unit : BitVec 4) (stamp : Nat)
  /-- CAPTURE_CLOSE (R156): The 200 ns first-fault capture window closes and the TRIP event is raised. -/
  | captureClose (pu : Fin 5)
  /-- TRIP_CLEAR (R158): A W1C write to TRIP_STAT clears source bits whose re-arm interval has passed, or sets CLEAR_REFUSED. Operands: the bits written 1, and the sources that have been inactive for their filter length -/
  | tripClear (pu : Fin 5) (mask : BitVec 19) (quiet : BitVec 19)
  /-- FIRST_FAULT_REARM (R157): A W1C write to FIRST_FAULT.VALID re-arms the first-fault capture. -/
  | firstFaultRearm (pu : Fin 5)
  /-- SW_TRIP (R151): A write of 1 to TRIP_CMD.SW asserts the SW trip source. -/
  | swTrip (pu : Fin 5)
  /-- DEBUG_HALT (R160): A debug halt of the engines stops the PU counters, raises HALT and takes the outputs to rest. Operands: belay: the Belay island too, at D3 -/
  | debugHalt (belay : Bool)
  /-- DEBUG_RELEASE (R160): A halt is released; HALT becomes inactive and frozen aux units resume counting. -/
  | debugRelease
  /-- FRZ (R161): A write of 1 to CTL.FRZ of an aux PU is accepted under its conditions or ignored with ACCESS_REFUSED. -/
  | puFrz (pu : Fin 5) (value : Bool)
  /-- FRZ_ABORT (R161): A freeze condition fails during a freeze; the unit turns its bridge off, clears FRZ and sets FRZ_ABORT. -/
  | frzAbort (pu : Fin 5)
  /-- PU_PIT_ARM (R163): A write to PU PIT_CTL arms a PU piton. -/
  | puPitArm (pu : Fin 5) (sel : BitVec 4) (src : BitVec 5)
  /-- CE_PERIOD_START (R168): A CE period starts, latches the state ports, closes the signature window and starts the program at its entry. Operands: unit: 0 the pair CE0 and CE1, 1 CE2 and CE3, 2 OB0, 3 OB1; reload: the trigger is a PU reload of the axis, else a decision boundary that REF_DIV counts -/
  | cePeriodStart (unit : Fin 4) (reload : Bool)
  /-- OVERRUN (R172): A program without END by the next period start is stopped, its outputs are dropped and OVERRUN is set. Operands: as in CE_PERIOD_START; 4 is AX -/
  | ceOverrun (unit : Fin 5)
  /-- CE_RELEASE (R170): At max(OUT_PH, c_REL) the outputs written in the period are compared and delivered to their destinations. Operands: unit as in CE_PERIOD_START, 4 to 6 the AX channels; lateCmp: the deliveries land in the cycle of the PU's reload; lateRef: on a decision boundary's cycle -/
  | ceRelease (unit : Fin 7) (lateCmp : Bool) (lateRef : Bool)
  /-- COEF_WRITE (R176): A direct write to COEF_WIN is accepted for the next period start or refused. -/
  | coefWrite (eng : Fin 7) (index : BitVec 8) (word : BitVec 16)
  /-- CE_PIT_ARM (R185): A write to the lead's PIT_CTL arms a CE piton on the pair. -/
  | cePitArm (eng : Fin 7) (sel : BitVec 4)
  /-- ILLEGAL (R167): An undefined opcode sets FLAGS.ILLEGAL and stops the engine until a BLK reset. -/
  | engIllegal (eng : Fin 7)
  /-- MOV (R167): Move between registers. -/
  | engMov (eng : Fin 7) (m : EngMove)
  /-- LDI (R167): Load an immediate into a register. -/
  | engLdi (eng : Fin 7) (dst : EngDst) (imm : BitVec 16)
  /-- LD (R167): Load a word from local data with its tag. Operands: coef: from the coefficient bank, else from local data -/
  | engLd (eng : Fin 7) (dst : Fin 16) (p : Fin 8) (coef : Bool)
  /-- ST (R181): Store a word to local data with its tag, raising TAINT_ST on a tagged address outside the TAG region. -/
  | engSt (eng : Fin 7) (src : Fin 16) (p : Fin 8)
  /-- LDA (R167): Load an accumulator. -/
  | engLda (eng : Fin 7) (dst : Fin 4) (src : EngAccSrc)
  /-- STA (R165): Store an accumulator rounded and saturated to Q15. -/
  | engSta (eng : Fin 7) (dst : Fin 16) (src : Fin 4)
  /-- STAW (R167): Store the upper 32 bits of an accumulator for integrator state. -/
  | engStaw (eng : Fin 7) (src : Fin 4) (p : Fin 8)
  /-- ADD (R165): Saturating add. -/
  | engAdd (eng : Fin 7) (r : EngBin)
  /-- SUB (R165): Saturating subtract. -/
  | engSub (eng : Fin 7) (r : EngBin)
  /-- NEG (R165): Saturating negate. -/
  | engNeg (eng : Fin 7) (r : EngUn)
  /-- ABS (R166): Absolute value; ABS of 0x8000 returns 0x7FFF and sets SAT. -/
  | engAbs (eng : Fin 7) (r : EngUn)
  /-- SHL (R165): Saturating shift left. -/
  | engShl (eng : Fin 7) (r : EngUn) (n : Fin 40)
  /-- SHR (R167): Arithmetic shift right. -/
  | engShr (eng : Fin 7) (r : EngUn) (n : Fin 40)
  /-- MUL (R167): Multiply with a rounded Q15 result. -/
  | engMul (eng : Fin 7) (dst x y : Fin 16)
  /-- MAC (R164): Multiply and accumulate into a Q30 accumulator. -/
  | engMac (eng : Fin 7) (dst : Fin 4) (x y : Fin 16)
  /-- MSU (R164): Multiply and subtract from a Q30 accumulator. -/
  | engMsu (eng : Fin 7) (dst : Fin 4) (x y : Fin 16)
  /-- CMPLT (R167): Compare less-than into a predicate. -/
  | engCmplt (eng : Fin 7) (dst : Fin 4) (x y : Fin 16)
  /-- CMPLE (R167): Compare less-or-equal into a predicate. -/
  | engCmple (eng : Fin 7) (dst : Fin 4) (x y : Fin 16)
  /-- CMPEQ (R167): Compare equal into a predicate. -/
  | engCmpeq (eng : Fin 7) (dst : Fin 4) (x y : Fin 16)
  /-- SEL (R167): Select between two registers by a predicate. -/
  | engSel (eng : Fin 7) (dst : Fin 16) (c : Fin 4) (x y : Fin 16)
  /-- MIN (R167): Minimum of two registers. -/
  | engMin (eng : Fin 7) (dst x y : Fin 16)
  /-- MAX (R167): Maximum of two registers. -/
  | engMax (eng : Fin 7) (dst x y : Fin 16)
  /-- CLAMP (R167): Clamp a register between limits. -/
  | engClamp (eng : Fin 7) (dst x lo hi : Fin 16)
  /-- SINCOS (R167): Sine and cosine of a Q16 angle. -/
  | engSincos (eng : Fin 7) (sin cos angle : Fin 16)
  /-- PARK (R167): Park transform. -/
  | engPark (eng : Fin 7) (dst1 dst2 x y angle : Fin 16)
  /-- IPARK (R167): Inverse Park transform. -/
  | engIpark (eng : Fin 7) (dst1 dst2 x y angle : Fin 16)
  /-- CLARKE (R167): Clarke transform. -/
  | engClarke (eng : Fin 7) (dst1 dst2 u v w : Fin 16)
  /-- SQRT (R167): Square root. -/
  | engSqrt (eng : Fin 7) (dst x : Fin 16)
  /-- DIV (R166): Divide; division by zero returns a limit and sets DIV0 and SAT. -/
  | engDiv (eng : Fin 7) (dst x y : Fin 16)
  /-- PIDF (R173): One PID update with filtered derivative, anti-windup and output clamp. -/
  | engPidf (eng : Fin 7) (dst : Fin 16) (ps pc : Fin 8) (err meas ff : Fin 16)
  /-- TLU (R167): Table lookup through the calibration-RAM table port. Operands: miss: cycles that a line-buffer miss adds; bad: a table word read with two wrong bits -/
  | engTlu (eng : Fin 7) (dst : Fin 16) (handle : BitVec 8) (x : Fin 16) (miss : Nat) (bad : Option (BitVec 18))
  /-- FFS (R174): Evaluate a feed-forward slot from its table at the leading angle. Operands: miss: cycles that a line-buffer miss adds; bad: a table word read with two wrong bits -/
  | engFfs (eng : Fin 7) (dst : Fin 16) (slot : Fin 4) (miss : Nat) (bad : Option (BitVec 18))
  /-- IN (R169): Read a data port or the latched state ports, tagging data-port values. -/
  | engIn (eng : Fin 7) (dst : Fin 16) (port : EngPort)
  /-- OUT (R170): Write an output register for release at the period's release. -/
  | engOut (eng : Fin 7) (out : Fin 8) (src : EngOutSrc)
  /-- OUTREL (R170): Mark the release point of the period's outputs. -/
  | engOutrel (eng : Fin 7)
  /-- BR (R181): Branch; a tagged target raises TAINT_BR in a rope pair. -/
  | engBr (eng : Fin 7) (target : EngTarget)
  /-- BRC (R181): Conditional branch; a tagged predicate raises TAINT_BR in a rope pair. -/
  | engBrc (eng : Fin 7) (c : Fin 4) (target : BitVec 14)
  /-- CALL (R181): Call a subroutine; a tagged target raises TAINT_BR in a rope pair. -/
  | engCall (eng : Fin 7) (target : EngTarget)
  /-- RET (R167): Return from a subroutine. -/
  | engRet (eng : Fin 7)
  /-- LOOP (R167): Repeat a block an immediate number of times. Operands: last: the last code word of the body -/
  | engLoop (eng : Fin 7) (count : BitVec 16) (last : BitVec 14)
  /-- END (R172): End the program of the period. -/
  | engEnd (eng : Fin 7)
  /-- EDGE (R192): An island receives an EDGE frame and schedules the edge DLY after the reference instant, or ignores it with BAD_CMD. Operands: the EDGE command, DLY as PU or SQ asked for it; wait: how long the frame was delayed behind urgent frames, and ref: its reference instant, in 1.25 ns of device time; busy: the frame in progress when it became ready -/
  | edgeCmd (isl : Fin 12) (on : Bool) (slot : Fin 16) (dly : BitVec 12) (wait : BitVec 12) (ref : Nat) (busy : Option DownFrame)
  /-- EDGE_START (R192): A scheduled edge starts and runs its chisel profile with the dv/dt loop. Operands: for each 5 ns of the profile the dv/dt measured, in 0.5 V/ns, where Vds is in transition -/
  | edgeStart (isl : Fin 12) (dvdt : List (Option (BitVec 10)))
  /-- TRIM_SAT_WARN (R199): TRIM_SAT on 64 consecutive edges of one slot raises a warning event. -/
  | trimSatWarn (isl : Fin 12) (slot : Fin 16)
  /-- SOFT_OFF (R206): An island receives SOFT_OFF and turns off along the soft profile, entering HELD from READY. Operands: SRC; ref: the reference instant in 1.25 ns of device time; busy: the frame in progress when it became ready -/
  | softOff (isl : Fin 12) (src : BitVec 5) (ref : Nat) (busy : Option DownFrame)
  /-- CFG_WR (R190): An island receives a configuration write frame. -/
  | cfgWr (isl : Fin 12) (addr : BitVec 10) (data : BitVec 12)
  /-- CFG_RD (R190): An island receives a configuration read frame and answers with CFG_RSP. -/
  | cfgRd (isl : Fin 12) (addr : BitVec 10)
  /-- IDLE (R189): An island receives a valid IDLE frame. -/
  | idleFrame (isl : Fin 12)
  /-- CAIRN_FRAME (R193): A downlink frame with CAIRN set latches the island's snapshot registers at its reference instant. Operands: ref: the reference instant in 1.25 ns of device time; busy: the frame in progress when it became ready -/
  | cairnFrame (isl : Fin 12) (ref : Nat) (busy : Option DownFrame)
  /-- RELEASE (R194): RELEASE received in HELD moves the island to READY, or is refused with BAD_CMD. -/
  | islandRelease (isl : Fin 12)
  /-- CONF_DONE (R200): The island checks the profile CRC and on a match swaps banks and leaves UNCONF for HELD. -/
  | confDone (isl : Fin 12)
  /-- SWAP (R200): The island makes its inactive profile bank active. -/
  | islandSwap (isl : Fin 12)
  /-- CRC_HI (R200): The island receives the upper byte of GLK's configuration CRC. -/
  | crcHi (isl : Fin 12) (data : BitVec 12)
  /-- CRC_LO (R200): The island receives the lower byte of GLK's configuration CRC. -/
  | crcLo (isl : Fin 12) (data : BitVec 12)
  /-- ISLAND_RESET (R193): RESET written to an island returns it and its proxy to UNCONF and reset values. -/
  | islandReset (isl : Fin 12)
  /-- PROXY_RELEASE (R194): A write of CTL.RELEASE in a proxy sends RELEASE to the island. -/
  | proxyRelease (isl : Fin 12)
  /-- PROXY_CONF_DONE (R200): A write of CTL.CONF_DONE makes GLK compute the CRC and send CRC_HI, CRC_LO and CONF_DONE. -/
  | proxyConfDone (isl : Fin 12)
  /-- PROXY_SWAP (R200): A write of CTL.SWAP sends SWAP to every island of the axis in one frame slot. -/
  | proxySwap (isl : Fin 12)
  /-- STATUS_FRAME (R191): GLK receives an uplink STATUS frame and updates the proxy. Operands: the frame's VDS and VAGE; the rest is the island's own state -/
  | statusFrame (isl : Fin 12) (vds : BitVec 10) (vage : BitVec 4)
  /-- EDGE_FRAME (R191): GLK receives an uplink EDGE frame with an edge start or end instant. Operands: VDS, VAGE, PH, DIR, T; first: the instant of the frame's first bit in 1.25 ns of device time -/
  | edgeFrame (isl : Fin 12) (vds : BitVec 10) (vage : BitVec 4) (atEnd : Bool) (on : Bool) (t : BitVec 11) (first : Nat)
  /-- TRIP_FRAME (R205): GLK receives a TRIP frame and asserts the cause inputs at the axis's trip unit. Operands: VDS, VAGE, T_DET; first: the instant of the frame's first bit in 1.25 ns of device time; the causes are the island's own -/
  | tripFrame (isl : Fin 12) (vds : BitVec 10) (vage : BitVec 4) (tdet : BitVec 8) (first : Nat)
  /-- MEAS (R191): GLK receives a MEAS frame with a temperature or supply reading. Operands: sel: 0 die temperature, 1 NTC temperature, 2 VPOS, 3 VNEG -/
  | measFrame (isl : Fin 12) (vds : BitVec 10) (vage : BitVec 4) (sel : BitVec 3) (val : BitVec 10)
  /-- CFG_RSP (R191): GLK receives a configuration response. -/
  | cfgRsp (isl : Fin 12) (vds : BitVec 10) (vage : BitVec 4)
  /-- ISLAND_LINK_LOSS (R193): No valid downlink frame for 1 µs turns the switch off, enters HELD and sends TRIP with LINK. -/
  | islandLinkLoss (isl : Fin 12)
  /-- ENDPOINT_LINK_LOSS (R193): No valid uplink frame for 1 µs raises GI_LINK at the trip unit if the link had been up. -/
  | endpointLinkLoss (isl : Fin 12)
  /-- BELAY_CODE (R207): An island acts on a new Belay-line code after two identical words. Operands: the word received twice in a row -/
  | belayCode (isl : Fin 12) (word : BitVec 8)
  /-- SC_TURN_ON (R207): SC_DLY after a shorting code, the island turns its switch on with slot SC_SLOT. Operands: the instant in 1.25 ns of device time, and the dv/dt as of EDGE_START -/
  | scTurnOn (isl : Fin 12) (start : Nat) (dvdt : List (Option (BitVec 10)))
  /-- OVB_ASSERT (R208): A low-side island sees the broadcast for 40 ns and enters SAFE. Operands: cm: the Kelvin source is more than 100 V from DCL_N -/
  | ovbAssert (isl : Fin 12) (cm : Bool)
  /-- BC_TURN_ON (R208): At low Vds or BC_WAIT after the broadcast the low-side island turns its switch on. Operands: the instant in 1.25 ns of device time, and the dv/dt as of EDGE_START -/
  | bcTurnOn (isl : Fin 12) (start : Nat) (dvdt : List (Option (BitVec 10)))
  /-- OVB_DEASSERT (R208): The broadcast is deasserted and the island follows its Belay line again. -/
  | ovbDeassert (isl : Fin 12)
  /-- UVLO (R202): A gate rail below its threshold for 200 ns turns the switch off and sends TRIP with UVLO. Operands: below6: VPOS falls below 6 V -/
  | islandUvlo (isl : Fin 12) (below6 : Bool)
  /-- UVLO_RECOVER (R202): Both rails above threshold for 10 µs return the island to HELD or UNCONF. -/
  | uvloRecover (isl : Fin 12)
  /-- DESAT (R203): Vds above DESAT_V after blanking for DESAT_FLT is detected and reported in a TRIP frame. -/
  | islandDesat (isl : Fin 12)
  /-- DIDT (R204): The Kelvin-inductance voltage above DIDT_TH for DIDT_FLT is detected and reported in a TRIP frame. -/
  | islandDidt (isl : Fin 12)
  /-- OT (R211): Die or NTC over its shutdown temperature turns the switch off and sends TRIP with OT. Operands: ntc: the NTC has reached its threshold, else the die -/
  | islandOt (isl : Fin 12) (ntc : Bool)
  /-- ISLAND_POWER_UP (R194): The island's rails pass their UVLO at power-up and it enters UNCONF. -/
  | islandPowerUp (isl : Fin 12)
  /-- OSD_START (R212): A START write to OSD_CMD starts the off-state diagnostics of a star, or is refused. -/
  | osdStart (star : Fin 2)
  /-- OSD_STEP (R212): A diagnostic step ends after STEP_MS, node voltages are recorded and the next step or classification follows. Operands: the node voltages at the end of the step, Vds codes of the low-side islands -/
  | osdStep (star : Fin 2) (u v w : BitVec 10)
  /-- GLK_PIT_ARM (R215): A write to GLK PIT_CTL arms a gate-island piton for the selected island. -/
  | glkPitArm (isl : BitVec 4) (sel : BitVec 4)
  /-- AX_PERIOD_START (R222): AX starts a program period at an aux PU reload, or queues it behind a running period. Operands: the shunt codes of the valley, signed -/
  | axPeriodStart (ch : Fin 3) (peak : Bool) (u v w : BitVec 12)
  /-- AUX_OC (R219): A shunt or high-side comparator exceeds OC_LS or OC_HS and feeds AUX_OC. Operands: the high-side or the low-side comparator's current -/
  | auxOc (ch : Fin 3) (ph : Fin 3) (high : Bool) (amps : BitVec 8)
  /-- VAUX_SAMPLE (R220): The ABI measures VAUX every 10 µs and sets or clears VAUX_UV and VAUX_OV. -/
  | vauxSample (code : BitVec 12)
  /-- VAUX_RESTART (R231): VAUX above 10.0 V for 100 ms with a valid stream restarts the channel. -/
  | vauxRestart (ch : Fin 3)
  /-- SP_LOST (R223): No aux setpoint descriptor for SP_TMO sets SP_LOST and stops the channel. -/
  | spLost (ch : Fin 3)
  /-- AUX_CATCH (R225): After CATCH_MS with the bridge off AX classifies the aux rotor. Operands: the samples of the three phase nodes, oldest first -/
  | auxCatch (ch : Fin 3) (nodes : List AuxNodes)
  /-- START_FAIL (R225): The aux rotor still turning after START_WAIT sets START_FAIL. -/
  | startFail (ch : Fin 3)
  /-- AUX_ALIGN_END (R226): The 2 ms d-axis current ends and the standstill start continues. -/
  | auxAlignEnd (ch : Fin 3)
  /-- AUX_INJ_CONV (R226): The aux injection tracker converges and the polarity test starts. -/
  | auxInjConv (ch : Fin 3)
  /-- AUX_POL_PULSE_END (R226): An aux polarity pulse ends and the test continues or resolves. -/
  | auxPolPulseEnd (ch : Fin 3)
  /-- OBS_SLOW (R227): The observer not converged within 50 ms of OBS_UP sets OBS_SLOW. -/
  | obsSlow (ch : Fin 3)
  /-- VLIM (R228): The voltage limit acting for 8 updates sets VLIM and stops the speed reference rising. -/
  | auxVlim (ch : Fin 3)
  /-- VLIM_CLEAR (R228): 8 updates below 15/16 of the limit clear VLIM. -/
  | vlimClear (ch : Fin 3)
  /-- BS_UV (R230): A bootstrap voltage below 7.5 V turns its high side off and sets BS_UV and BS_EVT. -/
  | bsUv (ch : Fin 3) (ph : Fin 3) (code : BitVec 10)
  /-- BS_HOLD_END (R230): All BS_UV bits at 0 for BS_HOLD release the duty clamp. -/
  | bsHoldEnd (ch : Fin 3)
  /-- AX_PIT_ARM (R233): A write to AX PIT_CTL arms an AX piton. -/
  | axPitArm (ch : BitVec 2) (ph : BitVec 2) (sel : BitVec 4)
  /-- ACT_REFRESH (R245): ACT.CMD with OP REFRESH fetches, checks and stages entries of the mask. Operands: CH_MASK of the CMD write -/
  | actRefresh (mask : BitVec 8)
  /-- ACT_SAVE (R236): ACT.CMD with OP SAVE copies the table into the MRAM copy not in force. -/
  | actSave
  /-- ACT_VERIFY (R244): ACT.CMD with OP VERIFY fetches and checks entries without staging. Operands: CH_MASK of the CMD write -/
  | actVerify (mask : BitVec 8)
  /-- ENTRY_FETCHED (R244): An entry fetch completes and the CRC and range checks run. Operands: the entry's 256 words from host memory; for CH7 also those of CH0, and SRC_EN of CH1 -/
  | entryFetched (words : List (BitVec 32)) (words0 : List (BitVec 32)) (src1 : BitVec 2)
  /-- FETCH_TMO (R244): A fetch not complete within FETCH_TMO sets ERR.FETCH and refuses the load. -/
  | fetchTmo
  /-- BIND_CHECK (R243): The Belay island compares the CRC-32C of a candidate safety section with BIND and accepts or refuses it. -/
  | bindCheck
  /-- CACHE_CHECK (R247): Every 10 ms hardware re-checks the CRC of every cached entry. Operands: the CRC of the cached entry as re-computed -/
  | cacheCheck (ch : Fin 8) (good : Bool)
  /-- SAVE_DONE (R236): A SAVE's MRAM copy passes its checks and becomes the copy in force, or IMG_FAIL is set. Operands: the eight entries at ACT_BASE as copied to MRAM; complete: nothing interrupted the copy -/
  | saveDone (words : List (BitVec 32)) (complete : Bool)
  /-- PERSTN (R251): PERSTN resets the endpoint and stops every ring. Operands: the PERSTN pin goes low -/
  | perstn
  /-- FUNCTION_LEVEL_RESET (R251): A function-level reset stops every ring and resets RING and DOOR. -/
  | functionLevelReset
  /-- LINK_DOWN (R251): A PCIe link-down stops every ring and sets HALT and LINK. -/
  | linkDown
  /-- BUS_MASTER_CLEAR (R251): Clearing Bus Master Enable stops every ring. -/
  | busMasterClear
  /-- SIZE_WRITE (R253): A write of RINGn_CFG.SIZE enables, restarts or disables the ring. -/
  | sizeWrite (ring : Fin 32) (size : BitVec 13)
  /-- DOORBELL (R254): A doorbell write hands slots to the module or is ignored with STAT.TAIL. Operands: the new tail; highOnly: a 32-bit write to the high half alone -/
  | doorbell (ring : Fin 32) (tail : BitVec 13) (highOnly : Bool)
  /-- DESC_FETCH (R255): A descriptor arrives from host memory and is dispatched by ring and OP. Operands: the descriptor at the head, as it arrives -/
  | descFetch (ring : Fin 32) (d : Desc)
  /-- DMA_ERROR (R261): A PCIe error on a fetch, completion, record or write-back halts the ring. Operands: payload: the error is on a payload read or buffer write; else on a fetch, completion, record or write-back -/
  | dmaError (ring : Fin 32) (payload : Bool)
  /-- IRQ_TIMER (R258): IRQ.TIME after the oldest unsignalled completion the ring signals its vector. -/
  | irqTimer (ring : Fin 32)
  /-- NOP (R262): Ring-0 NOP completes with device time. -/
  | ringNop
  /-- SNAPSHOT (R262): Ring-0 SNAPSHOT issues COUNT cairns at the given spacing. -/
  | ringSnapshot
  /-- SNAPSHOT_NEXT (R434): The spacing of a SNAPSHOT command expires and the next cairn is issued. -/
  | snapshotNext
  /-- REFRESH (R245): Ring-0 REFRESH stages the entries of the channel mask. -/
  | ringRefresh
  /-- VERIFY (R262): Ring-0 VERIFY fetches and checks entries of the mask. -/
  | ringVerify
  /-- SAVE (R236): Ring-0 SAVE copies the context table into MRAM. -/
  | ringSave
  /-- POWER (R415): Ring-0 POWER requests a power state, refused or started under its conditions. -/
  | ringPower
  /-- RESET (R262): Ring-0 RESET requests a reset at a level within RST_MAP.HOST. -/
  | ringReset
  /-- ENABLE (R264): Ring-1 ENABLE loads and checks the entries and enables each addressed channel. Operands: net: an accepted network command, else ring 1 -/
  | ringEnable (net : Bool)
  /-- DISABLE (R264): Ring-1 DISABLE ramps and turns off each addressed channel. -/
  | ringDisable (net : Bool)
  /-- DISABLE_RAMP_END (R264): The DISABLE torque ramp ends and the PU sends SOFT_OFF to every island of the axis. -/
  | disableRampEnd (ch : Fin 8)
  /-- DISCHARGE (R336): A DISCHARGE request starts an abseil and puts the traction axes into the safe state. -/
  | ringDischarge (net : Bool)
  /-- DISCHARGE_CANCEL (R337): A DISCHARGE with byte 0 = 0 cancels a ring or network abseil. -/
  | dischargeCancel (net : Bool)
  /-- HOLD (R286): A HOLD engage command requests the park lock through the safe-hold outputs. Operands: net: an accepted network command, else ring 1 -/
  | ringHold (net : Bool)
  /-- HOLD_RELEASE (R317): A HOLD release de-energizes the safe-hold outputs unless a bivouac has expired. -/
  | holdRelease (net : Bool)
  /-- SETPOINT_DESC (R265): A setpoint descriptor starts playing its records. Operands: the ring, and the records read at ADDR when they are not inline -/
  | setpointDesc (ring : Fin 8) (records : List (BitVec 128))
  /-- SETPOINT_RECORD (R267): Every SP_PER a setpoint record goes to the Belay island for its Ridge check. -/
  | setpointRecord (ring : Fin 8)
  /-- TELEMETRY_RECORD (R268): At a boundary with k mod DEC = 0 a telemetry ring samples eight values and writes a record, or drops it. Operands: telemetry ring 8 + ring; bankFree: idle bank cycles were there and no record of the ring is still staging -/
  | telemetryRecord (ring : Fin 8) (bankFree : Bool)
  /-- EVENT_RECORD (R271): A queued event is written into a handed slot of its class ring. Operands: 0 fault, 1 warning, 2 information, 3 safety log -/
  | eventRecord (cls : Fin 4)
  /-- FW_CHUNK (R272): A ring-20 chunk is stored in the firmware slot not in force. Operands: data: the bytes at ADDR -/
  | fwChunk (data : List Byte)
  /-- FW_CHECK_DONE (R389): The FINAL firmware check completes OK with the slot pending, or AUTH_FAIL. Operands: the image's key hash and signature verify -/
  | fwCheckDone (keyOk sigOk : Bool)
  /-- CAL_CHUNK (R272): A ring-21 chunk is stored in the calibration slot not in force. Operands: data: the bytes at ADDR -/
  | calChunk (data : List Byte)
  /-- CAL_CHECK_DONE (R392): The FINAL calibration check completes; the image goes into force with PEND, or AUTH_FAIL. Operands: KEY_ID is that of the installed K_INT; the tag and the directory pass -/
  | calCheckDone (keyIdOk tagOk : Bool)
  /-- CHANGE_LOG (R272): Ring-22 CHANGE_LOG reads change-log entries or the anchor. -/
  | changeLog
  /-- EVENT_STORE (R272): Ring-22 EVENT_STORE reads the MRAM event store. -/
  | eventStore
  /-- SNAPSHOT_READ (R473): Ring-23 SNAPSHOT_READ returns a snapshot record by number. -/
  | snapshotRead
  /-- CAN_SEND (R351): A ring-28/29 SEND places a CAN frame in a transmit buffer or shadow, or completes BUSY. Operands: ring 28 or 29; bytes 8 to 11 and 12 to 15 of the record at ADDR, and its data bytes; an inline record is taken from the descriptor -/
  | canSend (ring : Fin 2) (w2 w3 : BitVec 32) (data : List Byte)
  /-- CANCEL (R353): A ring-28/29 CANCEL removes a buffer's active and shadow frames. Operands: onBus: an attempt of the buffer's active frame is in progress -/
  | canCancel (ring : Fin 2) (onBus : Bool)
  /-- ETH_SEND (R361): A ring-31 SEND queues an Ethernet frame for transmission, or completes RANGE or STATE. Operands: the frame at ADDR -/
  | ethSend (frame : List Byte)
  /-- CAN_RX (R357): A CAN frame received without error is diverted to the Belay island, filtered, and queued for a ring buffer. Operands: stamp: the device time captured at SOF in the CAN domain -/
  | canRx (ctrl : Fin 4) (frame : CanFrame) (stamp : Nat)
  /-- ETH_RX (R360): An Ethernet frame is received, verified, filtered and routed. Operands: the frame without FCS, SecTAG and ICV; its SecTAG if it has one -/
  | ethRx (port : Fin 2) (frame : List Byte) (fcsOk : Bool) (tag : Option SecTag) (stamp : Nat)
  /-- SELECTION (R279): Every 10 µs the Belay island estimates the back-EMF and updates the OPEN or SHORT selection. -/
  | blSelection (axis : Fin 2)
  /-- SAFE_ENTER (R284): A safe-state cause reaches the Belay island, which puts the selected code on the line and asserts BELAY. -/
  | safeEnter (axis : Fin 2)
  /-- BELAY_RELEASE (R284): BELAY at the PU falls after 1 µs once no standing cause condition remains. -/
  | belayRelease (pu : Fin 5)
  /-- TM_ERROR (R289): A monitor's window counter reaches TM_TIME × 200 and calls for the safe state. -/
  | tmError (mon : Fin 2)
  /-- KAT_PERIODIC (R291): Every 10 ms each monitor runs a known-answer test, marking it lost on failure. Operands: the result of the test -/
  | katPeriodic (mon : Fin 2) (pass : Bool)
  /-- TM_XCHK (R291): In joined mode the monitors disagree beyond XTOL for XTIME and call for the safe state. -/
  | tmXchk
  /-- BL_INDEX (R288): At the first index the Belay island compares its angle with POS and sets ALIGN_OK or calls for the safe state. -/
  | blIndex (axis : Fin 2)
  /-- ALIGN_TIMEOUT (R288): No index after two mechanical turns calls for the safe state. -/
  | alignTimeout (axis : Fin 2)
  /-- STATUS_WORD (R292): The control island's status word reaches the Belay island and its flags act as causes. -/
  | statusWord
  /-- BIV_WARN (R296): 30 s before bivouac expiry a BIV_WARN event is raised. -/
  | bivWarn (axis : Fin 2)
  /-- BIV_EXPIRE (R296): The bivouac time expires; the axis enters the safe state and HOLD is issued. -/
  | bivExpire (axis : Fin 2)
  /-- SGL_TIMEOUT (R298): One valid position source for SGL_TIME counts as the loss of one source. -/
  | sglTimeout (axis : Fin 2)
  /-- SETPOINT_LAPSE (R294): The Ridge window of a setpoint stream expires and the lapse reaction starts. -/
  | setpointLapse (axis : Fin 2)
  /-- LAPSE_RAMP_END (R294): The lapse torque ramp reaches zero and LAPSE_HOLD starts. -/
  | lapseRampEnd (axis : Fin 2)
  /-- LAPSE_HOLD_END (R294): No setpoint within LAPSE_HOLD brings the safe state. -/
  | lapseHoldEnd (axis : Fin 2)
  /-- XTRIP (R299): The filtered XTRIP state changes; an assertion trips the configured axes and calls for the safe state. Operands: the filtered state -/
  | xtripPin (asserted : Bool)
  /-- HVIL_FAULT (R300): An HVIL fault state held for HVIL_FLT sets HVIL_OPEN with the reactions of HVIL_CFG. Operands: 1 open, 2 short to ground, 3 short to VLV -/
  | hvilFault (kind : Nat)
  /-- HVIL_RESTORE (R300): The HVIL loop reads correctly for HVIL_FLT and HVIL_OPEN clears. -/
  | hvilRestore
  /-- SSOUT_FAULT (R301): A driven SSOUT reading low for 1 ms sets SSOUT_FAULT. -/
  | ssoutFault
  /-- HEARTBEAT_SEND (R302): Every 100 µs HK sends a heartbeat word to the Belay island. -/
  | heartbeatSend
  /-- HEARTBEAT (R302): A heartbeat word arrives at the Belay island and restarts the count if in sequence. -/
  | blHeartbeat (seq : BitVec 16)
  /-- CI_LOST (R302): HB_N periods without a heartbeat set CI_LOST and put both axes into the safe state. -/
  | ciLost
  /-- HOLD_DRIVE (R286): A pending HOLD is driven once every axis is below HOLD_WMAX. -/
  | holdDrive
  /-- BL_VDC_SAMPLE (R280): The Belay island accepts a forwarded V_dc sample as V_BL. Operands: the sample, Q15 of V_base -/
  | blVdcSample (v : BitVec 16)
  /-- VDC_FALLBACK (R280): No V_dc sample accepted for 10 ms makes V_BL fall back to VDC_MIN. -/
  | vdcFallback
  /-- CFG_WRITE (R306): Mailbox CFG_WRITE logs and writes an RWS field inside a session, or completes REFUSED or RANGE. Operands: whether the change-log entry could be written to MRAM and read back, and whether the field change followed before a reset or the loss of power -/
  | mbxCfgWrite (written applied : Bool)
  /-- PIT_ARM (R307): Mailbox PIT_ARM arms a Belay piton under the arming rules. -/
  | mbxPitArm
  /-- KAT (R305): Mailbox KAT runs a fresh known-answer test of a monitor. Operands: the result of the fresh test -/
  | mbxKat (pass : Bool)
  /-- PWD_LOAD (R322): Mailbox PWD_LOAD appends CNT bytes to the password buffer. -/
  | pwdLoad
  /-- SES_OPEN (R323): Mailbox SES_OPEN compares the password hash and opens a safety password session. -/
  | sesOpen
  /-- SES_CLOSE (R325): Mailbox SES_CLOSE closes the safety password session. -/
  | sesClose
  /-- PWD_SET (R325): Mailbox PWD_SET replaces the password of the session's own role and logs it. Operands: whether the change-log entry could be written to MRAM and read back -/
  | pwdSet (written : Bool)
  /-- LOG_VERIFY (R327): Mailbox LOG_VERIFY checks the change-log chain. -/
  | logVerify
  /-- LOG_ANCHOR (R327): Mailbox LOG_ANCHOR returns a word of the anchor chain value. -/
  | logAnchor
  /-- RIDGE_CHECK (R312): The Belay island checks a safety-class message and accepts or refuses it. -/
  | ridgeCheck
  /-- START (R313): A START message opens or reopens its session slot with a new seed. -/
  | ridgeStart
  /-- NET_RESET (R308): A network reset command on DST 0x08 requests a reset within RST_MAP.NET. -/
  | netReset
  /-- TEST_PULSE (R319): A safe-hold test pulse runs and its readback is sampled. Operands: the switch pulsed, whether both islands read alike, and the readings: VAUX and the node voltages in codes of 60 mV, the coil current in codes of 2 mA -/
  | testPulse (output : Fin 2) (low : Bool) (agree : Bool) (vaux : Int) (vh : Int) (vl : Int) (ic : Int)
  /-- SH_FAULT (R320): A safe-hold readback out of window sets SH_FAULT and turns that output off until a Belay reset. Operands: the readback that has stood for 1 ms: whether both islands read alike, VAUX and the node voltages in codes of 60 mV, the coil current in codes of 2 mA -/
  | shFault (output : Fin 2) (agree : Bool) (vaux : Int) (vh : Int) (vl : Int) (ic : Int)
  /-- PWD_LOCKOUT_END (R324): The safety password lockout expires. -/
  | pwdLockoutEnd
  /-- SES_TMO (R325): SES_TMO without a mailbox command closes the safety password session. -/
  | sesTmo
  /-- PWD_BUF_CLEAR (R323): 10 s without a PWD_LOAD clears the password buffer. -/
  | pwdBufClear
  /-- DLI_DOWNLINK (R333): The DLI endpoint sends a downlink frame every 1 µs. -/
  | dliDownlink
  /-- DIS_STEP (R333): The DLI receives a STEP and raises DIS_G or queues the step. Operands: ms -/
  | disStep (len : Nat)
  /-- DIS_STEP_END (R333): A discharge step's length runs out and DIS_G falls or the queued step starts. -/
  | disStepEnd
  /-- DIS_END (R333): An END command ends the running step and drops a queued one. -/
  | disEnd
  /-- DLI_LINK_LOSS (R333): 10 µs without a valid DLI frame ends the step and drops a queued one. -/
  | dliLinkLoss
  /-- STUCK_OFF (R334): DIS_FB above 20 V 5 µs after DIS_G rose reports STUCK_OFF. -/
  | stuckOff
  /-- STUCK_ON (R334): DIS_FB low while the switch is commanded off reports STUCK_ON. -/
  | stuckOn
  /-- BROADCAST_ASSERT (R335): DCL above OV_HW for 500 ns asserts the over-voltage broadcast. -/
  | broadcastAssert
  /-- BROADCAST_DEASSERT (R335): DCL below OV_HW − 30 V for 100 µs deasserts the broadcast. -/
  | broadcastDeassert
  /-- ABSEIL_STEP (R338): The Belay island predicts and issues, shortens, defers or refuses the next resistor step. -/
  | abseilStep
  /-- LEDGER_UPDATE (R342): Every 1 ms the Belay island updates the energy accounts and the resistor temperature. Operands: stepEnd: a resistor step has ended since the last update -/
  | ledgerUpdate (stepEnd : Bool)
  /-- DIS_MISS (R339): T_DEADLINE passes without compliance and DIS_MISS is raised once. -/
  | disMiss
  /-- DLI_PIT_ARM (R347): A write to the DLI proxy PIT_CTL arms a DLI piton. -/
  | dliPitArm (sel : BitVec 4)
  /-- CAN_JOIN (R350): After INIT clears, 11 recessive bits let the controller join the bus. -/
  | canJoin (ctrl : Fin 4)
  /-- CAN_TX_DONE (R353): A CAN frame is sent successfully and its buffer advances. Operands: device time of the frame's SOF -/
  | canTxDone (ctrl : Fin 4) (stamp : Nat)
  /-- CAN_TX_ERROR (R353): A CAN attempt ends in an error or lost arbitration and is retried. Operands: lec: the code of ERR.LEC; inData: the error lies in the data or CRC field -/
  | canTxError (ctrl : Fin 4) (lec : Fin 7) (inData : Bool)
  /-- ID_COLLISION (R354): 3 consecutive data or CRC errors on one identifier set ID_COLLISION. -/
  | idCollision (ctrl : Fin 4)
  /-- ALONE (R355): 16 consecutive ACK errors set ALONE. -/
  | canAlone (ctrl : Fin 4)
  /-- BUS_OFF (R356): TEC above 255 enters bus-off and stops all transmission and reception. -/
  | busOff (ctrl : Fin 4)
  /-- BO_RECOVER (R356): A write of BO_RECOVER starts bus-off recovery. -/
  | boRecover (ctrl : Fin 4)
  /-- CAN_RECOVERED (R356): 128 occurrences of 11 recessive bits complete bus-off recovery. -/
  | canRecovered (ctrl : Fin 4)
  /-- DOM_TMO (R348): TXD dominant for 4 ms releases the bus and enters bus-off. -/
  | domTmo (ctrl : Fin 4)
  /-- PEX (R350): A recessive res bit in an FD frame is a protocol exception. Operands: tdcv: a loop delay measured above 127 clocks, else a recessive res bit -/
  | canPex (ctrl : Fin 4) (tdcv : Option (BitVec 8))
  /-- CAN_PIT_ARM (R365): A write to CAN PIT_CTL arms a CAN piton. -/
  | canPitArm (ctrl : Fin 4) (buf : BitVec 5) (sel : BitVec 4)
  /-- ETH_LINK_CHANGE (R359): An Ethernet link comes up or goes down. -/
  | ethLinkChange (port : Fin 2) (up : Bool) (sqi : BitVec 3)
  /-- MS_FAULT (R359): 200 ms of training without a link sets MS_FAULT. -/
  | msFault (port : Fin 2)
  /-- ETH_TX_DONE (R361): The last octet of a frame leaves the MAC and the SEND completes. Operands: whose frame it was -/
  | ethTxDone (port : Fin 2) (src : EthSrc) (stamp : Nat)
  /-- PDELAY_RX (R362): NET answers an 802.1AS peer-delay message. -/
  | pdelayRx (port : Fin 2) (stamp : Nat)
  /-- SYNC_RX (R433): NET takes a Sync and Follow_Up and steers or steps device time. Operands: the step that would remove the offset from the grandmaster, 2.5 ns -/
  | syncRx (offset : Int)
  /-- AS_LOCKED (R433): 8 consecutive Syncs within LOCK_TH enter LOCKED. -/
  | asLocked
  /-- HOLDOVER (R433): No Sync for SYNC_TMO enters HOLDOVER with the trim held. -/
  | asHoldover
  /-- SLOW_ROUND (R368): Every 10 ms HK starts a slow round reading every sensor. Operands: the readings of sensors 24 to 33 and the resistances of MT0 to MT3 in ohms, none where the input is open or shorted or nothing arrived; missing: gate-island sensors whose value fails to arrive -/
  | slowRound (codes : List (Option (BitVec 10))) (mt : List (Option (BitVec 20))) (missing : BitVec 24)
  /-- ROUND_DONE (R368): A slow round completes and HK writes factors and bands. -/
  | roundDone
  /-- STALE (R368): No completed round for 30 ms sets STALE. -/
  | hkStale
  /-- BS_RST (R371): A write of CTL.BS_RST resets every BS_MINk field. -/
  | bsRst
  /-- ABI_OT (R373): An ABI bridge at 150 °C turns that bridge off and trips its PU. -/
  | abiOt (bridge : Fin 3)
  /-- DIE_OT (R373): The control or Belay die at 150 °C puts both axes into the safe state. Operands: belay: the Belay die, else the control die -/
  | dieOt (belay : Bool)
  /-- OT_RESTART (R374): A sensor 20 °C below threshold for 1 s ends the shutdown hold. Operands: the sensor whose hold has ended -/
  | otRestart (sensor : Fin 38)
  /-- HK_PIT_ARM (R377): A write to HK PIT_CTL arms an HK piton. -/
  | hkPitArm (sens : BitVec 6) (sel : BitVec 4)
  /-- LC_TRANSITION (R380): A LC_CMD request records a permitted life-cycle transition or sets RESULT. Operands: fused: the factory's fuses are blown; whole: the record is not interrupted -/
  | lcTransition (target : BitVec 3) (fused whole : Bool)
  /-- CHALLENGE (R384): AUTH_CMD CHALLENGE generates a nonce for a role session. Operands: debug: on the DBG port -/
  | authChallenge (debug : Bool) (role : BitVec 3) (level : BitVec 2)
  /-- AUTH_VERIFY (R384): AUTH_CMD VERIFY checks the signature and opens a role or debug session. Operands: good: the signature verifies -/
  | authVerify (debug good : Bool)
  /-- AUTH_CLOSE (R386): AUTH_CMD CLOSE closes the role session. -/
  | authClose (debug : Bool)
  /-- ROLE_TMO (R386): ROLE_TMO without a BAR0 access closes the host-link role session. -/
  | roleTmo
  /-- AUTH_LOCKOUT_END (R385): The authentication lockout expires. -/
  | authLockoutEnd
  /-- INT_INSTALL (R385): KEY_CMD INT_INSTALL unwraps and installs the integrator key and first role key. Operands: unwraps: the wrapped key unwraps, to kInt -/
  | intInstall (slot : BitVec 4) (unwraps : Bool) (kInt : BitVec 256)
  /-- ROLE_INSTALL (R383): KEY_CMD ROLE_INSTALL installs a role public key. -/
  | roleInstall (slot : BitVec 4)
  /-- ROLE_REVOKE (R383): KEY_CMD ROLE_REVOKE removes a role public key. -/
  | roleRevoke (slot : BitVec 4)
  /-- SAK_INSTALL (R390): KEY_CMD SAK_INSTALL installs a MACsec SAK. -/
  | sakInstall (slot : BitVec 4)
  /-- SAK_RETIRE (R390): KEY_CMD SAK_RETIRE retires a MACsec SAK. -/
  | sakRetire (slot : BitVec 4)
  /-- FUSE_BLOW (R401): KEY_CMD FUSE_BLOW blows PERF_USER or DBG_PROD_DIS. -/
  | fuseBlow (slot : BitVec 4)
  /-- FW_COMMIT (R390): A write of FW_CMD.COMMIT raises FW_SVN to the running image's SVN. -/
  | fwCommit
  /-- CAL_LOAD_DONE (R393): The calibration load completes, sets LOADED and runs the handle checks. Operands: kinds: KIND of each handle's directory entry -/
  | calLoadDone (tagOk : Bool) (kinds : List (BitVec 8))
  /-- DEBUG_ACCESS (R396): A debug access reaches the address space at the granted level. -/
  | debugAccess (sp : Sys2Proof.DbgSpace) (write : Bool) (data : BitVec 32)
  /-- SINGLE_STEP (R396): A debug single step of a halted engine or core. Operands: engine: none for a host core -/
  | singleStep (engine : Option (Fin 7))
  /-- IDCODE (R396): TAP instruction IDCODE. -/
  | tapIdcode
  /-- BYPASS (R396): TAP instruction BYPASS. -/
  | tapBypass
  /-- SAMPLE_PRELOAD (R398): TAP instruction SAMPLE/PRELOAD, replaced by BYPASS while the V_dc condition fails. -/
  | tapSamplePreload
  /-- EXTEST (R398): TAP instruction EXTEST, replaced by BYPASS while the V_dc condition fails. -/
  | tapExtest
  /-- DAP_SELECT (R396): The private TAP instruction selects the SEC debug access port. -/
  | dapSelect
  /-- DBG_TRSTN (R400): DBG_TRSTN closes the debug session. -/
  | dbgTrstn
  /-- DBG_VREF_LOSS (R400): DBG_VREF absent for 1 ms closes the debug session. -/
  | dbgVrefLoss
  /-- BOOT (R389): The boot ROM checks the firmware slots and loads the first valid image, or stays in BOOT_FAIL. Operands: the reason for which the slot's format, code, key or signature fails, 0 none -/
  | bootRom (inForce pending : Fin 5)
  /-- PWR_CMD (R415): A write of PWR_CMD.GO requests a power state. -/
  | pwrCmd (target : BitVec 2)
  /-- PARK_RAMP_END (R416): The parking torque ramp ends; islands enter HELD and the module becomes PARKED. -/
  | parkRampEnd
  /-- UNPARK (R418): The module leaves PARKED for RUN, releases the islands and starts the catch. -/
  | unparkDone
  /-- AUTO_UNPARK (R418): An enabled axis's speed rising above UP while PARKED triggers leaving PARKED. -/
  | autoUnpark
  /-- PD_EN (R412): A write of PWR_CTL.PD_EN switches domains on or off within the dependencies, or is refused. -/
  | pdEn (value : BitVec 6)
  /-- DOMAIN_ON (R413): A domain switched on in RUN completes its rise and zeroing and is released. -/
  | domainOn (pd : Fin 9)
  /-- VLV_LOW (R405): VLV below 9.0 V for 1 ms sets VLV_LOW. Operands: vlv: VLV, 10 mV per code -/
  | vlvLow (vlv : BitVec 12)
  /-- VLV_HIGH (R405): VLV above 16.0 V for 1 ms sets VLV_HIGH. Operands: vlv: VLV, 10 mV per code -/
  | vlvHigh (vlv : BitVec 12)
  /-- BROWNOUT (R406): VLV below a domain group's threshold browns that group out. Operands: group: 0 PD2 to PD6, 1 PD7 and PD8, 2 PD0 and PD1 -/
  | brownout (group : Fin 3)
  /-- BROWNOUT_RECOVER (R406): VLV above the rising threshold for 1 ms lets the domain rise again. -/
  | brownoutRecover (group : Fin 3)
  /-- WAKE (R421): A rising WAKE above 5.0 V wakes the module from STANDBY or OFF. -/
  | wakePin
  /-- WAKE_ALARM (R421): The real-time counter reaches ALARM and wakes the module from STANDBY. -/
  | wakeAlarm
  /-- PWR_WAKE_LOW (R421): WAKE falling in RUN or PARKED raises an information event only. -/
  | pwrWakeLow
  /-- DLI_POWER_ON (R454): V_dc rising through 40 V powers the DLI, which starts with OV_HW 950 V. -/
  | dliPowerOn
  /-- PLL_FAULT (R429): A PLL_MAIN fault trips every PU by CLK and the Belay island calls for the safe state. Operands: measured deviation, 0.01 % -/
  | pllFault (dev : Nat)
  /-- PLL_LOCK (R429): PLL_MAIN relocks after a restart and CLK latches in each PU. -/
  | pllLock
  /-- CLK_FAULT (R427): A clock other than PLL_MAIN deviates from both references and its domain reacts. Operands: clock − 1: 0 crystal, 1 PCIe, 2 and 3 ETH0 and ETH1, 4 CAN, 5 Belay, 6 the gate island inst, 7 DLI; measured deviation, 0.01 % -/
  | clkFault (clk : Fin 8) (inst : Fin 12) (dev : Nat)
  /-- AMBIG (R428): A one-reference deviation for 16 windows sets CLK_STAT.AMBIG. -/
  | clkAmbig
  /-- TIME_LO_READ (R432): A read of TIME_LO latches TIME_HI. -/
  | timeLoRead
  /-- CAIRN_GO (R434): A write of CAIRN_CMD.GO issues a cairn. -/
  | cairnGo
  /-- CAIRN_ARM (R434): A write of CAIRN_CMD.ARM arms a cairn at CAIRN_AT. -/
  | cairnArm
  /-- CAIRN_AT (R434): Device time reaches CAIRN_AT and the armed cairn is issued. -/
  | cairnAt
  /-- CAIRN_QUEUED (R435): A cairn waiting behind another is issued 200 ns after it. -/
  | cairnQueued
  /-- ENGINE_BARRIER (R435): The engines are released together 24 cycles after the last arrives at the barrier. Operands: the engine that arrives -/
  | engineBarrier (eng : Fin 16)
  /-- SYS_PIT_ARM (R437): A write to SYS PIT_CTL arms SYS.CLK.PIT. -/
  | sysPitArm (sel : BitVec 4)
  /-- POWER_ON (R439): Power-on of PD0 or PD1 is a COLD reset and starts start-up. -/
  | powerOn
  /-- RSTN (R439): RSTN asserted is a COLD reset without a pre-reset stage. -/
  | rstnAssert
  /-- RST_CMD (R439): A write of RST_CMD.GO requests a reset at a level within its permission. Operands: debug: the write comes through the debug access port -/
  | rstCmd (level : BitVec 2) (warm : Bool) (source inst : BitVec 8) (debug : Bool)
  /-- PRE_RESET_END (R443): The pre-reset wait ends and the reset takes hold of its domains. -/
  | preResetEnd
  /-- BLK_RESET (R446): A block reaches idle and is reset cleanly. -/
  | blkReset
  /-- BLK_TIMEOUT (R446): A block not idle within BLK_TMO is reset by force and UNCLEAN is set. -/
  | blkTimeout
  /-- WD_KICK (R441): A WD_KICK write advances a host core's kick sequence, or fires the watchdog when out of sequence. -/
  | wdKick (core : Fin 2) (key : BitVec 16)
  /-- HC_WATCHDOG (R441): A host core without a kick within WD_TMO fires the host-core watchdog. -/
  | hcWatchdog (core : Fin 2)
  /-- ENGINE_WATCHDOG (R441): An engine overrunning WD_ENG periods or stopped 1 ms fires the engine watchdog. Operands: engine: CE0 to CE3, OB0, OB1, AX; stopped: on ILLEGAL for 1 ms -/
  | engineWatchdog (engine : Fin 7) (stopped : Bool)
  /-- BL_RST (R442): The Belay island commands a reset of the control island. Operands: bind: the channel of the failed comparisons, none for CI_LOST -/
  | blRst (bind : Option (Fin 8))
  /-- TRIM_LOAD (R447): The PD0 loader reads and checks the trim copies and applies them, or sets TRIM_FAIL. Operands: the CRC of each copy passes; whole: the load is not interrupted -/
  | trimLoad (copyA copyB whole : Bool)
  /-- DOMAIN_STEP (R449): A start-up domain step completes its rise, BIST and release. Operands: pass: the domain's BIST passes; misr: its MISR; islands: the failing islands of a gate bank -/
  | domainStep (pd : Fin 9) (pass : Bool) (misr : BitVec 64) (islands : BitVec 6)
  /-- BELAY_START (R451): The Belay island loads its configuration store and sets CFG_VALID. -/
  | belayStart (storeGood : Bool)
  /-- SELFTEST (R451): The Belay start-up self-test completes and sets SELFTEST_OK. -/
  | blSelftest (pass : Bool)
  /-- READY (R451): All start-up conditions hold; READY is set and START_READY is raised. -/
  | startReady
  /-- SCRUB (R460): The patrol scrubber reads and checks one word every SCRUB_PER cycles. Operands: flips: bits of the word that have turned wrong since it was written -/
  | memScrub (flips : Fin 3)
  /-- WIN_ABORT (R458): A BAR0 window read not served within 50 µs completes with a completer abort. Operands: offset: the BAR0 offset read -/
  | winAbort (offset : BitVec 22)
  /-- MARCH_START (R462): A write of MARCH_CMD.GO starts a march run or is refused. -/
  | marchStart (target : BitVec 6) (destr repair : Bool)
  /-- MARCH_DONE (R463): A march run completes with repairs and results. Operands: boot: the march of start-up; fails: failing words; mem addr pos: the first of them; left: memories left with a failure; spent: those for want of a spare; rows cols: spares taken -/
  | marchDone (boot : Bool) (fails : BitVec 16) (mem : Fin 6) (addr : BitVec 19) (pos : Fin 72) (left spent : BitVec 6) (rows cols : BitVec 8)
  /-- BIST_START (R468): A write of BIST CMD.GO tests a domain in RUN or is refused. -/
  | bistStart (domain : BitVec 4)
  /-- BIST_DONE (R465): A logic BIST run completes and compares its MISR. Operands: misr: the MISR; islands: the failing islands of a gate bank -/
  | bistDone (pass : Bool) (misr : BitVec 64) (islands : BitVec 6)
  /-- PERF_OVF (R471): A performance counter wraps, sets OVF and may interrupt. Operands: pc: the engine instruction at which the interrupt is taken -/
  | perfOvf (n : Fin 32) (pc : BitVec 32)
  /-- SAMPLE_RECORD (R472): A tagged host-core instruction retires and its sample record is written or dropped. Operands: idle: an idle bank cycle is found in time; the record written -/
  | sampleRecord (core : Fin 2) (idle : Bool) (record : List Byte)
  /-- CNT_LO_READ (R470): A read of CNTn_LO latches CNTn_HI. -/
  | cntLoRead (n : Fin 32)
  /-- MEM_PIT_ARM (R476): A write to MEM PIT_CTL arms a MEM piton on a shared-SRAM word. -/
  | memPitArm (addr : BitVec 19) (sel : BitVec 4)
  /-- PU_STROBE_LOSS (R162): The ABI turns every aux switch off when its gate signals show no valid PU strobe for 1 µs. -/
  | puStrobeLoss (pu : Fin 5)
  /-- BELAY_LINE_LOSS (R207): A gate island whose Belay line shows no transition for 200 ns reads OPEN and turns its switch off. -/
  | belayLineLoss (isl : Fin 12)
  /-- INVALID_FRAME (R189): A gate-link frame that fails SOF, TYPE or CRC-8 is discarded, counted in LINK.BAD_CRC or the island snapshot, and a receiver seeing an SOF inside a frame restarts. Operands: up: an uplink frame at the endpoint, else a downlink frame at the island; the 40 bits as received -/
  | invalidFrame (isl : Fin 12) (up : Bool) (word : BitVec 40)
  /-- CAN_RX_ERROR (R348): A frame received with an error raises REC, may make the controller receive error-passive, and counts in ERR_FRAMES. Operands: eight: the counter rises by 8, as ISO 11898-1 defines, else by 1 -/
  | canRxError (ctrl : Fin 4) (lec : Fin 7) (eight : Bool)
  /-- PCIE_LINK_UP (R249): The PCIe link completes training, and a link below Gen3 x2 raises the warning event RING with LINK_DEGRADED. Operands: the trained rate and width, and the payload and read request sizes that the host writes -/
  | pcieLinkUp (gen : Nat) (lanes : Nat) (mps : Nat) (mrrs : Nat)
  /-- RSTN_RELEASE (R439): RSTN deasserted releases the held COLD reset and start-up begins. -/
  | rstnRelease
  /-- DLI_POWER_LOSS (R333): V_dc falling below 40 V unpowers the DLI, forcing DIS_G off and stopping its frames and broadcast. -/
  | dliPowerLoss
  /-- ZEROING_DONE (R395): The 2.1 ms zeroing of a table-port lock completes, ZEROING clears and the held debug access and any waiting ENABLE proceed. -/
  | zeroingDone
  /-- COMMON_MODE_EVENT (R29): A low-side Kelvin source moves beyond ±100 V from DCL_N and the island reports the excursion over the gate link. -/
  | commonModeEvent (isl : Fin 12)
  /-- DBG_VREF_PRESENT (R15): DBG_VREF appears from the debug adapter, DBG_STAT.VREF sets and the TAP leaves reset. -/
  | dbgVrefPresent
deriving DecidableEq, Repr

end Sys2Proof
end

