-- ==== Sys2Proof/Config.lean ====
section
/-!
DEFINITION. What the spec leaves open and every part or every run may hold differently: constants without a body,
so that no proof can see their value. Each one is named in the assumption log.
-/
namespace Sys2Proof.Config

/-- Whether the hardware rounds `n / d` up where the spec states a quotient and no rounding (log entry 7). -/
opaque roundUp (n d : Int) : Bool

/-- A free value drawn afresh: the `n`-th draw (log entry 4). -/
opaque fresh (n : Nat) : Nat

/-- A result whose arithmetic the spec gives without its rounding, from its operands (log entry 8). `tag` names the
rule's number, `args` are the operands. -/
opaque free (tag : Nat) (args : List Int) : Nat

/-- The ordering code fused into the part: 0 NV-2412-AQ, 1 NV-2412-DV (R1, R250; log entry 6). -/
opaque orderingCode : Bool

/-- The development integrator key that a NV-2412-DV carries at shipment (R1; log entry 6): word 0 its K_INT, word 1 its role key. -/
opaque devKey (i : Nat) : Nat

/-- Words of the module's own identity and public key (17, DEV_ID and DEV_PUB; log entry 6). -/
opaque deviceWord (i : Nat) : Nat

end Sys2Proof.Config
end

