-- ==== Sys2Proof/Machine/Operands.lean ====
section
/-!
DEFINITION. The number formats of the module: Q15, Q16 angles and Q30, with the saturations and roundings that the
rules state, and the quotient whose rounding no rule states.
-/
namespace Sys2Proof.Machine

/-- Cut to an interval. -/
def clampI (lo hi x : Int) : Int := if x < lo then lo else if hi < x then hi else x

/-- Saturate to `w`-bit two's complement. -/
def satI (w : Nat) (x : Int) : Int := clampI (-(2 ^ (w - 1) : Int)) (2 ^ (w - 1) - 1) x

/-- Saturate to Q15. -/
def sat16 (x : Int) : Int := satI 16 x

/-- A quotient that the spec states without its rounding: exact where it divides, else one of its two neighbours,
by a free choice (log entry 7). A dividend other than 0 over 0, where a base value has not been loaded, has no stated quotient: it is free. -/
def quot (n d : Int) : Int :=
  if n % d = 0 then n / d
  else if d = 0 then toSigned 32 (Config.free 7 [n])
  else n / d + (if Config.roundUp n d then 1 else 0)

/-- The same for natural numbers. -/
def quotN (n d : Nat) : Nat := (quot n d).toNat

/-- The same where the divisor may be 0 and the spec states no result for that: a free value then. `tag` names the rule. -/
def quotF (tag : Nat) (n d : Int) : Int := if d = 0 then toSigned 32 (Config.free tag [n]) else quot n d

/-- A product of two Q15 numbers with a rounding that the spec does not state. -/
def mulQ15 (a b : Int) : Int := quot (a * b) 32768

/-- Round half up to the nearest after dropping `k` bits. -/
def roundShift (k : Nat) (x : Int) : Int := (x + 2 ^ k / 2) / 2 ^ k

/-- The difference of two 16-bit angles, wrapped into −0x8000 to 0x7FFF. -/
def wrap16 (x : Int) : Int := toSigned 16 (ofSigned 16 x)

/-- The integer square root, bit by bit from bit `k` down. -/
def isqrtFrom : Nat → Nat → Nat → Nat
  | 0, _, r => r
  | k + 1, n, r => isqrtFrom k n (if (r + 2 ^ k) * (r + 2 ^ k) ≤ n then r + 2 ^ k else r)

/-- The greatest number whose square is at most `n`, for `n` below 2^96. -/
def isqrt (n : Nat) : Nat := isqrtFrom 48 n 0

/-- 1 + 2 + … + n. -/
def tri (n : Nat) : Nat := n * (n + 1) / 2

/-- The weight of the `k`-th newest bit in a sinc2 filter of decimation `osr`: `osr` bits summed twice over (R42). -/
def sinc2Weight (osr k : Nat) : Nat := k + 1 - 2 * (k + 1 - osr)

/-- The same of a sinc3 filter: `osr` bits summed three times over. -/
def sinc3Weight (osr k : Nat) : Nat := tri (k + 1) + 3 * tri (k + 1 - 2 * osr) - 3 * tri (k + 1 - osr)

/-- The weighted count of ones among the `n` newest bits of a stream, bit 0 the newest. -/
def sincRaw (weight : Nat → Nat) (n hist : Nat) : Nat :=
  ((List.range n).map fun k => if bit hist k then weight k else 0).sum

/-- The square root of `n / d` with a rounding that the spec does not state: exact where it is whole. -/
def sqrtQ (n d : Nat) : Nat :=
  let q := isqrt (n / d)
  if q * q * d = n then q else q + (if Config.roundUp n d then 1 else 0)

/-- The terms of e^−x from the `m`-th on, `term` the first of them, all with 64 fraction bits. -/
def expSeries (x : Nat) : Nat → Nat → Nat → Int
  | 0, _, _ => 0
  | n + 1, m, term => (term : Int) - expSeries x n (m + 1) (term * x / 2 ^ 64 / (m + 1))

/-- e^(−n/d) with 64 fraction bits: the whole part of the exponent as so many factors 1/e. Beyond 48 nothing is left of it. -/
def expNeg (n d : Nat) : Nat :=
  if d = 0 || 48 * d ≤ n then 0
  else (List.range (n / d)).foldl (fun a _ => a * (expSeries (2 ^ 64) 24 0 (2 ^ 64)).toNat / 2 ^ 64)
    (expSeries (n % d * 2 ^ 64 / d) 24 0 (2 ^ 64)).toNat

/-! Circle functions. The rules state angles, rotations and speeds with π, sines and cosines and without the arithmetic that forms them;
here they are taken with an error far below half a unit of any result, whose own rounding is then a free choice (log entry 39). -/

/-- π, as the fraction `piN / 10^39`. -/
def piN : Nat := 3141592653589793238462643383279502884197

/-- The denominator of π. -/
def piD : Nat := 10 ^ 39

/-- √3 with 128 fraction bits. -/
def sqrt3F : Nat := 589386348426860482768174911371534154633

/-- The scale of the fixed-point sines and cosines: 128 fraction bits. -/
def unitF : Nat := 2 ^ 128

/-- α and β of a three-phase set, amplitude-invariant: α = (2u − v − w) / 3, β = (v − w) / √3 (R93, R167). -/
def clarke3 (u v w : Int) : Int × Int := (quot (2 * u - v - w) 3, quot ((v - w) * sqrt3F) (3 * unitF))

/-- A component pair of six phases, amplitude-invariant with the factor 1/3 (04, Joined mode), times `6 * unitF`: α and β with `k` 1, at
the phase angles 0°, 120°, 240° and 30°, 150°, 270°; x and y with `k` −1, at five times those angles. -/
def vsdF (k u1 v1 w1 u2 v2 w2 : Int) : Int × Int :=
  ((2 * u1 - v1 - w1) * unitF + k * (u2 - v2) * sqrt3F, k * (v1 - w1) * sqrt3F + (u2 + v2 - 2 * w2) * unitF)

/-- α and β of three or of six phases. -/
def clarke : List Int → Int × Int
  | [u, v, w] => clarke3 u v w
  | [u1, v1, w1, u2, v2, w2] =>
    let (a, b) := vsdF 1 u1 v1 w1 u2 v2 w2
    (quot a (6 * unitF), quot b (6 * unitF))
  | _ => (0, 0)

/-- x and y of six phases. -/
def vsdXy : List Int → Int × Int
  | [u1, v1, w1, u2, v2, w2] =>
    let (x, y) := vsdF (-1) u1 v1 w1 u2 v2 w2
    (quot x (6 * unitF), quot y (6 * unitF))
  | _ => (0, 0)

/-- The terms of the sine or cosine series from `term` on, `x2` being x², alternating and each from the one before; `m` numbers it. -/
def circleSeries (x2 : Nat) : Nat → Nat → Nat → Int
  | 0, _, _ => 0
  | n + 1, m, term => (term : Int) - circleSeries x2 n (m + 2) (term * x2 / unitF / ((m + 1) * (m + 2)))

/-- The sine of an angle of at most a quarter turn, `a / 65536` of a turn, scaled by `unitF`. -/
def sinQuarter (a : Nat) : Int :=
  let x := 2 * piN * unitF * a / (piD * 65536)
  if a = 16384 then unitF else circleSeries (x * x / unitF) 24 1 x

/-- The sine of a 16-bit angle, scaled by `unitF`. -/
def sinF (a : Nat) : Int :=
  let b := a % 65536
  if b ≤ 16384 then sinQuarter b
  else if b ≤ 32768 then sinQuarter (32768 - b)
  else if b ≤ 49152 then -sinQuarter (b - 32768)
  else -sinQuarter (65536 - b)

/-- The cosine of a 16-bit angle, scaled by `unitF`. -/
def cosF (a : Nat) : Int := sinF (a + 16384)

/-- The components of (x, y) along an axis at the angle `a` and a quarter turn ahead of it. -/
def rotF (x y : Int) (a : Nat) : Int × Int :=
  (quot (x * cosF a + y * sinF a) unitF, quot (y * cosF a - x * sinF a) unitF)

/-- The instantaneous value of an α–β vector in the phase at an angle of `a / 65536` of a turn (R115). -/
def phaseOf (x y : Int) (a : Nat) : Int := (rotF x y a).1

/-- The vector whose components along and across the angle `a` are (d, q). -/
def unrotF (d q : Int) (a : Nat) : Int × Int :=
  (quot (d * cosF a - q * sinF a) unitF, quot (d * sinF a + q * cosF a) unitF)

/-- The next bits of the angle of (x, y), a vector of the first quadrant: the angle doubled passes a quarter turn or does not. -/
def angleBits : Nat → Nat → Nat → Nat → Nat
  | 0, _, _, acc => acc
  | n + 1, x, y, acc =>
    let u : Int := (x : Int) * x - (y : Int) * y
    let v := 2 * x * y
    let k := 2 ^ (Nat.log2 (u.natAbs + v) - 160)
    if u ≤ 0 then angleBits n (v / k) (u.natAbs / k) (2 * acc + 1) else angleBits n (u.natAbs / k) (v / k) (2 * acc)

/-- The angle of (x, y) as 1/65536 of a turn; of the null vector, which has none, a free value. -/
def angleOf (x y : Int) : Nat :=
  if x = 0 ∧ y = 0 then Config.free 93 [] % 65536
  else
    let (q, u, v) : Nat × Nat × Nat :=
      if 0 < x ∧ 0 ≤ y then (0, x.natAbs, y.natAbs) else if x ≤ 0 ∧ 0 < y then (1, y.natAbs, x.natAbs)
      else if x < 0 ∧ y ≤ 0 then (2, x.natAbs, y.natAbs) else (3, y.natAbs, x.natAbs)
    let a := angleBits 14 (u * 2 ^ 128) (v * 2 ^ 128) q
    if v = 0 ∨ u = v then a else (a + ofBool (Config.roundUp (u : Int) v)) % 65536

/-- The power domain of a PWM unit (R411). -/
def puDomain (pu : Nat) : Nat := if pu < 2 then 3 + pu else 5

/-- The power domain of an engine, 0 to 3 CE, 4 and 5 OB, 6 AX (R411). -/
def engDomain (e : Nat) : Nat := if e < 4 then 3 + e / 2 else if e < 6 then e - 1 else 5

end Sys2Proof.Machine
end

