-- ==== Sys2Proof/Machine/Row.lean ====
section
/-!
DEFINITION. Named state: what a register field is, where it lies and what it resets to, and the sparse
store that holds the values of all of them in one canonical form.
-/
namespace Sys2Proof.Machine

/-- The access codes of the register tables (R3), and `hid` for state no register shows. -/
inductive Access where
  | rw | ro | w1c | w1s | wo | rwl | rws | hid
deriving DecidableEq, Repr

/-- The Cleared-by column (R6): the narrowest reset level that clears the field; all but `coldOnly` and
`never` are also cleared by WAKE. -/
inductive Clear where
  | blk | ctl | cold | coldOnly | never
deriving DecidableEq, Repr

/-- One named field of the block. `base` is the BAR0 address of element 0 of instance 0 (`s1` bytes between
instances, `s2` between elements), `lo` its lowest bit. -/
structure Row where
  /-- BAR0 address of the field's word, instance 0, element 0. -/
  base : Nat
  /-- Bytes from an instance to the next. -/
  s1 : Nat := 0
  /-- How many instances there are. -/
  c1 : Nat := 1
  /-- Bytes from an element to the next. -/
  s2 : Nat := 0
  /-- How many elements there are. -/
  c2 : Nat := 1
  /-- The rows of the engine cores: the instance selects one of the seven cores' bases. -/
  eng : Bool := false
  /-- The field's lowest bit. -/
  lo : Nat
  /-- The field's width in bits. -/
  width : Nat
  /-- The reset value. -/
  reset : Nat := 0
  /-- Instances whose reset value differs. -/
  exc : List (Nat × Nat) := []
  /-- The access code. -/
  acc : Access
  /-- The Cleared-by column. -/
  clr : Clear
  /-- The range a write must lie in, where the spec states one and refuses what lies outside. -/
  range : Option (Nat × Nat) := none
  /-- The range has 0 beside it. -/
  zeroToo : Bool := false
deriving DecidableEq, Repr

/-- Where an engine core's registers lie: CE0 to CE3 in blocks of their own, OB0, OB1 and AX at offset 0x0800
of their own blocks (07, CE registers). -/
def engBase (e : Nat) : Nat :=
  if e < 4 then 0x01150000 + 0x4000 * e
  else if e = 4 then 0x01130800 else if e = 5 then 0x01140800 else 0x01180800

/-- The BAR0 address of a row's instance `i`, element `j`. -/
def Row.addr (r : Row) (i j : Nat) : Nat :=
  r.base + (if r.eng then engBase i else r.s1 * i) + r.s2 * j

/-- The place of a field in the store: its word's address and its lowest bit. -/
def Row.key (r : Row) (i j : Nat) : Nat := r.addr i j * 32 + r.lo

/-- The reset value of instance `i`. -/
def Row.resetAt (r : Row) (i : Nat) : Nat := (r.exc.lookup i).getD r.reset

/-- A sparse store: keys strictly rising. -/
abbrev Cells := List (Nat × Nat)

/-- The value listed at a key. -/
def Cells.find : Cells → Nat → Option Nat
  | [], _ => none
  | (k, v) :: c, a => if k = a then some v else Cells.find c a

/-- The store with `v` at key `a`. -/
def Cells.put : Cells → Nat → Nat → Cells
  | [], a, v => [(a, v)]
  | (k, w) :: c, a, v =>
    if a < k then (a, v) :: (k, w) :: c
    else if a = k then (a, v) :: c
    else (k, w) :: Cells.put c a v

/-- The store with nothing listed at key `a`. -/
def Cells.drop : Cells → Nat → Cells
  | [], _ => []
  | (k, w) :: c, a => if k = a then Cells.drop c a else (k, w) :: Cells.drop c a

/-- The canonical form: every listed key is greater than the ones before it. -/
def Cells.Rising : Cells → Prop
  | [] => True
  | (k, _) :: c => (∀ p ∈ c, k < p.1) ∧ Cells.Rising c

end Sys2Proof.Machine
end

