-- ==== Sys2Proof/Machine/RegsBelay.lean ====
section
/-!
DEFINITION. The state of the Belay window BL (2, 12, 13, 14), as named rows.
Each row states one field of the register tables of spec/: place, width, access code (R3), reset value,
Cleared-by level (R6) and, where the spec states one, the range a write must lie in.
Rows of access hid are state that the spec gives the machine outside its registers; the spec gives no reset
value for them (DESIGN CHOICE, log entry 3).
-/
namespace Sys2Proof.Machine

/-- IHA_CFG [31:16] IHA_GAIN (02): Sensor gain in units of 1/32 A/V. A value of 0 marks the channel unconfigured, and ENABLE of its axis is refused -/
def BL.IHA_CFG.IHA_GAIN : Row :=
  { base := 0x1300400, s1 := 0x8, c1 := 6, lo := 16, width := 16, acc := .rws, clr := .never }
/-- IHA_CFG [15:0] IHA_OFS (02): Signed offset in ADC codes -/
def BL.IHA_CFG.IHA_OFS : Row :=
  { base := 0x1300400, s1 := 0x8, c1 := 6, lo := 0, width := 16, acc := .rws, clr := .never }
/-- STATUS [31:31] CFG_VALID (12): Safety configuration loaded with good checks -/
def BL.STATUS.CFG_VALID : Row :=
  { base := 0x1300000, lo := 31, width := 1, acc := .ro, clr := .cold }
/-- STATUS [30:30] SELFTEST_OK (12): Start-up self-test passed -/
def BL.STATUS.SELFTEST_OK : Row :=
  { base := 0x1300000, lo := 30, width := 1, acc := .ro, clr := .cold }
/-- STATUS [29:29] CI_LOST (12): Heartbeat lost (R302) -/
def BL.STATUS.CI_LOST : Row :=
  { base := 0x1300000, lo := 29, width := 1, acc := .ro, clr := .cold }
/-- STATUS [28:28] HVIL_OPEN (12): HVIL fault qualified (R300) -/
def BL.STATUS.HVIL_OPEN : Row :=
  { base := 0x1300000, lo := 28, width := 1, acc := .ro, clr := .cold }
/-- STATUS [27:27] XTRIP_ACT (12): XTRIP asserted after the filter -/
def BL.STATUS.XTRIP_ACT : Row :=
  { base := 0x1300000, lo := 27, width := 1, reset := 1, acc := .ro, clr := .cold }
/-- STATUS [26:25] TM_LOST (12): Monitor lost, TM1 and TM0 (R291) -/
def BL.STATUS.TM_LOST : Row :=
  { base := 0x1300000, lo := 25, width := 2, acc := .ro, clr := .cold }
/-- STATUS [24:24] HOLD_REQ (12): HOLD issued -/
def BL.STATUS.HOLD_REQ : Row :=
  { base := 0x1300000, lo := 24, width := 1, acc := .ro, clr := .cold }
/-- STATUS [23:23] HOLD_PEND (12): HOLD waiting for speed (R286) -/
def BL.STATUS.HOLD_PEND : Row :=
  { base := 0x1300000, lo := 23, width := 1, acc := .ro, clr := .cold }
/-- STATUS [22:22] SSOUT (12): SSOUT driven -/
def BL.STATUS.SSOUT : Row :=
  { base := 0x1300000, lo := 22, width := 1, acc := .ro, clr := .cold }
/-- STATUS [21:21] SSOUT_FAULT (12): Readback mismatch (R301) -/
def BL.STATUS.SSOUT_FAULT : Row :=
  { base := 0x1300000, lo := 21, width := 1, acc := .ro, clr := .cold }
/-- STATUS [20:20] JOINED (12): Joined machine accepted -/
def BL.STATUS.JOINED : Row :=
  { base := 0x1300000, lo := 20, width := 1, acc := .ro, clr := .cold }
/-- AXIS [31:29] LINE (12): 0 RUN, 1 OPEN, 2 SHORT-LO, 3 SHORT-HI -/
def BL.AXIS.LINE : Row :=
  { base := 0x1300004, s1 := 0x4, c1 := 2, lo := 29, width := 3, reset := 1, acc := .ro, clr := .cold }
/-- AXIS [28:28] SAFE (12): Safe state held by a cause -/
def BL.AXIS.SAFE : Row :=
  { base := 0x1300004, s1 := 0x4, c1 := 2, lo := 28, width := 1, acc := .ro, clr := .cold }
/-- AXIS [27:27] SEL_SHORT (12): Selection is SHORT (R279) -/
def BL.AXIS.SEL_SHORT : Row :=
  { base := 0x1300004, s1 := 0x4, c1 := 2, lo := 27, width := 1, acc := .ro, clr := .cold }
/-- AXIS [26:26] BIV (12): Bivouac mode; survives STANDBY, cleared with PD1 -/
def BL.AXIS.BIV : Row :=
  { base := 0x1300004, s1 := 0x4, c1 := 2, lo := 26, width := 1, acc := .ro, clr := .coldOnly }
/-- AXIS [25:25] BIV_EXPIRED (12): Bivouac time expired -/
def BL.AXIS.BIV_EXPIRED : Row :=
  { base := 0x1300004, s1 := 0x4, c1 := 2, lo := 25, width := 1, acc := .ro, clr := .coldOnly }
/-- AXIS [24:24] SGL (12): One valid position source (R298) -/
def BL.AXIS.SGL : Row :=
  { base := 0x1300004, s1 := 0x4, c1 := 2, lo := 24, width := 1, acc := .ro, clr := .cold }
/-- AXIS [23:23] LAPSED (12): Setpoint stream lapsed -/
def BL.AXIS.LAPSED : Row :=
  { base := 0x1300004, s1 := 0x4, c1 := 2, lo := 23, width := 1, acc := .ro, clr := .cold }
/-- AXIS [22:22] ALIGN_OK (12): Own index alignment verified (R288) -/
def BL.AXIS.ALIGN_OK : Row :=
  { base := 0x1300004, s1 := 0x4, c1 := 2, lo := 22, width := 1, acc := .ro, clr := .cold }
/-- AXIS [21:18] POLICY (12): Policy in force -/
def BL.AXIS.POLICY : Row :=
  { base := 0x1300004, s1 := 0x4, c1 := 2, lo := 18, width := 4, acc := .ro, clr := .cold }
/-- AXIS [17:0] BIV_LEFT (12): Remaining bivouac time, 10 ms -/
def BL.AXIS.BIV_LEFT : Row :=
  { base := 0x1300004, s1 := 0x4, c1 := 2, lo := 0, width := 18, acc := .ro, clr := .coldOnly }
/-- CAUSE [31:16] BIV_CAUSE (12): SGL, TM_KAT, IHA_CH, XCHK_IHA, XCHK_ISD, ISD_SUBST, INC2, INC, SLS, ABS2, ABS, from bit 26 down to bit 16 -/
def BL.CAUSE.BIV_CAUSE : Row :=
  { base := 0x130000C, s1 := 0x4, c1 := 2, lo := 16, width := 16, acc := .ro, clr := .coldOnly }
/-- CAUSE [15:0] SS_CAUSE (12): DIE_OT, DISCHARGE, CI_LOST, HVIL, XTRIP, LAPSE, BIV_EXP, BIV_SECOND, INC_LOST, IHA_SUM, XCHK_UNATTR, TM_XCHK, TM_ALIGN, TM_ERR, RP_FAULT, PU_TRIP, from bit 15 down to bit 0; also cleared at an accepted ENABLE (R285); DISCHARGE also clears at DIS_DONE or DIS_CANCEL (R339) -/
def BL.CAUSE.SS_CAUSE : Row :=
  { base := 0x130000C, s1 := 0x4, c1 := 2, lo := 0, width := 16, acc := .ro, clr := .cold }
/-- HB [31:16] HB_SEQ (12): Last heartbeat sequence number -/
def BL.HB.HB_SEQ : Row :=
  { base := 0x1300014, lo := 16, width := 16, acc := .ro, clr := .cold }
/-- HB [15:8] HB_MISS (12): Missed periods, saturating -/
def BL.HB.HB_MISS : Row :=
  { base := 0x1300014, lo := 8, width := 8, acc := .ro, clr := .cold }
/-- HB [3:0] HB_N (12): Periods, 1–15 -/
def BL.HB.HB_N : Row :=
  { base := 0x1300014, lo := 0, width := 4, reset := 3, acc := .rws, clr := .never, range := some (1, 15) }
/-- SPD [31:16] SPD_A (12): ω_BL, Q15 of ω_base; 0x8000 unknown -/
def BL.SPD.SPD_A : Row :=
  { base := 0x1300018, lo := 16, width := 16, acc := .ro, clr := .cold }
/-- SPD [15:0] SPD_B (12): ω_BL, Q15 of ω_base; 0x8000 unknown -/
def BL.SPD.SPD_B : Row :=
  { base := 0x1300018, lo := 0, width := 16, acc := .ro, clr := .cold }
/-- VDC_ACC [31:16] V_BL (12): Q15 of V_base -/
def BL.VDC_ACC.V_BL : Row :=
  { base := 0x130001C, lo := 16, width := 16, acc := .ro, clr := .cold }
/-- VDC_ACC [15:0] AGE (12): µs since the last accepted sample, saturating -/
def BL.VDC_ACC.AGE : Row :=
  { base := 0x130001C, lo := 0, width := 16, reset := 0xffff, acc := .ro, clr := .cold }
/-- MBX_CMD [31:31] GO (12): Starts OP; reads 1 until done -/
def BL.MBX_CMD.GO : Row :=
  { base := 0x1300020, lo := 31, width := 1, acc := .w1s, clr := .cold }
/-- MBX_CMD [11:8] CNT (12): PWD_LOAD: bytes taken from ARG0 and ARG1, 1–8; 0 means 8 (R322); ignored by other operations -/
def BL.MBX_CMD.CNT : Row :=
  { base := 0x1300020, lo := 8, width := 4, acc := .rw, clr := .cold, range := some (0, 8) }
/-- MBX_CMD [7:0] OP (12): Operation (R305) -/
def BL.MBX_CMD.OP : Row :=
  { base := 0x1300020, lo := 0, width := 8, acc := .rw, clr := .cold }
/-- MBX_ARG [31:0] ARG (12): Arguments -/
def BL.MBX_ARG.ARG : Row :=
  { base := 0x1300024, s1 := 0x4, c1 := 2, lo := 0, width := 32, acc := .rw, clr := .cold }
/-- MBX_STAT [31:31] BUSY (12): Command running -/
def BL.MBX_STAT.BUSY : Row :=
  { base := 0x130002C, lo := 31, width := 1, acc := .ro, clr := .cold }
/-- MBX_STAT [8:8] COLL (12): GO written while busy -/
def BL.MBX_STAT.COLL : Row :=
  { base := 0x130002C, lo := 8, width := 1, acc := .w1c, clr := .cold }
/-- MBX_STAT [7:0] RESULT (12): 0 OK, 1 BAD_OP, 2 RANGE, 3 REFUSED -/
def BL.MBX_STAT.RESULT : Row :=
  { base := 0x130002C, lo := 0, width := 8, acc := .ro, clr := .cold }
/-- MBX_RSP [31:0] RSP (12): Response -/
def BL.MBX_RSP.RSP : Row :=
  { base := 0x1300030, lo := 0, width := 32, acc := .ro, clr := .cold }
/-- POL_LO [31:16] SC_ON (12): Fraction of V_BL, Q15, 0x4000–0x7333 -/
def BL.POL_LO.SC_ON : Row :=
  { base := 0x1300100, s1 := 0x8, c1 := 16, lo := 16, width := 16, reset := 0x6666, acc := .rws, clr := .never, range := some (16384, 29491) }
/-- POL_LO [15:0] SC_OFF (12): Fraction of V_BL, Q15, 0x4000 up to SC_ON − 1 -/
def BL.POL_LO.SC_OFF : Row :=
  { base := 0x1300100, s1 := 0x8, c1 := 16, lo := 0, width := 16, reset := 0x6000, acc := .rws, clr := .never }
/-- POL_HI [31:30] SHORT_SIDE (12): 0 LO, 1 HI, 2 AUTO (R282); 3 refused -/
def BL.POL_HI.SHORT_SIDE : Row :=
  { base := 0x1300104, s1 := 0x8, c1 := 16, lo := 30, width := 2, acc := .rws, clr := .never, range := some (0, 2) }
/-- POL_HI [29:29] UNK_SHORT (12): Speed unknown selects SHORT (R280) -/
def BL.POL_HI.UNK_SHORT : Row :=
  { base := 0x1300104, s1 := 0x8, c1 := 16, lo := 29, width := 1, reset := 1, acc := .rws, clr := .never }
/-- POL_HI [28:28] HOLD_ON_SAFE (12): HOLD at safe state (R286) -/
def BL.POL_HI.HOLD_ON_SAFE : Row :=
  { base := 0x1300104, s1 := 0x8, c1 := 16, lo := 28, width := 1, acc := .rws, clr := .never }
/-- POL_HI [27:27] LAPSE_ACT (12): 0 ramp and hold, 1 safe state (R294) -/
def BL.POL_HI.LAPSE_ACT : Row :=
  { base := 0x1300104, s1 := 0x8, c1 := 16, lo := 27, width := 1, acc := .rws, clr := .never }
/-- POL_HI [25:16] LAPSE_RAMP (12): ms, 1–1000 -/
def BL.POL_HI.LAPSE_RAMP : Row :=
  { base := 0x1300104, s1 := 0x8, c1 := 16, lo := 16, width := 10, reset := 0x64, acc := .rws, clr := .never, range := some (1, 1000) }
/-- POL_HI [15:0] LAPSE_HOLD (12): ms, 10–60 000 -/
def BL.POL_HI.LAPSE_HOLD : Row :=
  { base := 0x1300104, s1 := 0x8, c1 := 16, lo := 0, width := 16, reset := 0x3e8, acc := .rws, clr := .never, range := some (10, 60000) }
/-- TM_WIN [31:16] TM_PCT (12): Q15 of T_RATED, 0x0100–0x4000 -/
def BL.TM_WIN.TM_PCT : Row :=
  { base := 0x1300200, lo := 16, width := 16, reset := 0xccd, acc := .rws, clr := .never, range := some (256, 16384) }
/-- TM_WIN [15:5] TM_ABS (12): 0.1 N·m, 10–2047 -/
def BL.TM_WIN.TM_ABS : Row :=
  { base := 0x1300200, lo := 5, width := 11, reset := 0x15e, acc := .rws, clr := .never, range := some (10, 2047) }
/-- TM_WIN [4:0] TM_TIME (12): ms, 1–20 -/
def BL.TM_WIN.TM_TIME : Row :=
  { base := 0x1300200, lo := 0, width := 5, reset := 2, acc := .rws, clr := .never, range := some (1, 20) }
/-- TM_XCFG [31:16] XTOL (12): Q15 of T_RATED -/
def BL.TM_XCFG.XTOL : Row :=
  { base := 0x1300204, lo := 16, width := 16, reset := 0x666, acc := .rws, clr := .never }
/-- TM_XCFG [4:0] XTIME (12): ms, 1–20 -/
def BL.TM_XCFG.XTIME : Row :=
  { base := 0x1300204, lo := 0, width := 5, reset := 1, acc := .rws, clr := .never, range := some (1, 20) }
/-- TM_PSI [31:16] PSI_PM (12): 10 µWb; 0 refuses ENABLE of the axis -/
def BL.TM_PSI.PSI_PM : Row :=
  { base := 0x1300210, s1 := 0x10, c1 := 2, lo := 16, width := 16, acc := .rws, clr := .never }
/-- TM_PSI [15:0] LQ_SAT (12): L_q drop at I_base, Q15 -/
def BL.TM_PSI.LQ_SAT : Row :=
  { base := 0x1300210, s1 := 0x10, c1 := 2, lo := 0, width := 16, acc := .rws, clr := .never }
/-- TM_L [31:16] LD (12): 10 nH -/
def BL.TM_L.LD : Row :=
  { base := 0x1300214, s1 := 0x10, c1 := 2, lo := 16, width := 16, acc := .rws, clr := .never }
/-- TM_L [15:0] LQ (12): 10 nH -/
def BL.TM_L.LQ : Row :=
  { base := 0x1300214, s1 := 0x10, c1 := 2, lo := 0, width := 16, acc := .rws, clr := .never }
/-- TM_ALIGN [31:16] ZOFS_BL (12): Electrical angle at the index, Q16 -/
def BL.TM_ALIGN.ZOFS_BL : Row :=
  { base := 0x1300218, s1 := 0x10, c1 := 2, lo := 16, width := 16, acc := .rws, clr := .never }
/-- TM_ALIGN [7:0] ALIGN_TOL (12): Degrees electrical, 1–90 -/
def BL.TM_ALIGN.ALIGN_TOL : Row :=
  { base := 0x1300218, s1 := 0x10, c1 := 2, lo := 0, width := 8, reset := 0xf, acc := .rws, clr := .never, range := some (1, 90) }
/-- TM_CPR [23:0] CPR_BL (12): Counts per turn, 16–16 777 215 -/
def BL.TM_CPR.CPR_BL : Row :=
  { base := 0x130021C, s1 := 0x10, c1 := 2, lo := 0, width := 24, reset := 0x1000, acc := .rws, clr := .never, range := some (16, 16777215) }
/-- BIV_CFG [31:16] BIV_TLIM (12): Q15 of T_RATED -/
def BL.BIV_CFG.BIV_TLIM : Row :=
  { base := 0x1300300, lo := 16, width := 16, reset := 0x3333, acc := .rws, clr := .never }
/-- BIV_CFG [10:0] BIV_TIME (12): s, 10–1800 -/
def BL.BIV_CFG.BIV_TIME : Row :=
  { base := 0x1300300, lo := 0, width := 11, reset := 0x12c, acc := .rws, clr := .never, range := some (10, 1800) }
/-- SGL_CFG [31:16] SGL_TLIM (12): Q15 of T_RATED -/
def BL.SGL_CFG.SGL_TLIM : Row :=
  { base := 0x1300304, lo := 16, width := 16, reset := 0x7fff, acc := .rws, clr := .never }
/-- SGL_CFG [15:0] SGL_TIME (12): ms, 10–60 000 -/
def BL.SGL_CFG.SGL_TIME : Row :=
  { base := 0x1300304, lo := 0, width := 16, reset := 0x7d0, acc := .rws, clr := .never, range := some (10, 60000) }
/-- XT_CFG [15:8] XT_FLT (12): Belay cycles, 1–255 -/
def BL.XT_CFG.XT_FLT : Row :=
  { base := 0x1300308, lo := 8, width := 8, reset := 0xa, acc := .rws, clr := .never, range := some (1, 255) }
/-- XT_CFG [2:2] XT_AUX (12): Also trips PU2–PU4 -/
def BL.XT_CFG.XT_AUX : Row :=
  { base := 0x1300308, lo := 2, width := 1, acc := .rws, clr := .never }
/-- XT_CFG [1:0] XT_ASSERT_AXES (12): Axis B, axis A; 0b00 refused -/
def BL.XT_CFG.XT_ASSERT_AXES : Row :=
  { base := 0x1300308, lo := 0, width := 2, reset := 3, acc := .rws, clr := .never, range := some (1, 3) }
/-- HVIL_CFG [31:31] HVIL_EN (12): Loop driven and checked -/
def BL.HVIL_CFG.HVIL_EN : Row :=
  { base := 0x130030C, lo := 31, width := 1, reset := 1, acc := .rws, clr := .never }
/-- HVIL_CFG [30:30] HVIL_DIS (12): Discharge request on a fault -/
def BL.HVIL_CFG.HVIL_DIS : Row :=
  { base := 0x130030C, lo := 30, width := 1, reset := 1, acc := .rws, clr := .never }
/-- HVIL_CFG [29:29] HVIL_SS (12): Safe state on a fault -/
def BL.HVIL_CFG.HVIL_SS : Row :=
  { base := 0x130030C, lo := 29, width := 1, reset := 1, acc := .rws, clr := .never }
/-- HVIL_CFG [7:0] HVIL_FLT (12): 10 ms, 1–255 -/
def BL.HVIL_CFG.HVIL_FLT : Row :=
  { base := 0x130030C, lo := 0, width := 8, reset := 2, acc := .rws, clr := .never, range := some (1, 255) }
/-- HOLD_CFG [15:0] HOLD_WMAX (12): Q15 of the axis's ω_base -/
def BL.HOLD_CFG.HOLD_WMAX : Row :=
  { base := 0x1300310, lo := 0, width := 16, reset := 0x80, acc := .rws, clr := .never }
/-- IHA_VAL [15:0] I (12): Latest current, 0.1 A, signed -/
def BL.IHA_VAL.I : Row :=
  { base := 0x1300404, s1 := 0x8, c1 := 6, lo := 0, width := 16, acc := .ro, clr := .cold }
/-- XCHK_TOL [31:16] XCHK_ABS (12): 0.1 A, 10–2000 (R54) -/
def BL.XCHK_TOL.XCHK_ABS : Row :=
  { base := 0x1300430, lo := 16, width := 16, reset := 0x12c, acc := .rws, clr := .never, range := some (10, 2000) }
/-- XCHK_TOL [15:0] XCHK_PCT (12): Q15, up to 0x0CCD -/
def BL.XCHK_TOL.XCHK_PCT : Row :=
  { base := 0x1300430, lo := 0, width := 16, reset := 0x3d7, acc := .rws, clr := .never, range := some (0, 3277) }
/-- IHA_STAT [25:24] IHA_SUM (12): Star 2, star 1 -/
def BL.IHA_STAT.IHA_SUM : Row :=
  { base := 0x1300434, lo := 24, width := 2, acc := .ro, clr := .cold }
/-- IHA_STAT [23:18] IHA_SAT (12): Per channel -/
def BL.IHA_STAT.IHA_SAT : Row :=
  { base := 0x1300434, lo := 18, width := 6, acc := .ro, clr := .cold }
/-- IHA_STAT [17:12] IHA_CM (12): Per channel -/
def BL.IHA_STAT.IHA_CM : Row :=
  { base := 0x1300434, lo := 12, width := 6, acc := .ro, clr := .cold }
/-- IHA_STAT [11:6] IHA_ADC (12): Per channel -/
def BL.IHA_STAT.IHA_ADC : Row :=
  { base := 0x1300434, lo := 6, width := 6, acc := .ro, clr := .cold }
/-- IHA_STAT [5:0] CUR_XCHK (12): Per phase; copied to SEN CHn_STAT.XCHK -/
def BL.IHA_STAT.CUR_XCHK : Row :=
  { base := 0x1300434, lo := 0, width := 6, acc := .ro, clr := .cold }
/-- BIND [31:0] BIND (12): CRC-32C of the accepted safety section; 0 refuses (R243) -/
def BL.BIND.BIND : Row :=
  { base := 0x1300500, s1 := 0x4, c1 := 8, lo := 0, width := 32, acc := .rws, clr := .never }
/-- TM_VAL [31:16] T_TM0 (12): Q15 of T_base -/
def BL.TM_VAL.T_TM0 : Row :=
  { base := 0x1300540, lo := 16, width := 16, acc := .ro, clr := .cold }
/-- TM_VAL [15:0] T_TM1 (12): Q15 of T_base -/
def BL.TM_VAL.T_TM1 : Row :=
  { base := 0x1300540, lo := 0, width := 16, acc := .ro, clr := .cold }
/-- TM_ERR [31:16] CNT0 (12): Window counters (R289) -/
def BL.TM_ERR.CNT0 : Row :=
  { base := 0x1300544, lo := 16, width := 16, acc := .ro, clr := .cold }
/-- TM_ERR [15:0] CNT1 (12): Window counters (R289) -/
def BL.TM_ERR.CNT1 : Row :=
  { base := 0x1300544, lo := 0, width := 16, acc := .ro, clr := .cold }
/-- PWD_STAT [31:31] OPEN (13): Session open -/
def BL.PWD_STAT.OPEN : Row :=
  { base := 0x1300600, lo := 31, width := 1, acc := .ro, clr := .cold }
/-- PWD_STAT [30:28] ROLE (13): Role of the open session -/
def BL.PWD_STAT.ROLE : Row :=
  { base := 0x1300600, lo := 28, width := 3, acc := .ro, clr := .cold }
/-- PWD_STAT [23:16] FAILS (13): Consecutive failures (R324) -/
def BL.PWD_STAT.FAILS : Row :=
  { base := 0x1300600, lo := 16, width := 8, acc := .ro, clr := .never }
/-- PWD_STAT [15:0] LOCK_LEFT (13): Remaining lockout, s -/
def BL.PWD_STAT.LOCK_LEFT : Row :=
  { base := 0x1300600, lo := 0, width := 16, acc := .ro, clr := .never }
/-- PWD_CFG [9:0] SES_TMO (13): s, 10–600 -/
def BL.PWD_CFG.SES_TMO : Row :=
  { base := 0x1300604, lo := 0, width := 10, reset := 0x3c, acc := .rws, clr := .never, range := some (10, 600) }
/-- LOG_STAT [31:0] INDEX (13): INDEX of the newest entry -/
def BL.LOG_STAT.INDEX : Row :=
  { base := 0x1300608, lo := 0, width := 32, acc := .ro, clr := .never }
/-- PIT_STAT [31:31] ARMED (13): A piton is armed -/
def BL.PIT_STAT.ARMED : Row :=
  { base := 0x130060C, lo := 31, width := 1, acc := .ro, clr := .cold }
/-- PIT_STAT [15:8] SOURCE (13): Block of the armed piton -/
def BL.PIT_STAT.SOURCE : Row :=
  { base := 0x130060C, lo := 8, width := 8, acc := .ro, clr := .cold }
/-- PIT_STAT [7:0] SEL (13): SEL of the armed piton -/
def BL.PIT_STAT.SEL : Row :=
  { base := 0x130060C, lo := 0, width := 8, acc := .ro, clr := .cold }
/-- RS_CFG [31:31] EN (13): Slot enabled -/
def BL.RS_CFG.EN : Row :=
  { base := 0x1300700, s1 := 0x10, c1 := 16, lo := 31, width := 1, acc := .rws, clr := .never }
/-- RS_CFG [30:28] CHAN (13): 0 PCIe, 1 CAN, 2 Ethernet; 3–7 refused -/
def BL.RS_CFG.CHAN : Row :=
  { base := 0x1300700, s1 := 0x10, c1 := 16, lo := 28, width := 3, acc := .rws, clr := .never, range := some (0, 2) }
/-- RS_CFG [27:24] INST (13): Controller 0–3 (CAN), port 0–1 (Ethernet), 0 (PCIe); other values refused for an enabled slot (R308) -/
def BL.RS_CFG.INST : Row :=
  { base := 0x1300700, s1 := 0x10, c1 := 16, lo := 24, width := 4, acc := .rws, clr := .never }
/-- RS_CFG [23:16] SRC (13): 0x01–0xFE -/
def BL.RS_CFG.SRC : Row :=
  { base := 0x1300700, s1 := 0x10, c1 := 16, lo := 16, width := 8, reset := 1, acc := .rws, clr := .never, range := some (1, 254) }
/-- RS_CFG [15:8] DST (13): R308; 0x00 and 0x09–0xFF refused for an enabled slot; 0x08 refused with CHAN 0 -/
def BL.RS_CFG.DST : Row :=
  { base := 0x1300700, s1 := 0x10, c1 := 16, lo := 8, width := 8, acc := .rws, clr := .never }
/-- RS_CFG [7:0] WIN (13): ms, 1–100 -/
def BL.RS_CFG.WIN : Row :=
  { base := 0x1300700, s1 := 0x10, c1 := 16, lo := 0, width := 8, reset := 0xa, acc := .rws, clr := .never, range := some (1, 100) }
/-- RS_CFG2 [31:29] SEQ_GAP (13): 1–7 -/
def BL.RS_CFG2.SEQ_GAP : Row :=
  { base := 0x1300704, s1 := 0x10, c1 := 16, lo := 29, width := 3, reset := 3, acc := .rws, clr := .never, range := some (1, 7) }
/-- RS_CFG2 [28:0] RX_ID (13): CAN identifier; [15:0] EtherType for Ethernet, default 0x88B5 -/
def BL.RS_CFG2.RX_ID : Row :=
  { base := 0x1300704, s1 := 0x10, c1 := 16, lo := 0, width := 29, acc := .rws, clr := .never }
/-- RS_STAT [31:30] STATE (13): 0 CLOSED, 1 OPEN -/
def BL.RS_STAT.STATE : Row :=
  { base := 0x1300708, s1 := 0x10, c1 := 16, lo := 30, width := 2, acc := .ro, clr := .cold }
/-- RS_STAT [29:26] REASON (13): Reason of the last refusal (R312) -/
def BL.RS_STAT.REASON : Row :=
  { base := 0x1300708, s1 := 0x10, c1 := 16, lo := 26, width := 4, acc := .ro, clr := .cold }
/-- RS_STAT [23:16] REFUSE_RUN (13): Consecutive refusals -/
def BL.RS_STAT.REFUSE_RUN : Row :=
  { base := 0x1300708, s1 := 0x10, c1 := 16, lo := 16, width := 8, acc := .ro, clr := .cold }
/-- RS_STAT [15:0] LAST (13): Last accepted SEQ -/
def BL.RS_STAT.LAST : Row :=
  { base := 0x1300708, s1 := 0x10, c1 := 16, lo := 0, width := 16, acc := .ro, clr := .cold }
/-- RS_SEED [31:0] SEED (13): Seed of the open session -/
def BL.RS_SEED.SEED : Row :=
  { base := 0x130070C, s1 := 0x10, c1 := 16, lo := 0, width := 32, acc := .ro, clr := .cold }
/-- RS_CNT [31:16] LOST (13): Messages of slot s missed by gaps, saturating -/
def BL.RS_CNT.LOST : Row :=
  { base := 0x1300A00, s1 := 0x4, c1 := 16, lo := 16, width := 16, acc := .ro, clr := .cold }
/-- RS_CNT [15:8] REFUSED (13): Refusals on slot s, saturating -/
def BL.RS_CNT.REFUSED : Row :=
  { base := 0x1300A00, s1 := 0x4, c1 := 16, lo := 8, width := 8, acc := .ro, clr := .cold }
/-- RS_CNT [7:0] TX_DROP (13): Responses of slot s not sent (R316), saturating -/
def BL.RS_CNT.TX_DROP : Row :=
  { base := 0x1300A00, s1 := 0x4, c1 := 16, lo := 0, width := 8, acc := .ro, clr := .cold }
/-- SH_STAT [31:28] KIND_B (13): SHB fault kind (R320); held until a Belay reset -/
def BL.SH_STAT.KIND_B : Row :=
  { base := 0x1300800, lo := 28, width := 4, acc := .ro, clr := .coldOnly }
/-- SH_STAT [27:24] KIND_A (13): SHA fault kind -/
def BL.SH_STAT.KIND_A : Row :=
  { base := 0x1300800, lo := 24, width := 4, acc := .ro, clr := .coldOnly }
/-- SH_STAT [23:16] SKIP (13): Skipped tests, saturating -/
def BL.SH_STAT.SKIP : Row :=
  { base := 0x1300800, lo := 16, width := 8, acc := .ro, clr := .cold }
/-- SH_STAT [5:4] NO_SUPPLY (13): SHB, SHA without VAUX -/
def BL.SH_STAT.NO_SUPPLY : Row :=
  { base := 0x1300800, lo := 4, width := 2, acc := .ro, clr := .cold }
/-- SH_STAT [3:2] FAULT (13): SHB, SHA faulted (R321) -/
def BL.SH_STAT.FAULT : Row :=
  { base := 0x1300800, lo := 2, width := 2, acc := .ro, clr := .coldOnly }
/-- SH_STAT [1:0] ON (13): SHB, SHA energized -/
def BL.SH_STAT.ON : Row :=
  { base := 0x1300800, lo := 0, width := 2, acc := .ro, clr := .cold }
/-- SH_VAL [31:22] V_H (13): SHx_H, 60 mV per code -/
def BL.SH_VAL.V_H : Row :=
  { base := 0x1300804, s1 := 0x4, c1 := 2, lo := 22, width := 10, acc := .ro, clr := .cold }
/-- SH_VAL [21:12] V_L (13): SHx_L, 60 mV per code -/
def BL.SH_VAL.V_L : Row :=
  { base := 0x1300804, s1 := 0x4, c1 := 2, lo := 12, width := 10, acc := .ro, clr := .cold }
/-- SH_VAL [11:0] I_C (13): Coil current, 2 mA per code, signed, ±4.094 A -/
def BL.SH_VAL.I_C : Row :=
  { base := 0x1300804, s1 := 0x4, c1 := 2, lo := 0, width := 12, acc := .ro, clr := .cold }
/-- DIS_STAT [31:29] STATE (14): 0 idle, 1 steps, 2 waiting, 3 windings, 4 ended -/
def BL.DIS_STAT.STATE : Row :=
  { base := 0x1300900, lo := 29, width := 3, acc := .ro, clr := .cold }
/-- DIS_STAT [28:26] END (14): 0 none, 1 done, 2 source, 3 switch, 4 DLI, 5 cancelled, 6 no CH5 section -/
def BL.DIS_STAT.END : Row :=
  { base := 0x1300900, lo := 26, width := 3, acc := .ro, clr := .cold }
/-- DIS_STAT [25:25] MISS (14): T_DEADLINE passed -/
def BL.DIS_STAT.MISS : Row :=
  { base := 0x1300900, lo := 25, width := 1, acc := .ro, clr := .cold }
/-- DIS_STAT [15:0] STEPS (14): Steps issued, saturating -/
def BL.DIS_STAT.STEPS : Row :=
  { base := 0x1300900, lo := 0, width := 16, acc := .ro, clr := .cold }
/-- DIS_TIME [31:16] T_SAFE (14): ms to compliance; 0xFFFF not reached -/
def BL.DIS_TIME.T_SAFE : Row :=
  { base := 0x1300904, lo := 16, width := 16, reset := 0xffff, acc := .ro, clr := .cold }
/-- DIS_TIME [15:0] T_RUN (14): ms since the request, saturating -/
def BL.DIS_TIME.T_RUN : Row :=
  { base := 0x1300904, lo := 0, width := 16, acc := .ro, clr := .cold }
/-- LED_LINK [31:16] E_LINK (14): 0.01 J, saturating -/
def BL.LED_LINK.E_LINK : Row :=
  { base := 0x1300908, lo := 16, width := 16, acc := .ro, clr := .cold }
/-- LED_RES [31:16] T_R (14): 0.1 °C -/
def BL.LED_RES.T_R : Row :=
  { base := 0x130090C, lo := 16, width := 16, reset := 0x4e2, acc := .ro, clr := .cold }
/-- LED_RES [15:0] E_RES (14): 0.1 J, last abseil -/
def BL.LED_RES.E_RES : Row :=
  { base := 0x130090C, lo := 0, width := 16, acc := .ro, clr := .cold }
/-- LED_WIND [15:0] E_WIND (14): 0.1 J, last abseil -/
def BL.LED_WIND.E_WIND : Row :=
  { base := 0x1300910, s1 := 0x4, c1 := 2, lo := 0, width := 16, acc := .ro, clr := .cold }
/-- LED_GATE [15:0] E_GATE (14): 0.1 J, last abseil -/
def BL.LED_GATE.E_GATE : Row :=
  { base := 0x1300918, lo := 0, width := 16, acc := .ro, clr := .cold }
/-- Not a register: safe-state causes that have reached the Belay island and not yet been acted on (R284, R303). -/
def BL.causeReq : Row :=
  { base := 0x806EC374, s1 := 0x4, c1 := 2, lo := 0, width := 16, acc := .hid, clr := .cold }
/-- Not a register: anchor of the change log: the CHAIN of the entry last overwritten (R327). -/
def BL.logAnchor : Row :=
  { base := 0x806EC37C, lo := 0, width := 256, acc := .hid, clr := .never }
/-- Not a register: an accepted ENABLE has put RUN on the axis's line (R278, R285). -/
def BL.run : Row :=
  { base := 0x806EC380, s1 := 0x4, c1 := 2, lo := 0, width := 1, acc := .hid, clr := .cold }
/-- Not a register: a winding discharge runs on the axis and suspends its safe state (R340). -/
def BL.wind : Row :=
  { base := 0x806EC388, s1 := 0x4, c1 := 2, lo := 0, width := 1, acc := .hid, clr := .cold }
/-- Not a register: words 0x040 to 0x0FC of the safety section last accepted for the channel (R243, R264). -/
def BL.sec : Row :=
  { base := 0x806EC390, s1 := 0xC0, c1 := 8, s2 := 0x4, c2 := 48, lo := 0, width := 32, acc := .hid, clr := .never }
/-- Not a register: a safety section has been accepted for the channel since the Belay island's reset (R281). -/
def BL.secOk : Row :=
  { base := 0x806EC990, s1 := 0x4, c1 := 8, lo := 0, width := 1, acc := .hid, clr := .cold }
/-- Not a register: a safety section of CH5 or CH6 has been accepted since MANUFACTURE (R264). -/
def BL.storeOk : Row :=
  { base := 0x806EC9B0, s1 := 0x4, c1 := 8, lo := 0, width := 1, acc := .hid, clr := .never }
/-- Not a register: axis B is next in turn at a monitor that serves both axes (R291). -/
def BL.tmAlt : Row :=
  { base := 0x806ECA28, lo := 0, width := 1, acc := .hid, clr := .cold }
/-- Not a register: the axis has an idle set (R281). -/
def BL.idleOk : Row :=
  { base := 0x806ECA2C, s1 := 0x4, c1 := 2, lo := 0, width := 1, acc := .hid, clr := .never }
/-- Not a register: idle set: V_BASE (R281). -/
def BL.idleVBase : Row :=
  { base := 0x806ECA34, s1 := 0x4, c1 := 2, lo := 0, width := 16, acc := .hid, clr := .never }
/-- Not a register: idle set: W_BASE (R281). -/
def BL.idleWBase : Row :=
  { base := 0x806ECA3C, s1 := 0x4, c1 := 2, lo := 0, width := 16, acc := .hid, clr := .never }
/-- Not a register: idle set: POLE_PAIRS (R281). -/
def BL.idlePoles : Row :=
  { base := 0x806ECA44, s1 := 0x4, c1 := 2, lo := 0, width := 8, acc := .hid, clr := .never }
/-- Not a register: idle set: VDC_MIN (R281). -/
def BL.idleVmin : Row :=
  { base := 0x806ECA4C, s1 := 0x4, c1 := 2, lo := 0, width := 16, acc := .hid, clr := .never }
/-- Not a register: idle set: SS_POLICY (R281). -/
def BL.idlePolicy : Row :=
  { base := 0x806ECA54, s1 := 0x4, c1 := 2, lo := 0, width := 4, acc := .hid, clr := .never }
/-- Not a register: the first selection since the reset has been made (R280). -/
def BL.selOnce : Row :=
  { base := 0x806ECA5C, s1 := 0x4, c1 := 2, lo := 0, width := 1, acc := .hid, clr := .cold }
/-- Not a register: the axis's speed is known to the Belay island (R280). -/
def BL.spdKnown : Row :=
  { base := 0x806ECA64, s1 := 0x4, c1 := 2, lo := 0, width := 1, acc := .hid, clr := .cold }
/-- Not a register: LINE_FLT stands on the Belay receiver of the axis's track (R72, R280). -/
def BL.lineFlt : Row :=
  { base := 0x806ECA6C, s1 := 0x4, c1 := 2, lo := 0, width := 1, acc := .hid, clr := .cold }
/-- Not a register: an island of the low or high side has reported DESAT, DIDT, UVLO or OT since the axis was last enabled (R282). -/
def BL.sideRep : Row :=
  { base := 0x806ECA74, s1 := 0x8, c1 := 2, s2 := 0x4, c2 := 2, lo := 0, width := 1, acc := .hid, clr := .cold }
/-- Not a register: a forwarded sample has been accepted since the reset (R280). -/
def BL.vblEver : Row :=
  { base := 0x806ECA84, lo := 0, width := 1, acc := .hid, clr := .cold }
/-- Not a register: setpoint lapse: 0 none, 1 ramp, 2 hold (R294). -/
def BL.lapse : Row :=
  { base := 0x806ECA88, s1 := 0x4, c1 := 2, lo := 0, width := 2, acc := .hid, clr := .cold }
/-- Not a register: Belay torque limit in the CE data port, Q15 of T_base (R169, R294). -/
def BL.tqLimit : Row :=
  { base := 0x806ECA90, s1 := 0x4, c1 := 2, lo := 0, width := 16, reset := 0x7fff, acc := .hid, clr := .cold }
/-- Not a register: last accepted setpoint sequence number of the channel (R304). -/
def BL.lastSeq : Row :=
  { base := 0x806ECA98, s1 := 0x4, c1 := 8, lo := 0, width := 16, acc := .hid, clr := .cold }
/-- Not a register: heartbeat words in sequence without a break (R302). -/
def BL.hbRun : Row :=
  { base := 0x806ECAB8, lo := 0, width := 8, acc := .hid, clr := .cold }
/-- Not a register: heartbeat words still to be ignored for the HB piton (R307). -/
def BL.hbIgnore : Row :=
  { base := 0x806ECABC, lo := 0, width := 8, acc := .hid, clr := .cold }
/-- Not a register: the filtered state of the XTRIP pin, asserted (R299). -/
def BL.xtripPin : Row :=
  { base := 0x806ECAC0, lo := 0, width := 1, reset := 1, acc := .hid, clr := .cold }
/-- Not a register: limited torque command released to the monitor word (R186 code 8, R289). -/
def BL.tCmd : Row :=
  { base := 0x806ECAC4, s1 := 0x4, c1 := 2, lo := 0, width := 16, acc := .hid, clr := .cold }
/-- Not a register: torque estimate of the CE in the monitor word (R186 code 7, R289). -/
def BL.tCe : Row :=
  { base := 0x806ECACC, s1 := 0x4, c1 := 2, lo := 0, width := 16, acc := .hid, clr := .cold }
/-- Not a register: the kind of the HOLD issued: 1 expiry, 2 policy, 3 ring 1 (R304). -/
def BL.holdKind : Row :=
  { base := 0x806ECAD4, lo := 0, width := 2, acc := .hid, clr := .cold }
/-- Not a register: HOLD is driven (R286, R317). -/
def BL.holdDriven : Row :=
  { base := 0x806ECAD8, lo := 0, width := 1, acc := .hid, clr := .cold }
/-- Not a register: a die over-temperature hold stands (R373, R374). -/
def BL.dieOt : Row :=
  { base := 0x806ECADC, lo := 0, width := 1, acc := .hid, clr := .cold }
/-- Not a register: an abseil runs (R284, R339). -/
def BL.disCond : Row :=
  { base := 0x806ECAE0, lo := 0, width := 1, acc := .hid, clr := .cold }
/-- Not a register: instance of the armed piton (R328). -/
def BL.pitInst : Row :=
  { base := 0x806ECAE4, lo := 0, width := 8, acc := .hid, clr := .cold }
/-- Not a register: unit of the armed piton's block (R328). -/
def BL.pitUnit : Row :=
  { base := 0x806ECAE8, lo := 0, width := 8, acc := .hid, clr := .cold }
/-- Not a register: slot + 1 whose messages the WIN piton discards (R328). -/
def BL.winDiscard : Row :=
  { base := 0x806ECAEC, lo := 0, width := 5, acc := .hid, clr := .cold }
/-- Not a register: no forwarded sample has been accepted for 10 ms (R280). -/
def BL.vblStale : Row :=
  { base := 0x806ECAF0, lo := 0, width := 1, acc := .hid, clr := .cold }
/-- Not a register: a network command has been accepted and not yet executed (R315). -/
def BL.netBusy : Row :=
  { base := 0x806ECAF4, lo := 0, width := 1, acc := .hid, clr := .cold }
/-- Not a register: OP of the accepted network command (R315). -/
def BL.netOp : Row :=
  { base := 0x806ECAF8, lo := 0, width := 8, acc := .hid, clr := .cold }
/-- Not a register: command bytes 0 to 6 of the accepted network command, least significant first (R315). -/
def BL.netArg : Row :=
  { base := 0x806ECAFC, lo := 0, width := 56, acc := .hid, clr := .cold }
/-- Not a register: session slot of the accepted network command (R316). -/
def BL.netSlot : Row :=
  { base := 0x806ECB00, lo := 0, width := 4, acc := .hid, clr := .cold }
/-- Not a register: SEQ of the accepted network command (R316). -/
def BL.netSeq : Row :=
  { base := 0x806ECB04, lo := 0, width := 16, acc := .hid, clr := .cold }
/-- Not a register: monotonic START counter of the slot, in the safety store (R313). -/
def BL.sesCnt : Row :=
  { base := 0x806ECB08, s1 := 0x4, c1 := 16, lo := 0, width := 32, acc := .hid, clr := .never }
/-- Not a register: next response sequence number of the slot (R316). -/
def BL.respSeq : Row :=
  { base := 0x806ECB48, s1 := 0x4, c1 := 16, lo := 0, width := 16, acc := .hid, clr := .cold }
/-- Not a register: role of the caller of the running mailbox command (R322). -/
def BL.mbxRole : Row :=
  { base := 0x806ECB88, lo := 0, width := 3, reset := 5, acc := .hid, clr := .cold }
/-- Not a register: number of safety password sessions opened (R322). -/
def BL.sesNum : Row :=
  { base := 0x806ECB8C, lo := 0, width := 32, acc := .hid, clr := .cold }
/-- Not a register: SES_TMO has run out during a mailbox command (R325). -/
def BL.sesTmoPend : Row :=
  { base := 0x806ECB90, lo := 0, width := 1, acc := .hid, clr := .cold }
/-- Not a register: the password slot of INTEGRATOR or SERVICE holds a password (R323). -/
def BL.pwdSet : Row :=
  { base := 0x806ECB94, s1 := 0x4, c1 := 2, lo := 0, width := 1, acc := .hid, clr := .never }
/-- Not a register: salt of the password slot (R323). -/
def BL.pwdSalt : Row :=
  { base := 0x806ECB9C, s1 := 0x4, c1 := 2, lo := 0, width := 128, acc := .hid, clr := .never }
/-- Not a register: stored password hash of the slot (R323). -/
def BL.pwdHash : Row :=
  { base := 0x806ECBA4, s1 := 0x4, c1 := 2, lo := 0, width := 256, acc := .hid, clr := .never }
/-- Not a register: change-log entries ever written (R326). -/
def BL.logCount : Row :=
  { base := 0x806ECBAC, lo := 0, width := 32, acc := .hid, clr := .never }
/-- Not a register: who requested the abseil: 1 ring, 2 network, 3 HVIL (R336, R337). -/
def BL.disSrc : Row :=
  { base := 0x806ECBB0, lo := 0, width := 2, acc := .hid, clr := .cold }
/-- Not a register: a cancel waits for the end of the step in progress (R337). -/
def BL.disCancel : Row :=
  { base := 0x806ECBB4, lo := 0, width := 1, acc := .hid, clr := .cold }
/-- Not a register: consecutive resistor steps with a ledger mismatch (R343). -/
def BL.disMismatch : Row :=
  { base := 0x806ECBB8, lo := 0, width := 8, acc := .hid, clr := .cold }
/-- Not a register: a resistor step issued has not ended for the ledger (R343). -/
def BL.stepOpen : Row :=
  { base := 0x806ECBBC, lo := 0, width := 1, acc := .hid, clr := .cold }
/-- Not a register: E_LINK at the start of the step, 0.01 J (R343). -/
def BL.stepE0 : Row :=
  { base := 0x806ECBC0, lo := 0, width := 32, acc := .hid, clr := .cold }
/-- Not a register: RES energy booked over the step, 0.01 J (R343). -/
def BL.stepBook : Row :=
  { base := 0x806ECBC4, lo := 0, width := 32, acc := .hid, clr := .cold }
/-- Not a register: length of the step in progress, ms (R338). -/
def BL.stepMs : Row :=
  { base := 0x806ECBC8, lo := 0, width := 8, acc := .hid, clr := .cold }
/-- Not a register: length of the step issued while another is in progress, ms, 0 none (R333, R338). -/
def BL.stepNext : Row :=
  { base := 0x806ECBCC, lo := 0, width := 8, acc := .hid, clr := .cold }
/-- Not a register: RES energy of the last abseil, 0.01 J (R342, R346). -/
def BL.disE : Row :=
  { base := 0x806ECBD0, lo := 0, width := 32, acc := .hid, clr := .cold }
/-- Not a register: an island of the axis has reported DESAT, DIDT, UVLO or OT since the discharge request (R340). -/
def BL.repReq : Row :=
  { base := 0x806ECBD4, s1 := 0x4, c1 := 2, lo := 0, width := 1, acc := .hid, clr := .cold }
/-- Not a register: consecutive IHA codes at 0 or 4095 (R60). -/
def BL.satRun : Row :=
  { base := 0x806ECBDC, s1 := 0x4, c1 := 6, lo := 0, width := 2, acc := .hid, clr := .cold }
/-- Not a register: samples for which BI.IHA.PIT still forces the code (R307). -/
def BL.ihaPit : Row :=
  { base := 0x806ECBF4, s1 := 0x4, c1 := 6, lo := 0, width := 2, acc := .hid, clr := .cold }
/-- Not a register: the channel's latest IHA current, signed, 0.1 A (R53). -/
def BL.ihaAmp : Row :=
  { base := 0x806ECC0C, s1 := 0x4, c1 := 6, lo := 0, width := 32, acc := .hid, clr := .cold }
/-- Not a register: consecutive samples with the star's IHA sum above 40 A (R60). -/
def BL.ihaSumRun : Row :=
  { base := 0x806ECC24, s1 := 0x4, c1 := 2, lo := 0, width := 5, acc := .hid, clr := .cold }
/-- Not a register: sum of forwarded control samples in the 1 ms window, signed (R54). -/
def BL.isdSum : Row :=
  { base := 0x806ECC2C, s1 := 0x4, c1 := 6, lo := 0, width := 40, acc := .hid, clr := .cold }
/-- Not a register: forwarded control samples in the window (R54). -/
def BL.isdCnt : Row :=
  { base := 0x806ECC44, s1 := 0x4, c1 := 6, lo := 0, width := 16, acc := .hid, clr := .cold }
/-- Not a register: sum of IHA samples in the 1 ms window, signed (R54). -/
def BL.ihaAcc : Row :=
  { base := 0x806ECC5C, s1 := 0x4, c1 := 6, lo := 0, width := 40, acc := .hid, clr := .cold }
/-- Not a register: IHA samples in the window (R54). -/
def BL.ihaCnt : Row :=
  { base := 0x806ECC74, lo := 0, width := 16, acc := .hid, clr := .cold }
/-- Not a register: consecutive windows out of tolerance (R54). -/
def BL.xRun : Row :=
  { base := 0x806ECC78, s1 := 0x4, c1 := 6, lo := 0, width := 2, acc := .hid, clr := .cold }
/-- Not a register: windows for which BI.XCHK.PIT still offsets the channel (R307). -/
def BL.xPit : Row :=
  { base := 0x806ECC90, s1 := 0x4, c1 := 6, lo := 0, width := 2, acc := .hid, clr := .cold }
/-- Not a register: the channel's IHA average carried the piton's offset in a window that counts (R307). -/
def BL.xPitted : Row :=
  { base := 0x806ECCA8, s1 := 0x4, c1 := 6, lo := 0, width := 1, acc := .hid, clr := .cold }
/-- Not a register: POS's incremental angle at the instant the Belay island counts from until the first index (R288). -/
def BL.thRef : Row :=
  { base := 0x806ECCC0, s1 := 0x4, c1 := 2, lo := 0, width := 16, acc := .hid, clr := .cold }
/-- Not a register: samples for which BI.TM.PIT still adds to T_TM (R307). -/
def BL.tmPit : Row :=
  { base := 0x806ECCC8, s1 := 0x4, c1 := 2, lo := 0, width := 16, acc := .hid, clr := .cold }
/-- Not a register: the Belay island is halted by debug at D3 (R396). -/
def BL.halted : Row :=
  { base := 0x806ECCD0, lo := 0, width := 1, acc := .hid, clr := .cold }
/-- Not a register: device times of the latest edges on the Belay receiver of the axis's track, the newest first (R280). -/
def BL.blT : Row :=
  { base := 0x8078EB50, s1 := 0x14, c1 := 2, s2 := 0x4, c2 := 5, lo := 0, width := 64, acc := .hid, clr := .cold }
/-- Not a register: edges on that receiver since standstill or reversal, saturating at 5 (R280). -/
def BL.blN : Row :=
  { base := 0x8078EB78, s1 := 0x4, c1 := 2, lo := 0, width := 3, acc := .hid, clr := .cold }
/-- Not a register: direction of the latest of them (R280). -/
def BL.blDir : Row :=
  { base := 0x8078EB80, s1 := 0x4, c1 := 2, lo := 0, width := 1, acc := .hid, clr := .cold }
/-- Not a register: an edge interval has been timed on that receiver since the Belay island's reset (R280). -/
def BL.blTimed : Row :=
  { base := 0x8078EB88, s1 := 0x4, c1 := 2, lo := 0, width := 1, acc := .hid, clr := .cold }
/-- Not a register: the Belay island's own count on the incremental track, signed (R287). -/
def BL.blCnt : Row :=
  { base := 0x8078EB90, s1 := 0x4, c1 := 2, lo := 0, width := 32, acc := .hid, clr := .cold }
/-- Not a register: that count at the instant from which theta_BL counts (R287, R288). -/
def BL.blRef : Row :=
  { base := 0x8078EB98, s1 := 0x4, c1 := 2, lo := 0, width := 32, acc := .hid, clr := .cold }
/-- Not a register: that count at the axis's last accepted ENABLE (R288). -/
def BL.blEn : Row :=
  { base := 0x8078EBA0, s1 := 0x4, c1 := 2, lo := 0, width := 32, acc := .hid, clr := .cold }
/-- Not a register: consecutive samples in which T_TM0 and T_TM1 differ by more than XTOL (R291). -/
def BL.tmXRun : Row :=
  { base := 0x8078EBA8, lo := 0, width := 16, acc := .hid, clr := .cold }
/-- Not a register: device time at which the present phase of a setpoint lapse began (R294). -/
def BL.lapseT : Row :=
  { base := 0x8078EBAC, s1 := 0x4, c1 := 2, lo := 0, width := 64, acc := .hid, clr := .cold }
/-- Not a register: 10 us periods of the bivouac time beyond BIV_LEFT (R296). -/
def BL.selN : Row :=
  { base := 0x8078EBB4, s1 := 0x4, c1 := 2, lo := 0, width := 10, acc := .hid, clr := .cold }
/-- Not a register: BIV_WARN has been raised for the axis (R296). -/
def BL.bivWarned : Row :=
  { base := 0x8078EBBC, s1 := 0x4, c1 := 2, lo := 0, width := 1, acc := .hid, clr := .cold }
/-- Not a register: device time at which SGL was set (R298). -/
def BL.sglT : Row :=
  { base := 0x8078EBC4, s1 := 0x4, c1 := 2, lo := 0, width := 64, acc := .hid, clr := .cold }
/-- Not a register: 10 us periods since the last heartbeat word in sequence (R302). -/
def BL.hbT : Row :=
  { base := 0x8078EBCC, lo := 0, width := 16, acc := .hid, clr := .cold }
/-- Not a register: device time at which BELAY was last asserted at the PU (R284). -/
def BL.belT : Row :=
  { base := 0x8078EBD0, s1 := 0x4, c1 := 5, lo := 0, width := 64, acc := .hid, clr := .cold }
/-- Not a register: device time at which the window of a channel's setpoint stream last began (R313, R314). -/
def BL.winT : Row :=
  { base := 0x8078EBF0, s1 := 0x4, c1 := 8, lo := 0, width := 64, acc := .hid, clr := .cold }
/-- Not a register: device time at which the WIN piton began to discard (R328). -/
def BL.winDT : Row :=
  { base := 0x8078EC10, lo := 0, width := 64, acc := .hid, clr := .cold }
/-- Not a register: device time at which the piton was armed (R330). -/
def BL.pitT : Row :=
  { base := 0x8078EC14, lo := 0, width := 64, acc := .hid, clr := .cold }
/-- Not a register: device time of the last mailbox command (R325). -/
def BL.sesT : Row :=
  { base := 0x8078EC18, lo := 0, width := 64, acc := .hid, clr := .cold }
/-- Not a register: device time of the last PWD_LOAD (R323). -/
def BL.pwdT : Row :=
  { base := 0x8078EC1C, lo := 0, width := 64, acc := .hid, clr := .cold }
/-- Not a register: the resistor's temperature of which T_R shows 0.1 degC, in microkelvin above 0 degC (R342). -/
def BL.tRes : Row :=
  { base := 0x8078EC20, lo := 0, width := 40, reset := 125000000, acc := .hid, clr := .cold }
/-- Not a register: E_LINK at the last ledger update, in 0.1 mJ (R342). -/
def BL.eLast : Row :=
  { base := 0x8078EC24, lo := 0, width := 64, acc := .hid, clr := .cold }
/-- Not a register: the winding account of which LED_WIND shows 0.1 J, in 0.1 mJ (R342). -/
def BL.eWind : Row :=
  { base := 0x8078EC28, s1 := 0x4, c1 := 2, lo := 0, width := 40, acc := .hid, clr := .cold }
/-- Not a register: sum of the squares of the axis's IHA phase currents since the last ledger update (R342). -/
def BL.ihaSq : Row :=
  { base := 0x8078EC30, s1 := 0x4, c1 := 2, lo := 0, width := 64, acc := .hid, clr := .cold }
/-- Not a register: device time at which CI_LOST was set (R442). -/
def BL.ciT : Row :=
  { base := 0x8078ED00, lo := 0, width := 64, acc := .hid, clr := .cold }
/-- Not a register: configuration words govern the axis since its last accepted ENABLE; instance 2 the module, since any axis's (R306). -/
def BL.govOk : Row :=
  { base := 0x80880410, s1 := 0x4, c1 := 3, lo := 0, width := 1, acc := .hid, clr := .cold }
/-- Not a register: configuration words that govern the axis, instance 2 the module: POLn_LO, POLn_HI of its policy, TM_WIN, TM_XCFG, TMa_PSI, TMa_L, TMa_ALIGN, TMa_CPR, BIV_CFG, SGL_CFG, XT_CFG, HVIL_CFG, HOLD_CFG (R306). -/
def BL.gov : Row :=
  { base := 0x8088041C, s1 := 0x34, c1 := 3, s2 := 0x4, c2 := 13, lo := 0, width := 32, acc := .hid, clr := .cold }
/-- Not a register: the Belay island has lost its clock (R277). -/
def BL.clkLost : Row :=
  { base := 0x808804B8, lo := 0, width := 1, acc := .hid, clr := .cold }
/-- Not a register: a known-answer test takes the place of the monitor's next sample (R291, R305). -/
def BL.katSkip : Row :=
  { base := 0x808804BC, s1 := 0x4, c1 := 2, lo := 0, width := 1, acc := .hid, clr := .cold }
/-- Not a register: stars whose substituted current channel has been taken as a loss (R51, R292). -/
def BL.substOf : Row :=
  { base := 0x808804C4, lo := 0, width := 2, acc := .hid, clr := .coldOnly }
/-- Not a register: device time plus one of the last change of a safe-hold output; 0 none (R319, R320). -/
def BL.shT : Row :=
  { base := 0x808804D0, s1 := 0x4, c1 := 2, lo := 0, width := 64, acc := .hid, clr := .cold }
/-- Not a register: microseconds of the lockout second that is running (R324). -/
def BL.lockUs : Row :=
  { base := 0x808804D8, lo := 0, width := 20, acc := .hid, clr := .never }
/-- Not a register: the change log has its GENESIS entry (R327). -/
def BL.genesis : Row :=
  { base := 0x808804DC, lo := 0, width := 1, acc := .hid, clr := .never }
/-- Not a register: LOG_STAT.CHAIN0, the first four bytes of the newest CHAIN (R327), for which LOG_STAT has no bits. -/
def BL.chain0 : Row :=
  { base := 0x808804E0, lo := 0, width := 32, acc := .hid, clr := .never }
/-- Not a register: source MAC address of the network command in progress (R316). -/
def BL.netMac : Row :=
  { base := 0x808804E4, lo := 0, width := 48, acc := .hid, clr := .cold }
/-- Not a register: the account of which LED_GATE shows 0.1 J, in 0.1 mJ (R342). -/
def BL.eGate : Row :=
  { base := 0x80880510, lo := 0, width := 40, acc := .hid, clr := .cold }
/-- Rows of BL, part 0. -/
def BL.rows0 : List Row :=
  [BL.IHA_CFG.IHA_GAIN, BL.IHA_CFG.IHA_OFS, BL.STATUS.CFG_VALID, BL.STATUS.SELFTEST_OK, BL.STATUS.CI_LOST, BL.STATUS.HVIL_OPEN, BL.STATUS.XTRIP_ACT, BL.STATUS.TM_LOST, BL.STATUS.HOLD_REQ, BL.STATUS.HOLD_PEND, BL.STATUS.SSOUT, BL.STATUS.SSOUT_FAULT, BL.STATUS.JOINED, BL.AXIS.LINE, BL.AXIS.SAFE, BL.AXIS.SEL_SHORT, BL.AXIS.BIV, BL.AXIS.BIV_EXPIRED, BL.AXIS.SGL, BL.AXIS.LAPSED, BL.AXIS.ALIGN_OK, BL.AXIS.POLICY, BL.AXIS.BIV_LEFT, BL.CAUSE.BIV_CAUSE, BL.CAUSE.SS_CAUSE, BL.HB.HB_SEQ, BL.HB.HB_MISS, BL.HB.HB_N, BL.SPD.SPD_A, BL.SPD.SPD_B, BL.VDC_ACC.V_BL, BL.VDC_ACC.AGE, BL.MBX_CMD.GO, BL.MBX_CMD.CNT, BL.MBX_CMD.OP, BL.MBX_ARG.ARG, BL.MBX_STAT.BUSY, BL.MBX_STAT.COLL, BL.MBX_STAT.RESULT, BL.MBX_RSP.RSP]
/-- Rows of BL, part 1. -/
def BL.rows1 : List Row :=
  [BL.POL_LO.SC_ON, BL.POL_LO.SC_OFF, BL.POL_HI.SHORT_SIDE, BL.POL_HI.UNK_SHORT, BL.POL_HI.HOLD_ON_SAFE, BL.POL_HI.LAPSE_ACT, BL.POL_HI.LAPSE_RAMP, BL.POL_HI.LAPSE_HOLD, BL.TM_WIN.TM_PCT, BL.TM_WIN.TM_ABS, BL.TM_WIN.TM_TIME, BL.TM_XCFG.XTOL, BL.TM_XCFG.XTIME, BL.TM_PSI.PSI_PM, BL.TM_PSI.LQ_SAT, BL.TM_L.LD, BL.TM_L.LQ, BL.TM_ALIGN.ZOFS_BL, BL.TM_ALIGN.ALIGN_TOL, BL.TM_CPR.CPR_BL, BL.BIV_CFG.BIV_TLIM, BL.BIV_CFG.BIV_TIME, BL.SGL_CFG.SGL_TLIM, BL.SGL_CFG.SGL_TIME, BL.XT_CFG.XT_FLT, BL.XT_CFG.XT_AUX, BL.XT_CFG.XT_ASSERT_AXES, BL.HVIL_CFG.HVIL_EN, BL.HVIL_CFG.HVIL_DIS, BL.HVIL_CFG.HVIL_SS, BL.HVIL_CFG.HVIL_FLT, BL.HOLD_CFG.HOLD_WMAX, BL.IHA_VAL.I, BL.XCHK_TOL.XCHK_ABS, BL.XCHK_TOL.XCHK_PCT, BL.IHA_STAT.IHA_SUM, BL.IHA_STAT.IHA_SAT, BL.IHA_STAT.IHA_CM, BL.IHA_STAT.IHA_ADC, BL.IHA_STAT.CUR_XCHK]
/-- Rows of BL, part 2. -/
def BL.rows2 : List Row :=
  [BL.BIND.BIND, BL.TM_VAL.T_TM0, BL.TM_VAL.T_TM1, BL.TM_ERR.CNT0, BL.TM_ERR.CNT1, BL.PWD_STAT.OPEN, BL.PWD_STAT.ROLE, BL.PWD_STAT.FAILS, BL.PWD_STAT.LOCK_LEFT, BL.PWD_CFG.SES_TMO, BL.LOG_STAT.INDEX, BL.PIT_STAT.ARMED, BL.PIT_STAT.SOURCE, BL.PIT_STAT.SEL, BL.RS_CFG.EN, BL.RS_CFG.CHAN, BL.RS_CFG.INST, BL.RS_CFG.SRC, BL.RS_CFG.DST, BL.RS_CFG.WIN, BL.RS_CFG2.SEQ_GAP, BL.RS_CFG2.RX_ID, BL.RS_STAT.STATE, BL.RS_STAT.REASON, BL.RS_STAT.REFUSE_RUN, BL.RS_STAT.LAST, BL.RS_SEED.SEED, BL.RS_CNT.LOST, BL.RS_CNT.REFUSED, BL.RS_CNT.TX_DROP, BL.SH_STAT.KIND_B, BL.SH_STAT.KIND_A, BL.SH_STAT.SKIP, BL.SH_STAT.NO_SUPPLY, BL.SH_STAT.FAULT, BL.SH_STAT.ON, BL.SH_VAL.V_H, BL.SH_VAL.V_L, BL.SH_VAL.I_C, BL.DIS_STAT.STATE]
/-- Rows of BL, part 3. -/
def BL.rows3 : List Row :=
  [BL.DIS_STAT.END, BL.DIS_STAT.MISS, BL.DIS_STAT.STEPS, BL.DIS_TIME.T_SAFE, BL.DIS_TIME.T_RUN, BL.LED_LINK.E_LINK, BL.LED_RES.T_R, BL.LED_RES.E_RES, BL.LED_WIND.E_WIND, BL.LED_GATE.E_GATE, BL.causeReq, BL.logAnchor, BL.run, BL.wind, BL.sec, BL.secOk, BL.storeOk, BL.tmAlt, BL.idleOk, BL.idleVBase, BL.idleWBase, BL.idlePoles, BL.idleVmin, BL.idlePolicy, BL.selOnce, BL.spdKnown, BL.lineFlt, BL.sideRep, BL.vblEver, BL.lapse, BL.tqLimit, BL.lastSeq, BL.hbRun, BL.hbIgnore, BL.xtripPin, BL.tCmd, BL.tCe, BL.holdKind]
/-- Rows of BL, part 4. -/
def BL.rows4 : List Row :=
  [BL.holdDriven, BL.dieOt, BL.disCond, BL.pitInst, BL.pitUnit, BL.winDiscard, BL.vblStale, BL.netBusy, BL.netOp, BL.netArg, BL.netSlot, BL.netSeq, BL.sesCnt, BL.respSeq, BL.mbxRole, BL.sesNum, BL.sesTmoPend, BL.pwdSet, BL.pwdSalt, BL.pwdHash, BL.logCount, BL.disSrc, BL.disCancel, BL.disMismatch, BL.stepOpen, BL.stepE0, BL.stepBook, BL.stepMs, BL.stepNext, BL.disE, BL.repReq, BL.satRun, BL.ihaPit, BL.ihaAmp, BL.ihaSumRun, BL.isdSum, BL.isdCnt, BL.ihaAcc, BL.ihaCnt, BL.xRun]
/-- Rows of BL, part 5. -/
def BL.rows5 : List Row :=
  [BL.xPit, BL.xPitted, BL.thRef, BL.tmPit, BL.halted, BL.blT, BL.blN, BL.blDir, BL.blTimed, BL.blCnt, BL.blRef, BL.blEn, BL.tmXRun, BL.lapseT, BL.selN, BL.bivWarned, BL.sglT, BL.hbT, BL.belT, BL.winT, BL.winDT, BL.pitT, BL.sesT, BL.pwdT, BL.tRes, BL.eLast, BL.eWind, BL.ihaSq, BL.ciT, BL.govOk, BL.gov, BL.clkLost, BL.katSkip, BL.substOf, BL.shT, BL.lockUs, BL.genesis, BL.chain0, BL.netMac, BL.eGate]
/-- Every row of BL. -/
def BL.rows : List Row := BL.rows0 ++ BL.rows1 ++ BL.rows2 ++ BL.rows3 ++ BL.rows4 ++ BL.rows5

/-- Every row of SAFE. -/
def SAFE.rows : List Row := []

end Sys2Proof.Machine
end

