-- ==== Sys2Proof/Machine/RegsComm.lean ====
section
/-!
DEFINITION. The state of CAN0 to CAN3 (15), ETH0 and ETH1 (15), PERF (21), MEM (21), BIST (21), SEC (17), as named rows.
Each row states one field of the register tables of spec/: place, width, access code (R3), reset value,
Cleared-by level (R6) and, where the spec states one, the range a write must lie in.
Rows of access hid are state that the spec gives the machine outside its registers; the spec gives no reset
value for them (DESIGN CHOICE, log entry 3).
-/
namespace Sys2Proof.Machine

/-- CTL [31:31] LOCK (15): Locks every RWL field of the controller -/
def CAN.CTL.LOCK : Row :=
  { base := 0x11A0000, s1 := 0x1000, c1 := 4, lo := 31, width := 1, acc := .w1s, clr := .blk }
/-- CTL [30:30] CFG_REJECT (15): A refused write (R349, R366) -/
def CAN.CTL.CFG_REJECT : Row :=
  { base := 0x11A0000, s1 := 0x1000, c1 := 4, lo := 30, width := 1, acc := .w1c, clr := .blk }
/-- CTL [12:12] TRX_EN (15): Transceiver powered -/
def CAN.CTL.TRX_EN : Row :=
  { base := 0x11A0000, s1 := 0x1000, c1 := 4, lo := 12, width := 1, acc := .rwl, clr := .blk }
/-- CTL [11:11] TX_ECHO (15): Echo sent frames (R357) -/
def CAN.CTL.TX_ECHO : Row :=
  { base := 0x11A0000, s1 := 0x1000, c1 := 4, lo := 11, width := 1, acc := .rwl, clr := .blk }
/-- CTL [10:10] DEF_ACC (15): Accept frames no filter matches -/
def CAN.CTL.DEF_ACC : Row :=
  { base := 0x11A0000, s1 := 0x1000, c1 := 4, lo := 10, width := 1, reset := 1, acc := .rwl, clr := .blk }
/-- CTL [9:9] BO_AUTO (15): Automatic bus-off recovery (R356) -/
def CAN.CTL.BO_AUTO : Row :=
  { base := 0x11A0000, s1 := 0x1000, c1 := 4, lo := 9, width := 1, reset := 1, acc := .rwl, clr := .blk }
/-- CTL [8:8] PXE (15): Protocol exception handling (R350) -/
def CAN.CTL.PXE : Row :=
  { base := 0x11A0000, s1 := 0x1000, c1 := 4, lo := 8, width := 1, reset := 1, acc := .rwl, clr := .blk }
/-- CTL [6:6] ROM (15): Restricted operation mode -/
def CAN.CTL.ROM : Row :=
  { base := 0x11A0000, s1 := 0x1000, c1 := 4, lo := 6, width := 1, acc := .rwl, clr := .blk }
/-- CTL [5:5] MON (15): Bus monitoring mode -/
def CAN.CTL.MON : Row :=
  { base := 0x11A0000, s1 := 0x1000, c1 := 4, lo := 5, width := 1, acc := .rwl, clr := .blk }
/-- CTL [4:4] BRSE (15): Bit rate switching enabled -/
def CAN.CTL.BRSE : Row :=
  { base := 0x11A0000, s1 := 0x1000, c1 := 4, lo := 4, width := 1, reset := 1, acc := .rwl, clr := .blk }
/-- CTL [3:3] FDOE (15): CAN FD frames enabled -/
def CAN.CTL.FDOE : Row :=
  { base := 0x11A0000, s1 := 0x1000, c1 := 4, lo := 3, width := 1, reset := 1, acc := .rwl, clr := .blk }
/-- CTL [1:1] BO_RECOVER (15): Starts recovery; reads 1 until complete -/
def CAN.CTL.BO_RECOVER : Row :=
  { base := 0x11A0000, s1 := 0x1000, c1 := 4, lo := 1, width := 1, acc := .w1s, clr := .blk }
/-- CTL [0:0] INIT (15): Controller off the bus (R350) -/
def CAN.CTL.INIT : Row :=
  { base := 0x11A0000, s1 := 0x1000, c1 := 4, lo := 0, width := 1, reset := 1, acc := .rw, clr := .blk }
/-- STATUS [31:29] STATE (15): 0 INIT, 1 integrating, 2 error-active, 3 error-passive, 4 bus-off, 5 recovering -/
def CAN.STATUS.STATE : Row :=
  { base := 0x11A0004, s1 := 0x1000, c1 := 4, lo := 29, width := 3, acc := .ro, clr := .blk }
/-- STATUS [4:4] DOM_TMO (15): A flag whose condition persists stays set -/
def CAN.STATUS.DOM_TMO : Row :=
  { base := 0x11A0004, s1 := 0x1000, c1 := 4, lo := 4, width := 1, acc := .w1c, clr := .blk }
/-- STATUS [3:3] PEX (15): A flag whose condition persists stays set -/
def CAN.STATUS.PEX : Row :=
  { base := 0x11A0004, s1 := 0x1000, c1 := 4, lo := 3, width := 1, acc := .w1c, clr := .blk }
/-- STATUS [2:2] BUS_OFF (15): A flag whose condition persists stays set -/
def CAN.STATUS.BUS_OFF : Row :=
  { base := 0x11A0004, s1 := 0x1000, c1 := 4, lo := 2, width := 1, acc := .w1c, clr := .blk }
/-- STATUS [1:1] ALONE (15): A flag whose condition persists stays set -/
def CAN.STATUS.ALONE : Row :=
  { base := 0x11A0004, s1 := 0x1000, c1 := 4, lo := 1, width := 1, acc := .w1c, clr := .blk }
/-- STATUS [0:0] ID_COLLISION (15): A flag whose condition persists stays set -/
def CAN.STATUS.ID_COLLISION : Row :=
  { base := 0x11A0004, s1 := 0x1000, c1 := 4, lo := 0, width := 1, acc := .w1c, clr := .blk }
/-- NBT [31:27] NBRP (15): BRP − 1 -/
def CAN.NBT.NBRP : Row :=
  { base := 0x11A0008, s1 := 0x1000, c1 := 4, lo := 27, width := 5, reset := 3, acc := .rwl, clr := .blk }
/-- NBT [25:18] NTSEG1 (15): TSEG1 − 1 -/
def CAN.NBT.NTSEG1 : Row :=
  { base := 0x11A0008, s1 := 0x1000, c1 := 4, lo := 18, width := 8, reset := 0x3e, acc := .rwl, clr := .blk }
/-- NBT [16:10] NTSEG2 (15): TSEG2 − 1 -/
def CAN.NBT.NTSEG2 : Row :=
  { base := 0x11A0008, s1 := 0x1000, c1 := 4, lo := 10, width := 7, reset := 0xf, acc := .rwl, clr := .blk }
/-- NBT [6:0] NSJW (15): SJW − 1 -/
def CAN.NBT.NSJW : Row :=
  { base := 0x11A0008, s1 := 0x1000, c1 := 4, lo := 0, width := 7, reset := 0xf, acc := .rwl, clr := .blk }
/-- DBT [31:27] DBRP (15): BRP − 1 -/
def CAN.DBT.DBRP : Row :=
  { base := 0x11A000C, s1 := 0x1000, c1 := 4, lo := 27, width := 5, reset := 3, acc := .rwl, clr := .blk }
/-- DBT [20:16] DTSEG1 (15): TSEG1 − 1 -/
def CAN.DBT.DTSEG1 : Row :=
  { base := 0x11A000C, s1 := 0x1000, c1 := 4, lo := 16, width := 5, reset := 0xd, acc := .rwl, clr := .blk }
/-- DBT [11:8] DTSEG2 (15): TSEG2 − 1 -/
def CAN.DBT.DTSEG2 : Row :=
  { base := 0x11A000C, s1 := 0x1000, c1 := 4, lo := 8, width := 4, reset := 4, acc := .rwl, clr := .blk }
/-- DBT [3:0] DSJW (15): SJW − 1 -/
def CAN.DBT.DSJW : Row :=
  { base := 0x11A000C, s1 := 0x1000, c1 := 4, lo := 0, width := 4, reset := 4, acc := .rwl, clr := .blk }
/-- TDC [31:31] TDC_EN (15): Transmitter delay compensation -/
def CAN.TDC.TDC_EN : Row :=
  { base := 0x11A0010, s1 := 0x1000, c1 := 4, lo := 31, width := 1, acc := .rwl, clr := .blk }
/-- TDC [14:8] TDCO (15): Offset, CAN clocks, 0–127 -/
def CAN.TDC.TDCO : Row :=
  { base := 0x11A0010, s1 := 0x1000, c1 := 4, lo := 8, width := 7, acc := .rwl, clr := .blk }
/-- TDC [6:0] TDCV (15): Measured loop delay, CAN clocks -/
def CAN.TDC.TDCV : Row :=
  { base := 0x11A0010, s1 := 0x1000, c1 := 4, lo := 0, width := 7, acc := .ro, clr := .blk }
/-- ERR [24:16] TEC (15): Transmit error counter -/
def CAN.ERR.TEC : Row :=
  { base := 0x11A0014, s1 := 0x1000, c1 := 4, lo := 16, width := 9, acc := .ro, clr := .blk }
/-- ERR [15:15] RP (15): Receive error-passive -/
def CAN.ERR.RP : Row :=
  { base := 0x11A0014, s1 := 0x1000, c1 := 4, lo := 15, width := 1, acc := .ro, clr := .blk }
/-- ERR [14:8] REC (15): Receive error counter -/
def CAN.ERR.REC : Row :=
  { base := 0x11A0014, s1 := 0x1000, c1 := 4, lo := 8, width := 7, acc := .ro, clr := .blk }
/-- ERR [7:3] ACK_RUN (15): Consecutive ACK errors, saturating at 31 -/
def CAN.ERR.ACK_RUN : Row :=
  { base := 0x11A0014, s1 := 0x1000, c1 := 4, lo := 3, width := 5, acc := .ro, clr := .blk }
/-- ERR [2:0] LEC (15): Last error: 0 none, 1 stuff, 2 form, 3 ACK, 4 bit 1, 5 bit 0, 6 CRC -/
def CAN.ERR.LEC : Row :=
  { base := 0x11A0014, s1 := 0x1000, c1 := 4, lo := 0, width := 3, acc := .ro, clr := .blk }
/-- IDC [31:30] RUN (15): Counted attempts, 0–3 (R354) -/
def CAN.IDC.RUN : Row :=
  { base := 0x11A0018, s1 := 0x1000, c1 := 4, lo := 30, width := 2, acc := .ro, clr := .blk }
/-- IDC [29:29] IDE (15): Identifier of IDC is extended -/
def CAN.IDC.IDE : Row :=
  { base := 0x11A0018, s1 := 0x1000, c1 := 4, lo := 29, width := 1, acc := .ro, clr := .blk }
/-- IDC [28:0] ID (15): Identifier of the last collision -/
def CAN.IDC.ID : Row :=
  { base := 0x11A0018, s1 := 0x1000, c1 := 4, lo := 0, width := 29, acc := .ro, clr := .blk }
/-- TS_COMP [7:0] DLY (15): Receive delay, 2.5 ns, 0–255 -/
def CAN.TS_COMP.DLY : Row :=
  { base := 0x11A001C, s1 := 0x1000, c1 := 4, lo := 0, width := 8, reset := 0x28, acc := .rwl, clr := .blk }
/-- TXB_ACT [31:0] ACT (15): Buffer b holds an active frame -/
def CAN.TXB_ACT.ACT : Row :=
  { base := 0x11A0020, s1 := 0x1000, c1 := 4, lo := 0, width := 32, acc := .ro, clr := .blk }
/-- TXB_SHD [31:0] SHD (15): Buffer b holds a shadow frame -/
def CAN.TXB_SHD.SHD : Row :=
  { base := 0x11A0024, s1 := 0x1000, c1 := 4, lo := 0, width := 32, acc := .ro, clr := .blk }
/-- CNT [31:16] TX_OK (15): Frames sent, saturating -/
def CAN.CNT.TX_OK : Row :=
  { base := 0x11A0028, s1 := 0x1000, c1 := 4, lo := 16, width := 16, acc := .ro, clr := .blk }
/-- CNT [15:0] ERR_FRAMES (15): Error frames sent or received, saturating -/
def CAN.CNT.ERR_FRAMES : Row :=
  { base := 0x11A0028, s1 := 0x1000, c1 := 4, lo := 0, width := 16, acc := .ro, clr := .blk }
/-- PIT_CTL [31:31] ARM (15): Arms the selected piton; clears after it acts -/
def CAN.PIT_CTL.ARM : Row :=
  { base := 0x11A002C, s1 := 0x1000, c1 := 4, lo := 31, width := 1, acc := .w1s, clr := .blk }
/-- PIT_CTL [12:8] BUF (15): Buffer 0–31 -/
def CAN.PIT_CTL.BUF : Row :=
  { base := 0x11A002C, s1 := 0x1000, c1 := 4, lo := 8, width := 5, acc := .rw, clr := .blk }
/-- PIT_CTL [3:0] SEL (15): Piton code (R365); 0 means none -/
def CAN.PIT_CTL.SEL : Row :=
  { base := 0x11A002C, s1 := 0x1000, c1 := 4, lo := 0, width := 4, acc := .rw, clr := .blk }
/-- FLT_ID [31:31] EN (15): Filter enabled -/
def CAN.FLT_ID.EN : Row :=
  { base := 0x11A0100, s1 := 0x1000, c1 := 4, s2 := 0x8, c2 := 64, lo := 31, width := 1, acc := .rwl, clr := .blk }
/-- FLT_ID [30:30] IDE (15): Matches extended frames -/
def CAN.FLT_ID.IDE : Row :=
  { base := 0x11A0100, s1 := 0x1000, c1 := 4, s2 := 0x8, c2 := 64, lo := 30, width := 1, acc := .rwl, clr := .blk }
/-- FLT_ID [29:29] ACT (15): 1 accept, 0 discard -/
def CAN.FLT_ID.ACT : Row :=
  { base := 0x11A0100, s1 := 0x1000, c1 := 4, s2 := 0x8, c2 := 64, lo := 29, width := 1, reset := 1, acc := .rwl, clr := .blk }
/-- FLT_ID [28:0] ID (15): Identifier -/
def CAN.FLT_ID.ID : Row :=
  { base := 0x11A0100, s1 := 0x1000, c1 := 4, s2 := 0x8, c2 := 64, lo := 0, width := 29, acc := .rwl, clr := .blk }
/-- FLT_MASK [28:0] MASK (15): 1 = bit compared -/
def CAN.FLT_MASK.MASK : Row :=
  { base := 0x11A0104, s1 := 0x1000, c1 := 4, s2 := 0x8, c2 := 64, lo := 0, width := 29, reset := 0x1fffffff, acc := .rwl, clr := .blk }
/-- Not a register: buffer + 1 chosen at the last interframe space, 0 none (R352). -/
def CAN.cur : Row :=
  { base := 0x801EBC0C, s1 := 0x4, c1 := 4, lo := 0, width := 6, acc := .hid, clr := .blk }
/-- Not a register: buffer + 1 that a CANCEL of ring 28 or 29 waits for, 0 none (R353). -/
def CAN.cxl : Row :=
  { base := 0x801EBC1C, s1 := 0x8, c1 := 4, s2 := 0x4, c2 := 2, lo := 0, width := 6, acc := .hid, clr := .blk }
/-- Not a register: its RESULT so far (R353). -/
def CAN.cxlRes : Row :=
  { base := 0x801EBC3C, s1 := 0x8, c1 := 4, s2 := 0x4, c2 := 2, lo := 0, width := 3, acc := .hid, clr := .blk }
/-- Not a register: buffer of the latest ACK error (R355). -/
def CAN.ackBuf : Row :=
  { base := 0x801EBC5C, s1 := 0x4, c1 := 4, lo := 0, width := 5, acc := .hid, clr := .blk }
/-- Not a register: identifier of the counted attempts, IDE at bit 29 (R354). -/
def CAN.colId : Row :=
  { base := 0x801EBC6C, s1 := 0x4, c1 := 4, lo := 0, width := 30, acc := .hid, clr := .blk }
/-- Not a register: attempts for which CAN.IDC.PIT still acts (R365). -/
def CAN.pitIdc : Row :=
  { base := 0x801EBC7C, s1 := 0x4, c1 := 4, lo := 0, width := 2, acc := .hid, clr := .blk }
/-- Not a register: attempts for which CAN.ALONE.PIT still acts (R365). -/
def CAN.pitAck : Row :=
  { base := 0x801EBC8C, s1 := 0x4, c1 := 4, lo := 0, width := 5, acc := .hid, clr := .blk }
/-- Not a register: the active frame that the CANCEL of ring 28 or 29 took is gone, and the CANCEL waits for the buffer to be empty (R353). -/
def CAN.cxlDone : Row :=
  { base := 0x80880520, s1 := 0x8, c1 := 4, s2 := 0x4, c2 := 2, lo := 0, width := 1, acc := .hid, clr := .blk }
/-- Not a register: the controller has entered bus-off and has not recovered (R356). -/
def CAN.off : Row :=
  { base := 0x80880540, s1 := 0x4, c1 := 4, lo := 0, width := 1, acc := .hid, clr := .blk }
/-- Not a register: ALONE has been reached and no frame acknowledged since (R355). -/
def CAN.noAck : Row :=
  { base := 0x80880550, s1 := 0x4, c1 := 4, lo := 0, width := 1, acc := .hid, clr := .blk }
/-- Rows of CAN, part 0. -/
def CAN.rows0 : List Row :=
  [CAN.CTL.LOCK, CAN.CTL.CFG_REJECT, CAN.CTL.TRX_EN, CAN.CTL.TX_ECHO, CAN.CTL.DEF_ACC, CAN.CTL.BO_AUTO, CAN.CTL.PXE, CAN.CTL.ROM, CAN.CTL.MON, CAN.CTL.BRSE, CAN.CTL.FDOE, CAN.CTL.BO_RECOVER, CAN.CTL.INIT, CAN.STATUS.STATE, CAN.STATUS.DOM_TMO, CAN.STATUS.PEX, CAN.STATUS.BUS_OFF, CAN.STATUS.ALONE, CAN.STATUS.ID_COLLISION, CAN.NBT.NBRP, CAN.NBT.NTSEG1, CAN.NBT.NTSEG2, CAN.NBT.NSJW, CAN.DBT.DBRP, CAN.DBT.DTSEG1, CAN.DBT.DTSEG2, CAN.DBT.DSJW, CAN.TDC.TDC_EN, CAN.TDC.TDCO, CAN.TDC.TDCV, CAN.ERR.TEC, CAN.ERR.RP, CAN.ERR.REC, CAN.ERR.ACK_RUN, CAN.ERR.LEC, CAN.IDC.RUN, CAN.IDC.IDE, CAN.IDC.ID, CAN.TS_COMP.DLY, CAN.TXB_ACT.ACT]
/-- Rows of CAN, part 1. -/
def CAN.rows1 : List Row :=
  [CAN.TXB_SHD.SHD, CAN.CNT.TX_OK, CAN.CNT.ERR_FRAMES, CAN.PIT_CTL.ARM, CAN.PIT_CTL.BUF, CAN.PIT_CTL.SEL, CAN.FLT_ID.EN, CAN.FLT_ID.IDE, CAN.FLT_ID.ACT, CAN.FLT_ID.ID, CAN.FLT_MASK.MASK, CAN.cur, CAN.cxl, CAN.cxlRes, CAN.ackBuf, CAN.colId, CAN.pitIdc, CAN.pitAck, CAN.cxlDone, CAN.off, CAN.noAck]
/-- Every row of CAN. -/
def CAN.rows : List Row := CAN.rows0 ++ CAN.rows1

/-- CTL [31:31] LOCK (15): Locks every RWL field of ETH -/
def ETH.CTL.LOCK : Row :=
  { base := 0x11B0000, lo := 31, width := 1, acc := .w1s, clr := .blk }
/-- CTL [30:30] CFG_REJECT (15): A refused write (R359, R366) -/
def ETH.CTL.CFG_REJECT : Row :=
  { base := 0x11B0000, lo := 30, width := 1, acc := .w1c, clr := .blk }
/-- AS_CFG [8:8] AS_BRIDGE (15): 802.1AS frames also to ring 30 -/
def ETH.AS_CFG.AS_BRIDGE : Row :=
  { base := 0x11B0004, lo := 8, width := 1, acc := .rwl, clr := .blk }
/-- AS_CFG [4:4] AS_PORT (15): Port taking Sync -/
def ETH.AS_CFG.AS_PORT : Row :=
  { base := 0x11B0004, lo := 4, width := 1, acc := .rwl, clr := .blk }
/-- AS_CFG [1:1] AS_BYPASS (15): 802.1AS and EAPOL bypass MACsec -/
def ETH.AS_CFG.AS_BYPASS : Row :=
  { base := 0x11B0004, lo := 1, width := 1, reset := 1, acc := .rwl, clr := .blk }
/-- AS_CFG [0:0] AS_EN (15): 802.1AS end station (R362) -/
def ETH.AS_CFG.AS_EN : Row :=
  { base := 0x11B0004, lo := 0, width := 1, reset := 1, acc := .rwl, clr := .blk }
/-- PCFG [31:31] EN (15): Port enabled -/
def ETH.PCFG.EN : Row :=
  { base := 0x11B0100, s1 := 0x100, c1 := 2, lo := 31, width := 1, acc := .rwl, clr := .blk }
/-- PCFG [30:30] MS (15): 0 slave, 1 master -/
def ETH.PCFG.MS : Row :=
  { base := 0x11B0100, s1 := 0x100, c1 := 2, lo := 30, width := 1, acc := .rwl, clr := .blk }
/-- PCFG [29:29] PROMISC (15): Accept every address -/
def ETH.PCFG.PROMISC : Row :=
  { base := 0x11B0100, s1 := 0x100, c1 := 2, lo := 29, width := 1, acc := .rwl, clr := .blk }
/-- PCFG [28:28] BCAST (15): Accept broadcast -/
def ETH.PCFG.BCAST : Row :=
  { base := 0x11B0100, s1 := 0x100, c1 := 2, lo := 28, width := 1, reset := 1, acc := .rwl, clr := .blk }
/-- PSTAT [31:31] LINK (15): Link up -/
def ETH.PSTAT.LINK : Row :=
  { base := 0x11B0104, s1 := 0x100, c1 := 2, lo := 31, width := 1, acc := .ro, clr := .blk }
/-- PSTAT [30:30] MS_FAULT (15): Role conflict (R359) -/
def ETH.PSTAT.MS_FAULT : Row :=
  { base := 0x11B0104, s1 := 0x100, c1 := 2, lo := 30, width := 1, acc := .w1c, clr := .blk }
/-- PSTAT [18:16] SQI (15): Signal quality, 0–7 -/
def ETH.PSTAT.SQI : Row :=
  { base := 0x11B0104, s1 := 0x100, c1 := 2, lo := 16, width := 3, acc := .ro, clr := .blk }
/-- PSTAT [15:0] LINK_DOWN (15): Link losses, saturating -/
def ETH.PSTAT.LINK_DOWN : Row :=
  { base := 0x11B0104, s1 := 0x100, c1 := 2, lo := 0, width := 16, acc := .ro, clr := .blk }
/-- MAC_LO [31:0] MAC_ADDR_LO (15): Station address, first octet in MAC_LO [7:0] -/
def ETH.MAC_LO.MAC_ADDR_LO : Row :=
  { base := 0x11B0108, s1 := 0x100, c1 := 2, lo := 0, width := 32, acc := .rwl, clr := .blk }
/-- MAC_HI [15:0] MAC_ADDR_HI (15): Station address, first octet in MAC_LO [7:0] -/
def ETH.MAC_HI.MAC_ADDR_HI : Row :=
  { base := 0x11B010C, s1 := 0x100, c1 := 2, lo := 0, width := 16, acc := .rwl, clr := .blk }
/-- MSEC_CFG [31:31] TX_EN (15): Transmit protection -/
def ETH.MSEC_CFG.TX_EN : Row :=
  { base := 0x11B0110, s1 := 0x100, c1 := 2, lo := 31, width := 1, acc := .rwl, clr := .blk }
/-- MSEC_CFG [30:30] RX_EN (15): Receive validation -/
def ETH.MSEC_CFG.RX_EN : Row :=
  { base := 0x11B0110, s1 := 0x100, c1 := 2, lo := 30, width := 1, acc := .rwl, clr := .blk }
/-- MSEC_CFG [29:28] CIPHER (15): 0 GCM-AES-128, 1 GCM-AES-256, 2 GCM-AES-XPN-128, 3 GCM-AES-XPN-256 -/
def ETH.MSEC_CFG.CIPHER : Row :=
  { base := 0x11B0110, s1 := 0x100, c1 := 2, lo := 28, width := 2, reset := 1, acc := .rwl, clr := .blk }
/-- MSEC_CFG [24:24] TX_AN (15): Transmit SA in use -/
def ETH.MSEC_CFG.TX_AN : Row :=
  { base := 0x11B0110, s1 := 0x100, c1 := 2, lo := 24, width := 1, acc := .rw, clr := .blk }
/-- MSEC_CFG [23:16] REPLAY_WIN (15): 0–255 -/
def ETH.MSEC_CFG.REPLAY_WIN : Row :=
  { base := 0x11B0110, s1 := 0x100, c1 := 2, lo := 16, width := 8, acc := .rwl, clr := .blk }
/-- MSEC_STAT [31:31] PN_LOW (15): Transmit PN at 0xC000_0000 -/
def ETH.MSEC_STAT.PN_LOW : Row :=
  { base := 0x11B0114, s1 := 0x100, c1 := 2, lo := 31, width := 1, acc := .w1c, clr := .blk }
/-- MSEC_STAT [30:30] PN_EXH (15): Transmit SA exhausted -/
def ETH.MSEC_STAT.PN_EXH : Row :=
  { base := 0x11B0114, s1 := 0x100, c1 := 2, lo := 30, width := 1, acc := .ro, clr := .blk }
/-- MSEC_STAT [15:0] DROP (15): Frames failing validation, saturating -/
def ETH.MSEC_STAT.DROP : Row :=
  { base := 0x11B0114, s1 := 0x100, c1 := 2, lo := 0, width := 16, acc := .ro, clr := .blk }
/-- TX_PN [31:0] PN (15): Next transmit PN, low 32 bits -/
def ETH.TX_PN.PN : Row :=
  { base := 0x11B0118, s1 := 0x100, c1 := 2, lo := 0, width := 32, acc := .ro, clr := .blk }
/-- RX_SCI [31:0] RX_SCI (15): Peer's SCI -/
def ETH.RX_SCI.RX_SCI : Row :=
  { base := 0x11B0120, s1 := 0x100, c1 := 2, s2 := 0x4, c2 := 2, lo := 0, width := 32, acc := .rwl, clr := .blk }
/-- RX_BAD [31:16] FCS (15): Bad FCS, runt or oversize, saturating -/
def ETH.RX_BAD.FCS : Row :=
  { base := 0x11B0128, s1 := 0x100, c1 := 2, lo := 16, width := 16, acc := .ro, clr := .blk }
/-- RX_BAD [15:0] CTRL (15): MAC control frames dropped, saturating -/
def ETH.RX_BAD.CTRL : Row :=
  { base := 0x11B0128, s1 := 0x100, c1 := 2, lo := 0, width := 16, acc := .ro, clr := .blk }
/-- MC_LO [31:0] MC_ADDR_LO (15): Multicast entry; 0 unused -/
def ETH.MC_LO.MC_ADDR_LO : Row :=
  { base := 0x11B0140, s1 := 0x100, c1 := 2, s2 := 0x8, c2 := 16, lo := 0, width := 32, acc := .rwl, clr := .blk }
/-- MC_HI [15:0] MC_ADDR_HI (15): Multicast entry; 0 unused -/
def ETH.MC_HI.MC_ADDR_HI : Row :=
  { base := 0x11B0144, s1 := 0x100, c1 := 2, s2 := 0x8, c2 := 16, lo := 0, width := 16, acc := .rwl, clr := .blk }
/-- MC_HI [31:31] MC_EN (15): Entry enabled -/
def ETH.MC_HI.MC_EN : Row :=
  { base := 0x11B0144, s1 := 0x100, c1 := 2, s2 := 0x8, c2 := 16, lo := 31, width := 1, acc := .rwl, clr := .blk }
/-- Not a register: key slots 4 × port + 2 × direction + AN: SAK, salt and SSCI as KEY_WIN carried them (R390). -/
def ETH.sak : Row :=
  { base := 0x801EBC9C, s1 := 0x30, c1 := 8, s2 := 0x4, c2 := 12, lo := 0, width := 32, acc := .hid, clr := .blk }
/-- Not a register: the key slot holds a SAK (R390). -/
def ETH.sakOn : Row :=
  { base := 0x801EBE1C, s1 := 0x4, c1 := 8, lo := 0, width := 1, acc := .hid, clr := .blk }
/-- Not a register: packet number of the port's transmit association that is not selected, by AN (R363). -/
def ETH.sakPn : Row :=
  { base := 0x801EBE3C, s1 := 0x8, c1 := 2, s2 := 0x4, c2 := 2, lo := 0, width := 32, acc := .hid, clr := .blk }
/-- Not a register: upper half of an association's transmit packet number, by AN (R363). -/
def ETH.pnHi : Row :=
  { base := 0x80880560, s1 := 0x8, c1 := 2, s2 := 0x4, c2 := 2, lo := 0, width := 32, acc := .hid, clr := .blk }
/-- Not a register: lowest packet number that an association has not yet received, by AN (R363). -/
def ETH.rxPn : Row :=
  { base := 0x80880570, s1 := 0x8, c1 := 2, s2 := 0x4, c2 := 2, lo := 0, width := 64, acc := .hid, clr := .blk }
/-- Not a register: association on which the port's frame in progress is protected (R364). -/
def ETH.frameAn : Row :=
  { base := 0x80880580, s1 := 0x4, c1 := 2, lo := 0, width := 1, acc := .hid, clr := .blk }
/-- Rows of ETH, part 0. -/
def ETH.rows0 : List Row :=
  [ETH.CTL.LOCK, ETH.CTL.CFG_REJECT, ETH.AS_CFG.AS_BRIDGE, ETH.AS_CFG.AS_PORT, ETH.AS_CFG.AS_BYPASS, ETH.AS_CFG.AS_EN, ETH.PCFG.EN, ETH.PCFG.MS, ETH.PCFG.PROMISC, ETH.PCFG.BCAST, ETH.PSTAT.LINK, ETH.PSTAT.MS_FAULT, ETH.PSTAT.SQI, ETH.PSTAT.LINK_DOWN, ETH.MAC_LO.MAC_ADDR_LO, ETH.MAC_HI.MAC_ADDR_HI, ETH.MSEC_CFG.TX_EN, ETH.MSEC_CFG.RX_EN, ETH.MSEC_CFG.CIPHER, ETH.MSEC_CFG.TX_AN, ETH.MSEC_CFG.REPLAY_WIN, ETH.MSEC_STAT.PN_LOW, ETH.MSEC_STAT.PN_EXH, ETH.MSEC_STAT.DROP, ETH.TX_PN.PN, ETH.RX_SCI.RX_SCI, ETH.RX_BAD.FCS, ETH.RX_BAD.CTRL, ETH.MC_LO.MC_ADDR_LO, ETH.MC_HI.MC_ADDR_HI, ETH.MC_HI.MC_EN, ETH.sak, ETH.sakOn, ETH.sakPn, ETH.pnHi, ETH.rxPn, ETH.frameAn]
/-- Every row of ETH. -/
def ETH.rows : List Row := ETH.rows0

/-- CTL [31:31] LOCK (21): Locks every RWL field of PERF -/
def PERF.CTL.LOCK : Row :=
  { base := 0x11C0000, lo := 31, width := 1, acc := .w1s, clr := .blk }
/-- CTL [30:30] CFG_REJECT (21): A refused write -/
def PERF.CTL.CFG_REJECT : Row :=
  { base := 0x11C0000, lo := 30, width := 1, acc := .w1c, clr := .blk }
/-- CTL [8:8] USER_EN (21): User-mode read by HC; held 0 by R401 -/
def PERF.CTL.USER_EN : Row :=
  { base := 0x11C0000, lo := 8, width := 1, acc := .rw, clr := .blk }
/-- CTL [4:4] CAIRN_STOP (21): Counters stop at a cairn (R473) -/
def PERF.CTL.CAIRN_STOP : Row :=
  { base := 0x11C0000, lo := 4, width := 1, acc := .rwl, clr := .blk }
/-- CTL [0:0] EN (21): Counting enabled -/
def PERF.CTL.EN : Row :=
  { base := 0x11C0000, lo := 0, width := 1, acc := .rw, clr := .blk }
/-- OVF [31:0] OVF (21): Counter n wrapped; sticky -/
def PERF.OVF.OVF : Row :=
  { base := 0x11C0004, lo := 0, width := 32, acc := .w1c, clr := .blk }
/-- INT_EN [31:0] INT (21): Interrupt on wrap (R471) -/
def PERF.INT_EN.INT : Row :=
  { base := 0x11C0008, lo := 0, width := 32, acc := .rw, clr := .blk }
/-- SMP_CFG [31:31] SMP_EN (21): Instruction sampling (R472) -/
def PERF.SMP_CFG.SMP_EN : Row :=
  { base := 0x11C000C, lo := 31, width := 1, acc := .rw, clr := .blk }
/-- SMP_CFG [23:8] SMP_PER (21): Instructions, 256–65 535 -/
def PERF.SMP_CFG.SMP_PER : Row :=
  { base := 0x11C000C, lo := 8, width := 16, reset := 0x1000, acc := .rw, clr := .blk, range := some (256, 65535) }
/-- SMP_CFG [1:0] CORE (21): HC1, HC0 sampled -/
def PERF.SMP_CFG.CORE : Row :=
  { base := 0x11C000C, lo := 0, width := 2, reset := 3, acc := .rw, clr := .blk }
/-- SMP_BASE [21:12] BASE (21): Buffer in shared SRAM, 4 KiB units -/
def PERF.SMP_BASE.BASE : Row :=
  { base := 0x11C0010, lo := 12, width := 10, acc := .rw, clr := .blk }
/-- SMP_BASE [3:0] SMP_SIZE (21): 2^SMP_SIZE KiB, 2–8 -/
def PERF.SMP_BASE.SMP_SIZE : Row :=
  { base := 0x11C0010, lo := 0, width := 4, reset := 4, acc := .rw, clr := .blk, range := some (2, 8) }
/-- SMP_STAT [31:16] SMP_DROP (21): Dropped records, saturating -/
def PERF.SMP_STAT.SMP_DROP : Row :=
  { base := 0x11C0014, lo := 16, width := 16, acc := .ro, clr := .blk }
/-- SMP_STAT [15:0] SMP_WR (21): Next record index -/
def PERF.SMP_STAT.SMP_WR : Row :=
  { base := 0x11C0014, lo := 0, width := 16, acc := .ro, clr := .blk }
/-- PERF_PC [31:0] PC (21): Engine PC at the last PERF interrupt -/
def PERF.PERF_PC.PC : Row :=
  { base := 0x11C0018, lo := 0, width := 32, acc := .ro, clr := .blk }
/-- CNT_SEL [31:31] CEN (21): Counter enabled -/
def PERF.CNT_SEL.CEN : Row :=
  { base := 0x11C0100, s1 := 0x10, c1 := 32, lo := 31, width := 1, acc := .rw, clr := .blk }
/-- CNT_SEL [29:28] MODE (21): 0 edge, 1 level, 2 threshold; 3 refused -/
def PERF.CNT_SEL.MODE : Row :=
  { base := 0x11C0100, s1 := 0x10, c1 := 32, lo := 28, width := 2, acc := .rw, clr := .blk, range := some (0, 2) }
/-- CNT_SEL [27:20] SOURCE (21): Block, R270 codes -/
def PERF.CNT_SEL.SOURCE : Row :=
  { base := 0x11C0100, s1 := 0x10, c1 := 32, lo := 20, width := 8, acc := .rw, clr := .blk }
/-- CNT_SEL [19:15] INST (21): Instance, 0–31 -/
def PERF.CNT_SEL.INST : Row :=
  { base := 0x11C0100, s1 := 0x10, c1 := 32, lo := 15, width := 5, acc := .rw, clr := .blk }
/-- CNT_SEL [14:8] EVENT (21): R470 -/
def PERF.CNT_SEL.EVENT : Row :=
  { base := 0x11C0100, s1 := 0x10, c1 := 32, lo := 8, width := 7, acc := .rw, clr := .blk }
/-- CNT_SEL [7:0] THRESH (21): N for threshold mode -/
def PERF.CNT_SEL.THRESH : Row :=
  { base := 0x11C0100, s1 := 0x10, c1 := 32, lo := 0, width := 8, acc := .rw, clr := .blk }
/-- CNT_LO [31:0] CNT (21): Count bits [31:0]; writable while CEN is clear -/
def PERF.CNT_LO.CNT : Row :=
  { base := 0x11C0104, s1 := 0x10, c1 := 32, lo := 0, width := 32, acc := .rw, clr := .blk }
/-- CNT_HI [15:0] CNT (21): Count bits [47:32]; read latched by CNTn_LO -/
def PERF.CNT_HI.CNT : Row :=
  { base := 0x11C0108, s1 := 0x10, c1 := 32, lo := 0, width := 16, acc := .rw, clr := .blk }
/-- Not a register: bits [47:32] of the counter, which CNTn_HI shows when CNTn_LO is read (R470). -/
def PERF.cntHi : Row :=
  { base := 0x801EBE4C, s1 := 0x4, c1 := 32, lo := 0, width := 16, acc := .hid, clr := .blk }
/-- Not a register: the counters stand still since a cairn, with CAIRN_STOP (R473). -/
def PERF.stopped : Row :=
  { base := 0x801EBECC, lo := 0, width := 1, acc := .hid, clr := .blk }
/-- Rows of PERF, part 0. -/
def PERF.rows0 : List Row :=
  [PERF.CTL.LOCK, PERF.CTL.CFG_REJECT, PERF.CTL.USER_EN, PERF.CTL.CAIRN_STOP, PERF.CTL.EN, PERF.OVF.OVF, PERF.INT_EN.INT, PERF.SMP_CFG.SMP_EN, PERF.SMP_CFG.SMP_PER, PERF.SMP_CFG.CORE, PERF.SMP_BASE.BASE, PERF.SMP_BASE.SMP_SIZE, PERF.SMP_STAT.SMP_DROP, PERF.SMP_STAT.SMP_WR, PERF.PERF_PC.PC, PERF.CNT_SEL.CEN, PERF.CNT_SEL.MODE, PERF.CNT_SEL.SOURCE, PERF.CNT_SEL.INST, PERF.CNT_SEL.EVENT, PERF.CNT_SEL.THRESH, PERF.CNT_LO.CNT, PERF.CNT_HI.CNT, PERF.cntHi, PERF.stopped]
/-- Every row of PERF. -/
def PERF.rows : List Row := PERF.rows0

/-- CTL [31:31] LOCK (21): Locks every RWL field of MEM -/
def MEM.CTL.LOCK : Row :=
  { base := 0x11D0000, lo := 31, width := 1, acc := .w1s, clr := .blk }
/-- CTL [30:30] CFG_REJECT (21): A refused write or command -/
def MEM.CTL.CFG_REJECT : Row :=
  { base := 0x11D0000, lo := 30, width := 1, acc := .w1c, clr := .blk }
/-- CTL [0:0] SCRUB_EN (21): Patrol scrub (R460) -/
def MEM.CTL.SCRUB_EN : Row :=
  { base := 0x11D0000, lo := 0, width := 1, reset := 1, acc := .rwl, clr := .blk }
/-- SCRUB [15:0] SCRUB_PER (21): Fabric cycles, 16–65 535 -/
def MEM.SCRUB.SCRUB_PER : Row :=
  { base := 0x11D0004, lo := 0, width := 16, reset := 0xc8, acc := .rwl, clr := .blk, range := some (16, 65535) }
/-- ECC_STAT [31:16] SEC_CNT (21): Corrections, saturating -/
def MEM.ECC_STAT.SEC_CNT : Row :=
  { base := 0x11D0008, lo := 16, width := 16, acc := .ro, clr := .blk }
/-- ECC_STAT [15:8] DED_CNT (21): Double-bit errors, saturating -/
def MEM.ECC_STAT.DED_CNT : Row :=
  { base := 0x11D0008, lo := 8, width := 8, acc := .ro, clr := .blk }
/-- ECC_STAT [5:0] DED (21): Per memory ID 5–0 -/
def MEM.ECC_STAT.DED : Row :=
  { base := 0x11D0008, lo := 0, width := 6, acc := .w1c, clr := .blk }
/-- ECC_ADDR [31:28] MEM (21): Memory of the last DED -/
def MEM.ECC_ADDR.MEM : Row :=
  { base := 0x11D000C, lo := 28, width := 4, acc := .ro, clr := .blk }
/-- ECC_ADDR [18:0] ADDR (21): Word address -/
def MEM.ECC_ADDR.ADDR : Row :=
  { base := 0x11D000C, lo := 0, width := 19, acc := .ro, clr := .blk }
/-- ARB_STAT [31:16] DMA_WAIT (21): Longest DMA wait, fabric cycles, saturating -/
def MEM.ARB_STAT.DMA_WAIT : Row :=
  { base := 0x11D0010, lo := 16, width := 16, acc := .ro, clr := .blk }
/-- ARB_STAT [15:0] WIN_ABORT (21): Window reads aborted (R458), saturating -/
def MEM.ARB_STAT.WIN_ABORT : Row :=
  { base := 0x11D0010, lo := 0, width := 16, acc := .ro, clr := .blk }
/-- MARCH_CMD [31:31] GO (21): Starts a run; reads 1 until done -/
def MEM.MARCH_CMD.GO : Row :=
  { base := 0x11D0020, lo := 31, width := 1, acc := .w1s, clr := .blk }
/-- MARCH_CMD [30:30] DESTR (21): 1 destructive, 0 content-preserving -/
def MEM.MARCH_CMD.DESTR : Row :=
  { base := 0x11D0020, lo := 30, width := 1, acc := .rw, clr := .blk }
/-- MARCH_CMD [29:29] REPAIR_EN (21): Repair on failure (R463) -/
def MEM.MARCH_CMD.REPAIR_EN : Row :=
  { base := 0x11D0020, lo := 29, width := 1, reset := 1, acc := .rw, clr := .blk }
/-- MARCH_CMD [5:0] TARGET (21): Memory IDs 5–0 -/
def MEM.MARCH_CMD.TARGET : Row :=
  { base := 0x11D0020, lo := 0, width := 6, acc := .rw, clr := .blk }
/-- MARCH_CFG [5:0] BOOT_EN (21): March at start-up (R464); held in MRAM -/
def MEM.MARCH_CFG.BOOT_EN : Row :=
  { base := 0x11D0024, lo := 0, width := 6, acc := .rw, clr := .never }
/-- MARCH_STAT [31:31] BUSY (21): Run active -/
def MEM.MARCH_STAT.BUSY : Row :=
  { base := 0x11D0028, lo := 31, width := 1, acc := .ro, clr := .blk }
/-- MARCH_STAT [30:28] RESULT (21): 0 none, 1 pass, 2 fail, 3 refused, 4 aborted -/
def MEM.MARCH_STAT.RESULT : Row :=
  { base := 0x11D0028, lo := 28, width := 3, acc := .ro, clr := .blk }
/-- MARCH_STAT [15:0] FAIL_CNT (21): Failing words, saturating -/
def MEM.MARCH_STAT.FAIL_CNT : Row :=
  { base := 0x11D0028, lo := 0, width := 16, acc := .ro, clr := .blk }
/-- MARCH_FAIL [31:28] MEM (21): Memory ID of the first failure -/
def MEM.MARCH_FAIL.MEM : Row :=
  { base := 0x11D002C, lo := 28, width := 4, acc := .ro, clr := .blk }
/-- MARCH_FAIL [26:20] BIT (21): 0–71 -/
def MEM.MARCH_FAIL.BIT : Row :=
  { base := 0x11D002C, lo := 20, width := 7, acc := .ro, clr := .blk }
/-- MARCH_FAIL [18:0] ADDR (21): Word address -/
def MEM.MARCH_FAIL.ADDR : Row :=
  { base := 0x11D002C, lo := 0, width := 19, acc := .ro, clr := .blk }
/-- REPAIR [31:24] ROWS (21): Spare rows in use, all memories -/
def MEM.REPAIR.ROWS : Row :=
  { base := 0x11D0030, lo := 24, width := 8, acc := .ro, clr := .never }
/-- REPAIR [23:16] COLS (21): Spare columns in use -/
def MEM.REPAIR.COLS : Row :=
  { base := 0x11D0030, lo := 16, width := 8, acc := .ro, clr := .never }
/-- REPAIR [5:0] UNREP (21): Unrepaired failure, memory IDs 5–0 -/
def MEM.REPAIR.UNREP : Row :=
  { base := 0x11D0030, lo := 0, width := 6, acc := .ro, clr := .never }
/-- PIT_CTL [31:31] ARM (21): Arms the selected piton; clears after it acts -/
def MEM.PIT_CTL.ARM : Row :=
  { base := 0x11D0034, lo := 31, width := 1, acc := .w1s, clr := .blk }
/-- PIT_CTL [22:4] ADDR (21): Shared SRAM word address -/
def MEM.PIT_CTL.ADDR : Row :=
  { base := 0x11D0034, lo := 4, width := 19, acc := .rw, clr := .blk }
/-- PIT_CTL [3:0] SEL (21): Piton code (R476); 0 means none -/
def MEM.PIT_CTL.SEL : Row :=
  { base := 0x11D0034, lo := 0, width := 4, acc := .rw, clr := .blk }
/-- Not a register: memory whose word the scrubber reads next (R460). -/
def MEM.scrubMem : Row :=
  { base := 0x801EBED0, lo := 0, width := 3, acc := .hid, clr := .blk }
/-- Not a register: that word (R460). -/
def MEM.scrubWord : Row :=
  { base := 0x801EBED4, lo := 0, width := 19, acc := .hid, clr := .blk }
/-- Not a register: word of a host core's memory as a debugger wrote it (R396, R457). -/
def MEM.host : Row :=
  { base := 0x801EBED8, s1 := 0x40000, c1 := 2, s2 := 0x4, c2 := 65536, lo := 0, width := 32, acc := .hid, clr := .ctl }
/-- Not a register: the word has been written since the firmware was loaded. -/
def MEM.hostOn : Row :=
  { base := 0x8026BED8, s1 := 0x40000, c1 := 2, s2 := 0x4, c2 := 65536, lo := 0, width := 1, acc := .hid, clr := .ctl }
/-- Not a register: a destructive march has left all zero what was not written since (R462): bit 0 the host-core memories, 1 + e the code of engine e, 8 + a the microcode store of axis a. -/
def MEM.blank : Row :=
  { base := 0x802EBED8, lo := 0, width := 10, acc := .hid, clr := .ctl }
/-- Rows of MEM, part 0. -/
def MEM.rows0 : List Row :=
  [MEM.CTL.LOCK, MEM.CTL.CFG_REJECT, MEM.CTL.SCRUB_EN, MEM.SCRUB.SCRUB_PER, MEM.ECC_STAT.SEC_CNT, MEM.ECC_STAT.DED_CNT, MEM.ECC_STAT.DED, MEM.ECC_ADDR.MEM, MEM.ECC_ADDR.ADDR, MEM.ARB_STAT.DMA_WAIT, MEM.ARB_STAT.WIN_ABORT, MEM.MARCH_CMD.GO, MEM.MARCH_CMD.DESTR, MEM.MARCH_CMD.REPAIR_EN, MEM.MARCH_CMD.TARGET, MEM.MARCH_CFG.BOOT_EN, MEM.MARCH_STAT.BUSY, MEM.MARCH_STAT.RESULT, MEM.MARCH_STAT.FAIL_CNT, MEM.MARCH_FAIL.MEM, MEM.MARCH_FAIL.BIT, MEM.MARCH_FAIL.ADDR, MEM.REPAIR.ROWS, MEM.REPAIR.COLS, MEM.REPAIR.UNREP, MEM.PIT_CTL.ARM, MEM.PIT_CTL.ADDR, MEM.PIT_CTL.SEL, MEM.scrubMem, MEM.scrubWord, MEM.host, MEM.hostOn, MEM.blank]
/-- Every row of MEM. -/
def MEM.rows : List Row := MEM.rows0

/-- CTL [31:31] LOCK (21): Locks every RWL field of BIST -/
def BIST.CTL.LOCK : Row :=
  { base := 0x11E0000, lo := 31, width := 1, acc := .w1s, clr := .blk }
/-- CTL [30:30] CFG_REJECT (21): A refused write or request -/
def BIST.CTL.CFG_REJECT : Row :=
  { base := 0x11E0000, lo := 30, width := 1, acc := .w1c, clr := .blk }
/-- CMD [31:31] GO (21): Tests DOMAIN (R468); reads 1 until done -/
def BIST.CMD.GO : Row :=
  { base := 0x11E0004, lo := 31, width := 1, acc := .w1s, clr := .blk }
/-- CMD [3:0] DOMAIN (21): 3–8 -/
def BIST.CMD.DOMAIN : Row :=
  { base := 0x11E0004, lo := 0, width := 4, acc := .rw, clr := .blk, range := some (3, 8) }
/-- STAT [31:31] BUSY (21): Run active -/
def BIST.STAT.BUSY : Row :=
  { base := 0x11E0008, lo := 31, width := 1, acc := .ro, clr := .blk }
/-- STAT [30:28] RESULT (21): 0 none, 1 pass, 2 fail, 3 refused -/
def BIST.STAT.RESULT : Row :=
  { base := 0x11E0008, lo := 28, width := 3, acc := .ro, clr := .blk }
/-- STAT [8:1] PASS (21): Domain passed at start-up or on request, PD8–PD1 -/
def BIST.STAT.PASS : Row :=
  { base := 0x11E0008, lo := 1, width := 8, acc := .ro, clr := .ctl }
/-- SIG [31:0] SIG (21): MISR of the last failing run -/
def BIST.SIG.SIG : Row :=
  { base := 0x11E000C, s1 := 0x4, c1 := 2, lo := 0, width := 32, acc := .ro, clr := .ctl }
/-- SAVE_BASE [21:16] BASE (21): Save area, 64 KiB units; default the top 64 KiB -/
def BIST.SAVE_BASE.BASE : Row :=
  { base := 0x11E0014, lo := 16, width := 6, reset := 0x3f, acc := .rwl, clr := .blk }
/-- CNT [31:16] RUNS (21): Runs since start-up, saturating -/
def BIST.CNT.RUNS : Row :=
  { base := 0x11E0018, lo := 16, width := 16, acc := .ro, clr := .ctl }
/-- CNT [15:0] FAILS (21): Failed runs, saturating -/
def BIST.CNT.FAILS : Row :=
  { base := 0x11E0018, lo := 0, width := 16, acc := .ro, clr := .ctl }
/-- Rows of BIST, part 0. -/
def BIST.rows0 : List Row :=
  [BIST.CTL.LOCK, BIST.CTL.CFG_REJECT, BIST.CMD.GO, BIST.CMD.DOMAIN, BIST.STAT.BUSY, BIST.STAT.RESULT, BIST.STAT.PASS, BIST.SIG.SIG, BIST.SAVE_BASE.BASE, BIST.CNT.RUNS, BIST.CNT.FAILS]
/-- Every row of BIST. -/
def BIST.rows : List Row := BIST.rows0

/-- CTL [31:31] LOCK (17): Locks every RWL field of SEC -/
def SEC.CTL.LOCK : Row :=
  { base := 0x11F0000, lo := 31, width := 1, acc := .w1s, clr := .blk }
/-- CTL [30:30] CFG_REJECT (17): A refused write (R404) -/
def SEC.CTL.CFG_REJECT : Row :=
  { base := 0x11F0000, lo := 30, width := 1, acc := .w1c, clr := .blk }
/-- LC_STAT [31:31] LC_PEND (17): Transition being recorded (R380) -/
def SEC.LC_STAT.LC_PEND : Row :=
  { base := 0x11F0004, lo := 31, width := 1, acc := .ro, clr := .never }
/-- LC_STAT [18:16] STATE (17): 0 MANUFACTURE, 1 PROVISIONED, 2 PRODUCTION, 3 SERVICE, 4 RETIRED -/
def SEC.LC_STAT.STATE : Row :=
  { base := 0x11F0004, lo := 16, width := 3, acc := .ro, clr := .never }
/-- LC_STAT [8:8] CODE (17): 0 NV-2412-AQ, 1 NV-2412-DV -/
def SEC.LC_STAT.CODE : Row :=
  { base := 0x11F0004, lo := 8, width := 1, acc := .ro, clr := .never }
/-- LC_STAT [3:0] RESULT (17): Result of the last request -/
def SEC.LC_STAT.RESULT : Row :=
  { base := 0x11F0004, lo := 0, width := 4, acc := .ro, clr := .blk }
/-- LC_CMD [31:31] GO (17): Requests TARGET; reads 1 until recorded -/
def SEC.LC_CMD.GO : Row :=
  { base := 0x11F0008, lo := 31, width := 1, acc := .w1s, clr := .blk }
/-- LC_CMD [2:0] TARGET (17): State code as LC_STAT.STATE -/
def SEC.LC_CMD.TARGET : Row :=
  { base := 0x11F0008, lo := 0, width := 3, acc := .rw, clr := .blk }
/-- ROLE [31:31] OPEN (17): Role session open on the host link -/
def SEC.ROLE.OPEN : Row :=
  { base := 0x11F000C, lo := 31, width := 1, acc := .ro, clr := .blk }
/-- ROLE [30:28] ROLE (17): Host-link role (R322 codes) -/
def SEC.ROLE.ROLE : Row :=
  { base := 0x11F000C, lo := 28, width := 3, reset := 5, acc := .ro, clr := .blk }
/-- ROLE [15:0] IDLE_LEFT (17): s until ROLE_TMO -/
def SEC.ROLE.IDLE_LEFT : Row :=
  { base := 0x11F000C, lo := 0, width := 16, acc := .ro, clr := .blk }
/-- AUTH_CMD [31:31] GO (17): Starts OP; reads 1 until done -/
def SEC.AUTH_CMD.GO : Row :=
  { base := 0x11F0010, lo := 31, width := 1, acc := .w1s, clr := .blk }
/-- AUTH_CMD [10:8] ROLE (17): Role requested, 1–4 -/
def SEC.AUTH_CMD.ROLE : Row :=
  { base := 0x11F0010, lo := 8, width := 3, acc := .rw, clr := .blk, range := some (1, 4) }
/-- AUTH_CMD [5:4] LEVEL (17): Debug level 1–3; DBG port only -/
def SEC.AUTH_CMD.LEVEL : Row :=
  { base := 0x11F0010, lo := 4, width := 2, acc := .rw, clr := .blk }
/-- AUTH_CMD [3:0] OP (17): 1 CHALLENGE, 2 VERIFY, 3 CLOSE -/
def SEC.AUTH_CMD.OP : Row :=
  { base := 0x11F0010, lo := 0, width := 4, acc := .rw, clr := .blk }
/-- AUTH_STAT [31:31] BUSY (17): Operation running -/
def SEC.AUTH_STAT.BUSY : Row :=
  { base := 0x11F0014, lo := 31, width := 1, acc := .ro, clr := .blk }
/-- AUTH_STAT [23:16] FAILS (17): Consecutive failures (R385) -/
def SEC.AUTH_STAT.FAILS : Row :=
  { base := 0x11F0014, lo := 16, width := 8, acc := .ro, clr := .never }
/-- AUTH_STAT [15:4] LOCK_LEFT (17): Remaining lockout, 16 s units, rounded up -/
def SEC.AUTH_STAT.LOCK_LEFT : Row :=
  { base := 0x11F0014, lo := 4, width := 12, acc := .ro, clr := .never }
/-- AUTH_STAT [3:0] RESULT (17): R404 -/
def SEC.AUTH_STAT.RESULT : Row :=
  { base := 0x11F0014, lo := 0, width := 4, acc := .ro, clr := .blk }
/-- ROLE_CFG [11:0] ROLE_TMO (17): s, 10–3600 -/
def SEC.ROLE_CFG.ROLE_TMO : Row :=
  { base := 0x11F0018, lo := 0, width := 12, reset := 0x258, acc := .rwl, clr := .blk, range := some (10, 3600) }
/-- DBG_STAT [31:31] OPEN (17): Debug session open -/
def SEC.DBG_STAT.OPEN : Row :=
  { base := 0x11F001C, lo := 31, width := 1, acc := .ro, clr := .cold }
/-- DBG_STAT [30:28] ROLE (17): Role of the session -/
def SEC.DBG_STAT.ROLE : Row :=
  { base := 0x11F001C, lo := 28, width := 3, acc := .ro, clr := .cold }
/-- DBG_STAT [25:24] LEVEL (17): Level in force -/
def SEC.DBG_STAT.LEVEL : Row :=
  { base := 0x11F001C, lo := 24, width := 2, acc := .ro, clr := .cold }
/-- DBG_STAT [8:8] HALT (17): An engine is halted -/
def SEC.DBG_STAT.HALT : Row :=
  { base := 0x11F001C, lo := 8, width := 1, acc := .ro, clr := .cold }
/-- DBG_STAT [1:1] VDC_OK (17): V_dc condition of R398 -/
def SEC.DBG_STAT.VDC_OK : Row :=
  { base := 0x11F001C, lo := 1, width := 1, acc := .ro, clr := .cold }
/-- DBG_STAT [0:0] VREF (17): DBG_VREF present -/
def SEC.DBG_STAT.VREF : Row :=
  { base := 0x11F001C, lo := 0, width := 1, acc := .ro, clr := .cold }
/-- AUTH_CHAL [31:0] CHAL (17): Nonce, byte 0 in word 0 [7:0] -/
def SEC.AUTH_CHAL.CHAL : Row :=
  { base := 0x11F0020, s1 := 0x4, c1 := 12, lo := 0, width := 32, acc := .ro, clr := .blk }
/-- AUTH_SIG [31:0] SIG (17): r ‖ s -/
def SEC.AUTH_SIG.SIG : Row :=
  { base := 0x11F0100, s1 := 0x4, c1 := 24, lo := 0, width := 32, acc := .wo, clr := .blk }
/-- FW_STAT [31:31] PEND (17): A valid image awaits the next boot -/
def SEC.FW_STAT.PEND : Row :=
  { base := 0x11F0050, lo := 31, width := 1, acc := .ro, clr := .blk }
/-- FW_STAT [30:30] BOOT_FAIL (17): No valid image (R389) -/
def SEC.FW_STAT.BOOT_FAIL : Row :=
  { base := 0x11F0050, lo := 30, width := 1, acc := .ro, clr := .blk }
/-- FW_STAT [24:24] SLOT (17): Slot running -/
def SEC.FW_STAT.SLOT : Row :=
  { base := 0x11F0050, lo := 24, width := 1, acc := .ro, clr := .blk }
/-- FW_STAT [21:16] FW_SVN (17): Monotonic counter -/
def SEC.FW_STAT.FW_SVN : Row :=
  { base := 0x11F0050, lo := 16, width := 6, acc := .ro, clr := .never }
/-- FW_STAT [13:8] IMG_SVN (17): SVN of the running image -/
def SEC.FW_STAT.IMG_SVN : Row :=
  { base := 0x11F0050, lo := 8, width := 6, acc := .ro, clr := .blk }
/-- FW_CMD [1:1] AUTO_COMMIT (17): Commit at first boot (R390) -/
def SEC.FW_CMD.AUTO_COMMIT : Row :=
  { base := 0x11F0054, lo := 1, width := 1, acc := .rwl, clr := .blk }
/-- FW_CMD [0:0] COMMIT (17): Raises FW_SVN to IMG_SVN; reads 0 -/
def SEC.FW_CMD.COMMIT : Row :=
  { base := 0x11F0054, lo := 0, width := 1, acc := .w1s, clr := .blk }
/-- CAL_STAT [31:31] IN_FORCE (17): A valid image is in force in MRAM -/
def SEC.CAL_STAT.IN_FORCE : Row :=
  { base := 0x11F0058, lo := 31, width := 1, acc := .ro, clr := .never }
/-- CAL_STAT [30:30] PEND (17): Image in force not yet loaded (R392) -/
def SEC.CAL_STAT.PEND : Row :=
  { base := 0x11F0058, lo := 30, width := 1, acc := .ro, clr := .never }
/-- CAL_STAT [29:29] LOADED (17): Calibration RAM holds the image in force -/
def SEC.CAL_STAT.LOADED : Row :=
  { base := 0x11F0058, lo := 29, width := 1, acc := .ro, clr := .blk }
/-- CAL_STAT [28:28] TBL_LOCK (17): Table ports locked (R395) -/
def SEC.CAL_STAT.TBL_LOCK : Row :=
  { base := 0x11F0058, lo := 28, width := 1, acc := .ro, clr := .blk }
/-- CAL_STAT [27:27] ZEROING (17): Hardware zeroing running -/
def SEC.CAL_STAT.ZEROING : Row :=
  { base := 0x11F0058, lo := 27, width := 1, acc := .ro, clr := .blk }
/-- CAL_STAT [21:16] CAL_SVN (17): Monotonic counter -/
def SEC.CAL_STAT.CAL_SVN : Row :=
  { base := 0x11F0058, lo := 16, width := 6, acc := .ro, clr := .never }
/-- CAL_STAT [13:8] IMG_SVN (17): CAL_SVN of the image in force -/
def SEC.CAL_STAT.IMG_SVN : Row :=
  { base := 0x11F0058, lo := 8, width := 6, acc := .ro, clr := .never }
/-- CAL_STAT [0:0] KEY_OK (17): K_INT installed -/
def SEC.CAL_STAT.KEY_OK : Row :=
  { base := 0x11F0058, lo := 0, width := 1, acc := .ro, clr := .never }
/-- CAL_VER [31:0] VERSION (17): VERSION of the image in force -/
def SEC.CAL_VER.VERSION : Row :=
  { base := 0x11F005C, lo := 0, width := 32, acc := .ro, clr := .never }
/-- FUSE [31:31] PERF_USER (17): R401 -/
def SEC.FUSE.PERF_USER : Row :=
  { base := 0x11F0060, lo := 31, width := 1, acc := .ro, clr := .never }
/-- FUSE [30:30] DBG_PROD_DIS (17): R397 -/
def SEC.FUSE.DBG_PROD_DIS : Row :=
  { base := 0x11F0060, lo := 30, width := 1, acc := .ro, clr := .never }
/-- DEV_ID [31:0] DEV_ID (17): 64-bit device identity -/
def SEC.DEV_ID.DEV_ID : Row :=
  { base := 0x11F0064, s1 := 0x4, c1 := 2, lo := 0, width := 32, acc := .ro, clr := .never }
/-- KEY_CMD [31:31] GO (17): Starts OP; reads 1 until done -/
def SEC.KEY_CMD.GO : Row :=
  { base := 0x11F0070, lo := 31, width := 1, acc := .w1s, clr := .blk }
/-- KEY_CMD [11:8] SLOT (17): Role code, SAK slot, or fuse (0 PERF_USER, 1 DBG_PROD_DIS) -/
def SEC.KEY_CMD.SLOT : Row :=
  { base := 0x11F0070, lo := 8, width := 4, acc := .rw, clr := .blk }
/-- KEY_CMD [3:0] OP (17): 1 INT_INSTALL, 2 ROLE_INSTALL, 3 ROLE_REVOKE, 4 SAK_INSTALL, 5 SAK_RETIRE, 6 FUSE_BLOW -/
def SEC.KEY_CMD.OP : Row :=
  { base := 0x11F0070, lo := 0, width := 4, acc := .rw, clr := .blk }
/-- KEY_STAT [31:31] BUSY (17): Operation running -/
def SEC.KEY_STAT.BUSY : Row :=
  { base := 0x11F0074, lo := 31, width := 1, acc := .ro, clr := .blk }
/-- KEY_STAT [18:16] ROLE_KEYS (17): Key present: SERVICE, CALIBRATOR, INTEGRATOR -/
def SEC.KEY_STAT.ROLE_KEYS : Row :=
  { base := 0x11F0074, lo := 16, width := 3, acc := .ro, clr := .never }
/-- KEY_STAT [3:0] RESULT (17): R404 -/
def SEC.KEY_STAT.RESULT : Row :=
  { base := 0x11F0074, lo := 0, width := 4, acc := .ro, clr := .blk }
/-- KEY_WIN [31:0] DATA (17): Operation payload; zeroed after each operation -/
def SEC.KEY_WIN.DATA : Row :=
  { base := 0x11F0200, s1 := 0x4, c1 := 64, lo := 0, width := 32, acc := .wo, clr := .blk }
/-- DEV_PUB [31:0] KEY (17): Device transport public key, x ‖ y -/
def SEC.DEV_PUB.KEY : Row :=
  { base := 0x11F0300, s1 := 0x4, c1 := 24, lo := 0, width := 32, acc := .ro, clr := .never }
/-- Not a register: role of the host-link session, 0 none: the link acts as HOST (R383, R386). -/
def SEC.hostRole : Row :=
  { base := 0x802EBEDC, lo := 0, width := 3, acc := .hid, clr := .ctl }
/-- Not a register: TAP instruction in force: 0 IDCODE, 1 BYPASS, 2 SAMPLE/PRELOAD, 3 EXTEST, 4 the debug port (R382). -/
def SEC.tapIr : Row :=
  { base := 0x802EBEE0, lo := 0, width := 3, acc := .hid, clr := .never }
/-- Not a register: kind of each handle's table in the loaded calibration image (R391). -/
def SEC.calKind : Row :=
  { base := 0x802EBEE4, s2 := 0x4, c2 := 256, lo := 0, width := 8, acc := .hid, clr := .blk }
/-- Not a register: 1 + the state whose intent bit is blown and whose state bit is not (R381). -/
def SEC.lcIntent : Row :=
  { base := 0x802EC2E4, lo := 0, width := 3, acc := .hid, clr := .never }
/-- Not a register: the check of a ring-20 FINAL: 1 in progress, 2 in progress and its descriptor abandoned (R251, R389). -/
def SEC.finalFw : Row :=
  { base := 0x802EC2E8, lo := 0, width := 2, acc := .hid, clr := .ctl }
/-- Not a register: the check of a ring-21 FINAL: 1 in progress, 2 in progress and its descriptor abandoned (R251, R392). -/
def SEC.finalCal : Row :=
  { base := 0x802EC2EC, lo := 0, width := 2, acc := .hid, clr := .ctl }
/-- Not a register: a challenge stands: 0 host link, 1 DBG port (R384). -/
def SEC.chalOn : Row :=
  { base := 0x802EC2F0, s1 := 0x4, c1 := 2, lo := 0, width := 1, acc := .hid, clr := .blk }
/-- Not a register: its role (R384). -/
def SEC.chalRole : Row :=
  { base := 0x802EC2F8, s1 := 0x4, c1 := 2, lo := 0, width := 3, acc := .hid, clr := .blk }
/-- Not a register: its debug level (R384). -/
def SEC.chalLvl : Row :=
  { base := 0x802EC300, s1 := 0x4, c1 := 2, lo := 0, width := 2, acc := .hid, clr := .blk }
/-- Not a register: device time of the challenge (R384). -/
def SEC.chalT : Row :=
  { base := 0x802EC308, s1 := 0x4, c1 := 2, lo := 0, width := 64, acc := .hid, clr := .blk }
/-- Not a register: the nonce of the DBG port's challenge (R402). -/
def SEC.dbgChal : Row :=
  { base := 0x802EC310, s2 := 0x4, c2 := 12, lo := 0, width := 32, acc := .hid, clr := .blk }
/-- Not a register: K_INT (R383). -/
def SEC.kInt : Row :=
  { base := 0x802EC340, lo := 0, width := 256, acc := .hid, clr := .never }
/-- Not a register: public keys of INTEGRATOR, CALIBRATOR and SERVICE (R383). -/
def SEC.roleKey : Row :=
  { base := 0x802EC344, s1 := 0x4, c1 := 3, lo := 0, width := 768, acc := .hid, clr := .never }
/-- Not a register: firmware slot in force (R389). -/
def SEC.fwSlot : Row :=
  { base := 0x802EC350, lo := 0, width := 1, acc := .hid, clr := .never }
/-- Not a register: the other slot holds an image marked pending (R389). -/
def SEC.fwPend : Row :=
  { base := 0x802EC354, lo := 0, width := 1, acc := .hid, clr := .never }
/-- Not a register: SVN of the image in the slot (R388). -/
def SEC.slotSvn : Row :=
  { base := 0x802EC358, s1 := 0x4, c1 := 2, lo := 0, width := 6, acc := .hid, clr := .never }
/-- Not a register: VERSION of the image in the slot (R388). -/
def SEC.slotVer : Row :=
  { base := 0x802EC360, s1 := 0x4, c1 := 2, lo := 0, width := 32, acc := .hid, clr := .never }
/-- Not a register: AUTO_COMMIT as it stood when the last reset took hold (R390). -/
def SEC.autoCom : Row :=
  { base := 0x802EC368, lo := 0, width := 1, acc := .hid, clr := .never }
/-- Not a register: the zeroing of a table-port lock runs (R395). -/
def SEC.lockZero : Row :=
  { base := 0x802EC36C, lo := 0, width := 1, acc := .hid, clr := .blk }
/-- Not a register: a debug read waits for that zeroing (R395). -/
def SEC.heldRead : Row :=
  { base := 0x802EC370, lo := 0, width := 1, acc := .hid, clr := .blk }
/-- Not a register: word of the calibration RAM as a debugger wrote it in MANUFACTURE (R394, R396). -/
def SEC.calW : Row :=
  { base := 0x802EC374, s2 := 0x4, c2 := 524288, lo := 0, width := 32, acc := .hid, clr := .ctl }
/-- Not a register: the word has been written since the calibration RAM was zeroed or loaded. -/
def SEC.calOn : Row :=
  { base := 0x804EC374, s2 := 0x4, c2 := 524288, lo := 0, width := 1, acc := .hid, clr := .ctl }
/-- Not a register: how many calibration images have gone into force: which one the calibration RAM is loaded from (R392, R393). -/
def SEC.calId : Row :=
  { base := 0x806ECDF0, lo := 0, width := 32, acc := .hid, clr := .never }
/-- Not a register: which of those images the calibration RAM holds, 0 none (R393, R395). -/
def SEC.calRamId : Row :=
  { base := 0x806ECE00, lo := 0, width := 32, acc := .hid, clr := .ctl }
/-- Not a register: the register access in progress comes through the debug port (R322). -/
def SEC.viaDbg : Row :=
  { base := 0x808804F0, lo := 0, width := 1, acc := .hid, clr := .blk }
/-- Not a register: what was left of the AUTH lockout at lockT, in units of 2.5 ns (R385). -/
def SEC.lockRest : Row :=
  { base := 0x80880590, lo := 0, width := 45, acc := .hid, clr := .never }
/-- Not a register: time from which the AUTH lockout counts on (R385). -/
def SEC.lockT : Row :=
  { base := 0x80880594, lo := 0, width := 64, acc := .hid, clr := .cold }
/-- Not a register: time of the host link's last BAR0 access in a role session (R386). -/
def SEC.idleT : Row :=
  { base := 0x80880598, lo := 0, width := 64, acc := .hid, clr := .blk }
/-- Not a register: role of the host link when a ring's descriptor started (R386). -/
def SEC.descRole : Row :=
  { base := 0x8088059C, s1 := 0x4, c1 := 32, lo := 0, width := 3, acc := .hid, clr := .blk }
/-- Rows of SEC, part 0. -/
def SEC.rows0 : List Row :=
  [SEC.CTL.LOCK, SEC.CTL.CFG_REJECT, SEC.LC_STAT.LC_PEND, SEC.LC_STAT.STATE, SEC.LC_STAT.CODE, SEC.LC_STAT.RESULT, SEC.LC_CMD.GO, SEC.LC_CMD.TARGET, SEC.ROLE.OPEN, SEC.ROLE.ROLE, SEC.ROLE.IDLE_LEFT, SEC.AUTH_CMD.GO, SEC.AUTH_CMD.ROLE, SEC.AUTH_CMD.LEVEL, SEC.AUTH_CMD.OP, SEC.AUTH_STAT.BUSY, SEC.AUTH_STAT.FAILS, SEC.AUTH_STAT.LOCK_LEFT, SEC.AUTH_STAT.RESULT, SEC.ROLE_CFG.ROLE_TMO, SEC.DBG_STAT.OPEN, SEC.DBG_STAT.ROLE, SEC.DBG_STAT.LEVEL, SEC.DBG_STAT.HALT, SEC.DBG_STAT.VDC_OK, SEC.DBG_STAT.VREF, SEC.AUTH_CHAL.CHAL, SEC.AUTH_SIG.SIG, SEC.FW_STAT.PEND, SEC.FW_STAT.BOOT_FAIL, SEC.FW_STAT.SLOT, SEC.FW_STAT.FW_SVN, SEC.FW_STAT.IMG_SVN, SEC.FW_CMD.AUTO_COMMIT, SEC.FW_CMD.COMMIT, SEC.CAL_STAT.IN_FORCE, SEC.CAL_STAT.PEND, SEC.CAL_STAT.LOADED, SEC.CAL_STAT.TBL_LOCK, SEC.CAL_STAT.ZEROING]
/-- Rows of SEC, part 1. -/
def SEC.rows1 : List Row :=
  [SEC.CAL_STAT.CAL_SVN, SEC.CAL_STAT.IMG_SVN, SEC.CAL_STAT.KEY_OK, SEC.CAL_VER.VERSION, SEC.FUSE.PERF_USER, SEC.FUSE.DBG_PROD_DIS, SEC.DEV_ID.DEV_ID, SEC.KEY_CMD.GO, SEC.KEY_CMD.SLOT, SEC.KEY_CMD.OP, SEC.KEY_STAT.BUSY, SEC.KEY_STAT.ROLE_KEYS, SEC.KEY_STAT.RESULT, SEC.KEY_WIN.DATA, SEC.DEV_PUB.KEY, SEC.hostRole, SEC.tapIr, SEC.calKind, SEC.lcIntent, SEC.finalFw, SEC.finalCal, SEC.chalOn, SEC.chalRole, SEC.chalLvl, SEC.chalT, SEC.dbgChal, SEC.kInt, SEC.roleKey, SEC.fwSlot, SEC.fwPend, SEC.slotSvn, SEC.slotVer, SEC.autoCom, SEC.lockZero, SEC.heldRead, SEC.calW, SEC.calOn, SEC.calId, SEC.calRamId, SEC.viaDbg, SEC.lockRest, SEC.lockT, SEC.idleT, SEC.descRole]
/-- Every row of SEC. -/
def SEC.rows : List Row := SEC.rows0 ++ SEC.rows1

end Sys2Proof.Machine
end

