-- ==== Sys2Proof/Machine/RegsDrive.lean ====
section
/-!
DEFINITION. The state of AX (9), HK (16), the proxies of the gate islands GI0 to GI11 (8), GLK (8), the DLI proxy (14), as named rows.
Each row states one field of the register tables of spec/: place, width, access code (R3), reset value,
Cleared-by level (R6) and, where the spec states one, the range a write must lie in.
Rows of access hid are state that the spec gives the machine outside its registers; the spec gives no reset
value for them (DESIGN CHOICE, log entry 3).
-/
namespace Sys2Proof.Machine

/-- CTL [31:31] LOCK (09): Locks every RWL field of AX -/
def AX.CTL.LOCK : Row :=
  { base := 0x1180000, lo := 31, width := 1, acc := .w1s, clr := .blk }
/-- CTL [30:30] CFG_REJECT (09): A refused write or ENABLE (R222, R234) -/
def AX.CTL.CFG_REJECT : Row :=
  { base := 0x1180000, lo := 30, width := 1, acc := .w1c, clr := .blk }
/-- CTL [5:0] VAUX_OV (09): V, 14–58 -/
def AX.CTL.VAUX_OV : Row :=
  { base := 0x1180000, lo := 0, width := 6, reset := 0x38, acc := .rwl, clr := .blk, range := some (14, 58) }
/-- STATUS [27:16] VAUX (09): 20 mV per code -/
def AX.STATUS.VAUX : Row :=
  { base := 0x1180004, lo := 16, width := 12, acc := .ro, clr := .blk }
/-- STATUS [2:0] CH_RUN (09): Channel running, AUX2–AUX0 -/
def AX.STATUS.CH_RUN : Row :=
  { base := 0x1180004, lo := 0, width := 3, acc := .ro, clr := .blk }
/-- PIT_CTL [31:31] ARM (09): Arms the selected piton; clears after it acts -/
def AX.PIT_CTL.ARM : Row :=
  { base := 0x1180008, lo := 31, width := 1, acc := .w1s, clr := .blk }
/-- PIT_CTL [13:12] CH (09): Channel 0–2 -/
def AX.PIT_CTL.CH : Row :=
  { base := 0x1180008, lo := 12, width := 2, acc := .rw, clr := .blk, range := some (0, 2) }
/-- PIT_CTL [9:8] PH (09): Phase U, V, W -/
def AX.PIT_CTL.PH : Row :=
  { base := 0x1180008, lo := 8, width := 2, acc := .rw, clr := .blk }
/-- PIT_CTL [3:0] SEL (09): Piton code (R233); 0 means none -/
def AX.PIT_CTL.SEL : Row :=
  { base := 0x1180008, lo := 0, width := 4, acc := .rw, clr := .blk }
/-- CH_CFG [31:30] MODE (09): 0 CURVE, 1 SPEED, 2 CURRENT -/
def AX.CH_CFG.MODE : Row :=
  { base := 0x1180100, s1 := 0x40, c1 := 3, lo := 30, width := 2, acc := .rwl, clr := .blk, range := some (0, 2) }
/-- CH_CFG [23:16] SP_TMO (09): 10 ms, 1–255 -/
def AX.CH_CFG.SP_TMO : Row :=
  { base := 0x1180100, s1 := 0x40, c1 := 3, lo := 16, width := 8, reset := 0x32, acc := .rwl, clr := .blk, range := some (1, 255) }
/-- CH_CFG [15:8] ACC (09): rad/s electrical per ms, 1–255 -/
def AX.CH_CFG.ACC : Row :=
  { base := 0x1180100, s1 := 0x40, c1 := 3, lo := 8, width := 8, reset := 2, acc := .rwl, clr := .blk, range := some (1, 255) }
/-- CH_CFG [7:0] DEC (09): As ACC -/
def AX.CH_CFG.DEC : Row :=
  { base := 0x1180100, s1 := 0x40, c1 := 3, lo := 0, width := 8, reset := 2, acc := .rwl, clr := .blk, range := some (1, 255) }
/-- CH_CURVE_CFG [31:16] D_ON (09): Q15 -/
def AX.CH_CURVE_CFG.D_ON : Row :=
  { base := 0x1180104, s1 := 0x40, c1 := 3, lo := 16, width := 16, reset := 0xccd, acc := .rwl, clr := .blk }
/-- CH_CURVE_CFG [15:0] D_OFF (09): Q15, below D_ON -/
def AX.CH_CURVE_CFG.D_OFF : Row :=
  { base := 0x1180104, s1 := 0x40, c1 := 3, lo := 0, width := 16, reset := 0x7ae, acc := .rwl, clr := .blk }
/-- CURVE [15:0] S (09): Speed Si, Q15 of ω_base -/
def AX.CURVE.S : Row :=
  { base := 0x1180400, s1 := 0x40, c1 := 3, s2 := 0x4, c2 := 16, lo := 0, width := 16, acc := .rwl, clr := .blk }
/-- CH_SPD [31:16] SPD_REF (09): Active speed reference -/
def AX.CH_SPD.SPD_REF : Row :=
  { base := 0x1180108, s1 := 0x40, c1 := 3, lo := 16, width := 16, acc := .ro, clr := .blk }
/-- CH_SPD [15:0] SPD_MEAS (09): Measured speed -/
def AX.CH_SPD.SPD_MEAS : Row :=
  { base := 0x1180108, s1 := 0x40, c1 := 3, lo := 0, width := 16, acc := .ro, clr := .blk }
/-- CH_LIM [31:16] I_MAX (09): Q15 of I_base -/
def AX.CH_LIM.I_MAX : Row :=
  { base := 0x118010C, s1 := 0x40, c1 := 3, lo := 16, width := 16, reset := 0x4000, acc := .rwl, clr := .blk, range := some (1, 65535) }
/-- CH_LIM [15:0] VLIM_K (09): Q15, 0x4000–0x7FFF -/
def AX.CH_LIM.VLIM_K : Row :=
  { base := 0x118010C, s1 := 0x40, c1 := 3, lo := 0, width := 16, reset := 0x7999, acc := .rwl, clr := .blk, range := some (16384, 32767) }
/-- CH_OBS [31:16] OBS_UP (09): Q15 of ω_base -/
def AX.CH_OBS.OBS_UP : Row :=
  { base := 0x1180110, s1 := 0x40, c1 := 3, lo := 16, width := 16, reset := 0x800, acc := .rwl, clr := .blk, range := some (1, 65535) }
/-- CH_OBS [15:0] OBS_DN (09): Q15 of ω_base, below OBS_UP -/
def AX.CH_OBS.OBS_DN : Row :=
  { base := 0x1180110, s1 := 0x40, c1 := 3, lo := 0, width := 16, reset := 0x555, acc := .rwl, clr := .blk, range := some (1, 65535) }
/-- CH_INJ [31:24] V_H (09): 0.1 V, 10–120 -/
def AX.CH_INJ.V_H : Row :=
  { base := 0x1180114, s1 := 0x40, c1 := 3, lo := 24, width := 8, reset := 0x28, acc := .rwl, clr := .blk, range := some (10, 120) }
/-- CH_INJ [23:16] F_H (09): 50 Hz, 10–40 -/
def AX.CH_INJ.F_H : Row :=
  { base := 0x1180114, s1 := 0x40, c1 := 3, lo := 16, width := 8, reset := 0x14, acc := .rwl, clr := .blk, range := some (10, 40) }
/-- CH_INJ [15:8] INJ_CNT (09): 0–255; 0 no injection -/
def AX.CH_INJ.INJ_CNT : Row :=
  { base := 0x1180114, s1 := 0x40, c1 := 3, lo := 8, width := 8, reset := 1, acc := .rwl, clr := .blk }
/-- CH_START [31:16] START_I (09): Q15 of I_base -/
def AX.CH_START.START_I : Row :=
  { base := 0x1180118, s1 := 0x40, c1 := 3, lo := 16, width := 16, reset := 0x2000, acc := .rwl, clr := .blk, range := some (1, 65535) }
/-- CH_START [15:8] CATCH_MS (09): ms, 1–20 -/
def AX.CH_START.CATCH_MS : Row :=
  { base := 0x1180118, s1 := 0x40, c1 := 3, lo := 8, width := 8, reset := 2, acc := .rwl, clr := .blk, range := some (1, 20) }
/-- CH_START [7:0] START_WAIT (09): 10 ms, 1–100 -/
def AX.CH_START.START_WAIT : Row :=
  { base := 0x1180118, s1 := 0x40, c1 := 3, lo := 0, width := 8, reset := 0x32, acc := .rwl, clr := .blk, range := some (1, 100) }
/-- CH_BS [31:16] REF_DUTY (09): Q15 -/
def AX.CH_BS.REF_DUTY : Row :=
  { base := 0x118011C, s1 := 0x40, c1 := 3, lo := 16, width := 16, reset := 0x7d71, acc := .rwl, clr := .blk, range := some (1, 65535) }
/-- CH_BS [15:8] REF_W (09): 10 ns, 10–200 -/
def AX.CH_BS.REF_W : Row :=
  { base := 0x118011C, s1 := 0x40, c1 := 3, lo := 8, width := 8, reset := 0x28, acc := .rwl, clr := .blk, range := some (10, 200) }
/-- CH_BS [7:2] REF_PER (09): Periods, 1–63 -/
def AX.CH_BS.REF_PER : Row :=
  { base := 0x118011C, s1 := 0x40, c1 := 3, lo := 2, width := 6, reset := 8, acc := .rwl, clr := .blk, range := some (1, 63) }
/-- CH_BS [0:0] REF_EN (09): Refresh insertion -/
def AX.CH_BS.REF_EN : Row :=
  { base := 0x118011C, s1 := 0x40, c1 := 3, lo := 0, width := 1, reset := 1, acc := .rwl, clr := .blk }
/-- CH_BS_LIM [31:16] BS_DMAX (09): Q15, 0x4000–0x7D70 -/
def AX.CH_BS_LIM.BS_DMAX : Row :=
  { base := 0x1180120, s1 := 0x40, c1 := 3, lo := 16, width := 16, reset := 0x7333, acc := .rwl, clr := .blk, range := some (16384, 32112) }
/-- CH_BS_LIM [15:0] BS_HOLD (09): ms, 1–1000 -/
def AX.CH_BS_LIM.BS_HOLD : Row :=
  { base := 0x1180120, s1 := 0x40, c1 := 3, lo := 0, width := 16, reset := 0x64, acc := .rwl, clr := .blk, range := some (1, 1000) }
/-- CH_OC [23:16] OC_LS (09): A, 10–100 -/
def AX.CH_OC.OC_LS : Row :=
  { base := 0x1180124, s1 := 0x40, c1 := 3, lo := 16, width := 8, reset := 0x3c, acc := .rwl, clr := .blk, range := some (10, 100) }
/-- CH_OC [7:0] OC_HS (09): A, 10–100 -/
def AX.CH_OC.OC_HS : Row :=
  { base := 0x1180124, s1 := 0x40, c1 := 3, lo := 0, width := 8, reset := 0x3c, acc := .rwl, clr := .blk, range := some (10, 100) }
/-- CH_CUR_UV [31:16] I_U (09): Q15 of I_base -/
def AX.CH_CUR_UV.I_U : Row :=
  { base := 0x1180128, s1 := 0x40, c1 := 3, lo := 16, width := 16, acc := .ro, clr := .blk }
/-- CH_CUR_UV [15:0] I_V (09): Q15 of I_base -/
def AX.CH_CUR_UV.I_V : Row :=
  { base := 0x1180128, s1 := 0x40, c1 := 3, lo := 0, width := 16, acc := .ro, clr := .blk }
/-- CH_CUR_W [31:16] I_W (09): Q15 of I_base -/
def AX.CH_CUR_W.I_W : Row :=
  { base := 0x118012C, s1 := 0x40, c1 := 3, lo := 16, width := 16, acc := .ro, clr := .blk }
/-- CH_CUR_W [15:0] I_RMS (09): Highest phase rms, Q15 of I_base -/
def AX.CH_CUR_W.I_RMS : Row :=
  { base := 0x118012C, s1 := 0x40, c1 := 3, lo := 0, width := 16, acc := .ro, clr := .blk }
/-- CH_VBS [29:20] VBS_W (09): 10 bits each, 20 mV per code -/
def AX.CH_VBS.VBS_W : Row :=
  { base := 0x1180130, s1 := 0x40, c1 := 3, lo := 20, width := 10, acc := .ro, clr := .blk }
/-- CH_VBS [19:10] VBS_V (09): 10 bits each, 20 mV per code -/
def AX.CH_VBS.VBS_V : Row :=
  { base := 0x1180130, s1 := 0x40, c1 := 3, lo := 10, width := 10, acc := .ro, clr := .blk }
/-- CH_VBS [9:0] VBS_U (09): 10 bits each, 20 mV per code -/
def AX.CH_VBS.VBS_U : Row :=
  { base := 0x1180130, s1 := 0x40, c1 := 3, lo := 0, width := 10, acc := .ro, clr := .blk }
/-- CH_STAT [31:29] STATE (09): 0 OFF, 1 CATCH, 2 INJECT, 3 FORCED, 4 OBSERVER, 5 STOPPING -/
def AX.CH_STAT.STATE : Row :=
  { base := 0x1180134, s1 := 0x40, c1 := 3, lo := 29, width := 3, acc := .ro, clr := .blk }
/-- CH_STAT [28:26] BS_UV (09): Bootstrap below UVLO, W, V, U -/
def AX.CH_STAT.BS_UV : Row :=
  { base := 0x1180134, s1 := 0x40, c1 := 3, lo := 26, width := 3, acc := .ro, clr := .blk }
/-- CH_STAT [23:16] CUR_HOLD (09): Held sample sets, saturating -/
def AX.CH_STAT.CUR_HOLD : Row :=
  { base := 0x1180134, s1 := 0x40, c1 := 3, lo := 16, width := 8, acc := .ro, clr := .blk }
/-- CH_STAT [9:9] OBS_SLOW (09): A flag whose condition persists stays set -/
def AX.CH_STAT.OBS_SLOW : Row :=
  { base := 0x1180134, s1 := 0x40, c1 := 3, lo := 9, width := 1, acc := .w1c, clr := .blk }
/-- CH_STAT [8:8] START_FAIL (09): A flag whose condition persists stays set -/
def AX.CH_STAT.START_FAIL : Row :=
  { base := 0x1180134, s1 := 0x40, c1 := 3, lo := 8, width := 1, acc := .w1c, clr := .blk }
/-- CH_STAT [7:7] POL_FAIL (09): A flag whose condition persists stays set -/
def AX.CH_STAT.POL_FAIL : Row :=
  { base := 0x1180134, s1 := 0x40, c1 := 3, lo := 7, width := 1, acc := .w1c, clr := .blk }
/-- CH_STAT [6:6] OPEN_LOAD (09): A flag whose condition persists stays set -/
def AX.CH_STAT.OPEN_LOAD : Row :=
  { base := 0x1180134, s1 := 0x40, c1 := 3, lo := 6, width := 1, acc := .w1c, clr := .blk }
/-- CH_STAT [5:5] VAUX_UV (09): A flag whose condition persists stays set -/
def AX.CH_STAT.VAUX_UV : Row :=
  { base := 0x1180134, s1 := 0x40, c1 := 3, lo := 5, width := 1, acc := .w1c, clr := .blk }
/-- CH_STAT [4:4] VAUX_OV (09): A flag whose condition persists stays set -/
def AX.CH_STAT.VAUX_OV : Row :=
  { base := 0x1180134, s1 := 0x40, c1 := 3, lo := 4, width := 1, acc := .w1c, clr := .blk }
/-- CH_STAT [3:3] SP_LOST (09): A flag whose condition persists stays set -/
def AX.CH_STAT.SP_LOST : Row :=
  { base := 0x1180134, s1 := 0x40, c1 := 3, lo := 3, width := 1, acc := .w1c, clr := .blk }
/-- CH_STAT [2:2] RMS_LIM (09): A flag whose condition persists stays set -/
def AX.CH_STAT.RMS_LIM : Row :=
  { base := 0x1180134, s1 := 0x40, c1 := 3, lo := 2, width := 1, acc := .w1c, clr := .blk }
/-- CH_STAT [1:1] BS_EVT (09): A flag whose condition persists stays set -/
def AX.CH_STAT.BS_EVT : Row :=
  { base := 0x1180134, s1 := 0x40, c1 := 3, lo := 1, width := 1, acc := .w1c, clr := .blk }
/-- CH_STAT [0:0] VLIM (09): A flag whose condition persists stays set -/
def AX.CH_STAT.VLIM : Row :=
  { base := 0x1180134, s1 := 0x40, c1 := 3, lo := 0, width := 1, acc := .w1c, clr := .blk }
/-- Not a register: a setpoint has been accepted since the channel was enabled (R223, R225). -/
def AX.spEver : Row :=
  { base := 0x801DFFA0, s1 := 0x4, c1 := 3, lo := 0, width := 1, acc := .hid, clr := .blk }
/-- Not a register: R_S, L_D, L_Q, PSI_PM of the aux entry in force (R240). -/
def AX.mach : Row :=
  { base := 0x801DFFAC, s1 := 0x10, c1 := 3, s2 := 0x4, c2 := 4, lo := 0, width := 32, acc := .hid, clr := .blk }
/-- Not a register: active speed reference with 16 more fraction bits, signed (R223). -/
def AX.ref : Row :=
  { base := 0x801DFFDC, s1 := 0x4, c1 := 3, lo := 0, width := 40, acc := .hid, clr := .blk }
/-- Not a register: step of a standstill start: 1 START_I on the d-axis, 2 injection, 3 polarity test (R226). -/
def AX.step : Row :=
  { base := 0x801DFFE8, s1 := 0x4, c1 := 3, lo := 0, width := 2, acc := .hid, clr := .blk }
/-- Not a register: pulses of the polarity test done (R226). -/
def AX.polIdx : Row :=
  { base := 0x801E0000, s1 := 0x4, c1 := 3, lo := 0, width := 4, acc := .hid, clr := .blk }
/-- Not a register: sum of t+ of the polarity test (R122). -/
def AX.polP : Row :=
  { base := 0x801E000C, s1 := 0x4, c1 := 3, lo := 0, width := 24, acc := .hid, clr := .blk }
/-- Not a register: sum of t− of the polarity test (R122). -/
def AX.polM : Row :=
  { base := 0x801E0018, s1 := 0x4, c1 := 3, lo := 0, width := 24, acc := .hid, clr := .blk }
/-- Not a register: the polarity test is the repeat (R123). -/
def AX.polRep : Row :=
  { base := 0x801E0024, s1 := 0x4, c1 := 3, lo := 0, width := 1, acc := .hid, clr := .blk }
/-- Not a register: the back-EMF observer has converged (R227). -/
def AX.conv : Row :=
  { base := 0x801E0030, s1 := 0x4, c1 := 3, lo := 0, width := 1, acc := .hid, clr := .blk }
/-- Not a register: the setpoint stream is lost (R223). -/
def AX.lost : Row :=
  { base := 0x801E003C, s1 := 0x4, c1 := 3, lo := 0, width := 1, acc := .hid, clr := .blk }
/-- Not a register: AX.SP.PIT ignores setpoints until SP_LOST (R233). -/
def AX.spIgn : Row :=
  { base := 0x801E0048, s1 := 0x4, c1 := 3, lo := 0, width := 1, acc := .hid, clr := .blk }
/-- Not a register: VAUX has fallen below 9.0 V and not risen above 10.0 V (R220). -/
def AX.uvCond : Row :=
  { base := 0x801E0054, lo := 0, width := 1, acc := .hid, clr := .blk }
/-- Not a register: VAUX is above VAUX_OV (R220). -/
def AX.ovCond : Row :=
  { base := 0x801E0058, lo := 0, width := 1, acc := .hid, clr := .blk }
/-- Not a register: the channel was turned off by VAUX_UV and restarts (R231). -/
def AX.uvWait : Row :=
  { base := 0x801E005C, s1 := 0x4, c1 := 3, lo := 0, width := 1, acc := .hid, clr := .blk }
/-- Not a register: the 30 A peak clamp of R221 is in force. -/
def AX.rmsOn : Row :=
  { base := 0x801E0068, s1 := 0x4, c1 := 3, lo := 0, width := 1, acc := .hid, clr := .blk }
/-- Not a register: the voltage limit acts (R228). -/
def AX.vlimOn : Row :=
  { base := 0x801E0074, s1 := 0x4, c1 := 3, lo := 0, width := 1, acc := .hid, clr := .blk }
/-- Not a register: updates for which AX.VLIM.PIT still forces the limit (R233). -/
def AX.vlPit : Row :=
  { base := 0x801E0080, s1 := 0x4, c1 := 3, lo := 0, width := 4, acc := .hid, clr := .blk }
/-- Not a register: duties are clamped to BS_DMAX (R230). -/
def AX.bsClamp : Row :=
  { base := 0x801E008C, s1 := 0x4, c1 := 3, lo := 0, width := 1, acc := .hid, clr := .blk }
/-- Not a register: overcurrent comparators above their limit: phase, + 3 for the high side (R219). -/
def AX.ocLvl : Row :=
  { base := 0x801E0098, s1 := 0x4, c1 := 3, lo := 0, width := 6, acc := .hid, clr := .blk }
/-- Not a register: the phase of that comparator (R233). -/
def AX.ocPitPh : Row :=
  { base := 0x801E00B0, s1 := 0x4, c1 := 3, lo := 0, width := 2, acc := .hid, clr := .blk }
/-- Not a register: channels whose period waits, oldest first, base-4 digits of channel + 1 (R222). -/
def AX.pendQ : Row :=
  { base := 0x801E00BC, lo := 0, width := 8, acc := .hid, clr := .blk }
/-- Not a register: engine cycles counted at the channel's own reload (R222). -/
def AX.pendT : Row :=
  { base := 0x801E00C0, s1 := 0x4, c1 := 3, lo := 0, width := 64, acc := .hid, clr := .blk }
/-- Not a register: outputs of the channel's finished period (R222). -/
def AX.oV : Row :=
  { base := 0x801E00CC, s1 := 0x20, c1 := 3, s2 := 0x4, c2 := 8, lo := 0, width := 16, acc := .hid, clr := .blk }
/-- Not a register: mask of those outputs (R222). -/
def AX.oW : Row :=
  { base := 0x801E012C, s1 := 0x4, c1 := 3, lo := 0, width := 8, acc := .hid, clr := .blk }
/-- Not a register: that period's release is still to come (R222). -/
def AX.oRel : Row :=
  { base := 0x801E0138, s1 := 0x4, c1 := 3, lo := 0, width := 1, acc := .hid, clr := .blk }
/-- Not a register: i_q reference in force, Q15 of I_base, signed (R220, R223). -/
def AX.iq : Row :=
  { base := 0x8078EA80, s1 := 0x4, c1 := 3, lo := 0, width := 16, acc := .hid, clr := .blk }
/-- Not a register: device time at which the present catch watch began (R225). -/
def AX.watchT : Row :=
  { base := 0x8078EA8C, s1 := 0x4, c1 := 3, lo := 0, width := 64, acc := .hid, clr := .blk }
/-- Not a register: device time at which the channel's start began (R225). -/
def AX.startT : Row :=
  { base := 0x8078EA98, s1 := 0x4, c1 := 3, lo := 0, width := 64, acc := .hid, clr := .blk }
/-- Not a register: device time at which the present step of a standstill start began (R226). -/
def AX.stepT : Row :=
  { base := 0x8078EAA4, s1 := 0x4, c1 := 3, lo := 0, width := 64, acc := .hid, clr := .blk }
/-- Not a register: device time at which the speed reached OBS_UP without convergence, 0 while it is below (R227). -/
def AX.upT : Row :=
  { base := 0x8078EAB0, s1 := 0x4, c1 := 3, lo := 0, width := 64, acc := .hid, clr := .blk }
/-- Not a register: device time at which VAUX rose above 10.0 V (R231). -/
def AX.okT : Row :=
  { base := 0x8078EABC, lo := 0, width := 64, acc := .hid, clr := .blk }
/-- Not a register: device time at which the last BS_UV bit of the channel fell (R230). -/
def AX.bsT : Row :=
  { base := 0x8078EAC0, s1 := 0x4, c1 := 3, lo := 0, width := 64, acc := .hid, clr := .blk }
/-- Not a register: device time until which AX.BS.PIT holds a phase's bootstrap reading, 0 while it does not (R233). -/
def AX.bsPitT : Row :=
  { base := 0x8078EACC, s1 := 0xC, c1 := 3, s2 := 0x4, c2 := 3, lo := 0, width := 64, acc := .hid, clr := .blk }
/-- Not a register: device time at which the channel last accepted a setpoint or was enabled (R223, R267). -/
def AX.spT : Row :=
  { base := 0x8078EAF0, s1 := 0x4, c1 := 3, lo := 0, width := 64, acc := .hid, clr := .blk }
/-- Not a register: device time at which AX.SP.PIT began to ignore setpoints (R233). -/
def AX.spIgnT : Row :=
  { base := 0x8078EAFC, s1 := 0x4, c1 := 3, lo := 0, width := 64, acc := .hid, clr := .blk }
/-- Not a register: compares of the half-period that ended with the latest reload (R227, R228). -/
def AX.vLeg : Row :=
  { base := 0x8078EED0, s1 := 0xC, c1 := 3, s2 := 0x4, c2 := 3, lo := 0, width := 16, acc := .hid, clr := .blk }
/-- Not a register: legs whose low side had been on for 600 ns at the latest valley (R218). -/
def AX.lowOk : Row :=
  { base := 0x8078EEF4, s1 := 0x4, c1 := 3, lo := 0, width := 3, acc := .hid, clr := .blk }
/-- Not a register: sums of the squared phase currents over the last 100 intervals of 10 ms, phase after phase, Q15 of I_base (R221). -/
def AX.rmsQ : Row :=
  { base := 0x8078EF00, s1 := 0x4B0, c1 := 3, s2 := 0x4, c2 := 300, lo := 0, width := 48, acc := .hid, clr := .blk }
/-- Not a register: samples in each of those intervals (R221). -/
def AX.rmsC : Row :=
  { base := 0x8078FD10, s1 := 0x190, c1 := 3, s2 := 0x4, c2 := 100, lo := 0, width := 24, acc := .hid, clr := .blk }
/-- Not a register: number of the interval of 10 ms of device time that runs (R221). -/
def AX.rmsT : Row :=
  { base := 0x807901C0, s1 := 0x4, c1 := 3, lo := 0, width := 64, acc := .hid, clr := .blk }
/-- Not a register: i_d reference in force, Q15 of I_base, signed (R223, R226). -/
def AX.idRef : Row :=
  { base := 0x807901CC, s1 := 0x4, c1 := 3, lo := 0, width := 16, acc := .hid, clr := .blk }
/-- Not a register: integrator of the speed loop, signed (R223, R228). -/
def AX.spInt : Row :=
  { base := 0x807901D8, s1 := 0x4, c1 := 3, lo := 0, width := 40, acc := .hid, clr := .blk }
/-- Not a register: angle source of a running channel: 1 injection, 2 forced angle, 3 back-EMF observer (R226, R227). -/
def AX.src : Row :=
  { base := 0x807901E4, s1 := 0x4, c1 := 3, lo := 0, width := 2, acc := .hid, clr := .blk }
/-- Not a register: forced angle (R226). -/
def AX.fAng : Row :=
  { base := 0x807901F0, s1 := 0x4, c1 := 3, lo := 0, width := 16, acc := .hid, clr := .blk }
/-- Not a register: its speed, signed Q15 of ω_base (R226). -/
def AX.fSpd : Row :=
  { base := 0x807901FC, s1 := 0x4, c1 := 3, lo := 0, width := 16, acc := .hid, clr := .blk }
/-- Not a register: angle of the injection tracker (R226, R119). -/
def AX.injAng : Row :=
  { base := 0x80790208, s1 := 0x4, c1 := 3, lo := 0, width := 16, acc := .hid, clr := .blk }
/-- Not a register: its speed, signed (R226, R119). -/
def AX.injSpd : Row :=
  { base := 0x80790214, s1 := 0x4, c1 := 3, lo := 0, width := 16, acc := .hid, clr := .blk }
/-- Not a register: device time at which the injection began (R226, R117). -/
def AX.injT : Row :=
  { base := 0x80790220, s1 := 0x4, c1 := 3, lo := 0, width := 64, acc := .hid, clr := .blk }
/-- Not a register: consecutive updates of the injection tracker within tolerance (R226, R119). -/
def AX.injIn : Row :=
  { base := 0x8079022C, s1 := 0x4, c1 := 3, lo := 0, width := 8, acc := .hid, clr := .blk }
/-- Not a register: its error, signed (R226, R117). -/
def AX.eps : Row :=
  { base := 0x80790238, s1 := 0x4, c1 := 3, lo := 0, width := 16, acc := .hid, clr := .blk }
/-- Not a register: the demodulated estimated-q products of the last updates, signed (R226, R117). -/
def AX.hQ : Row :=
  { base := 0x80790244, s1 := 0x28000, c1 := 3, s2 := 0x4, c2 := 40960, lo := 0, width := 33, acc := .hid, clr := .blk }
/-- Not a register: the demodulated estimated-d products of the last updates, signed (R226, R117). -/
def AX.hD : Row :=
  { base := 0x80808244, s1 := 0x28000, c1 := 3, s2 := 0x4, c2 := 40960, lo := 0, width := 33, acc := .hid, clr := .blk }
/-- Not a register: where the next product goes (R226, R119). -/
def AX.hIdx : Row :=
  { base := 0x80880244, s1 := 0x4, c1 := 3, lo := 0, width := 16, acc := .hid, clr := .blk }
/-- Not a register: how many products of this injection there are (R226, R119). -/
def AX.hN : Row :=
  { base := 0x80880250, s1 := 0x4, c1 := 3, lo := 0, width := 16, acc := .hid, clr := .blk }
/-- Not a register: part of the polarity pulse: 0 none, 1 rising, 2 returning to zero, 3 waiting, 4 over (R226, R122). -/
def AX.polPh : Row :=
  { base := 0x8088025C, s1 := 0x4, c1 := 3, lo := 0, width := 3, acc := .hid, clr := .blk }
/-- Not a register: the polarity pulse is along the negative estimated d-axis (R226, R122). -/
def AX.polNeg : Row :=
  { base := 0x80880268, s1 := 0x4, c1 := 3, lo := 0, width := 1, acc := .hid, clr := .blk }
/-- Not a register: device time at which that part began (R226, R122). -/
def AX.polT0 : Row :=
  { base := 0x80880274, s1 := 0x4, c1 := 3, lo := 0, width := 64, acc := .hid, clr := .blk }
/-- Not a register: estimated-d current along the pulse at the update before, signed (R226, R122). -/
def AX.polPrev : Row :=
  { base := 0x80880280, s1 := 0x4, c1 := 3, lo := 0, width := 17, acc := .hid, clr := .blk }
/-- Not a register: rise time of the pulse that ends, in 2.5 ns (R226, R122). -/
def AX.polT : Row :=
  { base := 0x8088028C, s1 := 0x4, c1 := 3, lo := 0, width := 24, acc := .hid, clr := .blk }
/-- Not a register: greatest magnitude of each phase current during START_I (R226). -/
def AX.maxI : Row :=
  { base := 0x80880298, s1 := 0xC, c1 := 3, s2 := 0x4, c2 := 3, lo := 0, width := 16, acc := .hid, clr := .blk }
/-- Not a register: flux α, β of the observer, signed, with 23 fraction bits of ψ_base (R227). -/
def AX.psi : Row :=
  { base := 0x808802BC, s1 := 0x8, c1 := 3, s2 := 0x4, c2 := 2, lo := 0, width := 25, acc := .hid, clr := .blk }
/-- Not a register: angle of its tracker (R227). -/
def AX.obAng : Row :=
  { base := 0x808802D4, s1 := 0x4, c1 := 3, lo := 0, width := 16, acc := .hid, clr := .blk }
/-- Not a register: speed of its tracker, signed (R227). -/
def AX.obSpd : Row :=
  { base := 0x808802E0, s1 := 0x4, c1 := 3, lo := 0, width := 16, acc := .hid, clr := .blk }
/-- Not a register: consecutive updates with its loop error below the tolerance (R227, R94). -/
def AX.obOk : Row :=
  { base := 0x808802EC, s1 := 0x4, c1 := 3, lo := 0, width := 8, acc := .hid, clr := .blk }
/-- Not a register: consecutive updates with it above (R227, R94). -/
def AX.obBad : Row :=
  { base := 0x808802F8, s1 := 0x4, c1 := 3, lo := 0, width := 8, acc := .hid, clr := .blk }
/-- Not a register: consecutive updates in which the voltage limit acted (R228). -/
def AX.vN : Row :=
  { base := 0x80880304, s1 := 0x4, c1 := 3, lo := 0, width := 4, acc := .hid, clr := .blk }
/-- Not a register: consecutive updates below 15/16 of it (R228). -/
def AX.vOkN : Row :=
  { base := 0x80880310, s1 := 0x4, c1 := 3, lo := 0, width := 4, acc := .hid, clr := .blk }
/-- Not a register: device time until which AX.OC.PIT forces its comparator, 0 while it does not (R233). -/
def AX.ocPitT : Row :=
  { base := 0x8088031C, s1 := 0x4, c1 := 3, lo := 0, width := 64, acc := .hid, clr := .blk }
/-- Not a register: sums of the squares of each phase current over the second (R221). -/
def AX.rmsSum : Row :=
  { base := 0x80880330, s1 := 0xC, c1 := 3, s2 := 0x4, c2 := 3, lo := 0, width := 56, acc := .hid, clr := .blk }
/-- Not a register: samples of the second (R221). -/
def AX.rmsCnt : Row :=
  { base := 0x80880354, s1 := 0x4, c1 := 3, lo := 0, width := 32, acc := .hid, clr := .blk }
/-- Rows of AX, part 0. -/
def AX.rows0 : List Row :=
  [AX.CTL.LOCK, AX.CTL.CFG_REJECT, AX.CTL.VAUX_OV, AX.STATUS.VAUX, AX.STATUS.CH_RUN, AX.PIT_CTL.ARM, AX.PIT_CTL.CH, AX.PIT_CTL.PH, AX.PIT_CTL.SEL, AX.CH_CFG.MODE, AX.CH_CFG.SP_TMO, AX.CH_CFG.ACC, AX.CH_CFG.DEC, AX.CH_CURVE_CFG.D_ON, AX.CH_CURVE_CFG.D_OFF, AX.CURVE.S, AX.CH_SPD.SPD_REF, AX.CH_SPD.SPD_MEAS, AX.CH_LIM.I_MAX, AX.CH_LIM.VLIM_K, AX.CH_OBS.OBS_UP, AX.CH_OBS.OBS_DN, AX.CH_INJ.V_H, AX.CH_INJ.F_H, AX.CH_INJ.INJ_CNT, AX.CH_START.START_I, AX.CH_START.CATCH_MS, AX.CH_START.START_WAIT, AX.CH_BS.REF_DUTY, AX.CH_BS.REF_W, AX.CH_BS.REF_PER, AX.CH_BS.REF_EN, AX.CH_BS_LIM.BS_DMAX, AX.CH_BS_LIM.BS_HOLD, AX.CH_OC.OC_LS, AX.CH_OC.OC_HS, AX.CH_CUR_UV.I_U, AX.CH_CUR_UV.I_V, AX.CH_CUR_W.I_W, AX.CH_CUR_W.I_RMS]
/-- Rows of AX, part 1. -/
def AX.rows1 : List Row :=
  [AX.CH_VBS.VBS_W, AX.CH_VBS.VBS_V, AX.CH_VBS.VBS_U, AX.CH_STAT.STATE, AX.CH_STAT.BS_UV, AX.CH_STAT.CUR_HOLD, AX.CH_STAT.OBS_SLOW, AX.CH_STAT.START_FAIL, AX.CH_STAT.POL_FAIL, AX.CH_STAT.OPEN_LOAD, AX.CH_STAT.VAUX_UV, AX.CH_STAT.VAUX_OV, AX.CH_STAT.SP_LOST, AX.CH_STAT.RMS_LIM, AX.CH_STAT.BS_EVT, AX.CH_STAT.VLIM, AX.spEver, AX.mach, AX.ref, AX.step, AX.polIdx, AX.polP, AX.polM, AX.polRep, AX.conv, AX.lost, AX.spIgn, AX.uvCond, AX.ovCond, AX.uvWait, AX.rmsOn, AX.vlimOn, AX.vlPit, AX.bsClamp, AX.ocLvl, AX.ocPitPh, AX.pendQ, AX.pendT]
/-- Rows of AX, part 2. -/
def AX.rows2 : List Row :=
  [AX.oV, AX.oW, AX.oRel, AX.iq, AX.watchT, AX.startT, AX.stepT, AX.upT, AX.okT, AX.bsT, AX.bsPitT, AX.spT, AX.spIgnT, AX.vLeg, AX.lowOk, AX.rmsQ, AX.rmsC, AX.rmsT, AX.idRef, AX.spInt, AX.src, AX.fAng, AX.fSpd, AX.injAng, AX.injSpd, AX.injT, AX.injIn, AX.eps, AX.hQ, AX.hD, AX.hIdx, AX.hN, AX.polPh, AX.polNeg, AX.polT0, AX.polPrev, AX.polT, AX.maxI, AX.psi, AX.obAng, AX.obSpd, AX.obOk, AX.obBad, AX.vN, AX.vOkN, AX.ocPitT, AX.rmsSum, AX.rmsCnt]
/-- Every row of AX. -/
def AX.rows : List Row := AX.rows0 ++ AX.rows1 ++ AX.rows2

/-- CTL [31:31] LOCK (16): Locks every RWL field of HK -/
def HK.CTL.LOCK : Row :=
  { base := 0x1190000, lo := 31, width := 1, acc := .w1s, clr := .blk }
/-- CTL [30:30] CFG_REJECT (16): A refused write (R378) -/
def HK.CTL.CFG_REJECT : Row :=
  { base := 0x1190000, lo := 30, width := 1, acc := .w1c, clr := .blk }
/-- CTL [1:1] BS_RST (16): Resets BS_MINk (R371); reads 0 -/
def HK.CTL.BS_RST : Row :=
  { base := 0x1190000, lo := 1, width := 1, acc := .w1s, clr := .blk }
/-- CTL [0:0] THR_EN (16): Throttling enabled -/
def HK.CTL.THR_EN : Row :=
  { base := 0x1190000, lo := 0, width := 1, reset := 1, acc := .rwl, clr := .blk }
/-- STATUS [31:31] STALE (16): No round for 30 ms (R368) -/
def HK.STATUS.STALE : Row :=
  { base := 0x1190004, lo := 31, width := 1, acc := .w1c, clr := .blk }
/-- STATUS [15:0] ROUND_CNT (16): Completed rounds, wraps -/
def HK.STATUS.ROUND_CNT : Row :=
  { base := 0x1190004, lo := 0, width := 16, acc := .ro, clr := .blk }
/-- CLS_CFG [7:0] TS (16): Throttle start, °C, 20–200 -/
def HK.CLS_CFG.TS : Row :=
  { base := 0x1190010, s1 := 0x4, c1 := 6, lo := 0, width := 8, reset := 0x76, exc := [(1, 143), (5, 150)], acc := .rwl, clr := .blk, range := some (20, 200) }
/-- BAND_GI [23:16] B3 (16): °C, 0–180, strictly increasing -/
def HK.BAND_GI.B3 : Row :=
  { base := 0x1190030, lo := 16, width := 8, reset := 0x73, acc := .rwl, clr := .blk, range := some (0, 180) }
/-- BAND_GI [15:8] B2 (16): °C, 0–180, strictly increasing -/
def HK.BAND_GI.B2 : Row :=
  { base := 0x1190030, lo := 8, width := 8, reset := 0x46, acc := .rwl, clr := .blk, range := some (0, 180) }
/-- BAND_GI [7:0] B1 (16): °C, 0–180, strictly increasing -/
def HK.BAND_GI.B1 : Row :=
  { base := 0x1190030, lo := 0, width := 8, reset := 0x19, acc := .rwl, clr := .blk, range := some (0, 180) }
/-- BAND_ABI [23:16] B3 (16): As BAND_GI -/
def HK.BAND_ABI.B3 : Row :=
  { base := 0x1190034, lo := 16, width := 8, reset := 0x73, acc := .rwl, clr := .blk, range := some (0, 180) }
/-- BAND_ABI [15:8] B2 (16): As BAND_GI -/
def HK.BAND_ABI.B2 : Row :=
  { base := 0x1190034, lo := 8, width := 8, reset := 0x50, acc := .rwl, clr := .blk, range := some (0, 180) }
/-- BAND_ABI [7:0] B1 (16): As BAND_GI -/
def HK.BAND_ABI.B1 : Row :=
  { base := 0x1190034, lo := 0, width := 8, reset := 0x28, acc := .rwl, clr := .blk, range := some (0, 180) }
/-- MT_CFG [7:6] TYPE3 (16): 2 bits per channel (R369) -/
def HK.MT_CFG.TYPE3 : Row :=
  { base := 0x1190038, lo := 6, width := 2, acc := .rwl, clr := .blk }
/-- MT_CFG [5:4] TYPE2 (16): 2 bits per channel (R369) -/
def HK.MT_CFG.TYPE2 : Row :=
  { base := 0x1190038, lo := 4, width := 2, acc := .rwl, clr := .blk }
/-- MT_CFG [3:2] TYPE1 (16): 2 bits per channel (R369) -/
def HK.MT_CFG.TYPE1 : Row :=
  { base := 0x1190038, lo := 2, width := 2, acc := .rwl, clr := .blk }
/-- MT_CFG [1:0] TYPE0 (16): 2 bits per channel (R369) -/
def HK.MT_CFG.TYPE0 : Row :=
  { base := 0x1190038, lo := 0, width := 2, acc := .rwl, clr := .blk }
/-- MT_NTC [31:16] B (16): K, 1000–9999 -/
def HK.MT_NTC.B : Row :=
  { base := 0x119003C, lo := 16, width := 16, reset := 0xd6b, acc := .rwl, clr := .blk, range := some (1000, 9999) }
/-- MT_NTC [15:0] R25 (16): 10 Ω, 10–65 535 -/
def HK.MT_NTC.R25 : Row :=
  { base := 0x119003C, lo := 0, width := 16, reset := 0x3e8, acc := .rwl, clr := .blk, range := some (10, 65535) }
/-- THR_VAL0 [28:24] AUX1 (16): 16 − n_max (R372) -/
def HK.THR_VAL0.AUX1 : Row :=
  { base := 0x1190040, lo := 24, width := 5, reset := 0x10, acc := .ro, clr := .blk }
/-- THR_VAL0 [20:16] AUX0 (16): 16 − n_max (R372) -/
def HK.THR_VAL0.AUX0 : Row :=
  { base := 0x1190040, lo := 16, width := 5, reset := 0x10, acc := .ro, clr := .blk }
/-- THR_VAL0 [12:8] AXB (16): 16 − n_max (R372) -/
def HK.THR_VAL0.AXB : Row :=
  { base := 0x1190040, lo := 8, width := 5, reset := 0x10, acc := .ro, clr := .blk }
/-- THR_VAL0 [4:0] AXA (16): 16 − n_max (R372) -/
def HK.THR_VAL0.AXA : Row :=
  { base := 0x1190040, lo := 0, width := 5, reset := 0x10, acc := .ro, clr := .blk }
/-- THR_VAL1 [4:0] AUX2 (16): As THR_VAL0 -/
def HK.THR_VAL1.AUX2 : Row :=
  { base := 0x1190044, lo := 0, width := 5, reset := 0x10, acc := .ro, clr := .blk }
/-- BAND_STAT [25:24] ABI (16): ABI band -/
def HK.BAND_STAT.ABI : Row :=
  { base := 0x1190048, lo := 24, width := 2, acc := .ro, clr := .blk }
/-- BAND_STAT [23:0] GI (16): 2 bits per island, GI0 in [1:0] -/
def HK.BAND_STAT.GI : Row :=
  { base := 0x1190048, lo := 0, width := 24, acc := .ro, clr := .blk }
/-- OT_STAT [16:16] BI (16): Belay die hold (R374) -/
def HK.OT_STAT.BI : Row :=
  { base := 0x119004C, lo := 16, width := 1, acc := .ro, clr := .blk }
/-- OT_STAT [15:15] CI (16): Control die hold -/
def HK.OT_STAT.CI : Row :=
  { base := 0x119004C, lo := 15, width := 1, acc := .ro, clr := .blk }
/-- OT_STAT [14:12] ABI (16): Bridge hold, bridge 2–0 -/
def HK.OT_STAT.ABI : Row :=
  { base := 0x119004C, lo := 12, width := 3, acc := .ro, clr := .blk }
/-- OT_STAT [11:0] GI (16): Island hold -/
def HK.OT_STAT.GI : Row :=
  { base := 0x119004C, lo := 0, width := 12, acc := .ro, clr := .blk }
/-- FAULT0 [31:0] FAULT_LO (16): Sensor n faulted (R370); a fault that persists stays set -/
def HK.FAULT0.FAULT_LO : Row :=
  { base := 0x1190050, lo := 0, width := 32, acc := .w1c, clr := .blk }
/-- FAULT1 [5:0] FAULT_HI (16): Sensor n faulted (R370); a fault that persists stays set -/
def HK.FAULT1.FAULT_HI : Row :=
  { base := 0x1190054, lo := 0, width := 6, acc := .w1c, clr := .blk }
/-- PIT_CTL [31:31] ARM (16): Arms the selected piton; clears after it acts -/
def HK.PIT_CTL.ARM : Row :=
  { base := 0x1190058, lo := 31, width := 1, acc := .w1s, clr := .blk }
/-- PIT_CTL [13:8] SENS (16): Sensor 0–37 -/
def HK.PIT_CTL.SENS : Row :=
  { base := 0x1190058, lo := 8, width := 6, acc := .rw, clr := .blk, range := some (0, 37) }
/-- PIT_CTL [3:0] SEL (16): Piton code (R377); 0 means none -/
def HK.PIT_CTL.SEL : Row :=
  { base := 0x1190058, lo := 0, width := 4, acc := .rw, clr := .blk }
/-- BS_MIN [29:20] W (16): Lowest bootstrap voltage, 10 bits each, 20 mV per code -/
def HK.BS_MIN.W : Row :=
  { base := 0x1190060, s1 := 0x4, c1 := 3, lo := 20, width := 10, reset := 0x3ff, acc := .ro, clr := .blk }
/-- BS_MIN [19:10] V (16): Lowest bootstrap voltage, 10 bits each, 20 mV per code -/
def HK.BS_MIN.V : Row :=
  { base := 0x1190060, s1 := 0x4, c1 := 3, lo := 10, width := 10, reset := 0x3ff, acc := .ro, clr := .blk }
/-- BS_MIN [9:0] U (16): Lowest bootstrap voltage, 10 bits each, 20 mV per code -/
def HK.BS_MIN.U : Row :=
  { base := 0x1190060, s1 := 0x4, c1 := 3, lo := 0, width := 10, reset := 0x3ff, acc := .ro, clr := .blk }
/-- TEMP [15:15] FAULT (16): Reading replaced (R370) -/
def HK.TEMP.FAULT : Row :=
  { base := 0x1190100, s1 := 0x4, c1 := 38, lo := 15, width := 1, acc := .ro, clr := .blk }
/-- TEMP [14:14] ABSENT (16): Sensor marked absent -/
def HK.TEMP.ABSENT : Row :=
  { base := 0x1190100, s1 := 0x4, c1 := 38, lo := 14, width := 1, acc := .ro, clr := .blk }
/-- TEMP [9:0] VAL (16): Latched reading, encoding of R191 -/
def HK.TEMP.VAL : Row :=
  { base := 0x1190100, s1 := 0x4, c1 := 38, lo := 0, width := 10, acc := .ro, clr := .blk }
/-- Not a register: sequence number of the last heartbeat word sent (R302). -/
def HK.hbSeq : Row :=
  { base := 0x801E0144, lo := 0, width := 16, acc := .hid, clr := .ctl }
/-- Not a register: step count n of each sensor (R372). -/
def HK.thrN : Row :=
  { base := 0x801E0148, s1 := 0x4, c1 := 38, lo := 0, width := 5, acc := .hid, clr := .blk }
/-- Not a register: a slow round is in progress (R368). -/
def HK.busy : Row :=
  { base := 0x801E01E0, lo := 0, width := 1, acc := .hid, clr := .blk }
/-- Not a register: a slow round has completed since start-up (R451). -/
def HK.rounded : Row :=
  { base := 0x801E01E4, lo := 0, width := 1, acc := .hid, clr := .ctl }
/-- Not a register: device time at which the last slow round completed (R368). -/
def HK.roundT : Row :=
  { base := 0x8078EC50, lo := 0, width := 64, acc := .hid, clr := .blk }
/-- Not a register: device time of the last latched reading of a sensor less than 20 degC below its shutdown threshold, or of its shutdown (R374). -/
def HK.coolT : Row :=
  { base := 0x8078EC54, s1 := 0x4, c1 := 38, lo := 0, width := 64, acc := .hid, clr := .blk }
/-- Not a register: factor in force of axis A, axis B and the aux channels, in sixteenths (R372). -/
def HK.thrIn : Row :=
  { base := 0x80880630, s1 := 0x4, c1 := 5, lo := 0, width := 5, reset := 16, acc := .hid, clr := .blk }
/-- Not a register: a reading of this sensor was replaced while its hardware shutdown held (R374, R375). -/
def HK.otFail : Row :=
  { base := 0x80880644, s1 := 0x4, c1 := 38, lo := 0, width := 1, acc := .hid, clr := .blk }
/-- Rows of HK, part 0. -/
def HK.rows0 : List Row :=
  [HK.CTL.LOCK, HK.CTL.CFG_REJECT, HK.CTL.BS_RST, HK.CTL.THR_EN, HK.STATUS.STALE, HK.STATUS.ROUND_CNT, HK.CLS_CFG.TS, HK.BAND_GI.B3, HK.BAND_GI.B2, HK.BAND_GI.B1, HK.BAND_ABI.B3, HK.BAND_ABI.B2, HK.BAND_ABI.B1, HK.MT_CFG.TYPE3, HK.MT_CFG.TYPE2, HK.MT_CFG.TYPE1, HK.MT_CFG.TYPE0, HK.MT_NTC.B, HK.MT_NTC.R25, HK.THR_VAL0.AUX1, HK.THR_VAL0.AUX0, HK.THR_VAL0.AXB, HK.THR_VAL0.AXA, HK.THR_VAL1.AUX2, HK.BAND_STAT.ABI, HK.BAND_STAT.GI, HK.OT_STAT.BI, HK.OT_STAT.CI, HK.OT_STAT.ABI, HK.OT_STAT.GI, HK.FAULT0.FAULT_LO, HK.FAULT1.FAULT_HI, HK.PIT_CTL.ARM, HK.PIT_CTL.SENS, HK.PIT_CTL.SEL, HK.BS_MIN.W, HK.BS_MIN.V, HK.BS_MIN.U, HK.TEMP.FAULT, HK.TEMP.ABSENT]
/-- Rows of HK, part 1. -/
def HK.rows1 : List Row :=
  [HK.TEMP.VAL, HK.hbSeq, HK.thrN, HK.busy, HK.rounded, HK.roundT, HK.coolT, HK.thrIn, HK.otFail]
/-- Every row of HK. -/
def HK.rows : List Row := HK.rows0 ++ HK.rows1

/-- CTL [8:8] RELEASE (08): Sends RELEASE; also sent by the module at ENABLE -/
def GI.CTL.RELEASE : Row :=
  { base := 0x1200000, s1 := 0x1000, c1 := 12, lo := 8, width := 1, acc := .w1s, clr := .blk }
/-- CTL [7:7] CONF_DONE (08): Runs R200 -/
def GI.CTL.CONF_DONE : Row :=
  { base := 0x1200000, s1 := 0x1000, c1 := 12, lo := 7, width := 1, acc := .w1s, clr := .blk }
/-- CTL [6:6] SWAP (08): Swaps the profile banks of every island of the axis (R200); reads 1 until this island has taken it -/
def GI.CTL.SWAP : Row :=
  { base := 0x1200000, s1 := 0x1000, c1 := 12, lo := 6, width := 1, acc := .w1s, clr := .blk }
/-- CTL [4:4] NTC_ABS (08): NTC absent (R28, R211) -/
def GI.CTL.NTC_ABS : Row :=
  { base := 0x1200000, s1 := 0x1000, c1 := 12, lo := 4, width := 1, acc := .rwl, clr := .blk }
/-- CTL [3:0] SC_SLOT (08): Slot for a safe-state or broadcast turn-on -/
def GI.CTL.SC_SLOT : Row :=
  { base := 0x1200000, s1 := 0x1000, c1 := 12, lo := 0, width := 4, reset := 0xf, acc := .rwl, clr := .blk }
/-- STATUS [31:29] STATE (08): 0 OFF, 1 UNCONF, 2 HELD, 3 READY, 4 SAFE -/
def GI.STATUS.STATE : Row :=
  { base := 0x1200004, s1 := 0x1000, c1 := 12, lo := 29, width := 3, acc := .ro, clr := .blk }
/-- STATUS [28:28] ON (08): Switch commanded on -/
def GI.STATUS.ON : Row :=
  { base := 0x1200004, s1 := 0x1000, c1 := 12, lo := 28, width := 1, acc := .ro, clr := .blk }
/-- STATUS [27:27] OVB (08): Broadcast seen -/
def GI.STATUS.OVB : Row :=
  { base := 0x1200004, s1 := 0x1000, c1 := 12, lo := 27, width := 1, acc := .ro, clr := .blk }
/-- STATUS [25:24] BL_CODE (08): 0 RUN, 1 OPEN, 2 SHORT-LO, 3 SHORT-HI -/
def GI.STATUS.BL_CODE : Row :=
  { base := 0x1200004, s1 := 0x1000, c1 := 12, lo := 24, width := 2, reset := 1, acc := .ro, clr := .blk }
/-- STATUS [21:21] BANK (08): Active profile bank -/
def GI.STATUS.BANK : Row :=
  { base := 0x1200004, s1 := 0x1000, c1 := 12, lo := 21, width := 1, acc := .ro, clr := .blk }
/-- STATUS [20:16] TRIM (08): Signed trim at the end of the last edge -/
def GI.STATUS.TRIM : Row :=
  { base := 0x1200004, s1 := 0x1000, c1 := 12, lo := 16, width := 5, acc := .ro, clr := .blk }
/-- STATUS [7:7] PEND (08): Configuration frames outstanding -/
def GI.STATUS.PEND : Row :=
  { base := 0x1200004, s1 := 0x1000, c1 := 12, lo := 7, width := 1, acc := .ro, clr := .blk }
/-- STATUS [5:5] OVLP (08): A flag whose condition persists stays set -/
def GI.STATUS.OVLP : Row :=
  { base := 0x1200004, s1 := 0x1000, c1 := 12, lo := 5, width := 1, acc := .w1c, clr := .blk }
/-- STATUS [4:4] PROF_CRC (08): A flag whose condition persists stays set -/
def GI.STATUS.PROF_CRC : Row :=
  { base := 0x1200004, s1 := 0x1000, c1 := 12, lo := 4, width := 1, acc := .w1c, clr := .blk }
/-- STATUS [3:3] BAD_CMD (08): A flag whose condition persists stays set -/
def GI.STATUS.BAD_CMD : Row :=
  { base := 0x1200004, s1 := 0x1000, c1 := 12, lo := 3, width := 1, acc := .w1c, clr := .blk }
/-- STATUS [2:2] BL_CONTRA (08): A flag whose condition persists stays set -/
def GI.STATUS.BL_CONTRA : Row :=
  { base := 0x1200004, s1 := 0x1000, c1 := 12, lo := 2, width := 1, acc := .w1c, clr := .blk }
/-- STATUS [1:1] CM_EVT (08): A flag whose condition persists stays set -/
def GI.STATUS.CM_EVT : Row :=
  { base := 0x1200004, s1 := 0x1000, c1 := 12, lo := 1, width := 1, acc := .w1c, clr := .blk }
/-- STATUS [0:0] TRIM_SAT (08): A flag whose condition persists stays set -/
def GI.STATUS.TRIM_SAT : Row :=
  { base := 0x1200004, s1 := 0x1000, c1 := 12, lo := 0, width := 1, acc := .w1c, clr := .blk }
/-- SUPPLY [31:24] VPOS_SET (08): 0.25 V, 60–80 -/
def GI.SUPPLY.VPOS_SET : Row :=
  { base := 0x1200008, s1 := 0x1000, c1 := 12, lo := 24, width := 8, reset := 0x48, acc := .rwl, clr := .blk, range := some (60, 80) }
/-- SUPPLY [23:16] VNEG_SET (08): Magnitude, 0.25 V, 8–20 -/
def GI.SUPPLY.VNEG_SET : Row :=
  { base := 0x1200008, s1 := 0x1000, c1 := 12, lo := 16, width := 8, reset := 0x10, acc := .rwl, clr := .blk, range := some (8, 20) }
/-- SUPPLY [15:8] UVLO_P (08): 0.25 V, 40–64 -/
def GI.SUPPLY.UVLO_P : Row :=
  { base := 0x1200008, s1 := 0x1000, c1 := 12, lo := 8, width := 8, reset := 0x34, acc := .rwl, clr := .blk, range := some (40, 64) }
/-- SUPPLY [7:0] UVLO_N (08): Magnitude, 0.25 V, 2–8 -/
def GI.SUPPLY.UVLO_N : Row :=
  { base := 0x1200008, s1 := 0x1000, c1 := 12, lo := 0, width := 8, reset := 4, acc := .rwl, clr := .blk, range := some (2, 8) }
/-- PROT [31:24] DESAT_V (08): 0.1 V, 20–150 -/
def GI.PROT.DESAT_V : Row :=
  { base := 0x120000C, s1 := 0x1000, c1 := 12, lo := 24, width := 8, reset := 0x50, acc := .rwl, clr := .blk, range := some (20, 150) }
/-- PROT [23:18] BLANK (08): 150 + 25 × BLANK ns, 0–42 -/
def GI.PROT.BLANK : Row :=
  { base := 0x120000C, s1 := 0x1000, c1 := 12, lo := 18, width := 6, reset := 0xa, acc := .rwl, clr := .blk, range := some (0, 42) }
/-- PROT [17:14] DESAT_FLT (08): Island clocks, 0–15 -/
def GI.PROT.DESAT_FLT : Row :=
  { base := 0x120000C, s1 := 0x1000, c1 := 12, lo := 14, width := 4, reset := 4, acc := .rwl, clr := .blk }
/-- PROT [13:7] DIDT_TH (08): 0.5 V, 1–127 -/
def GI.PROT.DIDT_TH : Row :=
  { base := 0x120000C, s1 := 0x1000, c1 := 12, lo := 7, width := 7, reset := 0x3c, acc := .rwl, clr := .blk, range := some (1, 127) }
/-- PROT [6:5] DIDT_FLT (08): 40, 80, 120 or 160 ns -/
def GI.PROT.DIDT_FLT : Row :=
  { base := 0x120000C, s1 := 0x1000, c1 := 12, lo := 5, width := 2, reset := 1, acc := .rwl, clr := .blk }
/-- SAFE_CFG [31:24] SC_DLY (08): 100 ns, 2–50 -/
def GI.SAFE_CFG.SC_DLY : Row :=
  { base := 0x1200010, s1 := 0x1000, c1 := 12, lo := 24, width := 8, reset := 0xa, acc := .rwl, clr := .blk, range := some (2, 50) }
/-- SAFE_CFG [23:16] BC_WAIT (08): 100 ns, 10–80 -/
def GI.SAFE_CFG.BC_WAIT : Row :=
  { base := 0x1200010, s1 := 0x1000, c1 := 12, lo := 16, width := 8, reset := 0x1e, acc := .rwl, clr := .blk, range := some (10, 80) }
/-- SAFE_CFG [15:8] BC_VDS (08): V, 10–200 -/
def GI.SAFE_CFG.BC_VDS : Row :=
  { base := 0x1200010, s1 := 0x1000, c1 := 12, lo := 8, width := 8, reset := 0x32, acc := .rwl, clr := .blk, range := some (10, 200) }
/-- MEAS_T [25:16] TNTC (08): VAL of R191 -/
def GI.MEAS_T.TNTC : Row :=
  { base := 0x1200014, s1 := 0x1000, c1 := 12, lo := 16, width := 10, acc := .ro, clr := .blk }
/-- MEAS_T [9:0] TDIE (08): VAL of R191 -/
def GI.MEAS_T.TDIE : Row :=
  { base := 0x1200014, s1 := 0x1000, c1 := 12, lo := 0, width := 10, acc := .ro, clr := .blk }
/-- MEAS_V [25:16] VNEG (08): 25 mV, magnitude -/
def GI.MEAS_V.VNEG : Row :=
  { base := 0x1200018, s1 := 0x1000, c1 := 12, lo := 16, width := 10, acc := .ro, clr := .blk }
/-- MEAS_V [9:0] VPOS (08): 25 mV -/
def GI.MEAS_V.VPOS : Row :=
  { base := 0x1200018, s1 := 0x1000, c1 := 12, lo := 0, width := 10, acc := .ro, clr := .blk }
/-- VDS [13:10] VAGE (08): As in R191 -/
def GI.VDS.VAGE : Row :=
  { base := 0x120001C, s1 := 0x1000, c1 := 12, lo := 10, width := 4, acc := .ro, clr := .blk }
/-- VDS [9:0] CODE (08): Latest Vds code -/
def GI.VDS.CODE : Row :=
  { base := 0x120001C, s1 := 0x1000, c1 := 12, lo := 0, width := 10, acc := .ro, clr := .blk }
/-- TRIP [31:31] DESAT (08): Causes reported since last cleared -/
def GI.TRIP.DESAT : Row :=
  { base := 0x1200020, s1 := 0x1000, c1 := 12, lo := 31, width := 1, acc := .w1c, clr := .blk }
/-- TRIP [30:30] DIDT (08): Causes reported since last cleared -/
def GI.TRIP.DIDT : Row :=
  { base := 0x1200020, s1 := 0x1000, c1 := 12, lo := 30, width := 1, acc := .w1c, clr := .blk }
/-- TRIP [29:29] UVLO (08): Causes reported since last cleared -/
def GI.TRIP.UVLO : Row :=
  { base := 0x1200020, s1 := 0x1000, c1 := 12, lo := 29, width := 1, acc := .w1c, clr := .blk }
/-- TRIP [28:28] OT (08): Causes reported since last cleared -/
def GI.TRIP.OT : Row :=
  { base := 0x1200020, s1 := 0x1000, c1 := 12, lo := 28, width := 1, acc := .w1c, clr := .blk }
/-- TRIP [27:27] LINK (08): Causes reported since last cleared -/
def GI.TRIP.LINK : Row :=
  { base := 0x1200020, s1 := 0x1000, c1 := 12, lo := 27, width := 1, acc := .w1c, clr := .blk }
/-- TRIP [15:0] TRIP_CNT (08): TRIP frames, saturating -/
def GI.TRIP.TRIP_CNT : Row :=
  { base := 0x1200020, s1 := 0x1000, c1 := 12, lo := 0, width := 16, acc := .ro, clr := .blk }
/-- LINK [31:24] BAD_CRC (08): Discarded uplink frames, saturating -/
def GI.LINK.BAD_CRC : Row :=
  { base := 0x1200024, s1 := 0x1000, c1 := 12, lo := 24, width := 8, acc := .ro, clr := .blk }
/-- LINK [23:16] ABORT (08): Downlink frames aborted by urgent frames, saturating -/
def GI.LINK.ABORT : Row :=
  { base := 0x1200024, s1 := 0x1000, c1 := 12, lo := 16, width := 8, acc := .ro, clr := .blk }
/-- LINK [15:8] LATE_EDGE (08): Edges started late (R192), saturating -/
def GI.LINK.LATE_EDGE : Row :=
  { base := 0x1200024, s1 := 0x1000, c1 := 12, lo := 8, width := 8, acc := .ro, clr := .blk }
/-- LINK [7:0] BAD_CMD_CNT (08): Ignored commands, saturating -/
def GI.LINK.BAD_CMD_CNT : Row :=
  { base := 0x1200024, s1 := 0x1000, c1 := 12, lo := 0, width := 8, acc := .ro, clr := .blk }
/-- PROF_CRC [31:16] CALC (08): CRC-16 computed by GLK at the last CONF_DONE -/
def GI.PROF_CRC.CALC : Row :=
  { base := 0x1200028, s1 := 0x1000, c1 := 12, lo := 16, width := 16, acc := .ro, clr := .blk }
/-- PROF_CRC [15:0] ISL (08): CRC-16 reported by the island -/
def GI.PROF_CRC.ISL : Row :=
  { base := 0x1200028, s1 := 0x1000, c1 := 12, lo := 0, width := 16, acc := .ro, clr := .blk }
/-- PROF_DUR [27:16] E_SOFT (08): Soft profile duration, ns -/
def GI.PROF_DUR.E_SOFT : Row :=
  { base := 0x120002C, s1 := 0x1000, c1 := 12, lo := 16, width := 12, reset := 0x320, acc := .ro, clr := .blk }
/-- PROF_DUR [11:0] E_MAX (08): Longest turn-on or turn-off profile of the active bank, ns -/
def GI.PROF_DUR.E_MAX : Row :=
  { base := 0x120002C, s1 := 0x1000, c1 := 12, lo := 0, width := 12, reset := 0xa0, acc := .ro, clr := .blk }
/-- PROF_WIN [11:6] DUR (08): Inactive bank (R195) -/
def GI.PROF_WIN.DUR : Row :=
  { base := 0x1200400, s1 := 0x1000, c1 := 12, s2 := 0x4, c2 := 256, lo := 6, width := 6, reset := 3, acc := .rw, clr := .blk }
/-- PROF_WIN [5:0] CUR (08): Inactive bank -/
def GI.PROF_WIN.CUR : Row :=
  { base := 0x1200400, s1 := 0x1000, c1 := 12, s2 := 0x4, c2 := 256, lo := 0, width := 6, reset := 6, acc := .rw, clr := .blk }
/-- SLOT_CFG [11:6] DVDT_TGT (08): V/ns, 0 or 5–50 (R198) -/
def GI.SLOT_CFG.DVDT_TGT : Row :=
  { base := 0x1200800, s1 := 0x1000, c1 := 12, s2 := 0x4, c2 := 32, lo := 6, width := 6, reset := 0x14, acc := .rw, clr := .blk, range := some (5, 50), zeroToo := true }
/-- SLOT_CFG [5:3] DV_FIRST (08): First loop segment -/
def GI.SLOT_CFG.DV_FIRST : Row :=
  { base := 0x1200800, s1 := 0x1000, c1 := 12, s2 := 0x4, c2 := 32, lo := 3, width := 3, reset := 2, acc := .rw, clr := .blk }
/-- SLOT_CFG [2:0] DV_LAST (08): Last loop segment -/
def GI.SLOT_CFG.DV_LAST : Row :=
  { base := 0x1200800, s1 := 0x1000, c1 := 12, s2 := 0x4, c2 := 32, lo := 0, width := 3, reset := 5, acc := .rw, clr := .blk }
/-- SOFT_WIN [11:6] DUR (08): Soft segment (R206) -/
def GI.SOFT_WIN.DUR : Row :=
  { base := 0x1200880, s1 := 0x1000, c1 := 12, s2 := 0x4, c2 := 8, lo := 6, width := 6, reset := 0x13, acc := .rwl, clr := .blk }
/-- SOFT_WIN [5:0] CUR (08): Soft segment -/
def GI.SOFT_WIN.CUR : Row :=
  { base := 0x1200880, s1 := 0x1000, c1 := 12, s2 := 0x4, c2 := 8, lo := 0, width := 6, reset := 3, acc := .rwl, clr := .blk }
/-- Not a register: the state last commanded for the island's switch by PU or SQ (R88, R141). -/
def GI.cmdOn : Row :=
  { base := 0x801E01E8, s1 := 0x4, c1 := 12, lo := 0, width := 1, acc := .hid, clr := .ctl }
/-- Not a register: the island's own state: 0 OFF, 1 UNCONF, 2 HELD, 3 READY, 4 SAFE (R194). -/
def GI.iSt : Row :=
  { base := 0x801E0218, s1 := 0x4, c1 := 12, lo := 0, width := 3, acc := .hid, clr := .cold }
/-- Not a register: the island is configured (R194). -/
def GI.iConf : Row :=
  { base := 0x801E0248, s1 := 0x4, c1 := 12, lo := 0, width := 1, acc := .hid, clr := .cold }
/-- Not a register: the island's switch is on (R194). -/
def GI.iOn : Row :=
  { base := 0x801E0278, s1 := 0x4, c1 := 12, lo := 0, width := 1, acc := .hid, clr := .cold }
/-- Not a register: active profile bank of the island (R200). -/
def GI.iBank : Row :=
  { base := 0x801E02A8, s1 := 0x4, c1 := 12, lo := 0, width := 1, acc := .hid, clr := .cold }
/-- Not a register: profile segments of bank × 256 + index (R195). -/
def GI.iPb : Row :=
  { base := 0x801E02D8, s1 := 0x800, c1 := 12, s2 := 0x4, c2 := 512, lo := 0, width := 12, reset := 0xc6, acc := .hid, clr := .cold }
/-- Not a register: slot words of bank × 32 + index (R198). -/
def GI.iSb : Row :=
  { base := 0x801E62D8, s1 := 0x100, c1 := 12, s2 := 0x4, c2 := 64, lo := 0, width := 12, reset := 0x515, acc := .hid, clr := .cold }
/-- Not a register: soft turn-off segments of the island (R206). -/
def GI.iSoft : Row :=
  { base := 0x801E6ED8, s1 := 0x20, c1 := 12, s2 := 0x4, c2 := 8, lo := 0, width := 12, reset := 0x4c3, acc := .hid, clr := .cold }
/-- Not a register: island setting 0x180 VPOS_SET (R193). -/
def GI.iVpos : Row :=
  { base := 0x801E7058, s1 := 0x4, c1 := 12, lo := 0, width := 12, reset := 0x48, acc := .hid, clr := .cold }
/-- Not a register: island setting 0x181 VNEG_SET (R193). -/
def GI.iVneg : Row :=
  { base := 0x801E7088, s1 := 0x4, c1 := 12, lo := 0, width := 12, reset := 0x10, acc := .hid, clr := .cold }
/-- Not a register: island setting 0x182 UVLO_P (R193). -/
def GI.iUvP : Row :=
  { base := 0x801E70B8, s1 := 0x4, c1 := 12, lo := 0, width := 12, reset := 0x34, acc := .hid, clr := .cold }
/-- Not a register: island setting 0x183 UVLO_N (R193). -/
def GI.iUvN : Row :=
  { base := 0x801E70E8, s1 := 0x4, c1 := 12, lo := 0, width := 12, reset := 4, acc := .hid, clr := .cold }
/-- Not a register: island setting 0x184 DESAT_V (R193). -/
def GI.iDesV : Row :=
  { base := 0x801E7118, s1 := 0x4, c1 := 12, lo := 0, width := 12, reset := 0x50, acc := .hid, clr := .cold }
/-- Not a register: island setting 0x185 BLANK (R193). -/
def GI.iBlank : Row :=
  { base := 0x801E7148, s1 := 0x4, c1 := 12, lo := 0, width := 12, reset := 0xa, acc := .hid, clr := .cold }
/-- Not a register: island setting 0x186 DESAT_FLT (R193). -/
def GI.iDesF : Row :=
  { base := 0x801E7178, s1 := 0x4, c1 := 12, lo := 0, width := 12, reset := 4, acc := .hid, clr := .cold }
/-- Not a register: island setting 0x187 DIDT_TH (R193). -/
def GI.iDiTh : Row :=
  { base := 0x801E71A8, s1 := 0x4, c1 := 12, lo := 0, width := 12, reset := 0x3c, acc := .hid, clr := .cold }
/-- Not a register: island setting 0x188 DIDT_FLT (R193). -/
def GI.iDiF : Row :=
  { base := 0x801E71D8, s1 := 0x4, c1 := 12, lo := 0, width := 12, reset := 1, acc := .hid, clr := .cold }
/-- Not a register: island setting 0x189 SC_DLY (R193). -/
def GI.iScDly : Row :=
  { base := 0x801E7208, s1 := 0x4, c1 := 12, lo := 0, width := 12, reset := 0xa, acc := .hid, clr := .cold }
/-- Not a register: island setting 0x18A BC_WAIT (R193). -/
def GI.iBcWait : Row :=
  { base := 0x801E7238, s1 := 0x4, c1 := 12, lo := 0, width := 12, reset := 0x1e, acc := .hid, clr := .cold }
/-- Not a register: island setting 0x18B BC_VDS (R193). -/
def GI.iBcVds : Row :=
  { base := 0x801E7268, s1 := 0x4, c1 := 12, lo := 0, width := 12, reset := 0x32, acc := .hid, clr := .cold }
/-- Not a register: island setting 0x18C NTC_ABS and SC_SLOT (R193). -/
def GI.iCtl : Row :=
  { base := 0x801E7298, s1 := 0x4, c1 := 12, lo := 0, width := 12, reset := 0xf, acc := .hid, clr := .cold }
/-- Not a register: CRC_HI and CRC_LO as received (R200). -/
def GI.iCrc : Row :=
  { base := 0x801E72C8, s1 := 0x8, c1 := 12, s2 := 0x4, c2 := 2, lo := 0, width := 8, acc := .hid, clr := .cold }
/-- Not a register: starting trim of slot × 2 + direction, signed (R198). -/
def GI.iTrim : Row :=
  { base := 0x801E7328, s1 := 0x80, c1 := 12, s2 := 0x4, c2 := 32, lo := 0, width := 5, acc := .hid, clr := .cold }
/-- Not a register: trim at the end of the last edge, signed (R191). -/
def GI.iTrimEnd : Row :=
  { base := 0x801E7928, s1 := 0x4, c1 := 12, lo := 0, width := 5, acc := .hid, clr := .cold }
/-- Not a register: consecutive edges of the slot with TRIM_SAT (R199). -/
def GI.iSatRun : Row :=
  { base := 0x801E7958, s1 := 0x40, c1 := 12, s2 := 0x4, c2 := 16, lo := 0, width := 7, acc := .hid, clr := .cold }
/-- Not a register: an edge is commanded and not yet started (R192). -/
def GI.iPend : Row :=
  { base := 0x801E7C58, s1 := 0x4, c1 := 12, lo := 0, width := 1, acc := .hid, clr := .cold }
/-- Not a register: its direction, 1 turn-on (R192). -/
def GI.iDir : Row :=
  { base := 0x801E7C88, s1 := 0x4, c1 := 12, lo := 0, width := 1, acc := .hid, clr := .cold }
/-- Not a register: its slot (R192). -/
def GI.iSlot : Row :=
  { base := 0x801E7CB8, s1 := 0x4, c1 := 12, lo := 0, width := 4, acc := .hid, clr := .cold }
/-- Not a register: end of the profile that runs, 1.25 ns of device time (R197). -/
def GI.iEndT : Row :=
  { base := 0x801E7CE8, s1 := 0x4, c1 := 12, lo := 0, width := 66, acc := .hid, clr := .cold }
/-- Not a register: direction of that profile (R197). -/
def GI.iRunDir : Row :=
  { base := 0x801E7D18, s1 := 0x4, c1 := 12, lo := 0, width := 1, acc := .hid, clr := .cold }
/-- Not a register: Belay code acted on: 0 RUN, 1 OPEN, 2 SHORT-LO, 3 SHORT-HI (R207). -/
def GI.iBl : Row :=
  { base := 0x801E7D48, s1 := 0x4, c1 := 12, lo := 0, width := 2, reset := 1, acc := .hid, clr := .cold }
/-- Not a register: a turn-on under a Belay code waits for SC_DLY (R207). -/
def GI.iSc : Row :=
  { base := 0x801E7D78, s1 := 0x4, c1 := 12, lo := 0, width := 1, acc := .hid, clr := .cold }
/-- Not a register: the broadcast is seen (R208). -/
def GI.iOvb : Row :=
  { base := 0x801E7DA8, s1 := 0x4, c1 := 12, lo := 0, width := 1, acc := .hid, clr := .cold }
/-- Not a register: a turn-on under the broadcast waits (R208). -/
def GI.iBc : Row :=
  { base := 0x801E7DD8, s1 := 0x4, c1 := 12, lo := 0, width := 1, acc := .hid, clr := .cold }
/-- Not a register: UVLO stands (R202). -/
def GI.iUvlo : Row :=
  { base := 0x801E7E08, s1 := 0x4, c1 := 12, lo := 0, width := 1, acc := .hid, clr := .cold }
/-- Not a register: VPOS fell below 6 V while UVLO stands (R202). -/
def GI.iLow : Row :=
  { base := 0x801E7E38, s1 := 0x4, c1 := 12, lo := 0, width := 1, acc := .hid, clr := .cold }
/-- Not a register: hardware shutdown stands by the die, bit 0, or the NTC, bit 1 (R211, R374). -/
def GI.iOt : Row :=
  { base := 0x801E7E68, s1 := 0x4, c1 := 12, lo := 0, width := 2, acc := .hid, clr := .cold }
/-- Not a register: the island has lost its link and has had no RESET since (R193). -/
def GI.iLost : Row :=
  { base := 0x801E7E98, s1 := 0x4, c1 := 12, lo := 0, width := 1, acc := .hid, clr := .cold }
/-- Not a register: flags still to be reported in a STATUS frame: 3 TRIM_SAT, 2 CM_EVT, 1 BL_CONTRA, 0 BAD_CMD (R191). -/
def GI.iFlag : Row :=
  { base := 0x801E7EC8, s1 := 0x4, c1 := 12, lo := 0, width := 4, acc := .hid, clr := .cold }
/-- Not a register: causes still to be sent in a TRIP frame: 4 DESAT, 3 DIDT, 2 UVLO, 1 OT, 0 LINK (R205). -/
def GI.iCause : Row :=
  { base := 0x801E7EF8, s1 := 0x4, c1 := 12, lo := 0, width := 5, acc := .hid, clr := .cold }
/-- Not a register: edge count of the island (R193). -/
def GI.iEdges : Row :=
  { base := 0x801E7F28, s1 := 0x4, c1 := 12, lo := 0, width := 12, acc := .hid, clr := .cold }
/-- Not a register: count of edges with TRIM_SAT (R199). -/
def GI.iSats : Row :=
  { base := 0x801E7F58, s1 := 0x4, c1 := 12, lo := 0, width := 12, acc := .hid, clr := .cold }
/-- Not a register: bad downlink frames (R193). -/
def GI.iBad : Row :=
  { base := 0x801E7F88, s1 := 0x4, c1 := 12, lo := 0, width := 12, acc := .hid, clr := .cold }
/-- Not a register: last trip causes (R193). -/
def GI.iLast : Row :=
  { base := 0x801E7FB8, s1 := 0x4, c1 := 12, lo := 0, width := 12, acc := .hid, clr := .cold }
/-- Not a register: snapshot registers 0x1E0 to 0x1E3 (R193). -/
def GI.snap : Row :=
  { base := 0x801E7FE8, s1 := 0x10, c1 := 12, s2 := 0x4, c2 := 4, lo := 0, width := 12, acc := .hid, clr := .cold }
/-- Not a register: a CFG_RD waits for its CFG_RSP (R190). -/
def GI.iRd : Row :=
  { base := 0x801E80A8, s1 := 0x4, c1 := 12, lo := 0, width := 1, acc := .hid, clr := .cold }
/-- Not a register: its address (R190). -/
def GI.iRdA : Row :=
  { base := 0x801E80D8, s1 := 0x4, c1 := 12, lo := 0, width := 10, acc := .hid, clr := .cold }
/-- Not a register: latest CFG_RSP at the endpoint: ERR and DATA (R191). -/
def GI.rsp : Row :=
  { base := 0x801E8108, s1 := 0x4, c1 := 12, lo := 0, width := 13, acc := .hid, clr := .blk }
/-- Not a register: configuration frames sent and not yet taken (R216). -/
def GI.cfgOut : Row :=
  { base := 0x801E8138, s1 := 0x4, c1 := 12, lo := 0, width := 12, acc := .hid, clr := .blk }
/-- Not a register: proxy's copy of the active bank's segments (R200). -/
def GI.winB : Row :=
  { base := 0x801E8168, s1 := 0x400, c1 := 12, s2 := 0x4, c2 := 256, lo := 0, width := 12, reset := 0xc6, acc := .hid, clr := .blk }
/-- Not a register: proxy's copy of the active bank's slot words (R200). -/
def GI.slotB : Row :=
  { base := 0x801EB168, s1 := 0x80, c1 := 12, s2 := 0x4, c2 := 32, lo := 0, width := 12, reset := 0x515, acc := .hid, clr := .blk }
/-- Not a register: the link has been up since the bank started or GLK left reset (R193). -/
def GI.trained : Row :=
  { base := 0x801EB768, s1 := 0x4, c1 := 12, lo := 0, width := 1, acc := .hid, clr := .blk }
/-- Not a register: the endpoint has lost the link (R193). -/
def GI.glLost : Row :=
  { base := 0x801EB798, s1 := 0x4, c1 := 12, lo := 0, width := 1, acc := .hid, clr := .blk }
/-- Not a register: the TRIM_SAT warning of the slot's present run has been raised (R199). -/
def GI.satWarn : Row :=
  { base := 0x801EB7C8, s1 := 0x40, c1 := 12, s2 := 0x4, c2 := 16, lo := 0, width := 1, acc := .hid, clr := .blk }
/-- Not a register: instant at which the pending edge starts, 1.25 ns of device time (R192). -/
def GI.iStartT : Row :=
  { base := 0x8078E930, s1 := 0x4, c1 := 12, lo := 0, width := 66, acc := .hid, clr := .cold }
/-- Not a register: instants of the latest edge's start and end as EDGE frames report them, 1.25 ns of device time (R191). -/
def GI.edgeAt : Row :=
  { base := 0x8078E960, s1 := 0x8, c1 := 12, s2 := 0x4, c2 := 2, lo := 0, width := 66, acc := .hid, clr := .blk }
/-- Not a register: direction of the edge that each of those frames reports (R191). -/
def GI.edgeDir : Row :=
  { base := 0x8078E9C0, s1 := 0x8, c1 := 12, s2 := 0x4, c2 := 2, lo := 0, width := 1, acc := .hid, clr := .blk }
/-- Not a register: first detection that the latest TRIP frame reports, 1.25 ns of device time (R191, R205). -/
def GI.tDet : Row :=
  { base := 0x8078EA20, s1 := 0x4, c1 := 12, lo := 0, width := 66, acc := .hid, clr := .blk }
/-- Not a register: the island has refused the RELEASE last sent (R194). -/
def GI.relNo : Row :=
  { base := 0x8078EA50, s1 := 0x4, c1 := 12, lo := 0, width := 1, acc := .hid, clr := .blk }
/-- Rows of GI, part 0. -/
def GI.rows0 : List Row :=
  [GI.CTL.RELEASE, GI.CTL.CONF_DONE, GI.CTL.SWAP, GI.CTL.NTC_ABS, GI.CTL.SC_SLOT, GI.STATUS.STATE, GI.STATUS.ON, GI.STATUS.OVB, GI.STATUS.BL_CODE, GI.STATUS.BANK, GI.STATUS.TRIM, GI.STATUS.PEND, GI.STATUS.OVLP, GI.STATUS.PROF_CRC, GI.STATUS.BAD_CMD, GI.STATUS.BL_CONTRA, GI.STATUS.CM_EVT, GI.STATUS.TRIM_SAT, GI.SUPPLY.VPOS_SET, GI.SUPPLY.VNEG_SET, GI.SUPPLY.UVLO_P, GI.SUPPLY.UVLO_N, GI.PROT.DESAT_V, GI.PROT.BLANK, GI.PROT.DESAT_FLT, GI.PROT.DIDT_TH, GI.PROT.DIDT_FLT, GI.SAFE_CFG.SC_DLY, GI.SAFE_CFG.BC_WAIT, GI.SAFE_CFG.BC_VDS, GI.MEAS_T.TNTC, GI.MEAS_T.TDIE, GI.MEAS_V.VNEG, GI.MEAS_V.VPOS, GI.VDS.VAGE, GI.VDS.CODE, GI.TRIP.DESAT, GI.TRIP.DIDT, GI.TRIP.UVLO, GI.TRIP.OT]
/-- Rows of GI, part 1. -/
def GI.rows1 : List Row :=
  [GI.TRIP.LINK, GI.TRIP.TRIP_CNT, GI.LINK.BAD_CRC, GI.LINK.ABORT, GI.LINK.LATE_EDGE, GI.LINK.BAD_CMD_CNT, GI.PROF_CRC.CALC, GI.PROF_CRC.ISL, GI.PROF_DUR.E_SOFT, GI.PROF_DUR.E_MAX, GI.PROF_WIN.DUR, GI.PROF_WIN.CUR, GI.SLOT_CFG.DVDT_TGT, GI.SLOT_CFG.DV_FIRST, GI.SLOT_CFG.DV_LAST, GI.SOFT_WIN.DUR, GI.SOFT_WIN.CUR, GI.cmdOn, GI.iSt, GI.iConf, GI.iOn, GI.iBank, GI.iPb, GI.iSb, GI.iSoft, GI.iVpos, GI.iVneg, GI.iUvP, GI.iUvN, GI.iDesV, GI.iBlank, GI.iDesF, GI.iDiTh, GI.iDiF, GI.iScDly, GI.iBcWait, GI.iBcVds, GI.iCtl, GI.iCrc, GI.iTrim]
/-- Rows of GI, part 2. -/
def GI.rows2 : List Row :=
  [GI.iTrimEnd, GI.iSatRun, GI.iPend, GI.iDir, GI.iSlot, GI.iEndT, GI.iRunDir, GI.iBl, GI.iSc, GI.iOvb, GI.iBc, GI.iUvlo, GI.iLow, GI.iOt, GI.iLost, GI.iFlag, GI.iCause, GI.iEdges, GI.iSats, GI.iBad, GI.iLast, GI.snap, GI.iRd, GI.iRdA, GI.rsp, GI.cfgOut, GI.winB, GI.slotB, GI.trained, GI.glLost, GI.satWarn, GI.iStartT, GI.edgeAt, GI.edgeDir, GI.tDet, GI.relNo]
/-- Every row of GI. -/
def GI.rows : List Row := GI.rows0 ++ GI.rows1 ++ GI.rows2

/-- CTL [31:31] LOCK (08): Locks every RWL field of GLK and its proxies -/
def GLK.CTL.LOCK : Row :=
  { base := 0x120C000, lo := 31, width := 1, acc := .w1s, clr := .blk }
/-- CTL [30:30] CFG_REJECT (08): A refused write or ENABLE (R200, R209, R216) -/
def GLK.CTL.CFG_REJECT : Row :=
  { base := 0x120C000, lo := 30, width := 1, acc := .w1c, clr := .blk }
/-- IBAND [29:20] TH3 (08): Current band 3 from here, I_base / 1024 units -/
def GLK.IBAND.TH3 : Row :=
  { base := 0x120C004, s1 := 0x4, c1 := 2, lo := 20, width := 10, reset := 0x180, acc := .rwl, clr := .blk, range := some (1, 1023) }
/-- IBAND [19:10] TH2 (08): Band 2 from here -/
def GLK.IBAND.TH2 : Row :=
  { base := 0x120C004, s1 := 0x4, c1 := 2, lo := 10, width := 10, reset := 0x100, acc := .rwl, clr := .blk, range := some (1, 1023) }
/-- IBAND [9:0] TH1 (08): Band 1 from here; below it band 0 -/
def GLK.IBAND.TH1 : Row :=
  { base := 0x120C004, s1 := 0x4, c1 := 2, lo := 0, width := 10, reset := 0x80, acc := .rwl, clr := .blk, range := some (1, 1023) }
/-- OSD_CMD [31:31] START_B (08): Diagnoses axis B or star 2; reads 1 while running -/
def GLK.OSD_CMD.START_B : Row :=
  { base := 0x120C00C, lo := 31, width := 1, acc := .w1s, clr := .blk }
/-- OSD_CMD [30:30] START_A (08): The same for axis A or star 1 -/
def GLK.OSD_CMD.START_A : Row :=
  { base := 0x120C00C, lo := 30, width := 1, acc := .w1s, clr := .blk }
/-- OSD_CMD [23:16] STEP_MS (08): ms per step, 1–20 -/
def GLK.OSD_CMD.STEP_MS : Row :=
  { base := 0x120C00C, lo := 16, width := 8, reset := 2, acc := .rwl, clr := .blk, range := some (1, 20) }
/-- OSD_CMD [15:8] VLO (08): V, 10–200 -/
def GLK.OSD_CMD.VLO : Row :=
  { base := 0x120C00C, lo := 8, width := 8, reset := 0x32, acc := .rwl, clr := .blk, range := some (10, 200) }
/-- OSD_RES [30:28] STAT_B (08): 0 none, 1 running, 2 done, 3 refused, 4 aborted -/
def GLK.OSD_RES.STAT_B : Row :=
  { base := 0x120C010, lo := 28, width := 3, acc := .ro, clr := .blk }
/-- OSD_RES [26:18] RES_B (08): Phases W, V, U, 3 bits each (R213); 0 not run -/
def GLK.OSD_RES.RES_B : Row :=
  { base := 0x120C010, lo := 18, width := 9, acc := .ro, clr := .blk }
/-- OSD_RES [14:12] STAT_A (08): As STAT_B -/
def GLK.OSD_RES.STAT_A : Row :=
  { base := 0x120C010, lo := 12, width := 3, acc := .ro, clr := .blk }
/-- OSD_RES [10:2] RES_A (08): As RES_B -/
def GLK.OSD_RES.RES_A : Row :=
  { base := 0x120C010, lo := 2, width := 9, acc := .ro, clr := .blk }
/-- LINK_STAT [31:31] CAIRN_LATE (08): A cairn waited behind SOFT_OFF -/
def GLK.LINK_STAT.CAIRN_LATE : Row :=
  { base := 0x120C014, lo := 31, width := 1, acc := .w1c, clr := .blk }
/-- LINK_STAT [27:16] CONF (08): Island n configured (HELD, READY or SAFE) -/
def GLK.LINK_STAT.CONF : Row :=
  { base := 0x120C014, lo := 16, width := 12, acc := .ro, clr := .blk }
/-- LINK_STAT [11:0] UP (08): Valid uplink frame within 1 µs, island n -/
def GLK.LINK_STAT.UP : Row :=
  { base := 0x120C014, lo := 0, width := 12, acc := .ro, clr := .blk }
/-- PIT_CTL [31:31] ARM (08): Arms the selected piton; clears after it acts -/
def GLK.PIT_CTL.ARM : Row :=
  { base := 0x120C018, lo := 31, width := 1, acc := .w1s, clr := .blk }
/-- PIT_CTL [11:8] ISL (08): Island 0–11 -/
def GLK.PIT_CTL.ISL : Row :=
  { base := 0x120C018, lo := 8, width := 4, acc := .rw, clr := .blk, range := some (0, 11) }
/-- PIT_CTL [3:0] SEL (08): Piton code (R215); 0 means none -/
def GLK.PIT_CTL.SEL : Row :=
  { base := 0x120C018, lo := 0, width := 4, acc := .rw, clr := .blk }
/-- Not a register: recorded node voltages: step × 3 + phase, Vds codes (R212). -/
def GLK.osd : Row :=
  { base := 0x801EBAC8, s1 := 0x90, c1 := 2, s2 := 0x4, c2 := 36, lo := 0, width := 10, acc := .hid, clr := .blk }
/-- Not a register: steps done of the off-state diagnostics (R212). -/
def GLK.osdN : Row :=
  { base := 0x801EBBE8, s1 := 0x4, c1 := 2, lo := 0, width := 4, acc := .hid, clr := .blk }
/-- Rows of GLK, part 0. -/
def GLK.rows0 : List Row :=
  [GLK.CTL.LOCK, GLK.CTL.CFG_REJECT, GLK.IBAND.TH3, GLK.IBAND.TH2, GLK.IBAND.TH1, GLK.OSD_CMD.START_B, GLK.OSD_CMD.START_A, GLK.OSD_CMD.STEP_MS, GLK.OSD_CMD.VLO, GLK.OSD_RES.STAT_B, GLK.OSD_RES.RES_B, GLK.OSD_RES.STAT_A, GLK.OSD_RES.RES_A, GLK.LINK_STAT.CAIRN_LATE, GLK.LINK_STAT.CONF, GLK.LINK_STAT.UP, GLK.PIT_CTL.ARM, GLK.PIT_CTL.ISL, GLK.PIT_CTL.SEL, GLK.osd, GLK.osdN]
/-- Every row of GLK. -/
def GLK.rows : List Row := GLK.rows0

/-- CTL [31:31] LOCK (14): Locks PIT_CTL -/
def DLI.CTL.LOCK : Row :=
  { base := 0x1210000, lo := 31, width := 1, acc := .w1s, clr := .blk }
/-- CTL [30:30] CFG_REJECT (14): A refused write -/
def DLI.CTL.CFG_REJECT : Row :=
  { base := 0x1210000, lo := 30, width := 1, acc := .w1c, clr := .blk }
/-- STATUS [31:31] POWERED (14): DLI frames arriving -/
def DLI.STATUS.POWERED : Row :=
  { base := 0x1210004, lo := 31, width := 1, acc := .ro, clr := .blk }
/-- STATUS [30:30] DIS_ON (14): DIS_G high -/
def DLI.STATUS.DIS_ON : Row :=
  { base := 0x1210004, lo := 30, width := 1, acc := .ro, clr := .blk }
/-- STATUS [29:29] OVB (14): Broadcast asserted (R335) -/
def DLI.STATUS.OVB : Row :=
  { base := 0x1210004, lo := 29, width := 1, acc := .ro, clr := .blk }
/-- STATUS [1:1] STUCK_ON (14): R334; a condition that persists stays set -/
def DLI.STATUS.STUCK_ON : Row :=
  { base := 0x1210004, lo := 1, width := 1, acc := .w1c, clr := .blk }
/-- STATUS [0:0] STUCK_OFF (14): R334; a condition that persists stays set -/
def DLI.STATUS.STUCK_OFF : Row :=
  { base := 0x1210004, lo := 0, width := 1, acc := .w1c, clr := .blk }
/-- FB [13:0] CODE (14): DIS_FB, 67.1 mV per code -/
def DLI.FB.CODE : Row :=
  { base := 0x1210008, lo := 0, width := 14, acc := .ro, clr := .blk }
/-- LINK [15:0] DL_BAD (14): Downlink frames the DLI discarded, saturating -/
def DLI.LINK.DL_BAD : Row :=
  { base := 0x121000C, lo := 0, width := 16, acc := .ro, clr := .blk }
/-- OV_CFG [15:0] OV_HW (14): Threshold in force, V -/
def DLI.OV_CFG.OV_HW : Row :=
  { base := 0x1210010, lo := 0, width := 16, reset := 0x3b6, acc := .ro, clr := .never }
/-- PIT_CTL [31:31] ARM (14): Arms the selected piton; clears after it acts -/
def DLI.PIT_CTL.ARM : Row :=
  { base := 0x1210014, lo := 31, width := 1, acc := .w1s, clr := .blk }
/-- PIT_CTL [3:0] SEL (14): Piton code (R347); 0 means none -/
def DLI.PIT_CTL.SEL : Row :=
  { base := 0x1210014, lo := 0, width := 4, acc := .rw, clr := .blk }
/-- Not a register: command waiting for the next downlink frame: 0 none, 1 STEP, 2 END (R333). -/
def DLI.cmdKind : Row :=
  { base := 0x801EBBF0, lo := 0, width := 2, acc := .hid, clr := .blk }
/-- Not a register: length of the STEP that waits, ms (R333). -/
def DLI.cmdLen : Row :=
  { base := 0x801EBBF4, lo := 0, width := 8, acc := .hid, clr := .blk }
/-- Not a register: the DLI is powered: V_dc of at least 40 V (R30, R333). -/
def DLI.powered : Row :=
  { base := 0x801EBBF8, lo := 0, width := 1, acc := .hid, clr := .never }
/-- Not a register: length of the step the DLI runs, ms, 0 none (R333). -/
def DLI.stepLen : Row :=
  { base := 0x801EBBFC, lo := 0, width := 8, acc := .hid, clr := .never }
/-- Not a register: length of the step the DLI has queued, ms, 0 none (R333). -/
def DLI.stepQ : Row :=
  { base := 0x801EBC00, lo := 0, width := 8, acc := .hid, clr := .never }
/-- Not a register: downlink frames that DLI.LINK.PIT still makes the DLI discard (R347). -/
def DLI.linkPit : Row :=
  { base := 0x801EBC04, lo := 0, width := 8, acc := .hid, clr := .blk }
/-- Not a register: the DLI asserts the over-voltage broadcast (R335). -/
def DLI.bcast : Row :=
  { base := 0x801EBC08, lo := 0, width := 1, acc := .hid, clr := .never }
/-- Not a register: device time at which the DLI's running step began (R333). -/
def DLI.stepT : Row :=
  { base := 0x8078EC40, lo := 0, width := 64, acc := .hid, clr := .cold }
/-- Not a register: device time of the last downlink frame that the DLI accepted (R333). -/
def DLI.dlT : Row :=
  { base := 0x8078EC44, lo := 0, width := 64, acc := .hid, clr := .cold }
/-- Not a register: faults of the discharge switch that persist: bit 0 STUCK_OFF, bit 1 STUCK_ON (R334). -/
def DLI.stuck : Row :=
  { base := 0x80880500, lo := 0, width := 2, acc := .hid, clr := .never }
/-- Rows of DLI, part 0. -/
def DLI.rows0 : List Row :=
  [DLI.CTL.LOCK, DLI.CTL.CFG_REJECT, DLI.STATUS.POWERED, DLI.STATUS.DIS_ON, DLI.STATUS.OVB, DLI.STATUS.STUCK_ON, DLI.STATUS.STUCK_OFF, DLI.FB.CODE, DLI.LINK.DL_BAD, DLI.OV_CFG.OV_HW, DLI.PIT_CTL.ARM, DLI.PIT_CTL.SEL, DLI.cmdKind, DLI.cmdLen, DLI.powered, DLI.stepLen, DLI.stepQ, DLI.linkPit, DLI.bcast, DLI.stepT, DLI.dlT, DLI.stuck]
/-- Every row of DLI. -/
def DLI.rows : List Row := DLI.rows0

end Sys2Proof.Machine
end

