-- ==== Sys2Proof/Machine/RegsHost.lean ====
section
/-!
DEFINITION. The state of SYS (chapters 18, 19, 20), DOOR, the doorbells (11), RING (11), ACT, the axis context table (10), as named rows.
Each row states one field of the register tables of spec/: place, width, access code (R3), reset value,
Cleared-by level (R6) and, where the spec states one, the range a write must lie in.
Rows of access hid are state that the spec gives the machine outside its registers; the spec gives no reset
value for them (DESIGN CHOICE, log entry 3).
-/
namespace Sys2Proof.Machine

/-- PWR_CTL [31:31] LOCK (18): Locks every RWL field of the power registers -/
def SYS.PWR_CTL.LOCK : Row :=
  { base := 0x1000100, lo := 31, width := 1, acc := .w1s, clr := .ctl }
/-- PWR_CTL [30:30] CFG_REJECT (18): A refused write (R412, R426) -/
def SYS.PWR_CTL.CFG_REJECT : Row :=
  { base := 0x1000100, lo := 30, width := 1, acc := .w1c, clr := .ctl }
/-- PWR_CTL [16:16] AUTO_UNPARK (18): Leave PARKED on speed (R418) -/
def SYS.PWR_CTL.AUTO_UNPARK : Row :=
  { base := 0x1000100, lo := 16, width := 1, reset := 1, acc := .rwl, clr := .ctl }
/-- PWR_CTL [8:3] PD_EN (18): PD8–PD3 enabled (R412) -/
def SYS.PWR_CTL.PD_EN : Row :=
  { base := 0x1000100, lo := 3, width := 6, reset := 0x3f, acc := .rwl, clr := .ctl }
/-- PWR_STAT [31:29] STATE (18): 0 RUN, 1 PARKING, 2 PARKED, 3 UNPARKING, 4 LEAVING -/
def SYS.PWR_STAT.STATE : Row :=
  { base := 0x1000104, lo := 29, width := 3, acc := .ro, clr := .ctl }
/-- PWR_STAT [27:24] RESULT (18): Status of the last request, codes of R259 -/
def SYS.PWR_STAT.RESULT : Row :=
  { base := 0x1000104, lo := 24, width := 4, acc := .ro, clr := .ctl }
/-- PWR_STAT [19:10] PD_ON (18): Domain on, PD9–PD0 -/
def SYS.PWR_STAT.PD_ON : Row :=
  { base := 0x1000104, lo := 10, width := 10, acc := .ro, clr := .ctl }
/-- PWR_STAT [8:2] ZERO_DONE (18): Hardware zeroing complete, PD8–PD2 -/
def SYS.PWR_STAT.ZERO_DONE : Row :=
  { base := 0x1000104, lo := 2, width := 7, acc := .ro, clr := .ctl }
/-- PWR_CMD [31:31] GO (18): Requests TARGET; reads 1 until the transition completes -/
def SYS.PWR_CMD.GO : Row :=
  { base := 0x1000108, lo := 31, width := 1, acc := .w1s, clr := .ctl }
/-- PWR_CMD [1:0] TARGET (18): 0 RUN, 1 PARKED, 2 STANDBY, 3 OFF -/
def SYS.PWR_CMD.TARGET : Row :=
  { base := 0x1000108, lo := 0, width := 2, acc := .rw, clr := .ctl }
/-- SUP_STAT [31:20] VLV (18): VLV, 10 mV per code -/
def SYS.SUP_STAT.VLV : Row :=
  { base := 0x100010C, lo := 20, width := 12, acc := .ro, clr := .ctl }
/-- SUP_STAT [1:1] VLV_HIGH (18): R405; a condition that persists stays set -/
def SYS.SUP_STAT.VLV_HIGH : Row :=
  { base := 0x100010C, lo := 1, width := 1, acc := .w1c, clr := .ctl }
/-- SUP_STAT [0:0] VLV_LOW (18): R405; a condition that persists stays set -/
def SYS.SUP_STAT.VLV_LOW : Row :=
  { base := 0x100010C, lo := 0, width := 1, acc := .w1c, clr := .ctl }
/-- SUP_CNT [31:16] BO_CNT (18): Brown-outs, saturating -/
def SYS.SUP_CNT.BO_CNT : Row :=
  { base := 0x1000110, lo := 16, width := 16, acc := .ro, clr := .cold }
/-- SUP_CNT [9:0] BO_LAST (18): Domains of the last brown-out, PD9–PD0 -/
def SYS.SUP_CNT.BO_LAST : Row :=
  { base := 0x1000110, lo := 0, width := 10, acc := .ro, clr := .cold }
/-- WAKE_CFG [15:0] ALARM (18): s after STANDBY entry, 1–65 535; 0 disabled -/
def SYS.WAKE_CFG.ALARM : Row :=
  { base := 0x1000114, lo := 0, width := 16, acc := .rw, clr := .cold }
/-- WAKE_STAT [2:0] CAUSE (18): 0 VLV applied, 1 WAKE pin from OFF, 2 WAKE pin from STANDBY, 3 alarm -/
def SYS.WAKE_STAT.CAUSE : Row :=
  { base := 0x1000118, lo := 0, width := 3, acc := .ro, clr := .cold }
/-- CLK_CTL [31:31] LOCK (19): Locks every RWL field -/
def SYS.CLK_CTL.LOCK : Row :=
  { base := 0x1000200, lo := 31, width := 1, acc := .w1s, clr := .ctl }
/-- CLK_CTL [30:30] CFG_REJECT (19): A refused write -/
def SYS.CLK_CTL.CFG_REJECT : Row :=
  { base := 0x1000200, lo := 30, width := 1, acc := .w1c, clr := .ctl }
/-- CLK_STAT [31:31] COARSE (19): Device time on the crystal (R431) -/
def SYS.CLK_STAT.COARSE : Row :=
  { base := 0x1000204, lo := 31, width := 1, acc := .ro, clr := .ctl }
/-- CLK_STAT [30:30] AMBIG (19): R428 -/
def SYS.CLK_STAT.AMBIG : Row :=
  { base := 0x1000204, lo := 30, width := 1, acc := .w1c, clr := .ctl }
/-- CLK_STAT [8:8] DLI_DRIFT (19): Fault per clock; a fault that persists stays set -/
def SYS.CLK_STAT.DLI_DRIFT : Row :=
  { base := 0x1000204, lo := 8, width := 1, acc := .w1c, clr := .ctl }
/-- CLK_STAT [7:7] GI (19): Fault per clock; a fault that persists stays set -/
def SYS.CLK_STAT.GI : Row :=
  { base := 0x1000204, lo := 7, width := 1, acc := .w1c, clr := .ctl }
/-- CLK_STAT [6:6] BELAY (19): Fault per clock; a fault that persists stays set -/
def SYS.CLK_STAT.BELAY : Row :=
  { base := 0x1000204, lo := 6, width := 1, acc := .w1c, clr := .ctl }
/-- CLK_STAT [5:5] CAN (19): Fault per clock; a fault that persists stays set -/
def SYS.CLK_STAT.CAN : Row :=
  { base := 0x1000204, lo := 5, width := 1, acc := .w1c, clr := .ctl }
/-- CLK_STAT [4:4] ETH1 (19): Fault per clock; a fault that persists stays set -/
def SYS.CLK_STAT.ETH1 : Row :=
  { base := 0x1000204, lo := 4, width := 1, acc := .w1c, clr := .ctl }
/-- CLK_STAT [3:3] ETH0 (19): Fault per clock; a fault that persists stays set -/
def SYS.CLK_STAT.ETH0 : Row :=
  { base := 0x1000204, lo := 3, width := 1, acc := .w1c, clr := .ctl }
/-- CLK_STAT [2:2] PCIE (19): Fault per clock; a fault that persists stays set -/
def SYS.CLK_STAT.PCIE : Row :=
  { base := 0x1000204, lo := 2, width := 1, acc := .w1c, clr := .ctl }
/-- CLK_STAT [1:1] XTAL (19): Fault per clock; a fault that persists stays set -/
def SYS.CLK_STAT.XTAL : Row :=
  { base := 0x1000204, lo := 1, width := 1, acc := .w1c, clr := .ctl }
/-- CLK_STAT [0:0] PLL (19): Fault per clock; a fault that persists stays set -/
def SYS.CLK_STAT.PLL : Row :=
  { base := 0x1000204, lo := 0, width := 1, acc := .w1c, clr := .ctl }
/-- TIME [31:0] TIME (19): Device time (R432) -/
def SYS.TIME.TIME : Row :=
  { base := 0x1000208, s1 := 0x4, c1 := 2, lo := 0, width := 32, acc := .ro, clr := .cold }
/-- AS_CTL [31:31] DISC_EN (19): Discipline enabled -/
def SYS.AS_CTL.DISC_EN : Row :=
  { base := 0x1000210, lo := 31, width := 1, acc := .rwl, clr := .ctl }
/-- AS_CTL [23:16] TRIM_MAX (19): ppm, 10–200 -/
def SYS.AS_CTL.TRIM_MAX : Row :=
  { base := 0x1000210, lo := 16, width := 8, reset := 0x64, acc := .rwl, clr := .ctl, range := some (10, 200) }
/-- AS_CTL [13:8] SLEW (19): ppm/s, 1–50 -/
def SYS.AS_CTL.SLEW : Row :=
  { base := 0x1000210, lo := 8, width := 6, reset := 0xa, acc := .rwl, clr := .ctl, range := some (1, 50) }
/-- AS_CTL [7:0] STEP_TH (19): 0.1 µs, 1–1000 -/
def SYS.AS_CTL.STEP_TH : Row :=
  { base := 0x1000210, lo := 0, width := 8, reset := 0xa, acc := .rwl, clr := .ctl, range := some (1, 1000) }
/-- AS_STAT [31:30] STATE (19): 0 FREE, 1 ACQUIRE, 2 LOCKED, 3 HOLDOVER -/
def SYS.AS_STAT.STATE : Row :=
  { base := 0x1000214, lo := 30, width := 2, acc := .ro, clr := .ctl }
/-- AS_STAT [29:20] LOCK_TH (19): ns, 10–1000 -/
def SYS.AS_STAT.LOCK_TH : Row :=
  { base := 0x1000214, lo := 20, width := 10, reset := 0x64, acc := .rwl, clr := .ctl, range := some (10, 1000) }
/-- AS_STAT [19:12] SYNC_TMO (19): 0.1 s, 1–100 -/
def SYS.AS_STAT.SYNC_TMO : Row :=
  { base := 0x1000214, lo := 12, width := 8, reset := 5, acc := .rwl, clr := .ctl, range := some (1, 100) }
/-- AS_STAT [11:0] TRIM (19): Signed, 0.1 ppm -/
def SYS.AS_STAT.TRIM : Row :=
  { base := 0x1000214, lo := 0, width := 12, acc := .ro, clr := .ctl }
/-- CAIRN_CMD [31:31] GO (19): Issues a cairn; reads 0 -/
def SYS.CAIRN_CMD.GO : Row :=
  { base := 0x1000218, lo := 31, width := 1, acc := .w1s, clr := .ctl }
/-- CAIRN_CMD [30:30] ARM (19): Issues at CAIRN_AT; reads 1 until issued -/
def SYS.CAIRN_CMD.ARM : Row :=
  { base := 0x1000218, lo := 30, width := 1, acc := .w1s, clr := .ctl }
/-- CAIRN_AT [31:0] AT (19): Device time of the armed cairn -/
def SYS.CAIRN_AT.AT : Row :=
  { base := 0x100021C, s1 := 0x4, c1 := 2, lo := 0, width := 32, acc := .rw, clr := .ctl }
/-- CAIRN_STAT [31:31] QUEUED (19): R435 -/
def SYS.CAIRN_STAT.QUEUED : Row :=
  { base := 0x1000224, lo := 31, width := 1, acc := .w1c, clr := .ctl }
/-- CAIRN_STAT [30:30] REFUSED (19): R435 -/
def SYS.CAIRN_STAT.REFUSED : Row :=
  { base := 0x1000224, lo := 30, width := 1, acc := .w1c, clr := .ctl }
/-- CAIRN_STAT [15:0] NUM (19): Number of the last cairn, wraps -/
def SYS.CAIRN_STAT.NUM : Row :=
  { base := 0x1000224, lo := 0, width := 16, acc := .ro, clr := .ctl }
/-- PIT_CTL [31:31] ARM (19): Arms the piton; clears after it acts -/
def SYS.PIT_CTL.ARM : Row :=
  { base := 0x1000228, lo := 31, width := 1, acc := .w1s, clr := .ctl }
/-- PIT_CTL [3:0] SEL (19): 1 SYS.CLK; 0 none -/
def SYS.PIT_CTL.SEL : Row :=
  { base := 0x1000228, lo := 0, width := 4, acc := .rw, clr := .ctl }
/-- RST_CTL [31:31] LOCK (20): Locks RST_MAP and every RWL field (R440) -/
def SYS.RST_CTL.LOCK : Row :=
  { base := 0x1000300, lo := 31, width := 1, acc := .w1s, clr := .ctl }
/-- RST_CTL [30:30] CFG_REJECT (20): A refused write (R456) -/
def SYS.RST_CTL.CFG_REJECT : Row :=
  { base := 0x1000300, lo := 30, width := 1, acc := .w1c, clr := .ctl }
/-- RST_CTL [25:16] BLK_TMO (20): µs, 1–1000 (R446) -/
def SYS.RST_CTL.BLK_TMO : Row :=
  { base := 0x1000300, lo := 16, width := 10, reset := 0xa, acc := .rwl, clr := .ctl, range := some (1, 1000) }
/-- RST_CTL [13:0] BL_RST_MS (20): ms, 10–10 000 (R442) -/
def SYS.RST_CTL.BL_RST_MS : Row :=
  { base := 0x1000300, lo := 0, width := 14, reset := 0x64, acc := .rwl, clr := .ctl, range := some (10, 10000) }
/-- RST_CTL [15:15] WD_WARM (20): Host-core watchdog reset is warm (R445) -/
def SYS.RST_CTL.WD_WARM : Row :=
  { base := 0x1000300, lo := 15, width := 1, acc := .rwl, clr := .ctl }
/-- RST_MAP [13:12] BIST (20): Level of source 10; 0 COLD, 1 SYS, 2 CTL, 3 BLK; initial value from the reset-map fuses -/
def SYS.RST_MAP.BIST : Row :=
  { base := 0x1000304, lo := 12, width := 2, reset := 1, acc := .rwl, clr := .cold }
/-- RST_MAP [11:10] NET (20): Widest level of source 8 -/
def SYS.RST_MAP.NET : Row :=
  { base := 0x1000304, lo := 10, width := 2, reset := 2, acc := .rwl, clr := .cold }
/-- RST_MAP [9:8] HOST (20): Widest level of source 7 -/
def SYS.RST_MAP.HOST : Row :=
  { base := 0x1000304, lo := 8, width := 2, reset := 1, acc := .rwl, clr := .cold }
/-- RST_MAP [7:6] BELAY (20): Level of source 6 -/
def SYS.RST_MAP.BELAY : Row :=
  { base := 0x1000304, lo := 6, width := 2, reset := 2, acc := .rwl, clr := .cold }
/-- RST_MAP [5:4] WD_ENG (20): Level of source 5 -/
def SYS.RST_MAP.WD_ENG : Row :=
  { base := 0x1000304, lo := 4, width := 2, reset := 3, acc := .rwl, clr := .cold }
/-- RST_MAP [3:2] WD_HC (20): Level of source 4 -/
def SYS.RST_MAP.WD_HC : Row :=
  { base := 0x1000304, lo := 2, width := 2, reset := 2, acc := .rwl, clr := .cold }
/-- RST_MAP [1:0] BO_CTL (20): Level of source 2 -/
def SYS.RST_MAP.BO_CTL : Row :=
  { base := 0x1000304, lo := 0, width := 2, reset := 2, acc := .rwl, clr := .cold }
/-- RST_CMD [31:31] GO (20): Requests the reset; reads 1 until accepted -/
def SYS.RST_CMD.GO : Row :=
  { base := 0x1000308, lo := 31, width := 1, acc := .w1s, clr := .ctl }
/-- RST_CMD [30:30] WARM (20): Warm request (R445) -/
def SYS.RST_CMD.WARM : Row :=
  { base := 0x1000308, lo := 30, width := 1, acc := .rw, clr := .ctl }
/-- RST_CMD [25:24] LEVEL (20): 0 COLD, 1 SYS, 2 CTL, 3 BLK -/
def SYS.RST_CMD.LEVEL : Row :=
  { base := 0x1000308, lo := 24, width := 2, acc := .rw, clr := .ctl }
/-- RST_CMD [23:16] SOURCE (20): Block for BLK (R270 codes) -/
def SYS.RST_CMD.SOURCE : Row :=
  { base := 0x1000308, lo := 16, width := 8, acc := .rw, clr := .ctl }
/-- RST_CMD [15:8] INST (20): Instance for BLK -/
def SYS.RST_CMD.INST : Row :=
  { base := 0x1000308, lo := 8, width := 8, acc := .rw, clr := .ctl }
/-- RST_STAT [31:31] BUSY (20): Reset or block reset running -/
def SYS.RST_STAT.BUSY : Row :=
  { base := 0x100030C, lo := 31, width := 1, acc := .ro, clr := .ctl }
/-- RST_STAT [30:30] READY (20): Ready-for-enable (R451) -/
def SYS.RST_STAT.READY : Row :=
  { base := 0x100030C, lo := 30, width := 1, acc := .ro, clr := .ctl }
/-- RST_STAT [29:29] UNCLEAN (20): Last block reset forced (R446) -/
def SYS.RST_STAT.UNCLEAN : Row :=
  { base := 0x100030C, lo := 29, width := 1, acc := .w1c, clr := .ctl }
/-- RST_STAT [27:24] RESULT (20): Status of the last RST_CMD -/
def SYS.RST_STAT.RESULT : Row :=
  { base := 0x100030C, lo := 24, width := 4, acc := .ro, clr := .ctl }
/-- RST_STAT [23:16] BLK_SRC (20): SOURCE of the last block reset -/
def SYS.RST_STAT.BLK_SRC : Row :=
  { base := 0x100030C, lo := 16, width := 8, acc := .ro, clr := .ctl }
/-- RST_STAT [15:8] BLK_INST (20): INST of the last block reset -/
def SYS.RST_STAT.BLK_INST : Row :=
  { base := 0x100030C, lo := 8, width := 8, acc := .ro, clr := .ctl }
/-- RST_STAT [7:0] PD_FAIL (20): Domain held off by R452, PD8–PD1 -/
def SYS.RST_STAT.PD_FAIL : Row :=
  { base := 0x100030C, lo := 0, width := 8, acc := .ro, clr := .ctl }
/-- RST_CAUSE [31:28] SRC (20): Source code of the last reset (R439); rewritten by every reset -/
def SYS.RST_CAUSE.SRC : Row :=
  { base := 0x1000310, lo := 28, width := 4, acc := .ro, clr := .never }
/-- RST_CAUSE [27:26] LEVEL (20): Level reached -/
def SYS.RST_CAUSE.LEVEL : Row :=
  { base := 0x1000310, lo := 26, width := 2, acc := .ro, clr := .never }
/-- RST_CAUSE [25:25] WARM (20): The last reset was warm -/
def SYS.RST_CAUSE.WARM : Row :=
  { base := 0x1000310, lo := 25, width := 1, acc := .ro, clr := .never }
/-- RST_CAUSE [24:24] UNCLEAN (20): The last BLK reset was forced -/
def SYS.RST_CAUSE.UNCLEAN : Row :=
  { base := 0x1000310, lo := 24, width := 1, acc := .ro, clr := .never }
/-- RST_CNT [31:24] UNCLEAN_CNT (20): Forced block resets, saturating -/
def SYS.RST_CNT.UNCLEAN_CNT : Row :=
  { base := 0x1000314, lo := 24, width := 8, acc := .ro, clr := .cold }
/-- RST_CNT [23:16] WD_CNT (20): Watchdog resets, saturating -/
def SYS.RST_CNT.WD_CNT : Row :=
  { base := 0x1000314, lo := 16, width := 8, acc := .ro, clr := .cold }
/-- RST_CNT [15:8] MERGED (20): Dropped overlapping sources (R453), saturating -/
def SYS.RST_CNT.MERGED : Row :=
  { base := 0x1000314, lo := 8, width := 8, acc := .ro, clr := .cold }
/-- RST_CNT [7:0] RESETS (20): SYS and CTL resets, saturating -/
def SYS.RST_CNT.RESETS : Row :=
  { base := 0x1000314, lo := 0, width := 8, acc := .ro, clr := .cold }
/-- WD_CFG [25:16] WD_TMO (20): ms, 1–1000 -/
def SYS.WD_CFG.WD_TMO : Row :=
  { base := 0x1000318, lo := 16, width := 10, reset := 0x64, acc := .rwl, clr := .ctl, range := some (1, 1000) }
/-- WD_CFG [7:0] WD_ENG (20): Periods, 1–255 -/
def SYS.WD_CFG.WD_ENG : Row :=
  { base := 0x1000318, lo := 0, width := 8, reset := 0x10, acc := .rwl, clr := .ctl, range := some (1, 255) }
/-- WD_KICK [16:16] CORE (20): 0 HC0, 1 HC1 -/
def SYS.WD_KICK.CORE : Row :=
  { base := 0x100031C, lo := 16, width := 1, acc := .wo, clr := .ctl }
/-- WD_KICK [15:0] KEY (20): 0x5A5A then 0xA5A5 (R441) -/
def SYS.WD_KICK.KEY : Row :=
  { base := 0x100031C, lo := 0, width := 16, acc := .wo, clr := .ctl }
/-- TRIM_STAT [31:31] TRIM_FAIL (20): Both copies failed (R447) -/
def SYS.TRIM_STAT.TRIM_FAIL : Row :=
  { base := 0x1000320, lo := 31, width := 1, acc := .ro, clr := .never }
/-- TRIM_STAT [30:30] COPY (20): Copy in use, 0 A, 1 B -/
def SYS.TRIM_STAT.COPY : Row :=
  { base := 0x1000320, lo := 30, width := 1, acc := .ro, clr := .never }
/-- TRIM_STAT [29:28] CRC_FAIL (20): Copy B, copy A failed at the last load -/
def SYS.TRIM_STAT.CRC_FAIL : Row :=
  { base := 0x1000320, lo := 28, width := 2, acc := .ro, clr := .never }
/-- TRIM_STAT [15:0] INT_CNT (20): Interrupted loads, saturating -/
def SYS.TRIM_STAT.INT_CNT : Row :=
  { base := 0x1000320, lo := 0, width := 16, acc := .ro, clr := .never }
/-- START_CFG [5:0] PD_BOOT (20): PD8–PD3 powered at start-up; held in MRAM -/
def SYS.START_CFG.PD_BOOT : Row :=
  { base := 0x1000324, lo := 0, width := 6, reset := 0x3f, acc := .rw, clr := .never }
/-- Not a register: a PLL_MAIN fault stands (R429). -/
def SYS.pllDown : Row :=
  { base := 0x80000000, lo := 0, width := 1, acc := .hid, clr := .cold }
/-- Not a register: a crystal fault stands (R429). -/
def SYS.xtalBad : Row :=
  { base := 0x80000004, lo := 0, width := 1, acc := .hid, clr := .cold }
/-- Not a register: engines that have arrived at the barrier (R435). -/
def SYS.barrier : Row :=
  { base := 0x80000008, lo := 0, width := 16, acc := .hid, clr := .ctl }
/-- Not a register: device time at which the engines were last released together (R435). -/
def SYS.barrierAt : Row :=
  { base := 0x8000000C, lo := 0, width := 64, acc := .hid, clr := .ctl }
/-- Not a register: device time of the last cairn (R434). -/
def SYS.cairnT : Row :=
  { base := 0x80000010, lo := 0, width := 64, acc := .hid, clr := .ctl }
/-- Not a register: a cairn has been issued since reset (R435). -/
def SYS.cairnOn : Row :=
  { base := 0x80000014, lo := 0, width := 1, acc := .hid, clr := .ctl }
/-- Not a register: cairns waiting behind another (R435). -/
def SYS.cairnWait : Row :=
  { base := 0x80000018, lo := 0, width := 8, acc := .hid, clr := .ctl }
/-- Not a register: the armed cairn has been issued at CAIRN_AT (R436). -/
def SYS.cairnDone : Row :=
  { base := 0x8000001C, lo := 0, width := 1, acc := .hid, clr := .ctl }
/-- Not a register: consecutive Syncs with an offset below LOCK_TH (R433). -/
def SYS.asN : Row :=
  { base := 0x80000020, lo := 0, width := 4, acc := .hid, clr := .ctl }
/-- Not a register: device time of the last Sync (R433). -/
def SYS.asT : Row :=
  { base := 0x80000024, lo := 0, width := 64, acc := .hid, clr := .ctl }
/-- Not a register: what the reset block does: 0 start-up runs, 1 the module is up, 2 pre-reset stage, 3 held in reset, 4 start-up ended without READY (R443, R449, R452). -/
def SYS.rstPhase : Row :=
  { base := 0x80000028, lo := 0, width := 3, acc := .hid, clr := .never }
/-- Not a register: level of the reset that runs or ran last (R453). -/
def SYS.rstLvl : Row :=
  { base := 0x8000002C, lo := 0, width := 2, acc := .hid, clr := .never }
/-- Not a register: its source (R439). -/
def SYS.rstSrc : Row :=
  { base := 0x80000030, lo := 0, width := 4, acc := .hid, clr := .never }
/-- Not a register: it is warm (R445). -/
def SYS.rstWarm : Row :=
  { base := 0x80000034, lo := 0, width := 1, acc := .hid, clr := .never }
/-- Not a register: domains that this start-up steps (R449, R450). -/
def SYS.plan : Row :=
  { base := 0x80000038, lo := 0, width := 10, reset := 0x1fe, acc := .hid, clr := .never }
/-- Not a register: domains stepped so far (R449). -/
def SYS.stepped : Row :=
  { base := 0x8000003C, lo := 0, width := 10, acc := .hid, clr := .never }
/-- Not a register: failed BIST attempts of a domain within one start-up (R452). -/
def SYS.bistTry : Row :=
  { base := 0x80000040, s1 := 0x4, c1 := 9, lo := 0, width := 2, acc := .hid, clr := .never }
/-- Not a register: the boot record holds a START mark without its DONE (R447). -/
def SYS.bootMark : Row :=
  { base := 0x80000064, lo := 0, width := 1, acc := .hid, clr := .never }
/-- Not a register: an interrupted load is still to be reported: 1 + the copy in use (R447). -/
def SYS.trimInt : Row :=
  { base := 0x80000068, lo := 0, width := 2, acc := .hid, clr := .never }
/-- Not a register: a trim copy has passed (R447). -/
def SYS.trimOk : Row :=
  { base := 0x8000006C, lo := 0, width := 1, acc := .hid, clr := .cold }
/-- Not a register: the firmware runs (R449). -/
def SYS.fwRun : Row :=
  { base := 0x80000070, lo := 0, width := 1, acc := .hid, clr := .ctl }
/-- Not a register: the event RESET is still to be raised (R449). -/
def SYS.rstEv : Row :=
  { base := 0x80000074, lo := 0, width := 1, reset := 1, acc := .hid, clr := .never }
/-- Not a register: the event PWR_WAKE is still to be raised (R425). -/
def SYS.wakeEv : Row :=
  { base := 0x80000078, lo := 0, width := 1, reset := 1, acc := .hid, clr := .never }
/-- Not a register: device time of the origin of the start-up (R451). -/
def SYS.startT : Row :=
  { base := 0x8000007C, lo := 0, width := 64, acc := .hid, clr := .never }
/-- Not a register: RSTN is asserted (R439). -/
def SYS.rstnLow : Row :=
  { base := 0x80000080, lo := 0, width := 1, acc := .hid, clr := .never }
/-- Not a register: domains that a brown-out holds down (R406). -/
def SYS.boMask : Row :=
  { base := 0x80000084, lo := 0, width := 10, acc := .hid, clr := .never }
/-- Not a register: a brown-out is still to be reported (R425). -/
def SYS.boEv : Row :=
  { base := 0x80000088, lo := 0, width := 1, acc := .hid, clr := .never }
/-- Not a register: a block reset waits for its block (R446). -/
def SYS.blkOn : Row :=
  { base := 0x8000008C, lo := 0, width := 1, acc := .hid, clr := .ctl }
/-- Not a register: source of that block reset (R439). -/
def SYS.blkBy : Row :=
  { base := 0x80000090, lo := 0, width := 4, acc := .hid, clr := .ctl }
/-- Not a register: the first word of the core's kick has been written (R441). -/
def SYS.wdSeq : Row :=
  { base := 0x80000094, s1 := 0x4, c1 := 2, lo := 0, width := 1, acc := .hid, clr := .ctl }
/-- Not a register: the reset-map fuses, bit 14 blown (R440). -/
def SYS.mapFuse : Row :=
  { base := 0x8000009C, lo := 0, width := 15, acc := .hid, clr := .never }
/-- Not a register: 0 powered, 1 STANDBY, 2 OFF (R414). -/
def SYS.lowState : Row :=
  { base := 0x800000A0, lo := 0, width := 2, acc := .hid, clr := .never }
/-- Not a register: who asked for the transition that runs: 0 nobody, 1 PWR_CMD, 2 ring 0 (R415). -/
def SYS.pwrBy : Row :=
  { base := 0x800000A4, lo := 0, width := 2, acc := .hid, clr := .ctl }
/-- Not a register: device time at which PARKING began (R416). -/
def SYS.parkT : Row :=
  { base := 0x800000A8, lo := 0, width := 64, acc := .hid, clr := .ctl }
/-- Not a register: device time of the entry to STANDBY or OFF (R421). -/
def SYS.lowT : Row :=
  { base := 0x8078ECF0, lo := 0, width := 64, acc := .hid, clr := .cold }
/-- Not a register: device time from which a host core's kick is due: its last completed kick, the firmware's start, or a release from debug (R441). -/
def SYS.wdT : Row :=
  { base := 0x8078ED30, s1 := 0x4, c1 := 2, lo := 0, width := 64, acc := .hid, clr := .ctl }
/-- Not a register: device time at which the block reset in progress was accepted (R446). -/
def SYS.blkT : Row :=
  { base := 0x8078ED38, lo := 0, width := 64, acc := .hid, clr := .ctl }
/-- Not a register: device time at which the pre-reset stage may end (R443). -/
def SYS.stageEnd : Row :=
  { base := 0x80880620, lo := 0, width := 64, acc := .hid, clr := .ctl }
/-- Rows of SYS, part 0. -/
def SYS.rows0 : List Row :=
  [SYS.PWR_CTL.LOCK, SYS.PWR_CTL.CFG_REJECT, SYS.PWR_CTL.AUTO_UNPARK, SYS.PWR_CTL.PD_EN, SYS.PWR_STAT.STATE, SYS.PWR_STAT.RESULT, SYS.PWR_STAT.PD_ON, SYS.PWR_STAT.ZERO_DONE, SYS.PWR_CMD.GO, SYS.PWR_CMD.TARGET, SYS.SUP_STAT.VLV, SYS.SUP_STAT.VLV_HIGH, SYS.SUP_STAT.VLV_LOW, SYS.SUP_CNT.BO_CNT, SYS.SUP_CNT.BO_LAST, SYS.WAKE_CFG.ALARM, SYS.WAKE_STAT.CAUSE, SYS.CLK_CTL.LOCK, SYS.CLK_CTL.CFG_REJECT, SYS.CLK_STAT.COARSE, SYS.CLK_STAT.AMBIG, SYS.CLK_STAT.DLI_DRIFT, SYS.CLK_STAT.GI, SYS.CLK_STAT.BELAY, SYS.CLK_STAT.CAN, SYS.CLK_STAT.ETH1, SYS.CLK_STAT.ETH0, SYS.CLK_STAT.PCIE, SYS.CLK_STAT.XTAL, SYS.CLK_STAT.PLL, SYS.TIME.TIME, SYS.AS_CTL.DISC_EN, SYS.AS_CTL.TRIM_MAX, SYS.AS_CTL.SLEW, SYS.AS_CTL.STEP_TH, SYS.AS_STAT.STATE, SYS.AS_STAT.LOCK_TH, SYS.AS_STAT.SYNC_TMO, SYS.AS_STAT.TRIM, SYS.CAIRN_CMD.GO]
/-- Rows of SYS, part 1. -/
def SYS.rows1 : List Row :=
  [SYS.CAIRN_CMD.ARM, SYS.CAIRN_AT.AT, SYS.CAIRN_STAT.QUEUED, SYS.CAIRN_STAT.REFUSED, SYS.CAIRN_STAT.NUM, SYS.PIT_CTL.ARM, SYS.PIT_CTL.SEL, SYS.RST_CTL.LOCK, SYS.RST_CTL.CFG_REJECT, SYS.RST_CTL.BLK_TMO, SYS.RST_CTL.BL_RST_MS, SYS.RST_CTL.WD_WARM, SYS.RST_MAP.BIST, SYS.RST_MAP.NET, SYS.RST_MAP.HOST, SYS.RST_MAP.BELAY, SYS.RST_MAP.WD_ENG, SYS.RST_MAP.WD_HC, SYS.RST_MAP.BO_CTL, SYS.RST_CMD.GO, SYS.RST_CMD.WARM, SYS.RST_CMD.LEVEL, SYS.RST_CMD.SOURCE, SYS.RST_CMD.INST, SYS.RST_STAT.BUSY, SYS.RST_STAT.READY, SYS.RST_STAT.UNCLEAN, SYS.RST_STAT.RESULT, SYS.RST_STAT.BLK_SRC, SYS.RST_STAT.BLK_INST, SYS.RST_STAT.PD_FAIL, SYS.RST_CAUSE.SRC, SYS.RST_CAUSE.LEVEL, SYS.RST_CAUSE.WARM, SYS.RST_CAUSE.UNCLEAN, SYS.RST_CNT.UNCLEAN_CNT, SYS.RST_CNT.WD_CNT, SYS.RST_CNT.MERGED, SYS.RST_CNT.RESETS, SYS.WD_CFG.WD_TMO]
/-- Rows of SYS, part 2. -/
def SYS.rows2 : List Row :=
  [SYS.WD_CFG.WD_ENG, SYS.WD_KICK.CORE, SYS.WD_KICK.KEY, SYS.TRIM_STAT.TRIM_FAIL, SYS.TRIM_STAT.COPY, SYS.TRIM_STAT.CRC_FAIL, SYS.TRIM_STAT.INT_CNT, SYS.START_CFG.PD_BOOT, SYS.pllDown, SYS.xtalBad, SYS.barrier, SYS.barrierAt, SYS.cairnT, SYS.cairnOn, SYS.cairnWait, SYS.cairnDone, SYS.asN, SYS.asT, SYS.rstPhase, SYS.rstLvl, SYS.rstSrc, SYS.rstWarm, SYS.plan, SYS.stepped, SYS.bistTry, SYS.bootMark, SYS.trimInt, SYS.trimOk, SYS.fwRun, SYS.rstEv, SYS.wakeEv, SYS.startT, SYS.rstnLow, SYS.boMask, SYS.boEv, SYS.blkOn, SYS.blkBy, SYS.wdSeq, SYS.mapFuse, SYS.lowState]
/-- Rows of SYS, part 3. -/
def SYS.rows3 : List Row :=
  [SYS.pwrBy, SYS.parkT, SYS.lowT, SYS.wdT, SYS.blkT, SYS.stageEnd]
/-- Every row of SYS. -/
def SYS.rows : List Row := SYS.rows0 ++ SYS.rows1 ++ SYS.rows2 ++ SYS.rows3

/-- CTL [31:31] LOCK (11): Locks every RWL field of RING -/
def RING.CTL.LOCK : Row :=
  { base := 0x1020000, lo := 31, width := 1, acc := .w1s, clr := .ctl }
/-- CTL [30:30] CFG_REJECT (11): A refused write (R276) -/
def RING.CTL.CFG_REJECT : Row :=
  { base := 0x1020000, lo := 30, width := 1, acc := .w1c, clr := .ctl }
/-- HALT_SUM [31:0] HALT (11): Ring n halted -/
def RING.HALT_SUM.HALT : Row :=
  { base := 0x1020004, lo := 0, width := 32, acc := .ro, clr := .ctl }
/-- ERR_SUM [31:0] ERR (11): Ring n has an error bit set -/
def RING.ERR_SUM.ERR : Row :=
  { base := 0x1020008, lo := 0, width := 32, acc := .ro, clr := .ctl }
/-- BASE_LO [31:12] BASE (11): Bits [31:12]; bits [11:0] read 0 -/
def RING.BASE_LO.BASE : Row :=
  { base := 0x1020100, s1 := 0x40, c1 := 32, lo := 12, width := 20, acc := .rw, clr := .ctl }
/-- BASE_HI [31:0] BASE (11): Bits [63:32] -/
def RING.BASE_HI.BASE : Row :=
  { base := 0x1020104, s1 := 0x40, c1 := 32, lo := 0, width := 32, acc := .rw, clr := .ctl }
/-- WB_LO [31:3] WB (11): Bits [31:3]; bits [2:0] read 0 -/
def RING.WB_LO.WB : Row :=
  { base := 0x1020108, s1 := 0x40, c1 := 32, lo := 3, width := 29, acc := .rw, clr := .ctl }
/-- WB_HI [31:0] WB (11): Bits [63:32] -/
def RING.WB_HI.WB : Row :=
  { base := 0x102010C, s1 := 0x40, c1 := 32, lo := 0, width := 32, acc := .rw, clr := .ctl }
/-- CFG [28:16] SIZE (11): 0 or 8–4096, power of two; a write (re)starts the ring (R253) -/
def RING.CFG.SIZE : Row :=
  { base := 0x1020110, s1 := 0x40, c1 := 32, lo := 16, width := 13, acc := .rwl, clr := .ctl }
/-- CFG [12:8] VEC (11): MSI-X vector -/
def RING.CFG.VEC : Row :=
  { base := 0x1020110, s1 := 0x40, c1 := 32, lo := 8, width := 5, exc := [(1, 1), (2, 2), (3, 3), (4, 4), (5, 5), (6, 6), (7, 7), (8, 8), (9, 9), (10, 10), (11, 11), (12, 12), (13, 13), (14, 14), (15, 15), (16, 16), (17, 17), (18, 18), (19, 19), (20, 20), (21, 21), (22, 22), (23, 23), (24, 24), (25, 25), (26, 26), (27, 27), (28, 28), (29, 29), (30, 30), (31, 31)], acc := .rwl, clr := .ctl }
/-- IRQ [23:16] CNT (11): 1–255 -/
def RING.IRQ.CNT : Row :=
  { base := 0x1020114, s1 := 0x40, c1 := 32, lo := 16, width := 8, reset := 1, acc := .rw, clr := .ctl, range := some (1, 255) }
/-- IRQ [15:0] TIME (11): µs, 0–65535; 0 no timer -/
def RING.IRQ.TIME : Row :=
  { base := 0x1020114, s1 := 0x40, c1 := 32, lo := 0, width := 16, acc := .rw, clr := .ctl }
/-- HEAD [12:0] HEAD (11): Module's head -/
def RING.HEAD.HEAD : Row :=
  { base := 0x1020118, s1 := 0x40, c1 := 32, lo := 0, width := 13, acc := .ro, clr := .ctl }
/-- TAIL [12:0] TAIL (11): Last accepted doorbell -/
def RING.TAIL.TAIL : Row :=
  { base := 0x102011C, s1 := 0x40, c1 := 32, lo := 0, width := 13, acc := .ro, clr := .ctl }
/-- STAT [31:31] BUSY (11): A descriptor in progress -/
def RING.STAT.BUSY : Row :=
  { base := 0x1020120, s1 := 0x40, c1 := 32, lo := 31, width := 1, acc := .ro, clr := .ctl }
/-- STAT [30:30] HALT (11): Ring halted (R251, R261) -/
def RING.STAT.HALT : Row :=
  { base := 0x1020120, s1 := 0x40, c1 := 32, lo := 30, width := 1, acc := .ro, clr := .ctl }
/-- STAT [3:3] CFG (11): Error causes -/
def RING.STAT.CFG : Row :=
  { base := 0x1020120, s1 := 0x40, c1 := 32, lo := 3, width := 1, acc := .w1c, clr := .ctl }
/-- STAT [2:2] TAIL (11): Error causes -/
def RING.STAT.TAIL : Row :=
  { base := 0x1020120, s1 := 0x40, c1 := 32, lo := 2, width := 1, acc := .w1c, clr := .ctl }
/-- STAT [1:1] LINK (11): Error causes -/
def RING.STAT.LINK : Row :=
  { base := 0x1020120, s1 := 0x40, c1 := 32, lo := 1, width := 1, acc := .w1c, clr := .ctl }
/-- STAT [0:0] DMA (11): Error causes -/
def RING.STAT.DMA : Row :=
  { base := 0x1020120, s1 := 0x40, c1 := 32, lo := 0, width := 1, acc := .w1c, clr := .ctl }
/-- CNT [31:16] DROP_BANK (11): Telemetry records dropped for bank cycles, saturating -/
def RING.CNT.DROP_BANK : Row :=
  { base := 0x1020124, s1 := 0x40, c1 := 32, lo := 16, width := 16, acc := .ro, clr := .ctl }
/-- CNT [15:0] DROP_FULL (11): Records or frames dropped for lack of slots or buffers, saturating -/
def RING.CNT.DROP_FULL : Row :=
  { base := 0x1020124, s1 := 0x40, c1 := 32, lo := 0, width := 16, acc := .ro, clr := .ctl }
/-- PARAM [15:0] SP_PER (11): Rings 2–7: µs, 10–10 000 -/
def RING.PARAM.SP_PER : Row :=
  { base := 0x1020128, s1 := 0x40, c1 := 32, lo := 0, width := 16, exc := [(2, 1000), (3, 1000), (4, 1000), (5, 1000), (6, 1000), (7, 1000), (8, 2500), (9, 2500), (10, 2500), (11, 2500), (12, 2500), (13, 2500), (14, 2500), (15, 2500)], acc := .rw, clr := .ctl }
/-- SEL0 [31:24] VAL3 (11): Rings 8–15: source codes (R268) -/
def RING.SEL0.VAL3 : Row :=
  { base := 0x102012C, s1 := 0x40, c1 := 32, lo := 24, width := 8, acc := .rw, clr := .ctl }
/-- SEL0 [23:16] VAL2 (11): Rings 8–15: source codes (R268) -/
def RING.SEL0.VAL2 : Row :=
  { base := 0x102012C, s1 := 0x40, c1 := 32, lo := 16, width := 8, acc := .rw, clr := .ctl }
/-- SEL0 [15:8] VAL1 (11): Rings 8–15: source codes (R268) -/
def RING.SEL0.VAL1 : Row :=
  { base := 0x102012C, s1 := 0x40, c1 := 32, lo := 8, width := 8, acc := .rw, clr := .ctl }
/-- SEL0 [7:0] VAL0 (11): Rings 8–15: source codes (R268) -/
def RING.SEL0.VAL0 : Row :=
  { base := 0x102012C, s1 := 0x40, c1 := 32, lo := 0, width := 8, acc := .rw, clr := .ctl }
/-- SEL1 [31:24] VAL7 (11): Rings 8–15: source codes -/
def RING.SEL1.VAL7 : Row :=
  { base := 0x1020130, s1 := 0x40, c1 := 32, lo := 24, width := 8, acc := .rw, clr := .ctl }
/-- SEL1 [23:16] VAL6 (11): Rings 8–15: source codes -/
def RING.SEL1.VAL6 : Row :=
  { base := 0x1020130, s1 := 0x40, c1 := 32, lo := 16, width := 8, acc := .rw, clr := .ctl }
/-- SEL1 [15:8] VAL5 (11): Rings 8–15: source codes -/
def RING.SEL1.VAL5 : Row :=
  { base := 0x1020130, s1 := 0x40, c1 := 32, lo := 8, width := 8, acc := .rw, clr := .ctl }
/-- SEL1 [7:0] VAL4 (11): Rings 8–15: source codes -/
def RING.SEL1.VAL4 : Row :=
  { base := 0x1020130, s1 := 0x40, c1 := 32, lo := 0, width := 8, acc := .rw, clr := .ctl }
/-- Not a register: events of the class lost since its last record (R271). -/
def RING.lost : Row :=
  { base := 0x800000AC, s1 := 0x4, c1 := 4, lo := 0, width := 32, acc := .hid, clr := .ctl }
/-- Not a register: passes through the ring since the SIZE write (R256). -/
def RING.pass : Row :=
  { base := 0x800000BC, s1 := 0x4, c1 := 32, lo := 0, width := 32, acc := .hid, clr := .ctl }
/-- Not a register: completions and records of the ring, wraps (R257). -/
def RING.cplCount : Row :=
  { base := 0x8000013C, s1 := 0x4, c1 := 32, lo := 0, width := 32, acc := .hid, clr := .ctl }
/-- Not a register: completions and records since the last signal (R258). -/
def RING.unsig : Row :=
  { base := 0x800001BC, s1 := 0x4, c1 := 32, lo := 0, width := 16, acc := .hid, clr := .ctl }
/-- Not a register: next record sequence number (R256, R269). -/
def RING.recSeq : Row :=
  { base := 0x8000023C, s1 := 0x4, c1 := 32, lo := 0, width := 16, acc := .hid, clr := .ctl }
/-- Not a register: records dropped since the previous delivered record, saturating (R269). -/
def RING.dropSince : Row :=
  { base := 0x800002BC, s1 := 0x4, c1 := 32, lo := 0, width := 16, acc := .hid, clr := .ctl }
/-- Not a register: a SIZE write waits for the descriptor in progress (R253). -/
def RING.sizePend : Row :=
  { base := 0x8000033C, s1 := 0x4, c1 := 32, lo := 0, width := 1, acc := .hid, clr := .ctl }
/-- Not a register: the SIZE that waits (R253). -/
def RING.sizeNew : Row :=
  { base := 0x800003BC, s1 := 0x4, c1 := 32, lo := 0, width := 13, acc := .hid, clr := .ctl }
/-- Not a register: the PCIe link is up (R249, R251). -/
def RING.linkUp : Row :=
  { base := 0x8000043C, lo := 0, width := 1, acc := .hid, clr := .ctl }
/-- Not a register: MSI-X table words (R250). -/
def RING.msixTable : Row :=
  { base := 0x80000440, s1 := 0x10, c1 := 32, s2 := 0x4, c2 := 4, lo := 0, width := 32, acc := .hid, clr := .ctl }
/-- Not a register: the Belay island has accepted the command of ring 1's descriptor (R263, R266). -/
def RING.ridgeOk : Row :=
  { base := 0x80000640, lo := 0, width := 1, acc := .hid, clr := .ctl }
/-- Not a register: cairns that ring 0 SNAPSHOT has still to issue (R262, R434). -/
def RING.snapLeft : Row :=
  { base := 0x80000644, lo := 0, width := 5, acc := .hid, clr := .ctl }
/-- Not a register: their spacing, µs (R262). -/
def RING.snapSp : Row :=
  { base := 0x80000648, lo := 0, width := 16, acc := .hid, clr := .ctl }
/-- Not a register: device time of the next one (R434). -/
def RING.snapAt : Row :=
  { base := 0x8000064C, lo := 0, width := 64, acc := .hid, clr := .ctl }
/-- Not a register: number of the first snapshot of the command (R262). -/
def RING.snapNum : Row :=
  { base := 0x80000650, lo := 0, width := 16, acc := .hid, clr := .ctl }
/-- Not a register: maximum payload size in force, bytes: what the host wrote, at most 256 (R249). -/
def RING.mps : Row :=
  { base := 0x808803B0, lo := 0, width := 9, reset := 256, acc := .hid, clr := .ctl }
/-- Not a register: maximum read request size in force, bytes: what the host wrote, at most 512 (R249). -/
def RING.mrrs : Row :=
  { base := 0x808803B4, lo := 0, width := 10, reset := 512, acc := .hid, clr := .ctl }
/-- Not a register: MSI-X pending-bit array, one bit a vector (R250). -/
def RING.pba : Row :=
  { base := 0x808803B8, lo := 0, width := 32, acc := .hid, clr := .ctl }
/-- Rows of RING, part 0. -/
def RING.rows0 : List Row :=
  [RING.CTL.LOCK, RING.CTL.CFG_REJECT, RING.HALT_SUM.HALT, RING.ERR_SUM.ERR, RING.BASE_LO.BASE, RING.BASE_HI.BASE, RING.WB_LO.WB, RING.WB_HI.WB, RING.CFG.SIZE, RING.CFG.VEC, RING.IRQ.CNT, RING.IRQ.TIME, RING.HEAD.HEAD, RING.TAIL.TAIL, RING.STAT.BUSY, RING.STAT.HALT, RING.STAT.CFG, RING.STAT.TAIL, RING.STAT.LINK, RING.STAT.DMA, RING.CNT.DROP_BANK, RING.CNT.DROP_FULL, RING.PARAM.SP_PER, RING.SEL0.VAL3, RING.SEL0.VAL2, RING.SEL0.VAL1, RING.SEL0.VAL0, RING.SEL1.VAL7, RING.SEL1.VAL6, RING.SEL1.VAL5, RING.SEL1.VAL4, RING.lost, RING.pass, RING.cplCount, RING.unsig, RING.recSeq, RING.dropSince, RING.sizePend, RING.sizeNew, RING.linkUp]
/-- Rows of RING, part 1. -/
def RING.rows1 : List Row :=
  [RING.msixTable, RING.ridgeOk, RING.snapLeft, RING.snapSp, RING.snapAt, RING.snapNum, RING.mps, RING.mrrs, RING.pba]
/-- Every row of RING. -/
def RING.rows : List Row := RING.rows0 ++ RING.rows1

/-- CTL [31:31] LOCK (10): Locks every RWL field of ACT -/
def ACT.CTL.LOCK : Row :=
  { base := 0x1030000, lo := 31, width := 1, acc := .w1s, clr := .blk }
/-- CTL [30:30] CFG_REJECT (10): A refused write (R235, R248) -/
def ACT.CTL.CFG_REJECT : Row :=
  { base := 0x1030000, lo := 30, width := 1, acc := .w1c, clr := .blk }
/-- CTL [23:8] FETCH_TMO (10): µs, 10–10 000 -/
def ACT.CTL.FETCH_TMO : Row :=
  { base := 0x1030000, lo := 8, width := 16, reset := 0x3e8, acc := .rwl, clr := .blk, range := some (10, 10000) }
/-- CTL [0:0] SRC (10): 0 host memory, 1 MRAM image -/
def ACT.CTL.SRC : Row :=
  { base := 0x1030000, lo := 0, width := 1, acc := .rwl, clr := .blk }
/-- BASE_LO [31:13] BASE (10): ACT_BASE bits [31:13]; bits [12:0] read 0 -/
def ACT.BASE_LO.BASE : Row :=
  { base := 0x1030004, lo := 13, width := 19, acc := .rwl, clr := .blk }
/-- BASE_HI [31:0] BASE (10): ACT_BASE bits [63:32] -/
def ACT.BASE_HI.BASE : Row :=
  { base := 0x1030008, lo := 0, width := 32, acc := .rwl, clr := .blk }
/-- CMD [31:31] GO (10): Starts OP; reads 1 until the command completes -/
def ACT.CMD.GO : Row :=
  { base := 0x103000C, lo := 31, width := 1, acc := .w1s, clr := .blk }
/-- CMD [23:16] CH_MASK (10): Channels addressed -/
def ACT.CMD.CH_MASK : Row :=
  { base := 0x103000C, lo := 16, width := 8, acc := .rw, clr := .blk }
/-- CMD [3:0] OP (10): 1 REFRESH, 2 SAVE (R236), 3 VERIFY: fetch and check without staging -/
def ACT.CMD.OP : Row :=
  { base := 0x103000C, lo := 0, width := 4, acc := .rw, clr := .blk }
/-- STAT [31:31] BUSY (10): A fetch or check is running -/
def ACT.STAT.BUSY : Row :=
  { base := 0x1030010, lo := 31, width := 1, acc := .ro, clr := .blk }
/-- STAT [23:16] IN_FORCE (10): Channel has a checked entry in force -/
def ACT.STAT.IN_FORCE : Row :=
  { base := 0x1030010, lo := 16, width := 8, acc := .ro, clr := .blk }
/-- STAT [15:8] CACHED (10): Cache holds the entry in force -/
def ACT.STAT.CACHED : Row :=
  { base := 0x1030010, lo := 8, width := 8, acc := .ro, clr := .blk }
/-- STAT [7:0] PEND (10): Entry staged and awaiting its instant (R245) -/
def ACT.STAT.PEND : Row :=
  { base := 0x1030010, lo := 0, width := 8, acc := .ro, clr := .blk }
/-- ERR [31:24] FETCH (10): Fetch timed out, per channel -/
def ACT.ERR.FETCH : Row :=
  { base := 0x1030014, lo := 24, width := 8, acc := .w1c, clr := .blk }
/-- ERR [23:16] RANGE (10): Header, range or mode check failed -/
def ACT.ERR.RANGE : Row :=
  { base := 0x1030014, lo := 16, width := 8, acc := .w1c, clr := .blk }
/-- ERR [15:8] BIND (10): Belay bind failed -/
def ACT.ERR.BIND : Row :=
  { base := 0x1030014, lo := 8, width := 8, acc := .w1c, clr := .blk }
/-- ERR [7:0] CRC (10): Entry CRC failed -/
def ACT.ERR.CRC : Row :=
  { base := 0x1030014, lo := 0, width := 8, acc := .w1c, clr := .blk }
/-- ERR_LOC [31:31] CACHE (10): Cached entry failed its re-check (R247) -/
def ACT.ERR_LOC.CACHE : Row :=
  { base := 0x1030018, lo := 31, width := 1, acc := .w1c, clr := .blk }
/-- ERR_LOC [30:30] IMG_FAIL (10): SAVE did not complete (R236) -/
def ACT.ERR_LOC.IMG_FAIL : Row :=
  { base := 0x1030018, lo := 30, width := 1, acc := .w1c, clr := .never }
/-- ERR_LOC [18:16] CH (10): Channel of the first range failure -/
def ACT.ERR_LOC.CH : Row :=
  { base := 0x1030018, lo := 16, width := 3, acc := .ro, clr := .blk }
/-- ERR_LOC [9:0] OFS (10): Byte offset of the first failing word -/
def ACT.ERR_LOC.OFS : Row :=
  { base := 0x1030018, lo := 0, width := 10, acc := .ro, clr := .blk }
/-- CNT [31:16] REFRESH (10): Entries put in force by REFRESH, saturating -/
def ACT.CNT.REFRESH : Row :=
  { base := 0x103001C, lo := 16, width := 16, acc := .ro, clr := .ctl }
/-- CNT [15:0] DISCARD (10): Staged entries superseded (R246), saturating -/
def ACT.CNT.DISCARD : Row :=
  { base := 0x103001C, lo := 0, width := 16, acc := .ro, clr := .ctl }
/-- IMG_STAT [31:31] IMG_VALID (10): MRAM copy in force holds eight entries with good CRCs -/
def ACT.IMG_STAT.IMG_VALID : Row :=
  { base := 0x1030020, lo := 31, width := 1, acc := .ro, clr := .never }
/-- IMG_STAT [16:16] COPY (10): Copy in force, 0 A, 1 B -/
def ACT.IMG_STAT.COPY : Row :=
  { base := 0x1030020, lo := 16, width := 1, acc := .ro, clr := .never }
/-- IMG_STAT [15:0] SAVES (10): Completed SAVEs, saturating -/
def ACT.IMG_STAT.SAVES : Row :=
  { base := 0x1030020, lo := 0, width := 16, acc := .ro, clr := .never }
/-- CH_VER [31:0] VERSION (10): VERSION of the entry in force -/
def ACT.CH_VER.VERSION : Row :=
  { base := 0x1030040, s1 := 0x4, c1 := 8, lo := 0, width := 32, acc := .ro, clr := .ctl }
/-- Not a register: the channel is enabled (R264). -/
def ACT.chEn : Row :=
  { base := 0x80000654, s1 := 0x4, c1 := 8, lo := 0, width := 1, acc := .hid, clr := .ctl }
/-- Not a register: the entry in force of the channel, word by word (R247). -/
def ACT.ent : Row :=
  { base := 0x80000674, s1 := 0x400, c1 := 8, s2 := 0x4, c2 := 256, lo := 0, width := 32, acc := .hid, clr := .blk }
/-- Not a register: the staged entry of the channel (R245). -/
def ACT.stg : Row :=
  { base := 0x80002674, s1 := 0x400, c1 := 8, s2 := 0x4, c2 := 256, lo := 0, width := 32, acc := .hid, clr := .blk }
/-- Not a register: the entry that is being checked (R244). -/
def ACT.cand : Row :=
  { base := 0x80004674, s2 := 0x4, c2 := 256, lo := 0, width := 32, acc := .hid, clr := .blk }
/-- Not a register: SRC_EN of CH1 beside the entry that is checked, joined mode (R242). -/
def ACT.candSrc : Row :=
  { base := 0x80004A74, lo := 0, width := 2, acc := .hid, clr := .blk }
/-- Not a register: SRC_EN of CH1 in force in joined mode (R242). -/
def ACT.entSrc : Row :=
  { base := 0x80004A78, lo := 0, width := 2, acc := .hid, clr := .blk }
/-- Not a register: the two copies of the MRAM image, eight entries of 256 words each (R236). -/
def ACT.img : Row :=
  { base := 0x80004A7C, s1 := 0x2000, c1 := 2, s2 := 0x4, c2 := 2048, lo := 0, width := 32, acc := .hid, clr := .never }
/-- Not a register: load in progress: 0 none, 1 REFRESH, 2 SAVE, 3 VERIFY, 4 ENABLE (R244). -/
def ACT.job : Row :=
  { base := 0x80008A7C, lo := 0, width := 3, acc := .hid, clr := .ctl }
/-- Not a register: who asked for it: 0 ACT.CMD, 1 ring 0, 2 ring 1, 3 a network command, 4 nobody any more (R251). -/
def ACT.jobSrc : Row :=
  { base := 0x80008A80, lo := 0, width := 3, acc := .hid, clr := .ctl }
/-- Not a register: channels of the load still to be taken. -/
def ACT.jobMask : Row :=
  { base := 0x80008A84, lo := 0, width := 8, acc := .hid, clr := .ctl }
/-- Not a register: channel being loaded. -/
def ACT.jobCh : Row :=
  { base := 0x80008A88, lo := 0, width := 3, acc := .hid, clr := .ctl }
/-- Not a register: 1 fetching, 2 to be bound and checked, 3 waiting for the calibration load, 0 between. -/
def ACT.jobStep : Row :=
  { base := 0x80008A8C, lo := 0, width := 2, acc := .hid, clr := .ctl }
/-- Not a register: channels that passed. -/
def ACT.jobDone : Row :=
  { base := 0x80008A90, lo := 0, width := 8, acc := .hid, clr := .ctl }
/-- Not a register: 1 + status of the first channel refused. -/
def ACT.jobFail : Row :=
  { base := 0x80008A94, lo := 0, width := 5, acc := .hid, clr := .ctl }
/-- Not a register: channels enabled or staged whose completion is awaited. -/
def ACT.jobWait : Row :=
  { base := 0x80008A98, lo := 0, width := 8, acc := .hid, clr := .ctl }
/-- Not a register: a DISABLE in progress: 0 none, 1 one that was abandoned (R251), 2 ring 1, 3 a network command (R264). -/
def ACT.disSrc : Row :=
  { base := 0x80008A9C, lo := 0, width := 2, acc := .hid, clr := .ctl }
/-- Not a register: channels of the DISABLE still ramping or waiting for HELD. -/
def ACT.disMask : Row :=
  { base := 0x80008AA0, lo := 0, width := 8, acc := .hid, clr := .ctl }
/-- Not a register: 1 + status of the first channel refused. -/
def ACT.disFail : Row :=
  { base := 0x80008AA4, lo := 0, width := 5, acc := .hid, clr := .ctl }
/-- Not a register: decision ticks of the channel's disable ramp, + 1 (R264). -/
def ACT.rampN : Row :=
  { base := 0x80008AA8, s1 := 0x4, c1 := 8, lo := 0, width := 16, acc := .hid, clr := .ctl }
/-- Not a register: bind comparisons of the channel failed in a row (R442). -/
def ACT.bindRun : Row :=
  { base := 0x80008AC8, s1 := 0x4, c1 := 8, lo := 0, width := 2, acc := .hid, clr := .ctl }
/-- Not a register: the latest ENABLE of the channel was refused with the reason "V_dc unknown" (R30). -/
def ACT.vdcUnknown : Row :=
  { base := 0x806ECDB0, s1 := 0x4, c1 := 8, lo := 0, width := 1, acc := .hid, clr := .blk }
/-- Not a register: a CMD waits for the load in progress to end (R245). -/
def ACT.cmdWait : Row :=
  { base := 0x808803A0, lo := 0, width := 1, acc := .hid, clr := .blk }
/-- Not a register: operation of a request whose load has ended and that is still awaited: 1 REFRESH, 4 ENABLE; by its source: 0 CMD, 1 ring 0, 2 ring 1, 3 a network command, 4 abandoned requests (R245, R251, R263). -/
def ACT.wOp : Row :=
  { base := 0x808803C0, s1 := 0x4, c1 := 5, lo := 0, width := 3, acc := .hid, clr := .ctl }
/-- Not a register: its channels whose completion is awaited (R245, R263). -/
def ACT.wMask : Row :=
  { base := 0x808803D4, s1 := 0x4, c1 := 5, lo := 0, width := 8, acc := .hid, clr := .ctl }
/-- Not a register: 1 + status of its first channel refused (R263). -/
def ACT.wFail : Row :=
  { base := 0x808803E8, s1 := 0x4, c1 := 5, lo := 0, width := 5, acc := .hid, clr := .ctl }
/-- Not a register: its channels that passed (R245). -/
def ACT.wDone : Row :=
  { base := 0x808803FC, s1 := 0x4, c1 := 5, lo := 0, width := 8, acc := .hid, clr := .ctl }
/-- Rows of ACT, part 0. -/
def ACT.rows0 : List Row :=
  [ACT.CTL.LOCK, ACT.CTL.CFG_REJECT, ACT.CTL.FETCH_TMO, ACT.CTL.SRC, ACT.BASE_LO.BASE, ACT.BASE_HI.BASE, ACT.CMD.GO, ACT.CMD.CH_MASK, ACT.CMD.OP, ACT.STAT.BUSY, ACT.STAT.IN_FORCE, ACT.STAT.CACHED, ACT.STAT.PEND, ACT.ERR.FETCH, ACT.ERR.RANGE, ACT.ERR.BIND, ACT.ERR.CRC, ACT.ERR_LOC.CACHE, ACT.ERR_LOC.IMG_FAIL, ACT.ERR_LOC.CH, ACT.ERR_LOC.OFS, ACT.CNT.REFRESH, ACT.CNT.DISCARD, ACT.IMG_STAT.IMG_VALID, ACT.IMG_STAT.COPY, ACT.IMG_STAT.SAVES, ACT.CH_VER.VERSION, ACT.chEn, ACT.ent, ACT.stg, ACT.cand, ACT.candSrc, ACT.entSrc, ACT.img, ACT.job, ACT.jobSrc, ACT.jobMask, ACT.jobCh, ACT.jobStep, ACT.jobDone]
/-- Rows of ACT, part 1. -/
def ACT.rows1 : List Row :=
  [ACT.jobFail, ACT.jobWait, ACT.disSrc, ACT.disMask, ACT.disFail, ACT.rampN, ACT.bindRun, ACT.vdcUnknown, ACT.cmdWait, ACT.wOp, ACT.wMask, ACT.wFail, ACT.wDone]
/-- Every row of ACT. -/
def ACT.rows : List Row := ACT.rows0 ++ ACT.rows1

/-- DOOR [12:0] TAIL (11): New tail of ring n (R254) -/
def DOOR.DOOR.TAIL : Row :=
  { base := 0x1010000, s1 := 0x8, c1 := 32, lo := 0, width := 13, acc := .wo, clr := .ctl }
/-- Rows of DOOR, part 0. -/
def DOOR.rows0 : List Row :=
  [DOOR.DOOR.TAIL]
/-- Every row of DOOR. -/
def DOOR.rows : List Row := DOOR.rows0

end Sys2Proof.Machine
end

