-- ==== Sys2Proof/Machine/RegsMotion.lean ====
section
/-!
DEFINITION. The state of SQ0 and SQ1 (4, 5), OB0 and OB1 (4, 5), PU0 to PU4 (6), the engine cores CE0 to CE3, OB0, OB1, AX (7), SEN (2), POS (3), as named rows.
Each row states one field of the register tables of spec/: place, width, access code (R3), reset value,
Cleared-by level (R6) and, where the spec states one, the range a write must lie in.
Rows of access hid are state that the spec gives the machine outside its registers; the spec gives no reset
value for them (DESIGN CHOICE, log entry 3).
-/
namespace Sys2Proof.Machine

/-- CTL [31:31] LOCK (04): Locks every RWL field of SQ -/
def SQ.CTL.LOCK : Row :=
  { base := 0x1100000, s1 := 0x10000, c1 := 2, lo := 31, width := 1, acc := .w1s, clr := .blk }
/-- CTL [30:30] CFG_REJECT (04): A refused write or ENABLE (R102, R112) -/
def SQ.CTL.CFG_REJECT : Row :=
  { base := 0x1100000, s1 := 0x10000, c1 := 2, lo := 30, width := 1, acc := .w1c, clr := .blk }
/-- CTL [9:8] ZERO_PREF (04): Zero-vector choice (R99) -/
def SQ.CTL.ZERO_PREF : Row :=
  { base := 0x1100000, s1 := 0x10000, c1 := 2, lo := 8, width := 2, acc := .rwl, clr := .blk }
/-- STATUS [31:29] MODE (04): 0 IDLE, 1 CATCH, 2 CARRIER, 3 TRAV_UP, 4 TABLE, 5 TRAV_DN, 6 STOPPING, 7 SAFE -/
def SQ.STATUS.MODE : Row :=
  { base := 0x1100004, s1 := 0x10000, c1 := 2, lo := 29, width := 3, acc := .ro, clr := .blk }
/-- STATUS [28:28] JOINED (04): Joined mode in force -/
def SQ.STATUS.JOINED : Row :=
  { base := 0x1100004, s1 := 0x10000, c1 := 2, lo := 28, width := 1, acc := .ro, clr := .blk }
/-- STATUS [27:24] SECTOR (04): Sector of the latest tick -/
def SQ.STATUS.SECTOR : Row :=
  { base := 0x1100004, s1 := 0x10000, c1 := 2, lo := 24, width := 4, acc := .ro, clr := .blk }
/-- STATUS [23:22] TQ_STATE (04): 0b00 −1, 0b01 0, 0b10 +1 -/
def SQ.STATUS.TQ_STATE : Row :=
  { base := 0x1100004, s1 := 0x10000, c1 := 2, lo := 22, width := 2, reset := 1, acc := .ro, clr := .blk }
/-- STATUS [21:21] FLX_STATE (04): 0 −1, 1 +1 -/
def SQ.STATUS.FLX_STATE : Row :=
  { base := 0x1100004, s1 := 0x10000, c1 := 2, lo := 21, width := 1, acc := .ro, clr := .blk }
/-- STATUS [20:20] XY_SEL (04): 0 VEC, 1 ALT applied -/
def SQ.STATUS.XY_SEL : Row :=
  { base := 0x1100004, s1 := 0x10000, c1 := 2, lo := 20, width := 1, acc := .ro, clr := .blk }
/-- STATUS [13:8] VEC_OUT (04): Vector applied in the latest tick -/
def SQ.STATUS.VEC_OUT : Row :=
  { base := 0x1100004, s1 := 0x10000, c1 := 2, lo := 8, width := 6, acc := .ro, clr := .blk }
/-- FLAGS [31:24] REF_LATE_CNT (04): Late reference writes, saturating -/
def SQ.FLAGS.REF_LATE_CNT : Row :=
  { base := 0x1100008, s1 := 0x10000, c1 := 2, lo := 24, width := 8, acc := .ro, clr := .blk }
/-- FLAGS [23:16] DISC_CNT (04): Discarded band windows, saturating -/
def SQ.FLAGS.DISC_CNT : Row :=
  { base := 0x1100008, s1 := 0x10000, c1 := 2, lo := 16, width := 8, acc := .ro, clr := .blk }
/-- FLAGS [6:6] TBL_REJECT (04): A flag whose condition persists stays set -/
def SQ.FLAGS.TBL_REJECT : Row :=
  { base := 0x1100008, s1 := 0x10000, c1 := 2, lo := 6, width := 1, acc := .w1c, clr := .blk }
/-- FLAGS [5:5] XY_HIGH (04): A flag whose condition persists stays set -/
def SQ.FLAGS.XY_HIGH : Row :=
  { base := 0x1100008, s1 := 0x10000, c1 := 2, lo := 5, width := 1, acc := .w1c, clr := .blk }
/-- FLAGS [4:4] REF_STALE (04): A flag whose condition persists stays set -/
def SQ.FLAGS.REF_STALE : Row :=
  { base := 0x1100008, s1 := 0x10000, c1 := 2, lo := 4, width := 1, acc := .w1c, clr := .blk }
/-- FLAGS [3:3] BAND_MIN (04): A flag whose condition persists stays set -/
def SQ.FLAGS.BAND_MIN : Row :=
  { base := 0x1100008, s1 := 0x10000, c1 := 2, lo := 3, width := 1, acc := .w1c, clr := .blk }
/-- FLAGS [2:2] BAND_MAX (04): A flag whose condition persists stays set -/
def SQ.FLAGS.BAND_MAX : Row :=
  { base := 0x1100008, s1 := 0x10000, c1 := 2, lo := 2, width := 1, acc := .w1c, clr := .blk }
/-- FLAGS [1:1] MINP (04): A flag whose condition persists stays set -/
def SQ.FLAGS.MINP : Row :=
  { base := 0x1100008, s1 := 0x10000, c1 := 2, lo := 1, width := 1, acc := .w1c, clr := .blk }
/-- FLAGS [0:0] OBS_LOST (04): A flag whose condition persists stays set -/
def SQ.FLAGS.OBS_LOST : Row :=
  { base := 0x1100008, s1 := 0x10000, c1 := 2, lo := 0, width := 1, acc := .w1c, clr := .blk }
/-- BAND_CTL [31:22] TGT_FSW (04): Target in 100 Hz steps, 100–800 -/
def SQ.BAND_CTL.TGT_FSW : Row :=
  { base := 0x110000C, s1 := 0x10000, c1 := 2, lo := 22, width := 10, reset := 0x190, acc := .rwl, clr := .blk, range := some (100, 800) }
/-- BAND_CTL [19:16] WIN (04): Window 2^WIN ticks, 8–13 -/
def SQ.BAND_CTL.WIN : Row :=
  { base := 0x110000C, s1 := 0x10000, c1 := 2, lo := 16, width := 4, reset := 0xa, acc := .rwl, clr := .blk, range := some (8, 13) }
/-- BAND_CTL [11:8] K_BAND (04): Gain K_BAND / 8, 1–15 -/
def SQ.BAND_CTL.K_BAND : Row :=
  { base := 0x110000C, s1 := 0x10000, c1 := 2, lo := 8, width := 4, reset := 8, acc := .rwl, clr := .blk, range := some (1, 15) }
/-- BAND_CTL [0:0] BAND_EN (04): Enables the band controller -/
def SQ.BAND_CTL.BAND_EN : Row :=
  { base := 0x110000C, s1 := 0x10000, c1 := 2, lo := 0, width := 1, reset := 1, acc := .rwl, clr := .blk }
/-- BAND_LIM [27:16] S_MAX (04): 1/256 units, 16–4095 -/
def SQ.BAND_LIM.S_MAX : Row :=
  { base := 0x1100010, s1 := 0x10000, c1 := 2, lo := 16, width := 12, reset := 0x800, acc := .rwl, clr := .blk, range := some (16, 4095) }
/-- BAND_LIM [11:0] S_MIN (04): 1/256 units, 16–4095 -/
def SQ.BAND_LIM.S_MIN : Row :=
  { base := 0x1100010, s1 := 0x10000, c1 := 2, lo := 0, width := 12, reset := 0x20, acc := .rwl, clr := .blk, range := some (16, 4095) }
/-- BAND_VAL [27:16] S (04): Present scale -/
def SQ.BAND_VAL.S : Row :=
  { base := 0x1100014, s1 := 0x10000, c1 := 2, lo := 16, width := 12, reset := 0x100, acc := .ro, clr := .blk }
/-- BAND_VAL [15:0] FSW_MEAS (04): Last measured f, 10 Hz units -/
def SQ.BAND_VAL.FSW_MEAS : Row :=
  { base := 0x1100014, s1 := 0x10000, c1 := 2, lo := 0, width := 16, acc := .ro, clr := .blk }
/-- HB_TQ [15:0] HB_T0 (04): Q15 of T_base -/
def SQ.HB_TQ.HB_T0 : Row :=
  { base := 0x1100018, s1 := 0x10000, c1 := 2, lo := 0, width := 16, reset := 0x40, acc := .rwl, clr := .blk, range := some (1, 65535) }
/-- HB_FLX [31:16] HB_XY (04): Q15 of I_base -/
def SQ.HB_FLX.HB_XY : Row :=
  { base := 0x110001C, s1 := 0x10000, c1 := 2, lo := 16, width := 16, reset := 0x200, acc := .rwl, clr := .blk, range := some (1, 65535) }
/-- HB_FLX [15:0] HB_F0 (04): Q15 of ψ_base -/
def SQ.HB_FLX.HB_F0 : Row :=
  { base := 0x110001C, s1 := 0x10000, c1 := 2, lo := 0, width := 16, reset := 0x80, acc := .rwl, clr := .blk, range := some (1, 65535) }
/-- MINP [31:16] MINP_CNT (04): Held legs, saturating -/
def SQ.MINP.MINP_CNT : Row :=
  { base := 0x1100020, s1 := 0x10000, c1 := 2, lo := 16, width := 16, acc := .ro, clr := .blk }
/-- MINP [3:0] MIN_TICKS (04): 1–8 -/
def SQ.MINP.MIN_TICKS : Row :=
  { base := 0x1100020, s1 := 0x10000, c1 := 2, lo := 0, width := 4, reset := 2, acc := .rwl, clr := .blk, range := some (1, 8) }
/-- REF [31:16] T_REF (04): Active torque reference, written by CE -/
def SQ.REF.T_REF : Row :=
  { base := 0x1100024, s1 := 0x10000, c1 := 2, lo := 16, width := 16, acc := .ro, clr := .blk }
/-- REF [15:0] PSI_REF (04): Active flux reference, written by CE -/
def SQ.REF.PSI_REF : Row :=
  { base := 0x1100024, s1 := 0x10000, c1 := 2, lo := 0, width := 16, acc := .ro, clr := .blk }
/-- REF_LIM [31:16] PSI_MAX (04): Q15 of ψ_base -/
def SQ.REF_LIM.PSI_MAX : Row :=
  { base := 0x1100028, s1 := 0x10000, c1 := 2, lo := 16, width := 16, reset := 0x7fff, acc := .rwl, clr := .blk }
/-- REF_LIM [15:0] PSI_MIN (04): Q15 of ψ_base -/
def SQ.REF_LIM.PSI_MIN : Row :=
  { base := 0x1100028, s1 := 0x10000, c1 := 2, lo := 0, width := 16, reset := 0x1000, acc := .rwl, clr := .blk }
/-- REF_CFG [31:16] FW_K (04): Q15, 0x0001–0x7FFF -/
def SQ.REF_CFG.FW_K : Row :=
  { base := 0x110002C, s1 := 0x10000, c1 := 2, lo := 16, width := 16, reset := 0x7999, acc := .rwl, clr := .blk, range := some (1, 32767) }
/-- REF_CFG [15:8] REF_DIV (04): Ticks, 5–250 -/
def SQ.REF_CFG.REF_DIV : Row :=
  { base := 0x110002C, s1 := 0x10000, c1 := 2, lo := 8, width := 8, reset := 0x19, acc := .rwl, clr := .blk, range := some (5, 250) }
/-- REF_CFG [7:0] W_MIN (04): ω_base / 1024 units, 1–255 -/
def SQ.REF_CFG.W_MIN : Row :=
  { base := 0x110002C, s1 := 0x10000, c1 := 2, lo := 0, width := 8, reset := 0x14, acc := .rwl, clr := .blk, range := some (1, 255) }
/-- OBS_CFG [31:16] RAMP_US (04): µs, 100–2000 -/
def SQ.OBS_CFG.RAMP_US : Row :=
  { base := 0x1100030, s1 := 0x10000, c1 := 2, lo := 16, width := 16, reset := 0x3e8, acc := .rwl, clr := .blk, range := some (100, 2000) }
/-- OBS_CFG [10:8] RETRY_MAX (04): 0–7; 0 disables the re-catch -/
def SQ.OBS_CFG.RETRY_MAX : Row :=
  { base := 0x1100030, s1 := 0x10000, c1 := 2, lo := 8, width := 3, reset := 3, acc := .rwl, clr := .blk }
/-- OBS_CFG [7:0] RETRY_WIN (04): s, 1–255 -/
def SQ.OBS_CFG.RETRY_WIN : Row :=
  { base := 0x1100030, s1 := 0x10000, c1 := 2, lo := 0, width := 8, reset := 0xa, acc := .rwl, clr := .blk, range := some (1, 255) }
/-- OBS_STAT [31:24] LOSS_CNT (04): Losses within RETRY_WIN -/
def SQ.OBS_STAT.LOSS_CNT : Row :=
  { base := 0x1100034, s1 := 0x10000, c1 := 2, lo := 24, width := 8, acc := .ro, clr := .blk }
/-- OBS_STAT [1:0] STOP (04): 0 none, 1 OPEN, 2 SHORT-LO -/
def SQ.OBS_STAT.STOP : Row :=
  { base := 0x1100034, s1 := 0x10000, c1 := 2, lo := 0, width := 2, acc := .ro, clr := .blk }
/-- TBL_CTL [31:31] SWAP (04): Swaps banks at the next boundary; reads 1 until then -/
def SQ.TBL_CTL.SWAP : Row :=
  { base := 0x1100038, s1 := 0x10000, c1 := 2, lo := 31, width := 1, acc := .w1s, clr := .blk }
/-- TBL_CTL [8:8] ACT_BANK (04): Active bank -/
def SQ.TBL_CTL.ACT_BANK : Row :=
  { base := 0x1100038, s1 := 0x10000, c1 := 2, lo := 8, width := 1, acc := .ro, clr := .blk }
/-- TBL_WIN [15:0] ENTRY (04): Entry i of the inactive bank (R97) -/
def SQ.TBL_WIN.ENTRY : Row :=
  { base := 0x1100400, s1 := 0x10000, c1 := 2, s2 := 0x4, c2 := 128, lo := 0, width := 16, acc := .rwl, clr := .blk }
/-- XY_CFG [31:16] XY_LIM (04): Q15 of I_base -/
def SQ.XY_CFG.XY_LIM : Row :=
  { base := 0x110003C, s1 := 0x10000, c1 := 2, lo := 16, width := 16, reset := 0xccd, acc := .rwl, clr := .blk }
/-- XY_CFG [15:8] XY_N (04): Ticks, 1–255 -/
def SQ.XY_CFG.XY_N : Row :=
  { base := 0x110003C, s1 := 0x10000, c1 := 2, lo := 8, width := 8, reset := 0x10, acc := .rwl, clr := .blk, range := some (1, 255) }
/-- PIT_CTL [31:31] ARM (04): Arms the selected piton; clears after it acts -/
def SQ.PIT_CTL.ARM : Row :=
  { base := 0x1100040, s1 := 0x10000, c1 := 2, lo := 31, width := 1, acc := .w1s, clr := .blk }
/-- PIT_CTL [3:0] SEL (04): Piton code (R113); 0 means none -/
def SQ.PIT_CTL.SEL : Row :=
  { base := 0x1100040, s1 := 0x10000, c1 := 2, lo := 0, width := 4, acc := .rw, clr := .blk }
/-- CAR_CFG [31:16] VLIM_K (05): Voltage limit factor, Q15, 0x4000–0x7FFF -/
def SQ.CAR_CFG.VLIM_K : Row :=
  { base := 0x1100044, s1 := 0x10000, c1 := 2, lo := 16, width := 16, reset := 0x7999, acc := .rwl, clr := .blk, range := some (16384, 32767) }
/-- CAR_CFG [12:4] F_CAR (05): Carrier, 100 Hz steps, 100–400 -/
def SQ.CAR_CFG.F_CAR : Row :=
  { base := 0x1100044, s1 := 0x10000, c1 := 2, lo := 4, width := 9, reset := 0xc8, acc := .rwl, clr := .blk, range := some (100, 400) }
/-- CAR_CFG [0:0] DBL_UPD (05): Update at valley and peak -/
def SQ.CAR_CFG.DBL_UPD : Row :=
  { base := 0x1100044, s1 := 0x10000, c1 := 2, lo := 0, width := 1, reset := 1, acc := .rwl, clr := .blk }
/-- TRAV_CFG [31:26] UP_PCT (05): % of W_CORNER, 2–60 -/
def SQ.TRAV_CFG.UP_PCT : Row :=
  { base := 0x1100048, s1 := 0x10000, c1 := 2, lo := 26, width := 6, reset := 0xc, acc := .rwl, clr := .blk, range := some (2, 60) }
/-- TRAV_CFG [25:20] DN_PCT (05): % of W_CORNER, 1–59, below UP_PCT -/
def SQ.TRAV_CFG.DN_PCT : Row :=
  { base := 0x1100048, s1 := 0x10000, c1 := 2, lo := 20, width := 6, reset := 8, acc := .rwl, clr := .blk, range := some (1, 59) }
/-- TRAV_CFG [19:14] TRAV_N (05): Valleys, 1–63 -/
def SQ.TRAV_CFG.TRAV_N : Row :=
  { base := 0x1100048, s1 := 0x10000, c1 := 2, lo := 14, width := 6, reset := 4, acc := .rwl, clr := .blk, range := some (1, 63) }
/-- TRAV_CFG [13:6] TRAV_HOLD (05): ms, 0–255 -/
def SQ.TRAV_CFG.TRAV_HOLD : Row :=
  { base := 0x1100048, s1 := 0x10000, c1 := 2, lo := 6, width := 8, reset := 0x14, acc := .rwl, clr := .blk }
/-- TRAV_CFG [5:0] TRAV_WAIT (05): PWM periods, 1–63 -/
def SQ.TRAV_CFG.TRAV_WAIT : Row :=
  { base := 0x1100048, s1 := 0x10000, c1 := 2, lo := 0, width := 6, reset := 0x28, acc := .rwl, clr := .blk, range := some (1, 63) }
/-- TRAV_SPD [15:0] W_CORNER (05): Corner speed, Q15 of ω_base; 0 refuses ENABLE -/
def SQ.TRAV_SPD.W_CORNER : Row :=
  { base := 0x110004C, s1 := 0x10000, c1 := 2, lo := 0, width := 16, acc := .rwl, clr := .blk, range := some (1, 65535) }
/-- TRAV_TQ [31:26] RAMP (05): PSI_REF and current-reference ramp, 50 µs steps, 0–63 -/
def SQ.TRAV_TQ.RAMP : Row :=
  { base := 0x1100050, s1 := 0x10000, c1 := 2, lo := 26, width := 6, reset := 4, acc := .rwl, clr := .blk }
/-- TRAV_TQ [25:16] TSTEP_LIM (05): 1/1024 of T_RATED, 1–102 -/
def SQ.TRAV_TQ.TSTEP_LIM : Row :=
  { base := 0x1100050, s1 := 0x10000, c1 := 2, lo := 16, width := 10, reset := 0x1e, acc := .rwl, clr := .blk, range := some (1, 102) }
/-- TRAV_TQ [9:0] TQ_TOL (05): 1/1024 of T_RATED, 1–102 -/
def SQ.TRAV_TQ.TQ_TOL : Row :=
  { base := 0x1100050, s1 := 0x10000, c1 := 2, lo := 0, width := 10, reset := 0x14, acc := .rwl, clr := .blk, range := some (1, 102) }
/-- CATCH_CFG [31:16] CATCH_K (05): Catch ceiling factor, Q15, 0x4000–0x7AE1 -/
def SQ.CATCH_CFG.CATCH_K : Row :=
  { base := 0x1100054, s1 := 0x10000, c1 := 2, lo := 16, width := 16, reset := 0x7333, acc := .rwl, clr := .blk, range := some (16384, 31457) }
/-- CATCH_CFG [15:8] CATCH_PER (05): Pulse spacing, ticks, 10–255 -/
def SQ.CATCH_CFG.CATCH_PER : Row :=
  { base := 0x1100054, s1 := 0x10000, c1 := 2, lo := 8, width := 8, reset := 0x32, acc := .rwl, clr := .blk, range := some (10, 255) }
/-- CATCH_CFG [7:4] CATCH_N (05): Agreeing results, 2–15 -/
def SQ.CATCH_CFG.CATCH_N : Row :=
  { base := 0x1100054, s1 := 0x10000, c1 := 2, lo := 4, width := 4, reset := 8, acc := .rwl, clr := .blk, range := some (2, 15) }
/-- CATCH_LIM [31:16] CATCH_VMIN (05): Q15 of V_base -/
def SQ.CATCH_LIM.CATCH_VMIN : Row :=
  { base := 0x1100058, s1 := 0x10000, c1 := 2, lo := 16, width := 16, reset := 0x28f, acc := .rwl, clr := .blk, range := some (1, 65535) }
/-- CATCH_LIM [15:8] CATCH_TOL (05): 1/1024 of the speed, 1–255 -/
def SQ.CATCH_LIM.CATCH_TOL : Row :=
  { base := 0x1100058, s1 := 0x10000, c1 := 2, lo := 8, width := 8, reset := 0x14, acc := .rwl, clr := .blk, range := some (1, 255) }
/-- CATCH_LIM [7:0] STILL_WIN (05): 100 µs steps, 1–20 -/
def SQ.CATCH_LIM.STILL_WIN : Row :=
  { base := 0x1100058, s1 := 0x10000, c1 := 2, lo := 0, width := 8, reset := 0xa, acc := .rwl, clr := .blk, range := some (1, 20) }
/-- CATCH_STAT [31:29] METHOD (05): 0 none, 1 STILL, 2 BEMF, 3 PULSE -/
def SQ.CATCH_STAT.METHOD : Row :=
  { base := 0x110005C, s1 := 0x10000, c1 := 2, lo := 29, width := 3, acc := .ro, clr := .blk }
/-- CATCH_STAT [28:28] DIR (05): 0 forward, 1 reverse -/
def SQ.CATCH_STAT.DIR : Row :=
  { base := 0x110005C, s1 := 0x10000, c1 := 2, lo := 28, width := 1, acc := .ro, clr := .blk }
/-- CATCH_STAT [27:26] RESULT (05): 0 running or none, 1 converged, 2 failed, 3 aborted -/
def SQ.CATCH_STAT.RESULT : Row :=
  { base := 0x110005C, s1 := 0x10000, c1 := 2, lo := 26, width := 2, acc := .ro, clr := .blk }
/-- CATCH_STAT [25:24] OUTCOME (05): 0 none, 1 OPEN, 2 SHORT-LO -/
def SQ.CATCH_STAT.OUTCOME : Row :=
  { base := 0x110005C, s1 := 0x10000, c1 := 2, lo := 24, width := 2, acc := .ro, clr := .blk }
/-- CATCH_STAT [23:8] T_CONV (05): µs from the start command to the result, saturating -/
def SQ.CATCH_STAT.T_CONV : Row :=
  { base := 0x110005C, s1 := 0x10000, c1 := 2, lo := 8, width := 16, acc := .ro, clr := .blk }
/-- CATCH_STAT [7:0] PULSES (05): Pulses applied, saturating -/
def SQ.CATCH_STAT.PULSES : Row :=
  { base := 0x110005C, s1 := 0x10000, c1 := 2, lo := 0, width := 8, acc := .ro, clr := .blk }
/-- TRAV_STAT [31:24] ABORT_CNT (05): Aborted traverses, saturating -/
def SQ.TRAV_STAT.ABORT_CNT : Row :=
  { base := 0x1100060, s1 := 0x10000, c1 := 2, lo := 24, width := 8, acc := .ro, clr := .blk }
/-- TRAV_STAT [23:8] STEP_MEAS (05): Last measured step, signed Q15 of T_base -/
def SQ.TRAV_STAT.STEP_MEAS : Row :=
  { base := 0x1100060, s1 := 0x10000, c1 := 2, lo := 8, width := 16, acc := .ro, clr := .blk }
/-- TRAV_STAT [3:3] TRAV_STEP (05): Step beyond TSTEP_LIM -/
def SQ.TRAV_STAT.TRAV_STEP : Row :=
  { base := 0x1100060, s1 := 0x10000, c1 := 2, lo := 3, width := 1, acc := .w1c, clr := .blk }
/-- TRAV_STAT [2:2] TRAV_ABORT (05): Traverse up abandoned -/
def SQ.TRAV_STAT.TRAV_ABORT : Row :=
  { base := 0x1100060, s1 := 0x10000, c1 := 2, lo := 2, width := 1, acc := .w1c, clr := .blk }
/-- TRAV_STAT [1:1] HOLD (05): TRAV_HOLD running -/
def SQ.TRAV_STAT.HOLD : Row :=
  { base := 0x1100060, s1 := 0x10000, c1 := 2, lo := 1, width := 1, acc := .ro, clr := .blk }
/-- TRAV_STAT [0:0] DIR_LAST (05): 0 last traverse up, 1 down -/
def SQ.TRAV_STAT.DIR_LAST : Row :=
  { base := 0x1100060, s1 := 0x10000, c1 := 2, lo := 0, width := 1, acc := .ro, clr := .blk }
/-- Not a register: shadow of T_REF (R106). -/
def SQ.tRefSh : Row :=
  { base := 0x80008AE8, s1 := 0x4, c1 := 2, lo := 0, width := 16, acc := .hid, clr := .blk }
/-- Not a register: shadow of PSI_REF (R106). -/
def SQ.psiRefSh : Row :=
  { base := 0x80008AF0, s1 := 0x4, c1 := 2, lo := 0, width := 16, acc := .hid, clr := .blk }
/-- Not a register: shadow references wait for the next boundary (R106). -/
def SQ.refPend : Row :=
  { base := 0x80008AF8, s1 := 0x4, c1 := 2, lo := 0, width := 1, acc := .hid, clr := .blk }
/-- Not a register: references written on the boundary cycle wait for the following boundary (R106). -/
def SQ.refLate : Row :=
  { base := 0x80008B00, s1 := 0x4, c1 := 2, lo := 0, width := 1, acc := .hid, clr := .blk }
/-- Not a register: ticks since the last reference write (R106). -/
def SQ.refAge : Row :=
  { base := 0x80008B08, s1 := 0x4, c1 := 2, lo := 0, width := 16, acc := .hid, clr := .blk }
/-- Not a register: switching-table entry + 1 of bank × 128 + index; 0 stands for the default entry of R98. -/
def SQ.tbl : Row :=
  { base := 0x80008B10, s1 := 0x400, c1 := 2, s2 := 0x4, c2 := 256, lo := 0, width := 17, acc := .hid, clr := .blk }
/-- Not a register: ticks for which the leg may not change (R101). -/
def SQ.dwell : Row :=
  { base := 0x80009310, s1 := 0x18, c1 := 2, s2 := 0x4, c2 := 6, lo := 0, width := 4, acc := .hid, clr := .blk }
/-- Not a register: the next zero state takes code 7 (63) under ZERO_PREF 0b11 (R99). -/
def SQ.zTog : Row :=
  { base := 0x80009340, s1 := 0x4, c1 := 2, lo := 0, width := 1, acc := .hid, clr := .blk }
/-- Not a register: the present state is a zero state (R99). -/
def SQ.inZero : Row :=
  { base := 0x80009348, s1 := 0x4, c1 := 2, lo := 0, width := 1, acc := .hid, clr := .blk }
/-- Not a register: the choice last made for the table entry, 1 ALT (R107). -/
def SQ.xyKeep : Row :=
  { base := 0x80009350, s1 := 0x200, c1 := 2, s2 := 0x4, c2 := 128, lo := 0, width := 1, acc := .hid, clr := .blk }
/-- Not a register: ticks of the window with |e_T| above 4 HB_T (R103). -/
def SQ.bigErr : Row :=
  { base := 0x80009750, s1 := 0x4, c1 := 2, lo := 0, width := 14, acc := .hid, clr := .blk }
/-- Not a register: commutations in the window (R103). -/
def SQ.comm : Row :=
  { base := 0x80009758, s1 := 0x4, c1 := 2, lo := 0, width := 16, acc := .hid, clr := .blk }
/-- Not a register: ticks of the window (R103). -/
def SQ.winTick : Row :=
  { base := 0x80009760, s1 := 0x4, c1 := 2, lo := 0, width := 14, acc := .hid, clr := .blk }
/-- Not a register: consecutive ticks with RES above RES_TH in TABLE (R108). -/
def SQ.resRun : Row :=
  { base := 0x80009768, s1 := 0x4, c1 := 2, lo := 0, width := 4, acc := .hid, clr := .blk }
/-- Not a register: consecutive ticks with |i_xy| above XY_LIM (R107). -/
def SQ.xyRun : Row :=
  { base := 0x80009770, s1 := 0x4, c1 := 2, lo := 0, width := 8, acc := .hid, clr := .blk }
/-- Not a register: ticks for which SQ.XY.PIT still adds (R113). -/
def SQ.xyPit : Row :=
  { base := 0x80009778, s1 := 0x4, c1 := 2, lo := 0, width := 8, acc := .hid, clr := .blk }
/-- Not a register: T_REF at the start of the STOPPING ramp (R109). -/
def SQ.rampT0 : Row :=
  { base := 0x80009780, s1 := 0x4, c1 := 2, lo := 0, width := 16, acc := .hid, clr := .blk }
/-- Not a register: ticks of the STOPPING ramp (R109). -/
def SQ.rampN : Row :=
  { base := 0x80009788, s1 := 0x4, c1 := 2, lo := 0, width := 16, acc := .hid, clr := .blk }
/-- Not a register: last SLS speed before the loss was detected (R109). -/
def SQ.lastSls : Row :=
  { base := 0x80009790, s1 := 0x4, c1 := 2, lo := 0, width := 16, acc := .hid, clr := .blk }
/-- Not a register: device times of the last eight observer losses (R109). -/
def SQ.lossT : Row :=
  { base := 0x80009798, s1 := 0x20, c1 := 2, s2 := 0x4, c2 := 8, lo := 0, width := 64, acc := .hid, clr := .blk }
/-- Not a register: how many of them are held (R109). -/
def SQ.lossN : Row :=
  { base := 0x800097D8, s1 := 0x4, c1 := 2, lo := 0, width := 4, acc := .hid, clr := .blk }
/-- Not a register: consecutive valleys beyond the traverse threshold (R125). -/
def SQ.travCnt : Row :=
  { base := 0x800097E0, s1 := 0x4, c1 := 2, lo := 0, width := 6, acc := .hid, clr := .blk }
/-- Not a register: periods left for the handover of TRAV_UP (R126). -/
def SQ.travWait : Row :=
  { base := 0x800097E8, s1 := 0x4, c1 := 2, lo := 0, width := 6, acc := .hid, clr := .blk }
/-- Not a register: sum of the offered speed over the PWM period, signed (R125). -/
def SQ.spdSum : Row :=
  { base := 0x800097F0, s1 := 0x4, c1 := 2, lo := 0, width := 40, acc := .hid, clr := .blk }
/-- Not a register: ticks in that sum (R125). -/
def SQ.spdN : Row :=
  { base := 0x800097F8, s1 := 0x4, c1 := 2, lo := 0, width := 16, acc := .hid, clr := .blk }
/-- Not a register: offered speed averaged over the last PWM period, signed (R125). -/
def SQ.spdAvg : Row :=
  { base := 0x80009800, s1 := 0x4, c1 := 2, lo := 0, width := 16, acc := .hid, clr := .blk }
/-- Not a register: sum of T_EST over the PWM period, signed (R128). -/
def SQ.tqSum : Row :=
  { base := 0x80009808, s1 := 0x4, c1 := 2, lo := 0, width := 40, acc := .hid, clr := .blk }
/-- Not a register: mean T_EST of the last PWM period, signed (R128). -/
def SQ.tqAvg : Row :=
  { base := 0x80009810, s1 := 0x4, c1 := 2, lo := 0, width := 16, acc := .hid, clr := .blk }
/-- Not a register: mean T_EST of the period before the handover (R128). -/
def SQ.stepBase : Row :=
  { base := 0x80009818, s1 := 0x4, c1 := 2, lo := 0, width := 16, acc := .hid, clr := .blk }
/-- Not a register: T_cmd in that period (R128). -/
def SQ.stepCmd : Row :=
  { base := 0x80009820, s1 := 0x4, c1 := 2, lo := 0, width := 16, acc := .hid, clr := .blk }
/-- Not a register: valleys until the traverse step is measured, + 1 (R128). -/
def SQ.stepPend : Row :=
  { base := 0x80009828, s1 := 0x4, c1 := 2, lo := 0, width := 2, acc := .hid, clr := .blk }
/-- Not a register: PSI_REF at the handover (R126). -/
def SQ.psiFrom : Row :=
  { base := 0x80009830, s1 := 0x4, c1 := 2, lo := 0, width := 16, acc := .hid, clr := .blk }
/-- Not a register: ticks left of the PSI_REF ramp (R126). -/
def SQ.psiN : Row :=
  { base := 0x80009838, s1 := 0x4, c1 := 2, lo := 0, width := 13, acc := .hid, clr := .blk }
/-- Not a register: ticks left of the catch pulse (R132). -/
def SQ.pulseLeft : Row :=
  { base := 0x80009840, s1 := 0x4, c1 := 2, lo := 0, width := 3, acc := .hid, clr := .blk }
/-- Not a register: a catch result stands and SQ waits for SLS_VALID to enter a mode (R133). -/
def SQ.catchGo : Row :=
  { base := 0x80009848, s1 := 0x4, c1 := 2, lo := 0, width := 1, acc := .hid, clr := .blk }
/-- Not a register: the torque ramp after INJ_LOST with SLS the only source runs (R121). -/
def SQ.injRamp : Row :=
  { base := 0x80009850, s1 := 0x4, c1 := 2, lo := 0, width := 1, acc := .hid, clr := .blk }
/-- Not a register: word of the microcode store as a debugger wrote it (R396, R457). -/
def SQ.store : Row :=
  { base := 0x80009858, s1 := 0x4000, c1 := 2, s2 := 0x4, c2 := 4096, lo := 0, width := 32, acc := .hid, clr := .blk }
/-- Not a register: the word has been written since the store was loaded. -/
def SQ.storeOn : Row :=
  { base := 0x80011858, s1 := 0x4000, c1 := 2, s2 := 0x4, c2 := 4096, lo := 0, width := 1, acc := .hid, clr := .blk }
/-- Not a register: ticks since the start of the latest catch pulse (R132). -/
def SQ.pulseAge : Row :=
  { base := 0x8078E780, s1 := 0x4, c1 := 2, lo := 0, width := 8, reset := 255, acc := .hid, clr := .blk }
/-- Not a register: what a leg waits to do until its minimum dwell has passed: 1 off, 2 low side on (R101, R109). -/
def SQ.waitLegs : Row :=
  { base := 0x8078E788, s1 := 0x18, c1 := 2, s2 := 0x4, c2 := 6, lo := 0, width := 2, acc := .hid, clr := .blk }
/-- Not a register: the PSI_REF of the reference law that has been committed (R106, R126). -/
def SQ.psiTgt : Row :=
  { base := 0x8078E7B8, s1 := 0x4, c1 := 2, lo := 0, width := 16, acc := .hid, clr := .blk }
/-- Not a register: the PSI_REF ramp after a traverse up runs (R126). -/
def SQ.psiOn : Row :=
  { base := 0x8078E7C0, s1 := 0x4, c1 := 2, lo := 0, width := 1, acc := .hid, clr := .blk }
/-- Not a register: how much had been sent before the leg commands of the latest tick (R89). -/
def SQ.outAt : Row :=
  { base := 0x8078E7C8, s1 := 0x4, c1 := 2, lo := 0, width := 64, acc := .hid, clr := .blk }
/-- Not a register: ticks of the torque ramp after INJ_LOST (R121). -/
def SQ.injRampN : Row :=
  { base := 0x8078E7D0, s1 := 0x4, c1 := 2, lo := 0, width := 16, acc := .hid, clr := .blk }
/-- Not a register: device time of the latest traverse or abort, from which TRAV_HOLD runs (R125). -/
def SQ.travT : Row :=
  { base := 0x8078EDC0, s1 := 0x4, c1 := 2, lo := 0, width := 64, acc := .hid, clr := .blk }
/-- Rows of SQ, part 0. -/
def SQ.rows0 : List Row :=
  [SQ.CTL.LOCK, SQ.CTL.CFG_REJECT, SQ.CTL.ZERO_PREF, SQ.STATUS.MODE, SQ.STATUS.JOINED, SQ.STATUS.SECTOR, SQ.STATUS.TQ_STATE, SQ.STATUS.FLX_STATE, SQ.STATUS.XY_SEL, SQ.STATUS.VEC_OUT, SQ.FLAGS.REF_LATE_CNT, SQ.FLAGS.DISC_CNT, SQ.FLAGS.TBL_REJECT, SQ.FLAGS.XY_HIGH, SQ.FLAGS.REF_STALE, SQ.FLAGS.BAND_MIN, SQ.FLAGS.BAND_MAX, SQ.FLAGS.MINP, SQ.FLAGS.OBS_LOST, SQ.BAND_CTL.TGT_FSW, SQ.BAND_CTL.WIN, SQ.BAND_CTL.K_BAND, SQ.BAND_CTL.BAND_EN, SQ.BAND_LIM.S_MAX, SQ.BAND_LIM.S_MIN, SQ.BAND_VAL.S, SQ.BAND_VAL.FSW_MEAS, SQ.HB_TQ.HB_T0, SQ.HB_FLX.HB_XY, SQ.HB_FLX.HB_F0, SQ.MINP.MINP_CNT, SQ.MINP.MIN_TICKS, SQ.REF.T_REF, SQ.REF.PSI_REF, SQ.REF_LIM.PSI_MAX, SQ.REF_LIM.PSI_MIN, SQ.REF_CFG.FW_K, SQ.REF_CFG.REF_DIV, SQ.REF_CFG.W_MIN, SQ.OBS_CFG.RAMP_US]
/-- Rows of SQ, part 1. -/
def SQ.rows1 : List Row :=
  [SQ.OBS_CFG.RETRY_MAX, SQ.OBS_CFG.RETRY_WIN, SQ.OBS_STAT.LOSS_CNT, SQ.OBS_STAT.STOP, SQ.TBL_CTL.SWAP, SQ.TBL_CTL.ACT_BANK, SQ.TBL_WIN.ENTRY, SQ.XY_CFG.XY_LIM, SQ.XY_CFG.XY_N, SQ.PIT_CTL.ARM, SQ.PIT_CTL.SEL, SQ.CAR_CFG.VLIM_K, SQ.CAR_CFG.F_CAR, SQ.CAR_CFG.DBL_UPD, SQ.TRAV_CFG.UP_PCT, SQ.TRAV_CFG.DN_PCT, SQ.TRAV_CFG.TRAV_N, SQ.TRAV_CFG.TRAV_HOLD, SQ.TRAV_CFG.TRAV_WAIT, SQ.TRAV_SPD.W_CORNER, SQ.TRAV_TQ.RAMP, SQ.TRAV_TQ.TSTEP_LIM, SQ.TRAV_TQ.TQ_TOL, SQ.CATCH_CFG.CATCH_K, SQ.CATCH_CFG.CATCH_PER, SQ.CATCH_CFG.CATCH_N, SQ.CATCH_LIM.CATCH_VMIN, SQ.CATCH_LIM.CATCH_TOL, SQ.CATCH_LIM.STILL_WIN, SQ.CATCH_STAT.METHOD, SQ.CATCH_STAT.DIR, SQ.CATCH_STAT.RESULT, SQ.CATCH_STAT.OUTCOME, SQ.CATCH_STAT.T_CONV, SQ.CATCH_STAT.PULSES, SQ.TRAV_STAT.ABORT_CNT, SQ.TRAV_STAT.STEP_MEAS, SQ.TRAV_STAT.TRAV_STEP, SQ.TRAV_STAT.TRAV_ABORT, SQ.TRAV_STAT.HOLD]
/-- Rows of SQ, part 2. -/
def SQ.rows2 : List Row :=
  [SQ.TRAV_STAT.DIR_LAST, SQ.tRefSh, SQ.psiRefSh, SQ.refPend, SQ.refLate, SQ.refAge, SQ.tbl, SQ.dwell, SQ.zTog, SQ.inZero, SQ.xyKeep, SQ.bigErr, SQ.comm, SQ.winTick, SQ.resRun, SQ.xyRun, SQ.xyPit, SQ.rampT0, SQ.rampN, SQ.lastSls, SQ.lossT, SQ.lossN, SQ.travCnt, SQ.travWait, SQ.spdSum, SQ.spdN, SQ.spdAvg, SQ.tqSum, SQ.tqAvg, SQ.stepBase, SQ.stepCmd, SQ.stepPend, SQ.psiFrom, SQ.psiN, SQ.pulseLeft, SQ.catchGo, SQ.injRamp, SQ.store, SQ.storeOn, SQ.pulseAge, SQ.waitLegs, SQ.psiTgt, SQ.psiOn, SQ.outAt, SQ.injRampN, SQ.travT]
/-- Every row of SQ. -/
def SQ.rows : List Row := SQ.rows0 ++ SQ.rows1 ++ SQ.rows2

/-- CTL [31:31] LOCK (04): Locks every RWL field of OB -/
def OB.CTL.LOCK : Row :=
  { base := 0x1130000, s1 := 0x10000, c1 := 2, lo := 31, width := 1, acc := .w1s, clr := .blk }
/-- CTL [30:30] CFG_REJECT (04): A refused write (R112) -/
def OB.CTL.CFG_REJECT : Row :=
  { base := 0x1130000, s1 := 0x10000, c1 := 2, lo := 30, width := 1, acc := .w1c, clr := .blk }
/-- CTL [2:2] RS_TCOMP (04): Temperature correction of R_s -/
def OB.CTL.RS_TCOMP : Row :=
  { base := 0x1130000, s1 := 0x10000, c1 := 2, lo := 2, width := 1, reset := 1, acc := .rwl, clr := .blk }
/-- CTL [1:1] DRIFT_EN (04): Drift compensation -/
def OB.CTL.DRIFT_EN : Row :=
  { base := 0x1130000, s1 := 0x10000, c1 := 2, lo := 1, width := 1, reset := 1, acc := .rwl, clr := .blk }
/-- CTL [0:0] BLEND_EN (04): Current-model blend -/
def OB.CTL.BLEND_EN : Row :=
  { base := 0x1130000, s1 := 0x10000, c1 := 2, lo := 0, width := 1, reset := 1, acc := .rwl, clr := .blk }
/-- STATUS [31:16] VCORR_MISS (04): Ticks without reconstruction, saturating -/
def OB.STATUS.VCORR_MISS : Row :=
  { base := 0x1130004, s1 := 0x10000, c1 := 2, lo := 16, width := 16, acc := .ro, clr := .blk }
/-- STATUS [5:5] AF_CONV (04): Active-flux tracker converged (R94) -/
def OB.STATUS.AF_CONV : Row :=
  { base := 0x1130004, s1 := 0x10000, c1 := 2, lo := 5, width := 1, acc := .ro, clr := .blk }
/-- STATUS [4:4] SAT (04): A saturated sample or result -/
def OB.STATUS.SAT : Row :=
  { base := 0x1130004, s1 := 0x10000, c1 := 2, lo := 4, width := 1, acc := .w1c, clr := .blk }
/-- STATUS [3:3] VDC_HOLD (04): V_dc held -/
def OB.STATUS.VDC_HOLD : Row :=
  { base := 0x1130004, s1 := 0x10000, c1 := 2, lo := 3, width := 1, acc := .ro, clr := .blk }
/-- STATUS [2:2] RES_HIGH (04): RES > RES_TH in the latest tick -/
def OB.STATUS.RES_HIGH : Row :=
  { base := 0x1130004, s1 := 0x10000, c1 := 2, lo := 2, width := 1, acc := .ro, clr := .blk }
/-- STATUS [1:1] SLS_VALID (04): Sensorless source converged (R94) -/
def OB.STATUS.SLS_VALID : Row :=
  { base := 0x1130004, s1 := 0x10000, c1 := 2, lo := 1, width := 1, acc := .ro, clr := .blk }
/-- STATUS [0:0] EST_VALID (04): Estimate valid -/
def OB.STATUS.EST_VALID : Row :=
  { base := 0x1130004, s1 := 0x10000, c1 := 2, lo := 0, width := 1, acc := .ro, clr := .blk }
/-- EST_CFG [31:16] WC (04): Blend crossover, Q15 of ω_base -/
def OB.EST_CFG.WC : Row :=
  { base := 0x1130008, s1 := 0x10000, c1 := 2, lo := 16, width := 16, reset := 0x666, acc := .rwl, clr := .blk }
/-- DRIFT [31:16] DRIFT_K (04): Q15 -/
def OB.DRIFT.DRIFT_K : Row :=
  { base := 0x113000C, s1 := 0x10000, c1 := 2, lo := 16, width := 16, reset := 0x20, acc := .rwl, clr := .blk }
/-- RES_CFG [15:0] RES_TH (04): Q15 of ψ_base -/
def OB.RES_CFG.RES_TH : Row :=
  { base := 0x1130010, s1 := 0x10000, c1 := 2, lo := 0, width := 16, reset := 0xccd, acc := .rwl, clr := .blk }
/-- SLS_CFG [31:16] SLS_MIN (04): Q15 of ω_base -/
def OB.SLS_CFG.SLS_MIN : Row :=
  { base := 0x1130014, s1 := 0x10000, c1 := 2, lo := 16, width := 16, reset := 0x800, acc := .rwl, clr := .blk }
/-- SLS_CFG [15:8] CONV_TOL (04): 1/1024 turn, 1–255 -/
def OB.SLS_CFG.CONV_TOL : Row :=
  { base := 0x1130014, s1 := 0x10000, c1 := 2, lo := 8, width := 8, reset := 0x10, acc := .rwl, clr := .blk, range := some (1, 255) }
/-- SLS_CFG [7:0] CONV_N (04): Ticks, 1–255 -/
def OB.SLS_CFG.CONV_N : Row :=
  { base := 0x1130014, s1 := 0x10000, c1 := 2, lo := 0, width := 8, reset := 0x40, acc := .rwl, clr := .blk, range := some (1, 255) }
/-- SLS_PLL [31:16] KP (04): Q15 -/
def OB.SLS_PLL.KP : Row :=
  { base := 0x1130018, s1 := 0x10000, c1 := 2, lo := 16, width := 16, reset := 0x400, acc := .rwl, clr := .blk }
/-- SLS_PLL [15:0] KI (04): Q15 -/
def OB.SLS_PLL.KI : Row :=
  { base := 0x1130018, s1 := 0x10000, c1 := 2, lo := 0, width := 16, reset := 0x10, acc := .rwl, clr := .blk }
/-- MAP_SEL [3:3] MTPV (04): Map present by handle; loaded at ENABLE and REFRESH -/
def OB.MAP_SEL.MTPV : Row :=
  { base := 0x113001C, s1 := 0x10000, c1 := 2, lo := 3, width := 1, acc := .ro, clr := .blk }
/-- MAP_SEL [2:2] MTPA (04): Map present by handle; loaded at ENABLE and REFRESH -/
def OB.MAP_SEL.MTPA : Row :=
  { base := 0x113001C, s1 := 0x10000, c1 := 2, lo := 2, width := 1, acc := .ro, clr := .blk }
/-- MAP_SEL [1:1] FLUX_MAP_Q (04): Map present by handle; loaded at ENABLE and REFRESH -/
def OB.MAP_SEL.FLUX_MAP_Q : Row :=
  { base := 0x113001C, s1 := 0x10000, c1 := 2, lo := 1, width := 1, acc := .ro, clr := .blk }
/-- MAP_SEL [0:0] FLUX_MAP (04): Map present by handle; loaded at ENABLE and REFRESH -/
def OB.MAP_SEL.FLUX_MAP : Row :=
  { base := 0x113001C, s1 := 0x10000, c1 := 2, lo := 0, width := 1, acc := .ro, clr := .blk }
/-- PSI_VAL [31:16] PSI_MAG (04): Q15 of ψ_base -/
def OB.PSI_VAL.PSI_MAG : Row :=
  { base := 0x1130020, s1 := 0x10000, c1 := 2, lo := 16, width := 16, acc := .ro, clr := .blk }
/-- PSI_VAL [15:0] PSI_ANG (04): Q16 -/
def OB.PSI_VAL.PSI_ANG : Row :=
  { base := 0x1130020, s1 := 0x10000, c1 := 2, lo := 0, width := 16, acc := .ro, clr := .blk }
/-- TQ_VAL [31:16] T_EST (04): Q15 of T_base -/
def OB.TQ_VAL.T_EST : Row :=
  { base := 0x1130024, s1 := 0x10000, c1 := 2, lo := 16, width := 16, acc := .ro, clr := .blk }
/-- TQ_VAL [15:0] RES (04): Q15 of ψ_base -/
def OB.TQ_VAL.RES : Row :=
  { base := 0x1130024, s1 := 0x10000, c1 := 2, lo := 0, width := 16, acc := .ro, clr := .blk }
/-- SLS_VAL [31:16] SLS_ANG (04): Q16 electrical -/
def OB.SLS_VAL.SLS_ANG : Row :=
  { base := 0x1130028, s1 := 0x10000, c1 := 2, lo := 16, width := 16, acc := .ro, clr := .blk }
/-- SLS_VAL [15:0] SLS_SPD (04): Q15 of ω_base -/
def OB.SLS_VAL.SLS_SPD : Row :=
  { base := 0x1130028, s1 := 0x10000, c1 := 2, lo := 0, width := 16, acc := .ro, clr := .blk }
/-- XY_VAL [31:16] I_X (04): Q15 of I_base; OB1 in joined mode, 0 otherwise -/
def OB.XY_VAL.I_X : Row :=
  { base := 0x113002C, s1 := 0x10000, c1 := 2, lo := 16, width := 16, acc := .ro, clr := .blk }
/-- XY_VAL [15:0] I_Y (04): As I_X -/
def OB.XY_VAL.I_Y : Row :=
  { base := 0x113002C, s1 := 0x10000, c1 := 2, lo := 0, width := 16, acc := .ro, clr := .blk }
/-- RS_VAL [15:0] RS_EFF (04): R_eff, Q15 of V_base / I_base -/
def OB.RS_VAL.RS_EFF : Row :=
  { base := 0x1130030, s1 := 0x10000, c1 := 2, lo := 0, width := 16, acc := .ro, clr := .blk }
/-- PIT_CTL [31:31] ARM (04): Arms the selected piton; clears after it acts -/
def OB.PIT_CTL.ARM : Row :=
  { base := 0x1130040, s1 := 0x10000, c1 := 2, lo := 31, width := 1, acc := .w1s, clr := .blk }
/-- PIT_CTL [3:0] SEL (04): Piton code (R113); 0 means none -/
def OB.PIT_CTL.SEL : Row :=
  { base := 0x1130040, s1 := 0x10000, c1 := 2, lo := 0, width := 4, acc := .rw, clr := .blk }
/-- INJ_CFG [31:31] INJ_MODE (05): 0 pulsating, 1 square wave -/
def OB.INJ_CFG.INJ_MODE : Row :=
  { base := 0x1130044, s1 := 0x10000, c1 := 2, lo := 31, width := 1, acc := .rwl, clr := .blk }
/-- INJ_CFG [29:20] F_H (05): 10 Hz steps, 50–500 -/
def OB.INJ_CFG.F_H : Row :=
  { base := 0x1130044, s1 := 0x10000, c1 := 2, lo := 20, width := 10, reset := 0x64, acc := .rwl, clr := .blk, range := some (50, 500) }
/-- INJ_CFG [19:12] V_H (05): V, 5–80 -/
def OB.INJ_CFG.V_H : Row :=
  { base := 0x1130044, s1 := 0x10000, c1 := 2, lo := 12, width := 8, reset := 0x28, acc := .rwl, clr := .blk, range := some (5, 80) }
/-- INJ_CFG [11:4] INJ_CNT (05): Injection periods averaged, 0–255; 0 no injection -/
def OB.INJ_CFG.INJ_CNT : Row :=
  { base := 0x1130044, s1 := 0x10000, c1 := 2, lo := 4, width := 8, reset := 1, acc := .rwl, clr := .blk }
/-- INJ_CFG [3:0] INJ_RAMP (05): PWM periods, 1–15 -/
def OB.INJ_CFG.INJ_RAMP : Row :=
  { base := 0x1130044, s1 := 0x10000, c1 := 2, lo := 0, width := 4, reset := 8, acc := .rwl, clr := .blk, range := some (1, 15) }
/-- INJ_TRK [31:16] INJ_KP (05): Q15 -/
def OB.INJ_TRK.INJ_KP : Row :=
  { base := 0x1130048, s1 := 0x10000, c1 := 2, lo := 16, width := 16, reset := 0x800, acc := .rwl, clr := .blk }
/-- INJ_TRK [15:0] INJ_KI (05): Q15 -/
def OB.INJ_TRK.INJ_KI : Row :=
  { base := 0x1130048, s1 := 0x10000, c1 := 2, lo := 0, width := 16, reset := 0x40, acc := .rwl, clr := .blk }
/-- INJ_CONV [31:16] INJ_TOL (05): Q15 of sin 2Δθ -/
def OB.INJ_CONV.INJ_TOL : Row :=
  { base := 0x113004C, s1 := 0x10000, c1 := 2, lo := 16, width := 16, reset := 0xb29, acc := .rwl, clr := .blk }
/-- INJ_CONV [15:8] INJ_N (05): Loop updates, 1–255 -/
def OB.INJ_CONV.INJ_N : Row :=
  { base := 0x113004C, s1 := 0x10000, c1 := 2, lo := 8, width := 8, reset := 0x40, acc := .rwl, clr := .blk, range := some (1, 255) }
/-- INJ_VAL [31:16] EPS (05): Normalised error, Q15 -/
def OB.INJ_VAL.EPS : Row :=
  { base := 0x1130050, s1 := 0x10000, c1 := 2, lo := 16, width := 16, acc := .ro, clr := .blk }
/-- INJ_VAL [15:0] I_HF (05): d̂ high-frequency amplitude, Q15 of I_base -/
def OB.INJ_VAL.I_HF : Row :=
  { base := 0x1130050, s1 := 0x10000, c1 := 2, lo := 0, width := 16, acc := .ro, clr := .blk }
/-- POL_CFG [31:16] POL_I (05): Pulse current, Q15 of I_base -/
def OB.POL_CFG.POL_I : Row :=
  { base := 0x1130054, s1 := 0x10000, c1 := 2, lo := 16, width := 16, reset := 0x2000, acc := .rwl, clr := .blk }
/-- POL_CFG [15:0] POL_V (05): Pulse voltage, Q15 of V_base -/
def OB.POL_CFG.POL_V : Row :=
  { base := 0x1130054, s1 := 0x10000, c1 := 2, lo := 0, width := 16, reset := 0x1000, acc := .rwl, clr := .blk }
/-- POL_CFG2 [31:24] POL_TMAX (05): 10 µs steps, 5–100 -/
def OB.POL_CFG2.POL_TMAX : Row :=
  { base := 0x1130058, s1 := 0x10000, c1 := 2, lo := 24, width := 8, reset := 0x32, acc := .rwl, clr := .blk, range := some (5, 100) }
/-- POL_CFG2 [23:20] POL_N (05): Pulse pairs, 1–8 -/
def OB.POL_CFG2.POL_N : Row :=
  { base := 0x1130058, s1 := 0x10000, c1 := 2, lo := 20, width := 4, reset := 4, acc := .rwl, clr := .blk, range := some (1, 8) }
/-- POL_CFG2 [15:8] POL_MARGIN (05): 1/256, 1–64 -/
def OB.POL_CFG2.POL_MARGIN : Row :=
  { base := 0x1130058, s1 := 0x10000, c1 := 2, lo := 8, width := 8, reset := 0xa, acc := .rwl, clr := .blk, range := some (1, 64) }
/-- POL_STAT [31:16] RATIO (05): Σt− / Σt+, Q3.13 -/
def OB.POL_STAT.RATIO : Row :=
  { base := 0x113005C, s1 := 0x10000, c1 := 2, lo := 16, width := 16, acc := .ro, clr := .blk }
/-- POL_STAT [15:8] POL_TIME (05): ms from the injection start to POL_DONE -/
def OB.POL_STAT.POL_TIME : Row :=
  { base := 0x113005C, s1 := 0x10000, c1 := 2, lo := 8, width := 8, acc := .ro, clr := .blk }
/-- POL_STAT [4:4] POL_SRC (05): 0 pulses, 1 ABS or INC source -/
def OB.POL_STAT.POL_SRC : Row :=
  { base := 0x113005C, s1 := 0x10000, c1 := 2, lo := 4, width := 1, acc := .ro, clr := .blk }
/-- POL_STAT [3:3] POL_FLIP (05): Angle advanced by 180° -/
def OB.POL_STAT.POL_FLIP : Row :=
  { base := 0x113005C, s1 := 0x10000, c1 := 2, lo := 3, width := 1, acc := .ro, clr := .blk }
/-- POL_STAT [2:2] POL_AMBIG (05): First test ambiguous -/
def OB.POL_STAT.POL_AMBIG : Row :=
  { base := 0x113005C, s1 := 0x10000, c1 := 2, lo := 2, width := 1, acc := .w1c, clr := .blk }
/-- POL_STAT [1:1] POL_FAIL (05): Polarity not found (R123) -/
def OB.POL_STAT.POL_FAIL : Row :=
  { base := 0x113005C, s1 := 0x10000, c1 := 2, lo := 1, width := 1, acc := .w1c, clr := .blk }
/-- POL_STAT [0:0] POL_DONE (05): Polarity resolved -/
def OB.POL_STAT.POL_DONE : Row :=
  { base := 0x113005C, s1 := 0x10000, c1 := 2, lo := 0, width := 1, acc := .ro, clr := .blk }
/-- CATCH_VAL [31:16] CATCH_ANG (05): Flux angle at the result, Q16 electrical -/
def OB.CATCH_VAL.CATCH_ANG : Row :=
  { base := 0x1130060, s1 := 0x10000, c1 := 2, lo := 16, width := 16, acc := .ro, clr := .blk }
/-- CATCH_VAL [15:0] CATCH_SPD (05): Speed at the result, signed Q15 of ω_base -/
def OB.CATCH_VAL.CATCH_SPD : Row :=
  { base := 0x1130060, s1 := 0x10000, c1 := 2, lo := 0, width := 16, acc := .ro, clr := .blk }
/-- INJ_STAT [2:2] INJ_LOST (05): Tracker lost after convergence -/
def OB.INJ_STAT.INJ_LOST : Row :=
  { base := 0x1130064, s1 := 0x10000, c1 := 2, lo := 2, width := 1, acc := .w1c, clr := .blk }
/-- INJ_STAT [1:1] INJ_ACTIVE (05): Injection applied -/
def OB.INJ_STAT.INJ_ACTIVE : Row :=
  { base := 0x1130064, s1 := 0x10000, c1 := 2, lo := 1, width := 1, acc := .ro, clr := .blk }
/-- INJ_STAT [0:0] INJ_CONV (05): Tracker converged (R119) -/
def OB.INJ_STAT.INJ_CONV : Row :=
  { base := 0x1130064, s1 := 0x10000, c1 := 2, lo := 0, width := 1, acc := .ro, clr := .blk }
/-- Not a register: ticks for which OB.SLS.PIT still offsets SLS_ANG (R113). -/
def OB.slsPit : Row :=
  { base := 0x80019858, s1 := 0x4, c1 := 2, lo := 0, width := 8, acc := .hid, clr := .blk }
/-- Not a register: R_S, L_D, L_Q, PSI_PM of the entry in force (R240). -/
def OB.mach : Row :=
  { base := 0x80019860, s1 := 0x10, c1 := 2, s2 := 0x4, c2 := 4, lo := 0, width := 32, acc := .hid, clr := .blk }
/-- Not a register: table handles of the entry in force, words 0x1C0 to 0x1C8 (R240). -/
def OB.handle : Row :=
  { base := 0x80019880, s1 := 0xC, c1 := 2, s2 := 0x4, c2 := 3, lo := 0, width := 32, acc := .hid, clr := .blk }
/-- Not a register: voltage-model flux α, β, signed, 24-bit fraction (R90). -/
def OB.psi : Row :=
  { base := 0x80019898, s1 := 0x8, c1 := 2, s2 := 0x4, c2 := 2, lo := 0, width := 25, acc := .hid, clr := .blk }
/-- Not a register: current-model flux α, β (R91). -/
def OB.psiC : Row :=
  { base := 0x800198A8, s1 := 0x8, c1 := 2, s2 := 0x4, c2 := 2, lo := 0, width := 25, acc := .hid, clr := .blk }
/-- Not a register: drift correction d (R92). -/
def OB.drift : Row :=
  { base := 0x800198B8, s1 := 0x8, c1 := 2, s2 := 0x4, c2 := 2, lo := 0, width := 25, acc := .hid, clr := .blk }
/-- Not a register: sum of the voltage-model flux over the electrical turn, signed (R92). -/
def OB.dSum : Row :=
  { base := 0x800198C8, s1 := 0x8, c1 := 2, s2 := 0x4, c2 := 2, lo := 0, width := 48, acc := .hid, clr := .blk }
/-- Not a register: ticks of the turn (R92). -/
def OB.dN : Row :=
  { base := 0x800198D8, s1 := 0x4, c1 := 2, lo := 0, width := 24, acc := .hid, clr := .blk }
/-- Not a register: offered angle of the last tick (R92). -/
def OB.angLast : Row :=
  { base := 0x800198E0, s1 := 0x4, c1 := 2, lo := 0, width := 16, acc := .hid, clr := .blk }
/-- Not a register: that of the tick before (R90). -/
def OB.vOld : Row :=
  { base := 0x800198F8, s1 := 0x8, c1 := 2, s2 := 0x4, c2 := 2, lo := 0, width := 16, acc := .hid, clr := .blk }
/-- Not a register: last valid fast sample of the channel (R111). -/
def OB.iPrev : Row :=
  { base := 0x80019908, s1 := 0x4, c1 := 6, lo := 0, width := 16, acc := .hid, clr := .blk }
/-- Not a register: consecutive invalid fast samples (R111). -/
def OB.invRun : Row :=
  { base := 0x80019920, s1 := 0x4, c1 := 6, lo := 0, width := 2, acc := .hid, clr := .blk }
/-- Not a register: ticks for which OB.RES.PIT still adds (R113). -/
def OB.resPit : Row :=
  { base := 0x80019938, s1 := 0x4, c1 := 2, lo := 0, width := 4, acc := .hid, clr := .blk }
/-- Not a register: active-flux tracker angle (R94). -/
def OB.afAng : Row :=
  { base := 0x80019940, s1 := 0x4, c1 := 2, lo := 0, width := 16, acc := .hid, clr := .blk }
/-- Not a register: active-flux tracker speed, signed (R94). -/
def OB.afSpd : Row :=
  { base := 0x80019948, s1 := 0x4, c1 := 2, lo := 0, width := 16, acc := .hid, clr := .blk }
/-- Not a register: consecutive ticks with the loop error below CONV_TOL (R94). -/
def OB.afOk : Row :=
  { base := 0x80019950, s1 := 0x4, c1 := 2, lo := 0, width := 8, acc := .hid, clr := .blk }
/-- Not a register: consecutive ticks with it above (R94). -/
def OB.afBad : Row :=
  { base := 0x80019958, s1 := 0x4, c1 := 2, lo := 0, width := 8, acc := .hid, clr := .blk }
/-- Not a register: injection tracker angle (R119). -/
def OB.injAng : Row :=
  { base := 0x80019960, s1 := 0x4, c1 := 2, lo := 0, width := 16, acc := .hid, clr := .blk }
/-- Not a register: injection tracker speed, signed (R119). -/
def OB.injSpd : Row :=
  { base := 0x80019968, s1 := 0x4, c1 := 2, lo := 0, width := 16, acc := .hid, clr := .blk }
/-- Not a register: consecutive updates with |EPS| below INJ_TOL (R119). -/
def OB.injIn : Row :=
  { base := 0x80019970, s1 := 0x4, c1 := 2, lo := 0, width := 8, acc := .hid, clr := .blk }
/-- Not a register: consecutive updates with |EPS| above INJ_TOL after convergence (R121). -/
def OB.injOut : Row :=
  { base := 0x80019978, s1 := 0x4, c1 := 2, lo := 0, width := 8, acc := .hid, clr := .blk }
/-- Not a register: updates for which OB.INJ.PIT still adds (R139). -/
def OB.injPit : Row :=
  { base := 0x80019980, s1 := 0x4, c1 := 2, lo := 0, width := 8, acc := .hid, clr := .blk }
/-- Not a register: PWM periods left of the injection ramp (R127). -/
def OB.injRampN : Row :=
  { base := 0x80019988, s1 := 0x4, c1 := 2, lo := 0, width := 4, acc := .hid, clr := .blk }
/-- Not a register: device time of the injection start (R123). -/
def OB.injT : Row :=
  { base := 0x80019990, s1 := 0x4, c1 := 2, lo := 0, width := 64, acc := .hid, clr := .blk }
/-- Not a register: sign of the square-wave injection (R118). -/
def OB.injSign : Row :=
  { base := 0x80019998, s1 := 0x4, c1 := 2, lo := 0, width := 1, acc := .hid, clr := .blk }
/-- Not a register: the control sample before the latest, signed (R116). -/
def OB.ctrlLast : Row :=
  { base := 0x800199A0, s1 := 0xC, c1 := 2, s2 := 0x4, c2 := 3, lo := 0, width := 16, acc := .hid, clr := .blk }
/-- Not a register: the control current sample that the engines read, signed (R116, R169). -/
def OB.ctrlPort : Row :=
  { base := 0x800199B8, s1 := 0xC, c1 := 2, s2 := 0x4, c2 := 3, lo := 0, width := 16, acc := .hid, clr := .blk }
/-- Not a register: after a traverse down SLS is still the active-flux tracker (R119). -/
def OB.slsAf : Row :=
  { base := 0x800199D0, s1 := 0x4, c1 := 2, lo := 0, width := 1, acc := .hid, clr := .blk }
/-- Not a register: the first convergence after the start command is awaited (R122). -/
def OB.polWait : Row :=
  { base := 0x800199D8, s1 := 0x4, c1 := 2, lo := 0, width := 1, acc := .hid, clr := .blk }
/-- Not a register: a polarity test runs (R122). -/
def OB.polRun : Row :=
  { base := 0x800199E0, s1 := 0x4, c1 := 2, lo := 0, width := 1, acc := .hid, clr := .blk }
/-- Not a register: pulses done in the test (R122). -/
def OB.polIdx : Row :=
  { base := 0x800199E8, s1 := 0x4, c1 := 2, lo := 0, width := 5, acc := .hid, clr := .blk }
/-- Not a register: Σ t+ in 2.5 ns (R122). -/
def OB.polP : Row :=
  { base := 0x800199F0, s1 := 0x4, c1 := 2, lo := 0, width := 24, acc := .hid, clr := .blk }
/-- Not a register: Σ t− in 2.5 ns (R122). -/
def OB.polM : Row :=
  { base := 0x800199F8, s1 := 0x4, c1 := 2, lo := 0, width := 24, acc := .hid, clr := .blk }
/-- Not a register: the test is the repeat with POL_I raised by half (R123). -/
def OB.polRep : Row :=
  { base := 0x80019A00, s1 := 0x4, c1 := 2, lo := 0, width := 1, acc := .hid, clr := .blk }
/-- Not a register: tests for which OB.POL.PIT still forces RATIO to 1 (R139). -/
def OB.polPit : Row :=
  { base := 0x80019A08, s1 := 0x4, c1 := 2, lo := 0, width := 2, acc := .hid, clr := .blk }
/-- Not a register: sum of E_ll over the catch window (R130). -/
def OB.ellSum : Row :=
  { base := 0x80019A10, s1 := 0x4, c1 := 2, lo := 0, width := 20, acc := .hid, clr := .blk }
/-- Not a register: ticks in that sum (R130). -/
def OB.ellN : Row :=
  { base := 0x80019A18, s1 := 0x4, c1 := 2, lo := 0, width := 5, acc := .hid, clr := .blk }
/-- Not a register: E_ll averaged over 16 ticks (R130). -/
def OB.ellAvg : Row :=
  { base := 0x80019A20, s1 := 0x4, c1 := 2, lo := 0, width := 16, acc := .hid, clr := .blk }
/-- Not a register: device time of the start command (R130, R134). -/
def OB.catchT : Row :=
  { base := 0x80019A28, s1 := 0x4, c1 := 2, lo := 0, width := 64, acc := .hid, clr := .blk }
/-- Not a register: E_ll has counted as at or above V_dc (R130, R134). -/
def OB.catchHi : Row :=
  { base := 0x80019A30, s1 := 0x4, c1 := 2, lo := 0, width := 1, acc := .hid, clr := .blk }
/-- Not a register: OB.CATCH.PIT discards the results of this catch (R139). -/
def OB.catchPit : Row :=
  { base := 0x80019A38, s1 := 0x4, c1 := 2, lo := 0, width := 1, acc := .hid, clr := .blk }
/-- Not a register: the catch is a re-catch (R109, R133). -/
def OB.recatch : Row :=
  { base := 0x80019A40, s1 := 0x4, c1 := 2, lo := 0, width := 1, acc := .hid, clr := .blk }
/-- Not a register: levels of the legs at the pass before, by which a leg that has changed is known (R90). -/
def OB.legWas : Row :=
  { base := 0x806ECE10, s1 := 0x4, c1 := 2, lo := 0, width := 6, acc := .hid, clr := .blk }
/-- Not a register: the sums of the drift compensation began at a wrap of the offered angle and have run since (R92). -/
def OB.driftOn : Row :=
  { base := 0x806ECE18, s1 := 0x4, c1 := 2, lo := 0, width := 1, acc := .hid, clr := .blk }
/-- Not a register: the last 256 control samples of each phase of the axis, signed (R116). -/
def OB.cHist : Row :=
  { base := 0x806ECE20, s1 := 0xC00, c1 := 2, s2 := 0x4, c2 := 768, lo := 0, width := 16, acc := .hid, clr := .blk }
/-- Not a register: where the next control sample goes in that history (R116). -/
def OB.cIdx : Row :=
  { base := 0x806EE620, s1 := 0x4, c1 := 2, lo := 0, width := 8, acc := .hid, clr := .blk }
/-- Not a register: phase of the pulsating injection: loop updates times F_H, modulo the update rate in 10 Hz (R117). -/
def OB.injPh : Row :=
  { base := 0x806EE628, s1 := 0x4, c1 := 2, lo := 0, width := 16, acc := .hid, clr := .blk }
/-- Not a register: the demodulated estimated-q products of the last loop updates, signed (R117 to R119). -/
def OB.hQ : Row :=
  { base := 0x806EE630, s1 := 0x28000, c1 := 2, s2 := 0x4, c2 := 40960, lo := 0, width := 33, acc := .hid, clr := .blk }
/-- Not a register: the demodulated estimated-d products of the last loop updates, signed (R117 to R119). -/
def OB.hD : Row :=
  { base := 0x8073E630, s1 := 0x28000, c1 := 2, s2 := 0x4, c2 := 40960, lo := 0, width := 33, acc := .hid, clr := .blk }
/-- Not a register: where the next product goes (R119). -/
def OB.hIdx : Row :=
  { base := 0x8078E630, s1 := 0x4, c1 := 2, lo := 0, width := 16, acc := .hid, clr := .blk }
/-- Not a register: how many products of this injection the window holds (R119). -/
def OB.hN : Row :=
  { base := 0x8078E638, s1 := 0x4, c1 := 2, lo := 0, width := 16, acc := .hid, clr := .blk }
/-- Not a register: estimated-d and estimated-q current at the last loop update and their increments then, signed (R118). -/
def OB.dqLast : Row :=
  { base := 0x8078E650, s1 := 0x10, c1 := 2, s2 := 0x4, c2 := 4, lo := 0, width := 18, acc := .hid, clr := .blk }
/-- Not a register: part of the polarity pulse: 0 none, 1 rising, 2 returning to zero, 3 waiting, 4 over (R122). -/
def OB.polPh : Row :=
  { base := 0x8078E670, s1 := 0x4, c1 := 2, lo := 0, width := 3, acc := .hid, clr := .blk }
/-- Not a register: ticks of that part (R122). -/
def OB.polN : Row :=
  { base := 0x8078E678, s1 := 0x4, c1 := 2, lo := 0, width := 16, acc := .hid, clr := .blk }
/-- Not a register: estimated-d current along the pulse at the fast sample before, signed (R122). -/
def OB.polPrev : Row :=
  { base := 0x8078E680, s1 := 0x4, c1 := 2, lo := 0, width := 17, acc := .hid, clr := .blk }
/-- Not a register: the same at the latest fast sample (R122). -/
def OB.polCur : Row :=
  { base := 0x8078E688, s1 := 0x4, c1 := 2, lo := 0, width := 17, acc := .hid, clr := .blk }
/-- Not a register: the latest speeds that the catch has measured, the newest first, signed Q15 of ω_base (R131, R132). -/
def OB.cW : Row :=
  { base := 0x8078E690, s1 := 0x3C, c1 := 2, s2 := 0x4, c2 := 15, lo := 0, width := 16, acc := .hid, clr := .blk }
/-- Not a register: how many of them there are (R131, R132). -/
def OB.cN : Row :=
  { base := 0x8078E708, s1 := 0x4, c1 := 2, lo := 0, width := 4, acc := .hid, clr := .blk }
/-- Not a register: the back-EMF angle of the latest window or pulse (R131, R132). -/
def OB.cAng : Row :=
  { base := 0x8078E710, s1 := 0x4, c1 := 2, lo := 0, width := 16, acc := .hid, clr := .blk }
/-- Not a register: that angle has been measured in this catch (R131, R132). -/
def OB.cOn : Row :=
  { base := 0x8078E718, s1 := 0x4, c1 := 2, lo := 0, width := 1, acc := .hid, clr := .blk }
/-- Not a register: device time to which it belongs (R131 to R133). -/
def OB.cT : Row :=
  { base := 0x8078E720, s1 := 0x4, c1 := 2, lo := 0, width := 64, acc := .hid, clr := .blk }
/-- Not a register: tick of the 16-tick window of the back-EMF reading (R131). -/
def OB.cTick : Row :=
  { base := 0x8078E728, s1 := 0x4, c1 := 2, lo := 0, width := 4, acc := .hid, clr := .blk }
/-- Not a register: ticks since the start of the catch pulse whose current is being read, + 1 (R132). -/
def OB.pTick : Row :=
  { base := 0x8078E738, s1 := 0x4, c1 := 2, lo := 0, width := 4, acc := .hid, clr := .blk }
/-- Not a register: two pulses in a row have agreed (R134). -/
def OB.agreeOn : Row :=
  { base := 0x8078E770, s1 := 0x4, c1 := 2, lo := 0, width := 1, acc := .hid, clr := .blk }
/-- Not a register: the speed of the last pulse that agreed with the one before, signed (R134). -/
def OB.agreeW : Row :=
  { base := 0x8078E778, s1 := 0x4, c1 := 2, lo := 0, width := 16, acc := .hid, clr := .blk }
/-- Not a register: the polarity pulse is along the negative estimated d-axis (R122). -/
def OB.polNeg : Row :=
  { base := 0x8078E800, s1 := 0x4, c1 := 2, lo := 0, width := 1, acc := .hid, clr := .blk }
/-- Not a register: rise time of the pulse that ends, in 2.5 ns (R122). -/
def OB.polT : Row :=
  { base := 0x8078E808, s1 := 0x4, c1 := 2, lo := 0, width := 16, acc := .hid, clr := .blk }
/-- Not a register: α and β of the fast currents of the two samples before an edge of the catch pulse is read, and of that at its first edge times 320, signed (R132). -/
def OB.pI : Row :=
  { base := 0x8078ED80, s1 := 0x18, c1 := 2, s2 := 0x4, c2 := 6, lo := 0, width := 28, acc := .hid, clr := .blk }
/-- Not a register: device time of the boundary from which the catch pulse stands (R132). -/
def OB.pT : Row :=
  { base := 0x8078EDB0, s1 := 0x4, c1 := 2, lo := 0, width := 64, acc := .hid, clr := .blk }
/-- Not a register: instant of the pulse's first edge, in 1.25 ns after that boundary (R132). -/
def OB.pE : Row :=
  { base := 0x8078EDB8, s1 := 0x4, c1 := 2, lo := 0, width := 12, acc := .hid, clr := .blk }
/-- Rows of OB, part 0. -/
def OB.rows0 : List Row :=
  [OB.CTL.LOCK, OB.CTL.CFG_REJECT, OB.CTL.RS_TCOMP, OB.CTL.DRIFT_EN, OB.CTL.BLEND_EN, OB.STATUS.VCORR_MISS, OB.STATUS.AF_CONV, OB.STATUS.SAT, OB.STATUS.VDC_HOLD, OB.STATUS.RES_HIGH, OB.STATUS.SLS_VALID, OB.STATUS.EST_VALID, OB.EST_CFG.WC, OB.DRIFT.DRIFT_K, OB.RES_CFG.RES_TH, OB.SLS_CFG.SLS_MIN, OB.SLS_CFG.CONV_TOL, OB.SLS_CFG.CONV_N, OB.SLS_PLL.KP, OB.SLS_PLL.KI, OB.MAP_SEL.MTPV, OB.MAP_SEL.MTPA, OB.MAP_SEL.FLUX_MAP_Q, OB.MAP_SEL.FLUX_MAP, OB.PSI_VAL.PSI_MAG, OB.PSI_VAL.PSI_ANG, OB.TQ_VAL.T_EST, OB.TQ_VAL.RES, OB.SLS_VAL.SLS_ANG, OB.SLS_VAL.SLS_SPD, OB.XY_VAL.I_X, OB.XY_VAL.I_Y, OB.RS_VAL.RS_EFF, OB.PIT_CTL.ARM, OB.PIT_CTL.SEL, OB.INJ_CFG.INJ_MODE, OB.INJ_CFG.F_H, OB.INJ_CFG.V_H, OB.INJ_CFG.INJ_CNT, OB.INJ_CFG.INJ_RAMP]
/-- Rows of OB, part 1. -/
def OB.rows1 : List Row :=
  [OB.INJ_TRK.INJ_KP, OB.INJ_TRK.INJ_KI, OB.INJ_CONV.INJ_TOL, OB.INJ_CONV.INJ_N, OB.INJ_VAL.EPS, OB.INJ_VAL.I_HF, OB.POL_CFG.POL_I, OB.POL_CFG.POL_V, OB.POL_CFG2.POL_TMAX, OB.POL_CFG2.POL_N, OB.POL_CFG2.POL_MARGIN, OB.POL_STAT.RATIO, OB.POL_STAT.POL_TIME, OB.POL_STAT.POL_SRC, OB.POL_STAT.POL_FLIP, OB.POL_STAT.POL_AMBIG, OB.POL_STAT.POL_FAIL, OB.POL_STAT.POL_DONE, OB.CATCH_VAL.CATCH_ANG, OB.CATCH_VAL.CATCH_SPD, OB.INJ_STAT.INJ_LOST, OB.INJ_STAT.INJ_ACTIVE, OB.INJ_STAT.INJ_CONV, OB.slsPit, OB.mach, OB.handle, OB.psi, OB.psiC, OB.drift, OB.dSum, OB.dN, OB.angLast, OB.vOld, OB.iPrev, OB.invRun, OB.resPit, OB.afAng, OB.afSpd, OB.afOk]
/-- Rows of OB, part 2. -/
def OB.rows2 : List Row :=
  [OB.afBad, OB.injAng, OB.injSpd, OB.injIn, OB.injOut, OB.injPit, OB.injRampN, OB.injT, OB.injSign, OB.ctrlLast, OB.ctrlPort, OB.slsAf, OB.polWait, OB.polRun, OB.polIdx, OB.polP, OB.polM, OB.polRep, OB.polPit, OB.ellSum, OB.ellN, OB.ellAvg, OB.catchT, OB.catchHi, OB.catchPit, OB.recatch, OB.legWas, OB.driftOn, OB.cHist, OB.cIdx, OB.injPh, OB.hQ, OB.hD, OB.hIdx, OB.hN, OB.dqLast, OB.polPh, OB.polN, OB.polPrev, OB.polCur, OB.cW, OB.cN, OB.cAng, OB.cOn, OB.cT, OB.cTick, OB.pTick, OB.agreeOn, OB.agreeW, OB.polNeg, OB.polT, OB.pI, OB.pT, OB.pE]
/-- Every row of OB. -/
def OB.rows : List Row := OB.rows0 ++ OB.rows1 ++ OB.rows2

/-- CTL [31:31] LOCK (06): Locks every RWL field of the unit -/
def PU.CTL.LOCK : Row :=
  { base := 0x1120000, s1 := 0x1000, c1 := 5, lo := 31, width := 1, acc := .w1s, clr := .blk }
/-- CTL [30:30] CFG_REJECT (06): A refused write (R140, R147, R152) -/
def PU.CTL.CFG_REJECT : Row :=
  { base := 0x1120000, s1 := 0x1000, c1 := 5, lo := 30, width := 1, acc := .w1c, clr := .blk }
/-- CTL [8:8] FRZ (06): PU2–PU4 only: freeze on debug halt (R161); reserved in PU0, PU1 -/
def PU.CTL.FRZ : Row :=
  { base := 0x1120000, s1 := 0x1000, c1 := 5, lo := 8, width := 1, acc := .rw, clr := .blk }
/-- CTL [4:4] GRP_EN (06): Group commit (R145) -/
def PU.CTL.GRP_EN : Row :=
  { base := 0x1120000, s1 := 0x1000, c1 := 5, lo := 4, width := 1, reset := 1, acc := .rwl, clr := .blk }
/-- CTL [1:1] DBL_UPD (06): Reload at peak as well as valley -/
def PU.CTL.DBL_UPD : Row :=
  { base := 0x1120000, s1 := 0x1000, c1 := 5, lo := 1, width := 1, reset := 1, acc := .rwl, clr := .blk }
/-- CTL [0:0] RUN (06): Counter running -/
def PU.CTL.RUN : Row :=
  { base := 0x1120000, s1 := 0x1000, c1 := 5, lo := 0, width := 1, exc := [(0, 1), (1, 1)], acc := .rwl, clr := .blk }
/-- STATUS [31:31] DOWN (06): Counter counting down -/
def PU.STATUS.DOWN : Row :=
  { base := 0x1120004, s1 := 0x1000, c1 := 5, lo := 31, width := 1, acc := .ro, clr := .blk }
/-- STATUS [30:30] DETACHED (06): Outputs detached (R143) -/
def PU.STATUS.DETACHED : Row :=
  { base := 0x1120004, s1 := 0x1000, c1 := 5, lo := 30, width := 1, reset := 1, acc := .ro, clr := .blk }
/-- STATUS [29:29] TRIPPED (06): Copy of TRIP_STAT.TRIPPED -/
def PU.STATUS.TRIPPED : Row :=
  { base := 0x1120004, s1 := 0x1000, c1 := 5, lo := 29, width := 1, acc := .ro, clr := .blk }
/-- STATUS [28:28] HALTED (06): Counter stopped by debug halt -/
def PU.STATUS.HALTED : Row :=
  { base := 0x1120004, s1 := 0x1000, c1 := 5, lo := 28, width := 1, acc := .ro, clr := .blk }
/-- STATUS [27:27] FROZEN (06): Outputs frozen (R161) -/
def PU.STATUS.FROZEN : Row :=
  { base := 0x1120004, s1 := 0x1000, c1 := 5, lo := 27, width := 1, acc := .ro, clr := .blk }
/-- STATUS [26:26] FRZ_ABORT (06): Freeze ended by a failed condition -/
def PU.STATUS.FRZ_ABORT : Row :=
  { base := 0x1120004, s1 := 0x1000, c1 := 5, lo := 26, width := 1, acc := .w1c, clr := .blk }
/-- STATUS [21:20] BAND_W (06): Temperature band in force per leg, 2 bits each -/
def PU.STATUS.BAND_W : Row :=
  { base := 0x1120004, s1 := 0x1000, c1 := 5, lo := 20, width := 2, acc := .ro, clr := .blk }
/-- STATUS [19:18] BAND_V (06): Temperature band in force per leg, 2 bits each -/
def PU.STATUS.BAND_V : Row :=
  { base := 0x1120004, s1 := 0x1000, c1 := 5, lo := 18, width := 2, acc := .ro, clr := .blk }
/-- STATUS [17:16] BAND_U (06): Temperature band in force per leg, 2 bits each -/
def PU.STATUS.BAND_U : Row :=
  { base := 0x1120004, s1 := 0x1000, c1 := 5, lo := 16, width := 2, acc := .ro, clr := .blk }
/-- PER [15:0] PER (06): Half-period in counts, 5000–20 000 -/
def PU.PER.PER : Row :=
  { base := 0x1120008, s1 := 0x1000, c1 := 5, lo := 0, width := 16, reset := 0x2710, acc := .rwl, clr := .blk, range := some (5000, 20000) }
/-- CNT [15:0] CNT (06): Present count -/
def PU.CNT.CNT : Row :=
  { base := 0x112000C, s1 := 0x1000, c1 := 5, lo := 0, width := 16, acc := .ro, clr := .blk }
/-- CMP [15:0] CMP (06): Write: shadow; read: value in force (R145) -/
def PU.CMP.CMP : Row :=
  { base := 0x1120010, s1 := 0x1000, c1 := 5, s2 := 0x4, c2 := 3, lo := 0, width := 16, acc := .rw, clr := .blk }
/-- COMMIT [0:0] GO (06): Commit pending; reads 1 until transferred -/
def PU.COMMIT.GO : Row :=
  { base := 0x112001C, s1 := 0x1000, c1 := 5, lo := 0, width := 1, acc := .w1s, clr := .blk }
/-- DT_B01 [25:16] DT1 (06): Band 1, 2.5 ns counts (R147) -/
def PU.DT_B01.DT1 : Row :=
  { base := 0x1120020, s1 := 0x1000, c1 := 5, lo := 16, width := 10, reset := 0x14, exc := [(0, 120), (1, 120)], acc := .rwl, clr := .blk }
/-- DT_B01 [9:0] DT0 (06): Band 0 -/
def PU.DT_B01.DT0 : Row :=
  { base := 0x1120020, s1 := 0x1000, c1 := 5, lo := 0, width := 10, reset := 0x14, exc := [(0, 120), (1, 120)], acc := .rwl, clr := .blk }
/-- DT_B23 [25:16] DT3 (06): Band 3 -/
def PU.DT_B23.DT3 : Row :=
  { base := 0x1120024, s1 := 0x1000, c1 := 5, lo := 16, width := 10, reset := 0x14, exc := [(0, 120), (1, 120)], acc := .rwl, clr := .blk }
/-- DT_B23 [9:0] DT2 (06): Band 2 -/
def PU.DT_B23.DT2 : Row :=
  { base := 0x1120024, s1 := 0x1000, c1 := 5, lo := 0, width := 10, reset := 0x14, exc := [(0, 120), (1, 120)], acc := .rwl, clr := .blk }
/-- MINPW [25:16] MIN_PW (06): Counts, 0–1023; 0 disables -/
def PU.MINPW.MIN_PW : Row :=
  { base := 0x1120028, s1 := 0x1000, c1 := 5, lo := 16, width := 10, reset := 0x28, exc := [(0, 80), (1, 80)], acc := .rwl, clr := .blk }
/-- MINPW [0:0] MP_MODE (06): 0 drop, 1 stretch -/
def PU.MINPW.MP_MODE : Row :=
  { base := 0x1120028, s1 := 0x1000, c1 := 5, lo := 0, width := 1, acc := .rwl, clr := .blk }
/-- TRIP_EN [18:0] EN (06): Source enable, bits of R151 -/
def PU.TRIP_EN.EN : Row :=
  { base := 0x112002C, s1 := 0x1000, c1 := 5, lo := 0, width := 19, reset := 0x7f000, exc := [(0, 499711), (1, 499711)], acc := .rwl, clr := .blk }
/-- TRIP_FILT0 [31:24] F_GI (06): Cycles, 1–255 -/
def PU.TRIP_FILT0.F_GI : Row :=
  { base := 0x1120030, s1 := 0x1000, c1 := 5, lo := 24, width := 8, reset := 1, acc := .rwl, clr := .blk, range := some (1, 255) }
/-- TRIP_FILT0 [23:16] F_OC (06): Cycles, 1–255 -/
def PU.TRIP_FILT0.F_OC : Row :=
  { base := 0x1120030, s1 := 0x1000, c1 := 5, lo := 16, width := 8, reset := 4, acc := .rwl, clr := .blk, range := some (1, 255) }
/-- TRIP_FILT0 [15:8] F_SUM (06): Cycles, 1–255 -/
def PU.TRIP_FILT0.F_SUM : Row :=
  { base := 0x1120030, s1 := 0x1000, c1 := 5, lo := 8, width := 8, reset := 1, acc := .rwl, clr := .blk, range := some (1, 255) }
/-- TRIP_FILT0 [7:0] F_VDC (06): Cycles, 1–255 -/
def PU.TRIP_FILT0.F_VDC : Row :=
  { base := 0x1120030, s1 := 0x1000, c1 := 5, lo := 0, width := 8, reset := 1, acc := .rwl, clr := .blk, range := some (1, 255) }
/-- TRIP_FILT1 [31:24] F_XTRIP (06): Cycles, 1–255 -/
def PU.TRIP_FILT1.F_XTRIP : Row :=
  { base := 0x1120034, s1 := 0x1000, c1 := 5, lo := 24, width := 8, reset := 1, acc := .rwl, clr := .blk, range := some (1, 255) }
/-- TRIP_FILT1 [23:16] F_REF (06): Cycles, 1–255 -/
def PU.TRIP_FILT1.F_REF : Row :=
  { base := 0x1120034, s1 := 0x1000, c1 := 5, lo := 16, width := 8, reset := 1, acc := .rwl, clr := .blk, range := some (1, 255) }
/-- TRIP_FILT1 [15:8] F_EST (06): Cycles, 1–255 -/
def PU.TRIP_FILT1.F_EST : Row :=
  { base := 0x1120034, s1 := 0x1000, c1 := 5, lo := 8, width := 8, reset := 1, acc := .rwl, clr := .blk, range := some (1, 255) }
/-- TRIP_FILT1 [7:0] F_AUX (06): Cycles, 1–255 -/
def PU.TRIP_FILT1.F_AUX : Row :=
  { base := 0x1120034, s1 := 0x1000, c1 := 5, lo := 0, width := 8, reset := 8, acc := .rwl, clr := .blk, range := some (1, 255) }
/-- TRIP_STAT [31:31] CLEAR_REFUSED (06): A clear was refused (R158) -/
def PU.TRIP_STAT.CLEAR_REFUSED : Row :=
  { base := 0x1120038, s1 := 0x1000, c1 := 5, lo := 31, width := 1, acc := .w1c, clr := .blk }
/-- TRIP_STAT [30:30] TRIPPED (06): Any source bit set -/
def PU.TRIP_STAT.TRIPPED : Row :=
  { base := 0x1120038, s1 := 0x1000, c1 := 5, lo := 30, width := 1, acc := .ro, clr := .blk }
/-- TRIP_STAT [18:0] SRC (06): Latched sources, bits of R151; clear per R158 -/
def PU.TRIP_STAT.SRC : Row :=
  { base := 0x1120038, s1 := 0x1000, c1 := 5, lo := 0, width := 19, acc := .w1c, clr := .blk }
/-- TRIP_CMD [0:0] SW (06): Software trip; reads 0 -/
def PU.TRIP_CMD.SW : Row :=
  { base := 0x112003C, s1 := 0x1000, c1 := 5, lo := 0, width := 1, acc := .w1s, clr := .blk }
/-- FIRST_FAULT [31:31] VALID (06): Capture holds a first fault -/
def PU.FIRST_FAULT.VALID : Row :=
  { base := 0x1120040, s1 := 0x1000, c1 := 5, lo := 31, width := 1, acc := .w1c, clr := .ctl }
/-- FIRST_FAULT [30:30] SIMUL (06): First and second within one 2.5 ns tick -/
def PU.FIRST_FAULT.SIMUL : Row :=
  { base := 0x1120040, s1 := 0x1000, c1 := 5, lo := 30, width := 1, acc := .ro, clr := .ctl }
/-- FIRST_FAULT [12:8] SRC (06): Source bit number -/
def PU.FIRST_FAULT.SRC : Row :=
  { base := 0x1120040, s1 := 0x1000, c1 := 5, lo := 8, width := 5, acc := .ro, clr := .ctl }
/-- FIRST_FAULT [3:0] UNIT (06): Island GI0–GI11, SEN channel or aux phase -/
def PU.FIRST_FAULT.UNIT : Row :=
  { base := 0x1120040, s1 := 0x1000, c1 := 5, lo := 0, width := 4, acc := .ro, clr := .ctl }
/-- FIRST_TIME [31:0] TIME (06): Device time of detection, 2.5 ns -/
def PU.FIRST_TIME.TIME : Row :=
  { base := 0x1120044, s1 := 0x1000, c1 := 5, s2 := 0x4, c2 := 2, lo := 0, width := 32, acc := .ro, clr := .ctl }
/-- SECOND_FAULT [12:8] SRC (06): As FIRST_FAULT -/
def PU.SECOND_FAULT.SRC : Row :=
  { base := 0x112004C, s1 := 0x1000, c1 := 5, lo := 8, width := 5, acc := .ro, clr := .ctl }
/-- SECOND_FAULT [3:0] UNIT (06): As FIRST_FAULT -/
def PU.SECOND_FAULT.UNIT : Row :=
  { base := 0x112004C, s1 := 0x1000, c1 := 5, lo := 0, width := 4, acc := .ro, clr := .ctl }
/-- CNTRS [31:16] LATE_UPDATE (06): Deferred commits (R146), saturating -/
def PU.CNTRS.LATE_UPDATE : Row :=
  { base := 0x1120050, s1 := 0x1000, c1 := 5, lo := 16, width := 16, acc := .ro, clr := .blk }
/-- CNTRS [15:0] MP_CNT (06): Dropped or stretched half-pulses, saturating -/
def PU.CNTRS.MP_CNT : Row :=
  { base := 0x1120050, s1 := 0x1000, c1 := 5, lo := 0, width := 16, acc := .ro, clr := .blk }
/-- PIT_CTL [31:31] ARM (06): Arms the selected piton; clears after it acts -/
def PU.PIT_CTL.ARM : Row :=
  { base := 0x1120054, s1 := 0x1000, c1 := 5, lo := 31, width := 1, acc := .w1s, clr := .blk }
/-- PIT_CTL [12:8] SRC (06): Source bit for SEL 1–3 -/
def PU.PIT_CTL.SRC : Row :=
  { base := 0x1120054, s1 := 0x1000, c1 := 5, lo := 8, width := 5, acc := .rw, clr := .blk }
/-- PIT_CTL [3:0] SEL (06): Piton code (R163); 0 means none -/
def PU.PIT_CTL.SEL : Row :=
  { base := 0x1120054, s1 := 0x1000, c1 := 5, lo := 0, width := 4, acc := .rw, clr := .blk }
/-- Not a register: level of each trip source input (R151). -/
def PU.tripIn : Row :=
  { base := 0x80019A48, s1 := 0x4, c1 := 5, lo := 0, width := 19, acc := .hid, clr := .ctl }
/-- Not a register: shadow compare of the leg (R145). -/
def PU.shadow : Row :=
  { base := 0x80019A5C, s1 := 0xC, c1 := 5, s2 := 0x4, c2 := 3, lo := 0, width := 16, acc := .hid, clr := .blk }
/-- Not a register: commit pending for the leg's shadow (R145). -/
def PU.pend : Row :=
  { base := 0x80019A98, s1 := 0xC, c1 := 5, s2 := 0x4, c2 := 3, lo := 0, width := 1, acc := .hid, clr := .blk }
/-- Not a register: device time of the latest reload point: the counter counts from there (R140). -/
def PU.cntT : Row :=
  { base := 0x80019AE8, s1 := 0x4, c1 := 5, lo := 0, width := 64, acc := .hid, clr := .blk }
/-- Not a register: periods since the last bootstrap refresh (R229). -/
def PU.bsN : Row :=
  { base := 0x80019AFC, s1 := 0x4, c1 := 5, lo := 0, width := 6, acc := .hid, clr := .blk }
/-- Not a register: PER in force, taken at a valley (R140). -/
def PU.perAct : Row :=
  { base := 0x80019B10, s1 := 0x4, c1 := 5, lo := 0, width := 16, reset := 0x2710, acc := .hid, clr := .blk }
/-- Not a register: the 200 ns first-fault capture window is open (R156). -/
def PU.capOpen : Row :=
  { base := 0x80019B24, s1 := 0x4, c1 := 5, lo := 0, width := 1, acc := .hid, clr := .ctl }
/-- Not a register: the TRIP event of the latched trip is still to be raised (R270). -/
def PU.evPend : Row :=
  { base := 0x80019B38, s1 := 0x4, c1 := 5, lo := 0, width := 1, acc := .hid, clr := .ctl }
/-- Not a register: detection time of the first fault of the latched trip (R270). -/
def PU.evTime : Row :=
  { base := 0x80019B4C, s1 := 0x4, c1 := 5, lo := 0, width := 64, acc := .hid, clr := .ctl }
/-- Not a register: SECOND_FAULT holds an entry (R157). -/
def PU.secValid : Row :=
  { base := 0x80019B60, s1 := 0x4, c1 := 5, lo := 0, width := 1, acc := .hid, clr := .ctl }
/-- Not a register: device time of the second fault (R156). -/
def PU.secTime : Row :=
  { base := 0x80019B74, s1 := 0x4, c1 := 5, lo := 0, width := 64, acc := .hid, clr := .ctl }
/-- Not a register: commanded state of an aux bridge's switch, 2 × leg high side, 2 × leg + 1 low side (R141). -/
def PU.sw : Row :=
  { base := 0x80019B88, s1 := 0x18, c1 := 5, s2 := 0x4, c2 := 6, lo := 0, width := 1, acc := .hid, clr := .blk }
/-- Not a register: a commit of the leg landed in the reload cycle to come and waits for the reload after it: 1 alone, 2 beside a commit made before (R146). -/
def PU.late : Row :=
  { base := 0x8078E880, s1 := 0xC, c1 := 5, s2 := 0x4, c2 := 3, lo := 0, width := 2, acc := .hid, clr := .blk }
/-- Not a register: one more than the shadow compare that a write in the reload cycle to come has replaced, 0 for none (R145, R146). -/
def PU.lateOld : Row :=
  { base := 0x8078E8BC, s1 := 0xC, c1 := 5, s2 := 0x4, c2 := 3, lo := 0, width := 17, acc := .hid, clr := .blk }
/-- Not a register: device time to which a gate-island report asserts its trip input, 0 once it has passed (R205). -/
def PU.giEnd : Row :=
  { base := 0x8078E900, s1 := 0x14, c1 := 2, s2 := 0x4, c2 := 5, lo := 0, width := 64, acc := .hid, clr := .ctl }
/-- Not a register: instant at which the unit last turned a leg's high side on, device time (R219). -/
def PU.hiT : Row :=
  { base := 0x8078EB10, s1 := 0xC, c1 := 5, s2 := 0x4, c2 := 3, lo := 0, width := 64, acc := .hid, clr := .blk }
/-- Not a register: device time of a turn-on of an aux bridge switch that is placed a dead time later, 0 none (R147). -/
def PU.onT : Row :=
  { base := 0x8078EDE0, s1 := 0x18, c1 := 5, s2 := 0x4, c2 := 6, lo := 0, width := 64, acc := .hid, clr := .blk }
/-- Not a register: device time at which a leg of an aux unit last turned its low side on (R218). -/
def PU.loT : Row :=
  { base := 0x8078EE80, s1 := 0xC, c1 := 5, s2 := 0x4, c2 := 3, lo := 0, width := 64, acc := .hid, clr := .blk }
/-- Not a register: legs of an aux unit that get a bootstrap refresh at the valley to come (R229). -/
def PU.refLegs : Row :=
  { base := 0x8078EEBC, s1 := 0x4, c1 := 5, lo := 0, width := 3, acc := .hid, clr := .blk }
/-- Rows of PU, part 0. -/
def PU.rows0 : List Row :=
  [PU.CTL.LOCK, PU.CTL.CFG_REJECT, PU.CTL.FRZ, PU.CTL.GRP_EN, PU.CTL.DBL_UPD, PU.CTL.RUN, PU.STATUS.DOWN, PU.STATUS.DETACHED, PU.STATUS.TRIPPED, PU.STATUS.HALTED, PU.STATUS.FROZEN, PU.STATUS.FRZ_ABORT, PU.STATUS.BAND_W, PU.STATUS.BAND_V, PU.STATUS.BAND_U, PU.PER.PER, PU.CNT.CNT, PU.CMP.CMP, PU.COMMIT.GO, PU.DT_B01.DT1, PU.DT_B01.DT0, PU.DT_B23.DT3, PU.DT_B23.DT2, PU.MINPW.MIN_PW, PU.MINPW.MP_MODE, PU.TRIP_EN.EN, PU.TRIP_FILT0.F_GI, PU.TRIP_FILT0.F_OC, PU.TRIP_FILT0.F_SUM, PU.TRIP_FILT0.F_VDC, PU.TRIP_FILT1.F_XTRIP, PU.TRIP_FILT1.F_REF, PU.TRIP_FILT1.F_EST, PU.TRIP_FILT1.F_AUX, PU.TRIP_STAT.CLEAR_REFUSED, PU.TRIP_STAT.TRIPPED, PU.TRIP_STAT.SRC, PU.TRIP_CMD.SW, PU.FIRST_FAULT.VALID, PU.FIRST_FAULT.SIMUL]
/-- Rows of PU, part 1. -/
def PU.rows1 : List Row :=
  [PU.FIRST_FAULT.SRC, PU.FIRST_FAULT.UNIT, PU.FIRST_TIME.TIME, PU.SECOND_FAULT.SRC, PU.SECOND_FAULT.UNIT, PU.CNTRS.LATE_UPDATE, PU.CNTRS.MP_CNT, PU.PIT_CTL.ARM, PU.PIT_CTL.SRC, PU.PIT_CTL.SEL, PU.tripIn, PU.shadow, PU.pend, PU.cntT, PU.bsN, PU.perAct, PU.capOpen, PU.evPend, PU.evTime, PU.secValid, PU.secTime, PU.sw, PU.late, PU.lateOld, PU.giEnd, PU.hiT, PU.onT, PU.loT, PU.refLegs]
/-- Every row of PU. -/
def PU.rows : List Row := PU.rows0 ++ PU.rows1

/-- CTL [31:31] LOCK (07): Locks every RWL field of the engine -/
def CE.CTL.LOCK : Row :=
  { base := 0x0, eng := true, s1 := 0x0, c1 := 7, lo := 31, width := 1, acc := .w1s, clr := .blk }
/-- CTL [30:30] CFG_REJECT (07): A refused write or ENABLE (R171, R176–R178, R186) -/
def CE.CTL.CFG_REJECT : Row :=
  { base := 0x0, eng := true, s1 := 0x0, c1 := 7, lo := 30, width := 1, acc := .w1c, clr := .blk }
/-- CTL [29:29] ROPE (07): Engine runs in a rope pair -/
def CE.CTL.ROPE : Row :=
  { base := 0x0, eng := true, s1 := 0x0, c1 := 7, lo := 29, width := 1, exc := [(0, 1), (1, 1), (2, 1), (3, 1)], acc := .ro, clr := .never }
/-- CTL [8:8] LEAD (07): Lead engine of its pair -/
def CE.CTL.LEAD : Row :=
  { base := 0x0, eng := true, s1 := 0x0, c1 := 7, lo := 8, width := 1, exc := [(0, 1), (2, 1)], acc := .ro, clr := .never }
/-- CTL [0:0] RUN (07): Program running; set by ENABLE of the axis -/
def CE.CTL.RUN : Row :=
  { base := 0x0, eng := true, s1 := 0x0, c1 := 7, lo := 0, width := 1, acc := .ro, clr := .blk }
/-- STATUS [31:30] ENTRY_SEL (07): 0 IDL, 1 CAR, 2 TBL -/
def CE.STATUS.ENTRY_SEL : Row :=
  { base := 0x4, eng := true, s1 := 0x0, c1 := 7, lo := 30, width := 2, acc := .ro, clr := .blk }
/-- STATUS [28:28] HALTED (07): Halted by debug -/
def CE.STATUS.HALTED : Row :=
  { base := 0x4, eng := true, s1 := 0x0, c1 := 7, lo := 28, width := 1, acc := .ro, clr := .blk }
/-- STATUS [15:0] PERIOD_NO (07): Period count, wraps -/
def CE.STATUS.PERIOD_NO : Row :=
  { base := 0x4, eng := true, s1 := 0x0, c1 := 7, lo := 0, width := 16, acc := .ro, clr := .blk }
/-- FLAGS [7:7] OVF (07): Sticky (R165, R166, R172, R181); ILLEGAL, TAINT_BR and TAINT_ST stop the engine until BLK -/
def CE.FLAGS.OVF : Row :=
  { base := 0x8, eng := true, s1 := 0x0, c1 := 7, lo := 7, width := 1, acc := .w1c, clr := .blk }
/-- FLAGS [6:6] SAT (07): Sticky (R165, R166, R172, R181); ILLEGAL, TAINT_BR and TAINT_ST stop the engine until BLK -/
def CE.FLAGS.SAT : Row :=
  { base := 0x8, eng := true, s1 := 0x0, c1 := 7, lo := 6, width := 1, acc := .w1c, clr := .blk }
/-- FLAGS [5:5] OVERRUN (07): Sticky (R165, R166, R172, R181); ILLEGAL, TAINT_BR and TAINT_ST stop the engine until BLK -/
def CE.FLAGS.OVERRUN : Row :=
  { base := 0x8, eng := true, s1 := 0x0, c1 := 7, lo := 5, width := 1, acc := .w1c, clr := .blk }
/-- FLAGS [4:4] OUT_LATE (07): Sticky (R165, R166, R172, R181); ILLEGAL, TAINT_BR and TAINT_ST stop the engine until BLK -/
def CE.FLAGS.OUT_LATE : Row :=
  { base := 0x8, eng := true, s1 := 0x0, c1 := 7, lo := 4, width := 1, acc := .w1c, clr := .blk }
/-- FLAGS [3:3] TAINT_BR (07): Sticky (R165, R166, R172, R181); ILLEGAL, TAINT_BR and TAINT_ST stop the engine until BLK -/
def CE.FLAGS.TAINT_BR : Row :=
  { base := 0x8, eng := true, s1 := 0x0, c1 := 7, lo := 3, width := 1, acc := .w1c, clr := .blk }
/-- FLAGS [2:2] TAINT_ST (07): Sticky (R165, R166, R172, R181); ILLEGAL, TAINT_BR and TAINT_ST stop the engine until BLK -/
def CE.FLAGS.TAINT_ST : Row :=
  { base := 0x8, eng := true, s1 := 0x0, c1 := 7, lo := 2, width := 1, acc := .w1c, clr := .blk }
/-- FLAGS [1:1] DIV0 (07): Sticky (R165, R166, R172, R181); ILLEGAL, TAINT_BR and TAINT_ST stop the engine until BLK -/
def CE.FLAGS.DIV0 : Row :=
  { base := 0x8, eng := true, s1 := 0x0, c1 := 7, lo := 1, width := 1, acc := .w1c, clr := .blk }
/-- FLAGS [0:0] ILLEGAL (07): Sticky (R165, R166, R172, R181); ILLEGAL, TAINT_BR and TAINT_ST stop the engine until BLK -/
def CE.FLAGS.ILLEGAL : Row :=
  { base := 0x8, eng := true, s1 := 0x0, c1 := 7, lo := 0, width := 1, acc := .w1c, clr := .blk }
/-- OSAT [15:8] OOVF (07): Per output: fed by an overflowed accumulator -/
def CE.OSAT.OOVF : Row :=
  { base := 0xC, eng := true, s1 := 0x0, c1 := 7, lo := 8, width := 8, acc := .w1c, clr := .blk }
/-- OSAT [7:0] OSAT (07): Per output: value clamped -/
def CE.OSAT.OSAT : Row :=
  { base := 0xC, eng := true, s1 := 0x0, c1 := 7, lo := 0, width := 8, acc := .w1c, clr := .blk }
/-- PERIOD_CFG [29:16] OUT_PH_CAR (07): Cycles, 64–16 383 -/
def CE.PERIOD_CFG.OUT_PH_CAR : Row :=
  { base := 0x10, eng := true, s1 := 0x0, c1 := 7, lo := 16, width := 14, reset := 0x7d0, acc := .rwl, clr := .blk, range := some (64, 16383) }
/-- PERIOD_CFG [13:0] OUT_PH_TBL (07): Cycles, 64–16 383 -/
def CE.PERIOD_CFG.OUT_PH_TBL : Row :=
  { base := 0x10, eng := true, s1 := 0x0, c1 := 7, lo := 0, width := 14, reset := 0x258, acc := .rwl, clr := .blk, range := some (64, 16383) }
/-- TIMING [31:16] MAX_CYC (07): Largest cycle count from period start to OUTREL -/
def CE.TIMING.MAX_CYC : Row :=
  { base := 0x14, eng := true, s1 := 0x0, c1 := 7, lo := 16, width := 16, acc := .ro, clr := .blk }
/-- TIMING [15:0] LATE_CNT (07): Late releases, saturating -/
def CE.TIMING.LATE_CNT : Row :=
  { base := 0x14, eng := true, s1 := 0x0, c1 := 7, lo := 0, width := 16, acc := .ro, clr := .blk }
/-- OUT_MAP [31:0] DESTn (07): 4 bits per output (R186) -/
def CE.OUT_MAP.DESTn : Row :=
  { base := 0x18, eng := true, s1 := 0x0, c1 := 7, lo := 0, width := 32, acc := .rwl, clr := .blk }
/-- ENTRY0 [29:16] ENTRY_TBL (07): Code word address -/
def CE.ENTRY0.ENTRY_TBL : Row :=
  { base := 0x68, eng := true, s1 := 0x0, c1 := 7, lo := 16, width := 14, acc := .rwl, clr := .blk }
/-- ENTRY0 [13:0] ENTRY_CAR (07): Code word address -/
def CE.ENTRY0.ENTRY_CAR : Row :=
  { base := 0x68, eng := true, s1 := 0x0, c1 := 7, lo := 0, width := 14, acc := .rwl, clr := .blk }
/-- ENTRY1 [13:0] ENTRY_IDL (07): Code word address -/
def CE.ENTRY1.ENTRY_IDL : Row :=
  { base := 0x1C, eng := true, s1 := 0x0, c1 := 7, lo := 0, width := 14, acc := .rwl, clr := .blk }
/-- OUT [15:0] VAL (07): Value last released (lead's) -/
def CE.OUT.VAL : Row :=
  { base := 0x80, eng := true, s1 := 0x0, c1 := 7, s2 := 0x4, c2 := 8, lo := 0, width := 16, acc := .ro, clr := .blk }
/-- RP_CFG [31:16] TAG_END (07): Last byte of the TAG region in local data -/
def CE.RP_CFG.TAG_END : Row :=
  { base := 0x20, eng := true, s1 := 0x0, c1 := 7, lo := 16, width := 16, reset := 0x7fff, acc := .rwl, clr := .blk }
/-- RP_CFG [15:0] TAG_BASE (07): First byte of the TAG region -/
def CE.RP_CFG.TAG_BASE : Row :=
  { base := 0x20, eng := true, s1 := 0x0, c1 := 7, lo := 0, width := 16, reset := 0x6000, acc := .rwl, clr := .blk }
/-- RP_STAT [31:31] RP_FAULT (07): Pair faulted (R183) -/
def CE.RP_STAT.RP_FAULT : Row :=
  { base := 0x24, eng := true, s1 := 0x0, c1 := 7, lo := 31, width := 1, acc := .ro, clr := .blk }
/-- RP_STAT [30:30] SIG_MIS (07): Fault cause; held until BLK -/
def CE.RP_STAT.SIG_MIS : Row :=
  { base := 0x24, eng := true, s1 := 0x0, c1 := 7, lo := 30, width := 1, acc := .ro, clr := .blk }
/-- RP_STAT [29:29] TOL_FAULT (07): Fault cause; held until BLK -/
def CE.RP_STAT.TOL_FAULT : Row :=
  { base := 0x24, eng := true, s1 := 0x0, c1 := 7, lo := 29, width := 1, acc := .ro, clr := .blk }
/-- RP_STAT [28:28] MASK_MIS (07): Fault cause; held until BLK -/
def CE.RP_STAT.MASK_MIS : Row :=
  { base := 0x24, eng := true, s1 := 0x0, c1 := 7, lo := 28, width := 1, acc := .ro, clr := .blk }
/-- RP_STAT [27:27] SOLO_OVR (07): Fault cause; held until BLK -/
def CE.RP_STAT.SOLO_OVR : Row :=
  { base := 0x24, eng := true, s1 := 0x0, c1 := 7, lo := 27, width := 1, acc := .ro, clr := .blk }
/-- RP_STAT [26:26] TAINT (07): Fault cause; held until BLK -/
def CE.RP_STAT.TAINT : Row :=
  { base := 0x24, eng := true, s1 := 0x0, c1 := 7, lo := 26, width := 1, acc := .ro, clr := .blk }
/-- RP_STAT [23:16] TOL_OUT (07): Outputs out of tolerance in the last period -/
def CE.RP_STAT.TOL_OUT : Row :=
  { base := 0x24, eng := true, s1 := 0x0, c1 := 7, lo := 16, width := 8, acc := .ro, clr := .blk }
/-- RP_STAT [15:0] TOL_PERIODS (07): Out-of-tolerance periods, saturating -/
def CE.RP_STAT.TOL_PERIODS : Row :=
  { base := 0x24, eng := true, s1 := 0x0, c1 := 7, lo := 0, width := 16, acc := .ro, clr := .blk }
/-- SIG [31:0] SIG (07): Lead signature of the last closed window -/
def CE.SIG.SIG : Row :=
  { base := 0x28, eng := true, s1 := 0x0, c1 := 7, s2 := 0x4, c2 := 2, lo := 0, width := 32, acc := .ro, clr := .blk }
/-- RP_TOL [31:16] TOLy (07): Tolerance of OUTy, in the output's units -/
def CE.RP_TOL.TOLy : Row :=
  { base := 0x30, eng := true, s1 := 0x0, c1 := 7, s2 := 0x4, c2 := 4, lo := 16, width := 16, reset := 0x40, acc := .rwl, clr := .blk }
/-- RP_TOL [15:0] TOLx (07): Tolerance of OUTx -/
def CE.RP_TOL.TOLx : Row :=
  { base := 0x30, eng := true, s1 := 0x0, c1 := 7, s2 := 0x4, c2 := 4, lo := 0, width := 16, reset := 0x40, acc := .rwl, clr := .blk }
/-- FF_CFG [31:24] HANDLE (07): Table handle; loaded at ENABLE and REFRESH; 0 means absent -/
def CE.FF_CFG.HANDLE : Row :=
  { base := 0x40, eng := true, s1 := 0x0, c1 := 7, s2 := 0x8, c2 := 4, lo := 24, width := 8, acc := .ro, clr := .blk }
/-- FF_CFG [23:16] LEAD (07): Ticks, 0–255 -/
def CE.FF_CFG.LEAD : Row :=
  { base := 0x40, eng := true, s1 := 0x0, c1 := 7, s2 := 0x8, c2 := 4, lo := 16, width := 8, acc := .rwl, clr := .blk }
/-- FF_CFG [9:9] SGN (07): Multiply by the sign of the speed -/
def CE.FF_CFG.SGN : Row :=
  { base := 0x40, eng := true, s1 := 0x0, c1 := 7, s2 := 0x8, c2 := 4, lo := 9, width := 1, acc := .rwl, clr := .blk }
/-- FF_CFG [8:8] IDX (07): 0 electrical angle, 1 mechanical angle -/
def CE.FF_CFG.IDX : Row :=
  { base := 0x40, eng := true, s1 := 0x0, c1 := 7, s2 := 0x8, c2 := 4, lo := 8, width := 1, acc := .rwl, clr := .blk }
/-- FF_PH [31:16] OFS (07): Angle offset, Q16 -/
def CE.FF_PH.OFS : Row :=
  { base := 0x44, eng := true, s1 := 0x0, c1 := 7, s2 := 0x8, c2 := 4, lo := 16, width := 16, acc := .rwl, clr := .blk }
/-- FF_PH [15:0] GAIN (07): Q15 -/
def CE.FF_PH.GAIN : Row :=
  { base := 0x44, eng := true, s1 := 0x0, c1 := 7, s2 := 0x8, c2 := 4, lo := 0, width := 16, reset := 0x7fff, acc := .rwl, clr := .blk }
/-- COEF_CTL [31:31] PEND (07): REFRESH coefficient load pending (R177) -/
def CE.COEF_CTL.PEND : Row :=
  { base := 0x60, eng := true, s1 := 0x0, c1 := 7, lo := 31, width := 1, acc := .ro, clr := .blk }
/-- COEF_CTL [8:8] BANK (07): Active bank -/
def CE.COEF_CTL.BANK : Row :=
  { base := 0x60, eng := true, s1 := 0x0, c1 := 7, lo := 8, width := 1, acc := .ro, clr := .blk }
/-- COEF_CTL [7:0] APPLIED (07): Direct writes applied, wraps -/
def CE.COEF_CTL.APPLIED : Row :=
  { base := 0x60, eng := true, s1 := 0x0, c1 := 7, lo := 0, width := 8, acc := .ro, clr := .blk }
/-- COEF_WIN [15:0] WORD (07): Write: applied at the next period start (R176); read: value in force -/
def CE.COEF_WIN.WORD : Row :=
  { base := 0x1000, eng := true, s1 := 0x0, c1 := 7, s2 := 0x4, c2 := 256, lo := 0, width := 16, acc := .rw, clr := .blk }
/-- PIT_CTL [31:31] ARM (07): Arms the selected piton; clears after it acts; lead only -/
def CE.PIT_CTL.ARM : Row :=
  { base := 0x64, eng := true, s1 := 0x0, c1 := 7, lo := 31, width := 1, acc := .w1s, clr := .blk }
/-- PIT_CTL [3:0] SEL (07): Piton code (R185); 0 means none -/
def CE.PIT_CTL.SEL : Row :=
  { base := 0x64, eng := true, s1 := 0x0, c1 := 7, lo := 0, width := 4, acc := .rw, clr := .blk }
/-- Not a register: Belay-accepted setpoint of the channel's data port: VALUE (R169, R265). -/
def CE.spVal : Row :=
  { base := 0x80019C28, s1 := 0x4, c1 := 8, lo := 0, width := 16, acc := .hid, clr := .blk }
/-- Not a register: Belay-accepted setpoint: T_SP_LIM (R169, R265). -/
def CE.spLim : Row :=
  { base := 0x80019C48, s1 := 0x4, c1 := 8, lo := 0, width := 16, acc := .hid, clr := .blk }
/-- Not a register: Belay-accepted setpoint: SMODE (R169, R265). -/
def CE.spMode : Row :=
  { base := 0x80019C68, s1 := 0x4, c1 := 8, lo := 0, width := 8, acc := .hid, clr := .blk }
/-- Not a register: setpoint accepted and waiting for its boundary: VALUE (R266). -/
def CE.spNewVal : Row :=
  { base := 0x80019C88, s1 := 0x4, c1 := 8, lo := 0, width := 16, acc := .hid, clr := .blk }
/-- Not a register: setpoint waiting: T_SP_LIM (R266). -/
def CE.spNewLim : Row :=
  { base := 0x80019CA8, s1 := 0x4, c1 := 8, lo := 0, width := 16, acc := .hid, clr := .blk }
/-- Not a register: setpoint waiting: SMODE (R266). -/
def CE.spNewMode : Row :=
  { base := 0x80019CC8, s1 := 0x4, c1 := 8, lo := 0, width := 8, acc := .hid, clr := .blk }
/-- Not a register: a setpoint waits for its boundary (R266). -/
def CE.spPend : Row :=
  { base := 0x80019CE8, s1 := 0x4, c1 := 8, lo := 0, width := 1, acc := .hid, clr := .blk }
/-- Not a register: direct coefficient write waiting for the period start (R176). -/
def CE.coefNew : Row :=
  { base := 0x80019D08, s1 := 0x400, c1 := 7, s2 := 0x4, c2 := 256, lo := 0, width := 16, acc := .hid, clr := .blk }
/-- Not a register: a direct write waits (R176). -/
def CE.coefPend : Row :=
  { base := 0x8001B908, s1 := 0x400, c1 := 7, s2 := 0x4, c2 := 256, lo := 0, width := 1, acc := .hid, clr := .blk }
/-- Not a register: inactive coefficient bank loaded by REFRESH (R177). -/
def CE.coefRef : Row :=
  { base := 0x8001D508, s1 := 0x400, c1 := 7, s2 := 0x4, c2 := 256, lo := 0, width := 16, acc := .hid, clr := .blk }
/-- Not a register: data register D0 to D15 of the engine (R164). -/
def CE.d : Row :=
  { base := 0x8001F108, s1 := 0x40, c1 := 7, s2 := 0x4, c2 := 16, lo := 0, width := 16, acc := .hid, clr := .blk }
/-- Not a register: marks of a data register: bit 0 tag (R179), bit 1 the value was clamped, bit 2 an accumulator overflow fed it (R165). -/
def CE.dM : Row :=
  { base := 0x8001F2C8, s1 := 0x40, c1 := 7, s2 := 0x4, c2 := 16, lo := 0, width := 3, acc := .hid, clr := .blk }
/-- Not a register: accumulator A0 to A3, Q9.30 (R164). -/
def CE.a : Row :=
  { base := 0x8001F488, s1 := 0x10, c1 := 7, s2 := 0x4, c2 := 4, lo := 0, width := 40, acc := .hid, clr := .blk }
/-- Not a register: marks of an accumulator: bit 0 tag (R179), bit 1 overflow (R165). -/
def CE.aM : Row :=
  { base := 0x8001F4F8, s1 := 0x10, c1 := 7, s2 := 0x4, c2 := 4, lo := 0, width := 2, acc := .hid, clr := .blk }
/-- Not a register: address register P0 to P7: byte address in local data (07). -/
def CE.p : Row :=
  { base := 0x8001F568, s1 := 0x20, c1 := 7, s2 := 0x4, c2 := 8, lo := 0, width := 15, acc := .hid, clr := .blk }
/-- Not a register: tag of an address register (R179). -/
def CE.pM : Row :=
  { base := 0x8001F648, s1 := 0x20, c1 := 7, s2 := 0x4, c2 := 8, lo := 0, width := 1, acc := .hid, clr := .blk }
/-- Not a register: predicate register C0 to C3 (07). -/
def CE.c : Row :=
  { base := 0x8001F728, s1 := 0x10, c1 := 7, s2 := 0x4, c2 := 4, lo := 0, width := 1, acc := .hid, clr := .blk }
/-- Not a register: tag of a predicate register (R179). -/
def CE.cM : Row :=
  { base := 0x8001F798, s1 := 0x10, c1 := 7, s2 := 0x4, c2 := 4, lo := 0, width := 1, acc := .hid, clr := .blk }
/-- Not a register: local data, words of 16 bits (07); zeroed at reset (20). -/
def CE.ld : Row :=
  { base := 0x8001F808, s1 := 0x10000, c1 := 7, s2 := 0x4, c2 := 16384, lo := 0, width := 16, acc := .hid, clr := .blk }
/-- Not a register: tag bit of a word of local data (R179). -/
def CE.ldM : Row :=
  { base := 0x8008F808, s1 := 0x10000, c1 := 7, s2 := 0x4, c2 := 16384, lo := 0, width := 1, acc := .hid, clr := .blk }
/-- Not a register: code word address of the instruction that comes next (R168). -/
def CE.pc : Row :=
  { base := 0x800FF808, s1 := 0x4, c1 := 7, lo := 0, width := 14, acc := .hid, clr := .blk }
/-- Not a register: the period's program runs: started and not yet at END (R168, R172). -/
def CE.prog : Row :=
  { base := 0x800FF824, s1 := 0x4, c1 := 7, lo := 0, width := 1, acc := .hid, clr := .blk }
/-- Not a register: stopped by ILLEGAL, TAINT_BR or TAINT_ST until a BLK reset (R167, R181). -/
def CE.stop : Row :=
  { base := 0x800FF840, s1 := 0x4, c1 := 7, lo := 0, width := 1, acc := .hid, clr := .blk }
/-- Not a register: a period of the engine is open (R168). -/
def CE.open : Row :=
  { base := 0x800FF85C, s1 := 0x4, c1 := 7, lo := 0, width := 1, acc := .hid, clr := .blk }
/-- Not a register: cycles since the period start (R167, R172). -/
def CE.cyc : Row :=
  { base := 0x800FF878, s1 := 0x4, c1 := 7, lo := 0, width := 32, acc := .hid, clr := .blk }
/-- Not a register: c_REL, the cycle in which OUTREL executed (R170). -/
def CE.relAt : Row :=
  { base := 0x800FF894, s1 := 0x4, c1 := 7, lo := 0, width := 32, acc := .hid, clr := .blk }
/-- Not a register: OUTREL has executed in the period (R170). -/
def CE.rel : Row :=
  { base := 0x800FF8B0, s1 := 0x4, c1 := 7, lo := 0, width := 1, acc := .hid, clr := .blk }
/-- Not a register: the period's release has happened or is dropped (R170, R172). -/
def CE.done : Row :=
  { base := 0x800FF8CC, s1 := 0x4, c1 := 7, lo := 0, width := 1, acc := .hid, clr := .blk }
/-- Not a register: output register OUT0 to OUT7 as written in the period (R170). -/
def CE.outV : Row :=
  { base := 0x800FF8E8, s1 := 0x20, c1 := 7, s2 := 0x4, c2 := 8, lo := 0, width := 16, acc := .hid, clr := .blk }
/-- Not a register: mask of the outputs written in the period (R170). -/
def CE.outW : Row :=
  { base := 0x800FF9C8, s1 := 0x4, c1 := 7, lo := 0, width := 8, acc := .hid, clr := .blk }
/-- Not a register: state port MODE, latched at the period start (R169). -/
def CE.lMode : Row :=
  { base := 0x800FF9E4, s1 := 0x4, c1 := 7, lo := 0, width := 3, acc := .hid, clr := .blk }
/-- Not a register: state port period number, latched (R169). -/
def CE.lNo : Row :=
  { base := 0x800FFA00, s1 := 0x4, c1 := 7, lo := 0, width := 16, acc := .hid, clr := .blk }
/-- Not a register: state port entry, latched (R169). -/
def CE.lEnt : Row :=
  { base := 0x800FFA1C, s1 := 0x4, c1 := 7, lo := 0, width := 2, acc := .hid, clr := .blk }
/-- Not a register: state port mode-change flag, latched (R169). -/
def CE.lChg : Row :=
  { base := 0x800FFA38, s1 := 0x4, c1 := 7, lo := 0, width := 1, acc := .hid, clr := .blk }
/-- Not a register: auxiliary channel of the AX program in progress (R219). -/
def CE.lCh : Row :=
  { base := 0x800FFA54, s1 := 0x4, c1 := 7, lo := 0, width := 2, acc := .hid, clr := .blk }
/-- Not a register: signature of the open window (R180). -/
def CE.sig : Row :=
  { base := 0x800FFA70, s1 := 0x4, c1 := 7, lo := 0, width := 64, acc := .hid, clr := .blk }
/-- Not a register: a signature window is open (R180). -/
def CE.sigOn : Row :=
  { base := 0x800FFA8C, s1 := 0x4, c1 := 7, lo := 0, width := 1, acc := .hid, clr := .blk }
/-- Not a register: consecutive periods in which the output was out of tolerance (R182). -/
def CE.tol : Row :=
  { base := 0x800FFAA8, s1 := 0x20, c1 := 7, s2 := 0x4, c2 := 8, lo := 0, width := 2, acc := .hid, clr := .blk }
/-- Not a register: periods for which CE.TOL.PIT still adds to the partner's OUT0 (R185). -/
def CE.tolPit : Row :=
  { base := 0x800FFB88, s1 := 0x4, c1 := 7, lo := 0, width := 2, acc := .hid, clr := .blk }
/-- Not a register: consecutive periods with OVERRUN (R441). -/
def CE.ovRun : Row :=
  { base := 0x800FFBA4, s1 := 0x4, c1 := 7, lo := 0, width := 8, acc := .hid, clr := .blk }
/-- Not a register: cycles of the instructions executed (R167). -/
def CE.total : Row :=
  { base := 0x800FFBC0, s1 := 0x4, c1 := 7, lo := 0, width := 64, acc := .hid, clr := .blk }
/-- Not a register: a halted engine may execute one instruction (R396). -/
def CE.stepOnce : Row :=
  { base := 0x800FFBDC, s1 := 0x4, c1 := 7, lo := 0, width := 1, acc := .hid, clr := .blk }
/-- Not a register: word of engine code as a debugger wrote it (R396, R457). -/
def CE.code : Row :=
  { base := 0x800FFBF8, s1 := 0x10000, c1 := 7, s2 := 0x4, c2 := 16384, lo := 0, width := 32, acc := .hid, clr := .blk }
/-- Not a register: the word has been written since the engine's code was loaded. -/
def CE.codeOn : Row :=
  { base := 0x8016FBF8, s1 := 0x10000, c1 := 7, s2 := 0x4, c2 := 16384, lo := 0, width := 1, acc := .hid, clr := .blk }
/-- Not a register: the current references of a traverse down stand as the start of their ramp (R127). -/
def CE.refOn : Row :=
  { base := 0x8078E810, s1 := 0x4, c1 := 7, lo := 0, width := 1, acc := .hid, clr := .blk }
/-- Not a register: i_d that the ramp starts from, signed (R127). -/
def CE.refD0 : Row :=
  { base := 0x8078E82C, s1 := 0x4, c1 := 7, lo := 0, width := 16, acc := .hid, clr := .blk }
/-- Not a register: i_q that the ramp starts from, signed (R127). -/
def CE.refQ0 : Row :=
  { base := 0x8078E848, s1 := 0x4, c1 := 7, lo := 0, width := 16, acc := .hid, clr := .blk }
/-- Not a register: device time at which it starts (R127). -/
def CE.refT : Row :=
  { base := 0x8078E864, s1 := 0x4, c1 := 7, lo := 0, width := 64, acc := .hid, clr := .blk }
/-- Not a register: device time at which the engine stopped (R441). -/
def CE.stopT : Row :=
  { base := 0x8078ED10, s1 := 0x4, c1 := 7, lo := 0, width := 64, acc := .hid, clr := .blk }
/-- Not a register: CE.OVR.PIT holds the engine's END past the next period start (R185). -/
def CE.endHold : Row :=
  { base := 0x8078EE60, s1 := 0x4, c1 := 7, lo := 0, width := 1, acc := .hid, clr := .blk }
/-- Rows of CE, part 0. -/
def CE.rows0 : List Row :=
  [CE.CTL.LOCK, CE.CTL.CFG_REJECT, CE.CTL.ROPE, CE.CTL.LEAD, CE.CTL.RUN, CE.STATUS.ENTRY_SEL, CE.STATUS.HALTED, CE.STATUS.PERIOD_NO, CE.FLAGS.OVF, CE.FLAGS.SAT, CE.FLAGS.OVERRUN, CE.FLAGS.OUT_LATE, CE.FLAGS.TAINT_BR, CE.FLAGS.TAINT_ST, CE.FLAGS.DIV0, CE.FLAGS.ILLEGAL, CE.OSAT.OOVF, CE.OSAT.OSAT, CE.PERIOD_CFG.OUT_PH_CAR, CE.PERIOD_CFG.OUT_PH_TBL, CE.TIMING.MAX_CYC, CE.TIMING.LATE_CNT, CE.OUT_MAP.DESTn, CE.ENTRY0.ENTRY_TBL, CE.ENTRY0.ENTRY_CAR, CE.ENTRY1.ENTRY_IDL, CE.OUT.VAL, CE.RP_CFG.TAG_END, CE.RP_CFG.TAG_BASE, CE.RP_STAT.RP_FAULT, CE.RP_STAT.SIG_MIS, CE.RP_STAT.TOL_FAULT, CE.RP_STAT.MASK_MIS, CE.RP_STAT.SOLO_OVR, CE.RP_STAT.TAINT, CE.RP_STAT.TOL_OUT, CE.RP_STAT.TOL_PERIODS, CE.SIG.SIG, CE.RP_TOL.TOLy, CE.RP_TOL.TOLx]
/-- Rows of CE, part 1. -/
def CE.rows1 : List Row :=
  [CE.FF_CFG.HANDLE, CE.FF_CFG.LEAD, CE.FF_CFG.SGN, CE.FF_CFG.IDX, CE.FF_PH.OFS, CE.FF_PH.GAIN, CE.COEF_CTL.PEND, CE.COEF_CTL.BANK, CE.COEF_CTL.APPLIED, CE.COEF_WIN.WORD, CE.PIT_CTL.ARM, CE.PIT_CTL.SEL, CE.spVal, CE.spLim, CE.spMode, CE.spNewVal, CE.spNewLim, CE.spNewMode, CE.spPend, CE.coefNew, CE.coefPend, CE.coefRef, CE.d, CE.dM, CE.a, CE.aM, CE.p, CE.pM, CE.c, CE.cM, CE.ld, CE.ldM, CE.pc, CE.prog, CE.stop, CE.open, CE.cyc, CE.relAt, CE.rel, CE.done]
/-- Rows of CE, part 2. -/
def CE.rows2 : List Row :=
  [CE.outV, CE.outW, CE.lMode, CE.lNo, CE.lEnt, CE.lChg, CE.lCh, CE.sig, CE.sigOn, CE.tol, CE.tolPit, CE.ovRun, CE.total, CE.stepOnce, CE.code, CE.codeOn, CE.refOn, CE.refD0, CE.refQ0, CE.refT, CE.stopT, CE.endHold]
/-- Every row of CE. -/
def CE.rows : List Row := CE.rows0 ++ CE.rows1 ++ CE.rows2

/-- CTL [31:31] LOCK (02): Locks every RWL field of SEN -/
def SEN.CTL.LOCK : Row :=
  { base := 0x1160000, lo := 31, width := 1, acc := .w1s, clr := .blk }
/-- CTL [8:8] RECON_EN (02): Enables substitution of one lost channel per star -/
def SEN.CTL.RECON_EN : Row :=
  { base := 0x1160000, lo := 8, width := 1, reset := 1, acc := .rwl, clr := .blk }
/-- CTL [7:7] AUTO_OFS (02): Enables offset measurement at each ENABLE -/
def SEN.CTL.AUTO_OFS : Row :=
  { base := 0x1160000, lo := 7, width := 1, reset := 1, acc := .rwl, clr := .blk }
/-- CTL [5:0] CH_EN (02): Bit n enables ISDn_CLK and the filters of channel n -/
def SEN.CTL.CH_EN : Row :=
  { base := 0x1160000, lo := 0, width := 6, acc := .rwl, clr := .blk }
/-- CTRL_PHASE [13:8] PH_B (02): Control window phase of axis B, 0–63 modulator clocks after the PU1 reload -/
def SEN.CTRL_PHASE.PH_B : Row :=
  { base := 0x1160004, lo := 8, width := 6, acc := .rwl, clr := .blk }
/-- CTRL_PHASE [5:0] PH_A (02): The same for axis A and PU0 -/
def SEN.CTRL_PHASE.PH_A : Row :=
  { base := 0x1160004, lo := 0, width := 6, acc := .rwl, clr := .blk }
/-- SUM_CFG [31:16] SUM_LIM (02): Sum limit, Q15 of I_base -/
def SEN.SUM_CFG.SUM_LIM : Row :=
  { base := 0x1160008, lo := 16, width := 16, reset := 0x333, acc := .rwl, clr := .blk }
/-- SUM_CFG [7:0] SUM_N (02): Ticks, 1–255 -/
def SEN.SUM_CFG.SUM_N : Row :=
  { base := 0x1160008, lo := 0, width := 8, reset := 8, acc := .rwl, clr := .blk, range := some (1, 255) }
/-- OFS_CMD [11:8] OFS_LEN (02): 2^OFS_LEN samples, 4–10 -/
def SEN.OFS_CMD.OFS_LEN : Row :=
  { base := 0x116000C, lo := 8, width := 4, reset := 8, acc := .rwl, clr := .blk, range := some (4, 10) }
/-- OFS_CMD [1:1] START_B (02): Starts offset measurement for axis B; reads 1 while it runs -/
def SEN.OFS_CMD.START_B : Row :=
  { base := 0x116000C, lo := 1, width := 1, acc := .w1s, clr := .blk }
/-- OFS_CMD [0:0] START_A (02): The same for axis A -/
def SEN.OFS_CMD.START_A : Row :=
  { base := 0x116000C, lo := 0, width := 1, acc := .w1s, clr := .blk }
/-- STATUS [31:31] CFG_REJECT (02): A refused write or command (R46, R52) -/
def SEN.STATUS.CFG_REJECT : Row :=
  { base := 0x1160010, lo := 31, width := 1, acc := .w1c, clr := .blk }
/-- STATUS [27:26] SUM (02): Sum fault, star 2 and star 1 -/
def SEN.STATUS.SUM : Row :=
  { base := 0x1160010, lo := 26, width := 2, acc := .w1c, clr := .blk }
/-- STATUS [25:24] OFS_DONE (02): Offset measured and passed, axis B and axis A -/
def SEN.STATUS.OFS_DONE : Row :=
  { base := 0x1160010, lo := 24, width := 2, acc := .ro, clr := .blk }
/-- STATUS [21:16] CH_VALID (02): Fast and control channels valid -/
def SEN.STATUS.CH_VALID : Row :=
  { base := 0x1160010, lo := 16, width := 6, acc := .ro, clr := .blk }
/-- STATUS [11:6] SUBST (02): Channel substituted -/
def SEN.STATUS.SUBST : Row :=
  { base := 0x1160010, lo := 6, width := 6, acc := .ro, clr := .blk }
/-- STATUS [5:0] CH_FAULT (02): OR of the channel's CHn_STAT flags -/
def SEN.STATUS.CH_FAULT : Row :=
  { base := 0x1160010, lo := 0, width := 6, acc := .ro, clr := .blk }
/-- VDC_CFG [23:16] LOST_US (02): µs, 4–255 -/
def SEN.VDC_CFG.LOST_US : Row :=
  { base := 0x1160020, lo := 16, width := 8, reset := 0xa, acc := .rwl, clr := .blk, range := some (4, 255) }
/-- VDC_CFG [15:8] STALE_US (02): µs, 2–31 -/
def SEN.VDC_CFG.STALE_US : Row :=
  { base := 0x1160020, lo := 8, width := 8, reset := 3, acc := .rwl, clr := .blk, range := some (2, 31) }
/-- VDC_CFG [3:0] TAU (02): τ = 2^TAU µs, 4–10 -/
def SEN.VDC_CFG.TAU : Row :=
  { base := 0x1160020, lo := 0, width := 4, reset := 6, acc := .rwl, clr := .blk, range := some (4, 10) }
/-- VDC_LIM [31:16] OV (02): Soft over-voltage trip, Q15 of V_base -/
def SEN.VDC_LIM.OV : Row :=
  { base := 0x1160024, lo := 16, width := 16, reset := 0x7fff, acc := .rwl, clr := .blk }
/-- VDC_LIM [15:0] UV (02): Under-voltage warning, Q15 of V_base -/
def SEN.VDC_LIM.UV : Row :=
  { base := 0x1160024, lo := 0, width := 16, acc := .rwl, clr := .blk }
/-- VDC_VAL [31:16] FAST (02): Latest sample -/
def SEN.VDC_VAL.FAST : Row :=
  { base := 0x1160028, lo := 16, width := 16, acc := .ro, clr := .blk }
/-- VDC_VAL [15:0] FILT (02): Filtered value -/
def SEN.VDC_VAL.FILT : Row :=
  { base := 0x1160028, lo := 0, width := 16, acc := .ro, clr := .blk }
/-- VDC_RAW [31:28] SEQ (02): Sequence number of the latest good frame -/
def SEN.VDC_RAW.SEQ : Row :=
  { base := 0x116002C, lo := 28, width := 4, acc := .ro, clr := .blk }
/-- VDC_RAW [13:0] CODE (02): DLI code -/
def SEN.VDC_RAW.CODE : Row :=
  { base := 0x116002C, lo := 0, width := 14, acc := .ro, clr := .blk }
/-- VDC_STAT [31:16] BAD_FRAMES (02): Discarded frames, saturating at 0xFFFF -/
def SEN.VDC_STAT.BAD_FRAMES : Row :=
  { base := 0x1160030, lo := 16, width := 16, acc := .ro, clr := .blk }
/-- VDC_STAT [4:4] XCHK (02): A flag whose condition persists stays set -/
def SEN.VDC_STAT.XCHK : Row :=
  { base := 0x1160030, lo := 4, width := 1, acc := .w1c, clr := .blk }
/-- VDC_STAT [3:3] UV (02): A flag whose condition persists stays set -/
def SEN.VDC_STAT.UV : Row :=
  { base := 0x1160030, lo := 3, width := 1, acc := .w1c, clr := .blk }
/-- VDC_STAT [2:2] OV (02): A flag whose condition persists stays set -/
def SEN.VDC_STAT.OV : Row :=
  { base := 0x1160030, lo := 2, width := 1, acc := .w1c, clr := .blk }
/-- VDC_STAT [1:1] LOST (02): A flag whose condition persists stays set -/
def SEN.VDC_STAT.LOST : Row :=
  { base := 0x1160030, lo := 1, width := 1, acc := .w1c, clr := .blk }
/-- VDC_STAT [0:0] STALE (02): A flag whose condition persists stays set -/
def SEN.VDC_STAT.STALE : Row :=
  { base := 0x1160030, lo := 0, width := 1, acc := .w1c, clr := .blk }
/-- PVR_CFG [24:24] PVR_EN (02): Enables the leg check -/
def SEN.PVR_CFG.PVR_EN : Row :=
  { base := 0x1160034, lo := 24, width := 1, reset := 1, acc := .rwl, clr := .blk }
/-- PVR_CFG [23:16] PV_N (02): Ticks, 1–255 -/
def SEN.PVR_CFG.PV_N : Row :=
  { base := 0x1160034, lo := 16, width := 8, reset := 4, acc := .rwl, clr := .blk, range := some (1, 255) }
/-- PVR_CFG [15:0] PV_TOL (02): Q15 of V_base -/
def SEN.PVR_CFG.PV_TOL : Row :=
  { base := 0x1160034, lo := 0, width := 16, reset := 0x28f, acc := .rwl, clr := .blk }
/-- PVR_STAT [5:0] LEG_MIS (02): Leg mismatch, legs 0–5 -/
def SEN.PVR_STAT.LEG_MIS : Row :=
  { base := 0x1160038, lo := 0, width := 6, acc := .w1c, clr := .blk }
/-- PIT_CTL [31:31] ARM (02): Arms the selected piton; clears after it acts -/
def SEN.PIT_CTL.ARM : Row :=
  { base := 0x116003C, lo := 31, width := 1, acc := .w1s, clr := .blk }
/-- PIT_CTL [10:8] CH (02): Channel or leg, 0–5 -/
def SEN.PIT_CTL.CH : Row :=
  { base := 0x116003C, lo := 8, width := 3, acc := .rw, clr := .blk, range := some (0, 5) }
/-- PIT_CTL [3:0] SEL (02): Piton code (R61); 0 means none -/
def SEN.PIT_CTL.SEL : Row :=
  { base := 0x116003C, lo := 0, width := 4, acc := .rw, clr := .blk }
/-- CH_CFG [23:16] LOSS_WIN (02): Bits, 32–255 -/
def SEN.CH_CFG.LOSS_WIN : Row :=
  { base := 0x1160100, s1 := 0x20, c1 := 6, lo := 16, width := 8, reset := 0x40, acc := .rwl, clr := .blk, range := some (32, 255) }
/-- CH_CFG [11:8] SMP_DLY (02): 2.5 ns steps, 0–15 -/
def SEN.CH_CFG.SMP_DLY : Row :=
  { base := 0x1160100, s1 := 0x20, c1 := 6, lo := 8, width := 4, reset := 4, acc := .rwl, clr := .blk }
/-- CH_CFG [7:5] RANGE_N (02): Samples, 1–7 -/
def SEN.CH_CFG.RANGE_N : Row :=
  { base := 0x1160100, s1 := 0x20, c1 := 6, lo := 5, width := 3, reset := 2, acc := .rwl, clr := .blk, range := some (1, 7) }
/-- CH_CFG [4:4] EDGE (02): 0 rising, 1 falling -/
def SEN.CH_CFG.EDGE : Row :=
  { base := 0x1160100, s1 := 0x20, c1 := 6, lo := 4, width := 1, acc := .rwl, clr := .blk }
/-- CH_CFG [0:0] INV (02): Inverts the bitstream -/
def SEN.CH_CFG.INV : Row :=
  { base := 0x1160100, s1 := 0x20, c1 := 6, lo := 0, width := 1, acc := .rwl, clr := .blk }
/-- CH_OFS [23:16] OFS_LIM (02): 1/256 of full density -/
def SEN.CH_OFS.OFS_LIM : Row :=
  { base := 0x1160104, s1 := 0x20, c1 := 6, lo := 16, width := 8, reset := 5, acc := .rwl, clr := .blk }
/-- CH_OFS [15:0] OFS (02): Signed density offset, Q15 -/
def SEN.CH_OFS.OFS : Row :=
  { base := 0x1160104, s1 := 0x20, c1 := 6, lo := 0, width := 16, acc := .rwl, clr := .blk }
/-- CH_GAIN [31:16] RANGE_LIM (02): Over-range limit, Q15 -/
def SEN.CH_GAIN.RANGE_LIM : Row :=
  { base := 0x1160108, s1 := 0x20, c1 := 6, lo := 16, width := 16, reset := 0x7800, acc := .rwl, clr := .blk }
/-- CH_GAIN [15:0] GAIN (02): Q3.13 -/
def SEN.CH_GAIN.GAIN : Row :=
  { base := 0x1160108, s1 := 0x20, c1 := 6, lo := 0, width := 16, reset := 0x2000, acc := .rwl, clr := .blk }
/-- CH_OC [31:16] OC_HI (02): Signed Q15 -/
def SEN.CH_OC.OC_HI : Row :=
  { base := 0x116010C, s1 := 0x20, c1 := 6, lo := 16, width := 16, reset := 0x7800, acc := .rwl, clr := .blk }
/-- CH_OC [15:0] OC_LO (02): Signed Q15 -/
def SEN.CH_OC.OC_LO : Row :=
  { base := 0x116010C, s1 := 0x20, c1 := 6, lo := 0, width := 16, reset := 0x8800, acc := .rwl, clr := .blk }
/-- CH_VAL [31:16] FAST (02): Latest fast sample -/
def SEN.CH_VAL.FAST : Row :=
  { base := 0x1160110, s1 := 0x20, c1 := 6, lo := 16, width := 16, acc := .ro, clr := .blk }
/-- CH_VAL [15:0] CTRL (02): Latest control sample -/
def SEN.CH_VAL.CTRL : Row :=
  { base := 0x1160110, s1 := 0x20, c1 := 6, lo := 0, width := 16, acc := .ro, clr := .blk }
/-- CH_STAT [7:7] XCHK (02): Copy of the Belay CUR_XCHK for this phase -/
def SEN.CH_STAT.XCHK : Row :=
  { base := 0x1160114, s1 := 0x20, c1 := 6, lo := 7, width := 1, acc := .ro, clr := .blk }
/-- CH_STAT [6:6] SUBST (02): Channel substituted -/
def SEN.CH_STAT.SUBST : Row :=
  { base := 0x1160114, s1 := 0x20, c1 := 6, lo := 6, width := 1, acc := .ro, clr := .blk }
/-- CH_STAT [5:5] OFS_FAIL (02): A flag whose condition persists stays set -/
def SEN.CH_STAT.OFS_FAIL : Row :=
  { base := 0x1160114, s1 := 0x20, c1 := 6, lo := 5, width := 1, acc := .w1c, clr := .blk }
/-- CH_STAT [4:4] OC_LO (02): A flag whose condition persists stays set -/
def SEN.CH_STAT.OC_LO : Row :=
  { base := 0x1160114, s1 := 0x20, c1 := 6, lo := 4, width := 1, acc := .w1c, clr := .blk }
/-- CH_STAT [3:3] OC_HI (02): A flag whose condition persists stays set -/
def SEN.CH_STAT.OC_HI : Row :=
  { base := 0x1160114, s1 := 0x20, c1 := 6, lo := 3, width := 1, acc := .w1c, clr := .blk }
/-- CH_STAT [2:2] OVR (02): A flag whose condition persists stays set -/
def SEN.CH_STAT.OVR : Row :=
  { base := 0x1160114, s1 := 0x20, c1 := 6, lo := 2, width := 1, acc := .w1c, clr := .blk }
/-- CH_STAT [1:1] CLIP (02): A flag whose condition persists stays set -/
def SEN.CH_STAT.CLIP : Row :=
  { base := 0x1160114, s1 := 0x20, c1 := 6, lo := 1, width := 1, acc := .w1c, clr := .blk }
/-- CH_STAT [0:0] BSL (02): A flag whose condition persists stays set -/
def SEN.CH_STAT.BSL : Row :=
  { base := 0x1160114, s1 := 0x20, c1 := 6, lo := 0, width := 1, acc := .w1c, clr := .blk }
/-- Not a register: SAT mark on the channel's fast sample (R44). -/
def SEN.satF : Row :=
  { base := 0x801DFBF8, s1 := 0x4, c1 := 6, lo := 0, width := 1, acc := .hid, clr := .blk }
/-- Not a register: fast sample judged out of range and marked unreliable (R60). -/
def SEN.unrelF : Row :=
  { base := 0x801DFC10, s1 := 0x4, c1 := 6, lo := 0, width := 1, acc := .hid, clr := .blk }
/-- Not a register: conditions of CHn_STAT [5:0] that persist (R48, R49). -/
def SEN.chCond : Row :=
  { base := 0x801DFC28, s1 := 0x4, c1 := 6, lo := 0, width := 6, acc := .hid, clr := .blk }
/-- Not a register: conditions of VDC_STAT [4:0] that persist. -/
def SEN.vdcCond : Row :=
  { base := 0x801DFC40, lo := 0, width := 5, acc := .hid, clr := .blk }
/-- Not a register: consecutive fast samples at or beyond RANGE_LIM (R60). -/
def SEN.ovrF : Row :=
  { base := 0x801DFC44, s1 := 0x4, c1 := 6, lo := 0, width := 3, acc := .hid, clr := .blk }
/-- Not a register: consecutive control samples at or beyond RANGE_LIM (R60). -/
def SEN.ovrC : Row :=
  { base := 0x801DFC5C, s1 := 0x4, c1 := 6, lo := 0, width := 3, acc := .hid, clr := .blk }
/-- Not a register: consecutive ticks with the star's sum beyond SUM_LIM (R50). -/
def SEN.sumRun : Row :=
  { base := 0x801DFC74, s1 := 0x4, c1 := 2, lo := 0, width := 8, acc := .hid, clr := .blk }
/-- Not a register: ticks for which SEN.SUM.PIT still adds to the channel (R61). -/
def SEN.sumPit : Row :=
  { base := 0x801DFC7C, s1 := 0x4, c1 := 6, lo := 0, width := 8, acc := .hid, clr := .blk }
/-- Not a register: sum of control densities of the offset measurement (R46). -/
def SEN.ofsSum : Row :=
  { base := 0x801DFC94, s1 := 0x4, c1 := 6, lo := 0, width := 32, acc := .hid, clr := .blk }
/-- Not a register: control samples of the axis's offset measurement (R46). -/
def SEN.ofsCnt : Row :=
  { base := 0x801DFCAC, s1 := 0x4, c1 := 2, lo := 0, width := 16, acc := .hid, clr := .blk }
/-- Not a register: the channel's bitstream was flagged during the measurement (R47). -/
def SEN.ofsFlag : Row :=
  { base := 0x801DFCB4, s1 := 0x4, c1 := 6, lo := 0, width := 1, acc := .hid, clr := .blk }
/-- Not a register: reconstructed volt-second average of the leg, Q15 of V_base (R56). -/
def SEN.pv : Row :=
  { base := 0x801DFCCC, s1 := 0x4, c1 := 6, lo := 0, width := 16, acc := .hid, clr := .blk }
/-- Not a register: a reconstruction of the star stands for the next OB pass (R90). -/
def SEN.pvNew : Row :=
  { base := 0x801DFCE4, s1 := 0x4, c1 := 2, lo := 0, width := 1, acc := .hid, clr := .blk }
/-- Not a register: line-line peak of the reconstructed phase voltages, Q15 of V_base (R46, R130). -/
def SEN.ell : Row :=
  { base := 0x801DFCEC, s1 := 0x4, c1 := 2, lo := 0, width := 16, acc := .hid, clr := .blk }
/-- Not a register: consecutive ticks in which the leg failed its check (R57). -/
def SEN.pvRun : Row :=
  { base := 0x801DFCF4, s1 := 0x4, c1 := 6, lo := 0, width := 8, acc := .hid, clr := .blk }
/-- Not a register: legs that failed in the latest tick (R57). -/
def SEN.pvFail : Row :=
  { base := 0x801DFD0C, lo := 0, width := 6, acc := .hid, clr := .blk }
/-- Not a register: sign of the failure per leg, 1 sum below V_dc (R57). -/
def SEN.pvSign : Row :=
  { base := 0x801DFD10, lo := 0, width := 6, acc := .hid, clr := .blk }
/-- Not a register: ticks for which SEN.PVR.PIT still offsets the leg (R61). -/
def SEN.pvPit : Row :=
  { base := 0x801DFD14, s1 := 0x4, c1 := 6, lo := 0, width := 8, acc := .hid, clr := .blk }
/-- Not a register: a good V_dc sample has been received since SEN left reset (R46). -/
def SEN.vdcEver : Row :=
  { base := 0x801DFD2C, lo := 0, width := 1, acc := .hid, clr := .blk }
/-- Not a register: DLI frames that SEN.VDC.PIT still discards (R61). -/
def SEN.vdcPit : Row :=
  { base := 0x801DFD30, lo := 0, width := 9, acc := .hid, clr := .blk }
/-- Not a register: SEN has received a DLI frame since PD3 was last powered (R398). -/
def SEN.dliEver : Row :=
  { base := 0x801DFD34, lo := 0, width := 1, acc := .hid, clr := .blk }
/-- Not a register: the last 190 bits of the channel's bitstream after INV, the newest bit 0 (R42). -/
def SEN.hist : Row :=
  { base := 0x806ECCE0, s1 := 0x4, c1 := 6, lo := 0, width := 190, acc := .hid, clr := .blk }
/-- Not a register: identical bits on ISDn_DAT in a row (R48). -/
def SEN.run : Row :=
  { base := 0x806ECCF8, s1 := 0x4, c1 := 6, lo := 0, width := 9, acc := .hid, clr := .blk }
/-- Not a register: the latest bit on ISDn_DAT (R48). -/
def SEN.datLast : Row :=
  { base := 0x806ECD10, s1 := 0x4, c1 := 6, lo := 0, width := 1, acc := .hid, clr := .blk }
/-- Not a register: modulator clocks since CH_EN was set (R43). -/
def SEN.clks : Row :=
  { base := 0x806ECD28, s1 := 0x4, c1 := 6, lo := 0, width := 8, acc := .hid, clr := .blk }
/-- Not a register: modulator clocks for which SEN.BSL.PIT or SEN.CLIP.PIT still forces the bitstream (R61). -/
def SEN.bitPit : Row :=
  { base := 0x806ECD40, s1 := 0x4, c1 := 6, lo := 0, width := 9, acc := .hid, clr := .blk }
/-- Not a register: the level to which it is forced (R61). -/
def SEN.bitLvl : Row :=
  { base := 0x806ECD58, s1 := 0x4, c1 := 6, lo := 0, width := 1, acc := .hid, clr := .blk }
/-- Not a register: modulator clocks into the control window of the axis (R42). -/
def SEN.ctrlClk : Row :=
  { base := 0x806ECD70, s1 := 0x4, c1 := 2, lo := 0, width := 6, acc := .hid, clr := .blk }
/-- Not a register: weighted count of ones of the control window that closed last (R42). -/
def SEN.ctrlRaw : Row :=
  { base := 0x806ECD78, s1 := 0x4, c1 := 6, lo := 0, width := 19, acc := .hid, clr := .blk }
/-- Not a register: a control window has closed and its samples are to be delivered (R42). -/
def SEN.ctrlDue : Row :=
  { base := 0x806ECD90, s1 := 0x4, c1 := 2, lo := 0, width := 1, acc := .hid, clr := .blk }
/-- Not a register: SAT mark on the channel's control sample (R44). -/
def SEN.satC : Row :=
  { base := 0x806ECD98, s1 := 0x4, c1 := 6, lo := 0, width := 1, acc := .hid, clr := .blk }
/-- Not a register: the channel has once been lost (R51), until a reset of SEN. -/
def SEN.lostCh : Row :=
  { base := 0x8078ED40, s1 := 0x4, c1 := 6, lo := 0, width := 1, acc := .hid, clr := .blk }
/-- Not a register: last fast sample without the invalid mark, as the engines read it (R43, R169). -/
def SEN.fastPort : Row :=
  { base := 0x8078ED58, s1 := 0x4, c1 := 6, lo := 0, width := 16, acc := .hid, clr := .blk }
/-- Not a register: VDC_FILT with 32 fraction bits (R58). -/
def SEN.vdcFilt : Row :=
  { base := 0x8078ED70, lo := 0, width := 48, acc := .hid, clr := .blk }
/-- Not a register: control windows that still close until the one centred on the latest reload has (R42, R116). -/
def SEN.ctrlAim : Row :=
  { base := 0x8078EDD0, s1 := 0x4, c1 := 2, lo := 0, width := 2, acc := .hid, clr := .blk }
/-- Not a register: the control window that closed last is centred on a reload (R116). -/
def SEN.ctrlMid : Row :=
  { base := 0x8078EDD8, s1 := 0x4, c1 := 2, lo := 0, width := 1, acc := .hid, clr := .blk }
/-- Rows of SEN, part 0. -/
def SEN.rows0 : List Row :=
  [SEN.CTL.LOCK, SEN.CTL.RECON_EN, SEN.CTL.AUTO_OFS, SEN.CTL.CH_EN, SEN.CTRL_PHASE.PH_B, SEN.CTRL_PHASE.PH_A, SEN.SUM_CFG.SUM_LIM, SEN.SUM_CFG.SUM_N, SEN.OFS_CMD.OFS_LEN, SEN.OFS_CMD.START_B, SEN.OFS_CMD.START_A, SEN.STATUS.CFG_REJECT, SEN.STATUS.SUM, SEN.STATUS.OFS_DONE, SEN.STATUS.CH_VALID, SEN.STATUS.SUBST, SEN.STATUS.CH_FAULT, SEN.VDC_CFG.LOST_US, SEN.VDC_CFG.STALE_US, SEN.VDC_CFG.TAU, SEN.VDC_LIM.OV, SEN.VDC_LIM.UV, SEN.VDC_VAL.FAST, SEN.VDC_VAL.FILT, SEN.VDC_RAW.SEQ, SEN.VDC_RAW.CODE, SEN.VDC_STAT.BAD_FRAMES, SEN.VDC_STAT.XCHK, SEN.VDC_STAT.UV, SEN.VDC_STAT.OV, SEN.VDC_STAT.LOST, SEN.VDC_STAT.STALE, SEN.PVR_CFG.PVR_EN, SEN.PVR_CFG.PV_N, SEN.PVR_CFG.PV_TOL, SEN.PVR_STAT.LEG_MIS, SEN.PIT_CTL.ARM, SEN.PIT_CTL.CH, SEN.PIT_CTL.SEL, SEN.CH_CFG.LOSS_WIN]
/-- Rows of SEN, part 1. -/
def SEN.rows1 : List Row :=
  [SEN.CH_CFG.SMP_DLY, SEN.CH_CFG.RANGE_N, SEN.CH_CFG.EDGE, SEN.CH_CFG.INV, SEN.CH_OFS.OFS_LIM, SEN.CH_OFS.OFS, SEN.CH_GAIN.RANGE_LIM, SEN.CH_GAIN.GAIN, SEN.CH_OC.OC_HI, SEN.CH_OC.OC_LO, SEN.CH_VAL.FAST, SEN.CH_VAL.CTRL, SEN.CH_STAT.XCHK, SEN.CH_STAT.SUBST, SEN.CH_STAT.OFS_FAIL, SEN.CH_STAT.OC_LO, SEN.CH_STAT.OC_HI, SEN.CH_STAT.OVR, SEN.CH_STAT.CLIP, SEN.CH_STAT.BSL, SEN.satF, SEN.unrelF, SEN.chCond, SEN.vdcCond, SEN.ovrF, SEN.ovrC, SEN.sumRun, SEN.sumPit, SEN.ofsSum, SEN.ofsCnt, SEN.ofsFlag, SEN.pv, SEN.pvNew, SEN.ell, SEN.pvRun, SEN.pvFail, SEN.pvSign, SEN.pvPit, SEN.vdcEver, SEN.vdcPit]
/-- Rows of SEN, part 2. -/
def SEN.rows2 : List Row :=
  [SEN.dliEver, SEN.hist, SEN.run, SEN.datLast, SEN.clks, SEN.bitPit, SEN.bitLvl, SEN.ctrlClk, SEN.ctrlRaw, SEN.ctrlDue, SEN.satC, SEN.lostCh, SEN.fastPort, SEN.vdcFilt, SEN.ctrlAim, SEN.ctrlMid]
/-- Every row of SEN. -/
def SEN.rows : List Row := SEN.rows0 ++ SEN.rows1 ++ SEN.rows2

/-- CTL [31:31] LOCK (03): Locks every RWL field of POS -/
def POS.CTL.LOCK : Row :=
  { base := 0x1170000, lo := 31, width := 1, acc := .w1s, clr := .blk }
/-- CTL [30:30] CFG_REJECT (03): A refused write or command (R71, R83) -/
def POS.CTL.CFG_REJECT : Row :=
  { base := 0x1170000, lo := 30, width := 1, acc := .w1c, clr := .blk }
/-- CTL [3:0] SRC_EN (03): INC_B, ABS_B, INC_A, ABS_A; loaded from the context entries at ENABLE and REFRESH -/
def POS.CTL.SRC_EN : Row :=
  { base := 0x1170000, lo := 0, width := 4, acc := .ro, clr := .blk }
/-- PIT_CTL [31:31] ARM (03): Arms the selected piton; clears after it acts -/
def POS.PIT_CTL.ARM : Row :=
  { base := 0x1170004, lo := 31, width := 1, acc := .w1s, clr := .blk }
/-- PIT_CTL [8:8] AXIS (03): 0 axis A, 1 axis B -/
def POS.PIT_CTL.AXIS : Row :=
  { base := 0x1170004, lo := 8, width := 1, acc := .rw, clr := .blk }
/-- PIT_CTL [3:0] SEL (03): Piton code (R85); 0 means none -/
def POS.PIT_CTL.SEL : Row :=
  { base := 0x1170004, lo := 0, width := 4, acc := .rw, clr := .blk }
/-- CAP_CFG [31:24] REQ_PER (03): Request period in decision ticks, 10–255 -/
def POS.CAP_CFG.REQ_PER : Row :=
  { base := 0x1170100, s1 := 0x80, c1 := 2, lo := 24, width := 8, reset := 0x19, acc := .rwl, clr := .blk, range := some (10, 255) }
/-- CAP_CFG [21:16] WLEN (03): Word length, 12–32 -/
def POS.CAP_CFG.WLEN : Row :=
  { base := 0x1170100, s1 := 0x80, c1 := 2, lo := 16, width := 6, reset := 0x14, acc := .rwl, clr := .blk, range := some (12, 32) }
/-- CAP_CFG [15:8] CLK_DIV (03): f = 400 MHz / (2 × CLK_DIV), 20–200 -/
def POS.CAP_CFG.CLK_DIV : Row :=
  { base := 0x1170100, s1 := 0x80, c1 := 2, lo := 8, width := 8, reset := 0x28, acc := .rwl, clr := .blk, range := some (20, 200) }
/-- CAP_CFG [7:4] INV_N (03): Discarded frames to ABS_LOST, 1–15 -/
def POS.CAP_CFG.INV_N : Row :=
  { base := 0x1170100, s1 := 0x80, c1 := 2, lo := 4, width := 4, reset := 3, acc := .rwl, clr := .blk, range := some (1, 15) }
/-- CAP_CFG [0:0] GRAY (03): 1 = word is Gray coded -/
def POS.CAP_CFG.GRAY : Row :=
  { base := 0x1170100, s1 := 0x80, c1 := 2, lo := 0, width := 1, acc := .rwl, clr := .blk }
/-- CAP_TIM [31:20] SENS_LAT (03): Sensor latch delay, 2.5 ns steps -/
def POS.CAP_TIM.SENS_LAT : Row :=
  { base := 0x1170104, s1 := 0x80, c1 := 2, lo := 20, width := 12, acc := .rwl, clr := .blk }
/-- CAP_TIM [15:8] RX_DLY (03): START delay behind the rising clock edge, 2.5 ns -/
def POS.CAP_TIM.RX_DLY : Row :=
  { base := 0x1170104, s1 := 0x80, c1 := 2, lo := 8, width := 8, acc := .ro, clr := .blk }
/-- CAP_TIM [5:0] REC (03): Recovery time, 250 ns steps, 0–63 -/
def POS.CAP_TIM.REC : Row :=
  { base := 0x1170104, s1 := 0x80, c1 := 2, lo := 0, width := 6, reset := 4, acc := .rwl, clr := .blk }
/-- CAP_WORD [31:0] WORD (03): Latest valid word, right-aligned, binary -/
def POS.CAP_WORD.WORD : Row :=
  { base := 0x1170108, s1 := 0x80, c1 := 2, lo := 0, width := 32, acc := .ro, clr := .blk }
/-- CAP_STAT [31:24] CRC_CNT (03): CRC failures, saturating -/
def POS.CAP_STAT.CRC_CNT : Row :=
  { base := 0x117010C, s1 := 0x80, c1 := 2, lo := 24, width := 8, acc := .ro, clr := .blk }
/-- CAP_STAT [23:16] TMO_CNT (03): Timeouts, saturating -/
def POS.CAP_STAT.TMO_CNT : Row :=
  { base := 0x117010C, s1 := 0x80, c1 := 2, lo := 16, width := 8, acc := .ro, clr := .blk }
/-- CAP_STAT [15:8] SKIP (03): Skipped requests, saturating -/
def POS.CAP_STAT.SKIP : Row :=
  { base := 0x117010C, s1 := 0x80, c1 := 2, lo := 8, width := 8, acc := .ro, clr := .blk }
/-- CAP_STAT [7:7] LINE_FLT (03): ABS_LOST and a LINE_FLT whose condition persists stay set -/
def POS.CAP_STAT.LINE_FLT : Row :=
  { base := 0x117010C, s1 := 0x80, c1 := 2, lo := 7, width := 1, acc := .w1c, clr := .blk }
/-- CAP_STAT [6:6] ABS_LOST (03): ABS_LOST and a LINE_FLT whose condition persists stay set -/
def POS.CAP_STAT.ABS_LOST : Row :=
  { base := 0x117010C, s1 := 0x80, c1 := 2, lo := 6, width := 1, acc := .w1c, clr := .blk }
/-- CAP_STAT [5:5] SENS_WRN (03): ABS_LOST and a LINE_FLT whose condition persists stay set -/
def POS.CAP_STAT.SENS_WRN : Row :=
  { base := 0x117010C, s1 := 0x80, c1 := 2, lo := 5, width := 1, acc := .w1c, clr := .blk }
/-- CAP_STAT [4:4] SENS_ERR (03): ABS_LOST and a LINE_FLT whose condition persists stay set -/
def POS.CAP_STAT.SENS_ERR : Row :=
  { base := 0x117010C, s1 := 0x80, c1 := 2, lo := 4, width := 1, acc := .w1c, clr := .blk }
/-- CAP_STAT [3:3] TMO (03): ABS_LOST and a LINE_FLT whose condition persists stay set -/
def POS.CAP_STAT.TMO : Row :=
  { base := 0x117010C, s1 := 0x80, c1 := 2, lo := 3, width := 1, acc := .w1c, clr := .blk }
/-- CAP_STAT [2:2] CRC (03): ABS_LOST and a LINE_FLT whose condition persists stay set -/
def POS.CAP_STAT.CRC : Row :=
  { base := 0x117010C, s1 := 0x80, c1 := 2, lo := 2, width := 1, acc := .w1c, clr := .blk }
/-- CAP_STAT [1:1] VALID (03): A valid word within 2 × REQ_PER -/
def POS.CAP_STAT.VALID : Row :=
  { base := 0x117010C, s1 := 0x80, c1 := 2, lo := 1, width := 1, acc := .ro, clr := .blk }
/-- CAP_STAT [0:0] BUSY (03): Frame, wait or recovery running -/
def POS.CAP_STAT.BUSY : Row :=
  { base := 0x117010C, s1 := 0x80, c1 := 2, lo := 0, width := 1, acc := .ro, clr := .blk }
/-- CAP_SCL [21:16] ST_BITS (03): Single-turn bits in the word, 8–32 (R67) -/
def POS.CAP_SCL.ST_BITS : Row :=
  { base := 0x117014C, s1 := 0x80, c1 := 2, lo := 16, width := 6, reset := 0x14, acc := .rwl, clr := .blk, range := some (8, 32) }
/-- CAP_SCL [12:8] ST_POS (03): Bit position of the single-turn field's LSB in CAP_WORD, 0–24 -/
def POS.CAP_SCL.ST_POS : Row :=
  { base := 0x117014C, s1 := 0x80, c1 := 2, lo := 8, width := 5, acc := .rwl, clr := .blk, range := some (0, 24) }
/-- CAP_SCL [0:0] DIR_INV (03): 1 = the angle counts down as the word counts up -/
def POS.CAP_SCL.DIR_INV : Row :=
  { base := 0x117014C, s1 := 0x80, c1 := 2, lo := 0, width := 1, acc := .rwl, clr := .blk }
/-- INC_CFG [31:24] IDX_TOL (03): Counts, 1–255 -/
def POS.INC_CFG.IDX_TOL : Row :=
  { base := 0x1170110, s1 := 0x80, c1 := 2, lo := 24, width := 8, reset := 4, acc := .rwl, clr := .blk, range := some (1, 255) }
/-- INC_CFG [21:16] FILT (03): 2.5 ns steps, 0–63 -/
def POS.INC_CFG.FILT : Row :=
  { base := 0x1170110, s1 := 0x80, c1 := 2, lo := 16, width := 6, reset := 8, acc := .rwl, clr := .blk }
/-- INC_CFG [8:8] Z_EN (03): Enables the index -/
def POS.INC_CFG.Z_EN : Row :=
  { base := 0x1170110, s1 := 0x80, c1 := 2, lo := 8, width := 1, reset := 1, acc := .rwl, clr := .blk }
/-- INC_CFG [4:4] SWAP (03): Exchanges A and B -/
def POS.INC_CFG.SWAP : Row :=
  { base := 0x1170110, s1 := 0x80, c1 := 2, lo := 4, width := 1, acc := .rwl, clr := .blk }
/-- INC_CFG [0:0] Z_INV (03): Falling edge of Z is active -/
def POS.INC_CFG.Z_INV : Row :=
  { base := 0x1170110, s1 := 0x80, c1 := 2, lo := 0, width := 1, acc := .rwl, clr := .blk }
/-- INC_CPR [23:0] CPR (03): Counts per turn, 16–16 777 215 -/
def POS.INC_CPR.CPR : Row :=
  { base := 0x1170114, s1 := 0x80, c1 := 2, lo := 0, width := 24, reset := 0x1000, acc := .rwl, clr := .blk, range := some (16, 16777215) }
/-- INC_COUNT [31:0] COUNT (03): Free-running signed count, wraps -/
def POS.INC_COUNT.COUNT : Row :=
  { base := 0x1170118, s1 := 0x80, c1 := 2, lo := 0, width := 32, acc := .ro, clr := .blk }
/-- INC_POS [23:0] POS (03): Count modulo CPR -/
def POS.INC_POS.POS : Row :=
  { base := 0x117011C, s1 := 0x80, c1 := 2, lo := 0, width := 24, acc := .ro, clr := .blk }
/-- IDX_LAT [23:0] LAT (03): INC_POS at the latest index -/
def POS.IDX_LAT.LAT : Row :=
  { base := 0x1170120, s1 := 0x80, c1 := 2, lo := 0, width := 24, acc := .ro, clr := .blk }
/-- IDX_REF [31:31] REREF (03): Clears REF_VALID; refused while the axis is enabled -/
def POS.IDX_REF.REREF : Row :=
  { base := 0x1170124, s1 := 0x80, c1 := 2, lo := 31, width := 1, acc := .w1s, clr := .blk }
/-- IDX_REF [30:30] REF_VALID (03): Reference index seen -/
def POS.IDX_REF.REF_VALID : Row :=
  { base := 0x1170124, s1 := 0x80, c1 := 2, lo := 30, width := 1, acc := .ro, clr := .blk }
/-- IDX_REF [23:0] REF (03): INC_POS at the reference index -/
def POS.IDX_REF.REF : Row :=
  { base := 0x1170124, s1 := 0x80, c1 := 2, lo := 0, width := 24, acc := .ro, clr := .blk }
/-- INC_STAT [31:24] ILL_CNT (03): Illegal transitions, saturating -/
def POS.INC_STAT.ILL_CNT : Row :=
  { base := 0x1170128, s1 := 0x80, c1 := 2, lo := 24, width := 8, acc := .ro, clr := .blk }
/-- INC_STAT [7:7] LINE_FLT (03): A LINE_FLT whose condition persists stays set -/
def POS.INC_STAT.LINE_FLT : Row :=
  { base := 0x1170128, s1 := 0x80, c1 := 2, lo := 7, width := 1, acc := .w1c, clr := .blk }
/-- INC_STAT [6:6] RATE (03): A LINE_FLT whose condition persists stays set -/
def POS.INC_STAT.RATE : Row :=
  { base := 0x1170128, s1 := 0x80, c1 := 2, lo := 6, width := 1, acc := .w1c, clr := .blk }
/-- INC_STAT [5:5] INDEX_DRIFT (03): A LINE_FLT whose condition persists stays set -/
def POS.INC_STAT.INDEX_DRIFT : Row :=
  { base := 0x1170128, s1 := 0x80, c1 := 2, lo := 5, width := 1, acc := .w1c, clr := .blk }
/-- INC_STAT [4:4] ILLEGAL (03): A LINE_FLT whose condition persists stays set -/
def POS.INC_STAT.ILLEGAL : Row :=
  { base := 0x1170128, s1 := 0x80, c1 := 2, lo := 4, width := 1, acc := .w1c, clr := .blk }
/-- INC_STAT [3:3] DIR_CHG (03): A LINE_FLT whose condition persists stays set -/
def POS.INC_STAT.DIR_CHG : Row :=
  { base := 0x1170128, s1 := 0x80, c1 := 2, lo := 3, width := 1, acc := .w1c, clr := .blk }
/-- INC_STAT [2:2] DIR (03): 0 forward, 1 reverse -/
def POS.INC_STAT.DIR : Row :=
  { base := 0x1170128, s1 := 0x80, c1 := 2, lo := 2, width := 1, acc := .ro, clr := .blk }
/-- INC_STAT [1:1] ALIGNED (03): INC_OFS set -/
def POS.INC_STAT.ALIGNED : Row :=
  { base := 0x1170128, s1 := 0x80, c1 := 2, lo := 1, width := 1, acc := .ro, clr := .blk }
/-- INC_STAT [0:0] STILL (03): Standstill -/
def POS.INC_STAT.STILL : Row :=
  { base := 0x1170128, s1 := 0x80, c1 := 2, lo := 0, width := 1, reset := 1, acc := .ro, clr := .blk }
/-- ANG_OFS [31:16] ABS_OFS (03): Electrical angle added to the scaled word -/
def POS.ANG_OFS.ABS_OFS : Row :=
  { base := 0x117012C, s1 := 0x80, c1 := 2, lo := 16, width := 16, acc := .rwl, clr := .blk }
/-- ANG_OFS [15:0] ZOFS (03): Electrical angle at the index -/
def POS.ANG_OFS.ZOFS : Row :=
  { base := 0x117012C, s1 := 0x80, c1 := 2, lo := 0, width := 16, acc := .rwl, clr := .blk }
/-- ANG_VAL [31:16] ANG_INC (03): Extrapolated incremental angle, Q16 -/
def POS.ANG_VAL.ANG_INC : Row :=
  { base := 0x1170130, s1 := 0x80, c1 := 2, lo := 16, width := 16, acc := .ro, clr := .blk }
/-- ANG_VAL [15:0] ANG_ABS (03): Extrapolated absolute angle, Q16 -/
def POS.ANG_VAL.ANG_ABS : Row :=
  { base := 0x1170130, s1 := 0x80, c1 := 2, lo := 0, width := 16, acc := .ro, clr := .blk }
/-- SPD_CFG [23:16] STILL_MS (03): ms, 1–255 -/
def POS.SPD_CFG.STILL_MS : Row :=
  { base := 0x1170134, s1 := 0x80, c1 := 2, lo := 16, width := 8, reset := 0x32, acc := .rwl, clr := .blk, range := some (1, 255) }
/-- SPD_CFG [1:0] K_SEL (03): 0b00 K = 1, 0b01 K = 2, 0b10 K = 4 -/
def POS.SPD_CFG.K_SEL : Row :=
  { base := 0x1170134, s1 := 0x80, c1 := 2, lo := 0, width := 2, reset := 2, acc := .rwl, clr := .blk, range := some (0, 2) }
/-- SPD_VAL [31:16] SPD_INC (03): Q15 of ω_base -/
def POS.SPD_VAL.SPD_INC : Row :=
  { base := 0x1170138, s1 := 0x80, c1 := 2, lo := 16, width := 16, acc := .ro, clr := .blk }
/-- SPD_VAL [15:0] SPD_ABS (03): Q15 of ω_base -/
def POS.SPD_VAL.SPD_ABS : Row :=
  { base := 0x1170138, s1 := 0x80, c1 := 2, lo := 0, width := 16, acc := .ro, clr := .blk }
/-- XCHK_CFG [31:16] ANG_TOL (03): Q16 electrical, 0–0x7FFF -/
def POS.XCHK_CFG.ANG_TOL : Row :=
  { base := 0x117013C, s1 := 0x80, c1 := 2, lo := 16, width := 16, reset := 0x71c, acc := .rwl, clr := .blk, range := some (0, 32767) }
/-- XCHK_CFG [15:8] ANG_N (03): Ticks, 1–255 -/
def POS.XCHK_CFG.ANG_N : Row :=
  { base := 0x117013C, s1 := 0x80, c1 := 2, lo := 8, width := 8, reset := 0x20, acc := .rwl, clr := .blk, range := some (1, 255) }
/-- XCHK_CFG [1:0] PRI (03): Source offered to the control path (R81) -/
def POS.XCHK_CFG.PRI : Row :=
  { base := 0x117013C, s1 := 0x80, c1 := 2, lo := 0, width := 2, reset := 1, acc := .rwl, clr := .blk, range := some (0, 2) }
/-- XCHK_STAT [24:24] PRI_SUBST (03): Substitute source in use -/
def POS.XCHK_STAT.PRI_SUBST : Row :=
  { base := 0x1170140, s1 := 0x80, c1 := 2, lo := 24, width := 1, acc := .ro, clr := .blk }
/-- XCHK_STAT [20:16] MIS (03): Disagreement, sources INC2, ABS2, SLS, INC, ABS -/
def POS.XCHK_STAT.MIS : Row :=
  { base := 0x1170140, s1 := 0x80, c1 := 2, lo := 16, width := 5, acc := .w1c, clr := .blk }
/-- XCHK_STAT [12:8] LOST (03): Source lost, same order; held until reset -/
def POS.XCHK_STAT.LOST : Row :=
  { base := 0x1170140, s1 := 0x80, c1 := 2, lo := 8, width := 5, acc := .ro, clr := .blk }
/-- XCHK_STAT [4:0] VALID (03): Source valid, same order -/
def POS.XCHK_STAT.VALID : Row :=
  { base := 0x1170140, s1 := 0x80, c1 := 2, lo := 0, width := 5, acc := .ro, clr := .blk }
/-- PTO_CFG [31:16] PTO_LINES (03): Lines per mechanical turn, 1–32 768 -/
def POS.PTO_CFG.PTO_LINES : Row :=
  { base := 0x1170144, s1 := 0x80, c1 := 2, lo := 16, width := 16, reset := 0x400, acc := .rwl, clr := .blk, range := some (1, 32768) }
/-- PTO_CFG [15:15] LAG (03): Synthesised output lagging -/
def POS.PTO_CFG.LAG : Row :=
  { base := 0x1170144, s1 := 0x80, c1 := 2, lo := 15, width := 1, acc := .w1c, clr := .blk }
/-- PTO_CFG [14:14] SRC_LOST (03): Source invalid; outputs held -/
def POS.PTO_CFG.SRC_LOST : Row :=
  { base := 0x1170144, s1 := 0x80, c1 := 2, lo := 14, width := 1, acc := .ro, clr := .blk }
/-- PTO_CFG [8:8] Z_EN (03): Outputs Z -/
def POS.PTO_CFG.Z_EN : Row :=
  { base := 0x1170144, s1 := 0x80, c1 := 2, lo := 8, width := 1, reset := 1, acc := .rwl, clr := .blk }
/-- PTO_CFG [5:4] SRC (03): Source (R82) -/
def POS.PTO_CFG.SRC : Row :=
  { base := 0x1170144, s1 := 0x80, c1 := 2, lo := 4, width := 2, acc := .rwl, clr := .blk }
/-- ALIGN [31:16] INC_OFS (03): Incremental angle offset -/
def POS.ALIGN.INC_OFS : Row :=
  { base := 0x1170148, s1 := 0x80, c1 := 2, lo := 16, width := 16, acc := .ro, clr := .blk }
/-- ALIGN [1:0] ALIGN_SRC (03): 0 none, 1 absolute word, 2 index, 3 estimator -/
def POS.ALIGN.ALIGN_SRC : Row :=
  { base := 0x1170148, s1 := 0x80, c1 := 2, lo := 0, width := 2, acc := .ro, clr := .blk }
/-- Not a register: electrical angle offered to the control path (R81). -/
def POS.offAng : Row :=
  { base := 0x801DFD38, s1 := 0x4, c1 := 2, lo := 0, width := 16, acc := .hid, clr := .blk }
/-- Not a register: speed offered to the control path (R81, R75). -/
def POS.offSpd : Row :=
  { base := 0x801DFD40, s1 := 0x4, c1 := 2, lo := 0, width := 16, acc := .hid, clr := .blk }
/-- Not a register: consecutive discarded CAP frames (R65). -/
def POS.discards : Row :=
  { base := 0x801DFD48, s1 := 0x4, c1 := 2, lo := 0, width := 4, acc := .hid, clr := .blk }
/-- Not a register: mechanical angle of the latest valid word (R67). -/
def POS.thM : Row :=
  { base := 0x801DFD50, s1 := 0x4, c1 := 2, lo := 0, width := 16, acc := .hid, clr := .blk }
/-- Not a register: electrical angle of the latest valid word at its sample instant (R67). -/
def POS.thWord : Row :=
  { base := 0x801DFD58, s1 := 0x4, c1 := 2, lo := 0, width := 16, acc := .hid, clr := .blk }
/-- Not a register: sample instant of the latest valid word, device time (R76). -/
def POS.wordT : Row :=
  { base := 0x801DFD60, s1 := 0x4, c1 := 2, lo := 0, width := 64, acc := .hid, clr := .blk }
/-- Not a register: the latest frame was valid: the next valid word gives SPD_ABS (R75). -/
def POS.wordRow : Row :=
  { base := 0x801DFD68, s1 := 0x4, c1 := 2, lo := 0, width := 1, acc := .hid, clr := .blk }
/-- Not a register: decision ticks since the latest valid word (R78). -/
def POS.wordAge : Row :=
  { base := 0x801DFD70, s1 := 0x4, c1 := 2, lo := 0, width := 16, reset := 0xffff, acc := .hid, clr := .blk }
/-- Not a register: frames whose CRC POS.CRC.PIT still spoils (R85). -/
def POS.crcPit : Row :=
  { base := 0x801DFD78, s1 := 0x4, c1 := 2, lo := 0, width := 4, acc := .hid, clr := .blk }
/-- Not a register: POS.TMO.PIT suppresses START of the frame in progress (R85). -/
def POS.tmoPit : Row :=
  { base := 0x801DFD80, s1 := 0x4, c1 := 2, lo := 0, width := 1, acc := .hid, clr := .blk }
/-- Not a register: device times of the last four A/B edges, newest first (R74). -/
def POS.edgeT : Row :=
  { base := 0x801DFD88, s1 := 0x10, c1 := 2, s2 := 0x4, c2 := 4, lo := 0, width := 64, acc := .hid, clr := .blk }
/-- Not a register: edges since the first edge after standstill or reversal, up to 5 (R74). -/
def POS.edgeN : Row :=
  { base := 0x801DFDA8, s1 := 0x4, c1 := 2, lo := 0, width := 3, acc := .hid, clr := .blk }
/-- Not a register: magnitude of the last interval speed, Q15 of ω_base (R74). -/
def POS.spdLast : Row :=
  { base := 0x801DFDB0, s1 := 0x4, c1 := 2, lo := 0, width := 16, acc := .hid, clr := .blk }
/-- Not a register: the next index is the reference (R71); it resets to 1, so that the first index after a reset, before any ENABLE or
REREF, becomes the reference too: R71 names only these two (DESIGN CHOICE, log entry 37). -/
def POS.idxWait : Row :=
  { base := 0x801DFDB8, s1 := 0x4, c1 := 2, lo := 0, width := 1, reset := 1, acc := .hid, clr := .blk }
/-- Not a register: LINE_FLT conditions: bit 0 A or B, bit 1 Z (R72). -/
def POS.lfInc : Row :=
  { base := 0x801DFDC0, s1 := 0x4, c1 := 2, lo := 0, width := 2, acc := .hid, clr := .blk }
/-- Not a register: LINE_FLT condition of the CAP data line (R72). -/
def POS.lfCap : Row :=
  { base := 0x801DFDC8, s1 := 0x4, c1 := 2, lo := 0, width := 1, acc := .hid, clr := .blk }
/-- Not a register: ticks for which sources i and j disagree in angle, element 5 i + j (R78). -/
def POS.pairA : Row :=
  { base := 0x801DFDD0, s1 := 0x64, c1 := 2, s2 := 0x4, c2 := 25, lo := 0, width := 8, acc := .hid, clr := .blk }
/-- Not a register: the same in speed (R78). -/
def POS.pairS : Row :=
  { base := 0x801DFE98, s1 := 0x64, c1 := 2, s2 := 0x4, c2 := 25, lo := 0, width := 8, acc := .hid, clr := .blk }
/-- Not a register: ticks for which POS.XCHK.PIT still offsets ANG_ABS (R85). -/
def POS.xchkPit : Row :=
  { base := 0x801DFF60, s1 := 0x4, c1 := 2, lo := 0, width := 8, acc := .hid, clr := .blk }
/-- Not a register: angle travelled by the synthesised pass-through source, signed, in Q16 electrical turns (R82). -/
def POS.ptoAcc : Row :=
  { base := 0x801DFF68, s1 := 0x4, c1 := 2, lo := 0, width := 48, acc := .hid, clr := .blk }
/-- Not a register: angle of the pass-through source at the last tick (R82). -/
def POS.ptoLast : Row :=
  { base := 0x801DFF70, s1 := 0x4, c1 := 2, lo := 0, width := 16, acc := .hid, clr := .blk }
/-- Not a register: quadrature edges put out at PTOn, signed: the output levels are its two low bits in Gray code (R82). -/
def POS.ptoCnt : Row :=
  { base := 0x801DFF78, s1 := 0x4, c1 := 2, lo := 0, width := 32, acc := .hid, clr := .blk }
/-- Not a register: SAT mark of SPD_ABS (0) and SPD_INC (1) (R62). -/
def POS.spdSat : Row :=
  { base := 0x801DFF80, s1 := 0x8, c1 := 2, s2 := 0x4, c2 := 2, lo := 0, width := 1, acc := .hid, clr := .blk }
/-- Not a register: Z pulses put out at PTOn (R82). -/
def POS.ptoZ : Row :=
  { base := 0x801DFF90, s1 := 0x4, c1 := 2, lo := 0, width := 32, acc := .hid, clr := .blk }
/-- Not a register: the PTO drivers are high-impedance (R82). -/
def POS.ptoOff : Row :=
  { base := 0x801DFF98, s1 := 0x4, c1 := 2, lo := 0, width := 1, reset := 1, acc := .hid, clr := .blk }
/-- Not a register: an A or B edge has been seen (R69). -/
def POS.edgeEver : Row :=
  { base := 0x806ECDD0, s1 := 0x4, c1 := 2, lo := 0, width := 1, acc := .hid, clr := .blk }
/-- Not a register: levels of the filtered A and B lines as a place in the quadrature cycle (R69, R82). -/
def POS.lineQ : Row :=
  { base := 0x806ECDD8, s1 := 0x4, c1 := 2, lo := 0, width := 2, acc := .hid, clr := .blk }
/-- Not a register: LINE_FLT has been set on account of A or B and not been cleared (R78). -/
def POS.lfAB : Row :=
  { base := 0x806ECDE0, s1 := 0x4, c1 := 2, lo := 0, width := 1, acc := .hid, clr := .blk }
/-- Rows of POS, part 0. -/
def POS.rows0 : List Row :=
  [POS.CTL.LOCK, POS.CTL.CFG_REJECT, POS.CTL.SRC_EN, POS.PIT_CTL.ARM, POS.PIT_CTL.AXIS, POS.PIT_CTL.SEL, POS.CAP_CFG.REQ_PER, POS.CAP_CFG.WLEN, POS.CAP_CFG.CLK_DIV, POS.CAP_CFG.INV_N, POS.CAP_CFG.GRAY, POS.CAP_TIM.SENS_LAT, POS.CAP_TIM.RX_DLY, POS.CAP_TIM.REC, POS.CAP_WORD.WORD, POS.CAP_STAT.CRC_CNT, POS.CAP_STAT.TMO_CNT, POS.CAP_STAT.SKIP, POS.CAP_STAT.LINE_FLT, POS.CAP_STAT.ABS_LOST, POS.CAP_STAT.SENS_WRN, POS.CAP_STAT.SENS_ERR, POS.CAP_STAT.TMO, POS.CAP_STAT.CRC, POS.CAP_STAT.VALID, POS.CAP_STAT.BUSY, POS.CAP_SCL.ST_BITS, POS.CAP_SCL.ST_POS, POS.CAP_SCL.DIR_INV, POS.INC_CFG.IDX_TOL, POS.INC_CFG.FILT, POS.INC_CFG.Z_EN, POS.INC_CFG.SWAP, POS.INC_CFG.Z_INV, POS.INC_CPR.CPR, POS.INC_COUNT.COUNT, POS.INC_POS.POS, POS.IDX_LAT.LAT, POS.IDX_REF.REREF, POS.IDX_REF.REF_VALID]
/-- Rows of POS, part 1. -/
def POS.rows1 : List Row :=
  [POS.IDX_REF.REF, POS.INC_STAT.ILL_CNT, POS.INC_STAT.LINE_FLT, POS.INC_STAT.RATE, POS.INC_STAT.INDEX_DRIFT, POS.INC_STAT.ILLEGAL, POS.INC_STAT.DIR_CHG, POS.INC_STAT.DIR, POS.INC_STAT.ALIGNED, POS.INC_STAT.STILL, POS.ANG_OFS.ABS_OFS, POS.ANG_OFS.ZOFS, POS.ANG_VAL.ANG_INC, POS.ANG_VAL.ANG_ABS, POS.SPD_CFG.STILL_MS, POS.SPD_CFG.K_SEL, POS.SPD_VAL.SPD_INC, POS.SPD_VAL.SPD_ABS, POS.XCHK_CFG.ANG_TOL, POS.XCHK_CFG.ANG_N, POS.XCHK_CFG.PRI, POS.XCHK_STAT.PRI_SUBST, POS.XCHK_STAT.MIS, POS.XCHK_STAT.LOST, POS.XCHK_STAT.VALID, POS.PTO_CFG.PTO_LINES, POS.PTO_CFG.LAG, POS.PTO_CFG.SRC_LOST, POS.PTO_CFG.Z_EN, POS.PTO_CFG.SRC, POS.ALIGN.INC_OFS, POS.ALIGN.ALIGN_SRC, POS.offAng, POS.offSpd, POS.discards, POS.thM, POS.thWord, POS.wordT, POS.wordRow, POS.wordAge]
/-- Rows of POS, part 2. -/
def POS.rows2 : List Row :=
  [POS.crcPit, POS.tmoPit, POS.edgeT, POS.edgeN, POS.spdLast, POS.idxWait, POS.lfInc, POS.lfCap, POS.pairA, POS.pairS, POS.xchkPit, POS.ptoAcc, POS.ptoLast, POS.ptoCnt, POS.spdSat, POS.ptoZ, POS.ptoOff, POS.edgeEver, POS.lineQ, POS.lfAB]
/-- Every row of POS. -/
def POS.rows : List Row := POS.rows0 ++ POS.rows1 ++ POS.rows2

end Sys2Proof.Machine
end

