-- ==== Sys2Proof/Machine/State.lean ====
section
/-!
DEFINITION. The state of the block as plain data, and its state after reset.

Every field of a register table, and every counter, timer, mode, latch and bank that the spec gives the module
beside its registers, is a named row (Machine/Regs*.lean) whose value stands in `regs`. What has no fixed shape
(queues, descriptors in progress, frames, logs, what the module has sent) stands in a field of its own.
-/
namespace Sys2Proof.Machine

/-- An event record (R270). -/
structure Event where
  /-- Device time of detection. -/
  time : Nat
  /-- Instance: axis, island, channel, phase or ring. -/
  inst : Nat
  /-- Bits [23:16] of the block's BAR0 offset. -/
  source : Nat
  /-- The event's code. -/
  code : Nat
  /-- By code. -/
  arg0 : Nat
  /-- By code. -/
  arg1 : Nat
deriving DecidableEq, Repr

/-- The four classes of event (R270), in the order of their rings 16 to 19. -/
inductive EvClass where
  | fault | warning | info | safety
deriving DecidableEq, Repr

/-- One thing the module has sent outward: to host memory, to a network, to a gate island or to the DLI. -/
inductive Msg where
  /-- The completion of a slot (R256). -/
  | completion (ring slot : Nat) (phase : Bool) (status tag result : Nat)
  /-- A record with its trailer (R256): words of payload, record type, sequence number, last word. -/
  | record (ring slot : Nat) (phase : Bool) (rtype seq last : Nat) (payload : List Nat)
  /-- The write-back block of a ring (R257). -/
  | writeBack (ring head stat count : Nat)
  /-- A read request for host memory (R249): address and length. -/
  | hostRead (addr len : Nat)
  /-- The configuration header that a host finds on the link (R250): class code and subsystem ID. -/
  | pcieHeader (classCode subsystem : Nat)
  /-- An MSI-X message (R258). -/
  | msix (vec : Nat)
  /-- Payload to the host buffer of a ring's descriptor (R272 to R274), as the numbers of its layout. -/
  | hostData (ring : Nat) (words : List Nat)
  /-- A gate-link downlink frame (R190) to an island: its type, four bits and data. -/
  | gateFrame (island ftype data crc : Nat)
  /-- The gate current codes of an island's edge, one per 5 ns; a code of 0 leaves the gate floating, and after the last one the hold
  switch clamps the gate (R195). -/
  | gateDrive (island : Nat) (on : Bool) (codes : List Nat)
  /-- A gate-link uplink frame (R191) that an island sends at once: its type and body. -/
  | gateUplink (island ftype data : Nat)
  /-- A DLI link frame (R333): its kind and argument. -/
  | dliFrame (kind arg : Nat)
  /-- A CAN frame on a controller: the frame record's words and data. -/
  | canFrame (ctrl : Nat) (frame : CanFrame)
  /-- An Ethernet frame on a port; of a protected one SCI, AN and packet number. -/
  | ethFrame (port : Nat) (tag : Option (Nat × Nat × Nat)) (bytes : List Byte)
  /-- The response of NET to a network START or command on an Ethernet port (R316): the address it goes to and its 16 bytes. -/
  | ridgeResponse (port mac : Nat) (data : List Nat)
  /-- NET's answer to a peer-delay request on a port (R362), with the request's receive time. -/
  | pdelayResp (port stamp : Nat)
  /-- A word over the die-to-die FIFO to the Belay island, by kind. -/
  | belayWord (kind : Nat) (args : List Nat)
  /-- An interrupt to a host core or control engine (target, kind). -/
  | interrupt (target kind : Nat)
  /-- The answer to a read of a register with an effect of its own, or of a debug access. -/
  | readData (data : Nat)
  /-- A debug access that is refused (R395, R396): NOT_IDLE, or not granted at the level. -/
  | debugRefused (notIdle : Bool)
deriving DecidableEq, Repr

/-- A received or echoed CAN frame that waits for a ring buffer (R273, R357). -/
structure CanRec where
  /-- The controller. -/
  ctrl : Nat
  /-- Device time of the start of frame. -/
  time : Nat
  /-- Bytes 12 to 15: DLC, controller, RTR, ESI, filter or 0xFF, ECHO. -/
  word : Nat
  /-- The frame. -/
  frame : CanFrame
deriving DecidableEq, Repr

/-- An entry of the change log (R326). -/
structure LogEntry where
  /-- Rising index. -/
  index : Nat
  /-- What was changed or tried. -/
  kind : Nat
  /-- Role. -/
  role : Nat
  /-- Device time. -/
  time : Nat
  /-- BL offset of the field, or operation. -/
  field : Nat
  /-- The new value. -/
  value : Nat
  /-- The value before. -/
  old : Nat
  /-- The chain value after this entry. -/
  chain : Nat
deriving DecidableEq, Repr

/-- A setpoint list that a ring is playing (R265, R267). -/
structure Play where
  /-- The ring, 2 to 7. -/
  ring : Nat
  /-- The records still to be handed to the Belay island, each as its 16 bytes read as a number. -/
  left : List Nat
  /-- Records accepted so far. -/
  accepted : Nat
  /-- Some record was refused. -/
  refused : Bool
  /-- Every record has been judged, and the last accepted one has still to go into force. -/
  waits : Bool
deriving DecidableEq, Repr

/-- A loop of an engine's program that is being repeated (R167): the engine, the first and the last code word of the body,
and how many passes are left. -/
structure EngLoop where
  /-- The engine, 0 to 6. -/
  eng : Nat
  /-- First code word of the body. -/
  first : Nat
  /-- Last code word of the body. -/
  last : Nat
  /-- Passes left, the present one included. -/
  left : Nat
deriving DecidableEq, Repr

/-- A record of the snapshot store (R473). -/
structure Snap where
  /-- CAIRN_STAT.NUM of the snapshot. -/
  num : Nat
  /-- The cairn instant, device time. -/
  time : Nat
  /-- Domains whose counters were stopped by a BIST run. -/
  stopped : Nat
  /-- Counters enabled, one bit each. -/
  enabled : Nat
  /-- The 32 counters. -/
  counters : List Nat
  /-- Telemetry value of each source code 0x00 to 0x7B. -/
  values : List Nat
deriving DecidableEq, Repr

/-- Why the machine stops with a fault. No command of this block does: an error of the block sets flags, raises
events and trips, which are effects on the state. -/
inductive Fault where
  /-- Raised by nobody: the block has no command after which the spec says the block itself stops. -/
  | none
deriving DecidableEq, Repr

/-- Why a command has no meaning here. -/
inductive Refusal where
  /-- Raised by an arm of exec whose meaning is not written. Safe: the run ends. -/
  | notModelled (mnemonic : String)
deriving DecidableEq, Repr

/-- The whole state of the block. -/
structure State where
  /-- The value of every named row that does not hold its reset value. -/
  regs : Cells
  /-- Device time in units of 2.5 ns (R431). -/
  now : Nat
  /-- The model's own: how many fresh free values have been drawn (log entry 4). -/
  fresh : Nat
  /-- The shared SRAM: byte address and byte, an unlisted address reads 0 (R457, R413). -/
  mem : List Host.Cell
  /-- Words that hold wrong bits: memory ID and word address, and how many bits, one or more than one (R457, R459). -/
  eccBad : List ((Nat × Nat) × Nat)
  /-- Words corrected since the scrub pass of their memory began (R459). -/
  eccSeen : List (Nat × Nat)
  /-- Events waiting in the queue of each class (R271), oldest first. -/
  evFault : List Event
  /-- Warning events. -/
  evWarning : List Event
  /-- Information events. -/
  evInfo : List Event
  /-- Safety-log events. -/
  evSafety : List Event
  /-- The MRAM event store (R271, R461), oldest first. -/
  evStore : List (EvClass × Event)
  /-- The descriptor in progress of each ring that has one. -/
  descs : List (Nat × Desc)
  /-- The setpoint lists being played. -/
  plays : List Play
  /-- Safety-class messages on their way to the Belay island (R266, R315), oldest first. -/
  ridgeIn : List RidgeMsg
  /-- The change log (R326), oldest first. -/
  log : List LogEntry
  /-- Return addresses of the engines' subroutine calls (R167): engine and code word, the latest call first. -/
  engCalls : List (Nat × Nat)
  /-- Loops of the engines' programs in progress, the innermost of an engine first. -/
  engLoops : List EngLoop
  /-- CAN transmit frames: controller, buffer, shadow or active, frame (R351). -/
  canTx : List ((Nat × Nat × Bool) × CanFrame)
  /-- Frames of each controller waiting for a ring buffer (R357), oldest first. -/
  canRxQ : List CanRec
  /-- Ethernet frames queued for transmission, port and bytes (R361). -/
  ethTxQ : List (Nat × List Byte)
  /-- The snapshot store: the last 16 records (R473), oldest first. -/
  snaps : List Snap
  /-- The firmware image being built (R272). -/
  fwImage : List Byte
  /-- The calibration image being built (R272). -/
  calImage : List Byte
  /-- The password buffer (R322). -/
  pwdBuf : List Byte
  /-- What the module has sent, oldest first. -/
  out : List Msg
  /-- The commands that are waiting, the next one first. -/
  pending : List Instr
deriving DecidableEq, Repr

/-- The block right after reset: every register field at its reset value (nothing is listed), device time 0, every
queue empty. What the spec gives no reset value for is empty or zero (DESIGN CHOICE, log entry 3). -/
def State.reset : State :=
  { regs := [], now := 0, fresh := 0, mem := [], eccBad := [], eccSeen := [], evFault := [], evWarning := [], evInfo := [], evSafety := [],
    evStore := [], descs := [], plays := [], ridgeIn := [], log := [], engCalls := [], engLoops := [], canTx := [], canRxQ := [], ethTxQ := [], snaps := [], fwImage := [],
    calImage := [], pwdBuf := [], out := [], pending := [] }

end Sys2Proof.Machine
end

