-- ==== Sys2Proof/Machine/Ops.lean ====
section
/-!
DEFINITION. The named operations over the state that the meanings share: reading and writing a row, flags with their
events, trips, safe-state causes, and what the module sends.
-/
namespace Sys2Proof.Machine

/-- What a step answers. -/
abbrev Out := Host.Outcome State Fault Refusal

/-- The record ring of a class (R270). -/
def EvClass.ring : EvClass → Nat
  | .fault => 16
  | .warning => 17
  | .info => 18
  | .safety => 19

namespace State

/-- The value of a row's instance `i`, element `j`: the listed one, or the reset value, of the row's width. -/
def get (s : State) (r : Row) (i : Nat := 0) (j : Nat := 0) : Nat :=
  (s.regs.find (r.key i j)).getD (r.resetAt i) % 2 ^ r.width

/-- The row as a flag. -/
def is (s : State) (r : Row) (i : Nat := 0) (j : Nat := 0) : Bool := s.get r i j != 0

/-- The row read as a two's complement number of its width. -/
def geti (s : State) (r : Row) (i : Nat := 0) (j : Nat := 0) : Int := toSigned r.width (s.get r i j)

/-- Bit `n` of the row. -/
def getBit (s : State) (r : Row) (n : Nat) (i : Nat := 0) (j : Nat := 0) : Bool := bit (s.get r i j) n

/-- A power domain is on (R411, R413): in one that is off registers ignore writes and read 0. -/
def pdOn (s : State) (pd : Nat) : Bool := s.getBit SYS.PWR_STAT.PD_ON pd

/-- `v`, cut to the row's width, in the row; a value equal to the reset value is not listed. -/
def set (s : State) (r : Row) (v : Nat) (i : Nat := 0) (j : Nat := 0) : State :=
  { s with regs := if v % 2 ^ r.width = r.resetAt i then s.regs.drop (r.key i j)
                   else s.regs.put (r.key i j) (v % 2 ^ r.width) }

/-- A flag row from a Boolean. -/
def setb (s : State) (r : Row) (b : Bool) (i : Nat := 0) (j : Nat := 0) : State := s.set r (ofBool b) i j

/-- A signed value in the row, in two's complement. -/
def seti (s : State) (r : Row) (x : Int) (i : Nat := 0) (j : Nat := 0) : State := s.set r (ofSigned r.width x) i j

/-- Bit `n` of the row. -/
def setBit (s : State) (r : Row) (n : Nat) (b : Bool) (i : Nat := 0) (j : Nat := 0) : State :=
  let v := s.get r i j
  s.set r (v - (if bit v n then 2 ^ n else 0) + (if b then 2 ^ n else 0)) i j

/-- One more, saturating at the row's greatest value. -/
def incSat (s : State) (r : Row) (i : Nat := 0) (j : Nat := 0) : State :=
  s.set r (min (s.get r i j + 1) (2 ^ r.width - 1)) i j

/-- One more, wrapping. -/
def inc (s : State) (r : Row) (i : Nat := 0) (j : Nat := 0) : State := s.set r (s.get r i j + 1) i j

/-- The state after an optional change. -/
def on (s : State) (c : Bool) (f : State → State) : State := if c then f s else s

/-- The state after one change for each number below `n`, in rising order. -/
def forN (s : State) (n : Nat) (f : Nat → State → State) : State := (List.range n).foldl (fun t k => f k t) s

/-- Something sent. -/
def send (s : State) (m : Msg) : State := { s with out := s.out ++ [m] }

/-- A fresh free value, below `2 ^ w`, in a row. -/
def setFree (s : State) (r : Row) (i : Nat := 0) (j : Nat := 0) : State :=
  { s.set r (Config.fresh s.fresh) i j with fresh := s.fresh + 1 }

/-- The events waiting in a class's queue. -/
def queue (s : State) : EvClass → List Event
  | .fault => s.evFault
  | .warning => s.evWarning
  | .info => s.evInfo
  | .safety => s.evSafety

/-- The state with a class's queue replaced. -/
def setQueue (s : State) (c : EvClass) (q : List Event) : State :=
  match c with
  | .fault => { s with evFault := q }
  | .warning => { s with evWarning := q }
  | .info => { s with evInfo := q }
  | .safety => { s with evSafety := q }

/-- Raise an event detected at a given device time (R270, R271): into its class's queue while fewer than 64 wait, else
counted as lost; all but information events also into the MRAM event store, which holds 32 768 records and overwrites
the oldest (R461). -/
def eventAt (s : State) (time : Nat) (c : EvClass) (inst source code arg0 arg1 : Nat) : State :=
  let e : Event := { time := time, inst := inst, source := source, code := code, arg0 := arg0, arg1 := arg1 }
  let s1 := if (s.queue c).length < 64 then s.setQueue c (s.queue c ++ [e])
            else s.incSat RING.lost (c.ring - 16)
  if c = .info then s1
  else { s1 with evStore := (if s1.evStore.length < 32768 then s1.evStore else s1.evStore.drop 1) ++ [(c, e)] }

/-- Raise an event detected now. -/
def event (s : State) (c : EvClass) (inst source code arg0 arg1 : Nat) : State :=
  s.eventAt s.now c inst source code arg0 arg1

/-- SOURCE of a row: bits [23:16] of its BAR0 offset (R270). -/
def rowSource (r : Row) (i j : Nat) : Nat := r.addr i j / 65536 % 256

/-- Set a status flag; a flag newly set raises the event FLAG (R270: ARG0 the register's offset, ARG1 the mask). -/
def raise (s : State) (c : EvClass) (r : Row) (i : Nat := 0) (j : Nat := 0) (inst : Nat := i) : State :=
  if s.is r i j then s
  else (s.set r 1 i j).event c inst (rowSource r i j) 0x0001 (r.addr i j) (2 ^ r.lo)

/-- As `raise`, for bit `n` of a row of several flags. -/
def raiseBit (s : State) (c : EvClass) (r : Row) (n : Nat) (i : Nat := 0) (j : Nat := 0) (inst : Nat := n) : State :=
  if s.getBit r n i j then s
  else (s.setBit r n true i j).event c inst (rowSource r i j) 0x0001 (r.addr i j) (2 ^ (r.lo + n))

/-- As `raise`, with data the chapter names in ARG1 (R270, last paragraph of the code table). -/
def raiseArg (s : State) (c : EvClass) (r : Row) (arg1 : Nat) (i : Nat := 0) (j : Nat := 0) (inst : Nat := i) : State :=
  if s.is r i j then s
  else (s.set r 1 i j).event c inst (rowSource r i j) 0x0001 (r.addr i j) arg1

/-- A performance counter has passed its greatest value (R471): its bit in OVF, and the interrupt it asks for. -/
def perfWrap (s : State) (n : Nat) : State :=
  (s.raiseBit .warning PERF.OVF.OVF n).on (s.getBit PERF.INT_EN.INT n) (·.send (.interrupt n 0x1C))

/-- `n` occurrences of an event that performance counters may count (R470), by SOURCE code, instance and event. -/
def perfAdd (s : State) (source inst event n : Nat) : State :=
  if !s.is PERF.CTL.EN || s.is PERF.stopped then s
  else s.forN 32 fun k t =>
    if t.is PERF.CNT_SEL.CEN k && t.get PERF.CNT_SEL.SOURCE k == source && t.get PERF.CNT_SEL.INST k == inst
        && t.get PERF.CNT_SEL.EVENT k == event then
      let v := t.get PERF.CNT_LO.CNT k + 2 ^ 32 * t.get PERF.cntHi k + n
      ((t.set PERF.CNT_LO.CNT v k).set PERF.cntHi (v / 2 ^ 32) k).on (2 ^ 48 ≤ v) (·.perfWrap k)
    else t

/-- A trip source's input level at a PU (R151), before its filter. -/
def tripIn (s : State) (pu src : Nat) (level : Bool := true) : State := s.setBit PU.tripIn src level pu

/-- Joined mode in force (R242). -/
def joined (s : State) : Bool := s.is SQ.STATUS.JOINED 0

/-- The traction axis whose state governs axis `a`: axis 0 in joined mode. -/
def lead (s : State) (a : Nat) : Nat := if s.joined then 0 else a

/-- A safe-state cause (bit of CAUSE_x.SS_CAUSE) reaches the Belay island for an axis; in joined mode for both
(R284). SAFE_ENTER acts on it. -/
def callSafe (s : State) (a cause : Nat) : State :=
  if s.joined then (s.setBit BL.causeReq cause true 0).setBit BL.causeReq cause true 1
  else s.setBit BL.causeReq cause true a

/-- The same for both axes. -/
def callSafeBoth (s : State) (cause : Nat) : State :=
  (s.setBit BL.causeReq cause true 0).setBit BL.causeReq cause true 1

/-- A safety-log event (R304): SOURCE 0x30. -/
def safetyLog (s : State) (inst code arg0 arg1 : Nat) : State := s.event .safety inst 0x30 code arg0 arg1

end State
end Sys2Proof.Machine
end

