-- ==== Sys2Proof/Machine/BelayOps.lean ====
section
/-!
DEFINITION. What the Belay island's meanings share (12): its copy of the safety sections, line codes, safe-state and
bivouac entry, HOLD, SSOUT and the mailbox.
-/
namespace Sys2Proof.Machine

/-- Bits of CAUSE_x.SS_CAUSE (12, BL registers). -/
inductive SsCause where
  | puTrip | rpFault | tmErr | tmAlign | tmXchk | xchkUnattr | ihaSum | incLost | bivSecond | bivExp | lapse | xtrip
  | hvil | ciLost | discharge | dieOt
deriving DecidableEq, Repr

/-- Bits of CAUSE_x.BIV_CAUSE, from bit 16 of the register up (12, BL registers). -/
inductive BivCause where
  | abs | abs2 | sls | inc | inc2 | isdSubst | xchkIsd | xchkIha | ihaCh | tmKat | sgl
deriving DecidableEq, Repr

/-- The bit of a safe-state cause. -/
def SsCause.bit : SsCause → Nat
  | .puTrip => 0
  | .rpFault => 1
  | .tmErr => 2
  | .tmAlign => 3
  | .tmXchk => 4
  | .xchkUnattr => 5
  | .ihaSum => 6
  | .incLost => 7
  | .bivSecond => 8
  | .bivExp => 9
  | .lapse => 10
  | .xtrip => 11
  | .hvil => 12
  | .ciLost => 13
  | .discharge => 14
  | .dieOt => 15

/-- The bit of a bivouac cause in BIV_CAUSE. -/
def BivCause.bit : BivCause → Nat
  | .abs => 0
  | .abs2 => 1
  | .sls => 2
  | .inc => 3
  | .inc2 => 4
  | .isdSubst => 5
  | .xchkIsd => 6
  | .xchkIha => 7
  | .ihaCh => 8
  | .tmKat => 9
  | .sgl => 10

namespace State

/-- The channel whose entry serves axis `a` (R242): CH7 in joined mode. -/
def axisCh (s : State) (a : Nat) : Nat := if s.joined then 7 else a

/-- The traction axis is enabled. -/
def axEn (s : State) (a : Nat) : Bool := s.is ACT.chEn (s.axisCh a)

/-- A field of the safety section the Belay island accepted (R239): the offset in the entry and its bits. -/
def secField (s : State) (ch off hi lo : Nat) : Nat := bits (s.get BL.sec ch ((off - 0x40) / 4)) hi lo

/-- T_RATED of the axis, 0.1 N·m (R239). -/
def tRated (s : State) (a : Nat) : Nat := s.secField (s.axisCh a) 0x04C 15 0

/-- T_BASE of the axis, 0.1 N·m. -/
def tBase (s : State) (a : Nat) : Nat := s.secField (s.axisCh a) 0x044 15 0

/-- The axis works on its idle set until its safety section has been accepted (R281). -/
def secInForce (s : State) (a : Nat) : Bool := s.is BL.secOk (s.axisCh a)

/-- V_BASE of the axis in force, 0.1 V (R281). -/
def vBase (s : State) (a : Nat) : Nat :=
  if s.secInForce a then s.secField (s.axisCh a) 0x040 31 16 else s.get BL.idleVBase a

/-- W_BASE of the axis in force, rad/s (R281). -/
def wBase (s : State) (a : Nat) : Nat :=
  if s.secInForce a then s.secField (s.axisCh a) 0x048 15 0 else s.get BL.idleWBase a

/-- POLE_PAIRS of the axis in force (R281). -/
def poles (s : State) (a : Nat) : Nat :=
  if s.secInForce a then s.secField (s.axisCh a) 0x048 23 16 else s.get BL.idlePoles a

/-- VDC_MIN of the axis in force, Q15 of V_base; 0 with an empty idle set (R280, R281). -/
def vdcMin (s : State) (a : Nat) : Nat :=
  if s.secInForce a then s.secField (s.axisCh a) 0x058 15 0
  else if s.is BL.idleOk a then s.get BL.idleVmin a else 0

/-- The speed of `turns / per` electrical turns in `dt` × 2.5 ns, Q15 of ω_base, before its saturation (R62): 2π × turns / dt over W_BASE.
An interval of no length, and a base speed that no entry has given, have no stated result (log entry 39). -/
def rateOf (s : State) (a : Nat) (turns : Int) (per : Nat) (dt : Int) : Int :=
  quotF 74 (65536 * piN * turns * 400000000) (piD * per * dt * s.wBase a)

/-- The policy that governs the axis: the one in force, before it the idle set's, policy 0 with none (R281, R283). -/
def policy (s : State) (a : Nat) : Nat :=
  if s.secInForce a then s.get BL.AXIS.POLICY a else if s.is BL.idleOk a then s.get BL.idlePolicy a else 0

/-- A field of the safety configuration that governs an axis (R283, R306): from its last accepted ENABLE; before the first one
since the Belay island's reset, as the store holds it. `k` is its word in `gov`, `i` its register in the store. What governs no single axis
(XT_AUX, and HVIL_CFG but HVIL_SS) stands in instance 2, which any axis's accepted ENABLE takes (DESIGN CHOICE, log entry 45). -/
def gov (s : State) (r : Row) (k a : Nat) (i : Nat := 0) : Nat :=
  if s.is BL.govOk a then s.get BL.gov a k / 2 ^ r.lo % 2 ^ r.width else s.get r i

/-- A field of POLn_LO of the axis's policy. -/
def polLo (s : State) (r : Row) (a : Nat) : Nat := s.gov r 0 a (s.policy a)

/-- A field of POLn_HI of the axis's policy. -/
def polHi (s : State) (r : Row) (a : Nat) : Nat := s.gov r 1 a (s.policy a)

/-- The words of the store that an accepted ENABLE puts in force for an axis (R306). -/
def govWords (s : State) (a : Nat) : List Nat :=
  let p := s.get BL.AXIS.POLICY a
  let w (hi lo : Row) (i : Nat) : Nat := s.get hi i * 2 ^ hi.lo + s.get lo i * 2 ^ lo.lo
  [w BL.POL_LO.SC_ON BL.POL_LO.SC_OFF p,
   w BL.POL_HI.SHORT_SIDE BL.POL_HI.UNK_SHORT p + w BL.POL_HI.HOLD_ON_SAFE BL.POL_HI.LAPSE_ACT p
     + w BL.POL_HI.LAPSE_RAMP BL.POL_HI.LAPSE_HOLD p,
   w BL.TM_WIN.TM_PCT BL.TM_WIN.TM_ABS 0 + s.get BL.TM_WIN.TM_TIME, w BL.TM_XCFG.XTOL BL.TM_XCFG.XTIME 0,
   w BL.TM_PSI.PSI_PM BL.TM_PSI.LQ_SAT a, w BL.TM_L.LD BL.TM_L.LQ a, w BL.TM_ALIGN.ZOFS_BL BL.TM_ALIGN.ALIGN_TOL a,
   s.get BL.TM_CPR.CPR_BL a, w BL.BIV_CFG.BIV_TLIM BL.BIV_CFG.BIV_TIME 0, w BL.SGL_CFG.SGL_TLIM BL.SGL_CFG.SGL_TIME 0,
   w BL.XT_CFG.XT_FLT BL.XT_CFG.XT_AUX 0 + s.get BL.XT_CFG.XT_ASSERT_AXES,
   w BL.HVIL_CFG.HVIL_EN BL.HVIL_CFG.HVIL_DIS 0 + w BL.HVIL_CFG.HVIL_SS BL.HVIL_CFG.HVIL_FLT 0, s.get BL.HOLD_CFG.HOLD_WMAX]

/-- The configuration as it stands governs the axis from now on. -/
def govTake (s : State) (a : Nat) : State :=
  let put (t : State) (i : Nat) : State := (t.forN 13 fun k u => u.set BL.gov ((s.govWords a).getD k 0) i k).set BL.govOk 1 i
  put (put s a) 2

/-- HOLD_WMAX that governs an axis (R286, R306). -/
def holdWmax (s : State) (a : Nat) : Nat := s.gov BL.HOLD_CFG.HOLD_WMAX 12 a

/-- XTRIP is forwarded to the aux units (R299). -/
def xtAux (s : State) : Bool := s.gov BL.XT_CFG.XT_AUX 10 2 != 0

/-- An edge on the Belay receiver of a track (R280, R287), in the direction in which POS counts it (DEDUCED, log entry 45): the count and the
edge history. After 50 ms without an edge the next one is the first after standstill. A track with LINE_FLT delivers none. -/
def blEdge (s : State) (a : Nat) (up : Bool) (stamp : Nat) : State :=
  if s.is BL.lineFlt a then s
  else
    let goes := s.is BL.blN a && s.is BL.blDir a == !up && decide (stamp < s.get BL.blT a 0 + 20000000)
    let s1 := (s.seti BL.blCnt (s.geti BL.blCnt a + (if up then 1 else -1)) a).setb BL.blDir (!up) a
    let s2 := [4, 3, 2, 1].foldl (fun t k => t.set BL.blT (t.get BL.blT a (k - 1)) a k) s1
    let s3 := s2.set BL.blT stamp a 0
    if goes then (s3.set BL.blN (min (s3.get BL.blN a + 1) 5) a).set BL.blTimed 1 a else s3.set BL.blN 1 a

/-- The Belay island's count since a stored one. -/
def blSince (s : State) (a : Nat) (r : Row) : Int := toSigned 32 (ofSigned 32 (s.geti BL.blCnt a - s.geti r a))

/-- ω_BL (R280, R281): unknown with LINE_FLT, before an edge interval has been timed, or with an empty idle set; 0 at the first edge after
standstill or reversal and after 50 ms without an edge; else the speed over the last four intervals at most, not above one edge in the time
since the latest. -/
def blSpeed (s : State) (a : Nat) : Option Int :=
  let n := s.get BL.blN a
  let cpr := s.gov BL.TM_CPR.CPR_BL 7 a a
  let spd (k dt : Nat) : Nat := (s.rateOf a (k * s.poles a) cpr dt).natAbs
  let t := s.now - s.get BL.blT a 0
  if s.is BL.lineFlt a || !s.is BL.blTimed a || !(s.secInForce a || s.is BL.idleOk a) then none
  else if n < 2 || 20000000 ≤ t then some 0
  else
    let m := spd (n - 1) (s.get BL.blT a 0 - s.get BL.blT a (n - 1))
    let m' : Nat := min 0x7FFF (if t = 0 then m else min m (spd 1 t))
    some (if s.is BL.blDir a then -(m' : Int) else m')

/-- ω_BL of an axis, Q15 of ω_base, in its register; 0x8000 reads unknown. -/
def spdRow (a : Nat) : Row := if a = 0 then BL.SPD.SPD_A else BL.SPD.SPD_B

/-- A low-side island of the axis (odd numbers) reports OVB (R208, R282); the joined machine has those of both stars. -/
def axisOvb (s : State) (a : Nat) : Bool :=
  (if s.joined then [1, 3, 5, 7, 9, 11] else [6 * a + 1, 6 * a + 3, 6 * a + 5]).any fun i => s.is GI.STATUS.OVB i

/-- An island of a side of the axis has reported since the axis was last enabled (R282): side 0 low, 1 high. -/
def sideReported (s : State) (a side : Nat) : Bool :=
  if s.joined then s.is BL.sideRep side 0 || s.is BL.sideRep side 1 else s.is BL.sideRep side a

/-- The short side a policy selects (R282): line code 2 SHORT-LO or 3 SHORT-HI. -/
def shortCode (s : State) (a : Nat) : Nat :=
  if s.axisOvb a then 2
  else match s.polHi BL.POL_HI.SHORT_SIDE a with
    | 1 => 3
    | 2 => if s.sideReported a 0 && !s.sideReported a 1 then 3 else 2
    | _ => 2

/-- The code of the selection: OPEN or a short circuit (R279). -/
def selCode (s : State) (a : Nat) : Nat := if s.is BL.AXIS.SEL_SHORT a then s.shortCode a else 1

/-- The line carries RUN only while the axis is enabled and no safe-state cause stands, and in a winding discharge;
else the selection (R278). In joined mode both lines carry the same code. While debug halts the
Belay island, and when it has lost its clock, the lines stop, which every island reads as OPEN (R277, R396). -/
def lineOf (s : State) (a : Nat) : Nat :=
  let l := s.lead a
  if s.is BL.halted || s.is BL.clkLost then 1
  else if s.is BL.wind l || (s.is BL.run l && !s.is BL.AXIS.SAFE l) then 0 else s.selCode l

/-- Put the codes on the lines. -/
def lines (s : State) : State := (s.set BL.AXIS.LINE (s.lineOf 0) 0).set BL.AXIS.LINE (s.lineOf 1) 1

/-- SSOUT is driven while the configuration and the self-test are good, the heartbeat stands and no traction axis is
in a safe state (R301); a Belay island that stands drives nothing (R277). -/
def ssout (s : State) : State :=
  s.setb BL.STATUS.SSOUT (s.is BL.STATUS.CFG_VALID && s.is BL.STATUS.SELFTEST_OK && !s.is BL.STATUS.CI_LOST
    && !s.is BL.AXIS.SAFE 0 && !s.is BL.AXIS.SAFE 1 && !s.is BL.halted && !s.is BL.clkLost)

/-- CAUSE_x as a word. -/
def causeWord (s : State) (a : Nat) : Nat := s.get BL.CAUSE.BIV_CAUSE a * 65536 + s.get BL.CAUSE.SS_CAUSE a

/-- A safe-state cause of an axis by name. -/
def unsafeAxis (s : State) (a : Nat) (c : SsCause) : State := s.callSafe a c.bit

/-- The bivouac causes of an axis enter the safety log (R295, R304). -/
def bivLog (s : State) (a : Nat) : State :=
  s.safetyLog a 0x0203 (s.get BL.CAUSE.BIV_CAUSE a * 65536) (s.gov BL.BIV_CFG.BIV_TIME 8 a)

/-- Bivouac mode ends with the Belay island's reset (R297), which the safety log records as BIV_ENTER without a cause: R304 names no event for
it (DESIGN CHOICE, log entry 45). -/
def bivEnd (s : State) : State := s.forN 2 fun a t => t.on (t.is BL.AXIS.BIV a) (·.safetyLog a 0x0203 0 0)

/-- A bivouac cause reaches the Belay island for one axis (R295): recorded; the first puts the axis into bivouac mode
with the full BIV_TIME, a second one calls for the safe state (R292). -/
def bivEnter1 (s : State) (a : Nat) (c : BivCause) : State :=
  if s.getBit BL.CAUSE.BIV_CAUSE c.bit a then s
  else
    let t := s.setBit BL.CAUSE.BIV_CAUSE c.bit true a
    if t.is BL.AXIS.BIV a then (t.bivLog a).callSafe a SsCause.bivSecond.bit
    else ((((t.set BL.AXIS.BIV 1 a).set BL.bivWarned 0 a).set BL.selN 0 a).set BL.AXIS.BIV_LEFT (t.gov BL.BIV_CFG.BIV_TIME 8 a * 100) a).bivLog a

/-- The loss of one redundant path of an axis; in joined mode of the machine (R295). -/
def bivEnter (s : State) (a : Nat) (c : BivCause) : State := s.bivEnter1 (s.lead a) c

/-- The loss of a further path of a kind that is already recorded is a second cause too (R292). -/
def bivLoss (s : State) (a : Nat) (c : BivCause) : State :=
  if s.getBit BL.CAUSE.BIV_CAUSE c.bit a then s.callSafe a SsCause.bivSecond.bit else s.bivEnter1 a c

/-- A cause found on a path whose loss is recorded already: its bit alone, no second cause (R55, R292). -/
def bivSame (s : State) (a : Nat) (c : BivCause) : State :=
  if !s.is BL.AXIS.BIV a then s.bivEnter1 a c
  else if s.getBit BL.CAUSE.BIV_CAUSE c.bit a then s
  else (s.setBit BL.CAUSE.BIV_CAUSE c.bit true a).bivLog a

/-- A current channel of a star is substituted (R51, R292): the loss of a redundant path of its axis, for each star once. -/
def substTaken (s : State) (a : Nat) : State :=
  if bits (s.get SEN.STATUS.SUBST) (3 * a + 2) (3 * a) = 0 || s.getBit BL.substOf a then s
  else (s.setBit BL.substOf a true).bivLoss (s.lead a) .isdSubst

/-- The normal torque limit of the Belay island, Q15 of T_base (R296, R298): in bivouac mode BIV_TLIM, on a single position source SGL_TLIM,
each of T_RATED. -/
def belayNormal (s : State) (a : Nat) : Nat :=
  let of (k : Nat) : Nat := if s.tBase a = 0 then 0 else quotN (k * s.tRated a) (s.tBase a)
  let y := if s.is BL.AXIS.BIV a then min 0x7FFF (of (s.gov BL.BIV_CFG.BIV_TLIM 8 a)) else 0x7FFF
  if s.is BL.AXIS.SGL a then min y (of (s.gov BL.SGL_CFG.SGL_TLIM 9 a)) else y

/-- LAPSE_RAMP of the axis's policy in units of device time. -/
def lapseRamp (s : State) (a : Nat) : Nat := 400000 * s.polHi BL.POL_HI.LAPSE_RAMP a

/-- The torque limit of the Belay island in the CE data port, Q15 of T_base (R294): the normal one; in a lapse it falls linearly from where it
stood to 0 over LAPSE_RAMP and stays there, and after the lapse it rises to the normal one over LAPSE_RAMP. -/
def belayLimit (s : State) (a : Nat) : Nat :=
  let n := s.belayNormal a
  let x := s.get BL.tqLimit a
  let r := s.lapseRamp a
  let d := min (s.now - s.get BL.lapseT a) r
  match s.get BL.lapse a with
  | 1 => min n (quotN (x * (r - d)) r)
  | 2 => 0
  | 3 => if d = r then n else min n (x + quotN ((n - x) * d) r)
  | _ => n

/-- A phase of a lapse begins (R294): 1 the ramp, 2 the hold, 3 the way back; the limit moves from where it stands. -/
def lapseTo (s : State) (a ph : Nat) : State :=
  ((s.set BL.tqLimit (s.belayLimit a) a).set BL.lapse ph a).set BL.lapseT s.now a

/-- ω_BL of every enabled or rotating traction axis is known and at most HOLD_WMAX (R286); an unknown speed counts as
above. -/
def holdSlow (s : State) : Bool :=
  [0, 1].all fun a => s.is BL.spdKnown a && (s.geti (spdRow a)).natAbs ≤ s.holdWmax a

/-- Both speeds are known and below HOLD_WMAX (R329). -/
def holdBelow (s : State) : Bool :=
  [0, 1].all fun a => s.is BL.spdKnown a && decide ((s.geti (spdRow a)).natAbs < s.holdWmax a)

/-- The safe-hold outputs energized, each change stamped (R319, R320). -/
def shSet (s : State) (on : Nat) : State :=
  (s.forN 2 fun o t => t.on (bit on o != s.getBit BL.SH_STAT.ON o) (·.set BL.shT (s.now + 1) o)).set BL.SH_STAT.ON on

/-- The outputs that CH6 enables (R318), SHA bit 0 and SHB bit 1. -/
def shEn (s : State) : Nat := s.secField 6 0x040 1 0

/-- The outputs a HOLD energizes: enabled in CH6, not faulted and supplied, their switches' domain PD5 on (R317, R321, R408). -/
def shCan (s : State) : Nat :=
  let ok (k : Nat) := bit s.shEn k && !s.getBit BL.SH_STAT.FAULT k && !s.getBit BL.SH_STAT.NO_SUPPLY k
    && s.getBit SYS.PWR_STAT.PD_ON 5
  ofBool (ok 0) + 2 * ofBool (ok 1)

/-- Drive the park-lock request (R286, R317); with no CH6 section accepted it stays pending and drives nothing (R264);
with both outputs faulted SH_FAULT is raised and nothing is energized (R321). -/
def holdTryDrive (s : State) : State :=
  if s.is BL.STATUS.HOLD_REQ && s.is BL.STATUS.HOLD_PEND && s.holdSlow && s.is BL.storeOk 6 then
    let t := (s.set BL.STATUS.HOLD_PEND 0).shSet s.shCan
    let u := t.setb BL.holdDriven (s.shCan != 0)
    u.on (u.get BL.SH_STAT.FAULT == 3) fun v =>
      (v.safetyLog 6 0x0212 0 (v.get BL.SH_STAT.KIND_A)).safetyLog 6 0x0212 1 (v.get BL.SH_STAT.KIND_B)
  else s

/-- A HOLD that stands and waits for no speed drives what it can. -/
def shRedrive (s : State) : State :=
  s.on (s.is BL.STATUS.HOLD_REQ && !s.is BL.STATUS.HOLD_PEND && s.is BL.storeOk 6) fun u =>
    (u.shSet u.shCan).setb BL.holdDriven (u.shCan != 0)

/-- VAUX at the safe-hold outputs (R38, R317): without it they are de-energized and report NO_SUPPLY; with it back, a HOLD
that stands and waits for no speed is driven again. -/
def shSupply (s : State) (ok : Bool) : State :=
  if !ok then (s.set BL.SH_STAT.NO_SUPPLY 3).shSet 0
  else
    (s.set BL.SH_STAT.NO_SUPPLY 0).on (s.is BL.SH_STAT.NO_SUPPLY) (·.shRedrive)

/-- The Belay island issues HOLD (R286, R304): 1 at bivouac expiry, 2 by policy, 3 by ring 1. -/
def holdIssue (s : State) (kind : Nat) : State :=
  let t := (((s.set BL.STATUS.HOLD_REQ 1).set BL.holdKind kind).setb BL.STATUS.HOLD_PEND (!s.is BL.holdDriven)).holdTryDrive
  t.safetyLog 0 0x020C kind (t.get BL.STATUS.HOLD_PEND)

/-- The condition of a standing cause of the axis that keeps BELAY asserted is still present (R284). -/
def causePresent (s : State) (a : Nat) : Bool :=
  let c (k : SsCause) := s.getBit BL.CAUSE.SS_CAUSE k.bit a
  (c .xtrip && s.is BL.STATUS.XTRIP_ACT) || (c .hvil && s.is BL.STATUS.HVIL_OPEN) || (c .ciLost && s.is BL.STATUS.CI_LOST)
    || (c .dieOt && s.is BL.dieOt)
    || (c .rpFault && (s.is CE.RP_STAT.RP_FAULT (2 * a) || (s.joined && s.is CE.RP_STAT.RP_FAULT 2)))
    || (c .discharge && s.is BL.disCond && !s.is BL.wind a)

/-- A mailbox command with this OP is running (R305). -/
def mbx (s : State) (op : Nat) : Bool := s.is BL.MBX_STAT.BUSY && s.get BL.MBX_CMD.OP == op

/-- The enabled slot that names a destination on any channel. -/
def slotAny (s : State) (dst : Nat) : Option Nat :=
  (List.range 16).find? fun k => s.is BL.RS_CFG.EN k && s.get BL.RS_CFG.DST k == dst

/-- The safety password session closes (R325). -/
def sesClose (s : State) : State :=
  if s.is BL.PWD_STAT.OPEN then
    ((s.safetyLog 0 0x0214 (s.get BL.PWD_STAT.ROLE) 0).set BL.PWD_STAT.OPEN 0).set BL.PWD_STAT.ROLE 0
  else s

/-- The mailbox command completes (R305): 0 OK, 1 BAD_OP, 2 RANGE, 3 REFUSED; a session whose time ran out during the
command closes after it (R325). -/
def mbxDone (s : State) (result rsp : Nat) : State :=
  let t := (((s.set BL.MBX_STAT.BUSY 0).set BL.MBX_CMD.GO 0).set BL.MBX_STAT.RESULT result).set BL.MBX_RSP.RSP rsp
  if t.is BL.sesTmoPend then (t.set BL.sesTmoPend 0).sesClose else t

/-- The armed piton is this one: block source code, SEL and instance (R328, R330). -/
def pit (s : State) (source sel inst : Nat) : Bool :=
  s.is BL.PIT_STAT.ARMED && s.get BL.PIT_STAT.SOURCE == source && s.get BL.PIT_STAT.SEL == sel
    && s.get BL.pitInst == inst

/-- The armed piton disarms: PIT_STAT and the ARM bit of the block it was armed through. -/
def pitDisarm (s : State) : State :=
  let src := s.get BL.PIT_STAT.SOURCE
  let u := s.get BL.pitUnit
  let t := s.set BL.PIT_STAT.ARMED 0
  if src = 0x16 then t.set SEN.PIT_CTL.ARM 0
  else if src = 0x17 then t.set POS.PIT_CTL.ARM 0
  else if src = 0x13 then t.set OB.PIT_CTL.ARM 0 0
  else if src = 0x14 then t.set OB.PIT_CTL.ARM 0 1
  else if src = 0x10 then t.set SQ.PIT_CTL.ARM 0 0
  else if src = 0x11 then t.set SQ.PIT_CTL.ARM 0 1
  else if src = 0x12 then t.set PU.PIT_CTL.ARM 0 u
  else if src = 0x15 then t.set CE.PIT_CTL.ARM 0 u
  else if src = 0x20 then t.set GLK.PIT_CTL.ARM 0
  else if src = 0x18 then t.set AX.PIT_CTL.ARM 0
  else if src = 0x21 then t.set DLI.PIT_CTL.ARM 0
  else if src = 0x19 then t.set HK.PIT_CTL.ARM 0
  else if src = 0x1A then t.set CAN.PIT_CTL.ARM 0 u
  else if src = 0x1D then t.set MEM.PIT_CTL.ARM 0
  else if src = 0x00 then t.set SYS.PIT_CTL.ARM 0
  else t

/-- A piton acts once: it is logged (R330, R332 PIT_ACT) and disarms. -/
def pitAct (s : State) : State :=
  (s.safetyLog 0 0x0216 (s.get BL.PIT_STAT.SOURCE) (s.get BL.pitInst * 256 + s.get BL.PIT_STAT.SEL)).pitDisarm

/-- The role of the link or debug session that a register access comes through (R322, R383): on the host link 5 HOST with no session. A
write that is a command of its own comes over the host link (DESIGN CHOICE, log entry 24). -/
def linkRole (s : State) : Nat :=
  if s.is SEC.viaDbg then s.get SEC.DBG_STAT.ROLE
  else if s.is SEC.hostRole then s.get SEC.hostRole else 5

/-- A piton may be armed (R329): by life-cycle state, role and further conditions, and while no other is armed (R330). -/
def pitAllowed (s : State) : Bool :=
  let role := s.linkRole
  let open' := s.is BL.PWD_STAT.OPEN
  !s.is BL.PIT_STAT.ARMED && (match s.get SEC.LC_STAT.STATE with
    | 0 => role == 1
    | 1 => (role == 1 || role == 2) && ((s.is SEC.DBG_STAT.OPEN && 1 ≤ s.get SEC.DBG_STAT.LEVEL) || open')
    | 2 | 3 => (role == 2 || role == 4) && open' && s.is BL.STATUS.HOLD_REQ && s.is BL.SH_STAT.ON && s.holdBelow
    | _ => false)

/-- Arm a piton and log it (R330, R332 PIT_ARM). -/
def pitSet (s : State) (source sel inst unit : Nat) : State :=
  ((((((s.set BL.PIT_STAT.ARMED 1).set BL.PIT_STAT.SOURCE source).set BL.PIT_STAT.SEL sel).set BL.pitInst inst).set
    BL.pitUnit unit).set BL.pitT s.now).safetyLog 0 0x0215 source (inst * 256 + sel)

/-- ACCESS_REFUSED of a register write (R3, R270): a warning event with the offset and the data. -/
def accessRefused (s : State) (addr data : Nat) : State :=
  s.event .warning 0 (addr / 65536 % 256) 0x0002 addr data

/-- ACCESS_REFUSED entered in the safety log too (R3, R304, R306): ARG0 the offset or mailbox OP, ARG1 the role. -/
def safetyRefused (s : State) (what data role : Nat) : State :=
  (s.accessRefused (0x01300000 + what) data).safetyLog 0 0x020E what role

/-- A write that sets PIT_CTL.ARM of a block (R61 and its like, R329), `t` being `s` with the write's other fields: the
piton SEL names is armed if it may be, else the write is ignored with ACCESS_REFUSED; a SEL that names no piton (`real`
false) arms nothing. -/
def pitArm (s t : State) (arm : Row) (u source sel inst data : Nat) (real : Bool) : State :=
  if !real then t
  else if s.pitAllowed then (t.pitSet source sel inst u).set arm 1 u
  else s.accessRefused (arm.addr u 0) data

end State
end Sys2Proof.Machine
end

