-- ==== Sys2Proof/Machine/RegAccess.lean ====
section
/-!
DEFINITION. Register access by address: which fields a BAR0 offset holds, their ranges, and their LOCK (R3 to R5, R250).
-/
namespace Sys2Proof.Machine

/-- The rows of the block that an offset lies in (R250). -/
def blockRows (addr : Nat) : List Row :=
  if addr < 0x01010000 then SYS.rows
  else if addr < 0x01020000 then DOOR.rows
  else if addr < 0x01030000 then RING.rows
  else if addr < 0x01100000 then ACT.rows
  else if addr < 0x01120000 then SQ.rows
  else if addr < 0x01130000 then PU.rows
  else if addr < 0x01150000 then OB.rows ++ CE.rows
  else if addr < 0x01160000 then CE.rows
  else if addr < 0x01170000 then SEN.rows
  else if addr < 0x01180000 then POS.rows
  else if addr < 0x01190000 then AX.rows ++ CE.rows
  else if addr < 0x011A0000 then HK.rows
  else if addr < 0x011B0000 then CAN.rows
  else if addr < 0x011C0000 then ETH.rows
  else if addr < 0x011D0000 then PERF.rows
  else if addr < 0x011E0000 then MEM.rows
  else if addr < 0x011F0000 then BIST.rows
  else if addr < 0x01200000 then SEC.rows
  else if addr < 0x01210000 then GI.rows ++ GLK.rows
  else if addr < 0x01300000 then DLI.rows
  else BL.rows

/-- The element of instance `i` whose word stands at an address. -/
def Row.elemAt (r : Row) (i addr : Nat) : Option Nat :=
  let b := r.addr i 0
  if addr < b then none
  else if r.s2 = 0 then (if addr = b then some 0 else none)
  else if (addr - b) % r.s2 = 0 && (addr - b) / r.s2 < r.c2 then some ((addr - b) / r.s2) else none

/-- The instance and element of a row whose word stands at an address. -/
def Row.placeAt (r : Row) (addr : Nat) : Option (Nat × Nat) :=
  (List.range r.c1).findSome? fun i => (r.elemAt i addr).map fun j => (i, j)

/-- The instance of a row whose value stands at a key of the store. -/
def Row.instAt (r : Row) (key : Nat) : Option Nat :=
  if key % 32 = r.lo then (r.placeAt (key / 32)).map (·.1) else none

/-- The state with every cell dropped that belongs to one of these rows and an instance that `p` names: the cell then reads its
reset value. -/
def State.dropCells (s : State) (rows : List Row) (p : Row → Nat → Bool) : State :=
  { s with regs := s.regs.filter fun c => !rows.any fun r => match r.instAt c.1 with
      | some i => p r i
      | none => false }

/-- The fields of the register at an address, with instance and element. -/
def fieldsAt (addr : Nat) : List (Row × Nat × Nat) :=
  (blockRows addr).filterMap fun r =>
    if r.acc = .hid then none else (r.placeAt addr).map fun p => (r, p.1, p.2)

/-- The value that a word written holds for a field. -/
def Row.cut (r : Row) (data : Nat) : Nat := data / 2 ^ r.lo % 2 ^ r.width

/-- The value lies in the range the register table states. -/
def Row.inRange (r : Row) (v : Nat) : Bool :=
  match r.range with
  | none => true
  | some (a, b) => (a ≤ v && v ≤ b) || (r.zeroToo && v == 0)

/-- The word at an address as its fields hold it; reserved bits and write-only fields read 0 (R3, R4), and an offset
no block occupies reads 0 (R250). -/
def State.readWord (s : State) (addr : Nat) : Nat :=
  ((fieldsAt addr).map fun f => if f.1.acc = .wo then 0 else s.get f.1 f.2.1 f.2.2 * 2 ^ f.1.lo).sum

end Sys2Proof.Machine
end

