-- ==== Sys2Proof/Machine/RingOps.lean ====
section
/-!
DEFINITION. What the rings share (11): the status codes, completing a descriptor, writing a record, stopping and
restarting a ring.
-/
namespace Sys2Proof

/-- Inline byte `k` (0 to 15) of a descriptor; bytes beyond LEN are ignored and read 0 (R255). -/
def Desc.byte (d : Desc) (k : Nat) : Nat :=
  if d.len.toNat ≤ k then 0 else
  let w := if k < 4 then d.w0 else if k < 8 then d.w1 else if k < 12 then d.w2 else d.w3
  w.toNat / 256 ^ (k % 4) % 256

end Sys2Proof

namespace Sys2Proof.Machine

/-- The STATUS values of R259. -/
inductive Status where
  | ok | empty | badOp | range | refused | ridgeFail | busy | notEnabled | state | flushed | dmaErr | authFail
deriving DecidableEq, Repr

/-- The code of a STATUS (R259). -/
def Status.code : Status → Nat
  | .ok => 0x00
  | .empty => 0x01
  | .badOp => 0x02
  | .range => 0x03
  | .refused => 0x04
  | .ridgeFail => 0x05
  | .busy => 0x06
  | .notEnabled => 0x07
  | .state => 0x08
  | .flushed => 0x09
  | .dmaErr => 0x0A
  | .authFail => 0x0B

/-- The class of a ring (R252). -/
inductive RingClass where
  | command | buffer | record
deriving DecidableEq, Repr

/-- Rings 0–7, 20–23, 28, 29 and 31 command; 24–27 and 30 buffer; 8–19 record (R252). -/
def ringClass (n : Nat) : RingClass :=
  if n < 8 then .command else if n < 20 then .record else if n < 24 then .command
  else if n < 28 then .buffer else if n < 30 then .command else if n = 30 then .buffer else .command

/-- SIZE is 0 or a power of two from 8 to 4096 (R253). -/
def sizeOk (z : Nat) : Bool := [0, 8, 16, 32, 64, 128, 256, 512, 1024, 2048, 4096].contains z

namespace State

/-- The descriptor in progress of a ring. -/
def desc (s : State) (n : Nat) : Option Desc := s.descs.lookup n

/-- The ring is enabled: SIZE is not 0. -/
def ringOn (s : State) (n : Nat) : Bool := s.is RING.CFG.SIZE n

/-- A slot is handed to the module and the ring runs (R252, R261). -/
def handed (s : State) (n : Nat) : Bool :=
  s.ringOn n && !s.is RING.STAT.HALT n && s.get RING.HEAD.HEAD n != s.get RING.TAIL.TAIL n

/-- RINGn_STAT as a word. -/
def ringStat (s : State) (n : Nat) : Nat :=
  s.get RING.STAT.BUSY n * 2 ^ 31 + s.get RING.STAT.HALT n * 2 ^ 30 + s.get RING.STAT.CFG n * 8
    + s.get RING.STAT.TAIL n * 4 + s.get RING.STAT.LINK n * 2 + s.get RING.STAT.DMA n

/-- ERR_SUM and HALT_SUM follow the ring's STAT. -/
def ringSums (s : State) (n : Nat) : State :=
  (s.setBit RING.ERR_SUM.ERR n (s.ringStat n % 16 != 0)).setBit RING.HALT_SUM.HALT n (s.is RING.STAT.HALT n)

/-- The warning event RING (R270): ARG0 the ring, ARG1 its STAT bits. -/
def ringEvent (s : State) (n : Nat) : State := s.event .warning n 0x02 0x0006 n (s.ringStat n)

/-- An MSI-X vector is signalled: a message, or its pending bit while the vector's table entry is masked (R250, R258). -/
def msixSignal (s : State) (v : Nat) : State :=
  if s.getBit RING.msixTable 0 v 3 then s.setBit RING.pba v true else s.send (.msix v)

/-- A word of the MSI-X table is written (R250): a vector unmasked while it is pending is signalled. -/
def msixWrite (s : State) (v word data : Nat) : State :=
  let t := s.set RING.msixTable data v word
  t.on (t.getBit RING.pba v && !t.getBit RING.msixTable 0 v 3) fun u => (u.setBit RING.pba v false).send (.msix v)

/-- Signal the ring's vector (R258). -/
def ringSignal (s : State) (n : Nat) : State := (s.set RING.unsig 0 n).msixSignal (s.get RING.CFG.VEC n)

/-- The requests of a read of host memory (R249), as address and length: at most the maximum read request size, and none across a 512-byte
boundary. `k` bounds their number. -/
def readParts (mrrs : Nat) : Nat → Nat → Nat → List (Nat × Nat)
  | 0, _, _ => []
  | k + 1, addr, len =>
    if len = 0 then []
    else
      let n := min len (min mrrs (512 - addr % 512))
      (addr, n) :: readParts mrrs k (addr + n) (len - n)

/-- A read of host memory is issued (R249). -/
def hostRead (s : State) (addr len : Nat) : State :=
  let m := s.get RING.mrrs
  (readParts m (len / m + len / 512 + 2) addr len).foldl (fun t p => t.send (.hostRead p.1 p.2)) s

/-- After a slot write: the head advances (R252), the pass ends at the last slot (R256), the write-back follows the
slot write (R257), and the message follows the write-back when CNT is reached or the descriptor asks (R258). -/
def ringAdvance (s : State) (n : Nat) (irq : Bool) : State :=
  let size := s.get RING.CFG.SIZE n
  let head := (s.get RING.HEAD.HEAD n + 1) % size
  let s1 := ((s.set RING.HEAD.HEAD head n).on (head == 0) (·.inc RING.pass n)).inc RING.cplCount n
  let s2 := (s1.incSat RING.unsig n).perfAdd 0x02 n 0x30 1
  let s3 := s2.send (.writeBack n head (s2.ringStat n / 2 ^ 24) (s2.get RING.cplCount n))
  s3.on (irq || s3.get RING.IRQ.CNT n ≤ s3.get RING.unsig n) (·.ringSignal n)

/-- A request of ACT whose descriptor is abandoned (R251): the load goes on for nobody, an ENABLE is still awaited for its axis, a REFRESH stays
staged. -/
def unask (s : State) (k : Nat) : State :=
  let s1 := s.on (s.get ACT.jobSrc == k) (·.set ACT.jobSrc 4)
  let s2 := s1.on (s1.is ACT.wMask k && s1.get ACT.wOp k == 4) fun t =>
    (t.set ACT.wOp 4 4).set ACT.wMask (t.get ACT.wMask 4 ||| t.get ACT.wMask k) 4
  s2.set ACT.wMask 0 k

/-- The descriptor in progress of a ring is abandoned without a completion (R251, R253, R261), and with it what waits in the block for its
completion: its list, its messages on the way to the Belay island and their acceptance, its cairns, its CANCEL, its Ethernet frame. What it
has started in ACT and SEC, and the transition of a POWER, goes on for nobody (DESIGN CHOICE, log entry 49). -/
def abandon (s : State) (n : Nat) : State :=
  let s1 := ({ s with descs := s.descs.filter (·.1 != n), plays := s.plays.filter (·.ring != n),
                      ridgeIn := s.ridgeIn.filter fun m => !(m.chan == 0 && m.inst == n) } : State).set RING.STAT.BUSY 0 n
  match n with
  | 0 => ((s1.unask 1).set RING.snapLeft 0).on (s1.get SYS.pwrBy == 2) (·.set SYS.pwrBy 0)
  | 1 => ((s1.unask 2).set RING.ridgeOk 0).on (s1.get ACT.disSrc == 2) (·.set ACT.disSrc 1)
  | 20 => s1.on (s1.is SEC.finalFw) (·.set SEC.finalFw 2)
  | 21 => s1.on (s1.is SEC.finalCal) (·.set SEC.finalCal 2)
  | 28 => s1.forN 4 fun c t => (t.set CAN.cxl 0 c 0).set CAN.cxlDone 0 c 0
  | 29 => s1.forN 4 fun c t => (t.set CAN.cxl 0 c 1).set CAN.cxlDone 0 c 1
  | 31 => { s1 with ethTxQ := [] }
  | _ => s1

/-- The restart or the disabling of a ring by a SIZE write (R253): the new SIZE, head and tail 0, the first pass; a
halt ends (R261); SIZE 0 sets STAT.CFG and raises RING. -/
def ringRestart (s : State) (n size : Nat) : State :=
  let s2 := ((((s.abandon n).set RING.CFG.SIZE size n).set RING.HEAD.HEAD 0 n).set RING.TAIL.TAIL 0 n).set RING.pass 0 n
  let s3 := (s2.set RING.STAT.HALT 0 n).set RING.sizePend 0 n
  ((s3.on (size == 0) (·.set RING.STAT.CFG 1 n)).ringSums n).on (size == 0) (·.ringEvent n)

/-- Complete the descriptor in progress (R256, R257), then a SIZE write that waited for it (R253). -/
def complete (s : State) (n : Nat) (st : Status) (result : Nat) : State :=
  match s.desc n with
  | none => s
  | some d =>
    let s1 := s.send (.completion n (s.get RING.HEAD.HEAD n) (s.get RING.pass n % 2 == 0) st.code d.tag.toNat
      (result % 2 ^ 32))
    let s2 := ({ s1 with descs := s1.descs.filter (·.1 != n), plays := s1.plays.filter (·.ring != n) }).set
      RING.STAT.BUSY 0 n
    let s3 := s2.ringAdvance n d.irq
    if s3.is RING.sizePend n then s3.ringRestart n (s3.get RING.sizeNew n) else s3

/-- Write one record into the slot at the head (R256): the caller has checked that one is handed. -/
def writeRecord (s : State) (n rtype last : Nat) (payload : List Nat) : State :=
  let s1 := s.send (.record n (s.get RING.HEAD.HEAD n) (s.get RING.pass n % 2 == 0) rtype (s.get RING.recSeq n)
    last payload)
  (s1.inc RING.recSeq n).ringAdvance n false

/-- Every ring stops (R251): descriptors in progress are abandoned, STAT.HALT and STAT.LINK set for every enabled
ring, the other ring registers keep their values. -/
def stopRings (s : State) : State :=
  s.forN 32 fun n t =>
    let t1 := t.abandon n
    let t2 := t1.on (t1.is RING.sizePend n) fun u => u.ringRestart n (u.get RING.sizeNew n)
    t2.on (t2.ringOn n) fun u => ((u.set RING.STAT.HALT 1 n).set RING.STAT.LINK 1 n).ringSums n

/-- A ring halts on a PCIe error (R261). -/
def haltRing (s : State) (n : Nat) : State :=
  ((((s.abandon n).set RING.STAT.HALT 1 n).set RING.STAT.DMA 1 n).ringSums n).ringEvent n

/-- The descriptor in progress of ring `n` when it has this OP. -/
def running (s : State) (n op : Nat) : Option Desc :=
  match s.desc n with
  | some d => if d.op.toNat = op then some d else none
  | none => none

/-- The words of a CAN frame record (R273): time, bytes 8 to 11, bytes 12 to 15, and the data bytes. -/
def canWords (r : CanRec) : List Nat :=
  [r.time, ofBool r.frame.ide * 2 ^ 31 + ofBool r.frame.fdf * 2 ^ 30 + ofBool r.frame.brs * 2 ^ 29 + r.frame.ident.toNat, r.word]
    ++ r.frame.data.map (·.toNat)

/-- A waiting frame of a controller fills the buffer that its ring has (R273, R357). -/
def canDeliver (s : State) (c : Nat) : State :=
  match s.canRxQ.find? (fun r => r.ctrl == c) with
  | none => s
  | some r =>
    if (s.desc (24 + c)).isNone then s
    else
      let s1 := { s with canRxQ := s.canRxQ.eraseP (fun r => r.ctrl == c) }
      (s1.send (.hostData (24 + c) (canWords r))).complete (24 + c) .ok (16 + r.frame.data.length)

/-- A frame for a controller's ring (R273, R357): it waits among at most 32, or is dropped and counted. -/
def canQueue (s : State) (r : CanRec) : State :=
  if (s.canRxQ.countP fun x => x.ctrl == r.ctrl) < 32 then
    ({ s with canRxQ := s.canRxQ ++ [r] } : State).canDeliver r.ctrl
  else s.incSat RING.CNT.DROP_FULL (24 + r.ctrl)

end State
end Sys2Proof.Machine
end

