-- ==== Sys2Proof/Machine/CanOps.lean ====
section
/-!
DEFINITION. The transmit buffers of the CAN controllers (15), which the host's frames and NET's Ridge responses share.
-/
namespace Sys2Proof.Machine

/-- The order of arbitration (R352): the lower identifier wins, base before extended on equal leading bits. -/
def arbKey (f : CanFrame) : Nat :=
  if f.ide then f.ident.toNat / 2 ^ 18 * 2 ^ 20 + 2 ^ 19 + f.ident.toNat % 2 ^ 18 else f.ident.toNat % 2 ^ 11 * 2 ^ 20

namespace State

/-- The frame of a buffer, active or shadow. -/
def canFrame (s : State) (c b : Nat) (shadow : Bool) : Option CanFrame := s.canTx.lookup (c, b, shadow)

/-- A frame put into a buffer. -/
def canPut (s : State) (c b : Nat) (shadow : Bool) (f : CanFrame) : State :=
  let s1 := s.setBit (if shadow then CAN.TXB_SHD.SHD else CAN.TXB_ACT.ACT) b true c
  { s1 with canTx := ((c, b, shadow), f) :: s1.canTx.filter (fun x => x.1 != (c, b, shadow)) }

/-- A frame taken out of a buffer. -/
def canDrop (s : State) (c b : Nat) (shadow : Bool) : State :=
  let s1 := s.setBit (if shadow then CAN.TXB_SHD.SHD else CAN.TXB_ACT.ACT) b false c
  { s1 with canTx := s1.canTx.filter fun x => x.1 != (c, b, shadow) }

/-- The active frame is done: the shadow takes its place (R351). -/
def canShift (s : State) (c b : Nat) : State :=
  let s1 := s.canDrop c b false
  match s1.canFrame c b true with
  | some f => (s1.canDrop c b true).canPut c b false f
  | none => s1

/-- The controller takes part in the bus. -/
def canOn (s : State) (c : Nat) : Bool := s.get CAN.STATUS.STATE c == 2 || s.get CAN.STATUS.STATE c == 3

/-- The choice at an interframe space (R352): the lowest identifier among the active frames, then the lowest buffer; none while
the controller is off the bus, only monitors it (R357) or is in restricted operation (ISO 11898-1; PRESUMED, log entry 14). With FDOE clear a
CAN FD frame waits (R348; DESIGN CHOICE, log entry 14). -/
def canChoose (s : State) (c : Nat) : State :=
  let fs := (List.range 32).filterMap fun b => ((s.canFrame c b false).filter fun f => !f.fdf || s.is CAN.CTL.FDOE c).map fun f => (b, arbKey f)
  let best := fs.foldl (fun (m : Option (Nat × Nat)) x => match m with
    | some y => if x.2 < y.2 then some x else m
    | none => some x) none
  if s.canOn c && !s.is CAN.CTL.MON c && !s.is CAN.CTL.ROM c then s.set CAN.cur (best.elim 0 fun x => x.1 + 1) c else s.set CAN.cur 0 c

/-- Buffer 31 of a controller that an enabled Ridge slot names is NET's (R351). -/
def canReserved (s : State) (c : Nat) : Bool :=
  (List.range 16).any fun k => s.is BL.RS_CFG.EN k && s.get BL.RS_CFG.CHAN k == 1 && s.get BL.RS_CFG.INST k == c

end State
end Sys2Proof.Machine
end

