-- ==== Sys2Proof/Machine/Flags.lean ====
section
/-!
DEFINITION. The check values that the rules give by polynomial: the reflected CRC-32 and CRC-32C, and the plain CRCs of
the gate, DLI and CAP links.
-/
namespace Sys2Proof.Machine

/-- One bit of a reflected CRC. -/
def crcBitR (poly c : Nat) : Nat := if c % 2 = 1 then (c / 2) ^^^ poly else c / 2

/-- One byte of a reflected CRC. -/
def crcByteR (poly c b : Nat) : Nat :=
  let f := crcBitR poly
  f (f (f (f (f (f (f (f (c ^^^ b))))))))

/-- A reflected 32-bit CRC with initial value and final XOR of 0xFFFF_FFFF. -/
def crcR (poly : Nat) (bytes : List Nat) : Nat := bytes.foldl (crcByteR poly) 0xFFFFFFFF ^^^ 0xFFFFFFFF

/-- CRC-32 of IEEE 802.3 (R238): polynomial 0x04C1_1DB7, reflected 0xEDB8_8320. -/
def crc32 (bytes : List Nat) : Nat := crcR 0xEDB88320 bytes

/-- CRC-32C (R311): polynomial 0x1EDC_6F41, reflected 0x82F6_3B78. -/
def crc32c (bytes : List Nat) : Nat := crcR 0x82F63B78 bytes

/-- One bit of a CRC of width `w` that takes the most significant bit first. -/
def crcBitM (w poly c : Nat) (b : Bool) : Nat :=
  let top := bit c (w - 1) != b
  let c' := c * 2 % 2 ^ w
  if top then c' ^^^ poly else c'

/-- A CRC over bits, most significant bit first. -/
def crcM (w poly init : Nat) (bs : List Bool) : Nat := bs.foldl (crcBitM w poly) init

/-- The `n` low bits of `v`, most significant first. -/
def bitsM (n v : Nat) : List Bool := (List.range n).map fun i => bit v (n - 1 - i)

/-- CRC-8 of a gate-link frame (R189) over its bits [39:8], given as a number: x^8 + x^5 + x^3 + x^2 + x + 1. -/
def crc8Gate (w : Nat) : Nat := crcM 8 0x2F 0xFF (bitsM 32 w)

/-- Bits [39:8] of a gate-link frame (R190): SOF as two ones, TYPE, and bits [34:8]. -/
def gateHead (ftype body : Nat) : Nat := 3 * 2 ^ 30 + ftype % 8 * 2 ^ 27 + body % 2 ^ 27

/-- A gate-link frame is valid (R189, R214): it opens with an SOF, its TYPE is not reserved, and it passes its CRC-8. -/
def gateFrameOk (w : Nat) : Bool := w / 2 ^ 38 == 3 && decide (w / 2 ^ 35 % 8 < 5) && crc8Gate (w / 256) == w % 256

/-- The four bytes of a word, least significant first. -/
def bytes4 (w : Nat) : List Nat := [w % 256, w / 256 % 256, w / 65536 % 256, w / 16777216 % 256]

/-- A number from bytes, the first the least significant. -/
def leNat : List Nat → Nat
  | [] => 0
  | b :: bs => b + 256 * leNat bs

/-- Bytes of a number, least significant first. -/
def leBytes (n v : Nat) : List Nat := (List.range n).map fun i => v / 256 ^ i % 256

end Sys2Proof.Machine
end

