-- ==== Sys2Proof/Machine/RidgeOps.lean ====
section
/-!
DEFINITION. The Ridge safety layer (13): the trailer, the checks and their outcome, sessions, and what an accepted or a
refused message does.
-/
namespace Sys2Proof.RidgeMsg
open Sys2Proof.Machine

/-- Byte `k` of the message. -/
def byte (m : RidgeMsg) (k : Nat) : Nat := m.data.getD k 0

/-- SEQ (R310). -/
def seq (m : RidgeMsg) : Nat := m.byte 8 + 256 * m.byte 9

/-- DST (R310). -/
def dst (m : RidgeMsg) : Nat := m.byte 10

/-- SRC (R310). -/
def src (m : RidgeMsg) : Nat := m.byte 11

/-- CHK (R310). -/
def chk (m : RidgeMsg) : Nat := leNat ((m.data.drop 12).take 4)

/-- CHK as R311 forms it under a seed. -/
def chkOf (m : RidgeMsg) (seed : Nat) : Nat :=
  crc32c (m.data.take 8 ++ [m.dst, m.src] ++ leBytes 2 m.seq ++ leBytes 4 seed)

end Sys2Proof.RidgeMsg

namespace Sys2Proof.Machine
namespace State

/-- The enabled slot that names a destination on a channel (R308, R309). -/
def slotOn (s : State) (dst chan inst : Nat) : Option Nat :=
  (List.range 16).find? fun k => s.is BL.RS_CFG.EN k && s.get BL.RS_CFG.DST k == dst && s.get BL.RS_CFG.CHAN k == chan
    && s.get BL.RS_CFG.INST k == inst

/-- The slot of a message: on PCIe the ring carries one destination alone, DST n on ring n (R308). -/
def msgSlot (s : State) (m : RidgeMsg) : Option Nat :=
  if m.chan = 0 then (if m.dst = m.inst then s.slotOn m.dst 0 0 else none) else s.slotOn m.dst m.chan m.inst

/-- Steps forward from LAST to SEQ along 1 … 0xFFFF, 1 … (R312). -/
def seqSteps (last seq : Nat) : Nat := if last = 0 then seq else (seq + 65535 - last) % 65535

/-- The EtherType of a slot (R315): RX_ID [15:0]; the default 0x88B5 stands where it is 0, its reset value (DEDUCED, log entry 50). -/
def slotType (s : State) (k : Nat) : Nat :=
  let t := s.get BL.RS_CFG2.RX_ID k % 65536
  if t = 0 then 0x88B5 else t

/-- The slot's RX_ID or EtherType took the frame in (R315). -/
def slotTakes (s : State) (m : RidgeMsg) (k : Nat) : Bool :=
  s.is BL.RS_CFG.EN k && s.get BL.RS_CFG.CHAN k == m.chan && s.get BL.RS_CFG.INST k == m.inst
    && (if m.chan = 2 then s.slotType k else s.get BL.RS_CFG2.RX_ID k) == m.ident

/-- The checks of R312 in their order: 0 accepted, else the reason code. -/
def ridgeJudge (s : State) (m : RidgeMsg) : Nat :=
  if m.chan ≠ 0 ∧ m.data.length ≠ 16 then 6
  else match s.msgSlot m with
    | none => 1
    | some k =>
      if s.get BL.RS_STAT.STATE k = 0 ∧ m.seq ≠ 0 then 7
      else if m.src ≠ s.get BL.RS_CFG.SRC k then 2
      else if m.chk ≠ m.chkOf (if m.seq = 0 then 0 else s.get BL.RS_SEED.SEED k) then 3
      else if m.seq = 0 then 0
      else
        let d := seqSteps (s.get BL.RS_STAT.LAST k) m.seq
        if d = 0 ∨ 0x7FFF < d then 4 else if s.get BL.RS_CFG2.SEQ_GAP k < d then 5 else 0

/-- A refusal counted on a slot (R312); with `run` also in REFUSE_RUN, whose eighth closes the slot. -/
def countRefusal (s : State) (k reason : Nat) (run : Bool) : State :=
  let s1 := (s.set BL.RS_STAT.REASON reason k).incSat BL.RS_CNT.REFUSED k
  if !run then s1
  else
    let s2 := s1.incSat BL.RS_STAT.REFUSE_RUN k
    if 8 ≤ s2.get BL.RS_STAT.REFUSE_RUN k && s2.is BL.RS_STAT.STATE k then
      (s2.set BL.RS_STAT.STATE 0 k).safetyLog k 0x0211 k 0
    else s2

/-- The slots on which a refused message is counted (R312). -/
def refuseCount (s : State) (m : RidgeMsg) (reason : Nat) : State :=
  if reason = 6 then s.forN 16 fun k t => t.on (t.slotTakes m k) (·.countRefusal k reason true)
  else if reason = 1 then (s.slotAny m.dst).elim s fun k => s.countRefusal k reason false
  else (s.msgSlot m).elim s fun k => s.countRefusal k reason true

/-- The channel of a slot can carry a response (R316): NET is powered, the controller not in bus-off, the link up. -/
def respCan (s : State) (k : Nat) : Bool :=
  let i := s.get BL.RS_CFG.INST k
  s.getBit SYS.PWR_STAT.PD_ON 6
    && (if s.get BL.RS_CFG.CHAN k = 1 then decide (s.get CAN.STATUS.STATE i < 4) else s.is ETH.PSTAT.LINK i)

/-- The frame of a response on CAN (R315, R316): CAN FD with DLC 10 under the slot's TX_ID, which no register holds (free, log entry 50). -/
def respFrame (k : Nat) (data : List Nat) : CanFrame :=
  let id := Config.free 316 [k] % 2 ^ 29
  { ide := decide (0x7FF < id), fdf := true, brs := true, rtr := false, esi := false, ident := BitVec.ofNat 29 id, dlc := 10,
    data := data.map (BitVec.ofNat 8) }

/-- A response dropped (R316). -/
def respDrop (s : State) (k : Nat) : State := s.incSat BL.RS_CNT.TX_DROP k

/-- NET's response to a network START or command (R316) of `src` to `dst`, which it exchanges, with CHK under the seed: on CAN through
buffer 31 (R351), on Ethernet to `mac`. One that cannot be sent is dropped and counted, and so is one that finds both frames of the buffer
waiting (DESIGN CHOICE, log entry 50). -/
def respond (s : State) (k src dst mac op status result seq respSeq seed : Nat) : State :=
  let body := [op, status] ++ leBytes 4 result ++ leBytes 2 seq
  let chk := crc32c (body ++ [src, dst] ++ leBytes 2 respSeq ++ leBytes 4 seed)
  let data := body ++ leBytes 2 respSeq ++ [src, dst] ++ leBytes 4 chk
  let c := s.get BL.RS_CFG.INST k
  if !s.respCan k then s.respDrop k
  else if s.get BL.RS_CFG.CHAN k ≠ 1 then s.send (.ridgeResponse c mac data)
  else if (s.canFrame c 31 false).isNone then
    (s.canPut c 31 false (respFrame k data)).on (!s.is CAN.cur c) (·.canChoose c)
  else if (s.canFrame c 31 true).isNone then s.canPut c 31 true (respFrame k data)
  else s.respDrop k

/-- A command's response, with the slot's next response sequence number. -/
def respondNext (s : State) (k src dst mac op status result seq : Nat) : State :=
  (s.respond k src dst mac op status result seq (s.get BL.respSeq k) (s.get BL.RS_SEED.SEED k)).inc BL.respSeq k

/-- A command's response to a message. -/
def respondTo (s : State) (m : RidgeMsg) (k status result : Nat) : State :=
  s.respondNext k m.src m.dst m.mac (m.byte 0) status result m.seq

/-- The list that a setpoint ring plays. -/
def play (s : State) (n : Nat) : Option Play := s.plays.find? (·.ring == n)

/-- The list of a ring replaced. -/
def setPlay (s : State) (p : Play) : State := { s with plays := p :: s.plays.filter (·.ring != p.ring) }

/-- The descriptor of a ring's list completes (R267): OK, or RIDGE_FAIL if any record was refused, with RESULT the number accepted. -/
def playDone (s : State) (p : Play) : State := s.complete p.ring (if p.refused then .ridgeFail else .ok) p.accepted

/-- The channel that a setpoint destination serves (R308). -/
def dstCh (dst : Nat) : Nat := if dst = 7 then 7 else dst - 2

/-- A record of a ring's list has been judged (R267): counted; the descriptor completes when the last one has been refused, or has gone into
force. -/
def playJudged (s : State) (n : Nat) (ok : Bool) : State :=
  match s.play n with
  | none => s
  | some p =>
    let q : Play := { p with accepted := p.accepted + ofBool ok, refused := p.refused || !ok }
    if !q.left.isEmpty then s.setPlay q
    else if ok && s.is CE.spPend (dstCh n) then s.setPlay { q with waits := true }
    else s.playDone q

/-- The lists whose last record has gone into force complete (R267). -/
def playsForced (s : State) : State :=
  s.plays.foldl (fun t p => t.on (p.waits && !t.is CE.spPend (dstCh p.ring)) (·.playDone p)) s

/-- PREEMPT (R267): the records still to be played are abandoned and the descriptor completes FLUSHED. -/
def preempted (s : State) (n : Nat) : State := s.complete n .flushed ((s.play n).elim 0 (·.accepted))

/-- The slot through which NET answers a network message: the one it is for, else the first that took the frame in. -/
def answerSlot (s : State) (m : RidgeMsg) : Option Nat :=
  match s.msgSlot m with
  | some k => some k
  | none => (List.range 16).find? (s.slotTakes m)

/-- What a refused message gives its sender (R259, R312, R316): RIDGE_FAIL on a ring; on the network a response to a
START or command whose status byte holds the reason: a START's as the session it did not open would have it, OP 0 and sequence 0 under seed
0. A frame refused FORMAT has no trailer that would make it a START or a command, and gets none (DESIGN CHOICE, log entry 50). -/
def refuse (s : State) (m : RidgeMsg) (reason : Nat) : State :=
  let s1 := s.refuseCount m reason
  if m.chan = 0 then
    if m.inst = 1 then s1.complete 1 .ridgeFail reason else s1.playJudged m.inst false
  else if reason = 6 then s1
  else if m.seq = 0 then (s1.answerSlot m).elim s1 fun k => s1.respond k m.src m.dst m.mac 0 reason 0 0 0 0
  else if m.dst = 1 || m.dst = 8 then (s1.answerSlot m).elim s1 fun k => s1.respondTo m k reason reason
  else s1

/-- A lapse ends at an accepted setpoint (R294): the Belay torque limit rises back to its normal value. -/
def lapseEnd (s : State) (a : Nat) : State :=
  (s.set BL.AXIS.LAPSED 0 a).on (s.get BL.lapse a == 1 || s.get BL.lapse a == 2) (·.lapseTo a 3)

/-- An accepted setpoint (R266): it ends a lapse of its axis (R294, R314), and waits for its boundary at the channel's
data port; SP_TMO counts from it (R267). A channel that is not enabled takes none. -/
def acceptSetpoint (s : State) (m : RidgeMsg) : State :=
  let ch := dstCh m.dst
  let s0 := (s.set BL.lastSeq m.seq ch).set BL.winT s.now ch
  let s1 := if ch = 7 then (if s.joined then (s0.lapseEnd 0).lapseEnd 1 else s0)
    else if ch < 2 && !s.joined then s0.lapseEnd ch else s0
  if !s1.is ACT.chEn ch then s1
  else
    let s2 := (((s1.set CE.spNewVal (m.byte 0 + 256 * m.byte 1) ch).set CE.spNewLim (m.byte 2 + 256 * m.byte 3) ch).set
      CE.spNewMode (m.byte 4) ch).set CE.spPend 1 ch
    if ch = 7 || ch < 2 then s2 else (s2.set AX.spEver 1 (ch - 2)).on (!s2.is AX.spIgn (ch - 2)) (·.set AX.spT s2.now (ch - 2))

/-- The operations of a command destination (R263, R308). -/
def netOps (dst : Nat) : List Nat := if dst = 8 then [0x07] else [0x10, 0x11, 0x12, 0x13]

/-- An accepted data message (R312): the sequence advances, the run of refusals ends, and the message takes effect by
its destination. A network command with another OP is answered BAD_OP, one that finds another not yet executed BUSY. -/
def acceptData (s : State) (m : RidgeMsg) (k : Nat) : State :=
  let d := seqSteps (s.get BL.RS_STAT.LAST k) m.seq
  let s1 := ((s.set BL.RS_STAT.LAST m.seq k).set BL.RS_STAT.REFUSE_RUN 0 k).set BL.RS_CNT.LOST
    (min (s.get BL.RS_CNT.LOST k + (d - 1)) 0xFFFF) k
  if 2 ≤ m.dst && m.dst ≤ 7 then
    let s2 := s1.acceptSetpoint m
    if m.chan = 0 then s2.playJudged m.inst true else s2
  else if m.chan = 0 then s1.setb RING.ridgeOk (s1.desc 1).isSome
  else if !(netOps m.dst).contains (m.byte 0) then s1.respondTo m k Status.badOp.code 0
  else if s1.is BL.netBusy then s1.respondTo m k Status.busy.code 0
  else
    (((((s1.set BL.netBusy 1).set BL.netOp (m.byte 0)).set BL.netArg (leNat ((m.data.drop 1).take 7))).set BL.netSlot k).set
      BL.netSeq m.seq).set BL.netMac m.mac

/-- A START opens its slot (R313): the counter, the new seed, LAST 0, OPEN; it takes no other effect. -/
def openSession (s : State) (m : RidgeMsg) (k : Nat) : State :=
  let s1 := s.inc BL.sesCnt k
  let c := crc32c ([k] ++ m.data.take 4 ++ leBytes 4 (s1.get BL.sesCnt k))
  let seed := if c = 0 then 0xFFFFFFFF else c
  ((((s1.set BL.RS_SEED.SEED seed k).set BL.RS_STAT.LAST 0 k).set BL.RS_STAT.STATE 1 k).set
    BL.RS_STAT.REFUSE_RUN 0 k).safetyLog k 0x0211 k 1 |>.on (2 ≤ m.dst && m.dst ≤ 7) (·.set BL.winT s.now (dstCh m.dst))

/-- An accepted START (R313, R316): it completes OK on ring 1 with the 16 bytes processed (R256), counts as an accepted record on a setpoint
ring, and is answered on the network with the seed. -/
def acceptStart (s : State) (m : RidgeMsg) (k : Nat) : State :=
  let s1 := s.openSession m k
  if m.chan = 0 then
    if m.inst = 1 then s1.complete 1 .ok 16 else s1.playJudged m.inst true
  else (s1.respond k m.src m.dst m.mac 0x00 0 (s1.get BL.RS_SEED.SEED k) 0 0 0).set BL.respSeq 1 k

/-- A piton of the Ridge layer spoils the slot's next message (R328): SEL 6 inverts a bit of CHK, SEL 8 alters SRC. -/
def ridgeSpoil (s : State) (m : RidgeMsg) (k : Nat) : State × RidgeMsg :=
  if s.pit 0x30 6 k then (s, { m with data := m.data.set 12 (m.byte 12 ^^^ 1) })
  else if s.pit 0x30 8 k then (s, { m with data := m.data.set 11 (m.byte 11 ^^^ 1) })
  else (s, m)

/-- One message is checked and takes its outcome. -/
def ridgeTake (s : State) (m : RidgeMsg) : State :=
  let r := s.ridgeJudge m
  if r ≠ 0 then s.refuse m r
  else match s.msgSlot m with
    | none => s
    | some k => if m.seq = 0 then s.acceptStart m k else s.acceptData m k

/-- The message is discarded (R328): its record or command ends refused; no rule gives its RESULT (free). -/
def ridgeDiscard (s : State) (m : RidgeMsg) : State :=
  if m.chan ≠ 0 then s
  else if m.inst = 1 then s.complete 1 .ridgeFail (Config.free 328 [m.seq]) else s.playJudged m.inst false

/-- One message is checked and takes its outcome, spoiled by a piton armed on its slot (R328): SEL 6 CHK, 7 twice, 8 SRC, 9 the slot's
messages discarded for WIN + 1 ms. What a message presented again gives its sender stands already. -/
def ridgeMeet (s : State) (m : RidgeMsg) : State :=
  match s.msgSlot m with
  | none => s.ridgeTake m
  | some k =>
    if s.get BL.winDiscard == k + 1 && decide (s.now < s.get BL.winDT + 400000 * (s.get BL.RS_CFG.WIN k + 1)) then s.ridgeDiscard m
    else if s.pit 0x30 9 k then ((s.pitAct.set BL.winDiscard (k + 1)).set BL.winDT s.now).ridgeDiscard m
    else if s.pit 0x30 6 k || s.pit 0x30 8 k then
      let (t, m') := s.ridgeSpoil m k
      t.pitAct.ridgeTake m'
    else if s.pit 0x30 7 k then
      let t := s.pitAct.ridgeTake m
      let r := t.ridgeJudge m
      if r ≠ 0 then t.refuseCount m r else t.on (m.seq == 0) (·.openSession m k)
    else s.ridgeTake m

/-- The message of a ring that stands in the Belay check completes it (R275, PREEMPT). -/
def ridgeDrain (s : State) (n : Nat) : State :=
  match s.ridgeIn.find? fun m => m.chan == 0 && m.inst == n with
  | none => s
  | some m => ({ s with ridgeIn := s.ridgeIn.erase m }).ridgeMeet m

/-- The accepted safety command with this OP (R263, R315): from ring 1, or from the network; its command bytes as a
number, the first the least significant. -/
def command (s : State) (net : Bool) (op : Nat) : Option Nat :=
  if net then (if s.is BL.netBusy && s.get BL.netOp == op then some (s.get BL.netArg) else none)
  else match s.running 1 op with
    | some d => if s.is RING.ridgeOk then some (d.w0.toNat + 2 ^ 32 * d.w1.toNat) else none
    | none => none

/-- A safety command ends (R263, R316): its completion on ring 1, or its response on the network. -/
def commandDone (s : State) (net : Bool) (st : Status) (result : Nat) : State :=
  if net then
    let k := s.get BL.netSlot
    (s.set BL.netBusy 0).respondNext k (s.get BL.RS_CFG.SRC k) (s.get BL.RS_CFG.DST k) (s.get BL.netMac) (s.get BL.netOp) st.code result
      (s.get BL.netSeq)
  else (s.set RING.ridgeOk 0).complete 1 st result

/-- A safety command whose OP defines no RESULT ends: one that is done gives the payload bytes processed, 16 of ring 1 (R256); one that is not
has processed none, and the response of a network command gives 0 (DESIGN CHOICE, log entry 49). -/
def commandOver (s : State) (net : Bool) (st : Status) : State := s.commandDone net st (if !net && st == .ok then 16 else 0)

end State

/-- The channel of a setpoint ring (R265): ring 7 the joined machine, ring n channel n − 2. -/
def ringCh (n : Nat) : Nat := State.dstCh n

end Sys2Proof.Machine
end

