-- ==== Sys2Proof/Machine/DriveOps.lean ====
section
/-!
DEFINITION. What the drive blocks share: gate-link downlink frames (08), the mode of a traction axis (04), and the trip
unit (06).
-/
namespace Sys2Proof.Machine

/-- The axis of a traction channel. -/
def chAx (ch : Nat) : Nat := if ch = 1 then 1 else 0

/-- The control engines of a traction channel. -/
def chEngines (ch : Nat) : List Nat := if ch = 7 then [0, 1, 2, 3] else [2 * chAx ch, 2 * chAx ch + 1]

/-- The engines whose programs run while a traction channel is enabled (R167, R186): its control engines and its OB. -/
def chRuns (ch : Nat) : List Nat := chEngines ch ++ (if ch = 7 then [4, 5] else [4 + chAx ch])

namespace State

/-- The axis of a current channel or leg, 0 to 5. -/
def chAxis (ch : Nat) : Nat := ch / 3

/-- The three channels of a star. -/
def starCh (star : Nat) : List Nat := [3 * star, 3 * star + 1, 3 * star + 2]

/-- The channel's fast and control samples carry no invalid mark of their start (R43). -/
def chValid (s : State) (ch : Nat) : Bool := s.getBit SEN.STATUS.CH_VALID ch

/-- The channel has once been lost on the primary path and is not used again (R51). -/
def chLost (s : State) (ch : Nat) : Bool := s.is SEN.lostCh ch

/-- A consumer uses the channel's sample (R43, R51): its own, without the invalid mark and never lost, or the substituted one of two
such samples. -/
def chUsed (s : State) (ch : Nat) : Bool :=
  if s.is SEN.CH_STAT.SUBST ch then (starCh (chAxis ch)).all fun k => k == ch || s.chValid k else s.chValid ch && !s.chLost ch

/-- The comparators of an axis's channels at its trip unit (R49). -/
def ocTrip (s : State) (a : Nat) : State :=
  s.tripIn a 5 ((starCh a).any fun k => s.getBit SEN.chCond 3 k || s.getBit SEN.chCond 4 k)

/-- A gate-link downlink frame to an island (R189, R190): TYPE, bits [34:8] and the CRC-8. -/
def gate (s : State) (island ftype body : Nat) : State := s.send (.gateFrame island ftype body (crc8Gate (gateHead ftype body)))

/-- An EDGE frame (R190): DIR in [33], SLOT in [32:29], DLY in [28:17]. -/
def gateEdge (s : State) (island : Nat) (on : Bool) (slot dly : Nat) : State :=
  (s.gate island 1 (ofBool on * 2 ^ 25 + slot % 16 * 2 ^ 21 + dly % 4096 * 2 ^ 9)).setb GI.cmdOn on island

/-- A SOFT_OFF frame (R190): SRC in [33:29], the trip source bit or 31 for a module command. -/
def gateSoftOff (s : State) (island src : Nat) : State :=
  (s.gate island 2 (src % 32 * 2 ^ 21)).set GI.cmdOn 0 island

/-- A CFG_WR frame (R190, R216): ADDR in [33:24], DATA in [23:12]; PEND stands until the island has taken it. -/
def gateWrite (s : State) (island addr data : Nat) : State :=
  ((s.gate island 3 (addr % 1024 * 2 ^ 16 + data % 4096 * 2 ^ 4)).incSat GI.cfgOut island).set GI.STATUS.PEND 1 island

/-- RELEASE goes to an island (R194). -/
def gateRelease (s : State) (island : Nat) : State := (s.set GI.relNo 0 island).gateWrite island 0x1C0 1

/-- Off-state diagnostics of a star end aborted (R212): the currents stop and no result is written. -/
def osdAbort (s : State) (star : Nat) : State :=
  if star = 0 then s.on (s.get GLK.OSD_RES.STAT_A == 1) fun t => (t.set GLK.OSD_RES.STAT_A 4).set GLK.OSD_CMD.START_A 0
  else s.on (s.get GLK.OSD_RES.STAT_B == 1) fun t => (t.set GLK.OSD_RES.STAT_B 4).set GLK.OSD_CMD.START_B 0

/-- A CFG_RD frame (R190): ADDR in [33:24]. -/
def gateRead (s : State) (island addr : Nat) : State := s.gate island 4 (addr % 1024 * 2 ^ 16)

/-- The module is PARKED (R417). -/
def parked (s : State) : Bool := s.get SYS.PWR_STAT.STATE == 2

/-- SQ STATUS.MODE of an axis, with its MODE event (R270; its class is not stated, log entry 21). Modes: 0 IDLE,
1 CATCH, 2 CARRIER, 3 TRAV_UP, 4 TABLE, 5 TRAV_DN, 6 STOPPING, 7 SAFE. -/
def setMode (s : State) (a m : Nat) : State :=
  let old := s.get SQ.STATUS.MODE a
  if old = m then s else (s.set SQ.STATUS.MODE m a).event .info a (0x10 + a) 0x0004 old m

/-- The mode of the axis's pipeline; in joined mode axis A's. -/
def mode (s : State) (a : Nat) : Nat := s.get SQ.STATUS.MODE (s.lead a)

/-- The PU whose trip unit serves a unit's sources: PU0 for both stars in joined mode (R154). -/
def tripUnit (s : State) (pu : Nat) : Nat := if s.joined && pu == 1 then 0 else pu

/-- The outputs of an axis's unit attach or detach (R143); in joined mode PU1's do with PU0's. -/
def detach (s : State) (a : Nat) (b : Bool) : State :=
  (s.setb PU.STATUS.DETACHED b a).on (s.joined && a == 0) (·.setb PU.STATUS.DETACHED b 1)

/-- In joined mode PU1 runs from PU0's counter, with the same count in every cycle (R144). -/
def follow (s : State) : State :=
  if !s.joined then s
  else [PU.STATUS.DOWN, PU.CNT.CNT, PU.cntT, PU.perAct].foldl (fun t r => t.set r (t.get r 0) 1) s

/-- The islands of a traction unit's axis: all twelve in joined mode (R154). -/
def islands (s : State) (a : Nat) : List Nat :=
  if s.joined then List.range 12 else (List.range 6).map (· + 6 * a)

/-- The bridge of an aux unit turns off: no turn-on that has been placed follows. -/
def bridgeOff (s : State) (pu : Nat) : State := s.forN 6 fun k t => (t.set PU.sw 0 pu k).set PU.onT 0 pu k

/-- The channel of an aux unit stops: its bridge off, STATE OFF (R219, R223 to R226). -/
def axHalt (s : State) (pu : Nat) : State :=
  let k := pu - 2
  let s1 := (((s.bridgeOff pu).set AX.CH_STAT.STATE 0 k).setBit AX.STATUS.CH_RUN k false).set AX.step 0 k
  [AX.ref, AX.CH_SPD.SPD_REF, AX.iq, AX.idRef, AX.spInt, AX.src, AX.polPh].foldl (fun t r => t.set r 0 k) s1

/-- Every switch of a unit off: SOFT_OFF with the source to each island of the axis, whether its switch is on or off;
an aux bridge directly (R153), and AX stops the channel, which waits for ENABLE (R219). -/
def puOff (s : State) (pu src : Nat) : State :=
  if pu < 2 then (s.islands pu).foldl (fun t i => t.gateSoftOff i src) s
  else ((s.axHalt pu).set PU.STATUS.FROZEN 0 pu).set ACT.chEn 0 pu

/-- The TRIP event of the trip in progress (R270). -/
def tripEvent (s : State) (pu : Nat) : State :=
  if s.is PU.evPend pu then
    (s.set PU.evPend 0 pu).eventAt (s.get PU.evTime pu) .fault pu 0x12 0x0003
      (s.get PU.TRIP_STAT.TRIPPED pu * 2 ^ 30 + s.get PU.TRIP_STAT.CLEAR_REFUSED pu * 2 ^ 31 + s.get PU.TRIP_STAT.SRC pu)
      (s.get PU.FIRST_FAULT.VALID pu * 2 ^ 31 + s.get PU.FIRST_FAULT.SIMUL pu * 2 ^ 30
        + s.get PU.FIRST_FAULT.SRC pu * 256 + s.get PU.FIRST_FAULT.UNIT pu)
  else s

/-- The time in FIRST_TIME. -/
def firstTime (s : State) (pu : Nat) : Nat :=
  s.get PU.FIRST_TIME.TIME pu 0 + 2 ^ 32 * s.get PU.FIRST_TIME.TIME pu 1

/-- FIRST_FAULT and FIRST_TIME. -/
def setFirst (s : State) (pu src unit tick : Nat) : State :=
  ((((s.set PU.FIRST_FAULT.VALID 1 pu).set PU.FIRST_FAULT.SRC src pu).set PU.FIRST_FAULT.UNIT unit pu).set
    PU.FIRST_TIME.TIME tick pu 0).set PU.FIRST_TIME.TIME (tick / 2 ^ 32) pu 1

/-- SECOND_FAULT. -/
def setSecond (s : State) (pu src unit tick : Nat) : State :=
  (((s.set PU.SECOND_FAULT.SRC src pu).set PU.SECOND_FAULT.UNIT unit pu).set PU.secTime tick pu).set PU.secValid 1 pu

/-- SIMUL (R157): both entries within one 2.5 ns tick. -/
def simul (s : State) (pu : Nat) : State :=
  s.setb PU.FIRST_FAULT.SIMUL (s.is PU.secValid pu && s.get PU.secTime pu == s.firstTime pu) pu

/-- First-fault capture (R156, R157): the first source opens the 200 ns window; within it an earlier stamp, or on one
tick a lower unit number, displaces an entry; after it a distinct source fills an empty SECOND_FAULT only. -/
def capture (s : State) (pu src unit tick : Nat) : State :=
  let before (t u : Nat) : Bool := decide (tick < t) || (tick == t && decide (unit < u))
  let same (a b : Nat) : Bool := a == src && b == unit % 16
  if !s.is PU.FIRST_FAULT.VALID pu then
    (((s.setFirst pu src unit tick).set PU.capOpen 1 pu).set PU.secValid 0 pu).simul pu
  else if same (s.get PU.FIRST_FAULT.SRC pu) (s.get PU.FIRST_FAULT.UNIT pu)
      || (s.is PU.secValid pu && same (s.get PU.SECOND_FAULT.SRC pu) (s.get PU.SECOND_FAULT.UNIT pu)) then s
  else if s.is PU.capOpen pu then
    if before (s.firstTime pu) (s.get PU.FIRST_FAULT.UNIT pu) then
      ((s.setSecond pu (s.get PU.FIRST_FAULT.SRC pu) (s.get PU.FIRST_FAULT.UNIT pu) (s.firstTime pu)).setFirst pu src
        unit tick).simul pu
    else if !s.is PU.secValid pu || before (s.get PU.secTime pu) (s.get PU.SECOND_FAULT.UNIT pu) then
      (s.setSecond pu src unit tick).simul pu
    else s
  else if !s.is PU.secValid pu then (s.setSecond pu src unit tick).simul pu
  else s

/-- A catch that a trip or a safe-state command ends reads aborted, and no mode is entered (R136). -/
def catchAbort (s : State) (a : Nat) : State :=
  s.on (s.mode a == 1) fun t => (t.set SQ.CATCH_STAT.RESULT 3 (t.lead a)).set SQ.catchGo 0 (t.lead a)

/-- An active, enabled source latches (R153): its bit, TRIPPED, the capture; the first one of a trip turns the unit's
switches off, opens the TRIP event, and signals a traction trip to the Belay island. -/
def trip (s : State) (unitPu src unit tick : Nat) : State :=
  let pu := s.tripUnit unitPu
  let s1 := (s.capture pu src unit tick).setBit PU.TRIP_STAT.SRC src true pu
  if s.is PU.TRIP_STAT.TRIPPED pu then s1
  else
    let s2 := (((s1.set PU.TRIP_STAT.TRIPPED 1 pu).set PU.STATUS.TRIPPED 1 pu).puOff pu src).set PU.evPend 1 pu
    let s3 := s2.set PU.evTime (if s2.is PU.capOpen pu then s2.firstTime pu else tick) pu
    let s4 := if s3.is PU.capOpen pu then s3 else s3.tripEvent pu
    if pu < 2 then (s4.catchAbort pu).unsafeAxis pu .puTrip else s4

/-- The EDGE commands of the decision tick in progress, for the islands of an axis, are suppressed (R89). -/
def dropEdges (s : State) (pu : Nat) : State :=
  let n := s.get SQ.outAt (s.lead pu)
  let edge (m : Msg) : Bool := match m with
    | .gateFrame i 1 _ _ => (s.islands pu).contains i
    | _ => false
  { s with out := s.out.take n ++ (s.out.drop n).filter fun m => !edge m }

/-- A first trip of a traction unit reaches it less than 250 ns after the latest decision boundary while SQ drives the legs (R89). -/
def tripEarly (s : State) (pu tick : Nat) : Bool :=
  decide (pu < 2) && !s.is PU.TRIP_STAT.TRIPPED (s.tripUnit pu) && s.is PU.STATUS.DETACHED (s.lead pu)
    && decide (tick < s.now / 160 * 160 + 100)

/-- A source of a unit trips it at the present instant: before 250 ns of a decision tick have passed the tick's leg commands are suppressed
(R89, R153). -/
def tripNow (s : State) (pu src : Nat) : State := (s.on (s.tripEarly pu s.now) (·.dropEdges pu)).trip pu src 0 s.now

/-- The dead time of a leg's band in force, in counts (R147, R148). -/
def deadTime (s : State) (pu band : Nat) : Nat :=
  match band with
  | 0 => s.get PU.DT_B01.DT0 pu
  | 1 => s.get PU.DT_B01.DT1 pu
  | 2 => s.get PU.DT_B23.DT2 pu
  | _ => s.get PU.DT_B23.DT3 pu

end State

/-- The row of the band in force of a leg (R148). -/
def bandRow (leg : Nat) : Row :=
  if leg = 0 then PU.STATUS.BAND_U else if leg = 1 then PU.STATUS.BAND_V else PU.STATUS.BAND_W

namespace State

/-- The bands that HK reports go into force for the legs of a unit (R148): the higher of a traction leg's two islands,
the ABI's for an aux unit. -/
def bands (s : State) (pu : Nat) : State :=
  s.forN 3 fun k t =>
    let b (i : Nat) := s.get HK.BAND_STAT.GI / 4 ^ i % 4
    t.set (bandRow k) (if pu < 2 then max (b (6 * pu + 2 * k)) (b (6 * pu + 2 * k + 1)) else s.get HK.BAND_STAT.ABI) pu

/-- The dead time in force of a leg. -/
def legDead (s : State) (pu leg : Nat) : Nat := s.deadTime pu (s.get (bandRow leg) pu)

/-- A half-pulse of a width in counts is too short (R149): commanded, and less its dead time shorter than MIN_PW / 2. MIN_PW 0 disables the
check. -/
def halfShort (s : State) (pu leg w : Nat) : Bool :=
  s.is PU.MINPW.MIN_PW pu && w != 0 && decide (2 * w < s.get PU.MINPW.MIN_PW pu + 2 * s.legDead pu leg)

/-- The compare of a half-period after the minimum pulse (R149): where the half of the high or of the low side is too short, it is
dropped, or with MP_MODE 1 stretched so that MIN_PW / 2 remains of it. -/
def halfComp (s : State) (pu leg : Nat) : Nat :=
  let per := s.get PU.perAct pu
  let c := s.get PU.CMP.CMP pu leg
  let w := if s.is PU.MINPW.MP_MODE pu then min per ((s.get PU.MINPW.MIN_PW pu + 1) / 2 + s.legDead pu leg) else 0
  if s.halfShort pu leg c then w else if s.halfShort pu leg (per - c) then per - w else c

/-- The compare that the edges of a half-period are formed with: outside the minimum-pulse check, a bootstrap refresh is at least REF_W of the
low side, centred on the valley, after the dead time that follows the high side and before the one that precedes it (R229). A natural
low-side pulse of REF_W or more stays as it is. -/
def formed (s : State) (pu leg : Nat) : Nat :=
  let c := s.halfComp pu leg
  let per := s.get PU.perAct pu
  let dt := s.legDead pu leg
  let w := 4 * s.get AX.CH_BS.REF_W (pu - 2)
  if pu < 2 || !s.getBit PU.refLegs leg pu || decide (w + dt ≤ 2 * (per - c)) then c
  else min c (per - (w / 2 + if s.is PU.STATUS.DOWN pu then dt else 0))

/-- IBAND of a traction leg (R196): the leg's latest fast sample against TH1 < TH2 < TH3, in joined mode those of
IBAND_A; a sample with the invalid mark selects 3. The thresholds are Q15 of I_base in steps that the register names. -/
def iband (s : State) (a leg : Nat) : Nat :=
  let ch := 3 * a + leg
  let i := s.lead a
  let x := (s.geti SEN.CH_VAL.FAST ch).natAbs
  if !s.chUsed ch then 3
  else if s.get GLK.IBAND.TH3 i * 32 ≤ x then 3
  else if s.get GLK.IBAND.TH2 i * 32 ≤ x then 2
  else if s.get GLK.IBAND.TH1 i * 32 ≤ x then 1
  else 0

/-- SLOT of an EDGE command (R196). -/
def slot (s : State) (a leg : Nat) : Nat := 4 * s.get (bandRow leg) a + s.iband a leg

/-- A leg of a traction axis goes to its high or low side (R88, R141): a turn-off to the switch that was commanded on,
DLY 64, and a turn-on to its complement placed later by the dead time, DLY 64 + 2 × DT; from both switches off no dead
time applies (R132). -/
def legTo (s : State) (a leg : Nat) (high : Bool) : State :=
  let hi := 6 * a + 2 * leg
  let onI := if high then hi else hi + 1
  let offI := if high then hi + 1 else hi
  if s.is GI.cmdOn onI then s
  else
    let sl := s.slot a leg
    let wasOn := s.is GI.cmdOn offI
    let s1 := s.on wasOn (·.gateEdge offI false sl 64)
    s1.gateEdge onI true sl (64 + (if wasOn then 2 * s.deadTime a (s.get (bandRow leg) a) else 0))

/-- Every switch of a traction axis is commanded off by turn-off edges (R109, R121, R123). -/
def legsOff (s : State) (a : Nat) : State :=
  (s.islands a).foldl (fun t i => t.on (t.is GI.cmdOn i) (·.gateEdge i false (s.slot (i / 6) (i % 6 / 2)) 64)) s

/-- The three low sides of each star on (SHORT-LO, R109, R134). -/
def legsLow (s : State) (a : Nat) : State :=
  (s.islands a).foldl (fun t i => if i % 2 = 1 then t.legTo (i / 6) (i % 6 / 2) false else t) s

/-- A channel takes the present factor (R372): a traction axis at a decision boundary, an aux channel at a period start of its unit. -/
def thrTake (s : State) (c : Nat) : State :=
  s.set HK.thrIn (match c with
    | 0 => s.get HK.THR_VAL0.AXA
    | 1 => s.get HK.THR_VAL0.AXB
    | 2 => s.get HK.THR_VAL0.AUX0
    | 3 => s.get HK.THR_VAL0.AUX1
    | _ => s.get HK.THR_VAL1.AUX2) c

end State
end Sys2Proof.Machine
end

