-- ==== Sys2Proof/Machine/Pos.lean ====
section
/-!
DEFINITION. Position and speed feedback (03): absolute words, the incremental track, alignment, the cross-check of the
sources and the pass-through outputs. The position sources are numbered 0 ABS, 1 INC, 2 SLS, 3 ABS2, 4 INC2.
-/
namespace Sys2Proof.Machine
namespace State

/-- The sensor axis that a source of an axis's cross-check reads: ABS2 and INC2 are those of POS2 and POS3 (R12, R78). -/
def srcAxis (a k : Nat) : Nat := if k = 3 || k = 4 then 1 else a

/-- INC_POS as an electrical angle without INC_OFS. -/
def incTurn (s : State) (a : Nat) (pos : Nat) : Int := quot (s.poles a * pos * 65536) (s.get POS.INC_CPR.CPR a)

/-- The magnitude of the speed of `n` edges in `dt` × 2.5 ns (R74). -/
def edgeRate (s : State) (a n dt : Nat) : Nat := (s.rateOf a (n * s.poles a) (s.get POS.INC_CPR.CPR a) dt).natAbs

/-- The same, saturated at ω_base. -/
def edgeSpeed (s : State) (a n dt : Nat) : Nat := min (s.edgeRate a n dt) 0x7FFF

/-- What POS takes anew when an axis is enabled (R71, R73, R74): the next index is the reference, INC_OFS is not set, and the
speed is 0 until the second edge. -/
def posEnable (s : State) (a : Nat) : State :=
  let s1 := ((s.set POS.idxWait 1 a).set POS.INC_STAT.ALIGNED 0 a).set POS.ALIGN.ALIGN_SRC 0 a
  (((s1.set POS.SPD_VAL.SPD_INC 0 a).set POS.spdLast 0 a).set POS.edgeN 0 a).setb POS.spdSat false a 1

/-- The angle that a speed covers in `dt` × 2.5 ns, in Q16 turns (R76, R77): spd × W_BASE × dt / 2π. -/
def travelled (s : State) (a : Nat) (spd dt : Int) : Int := quot (spd * s.wBase a * dt * piD) (400000000 * piN)

/-- POS forwards its incremental angle at this instant to the Belay island (R288). -/
def forwardAngle (s : State) (a : Nat) : State :=
  (s.set BL.thRef (ofSigned 16 (s.incTurn a (s.get POS.INC_POS.POS a) + s.get POS.ALIGN.INC_OFS a)) a).set BL.blRef (s.get BL.blCnt a) a

/-- INC_OFS from the first available source (R73): so that ANG_INC at the given INC_POS is the given angle. A later source
never overwrites it. -/
def align (s : State) (a code pos : Nat) (angle : Nat) : State :=
  if s.is POS.INC_STAT.ALIGNED a then s
  else ((((s.seti POS.ALIGN.INC_OFS (angle - s.incTurn a pos) a).set POS.ALIGN.ALIGN_SRC code a).set
    POS.INC_STAT.ALIGNED 1 a).forwardAngle a)

/-- A speed as a source of an axis's cross-check reports it: 0 and 3 the absolute words, 1 and 4 the tracks, 2 the estimate. -/
def srcSpd (s : State) (a k : Nat) : Int :=
  match k with
  | 0 | 3 => s.geti POS.SPD_VAL.SPD_ABS (srcAxis a k)
  | 1 | 4 => s.geti POS.SPD_VAL.SPD_INC (srcAxis a k)
  | _ => s.geti OB.SLS_VAL.SLS_SPD a

/-- The source enabled by the context entry (POS CTL.SRC_EN): ABS_A, INC_A, ABS_B, INC_B. -/
def srcEn (s : State) (axis : Nat) (inc : Bool) : Bool := s.getBit POS.CTL.SRC_EN (2 * axis + ofBool inc)

/-- The decoded word of a CAP frame (R67): Gray to binary over WLEN bits. -/
def grayToBin (w : Nat) : Nat → Nat
  | 0 => w
  | k + 1 => w ^^^ (grayToBin (w / 2) k)

/-- The single-turn field scaled to Q16 (R67 steps 2 to 4). -/
def singleTurn (s : State) (a w : Nat) : Nat :=
  let n := s.get POS.CAP_SCL.ST_BITS a
  let f := w / 2 ^ s.get POS.CAP_SCL.ST_POS a % 2 ^ n
  let f' := if s.is POS.CAP_SCL.DIR_INV a then (2 ^ n - f) % 2 ^ n else f
  if n ≤ 16 then f' * 2 ^ (16 - n) else f' / 2 ^ (n - 16)

/-- A discarded frame (R65): the previous word stays in force, and SPD_ABS reads 0 until two words are valid again. -/
def capDiscard (s : State) (a : Nat) : State :=
  (((s.incSat POS.discards a).set POS.wordRow 0 a).set POS.SPD_VAL.SPD_ABS 0 a).setb POS.spdSat false a 0

/-- The request times out (R65). -/
def capTmo (s : State) (a : Nat) : State :=
  (((s.set POS.CAP_STAT.TMO 1 a).incSat POS.CAP_STAT.TMO_CNT a).set POS.tmoPit 0 a).capDiscard a

/-- A word is used (R65, R67, R73, R75, R76). A speed saturates at ±0x7FFF, the track's as well: R62 does not say at which of the two ends
of Q15 a negative one does (DESIGN CHOICE, log entry 37). -/
def capUse (s : State) (a word : Nat) (attn : Bool) (request : Nat) : State :=
  let raw := word % 2 ^ s.get POS.CAP_CFG.WLEN a
  let w := if s.is POS.CAP_CFG.GRAY a then grayToBin raw 31 else raw
  let th := s.singleTurn a w
  let t := request + s.get POS.CAP_TIM.SENS_LAT a
  let el := (s.poles a * th + s.get POS.ANG_OFS.ABS_OFS a) % 65536
  let d := wrap16 (th - s.get POS.thM a)
  let spd : Int := if s.is POS.wordRow a then s.rateOf a (d * s.poles a) 65536 ((t : Int) - s.get POS.wordT a) else 0
  let s1 := ((((s.set POS.CAP_WORD.WORD w a).set POS.thM th a).set POS.thWord el a).set POS.wordT t a).set POS.wordAge 0 a
  let s2 := ((s1.seti POS.SPD_VAL.SPD_ABS (clampI (-0x7FFF) 0x7FFF spd) a).set POS.wordRow 1 a).set POS.discards 0 a
  let s3 := s2.setb POS.spdSat (decide (0x7FFF < spd.natAbs)) a 0
  let abs : Int := el + s3.travelled a (s3.srcSpd (s3.lead a) (s3.get POS.XCHK_CFG.PRI (s3.lead a))) ((s3.now : Int) - t)
  (s3.on attn (·.raise .warning POS.CAP_STAT.SENS_WRN a)).align a 1 (s3.get POS.INC_POS.POS a) (ofSigned 16 abs)

end State

/-- CAP_REQUEST (R63, R66, R85): a request that falls while a frame, its wait or its recovery runs is skipped. -/
def execCapRequest (axis : Fin 2) (s : State) : Out :=
  .next (if s.is POS.CAP_STAT.BUSY axis then s.incSat POS.CAP_STAT.SKIP axis
    else
      let t := s.set POS.CAP_STAT.BUSY 1 axis
      let u := t.on (t.pit 0x17 2 axis) fun v => v.pitAct.set POS.tmoPit 1 axis
      u.on (u.pit 0x17 1 axis) fun v => v.pitAct.set POS.crcPit (v.get POS.CAP_CFG.INV_N axis) axis)

/-- CAP_FRAME (R63 to R67): the CRC-6 over VALID, ATTN and WORD in the order sent; a broken START pattern counts as a CRC
failure. BUSY lasts through the recovery. While the data line's amplitude fails, every frame times out (R84). -/
def execCapFrame (axis : Fin 2) (startOk valid attn : Bool) (word : BitVec 32) (crc : BitVec 6) (delay : BitVec 8)
    (request : Nat) (s : State) : Out :=
  if !s.is POS.CAP_STAT.BUSY axis then .next s
  else if s.is POS.tmoPit axis || s.is POS.lfCap axis then .next (s.capTmo axis)
  else
    let bs := [valid, attn] ++ (List.range (s.get POS.CAP_CFG.WLEN axis)).map fun i => bit word.toNat i
    let pit := s.is POS.crcPit axis
    let s1 := (s.set POS.CAP_TIM.RX_DLY delay.toNat axis).on pit fun t => t.set POS.crcPit (t.get POS.crcPit axis - 1) axis
    let crcOk := startOk && !pit && crcM 6 0x19 0x3F bs == crc.toNat
    .next (if !crcOk then
        ((s1.set POS.CAP_STAT.CRC 1 axis).incSat POS.CAP_STAT.CRC_CNT axis).capDiscard axis
      else if !valid then (s1.set POS.CAP_STAT.SENS_ERR 1 axis).capDiscard axis
      else s1.capUse axis word.toNat attn request)

/-- CAP_TIMEOUT (R65). -/
def execCapTimeout (axis : Fin 2) (s : State) : Out :=
  .next (if s.is POS.CAP_STAT.BUSY axis then s.capTmo axis else s)

/-- CAP_RECOVERY_END (R63). -/
def execCapRecoveryEnd (axis : Fin 2) (s : State) : Out := .next (s.set POS.CAP_STAT.BUSY 0 axis)

/-- ABS_LOST (R65): INV_N consecutive discarded frames. -/
def execAbsLost (axis : Fin 2) (s : State) : Out :=
  .next (if s.get POS.CAP_CFG.INV_N axis ≤ s.get POS.discards axis then
      ((s.set POS.CAP_STAT.ABS_LOST 1 axis).set POS.CAP_STAT.VALID 0 axis).setBit POS.XCHK_STAT.VALID
        (if s.joined && axis = 1 then 3 else 0) false (s.lead axis)
    else s)

namespace State

/-- The edge history shifts (R74). -/
def pushEdge (s : State) (a stamp : Nat) : State :=
  let e (k : Nat) := s.get POS.edgeT a k
  (((s.set POS.edgeT (e 2) a 3).set POS.edgeT (e 1) a 2).set POS.edgeT (e 0) a 1).set POS.edgeT stamp a 0

/-- K of SPD_CFG.K_SEL (R74). -/
def kSel (s : State) (a : Nat) : Nat := 2 ^ s.get POS.SPD_CFG.K_SEL a

/-- SPD_INC from a magnitude, with the sign of DIR. -/
def setSpdInc (s : State) (a mag : Nat) : State :=
  s.seti POS.SPD_VAL.SPD_INC (if s.is POS.INC_STAT.DIR a then -(mag : Int) else mag) a

/-- The cross-check's number of the source that a pass-through output follows (R82); in joined mode POS2 and POS3 carry ABS2 and INC2 (R78). -/
def ptoSource (s : State) (a : Nat) : Nat :=
  let two := s.joined && a == 1
  match s.get POS.PTO_CFG.SRC a with
  | 1 => if two then 4 else 1
  | 2 => if two then 3 else 0
  | _ => 2

/-- That source is valid; while it is not, the outputs hold (R82). -/
def ptoValid (s : State) (a : Nat) : Bool := s.getBit POS.XCHK_STAT.VALID (s.ptoSource a) (s.lead a)

/-- PTO copies the filtered lines of its axis. -/
def ptoCopies (s : State) (a : Nat) : Bool := s.get POS.PTO_CFG.SRC a == 1 && s.ptoValid a

/-- A write of SRC (R82): 0 turns the drivers off, another value on; a synthesised output starts at the mechanical angle of the
latest absolute word, from SLS at 0. -/
def ptoStart (s : State) (a : Nat) : State :=
  let src := s.get POS.PTO_CFG.SRC a
  let s1 := s.setb POS.ptoOff (src == 0) a
  if src = 0 then s1
  else if src = 1 then s1.on (s1.ptoCopies a) fun t => t.set POS.ptoCnt (t.get POS.lineQ a) a
  else
    let m := if src = 2 then s1.get POS.thM a else 0
    let ang := if src = 2 then s1.get POS.thWord a else s1.get OB.SLS_VAL.SLS_ANG (s1.lead a)
    ((s1.set POS.ptoAcc (m * s1.poles a) a).set POS.ptoLast ang a).set POS.ptoCnt (m * 4 * s1.get POS.PTO_CFG.PTO_LINES a / 65536) a

/-- The filtered A and B lines move by `d` places of the quadrature cycle, 2 where both change at once; a copy follows them (R82). -/
def lineMove (s : State) (a d : Nat) : State :=
  let s1 := s.set POS.lineQ (s.get POS.lineQ a + d) a
  s1.on (s1.ptoCopies a) fun t => t.set POS.ptoCnt (t.get POS.lineQ a) a

end State

/-- INC_EDGE (R68, R69, R74, R82, R85, R280): the Belay receiver of the track sees the edge too; the counters move; an interval under 100 ns to the edge before sets RATE; the interval speed over
min(K, edges since the first edge) intervals; a reversal flips DIR, sets DIR_CHG, raises an information event and
interrupts the axis's control engines. The first edge after standstill or reversal gives no speed. The piton presents one illegal transition in its place. -/
def execIncEdge (axis : Fin 2) (aLeads : Bool) (stamp : Nat) (s : State) : Out :=
  let a : Nat := axis
  let s := s.blEdge a (aLeads != s.is POS.INC_CFG.SWAP a) stamp
  if s.pit 0x17 3 a then
    let t := s.pitAct
    .next ((t.set POS.INC_STAT.ILLEGAL 1 a).incSat POS.INC_STAT.ILL_CNT a)
  else
    let up := aLeads != s.is POS.INC_CFG.SWAP a
    let cpr := s.get POS.INC_CPR.CPR a
    let pos := s.get POS.INC_POS.POS a
    let s1 := (s.set POS.INC_COUNT.COUNT (s.get POS.INC_COUNT.COUNT a + (if up then 1 else 2 ^ 32 - 1)) a).set
      POS.INC_POS.POS (if up then (pos + 1) % cpr else (pos + cpr - 1) % cpr) a
    let n := s1.get POS.edgeN a
    let s2 := s1.on (s1.is POS.edgeEver a && decide (stamp < s1.get POS.edgeT a 0 + 40)) (·.raise .warning POS.INC_STAT.RATE a)
    let s3 := ((s2.set POS.INC_STAT.STILL 0 a).set POS.edgeEver 1 a).lineMove a (if aLeads then 1 else 3)
    let restart (t : State) : State := ((((t.set POS.SPD_VAL.SPD_INC 0 a).setb POS.spdSat false a 1).set POS.spdLast 0 a).set
      POS.edgeN 1 a).pushEdge a stamp
    if s3.is POS.INC_STAT.DIR a == up then
      let t := ((s3.setb POS.INC_STAT.DIR (!up) a).raise .info POS.INC_STAT.DIR_CHG a).send (.interrupt a 1)
      .next (restart t)
    else if n = 0 then .next (restart s3)
    else
      let k := min (s3.kSel a) n
      let dt := stamp - s3.get POS.edgeT a (k - 1)
      let v := s3.edgeSpeed a k dt
      let s4 := s3.setb POS.spdSat (decide (0x7FFF < s3.edgeRate a k dt)) a 1
      .next ((((s4.setSpdInc a v).set POS.spdLast v a).set POS.edgeN (min (n + 1) 5) a).pushEdge a stamp)

/-- INC_ILLEGAL (R70, R82): the counters stay; a copy of the lines shows the change of both. -/
def execIncIllegal (axis : Fin 2) (s : State) : Out :=
  .next (((s.set POS.INC_STAT.ILLEGAL 1 axis).incSat POS.INC_STAT.ILL_CNT axis).lineMove axis 2)

/-- INDEX (R71, R73, R85): latches INC_POS; the first one is the reference, a later one beyond IDX_TOL sets INDEX_DRIFT
with the deviation in its event; the index may align the track. Indexes are ignored while Z has LINE_FLT (R72). A copy of the lines
shows Z whether the index is enabled or not (R82). -/
def execIncIndex (axis : Fin 2) (s : State) : Out :=
  let a : Nat := axis
  let sz := s.on (s.ptoCopies a && s.is POS.PTO_CFG.Z_EN a && !s.getBit POS.lfInc 1 a) (·.inc POS.ptoZ a)
  if !s.is POS.INC_CFG.Z_EN a || s.getBit POS.lfInc 1 a then .next sz
  else
    let cpr := s.get POS.INC_CPR.CPR a
    let p := s.pit 0x17 4 a
    let s0 := sz.on p (·.pitAct)
    let lat := if p then (s0.get POS.INC_POS.POS a + s0.get POS.INC_CFG.IDX_TOL a + 1) % cpr else s0.get POS.INC_POS.POS a
    let s1 := (s0.set POS.IDX_LAT.LAT lat a).align a 2 lat (s0.get POS.ANG_OFS.ZOFS a)
    if s1.is POS.idxWait a then
      .next (((s1.set POS.IDX_REF.REF lat a).set POS.IDX_REF.REF_VALID 1 a).set POS.idxWait 0 a)
    else if !s1.is POS.IDX_REF.REF_VALID a then .next s1
    else
      let d : Int := (lat + cpr - s1.get POS.IDX_REF.REF a) % cpr
      let dev := if (cpr : Int) ≤ 2 * d then d - cpr else d
      .next (s1.on (decide (s1.get POS.INC_CFG.IDX_TOL a < dev.natAbs)) fun t =>
        t.raiseArg .warning POS.INC_STAT.INDEX_DRIFT (ofSigned 32 dev) a)

/-- REREF (R71): refused with CFG_REJECT while the axis is enabled. -/
def execReref (axis : Fin 2) (s : State) : Out :=
  .next (if !s.pdOn (3 + axis) then s else if s.axEn (s.lead axis) then s.set POS.CTL.CFG_REJECT 1
    else (s.set POS.IDX_REF.REF_VALID 0 axis).set POS.idxWait 1 axis)

/-- LINE_FLT (R72, R79, R292): the flag holds while the condition lasts. On A or B the incremental source is invalid at
once, the Belay receiver of the same track sees it too, and an enabled axis goes to the safe state, or into bivouac mode
in joined mode while the other track is valid; a POS3 that CH1's entry disables takes no part (R12). On Z and on CAP it is a warning. -/
def execLineFlt (axis : Fin 2) (pair : Fin 3) (present : Bool) (s : State) : Out :=
  let a : Nat := axis
  if pair.val = 2 then
    .next ((s.setb POS.lfCap present a).on present (·.raise .warning POS.CAP_STAT.LINE_FLT a))
  else
    let s1 := s.setBit POS.lfInc pair present a
    if pair.val = 1 then .next (s1.on present (·.raise .warning POS.INC_STAT.LINE_FLT a))
    else
      let s2 := s1.setb BL.lineFlt present a
      if !present then .next s2
      else
        let s3 := ((s2.set POS.INC_STAT.LINE_FLT 1 a).set POS.lfAB 1 a).setBit POS.XCHK_STAT.VALID (if s2.joined && a == 1 then 4 else 1) false
          (s2.lead a)
        .next (if !s3.axEn (s3.lead a) then s3
          else if s3.joined && a == 1 then s3.on (s3.srcEn 1 true) (·.bivEnter 0 .inc2)
          else if s3.joined && s3.getBit POS.XCHK_STAT.VALID 4 0 then s3.bivEnter 0 .inc
          else s3.unsafeAxis a .incLost)

/-- STILL (R74): no edge for STILL_MS. -/
def execPosStill (axis : Fin 2) (s : State) : Out :=
  .next (if s.now < s.get POS.edgeT axis 0 + s.get POS.SPD_CFG.STILL_MS axis * 400000 then s
    else ((((s.set POS.INC_STAT.STILL 1 axis).set POS.SPD_VAL.SPD_INC 0 axis).setb POS.spdSat false axis 1).set POS.edgeN 0 axis).set
      POS.spdLast 0 axis)

namespace State

/-- A source's angle (R78). -/
def srcAng (s : State) (a k : Nat) : Nat :=
  match k with
  | 0 | 3 => s.get POS.ANG_VAL.ANG_ABS (srcAxis a k)
  | 1 | 4 => s.get POS.ANG_VAL.ANG_INC (srcAxis a k)
  | _ => s.get OB.SLS_VAL.SLS_ANG a

/-- A source's angle can be compared: not so for an incremental track before ALIGNED (R73, R78). -/
def angOk (s : State) (a k : Nat) : Bool := !(k == 1 || k == 4) || s.is POS.INC_STAT.ALIGNED (srcAxis a k)

/-- A source is valid for the cross-check (R78); a lost one is not, and in split mode there is no second sensor. -/
def srcValid (s : State) (a k : Nat) : Bool :=
  let x := srcAxis a k
  !s.getBit POS.XCHK_STAT.LOST k a && (match k with
    | 0 => s.srcEn x false && !s.is POS.CAP_STAT.ABS_LOST x && s.is POS.CAP_STAT.VALID x
    | 1 => s.srcEn x true && !s.is POS.lfAB x
    | 2 => s.is OB.STATUS.SLS_VALID a
    | 3 => s.joined && s.srcEn x false && !s.is POS.CAP_STAT.ABS_LOST x && s.is POS.CAP_STAT.VALID x
    | _ => s.joined && s.srcEn x true && !s.is POS.lfAB x)

/-- The pairs of sources, the lower number first. -/
def pairs : List (Nat × Nat) := [(0, 1), (0, 2), (0, 3), (0, 4), (1, 2), (1, 3), (1, 4), (2, 3), (2, 4), (3, 4)]

/-- A pair disagrees (R78). -/
def disagree (s : State) (a i j : Nat) : Bool :=
  let k := 5 * min i j + max i j
  decide (s.get POS.XCHK_CFG.ANG_N a ≤ max (s.get POS.pairA a k) (s.get POS.pairS a k))

/-- One pair's count in a tick (R78): on angles where both are comparable, else on speeds with ANG_TOL per tick. Each comparison has a count of
its own, which begins anew when the other takes its place: R78 has one name for both (DESIGN CHOICE, log entry 37). A pair of which one
source is not valid is not looked at (R80). -/
def pairTick (s : State) (a i j : Nat) : State :=
  let k := 5 * i + j
  if !(s.getBit POS.XCHK_STAT.VALID i a && s.getBit POS.XCHK_STAT.VALID j a) then
    s
  else
    let tol := s.get POS.XCHK_CFG.ANG_TOL a
    let both := s.angOk a i && s.angOk a j
    let dAng := (wrap16 ((s.srcAng a i : Int) - s.srcAng a j)).natAbs
    let dSpd := (s.travelled a (s.srcSpd a i - s.srcSpd a j) 160).natAbs
    let cnt (t : State) (r : Row) (bad : Bool) : State := if bad then t.incSat r a k else t.set r 0 a k
    cnt (cnt s POS.pairA (both && decide (tol < dAng))) POS.pairS (!both && decide (tol < dSpd))

/-- The cross-check of a tick (R78): the valid sources, the pair counts, and MIS of every source in a disagreeing pair. -/
def xchkTick (s : State) (a : Nat) : State :=
  let s1 := s.set POS.XCHK_STAT.VALID ((List.range 5).map fun k => if s.srcValid a k then 2 ^ k else 0).sum a
  let s2 := pairs.foldl (fun t p => t.pairTick a p.1 p.2) s1
  (List.range 5).foldl (fun t k =>
    if t.getBit POS.XCHK_STAT.VALID k a && (List.range 5).any (fun j => j != k && t.getBit POS.XCHK_STAT.VALID j a
      && t.disagree a k j) then t.setBit POS.XCHK_STAT.MIS k true a else t) s2

/-- The source offered to the control path (R73, R81): the selected one if valid, else INC, ABS, SLS in that order; a track that is not
aligned is not offered. -/
def offered (s : State) (a : Nat) : Option Nat :=
  [s.get POS.XCHK_CFG.PRI a, 1, 0, 2].find? fun k => s.getBit POS.XCHK_STAT.VALID k a && s.angOk a k

/-- The angle and speed that POS offers in a tick (R81), with PRI_SUBST. With no valid source R81 states nothing: the angle and speed last
offered stand, and no substitute is in use (DESIGN CHOICE, log entry 37). -/
def offerTick (s : State) (a : Nat) : State :=
  match s.offered a with
  | some k => ((s.set POS.offAng (s.srcAng a k) a).seti POS.offSpd (s.srcSpd a k) a).setb POS.XCHK_STAT.PRI_SUBST
      (k != s.get POS.XCHK_CFG.PRI a) a
  | none => s.set POS.XCHK_STAT.PRI_SUBST 0 a

/-- The angles of one sensor axis extrapolated to the tick (R76, R77, R85), the decay of SPD_INC with its SAT mark (R62, R74), and CAP VALID. -/
def angleTick (s : State) (a : Nat) : State :=
  let la := s.lead a
  let age := s.get POS.wordAge a
  let s1 := (s.incSat POS.wordAge a).setb POS.CAP_STAT.VALID (decide (age < 2 * s.get POS.CAP_CFG.REQ_PER a)) a
  let s2 := s1.on (s1.pit 0x17 5 a) fun t => t.pitAct.set POS.xchkPit (t.get POS.XCHK_CFG.ANG_N a) a
  let off : Int := if s2.is POS.xchkPit a then 2 * s2.get POS.XCHK_CFG.ANG_TOL a else 0
  let w := s2.srcSpd la (s2.get POS.XCHK_CFG.PRI la)
  let abs : Int := s2.get POS.thWord a + s2.travelled a w ((s2.now : Int) - s2.get POS.wordT a) + off
  let s3 := (s2.seti POS.ANG_VAL.ANG_ABS abs a).on (s2.is POS.xchkPit a) fun t => t.set POS.xchkPit (t.get POS.xchkPit a - 1) a
  let dt := s3.now - s3.get POS.edgeT a 0
  let r := s3.edgeRate a 1 dt
  let s4 := if 2 ≤ s3.get POS.edgeN a && dt != 0 then (s3.setSpdInc a (min (s3.get POS.spdLast a) r)).setb POS.spdSat
      (s3.is POS.spdSat a 1 && decide (0x7FFF < r)) a 1
    else s3
  let step := quotN (s4.poles a * 65536) (s4.get POS.INC_CPR.CPR a)
  let far := min (s4.travelled a (s4.geti POS.SPD_VAL.SPD_INC a) dt).natAbs step
  let ex : Int := if s4.get POS.edgeN a < 2 || s4.is POS.INC_STAT.STILL a then 0
    else if s4.is POS.INC_STAT.DIR a then -(far : Int) else far
  s4.seti POS.ANG_VAL.ANG_INC (s4.incTurn a (s4.get POS.INC_POS.POS a) + s4.get POS.ALIGN.INC_OFS a + ex) a

/-- The synthesised pass-through output of an axis in a tick (R82): at most four edges a tick (10 million a second), LAG
when it falls behind; the levels hold and SRC_LOST stands while the source is invalid. -/
def ptoTick (s : State) (a : Nat) : State :=
  let src := s.get POS.PTO_CFG.SRC a
  if src < 2 then s.setb POS.PTO_CFG.SRC_LOST (src == 1 && !s.ptoValid a) a
  else
    if !s.ptoValid a then s.set POS.PTO_CFG.SRC_LOST 1 a
    else
      let ang := s.srcAng (s.lead a) (s.ptoSource a)
      let acc := s.geti POS.ptoAcc a + wrap16 ((ang : Int) - s.get POS.ptoLast a)
      let want := acc * (4 * s.get POS.PTO_CFG.PTO_LINES a) / (65536 * s.poles a)
      let d := want - s.geti POS.ptoCnt a
      let s1 := ((s.seti POS.ptoAcc acc a).set POS.ptoLast ang a).set POS.PTO_CFG.SRC_LOST 0 a
      let c := s.geti POS.ptoCnt a
      let c' := c + clampI (-4) 4 d
      let turn : Int := 4 * s.get POS.PTO_CFG.PTO_LINES a
      let s2 := s1.on (s.is POS.PTO_CFG.Z_EN a && decide (turn ≠ 0) && c' != c
        && (decide (c / turn ≠ c' / turn) && decide (c < c') || decide ((c - 1) / turn ≠ (c' - 1) / turn) && decide (c' < c)))
        (·.inc POS.ptoZ a)
      (s2.seti POS.ptoCnt c' a).on (4 < d.natAbs) (·.set POS.PTO_CFG.LAG 1 a)

/-- POS in a decision tick: angles, cross-check, the offered angle and the pass-through outputs of both axes. -/
def posTick (s : State) : State :=
  let s1 := (s.angleTick 0).angleTick 1
  let s2 := (s1.xchkTick 0).on (!s1.joined) (·.xchkTick 1)
  let s3 := (s2.offerTick 0).on (!s2.joined) (·.offerTick 1)
  (s3.ptoTick 0).ptoTick 1

end State

/-- SOURCE_LOST (R78 to R80): one source that disagrees with every other valid one while the others, at least two, agree
is lost until a reset; a disagreement without a majority calls for the safe state. The loss reaches the Belay island in
its status word. -/
def execSourceLost (axis : Fin 2) (s : State) : Out :=
  let a : Nat := axis
  let v := if s.joined && a = 1 then [] else (List.range 5).filter fun k => s.getBit POS.XCHK_STAT.VALID k a
  let out := v.find? fun k =>
    let rest := v.filter (· != k)
    decide (2 ≤ rest.length) && rest.all (fun j => s.disagree a k j)
      && rest.all (fun i => rest.all fun j => i == j || !s.disagree a i j)
  match out with
  | some k => .next ((s.setBit POS.XCHK_STAT.LOST k true a).setBit POS.XCHK_STAT.VALID k false a)
  | none => .next (if v.any (fun i => v.any fun j => i != j && s.disagree a i j) then s.unsafeAxis a .xchkUnattr else s)

/-- POS_PIT_ARM (R85, R329). -/
def execPosPitArm (axis : Fin 2) (sel : BitVec 4) (s : State) : Out :=
  .next (if !s.pdOn 3 then s else s.pitArm ((s.set POS.PIT_CTL.SEL sel.toNat).set POS.PIT_CTL.AXIS axis.val) POS.PIT_CTL.ARM 0 0x17 sel.toNat axis
    (2 ^ 31 + axis.val * 256 + sel.toNat) (1 ≤ sel.toNat ∧ sel.toNat ≤ 5))

end Sys2Proof.Machine
end

