-- ==== Sys2Proof/Machine/Sen.lean ====
section
/-!
DEFINITION. Current, voltage and DC-link sensing (02): the three filter channels, offset calibration, substitution, the
redundant path of the Belay island with its torque monitors, phase-voltage reconstruction and V_dc.
-/
namespace Sys2Proof.Machine
namespace State

/-- CH_FAULT follows the channel's CHn_STAT flags. -/
def chFault (s : State) (ch : Nat) : State :=
  s.setBit SEN.STATUS.CH_FAULT ch (s.is SEN.CH_STAT.XCHK ch || s.is SEN.CH_STAT.SUBST ch || s.is SEN.CH_STAT.OFS_FAIL ch
    || s.is SEN.CH_STAT.OC_LO ch || s.is SEN.CH_STAT.OC_HI ch || s.is SEN.CH_STAT.OVR ch || s.is SEN.CH_STAT.CLIP ch
    || s.is SEN.CH_STAT.BSL ch)

/-- The current of a density, before and after saturation (R44). -/
def scale (s : State) (ch : Nat) (d : Int) : Int × Int :=
  let x := quot ((d - s.geti SEN.CH_OFS.OFS ch) * s.get SEN.CH_GAIN.GAIN ch) 8192
  (x, sat16 x)

/-- The density of the fast window that closes now, Q15 (R42, R44): sinc3 of decimation 8 over 22 bits, −1 to +1 for 0 to 512. -/
def fastDensity (s : State) (ch : Nat) : Int := ((sincRaw (sinc3Weight 8) 22 (s.get SEN.hist ch) : Int) - 256) * 128

/-- The density of the control window that closed last: sinc3 of decimation 64 over 190 bits, 0 to 2^18. -/
def ctrlDensity (s : State) (ch : Nat) : Int := quot ((s.get SEN.ctrlRaw ch : Int) - 131072) 4

/-- The density of the comparator's sliding window: sinc2 of decimation 16 over 31 bits, 0 to 256. -/
def compDensity (s : State) (ch : Nat) : Int := ((sincRaw (sinc2Weight 16) 31 (s.get SEN.hist ch) : Int) - 128) * 256

/-- The out-of-range count of a sample and its flag (R60): RANGE_LIM for RANGE_N consecutive samples, either sign. -/
def range (s : State) (run : Row) (ch : Nat) (x : Int) : State :=
  let ovf := decide (s.get SEN.CH_GAIN.RANGE_LIM ch ≤ x.natAbs)
  let s1 := if ovf then s.incSat run ch else s.set run 0 ch
  let hit := decide (s.get SEN.CH_CFG.RANGE_N ch ≤ s1.get run ch) && ovf
  let n := s1.get SEN.CH_CFG.RANGE_N ch
  let s2 := s1.setBit SEN.chCond 2 (decide (n ≤ s1.get SEN.ovrF ch) || decide (n ≤ s1.get SEN.ovrC ch)) ch
  s2.on hit fun t => (t.raise .warning SEN.CH_STAT.OVR ch).chFault ch

/-- One channel's fast sample (R42, R44, R61): the window's density scaled, with the SAT mark, the SUM piton's addition, the range check and
the mark for OB. -/
def fastOne (s : State) (ch : Nat) : State :=
  if !s.getBit SEN.CTL.CH_EN ch then s
  else
    let arm := s.pit 0x16 4 ch
    let s1 := s.on arm fun t => t.pitAct.set SEN.sumPit (t.get SEN.SUM_CFG.SUM_N) ch
    let (x, y) := s1.scale ch (s1.fastDensity ch)
    let add : Int := if s1.is SEN.sumPit ch then 2 * s1.get SEN.SUM_CFG.SUM_LIM else 0
    let s2 := s1.on (s1.is SEN.sumPit ch) fun t => t.set SEN.sumPit (t.get SEN.sumPit ch - 1) ch
    let s3 := ((s2.seti SEN.CH_VAL.FAST (sat16 (y + add)) ch).setb SEN.satF (x != y) ch).range SEN.ovrF ch y
    s3.setb SEN.unrelF (s3.get SEN.CH_CFG.RANGE_N ch ≤ s3.get SEN.ovrF ch) ch

/-- A substituted channel's sample is the negative sum of the star's other two (R51); its SAT mark is that of this sum, not of the
lost bitstream (R44). -/
def substOne (s : State) (r mark : Row) (ch : Nat) : State :=
  if s.is SEN.CH_STAT.SUBST ch then
    let x := -(((starCh (chAxis ch)).filter (· != ch)).map fun k => s.geti r k).sum
    (s.seti r (sat16 x) ch).setb mark (x != sat16 x) ch
  else s

/-- The phase sum of a star (R50): consecutive ticks beyond SUM_LIM; suspended while a channel is substituted (R51) or its samples
carry the invalid mark (R43). -/
def sumCheck (s : State) (star : Nat) : State :=
  let sum := ((starCh star).map fun k => s.geti SEN.CH_VAL.FAST k).sum
  if (starCh star).any (fun k => s.is SEN.CH_STAT.SUBST k || !s.chValid k) then (s.set SEN.sumRun 0 star).tripIn star 6 false
  else if s.get SEN.SUM_CFG.SUM_LIM < sum.natAbs then s.incSat SEN.sumRun star
  else (s.set SEN.sumRun 0 star).tripIn star 6 false

end State

/-- FAST_SAMPLE (R42, R44, R50, R51): the fast windows of all channels close. -/
def execFastSample (s : State) : Out :=
  let s1 := s.forN 6 fun k t => t.fastOne k
  let s2 := s1.forN 6 fun k t => t.substOne SEN.CH_VAL.FAST SEN.satF k
  let s3 := s2.forN 6 fun k t => t.on (t.chUsed k) (·.set SEN.fastPort (t.get SEN.CH_VAL.FAST k) k)
  .next ((s3.sumCheck 0).sumCheck 1)

namespace State

/-- The loop updates in a second, in 10 Hz, the unit of F_H (R114, R117). -/
def injRate (s : State) (a : Nat) : Nat := 10 * s.get SQ.CAR_CFG.F_CAR a * (1 + s.get SQ.CAR_CFG.DBL_UPD a)

/-- The control samples that the loops take in an injection period (R116): one for each loop update. -/
def combWindow (s : State) (a : Nat) : Nat := max 1 (min 256 (quotN (s.injRate a) (s.get OB.INJ_CFG.F_H a)))

/-- The mean of a phase's latest control samples, one injection period of them (R116). -/
def combMean (s : State) (a k : Nat) : Int :=
  let n := s.combWindow (s.lead a)
  quot ((List.range n).map fun i => s.geti OB.cHist a (256 * k + (s.get OB.cIdx a + 256 - i) % 256)).sum n

/-- The current that the engines read (R116, R169), from a control sample that the loops take: while the unit is attached the one centred on
a reload alone. While injection runs OB removes the injected component, for a square wave by
averaging with the predecessor, for a pulsating one by the mean over an injection period, a comb with its zeros at F_H and its multiples. A
sample with the invalid mark leaves the port as it is (R43; DESIGN CHOICE, log entry 37). -/
def ctrlPorts (s : State) (a : Nat) (mid : Bool) : State :=
  if !mid && !s.is PU.STATUS.DETACHED (s.lead a) then s
  else
    let s1 := s.set OB.cIdx (s.get OB.cIdx a + 1) a
    s1.forN 3 fun k t =>
      let ok := t.chUsed (3 * a + k)
      let x := if ok then t.geti SEN.CH_VAL.CTRL (3 * a + k) else t.geti OB.ctrlLast a k
      let u := t.seti OB.cHist x a (256 * k + t.get OB.cIdx a)
      let y := if !u.is OB.INJ_STAT.INJ_ACTIVE (u.lead a) then x
        else if u.is OB.INJ_CFG.INJ_MODE (u.lead a) then quot (x + u.geti OB.ctrlLast a k) 2
        else u.combMean a k
      (u.on ok (·.seti OB.ctrlPort y a k)).seti OB.ctrlLast x a k

end State

namespace State

/-- An offset measurement of the axis takes this control sample (R46): fewer than 2^OFS_LEN have been taken, and no enabled channel's
sample carries the invalid mark (R43). -/
def ofsTakes (s : State) (a : Nat) : Bool :=
  s.is (if a = 0 then SEN.OFS_CMD.START_A else SEN.OFS_CMD.START_B)
    && decide (s.get SEN.ofsCnt a < 2 ^ s.get SEN.OFS_CMD.OFS_LEN)
    && (starCh a).all fun k => !s.getBit SEN.CTL.CH_EN k || s.chValid k

/-- One channel's control sample (R42, R44, R46): scaled, with the SAT mark and the range check; its density into the offset
measurement that takes it. -/
def ctrlOne (s : State) (takes : Bool) (ch : Nat) : State :=
  if !s.getBit SEN.CTL.CH_EN ch then s
  else
    let d := s.ctrlDensity ch
    let (x, y) := s.scale ch d
    (((s.seti SEN.CH_VAL.CTRL y ch).setb SEN.satC (x != y) ch).range SEN.ovrC ch y).on takes fun t =>
      t.seti SEN.ofsSum (t.geti SEN.ofsSum ch + d) ch

/-- A control sample without the invalid mark is forwarded to the Belay island's window (R54). -/
def ctrlForward (s : State) (ch : Nat) : State :=
  s.on (s.chUsed ch) fun t => (t.seti BL.isdSum (t.geti BL.isdSum ch + t.geti SEN.CH_VAL.CTRL ch) ch).incSat BL.isdCnt ch

end State

/-- CTRL_SAMPLE (R42, R44, R46, R51, R54, R116): once a control window of the axis has closed, its three samples, into the offset
measurement that runs, to the engines, and forwarded to the Belay island's window. -/
def execCtrlSample (axis : Fin 2) (s : State) : Out :=
  .next (if !s.is SEN.ctrlDue axis then s
    else
      let takes := s.ofsTakes axis
      let s1 := ((s.set SEN.ctrlDue 0 axis).set SEN.ctrlMid 0 axis).forN 3 fun k t => t.ctrlOne takes (3 * axis + k)
      let s2 := s1.forN 3 fun k t => t.substOne SEN.CH_VAL.CTRL SEN.satC (3 * axis + k)
      let s3 := s2.forN 3 fun k t => t.ctrlForward (3 * axis + k)
      (s3.ctrlPorts axis (s.is SEN.ctrlMid axis)).on takes (·.incSat SEN.ofsCnt axis))

namespace State

/-- CLIP sets (R48): a warning event; a measurement of the axis's offset that runs notes it. -/
def clip (s : State) (ch : Nat) : State :=
  (((s.setBit SEN.chCond 1 true ch).raise .warning SEN.CH_STAT.CLIP ch).set SEN.ofsFlag 1 ch).chFault ch

/-- BSL sets (R48): a warning event, and the channel is lost; a measurement of the axis's offset that runs notes it. -/
def bslFlag (s : State) (ch : Nat) : State :=
  ((((s.set SEN.lostCh 1 ch).setBit SEN.chCond 0 true ch).raise .warning SEN.CH_STAT.BSL ch).set SEN.ofsFlag 1 ch).chFault ch

/-- BSL sets and exactly one channel of the star is lost: with RECON_EN set it is substituted, until SEN is reset (R51). A channel that
was lost before counts although its BSL has been cleared. -/
def bsl (s : State) (ch : Nat) : State :=
  let s1 := s.bslFlag ch
  let n := ((starCh (chAxis ch)).filter fun k => s1.chLost k).length
  (s1.on (n == 1 && s1.is SEN.CTL.RECON_EN) fun t =>
    (t.set SEN.CH_STAT.SUBST 1 ch).setBit SEN.STATUS.SUBST ch true).chFault ch

/-- The comparator's verdict (R49): OC_HI or OC_LO, passed to the axis's trip unit at once. -/
def compare (s : State) (ch : Nat) (v : Int) : State :=
  let hi := decide (s.geti SEN.CH_OC.OC_HI ch < v)
  let lo := decide (v < s.geti SEN.CH_OC.OC_LO ch)
  let s1 := (s.setBit SEN.chCond 3 hi ch).setBit SEN.chCond 4 lo ch
  let s2 := (s1.on hi (·.set SEN.CH_STAT.OC_HI 1 ch)).on lo (·.set SEN.CH_STAT.OC_LO 1 ch)
  (s2.chFault ch).ocTrip (chAxis ch)

end State

namespace State

/-- SEN.BSL.PIT and SEN.CLIP.PIT act (R61): ones for LOSS_WIN + 8 bits, or 24 equal bits whose level is not stated and free. -/
def bitPiton (s : State) (ch : Nat) : State :=
  if s.pit 0x16 1 ch then (s.pitAct.set SEN.bitPit (s.get SEN.CH_CFG.LOSS_WIN ch + 8) ch).set SEN.bitLvl 1 ch
  else if s.pit 0x16 2 ch then (s.pitAct.set SEN.bitPit 24 ch).setFree SEN.bitLvl ch
  else s

/-- One bit of an enabled channel (R42, R43, R48): the run of identical bits on ISDn_DAT with the two conditions on it, the stream
after INV, and the clocks since CH_EN. -/
def bitTake (s : State) (ch : Nat) (dat : Bool) : State :=
  let s1 := s.bitPiton ch
  let b := if s1.is SEN.bitPit ch then s1.is SEN.bitLvl ch else dat
  let s2 := s1.set SEN.bitPit (s1.get SEN.bitPit ch - 1) ch
  let s3 := if s2.is SEN.run ch && s2.is SEN.datLast ch == b then s2.incSat SEN.run ch else s2.set SEN.run 1 ch
  let s4 := ((s3.setb SEN.datLast b ch).set SEN.hist (2 * s3.get SEN.hist ch + ofBool (b != s3.is SEN.CH_CFG.INV ch)) ch).incSat
    SEN.clks ch
  (s4.setBit SEN.chCond 0 (decide (s4.get SEN.CH_CFG.LOSS_WIN ch ≤ s4.get SEN.run ch)) ch).setBit SEN.chCond 1
    (decide (24 ≤ s4.get SEN.run ch)) ch

/-- The comparator value of a channel is compared (R49), from the first clock on, in a window that is filled up with zeros: R43 gives a
start of validity to the other two channels only (DESIGN CHOICE, log entry 37). SEN.OC.PIT puts OC_HI + 1 in its place for one sample (R61). -/
def compareOne (s : State) (ch : Nat) : State :=
  if s.pit 0x16 3 ch then s.pitAct.compare ch (s.geti SEN.CH_OC.OC_HI ch + 1)
  else s.compare ch (s.scale ch (s.compDensity ch)).2

/-- One modulator clock of a channel. -/
def clockOne (s : State) (dat : BitVec 6) (ch : Nat) : State :=
  if s.getBit SEN.CTL.CH_EN ch then (s.bitTake ch (dat.getLsbD ch)).compareOne ch else s

/-- One modulator clock of an axis's control windows of 64 clocks (R42): at the end the filters are taken. The first window that starts after
a reload gives the sample centred on it (R116). -/
def ctrlClock (s : State) (a : Nat) : State :=
  let s1 := s.inc SEN.ctrlClk a
  if s1.is SEN.ctrlClk a then s1
  else
    let s2 := (s1.setb SEN.ctrlMid (s1.get SEN.ctrlAim a == 1) a).set SEN.ctrlAim (s1.get SEN.ctrlAim a - 1) a
    (s2.set SEN.ctrlDue 1 a).forN 3 fun k t =>
    t.set SEN.ctrlRaw (sincRaw (sinc3Weight 64) 190 (t.get SEN.hist (3 * a + k))) (3 * a + k)

end State

/-- COMPARATOR_SAMPLE (R42, R43, R48, R49, R60, R61): one modulator clock of all channels; `dat` is the level of ISDn_DAT. No clock
runs while PLL_MAIN is stopped or the module is in STANDBY or OFF. -/
def execComparatorSample (dat : BitVec 6) (s : State) : Out :=
  .next (if s.is SYS.pllDown || s.is SYS.lowState then s
    else ((s.forN 6 fun k t => t.clockOne dat k).ctrlClock 0).ctrlClock 1)

/-- CH_VALID (R43): the fast and control channels of an enabled channel become valid, 192 modulator clocks after CH_EN. -/
def execChValid (ch : Fin 6) (s : State) : Out :=
  .next (s.on (s.getBit SEN.CTL.CH_EN ch && decide (192 ≤ s.get SEN.clks ch)) (·.setBit SEN.STATUS.CH_VALID ch true))

namespace State

/-- START of an axis's offset measurement. -/
def ofsRow (a : Nat) : Row := if a = 0 then SEN.OFS_CMD.START_A else SEN.OFS_CMD.START_B

/-- An offset measurement of the pipeline's axes runs (R135). -/
def ofsRuns (s : State) (a : Nat) : Bool := s.is (ofsRow a) || (s.joined && s.is SEN.OFS_CMD.START_B)

/-- 0.9 V_dc for the offset measurement (R46), in Q15 of V_base; 36 V while no good V_dc sample is in force. -/
def ofsLimit (s : State) (a : Nat) : Nat :=
  if !s.is SEN.vdcEver || s.is SEN.VDC_STAT.LOST then quotN (360 * 32768) (s.vBase a)
  else quotN (9 * s.get SEN.VDC_VAL.FAST) 10

/-- The conditions of the offset measurement (R46): every switch of the axis off, LOCK clear, the line-line peak below
the limit, and the Vds samples of every island of the axis arriving. -/
def ofsOk (s : State) (a : Nat) : Bool :=
  ((List.range 6).all fun k => !s.is GI.STATUS.ON (6 * a + k) && !s.is GI.cmdOn (6 * a + k)
      && s.getBit GLK.LINK_STAT.UP (6 * a + k))
    && !s.is SEN.CTL.LOCK && decide (s.get SEN.ell a < s.ofsLimit a)

/-- The measurement starts: sums cleared, START reads 1, OFS_DONE falls. -/
def ofsBegin (s : State) (a : Nat) : State :=
  let s1 := (((s.set (ofsRow a) 1).set SEN.ofsCnt 0 a).setBit SEN.STATUS.OFS_DONE a false)
  s1.forN 3 fun k t => (t.set SEN.ofsSum 0 (3 * a + k)).setb SEN.ofsFlag
    (t.getBit SEN.chCond 0 (3 * a + k) || t.getBit SEN.chCond 1 (3 * a + k)) (3 * a + k)

/-- OFS_FAIL on every channel of the axis, OFS unchanged (R46). -/
def ofsFailAll (s : State) (a : Nat) : State :=
  (s.set (ofsRow a) 0).forN 3 fun k t => (t.set SEN.CH_STAT.OFS_FAIL 1 (3 * a + k)).chFault (3 * a + k)

/-- The mean density of a channel, and whether it passes (R47). -/
def ofsMean (s : State) (ch : Nat) : Int := quot (s.geti SEN.ofsSum ch) (2 ^ s.get SEN.OFS_CMD.OFS_LEN)

end State

/-- OFS_START (R46): the measurement runs, or is refused with CFG_REJECT. -/
def execOfsStart (axis : Fin 2) (s : State) : Out :=
  .next (if !s.pdOn 3 then s else if s.is (State.ofsRow axis) then s
    else if s.ofsOk axis then s.ofsBegin axis else s.set SEN.STATUS.CFG_REJECT 1)

/-- The channels that an offset measurement of the axis covers (R46): the enabled ones, but for a substituted channel, whose bitstream is
not used (R51; DEDUCED, log entry 37). -/
def State.ofsChannels (s : State) (a : Nat) : List Nat :=
  (State.starCh a).filter fun ch => s.getBit SEN.CTL.CH_EN ch && !s.is SEN.CH_STAT.SUBST ch

/-- A channel fails its offset measurement (R47): its mean is beyond OFS_LIM, or its bitstream was flagged. -/
def State.ofsBad (s : State) (ch : Nat) : Bool :=
  s.is SEN.ofsFlag ch || decide (s.get SEN.CH_OFS.OFS_LIM ch * 128 < (s.ofsMean ch).natAbs)

/-- The measured offset goes into force, or the channel keeps its OFS and sets OFS_FAIL (R47). -/
def State.ofsTake (s : State) (ch : Nat) : State :=
  if s.ofsBad ch then (s.set SEN.CH_STAT.OFS_FAIL 1 ch).chFault ch else s.seti SEN.CH_OFS.OFS (s.ofsMean ch) ch

/-- OFS_DONE (R46, R47): after 2^OFS_LEN control samples the mean of each measured channel is its OFS; a channel beyond OFS_LIM, or
flagged during the measurement, keeps its OFS and sets OFS_FAIL. Where a condition of R46 no longer holds, the measurement is
abandoned instead. -/
def execOfsDone (axis : Fin 2) (s : State) : Out :=
  .next (if !s.is (State.ofsRow axis) then s
    else if !s.ofsOk axis then s.ofsFailAll axis
    else if s.get SEN.ofsCnt axis < 2 ^ s.get SEN.OFS_CMD.OFS_LEN then s
    else
      let chs := s.ofsChannels axis
      ((chs.foldl State.ofsTake s).set (State.ofsRow axis) 0).setBit SEN.STATUS.OFS_DONE axis (!chs.any s.ofsBad))

/-- OFS_ABANDON (R46): a condition fails during the measurement. -/
def execOfsAbandon (axis : Fin 2) (s : State) : Out :=
  .next (if s.is (State.ofsRow axis) && !s.ofsOk axis then s.ofsFailAll axis else s)

/-- CLIP (R48): 24 identical bits stand. -/
def execSenClip (ch : Fin 6) (s : State) : Out :=
  .next (if 24 ≤ s.get SEN.run ch then s.clip ch else s)

/-- BSL (R48, R51): LOSS_WIN identical bits stand. -/
def execSenBsl (ch : Fin 6) (s : State) : Out :=
  .next (if s.get SEN.CH_CFG.LOSS_WIN ch ≤ s.get SEN.run ch then s.bsl ch else s)

/-- SUM_FAULT (R50). -/
def execSumFault (star : Fin 2) (s : State) : Out :=
  .next (if s.get SEN.SUM_CFG.SUM_N ≤ s.get SEN.sumRun star then
      (s.setBit SEN.STATUS.SUM star true).tripIn star 6
    else s)

/-- SUP5_FAULT (R32, R60): a warning event. -/
def execSup5Fault (b : Bool) (s : State) : Out :=
  .next (if b then s.event .warning 0 0x30 0x0103 0 0 else s.event .warning 0 0x16 0x0102 0 0)

namespace State

/-- The current of an IHA code (R53): (code − 2048 − IHA_OFS) × 2.5 V / 2048 × IHA_GAIN / 32 A/V, in 0.1 A. -/
def ihaI (s : State) (ch code : Nat) : Int :=
  quot (((code : Int) - 2048 - s.geti BL.IHA_CFG.IHA_OFS ch) * 25 * s.get BL.IHA_CFG.IHA_GAIN ch) (2048 * 32)

/-- One redundant channel's sample (R53, R60, R307). IHA_VAL.I, 16 bits of 0.1 A, saturates where the current lies beyond it (DESIGN
CHOICE, log entry 37). -/
def ihaOne (s : State) (ch code : Nat) : State :=
  let s1 := s.on (s.pit 0x30 1 ch) fun t => t.pitAct.set BL.ihaPit 3 ch
  let forced := s1.is BL.ihaPit ch
  let c := if forced then 4095 else code
  let s2 := s1.on forced fun t => t.set BL.ihaPit (t.get BL.ihaPit ch - 1) ch
  let s3 := if c = 0 || c = 4095 then s2.incSat BL.satRun ch else s2.set BL.satRun 0 ch
  let s4 := (s3.seti BL.ihaAmp (s3.ihaI ch c) ch).seti BL.IHA_VAL.I (sat16 (s3.ihaI ch c)) ch
  let i := s4.geti BL.ihaAmp ch
  (s4.seti BL.ihaAcc (s4.geti BL.ihaAcc ch + i) ch).set BL.ihaSq (s4.get BL.ihaSq (ch / 3) + i.natAbs * i.natAbs) (ch / 3)

/-- The IHA sum of a star: consecutive samples above 40 A (R60). -/
def ihaSumOne (s : State) (star : Nat) : State :=
  if 400 < (((starCh star).map fun k => s.geti BL.ihaAmp k).sum).natAbs then s.incSat BL.ihaSumRun star
  else s.set BL.ihaSumRun 0 star

/-- θ_BL of a monitor's track (R287, R288): the count since its reference × pole pairs × 2^16 / CPR_BL + ZOFS_BL from the first index on,
before it POS's forwarded angle plus the count. -/
def thetaBl (s : State) (a : Nat) : Nat :=
  let turn := quot (s.blSince a BL.blRef * s.poles a * 65536) (s.gov BL.TM_CPR.CPR_BL 7 a a)
  ofSigned 16 (turn + (if s.is BL.AXIS.ALIGN_OK a then (s.gov BL.TM_ALIGN.ZOFS_BL 6 a a : Int) else s.get BL.thRef a))

/-- I_BASE of the axis's accepted section, 0.1 A (R239). -/
def iBase (s : State) (a : Nat) : Nat := s.secField (s.axisCh a) 0x040 15 0

/-- The phase currents a monitor uses: those of its axis, or all six in joined mode (R287). -/
def tmCurrents (s : State) (a : Nat) : List Int :=
  (if s.joined then List.range 6 else starCh a).map fun k => s.geti BL.ihaAmp k

/-- i_d and i_q on an angle, in 0.1 A (R287). -/
def tmDq (s : State) (a theta : Nat) : Int × Int :=
  let i := clarke (s.tmCurrents a)
  rotF i.1 i.2 theta

/-- T_TM of R287, Q15 of T_base: c × p × i_q × (PSI_PM + (LD − LQ_eff) × i_d), LQ_eff = LQ × (1 − LQ_SAT × |i_q| /
I_base). -/
def tTm (s : State) (a theta : Nat) : Int :=
  let (id, iq) := s.tmDq a theta
  let d : Int := 32768 * s.iBase a
  let lq : Int := s.gov BL.TM_L.LQ 5 a a * (d - s.gov BL.TM_PSI.LQ_SAT 4 a a * iq.natAbs)
  let c : Int := if s.joined then 6 else 3
  sat16 (quot (c * s.poles a * iq * (10000 * s.gov BL.TM_PSI.PSI_PM 4 a a * d + (s.gov BL.TM_L.LD 5 a a * d - lq) * id) * 32768)
    (2000000000 * s.tBase a * d))

/-- The counters are held (R290, R417): axis disabled, in CATCH, in the end state of STOPPING, in a safe state unless a
winding discharge runs, or PARKED. -/
def tmHeld (s : State) (a : Nat) : Bool :=
  if s.is BL.wind a then false
  else !s.axEn a || s.mode a == 1 || (s.mode a == 6 && s.is SQ.OBS_STAT.STOP (s.lead a)) || s.is BL.AXIS.SAFE (s.lead a)
    || s.parked

/-- The excess of R289 with the interval of T_CMD, clipped in bivouac mode to ±BIV_TLIM × T_RATED (R290). -/
def tmExcess (s : State) (a : Nat) (t : Int) : Int :=
  let cmd : Int := if s.is BL.wind a then 0 else s.geti BL.tCmd a
  let lim : Int := if s.tBase a = 0 then 0 else quot (s.gov BL.BIV_CFG.BIV_TLIM 8 (s.lead a) * s.tRated a) (s.tBase a)
  let c := if s.is BL.AXIS.BIV (s.lead a) then clampI (-lim) lim cmd else cmd
  if t < min 0 c then min 0 c - t else if max 0 c < t then t - max 0 c else 0

/-- One sample of monitor m (R287, R289, R290, R307) for axis k, in joined mode k = m: T_TM on the angle of track x, the two errors
against W = max(TM_PCT × T_RATED, TM_ABS), and the window counter. In joined mode both compute the machine's torque by its one model,
that of axis A. -/
def tmOne (s : State) (m k x : Nat) : State :=
  let a := s.lead k
  let val := if m = 0 then BL.TM_VAL.T_TM0 else BL.TM_VAL.T_TM1
  let cnt := if k = 0 then BL.TM_ERR.CNT0 else BL.TM_ERR.CNT1
  let s1 := s.on (s.pit 0x30 3 k) fun t => t.pitAct.set BL.tmPit ((t.gov BL.TM_WIN.TM_TIME 2 a + 1) * 200) k
  let w := max (s1.gov BL.TM_WIN.TM_PCT 2 a * s1.tRated a) (s1.gov BL.TM_WIN.TM_ABS 2 a * 32768)
  let add : Int := if s1.is BL.tmPit k then quot (2 * w) (s1.tBase a) else 0
  let s2 := s1.on (s1.is BL.tmPit k) fun t => t.set BL.tmPit (t.get BL.tmPit k - 1) k
  let t := sat16 (s2.tTm a (s2.thetaBl x) + add)
  let s3 := s2.seti val t
  if s3.tmHeld a then s3.set cnt 0
  else
    let ovf (e : Nat) : Bool := decide (w < e * s3.tBase a)
    let dis := (t - s3.geti BL.tCe a).natAbs
    if ovf (s3.tmExcess a t).natAbs || ovf dis then s3.incSat cnt else s3.set cnt (s3.get cnt - 1)

/-- A monitor's sample, unless a known-answer test takes its place (R291, R305). -/
def tmTurn (s : State) (m k x : Nat) : State := if s.is BL.katSkip m then s.set BL.katSkip 0 m else s.tmOne m k x

end State

/-- The monitors' samples (R79, R287, R291): in joined mode TM1 uses the track on POS3 while INC2 is valid and the one on POS1 otherwise;
with INC lost and INC2 valid TM0 uses POS3 too, and their difference is judged; in split mode a monitor whose companion is lost serves the axes in turn. A monitor that is lost takes no sample. -/
def State.tmSamples (s : State) : State :=
  let lost (m : Nat) := s.getBit BL.STATUS.TM_LOST m
  if s.joined then
    let x := ofBool (s.getBit POS.XCHK_STAT.VALID 4 0)
    let y := if s.getBit POS.XCHK_STAT.LOST 1 0 || s.is POS.lfAB 0 then x else 0
    let t := (s.on (!lost 0) (·.tmTurn 0 0 y)).on (!lost 1) (·.tmTurn 1 1 x)
    let d := (t.geti BL.TM_VAL.T_TM0 - t.geti BL.TM_VAL.T_TM1).natAbs
    if !lost 0 && !lost 1 && (s.is BL.katSkip 0 || s.is BL.katSkip 1) then t
    else if !lost 0 && !lost 1 && decide (t.gov BL.TM_XCFG.XTOL 3 0 * t.tRated 0 < d * t.tBase 0) then t.incSat BL.tmXRun else t.set BL.tmXRun 0
  else if lost 0 && lost 1 then s
  else if lost 0 || lost 1 then
    let k := s.get BL.tmAlt
    (s.tmTurn (ofBool (lost 0)) k k).set BL.tmAlt (1 - k)
  else (s.tmTurn 0 0 0).tmTurn 1 1 1

/-- A redundant channel is lost (R60, R292): bivouac mode; a further channel is a second cause. -/
def State.ihaLost (s : State) (flag : Row) (ch : Nat) : State :=
  let had := s.getBit BL.IHA_STAT.IHA_SAT ch || s.getBit BL.IHA_STAT.IHA_CM ch || s.getBit BL.IHA_STAT.IHA_ADC ch
  (s.setBit flag ch true).on (!had) fun t => t.bivLoss (t.lead (State.chAxis ch)) .ihaCh

/-- IHA_SAMPLE with TM_SAMPLE (R53, R287, R289). -/
def execIhaSample (codes : List (BitVec 12)) (s : State) : Out :=
  let s1 := s.forN 6 fun k t => t.ihaOne k ((codes.getD k 0).toNat)
  let s2 := ((s1.ihaSumOne 0).ihaSumOne 1).incSat BL.ihaCnt
  .next s2.tmSamples

/-- IHA_SAT (R60, R292). -/
def execIhaSat (ch : Fin 6) (s : State) : Out :=
  .next (if 3 ≤ s.get BL.satRun ch then
      s.ihaLost BL.IHA_STAT.IHA_SAT ch
    else s)

/-- IHA_CM (R60, R292). -/
def execIhaCm (ch : Fin 6) (s : State) : Out :=
  .next (s.ihaLost BL.IHA_STAT.IHA_CM ch)

/-- IHA_ADC (R60, R292). -/
def execIhaAdc (ch : Fin 6) (s : State) : Out :=
  .next (s.ihaLost BL.IHA_STAT.IHA_ADC ch)

/-- IHA_SUM (R60, R292): the sum above 40 A for 20 samples calls for the safe state of the star's axis. -/
def execIhaSum (star : Fin 2) (s : State) : Out :=
  .next (if 20 ≤ s.get BL.ihaSumRun star then
      (s.setBit BL.IHA_STAT.IHA_SUM star true).unsafeAxis star .ihaSum
    else s)

namespace State

/-- The window of one phase (R54): the averages differ by more than XCHK_ABS + XCHK_PCT of the IHA reading, in 0.1 A. The
piton offsets the IHA average by twice the tolerance (R307). Averages are compared as exact fractions. A window in which one path has
no sample restarts the count: R54 does not say what it does (DESIGN CHOICE, log entry 37). -/
def xchkOne (s : State) (ch : Nat) : State :=
  let a := chAxis ch
  let s1 := s.on (s.pit 0x30 2 ch) fun t => t.pitAct.set BL.xPit 3 ch
  let n := s1.get BL.isdCnt ch
  let m := s1.get BL.ihaCnt
  if n = 0 || m = 0 then s1.set BL.xRun 0 ch
  else
    let isd : Int := s1.geti BL.isdSum ch * s1.iBase a * m
    let iha : Int := s1.geti BL.ihaAcc ch * n * 32768
    let tol : Int := s1.get BL.XCHK_TOL.XCHK_ABS * n * m * 32768 + s1.get BL.XCHK_TOL.XCHK_PCT * (s1.geti BL.ihaAcc ch).natAbs * n
    let on := s1.is BL.xPit ch
    let iha' := if on then iha + 2 * tol else iha
    let s2 := s1.on on fun t => t.set BL.xPit (t.get BL.xPit ch - 1) ch
    if tol < (isd - iha').natAbs then (s2.incSat BL.xRun ch).on on (·.set BL.xPitted 1 ch)
    else (s2.set BL.xRun 0 ch).set BL.xPitted 0 ch

end State

/-- XCHK_WINDOW (R54): each phase of the window is judged, and the next window starts. -/
def execXchkWindow (s : State) : Out :=
  let s1 := s.forN 6 fun k t => t.xchkOne k
  .next ((s1.forN 6 fun k t => ((t.set BL.isdSum 0 k).set BL.isdCnt 0 k).set BL.ihaAcc 0 k).set BL.ihaCnt 0)

/-- CUR_XCHK (R54, R55): after three windows; a channel flagged on one path alone loses that path's channel (the same loss where it
is recorded already), otherwise the module cannot tell and calls for the safe state. R55 does not list the flags: on the primary path BSL, CLIP, SUBST and OVR
are taken, not OC_HI, OC_LO and OFS_FAIL, which tell nothing about the sensor (DESIGN CHOICE, log entry 37). -/
def execCurXchk (ch : Fin 6) (s : State) : Out :=
  if s.get BL.xRun ch < 3 then .next s
  else
    let a := State.chAxis ch
    let isd := s.is SEN.CH_STAT.BSL ch || s.is SEN.CH_STAT.CLIP ch || s.is SEN.CH_STAT.SUBST ch || s.is SEN.CH_STAT.OVR ch
    let known := s.getBit BL.IHA_STAT.IHA_SAT ch || s.getBit BL.IHA_STAT.IHA_CM ch || s.getBit BL.IHA_STAT.IHA_ADC ch
    let iha := known || s.is BL.xPitted ch
    let had := s.getBit BL.IHA_STAT.CUR_XCHK ch
    let l := s.lead a
    let s1 := ((s.setBit BL.IHA_STAT.CUR_XCHK ch true).set SEN.CH_STAT.XCHK 1 ch).chFault ch
    .next (if isd && !iha then
        (if s.is SEN.CH_STAT.SUBST ch then s1.bivSame l .xchkIsd else if had then s1.bivEnter1 l .xchkIsd else s1.bivLoss l .xchkIsd)
      else if iha && !isd then
        (if known then s1.bivSame l .xchkIha else if had then s1.bivEnter1 l .xchkIha else s1.bivLoss l .xchkIha)
      else s1.unsafeAxis a .xchkUnattr)

namespace State

/-- A Vds code in Q15 of V_base: 0 to 1200 V on 10 bits (R56). -/
def vdsQ (s : State) (a : Nat) (code : Nat) : Int := quot (code * 12000 * 32768) (1023 * s.vBase a)

/-- The level of the phase node where it is settled (R56): the low-side island's sample while the low side conducts or both switches are
off, V_dc less the high-side island's while the high side conducts. -/
def levelOf (s : State) (a : Nat) : PvLevel → Int
  | .low code | .off code => s.vdsQ a code.toNat
  | .high code => (s.geti SEN.VDC_VAL.FAST : Int) - s.vdsQ a code.toNat

/-- The volt-seconds of one interval, in Q15 × 1.25 ns (R56): an edge of which `done` of `total` had passed at its start moves linearly,
so that its mean here is its level half way through this part. -/
def segArea (s : State) (a : Nat) : PvSeg → Int
  | .settled ticks _ level _ => (ticks : Int) * s.levelOf a level
  | .edge ticks done total before after =>
    let x := s.levelOf a before
    (ticks : Int) * x + quot ((ticks : Int) * (s.levelOf a after - x) * (2 * done + ticks)) (2 * total)

/-- The volt-second average of a leg over the tick of 400 ns (R56). -/
def legAverage (s : State) (a : Nat) (l : List PvSeg) : Int := quot ((l.map fun g => s.segArea a g).sum) 320

/-- The difference of R57 in a settled interval that has lasted 100 ns, with the piton's offset: the interval's own code and the code of
the leg's other island. -/
def pvDiff (s : State) (a leg : Nat) : PvSeg → Option Int
  | .settled ticks before level other =>
    let code := match level with
      | .low c | .off c | .high c => c
    if ticks + before < 80 then none
    else some (s.vdsQ a code.toNat + s.vdsQ a other.toNat
      + (if s.is SEN.pvPit leg then 2 * s.get SEN.PVR_CFG.PV_TOL else 0) - s.geti SEN.VDC_VAL.FAST)
  | .edge .. => none

/-- The differences of a leg in a tick. -/
def legDiffs (s : State) (a leg : Nat) (l : List PvSeg) : List Int := l.filterMap fun g => s.pvDiff a leg g

/-- One leg's reconstruction and check (R56, R57). A tick without a settled interval of 100 ns has not failed and ends the run of
consecutive failing ticks: R57 does not say what it does (DESIGN CHOICE, log entry 37). -/
def pvLeg (s : State) (a k : Nat) (l : List PvSeg) : State :=
  let leg := 3 * a + k
  let s1 := s.on (s.pit 0x16 6 leg) fun t => t.pitAct.set SEN.pvPit (t.get SEN.PVR_CFG.PV_N) leg
  let bad := (s1.legDiffs a leg l).filter fun d => decide (s1.get SEN.PVR_CFG.PV_TOL < d.natAbs)
  let s2 := (s1.on (s1.is SEN.pvPit leg) fun t => t.set SEN.pvPit (t.get SEN.pvPit leg - 1) leg).seti SEN.pv
    (sat16 (s1.legAverage a l)) leg
  if !s2.is SEN.PVR_CFG.PVR_EN || bad.isEmpty then
    (s2.set SEN.pvRun 0 leg).setBit SEN.pvFail leg false
  else ((s2.incSat SEN.pvRun leg).setBit SEN.pvFail leg true).setBit SEN.pvSign leg (decide (bad.headD 0 < 0))

/-- The line-line peak √3 × Clarke magnitude of an axis's phase voltages (R46, R130). -/
def ellOf (s : State) (a : Nat) : Nat :=
  let v (k : Nat) := s.geti SEN.pv (3 * a + k)
  let q (x : Int) : Nat := x.natAbs * x.natAbs
  sqrtQ (2 * (q (v 0 - v 1) + q (v 1 - v 2) + q (v 2 - v 0))) 3

end State

/-- The legs of the enabled stars that fail with one sign in the latest tick, of the sign that more of them have (R57). -/
def State.legsFailing (s : State) : Nat :=
  let n (sign : Bool) := ((List.range 6).filter fun k => s.axEn (State.chAxis k) && s.getBit SEN.pvFail k
    && s.getBit SEN.pvSign k == sign).length
  max (n true) (n false)

/-- PV_RECON (R56, R57). The condition of VDC_XCHK ends in a tick in which fewer than four legs fail with one sign. -/
def execPvRecon (axis : Fin 2) (legs : List (List PvSeg)) (s : State) : Out :=
  let s1 := s.forN 3 fun k t => t.pvLeg axis k (legs.getD k [])
  let s2 := s1.on (decide (s1.legsFailing < 4)) fun t => ((t.setBit SEN.vdcCond 4 false).tripIn 0 9 false).tripIn 1 9 false
  .next ((s2.set SEN.pvNew 1 axis).set SEN.ell (min (s2.ellOf axis) 65535) axis)

/-- LEG_MIS (R57): four or more legs of the enabled stars failing with one sign in one tick set VDC_XCHK, a trip source,
in place of the leg bits; else a leg that failed for PV_N ticks sets its bit, a warning. -/
def execLegMis (leg : Fin 6) (s : State) : Out :=
  .next (if 4 ≤ s.legsFailing then
      (((s.setBit SEN.vdcCond 4 true).set SEN.VDC_STAT.XCHK 1).tripIn 0 9).tripIn 1 9
    else if s.get SEN.PVR_CFG.PV_N ≤ s.get SEN.pvRun leg && s.getBit SEN.pvFail leg then
      s.raiseBit .warning SEN.PVR_STAT.LEG_MIS leg
    else s)

namespace State

/-- DBG_STAT.VDC_OK follows the V_dc condition (R398): VDC_FILT below 60 V with VDC_LOST clear, or no DLI frame since PD3
was last powered; while PD3 is off it does not hold. If it fails, EXTEST and SAMPLE/PRELOAD give way to BYPASS. -/
def debugVdc (s : State) : State :=
  let low := decide (s.get SEN.VDC_VAL.FILT * s.vBase 0 < 600 * 32768) && !s.is SEN.VDC_STAT.LOST
  let ok := s.getBit SYS.PWR_STAT.PD_ON 3 && (low || !s.is SEN.dliEver)
  let s1 := s.setb SEC.DBG_STAT.VDC_OK ok
  s1.on (!ok && (s1.get SEC.tapIr == 2 || s1.get SEC.tapIr == 3)) (·.set SEC.tapIr 1)

/-- A good V_dc sample (R58, R60): FAST, FILT with τ = 2^TAU µs, and the limits; OV is a trip source of both traction
units, UV a warning. The filter moves by 1 / 2^TAU of its distance from the sample, once for each sample of 1 µs, held with 32 fraction
bits: R58 states its order and τ, not this discrete form (DEDUCED, log entry 38). -/
def vdcTake (s : State) (code seq : Nat) : State :=
  let x := min (quotN (code * 11000 * 32768) (16383 * s.vBase 0)) 0x7FFF
  let f := s.get SEN.vdcFilt
  let y := ((f : Int) + quot ((x : Int) * 2 ^ 32 - f) (2 ^ s.get SEN.VDC_CFG.TAU)).toNat
  let s1 := (((((s.set SEN.VDC_RAW.CODE code).set SEN.VDC_RAW.SEQ seq).set SEN.VDC_VAL.FAST x).set SEN.vdcFilt y).set
    SEN.VDC_VAL.FILT (quotN y (2 ^ 32))).set SEN.vdcEver 1
  let ov := decide (s1.get SEN.VDC_LIM.OV < x)
  let uv := decide (x < s1.get SEN.VDC_LIM.UV)
  let s2 := ((((s1.setBit SEN.vdcCond 0 false).setBit SEN.vdcCond 1 false).setBit SEN.vdcCond 2 ov).setBit SEN.vdcCond 3 uv)
  let s3 := (s2.on ov (·.set SEN.VDC_STAT.OV 1)).on uv (·.raise .warning SEN.VDC_STAT.UV)
  let s4 := (s3.set OB.STATUS.VDC_HOLD 0 0).set OB.STATUS.VDC_HOLD 0 1
  (((s4.tripIn 0 7 ov).tripIn 1 7 ov).tripIn 0 8 false).tripIn 1 8 false

/-- A good DLI frame at the proxy (R333 to R335): frames arrive; DIS_FB, DIS_G and the broadcast as it reports them. A fault of the switch
persists until a frame shows DIS_FB back on its side of the threshold, or the switch commanded otherwise: 20 V, or V_dc less 50 V (R334). -/
def dliReport (s : State) (code fb : Nat) : State :=
  let on := s.is DLI.stepLen
  let s1 := (((s.set DLI.STATUS.POWERED 1).set DLI.FB.CODE fb).setb DLI.STATUS.DIS_ON on).setb DLI.STATUS.OVB (s.is DLI.bcast)
  let s2 := s1.on (!on || decide (fb * 1100 ≤ 20 * 16384)) (·.setBit DLI.stuck 0 false)
  s2.on (on || decide (code * 1100 ≤ (fb * 1100 + 50 * 16384))) (·.setBit DLI.stuck 1 false)

end State

/-- VDC_FRAME (R58, R61, R398): a frame with a bad CRC or an out-of-order sequence number, not 1 to 7 after the latest
good one (DEDUCED, log entry 22), is discarded and counted; `fb` is DIS_FB; the piton discards the frames of LOST_US + 1 µs, which BAD_FRAMES
does not count: R61 does not say that it does (DESIGN CHOICE, log entry 37). -/
def execVdcFrame (code : BitVec 14) (fb : BitVec 14) (seq : BitVec 4) (crcOk : Bool) (s : State) : Out :=
  let s0 := s.on (s.pit 0x16 5 0) fun t => t.pitAct.set SEN.vdcPit (t.get SEN.VDC_CFG.LOST_US + 1)
  let s1 := (s0.set SEN.dliEver 1).on crcOk (·.dliReport code.toNat fb.toNat)
  let d := (seq.toNat + 16 - s1.get SEN.VDC_RAW.SEQ) % 16
  let inOrder := !s1.is SEN.vdcEver || decide (1 ≤ d && d ≤ 7)
  .next (if s1.is SEN.vdcPit then s1.set SEN.vdcPit (s1.get SEN.vdcPit - 1)
    else if crcOk && inOrder then (s1.vdcTake code.toNat seq.toNat).debugVdc
    else (s1.incSat SEN.VDC_STAT.BAD_FRAMES).debugVdc)

/-- VDC_STALE (R59, R111): the estimator holds the last value. -/
def execVdcStale (s : State) : Out :=
  .next ((((s.setBit SEN.vdcCond 0 true).set SEN.VDC_STAT.STALE 1).set OB.STATUS.VDC_HOLD 1 0).set OB.STATUS.VDC_HOLD 1 1)

/-- VDC_LOST (R59, R398): passed to both traction trip units. -/
def execVdcLost (s : State) : Out :=
  .next (((((s.setBit SEN.vdcCond 1 true).set SEN.VDC_STAT.LOST 1).tripIn 0 8).tripIn 1 8).debugVdc)

/-- SEN_PIT_ARM (R52, R61, R329): CH names the channel or leg, 0 to 5; another value is out of the field's range and refused. SEL 5 has
no channel. -/
def execSenPitArm (sel : BitVec 4) (ch : BitVec 3) (s : State) : Out :=
  .next (if !s.pdOn 3 then s else if 5 < ch.toNat then s.set SEN.STATUS.CFG_REJECT 1
    else s.pitArm ((s.set SEN.PIT_CTL.SEL sel.toNat).set SEN.PIT_CTL.CH ch.toNat) SEN.PIT_CTL.ARM 0 0x16 sel.toNat
      (if sel.toNat = 5 then 0 else ch.toNat) (2 ^ 31 + ch.toNat * 256 + sel.toNat) (1 ≤ sel.toNat ∧ sel.toNat ≤ 6))

end Sys2Proof.Machine
end

