-- ==== Sys2Proof/Machine/Tables.lean ====
section
/-!
DEFINITION. The tables of the calibration image (R391): words of the calibration RAM, the directory, and the interpolations that the rules
name. The image's plaintext is the integrator's; the model holds it as an opaque function of the image in force (log entry 42). Where the
rules name a table's range and not the places of its entries, the entries stand at equal steps over Q15, and beyond the last one it holds
(DEDUCED, log entry 42).
-/
namespace Sys2Proof.Machine
namespace State

/-- A 32-bit word of the calibration RAM: as a debugger wrote it, else of the image that it holds; 0 where it has been zeroed (R393, R395). -/
def calRam (s : State) (w : Nat) : Nat :=
  if s.is SEC.calOn 0 w then s.get SEC.calW 0 w
  else if s.is SEC.calRamId then Config.free 391 [s.get SEC.calRamId, w] % 2 ^ 32 else 0

/-- Entry `k` of the table of a handle (R391): the directory gives its byte offset; the tables are of Q15. -/
def tableWord (s : State) (h k : Nat) : Int :=
  let n := s.calRam (2 * h) % 2 ^ 24 / 2 + k
  toSigned 16 (s.calRam (n / 2) / 65536 ^ (n % 2) % 65536)

/-- Linear interpolation in a table of `n` entries, `step` apart, at the non-negative place `x`. -/
def tableLin (s : State) (h n step x : Nat) : Int :=
  let k := min (x / step) (n - 1)
  let y := s.tableWord h k
  if k + 1 < n then y + quot ((s.tableWord h (k + 1) - y) * (x % step : Nat)) step else y

/-- A table of 256 entries over a magnitude in Q15 (R105). -/
def tableMag (s : State) (h x : Nat) : Int := s.tableLin h 256 128 x

/-- The two parts of a table of 256 pairs over a magnitude (R115, R391). -/
def tablePair (s : State) (h x : Nat) : Int × Int :=
  let k := min (x / 128) 255
  let lin (j : Nat) : Int :=
    let y := s.tableWord h (2 * k + j)
    if k < 255 then y + quot ((s.tableWord h (2 * k + 2 + j) - y) * (x % 128 : Nat)) 128 else y
  (lin 0, lin 1)

/-- A table of 256 entries over a signed Q15 value. -/
def tableSigned (s : State) (h : Nat) (x : Int) : Int := s.tableLin h 256 256 (x + 32768).toNat

/-- A flux map of 32 × 32 entries over i_d and i_q, bilinear (R91): the row is that of i_d. -/
def tableMap (s : State) (h : Nat) (d q : Int) : Int :=
  let u := (d + 32768).toNat
  let i := min (u / 2048) 31
  let row (r : Nat) : Int :=
    let v := (q + 32768).toNat
    let j := min (v / 2048) 31
    let y := s.tableWord h (32 * r + j)
    if j < 31 then y + quot ((s.tableWord h (32 * r + j + 1) - y) * (v % 2048 : Nat)) 2048 else y
  if i < 31 then row i + quot ((row (i + 1) - row i) * (u % 2048 : Nat)) 2048 else row i

/-- What TLU reads of a table of the calibration image at a value (R167, R391), by the table's kind: over a magnitude, a signed value, or a Q16
angle as R174 does it. A table over two values, and a handle that names none, leave it free (log entry 42). -/
def tableLook (s : State) (h : Nat) (x : Int) : Int :=
  match s.get SEC.calKind 0 h with
  | 2 | 3 => s.tableMag h x.natAbs
  | 5 => s.tableSigned h x
  | 4 =>
    let k := ofSigned 16 x / 64
    let y := s.tableWord h k
    y + roundShift 6 ((s.tableWord h ((k + 1) % 1024) - y) * (ofSigned 16 x % 64 : Nat))
  | _ => toSigned 16 (Config.free 167 [s.get SEC.calRamId, h, x])

end State
end Sys2Proof.Machine
end

