-- ==== Sys2Proof/Machine/Sq.lean ====
section
/-!
DEFINITION. Table-switched torque control, injection, polarity, traverse and catch (04, 05): what SQ and OB do at their
events. The pass of every decision tick and of every PU reload is in Machine/Tick.lean.
-/
namespace Sys2Proof.Machine

/-- The default table of R98 for a three-phase axis: the entry at an index, 0x8000 for a zero state and beyond 35. -/
def defaultEntry (idx : Nat) : Nat :=
  let rows := [[4, 5, 2, 3], [5, 1, 6, 2], [1, 3, 4, 6], [3, 2, 5, 4], [2, 6, 1, 5], [6, 4, 3, 1]]
  let t := idx % 6 / 2
  if 36 ≤ idx || t = 1 then 0x8000 else (rows.getD (idx / 6) []).getD (t / 2 * 2 + idx % 2) 0

/-- The leg changes between two vectors. -/
def legDiff (v w : Nat) : Nat := ((List.range 6).filter fun k => bit v k != bit w k).length

/-- The saliency factor (L_q − L_d) / (L_q + L_d) is at least 0.1 (05, 09). -/
def salient (ld lq : Nat) : Bool := decide (ld + lq ≤ 10 * (lq - ld)) && decide (ld < lq)

namespace State

/-- Entry `idx` of a table bank (R97, R98). -/
def entry (s : State) (a bank idx : Nat) : Nat :=
  let v := s.get SQ.tbl a (128 * bank + idx)
  if v = 0 then defaultEntry idx else v - 1

/-- The legs of a pipeline: three, or six of the joined machine, whose pipeline is the first. -/
def legs (s : State) (a : Nat) : Nat := if s.joined && a == 0 then 6 else 3

/-- The island of the high side of leg `k` of a pipeline. -/
def hiIsland (a k : Nat) : Nat := 6 * (a + k / 3) + 2 * (k % 3)

/-- The present vector: the legs whose high side is commanded on. -/
def presentVec (s : State) (a : Nat) : Nat :=
  ((List.range (s.legs a)).map fun k => if s.is GI.cmdOn (hiIsland a k) then 2 ^ k else 0).sum

/-- A leg has a switch commanded on. -/
def legDriven (s : State) (a k : Nat) : Bool := s.is GI.cmdOn (hiIsland a k) || s.is GI.cmdOn (hiIsland a k + 1)

/-- A trip is latched for the axis, or the Belay island holds it safe: its sequencer commands no leg (R89, R110). -/
def cmdBarred (s : State) (a : Nat) : Bool := s.is PU.TRIP_STAT.TRIPPED (s.tripUnit a) || s.is BL.AXIS.SAFE (s.lead a)

/-- A leg of a pipeline takes its low side, or turns both switches off. -/
def legGo (s : State) (a k : Nat) (low : Bool) : State :=
  if low then s.legTo (a + k / 3) (k % 3) false
  else [hiIsland a k, hiIsland a k + 1].foldl
    (fun t i => t.on (t.is GI.cmdOn i) (·.gateEdge i false (s.slot (a + k / 3) (k % 3)) 64)) s

/-- A leg takes its low side or turns off, and waits for nothing more; a change starts its dwell (R101). -/
def restLeg (s : State) (a k : Nat) (low : Bool) : State :=
  let there := if low then s.is GI.cmdOn (hiIsland a k + 1) else !s.legDriven a k
  ((s.legGo a k low).on (!there) fun u => u.set SQ.dwell (u.get SQ.MINP.MIN_TICKS a) a k).set SQ.waitLegs 0 a k

/-- Every leg of a pipeline takes its low side (SHORT-LO), or turns off (OPEN): at once, or once its minimum dwell has passed (R101, R109). -/
def restLegs (s : State) (a : Nat) (low : Bool) : State :=
  s.forN (s.legs a) fun k t => if t.is SQ.dwell a k then t.set SQ.waitLegs (1 + ofBool low) a k else t.restLeg a k low

/-- The zero vectors (R97, R99). -/
def zeroCodes (s : State) : List Nat := if s.joined then [0, 7, 56, 63] else [0, 7]

/-- The check of a bank (R100): in three-phase mode no VEC above 7 in idx 0 to 35; no zero vector where τ is −1 or +1. The zero-vector
code of an entry is taken to be that of its VEC; ALT, which XY_EN may apply instead, is not looked at (DESIGN CHOICE, log entry 37). -/
def bankOk (s : State) (a bank : Nat) : Bool :=
  (List.range (if s.joined then 72 else 36)).all fun i =>
    let e := s.entry a bank i
    let vec := e % 64
    (s.joined || decide (vec ≤ 7)) && (i % 6 / 2 == 1 || (!bit e 15 && !s.zeroCodes.contains vec))

end State

/-- TBL_SWAP (R100): SWAP reads 1 until the boundary; a failed check refuses the swap with TBL_REJECT. -/
def execTblSwap (axis : Fin 2) (s : State) : Out :=
  .next (if !s.pdOn (3 + axis) then s else if s.bankOk axis (1 - s.get SQ.TBL_CTL.ACT_BANK axis) then s.set SQ.TBL_CTL.SWAP 1 axis
    else s.set SQ.FLAGS.TBL_REJECT 1 axis)

/-- REF_STALE (R106): no reference write within 2 × REF_DIV ticks; a trip source. -/
def execRefStale (axis : Fin 2) (s : State) : Out :=
  .next (if 2 * s.get SQ.REF_CFG.REF_DIV axis ≤ s.get SQ.refAge axis then
      (s.set SQ.FLAGS.REF_STALE 1 axis).tripIn axis 10
    else s)

/-- BAND_WINDOW (R103, R104): the update of S over a full window in TABLE mode with BAND_EN set. The frequency is
N / (2 × legs × W × 400 ns); the quotients' rounding is not stated (log entry 7). -/
def execBandWindow (axis : Fin 2) (s : State) : Out :=
  let a : Nat := axis
  let w := 2 ^ s.get SQ.BAND_CTL.WIN a
  if s.get SQ.winTick a < w then .next s
  else
    let s0 := ((s.set SQ.winTick 0 a).set SQ.bigErr 0 a).set SQ.comm 0 a
    if s.get SQ.STATUS.MODE a ≠ 4 || !s.is SQ.BAND_CTL.BAND_EN a then .next s0
    else if w < 4 * s.get SQ.bigErr a then .next (s0.incSat SQ.FLAGS.DISC_CNT a)
    else
      let f := s.get SQ.comm a * 1250000
      let t := s.get SQ.BAND_CTL.TGT_FSW a * 100 * (s.legs a * w)
      let old := s.get SQ.BAND_VAL.S a
      let new := clampI (s.get SQ.BAND_LIM.S_MIN a) (s.get SQ.BAND_LIM.S_MAX a)
        (old + quot (old * s.get SQ.BAND_CTL.K_BAND a * ((f : Int) - t)) (8 * t))
      let s1 := (s0.seti SQ.BAND_VAL.S new a).set SQ.BAND_VAL.FSW_MEAS
        (min (quotN (s.get SQ.comm a * 125000) (s.legs a * w)) 65535) a
      let s2 := s1.on (new == s.get SQ.BAND_LIM.S_MAX a && decide (t < f)) (·.raise .warning SQ.FLAGS.BAND_MAX a)
      .next (s2.on (new == s.get SQ.BAND_LIM.S_MIN a && decide (f < t)) (·.raise .warning SQ.FLAGS.BAND_MIN a))

namespace State

/-- Losses within the last RETRY_WIN seconds (R109). -/
def losses (s : State) (a : Nat) : Nat :=
  ((List.range (s.get SQ.lossN a)).filter fun k =>
    decide (s.now - s.get SQ.lossT a k ≤ s.get SQ.OBS_CFG.RETRY_WIN a * 400000000)).length

/-- The axis is disabled and waits for ENABLE: its channel is no longer enabled. -/
def axisOut (s : State) (a : Nat) : State := (s.set ACT.chEn 0 (s.axisCh a)).set BL.run 0 a

end State

/-- OBS_LOST (R108, R109): the eighth consecutive tick above RES_TH in TABLE; STOPPING begins with its torque ramp. The
event carries RES, T_est, the offered speed and VDC_FILT, 16 bits each from high to low. -/
def execObsLost (axis : Fin 2) (s : State) : Out :=
  let a : Nat := axis
  if s.get SQ.resRun a < 8 || s.get SQ.STATUS.MODE a ≠ 4 then .next s
  else
    let data := s.get OB.TQ_VAL.RES a * 2 ^ 48 + s.get OB.TQ_VAL.T_EST a * 2 ^ 32 + s.get POS.offSpd a * 65536
      + s.get SEN.VDC_VAL.FILT
    let s1 := (s.set SQ.FLAGS.OBS_LOST 1 a).event .fault a (0x10 + a) 0x0001 (SQ.FLAGS.OBS_LOST.addr a 0) data
    let s2 := s1.forN 7 fun k t => t.set SQ.lossT (s1.get SQ.lossT a (6 - k)) a (7 - k)
    let s3 := (s2.set SQ.lossT s2.now a 0).set SQ.lossN (min (s2.get SQ.lossN a + 1) 8) a
    let s4 := (((s3.set SQ.OBS_STAT.LOSS_CNT (s3.losses a) a).set SQ.OBS_STAT.STOP 0 a).set SQ.rampT0
      (s3.get SQ.REF.T_REF a) a).set SQ.rampN 0 a
    .next (((s4.set SQ.lastSls (s4.get OB.SLS_VAL.SLS_SPD a) a).set SQ.resRun 0 a).setMode a 6)

namespace State

/-- Injection and polarity test end (R119, R120, R122). -/
def injEnd (s : State) (a : Nat) : State :=
  let s1 := ((s.set OB.INJ_STAT.INJ_ACTIVE 0 a).set OB.INJ_STAT.INJ_CONV 0 a).set OB.slsAf 0 a
  ((s1.set OB.polRun 0 a).set OB.polPh 0 a).set OB.polWait 0 a

/-- They stop with the axis, and a ramp after their loss with them. -/
def injStop (s : State) (a : Nat) : State := (s.injEnd a).set SQ.injRamp 0 a

/-- What the catch has measured of the rotor is dropped (R130 to R132). -/
def catchClear (s : State) (a : Nat) : State :=
  let s1 := ((s.set OB.cN 0 a).set OB.cOn 0 a).set OB.cTick 0 a
  ((s1.set OB.pTick 0 a).set OB.agreeOn 0 a).set SQ.pulseAge 255 a

/-- A catch begins (R130): MODE CATCH with every switch off, CATCH_STAT cleared, no injection, polarity test or traverse under way (R119). -/
def catchStart (s : State) (a : Nat) (re : Bool) : State :=
  let s1 := ((((s.restLegs a false).set SQ.CATCH_STAT.METHOD 0 a).set SQ.CATCH_STAT.RESULT 0 a).set SQ.CATCH_STAT.OUTCOME 0 a)
  let s2 := ((s1.set SQ.CATCH_STAT.PULSES 0 a).set SQ.CATCH_STAT.T_CONV 0 a).set SQ.CATCH_STAT.DIR 0 a
  let s3 := (((s2.forN 2 fun k t => (t.set OB.ellSum 0 k).set OB.ellN 0 k).set OB.catchT s2.now a).set OB.catchHi 0 a).catchClear a
  let s4 := (((s3.setb OB.recatch re a).set OB.catchPit 0 a).set SQ.catchGo 0 a).set SQ.pulseLeft 0 a
  let s5 := (s4.injStop a).set SQ.psiOn 0 a
  (s5.detach a true).setMode a 1

/-- √3 × |ω_e| × ψ_pm < `v` (R109, R130), squared and brought to one scale: ω in Q15 of W_BASE, ψ_pm in µWb, `v` in per cent of Q15 of
V_BASE in 0.1 V. -/
def emfUnder (s : State) (a : Nat) (w : Int) (v : Nat) : Bool :=
  let e := w.natAbs * s.wBase a * s.get OB.mach a 3
  let u := v * s.vBase a * 1000
  decide (3 * (e * e) < u * u)

/-- The back-EMF is below VDC_FILT (R109). -/
def emfBelow (s : State) (a : Nat) (w : Int) : Bool := s.emfUnder a w (100 * s.get SEN.VDC_VAL.FILT)

/-- The setpoint stream of an axis still delivers within its window (R109): it has not lapsed. -/
def streamOk (s : State) (a : Nat) : Bool := !s.is BL.AXIS.LAPSED a && s.get BL.lapse a % 3 == 0

end State

/-- STOPPING_RAMP_END (R109 steps 3 to 6): OPEN or SHORT-LO by the back-EMF against VDC_FILT; then a re-catch, or the axis
is disabled and an information event records the choice. A trip or a safe state comes before it (R110). Which MODE stands once the axis is
disabled is not stated: it stays STOPPING (DESIGN CHOICE, log entry 37). -/
def execStoppingRampEnd (axis : Fin 2) (s : State) : Out :=
  let a : Nat := axis
  if s.get SQ.STATUS.MODE a ≠ 6 || s.is SQ.OBS_STAT.STOP a || s.cmdBarred a || 2 * s.get SQ.rampN a < 5 * s.get SQ.OBS_CFG.RAMP_US a then
    .next s
  else
    let w := if s.getBit POS.XCHK_STAT.VALID 1 a then s.geti POS.SPD_VAL.SPD_INC a
      else if s.getBit POS.XCHK_STAT.VALID 0 a then s.geti POS.SPD_VAL.SPD_ABS a else s.geti SQ.lastSls a
    let s1 := if s.emfBelow a w then (s.restLegs a false).set SQ.OBS_STAT.STOP 1 a else (s.restLegs a true).set SQ.OBS_STAT.STOP 2 a
    let s2 := s1.set SQ.OBS_STAT.LOSS_CNT (s1.losses a) a
    .next (if s2.streamOk a && s2.is SQ.OBS_CFG.RETRY_MAX a && s2.get SQ.OBS_STAT.LOSS_CNT a ≤ s2.get SQ.OBS_CFG.RETRY_MAX a
      then s2.catchStart a true
      else (s2.axisOut a).event .info a (0x10 + a) 0x0001 (SQ.OBS_STAT.STOP.addr a 0) (s2.get SQ.OBS_STAT.STOP a))

/-- XY_HIGH (R107): |i_xy| above XY_LIM for XY_N ticks; a warning event. -/
def execXyHigh (axis : Fin 2) (s : State) : Out :=
  .next (if s.get SQ.XY_CFG.XY_N axis ≤ s.get SQ.xyRun axis then s.raise .warning SQ.FLAGS.XY_HIGH axis else s)

namespace State

/-- No injection: INJ_CNT 0 (R120), or a saliency factor below 0.1, for which OB rejects it (05). -/
def injOff (s : State) (a : Nat) : Bool := !s.is OB.INJ_CFG.INJ_CNT a || !salient (s.get OB.mach a 1) (s.get OB.mach a 2)

/-- The time between two loop updates, in 2.5 ns. -/
def updTime (s : State) (a : Nat) : Nat := s.get PU.perAct a * (2 - s.get SQ.CAR_CFG.DBL_UPD a)

/-- The phase of the pulsating injection as a 16-bit angle (R117). -/
def injPhase (s : State) (a : Nat) : Nat := quotN (s.get OB.injPh a * 65536) (s.injRate a)

/-- The injected amplitude in Q15 of V_base: V_H, which ramps in from zero over INJ_RAMP periods (R117, R118, R127). -/
def injAmp (s : State) (a : Nat) : Int :=
  let r : Int := s.get OB.INJ_CFG.INJ_RAMP a
  quotF 117 (s.get OB.INJ_CFG.V_H a * 10 * 32768 * (r - s.get OB.injRampN a)) (s.vBase a * r)

/-- The voltage that the injection adds along the estimated d-axis (R117, R118). -/
def injVolt (s : State) (a : Nat) : Int :=
  if !s.is OB.INJ_STAT.INJ_ACTIVE a || !s.is OB.INJ_CFG.INJ_CNT a then 0
  else if s.is OB.INJ_CFG.INJ_MODE a then (if s.is OB.injSign a then s.injAmp a else -s.injAmp a)
  else quot (s.injAmp a * cosF (s.injPhase a)) unitF

/-- The loop updates in the window over which EPS is averaged (R119): INJ_CNT injection periods, with the square wave of two PWM periods
each (R118). -/
def injWindow (s : State) (a : Nat) : Nat :=
  let c := s.get OB.INJ_CFG.INJ_CNT a
  max 1 (min 40960 (if s.is OB.INJ_CFG.INJ_MODE a then 2 * c * (1 + s.get SQ.CAR_CFG.DBL_UPD a)
    else quotN (c * s.injRate a) (s.get OB.INJ_CFG.F_H a)))

/-- The control currents of a pipeline as the engines read them (R116). -/
def portCurrents (s : State) (a : Nat) : List Int :=
  (List.range (s.legs a)).map fun k => s.geti OB.ctrlPort (a + k / 3) (k % 3)

/-- The correction of the injection angle over i_q (05), 0 with no table. -/
def injCorr (s : State) (a : Nat) : Int :=
  let h := s.get OB.handle a 1 / 256 % 256
  let i := clarke (s.portCurrents a)
  if h = 0 then 0 else s.tableSigned h (rotF i.1 i.2 (s.get OB.injAng a)).2

/-- SLS_VALID (R94, R119): AF_CONV while injection is off, and after a traverse down until INJ_CONV; INJ_CONV gated by
POL_DONE while it runs; with INJ_CNT 0 SLS is invalid in CARRIER mode (R120). -/
def slsUpdate (s : State) (a : Nat) : State :=
  let m := s.get SQ.STATUS.MODE a
  let v := if m = 2 && !s.is OB.INJ_CFG.INJ_CNT a then false
    else if !s.is OB.INJ_STAT.INJ_ACTIVE a && !s.is OB.polRun a then s.is OB.STATUS.AF_CONV a
    else if s.is OB.slsAf a then s.is OB.STATUS.AF_CONV a
    else s.is OB.INJ_STAT.INJ_CONV a && s.is OB.POL_STAT.POL_DONE a
  let inj := (s.is OB.INJ_STAT.INJ_ACTIVE a || s.is OB.polRun a) && !s.is OB.slsAf a
  let off : Int := if s.is OB.slsPit a then 2 * s.get POS.XCHK_CFG.ANG_TOL a else 0
  ((s.setb OB.STATUS.SLS_VALID v a).seti OB.SLS_VAL.SLS_ANG
    ((if inj then (s.get OB.injAng a : Int) - s.injCorr a else s.get OB.afAng a) + off) a).set OB.SLS_VAL.SLS_SPD
    (if inj then s.get OB.injSpd a else s.get OB.afSpd a) a

/-- A step of a second-order tracking loop over `dt` × 2.5 ns (R94, R119): the speed moves by KI of the error, the angle by the speed and by
KP of the error. That the error counts in 1/65536 of a turn for the angle and in Q15 for the speed is not stated (DEDUCED, log entry 41). -/
def loopStep (s : State) (a kp ki ang : Nat) (spd err : Int) (dt : Nat) : Int × Int :=
  let w := sat16 (spd + mulQ15 ki err)
  (ang + s.travelled a w dt + mulQ15 kp err, w)

/-- The estimated-d and estimated-q current of the latest control samples without the invalid mark (R43). -/
def injCurrents (s : State) (a : Nat) : Int × Int :=
  let i := clarke ((List.range (s.legs a)).map fun k => s.geti OB.ctrlLast (a + k / 3) (k % 3))
  rotF i.1 i.2 (s.get OB.injAng a)

/-- The demodulated products of an update, estimated-q and estimated-d: with the pulsating injection the currents times its sine (R117), with
the square wave the difference of consecutive increments times the sign of the step applied (R118). -/
def injProducts (s : State) (a : Nat) (i : Int × Int) : Int × Int :=
  if s.is OB.INJ_CFG.INJ_MODE a then
    let g (x : Int) (k : Nat) : Int := (x - s.geti OB.dqLast a k - s.geti OB.dqLast a (k + 2)) * (if s.is OB.injSign a then 1 else -1)
    (g i.2 1, g i.1 0)
  else
    let sn := sinF (s.injPhase a)
    (quot (i.2 * sn) (2 ^ 112), quot (i.1 * sn) (2 ^ 112))

/-- The products of the window added up. -/
def injSum (s : State) (r : Row) (a : Nat) : Int :=
  ((List.range (min (s.get OB.hN a) (s.injWindow a))).map fun k => s.geti r a ((s.get OB.hIdx a + 40959 - k) % 40960)).sum

/-- One sample of the demodulation (R117 to R119): EPS, the estimated-q product averaged over the window and normalised by the estimated-d one
and by k_s, and the amplitude of the estimated-d current. Without an amplitude EPS has no stated value. How the averages are formed is not
stated (DEDUCED, log entry 41). -/
def injDemod (s : State) (a : Nat) : State :=
  let i := s.injCurrents a
  let p := s.injProducts a i
  let k := s.get OB.hIdx a
  let s1 := ((s.seti OB.hQ p.1 a k).seti OB.hD p.2 a k).set OB.hIdx ((k + 1) % 40960) a
  let s2 := s1.set OB.hN (min (s1.get OB.hN a + 1) 40960) a
  let s3 := ((s2.seti OB.dqLast (i.1 - s.geti OB.dqLast a 0) a 2).seti OB.dqLast (i.2 - s.geti OB.dqLast a 1) a 3).seti OB.dqLast i.1 a 0
    |>.seti OB.dqLast i.2 a 1
  let n : Int := min (s3.get OB.hN a) (s3.injWindow a)
  let ld : Int := s3.get OB.mach a 1
  let lq : Int := s3.get OB.mach a 2
  let q := s3.injSum OB.hQ a
  let d := s3.injSum OB.hD a
  let amp := if s3.is OB.INJ_CFG.INJ_MODE a then quotF 118 d n else quotF 118 (2 * d) (65536 * n)
  (s3.seti OB.INJ_VAL.EPS (sat16 (quotF 119 (q * (lq + ld) * 32768) (d * (lq - ld)))) a).set OB.INJ_VAL.I_HF (min amp.natAbs 0xFFFF) a

/-- One loop update of the injection (R117 to R119, R121, R122, R139): the error demodulated, the tracker, the runs in and out of tolerance. The INJ
piton adds to EPS for INJ_N updates. During a polarity test the injection pauses and the angle is extrapolated with the tracker's speed. An INJ_CNT
of 0 that has come into force meanwhile ends both (R120). -/
def injUpdate (s : State) (a : Nat) : State :=
  if !s.is OB.INJ_CFG.INJ_CNT a then
    s.on (s.is OB.INJ_STAT.INJ_ACTIVE a || s.is OB.polRun a) fun t => (t.injEnd a).slsUpdate a
  else if s.is OB.polRun a then
    (s.seti OB.injAng (s.get OB.injAng a + s.travelled a (s.geti OB.injSpd a) (s.updTime a)) a).slsUpdate a
  else if !s.is OB.INJ_STAT.INJ_ACTIVE a then s
  else
    let s0 := s.on (s.pit (0x13 + a) 3 a) fun t => t.pitAct.set OB.injPit (t.get OB.INJ_CONV.INJ_N a) a
    let s1 := s0.injDemod a
    let tol : Int := s1.get OB.INJ_CONV.INJ_TOL a
    let add : Int := if s1.is OB.injPit a then 2 * tol else 0
    let e := sat16 (s1.geti OB.INJ_VAL.EPS a + add)
    let s2 := (s1.seti OB.INJ_VAL.EPS e a).on (s1.is OB.injPit a) fun t => t.set OB.injPit (t.get OB.injPit a - 1) a
    let n := s2.loopStep a (s2.get OB.INJ_TRK.INJ_KP a) (s2.get OB.INJ_TRK.INJ_KI a) (s2.get OB.injAng a) (s2.geti OB.injSpd a) (-e)
      (s2.updTime a)
    let s3 := ((s2.seti OB.injAng n.1 a).seti OB.injSpd n.2 a).set OB.injPh
      ((s2.get OB.injPh a + s2.get OB.INJ_CFG.F_H a) % s2.injRate a) a
    let s4 := if e.natAbs < tol then s3.incSat OB.injIn a else s3.set OB.injIn 0 a
    (if s4.is OB.INJ_STAT.INJ_CONV a && tol < e.natAbs then s4.incSat OB.injOut a else s4.set OB.injOut 0 a).slsUpdate a

end State

/-- AF_CONV (R94): set above SLS_MIN once the loop error has stayed below CONV_TOL for CONV_N ticks; cleared below 7/8 of
SLS_MIN or after CONV_N ticks above. -/
def execAfConv (axis : Fin 2) (s : State) : Out :=
  let a : Nat := axis
  let w := (s.geti OB.afSpd a).natAbs
  let n := s.get OB.SLS_CFG.CONV_N a
  let s1 := if 8 * w < 7 * s.get OB.SLS_CFG.SLS_MIN a || n ≤ s.get OB.afBad a then s.set OB.STATUS.AF_CONV 0 a
    else if s.get OB.SLS_CFG.SLS_MIN a < w && n ≤ s.get OB.afOk a then s.set OB.STATUS.AF_CONV 1 a else s
  .next (s1.slsUpdate a)

/-- OB_PIT_ARM (R113, R139, R329). -/
def execObPitArm (axis : Fin 2) (sel : BitVec 4) (s : State) : Out :=
  .next (if !s.pdOn (3 + axis) then s else s.pitArm (s.set OB.PIT_CTL.SEL sel.toNat axis) OB.PIT_CTL.ARM axis (0x13 + axis) sel.toNat axis (2 ^ 31 + sel.toNat)
    (1 ≤ sel.toNat ∧ sel.toNat ≤ 5))

/-- SQ_PIT_ARM (R113, R139, R329). -/
def execSqPitArm (axis : Fin 2) (sel : BitVec 4) (s : State) : Out :=
  .next (if !s.pdOn (3 + axis) then s else s.pitArm (s.set SQ.PIT_CTL.SEL sel.toNat axis) SQ.PIT_CTL.ARM axis (0x10 + axis) sel.toNat axis (2 ^ 31 + sel.toNat)
    (1 ≤ sel.toNat ∧ sel.toNat ≤ 3))

namespace State

/-- The source that gives the polarity (R122): a valid ABS word, or an aligned INC source. -/
def polSource (s : State) (a : Nat) : Option Nat :=
  if s.getBit POS.XCHK_STAT.VALID 0 a then some 0
  else if s.getBit POS.XCHK_STAT.VALID 1 a && s.is POS.INC_STAT.ALIGNED a then some 1 else none

/-- The tracker takes the half turn that lies nearer to an angle. -/
def polNear (s : State) (a ang : Nat) : State :=
  s.on (decide (0x4000 < (wrap16 ((s.get OB.injAng a : Int) - ang)).natAbs)) fun t => t.set OB.injAng (t.get OB.injAng a + 0x8000) a

/-- POL_DONE (R119, R123): POL_TIME, and the injection resumes with an empty window. -/
def polDone (s : State) (a src : Nat) : State :=
  let ms := (s.now - s.get OB.injT a) / 400000
  let s1 := ((s.set OB.POL_STAT.POL_DONE 1 a).set OB.POL_STAT.POL_SRC src a).set OB.POL_STAT.POL_TIME (min ms 255) a
  (((s1.set OB.polRun 0 a).set OB.polPh 0 a).set OB.hN 0 a).set OB.INJ_STAT.INJ_ACTIVE 1 a

/-- The pulse number `i` of a test is along +d: pairs alternate their order (R122). -/
def polPlus (i : Nat) : Bool := i / 2 % 2 == i % 2

/-- The current to be reached by a pulse (R122, R123): POL_I, in the repeat raised by half. -/
def polLimit (s : State) (a : Nat) : Nat :=
  if s.is OB.polRep a then quotN (3 * s.get OB.POL_CFG.POL_I a) 2 else s.get OB.POL_CFG.POL_I a

/-- A pulse begins (R122). -/
def polPulse (s : State) (a : Nat) : State :=
  ((((s.set OB.polPh 1 a).set OB.polN 0 a).set OB.polPrev 0 a).set OB.polCur 0 a).setb OB.polNeg (!polPlus (s.get OB.polIdx a)) a

/-- A polarity test starts (R122): the injection pauses. -/
def polStart (s : State) (a : Nat) : State :=
  let s1 := s.on (s.pit (0x13 + a) 4 a) fun t => t.pitAct.set OB.polPit 2 a
  (((((s1.set OB.INJ_STAT.INJ_ACTIVE 0 a).set OB.polRun 1 a).set OB.polIdx 0 a).set OB.polP 0 a).set OB.polM 0 a).polPulse a

/-- Polarity not found (R123): all switches off, a fault event, the axis waits for ENABLE. -/
def polFailed (s : State) (a data : Nat) : State :=
  let s1 := (s.raiseArg .fault OB.POL_STAT.POL_FAIL data a).legsOff a
  let s2 := (((s1.set OB.polRun 0 a).set OB.polPh 0 a).set OB.polWait 0 a).set OB.INJ_STAT.INJ_ACTIVE 0 a
  (((s2.detach a true).axisOut a).setMode a 0).slsUpdate a

end State

/-- INJ_CONV (R119, R122): the tracker converges; at the first convergence after a start command the polarity comes from
a valid source, or the test starts. -/
def execInjConv (axis : Fin 2) (s : State) : Out :=
  let a : Nat := axis
  if !s.is OB.INJ_STAT.INJ_ACTIVE a || s.get OB.injIn a < s.get OB.INJ_CONV.INJ_N a then .next s
  else
    let s1 := ((s.set OB.INJ_STAT.INJ_CONV 1 a).set OB.slsAf 0 a).set OB.injOut 0 a
    let s2 := if s1.is OB.polWait a then
        let t := s1.set OB.polWait 0 a
        if t.is OB.POL_STAT.POL_DONE a then t
        else match t.polSource a with
          | some k => (t.polNear a (t.srcAng a k)).polDone a 1
          | none => t.polStart a
      else s1
    .next (s2.slsUpdate a)

namespace State

/-- The rise time of a pulse in 2.5 ns, between the two fast samples that the current limit lies between (R122). -/
def polRise (s : State) (a : Nat) : Nat :=
  (160 * ((s.get OB.polN a : Int) - 1)
    + quotF 122 (160 * ((s.polLimit a : Int) - s.geti OB.polPrev a)) (s.geti OB.polCur a - s.geti OB.polPrev a)).toNat

/-- A fast sample during a polarity test (R122), `d` the estimated-d current: the rise to the limit, the return to zero, the wait of 50 µs. -/
def polSample (s : State) (a : Nat) (d : Int) : State :=
  let i := if s.is OB.polNeg a then -d else d
  let t := s.set OB.polN (s.get OB.polN a + 1) a
  let next (k : Nat) (u : State) : State := (u.set OB.polPh k a).set OB.polN 0 a
  match s.get OB.polPh a with
  | 1 =>
    let u := (t.set OB.polPrev (t.get OB.polCur a) a).seti OB.polCur i a
    if (u.polLimit a : Int) ≤ i then next 2 (u.set OB.polT (u.polRise a) a) else u
  | 2 => if i ≤ 0 then next 3 t else t
  | 3 => if 125 ≤ t.get OB.polN a then next 4 t else t
  | _ => s

/-- The phase with the smallest current (R123). -/
def polPhase (s : State) (a : Nat) : Nat :=
  (List.range (s.legs a)).foldl (fun m k =>
    if (s.geti OB.iPrev (3 * a + k)).natAbs < (s.geti OB.iPrev (3 * a + m)).natAbs then k else m) 0

end State

/-- POL_PULSE_END (R122, R123, R139): a pulse whose current has reached POL_I and has returned to zero 50 µs ago ends, and the next one begins; one
that has not reached it after POL_TMAX fails, with the phase of the smallest current in its event. After 2 × POL_N pulses RATIO = Σt− / Σt+
decides; an ambiguous test repeats once with POL_I raised by half. -/
def execPolPulseEnd (axis : Fin 2) (s : State) : Out :=
  let a : Nat := axis
  let late := s.get OB.polPh a == 1 && decide (s.get OB.POL_CFG2.POL_TMAX a * 25 ≤ s.get OB.polN a)
  if !s.is OB.polRun a || (s.get OB.polPh a ≠ 4 && !late) then .next s
  else if late then .next (s.polFailed a (s.polPhase a))
  else
    let i := s.get OB.polIdx a
    let r := if s.is OB.polNeg a then OB.polM else OB.polP
    let s1 := (s.set r (s.get r a + s.get OB.polT a) a).set OB.polIdx (i + 1) a
    if i + 1 < 2 * s1.get OB.POL_CFG2.POL_N a then .next (s1.polPulse a)
    else
      let pit := s1.is OB.polPit a
      let p := if pit then 1 else s1.get OB.polP a
      let m := if pit then 1 else s1.get OB.polM a
      let k := s1.get OB.POL_CFG2.POL_MARGIN a
      let s2 := (s1.set OB.POL_STAT.RATIO (min (quotN (8192 * m) p) 65535) a).on pit fun t =>
        t.set OB.polPit (t.get OB.polPit a - 1) a
      let take (t : State) : State := (t.align a 3 (t.get POS.INC_POS.POS a) (t.get OB.injAng a)).slsUpdate a
      .next (if p * (256 + k) < m * 256 then take (s2.polDone a 0)
        else if m * (256 + k) < p * 256 then
          take (((s2.set OB.POL_STAT.POL_FLIP 1 a).set OB.injAng (s2.get OB.injAng a + 0x8000) a).polDone a 0)
        else if s2.is OB.polRep a then s2.polFailed a 0
        else
          (((((s2.set OB.POL_STAT.POL_AMBIG 1 a).set OB.polRep 1 a).set OB.polIdx 0 a).set OB.polP 0 a).set OB.polM 0 a).polPulse a)

/-- POL_FAIL (R123): no POL_DONE within 20 ms of the injection start. -/
def execPolFail (axis : Fin 2) (s : State) : Out :=
  .next (if (s.is OB.polRun axis || s.is OB.polWait axis) && !s.is OB.POL_STAT.POL_DONE axis
      && decide (s.get OB.injT axis + 8000000 ≤ s.now) then s.polFailed axis 0 else s)

/-- INJ_LOST (R121, R79): the tracker is lost after convergence, a warning event; SLS is lost to the cross-check, and
when it was the only valid source the torque ramp starts. -/
def execInjLost (axis : Fin 2) (s : State) : Out :=
  let a : Nat := axis
  if !s.is OB.INJ_STAT.INJ_CONV a || s.get OB.injOut a < s.get OB.INJ_CONV.INJ_N a then .next s
  else
    let only := s.get POS.XCHK_STAT.VALID a == 4
    let s1 := ((s.raise .warning OB.INJ_STAT.INJ_LOST a).set OB.INJ_STAT.INJ_CONV 0 a).set OB.injIn 0 a
    let s2 := ((s1.setBit POS.XCHK_STAT.LOST 2 true a).setBit POS.XCHK_STAT.VALID 2 false a).slsUpdate a
    .next (s2.on only fun t => (t.set SQ.injRamp 1 a).set SQ.injRampN 0 a)

/-- INJ_LOST_RAMP_END (R121): after RAMP_US every switch off; the axis waits for ENABLE. -/
def execInjLostRampEnd (axis : Fin 2) (s : State) : Out :=
  let a : Nat := axis
  .next (if s.is SQ.injRamp a && decide (5 * s.get SQ.OBS_CFG.RAMP_US a ≤ 2 * s.get SQ.injRampN a) then
      ((((((s.set SQ.injRamp 0 a).legsOff a).set OB.INJ_STAT.INJ_ACTIVE 0 a).detach a true).axisOut a).setMode a
        0).slsUpdate a
    else s)

namespace State

/-- |ω| × 100 against a percentage of W_CORNER (R125). -/
def travUp (s : State) (a : Nat) (w : Int) : Bool :=
  decide (s.get SQ.TRAV_CFG.UP_PCT a * s.get SQ.TRAV_SPD.W_CORNER a ≤ w.natAbs * 100)

/-- |ω| at or below DN (R125). -/
def travDn (s : State) (a : Nat) (w : Int) : Bool :=
  decide (w.natAbs * 100 ≤ s.get SQ.TRAV_CFG.DN_PCT a * s.get SQ.TRAV_SPD.W_CORNER a)

/-- The conditions of the handover that are not met (R126): bit 0 AF_CONV, 1 EST_VALID, 2 RES, 3 torque. -/
def travUnmet (s : State) (a : Nat) : Nat :=
  let tq := (s.geti BL.tCmd a - s.geti OB.TQ_VAL.T_EST a).natAbs
  ofBool (!s.is OB.STATUS.AF_CONV a) + 2 * ofBool (!s.is OB.STATUS.EST_VALID a)
    + 4 * ofBool (decide (s.get OB.RES_CFG.RES_TH a < s.get OB.TQ_VAL.RES a))
    + 8 * ofBool (decide (s.get SQ.TRAV_TQ.TQ_TOL a * s.tRated a * 32768 < tq * s.tBase a * 1024))

/-- TRAV_HOLD starts after a traverse or an abort (R125, R126); 0 means no hold. -/
def travHold (s : State) (a : Nat) : State :=
  ((s.setb SQ.TRAV_STAT.HOLD (s.is SQ.TRAV_CFG.TRAV_HOLD a) a).set SQ.travCnt 0 a).set SQ.travT s.now a

/-- The hold's milliseconds have passed. -/
def travHeld (s : State) (a : Nat) : Bool := decide (s.get SQ.travT a + 400000 * s.get SQ.TRAV_CFG.TRAV_HOLD a ≤ s.now)

/-- The entry into table mode: the hysteresis states (R96), a band window and a count of R108 that begin anew, no leg that waits. -/
def tableEntry (s : State) (a : Nat) : State :=
  let s1 := ((s.set SQ.STATUS.TQ_STATE 1 a).setb SQ.STATUS.FLX_STATE
    (decide (s.get OB.PSI_VAL.PSI_MAG a ≤ s.get SQ.REF.PSI_REF a)) a).set SQ.inZero 0 a
  let s2 := (((s1.set SQ.winTick 0 a).set SQ.bigErr 0 a).set SQ.comm 0 a).set SQ.resRun 0 a
  s2.forN 6 fun k t => t.set SQ.waitLegs 0 a k

/-- Injection starts (R117, R122, R127), where there is one. -/
def injStart (s : State) (a ang spd : Nat) (seed : Bool) : State :=
  if s.injOff a then s
  else
    let s1 := ((s.set OB.INJ_STAT.INJ_ACTIVE 1 a).set OB.INJ_STAT.INJ_CONV 0 a).set OB.injT s.now a
    let s2 := (((s1.set OB.injIn 0 a).set OB.injOut 0 a).set OB.injRampN (s1.get OB.INJ_CFG.INJ_RAMP a) a).set OB.slsAf 0 a
    let s3 := (s2.set OB.injPh 0 a).set OB.hN 0 a
    s3.on seed fun t => (t.set OB.injAng ang a).set OB.injSpd spd a

/-- The step measurement is prepared at a handover (R128). -/
def stepArm (s : State) (a : Nat) : State :=
  ((s.set SQ.stepBase (s.get SQ.tqAvg a) a).set SQ.stepCmd (s.get BL.tCmd a) a).set SQ.stepPend 2 a

end State

/-- TRAV_REQUEST (R125 to R127): TRAV_N valleys beyond a threshold, with no hold; CARRIER to TRAV_UP, TABLE to TRAV_DN. -/
def execTravRequest (axis : Fin 2) (s : State) : Out :=
  let a : Nat := axis
  let m := s.get SQ.STATUS.MODE a
  .next (if s.is SQ.TRAV_STAT.HOLD a || s.get SQ.travCnt a < s.get SQ.TRAV_CFG.TRAV_N a then s
    else if m = 2 then
      ((s.set SQ.travWait (s.get SQ.TRAV_CFG.TRAV_WAIT a) a).set SQ.travCnt 0 a).setMode a 3
    else if m = 4 then (s.set SQ.travCnt 0 a).setMode a 5 else s)

/-- TRAV_HANDOVER (R126, R127): at a valley. Up: the PU detaches, the injection stops, the legs stand, PSI_REF and T_REF
are preset and the hysteresis states start; each leg's last PU edge counts as a change (PU_COMPARE notes it). Down: the PU attaches with the
preloaded duties, and the injection ramps in seeded from the active-flux tracker. -/
def execTravHandover (axis : Fin 2) (s : State) : Out :=
  let a : Nat := axis
  let m := s.get SQ.STATUS.MODE a
  if s.is PU.CNT.CNT a then .next s
  else if m = 3 && s.travUnmet a = 0 then
    let s1 := ((s.detach a true).set OB.INJ_STAT.INJ_ACTIVE 0 a).set OB.INJ_STAT.INJ_CONV 0 a
    let s3 := (s1.set SQ.REF.PSI_REF (s1.get OB.PSI_VAL.PSI_MAG a) a).set SQ.REF.T_REF (s1.get BL.tCmd a) a
    let s4 := (((s3.set SQ.psiFrom (s3.get SQ.REF.PSI_REF a) a).set SQ.psiTgt (s3.get SQ.REF.PSI_REF a) a).set SQ.psiN
      (s3.get SQ.TRAV_TQ.RAMP a * 125) a).set SQ.psiOn 1 a
    .next (((((s4.tableEntry a).stepArm a).set SQ.TRAV_STAT.DIR_LAST 0 a).travHold a).setMode a 4 |>.slsUpdate a)
  else if m = 5 then
    let s1 := (s.detach a false).injStart a (s.get OB.afAng a) (s.get OB.afSpd a) true
    let s2 := ((s1.set OB.slsAf 1 a).set OB.POL_STAT.POL_DONE 1 a).set OB.polWait 0 a
    .next ((((s2.stepArm a).set SQ.TRAV_STAT.DIR_LAST 1 a).travHold a).setMode a 2 |>.slsUpdate a)
  else .next s

/-- TRAV_ABORT (R126): the conditions were not met within TRAV_WAIT periods; the event carries the unmet ones. Where all four hold there is
nothing to abort: the handover follows. -/
def execTravAbort (axis : Fin 2) (s : State) : Out :=
  let a : Nat := axis
  .next (if s.get SQ.STATUS.MODE a = 3 && !s.is SQ.travWait a && s.travUnmet a ≠ 0 then
      (((s.raiseArg .warning SQ.TRAV_STAT.TRAV_ABORT (s.travUnmet a) a).incSat SQ.TRAV_STAT.ABORT_CNT a).travHold a).setMode
        a 2
    else s)

/-- TRAV_HOLD_END (R125): once the hold's time has passed the count of TRAV_N starts afresh. -/
def execTravHoldEnd (axis : Fin 2) (s : State) : Out :=
  .next (s.on (s.is SQ.TRAV_STAT.HOLD axis && s.travHeld axis) fun t => (t.set SQ.TRAV_STAT.HOLD 0 axis).set SQ.travCnt 0 axis)

/-- TRAV_STEP (R128, R139): after one PWM period, the mean T_est after the handover minus the mean before it minus the
change of T_cmd; beyond TSTEP_LIM a warning event. -/
def execTravStep (axis : Fin 2) (s : State) : Out :=
  let a : Nat := axis
  if s.get SQ.stepPend a ≠ 1 then .next s
  else
    let p := s.pit (0x10 + a) 3 a
    let s0 := s.on p (·.pitAct)
    let lim := quotN (s0.get SQ.TRAV_TQ.TSTEP_LIM a * s0.tRated a * 32) (s0.tBase a)
    let d := s0.geti SQ.tqAvg a - s0.geti SQ.stepBase a - (s0.geti BL.tCmd a - s0.geti SQ.stepCmd a)
      + (if p then 2 * (lim : Int) else 0)
    let s1 := (s0.set SQ.stepPend 0 a).seti SQ.TRAV_STAT.STEP_MEAS (sat16 d) a
    .next (s1.on (decide (s1.get SQ.TRAV_TQ.TSTEP_LIM a * s1.tRated a * 32 < d.natAbs * s1.tBase a))
      (·.raise .warning SQ.TRAV_STAT.TRAV_STEP a))

end Sys2Proof.Machine
end

