-- ==== Sys2Proof/Machine/Est.lean ====
section
/-!
DEFINITION. OB's pass of a decision tick (04, The estimator): voltage and current model, torque, flux angle, sector,
residual, active-flux tracker and x–y currents. Fluxes are held with 23 fraction bits of ψ_base. Each stated product and
quotient is formed exactly and rounded once (log entry 7), angles and rotations likewise (log entry 39).
-/
namespace Sys2Proof.Machine
namespace State

/-- PSI_BASE of the axis, 10 µWb (R239). -/
def psiBase (s : State) (a : Nat) : Nat := s.secField (s.axisCh a) 0x044 31 16

/-- The channels of the pipeline of an axis. -/
def pipeCh (s : State) (a : Nat) : List Nat := if s.joined then List.range 6 else starCh a

/-- One fast sample reaches OB (R111): an invalid or saturated one is replaced by the one before; the second in a row
makes EST_VALID 0, whose fall is a trip source. -/
def obSample (s : State) (a ch : Nat) : State :=
  if s.is SEN.satF ch || !s.chUsed ch then
    let s1 := (s.incSat OB.invRun ch).on (s.is SEN.satF ch) (·.set OB.STATUS.SAT 1 a)
    s1.on (2 ≤ s1.get OB.invRun ch && s1.is OB.STATUS.EST_VALID a) fun t =>
      (t.set OB.STATUS.EST_VALID 0 a).tripIn a 11
  else (s.set OB.invRun 0 ch).set OB.iPrev (s.get SEN.CH_VAL.FAST ch) ch

/-- The samples of a pass; EST_VALID stands while no channel of the pipeline has two invalid samples in a row. -/
def obSamples (s : State) (a : Nat) : State :=
  let s1 := (s.pipeCh a).foldl (fun t ch => t.obSample a ch) s
  s1.on ((s1.pipeCh a).all fun ch => decide (s1.get OB.invRun ch < 2)) fun t => (t.set OB.STATUS.EST_VALID 1 a).tripIn a 11 false

/-- The currents of the pass. -/
def obCurrents (s : State) (a : Nat) : List Int := (s.pipeCh a).map fun ch => s.geti OB.iPrev ch

/-- i_α and i_β, amplitude-invariant (04, The estimator and Joined mode). -/
def obAlpha (s : State) (a : Nat) : Int := (clarke (s.obCurrents a)).1

/-- i_β. -/
def obBeta (s : State) (a : Nat) : Int := (clarke (s.obCurrents a)).2

/-- The hottest winding channel of the axis in a slow round (R90): MT0 and MT1 of axis A, MT2 and MT3 of axis B, all
four in joined mode; in 0.25 °C above −64 °C. -/
def hottest (s : State) (a : Nat) : Nat :=
  let l := if s.joined then [34, 35, 36, 37] else if a = 0 then [34, 35] else [36, 37]
  ((l.filter fun n => !s.is HK.TEMP.ABSENT n).map fun n => s.get HK.TEMP.VAL n).foldl max 0

/-- θ_w − 20 °C in 0.25 °C, 0 with the correction off, and with no sensor present, for which R90 names no temperature (DESIGN CHOICE, log
entry 37). -/
def tempRise (s : State) (a : Nat) : Int :=
  if s.is OB.CTL.RS_TCOMP a && s.hottest a != 0 then (s.hottest a : Int) - 336 else 0

/-- R_eff in µΩ × 400 000 (R90). -/
def rEff (s : State) (a : Nat) : Int := s.get OB.mach a 0 * (400000 + 393 * s.tempRise a)

/-- How many of the cycles 1 to `n` before an instant lie less than `r` from the cycle `c`. -/
def cyclesNear (n : Nat) (c r : Int) : Nat := (max 0 (min (n : Int) (c + r - 1) - max 1 (c - r + 1) + 1)).toNat

/-- The cycles of the latest tick in which the counter of a unit exceeded PER − CMP, that is the leg of that compare was high (R141, R142). -/
def highCycles (s : State) (pu cmp : Nat) : Nat :=
  let cnt : Int := s.get PU.CNT.CNT pu
  let per : Int := s.get PU.perAct pu
  if s.is PU.STATUS.DOWN pu then cyclesNear 160 (per - cnt) cmp else 160 - cyclesNear 160 cnt (per - cmp + 1)

/-- The commanded level of leg `k` of a pipeline, averaged over the tick that ends, in Q15 of V_base (R90, R116): in table mode the vector
times VDC_FAST, in carrier mode the PU's duty. A leg that has changed takes its new level after the edge delay of its command, and
after the dead time too where the phase current holds the old level through it. A leg with both switches off, as in a catch, is at the
level that its reconstruction shows (R133). How the correction is formed is not stated (DEDUCED, log entry 41). -/
def legCommand (s : State) (a k : Nat) : Int :=
  let v : Int := s.get SEN.VDC_VAL.FAST
  let pu := a + k / 3
  let out := decide (0 ≤ s.geti OB.iPrev (3 * a + k))
  let dt := s.deadTime pu (s.get (bandRow (k % 3)) pu)
  if !s.legDriven a k then s.geti SEN.pv (3 * a + k)
  else if s.is PU.STATUS.DETACHED a then
    let now := s.is GI.cmdOn (hiIsland a k)
    let e := if now == bit (s.get OB.legWas a) k then 0 else min 320 (64 + (if now == out then 2 * dt else 0))
    quot (v * ((if now then 320 - e else e : Nat) : Int)) 320
  else
    let h := s.highCycles a (s.formed pu (k % 3))
    let h' := if h = 0 || h = 160 then h
      else if out && !s.is PU.STATUS.DOWN a then h - dt
      else if !out && s.is PU.STATUS.DOWN a then min 160 (h + dt) else h
    quot (v * (h' : Int)) 160

/-- α and β of the commanded volt-second average of the tick that ends. -/
def vCommand (s : State) (a : Nat) : Int × Int := clarke ((List.range (s.legs a)).map fun k => s.legCommand a k)

/-- α and β of the reconstructed volt-second average (R56). -/
def vRecon (s : State) (a : Nat) : Int × Int := clarke ((s.pipeCh a).map fun ch => s.geti SEN.pv ch)

/-- A reconstruction has arrived for every leg of the pipeline: a new one, with no leg bit standing. -/
def reconOk (s : State) (a : Nat) : Bool :=
  s.is SEN.pvNew a && (!s.joined || s.is SEN.pvNew 1) && (s.pipeCh a).all fun ch => !s.getBit SEN.PVR_STAT.LEG_MIS ch

/-- 400 ns × (v − R_eff × i) in flux units (R90); v in Q15 of V_base (0.1 V), i in Q15 of I_base (0.1 A). -/
def fluxStep (s : State) (a : Nat) (v i : Int) : Int :=
  quot ((v * s.vBase a * 400000000000 - i * s.iBase a * s.rEff a) * 1024) (400000000000000 * s.psiBase a)

/-- L × i in flux units; L in nH. -/
def lFlux (s : State) (a : Nat) (l : Nat) (i : Int) : Int := quot (l * i * s.iBase a * 256) (100000 * s.psiBase a)

/-- The dq fluxes at dq currents (R91): from the flux maps where the entry names them, a Q15 value of ψ_base each, else
ψ_d = L_d × i_d + ψ_pm and ψ_q = L_q × i_q with the entry's values. FLUX_MAP alone chooses: with no q-map, where R91 names no ψ_q, the
look-up of handle 0 stands for it (DESIGN CHOICE, log entry 37). -/
def dqFlux (s : State) (a : Nat) (id iq : Int) : Int × Int :=
  let h := s.get OB.handle a 0
  if s.is OB.MAP_SEL.FLUX_MAP a then (s.tableMap (h % 256) id iq * 256, s.tableMap (h / 256 % 256) id iq * 256)
  else (s.lFlux a (s.get OB.mach a 1) id + quot (s.get OB.mach a 3 * 2 ^ 23) (10 * s.psiBase a), s.lFlux a (s.get OB.mach a 2) iq)

/-- ψ_cm (R91): the dq fluxes of the currents in the frame at the offered angle, turned back. -/
def obCurrentModel (s : State) (a : Nat) : State :=
  let th := s.get POS.offAng a
  let i := rotF (s.obAlpha a) (s.obBeta a) th
  let f := s.dqFlux a i.1 i.2
  let p := unrotF f.1 f.2 th
  (s.seti OB.psiC p.1 a 0).seti OB.psiC p.2 a 1

/-- The magnitude of a flux with 23 fraction bits, in those bits. -/
def magFull (x y : Int) : Nat := sqrtQ (x.natAbs * x.natAbs + y.natAbs * y.natAbs) 1

/-- The offered angle is the sensorless one (R91). -/
def angleFree (s : State) (a : Nat) : Bool := s.get POS.XCHK_CFG.PRI a == 2 || s.is POS.XCHK_STAT.PRI_SUBST a

/-- The blend term (R90, R91): 400 ns × ω_c × (ψ_cm − ψ_vm); with a sensorless angle only the magnitude of ψ_vm follows that of ψ_cm,
along the direction of ψ_vm, which a null vector does not have. STOPPING drops the blend (R109). -/
def blend (s : State) (a k : Nat) : Int :=
  if !s.is OB.CTL.BLEND_EN a || s.mode a == 6 then 0
  else
    let w : Int := 4 * s.wBase a * s.get OB.EST_CFG.WC a
    let v : Int := magFull (s.geti OB.psi a 0) (s.geti OB.psi a 1)
    let c : Int := magFull (s.geti OB.psiC a 0) (s.geti OB.psiC a 1)
    if s.angleFree a then
      (if v = 0 then toSigned 25 (Config.free (914 + k) [w, c]) else quot (w * (c - v) * s.geti OB.psi a k) (10000000 * 32768 * v))
    else quot (w * (s.geti OB.psiC a k - s.geti OB.psi a k)) (10000000 * 32768)

/-- Saturation to the 24-bit datapath. -/
def sat24 (x : Int) : Int := satI 24 x

/-- A component's new ψ_vm with the commanded value that it took, and SAT where it saturates. -/
def psiTake (s : State) (a k : Nat) (x v : Int) : State :=
  ((s.seti OB.psi (sat24 x) a k).seti OB.vOld v a k).on (x != sat24 x) (·.set OB.STATUS.SAT 1 a)

/-- ψ_vm (R90): the step by the commanded value, the blend, and the replacement of the tick before's commanded value by its
reconstruction `r`, where one has arrived. -/
def obVoltage (s : State) (a : Nat) (r : Option (Int × Int)) : State :=
  let v := s.vCommand a
  let fix (x : Int) (k : Nat) : Int := quot ((x - s.geti OB.vOld a k) * s.vBase a * 1024) (1000 * s.psiBase a)
  let f : Int × Int := match r with
    | some p => (fix p.1 0, fix p.2 1)
    | none => (0, 0)
  let x := s.geti OB.psi a 0 + s.fluxStep a v.1 (s.obAlpha a) + s.blend a 0 + f.1
  let y := s.geti OB.psi a 1 + s.fluxStep a v.2 (s.obBeta a) + s.blend a 1 + f.2
  ((s.psiTake a 0 x v.1).psiTake a 1 y v.2).set OB.legWas (s.presentVec a) a

/-- The drift compensation runs (R92): DRIFT_EN is set, no catch initialises the integrator, and the speed is not below SLS_MIN. Which
speed is compared is not stated: the offered one, whose angle gives the turn (DESIGN CHOICE, log entry 37). -/
def driftRuns (s : State) (a : Nat) : Bool :=
  s.is OB.CTL.DRIFT_EN a && s.mode a != 1 && decide (s.get OB.SLS_CFG.SLS_MIN a ≤ (s.geti POS.offSpd a).natAbs)

/-- The sums of the drift compensation begin anew. -/
def driftClear (s : State) (a on : Nat) : State :=
  (((s.set OB.dSum 0 a 0).set OB.dSum 0 a 1).set OB.dN 0 a).set OB.driftOn on a

/-- ψ_vm of a tick joins the sums. -/
def driftAdd (s : State) (a : Nat) (x y : Int) : State :=
  ((s.seti OB.dSum (s.geti OB.dSum a 0 + x) a 0).seti OB.dSum (s.geti OB.dSum a 1 + y) a 1).inc OB.dN a

/-- DRIFT_K times the mean of ψ_vm over the turn that ends is subtracted from one component. -/
def driftTake (s : State) (a k : Nat) : State :=
  let d := quot (quotF 92 (s.geti OB.dSum a k) (s.get OB.dN a) * s.get OB.DRIFT.DRIFT_K a) 32768
  (s.seti OB.drift d a k).seti OB.psi (sat24 (s.geti OB.psi a k - d)) a k

/-- The drift compensation (R92): the mean of ψ_vm over each complete electrical turn of the offered angle; at the wrap that completes it
DRIFT_K of it is subtracted, and the tick of the wrap is the first of the next turn. A pause drops the turn that it cuts, and holds the last
correction. -/
def obDrift (s : State) (a : Nat) : State :=
  let ang := s.get POS.offAng a
  let wrap := decide (0x8000 < ((ang : Int) - s.get OB.angLast a).natAbs)
  let s1 := s.set OB.angLast ang a
  if !s.driftRuns a then s1.driftClear a 0
  else
    (s1.on wrap fun t => (t.on (t.is OB.driftOn a) fun u => (u.driftTake a 0).driftTake a 1).driftClear a 1).driftAdd a
      (s.geti OB.psi a 0) (s.geti OB.psi a 1)

/-- A magnitude in Q15 of a vector with 23 fraction bits. -/
def mag (x y : Int) : Nat := min (sqrtQ (x.natAbs * x.natAbs + y.natAbs * y.natAbs) 65536) 0x7FFF

/-- Torque, flux, sector and residual (R93), with the RES piton (R113). -/
def obOutputs (s : State) (a : Nat) : State :=
  let x := s.geti OB.psi a 0
  let y := s.geti OB.psi a 1
  let c : Int := if s.joined then 6 else 3
  let tq := quot (c * s.poles a * (x * s.obBeta a - y * s.obAlpha a) * s.psiBase a * s.iBase a) (200000 * 8388608 * s.tBase a)
  let th := angleOf x y
  let sec := if s.joined then 12 * th / 65536 else (6 * th + 32768) / 65536 % 6
  let s1 := s.on (s.pit (0x13 + a) 1 a) fun t => t.pitAct.set OB.resPit 8 a
  let add := if s1.is OB.resPit a then 2 * s1.get OB.RES_CFG.RES_TH a else 0
  let res := min (mag (x - s1.geti OB.psiC a 0) (y - s1.geti OB.psiC a 1) + add) 0xFFFF
  let s2 := (s1.on (s1.is OB.resPit a) fun t => t.set OB.resPit (t.get OB.resPit a - 1) a).on (tq != sat16 tq)
    (·.set OB.STATUS.SAT 1 a)
  let s3 := ((s2.seti OB.TQ_VAL.T_EST (sat16 tq) a).set OB.TQ_VAL.RES res a).setb OB.STATUS.RES_HIGH
    (s2.get OB.RES_CFG.RES_TH a < res) a
  ((s3.set OB.PSI_VAL.PSI_MAG (mag x y) a).set OB.PSI_VAL.PSI_ANG th a).set SQ.STATUS.SECTOR sec a

/-- The active flux ψ_a = ψ − L_q × i (R94). -/
def activeFlux (s : State) (a : Nat) : Int × Int :=
  let lq := s.get OB.mach a 2
  (s.geti OB.psi a 0 - s.lFlux a lq (s.obAlpha a), s.geti OB.psi a 1 - s.lFlux a lq (s.obBeta a))

/-- The active-flux tracker (R94): the loop error is the angle from the tracker to ψ_a; it counts below CONV_TOL, and above it. -/
def obTracker (s : State) (a : Nat) : State :=
  let f := s.activeFlux a
  let err := wrap16 ((angleOf f.1 f.2 : Int) - s.get OB.afAng a)
  let n := s.loopStep a (s.get OB.SLS_PLL.KP a) (s.get OB.SLS_PLL.KI a) (s.get OB.afAng a) (s.geti OB.afSpd a) err 160
  let s1 := (s.seti OB.afAng n.1 a).seti OB.afSpd n.2 a
  let tol := s.get OB.SLS_CFG.CONV_TOL a * 64
  let s2 := if err.natAbs < tol then s1.incSat OB.afOk a else s1.set OB.afOk 0 a
  if tol < err.natAbs then s2.incSat OB.afBad a else s2.set OB.afBad 0 a

/-- The x–y currents of joined mode, in OB1 (04, Joined mode); 0 otherwise. -/
def obXy (s : State) : State :=
  let i := if s.joined then vsdXy (s.obCurrents 0) else (0, 0)
  (s.seti OB.XY_VAL.I_X i.1 1).seti OB.XY_VAL.I_Y i.2 1

/-- RS_EFF (R90), Q15 of V_base / I_base. -/
def obRs (s : State) (a : Nat) : State :=
  s.set OB.RS_VAL.RS_EFF (min (quot (s.rEff a * s.iBase a * 32768) (400000000000 * s.vBase a)).toNat 0xFFFF) a

/-- The fast sample of a polarity test (R122). -/
def polTick (s : State) (a : Nat) : State :=
  if s.is OB.polRun a then s.polSample a (rotF (s.obAlpha a) (s.obBeta a) (s.get OB.injAng a)).1 else s

/-- A pass of OB for the axis of a pipeline (R87): the datapath's results first, with the x–y currents, then the program: drift
compensation and tracking loop, which act from the next tick on. -/
def obPass (s : State) (a : Nat) : State :=
  let s1 := (((s.obSamples a).obRs a).obCurrentModel a).polTick a
  let ok := s1.reconOk a
  let s2 := s1.on (!ok) (·.incSat OB.STATUS.VCORR_MISS a)
  let s3 := s2.obVoltage a (if ok then some (s2.vRecon a) else none)
  let s4 := ((s3.set SEN.pvNew 0 a).on s3.joined (·.set SEN.pvNew 0 1)).obOutputs a
  let s5 := (((s4.on (a == 0) (·.obXy)).obDrift a).obTracker a)
  let s6 := s5.on (s5.pit (0x13 + a) 2 a) fun t => t.pitAct.set OB.slsPit (t.get POS.XCHK_CFG.ANG_N a) a
  (s6.slsUpdate a).on (s6.is OB.slsPit a) fun t => t.set OB.slsPit (t.get OB.slsPit a - 1) a

end State
end Sys2Proof.Machine
end

