-- ==== Sys2Proof/Machine/Catch.lean ====
section
/-!
DEFINITION. Catching a turning rotor (05): what OB reads of the rotor at each tick of a catch, and the catch's events.
-/
namespace Sys2Proof.Machine
namespace State

/-- A tick of the minimum dwell passes (R101); a leg whose dwell ends does what it waited for. -/
def dwellTick (s : State) (a : Nat) : State :=
  s.forN (s.legs a) fun k t =>
    let u := t.set SQ.dwell (t.get SQ.dwell a k - 1) a k
    u.on (u.is SQ.waitLegs a k && !u.is SQ.dwell a k) fun v => v.restLeg a k (v.get SQ.waitLegs a k == 2)

/-- The class of a back-EMF magnitude (R130): 1 STILL, 2 BEMF, 3 PULSE. -/
def catchClass (s : State) (a e : Nat) : Nat :=
  if e < s.get SQ.CATCH_LIM.CATCH_VMIN a then 1
  else if e * 32768 < s.get SQ.CATCH_CFG.CATCH_K a * s.get SEN.VDC_VAL.FAST then 2 else 3

/-- The rotor is classified by a magnitude (R130); from 0.98 × VDC_FAST on it counts as at or above V_dc. -/
def catchMethod (s : State) (a e : Nat) : State :=
  ((s.set OB.ellAvg e a).set SQ.CATCH_STAT.METHOD (s.catchClass a e) a).on (decide (98 * s.get SEN.VDC_VAL.FAST ≤ 100 * e))
    (·.set OB.catchHi 1 a)

/-- E_ll accumulates until the classification, in joined mode that of both stars (R130). -/
def ellTake (s : State) (a : Nat) : State :=
  if s.is SQ.CATCH_STAT.METHOD a || s.is SQ.CATCH_STAT.RESULT a || decide (16 ≤ s.get OB.ellN a) then s
  else (if s.joined then [0, 1] else [a]).foldl
    (fun t k => (t.set OB.ellSum (t.get OB.ellSum k + t.get SEN.ell k) k).incSat OB.ellN k) s

/-- A magnitude that rises to CATCH_VMIN late in STILL_WIN moves the class at that tick (R130). -/
def stillWatch (s : State) (a : Nat) : State :=
  if s.get SQ.CATCH_STAT.METHOD a = 1 && !s.is SQ.CATCH_STAT.RESULT a
      && decide (s.now ≤ s.get OB.catchT a + s.get SQ.CATCH_LIM.STILL_WIN a * 40000) && s.catchClass a (s.get SEN.ell a) != 1
  then s.catchMethod a (s.get SEN.ell a) else s

/-- Two speeds agree within CATCH_TOL / 1024 of the second (R131, R132). -/
def speedsAgree (s : State) (a : Nat) (v w : Int) : Bool := decide ((v - w).natAbs * 1024 ≤ s.get SQ.CATCH_LIM.CATCH_TOL a * w.natAbs)

/-- A measured speed comes in front of those before it. -/
def catchPush (s : State) (a : Nat) (w : Int) : State :=
  let s1 := s.on (s.is OB.cN a && s.speedsAgree a (s.geti OB.cW a 0) w) fun t => (t.set OB.agreeOn 1 a).seti OB.agreeW w a
  let s2 := s1.forN 14 fun k t => t.set OB.cW (s1.get OB.cW a (13 - k)) a (14 - k)
  (s2.seti OB.cW w a 0).incSat OB.cN a

/-- A back-EMF angle and the instant that it belongs to. -/
def catchAngle (s : State) (a ang t : Nat) : State := ((s.set OB.cAng ang a).set OB.cT t a).set OB.cOn 1 a

/-- BEMF (R131): at the end of each 16-tick window the back-EMF angle, and from the second on the speed of its progression. The angle is that
of the average over the tick that the reconstruction describes, whose middle lies 600 ns back (DEDUCED, log entry 41). -/
def bemfTick (s : State) (a : Nat) : State :=
  let s1 := s.inc OB.cTick a
  if s1.is OB.cTick a then s1
  else
    let v := s1.vRecon a
    let th := angleOf v.1 v.2
    let w := clampI (-0x7FFF) 0x7FFF (s1.rateOf a (wrap16 ((th : Int) - s1.get OB.cAng a)) 65536 2560)
    (s1.on (s1.is OB.cOn a) (·.catchPush a w)).catchAngle a th (s1.now - 240)

/-- |ω| of a catch pulse (R132): |Δi| × L_q / (ψ_pm × 2 µs), Δi being 1/320 of the components. -/
def pulseSpeed (s : State) (a : Nat) (x y : Int) : Int :=
  let d := sqrtQ (x.natAbs * x.natAbs + y.natAbs * y.natAbs) 1
  clampI 0 0x7FFF (quotF 132 (d * s.iBase a * s.get OB.mach a 2 * 5) (32 * s.get OB.mach a 3 * s.wBase a))

/-- A pulse has been read (R132): the back-EMF lies along −Δi; the progression from the pulse before gives the direction, which the second pulse
gives the first one too. The angle belongs to the middle of the pulse. -/
def pulseRead (s : State) (a : Nat) (x y : Int) (mid : Nat) : State :=
  let th := angleOf (-x) (-y)
  let w := s.pulseSpeed a x y
  let back := s.is OB.cOn a && decide (wrap16 ((th : Int) - s.get OB.cAng a) < 0)
  let s1 := s.on (s.get OB.cN a == 1 && back) fun t => t.seti OB.cW (-(t.geti OB.cW a 0)) a 0
  (s1.catchPush a (if back then -w else w)).catchAngle a th mid

/-- The ticks for which a catch pulse stands (R132): five, or the minimum dwell of R101 where that is longer (DESIGN CHOICE, log entry 37). -/
def pulseTicks (s : State) (a : Nat) : Nat := max 5 (s.get SQ.MINP.MIN_TICKS a)

/-- The instant of a pulse's edge in 1.25 ns after its boundary at device time `t` (R132): the mean over the low-side islands of what each has
stamped since, half way from the start to the end of its edge; 510 ns where none has stamped. Which islands and which of their stamps are
taken is not stated (DEDUCED, log entry 41). -/
def pulseEdge (s : State) (a t : Nat) (on : Bool) : Nat :=
  let new (i k : Nat) : Bool := s.is GI.edgeDir i k == on && decide (2 * t ≤ s.get GI.edgeAt i k)
  let es := ((s.islands a).filter fun i => i % 2 == 1 && new i 0).map fun i =>
    (if new i 1 then quotN (s.get GI.edgeAt i 0 + s.get GI.edgeAt i 1) 2 else s.get GI.edgeAt i 0) - 2 * t
  if es.isEmpty then 408 else quotN es.sum es.length

/-- 320 times the current at an instant, from three samples whose middles lie 160, 480 and 800 × 1.25 ns after the boundary: two, three and four
ticks after it, less the 600 ns of R42. -/
def pulseAt (e : Nat) (x y z : Int) : Int := if e ≤ 480 then x * (480 - e) + y * (e - 160) else y * (800 - e) + z * (e - 480)

/-- The currents at a pulse's two edges, between the fast samples around them (R132). -/
def pulseTick (s : State) (a : Nat) : State :=
  let j := s.get OB.pTick a
  let b := if j ≤ 4 then 0 else s.pulseTicks a
  let t := s.set OB.pTick (j + 1) a
  let x := s.obAlpha a
  let y := s.obBeta a
  let p (k : Nat) : Int := s.geti OB.pI a k
  if j = 0 then s
  else if j = b + 2 || j = b + 3 then (((t.seti OB.pI (p 2) a 0).seti OB.pI (p 3) a 1).seti OB.pI x a 2).seti OB.pI y a 3
  else if j = b + 4 then
    let e := max 160 (min 800 (s.pulseEdge a (s.get OB.pT a + 160 * b) (b == 0)))
    let x' := pulseAt e (p 0) (p 2) x
    let y' := pulseAt e (p 1) (p 3) y
    if b = 0 then ((t.set OB.pE e a).seti OB.pI x' a 4).seti OB.pI y' a 5
    else (s.set OB.pTick 0 a).pulseRead a (x' - p 4) (y' - p 5) (s.get OB.pT a + quotN (s.get OB.pE a + 320 * b + e) 4)
  else t

/-- A pulse ends with every switch off, after five ticks (R132), or once the minimum dwell of its legs has passed (R101). -/
def pulseEnd (s : State) (a : Nat) : State :=
  if !s.is SQ.pulseLeft a then s
  else
    let s1 := s.set SQ.pulseLeft (s.get SQ.pulseLeft a - 1) a
    s1.on (!s1.is SQ.pulseLeft a) (·.restLegs a false)

/-- The catch in a tick (R130 to R132). -/
def catchPass (s : State) (a : Nat) : State :=
  let s1 := (((s.dwellTick a).incSat SQ.pulseAge a).ellTake a).stillWatch a
  ((s1.on (s1.get SQ.CATCH_STAT.METHOD a == 2 && !s1.is SQ.CATCH_STAT.RESULT a) (·.bemfTick a)).pulseTick a).pulseEnd a

/-- The latest CATCH_N speeds agree with the newest one within CATCH_TOL (R131, R132). -/
def catchAgree (s : State) (a : Nat) : Bool :=
  let n := s.get SQ.CATCH_CFG.CATCH_N a
  decide (n ≤ s.get OB.cN a) && (List.range n).all fun k => s.speedsAgree a (s.geti OB.cW a k) (s.geti OB.cW a 0)

/-- The flux angle θ_ψ = θ_e − sign(ω) × 90° (R131), brought from the latest reading to the instant `t`. -/
def catchFlux (s : State) (a : Nat) (t : Int) : Nat :=
  let w := s.geti OB.cW a 0
  ofSigned 16 (s.get OB.cAng a - (if w < 0 then -0x4000 else if w = 0 then 0 else 0x4000) + s.travelled a w (t - s.get OB.cT a))

/-- CARRIER mode begins (R114, R133): the PU attaches. -/
def carrierStart (s : State) (a : Nat) : State := (s.detach a false).setMode a 2

/-- A rotor at standstill (R130, R122): CARRIER with injection and the polarity test to come, where there is injection (R120). -/
def catchStill (s : State) (a : Nat) : State :=
  let s1 := ((s.set SQ.CATCH_STAT.RESULT 1 a).setb OB.polWait (!s.injOff a) a).set OB.POL_STAT.POL_DONE 0 a
  let s2 := ((s1.set OB.polRep 0 a).set OB.POL_STAT.POL_FLIP 0 a).injStart a 0 0 false
  (s2.carrierStart a).slsUpdate a

/-- A reading stands (R133): ψ_vm is that of zero current at the flux angle of the next boundary, the drift state is cleared, the active-flux
tracker is seeded, POS is aligned; the mode follows once SLS_VALID stands. In joined mode it is the track of POS1 that is aligned: whether INC2
takes source 3 of R73 too is not stated (DESIGN CHOICE, log entry 37). -/
def catchConverge (s : State) (a : Nat) : State :=
  let w := s.geti OB.cW a 0
  let next := s.catchFlux a ((s.now / 160 + 1) * 160)
  let f := s.dqFlux a 0 0
  let p := unrotF f.1 f.2 next
  let s1 := ((s.set SQ.CATCH_STAT.RESULT 1 a).setb SQ.CATCH_STAT.DIR (decide (w < 0)) a).set OB.CATCH_VAL.CATCH_ANG (s.catchFlux a s.now) a
  let s2 := ((s1.seti OB.CATCH_VAL.CATCH_SPD w a).seti OB.psi (sat24 p.1) a 0).seti OB.psi (sat24 p.2) a 1
  let s3 := (((s2.set OB.drift 0 a 0).set OB.drift 0 a 1).driftClear a 0).set OB.afAng next a
  let s4 := (s3.seti OB.afSpd w a).align a 3 (s3.get POS.INC_POS.POS a) (s.catchFlux a s.now)
  ((s4.set OB.POL_STAT.POL_DONE 1 a).set OB.polWait 0 a).set SQ.catchGo 1 a

/-- The time that a catch may take has passed (R134), counted from the start command: of BEMF below V_dc three electrical periods or 2 ms, else
5 ms. No deadline is stated for STILL, which only the piton of R139 keeps from its result, nor for a catch without a class: 5 ms (DESIGN
CHOICE, log entry 41). -/
def catchLate (s : State) (a : Nat) : Bool :=
  let t := s.now - s.get OB.catchT a
  if s.get SQ.CATCH_STAT.METHOD a = 2 && !s.is OB.catchHi a then
    decide (800000 ≤ t) || (s.is OB.cN a && decide (3 * 65536 ≤ (s.travelled a (s.geti OB.cW a 0) t).natAbs))
  else decide (2000000 ≤ t) && (s.get SQ.CATCH_STAT.METHOD a != 1 || s.is OB.catchPit a)

/-- E_ll is at or above V_dc (R130, R134): by the last agreeing pulses, otherwise by the classification. -/
def catchAbove (s : State) (a : Nat) : Bool :=
  if s.is OB.agreeOn a then !s.emfUnder a (s.geti OB.agreeW a) (98 * s.get SEN.VDC_VAL.FAST) else s.is OB.catchHi a

end State

/-- CATCH_CLASSIFY (R130): after 16 ticks, by their mean E_ll. In joined mode the class of star 1 stands if star 2 has the same one; what
follows where it has not is not stated, and the 16 ticks are taken again (DESIGN CHOICE, log entry 41). -/
def execCatchClassify (axis : Fin 2) (s : State) : Out :=
  let a : Nat := axis
  if s.get SQ.STATUS.MODE a ≠ 1 || s.get OB.ellN a < 16 || s.is SQ.CATCH_STAT.RESULT a || s.is SQ.CATCH_STAT.METHOD a then .next s
  else
    let e (k : Nat) : Nat := quotN (s.get OB.ellSum k) 16
    let s1 := s.forN 2 fun k t => if s.joined || k = a then (t.set OB.ellSum 0 k).set OB.ellN 0 k else t
    .next (if s.joined && s.catchClass a (e 0) != s.catchClass a (e 1) then s1 else s1.catchMethod a (e a))

/-- CATCH_PULSE (R132): the all-low-side zero vector from this boundary for five ticks, CATCH_PER ticks after the pulse before, and with no
leg in its minimum dwell (R101); from all switches off no dead time applies. -/
def execCatchPulse (axis : Fin 2) (s : State) : Out :=
  let a : Nat := axis
  .next (if s.get SQ.STATUS.MODE a ≠ 1 || s.get SQ.CATCH_STAT.METHOD a ≠ 3 || s.is SQ.CATCH_STAT.RESULT a || s.is SQ.pulseLeft a || s.cmdBarred a
      || s.get SQ.pulseAge a < s.get SQ.CATCH_CFG.CATCH_PER a || (List.range (s.legs a)).any (fun k => s.is SQ.dwell a k) then s
    else
      let s1 := (((s.legsLow a).forN (s.legs a) fun k t => t.set SQ.dwell (t.get SQ.MINP.MIN_TICKS a) a k).set OB.pT s.now a).set OB.pTick 1 a
      ((s1.set SQ.pulseLeft 5 a).set SQ.pulseAge 0 a).incSat SQ.CATCH_STAT.PULSES a)

/-- CATCH_RESULT (R130 to R133, R139): a rotor at standstill throughout STILL_WIN starts CARRIER with injection and polarity test; readings that
agree initialise the estimator and the trackers. The piton discards every result of the catch. -/
def execCatchResult (axis : Fin 2) (s : State) : Out :=
  let a : Nat := axis
  if s.get SQ.STATUS.MODE a ≠ 1 || s.is SQ.CATCH_STAT.RESULT a || !s.is SQ.CATCH_STAT.METHOD a then .next s
  else
    let s0 := s.on (s.pit (0x13 + a) 5 a) fun t => t.pitAct.set OB.catchPit 1 a
    let t := s0.now - s0.get OB.catchT a
    let s1 := s0.set SQ.CATCH_STAT.T_CONV (min (t / 400) 65535) a
    .next (if s0.is OB.catchPit a then s0
      else if s0.get SQ.CATCH_STAT.METHOD a = 1 then
        (if s0.ofsRuns a || decide (t < s0.get SQ.CATCH_LIM.STILL_WIN a * 40000) then s0 else s1.catchStill a)
      else if s0.catchAgree a then s1.catchConverge a else s0)

/-- CATCH_DEADLINE (R134): RESULT failed, a fault event with the class and the last E_ll, for which the magnitude that the rotor was classified
by stands (R134 does not say which reading it is; DESIGN CHOICE, log entry 37), and OPEN, or SHORT-LO with E_ll
at or above V_dc; the axis waits for ENABLE. -/
def execCatchDeadline (axis : Fin 2) (s : State) : Out :=
  let a : Nat := axis
  if s.get SQ.STATUS.MODE a ≠ 1 || s.is SQ.CATCH_STAT.RESULT a || !s.catchLate a then .next s
  else
    let s1 := (s.set SQ.CATCH_STAT.RESULT 2 a).event .fault a (0x10 + a) 0x0001 (SQ.CATCH_STAT.RESULT.addr a 0)
      (s.get SQ.CATCH_STAT.METHOD a * 65536 + s.get OB.ellAvg a)
    let s2 := if s.catchAbove a then (s1.restLegs a true).set SQ.CATCH_STAT.OUTCOME 2 a
      else (s1.restLegs a false).set SQ.CATCH_STAT.OUTCOME 1 a
    .next (((s2.set SQ.pulseLeft 0 a).axisOut a).setMode a 0)

end Sys2Proof.Machine
end

