-- ==== Sys2Proof/Machine/SqPass.lean ====
section
/-!
DEFINITION. SQ's pass of a decision tick (04, 05): what takes effect at the boundary, the hysteresis states, the table, the
zero-vector and x–y choices, the minimum dwell, the catch pulse and the entry into a mode after a catch.
-/
namespace Sys2Proof.Machine
namespace State

/-- The references at a boundary (R106): the shadows become active; a late write waits for the next boundary. In STOPPING
and CATCH the references from CE are ignored (R109, R168). PSI_REF stays within PSI_MIN and PSI_MAX (R111). -/
def refCommit (s : State) (a : Nat) : State :=
  let s1 := s.incSat SQ.refAge a
  let s2 := if s1.is SQ.refPend a && s1.mode a != 6 && s1.mode a != 1 then
      let p := max (s1.get SQ.REF_LIM.PSI_MIN a) (min (s1.get SQ.psiRefSh a) (s1.get SQ.REF_LIM.PSI_MAX a))
      let t := (s1.set SQ.REF.T_REF (s1.get SQ.tRefSh a) a).set SQ.psiTgt p a
      t.on (!t.is SQ.psiOn a) (·.set SQ.REF.PSI_REF p a)
    else s1
  (s2.set SQ.refPend (s2.get SQ.refLate a) a).set SQ.refLate 0 a

/-- The PSI_REF ramp after a traverse up (R126): linear from its value at the handover to the committed value of the reference law over
RAMP × 50 µs, at once with RAMP 0. Not in STOPPING, where PSI_REF is held (R109). -/
def psiRamp (s : State) (a : Nat) : State :=
  if !s.is SQ.psiOn a then s
  else if s.mode a == 6 then s.set SQ.psiOn 0 a
  else
    let left := s.get SQ.psiN a - 1
    let n : Int := s.get SQ.TRAV_TQ.RAMP a * 125
    let f : Int := s.get SQ.psiFrom a
    let p : Int := s.get SQ.psiTgt a
    ((s.set SQ.psiN left a).setb SQ.psiOn (left != 0) a).set SQ.REF.PSI_REF
      (if left = 0 then p.toNat else (f + quot ((p - f) * (n - left)) n).toNat) a

/-- T_REF in STOPPING (R109): linear from its value at detection to 0 over RAMP_US. -/
def stopRamp (s : State) (a : Nat) : State :=
  if s.mode a == 6 && !s.is SQ.OBS_STAT.STOP a then
    let r : Int := 5 * s.get SQ.OBS_CFG.RAMP_US a
    let t := s.incSat SQ.rampN a
    let n : Int := min (2 * t.get SQ.rampN a : Int) r
    t.seti SQ.REF.T_REF (quot (t.geti SQ.rampT0 a * (r - n)) r) a
  else s

/-- The table banks swap at the boundary (R100), if the inactive bank, which TBL_WIN may have written since SWAP, still passes its check;
else the swap is refused with TBL_REJECT. -/
def tblBoundary (s : State) (a : Nat) : State :=
  if !s.is SQ.TBL_CTL.SWAP a then s
  else
    let b := 1 - s.get SQ.TBL_CTL.ACT_BANK a
    (if s.bankOk a b then s.set SQ.TBL_CTL.ACT_BANK b a else s.set SQ.FLAGS.TBL_REJECT 1 a).set SQ.TBL_CTL.SWAP 0 a

/-- A latched trip sets MODE SAFE at the boundary (R89, R153, R129): the PU detached, the injection off. -/
def safeBoundary (s : State) (a : Nat) : State :=
  if s.is PU.TRIP_STAT.TRIPPED a && s.get SQ.STATUS.MODE a != 7 then
    let s1 := (((s.detach a true).injStop a).setMode a 7).slsUpdate a
    s1.forN 6 fun k t => t.set SQ.waitLegs 0 a k
  else s

/-- The torque state of the tick (R95): 0 for −1, 1 for 0, 2 for +1. -/
def tauNext (s : State) (a : Nat) (e : Int) : Nat :=
  let hb : Int := s.get SQ.HB_TQ.HB_T0 a * s.get SQ.BAND_VAL.S a
  match s.get SQ.STATUS.TQ_STATE a with
  | 2 => if e < 0 then 1 else 2
  | 0 => if 0 < e then 1 else 0
  | _ => if hb < e * 256 then 2 else if e * 256 < -hb then 0 else 1

/-- The flux state of the tick (R96). -/
def phiNext (s : State) (a : Nat) (e : Int) : Bool :=
  let hb : Int := s.get SQ.HB_FLX.HB_F0 a * s.get SQ.BAND_VAL.S a
  if hb < e * 256 then true else if e * 256 < -hb then false else s.is SQ.STATUS.FLX_STATE a

/-- The zero vector of R99 from the present vector. Under 0b11 the code chosen at the entry into the zero state stays the choice while the
state lasts, also where the dwell holds a leg. -/
def zeroVec (s : State) (a cur : Nat) : Nat :=
  let hi := if s.joined then 63 else 7
  match s.get SQ.CTL.ZERO_PREF a with
  | 1 => 0
  | 2 => hi
  | 3 => if s.is SQ.zTog a != s.is SQ.inZero a then hi else 0
  | _ =>
    if s.zeroCodes.contains cur then cur
    else
      let best := (s.zeroCodes.map (legDiff cur)).foldl min 6
      match s.zeroCodes.filter fun z => legDiff cur z == best with
      | [z] => z
      | _ => 0

/-- The x–y voltage of a vector code in joined mode, times a positive scale (04, Joined mode): its direction is that of R107. -/
def xyDir (vec : Nat) : Int × Int :=
  let b (k : Nat) : Int := ofBool (bit vec k)
  vsdF (-1) (b 0) (b 1) (b 2) (b 3) (b 4) (b 5)

/-- Whether ALT is applied for an entry with XY_EN (R107): the projection of the x–y current on the x–y direction of VEC against
±HB_XY, compared without a root: the projection is p / |d|. -/
def xyAlt (s : State) (a idx vec : Nat) : Bool :=
  let d := xyDir vec
  let p := s.geti OB.XY_VAL.I_X 1 * d.1 + s.geti OB.XY_VAL.I_Y 1 * d.2
  let hb : Int := s.get SQ.HB_FLX.HB_XY a
  let out := decide (hb * hb * (d.1 * d.1 + d.2 * d.2) < p * p)
  if out && decide (0 < p) then true else if out && decide (p < 0) then false else s.is SQ.xyKeep a idx

/-- The legs' commands of a tick (R88, R101, R113): each leg that the choice changes and the dwell allows. -/
def applyVec (s : State) (a want : Nat) : State :=
  let cur := s.presentVec a
  let pitOn := s.pit (0x10 + a) 2 a && s.get SQ.dwell a 0 == s.get SQ.MINP.MIN_TICKS a && s.is SQ.dwell a 0
  let s0 := s.on pitOn (·.pitAct)
  let want' := if pitOn then want - want % 2 + (1 - cur % 2) else want
  let s1 := s0.dwellTick a
  let s2 := s1.forN (s1.legs a) fun k t =>
    if bit want' k == bit cur k && t.legDriven a k then t
    else if t.is SQ.dwell a k then ((t.set SQ.FLAGS.MINP 1 a).incSat SQ.MINP.MINP_CNT a).perfAdd (0x10 + a) 0 0x19 1
    else
      let u := (t.legTo (a + k / 3) (k % 3) (bit want' k)).set SQ.dwell (t.get SQ.MINP.MIN_TICKS a) a k
      (u.on (u.mode a == 4) (·.incSat SQ.comm a)).perfAdd (0x10 + a) 0 0x18 1
  s2.set SQ.STATUS.VEC_OUT (s2.presentVec a) a

/-- The table vector is frozen in TRAV_DN from MIN_TICKS ticks before the next valley (R127). -/
def frozen (s : State) (a : Nat) : Bool :=
  s.mode a == 5 && s.is PU.STATUS.DOWN a && decide (s.get PU.CNT.CNT a ≤ s.get SQ.MINP.MIN_TICKS a * 160)

/-- One table decision (R95 to R99, R101, R103, R107). HB_T and HB_F follow S from the boundary after an update. -/
def tablePass (s : State) (a : Nat) : State :=
  let eT := s.geti SQ.REF.T_REF a - s.geti OB.TQ_VAL.T_EST a
  let eF : Int := (s.get SQ.REF.PSI_REF a : Int) - s.get OB.PSI_VAL.PSI_MAG a
  let tau := s.tauNext a eT
  let phi := s.phiNext a eF
  let idx := 6 * s.get SQ.STATUS.SECTOR a + 2 * tau + ofBool phi
  let e := s.entry a (s.get SQ.TBL_CTL.ACT_BANK a) idx
  let s1 := (s.set SQ.STATUS.TQ_STATE tau a).setb SQ.STATUS.FLX_STATE phi a
  let s2 := if s1.mode a == 4 then
      (s1.incSat SQ.winTick a).on (4 * (s1.get SQ.HB_TQ.HB_T0 a * s1.get SQ.BAND_VAL.S a) < eT.natAbs * 256) (·.incSat SQ.bigErr a)
    else s1
  let s3 := s2.set SQ.resRun (if s2.mode a == 4 && s2.is OB.STATUS.RES_HIGH a then min (s2.get SQ.resRun a + 1) 8 else 0) a
  if s3.frozen a then s3
  else if bit e 15 then
    let z := s3.zeroVec a (s3.presentVec a)
    let s4 := s3.on (s3.get SQ.CTL.ZERO_PREF a == 3 && !s3.is SQ.inZero a) fun t => t.set SQ.zTog (1 - t.get SQ.zTog a) a
    (s4.applyVec a z).set SQ.inZero 1 a
  else
    let alt := s3.joined && bit e 14 && s3.xyAlt a idx (e % 64)
    let s4 := (s3.on (s3.joined && bit e 14) (·.setb SQ.xyKeep alt a idx)).setb SQ.STATUS.XY_SEL alt a
    let v := if alt then e / 256 % 64 else e % 64
    (s4.applyVec a v).set SQ.inZero 0 a

/-- |i_xy| against XY_LIM, with the XY piton (R107, R113). There is an x–y current in joined mode only, on axis A's SQ: a piton armed
elsewhere stays armed (DESIGN CHOICE, log entry 37). Outside joined mode the run of ticks is broken. -/
def xyPass (s : State) : State :=
  if !s.joined then s.set SQ.xyRun 0 0
  else
    let s1 := s.on (s.pit 0x10 1 0) fun t => t.pitAct.set SQ.xyPit (t.get SQ.XY_CFG.XY_N 0) 0
    let x := (s1.geti OB.XY_VAL.I_X 1).natAbs
    let y := (s1.geti OB.XY_VAL.I_Y 1).natAbs
    let lim := s1.get SQ.XY_CFG.XY_LIM 0
    let add := if s1.is SQ.xyPit 0 then 2 * lim else 0
    let s2 := s1.on (s1.is SQ.xyPit 0) fun t => t.set SQ.xyPit (t.get SQ.xyPit 0 - 1) 0
    if decide (lim < add) || decide ((lim - add) * (lim - add) < x * x + y * y) then s2.incSat SQ.xyRun 0
    else s2.set SQ.xyRun 0 0

/-- The axis takes a mode after a catch (R133): TABLE at or above UP, else CARRIER with the injection seeded from the catch.
The first vector waits for a running offset measurement (R135). -/
def catchEnter (s : State) (a : Nat) : State :=
  if !s.is SQ.catchGo a || !s.is OB.STATUS.SLS_VALID a || s.ofsRuns a then s
  else
    let s1 := s.set SQ.catchGo 0 a
    let w := s1.geti OB.CATCH_VAL.CATCH_SPD a
    if s1.travUp a w then (s1.tableEntry a).setMode a 4
    else ((s1.injStart a (s1.get OB.afAng a) (s1.get OB.afSpd a) true).carrierStart a).slsUpdate a

/-- The sums over the PWM period (R125, R128). -/
def periodSums (s : State) (a : Nat) : State :=
  ((s.seti SQ.spdSum (s.geti SQ.spdSum a + s.geti POS.offSpd a) a).seti SQ.tqSum (s.geti SQ.tqSum a + s.geti OB.TQ_VAL.T_EST a)
    a).incSat SQ.spdN a

/-- SQ's pass for the axis of a pipeline; the frames sent from here on are those of this tick. -/
def sqPass (s : State) (a : Nat) : State :=
  let s0 := (s.set SQ.outAt s.out.length a).on (s.is SQ.injRamp a) (·.incSat SQ.injRampN a)
  let s1 := (s0.stopRamp a).periodSums a
  let m := s1.get SQ.STATUS.MODE a
  if m = 1 then (s1.catchPass a).catchEnter a
  else if m = 4 || m = 5 || (m = 6 && !s1.is SQ.OBS_STAT.STOP a) then s1.tablePass a
  else s1.dwellTick a

/-- What takes effect for the axis of a pipeline at the boundary, before the passes. -/
def sqBoundary (s : State) (a : Nat) : State :=
  let s1 := ((((s.tblBoundary a).on s.joined (·.tblBoundary 1)).refCommit a).psiRamp a).safeBoundary a
  s1.on (s1.is PU.STATUS.DETACHED a) fun t => (t.bands a).on t.joined (·.bands 1)

end State
end Sys2Proof.Machine
end

