-- ==== Sys2Proof/Machine/ActOps.lean ====
section
/-!
DEFINITION. The context table's checks (10): the layout of an entry, its CRC and bind, the ranges of its sections and the
checks that ENABLE adds.
-/
namespace Sys2Proof.Machine

/-- The bytes of a run of words, least significant first. -/
def wordBytes (ws : List Nat) : List Nat := ws.flatMap bytes4

/-- CRC-32 of an entry (R238): all 1024 bytes with bytes 0x008 to 0x00B taken as 0. -/
def entryCrc (ws : List Nat) : Nat := crc32 (wordBytes (ws.set 2 0))

/-- KIND of each channel (R237). -/
def kindOf (ch : Nat) : Nat := if ch < 2 then 0 else if ch < 5 then 2 else if ch = 5 then 3 else if ch = 6 then 4 else 1

/-- A traction or joined channel. -/
def isTraction (ch : Nat) : Bool := ch < 2 || ch == 7

/-- The axes that a traction channel drives. -/
def chAxes (ch : Nat) : List Nat := if ch = 7 then [0, 1] else [chAx ch]

/-- The islands of a traction channel. -/
def chIslands (ch : Nat) : List Nat := if ch = 7 then List.range 12 else (List.range 6).map (· + 6 * chAx ch)

/-- The domains that serve a channel (R412). -/
def chDomains (ch : Nat) : List Nat :=
  if ch = 0 then [3, 7] else if ch = 1 then [4, 8] else if ch = 7 then [3, 4, 7, 8] else if ch = 5 then [3] else [5]

/-- The register images of a traction entry (R240): the entry's byte offset and the register's first field. -/
def sqImages : List (Nat × Row) :=
  [(0x110, SQ.BAND_CTL.WIN), (0x114, SQ.BAND_LIM.S_MIN), (0x118, SQ.HB_TQ.HB_T0), (0x11C, SQ.HB_FLX.HB_F0),
   (0x120, SQ.MINP.MIN_TICKS), (0x124, SQ.REF_LIM.PSI_MIN), (0x128, SQ.REF_CFG.REF_DIV), (0x12C, SQ.OBS_CFG.RAMP_US),
   (0x130, SQ.XY_CFG.XY_N), (0x134, SQ.CAR_CFG.F_CAR), (0x138, SQ.TRAV_CFG.UP_PCT), (0x13C, SQ.TRAV_SPD.W_CORNER),
   (0x140, SQ.TRAV_TQ.RAMP), (0x144, SQ.CATCH_CFG.CATCH_N), (0x148, SQ.CATCH_LIM.CATCH_VMIN)]

/-- The OB images. -/
def obImages : List (Nat × Row) :=
  [(0x14C, OB.EST_CFG.WC), (0x150, OB.DRIFT.DRIFT_K), (0x154, OB.RES_CFG.RES_TH), (0x158, OB.SLS_CFG.SLS_MIN),
   (0x15C, OB.SLS_PLL.KP), (0x160, OB.INJ_CFG.INJ_CNT), (0x164, OB.INJ_TRK.INJ_KP), (0x168, OB.INJ_CONV.INJ_TOL),
   (0x16C, OB.POL_CFG.POL_I), (0x170, OB.POL_CFG2.POL_TMAX)]

/-- The CE images with the element of each register. -/
def ceImages : List (Nat × Row × Nat) :=
  [(0x174, CE.PERIOD_CFG.OUT_PH_CAR, 0), (0x178, CE.OUT_MAP.DESTn, 0), (0x17C, CE.RP_TOL.TOLx, 0), (0x180, CE.RP_TOL.TOLx, 1),
   (0x184, CE.RP_TOL.TOLx, 2), (0x188, CE.RP_TOL.TOLx, 3), (0x18C, CE.FF_CFG.LEAD, 0), (0x190, CE.FF_CFG.LEAD, 1),
   (0x194, CE.FF_CFG.LEAD, 2), (0x198, CE.FF_CFG.LEAD, 3), (0x19C, CE.FF_PH.OFS, 0), (0x1A0, CE.FF_PH.OFS, 1),
   (0x1A4, CE.FF_PH.OFS, 2), (0x1A8, CE.FF_PH.OFS, 3)]

/-- The AX images of an aux entry. -/
def axImages : List (Nat × Row) :=
  [(0x110, AX.CH_CFG.MODE), (0x114, AX.CH_CURVE_CFG.D_ON), (0x118, AX.CH_LIM.I_MAX), (0x11C, AX.CH_OBS.OBS_UP),
   (0x120, AX.CH_INJ.V_H), (0x124, AX.CH_START.START_I), (0x128, AX.CH_BS.REF_DUTY), (0x12C, AX.CH_BS_LIM.BS_DMAX),
   (0x130, AX.CH_OC.OC_LS)]

/-- The entry's image words with the BAR0 addresses that take them. -/
def images (ch : Nat) : List (Nat × List Nat) :=
  if isTraction ch then
    (sqImages ++ obImages).map (fun p => (p.1, [p.2.addr (chAx ch) 0]))
      ++ ceImages.map (fun p => (p.1, (chEngines ch).map fun e => p.2.1.addr e p.2.2))
  else if 2 ≤ ch && ch < 5 then
    axImages.map (fun p => (p.1, [p.2.addr (ch - 2) 0]))
      ++ (List.range 16).map fun i => (0x140 + 4 * i, [AX.CURVE.S.addr (ch - 2) i])
  else []

/-- The fields that a register image loads: the RWL fields (R241). -/
def imageFields (addr : Nat) : List (Row × Nat × Nat) := (fieldsAt addr).filter fun f => f.1.acc == .rwl

/-- The handles of a traction entry with the kind of table that each names (R391): word offset, byte, kind. -/
def handleKinds : List (Nat × Nat × Nat) :=
  [(0x1C0, 0, 1), (0x1C0, 1, 1), (0x1C0, 2, 2), (0x1C0, 3, 3), (0x1C4, 0, 6), (0x1C4, 1, 5), (0x1C4, 2, 4), (0x1C4, 3, 4),
   (0x1C8, 0, 4), (0x1C8, 1, 4)]

/-- OUT_MAP holds no reserved code, and codes 9 to 11 only in joined mode (R186). -/
def outMapOk (ch map : Nat) : Bool :=
  (List.range 8).all fun k => let c := map / 16 ^ k % 16; decide (c < 12) && (ch == 7 || decide (c < 9))

namespace State

/-- A word of the entry that is being checked. -/
def cand (s : State) (off : Nat) : Nat := s.get ACT.cand 0 (off / 4)

/-- A field of it. -/
def candBits (s : State) (off hi lo : Nat) : Nat := bits (s.cand off) hi lo

/-- The words of an entry of a row. -/
def entryWords (s : State) (r : Row) (ch : Nat) : List Nat := (List.range 256).map fun k => s.get r ch k

/-- Put 256 words into an entry of a row. -/
def putEntry (s : State) (r : Row) (ch : Nat) (ws : List Nat) : State :=
  s.forN 256 fun k t => t.set r (ws.getD k 0) ch k

/-- The candidate of an entry: the words themselves, and for CH7 CH0's control words where OVL_MASK is clear and its
coefficients, with its COEF flag, where COEF is clear (R242). -/
def overlay (ch : Nat) (ws ws0 : List Nat) : List Nat :=
  if ch ≠ 7 then ws
  else (List.range 256).map fun k =>
    let m := if k < 96 then ws.getD 4 0 else ws.getD 5 0
    if k = 3 && !bit (ws.getD 3 0) 2 then ws.getD 3 0 + ofBool (bit (ws0.getD 3 0) 2) * 4
    else if 64 ≤ k && k < 128 then (if bit m ((k - 64) % 32) then ws.getD k 0 else ws0.getD k 0)
    else if 128 ≤ k then (if bit (ws.getD 3 0) 2 then ws.getD k 0 else ws0.getD k 0)
    else ws.getD k 0

/-- The header of R237 is wrong. -/
def headerBad (ch : Nat) (ws : List Nat) : Bool :=
  let h := ws.getD 0 0
  h % 65536 != 1 || h / 65536 % 256 != ch || h / 2 ^ 24 != kindOf ch

/-- The range of a field of a safety section: offset, bits, least, greatest. -/
def secRange (s : State) (off hi lo a b : Nat) : Option Nat :=
  let v := s.candBits off hi lo
  if a ≤ v && v ≤ b then none else some off

/-- The first failing field of the safety section (R239, R318, R344), by its word's offset. -/
def safetyBad (s : State) (ch : Nat) : Option Nat :=
  if ch = 5 then
    [s.secRange 0x040 31 16 10 10000, s.secRange 0x040 15 0 10 10000, s.secRange 0x044 31 16 10 65535,
     s.secRange 0x044 15 0 1 65535, s.secRange 0x048 31 24 60 250, s.secRange 0x048 23 16 0 150,
     (if s.candBits 0x048 23 16 + s.candBits 0x048 15 8 ≤ s.candBits 0x048 31 24 then none else some 0x048),
     s.secRange 0x048 7 0 1 50, s.secRange 0x04C 31 16 50 10000, s.secRange 0x04C 15 0 410 590,
     s.secRange 0x050 31 16 0x0100 0x4000, s.secRange 0x050 15 2 1 16383, s.secRange 0x054 15 0 500 1050].findSome? id
  else if ch = 6 then
    [s.secRange 0x040 31 16 100 10000, s.secRange 0x040 15 8 5 30, s.secRange 0x044 31 16 0 10000,
     s.secRange 0x044 15 0 50 65535, s.secRange 0x048 31 16 100 400, s.secRange 0x048 15 0 1 100].findSome? id
  else
    ([s.secRange 0x040 31 16 1 65535, s.secRange 0x040 15 0 1 65535, s.secRange 0x044 31 16 1 65535,
     s.secRange 0x044 15 0 1 65535, s.secRange 0x048 23 16 1 16, s.secRange 0x048 15 0 1 65535]
      ++ (if isTraction ch then
        [if s.candBits 0x058 31 16 ≤ s.candBits 0x058 15 0 then some 0x058 else none] else [])).findSome? id

/-- A word of an image is out of a field's range, or breaks a rule between its own fields (R112, R124, R117, R186, R234). -/
def imageBad (s : State) (ch off : Nat) (addrs : List Nat) : Bool :=
  let w := s.cand off
  addrs.any (fun a => (imageFields a).any fun f => !f.1.inRange (f.1.cut w))
    || (off == 0x114 && addrs.all (· < 0x01180000) && SQ.BAND_LIM.S_MAX.cut w < SQ.BAND_LIM.S_MIN.cut w)
    || (off == 0x178 && isTraction ch && !outMapOk ch w)
    || (off == 0x138 && isTraction ch && SQ.TRAV_CFG.UP_PCT.cut w ≤ SQ.TRAV_CFG.DN_PCT.cut w)
    || (off == 0x160 && isTraction ch && OB.INJ_CFG.INJ_MODE.cut w == 0 && SQ.CAR_CFG.F_CAR.cut (s.cand 0x134)
          * (1 + SQ.CAR_CFG.DBL_UPD.cut (s.cand 0x134)) * 100 < OB.INJ_CFG.F_H.cut w * 80)
    || (off == 0x114 && addrs.all (0x01180000 ≤ ·) && AX.CH_CURVE_CFG.D_ON.cut w ≤ AX.CH_CURVE_CFG.D_OFF.cut w)
    || (off == 0x11C && addrs.all (0x01180000 ≤ ·) && AX.CH_OBS.OBS_UP.cut w ≤ AX.CH_OBS.OBS_DN.cut w)

/-- A handle names no table of its kind in the loaded calibration image (R174, R393). -/
def handleBad (s : State) : Option Nat :=
  handleKinds.findSome? fun h =>
    let v := s.cand h.1 / 256 ^ h.2.1 % 256
    if v = 0 || s.get SEC.calKind 0 v = h.2.2 then none else some h.1

/-- The first failing word of the candidate (R241). -/
def candBad (s : State) (ch : Nat) : Option Nat :=
  match s.safetyBad ch with
  | some o => some o
  | none =>
    match (images ch).find? fun p => s.imageBad ch p.1 p.2 with
    | some p => some p.1
    | none => if isTraction ch then s.handleBad else none

/-- CRC-32C of bytes 0x040 to 0x0FF of the candidate (R243). -/
def candBind (s : State) : Nat := crc32c (wordBytes ((List.range 48).map fun k => s.get ACT.cand 0 (16 + k)))

/-- R102: MIN_TICKS × 400 ns is at least the largest dead time (2.5 ns counts) plus E_max of the islands (ns). -/
def minpHolds (s : State) (ch ticks : Nat) : Bool :=
  let dt := (chAxes ch).flatMap fun a => (List.range 4).map fun b => s.deadTime a b
  let em := (chIslands ch).map fun i => s.get GI.PROF_DUR.E_MAX i
  decide (5 * dt.foldl max 0 + 2 * em.foldl max 0 ≤ 800 * ticks)

/-- MINP_MARGIN (R102): the inequality held before and holds no longer, on an enabled axis. -/
def minpWarn (s0 s1 : State) (a : Nat) : State :=
  let ch := s1.axisCh a
  let ticks := s1.get SQ.MINP.MIN_TICKS (s1.lead a)
  s1.on (s1.axEn a && s0.minpHolds ch ticks && !s1.minpHolds ch ticks) (·.event .warning a (0x10 + a) 0x0101 a 0)

/-- R124 on the candidate: W_CORNER is not 0, DN × W_CORNER is at least SLS_MIN, and a source is enabled where the injection
is off. -/
def travHolds (s : State) (src : Nat) : Bool :=
  let wc := s.cand 0x13C % 65536
  let dn := SQ.TRAV_CFG.DN_PCT.cut (s.cand 0x138)
  wc != 0 && decide (OB.SLS_CFG.SLS_MIN.cut (s.cand 0x158) * 100 ≤ dn * wc)
    && (OB.INJ_CFG.INJ_CNT.cut (s.cand 0x160) != 0 || src % 4 != 0)

/-- PER of a carrier frequency in 100 Hz (R140): 400 MHz / (2 × F_CAR), rounded to the nearest count. -/
def perOf (fcar : Nat) : Nat := if fcar = 0 then 0 else (4000000 + fcar) / (2 * fcar)

/-- The period of an engine's two sources for a carrier setting (R168). -/
def ceFits (s : State) : Bool :=
  let c := s.cand 0x134
  let per := perOf (SQ.CAR_CFG.F_CAR.cut c) * (2 - SQ.CAR_CFG.DBL_UPD.cut c)
  let tick := SQ.REF_CFG.REF_DIV.cut (s.cand 0x128) * 160
  decide (CE.PERIOD_CFG.OUT_PH_CAR.cut (s.cand 0x174) + 44 ≤ per) && decide (CE.PERIOD_CFG.OUT_PH_TBL.cut (s.cand 0x174) + 44 ≤ tick)

/-- SC_DLY and BC_WAIT of every island cover its complement's soft turn-off (R209); SC_DLY and BC_WAIT in 100 ns. -/
def shortDelays (s : State) (ch : Nat) : Bool :=
  (chIslands ch).all fun i =>
    let e := s.get GI.PROF_DUR.E_SOFT (if i % 2 = 0 then i + 1 else i - 1)
    decide (e + 100 ≤ s.get GI.SAFE_CFG.SC_DLY i * 100) && (i % 2 == 0 || decide (1000 + e + 100 ≤ s.get GI.SAFE_CFG.BC_WAIT i * 100))

end State
end Sys2Proof.Machine
end

