-- ==== Sys2Proof/Machine/Belay.lean ====
section
/-!
DEFINITION. The Belay island's decisions (12): the selection between OPEN and a short circuit, safe states, bivouac
mode, the monitors' verdicts, setpoint lapse, XTRIP, SSOUT and the heartbeat.
-/
namespace Sys2Proof.Machine

/-- V_BL of an axis, Q15 of V_base (R280): the latest forwarded sample; without one for 10 ms VDC_MIN of its section or idle set, and before the
first one since the reset VDC_MIN of the idle set, 0 with an empty one. -/
def State.vBl (s : State) (a : Nat) : Nat :=
  if !s.is BL.vblEver then (if s.is BL.idleOk a then s.get BL.idleVmin a else 0)
  else if s.is BL.vblStale then s.vdcMin a else s.get BL.VDC_ACC.V_BL

/-- The line-line back-EMF peak E = √3 × |ω_BL| × PSI_PM and `k` × V_BL (R279), both squared and brought to one
scale so that they compare exactly (ω in Q15 of W_BASE, PSI_PM in 10 µWb, V_BL in Q15 of V_BASE in 0.1 V, k in Q15). -/
def State.emfSquares (s : State) (a k : Nat) : Nat × Nat :=
  let w := (s.geti (State.spdRow a)).natAbs * s.wBase a * s.gov BL.TM_PSI.PSI_PM 4 a a
  let v := k * s.vBl a * s.vBase a * 10000
  (3 * (w * 32768) * (w * 32768), v * v)

/-- E in 0.1 V as SEL_CHANGE reports it (R279, R304), of which 16 bits have room. -/
def State.emfReport (s : State) (a : Nat) : Nat :=
  min 0xFFFF (quotN ((s.geti (State.spdRow a)).natAbs * s.wBase a * s.gov BL.TM_PSI.PSI_PM 4 a a * sqrt3F) (32768 * 10000 * unitF))

/-- The selection with the axis's speed known or not (R279, R280). -/
def State.selNext (s : State) (a : Nat) : Bool :=
  let sel := if s.is BL.selOnce a then s.is BL.AXIS.SEL_SHORT a else s.polHi BL.POL_HI.UNK_SHORT a != 0
  if !s.is BL.spdKnown a then sel
  else
    let on := s.emfSquares a (s.polLo BL.POL_LO.SC_ON a)
    let off := s.emfSquares a (s.polLo BL.POL_LO.SC_OFF a)
    if on.2 < on.1 then true
    else if off.1 < off.2 then false
    else sel

/-- The password lockout counts 10 µs down while PD1 is powered (R324). -/
def State.lockCount (s : State) : State :=
  if !s.is BL.PWD_STAT.LOCK_LEFT || !s.getBit SYS.PWR_STAT.PD_ON 1 then s
  else
    let n := s.get BL.lockUs + 10
    if n < 1000000 then s.set BL.lockUs n
    else if s.get BL.PWD_STAT.LOCK_LEFT = 1 then s.set BL.lockUs 1000000
    else (s.set BL.lockUs 0).set BL.PWD_STAT.LOCK_LEFT (s.get BL.PWD_STAT.LOCK_LEFT - 1)

/-- What the Belay clock counts in the 10 µs between two selections: with axis A's the age of V_BL (R280) and the missed heartbeat periods
(R302), and the password lockout, whose last second PWD_LOCKOUT_END ends (R324); for the axis the bivouac time, while it is enabled (R296). -/
def State.belayClock (s : State) (a : Nat) : State :=
  let s1 := s.on (a == 0) fun t =>
    let u := (t.set BL.VDC_ACC.AGE (min 0xFFFF (t.get BL.VDC_ACC.AGE + 10))).incSat BL.hbT
    (u.set BL.HB.HB_MISS (max (u.get BL.HB.HB_MISS) (min 0xFF (u.get BL.hbT / 10)))).lockCount
  if !s1.is BL.AXIS.BIV a || !s1.axEn a || !s1.is BL.AXIS.BIV_LEFT a then s1
  else if s1.get BL.selN a < 999 then s1.inc BL.selN a
  else (s1.set BL.selN 0 a).set BL.AXIS.BIV_LEFT (s1.get BL.AXIS.BIV_LEFT a - 1) a

/-- SELECTION (R279 to R281): every 10 µs the speed is formed and the selection made. A change is logged and goes on a line that stands in a
safe or idle state. -/
def execBlSelection (axis : Fin 2) (s : State) : Out :=
  let a : Nat := axis
  let s0 := s.belayClock a
  let w := s0.blSpeed a
  let s1 := match w with
    | some x => (s0.set BL.spdKnown 1 a).seti (State.spdRow a) x
    | none => (s0.set BL.spdKnown 0 a).set (State.spdRow a) 0x8000
  let old := s1.is BL.AXIS.SEL_SHORT a
  let new := s1.selNext a
  let s2 := (s1.setb BL.AXIS.SEL_SHORT new a).set BL.selOnce 1 a
  .next ((s2.on (old != new) fun t =>
    t.safetyLog (s.lead a) 0x0202 (ofBool old) (ofBool new * 65536 + t.emfReport a)).lines)

/-- BELAY at a PU's trip unit (R284), source bit 15. -/
def State.belayAssert (s : State) (pu : Nat) : State := (s.tripIn pu 15).set BL.belT s.now pu

/-- One axis enters or stays in its safe state with its new causes (R284): causes recorded, RUN off the line; a winding
discharge of the axis ends (R340), with its event DIS_WIND. -/
def State.safeMark (s0 : State) (a : Nat) : State :=
  let s := s0.on (s0.is BL.wind a) (·.safetyLog 5 0x0219 (2 ^ a) 0)
  let c := s.get BL.causeReq a ||| s.get BL.CAUSE.SS_CAUSE a
  (((s.set BL.CAUSE.SS_CAUSE c a).set BL.AXIS.SAFE 1 a).set BL.run 0 a).set BL.wind 0 a

/-- SAFE_ENTER (R284, R303): the causes that have reached the Belay island in this cycle are taken together: the
selected code on the line, BELAY at the axis's PU (all five where CI_LOST or DIE_OT is among them, R292), one record
with all cause bits, SSOUT not ready (R301), HOLD where the policy asks for it (R286). -/
def execSafeEnter (axis : Fin 2) (s : State) : Out :=
  let a : Nat := axis
  let req := s.get BL.causeReq a
  .next (if req = 0 then s
    else
      let s1 := if s.joined then (s.safeMark 0).safeMark 1 else s.safeMark a
      let s2 := if s.joined then (s1.set BL.causeReq 0 0).set BL.causeReq 0 1 else s1.set BL.causeReq 0 a
      let s3 := s2.lines.ssout
      let s4 := if s.joined then s3.belayAssert 0 else s3.belayAssert a
      let s5 := s4.on (bit req 13 || bit req 15) fun t => t.forN 5 fun p u => u.belayAssert p
      let s6 := s5.safetyLog (s.lead a) 0x0200 (s5.causeWord a)
        (s5.get BL.AXIS.LINE a * 2 ^ 29 + s5.get (State.spdRow a))
      s6.on (s6.polHi BL.POL_HI.HOLD_ON_SAFE (s.lead a) != 0) (·.holdIssue 2))

/-- BELAY_RELEASE (R284): after 1 µs BELAY falls at a PU once the condition of no standing cause is present; at an aux
PU once no heartbeat or die-temperature cause is. -/
def execBelayRelease (pu : Fin 5) (s : State) : Out :=
  let p : Nat := pu
  let held := if p < 2 then s.causePresent (s.lead p)
    else s.is BL.STATUS.CI_LOST || s.is BL.dieOt
  .next (if held || decide (s.now < s.get BL.belT p + 400) then s else s.tripIn p 15 false)

/-- The axis a monitor serves: TM0 axis A, TM1 axis B; in joined mode both serve the machine (R287, R291). -/
def State.monAxis (s : State) (m : Nat) : Nat := s.lead m

/-- The counter limit of R289: TM_TIME × 200, halved while one monitor serves both axes (R291). -/
def State.tmLimit (s : State) (m : Nat) : Nat :=
  s.gov BL.TM_WIN.TM_TIME 2 m * (if !s.joined && s.is BL.STATUS.TM_LOST then 100 else 200)

/-- The window counter row of an axis or monitor (R289). -/
def cntRow (m : Nat) : Row := if m = 0 then BL.TM_ERR.CNT0 else BL.TM_ERR.CNT1

/-- The torque row of a monitor. -/
def tmRow (m : Nat) : Row := if m = 0 then BL.TM_VAL.T_TM0 else BL.TM_VAL.T_TM1

/-- TM_ERROR (R289): the window counter at its limit calls for the safe state of the axis and enters TM_ERROR. -/
def execTmError (mon : Fin 2) (s : State) : Out :=
  let m : Nat := mon
  .next (if s.get (cntRow m) < s.tmLimit m then s
    else
      let a := s.monAxis m
      let by' := if !s.joined && s.getBit BL.STATUS.TM_LOST m then 1 - m else m
      (s.safetyLog a 0x0206 (s.get (tmRow by') * 65536 + s.get BL.tCmd a) (s.get BL.tCe a)).unsafeAxis a .tmErr)

/-- A known-answer test's result (R291): a failure marks the monitor lost, which is the loss of one torque monitor:
bivouac mode of the machine, in split mode of both axes (R292), and a safe state once the other monitor is lost already (R303). The KAT piton corrupts the next test (R307).
The test takes the place of the monitor's next sample. -/
def State.kat (s : State) (m : Nat) (pass : Bool) : State × Bool :=
  let p := s.pit 0x30 4 m
  let s1 := (s.on p (·.pitAct)).set BL.katSkip 1 m
  let ok := pass && !p
  if ok || s1.getBit BL.STATUS.TM_LOST m then (s1, ok)
  else
    let s2 := (s1.setBit BL.STATUS.TM_LOST m true).safetyLog (s1.monAxis m) 0x0207 m 1
    (if s2.joined then s2.bivLoss 0 .tmKat else (s2.bivLoss 0 .tmKat).bivLoss 1 .tmKat, false)

/-- KAT_PERIODIC (R291). -/
def execKatPeriodic (mon : Fin 2) (pass : Bool) (s : State) : Out := .next (s.kat mon pass).1

/-- KAT (R305): the mailbox operation runs a fresh test of the monitor ARG0 names and returns its result, 0 pass; an
ARG0 other than 0 or 1 is out of its range. -/
def execMbxKat (pass : Bool) (s : State) : Out :=
  let m := s.get BL.MBX_ARG.ARG 0
  .next (if !s.mbx 0x03 then s
    else if 1 < m then s.mbxDone 2 0
    else
      let (t, ok) := s.kat m pass
      t.mbxDone 0 (if ok then 0 else 1))

/-- TM_XCHK (R291): in joined mode T_TM0 and T_TM1 have differed by more than XTOL for XTIME, 200 samples a ms, and neither monitor has
failed its test. -/
def execTmXchk (s : State) : Out :=
  .next (if s.joined && !s.is BL.STATUS.TM_LOST && s.is BL.tmXRun && decide (200 * s.gov BL.TM_XCFG.XTIME 3 0 ≤ s.get BL.tmXRun) then
      s.unsafeAxis 0 .tmXchk
    else s)

/-- The difference at an index between ZOFS_BL and POS's incremental angle (R288), times CPR so that it is exact:
ANG_INC = (pole pairs × IDX_LAT × 0x1_0000 / CPR + INC_OFS) mod 0x1_0000. -/
def State.alignDiff (s : State) (a : Nat) : Nat :=
  let cpr := s.get POS.INC_CPR.CPR a
  let m := 65536 * cpr
  let own := s.gov BL.TM_ALIGN.ZOFS_BL 6 a a * cpr
  let pos := (s.poles a * s.get POS.IDX_LAT.LAT a * 65536 + s.get POS.ALIGN.INC_OFS a * cpr) % m
  let d := (own + m - pos) % m
  min d (m - d)

/-- BL_INDEX (R288): at the first index after an accepted ENABLE the two angles are compared: beyond ALIGN_TOL degrees
a monitor error calls for the safe state, within it ALIGN_OK is set. -/
def execBlIndex (axis : Fin 2) (s : State) : Out :=
  let a : Nat := axis
  .next (if !s.axEn a || s.is BL.AXIS.ALIGN_OK a then s
    else if s.gov BL.TM_ALIGN.ALIGN_TOL 6 a a * 65536 * s.get POS.INC_CPR.CPR a < s.alignDiff a * 360 then
      s.unsafeAxis a .tmAlign
    else (s.set BL.AXIS.ALIGN_OK 1 a).set BL.blRef (s.get BL.blCnt a) a)

/-- ALIGN_TIMEOUT (R288): no index after two mechanical turns that the Belay island has counted. -/
def execAlignTimeout (axis : Fin 2) (s : State) : Out :=
  let turns := decide (2 * s.gov BL.TM_CPR.CPR_BL 7 axis axis ≤ (s.blSince axis BL.blEn).natAbs)
  .next (if s.axEn axis && !s.is BL.AXIS.ALIGN_OK axis && turns then s.unsafeAxis axis .tmAlign else s)

/-- A cause that the status word brings for an axis (R292), once while it stands. -/
def State.wordCause (s : State) (a : Nat) (present : Bool) (c : SsCause) : State :=
  s.on (present && !s.getBit BL.CAUSE.SS_CAUSE c.bit a) (·.unsafeAxis a c)

/-- The position sources of POS.XCHK_STAT, bit 0 ABS to bit 4 INC2 (R78, R79): the loss of ABS, ABS2 or SLS is a
bivouac cause; of INC the safe state, but bivouac mode in joined mode with INC2 valid. -/
def State.wordPosition (s : State) (a : Nat) : State :=
  let l (k : Nat) := s.getBit POS.XCHK_STAT.LOST k a
  let s1 := ((s.on (l 0) (·.bivEnter a .abs)).on (l 3) (·.bivEnter a .abs2)).on (l 2) (·.bivEnter a .sls)
  let s2 := s1.on (l 4) (·.bivEnter a .inc2)
  if l 1 then
    if s2.joined && s2.getBit POS.XCHK_STAT.VALID 4 a then s2.bivEnter a .inc
    else s2.wordCause a (s2.axEn a) .incLost
  else s2

/-- How many of the five position sources of an axis are valid. -/
def State.validSources (s : State) (a : Nat) : Nat :=
  ((List.range 5).filter fun k => s.getBit POS.XCHK_STAT.VALID k a).length

/-- STATUS_WORD (R292, R295, R298): the control island's flags reach the Belay island: trips of PU0 and PU1, rope-pair
faults, lost position sources, a substituted current channel (R51), and the single-source condition. -/
def execStatusWord (s : State) : Out :=
  .next (s.forN 2 fun a t =>
    let t1 := t.wordCause a (t.is PU.TRIP_STAT.TRIPPED a) .puTrip
    let t2 := t1.wordCause a (t1.is CE.RP_STAT.RP_FAULT (2 * a)) .rpFault
    let t3 := t2.wordPosition a
    let t4 := t3.substTaken a
    let one := t4.validSources (t4.lead a) == 1
    (t4.on (one && !t4.is BL.AXIS.SGL a) (·.set BL.sglT t4.now a)).setb BL.AXIS.SGL one a)

/-- BIV_WARN (R296): 30 s before expiry, or with the full BIV_TIME when it is 30 s or less, as the time starts to count. -/
def execBivWarn (axis : Fin 2) (s : State) : Out :=
  let a : Nat := axis
  let left := min (s.gov BL.BIV_CFG.BIV_TIME 8 a) 30
  .next (if s.is BL.AXIS.BIV a && s.axEn a && !s.is BL.AXIS.BIV_EXPIRED a && !s.is BL.bivWarned a
      && decide (s.get BL.AXIS.BIV_LEFT a ≤ 3000) then
      ((s.set BL.bivWarned 1 a).safetyLog a 0x0204 left 0).event .warning a 0x30 0x0204 left 0
    else s)

/-- BIV_EXPIRE (R296): the safe state, HOLD, and BIV_EXPIRED; the time counts only while the axis is enabled. -/
def execBivExpire (axis : Fin 2) (s : State) : Out :=
  let a : Nat := axis
  .next (if s.is BL.AXIS.BIV a && s.axEn a && !s.is BL.AXIS.BIV_EXPIRED a && !s.is BL.AXIS.BIV_LEFT a then
      (((s.set BL.AXIS.BIV_EXPIRED 1 a).safetyLog a 0x0205 a 0).unsafeAxis a .bivExp).holdIssue 1
    else s)

/-- SGL_TIMEOUT (R298): one valid source for SGL_TIME counts as the loss of one position source. -/
def execSglTimeout (axis : Fin 2) (s : State) : Out :=
  .next (if s.is BL.AXIS.SGL axis && decide (s.get BL.sglT axis + 400000 * s.gov BL.SGL_CFG.SGL_TIME 9 axis ≤ s.now) then
      s.bivEnter axis .sgl
    else s)

/-- SETPOINT_LAPSE (R294, R314): the window of the axis's stream runs out: for an axis that is not enabled LAPSED and
the log alone; else the ramp of the Belay torque limit starts, or the safe state follows at once (LAPSE_ACT). The window of an
axis whose destination no enabled slot names has no length in the spec: the command alone says that it is over (log entry 45). -/
def execSetpointLapse (axis : Fin 2) (s : State) : Out :=
  let a : Nat := axis
  let ch := s.axisCh a
  let runs := (s.slotAny (if ch = 7 then 7 else ch + 2)).elim false fun k =>
    decide (s.now < s.get BL.winT ch + 400000 * s.get BL.RS_CFG.WIN k)
  .next (if s.is BL.AXIS.LAPSED a || runs then s
    else
      let s1 := s.set BL.AXIS.LAPSED 1 a
      let seq := s1.get BL.lastSeq (s1.axisCh a)
      if !s1.axEn a then s1.safetyLog a 0x0208 2 seq
      else if s1.polHi BL.POL_HI.LAPSE_ACT a != 0 then (s1.safetyLog a 0x0208 1 seq).unsafeAxis a .lapse
      else (s1.lapseTo a 1).safetyLog a 0x0208 0 seq)

/-- LAPSE_RAMP_END (R294): the limit is 0 and LAPSE_HOLD starts. -/
def execLapseRampEnd (axis : Fin 2) (s : State) : Out :=
  .next (if s.get BL.lapse axis = 1 && s.axEn axis && decide (s.get BL.lapseT axis + s.lapseRamp axis ≤ s.now) then s.lapseTo axis 2
    else s)

/-- LAPSE_HOLD_END (R294): no setpoint within LAPSE_HOLD brings the safe state. -/
def execLapseHoldEnd (axis : Fin 2) (s : State) : Out :=
  .next (if s.get BL.lapse axis = 2 && s.axEn axis
      && decide (s.get BL.lapseT axis + 400000 * s.polHi BL.POL_HI.LAPSE_HOLD axis ≤ s.now) then
      ((s.set BL.lapse 0 axis).safetyLog axis 0x0208 1 (s.get BL.lastSeq (s.axisCh axis))).unsafeAxis axis .lapse
    else s)

/-- The axes named in XT_ASSERT_AXES. -/
def State.xtAxis (s : State) (a : Nat) : Bool := bit (s.gov BL.XT_CFG.XT_ASSERT_AXES 10 a) a

/-- An asserted XTRIP acts (R299): forwarded to the PUs, and the safe state of the axes it names. -/
def State.xtripAct (s : State) : State :=
  let s1 := (s.set BL.STATUS.XTRIP_ACT 1).safetyLog 0 0x0209 1 0
  let s2 := s1.forN 2 fun a t => t.on (t.xtAxis a) fun u => (u.tripIn a 12).unsafeAxis a .xtrip
  s2.on s2.xtAux fun t => ((t.tripIn 2 12).tripIn 3 12).tripIn 4 12

/-- A deasserted XTRIP: the state and the PU inputs follow. -/
def State.xtripOff (s : State) : State :=
  (s.set BL.STATUS.XTRIP_ACT 0).forN 5 fun p t => t.tripIn p 12 false

/-- XTRIP (R299): the filtered state of the pin changes. It is first taken when the Belay island sets CFG_VALID (R451). -/
def execXtripPin (asserted : Bool) (s : State) : Out :=
  let s1 := s.setb BL.xtripPin asserted
  .next (if !s1.is BL.STATUS.CFG_VALID || s1.is BL.STATUS.XTRIP_ACT == asserted then s1
    else if asserted then s1.xtripAct
    else s1.xtripOff.safetyLog 0 0x0209 0 0)

/-- HVIL_RESTORE (R300): the loop has read correctly; an HVIL event with ARG0 0 records it. -/
def execHvilRestore (s : State) : Out :=
  .next (if s.is BL.STATUS.HVIL_OPEN then (s.set BL.STATUS.HVIL_OPEN 0).safetyLog 0 0x020A 0 0 else s)

/-- SSOUT_FAULT (R301): a driven output that reads low for 1 ms. -/
def execSsoutFault (s : State) : Out :=
  .next (if s.is BL.STATUS.SSOUT && !s.is BL.STATUS.SSOUT_FAULT then
      ((s.set BL.STATUS.SSOUT_FAULT 1).safetyLog 0 0x020F 0 0).event .warning 0 0x30 0x020F 0 0
    else s)

/-- HEARTBEAT_SEND (R302): HK sends a word with a rising sequence number. -/
def execHeartbeatSend (s : State) : Out :=
  let t := s.inc HK.hbSeq
  .next (t.send (.belayWord 1 [t.get HK.hbSeq]))

/-- HEARTBEAT (R302): a word in sequence restarts the count of periods; ten in sequence clear CI_LOST. The HB piton
makes the island ignore words (R307). -/
def execBlHeartbeat (seq : BitVec 16) (s : State) : Out :=
  let p := s.pit 0x30 5 0
  let s0 := s.on p fun t => t.pitAct.set BL.hbIgnore (t.get BL.HB.HB_N + 1)
  .next (if s0.is BL.hbIgnore then s0.set BL.hbIgnore (s0.get BL.hbIgnore - 1)
    else
      let inSeq := seq.toNat == (s0.get BL.HB.HB_SEQ + 1) % 65536
      let s1 := s0.set BL.HB.HB_SEQ seq.toNat
      if !inSeq then s1.set BL.hbRun 0
      else
        let s2 := ((s1.set BL.HB.HB_MISS 0).set BL.hbT 0).incSat BL.hbRun
        if s2.is BL.STATUS.CI_LOST && 10 ≤ s2.get BL.hbRun then (s2.set BL.STATUS.CI_LOST 0).ssout else s2)

/-- CI_LOST (R302): HB_N periods without a word in sequence: both axes in the safe state, BELAY at all five PUs. -/
def execCiLost (s : State) : Out :=
  .next (if s.is BL.STATUS.CI_LOST || decide (s.get BL.HB.HB_MISS < s.get BL.HB.HB_N) then s
    else ((((s.set BL.STATUS.CI_LOST 1).set BL.ciT s.now).set BL.hbRun 0).safetyLog 0 0x020B
      (s.get BL.HB.HB_SEQ) 0).ssout.callSafeBoth SsCause.ciLost.bit)

end Sys2Proof.Machine
end

