-- ==== Sys2Proof/Machine/Discharge.lean ====
section
/-!
DEFINITION. Active discharge and the energy ledger (14): requests, the abseil's steps, winding discharge, the accounts,
and the DLI's part.
-/
namespace Sys2Proof.Machine

namespace State

/-- A field of the CH5 section; before any section was accepted the ledger runs on the default (R344; DEDUCED, log entry 15). -/
def sec5 (s : State) (off hi lo default : Nat) : Nat := if s.is BL.storeOk 5 then s.secField 5 off hi lo else default

/-- C_LINK, µF (R344). -/
def cLink (s : State) : Nat := s.sec5 0x040 31 16 500
/-- R_DIS, 0.1 Ω. -/
def rDis (s : State) : Nat := s.sec5 0x040 15 0 1000
/-- C_TH, 0.01 J/K. -/
def cTh (s : State) : Nat := s.sec5 0x044 31 16 300
/-- R_TH, 0.01 K/W. -/
def rTh (s : State) : Nat := s.sec5 0x044 15 0 200
/-- T_RMAX, °C. -/
def tRmax (s : State) : Nat := s.sec5 0x048 31 24 200
/-- T_AMB, °C. -/
def tAmb (s : State) : Nat := s.sec5 0x048 23 16 105
/-- DT_INIT, K. -/
def dtInit (s : State) : Nat := s.sec5 0x048 15 8 20
/-- STEP_MS. -/
def stepMsCfg (s : State) : Nat := s.secField 5 0x048 7 0
/-- T_DEADLINE, ms. -/
def tDeadline (s : State) : Nat := s.secField 5 0x04C 31 16
/-- V_TGT, 0.1 V. -/
def vTgt (s : State) : Nat := s.secField 5 0x04C 15 0
/-- WD_EMAX, J. -/
def wdEmax (s : State) : Nat := s.secField 5 0x050 15 2
/-- WD_AXES names the axis. -/
def wdAxis (s : State) (a : Nat) : Bool := bit (s.secField 5 0x050 1 0) a

/-- V_BL × V_BASE: the link voltage in units of 0.1 V / 32768. -/
def vLink (s : State) : Nat := s.get BL.VDC_ACC.V_BL * s.vBase 0

/-- V_BL lies below a voltage in 0.1 V. -/
def vBelow (s : State) (v : Nat) : Bool := s.vLink < v * 32768

/-- V_BL in 0.1 V as an event reports it. -/
def vReport (s : State) : Nat := quotN s.vLink 32768

/-- E_LINK in 0.1 mJ, for the accounts that need it finer than its register (R342). -/
def eLinkFine (s : State) : Nat := quotN (s.cLink * s.vLink * s.vLink) (2 * 10000 * 2 ^ 30)

/-- E_LINK = ½ · C_LINK · V_BL², in 0.01 J (R342). -/
def eLink (s : State) : Nat := quotN (s.cLink * s.vLink * s.vLink) (2 * 1000000 * 2 ^ 30)

/-- An abseil runs: steps, waiting or windings. -/
def disRunning (s : State) : Bool :=
  s.get BL.DIS_STAT.STATE == 1 || s.get BL.DIS_STAT.STATE == 2 || s.get BL.DIS_STAT.STATE == 3

/-- A command of the Belay island for the DLI waits for the next downlink frame (R333): 1 STEP, 2 END. -/
def dliCommand (s : State) (kind len : Nat) : State := (s.set DLI.cmdKind kind).set DLI.cmdLen len

/-- The step in progress is ended at once by END (R333, R339). -/
def dliEnd (s : State) : State :=
  s.on (s.is BL.stepOpen) fun t => ((t.dliCommand 2 0).set BL.stepOpen 0).set BL.stepNext 0

/-- The winding discharge of the axes of `mask` ends (R341): they return to the safe state with cause DISCHARGE, BELAY with
it (R284); the engines of a channel that is not enabled stop. -/
def wdStop (s : State) (mask : Nat) : State :=
  if mask = 0 then s
  else
    let s1 := s.forN 2 fun a t => t.on (bit mask a) fun u => ((u.set BL.wind 0 a).tripIn a 15).on (!u.is ACT.chEn (u.axisCh a)) fun v =>
      (chRuns (u.axisCh a)).foldl (fun w e => w.set CE.CTL.RUN 0 e) v
    s1.lines.safetyLog 5 0x0219 mask 0

/-- Every winding discharge that runs ends. -/
def wdEnd (s : State) : State := s.wdStop (s.get BL.wind 0 + 2 * s.get BL.wind 1)

/-- The abseil ends with DIS_G off (R339): 1 done, 2 source, 3 switch, 4 DLI, 5 cancelled, 6 no CH5 section. -/
def disEnds (s : State) (code : Nat) : State :=
  let s1 := ((((s.wdEnd).set BL.DIS_STAT.STATE 4).set BL.DIS_STAT.END code).set BL.disCond 0).set BL.disCancel 0
  (s1.set BL.stepOpen 0).set BL.stepNext 0

/-- The cause DISCHARGE clears on both axes (R339). -/
def disCauseClear (s : State) : State :=
  (s.forN 2 fun a t =>
    let u := t.setBit BL.CAUSE.SS_CAUSE 14 false a
    u.setb BL.AXIS.SAFE (u.is BL.CAUSE.SS_CAUSE a) a).lines.ssout

/-- DIS_FAULT (R339, R346): 1 SOURCE, 2 STUCK_OFF, 3 STUCK_ON, 4 DLI, 5 NO_CFG; the cause stands. -/
def disFault (s : State) (kind : Nat) : State :=
  let code := match kind with
    | 1 => 2
    | 2 => 3
    | 3 => 3
    | 4 => 4
    | _ => 6
  (s.dliEnd.disEnds code).safetyLog 5 0x021C kind s.vReport

/-- The abseil is done (R339): the running step ends at once and the cause clears. -/
def disDone (s : State) : State :=
  let t := (s.dliEnd.disEnds 1).disCauseClear
  t.safetyLog 5 0x021A (t.get BL.DIS_TIME.T_SAFE) (t.get BL.disE)

/-- The abseil is cancelled (R337, R339). -/
def disCancelled (s : State) : State := ((s.disEnds 5).disCauseClear).safetyLog 5 0x021D 0 s.vReport

/-- A fresh abseil's registers. -/
def disStart (s : State) (src : Nat) : State :=
  let s1 := (((s.set BL.DIS_STAT.STATE 1).set BL.DIS_STAT.END 0).set BL.DIS_STAT.MISS 0).set BL.DIS_STAT.STEPS 0
  let s2 := (((s1.set BL.DIS_TIME.T_SAFE 0xFFFF).set BL.DIS_TIME.T_RUN 0).set BL.LED_RES.E_RES 0).set BL.LED_GATE.E_GATE 0
  let s3 := ((s2.forN 2 fun a t => (t.set BL.LED_WIND.E_WIND 0 a).set BL.eWind 0 a).set BL.eGate 0).set BL.disSrc src
  let s4 := (((s3.set BL.disCond 1).set BL.disCancel 0).set BL.disMismatch 0).set BL.disE 0
  let s5 := (s4.set BL.repReq 0 0).set BL.repReq 0 1
  (s5.safetyLog 5 0x0217 src s5.vReport).callSafeBoth SsCause.discharge.bit

/-- The module begins to leave PARKED (R418), with its event PWR_STATE. -/
def unparkBegin (s : State) (arg1 : Nat) : State :=
  s.on s.parked fun t => (t.set SYS.PWR_STAT.STATE 3).event .info 0 0x00 0x0400 2 arg1

/-- A discharge request from a ring (1), the network (2) or HVIL (3), with its RESULT (R336): 2 while an abseil runs, 3
without a sample accepted in the last 10 ms, 0 when the link is already below V_TGT, 1 when an abseil starts. With an axis in
WD_AXES it brings the module out of PARKED (R418). -/
def disRequest (s0 : State) (src : Nat) : State × Nat :=
  let s := s0.on (s0.wdAxis 0 || s0.wdAxis 1) (·.unparkBegin 3)
  if s.disRunning then (s.on (src == 3) fun t => (t.set BL.disSrc 3).set BL.disCancel 0, 2)
  else if !s.is BL.vblEver || s.is BL.vblStale || decide (10000 ≤ s.get BL.VDC_ACC.AGE) then ((s.disStart src).disFault 4, 3)
  else if s.is BL.storeOk 5 && s.vBelow s.vTgt then (s, 0)
  else if !s.is BL.storeOk 5 then ((s.disStart src).disFault 5, 1)
  else (s.disStart src, 1)

/-- Each island of the axis is in SAFE (4) or HELD (2) (R193, R340). -/
def islandsStopped (s : State) (a : Nat) : Bool :=
  (List.range 6).all fun k => s.get GI.STATUS.STATE (6 * a + k) == 4 || s.get GI.STATUS.STATE (6 * a + k) == 2

/-- The offered angle comes from an aligned INC or a valid ABS source (R73, R78, R340). -/
def wdAngle (s : State) (a : Nat) : Bool :=
  s.offered (s.lead a) == some 0 || s.offered (s.lead a) == some 1

/-- No safe-state cause other than DISCHARGE stands on the axis and no trip source other than BELAY is latched (R340). PU_TRIP, which every
latched trip adds (R292), is no other cause where BELAY alone is latched: R340 admits that trip (DEDUCED, log entry 45). -/
def wdAlone (s : State) (a : Nat) : Bool :=
  let c := s.get BL.CAUSE.SS_CAUSE a
  (s.get PU.TRIP_STAT.SRC a == 0 || s.get PU.TRIP_STAT.SRC a == 2 ^ 15) && c - c % 2 == 2 ^ 14

/-- The winding account lies below WD_EMAX (R340); it is kept beyond what its register shows. -/
def wdRoom (s : State) (a : Nat) : Bool := s.geti BL.eWind a < 10000 * s.wdEmax

/-- An axis qualifies for winding discharge (R340). -/
def wdQualifies (s : State) (a : Nat) : Bool :=
  s.wdAxis a && s.is BL.spdKnown a && (s.geti (spdRow a)).natAbs < s.holdWmax a && s.wdAngle a
    && s.wdAlone a && s.islandsStopped a && !s.is BL.repReq a && s.wdRoom a

/-- One axis starts its winding discharge (R340): BELAY falls and its trip bit clears, RUN on the line, RELEASE to the
islands, and the pipeline, with its engines, in CARRIER without an ENABLE or a catch. -/
def wdStart1 (s : State) (a : Nat) : State :=
  let s1 := ((s.set BL.wind 1 a).tripIn a 15 false).setBit PU.TRIP_STAT.SRC 15 false a
  let s2 := (s1.setb PU.TRIP_STAT.TRIPPED (s1.is PU.TRIP_STAT.SRC a) a).setb PU.STATUS.TRIPPED (s1.is PU.TRIP_STAT.SRC a) a
  let s3 := (chRuns (s.axisCh a)).foldl (fun t e => t.set CE.CTL.RUN 1 e) (s2.forN 6 fun k t => t.gateWrite (6 * a + k) 0x1C0 1)
  ((s3.set OB.INJ_STAT.INJ_ACTIVE 0 a).setMode a 2).detach a false

/-- The axes that qualify take over (R340). -/
def wdStart (s : State) : State :=
  let q (a : Nat) := s.wdQualifies a
  let mask := ofBool (q 0) + 2 * ofBool (q 1)
  let s1 := ((s.on (q 0) (·.wdStart1 0)).on (q 1) (·.wdStart1 1)).lines
  (s1.set BL.DIS_STAT.STATE 3).safetyLog 5 0x0219 mask 1

/-- Some axis qualifies. -/
def wdAny (s : State) : Bool := s.wdQualifies 0 || s.wdQualifies 1

/-- E_step of R338 for a step of `t` ms, in 0.01 J: ½ · C_LINK · V² · (1 − e^(−2t / (R_DIS · C_LINK))), with the exponential taken far
below the unit of the result, whose rounding is open (log entry 8). -/
def eStep (s : State) (t : Nat) : Nat :=
  quotN (s.cLink * s.vLink * s.vLink * (2 ^ 64 - expNeg (20000 * t) (s.rDis * s.cLink))) (2 * 1000000 * 2 ^ 30 * 2 ^ 64)

/-- The prediction T_R + E_step / C_TH does not exceed T_RMAX (R338); `tr` is T_R in 0.1 °C. -/
def stepFits (s : State) (tr t : Nat) : Bool := tr * s.cTh + 10 * s.eStep t ≤ 10 * s.tRmax * s.cTh

/-- The longest step from 1 ms up to `n` that the prediction allows, 0 when none does (R338 path 2). -/
def longestStep (s : State) (tr : Nat) : Nat → Nat
  | 0 => 0
  | n + 1 => if s.stepFits tr (n + 1) then n + 1 else s.longestStep tr n

/-- A step of `t` ms begins for the ledger (R343). -/
def stepBegin (s : State) (t : Nat) : State :=
  (((s.set BL.stepOpen 1).set BL.stepMs t).set BL.stepE0 s.eLink).set BL.stepBook 0

/-- A step is issued (R333, R338); one issued while another is in progress follows it, or replaces the one that waits. -/
def issueStep (s : State) (t : Nat) : State :=
  let s1 := ((s.dliCommand 1 t).incSat BL.DIS_STAT.STEPS).set BL.DIS_STAT.STATE 1
  if s1.is BL.stepOpen then s1.set BL.stepNext t else s1.stepBegin t

end State

/-- DISCHARGE request (R264, R336): byte 0 = 1; other values but 0 are RANGE, and STATE while CH5 is disabled. -/
def execRingDischarge (net : Bool) (s : State) : Out :=
  .next (match s.command net 0x12 with
    | none => s
    | some b =>
      if b % 256 = 0 then s
      else if !s.is ACT.chEn 5 then s.commandDone net .state 0
      else if b % 256 ≠ 1 then s.commandDone net .range 0
      else
        let (t, r) := s.disRequest (if net then 2 else 1)
        t.commandDone net .ok r)

/-- DISCHARGE_CANCEL (R337): byte 0 = 0; an abseil started by HVIL cannot be cancelled; the step in progress runs out. -/
def execDischargeCancel (net : Bool) (s : State) : Out :=
  .next (match s.command net 0x12 with
    | none => s
    | some b =>
      if b % 256 ≠ 0 then s
      else if !s.is ACT.chEn 5 then s.commandDone net .state 0
      else if !s.disRunning then s.commandOver net .ok
      else if s.get BL.disSrc = 3 then s.commandDone net .state 0
      else (if s.is BL.stepOpen then s.set BL.disCancel 1 else s.disCancelled).commandOver net .ok)

/-- HVIL_FAULT (R300): a fault state held for HVIL_FLT sets HVIL_OPEN; the safe state with HVIL_SS, a discharge request
with HVIL_DIS; with HVIL_EN clear HVIL is ignored. -/
def execHvilFault (kind : Nat) (s : State) : Out :=
  .next (if s.gov BL.HVIL_CFG.HVIL_EN 11 2 = 0 || s.is BL.STATUS.HVIL_OPEN then s
    else
      let s1 := (s.set BL.STATUS.HVIL_OPEN 1).safetyLog 0 0x020A kind 0
      let s2 := s1.forN 2 fun a t => t.on (t.gov BL.HVIL_CFG.HVIL_SS 11 a != 0) (·.unsafeAxis a .hvil)
      if s2.gov BL.HVIL_CFG.HVIL_DIS 11 2 != 0 then (s2.disRequest 3).1 else s2)

/-- DLI_DOWNLINK (R333): one frame every 1 µs, IDLE or the command that waits, while the endpoint in PD2 is powered and out of reset. The OVB piton forces the comparator, the
LINK piton makes the DLI discard 20 frames from one sent during a step (R347). -/
def execDliDownlink (s : State) : Out :=
  let k := s.get DLI.cmdKind
  let s0 := s.on (s.pit 0x21 1 0) fun t => (t.pitAct.set DLI.bcast 1).set DLI.STATUS.OVB 1
  let s1 := s0.on (s0.pit 0x21 2 0 && s0.is DLI.stepLen) fun t => t.pitAct.set DLI.linkPit 20
  .next (if !s.getBit SYS.PWR_STAT.PD_ON 2 || s.get SYS.rstPhase == 3 then s
    else if s1.is DLI.linkPit then
      (((s1.set DLI.linkPit (s1.get DLI.linkPit - 1)).incSat DLI.LINK.DL_BAD).set DLI.cmdKind 0).set DLI.cmdLen 0
    else (((s1.set DLI.cmdKind 0).set DLI.cmdLen 0).set DLI.dlT s1.now).send (.dliFrame k (s1.get DLI.cmdLen)))

/-- DIS_G follows the DLI's running step, and the frame reports it. -/
def State.disG (s : State) : State := s.setb DLI.STATUS.DIS_ON (s.is DLI.stepLen)

/-- DIS_STEP (R333): DIS_G rises for the length; a step that arrives during another is queued, replacing a queued one. -/
def execDisStep (len : Nat) (s : State) : Out :=
  .next (if !s.is DLI.powered then s
    else if s.is DLI.stepLen then s.set DLI.stepQ len
    else ((s.set DLI.stepLen len).set DLI.stepT s.now).disG)

/-- DIS_STEP_END (R333): the length runs out: the queued step starts without a gap, or DIS_G falls. -/
def execDisStepEnd (s : State) : Out :=
  let e := s.get DLI.stepT + 400000 * s.get DLI.stepLen
  .next (if !s.is DLI.stepLen || decide (s.now < e) then s
    else (((s.set DLI.stepLen (s.get DLI.stepQ)).set DLI.stepQ 0).set DLI.stepT e).disG)

/-- DIS_END (R333): the running step ends at once and a queued one is dropped. -/
def execDisEnd (s : State) : Out := .next ((s.set DLI.stepLen 0).set DLI.stepQ 0).disG

/-- DLI_LINK_LOSS (R333): 10 µs without a valid frame: the same, by the DLI on its own; provoked by DLI.LINK.PIT during an
abseil, it is found as DIS_FAULT kind DLI (R347). -/
def execDliLinkLoss (s : State) : Out :=
  let s1 := ((s.set DLI.stepLen 0).set DLI.stepQ 0).disG
  .next (if s.now < s.get DLI.dlT + 4000 then s else if s.is DLI.linkPit && s.disRunning then s1.disFault 4 else s1)

/-- DLI_POWER_LOSS (R333): below 40 V DIS_G is off and no frame comes. -/
def execDliPowerLoss (s : State) : Out :=
  .next (((((((s.set DLI.powered 0).set DLI.stuck 0).set DLI.stepLen 0).set DLI.stepQ 0).disG).set DLI.STATUS.POWERED 0).set DLI.bcast 0)

/-- STUCK_OFF (R334, R339): ends the abseil unless an axis takes over in its windings. -/
def execStuckOff (s : State) : Out :=
  let s1 := (s.set DLI.STATUS.STUCK_OFF 1).setBit DLI.stuck 0 true
  .next (if !s1.disRunning then s1
    else if s1.get BL.DIS_STAT.STATE = 3 then s1.dliEnd
    else if s1.wdAny then s1.dliEnd.wdStart
    else s1.disFault 2)

/-- STUCK_ON (R334, R339): reported and booked; DIS_FAULT is raised, and ends an abseil that runs; outside an abseil it is
raised once while the status stands. -/
def execStuckOn (s : State) : Out :=
  let s1 := (s.set DLI.STATUS.STUCK_ON 1).setBit DLI.stuck 1 true
  .next (if s1.disRunning then s1.disFault 3
    else if s.is DLI.STATUS.STUCK_ON then s1 else s1.safetyLog 5 0x021C 3 s1.vReport)

/-- BROADCAST_ASSERT (R335): reported as OVB in every DLI frame. -/
def execBroadcastAssert (s : State) : Out := .next ((s.set DLI.bcast 1).set DLI.STATUS.OVB 1)

/-- BROADCAST_DEASSERT (R335). -/
def execBroadcastDeassert (s : State) : Out := .next ((s.set DLI.bcast 0).set DLI.STATUS.OVB 0)

/-- ABSEIL_STEP (R338, R340): the next step is predicted without cooling credit and issued, or refused with DIS_REFUSE;
then the windings, or the longest step that fits, or waiting, in which a further refusal is not raised again. No step
while CI_LOST stands (R345) or a cancel waits. The BUDGET piton raises T_R for one prediction (R347). -/
def execAbseilStep (s : State) : Out :=
  .next (if !s.disRunning || s.get BL.DIS_STAT.STATE = 3 || s.is BL.STATUS.CI_LOST then s
    else if s.is BL.disCancel then (if s.is BL.stepOpen then s else s.disCancelled)
    else
      let p := s.pit 0x21 3 0
      let s1 := s.on p (·.pitAct)
      let tr := if p then 10 * s1.tRmax else s1.get BL.LED_RES.T_R
      if s1.stepFits tr s1.stepMsCfg then s1.issueStep s1.stepMsCfg
      else
        let s2 := s1.on (s1.get BL.DIS_STAT.STATE != 2 || p) fun t => t.safetyLog 5 0x0218 (quotN (tr * s1.cTh + 10 * s1.eStep s1.stepMsCfg) s1.cTh) (s1.eStep s1.stepMsCfg)
        if s2.wdAny then s2.wdStart
        else match s2.longestStep tr s2.stepMsCfg with
          | 0 => s2.set BL.DIS_STAT.STATE 2
          | t + 1 => s2.issueStep (t + 1))

/-- The ledger mismatch of R343 at the end of a resistor step, and the fault after two in a row (R339). Energies in
0.01 J; the DLI's own 1.5 W take 0.15 of a unit per ms. A step that waited begins; a cancel that waited ends the abseil,
and END drops what the DLI has queued (R337). -/
def State.stepJudged (s : State) : State :=
  let fall : Int := ((s.get BL.stepE0 : Int) - s.eLink) * 100 - 15 * s.get BL.stepMs
  let book : Int := s.get BL.stepBook * 100
  let bad := decide (book + 10 * 10000 < 10 * ((fall - book).natAbs : Int))
  let n := if bad then s.get BL.disMismatch + 1 else 0
  let next := s.get BL.stepNext
  let s1 := (s.set BL.disMismatch n).set BL.stepOpen (if next = 0 then 0 else 1)
  if 2 ≤ n && s1.disRunning then s1.disFault 1
  else if s1.disRunning && s1.is BL.disCancel then (s1.on (next != 0) (·.dliCommand 2 0)).disCancelled
  else if next = 0 then s1
  else (s1.stepBegin next).set BL.stepNext 0

/-- The switch conducts for the ledger: commanded on, or stuck on (R334, R342). -/
def State.disConducts (s : State) : Bool := s.is DLI.STATUS.DIS_ON || s.getBit DLI.stuck 1

/-- The resistor's temperature after one update of the thermal model over `ms` (R342): dT/dt = (P − (T_R − T_AMB) / R_TH) / C_TH as one
step at the power of its start, on a temperature kept in µK; how finely it is kept and integrated is not stated (log entry 8). -/
def State.resistorHeat (s : State) (ms : Nat) : State :=
  let p : Int := if s.disConducts then quot (1000000 * s.vLink * s.vLink) (10737418240 * s.rDis) else 0
  let dt : Int := s.get BL.tRes - 1000000 * s.tAmb
  let s1 := s.set BL.tRes (max (0 : Int) (s.get BL.tRes + quot (ms * 100 * (p * s.rTh - 100 * dt)) (1000 * s.cTh * s.rTh))).toNat
  s1.set BL.LED_RES.T_R (min (quotN (s1.get BL.tRes) 100000) 0xFFFF)

/-- The link energy of one update that goes to an axis's windings, in 0.1 mJ (R342): the fall of E_LINK less the DLI's 1.5 W, between two
axes in proportion to the sums of the squares of their IHA currents, axis B's share being the rest; between two axes without current any part
is axis A's. -/
def State.windShare (s : State) (a : Nat) : Int :=
  let fall : Int := (s.get BL.eLast : Int) - s.eLinkFine - 15
  let q (k : Nat) : Int := s.get BL.ihaSq k
  let first := if q 0 + q 1 = 0 then (Config.free 342 [fall, s.now] % (fall.natAbs + 1) : Nat) * fall.sign else quot (fall * q 0) (q 0 + q 1)
  if s.is BL.wind 0 && s.is BL.wind 1 then (if a = 0 then first else fall - first) else fall

/-- The booking of one ledger update (R342): E_LINK, the resistor's ∫ V_BL² / R_DIS dt and the winding shares by their formulas, of which
only the rounding is open; the converters' input current, of the GATE account, is measured and given by no command, so what an update adds is free. -/
def State.ledgerBook (s : State) : State :=
  let dRes := if s.disConducts then quotN (s.vLink * s.vLink) (107374182400 * s.rDis) else 0
  let s1 := ((s.resistorHeat 1).set BL.LED_LINK.E_LINK (min s.eLink 0xFFFF)).set BL.eLast s.eLinkFine
  let s2 := (s1.set BL.stepBook (s1.get BL.stepBook + dRes)).set BL.disE (min (s1.get BL.disE + dRes) 0xFFFFFFFF)
  let s3 := s2.set BL.LED_RES.E_RES (min (quotN (s2.get BL.disE) 10) 0xFFFF)
  let s4 := s3.forN 2 fun a t => (t.on (t.is BL.wind a) fun u =>
    let v := u.seti BL.eWind (u.geti BL.eWind a + s.windShare a) a
    v.set BL.LED_WIND.E_WIND (min (quotN (v.geti BL.eWind a).toNat 1000) 0xFFFF) a).set BL.ihaSq 0 a
  s4.on (s4.is BL.wind 0 || s4.is BL.wind 1) fun t =>
    let u := t.set BL.eGate (min (t.get BL.eGate + Config.free 342 [5, t.get BL.eGate, t.now]) (2 ^ 40 - 1))
    u.set BL.LED_GATE.E_GATE (min (quotN (u.get BL.eGate) 1000) 0xFFFF)

/-- An axis in winding discharge has reached its account or no longer meets a condition of R340 (R341). -/
def State.wdOver (s : State) (a : Nat) : Bool :=
  s.is BL.wind a && (!s.wdAngle a || !s.wdRoom a || !s.is BL.spdKnown a
    || s.holdWmax a ≤ (s.geti (State.spdRow a)).natAbs || !s.wdAlone a || s.is PU.TRIP_STAT.TRIPPED a || s.is BL.repReq a)

/-- LEDGER_UPDATE (R342): every 1 ms the accounts are booked; T_RUN counts from the request, and compliance is recorded at
the first update at which V_BL < 60 V or E_LINK < 0.2 J (R339); a step that has ended is judged (R343); a winding
discharge ends by R341, and with the last one the abseil goes on with resistor steps. In STANDBY only the thermal model runs,
every 10 ms. -/
def execLedgerUpdate (stepEnd : Bool) (s : State) : Out :=
  let s1 := s.ledgerBook
  let s2 := s1.on (s1.is BL.DIS_STAT.STATE) fun t =>
    let t1 := t.incSat BL.DIS_TIME.T_RUN
    t1.on (t1.get BL.DIS_TIME.T_SAFE == 0xFFFF && (t1.vBelow 600 || t1.eLink < 20)) fun u =>
      u.set BL.DIS_TIME.T_SAFE (u.get BL.DIS_TIME.T_RUN)
  let s3 := if stepEnd && s2.is BL.stepOpen then s2.stepJudged else s2
  let s4 := s3.wdStop (ofBool (s3.wdOver 0) + 2 * ofBool (s3.wdOver 1))
  .next (if s.is SYS.lowState then s.on (s.get SYS.lowState == 1) (·.resistorHeat 10)
    else if s3.get BL.DIS_STAT.STATE ≠ 3 then s3
    else if s3.vBelow s3.vTgt then s3.disDone
    else s4.on (!s4.is BL.wind 0 && !s4.is BL.wind 1) (·.set BL.DIS_STAT.STATE 1))

/-- DIS_MISS (R339): T_DEADLINE passes without compliance; raised once, the abseil continues. -/
def execDisMiss (s : State) : Out :=
  .next (if s.disRunning && s.get BL.DIS_TIME.T_SAFE == 0xFFFF && s.tDeadline ≤ s.get BL.DIS_TIME.T_RUN
      && !s.is BL.DIS_STAT.MISS then
      (s.set BL.DIS_STAT.MISS 1).safetyLog 5 0x021B s.tDeadline s.vReport
    else s)

/-- DLI_PIT_ARM (R347): LOCK locks PIT_CTL. -/
def execDliPitArm (sel : BitVec 4) (s : State) : Out :=
  .next (if !s.pdOn 2 then s else if s.is DLI.CTL.LOCK then s.accessRefused (DLI.PIT_CTL.ARM.addr 0 0) (2 ^ 31 + sel.toNat) else s.pitArm (s.set DLI.PIT_CTL.SEL sel.toNat) DLI.PIT_CTL.ARM 0 0x21 sel.toNat 0 (2 ^ 31 + sel.toNat)
    (1 ≤ sel.toNat ∧ sel.toNat ≤ 3))

/-- BL_VDC_SAMPLE (R280, R339): a forwarded sample that passed its CRC and sequence is V_BL; the first one below V_TGT
ends an abseil and its running step at once. -/
def execBlVdcSample (v : BitVec 16) (s : State) : Out :=
  let s1 := (((s.set BL.VDC_ACC.V_BL v.toNat).set BL.VDC_ACC.AGE 0).set BL.vblEver 1).set BL.vblStale 0
  .next (if s1.disRunning && s1.vBelow s1.vTgt then s1.disDone else s1)

/-- VDC_FALLBACK (R280, R339): no sample accepted for 10 ms after one was: V_BL is VDC_MIN of the axis's section or idle
set, and an abseil ends with DIS_FAULT kind DLI. -/
def execVdcFallback (s : State) : Out :=
  .next (if s.is BL.vblEver && !s.is BL.vblStale && decide (10000 ≤ s.get BL.VDC_ACC.AGE) then
      let s1 := (s.set BL.VDC_ACC.V_BL (s.vdcMin 0)).set BL.vblStale 1
      if s1.disRunning then s1.disFault 4 else s1
    else s)

end Sys2Proof.Machine
end

