-- ==== Sys2Proof/Machine/Act.lean ====
section
/-!
DEFINITION. The context table's commands (10) and the channel commands of ring 0 and ring 1 that use it (11): REFRESH, SAVE,
VERIFY, ENABLE and DISABLE. Loads run one at a time, channel by channel from the lowest; a request that finds a load in
progress waits in its ring or in CMD. A request whose loads have passed waits beside them for its completion, by its source, so that another load
may follow (R246). The order of R244 is fetch, CRC, bind, range.
-/
namespace Sys2Proof.Machine
namespace State

/-- Put a word into the RWL fields of a register (R241): also while LOCK is set. -/
def loadReg (s : State) (addr word : Nat) : State :=
  (imageFields addr).foldl (fun t f => t.set f.1 (f.1.cut word) f.2.1 f.2.2) s

/-- PER and DBL_UPD of a traction PU follow SQ CAR_CFG (R140, R145). -/
def carCopy (s : State) (a : Nat) : State :=
  (s.set PU.PER.PER (perOf (s.get SQ.CAR_CFG.F_CAR a)) a).set PU.CTL.DBL_UPD (s.get SQ.CAR_CFG.DBL_UPD a) a

/-- A word of an entry in a row. -/
def entW (s : State) (r : Row) (ch off : Nat) : Nat := s.get r ch (off / 4)

/-- The safety section of an entry goes to the Belay island's copy (R243). -/
def takeSafety (s : State) (r : Row) (ch : Nat) : State :=
  (s.forN 48 fun k t => t.set BL.sec (s.get r ch (16 + k)) ch k).set BL.secOk 1 ch

/-- The coefficient section (R177, R182): into the bank in force while the axis is not running, else into the inactive bank,
which the next period start takes. Direct writes that wait still wait (R176). Only a traction entry has the section. -/
def takeCoef (s : State) (r : Row) (ch : Nat) (running : Bool) : State :=
  if !isTraction ch || !bit (s.entW r ch 0x00C) 2 then s
  else
    (chEngines ch).foldl (fun t e =>
      let t1 := t.forN 256 fun k u =>
        let w := s.entW r ch (0x200 + 4 * (k / 2)) / 65536 ^ (k % 2) % 65536
        if running then u.set CE.coefRef w e k else u.set CE.COEF_WIN.WORD w e k
      if running then t1.set CE.COEF_CTL.PEND 1 e
      else (t1.set CE.COEF_CTL.PEND 0 e).set CE.COEF_CTL.BANK (1 - t1.get CE.COEF_CTL.BANK e) e) s

/-- The images, machine parameters and handles of an entry go into force (R240, R242). -/
def takeImages (s : State) (r : Row) (ch src : Nat) : State :=
  let s1 := (images ch).foldl (fun t p => p.2.foldl (fun u a => u.loadReg a (s.entW r ch p.1)) t) s
  if isTraction ch then
    let a := chAx ch
    let s2 := s1.forN 4 fun k t => t.set OB.mach (s.entW r ch (0x100 + 4 * k)) a k
    let s3 := s2.forN 3 fun k t => t.set OB.handle (s.entW r ch (0x1C0 + 4 * k)) a k
    let h (k : Nat) : Nat := s.entW r ch 0x1C0 / 256 ^ k % 256
    let s4 := (((s3.setb OB.MAP_SEL.FLUX_MAP (h 0 != 0) a).setb OB.MAP_SEL.FLUX_MAP_Q (h 1 != 0) a).setb OB.MAP_SEL.MTPA
      (h 2 != 0) a).setb OB.MAP_SEL.MTPV (h 3 != 0) a
    let ff (n : Nat) : Nat := if n < 2 then s.entW r ch 0x1C4 / 256 ^ (2 + n) % 256 else s.entW r ch 0x1C8 / 256 ^ (n - 2) % 256
    let s5 := (chEngines ch).foldl (fun t e => t.forN 4 fun n u => u.set CE.FF_CFG.HANDLE (ff n) e n) s4
    let en := s.entW r ch 0x048 / 2 ^ 24 % 4
    let m := s5.get POS.CTL.SRC_EN
    let s6 := s5.set POS.CTL.SRC_EN (if ch = 7 then en + 4 * src else if ch = 0 then en + m / 4 * 4 else m % 4 + 4 * en)
    (chAxes ch).foldl (fun t x => (if ch = 7 && x = 1 then t else t.carCopy x)) s6
  else if ch < 5 then s1.forN 4 fun k t => t.set AX.mach (s.entW r ch (0x100 + 4 * k)) (ch - 2) k
  else s1

/-- The part of an entry beside its registers: the cache, VERSION, IN_FORCE, CACHED, OV_HW for CH5 (R344), the stored
sections of CH5 and CH6 (R264); a HOLD that waits for a CH6 section is driven. -/
def takeRest (s : State) (r : Row) (ch : Nat) : State :=
  let s1 := (s.forN 256 fun k t => t.set ACT.ent (s.get r ch k) ch k).set ACT.CH_VER.VERSION (s.entW r ch 0x004) ch
  let s2 := (s1.setBit ACT.STAT.IN_FORCE ch true).setBit ACT.STAT.CACHED ch true
  let s3 := s2.on (ch == 5) (·.set DLI.OV_CFG.OV_HW (s.entW r ch 0x054 % 65536))
  (s3.on (ch == 5 || ch == 6) (·.set BL.storeOk 1 ch)).on (ch == 6) (·.holdTryDrive)

/-- An entry goes into force whole (R245). -/
def entryInForce (s : State) (r : Row) (ch src : Nat) (running : Bool) : State :=
  ((((s.takeSafety r ch).takeImages r ch src).takeCoef r ch running).takeRest r ch).set ACT.entSrc src

/-- The event ENTRY of an entry put in force (R245, R270). -/
def entryEvent (s : State) (ch : Nat) : State := s.event .info ch 0x03 0x0005 ch (s.get ACT.CH_VER.VERSION ch)

/-- The candidate goes into force by way of the staging buffer; what stood there is superseded (R246), and the event ENTRY is raised (R270). -/
def candInForce (s : State) (ch src : Nat) : State :=
  let s1 := (s.on (s.getBit ACT.STAT.PEND ch) (·.incSat ACT.CNT.DISCARD)).setBit ACT.STAT.PEND ch false
  ((s1.forN 256 fun k t => t.set ACT.stg (s.get ACT.cand 0 k) ch k).entryInForce ACT.stg ch src false).entryEvent ch

/-! Jobs -/

/-- ERR of a channel with its event (R243 to R245, R270): a bind failure is a fault, the others a warning; the class of the
latter is not stated (log entry 21). -/
def errEvent (s : State) (cls : EvClass) (ch : Nat) : State :=
  s.event cls ch 0x03 0x0005 ch (s.get ACT.ERR.FETCH * 2 ^ 24 + s.get ACT.ERR.RANGE * 65536 + s.get ACT.ERR.BIND * 256
    + s.get ACT.ERR.CRC)

/-- A request completes: of CMD, ring 0, ring 1 or the network, or of nobody any more (R251); `fail` is 1 + the status of its first channel refused. -/
def requestDone (s : State) (src op fail done : Nat) : State :=
  let code : Status :=
    match fail with
    | 4 => .range
    | 5 => .refused
    | 7 => .busy
    | 8 => .notEnabled
    | 9 => .state
    | 11 => .dmaErr
    | _ => .ok
  match src with
  | 0 => s.set ACT.CMD.GO 0
  | 1 => s.complete 0 code (if op = 1 || op = 3 then done else 0)
  | 2 => s.commandOver false code
  | 3 => s.commandOver true code
  | _ => s

/-- No load runs any more. -/
def jobClear (s : State) : State := ((s.set ACT.job 0).set ACT.jobStep 0).set ACT.STAT.BUSY 0

/-- The job ends and its request completes. -/
def jobFinish (s : State) : State := s.jobClear.requestDone (s.get ACT.jobSrc) (s.get ACT.job) (s.get ACT.jobFail) (s.get ACT.jobDone)

/-- The job ends, and its request waits for the channels that have passed. -/
def jobPark (s : State) : State :=
  let k := s.get ACT.jobSrc
  if k = 4 && s.get ACT.job != 4 then s.jobClear
  else
    let s1 := (s.set ACT.wOp (s.get ACT.job) k).set ACT.wMask (s.get ACT.wMask k ||| s.get ACT.jobWait) k
    ((s1.set ACT.wFail (s.get ACT.jobFail) k).set ACT.wDone (s.get ACT.jobDone) k).jobClear

/-- A request that waits has a channel refused: of its statuses the first is kept. -/
def waitRefuse (s : State) (k : Nat) (st : Status) : State := s.on (!s.is ACT.wFail k) (·.set ACT.wFail (st.code + 1) k)

/-- The lowest channel of a mask. -/
def lowest (m : Nat) : Option Nat := (List.range 8).find? fun k => bit m k

/-- The status of the first refused channel is kept (R263). -/
def jobRefuse (s : State) (st : Status) : State := s.on (!s.is ACT.jobFail) (·.set ACT.jobFail (st.code + 1))

/-- Every domain that serves the channel is on, and no BIST of one of them runs (R412, R468). -/
def domainsOn (s : State) (ch : Nat) : Bool :=
  (chDomains ch).all fun d => s.getBit SYS.PWR_STAT.PD_ON d && !(s.is BIST.STAT.BUSY && s.get BIST.CMD.DOMAIN == d)

/-- No memory that serves the channel is left unrepaired (R457, R463): 1 the calibration RAM, 3 and 4 the engine memories of
axis A and B, 5 of AX. -/
def memOk (s : State) (ch : Nat) : Bool :=
  let u (k : Nat) := s.getBit MEM.REPAIR.UNREP k
  if isTraction ch then !u 1 && (chAxes ch).all fun a => !u (3 + a) else ch ≥ 5 || !u 5

/-- ENABLE before the fetch: STATE while the module is not ready, a life-cycle transition is recorded, the module is RETIRED,
parked or leaving RUN, a domain is off, an abseil runs, the PU is tripped, a rope pair is faulted, a safe-state cause is
still present, bivouac time has expired, or the channel does not fit the mode (R158, R242, R285, R293, R296, R345, R380,
R382, R412, R417, R451, R463). -/
def enablePre (s : State) (ch : Nat) : Bool :=
  s.is SYS.RST_STAT.READY && !s.is SEC.LC_STAT.LC_PEND && s.get SEC.LC_STAT.STATE != 4 && !s.is SYS.PWR_STAT.STATE
    && s.domainsOn ch && !s.disRunning && s.memOk ch
    && (if isTraction ch then
          (chAxes ch).all (fun a => !s.is PU.TRIP_STAT.TRIPPED a && !s.causePresent a && !s.is BL.AXIS.BIV_EXPIRED a
              && !s.is CE.RP_STAT.RP_FAULT (2 * a))
            && (if ch = 7 then !s.is ACT.chEn 0 && !s.is ACT.chEn 1 else !s.is ACT.chEn 7)
        else if ch < 5 then !s.is PU.TRIP_STAT.TRIPPED ch
        else true)

/-- The calibration image must be loaded before the fetch (R393): the first ENABLE of a traction channel after boot, or with
PEND or TBL_LOCK set; never while a traction channel is enabled. Without an image in force there is nothing to load. -/
def calNeeded (s : State) (ch : Nat) : Bool :=
  isTraction ch && s.is SEC.CAL_STAT.IN_FORCE && s.is SEC.CAL_STAT.KEY_OK
    && (!s.is SEC.CAL_STAT.LOADED || s.is SEC.CAL_STAT.PEND || s.is SEC.CAL_STAT.TBL_LOCK)
    && !s.is ACT.chEn 0 && !s.is ACT.chEn 1 && !s.is ACT.chEn 7

/-- EN of an entry of the MRAM image. -/
def imageEn (s : State) (ch : Nat) : Bool := bit (s.get ACT.img (s.get ACT.IMG_STAT.COPY) (256 * ch + 3)) 0

/-- The entry of the MRAM image does not admit the ENABLE of a channel, which is known without a fetch (R242, R244): EN is clear, or CH7's
stands for CH0 and CH1. -/
def imageBars (s : State) (ch : Nat) : Bool :=
  s.is ACT.CTL.SRC && s.is ACT.IMG_STAT.IMG_VALID && (!s.imageEn ch || (decide (ch < 2) && s.imageEn 7))

/-- One channel of the mask is taken up: skipped, refused, or its fetch starts. -/
def jobTake (s : State) (ch : Nat) : State :=
  let t := ((s.set ACT.jobMask (s.get ACT.jobMask - 2 ^ ch)).set ACT.jobCh ch).on (s.get ACT.job == 4) (·.set ACT.vdcUnknown 0 ch)
  match t.get ACT.job with
  | 4 =>
    if t.is ACT.chEn ch && !(isTraction ch && t.get SQ.STATUS.MODE (chAx ch) == 7) && !t.disRunning then t
    else if !t.enablePre ch || t.imageBars ch then t.jobRefuse .state
    else if t.calNeeded ch then
      ((t.set ACT.jobStep 3).set ACT.STAT.BUSY 1).on (!t.is SEC.CAL_STAT.ZEROING) (·.set SEC.CAL_STAT.ZEROING 1)
    else (t.set ACT.jobStep 1).set ACT.STAT.BUSY 1
  | 1 => if t.is ACT.chEn ch then (t.set ACT.jobStep 1).set ACT.STAT.BUSY 1 else t.jobRefuse .notEnabled
  | _ => (t.set ACT.jobStep 1).set ACT.STAT.BUSY 1

/-- The next channels of the mask until a fetch starts; at the end of the mask the job ends, and its request waits where channels are awaited. -/
def jobNext : Nat → State → State
  | 0, s => s
  | n + 1, s =>
    if !s.is ACT.job then s
    else
      match lowest (s.get ACT.jobMask) with
      | none => if s.is ACT.jobWait then s.jobPark else s.jobFinish
      | some ch =>
        let t := (s.set ACT.jobStep 0).jobTake ch
        if t.is ACT.jobStep then t else jobNext n t

/-- The job goes on with its next channel. -/
def jobGo (s : State) : State := jobNext 9 (s.set ACT.jobStep 0)

/-- A job starts. -/
def jobStart (s : State) (op src mask : Nat) : State :=
  (((((s.set ACT.job op).set ACT.jobSrc src).set ACT.jobMask mask).set ACT.jobDone 0).set ACT.jobFail 0 |>.set ACT.jobWait 0).jobGo

/-- A BLK reset of ACT takes its cache and the staged entries (R236, R248): a SAVE has failed, the channels of a load not yet taken and those
whose entry was staged are refused with STATE, those already enabled are still awaited. A request of CMD, whose GO the reset clears, is dropped. -/
def actAbort (s : State) : State :=
  let s0 := s.set ACT.wMask 0 0
  let s1 := s0.on (s0.is ACT.wMask 1 && s0.get ACT.wOp 1 == 1) fun t =>
    (t.set ACT.wMask 0 1).requestDone 1 1 (if t.is ACT.wFail 1 then t.get ACT.wFail 1 else Status.state.code + 1) 0
  if !s1.is ACT.job then s1
  else
    let op := s1.get ACT.job
    let t := s1.jobRefuse .state
    let u := ((t.on (op == 2) (·.set ACT.ERR_LOC.IMG_FAIL 1)).set ACT.jobMask 0).set ACT.jobStep 0
    if op = 4 && u.is ACT.jobWait then u.jobPark else u.jobFinish

/-- A check of the current channel fails: its ERR bit and event; the job goes on (R245, R263). -/
def jobErr (s : State) (err : Row) (cls : EvClass) (st : Status) : State :=
  let ch := s.get ACT.jobCh
  (((s.setBit err ch true).errEvent cls ch).on (s.get ACT.job != 3) (·.jobRefuse st)).jobGo

/-- A range failure with its place in ERR_LOC (R241); only the first is kept. -/
def jobRange (s : State) (off : Nat) : State :=
  let ch := s.get ACT.jobCh
  (s.on (!s.is ACT.ERR.RANGE) fun t => (t.set ACT.ERR_LOC.CH ch).set ACT.ERR_LOC.OFS off).jobErr ACT.ERR.RANGE .warning .range

end State

/-- A SAVE starts (R236). -/
def State.saveStart (s : State) (src : Nat) : State :=
  ((((s.set ACT.job 2).set ACT.jobSrc src).set ACT.jobFail 0).set ACT.jobWait 0).set ACT.STAT.BUSY 1

/-- OP of CMD starts, or waits for the load in progress to end (R245). -/
def State.cmdStart (s : State) : State :=
  if s.is ACT.job then s.set ACT.cmdWait 1
  else
    let t := s.set ACT.cmdWait 0
    if t.get ACT.CMD.OP = 2 then t.saveStart 0 else t.jobStart (t.get ACT.CMD.OP) 0 (t.get ACT.CMD.CH_MASK)

/-- An ENABLE is loading one of the channels of a mask (R246). -/
def State.enableLoads (s : State) (mask : Nat) : Bool := s.get ACT.job == 4 && s.is ACT.jobStep && bit mask (s.get ACT.jobCh)

/-- ACT_REFRESH (R245, R246): CMD with OP REFRESH. For a channel that an ENABLE is loading it completes at once and has no effect. A GO while
one stands is ignored. -/
def execActRefresh (mask : BitVec 8) (s : State) : Out :=
  let t := (s.set ACT.CMD.OP 1).set ACT.CMD.CH_MASK mask.toNat
  .next (if !s.pdOn 2 then s else if s.is ACT.CMD.GO then s else if s.enableLoads mask.toNat then t else (t.set ACT.CMD.GO 1).cmdStart)

/-- ACT_VERIFY (R244): fetch and check without staging. -/
def execActVerify (mask : BitVec 8) (s : State) : Out :=
  .next (if !s.pdOn 2 then s else if s.is ACT.CMD.GO then s else (((s.set ACT.CMD.GO 1).set ACT.CMD.OP 3).set ACT.CMD.CH_MASK mask.toNat).cmdStart)

/-- A role has ACT write access (R387): CALIBRATOR or INTEGRATOR; VENDOR in MANUFACTURE. -/
def State.actWrite (s : State) (r : Nat) : Bool :=
  match s.get SEC.LC_STAT.STATE with
  | 0 => r == 1 || r == 2 || r == 3
  | _ => r == 2 || r == 3

/-- ACT_SAVE (R236, R387): from another role ignored with ACCESS_REFUSED. -/
def execActSave (s : State) : Out :=
  .next (if !s.pdOn 2 then s else if !s.actWrite s.linkRole then s.accessRefused (ACT.CMD.GO.addr 0 0) 0x80000002
    else if s.is ACT.CMD.GO then s
    else ((s.set ACT.CMD.GO 1).set ACT.CMD.OP 2).cmdStart)

/-- REFRESH on ring 0 (R262, R245, R246). -/
def execRingRefresh (s : State) : Out :=
  .next (match s.running 0 3 with
    | none => s
    | some d =>
      if s.enableLoads (d.byte 0) then s.complete 0 .busy 0
      else if s.is ACT.job then s
      else s.jobStart 1 1 (d.byte 0))

/-- VERIFY on ring 0 (R262). -/
def execRingVerify (s : State) : Out :=
  .next (match s.running 0 4 with
    | none => s
    | some d => if s.is ACT.job then s else s.jobStart 3 1 (d.byte 0))

/-- SAVE on ring 0 (R236, R262, R387). -/
def execRingSave (s : State) : Out :=
  .next (match s.running 0 5 with
    | none => s
    | some _ =>
      if !s.actWrite (s.get SEC.descRole 0) then (s.accessRefused (ACT.CMD.GO.addr 0 0) 0x80000002).complete 0 .refused 0
      else if s.is ACT.job then s
      else s.saveStart 1)

/-- SAVE_DONE (R236): the eight entries stand in the copy not in force; each CRC is checked before the copy is put in force.
A SAVE that did not complete, or a failed check, leaves the old copy and sets IMG_FAIL. -/
def execSaveDone (words : List (BitVec 32)) (complete : Bool) (s : State) : Out :=
  if s.get ACT.job ≠ 2 then .next s
  else
    let ws := words.map (·.toNat)
    let c := 1 - s.get ACT.IMG_STAT.COPY
    let s1 := s.forN 2048 fun k t => t.set ACT.img (ws.getD k 0) c k
    let good := complete && (List.range 8).all fun e =>
      let en := (ws.drop (256 * e)).take 256
      entryCrc en == en.getD 2 0
    .next ((if good then ((s1.set ACT.IMG_STAT.COPY c).set ACT.IMG_STAT.IMG_VALID 1).incSat ACT.IMG_STAT.SAVES
      else s1.set ACT.ERR_LOC.IMG_FAIL 1).jobFinish)

/-- Joined mode ends: an ENABLE of CH0 or CH1 has found CH7's EN clear (R242; DEDUCED, log entry 44). -/
def State.unjoin (s : State) : State :=
  (((s.set SQ.STATUS.JOINED 0 0).set SQ.STATUS.JOINED 0 1).set BL.STATUS.JOINED 0).lines

/-- ENTRY_FETCHED (R237, R238, R242, R244, R247): the entry from host memory, or from the copy in force with SRC 1; EN for an ENABLE, which
refuses CH0 and CH1 too where CH7 has it set; the CRC of every entry used. `words0` is CH0's entry for CH7, and CH7's for CH0 and CH1. Without
the host link nothing comes from host memory. -/
def execEntryFetched (words words0 : List (BitVec 32)) (src1 : BitVec 2) (s : State) : Out :=
  if s.get ACT.jobStep ≠ 1 then .next s
  else
    let ch := s.get ACT.jobCh
    let img (e : Nat) : List Nat := (List.range 256).map fun k => s.get ACT.img (s.get ACT.IMG_STAT.COPY) (256 * e + k)
    let mram := s.is ACT.CTL.SRC
    let ws := if mram then img ch else words.map (·.toNat)
    let ws0 := if mram then img 0 else words0.map (·.toNat)
    let src := if mram then (img 1).getD 0x12 0 / 2 ^ 24 % 4 else src1.toNat
    let crcOk (w : List Nat) : Bool := entryCrc w == w.getD 2 0
    let en (w : List Nat) : Bool := bit (w.getD 3 0) 0
    .next (if if mram then !s.is ACT.IMG_STAT.IMG_VALID else !s.is RING.linkUp then s.jobErr ACT.ERR.FETCH .warning .dmaErr
      else if s.get ACT.job = 4 && (!en ws || (decide (ch < 2) && en (if mram then img 7 else ws0))) then
        (s.errEvent .warning ch).jobRefuse .state |>.jobGo
      else if !crcOk ws || (ch == 7 && !crcOk ws0) then s.jobErr ACT.ERR.CRC .warning .range
      else (((s.on (s.get ACT.job == 4 && decide (ch < 2)) (·.unjoin)).putEntry ACT.cand 0 (State.overlay ch ws ws0)).set ACT.candSrc src).set ACT.jobStep 2)

/-- FETCH_TMO (R244). -/
def execFetchTmo (s : State) : Out :=
  .next (if s.get ACT.jobStep = 1 then s.jobErr ACT.ERR.FETCH .warning .dmaErr else s)

namespace State

/-- The current sensors' part of ENABLE (R43, R47, R51): every enabled channel valid, no channel of the axis with OFS_FAIL, and no lost
channel but a single one that is substituted with RECON_EN set. -/
def sensorsOk (s : State) (ch : Nat) : Bool :=
  (chAxes ch).all fun a =>
    ((starCh a).all fun k => (!s.getBit SEN.CTL.CH_EN k || s.chValid k) && !s.is SEN.CH_STAT.OFS_FAIL k
        && (!s.chLost k || (s.is SEN.CH_STAT.SUBST k && s.is SEN.CTL.RECON_EN)))
      && decide (((starCh a).filter fun k => s.chLost k).length ≤ 1)

/-- V_dc is known: a good sample has been received and VDC_LOST does not stand (R30, R59). -/
def vdcKnown (s : State) : Bool := s.is SEN.vdcEver && !s.is SEN.VDC_STAT.LOST

/-- Whether V_dc is inside the entry's window (R239). -/
def vdcOk (s : State) : Bool :=
  decide (s.candBits 0x058 15 0 ≤ s.get SEN.VDC_VAL.FILT)
    && decide (s.get SEN.VDC_VAL.FILT ≤ s.candBits 0x058 31 16)

/-- The sources of the entry that may give the angle without injection (R80, R120): a valid absolute word, or an aligned track; a track
alone does not do at standstill. In joined mode those of POS2 and POS3 as well. -/
def otherSource (s : State) (ch : Nat) : Bool :=
  let en (x : Nat) : Nat := if ch = 7 && x = 1 then s.get ACT.candSrc else s.candBits 0x048 25 24
  let xs := chAxes ch
  let lost (x k : Nat) : Bool := s.getBit POS.XCHK_STAT.LOST (if ch = 7 && x = 1 then k + 3 else k) (chAx ch)
  xs.any (fun x => bit (en x) 0 && s.is POS.CAP_STAT.VALID x && !s.is POS.CAP_STAT.ABS_LOST x && !lost x 0)
    || xs.any fun x => bit (en x) 1 && !s.is POS.lfAB x && s.is POS.INC_STAT.ALIGNED x && !lost x 1 && !s.is POS.INC_STAT.STILL x

/-- The checks that set SQ CFG_REJECT or TBL_REJECT (R100, R102, R120, R124, and the saliency of 05). -/
def sqChecks (s : State) (ch : Nat) : Bool × Bool :=
  let a := chAx ch
  let inj := OB.INJ_CFG.INJ_CNT.cut (s.cand 0x160)
  let cfg := s.minpHolds ch (SQ.MINP.MIN_TICKS.cut (s.cand 0x120)) && s.travHolds (s.candBits 0x048 25 24)
    && (inj != 0 || s.otherSource ch) && (salient (s.cand 0x104) (s.cand 0x108) || s.candBits 0x048 25 24 != 0)
  let tbl := (List.range (if ch = 7 then 72 else 36)).all fun i =>
    let e := s.entry a (s.get SQ.TBL_CTL.ACT_BANK a) i
    let vec := e % 64
    (ch == 7 || decide (vec ≤ 7)) && (i % 6 / 2 == 1 || (!bit e 15 && !(if ch = 7 then [0, 7, 56, 63] else [0, 7]).contains vec))
  (cfg, tbl)

/-- The engines' checks (R171, R186). -/
def ceChecks (s : State) (ch : Nat) : Bool := s.ceFits && outMapOk ch (s.cand 0x178)

/-- The islands' checks of ENABLE (R194, R200): none in OFF or UNCONF, none with PROF_CRC. States: 0 OFF, 1 UNCONF. -/
def islandsOk (s : State) (ch : Nat) : Bool :=
  (chIslands ch).all fun i => 2 ≤ s.get GI.STATUS.STATE i && !s.is GI.STATUS.PROF_CRC i

/-- The Belay configuration's zeros that refuse ENABLE (R53, and PSI_PM of 12). -/
def belayOk (s : State) (ch : Nat) : Bool :=
  (chAxes ch).all fun a => s.is BL.TM_PSI.PSI_PM a && (starCh a).all fun k => s.is BL.IHA_CFG.IHA_GAIN k

/-- The incremental track that the torque monitor reads is connected (R34): that of each axis, in joined mode POS1's, or POS3's where
CH1's entry enables it (R12), which serves a monitor then (R287, R291). -/
def trackOk (s : State) (ch : Nat) : Bool :=
  !s.is BL.lineFlt (chAx ch) || (ch == 7 && bit (s.get ACT.candSrc) 1 && !s.is BL.lineFlt 1)

/-- The Belay island at an accepted ENABLE (R281, R283, R285, R288, R294, R303, R304, R306): the section and its policy in force, the idle
set stored, RUN on the line and then CAUSE_x cleared, LAPSED cleared, the monitors' angle taken anew. -/
def belayEnable (s : State) (ch a : Nat) : State :=
  let f (off hi lo : Nat) := s.secField ch off hi lo
  let s1 := ((((s.set BL.idleOk 1 a).set BL.idleVBase (f 0x040 31 16) a).set BL.idleWBase (f 0x048 15 0) a).set BL.idlePoles
    (f 0x048 23 16) a).set BL.idleVmin (f 0x058 15 0) a
  let s2 := ((s1.set BL.idlePolicy (f 0x04C 19 16) a).set BL.AXIS.POLICY (f 0x04C 19 16) a).set BL.run 1 a
  let s3 := (((s2.govTake a).set BL.AXIS.SAFE 0 a).lines).set BL.CAUSE.SS_CAUSE 0 a
  let s4 := (((s3.set BL.AXIS.LAPSED 0 a).set BL.lapse 0 a).set BL.AXIS.ALIGN_OK 0 a).set BL.blEn (s3.get BL.blCnt a) a
    |>.set BL.winT s3.now ch
  let s5 := (s4.set BL.sideRep 0 a 0).set BL.sideRep 0 a 1
  let s6 := ((s5.set BL.tqLimit 0x7FFF a).on (s.is BL.AXIS.SAFE a && !(ch == 7 && a == 1)) (·.safetyLog a 0x0201 a 0)).forwardAngle a
  (s6.substTaken a).ssout

/-- A traction ENABLE is accepted (R103, R130, R194, R212, R264, R285): the entry in force, RUN and RELEASE to the islands,
the engines running, S = 256, an on-state sweep aborted, AUTO_OFS, the catch. -/
def enableTraction (s : State) (ch : Nat) : State :=
  let a := chAx ch
  let s0 := s.on (ch == 7) fun t => (((t.set SQ.STATUS.JOINED 1 0).set SQ.STATUS.JOINED 1 1).set BL.STATUS.JOINED 1).follow
  let s1 := s0.candInForce ch (s.get ACT.candSrc)
  let s2 := (chAxes ch).foldl (fun t x => ((t.posEnable x).belayEnable ch x).set ACT.rampN 0 ch) (s1.set ACT.chEn 1 ch)
  let s3 := (chAxes ch).foldl (fun t x => t.osdAbort x) ((chIslands ch).foldl (fun t i => t.gateRelease i) s2)
  let s4 := (chRuns ch).foldl (fun t e => t.set CE.CTL.RUN 1 e) s3
  let s5 := (s4.set SQ.BAND_VAL.S 256 a).set SQ.catchGo 0 a
  let s6 := s5.catchStart a false
  s6.on (s6.is SEN.CTL.AUTO_OFS) fun t => (chAxes ch).foldl (fun u x => u.ofsBegin x) t

/-- An ENABLE of another channel is accepted (R264). -/
def enableOther (s : State) (ch : Nat) : State :=
  (((s.candInForce ch 0).set ACT.chEn 1 ch).on (2 ≤ ch && ch < 5) fun t =>
    (((t.set AX.spEver 0 (ch - 2)).set AX.uvWait 0 (ch - 2)).set AX.spT t.now (ch - 2)).set CE.CTL.RUN 1 6)

/-- The first word of the candidate of a traction channel that fails a check of R241: MINP for R102, TRAV_SPD for the corner speed and INJ_CFG
for the source of R124, PERIOD_CFG for R171 (which word fails a check of several is DEDUCED, log entry 44). -/
def modeBad (s : State) (ch : Nat) : Option Nat :=
  if !isTraction ch then none
  else if !s.minpHolds ch (SQ.MINP.MIN_TICKS.cut (s.cand 0x120)) then some 0x120
  else if !s.travHolds 3 then some 0x13C
  else if !s.travHolds (s.candBits 0x048 25 24) then some 0x160
  else if !s.ceFits then some 0x174
  else none

/-- A word fails a check of R241: ERR.RANGE, and its place in ERR_LOC, of which only the first is kept. -/
def rangeAt (s : State) (off : Nat) : State :=
  let ch := s.get ACT.jobCh
  (s.on (!s.is ACT.ERR.RANGE) fun t => (t.set ACT.ERR_LOC.CH ch).set ACT.ERR_LOC.OFS off).setBit ACT.ERR.RANGE ch true

/-- The checks of a traction ENABLE after the bind and the ranges, with what each sets: the first failure refuses. An entry without INC (R34)
that leaves no angle source at all sets SQ's CFG_REJECT too (R124, and the saliency of 05). With AUTO_OFS the
conditions of the offset measurement that the ENABLE starts are among them (R46, R47, R135). -/
def enableChecks (s : State) (ch : Nat) : Option State :=
  let a := chAx ch
  let en := s.candBits 0x048 25 24
  if !bit en 1 then
    let off := OB.INJ_CFG.INJ_CNT.cut (s.cand 0x160) == 0
    let s1 := s.on (en == 0 && (off || !salient (s.cand 0x104) (s.cand 0x108))) (·.set SQ.CTL.CFG_REJECT 1 a)
    some ((s1.on (en == 0 && off) (·.rangeAt 0x160)).jobRefuse .range)
  else if !s.vdcKnown then some ((s.set ACT.vdcUnknown 1 ch).jobRefuse .state)
  else if !s.vdcOk || !s.trackOk ch || !s.sensorsOk ch || !s.enablePre ch then some (s.jobRefuse .state)
  else if s.is SEN.CTL.AUTO_OFS && (chAxes ch).any (fun x => !s.ofsOk x) then some ((s.set SEN.STATUS.CFG_REJECT 1).jobRefuse .state)
  else if !s.belayOk ch then some (s.jobRefuse .range)
  else if !s.islandsOk ch then some ((s.set GLK.CTL.CFG_REJECT 1).jobRefuse .state)
  else if !s.shortDelays ch then some ((s.set GLK.CTL.CFG_REJECT 1).jobRefuse .range)
  else if !(s.sqChecks ch).1 then
    some (((match (s.modeBad ch).filter (· < 0x174) with
      | some off => s.rangeAt off
      | none => s).set SQ.CTL.CFG_REJECT 1 a).jobRefuse .range)
  else if !(s.sqChecks ch).2 then some ((s.set SQ.FLAGS.TBL_REJECT 1 a).jobRefuse .range)
  else if !s.ceChecks ch then some (((s.on (!s.ceFits) (·.rangeAt 0x174)).set CE.CTL.CFG_REJECT 1 (2 * a)).jobRefuse .range)
  else none

/-- The checks of an aux ENABLE (R222, R226). -/
def auxChecks (s : State) (ch : Nat) : Bool :=
  let per := s.get PU.PER.PER ch * (2 - s.get PU.CTL.DBL_UPD ch)
  decide (s.get CE.PERIOD_CFG.OUT_PH_CAR 6 + 44 ≤ per)
    && (AX.CH_INJ.INJ_CNT.cut (s.cand 0x120) == 0 || salient (s.cand 0x104) (s.cand 0x108))

/-- Stage the candidate (R245, R246): a superseded staged entry counts in DISCARD. -/
def stage (s : State) (ch : Nat) : State :=
  let s1 := s.on (s.getBit ACT.STAT.PEND ch) (·.incSat ACT.CNT.DISCARD)
  ((s1.forN 256 fun k t => t.set ACT.stg (s.get ACT.cand 0 k) ch k).setBit ACT.STAT.PEND ch true).on (ch == 7) fun t =>
    t.set ACT.entSrc (t.get ACT.candSrc)

/-- An entry that would change I_base of a traction channel while SEN is locked (R45). -/
def baseLocked (s : State) (ch : Nat) (word : Nat) : Bool :=
  isTraction ch && s.is SEN.CTL.LOCK && word % 65536 != s.entW ACT.ent ch 0x040 % 65536

/-- The refusal of such an entry: the old one stays in force, with ERR.RANGE, its place and ACT_BASE_CHANGE. -/
def baseRefused (s : State) (ch : Nat) : State :=
  let s1 := s.on (!s.is ACT.ERR.RANGE) fun t => (t.set ACT.ERR_LOC.CH ch).set ACT.ERR_LOC.OFS 0x040
  (s1.setBit ACT.ERR.RANGE ch true).event .warning ch 0x03 0x0100 ch 0

/-- The entry has passed: an ENABLE puts it in force and is awaited, a REFRESH stages it, a VERIFY notes it. -/
def entryPass (s : State) (ch : Nat) : State :=
  let s1 := s.setBit ACT.jobDone ch true
  match s.get ACT.job with
  | 4 =>
    if isTraction ch then
      match s1.enableChecks ch with
      | some t => t.jobGo
      | none => ((s1.enableTraction ch).setBit ACT.jobWait ch true).jobGo
    else if 2 ≤ ch && ch < 5 && !s1.auxChecks ch then ((s1.set AX.CTL.CFG_REJECT 1).jobRefuse .range).jobGo
    else if !s1.enablePre ch then (s1.jobRefuse .state).jobGo
    else (s1.enableOther ch).jobGo
  | 1 =>
    if s1.baseLocked ch (s1.cand 0x040) then (((s1.setBit ACT.jobDone ch false).baseRefused ch).jobRefuse .range).jobGo
    else
      match s1.modeBad ch with
      | some off => (s1.setBit ACT.jobDone ch false).jobRange off
      | none => ((s1.stage ch).setBit ACT.jobWait ch true).jobGo
  | _ => s1.jobGo

end State

/-- BIND_CHECK (R241, R243, R244): the Belay island compares the CRC-32C of the candidate safety section with BIND, and 0
never matches; then the header and the ranges, of which a W_CORNER of 0 shows in SQ's CFG_REJECT too where an ENABLE is refused (R124); then the checks of the
operation. VERIFY forwards nothing to the Belay island. -/
def execBindCheck (s : State) : Out :=
  if s.get ACT.jobStep ≠ 2 then .next s
  else
    let ch := s.get ACT.jobCh
    let bind := s.get BL.BIND.BIND ch
    .next (if s.get ACT.job ≠ 3 && (bind = 0 || bind ≠ s.candBind) then
        ((s.incSat ACT.bindRun ch).safetyLog ch 0x0210 ch s.candBind).jobErr ACT.ERR.BIND .fault .refused
      else
        let s1 := s.on (s.get ACT.job != 3) (·.set ACT.bindRun 0 ch)
        match if State.headerBad ch (s1.entryWords ACT.cand 0) then some 0 else s1.candBad ch with
        | some off =>
          let ce := decide (0x1C0 ≤ off) || (off == 0x178 && s1.get ACT.job == 4)
          let s2 := s1.on (isTraction ch && ce) fun t => t.set CE.CTL.CFG_REJECT 1 (2 * chAx ch)
          (s2.on (isTraction ch && s.get ACT.job == 4 && off == 0x13C) fun t => t.set SQ.CTL.CFG_REJECT 1 (chAx ch)).jobRange off
        | none => s1.entryPass ch)

/-- CACHE_CHECK (R247). -/
def execCacheCheck (ch : Fin 8) (good : Bool) (s : State) : Out :=
  .next (if !good && s.getBit ACT.STAT.CACHED ch then s.raise .fault ACT.ERR_LOC.CACHE 0 0 ch else s)

/-- ENABLE (R263, R264) of the channels of the mask, from the lowest. -/
def execRingEnable (net : Bool) (s : State) : Out :=
  .next (match s.command net 0x10 with
    | none => s
    | some b => if s.is ACT.job then s else s.jobStart 4 (if net then 3 else 2) (b % 256))

namespace State

/-- A traction channel ends (R264, R278): detached, MODE IDLE, its engines stopped, its Belay line on the idle selection. The joined machine
stays joined (R242). -/
def tractionEnd (s : State) (ch : Nat) : State :=
  let s2 := (chAxes ch).foldl (fun t a => ((t.set BL.run 0 a).set PU.STATUS.DETACHED 1 a)) (s.set ACT.chEn 0 ch)
  let s3 := (chRuns ch).foldl (fun t e => t.set CE.CTL.RUN 0 e) s2
  let a := chAx ch
  let s3' := (chEngines ch).foldl (fun t e => t.set CE.COEF_CTL.PEND 0 e) s3
  let s4 := (((s3'.injStop a).catchAbort a).setMode a 0).forN 6 fun k t => t.set SQ.waitLegs 0 a k
  (s4.set ACT.rampN 0 ch).lines

/-- A channel's switches go off by SOFT_OFF and it ends (R264). -/
def traction0 (s : State) (ch : Nat) : State := ((chIslands ch).foldl (fun t i => t.gateSoftOff i 31) s).tractionEnd ch

/-- The DISABLE's request completes once no channel of it ramps or waits for HELD. -/
def disableDone (s : State) : State :=
  if s.is ACT.disSrc && !s.is ACT.disMask then
    let st : Status := match s.get ACT.disFail with
      | 9 => .state
      | _ => .ok
    let t := s.set ACT.disSrc 0
    if s.get ACT.disSrc = 1 then t else t.commandOver (s.get ACT.disSrc == 3) st
  else s

/-- DISABLE of one channel (R264, R340). -/
def disable1 (s : State) (ch : Nat) : State :=
  let drop (t : State) : State := t.setBit ACT.disMask ch false
  let refuse (t : State) : State := (t.on (!t.is ACT.disFail) (·.set ACT.disFail (Status.state.code + 1))).setBit ACT.disMask ch false
  if !s.is ACT.chEn ch then drop s
  else if isTraction ch then
    if (chAxes ch).any (fun a => s.is BL.wind a) then refuse s
    else
      let m := s.get SQ.STATUS.MODE (chAx ch)
      if m = 1 || m = 6 || m = 7 then s.traction0 ch else s.set ACT.rampN 1 ch
  else if ch = 5 then (if s.disRunning then refuse s else drop (s.set ACT.chEn 0 5))
  else if ch = 6 then (if s.is BL.holdDriven || s.is BL.STATUS.HOLD_PEND then refuse s else drop (s.set ACT.chEn 0 6))
  else s.set ACT.rampN 1 ch

/-- A channel of a request that waits (R47, R245, R263, R264): a REFRESH for its staged entry to go into force, an ENABLE for its islands
released and its offsets passed. A failed offset measurement or a refused RELEASE disables the axis again, and the ENABLE completes STATE.
States: 3 READY. -/
def waitChannel (s : State) (k ch : Nat) : State :=
  let got := s.setBit ACT.wMask ch false k
  if !s.getBit ACT.wMask ch k then s
  else if s.get ACT.wOp k = 1 then (if s.getBit ACT.STAT.PEND ch then s else got)
  else if !s.is ACT.chEn ch then got.waitRefuse k .state
  else
    let bad := (chIslands ch).any (fun i => s.is GI.relNo i && s.is GI.STATUS.BAD_CMD i && s.get GI.STATUS.STATE i != 3)
      || (chAxes ch).any fun a => (starCh a).any fun n => s.is SEN.CH_STAT.OFS_FAIL n
    if bad then (got.traction0 ch).waitRefuse k .state
    else if (chIslands ch).all (fun i => s.get GI.STATUS.STATE i == 3) && (chAxes ch).all fun a => !s.is (ofsRow a) then got
    else s

/-- A request that waits completes with its last channel. -/
def waitPoll (s : State) (k : Nat) : State :=
  if !s.is ACT.wMask k then s
  else
    let t := s.forN 8 fun ch u => u.waitChannel k ch
    if t.is ACT.wMask k then t else t.requestDone k (t.get ACT.wOp k) (t.get ACT.wFail k) (t.get ACT.wDone k)

/-- What a DISABLE, an ENABLE or a REFRESH waits for, looked at every decision tick (R47, R245, R263, R264): the DISABLE for every island HELD.
States: 2 HELD. -/
def actPoll (s : State) : State :=
  let held (t : State) (ch : Nat) : Bool := (chIslands ch).all fun i => t.get GI.STATUS.STATE i == 2
  let s1 := s.forN 8 fun ch t =>
    if t.getBit ACT.disMask ch && isTraction ch && !t.is ACT.chEn ch && held t ch then t.setBit ACT.disMask ch false else t
  let s2 := (s1.disableDone).forN 5 fun k t => t.waitPoll k
  s2.on (s2.is ACT.cmdWait && !s2.is ACT.job) (·.cmdStart)

/-- A staged entry goes into force (R245): CNT.REFRESH, an information event. One that changes I_base is refused if LOCK has been set since
it was staged (R45). -/
def stagedIn (s : State) (ch : Nat) : State :=
  if !s.getBit ACT.STAT.PEND ch then s
  else if s.baseLocked ch (s.entW ACT.stg ch 0x040) then
    let t := ((s.setBit ACT.STAT.PEND ch false).baseRefused ch).on (s.get ACT.job == 1 && s.getBit ACT.jobWait ch) fun t =>
      (t.setBit ACT.jobDone ch false).jobRefuse .range
    t.forN 2 fun k u => u.on (u.get ACT.wOp k == 1 && u.getBit ACT.wMask ch k) fun v => (v.setBit ACT.wDone ch false k).waitRefuse k .range
  else
    let s1 := (s.entryInForce ACT.stg ch (s.get ACT.entSrc) (isTraction ch && s.is CE.CTL.RUN (2 * chAx ch))).setBit
      ACT.STAT.PEND ch false
    (s1.incSat ACT.CNT.REFRESH).entryEvent ch

/-- The staged entries of the traction channels at a decision boundary (R129, R136, R245): held in CATCH, TRAV_UP, TRAV_DN
and STOPPING. CH5 goes into force while no abseil runs, CH6 while no HOLD is driven. -/
def stagedTick (s : State) : State :=
  let one (t : State) (ch : Nat) : State :=
    let m := t.get SQ.STATUS.MODE (chAx ch)
    if m = 1 || m = 3 || m = 5 || m = 6 then t else t.stagedIn ch
  let s1 := one (one (one s 0) 1) 7
  let s2 := if s1.disRunning then s1 else s1.stagedIn 5
  if s2.is BL.holdDriven then s2 else s2.stagedIn 6

/-- The disable ramp of a tick (R264). -/
def disableTick (s : State) : State := s.forN 8 fun ch t => t.on (t.is ACT.rampN ch) (·.incSat ACT.rampN ch)

end State

/-- DISABLE (R263, R264). -/
def execRingDisable (net : Bool) (s : State) : Out :=
  .next (match s.command net 0x11 with
    | none => s
    | some b =>
      if s.is ACT.disSrc then s
      else
        let m := b % 256
        let s1 := ((s.set ACT.disSrc (if net then 3 else 2)).set ACT.disMask m).set ACT.disFail 0
        (s1.forN 8 fun ch t => if bit m ch then t.disable1 ch else t).disableDone)

/-- DISABLE_RAMP_END (R264): after OBS_CFG.RAMP_US on a traction channel; an aux bridge turns off once its speed or current is
at zero, which AX reports. -/
def execDisableRampEnd (ch : Fin 8) (s : State) : Out :=
  let c : Nat := ch
  .next (if !s.is ACT.rampN c then s
    else if isTraction c then
      (if 2 * s.get ACT.rampN c < 5 * s.get SQ.OBS_CFG.RAMP_US (chAx c) then s else s.traction0 c)
    else if 4 < c || s.is AX.ref (c - 2) then s
    else ((((s.axHalt c).set ACT.chEn 0 c).set ACT.rampN 0 c).setBit ACT.disMask c false).disableDone)

end Sys2Proof.Machine
end

