-- ==== Sys2Proof/Machine/AxLaw.lean ====
section
/-!
DEFINITION. What AX forms from its samples (09): the sliding rms, the injection's demodulation and tracker, the polarity pulse, the forced
angle, the back-EMF observer, and the voltage limit. Loop gains, tolerances and counts for which a channel has no field are the reset values
of OB's fields of the same rules; how averages and sums are formed is not stated (log entry 48).
-/
namespace Sys2Proof.Machine
namespace State

/-- I_BASE of an aux channel, 0.1 A (R239). -/
def axIBase (s : State) (k : Nat) : Nat := s.secField (2 + k) 0x040 15 0

/-- V_BASE of an aux channel, 0.1 V (R239). -/
def axVBase (s : State) (k : Nat) : Nat := s.secField (2 + k) 0x040 31 16

/-- PSI_BASE of an aux channel, 10 µWb (R239). -/
def axPsiBase (s : State) (k : Nat) : Nat := s.secField (2 + k) 0x044 31 16

/-- ω_base of an aux channel, rad/s (R239). -/
def axWBase (s : State) (k : Nat) : Nat := s.secField (2 + k) 0x048 15 0

/-- The time from one control update of a channel to the next, in 2.5 ns. -/
def axDt (s : State) (k : Nat) : Nat := s.get PU.perAct (2 + k) * (if s.is PU.CTL.DBL_UPD (2 + k) then 1 else 2)

/-- The instant of the latest reload of a channel's unit. -/
def axNow (s : State) (k : Nat) : Nat := s.get PU.cntT (2 + k)

/-- A time given in units of `unit` ms has passed since an instant (device time in 2.5 ns). -/
def axPast (s : State) (from_ n unit : Nat) : Bool := decide (from_ + 400000 * unit * n ≤ s.now)

/-- The angle that a speed covers in `dt` × 2.5 ns, in 1/65536 of a turn. -/
def axTravel (s : State) (k : Nat) (w dt : Int) : Int := quot (w * s.axWBase k * dt * piD) (400000000 * piN)

/-- A shunt code of ±80 A in 12 bits as Q15 of I_base (R218). -/
def axCurrent (s : State) (k code : Nat) : Int := sat16 (quot (toSigned 12 code * 12800) (s.axIBase k))

/-- The shunt samples of a valley (R218): one short leg is the negative sum of the other two; with two or more the set is
kept and counted. -/
def axSamples (s : State) (k : Nat) (u v w : Nat) : State :=
  let ok (n : Nat) : Bool := s.getBit AX.lowOk n k
  let iu := s.axCurrent k u
  let iv := s.axCurrent k v
  let iw := s.axCurrent k w
  let n := (List.range 3).countP ok
  if n < 2 then s.incSat AX.CH_STAT.CUR_HOLD k
  else
    let a := if ok 0 then iu else sat16 (-(iv + iw))
    let b := if ok 1 then iv else sat16 (-(iu + iw))
    let c := if ok 2 then iw else sat16 (-(iu + iv))
    ((s.seti AX.CH_CUR_UV.I_U a k).seti AX.CH_CUR_UV.I_V b k).seti AX.CH_CUR_W.I_W c k

/-- The phase currents of the set in use. -/
def axPhases (s : State) (k : Nat) : List Int := [s.geti AX.CH_CUR_UV.I_U k, s.geti AX.CH_CUR_UV.I_V k, s.geti AX.CH_CUR_W.I_W k]

/-- The intervals of the sliding rms that lie a second back are emptied, those that have ended since the last sample at most. -/
def axRmsShift (s : State) (k : Nat) : State :=
  let t := s.now / 4000000
  let s1 := s.forN (min 100 (t - s.get AX.rmsT k)) fun i u =>
    let b := (t + 100 - i) % 100
    let v := (u.set AX.rmsCnt (u.get AX.rmsCnt k - u.get AX.rmsC k b) k).set AX.rmsC 0 k b
    v.forN 3 fun p x => (x.set AX.rmsSum (x.get AX.rmsSum k p - x.get AX.rmsQ k (100 * p + b)) k p).set AX.rmsQ 0 k (100 * p + b)
  s1.set AX.rmsT t k

/-- A sample of the phase currents joins the running interval. -/
def axRmsAdd (s : State) (k : Nat) (i : List Nat) : State :=
  let b := s.get AX.rmsT k % 100
  ((s.inc AX.rmsC k b).inc AX.rmsCnt k).forN 3 fun p t =>
    let q := i.getD p 0 ^ 2
    (t.set AX.rmsQ (t.get AX.rmsQ k (100 * p + b) + q) k (100 * p + b)).set AX.rmsSum (t.get AX.rmsSum k p + q) k p

/-- The highest sum of the three phases. -/
def axRmsTop (s : State) (k : Nat) : Nat := max (s.get AX.rmsSum k 0) (max (s.get AX.rmsSum k 1) (s.get AX.rmsSum k 2))

/-- The mean square that a current in amperes gives, times I_BASE² and the number of samples. -/
def axRmsOf (s : State) (k amps : Nat) : Nat := (amps * 10 * 32768) ^ 2 * s.get AX.rmsCnt k

/-- The sliding 1 s rms of each phase (R221), in intervals of 10 ms: above 30 A in any the limit is clamped, below 27 A in all it is released.
While the bridge is off no current flows, and 0 enters. -/
def axRms (s : State) (k : Nat) : State :=
  let s0 := s.axRmsShift k
  let s1 := s0.axRmsAdd k (if s0.get AX.CH_STAT.STATE k < 2 then [] else (s0.axPhases k).map Int.natAbs)
  let s2 := s1.set AX.CH_CUR_W.I_RMS (min (sqrtQ (s1.axRmsTop k) (s1.get AX.rmsCnt k)) 65535) k
  let x := s2.axRmsTop k * s2.axIBase k ^ 2
  if s2.axRmsOf k 30 < x then (s2.set AX.rmsOn 1 k).raise .warning AX.CH_STAT.RMS_LIM k
  else if x < s2.axRmsOf k 27 then s2.set AX.rmsOn 0 k else s2

/-- α and β of the phase currents. -/
def axAlphaBeta (s : State) (k : Nat) : Int × Int := clarke (s.axPhases k)

/-- The step of a second-order tracking loop, as OB's (R94, R119). -/
def axLoop (s : State) (k kp ki ang : Nat) (spd err : Int) : Int × Int :=
  let w := sat16 (spd + mulQ15 ki err)
  (ang + s.axTravel k w (s.axDt k) + mulQ15 kp err, w)

/-- Injection runs (R226): its source is in use, and neither the alignment nor a polarity pulse is under way. -/
def axInjOn (s : State) (k : Nat) : Bool := s.get AX.src k == 1 && s.get AX.step k != 1 && s.get AX.step k != 3

/-- The phase of the injected voltage as a 16-bit angle (R117, R226): F_H × 50 Hz since the injection began. -/
def axInjPhase (s : State) (k : Nat) : Nat :=
  quotN ((s.axNow k - s.get AX.injT k) * s.get AX.CH_INJ.F_H k * 50 * 65536) 400000000 % 65536

/-- V_H in Q15 of V_base. -/
def axVh (s : State) (k : Nat) : Int := quotF 226 (s.get AX.CH_INJ.V_H k * 32768) (s.axVBase k)

/-- The injected voltage as a vector, along the estimated d-axis. -/
def axInjVec (s : State) (k : Nat) : Int × Int :=
  if s.axInjOn k then unrotF (quot (s.axVh k * cosF (s.axInjPhase k)) unitF) 0 (s.get AX.injAng k) else (0, 0)

/-- The updates in the window over which the error is averaged (R119): INJ_CNT injection periods. -/
def axInjWindow (s : State) (k : Nat) : Nat :=
  max 1 (min 40960 (quotN (s.get AX.CH_INJ.INJ_CNT k * 400000000) (50 * s.get AX.CH_INJ.F_H k * s.axDt k)))

/-- The products of the window added up. -/
def axInjSum (s : State) (r : Row) (k : Nat) : Int :=
  ((List.range (min (s.get AX.hN k) (s.axInjWindow k))).map fun n => s.geti r k ((s.get AX.hIdx k + 40959 - n) % 40960)).sum

/-- An update of the injection (R117, R119, R226): the currents demodulated with the sine of its phase, the error normalised by the estimated-d
amplitude and by k_s, the tracker and its run within tolerance. -/
def axInjUpdate (s : State) (k : Nat) : State :=
  let ab := s.axAlphaBeta k
  let i := rotF ab.1 ab.2 (s.get AX.injAng k)
  let sn := sinF (s.axInjPhase k)
  let n := s.get AX.hIdx k
  let s1 := ((s.seti AX.hQ (quot (i.2 * sn) (2 ^ 112)) k n).seti AX.hD (quot (i.1 * sn) (2 ^ 112)) k n).set AX.hIdx ((n + 1) % 40960) k
  let s2 := s1.set AX.hN (min (s1.get AX.hN k + 1) 40960) k
  let ld : Int := s2.get AX.mach k 1
  let lq : Int := s2.get AX.mach k 2
  let e := sat16 (quotF 119 (s2.axInjSum AX.hQ k * (lq + ld) * 32768) (s2.axInjSum AX.hD k * (lq - ld)))
  let x := s2.axLoop k OB.INJ_TRK.INJ_KP.reset OB.INJ_TRK.INJ_KI.reset (s2.get AX.injAng k) (s2.geti AX.injSpd k) (-e)
  let s3 := ((s2.seti AX.eps e k).seti AX.injAng x.1 k).seti AX.injSpd x.2 k
  if e.natAbs < OB.INJ_CONV.INJ_TOL.reset then s3.incSat AX.injIn k else s3.set AX.injIn 0 k

/-- The injection begins at an angle and a speed, with an empty window. -/
def axInjBegin (s : State) (k ang spd : Nat) : State :=
  let s1 := ((((s.set AX.injAng ang k).set AX.injSpd spd k).set AX.injT s.now k).set AX.injIn 0 k).set AX.hIdx 0 k
  s1.set AX.hN 0 k

/-- The current that a polarity pulse is to reach (R123, R226): 0.5 × I_MAX, in the repeat raised by half. -/
def axPolLimit (s : State) (k : Nat) : Nat :=
  if s.is AX.polRep k then quotN (3 * s.get AX.CH_LIM.I_MAX k) 4 else quotN (s.get AX.CH_LIM.I_MAX k) 2

/-- A part of a polarity pulse begins. -/
def axPolPart (s : State) (k n : Nat) (t : Nat) : State := (s.set AX.polPh n k).set AX.polT0 t k

/-- A polarity pulse begins (R122): pairs alternate their order. -/
def axPolPulse (s : State) (k : Nat) : State :=
  let i := s.get AX.polIdx k
  ((s.axPolPart k 1 s.now).seti AX.polPrev 0 k).setb AX.polNeg (!(i / 2 % 2 == i % 2)) k

/-- An update during a polarity test (R122, R226): the rise to the limit, whose time is taken between two updates, the return to zero and the
wait of 50 µs. -/
def axPolUpdate (s : State) (k : Nat) : State :=
  let t := s.axNow k
  let ab := s.axAlphaBeta k
  let d := (rotF ab.1 ab.2 (s.get AX.injAng k)).1
  let i := if s.is AX.polNeg k then -d else d
  let s1 := s.seti AX.injAng (s.get AX.injAng k + s.axTravel k (s.geti AX.injSpd k) (s.axDt k)) k
  let prev := s.geti AX.polPrev k
  match s.get AX.polPh k with
  | 1 =>
    let dt : Int := s.axDt k
    let rise : Int := (t : Int) - s.get AX.polT0 k - dt + quotF 122 (dt * ((s.axPolLimit k : Int) - prev)) (i - prev)
    let s2 := s1.seti AX.polPrev i k
    if (s.axPolLimit k : Int) ≤ i then (s2.axPolPart k 2 t).set AX.polT rise.toNat k else s2
  | 2 => if i ≤ 0 then s1.axPolPart k 3 t else s1
  | 3 => if s.get AX.polT0 k + 20000 ≤ t then s1.axPolPart k 4 t else s1
  | _ => s1

/-- An update of the forced angle (R226): it turns with the speed reference, at most OBS_UP. -/
def axForced (s : State) (k : Nat) : State :=
  let up : Int := s.get AX.CH_OBS.OBS_UP k
  let w := clampI (-up) up (s.geti AX.ref k / 65536)
  (s.seti AX.fSpd w k).seti AX.fAng (s.get AX.fAng k + s.axTravel k w (s.axDt k)) k

/-- The phase voltages of the half-period that ended (R227, R228): duty × VAUX, Q15 of V_base. -/
def axVolts (s : State) (k : Nat) : List Int :=
  (List.range 3).map fun n => quotF 227 (s.get AX.vLeg k n * s.get AX.STATUS.VAUX * 32768) (5 * s.get PU.perAct (2 + k) * s.axVBase k)

/-- α and β of the commanded voltage. -/
def axVolt (s : State) (k : Nat) : Int × Int := clarke (s.axVolts k)

/-- A component of the observer's flux over an update (R227): the commanded voltage less R_S × i, integrated; v and i in Q15. -/
def axFluxStep (s : State) (k n : Nat) (v i : Int) : State :=
  let x := quotF 227 ((v * s.axVBase k * 1000000 - i * s.axIBase k * s.get AX.mach k 0) * s.axDt k * 2 ^ 23)
    (40000000000 * 32768 * s.axPsiBase k)
  s.seti AX.psi (satI 25 (s.geti AX.psi k n + x)) k n

/-- L × i in flux units of 2^-23 ψ_base; L in nH. -/
def axLFlux (s : State) (k l : Nat) (i : Int) : Int := quotF 227 (l * i * s.axIBase k * 256) (100000 * s.axPsiBase k)

/-- The observer takes an angle and a speed (R225 to R227): the flux of the magnet along the angle, with L_q × i, and its tracker. -/
def axSeed (s : State) (k ang spd : Nat) : State :=
  let p := unrotF (quotF 227 (s.get AX.mach k 3 * 2 ^ 23) (10 * s.axPsiBase k)) 0 ang
  let i := s.axAlphaBeta k
  let lq := s.get AX.mach k 2
  let s1 := (s.seti AX.psi (satI 25 (p.1 + s.axLFlux k lq i.1)) k 0).seti AX.psi (satI 25 (p.2 + s.axLFlux k lq i.2)) k 1
  (((s1.set AX.obAng ang k).set AX.obSpd spd k).set AX.obOk 0 k).set AX.obBad 0 k

/-- The convergence of the observer (R94, R227): set above SLS_MIN after CONV_N updates within CONV_TOL, cleared below 7/8 of SLS_MIN or after
CONV_N updates beyond. -/
def axConv (s : State) (k : Nat) : State :=
  let w := (s.geti AX.obSpd k).natAbs
  let m := OB.SLS_CFG.SLS_MIN.reset
  let n := OB.SLS_CFG.CONV_N.reset
  if 8 * w < 7 * m || n ≤ s.get AX.obBad k then s.set AX.conv 0 k
  else if m < w && n ≤ s.get AX.obOk k then s.set AX.conv 1 k else s

/-- An update of the back-EMF observer (R227): the integrator, the angle of the active flux ψ − L_q × i and the tracker that follows it. -/
def axObserver (s : State) (k : Nat) : State :=
  let v := s.axVolt k
  let i := s.axAlphaBeta k
  let s1 := (s.axFluxStep k 0 v.1 i.1).axFluxStep k 1 v.2 i.2
  let lq := s1.get AX.mach k 2
  let a := angleOf (s1.geti AX.psi k 0 - s1.axLFlux k lq i.1) (s1.geti AX.psi k 1 - s1.axLFlux k lq i.2)
  let err := wrap16 ((a : Int) - s1.get AX.obAng k)
  let x := s1.axLoop k OB.SLS_PLL.KP.reset OB.SLS_PLL.KI.reset (s1.get AX.obAng k) (s1.geti AX.obSpd k) err
  let s2 := (s1.seti AX.obAng x.1 k).seti AX.obSpd x.2 k
  let tol := OB.SLS_CFG.CONV_TOL.reset * 64
  let s3 := if err.natAbs < tol then s2.incSat AX.obOk k else s2.set AX.obOk 0 k
  (if tol < err.natAbs then s3.incSat AX.obBad k else s3.set AX.obBad 0 k).axConv k

/-- What an update estimates (R226, R227): at the alignment the greatest phase currents, during a polarity test its pulse, else the injection's
tracker or the forced angle, and once the rotor's angle is known the observer; SPD_MEAS is the speed of the source in use. -/
def axEstimate (s : State) (k : Nat) : State :=
  let st := s.get AX.step k
  if s.get AX.CH_STAT.STATE k < 2 then s
  else if st = 1 then s.forN 3 fun p t => t.set AX.maxI (max (t.get AX.maxI k p) ((t.axPhases k).getD p 0).natAbs) k p
  else if st = 3 then s.axPolUpdate k
  else
    let s1 := s.on (s.axInjOn k) (·.axInjUpdate k)
    if st = 2 then s1
    else
      let s2 := (s1.on (s1.get AX.src k == 2) (·.axForced k)).axObserver k
      let spd := if s2.get AX.src k = 1 then AX.injSpd else if s2.get AX.src k = 2 then AX.fSpd else AX.obSpd
      s2.set AX.CH_SPD.SPD_MEAS (s2.get spd k) k

/-- The observer has not converged within 50 ms of reaching OBS_UP (R227). -/
def obsSlow (s : State) (k : Nat) : Bool :=
  decide (2 ≤ s.get AX.CH_STAT.STATE k) && s.get AX.src k != 3 && s.is AX.upT k && s.axPast (s.get AX.upT k) 50 1

/-- The voltage limit (R228): VLIM_K × VAUX / √3, less V_H while injection runs; Q15 of V_base. -/
def axVMax (s : State) (k : Nat) : Int :=
  let v := quotF 228 (s.get AX.CH_LIM.VLIM_K k * s.get AX.STATUS.VAUX * unitF) (5 * sqrt3F * s.axVBase k)
  max 0 (v - if s.axInjOn k then s.axVh k else 0)

/-- |v_dq| of a voltage vector without the injected one. -/
def axVMag (s : State) (k : Nat) (v : Int × Int) : Nat :=
  let h := s.axInjVec k
  sqrtQ ((v.1 - h.1).natAbs ^ 2 + (v.2 - h.2).natAbs ^ 2) 1

/-- The voltage limit at an update (R228): it acts where the fundamental of the half-period that ended reaches it within two counts of a compare;
the runs of updates in which it acts, and of those below 15/16 of it. AX.VLIM.PIT forces it for 8 updates (R233). -/
def axVoltLimit (s : State) (k : Nat) : State :=
  let s1 := s.on (s.pit 0x18 3 k) fun t => t.pitAct.set AX.vlPit 8 k
  let pit := s1.is AX.vlPit k
  let m := s1.axVMag k (s1.axVolt k)
  let lim := s1.axVMax k
  let on := decide (2 ≤ s1.get AX.CH_STAT.STATE k)
  let tol := quotF 228 (s1.get AX.STATUS.VAUX * 2 * 32768) (5 * s1.get PU.perAct (2 + k) * s1.axVBase k)
  let acts := pit || (on && decide (lim ≤ m + tol))
  let below := !pit && (!on || decide (16 * (m : Int) < 15 * lim))
  let s2 := s1.on pit fun t => t.set AX.vlPit (t.get AX.vlPit k - 1) k
  let s3 := if acts then s2.incSat AX.vN k else s2.set AX.vN 0 k
  if below then s3.incSat AX.vOkN k else s3.set AX.vOkN 0 k

/-- The compares of a release within the voltage limit (R228): a fundamental beyond it is cut to it along its direction, the common part of the
three legs left as it is. -/
def axVoltCut (s : State) (k : Nat) (c : List Nat) : List Nat :=
  let per := s.get PU.perAct (2 + k)
  let d := s.get AX.STATUS.VAUX
  let v := clarke (c.map fun x => quotF 228 (x * d * 32768) (5 * per * s.axVBase k))
  let h := s.axInjVec k
  let m : Int := s.axVMag k v
  let lim := s.axVMax k
  if m ≤ lim || d = 0 || m = 0 then c
  else
    let x := quot ((v.1 - h.1) * (lim - m)) m
    let y := quot ((v.2 - h.2) * (lim - m)) m
    (List.range 3).map fun n =>
      let dv := phaseOf x y (65536 * n / 3)
      (clampI 0 per (c.getD n 0 + quotF 228 (dv * 5 * per * s.axVBase k) (d * 32768))).toNat

end State
end Sys2Proof.Machine
end

