-- ==== Sys2Proof/Machine/Memory.lean ====
section
/-!
DEFINITION. The shared SRAM as a list of cells in one canonical form: addresses strictly rising, no listed byte equal to what an
unlisted address reads as, which is 0 (zeroed by hardware before any reader has access, R413, R422).
-/
namespace Sys2Proof.Machine

/-- The memory. -/
abbrev Memory := List Host.Cell

/-- The byte at an address. -/
def Memory.get : Memory → Nat → BitVec 8
  | [], _ => 0
  | (k, v) :: c, a => if k = a then v else Memory.get c a

/-- The memory with a byte written: 0 is what an unlisted address reads as, so that writing it takes the address off the list. -/
def Memory.put : Memory → Nat → BitVec 8 → Memory
  | [], a, v => if v = 0 then [] else [(a, v)]
  | (k, w) :: c, a, v =>
    if v = 0 then (if a = k then Memory.put c a v else (k, w) :: Memory.put c a v)
    else if a < k then (a, v) :: (k, w) :: c
    else if a = k then (a, v) :: c
    else (k, w) :: Memory.put c a v

/-- The canonical form. -/
def Memory.wf : Memory → Bool
  | [] => true
  | (k, v) :: c => v != 0 && c.all (fun p => decide (k < p.1)) && Memory.wf c

end Sys2Proof.Machine
end

