-- ==== Sys2Proof/Machine/MemOps.lean ====
section
/-!
DEFINITION. The memories (21): bytes of the shared SRAM, and the error correction of every memory's words. A listed error is a
number of wrong bits in a word; the true data stand in the memory, which is what a correction returns.
-/
namespace Sys2Proof.Machine

/-- Words of a memory (R457): 0 the shared SRAM, 1 the calibration RAM, 2 the host-core memories, 3 and 4 the engine memories
of PD3 and PD4, 5 of PD5. -/
def memWords (m : Nat) : Nat :=
  match m with
  | 0 => 524288
  | 1 => 262144
  | 2 => 65536
  | 3 => 38912
  | 4 => 38912
  | _ => 12288

namespace State

/-- A byte of the shared SRAM; 0 beyond its 4 MiB. -/
def memGet (s : State) (a : Nat) : BitVec 8 := if a < 2 ^ 22 then Memory.get s.mem a else 0

/-- The wrong bits of a word. -/
def eccOf (s : State) (m w : Nat) : Nat := (s.eccBad.lookup (m, w)).getD 0

/-- The wrong bits of a word replaced. -/
def setEcc (s : State) (m w n : Nat) : State :=
  let rest := s.eccBad.filter fun p => p.1 != (m, w)
  { s with eccBad := if n = 0 then rest else rest ++ [((m, w), n)] }

/-- A byte written into the shared SRAM: its word is written with new check bits, and an armed MEM piton on the word inverts one
or two bits in it (R476). Nothing lies beyond 4 MiB. -/
def memPut (s : State) (a : Nat) (v : BitVec 8) : State :=
  if 2 ^ 22 ≤ a then s
  else
    let w := a / 8
    let here := s.get MEM.PIT_CTL.ADDR == w
    let one := here && s.pit 0x1D 1 0
    let two := here && s.pit 0x1D 2 0
    let s1 := s.on (one || two) (·.pitAct)
    let s2 : State := { s1 with mem := Memory.put s1.mem a v }
    s2.setEcc 0 w (if two then 2 else if one then 1 else 0)

/-- Four bytes written, the lowest first. -/
def memPut32 (s : State) (a v : Nat) : State :=
  (List.range 4).foldl (fun t k => t.memPut (a + k) (BitVec.ofNat 8 (v / 256 ^ k))) s

/-- A word that is read holds more than one wrong bit (R459): the memory's DED flag, the address, MEM_DED. What the reader then does
is its own. -/
def eccDed (s : State) (m w : Nat) : State :=
  ((((s.setBit MEM.ECC_STAT.DED m true).incSat MEM.ECC_STAT.DED_CNT).set MEM.ECC_ADDR.MEM m).set MEM.ECC_ADDR.ADDR w).event
    .fault 0 0x1D 0x0431 m w

/-- The check of a word that is read (R459): a single wrong bit is corrected and counted, a second correction of the word within
one scrub pass raises MEM_SEC. -/
def eccCheck (s : State) (m w : Nat) : State :=
  match s.eccOf m w with
  | 0 => s
  | 1 =>
    let s1 := (s.setEcc m w 0).incSat MEM.ECC_STAT.SEC_CNT
    if s1.eccSeen.contains (m, w) then s1.event .warning 0 0x1D 0x0430 m w
    else { s1 with eccSeen := s1.eccSeen ++ [(m, w)] }
  | _ => s.eccDed m w

/-- A BIST run shifts the flop state of a domain from PD2 on out into its 8 KiB of the save area (R467), whose bytes the spec does not state: free
values (log entry 25). -/
def bistSave (s : State) (pd : Nat) : State :=
  let a := s.get BIST.SAVE_BASE.BASE * 65536 + 8192 * (pd - 2)
  let t := (List.range 8192).foldl (fun t k => t.memPut (a + k) (BitVec.ofNat 8 (Config.free 467 [s.fresh, k]))) s
  { t with fresh := s.fresh + 1 }

/-- The bytes of the shared SRAM from an address, as one little-endian number. -/
def memWord (s : State) (a n : Nat) : Nat := ((List.range n).map fun k => (s.memGet (a + k)).toNat * 256 ^ k).sum

/-- An event of SEC (R403). -/
def secEvent (s : State) (c : EvClass) (code a0 a1 : Nat) : State := s.event c 0 0x1F code a0 a1

/-- The calibration RAM is zeroed (R395): no table is loaded. -/
def calZero (s : State) : State :=
  (((s.dropCells [SEC.calW, SEC.calOn] fun _ _ => true).set SEC.CAL_STAT.LOADED 0).set SEC.calRamId 0).forN 256 fun h t => t.set SEC.calKind 0 0 h

/-- A table-port lock begins (R395): the calibration RAM and the local data of CE and OB are zeroed. ARG0 of its event is 1 for a
debug read, 2 for a debug write to code; for a memory error it is not stated (log entry 8). -/
def tblLock (s : State) (arg0 engine : Nat) : State :=
  let s1 := (((s.set SEC.CAL_STAT.TBL_LOCK 1).set SEC.CAL_STAT.ZEROING 1).set SEC.lockZero 1).calZero
  (s1.dropCells [CE.ld, CE.ldM] fun _ i => i < 6).secEvent .warning 0x0308 arg0 engine

/-- The engine cores of a domain (R411). -/
def pdEngine (pd e : Nat) : Bool :=
  if pd = 3 then e < 2 || e == 4 else if pd = 4 then e == 2 || e == 3 || e == 5 else pd == 5 && e == 6

/-- Of the bits of MEM.blank, the engine code and the microcode of a domain. -/
def pdBlank (pd b : Nat) : Bool := (1 ≤ b && b < 8 && pdEngine pd (b - 1)) || (8 ≤ b && b == pd + 5)

/-- Engine code or microcode is loaded again from the firmware (R446, R467). -/
def unblank (s : State) (p : Nat → Bool) : State :=
  s.set MEM.blank ((List.range 10).map fun b => if p b then 0 else s.get MEM.blank / 2 ^ b % 2 * 2 ^ b).sum

end State
end Sys2Proof.Machine
end

