-- ==== Sys2Proof/Machine/Pu.lean ====
section
/-!
DEFINITION. PWM units and trip units (06): reloads, commits, edges of the carrier, trips with their first-fault capture,
clearing, the debug halt and the freeze of an aux unit. The trip operation itself is in Machine/DriveOps.lean.
-/
namespace Sys2Proof.Machine
namespace State

/-- The counter of a unit at an instant of device time (R140): from its latest reload point, up after a valley and down
after a peak. -/
def cntAt (s : State) (pu t : Nat) : Nat :=
  let per := s.get PU.perAct pu
  let d := min (t - s.get PU.cntT pu) per
  if s.is PU.STATUS.DOWN pu then per - d else d

/-- The counter of a unit counts (R140, R160, R162): it runs, no debug halt has stopped it, and PLL_MAIN has not stopped. -/
def counts (s : State) (pu : Nat) : Bool := s.is PU.CTL.RUN pu && !s.is PU.STATUS.HALTED pu && !s.is SYS.pllDown

/-- A counter stops where it is (R160, R162). -/
def cntStop (s : State) (pu : Nat) : State := s.on (s.counts pu) fun t => t.set PU.CNT.CNT (t.cntAt pu t.now) pu

/-- A counter goes on from where it stands. -/
def cntResume (s : State) (pu : Nat) : State :=
  s.on (s.counts pu) fun t =>
    t.set PU.cntT (t.now - (if t.is PU.STATUS.DOWN pu then t.get PU.perAct pu - t.get PU.CNT.CNT pu else t.get PU.CNT.CNT pu)) pu

/-- A shadow moves to the active compare, at most PER (R141, R145); one that a write of the reload's own cycle has replaced moves as it was. -/
def transfer (s : State) (pu leg : Nat) : State :=
  let old := s.get PU.lateOld pu leg
  s.set PU.CMP.CMP (min (if old = 0 then s.get PU.shadow pu leg else old - 1) (s.get PU.perAct pu)) pu leg

/-- The shadows at a reload (R145, R146): every leg with a commit pending takes its own, but for a leg whose only commit came in the
reload's own cycle; such a commit waits for the next reload. -/
def reloadShadows (s : State) (pu : Nat) : State :=
  let s1 := s.forN 3 fun k t =>
    let u := t.on (t.is PU.pend pu k && t.get PU.late pu k != 1) (·.transfer pu k)
    ((u.setb PU.pend (u.is PU.late pu k) pu k).set PU.late 0 pu k).set PU.lateOld 0 pu k
  s1.setb PU.COMMIT.GO (s1.is PU.COMMIT.GO pu && (List.range 3).any fun k => s1.is PU.pend pu k) pu

/-- The half-pulses of the half-period that begins (R149): those that the minimum pulse drops or stretches are counted, once each, where the
unit forms edges. -/
def halfCount (s : State) (pu : Nat) : State :=
  if s.is PU.TRIP_STAT.TRIPPED (s.tripUnit pu) || (decide (pu < 2) && s.is PU.STATUS.DETACHED pu) then s
  else s.forN 3 fun k t => t.on (t.halfComp pu k != t.get PU.CMP.CMP pu k) (·.incSat PU.CNTRS.MP_CNT pu)

/-- What a reload point does to the compares (R145, R148, R149): the shadows, the bands of an attached unit, the half-pulses. Without
DBL_UPD the peak is none. -/
def reloadPoint (s : State) (pu : Nat) (peak : Bool) : State :=
  let s1 := s.on (!peak || s.is PU.CTL.DBL_UPD pu) fun t =>
    (t.reloadShadows pu).on (decide (2 ≤ pu) || !t.is PU.STATUS.DETACHED pu) (·.bands pu)
  s1.halfCount pu

/-- The averages of the period that ends at a valley (R125, R128). -/
def periodEnd (s : State) (a : Nat) : State :=
  let n : Int := s.get SQ.spdN a
  let avg (r : Row) : Int := if n = 0 then s.geti r a else quot (s.geti r a) n
  let s1 := (s.seti SQ.spdAvg (avg SQ.spdSum) a).seti SQ.tqAvg (avg SQ.tqSum) a
  let s2 := ((s1.set SQ.spdSum 0 a).set SQ.tqSum 0 a).set SQ.spdN 0 a
  s2.on (2 ≤ s2.get SQ.stepPend a) fun t => t.set SQ.stepPend (t.get SQ.stepPend a - 1) a

/-- The traverse at a valley (R125, R126, R129): the run of valleys beyond a threshold, the periods left of TRAV_UP, and the
end of TRAV_UP when the speed falls to DN. -/
def travValley (s : State) (a : Nat) : State :=
  let w := s.geti SQ.spdAvg a
  let m := s.get SQ.STATUS.MODE a
  if m = 3 then
    if s.travDn a w then (s.set SQ.travWait 0 a).setMode a 2
    else s.set SQ.travWait (s.get SQ.travWait a - 1) a
  else if s.is SQ.TRAV_STAT.HOLD a then s.set SQ.travCnt 0 a
  else if (m = 2 && s.travUp a w) || (m = 4 && s.travDn a w) then s.incSat SQ.travCnt a
  else s.set SQ.travCnt 0 a

/-- The bootstrap refresh of an aux unit, decided at the peak (R229): every REF_PER periods the legs whose CMP is at least REF_DUTY × PER
get it at the valley that follows. A tripped unit, or one whose channel is stopped or watches the rotor, has none. -/
def bsRefresh (s : State) (pu : Nat) : State :=
  let k := pu - 2
  if !s.is AX.CH_BS.REF_EN k || s.is PU.TRIP_STAT.TRIPPED pu || !s.is PU.CTL.RUN pu || decide (s.get AX.CH_STAT.STATE k < 2) then
    s.set PU.refLegs 0 pu
  else if s.get PU.bsN pu + 1 < s.get AX.CH_BS.REF_PER k then (s.incSat PU.bsN pu).set PU.refLegs 0 pu
  else
    let due (leg : Nat) : Bool := decide (s.get AX.CH_BS.REF_DUTY k * s.get PU.perAct pu ≤ s.get PU.CMP.CMP pu leg * 32768)
    (s.set PU.bsN 0 pu).set PU.refLegs (ofBool (due 0) + 2 * ofBool (due 1) + 4 * ofBool (due 2)) pu

/-- The turn-ons of an aux bridge that have been placed for an instant up to `t` take place (R147). -/
def bridgeEdges (s : State) (pu t : Nat) : State :=
  s.forN 6 fun k u =>
    let at' := u.get PU.onT pu k
    if at' = 0 || t < at' then u else ((u.set PU.sw 1 pu k).set PU.onT 0 pu k).on (k % 2 == 0) (·.set PU.hiT at' pu (k / 2)) |>.on (k % 2 == 1) (·.set PU.loT at' pu (k / 2))

/-- What an aux unit's reload keeps for AX: the compares of the half-period that ends, and at a valley the legs whose low side has been on
for 600 ns after the dead time (R218, R227). -/
def auxKeep (s : State) (pu : Nat) (peak : Bool) (stamp : Nat) : State :=
  let k := pu - 2
  let s1 := s.forN 3 fun leg t => t.set AX.vLeg (t.get PU.CMP.CMP pu leg) k leg
  s1.on (!peak) fun t =>
    let u := t.bridgeEdges pu stamp
    let low (leg : Nat) : Bool := u.is PU.sw pu (2 * leg + 1) && decide (u.get PU.loT pu leg + 240 ≤ stamp)
    u.set AX.lowOk (ofBool (low 0) + 2 * ofBool (low 1) + 4 * ofBool (low 2)) k

/-- The control window of an axis's channels is placed from the reload (R42, R116, R142). -/
def ctrlStart (s : State) (pu : Nat) : State :=
  let ph := if pu = 0 then s.get SEN.CTRL_PHASE.PH_A else s.get SEN.CTRL_PHASE.PH_B
  (s.set SEN.ctrlClk (64 - ph) pu).set SEN.ctrlAim (if ph = 0 then 1 else 2) pu

/-- A unit's reload without the joined companion. -/
def reload1 (s : State) (pu : Nat) (peak : Bool) (stamp : Nat) : State :=
  let s0 := s.on (decide (2 ≤ pu)) (·.auxKeep pu peak stamp)
  let s1 := if peak then s0 else s0.set PU.perAct (s0.get PU.PER.PER pu) pu
  let s2 := ((s1.setb PU.STATUS.DOWN peak pu).set PU.CNT.CNT (if peak then s1.get PU.perAct pu else 0) pu).set PU.cntT stamp pu
  let s3 := (s2.reloadPoint pu peak).on (decide (2 ≤ pu) && peak) (·.bsRefresh pu)
  if pu < 2 then
    let s4 := s3.on (!peak || s3.is PU.CTL.DBL_UPD pu) fun t => (t.ctrlStart pu).injUpdate pu
    if peak then s4
    else
      let s5 := (s4.periodEnd pu).travValley pu
      let s6 := s5.set OB.injSign (1 - s5.get OB.injSign pu) pu
      s6.on (s6.is OB.injRampN pu) fun t => t.set OB.injRampN (t.get OB.injRampN pu - 1) pu
  else if peak && !s3.is PU.CTL.DBL_UPD pu then s3
  else
    let k := pu - 2
    let p := s3.pit 0x18 4 k
    let past := s3.is AX.spIgn k && decide (s3.get AX.spIgnT k + 4000000 * (s3.get AX.CH_CFG.SP_TMO k + 1) ≤ s3.now)
    let s4 := (s3.on past (·.set AX.spIgn 0 k)).on p fun t => (t.pitAct.set AX.spIgn 1 k).set AX.spIgnT t.now k
    let new := s4.is CE.spPend pu && !s4.is AX.spIgn k
    let s5 := s4.on (new && s4.parked) (·.set AX.lost 0 k)
    let s6 := s5.on (new && !s5.parked) fun t =>
      let u := (t.on (t.is AX.lost k) (·.axHalt pu)).set AX.lost 0 k
      ((u.set CE.spVal (t.get CE.spNewVal pu) pu).set CE.spLim (t.get CE.spNewLim pu) pu).set CE.spMode (t.get CE.spNewMode pu) pu
    let s7 := s6.on (s6.is AX.spIgn k || !s6.parked) (·.set CE.spPend 0 pu)
    (s7.playsForced).stagedIn pu

end State

/-- PU_RELOAD (R114, R117 to R119, R125, R139 to R148, R163, R229, R245, R266): the valley, and the peak with DBL_UPD. In
joined mode PU1 runs from PU0's counter (R144). A unit whose counter stands has no reload. -/
def execPuReload (pu : Fin 5) (peak : Bool) (stamp : Nat) (s : State) : Out :=
  let n : Nat := pu
  .next (if !s.counts n || (s.joined && n = 1) then s
    else
      let s1 := (s.reload1 n peak stamp).perfAdd 0x12 n 0x10 1
      s1.on (s.joined && n == 0) fun t =>
        let u := (t.follow.set PU.CTL.DBL_UPD (t.get PU.CTL.DBL_UPD 0) 1).reloadPoint 1 peak
        u.on (!peak || u.is PU.CTL.DBL_UPD 0) (·.ctrlStart 1))

namespace State

/-- A commit becomes pending (R145, R146, R163): a late one is counted once until its transfer, and only its own legs wait. -/
def commit (s : State) (pu : Nat) (legs : List Nat) (late : Bool) : State :=
  let p := s.pit 0x12 4 pu
  let s0 := s.on p (·.pitAct)
  let s1 := s0.on ((late || p) && !(List.range 3).any fun k => s0.is PU.late pu k) fun t =>
    (t.incSat PU.CNTRS.LATE_UPDATE pu).perfAdd 0x12 pu 0x11 1
  legs.foldl (fun t k =>
    (t.on ((late || p) && !t.is PU.late pu k) fun u => u.set PU.late (if u.is PU.pend pu k then 2 else 1) pu k).set PU.pend 1 pu k) s1

/-- A compare written (R141, R143, R145, R146): into the shadow; without GRP_EN it commits alone. One written in the cycle of a reload is not
seen by that reload. -/
def cmpWrite (s : State) (pu leg value : Nat) (late : Bool) : State :=
  let s0 := s.on (late && !s.is PU.lateOld pu leg) fun t => t.set PU.lateOld (t.get PU.shadow pu leg + 1) pu leg
  let s1 := s0.set PU.shadow value pu leg
  if s1.is PU.CTL.GRP_EN pu then s1 else s1.commit pu [leg] late

/-- COMMIT.GO (R144 to R146): with GRP_EN for all three shadows; with GRP_EN clear, where R145 gives GO no effect, it is ignored (DESIGN CHOICE,
log entry 37). In joined mode PU0's is for the shadows of both units together, and the LATE piton delays both (R163); PU1's is ignored. -/
def commitGo (s : State) (pu : Nat) (late : Bool) : State :=
  if (s.joined && pu = 1) || !s.is PU.CTL.GRP_EN pu then s
  else
    let late' := late || s.pit 0x12 4 pu
    ((s.set PU.COMMIT.GO 1 pu).commit pu [0, 1, 2] late).on (s.joined && pu == 0) fun t =>
      (t.set PU.COMMIT.GO 1 1).commit 1 [0, 1, 2] late'

end State

/-- CMP_WRITE (R141, R143, R145): into the shadow; a value above PER counts as PER at the transfer. -/
def execCmpWrite (pu : Fin 5) (leg : Fin 3) (value : BitVec 16) (late : Bool) (s : State) : Out :=
  .next (if !s.pdOn (puDomain pu) then s else s.cmpWrite pu leg value.toNat late)

/-- COMMIT (R144 to R146). -/
def execPuCommit (pu : Fin 5) (late : Bool) (s : State) : Out := .next (if !s.pdOn (puDomain pu) then s else s.commitGo pu late)

/-- The side of a leg that the compare in force commands at an instant (R141): the high side while the counter exceeds PER − CMP, always for a
CMP of PER. -/
def State.sideAt (s : State) (pu leg t : Nat) : Bool :=
  let c := s.formed pu leg
  let per := s.get PU.perAct pu
  decide (per ≤ c) || decide (per < s.cntAt pu t + c)

/-- A leg of an aux bridge goes to its high or low side at an instant (R147): the other side turns off at once, the turn-on follows the dead
time after that command. A high side whose bootstrap is below its threshold stays off (R230). -/
def State.bridgeLeg (s : State) (pu leg : Nat) (high : Bool) (t : Nat) : State :=
  let on := 2 * leg + ofBool (!high)
  let off := 2 * leg + ofBool high
  let s1 := (s.set PU.sw 0 pu off).set PU.onT 0 pu off
  if s.is PU.sw pu on || s.is PU.onT pu on || (high && s.getBit AX.CH_STAT.BS_UV leg (pu - 2)) then s1
  else if s.is PU.sw pu off || s.is PU.onT pu off then s1.set PU.onT (t + s.legDead pu leg) pu on
  else (s1.set PU.sw 1 pu on).set (if high then PU.hiT else PU.loT) t pu leg

/-- PU_COMPARE (R141, R142, R147, R149, R150): at an edge instant, or at the reload that the compare of the half-period to come changes, a leg
takes the side that the counter commands. It counts as a leg change for a traverse up (R126). A detached or tripped unit forms no edge, nor
one whose counter stands, nor an aux unit whose channel is stopped or watches the rotor (R158, R224, R225). -/
def execPuCompare (pu : Fin 5) (leg : Fin 3) (stamp : Nat) (s : State) : Out :=
  let n : Nat := pu
  let c := if s.joined && n = 1 then 0 else n
  let high := s.sideAt n leg stamp
  .next (if !s.counts c || s.is PU.TRIP_STAT.TRIPPED (s.tripUnit n) || (decide (n < 2) && s.is PU.STATUS.DETACHED n) then s
    else if n < 2 then
      s.legTo n leg high |>.on (!s.is GI.cmdOn (6 * n + 2 * leg.val + ofBool (!high))) fun t =>
        t.set SQ.dwell (t.get SQ.MINP.MIN_TICKS c) c (if s.joined && n = 1 then 3 + leg.val else leg.val)
    else if s.get AX.CH_STAT.STATE (n - 2) < 2 then s
    else (s.bridgeEdges n stamp).bridgeLeg n leg high stamp)

/-- A source applies to a unit (R151); the aux units take XTRIP only while XT_AUX is set. -/
def srcApplies (pu src : Nat) : Bool :=
  if pu < 2 then src < 13 || 15 ≤ src else src == 12 || src == 13 || src == 14 || 15 ≤ src

/-- The external trip is not forwarded to an aux unit (R151, R299). -/
def State.xtripCut (s : State) (pu src : Nat) : Bool := decide (2 ≤ pu) && src == 12 && !s.xtAux

/-- TRIP (R151 to R157, R163): a source whose input has been asserted for its filter length, and whose enable is set, latches.
The TRIP and FF pitons assert the source they name, FF together with SW in one cycle. A trip before 250 ns of a decision tick have passed
suppresses that tick's leg commands (R89); a gate island's reaches the unit when its frame is decoded, not at the detection that it stamps. The trip units stand while PLL_MAIN has stopped (R162). -/
def execPuTrip (pu : Fin 5) (src : Fin 19) (unit : BitVec 4) (stamp : Nat) (s : State) : Out :=
  let n : Nat := pu
  let k : Nat := src
  let named := s.get PU.PIT_CTL.SRC n == k
  let p1 := s.pit 0x12 1 n && named
  let p2 := s.pit 0x12 2 n && named
  let act := s.getBit PU.tripIn k n || p1 || p2
  if !srcApplies n k || s.xtripCut n k || !act || !s.getBit PU.TRIP_EN.EN k (s.tripUnit n) || s.is SYS.pllDown then .next s
  else
    let at' := if k < 5 && s.is PU.giEnd n k then s.get PU.giEnd n k - 256 else stamp / 2
    let s0 := (s.on (p1 || p2) (·.pitAct)).on (s.tripEarly n at') (·.dropEdges n)
    let s1 := s0.trip n k unit.toNat (stamp / 2)
    .next (s1.on p2 (·.trip n 18 0 (stamp / 2)))

/-- CAPTURE_CLOSE (R156, R157, R270): 200 ns after the first report; the trip's event carries what the capture holds. -/
def execCaptureClose (pu : Fin 5) (s : State) : Out :=
  .next (if s.is PU.capOpen pu then ((s.set PU.capOpen 0 pu).set PU.evTime (s.firstTime pu) pu).tripEvent pu else s)

/-- TRIP_CLEAR (R158, R163, R374): a bit clears if its source has been inactive for its filter length; else CLEAR_REFUSED.
TRIPPED falls with the last bit. In joined mode PU1's trip registers ignore writes (R154). -/
def execTripClear (pu : Fin 5) (mask quiet : BitVec 19) (s : State) : Out :=
  let n : Nat := pu
  if !s.pdOn (puDomain pu) || (s.joined && n = 1) then .next s
  else
    let held := s.pit 0x12 3 n && bit mask.toNat (s.get PU.PIT_CTL.SRC n) && s.getBit PU.TRIP_STAT.SRC (s.get PU.PIT_CTL.SRC n) n
    let free (k : Nat) : Bool := bit quiet.toNat k && !s.getBit PU.tripIn k n && !(held && k == s.get PU.PIT_CTL.SRC n)
      && !(s.joined && n == 0 && s.getBit PU.tripIn k 1)
    let s1 := (s.on held (·.pitAct)).forN 19 fun k t =>
      if !bit mask.toNat k || !t.getBit PU.TRIP_STAT.SRC k n then t
      else if free k then t.setBit PU.TRIP_STAT.SRC k false n
      else t.set PU.TRIP_STAT.CLEAR_REFUSED 1 n
    let left := s1.is PU.TRIP_STAT.SRC n
    .next ((s1.setb PU.TRIP_STAT.TRIPPED left n).setb PU.STATUS.TRIPPED left n)

/-- FIRST_FAULT_REARM (R157): VALID is cleared; a capture still open ends, and its trip's event is raised. -/
def execFirstFaultRearm (pu : Fin 5) (s : State) : Out :=
  .next (if !s.pdOn (puDomain pu) then s else if s.joined && pu = 1 then s else ((s.set PU.capOpen 0 pu).tripEvent pu).set PU.FIRST_FAULT.VALID 0 pu)

/-- SW_TRIP (R89, R151, R153, R154); nothing while PLL_MAIN has stopped (R162). UNIT of a source that belongs to no island, channel or phase, as SW,
HALT and CLK, is not stated: 0 (DESIGN CHOICE, log entry 37). -/
def execSwTrip (pu : Fin 5) (s : State) : Out :=
  .next (if !s.pdOn (puDomain pu) then s else if (s.joined && pu = 1) || s.is SYS.pllDown then s else s.tripNow pu 18)

namespace State

/-- The engines halt (R160, R161, R184), their open signature window is dropped, and the counters of all units stop; HALT trips every
unit but an aux unit with FRZ, whose outputs stay as they are. -/
def engHalt (s : State) : State :=
  let s1 := (s.forN 7 fun e t => (t.set CE.STATUS.HALTED 1 e).set CE.sigOn 0 e).set SEC.DBG_STAT.HALT 1
  s1.forN 5 fun u t =>
    let t1 := (t.cntStop u).set PU.STATUS.HALTED 1 u
    if 2 ≤ u && t1.is PU.CTL.FRZ u then (t1.set PU.STATUS.FROZEN 1 u).forN 6 fun k v => v.set PU.onT 0 u k
    else (t1.tripIn u 16).tripNow u 16

/-- Every halt ends (R160, R441): HALT becomes inactive; the frozen units go on from their frozen count; the Belay lines run again. -/
def engRelease (s : State) : State :=
  if !s.is SEC.DBG_STAT.HALT then s
  else
    let s1 := (s.forN 7 fun e t => (((t.set CE.STATUS.HALTED 0 e).set CE.stepOnce 0 e).set CE.ovRun 0 e).set CE.stopT t.now e).set SEC.DBG_STAT.HALT 0
      |>.forN 2 fun c t => t.set SYS.wdT t.now c
    let s2 := s1.forN 5 fun u t => t.on (t.is PU.STATUS.HALTED u) fun t =>
      (((t.set PU.STATUS.HALTED 0 u).set PU.STATUS.FROZEN 0 u).tripIn u 16 false).cntResume u
    s2.on (s2.is BL.halted) fun t => (t.set BL.halted 0).lines.ssout

end State

/-- DEBUG_HALT (R160, R161, R184, R396): at D2 or D3; at D3 the Belay island may be halted too. -/
def execDebugHalt (belay : Bool) (s : State) : Out :=
  .next (if !s.is SEC.DBG_STAT.OPEN || decide (s.get SEC.DBG_STAT.LEVEL < 2) then s
    else s.engHalt.on (belay && s.get SEC.DBG_STAT.LEVEL == 3) fun t => (t.set BL.halted 1).lines.ssout)

/-- DEBUG_RELEASE (R160, R441). -/
def execDebugRelease (s : State) : Out := .next s.engRelease

/-- The conditions of a freeze (R161): PROVISIONED, a debug session at D2 or higher, V_dc below 60 V and not lost. -/
def State.frzOk (s : State) : Bool :=
  s.get SEC.LC_STAT.STATE == 1 && s.is SEC.DBG_STAT.OPEN && decide (2 ≤ s.get SEC.DBG_STAT.LEVEL)
    && decide (s.get SEN.VDC_VAL.FILT * s.vBase 0 < 600 * 32768) && !s.is SEN.VDC_STAT.LOST

/-- FRZ (R161): a 1 is accepted under its conditions only; in PU0 and PU1 the bit is reserved. -/
def execPuFrz (pu : Fin 5) (value : Bool) (s : State) : Out :=
  .next (if !s.pdOn (puDomain pu) then s else if pu.val < 2 then s
    else if !value then s.set PU.CTL.FRZ 0 pu
    else if s.frzOk then s.set PU.CTL.FRZ 1 pu
    else s.accessRefused (PU.CTL.FRZ.addr pu 0) 256)

/-- A freeze ends (R161): the bridge turns off and FRZ clears. -/
def State.frzEnd (s : State) (pu : Nat) : State :=
  s.on (s.is PU.STATUS.FROZEN pu) fun t =>
    (((t.bridgeOff pu).set PU.STATUS.FROZEN 0 pu).set PU.CTL.FRZ 0 pu).set PU.STATUS.FRZ_ABORT 1 pu

/-- FRZ_ABORT (R161): a condition fails while the unit is frozen: the bridge turns off and FRZ clears. -/
def execFrzAbort (pu : Fin 5) (s : State) : Out :=
  .next (s.on (!s.frzOk) (·.frzEnd pu))

/-- PU_PIT_ARM (R163, R329). -/
def execPuPitArm (pu : Fin 5) (sel : BitVec 4) (src : BitVec 5) (s : State) : Out :=
  .next (if !s.pdOn (puDomain pu) then s else s.pitArm ((s.set PU.PIT_CTL.SEL sel.toNat pu).set PU.PIT_CTL.SRC src.toNat pu) PU.PIT_CTL.ARM pu 0x12 sel.toNat pu
    (2 ^ 31 + src.toNat * 256 + sel.toNat) (1 ≤ sel.toNat ∧ sel.toNat ≤ 4))

/-- PU_STROBE_LOSS (R162, R443): the ABI turns every switch of the bridge off after 1 µs without a valid PU strobe. -/
def execPuStrobeLoss (pu : Fin 5) (s : State) : Out :=
  .next (if pu.val < 2 then s else s.bridgeOff pu)

end Sys2Proof.Machine
end

