-- ==== Sys2Proof/Machine/CeOps.lean ====
section
/-!
DEFINITION. The engine core (07): the engines and their pairs, registers with their tags and marks, the signature, stores, the
pair's fault, and how an instruction runs. Engine e: 0 to 3 CE0 to CE3, 4 OB0, 5 OB1, 6 AX. An instruction is one code word.
-/
namespace Sys2Proof.Machine

/-- The engine runs in a rope pair. -/
def isRope (e : Nat) : Bool := decide (e < 4)

/-- The engines of a unit: a pair, or one OB. -/
def unitEngines (u : Nat) : List Nat := if u < 2 then [2 * u, 2 * u + 1] else [u + 2]

/-- The axis of an engine. -/
def engAxis (e : Nat) : Nat := if e < 4 then e / 2 else e - 4

namespace State

/-- The axis's channel is enabled whose programs the engine runs (R176). -/
def engAxisEn (s : State) (e : Nat) : Bool :=
  if e < 6 then s.axEn (engAxis e) else [2, 3, 4].any fun ch => s.is ACT.chEn ch

/-- The engine executes: its program runs and it is neither stopped nor halted (R167, R172, R184); halted, it
executes the one instruction of a single step (R396). -/
def engOn (s : State) (e : Nat) : Bool :=
  s.is CE.CTL.RUN e && s.is CE.prog e && !s.is CE.stop e && (!s.is CE.STATUS.HALTED e || s.is CE.stepOnce e)

/-- A rope pair faults (R183): RP_FAULT, and the fault reaches the Belay island. -/
def pairFault (s : State) (p : Nat) : State :=
  if s.is CE.RP_STAT.RP_FAULT (2 * p) then s
  else ((s.raise .fault CE.RP_STAT.RP_FAULT (2 * p) 0 p).set CE.RP_STAT.RP_FAULT 1 (2 * p + 1)).unsafeAxis p .rpFault

/-- The pair faults with a cause bit, in both engines. -/
def pairCause (s : State) (p : Nat) (cause : Row) : State :=
  ((s.set cause 1 (2 * p)).set cause 1 (2 * p + 1)).pairFault p

/-- An engine stops until a BLK reset, with its flag (R167, R181); in a pair the pair faults. -/
def engStop (s : State) (e : Nat) (flag : Row) : State :=
  let s1 := (((s.raise .fault flag e).set CE.stop 1 e).set CE.stopT s.now e).set CE.prog 0 e
  s1.on (isRope e) (·.pairFault (e / 2))

/-- TAINT_BR and TAINT_ST (R181). -/
def engTaint (s : State) (e : Nat) (flag : Row) : State := (s.engStop e flag).pairCause (e / 2) CE.RP_STAT.TAINT

/-- Words enter the signature (R180); the polynomial is not stated (log entry 8). -/
def engSign (s : State) (e : Nat) (xs : List Int) : State :=
  s.on (isRope e) fun t => t.set CE.sig (Config.free 180 (t.get CE.sig e :: xs)) e

/-- An event of an engine that performance counters may count (R470): CE by instance, OB0, OB1 and AX by SOURCE. -/
def engCount (s : State) (e event n : Nat) : State :=
  if e < 4 then s.perfAdd 0x15 e event n
  else s.perfAdd (if e = 4 then 0x13 else if e = 5 then 0x14 else 0x18) 0 event n

/-- The instruction's fetch: its address enters the signature, its cycles are counted. -/
def engFetch (s : State) (e cycles : Nat) : State :=
  let s1 := (((s.set CE.stepOnce 0 e).engSign e [s.get CE.pc e]).set CE.cyc (s.get CE.cyc e + cycles) e).set CE.total (s.get CE.total e + cycles) e
  s1.engCount e 1 cycles |>.engCount e 2 1

/-- After an instruction: the next code word, or the loop's first one while passes are left (R167). -/
def engNext (s : State) (e : Nat) : State :=
  let pc := s.get CE.pc e
  match s.engLoops.find? (fun l => l.eng == e) with
  | some l =>
    if l.last = pc then
      let rest := s.engLoops.eraseP (fun l => l.eng == e)
      if 2 ≤ l.left then { s.set CE.pc l.first e with engLoops := { l with left := l.left - 1 } :: rest }
      else { s.set CE.pc (pc + 1) e with engLoops := rest }
    else s.set CE.pc (pc + 1) e
  | none => s.set CE.pc (pc + 1) e

/-- An instruction of an engine that executes; of one that does not, nothing happens. -/
def engRun (s : State) (e cycles : Nat) (f : State → State) : State :=
  if s.engOn e then (f (s.engFetch e cycles)).engNext e else s

/-- The same for an instruction that places the program counter itself. -/
def engJump (s : State) (e cycles : Nat) (f : State → State) : State :=
  if s.engOn e then f (s.engFetch e cycles) else s

/-- A data register's value, signed Q15 (R164). -/
def dVal (s : State) (e n : Nat) : Int := s.geti CE.d e n

/-- A data register's tag. -/
def dTag (s : State) (e n : Nat) : Bool := s.getBit CE.dM 0 e n

/-- An accumulator's value, signed Q9.30 (R164). -/
def aVal (s : State) (e n : Nat) : Int := s.geti CE.a e n

/-- An accumulator's tag. -/
def aTag (s : State) (e n : Nat) : Bool := s.getBit CE.aM 0 e n

/-- A result in a data register with its tag and marks (R179). -/
def putD (s : State) (e n : Nat) (v : Int) (tag : Bool) (clamped : Bool := false) (ovf : Bool := false) : State :=
  (s.seti CE.d v e n).set CE.dM (ofBool (tag && isRope e) + 2 * ofBool clamped + 4 * ofBool ovf) e n

/-- An exact result clamped into a data register (R165): SAT if it clamps. -/
def satD (s : State) (e n : Nat) (x : Int) (tag : Bool) (ovf : Bool := false) : State :=
  let c := decide (sat16 x ≠ x)
  (s.putD e n (sat16 x) tag c ovf).on c (·.raise .warning CE.FLAGS.SAT e)

/-- A result in an accumulator (R165): OVF if it clamps. -/
def satA (s : State) (e n : Nat) (x : Int) (tag : Bool) (ovf : Bool := false) : State :=
  let c := decide (satI 40 x ≠ x)
  ((s.seti CE.a (satI 40 x) e n).set CE.aM (ofBool (tag && isRope e) + 2 * ofBool (c || ovf)) e n).on c
    (·.raise .warning CE.FLAGS.OVF e)

/-- A result in a predicate. -/
def putC (s : State) (e n : Nat) (b tag : Bool) : State := (s.setb CE.c b e n).setb CE.cM (tag && isRope e) e n

/-- A result in an address register. -/
def putP (s : State) (e n v : Nat) (tag : Bool) : State := (s.set CE.p v e n).setb CE.pM (tag && isRope e) e n

/-- A word of local data. -/
def ldWord (s : State) (e word : Nat) : Int := s.geti CE.ld e (word % 16384)

/-- Its tag. -/
def ldTag (s : State) (e word : Nat) : Bool := s.is CE.ldM e (word % 16384)

/-- A store through an address register (R179 to R181): through a tagged address outside the TAG region it raises TAINT_ST and
stores nothing; an untagged value to an untagged word enters the signature. -/
def engStore (s : State) (e p off : Nat) (v : Int) (tag : Bool) : State :=
  let addr := s.get CE.p e p + 2 * off
  let w := addr / 2 % 16384
  if s.is CE.stop e then s
  else if isRope e && s.is CE.pM e p && (decide (addr < s.get CE.RP_CFG.TAG_BASE e) || decide (s.get CE.RP_CFG.TAG_END e < addr)) then
    s.engTaint e CE.FLAGS.TAINT_ST
  else
    let s1 := s.on (!tag && !s.ldTag e w) (·.engSign e [addr, v])
    (s1.seti CE.ld v e w).setb CE.ldM (tag && isRope e) e w

/-- A value between two limits; with the limits crossed the spec states no result, and it is free (log entry 8). -/
def clampF (tag : Nat) (lo hi x : Int) : Int :=
  if hi < lo then toSigned 16 (Config.free tag [lo, hi, x]) else clampI lo hi x

/-- Rounding to nearest with halves up, dropping 15 fraction bits (R165). -/
def round15 (x : Int) : Int := roundShift 15 x

end State

namespace State

/-- The mechanical angle of the source that POS offers (R169): of a sensorless source, and where no source is valid, it is not stated, and
free. -/
def mechAngle (s : State) (a : Nat) : Nat :=
  let x := srcAxis a ((s.offered a).getD 2)
  match s.offered a with
  | some 0 | some 3 => s.get POS.thM x
  | some 1 | some 4 => quotN (s.get POS.INC_POS.POS x * 65536) (s.get POS.INC_CPR.CPR x) % 65536
  | _ => Config.free 169 [s.get POS.offAng a, s.poles a] % 65536

/-- The electrical speed of the offered source, or the mechanical one. -/
def mechSpeed (s : State) (a : Nat) : Int := quot (s.geti POS.offSpd a) (s.poles a)

/-- An engine's table port is locked and returns 0 (R395); AX has none (R394). -/
def portLocked (s : State) (e : Nat) : Bool := decide (e < 6) && s.is SEC.CAL_STAT.TBL_LOCK

/-- Entry `k` of the table of a feed-forward slot (R174). -/
def ffsWord (s : State) (e slot k : Nat) : Int :=
  if s.portLocked e then 0 else s.tableWord (s.get CE.FF_CFG.HANDLE e slot) (k % 1024)

/-- A feed-forward slot (R174): v × GAIN before its saturation, and the factor that SGN asks for; 0 with HANDLE 0. -/
def ffsValue (s : State) (e slot : Nat) : Int × Int :=
  if s.get CE.FF_CFG.HANDLE e slot = 0 then (0, 1)
  else
    let a := s.lead (engAxis e)
    let mech := s.is CE.FF_CFG.IDX e slot
    let th : Int := if mech then s.mechAngle a else s.get POS.offAng a
    let w := if mech then s.mechSpeed a else s.geti POS.offSpd a
    let ang := ofSigned 16 (th + s.travelled a w (160 * s.get CE.FF_CFG.LEAD e slot) + s.get CE.FF_PH.OFS e slot)
    let t0 := s.ffsWord e slot (ang / 64)
    let v := t0 + roundShift 6 ((s.ffsWord e slot (ang / 64 + 1) - t0) * (ang % 64 : Nat))
    (quot (v * s.geti CE.FF_PH.GAIN e slot) 32768,
      if !s.is CE.FF_CFG.SGN e slot then 1 else if 0 < w then 1 else if w < 0 then -1 else 0)

/-- The sum of an engine's enabled slots (R175). -/
def ffsSum (s : State) (e : Nat) : Int := ((List.range 4).map fun n => sat16 (s.ffsValue e n).1 * (s.ffsValue e n).2).sum

/-- The result registers of OB, as IN numbers them (R169). -/
def obResult (s : State) (a k : Nat) : Nat :=
  match k with
  | 0 => s.get OB.PSI_VAL.PSI_MAG a
  | 1 => s.get OB.PSI_VAL.PSI_ANG a
  | 2 => s.get OB.TQ_VAL.T_EST a
  | 3 => s.get OB.TQ_VAL.RES a
  | 4 => s.get OB.SLS_VAL.SLS_ANG a
  | 5 => s.get OB.SLS_VAL.SLS_SPD a
  | 6 => s.get OB.XY_VAL.I_X a
  | 7 => s.get OB.XY_VAL.I_Y a
  | 8 => s.get OB.RS_VAL.RS_EFF a
  | 9 => s.get OB.INJ_VAL.EPS a
  | 10 => s.get OB.INJ_VAL.I_HF a
  | 11 => s.get OB.CATCH_VAL.CATCH_ANG a
  | _ => s.get OB.CATCH_VAL.CATCH_SPD a

/-- F × T_LIM (R105, R372). -/
def thermalLimit (s : State) (a : Nat) (neg : Bool) : Nat :=
  quotN (s.get HK.thrIn a * s.secField (s.axisCh a) 0x050 (if neg then 31 else 15) (if neg then 16 else 0)) 16

/-- F × I_LIM (R239, R372). -/
def currentLimit (s : State) (a : Nat) : Nat := quotN (s.get HK.thrIn a * s.secField (s.axisCh a) 0x054 15 0) 16

/-- The channel of an engine's setpoint port. -/
def engCh (s : State) (e : Nat) : Nat := if e < 6 then s.axisCh (engAxis e) else 2 + s.get CE.lCh e

/-- What a port reads (R169), as 16 bits. The partner's sample markers, whose form is not stated, are drawn afresh by IN. -/
def portValue (s : State) (e : Nat) : Sys2Proof.EngPort → Nat
  | .fast ch => s.get SEN.fastPort ch
  | .ctrl ch => s.get OB.ctrlPort (ch.val / 3) (ch.val % 3)
  | .vdc => s.get SEN.VDC_VAL.FAST
  | .angle => s.get POS.offAng (s.lead (engAxis e))
  | .speed => s.get POS.offSpd (s.lead (engAxis e))
  | .mech => s.mechAngle (s.lead (engAxis e))
  | .ob k => s.obResult (s.lead (engAxis e)) k
  | .setpoint 0 => s.get CE.spVal (s.engCh e)
  | .setpoint 1 => s.get CE.spLim (s.engCh e)
  | .setpoint _ => s.get CE.spMode (s.engCh e)
  | .thermal neg => s.thermalLimit (s.lead (engAxis e)) neg
  | .bivouac => s.belayLimit (s.lead (engAxis e))
  | .marker _ => Config.fresh s.fresh
  | .auxCurrent ph =>
    let k := s.get CE.lCh e
    if ph = 0 then s.get AX.CH_CUR_UV.I_U k else if ph = 1 then s.get AX.CH_CUR_UV.I_V k else s.get AX.CH_CUR_W.I_W k
  | .auxSpeed => s.get AX.CH_SPD.SPD_MEAS (s.get CE.lCh e)
  | .channel => s.get CE.lCh e
  | .mode => s.get CE.lMode e
  | .period => s.get CE.lNo e
  | .entry => s.get CE.lEnt e
  | .modeChange => s.get CE.lChg e

end State

/-- A state port: its value is latched at the period start and carries no tag (R169, R179). -/
def statePort : Sys2Proof.EngPort → Bool
  | .channel | .mode | .period | .entry | .modeChange => true
  | _ => false

/-- A partner's sample marker. -/
def markerPort : Sys2Proof.EngPort → Bool
  | .marker _ => true
  | _ => false

namespace State

/-- OUT_PH of the period (R170). -/
def outPh (s : State) (e : Nat) : Nat :=
  if s.get CE.lEnt e = 1 then s.get CE.PERIOD_CFG.OUT_PH_CAR e else s.get CE.PERIOD_CFG.OUT_PH_TBL e

/-- The target of a branch. -/
def engTarget (s : State) (e : Nat) : Sys2Proof.EngTarget → Nat × Bool
  | .imm w => (w.toNat, false)
  | .reg p => (s.get CE.p e p, s.is CE.pM e p)

/-- The program counter goes to a target; a tagged one raises TAINT_BR in a rope pair (R181). -/
def engGoto (s : State) (e : Nat) (t : Nat × Bool) (f : State → State) : State :=
  if t.2 && isRope e then s.engTaint e CE.FLAGS.TAINT_BR else (f s).set CE.pc t.1 e

/-- The period's source and entry by MODE (R168): whether it is the PU reload, and 0 IDL, 1 CAR, 2 TBL. -/
def modeEntry (m : Nat) : Bool × Nat :=
  if m = 2 || m = 3 || m = 5 then (true, 1) else if m = 0 || m = 7 then (false, 0) else (false, 2)

/-- One tolerance count of an output (R182): three periods in a row fault the pair. -/
def tolCount (s : State) (p n : Nat) (bad : Bool) : State :=
  let s1 := s.set CE.tol (if bad then s.get CE.tol (2 * p) n + 1 else 0) (2 * p) n
  if 3 ≤ s1.get CE.tol (2 * p) n then (s1.set CE.tol 2 (2 * p) n).pairCause p CE.RP_STAT.TOL_FAULT else s1

/-- A period's tolerance verdicts (R182, R184): the outputs judged and those out of tolerance. -/
def tolPeriod (s : State) (p judged bad : Nat) : State :=
  let s1 := s.forN 8 fun n t => if bit judged n then t.tolCount p n (bit bad n) else t
  let s2 := (s1.set CE.RP_STAT.TOL_OUT bad (2 * p)).set CE.RP_STAT.TOL_OUT bad (2 * p + 1)
  s2.on (bad != 0) fun t => (t.incSat CE.RP_STAT.TOL_PERIODS (2 * p)).incSat CE.RP_STAT.TOL_PERIODS (2 * p + 1)

/-- The program of an engine ends (R172); CE.OVR.PIT holds the partner's END past the next period start (R185). -/
def engDone (s : State) (e : Nat) : State :=
  let s1 := s.on (s.pit 0x15 4 (e / 2) && isRope e && e % 2 == 1) fun t => t.pitAct.set CE.endHold 1 e
  if s1.is CE.endHold e then s1 else s1.set CE.prog 0 e

/-- The outputs that OUT_MAP gives a destination. -/
def mapped (s : State) (e : Nat) : Nat :=
  ((List.range 8).map fun n => if s.get CE.OUT_MAP.DESTn e / 16 ^ n % 16 = 0 then 0 else 2 ^ n).sum

/-- The period's outputs are dropped. -/
def dropOutputs (s : State) (es : List Nat) : State := es.foldl (fun t e => (t.set CE.outW 0 e).set CE.done 1 e) s

/-- OVERRUN (R172, R184): programs without END are stopped, the outputs dropped; of a pair's two engines one alone is
SOLO_OVR, both are one period out of tolerance for every mapped output. -/
def overrun (s : State) (u : Nat) : State :=
  let es := unitEngines u
  let late := es.filter fun e => s.is CE.prog e && !s.is CE.stop e
  if late.isEmpty then s
  else
    let s1 := late.foldl (fun t e => ((t.set CE.prog 0 e).raise .fault CE.FLAGS.OVERRUN e).incSat CE.ovRun e) s
    let s2 := s1.dropOutputs es
    if 2 ≤ u then s2
    else if late.length = 1 then s2.pairCause u CE.RP_STAT.SOLO_OVR
    else s2.tolPeriod u (s2.mapped (2 * u)) (s2.mapped (2 * u))

/-- The signature window closes (R180, R185): the two are compared and the lead's is kept. -/
def closeWindow (s : State) (p : Nat) : State :=
  if !s.is CE.sigOn (2 * p) then s
  else
    let pit := s.pit 0x15 1 p
    let s1 := s.on pit fun t => t.pitAct.set CE.sig (t.get CE.sig (2 * p + 1) ^^^ 1) (2 * p + 1)
    let l := s1.get CE.sig (2 * p)
    let keep (t : State) (e : Nat) : State := (t.set CE.SIG.SIG l e 0).set CE.SIG.SIG (l / 2 ^ 32) e 1
    let s2 := keep (keep s1 (2 * p)) (2 * p + 1)
    if l = s1.get CE.sig (2 * p + 1) then s2 else s2.pairCause p CE.RP_STAT.SIG_MIS

/-- Coefficients at a period start (R176, R177): the banks switch if a REFRESH waits; every direct write that waits takes effect
and is counted. Of two writes to one word within a period the last one waits, and APPLIED counts one: R176 does not say (DESIGN CHOICE, log
entry 37). -/
def coefApply (s : State) (e : Nat) : State :=
  let s1 := s.on (s.is CE.COEF_CTL.PEND e) fun t =>
    let u := t.forN 256 fun i v =>
      let old := v.get CE.COEF_WIN.WORD e i
      (v.set CE.COEF_WIN.WORD (v.get CE.coefRef e i) e i).set CE.coefRef old e i
    (u.set CE.COEF_CTL.PEND 0 e).set CE.COEF_CTL.BANK (1 - u.get CE.COEF_CTL.BANK e) e
  s1.forN 256 fun i t =>
    if t.is CE.coefPend e i then
      ((t.set CE.COEF_WIN.WORD (t.get CE.coefNew e i) e i).set CE.coefPend 0 e i).inc CE.COEF_CTL.APPLIED e
    else t

/-- One engine's period begins (R168, R169): the state ports are latched and the program starts at its entry. -/
def engBegin (s : State) (e mode : Nat) (chg : Bool) : State :=
  let ent := (modeEntry mode).2
  let s1 := (s.coefApply e).inc CE.STATUS.PERIOD_NO e
  let s2 := (((s1.set CE.lMode mode e).set CE.lNo (s1.get CE.STATUS.PERIOD_NO e) e).set CE.lEnt ent e).setb CE.lChg chg e
  let pc := if ent = 1 then s2.get CE.ENTRY0.ENTRY_CAR e else if ent = 2 then s2.get CE.ENTRY0.ENTRY_TBL e else s2.get CE.ENTRY1.ENTRY_IDL e
  let s3 := (((s2.set CE.STATUS.ENTRY_SEL ent e).set CE.pc pc e).set CE.cyc 0 e).set CE.relAt 0 e
  let s4 := ((((s3.set CE.rel 0 e).set CE.done 0 e).set CE.outW 0 e).set CE.sig 0 e).set CE.endHold 0 e
  let s5 := ((s4.set CE.sigOn (ofBool (isRope e)) e).set CE.open 1 e).setb CE.prog (!s4.is CE.stop e) e
  { s5 with engCalls := s5.engCalls.filter (fun c => c.1 != e), engLoops := s5.engLoops.filter (fun l => l.eng != e) }

/-- A period start of a pair or of an OB (R168, R172, R176 to R180): only at the trigger that MODE selects. -/
def periodStart (s : State) (u : Nat) (reload : Bool) : State :=
  let es := unitEngines u
  let e := es.headD 0
  let m := s.mode (u % 2)
  if !s.is CE.CTL.RUN e || s.is CE.STATUS.HALTED e || (modeEntry m).1 != reload then s
  else
    let same := s.is CE.open e && (modeEntry (s.get CE.lMode e)).1 == reload
    let chg := s.is CE.open e && s.get CE.lMode e != m
    let s1 := if same then s.overrun u else s.dropOutputs es
    let s2 := s1.on (u < 2) (·.closeWindow u)
    es.foldl (fun t x => t.engBegin x m chg) s2

/-- One delivery (R186): the destination code, the value and whether it lands late. A reference write ends the staleness of R106; of T_REF
and PSI_REF, each that lands late counts (DESIGN CHOICE, log entry 37). -/
def deliver (s : State) (a code v : Nat) (lateCmp lateRef : Bool) : State :=
  let ref (t : State) : State :=
    (if lateRef then (t.set SQ.refLate 1 a).incSat SQ.FLAGS.REF_LATE_CNT a else t.set SQ.refPend 1 a).set SQ.refAge 0 a
      |>.tripIn a 10 false
  match code with
  | 1 | 2 | 3 => s.cmpWrite a (code - 1) v lateCmp
  | 4 => s.commitGo a lateCmp
  | 5 => ref (s.set SQ.tRefSh v a)
  | 6 => ref (s.set SQ.psiRefSh v a)
  | 7 => s.set BL.tCe v a
  | 8 => s.set BL.tCmd v a
  | 9 | 10 | 11 => s.on s.joined (·.cmpWrite 1 (code - 9) v lateCmp)
  | _ => s

/-- The outputs written in the period are delivered in order, a COMMIT last (R170). -/
def deliverAll (s : State) (e a : Nat) (lateCmp lateRef : Bool) : State :=
  let w := s.get CE.outW e
  let code (n : Nat) : Nat := s.get CE.OUT_MAP.DESTn e / 16 ^ n % 16
  let ns := (List.range 8).filter fun n => bit w n
  let order := ns.filter (fun n => code n != 4) ++ ns.filter (fun n => code n == 4)
  order.foldl (fun t n => t.deliver a (code n) (s.get CE.outV e n) lateCmp lateRef) s

/-- The released values in OUTn. -/
def showOut (s : State) (src e : Nat) : State :=
  s.forN 8 fun n t => t.on (bit (t.get CE.outW src) n) fun v => v.set CE.OUT.VAL (v.get CE.outV src n) e n

/-- |lead − partner| ≤ RP_TOLn (R182). -/
def inTol (s : State) (p e f n : Nat) : Bool :=
  let tol := if n % 2 = 0 then s.get CE.RP_TOL.TOLx (2 * p) (n / 2) else s.get CE.RP_TOL.TOLy (2 * p) (n / 2)
  decide ((s.geti CE.outV e n - s.geti CE.outV f n).natAbs ≤ tol)

/-- CE.TOL.PIT (R185): 2 × RP_TOL0 more in the partner's OUT0 for three periods. -/
def tolPiton (s : State) (p : Nat) : State :=
  let s1 := s.on (s.pit 0x15 2 p) fun t => t.pitAct.set CE.tolPit 3 (2 * p)
  s1.on (s1.is CE.tolPit (2 * p)) fun t =>
    (t.seti CE.outV (t.geti CE.outV (2 * p + 1) 0 + 2 * t.get CE.RP_TOL.TOLx (2 * p) 0) (2 * p + 1) 0).set CE.tolPit
      (t.get CE.tolPit (2 * p) - 1) (2 * p)

/-- A pair's release (R170, R182): outputs of different sets fault the pair at once; the lead's values are delivered, in
tolerance or not. In joined mode CE2 is held against CE0 too, and only CE0's values are delivered. -/
def pairRelease (s : State) (p : Nat) (lateCmp lateRef : Bool) : State :=
  let l := 2 * p
  let f := 2 * p + 1
  if s.get CE.outW l ≠ s.get CE.outW f then (s.pairCause p CE.RP_STAT.MASK_MIS).dropOutputs [l, f]
  else
    let s1 := s.tolPiton p
    let w := s1.get CE.outW l
    let bad (n : Nat) : Bool := bit w n && (!s1.inTol p l f n
      || (s1.joined && p == 0 && bit (s1.get CE.outW 2) n && !s1.inTol p 0 2 n))
    let mask := ((List.range 8).map fun n => if bad n then 2 ^ n else 0).sum
    let s2 := if s1.joined && p == 1 then s1 else s1.deliverAll l p lateCmp lateRef
    let s3 := (if s1.joined && p == 1 then s2 else (s2.showOut l l).showOut l f).tolPeriod p w mask
    (s3.set CE.done 1 l).set CE.done 1 f

/-- The AX period of a channel begins (R222): its cycles count from the channel's own reload. -/
def axBegin (s : State) (k : Nat) : State :=
  let s1 := (s.engBegin 6 2 false).set CE.lCh k 6
  s1.set CE.cyc (s1.get CE.total 6 - s1.get AX.pendT k) 6

/-- The AX program in progress has ended or is stopped: its outputs stand until the release of its period, and the next pending
period starts (R222). -/
def axEnd (s : State) : State :=
  let k := s.get CE.lCh 6
  let s1 := s.forN 8 fun n t => t.set AX.oV (t.get CE.outV 6 n) k n
  let s2 := (s1.set AX.oW (s1.get CE.outW 6) k).setb AX.oRel (s1.is CE.rel 6) k
  let s3 := (s2.set CE.prog 0 6).set CE.open 0 6
  let q := s3.get AX.pendQ
  if q = 0 then s3 else (s3.set AX.pendQ (q / 4)).axBegin (q % 4 - 1)

/-- OVERRUN of AX (R172, R222): the program in progress is stopped and its outputs dropped. -/
def axOverrun (s : State) : State :=
  if s.is CE.prog 6 && !s.is CE.stop 6 then
    let s1 := ((s.raise .fault CE.FLAGS.OVERRUN 6).incSat CE.ovRun 6).axEnd
    s1.set AX.oRel 0 (s.get CE.lCh 6)
  else s

/-- A reload of an aux unit starts the channel's period, or makes it pending behind another channel's (R222). -/
def axTrigger (s : State) (k : Nat) : State :=
  let mine := s.is CE.prog 6 && s.get CE.lCh 6 == k
  let s1 := if mine then s.axOverrun else s
  let s2 := s1.set AX.pendT (s1.get CE.total 6) k
  let q := s2.get AX.pendQ
  let waits := q % 4 == k + 1 || q / 4 % 4 == k + 1 || q / 16 % 4 == k + 1
  if s2.is CE.stop 6 then s2
  else if waits then (s2.raise .fault CE.FLAGS.OVERRUN 6).incSat CE.ovRun 6
  else if !s2.is CE.prog 6 then s2.axBegin k
  else s2.set AX.pendQ (if q = 0 then k + 1 else if q < 4 then q + 4 * (k + 1) else q + 16 * (k + 1))

/-- The release of an AX channel's period (R222): OUT0 to OUT2 to the compares, then OUT3 to COMMIT.GO; duties are held to
BS_DMAX while the clamp of R230 stands, and the fundamental to the voltage limit (R228). -/
def axRelease (s : State) (k : Nat) (late : Bool) : State :=
  let live := s.is CE.prog 6 && s.get CE.lCh 6 == k
  let rel := if live then s.is CE.rel 6 && !s.is CE.done 6 else s.is AX.oRel k
  if !rel then s
  else
    let w := if live then s.get CE.outW 6 else s.get AX.oW k
    let v (n : Nat) : Nat := if live then s.get CE.outV 6 n else s.get AX.oV k n
    let top := if s.is AX.bsClamp k then s.get AX.CH_BS_LIM.BS_DMAX k * s.get PU.perAct (2 + k) / 32768 else 65535
    let c := s.axVoltCut k ((List.range 3).map fun n => if bit w n then v n else s.get PU.shadow (2 + k) n)
    let s1 := s.forN 3 fun n t => if bit w n then t.cmpWrite (2 + k) n (min (c.getD n 0) top) late else t
    let s2 := s1.on (bit w 3) (·.commitGo (2 + k) late)
    let s3 := s2.forN 8 fun n t => if bit w n then t.set CE.OUT.VAL (v n) 6 n else t
    if live then s3.set CE.done 1 6 else s3.set AX.oRel 0 k

end State
end Sys2Proof.Machine
end

