-- ==== Sys2Proof/Machine/Law.lean ====
section
/-!
DEFINITION. The law of the control firmware (R105, R115, R121, R127, R175). The engines' code is part of the signed firmware image, which the
source does not give; the model takes the instructions that are commanded, and in a period of a rope pair without a single one the law that
the rules state, as a whole, at the release (DESIGN CHOICE, log entry 40). What the rules leave to the coefficients, whose layout is the
firmware's, is free: the speed loop's and the current loops' outputs, and PSI_NOM.
-/
namespace Sys2Proof.Machine

/-- The three phases of an α–β vector, or the six with star 2 at 30° (04, Joined mode). -/
def phasesOf (six : Bool) (x y : Int) : List Int :=
  let half (p q : Int) : Int := quot (p * unitF + q * sqrt3F) (2 * unitF)
  [x, half (-x) y, half (-x) (-y)] ++ (if six then [half y x, half y (-x), -y] else [])

namespace State

/-- What is left of a quantity that ramps to zero over OBS_CFG.RAMP_US, `n` ticks after its start (R121, R264). -/
def rampLeft (s : State) (a n : Nat) (x : Int) : Int :=
  let r : Int := 5 * s.get SQ.OBS_CFG.RAMP_US a
  if n = 0 then x else quotF 109 (x * (r - min (2 * (n : Int)) r)) r

/-- T_lim of a sign (R105): the least of the setpoint's limit, where it gives one, the thermal limit and the Belay island's; on a DISABLE it
ramps to zero (R264, R265). -/
def lawLimit (s : State) (p : Nat) (neg : Bool) : Int :=
  let a := s.lead p
  let ch := s.engCh (2 * p)
  let l := min (s.thermalLimit a neg) (s.belayLimit a)
  s.rampLeft a (s.get ACT.rampN ch) ((if s.is CE.spLim ch then min l (s.get CE.spLim ch) else l : Nat) : Int)

/-- T1 (R105, R175): the setpoint's torque, or the speed loop's output, with the feed-forward, within T_lim; after INJ_LOST it ramps to zero
(R121). In a winding discharge it is 0, without a setpoint stream (R340). -/
def lawTorque (s : State) (p : Nat) : Int :=
  let a := s.lead p
  let ch := s.engCh (2 * p)
  let sp := s.geti CE.spVal ch
  let cmd := if s.is CE.spMode ch then toSigned 16 (Config.free 1050 [sp, s.geti POS.offSpd a, s.now]) else sp
  let t := clampI (-(s.lawLimit p true)) (s.lawLimit p false) (sat16 (cmd + s.ffsSum (2 * p)))
  if s.is BL.wind a then 0 else if s.is SQ.injRamp a then s.rampLeft a (s.get SQ.injRampN a) t else t

/-- ψ_fw (R105): FW_K × VDC_FILT / (√3 × max(|ω_e|, W_MIN)). -/
def lawWeak (s : State) (a : Nat) : Int :=
  let w : Int := max (s.geti POS.offSpd a).natAbs (32 * s.get SQ.REF_CFG.W_MIN a)
  quotF 105 (s.get SQ.REF_CFG.FW_K a * s.get SEN.VDC_VAL.FILT * s.vBase a * 10000 * sqrt3F) (3 * unitF * w * s.wBase a * s.psiBase a)

/-- PSI_REF and T_REF (R105). -/
def lawRefs (s : State) (p : Nat) : Int × Int :=
  let a := s.lead p
  let t := s.lawTorque p
  let h := s.get OB.handle a 0
  let mt : Int := if h / 65536 % 256 = 0 then (Config.free 1051 [a] % 32768 : Nat) else s.tableMag (h / 65536 % 256) t.natAbs
  let psi := clampI (s.get SQ.REF_LIM.PSI_MIN a) (s.get SQ.REF_LIM.PSI_MAX a) (min mt (s.lawWeak a))
  let tv := s.tableMag (h / 2 ^ 24 % 256) psi.natAbs
  (psi, if h / 2 ^ 24 % 256 = 0 then t else clampI (-tv) tv t)

/-- The measured dq currents in the frame of the offered angle (R115). -/
def lawMeasured (s : State) (a : Nat) : Int × Int :=
  let i := clarke (s.portCurrents a)
  rotF i.1 i.2 (s.get POS.offAng a)

/-- A pair of current references whose amplitude stays within F × I_LIM, along its own direction (R372; that the limit acts on the
references is DEDUCED, log entry 40). -/
def lawWithin (s : State) (a : Nat) (i : Int × Int) : Int × Int :=
  let lim : Int := s.currentLimit a
  let m : Int := sqrtQ (i.1.natAbs * i.1.natAbs + i.2.natAbs * i.2.natAbs) 1
  if m ≤ lim then i else (quotF 372 (i.1 * lim) m, quotF 372 (i.2 * lim) m)

/-- i_d* and i_q* of the carrier law for T1 (R115), within the phase current limit; in a winding discharge −I_WD and 0 (R340). -/
def lawTargets (s : State) (p : Nat) : Int × Int :=
  let a := s.lead p
  let t := s.lawTorque p
  let h := s.get OB.handle a 1 % 256
  let m := s.tablePair h t.natAbs
  let c : Int := if s.joined then 6 else 3
  if s.is BL.wind a then (-(s.secField 5 0x050 31 16), 0)
  else s.lawWithin a <| if h = 0 then (0, sat16 (quotF 115 (t * s.tBase a * 2000000) (c * s.poles a * s.get OB.mach a 3 * s.iBase a)))
  else (m.1, if t < 0 then -m.2 else m.2)

/-- The current references of a period: in TRAV_DN the measured currents, after the handover a ramp from there to the carrier law's over
RAMP × 50 µs (R127). -/
def lawCurrents (s : State) (p : Nat) : Int × Int :=
  let a := s.lead p
  let e := 2 * p
  let tgt := s.lawTargets p
  let n : Int := s.get SQ.TRAV_TQ.RAMP a * 20000
  let t : Int := (s.now - s.get CE.refT e : Nat)
  let go (x y : Int) : Int := x + quot ((y - x) * t) n
  if s.mode p = 5 then s.lawMeasured a
  else if s.is CE.refOn e && decide (t < n) then (go (s.geti CE.refD0 e) tgt.1, go (s.geti CE.refQ0 e) tgt.2) else tgt

/-- The dq voltage of the present operating point (R127): R_eff × i + jωψ at the measured currents and OB's flux (DEDUCED, log entry 40). -/
def lawPreload (s : State) (a : Nat) (i : Int × Int) : Int × Int :=
  let w := s.geti POS.offSpd a
  let f := rotF (s.geti OB.psi a 0) (s.geti OB.psi a 1) (s.get POS.offAng a)
  let r (x : Int) : Int := quotF 127 (x * s.iBase a * s.rEff a) (400000000000 * s.vBase a)
  let e (x : Int) : Int := quotF 127 (w * s.wBase a * x * s.psiBase a) (10000 * 8388608 * s.vBase a)
  (r i.1 - e f.2, r i.2 + e f.1)

/-- The current loops' dq voltage (R115, R127): in TRAV_DN the preloaded one, else what the loops make of references and currents. -/
def lawLoops (s : State) (p : Nat) : Int × Int :=
  let a := s.lead p
  let i := s.lawMeasured a
  let r := s.lawCurrents p
  let out (k : Nat) : Int := toSigned 16 (Config.free (1150 + k) [r.1, r.2, i.1, i.2, s.geti POS.offSpd a, s.now])
  if s.mode p = 5 then s.lawPreload a i else (out 0, out 1)

/-- The voltage limit |v_dq| ≤ VLIM_K × VDC_FILT / √3 − V_H (R115). -/
def lawVlim (s : State) (a : Nat) : Int :=
  max 0 (quot (s.get SQ.CAR_CFG.VLIM_K a * s.get SEN.VDC_VAL.FILT * sqrt3F) (32768 * 3 * unitF)
    - quotF 117 (s.get OB.INJ_CFG.V_H a * 10 * 32768) (s.vBase a))

/-- The dq voltage within the limit, along its own direction, and whether the limit acts (R115). -/
def lawClamp (s : State) (p : Nat) : (Int × Int) × Bool :=
  let v := s.lawLoops p
  let lim := s.lawVlim (s.lead p)
  let m : Int := sqrtQ (v.1.natAbs * v.1.natAbs + v.2.natAbs * v.2.natAbs) 1
  if m ≤ lim then (v, false) else ((quotF 115 (v.1 * lim) m, quotF 115 (v.2 * lim) m), true)

/-- The voltage of a polarity pulse along the estimated d-axis (R122): ±POL_V while it rises, the opposite while it returns. -/
def polVolt (s : State) (a : Nat) : Int :=
  let v : Int := if s.is OB.polNeg a then -(s.get OB.POL_CFG.POL_V a) else s.get OB.POL_CFG.POL_V a
  match s.get OB.polPh a with
  | 1 => v
  | 2 => -v
  | _ => 0

/-- The α–β voltage (R115, R122): the loops' with the injection on the estimated d-axis, which is never clipped; in a polarity test the pulse
alone. -/
def lawVector (s : State) (p : Nat) : Int × Int :=
  let a := s.lead p
  let d := unrotF (if s.is OB.polRun a then s.polVolt a else s.injVolt a) 0 (s.get OB.injAng a)
  let v := (s.lawClamp p).1
  let u := unrotF v.1 v.2 (s.get POS.offAng a)
  if s.is OB.polRun a then d else (u.1 + d.1, u.2 + d.2)

/-- The compare of phase `k` of the pipeline (R115, R141): the duty with min–max zero-sequence injection, in each star. -/
def lawCompare (s : State) (p k : Nat) : Nat :=
  let a := s.lead p
  let v := s.lawVector p
  let xs := ((phasesOf s.joined v.1 v.2).drop (3 * (k / 3))).take 3
  let hi := xs.foldl max (xs.headD 0)
  let lo := xs.foldl min (xs.headD 0)
  let per : Int := s.get PU.perAct a
  let vdc : Int := s.get SEN.VDC_VAL.FAST
  (clampI 0 per (quotF 115 (per * (vdc + 2 * xs.getD (k % 3) 0 - hi - lo)) (2 * vdc))).toNat

/-- What the law delivers to a destination of R186 in the period's entry, if anything: T_CE is OB's torque, T_CMD is T1 (DEDUCED, log entry
40). -/
def lawValue (s : State) (p code : Nat) : Option Int :=
  let car := s.get CE.lEnt (2 * p) == 1
  match code with
  | 1 | 2 | 3 => if car then some (s.lawCompare p (code - 1)) else none
  | 4 => if car then some 1 else none
  | 5 => if car then none else some (s.lawRefs p).2
  | 6 => if car then none else some (s.lawRefs p).1
  | 7 => some (s.geti OB.TQ_VAL.T_EST (s.lead p))
  | 8 => some (s.lawTorque p)
  | 9 | 10 | 11 => if car && s.joined then some (s.lawCompare p (code - 6)) else none
  | _ => none

/-- The law runs in a period of a rope pair: its program has started, no instruction of it has been commanded, and it has an output phase. -/
def lawDue (s : State) (u : Nat) : Bool :=
  decide (u < 2) && s.is CE.lEnt (2 * u) && (unitEngines u).all fun e =>
    s.is CE.CTL.RUN e && s.is CE.prog e && !s.is CE.cyc e && !s.is CE.done e && !s.is CE.stop e && !s.is CE.STATUS.HALTED e

/-- One engine's outputs by the law: OUTREL and END follow. -/
def lawEngine (s : State) (p e : Nat) : State :=
  let s1 := (List.range 8).foldl (fun t n =>
    match s.lawValue p (s.get CE.OUT_MAP.DESTn e / 16 ^ n % 16) with
    | some v => (t.seti CE.outV v e n).setBit CE.outW n true e
    | none => t) s
  ((s1.on (s.get CE.lEnt e == 1 && !s.is OB.polRun (s.lead p) && (s.lawClamp p).2) (·.raise .warning CE.FLAGS.SAT e)).set CE.rel 1
    e).engDone e

/-- The law's period of a pair (R105, R115), with the start of the ramp of R127 kept. -/
def lawRun (s : State) (p : Nat) : State :=
  let i := s.lawMeasured (s.lead p)
  let s1 := (unitEngines p).foldl (fun t e => t.lawEngine p e) s
  if s.mode p = 5 then
    (((s1.set CE.refOn 1 (2 * p)).seti CE.refD0 i.1 (2 * p)).seti CE.refQ0 i.2 (2 * p)).set CE.refT s.now (2 * p)
  else s1.on (s.mode p != 2) (·.set CE.refOn 0 (2 * p))

end State
end Sys2Proof.Machine
end

