-- ==== Sys2Proof/Machine/Ce.lean ====
section
/-!
DEFINITION. The commands of the engine core (07) and the meaning of each engine instruction.
-/
namespace Sys2Proof.Machine

/-- CE_PERIOD_START (R168, R169, R172, R176 to R180). -/
def execCePeriodStart (unit : Fin 4) (reload : Bool) (s : State) : Out := .next (s.periodStart unit reload)

/-- OVERRUN (R172, R184): at the period start, before it. -/
def execCeOverrun (unit : Fin 5) (s : State) : Out := .next (if unit.val = 4 then s.axOverrun else s.overrun unit)

/-- CE_RELEASE (R170, R182, R183, R185): once in a period in which every engine of the unit has executed OUTREL, not from
ENTRY_IDL, not from a faulted pair. OB's outputs have no destination (R186); an AX channel's go to its unit (R222). In a period of a traction
pair of which no single instruction has been commanded, the control firmware's law has run (R105, R115; log entry 40). -/
def execCeRelease (unit : Fin 7) (lateCmp lateRef : Bool) (s0 : State) : Out :=
  let u : Nat := unit
  let es := unitEngines u
  let e := es.headD 0
  let s := if s0.lawDue u then s0.lawRun u else s0
  .next (if 4 ≤ u then s.axRelease (u - 4) lateCmp
    else if es.all (fun x => s.is CE.rel x && !s.is CE.done x && !s.is CE.stop x) && s.is CE.lEnt e
      && !s.is CE.RP_STAT.RP_FAULT e then
    (if u < 2 then s.pairRelease u lateCmp lateRef else (s.showOut e e).set CE.done 1 e)
  else s)

/-- COEF_WRITE (R176 to R178, R184): to a partner's window, with a REFRESH pending, or to words 0 to 31 of an enabled axis it is
refused; else it waits in both engines of the pair for the next period start. -/
def execCoefWrite (eng : Fin 7) (index : BitVec 8) (word : BitVec 16) (s : State) : Out :=
  let e : Nat := eng
  let put (t : State) (x : Nat) : State := (t.set CE.coefNew word.toNat x index.toNat).set CE.coefPend 1 x index.toNat
  .next (if !s.pdOn (engDomain eng) then s else if (isRope e && !s.is CE.CTL.LEAD e) || s.is CE.COEF_CTL.PEND e || (decide (index.toNat < 32) && s.engAxisEn e) then
      s.set CE.CTL.CFG_REJECT 1 e
    else if isRope e then put (put s e) (e + 1) else put s e)

/-- CE_PIT_ARM (R185, R329): through the lead. OB and AX have no piton field. -/
def execCePitArm (eng : Fin 7) (sel : BitVec 4) (s : State) : Out :=
  let e : Nat := eng
  .next (if !s.pdOn (engDomain eng) then s else s.pitArm (if 4 ≤ e then s else s.set CE.PIT_CTL.SEL sel.toNat e) CE.PIT_CTL.ARM e 0x15 sel.toNat (e / 2) (2 ^ 31 + sel.toNat)
    (s.is CE.CTL.LEAD e && decide (1 ≤ sel.toNat ∧ sel.toNat ≤ 4)))

/-- ILLEGAL (R167). -/
def execEngIllegal (eng : Fin 7) (s : State) : Out :=
  .next (s.engJump eng 0 fun t => t.engStop eng CE.FLAGS.ILLEGAL)

/-- MOV (R167, R179): the value with its tag. -/
def execEngMov (eng : Fin 7) (m : Sys2Proof.EngMove) (s : State) : Out :=
  let e : Nat := eng
  .next (s.engRun e 1 fun t => match m with
    | .dd d x => (t.set CE.d (t.get CE.d e x) e d).set CE.dM (t.get CE.dM e x) e d
    | .aa d x => (t.set CE.a (t.get CE.a e x) e d).set CE.aM (t.get CE.aM e x) e d
    | .pp d x => t.putP e d (t.get CE.p e x) (t.is CE.pM e x)
    | .cc d x => t.putC e d (t.is CE.c e x) (t.is CE.cM e x)
    | .pd d x => t.putP e d (t.get CE.d e x) (t.dTag e x)
    | .dp d x => t.putD e d (t.get CE.p e x) (t.is CE.pM e x))

/-- LDI (R167, R179): an immediate carries no tag. -/
def execEngLdi (eng : Fin 7) (dst : Sys2Proof.EngDst) (imm : BitVec 16) (s : State) : Out :=
  let e : Nat := eng
  .next (s.engRun e 1 fun t => match dst with
    | .d n => t.putD e n (toSigned 16 imm.toNat) false
    | .p n => t.putP e n imm.toNat false
    | .c n => t.putC e n (bit imm.toNat 0) false)

/-- LD (R167, R179): a word with its tag, or a coefficient, which carries none. A load through a tagged address is tagged. -/
def execEngLd (eng : Fin 7) (dst : Fin 16) (p : Fin 8) (coef : Bool) (s : State) : Out :=
  let e : Nat := eng
  .next (s.engRun e 1 fun t =>
    let addr := t.get CE.p e p
    if coef then t.putD e dst (t.geti CE.COEF_WIN.WORD e (addr % 256)) (t.is CE.pM e p)
    else t.putD e dst (t.ldWord e (addr / 2)) (t.ldTag e (addr / 2) || t.is CE.pM e p))

/-- ST (R179 to R181). -/
def execEngSt (eng : Fin 7) (src : Fin 16) (p : Fin 8) (s : State) : Out :=
  let e : Nat := eng
  .next (s.engRun e 1 fun t => t.engStore e p 0 (t.dVal e src) (t.dTag e src))

/-- LDA (R164, R167): a data register exactly, or the upper 32 bits that STAW stored, the low word first. -/
def execEngLda (eng : Fin 7) (dst : Fin 4) (src : Sys2Proof.EngAccSrc) (s : State) : Out :=
  let e : Nat := eng
  .next (s.engRun e 1 fun t => match src with
    | .reg n => t.satA e dst (t.dVal e n * 32768) (t.dTag e n)
    | .mem p =>
      let w := t.get CE.p e p / 2
      t.satA e dst ((t.ldWord e (w + 1) * 65536 + ofSigned 16 (t.ldWord e w)) * 256)
        (t.ldTag e w || t.ldTag e (w + 1) || t.is CE.pM e p))

/-- STA (R165): to a data register, rounded to nearest with halves up and saturated to Q15. -/
def execEngSta (eng : Fin 7) (dst : Fin 16) (src : Fin 4) (s : State) : Out :=
  let e : Nat := eng
  .next (s.engRun e 1 fun t => t.satD e dst (State.round15 (t.aVal e src)) (t.aTag e src) (t.getBit CE.aM 1 e src))

/-- STAW (R167): the upper 32 bits of the accumulator in two words of local data, the low word first. -/
def execEngStaw (eng : Fin 7) (src : Fin 4) (p : Fin 8) (s : State) : Out :=
  let e : Nat := eng
  .next (s.engRun e 1 fun t =>
    let w := t.aVal e src / 256
    (t.engStore e p 0 (wrap16 w) (t.aTag e src)).engStore e p 1 (wrap16 (w / 65536)) (t.aTag e src))

namespace State

/-- A saturating operation of two operands on data registers or accumulators (R165). -/
def engBin (s : State) (e : Nat) (r : Sys2Proof.EngBin) (op : Int → Int → Int) : State :=
  match r with
  | .d dst x y => s.satD e dst (op (s.dVal e x) (s.dVal e y)) (s.dTag e x || s.dTag e y)
  | .a dst x y => s.satA e dst (op (s.aVal e x) (s.aVal e y)) (s.aTag e x || s.aTag e y)
      (s.getBit CE.aM 1 e x || s.getBit CE.aM 1 e y)

/-- A saturating operation of one operand. -/
def engUn (s : State) (e : Nat) (r : Sys2Proof.EngUn) (op : Int → Int) : State :=
  match r with
  | .d dst x => s.satD e dst (op (s.dVal e x)) (s.dTag e x)
  | .a dst x => s.satA e dst (op (s.aVal e x)) (s.aTag e x) (s.getBit CE.aM 1 e x)

/-- A result of two data registers. -/
def engD2 (s : State) (e dst x y : Nat) (op : Int → Int → Int) : State :=
  s.satD e dst (op (s.dVal e x) (s.dVal e y)) (s.dTag e x || s.dTag e y)

/-- A comparison into a predicate. -/
def engCmp (s : State) (e dst x y : Nat) (op : Int → Int → Bool) : State :=
  s.putC e dst (op (s.dVal e x) (s.dVal e y)) (s.dTag e x || s.dTag e y)

/-- Two results of a rotation. -/
def engPair (s : State) (e d1 d2 : Nat) (v : Int × Int) (tag : Bool) : State := (s.satD e d1 v.1 tag).satD e d2 v.2 tag

end State

/-- ADD (R165). -/
def execEngAdd (eng : Fin 7) (r : Sys2Proof.EngBin) (s : State) : Out :=
  .next (s.engRun eng 1 fun t => t.engBin eng r (· + ·))

/-- SUB (R165). -/
def execEngSub (eng : Fin 7) (r : Sys2Proof.EngBin) (s : State) : Out :=
  .next (s.engRun eng 1 fun t => t.engBin eng r (· - ·))

/-- NEG (R165). -/
def execEngNeg (eng : Fin 7) (r : Sys2Proof.EngUn) (s : State) : Out :=
  .next (s.engRun eng 1 fun t => t.engUn eng r fun x => -x)

/-- ABS (R166): of 0x8000 it is 0x7FFF with SAT. -/
def execEngAbs (eng : Fin 7) (r : Sys2Proof.EngUn) (s : State) : Out :=
  .next (s.engRun eng 1 fun t => t.engUn eng r fun x => x.natAbs)

/-- SHL (R165). -/
def execEngShl (eng : Fin 7) (r : Sys2Proof.EngUn) (n : Fin 40) (s : State) : Out :=
  .next (s.engRun eng 1 fun t => t.engUn eng r fun x => x * 2 ^ n.val)

/-- SHR (R167): arithmetic. -/
def execEngShr (eng : Fin 7) (r : Sys2Proof.EngUn) (n : Fin 40) (s : State) : Out :=
  .next (s.engRun eng 1 fun t => t.engUn eng r fun x => x / 2 ^ n.val)

/-- MUL (R167): the product rounded to Q15. -/
def execEngMul (eng : Fin 7) (dst x y : Fin 16) (s : State) : Out :=
  .next (s.engRun eng 1 fun t => t.engD2 eng dst x y fun a b => State.round15 (a * b))

/-- MAC (R164, R165): the exact product into the accumulator. -/
def execEngMac (eng : Fin 7) (dst : Fin 4) (x y : Fin 16) (s : State) : Out :=
  let e : Nat := eng
  .next (s.engRun e 1 fun t => t.satA e dst (t.aVal e dst + t.dVal e x * t.dVal e y) (t.aTag e dst || t.dTag e x || t.dTag e y)
    (t.getBit CE.aM 1 e dst))

/-- MSU (R164, R165). -/
def execEngMsu (eng : Fin 7) (dst : Fin 4) (x y : Fin 16) (s : State) : Out :=
  let e : Nat := eng
  .next (s.engRun e 1 fun t => t.satA e dst (t.aVal e dst - t.dVal e x * t.dVal e y) (t.aTag e dst || t.dTag e x || t.dTag e y)
    (t.getBit CE.aM 1 e dst))

/-- CMPLT (R167). -/
def execEngCmplt (eng : Fin 7) (dst : Fin 4) (x y : Fin 16) (s : State) : Out :=
  .next (s.engRun eng 1 fun t => t.engCmp eng dst x y fun a b => decide (a < b))

/-- CMPLE (R167). -/
def execEngCmple (eng : Fin 7) (dst : Fin 4) (x y : Fin 16) (s : State) : Out :=
  .next (s.engRun eng 1 fun t => t.engCmp eng dst x y fun a b => decide (a ≤ b))

/-- CMPEQ (R167). -/
def execEngCmpeq (eng : Fin 7) (dst : Fin 4) (x y : Fin 16) (s : State) : Out :=
  .next (s.engRun eng 1 fun t => t.engCmp eng dst x y fun a b => decide (a = b))

/-- SEL (R167, R179): Da if the predicate is set, else Db; tagged with any of the three. -/
def execEngSel (eng : Fin 7) (dst : Fin 16) (c : Fin 4) (x y : Fin 16) (s : State) : Out :=
  let e : Nat := eng
  .next (s.engRun e 1 fun t => t.putD e dst (if t.is CE.c e c then t.dVal e x else t.dVal e y)
    (t.is CE.cM e c || t.dTag e x || t.dTag e y))

/-- MIN (R167). -/
def execEngMin (eng : Fin 7) (dst x y : Fin 16) (s : State) : Out :=
  .next (s.engRun eng 1 fun t => t.engD2 eng dst x y fun a b => min a b)

/-- MAX (R167). -/
def execEngMax (eng : Fin 7) (dst x y : Fin 16) (s : State) : Out :=
  .next (s.engRun eng 1 fun t => t.engD2 eng dst x y fun a b => max a b)

/-- CLAMP (R167): between two limits; limits that cross leave the value free. -/
def execEngClamp (eng : Fin 7) (dst x lo hi : Fin 16) (s : State) : Out :=
  let e : Nat := eng
  .next (s.engRun e 1 fun t => t.putD e dst (State.clampF 1672 (t.dVal e lo) (t.dVal e hi) (t.dVal e x))
    (t.dTag e x || t.dTag e lo || t.dTag e hi))

/-- SINCOS (R167): sine and cosine of a Q16 angle. -/
def execEngSincos (eng : Fin 7) (sin cos angle : Fin 16) (s : State) : Out :=
  let e : Nat := eng
  .next (s.engRun e 10 fun t =>
    let r := unrotF 32768 0 (t.get CE.d e angle)
    t.engPair e sin cos (r.2, r.1) (t.dTag e angle))

/-- PARK (R167): into the frame at the angle. -/
def execEngPark (eng : Fin 7) (dst1 dst2 x y angle : Fin 16) (s : State) : Out :=
  let e : Nat := eng
  .next (s.engRun e 4 fun t => t.engPair e dst1 dst2 (rotF (t.dVal e x) (t.dVal e y) (t.get CE.d e angle))
    (t.dTag e x || t.dTag e y || t.dTag e angle))

/-- IPARK (R167): back from the frame at the angle. -/
def execEngIpark (eng : Fin 7) (dst1 dst2 x y angle : Fin 16) (s : State) : Out :=
  let e : Nat := eng
  .next (s.engRun e 4 fun t => t.engPair e dst1 dst2 (unrotF (t.dVal e x) (t.dVal e y) (t.get CE.d e angle))
    (t.dTag e x || t.dTag e y || t.dTag e angle))

/-- CLARKE (R167): amplitude-invariant, α = (2u − v − w) / 3, β = (v − w) / √3. -/
def execEngClarke (eng : Fin 7) (dst1 dst2 u v w : Fin 16) (s : State) : Out :=
  let e : Nat := eng
  .next (s.engRun e 3 fun t =>
    t.engPair e dst1 dst2 (clarke3 (t.dVal e u) (t.dVal e v) (t.dVal e w)) (t.dTag e u || t.dTag e v || t.dTag e w))

/-- SQRT (R167): of a Q15 value; of a negative one no result is stated, and it is free. -/
def execEngSqrt (eng : Fin 7) (dst x : Fin 16) (s : State) : Out :=
  let e : Nat := eng
  .next (s.engRun e 12 fun t =>
    let v := t.dVal e x
    t.satD e dst (if v < 0 then toSigned 16 (Config.free 1674 [v]) else sqrtQ (v.toNat * 32768) 1) (t.dTag e x))

/-- DIV (R166): the Q15 quotient; by zero a limit by the dividend's sign, with DIV0 and SAT. -/
def execEngDiv (eng : Fin 7) (dst x y : Fin 16) (s : State) : Out :=
  let e : Nat := eng
  .next (s.engRun e 18 fun t =>
    let n := t.dVal e x
    let d := t.dVal e y
    let tag := t.dTag e x || t.dTag e y
    if d = 0 then
      ((t.putD e dst (if 0 < n then 32767 else if n < 0 then -32768 else 0) tag true).raise .warning CE.FLAGS.DIV0 e).raise .warning
        CE.FLAGS.SAT e
    else t.satD e dst (quot (n * 32768) d) tag)

namespace State

/-- A word of the coefficient block at an address register. -/
def coefWord (s : State) (e p k : Nat) : Int := s.geti CE.COEF_WIN.WORD e ((s.get CE.p e p + k) % 256)

/-- PIDF (R173): one loop update. Coefficients KP, KI, KD, DA, SH, I_LIM, U_LO, U_HI; state I in two words, the low one first,
D and YP. The sums are exact; D and the output are rounded to nearest, halves up (R165). -/
def pidf (s : State) (e dst ps pc err meas ff : Nat) : State :=
  let k (i : Nat) : Int := s.coefWord e pc i
  let w := s.get CE.p e ps / 2
  let badSh := decide (k 4 < 0) || decide (8 < k 4)
  let sh : Int := 2 ^ (if badSh then 8 else (k 4).toNat)
  let y := s.dVal e meas
  let er := s.dVal e err
  let i : Int := s.ldWord e (w + 1) * 65536 + ofSigned 16 (s.ldWord e w) + k 1 * er * sh
  let d := sat16 (round15 (k 3 * s.ldWord e (w + 2) + round15 ((32768 - k 3) * (k 2 * (s.ldWord e (w + 3) - y) * sh))))
  let x := round15 (k 0 * er * sh + i + d * 32768 + s.dVal e ff * 32768)
  let u := clampF 1730 (k 6) (k 7) x
  let hold := (u == k 7 && decide (0 < er)) || (u == k 6 && decide (er < 0))
  let lim := k 5 * 32768
  let iNew := if hold then s.ldWord e (w + 1) * 65536 + ofSigned 16 (s.ldWord e w) else clampI (-lim) lim i
  let tag := s.dTag e err || s.dTag e meas || s.dTag e ff || s.is CE.pM e ps || s.is CE.pM e pc
    || (List.range 4).any fun j => s.ldTag e (w + j)
  let s1 := (s.engStore e ps 0 (wrap16 iNew) tag).engStore e ps 1 (wrap16 (iNew / 65536)) tag
  let s2 := (s1.engStore e ps 2 d tag).engStore e ps 3 y (s.dTag e meas)
  (s2.putD e dst u tag (u != x)).on (u != x || badSh) (·.raise .warning CE.FLAGS.SAT e)

/-- A table word read with two wrong bits (R459): at a table port the lock of R395 and the SW trip at PU0 and PU1; in AX, whose
tables are local data, ILLEGAL. -/
def tableBad (s : State) (e : Nat) (bad : Option (BitVec 18)) : State :=
  match bad with
  | none => s
  | some w =>
    if e = 6 then (s.eccDed 5 w.toNat).engStop 6 CE.FLAGS.ILLEGAL
    else if s.portLocked e then s
    else
      let s1 := ((s.eccDed 1 w.toNat).tblLock (Config.free 403 [8]) e).tripNow 0 18
      s1.on (!s1.joined) (·.tripNow 1 18)

/-- FFS (R174): a feed-forward slot into a data register. -/
def ffs (s : State) (e dst slot : Nat) : State :=
  let v := s.ffsValue e slot
  (s.satD e dst (sat16 v.1 * v.2) true).on (sat16 v.1 != v.1) (·.raise .warning CE.FLAGS.SAT e)

end State

/-- PIDF (R173). -/
def execEngPidf (eng : Fin 7) (dst : Fin 16) (ps pc : Fin 8) (err meas ff : Fin 16) (s : State) : Out :=
  .next (s.engRun eng 14 fun t => t.pidf eng dst ps pc err meas ff)

/-- TLU (R167, R394, R395, R459): a table of the calibration image at a data register's value; a locked table port returns 0. In AX a region of
its local data is read, whose place is not stated: its value is free. -/
def execEngTlu (eng : Fin 7) (dst : Fin 16) (handle : BitVec 8) (x : Fin 16) (miss : Nat) (bad : Option (BitVec 18)) (s : State) : Out :=
  let e : Nat := eng
  .next (s.engRun e (6 + miss) fun t =>
    let u := t.tableBad e bad
    let v := if u.portLocked e then u.set CE.d 0 e dst else if e = 6 then u.setFree CE.d e dst
      else u.seti CE.d (sat16 (u.tableLook handle.toNat (t.dVal e x))) e dst
    (v.set CE.dM (ofBool (t.dTag e x && isRope e)) e dst).engCount e 3 miss)

/-- FFS (R174, R459): 2 cycles with HANDLE 0, which reads no table. -/
def execEngFfs (eng : Fin 7) (dst : Fin 16) (slot : Fin 4) (miss : Nat) (bad : Option (BitVec 18)) (s : State) : Out :=
  .next (s.engRun eng (if s.is CE.FF_CFG.HANDLE eng slot then 8 + miss else 2) fun t =>
    ((t.on (s.is CE.FF_CFG.HANDLE eng slot) (·.tableBad eng bad)).ffs eng dst slot).engCount eng 3 miss)

/-- IN (R169, R179): a data port tagged, a state port as latched. -/
def execEngIn (eng : Fin 7) (dst : Fin 16) (port : Sys2Proof.EngPort) (s : State) : Out :=
  let e : Nat := eng
  .next (s.engRun e 1 fun t =>
    let u := t.putD e dst (toSigned 16 (t.portValue e port % 65536)) (!statePort port)
    if markerPort port then { u with fresh := u.fresh + 1 } else u)

/-- OUT (R165, R170): a value clamped on its way sets OSAT, and OOVF if an accumulator overflow fed it. -/
def execEngOut (eng : Fin 7) (out : Fin 8) (src : Sys2Proof.EngOutSrc) (s : State) : Out :=
  let e : Nat := eng
  let n : Nat := out
  .next (s.engRun e 1 fun t =>
    let put (t : State) (v : Int) (c o : Bool) : State :=
      let u := (t.seti CE.outV v e n).setBit CE.outW n true e
      (u.on c (·.raiseBit .warning CE.OSAT.OSAT n e)).on (c && o) (·.raiseBit .warning CE.OSAT.OOVF n e)
    match src with
    | .d m => put t (t.dVal e m) (t.getBit CE.dM 1 e m) (t.getBit CE.dM 2 e m)
    | .a m =>
      let x := State.round15 (t.aVal e m)
      let c := decide (sat16 x ≠ x)
      (put t (sat16 x) c (t.getBit CE.aM 1 e m)).on c (·.raise .warning CE.FLAGS.SAT e))

/-- OUTREL (R170, R172): the release point; after OUT_PH it is late. MAX_CYC is the largest count seen. -/
def execEngOutrel (eng : Fin 7) (s : State) : Out :=
  let e : Nat := eng
  .next (s.engRun e 1 fun t =>
    let c := t.get CE.cyc e
    let t1 := ((t.set CE.rel 1 e).set CE.relAt c e).set CE.TIMING.MAX_CYC (max (t.get CE.TIMING.MAX_CYC e) (min c 65535)) e
    t1.on (t.outPh e < c) fun u => ((u.raise .warning CE.FLAGS.OUT_LATE e).incSat CE.TIMING.LATE_CNT e).engCount e 4 1)

/-- BR (R167, R181). -/
def execEngBr (eng : Fin 7) (target : Sys2Proof.EngTarget) (s : State) : Out :=
  let e : Nat := eng
  .next (s.engJump e 2 fun t => t.engGoto e (t.engTarget e target) id)

/-- BRC (R167, R181, R185): taken if the predicate is set; a tagged predicate raises TAINT_BR in a rope pair. CE.TAINT.PIT tags
the partner's. -/
def execEngBrc (eng : Fin 7) (c : Fin 4) (target : BitVec 14) (s : State) : Out :=
  let e : Nat := eng
  .next (s.engJump e 2 fun t =>
    let p := t.pit 0x15 3 (e / 2) && isRope e && e % 2 == 1
    let t1 := t.on p (·.pitAct)
    if isRope e && (t.is CE.cM e c || p) then t1.engTaint e CE.FLAGS.TAINT_BR
    else if t1.is CE.c e c then t1.set CE.pc target.toNat e
    else t1.engNext e)

/-- CALL (R167, R181). -/
def execEngCall (eng : Fin 7) (target : Sys2Proof.EngTarget) (s : State) : Out :=
  let e : Nat := eng
  .next (s.engJump e 2 fun t => t.engGoto e (t.engTarget e target) fun u =>
    { u with engCalls := (e, (u.get CE.pc e + 1) % 16384) :: u.engCalls })

/-- RET (R167): to the latest call's next word; without a call the place is not stated, and free. -/
def execEngRet (eng : Fin 7) (s : State) : Out :=
  let e : Nat := eng
  .next (s.engJump e 2 fun t => match t.engCalls.find? (fun c => c.1 == e) with
    | some c => { t.set CE.pc c.2 e with engCalls := t.engCalls.eraseP (fun c => c.1 == e) }
    | none => t.setFree CE.pc e)

/-- LOOP (R167): the words that follow, to `last`, run an immediate number of times; with 0 they are passed over. -/
def execEngLoop (eng : Fin 7) (count : BitVec 16) (last : BitVec 14) (s : State) : Out :=
  let e : Nat := eng
  .next (s.engJump e 1 fun t =>
    if count.toNat = 0 then t.set CE.pc (last.toNat + 1) e
    else
      let pc := (t.get CE.pc e + 1) % 16384
      { t.set CE.pc pc e with engLoops := { eng := e, first := pc, last := last.toNat, left := count.toNat } :: t.engLoops })

/-- END (R172, R185, R222): the period's program is done; AX goes on with the next pending period. CE.OVR.PIT holds the partner's. -/
def execEngEnd (eng : Fin 7) (s : State) : Out :=
  let e : Nat := eng
  .next (s.engJump e 1 fun t =>
    let t1 := t.engDone e
    if t1.is CE.endHold e then t1 else (t1.set CE.ovRun 0 e).on (e == 6) (·.axEnd))

end Sys2Proof.Machine
end

