-- ==== Sys2Proof/Machine/Ax.lean ====
section
/-!
DEFINITION. The auxiliary drives (09): setpoints, the start of a channel, its references, the bootstrap supply and the events. What AX
forms from its samples is in Machine/AxLaw.lean. Channel states: 0 OFF, 1 CATCH, 2 INJECT, 3 FORCED, 4 OBSERVER, 5 STOPPING.
-/
namespace Sys2Proof.Machine
namespace State

/-- The bridge of a channel off. -/
def axBridgeOff (s : State) (k : Nat) : State := s.bridgeOff (2 + k)

/-- The channel stops and stays enabled (R223, R224): the rotor coasts. -/
def axStop (s : State) (k : Nat) : State := s.axHalt (2 + k)

/-- The channel stops and waits for ENABLE (R225, R226). -/
def axDisable (s : State) (k : Nat) : State := (s.axStop k).set ACT.chEn 0 (2 + k)

/-- Every start begins with the bridge off (R225). -/
def axStart (s : State) (k : Nat) : State :=
  let s1 := ((((s.axBridgeOff k).set AX.CH_STAT.STATE 1 k).setBit AX.STATUS.CH_RUN k true).set AX.watchT s.now k).set AX.startT s.now k
  ((s1.set AX.uvWait 0 k).set AX.conv 0 k).set AX.upT 0 k

/-- The step of a standstill start begins (R226). -/
def axStepTo (s : State) (k st : Nat) : State := (s.set AX.step st k).set AX.stepT s.now k

/-- The setpoint asks a stopped channel to start (R223, R224): in CURVE mode from D_ON, else whatever it is. -/
def axAsks (s : State) (k : Nat) : Bool :=
  let v := s.get CE.spVal (2 + k)
  s.is AX.spEver k && !s.parked && !s.is AX.lost k && !s.is AX.uvCond && !s.is AX.uvWait k && !s.is ACT.rampN (2 + k)
    && (s.get AX.CH_CFG.MODE k != 0 || decide ((s.get AX.CH_CURVE_CFG.D_ON k : Int) ≤ toSigned 16 v))

/-- The speed of the curve for a demand (R224): linear between the 16 points, S0 below D_ON. -/
def axCurve (s : State) (k : Nat) (d : Int) : Int :=
  let don : Int := s.get AX.CH_CURVE_CFG.D_ON k
  let pt (i : Nat) : Int := s.geti AX.CURVE.S k (min i 15)
  if d < don then pt 0
  else
    let span := 32768 - don
    let x := (d - don) * 15
    let i := (x / span).toNat
    pt i + quot ((pt (i + 1) - pt i) * (x - i * span)) span

/-- What the speed reference moves toward: the curve, the setpoint, or zero while the channel stops; in CURRENT mode OBS_UP in the direction of
the setpoint, up to which a forced angle is accelerated (R226). -/
def axTarget (s : State) (k : Nat) : Int :=
  let v := s.geti CE.spVal (2 + k)
  if s.get AX.CH_STAT.STATE k = 5 || s.is ACT.rampN (2 + k) then 0
  else if s.get AX.CH_CFG.MODE k = 0 then
    (if v ≤ s.get AX.CH_CURVE_CFG.D_OFF k then 0 else s.axCurve k v)
  else if s.get AX.CH_CFG.MODE k = 2 then
    (if v < 0 then -(s.get AX.CH_OBS.OBS_UP k : Int) else s.get AX.CH_OBS.OBS_UP k)
  else v

/-- A demand in CURVE mode at or below D_OFF, a lost stream or a DISABLE stops the channel (R223, R224, R264). -/
def axStopping (s : State) (k : Nat) : Bool :=
  s.is AX.lost k || s.is ACT.rampN (2 + k) || (s.get AX.CH_CFG.MODE k == 0
    && decide (s.geti CE.spVal (2 + k) ≤ s.get AX.CH_CURVE_CFG.D_OFF k))

/-- One update of the speed reference (R223, R228): at ACC away from zero and at DEC toward it, in rad/s per ms over the
update's period; not raised above the measured speed while the voltage limit acts. -/
def axRamp (s : State) (k : Nat) : State :=
  let n : Int := s.axDt k
  let rate (r : Row) : Int := quot (s.get r k * n * 25 * 2 ^ 31) (10000000 * s.axWBase k)
  let x := s.geti AX.ref k
  let t0 := s.axTarget k * 65536
  let m : Int := (s.geti AX.CH_SPD.SPD_MEAS k).natAbs * 65536
  let t1 := if s.is AX.vlimOn k && m < t0.natAbs && x.natAbs ≤ t0.natAbs then clampI (-(max m x.natAbs)) (max m x.natAbs) t0 else t0
  let up := (0 ≤ x && x < t1) || (x ≤ 0 && t1 < x)
  let r := rate (if up then AX.CH_CFG.ACC else AX.CH_CFG.DEC)
  let y := if x < t1 then min t1 (x + r) else max t1 (x - r)
  (s.seti AX.ref y k).seti AX.CH_SPD.SPD_REF (y / 65536) k

/-- 30 A, the limit of R221, as Q15 of I_base. -/
def axPinLimit (s : State) (k : Nat) : Int := quot (300 * 32768) (s.axIBase k)

/-- An i_q reference within the current limit F × I_MAX (R372), which RMS_LIM lowers to 30 A (R221, R231); with VAUX_OV one whose sign would brake the rotor
is zero (R220). -/
def axLimit (s : State) (k : Nat) (x : Int) : Int :=
  let m : Int := quotN (s.get HK.thrIn (2 + k) * s.get AX.CH_LIM.I_MAX k) 16
  let l := if s.is AX.rmsOn k then min m (s.axPinLimit k) else m
  if s.is AX.ovCond && decide (x * s.geti AX.CH_SPD.SPD_MEAS k < 0) then 0 else clampI (-l) l x

/-- The i_d reference of an update: 0 at all times (R223), but for START_I at the alignment and along a forced angle, and for the polarity pulses
(R226). -/
def axD (s : State) (k : Nat) : Int :=
  let start : Int := s.get AX.CH_START.START_I k
  if s.get AX.CH_STAT.STATE k < 2 then 0
  else if s.get AX.step k = 1 then start
  else if s.get AX.step k = 3 then
    (if s.get AX.polPh k = 1 then (if s.is AX.polNeg k then -(s.axPolLimit k : Int) else s.axPolLimit k) else 0)
  else if s.get AX.step k = 0 && s.get AX.src k = 2 then start else 0

/-- The speed loop of an update (R223, R228): the integrator, which holds while the voltage limit acts, and the output. The gains are the firmware's: free
values of reference, speed and integrator (log entry 48). -/
def axSpeedLoop (s : State) (k : Nat) : State × Int :=
  let x := [s.geti AX.ref k, s.geti AX.CH_SPD.SPD_MEAS k, s.geti AX.spInt k, s.now]
  (s.on (!s.is AX.vlimOn k) fun t => t.set AX.spInt (Config.free 228 x) k, toSigned 16 (Config.free 223 x))

/-- The current references of an update (R223): i_q is the setpoint in CURRENT mode, else the speed loop's output. A channel that does not run, is
still at its start, or turns a forced angle, has no i_q. -/
def axReference (s : State) (k : Nat) : State :=
  let s0 := s.seti AX.idRef (s.axD k) k
  if s.get AX.CH_STAT.STATE k < 2 || s.is AX.step k || s.get AX.src k = 2 then s0.set AX.iq 0 k
  else if s.get AX.CH_CFG.MODE k = 2 then s0.seti AX.iq (s0.axLimit k (s0.geti CE.spVal (2 + k))) k
  else (s0.axSpeedLoop k).1.seti AX.iq (s0.axLimit k (s0.axSpeedLoop k).2) k

/-- An angle source comes into use (R226, R227), with the STATE that it shows. -/
def axSource (s : State) (k n : Nat) : State := (s.set AX.src n k).set AX.CH_STAT.STATE (n + 1) k

/-- The angle source hands over (R227): up to the observer, down to the injection seeded with its angle, or to the forced angle. -/
def axHandover (s : State) (k : Nat) : State :=
  let src := s.get AX.src k
  let w := (s.geti AX.CH_SPD.SPD_MEAS k).natAbs
  let up := src != 3 && decide (s.get AX.CH_OBS.OBS_UP k ≤ w)
  let late := up && !s.is AX.conv k
  let s1 := s.set AX.upT (if !late then 0 else if s.is AX.upT k then s.get AX.upT k else s.now) k
  let ang := s1.get AX.obAng k
  let spd := s1.get AX.obSpd k
  if up && s.is AX.conv k then s1.set AX.src 3 k
  else if src = 3 && decide (w ≤ s.get AX.CH_OBS.OBS_DN k) then
    (if s.is AX.CH_INJ.INJ_CNT k then (s1.axInjBegin k ang spd).set AX.src 1 k
    else ((s1.set AX.fAng ang k).set AX.fSpd spd k).set AX.src 2 k)
  else s1

/-- One control update of a running channel: its stop, its reference and its angle source. -/
def axUpdate (s : State) (k : Nat) : State :=
  let st := s.get AX.CH_STAT.STATE k
  if st = 0 then (if s.axAsks k then s.axStart k else s)
  else if st = 1 || s.is AX.step k then (if s.axStopping k then s.axStop k else s)
  else
    let current := s.get AX.CH_CFG.MODE k == 2
    let stop := s.axStopping k
    if current && stop then s.axStop k
    else
      let s1 := (s.on stop (·.set AX.CH_STAT.STATE 5 k)).on (!current || s.get AX.src k == 2) (·.axRamp k)
      let s2 := s1.axHandover k
      if stop then (if s2.get AX.ref k = 0 then s2.axStop k else s2) else s2.axSource k (s2.get AX.src k)

/-- The voltage limit acts (R228). -/
def axVlimSet (s : State) (k : Nat) : State := (s.set AX.vlimOn 1 k).raise .warning AX.CH_STAT.VLIM k

/-- The field that measures a phase's bootstrap voltage. -/
def vbsRow (ph : Nat) : Row := if ph = 0 then AX.CH_VBS.VBS_U else if ph = 1 then AX.CH_VBS.VBS_V else AX.CH_VBS.VBS_W

/-- A bootstrap reading (R230): below 7.5 V the high side turns off and BS_EVT starts the duty clamp; from 8.0 V the bit falls, and with the
last one BS_HOLD begins. -/
def axBootstrap (s : State) (k ph code : Nat) : State :=
  let s1 := s.set (vbsRow ph) code k
  if code < 375 then
    ((((s1.setBit AX.CH_STAT.BS_UV ph true k).set PU.sw 0 (2 + k) (2 * ph)).set PU.onT 0 (2 + k) (2 * ph)).set AX.bsClamp 1 k).raise .warning AX.CH_STAT.BS_EVT k
  else if 400 ≤ code && s1.getBit AX.CH_STAT.BS_UV ph k then
    let s2 := s1.setBit AX.CH_STAT.BS_UV ph false k
    s2.on (!s2.is AX.CH_STAT.BS_UV k) (·.set AX.bsT s.now k)
  else s1

/-- The level of AUX_OC at the channel's unit (R219). -/
def axOcLevel (s : State) (k : Nat) : State := s.tripIn (2 + k) 13 (s.is AX.ocLvl k)

end State

/-- AX_PERIOD_START (R218, R221 to R224, R226 to R228): a reload of an enabled channel's unit. The peak update reuses the valley's currents. -/
def execAxPeriodStart (ch : Fin 3) (peak : Bool) (u v w : BitVec 12) (s : State) : Out :=
  let k : Nat := ch
  .next (if !s.is ACT.chEn (2 + k) || !s.counts (2 + k) || (peak && !s.is PU.CTL.DBL_UPD (2 + k)) then s
    else
      let s1 := s.on (!peak) fun t => (t.axSamples k u.toNat v.toNat w.toNat).axRms k
      (((((s1.thrTake (2 + k)).axEstimate k).axUpdate k).axReference k).axVoltLimit k).axTrigger k)

/-- AUX_OC (R219): a comparator's current exceeds its limit, or no longer does; the high-side one is blanked for 500 ns after a turn-on. -/
def execAuxOc (ch : Fin 3) (ph : Fin 3) (high : Bool) (amps : BitVec 8) (s : State) : Out :=
  let k : Nat := ch
  let lim := if high then s.get AX.CH_OC.OC_HS k else s.get AX.CH_OC.OC_LS k
  let blank := high && s.is PU.hiT (2 + k) ph && decide (s.now < s.get PU.hiT (2 + k) ph + 200)
  .next ((s.setBit AX.ocLvl (ph + (if high then 3 else 0)) (decide (lim < amps.toNat) && !blank) k).axOcLevel k)

/-- VAUX_SAMPLE (R220): below 9.0 V every running channel turns its bridge off and the safe-hold
outputs are de-energized (R317); above VAUX_OV the flag, until 1 V below, and no current reference brakes the rotor. -/
def execVauxSample (code : BitVec 12) (s : State) : Out :=
  let c := code.toNat
  let ov := s.get AX.CTL.VAUX_OV
  let s1 := s.set AX.STATUS.VAUX c
  let s2 := if c < 450 then
      (s1.set AX.uvCond 1).forN 3 fun k t =>
        let t1 := t.raise .warning AX.CH_STAT.VAUX_UV k
        t1.on (t1.get AX.CH_STAT.STATE k != 0) fun x => (x.axStop k).set AX.uvWait 1 k
    else if 500 < c && s1.is AX.uvCond then (s1.set AX.uvCond 0).set AX.okT s.now else s1
  let s3 := s2.shSupply (450 ≤ c)
  .next (if 50 * ov < c then (s3.set AX.ovCond 1).forN 3 fun k t =>
      (t.raise .warning AX.CH_STAT.VAUX_OV k).seti AX.iq (t.axLimit k (t.geti AX.iq k)) k
    else if c ≤ 50 * (ov - 1) then (s3.set AX.ovCond 0).forN 3 fun k t => t.set AX.CH_STAT.VAUX_OV 0 k
    else s3)

/-- VAUX_RESTART (R231): VAUX above 10.0 V for 100 ms and a valid setpoint stream. -/
def execVauxRestart (ch : Fin 3) (s : State) : Out :=
  .next (if s.is AX.uvWait ch && !s.is AX.uvCond && s.axPast (s.get AX.okT) 100 1 && !s.is AX.lost ch && s.is ACT.chEn (2 + ch)
    then s.axStart ch else s)

/-- SP_LOST (R223, R231, R233): no setpoint for SP_TMO, or AX.SP.PIT ignores them; the flag; a start is abandoned; a running channel steps or ramps to zero at its next update. -/
def execSpLost (ch : Fin 3) (s : State) : Out :=
  let k : Nat := ch
  .next (if !s.is ACT.chEn (2 + k) || !s.axPast (s.get AX.spT k) (s.get AX.CH_CFG.SP_TMO k) 10 then s
    else
      let s1 := (s.set AX.lost 1 k).raise .warning AX.CH_STAT.SP_LOST k
      if s1.get AX.CH_STAT.STATE k = 1 || s1.is AX.step k || s1.get AX.CH_CFG.MODE k = 2 then s1.axStop k
      else s1.on (s1.get AX.CH_STAT.STATE k != 0) (·.set AX.CH_STAT.STATE 5 k))

namespace State

/-- α and β of a sample of the phase nodes, in codes. -/
def nodeVec (n : AuxNodes) : Int × Int := clarke3 n.u.toNat n.v.toNat n.w.toNat

/-- The sixth of a turn in which the back-EMF of a sample lies: its bounds are the zero crossings of the line-line voltages. -/
def nodeSixth (n : AuxNodes) : Nat := angleOf (nodeVec n).1 (nodeVec n).2 * 6 / 65536

/-- E_ll of a sample is below 1 V (R225): the line-line peak is √3 times the Clarke magnitude, in codes of 60 V / 1024. -/
def nodeStill (n : AuxNodes) : Bool :=
  let d (x y : BitVec 10) : Nat := ((x.toNat : Int) - y.toNat).natAbs
  decide ((d n.u n.v ^ 2 + d n.v n.w ^ 2 + d n.w n.u ^ 2) * 2 * 60 ^ 2 < 3 * 1024 ^ 2)

end State

/-- The zero crossings of a list of samples (R225): the instant of the first sample in a new sixth, the sixth, and the sixths passed with their
sign. -/
def State.crossings : List AuxNodes → List (Nat × Nat × Int)
  | a :: b :: l =>
    let d : Int := ((nodeSixth b + 9 - nodeSixth a) % 6 : Nat) - 3
    if nodeSixth a = nodeSixth b then crossings (b :: l) else (b.time.toNat, nodeSixth b, d) :: crossings (b :: l)
  | _ => []

namespace State

/-- The speed between the first and the last crossing (R225), Q15 of ω_base. -/
def crossSpeed (s : State) (k : Nat) (l : List (Nat × Nat × Int)) : Int :=
  match l.head?, l.getLast? with
  | some a, some b =>
    if b.1 ≤ a.1 then 0
    else
      let n : Int := ((l.drop 1).map fun c => c.2.2).sum
      clampI (-0x7FFF) 0x7FFF (quotF 225 (65536 * piN * n * 400000000) (piD * 6 * ((b.1 - a.1 : Nat) : Int) * s.axWBase k))
  | _, _ => 0

/-- The rotor's angle at present, from the back-EMF at the last crossing, the bound of its sixth on the side it came from, and the speed since: the
flux angle lies a quarter turn behind the back-EMF in the direction of rotation. -/
def crossAngle (s : State) (k : Nat) (l : List (Nat × Nat × Int)) (w : Int) : Int :=
  match l.getLast? with
  | some c =>
    let edge : Int := (c.2.1 + (if w < 0 then 1 else 0) : Nat) * 65536 / 6
    edge + s.axTravel k w ((s.now : Int) - s.get AX.watchT k - c.1) - (if w < 0 then -16384 else 16384)
  | none => 0

end State

/-- AUX_CATCH (R225): after CATCH_MS the rotor is still, turns fast enough for the observer, which takes its angle and speed, or is waited for. E_ll is
that of the last sample (DEDUCED, log entry 41). -/
def execAuxCatch (ch : Fin 3) (nodes : List AuxNodes) (s : State) : Out :=
  let k : Nat := ch
  let src := if s.is AX.CH_INJ.INJ_CNT k then 1 else 2
  let l := State.crossings nodes
  let w := s.crossSpeed k l
  .next (if s.get AX.CH_STAT.STATE k ≠ 1 || !s.axPast (s.get AX.watchT k) (s.get AX.CH_START.CATCH_MS k) 1 then s
    else if nodes.getLast?.any State.nodeStill then
      (((s.axSource k src).axStepTo k 1).forN 3 fun p t => t.set AX.maxI 0 k p) |>.set AX.fAng 0 k |>.set AX.fSpd 0 k
    else if s.get AX.CH_OBS.OBS_DN k ≤ w.natAbs then
      let t := ((s.axSource k 3).axSeed k (ofSigned 16 (s.crossAngle k l w)) (ofSigned 16 w)).set AX.step 0 k
      ((t.seti AX.CH_SPD.SPD_MEAS w k).seti AX.ref (w * 65536) k).seti AX.CH_SPD.SPD_REF w k
    else s.set AX.watchT s.now k)

/-- START_FAIL (R225): the rotor has not come to rest within START_WAIT. -/
def execStartFail (ch : Fin 3) (s : State) : Out :=
  let k : Nat := ch
  .next (if s.get AX.CH_STAT.STATE k = 1 && s.axPast (s.get AX.startT k) (s.get AX.CH_START.START_WAIT k) 10 then
      (s.raise .fault AX.CH_STAT.START_FAIL k).axDisable k
    else s)

/-- AUX_ALIGN_END (R226): after 2 ms of START_I a phase whose current has stayed below a tenth of it is an open load; else injection, or the forced
angle, along which the rotor now lies. -/
def execAuxAlignEnd (ch : Fin 3) (s : State) : Out :=
  let k : Nat := ch
  .next (if s.get AX.step k ≠ 1 || !s.axPast (s.get AX.stepT k) 2 1 then s
    else if (List.range 3).any fun p => decide (10 * s.get AX.maxI k p < s.get AX.CH_START.START_I k) then
      (s.raise .fault AX.CH_STAT.OPEN_LOAD k).axDisable k
    else if s.is AX.CH_INJ.INJ_CNT k then (s.axStepTo k 2).axInjBegin k 0 0
    else (s.axStepTo k 0).axSeed k 0 0)

namespace State

/-- A polarity test begins, or begins again (R122, R123). -/
def axPolStart (s : State) (k rep : Nat) : State :=
  ((((s.set AX.polRep rep k).set AX.polIdx 0 k).set AX.polP 0 k).set AX.polM 0 k).axPolPulse k

/-- No polarity (R123, R226): the channel waits for ENABLE. -/
def axPolFail (s : State) (k : Nat) : State := ((s.raise .fault AX.CH_STAT.POL_FAIL k).set AX.polPh 0 k).axDisable k

/-- The polarity is known (R123, R226): the injection resumes at the tracker's angle, turned by 180° where it was reversed, and the observer takes
it. -/
def axPolDone (s : State) (k : Nat) (flip : Bool) : State :=
  let ang := (s.get AX.injAng k + if flip then 0x8000 else 0) % 65536
  let t := (((s.set AX.polPh 0 k).set AX.step 0 k).set AX.injAng ang k).set AX.hN 0 k
  t.axSeed k ang (t.get AX.injSpd k)

/-- The results of a test's eight pulses (R122, R123): the margin is the reset value of OB's POL_MARGIN. An ambiguous test repeats once. -/
def axPolJudge (s : State) (k : Nat) : State :=
  let p := s.get AX.polP k
  let m := s.get AX.polM k
  let g := 256 + OB.POL_CFG2.POL_MARGIN.reset
  if p * g < m * 256 then s.axPolDone k false
  else if m * g < p * 256 then s.axPolDone k true
  else if s.is AX.polRep k then s.axPolFail k
  else s.axPolStart k 1

end State

/-- AUX_INJ_CONV (R119, R226): the injection has converged; the polarity test begins. -/
def execAuxInjConv (ch : Fin 3) (s : State) : Out :=
  let k : Nat := ch
  .next (if s.get AX.step k = 2 && decide (OB.INJ_CONV.INJ_N.reset ≤ s.get AX.injIn k) then (s.axStepTo k 3).axPolStart k 0 else s)

/-- AUX_POL_PULSE_END (R122, R123, R226): a pulse that has risen, returned and waited ends; after four pairs the test is judged. One that has not
reached 0.5 × I_MAX after POL_TMAX fails, as a test not done 20 ms after the injection began. -/
def execAuxPolPulseEnd (ch : Fin 3) (s : State) : Out :=
  let k : Nat := ch
  let late := s.get AX.polPh k == 1 && decide (s.get AX.polT0 k + OB.POL_CFG2.POL_TMAX.reset * 4000 ≤ s.now)
  .next (if s.get AX.step k ≠ 3 then s
    else if late || s.axPast (s.get AX.injT k) 20 1 then s.axPolFail k
    else if s.get AX.polPh k ≠ 4 then s
    else
      let r := if s.is AX.polNeg k then AX.polM else AX.polP
      let s1 := (s.set r (s.get r k + s.get AX.polT k) k).inc AX.polIdx k
      if s1.get AX.polIdx k < 8 then s1.axPolPulse k else s1.axPolJudge k)

/-- OBS_SLOW (R227): 50 ms above OBS_UP without convergence. -/
def execObsSlow (ch : Fin 3) (s : State) : Out :=
  .next (s.on (s.obsSlow ch) (·.raise .warning AX.CH_STAT.OBS_SLOW ch))

/-- VLIM (R228): the limit has acted for 8 consecutive updates. -/
def execAuxVlim (ch : Fin 3) (s : State) : Out :=
  .next (s.on (decide (8 ≤ s.get AX.vN ch)) (·.axVlimSet ch))

/-- VLIM clears (R228): 8 consecutive updates below 15/16 of the limit. -/
def execVlimClear (ch : Fin 3) (s : State) : Out :=
  .next (s.on (decide (8 ≤ s.get AX.vOkN ch)) fun t => (t.set AX.vlimOn 0 ch).set AX.CH_STAT.VLIM 0 ch)

/-- BS_UV (R230, R233): a bootstrap reading; AX.BS.PIT holds it at 7.0 V for 1 ms. -/
def execBsUv (ch : Fin 3) (ph : Fin 3) (code : BitVec 10) (s : State) : Out :=
  let p := s.pit 0x18 1 ch && s.get AX.PIT_CTL.PH == ph.val
  let s1 := s.on p fun t => t.pitAct.set AX.bsPitT (s.now + 400000) ch ph
  let held := s1.is AX.bsPitT ch ph && decide (s.now ≤ s1.get AX.bsPitT ch ph)
  .next ((s1.on (!held) (·.set AX.bsPitT 0 ch ph)).axBootstrap ch ph (if held then 350 else code.toNat))

/-- BS_HOLD_END (R230): all three bits have read 0 for BS_HOLD. -/
def execBsHoldEnd (ch : Fin 3) (s : State) : Out :=
  .next (if s.is AX.CH_STAT.BS_UV ch || !s.axPast (s.get AX.bsT ch) (s.get AX.CH_BS_LIM.BS_HOLD ch) 1 then s else s.set AX.bsClamp 0 ch)

/-- AX_PIT_ARM (R233, R329): for a channel 0 to 2. AX.OC.PIT forces its comparator at once, for F_AUX + 1 cycles. -/
def execAxPitArm (ch : BitVec 2) (ph : BitVec 2) (sel : BitVec 4) (s : State) : Out :=
  let k := ch.toNat
  let s1 := ((s.set AX.PIT_CTL.CH k).set AX.PIT_CTL.PH ph.toNat).set AX.PIT_CTL.SEL sel.toNat
  let real := decide (k < 3 ∧ ph.toNat < 3 ∧ 1 ≤ sel.toNat ∧ sel.toNat ≤ 4)
  let s2 := s.pitArm s1 AX.PIT_CTL.ARM 0 0x18 sel.toNat k (2 ^ 31 + k * 4096 + ph.toNat * 256 + sel.toNat) real
  .next (if !s.pdOn 5 then s else if real && !s.is BL.PIT_STAT.ARMED && s2.pit 0x18 2 k then ((((s2.pitAct).set AX.ocPitT (s.now + s.get PU.TRIP_FILT1.F_AUX (2 + k) + 1) k).set AX.ocPitPh ph.toNat k).setBit AX.ocLvl ph.toNat
      true k).axOcLevel k else s2)

end Sys2Proof.Machine
end

