-- ==== Sys2Proof/Machine/Ring.lean ====
section
/-!
DEFINITION. The host link and the mechanics of the rings (11): link events, SIZE writes and doorbells, a descriptor's
arrival, telemetry and event records, errors and interrupts.
-/
namespace Sys2Proof.Machine

/-- A host-link role session closes with the link (R386). -/
def State.closeHostRole (s : State) : State :=
  (((s.set SEC.hostRole 0).set SEC.ROLE.OPEN 0).set SEC.ROLE.ROLE 5).set SEC.ROLE.IDLE_LEFT 0

/-- PERSTN (R251, R36): every ring stops; no other part of the module is reset; the host-link role session closes. -/
def execPerstn (s : State) : Out := .next ((s.stopRings.set RING.linkUp 0).closeHostRole)

/-- FUNCTION_LEVEL_RESET (R251): every ring stops, then RING and DOOR return to their reset values. -/
def execFunctionLevelReset (s : State) : Out :=
  let t := s.stopRings.closeHostRole
  .next ((((t.dropCells (RING.rows ++ DOOR.rows) fun _ _ => true).set RING.linkUp (t.get RING.linkUp)).set RING.mps (t.get RING.mps)).set
    RING.mrrs (t.get RING.mrrs))

/-- LINK_DOWN (R251): as PERSTN, the entries in force stay in force (R247). -/
def execLinkDown (s : State) : Out := .next ((s.stopRings.set RING.linkUp 0).closeHostRole)

/-- BUS_MASTER_CLEAR (R251): the same effect on the rings. -/
def execBusMasterClear (s : State) : Out := .next s.stopRings

/-- PCIE_LINK_UP (R249, R250): a link below Gen3 with two lanes works and raises RING with ARG1 = LINK_DEGRADED. The host finds the
configuration header and writes the payload and read request sizes, of which larger ones are taken as 256 and 512. -/
def execPcieLinkUp (gen lanes mps mrrs : Nat) (s : State) : Out :=
  let t := (((s.set RING.linkUp 1).set RING.mps (min mps 256)).set RING.mrrs (min mrrs 512)).send (.pcieHeader 0x118000 (s.get SEC.LC_STAT.CODE + 1))
  .next (t.on (gen < 3 || lanes < 2) (·.event .warning 0 0x02 0x0006 0 0x0100))

/-- SIZE_WRITE (R253). A SIZE is RWL (R3); a value that is not 0 or a power of two from 8 to 4096 is refused. A
descriptor in progress completes first; a buffer that waits for a frame is a handed descriptor not yet started. Ignored while PD2 is off
(R413). -/
def execSizeWrite (ring : Fin 32) (size : BitVec 13) (s : State) : Out :=
  .next (if !s.getBit SYS.PWR_STAT.PD_ON 2 then s
    else if s.is RING.CTL.LOCK then s.accessRefused (RING.CFG.SIZE.addr ring 0) (size.toNat * 2 ^ 16)
    else if !sizeOk size.toNat then s.set RING.CTL.CFG_REJECT 1
    else if (s.desc ring).isSome && ringClass ring != .buffer then
      (s.set RING.sizePend 1 ring).set RING.sizeNew size.toNat ring
    else s.ringRestart ring size.toNat)

/-- DOORBELL (R254): ignored with STAT.TAIL when the ring is disabled, the tail is not below SIZE, or the handed
region would move backward; a doorbell before a restart has completed is ignored without STAT.TAIL (R275), and so is one while PD2 is off
(R413). -/
def execDoorbell (ring : Fin 32) (tail : BitVec 13) (highOnly : Bool) (s : State) : Out :=
  let size := s.get RING.CFG.SIZE ring
  let head := s.get RING.HEAD.HEAD ring
  let old := s.get RING.TAIL.TAIL ring
  .next (if !s.getBit SYS.PWR_STAT.PD_ON 2 || highOnly || s.is RING.sizePend ring then s
    else if size = 0 || size ≤ tail.toNat || (tail.toNat + size - head) % size < (old + size - head) % size then
      (s.set RING.STAT.TAIL 1 ring).ringSums ring
    else s.set RING.TAIL.TAIL tail.toNat ring)

/-- The OPs of each ring (R262, R263, R272 to R274, R351, R353); a setpoint or buffer ring has one use. -/
def ringOps (n : Nat) : List Nat :=
  if n = 0 then [0, 1, 3, 4, 5, 6, 7] else if n = 1 then [0x10, 0x11, 0x12, 0x13]
  else if n = 22 then [1, 2] else if n = 28 || n = 29 then [1, 2] else [1]

/-- OP is judged on this ring: not on the setpoint and buffer rings, whose descriptors carry no operation. -/
def ringHasOp (n : Nat) : Bool := n < 2 || (20 ≤ n && n < 24) || n = 28 || n = 29 || n = 31

/-- A descriptor refused before it starts (R255, R260, R262, R263, R272 to R274): LEN 0 is EMPTY except for NOP; an
OP the ring does not have is BAD_OP; an inline LEN above 16, a ring-1 descriptor that is not inline of LEN 16, a ring-0 operation without an inline payload, an
inline bulk descriptor and a buffer that is too small are RANGE. -/
def descRefusal (n : Nat) (d : Desc) : Option Status :=
  if d.len = 0 && !(n = 0 && d.op = 0) then some .empty
  else if ringHasOp n && !(ringOps n).contains d.op.toNat then some .badOp
  else if d.inl && 16 < d.len.toNat then some .range
  else if n = 0 && d.op != 0 && !d.inl then some .range
  else if n = 1 && !(d.inl && d.len = 16) then some .range
  else if 20 ≤ n && n < 24 && (d.inl || 2 ^ 20 < d.len.toNat) then some .range
  else if 24 ≤ n && n < 28 && d.len.toNat < 80 then some .range
  else if n = 30 && d.len.toNat < 1536 then some .range
  else if 2 ≤ n && n < 8 && (d.len.toNat % 16 != 0 || 4096 < d.len.toNat || (d.inl && d.len != 16)) then some .range
  else none

/-- The host memory that a descriptor's payload is read from (R249, R255): address and length. An inline payload, a buffer and a readout
read none. -/
def payloadRead (n : Nat) (d : Desc) : Option (Nat × Nat) :=
  if !d.inl && ((2 ≤ n && n < 8) || n = 20 || n = 21 || ((n = 28 || n = 29) && d.op = 1) || n = 31) then
    some (d.w0.toNat + 2 ^ 32 * d.w1.toNat, d.len.toNat)
  else none

/-- DESC_FETCH (R249, R255, R257): descriptors of one ring run one at a time in slot order, so a fetch finds the slot at the
head handed and no descriptor in progress, except that PREEMPT on a setpoint ring abandons the list being played,
which completes FLUSHED with the records accepted (R267). A CAN receive buffer takes a waiting frame at once (R357). FENCE adds nothing to an order that is already so.
In BOOT_FAIL only ring 0 NOP and ring 20 are served (R389). -/
def execDescFetch (ring : Fin 32) (d : Desc) (s : State) : Out :=
  let n : Nat := ring
  let p := (s.ridgeDrain n).preempted n
  let s1 := if (s.desc n).isSome && d.preempt && 2 ≤ n && n < 8 && p.handed n then p else s
  .next (if ringClass n = .record || !s1.handed n || (s1.desc n).isSome
      || (s1.is SEC.FW_STAT.BOOT_FAIL && !(n == 20 || (n == 0 && d.op == 0))) then s1
    else
      let s2 := (({ s1 with descs := (n, d) :: s1.descs }).set RING.STAT.BUSY 1 n).set SEC.descRole s1.linkRole n
      match descRefusal n d with
      | some st => s2.complete n st 0
      | none => if n = 1 then
          ({ s2 with ridgeIn := s2.ridgeIn ++ [{ chan := 0, inst := 1, ident := 0, mac := 0, data := (List.range 16).map d.byte }] } : State).set
            RING.ridgeOk 0
        else if 24 ≤ n && n < 28 then s2.canDeliver (n - 24)
        else (payloadRead n d).elim s2 fun p => s2.hostRead p.1 p.2)

/-- DMA_ERROR (R261): on a payload or buffer the descriptor completes DMA_ERR and the ring goes on; else it halts. An inline payload
and a list that is being played are not read from the host. -/
def execDmaError (ring : Fin 32) (payload : Bool) (s : State) : Out :=
  let reads := (match s.desc ring with | some d => !d.inl | none => false) && !s.plays.any fun p => p.ring == ring.val
  .next (if payload then (if reads then s.complete ring .dmaErr 0 else s) else if s.ringOn ring then s.haltRing ring else s)

/-- IRQ_TIMER (R258): the timer runs from the oldest unsignalled completion while TIME is not 0. -/
def execIrqTimer (ring : Fin 32) (s : State) : Out :=
  .next (if s.is RING.IRQ.TIME ring && s.is RING.unsig ring then s.ringSignal ring else s)

/-- A telemetry source's value by its code (R268). -/
def State.teleValue (s : State) (c : Nat) : Nat :=
  if 0x01 ≤ c && c ≤ 0x06 then s.get SEN.CH_VAL.FAST (c - 1)
  else if 0x07 ≤ c && c ≤ 0x0C then s.get SEN.CH_VAL.CTRL (c - 7)
  else if c = 0x0D then s.get SEN.VDC_VAL.FAST
  else if c = 0x0E then s.get SEN.VDC_VAL.FILT
  else if 0x10 ≤ c && c ≤ 0x1D || 0x30 ≤ c && c ≤ 0x3D then
    let a := (c - 0x10) / 0x20
    match (c - 0x10) % 0x20 with
    | 0 => s.get OB.TQ_VAL.T_EST a
    | 1 => s.get OB.PSI_VAL.PSI_MAG a
    | 2 => s.get OB.PSI_VAL.PSI_ANG a
    | 3 => s.get SQ.REF.T_REF a
    | 4 => s.get SQ.REF.PSI_REF a
    | 5 => s.get SQ.BAND_VAL.S a
    | 6 => s.get POS.offAng a
    | 7 => s.get POS.offSpd a
    | 8 => s.get SQ.STATUS.MODE a * 2 ^ 13 + s.get SQ.STATUS.JOINED a * 2 ^ 12 + s.get SQ.STATUS.SECTOR a * 2 ^ 8
        + s.get SQ.STATUS.TQ_STATE a * 2 ^ 6 + s.get SQ.STATUS.FLX_STATE a * 2 ^ 5 + s.get SQ.STATUS.XY_SEL a * 2 ^ 4
    | 9 => s.get OB.TQ_VAL.RES a
    | 10 => s.get OB.XY_VAL.I_X a
    | 11 => s.get OB.XY_VAL.I_Y a
    | 12 => s.get OB.SLS_VAL.SLS_ANG a
    | _ => s.get OB.SLS_VAL.SLS_SPD a
  else if 0x50 ≤ c && c < 0x68 && (c - 0x50) % 8 < 6 then
    let k := (c - 0x50) / 8
    match (c - 0x50) % 8 with
    | 0 => s.get AX.CH_SPD.SPD_MEAS k
    | 1 => s.get AX.CH_SPD.SPD_REF k
    | 2 => s.get AX.CH_CUR_UV.I_U k
    | 3 => s.get AX.CH_CUR_UV.I_V k
    | 4 => s.get AX.CH_CUR_W.I_W k
    | _ => s.get AX.STATUS.VAUX
  else if 0x70 ≤ c && c ≤ 0x7B then s.get GI.VDS.CODE (c - 0x70)
  else 0

/-- A record of the ring is dropped (R269): counted in the named counter and in DROPS; the sequence number passes it,
so that a gap in the numbers equals DROPS. -/
def State.dropRecord (s : State) (n : Nat) (ctr : Row) : State :=
  ((s.incSat ctr n).incSat RING.dropSince n).inc RING.recSeq n

/-- The eight sampled values of a telemetry ring, VAL0 first. -/
def State.teleVals (s : State) (n : Nat) : List Nat :=
  [s.get RING.SEL0.VAL0 n, s.get RING.SEL0.VAL1 n, s.get RING.SEL0.VAL2 n, s.get RING.SEL0.VAL3 n,
   s.get RING.SEL1.VAL4 n, s.get RING.SEL1.VAL5 n, s.get RING.SEL1.VAL6 n, s.get RING.SEL1.VAL7 n].map s.teleValue

/-- TELEMETRY_RECORD (R268, R269): taken at a decision boundary T_k with k mod DEC = 0. -/
def execTelemetryRecord (ring : Fin 8) (bankFree : Bool) (s : State) : Out :=
  let n := 8 + ring.val
  .next (if !s.ringOn n || s.now % 160 != 0 || s.now / 160 % s.get RING.PARAM.SP_PER n != 0 then s
    else if !s.handed n then s.dropRecord n RING.CNT.DROP_FULL
    else if !bankFree then s.dropRecord n RING.CNT.DROP_BANK
    else (s.writeRecord n (8 + n - 8) (min (s.get RING.dropSince n) 0xFFFF)
      ((s.now % 2 ^ 64) :: s.teleVals n)).set RING.dropSince 0 n)

/-- The class of an event ring. -/
def evClassOf : Nat → EvClass
  | 0 => .fault
  | 1 => .warning
  | 2 => .info
  | _ => .safety

/-- EVENT_RECORD (R270, R271): the oldest queued event of the class goes into a handed slot with the count LOST. -/
def execEventRecord (cls : Fin 4) (s : State) : Out :=
  let c := evClassOf cls
  let n := 16 + cls.val
  .next (match s.queue c with
    | [] => s
    | e :: q => if s.handed n then
        ((s.setQueue c q).writeRecord n cls (min (s.get RING.lost cls) 0xFFFF)
          [e.time, e.inst, e.source, e.code, e.arg0, e.arg1]).set RING.lost 0 cls
      else s)

/-- A readout of a store (R272): LEN is a multiple of the entry size; entries from the first index on, as many as LEN
asks and the store has; RESULT is their byte count. -/
def State.readout (s : State) (d : Desc) (entry : Nat) (store : List (List Nat)) : State :=
  if d.len.toNat % entry != 0 then s.complete 22 .range 0
  else
    let es := (store.drop d.w2.toNat).take (d.len.toNat / entry)
    (s.send (.hostData 22 es.flatten)).complete 22 .ok (es.length * entry)

/-- The number of an event class (R270). -/
def EvClass.num : EvClass → Nat
  | .fault => 0
  | .warning => 1
  | .info => 2
  | .safety => 3

/-- EVENT_STORE (R272): ring 22 reads the MRAM event store in records of 32 bytes. -/
def execEventStore (s : State) : Out :=
  .next (match s.running 22 2 with
    | none => s
    | some d => s.readout d 32 (s.evStore.map fun p =>
        [p.2.time, p.2.inst, p.2.source, p.2.code, p.2.arg0, p.2.arg1, p.1.num]))

/-- CHANGE_LOG (R272, R327): ring 22 reads the change log in entries of 96 bytes from INDEX PARAM0 onward; PARAM0 of
0xFFFF_FFFF returns the anchor as a KIND 4 record whose CHAIN holds it. -/
def execChangeLog (s : State) : Out :=
  .next (match s.running 22 1 with
    | none => s
    | some d =>
      let row (e : LogEntry) : List Nat := [e.index, e.kind, e.role, e.time, e.field, e.value, e.old, e.chain]
      if d.w2 = 0xFFFFFFFF then
        s.readout { d with w2 := 0 } 96 [[0, 4, 0, 0, 0, 0, 0, s.get BL.logAnchor]]
      else s.readout { d with w2 := 0 } 96 ((s.log.filter (d.w2.toNat ≤ ·.index)).map row))

end Sys2Proof.Machine
end

