-- ==== Sys2Proof/Machine/Can.lean ====
section
/-!
DEFINITION. The CAN FD controllers (15): transmit buffers, attempts, error confinement, reception. Controller states: 0 INIT,
1 integrating, 2 error-active, 3 error-passive, 4 bus-off, 5 recovering.
-/
namespace Sys2Proof.Machine

/-- The data bytes of a DLC (R351); a remote frame carries none. -/
def dlcBytes (fdf rtr : Bool) (dlc : Nat) : Nat :=
  if rtr && !fdf then 0
  else if dlc ≤ 8 then dlc
  else if !fdf then 8
  else ([12, 16, 20, 24, 32, 48, 64][dlc - 9]?).getD 64

/-- The frame of a record's words (R273); a remote frame is a Classical one (R348). -/
def canFrameOf (w2 w3 : Nat) (data : List Byte) : CanFrame :=
  { ide := bit w2 31, fdf := bit w2 30, brs := bit w2 29, rtr := bit w3 6 && !bit w2 30, esi := bit w3 7, ident := BitVec.ofNat 29 w2,
    dlc := BitVec.ofNat 4 w3, data := data }

namespace State

/-- A frame placed (R351). -/
def canPlace (s : State) (n c b : Nat) (shadow : Bool) (f : CanFrame) : State :=
  let s1 := s.canPut c b shadow f
  (if s1.is CAN.cur c then s1 else s1.canChoose c).complete n .ok b

/-- A CANCEL waits for the attempt of buffer `b` (R353). -/
def cxlWaits (s : State) (c b : Nat) : Bool :=
  [0, 1].any fun r => s.get CAN.cxl c r == b + 1 && !s.is CAN.cxlDone c r

/-- The CANCELs whose buffer is empty complete (R353): a frame placed behind the cancelled ones is awaited first. -/
def cancelDone (s : State) (c : Nat) : State :=
  [0, 1].foldl (fun t r =>
    let b := t.get CAN.cxl c r - 1
    t.on (t.is CAN.cxlDone c r && (t.canFrame c b false).isNone) fun u =>
      ((u.set CAN.cxl 0 c r).set CAN.cxlDone 0 c r).complete (28 + r) .ok (u.get CAN.cxlRes c r)) s

/-- The active frame of a buffer is gone, and the next one takes its place (R351); the CANCELs that awaited it have `add` in their RESULT
(R353). -/
def frameGone (s : State) (c b add : Nat) : State :=
  let s1 := [0, 1].foldl (fun (t : State) r => t.on (t.get CAN.cxl c r == b + 1 && !t.is CAN.cxlDone c r) fun u =>
    (u.set CAN.cxlRes (u.get CAN.cxlRes c r + add) c r).set CAN.cxlDone 1 c r) s
  (s1.canShift c b).cancelDone c

/-- Off the bus no attempt is in progress: the frames that a CANCEL awaits go at once (R353, R356). -/
def cancelEnd (s : State) (c : Nat) : State :=
  s.forN 32 fun b t => t.on (t.cxlWaits c b) (·.frameGone c b 1)

/-- INIT set takes a controller off the bus and ends what waits (R350, R364). -/
def canInit (s : State) (c : Nat) : State := ((s.set CAN.STATUS.STATE 0 c).set CAN.cur 0 c).cancelEnd c

/-- INIT cleared (R350): integration, or the recovery that a bus-off still needs begins (R356; DEDUCED, log entry 14). -/
def canLeaveInit (s : State) (c : Nat) : State :=
  s.on (s.get CAN.STATUS.STATE c == 0) (·.set CAN.STATUS.STATE (if !s.is CAN.off c then 1 else if s.is CAN.CTL.BO_AUTO c then 5 else 4) c)

/-- A controller's mode changes (R348, R357): a choice that the mode does not admit is dropped, and one that it admits is made. -/
def canMode (s : State) (c : Nat) : State :=
  s.on (!s.is CAN.cur c || s.is CAN.CTL.MON c || s.is CAN.CTL.ROM c) (·.canChoose c)

/-- STATE by the error counters (R348, R356). -/
def canState (s : State) (c : Nat) : State :=
  if s.canOn c then
    s.set CAN.STATUS.STATE (if 128 ≤ s.get CAN.ERR.TEC c || s.is CAN.ERR.RP c then 3 else 2) c
  else s

/-- The controller leaves the bus in bus-off (R356, R364): recovery at once with BO_AUTO; the collision count restarts. -/
def canBusOff (s : State) (c : Nat) : State :=
  let s1 := ((s.raise .warning CAN.STATUS.BUS_OFF c).set CAN.off 1 c).set CAN.STATUS.STATE (if s.is CAN.CTL.BO_AUTO c then 5 else 4) c
  ((s1.set CAN.cur 0 c).set CAN.IDC.RUN 0 c).cancelEnd c

end State

/-- CAN_SEND (R273, R351, R364): the frame is placed in the active frame or the shadow of its buffer, or refused. -/
def execCanSend (ring : Fin 2) (w2 w3 : BitVec 32) (data : List Byte) (s : State) : Out :=
  let n := 28 + ring.val
  .next (match s.running n 1 with
    | none => s
    | some d =>
      let r := if d.inl then (d.w2.toNat, d.w3.toNat, []) else (w2.toNat, w3.toNat, data)
      let f := canFrameOf r.1 r.2.1 r.2.2
      let c := bits r.2.1 5 4
      let b := bits r.2.1 15 8
      let len := 16 + dlcBytes f.fdf f.rtr f.dlc.toNat
      if d.len.toNat ≠ len || f.data.length ≠ len - 16 then s.complete n .range 0
      else if b = 0xFF then
        (match (List.range 32).find? fun k => (s.canFrame c k false).isNone && !(k == 31 && s.canReserved c) with
          | some k => s.canPlace n c k false f
          | none => s.complete n .busy 0)
      else if 32 ≤ b then s.complete n .range 0
      else if b = 31 && s.canReserved c then s.complete n .refused 0
      else if (s.canFrame c b false).isNone then s.canPlace n c b false f
      else if (s.canFrame c b true).isNone then s.canPlace n c b true f
      else s.complete n .busy 0)

/-- CANCEL (R353, R356, R364): the shadow goes at once, the active frame too unless its attempt is in progress, which it waits
for. RESULT bit 0 the active frame removed, bit 1 the shadow, bit 2 sent during the cancel. -/
def execCanCancel (ring : Fin 2) (onBus : Bool) (s : State) : Out :=
  let n := 28 + ring.val
  .next (match s.running n 2 with
    | none => s
    | some d =>
      let c := bits d.w3.toNat 5 4
      let b := bits d.w3.toNat 15 8
      if !d.inl || d.len.toNat ≠ 16 || 32 ≤ b then s.complete n .range 0
      else
        let sh := (s.canFrame c b true).isSome
        let act := (s.canFrame c b false).isSome
        let s1 := s.canDrop c b true
        if act && onBus && s.get CAN.cur c == b + 1 && s.canOn c then
          ((s1.set CAN.cxl (b + 1) c ring).set CAN.cxlRes (2 * ofBool sh) c ring).set CAN.cxlDone 0 c ring
        else (((s1.canDrop c b false).on (s.get CAN.cur c == b + 1) (·.canChoose c)).cancelDone c).complete n .ok (ofBool act + 2 * ofBool sh))

/-- CAN_JOIN (R350): 11 recessive bits after INIT was cleared, with the transceiver powered. -/
def execCanJoin (ctrl : Fin 4) (s : State) : Out :=
  let c : Nat := ctrl
  .next (if s.get CAN.STATUS.STATE c = 1 && !s.is CAN.CTL.INIT c && s.is CAN.CTL.TRX_EN c then
      ((s.set CAN.STATUS.STATE 2 c).canState c).canChoose c
    else s)

namespace State

/-- An attempt ends in an error (R353 to R355, R364): the counters of ISO 11898-1, the runs of collisions and of ACK errors, each
of which restarts the other; an attempt of another identifier restarts the count of collisions; a cancelled frame is not tried
again. Code 0 is lost arbitration, which is no error. -/
def canAttemptBad (s0 : State) (c lec : Nat) (inData : Bool) : State :=
  let b := s0.get CAN.cur c - 1
  let id := (s0.canFrame c b false).elim 0 fun f => ofBool f.ide * 2 ^ 29 + f.ident.toNat
  let s := s0.on (s0.get CAN.colId c != id) (·.set CAN.IDC.RUN 0 c)
  let s1 := (s.set CAN.ERR.LEC lec c).incSat CAN.CNT.ERR_FRAMES c
  let passive := s1.get CAN.STATUS.STATE c == 3
  let s2 := if lec = 3 && passive then s1 else s1.set CAN.ERR.TEC (min (s1.get CAN.ERR.TEC c + 8) 511) c
  let s3 := if lec = 3 then ((s2.incSat CAN.ERR.ACK_RUN c).set CAN.ackBuf b c).set CAN.IDC.RUN 0 c
    else if inData then
      let run := if s2.is CAN.IDC.RUN c && s2.get CAN.colId c == id then min (s2.get CAN.IDC.RUN c + 1) 3 else 1
      ((s2.set CAN.IDC.RUN run c).set CAN.colId id c).set CAN.ERR.ACK_RUN 0 c
    else s2
  let s4 := if lec = 0 then s else s3.canState c
  (if s4.cxlWaits c b then s4.frameGone c b 1 else s4).canChoose c

/-- The controller's pitons for the buffer in progress (R365). -/
def canPitons (s : State) (c : Nat) : State :=
  let mine := s.get CAN.PIT_CTL.BUF c + 1 == s.get CAN.cur c
  let s1 := s.on (s.pit 0x1A 1 c && mine) fun t => t.pitAct.set CAN.pitIdc 3 c
  s1.on (s1.pit 0x1A 2 c && mine) fun t => t.pitAct.set CAN.pitAck 16 c

/-- A piton acts on an attempt of its buffer that reaches the ACK slot, or the data field with `inData` (R365). -/
def canForced (s : State) (c : Nat) (inData : Bool) : Option State :=
  if s.get CAN.PIT_CTL.BUF c + 1 != s.get CAN.cur c then none
  else if s.is CAN.pitIdc c then
    some ((s.set CAN.pitIdc (s.get CAN.pitIdc c - 1) c).canAttemptBad c
      (4 + Config.free 365 [s.get CAN.cur c, s.get CAN.pitIdc c] % 2) true)
  else if s.is CAN.pitAck c && !inData then some ((s.set CAN.pitAck (s.get CAN.pitAck c - 1) c).canAttemptBad c 3 false)
  else none

end State

/-- The start-of-frame time of a frame from its captured stamp (R358): less the crossing of 25 ns and DLY. -/
def State.canSof (s : State) (c stamp : Nat) : Nat := stamp - 10 - s.get CAN.TS_COMP.DLY c

/-- A frame as a controller sends it (R348): bit rate switching with BRSE, ESI of a CAN FD frame by its own error state. -/
def State.canSent (s : State) (c : Nat) (f : CanFrame) : CanFrame :=
  { f with brs := f.fdf && f.brs && s.is CAN.CTL.BRSE c, esi := f.fdf && s.get CAN.STATUS.STATE c == 3 }

/-- CAN_TX_DONE (R348, R352, R353, R357, R358, R365): the chosen frame has been sent; its echo, if asked for, goes to the receive ring. -/
def execCanTxDone (ctrl : Fin 4) (stamp : Nat) (s : State) : Out :=
  let c : Nat := ctrl
  .next (if !s.canOn c || !s.is CAN.cur c then s
    else
      let s0 := s.canPitons c
      match s0.canForced c false with
      | some t => t
      | none =>
        let b := s0.get CAN.cur c - 1
        match s0.canFrame c b false with
        | none => s0
        | some g =>
          let f := s0.canSent c g
          let s1 := ((s0.incSat CAN.CNT.TX_OK c).set CAN.ERR.TEC (s0.get CAN.ERR.TEC c - 1) c).set CAN.ERR.LEC 0 c
          let s2 := (((s1.set CAN.ERR.ACK_RUN 0 c).set CAN.noAck 0 c).set CAN.IDC.RUN 0 c).send (.canFrame c f)
          let s3 := s2.on (s2.is CAN.CTL.TX_ECHO c) (·.canQueue
            { ctrl := c, time := s2.canSof c stamp, word := f.dlc.toNat + 16 * c + 64 * ofBool f.rtr + 128 * ofBool f.esi + 2 ^ 16 + 256 * b,
              frame := f })
          ((s3.frameGone c b 4).canState c).canChoose c)

/-- CAN_TX_ERROR (R353 to R355, R365): an attempt ends in an error, or code 0 in lost arbitration. -/
def execCanTxError (ctrl : Fin 4) (lec : Fin 7) (inData : Bool) (s : State) : Out :=
  .next (if !s.canOn ctrl || !s.is CAN.cur ctrl then s
    else
      let s0 := s.on (inData || lec.val == 3) (·.canPitons ctrl)
      let forced := if inData || lec.val == 3 then s0.canForced ctrl inData else none
      forced.getD (s0.canAttemptBad ctrl lec inData))

/-- An error in reception (ISO 11898-1): REC rises and may make the controller receive error-passive; in restricted operation
the counter stands (PRESUMED, log entry 14). -/
def State.canRxBad (s : State) (c lec : Nat) (eight : Bool) : State :=
  let r := s.get CAN.ERR.REC c + (if s.is CAN.CTL.ROM c then 0 else if eight then 8 else 1)
  let s1 := ((s.set CAN.ERR.LEC lec c).incSat CAN.CNT.ERR_FRAMES c).set CAN.ERR.REC (min r 127) c
  ((s1.on (128 ≤ r) (·.set CAN.ERR.RP 1 c)).canState c).canChoose c

/-- CAN_RX_ERROR (R348). -/
def execCanRxError (ctrl : Fin 4) (lec : Fin 7) (eight : Bool) (s : State) : Out :=
  .next (if !s.canOn ctrl then s else s.canRxBad ctrl lec eight)

/-- ID_COLLISION (R354): three counted attempts in a row; the event carries the identifier. -/
def execIdCollision (ctrl : Fin 4) (s : State) : Out :=
  let c : Nat := ctrl
  .next (if s.get CAN.IDC.RUN c < 3 then s
    else
      let id := s.get CAN.colId c
      ((s.set CAN.IDC.ID id c).set CAN.IDC.IDE (id / 2 ^ 29) c).raiseArg .warning CAN.STATUS.ID_COLLISION (id % 2 ^ 29) c)

/-- ALONE (R355): 16 ACK errors in a row; the event carries the buffer. -/
def execCanAlone (ctrl : Fin 4) (s : State) : Out :=
  .next (if s.get CAN.ERR.ACK_RUN ctrl < 16 then s
    else (s.set CAN.noAck 1 ctrl).raiseArg .warning CAN.STATUS.ALONE (s.get CAN.ackBuf ctrl) ctrl)

/-- BUS_OFF (R356): TEC exceeds 255. -/
def execBusOff (ctrl : Fin 4) (s : State) : Out :=
  .next (if s.canOn ctrl && 255 < s.get CAN.ERR.TEC ctrl then s.canBusOff ctrl else s)

/-- BO_RECOVER (R356): outside bus-off it has no effect. -/
def execBoRecover (ctrl : Fin 4) (s : State) : Out :=
  .next (if !s.pdOn 6 then s else if s.get CAN.STATUS.STATE ctrl = 4 then (s.set CAN.CTL.BO_RECOVER 1 ctrl).set CAN.STATUS.STATE 5 ctrl else s)

/-- Recovery completes after 128 × 11 recessive bits (R356), by a controller that is not in INIT (R350). -/
def execCanRecovered (ctrl : Fin 4) (s : State) : Out :=
  let c : Nat := ctrl
  .next (if s.get CAN.STATUS.STATE c = 5 && !s.is CAN.CTL.INIT c then
      ((((((s.set CAN.STATUS.STATE 2 c).set CAN.off 0 c).set CAN.CTL.BO_RECOVER 0 c).set CAN.ERR.TEC 0 c).set CAN.ERR.REC 0 c).set CAN.ERR.RP 0
        c).canChoose c
    else s)

/-- DOM_TMO (R348): TXD dominant for 4 ms; the controller enters bus-off. -/
def execDomTmo (ctrl : Fin 4) (s : State) : Out :=
  .next (if s.is CAN.CTL.TRX_EN ctrl then (s.raise .warning CAN.STATUS.DOM_TMO ctrl).canBusOff ctrl else s)

/-- A recessive bit where a controller expects a dominant one after FDF, or FDF itself while it takes no CAN FD frames (R348, R350): with PXE it
reintegrates, without it sends an error frame. -/
def State.canException (s : State) (c : Nat) : State :=
  if s.is CAN.CTL.PXE c then ((s.raise .warning CAN.STATUS.PEX c).set CAN.STATUS.STATE 1 c).set CAN.cur 0 c else s.canRxBad c 2 false

/-- PEX (R349, R350): a loop delay above 127 clocks, which ends the frame with a bit error of a kind that no rule gives, outside the data field
(DESIGN CHOICE, log entry 14); a recessive res bit. -/
def execCanPex (ctrl : Fin 4) (tdcv : Option (BitVec 8)) (s : State) : Out :=
  let c : Nat := ctrl
  .next (match tdcv with
    | some v =>
      if 127 < v.toNat then
        (s.raise .warning CAN.STATUS.PEX c).on (s.canOn c && s.is CAN.cur c) (·.canAttemptBad c (4 + Config.free 349 [v.toNat] % 2) false)
      else s.set CAN.TDC.TDCV v.toNat c
    | none =>
      if !s.canOn c then s else s.canException c)

namespace State

/-- The filter that decides a frame (R357): the first that matches. -/
def canFilter (s : State) (c : Nat) (f : CanFrame) : Option Nat :=
  (List.range 64).find? fun m => s.is CAN.FLT_ID.EN c m && s.is CAN.FLT_ID.IDE c m == f.ide
    && (f.ident.toNat ^^^ s.get CAN.FLT_ID.ID c m) &&& s.get CAN.FLT_MASK.MASK c m == 0

/-- The frame is a Ridge slot's (R315, R357): an RX_ID above 0x7FF names an extended frame. -/
def canRidge (s : State) (c : Nat) (f : CanFrame) : Bool :=
  (List.range 16).any fun k => s.is BL.RS_CFG.EN k && s.get BL.RS_CFG.CHAN k == 1 && s.get BL.RS_CFG.INST k == c
    && s.get BL.RS_CFG2.RX_ID k == f.ident.toNat && decide (0x7FF < s.get BL.RS_CFG2.RX_ID k) == f.ide

/-- The receive error counter after a good frame (ISO 11898-1): one less, or from error-passive a value of 119 to 127, which
the standard leaves open; in restricted operation it stands (PRESUMED, log entry 14). -/
def canRecGood (s : State) (c : Nat) : State :=
  if s.is CAN.CTL.ROM c then s
  else if s.is CAN.ERR.RP c then
    ({ (s.set CAN.ERR.RP 0 c).set CAN.ERR.REC (119 + Config.fresh s.fresh % 9) c with fresh := s.fresh + 1 } : State)
  else s.set CAN.ERR.REC (s.get CAN.ERR.REC c - 1) c

end State

/-- CAN_RX (R273, R315, R348, R357, R358): a Ridge frame to the Belay island, else the filters, else DEF_ACC. With FDOE clear a CAN FD frame is a
protocol exception (ISO 11898-1; PRESUMED, log entry 14). -/
def execCanRx (ctrl : Fin 4) (frame : CanFrame) (stamp : Nat) (s : State) : Out :=
  let c : Nat := ctrl
  .next (if !s.canOn c then s
    else if frame.fdf && !s.is CAN.CTL.FDOE c then s.canException c
    else
      let s1 := (((s.canRecGood c).canState c).canChoose c).perfAdd 0x1A c 0x38 1
      let keep (t : State) (flt : Nat) : State := t.canQueue
        { ctrl := c, time := t.canSof c stamp,
          word := frame.dlc.toNat + 16 * c + 64 * ofBool frame.rtr + 128 * ofBool frame.esi + 256 * flt, frame := frame }
      if s1.canRidge c frame then
        { s1 with ridgeIn := s1.ridgeIn
            ++ [{ chan := 1, inst := c, ident := frame.ident.toNat, mac := 0, data := frame.data.map (·.toNat) }] }
      else match s1.canFilter c frame with
        | some m => if s1.is CAN.FLT_ID.ACT c m then keep s1 m else s1
        | none => if s1.is CAN.CTL.DEF_ACC c then keep s1 0xFF else s1)

/-- A controller's buffers are lost (R364, R446): a CANCEL that waits finds its buffer empty. -/
def State.canStop (s : State) (c : Nat) : State :=
  ({ s with canTx := s.canTx.filter fun p => p.1.1 != c } : State) |>.forN 32 (fun b t => t.on (t.cxlWaits c b) (·.frameGone c b 1)) |>.cancelDone c

/-- CAN_PIT_ARM (R365, R329). -/
def execCanPitArm (ctrl : Fin 4) (buf : BitVec 5) (sel : BitVec 4) (s : State) : Out :=
  let c : Nat := ctrl
  .next (if !s.pdOn 6 then s else s.pitArm ((s.set CAN.PIT_CTL.BUF buf.toNat c).set CAN.PIT_CTL.SEL sel.toNat c) CAN.PIT_CTL.ARM c 0x1A sel.toNat c
    (2 ^ 31 + buf.toNat * 256 + sel.toNat) (1 ≤ sel.toNat ∧ sel.toNat ≤ 2))

end Sys2Proof.Machine
end

