-- ==== Sys2Proof/Machine/Eth.lean ====
section
/-!
DEFINITION. The Ethernet ports (15): frames sent and received, the link, MACsec's packet numbers and counters. Frames enter and
leave here without FCS and ICV; whether a received frame's ICV is good comes with its SecTAG.
-/
namespace Sys2Proof.Machine

/-- The EtherType of a frame, behind an 802.1Q tag if there is one (R359). -/
def etherType (f : List Byte) : Nat :=
  let w (k : Nat) : Nat := (f.getD k 0).toNat * 256 + (f.getD (k + 1) 0).toNat
  if w 12 = 0x8100 then w 16 else w 12

/-- The payload behind the EtherType. -/
def etherPayload (f : List Byte) : List Byte :=
  if (f.getD 12 0).toNat = 0x81 && (f.getD 13 0).toNat = 0 then f.drop 18 else f.drop 14

/-- The destination address, the first octet the least significant (15, MAC_LO). -/
def etherDst (f : List Byte) : Nat := leNat ((f.take 6).map (·.toNat))

namespace State

/-- A port's station address. -/
def macAddr (s : State) (p : Nat) : Nat := s.get ETH.MAC_LO.MAC_ADDR_LO p + 2 ^ 32 * s.get ETH.MAC_HI.MAC_ADDR_HI p

/-- The address filter (R360). -/
def ethAddrOk (s : State) (p : Nat) (f : List Byte) : Bool :=
  let a := etherDst f
  a == s.macAddr p || (a == 2 ^ 48 - 1 && s.is ETH.PCFG.BCAST p) || s.is ETH.PCFG.PROMISC p
    || (List.range 16).any fun m => s.is ETH.MC_HI.MC_EN p m && s.get ETH.MC_LO.MC_ADDR_LO p m
        + 2 ^ 32 * s.get ETH.MC_HI.MC_ADDR_HI p m == a

/-- 802.1AS and EAPOL frames that pass MACsec unprotected (R363). -/
def macsecBypass (s : State) (f : List Byte) : Bool :=
  s.is ETH.AS_CFG.AS_BYPASS && (etherType f == 0x88F7 || etherType f == 0x888E)

/-- A frame for ring 30 (R274): it fills a buffer, or is dropped and counted. -/
def ethDeliver (s : State) (p : Nat) (f : List Byte) (stamp : Nat) : State :=
  if (s.desc 30).isSome then
    (s.send (.hostData 30 ([stamp, f.length, p] ++ f.map (·.toNat)))).complete 30 .ok (16 + f.length)
  else s.incSat RING.CNT.DROP_FULL 30

/-- The enabled Ridge slot that names a port and an EtherType (R315, R360): RX_ID [15:0], whose reset value 0 stands for the default. -/
def ethRidge (s : State) (p ty : Nat) : Bool :=
  (List.range 16).any fun k => s.is BL.RS_CFG.EN k && s.get BL.RS_CFG.CHAN k == 2 && s.get BL.RS_CFG.INST k == p
    && s.slotType k == ty

/-- The suite numbers packets in 64 bits (R363). -/
def xpn (s : State) (p : Nat) : Bool := decide (2 ≤ s.get ETH.MSEC_CFG.CIPHER p)

/-- A SAK is installed for the port's selected transmit association (R363, R390). -/
def txSak (s : State) (p : Nat) : Bool := s.is ETH.sakOn (4 * p + s.get ETH.MSEC_CFG.TX_AN p)

/-- A received frame passes strict validation (R363): a SecTAG of the port's receive channel, an association with a SAK, a good ICV, a packet
number not below the replay window. -/
def secOk (s : State) (p : Nat) (tag : Option SecTag) : Bool :=
  match tag with
  | none => false
  | some t =>
    t.sci.toNat == s.get ETH.RX_SCI.RX_SCI p 0 + 2 ^ 32 * s.get ETH.RX_SCI.RX_SCI p 1 && decide (t.an.toNat < 2)
      && s.is ETH.sakOn (4 * p + 2 + t.an.toNat) && t.icvOk
      && decide (s.get ETH.rxPn p t.an.toNat ≤ t.pn.toNat + s.get ETH.MSEC_CFG.REPLAY_WIN p)

/-- A valid frame moves its association's replay window on (R363). -/
def secSeen (s : State) (p : Nat) (tag : Option SecTag) : State :=
  match tag with
  | none => s
  | some t => s.set ETH.rxPn (max (s.get ETH.rxPn p t.an.toNat) (min (t.pn.toNat + 1) (2 ^ 64 - 1))) p t.an.toNat

/-- PN_EXH follows the number of the selected association. -/
def pnExh (s : State) (p : Nat) : State := s.setb ETH.MSEC_STAT.PN_EXH (!s.xpn p && s.get ETH.TX_PN.PN p == 0xFFFFFFFF) p

/-- TX_AN selects an association (R363): each keeps its packet number. -/
def txAn (s : State) (p an : Nat) : State :=
  let old := s.get ETH.MSEC_CFG.TX_AN p
  if old = an then s
  else
    (((s.set ETH.sakPn (s.get ETH.TX_PN.PN p) p old).set ETH.TX_PN.PN (s.get ETH.sakPn p an) p).set ETH.MSEC_CFG.TX_AN an p).pnExh p

/-- The row of an association's packet number, low half: TX_PN of the one that is selected. -/
def pnRow (s : State) (p an : Nat) : Row × Nat :=
  if s.get ETH.MSEC_CFG.TX_AN p = an then (ETH.TX_PN.PN, 0) else (ETH.sakPn, an)

/-- What a protected frame's SecTAG holds (R363): the SCI is MAC_ADDR followed by port identifier 0x0001. -/
def secTag (s : State) (p : Nat) : Nat × Nat × Nat :=
  let an := s.get ETH.frameAn p
  let r := s.pnRow p an
  (s.macAddr p + 2 ^ 48 * 0x0100, an, s.get r.1 p r.2 + 2 ^ 32 * s.get ETH.pnHi p an)

/-- A protected frame has taken its association's packet number (R363): PN_LOW at 0xC000_0000, PN_EXH at 0xFFFF_FFFF for the suites of 32 bits,
64 bits for the others. -/
def pnNext (s : State) (p : Nat) : State :=
  let an := s.get ETH.frameAn p
  let r := s.pnRow p an
  let n := s.get r.1 p r.2 + 1
  let s1 := s.set r.1 n p r.2
  if s.xpn p then s1.on (n == 2 ^ 32) fun t => t.set ETH.pnHi (t.get ETH.pnHi p an + 1) p an
  else if s.get ETH.MSEC_CFG.TX_AN p ≠ an then s1
  else (s1.on (n == 0xC0000000) (·.raise .warning ETH.MSEC_STAT.PN_LOW p)).on (n == 0xFFFFFFFF) (·.set ETH.MSEC_STAT.PN_EXH 1 p)

end State

/-- ETH_SEND (R274, R361): a frame for a port without a link, or whose transmit SA is exhausted, completes STATE, and so does
one to be protected without a SAK. -/
def execEthSend (frame : List Byte) (s : State) : Out :=
  .next (match s.running 31 1 with
    | none => s
    | some d =>
      let p := d.w2.toNat % 2
      if d.len.toNat < 60 || 1518 < d.len.toNat then s.complete 31 .range 0
      else if frame.length ≠ d.len.toNat || s.ethTxQ.length ≠ 0 then s
      else if !s.is ETH.PSTAT.LINK p || (s.is ETH.MSEC_CFG.TX_EN p && (s.is ETH.MSEC_STAT.PN_EXH p || (!s.txSak p && !s.macsecBypass frame))) then
        s.complete 31 .state 0
      else { s.set ETH.frameAn (s.get ETH.MSEC_CFG.TX_AN p) p with ethTxQ := s.ethTxQ ++ [(p, frame)] })

/-- ETH_TX_DONE (R361, R363, R364): the last octet of a frame has left; a ring-31 frame, protected on the association that was selected when it
began, completes with its time stamp. A frame of NET takes a packet number where it is protected, which with AS_BYPASS an 802.1AS
message is not (R363). -/
def execEthTxDone (port : Fin 2) (src : EthSrc) (stamp : Nat) (s : State) : Out :=
  let p : Nat := port
  let net (safe : Bool) : State :=
    s.on (s.is ETH.MSEC_CFG.TX_EN p && safe) fun t => (t.set ETH.frameAn (t.get ETH.MSEC_CFG.TX_AN p) p).pnNext p
  .next (match src, s.ethTxQ with
      | .gptp, _ => net !(s.is ETH.AS_CFG.AS_BYPASS)
      | .ridge, _ => net true
      | .ring, [] => s
      | .ring, (q, f) :: rest =>
        if q ≠ p then s
        else
          let safe := s.is ETH.MSEC_CFG.TX_EN p && !s.macsecBypass f
          let s1 := ({ s with ethTxQ := rest } : State).send (.ethFrame p (if safe then some (s.secTag p) else none) f)
          (s1.on safe (·.pnNext p)).complete 31 .ok stamp)

/-- ETH_RX (R315, R359, R360, R362, R363): validation, the address filter, 802.1AS, the Ridge slots, ring 30. -/
def execEthRx (port : Fin 2) (frame : List Byte) (fcsOk : Bool) (tag : Option SecTag) (stamp : Nat) (s0 : State) : Out :=
  let p : Nat := port
  let ty := etherType frame
  let safe := s0.is ETH.MSEC_CFG.RX_EN p && !s0.macsecBypass frame
  let s := s0.on (safe && s0.secOk p tag) (·.secSeen p tag)
  .next (if !s0.is ETH.PCFG.EN p || !s0.is ETH.PSTAT.LINK p then s0
    else if !fcsOk || frame.length < 60 || 1518 < frame.length then s0.incSat ETH.RX_BAD.FCS p
    else if ty = 0x8808 then s0.incSat ETH.RX_BAD.CTRL p
    else if safe && !s0.secOk p tag then s0.incSat ETH.MSEC_STAT.DROP p
    else if !s.ethAddrOk p frame then s
    else if ty = 0x88F7 && s.is ETH.AS_CFG.AS_EN then
      (if s.is ETH.AS_CFG.AS_BRIDGE then s.ethDeliver p frame stamp else s)
    else if s.ethRidge p ty then
      { s with ridgeIn := s.ridgeIn
          ++ [{ chan := 2, inst := p, ident := ty, mac := leNat (((frame.drop 6).take 6).map (·.toNat)), data := ((etherPayload frame).take 16).map (·.toNat) }] }
    else s.ethDeliver p frame stamp)

/-- The ports lose what they hold and their links (R446): a ring-31 frame that has not left completes STATE (R361). -/
def State.ethStop (s : State) : State :=
  if s.ethTxQ.isEmpty then s else ({ s with ethTxQ := [] } : State).complete 31 .state 0

/-- A port's link changes (R359, R361): a warning event; a loss is counted, and a ring-31 frame that has not left is not sent. -/
def State.ethLink (s : State) (p : Nat) (up : Bool) : State :=
  if s.is ETH.PSTAT.LINK p == up then s
  else
    let s1 := (s.setb ETH.PSTAT.LINK up p).on (!up) (·.incSat ETH.PSTAT.LINK_DOWN p)
    let s2 := s1.event .warning p 0x1B 0x0001 (ETH.PSTAT.LINK.addr p 0) (2 ^ 31)
    if !up && s2.ethTxQ.any (·.1 == p) then ({ s2 with ethTxQ := [] } : State).complete 31 .state 0 else s2

/-- ETH_LINK_CHANGE (R359). -/
def execEthLinkChange (port : Fin 2) (up : Bool) (sqi : BitVec 3) (s : State) : Out :=
  let p : Nat := port
  let s0 := s.set ETH.PSTAT.SQI sqi.toNat p
  .next (if up && !s.is ETH.PCFG.EN p then s0 else s0.ethLink p up)

/-- MS_FAULT (R359): 200 ms of training without a link. -/
def execMsFault (port : Fin 2) (s : State) : Out :=
  .next (if s.is ETH.PCFG.EN port && !s.is ETH.PSTAT.LINK port then s.raise .warning ETH.PSTAT.MS_FAULT port else s)

/-- PDELAY_RX (R362): NET answers on an enabled port with its link up. -/
def execPdelayRx (port : Fin 2) (stamp : Nat) (s : State) : Out :=
  .next (if s.is ETH.AS_CFG.AS_EN && s.is ETH.PCFG.EN port && s.is ETH.PSTAT.LINK port then s.send (.pdelayResp port stamp) else s)

end Sys2Proof.Machine
end

