-- ==== Sys2Proof/Machine/GiOps.lean ====
section
/-!
DEFINITION. The gate islands (08): an island's switch, state, store, profiles and trims, and what brings it into SAFE and out.
An island's own side is in the hidden rows of GI, its proxy in the registers of GI; frames carry one to the other.
-/
namespace Sys2Proof.Machine

/-- A low-side island: the odd numbers (08). -/
def isLow (i : Nat) : Bool := i % 2 == 1

/-- The settings of an island's configuration space, 0x180 to 0x18C (R193). -/
def islandSettings : List Row :=
  [GI.iVpos, GI.iVneg, GI.iUvP, GI.iUvN, GI.iDesV, GI.iBlank, GI.iDesF, GI.iDiTh, GI.iDiF, GI.iScDly, GI.iBcWait, GI.iBcVds, GI.iCtl]

/-- The state of an island beside its banks and its supplies. -/
def islandFlags : List Row := [GI.iTrimEnd, GI.iPend, GI.iStartT, GI.iEndT, GI.iSc, GI.iBc, GI.iFlag, GI.iLost]

/-- The proxy fields that a RESET returns to their reset values (R193), and the configuration frames on their way, which are lost. -/
def proxyFields : List Row :=
  [GI.CTL.RELEASE, GI.CTL.CONF_DONE, GI.CTL.SWAP, GI.CTL.NTC_ABS, GI.CTL.SC_SLOT, GI.STATUS.ON, GI.STATUS.OVB, GI.STATUS.BL_CODE,
   GI.MEAS_T.TNTC, GI.MEAS_T.TDIE, GI.MEAS_V.VNEG, GI.MEAS_V.VPOS, GI.VDS.VAGE, GI.VDS.CODE, GI.TRIP.DESAT, GI.TRIP.DIDT, GI.TRIP.UVLO,
   GI.TRIP.OT, GI.TRIP.LINK, GI.TRIP.TRIP_CNT, GI.LINK.BAD_CRC, GI.LINK.ABORT, GI.LINK.LATE_EDGE, GI.LINK.BAD_CMD_CNT, GI.STATUS.BANK, GI.STATUS.TRIM, GI.STATUS.OVLP,
   GI.STATUS.PROF_CRC, GI.STATUS.BAD_CMD, GI.STATUS.BL_CONTRA, GI.STATUS.CM_EVT, GI.STATUS.TRIM_SAT, GI.SUPPLY.VPOS_SET,
   GI.SUPPLY.VNEG_SET, GI.SUPPLY.UVLO_P, GI.SUPPLY.UVLO_N, GI.PROT.DESAT_V, GI.PROT.BLANK, GI.PROT.DESAT_FLT, GI.PROT.DIDT_TH,
   GI.PROT.DIDT_FLT, GI.SAFE_CFG.SC_DLY, GI.SAFE_CFG.BC_WAIT, GI.SAFE_CFG.BC_VDS, GI.PROF_CRC.CALC, GI.PROF_CRC.ISL,
   GI.PROF_DUR.E_SOFT, GI.PROF_DUR.E_MAX, GI.STATUS.PEND, GI.cfgOut]

namespace State

/-- A row back at its reset value. -/
def toReset (s : State) (r : Row) (i : Nat := 0) (j : Nat := 0) : State := s.set r (r.resetAt i) i j

/-- All elements of a row of one instance back at their reset value. -/
def rowReset (s : State) (r : Row) (i : Nat) : State := s.forN r.c2 fun j t => t.toReset r i j

/-- The island's store, trims and flags at their reset values: banks, soft profile, settings (R202, RESET of R193). -/
def islandClear (s : State) (i : Nat) : State :=
  let s1 := (islandSettings ++ islandFlags ++ [GI.iConf, GI.iBank]).foldl (fun t r => t.toReset r i) s
  [GI.iPb, GI.iSb, GI.iSoft, GI.iTrim, GI.iSatRun, GI.iCrc].foldl (fun t r => t.rowReset r i) s1

/-- The proxy at its reset values, its island in UNCONF (R193). -/
def proxyClear (s : State) (i : Nat) : State :=
  let s1 := ((proxyFields.foldl (fun t r => t.toReset r i) s).set GI.STATUS.STATE 1 i).setBit GLK.LINK_STAT.CONF i false
  [GI.PROF_WIN.DUR, GI.PROF_WIN.CUR, GI.SLOT_CFG.DVDT_TGT, GI.SLOT_CFG.DV_FIRST, GI.SLOT_CFG.DV_LAST, GI.SOFT_WIN.DUR,
    GI.SOFT_WIN.CUR, GI.winB, GI.slotB, GI.satWarn].foldl (fun t r => t.rowReset r i) s1

/-- The code of a gate current (R195): CUR with the trim, clamped to 0 to 63; 0 leaves the gate floating. -/
def gateCode (cur : Nat) (trim : Int) : Nat := (clampI 0 63 (cur + trim)).toNat

/-- The 5 ns steps of a profile (R195): the segment of each and its CUR. -/
def profSteps (words : List Nat) : List (Nat × Nat) :=
  (List.range words.length).flatMap fun k => let w := words.getD k 0; List.replicate (w / 64 % 64 + 1) (k, w % 64)

/-- The switch is off, or goes off; what waited to turn it on is dropped. -/
def switchOff (s : State) (i : Nat) : State :=
  ((((s.set GI.iOn 0 i).set GI.iPend 0 i).set GI.iEndT 0 i).set GI.iSc 0 i).set GI.iBc 0 i

/-- The switch turns off along the soft profile, from its segment 0, or is off already; what waited to turn it on is dropped. A normal
turn-off that still runs is replaced where `going` says so (R206). -/
def softTurnOff (s : State) (i : Nat) (going : Bool := false) : State :=
  let codes := (profSteps ((List.range 8).map fun k => s.get GI.iSoft i k)).map fun p => gateCode p.2 0
  (s.on (s.is GI.iOn i || going) (·.send (.gateDrive i false codes))).switchOff i

/-- A flag that the next STATUS frame reports. -/
def islandFlag (s : State) (i bit : Nat) : State := s.setBit GI.iFlag bit true i

/-- An ignored command (R194, R197): BAD_CMD. -/
def badCmd (s : State) (i : Nat) : State := (s.islandFlag i 0).incSat GI.LINK.BAD_CMD_CNT i

/-- The island leaves SAFE (R194): its switch off, to HELD if it is configured, to UNCONF if not. -/
def leaveSafe (s : State) (i : Nat) : State := (s.softTurnOff i).set GI.iSt (if s.is GI.iConf i then 2 else 1) i

/-- The gate-link command in force (R9): READY follows the edge commanded last, HELD holds the switch off; in other states the link commands
nothing. -/
def linkCommand (s : State) (i : Nat) : Option Bool :=
  match s.get GI.iSt i with
  | 2 => some false
  | 3 => some (if s.is GI.iPend i then s.is GI.iDir i else s.is GI.iOn i)
  | _ => none

/-- The Belay line commands the switch: contrary to the gate-link command in force, the next frame reports it (R9, R210). -/
def contra (s : State) (i : Nat) (on : Bool) : State := s.on (s.linkCommand i == some (!on)) (·.islandFlag i 1)

/-- What the broadcast and the Belay line ask of the island in its present state (R9, R194, R206 to R208): looked at when one of
them changes and at every entry to HELD or UNCONF. The broadcast prevails in a low-side island. -/
def govern (s : State) (i : Nat) : State :=
  let st := s.get GI.iSt i
  if st = 0 then s
  else if isLow i && s.is GI.iOvb i then
    ((s.set GI.iSt 4 i).set GI.iPend 0 i).setb GI.iBc (!s.is GI.iOn i) i
  else
    match s.get GI.iBl i with
    | 0 => if st = 4 then s.leaveSafe i else s
    | 1 => if s.is GI.iConf i then ((s.contra i false).softTurnOff i).set GI.iSt 4 i
           else if st = 1 then s else (s.contra i false).leaveSafe i
    | c =>
      let t := (s.contra i ((c == 2) == isLow i)).set GI.iSt 4 i
      if (c == 2) == isLow i then ((t.set GI.iPend 0 i).set GI.iBc 0 i).setb GI.iSc (!t.is GI.iOn i) i
      else t.softTurnOff i

/-- A segment word's duration in 1.25 ns: (DUR + 1) × 5 ns (R195). -/
def segTicks (w : Nat) : Nat := (w / 64 + 1) * 4

/-- The layout's number of a direction (R193): 0 turn-on, 1 turn-off. -/
def wordDir (on : Bool) : Nat := ofBool (!on)

/-- The duration of a profile of the island's active bank, in 1.25 ns (R195). -/
def profTicks (s : State) (i slot dir : Nat) : Nat :=
  ((List.range 8).map fun k => segTicks (s.get GI.iPb i (256 * s.get GI.iBank i + 16 * slot + 8 * dir + k))).sum

/-- One measurement of the dv/dt loop (R198), 0.5 V/ns against a target in V/ns: one step up or down outside the dead band,
within ±8. -/
def trimStep (tgt : Nat) (trim : Int) (m : Nat) : Int :=
  if 16 * m < 30 * tgt then min 8 (trim + 1) else if 34 * tgt < 16 * m then max (-8) (trim - 1) else trim

/-- A measurement outside the dead band (R198). -/
def outsideBand (tgt m : Nat) : Bool := decide (16 * m < 30 * tgt) || decide (34 * tgt < 16 * m)

/-- The dv/dt loop over a profile (R195, R198): from its 5 ns steps and the measurements of those in which Vds is in transition, the trim at the
end, the last measurement, and the codes driven. Only steps of the loop segments measure and carry the trim. -/
def loopRun (tgt first last : Nat) : List (Nat × Nat) → List (Option Nat) → Int → Option Nat → List Nat → Int × Option Nat × List Nat
  | [], _, trim, m, codes => (trim, m, codes.reverse)
  | p :: ps, ms, trim, m, codes =>
    if first ≤ p.1 ∧ p.1 ≤ last then
      match ms.headD none with
      | some x =>
        let t := trimStep tgt trim x
        loopRun tgt first last ps ms.tail t (some x) (gateCode p.2 t :: codes)
      | none => loopRun tgt first last ps ms.tail trim m (gateCode p.2 trim :: codes)
    else loopRun tgt first last ps ms.tail trim m (gateCode p.2 0 :: codes)

/-- An edge runs (R191, R195, R197 to R199, R215): the profile of the slot from its segment 0; one that starts within an opposite edge abandons
that, without the dv/dt loop. The trim reached is the next one's start; an edge that ends at ±8 outside the dead band sets TRIM_SAT. -/
def runEdge (s : State) (i : Nat) (on : Bool) (slot start : Nat) (dvdt : List (Option (BitVec 10))) : State :=
  let dir := wordDir on
  let k := 2 * slot + dir
  let b := s.get GI.iBank i
  let ovf := decide (start < s.get GI.iEndT i) && s.is GI.iRunDir i != on
  let w := s.get GI.iSb i (32 * b + k)
  let tgt := w / 64
  let p := s.pit 0x20 6 i
  let loop := !ovf && tgt != 0
  let steps := profSteps ((List.range 8).map fun q => s.get GI.iPb i (256 * b + 16 * slot + 8 * dir + q))
  let ms := dvdt.map fun m => m.map fun x => if p then 2 * x.toNat else x.toNat
  let r := if loop then loopRun tgt (w / 8 % 8) (w % 8) steps ms (s.geti GI.iTrim i k) none []
    else (s.geti GI.iTrim i k, none, steps.map fun q => gateCode q.2 0)
  let sat := loop && r.1.natAbs == 8 && (match r.2.1 with | some m => outsideBand tgt m | none => false)
  let s1 := (((s.on p (·.pitAct)).on ovf (·.raise .warning GI.STATUS.OVLP i)).set GI.iPend 0 i).send (.gateDrive i on r.2.2)
  let s2 := ((s1.setb GI.iOn on i).setb GI.iRunDir on i).set GI.iEndT (start + s1.profTicks i slot dir) i
  let s3 := ((s2.seti GI.iTrim r.1 i k).seti GI.iTrimEnd r.1 i).incSat GI.iEdges i
  if sat then ((s3.islandFlag i 3).incSat GI.iSats i).incSat GI.iSatRun i slot
  else (s3.set GI.iSatRun 0 i slot).set GI.satWarn 0 i slot

/-- A cause for a TRIP frame (R205). -/
def islandCause (s : State) (i bit : Nat) : State :=
  let t := s.setBit GI.iCause bit true i
  t.set GI.iLast (t.get GI.iCause i) i

/-- The DESAT and DIDT pitons act at a turn-on (R215). -/
def onPitons (s : State) (i : Nat) : State :=
  let q (n b : Nat) (t : State) : State := t.on (t.pit 0x20 n i) fun u => u.pitAct.islandCause i b
  q 1 4 (q 2 3 s)

/-- The switch turns on with the profile of slot SC_SLOT (R207, R208). -/
def scOn (s : State) (i start : Nat) (dvdt : List (Option (BitVec 10))) : State :=
  ((s.runEdge i true (s.get GI.iCtl i % 16) start dvdt).onPitons i |>.set GI.iSc 0 i).set GI.iBc 0 i

/-- UVLO (R202): the switch off, along the soft profile while VPOS is at 6 V or above; STATE OFF, the cause. -/
def uvloEnter (s : State) (i : Nat) (below6 : Bool) : State :=
  let s1 := s.on below6 (·.set GI.iLow 1 i)
  if s1.is GI.iUvlo i then s1
  else (((if below6 then s1.switchOff i else s1.softTurnOff i).set GI.iUvlo 1 i).set GI.iSt 0 i).islandCause i 2

/-- The island loses its downlink (R193, R194, R210): the switch off and HELD; in SAFE and OFF its state stays. An OPEN that an unconfigured
island finds on its line is not acted on here: SAFE would return it to UNCONF at once (DESIGN CHOICE, log entry 43). -/
def linkLost (s : State) (i : Nat) : State :=
  let st := s.get GI.iSt i
  let s1 := if st = 0 || st = 4 then s else (s.softTurnOff i).set GI.iSt 2 i
  ((s1.set GI.iLost 1 i).islandCause i 0)

/-- Hardware over-temperature (R194, R210, R211): the switch off and HELD. In SAFE a low-side short is kept; a high-side switch goes off and
the state stays, since the Belay line governs it. -/
def otEnter (s : State) (i : Nat) (ntc : Bool) : State :=
  let st := s.get GI.iSt i
  let s1 := if st = 0 || (st = 4 && isLow i) then s
    else if st = 4 then s.softTurnOff i
    else (s.softTurnOff i).set GI.iSt 2 i
  ((s1.setBit GI.iOt (ofBool ntc) true i).set HK.coolT s.now (i + 12 * ofBool ntc)).islandCause i 1

/-- A cause that keeps the island from RELEASE (R194): UVLO, OT with its hold (R374), link loss, a Belay code. -/
def noRelease (s : State) (i : Nat) : Bool :=
  s.is GI.iUvlo i || s.is GI.iOt i || s.getBit HK.OT_STAT.GI i || s.is GI.iLost i || s.get GI.iBl i != 0

/-- RELEASE at the island (R194). -/
def releaseTaken (s : State) (i : Nat) : State :=
  let s1 := s.set GI.CTL.RELEASE 0 i
  if s1.get GI.iSt i = 3 then s1
  else if s1.get GI.iSt i = 2 && !s1.noRelease i then s1.set GI.iSt 3 i
  else (s1.badCmd i).set GI.relNo 1 i

/-- The words of the CRC of R200, in ascending address order: a bank, the soft segments, the settings. -/
def storeWords (s : State) (i : Nat) : List Nat :=
  let b := 1 - s.get GI.iBank i
  ((List.range 256).map fun k => s.get GI.iPb i (256 * b + k)) ++ ((List.range 32).map fun k => s.get GI.iSb i (32 * b + k))
    ++ ((List.range 8).map fun k => s.get GI.iSoft i k) ++ islandSettings.map fun r => s.get r i

/-- A proxy's segment word. -/
def winWord (s : State) (i k : Nat) : Nat := s.get GI.PROF_WIN.DUR i k * 64 + s.get GI.PROF_WIN.CUR i k

/-- A proxy's slot word. -/
def slotWord (s : State) (i k : Nat) : Nat :=
  s.get GI.SLOT_CFG.DVDT_TGT i k * 64 + s.get GI.SLOT_CFG.DV_FIRST i k * 8 + s.get GI.SLOT_CFG.DV_LAST i k

/-- A proxy's soft segment. -/
def softWord (s : State) (i k : Nat) : Nat := s.get GI.SOFT_WIN.DUR i k * 64 + s.get GI.SOFT_WIN.CUR i k

/-- A proxy's settings, in the order of 0x180 to 0x18C. -/
def proxySettings (s : State) (i : Nat) : List Nat :=
  [s.get GI.SUPPLY.VPOS_SET i, s.get GI.SUPPLY.VNEG_SET i, s.get GI.SUPPLY.UVLO_P i, s.get GI.SUPPLY.UVLO_N i,
   s.get GI.PROT.DESAT_V i, s.get GI.PROT.BLANK i, s.get GI.PROT.DESAT_FLT i, s.get GI.PROT.DIDT_TH i, s.get GI.PROT.DIDT_FLT i,
   s.get GI.SAFE_CFG.SC_DLY i, s.get GI.SAFE_CFG.BC_WAIT i, s.get GI.SAFE_CFG.BC_VDS i,
   s.get GI.CTL.NTC_ABS i * 16 + s.get GI.CTL.SC_SLOT i]

/-- The words that GLK's CRC runs over. -/
def proxyWords (s : State) (i : Nat) : List Nat :=
  (List.range 256).map (s.winWord i) ++ (List.range 32).map (s.slotWord i) ++ (List.range 8).map (s.softWord i) ++ s.proxySettings i

/-- CRC-16 of R200 over 12-bit words. -/
def crc16w (ws : List Nat) : Nat := crcM 16 0x1021 0xFFFF (ws.flatMap (bitsM 12))

/-- The longest profile of the proxy's copy of the active bank, ns (R195). -/
def eMax (s : State) (i : Nat) : Nat :=
  ((List.range 32).map fun p => ((List.range 8).map fun k => (s.get GI.winB i (8 * p + k) / 64 + 1) * 5).sum).foldl max 0

/-- The soft profile's duration, ns. -/
def eSoft (s : State) (i : Nat) : Nat := ((List.range 8).map fun k => (s.get GI.SOFT_WIN.DUR i k + 1) * 5).sum

/-- The proxy's windows show the other bank after a swap, and E_MAX follows. -/
def winSwap (s : State) (i : Nat) : State :=
  let s1 := s.forN 256 fun k t =>
    let w := t.get GI.winB i k
    ((t.set GI.winB (t.winWord i k) i k).set GI.PROF_WIN.DUR (w / 64) i k).set GI.PROF_WIN.CUR w i k
  let s2 := s1.forN 32 fun k t =>
    let w := t.get GI.slotB i k
    (((t.set GI.slotB (t.slotWord i k) i k).set GI.SLOT_CFG.DVDT_TGT (w / 64) i k).set GI.SLOT_CFG.DV_FIRST (w / 8) i k).set
      GI.SLOT_CFG.DV_LAST w i k
  s2.set GI.PROF_DUR.E_MAX (s2.eMax i) i

/-- The island makes its inactive bank active (R102, R198, R200): the starting trims are 0. -/
def bankSwap (s : State) (i : Nat) : State :=
  let s1 := (s.set GI.iBank (1 - s.get GI.iBank i) i).rowReset GI.iTrim i
  s.minpWarn ((s1.winSwap i).set GI.STATUS.BANK (s1.get GI.iBank i) i) (i / 6)

/-- SWAP at the island. -/
def swapTaken (s : State) (i : Nat) : State := (s.bankSwap i).set GI.CTL.SWAP 0 i

/-- CONF_DONE at the island (R200): the CRC over its own store against the one received. -/
def confTaken (s : State) (i : Nat) : State :=
  let c := crc16w (s.storeWords i)
  let s1 := (s.set GI.CTL.CONF_DONE 0 i).set GI.PROF_CRC.ISL c i
  if c = s.get GI.iCrc i 0 * 256 + s.get GI.iCrc i 1 then
    let s2 := (s1.bankSwap i).set GI.iConf 1 i
    if s2.get GI.iSt i = 1 || s2.get GI.iSt i = 2 then (s2.set GI.iSt 2 i).govern i else s2
  else s1.raise .warning GI.STATUS.PROF_CRC i

/-- RESET at the island (R193, R194, R200): reset values, UNCONF, the switch off; then the line and the broadcast. Its proxy went to its reset
values when GLK wrote it. -/
def resetTaken (s : State) (i : Nat) : State :=
  let s1 := (s.softTurnOff i).islandClear i
  if s1.get GI.iSt i = 0 then s1 else (s1.set GI.iSt 1 i).govern i

/-- A valid downlink frame has reached the island, so its link is not lost (R193). -/
def downlink (s : State) (i : Nat) : State := s.set GI.iLost 0 i

/-- A configuration frame has been taken (R216). -/
def cfgTaken (s : State) (i : Nat) : State :=
  let s1 := (s.downlink i).set GI.cfgOut (s.get GI.cfgOut i - 1) i
  s1.setb GI.STATUS.PEND (s1.is GI.cfgOut i) i

/-- A word of an island's configuration space (R193): writes to the inactive bank, the soft segments and the settings. -/
def islandWrite (s : State) (i addr data : Nat) : State :=
  let b := 1 - s.get GI.iBank i
  if addr < 0x100 then s.set GI.iPb data i (256 * b + addr)
  else if addr < 0x120 then s.set GI.iSb data i (32 * b + (addr - 0x100))
  else if addr < 0x128 then s.set GI.iSoft data i (addr - 0x120)
  else if addr < 0x180 then s
  else if addr < 0x18D then (match islandSettings[addr - 0x180]? with | some r => s.set r data i | none => s)
  else match addr with
    | 0x1C0 => s.releaseTaken i
    | 0x1C1 => s.confTaken i
    | 0x1C2 => s.swapTaken i
    | 0x1C3 => s.set GI.iCrc data i 0
    | 0x1C4 => s.set GI.iCrc data i 1
    | 0x1C5 => s.resetTaken i
    | _ => s

/-- A read of the configuration space: the word, or none where the address is not implemented or write only (R191, R193). The
snapshot's layout beyond its first four counters is not stated, and free. -/
def islandRead (s : State) (i addr : Nat) : Option Nat :=
  let b := 1 - s.get GI.iBank i
  if addr < 0x100 then some (s.get GI.iPb i (256 * b + addr))
  else if addr < 0x120 then some (s.get GI.iSb i (32 * b + (addr - 0x100)))
  else if addr < 0x128 then some (s.get GI.iSoft i (addr - 0x120))
  else if addr < 0x180 then none
  else if addr < 0x18D then islandSettings[addr - 0x180]?.map fun r => s.get r i
  else if addr < 0x1E0 || 0x1F0 ≤ addr then none
  else if addr < 0x1E4 then some (s.get GI.snap i (addr - 0x1E0))
  else some (Config.free 193 [i, addr] % 4096)

/-- A valid uplink frame at the endpoint (R191, R193, R215): its VDS and VAGE, the link up; after a loss GLK writes RESET. The
CRC piton makes it invalid. -/
def uplink (s : State) (i vds vage : Nat) (f : State → State) : State :=
  if s.pit 0x20 5 i then s.pitAct.incSat GI.LINK.BAD_CRC i
  else
    let s1 := s.on (s.is GI.glLost i) fun t => ((t.set GI.glLost 0 i).proxyClear i).gateWrite i 0x1C5 1
    let s2 := (((s1.set GI.VDS.CODE vds i).set GI.VDS.VAGE vage i).setBit GLK.LINK_STAT.UP i true).set GI.trained 1 i
    let others := (List.range 6).any fun k => s2.is GI.glLost (6 * (i / 6) + k)
    f (s2.on (!others) (·.tripIn (i / 6) 3 false))

/-- The fields of a STATUS frame reach the proxy (R191, R194); of TRIM_SAT the event comes after 64 edges (R199). -/
def statusTaken (s : State) (i : Nat) : State :=
  let s1 := ((((s.set GI.STATUS.STATE (s.get GI.iSt i) i).set GI.STATUS.ON (s.get GI.iOn i) i).set GI.STATUS.OVB
    (s.get GI.iOvb i) i).set GI.STATUS.BL_CODE (s.get GI.iBl i) i).set GI.STATUS.BANK (s.get GI.iBank i) i
  let s2 := (s1.set GI.STATUS.TRIM (s1.get GI.iTrimEnd i) i).setBit GLK.LINK_STAT.CONF i (s1.is GI.iConf i)
  let f (k : Nat) (r : Row) (t : State) : State := t.on (t.getBit GI.iFlag k i) (·.raise .warning r i)
  let s3 := s2.on (s2.getBit GI.iFlag 3 i) (·.set GI.STATUS.TRIM_SAT 1 i)
  ((f 0 GI.STATUS.BAD_CMD (f 1 GI.STATUS.BL_CONTRA (f 2 GI.STATUS.CM_EVT s3)))).set GI.iFlag 0 i

/-- A TRIP frame's causes reach the proxy, the trip unit, for 256 cycles from the frame's decode at its end (R205), and the Belay island (R282,
R340). The frame's first bit and the first detection are in 1.25 ns of device time. -/
def causesTaken (s : State) (i first det : Nat) : State :=
  let c := s.get GI.iCause i
  if c = 0 then s
  else
    let a := i / 6
    let r (k : Nat) (row : Row) (t : State) : State := t.on (bit c k) (·.raise .fault row i)
    let s1 := (r 0 GI.TRIP.LINK (r 1 GI.TRIP.OT (r 2 GI.TRIP.UVLO (r 3 GI.TRIP.DIDT (r 4 GI.TRIP.DESAT s))))).incSat GI.TRIP.TRIP_CNT i
    let src (k n : Nat) (t : State) : State := t.on (bit c k) fun u => (u.tripIn a n).set PU.giEnd ((first + 129) / 2 + 256) a n
    let s1 := s1.set GI.tDet det i
    let s2 := src 1 4 (src 2 2 (src 3 1 (src 4 0 s1)))
    let s3 := s2.on (bit c 1) (·.setBit HK.OT_STAT.GI i true)
    let s4 := s3.on (1 < c) fun t => (t.set BL.sideRep 1 a (if isLow i then 0 else 1)).set BL.repReq 1 a
    s4.set GI.iCause 0 i

end State
end Sys2Proof.Machine
end

