-- ==== Sys2Proof/Machine/Tick.lean ====
section
/-!
DEFINITION. The decision tick (04): device time goes to the next decision boundary, what waits for it takes effect, and POS,
OB and SQ make their passes. The phases inside a tick are not told apart: a tick is one step.
-/
namespace Sys2Proof.Machine
namespace State

/-- The gate-island reports that have stood for their 256 cycles fall (R205), as the boundary finds them; OT stays while the shutdown hold
stands. -/
def giTick (s : State) : State :=
  s.forN 2 fun a t => t.forN 5 fun src u =>
    if !u.is PU.giEnd a src || decide (u.now < u.get PU.giEnd a src) then u
    else
      let v := u.set PU.giEnd 0 a src
      if src = 4 && (List.range 6).any (fun k => v.getBit HK.OT_STAT.GI (6 * a + k)) then v
      else v.tripIn a src false

/-- AX.OC.PIT has forced its comparator for F_AUX + 1 cycles (R233), as the boundary finds it. -/
def axOcTick (s : State) : State :=
  s.forN 3 fun k t =>
    if !t.is AX.ocPitT k || decide (t.now < t.get AX.ocPitT k) then t
    else
      let v := (t.set AX.ocPitT 0 k).setBit AX.ocLvl (t.get AX.ocPitPh k) false k
      v.tripIn (2 + k) 13 (v.is AX.ocLvl k)

/-- The setpoints of the traction channels at a boundary (R266), and the lists that end with one (R267); while the module is PARKED none is applied (R417). -/
def spTick (s : State) : State :=
  if s.parked then s
  else State.playsForced <| [0, 1, 7].foldl (fun t ch => t.on (t.is CE.spPend ch) fun u =>
    (((u.set CE.spVal (u.get CE.spNewVal ch) ch).set CE.spLim (u.get CE.spNewLim ch) ch).set CE.spMode (u.get CE.spNewMode ch)
      ch).set CE.spPend 0 ch) s

/-- The counters of the units (R140, R144), and the turn-ons that the aux units have placed (R147). -/
def cntTick (s : State) : State :=
  ((s.forN 5 fun u t => t.cntStop u).follow).forN 3 fun k t => t.bridgeEdges (2 + k) t.now

/-- The domain of an axis is on: PD3 for axis A, PD4 for axis B, both in joined mode (R412). -/
def axisOn (s : State) (a : Nat) : Bool :=
  s.getBit SYS.PWR_STAT.PD_ON (3 + a) && (!s.joined || s.getBit SYS.PWR_STAT.PD_ON 4)

/-- The boundary of an axis's pipeline. -/
def axisBoundary (s : State) (a : Nat) : State := if s.axisOn a then s.sqBoundary a else s

/-- The passes of an axis's pipeline (R87). -/
def axisPass (s : State) (a : Nat) : State := if s.axisOn a then (s.obPass a).sqPass a else s

end State

/-- DECISION_TICK (R86, R87 and the rules of the passes). In joined mode SQ1 and OB1 are slaves of the axis A pipeline. Without engine
cycles, in a PLL_MAIN fault or with the control island off, device time goes on (R431) and nothing else does. -/
def execDecisionTick (s : State) : Out :=
  let s0 : State := { s with now := (s.now / 160 + 1) * 160 }
  if s.is SYS.pllDown || !s.pdOn 2 then .next s0
  else
    let s1 := ((((s0.giTick.axOcTick.spTick).stagedTick).thrTake 0).thrTake 1).disableTick
    let s2 := (s1.axisBoundary 0).on (!s1.joined) (·.axisBoundary 1)
    let s3 := s2.cntTick.posTick
    let s4 := (s3.axisPass 0).on (!s3.joined) (·.axisPass 1)
    .next (s4.xyPass.actPoll)

end Sys2Proof.Machine
end

