-- ==== Sys2Proof/Machine/Hk.lean ====
section
/-!
DEFINITION. Thermal management (16): the slow round, throttling, temperature bands, the holds of a hardware shutdown. A
temperature is the code of R191: 0.25 °C a step from −64 °C.
-/
namespace Sys2Proof.Machine

/-- The code of a whole number of °C above −64 °C. -/
def tempCode (t : Nat) : Nat := 4 * (t + 64)

/-- The class of a sensor (16, HK registers): 0 gate die, 1 NTC, 2 control die, 3 Belay die, 4 ABI bridge, 5 winding. -/
def sensorClass (n : Nat) : Nat :=
  if n < 12 then 0 else if n < 24 then 1 else if n < 30 then 2 else if n < 31 then 3 else if n < 34 then 4 else 5

/-- The step count after a reading (R372): up to the greatest k with T ≥ TS + 2k at once, down by one below TS + 2n − 1. -/
def thrStep (ts n code : Nat) : Nat :=
  let up := ((List.range 17).filter fun k => decide (tempCode (ts + 2 * k) ≤ code)).foldl max 0
  if n < up then up else if n ≠ 0 ∧ code < tempCode (ts + 2 * n - 1) then n - 1 else n

/-- A band after a reading (R376): up to b as soon as the reading reaches Bb, down by one below Bb − 3 °C. -/
def bandStep (b1 b2 b3 band code : Nat) : Nat :=
  let up := if tempCode b3 ≤ code then 3 else if tempCode b2 ≤ code then 2 else if tempCode b1 ≤ code then 1 else 0
  let bb := if band = 3 then b3 else if band = 2 then b2 else b1
  if band < up then up else if band ≠ 0 ∧ code + 12 < tempCode bb then band - 1 else band

/-- The type of a winding sensor. -/
def mtType (k : Nat) : Row :=
  if k = 0 then HK.MT_CFG.TYPE0 else if k = 1 then HK.MT_CFG.TYPE1 else if k = 2 then HK.MT_CFG.TYPE2 else HK.MT_CFG.TYPE3

/-- The resistance of a PT1000 at `u` quarters of a °C, times 256 · 10¹² Ω⁻¹, by the polynomial of IEC 60751 (R369; its coefficients are
PRESUMED, log entry 46). -/
def ptOhms (u : Int) : Int :=
  256 * 10 ^ 15 + 250131200000000 * u - 9240000000 * u * u - (if u < 0 then 4183 * (u - 400) * u * u * u else 0)

/-- Whether a PT1000 of `r` Ω is at least as warm as a code. -/
def ptReached (r code : Nat) : Bool := ptOhms ((code : Int) - 256) ≤ 256 * 10 ^ 12 * r

/-- Whether an NTC of `r` Ω is at least as warm as a code, by the B equation R = R25 · e^(B · (1/T − 1/T25)) with T25 = 298.15 K (R369):
`t` is the code's temperature in 0.01 K. -/
def ntcReached (r25 b r code : Nat) : Bool :=
  let t := 25 * code + 20915
  if t ≤ 29815 then r * expNeg (100 * b * (29815 - t)) (t * 29815) ≤ 10 * r25 * 2 ^ 64
  else r * 2 ^ 64 ≤ 10 * r25 * expNeg (100 * b * (t - 29815)) (t * 29815)

/-- The greatest code that a reading reaches, bit by bit from bit `k` down; code 0 if it reaches none. -/
def codeFrom (reached : Nat → Bool) : Nat → Nat → Nat
  | 0, c => c
  | k + 1, c => codeFrom reached k (if reached (c + 2 ^ k) then c + 2 ^ k else c)

/-- The code of a winding sensor's resistance by its type (R369): the code it lies at, or one of the two it lies between. -/
def mtCode (type r25 b r : Nat) : Nat :=
  let c := codeFrom (if type = 1 then ptReached r else ntcReached r25 b r) 10 0
  let exact := type = 1 && ptOhms ((c : Int) - 256) == 256 * 10 ^ 12 * r
  if exact then c else min 0x3FF (c + ofBool (Config.roundUp (r : Int) c))

/-- The shutdown threshold of a sensor in °C (R373). -/
def shutAt (n : Nat) : Nat := if 12 ≤ n ∧ n < 24 then 175 else 150

namespace State

/-- The fault bit of a sensor, in FAULT0 or FAULT1. -/
def setFault (s : State) (n : Nat) : State :=
  let r := if n < 32 then HK.FAULT0.FAULT_LO else HK.FAULT1.FAULT_HI
  if s.getBit r (n % 32) then s
  else (s.setBit r (n % 32) true).event .warning 0 0x19 0x0001 (r.addr 0 0) n

/-- A sensor's reading of the round (R368 to R370): none where it is replaced. -/
def sensorReading (s : State) (n : Nat) (codes : List (Option (BitVec 10))) (mt : List (Option (BitVec 20))) (missing : Nat) :
    Option Nat :=
  if n < 12 then (if bit missing n then none else some (s.get GI.MEAS_T.TDIE n))
  else if n < 24 then (if bit missing n then none else some (s.get GI.MEAS_T.TNTC (n - 12)))
  else if n < 34 then (codes.getD (n - 24) none).map fun c => c.toNat
  else
    let k := n - 34
    (mt.getD k none).map fun r => mtCode (s.get (mtType k)) (s.get HK.MT_NTC.R25) (s.get HK.MT_NTC.B) r.toNat

/-- A sensor marked absent (R370). -/
def sensorAbsent (s : State) (n : Nat) : Bool :=
  if 12 ≤ n && n < 24 then s.is GI.CTL.NTC_ABS (n - 12) else if 34 ≤ n then s.get (mtType (n - 34)) == 0 else false

/-- The round latches a sensor (R370, R377): the pitons act on the reading, and what lies outside −45 °C to 190 °C or did not
arrive reads 0x3FF with its fault. -/
def latchSensor (s : State) (n : Nat) (reading : Option Nat) : State :=
  if s.sensorAbsent n then ((s.set HK.TEMP.ABSENT 1 n).set HK.TEMP.FAULT 0 n).set HK.TEMP.VAL 0 n
  else
    let openP := s.pit 0x19 1 n
    let addP := s.pit 0x19 2 n
    let s1 := s.on (openP || addP) (·.pitAct)
    let r := if openP then none else reading.map fun c => if addP then min 0x3FF (c + 40) else c
    let s2 := s1.set HK.TEMP.ABSENT 0 n
    match r with
    | some c => if c < 76 || 1016 < c then ((s2.set HK.TEMP.FAULT 1 n).set HK.TEMP.VAL 0x3FF n).setFault n
                else (s2.set HK.TEMP.FAULT 0 n).set HK.TEMP.VAL c n
    | none => ((s2.set HK.TEMP.FAULT 1 n).set HK.TEMP.VAL 0x3FF n).setFault n

/-- The lowest bootstrap voltage of a phase (R371). -/
def bsMin (s : State) (k : Nat) : State :=
  let s1 := s.set HK.BS_MIN.U (min (s.get HK.BS_MIN.U k) (s.get AX.CH_VBS.VBS_U k)) k
  let s2 := s1.set HK.BS_MIN.V (min (s1.get HK.BS_MIN.V k) (s1.get AX.CH_VBS.VBS_V k)) k
  s2.set HK.BS_MIN.W (min (s2.get HK.BS_MIN.W k) (s2.get AX.CH_VBS.VBS_W k)) k

/-- The greatest step count of the sensors that act on a channel. -/
def thrMax (s : State) (l : List Nat) : Nat :=
  ((l.filter fun n => !s.is HK.TEMP.ABSENT n).map fun n => s.get HK.thrN n).foldl max 0

/-- The factor of a channel in sixteenths (R372). -/
def thrFactor (s : State) (l : List Nat) : Nat := if s.is HK.CTL.THR_EN then 16 - s.thrMax l else 16

/-- With THR_EN clear every factor is 1 (R372). -/
def thrOff (s : State) : State :=
  ((((s.set HK.THR_VAL0.AXA 16).set HK.THR_VAL0.AXB 16).set HK.THR_VAL0.AUX0 16).set HK.THR_VAL0.AUX1 16).set HK.THR_VAL1.AUX2 16

/-- The sensors that act on axis A (R372). -/
def sensorsA (s : State) : List Nat :=
  if s.joined then List.range 30 ++ [34, 35, 36, 37]
  else [0, 1, 2, 3, 4, 5, 12, 13, 14, 15, 16, 17, 24, 25, 26, 27, 28, 29, 34, 35]

/-- The sensors that act on axis B. -/
def sensorsB : List Nat := [6, 7, 8, 9, 10, 11, 18, 19, 20, 21, 22, 23, 24, 25, 26, 27, 28, 29, 36, 37]

/-- The sensors that act on an aux channel. -/
def sensorsX (k : Nat) : List Nat := [31 + k, 24, 25, 26, 27, 28, 29]

/-- The step counts of the round, and the factors of the channels (R372). -/
def throttle (s : State) : State :=
  let s1 := s.forN 38 fun n t =>
    if t.is HK.TEMP.ABSENT n then t.set HK.thrN 0 n
    else t.set HK.thrN (thrStep (t.get HK.CLS_CFG.TS (sensorClass n)) (t.get HK.thrN n) (t.get HK.TEMP.VAL n)) n
  ((((s1.set HK.THR_VAL0.AXA (s1.thrFactor s1.sensorsA)).set HK.THR_VAL0.AXB (s1.thrFactor sensorsB)).set HK.THR_VAL0.AUX0
    (s1.thrFactor (sensorsX 0))).set HK.THR_VAL0.AUX1 (s1.thrFactor (sensorsX 1))).set HK.THR_VAL1.AUX2 (s1.thrFactor (sensorsX 2))

/-- The reading that forms an island's band (R376): its NTC, or its die while the NTC is marked absent. -/
def bandReading (s : State) (i : Nat) : Nat :=
  if s.is HK.TEMP.ABSENT (12 + i) then s.get HK.TEMP.VAL i else s.get HK.TEMP.VAL (12 + i)

/-- The bands of the round (R376). -/
def bandRound (s : State) : State :=
  let g := s.get HK.BAND_STAT.GI
  let new (i : Nat) : Nat :=
    bandStep (s.get HK.BAND_GI.B1) (s.get HK.BAND_GI.B2) (s.get HK.BAND_GI.B3) (g / 4 ^ i % 4) (s.bandReading i)
  let abi := bandStep (s.get HK.BAND_ABI.B1) (s.get HK.BAND_ABI.B2) (s.get HK.BAND_ABI.B3) (s.get HK.BAND_STAT.ABI)
    (max (s.get HK.TEMP.VAL 31) (max (s.get HK.TEMP.VAL 32) (s.get HK.TEMP.VAL 33)))
  (s.set HK.BAND_STAT.GI (((List.range 12).map fun i => new i * 4 ^ i).sum)).set HK.BAND_STAT.ABI abi

/-- A sensor's reading against its restart level (R374). -/
def coolRound (s : State) (n : Nat) : State :=
  s.on (tempCode (shutAt n - 20) < s.get HK.TEMP.VAL n) (·.set HK.coolT s.now n)

/-- The hardware shutdown of a sensor's island, die or bridge holds (R374); windings have none. -/
def otHolds (s : State) (n : Nat) : Bool :=
  if n < 24 then s.getBit GI.iOt (n / 12) (n % 12)
  else if n < 30 then s.is HK.OT_STAT.CI
  else if n < 31 then s.is HK.OT_STAT.BI
  else n < 34 && s.getBit HK.OT_STAT.ABI (n - 31)

/-- A sensor fault during a hold makes it indefinite: only a reset clears the reading (R374, R375). -/
def holdRound (s : State) (n : Nat) : State := s.on (s.is HK.TEMP.FAULT n && s.otHolds n) (·.set HK.otFail 1 n)

/-- A sensor has read at least 20 °C below its threshold for 1 s without a break (R374), as the rounds since then have latched it, and
was not replaced during the hold. -/
def cooled (s : State) (n : Nat) : Bool :=
  !s.is HK.TEMP.FAULT n && !s.is HK.otFail n && decide (s.get HK.coolT n + 400000000 ≤ s.now)

/-- HK works: its domain is on and no debug halt holds the engines (R375). -/
def hkRuns (s : State) : Bool := s.pdOn 2 && !s.is SEC.DBG_STAT.HALT

/-- The Belay island's part of a die over-temperature (R373): both axes into the safe state, cause DIE_OT. -/
def dieOtCall (s : State) : State := (s.set BL.dieOt 1).callSafeBoth SsCause.dieOt.bit

end State

/-- SLOW_ROUND (R368 to R371): HK latches the latest value of every sensor, and takes the bootstrap voltages of the aux
phases while their domain is on. -/
def execSlowRound (codes : List (Option (BitVec 10))) (mt : List (Option (BitVec 20))) (missing : BitVec 24) (s : State) : Out :=
  let s1 := s.forN 38 fun n t => ((t.latchSensor n (t.sensorReading n codes mt missing.toNat)).coolRound n).holdRound n
  .next (if !s.hkRuns then s else (s1.on (s1.getBit SYS.PWR_STAT.PD_ON 5) fun t => t.forN 3 fun k u => u.bsMin k).set HK.busy 1)

/-- ROUND_DONE (R368, R372, R376): the round completes; factors and bands follow. -/
def execRoundDone (s : State) : Out :=
  .next (if s.hkRuns && s.is HK.busy then (((((s.set HK.busy 0).inc HK.STATUS.ROUND_CNT).set HK.rounded 1).set HK.roundT s.now).throttle).bandRound
    else s)

/-- HK_STALE (R368): no round has completed for 30 ms. -/
def execHkStale (s : State) : Out := .next (if s.now < s.get HK.roundT + 12000000 then s else s.raise .warning HK.STATUS.STALE)

/-- BS_RST (R371): a write of 1 to CTL.BS_RST. -/
def execBsRst (s : State) : Out :=
  .next (if !s.pdOn 2 then s else s.forN 3 fun k t => ((t.set HK.BS_MIN.U 0x3FF k).set HK.BS_MIN.V 0x3FF k).set HK.BS_MIN.W 0x3FF k)

/-- ABI_OT (R373, R374): an aux bridge at 150 °C goes off, with its hold and the trip source of its unit. -/
def execAbiOt (bridge : Fin 3) (s : State) : Out :=
  .next ((((s.setBit HK.OT_STAT.ABI bridge true).set HK.coolT s.now (31 + bridge)).axBridgeOff bridge).tripIn (2 + bridge) 14)

/-- DIE_OT (R292, R373, R374): the control die or the Belay die at 150 °C. -/
def execDieOt (belay : Bool) (s : State) : Out :=
  .next ((if belay then (s.set HK.OT_STAT.BI 1).set HK.coolT s.now 30
    else (s.set HK.OT_STAT.CI 1).forN 6 fun k t => t.set HK.coolT s.now (24 + k)).dieOtCall)

/-- OT_RESTART (R374): a sensor has read 20 °C below its threshold for 1 s; the hold of its island, bridge or die ends. A reading
that is replaced never meets the condition. For the control die all six points must have. -/
def execOtRestart (sensor : Fin 38) (s : State) : Out :=
  let n : Nat := sensor
  .next (if !s.cooled n || (24 ≤ n && n < 30 && !(List.range 6).all fun k => s.cooled (24 + k)) then s
    else if n < 24 then
      let i := n % 12
      let s0 := s.setBit GI.iOt (n / 12) false i
      let s1 := s0.on (!s0.is GI.iOt i) (·.setBit HK.OT_STAT.GI i false)
      s1.on (!s1.is PU.giEnd (i / 6) 4 && !(List.range 6).any fun k => s1.getBit HK.OT_STAT.GI (6 * (i / 6) + k))
        (·.tripIn (i / 6) 4 false)
    else if n < 30 then
      let s1 := s.set HK.OT_STAT.CI 0
      s1.on (!s1.is HK.OT_STAT.BI) (·.set BL.dieOt 0)
    else if n < 31 then
      let s1 := s.set HK.OT_STAT.BI 0
      s1.on (!s1.is HK.OT_STAT.CI) (·.set BL.dieOt 0)
    else if n < 34 then (s.setBit HK.OT_STAT.ABI (n - 31) false).tripIn (2 + (n - 31)) 14 false
    else s)

/-- HK_PIT_ARM (R377, R329): for a sensor 0 to 37. -/
def execHkPitArm (sens : BitVec 6) (sel : BitVec 4) (s : State) : Out :=
  let n := sens.toNat
  .next (if !s.pdOn 2 then s else s.pitArm ((s.set HK.PIT_CTL.SENS n).set HK.PIT_CTL.SEL sel.toNat) HK.PIT_CTL.ARM 0 0x19 sel.toNat n
    (2 ^ 31 + n * 256 + sel.toNat) (n ≤ 37 ∧ 1 ≤ sel.toNat ∧ sel.toNat ≤ 2))

end Sys2Proof.Machine
end

