-- ==== Sys2Proof/Machine/Clk.lean ====
section
/-!
DEFINITION. Clocks, device time and cairns (19), with the snapshot store and the performance counters that a cairn keeps (21,
R470 to R473). What the reaction to a clock fault stops comes through the flags and levels it sets.
-/
namespace Sys2Proof.Machine

/-- The fault flag of a clock, bits 0 to 8 of CLK_STAT (R438). -/
def clkFlag (k : Nat) : Row :=
  match k with
  | 0 => SYS.CLK_STAT.PLL
  | 1 => SYS.CLK_STAT.XTAL
  | 2 => SYS.CLK_STAT.PCIE
  | 3 => SYS.CLK_STAT.ETH0
  | 4 => SYS.CLK_STAT.ETH1
  | 5 => SYS.CLK_STAT.CAN
  | 6 => SYS.CLK_STAT.BELAY
  | 7 => SYS.CLK_STAT.GI
  | _ => SYS.CLK_STAT.DLI_DRIFT

namespace State

/-! Device time -/

/-- A clock's fault is recorded: its flag and the event CLK_FAULT (R437, R438). -/
def clkRecord (s : State) (k inst dev : Nat) : State := (s.set (clkFlag k) 1).event .fault inst 0x00 0x0410 k dev

/-- The sync state and its event AS_STATE (R433, R437): 0 FREE, 1 ACQUIRE, 2 LOCKED, 3 HOLDOVER. FREE and HOLDOVER end a run of
consecutive Syncs. -/
def setAs (s : State) (st : Nat) : State :=
  let old := s.get SYS.AS_STAT.STATE
  if old = st then s else ((s.set SYS.AS_STAT.STATE st).on (st == 0 || st == 3) (·.set SYS.asN 0)).event .info 0 0x00 0x0412 old st

/-- A PLL_MAIN fault (R60, R162, R429, R431, R436): the counters of the units stop, CLK at every unit, both axes safe, BSL on all six
channels, device time on the crystal. No channel is substituted: with all of a star lost there is no sum of two others (R51). -/
def pllFail (s : State) (dev : Nat) : State :=
  if s.is SYS.pllDown then s
  else
    let s1 := (((s.forN 5 fun u t => t.cntStop u).set SYS.pllDown 1).set SYS.CLK_STAT.COARSE 1).clkRecord 0 0 dev
    let s2 := (s1.forN 5 fun p t => t.tripIn p 17).callSafeBoth SsCause.puTrip.bit
    let s3 := s2.forN 6 fun ch t => t.bslFlag ch
    s3.on (s3.get SYS.AS_STAT.STATE != 0) (·.setAs 3)

/-- Some channel is enabled. -/
def anyEnabled (s : State) : Bool := (List.range 8).any fun ch => s.is ACT.chEn ch

/-- The trim after a Sync (R433): what steering asks for is not stated (log entry 8); it moves by at most SLEW ppm per second
and stays within TRIM_MAX. -/
def steer (s : State) (offset : Int) : State :=
  let old := s.geti SYS.AS_STAT.TRIM
  let d : Int := quot ((s.now - s.get SYS.asT : Nat) * (10 * s.get SYS.AS_CTL.SLEW)) 400000000
  let m : Int := 10 * s.get SYS.AS_CTL.TRIM_MAX
  s.seti SYS.AS_STAT.TRIM (clampI (-m) m (clampI (old - d) (old + d) (toSigned 12 (Config.free 433 [offset, old])))) 

/-- NET takes Sync and steers PLL_MAIN (R362, R433): discipline and 802.1AS are enabled, the port that takes Sync has a link, and
PLL_MAIN runs (R436). -/
def takesSync (s : State) : Bool :=
  s.is SYS.AS_CTL.DISC_EN && s.is ETH.AS_CFG.AS_EN && s.is ETH.PSTAT.LINK (s.get ETH.AS_CFG.AS_PORT) && !s.is SYS.pllDown

/-- Device time jumps (R433); a step backward below CAIRN_AT re-arms the armed cairn that a step had passed (R436). -/
def timeStep (s : State) (offset : Int) : State :=
  let t := ((s.now : Int) + offset).toNat
  let x := ofSigned 64 offset
  let s1 := ({ s with now := t } : State).event .warning 0 0x00 0x0411 (x % 2 ^ 32) (x / 2 ^ 32)
  let at' := s1.get SYS.CAIRN_AT.AT 0 + 2 ^ 32 * s1.get SYS.CAIRN_AT.AT 1
  s1.on (s1.is SYS.cairnDone && decide (offset < 0) && decide (t < at')) fun u =>
    (u.set SYS.cairnDone 0).set SYS.CAIRN_CMD.ARM 1

/-! Performance counters and cairns -/

/-- An event that the model's own commands count (R470); the rest count cycles, host-core events or memory accesses, which are
not told apart here. -/
def perfModelled (ev : Nat) : Bool := [0x01, 0x02, 0x03, 0x04, 0x10, 0x11, 0x18, 0x19, 0x20, 0x30, 0x38].contains ev

/-- A counter as a reader finds it: one whose event is not told apart holds a free value while it counts. -/
def perfLatch (s : State) (k : Nat) : State :=
  if s.is PERF.CTL.EN && !s.is PERF.stopped && s.is PERF.CNT_SEL.CEN k && !perfModelled (s.get PERF.CNT_SEL.EVENT k) then
    (s.setFree PERF.CNT_LO.CNT k).setFree PERF.cntHi k
  else s

/-- A counter's value. -/
def perfValue (s : State) (k : Nat) : Nat := s.get PERF.CNT_LO.CNT k + 2 ^ 32 * s.get PERF.cntHi k

/-- The counters enabled, one bit each. -/
def perfMask (s : State) : Nat := ((List.range 32).map fun k => s.get PERF.CNT_SEL.CEN k * 2 ^ k).sum

/-- The record of a cairn (R473). -/
def snapOf (s : State) : Snap :=
  { num := s.get SYS.CAIRN_STAT.NUM, time := s.now,
    stopped := if s.is BIST.STAT.BUSY then 2 ^ s.get BIST.CMD.DOMAIN else 0, enabled := s.perfMask,
    counters := (List.range 32).map s.perfValue, values := (List.range 124).map s.teleValue }

/-- A cairn at this instant (R193, R434, R473): its number, the frames to the islands whose links are up, the record. -/
def cairnNow (s : State) : State :=
  let s1 := ((s.inc SYS.CAIRN_STAT.NUM).set SYS.cairnT s.now).set SYS.cairnOn 1
  let s2 := s1.forN 12 fun i t => t.on (t.getBit GLK.LINK_STAT.UP i) (·.gate i 0 (2 ^ 26))
  let s3 := s2.forN 32 fun k t => t.perfLatch k
  let s4 : State := { s3 with snaps := (if s3.snaps.length < 16 then s3.snaps else s3.snaps.drop 1) ++ [s3.snapOf] }
  s4.on (s4.is PERF.CTL.CAIRN_STOP) (·.set PERF.stopped 1)

/-- A cairn's trigger (R435): refused while a PLL_MAIN fault stands; one within 200 ns of another waits for it. -/
def cairn (s : State) : State :=
  if s.is SYS.pllDown then s.raise .warning SYS.CAIRN_STAT.REFUSED
  else if s.is SYS.cairnWait || (s.is SYS.cairnOn && decide (s.now < s.get SYS.cairnT + 80)) then
    (s.incSat SYS.cairnWait).raise .warning SYS.CAIRN_STAT.QUEUED
  else s.cairnNow

end State

/-- TIME_LO_READ (R432): the upper half is latched in the same cycle. -/
def execTimeLoRead (s : State) : Out :=
  .next (if !s.pdOn 2 then s.send (.readData 0)
    else ((s.set SYS.TIME.TIME s.now 0).set SYS.TIME.TIME (s.now / 2 ^ 32) 1).send (.readData (s.now % 2 ^ 32)))

/-- PLL_FAULT (R429). -/
def execPllFault (dev : Nat) (s : State) : Out := .next (s.pllFail dev)

/-- PLL_LOCK (R162, R429, R431): PLL_MAIN has locked again; CLK latches in each unit. With the crystal faulted it is not
restarted. -/
def execPllLock (s : State) : Out :=
  .next (if !s.is SYS.pllDown || s.is SYS.xtalBad then s
    else
      let s1 := (s.set SYS.pllDown 0).set SYS.CLK_STAT.COARSE 0
      s1.forN 5 fun p t => ((if s1.joined && p = 1 then t else t.tripNow p 17).tripIn p 17 false).cntResume p)

/-- CLK_FAULT (R427): a clock other than PLL_MAIN deviates from both its references, or stops. The cause that the Belay island
records for its own clock is not stated: a free choice among the causes. A deviation of 100 % is a clock that has stopped, with which the
transitions on the Belay lines stop (R277). -/
def execClkFault (clk : Fin 8) (inst : Fin 12) (dev : Nat) (s : State) : Out :=
  let s1 := s.clkRecord (clk + 1) (if clk = 6 then inst else 0) dev
  .next (match clk.val with
    | 0 => (s1.set SYS.xtalBad 1).pllFail dev
    | 1 => (s1.stopRings.set RING.linkUp 0).closeHostRole
    | 2 => s1.ethLink 0 false
    | 3 => s1.ethLink 1 false
    | 4 => (s1.event .warning 0 0x00 0x0001 (SYS.CLK_STAT.CAN.addr 0 0) (2 ^ 5)).forN 4 fun c t =>
        (t.set CAN.CTL.INIT 1 c).canInit c
    | 5 => ((s1.callSafeBoth (Config.free 427 [] % 16)).on (decide (10000 ≤ dev)) fun t => (t.set BL.clkLost 1).lines).set BL.STATUS.SSOUT 0
    | 6 => s1.linkLost inst
    | _ => s1.event .warning 0 0x00 0x0001 (SYS.CLK_STAT.DLI_DRIFT.addr 0 0) (2 ^ 8))

/-- AMBIG (R428): a deviation from one reference for 16 windows; no other reaction. -/
def execClkAmbig (s : State) : Out := .next (s.raise .warning SYS.CLK_STAT.AMBIG)

/-- CAIRN_GO (R434): a write of CAIRN_CMD.GO, which reads 0. -/
def execCairnGo (s : State) : Out := .next (s.on (s.pdOn 2) (·.cairn))

/-- CAIRN_ARM (R434): ARM reads 1 until the cairn is issued. -/
def execCairnArm (s : State) : Out := .next (if !s.pdOn 2 then s else (s.set SYS.CAIRN_CMD.ARM 1).set SYS.cairnDone 0)

/-- CAIRN_AT (R434, R436): device time has reached CAIRN_AT, or a step has passed it. -/
def execCairnAt (s : State) : Out :=
  .next (if s.is SYS.CAIRN_CMD.ARM && decide (s.get SYS.CAIRN_AT.AT 0 + 2 ^ 32 * s.get SYS.CAIRN_AT.AT 1 ≤ s.now) then
      ((s.set SYS.CAIRN_CMD.ARM 0).set SYS.cairnDone 1).cairn
    else s)

/-- CAIRN_QUEUED (R435): the waiting cairn is issued 200 ns after the one before. -/
def execCairnQueued (s : State) : Out :=
  .next (if s.is SYS.cairnWait && decide (s.get SYS.cairnT + 80 ≤ s.now) then
      (s.set SYS.cairnWait (s.get SYS.cairnWait - 1)).cairnNow
    else s)

/-- ENGINE_BARRIER (R435): an engine arrives; after the last of the 16 all are released together 24 engine cycles later. -/
def execEngineBarrier (eng : Fin 16) (s : State) : Out :=
  let s1 := s.setBit SYS.barrier eng true
  .next (if s1.get SYS.barrier = 0xFFFF then (s1.set SYS.barrier 0).set SYS.barrierAt (s1.now + 24) else s1)

/-- SYS_PIT_ARM (R437, R329): the monitor of PLL_MAIN reports a deviation for one window, which acts at once. -/
def execSysPitArm (sel : BitVec 4) (s : State) : Out :=
  let s1 := s.pitArm (s.set SYS.PIT_CTL.SEL sel.toNat) SYS.PIT_CTL.ARM 0 0x00 sel.toNat 0 (2 ^ 31 + sel.toNat)
    (sel.toNat = 1)
  .next (if !s.pdOn 2 then s else if !s.is BL.PIT_STAT.ARMED && s1.pit 0x00 1 0 then
      let s2 := (s1.pitAct.forN 5 fun p t => t.tripIn p 17).callSafeBoth SsCause.puTrip.bit
      let s3 := s2.forN 5 fun p t => (if s2.joined && p = 1 then t else t.tripNow p 17).tripIn p 17 false
      (s3.set SYS.CLK_STAT.PLL 1).event .fault 0 0x00 0x0410 0 (Config.free 437 [] % 2 ^ 32)
    else s1)

/-- SYNC_RX (R433, R436): NET forms the offset after a Sync; device time is steered, or stepped while no channel is enabled, none
is being enabled, and the offset exceeds STEP_TH. The trim begins to move with the first Sync after FREE or HOLDOVER. -/
def execSyncRx (offset : Int) (s : State) : Out :=
  let st := s.get SYS.AS_STAT.STATE
  let s1 := s.on (st == 0 || st == 3) fun t => (t.set SYS.asT t.now).setAs 1
  let within := decide (5 * offset.natAbs < 2 * s.get SYS.AS_STAT.LOCK_TH)
  let s2 := if within then (if s1.get SYS.asN < 8 then s1.inc SYS.asN else s1) else s1.set SYS.asN 0
  let free := !s2.anyEnabled && s2.get ACT.job != 4
  .next (if !s.takesSync then s
    else
      let s3 := if s2.get SYS.AS_STAT.STATE = 1 && free && decide (1000 * s2.get SYS.AS_CTL.STEP_TH < 25 * offset.natAbs) then
          s2.timeStep offset
        else s2.steer offset
      s3.set SYS.asT s3.now)

/-- AS_LOCKED (R433): 8 consecutive Syncs below LOCK_TH. -/
def execAsLocked (s : State) : Out :=
  .next (if s.get SYS.AS_STAT.STATE = 1 && decide (8 ≤ s.get SYS.asN) then s.setAs 2 else s)

/-- HOLDOVER (R433, R436): no Sync for SYNC_TMO; the trim is held. -/
def execAsHoldover (s : State) : Out :=
  let st := s.get SYS.AS_STAT.STATE
  .next (if (st = 1 || st = 2) && decide (s.get SYS.asT + 40000000 * s.get SYS.AS_STAT.SYNC_TMO ≤ s.now) then s.setAs 3 else s)

/-! Ring 0 SNAPSHOT and ring 23 -/

/-- SNAPSHOT (R260, R262, R434): COUNT cairns at the spacing; the descriptor completes with the last. COUNT 0 takes none, and
what RESULT then holds is not stated. -/
def execRingSnapshot (s : State) : Out :=
  .next (match s.running 0 1 with
    | none => s
    | some d =>
      let n := d.byte 0
      let sp := d.byte 2 + 256 * d.byte 3
      if 16 < n then s.complete 0 .range 0
      else if n = 0 then ({ s with fresh := s.fresh + 1 } : State).complete 0 .ok (Config.fresh s.fresh)
      else if sp < 10 then s.complete 0 .range 0
      else if s.is SYS.pllDown then s.cairn.complete 0 .state 0
      else
        let num := (s.get SYS.CAIRN_STAT.NUM + s.get SYS.cairnWait + 1) % 65536
        let s1 := s.cairn
        if n = 1 then s1.complete 0 .ok num
        else (((s1.set RING.snapLeft (n - 1)).set RING.snapSp sp).set RING.snapAt (s1.now + 400 * sp)).set RING.snapNum num)

/-- SNAPSHOT_NEXT (R434): the next cairn of the command. -/
def execSnapshotNext (s : State) : Out :=
  .next (if !s.is RING.snapLeft then s
    else if (s.running 0 1).isNone then s.set RING.snapLeft 0
    else if s.now < s.get RING.snapAt then s
    else
      let left := s.get RING.snapLeft - 1
      let s1 := (s.cairn.set RING.snapLeft left).set RING.snapAt (s.get RING.snapAt + 400 * s.get RING.snapSp)
      s1.on (left == 0) (·.complete 0 .ok (s.get RING.snapNum)))

/-- SNAPSHOT_READ (R272, R473): ring 23 reads records from the number PARAM0 on; a number that is not in the store returns no
bytes. -/
def execSnapshotRead (s : State) : Out :=
  .next (match s.running 23 1 with
    | none => s
    | some d =>
      if d.len.toNat % 512 != 0 then s.complete 23 .range 0
      else
        let k := d.len.toNat / 512
        let first := d.w2.toNat % 65536
        let found := (s.snaps.dropWhile (·.num != first)).take k
        let words (r : Snap) : List Nat := [r.time, r.num, r.stopped, r.enabled] ++ r.counters ++ r.values
        (s.send (.hostData 23 (found.flatMap words))).complete 23 .ok (512 * found.length))

/-! Performance counters -/

/-- PERF_OVF (R471): an enabled counter passes 2^48 − 1; one whose events are counted here does so from that value only. An engine's
interrupt records the instruction at which it is taken. -/
def execPerfOvf (n : Fin 32) (pc : BitVec 32) (s : State) : Out :=
  let src := s.get PERF.CNT_SEL.SOURCE n
  .next (if !s.is PERF.CTL.EN || s.is PERF.stopped || !s.is PERF.CNT_SEL.CEN n
      || (State.perfModelled (s.get PERF.CNT_SEL.EVENT n) && s.perfValue n != 2 ^ 48 - 1) then s
    else
      let s1 := (((s.set PERF.CNT_LO.CNT 0 n).set PERF.cntHi 0 n).perfWrap n)
      s1.on (s.getBit PERF.INT_EN.INT n && [0x13, 0x14, 0x15, 0x18].contains src) (·.set PERF.PERF_PC.PC pc.toNat))

/-- SAMPLE_RECORD (R472, R475): a tagged instruction of a sampled core retires; its record goes into the circular buffer, or is
dropped and counted (`idle` false) without an idle cycle or with the buffer full: the spec gives the module no reader's place in the
buffer to tell that by. -/
def execSampleRecord (core : Fin 2) (idle : Bool) (record : List Byte) (s : State) : Out :=
  .next (if !s.is PERF.SMP_CFG.SMP_EN || !s.getBit PERF.SMP_CFG.CORE core then s
    else if !idle then s.incSat PERF.SMP_STAT.SMP_DROP
    else
      let slots := 2 ^ s.get PERF.SMP_BASE.SMP_SIZE * 32
      let k := s.get PERF.SMP_STAT.SMP_WR
      let base := s.get PERF.SMP_BASE.BASE * 4096 + 32 * (k % slots)
      ((List.range 32).foldl (fun t j => t.memPut ((base + j) % 2 ^ 22) (record.getD j 0)) s).set PERF.SMP_STAT.SMP_WR
        ((k + 1) % slots))

/-- CNT_LO_READ (R470): the high half is latched in the same cycle. -/
def execCntLoRead (n : Fin 32) (s : State) : Out :=
  let s1 := s.perfLatch n
  .next (if !s.pdOn 2 then s.send (.readData 0)
    else (s1.set PERF.CNT_HI.CNT (s1.get PERF.cntHi n) n).send (.readData (s1.get PERF.CNT_LO.CNT n)))

end Sys2Proof.Machine
end

