-- ==== Sys2Proof/Machine/Gi.lean ====
section
/-!
DEFINITION. The commands of the gate links and the gate islands (08).
-/
namespace Sys2Proof.Machine

namespace State

/-- The order of downlink frames (R188): SOFT_OFF before a cairn before EDGE, and these before all others. -/
def frameRank : DownFrame → Nat
  | .plain => 0
  | .edge .. => 1
  | .cairn => 2
  | .softOff => 3

/-- An urgent downlink frame that becomes ready aborts the frame in progress, if it is of lower priority (R188). -/
def preempt (s : State) (i rank : Nat) (busy : Option DownFrame) : State :=
  match busy with
  | some f => s.on (decide (frameRank f < rank)) fun t => (t.incSat GI.LINK.ABORT i).perfAdd 0x20 i 0x20 1
  | none => s

/-- An EDGE command at the island (R192, R194, R197, R210): `ref` is the reference instant of the frame as sent, `wait` how much later
that is than it would have been; DLY makes up for it, down to 48. A turn-on is executed in READY only; in SAFE the Belay line is followed and
BL_CONTRA reported; an edge of the direction in force is ignored; a turn-off of a switch that is off does nothing. -/
def edgeTaken (s : State) (i : Nat) (on : Bool) (slot dly wait ref : Nat) : State :=
  let s1 := (s.on (decide (dly < 48 + wait)) (·.incSat GI.LINK.LATE_EDGE i)).osdAbort (i / 6)
  let st := s1.get GI.iSt i
  let force := if s1.is GI.iPend i then s1.is GI.iDir i else s1.is GI.iOn i
  let going := if s1.is GI.iPend i then !s1.is GI.iDir i else !s1.is GI.iOn i && !s1.is GI.iRunDir i && decide (ref < s1.get GI.iEndT i)
  let start (t : State) : State :=
    (((t.set GI.iPend 1 i).setb GI.iDir on i).set GI.iSlot slot i).set GI.iStartT (ref + max 48 (dly - wait)) i
  if on then
    (if st = 0 then s1
     else if st = 4 then (s1.badCmd i).islandFlag i 1
     else if st ≠ 3 then s1.badCmd i
     else if force then s1.badCmd i
     else start s1)
  else if going then s1.badCmd i
  else if !force then s1
  else if st = 4 then s1.islandFlag i 1
  else start s1

/-- The snapshot is latched (R193). -/
def snapTake (s : State) (i : Nat) : State :=
  (((s.set GI.snap (s.get GI.iEdges i) i 0).set GI.snap (s.get GI.iSats i) i 1).set GI.snap (s.get GI.iBad i) i 2).set GI.snap (s.get GI.iLast i) i 3

/-- A cairn frame at the island (R193): the snapshot, which GLK then reads with CFG_RD. -/
def cairnTaken (s : State) (i : Nat) : State := (s.snapTake i).forN 16 fun k t => t.gateRead i (0x1E0 + k)

/-- The urgent frame that an urgent frame has aborted is sent again directly afterwards (R188, R192, R210): one frame, 160 ns, later. -/
def resend (s : State) (i rank ref : Nat) (busy : Option DownFrame) : State :=
  match busy with
  | some (.edge on slot dly ahead) => s.on (decide (1 < rank)) (·.edgeTaken i on slot dly.toNat (128 + ahead.toNat) (ref + 128))
  | some .cairn => s.on (decide (2 < rank)) fun t => (t.cairnTaken i).raise .warning GLK.LINK_STAT.CAIRN_LATE
  | _ => s

end State

/-- EDGE at the island (R188, R192, R194, R197, R210). -/
def execEdgeCmd (isl : Fin 12) (on : Bool) (slot : Fin 16) (dly wait : BitVec 12) (ref : Nat) (busy : Option DownFrame) (s : State) : Out :=
  .next (((s.downlink isl).preempt isl 1 busy).edgeTaken isl on slot dly.toNat wait.toNat ref)

/-- EDGE_START (R191, R192, R195, R197 to R199, R215): the pending edge runs from the instant that its frame has set. -/
def execEdgeStart (isl : Fin 12) (dvdt : List (Option (BitVec 10))) (s : State) : Out :=
  let i : Nat := isl
  .next (if !s.is GI.iPend i then s
    else
      let s1 := s.runEdge i (s.is GI.iDir i) (s.get GI.iSlot i) (s.get GI.iStartT i) dvdt
      s1.on (s.is GI.iDir i) (·.onPitons i))

/-- TRIM_SAT_WARN (R199): once when 64 consecutive edges of one slot have set TRIM_SAT. -/
def execTrimSatWarn (isl : Fin 12) (slot : Fin 16) (s : State) : Out :=
  let i : Nat := isl
  .next (if 64 ≤ s.get GI.iSatRun i slot && !s.is GI.satWarn i slot then
      (s.set GI.satWarn 1 i slot).event .warning i 0x20 0x0001 (GI.STATUS.TRIM_SAT.addr i 0) (2 ^ GI.STATUS.TRIM_SAT.lo)
    else s)

/-- SOFT_OFF (R188, R194, R206): in READY the switch goes off along the soft profile and the island to HELD; in every other state it
changes nothing else. The soft profile starts 80 ns after the frame's reference instant, also in place of a normal turn-off that still runs. -/
def execSoftOff (isl : Fin 12) (_src : BitVec 5) (ref : Nat) (busy : Option DownFrame) (s : State) : Out :=
  let i : Nat := isl
  let s1 := (s.downlink i).preempt i 3 busy
  let going := !s1.is GI.iOn i && !s1.is GI.iRunDir i && decide (ref + 64 < s1.get GI.iEndT i)
  .next ((s1.on (s1.get GI.iSt i == 3) fun t => (t.softTurnOff i going).set GI.iSt 2 i).resend i 3 ref busy)

/-- CFG_WR (R190, R193, R200, R216). -/
def execCfgWr (isl : Fin 12) (addr : BitVec 10) (data : BitVec 12) (s : State) : Out :=
  .next ((s.cfgTaken isl).islandWrite isl addr.toNat data.toNat)

/-- CFG_RD (R190): the island answers with CFG_RSP. -/
def execCfgRd (isl : Fin 12) (addr : BitVec 10) (s : State) : Out :=
  .next (((s.downlink isl).set GI.iRd 1 isl).set GI.iRdA addr.toNat isl)

/-- IDLE (R189, R190, R193): a valid frame without a body; it keeps the island's link alive. -/
def execIdleFrame (isl : Fin 12) (s : State) : Out := .next (s.downlink isl)

/-- A frame with CAIRN set (R188, R193, R210): the snapshot is latched; one that waited behind a SOFT_OFF sets CAIRN_LATE. -/
def execCairnFrame (isl : Fin 12) (ref : Nat) (busy : Option DownFrame) (s : State) : Out :=
  let i : Nat := isl
  let s1 := ((s.downlink i).preempt i 2 busy).cairnTaken i
  .next ((s1.on (busy == some .softOff) (·.raise .warning GLK.LINK_STAT.CAIRN_LATE)).resend i 2 ref busy)

/-- RELEASE at the island (R194, R211). -/
def execIslandRelease (isl : Fin 12) (s : State) : Out := .next ((s.cfgTaken isl).releaseTaken isl)

/-- CONF_DONE at the island (R200). -/
def execConfDone (isl : Fin 12) (s : State) : Out := .next ((s.cfgTaken isl).confTaken isl)

/-- SWAP at the island (R200). -/
def execIslandSwap (isl : Fin 12) (s : State) : Out := .next ((s.cfgTaken isl).swapTaken isl)

/-- CRC_HI (R200). -/
def execCrcHi (isl : Fin 12) (data : BitVec 12) (s : State) : Out :=
  .next ((s.cfgTaken isl).set GI.iCrc data.toNat isl 0)

/-- CRC_LO (R200). -/
def execCrcLo (isl : Fin 12) (data : BitVec 12) (s : State) : Out :=
  .next ((s.cfgTaken isl).set GI.iCrc data.toNat isl 1)

/-- RESET at the island (R193, R200). -/
def execIslandReset (isl : Fin 12) (s : State) : Out := .next ((s.cfgTaken isl).resetTaken isl)

/-- A write of CTL.RELEASE in a proxy (R194). -/
def execProxyRelease (isl : Fin 12) (s : State) : Out := .next (if !s.pdOn (3 + isl / 6) then s else (s.set GI.CTL.RELEASE 1 isl).gateRelease isl)

/-- A write of CTL.CONF_DONE in a proxy (R200): the CRC in two frames, then CONF_DONE. -/
def execProxyConfDone (isl : Fin 12) (s : State) : Out :=
  let i : Nat := isl
  let c := State.crc16w (s.proxyWords i)
  let s1 := (s.set GI.CTL.CONF_DONE 1 i).set GI.PROF_CRC.CALC c i
  .next (if !s.pdOn (3 + isl / 6) then s else ((s1.gateWrite i 0x1C3 (c / 256)).gateWrite i 0x1C4 (c % 256)).gateWrite i 0x1C1 1)

/-- A write of CTL.SWAP in a proxy (R200): to every island of the axis at once; a further one while a SWAP is outstanding adds
nothing. -/
def execProxySwap (isl : Fin 12) (s : State) : Out :=
  let is := s.islands (isl / 6)
  .next (if !s.pdOn (3 + isl / 6) then s else if is.any fun i => s.is GI.CTL.SWAP i then s
    else is.foldl (fun t i => (t.set GI.CTL.SWAP 1 i).gateWrite i 0x1C2 1) s)

/-- STATUS frame (R191, R193, R194). -/
def execStatusFrame (isl : Fin 12) (vds : BitVec 10) (vage : BitVec 4) (s : State) : Out :=
  .next (s.uplink isl vds.toNat vage.toNat (·.statusTaken isl))

/-- EDGE frame (R191): the instant and the direction of an edge's start or end, which the reconstruction of R56 takes with the Vds codes. T counts
back from the frame's first bit. -/
def execEdgeFrame (isl : Fin 12) (vds : BitVec 10) (vage : BitVec 4) (atEnd on : Bool) (t : BitVec 11) (first : Nat) (s : State) : Out :=
  .next (s.uplink isl vds.toNat vage.toNat fun u => (u.set GI.edgeAt (first - t.toNat) isl (ofBool atEnd)).setb GI.edgeDir on isl (ofBool atEnd))

/-- TRIP frame (R191, R205): T_DET counts back from the frame's first bit. -/
def execTripFrame (isl : Fin 12) (vds : BitVec 10) (vage : BitVec 4) (tdet : BitVec 8) (first : Nat) (s : State) : Out :=
  .next (s.uplink isl vds.toNat vage.toNat (·.causesTaken isl first (first - tdet.toNat)))

/-- MEAS frame (R191, R211, R215): temperatures and rails; an NTC that is absent reads 0x000. The OT piton makes one die
reading 151 °C. -/
def execMeasFrame (isl : Fin 12) (vds : BitVec 10) (vage : BitVec 4) (sel : BitVec 3) (val : BitVec 10) (s : State) : Out :=
  let i : Nat := isl
  let p := s.pit 0x20 7 i && sel == 0
  let v := if p then 860 else if sel == 1 && 16 ≤ s.get GI.iCtl i then 0 else val.toNat
  let s1 := s.on p fun t => t.pitAct.otEnter i false
  .next (s1.uplink i vds.toNat vage.toNat fun t =>
    match sel.toNat with
    | 0 => t.set GI.MEAS_T.TDIE v i
    | 1 => t.set GI.MEAS_T.TNTC v i
    | 2 => t.set GI.MEAS_V.VPOS v i
    | 3 => t.set GI.MEAS_V.VNEG v i
    | _ => t)

/-- CFG_RSP frame (R191): the word read, or ERR. -/
def execCfgRsp (isl : Fin 12) (vds : BitVec 10) (vage : BitVec 4) (s : State) : Out :=
  let i : Nat := isl
  .next (if !s.is GI.iRd i then s
    else (s.set GI.iRd 0 i).uplink i vds.toNat vage.toNat fun t =>
      t.set GI.rsp (match t.islandRead i (t.get GI.iRdA i) with | some d => d | none => 4096) i)

/-- No valid downlink frame for 1 µs (R193, R210). -/
def execIslandLinkLoss (isl : Fin 12) (s : State) : Out := .next (s.linkLost isl)

/-- No valid uplink frame for 1 µs (R193): GI_LINK, if the link has been up. -/
def execEndpointLinkLoss (isl : Fin 12) (s : State) : Out :=
  let i : Nat := isl
  .next (if s.is GI.trained i then
      ((s.setBit GLK.LINK_STAT.UP i false).set GI.glLost 1 i).tripIn (i / 6) 3
    else s)

/-- A Belay code received twice (R207, R212): a word that is none of the four reads as OPEN. -/
def execBelayCode (isl : Fin 12) (word : BitVec 8) (s : State) : Out :=
  let i : Nat := isl
  let c : Nat := match word.toNat with
    | 0x66 => 0
    | 0x33 => 2
    | 0x55 => 3
    | _ => 1
  .next (((s.set GI.iBl c i).on (c != 0) (·.osdAbort (i / 6))).govern i)

/-- SC_DLY has passed (R207, R202). A high-side switch under hardware shutdown stays off: R210 excepts a low-side one only (DEDUCED, log
entry 43). -/
def execScTurnOn (isl : Fin 12) (start : Nat) (dvdt : List (Option (BitVec 10))) (s : State) : Out :=
  .next (if s.is GI.iSc isl && s.get GI.iSt isl == 4 && (isLow isl || !s.is GI.iOt isl) then s.scOn isl start dvdt else s)

/-- The over-voltage broadcast stands for 40 ns (R29, R208, R212); high-side islands have no receiver. -/
def execOvbAssert (isl : Fin 12) (cm : Bool) (s : State) : Out :=
  let i : Nat := isl
  .next (if !isLow i then s
    else (((s.set GI.iOvb 1 i).on cm (·.islandFlag i 2)).osdAbort (i / 6)).govern i)

/-- The broadcast's turn-on (R208): Vds has stayed below BC_VDS, or BC_WAIT has passed. -/
def execBcTurnOn (isl : Fin 12) (start : Nat) (dvdt : List (Option (BitVec 10))) (s : State) : Out :=
  .next (if s.is GI.iBc isl && s.is GI.iOvb isl && s.get GI.iSt isl == 4 then s.scOn isl start dvdt else s)

/-- The broadcast ends (R208): the island follows its Belay line. -/
def execOvbDeassert (isl : Fin 12) (s : State) : Out :=
  .next (if s.is GI.iOvb isl then ((s.set GI.iOvb 0 isl).set GI.iBc 0 isl).govern isl else s)

/-- UVLO (R202, R210). -/
def execIslandUvlo (isl : Fin 12) (below6 : Bool) (s : State) : Out := .next (s.uvloEnter isl below6)

/-- Both rails above their thresholds for 10 µs (R202): HELD with everything kept, or UNCONF; then the line and the broadcast. -/
def execUvloRecover (isl : Fin 12) (s : State) : Out :=
  let i : Nat := isl
  .next (if !s.is GI.iUvlo i then s
    else
      let s1 := s.set GI.iUvlo 0 i
      let s2 := s1.on (s1.is GI.iLow i) fun t => (t.islandClear i).set GI.iLow 0 i
      (s2.set GI.iSt (if s2.is GI.iConf i then 2 else 1) i).govern i)

/-- DESAT (R203, R205, R210): only while the switch is on; nothing changes at the gate. -/
def execIslandDesat (isl : Fin 12) (s : State) : Out := .next (if s.is GI.iOn isl then s.islandCause isl 4 else s)

/-- DIDT (R204, R205). -/
def execIslandDidt (isl : Fin 12) (s : State) : Out := .next (s.islandCause isl 3)

/-- OT (R210, R211): with NTC_ABS set the NTC's shutdown is skipped. -/
def execIslandOt (isl : Fin 12) (ntc : Bool) (s : State) : Out :=
  .next (if ntc && decide (16 ≤ s.get GI.iCtl isl) then s else s.otEnter isl ntc)

/-- The island's supplies are up after its bank was switched on (R194, R410): UNCONF, then the line and the broadcast. -/
def execIslandPowerUp (isl : Fin 12) (s : State) : Out :=
  let i : Nat := isl
  .next (if s.getBit SYS.PWR_STAT.PD_ON (7 + i / 6) && s.get GI.iSt i == 0 && !s.is GI.iUvlo i then
      ((s.islandClear i).set GI.iSt 1 i).govern i
    else s)

namespace State

/-- The node voltages of a star at the endpoints lie within VLO of each other (R212). -/
def osdNear (s : State) (a : Nat) : Bool :=
  let v := [1, 3, 5].map fun k => s.get GI.VDS.CODE (6 * a + k)
  decide ((v.foldl max 0 - v.foldl min 1023) * 1173 ≤ s.get GLK.OSD_CMD.VLO * 1000)

/-- The conditions of the diagnostics (R212). -/
def osdOk (s : State) (a : Nat) : Bool :=
  ((List.range 6).all fun k => !s.is GI.STATUS.ON (6 * a + k) && !s.is GI.cmdOn (6 * a + k)) && !s.axEn a
    && decide (500 * 32768 ≤ s.get SEN.VDC_VAL.FILT * s.vBase a) && !s.is SEN.VDC_STAT.LOST && s.osdNear a

/-- A recorded node voltage is below VLO. -/
def osdLow (s : State) (a n p : Nat) : Bool := decide (s.get GLK.osd a (3 * n + p) * 1173 < s.get GLK.OSD_CMD.VLO * 1000)

/-- It is above V_dc − VLO. -/
def osdHigh (s : State) (a n p : Nat) : Bool :=
  decide (s.get SEN.VDC_VAL.FILT * s.vBase a * 100 < (s.get GLK.osd a (3 * n + p) * 1173 + s.get GLK.OSD_CMD.VLO * 1000) * 32768)

/-- The node follows a step (R213): below VLO when sunk, above V_dc − VLO when sourced. Steps of a leg: sink 1 mA, sink 5 mA,
source 1 mA, source 5 mA. -/
def osdFollows (s : State) (a n p : Nat) : Bool := if n % 4 < 2 then s.osdLow a n p else s.osdHigh a n p

/-- The result of a phase (R213); where no condition of the list holds none is stated, and it is free. -/
def osdClass (s : State) (a p : Nat) : Nat :=
  let all := List.range 12
  let own := (all.filter fun n => n / 4 == p).all fun n => s.osdFollows a n p
  let other := (all.filter fun n => n / 4 != p).all fun n => s.osdFollows a n p
  let at1 := (all.filter fun n => n % 2 == 0).all fun n => s.osdFollows a n p
  let at5 := (all.filter fun n => n % 2 == 1).all fun n => s.osdFollows a n p
  if all.all fun n => s.osdHigh a n p then 2
  else if all.all fun n => s.osdLow a n p then 3
  else if own != other then 4
  else if at5 && !at1 then 5
  else if at1 then 1
  else Config.free 213 (all.map fun n => (s.get GLK.osd a (3 * n + p) : Int)) % 8

end State

/-- OSD_START (R212). -/
def execOsdStart (star : Fin 2) (s : State) : Out :=
  let a : Nat := star
  let stat := if a = 0 then GLK.OSD_RES.STAT_A else GLK.OSD_RES.STAT_B
  let go := if a = 0 then GLK.OSD_CMD.START_A else GLK.OSD_CMD.START_B
  let res := if a = 0 then GLK.OSD_RES.RES_A else GLK.OSD_RES.RES_B
  .next (if !s.pdOn 3 then s else if s.get stat = 1 then s
    else if s.osdOk a then (((s.set go 1).set stat 1).set res 0).set GLK.osdN 0 a
    else (s.set stat 3).set go 0)

/-- OSD_STEP (R212, R213): the node voltages at the end of a step; after the twelfth the phases are classified. -/
def execOsdStep (star : Fin 2) (u v w : BitVec 10) (s : State) : Out :=
  let a : Nat := star
  let stat := if a = 0 then GLK.OSD_RES.STAT_A else GLK.OSD_RES.STAT_B
  let go := if a = 0 then GLK.OSD_CMD.START_A else GLK.OSD_CMD.START_B
  let res := if a = 0 then GLK.OSD_RES.RES_A else GLK.OSD_RES.RES_B
  .next (if s.get stat ≠ 1 then s
    else
      let n := s.get GLK.osdN a
      let s1 := ((s.set GLK.osd u.toNat a (3 * n)).set GLK.osd v.toNat a (3 * n + 1)).set GLK.osd w.toNat a (3 * n + 2)
      let s2 := s1.set GLK.osdN (n + 1) a
      if n + 1 < 12 then s2
      else
        let r := s2.osdClass a 0 + 8 * s2.osdClass a 1 + 64 * s2.osdClass a 2
        (((s2.set res r).set stat 2).set go 0).event .info a 0x20 0x0001 (res.addr 0 0) r)

/-- GLK_PIT_ARM (R215, R329): for an island 0 to 11. The UVLO and LINK pitons act at once. -/
def execGlkPitArm (isl : BitVec 4) (sel : BitVec 4) (s : State) : Out :=
  let i := isl.toNat
  let s1 := (s.set GLK.PIT_CTL.ISL i).set GLK.PIT_CTL.SEL sel.toNat
  let real := decide (i < 12 ∧ 1 ≤ sel.toNat ∧ sel.toNat ≤ 7)
  let s2 := s.pitArm s1 GLK.PIT_CTL.ARM 0 0x20 sel.toNat i (2 ^ 31 + i * 256 + sel.toNat) real
  let now := real && !s.is BL.PIT_STAT.ARMED
  .next (if !s.pdOn 3 then s else if now && s2.pit 0x20 3 i then s2.pitAct.uvloEnter i false
    else if now && s2.pit 0x20 4 i then s2.pitAct.linkLost i
    else s2)

/-- BELAY_LINE_LOSS (R207): a line without a transition reads OPEN. -/
def execBelayLineLoss (isl : Fin 12) (s : State) : Out :=
  .next (((s.set GI.iBl 1 isl).osdAbort (isl / 6)).govern isl)

/-- INVALID_FRAME (R187, R189, R214): the 40 bits as received fail SOF, TYPE or CRC-8: discarded; counted in BAD_CRC at the endpoint, in the
snapshot's counter at the island. Bits that pass are no such frame. -/
def execInvalidFrame (isl : Fin 12) (up : Bool) (word : BitVec 40) (s : State) : Out :=
  .next (if gateFrameOk word.toNat then s else if up then s.incSat GI.LINK.BAD_CRC isl else s.incSat GI.iBad isl)

/-- COMMON_MODE_EVENT (R29): a low-side Kelvin source beyond ±100 V is reported in the next STATUS frame. -/
def execCommonModeEvent (isl : Fin 12) (s : State) : Out := .next (if isLow isl then s.islandFlag isl 2 else s)

end Sys2Proof.Machine
end

