-- ==== Sys2Proof/Machine/Sha.lean ====
section
/-!
DEFINITION. SHA-256, which the spec names without defining it (R323, R326): the function of FIPS 180-4 (PRESUMED, log entry 9).
-/
namespace Sys2Proof.Machine

/-- No number from 2 up to `k + 1` divides `n`. -/
def undivided (n : Nat) : Nat → Bool
  | 0 => true
  | k + 1 => n % (k + 2) != 0 && undivided n k

/-- The primes below 312, of which there are 64. -/
def shaPrimes : List Nat := (List.range 312).filter fun n => decide (2 ≤ n) && undivided n (n - 2)

/-- The greatest number whose cube is at most `n`, bit by bit from bit `k` down. -/
def cubeRootFrom (n : Nat) : Nat → Nat → Nat
  | 0, r => r
  | k + 1, r => cubeRootFrom n k (if (r + 2 ^ k) ^ 3 ≤ n then r + 2 ^ k else r)

/-- The round constants: the first 32 fraction bits of the cube roots of the primes. -/
def shaConst : List (BitVec 32) := shaPrimes.map fun p => BitVec.ofNat 32 (cubeRootFrom (p * 2 ^ 96) 36 0)

/-- The initial hash value: those of the square roots of the first eight primes. -/
def shaInit : List (BitVec 32) := (shaPrimes.take 8).map fun p => BitVec.ofNat 32 (isqrt (p * 2 ^ 64))

/-- The padded message: a one bit, zeros up to 56 bytes modulo 64, and the length in bits as 8 bytes, most significant first. -/
def shaPad (data : List Nat) : List Nat :=
  let n := data.length
  data ++ [0x80] ++ List.replicate ((119 - n % 64) % 64) 0 ++ (List.range 8).map fun k => 8 * n / 256 ^ (7 - k) % 256

/-- The words of a sequence of bytes, each most significant byte first. -/
def shaWords : List Nat → List (BitVec 32)
  | a :: b :: c :: d :: l => BitVec.ofNat 32 (a * 2 ^ 24 + b * 2 ^ 16 + c * 2 ^ 8 + d) :: shaWords l
  | _ => []

/-- The message schedule, latest word first: `n` more words after those of `w`. -/
def shaExtend : Nat → List (BitVec 32) → List (BitVec 32)
  | 0, w => w
  | n + 1, w =>
    let at' (k : Nat) : BitVec 32 := w.getD k 0
    let s0 := (at' 14).rotateRight 7 ^^^ (at' 14).rotateRight 18 ^^^ (at' 14) >>> 3
    let s1 := (at' 1).rotateRight 17 ^^^ (at' 1).rotateRight 19 ^^^ (at' 1) >>> 10
    shaExtend n ((at' 15 + s0 + at' 6 + s1) :: w)

/-- One round on the eight working variables, with the sum of the round's constant and its schedule word. -/
def shaRound (v : List (BitVec 32)) (kw : BitVec 32) : List (BitVec 32) :=
  match v with
  | [a, b, c, d, e, f, g, h] =>
    let t1 := h + (e.rotateRight 6 ^^^ e.rotateRight 11 ^^^ e.rotateRight 25) + (e &&& f ^^^ ~~~e &&& g) + kw
    let t2 := (a.rotateRight 2 ^^^ a.rotateRight 13 ^^^ a.rotateRight 22) + (a &&& b ^^^ a &&& c ^^^ b &&& c)
    [t1 + t2, a, b, c, d + t1, e, f, g]
  | _ => v

/-- The hash value after a block of 16 words. -/
def shaBlock (hv block : List (BitVec 32)) : List (BitVec 32) :=
  let w := (shaExtend 48 block.reverse).reverse
  (hv.zip (((shaConst.zip w).map fun p => p.1 + p.2).foldl shaRound hv)).map fun p => p.1 + p.2

/-- The hash value after `n` blocks. -/
def shaBlocks : Nat → List (BitVec 32) → List (BitVec 32) → List (BitVec 32)
  | 0, hv, _ => hv
  | n + 1, hv, w => shaBlocks n (shaBlock hv (w.take 16)) (w.drop 16)

/-- SHA-256 of a sequence of bytes; byte 0 of the digest is the number's lowest byte. -/
def sha256 (data : List Nat) : Nat :=
  let p := shaPad data
  let hv := shaBlocks (p.length / 64) shaInit (shaWords p)
  (hv.flatMap fun w => (List.range 4).map fun k => w.toNat / 256 ^ (3 - k) % 256).foldr (fun b n => b + 256 * n) 0

end Sys2Proof.Machine
end

