-- ==== Sys2Proof/Machine/ChangeLog.lean ====
section
/-!
DEFINITION. The change log of the safety configuration (R326, R327).
-/
namespace Sys2Proof.Machine

/-- The bytes 0x00 to 0x3F of a log entry, for its CHAIN (R326). -/
def LogEntry.head (e : LogEntry) : List Nat :=
  leBytes 4 e.index ++ leBytes 4 (e.kind * 2 ^ 24 + e.role * 2 ^ 16) ++ leBytes 8 e.time ++ leBytes 4 e.field
    ++ leBytes 4 e.value ++ leBytes 8 0 ++ leBytes 32 e.old

/-- CHAIN of an entry after one whose CHAIN is `prev` (R326). -/
def chainOf (prev : Nat) (e : LogEntry) : Nat := sha256 (leBytes 32 prev ++ e.head)

/-- An entry appended to the change log (R326, R327): OLD_HASH over INDEX and the old value, CHAIN over the previous
CHAIN; the log holds the newest 4096 entries, and the CHAIN of one overwritten becomes the anchor. -/
def State.logAppend (s : State) (kind role field value : Nat) (old : List Nat) : State :=
  let i := s.get BL.logCount
  let e : LogEntry := { index := i, kind := kind, role := role, time := s.now % 2 ^ 64, field := field, value := value,
                        old := sha256 (leBytes 4 i ++ old), chain := 0 }
  let prev := (s.log.getLast?).elim (s.get BL.logAnchor) (·.chain)
  let full := 4096 ≤ s.log.length
  let t := ((s.inc BL.logCount).set BL.LOG_STAT.INDEX i).on full fun u =>
    u.set BL.logAnchor ((s.log.head?).elim 0 (·.chain))
  let c := chainOf prev e
  { t.set BL.chain0 (c % 2 ^ 32) with log := (if full then s.log.drop 1 else s.log) ++ [{ e with chain := c }] }

/-- GENESIS (R327): the entry of INDEX 0 with a previous CHAIN of zeros, written in MANUFACTURE; the spec does not say at which moment: when
the Belay island first starts there, with 0 in what R326 gives for other kinds and OLD_HASH over an old value of 0 (DESIGN CHOICE, log entry
50). -/
def State.genesis (s : State) : State :=
  if s.is BL.genesis || s.get SEC.LC_STAT.STATE ≠ 0 || s.is BL.logCount then s
  else (s.logAppend 5 0 0 0 (leBytes 4 0)).set BL.genesis 1

/-- The RWS fields of the register at a BL offset (R306). -/
def rwsAt (off : Nat) : List (Row × Nat × Nat) := (fieldsAt (0x01300000 + off)).filter fun f => f.1.acc == .rws

/-- A reset between a log entry and its field change (R326, R331): at start-up the fields of the newest CFG_WRITE take its NEW value. -/
def State.rollForward (s : State) : State :=
  match s.log.getLast? with
  | some e => if e.kind = 1 then (rwsAt e.field).foldl (fun t f => t.set f.1 (f.1.cut e.value) f.2.1 f.2.2) s else s
  | none => s

/-- The first entry whose CHAIN does not follow from the one before it (R327): its INDEX + 1, or 0 when none. -/
def chainCheck : Nat → List LogEntry → Nat
  | _, [] => 0
  | h, e :: es => if chainOf h e = e.chain then chainCheck e.chain es else e.index + 1

end Sys2Proof.Machine
end

