-- ==== Sys2Proof/Machine/RstOps.lean ====
section
/-!
DEFINITION. What reset, start-up and the power states share (18, 20): which domain a row's state lies in, what a level or a fall
clears, how a reset is requested and takes hold, and what a block reset does.
-/
namespace Sys2Proof.Machine

/-- The axis domain of an instance in PD3 and PD4 blocks: by axis, by channel of three, by island of six, by engine core, by
setpoint channel; what the axes share lies in PD3, what serves the aux drives in PD5 (R411). -/
def axisDomain (r : Row) (i : Nat) : Nat :=
  match r.c1 with
  | 1 => 3
  | 2 => 3 + i
  | 5 => if i < 2 then 3 + i else 5
  | 6 => 3 + i / 3
  | 7 => if i < 4 then 3 + i / 2 else if i = 4 then 3 else if i = 5 then 4 else 5
  | 8 => if i = 1 then 4 else if 2 ≤ i && i < 5 then 5 else 3
  | 12 => 3 + i / 6
  | _ => 3

/-- The SYS rows that lie in PD2 although COLD clears them (R456): RST_CNT, and the standing clock faults. -/
def sysCommon (r : Row) : Bool :=
  [SYS.RST_CNT.UNCLEAN_CNT, SYS.RST_CNT.WD_CNT, SYS.RST_CNT.MERGED, SYS.RST_CNT.RESETS, SYS.pllDown, SYS.xtalBad].contains r

/-- Every block's rows with the domain that each instance lies in (R411). -/
def domainRows : List (List Row × (Row → Nat → Nat)) :=
  [(SYS.rows, fun r _ => if r.clr = .cold && !sysCommon r then 0 else 2), (DOOR.rows ++ RING.rows ++ ACT.rows, fun _ _ => 2),
   (HK.rows ++ PERF.rows ++ MEM.rows ++ BIST.rows, fun _ _ => 2), (SEC.rows, fun r _ => if r.clr = .cold then 0 else 2),
   (SQ.rows ++ OB.rows ++ PU.rows ++ CE.rows ++ SEN.rows ++ POS.rows ++ GLK.rows, axisDomain),
   (GI.rows, fun r i => if r.clr = .cold then 7 + i / 6 else 3 + i / 6), (DLI.rows, fun _ _ => 2), (AX.rows, fun _ _ => 5),
   (CAN.rows ++ ETH.rows, fun _ _ => 6), (BL.rows, fun _ _ => 1)]

/-- The domains PD7 to PD3 that START_CFG names, as a mask of domain numbers. -/
def bootMask (boot : Nat) : Nat := boot % 64 * 8

/-- A source of the command kind names its own level (R439). -/
def commandSource (src : Nat) : Bool := src == 7 || src == 8 || src == 9

/-- A reset passes through the pre-reset stage (R443): SYS and CTL, and a commanded COLD; not a brown-out, RSTN, a power-on or a
BIST failure. -/
def staged (lvl src : Nat) : Bool :=
  (lvl == 1 || lvl == 2) && src != 2 && src != 10 || lvl == 0 && (src == 7 || src == 9)

/-- The warning sources of the event RESET (R455). -/
def warnSource (src : Nat) : Bool := [1, 2, 4, 5, 6, 10].contains src

/-- How many instances a block has for BLK (R446); 0 for a block that takes none. -/
def blkInstances (source : Nat) : Nat :=
  match source with
  | 0x12 => 5
  | 0x15 => 4
  | 0x1A => 4
  | _ => if [0x03, 0x10, 0x11, 0x13, 0x14, 0x16, 0x17, 0x18, 0x19, 0x1B, 0x1C, 0x1E, 0x20, 0x21].contains source then 1 else 0

/-- The rows of a block, with the instances that its reset takes: a BLK of either engine of a pair resets both (R183, R446). -/
def blkRows (source inst : Nat) : List Row × (Row → Nat → Bool) :=
  let axis (a : Nat) : Row → Nat → Bool := fun r i => axisDomain r i == 3 + a
  match source with
  | 0x03 => (ACT.rows, fun _ _ => true)
  | 0x10 => (SQ.rows, axis 0)
  | 0x11 => (SQ.rows, axis 1)
  | 0x12 => (PU.rows, fun _ i => i == inst)
  | 0x13 => (OB.rows ++ CE.rows, fun r i => if r.c1 = 7 then i == 4 else r.c1 != 8 && axisDomain r i == 3)
  | 0x14 => (OB.rows ++ CE.rows, fun r i => if r.c1 = 7 then i == 5 else r.c1 != 8 && axisDomain r i == 4)
  | 0x15 => (CE.rows, fun r i => if r.c1 = 7 then i < 4 && i / 2 == inst / 2 else axisDomain r i == 3 + inst / 2)
  | 0x16 => (SEN.rows, fun _ _ => true)
  | 0x17 => (POS.rows, fun _ _ => true)
  | 0x18 => (AX.rows ++ CE.rows, fun r i => if r.c1 = 7 then i == 6 else if r.c1 = 8 then 2 ≤ i && i < 5 else true)
  | 0x19 => (HK.rows, fun _ _ => true)
  | 0x1A => (CAN.rows, fun _ i => i == inst)
  | 0x1B => (ETH.rows, fun _ _ => true)
  | 0x1C => (PERF.rows, fun _ _ => true)
  | 0x1E => (BIST.rows, fun _ _ => true)
  | 0x20 => (GLK.rows ++ GI.rows, fun _ _ => true)
  | 0x21 => (DLI.rows, fun _ _ => true)
  | _ => ([], fun _ _ => false)

/-- The channels stopped before a block reset (R446). -/
def blkChannels (source inst : Nat) : List Nat :=
  match source with
  | 0x10 => [0, 7]
  | 0x13 => [0, 7]
  | 0x11 => [1, 7]
  | 0x14 => [1, 7]
  | 0x12 => if inst = 0 then [0, 7] else if inst = 1 then [1, 7] else [inst]
  | 0x15 => if inst < 2 then [0, 7] else [1, 7]
  | 0x16 => [0, 1, 7]
  | 0x17 => [0, 1, 7]
  | 0x20 => [0, 1, 7]
  | 0x18 => [2, 3, 4]
  | _ => []

namespace State

/-! Clearing -/

/-- What is left of the AUTH lockout, in units of 2.5 ns: it counts down while PD2 is powered (R385). -/
def lockLeft (s : State) : Nat :=
  if s.getBit SYS.PWR_STAT.PD_ON 2 then s.get SEC.lockRest - (s.now - s.get SEC.lockT) else s.get SEC.lockRest

/-- The state with the cells dropped whose row, instance and domain `p` names. -/
def clearWhere (s : State) (p : Row → Nat → Nat → Bool) : State :=
  domainRows.foldl (fun t d => t.dropCells d.1 fun r i => p r i (d.2 r i)) s

/-- The counter of a unit that has been reset counts up from 0 (R140). -/
def cntStart (s : State) (pu : Nat) : State := ((s.set PU.cntT s.now pu).set PU.CNT.CNT 0 pu).set PU.STATUS.DOWN 0 pu

/-- A domain's logic bits; the counters of its units start; the V_dc condition of debug follows PD3 (R398), the safe-hold switches PD5 (R408);
when a bank starts no link of it has been up (R193). -/
def pdSet (s : State) (pd : Nat) (on : Bool) : State :=
  let s0 := (s.setBit SYS.PWR_STAT.PD_ON pd on).on (decide (2 ≤ pd) && decide (pd ≤ 8)) (·.setBit SYS.PWR_STAT.ZERO_DONE (pd - 2) on)
  let units := if !on then [] else if pd = 3 then [0] else if pd = 4 then [1] else if pd = 5 then [2, 3, 4] else []
  let s1 := units.foldl State.cntStart s0
  if pd = 2 then s1.set SEC.lockT s1.now
  else if pd = 3 then s1.debugVdc
  else if pd = 5 then (if on then s1.shRedrive else s1.shSet 0)
  else if (pd = 7 || pd = 8) && on then s1.forN 6 fun k t => t.set GI.trained 0 (6 * (pd - 7) + k)
  else s1

/-- The AUTH lockout stops counting: what is left of it is kept (R385). -/
def lockPause (s : State) : State := (s.set SEC.lockRest s.lockLeft).set SEC.lockT s.now

/-- What lies in PD2 beside its rows: event queues, descriptors with their messages to the Belay island, the snapshot store, images under construction, shared SRAM. -/
def clearCommon (s : State) (keepMem : Bool) : State :=
  { s with evFault := [], evWarning := [], evInfo := [], evSafety := [], descs := [], plays := [], ridgeIn := s.ridgeIn.filter (·.chan != 0), snaps := [], fwImage := [], calImage := [],
           mem := if keepMem then s.mem else [], eccSeen := [],
           eccBad := if keepMem then s.eccBad.filter fun p => p.1.1 == 0 else s.eccBad.filter fun p => 3 ≤ p.1.1 }

/-- What lies in the engines of an axis domain or of PD5 beside their rows. -/
def clearEngines (s : State) (p : Nat → Bool) : State :=
  { s with engCalls := s.engCalls.filter fun c => !p c.1, engLoops := s.engLoops.filter fun l => !p l.eng }

/-- What lies in the network blocks beside their rows. -/
def clearNet (s : State) : State := { s with canTx := [], canRxQ := [], ethTxQ := [] }

/-- A domain falls (R413): every register and memory content of it is lost. -/
def fall (s : State) (pd : Nat) : State :=
  let s0 := ((s.on (pd == 1) (·.bivEnd)).on (pd == 2) (·.lockPause)).on (pd == 6) fun t => (t.forN 4 fun c u => u.canStop c).ethStop
  let s1 := ((s0.clearWhere fun r _ d => d == pd && r.clr != .never).pdSet pd false).unblank (pdBlank pd)
  match pd with
  | 1 => ({ s1 with ridgeIn := [], pwdBuf := [] } : State)
  | 2 => s1.clearCommon false
  | 3 => { s1.clearEngines (fun e => e < 2 || e == 4) with eccBad := s1.eccBad.filter fun p => p.1.1 != 3 }
  | 4 => { s1.clearEngines (fun e => e == 2 || e == 3 || e == 5) with eccBad := s1.eccBad.filter fun p => p.1.1 != 4 }
  | 5 => { s1.clearEngines (fun e => e == 6) with eccBad := s1.eccBad.filter fun p => p.1.1 != 5 }
  | 6 => s1.clearNet
  | _ => s1

/-- What a level clears (R6, R454): COLD all that no entry keeps, SYS and CTL what CTL clears, outside the Belay island. -/
def clearLevel (s : State) (lvl : Nat) (warm : Bool) : State :=
  let s1 := (s.on (lvl == 0) fun t => t.bivEnd.lockPause).clearWhere fun r _ d => if lvl = 0 then r.clr != .never else d != 1 && (r.clr == .blk || r.clr == .ctl)
  let s2 := ({ (s1.clearCommon warm).clearNet.clearEngines (fun _ => true) with
    eccBad := if warm then s1.eccBad.filter fun p => p.1.1 == 0 else [] } : State)
  if lvl = 0 then { s2 with now := 0, ridgeIn := [], pwdBuf := [] } else s2

/-! Registers of the reset block -/

/-- RST_CAUSE as a word. -/
def causeReg (s : State) : Nat :=
  s.get SYS.RST_CAUSE.SRC * 2 ^ 28 + s.get SYS.RST_CAUSE.LEVEL * 2 ^ 26 + s.get SYS.RST_CAUSE.WARM * 2 ^ 25
    + s.get SYS.RST_CAUSE.UNCLEAN * 2 ^ 24

/-- RST_CNT as a word. -/
def cntReg (s : State) : Nat :=
  s.get SYS.RST_CNT.UNCLEAN_CNT * 2 ^ 24 + s.get SYS.RST_CNT.WD_CNT * 2 ^ 16 + s.get SYS.RST_CNT.MERGED * 2 ^ 8
    + s.get SYS.RST_CNT.RESETS

/-- RST_CAUSE is rewritten by every reset (R456). -/
def writeCause (s : State) (src lvl : Nat) (warm : Bool) : State :=
  ((s.set SYS.RST_CAUSE.SRC src).set SYS.RST_CAUSE.LEVEL lvl).setb SYS.RST_CAUSE.WARM warm

/-- RST_MAP takes the fused map (R440), once it has been blown. -/
def loadMap (s : State) : State :=
  let m := s.get SYS.mapFuse
  if !bit m 14 then s
  else
    ((((((s.set SYS.RST_MAP.BIST (bits m 13 12)).set SYS.RST_MAP.NET (bits m 11 10)).set SYS.RST_MAP.HOST (bits m 9 8)).set
      SYS.RST_MAP.BELAY (bits m 7 6)).set SYS.RST_MAP.WD_ENG (bits m 5 4)).set SYS.RST_MAP.WD_HC (bits m 3 2)).set
      SYS.RST_MAP.BO_CTL (bits m 1 0)

/-- The map in force as the fuses hold it. -/
def mapWord (s : State) : Nat :=
  s.get SYS.RST_MAP.BIST * 2 ^ 12 + s.get SYS.RST_MAP.NET * 2 ^ 10 + s.get SYS.RST_MAP.HOST * 2 ^ 8 + s.get SYS.RST_MAP.BELAY * 2 ^ 6
    + s.get SYS.RST_MAP.WD_ENG * 2 ^ 4 + s.get SYS.RST_MAP.WD_HC * 2 ^ 2 + s.get SYS.RST_MAP.BO_CTL

/-- What shipment adds on entry to PROVISIONED (R1, R380): the ordering code is fused, and the integrator key slot of a NV-2412-DV is
filled with the development integrator key. -/
def shipped (s : State) : State :=
  (s.setb SEC.LC_STAT.CODE Config.orderingCode).on Config.orderingCode fun t =>
    (((t.set SEC.CAL_STAT.KEY_OK 1).setBit SEC.KEY_STAT.ROLE_KEYS 0 true).set SEC.kInt (Config.devKey 0)).set SEC.roleKey
      (Config.devKey 1) 0

/-- A life-cycle transition in the fuses completes (R381); with PRODUCTION the map in force is blown and RST_CTL locks (R440). -/
def lcFinish (s : State) : State :=
  if !s.is SEC.lcIntent then s
  else
    let t := s.get SEC.lcIntent - 1
    let s1 := ((s.set SEC.LC_STAT.STATE t).set SEC.LC_STAT.LC_PEND 0).set SEC.lcIntent 0
    let s2 := (s1.on (t == 1) (·.shipped)).on (t == 2 && !bit (s1.get SYS.mapFuse) 14) (·.set SYS.mapFuse (2 ^ 14 + s1.mapWord))
    s2.on (decide (2 ≤ t)) (·.set SYS.RST_CTL.LOCK 1)

/-! Taking hold -/

/-- The domains that a start-up steps (R449, R450): PD1 where it is not running, PD2, PD_BOOT, the banks that were on; a bank only
with its axis domain (R412), and not a domain that has failed BIST twice (R452). -/
def planOf (s : State) (lvl banks : Nat) : Nat :=
  let b := bootMask (s.get SYS.START_CFG.PD_BOOT)
  let on (m pd : Nat) : Bool := bit m pd
  let pick (pd : Nat) : Bool :=
    if pd = 1 then lvl == 0 || !s.getBit SYS.PWR_STAT.PD_ON 1
    else if pd = 2 then true
    else if lvl = 0 then on b pd && (pd < 7 || on b (pd - 4))
    else if pd < 7 then on b pd || (pd < 5 && on banks (pd + 4))
    else on banks pd
  ((List.range 9).map fun pd => if 1 ≤ pd && pick pd && s.get SYS.bistTry pd < 2 then 2 ^ pd else 0).sum

/-- Start-up begins. -/
def startUp (s : State) (lvl banks : Nat) : State :=
  let s1 := ((s.set SYS.plan (s.planOf lvl banks)).set SYS.stepped 0).set SYS.startT s.now
  let s2 := s1.set SYS.RST_STAT.PD_FAIL (((List.range 9).map fun pd => if 1 ≤ pd && s.get SYS.bistTry pd == 2 then 2 ^ (pd - 1) else 0).sum)
  s2.set SYS.rstPhase (if s2.is SYS.rstnLow || s2.get SYS.boMask % 128 != 0 then 3 else 0)

/-- A reset takes hold of its domains (R443, R444, R454): a SAVE in progress is lost (R236); COLD opens the banks, SYS and CTL leave
them powered, and their islands are written RESET when the links return; from PRODUCTION RST_CTL is locked. Engines that come out
are not halted (R400); SYS and COLD try a faulted crystal again (R429). The reset that a failed BIST causes keeps its MISR (R469;
DEDUCED, log entry 25). -/
def takeHold (s : State) (lvl src : Nat) (warm : Bool) : State :=
  let banks := s.get SYS.PWR_STAT.PD_ON / 128 % 4 * 128
  let kept := if lvl = 0 then s.get SYS.PWR_STAT.PD_ON / 512 % 2 * 512
    else s.get SYS.PWR_STAT.PD_ON % 4 + banks + s.get SYS.PWR_STAT.PD_ON / 512 % 2 * 512
  let s0 := (s.on (s.get ACT.job == 2) (·.set ACT.ERR_LOC.IMG_FAIL 1)).set SEC.autoCom (s.get SEC.FW_CMD.AUTO_COMMIT)
  let s1 := ((s0.clearLevel lvl warm).set SYS.PWR_STAT.PD_ON kept).shSet 0
  let s1 := s1.on (decide (lvl ≤ 1)) (·.set SYS.xtalBad 0)
  let s1 := s1.on (src == 10) fun t => (t.set BIST.SIG.SIG (s.get BIST.SIG.SIG 0 0) 0 0).set BIST.SIG.SIG (s.get BIST.SIG.SIG 0 1) 0 1
  let s1 := s1.on (lvl == 0 && s.is SEC.DBG_STAT.OPEN) (·.event .info 0 0x1F 0x0304 (s.get SEC.DBG_STAT.LEVEL) 3)
  let s2 := ((s1.writeCause src lvl warm).set SYS.rstEv 1).set SEC.DBG_STAT.HALT 0
  let s3 := if lvl = 0 then s2.loadMap else (s2.incSat SYS.RST_CNT.RESETS).forN 12 fun i t => t.set GI.glLost 1 i
  let s4 := ((s3.set SYS.rstLvl lvl).set SYS.rstSrc src).setb SYS.rstWarm warm
  let s5 := s4.on (src != 10) fun t => t.forN 9 fun pd u => u.set SYS.bistTry 0 pd
  (s5.on (decide (2 ≤ s5.get SEC.LC_STAT.STATE)) (·.set SYS.RST_CTL.LOCK 1)).startUp lvl banks

/-- The pre-reset stage (R443): SOFT_OFF with SRC 31 to the islands of each enabled traction axis, the aux bridges off, the Belay
island told, so that both axes enter the safe state with cause CI_LOST at once; it lasts for the longest E_SOFT and 360 ns, 3 µs at most. -/
def stage1 (s : State) (lvl src : Nat) (warm : Bool) : State :=
  let s1 := ((((s.set SYS.rstPhase 2).set SYS.rstLvl lvl).set SYS.rstSrc src).setb SYS.rstWarm warm).set SYS.RST_STAT.BUSY 1
  let s2 := [0, 1, 7].foldl (fun t ch => t.on (s1.is ACT.chEn ch) fun u => (chIslands ch).foldl (fun v i => v.gateSoftOff i 31) u) s1
  let s3 := s2.forN 3 fun k t => t.axBridgeOff k
  let isl := [0, 1, 7].flatMap fun ch => if s1.is ACT.chEn ch then chIslands ch else []
  let wait := min 3000 ((isl.map fun i => s.get GI.PROF_DUR.E_SOFT i).foldl max 0 + 360)
  (s3.set SYS.stageEnd (s.now + (2 * wait + 4) / 5)).callSafeBoth SsCause.ciLost.bit

/-- A reset of level COLD, SYS or CTL begins. -/
def resetBegin (s : State) (lvl src : Nat) (warm : Bool) : State :=
  if staged lvl src then s.stage1 lvl src warm else s.takeHold lvl src warm

/-- A reset source reaches its level (R439, R453): while a reset or a start-up runs, a wider one prevails, a narrower or equal one is
dropped and counted; what takes the supply away prevails too. -/
def resetRequest (s : State) (lvl src : Nat) (warm : Bool) : State :=
  if s.get SYS.rstPhase = 1 || s.get SYS.rstPhase = 4 || decide (lvl < s.get SYS.rstLvl) || src = 0 || src = 1 || src = 3
      || (src = 2 && lvl = s.get SYS.rstLvl) then
    s.resetBegin lvl src warm
  else s.incSat SYS.RST_CNT.MERGED

/-! Block resets -/

/-- A channel that a block serves is stopped (R446): the SW trip of its unit, then it is disabled. -/
def blkStop (s : State) (ch : Nat) : State :=
  if !s.is ACT.chEn ch then s
  else if isTraction ch then (s.tripNow (chAx ch) 18).tractionEnd ch
  else (s.tripNow ch 18).axDisable (ch - 2)

/-- The other engine of a rope pair's reset is already asked for (R453). -/
def blkSame (s : State) (source inst : Nat) : Bool :=
  source == 0x15 && s.get SYS.RST_STAT.BLK_SRC == 0x15 && s.get SYS.RST_STAT.BLK_INST / 2 == inst / 2

/-- The checks of a BLK request (R446, R453); a second reset of one rope pair is one reset and completes OK. -/
def blkCheck (s : State) (source inst : Nat) : Status :=
  if blkInstances source ≤ inst then .range
  else if source = 0x21 && s.disRunning then .state
  else if s.get SYS.rstPhase ≠ 1 then .busy
  else if s.is SYS.blkOn && !s.blkSame source inst then .busy
  else .ok

/-- An accepted BLK request: the channels are stopped and the block is asked to go idle. A PU turns its outputs off whether or not a
channel uses it (R159). -/
def blkBegin (s : State) (source inst src : Nat) : State :=
  if s.is SYS.blkOn then s
  else
    let s1 := ((((s.set SYS.blkOn 1).set SYS.blkT s.now).set SYS.blkBy src).set SYS.RST_STAT.BLK_SRC source).set SYS.RST_STAT.BLK_INST inst
    let s2 := (s1.set SYS.RST_STAT.BUSY 1).on (source == 0x12) (·.tripNow inst 18)
    (blkChannels source inst).foldl (fun t ch => t.blkStop ch) s2

/-- What a block holds beside its rows. -/
def blkRest (s : State) (source inst : Nat) : State :=
  match source with
  | 0x10 => s.unblank (· == 8)
  | 0x11 => s.unblank (· == 9)
  | 0x13 => (s.clearEngines (· == 4)).unblank (· == 5)
  | 0x14 => (s.clearEngines (· == 5)).unblank (· == 6)
  | 0x15 => (s.clearEngines fun e => e < 4 && e / 2 == inst / 2).unblank fun b => b == inst / 2 * 2 + 1 || b == inst / 2 * 2 + 2
  | 0x18 => (s.clearEngines (· == 6)).unblank (· == 7)
  | 0x1A => { s with canTx := s.canTx.filter fun p => p.1.1 != inst, canRxQ := s.canRxQ.filter fun r => r.ctrl != inst }
  | 0x1B => { s with ethTxQ := [] }
  | 0x1C => { s with snaps := [] }
  | 0x20 => s.forN 12 fun i t => t.set GI.glLost 1 i
  | _ => s

/-- A PU that has been reset: its counter, and PER and DBL_UPD of a traction unit, which are those of its SQ (R140, R145). A reset of SQ changes
neither (R7). -/
def blkCarrier (s : State) (source inst : Nat) : State :=
  if source != 0x12 then s else (s.on (decide (inst < 2)) (·.carCopy inst)).cntStart inst

/-- The block is reset (R446): its rows that BLK clears, its event, RST_CAUSE. -/
def blkDone (s : State) (forced : Bool) : State :=
  if !s.is SYS.blkOn then s
  else
    let source := s.get SYS.RST_STAT.BLK_SRC
    let inst := s.get SYS.RST_STAT.BLK_INST
    let b := blkRows source inst
    let s0 := ((s.on (source == 0x03) (·.actAbort)).on (source == 0x1A) (·.canStop inst)).on (source == 0x1B) (·.ethStop)
    let s1 := ((s0.dropCells b.1 fun r i => r.clr == .blk && b.2 r i).blkRest source inst).blkCarrier source inst
    let s2 := ((s1.set SYS.blkOn 0).set SYS.RST_STAT.BUSY 0).writeCause (s.get SYS.blkBy) 3 false
    let s3 := (s2.setb SYS.RST_CAUSE.UNCLEAN forced).on forced fun t => (t.set SYS.RST_STAT.UNCLEAN 1).incSat SYS.RST_CNT.UNCLEAN_CNT
    s3.event (if forced then .warning else .info) 0 0x00 0x0421 (source * 256 + inst) (ofBool forced)

/-! Requests by command -/

/-- Warm is permitted to a commanded reset (R445): SYS or CTL in MANUFACTURE or PROVISIONED, or with a D2 or D3 session open. -/
def warmOk (s : State) (lvl : Nat) : Bool :=
  (lvl == 1 || lvl == 2)
    && (s.get SEC.LC_STAT.STATE < 2 || (s.is SEC.DBG_STAT.OPEN && decide (2 ≤ s.get SEC.DBG_STAT.LEVEL)))

/-- The widest level a command source may ask for (R439): 4 none. -/
def widest (s : State) (src : Nat) : Nat :=
  if src = 7 then s.get SYS.RST_MAP.HOST
  else if src = 8 then s.get SYS.RST_MAP.NET
  else if !s.is SEC.DBG_STAT.OPEN then 4
  else if s.get SEC.DBG_STAT.LEVEL = 3 then 0 else if s.get SEC.DBG_STAT.LEVEL = 2 then 1 else 4

/-- The checks of a commanded reset (R439, R445, R446), before anything is reset; a level wider than permitted is logged. -/
def commandCheck (s : State) (lvl src : Nat) (warm : Bool) : Option Status :=
  if 3 < lvl then some .range
  else if lvl < s.widest src then some .refused
  else if src = 8 && lvl = 0 then some .refused
  else if warm && !s.warmOk lvl then some .refused
  else none

/-- ACCESS_REFUSED of a reset request, with RST_CMD's offset and the request laid out as RST_CMD holds it. -/
def resetRefused (s : State) (lvl source inst : Nat) (warm : Bool) : State :=
  s.accessRefused (SYS.RST_CMD.GO.addr 0 0) (2 ^ 31 + ofBool warm * 2 ^ 30 + lvl % 4 * 2 ^ 24 + source * 65536 + inst * 256)

/-- A commanded reset: `ack` gives the request its status before the reset begins (R262, R443). -/
def commandReset (s : State) (lvl source inst src : Nat) (warm : Bool) (ack : State → Status → State) : State :=
  match s.commandCheck lvl src warm with
  | some st => ack (s.on (st == .refused && decide (lvl < s.widest src)) (·.resetRefused lvl source inst warm)) st
  | none =>
    if lvl = 3 then
      let st := s.blkCheck source inst
      (ack s st).on (st == .ok) (·.blkBegin source inst src)
    else (ack s .ok).resetRequest lvl src warm

end State
end Sys2Proof.Machine
end

