-- ==== Sys2Proof/Machine/Rst.lean ====
section
/-!
DEFINITION. Reset, start-up and what survives (20), with the reset requests of ring 0 and the network (11, 13). A command that stands
for an event of start-up acts in its place in the order of R449 and has no effect out of it.
-/
namespace Sys2Proof.Machine
namespace State

/-- Every domain before `pd` in the plan has been stepped (R449). -/
def stepNext (s : State) (pd : Nat) : Bool :=
  bit (s.get SYS.plan) pd && (List.range 9).all fun k =>
    !bit (s.get SYS.plan) k || bit (s.get SYS.stepped) k == decide (k < pd)

/-- The source code and the instance of an engine's block (R446). -/
def engBlock (e : Nat) : Nat × Nat :=
  if e < 4 then (0x15, e) else if e = 4 then (0x13, 0) else if e = 5 then (0x14, 0) else (0x18, 0)

/-- The host-core watchdog fires (R441, R445, R455). -/
def hcFire (s : State) (core : Nat) : State :=
  ((s.event .warning core 0x00 0x0425 0 core).incSat SYS.RST_CNT.WD_CNT).resetRequest (s.get SYS.RST_MAP.WD_HC) 4
    (s.is SYS.RST_CTL.WD_WARM)

/-- A failed BIST is reported (R469): of a gate bank with the mask of its failing islands, of any other domain with the MISR, which is
kept. -/
def bistReport (s : State) (pd misr islands : Nat) : State :=
  if 7 ≤ pd then s.event .fault 0 0x1E 0x0436 pd islands
  else ((s.set BIST.SIG.SIG misr 0 0).set BIST.SIG.SIG (misr / 2 ^ 32) 0 1).event .fault 0 0x1E 0x0436 pd (misr % 2 ^ 32)

/-- A BIST of a start-up step fails (R452): a reset at the mapped level the first time; the second time the domain stays off, and with
PD1 or PD2 start-up ends. -/
def stepFails (s : State) (pd : Nat) : State :=
  if s.get SYS.bistTry pd = 0 then (s.set SYS.bistTry 1 pd).takeHold (s.get SYS.RST_MAP.BIST) 10 false
  else
    let s1 := ((s.set SYS.bistTry 2 pd).setBit SYS.RST_STAT.PD_FAIL (pd - 1) true).setBit SYS.stepped pd true
    (s1.event .fault 0 0x00 0x0424 (2 ^ pd) 2).on (decide (pd ≤ 2)) (·.set SYS.rstPhase 4)

end State

/-- POWER_ON (R38, R381, R400, R439, R444, R453, R454): PD0 or PD1 is powered; a fuse transition left half done completes. -/
def execPowerOn (s : State) : Out :=
  .next ((((s.lcFinish.set SYS.lowState 0).set SYS.boMask 0).set SYS.wakeEv 1).takeHold 0 0 false)

/-- RSTN (R15, R439, R443): COLD without a stage, held while the pin is asserted; in OFF nothing is powered, in STANDBY what is powered
is reset and nothing wakes (R421). -/
def execRstnAssert (s : State) : Out :=
  .next (if s.get SYS.lowState = 2 then s else (s.set SYS.rstnLow 1).takeHold 0 3 false)

/-- RSTN_RELEASE (R15, R439, R449). -/
def execRstnRelease (s : State) : Out :=
  let s1 := s.set SYS.rstnLow 0
  .next (if s1.get SYS.rstPhase = 3 && s1.get SYS.boMask % 128 == 0 && !s1.is SYS.lowState then
      (s1.set SYS.rstPhase 0).set SYS.startT s1.now
    else s1)

/-- RST_CMD (R439, R443, R445, R446, R456): a write of GO by the host, or through the debug access port. -/
def execRstCmd (level : BitVec 2) (warm : Bool) (source inst : BitVec 8) (debug : Bool) (s : State) : Out :=
  let s1 := (((s.set SYS.RST_CMD.LEVEL level.toNat).setb SYS.RST_CMD.WARM warm).set SYS.RST_CMD.SOURCE source.toNat).set
    SYS.RST_CMD.INST inst.toNat
  .next (if !s.pdOn 2 then s else s1.commandReset level.toNat source.toNat inst.toNat (if debug then 9 else 7) warm fun t st =>
    t.set SYS.RST_STAT.RESULT st.code)

/-- RESET on ring 0 (R262, R275, R439, R445, R446): the completion is written first. -/
def execRingReset (s : State) : Out :=
  .next (match s.running 0 7 with
    | none => s
    | some d => s.commandReset (d.byte 0) (d.byte 1) (d.byte 2) 7 (d.byte 3 % 2 == 1) fun t st => t.complete 0 st 0)

/-- NET_RESET (R308, R439): the command bytes are those of ring 0. -/
def execNetReset (s : State) : Out :=
  .next (match s.command true 7 with
    | none => s
    | some a => s.commandReset (a % 256) (a / 256 % 256) (a / 65536 % 256) 8 false fun t st => t.commandDone true st 0)

/-- PRE_RESET_END (R443, R444, R448, R454, R455). -/
def execPreResetEnd (s : State) : Out :=
  .next (if s.get SYS.rstPhase = 2 && decide (s.get SYS.stageEnd ≤ s.now) then s.takeHold (s.get SYS.rstLvl) (s.get SYS.rstSrc) (s.is SYS.rstWarm) else s)

/-- BLK_RESET (R7, R446): the block is idle within BLK_TMO. -/
def execBlkReset (s : State) : Out := .next (s.blkDone false)

/-- BLK_TIMEOUT (R446): the block is not idle within BLK_TMO. -/
def execBlkTimeout (s : State) : Out :=
  .next (if s.now < s.get SYS.blkT + 400 * s.get SYS.RST_CTL.BLK_TMO then s else s.blkDone true)

/-- WD_KICK (R441): 0x5A5A, then 0xA5A5; out of sequence it fires at once. Halted, the watchdog is paused. -/
def execWdKick (core : Fin 2) (key : BitVec 16) (s : State) : Out :=
  let half := s.is SYS.wdSeq core
  .next (if !s.pdOn 2 then s else if key = 0x5A5A && !half then s.set SYS.wdSeq 1 core
    else if key = 0xA5A5 && half then (s.set SYS.wdSeq 0 core).set SYS.wdT s.now core
    else if s.is SEC.DBG_STAT.HALT then s
    else s.hcFire core)

/-- HC_WATCHDOG (R441): a core has not completed a kick within WD_TMO; a core in reset kicks nothing and is not watched. -/
def execHcWatchdog (core : Fin 2) (s : State) : Out :=
  .next (if s.is SEC.DBG_STAT.HALT || !s.is SYS.fwRun || decide (s.now < s.get SYS.wdT core + 400000 * s.get SYS.WD_CFG.WD_TMO) then s
    else s.hcFire core)

/-- ENGINE_WATCHDOG (R441): WD_ENG consecutive periods with OVERRUN, or 1 ms stopped on ILLEGAL; a faulted rope pair is exempt. -/
def execEngineWatchdog (engine : Fin 7) (stopped : Bool) (s : State) : Out :=
  let e : Nat := engine
  let due := if stopped then s.is CE.stop e && decide (s.get CE.stopT e + 400000 ≤ s.now) else decide (s.get SYS.WD_CFG.WD_ENG ≤ s.get CE.ovRun e)
  .next (if !due || s.is SEC.DBG_STAT.HALT || (e < 4 && s.is CE.RP_STAT.RP_FAULT (2 * (e / 2))) then s
    else
      let b := State.engBlock e
      let s1 := (s.event .warning e 0x00 0x0425 1 (b.1 * 256 + b.2)).incSat SYS.RST_CNT.WD_CNT
      if s1.get SYS.RST_MAP.WD_ENG = 3 then s1.on (s1.blkCheck b.1 b.2 == .ok) (·.blkBegin b.1 b.2 5)
      else s1.resetRequest (s1.get SYS.RST_MAP.WD_ENG) 5 false)

/-- BL_RST (R439, R442): CI_LOST has stood for BL_RST_MS, or the bind comparison of a channel has failed three times in a row. -/
def execBlRst (bind : Option (Fin 8)) (s : State) : Out :=
  let due := match bind with
    | none => s.is BL.STATUS.CI_LOST && decide (s.get BL.ciT + 400000 * s.get SYS.RST_CTL.BL_RST_MS ≤ s.now)
    | some ch => decide (3 ≤ s.get ACT.bindRun ch)
  .next (if due then s.resetRequest (s.get SYS.RST_MAP.BELAY) 6 false else s)

/-- TRIM_LOAD (R447, R453): the PD0 loader of a start after a COLD reset; a load that is interrupted leaves its START mark. -/
def execTrimLoad (copyA copyB whole : Bool) (s : State) : Out :=
  .next (if s.get SYS.rstPhase ≠ 0 || s.is SYS.trimOk || s.is SYS.lowState then s
    else
      let cut := s.is SYS.bootMark
      let s1 := (s.on cut (·.incSat SYS.TRIM_STAT.INT_CNT)).set SYS.bootMark 1
      let s2 := s1.on cut (·.set SYS.trimInt (if copyA then 1 else 2))
      if !whole then s2
      else if copyA || copyB then
        (((((s2.set SYS.TRIM_STAT.TRIM_FAIL 0).set SYS.TRIM_STAT.CRC_FAIL (if copyA then 0 else 1)).setb SYS.TRIM_STAT.COPY
          (!copyA)).set SYS.bootMark 0).set SYS.trimOk 1).pdSet 0 true
      else
        (((s2.set SYS.TRIM_STAT.TRIM_FAIL 1).set SYS.TRIM_STAT.CRC_FAIL 3).set SYS.rstPhase 4).safetyLog 0 0x021E 3 0)

/-- DOMAIN_STEP (R413, R449, R450, R452, R465 to R469): rise, BIST and release of the next domain of the plan; those after PD2 wait for
the firmware. -/
def execDomainStep (pd : Fin 9) (pass : Bool) (misr : BitVec 64) (islands : BitVec 6) (s : State) : Out :=
  let d : Nat := pd
  .next (if s.get SYS.rstPhase ≠ 0 || s.is SYS.lowState || s.getBit SYS.boMask d || !s.stepNext d || !s.is SYS.trimOk
      || (2 < d && !s.is SYS.fwRun) || (2 ≤ d && s.is SYS.pllDown) then s
    else if !pass then (s.bistReport d misr.toNat islands.toNat).stepFails d
    else
      let s0 := (s.pdSet d true).on (decide (3 ≤ d) || d == 2 && s.is SYS.rstWarm) (·.bistSave d)
      let s1 := (s0.setBit SYS.stepped d true).on (1 ≤ d) (·.setBit BIST.STAT.PASS (d - 1) true)
      if d = 2 then (s1.pdSet 0 true).set SYS.RST_STAT.BUSY 1
      else s1.on (2 < d) (·.event .info 0 0x00 0x0401 (2 ^ d) 0))

/-- BELAY_START (R299, R326, R451): the Belay island loads and checks its configuration store, sets CFG_VALID, and takes the filtered
XTRIP for the first time; the resistor starts at T_AMB + DT_INIT (R342). -/
def execBelayStart (storeGood : Bool) (s : State) : Out :=
  .next (if !s.getBit SYS.PWR_STAT.PD_ON 1 || s.is BL.STATUS.CFG_VALID || !storeGood then s
    else
      let s1 := ((s.genesis.rollForward.set BL.STATUS.CFG_VALID 1).set BL.LED_RES.T_R (10 * (s.tAmb + s.dtInit))).set BL.tRes
        (1000000 * (s.tAmb + s.dtInit))
      (if s1.is BL.xtripPin then s1.xtripAct else s1.set BL.STATUS.XTRIP_ACT 0).lines.ssout)

/-- SELFTEST (R451). -/
def execBlSelftest (pass : Bool) (s : State) : Out :=
  .next (if s.is BL.STATUS.CFG_VALID && pass then (s.set BL.STATUS.SELFTEST_OK 1).ssout else s)

/-- READY (R301, R449, R451, R455): the trim verified, every domain of the plan stepped, the firmware running, CFG_VALID and
SELFTEST_OK, the heartbeat standing, a slow round completed. -/
def execStartReady (s : State) : Out :=
  .next (if s.get SYS.rstPhase ≠ 0 || !s.is SYS.trimOk || s.get SYS.stepped != s.get SYS.plan || !s.is SYS.fwRun
      || !s.is BL.STATUS.CFG_VALID || !s.is BL.STATUS.SELFTEST_OK || s.is BL.STATUS.CI_LOST || !s.is HK.rounded then s
    else
      let s1 := ((s.set SYS.RST_STAT.READY 1).set SYS.RST_STAT.BUSY 0).set SYS.rstPhase 1
      let s2 := (s1.set SYS.PWR_CTL.PD_EN (s1.get SYS.plan / 8)).forN 9 fun pd t => t.set SYS.bistTry 0 pd
      (s2.event .info 0 0x00 0x0422 (quotN (s2.now - s2.get SYS.startT) 40000) (s2.get SYS.plan)).ssout)

end Sys2Proof.Machine
end

