-- ==== Sys2Proof/Machine/Pwr.lean ====
section
/-!
DEFINITION. Supplies, power domains and power states (18).
-/
namespace Sys2Proof.Machine
namespace State

/-- PWR_STAT.STATE with its event PWR_STATE (R425). -/
def pwrState (s : State) (st : Nat) : State :=
  (s.set SYS.PWR_STAT.STATE st).event .info 0 0x00 0x0400 (s.get SYS.PWR_STAT.STATE) st

/-- The enabled traction channels. -/
def tractionOn (s : State) : List Nat := [0, 1, 7].filter fun ch => s.is ACT.chEn ch

/-- An enabled traction axis's offered speed is at or above UP, with AUTO_UNPARK (R418). -/
def unparkSpeed (s : State) : Bool :=
  s.is SYS.PWR_CTL.AUTO_UNPARK && s.tractionOn.any fun ch => s.travUp (chAx ch) (s.geti POS.offSpd (chAx ch))

/-- PARKED may be entered (R415): modes 1 CATCH, 3 TRAV_UP, 5 TRAV_DN, 6 STOPPING and 7 SAFE refuse it. -/
def parkOk (s : State) : Bool :=
  s.tractionOn.all (fun ch =>
    let a := chAx ch
    let m := s.get SQ.STATUS.MODE a
    !(m == 1 || m == 3 || m == 5 || m == 6 || m == 7) && s.travDn a (s.geti POS.offSpd a))
    && !s.is BL.wind 0 && !s.is BL.wind 1

/-- STANDBY or OFF may be entered (R415). -/
def lowOk (s : State) : Bool :=
  !s.anyEnabled && !s.disRunning && !s.is SEC.DBG_STAT.HALT && !s.is SEC.LC_STAT.LC_PEND && s.get ACT.job != 2
    && s.get ACT.jobStep != 3 && !s.is SEC.finalFw && !s.is SEC.finalCal

/-- The debug session closes at the entry to a low state (R399): D1 stays open in STANDBY. -/
def lowDebug (s : State) (off : Bool) : State :=
  s.on (off || decide (2 ≤ s.get SEC.DBG_STAT.LEVEL)) fun t =>
    ((t.set SEC.DBG_STAT.OPEN 0).set SEC.DBG_STAT.ROLE 0).set SEC.DBG_STAT.LEVEL 0

/-- The sessions on CAN and Ethernet close (R419). -/
def netSessions (s : State) : State :=
  s.forN 16 fun k t => t.on (t.is BL.RS_STAT.STATE k && t.is BL.RS_CFG.CHAN k) fun u =>
    (u.set BL.RS_STAT.STATE 0 k).safetyLog k 0x0211 k 0

/-- Entry to STANDBY or OFF (R325, R386, R399, R419, R420): sessions close, the domains fall, PD1 and PD0 last and only for OFF. -/
def enterLow (s : State) (off : Bool) : State :=
  let s1 := (((s.sesClose.lowDebug off).netSessions).set BL.STATUS.SSOUT 0).set SEC.autoCom (s.get SEC.FW_CMD.AUTO_COMMIT)
  let s2 := [6, 5, 7, 8, 4, 3, 2].foldl (fun t pd => t.fall pd) s1
  ((if off then (s2.fall 1).fall 0 else s2).set SYS.lowState (if off then 2 else 1)).set SYS.lowT s.now

/-- A requested state (R415): the status of a request that ends at once, none where a transition begins. -/
def powerCheck (s : State) (tgt : Nat) : Option Status :=
  let st := s.get SYS.PWR_STAT.STATE
  if 3 < tgt then some .range
  else if st = 1 || st = 3 || st = 4 then some .busy
  else if (tgt = 0 && st = 0) || (tgt = 1 && st = 2) then some .ok
  else if tgt = 1 && !s.parkOk then some .state
  else if 2 ≤ tgt && !s.lowOk then some .state
  else none

/-- A transition begins (R416, R418, R419): `ack` completes a request for STANDBY or OFF before it. -/
def powerBegin (s : State) (tgt by' : Nat) (ack : State → State) : State :=
  if tgt = 1 then ((s.pwrState 1).set SYS.parkT s.now).set SYS.pwrBy by'
  else if tgt = 0 then (s.unparkBegin 3).set SYS.pwrBy by'
  else (ack s).enterLow (tgt == 3)

/-- The request of the transition that has ended completes. -/
def powerDone (s : State) : State :=
  let s1 := (s.set SYS.pwrBy 0).set SYS.PWR_CMD.GO 0
  s1.on (s.get SYS.pwrBy == 2 && (s1.running 0 6).isSome) (·.complete 0 .ok 0)

/-- Wake from STANDBY (R421, R422, R450): PD1 goes on from retention, every domain that fell rises in the start-up. -/
def wakeStandby (s : State) (cause : Nat) : State :=
  let b := bootMask (s.get SYS.START_CFG.PD_BOOT)
  let banks := (if bit b 3 && bit b 7 then 2 ^ 7 else 0) + (if bit b 4 && bit b 8 then 2 ^ 8 else 0)
  let s1 := (((s.set SYS.lowState 0).set SYS.WAKE_STAT.CAUSE cause).set SYS.wakeEv 1).set SYS.rstEv 0
  let s2 := ((s1.pdSet 0 true).on (s1.is BL.STATUS.CFG_VALID) (·.pdSet 1 true)).on (s1.is DLI.powered) (·.pdSet 9 true)
  let s3 := s2.forN 9 fun pd t => t.set SYS.bistTry 0 pd
  ((s3.set SYS.rstLvl 1).on (decide (2 ≤ s3.get SEC.LC_STAT.STATE)) (·.set SYS.RST_CTL.LOCK 1)).startUp 1 banks

/-- A PD_EN value keeps every dependency (R412, R424): a bank needs its axis domain, a domain that serves an enabled channel stays on,
PD6 stays on while an enabled slot names CAN or Ethernet, no transition runs. -/
def pdEnOk (s : State) (v : Nat) : Bool :=
  let st := s.get SYS.PWR_STAT.STATE
  let keeps (pd : Nat) := bit v (pd - 3)
  (st == 0 || st == 2) && (!keeps 7 || keeps 3) && (!keeps 8 || keeps 4)
    && (List.range 8).all (fun ch => !s.is ACT.chEn ch || (chDomains ch).all keeps)
    && (keeps 6 || (List.range 16).all fun k => !s.is BL.RS_CFG.EN k || s.get BL.RS_CFG.CHAN k == 0)

/-- Domains below their brown-out threshold (R406). -/
def boDomains (group : Nat) : Nat := if group = 0 then 0x7C else if group = 1 then 0x180 else 0x1FF

/-- A brown-out is recorded in PD0 (R425). -/
def boRecord (s : State) (mask : Nat) : State :=
  (((s.incSat SYS.SUP_CNT.BO_CNT).set SYS.SUP_CNT.BO_LAST mask).set SYS.boEv 1)

/-- The domains that a brown-out holds down. -/
def boHold (s : State) (mask : Nat) : State := s.set SYS.boMask (s.get SYS.boMask ||| mask)

end State

/-- POWER on ring 0 (R262, R415): the completion of STANDBY and OFF is written first, that of the others when the state is reached. -/
def execRingPower (s : State) : Out :=
  .next (match s.running 0 6 with
    | none => s
    | some d => match s.powerCheck (d.byte 0) with
      | some st => (s.set SYS.PWR_STAT.RESULT st.code).complete 0 st 0
      | none => (s.set SYS.PWR_STAT.RESULT 0).powerBegin (d.byte 0) 2 fun t => t.complete 0 .ok 0)

/-- PWR_CMD (R415, R416, R419): a write of TARGET and GO; GO reads 1 until the transition completes. -/
def execPwrCmd (target : BitVec 2) (s : State) : Out :=
  let s1 := s.set SYS.PWR_CMD.TARGET target.toNat
  .next (if !s.pdOn 2 then s else match s1.powerCheck target.toNat with
    | some st => s1.set SYS.PWR_STAT.RESULT st.code
    | none => ((s1.set SYS.PWR_STAT.RESULT 0).set SYS.PWR_CMD.GO 1).powerBegin target.toNat 1 fun t => t)

/-- PARK_RAMP_END (R416, R424): the torque limit of every enabled traction axis has reached zero over its RAMP_US; an axis that went to
SAFE stays there. -/
def execParkRampEnd (s : State) : Out :=
  let due := s.tractionOn.all fun ch => decide (s.get SYS.parkT + 400 * s.get SQ.OBS_CFG.RAMP_US (chAx ch) ≤ s.now)
  .next (if s.get SYS.PWR_STAT.STATE ≠ 1 || !due then s
    else
      let s1 := s.tractionOn.foldl (fun t ch =>
        if t.get SQ.STATUS.MODE (chAx ch) = 7 then t
        else
          let u := (chIslands ch).foldl (fun v i => v.gateSoftOff i 31) t
          let v := (chAxes ch).foldl (fun w a => w.set PU.STATUS.DETACHED 1 a) u
          (v.set OB.INJ_STAT.INJ_ACTIVE 0 (chAx ch)).setMode (chAx ch) 0) s
      let s2 := ((s1.forN 3 fun k t => t.axStop k).pwrState 2).powerDone
      if s2.disRunning && (s2.wdAxis 0 || s2.wdAxis 1) then s2.unparkBegin 3
      else s2.on s2.unparkSpeed (·.unparkBegin 0x100))

/-- UNPARK (R418): RELEASE to the islands of every enabled traction axis and its catch; the aux channels start again on their
setpoints (R225). -/
def execUnparkDone (s : State) : Out :=
  .next (if s.get SYS.PWR_STAT.STATE ≠ 3 then s
    else
      let s1 := s.tractionOn.foldl (fun t ch =>
        if t.get SQ.STATUS.MODE (chAx ch) = 7 then t
        else ((chIslands ch).foldl (fun u i => u.gateWrite i 0x1C0 1) t).catchStart (chAx ch) false) s
      (s1.pwrState 0).powerDone)

/-- AUTO_UNPARK (R418, R424): during PARKING the entry completes first. -/
def execAutoUnpark (s : State) : Out := .next (s.on s.unparkSpeed (·.unparkBegin 0x100))

/-- PD_EN (R3, R411, R412, R424, R426). -/
def execPdEn (value : BitVec 6) (s : State) : Out :=
  let v := value.toNat
  .next (if !s.pdOn 2 then s else if s.is SYS.PWR_CTL.LOCK then s.accessRefused (SYS.PWR_CTL.PD_EN.addr 0 0) (v * 8)
    else if !s.pdEnOk v then s.set SYS.PWR_CTL.CFG_REJECT 1
    else
      let off := [6, 5, 7, 8, 4, 3].filter fun pd => s.getBit SYS.PWR_STAT.PD_ON pd && !bit v (pd - 3)
      let s1 := off.foldl (fun t pd => t.fall pd) (s.set SYS.PWR_CTL.PD_EN v)
      s1.on (!off.isEmpty) (·.event .info 0 0x00 0x0401 0 ((off.map fun pd => 2 ^ pd).sum)))

/-- DOMAIN_ON (R410, R412, R413): a domain that PD_EN enables completes its rise in RUN; a bank only while its axis domain is on. -/
def execDomainOn (pd : Fin 9) (s : State) : Out :=
  let d : Nat := pd
  let on (k : Nat) := s.getBit SYS.PWR_STAT.PD_ON k
  .next (if d < 3 || s.get SYS.rstPhase ≠ 1 || !on 2 || on d || !s.getBit SYS.PWR_CTL.PD_EN (d - 3) || s.getBit SYS.boMask d
      || s.getBit SYS.RST_STAT.PD_FAIL (d - 1) || (7 ≤ d && !on (d - 4)) then s
    else (s.pdSet d true).event .info 0 0x00 0x0401 (2 ^ d) 0)

/-- VLV_LOW (R405, R425): a reading in the window only updates VLV. -/
def execVlvLow (vlv : BitVec 12) (s : State) : Out :=
  let s1 := s.set SYS.SUP_STAT.VLV vlv.toNat
  .next (s1.on (decide (vlv.toNat < 900) && !s.is SYS.SUP_STAT.VLV_LOW) fun t =>
    (t.set SYS.SUP_STAT.VLV_LOW 1).event .warning 0 0x00 0x0402 vlv.toNat 0)

/-- VLV_HIGH (R405, R425). -/
def execVlvHigh (vlv : BitVec 12) (s : State) : Out :=
  let s1 := s.set SYS.SUP_STAT.VLV vlv.toNat
  .next (s1.on (decide (1600 < vlv.toNat) && !s.is SYS.SUP_STAT.VLV_HIGH) fun t =>
    (t.set SYS.SUP_STAT.VLV_HIGH 1).event .warning 0 0x00 0x0403 vlv.toNat 0)

/-- BROWNOUT (R297, R406, R412, R424, R425, R439, R453): group 0 PD2 to PD6, 1 the gate banks, 2 PD0 and PD1 with all the rest. -/
def execBrownout (group : Fin 3) (s : State) : Out :=
  let on := s.get SYS.PWR_STAT.PD_ON &&& State.boDomains group
  .next (if group = 2 then
      ((s.boHold 0x1FF).set SYS.lowState (if s.is SYS.lowState then 2 else 0)).takeHold 0 1 false
    else if s.is SYS.lowState || on == 0 then s
    else if group = 1 then (((s.boRecord on).boHold 0x180).fall 7).fall 8
    else
      let s1 := (s.boRecord on).boHold 0x7C
      let lvl := s.get SYS.RST_MAP.BO_CTL
      let p := s.get SYS.rstPhase
      if (p = 0 || p = 2 || p = 3) && decide (s.get SYS.rstLvl < lvl) then
        (s1.incSat SYS.RST_CNT.MERGED).takeHold (s.get SYS.rstLvl) (s.get SYS.rstSrc) false
      else s1.takeHold lvl 2 false)

/-- BROWNOUT_RECOVER (R406): the group's domains rise again, the control island and PD0 by a start-up. -/
def execBrownoutRecover (group : Fin 3) (s : State) : Out :=
  let s1 := s.set SYS.boMask (s.get SYS.boMask - (s.get SYS.boMask &&& (if group = 2 then 3 else State.boDomains group)))
  .next (if s1.get SYS.rstPhase = 3 && s1.get SYS.boMask % 128 == 0 && !s1.is SYS.rstnLow && !s1.is SYS.lowState then
      (s1.set SYS.rstPhase 0).set SYS.startT s1.now
    else if group = 1 && s1.get SYS.rstPhase = 1 then
      let up := [7, 8].filter fun pd => s1.getBit SYS.PWR_CTL.PD_EN (pd - 3) && s1.getBit SYS.PWR_STAT.PD_ON (pd - 4)
        && !s1.getBit SYS.PWR_STAT.PD_ON pd
      let s2 := up.foldl (fun t pd => t.pdSet pd true) s1
      s2.on (!up.isEmpty) (·.event .info 0 0x00 0x0401 ((up.map fun pd => 2 ^ pd).sum) 0)
    else s1)

/-- WAKE (R15, R421, R422): from STANDBY, or from OFF, which powers PD0 and PD1. -/
def execWakePin (s : State) : Out :=
  .next (if s.get SYS.lowState = 1 then s.wakeStandby 2
    else if s.get SYS.lowState = 2 && s.get SYS.boMask % 128 == 0 then
      (((s.lcFinish.set SYS.lowState 0).set SYS.wakeEv 1).takeHold 0 0 false).set SYS.WAKE_STAT.CAUSE 1
    else s)

/-- WAKE_ALARM (R421): ALARM seconds after entry to STANDBY; 0 disables it. -/
def execWakeAlarm (s : State) : Out :=
  .next (if s.get SYS.lowState = 1 && s.is SYS.WAKE_CFG.ALARM
      && decide (s.get SYS.lowT + 400000000 * s.get SYS.WAKE_CFG.ALARM ≤ s.now) then s.wakeStandby 3 else s)

/-- PWR_WAKE_LOW (R421, R425). -/
def execPwrWakeLow (s : State) : Out :=
  .next (if s.is SYS.lowState then s else s.event .info 0 0x00 0x0406 0 0)

/-- DLI_POWER_ON (R30, R409, R454): V_dc rises through 40 V; the DLI starts with OV_HW 950 V. -/
def execDliPowerOn (s : State) : Out :=
  .next (if s.is DLI.powered then s
    else
      let s1 := ((s.set DLI.powered 1).set DLI.OV_CFG.OV_HW 950).pdSet 9 true
      ((s1.set DLI.stepLen 0).set DLI.stepQ 0).set DLI.bcast 0)

end Sys2Proof.Machine
end

