-- ==== Sys2Proof/Machine/Sec.lean ====
section
/-!
DEFINITION. Life cycle, roles, keys, firmware, calibration and the debug port (17), with the bulk rings 20 and 21 (11) that carry
images. What a cryptographic check finds comes with the command; the rest of a check is computed here.
-/
namespace Sys2Proof.Machine
namespace State

/-- A role's permission for what only some roles may do (R387): VENDOR holds every one in MANUFACTURE. -/
def roleIn (s : State) (r : Nat) (roles : List Nat) : Bool :=
  if r = 1 then s.get SEC.LC_STAT.STATE == 0 else roles.contains r

/-- The permission of the role that a register access comes with. -/
def roleMay (s : State) (roles : List Nat) : Bool := s.roleIn s.linkRole roles

/-! Sessions -/

/-- A debug session closes (R160, R161, R400): a freeze ends and its bridge turns off, every halt is released. -/
def dbgClose (s : State) (cause : Nat) : State :=
  if !s.is SEC.DBG_STAT.OPEN then s
  else
    let s1 := (s.secEvent .info 0x0304 (s.get SEC.DBG_STAT.LEVEL) cause).forN 5 fun pu t => t.frzEnd pu
    (((s1.set SEC.DBG_STAT.OPEN 0).set SEC.DBG_STAT.ROLE 0).set SEC.DBG_STAT.LEVEL 0).engRelease

/-- A debug level is open to a role in the life-cycle state (R397). -/
def dbgAllowed (s : State) (role level : Nat) : Bool :=
  match s.get SEC.LC_STAT.STATE, level with
  | 0, 1 => role == 1
  | 0, 2 => role == 1
  | 0, 3 => role == 1
  | 1, 1 => role == 1 || role == 2
  | 1, 2 => role == 1 || role == 2
  | 2, 1 => (role == 2 || role == 4) && !s.is SEC.FUSE.DBG_PROD_DIS
  | 3, 1 => role == 2 || role == 4
  | 3, 2 => role == 2
  | 4, 1 => role == 1
  | _, _ => false

/-- The role's key is present (R384): VENDOR's is that of the firmware image in force. -/
def roleKeyOk (s : State) (role : Nat) : Bool :=
  if role = 1 then !s.is SEC.FW_STAT.BOOT_FAIL else s.getBit SEC.KEY_STAT.ROLE_KEYS (role - 2)

/-- What refuses a role beside its signature (R384, R397): 3 NOT_PERMITTED, 2 NO_KEY, 6 STATE with a debug session open. -/
def authBar (s : State) (debug : Bool) (role level : Nat) : Option Nat :=
  let lc := s.get SEC.LC_STAT.STATE
  if debug && s.is SEC.DBG_STAT.OPEN then some 6
  else if (if debug then !s.dbgAllowed role level else role == 1 && (lc == 2 || lc == 3)) then some 3
  else if !s.roleKeyOk role then some 2
  else none

/-- The lockout after `n` consecutive failures in s (R385): 60 after the third, doubled up to 61 440. -/
def lockSecs (n : Nat) : Nat := min (60 * 2 ^ (n - 3)) 61440

/-- A lockout starts (R385); LOCK_LEFT is in units of 16 s, rounded up. -/
def lockStart (s : State) (n : Nat) : State :=
  ((s.set SEC.AUTH_STAT.LOCK_LEFT ((lockSecs n + 15) / 16)).set SEC.lockRest (400000000 * lockSecs n)).set SEC.lockT s.now

/-- The event AUTH of a VERIFY (R403). -/
def authEvent (s : State) (debug : Bool) (role result : Nat) : State :=
  (s.set SEC.AUTH_STAT.RESULT result).secEvent (if result = 0 then .info else .warning) 0x0302 (ofBool debug * 256 + role) result

/-- A VERIFY that counts as a failure (R384, R385). -/
def authFail (s : State) (debug : Bool) (role result : Nat) : State :=
  let s1 := s.incSat SEC.AUTH_STAT.FAILS
  (s1.on (decide (3 ≤ s1.get SEC.AUTH_STAT.FAILS)) fun t => t.lockStart (t.get SEC.AUTH_STAT.FAILS)).authEvent debug role result

/-- A session opens (R384). -/
def authOpen (s : State) (debug : Bool) (role level : Nat) : State :=
  let s1 := (s.set SEC.AUTH_STAT.FAILS 0).authEvent debug role 0
  if debug then
    (((s1.set SEC.DBG_STAT.OPEN 1).set SEC.DBG_STAT.ROLE role).set SEC.DBG_STAT.LEVEL level).secEvent .warning 0x0303 level role
  else
    (((s1.set SEC.hostRole role).set SEC.ROLE.OPEN 1).set SEC.ROLE.ROLE role).set SEC.ROLE.IDLE_LEFT (s1.get SEC.ROLE_CFG.ROLE_TMO)
      |>.set SEC.idleT s1.now

/-- The word of AUTH_CMD. -/
def authWord (role level op : Nat) : Nat := 2 ^ 31 + role * 256 + level * 16 + op

/-! Keys -/

/-- A KEY_CMD operation (R387, R404): ignored with ACCESS_REFUSED where the role may not; STATE in RETIRED (R382); `f` answers the
result and the state; KEY_WIN is zeroed after each operation, and one that succeeds raises KEY. -/
def keyOp (s : State) (op slot : Nat) (may : Bool) (f : State → Nat × State) : State :=
  if !may then s.accessRefused (SEC.KEY_CMD.GO.addr 0 0) (2 ^ 31 + slot * 256 + op)
  else
    let s0 := (s.set SEC.KEY_CMD.OP op).set SEC.KEY_CMD.SLOT slot
    let r := if s0.get SEC.LC_STAT.STATE = 4 then (6, s0) else f s0
    let s1 := (r.2.set SEC.KEY_STAT.RESULT r.1).forN 64 fun k t => t.set SEC.KEY_WIN.DATA 0 k
    s1.on (r.1 == 0) (·.secEvent .info 0x0309 op slot)

/-- `n` words of KEY_WIN from word `k`, the first the least significant. -/
def keyWords (s : State) (k n : Nat) : Nat := ((List.range n).map fun i => s.get SEC.KEY_WIN.DATA (k + i) * 2 ^ (32 * i)).sum

/-! Life cycle -/

/-- The roles that may ask for a transition (R380); none where the table does not list the pair. -/
def lcRoles (old new : Nat) : List Nat :=
  match old, new with
  | 0, 1 => [1]
  | 1, 2 => [2]
  | 2, 3 => [4, 2]
  | 3, 2 => [4, 2]
  | 1, 4 => [1, 2]
  | 2, 4 => [2]
  | 3, 4 => [2]
  | _, _ => []

/-- The condition of a transition (R380, R402): AQ and an installed integrator key for PRODUCTION, the factory's fuses and the log's
GENESIS for PROVISIONED, no channel enabled, no calibration load and no table-port lock running. -/
def lcReady (s : State) (new : Nat) (fused : Bool) : Bool :=
  s.get ACT.jobStep != 3 && !s.is SEC.CAL_STAT.ZEROING
    && (if new = 1 then fused && s.is BL.genesis else !s.anyEnabled)
    && (s.get SEC.LC_STAT.STATE != 1 || new != 2 || (!Config.orderingCode && s.is SEC.CAL_STAT.KEY_OK && s.getBit SEC.KEY_STAT.ROLE_KEYS 0))

/-- The sessions that a transition closes (R380). -/
def lcClose (s : State) : State := ((s.closeHostRole).dbgClose 4).sesClose

/-- The keys are erased on entry to RETIRED, then the calibration RAM is zeroed (R382). -/
def lcErase (s : State) : State :=
  (((s.set SEC.CAL_STAT.KEY_OK 0).set SEC.KEY_STAT.ROLE_KEYS 0).set SEC.kInt 0).forN 3 (fun k t => t.set SEC.roleKey 0 k) |>.calZero

/-! Firmware and calibration images -/

/-- A little-endian number in an image. -/
def imgNat (img : List Byte) (off n : Nat) : Nat := leNat (((img.drop off).take n).map (·.toNat))

/-- The first check of R388 that an image fails, 0 none: 1 format, 2 ordering code, 3 key, 4 signature, 5 rollback. -/
def fwReason (s : State) (img : List Byte) (keyOk sigOk : Bool) : Nat :=
  let body := imgNat img 0x0C 4
  if img.length < 216 || imgNat img 0 4 != 0x4E564657 || imgNat img 4 2 != 1 || img.length != 216 + body || 4 * 2 ^ 20 < body
      || 64 ≤ imgNat img 7 1 then 1
  else if imgNat img 6 1 ≠ (if Config.orderingCode then 2 else 1) then 2
  else if !keyOk then 3
  else if !sigOk then 4
  else if imgNat img 7 1 < s.get SEC.FW_STAT.FW_SVN then 5
  else 0

/-- The first check of R392 that a calibration image fails, 0 none: 1 format, 2 key, 3 length, 4 rollback, 5 tag or directory. -/
def calReason (s : State) (img : List Byte) (keyIdOk tagOk : Bool) : Nat :=
  let body := imgNat img 0x1C 4
  if img.length < 80 || imgNat img 0 4 != 0x4E564341 || imgNat img 4 2 != 1 || 64 ≤ imgNat img 6 1 then 1
  else if !s.is SEC.CAL_STAT.KEY_OK || !keyIdOk then 2
  else if img.length != 80 + body || body % 8 != 0 || body < 2048 || 2097152 < body then 3
  else if imgNat img 6 1 < s.get SEC.CAL_STAT.CAL_SVN then 4
  else if !tagOk then 5
  else 0

/-- The event CAL_LOAD (R403): 0 a load, 1 a FINAL; the result code of a failure is not stated (log entry 8). -/
def calEvent (s : State) (final : Bool) (reason : Nat) : State :=
  s.secEvent (if reason = 0 then .info else .fault) 0x0306
    (ofBool final + 256 * (if reason = 0 then 0 else Config.free 403 [reason] % 256)) (s.get SEC.CAL_VER.VERSION)

/-! Boot -/

/-- The events that wait for PD2 and its firmware (R425, R447, R455). -/
def bootEvents (s : State) : State :=
  let s1 := s.on (s.is SYS.rstEv) fun t => (t.set SYS.rstEv 0).event (if warnSource (t.get SYS.rstSrc) then .warning else .info) 0 0x00
    0x0420 t.causeReg t.cntReg
  let s2 := s1.on (s1.is SYS.trimInt) fun t => (t.event .warning 0 0x00 0x0423 (t.get SYS.TRIM_STAT.INT_CNT)
    (t.get SYS.TRIM_STAT.COPY)).set SYS.trimInt 0
  let s3 := s2.on (s2.is SYS.boEv) fun t => (t.event .warning 0 0x00 0x0404 (t.get SYS.SUP_CNT.BO_LAST)
    (t.get SYS.SUP_CNT.BO_CNT)).set SYS.boEv 0
  s3.on (s3.is SYS.wakeEv) fun t => (t.event .info 0 0x00 0x0405 (t.get SYS.WAKE_STAT.CAUSE) 0).set SYS.wakeEv 0

/-- The verdict on the image in a slot at boot: the cryptographic checks' reason, then rollback (R388). -/
def slotReason (s : State) (slot reason : Nat) : Nat :=
  if reason ≠ 0 then reason else if s.get SEC.slotSvn slot < s.get SEC.FW_STAT.FW_SVN then 5 else 0

/-- BOOT_REJECT for a slot (R389). -/
def bootReject (s : State) (slot reason : Nat) : State := s.on (reason != 0) (·.secEvent .fault 0x0301 slot reason)

/-- The image in a slot runs (R389, R390); the first boot of one commits its SVN with AUTO_COMMIT. -/
def bootSlot (s : State) (slot : Nat) (first : Bool) : State :=
  let svn := s.get SEC.slotSvn slot
  let s1 := (((s.set SEC.fwSlot slot).set SEC.FW_STAT.SLOT slot).set SEC.FW_STAT.IMG_SVN svn).set SYS.fwRun 1
    |>.forN 2 fun c t => t.set SYS.wdT t.now c
  let s2 := s1.on (first && s1.is SEC.autoCom) (·.set SEC.FW_STAT.FW_SVN (max svn (s1.get SEC.FW_STAT.FW_SVN)))
  let s3 := s2.on (s2.is SEC.CAL_STAT.IN_FORCE) fun t =>
    t.set SEC.CAL_STAT.CAL_SVN (max (t.get SEC.CAL_STAT.IMG_SVN) (t.get SEC.CAL_STAT.CAL_SVN))
  (s3.secEvent .info 0x0300 slot (s3.get SEC.slotVer slot)).bootEvents

end State

/-- NOP on ring 0 (R262): RESULT is device time at execution. -/
def execRingNop (s : State) : Out :=
  .next (match s.running 0 0 with
    | none => s
    | some _ => s.complete 0 .ok s.now)

/-! Bulk rings -/

/-- FW_CHUNK (R272, R387, R389): a chunk goes into the slot not in force; FINAL starts the check, which the descriptor waits for. -/
def execFwChunk (data : List Byte) (s : State) : Out :=
  .next (match s.running 20 1 with
    | none => s
    | some d =>
      if s.is SEC.finalFw || data.length != d.len.toNat then s
      else if d.w2.toNat ≠ s.fwImage.length then s.complete 20 .range 0
      else
        let s1 : State := { s with fwImage := s.fwImage ++ data }
        if d.w3.toNat % 2 = 1 then s1.set SEC.finalFw 1 else s1.complete 20 .ok d.len.toNat)

/-- The check of an image ends (R256, R272): the FINAL chunk completes with its payload bytes, or AUTH_FAIL; one that was abandoned (R251) has
no completion. -/
def State.finalDone (s : State) (n : Nat) (waits ok : Bool) : State :=
  if !waits then s else s.complete n (if ok then .ok else .authFail) (if ok then (s.desc n).elim 0 (·.len.toNat) else 0)

/-- FW_CHECK_DONE (R2, R388, R389): the image is marked pending, or is never used. -/
def execFwCheckDone (keyOk sigOk : Bool) (s : State) : Out :=
  .next (if !s.is SEC.finalFw then s
    else
      let img := s.fwImage
      let w := s.get SEC.finalFw == 1
      let s1 : State := { s.set SEC.finalFw 0 with fwImage := [] }
      if s.fwReason img keyOk sigOk ≠ 0 then s1.finalDone 20 w false
      else
        let k := 1 - s1.get SEC.fwSlot
        let s2 := (s1.set SEC.slotSvn (State.imgNat img 7 1) k).set SEC.slotVer (State.imgNat img 8 4) k
        ((s2.set SEC.fwPend 1).set SEC.FW_STAT.PEND 1).finalDone 20 w true)

/-- CAL_CHUNK (R272, R386, R387, R392): under the role with which the descriptor started. -/
def execCalChunk (data : List Byte) (s : State) : Out :=
  .next (match s.running 21 1 with
    | none => s
    | some d =>
      if s.is SEC.finalCal || data.length != d.len.toNat then s
      else if !s.roleIn (s.get SEC.descRole 21) [2, 3] || s.get SEC.LC_STAT.STATE = 4 then s.complete 21 .refused 0
      else if d.w2.toNat ≠ s.calImage.length then s.complete 21 .range 0
      else
        let s1 : State := { s with calImage := s.calImage ++ data }
        if d.w3.toNat % 2 = 1 then s1.set SEC.finalCal 1 else s1.complete 21 .ok d.len.toNat)

/-- CAL_CHECK_DONE (R391, R392, R402): the image goes into force with PEND, which the calibration RAM does not hold
yet, and CAL_SVN rises, or it is never used. -/
def execCalCheckDone (keyIdOk tagOk : Bool) (s : State) : Out :=
  .next (if !s.is SEC.finalCal then s
    else
      let img := s.calImage
      let w := s.get SEC.finalCal == 1
      let r := s.calReason img keyIdOk tagOk
      let s1 : State := { s.set SEC.finalCal 0 with calImage := [] }
      if r ≠ 0 then (s1.calEvent true r).finalDone 21 w false
      else
        let svn := State.imgNat img 6 1
        let s2 := (((s1.set SEC.CAL_STAT.IN_FORCE 1).set SEC.CAL_STAT.PEND 1).set SEC.CAL_STAT.IMG_SVN svn).set SEC.CAL_STAT.CAL_SVN svn
        (((s2.inc SEC.calId).set SEC.CAL_VER.VERSION (State.imgNat img 8 4)).set SEC.CAL_STAT.LOADED 0 |>.calEvent true 0).finalDone 21 w true)

/-! Life cycle and keys -/

/-- LC_TRANSITION (R325, R379 to R382, R386, R400, R402, R403, R440): LC_CMD with GO. `whole` is false where power fails between the
intent bit and the state bit, or before a flag copy is written. The fuse transitions end in a SYS reset, whose source code the spec
does not state. -/
def execLcTransition (target : BitVec 3) (fused whole : Bool) (s : State) : Out :=
  let t := target.toNat
  let s0 := s.set SEC.LC_CMD.TARGET t
  let old := s0.get SEC.LC_STAT.STATE
  let flag := (old == 2 && t == 3) || (old == 3 && t == 2)
  .next (if !s.pdOn 2 then s else if s0.is SEC.LC_STAT.LC_PEND then s0
    else if !(State.lcRoles old t).contains s0.linkRole then s0.set SEC.LC_STAT.RESULT 3
    else if !s0.lcReady t fused then s0.set SEC.LC_STAT.RESULT 6
    else if flag then
      (if whole then ((s0.set SEC.LC_STAT.RESULT 0).set SEC.LC_STAT.STATE t).lcClose.secEvent .warning 0x0305 old t else s0)
    else
      let s1 := s0.on (t == 4) (·.lcErase)
      let s2 := ((s1.set SEC.LC_STAT.RESULT 0).set SEC.LC_STAT.LC_PEND 1).set SEC.lcIntent (t + 1)
      if !whole then s2
      else (((s2.lcFinish).lcClose.secEvent .warning 0x0305 old t).resetRequest 1 7 false).on (s2.get SYS.rstPhase == 1)
        (·.setFree SYS.rstSrc))

/-- CHALLENGE (R384, R397): a fresh nonce; a role or level that may not open a session gets none. -/
def execAuthChallenge (debug : Bool) (role : BitVec 3) (level : BitVec 2) (s : State) : Out :=
  let r := role.toNat
  let l := if debug then level.toNat else 0
  let p := ofBool debug
  let s0 := ((s.set SEC.AUTH_CMD.ROLE r).set SEC.AUTH_CMD.LEVEL level.toNat).set SEC.AUTH_CMD.OP 1
  .next (if !s.pdOn 2 then s else if r < 1 || 4 < r || (debug && l == 0) then s0.set SEC.AUTH_STAT.RESULT 7
    else match s0.authBar debug r l with
      | some e => s0.set SEC.AUTH_STAT.RESULT e
      | none =>
        let s1 := s0.forN 12 fun k t => if debug then t.setFree SEC.dbgChal 0 k else t.setFree SEC.AUTH_CHAL.CHAL k
        ((((s1.set SEC.chalOn 1 p).set SEC.chalRole r p).set SEC.chalLvl l p).set SEC.chalT s1.now p).set SEC.AUTH_STAT.RESULT 0)

/-- AUTH_VERIFY (R384, R385, R397, R402): `good` is the verdict on the signature over the standing challenge. A challenge holds for 60 s
and one VERIFY. -/
def execAuthVerify (debug good : Bool) (s : State) : Out :=
  let p := ofBool debug
  let r := s.get SEC.chalRole p
  let l := s.get SEC.chalLvl p
  let fresh := s.is SEC.chalOn p && decide (s.now ≤ s.get SEC.chalT p + 24000000000)
  let s0 := (s.set SEC.AUTH_CMD.OP 2).set SEC.chalOn 0 p
  .next (if !s.pdOn 2 then s else if s0.is SEC.AUTH_STAT.LOCK_LEFT then s0.authEvent debug r 4
    else if !fresh then s0.authFail debug r 5
    else match s0.authBar debug r l with
      | some e => s0.authEvent debug r e
      | none => if good then s0.authOpen debug r l else s0.authFail debug r 1)

/-- AUTH_CLOSE (R386, R400). -/
def execAuthClose (debug : Bool) (s : State) : Out :=
  let s0 := (s.set SEC.AUTH_CMD.OP 3).set SEC.AUTH_STAT.RESULT 0
  .next (if !s.pdOn 2 then s else if debug then s0.dbgClose 0 else s0.closeHostRole)

/-- ROLE_TMO (R386): no BAR0 access for ROLE_TMO. -/
def execRoleTmo (s : State) : Out :=
  .next (s.on (s.is SEC.ROLE.OPEN && decide (s.get SEC.idleT + 400000000 * s.get SEC.ROLE_CFG.ROLE_TMO ≤ s.now)) (·.closeHostRole))

/-- AUTH_LOCKOUT_END (R385): the lockout has counted down, which it does while PD2 is powered. -/
def execAuthLockoutEnd (s : State) : Out :=
  .next (s.on (s.getBit SYS.PWR_STAT.PD_ON 2 && s.lockLeft == 0) (·.set SEC.AUTH_STAT.LOCK_LEFT 0))

/-- INT_INSTALL (R383, R385, R387): K_INT and the INTEGRATOR role key; HOST may do it in PROVISIONED while the slot is empty. -/
def execIntInstall (slot : BitVec 4) (unwraps : Bool) (kInt : BitVec 256) (s : State) : Out :=
  let first := s.linkRole == 5 && s.get SEC.LC_STAT.STATE == 1 && !s.is SEC.CAL_STAT.KEY_OK
  .next (if !s.pdOn 2 then s else s.keyOp 1 slot.toNat (first || s.roleMay [2]) fun t =>
    if !unwraps then (1 + Config.free 385 [] % 7, t)
    else (0, (((t.set SEC.kInt kInt.toNat).set SEC.roleKey (t.keyWords 34 24) 0).set SEC.CAL_STAT.KEY_OK 1).setBit
      SEC.KEY_STAT.ROLE_KEYS 0 true))

/-- ROLE_INSTALL (R383, R387): SLOT 3 CALIBRATOR, 4 SERVICE; the INTEGRATOR key comes with K_INT. -/
def execRoleInstall (slot : BitVec 4) (s : State) : Out :=
  let k := slot.toNat
  .next (if !s.pdOn 2 then s else s.keyOp 2 k (s.roleMay [2]) fun t =>
    if k = 3 || k = 4 then (0, (t.set SEC.roleKey (t.keyWords 0 24) (k - 2)).setBit SEC.KEY_STAT.ROLE_KEYS (k - 2) true) else (7, t))

/-- ROLE_REVOKE (R383, R387). -/
def execRoleRevoke (slot : BitVec 4) (s : State) : Out :=
  let k := slot.toNat
  .next (if !s.pdOn 2 then s else s.keyOp 3 k (s.roleMay [2]) fun t =>
    if 2 ≤ k && k ≤ 4 then (0, (t.set SEC.roleKey 0 (k - 2)).setBit SEC.KEY_STAT.ROLE_KEYS (k - 2) false) else (7, t))

/-- SAK_INSTALL (R363, R390): a new transmit association starts its packet numbers anew. Without PD6 there is no key store. -/
def execSakInstall (slot : BitVec 4) (s : State) : Out :=
  let k := slot.toNat
  let p := k / 4 % 2
  .next (if !s.pdOn 2 then s else s.keyOp 4 k true fun t =>
    if 8 ≤ k then (7, t)
    else if !t.getBit SYS.PWR_STAT.PD_ON 6 then (6, t)
    else
      let t0 := (t.forN 12 fun i u => u.set ETH.sak (u.get SEC.KEY_WIN.DATA i) k i).set ETH.sakOn 1 k
      let t1 := t0.on (decide (k % 4 < 2)) (·.set ETH.pnHi 0 p (k % 2))
      (0, if 2 ≤ k % 4 then t1.set ETH.rxPn 0 p (k % 2)
          else if t1.get ETH.MSEC_CFG.TX_AN p = k % 2 then (t1.set ETH.TX_PN.PN 0 p).pnExh p
          else t1.set ETH.sakPn 0 p (k % 2)))

/-- SAK_RETIRE (R390). -/
def execSakRetire (slot : BitVec 4) (s : State) : Out :=
  let k := slot.toNat
  .next (if !s.pdOn 2 then s else s.keyOp 5 k true fun t =>
    if 8 ≤ k then (7, t)
    else if !t.getBit SYS.PWR_STAT.PD_ON 6 then (6, t)
    else (0, (t.forN 12 fun i u => u.set ETH.sak 0 k i).set ETH.sakOn 0 k))

/-- FUSE_BLOW (R387, R397, R401): 0 PERF_USER, 1 DBG_PROD_DIS. -/
def execFuseBlow (slot : BitVec 4) (s : State) : Out :=
  let k := slot.toNat
  .next (if !s.pdOn 2 then s else s.keyOp 6 k (s.roleMay [2]) fun t =>
    if k = 0 then (0, t.set SEC.FUSE.PERF_USER 1) else if k = 1 then (0, t.set SEC.FUSE.DBG_PROD_DIS 1) else (7, t))

/-- FW_COMMIT (R390): FW_SVN rises to the running image's SVN. -/
def execFwCommit (s : State) : Out :=
  .next (if !s.pdOn 2 then s else s.set SEC.FW_STAT.FW_SVN (max (s.get SEC.FW_STAT.IMG_SVN) (s.get SEC.FW_STAT.FW_SVN)))

/-- CAL_LOAD_DONE (R393, R395): the tag of the image in force is checked again; `kinds` is the directory, a kind for each handle. A load
that fails leaves the calibration RAM zeroed and refuses the ENABLE. -/
def execCalLoadDone (tagOk : Bool) (kinds : List (BitVec 8)) (s : State) : Out :=
  .next (if s.get ACT.jobStep ≠ 3 || s.is SEC.lockZero then s
    else
      let s1 := s.calZero.set SEC.CAL_STAT.ZEROING 0
      if !tagOk then ((s1.calEvent false 5).jobRefuse .refused).jobGo
      else
        let s2 := s1.forN 256 fun h t => t.set SEC.calKind (if h = 0 then 0 else (kinds.getD h 0).toNat) 0 h
        (((((s2.set SEC.CAL_STAT.LOADED 1).set SEC.calRamId (s2.get SEC.calId)).set SEC.CAL_STAT.PEND 0).set SEC.CAL_STAT.TBL_LOCK 0).calEvent false 0).set ACT.jobStep 1)

/-- ZEROING_DONE (R395, R402): the held debug access completes and reads zeros; an ENABLE that waits goes on to its load. -/
def execZeroingDone (s : State) : Out :=
  .next (if !s.is SEC.lockZero then s
    else
      let s1 := ((s.set SEC.lockZero 0).setb SEC.CAL_STAT.ZEROING (s.get ACT.jobStep == 3)).on (s.is SEC.heldRead) (·.send (.readData 0))
      s1.set SEC.heldRead 0)

/-- BOOT (R388 to R390, R402, R403): the boot ROM checks the slot in force and a pending one, each with the reason its
cryptographic checks found; a pending image is taken by a SYS or COLD start, not after CTL. -/
def execBootRom (inForce pending : Fin 5) (s : State) : Out :=
  .next (if s.get SYS.rstPhase ≠ 0 || s.is SYS.fwRun || s.is SYS.lowState || !s.getBit SYS.stepped 2
      || s.getBit SYS.RST_STAT.PD_FAIL 1 then s
    else
      let k := s.get SEC.fwSlot
      let p := s.is SEC.fwPend && s.get SYS.rstLvl != 2
      let rf := s.slotReason k inForce
      let rp := s.slotReason (1 - k) pending
      let s1 := (s.bootReject k rf).on p (·.bootReject (1 - k) rp)
      let s2 := s1.setb SEC.FW_STAT.PEND (s1.is SEC.fwPend && !p)
      if p && rp == 0 then (s2.set SEC.fwPend 0).bootSlot (1 - k) true
      else if rf = 0 then (s2.on p (·.set SEC.fwPend 0)).bootSlot k false
      else (s2.set SEC.FW_STAT.BOOT_FAIL 1).bootEvents)

/-! The debug port -/

/-- The TAP answers while DBG_VREF is present and the module is not in OFF (R15, R399). -/
def State.tapOn (s : State) : Bool := s.is SEC.DBG_STAT.VREF && s.get SYS.lowState != 2

/-- Boundary-scan instructions are taken while the V_dc condition holds, else BYPASS stands in their place (R398, R399). -/
def State.tapScan (s : State) (ir : Nat) : State :=
  let s1 := s.debugVdc
  s1.set SEC.tapIr (if s1.is SEC.DBG_STAT.VDC_OK && !s1.is SYS.lowState then ir else 1)

/-- IDCODE (R396). -/
def execTapIdcode (s : State) : Out := .next (s.on s.tapOn (·.set SEC.tapIr 0))

/-- BYPASS (R396). -/
def execTapBypass (s : State) : Out := .next (s.on s.tapOn (·.set SEC.tapIr 1))

/-- SAMPLE/PRELOAD (R396, R398). -/
def execTapSamplePreload (s : State) : Out := .next (s.on s.tapOn (·.tapScan 2))

/-- EXTEST (R396, R398). -/
def execTapExtest (s : State) : Out := .next (s.on s.tapOn (·.tapScan 3))

/-- DAP_SELECT (R396). -/
def execDapSelect (s : State) : Out := .next (s.on s.tapOn (·.set SEC.tapIr 4))

/-- DBG_TRSTN (R400): the TAP returns to its reset state. -/
def execDbgTrstn (s : State) : Out := .next ((s.dbgClose 1).set SEC.tapIr 0)

/-- DBG_VREF_LOSS (R15, R400, R402). -/
def execDbgVrefLoss (s : State) : Out := .next (((s.dbgClose 2).set SEC.DBG_STAT.VREF 0).set SEC.tapIr 0)

/-- DBG_VREF_PRESENT (R15): the TAP leaves reset. -/
def execDbgVrefPresent (s : State) : Out := .next ((s.set SEC.DBG_STAT.VREF 1).set SEC.tapIr 0)

/-- SINGLE_STEP (R396): at D2 or D3 a halted engine may execute one instruction; a host core has no state here. -/
def execSingleStep (engine : Option (Fin 7)) (s : State) : Out :=
  .next (match engine with
    | none => s
    | some e => s.on (s.is SEC.DBG_STAT.OPEN && decide (2 ≤ s.get SEC.DBG_STAT.LEVEL) && s.is CE.STATUS.HALTED e) (·.set CE.stepOnce 1 e))

end Sys2Proof.Machine
end

