-- ==== Sys2Proof/Machine/Mem.lean ====
section
/-!
DEFINITION. Self-test and memories (21): the patrol scrubber, window aborts, the march engine and the logic BIST of a domain.
-/
namespace Sys2Proof.Machine
namespace State

/-- The domain that a memory lies in (R457). -/
def memDomain (m : Nat) : Nat := if m < 3 then 2 else m

/-- A domain serves an enabled channel (R412). -/
def pdServes (s : State) (pd : Nat) : Bool := (List.range 8).any fun ch => s.is ACT.chEn ch && (chDomains ch).contains pd

/-- The words of the memories after the one the scrubber has read (R460): a pass of a memory ends after its last word. -/
def scrubNext (s : State) (last : Bool) : State :=
  let m := s.get MEM.scrubMem
  if last then
    ({ (s.set MEM.scrubMem ((m + 1) % 6)).set MEM.scrubWord 0 with eccSeen := s.eccSeen.filter fun p => p.1 != m } : State)
  else s.inc MEM.scrubWord

/-- A destructive run may not start (R462): of the shared SRAM or the calibration RAM while any ring or channel is enabled, of engine
memories while their domain serves an enabled channel. -/
def marchBars (s : State) (target : Nat) : Bool :=
  (target % 4 != 0 && (s.anyEnabled || (List.range 32).any fun n => s.ringOn n))
    || [3, 4, 5].any fun m => bit target m && s.pdServes m

/-- A memory ends a destructive run all zero (R462). -/
def marchZero (s : State) (m : Nat) : State :=
  let s1 : State := { s with eccBad := s.eccBad.filter fun p => p.1.1 != m }
  if m = 0 then { s1 with mem := [] }
  else if m = 1 then s1.calZero
  else if m = 2 then (s1.dropCells [MEM.host, MEM.hostOn] fun _ _ => true).setBit MEM.blank 0 true
  else
    let s2 := (s1.dropCells [CE.ld, CE.ldM, CE.code, CE.codeOn] fun _ e => pdEngine m e).dropCells [SQ.store, SQ.storeOn]
      fun _ a => a + 3 == m
    (List.range 10).foldl (fun t b => t.on (pdBlank m b) (·.setBit MEM.blank b true)) s2

/-- A content-preserving run reads every word of a memory and corrects it (R459, R462). -/
def marchKeep (s : State) (m : Nat) : State :=
  (s.eccBad.filter fun p => p.1.1 == m).foldl (fun t p => t.eccCheck m p.1.2) s

/-- The words of the save area of a domain that read back wrong (R467). -/
def saveBad (s : State) (pd : Nat) : List (Nat × Nat) :=
  let w := (s.get BIST.SAVE_BASE.BASE * 65536 + 8192 * (pd - 2)) / 8
  (s.eccBad.filter fun p => p.1.1 == 0 && decide (w ≤ p.1.2) && decide (p.1.2 < w + 1024)).map fun p => (p.1.2, p.2)

/-- The report of a run (R463): the count, the first failure, the spares taken, the memories left with a failure for want of a spare,
those of the target that passed. -/
def marchReport (s : State) (target fails mem addr pos left spent rows cols : Nat) : State :=
  let s1 := s.set MEM.MARCH_STAT.FAIL_CNT (min fails 65535)
  let s2 := s1.on (fails != 0) fun t => ((t.set MEM.MARCH_FAIL.MEM mem).set MEM.MARCH_FAIL.BIT pos).set MEM.MARCH_FAIL.ADDR addr
  let s3 := (s2.set MEM.REPAIR.ROWS (min (s.get MEM.REPAIR.ROWS + rows) 255)).set MEM.REPAIR.COLS (min (s.get MEM.REPAIR.COLS + cols) 255)
  let unrep := (List.range 6).foldl (fun t m =>
    if !bit target m then t
    else if bit spent m then t.setBit MEM.REPAIR.UNREP m true
    else t.on (!bit left m) (·.setBit MEM.REPAIR.UNREP m false)) s3
  unrep.on (spent &&& target != 0) (·.event .fault 0 0x1D 0x0433
    (unrep.get MEM.MARCH_FAIL.MEM * 2 ^ 28 + unrep.get MEM.MARCH_FAIL.BIT * 2 ^ 20 + unrep.get MEM.MARCH_FAIL.ADDR)
    (unrep.get MEM.REPAIR.UNREP))

/-- A BIST request is refused (R468). -/
def bistBars (s : State) (pd : Nat) : Bool :=
  s.pdServes pd || (pd == 6 && (List.range 16).any fun k => s.is BL.RS_CFG.EN k && s.get BL.RS_CFG.CHAN k != 0)
    || s.is BIST.STAT.BUSY || s.is MEM.MARCH_STAT.BUSY || (s.get SYS.PWR_STAT.STATE != 0 && s.get SYS.PWR_STAT.STATE != 2) || !s.getBit SYS.PWR_STAT.PD_ON pd

/-- The warm reset of a BIST run zeroes the domain's engine memories, and one of PD3 or PD4 the calibration RAM (R467, R468). -/
def bistZero (s : State) (pd : Nat) : State :=
  let s1 : State := { s.dropCells [CE.ld, CE.ldM, CE.code, CE.codeOn] (fun _ e => pdEngine pd e) with
    eccBad := s.eccBad.filter fun p => p.1.1 != pd }
  ((s1.dropCells [SQ.store, SQ.storeOn] fun _ a => a + 3 == pd).unblank (pdBlank pd)).on (pd == 3 || pd == 4) (·.calZero)

end State

/-- SCRUB (R459, R460, R475): the next word of memories 0 to 5 in turn, in which `flips` bits have turned wrong; a memory whose
domain is off is passed over. -/
def execMemScrub (flips : Fin 3) (s : State) : Out :=
  let m := s.get MEM.scrubMem
  let w := s.get MEM.scrubWord
  .next (if !s.getBit SYS.PWR_STAT.PD_ON 2 || !s.is MEM.CTL.SCRUB_EN then s
    else if !s.getBit SYS.PWR_STAT.PD_ON (State.memDomain m) then s.scrubNext true
    else ((s.setEcc m w (min 2 (s.eccOf m w + flips))).eccCheck m w).scrubNext (memWords m ≤ w + 1))

/-- WIN_ABORT (R458, R477): a read through the BAR0 window is not served within 50 µs. -/
def execWinAbort (offset : BitVec 22) (s : State) : Out :=
  .next ((s.incSat MEM.ARB_STAT.WIN_ABORT).event .warning 0 0x1D 0x0434 offset.toNat 0)

/-- MARCH_START (R462, R478): a write of MARCH_CMD with GO; a GO written while a run is active starts none. -/
def execMarchStart (target : BitVec 6) (destr repair : Bool) (s : State) : Out :=
  let t := target.toNat
  .next (if !s.pdOn 2 then s else if s.is MEM.MARCH_STAT.BUSY then s
    else if destr && s.marchBars t then (s.set MEM.MARCH_STAT.RESULT 3).set MEM.CTL.CFG_REJECT 1
    else
      let s1 := (((s.set MEM.MARCH_CMD.TARGET t).setb MEM.MARCH_CMD.DESTR destr).setb MEM.MARCH_CMD.REPAIR_EN repair).set MEM.MARCH_CMD.GO 1
      let s2 := ((s1.set MEM.MARCH_STAT.BUSY 1).set MEM.MARCH_STAT.FAIL_CNT 0).set MEM.MARCH_STAT.RESULT 0
      s2.on (destr && bit t 1) (·.calZero))

/-- MARCH_DONE (R462 to R464, R477): a run ends, or with `boot` the runs that BOOT_EN asks for at start-up, of the memories whose domain
has been stepped. `left` are the memories left with a failing word, `spent` those for want of a spare; without
REPAIR_EN no spare is taken. -/
def execMarchDone (boot : Bool) (fails : BitVec 16) (mem : Fin 6) (addr : BitVec 19) (pos : Fin 72) (left spent : BitVec 6)
    (rows cols : BitVec 8) (s : State) : Out :=
  let rep (t : State) (target : Nat) : State :=
    let repairs := boot || t.is MEM.MARCH_CMD.REPAIR_EN
    t.marchReport target fails.toNat mem addr.toNat pos left.toNat (if repairs then spent.toNat &&& left.toNat else 0)
      (if repairs then rows.toNat else 0) (if repairs then cols.toNat else 0)
  .next (if boot then
      let target := ((List.range 6).map fun m => if s.getBit MEM.MARCH_CFG.BOOT_EN m && s.getBit SYS.stepped (State.memDomain m) then 2 ^ m
        else 0).sum
      if s.get SYS.rstPhase ≠ 0 || target = 0 then s else rep s target
    else if !s.is MEM.MARCH_STAT.BUSY then s
    else
      let target := s.get MEM.MARCH_CMD.TARGET
      let s1 := (List.range 6).foldl (fun u m => u.on (bit target m) fun v => if s.is MEM.MARCH_CMD.DESTR then v.marchZero m else v.marchKeep m) s
      let s2 := rep ((s1.set MEM.MARCH_STAT.BUSY 0).set MEM.MARCH_CMD.GO 0) target
      (s2.set MEM.MARCH_STAT.RESULT (if fails = 0 then 1 else 2)).event .info 0 0x1D 0x0432 target (s2.get MEM.MARCH_STAT.FAIL_CNT))

/-- BIST_START (R468, R478): a write of CMD with GO; a domain outside 3 to 8 is outside the stated range, a refused request leaves
RESULT 3. -/
def execBistStart (domain : BitVec 4) (s : State) : Out :=
  let pd := domain.toNat
  .next (if !s.pdOn 2 then s else if pd < 3 || 8 < pd then s.set BIST.CTL.CFG_REJECT 1
    else if s.bistBars pd then (s.set BIST.STAT.RESULT 3).set BIST.CTL.CFG_REJECT 1
    else ((((s.bistSave pd).set BIST.CMD.DOMAIN pd).set BIST.CMD.GO 1).set BIST.STAT.BUSY 1).set BIST.STAT.RESULT 0)

/-- BIST_DONE (R465, R467 to R469, R475): a requested run ends; the saved state is read back, and a word with two wrong bits in it fails the run.
A failure, a wrong CRC of the saved state among them, is reset source 10 at the mapped level, and R452 governs the retry. -/
def execBistDone (pass : Bool) (misr : BitVec 64) (islands : BitVec 6) (s : State) : Out :=
  .next (if !s.is BIST.STAT.BUSY then s
    else
      let pd := s.get BIST.CMD.DOMAIN
      let good := pass && !(s.saveBad pd).any fun p => decide (2 ≤ p.2)
      let s0 := (s.saveBad pd).foldl (fun t p => t.eccCheck 0 p.1) s
      let s1 := (((s0.set BIST.STAT.BUSY 0).set BIST.CMD.GO 0).incSat BIST.CNT.RUNS).bistZero pd
      let s2 := (s1.set BIST.STAT.RESULT (if good then 1 else 2)).event .info 0 0x1E 0x0435 pd (ofBool (!good))
      if good then s2.setBit BIST.STAT.PASS (pd - 1) true
      else (((s2.incSat BIST.CNT.FAILS).bistReport pd misr.toNat islands.toNat).set SYS.bistTry 1 pd).resetRequest
        (s.get SYS.RST_MAP.BIST) 10 false)

/-- MEM_PIT_ARM (R329, R476). -/
def execMemPitArm (addr : BitVec 19) (sel : BitVec 4) (s : State) : Out :=
  .next (if !s.pdOn 2 then s else s.pitArm ((s.set MEM.PIT_CTL.ADDR addr.toNat).set MEM.PIT_CTL.SEL sel.toNat) MEM.PIT_CTL.ARM 0 0x1D sel.toNat 0
    (2 ^ 31 + addr.toNat * 16 + sel.toNat) (1 ≤ sel.toNat ∧ sel.toNat ≤ 2))

end Sys2Proof.Machine
end

