-- ==== Sys2Proof/Machine/RegWrite.lean ====
section
/-!
DEFINITION. Register writes and reads by address (R3 to R5), and the debug access port (R394 to R396). The rules between fields, and
between a field and the machine's state, stand in lists: a write is refused field by field (R5), with CFG_REJECT of the block.
-/
namespace Sys2Proof.Machine

/-- Fields whose write is a command of its own in the opcode table; a register write leaves them to it (log entry 24). -/
def ownFields : List Row :=
  [RING.CFG.SIZE, DOOR.DOOR.TAIL, SEN.OFS_CMD.START_A, SEN.OFS_CMD.START_B, SEN.PIT_CTL.ARM, POS.IDX_REF.REREF, POS.PIT_CTL.ARM,
   SQ.TBL_CTL.SWAP, SQ.PIT_CTL.ARM, OB.PIT_CTL.ARM, ACT.CMD.GO, PU.CMP.CMP, PU.COMMIT.GO, PU.TRIP_STAT.SRC, PU.FIRST_FAULT.VALID,
   PU.TRIP_CMD.SW, PU.CTL.FRZ, PU.PIT_CTL.ARM, CE.COEF_WIN.WORD, CE.PIT_CTL.ARM, GI.CTL.RELEASE, GI.CTL.CONF_DONE, GI.CTL.SWAP,
   GLK.OSD_CMD.START_A, GLK.OSD_CMD.START_B, GLK.PIT_CTL.ARM, AX.PIT_CTL.ARM, DLI.PIT_CTL.ARM, HK.PIT_CTL.ARM, HK.CTL.BS_RST,
   CAN.CTL.BO_RECOVER, CAN.PIT_CTL.ARM, SYS.PWR_CTL.PD_EN, SYS.PWR_CMD.GO, SYS.CAIRN_CMD.GO, SYS.CAIRN_CMD.ARM, SYS.PIT_CTL.ARM,
   SYS.RST_CMD.GO, SYS.WD_KICK.CORE, SYS.WD_KICK.KEY, SEC.LC_CMD.GO, SEC.AUTH_CMD.GO, SEC.KEY_CMD.GO, SEC.FW_CMD.COMMIT,
   MEM.MARCH_CMD.GO, MEM.PIT_CTL.ARM, BIST.CMD.GO]

/-- The trip registers of a PU (R154). -/
def tripFields : List Row :=
  [PU.TRIP_EN.EN, PU.TRIP_FILT0.F_GI, PU.TRIP_FILT0.F_OC, PU.TRIP_FILT0.F_SUM, PU.TRIP_FILT0.F_VDC, PU.TRIP_FILT1.F_XTRIP,
   PU.TRIP_FILT1.F_REF, PU.TRIP_FILT1.F_EST, PU.TRIP_FILT1.F_AUX, PU.TRIP_STAT.CLEAR_REFUSED]

/-- The source codes of a telemetry record (R268). -/
def selRows : List Row :=
  [RING.SEL0.VAL0, RING.SEL0.VAL1, RING.SEL0.VAL2, RING.SEL0.VAL3, RING.SEL1.VAL4, RING.SEL1.VAL5, RING.SEL1.VAL6, RING.SEL1.VAL7]

/-- The four codes of SEL0 and those of SEL1. -/
def selWords : List (List Row) := [selRows.take 4, selRows.drop 4]

/-- A code that R268 lists. -/
def telCodeOk (c : Nat) : Bool :=
  c < 0x0F || (0x10 ≤ c && c < 0x50 && c % 0x20 / 0x10 == (if c < 0x50 then 1 else 0) && c % 0x10 < 14)
    || (0x50 ≤ c && c < 0x68 && c % 8 < 6) || (0x70 ≤ c && c < 0x7C)

/-- The domain that a register lies in (R411). -/
def fieldDomain (addr : Nat) (r : Row) (i : Nat) : Nat :=
  if addr < 0x01100000 then 2
  else if addr < 0x01180000 then axisDomain r i
  else if addr < 0x01190000 then 5
  else if addr < 0x011A0000 then 2
  else if addr < 0x011C0000 then 6
  else if addr < 0x01200000 then 2
  else if addr < 0x01210000 then axisDomain r i
  else if addr < 0x01300000 then 2
  else 1

/-- LOCK of the block that a field belongs to, and CFG_REJECT, with their instance. -/
def blockCtl (addr : Nat) (r : Row) (i : Nat) : Row × Row × Nat :=
  if addr < 0x01000200 then (SYS.PWR_CTL.LOCK, SYS.PWR_CTL.CFG_REJECT, 0)
  else if addr < 0x01000300 then (SYS.CLK_CTL.LOCK, SYS.CLK_CTL.CFG_REJECT, 0)
  else if addr < 0x01020000 then (SYS.RST_CTL.LOCK, SYS.RST_CTL.CFG_REJECT, 0)
  else if addr < 0x01030000 then (RING.CTL.LOCK, RING.CTL.CFG_REJECT, 0)
  else if addr < 0x01100000 then (ACT.CTL.LOCK, ACT.CTL.CFG_REJECT, 0)
  else if r.eng then (CE.CTL.LOCK, CE.CTL.CFG_REJECT, i)
  else if addr < 0x01120000 then (SQ.CTL.LOCK, SQ.CTL.CFG_REJECT, i)
  else if addr < 0x01130000 then (PU.CTL.LOCK, PU.CTL.CFG_REJECT, i)
  else if addr < 0x01150000 then (OB.CTL.LOCK, OB.CTL.CFG_REJECT, i)
  else if addr < 0x01170000 then (SEN.CTL.LOCK, SEN.STATUS.CFG_REJECT, 0)
  else if addr < 0x01180000 then (POS.CTL.LOCK, POS.CTL.CFG_REJECT, 0)
  else if addr < 0x01190000 then (AX.CTL.LOCK, AX.CTL.CFG_REJECT, 0)
  else if addr < 0x011A0000 then (HK.CTL.LOCK, HK.CTL.CFG_REJECT, 0)
  else if addr < 0x011B0000 then (CAN.CTL.LOCK, CAN.CTL.CFG_REJECT, i)
  else if addr < 0x011C0000 then (ETH.CTL.LOCK, ETH.CTL.CFG_REJECT, 0)
  else if addr < 0x011D0000 then (PERF.CTL.LOCK, PERF.CTL.CFG_REJECT, 0)
  else if addr < 0x011E0000 then (MEM.CTL.LOCK, MEM.CTL.CFG_REJECT, 0)
  else if addr < 0x011F0000 then (BIST.CTL.LOCK, BIST.CTL.CFG_REJECT, 0)
  else if addr < 0x01200000 then (SEC.CTL.LOCK, SEC.CTL.CFG_REJECT, 0)
  else if addr < 0x01210000 then (GLK.CTL.LOCK, GLK.CTL.CFG_REJECT, 0)
  else (DLI.CTL.LOCK, DLI.CTL.CFG_REJECT, 0)

namespace State

/-- The fields of a rope pair and OUT_MAP, which are reserved in OB and AX (07, introduction, R186). -/
def ropeFields : List Row :=
  [CE.OUT_MAP.DESTn, CE.RP_CFG.TAG_BASE, CE.RP_CFG.TAG_END, CE.RP_TOL.TOLx, CE.RP_TOL.TOLy, CE.PIT_CTL.SEL, CE.PIT_CTL.ARM]

/-- Reserved in this instance: what R140, R154, R186, R268 give to some instances only. -/
def fieldAbsent (s : State) (r : Row) (i : Nat) : Bool :=
  ([PU.PER.PER, PU.CTL.RUN, PU.CTL.DBL_UPD].contains r && decide (i < 2)) || (tripFields.contains r && s.joined && i == 1)
    || (r == RING.PARAM.SP_PER && (decide (i < 2) || decide (16 ≤ i))) || (selRows.contains r && (decide (i < 8) || decide (16 ≤ i)))
    || (ropeFields.contains r && decide (4 ≤ i))

/-- The axis of a gate island is enabled. -/
def islandBusy (s : State) (i : Nat) : Bool := s.axEn (i / 6)

/-- Rules on the state before the write: fields, and when they may be written. -/
def stateRules : List (List Row × (State → Nat → Bool)) :=
  [([GI.SUPPLY.VPOS_SET, GI.SUPPLY.VNEG_SET, GI.SUPPLY.UVLO_P, GI.SUPPLY.UVLO_N, GI.PROT.DESAT_V, GI.PROT.BLANK, GI.PROT.DESAT_FLT,
     GI.PROT.DIDT_TH, GI.PROT.DIDT_FLT, GI.SAFE_CFG.SC_DLY, GI.SAFE_CFG.BC_WAIT, GI.SAFE_CFG.BC_VDS], fun s i => !s.islandBusy i),
   ([ACT.CTL.SRC], fun s _ => !s.anyEnabled),
   ([CAN.NBT.NBRP, CAN.NBT.NTSEG1, CAN.NBT.NTSEG2, CAN.NBT.NSJW, CAN.DBT.DBRP, CAN.DBT.DTSEG1, CAN.DBT.DTSEG2, CAN.DBT.DSJW,
     CAN.TDC.TDC_EN, CAN.TDC.TDCO], fun s c => s.is CAN.CTL.INIT c),
   ([PERF.CNT_LO.CNT, PERF.CNT_HI.CNT], fun s n => !s.is PERF.CNT_SEL.CEN n),
   ([SYS.RST_MAP.BIST, SYS.RST_MAP.NET, SYS.RST_MAP.HOST, SYS.RST_MAP.BELAY, SYS.RST_MAP.WD_ENG, SYS.RST_MAP.WD_HC, SYS.RST_MAP.BO_CTL],
     fun s _ => s.get SEC.LC_STAT.STATE < 2)]

/-- The sum of 1 / DEC over the enabled telemetry rings is at most 4 (R268: 10 million records per second). -/
def telLoadOk (s : State) : Bool :=
  let q := ((List.range 8).filter fun k => s.ringOn (8 + k)).foldl
    (fun (p : Nat × Nat) k => let d := s.get RING.PARAM.SP_PER (8 + k); (p.1 * d + p.2, p.2 * d)) (0, 1)
  decide (q.1 ≤ 4 * q.2)

/-- DEC of a telemetry ring may be written (R268): it does not raise the sum over the enabled rings above its limit. -/
def decOk (s : State) (n dec : Nat) : Bool :=
  !s.ringOn n || decide (s.get RING.PARAM.SP_PER n ≤ dec) || (s.set RING.PARAM.SP_PER dec n).telLoadOk

/-- The period of an axis in engine cycles for the carrier in force and for REF_DIV (R168, R171). -/
def carPeriod (s : State) (a : Nat) : Nat := perOf (s.get SQ.CAR_CFG.F_CAR a) * (2 - s.get SQ.CAR_CFG.DBL_UPD a)

/-- At least eight samples of the loop per injection period (R117). -/
def injOk (s : State) (a : Nat) : Bool :=
  s.is OB.INJ_CFG.INJ_MODE a
    || decide (s.get OB.INJ_CFG.F_H a * 80 ≤ s.get SQ.CAR_CFG.F_CAR a * 100 * (1 + s.get SQ.CAR_CFG.DBL_UPD a))

/-- The frame of a CAP request fits its period (R66). -/
def capFits (s : State) (a : Nat) : Bool :=
  decide ((10 + s.get POS.CAP_CFG.WLEN a) * s.get POS.CAP_CFG.CLK_DIV a * 5 + s.get POS.CAP_TIM.REC a * 250
    ≤ s.get POS.CAP_CFG.REQ_PER a * 400)

/-- The nominal bit timing (R349). -/
def nbtOk (s : State) (c : Nat) : Bool :=
  let t1 := s.get CAN.NBT.NTSEG1 c + 1
  let t2 := s.get CAN.NBT.NTSEG2 c + 1
  let q := (s.get CAN.NBT.NBRP c + 1) * (1 + t1 + t2)
  decide (2 ≤ t1) && decide (2 ≤ t2) && decide (s.get CAN.NBT.NSJW c + 1 ≤ t2) && decide (80 ≤ q) && decide (q ≤ 640)

/-- The data bit timing (R349). -/
def dbtOk (s : State) (c : Nat) : Bool :=
  let t2 := s.get CAN.DBT.DTSEG2 c + 1
  let q := (s.get CAN.DBT.DBRP c + 1) * (2 + s.get CAN.DBT.DTSEG1 c + t2)
  decide (s.get CAN.DBT.DSJW c + 1 ≤ t2) && decide (16 ≤ q)

/-- The station address of a port is neither 0 nor a group address (R359). -/
def macOk (s : State) (p : Nat) : Bool :=
  (s.is ETH.MAC_LO.MAC_ADDR_LO p || s.is ETH.MAC_HI.MAC_ADDR_HI p) && !bit (s.get ETH.MAC_LO.MAC_ADDR_LO p) 0

/-- Rules on the values that the write leaves: fields, and what must hold of them. -/
def valueRules : List (List Row × (State → Nat → Nat → Bool)) :=
  [([SEN.VDC_CFG.LOST_US, SEN.VDC_CFG.STALE_US], fun t i _ => decide (t.get SEN.VDC_CFG.STALE_US i < t.get SEN.VDC_CFG.LOST_US i)),
   ([POS.CAP_CFG.REQ_PER, POS.CAP_CFG.WLEN, POS.CAP_CFG.CLK_DIV, POS.CAP_TIM.REC], fun t a _ => t.capFits a),
   ([POS.CAP_SCL.ST_BITS, POS.CAP_SCL.ST_POS, POS.CAP_CFG.WLEN],
     fun t a _ => decide (t.get POS.CAP_SCL.ST_POS a + t.get POS.CAP_SCL.ST_BITS a ≤ t.get POS.CAP_CFG.WLEN a)),
   ([SQ.BAND_LIM.S_MIN, SQ.BAND_LIM.S_MAX], fun t a _ => decide (t.get SQ.BAND_LIM.S_MIN a ≤ t.get SQ.BAND_LIM.S_MAX a)),
   ([SQ.TRAV_CFG.UP_PCT, SQ.TRAV_CFG.DN_PCT], fun t a _ => decide (t.get SQ.TRAV_CFG.DN_PCT a < t.get SQ.TRAV_CFG.UP_PCT a)),
   ([OB.INJ_CFG.INJ_MODE, OB.INJ_CFG.F_H, SQ.CAR_CFG.F_CAR, SQ.CAR_CFG.DBL_UPD], fun t a _ => t.injOk a),
   ([CE.PERIOD_CFG.OUT_PH_CAR], fun t e _ => decide (6 ≤ e) || !t.engAxisEn e
     || decide (t.get CE.PERIOD_CFG.OUT_PH_CAR e + 44 ≤ t.carPeriod (t.lead (engAxis e)))),
   ([CE.PERIOD_CFG.OUT_PH_TBL], fun t e _ => decide (6 ≤ e) || !t.engAxisEn e
     || decide (t.get CE.PERIOD_CFG.OUT_PH_TBL e + 44 ≤ t.get SQ.REF_CFG.REF_DIV (t.lead (engAxis e)) * 160)),
   ([GI.SUPPLY.UVLO_P, GI.SUPPLY.VPOS_SET], fun t i _ => decide (t.get GI.SUPPLY.UVLO_P i + 8 ≤ t.get GI.SUPPLY.VPOS_SET i)),
   ([GI.SLOT_CFG.DV_FIRST, GI.SLOT_CFG.DV_LAST], fun t i j => decide (t.get GI.SLOT_CFG.DV_FIRST i j ≤ t.get GI.SLOT_CFG.DV_LAST i j)),
   ([GLK.IBAND.TH1, GLK.IBAND.TH2, GLK.IBAND.TH3], fun t i _ => decide (t.get GLK.IBAND.TH1 i < t.get GLK.IBAND.TH2 i)
     && decide (t.get GLK.IBAND.TH2 i < t.get GLK.IBAND.TH3 i)),
   ([AX.CH_CURVE_CFG.D_ON, AX.CH_CURVE_CFG.D_OFF], fun t k _ => decide (t.get AX.CH_CURVE_CFG.D_OFF k < t.get AX.CH_CURVE_CFG.D_ON k)),
   ([AX.CH_OBS.OBS_UP, AX.CH_OBS.OBS_DN], fun t k _ => decide (t.get AX.CH_OBS.OBS_DN k < t.get AX.CH_OBS.OBS_UP k)),
   ([HK.BAND_GI.B1, HK.BAND_GI.B2, HK.BAND_GI.B3], fun t _ _ => decide (t.get HK.BAND_GI.B1 < t.get HK.BAND_GI.B2)
     && decide (t.get HK.BAND_GI.B2 < t.get HK.BAND_GI.B3)),
   ([HK.BAND_ABI.B1, HK.BAND_ABI.B2, HK.BAND_ABI.B3], fun t _ _ => decide (t.get HK.BAND_ABI.B1 < t.get HK.BAND_ABI.B2)
     && decide (t.get HK.BAND_ABI.B2 < t.get HK.BAND_ABI.B3)),
   ([CAN.NBT.NBRP, CAN.NBT.NTSEG1, CAN.NBT.NTSEG2, CAN.NBT.NSJW], fun t c _ => t.nbtOk c),
   ([CAN.DBT.DBRP, CAN.DBT.DTSEG1, CAN.DBT.DTSEG2, CAN.DBT.DSJW], fun t c _ => t.dbtOk c),
   ([ETH.PCFG.EN], fun t p _ => !t.is ETH.PCFG.EN p || t.macOk p),
   ([ACT.CMD.OP], fun t _ _ => decide (1 ≤ t.get ACT.CMD.OP) && decide (t.get ACT.CMD.OP ≤ 3)),
   ([RING.PARAM.SP_PER], fun t n _ => let v := t.get RING.PARAM.SP_PER n
     if n < 8 then decide (10 ≤ v) && decide (v ≤ 10000) else decide (1 ≤ v)),
   ([PERF.INT_EN.INT], fun t _ _ => (List.range 32).all fun n => !t.getBit PERF.INT_EN.INT n || t.get PERF.CNT_SEL.SOURCE n != 0x15
     || t.get PERF.CNT_SEL.EVENT n == 2)]
   ++ ([PU.DT_B01.DT0, PU.DT_B01.DT1, PU.DT_B23.DT2, PU.DT_B23.DT3].map fun r =>
     ([r], fun (t : State) (p _ : Nat) => decide ((if p < 2 then 20 else 4) ≤ t.get r p)))
   ++ (selWords.map fun rs => (rs, fun (t : State) (n _ : Nat) => rs.all fun r => telCodeOk (t.get r n)))
   ++ ([HK.MT_CFG.TYPE0, HK.MT_CFG.TYPE1, HK.MT_CFG.TYPE2, HK.MT_CFG.TYPE3].map fun r =>
     ([r], fun (t : State) (_ _ : Nat) => decide (t.get r < 3)))
   ++ ([(SYS.RST_MAP.BIST, 0, 1), (SYS.RST_MAP.NET, 1, 3), (SYS.RST_MAP.BELAY, 1, 2), (SYS.RST_MAP.WD_ENG, 2, 3),
     (SYS.RST_MAP.WD_HC, 1, 2), (SYS.RST_MAP.BO_CTL, 1, 2)].map fun p =>
     ([p.1], fun (t : State) (_ _ : Nat) => decide (p.2.1 ≤ t.get p.1) && decide (t.get p.1 ≤ p.2.2)))

/-- Rules on the word written: an address field refuses bits below its alignment (R235, R253). -/
def alignRules : List (Row × Nat) := [(ACT.BASE_LO.BASE, 2 ^ 13), (RING.BASE_LO.BASE, 2 ^ 12), (RING.WB_LO.WB, 2 ^ 3)]

/-- A flag of one bit whose condition persists. -/
def held (b : Bool) : Nat := ofBool b

/-- Flags that a write of 1 leaves set while their condition persists, with the bits that do. -/
def persistRules : List (Row × (State → Nat → Nat)) :=
  [(SEN.CH_STAT.BSL, fun s i => held (s.getBit SEN.chCond 0 i)), (SEN.CH_STAT.CLIP, fun s i => held (s.getBit SEN.chCond 1 i)),
   (SEN.CH_STAT.OVR, fun s i => held (s.getBit SEN.chCond 2 i)), (SEN.CH_STAT.OC_HI, fun s i => held (s.getBit SEN.chCond 3 i)),
   (SEN.CH_STAT.OC_LO, fun s i => held (s.getBit SEN.chCond 4 i)), (SEN.VDC_STAT.STALE, fun s _ => held (s.getBit SEN.vdcCond 0)),
   (SEN.VDC_STAT.LOST, fun s _ => held (s.getBit SEN.vdcCond 1)), (SEN.VDC_STAT.OV, fun s _ => held (s.getBit SEN.vdcCond 2)),
   (SEN.VDC_STAT.UV, fun s _ => held (s.getBit SEN.vdcCond 3)), (SEN.VDC_STAT.XCHK, fun s _ => held (s.getBit SEN.vdcCond 4)),
   (POS.CAP_STAT.ABS_LOST, fun s a => held (decide (s.get POS.CAP_CFG.INV_N a ≤ s.get POS.discards a))),
   (POS.CAP_STAT.LINE_FLT, fun s a => held (s.is POS.lfCap a)), (POS.INC_STAT.LINE_FLT, fun s a => held (s.is POS.lfInc a)),
   (SQ.FLAGS.OBS_LOST, fun s a => held (s.get SQ.STATUS.MODE a == 6)),
   (SQ.FLAGS.REF_STALE, fun s a => held (s.getBit PU.tripIn 10 a)),
   (SQ.FLAGS.XY_HIGH, fun s a => held (decide (s.get SQ.XY_CFG.XY_N a ≤ s.get SQ.xyRun a))),
   (GI.STATUS.PROF_CRC, fun s i => held (s.get GI.PROF_CRC.CALC i != s.get GI.PROF_CRC.ISL i)),
   (AX.CH_STAT.VAUX_UV, fun s _ => held (s.is AX.uvCond)), (AX.CH_STAT.VAUX_OV, fun s _ => held (s.is AX.ovCond)),
   (AX.CH_STAT.SP_LOST, fun s k => held (s.is AX.lost k)), (AX.CH_STAT.RMS_LIM, fun s k => held (s.is AX.rmsOn k)),
   (AX.CH_STAT.BS_EVT, fun s k => held (s.is AX.CH_STAT.BS_UV k)), (AX.CH_STAT.VLIM, fun s k => held (s.is AX.vlimOn k)),
   (AX.CH_STAT.OBS_SLOW, fun s k => held (s.obsSlow k)),
   (CAN.STATUS.BUS_OFF, fun s c => held (decide (4 ≤ s.get CAN.STATUS.STATE c) && decide (s.get CAN.STATUS.STATE c ≤ 5))),
   (CAN.STATUS.ALONE, fun s c => held (s.is CAN.noAck c)),
   (CAN.STATUS.ID_COLLISION, fun s c => held (decide (3 ≤ s.get CAN.IDC.RUN c))),
   (DLI.STATUS.STUCK_OFF, fun s _ => held (s.getBit DLI.stuck 0)), (DLI.STATUS.STUCK_ON, fun s _ => held (s.getBit DLI.stuck 1)),
   (HK.FAULT0.FAULT_LO, fun s _ => ((List.range 32).map fun n => s.get HK.TEMP.FAULT n * 2 ^ n).sum),
   (HK.FAULT1.FAULT_HI, fun s _ => ((List.range 6).map fun n => s.get HK.TEMP.FAULT (32 + n) * 2 ^ n).sum),
   (SYS.CLK_STAT.PLL, fun s _ => held (s.is SYS.pllDown)), (SYS.CLK_STAT.XTAL, fun s _ => held (s.is SYS.xtalBad)),
   (SYS.SUP_STAT.VLV_LOW, fun s _ => held (decide (s.get SYS.SUP_STAT.VLV < 900))),
   (SYS.SUP_STAT.VLV_HIGH, fun s _ => held (decide (1600 < s.get SYS.SUP_STAT.VLV)))]

/-- The bits of a flag field that stay set. -/
def persist (s : State) (r : Row) (i : Nat) : Nat :=
  match persistRules.find? fun p => p.1 == r with
  | some p => p.2 s i
  | none => 0

/-- A value written into a field by its access code (R3): of TRIP_EN only the sources that are not fixed (R151), of TBL_WIN the entry
of the inactive bank, whose bits [7:6] are reserved (R97, R100); INC_STAT.LINE_FLT is held for A and B and for Z apart (R72, R78). -/
def putField (s : State) (r : Row) (i j v : Nat) : State :=
  match r.acc with
  | .rw => s.set r v i j
  | .wo => s.set r v i j
  | .rwl =>
    if r = PU.TRIP_EN.EN then
      let m := if i < 2 then 0x6C0 else 0
      s.set r ((s.get r i - (s.get r i &&& m)) + (v &&& m)) i
    else if r = SQ.TBL_WIN.ENTRY then s.set SQ.tbl (v - (v &&& 0xC0) + 1) i (128 * (1 - s.get SQ.TBL_CTL.ACT_BANK i) + j)
    else s.set r v i j
  | .w1c =>
    let old := s.get r i j
    let clr := (old &&& v) - (old &&& v &&& s.persist r i)
    (s.set r (old - clr) i j).on (r == POS.INC_STAT.LINE_FLT && v == 1) fun t => t.setb POS.lfAB (t.getBit POS.lfInc 0 i) i
  | .w1s => if v = 0 then s else s.set r 1 i j
  | _ => s

/-- A field that a session may not write (R387, R401): the write is ignored with ACCESS_REFUSED. -/
def fieldDenied (s : State) (r : Row) (v : Nat) : Bool :=
  (r == SEC.ROLE_CFG.ROLE_TMO && !s.roleMay [2])
    || (r == PERF.CTL.USER_EN && v == 1 && decide (2 ≤ s.get SEC.LC_STAT.STATE) && !s.is SEC.FUSE.PERF_USER)

/-- The value is in the field's own range and alignment, and the state lets it be written. -/
def fieldOpen (s : State) (r : Row) (i data : Nat) : Bool :=
  r.inRange (r.cut data) && (alignRules.all fun p => p.1 != r || data % p.2 == 0)
    && (r != RING.PARAM.SP_PER || decide (i < 8) || s.decOk i (r.cut data)) && stateRules.all fun p => !p.1.contains r || p.2 s i

/-- The values left by the write obey the rules of this field. -/
def fieldFits (t : State) (r : Row) (i j : Nat) : Bool := valueRules.all fun p => !p.1.contains r || p.2 t i j

/-- The island settings in the order of their addresses 0x180 to 0x18C, as proxy fields; NTC_ABS and SC_SLOT share the last. -/
def proxyFields : List (Row × Nat) :=
  [(GI.SUPPLY.VPOS_SET, 0), (GI.SUPPLY.VNEG_SET, 1), (GI.SUPPLY.UVLO_P, 2), (GI.SUPPLY.UVLO_N, 3), (GI.PROT.DESAT_V, 4), (GI.PROT.BLANK, 5),
   (GI.PROT.DESAT_FLT, 6), (GI.PROT.DIDT_TH, 7), (GI.PROT.DIDT_FLT, 8), (GI.SAFE_CFG.SC_DLY, 9), (GI.SAFE_CFG.BC_WAIT, 10),
   (GI.SAFE_CFG.BC_VDS, 11), (GI.CTL.SC_SLOT, 12)]

/-- The frame that an accepted proxy write becomes (R193, R216), one a word; of a slot word see the write itself. -/
def proxyFrame (s : State) (r : Row) (i j : Nat) : State :=
  if r = GI.PROF_WIN.CUR then s.gateWrite i j (s.winWord i j)
  else if r = GI.SOFT_WIN.CUR then (s.gateWrite i (0x120 + j) (s.softWord i j)).set GI.PROF_DUR.E_SOFT (s.eSoft i) i
  else
    match proxyFields.find? fun p => p.1 == r with
    | some p => s.gateWrite i (0x180 + p.2) ((s.proxySettings i).getD p.2 0)
    | none => s

/-- A channel is disabled (R43): its samples become invalid, its clock and its filters stop. No rule says what its conditions do then: all
of them end, and with them its trip input (DESIGN CHOICE, log entry 37). -/
def chStop (s : State) (ch : Nat) : State :=
  let s1 := (((s.setBit SEN.STATUS.CH_VALID ch false).set SEN.hist 0 ch).set SEN.run 0 ch).set SEN.clks 0 ch
  (((s1.set SEN.chCond 0 ch).set SEN.ovrF 0 ch).set SEN.ovrC 0 ch).ocTrip (chAxis ch)

/-- What an accepted write of a field does beside the field. RUN of an aux unit set again counts up from 0, or down from PER with DOWN set, with
its switches as they stand: R140 does not say (DESIGN CHOICE, log entry 37). -/
def fieldEffect (s0 s : State) (r : Row) (i j : Nat) : State :=
  if r = SEN.CH_STAT.BSL then s.chFault i
  else if r = SQ.CAR_CFG.F_CAR || r = SQ.CAR_CFG.DBL_UPD then s.on (!(s.joined && i == 1)) (·.carCopy i)
  else if r = SEN.CTL.CH_EN then s.forN 6 fun ch t => t.on (s0.getBit r ch && !s.getBit r ch) (·.chStop ch)
  else if r = POS.PTO_CFG.SRC then s.ptoStart i
  else if [RING.STAT.CFG, RING.STAT.TAIL, RING.STAT.LINK, RING.STAT.DMA].contains r then s.ringSums i
  else if r = PU.CTL.RUN then s.on (s.is r i && !s0.is r i) fun t => (t.set PU.cntT t.now i).set PU.perAct (t.get PU.PER.PER i) i
  else if r = CAN.CTL.INIT then
    if s.is r i then s.canInit i
    else s.canLeaveInit i
  else if r = CAN.CTL.MON || r = CAN.CTL.ROM || r = CAN.CTL.FDOE then s.canMode i
  else if r = ETH.MSEC_CFG.TX_AN then (s.set r (s0.get r i) i).txAn i (s.get r i)
  else if r = SYS.AS_CTL.DISC_EN then s.on (!s.is r) fun t => (t.set SYS.AS_STAT.TRIM 0).setAs 0
  else if r = PERF.CTL.EN then s.on (s.is r) (·.set PERF.stopped 0)
  else if r = PERF.CNT_HI.CNT then s.set PERF.cntHi (s.get r i) i
  else if r = HK.CTL.THR_EN then s.on (!s.is r) (·.thrOff)
  else if r = HK.BAND_GI.B1 || r = HK.BAND_ABI.B1 then s.bandRound
  else s.proxyFrame r i j

/-- The fields of a slot word (R198). -/
def slotFields : List Row := [GI.SLOT_CFG.DVDT_TGT, GI.SLOT_CFG.DV_FIRST, GI.SLOT_CFG.DV_LAST]

/-- The dead times of a PU's bands (R148). -/
def deadTimeFields : List Row := [PU.DT_B01.DT0, PU.DT_B01.DT1, PU.DT_B23.DT2, PU.DT_B23.DT3]

/-- The fields of a write that its rules accept: those refused are taken out until the rest obey their rules with what then stands in
the register (R5, R66). -/
def fittingFields (s : State) (data : Nat) : Nat → List (Row × Nat × Nat) → List (Row × Nat × Nat)
  | 0, fs => fs
  | n + 1, fs =>
    let t := fs.foldl (fun t f => t.putField f.1 f.2.1 f.2.2 (f.1.cut data)) s
    let g := fs.filter fun f => t.fieldFits f.1 f.2.1 f.2.2
    if g.length = fs.length then fs else fittingFields s data n g

/-- A write of a register's fields (R3 to R5): each field by its access code, what is refused keeps its value with CFG_REJECT set, a
write to locked or forbidden fields raises ACCESS_REFUSED. -/
def regFields (s : State) (addr data : Nat) : State :=
  let fs := (fieldsAt addr).filter fun f => !ownFields.contains f.1 && !s.fieldAbsent f.1 f.2.1
    && s.getBit SYS.PWR_STAT.PD_ON (fieldDomain addr f.1 f.2.1)
  let ctl (f : Row × Nat × Nat) := blockCtl addr f.1 f.2.1
  let locked (f : Row × Nat × Nat) : Bool := (f.1.acc == .rwl || f.1 == DLI.PIT_CTL.SEL) && s.is (ctl f).1 (ctl f).2.2
  let shut (f : Row × Nat × Nat) : Bool := locked f || s.fieldDenied f.1 (f.1.cut data)
  let open' := fs.filter fun f => !shut f && s.fieldOpen f.1 f.2.1 data
  let tried := open'.foldl (fun t f => t.putField f.1 f.2.1 f.2.2 (f.1.cut data)) s
  let good := s.fittingFields data open'.length open'
  let s1 := good.foldl (fun t f => t.putField f.1 f.2.1 f.2.2 (f.1.cut data)) s
  let bad := fs.filter fun f => !shut f && !good.contains f
  let s2 := bad.foldl (fun t f => t.set (ctl f).2.1 1 (ctl f).2.2) s1
  let s3 := good.foldl (fun t f => s.fieldEffect t f.1 f.2.1 f.2.2) s2
  let s4 := s3.on (bad.any fun f => f.1 == SQ.CAR_CFG.F_CAR && !tried.injOk f.2.1) fun t =>
    bad.foldl (fun u f => u.on (f.1 == SQ.CAR_CFG.F_CAR) (·.set OB.CTL.CFG_REJECT 1 f.2.1)) t
  let s5 := match good.find? fun f => deadTimeFields.contains f.1 && decide (f.2.1 < 2) with
    | some f => s.minpWarn s4 f.2.1
    | none => s4
  let s6 := match good.find? fun f => slotFields.contains f.1 with
    | some f => s5.gateWrite f.2.1 (0x100 + f.2.2) (s5.slotWord f.2.1 f.2.2)
    | none => s5
  s6.on (fs.any shut) (·.accessRefused addr data)

/-- The events of R470 with the blocks that raise them and the modes they admit, 0 edge, 1 level, 2 threshold. -/
def perfEvents : List (Nat × List Nat × Nat) :=
  [(0x01, [0x15, 0x13, 0x14, 0x18], 1), (0x02, [0x15, 0x13, 0x14, 0x18], 0), (0x03, [0x15, 0x13, 0x14, 0x18], 1),
   (0x04, [0x15, 0x13, 0x14, 0x18], 0), (0x10, [0x12], 0), (0x11, [0x12], 0), (0x18, [0x10, 0x11], 0), (0x19, [0x10, 0x11], 0),
   (0x20, [0x20], 0), (0x28, [0x1D], 0), (0x29, [0x1D], 2), (0x30, [0x02], 0), (0x31, [0x02], 2), (0x38, [0x1A], 0), (0x39, [0x1A], 2)]

/-- An event that R470 lists; the SOURCE codes of the host cores are not stated, so their events are accepted from any block that
has none of the codes listed (log entry 25). -/
def perfListed (source event mode : Nat) : Bool :=
  let coded := [0x15, 0x13, 0x14, 0x18, 0x12, 0x10, 0x11, 0x20, 0x1D, 0x02, 0x1A].contains source
  (perfEvents.any fun p => p.1 == event && p.2.1.contains source && p.2.2 == mode)
    || (!coded && ((event == 1 && mode == 1) || (event == 2 && mode == 0) || (event == 5 && mode == 0)))

/-- A write of CNTn_SEL (R470): while the counter is enabled only CEN may be cleared; else the register is written whole, or refused. -/
def selWrite (s : State) (n data : Nat) : State :=
  let f (r : Row) : Nat := r.cut data
  let fields := [PERF.CNT_SEL.MODE, PERF.CNT_SEL.SOURCE, PERF.CNT_SEL.INST, PERF.CNT_SEL.EVENT, PERF.CNT_SEL.THRESH]
  if s.is PERF.CNT_SEL.CEN n then
    let s1 := s.set PERF.CNT_SEL.CEN (f PERF.CNT_SEL.CEN) n
    s1.on (fields.any fun r => f r != s.get r n) (·.set PERF.CTL.CFG_REJECT 1)
  else if !perfListed (f PERF.CNT_SEL.SOURCE) (f PERF.CNT_SEL.EVENT) (f PERF.CNT_SEL.MODE)
      || (f PERF.CNT_SEL.CEN == 1 && !s.is PERF.CTL.EN) then s.set PERF.CTL.CFG_REJECT 1
  else (PERF.CNT_SEL.CEN :: fields).foldl (fun t r => t.set r (f r) n) s

/-- The operations of the mailbox (R305). -/
def mbxOps : List Nat := [0x01, 0x02, 0x03, 0x10, 0x11, 0x12, 0x13, 0x14, 0x15]

/-- A register of the Belay mailbox (R305). -/
def mbxAddr (addr : Nat) : Bool :=
  addr == BL.MBX_CMD.GO.addr 0 0 || addr == BL.MBX_ARG.ARG.addr 0 0 || addr == BL.MBX_ARG.ARG.addr 1 0 || addr == BL.MBX_STAT.COLL.addr 0 0
    || addr == BL.MBX_RSP.RSP.addr 0 0

/-- A write to the BL window (R3, R305, R306): only the mailbox takes one. GO starts a command with the role of the session it came
through; a GO while BUSY is ignored with COLL. Any other offset raises ACCESS_REFUSED, which for an RWS field without an open safety
password session is entered in the safety log too. -/
def belayWrite (s : State) (addr data : Nat) : State :=
  if addr = BL.MBX_CMD.GO.addr 0 0 then
    let go := BL.MBX_CMD.GO.cut data == 1
    if s.is BL.MBX_STAT.BUSY then s.on go (·.set BL.MBX_STAT.COLL 1)
    else
      let op := BL.MBX_CMD.OP.cut data
      let s1 := (s.set BL.MBX_CMD.CNT (BL.MBX_CMD.CNT.cut data)).set BL.MBX_CMD.OP op
      s1.on go fun t =>
        let u := (((t.set BL.MBX_CMD.GO 1).set BL.MBX_STAT.BUSY 1).set BL.mbxRole t.linkRole).set BL.sesT t.now
        if mbxOps.contains op then u else u.mbxDone 1 0
  else if addr = BL.MBX_ARG.ARG.addr 0 0 || addr = BL.MBX_ARG.ARG.addr 1 0 then
    if s.is BL.MBX_STAT.BUSY then s else s.set BL.MBX_ARG.ARG data (if addr = BL.MBX_ARG.ARG.addr 0 0 then 0 else 1)
  else if addr = BL.MBX_STAT.COLL.addr 0 0 then s.on (BL.MBX_STAT.COLL.cut data == 1) (·.set BL.MBX_STAT.COLL 0)
  else if addr = BL.MBX_RSP.RSP.addr 0 0 then s
  else if (fieldsAt addr).any (fun f => f.1.acc == .rws) && !s.is BL.PWD_STAT.OPEN then
    s.safetyRefused (addr - 0x01300000) data s.linkRole
  else s.accessRefused addr data

/-- A write through BAR0 (R250): the shared SRAM window, the MSI-X table, the registers; an offset that no block occupies, or whose
domain is off (R413), ignores it. -/
def barWrite (s : State) (addr data : Nat) : State :=
  let a := addr - addr % 4
  if !s.getBit SYS.PWR_STAT.PD_ON 2 then s
  else if a < 0x00400000 then s.memPut32 a data
  else if a < 0x01000000 || 0x01400000 ≤ a then s
  else if 0x01018000 ≤ a && a < 0x01018200 then s.msixWrite ((a - 0x01018000) / 16) (a % 16 / 4) data
  else if 0x01300000 ≤ a then s.on (s.getBit SYS.PWR_STAT.PD_ON 1) (·.belayWrite a data)
  else
    match PERF.CNT_SEL.CEN.placeAt a with
    | some p => s.selWrite p.1 data
    | none => s.regFields a data

/-- A field as a read shows it: 0 in a domain that is off (R413), the trip registers of PU1 in joined mode (R154), the inactive bank in
TBL_WIN (R100), XTRIP in an aux unit without XT_AUX (R151), a write-only field (R3). -/
def readField (s : State) (addr : Nat) (f : Row × Nat × Nat) : Nat :=
  let r := f.1
  let i := f.2.1
  if r.acc = .wo || !s.getBit SYS.PWR_STAT.PD_ON (fieldDomain addr r i) then 0
  else if (tripFields.contains r || 0x0112102C ≤ addr && addr < 0x01121050) && s.joined && i = 1 then 0
  else if (r = PU.TRIP_EN.EN || r = PU.TRIP_STAT.SRC) && 2 ≤ i && !s.xtAux then s.get r i - (s.get r i &&& 0x1000)
  else if ropeFields.contains r && 4 ≤ i then 0
  else if r = SEC.AUTH_STAT.LOCK_LEFT then (if s.is r then (s.lockLeft + 6399999999) / 6400000000 else 0)
  else if r = SEC.ROLE.IDLE_LEFT then
    (if s.is SEC.ROLE.OPEN then (s.get SEC.idleT + 400000000 * s.get SEC.ROLE_CFG.ROLE_TMO - s.now + 399999999) / 400000000 else 0)
  else if r = SQ.TBL_WIN.ENTRY then s.entry i (1 - s.get SQ.TBL_CTL.ACT_BANK i) f.2.2
  else s.get r i f.2.2

/-- A read through BAR0: a read of TIME_LO or of a counter's low half latches the high half (R432, R470); a word of the shared SRAM is
checked, and one with two wrong bits returns no data (R459). -/
def barRead (s : State) (addr : Nat) : State × Nat :=
  let a := addr - addr % 4
  if !s.getBit SYS.PWR_STAT.PD_ON 2 then (s, 0)
  else if a < 0x00400000 then
    let s1 := s.eccCheck 0 (a / 8)
    if 2 ≤ s1.eccOf 0 (a / 8) then ({ s1 with fresh := s1.fresh + 1 }, Config.fresh s1.fresh % 2 ^ 32) else (s1, s1.memWord a 4)
  else if a < 0x01000000 || 0x01400000 ≤ a then (s, 0)
  else if 0x01018000 ≤ a && a < 0x01018200 then (s, s.get RING.msixTable ((a - 0x01018000) / 16) (a % 16 / 4))
  else if a = 0x0101C000 then (s, s.get RING.pba)
  else if a = SYS.TIME.TIME.addr 0 0 then
    ((s.set SYS.TIME.TIME s.now 0).set SYS.TIME.TIME (s.now / 2 ^ 32) 1, s.now % 2 ^ 32)
  else
    match PERF.CNT_LO.CNT.placeAt a with
    | some p => let s1 := s.perfLatch p.1; (s1.set PERF.CNT_HI.CNT (s1.get PERF.cntHi p.1) p.1, s1.get PERF.CNT_LO.CNT p.1)
    | none => (s, ((fieldsAt a).map fun f => s.readField a f * 2 ^ f.1.lo).sum)

/-! The debug access port -/

/-- The level that an access finds (R396): none without a session, none while nothing is reachable (R399). -/
def dbgLevel (s : State) : Nat := if s.is SEC.DBG_STAT.OPEN && !s.is SYS.lowState then s.get SEC.DBG_STAT.LEVEL else 0

/-- The level that an access needs (R394, R396); 4 none grants it. The mailbox, through which a debug session too sets a password (R322, R323), is
written at D2 (DEDUCED, log entry 26). -/
def dbgNeeds (s : State) (sp : DbgSpace) (write : Bool) : Nat :=
  match sp with
  | .bar0 a => if !write then 1 else if 0x01300000 ≤ a.toNat && a.toNat < 0x01400000 && !mbxAddr (a.toNat - a.toNat % 4) then 3 else 2
  | .hostMem _ _ => if write then 2 else 1
  | .sqStore _ _ => if write then 2 else 1
  | .localData e _ => if e = 6 && !write then 1 else 2
  | .engReg _ _ => 2
  | .code _ _ => 2
  | .calRam _ => if s.get SEC.LC_STAT.STATE = 0 then 3 else 4

/-- The engine whose access locks the table ports (R395): local data and registers of CE and OB, and any write of code. -/
def dbgLocks (sp : DbgSpace) (write : Bool) : Option Nat :=
  match sp with
  | .localData e _ => if e.val < 6 then some e else none
  | .engReg e _ => if e.val < 6 then some e else none
  | .code e _ => if write then some e else none
  | _ => none

/-- A register of an engine's register file: D0 to D15, A0 to A3, P0 to P7, C0 to C3. -/
def engRegRow (k : Nat) : Option (Row × Nat) :=
  if k < 16 then some (CE.d, k) else if k < 20 then some (CE.a, k - 16) else if k < 28 then some (CE.p, k - 20)
  else if k < 32 then some (CE.c, k - 28) else none

/-- A fresh free value is read: what the firmware or a calibration image has put there is not stated (log entry 26). -/
def sendFree (s : State) : State := { s.send (.readData (Config.fresh s.fresh % 2 ^ 32)) with fresh := s.fresh + 1 }

/-- A word of a memory that the firmware loads: what was written into it since, zero where a destructive march has left it (bit `b` of
MEM.blank), else what the firmware has put there. -/
def sendHeld (s : State) (r on : Row) (i j b : Nat) : State :=
  if s.is on i j || s.getBit MEM.blank b then s.send (.readData (s.get r i j)) else s.sendFree

/-- A granted read. -/
def dbgRead (s : State) (sp : DbgSpace) : State :=
  match sp with
  | .bar0 a => let r := s.barRead a.toNat; r.1.send (.readData r.2)
  | .localData e w => s.send (.readData (s.get CE.ld e w.toNat))
  | .engReg e k => match engRegRow k.toNat with
    | some r => s.send (.readData (s.get r.1 e r.2))
    | none => s.send (.readData 0)
  | .hostMem c w => s.sendHeld MEM.host MEM.hostOn c w.toNat 0
  | .sqStore a w => s.sendHeld SQ.store SQ.storeOn a w.toNat (8 + a)
  | .code e w => s.sendHeld CE.code CE.codeOn e w.toNat (1 + e)
  | .calRam w => s.send (.readData (s.calRam w.toNat))

/-- A granted write, under the role of the debug session (R322); at D3 the fields of the Belay island are written directly (R396). -/
def dbgWrite (s : State) (sp : DbgSpace) (data : Nat) : State :=
  match sp with
  | .bar0 a =>
    let x := a.toNat - a.toNat % 4
    if 0x01300000 ≤ x && x < 0x01400000 && !mbxAddr x then
      ((fieldsAt x).filter fun f => f.1.acc == .rws && f.1.inRange (f.1.cut data)).foldl
        (fun t f => t.set f.1 (f.1.cut data) f.2.1 f.2.2) s
    else ((s.set SEC.viaDbg 1).barWrite x data).set SEC.viaDbg 0
  | .localData e w => (s.set CE.ld data e w.toNat).set CE.ldM 0 e w.toNat
  | .engReg e k => match engRegRow k.toNat with
    | some r => s.set r.1 data e r.2
    | none => s
  | .hostMem c w => (s.set MEM.host data c w.toNat).set MEM.hostOn 1 c w.toNat
  | .sqStore a w => (s.set SQ.store data a w.toNat).set SQ.storeOn 1 a w.toNat
  | .code e w => (s.set CE.code data e w.toNat).set CE.codeOn 1 e w.toNat
  | .calRam w => (s.set SEC.calW data 0 w.toNat).set SEC.calOn 1 0 w.toNat

/-- A host access through BAR0: it restarts the time that an open role session may stand idle (R386). -/
def hostAccess (s : State) : State := s.on (s.is SEC.ROLE.OPEN) fun t => t.set SEC.idleT t.now

end State

/-- REG_WRITE (R3 to R5, R250, R305, R306, R413): a 32-bit write through BAR0. -/
def execRegWrite (addr : BitVec 26) (data : BitVec 32) (s : State) : Out :=
  .next (s.hostAccess.barWrite addr.toNat data.toNat)

/-- DEBUG_ACCESS (R394 to R396, R399, R402): an access beyond the granted level is refused, one to the calibration RAM with CAL_ACCESS
too; the first that touches CE or OB, or writes engine code, locks the table ports, unless a traction channel is enabled: then it is
refused as NOT_IDLE. A read that waits for the zeroing completes with zeros. -/
def execDebugAccess (sp : DbgSpace) (write : Bool) (data : BitVec 32) (s : State) : Out :=
  .next (if s.dbgLevel < s.dbgNeeds sp write then
      match sp with
      | .calRam w => (s.on (1 ≤ s.dbgLevel) (·.secEvent .fault 0x0307 4 w.toNat)).send (.debugRefused false)
      | _ => s.send (.debugRefused false)
    else
      match State.dbgLocks sp write with
      | none => if write then s.dbgWrite sp data.toNat else s.dbgRead sp
      | some e =>
        if !s.is SEC.CAL_STAT.TBL_LOCK && [0, 1, 7].any (fun ch => s.is ACT.chEn ch) then s.send (.debugRefused true)
        else
          let arg0 := match sp with
            | .code _ _ => 2
            | _ => 1
          let s1 := if s.is SEC.CAL_STAT.TBL_LOCK then s else s.tblLock arg0 e
          if write then s1.dbgWrite sp data.toNat
          else if s1.is SEC.lockZero then s1.set SEC.heldRead 1
          else s1.dbgRead sp)

end Sys2Proof.Machine
end

