-- ==== Sys2Proof/Machine/Ridge.lean ====
section
/-!
DEFINITION. The Ridge layer's messages, safe hold, the safety password session, the change log and the pitons (13), and
the setpoint streams (11).
-/
namespace Sys2Proof.Machine

/-- The message at the front of the Belay island's input. -/
def State.popRidge (s : State) : State := { s with ridgeIn := s.ridgeIn.drop 1 }

/-- RIDGE_CHECK (R312): the next message is checked and takes its outcome; a START that passes is START's own. -/
def execRidgeCheck (s : State) : Out :=
  .next (match s.ridgeIn with
    | [] => s
    | m :: _ =>
      if m.seq = 0 && s.ridgeJudge m == 0 then s else s.popRidge.ridgeMeet m)

/-- START (R313): the next message is a START that passes checks 1 to 4. -/
def execRidgeStart (s : State) : Out :=
  .next (match s.ridgeIn with
    | [] => s
    | m :: _ => if m.seq = 0 && s.ridgeJudge m == 0 then s.popRidge.ridgeMeet m else s)

/-- SETPOINT_DESC (R265): the ring's descriptor starts playing its records, COUNT = LEN / 16: the ring must fit the
mode (joined or not), the channel be enabled, and SMODE be 0 or 1 on a traction ring but in a START, SEQ 0, which ignores it (R313). -/
def execSetpointDesc (ring : Fin 8) (records : List (BitVec 128)) (s : State) : Out :=
  let n : Nat := ring
  let ch := ringCh n
  .next (match s.desc n with
    | none => s
    | some d =>
      let rs : List Nat := if d.inl then
          [d.w0.toNat + 2 ^ 32 * d.w1.toNat + 2 ^ 64 * d.w2.toNat + 2 ^ 96 * d.w3.toNat]
        else (records.map (·.toNat)).take (d.len.toNat / 16)
      let traction := n = 2 || n = 3 || n = 7
      if n < 2 || (s.play n).isSome || rs.length != d.len.toNat / 16 then s
      else if (n = 7 && !s.joined) || ((n = 2 || n = 3) && s.joined) then s.complete n .state 0
      else if !s.is ACT.chEn ch then s.complete n .notEnabled 0
      else if traction && rs.any (fun r => 2 ≤ r / 2 ^ 32 % 256 && r / 2 ^ 64 % 65536 != 0) then s.complete n .range 0
      else s.setPlay { ring := n, left := rs, accepted := 0, refused := false, waits := false })

/-- SETPOINT_RECORD (R266, R267): every SP_PER the next record of the list goes to the Belay island; a channel no longer
enabled takes none and the descriptor completes NOT_ENABLED (R265). -/
def execSetpointRecord (ring : Fin 8) (s : State) : Out :=
  let n : Nat := ring
  .next (match s.play n with
    | none => s
    | some p =>
      match p.left with
      | [] => s
      | r :: rest =>
        if !s.is ACT.chEn (ringCh n) then s.complete n .notEnabled 0
        else
          let t := s.setPlay { p with left := rest }
          { t with ridgeIn := t.ridgeIn ++ [{ chan := 0, inst := n, ident := 0, mac := 0, data := leBytes 16 r }] })

/-- HOLD engage (R264, R286): STATE while CH6 is disabled; byte 0 other than 0 and 1 is RANGE. -/
def execRingHold (net : Bool) (s : State) : Out :=
  .next (match s.command net 0x13 with
    | none => s
    | some b =>
      if b % 256 = 0 then s
      else if b % 256 ≠ 1 then s.commandDone net .range 0
      else if !s.is ACT.chEn 6 then s.commandDone net .state 0
      else (s.holdIssue 3).commandOver net .ok)

/-- HOLD_RELEASE (R317): the outputs are de-energized, except while BIV_EXPIRED is set on any axis. -/
def execHoldRelease (net : Bool) (s : State) : Out :=
  .next (match s.command net 0x13 with
    | none => s
    | some b =>
      if b % 256 ≠ 0 then s
      else if s.is BL.AXIS.BIV_EXPIRED 0 || s.is BL.AXIS.BIV_EXPIRED 1 then s.commandDone net .state 0
      else ((((s.set BL.STATUS.HOLD_REQ 0).set BL.STATUS.HOLD_PEND 0).set BL.holdDriven 0).shSet 0).commandOver
        net .ok)

/-- HOLD_DRIVE (R286): a pending HOLD is driven once every axis is below HOLD_WMAX. -/
def execHoldDrive (s : State) : Out := .next s.holdTryDrive

/-- The kind row of a safe-hold output. -/
def shKindRow (o : Nat) : Row := if o = 0 then BL.SH_STAT.KIND_A else BL.SH_STAT.KIND_B

/-- SH_FAULT on an output (R321): both switches off and kept off until a Belay reset, and the safety-log event. A HOLD
that stands is then driven on the other output alone. -/
def State.shFault (s : State) (o kind : Nat) : State :=
  if s.getBit BL.SH_STAT.FAULT o then s
  else
    let s1 := (((s.setBit BL.SH_STAT.FAULT o true).set (shKindRow o) kind).shSet (s.get BL.SH_STAT.ON - 2 ^ o * ofBool (s.getBit BL.SH_STAT.ON o))).safetyLog 6 0x0212
      o kind
    s1.on (s1.is BL.holdDriven) fun t => t.setb BL.holdDriven (t.is BL.SH_STAT.ON)

/-- Both islands watch an output (R319, R320): enabled in CH6, not faulted, supplied. -/
def State.shWatched (s : State) (o : Nat) : Bool :=
  s.is ACT.chEn 6 && bit s.shEn o && !s.getBit BL.SH_STAT.FAULT o && !s.getBit BL.SH_STAT.NO_SUPPLY o

/-- A word of CH6's accepted safety section (R318). -/
def State.shWord (s : State) (off hi lo : Nat) : Nat := s.secField 6 off hi lo

/-- The output has changed within SETTLE (R319, R320). -/
def State.shSettles (s : State) (o : Nat) : Bool :=
  s.is BL.shT o && decide (s.now + 1 < s.get BL.shT o + 400000 * s.shWord 0x048 15 0)

/-- The readback of an output in SH_VAL; a value outside its code is clipped. -/
def State.shVal (s : State) (o : Nat) (vh vl ic : Int) : State :=
  ((s.set BL.SH_VAL.V_H (min vh.toNat 1023) o).set BL.SH_VAL.V_L (min vl.toNat 1023) o).seti BL.SH_VAL.I_C (max (-2047) (min 2047 ic)) o

/-- No coil current: below 50 mA (R320), in codes of 2 mA. -/
def shSmall (ic : Int) : Bool := decide (-25 < ic ∧ ic < 25)

/-- The steady rows of R320 for an energized or de-energized output: 0 inside the window, else the fault kind. Voltages in codes of 60 mV,
current in 2 mA. Where the row's columns do not tell which of its two kinds it is, either (free value, log entry 50). -/
def State.shSteady (s : State) (on : Bool) (vaux vh vl ic : Int) : Nat :=
  let below (v : Int) := decide (100 * v < 30 * vaux)
  let above (v : Int) := decide (70 * vaux < 100 * v)
  let either := Config.free 320 [vaux, vh, vl, ic] % 2
  if !on then
    let lo := below vh || below vl
    let hi := above vh || above vl
    if !lo && !hi && shSmall ic then 0 else if lo && !hi then 1 else if hi && !lo then 2 else 1 + either
  else if decide (ic * s.shWord 0x044 31 16 < 3000 * vaux) then 5
  else if decide (3000 * vaux < ic * s.shWord 0x044 15 0) then 6
  else if decide (80 * vaux < 100 * vh) && decide (100 * vl < 20 * vaux) then 0
  else 5 + either

/-- SH_FAULT (R320, R321): a readback that has stood for 1 ms, judged: the islands disagree, the current is above I_LIM, or from SETTLE after a
change it lies outside the window of the output's state. SH_VAL shows it, also of an output that is faulted. -/
def execShFault (output : Fin 2) (agree : Bool) (vaux vh vl ic : Int) (s : State) : Out :=
  let o : Nat := output
  let s1 := s.shVal o vh vl ic
  let k := if !agree then 10 else if decide (10 * s.shWord 0x048 31 16 < 2 * ic.natAbs) then 7
    else if s.shSettles o then 0 else s.shSteady (s.getBit BL.SH_STAT.ON o) vaux vh vl ic
  .next (s1.on (s.shWatched o && k != 0) (·.shFault o k))

/-- The windows of R320 for a test pulse: 0 passed, else the fault kind. Voltages in codes of 60 mV, current in 2 mA. OPEN_COIL is the node of the
switch that stays off failing alone (DEDUCED for the low side from the high side's row, log entry 50); a current flows where it is not below 50 mA. -/
def shTest (on low : Bool) (vaux vh vl ic : Int) : Nat :=
  let hi (v : Int) := decide (80 * vaux < 100 * v)
  let lo (v : Int) := decide (100 * v < 20 * vaux)
  if !on then
    if !low then (if hi vh && shSmall ic then (if hi vl then 0 else 5) else 3)
    else if lo vl && shSmall ic then (if lo vh then 0 else 5) else 4
  else if !low then (if decide (vh < 0) && lo vl && !shSmall ic then 0 else 8)
  else if hi vh && decide (vaux < vl) && !shSmall ic then 0 else 9

/-- TEST_PULSE (R319, R320): a light test while the output is de-energized, a dark test while it is energized; one due
within SETTLE of a change is skipped and counted. The SH piton spoils the next readback (R328). -/
def execTestPulse (output : Fin 2) (low : Bool) (agree : Bool) (vaux : Int) (vh : Int) (vl : Int) (ic : Int) (s : State) : Out :=
  let o : Nat := output
  .next (if !s.shWatched o then s
    else if s.shSettles o then s.incSat BL.SH_STAT.SKIP
    else
      let on := s.getBit BL.SH_STAT.ON o
      let p := s.pit 0x30 10 o
      let s1 := (s.on p (·.pitAct)).shVal o vh vl ic
      let k := if !agree then 10 else if p then (if on then (if low then 9 else 8) else (if low then 4 else 3))
        else shTest on low vaux vh vl ic
      s1.on (k != 0) (·.shFault o k))

/-- PWD_LOCKOUT_END (R324): the lockout ends with its last second. -/
def execPwdLockoutEnd (s : State) : Out :=
  .next (s.on (s.get BL.PWD_STAT.LOCK_LEFT == 1 && s.get BL.lockUs == 1000000) fun t => (t.set BL.PWD_STAT.LOCK_LEFT 0).set BL.lockUs 0)

/-- SES_TMO (R325): SES_TMO seconds without a mailbox command, and the session closes; during a mailbox command after that command. -/
def execSesTmo (s : State) : Out :=
  .next (if !s.is BL.PWD_STAT.OPEN || decide (s.now < s.get BL.sesT + 400000000 * s.get BL.PWD_CFG.SES_TMO) then s
    else if s.is BL.MBX_STAT.BUSY then s.set BL.sesTmoPend 1 else s.sesClose)

/-- PWD_BUF_CLEAR (R323): 10 s without a PWD_LOAD. -/
def execPwdBufClear (s : State) : Out := .next (if s.now < s.get BL.pwdT + 4000000000 then s else { s with pwdBuf := [] })

/-- PWD_LOAD (R322): CNT bytes of ARG0 and ARG1 appended, CNT 0 meaning 8; above 32 bytes RANGE, and a CNT above 8 is
outside the field's range. The response is the bytes held. -/
def execPwdLoad (s : State) : Out :=
  .next (if !s.mbx 0x10 then s
    else
      let c := s.get BL.MBX_CMD.CNT
      let n := if c = 0 then 8 else c
      let bytes := (leBytes 4 (s.get BL.MBX_ARG.ARG 0) ++ leBytes 4 (s.get BL.MBX_ARG.ARG 1)).take n
      if 8 < n || 32 < s.pwdBuf.length + n then s.mbxDone 2 s.pwdBuf.length
      else
        let buf : List Byte := s.pwdBuf ++ bytes.map (BitVec.ofNat 8)
        (({ s with pwdBuf := buf } : State).set BL.pwdT s.now).mbxDone 0 buf.length)

/-- A role may open a safety password session in the life-cycle state (R323). -/
def State.sesRoleOk (s : State) (role : Nat) : Bool :=
  match s.get SEC.LC_STAT.STATE with
  | 0 => role == 1
  | 1 | 2 => role == 2
  | 3 => role == 2 || role == 4
  | _ => false

/-- The password slot of a role: INTEGRATOR 0, SERVICE 1. -/
def pwdSlot (role : Nat) : Nat := if role = 4 then 1 else 0

/-- The hash of a salt and the loaded password (R323): SHA-256 of the 16 salt bytes and the password bytes. -/
def State.pwdHashOf (s : State) (salt : Nat) : Nat :=
  sha256 (leBytes 16 salt ++ s.pwdBuf.map (·.toNat))

/-- The lockout after a failure (R324): 60 s from the third consecutive one, doubled by each further one up to the
thirteenth. -/
def lockoutAfter (fails : Nat) : Nat := if fails < 3 then 0 else 60 * 2 ^ (min fails 13 - 3)

/-- A session opens (R323). -/
def State.sesStart (s : State) (role : Nat) : State :=
  let t := (((s.set BL.PWD_STAT.OPEN 1).set BL.PWD_STAT.ROLE role).set BL.PWD_STAT.FAILS 0).inc BL.sesNum
  (t.safetyLog 0 0x0214 role 1).mbxDone 0 (t.get BL.sesNum)

/-- A failed SES_OPEN is counted and logged (R323, R324). -/
def State.sesFail (s : State) (role : Nat) : State :=
  let t := s.incSat BL.PWD_STAT.FAILS
  let n := t.get BL.PWD_STAT.FAILS
  ((t.on (3 ≤ n) fun u => (u.set BL.PWD_STAT.LOCK_LEFT (lockoutAfter n)).set BL.lockUs 0).safetyLog 0 0x0213 role n).mbxDone 3 0

/-- SES_OPEN (R323, R324): refused without a check during a lockout, while a session is open, for a role that may not
open one or is not the caller's, and for a slot without a password; else the hash decides. VENDOR in MANUFACTURE needs
no password. The buffer is cleared after every SES_OPEN. -/
def execSesOpen (s : State) : Out :=
  .next (if !s.mbx 0x11 then s
    else
      let role := s.get BL.MBX_ARG.ARG 0
      let t : State := { s with pwdBuf := [] }
      if s.is BL.PWD_STAT.LOCK_LEFT || s.is BL.PWD_STAT.OPEN || !s.sesRoleOk role || role != s.get BL.mbxRole then
        t.mbxDone 3 0
      else if s.get SEC.LC_STAT.STATE = 0 then t.sesStart role
      else if !s.is BL.pwdSet (pwdSlot role) then t.mbxDone 3 0
      else if 8 ≤ s.pwdBuf.length && s.pwdHashOf (s.get BL.pwdSalt (pwdSlot role)) == s.get BL.pwdHash (pwdSlot role) then
        t.sesStart role
      else t.sesFail role)

/-- SES_CLOSE (R325). -/
def execSesClose (s : State) : Out := .next (if s.mbx 0x12 then s.sesClose.mbxDone 0 0 else s)

/-- PWD_SET (R323, R325, R326): inside a session of the slot's own role, or the first password of a slot by a caller in
that role; a new random salt; logged with NEW = 0. The buffer is cleared after every PWD_SET; an entry that cannot be written leaves the slot. -/
def execPwdSet (written : Bool) (s : State) : Out :=
  .next (if !s.mbx 0x13 then s
    else
      let slot := s.get BL.MBX_ARG.ARG 0
      let t : State := { s with pwdBuf := [] }
      let k := pwdSlot slot
      let own := s.is BL.PWD_STAT.OPEN && s.get BL.PWD_STAT.ROLE == slot
      let first := !s.is BL.pwdSet k && s.get BL.mbxRole == slot && s.sesRoleOk slot
      if slot ≠ 2 ∧ slot ≠ 4 then t.mbxDone 2 0
      else if !own && !first then t.mbxDone 3 0
      else if s.pwdBuf.length < 8 then t.mbxDone 2 0
      else if !written then t.mbxDone 3 0
      else
        let salt := Config.fresh s.fresh % 2 ^ 128
        let u := (({ t with fresh := t.fresh + 1 } : State).logAppend 2 slot slot 0 (leBytes 32 (s.get BL.pwdHash k)))
        (((u.set BL.pwdSet 1 k).set BL.pwdSalt salt k).set BL.pwdHash (s.pwdHashOf salt) k).mbxDone 0 0)

/-- LOG_VERIFY (R322, R327). -/
def execLogVerify (s : State) : Out :=
  .next (if s.mbx 0x14 then s.mbxDone 0 (chainCheck (s.get BL.logAnchor) s.log) else s)

/-- LOG_ANCHOR (R322, R327): a word 0 to 7 of the anchor chain value. -/
def execLogAnchor (s : State) : Out :=
  .next (if !s.mbx 0x15 then s
    else if 7 < s.get BL.MBX_ARG.ARG 0 then s.mbxDone 2 0
    else s.mbxDone 0 (s.get BL.logAnchor / 2 ^ (32 * s.get BL.MBX_ARG.ARG 0) % 2 ^ 32))

/-- A session slot's enabled configuration is permitted (R308): DST listed, DST 0x08 not on PCIe, INST in the channel's
range, and no second enabled slot with the destination. -/
def State.slotOk (s : State) (k data : Nat) : Bool :=
  let f (r : Row) := r.cut data
  let inst := f BL.RS_CFG.INST
  let dst := f BL.RS_CFG.DST
  let chan := f BL.RS_CFG.CHAN
  f BL.RS_CFG.EN = 0 || (1 ≤ dst && dst ≤ 8 && !(dst = 8 && chan = 0)
    && inst ≤ (if chan = 0 then 0 else if chan = 1 then 3 else 1)
    && (List.range 16).all fun j => j == k || !s.is BL.RS_CFG.EN j || s.get BL.RS_CFG.DST j != dst)

/-- The value of a CFG_WRITE obeys the ranges of the register tables (R306, R308); SC_OFF lies below SC_ON. -/
def State.cfgInRange (s : State) (off data : Nat) (fs : List (Row × Nat × Nat)) : Bool :=
  fs.all (fun f => f.1.inRange (f.1.cut data))
    && (if 0x0100 ≤ off && off < 0x0180 && off % 8 = 0 then
          0x4000 ≤ BL.POL_LO.SC_OFF.cut data && BL.POL_LO.SC_OFF.cut data < BL.POL_LO.SC_ON.cut data else true)
    && (if 0x0700 ≤ off && off < 0x0800 && off % 16 = 0 then s.slotOk ((off - 0x0700) / 16) data else true)

/-- CFG_WRITE (R306, R326): inside a session, to a register with RWS fields, with a value in range: the log entry is
written first, then only the RWS fields take the value; both logs have it. An entry that cannot be written leaves the
field; with `applied` false a reset comes between the entry and the field, and the command never completes. -/
def execMbxCfgWrite (written applied : Bool) (s : State) : Out :=
  .next (if !s.mbx 0x01 then s
    else
      let off := s.get BL.MBX_ARG.ARG 0
      let data := s.get BL.MBX_ARG.ARG 1
      let fs := rwsAt off
      let held := s.readWord (0x01300000 + off)
      if !s.is BL.PWD_STAT.OPEN || fs.isEmpty || 0x00100000 ≤ off then
        (s.safetyRefused (off % 0x00100000) data (s.get BL.mbxRole)).mbxDone 3 held
      else if !s.cfgInRange off data fs then s.mbxDone 2 held
      else if !written then s.mbxDone 3 held
      else
        let s1 := s.logAppend 1 (s.get BL.PWD_STAT.ROLE) off data (leBytes 4 held)
        let s2 := s1.rollForward
        if !applied then s1 else (s2.safetyLog 0 0x020D off data).mbxDone 0 (s2.readWord (0x01300000 + off)))

/-- PIT_ARM (R307, R329): ARG0 [3:0] SEL and [11:8] the instance; not permitted completes REFUSED with ACCESS_REFUSED. -/
def execMbxPitArm (s : State) : Out :=
  .next (if !s.mbx 0x02 then s
    else
      let sel := s.get BL.MBX_ARG.ARG 0 % 16
      let inst := bits (s.get BL.MBX_ARG.ARG 0) 11 8
      if s.pitAllowed then (if sel = 0 || 10 < sel then s.mbxDone 2 0 else (s.pitSet 0x30 sel inst 0).mbxDone 0 0)
      else ((s.accessRefused 0x01300020 (2 ^ 31 + 2)).safetyLog 0 0x020E 0x02 (s.get BL.mbxRole)).mbxDone 3 0)

/-- PIT_TIMEOUT (R330): an armed piton that has not acted within 10 s disarms on its own; nothing is logged. -/
def execPitTimeout (s : State) : Out := .next (if s.is BL.PIT_STAT.ARMED && decide (s.get BL.pitT + 4000000000 ≤ s.now) then s.pitDisarm else s)

end Sys2Proof.Machine
end

