-- ==== Sys2Proof/Machine/Dispatch.lean ====
section
/-!
DEFINITION. What each command does: one arm per constructor, each one call of that command's own meaning.
-/
namespace Sys2Proof.Machine

/-- The effect of a command on everything but the queue. -/
def exec (i : Instr) (s : State) : Host.Outcome State Fault Refusal :=
  match i with
  | .regWrite addr data => Sys2Proof.Machine.execRegWrite addr data s
  | .fastSample => Sys2Proof.Machine.execFastSample s
  | .ctrlSample axis => Sys2Proof.Machine.execCtrlSample axis s
  | .comparatorSample dat => Sys2Proof.Machine.execComparatorSample dat s
  | .chValid ch => Sys2Proof.Machine.execChValid ch s
  | .ofsStart axis => Sys2Proof.Machine.execOfsStart axis s
  | .ofsDone axis => Sys2Proof.Machine.execOfsDone axis s
  | .ofsAbandon axis => Sys2Proof.Machine.execOfsAbandon axis s
  | .senClip ch => Sys2Proof.Machine.execSenClip ch s
  | .senBsl ch => Sys2Proof.Machine.execSenBsl ch s
  | .sumFault star => Sys2Proof.Machine.execSumFault star s
  | .sup5Fault b => Sys2Proof.Machine.execSup5Fault b s
  | .ihaSample codes => Sys2Proof.Machine.execIhaSample codes s
  | .ihaSat ch => Sys2Proof.Machine.execIhaSat ch s
  | .ihaCm ch => Sys2Proof.Machine.execIhaCm ch s
  | .ihaAdc ch => Sys2Proof.Machine.execIhaAdc ch s
  | .ihaSum star => Sys2Proof.Machine.execIhaSum star s
  | .xchkWindow => Sys2Proof.Machine.execXchkWindow s
  | .curXchk ch => Sys2Proof.Machine.execCurXchk ch s
  | .pvRecon axis legs => Sys2Proof.Machine.execPvRecon axis legs s
  | .legMis leg => Sys2Proof.Machine.execLegMis leg s
  | .vdcFrame code fb seq crcOk => Sys2Proof.Machine.execVdcFrame code fb seq crcOk s
  | .vdcStale => Sys2Proof.Machine.execVdcStale s
  | .vdcLost => Sys2Proof.Machine.execVdcLost s
  | .senPitArm sel ch => Sys2Proof.Machine.execSenPitArm sel ch s
  | .pitTimeout => Sys2Proof.Machine.execPitTimeout s
  | .capRequest axis => Sys2Proof.Machine.execCapRequest axis s
  | .capFrame axis startOk valid attn word crc delay request => Sys2Proof.Machine.execCapFrame axis startOk valid attn word crc delay request s
  | .capTimeout axis => Sys2Proof.Machine.execCapTimeout axis s
  | .capRecoveryEnd axis => Sys2Proof.Machine.execCapRecoveryEnd axis s
  | .absLost axis => Sys2Proof.Machine.execAbsLost axis s
  | .incEdge axis aLeads stamp => Sys2Proof.Machine.execIncEdge axis aLeads stamp s
  | .incIllegal axis => Sys2Proof.Machine.execIncIllegal axis s
  | .incIndex axis => Sys2Proof.Machine.execIncIndex axis s
  | .reref axis => Sys2Proof.Machine.execReref axis s
  | .lineFlt axis pair present => Sys2Proof.Machine.execLineFlt axis pair present s
  | .posStill axis => Sys2Proof.Machine.execPosStill axis s
  | .sourceLost axis => Sys2Proof.Machine.execSourceLost axis s
  | .posPitArm axis sel => Sys2Proof.Machine.execPosPitArm axis sel s
  | .decisionTick => Sys2Proof.Machine.execDecisionTick s
  | .tblSwap axis => Sys2Proof.Machine.execTblSwap axis s
  | .refStale axis => Sys2Proof.Machine.execRefStale axis s
  | .bandWindow axis => Sys2Proof.Machine.execBandWindow axis s
  | .obsLost axis => Sys2Proof.Machine.execObsLost axis s
  | .stoppingRampEnd axis => Sys2Proof.Machine.execStoppingRampEnd axis s
  | .xyHigh axis => Sys2Proof.Machine.execXyHigh axis s
  | .afConv axis => Sys2Proof.Machine.execAfConv axis s
  | .obPitArm axis sel => Sys2Proof.Machine.execObPitArm axis sel s
  | .sqPitArm axis sel => Sys2Proof.Machine.execSqPitArm axis sel s
  | .injConv axis => Sys2Proof.Machine.execInjConv axis s
  | .polPulseEnd axis => Sys2Proof.Machine.execPolPulseEnd axis s
  | .polFail axis => Sys2Proof.Machine.execPolFail axis s
  | .injLost axis => Sys2Proof.Machine.execInjLost axis s
  | .injLostRampEnd axis => Sys2Proof.Machine.execInjLostRampEnd axis s
  | .travRequest axis => Sys2Proof.Machine.execTravRequest axis s
  | .travHandover axis => Sys2Proof.Machine.execTravHandover axis s
  | .travAbort axis => Sys2Proof.Machine.execTravAbort axis s
  | .travHoldEnd axis => Sys2Proof.Machine.execTravHoldEnd axis s
  | .travStep axis => Sys2Proof.Machine.execTravStep axis s
  | .catchClassify axis => Sys2Proof.Machine.execCatchClassify axis s
  | .catchPulse axis => Sys2Proof.Machine.execCatchPulse axis s
  | .catchResult axis => Sys2Proof.Machine.execCatchResult axis s
  | .catchDeadline axis => Sys2Proof.Machine.execCatchDeadline axis s
  | .puReload pu peak stamp => Sys2Proof.Machine.execPuReload pu peak stamp s
  | .cmpWrite pu leg value late => Sys2Proof.Machine.execCmpWrite pu leg value late s
  | .puCommit pu late => Sys2Proof.Machine.execPuCommit pu late s
  | .puCompare pu leg stamp => Sys2Proof.Machine.execPuCompare pu leg stamp s
  | .puTrip pu src unit stamp => Sys2Proof.Machine.execPuTrip pu src unit stamp s
  | .captureClose pu => Sys2Proof.Machine.execCaptureClose pu s
  | .tripClear pu mask quiet => Sys2Proof.Machine.execTripClear pu mask quiet s
  | .firstFaultRearm pu => Sys2Proof.Machine.execFirstFaultRearm pu s
  | .swTrip pu => Sys2Proof.Machine.execSwTrip pu s
  | .debugHalt belay => Sys2Proof.Machine.execDebugHalt belay s
  | .debugRelease => Sys2Proof.Machine.execDebugRelease s
  | .puFrz pu value => Sys2Proof.Machine.execPuFrz pu value s
  | .frzAbort pu => Sys2Proof.Machine.execFrzAbort pu s
  | .puPitArm pu sel src => Sys2Proof.Machine.execPuPitArm pu sel src s
  | .cePeriodStart unit reload => Sys2Proof.Machine.execCePeriodStart unit reload s
  | .ceOverrun unit => Sys2Proof.Machine.execCeOverrun unit s
  | .ceRelease unit lateCmp lateRef => Sys2Proof.Machine.execCeRelease unit lateCmp lateRef s
  | .coefWrite eng index word => Sys2Proof.Machine.execCoefWrite eng index word s
  | .cePitArm eng sel => Sys2Proof.Machine.execCePitArm eng sel s
  | .engIllegal eng => Sys2Proof.Machine.execEngIllegal eng s
  | .engMov eng m => Sys2Proof.Machine.execEngMov eng m s
  | .engLdi eng dst imm => Sys2Proof.Machine.execEngLdi eng dst imm s
  | .engLd eng dst p coef => Sys2Proof.Machine.execEngLd eng dst p coef s
  | .engSt eng src p => Sys2Proof.Machine.execEngSt eng src p s
  | .engLda eng dst src => Sys2Proof.Machine.execEngLda eng dst src s
  | .engSta eng dst src => Sys2Proof.Machine.execEngSta eng dst src s
  | .engStaw eng src p => Sys2Proof.Machine.execEngStaw eng src p s
  | .engAdd eng r => Sys2Proof.Machine.execEngAdd eng r s
  | .engSub eng r => Sys2Proof.Machine.execEngSub eng r s
  | .engNeg eng r => Sys2Proof.Machine.execEngNeg eng r s
  | .engAbs eng r => Sys2Proof.Machine.execEngAbs eng r s
  | .engShl eng r n => Sys2Proof.Machine.execEngShl eng r n s
  | .engShr eng r n => Sys2Proof.Machine.execEngShr eng r n s
  | .engMul eng dst x y => Sys2Proof.Machine.execEngMul eng dst x y s
  | .engMac eng dst x y => Sys2Proof.Machine.execEngMac eng dst x y s
  | .engMsu eng dst x y => Sys2Proof.Machine.execEngMsu eng dst x y s
  | .engCmplt eng dst x y => Sys2Proof.Machine.execEngCmplt eng dst x y s
  | .engCmple eng dst x y => Sys2Proof.Machine.execEngCmple eng dst x y s
  | .engCmpeq eng dst x y => Sys2Proof.Machine.execEngCmpeq eng dst x y s
  | .engSel eng dst c x y => Sys2Proof.Machine.execEngSel eng dst c x y s
  | .engMin eng dst x y => Sys2Proof.Machine.execEngMin eng dst x y s
  | .engMax eng dst x y => Sys2Proof.Machine.execEngMax eng dst x y s
  | .engClamp eng dst x lo hi => Sys2Proof.Machine.execEngClamp eng dst x lo hi s
  | .engSincos eng sin cos angle => Sys2Proof.Machine.execEngSincos eng sin cos angle s
  | .engPark eng dst1 dst2 x y angle => Sys2Proof.Machine.execEngPark eng dst1 dst2 x y angle s
  | .engIpark eng dst1 dst2 x y angle => Sys2Proof.Machine.execEngIpark eng dst1 dst2 x y angle s
  | .engClarke eng dst1 dst2 u v w => Sys2Proof.Machine.execEngClarke eng dst1 dst2 u v w s
  | .engSqrt eng dst x => Sys2Proof.Machine.execEngSqrt eng dst x s
  | .engDiv eng dst x y => Sys2Proof.Machine.execEngDiv eng dst x y s
  | .engPidf eng dst ps pc err meas ff => Sys2Proof.Machine.execEngPidf eng dst ps pc err meas ff s
  | .engTlu eng dst handle x miss bad => Sys2Proof.Machine.execEngTlu eng dst handle x miss bad s
  | .engFfs eng dst slot miss bad => Sys2Proof.Machine.execEngFfs eng dst slot miss bad s
  | .engIn eng dst port => Sys2Proof.Machine.execEngIn eng dst port s
  | .engOut eng out src => Sys2Proof.Machine.execEngOut eng out src s
  | .engOutrel eng => Sys2Proof.Machine.execEngOutrel eng s
  | .engBr eng target => Sys2Proof.Machine.execEngBr eng target s
  | .engBrc eng c target => Sys2Proof.Machine.execEngBrc eng c target s
  | .engCall eng target => Sys2Proof.Machine.execEngCall eng target s
  | .engRet eng => Sys2Proof.Machine.execEngRet eng s
  | .engLoop eng count last => Sys2Proof.Machine.execEngLoop eng count last s
  | .engEnd eng => Sys2Proof.Machine.execEngEnd eng s
  | .edgeCmd isl on slot dly wait ref busy => Sys2Proof.Machine.execEdgeCmd isl on slot dly wait ref busy s
  | .edgeStart isl dvdt => Sys2Proof.Machine.execEdgeStart isl dvdt s
  | .trimSatWarn isl slot => Sys2Proof.Machine.execTrimSatWarn isl slot s
  | .softOff isl src ref busy => Sys2Proof.Machine.execSoftOff isl src ref busy s
  | .cfgWr isl addr data => Sys2Proof.Machine.execCfgWr isl addr data s
  | .cfgRd isl addr => Sys2Proof.Machine.execCfgRd isl addr s
  | .idleFrame isl => Sys2Proof.Machine.execIdleFrame isl s
  | .cairnFrame isl ref busy => Sys2Proof.Machine.execCairnFrame isl ref busy s
  | .islandRelease isl => Sys2Proof.Machine.execIslandRelease isl s
  | .confDone isl => Sys2Proof.Machine.execConfDone isl s
  | .islandSwap isl => Sys2Proof.Machine.execIslandSwap isl s
  | .crcHi isl data => Sys2Proof.Machine.execCrcHi isl data s
  | .crcLo isl data => Sys2Proof.Machine.execCrcLo isl data s
  | .islandReset isl => Sys2Proof.Machine.execIslandReset isl s
  | .proxyRelease isl => Sys2Proof.Machine.execProxyRelease isl s
  | .proxyConfDone isl => Sys2Proof.Machine.execProxyConfDone isl s
  | .proxySwap isl => Sys2Proof.Machine.execProxySwap isl s
  | .statusFrame isl vds vage => Sys2Proof.Machine.execStatusFrame isl vds vage s
  | .edgeFrame isl vds vage atEnd on t first => Sys2Proof.Machine.execEdgeFrame isl vds vage atEnd on t first s
  | .tripFrame isl vds vage tdet first => Sys2Proof.Machine.execTripFrame isl vds vage tdet first s
  | .measFrame isl vds vage sel val => Sys2Proof.Machine.execMeasFrame isl vds vage sel val s
  | .cfgRsp isl vds vage => Sys2Proof.Machine.execCfgRsp isl vds vage s
  | .islandLinkLoss isl => Sys2Proof.Machine.execIslandLinkLoss isl s
  | .endpointLinkLoss isl => Sys2Proof.Machine.execEndpointLinkLoss isl s
  | .belayCode isl word => Sys2Proof.Machine.execBelayCode isl word s
  | .scTurnOn isl start dvdt => Sys2Proof.Machine.execScTurnOn isl start dvdt s
  | .ovbAssert isl cm => Sys2Proof.Machine.execOvbAssert isl cm s
  | .bcTurnOn isl start dvdt => Sys2Proof.Machine.execBcTurnOn isl start dvdt s
  | .ovbDeassert isl => Sys2Proof.Machine.execOvbDeassert isl s
  | .islandUvlo isl below6 => Sys2Proof.Machine.execIslandUvlo isl below6 s
  | .uvloRecover isl => Sys2Proof.Machine.execUvloRecover isl s
  | .islandDesat isl => Sys2Proof.Machine.execIslandDesat isl s
  | .islandDidt isl => Sys2Proof.Machine.execIslandDidt isl s
  | .islandOt isl ntc => Sys2Proof.Machine.execIslandOt isl ntc s
  | .islandPowerUp isl => Sys2Proof.Machine.execIslandPowerUp isl s
  | .osdStart star => Sys2Proof.Machine.execOsdStart star s
  | .osdStep star u v w => Sys2Proof.Machine.execOsdStep star u v w s
  | .glkPitArm isl sel => Sys2Proof.Machine.execGlkPitArm isl sel s
  | .axPeriodStart ch peak u v w => Sys2Proof.Machine.execAxPeriodStart ch peak u v w s
  | .auxOc ch ph high amps => Sys2Proof.Machine.execAuxOc ch ph high amps s
  | .vauxSample code => Sys2Proof.Machine.execVauxSample code s
  | .vauxRestart ch => Sys2Proof.Machine.execVauxRestart ch s
  | .spLost ch => Sys2Proof.Machine.execSpLost ch s
  | .auxCatch ch nodes => Sys2Proof.Machine.execAuxCatch ch nodes s
  | .startFail ch => Sys2Proof.Machine.execStartFail ch s
  | .auxAlignEnd ch => Sys2Proof.Machine.execAuxAlignEnd ch s
  | .auxInjConv ch => Sys2Proof.Machine.execAuxInjConv ch s
  | .auxPolPulseEnd ch => Sys2Proof.Machine.execAuxPolPulseEnd ch s
  | .obsSlow ch => Sys2Proof.Machine.execObsSlow ch s
  | .auxVlim ch => Sys2Proof.Machine.execAuxVlim ch s
  | .vlimClear ch => Sys2Proof.Machine.execVlimClear ch s
  | .bsUv ch ph code => Sys2Proof.Machine.execBsUv ch ph code s
  | .bsHoldEnd ch => Sys2Proof.Machine.execBsHoldEnd ch s
  | .axPitArm ch ph sel => Sys2Proof.Machine.execAxPitArm ch ph sel s
  | .actRefresh mask => Sys2Proof.Machine.execActRefresh mask s
  | .actSave => Sys2Proof.Machine.execActSave s
  | .actVerify mask => Sys2Proof.Machine.execActVerify mask s
  | .entryFetched words words0 src1 => Sys2Proof.Machine.execEntryFetched words words0 src1 s
  | .fetchTmo => Sys2Proof.Machine.execFetchTmo s
  | .bindCheck => Sys2Proof.Machine.execBindCheck s
  | .cacheCheck ch good => Sys2Proof.Machine.execCacheCheck ch good s
  | .saveDone words complete => Sys2Proof.Machine.execSaveDone words complete s
  | .perstn => Sys2Proof.Machine.execPerstn s
  | .functionLevelReset => Sys2Proof.Machine.execFunctionLevelReset s
  | .linkDown => Sys2Proof.Machine.execLinkDown s
  | .busMasterClear => Sys2Proof.Machine.execBusMasterClear s
  | .sizeWrite ring size => Sys2Proof.Machine.execSizeWrite ring size s
  | .doorbell ring tail highOnly => Sys2Proof.Machine.execDoorbell ring tail highOnly s
  | .descFetch ring d => Sys2Proof.Machine.execDescFetch ring d s
  | .dmaError ring payload => Sys2Proof.Machine.execDmaError ring payload s
  | .irqTimer ring => Sys2Proof.Machine.execIrqTimer ring s
  | .ringNop => Sys2Proof.Machine.execRingNop s
  | .ringSnapshot => Sys2Proof.Machine.execRingSnapshot s
  | .snapshotNext => Sys2Proof.Machine.execSnapshotNext s
  | .ringRefresh => Sys2Proof.Machine.execRingRefresh s
  | .ringVerify => Sys2Proof.Machine.execRingVerify s
  | .ringSave => Sys2Proof.Machine.execRingSave s
  | .ringPower => Sys2Proof.Machine.execRingPower s
  | .ringReset => Sys2Proof.Machine.execRingReset s
  | .ringEnable net => Sys2Proof.Machine.execRingEnable net s
  | .ringDisable net => Sys2Proof.Machine.execRingDisable net s
  | .disableRampEnd ch => Sys2Proof.Machine.execDisableRampEnd ch s
  | .ringDischarge net => Sys2Proof.Machine.execRingDischarge net s
  | .dischargeCancel net => Sys2Proof.Machine.execDischargeCancel net s
  | .ringHold net => Sys2Proof.Machine.execRingHold net s
  | .holdRelease net => Sys2Proof.Machine.execHoldRelease net s
  | .setpointDesc ring records => Sys2Proof.Machine.execSetpointDesc ring records s
  | .setpointRecord ring => Sys2Proof.Machine.execSetpointRecord ring s
  | .telemetryRecord ring bankFree => Sys2Proof.Machine.execTelemetryRecord ring bankFree s
  | .eventRecord cls => Sys2Proof.Machine.execEventRecord cls s
  | .fwChunk data => Sys2Proof.Machine.execFwChunk data s
  | .fwCheckDone keyOk sigOk => Sys2Proof.Machine.execFwCheckDone keyOk sigOk s
  | .calChunk data => Sys2Proof.Machine.execCalChunk data s
  | .calCheckDone keyIdOk tagOk => Sys2Proof.Machine.execCalCheckDone keyIdOk tagOk s
  | .changeLog => Sys2Proof.Machine.execChangeLog s
  | .eventStore => Sys2Proof.Machine.execEventStore s
  | .snapshotRead => Sys2Proof.Machine.execSnapshotRead s
  | .canSend ring w2 w3 data => Sys2Proof.Machine.execCanSend ring w2 w3 data s
  | .canCancel ring onBus => Sys2Proof.Machine.execCanCancel ring onBus s
  | .ethSend frame => Sys2Proof.Machine.execEthSend frame s
  | .canRx ctrl frame stamp => Sys2Proof.Machine.execCanRx ctrl frame stamp s
  | .ethRx port frame fcsOk tag stamp => Sys2Proof.Machine.execEthRx port frame fcsOk tag stamp s
  | .blSelection axis => Sys2Proof.Machine.execBlSelection axis s
  | .safeEnter axis => Sys2Proof.Machine.execSafeEnter axis s
  | .belayRelease pu => Sys2Proof.Machine.execBelayRelease pu s
  | .tmError mon => Sys2Proof.Machine.execTmError mon s
  | .katPeriodic mon pass => Sys2Proof.Machine.execKatPeriodic mon pass s
  | .tmXchk => Sys2Proof.Machine.execTmXchk s
  | .blIndex axis => Sys2Proof.Machine.execBlIndex axis s
  | .alignTimeout axis => Sys2Proof.Machine.execAlignTimeout axis s
  | .statusWord => Sys2Proof.Machine.execStatusWord s
  | .bivWarn axis => Sys2Proof.Machine.execBivWarn axis s
  | .bivExpire axis => Sys2Proof.Machine.execBivExpire axis s
  | .sglTimeout axis => Sys2Proof.Machine.execSglTimeout axis s
  | .setpointLapse axis => Sys2Proof.Machine.execSetpointLapse axis s
  | .lapseRampEnd axis => Sys2Proof.Machine.execLapseRampEnd axis s
  | .lapseHoldEnd axis => Sys2Proof.Machine.execLapseHoldEnd axis s
  | .xtripPin asserted => Sys2Proof.Machine.execXtripPin asserted s
  | .hvilFault kind => Sys2Proof.Machine.execHvilFault kind s
  | .hvilRestore => Sys2Proof.Machine.execHvilRestore s
  | .ssoutFault => Sys2Proof.Machine.execSsoutFault s
  | .heartbeatSend => Sys2Proof.Machine.execHeartbeatSend s
  | .blHeartbeat seq => Sys2Proof.Machine.execBlHeartbeat seq s
  | .ciLost => Sys2Proof.Machine.execCiLost s
  | .holdDrive => Sys2Proof.Machine.execHoldDrive s
  | .blVdcSample v => Sys2Proof.Machine.execBlVdcSample v s
  | .vdcFallback => Sys2Proof.Machine.execVdcFallback s
  | .mbxCfgWrite written applied => Sys2Proof.Machine.execMbxCfgWrite written applied s
  | .mbxPitArm => Sys2Proof.Machine.execMbxPitArm s
  | .mbxKat pass => Sys2Proof.Machine.execMbxKat pass s
  | .pwdLoad => Sys2Proof.Machine.execPwdLoad s
  | .sesOpen => Sys2Proof.Machine.execSesOpen s
  | .sesClose => Sys2Proof.Machine.execSesClose s
  | .pwdSet written => Sys2Proof.Machine.execPwdSet written s
  | .logVerify => Sys2Proof.Machine.execLogVerify s
  | .logAnchor => Sys2Proof.Machine.execLogAnchor s
  | .ridgeCheck => Sys2Proof.Machine.execRidgeCheck s
  | .ridgeStart => Sys2Proof.Machine.execRidgeStart s
  | .netReset => Sys2Proof.Machine.execNetReset s
  | .testPulse output low agree vaux vh vl ic => Sys2Proof.Machine.execTestPulse output low agree vaux vh vl ic s
  | .shFault output agree vaux vh vl ic => Sys2Proof.Machine.execShFault output agree vaux vh vl ic s
  | .pwdLockoutEnd => Sys2Proof.Machine.execPwdLockoutEnd s
  | .sesTmo => Sys2Proof.Machine.execSesTmo s
  | .pwdBufClear => Sys2Proof.Machine.execPwdBufClear s
  | .dliDownlink => Sys2Proof.Machine.execDliDownlink s
  | .disStep len => Sys2Proof.Machine.execDisStep len s
  | .disStepEnd => Sys2Proof.Machine.execDisStepEnd s
  | .disEnd => Sys2Proof.Machine.execDisEnd s
  | .dliLinkLoss => Sys2Proof.Machine.execDliLinkLoss s
  | .stuckOff => Sys2Proof.Machine.execStuckOff s
  | .stuckOn => Sys2Proof.Machine.execStuckOn s
  | .broadcastAssert => Sys2Proof.Machine.execBroadcastAssert s
  | .broadcastDeassert => Sys2Proof.Machine.execBroadcastDeassert s
  | .abseilStep => Sys2Proof.Machine.execAbseilStep s
  | .ledgerUpdate stepEnd => Sys2Proof.Machine.execLedgerUpdate stepEnd s
  | .disMiss => Sys2Proof.Machine.execDisMiss s
  | .dliPitArm sel => Sys2Proof.Machine.execDliPitArm sel s
  | .canJoin ctrl => Sys2Proof.Machine.execCanJoin ctrl s
  | .canTxDone ctrl stamp => Sys2Proof.Machine.execCanTxDone ctrl stamp s
  | .canTxError ctrl lec inData => Sys2Proof.Machine.execCanTxError ctrl lec inData s
  | .idCollision ctrl => Sys2Proof.Machine.execIdCollision ctrl s
  | .canAlone ctrl => Sys2Proof.Machine.execCanAlone ctrl s
  | .busOff ctrl => Sys2Proof.Machine.execBusOff ctrl s
  | .boRecover ctrl => Sys2Proof.Machine.execBoRecover ctrl s
  | .canRecovered ctrl => Sys2Proof.Machine.execCanRecovered ctrl s
  | .domTmo ctrl => Sys2Proof.Machine.execDomTmo ctrl s
  | .canPex ctrl tdcv => Sys2Proof.Machine.execCanPex ctrl tdcv s
  | .canPitArm ctrl buf sel => Sys2Proof.Machine.execCanPitArm ctrl buf sel s
  | .ethLinkChange port up sqi => Sys2Proof.Machine.execEthLinkChange port up sqi s
  | .msFault port => Sys2Proof.Machine.execMsFault port s
  | .ethTxDone port src stamp => Sys2Proof.Machine.execEthTxDone port src stamp s
  | .pdelayRx port stamp => Sys2Proof.Machine.execPdelayRx port stamp s
  | .syncRx offset => Sys2Proof.Machine.execSyncRx offset s
  | .asLocked => Sys2Proof.Machine.execAsLocked s
  | .asHoldover => Sys2Proof.Machine.execAsHoldover s
  | .slowRound codes mt missing => Sys2Proof.Machine.execSlowRound codes mt missing s
  | .roundDone => Sys2Proof.Machine.execRoundDone s
  | .hkStale => Sys2Proof.Machine.execHkStale s
  | .bsRst => Sys2Proof.Machine.execBsRst s
  | .abiOt bridge => Sys2Proof.Machine.execAbiOt bridge s
  | .dieOt belay => Sys2Proof.Machine.execDieOt belay s
  | .otRestart sensor => Sys2Proof.Machine.execOtRestart sensor s
  | .hkPitArm sens sel => Sys2Proof.Machine.execHkPitArm sens sel s
  | .lcTransition target fused whole => Sys2Proof.Machine.execLcTransition target fused whole s
  | .authChallenge debug role level => Sys2Proof.Machine.execAuthChallenge debug role level s
  | .authVerify debug good => Sys2Proof.Machine.execAuthVerify debug good s
  | .authClose debug => Sys2Proof.Machine.execAuthClose debug s
  | .roleTmo => Sys2Proof.Machine.execRoleTmo s
  | .authLockoutEnd => Sys2Proof.Machine.execAuthLockoutEnd s
  | .intInstall slot unwraps kInt => Sys2Proof.Machine.execIntInstall slot unwraps kInt s
  | .roleInstall slot => Sys2Proof.Machine.execRoleInstall slot s
  | .roleRevoke slot => Sys2Proof.Machine.execRoleRevoke slot s
  | .sakInstall slot => Sys2Proof.Machine.execSakInstall slot s
  | .sakRetire slot => Sys2Proof.Machine.execSakRetire slot s
  | .fuseBlow slot => Sys2Proof.Machine.execFuseBlow slot s
  | .fwCommit => Sys2Proof.Machine.execFwCommit s
  | .calLoadDone tagOk kinds => Sys2Proof.Machine.execCalLoadDone tagOk kinds s
  | .debugAccess sp write data => Sys2Proof.Machine.execDebugAccess sp write data s
  | .singleStep engine => Sys2Proof.Machine.execSingleStep engine s
  | .tapIdcode => Sys2Proof.Machine.execTapIdcode s
  | .tapBypass => Sys2Proof.Machine.execTapBypass s
  | .tapSamplePreload => Sys2Proof.Machine.execTapSamplePreload s
  | .tapExtest => Sys2Proof.Machine.execTapExtest s
  | .dapSelect => Sys2Proof.Machine.execDapSelect s
  | .dbgTrstn => Sys2Proof.Machine.execDbgTrstn s
  | .dbgVrefLoss => Sys2Proof.Machine.execDbgVrefLoss s
  | .bootRom inForce pending => Sys2Proof.Machine.execBootRom inForce pending s
  | .pwrCmd target => Sys2Proof.Machine.execPwrCmd target s
  | .parkRampEnd => Sys2Proof.Machine.execParkRampEnd s
  | .unparkDone => Sys2Proof.Machine.execUnparkDone s
  | .autoUnpark => Sys2Proof.Machine.execAutoUnpark s
  | .pdEn value => Sys2Proof.Machine.execPdEn value s
  | .domainOn pd => Sys2Proof.Machine.execDomainOn pd s
  | .vlvLow vlv => Sys2Proof.Machine.execVlvLow vlv s
  | .vlvHigh vlv => Sys2Proof.Machine.execVlvHigh vlv s
  | .brownout group => Sys2Proof.Machine.execBrownout group s
  | .brownoutRecover group => Sys2Proof.Machine.execBrownoutRecover group s
  | .wakePin => Sys2Proof.Machine.execWakePin s
  | .wakeAlarm => Sys2Proof.Machine.execWakeAlarm s
  | .pwrWakeLow => Sys2Proof.Machine.execPwrWakeLow s
  | .dliPowerOn => Sys2Proof.Machine.execDliPowerOn s
  | .pllFault dev => Sys2Proof.Machine.execPllFault dev s
  | .pllLock => Sys2Proof.Machine.execPllLock s
  | .clkFault clk inst dev => Sys2Proof.Machine.execClkFault clk inst dev s
  | .clkAmbig => Sys2Proof.Machine.execClkAmbig s
  | .timeLoRead => Sys2Proof.Machine.execTimeLoRead s
  | .cairnGo => Sys2Proof.Machine.execCairnGo s
  | .cairnArm => Sys2Proof.Machine.execCairnArm s
  | .cairnAt => Sys2Proof.Machine.execCairnAt s
  | .cairnQueued => Sys2Proof.Machine.execCairnQueued s
  | .engineBarrier eng => Sys2Proof.Machine.execEngineBarrier eng s
  | .sysPitArm sel => Sys2Proof.Machine.execSysPitArm sel s
  | .powerOn => Sys2Proof.Machine.execPowerOn s
  | .rstnAssert => Sys2Proof.Machine.execRstnAssert s
  | .rstCmd level warm source inst debug => Sys2Proof.Machine.execRstCmd level warm source inst debug s
  | .preResetEnd => Sys2Proof.Machine.execPreResetEnd s
  | .blkReset => Sys2Proof.Machine.execBlkReset s
  | .blkTimeout => Sys2Proof.Machine.execBlkTimeout s
  | .wdKick core key => Sys2Proof.Machine.execWdKick core key s
  | .hcWatchdog core => Sys2Proof.Machine.execHcWatchdog core s
  | .engineWatchdog engine stopped => Sys2Proof.Machine.execEngineWatchdog engine stopped s
  | .blRst bind => Sys2Proof.Machine.execBlRst bind s
  | .trimLoad copyA copyB whole => Sys2Proof.Machine.execTrimLoad copyA copyB whole s
  | .domainStep pd pass misr islands => Sys2Proof.Machine.execDomainStep pd pass misr islands s
  | .belayStart storeGood => Sys2Proof.Machine.execBelayStart storeGood s
  | .blSelftest pass => Sys2Proof.Machine.execBlSelftest pass s
  | .startReady => Sys2Proof.Machine.execStartReady s
  | .memScrub flips => Sys2Proof.Machine.execMemScrub flips s
  | .winAbort offset => Sys2Proof.Machine.execWinAbort offset s
  | .marchStart target destr repair => Sys2Proof.Machine.execMarchStart target destr repair s
  | .marchDone boot fails mem addr pos left spent rows cols => Sys2Proof.Machine.execMarchDone boot fails mem addr pos left spent rows cols s
  | .bistStart domain => Sys2Proof.Machine.execBistStart domain s
  | .bistDone pass misr islands => Sys2Proof.Machine.execBistDone pass misr islands s
  | .perfOvf n pc => Sys2Proof.Machine.execPerfOvf n pc s
  | .sampleRecord core idle record => Sys2Proof.Machine.execSampleRecord core idle record s
  | .cntLoRead n => Sys2Proof.Machine.execCntLoRead n s
  | .memPitArm addr sel => Sys2Proof.Machine.execMemPitArm addr sel s
  | .puStrobeLoss pu => Sys2Proof.Machine.execPuStrobeLoss pu s
  | .belayLineLoss isl => Sys2Proof.Machine.execBelayLineLoss isl s
  | .invalidFrame isl up word => Sys2Proof.Machine.execInvalidFrame isl up word s
  | .canRxError ctrl lec eight => Sys2Proof.Machine.execCanRxError ctrl lec eight s
  | .pcieLinkUp gen lanes mps mrrs => Sys2Proof.Machine.execPcieLinkUp gen lanes mps mrrs s
  | .rstnRelease => Sys2Proof.Machine.execRstnRelease s
  | .dliPowerLoss => Sys2Proof.Machine.execDliPowerLoss s
  | .zeroingDone => Sys2Proof.Machine.execZeroingDone s
  | .commonModeEvent isl => Sys2Proof.Machine.execCommonModeEvent isl s
  | .dbgVrefPresent => Sys2Proof.Machine.execDbgVrefPresent s

end Sys2Proof.Machine
end

