-- ==== Sys2Proof/Machine/Touch.lean ====
section
/-!
DEFINITION. What each command can change beside its own queue: the rows it may write, and the records that are no rows. The
lists follow the meanings: an operation that several commands share has a list of its own, and a command's list joins those of the
operations it uses. Everything that a list does not name is the same after the command as before.
-/
namespace Sys2Proof.Machine

/-- The records of the state that are no rows. -/
inductive Rec where
  /-- Device time. -/
  | now
  /-- The shared SRAM. -/
  | mem
  /-- The words with wrong bits and those corrected in this pass. -/
  | ecc
  /-- The queues of waiting events. -/
  | events
  /-- The MRAM event store. -/
  | store
  /-- The descriptors in progress. -/
  | descs
  /-- The setpoint lists being played. -/
  | plays
  /-- Messages on their way to the Belay island. -/
  | ridgeIn
  /-- The change log. -/
  | log
  /-- The engines' calls and loops. -/
  | eng
  /-- CAN transmit frames. -/
  | canTx
  /-- CAN frames waiting for a ring buffer. -/
  | canRxQ
  /-- Ethernet frames queued. -/
  | ethTxQ
  /-- The snapshot store. -/
  | snaps
  /-- The firmware image being built. -/
  | fwImage
  /-- The calibration image being built. -/
  | calImage
  /-- The password buffer. -/
  | pwdBuf
  /-- What the module has sent. -/
  | out
  /-- The model's count of free values. -/
  | fresh
deriving DecidableEq, Repr

/-- A record is the same in two states. -/
def Rec.Kept (s t : State) : Rec → Prop
  | .now => t.now = s.now
  | .mem => t.mem = s.mem
  | .ecc => t.eccBad = s.eccBad ∧ t.eccSeen = s.eccSeen
  | .events => ∀ c, t.queue c = s.queue c
  | .store => t.evStore = s.evStore
  | .descs => t.descs = s.descs
  | .plays => t.plays = s.plays
  | .ridgeIn => t.ridgeIn = s.ridgeIn
  | .log => t.log = s.log
  | .eng => t.engCalls = s.engCalls ∧ t.engLoops = s.engLoops
  | .canTx => t.canTx = s.canTx
  | .canRxQ => t.canRxQ = s.canRxQ
  | .ethTxQ => t.ethTxQ = s.ethTxQ
  | .snaps => t.snaps = s.snaps
  | .fwImage => t.fwImage = s.fwImage
  | .calImage => t.calImage = s.calImage
  | .pwdBuf => t.pwdBuf = s.pwdBuf
  | .out => t.out = s.out
  | .fresh => t.fresh = s.fresh

/-! The rows that shared operations may write -/

/-- The fields of the word of BAR0 at an address. -/
def Touch.word (addr : Nat) : List Row := (fieldsAt (addr - addr % 4)).map (·.1)

/-- The fields that the register images of an entry load (R240, R241). -/
def Touch.imaged : List Row :=
  (List.range 8).flatMap fun ch => (images ch).flatMap fun p => p.2.flatMap fun a => (imageFields a).map (·.1)

/-- What COLD, SYS, CTL or the fall of a domain clears: every field but those that nothing clears (R6). -/
def Touch.clearable : List Row := domainRows.flatMap fun d => d.1.filter fun r => r.clr != .never

/-- What a block reset clears (R446). -/
def Touch.blk : List Row := Touch.clearable.filter fun r => r.clr == .blk

/-- `perfAdd`. -/
def Touch.perfAdd : List Row := [PERF.CNT_LO.CNT, PERF.OVF.OVF, PERF.cntHi, RING.lost]

/-- `ringAdvance`. -/
def Touch.ringAdvance : List Row := [RING.HEAD.HEAD, RING.cplCount, RING.pass, RING.pba, RING.unsig] ++ Touch.perfAdd

/-- `ringRestart`. -/
def Touch.ringRestart : List Row := [ACT.disSrc, ACT.jobSrc, ACT.wMask, ACT.wOp, CAN.cxl, CAN.cxlDone, RING.CFG.SIZE,
  RING.ERR_SUM.ERR, RING.HALT_SUM.HALT, RING.HEAD.HEAD, RING.STAT.BUSY, RING.STAT.CFG, RING.STAT.HALT, RING.TAIL.TAIL,
  RING.lost, RING.pass, RING.ridgeOk, RING.sizePend, RING.snapLeft, SEC.finalCal, SEC.finalFw, SYS.pwrBy]

/-- `complete`. -/
def Touch.complete : List Row := Touch.ringAdvance ++ Touch.ringRestart

/-- `cancelEnd`. -/
def Touch.cancelEnd : List Row := [CAN.TXB_ACT.ACT, CAN.TXB_SHD.SHD, CAN.cxlRes] ++ Touch.complete

/-- `canInit`. -/
def Touch.canInit : List Row := [CAN.STATUS.STATE, CAN.cur] ++ Touch.cancelEnd

/-- `mbxDone`. -/
def Touch.mbxDone : List Row := [BL.MBX_CMD.GO, BL.MBX_RSP.RSP, BL.MBX_STAT.BUSY, BL.MBX_STAT.RESULT, BL.PWD_STAT.OPEN,
  BL.PWD_STAT.ROLE, BL.sesTmoPend, RING.lost]

/-- `pitDisarm`. -/
def Touch.pitDisarm : List Row := [AX.PIT_CTL.ARM, BL.PIT_STAT.ARMED, CAN.PIT_CTL.ARM, CE.PIT_CTL.ARM, DLI.PIT_CTL.ARM,
  GLK.PIT_CTL.ARM, HK.PIT_CTL.ARM, MEM.PIT_CTL.ARM, OB.PIT_CTL.ARM, POS.PIT_CTL.ARM, PU.PIT_CTL.ARM, SEN.PIT_CTL.ARM,
  SQ.PIT_CTL.ARM, SYS.PIT_CTL.ARM]

/-- `pitAct`. -/
def Touch.pitAct : List Row := [RING.lost] ++ Touch.pitDisarm

/-- `proxyFields`. -/
def Touch.proxyFields : List Row := [GI.CTL.CONF_DONE, GI.CTL.NTC_ABS, GI.CTL.RELEASE, GI.CTL.SC_SLOT, GI.CTL.SWAP,
  GI.LINK.ABORT, GI.LINK.BAD_CMD_CNT, GI.LINK.BAD_CRC, GI.LINK.LATE_EDGE, GI.MEAS_T.TDIE, GI.MEAS_T.TNTC, GI.MEAS_V.VNEG,
  GI.MEAS_V.VPOS, GI.PROF_CRC.CALC, GI.PROF_CRC.ISL, GI.PROF_DUR.E_MAX, GI.PROF_DUR.E_SOFT, GI.PROT.BLANK, GI.PROT.DESAT_FLT,
  GI.PROT.DESAT_V, GI.PROT.DIDT_FLT, GI.PROT.DIDT_TH, GI.SAFE_CFG.BC_VDS, GI.SAFE_CFG.BC_WAIT, GI.SAFE_CFG.SC_DLY,
  GI.STATUS.BAD_CMD, GI.STATUS.BANK, GI.STATUS.BL_CODE, GI.STATUS.BL_CONTRA, GI.STATUS.CM_EVT, GI.STATUS.ON, GI.STATUS.OVB,
  GI.STATUS.OVLP, GI.STATUS.PEND, GI.STATUS.PROF_CRC, GI.STATUS.TRIM, GI.STATUS.TRIM_SAT, GI.SUPPLY.UVLO_N, GI.SUPPLY.UVLO_P,
  GI.SUPPLY.VNEG_SET, GI.SUPPLY.VPOS_SET, GI.TRIP.DESAT, GI.TRIP.DIDT, GI.TRIP.LINK, GI.TRIP.OT, GI.TRIP.TRIP_CNT, GI.TRIP.UVLO,
  GI.VDS.CODE, GI.VDS.VAGE, GI.cfgOut]

/-- `range`. -/
def Touch.range : List Row := [RING.lost, SEN.CH_STAT.OVR, SEN.STATUS.CH_FAULT, SEN.chCond]

/-- `bsl`. -/
def Touch.bsl : List Row := [RING.lost, SEN.CH_STAT.BSL, SEN.CH_STAT.SUBST, SEN.STATUS.CH_FAULT, SEN.STATUS.SUBST, SEN.chCond,
  SEN.lostCh, SEN.ofsFlag]

/-- `clip`. -/
def Touch.clip : List Row := [RING.lost, SEN.CH_STAT.CLIP, SEN.STATUS.CH_FAULT, SEN.chCond, SEN.ofsFlag]

/-- `ofsBegin`. -/
def Touch.ofsBegin : List Row := [SEN.OFS_CMD.START_A, SEN.OFS_CMD.START_B, SEN.STATUS.OFS_DONE, SEN.ofsCnt, SEN.ofsFlag,
  SEN.ofsSum]

/-- `bivEnter1`. -/
def Touch.bivEnter1 : List Row := [BL.AXIS.BIV, BL.AXIS.BIV_LEFT, BL.CAUSE.BIV_CAUSE, BL.bivWarned, BL.causeReq, BL.selN,
  RING.lost]

/-- `pitSet`. -/
def Touch.pitSet : List Row := [BL.PIT_STAT.ARMED, BL.PIT_STAT.SEL, BL.PIT_STAT.SOURCE, BL.pitInst, BL.pitT, BL.pitUnit,
  RING.lost]

/-- `pitArm`. -/
def Touch.pitArm : List Row := Touch.pitSet

/-- `align`. -/
def Touch.align : List Row := [BL.blRef, BL.thRef, POS.ALIGN.ALIGN_SRC, POS.ALIGN.INC_OFS, POS.INC_STAT.ALIGNED]

/-- `capTmo`. -/
def Touch.capTmo : List Row := [POS.CAP_STAT.TMO, POS.CAP_STAT.TMO_CNT, POS.SPD_VAL.SPD_ABS, POS.discards, POS.spdSat,
  POS.tmoPit, POS.wordRow]

/-- `commandDone`. -/
def Touch.commandDone : List Row := [BL.RS_CNT.TX_DROP, BL.netBusy, BL.respSeq, CAN.TXB_ACT.ACT, CAN.TXB_SHD.SHD, CAN.cur] ++
  Touch.complete

/-- `disableDone`. -/
def Touch.disableDone : List Row := Touch.commandDone

/-- `injStart`. -/
def Touch.injStart : List Row := [OB.INJ_STAT.INJ_ACTIVE, OB.INJ_STAT.INJ_CONV, OB.hN, OB.injAng, OB.injIn, OB.injOut, OB.injPh,
  OB.injRampN, OB.injSpd, OB.injT, OB.slsAf]

/-- `jobFinish`. -/
def Touch.jobFinish : List Row := [ACT.CMD.GO, ACT.STAT.BUSY, ACT.job, ACT.jobStep] ++ Touch.commandDone

/-- `jobGo`. -/
def Touch.jobGo : List Row := [ACT.jobCh, ACT.jobFail, ACT.jobMask, ACT.vdcUnknown, ACT.wDone, ACT.wFail, SEC.CAL_STAT.ZEROING]
  ++ Touch.jobFinish

/-- `holdTryDrive`. -/
def Touch.holdTryDrive : List Row := [BL.SH_STAT.ON, BL.STATUS.HOLD_PEND, BL.holdDriven, BL.shT, RING.lost]

/-- `entryInForce`. -/
def Touch.entryInForce : List Row := [ACT.CH_VER.VERSION, ACT.STAT.CACHED, ACT.STAT.IN_FORCE, ACT.ent, ACT.entSrc, AX.mach,
  BL.sec, BL.secOk, BL.storeOk, CE.COEF_CTL.BANK, CE.COEF_CTL.PEND, CE.COEF_WIN.WORD, CE.FF_CFG.HANDLE, CE.coefRef,
  DLI.OV_CFG.OV_HW, OB.MAP_SEL.FLUX_MAP, OB.MAP_SEL.FLUX_MAP_Q, OB.MAP_SEL.MTPA, OB.MAP_SEL.MTPV, OB.handle, OB.mach,
  POS.CTL.SRC_EN, PU.CTL.DBL_UPD, PU.PER.PER] ++ Touch.holdTryDrive ++ Touch.imaged

/-- `stagedIn`. -/
def Touch.stagedIn : List Row := [ACT.CNT.REFRESH, ACT.ERR.RANGE, ACT.ERR_LOC.CH, ACT.ERR_LOC.OFS, ACT.STAT.PEND, ACT.jobDone,
  ACT.jobFail, ACT.wDone, ACT.wFail] ++ Touch.entryInForce

/-- `tractionEnd`. -/
def Touch.tractionEnd : List Row := [ACT.chEn, ACT.rampN, BL.AXIS.LINE, BL.run, CE.COEF_CTL.PEND, CE.CTL.RUN,
  OB.INJ_STAT.INJ_ACTIVE, OB.INJ_STAT.INJ_CONV, OB.polPh, OB.polRun, OB.polWait, OB.slsAf, PU.STATUS.DETACHED, RING.lost,
  SQ.CATCH_STAT.RESULT, SQ.STATUS.MODE, SQ.catchGo, SQ.injRamp, SQ.waitLegs]

/-- `traction0`. -/
def Touch.traction0 : List Row := [GI.cmdOn] ++ Touch.tractionEnd

/-- `legTo`. -/
def Touch.legTo : List Row := [GI.cmdOn]

/-- `catchStart`. -/
def Touch.catchStart : List Row := [OB.INJ_STAT.INJ_ACTIVE, OB.INJ_STAT.INJ_CONV, OB.agreeOn, OB.cN, OB.cOn, OB.cTick,
  OB.catchHi, OB.catchPit, OB.catchT, OB.ellN, OB.ellSum, OB.pTick, OB.polPh, OB.polRun, OB.polWait, OB.recatch, OB.slsAf,
  PU.STATUS.DETACHED, RING.lost, SQ.CATCH_STAT.DIR, SQ.CATCH_STAT.METHOD, SQ.CATCH_STAT.OUTCOME, SQ.CATCH_STAT.PULSES,
  SQ.CATCH_STAT.RESULT, SQ.CATCH_STAT.T_CONV, SQ.STATUS.MODE, SQ.catchGo, SQ.dwell, SQ.injRamp, SQ.psiOn, SQ.pulseAge,
  SQ.pulseLeft, SQ.waitLegs] ++ Touch.legTo

/-- `polDone`. -/
def Touch.polDone : List Row := [OB.INJ_STAT.INJ_ACTIVE, OB.POL_STAT.POL_DONE, OB.POL_STAT.POL_SRC, OB.POL_STAT.POL_TIME, OB.hN,
  OB.polPh, OB.polRun]

/-- `polFailed`. -/
def Touch.polFailed : List Row := [ACT.chEn, BL.run, OB.INJ_STAT.INJ_ACTIVE, OB.POL_STAT.POL_FAIL, OB.SLS_VAL.SLS_ANG,
  OB.SLS_VAL.SLS_SPD, OB.STATUS.SLS_VALID, OB.polPh, OB.polRun, OB.polWait, PU.STATUS.DETACHED, RING.lost, SQ.STATUS.MODE] ++
  Touch.legTo

/-- `axHalt`. -/
def Touch.axHalt : List Row := [AX.CH_SPD.SPD_REF, AX.CH_STAT.STATE, AX.STATUS.CH_RUN, AX.idRef, AX.iq, AX.polPh, AX.ref,
  AX.spInt, AX.src, AX.step, PU.onT, PU.sw]

/-- `reloadShadows`. -/
def Touch.reloadShadows : List Row := [PU.CMP.CMP, PU.COMMIT.GO, PU.late, PU.lateOld, PU.pend]

/-- `commit`. -/
def Touch.commit : List Row := [PU.CNTRS.LATE_UPDATE, PU.late, PU.pend] ++ Touch.perfAdd ++ Touch.pitAct

/-- `trip`. -/
def Touch.trip : List Row := [ACT.chEn, BL.causeReq, GI.cmdOn, PU.FIRST_FAULT.SIMUL, PU.FIRST_FAULT.SRC, PU.FIRST_FAULT.UNIT,
  PU.FIRST_FAULT.VALID, PU.FIRST_TIME.TIME, PU.SECOND_FAULT.SRC, PU.SECOND_FAULT.UNIT, PU.STATUS.FROZEN, PU.STATUS.TRIPPED,
  PU.TRIP_STAT.SRC, PU.TRIP_STAT.TRIPPED, PU.capOpen, PU.evPend, PU.evTime, PU.secTime, PU.secValid, RING.lost,
  SQ.CATCH_STAT.RESULT, SQ.catchGo] ++ Touch.axHalt

/-- `engBegin`. -/
def Touch.engBegin : List Row := [CE.COEF_CTL.APPLIED, CE.COEF_CTL.BANK, CE.COEF_CTL.PEND, CE.COEF_WIN.WORD,
  CE.STATUS.ENTRY_SEL, CE.STATUS.PERIOD_NO, CE.coefPend, CE.coefRef, CE.cyc, CE.done, CE.endHold, CE.lChg, CE.lEnt, CE.lMode,
  CE.lNo, CE.open, CE.outW, CE.pc, CE.prog, CE.rel, CE.relAt, CE.sig, CE.sigOn]

/-- `tolPeriod`. -/
def Touch.tolPeriod : List Row := [BL.causeReq, CE.RP_STAT.RP_FAULT, CE.RP_STAT.TOL_FAULT, CE.RP_STAT.TOL_OUT,
  CE.RP_STAT.TOL_PERIODS, CE.tol, RING.lost]

/-- `overrun`. -/
def Touch.overrun : List Row := [CE.FLAGS.OVERRUN, CE.RP_STAT.SOLO_OVR, CE.done, CE.outW, CE.ovRun, CE.prog] ++ Touch.tolPeriod

/-- `axBegin`. -/
def Touch.axBegin : List Row := [CE.lCh] ++ Touch.engBegin

/-- `axEnd`. -/
def Touch.axEnd : List Row := [AX.oRel, AX.oV, AX.oW, AX.pendQ] ++ Touch.axBegin

/-- `axOverrun`. -/
def Touch.axOverrun : List Row := [CE.FLAGS.OVERRUN, CE.ovRun, RING.lost] ++ Touch.axEnd

/-- `cmpWrite`. -/
def Touch.cmpWrite : List Row := [PU.lateOld, PU.shadow] ++ Touch.commit

/-- `commitGo`. -/
def Touch.commitGo : List Row := [PU.COMMIT.GO] ++ Touch.commit

/-- `engFetch`. -/
def Touch.engFetch : List Row := [CE.cyc, CE.sig, CE.stepOnce, CE.total] ++ Touch.perfAdd

/-- `engStop`. -/
def Touch.engStop : List Row := [BL.causeReq, CE.RP_STAT.RP_FAULT, CE.prog, CE.stop, CE.stopT, RING.lost]

/-- `engRun`. -/
def Touch.engRun : List Row := [CE.pc] ++ Touch.engFetch

/-- `engTaint`. -/
def Touch.engTaint : List Row := [CE.RP_STAT.TAINT] ++ Touch.engStop

/-- `engStore`. -/
def Touch.engStore : List Row := [CE.FLAGS.TAINT_ST, CE.ld, CE.ldM, CE.sig] ++ Touch.engTaint

/-- `satA`. -/
def Touch.satA : List Row := [CE.FLAGS.OVF, CE.a, CE.aM, RING.lost]

/-- `satD`. -/
def Touch.satD : List Row := [CE.FLAGS.SAT, CE.d, CE.dM, RING.lost]

/-- `engBin`. -/
def Touch.engBin : List Row := Touch.satA ++ Touch.satD

/-- `eccDed`. -/
def Touch.eccDed : List Row := [MEM.ECC_ADDR.ADDR, MEM.ECC_ADDR.MEM, MEM.ECC_STAT.DED, MEM.ECC_STAT.DED_CNT, RING.lost]

/-- `calZero`. -/
def Touch.calZero : List Row := [SEC.CAL_STAT.LOADED, SEC.calKind, SEC.calOn, SEC.calRamId, SEC.calW]

/-- `tblLock`. -/
def Touch.tblLock : List Row := [CE.ld, CE.ldM, RING.lost, SEC.CAL_STAT.TBL_LOCK, SEC.CAL_STAT.ZEROING, SEC.lockZero] ++
  Touch.calZero

/-- `tableBad`. -/
def Touch.tableBad : List Row := [CE.FLAGS.ILLEGAL] ++ Touch.eccDed ++ Touch.engStop ++ Touch.tblLock ++ Touch.trip

/-- `engGoto`. -/
def Touch.engGoto : List Row := [CE.FLAGS.TAINT_BR, CE.pc] ++ Touch.engTaint

/-- `frameAbort`. -/
def Touch.frameAbort : List Row := [GI.LINK.ABORT] ++ Touch.perfAdd

/-- `osdAbort`. -/
def Touch.osdAbort : List Row := [GLK.OSD_CMD.START_A, GLK.OSD_CMD.START_B, GLK.OSD_RES.STAT_A, GLK.OSD_RES.STAT_B]

/-- `softTurnOff`. -/
def Touch.softTurnOff : List Row := [GI.iBc, GI.iEndT, GI.iOn, GI.iPend, GI.iSc]

/-- `bankSwap`. -/
def Touch.bankSwap : List Row := [GI.PROF_DUR.E_MAX, GI.PROF_WIN.CUR, GI.PROF_WIN.DUR, GI.SLOT_CFG.DVDT_TGT,
  GI.SLOT_CFG.DV_FIRST, GI.SLOT_CFG.DV_LAST, GI.STATUS.BANK, GI.iBank, GI.iTrim, GI.slotB, GI.winB, RING.lost]

/-- `govern`. -/
def Touch.govern : List Row := [GI.iFlag, GI.iSt] ++ Touch.softTurnOff

/-- `islandSettings`. -/
def Touch.islandSettings : List Row := [GI.iBcVds, GI.iBcWait, GI.iBlank, GI.iCtl, GI.iDesF, GI.iDesV, GI.iDiF, GI.iDiTh,
  GI.iScDly, GI.iUvN, GI.iUvP, GI.iVneg, GI.iVpos]

/-- `confTaken`. -/
def Touch.confTaken : List Row := [GI.CTL.CONF_DONE, GI.PROF_CRC.ISL, GI.STATUS.PROF_CRC, GI.iConf] ++ Touch.bankSwap ++
  Touch.govern

/-- `releaseTaken`. -/
def Touch.releaseTaken : List Row := [GI.CTL.RELEASE, GI.LINK.BAD_CMD_CNT, GI.iFlag, GI.iSt, GI.relNo]

/-- `islandClear`. -/
def Touch.islandClear : List Row := [GI.iBank, GI.iBc, GI.iConf, GI.iCrc, GI.iEndT, GI.iFlag, GI.iLost, GI.iPb, GI.iPend,
  GI.iSatRun, GI.iSb, GI.iSc, GI.iSoft, GI.iStartT, GI.iTrim, GI.iTrimEnd] ++ Touch.islandSettings

/-- `proxyClear`. -/
def Touch.proxyClear : List Row := [GI.PROF_WIN.CUR, GI.PROF_WIN.DUR, GI.SLOT_CFG.DVDT_TGT, GI.SLOT_CFG.DV_FIRST,
  GI.SLOT_CFG.DV_LAST, GI.SOFT_WIN.CUR, GI.SOFT_WIN.DUR, GI.STATUS.STATE, GI.satWarn, GI.slotB, GI.winB, GLK.LINK_STAT.CONF] ++
  Touch.proxyFields

/-- `resetTaken`. -/
def Touch.resetTaken : List Row := Touch.govern ++ Touch.islandClear

/-- `swapTaken`. -/
def Touch.swapTaken : List Row := [GI.CTL.SWAP] ++ Touch.bankSwap

/-- `uplink`. -/
def Touch.uplink : List Row := [GI.glLost, GI.trained, GLK.LINK_STAT.UP, PU.tripIn] ++ Touch.pitAct ++ Touch.proxyClear

/-- `otEnter`. -/
def Touch.otEnter : List Row := [GI.iCause, GI.iLast, GI.iOt, GI.iSt, HK.coolT] ++ Touch.softTurnOff

/-- `linkLost`. -/
def Touch.linkLost : List Row := [GI.iCause, GI.iLast, GI.iLost, GI.iSt] ++ Touch.softTurnOff

/-- `uvloEnter`. -/
def Touch.uvloEnter : List Row := [GI.iCause, GI.iLast, GI.iLow, GI.iSt, GI.iUvlo] ++ Touch.softTurnOff

/-- `axStart`. -/
def Touch.axStart : List Row := [AX.CH_STAT.STATE, AX.STATUS.CH_RUN, AX.conv, AX.startT, AX.upT, AX.uvWait, AX.watchT, PU.onT,
  PU.sw]

/-- `axDisable`. -/
def Touch.axDisable : List Row := [ACT.chEn] ++ Touch.axHalt

/-- `jobStart`. -/
def Touch.jobStart : List Row := [ACT.jobDone, ACT.jobWait] ++ Touch.jobGo

/-- `jobRange`. -/
def Touch.jobRange : List Row := [ACT.ERR.RANGE, ACT.ERR_LOC.CH, ACT.ERR_LOC.OFS] ++ Touch.jobGo

/-- `candInForce`. -/
def Touch.candInForce : List Row := [ACT.CNT.DISCARD, ACT.STAT.PEND, ACT.stg] ++ Touch.entryInForce

/-- `closeHostRole`. -/
def Touch.closeHostRole : List Row := [SEC.ROLE.IDLE_LEFT, SEC.ROLE.OPEN, SEC.ROLE.ROLE, SEC.hostRole]

/-- `stopRings`. -/
def Touch.stopRings : List Row := [RING.STAT.LINK] ++ Touch.ringRestart

/-- `refuseCount`. -/
def Touch.refuseCount : List Row := [BL.RS_CNT.REFUSED, BL.RS_STAT.REASON, BL.RS_STAT.REFUSE_RUN, BL.RS_STAT.STATE, RING.lost]

/-- `cairnNow`. -/
def Touch.cairnNow : List Row := [PERF.CNT_LO.CNT, PERF.cntHi, PERF.stopped, SYS.CAIRN_STAT.NUM, SYS.cairnOn, SYS.cairnT]

/-- `cairn`. -/
def Touch.cairn : List Row := [RING.lost, SYS.CAIRN_STAT.QUEUED, SYS.CAIRN_STAT.REFUSED, SYS.cairnWait] ++ Touch.cairnNow

/-- `pdSet`. -/
def Touch.pdSet : List Row := [BL.SH_STAT.ON, BL.holdDriven, BL.shT, GI.trained, PU.CNT.CNT, PU.STATUS.DOWN, PU.cntT,
  SEC.DBG_STAT.VDC_OK, SEC.lockT, SEC.tapIr, SYS.PWR_STAT.PD_ON, SYS.PWR_STAT.ZERO_DONE]

/-- `fall`. -/
def Touch.fall : List Row := [CAN.TXB_ACT.ACT, CAN.TXB_SHD.SHD, CAN.cxlRes, MEM.blank, SEC.lockRest] ++ Touch.pdSet ++
  Touch.clearable ++ Touch.ringAdvance ++ Touch.ringRestart

/-- `powerBegin`. -/
def Touch.powerBegin : List Row := [BL.PWD_STAT.OPEN, BL.PWD_STAT.ROLE, BL.RS_STAT.STATE, BL.STATUS.SSOUT, SEC.DBG_STAT.LEVEL,
  SEC.DBG_STAT.OPEN, SEC.DBG_STAT.ROLE, SEC.autoCom, SYS.PWR_STAT.STATE, SYS.lowState, SYS.lowT, SYS.parkT] ++ Touch.fall

/-- `blkBegin`. -/
def Touch.blkBegin : List Row := [SYS.RST_STAT.BLK_INST, SYS.RST_STAT.BLK_SRC, SYS.RST_STAT.BUSY, SYS.blkBy, SYS.blkOn,
  SYS.blkT] ++ Touch.tractionEnd ++ Touch.trip

/-- `startUp`. -/
def Touch.startUp : List Row := [SYS.RST_STAT.PD_FAIL, SYS.plan, SYS.rstPhase, SYS.startT, SYS.stepped]

/-- `takeHold`. -/
def Touch.takeHold : List Row := [ACT.ERR_LOC.IMG_FAIL, BIST.SIG.SIG, BL.SH_STAT.ON, BL.shT, GI.glLost, RING.lost,
  SEC.DBG_STAT.HALT, SEC.autoCom, SEC.lockRest, SEC.lockT, SYS.PWR_STAT.PD_ON, SYS.RST_CAUSE.LEVEL, SYS.RST_CAUSE.SRC,
  SYS.RST_CAUSE.WARM, SYS.RST_CNT.RESETS, SYS.RST_CTL.LOCK, SYS.RST_MAP.BELAY, SYS.RST_MAP.BIST, SYS.RST_MAP.BO_CTL,
  SYS.RST_MAP.HOST, SYS.RST_MAP.NET, SYS.RST_MAP.WD_ENG, SYS.RST_MAP.WD_HC, SYS.bistTry, SYS.rstEv, SYS.rstLvl, SYS.rstSrc,
  SYS.rstWarm, SYS.xtalBad] ++ Touch.startUp ++ Touch.clearable

/-- `resetRequest`. -/
def Touch.resetRequest : List Row := [BL.causeReq, GI.cmdOn, PU.onT, PU.sw, SYS.RST_CNT.MERGED, SYS.RST_STAT.BUSY, SYS.stageEnd]
  ++ Touch.takeHold

/-- `commandReset`. -/
def Touch.commandReset : List Row := Touch.blkBegin ++ Touch.resetRequest

/-- `wdStop`. -/
def Touch.wdStop : List Row := [BL.AXIS.LINE, BL.wind, CE.CTL.RUN, PU.tripIn, RING.lost]

/-- `disEnds`. -/
def Touch.disEnds : List Row := [BL.DIS_STAT.END, BL.DIS_STAT.STATE, BL.disCancel, BL.disCond, BL.stepNext, BL.stepOpen] ++
  Touch.wdStop

/-- `dliEnd`. -/
def Touch.dliEnd : List Row := [BL.stepNext, BL.stepOpen, DLI.cmdKind, DLI.cmdLen]

/-- `disFault`. -/
def Touch.disFault : List Row := Touch.disEnds ++ Touch.dliEnd

/-- `disRequest`. -/
def Touch.disRequest : List Row := [BL.DIS_STAT.MISS, BL.DIS_STAT.STEPS, BL.DIS_TIME.T_RUN, BL.DIS_TIME.T_SAFE,
  BL.LED_GATE.E_GATE, BL.LED_RES.E_RES, BL.LED_WIND.E_WIND, BL.causeReq, BL.disE, BL.disMismatch, BL.disSrc, BL.eGate, BL.eWind,
  BL.repReq, SYS.PWR_STAT.STATE] ++ Touch.disFault

/-- `disCauseClear`. -/
def Touch.disCauseClear : List Row := [BL.AXIS.LINE, BL.AXIS.SAFE, BL.CAUSE.SS_CAUSE, BL.STATUS.SSOUT]

/-- `disCancelled`. -/
def Touch.disCancelled : List Row := Touch.disCauseClear ++ Touch.disEnds

/-- `holdIssue`. -/
def Touch.holdIssue : List Row := [BL.STATUS.HOLD_REQ, BL.holdKind] ++ Touch.holdTryDrive

/-- `writeRecord`. -/
def Touch.writeRecord : List Row := [RING.recSeq] ++ Touch.ringAdvance

/-- `canQueue`. -/
def Touch.canQueue : List Row := [RING.CNT.DROP_FULL] ++ Touch.complete

/-- `xtripAct`. -/
def Touch.xtripAct : List Row := [BL.STATUS.XTRIP_ACT, BL.causeReq, PU.tripIn, RING.lost]

/-- `disDone`. -/
def Touch.disDone : List Row := Touch.disCauseClear ++ Touch.disEnds ++ Touch.dliEnd

/-- `kat`. -/
def Touch.kat : List Row := [BL.STATUS.TM_LOST, BL.katSkip] ++ Touch.bivEnter1 ++ Touch.pitAct

/-- `ridgeTake`. -/
def Touch.ridgeTake : List Row := [AX.spEver, AX.spT, BL.AXIS.LAPSED, BL.RS_CNT.LOST, BL.RS_SEED.SEED, BL.RS_STAT.LAST,
  BL.lapse, BL.lapseT, BL.lastSeq, BL.netArg, BL.netMac, BL.netOp, BL.netSeq, BL.netSlot, BL.sesCnt, BL.tqLimit, BL.winT,
  CE.spNewLim, CE.spNewMode, CE.spNewVal, CE.spPend] ++ Touch.complete ++ Touch.refuseCount ++ Touch.commandDone

/-- `shFault`. -/
def Touch.shFault : List Row := [BL.SH_STAT.FAULT, BL.SH_STAT.KIND_A, BL.SH_STAT.KIND_B, BL.SH_STAT.ON, BL.holdDriven, BL.shT,
  RING.lost]

/-- `wdStart`. -/
def Touch.wdStart : List Row := [BL.AXIS.LINE, BL.DIS_STAT.STATE, BL.wind, CE.CTL.RUN, GI.STATUS.PEND, GI.cfgOut,
  OB.INJ_STAT.INJ_ACTIVE, PU.STATUS.DETACHED, PU.STATUS.TRIPPED, PU.TRIP_STAT.SRC, PU.TRIP_STAT.TRIPPED, PU.tripIn, RING.lost,
  SQ.STATUS.MODE]

/-- `stepBegin`. -/
def Touch.stepBegin : List Row := [BL.stepBook, BL.stepE0, BL.stepMs, BL.stepOpen]

/-- `canAttemptBad`. -/
def Touch.canAttemptBad : List Row := [CAN.CNT.ERR_FRAMES, CAN.ERR.ACK_RUN, CAN.ERR.LEC, CAN.ERR.TEC, CAN.IDC.RUN,
  CAN.STATUS.STATE, CAN.ackBuf, CAN.colId, CAN.cur] ++ Touch.cancelEnd

/-- `canForced`. -/
def Touch.canForced : List Row := [CAN.pitAck, CAN.pitIdc] ++ Touch.canAttemptBad

/-- `canPitons`. -/
def Touch.canPitons : List Row := [CAN.pitAck, CAN.pitIdc] ++ Touch.pitAct

/-- `canBusOff`. -/
def Touch.canBusOff : List Row := [CAN.IDC.RUN, CAN.STATUS.BUS_OFF, CAN.STATUS.STATE, CAN.cur, CAN.off] ++ Touch.cancelEnd

/-- `canRxBad`. -/
def Touch.canRxBad : List Row := [CAN.CNT.ERR_FRAMES, CAN.ERR.LEC, CAN.ERR.REC, CAN.ERR.RP, CAN.STATUS.STATE, CAN.cur]

/-- `ethLink`. -/
def Touch.ethLink : List Row := [ETH.PSTAT.LINK, ETH.PSTAT.LINK_DOWN] ++ Touch.complete

/-- `engRelease`. -/
def Touch.engRelease : List Row := [BL.AXIS.LINE, BL.STATUS.SSOUT, BL.halted, CE.STATUS.HALTED, CE.ovRun, CE.stepOnce, CE.stopT,
  PU.STATUS.FROZEN, PU.STATUS.HALTED, PU.cntT, PU.tripIn, SEC.DBG_STAT.HALT, SYS.wdT]

/-- `frzEnd`. -/
def Touch.frzEnd : List Row := [PU.CTL.FRZ, PU.STATUS.FROZEN, PU.STATUS.FRZ_ABORT, PU.onT, PU.sw]

/-- `dbgClose`. -/
def Touch.dbgClose : List Row := [RING.lost, SEC.DBG_STAT.LEVEL, SEC.DBG_STAT.OPEN, SEC.DBG_STAT.ROLE] ++ Touch.engRelease ++
  Touch.frzEnd

/-- `lcFinish`. -/
def Touch.lcFinish : List Row := [SEC.CAL_STAT.KEY_OK, SEC.KEY_STAT.ROLE_KEYS, SEC.LC_STAT.CODE, SEC.LC_STAT.LC_PEND,
  SEC.LC_STAT.STATE, SEC.kInt, SEC.lcIntent, SEC.roleKey, SYS.RST_CTL.LOCK, SYS.mapFuse]

/-- `keyOp`. -/
def Touch.keyOp : List Row := [RING.lost, SEC.KEY_CMD.OP, SEC.KEY_CMD.SLOT, SEC.KEY_STAT.RESULT, SEC.KEY_WIN.DATA]

/-- `barWrite`. -/
def Touch.barWrite : List Row := [ACT.CMD.GO, ACT.CTL.CFG_REJECT, ACT.CTL.LOCK, AX.CTL.CFG_REJECT, AX.CTL.LOCK, BIST.CMD.GO,
  BIST.CTL.CFG_REJECT, BIST.CTL.LOCK, BL.MBX_ARG.ARG, BL.MBX_CMD.CNT, BL.MBX_CMD.OP, BL.MBX_STAT.COLL, BL.mbxRole, BL.sesT,
  CAN.CTL.BO_RECOVER, CAN.CTL.CFG_REJECT, CAN.CTL.LOCK, CE.COEF_WIN.WORD, CE.CTL.CFG_REJECT, CE.CTL.LOCK, DLI.CTL.CFG_REJECT,
  DLI.CTL.LOCK, DLI.PIT_CTL.SEL, DOOR.DOOR.TAIL, ETH.CTL.CFG_REJECT, ETH.CTL.LOCK, ETH.MSEC_CFG.TX_AN, ETH.MSEC_STAT.PN_EXH,
  ETH.TX_PN.PN, ETH.sakPn, GI.CTL.CONF_DONE, GI.CTL.RELEASE, GI.CTL.SWAP, GI.PROF_DUR.E_SOFT, GI.STATUS.PEND, GI.cfgOut,
  GLK.CTL.CFG_REJECT, GLK.CTL.LOCK, GLK.OSD_CMD.START_A, GLK.OSD_CMD.START_B, HK.BAND_STAT.ABI, HK.BAND_STAT.GI, HK.CTL.BS_RST,
  HK.CTL.CFG_REJECT, HK.CTL.LOCK, HK.THR_VAL0.AUX0, HK.THR_VAL0.AUX1, HK.THR_VAL0.AXA, HK.THR_VAL0.AXB, HK.THR_VAL1.AUX2,
  MEM.CTL.CFG_REJECT, MEM.CTL.LOCK, MEM.MARCH_CMD.GO, OB.CTL.CFG_REJECT, OB.CTL.LOCK, PERF.CNT_SEL.CEN, PERF.CNT_SEL.EVENT,
  PERF.CNT_SEL.INST, PERF.CNT_SEL.MODE, PERF.CNT_SEL.SOURCE, PERF.CNT_SEL.THRESH, PERF.CTL.CFG_REJECT, PERF.CTL.LOCK,
  PERF.stopped, POS.CTL.CFG_REJECT, POS.CTL.LOCK, POS.IDX_REF.REREF, POS.lfAB, POS.ptoAcc, POS.ptoCnt, POS.ptoLast, POS.ptoOff,
  PU.CMP.CMP, PU.COMMIT.GO, PU.CTL.CFG_REJECT, PU.CTL.DBL_UPD, PU.CTL.FRZ, PU.CTL.LOCK, PU.FIRST_FAULT.VALID, PU.PER.PER,
  PU.TRIP_CMD.SW, PU.TRIP_STAT.SRC, PU.cntT, PU.perAct, PU.tripIn, RING.CTL.CFG_REJECT, RING.CTL.LOCK, RING.PARAM.SP_PER,
  RING.msixTable, SEC.AUTH_CMD.GO, SEC.CTL.CFG_REJECT, SEC.CTL.LOCK, SEC.FW_CMD.COMMIT, SEC.KEY_CMD.GO, SEC.LC_CMD.GO,
  SEN.CTL.LOCK, SEN.OFS_CMD.START_A, SEN.OFS_CMD.START_B, SEN.STATUS.CFG_REJECT, SEN.STATUS.CH_FAULT, SEN.STATUS.CH_VALID,
  SEN.chCond, SEN.clks, SEN.hist, SEN.ovrC, SEN.ovrF, SEN.run, SQ.CTL.CFG_REJECT, SQ.CTL.LOCK, SQ.TBL_CTL.SWAP, SQ.tbl,
  SYS.AS_STAT.STATE, SYS.AS_STAT.TRIM, SYS.CAIRN_CMD.ARM, SYS.CAIRN_CMD.GO, SYS.CLK_CTL.CFG_REJECT, SYS.CLK_CTL.LOCK,
  SYS.PWR_CMD.GO, SYS.PWR_CTL.CFG_REJECT, SYS.PWR_CTL.LOCK, SYS.PWR_CTL.PD_EN, SYS.RST_CMD.GO, SYS.RST_CTL.CFG_REJECT,
  SYS.RST_CTL.LOCK, SYS.WD_KICK.CORE, SYS.WD_KICK.KEY, SYS.asN] ++ Touch.canInit ++ Touch.mbxDone ++ Touch.pitAct

/-- `eccCheck`. -/
def Touch.eccCheck : List Row := [MEM.ECC_STAT.SEC_CNT] ++ Touch.eccDed

/-- `engRegRow`. -/
def Touch.engRegRow : List Row := [CE.a, CE.c, CE.d, CE.p]

/-- `bootEvents`. -/
def Touch.bootEvents : List Row := [RING.lost, SYS.boEv, SYS.rstEv, SYS.trimInt, SYS.wakeEv]

/-- `powerDone`. -/
def Touch.powerDone : List Row := [SYS.PWR_CMD.GO] ++ Touch.complete

/-- `wakeStandby`. -/
def Touch.wakeStandby : List Row := [SYS.RST_CTL.LOCK, SYS.WAKE_STAT.CAUSE, SYS.bistTry, SYS.lowState, SYS.rstEv, SYS.rstLvl,
  SYS.wakeEv] ++ Touch.pdSet ++ Touch.startUp

/-- `clkRecord`. -/
def Touch.clkRecord : List Row := [RING.lost, SYS.CLK_STAT.BELAY, SYS.CLK_STAT.CAN, SYS.CLK_STAT.DLI_DRIFT, SYS.CLK_STAT.ETH0,
  SYS.CLK_STAT.ETH1, SYS.CLK_STAT.GI, SYS.CLK_STAT.PCIE, SYS.CLK_STAT.PLL, SYS.CLK_STAT.XTAL]

/-- `pllFail`. -/
def Touch.pllFail : List Row := [BL.causeReq, PU.CNT.CNT, PU.tripIn, SEN.CH_STAT.BSL, SEN.STATUS.CH_FAULT, SEN.chCond,
  SEN.lostCh, SEN.ofsFlag, SYS.AS_STAT.STATE, SYS.CLK_STAT.COARSE, SYS.asN, SYS.pllDown] ++ Touch.clkRecord

/-- `hcFire`. -/
def Touch.hcFire : List Row := [SYS.RST_CNT.WD_CNT] ++ Touch.resetRequest

/-- What a write of a register may change beside the fields of its word: CFG_REJECT of the block, and the rows that the effects of a
write reach. -/
def Touch.writeEffects (addr : Nat) : List Row := (fieldsAt (addr - addr % 4)).map (fun f => (blockCtl (addr - addr % 4) f.1
  f.2.1).2.1) ++ [BL.MBX_ARG.ARG, BL.MBX_CMD.CNT, BL.MBX_CMD.OP, BL.MBX_STAT.COLL, BL.mbxRole, BL.sesT, ETH.MSEC_CFG.TX_AN,
  ETH.MSEC_STAT.PN_EXH, ETH.TX_PN.PN, ETH.sakPn, GI.STATUS.PEND, GI.cfgOut, HK.BAND_STAT.ABI, HK.BAND_STAT.GI, HK.CTL.THR_EN,
  HK.THR_VAL0.AUX0, HK.THR_VAL0.AUX1, HK.THR_VAL0.AXA, HK.THR_VAL0.AXB, HK.THR_VAL1.AUX2, OB.CTL.CFG_REJECT, PERF.CNT_HI.CNT,
  PERF.CNT_SEL.CEN, PERF.CNT_SEL.EVENT, PERF.CNT_SEL.INST, PERF.CNT_SEL.MODE, PERF.CNT_SEL.SOURCE, PERF.CNT_SEL.THRESH,
  PERF.CTL.CFG_REJECT, PERF.stopped, POS.lfAB, POS.ptoAcc, POS.ptoCnt, POS.ptoLast, POS.ptoOff, PU.CTL.DBL_UPD, PU.PER.PER, PU.cntT,
  PU.perAct, PU.tripIn, RING.msixTable, SEN.CTL.CH_EN, SEN.STATUS.CH_VALID, SEN.clks, SEN.hist, SEN.ovrC, SEN.ovrF, SEN.run, SQ.tbl,
  SYS.AS_STAT.STATE, SYS.AS_STAT.TRIM, SYS.asN] ++ Touch.canInit
  ++ Touch.mbxDone ++ Touch.pitAct ++ Touch.proxyFields ++ Touch.range

/-- `logAppend` (R326). -/
def Touch.logged : List Row := [BL.LOG_STAT.INDEX, BL.chain0, BL.logAnchor, BL.logCount]

/-- The fields that a CFG_WRITE inside a session may write (R306): those with the access RWS. -/
def Touch.passworded : List Row := BL.rows.filter fun r => r.acc == .rws

/-- The rows that each CAN controller has of its own. -/
def Touch.canRows : List Row := CAN.rows.filter fun r => r.c1 == 4

/-- The rows that each gate island has of its own. -/
def Touch.islandRows : List Row := GI.rows.filter fun r => r.c1 == 12

/-- The register file, the local data and the place in the program that each engine has of its own. -/
def Touch.coreRows : List Row := [CE.d, CE.dM, CE.a, CE.aM, CE.p, CE.c, CE.ld, CE.ldM, CE.pc]

/-- A command that acts on one controller, island or engine: the rows of that kind, and its number. -/
def Touch.alone : Instr → Option (List Row × Nat)
  | .canRx k .. => some (Touch.canRows, k)
  | .canJoin k => some (Touch.canRows, k)
  | .canTxDone k .. => some (Touch.canRows, k)
  | .canTxError k .. => some (Touch.canRows, k)
  | .idCollision k => some (Touch.canRows, k)
  | .canAlone k => some (Touch.canRows, k)
  | .busOff k => some (Touch.canRows, k)
  | .boRecover k => some (Touch.canRows, k)
  | .canRecovered k => some (Touch.canRows, k)
  | .domTmo k => some (Touch.canRows, k)
  | .canPex k .. => some (Touch.canRows, k)
  | .canPitArm k .. => some (Touch.canRows, k)
  | .canRxError k .. => some (Touch.canRows, k)
  | .edgeCmd k .. => some (Touch.islandRows, k)
  | .edgeStart k .. => some (Touch.islandRows, k)
  | .trimSatWarn k .. => some (Touch.islandRows, k)
  | .softOff k .. => some (Touch.islandRows, k)
  | .cfgWr k .. => some (Touch.islandRows, k)
  | .cfgRd k .. => some (Touch.islandRows, k)
  | .idleFrame k => some (Touch.islandRows, k)
  | .cairnFrame k .. => some (Touch.islandRows, k)
  | .islandRelease k => some (Touch.islandRows, k)
  | .confDone k => some (Touch.islandRows, k)
  | .islandSwap k => some (Touch.islandRows, k)
  | .crcHi k .. => some (Touch.islandRows, k)
  | .crcLo k .. => some (Touch.islandRows, k)
  | .islandReset k => some (Touch.islandRows, k)
  | .proxyRelease k => some (Touch.islandRows, k)
  | .proxyConfDone k => some (Touch.islandRows, k)
  | .statusFrame k .. => some (Touch.islandRows, k)
  | .edgeFrame k .. => some (Touch.islandRows, k)
  | .tripFrame k .. => some (Touch.islandRows, k)
  | .measFrame k .. => some (Touch.islandRows, k)
  | .cfgRsp k .. => some (Touch.islandRows, k)
  | .islandLinkLoss k => some (Touch.islandRows, k)
  | .endpointLinkLoss k => some (Touch.islandRows, k)
  | .belayCode k .. => some (Touch.islandRows, k)
  | .scTurnOn k .. => some (Touch.islandRows, k)
  | .ovbAssert k .. => some (Touch.islandRows, k)
  | .bcTurnOn k .. => some (Touch.islandRows, k)
  | .ovbDeassert k => some (Touch.islandRows, k)
  | .islandUvlo k .. => some (Touch.islandRows, k)
  | .uvloRecover k => some (Touch.islandRows, k)
  | .islandDesat k => some (Touch.islandRows, k)
  | .islandDidt k => some (Touch.islandRows, k)
  | .islandOt k .. => some (Touch.islandRows, k)
  | .islandPowerUp k => some (Touch.islandRows, k)
  | .belayLineLoss k => some (Touch.islandRows, k)
  | .invalidFrame k .. => some (Touch.islandRows, k)
  | .commonModeEvent k => some (Touch.islandRows, k)
  | .cePitArm k .. => some (Touch.coreRows, k)
  | .engIllegal k => some (Touch.coreRows, k)
  | .engMov k .. => some (Touch.coreRows, k)
  | .engLdi k .. => some (Touch.coreRows, k)
  | .engLd k .. => some (Touch.coreRows, k)
  | .engSt k .. => some (Touch.coreRows, k)
  | .engLda k .. => some (Touch.coreRows, k)
  | .engSta k .. => some (Touch.coreRows, k)
  | .engStaw k .. => some (Touch.coreRows, k)
  | .engAdd k .. => some (Touch.coreRows, k)
  | .engSub k .. => some (Touch.coreRows, k)
  | .engNeg k .. => some (Touch.coreRows, k)
  | .engAbs k .. => some (Touch.coreRows, k)
  | .engShl k .. => some (Touch.coreRows, k)
  | .engShr k .. => some (Touch.coreRows, k)
  | .engMul k .. => some (Touch.coreRows, k)
  | .engMac k .. => some (Touch.coreRows, k)
  | .engMsu k .. => some (Touch.coreRows, k)
  | .engCmplt k .. => some (Touch.coreRows, k)
  | .engCmple k .. => some (Touch.coreRows, k)
  | .engCmpeq k .. => some (Touch.coreRows, k)
  | .engSel k .. => some (Touch.coreRows, k)
  | .engMin k .. => some (Touch.coreRows, k)
  | .engMax k .. => some (Touch.coreRows, k)
  | .engClamp k .. => some (Touch.coreRows, k)
  | .engSincos k .. => some (Touch.coreRows, k)
  | .engPark k .. => some (Touch.coreRows, k)
  | .engIpark k .. => some (Touch.coreRows, k)
  | .engClarke k .. => some (Touch.coreRows, k)
  | .engSqrt k .. => some (Touch.coreRows, k)
  | .engDiv k .. => some (Touch.coreRows, k)
  | .engPidf k .. => some (Touch.coreRows, k)
  | .engIn k .. => some (Touch.coreRows, k)
  | .engOut k .. => some (Touch.coreRows, k)
  | .engOutrel k => some (Touch.coreRows, k)
  | .engBr k .. => some (Touch.coreRows, k)
  | .engBrc k .. => some (Touch.coreRows, k)
  | .engCall k .. => some (Touch.coreRows, k)
  | .engRet k => some (Touch.coreRows, k)
  | .engLoop k .. => some (Touch.coreRows, k)
  | .engEnd k => some (Touch.coreRows, k)
  | _ => none

/-- The rows and records that a command of this family may change: host link, registers, the Ridge and the mailbox. -/
def Touch.host : Instr → Option (List Row × List Rec)
  | .regWrite a _ => some (SEC.idleT :: (Touch.word a.toNat ++ Touch.writeEffects a.toNat), [.mem, .ecc, .events, .store, .descs,
     .plays, .ridgeIn, .canTx, .ethTxQ, .out])
  | .pitTimeout .. => some (Touch.pitDisarm, [])
  | .perstn .. => some ([RING.linkUp] ++ Touch.closeHostRole ++ Touch.stopRings, [.events, .store, .descs, .plays, .ridgeIn,
     .ethTxQ])
  | .functionLevelReset .. => some ([RING.linkUp] ++ Touch.closeHostRole ++ Touch.stopRings ++ RING.rows ++ DOOR.rows, [.events,
     .store, .descs, .plays, .ridgeIn, .ethTxQ])
  | .linkDown .. => some ([RING.linkUp] ++ Touch.closeHostRole ++ Touch.stopRings, [.events, .store, .descs, .plays, .ridgeIn,
     .ethTxQ])
  | .busMasterClear .. => some ([RING.STAT.LINK] ++ Touch.ringRestart, [.events, .store, .descs, .plays, .ridgeIn, .ethTxQ])
  | .sizeWrite .. => some ([RING.CTL.CFG_REJECT, RING.sizeNew] ++ Touch.ringRestart, [.events, .store, .descs, .plays, .ridgeIn,
     .ethTxQ])
  | .doorbell .. => some ([RING.ERR_SUM.ERR, RING.HALT_SUM.HALT, RING.STAT.TAIL, RING.TAIL.TAIL], [])
  | .descFetch .. => some ([BL.winDT, BL.winDiscard, SEC.descRole] ++ Touch.ridgeTake ++ Touch.pitDisarm, [.events, .store,
     .descs, .plays, .ridgeIn, .canTx, .canRxQ, .ethTxQ, .out])
  | .dmaError .. => some ([RING.STAT.DMA] ++ Touch.complete, [.events, .store, .descs, .plays, .ridgeIn, .ethTxQ, .out])
  | .irqTimer .. => some ([RING.pba, RING.unsig], [.out])
  | .ringHold .. => some (Touch.commandDone ++ Touch.holdIssue, [.events, .store, .descs, .plays, .ridgeIn, .canTx, .ethTxQ,
     .out])
  | .holdRelease .. => some ([BL.SH_STAT.ON, BL.STATUS.HOLD_PEND, BL.STATUS.HOLD_REQ, BL.holdDriven, BL.shT] ++ Touch.commandDone,
     [.events, .store, .descs, .plays, .ridgeIn, .canTx, .ethTxQ, .out])
  | .setpointDesc .. => some (Touch.ringAdvance ++ Touch.ringRestart, [.events, .store, .descs, .plays, .ridgeIn, .ethTxQ, .out])
  | .setpointRecord .. => some (Touch.ringAdvance ++ Touch.ringRestart, [.events, .store, .descs, .plays, .ridgeIn, .ethTxQ,
     .out])
  | .telemetryRecord .. => some ([RING.CNT.DROP_BANK, RING.CNT.DROP_FULL, RING.dropSince] ++ Touch.writeRecord, [.events, .store,
     .out])
  | .eventRecord .. => some ([RING.recSeq] ++ Touch.ringAdvance, [.events, .store, .out])
  | .changeLog .. => some (Touch.ringAdvance ++ Touch.ringRestart, [.events, .store, .descs, .plays, .ridgeIn, .ethTxQ, .out])
  | .eventStore .. => some (Touch.ringAdvance ++ Touch.ringRestart, [.events, .store, .descs, .plays, .ridgeIn, .ethTxQ, .out])
  | .holdDrive .. => some ([BL.SH_STAT.ON, BL.STATUS.HOLD_PEND, BL.holdDriven, BL.shT, RING.lost], [.events, .store])
  | .mbxCfgWrite .. => some (Touch.logged ++ Touch.mbxDone ++ Touch.passworded, [.events, .store, .log])
  | .mbxPitArm .. => some (Touch.mbxDone ++ Touch.pitSet, [.events, .store])
  | .pwdLoad .. => some ([BL.pwdT] ++ Touch.mbxDone, [.events, .store, .pwdBuf])
  | .sesOpen .. => some ([BL.PWD_STAT.FAILS, BL.PWD_STAT.LOCK_LEFT, BL.lockUs, BL.sesNum] ++ Touch.mbxDone, [.events, .store,
     .pwdBuf])
  | .sesClose .. => some (Touch.mbxDone, [.events, .store])
  | .pwdSet .. => some ([BL.LOG_STAT.INDEX, BL.chain0, BL.logAnchor, BL.logCount, BL.pwdHash, BL.pwdSalt, BL.pwdSet] ++
     Touch.mbxDone, [.events, .store, .log, .pwdBuf, .fresh])
  | .logVerify .. => some (Touch.mbxDone, [.events, .store])
  | .logAnchor .. => some (Touch.mbxDone, [.events, .store])
  | .ridgeCheck .. => some ([BL.winDT, BL.winDiscard] ++ Touch.pitAct ++ Touch.ridgeTake, [.events, .store, .descs, .plays,
     .ridgeIn, .canTx, .ethTxQ, .out])
  | .ridgeStart .. => some ([BL.winDT, BL.winDiscard] ++ Touch.ridgeTake ++ Touch.pitDisarm, [.events, .store, .descs, .plays,
     .ridgeIn, .canTx, .ethTxQ, .out])
  | .testPulse .. => some ([BL.SH_STAT.SKIP, BL.SH_VAL.I_C, BL.SH_VAL.V_H, BL.SH_VAL.V_L] ++ Touch.pitAct ++ Touch.shFault,
     [.events, .store])
  | .shFault .. => some ([BL.SH_STAT.FAULT, BL.SH_STAT.KIND_A, BL.SH_STAT.KIND_B, BL.SH_STAT.ON, BL.SH_VAL.I_C, BL.SH_VAL.V_H,
     BL.SH_VAL.V_L, BL.holdDriven, BL.shT, RING.lost], [.events, .store])
  | .pwdLockoutEnd .. => some ([BL.PWD_STAT.LOCK_LEFT, BL.lockUs], [])
  | .sesTmo .. => some ([BL.PWD_STAT.OPEN, BL.PWD_STAT.ROLE, BL.sesTmoPend, RING.lost], [.events, .store])
  | .pwdBufClear .. => some ([], [.pwdBuf])
  | .debugAccess (.bar0 a) _ _ => some (Touch.word a.toNat ++ Touch.writeEffects a.toNat ++ [MEM.ECC_ADDR.ADDR, MEM.ECC_ADDR.MEM,
     MEM.ECC_STAT.DED, MEM.ECC_STAT.DED_CNT, MEM.ECC_STAT.SEC_CNT, SEC.viaDbg, SYS.TIME.TIME], [.mem, .ecc, .events, .store,
     .descs, .plays, .ridgeIn, .canTx, .ethTxQ, .out, .fresh])
  | .debugAccess .. => some ([CE.ld, CE.ldM, CE.d, CE.a, CE.p, CE.c, CE.code, CE.codeOn, SQ.store, SQ.storeOn, MEM.host,
     MEM.hostOn, SEC.calW, SEC.calOn, SEC.heldRead] ++ Touch.tblLock, [.events, .store, .out, .fresh])
  | .pcieLinkUp .. => some ([RING.linkUp, RING.lost, RING.mps, RING.mrrs], [.events, .store, .out])
  | _ => none

/-- The rows and records that a command of this family may change: the Belay island and discharge. -/
def Touch.belay : Instr → Option (List Row × List Rec)
  | .ringDischarge .. => some (Touch.commandDone ++ Touch.disRequest, [.events, .store, .descs, .plays, .ridgeIn, .canTx, .ethTxQ,
     .out])
  | .dischargeCancel .. => some (Touch.commandDone ++ Touch.disCancelled, [.events, .store, .descs, .plays, .ridgeIn, .canTx,
     .ethTxQ, .out])
  | .blSelection .. => some ([BL.AXIS.BIV_LEFT, BL.AXIS.LINE, BL.AXIS.SEL_SHORT, BL.HB.HB_MISS, BL.PWD_STAT.LOCK_LEFT,
     BL.SPD.SPD_A, BL.SPD.SPD_B, BL.VDC_ACC.AGE, BL.hbT, BL.lockUs, BL.selN, BL.selOnce, BL.spdKnown, RING.lost], [.events,
     .store])
  | .safeEnter .. => some ([BL.AXIS.LINE, BL.AXIS.SAFE, BL.CAUSE.SS_CAUSE, BL.STATUS.SSOUT, BL.belT, BL.causeReq, BL.run, BL.wind,
     PU.tripIn] ++ Touch.holdIssue, [.events, .store])
  | .belayRelease .. => some ([PU.tripIn], [])
  | .tmError .. => some ([BL.causeReq, RING.lost], [.events, .store])
  | .katPeriodic .. => some ([BL.STATUS.TM_LOST, BL.katSkip] ++ Touch.bivEnter1 ++ Touch.pitAct, [.events, .store])
  | .tmXchk .. => some ([BL.causeReq], [])
  | .blIndex .. => some ([BL.AXIS.ALIGN_OK, BL.blRef, BL.causeReq], [])
  | .alignTimeout .. => some ([BL.causeReq], [])
  | .statusWord .. => some ([BL.AXIS.SGL, BL.sglT, BL.substOf] ++ Touch.bivEnter1, [.events, .store])
  | .bivWarn .. => some ([BL.bivWarned, RING.lost], [.events, .store])
  | .bivExpire .. => some ([BL.AXIS.BIV_EXPIRED, BL.causeReq] ++ Touch.holdIssue, [.events, .store])
  | .sglTimeout .. => some (Touch.bivEnter1, [.events, .store])
  | .setpointLapse .. => some ([BL.AXIS.LAPSED, BL.causeReq, BL.lapse, BL.lapseT, BL.tqLimit, RING.lost], [.events, .store])
  | .lapseRampEnd .. => some ([BL.lapse, BL.lapseT, BL.tqLimit], [])
  | .lapseHoldEnd .. => some ([BL.causeReq, BL.lapse, RING.lost], [.events, .store])
  | .xtripPin .. => some ([BL.xtripPin] ++ Touch.xtripAct, [.events, .store])
  | .hvilFault .. => some ([BL.STATUS.HVIL_OPEN] ++ Touch.disRequest, [.events, .store])
  | .hvilRestore .. => some ([BL.STATUS.HVIL_OPEN, RING.lost], [.events, .store])
  | .ssoutFault .. => some ([BL.STATUS.SSOUT_FAULT, RING.lost], [.events, .store])
  | .heartbeatSend .. => some ([HK.hbSeq], [.out])
  | .blHeartbeat .. => some ([BL.HB.HB_MISS, BL.HB.HB_SEQ, BL.STATUS.CI_LOST, BL.STATUS.SSOUT, BL.hbIgnore, BL.hbRun, BL.hbT] ++
     Touch.pitAct, [.events, .store])
  | .ciLost .. => some ([BL.STATUS.CI_LOST, BL.STATUS.SSOUT, BL.causeReq, BL.ciT, BL.hbRun, RING.lost], [.events, .store])
  | .blVdcSample .. => some ([BL.VDC_ACC.AGE, BL.VDC_ACC.V_BL, BL.vblEver, BL.vblStale] ++ Touch.disDone, [.events, .store])
  | .vdcFallback .. => some ([BL.VDC_ACC.V_BL, BL.vblStale] ++ Touch.disFault, [.events, .store])
  | .mbxKat .. => some (Touch.kat ++ Touch.mbxDone, [.events, .store])
  | .dliDownlink .. => some ([DLI.LINK.DL_BAD, DLI.STATUS.OVB, DLI.bcast, DLI.cmdKind, DLI.cmdLen, DLI.dlT, DLI.linkPit] ++
     Touch.pitAct, [.events, .store, .out])
  | .disStep .. => some ([DLI.STATUS.DIS_ON, DLI.stepLen, DLI.stepQ, DLI.stepT], [])
  | .disStepEnd .. => some ([DLI.STATUS.DIS_ON, DLI.stepLen, DLI.stepQ, DLI.stepT], [])
  | .disEnd .. => some ([DLI.STATUS.DIS_ON, DLI.stepLen, DLI.stepQ], [])
  | .dliLinkLoss .. => some ([DLI.STATUS.DIS_ON, DLI.stepLen, DLI.stepQ] ++ Touch.disFault, [.events, .store])
  | .stuckOff .. => some ([DLI.STATUS.STUCK_OFF, DLI.stuck] ++ Touch.disFault ++ Touch.wdStart, [.events, .store, .out])
  | .stuckOn .. => some ([DLI.STATUS.STUCK_ON, DLI.stuck] ++ Touch.disFault, [.events, .store])
  | .broadcastAssert .. => some ([DLI.STATUS.OVB, DLI.bcast], [])
  | .broadcastDeassert .. => some ([DLI.STATUS.OVB, DLI.bcast], [])
  | .abseilStep .. => some ([BL.DIS_STAT.STEPS, DLI.cmdKind, DLI.cmdLen] ++ Touch.disCancelled ++ Touch.pitAct ++ Touch.stepBegin
     ++ Touch.wdStart, [.events, .store, .out])
  | .ledgerUpdate .. => some ([BL.DIS_TIME.T_RUN, BL.DIS_TIME.T_SAFE, BL.LED_GATE.E_GATE, BL.LED_LINK.E_LINK, BL.LED_RES.E_RES,
     BL.LED_RES.T_R, BL.LED_WIND.E_WIND, BL.disE, BL.disMismatch, BL.eGate, BL.eLast, BL.eWind, BL.ihaSq, BL.tRes] ++
     Touch.disDone ++ Touch.stepBegin, [.events, .store])
  | .disMiss .. => some ([BL.DIS_STAT.MISS, RING.lost], [.events, .store])
  | .dliPitArm .. => some ([DLI.PIT_CTL.ARM, DLI.PIT_CTL.SEL] ++ Touch.pitArm, [.events, .store])
  | .dliPowerLoss .. => some ([DLI.STATUS.DIS_ON, DLI.STATUS.POWERED, DLI.bcast, DLI.powered, DLI.stepLen, DLI.stepQ, DLI.stuck],
     [])
  | _ => none

/-- The rows and records that a command of this family may change: sensing, position and housekeeping. -/
def Touch.sense : Instr → Option (List Row × List Rec)
  | .fastSample .. => some ([PU.tripIn, SEN.CH_VAL.FAST, SEN.fastPort, SEN.ovrF, SEN.satF, SEN.sumPit, SEN.sumRun, SEN.unrelF] ++
     Touch.pitAct ++ Touch.range, [.events, .store])
  | .ctrlSample .. => some ([BL.isdCnt, BL.isdSum, OB.cHist, OB.cIdx, OB.ctrlLast, OB.ctrlPort, SEN.CH_VAL.CTRL, SEN.ctrlDue,
     SEN.ctrlMid, SEN.ofsCnt, SEN.ofsSum, SEN.ovrC, SEN.satC] ++ Touch.range, [.events, .store])
  | .comparatorSample .. => some ([PU.tripIn, SEN.CH_STAT.OC_HI, SEN.CH_STAT.OC_LO, SEN.STATUS.CH_FAULT, SEN.bitLvl, SEN.bitPit,
     SEN.chCond, SEN.clks, SEN.ctrlAim, SEN.ctrlClk, SEN.ctrlDue, SEN.ctrlMid, SEN.ctrlRaw, SEN.datLast, SEN.hist, SEN.run] ++
     Touch.pitAct, [.events, .store, .fresh])
  | .chValid .. => some ([SEN.STATUS.CH_VALID], [])
  | .ofsStart .. => some ([SEN.STATUS.CFG_REJECT] ++ Touch.ofsBegin, [])
  | .ofsDone .. => some ([SEN.CH_OFS.OFS, SEN.CH_STAT.OFS_FAIL, SEN.OFS_CMD.START_A, SEN.OFS_CMD.START_B, SEN.STATUS.CH_FAULT,
     SEN.STATUS.OFS_DONE], [])
  | .ofsAbandon .. => some ([SEN.CH_STAT.OFS_FAIL, SEN.OFS_CMD.START_A, SEN.OFS_CMD.START_B, SEN.STATUS.CH_FAULT], [])
  | .senClip .. => some ([RING.lost, SEN.CH_STAT.CLIP, SEN.STATUS.CH_FAULT, SEN.chCond, SEN.ofsFlag], [.events, .store])
  | .senBsl .. => some (Touch.bsl, [.events, .store])
  | .sumFault .. => some ([PU.tripIn, SEN.STATUS.SUM], [])
  | .sup5Fault .. => some ([RING.lost], [.events, .store])
  | .ihaSample .. => some ([BL.IHA_VAL.I, BL.TM_ERR.CNT0, BL.TM_ERR.CNT1, BL.TM_VAL.T_TM0, BL.TM_VAL.T_TM1, BL.ihaAcc, BL.ihaAmp,
     BL.ihaCnt, BL.ihaPit, BL.ihaSq, BL.ihaSumRun, BL.katSkip, BL.satRun, BL.tmAlt, BL.tmPit, BL.tmXRun] ++ Touch.pitAct,
     [.events, .store])
  | .ihaSat .. => some ([BL.IHA_STAT.IHA_SAT] ++ Touch.bivEnter1, [.events, .store])
  | .ihaCm .. => some ([BL.IHA_STAT.IHA_CM] ++ Touch.bivEnter1, [.events, .store])
  | .ihaAdc .. => some ([BL.IHA_STAT.IHA_ADC] ++ Touch.bivEnter1, [.events, .store])
  | .ihaSum .. => some ([BL.IHA_STAT.IHA_SUM, BL.causeReq], [])
  | .xchkWindow .. => some ([BL.ihaAcc, BL.ihaCnt, BL.isdCnt, BL.isdSum, BL.xPit, BL.xPitted, BL.xRun] ++ Touch.pitAct, [.events,
     .store])
  | .curXchk .. => some ([BL.IHA_STAT.CUR_XCHK, SEN.CH_STAT.XCHK, SEN.STATUS.CH_FAULT] ++ Touch.bivEnter1, [.events, .store])
  | .pvRecon .. => some ([PU.tripIn, SEN.ell, SEN.pv, SEN.pvFail, SEN.pvNew, SEN.pvPit, SEN.pvRun, SEN.pvSign, SEN.vdcCond] ++
     Touch.pitAct, [.events, .store])
  | .legMis .. => some ([PU.tripIn, RING.lost, SEN.PVR_STAT.LEG_MIS, SEN.VDC_STAT.XCHK, SEN.vdcCond], [.events, .store])
  | .vdcFrame .. => some ([DLI.FB.CODE, DLI.STATUS.DIS_ON, DLI.STATUS.OVB, DLI.STATUS.POWERED, DLI.stuck, OB.STATUS.VDC_HOLD,
     PU.tripIn, SEC.DBG_STAT.VDC_OK, SEC.tapIr, SEN.VDC_RAW.CODE, SEN.VDC_RAW.SEQ, SEN.VDC_STAT.BAD_FRAMES, SEN.VDC_STAT.OV,
     SEN.VDC_STAT.UV, SEN.VDC_VAL.FAST, SEN.VDC_VAL.FILT, SEN.dliEver, SEN.vdcCond, SEN.vdcEver, SEN.vdcFilt, SEN.vdcPit] ++
     Touch.pitAct, [.events, .store])
  | .vdcStale .. => some ([OB.STATUS.VDC_HOLD, SEN.VDC_STAT.STALE, SEN.vdcCond], [])
  | .vdcLost .. => some ([PU.tripIn, SEC.DBG_STAT.VDC_OK, SEC.tapIr, SEN.VDC_STAT.LOST, SEN.vdcCond], [])
  | .senPitArm .. => some ([SEN.PIT_CTL.ARM, SEN.PIT_CTL.CH, SEN.PIT_CTL.SEL, SEN.STATUS.CFG_REJECT] ++ Touch.pitArm, [.events,
     .store])
  | .capRequest .. => some ([POS.CAP_STAT.BUSY, POS.CAP_STAT.SKIP, POS.crcPit, POS.tmoPit] ++ Touch.pitAct, [.events, .store])
  | .capFrame .. => some ([POS.CAP_STAT.CRC, POS.CAP_STAT.CRC_CNT, POS.CAP_STAT.SENS_ERR, POS.CAP_STAT.SENS_WRN,
     POS.CAP_TIM.RX_DLY, POS.CAP_WORD.WORD, POS.crcPit, POS.thM, POS.thWord, POS.wordAge, POS.wordT, RING.lost] ++ Touch.align
     ++ Touch.capTmo, [.events, .store])
  | .capTimeout .. => some (Touch.capTmo, [])
  | .capRecoveryEnd .. => some ([POS.CAP_STAT.BUSY], [])
  | .absLost .. => some ([POS.CAP_STAT.ABS_LOST, POS.CAP_STAT.VALID, POS.XCHK_STAT.VALID], [])
  | .incEdge .. => some ([BL.blCnt, BL.blDir, BL.blN, BL.blT, BL.blTimed, POS.INC_COUNT.COUNT, POS.INC_POS.POS, POS.INC_STAT.DIR,
     POS.INC_STAT.DIR_CHG, POS.INC_STAT.ILLEGAL, POS.INC_STAT.ILL_CNT, POS.INC_STAT.RATE, POS.INC_STAT.STILL,
     POS.SPD_VAL.SPD_INC, POS.edgeEver, POS.edgeN, POS.edgeT, POS.lineQ, POS.ptoCnt, POS.spdLast, POS.spdSat] ++ Touch.pitAct,
     [.events, .store, .out])
  | .incIllegal .. => some ([POS.INC_STAT.ILLEGAL, POS.INC_STAT.ILL_CNT, POS.lineQ, POS.ptoCnt], [])
  | .incIndex .. => some ([POS.IDX_LAT.LAT, POS.IDX_REF.REF, POS.IDX_REF.REF_VALID, POS.INC_STAT.INDEX_DRIFT, POS.idxWait,
     POS.ptoZ] ++ Touch.align ++ Touch.pitAct, [.events, .store])
  | .reref .. => some ([POS.CTL.CFG_REJECT, POS.IDX_REF.REF_VALID, POS.idxWait], [])
  | .lineFlt .. => some ([BL.lineFlt, POS.CAP_STAT.LINE_FLT, POS.INC_STAT.LINE_FLT, POS.XCHK_STAT.VALID, POS.lfAB, POS.lfCap,
     POS.lfInc] ++ Touch.bivEnter1, [.events, .store])
  | .posStill .. => some ([POS.INC_STAT.STILL, POS.SPD_VAL.SPD_INC, POS.edgeN, POS.spdLast, POS.spdSat], [])
  | .sourceLost .. => some ([BL.causeReq, POS.XCHK_STAT.LOST, POS.XCHK_STAT.VALID], [])
  | .posPitArm .. => some ([POS.PIT_CTL.ARM, POS.PIT_CTL.AXIS, POS.PIT_CTL.SEL] ++ Touch.pitArm, [.events, .store])
  | .slowRound .. => some ([HK.BS_MIN.U, HK.BS_MIN.V, HK.BS_MIN.W, HK.FAULT0.FAULT_LO, HK.FAULT1.FAULT_HI, HK.TEMP.ABSENT,
     HK.TEMP.FAULT, HK.TEMP.VAL, HK.busy, HK.coolT, HK.otFail] ++ Touch.pitAct, [.events, .store])
  | .roundDone .. => some ([HK.BAND_STAT.ABI, HK.BAND_STAT.GI, HK.STATUS.ROUND_CNT, HK.THR_VAL0.AUX0, HK.THR_VAL0.AUX1,
     HK.THR_VAL0.AXA, HK.THR_VAL0.AXB, HK.THR_VAL1.AUX2, HK.busy, HK.roundT, HK.rounded, HK.thrN], [])
  | .hkStale .. => some ([HK.STATUS.STALE, RING.lost], [.events, .store])
  | .bsRst .. => some ([HK.BS_MIN.U, HK.BS_MIN.V, HK.BS_MIN.W], [])
  | .abiOt .. => some ([HK.OT_STAT.ABI, HK.coolT, PU.onT, PU.sw, PU.tripIn], [])
  | .dieOt .. => some ([BL.causeReq, BL.dieOt, HK.OT_STAT.BI, HK.OT_STAT.CI, HK.coolT], [])
  | .otRestart .. => some ([BL.dieOt, GI.iOt, HK.OT_STAT.ABI, HK.OT_STAT.BI, HK.OT_STAT.CI, HK.OT_STAT.GI, PU.tripIn], [])
  | .hkPitArm .. => some ([HK.PIT_CTL.ARM, HK.PIT_CTL.SEL, HK.PIT_CTL.SENS] ++ Touch.pitArm, [.events, .store])
  | _ => none

/-- The rows and records that a command of this family may change: sequencers, power units and the decision tick. -/
def Touch.drive : Instr → Option (List Row × List Rec)
  | .decisionTick .. => some ([ACT.cmdWait, ACT.disMask, ACT.jobWait, AX.ocLvl, AX.ocPitT, CE.spLim, CE.spMode, CE.spPend,
     CE.spVal, HK.thrIn, OB.PSI_VAL.PSI_ANG, OB.PSI_VAL.PSI_MAG, OB.RS_VAL.RS_EFF, OB.SLS_VAL.SLS_ANG, OB.SLS_VAL.SLS_SPD,
     OB.STATUS.EST_VALID, OB.STATUS.RES_HIGH, OB.STATUS.SAT, OB.STATUS.SLS_VALID, OB.STATUS.VCORR_MISS, OB.TQ_VAL.RES,
     OB.TQ_VAL.T_EST, OB.XY_VAL.I_X, OB.XY_VAL.I_Y, OB.afAng, OB.afBad, OB.afOk, OB.afSpd, OB.agreeOn, OB.agreeW, OB.angLast,
     OB.cAng, OB.cN, OB.cOn, OB.cT, OB.cTick, OB.cW, OB.catchHi, OB.dN, OB.dSum, OB.drift, OB.driftOn, OB.ellAvg, OB.ellN,
     OB.ellSum, OB.iPrev, OB.invRun, OB.legWas, OB.pE, OB.pI, OB.pTick, OB.polCur, OB.polN, OB.polPrev, OB.polT, OB.psi,
     OB.psiC, OB.resPit, OB.slsPit, OB.vOld, POS.ANG_VAL.ANG_ABS, POS.ANG_VAL.ANG_INC, POS.CAP_STAT.VALID, POS.PTO_CFG.LAG,
     POS.PTO_CFG.SRC_LOST, POS.SPD_VAL.SPD_INC, POS.XCHK_STAT.MIS, POS.XCHK_STAT.PRI_SUBST, POS.XCHK_STAT.VALID, POS.offAng,
     POS.offSpd, POS.ptoAcc, POS.ptoCnt, POS.ptoLast, POS.ptoZ, POS.spdSat, POS.wordAge, POS.xchkPit, PU.CNT.CNT,
     PU.STATUS.BAND_U, PU.STATUS.BAND_V, PU.STATUS.BAND_W, PU.STATUS.DOWN, PU.cntT, PU.giEnd, PU.hiT, PU.loT, PU.onT, PU.perAct,
     PU.sw, PU.tripIn, SEN.pvNew, SQ.CATCH_STAT.METHOD, SQ.FLAGS.MINP, SQ.FLAGS.TBL_REJECT, SQ.MINP.MINP_CNT, SQ.REF.PSI_REF,
     SQ.REF.T_REF, SQ.STATUS.FLX_STATE, SQ.STATUS.SECTOR, SQ.STATUS.TQ_STATE, SQ.STATUS.VEC_OUT, SQ.STATUS.XY_SEL,
     SQ.TBL_CTL.ACT_BANK, SQ.TBL_CTL.SWAP, SQ.bigErr, SQ.comm, SQ.dwell, SQ.inZero, SQ.injRampN, SQ.outAt, SQ.psiN, SQ.psiOn,
     SQ.psiTgt, SQ.pulseAge, SQ.pulseLeft, SQ.rampN, SQ.refAge, SQ.refLate, SQ.refPend, SQ.resRun, SQ.spdN, SQ.spdSum, SQ.tqSum,
     SQ.winTick, SQ.xyKeep, SQ.xyPit, SQ.xyRun, SQ.zTog] ++ Touch.injStart ++ Touch.jobGo ++ Touch.pitAct ++ Touch.stagedIn ++
     Touch.traction0, [.now, .events, .store, .descs, .plays, .ridgeIn, .canTx, .ethTxQ, .out])
  | .tblSwap .. => some ([SQ.FLAGS.TBL_REJECT, SQ.TBL_CTL.SWAP], [])
  | .refStale .. => some ([PU.tripIn, SQ.FLAGS.REF_STALE], [])
  | .bandWindow .. => some ([RING.lost, SQ.BAND_VAL.FSW_MEAS, SQ.BAND_VAL.S, SQ.FLAGS.BAND_MAX, SQ.FLAGS.BAND_MIN,
     SQ.FLAGS.DISC_CNT, SQ.bigErr, SQ.comm, SQ.winTick], [.events, .store])
  | .obsLost .. => some ([RING.lost, SQ.FLAGS.OBS_LOST, SQ.OBS_STAT.LOSS_CNT, SQ.OBS_STAT.STOP, SQ.STATUS.MODE, SQ.lastSls,
     SQ.lossN, SQ.lossT, SQ.rampN, SQ.rampT0, SQ.resRun], [.events, .store])
  | .stoppingRampEnd .. => some ([ACT.chEn, BL.run, SQ.OBS_STAT.LOSS_CNT, SQ.OBS_STAT.STOP] ++ Touch.catchStart, [.events, .store,
     .out])
  | .xyHigh .. => some ([RING.lost, SQ.FLAGS.XY_HIGH], [.events, .store])
  | .afConv .. => some ([OB.SLS_VAL.SLS_ANG, OB.SLS_VAL.SLS_SPD, OB.STATUS.AF_CONV, OB.STATUS.SLS_VALID], [])
  | .obPitArm .. => some ([OB.PIT_CTL.ARM, OB.PIT_CTL.SEL] ++ Touch.pitArm, [.events, .store])
  | .sqPitArm .. => some ([SQ.PIT_CTL.ARM, SQ.PIT_CTL.SEL] ++ Touch.pitArm, [.events, .store])
  | .injConv .. => some ([OB.INJ_STAT.INJ_CONV, OB.SLS_VAL.SLS_ANG, OB.SLS_VAL.SLS_SPD, OB.STATUS.SLS_VALID, OB.injAng, OB.injOut,
     OB.polCur, OB.polIdx, OB.polM, OB.polN, OB.polNeg, OB.polP, OB.polPit, OB.polPrev, OB.polWait, OB.slsAf] ++ Touch.pitAct ++
     Touch.polDone, [.events, .store])
  | .polPulseEnd .. => some ([OB.POL_STAT.POL_AMBIG, OB.POL_STAT.POL_FLIP, OB.POL_STAT.RATIO, OB.injAng, OB.polCur, OB.polIdx,
     OB.polM, OB.polN, OB.polNeg, OB.polP, OB.polPit, OB.polPrev, OB.polRep] ++ Touch.align ++ Touch.polDone ++ Touch.polFailed,
     [.events, .store, .out])
  | .polFail .. => some (Touch.polFailed, [.events, .store, .out])
  | .injLost .. => some ([OB.INJ_STAT.INJ_CONV, OB.INJ_STAT.INJ_LOST, OB.SLS_VAL.SLS_ANG, OB.SLS_VAL.SLS_SPD, OB.STATUS.SLS_VALID,
     OB.injIn, POS.XCHK_STAT.LOST, POS.XCHK_STAT.VALID, RING.lost, SQ.injRamp, SQ.injRampN], [.events, .store])
  | .injLostRampEnd .. => some ([ACT.chEn, BL.run, OB.INJ_STAT.INJ_ACTIVE, OB.SLS_VAL.SLS_ANG, OB.SLS_VAL.SLS_SPD,
     OB.STATUS.SLS_VALID, PU.STATUS.DETACHED, RING.lost, SQ.STATUS.MODE, SQ.injRamp] ++ Touch.legTo, [.events, .store, .out])
  | .travRequest .. => some ([RING.lost, SQ.STATUS.MODE, SQ.travCnt, SQ.travWait], [.events, .store])
  | .travHandover .. => some ([OB.POL_STAT.POL_DONE, OB.SLS_VAL.SLS_ANG, OB.SLS_VAL.SLS_SPD, OB.STATUS.SLS_VALID, OB.polWait,
     PU.STATUS.DETACHED, RING.lost, SQ.REF.PSI_REF, SQ.REF.T_REF, SQ.STATUS.FLX_STATE, SQ.STATUS.MODE, SQ.STATUS.TQ_STATE,
     SQ.TRAV_STAT.DIR_LAST, SQ.TRAV_STAT.HOLD, SQ.bigErr, SQ.comm, SQ.inZero, SQ.psiFrom, SQ.psiN, SQ.psiOn, SQ.psiTgt,
     SQ.resRun, SQ.stepBase, SQ.stepCmd, SQ.stepPend, SQ.travCnt, SQ.travT, SQ.waitLegs, SQ.winTick] ++ Touch.injStart,
     [.events, .store])
  | .travAbort .. => some ([RING.lost, SQ.STATUS.MODE, SQ.TRAV_STAT.ABORT_CNT, SQ.TRAV_STAT.HOLD, SQ.TRAV_STAT.TRAV_ABORT,
     SQ.travCnt, SQ.travT], [.events, .store])
  | .travHoldEnd .. => some ([SQ.TRAV_STAT.HOLD, SQ.travCnt], [])
  | .travStep .. => some ([SQ.TRAV_STAT.STEP_MEAS, SQ.TRAV_STAT.TRAV_STEP, SQ.stepPend] ++ Touch.pitAct, [.events, .store])
  | .catchClassify .. => some ([OB.catchHi, OB.ellAvg, OB.ellN, OB.ellSum, SQ.CATCH_STAT.METHOD], [])
  | .catchPulse .. => some ([OB.pT, OB.pTick, SQ.CATCH_STAT.PULSES, SQ.dwell, SQ.pulseAge, SQ.pulseLeft] ++ Touch.legTo, [.out])
  | .catchResult .. => some ([OB.CATCH_VAL.CATCH_ANG, OB.CATCH_VAL.CATCH_SPD, OB.POL_STAT.POL_DONE, OB.POL_STAT.POL_FLIP,
     OB.SLS_VAL.SLS_ANG, OB.SLS_VAL.SLS_SPD, OB.STATUS.SLS_VALID, OB.afAng, OB.afSpd, OB.catchPit, OB.dN, OB.dSum, OB.drift,
     OB.driftOn, OB.polRep, OB.polWait, OB.psi, PU.STATUS.DETACHED, SQ.CATCH_STAT.DIR, SQ.CATCH_STAT.RESULT,
     SQ.CATCH_STAT.T_CONV, SQ.STATUS.MODE, SQ.catchGo] ++ Touch.align ++ Touch.injStart ++ Touch.pitAct, [.events, .store])
  | .catchDeadline .. => some ([ACT.chEn, BL.run, RING.lost, SQ.CATCH_STAT.OUTCOME, SQ.CATCH_STAT.RESULT, SQ.STATUS.MODE,
     SQ.dwell, SQ.pulseLeft, SQ.waitLegs] ++ Touch.legTo, [.events, .store, .out])
  | .puReload .. => some ([AX.lost, AX.lowOk, AX.spIgn, AX.spIgnT, AX.vLeg, CE.spLim, CE.spMode, CE.spPend, CE.spVal,
     OB.INJ_STAT.INJ_ACTIVE, OB.INJ_STAT.INJ_CONV, OB.INJ_VAL.EPS, OB.INJ_VAL.I_HF, OB.SLS_VAL.SLS_ANG, OB.SLS_VAL.SLS_SPD,
     OB.STATUS.SLS_VALID, OB.dqLast, OB.hD, OB.hIdx, OB.hN, OB.hQ, OB.injAng, OB.injIn, OB.injOut, OB.injPh, OB.injPit,
     OB.injRampN, OB.injSign, OB.injSpd, OB.polPh, OB.polRun, OB.polWait, OB.slsAf, PU.CNT.CNT, PU.CNTRS.MP_CNT,
     PU.STATUS.BAND_U, PU.STATUS.BAND_V, PU.STATUS.BAND_W, PU.STATUS.DOWN, PU.bsN, PU.cntT, PU.hiT, PU.loT, PU.perAct,
     PU.refLegs, SEN.ctrlAim, SEN.ctrlClk, SQ.STATUS.MODE, SQ.spdAvg, SQ.spdN, SQ.spdSum, SQ.stepPend, SQ.tqAvg, SQ.tqSum,
     SQ.travCnt, SQ.travWait] ++ Touch.axHalt ++ Touch.pitAct ++ Touch.reloadShadows ++ Touch.stagedIn ++ Touch.complete,
     [.events, .store, .descs, .plays, .ridgeIn, .ethTxQ, .out])
  | .cmpWrite .. => some ([PU.lateOld, PU.shadow] ++ Touch.commit, [.events, .store, .out])
  | .puCommit .. => some ([PU.COMMIT.GO] ++ Touch.commit, [.events, .store, .out])
  | .puCompare .. => some ([PU.hiT, PU.loT, PU.onT, PU.sw, SQ.dwell] ++ Touch.legTo, [.out])
  | .puTrip .. => some (Touch.pitAct ++ Touch.trip, [.events, .store, .out])
  | .captureClose .. => some ([PU.capOpen, PU.evPend, PU.evTime, RING.lost], [.events, .store])
  | .tripClear .. => some ([PU.STATUS.TRIPPED, PU.TRIP_STAT.CLEAR_REFUSED, PU.TRIP_STAT.SRC, PU.TRIP_STAT.TRIPPED] ++
     Touch.pitAct, [.events, .store])
  | .firstFaultRearm .. => some ([PU.FIRST_FAULT.VALID, PU.capOpen, PU.evPend, RING.lost], [.events, .store])
  | .swTrip .. => some (Touch.trip, [.events, .store, .out])
  | .debugHalt .. => some ([BL.AXIS.LINE, BL.STATUS.SSOUT, BL.halted, CE.STATUS.HALTED, CE.sigOn, PU.CNT.CNT, PU.STATUS.HALTED,
     PU.tripIn, SEC.DBG_STAT.HALT] ++ Touch.trip, [.events, .store, .out])
  | .debugRelease .. => some (Touch.engRelease, [])
  | .puFrz .. => some ([PU.CTL.FRZ, RING.lost], [.events, .store])
  | .frzAbort .. => some ([PU.CTL.FRZ, PU.STATUS.FROZEN, PU.STATUS.FRZ_ABORT, PU.onT, PU.sw], [])
  | .puPitArm .. => some ([PU.PIT_CTL.ARM, PU.PIT_CTL.SEL, PU.PIT_CTL.SRC] ++ Touch.pitArm, [.events, .store])
  | .puStrobeLoss .. => some ([PU.onT, PU.sw], [])
  | _ => none

/-- The rows and records that a command of this family may change: the control engines. -/
def Touch.engine : Instr → Option (List Row × List Rec)
  | .cePeriodStart .. => some ([CE.RP_STAT.SIG_MIS, CE.SIG.SIG] ++ Touch.engBegin ++ Touch.overrun ++ Touch.pitAct, [.events,
     .store, .eng])
  | .ceOverrun .. => some (Touch.axOverrun ++ Touch.overrun, [.events, .store, .eng])
  | .ceRelease .. => some ([AX.oRel, BL.tCe, BL.tCmd, CE.FLAGS.SAT, CE.OUT.VAL, CE.RP_STAT.MASK_MIS, CE.done, CE.endHold, CE.outV,
     CE.outW, CE.prog, CE.refD0, CE.refOn, CE.refQ0, CE.refT, CE.rel, CE.tolPit, PU.tripIn, SQ.FLAGS.REF_LATE_CNT, SQ.psiRefSh,
     SQ.refAge, SQ.refLate, SQ.refPend, SQ.tRefSh] ++ Touch.cmpWrite ++ Touch.commitGo ++ Touch.tolPeriod, [.events, .store,
     .out])
  | .coefWrite .. => some ([CE.CTL.CFG_REJECT, CE.coefNew, CE.coefPend], [])
  | .cePitArm .. => some ([CE.PIT_CTL.ARM, CE.PIT_CTL.SEL] ++ Touch.pitArm, [.events, .store])
  | .engIllegal .. => some ([CE.FLAGS.ILLEGAL] ++ Touch.engFetch ++ Touch.engStop, [.events, .store, .out])
  | .engMov .. => some ([CE.a, CE.aM, CE.c, CE.cM, CE.d, CE.dM, CE.p, CE.pM] ++ Touch.engRun, [.events, .store, .eng, .out])
  | .engLdi .. => some ([CE.c, CE.cM, CE.d, CE.dM, CE.p, CE.pM] ++ Touch.engRun, [.events, .store, .eng, .out])
  | .engLd .. => some ([CE.d, CE.dM] ++ Touch.engRun, [.events, .store, .eng, .out])
  | .engSt .. => some (Touch.engRun ++ Touch.engStore, [.events, .store, .eng, .out])
  | .engLda .. => some (Touch.engRun ++ Touch.satA, [.events, .store, .eng, .out])
  | .engSta .. => some (Touch.engRun ++ Touch.satD, [.events, .store, .eng, .out])
  | .engStaw .. => some (Touch.engRun ++ Touch.engStore, [.events, .store, .eng, .out])
  | .engAdd .. => some (Touch.engBin ++ Touch.engRun, [.events, .store, .eng, .out])
  | .engSub .. => some (Touch.engBin ++ Touch.engRun, [.events, .store, .eng, .out])
  | .engNeg .. => some (Touch.engBin ++ Touch.engRun, [.events, .store, .eng, .out])
  | .engAbs .. => some (Touch.engBin ++ Touch.engRun, [.events, .store, .eng, .out])
  | .engShl .. => some (Touch.engBin ++ Touch.engRun, [.events, .store, .eng, .out])
  | .engShr .. => some (Touch.engBin ++ Touch.engRun, [.events, .store, .eng, .out])
  | .engMul .. => some (Touch.engRun ++ Touch.satD, [.events, .store, .eng, .out])
  | .engMac .. => some (Touch.engRun ++ Touch.satA, [.events, .store, .eng, .out])
  | .engMsu .. => some (Touch.engRun ++ Touch.satA, [.events, .store, .eng, .out])
  | .engCmplt .. => some ([CE.c, CE.cM] ++ Touch.engRun, [.events, .store, .eng, .out])
  | .engCmple .. => some ([CE.c, CE.cM] ++ Touch.engRun, [.events, .store, .eng, .out])
  | .engCmpeq .. => some ([CE.c, CE.cM] ++ Touch.engRun, [.events, .store, .eng, .out])
  | .engSel .. => some ([CE.d, CE.dM] ++ Touch.engRun, [.events, .store, .eng, .out])
  | .engMin .. => some (Touch.engRun ++ Touch.satD, [.events, .store, .eng, .out])
  | .engMax .. => some (Touch.engRun ++ Touch.satD, [.events, .store, .eng, .out])
  | .engClamp .. => some ([CE.d, CE.dM] ++ Touch.engRun, [.events, .store, .eng, .out])
  | .engSincos .. => some (Touch.engRun ++ Touch.satD, [.events, .store, .eng, .out])
  | .engPark .. => some (Touch.engRun ++ Touch.satD, [.events, .store, .eng, .out])
  | .engIpark .. => some (Touch.engRun ++ Touch.satD, [.events, .store, .eng, .out])
  | .engClarke .. => some (Touch.engRun ++ Touch.satD, [.events, .store, .eng, .out])
  | .engSqrt .. => some (Touch.engRun ++ Touch.satD, [.events, .store, .eng, .out])
  | .engDiv .. => some ([CE.FLAGS.DIV0, CE.FLAGS.SAT, CE.d, CE.dM] ++ Touch.engRun, [.events, .store, .eng, .out])
  | .engPidf .. => some ([CE.FLAGS.SAT, CE.d, CE.dM] ++ Touch.engRun ++ Touch.engStore, [.events, .store, .eng, .out])
  | .engTlu .. => some ([CE.d, CE.dM] ++ Touch.engRun ++ Touch.tableBad, [.events, .store, .eng, .out, .fresh])
  | .engFfs .. => some ([CE.FLAGS.SAT, CE.d, CE.dM] ++ Touch.engRun ++ Touch.tableBad, [.events, .store, .eng, .out])
  | .engIn .. => some ([CE.d, CE.dM] ++ Touch.engRun, [.events, .store, .eng, .out, .fresh])
  | .engOut .. => some ([CE.FLAGS.SAT, CE.OSAT.OOVF, CE.OSAT.OSAT, CE.outV, CE.outW] ++ Touch.engRun, [.events, .store, .eng,
     .out])
  | .engOutrel .. => some ([CE.FLAGS.OUT_LATE, CE.TIMING.LATE_CNT, CE.TIMING.MAX_CYC, CE.rel, CE.relAt] ++ Touch.engRun, [.events,
     .store, .eng, .out])
  | .engBr .. => some (Touch.engFetch ++ Touch.engGoto, [.events, .store, .out])
  | .engBrc .. => some ([CE.FLAGS.TAINT_BR, CE.pc] ++ Touch.engFetch ++ Touch.engTaint ++ Touch.pitAct, [.events, .store, .eng,
     .out])
  | .engCall .. => some (Touch.engFetch ++ Touch.engGoto, [.events, .store, .eng, .out])
  | .engRet .. => some ([CE.pc] ++ Touch.engFetch, [.events, .store, .eng, .out, .fresh])
  | .engLoop .. => some ([CE.pc] ++ Touch.engFetch, [.events, .store, .eng, .out])
  | .engEnd .. => some ([CE.ovRun] ++ Touch.axEnd ++ Touch.engFetch ++ Touch.pitAct, [.events, .store, .eng, .out])
  | _ => none

/-- The rows and records that a command of this family may change: entries and the aux drives. -/
def Touch.actor : Instr → Option (List Row × List Rec)
  | .axPeriodStart .. => some ([AX.CH_CUR_UV.I_U, AX.CH_CUR_UV.I_V, AX.CH_CUR_W.I_RMS, AX.CH_CUR_W.I_W, AX.CH_SPD.SPD_MEAS,
     AX.CH_STAT.CUR_HOLD, AX.CH_STAT.RMS_LIM, AX.eps, AX.fAng, AX.fSpd, AX.hD, AX.hIdx, AX.hN, AX.hQ, AX.injAng, AX.injIn,
     AX.injSpd, AX.injT, AX.maxI, AX.obAng, AX.obBad, AX.obOk, AX.obSpd, AX.pendT, AX.polPrev, AX.polT, AX.polT0, AX.psi,
     AX.rmsC, AX.rmsCnt, AX.rmsOn, AX.rmsQ, AX.rmsSum, AX.rmsT, AX.vN, AX.vOkN, AX.vlPit, HK.thrIn] ++ Touch.axHalt ++
     Touch.axOverrun ++ Touch.axStart ++ Touch.pitAct, [.events, .store, .eng])
  | .auxOc .. => some ([AX.ocLvl, PU.tripIn], [])
  | .vauxSample .. => some ([AX.CH_STAT.VAUX_OV, AX.CH_STAT.VAUX_UV, AX.STATUS.VAUX, AX.okT, AX.ovCond, AX.uvCond, AX.uvWait,
     BL.SH_STAT.NO_SUPPLY, BL.SH_STAT.ON, BL.holdDriven, BL.shT, RING.lost] ++ Touch.axHalt, [.events, .store])
  | .vauxRestart .. => some (Touch.axStart, [])
  | .spLost .. => some ([AX.CH_STAT.SP_LOST, AX.lost, RING.lost] ++ Touch.axHalt, [.events, .store])
  | .auxCatch .. => some ([AX.CH_SPD.SPD_MEAS, AX.CH_SPD.SPD_REF, AX.CH_STAT.STATE, AX.fAng, AX.fSpd, AX.maxI, AX.obAng, AX.obBad,
     AX.obOk, AX.obSpd, AX.psi, AX.ref, AX.src, AX.step, AX.stepT, AX.watchT], [])
  | .startFail .. => some ([AX.CH_STAT.START_FAIL, RING.lost] ++ Touch.axDisable, [.events, .store])
  | .auxAlignEnd .. => some ([AX.CH_STAT.OPEN_LOAD, AX.hIdx, AX.hN, AX.injAng, AX.injIn, AX.injSpd, AX.injT, AX.obAng, AX.obBad,
     AX.obOk, AX.obSpd, AX.psi, AX.stepT, RING.lost] ++ Touch.axDisable, [.events, .store])
  | .auxInjConv .. => some ([AX.polIdx, AX.polM, AX.polNeg, AX.polP, AX.polPh, AX.polPrev, AX.polRep, AX.polT0, AX.step,
     AX.stepT], [])
  | .auxPolPulseEnd .. => some ([AX.CH_STAT.POL_FAIL, AX.hN, AX.injAng, AX.obAng, AX.obBad, AX.obOk, AX.obSpd, AX.polIdx, AX.polM,
     AX.polNeg, AX.polP, AX.polPrev, AX.polRep, AX.polT0, AX.psi, RING.lost] ++ Touch.axDisable, [.events, .store])
  | .obsSlow .. => some ([AX.CH_STAT.OBS_SLOW, RING.lost], [.events, .store])
  | .auxVlim .. => some ([AX.CH_STAT.VLIM, AX.vlimOn, RING.lost], [.events, .store])
  | .vlimClear .. => some ([AX.CH_STAT.VLIM, AX.vlimOn], [])
  | .bsUv .. => some ([AX.CH_STAT.BS_EVT, AX.CH_STAT.BS_UV, AX.CH_VBS.VBS_U, AX.CH_VBS.VBS_V, AX.CH_VBS.VBS_W, AX.bsClamp,
     AX.bsPitT, AX.bsT, PU.onT, PU.sw] ++ Touch.pitAct, [.events, .store])
  | .bsHoldEnd .. => some ([AX.bsClamp], [])
  | .axPitArm .. => some ([AX.PIT_CTL.CH, AX.PIT_CTL.PH, AX.PIT_CTL.SEL, AX.ocLvl, AX.ocPitPh, AX.ocPitT, PU.tripIn] ++
     Touch.pitAct ++ Touch.pitArm, [.events, .store])
  | .actRefresh .. => some ([ACT.CMD.CH_MASK, ACT.CMD.OP, ACT.cmdWait] ++ Touch.jobStart, [.events, .store, .descs, .plays,
     .ridgeIn, .canTx, .ethTxQ, .out])
  | .actSave .. => some ([ACT.CMD.OP, ACT.cmdWait] ++ Touch.jobStart, [.events, .store, .descs, .plays, .ridgeIn, .canTx, .ethTxQ,
     .out])
  | .actVerify .. => some ([ACT.CMD.CH_MASK, ACT.CMD.OP, ACT.cmdWait] ++ Touch.jobStart, [.events, .store, .descs, .plays,
     .ridgeIn, .canTx, .ethTxQ, .out])
  | .entryFetched .. => some ([ACT.ERR.CRC, ACT.ERR.FETCH, ACT.cand, ACT.candSrc, BL.AXIS.LINE, BL.STATUS.JOINED,
     SQ.STATUS.JOINED] ++ Touch.jobGo, [.events, .store, .descs, .plays, .ridgeIn, .canTx, .ethTxQ, .out])
  | .fetchTmo .. => some ([ACT.ERR.FETCH] ++ Touch.jobGo, [.events, .store, .descs, .plays, .ridgeIn, .canTx, .ethTxQ, .out])
  | .bindCheck .. => some ([ACT.ERR.BIND, ACT.bindRun, ACT.jobDone, ACT.jobWait, AX.CTL.CFG_REJECT, AX.spEver, AX.spT, AX.uvWait,
     BL.AXIS.ALIGN_OK, BL.AXIS.LAPSED, BL.AXIS.POLICY, BL.AXIS.SAFE, BL.CAUSE.SS_CAUSE, BL.STATUS.JOINED, BL.STATUS.SSOUT,
     BL.blEn, BL.blRef, BL.gov, BL.govOk, BL.idleOk, BL.idlePoles, BL.idlePolicy, BL.idleVBase, BL.idleVmin, BL.idleWBase,
     BL.lapse, BL.sideRep, BL.substOf, BL.thRef, BL.tqLimit, BL.winT, CE.CTL.CFG_REJECT, GI.STATUS.PEND, GI.cfgOut, GI.relNo,
     GLK.CTL.CFG_REJECT, POS.ALIGN.ALIGN_SRC, POS.INC_STAT.ALIGNED, POS.SPD_VAL.SPD_INC, POS.edgeN, POS.idxWait, POS.spdLast,
     POS.spdSat, PU.CNT.CNT, PU.STATUS.DOWN, PU.cntT, PU.perAct, SEN.STATUS.CFG_REJECT, SQ.BAND_VAL.S, SQ.CTL.CFG_REJECT,
     SQ.FLAGS.TBL_REJECT, SQ.STATUS.JOINED] ++ Touch.bivEnter1 ++ Touch.candInForce ++ Touch.catchStart ++ Touch.jobRange ++
     Touch.ofsBegin ++ Touch.osdAbort ++ Touch.tractionEnd, [.events, .store, .descs, .plays, .ridgeIn, .canTx, .ethTxQ, .out])
  | .cacheCheck .. => some ([ACT.ERR_LOC.CACHE, RING.lost], [.events, .store])
  | .saveDone .. => some ([ACT.ERR_LOC.IMG_FAIL, ACT.IMG_STAT.COPY, ACT.IMG_STAT.IMG_VALID, ACT.IMG_STAT.SAVES, ACT.img] ++
     Touch.jobFinish, [.events, .store, .descs, .plays, .ridgeIn, .canTx, .ethTxQ, .out])
  | .ringRefresh .. => some ([ACT.jobDone, ACT.jobWait] ++ Touch.jobGo, [.events, .store, .descs, .plays, .ridgeIn, .canTx,
     .ethTxQ, .out])
  | .ringVerify .. => some ([ACT.jobDone, ACT.jobWait] ++ Touch.jobGo, [.events, .store, .descs, .plays, .ridgeIn, .canTx,
     .ethTxQ, .out])
  | .ringSave .. => some ([ACT.STAT.BUSY, ACT.job, ACT.jobFail, ACT.jobWait] ++ Touch.complete, [.events, .store, .descs, .plays,
     .ridgeIn, .ethTxQ, .out])
  | .ringEnable .. => some ([ACT.jobDone, ACT.jobWait] ++ Touch.jobGo, [.events, .store, .descs, .plays, .ridgeIn, .canTx,
     .ethTxQ, .out])
  | .ringDisable .. => some ([ACT.disFail, ACT.disMask] ++ Touch.disableDone ++ Touch.traction0, [.events, .store, .descs, .plays,
     .ridgeIn, .canTx, .ethTxQ, .out])
  | .disableRampEnd .. => some ([ACT.disMask] ++ Touch.disableDone ++ Touch.traction0 ++ Touch.axHalt, [.events, .store, .descs,
     .plays, .ridgeIn, .canTx, .ethTxQ, .out])
  | _ => none

/-- The rows and records that a command of this family may change: the gate islands. -/
def Touch.gate : Instr → Option (List Row × List Rec)
  | .edgeCmd .. => some ([GI.LINK.BAD_CMD_CNT, GI.LINK.LATE_EDGE, GI.iDir, GI.iFlag, GI.iLost, GI.iPend, GI.iSlot, GI.iStartT] ++
     Touch.frameAbort ++ Touch.osdAbort, [.events, .store, .out])
  | .edgeStart .. => some ([GI.STATUS.OVLP, GI.iCause, GI.iEdges, GI.iEndT, GI.iFlag, GI.iLast, GI.iOn, GI.iPend, GI.iRunDir,
     GI.iSatRun, GI.iSats, GI.iTrim, GI.iTrimEnd, GI.satWarn] ++ Touch.pitAct, [.events, .store, .out])
  | .trimSatWarn .. => some ([GI.satWarn, RING.lost], [.events, .store])
  | .softOff .. => some ([GI.LINK.BAD_CMD_CNT, GI.LINK.LATE_EDGE, GI.iDir, GI.iFlag, GI.iLost, GI.iSlot, GI.iSt, GI.iStartT,
     GI.snap, GLK.LINK_STAT.CAIRN_LATE, GLK.OSD_CMD.START_A, GLK.OSD_CMD.START_B, GLK.OSD_RES.STAT_A, GLK.OSD_RES.STAT_B] ++
     Touch.frameAbort ++ Touch.softTurnOff, [.events, .store, .out])
  | .cfgWr .. => some ([GI.CTL.SWAP, GI.STATUS.PEND, GI.cfgOut] ++ Touch.confTaken ++ Touch.releaseTaken ++ Touch.resetTaken,
     [.events, .store, .out])
  | .cfgRd .. => some ([GI.iLost, GI.iRd, GI.iRdA], [])
  | .idleFrame .. => some ([GI.iLost], [])
  | .cairnFrame .. => some ([GI.LINK.BAD_CMD_CNT, GI.LINK.LATE_EDGE, GI.iDir, GI.iFlag, GI.iLost, GI.iPend, GI.iSlot, GI.iStartT,
     GI.snap, GLK.LINK_STAT.CAIRN_LATE, GLK.OSD_CMD.START_A, GLK.OSD_CMD.START_B, GLK.OSD_RES.STAT_A, GLK.OSD_RES.STAT_B] ++
     Touch.frameAbort, [.events, .store, .out])
  | .islandRelease .. => some ([GI.STATUS.PEND, GI.cfgOut, GI.iLost] ++ Touch.releaseTaken, [])
  | .confDone .. => some ([GI.STATUS.PEND, GI.cfgOut, GI.iLost] ++ Touch.confTaken, [.events, .store, .out])
  | .islandSwap .. => some ([GI.STATUS.PEND, GI.cfgOut, GI.iLost] ++ Touch.swapTaken, [.events, .store])
  | .crcHi .. => some ([GI.STATUS.PEND, GI.cfgOut, GI.iCrc, GI.iLost], [])
  | .crcLo .. => some ([GI.STATUS.PEND, GI.cfgOut, GI.iCrc, GI.iLost], [])
  | .islandReset .. => some ([GI.STATUS.PEND, GI.cfgOut] ++ Touch.resetTaken, [.out])
  | .proxyRelease .. => some ([GI.CTL.RELEASE, GI.STATUS.PEND, GI.cfgOut, GI.relNo], [.out])
  | .proxyConfDone .. => some ([GI.CTL.CONF_DONE, GI.PROF_CRC.CALC, GI.STATUS.PEND, GI.cfgOut], [.out])
  | .proxySwap .. => some ([GI.CTL.SWAP, GI.STATUS.PEND, GI.cfgOut], [.out])
  | .statusFrame .. => some ([GI.iFlag] ++ Touch.uplink, [.events, .store, .out])
  | .edgeFrame .. => some ([GI.edgeAt, GI.edgeDir] ++ Touch.uplink, [.events, .store, .out])
  | .tripFrame .. => some ([BL.repReq, BL.sideRep, GI.iCause, GI.tDet, HK.OT_STAT.GI, PU.giEnd] ++ Touch.uplink, [.events, .store,
     .out])
  | .measFrame .. => some (Touch.otEnter ++ Touch.uplink, [.events, .store, .out])
  | .cfgRsp .. => some ([GI.iRd, GI.rsp] ++ Touch.uplink, [.events, .store, .out])
  | .islandLinkLoss .. => some ([GI.iCause, GI.iLast, GI.iLost, GI.iSt] ++ Touch.softTurnOff, [.out])
  | .endpointLinkLoss .. => some ([GI.glLost, GLK.LINK_STAT.UP, PU.tripIn], [])
  | .belayCode .. => some ([GI.iBl] ++ Touch.govern ++ Touch.osdAbort, [.out])
  | .scTurnOn .. => some ([GI.STATUS.OVLP, GI.iBc, GI.iCause, GI.iEdges, GI.iEndT, GI.iFlag, GI.iLast, GI.iOn, GI.iPend,
     GI.iRunDir, GI.iSatRun, GI.iSats, GI.iSc, GI.iTrim, GI.iTrimEnd, GI.satWarn] ++ Touch.pitAct, [.events, .store, .out])
  | .ovbAssert .. => some ([GI.iOvb] ++ Touch.govern ++ Touch.osdAbort, [.out])
  | .bcTurnOn .. => some ([GI.STATUS.OVLP, GI.iBc, GI.iCause, GI.iEdges, GI.iEndT, GI.iFlag, GI.iLast, GI.iOn, GI.iPend,
     GI.iRunDir, GI.iSatRun, GI.iSats, GI.iSc, GI.iTrim, GI.iTrimEnd, GI.satWarn] ++ Touch.pitAct, [.events, .store, .out])
  | .ovbDeassert .. => some ([GI.iOvb] ++ Touch.govern, [.out])
  | .islandUvlo .. => some ([GI.iCause, GI.iLast, GI.iLow, GI.iSt, GI.iUvlo] ++ Touch.softTurnOff, [.out])
  | .uvloRecover .. => some ([GI.iLow, GI.iUvlo] ++ Touch.govern ++ Touch.islandClear, [.out])
  | .islandDesat .. => some ([GI.iCause, GI.iLast], [])
  | .islandDidt .. => some ([GI.iCause, GI.iLast], [])
  | .islandOt .. => some ([GI.iCause, GI.iLast, GI.iOt, GI.iSt, HK.coolT] ++ Touch.softTurnOff, [.out])
  | .islandPowerUp .. => some (Touch.govern ++ Touch.islandClear, [.out])
  | .osdStart .. => some ([GLK.OSD_CMD.START_A, GLK.OSD_CMD.START_B, GLK.OSD_RES.RES_A, GLK.OSD_RES.RES_B, GLK.OSD_RES.STAT_A,
     GLK.OSD_RES.STAT_B, GLK.osdN], [])
  | .osdStep .. => some ([GLK.OSD_CMD.START_A, GLK.OSD_CMD.START_B, GLK.OSD_RES.RES_A, GLK.OSD_RES.RES_B, GLK.OSD_RES.STAT_A,
     GLK.OSD_RES.STAT_B, GLK.osd, GLK.osdN, RING.lost], [.events, .store])
  | .glkPitArm .. => some ([GLK.PIT_CTL.ISL, GLK.PIT_CTL.SEL] ++ Touch.linkLost ++ Touch.pitAct ++ Touch.pitArm ++
     Touch.uvloEnter, [.events, .store, .out])
  | .belayLineLoss .. => some ([GI.iBl] ++ Touch.govern ++ Touch.osdAbort, [.out])
  | .invalidFrame .. => some ([GI.LINK.BAD_CRC, GI.iBad], [])
  | .commonModeEvent .. => some ([GI.iFlag], [])
  | _ => none

/-- The rows and records that a command of this family may change: CAN, Ethernet and security. -/
def Touch.net : Instr → Option (List Row × List Rec)
  | .ringNop .. => some (Touch.ringAdvance ++ Touch.ringRestart, [.events, .store, .descs, .plays, .ridgeIn, .ethTxQ, .out])
  | .fwChunk .. => some (Touch.complete, [.events, .store, .descs, .plays, .ridgeIn, .ethTxQ, .fwImage, .out])
  | .fwCheckDone .. => some ([SEC.FW_STAT.PEND, SEC.fwPend, SEC.slotSvn, SEC.slotVer] ++ Touch.complete, [.events, .store, .descs,
     .plays, .ridgeIn, .ethTxQ, .fwImage, .out])
  | .calChunk .. => some (Touch.complete, [.events, .store, .descs, .plays, .ridgeIn, .ethTxQ, .calImage, .out])
  | .calCheckDone .. => some ([SEC.CAL_STAT.CAL_SVN, SEC.CAL_STAT.IMG_SVN, SEC.CAL_STAT.IN_FORCE, SEC.CAL_STAT.LOADED,
     SEC.CAL_STAT.PEND, SEC.CAL_VER.VERSION, SEC.calId] ++ Touch.complete, [.events, .store, .descs, .plays, .ridgeIn, .ethTxQ,
     .calImage, .out])
  | .canSend .. => some ([CAN.TXB_ACT.ACT, CAN.TXB_SHD.SHD, CAN.cur] ++ Touch.complete, [.events, .store, .descs, .plays,
     .ridgeIn, .canTx, .ethTxQ, .out])
  | .canCancel .. => some ([CAN.TXB_ACT.ACT, CAN.TXB_SHD.SHD, CAN.cur, CAN.cxlRes] ++ Touch.complete, [.events, .store, .descs,
     .plays, .ridgeIn, .canTx, .ethTxQ, .out])
  | .ethSend .. => some ([ETH.frameAn] ++ Touch.ringAdvance ++ Touch.ringRestart, [.events, .store, .descs, .plays, .ridgeIn,
     .ethTxQ, .out])
  | .canRx .. => some ([CAN.STATUS.PEX] ++ Touch.canQueue ++ Touch.canRxBad, [.events, .store, .descs, .plays, .ridgeIn, .canRxQ,
     .ethTxQ, .out, .fresh])
  | .ethRx .. => some ([ETH.MSEC_STAT.DROP, ETH.RX_BAD.CTRL, ETH.RX_BAD.FCS, ETH.rxPn, RING.CNT.DROP_FULL] ++ Touch.complete,
     [.events, .store, .descs, .plays, .ridgeIn, .ethTxQ, .out])
  | .canJoin .. => some ([CAN.STATUS.STATE, CAN.cur], [])
  | .canTxDone .. => some ([CAN.CNT.TX_OK, CAN.noAck] ++ Touch.canForced ++ Touch.canPitons ++ Touch.canQueue, [.events, .store,
     .descs, .plays, .ridgeIn, .canTx, .canRxQ, .ethTxQ, .out])
  | .canTxError .. => some (Touch.canForced ++ Touch.canPitons, [.events, .store, .descs, .plays, .ridgeIn, .canTx, .ethTxQ,
     .out])
  | .idCollision .. => some ([CAN.IDC.ID, CAN.IDC.IDE, CAN.STATUS.ID_COLLISION, RING.lost], [.events, .store])
  | .canAlone .. => some ([CAN.STATUS.ALONE, CAN.noAck, RING.lost], [.events, .store])
  | .busOff .. => some ([CAN.IDC.RUN, CAN.STATUS.BUS_OFF, CAN.STATUS.STATE, CAN.cur, CAN.off] ++ Touch.cancelEnd, [.events,
     .store, .descs, .plays, .ridgeIn, .canTx, .ethTxQ, .out])
  | .boRecover .. => some ([CAN.CTL.BO_RECOVER, CAN.STATUS.STATE], [])
  | .canRecovered .. => some ([CAN.CTL.BO_RECOVER, CAN.ERR.REC, CAN.ERR.RP, CAN.ERR.TEC, CAN.STATUS.STATE, CAN.cur, CAN.off], [])
  | .domTmo .. => some ([CAN.STATUS.DOM_TMO] ++ Touch.canBusOff, [.events, .store, .descs, .plays, .ridgeIn, .canTx, .ethTxQ,
     .out])
  | .canPex .. => some ([CAN.STATUS.PEX, CAN.TDC.TDCV] ++ Touch.canRxBad ++ Touch.canAttemptBad, [.events, .store, .descs, .plays,
     .ridgeIn, .canTx, .ethTxQ, .out])
  | .canPitArm .. => some ([CAN.PIT_CTL.ARM, CAN.PIT_CTL.BUF, CAN.PIT_CTL.SEL] ++ Touch.pitArm, [.events, .store])
  | .ethLinkChange .. => some ([ETH.PSTAT.SQI] ++ Touch.ethLink, [.events, .store, .descs, .plays, .ridgeIn, .ethTxQ, .out])
  | .msFault .. => some ([ETH.PSTAT.MS_FAULT, RING.lost], [.events, .store])
  | .ethTxDone .. => some ([ETH.MSEC_CFG.TX_AN, ETH.MSEC_STAT.PN_EXH, ETH.MSEC_STAT.PN_LOW, ETH.TX_PN.PN, ETH.frameAn, ETH.pnHi,
     ETH.sakPn] ++ Touch.complete, [.events, .store, .descs, .plays, .ridgeIn, .ethTxQ, .out])
  | .pdelayRx .. => some ([], [.out])
  | .lcTransition .. => some ([BL.PWD_STAT.OPEN, BL.PWD_STAT.ROLE, SEC.LC_CMD.TARGET, SEC.LC_STAT.RESULT] ++ Touch.calZero ++
     Touch.closeHostRole ++ Touch.dbgClose ++ Touch.lcFinish ++ Touch.resetRequest, [.now, .mem, .ecc, .events, .store, .descs,
     .plays, .ridgeIn, .eng, .canTx, .canRxQ, .ethTxQ, .snaps, .fwImage, .calImage, .pwdBuf, .out, .fresh])
  | .authChallenge .. => some ([SEC.AUTH_CHAL.CHAL, SEC.AUTH_CMD.LEVEL, SEC.AUTH_CMD.OP, SEC.AUTH_CMD.ROLE, SEC.AUTH_STAT.RESULT,
     SEC.chalLvl, SEC.chalOn, SEC.chalRole, SEC.chalT, SEC.dbgChal], [.fresh])
  | .authVerify .. => some ([RING.lost, SEC.AUTH_CMD.OP, SEC.AUTH_STAT.FAILS, SEC.AUTH_STAT.LOCK_LEFT, SEC.AUTH_STAT.RESULT,
     SEC.DBG_STAT.LEVEL, SEC.DBG_STAT.OPEN, SEC.DBG_STAT.ROLE, SEC.ROLE.IDLE_LEFT, SEC.ROLE.OPEN, SEC.ROLE.ROLE, SEC.chalOn,
     SEC.hostRole, SEC.idleT, SEC.lockRest, SEC.lockT], [.events, .store])
  | .authClose .. => some ([SEC.AUTH_CMD.OP, SEC.AUTH_STAT.RESULT] ++ Touch.closeHostRole ++ Touch.dbgClose, [.events, .store])
  | .roleTmo .. => some ([SEC.ROLE.IDLE_LEFT, SEC.ROLE.OPEN, SEC.ROLE.ROLE, SEC.hostRole], [])
  | .authLockoutEnd .. => some ([SEC.AUTH_STAT.LOCK_LEFT], [])
  | .intInstall .. => some ([SEC.CAL_STAT.KEY_OK, SEC.KEY_STAT.ROLE_KEYS, SEC.kInt, SEC.roleKey] ++ Touch.keyOp, [.events,
     .store])
  | .roleInstall .. => some ([SEC.KEY_STAT.ROLE_KEYS, SEC.roleKey] ++ Touch.keyOp, [.events, .store])
  | .roleRevoke .. => some ([SEC.KEY_STAT.ROLE_KEYS, SEC.roleKey] ++ Touch.keyOp, [.events, .store])
  | .sakInstall .. => some ([ETH.MSEC_STAT.PN_EXH, ETH.TX_PN.PN, ETH.pnHi, ETH.rxPn, ETH.sak, ETH.sakOn, ETH.sakPn] ++
     Touch.keyOp, [.events, .store])
  | .sakRetire .. => some ([ETH.sak, ETH.sakOn] ++ Touch.keyOp, [.events, .store])
  | .fuseBlow .. => some ([SEC.FUSE.DBG_PROD_DIS, SEC.FUSE.PERF_USER] ++ Touch.keyOp, [.events, .store])
  | .fwCommit .. => some ([SEC.FW_STAT.FW_SVN], [])
  | .calLoadDone .. => some ([SEC.CAL_STAT.PEND, SEC.CAL_STAT.TBL_LOCK] ++ Touch.calZero ++ Touch.jobGo, [.events, .store, .descs,
     .plays, .ridgeIn, .canTx, .ethTxQ, .out])
  | .singleStep .. => some ([CE.stepOnce], [])
  | .tapIdcode .. => some ([SEC.tapIr], [])
  | .tapBypass .. => some ([SEC.tapIr], [])
  | .tapSamplePreload .. => some ([SEC.DBG_STAT.VDC_OK, SEC.tapIr], [])
  | .tapExtest .. => some ([SEC.DBG_STAT.VDC_OK, SEC.tapIr], [])
  | .dapSelect .. => some ([SEC.tapIr], [])
  | .dbgTrstn .. => some ([SEC.tapIr] ++ Touch.dbgClose, [.events, .store])
  | .dbgVrefLoss .. => some ([SEC.DBG_STAT.VREF, SEC.tapIr] ++ Touch.dbgClose, [.events, .store])
  | .bootRom .. => some ([SEC.CAL_STAT.CAL_SVN, SEC.FW_STAT.BOOT_FAIL, SEC.FW_STAT.FW_SVN, SEC.FW_STAT.IMG_SVN, SEC.FW_STAT.PEND,
     SEC.FW_STAT.SLOT, SEC.fwPend, SEC.fwSlot, SYS.fwRun, SYS.wdT] ++ Touch.bootEvents, [.events, .store])
  | .canRxError .. => some (Touch.canRxBad, [])
  | .zeroingDone .. => some ([SEC.CAL_STAT.ZEROING, SEC.heldRead, SEC.lockZero], [.out])
  | .dbgVrefPresent .. => some ([SEC.DBG_STAT.VREF, SEC.tapIr], [])
  | _ => none

/-- The rows and records that a command of this family may change: clocks, reset, power and memories. -/
def Touch.system : Instr → Option (List Row × List Rec)
  | .ringSnapshot .. => some ([RING.snapAt, RING.snapNum, RING.snapSp] ++ Touch.cairn ++ Touch.complete, [.events, .store, .descs,
     .plays, .ridgeIn, .ethTxQ, .snaps, .out, .fresh])
  | .snapshotNext .. => some ([RING.snapAt] ++ Touch.cairn ++ Touch.complete, [.events, .store, .descs, .plays, .ridgeIn, .ethTxQ,
     .snaps, .out, .fresh])
  | .ringPower .. => some ([SYS.PWR_STAT.RESULT] ++ Touch.powerBegin, [.mem, .ecc, .events, .store, .descs, .plays, .ridgeIn,
     .eng, .canTx, .canRxQ, .ethTxQ, .snaps, .fwImage, .calImage, .pwdBuf, .out])
  | .ringReset .. => some (Touch.commandReset ++ Touch.complete, [.now, .mem, .ecc, .events, .store, .descs, .plays, .ridgeIn,
     .eng, .canTx, .canRxQ, .ethTxQ, .snaps, .fwImage, .calImage, .pwdBuf, .out])
  | .snapshotRead .. => some (Touch.ringAdvance ++ Touch.ringRestart, [.events, .store, .descs, .plays, .ridgeIn, .ethTxQ, .out])
  | .netReset .. => some (Touch.commandDone ++ Touch.commandReset, [.now, .mem, .ecc, .events, .store, .descs, .plays, .ridgeIn,
     .eng, .canTx, .canRxQ, .ethTxQ, .snaps, .fwImage, .calImage, .pwdBuf, .out])
  | .syncRx .. => some ([RING.lost, SYS.AS_STAT.STATE, SYS.AS_STAT.TRIM, SYS.CAIRN_CMD.ARM, SYS.asN, SYS.asT, SYS.cairnDone],
     [.now, .events, .store])
  | .asLocked .. => some ([RING.lost, SYS.AS_STAT.STATE, SYS.asN], [.events, .store])
  | .asHoldover .. => some ([RING.lost, SYS.AS_STAT.STATE, SYS.asN], [.events, .store])
  | .pwrCmd .. => some ([SYS.PWR_CMD.GO, SYS.PWR_CMD.TARGET, SYS.PWR_STAT.RESULT] ++ Touch.powerBegin, [.mem, .ecc, .events,
     .store, .descs, .plays, .ridgeIn, .eng, .canTx, .canRxQ, .ethTxQ, .snaps, .fwImage, .calImage, .pwdBuf, .out])
  | .parkRampEnd .. => some ([GI.cmdOn, OB.INJ_STAT.INJ_ACTIVE, PU.STATUS.DETACHED, SQ.STATUS.MODE, SYS.PWR_STAT.STATE] ++
     Touch.axHalt ++ Touch.powerDone, [.events, .store, .descs, .plays, .ridgeIn, .ethTxQ, .out])
  | .unparkDone .. => some ([GI.STATUS.PEND, GI.cfgOut, SYS.PWR_STAT.STATE] ++ Touch.catchStart ++ Touch.powerDone, [.events,
     .store, .descs, .plays, .ridgeIn, .ethTxQ, .out])
  | .autoUnpark .. => some ([RING.lost, SYS.PWR_STAT.STATE], [.events, .store])
  | .pdEn .. => some ([SYS.PWR_CTL.CFG_REJECT, SYS.PWR_CTL.PD_EN] ++ Touch.fall, [.mem, .ecc, .events, .store, .descs, .plays,
     .ridgeIn, .eng, .canTx, .canRxQ, .ethTxQ, .snaps, .fwImage, .calImage, .pwdBuf, .out])
  | .domainOn .. => some ([RING.lost] ++ Touch.pdSet, [.events, .store])
  | .vlvLow .. => some ([RING.lost, SYS.SUP_STAT.VLV, SYS.SUP_STAT.VLV_LOW], [.events, .store])
  | .vlvHigh .. => some ([RING.lost, SYS.SUP_STAT.VLV, SYS.SUP_STAT.VLV_HIGH], [.events, .store])
  | .brownout .. => some ([SYS.RST_CNT.MERGED, SYS.SUP_CNT.BO_CNT, SYS.SUP_CNT.BO_LAST, SYS.boEv, SYS.boMask, SYS.lowState] ++
     Touch.fall ++ Touch.takeHold, [.now, .mem, .ecc, .events, .store, .descs, .plays, .ridgeIn, .eng, .canTx, .canRxQ, .ethTxQ,
     .snaps, .fwImage, .calImage, .pwdBuf, .out])
  | .brownoutRecover .. => some ([RING.lost, SYS.boMask, SYS.rstPhase, SYS.startT] ++ Touch.pdSet, [.events, .store])
  | .wakePin .. => some (Touch.lcFinish ++ Touch.takeHold ++ Touch.wakeStandby, [.now, .mem, .ecc, .events, .store, .descs,
     .plays, .ridgeIn, .eng, .canTx, .canRxQ, .ethTxQ, .snaps, .fwImage, .calImage, .pwdBuf])
  | .wakeAlarm .. => some (Touch.wakeStandby, [])
  | .pwrWakeLow .. => some ([RING.lost], [.events, .store])
  | .dliPowerOn .. => some ([DLI.OV_CFG.OV_HW, DLI.bcast, DLI.powered, DLI.stepLen, DLI.stepQ] ++ Touch.pdSet, [])
  | .pllFault .. => some (Touch.pllFail, [.events, .store])
  | .pllLock .. => some ([PU.cntT, PU.tripIn, SYS.CLK_STAT.COARSE, SYS.pllDown] ++ Touch.trip, [.events, .store, .out])
  | .clkFault .. => some ([BL.AXIS.LINE, BL.STATUS.SSOUT, BL.clkLost, CAN.CTL.INIT, RING.linkUp, SYS.xtalBad] ++ Touch.canInit ++
     Touch.closeHostRole ++ Touch.ethLink ++ Touch.linkLost ++ Touch.pllFail ++ Touch.stopRings, [.events, .store, .descs,
     .plays, .ridgeIn, .canTx, .ethTxQ, .out])
  | .clkAmbig .. => some ([RING.lost, SYS.CLK_STAT.AMBIG], [.events, .store])
  | .timeLoRead .. => some ([SYS.TIME.TIME], [.out])
  | .cairnGo .. => some ([RING.lost, SYS.CAIRN_STAT.QUEUED, SYS.CAIRN_STAT.REFUSED, SYS.cairnWait] ++ Touch.cairnNow, [.events,
     .store, .snaps, .out, .fresh])
  | .cairnArm .. => some ([SYS.CAIRN_CMD.ARM, SYS.cairnDone], [])
  | .cairnAt .. => some ([SYS.CAIRN_CMD.ARM, SYS.cairnDone] ++ Touch.cairn, [.events, .store, .snaps, .out, .fresh])
  | .cairnQueued .. => some ([SYS.cairnWait] ++ Touch.cairnNow, [.snaps, .out, .fresh])
  | .engineBarrier .. => some ([SYS.barrier, SYS.barrierAt], [])
  | .sysPitArm .. => some ([PU.tripIn, SYS.CLK_STAT.PLL, SYS.PIT_CTL.SEL] ++ Touch.pitAct ++ Touch.pitArm ++ Touch.trip, [.events,
     .store, .out])
  | .powerOn .. => some ([SYS.boMask, SYS.lowState, SYS.wakeEv] ++ Touch.lcFinish ++ Touch.takeHold, [.now, .mem, .ecc, .events,
     .store, .descs, .plays, .ridgeIn, .eng, .canTx, .canRxQ, .ethTxQ, .snaps, .fwImage, .calImage, .pwdBuf])
  | .rstnAssert .. => some ([SYS.rstnLow] ++ Touch.takeHold, [.now, .mem, .ecc, .events, .store, .descs, .plays, .ridgeIn, .eng,
     .canTx, .canRxQ, .ethTxQ, .snaps, .fwImage, .calImage, .pwdBuf])
  | .rstCmd .. => some ([SYS.RST_CMD.INST, SYS.RST_CMD.LEVEL, SYS.RST_CMD.SOURCE, SYS.RST_CMD.WARM, SYS.RST_STAT.RESULT] ++
     Touch.commandReset, [.now, .mem, .ecc, .events, .store, .descs, .plays, .ridgeIn, .eng, .canTx, .canRxQ, .ethTxQ, .snaps,
     .fwImage, .calImage, .pwdBuf, .out])
  | .preResetEnd .. => some ([ACT.ERR_LOC.IMG_FAIL, BIST.SIG.SIG, BL.SH_STAT.ON, BL.shT, GI.glLost, RING.lost, SEC.DBG_STAT.HALT,
     SEC.autoCom, SEC.lockRest, SEC.lockT, SYS.PWR_STAT.PD_ON, SYS.RST_CAUSE.LEVEL, SYS.RST_CAUSE.SRC, SYS.RST_CAUSE.WARM,
     SYS.RST_CNT.RESETS, SYS.RST_CTL.LOCK, SYS.RST_MAP.BELAY, SYS.RST_MAP.BIST, SYS.RST_MAP.BO_CTL, SYS.RST_MAP.HOST,
     SYS.RST_MAP.NET, SYS.RST_MAP.WD_ENG, SYS.RST_MAP.WD_HC, SYS.bistTry, SYS.rstEv, SYS.rstLvl, SYS.rstSrc, SYS.rstWarm,
     SYS.xtalBad] ++ Touch.startUp ++ Touch.clearable, [.now, .mem, .ecc, .events, .store, .descs, .plays, .ridgeIn, .eng,
     .canTx, .canRxQ, .ethTxQ, .snaps, .fwImage, .calImage, .pwdBuf])
  | .blkReset .. => some ([ACT.ERR_LOC.IMG_FAIL, ACT.jobFail, ACT.jobMask, ACT.wDone, ACT.wFail, CAN.cxlRes, GI.glLost, MEM.blank,
     PU.CNT.CNT, PU.CTL.DBL_UPD, PU.PER.PER, PU.STATUS.DOWN, PU.cntT, SYS.RST_CAUSE.LEVEL, SYS.RST_CAUSE.SRC,
     SYS.RST_CAUSE.UNCLEAN, SYS.RST_CAUSE.WARM, SYS.RST_CNT.UNCLEAN_CNT, SYS.RST_STAT.BUSY, SYS.RST_STAT.UNCLEAN, SYS.blkOn] ++
     Touch.jobFinish ++ Touch.blk, [.events, .store, .descs, .plays, .ridgeIn, .eng, .canTx, .canRxQ, .ethTxQ, .snaps, .out])
  | .blkTimeout .. => some ([ACT.ERR_LOC.IMG_FAIL, ACT.jobFail, ACT.jobMask, ACT.wDone, ACT.wFail, CAN.cxlRes, GI.glLost,
     MEM.blank, PU.CNT.CNT, PU.CTL.DBL_UPD, PU.PER.PER, PU.STATUS.DOWN, PU.cntT, SYS.RST_CAUSE.LEVEL, SYS.RST_CAUSE.SRC,
     SYS.RST_CAUSE.UNCLEAN, SYS.RST_CAUSE.WARM, SYS.RST_CNT.UNCLEAN_CNT, SYS.RST_STAT.BUSY, SYS.RST_STAT.UNCLEAN, SYS.blkOn] ++
     Touch.jobFinish ++ Touch.blk, [.events, .store, .descs, .plays, .ridgeIn, .eng, .canTx, .canRxQ, .ethTxQ, .snaps, .out])
  | .wdKick .. => some ([SYS.wdSeq, SYS.wdT] ++ Touch.hcFire, [.now, .mem, .ecc, .events, .store, .descs, .plays, .ridgeIn, .eng,
     .canTx, .canRxQ, .ethTxQ, .snaps, .fwImage, .calImage, .pwdBuf, .out])
  | .hcWatchdog .. => some ([SYS.RST_CNT.WD_CNT] ++ Touch.resetRequest, [.now, .mem, .ecc, .events, .store, .descs, .plays,
     .ridgeIn, .eng, .canTx, .canRxQ, .ethTxQ, .snaps, .fwImage, .calImage, .pwdBuf, .out])
  | .engineWatchdog .. => some ([SYS.RST_CNT.WD_CNT] ++ Touch.blkBegin ++ Touch.resetRequest, [.now, .mem, .ecc, .events, .store,
     .descs, .plays, .ridgeIn, .eng, .canTx, .canRxQ, .ethTxQ, .snaps, .fwImage, .calImage, .pwdBuf, .out])
  | .blRst .. => some ([BL.causeReq, GI.cmdOn, PU.onT, PU.sw, SYS.RST_CNT.MERGED, SYS.RST_STAT.BUSY, SYS.stageEnd] ++
     Touch.takeHold, [.now, .mem, .ecc, .events, .store, .descs, .plays, .ridgeIn, .eng, .canTx, .canRxQ, .ethTxQ, .snaps,
     .fwImage, .calImage, .pwdBuf, .out])
  | .trimLoad .. => some ([RING.lost, SYS.TRIM_STAT.COPY, SYS.TRIM_STAT.CRC_FAIL, SYS.TRIM_STAT.INT_CNT, SYS.TRIM_STAT.TRIM_FAIL,
     SYS.bootMark, SYS.rstPhase, SYS.trimInt, SYS.trimOk] ++ Touch.pdSet, [.events, .store])
  | .domainStep .. => some ([BIST.STAT.PASS, SYS.RST_STAT.BUSY] ++ Touch.pdSet ++ Touch.takeHold ++ Touch.pitDisarm, [.now, .mem,
     .ecc, .events, .store, .descs, .plays, .ridgeIn, .eng, .canTx, .canRxQ, .ethTxQ, .snaps, .fwImage, .calImage, .pwdBuf,
     .fresh])
  | .belayStart .. => some ([BL.AXIS.LINE, BL.LED_RES.T_R, BL.LOG_STAT.INDEX, BL.STATUS.CFG_VALID, BL.STATUS.SSOUT, BL.chain0,
     BL.genesis, BL.logAnchor, BL.logCount, BL.tRes] ++ Touch.xtripAct, [.events, .store, .log])
  | .blSelftest .. => some ([BL.STATUS.SELFTEST_OK, BL.STATUS.SSOUT], [])
  | .startReady .. => some ([BL.STATUS.SSOUT, RING.lost, SYS.PWR_CTL.PD_EN, SYS.RST_STAT.BUSY, SYS.RST_STAT.READY, SYS.bistTry,
     SYS.rstPhase], [.events, .store])
  | .memScrub .. => some ([MEM.scrubMem, MEM.scrubWord] ++ Touch.eccCheck, [.ecc, .events, .store])
  | .winAbort .. => some ([MEM.ARB_STAT.WIN_ABORT, RING.lost], [.events, .store])
  | .marchStart .. => some ([MEM.CTL.CFG_REJECT, MEM.MARCH_CMD.DESTR, MEM.MARCH_CMD.GO, MEM.MARCH_CMD.REPAIR_EN,
     MEM.MARCH_CMD.TARGET, MEM.MARCH_STAT.BUSY, MEM.MARCH_STAT.FAIL_CNT, MEM.MARCH_STAT.RESULT] ++ Touch.calZero, [])
  | .marchDone .. => some ([CE.code, CE.codeOn, CE.ld, CE.ldM, MEM.MARCH_CMD.GO, MEM.MARCH_FAIL.ADDR, MEM.MARCH_FAIL.BIT,
     MEM.MARCH_FAIL.MEM, MEM.MARCH_STAT.BUSY, MEM.MARCH_STAT.FAIL_CNT, MEM.MARCH_STAT.RESULT, MEM.REPAIR.COLS, MEM.REPAIR.ROWS,
     MEM.REPAIR.UNREP, MEM.blank, MEM.host, MEM.hostOn, SQ.store, SQ.storeOn] ++ Touch.calZero ++ Touch.eccCheck, [.mem, .ecc,
     .events, .store])
  | .bistStart .. => some ([BIST.CMD.DOMAIN, BIST.CMD.GO, BIST.CTL.CFG_REJECT, BIST.STAT.BUSY, BIST.STAT.RESULT] ++ Touch.pitAct,
     [.mem, .ecc, .events, .store, .fresh])
  | .bistDone .. => some ([BIST.CMD.GO, BIST.CNT.FAILS, BIST.CNT.RUNS, BIST.STAT.BUSY, BIST.STAT.PASS, BIST.STAT.RESULT, CE.code,
     CE.codeOn, CE.ld, CE.ldM, MEM.ECC_ADDR.ADDR, MEM.ECC_ADDR.MEM, MEM.ECC_STAT.DED, MEM.ECC_STAT.DED_CNT,
     MEM.ECC_STAT.SEC_CNT, MEM.blank, SQ.store, SQ.storeOn] ++ Touch.calZero ++ Touch.resetRequest, [.now, .mem, .ecc, .events,
     .store, .descs, .plays, .ridgeIn, .eng, .canTx, .canRxQ, .ethTxQ, .snaps, .fwImage, .calImage, .pwdBuf, .out])
  | .perfOvf .. => some ([PERF.CNT_LO.CNT, PERF.OVF.OVF, PERF.PERF_PC.PC, PERF.cntHi, RING.lost], [.events, .store, .out])
  | .sampleRecord .. => some ([PERF.SMP_STAT.SMP_DROP, PERF.SMP_STAT.SMP_WR] ++ Touch.pitAct, [.mem, .ecc, .events, .store])
  | .cntLoRead .. => some ([PERF.CNT_HI.CNT, PERF.CNT_LO.CNT, PERF.cntHi], [.out, .fresh])
  | .memPitArm .. => some ([MEM.PIT_CTL.ADDR, MEM.PIT_CTL.ARM, MEM.PIT_CTL.SEL] ++ Touch.pitArm, [.events, .store])
  | .rstnRelease .. => some ([SYS.rstPhase, SYS.rstnLow, SYS.startT], [])
  | _ => none

end Sys2Proof.Machine
end

