-- ==== Sys2Proof/Safety.lean ====
section
/-!
DEFINITION. The terms that claims about the block use: the form every state keeps, and what a command leaves alone.
-/
namespace Sys2Proof.Machine

/-- The form that a state has after reset and that every step keeps. -/
structure State.Inv (s : State) : Prop where
  /-- The store of named rows is canonical, so that equal values are equal data. -/
  regs : Cells.Rising s.regs
  /-- The shared SRAM is in its canonical form (R457). -/
  mem : Memory.wf s.mem = true
  /-- At most 64 events wait in the queue of each class (R271). -/
  queues : ∀ c, (s.queue c).length ≤ 64
  /-- The MRAM event store holds at most 32 768 records (R461). -/
  store : s.evStore.length ≤ 32768
  /-- The snapshot store holds at most the last 16 records (R473). -/
  snaps : s.snaps.length ≤ 16

/-- Every row that shares no place with a row of `rs` (any instance, any element) reads in `t` as it does in `s`. -/
def State.RowsKept (rs : List Row) (s t : State) : Prop :=
  ∀ r i j, (∀ q ∈ rs, ∀ a < q.c1, ∀ b < q.c2, r.key i j ≠ q.key a b) → t.get r i j = s.get r i j

/-- A state that differs at most in the values of rows, what the module has sent, the events that wait and are stored, and
how many free values were drawn: memory, the queues, the descriptors and every other record are as before. -/
def State.SameRecords (s t : State) : Prop :=
  t = { s with regs := t.regs, out := t.out, evFault := t.evFault, evWarning := t.evWarning, evInfo := t.evInfo,
               evSafety := t.evSafety, evStore := t.evStore, fresh := t.fresh }

/-- Only rows differ: nothing is sent, no event is raised, no record changes. -/
def State.OnlyRows (s t : State) : Prop := t = { s with regs := t.regs }

/-- Between `s` and `t` the descriptor in progress of ring `n` is completed (R256, R259): it is no longer in progress, BUSY
is clear, and a completion has been sent for the slot at the head, with its phase, status, tag and result. -/
abbrev State.Completes (s t : State) (n : Nat) (d : Desc) (st : Status) (result : Nat) : Prop :=
  t.desc n = none ∧ t.is RING.STAT.BUSY n = false ∧
    Msg.completion n (s.get RING.HEAD.HEAD n) (s.get RING.pass n % 2 == 0) st.code d.tag.toNat (result % 2 ^ 32)
      ∈ t.out.drop s.out.length

/-- A safety-log event raised between `s` and `t`, at the device time of `s` (R304), is in the event store of `t`. -/
abbrev State.Logged (s t : State) (inst code arg0 arg1 : Nat) : Prop :=
  (EvClass.safety, ({ time := s.now, inst := inst, source := 0x30, code := code, arg0 := arg0, arg1 := arg1 } : Event)) ∈ t.evStore

/-- A safe run: from a state of the form, step after step answers a next state of the form, however many steps are taken. -/
def SafeRun (s : State) : Prop := ∀ n, ∃ t, Sys2Proof.core.run n s = .next t ∧ State.Inv t

end Sys2Proof.Machine
end

