-- ==== Sys2Proof/Certificates/Slice0/Obligations.lean ====
section
/-!
DEFINITION. The statements for the provers. Each effect statement holds for every state and all operands that meet its
hypotheses: the command completes (exec answers a next state), and the state it answers holds what is said. The frames say what each
command leaves alone.
-/
open Sys2Proof Sys2Proof.Machine

/-- A step takes the command at the front of the queue and is exec of it; an empty queue idles (the model's choice, log entry 1) (00_scope.md). -/
def Obligations.StepRunsTheFrontCommand : Prop :=
  (∀ (c : Instr) (rest : List Instr) (s : State),
    step { s with pending := c :: rest } = exec c { s with pending := rest }) ∧
  ∀ s : State, s.pending = [] → step s = .next s

/-- Every command answers a next state from every state, and leaves the queue of waiting commands alone (00_scope.md, 98_reader.md). -/
def Obligations.EveryCommandCompletes : Prop :=
  ∀ (c : Instr) (s : State), ∃ t, exec c s = .next t ∧ t.pending = s.pending

/-- The state after reset has the form that every step keeps (R271, R457, R461, R473). -/
def Obligations.ResetKeepsTheForm : Prop :=
  State.Inv State.reset

/-- Every step from a state of the form State.Inv answers a state of that form (R271, R457, R461, R473). -/
def Obligations.EveryStepKeepsTheForm : Prop :=
  ∀ s t : State, s.Inv → step s = .next t → t.Inv

/-- No step leaves the RETIRED life-cycle state, and none begins a transition out of it (R379, R380, R381). -/
def Obligations.RetiredIsFinal : Prop :=
  ∀ s t : State, s.get SEC.LC_STAT.STATE = 4 → s.get SEC.lcIntent = 0 → step s = .next t →
    t.get SEC.LC_STAT.STATE = 4 ∧ t.get SEC.lcIntent = 0

/-- After reset, fields of every group of blocks read the reset values their rules and register tables state (R50, R69, R71, R98, R103, R105, R140, R298, R350, R371, R440, R460). -/
def Obligations.ResetValuesOfTheTables : Prop :=
  State.reset.get SEN.SUM_CFG.SUM_LIM = 0x0333 ∧ State.reset.get SEN.SUM_CFG.SUM_N = 8 ∧
  (∀ a < 2, State.reset.get POS.INC_CPR.CPR a = 4096 ∧ State.reset.get POS.INC_CFG.IDX_TOL a = 4 ∧
    State.reset.get SQ.BAND_CTL.WIN a = 10 ∧ State.reset.get SQ.REF_CFG.REF_DIV a = 25) ∧
  (∀ u < 5, State.reset.get PU.PER.PER u = 10000) ∧ (∀ c < 4, State.reset.is CAN.CTL.INIT c = true) ∧
  State.reset.get BL.SGL_CFG.SGL_TIME = 2000 ∧
  (∀ k < 3, State.reset.get HK.BS_MIN.U k = 0x3FF ∧ State.reset.get HK.BS_MIN.V k = 0x3FF ∧ State.reset.get HK.BS_MIN.W k = 0x3FF) ∧
  State.reset.get MEM.SCRUB.SCRUB_PER = 200 ∧ State.reset.is MEM.CTL.SCRUB_EN = true ∧
  (∀ a < 2, ∀ b < 2, ∀ k < 128, 36 ≤ k → State.reset.entry a b k = 0x8000) ∧
  (∀ n < 32, State.reset.ringOn n = false) ∧ (∀ c < 8, State.reset.is ACT.chEn c = false) ∧
  (∀ c, State.reset.queue c = []) ∧ (∀ n, State.reset.desc n = none) ∧ State.reset.now = 0 ∧ ∀ a, State.reset.memGet a = 0

/-- REG_WRITE: memory, RW, RWL, W1C and RWS fields, and offsets that nothing occupies (R3, R4, R5, R250, R305, R306, R413, R460). -/
def Obligations.RegisterWritesByTheirAccessCode : Prop :=
  (∀ (addr : BitVec 26) (data : BitVec 32) (wd : Fin 1048576) (s : State),
    (s.getBit SYS.PWR_STAT.PD_ON 2 = true ∧ addr.toNat = 4 * wd.val) →
    ∃ t, exec (.regWrite addr data) s = .next t ∧
      (∀ k < 4, t.memGet (addr.toNat + k) = BitVec.ofNat 8 (data.toNat / 256 ^ k)) ∧
      (∀ a, a / 4 ≠ wd.val → t.memGet a = s.memGet a)) ∧
  (∀ (addr : BitVec 26) (data : BitVec 32) (s : State),
    ((0x00400000 ≤ addr.toNat ∧ addr.toNat < 0x01000000) ∨ 0x01400000 ≤ addr.toNat ∨ s.getBit SYS.PWR_STAT.PD_ON 2 = false) →
    ∃ t, exec (.regWrite addr data) s = .next t ∧
      t = s.hostAccess) ∧
  (∀ (data : BitVec 32) (s : State),
    (s.getBit SYS.PWR_STAT.PD_ON 2 = true) →
    ∃ t, exec (.regWrite 0x01000114 data) s = .next t ∧
      t = s.hostAccess.set SYS.WAKE_CFG.ALARM data.toNat) ∧
  (∀ (data : BitVec 32) (s : State),
    (s.getBit SYS.PWR_STAT.PD_ON 2 = true) →
    ∃ t, exec (.regWrite 0x011D0004 data) s = .next t ∧
      (s.is MEM.CTL.LOCK = false → 16 ≤ data.toNat % 65536 → t = s.hostAccess.set MEM.SCRUB.SCRUB_PER data.toNat) ∧
      (s.is MEM.CTL.LOCK = false → data.toNat % 65536 < 16 → t = s.hostAccess.set MEM.CTL.CFG_REJECT 1) ∧
      (s.is MEM.CTL.LOCK = true → t = s.hostAccess.accessRefused 0x011D0004 data.toNat)) ∧
  (∀ (data : BitVec 32) (s : State),
    (s.getBit SYS.PWR_STAT.PD_ON 2 = true) →
    ∃ t, exec (.regWrite 0x011C0004 data) s = .next t ∧
      t.get PERF.OVF.OVF = s.get PERF.OVF.OVF - (s.get PERF.OVF.OVF &&& data.toNat)) ∧
  (∀ (data : BitVec 32) (s : State),
    (s.getBit SYS.PWR_STAT.PD_ON 2 = true ∧ s.getBit SYS.PWR_STAT.PD_ON 1 = true) →
    ∃ t, exec (.regWrite 0x01300310 data) s = .next t ∧
      t.get BL.HOLD_CFG.HOLD_WMAX = s.get BL.HOLD_CFG.HOLD_WMAX ∧
      (s.is BL.PWD_STAT.OPEN = false → s.Logged t 0 0x020E 0x310 s.linkRole))

/-- The current samples of SEN: scaling, comparator, validity, phase sum (R42, R43, R44, R49, R50). -/
def Obligations.CurrentSamplesScaledAndJudged : Prop :=
  (∀ (ch : Fin 6) (s : State),
    (∀ k < 6, s.pit 0x16 4 k = false ∧ s.is SEN.sumPit k = false ∧ s.is SEN.CH_STAT.SUBST k = false) →
    (s.getBit SEN.CTL.CH_EN ch = true) →
    ∃ t, exec (.fastSample) s = .next t ∧
      t.geti SEN.CH_VAL.FAST ch = (s.scale ch (((sincRaw (sinc3Weight 8) 22 (s.get SEN.hist ch) : Nat) : Int) * 128 - 32768)).2 ∧
      t.is SEN.satF ch = ((s.scale ch (s.fastDensity ch)).1 != (s.scale ch (s.fastDensity ch)).2)) ∧
  (∀ (axis : Fin 2) (k : Fin 3) (s : State),
    (∀ c < 6, s.is SEN.CH_STAT.SUBST c = false) →
    (s.getBit SEN.CTL.CH_EN (3 * axis + k) = true) →
    (s.is SEN.ctrlDue axis = true) →
    ∃ t, exec (.ctrlSample axis) s = .next t ∧
      t.geti SEN.CH_VAL.CTRL (3 * axis + k) = (s.scale (3 * axis + k) (quot ((s.get SEN.ctrlRaw (3 * axis + k) : Int) - 131072) 4)).2 ∧
      t.is SEN.ctrlDue axis = false) ∧
  (∀ (ch : Fin 6) (dat : BitVec 6) (s : State),
    (s.is SYS.pllDown = false ∧ s.is SYS.lowState = false) →
    (s.getBit SEN.CTL.CH_EN ch = true) →
    (∀ c < 6, ∀ k < 4, s.pit 0x16 k c = false) →
    (s.is SEN.bitPit ch = false) →
    ∃ t, exec (.comparatorSample dat) s = .next t ∧
      t.get SEN.hist ch = (2 * s.get SEN.hist ch + ofBool (dat.getLsbD ch != s.is SEN.CH_CFG.INV ch)) % 2 ^ 190 ∧
      (s.geti SEN.CH_OC.OC_HI ch < (t.scale ch (t.compDensity ch)).2 → t.is SEN.CH_STAT.OC_HI ch = true ∧ t.getBit PU.tripIn 5 (ch / 3) = true) ∧
      ((t.scale ch (t.compDensity ch)).2 < s.geti SEN.CH_OC.OC_LO ch → t.is SEN.CH_STAT.OC_LO ch = true ∧ t.getBit PU.tripIn 5 (ch / 3) = true)) ∧
  (∀ (ch : Fin 6) (s : State),
    (s.getBit SEN.CTL.CH_EN ch = true) →
    (192 ≤ s.get SEN.clks ch) →
    ∃ t, exec (.chValid ch) s = .next t ∧
      t.getBit SEN.STATUS.CH_VALID ch = true) ∧
  (∀ (star : Fin 2) (s : State),
    (s.get SEN.SUM_CFG.SUM_N ≤ s.get SEN.sumRun star) →
    ∃ t, exec (.sumFault star) s = .next t ∧
      t.getBit SEN.STATUS.SUM star = true ∧
      t.getBit PU.tripIn 6 star = true) ∧
  (∀ (b : Bool) (s : State),
    (s.evWarning.length < 64) →
    ∃ t, exec (.sup5Fault b) s = .next t ∧
      (t.evWarning = s.evWarning ++ [⟨s.now, 0, if b then 0x30 else 0x16, if b then 0x0103 else 0x0102, 0, 0⟩]) ∧
      t.regs = s.regs)

/-- Sensor faults, substitution and the offset measurement of SEN (R46, R47, R48, R51). -/
def Obligations.CurrentSensorFaultsAndOffsets : Prop :=
  (∀ (axis : Fin 2) (s : State),
    (s.is (State.ofsRow axis) = false) →
    (s.ofsOk axis = true) →
    (s.pdOn 3 = true) →
    ∃ t, exec (.ofsStart axis) s = .next t ∧
      t.is (State.ofsRow axis) = true ∧
      t.get SEN.ofsCnt axis = 0 ∧
      t.getBit SEN.STATUS.OFS_DONE axis = false) ∧
  (∀ (axis : Fin 2) (s : State),
    (s.is (State.ofsRow axis) = false) →
    (s.ofsOk axis = false) →
    (s.pdOn 3 = true) →
    ∃ t, exec (.ofsStart axis) s = .next t ∧
      t.is SEN.STATUS.CFG_REJECT = true ∧
      t.is (State.ofsRow axis) = false) ∧
  (∀ (axis : Fin 2) (s : State),
    (s.is (State.ofsRow axis) = true) →
    (s.ofsOk axis = true) →
    (2 ^ s.get SEN.OFS_CMD.OFS_LEN ≤ s.get SEN.ofsCnt axis) →
    ∃ t, exec (.ofsDone axis) s = .next t ∧
      t.is (State.ofsRow axis) = false ∧
      ((∀ k < 3, s.getBit SEN.CTL.CH_EN (3 * axis + k) = true → s.is SEN.CH_STAT.SUBST (3 * axis + k) = false → s.is SEN.ofsFlag (3 * axis + k) = true → t.is SEN.CH_STAT.OFS_FAIL (3 * axis + k) = true ∧ t.get SEN.CH_OFS.OFS (3 * axis + k) = s.get SEN.CH_OFS.OFS (3 * axis + k)))) ∧
  (∀ (axis : Fin 2) (s : State),
    (s.is (State.ofsRow axis) = true) →
    (s.ofsOk axis = false) →
    ∃ t, exec (.ofsAbandon axis) s = .next t ∧
      t.is (State.ofsRow axis) = false ∧
      (∀ k < 3, t.is SEN.CH_STAT.OFS_FAIL (3 * axis + k) = true)) ∧
  (∀ (ch : Fin 6) (s : State),
    (24 ≤ s.get SEN.run ch) →
    ∃ t, exec (.senClip ch) s = .next t ∧
      t.is SEN.CH_STAT.CLIP ch = true ∧ t.getBit SEN.STATUS.CH_FAULT ch = true) ∧
  (∀ (ch : Fin 6) (s : State),
    (s.get SEN.CH_CFG.LOSS_WIN ch ≤ s.get SEN.run ch) →
    ∃ t, exec (.senBsl ch) s = .next t ∧
      t.is SEN.CH_STAT.BSL ch = true ∧
      ((∀ k < 6, k ≠ (ch : Nat) → s.chLost k = false) → s.is SEN.CTL.RECON_EN = true → t.is SEN.CH_STAT.SUBST ch = true))

/-- Phase-voltage reconstruction, V_dc and the pitons of SEN (R56, R57, R58, R59, R61). -/
def Obligations.PhaseVoltageAndDcLinkSensing : Prop :=
  (∀ (axis : Fin 2) (legs : List (List PvSeg)) (s : State),
    ∃ t, exec (.pvRecon axis legs) s = .next t ∧
      t.is SEN.pvNew axis = true ∧
      t.get SEN.ell axis = min (t.ellOf axis) 65535) ∧
  (∀ (leg : Fin 6) (s : State),
    (s.axEn 0 = false ∧ s.axEn 1 = false) →
    (s.get SEN.PVR_CFG.PV_N ≤ s.get SEN.pvRun leg) →
    (s.getBit SEN.pvFail leg = true) →
    ∃ t, exec (.legMis leg) s = .next t ∧
      t.getBit SEN.PVR_STAT.LEG_MIS leg = true) ∧
  (∀ (leg : Fin 6) (s : State),
    (s.axEn 0 = true ∧ s.axEn 1 = true) →
    (∀ k < 6, s.getBit SEN.pvFail k = true ∧ s.getBit SEN.pvSign k = true) →
    ∃ t, exec (.legMis leg) s = .next t ∧
      t.is SEN.VDC_STAT.XCHK = true ∧
      t.getBit PU.tripIn 9 0 = true ∧ t.getBit PU.tripIn 9 1 = true) ∧
  (∀ (code fb : BitVec 14) (seq : BitVec 4) (s : State),
    (s.pit 0x16 5 0 = false ∧ s.is SEN.vdcPit = false) →
    (s.is SEN.vdcEver = false) →
    ∃ t, exec (.vdcFrame code fb seq true) s = .next t ∧
      t.get DLI.FB.CODE = fb.toNat ∧
      t.get SEN.VDC_RAW.CODE = code.toNat ∧ t.get SEN.VDC_RAW.SEQ = seq.toNat ∧
      t.get SEN.VDC_VAL.FAST = min (quotN (code.toNat * 11000 * 32768) (16383 * s.vBase 0)) 0x7FFF) ∧
  (∀ (code fb : BitVec 14) (seq : BitVec 4) (s : State),
    (s.pit 0x16 5 0 = false ∧ s.is SEN.vdcPit = false) →
    ∃ t, exec (.vdcFrame code fb seq false) s = .next t ∧
      t.get SEN.VDC_VAL.FAST = s.get SEN.VDC_VAL.FAST ∧
      t.get SEN.VDC_STAT.BAD_FRAMES = min (s.get SEN.VDC_STAT.BAD_FRAMES + 1) 0xFFFF) ∧
  (∀ (s : State),
    ∃ t, exec (.vdcStale) s = .next t ∧
      t.is SEN.VDC_STAT.STALE = true ∧
      t.is OB.STATUS.VDC_HOLD 0 = true ∧ t.is OB.STATUS.VDC_HOLD 1 = true) ∧
  (∀ (s : State),
    ∃ t, exec (.vdcLost) s = .next t ∧
      t.is SEN.VDC_STAT.LOST = true ∧
      t.getBit PU.tripIn 8 0 = true ∧ t.getBit PU.tripIn 8 1 = true) ∧
  (∀ (sel : BitVec 4) (ch : BitVec 3) (s : State),
    (s.pitAllowed = true) →
    (1 ≤ sel.toNat ∧ sel.toNat ≤ 6) →
    (ch.toNat ≤ 5) →
    (s.pdOn 3 = true) →
    ∃ t, exec (.senPitArm sel ch) s = .next t ∧
      t.is SEN.PIT_CTL.ARM = true ∧ t.is BL.PIT_STAT.ARMED = true ∧
      t.get BL.PIT_STAT.SOURCE = 0x16 ∧ t.get BL.PIT_STAT.SEL = sel.toNat)

/-- The Belay island's current path: conversion, faults and cross-check (R53, R54, R55, R60, R292). -/
def Obligations.RedundantCurrentPathJudged : Prop :=
  (∀ (codes : List (BitVec 12)) (ch : Fin 6) (s : State),
    (∀ k < 6, s.pit 0x30 1 k = false ∧ s.is BL.ihaPit k = false) →
    ∃ t, exec (.ihaSample codes) s = .next t ∧
      t.geti BL.IHA_VAL.I ch = sat16 (s.ihaI ch (codes.getD ch 0).toNat) ∧
      t.get BL.ihaCnt = min (s.get BL.ihaCnt + 1) (2 ^ BL.ihaCnt.width - 1)) ∧
  (∀ (ch : Fin 6) (s : State),
    (3 ≤ s.get BL.satRun ch) →
    ∃ t, exec (.ihaSat ch) s = .next t ∧
      t.getBit BL.IHA_STAT.IHA_SAT ch = true ∧
      (s.getBit BL.IHA_STAT.IHA_SAT ch = false → s.getBit BL.IHA_STAT.IHA_CM ch = false → s.getBit BL.IHA_STAT.IHA_ADC ch = false → t.getBit BL.CAUSE.BIV_CAUSE BivCause.ihaCh.bit (s.lead (ch / 3)) = true)) ∧
  (∀ (ch : Fin 6) (s : State),
    ∃ t, exec (.ihaCm ch) s = .next t ∧
      t.getBit BL.IHA_STAT.IHA_CM ch = true ∧
      (s.getBit BL.IHA_STAT.IHA_SAT ch = false → s.getBit BL.IHA_STAT.IHA_CM ch = false → s.getBit BL.IHA_STAT.IHA_ADC ch = false → t.getBit BL.CAUSE.BIV_CAUSE BivCause.ihaCh.bit (s.lead (ch / 3)) = true)) ∧
  (∀ (ch : Fin 6) (s : State),
    ∃ t, exec (.ihaAdc ch) s = .next t ∧
      t.getBit BL.IHA_STAT.IHA_ADC ch = true ∧
      (s.getBit BL.IHA_STAT.IHA_SAT ch = false → s.getBit BL.IHA_STAT.IHA_CM ch = false → s.getBit BL.IHA_STAT.IHA_ADC ch = false → t.getBit BL.CAUSE.BIV_CAUSE BivCause.ihaCh.bit (s.lead (ch / 3)) = true)) ∧
  (∀ (star : Fin 2) (s : State),
    (20 ≤ s.get BL.ihaSumRun star) →
    ∃ t, exec (.ihaSum star) s = .next t ∧
      t.getBit BL.IHA_STAT.IHA_SUM star = true ∧
      t.getBit BL.causeReq SsCause.ihaSum.bit star = true) ∧
  (∀ (ch : Fin 6) (s : State),
    ∃ t, exec (.xchkWindow) s = .next t ∧
      t.get BL.isdCnt ch = 0 ∧ t.get BL.isdSum ch = 0 ∧ t.get BL.ihaAcc ch = 0 ∧
      t.get BL.ihaCnt = 0) ∧
  (∀ (ch : Fin 6) (s : State),
    (3 ≤ s.get BL.xRun ch) →
    ∃ t, exec (.curXchk ch) s = .next t ∧
      t.getBit BL.IHA_STAT.CUR_XCHK ch = true ∧ t.is SEN.CH_STAT.XCHK ch = true ∧
      ((s.is SEN.CH_STAT.BSL ch || s.is SEN.CH_STAT.CLIP ch || s.is SEN.CH_STAT.SUBST ch || s.is SEN.CH_STAT.OVR ch) = true →
    (s.getBit BL.IHA_STAT.IHA_SAT ch || s.getBit BL.IHA_STAT.IHA_CM ch || s.getBit BL.IHA_STAT.IHA_ADC ch || s.is BL.xPitted ch) = true →
    t.getBit BL.causeReq SsCause.xchkUnattr.bit (ch / 3) = true))

/-- POS: absolute words, the incremental track, index, losses and pitons (R63, R65, R66, R67, R68, R70, R71, R72, R74, R78, R79, R85). -/
def Obligations.PositionSourcesTakeTheirInputs : Prop :=
  (∀ (axis : Fin 2) (s : State),
    ∃ t, exec (.capRequest axis) s = .next t ∧
      (s.is POS.CAP_STAT.BUSY axis = true → t.get POS.CAP_STAT.SKIP axis = min (s.get POS.CAP_STAT.SKIP axis + 1) (2 ^ POS.CAP_STAT.SKIP.width - 1)) ∧
      t.is POS.CAP_STAT.BUSY axis = true) ∧
  (∀ (axis : Fin 2) (startOk valid attn : Bool) (word : BitVec 32) (crc : BitVec 6) (delay : BitVec 8) (request : Nat) (s : State),
    (s.is POS.CAP_STAT.BUSY axis = true ∧ s.is POS.tmoPit axis = false ∧ s.is POS.crcPit axis = false ∧ s.is POS.lfCap axis = false) →
    (startOk = false ∨ valid = false ∨ crcM 6 0x19 0x3F ([valid, attn] ++ (List.range (s.get POS.CAP_CFG.WLEN axis)).map fun i => bit word.toNat i) ≠ crc.toNat) →
    ∃ t, exec (.capFrame axis startOk valid attn word crc delay request) s = .next t ∧
      t.get POS.CAP_TIM.RX_DLY axis = delay.toNat ∧
      (t.is POS.CAP_STAT.CRC axis = true ∨ t.is POS.CAP_STAT.SENS_ERR axis = true) ∧
      t.get POS.CAP_WORD.WORD axis = s.get POS.CAP_WORD.WORD axis ∧ t.get POS.SPD_VAL.SPD_ABS axis = 0) ∧
  (∀ (axis : Fin 2) (attn : Bool) (word : BitVec 32) (crc : BitVec 6) (delay : BitVec 8) (request : Nat) (s : State),
    (s.is POS.CAP_STAT.BUSY axis = true ∧ s.is POS.tmoPit axis = false ∧ s.is POS.crcPit axis = false ∧ s.is POS.lfCap axis = false) →
    (crcM 6 0x19 0x3F ([true, attn] ++ (List.range (s.get POS.CAP_CFG.WLEN axis)).map fun i => bit word.toNat i) = crc.toNat) →
    ∃ t, exec (.capFrame axis true true attn word crc delay request) s = .next t ∧
      (s.is POS.CAP_CFG.GRAY axis = false → t.get POS.CAP_WORD.WORD axis = word.toNat % 2 ^ s.get POS.CAP_CFG.WLEN axis % 2 ^ 32) ∧
      t.is POS.wordRow axis = true ∧ t.get POS.discards axis = 0 ∧
      (s.is POS.wordRow axis = true → t.geti POS.SPD_VAL.SPD_ABS axis = clampI (-0x7FFF) 0x7FFF
        (s.rateOf axis (wrap16 (t.get POS.thM axis - s.get POS.thM axis) * s.poles axis) 65536
          ((request + s.get POS.CAP_TIM.SENS_LAT axis : Nat) - s.get POS.wordT axis))) ∧
      (s.is POS.wordRow axis = false → t.get POS.SPD_VAL.SPD_ABS axis = 0) ∧
      (attn = true → t.is POS.CAP_STAT.SENS_WRN axis = true)) ∧
  (∀ (axis : Fin 2) (s : State),
    (s.is POS.CAP_STAT.BUSY axis = true) →
    ∃ t, exec (.capTimeout axis) s = .next t ∧
      t.is POS.CAP_STAT.TMO axis = true ∧
      t.get POS.SPD_VAL.SPD_ABS axis = 0) ∧
  (∀ (axis : Fin 2) (s : State),
    ∃ t, exec (.capRecoveryEnd axis) s = .next t ∧
      t.is POS.CAP_STAT.BUSY axis = false) ∧
  (∀ (axis : Fin 2) (s : State),
    (s.get POS.CAP_CFG.INV_N axis ≤ s.get POS.discards axis) →
    ∃ t, exec (.absLost axis) s = .next t ∧
      t.is POS.CAP_STAT.ABS_LOST axis = true ∧
      t.is POS.CAP_STAT.VALID axis = false ∧ t.getBit POS.XCHK_STAT.VALID (if s.joined && axis == 1 then 3 else 0) (s.lead axis) = false) ∧
  (∀ (axis : Fin 2) (aLeads : Bool) (stamp : Nat) (s : State),
    (s.pit 0x17 3 axis = false) →
    ∃ t, exec (.incEdge axis aLeads stamp) s = .next t ∧
      t.get POS.INC_COUNT.COUNT axis = (s.get POS.INC_COUNT.COUNT axis + (if aLeads != s.is POS.INC_CFG.SWAP axis then 1 else 2 ^ 32 - 1)) % 2 ^ 32 ∧
      t.is POS.INC_STAT.STILL axis = false ∧
      (s.is POS.edgeEver axis = true → stamp < s.get POS.edgeT axis 0 + 40 → t.is POS.INC_STAT.RATE axis = true) ∧
      (s.is POS.INC_STAT.DIR axis = (aLeads != s.is POS.INC_CFG.SWAP axis) → t.get POS.SPD_VAL.SPD_INC axis = 0) ∧
      t.is POS.INC_STAT.DIR axis = !(aLeads != s.is POS.INC_CFG.SWAP axis)) ∧
  (∀ (axis : Fin 2) (s : State),
    ∃ t, exec (.incIllegal axis) s = .next t ∧
      t.is POS.INC_STAT.ILLEGAL axis = true ∧
      t.get POS.INC_STAT.ILL_CNT axis = min (s.get POS.INC_STAT.ILL_CNT axis + 1) (2 ^ POS.INC_STAT.ILL_CNT.width - 1)) ∧
  (∀ (axis : Fin 2) (s : State),
    (s.is POS.INC_CFG.Z_EN axis = true ∧ s.getBit POS.lfInc 1 axis = false) →
    (s.pit 0x17 4 axis = false ∧ s.is POS.idxWait axis = true) →
    ∃ t, exec (.incIndex axis) s = .next t ∧
      t.get POS.IDX_LAT.LAT axis = s.get POS.INC_POS.POS axis % 2 ^ POS.IDX_LAT.LAT.width ∧
      t.get POS.IDX_REF.REF axis = s.get POS.INC_POS.POS axis % 2 ^ POS.IDX_REF.REF.width ∧ t.is POS.IDX_REF.REF_VALID axis = true) ∧
  (∀ (axis : Fin 2) (s : State),
    (s.pdOn (3 + axis) = true) →
    ∃ t, exec (.reref axis) s = .next t ∧
      (s.axEn (s.lead axis) = true → t.is POS.CTL.CFG_REJECT = true ∧ t.is POS.IDX_REF.REF_VALID axis = s.is POS.IDX_REF.REF_VALID axis) ∧
      (s.axEn (s.lead axis) = false → t.is POS.IDX_REF.REF_VALID axis = false ∧ t.is POS.idxWait axis = true)) ∧
  (∀ (axis : Fin 2) (pair : Fin 3) (present : Bool) (s : State),
    ∃ t, exec (.lineFlt axis pair present) s = .next t ∧
      (pair = 2 → t.is POS.lfCap axis = present ∧ (present = true → t.is POS.CAP_STAT.LINE_FLT axis = true)) ∧
      (pair = 1 → t.getBit POS.lfInc 1 axis = present ∧ (present = true → t.is POS.INC_STAT.LINE_FLT axis = true)) ∧
      (pair = 0 → t.getBit POS.lfInc 0 axis = present ∧ t.is BL.lineFlt axis = present ∧ (present = true → t.is POS.INC_STAT.LINE_FLT axis = true)) ∧
      (pair = 0 → present = true → s.axEn (s.lead axis) = true → s.joined = false ∨ (axis = 0 ∧ s.getBit POS.XCHK_STAT.VALID 4 0 = false) → t.getBit BL.causeReq SsCause.incLost.bit axis = true)) ∧
  (∀ (axis : Fin 2) (s : State),
    (s.get POS.edgeT axis 0 + s.get POS.SPD_CFG.STILL_MS axis * 400000 ≤ s.now) →
    ∃ t, exec (.posStill axis) s = .next t ∧
      t.is POS.INC_STAT.STILL axis = true ∧ t.get POS.SPD_VAL.SPD_INC axis = 0) ∧
  (∀ (axis : Fin 2) (i j k : Fin 5) (s : State),
    (s.joined = false ∨ axis = 0) →
    (i ≠ j ∧ i ≠ k ∧ j ≠ k ∧ ∀ n : Fin 5, s.getBit POS.XCHK_STAT.VALID n axis = (n == i || n == j || n == k)) →
    (s.disagree axis i j = true ∧ s.disagree axis i k = true ∧ s.disagree axis j k = false) →
    ∃ t, exec (.sourceLost axis) s = .next t ∧
      t.getBit POS.XCHK_STAT.LOST i axis = true ∧ t.getBit POS.XCHK_STAT.VALID i axis = false) ∧
  (∀ (axis : Fin 2) (sel : BitVec 4) (s : State),
    (s.pitAllowed = true) →
    (1 ≤ sel.toNat ∧ sel.toNat ≤ 5) →
    (s.pdOn 3 = true) →
    ∃ t, exec (.posPitArm axis sel) s = .next t ∧
      t.is POS.PIT_CTL.ARM = true ∧ t.get BL.PIT_STAT.SOURCE = 0x17 ∧ t.get BL.PIT_STAT.SEL = sel.toNat)

/-- The decision tick and the events of table-switched torque control (R86, R94, R95, R100, R103, R106, R107, R108, R109, R113). -/
def Obligations.TableControlEventsTakeEffect : Prop :=
  (∀ (s : State),
    ∃ t, exec (.decisionTick) s = .next t ∧
      t.now = (s.now / 160 + 1) * 160 ∧
      (s.is SYS.pllDown = true ∨ s.pdOn 2 = false → t = { s with now := t.now }) ∧
      (s.is SYS.pllDown = false → s.pdOn 2 = true → s.getBit SYS.PWR_STAT.PD_ON 3 = true → s.getBit SYS.PWR_STAT.PD_ON 4 = true → s.is SQ.TBL_CTL.SWAP 0 = true → s.is ACT.STAT.PEND = false →
    t.is SQ.TBL_CTL.SWAP 0 = false ∧
    (s.bankOk 0 (1 - s.get SQ.TBL_CTL.ACT_BANK 0) = true → t.get SQ.TBL_CTL.ACT_BANK 0 = 1 - s.get SQ.TBL_CTL.ACT_BANK 0) ∧
    (s.bankOk 0 (1 - s.get SQ.TBL_CTL.ACT_BANK 0) = false →
      t.get SQ.TBL_CTL.ACT_BANK 0 = s.get SQ.TBL_CTL.ACT_BANK 0 ∧ t.is SQ.FLAGS.TBL_REJECT 0 = true))) ∧
  (∀ (axis : Fin 2) (s : State),
    (s.pdOn (3 + axis) = true) →
    ∃ t, exec (.tblSwap axis) s = .next t ∧
      (s.bankOk axis (1 - s.get SQ.TBL_CTL.ACT_BANK axis) = true → t.is SQ.TBL_CTL.SWAP axis = true) ∧
      (s.bankOk axis (1 - s.get SQ.TBL_CTL.ACT_BANK axis) = false → t.is SQ.FLAGS.TBL_REJECT axis = true ∧ t.is SQ.TBL_CTL.SWAP axis = s.is SQ.TBL_CTL.SWAP axis)) ∧
  (∀ (axis : Fin 2) (s : State),
    (2 * s.get SQ.REF_CFG.REF_DIV axis ≤ s.get SQ.refAge axis) →
    ∃ t, exec (.refStale axis) s = .next t ∧
      t.is SQ.FLAGS.REF_STALE axis = true ∧ t.getBit PU.tripIn 10 axis = true) ∧
  (∀ (axis : Fin 2) (s : State),
    (2 ^ s.get SQ.BAND_CTL.WIN axis ≤ s.get SQ.winTick axis) →
    ∃ t, exec (.bandWindow axis) s = .next t ∧
      t.get SQ.winTick axis = 0 ∧ t.get SQ.comm axis = 0 ∧
      (s.get SQ.STATUS.MODE axis ≠ 4 ∨ s.is SQ.BAND_CTL.BAND_EN axis = false ∨ 2 ^ s.get SQ.BAND_CTL.WIN axis < 4 * s.get SQ.bigErr axis → t.get SQ.BAND_VAL.S axis = s.get SQ.BAND_VAL.S axis) ∧
      (s.get SQ.STATUS.MODE axis = 4 → s.is SQ.BAND_CTL.BAND_EN axis = true → 2 ^ s.get SQ.BAND_CTL.WIN axis < 4 * s.get SQ.bigErr axis →
    t.get SQ.FLAGS.DISC_CNT axis = min (s.get SQ.FLAGS.DISC_CNT axis + 1) (2 ^ SQ.FLAGS.DISC_CNT.width - 1))) ∧
  (∀ (axis : Fin 2) (s : State),
    (8 ≤ s.get SQ.resRun axis ∧ s.get SQ.STATUS.MODE axis = 4) →
    ∃ t, exec (.obsLost axis) s = .next t ∧
      t.is SQ.FLAGS.OBS_LOST axis = true ∧ t.get SQ.STATUS.MODE axis = 6 ∧
      t.get SQ.OBS_STAT.STOP axis = 0 ∧ t.get SQ.rampN axis = 0) ∧
  (∀ (axis : Fin 2) (s : State),
    (s.get SQ.STATUS.MODE axis = 6 ∧ s.is SQ.OBS_STAT.STOP axis = false ∧ s.cmdBarred axis = false) →
    (5 * s.get SQ.OBS_CFG.RAMP_US axis ≤ 2 * s.get SQ.rampN axis) →
    (s.is SQ.OBS_CFG.RETRY_MAX axis = false) →
    ∃ t, exec (.stoppingRampEnd axis) s = .next t ∧
      t.is SQ.OBS_STAT.STOP axis = true ∧ t.is ACT.chEn (s.axisCh axis) = false) ∧
  (∀ (axis : Fin 2) (s : State),
    (s.get SQ.XY_CFG.XY_N axis ≤ s.get SQ.xyRun axis) →
    ∃ t, exec (.xyHigh axis) s = .next t ∧
      t.is SQ.FLAGS.XY_HIGH axis = true) ∧
  (∀ (axis : Fin 2) (s : State),
    ∃ t, exec (.afConv axis) s = .next t ∧
      (8 * (s.geti OB.afSpd axis).natAbs < 7 * s.get OB.SLS_CFG.SLS_MIN axis → t.is OB.STATUS.AF_CONV axis = false) ∧
      (s.get OB.SLS_CFG.SLS_MIN axis < (s.geti OB.afSpd axis).natAbs → s.get OB.afBad axis < s.get OB.SLS_CFG.CONV_N axis → s.get OB.SLS_CFG.CONV_N axis ≤ s.get OB.afOk axis → t.is OB.STATUS.AF_CONV axis = true)) ∧
  (∀ (axis : Fin 2) (sel : BitVec 4) (s : State),
    (s.pitAllowed = true ∧ 1 ≤ sel.toNat ∧ sel.toNat ≤ 5) →
    (s.pdOn (3 + axis) = true) →
    ∃ t, exec (.obPitArm axis sel) s = .next t ∧
      t.is OB.PIT_CTL.ARM axis = true ∧ t.get BL.PIT_STAT.SOURCE = 0x13 + axis) ∧
  (∀ (axis : Fin 2) (sel : BitVec 4) (s : State),
    (s.pitAllowed = true ∧ 1 ≤ sel.toNat ∧ sel.toNat ≤ 3) →
    (s.pdOn (3 + axis) = true) →
    ∃ t, exec (.sqPitArm axis sel) s = .next t ∧
      t.is SQ.PIT_CTL.ARM axis = true ∧ t.get BL.PIT_STAT.SOURCE = 0x10 + axis)

/-- Injection, polarity, traverse and catch: each event's transition (R119, R121, R122, R123, R125, R126, R127, R128, R130, R132, R133, R134). -/
def Obligations.InjectionTraverseAndCatchProceed : Prop :=
  (∀ (axis : Fin 2) (s : State),
    (s.is OB.INJ_STAT.INJ_ACTIVE axis = true ∧ s.get OB.INJ_CONV.INJ_N axis ≤ s.get OB.injIn axis) →
    ∃ t, exec (.injConv axis) s = .next t ∧
      t.is OB.INJ_STAT.INJ_CONV axis = true ∧ t.is OB.polWait axis = false) ∧
  (∀ (axis : Fin 2) (s : State),
    (s.is OB.polRun axis = true) →
    (s.get OB.polPh axis = 4 ∨ (s.get OB.polPh axis = 1 ∧ s.get OB.POL_CFG2.POL_TMAX axis * 25 ≤ s.get OB.polN axis)) →
    ∃ t, exec (.polPulseEnd axis) s = .next t ∧
      (s.get OB.polPh axis = 1 → t.is OB.POL_STAT.POL_FAIL axis = true ∧ t.get SQ.STATUS.MODE axis = 0 ∧ t.is OB.polRun axis = false) ∧
      (s.get OB.polPh axis = 4 → s.get OB.polIdx axis + 1 < 2 * s.get OB.POL_CFG2.POL_N axis → t.get OB.polIdx axis = (s.get OB.polIdx axis + 1) % 2 ^ OB.polIdx.width ∧ t.is OB.polRun axis = true ∧ t.get OB.polPh axis = 1)) ∧
  (∀ (axis : Fin 2) (s : State),
    (s.is OB.polRun axis = true ∨ s.is OB.polWait axis = true) →
    (s.is OB.POL_STAT.POL_DONE axis = false) →
    (s.get OB.injT axis + 8000000 ≤ s.now) →
    ∃ t, exec (.polFail axis) s = .next t ∧
      t.is OB.POL_STAT.POL_FAIL axis = true ∧ t.get SQ.STATUS.MODE axis = 0) ∧
  (∀ (axis : Fin 2) (s : State),
    (s.is OB.INJ_STAT.INJ_CONV axis = true ∧ s.get OB.INJ_CONV.INJ_N axis ≤ s.get OB.injOut axis) →
    ∃ t, exec (.injLost axis) s = .next t ∧
      t.is OB.INJ_STAT.INJ_LOST axis = true ∧ t.is OB.INJ_STAT.INJ_CONV axis = false ∧
      t.getBit POS.XCHK_STAT.LOST 2 axis = true) ∧
  (∀ (axis : Fin 2) (s : State),
    (s.is SQ.injRamp axis = true ∧ 5 * s.get SQ.OBS_CFG.RAMP_US axis ≤ 2 * s.get SQ.injRampN axis) →
    ∃ t, exec (.injLostRampEnd axis) s = .next t ∧
      t.get SQ.STATUS.MODE axis = 0 ∧ t.is OB.INJ_STAT.INJ_ACTIVE axis = false ∧ t.is ACT.chEn (s.axisCh axis) = false) ∧
  (∀ (axis : Fin 2) (s : State),
    (s.is SQ.TRAV_STAT.HOLD axis = false ∧ s.get SQ.TRAV_CFG.TRAV_N axis ≤ s.get SQ.travCnt axis) →
    ∃ t, exec (.travRequest axis) s = .next t ∧
      (s.get SQ.STATUS.MODE axis = 2 → t.get SQ.STATUS.MODE axis = 3) ∧
      (s.get SQ.STATUS.MODE axis = 4 → t.get SQ.STATUS.MODE axis = 5)) ∧
  (∀ (axis : Fin 2) (s : State),
    (s.get PU.CNT.CNT axis = 0) →
    ∃ t, exec (.travHandover axis) s = .next t ∧
      (s.get SQ.STATUS.MODE axis = 3 → s.travUnmet axis = 0 → t.get SQ.STATUS.MODE axis = 4 ∧ t.is PU.STATUS.DETACHED axis = true ∧ t.get SQ.REF.T_REF axis = s.get BL.tCmd axis % 2 ^ 16) ∧
      (s.get SQ.STATUS.MODE axis = 5 → t.get SQ.STATUS.MODE axis = 2 ∧ t.is PU.STATUS.DETACHED axis = false)) ∧
  (∀ (axis : Fin 2) (s : State),
    (s.get SQ.STATUS.MODE axis = 3 ∧ s.is SQ.travWait axis = false ∧ s.travUnmet axis ≠ 0) →
    ∃ t, exec (.travAbort axis) s = .next t ∧
      t.get SQ.STATUS.MODE axis = 2 ∧ t.is SQ.TRAV_STAT.TRAV_ABORT axis = true) ∧
  (∀ (axis : Fin 2) (s : State),
    (s.is SQ.TRAV_STAT.HOLD axis = true ∧ s.travHeld axis = true) →
    ∃ t, exec (.travHoldEnd axis) s = .next t ∧
      t.is SQ.TRAV_STAT.HOLD axis = false ∧ t.get SQ.travCnt axis = 0) ∧
  (∀ (axis : Fin 2) (s : State),
    (s.get SQ.stepPend axis = 1) →
    ∃ t, exec (.travStep axis) s = .next t ∧
      t.is SQ.stepPend axis = false ∧
      (s.pit (0x10 + axis) 3 axis = false → t.get SQ.TRAV_STAT.STEP_MEAS axis = ofSigned 16 (sat16 (s.geti SQ.tqAvg axis - s.geti SQ.stepBase axis - (s.geti BL.tCmd axis - s.geti SQ.stepCmd axis))))) ∧
  (∀ (axis : Fin 2) (s : State),
    (s.get SQ.STATUS.MODE axis = 1 ∧ 16 ≤ s.get OB.ellN axis) →
    (s.is SQ.CATCH_STAT.RESULT axis = false ∧ s.is SQ.CATCH_STAT.METHOD axis = false) →
    (s.joined = true → s.catchClass axis (quotN (s.get OB.ellSum 0) 16) = s.catchClass axis (quotN (s.get OB.ellSum 1) 16)) →
    ∃ t, exec (.catchClassify axis) s = .next t ∧
      (t.get SQ.CATCH_STAT.METHOD axis = if quotN (s.get OB.ellSum axis) 16 < s.get SQ.CATCH_LIM.CATCH_VMIN axis then 1
    else if quotN (s.get OB.ellSum axis) 16 * 32768 < s.get SQ.CATCH_CFG.CATCH_K axis * s.get SEN.VDC_VAL.FAST then 2 else 3)) ∧
  (∀ (axis : Fin 2) (s : State),
    (s.get SQ.STATUS.MODE axis = 1 ∧ s.get SQ.CATCH_STAT.METHOD axis = 3 ∧ s.is SQ.CATCH_STAT.RESULT axis = false) →
    (s.is SQ.pulseLeft axis = false ∧ s.cmdBarred axis = false ∧ s.get SQ.CATCH_CFG.CATCH_PER axis ≤ s.get SQ.pulseAge axis) →
    ∃ t, exec (.catchPulse axis) s = .next t ∧
      t.get SQ.pulseLeft axis = 5 ∧
      t.get SQ.CATCH_STAT.PULSES axis = min (s.get SQ.CATCH_STAT.PULSES axis + 1) (2 ^ SQ.CATCH_STAT.PULSES.width - 1)) ∧
  (∀ (axis : Fin 2) (s : State),
    (s.get SQ.STATUS.MODE axis = 1 ∧ s.is SQ.CATCH_STAT.RESULT axis = false) →
    (s.pit (0x13 + axis) 5 axis = false ∧ s.is OB.catchPit axis = false) →
    ∃ t, exec (.catchResult axis) s = .next t ∧
      (s.get SQ.CATCH_STAT.METHOD axis = 1 → s.ofsRuns axis = false → s.get SQ.CATCH_LIM.STILL_WIN axis * 40000 ≤ s.now - s.get OB.catchT axis → t.get SQ.CATCH_STAT.RESULT axis = 1 ∧ t.get SQ.STATUS.MODE axis = 2) ∧
      (2 ≤ s.get SQ.CATCH_STAT.METHOD axis → s.catchAgree axis = true → t.get SQ.CATCH_STAT.RESULT axis = 1 ∧ t.is SQ.catchGo axis = true ∧ t.get OB.CATCH_VAL.CATCH_ANG axis = s.catchFlux axis s.now % 65536 ∧ t.get OB.CATCH_VAL.CATCH_SPD axis = s.get OB.cW axis 0)) ∧
  (∀ (axis : Fin 2) (s : State),
    (s.get SQ.STATUS.MODE axis = 1 ∧ s.is SQ.CATCH_STAT.RESULT axis = false ∧ s.catchLate axis = true) →
    ∃ t, exec (.catchDeadline axis) s = .next t ∧
      t.get SQ.CATCH_STAT.RESULT axis = 2 ∧ t.get SQ.STATUS.MODE axis = 0 ∧
      (t.get SQ.CATCH_STAT.OUTCOME axis = if s.catchAbove axis then 2 else 1))

/-- PWM units and trip units: each command's effect (R140, R141, R144, R145, R153, R157, R158, R160, R161, R162, R163). -/
def Obligations.PwmUnitsReloadCommitAndTrip : Prop :=
  (∀ (pu : Fin 5) (peak : Bool) (stamp : Nat) (s : State),
    (s.counts pu = true ∧ (s.joined = false ∨ pu.val ≠ 1)) →
    ∃ t, exec (.puReload pu peak stamp) s = .next t ∧
      (s.joined = true → pu.val = 0 → t.get PU.CNT.CNT 1 = t.get PU.CNT.CNT 0 ∧ t.is PU.STATUS.DOWN 1 = peak) ∧
      t.is PU.STATUS.DOWN pu = peak ∧
      (peak = false → t.get PU.CNT.CNT pu = 0 ∧ t.get PU.perAct pu = s.get PU.PER.PER pu % 2 ^ PU.perAct.width) ∧
      (peak = true → t.get PU.CNT.CNT pu = s.get PU.perAct pu % 2 ^ PU.CNT.CNT.width)) ∧
  (∀ (pu : Fin 5) (leg : Fin 3) (value : BitVec 16) (late : Bool) (s : State),
    (s.pdOn (puDomain pu) = true) →
    ∃ t, exec (.cmpWrite pu leg value late) s = .next t ∧
      t.get PU.shadow pu leg = value.toNat ∧
      (s.is PU.CTL.GRP_EN pu = false → t.is PU.pend pu leg = true)) ∧
  (∀ (pu : Fin 5) (late : Bool) (s : State),
    (s.is PU.CTL.GRP_EN pu = true) →
    (s.pdOn (puDomain pu) = true) →
    ∃ t, exec (.puCommit pu late) s = .next t ∧
      (s.joined = false ∨ pu.val ≠ 1 → t.is PU.COMMIT.GO pu = true ∧ ∀ k < 3, t.is PU.pend pu k = true) ∧
      (s.joined = true → pu.val = 0 → t.is PU.COMMIT.GO 1 = true ∧ ∀ k < 3, t.is PU.pend 1 k = true) ∧
      (s.joined = true → pu.val = 1 → t = s)) ∧
  (∀ (pu : Fin 5) (leg : Fin 3) (stamp : Nat) (s : State),
    (s.counts (if s.joined && pu == 1 then 0 else pu) = true) →
    (s.is PU.TRIP_STAT.TRIPPED (s.tripUnit pu) = false ∧ (pu.val < 2 → s.is PU.STATUS.DETACHED pu = false)) →
    ∃ t, exec (.puCompare pu leg stamp) s = .next t ∧
      (pu.val < 2 → t.is GI.cmdOn (6 * pu + 2 * leg + (if s.sideAt pu leg stamp then 0 else 1)) = true) ∧
      (2 ≤ pu.val → s.get AX.CH_STAT.STATE (pu - 2) < 2 → t = s) ∧
      (∀ high : Bool, 2 ≤ pu.val → 2 ≤ s.get AX.CH_STAT.STATE (pu - 2) → s.sideAt pu leg stamp = high →
        t.is PU.sw pu (2 * leg + (if high then 1 else 0)) = false ∧
        (∀ u : State, u = s.bridgeEdges pu stamp → u.is PU.sw pu (2 * leg + (if high then 0 else 1)) = false → u.is PU.onT pu (2 * leg + (if high then 0 else 1)) = false →
          (high = true → u.getBit AX.CH_STAT.BS_UV leg (pu - 2) = false) →
          (u.is PU.sw pu (2 * leg + (if high then 1 else 0)) = true → t.get PU.onT pu (2 * leg + (if high then 0 else 1)) = (stamp + u.legDead pu leg) % 2 ^ PU.onT.width) ∧
          (u.is PU.sw pu (2 * leg + (if high then 1 else 0)) = false → u.is PU.onT pu (2 * leg + (if high then 1 else 0)) = false → t.is PU.sw pu (2 * leg + (if high then 0 else 1)) = true)))) ∧
  (∀ (pu : Fin 5) (leg : Fin 3) (stamp : Nat) (s : State),
    (s.counts (if s.joined && pu == 1 then 0 else pu) = false ∨ s.is PU.TRIP_STAT.TRIPPED (s.tripUnit pu) = true) →
    ∃ t, exec (.puCompare pu leg stamp) s = .next t ∧
      t = s) ∧
  (∀ (pu : Fin 5) (leg : Fin 3) (stamp : Nat) (s : State),
    (s.is PU.MINPW.MIN_PW pu = false) →
    (s.get PU.CMP.CMP pu leg = 0 → s.get PU.perAct pu ≠ 0 → s.sideAt pu leg stamp = false) ∧
    (s.get PU.perAct pu ≤ s.get PU.CMP.CMP pu leg → s.sideAt pu leg stamp = true)) ∧
  (∀ (pu : Fin 5) (src : Fin 19) (unit : BitVec 4) (stamp : Nat) (s : State),
    (srcApplies pu src = true ∧ s.xtripCut pu src = false ∧ s.is SYS.pllDown = false ∧ s.getBit PU.tripIn src pu = true ∧ s.getBit PU.TRIP_EN.EN src (s.tripUnit pu) = true) →
    ∃ t, exec (.puTrip pu src unit stamp) s = .next t ∧
      t.is PU.TRIP_STAT.TRIPPED (s.tripUnit pu) = true ∧ t.getBit PU.TRIP_STAT.SRC src (s.tripUnit pu) = true ∧
      t.is PU.FIRST_FAULT.VALID (s.tripUnit pu) = true) ∧
  (∀ (pu : Fin 5) (s : State),
    (s.is PU.capOpen pu = true) →
    ∃ t, exec (.captureClose pu) s = .next t ∧
      t.is PU.capOpen pu = false ∧ t.is PU.evPend pu = false) ∧
  (∀ (pu : Fin 5) (mask quiet : BitVec 19) (k : Fin 19) (s : State),
    (s.pit 0x12 3 pu = false ∧ (s.joined = false ∨ pu.val ≠ 1)) →
    (bit mask.toNat k = true ∧ s.getBit PU.TRIP_STAT.SRC k pu = true) →
    (s.pdOn (puDomain pu) = true) →
    ∃ t, exec (.tripClear pu mask quiet) s = .next t ∧
      (bit quiet.toNat k = true → s.getBit PU.tripIn k pu = false → s.joined = false ∨ pu.val ≠ 0 ∨ s.getBit PU.tripIn k 1 = false → t.getBit PU.TRIP_STAT.SRC k pu = false) ∧
      (bit quiet.toNat k = false ∨ s.getBit PU.tripIn k pu = true ∨ (s.joined = true ∧ pu.val = 0 ∧ s.getBit PU.tripIn k 1 = true) →
        t.getBit PU.TRIP_STAT.SRC k pu = true ∧ t.is PU.TRIP_STAT.CLEAR_REFUSED pu = true ∧ t.is PU.TRIP_STAT.TRIPPED pu = true)) ∧
  (∀ (pu : Fin 5) (s : State),
    (s.pdOn (puDomain pu) = true) →
    ∃ t, exec (.firstFaultRearm pu) s = .next t ∧
      (s.joined = false ∨ pu.val ≠ 1 → t.is PU.FIRST_FAULT.VALID pu = false ∧ t.is PU.capOpen pu = false) ∧
      (s.joined = true → pu.val = 1 → t = s)) ∧
  (∀ (pu : Fin 5) (s : State),
    (s.is SYS.pllDown = false) →
    (s.pdOn (puDomain pu) = true) →
    ∃ t, exec (.swTrip pu) s = .next t ∧
      (s.joined = false ∨ pu.val ≠ 1 → t.is PU.TRIP_STAT.TRIPPED pu = true ∧ t.getBit PU.TRIP_STAT.SRC 18 pu = true) ∧
      (s.joined = true → pu.val = 1 → t = s)) ∧
  (∀ (belay : Bool) (s : State),
    (s.is SEC.DBG_STAT.OPEN = true ∧ 2 ≤ s.get SEC.DBG_STAT.LEVEL) →
    ∃ t, exec (.debugHalt belay) s = .next t ∧
      (t.is SEC.DBG_STAT.HALT = true ∧ (∀ k < 7, t.is CE.STATUS.HALTED k = true) ∧ ∀ k < 5, t.is PU.STATUS.HALTED k = true)) ∧
  (∀ (s : State),
    (s.is SEC.DBG_STAT.HALT = true) →
    ∃ t, exec (.debugRelease) s = .next t ∧
      (t.is SEC.DBG_STAT.HALT = false ∧ (∀ k < 7, t.is CE.STATUS.HALTED k = false) ∧ ∀ k < 5, t.is PU.STATUS.HALTED k = false)) ∧
  (∀ (pu : Fin 5) (value : Bool) (s : State),
    (2 ≤ pu.val) →
    (s.pdOn (puDomain pu) = true) →
    ∃ t, exec (.puFrz pu value) s = .next t ∧
      (value = false ∨ s.frzOk = true → t.is PU.CTL.FRZ pu = value) ∧
      (value = true → s.frzOk = false → t.is PU.CTL.FRZ pu = s.is PU.CTL.FRZ pu)) ∧
  (∀ (pu : Fin 5) (s : State),
    (s.frzOk = false ∧ s.is PU.STATUS.FROZEN pu = true) →
    ∃ t, exec (.frzAbort pu) s = .next t ∧
      t.is PU.STATUS.FROZEN pu = false ∧ t.is PU.CTL.FRZ pu = false ∧ t.is PU.STATUS.FRZ_ABORT pu = true ∧
      (∀ k < 6, t.is PU.sw pu k = false)) ∧
  (∀ (pu : Fin 5) (sel : BitVec 4) (src : BitVec 5) (s : State),
    (s.pitAllowed = true ∧ 1 ≤ sel.toNat ∧ sel.toNat ≤ 4) →
    (s.pdOn (puDomain pu) = true) →
    ∃ t, exec (.puPitArm pu sel src) s = .next t ∧
      t.is PU.PIT_CTL.ARM pu = true ∧ t.get BL.PIT_STAT.SOURCE = 0x12) ∧
  (∀ (pu : Fin 5) (s : State),
    (2 ≤ pu.val) →
    ∃ t, exec (.puStrobeLoss pu) s = .next t ∧
      (∀ k < 6, t.is PU.sw pu k = false))

/-- Engine instructions that move data: what the destination holds, of an engine that executes (R164, R165, R167, R179, R180, R181, R183). -/
def Obligations.EngineMovesLoadsAndStores : Prop :=
  (∀ (eng : Fin 7) (d x : Fin 16) (s : State),
    (s.engOn eng = true) →
    ∃ t, exec (.engMov eng (.dd d x)) s = .next t ∧
      t.get CE.d eng d = s.get CE.d eng x % 2 ^ 16 ∧ t.get CE.dM eng d = s.get CE.dM eng x % 2 ^ 3) ∧
  (∀ (eng : Fin 7) (d x : Fin 4) (s : State),
    (s.engOn eng = true) →
    ∃ t, exec (.engMov eng (.aa d x)) s = .next t ∧
      t.get CE.a eng d = s.get CE.a eng x % 2 ^ 40 ∧ t.get CE.aM eng d = s.get CE.aM eng x % 2 ^ 2) ∧
  (∀ (eng : Fin 7) (d x : Fin 8) (s : State),
    (s.engOn eng = true) →
    ∃ t, exec (.engMov eng (.pp d x)) s = .next t ∧
      t.get CE.p eng d = s.get CE.p eng x % 2 ^ 15 ∧ t.is CE.pM eng d = (s.is CE.pM eng x && isRope eng)) ∧
  (∀ (eng : Fin 7) (d x : Fin 4) (s : State),
    (s.engOn eng = true) →
    ∃ t, exec (.engMov eng (.cc d x)) s = .next t ∧
      t.is CE.c eng d = s.is CE.c eng x ∧ t.is CE.cM eng d = (s.is CE.cM eng x && isRope eng)) ∧
  (∀ (eng : Fin 7) (d : Fin 8) (x : Fin 16) (s : State),
    (s.engOn eng = true) →
    ∃ t, exec (.engMov eng (.pd d x)) s = .next t ∧
      t.get CE.p eng d = s.get CE.d eng x % 2 ^ 15 ∧ t.is CE.pM eng d = (s.dTag eng x && isRope eng)) ∧
  (∀ (eng : Fin 7) (d : Fin 16) (x : Fin 8) (s : State),
    (s.engOn eng = true) →
    ∃ t, exec (.engMov eng (.dp d x)) s = .next t ∧
      t.get CE.d eng d = s.get CE.p eng x % 2 ^ 16 ∧ t.get CE.dM eng d = ofBool (s.is CE.pM eng x && isRope eng)) ∧
  (∀ (eng : Fin 7) (n : Fin 16) (imm : BitVec 16) (s : State),
    (s.engOn eng = true) →
    ∃ t, exec (.engLdi eng (.d n) imm) s = .next t ∧
      t.get CE.d eng n = imm.toNat ∧ t.get CE.dM eng n = 0) ∧
  (∀ (eng : Fin 7) (n : Fin 8) (imm : BitVec 16) (s : State),
    (s.engOn eng = true) →
    ∃ t, exec (.engLdi eng (.p n) imm) s = .next t ∧
      t.get CE.p eng n = imm.toNat % 2 ^ 15 ∧ t.is CE.pM eng n = false) ∧
  (∀ (eng : Fin 7) (n : Fin 4) (imm : BitVec 16) (s : State),
    (s.engOn eng = true) →
    ∃ t, exec (.engLdi eng (.c n) imm) s = .next t ∧
      t.is CE.c eng n = bit imm.toNat 0 ∧ t.is CE.cM eng n = false) ∧
  (∀ (eng : Fin 7) (dst : Fin 16) (p : Fin 8) (coef : Bool) (s : State),
    (s.engOn eng = true) →
    ∃ t, exec (.engLd eng dst p coef) s = .next t ∧
      (coef = true → t.geti CE.d eng dst = s.geti CE.COEF_WIN.WORD eng (s.get CE.p eng p % 256)) ∧
      (coef = false → t.geti CE.d eng dst = s.ldWord eng (s.get CE.p eng p / 2))) ∧
  (∀ (eng : Fin 7) (src : Fin 16) (p : Fin 8) (s : State),
    (s.engOn eng = true ∧ s.is CE.pM eng p = false) →
    ∃ t, exec (.engSt eng src p) s = .next t ∧
      t.ldWord eng (s.get CE.p eng p / 2) = s.dVal eng src) ∧
  (∀ (eng : Fin 7) (dst : Fin 4) (n : Fin 16) (s : State),
    (s.engOn eng = true) →
    ∃ t, exec (.engLda eng dst (.reg n)) s = .next t ∧
      t.aVal eng dst = s.dVal eng n * 32768) ∧
  (∀ (eng : Fin 7) (dst : Fin 4) (p : Fin 8) (s : State),
    (s.engOn eng = true) →
    ∃ t, exec (.engLda eng dst (.mem p)) s = .next t ∧
      t.aVal eng dst = (s.ldWord eng (s.get CE.p eng p / 2 + 1) * 65536 + ofSigned 16 (s.ldWord eng (s.get CE.p eng p / 2))) * 256) ∧
  (∀ (eng : Fin 7) (dst : Fin 16) (src : Fin 4) (s : State),
    (s.engOn eng = true) →
    ∃ t, exec (.engSta eng dst src) s = .next t ∧
      t.dVal eng dst = sat16 (State.round15 (s.aVal eng src))) ∧
  (∀ (eng : Fin 7) (src : Fin 4) (p : Fin 8) (s : State),
    (s.engOn eng = true ∧ s.is CE.pM eng p = false) →
    ∃ t, exec (.engStaw eng src p) s = .next t ∧
      t.ldWord eng (s.get CE.p eng p / 2) = wrap16 (s.aVal eng src / 256) ∧
      t.ldWord eng ((s.get CE.p eng p + 2) / 2) = wrap16 (s.aVal eng src / 256 / 65536)) ∧
  (∀ (eng : Fin 7) (s : State),
    (s.engOn eng = true) →
    ∃ t, exec (.engIllegal eng) s = .next t ∧
      t.is CE.FLAGS.ILLEGAL eng = true ∧ t.is CE.stop eng = true ∧ t.is CE.prog eng = false ∧
      (eng.val < 4 → t.is CE.RP_STAT.RP_FAULT (2 * (eng / 2)) = true))

/-- Engine arithmetic: the exact result, rounded where stated and saturated to the destination (R164, R165, R166, R167). -/
def Obligations.EngineArithmeticExactThenSaturated : Prop :=
  (∀ (eng : Fin 7) (dst x y : Fin 16) (s : State),
    (s.engOn eng = true) →
    ∃ t, exec (.engAdd eng (.d dst x y)) s = .next t ∧
      t.dVal eng dst = sat16 (s.dVal eng x + s.dVal eng y) ∧
      (sat16 (s.dVal eng x + s.dVal eng y) ≠ s.dVal eng x + s.dVal eng y → t.is CE.FLAGS.SAT eng = true)) ∧
  (∀ (eng : Fin 7) (dst x y : Fin 4) (s : State),
    (s.engOn eng = true) →
    ∃ t, exec (.engAdd eng (.a dst x y)) s = .next t ∧
      t.aVal eng dst = satI 40 (s.aVal eng x + s.aVal eng y) ∧
      (satI 40 (s.aVal eng x + s.aVal eng y) ≠ s.aVal eng x + s.aVal eng y → t.is CE.FLAGS.OVF eng = true)) ∧
  (∀ (eng : Fin 7) (dst x y : Fin 16) (s : State),
    (s.engOn eng = true) →
    ∃ t, exec (.engSub eng (.d dst x y)) s = .next t ∧
      t.dVal eng dst = sat16 (s.dVal eng x - s.dVal eng y)) ∧
  (∀ (eng : Fin 7) (dst x y : Fin 4) (s : State),
    (s.engOn eng = true) →
    ∃ t, exec (.engSub eng (.a dst x y)) s = .next t ∧
      t.aVal eng dst = satI 40 (s.aVal eng x - s.aVal eng y)) ∧
  (∀ (eng : Fin 7) (dst x : Fin 16) (s : State),
    (s.engOn eng = true) →
    ∃ t, exec (.engNeg eng (.d dst x)) s = .next t ∧
      t.dVal eng dst = sat16 (-s.dVal eng x)) ∧
  (∀ (eng : Fin 7) (dst x : Fin 4) (s : State),
    (s.engOn eng = true) →
    ∃ t, exec (.engNeg eng (.a dst x)) s = .next t ∧
      t.aVal eng dst = satI 40 (-s.aVal eng x)) ∧
  (∀ (eng : Fin 7) (dst x : Fin 16) (s : State),
    (s.engOn eng = true) →
    ∃ t, exec (.engAbs eng (.d dst x)) s = .next t ∧
      t.dVal eng dst = sat16 (s.dVal eng x).natAbs ∧
      (s.dVal eng x = -32768 → t.dVal eng dst = 32767 ∧ t.is CE.FLAGS.SAT eng = true)) ∧
  (∀ (eng : Fin 7) (dst x : Fin 4) (s : State),
    (s.engOn eng = true) →
    ∃ t, exec (.engAbs eng (.a dst x)) s = .next t ∧
      t.aVal eng dst = satI 40 (s.aVal eng x).natAbs) ∧
  (∀ (eng : Fin 7) (dst x : Fin 16) (n : Fin 40) (s : State),
    (s.engOn eng = true) →
    ∃ t, exec (.engShl eng (.d dst x) n) s = .next t ∧
      t.dVal eng dst = sat16 (s.dVal eng x * 2 ^ n.val)) ∧
  (∀ (eng : Fin 7) (dst x : Fin 4) (n : Fin 40) (s : State),
    (s.engOn eng = true) →
    ∃ t, exec (.engShl eng (.a dst x) n) s = .next t ∧
      t.aVal eng dst = satI 40 (s.aVal eng x * 2 ^ n.val)) ∧
  (∀ (eng : Fin 7) (dst x : Fin 16) (n : Fin 40) (s : State),
    (s.engOn eng = true) →
    ∃ t, exec (.engShr eng (.d dst x) n) s = .next t ∧
      t.dVal eng dst = s.dVal eng x / 2 ^ n.val) ∧
  (∀ (eng : Fin 7) (dst x : Fin 4) (n : Fin 40) (s : State),
    (s.engOn eng = true) →
    ∃ t, exec (.engShr eng (.a dst x) n) s = .next t ∧
      t.aVal eng dst = s.aVal eng x / 2 ^ n.val) ∧
  (∀ (eng : Fin 7) (dst x y : Fin 16) (s : State),
    (s.engOn eng = true) →
    ∃ t, exec (.engMul eng dst x y) s = .next t ∧
      t.dVal eng dst = sat16 (State.round15 (s.dVal eng x * s.dVal eng y))) ∧
  (∀ (eng : Fin 7) (dst : Fin 4) (x y : Fin 16) (s : State),
    (s.engOn eng = true) →
    ∃ t, exec (.engMac eng dst x y) s = .next t ∧
      t.aVal eng dst = satI 40 (s.aVal eng dst + s.dVal eng x * s.dVal eng y)) ∧
  (∀ (eng : Fin 7) (dst : Fin 4) (x y : Fin 16) (s : State),
    (s.engOn eng = true) →
    ∃ t, exec (.engMsu eng dst x y) s = .next t ∧
      t.aVal eng dst = satI 40 (s.aVal eng dst - s.dVal eng x * s.dVal eng y)) ∧
  (∀ (eng : Fin 7) (dst x y : Fin 16) (s : State),
    (s.engOn eng = true) →
    ∃ t, exec (.engMin eng dst x y) s = .next t ∧
      t.dVal eng dst = min (s.dVal eng x) (s.dVal eng y)) ∧
  (∀ (eng : Fin 7) (dst x y : Fin 16) (s : State),
    (s.engOn eng = true) →
    ∃ t, exec (.engMax eng dst x y) s = .next t ∧
      t.dVal eng dst = max (s.dVal eng x) (s.dVal eng y)) ∧
  (∀ (eng : Fin 7) (dst x lo hi : Fin 16) (s : State),
    (s.engOn eng = true ∧ s.dVal eng lo ≤ s.dVal eng hi) →
    ∃ t, exec (.engClamp eng dst x lo hi) s = .next t ∧
      t.dVal eng dst = max (s.dVal eng lo) (min (s.dVal eng x) (s.dVal eng hi))) ∧
  (∀ (eng : Fin 7) (dst x lo hi : Fin 16) (s : State),
    (s.engOn eng = true) →
    ∃ t, exec (.engClamp eng dst x lo hi) s = .next t ∧
      t.is CE.prog eng = true)

/-- Engine comparisons, selections, rotations, roots, quotients, PIDF and tables (R166, R167, R173, R174, R179, R395). -/
def Obligations.EngineComparesAndFunctionsDeliver : Prop :=
  (∀ (eng : Fin 7) (dst : Fin 4) (x y : Fin 16) (s : State),
    (s.engOn eng = true) →
    ∃ t, exec (.engCmplt eng dst x y) s = .next t ∧
      t.is CE.c eng dst = decide (s.dVal eng x < s.dVal eng y)) ∧
  (∀ (eng : Fin 7) (dst : Fin 4) (x y : Fin 16) (s : State),
    (s.engOn eng = true) →
    ∃ t, exec (.engCmple eng dst x y) s = .next t ∧
      t.is CE.c eng dst = decide (s.dVal eng x ≤ s.dVal eng y)) ∧
  (∀ (eng : Fin 7) (dst : Fin 4) (x y : Fin 16) (s : State),
    (s.engOn eng = true) →
    ∃ t, exec (.engCmpeq eng dst x y) s = .next t ∧
      t.is CE.c eng dst = decide (s.dVal eng x = s.dVal eng y)) ∧
  (∀ (eng : Fin 7) (dst : Fin 16) (c : Fin 4) (x y : Fin 16) (s : State),
    (s.engOn eng = true) →
    ∃ t, exec (.engSel eng dst c x y) s = .next t ∧
      (t.dVal eng dst = if s.is CE.c eng c then s.dVal eng x else s.dVal eng y)) ∧
  (∀ (eng : Fin 7) (sin cos angle : Fin 16) (s : State),
    (s.engOn eng = true) →
    ∃ t, exec (.engSincos eng sin cos angle) s = .next t ∧
      t.dVal eng cos = sat16 (unrotF 32768 0 (s.get CE.d eng angle)).1 ∧
      (sin ≠ cos → t.dVal eng sin = sat16 (unrotF 32768 0 (s.get CE.d eng angle)).2)) ∧
  (∀ (eng : Fin 7) (dst1 dst2 x y angle : Fin 16) (s : State),
    (s.engOn eng = true) →
    ∃ t, exec (.engPark eng dst1 dst2 x y angle) s = .next t ∧
      t.dVal eng dst2 = sat16 (rotF (s.dVal eng x) (s.dVal eng y) (s.get CE.d eng angle)).2 ∧
      (dst1 ≠ dst2 → t.dVal eng dst1 = sat16 (rotF (s.dVal eng x) (s.dVal eng y) (s.get CE.d eng angle)).1)) ∧
  (∀ (eng : Fin 7) (dst1 dst2 x y angle : Fin 16) (s : State),
    (s.engOn eng = true) →
    ∃ t, exec (.engIpark eng dst1 dst2 x y angle) s = .next t ∧
      t.dVal eng dst2 = sat16 (unrotF (s.dVal eng x) (s.dVal eng y) (s.get CE.d eng angle)).2 ∧
      (dst1 ≠ dst2 → t.dVal eng dst1 = sat16 (unrotF (s.dVal eng x) (s.dVal eng y) (s.get CE.d eng angle)).1)) ∧
  (∀ (eng : Fin 7) (dst1 dst2 u v w : Fin 16) (s : State),
    (s.engOn eng = true ∧ dst1 ≠ dst2) →
    ∃ t, exec (.engClarke eng dst1 dst2 u v w) s = .next t ∧
      t.dVal eng dst1 = sat16 (quot (2 * s.dVal eng u - s.dVal eng v - s.dVal eng w) 3) ∧
      t.dVal eng dst2 = sat16 (quot ((s.dVal eng v - s.dVal eng w) * sqrt3F) (3 * unitF))) ∧
  (∀ (eng : Fin 7) (dst x : Fin 16) (s : State),
    (s.engOn eng = true) →
    ∃ t, exec (.engSqrt eng dst x) s = .next t ∧
      (0 ≤ s.dVal eng x → t.dVal eng dst = sat16 (sqrtQ ((s.dVal eng x).toNat * 32768) 1)) ∧
      t.is CE.prog eng = true) ∧
  (∀ (eng : Fin 7) (dst x y : Fin 16) (s : State),
    (s.engOn eng = true) →
    ∃ t, exec (.engDiv eng dst x y) s = .next t ∧
      (s.dVal eng y ≠ 0 → t.dVal eng dst = sat16 (quot (s.dVal eng x * 32768) (s.dVal eng y))) ∧
      (s.dVal eng y = 0 → t.dVal eng dst = (if 0 < s.dVal eng x then 32767 else if s.dVal eng x < 0 then -32768 else 0) ∧ t.is CE.FLAGS.DIV0 eng = true ∧ t.is CE.FLAGS.SAT eng = true)) ∧
  (∀ (eng : Fin 7) (dst : Fin 16) (ps pc : Fin 8) (err meas ff : Fin 16) (s : State),
    (s.engOn eng = true ∧ s.coefWord eng pc 6 ≤ s.coefWord eng pc 7) →
    ∃ t, exec (.engPidf eng dst ps pc err meas ff) s = .next t ∧
      s.coefWord eng pc 6 ≤ t.dVal eng dst ∧ t.dVal eng dst ≤ s.coefWord eng pc 7) ∧
  (∀ (eng : Fin 7) (dst : Fin 16) (handle : BitVec 8) (x : Fin 16) (miss : Nat) (bad : Option (BitVec 18)) (s : State),
    (s.engOn eng = true) →
    ∃ t, exec (.engTlu eng dst handle x miss bad) s = .next t ∧
      (s.portLocked eng = true → t.dVal eng dst = 0) ∧
      (s.portLocked eng = false → bad = none → eng.val ≠ 6 → t.dVal eng dst = sat16 (s.tableLook handle.toNat (s.dVal eng x)))) ∧
  (∀ (eng : Fin 7) (dst : Fin 16) (slot : Fin 4) (miss : Nat) (bad : Option (BitVec 18)) (s : State),
    (s.engOn eng = true ∧ s.is CE.FF_CFG.HANDLE eng slot = false) →
    ∃ t, exec (.engFfs eng dst slot miss bad) s = .next t ∧
      t.dVal eng dst = 0 ∧ t.dTag eng dst = isRope eng)

/-- Engine ports, release and control flow, periods, coefficients and pitons (R167, R169, R170, R172, R178, R181, R185, R222). -/
def Obligations.EnginePortsAndControlFlow : Prop :=
  (∀ (eng : Fin 7) (dst : Fin 16) (port : EngPort) (s : State),
    (s.engOn eng = true) →
    ∃ t, exec (.engIn eng dst port) s = .next t ∧
      t.get CE.d eng dst = s.portValue eng port % 65536 ∧
      t.dTag eng dst = (!statePort port && isRope eng)) ∧
  (∀ (eng : Fin 7) (out : Fin 8) (m : Fin 16) (s : State),
    (s.engOn eng = true) →
    ∃ t, exec (.engOut eng out (.d m)) s = .next t ∧
      t.geti CE.outV eng out = s.dVal eng m ∧ t.getBit CE.outW out eng = true) ∧
  (∀ (eng : Fin 7) (out : Fin 8) (m : Fin 4) (s : State),
    (s.engOn eng = true) →
    ∃ t, exec (.engOut eng out (.a m)) s = .next t ∧
      t.geti CE.outV eng out = sat16 (State.round15 (s.aVal eng m)) ∧ t.getBit CE.outW out eng = true) ∧
  (∀ (eng : Fin 7) (s : State),
    (s.engOn eng = true) →
    ∃ t, exec (.engOutrel eng) s = .next t ∧
      t.is CE.rel eng = true ∧ t.get CE.relAt eng = (s.get CE.cyc eng + 1) % 2 ^ 32) ∧
  (∀ (eng : Fin 7) (w : BitVec 14) (s : State),
    (s.engOn eng = true) →
    ∃ t, exec (.engBr eng (.imm w)) s = .next t ∧
      t.get CE.pc eng = w.toNat) ∧
  (∀ (eng : Fin 7) (p : Fin 8) (s : State),
    (s.engOn eng = true) →
    ∃ t, exec (.engBr eng (.reg p)) s = .next t ∧
      (s.is CE.pM eng p = false ∨ isRope eng = false → t.get CE.pc eng = s.get CE.p eng p % 2 ^ 14) ∧
      (s.is CE.pM eng p = true → isRope eng = true → t.is CE.FLAGS.TAINT_BR eng = true ∧ t.is CE.stop eng = true)) ∧
  (∀ (eng : Fin 7) (c : Fin 4) (target : BitVec 14) (s : State),
    (s.engOn eng = true ∧ s.is CE.cM eng c = false ∧ s.pit 0x15 3 (eng / 2) = false) →
    ∃ t, exec (.engBrc eng c target) s = .next t ∧
      (s.is CE.c eng c = true → t.get CE.pc eng = target.toNat) ∧
      (s.is CE.c eng c = false → s.engLoops = [] → t.get CE.pc eng = (s.get CE.pc eng + 1) % 2 ^ 14)) ∧
  (∀ (eng : Fin 7) (w : BitVec 14) (s : State),
    (s.engOn eng = true) →
    ∃ t, exec (.engCall eng (.imm w)) s = .next t ∧
      t.get CE.pc eng = w.toNat ∧ t.engCalls = (eng.val, (s.get CE.pc eng + 1) % 16384) :: s.engCalls) ∧
  (∀ (eng : Fin 7) (p : Fin 8) (s : State),
    (s.engOn eng = true ∧ s.is CE.pM eng p = false) →
    ∃ t, exec (.engCall eng (.reg p)) s = .next t ∧
      t.get CE.pc eng = s.get CE.p eng p % 2 ^ 14 ∧ t.engCalls = (eng.val, (s.get CE.pc eng + 1) % 16384) :: s.engCalls) ∧
  (∀ (eng : Fin 7) (r : Fin 16384) (rest : List (Nat × Nat)) (s : State),
    (s.engOn eng = true ∧ s.engCalls = (eng.val, r.val) :: rest) →
    ∃ t, exec (.engRet eng) s = .next t ∧
      t.get CE.pc eng = r.val ∧ t.engCalls = rest) ∧
  (∀ (eng : Fin 7) (count : BitVec 16) (last : BitVec 14) (s : State),
    (s.engOn eng = true) →
    ∃ t, exec (.engLoop eng count last) s = .next t ∧
      (count = 0 → t.get CE.pc eng = (last.toNat + 1) % 2 ^ 14 ∧ t.engLoops = s.engLoops) ∧
      (count ≠ 0 → t.engLoops = ⟨eng, (s.get CE.pc eng + 1) % 16384, last.toNat, count.toNat⟩ :: s.engLoops)) ∧
  (∀ (eng : Fin 7) (s : State),
    (s.engOn eng = true ∧ s.pit 0x15 4 (eng / 2) = false ∧ s.is AX.pendQ = false) →
    ∃ t, exec (.engEnd eng) s = .next t ∧
      t.is CE.prog eng = false) ∧
  (∀ (unit : Fin 4) (reload : Bool) (e : Fin 7) (s : State),
    (e.val ∈ unitEngines unit ∧ s.is CE.CTL.RUN ((unitEngines unit).headD 0) = true ∧ s.is CE.STATUS.HALTED ((unitEngines unit).headD 0) = false) →
    ((State.modeEntry (s.mode (unit % 2))).1 = reload) →
    ∃ t, exec (.cePeriodStart unit reload) s = .next t ∧
      t.is CE.open e = true ∧ t.get CE.cyc e = 0 ∧ t.is CE.rel e = false ∧
      t.get CE.STATUS.ENTRY_SEL e = (State.modeEntry (s.mode (unit % 2))).2) ∧
  (∀ (unit : Fin 5) (e : Fin 7) (s : State),
    (e.val ∈ (if unit.val = 4 then [6] else unitEngines unit) ∧ s.is CE.prog e = true ∧ s.is CE.stop e = false ∧ s.is AX.pendQ = false) →
    ∃ t, exec (.ceOverrun unit) s = .next t ∧
      t.is CE.prog e = false ∧ t.is CE.FLAGS.OVERRUN e = true) ∧
  (∀ (unit : Fin 7) (lateCmp lateRef : Bool) (e : Fin 7) (s : State),
    (unit.val < 4 ∧ e.val ∈ unitEngines unit) →
    (∀ x ∈ unitEngines unit, s.is CE.rel x = true ∧ s.is CE.done x = false ∧ s.is CE.stop x = false) →
    (s.is CE.lEnt ((unitEngines unit).headD 0) = true ∧ s.is CE.RP_STAT.RP_FAULT ((unitEngines unit).headD 0) = false) →
    ∃ t, exec (.ceRelease unit lateCmp lateRef) s = .next t ∧
      t.is CE.done e = true) ∧
  (∀ (unit : Fin 7) (lateCmp lateRef : Bool) (s : State),
    (4 ≤ unit.val) →
    (s.is CE.prog 6 = false ∧ s.is AX.oRel (unit - 4) = true) →
    ∃ t, exec (.ceRelease unit lateCmp lateRef) s = .next t ∧
      t.is AX.oRel (unit - 4) = false) ∧
  (∀ (eng : Fin 7) (index : BitVec 8) (word : BitVec 16) (s : State),
    (isRope eng = false ∨ s.is CE.CTL.LEAD eng = true) →
    (s.is CE.COEF_CTL.PEND eng = false ∧ 32 ≤ index.toNat) →
    (s.pdOn (engDomain eng) = true) →
    ∃ t, exec (.coefWrite eng index word) s = .next t ∧
      t.is CE.coefPend eng index.toNat = true ∧ t.get CE.coefNew eng index.toNat = word.toNat) ∧
  (∀ (eng : Fin 7) (sel : BitVec 4) (s : State),
    (s.pitAllowed = true ∧ 1 ≤ sel.toNat ∧ sel.toNat ≤ 4 ∧ s.is CE.CTL.LEAD eng = true) →
    (s.pdOn (engDomain eng) = true) →
    ∃ t, exec (.cePitArm eng sel) s = .next t ∧
      t.is CE.PIT_CTL.ARM eng = true ∧ t.get BL.PIT_STAT.SOURCE = 0x15)

/-- What a gate island does with the downlink frames it receives (R29, R188, R189, R190, R192, R193, R194, R197, R198, R199, R206). -/
def Obligations.GateDownlinkFramesAtTheIsland : Prop :=
  (∀ (isl : Fin 12) (on : Bool) (slot : Fin 16) (dly wait : BitVec 12) (ref : Nat) (busy : Option DownFrame) (s : State),
    (s.is GI.iPend isl = false) →
    ∃ t, exec (.edgeCmd isl on slot dly wait ref busy) s = .next t ∧
      (on = true → s.get GI.iSt isl = 3 → s.is GI.iOn isl = false → t.is GI.iPend isl = true ∧ t.is GI.iDir isl = true ∧ t.get GI.iSlot isl = slot.val ∧
        t.get GI.iStartT isl = (ref + max 48 (dly.toNat - wait.toNat)) % 2 ^ GI.iStartT.width) ∧
      (dly.toNat < 48 + wait.toNat → t.get GI.LINK.LATE_EDGE isl = min (s.get GI.LINK.LATE_EDGE isl + 1) (2 ^ GI.LINK.LATE_EDGE.width - 1)) ∧
      (48 + wait.toNat ≤ dly.toNat → t.get GI.LINK.LATE_EDGE isl = s.get GI.LINK.LATE_EDGE isl) ∧
      (busy = some .plain → t.get GI.LINK.ABORT isl = min (s.get GI.LINK.ABORT isl + 1) (2 ^ GI.LINK.ABORT.width - 1)) ∧
      (busy = none ∨ busy = some .cairn ∨ busy = some .softOff → t.get GI.LINK.ABORT isl = s.get GI.LINK.ABORT isl) ∧
      (on = true → s.get GI.iSt isl = 1 ∨ s.get GI.iSt isl = 2 → t.getBit GI.iFlag 0 isl = true ∧ t.is GI.iPend isl = false ∧ t.is GI.iOn isl = s.is GI.iOn isl) ∧
      (on = false → s.is GI.iOn isl = true → s.get GI.iSt isl ≠ 4 → t.is GI.iPend isl = true ∧ t.is GI.iDir isl = false) ∧
      (on = true → s.get GI.iSt isl = 4 → t.getBit GI.iFlag 1 isl = true ∧ t.is GI.iPend isl = false)) ∧
  (∀ (isl : Fin 12) (on : Bool) (slot : Fin 16) (dly wait : BitVec 12) (ref : Nat) (busy : Option DownFrame) (s : State),
    (s.is GI.iPend isl = true ∧ s.is GI.iDir isl = on ∧ s.get GI.iSt isl = 3) →
    ∃ t, exec (.edgeCmd isl on slot dly wait ref busy) s = .next t ∧
      t.getBit GI.iFlag 0 isl = true ∧ t.get GI.iStartT isl = s.get GI.iStartT isl ∧ t.get GI.iSlot isl = s.get GI.iSlot isl) ∧
  (∀ (isl : Fin 12) (dvdt : List (Option (BitVec 10))) (s : State),
    (s.is GI.iPend isl = true) →
    ∃ t, exec (.edgeStart isl dvdt) s = .next t ∧
      t.is GI.iOn isl = s.is GI.iDir isl ∧ t.is GI.iPend isl = false ∧ t.is GI.iRunDir isl = s.is GI.iDir isl) ∧
  (∀ (isl : Fin 12) (slot : Fin 16) (s : State),
    (64 ≤ s.get GI.iSatRun isl slot ∧ s.is GI.satWarn isl slot = false) →
    ∃ t, exec (.trimSatWarn isl slot) s = .next t ∧
      t.is GI.satWarn isl slot = true ∧
      (s.evWarning.length < 64 → t.evWarning.length = s.evWarning.length + 1)) ∧
  (∀ (isl : Fin 12) (src : BitVec 5) (ref : Nat) (busy : Option DownFrame) (s : State),
    ∃ t, exec (.softOff isl src ref busy) s = .next t ∧
      (s.get GI.iSt isl = 3 → t.get GI.iSt isl = 2 ∧ t.is GI.iOn isl = false) ∧
      (s.get GI.iSt isl ≠ 3 → t.get GI.iSt isl = s.get GI.iSt isl ∧ t.is GI.iOn isl = s.is GI.iOn isl) ∧
      (busy = some .cairn → t.is GLK.LINK_STAT.CAIRN_LATE = true)) ∧
  (∀ (isl : Fin 12) (addr : BitVec 10) (data : BitVec 12) (s : State),
    ∃ t, exec (.cfgWr isl addr data) s = .next t ∧
      (addr.toNat < 0x100 → t.get GI.iPb isl (256 * (1 - s.get GI.iBank isl) + addr.toNat) = data.toNat) ∧
      (addr.toNat < 0x100 → t.get GI.iBank isl = s.get GI.iBank isl)) ∧
  (∀ (isl : Fin 12) (addr : BitVec 10) (data : BitVec 12) (k : Fin 13) (s : State),
    (addr.toNat = 0x180 + k) →
    ∃ t, exec (.cfgWr isl addr data) s = .next t ∧
      t.get (islandSettings.getD k GI.iVpos) isl = data.toNat % 2 ^ (islandSettings.getD k GI.iVpos).width) ∧
  (∀ (isl : Fin 12) (addr : BitVec 10) (s : State),
    ∃ t, exec (.cfgRd isl addr) s = .next t ∧
      t.is GI.iRd isl = true ∧ t.get GI.iRdA isl = addr.toNat) ∧
  (∀ (isl : Fin 12) (s : State),
    ∃ t, exec (.idleFrame isl) s = .next t ∧
      t = s.set GI.iLost 0 isl) ∧
  (∀ (isl : Fin 12) (ref : Nat) (busy : Option DownFrame) (s : State),
    ∃ t, exec (.cairnFrame isl ref busy) s = .next t ∧
      t.get GI.snap isl 0 = s.get GI.iEdges isl % 2 ^ GI.snap.width ∧ t.get GI.snap isl 3 = s.get GI.iLast isl % 2 ^ GI.snap.width ∧
      (busy = some .softOff → t.is GLK.LINK_STAT.CAIRN_LATE = true)) ∧
  (∀ (isl : Fin 12) (up : Bool) (word : BitVec 40) (s : State),
    (gateFrameOk word.toNat = false) →
    ∃ t, exec (.invalidFrame isl up word) s = .next t ∧
      (up = true → t.get GI.LINK.BAD_CRC isl = min (s.get GI.LINK.BAD_CRC isl + 1) (2 ^ GI.LINK.BAD_CRC.width - 1)) ∧
      (up = false → t.get GI.iBad isl = min (s.get GI.iBad isl + 1) (2 ^ GI.iBad.width - 1))) ∧
  (∀ (isl : Fin 12) (s : State),
    ∃ t, exec (.commonModeEvent isl) s = .next t ∧
      (isl.val % 2 = 1 → t.getBit GI.iFlag 2 isl = true) ∧
      (isl.val % 2 = 0 → t = s))

/-- Gate islands: release, configuration, banks, reset, the proxy's commands and the pitons (R190, R193, R194, R198, R200, R215, R216, R329). -/
def Obligations.GateIslandConfigurationCommands : Prop :=
  (∀ (isl : Fin 12) (s : State),
    ∃ t, exec (.islandRelease isl) s = .next t ∧
      (s.get GI.iSt isl = 2 → s.noRelease isl = false → t.get GI.iSt isl = 3) ∧
      (s.get GI.iSt isl = 2 → s.noRelease isl = true → t.get GI.iSt isl = 2 ∧ t.getBit GI.iFlag 0 isl = true) ∧
      (s.get GI.iSt isl = 1 → t.get GI.iSt isl = 1 ∧ t.getBit GI.iFlag 0 isl = true)) ∧
  (∀ (isl : Fin 12) (s : State),
    (State.crc16w (s.storeWords isl) = s.get GI.iCrc isl 0 * 256 + s.get GI.iCrc isl 1) →
    ∃ t, exec (.confDone isl) s = .next t ∧
      t.is GI.iConf isl = true ∧ t.get GI.iBank isl = 1 - s.get GI.iBank isl ∧
      t.get GI.PROF_CRC.ISL isl = State.crc16w (s.storeWords isl) % 2 ^ 16) ∧
  (∀ (isl : Fin 12) (s : State),
    (State.crc16w (s.storeWords isl) ≠ s.get GI.iCrc isl 0 * 256 + s.get GI.iCrc isl 1) →
    ∃ t, exec (.confDone isl) s = .next t ∧
      t.is GI.STATUS.PROF_CRC isl = true ∧ t.is GI.iConf isl = s.is GI.iConf isl ∧ t.get GI.iBank isl = s.get GI.iBank isl) ∧
  (∀ (isl : Fin 12) (s : State),
    ∃ t, exec (.islandSwap isl) s = .next t ∧
      t.get GI.iBank isl = 1 - s.get GI.iBank isl ∧ t.is GI.CTL.SWAP isl = false) ∧
  (∀ (isl : Fin 12) (data : BitVec 12) (s : State),
    ∃ t, exec (.crcHi isl data) s = .next t ∧
      t.get GI.iCrc isl 0 = data.toNat % 2 ^ GI.iCrc.width) ∧
  (∀ (isl : Fin 12) (data : BitVec 12) (s : State),
    ∃ t, exec (.crcLo isl data) s = .next t ∧
      t.get GI.iCrc isl 1 = data.toNat % 2 ^ GI.iCrc.width) ∧
  (∀ (isl : Fin 12) (s : State),
    (s.get GI.iSt isl ≠ 0 ∧ s.get GI.iBl isl = 0 ∧ s.is GI.iOvb isl = false) →
    ∃ t, exec (.islandReset isl) s = .next t ∧
      t.get GI.iSt isl = 1 ∧ t.is GI.iConf isl = false ∧ t.is GI.iOn isl = false) ∧
  (∀ (isl : Fin 12) (s : State),
    (s.pdOn (3 + isl / 6) = true) →
    ∃ t, exec (.proxyRelease isl) s = .next t ∧
      t.is GI.CTL.RELEASE isl = true ∧ t.is GI.STATUS.PEND isl = true ∧
      t.out = s.out ++ [.gateFrame isl 3 (0x1C0 * 2 ^ 16 + 2 ^ 4) (crc8Gate (gateHead 3 (0x1C0 * 2 ^ 16 + 2 ^ 4)))]) ∧
  (∀ (isl : Fin 12) (s : State),
    (s.pdOn (3 + isl / 6) = true) →
    ∃ t, exec (.proxyConfDone isl) s = .next t ∧
      t.is GI.CTL.CONF_DONE isl = true ∧ t.get GI.PROF_CRC.CALC isl = State.crc16w (s.proxyWords isl) % 2 ^ 16 ∧
      t.out.length = s.out.length + 3) ∧
  (∀ (isl : Fin 12) (s : State),
    (∀ k ∈ s.islands (isl / 6), s.is GI.CTL.SWAP k = false) →
    (s.pdOn (3 + isl / 6) = true) →
    ∃ t, exec (.proxySwap isl) s = .next t ∧
      (∀ k ∈ s.islands (isl / 6), t.is GI.CTL.SWAP k = true) ∧
      t.out.length = s.out.length + (if s.joined then 12 else 6)) ∧
  (∀ (isl sel : BitVec 4) (s : State),
    (s.pitAllowed = true ∧ isl.toNat < 12 ∧ 1 ≤ sel.toNat ∧ sel.toNat ≤ 7) →
    (s.pdOn 3 = true) →
    ∃ t, exec (.glkPitArm isl sel) s = .next t ∧
      (sel.toNat = 3 → t.is GI.iUvlo isl.toNat = true) ∧
      (sel.toNat = 4 → t.is GI.iLost isl.toNat = true) ∧
      (sel.toNat ≠ 3 → sel.toNat ≠ 4 → t.is GLK.PIT_CTL.ARM = true ∧ t.get BL.PIT_STAT.SOURCE = 0x20))

/-- Gate uplink frames at the endpoint, link losses and off-state diagnostics (R191, R193, R205, R210, R211, R212, R213). -/
def Obligations.GateUplinkFramesAndDiagnostics : Prop :=
  (∀ (isl : Fin 12) (vds : BitVec 10) (vage : BitVec 4) (s : State),
    (s.pit 0x20 5 isl = false) →
    ∃ t, exec (.statusFrame isl vds vage) s = .next t ∧
      t.get GI.STATUS.STATE isl = s.get GI.iSt isl ∧ t.is GI.STATUS.ON isl = s.is GI.iOn isl ∧ t.get GI.STATUS.BL_CODE isl = s.get GI.iBl isl ∧
      t.get GI.VDS.CODE isl = vds.toNat ∧ t.get GI.iFlag isl = 0) ∧
  (∀ (isl : Fin 12) (vds : BitVec 10) (vage : BitVec 4) (atEnd on : Bool) (time : BitVec 11) (first : Nat) (s : State),
    (s.pit 0x20 5 isl = false) →
    ∃ t, exec (.edgeFrame isl vds vage atEnd on time first) s = .next t ∧
      t.get GI.edgeAt isl (ofBool atEnd) = (first - time.toNat) % 2 ^ GI.edgeAt.width ∧ t.is GI.edgeDir isl (ofBool atEnd) = on ∧
      t.get GI.VDS.CODE isl = vds.toNat ∧ t.get GI.VDS.VAGE isl = vage.toNat ∧ t.getBit GLK.LINK_STAT.UP isl = true) ∧
  (∀ (isl : Fin 12) (vds : BitVec 10) (vage : BitVec 4) (tdet : BitVec 8) (first : Nat) (s : State),
    (s.pit 0x20 5 isl = false) →
    ∃ t, exec (.tripFrame isl vds vage tdet first) s = .next t ∧
      (s.get GI.iCause isl ≠ 0 → t.get GI.tDet isl = (first - tdet.toNat) % 2 ^ GI.tDet.width) ∧
      (bit (s.get GI.iCause isl) 4 = true → t.is GI.TRIP.DESAT isl = true ∧ t.getBit PU.tripIn 0 (isl / 6) = true) ∧
      (bit (s.get GI.iCause isl) 3 = true → t.is GI.TRIP.DIDT isl = true ∧ t.getBit PU.tripIn 1 (isl / 6) = true) ∧
      (bit (s.get GI.iCause isl) 2 = true → t.is GI.TRIP.UVLO isl = true ∧ t.getBit PU.tripIn 2 (isl / 6) = true) ∧
      (bit (s.get GI.iCause isl) 1 = true → t.is GI.TRIP.OT isl = true ∧ t.getBit PU.tripIn 4 (isl / 6) = true) ∧
      t.get GI.iCause isl = 0) ∧
  (∀ (isl : Fin 12) (vds : BitVec 10) (vage : BitVec 4) (sel : BitVec 3) (val : BitVec 10) (s : State),
    (s.pit 0x20 5 isl = false ∧ s.pit 0x20 7 isl = false) →
    ∃ t, exec (.measFrame isl vds vage sel val) s = .next t ∧
      (sel = 0 → t.get GI.MEAS_T.TDIE isl = val.toNat) ∧
      (sel = 2 → t.get GI.MEAS_V.VPOS isl = val.toNat) ∧
      (sel = 3 → t.get GI.MEAS_V.VNEG isl = val.toNat) ∧
      (sel = 1 → t.get GI.MEAS_T.TNTC isl = if 16 ≤ s.get GI.iCtl isl then 0 else val.toNat)) ∧
  (∀ (isl : Fin 12) (vds : BitVec 10) (vage : BitVec 4) (s : State),
    (s.pit 0x20 5 isl = false ∧ s.is GI.iRd isl = true) →
    ∃ t, exec (.cfgRsp isl vds vage) s = .next t ∧
      t.is GI.iRd isl = false ∧
      (s.get GI.iRdA isl < 0x100 → t.get GI.rsp isl = s.get GI.iPb isl (256 * (1 - s.get GI.iBank isl) + s.get GI.iRdA isl) % 2 ^ GI.rsp.width)) ∧
  (∀ (isl : Fin 12) (s : State),
    ∃ t, exec (.islandLinkLoss isl) s = .next t ∧
      t.is GI.iLost isl = true ∧ t.getBit GI.iCause 0 isl = true ∧
      (s.get GI.iSt isl = 1 ∨ s.get GI.iSt isl = 2 ∨ s.get GI.iSt isl = 3 → t.get GI.iSt isl = 2 ∧ t.is GI.iOn isl = false) ∧
      (s.get GI.iSt isl = 4 → t.get GI.iSt isl = 4 ∧ t.is GI.iOn isl = s.is GI.iOn isl)) ∧
  (∀ (isl : Fin 12) (s : State),
    (s.is GI.trained isl = true) →
    ∃ t, exec (.endpointLinkLoss isl) s = .next t ∧
      t.getBit GLK.LINK_STAT.UP isl = false ∧ t.getBit PU.tripIn 3 (isl / 6) = true) ∧
  (∀ (star : Fin 2) (s : State),
    (s.get (if star = 0 then GLK.OSD_RES.STAT_A else GLK.OSD_RES.STAT_B) ≠ 1) →
    (s.pdOn 3 = true) →
    ∃ t, exec (.osdStart star) s = .next t ∧
      (s.osdOk star = true → t.get (if star = 0 then GLK.OSD_RES.STAT_A else GLK.OSD_RES.STAT_B) = 1 ∧ t.get GLK.osdN star = 0) ∧
      (s.osdOk star = false → t.get (if star = 0 then GLK.OSD_RES.STAT_A else GLK.OSD_RES.STAT_B) = 3)) ∧
  (∀ (star : Fin 2) (u v w : BitVec 10) (s : State),
    (s.get (if star = 0 then GLK.OSD_RES.STAT_A else GLK.OSD_RES.STAT_B) = 1 ∧ s.get GLK.osdN star < 12) →
    ∃ t, exec (.osdStep star u v w) s = .next t ∧
      t.get GLK.osd star (3 * s.get GLK.osdN star) = u.toNat ∧ t.get GLK.osd star (3 * s.get GLK.osdN star + 1) = v.toNat ∧ t.get GLK.osd star (3 * s.get GLK.osdN star + 2) = w.toNat ∧
      (s.get GLK.osdN star < 11 → t.get GLK.osdN star = s.get GLK.osdN star + 1) ∧
      (s.get GLK.osdN star = 11 → t.get (if star = 0 then GLK.OSD_RES.STAT_A else GLK.OSD_RES.STAT_B) = 2))

/-- Gate islands: the Belay line, the over-voltage broadcast, supplies and protections (R194, R202, R203, R204, R207, R208, R210, R211). -/
def Obligations.GateIslandLineBroadcastAndProtection : Prop :=
  (∀ (isl : Fin 12) (word : BitVec 8) (s : State),
    ∃ t, exec (.belayCode isl word) s = .next t ∧
      (t.get GI.iBl isl = if word = 0x66 then 0 else if word = 0x33 then 2 else if word = 0x55 then 3 else 1) ∧
      (word ≠ 0x66 → word ≠ 0x33 → word ≠ 0x55 → s.get GI.iSt isl = 3 → s.is GI.iConf isl = true → s.is GI.iOvb isl = false → t.get GI.iSt isl = 4 ∧ t.is GI.iOn isl = false) ∧
      (word = 0x33 ∨ word = 0x55 → s.get GI.iSt isl ≠ 0 → t.get GI.iSt isl = 4) ∧
      (word = 0x33 → isl.val % 2 = 0 → s.get GI.iSt isl = 3 → s.is GI.iPend isl = false → s.is GI.iOn isl = true →
        t.getBit GI.iFlag 1 isl = true ∧ t.is GI.iOn isl = false)) ∧
  (∀ (isl : Fin 12) (s : State),
    ∃ t, exec (.belayLineLoss isl) s = .next t ∧
      t.get GI.iBl isl = 1) ∧
  (∀ (isl : Fin 12) (start : Nat) (dvdt : List (Option (BitVec 10))) (s : State),
    (s.is GI.iSc isl = true ∧ s.get GI.iSt isl = 4) →
    (isl.val % 2 = 1 ∨ s.is GI.iOt isl = false) →
    ∃ t, exec (.scTurnOn isl start dvdt) s = .next t ∧
      t.get GI.iEndT isl = (start + s.profTicks isl (s.get GI.iCtl isl % 16) 1) % 2 ^ GI.iEndT.width ∧
      t.is GI.iOn isl = true ∧ t.is GI.iSc isl = false) ∧
  (∀ (isl : Fin 12) (cm : Bool) (s : State),
    ∃ t, exec (.ovbAssert isl cm) s = .next t ∧
      (isl.val % 2 = 0 → t = s) ∧
      (isl.val % 2 = 1 → t.is GI.iOvb isl = true) ∧
      (isl.val % 2 = 1 → s.get GI.iSt isl ≠ 0 → t.get GI.iSt isl = 4)) ∧
  (∀ (isl : Fin 12) (start : Nat) (dvdt : List (Option (BitVec 10))) (s : State),
    (s.is GI.iBc isl = true ∧ s.is GI.iOvb isl = true ∧ s.get GI.iSt isl = 4) →
    ∃ t, exec (.bcTurnOn isl start dvdt) s = .next t ∧
      t.get GI.iEndT isl = (start + s.profTicks isl (s.get GI.iCtl isl % 16) 1) % 2 ^ GI.iEndT.width ∧
      t.is GI.iOn isl = true) ∧
  (∀ (isl : Fin 12) (s : State),
    (s.is GI.iOvb isl = true) →
    ∃ t, exec (.ovbDeassert isl) s = .next t ∧
      t.is GI.iOvb isl = false ∧
      (s.get GI.iBl isl = 0 → s.get GI.iSt isl = 4 → t.get GI.iSt isl = if s.is GI.iConf isl then 2 else 1)) ∧
  (∀ (isl : Fin 12) (below6 : Bool) (s : State),
    ∃ t, exec (.islandUvlo isl below6) s = .next t ∧
      t.is GI.iUvlo isl = true ∧
      (s.is GI.iUvlo isl = false → t.get GI.iSt isl = 0 ∧ t.is GI.iOn isl = false ∧ t.getBit GI.iCause 2 isl = true)) ∧
  (∀ (isl : Fin 12) (s : State),
    (s.is GI.iUvlo isl = true ∧ s.is GI.iLow isl = false ∧ s.get GI.iBl isl = 0 ∧ s.is GI.iOvb isl = false) →
    ∃ t, exec (.uvloRecover isl) s = .next t ∧
      (t.is GI.iUvlo isl = false ∧ t.get GI.iSt isl = if s.is GI.iConf isl then 2 else 1)) ∧
  (∀ (isl : Fin 12) (s : State),
    (s.is GI.iOn isl = true) →
    ∃ t, exec (.islandDesat isl) s = .next t ∧
      t.getBit GI.iCause 4 isl = true ∧ t.is GI.iOn isl = true) ∧
  (∀ (isl : Fin 12) (s : State),
    ∃ t, exec (.islandDidt isl) s = .next t ∧
      t.getBit GI.iCause 3 isl = true ∧ t.is GI.iOn isl = s.is GI.iOn isl) ∧
  (∀ (isl : Fin 12) (ntc : Bool) (s : State),
    (ntc = false ∨ s.get GI.iCtl isl < 16) →
    ∃ t, exec (.islandOt isl ntc) s = .next t ∧
      t.is GI.iOt isl = true ∧ t.getBit GI.iCause 1 isl = true ∧
      (s.get GI.iSt isl = 1 ∨ s.get GI.iSt isl = 2 ∨ s.get GI.iSt isl = 3 → t.get GI.iSt isl = 2 ∧ t.is GI.iOn isl = false) ∧
      (s.get GI.iSt isl = 4 → isl.val % 2 = 1 → t.get GI.iSt isl = 4 ∧ t.is GI.iOn isl = s.is GI.iOn isl) ∧
      (s.get GI.iSt isl = 4 → isl.val % 2 = 0 → t.get GI.iSt isl = 4 ∧ t.is GI.iOn isl = false)) ∧
  (∀ (isl : Fin 12) (s : State),
    (s.getBit SYS.PWR_STAT.PD_ON (7 + isl / 6) = true ∧ s.get GI.iSt isl = 0 ∧ s.is GI.iUvlo isl = false) →
    (s.get GI.iBl isl = 0 ∧ s.is GI.iOvb isl = false) →
    ∃ t, exec (.islandPowerUp isl) s = .next t ∧
      t.get GI.iSt isl = 1 ∧ t.is GI.iConf isl = false)

/-- The auxiliary drives: each event's effect on its channel (R218, R219, R220, R221, R223, R225, R226, R227, R228, R230, R231, R233). -/
def Obligations.AuxiliaryDriveEventsTakeEffect : Prop :=
  (∀ (ch : Fin 3) (peak : Bool) (u v w : BitVec 12) (s : State),
    (s.is ACT.chEn (2 + ch) = true ∧ s.counts (2 + ch) = true) →
    (peak = false ∨ s.is PU.CTL.DBL_UPD (2 + ch) = true) →
    ∃ t, exec (.axPeriodStart ch peak u v w) s = .next t ∧
      (peak = false → (∀ n < 3, s.getBit AX.lowOk n ch = true) → t.geti AX.CH_CUR_UV.I_U ch = s.axCurrent ch u.toNat ∧
        t.geti AX.CH_CUR_UV.I_V ch = s.axCurrent ch v.toNat ∧ t.geti AX.CH_CUR_W.I_W ch = s.axCurrent ch w.toNat) ∧
      (peak = false → s.getBit AX.lowOk 1 ch = false → s.getBit AX.lowOk 2 ch = false → t.get AX.CH_CUR_UV.I_U ch = s.get AX.CH_CUR_UV.I_U ch ∧
        t.get AX.CH_CUR_W.I_W ch = s.get AX.CH_CUR_W.I_W ch) ∧
      (t.get AX.CH_STAT.STATE ch < 2 ∨ t.is AX.step ch = true ∨ t.get AX.src ch = 2 → t.get AX.iq ch = 0)) ∧
  (∀ (ch ph : Fin 3) (high : Bool) (amps : BitVec 8) (s : State),
    ((if high then s.get AX.CH_OC.OC_HS ch else s.get AX.CH_OC.OC_LS ch) < amps.toNat) →
    (high = false ∨ s.get PU.hiT (2 + ch) ph = 0 ∨ s.get PU.hiT (2 + ch) ph + 200 ≤ s.now) →
    ∃ t, exec (.auxOc ch ph high amps) s = .next t ∧
      t.getBit AX.ocLvl (ph + (if high then 3 else 0)) ch = true ∧ t.getBit PU.tripIn 13 (2 + ch) = true) ∧
  (∀ (code : BitVec 12) (s : State),
    ∃ t, exec (.vauxSample code) s = .next t ∧
      t.get AX.STATUS.VAUX = code.toNat ∧
      (code.toNat < 450 → ∀ k < 3, t.is AX.CH_STAT.VAUX_UV k = true ∧ t.get AX.CH_STAT.STATE k = 0) ∧
      (50 * s.get AX.CTL.VAUX_OV < code.toNat → ∀ k < 3, t.is AX.CH_STAT.VAUX_OV k = true ∧
        0 ≤ t.geti AX.iq k * t.geti AX.CH_SPD.SPD_MEAS k)) ∧
  (∀ (ch : Fin 3) (s : State),
    (s.is AX.uvWait ch = true ∧ s.is AX.uvCond = false ∧ s.is AX.lost ch = false ∧ s.is ACT.chEn (2 + ch) = true ∧
      s.get AX.okT + 40000000 ≤ s.now) →
    ∃ t, exec (.vauxRestart ch) s = .next t ∧
      t.get AX.CH_STAT.STATE ch = 1 ∧ t.getBit AX.STATUS.CH_RUN ch = true) ∧
  (∀ (ch : Fin 3) (s : State),
    (s.is ACT.chEn (2 + ch) = true ∧ s.get AX.spT ch + 4000000 * s.get AX.CH_CFG.SP_TMO ch ≤ s.now) →
    ∃ t, exec (.spLost ch) s = .next t ∧
      t.is AX.lost ch = true ∧ t.is AX.CH_STAT.SP_LOST ch = true ∧
      (s.get AX.CH_STAT.STATE ch = 4 → s.get AX.CH_CFG.MODE ch = 1 → s.is AX.step ch = false → t.get AX.CH_STAT.STATE ch = 5)) ∧
  (∀ (ch : Fin 3) (nodes : List AuxNodes) (s : State),
    (s.get AX.CH_STAT.STATE ch = 1 ∧ s.get AX.watchT ch + 400000 * s.get AX.CH_START.CATCH_MS ch ≤ s.now) →
    ∃ t, exec (.auxCatch ch nodes) s = .next t ∧
      (nodes.getLast?.any State.nodeStill = true → t.get AX.CH_STAT.STATE ch = (if s.is AX.CH_INJ.INJ_CNT ch then 2 else 3) ∧ t.get AX.step ch = 1) ∧
      (nodes.getLast?.any State.nodeStill = false → s.get AX.CH_OBS.OBS_DN ch ≤ (s.crossSpeed ch (State.crossings nodes)).natAbs →
        t.get AX.CH_STAT.STATE ch = 4 ∧ t.get AX.src ch = 3 ∧ t.geti AX.CH_SPD.SPD_MEAS ch = s.crossSpeed ch (State.crossings nodes)) ∧
      (nodes.getLast?.any State.nodeStill = false → (s.crossSpeed ch (State.crossings nodes)).natAbs < s.get AX.CH_OBS.OBS_DN ch →
        t.get AX.CH_STAT.STATE ch = 1 ∧ t.get AX.watchT ch = s.now % 2 ^ 64)) ∧
  (∀ (ch : Fin 3) (s : State),
    (s.get AX.CH_STAT.STATE ch = 1 ∧ s.get AX.startT ch + 4000000 * s.get AX.CH_START.START_WAIT ch ≤ s.now) →
    ∃ t, exec (.startFail ch) s = .next t ∧
      t.is AX.CH_STAT.START_FAIL ch = true ∧ t.is ACT.chEn (2 + ch) = false ∧ t.get AX.CH_STAT.STATE ch = 0) ∧
  (∀ (ch p : Fin 3) (s : State),
    (s.get AX.step ch = 1 ∧ s.get AX.stepT ch + 800000 ≤ s.now) →
    ∃ t, exec (.auxAlignEnd ch) s = .next t ∧
      (10 * s.get AX.maxI ch p < s.get AX.CH_START.START_I ch → t.is AX.CH_STAT.OPEN_LOAD ch = true ∧ t.is ACT.chEn (2 + ch) = false) ∧
      ((∀ n < 3, s.get AX.CH_START.START_I ch ≤ 10 * s.get AX.maxI ch n) → t.get AX.step ch = if s.is AX.CH_INJ.INJ_CNT ch then 2 else 0)) ∧
  (∀ (ch : Fin 3) (s : State),
    (s.get AX.step ch = 2 ∧ OB.INJ_CONV.INJ_N.reset ≤ s.get AX.injIn ch) →
    ∃ t, exec (.auxInjConv ch) s = .next t ∧
      t.get AX.step ch = 3 ∧ t.get AX.polIdx ch = 0 ∧ t.get AX.polPh ch = 1) ∧
  (∀ (ch : Fin 3) (s : State),
    (s.get AX.step ch = 3) →
    ∃ t, exec (.auxPolPulseEnd ch) s = .next t ∧
      (s.get AX.injT ch + 8000000 ≤ s.now → t.is AX.CH_STAT.POL_FAIL ch = true ∧ t.is ACT.chEn (2 + ch) = false) ∧
      (s.now < s.get AX.injT ch + 8000000 → s.get AX.polPh ch = 4 → s.get AX.polIdx ch < 7 →
        t.get AX.polIdx ch = s.get AX.polIdx ch + 1 ∧ t.get AX.polPh ch = 1 ∧ t.get AX.step ch = 3)) ∧
  (∀ (ch : Fin 3) (s : State),
    (2 ≤ s.get AX.CH_STAT.STATE ch ∧ s.get AX.src ch ≠ 3) →
    (0 < s.get AX.upT ch ∧ s.get AX.upT ch + 20000000 ≤ s.now) →
    ∃ t, exec (.obsSlow ch) s = .next t ∧
      t.is AX.CH_STAT.OBS_SLOW ch = true) ∧
  (∀ (ch : Fin 3) (s : State),
    (8 ≤ s.get AX.vN ch) →
    ∃ t, exec (.auxVlim ch) s = .next t ∧
      t.is AX.vlimOn ch = true ∧ t.is AX.CH_STAT.VLIM ch = true) ∧
  (∀ (ch : Fin 3) (s : State),
    (8 ≤ s.get AX.vOkN ch) →
    ∃ t, exec (.vlimClear ch) s = .next t ∧
      t.is AX.vlimOn ch = false ∧ t.is AX.CH_STAT.VLIM ch = false) ∧
  (∀ (ch ph : Fin 3) (code : BitVec 10) (s : State),
    (s.pit 0x18 1 ch = false ∧ (s.get AX.bsPitT ch ph = 0 ∨ s.get AX.bsPitT ch ph < s.now)) →
    ∃ t, exec (.bsUv ch ph code) s = .next t ∧
      t.get (State.vbsRow ph) ch = code.toNat ∧
      (code.toNat < 375 → t.getBit AX.CH_STAT.BS_UV ph ch = true ∧ t.is PU.sw (2 + ch) (2 * ph) = false ∧ t.is AX.CH_STAT.BS_EVT ch = true) ∧
      (400 ≤ code.toNat → t.getBit AX.CH_STAT.BS_UV ph ch = false)) ∧
  (∀ (ch : Fin 3) (s : State),
    (s.get AX.CH_STAT.BS_UV ch = 0 ∧ s.get AX.bsT ch + 400000 * s.get AX.CH_BS_LIM.BS_HOLD ch ≤ s.now) →
    ∃ t, exec (.bsHoldEnd ch) s = .next t ∧
      t.is AX.bsClamp ch = false) ∧
  (∀ (ch ph : BitVec 2) (sel : BitVec 4) (s : State),
    (s.pitAllowed = true ∧ ch.toNat < 3 ∧ ph.toNat < 3 ∧ 1 ≤ sel.toNat ∧ sel.toNat ≤ 4) →
    (s.pdOn 5 = true) →
    ∃ t, exec (.axPitArm ch ph sel) s = .next t ∧
      (sel.toNat = 2 → t.getBit AX.ocLvl ph.toNat ch.toNat = true ∧ t.getBit PU.tripIn 13 (2 + ch.toNat) = true) ∧
      (sel.toNat ≠ 2 → t.is AX.PIT_CTL.ARM = true ∧ t.get BL.PIT_STAT.SOURCE = 0x18))

/-- Thermal management: rounds, shutdown holds and pitons (R368, R370, R371, R372, R373, R374, R377). -/
def Obligations.TemperaturesThrottlesAndHolds : Prop :=
  (∀ (codes : List (Option (BitVec 10))) (mt : List (Option (BitVec 20))) (missing : BitVec 24) (n : Fin 12) (s : State),
    (s.hkRuns = true) →
    (∀ k < 38, s.pit 0x19 1 k = false ∧ s.pit 0x19 2 k = false) →
    ∃ t, exec (.slowRound codes mt missing) s = .next t ∧
      t.is HK.busy = true ∧
      (bit missing.toNat n = false → 76 ≤ s.get GI.MEAS_T.TDIE n → s.get GI.MEAS_T.TDIE n ≤ 1016 → t.get HK.TEMP.VAL n = s.get GI.MEAS_T.TDIE n ∧ t.is HK.TEMP.FAULT n = false) ∧
      (bit missing.toNat n = true → t.get HK.TEMP.VAL n = 0x3FF ∧ t.is HK.TEMP.FAULT n = true)) ∧
  (∀ (s : State),
    (s.hkRuns = true ∧ s.is HK.busy = true) →
    ∃ t, exec (.roundDone) s = .next t ∧
      t.is HK.busy = false ∧ t.get HK.STATUS.ROUND_CNT = (s.get HK.STATUS.ROUND_CNT + 1) % 2 ^ HK.STATUS.ROUND_CNT.width ∧
      (s.is HK.CTL.THR_EN = false → t.get HK.THR_VAL0.AXA = 16 ∧ t.get HK.THR_VAL0.AXB = 16 ∧ t.get HK.THR_VAL0.AUX0 = 16 ∧ t.get HK.THR_VAL0.AUX1 = 16 ∧ t.get HK.THR_VAL1.AUX2 = 16)) ∧
  (∀ (s : State),
    (s.hkRuns = false ∨ s.is HK.busy = false) →
    ∃ t, exec (.roundDone) s = .next t ∧ t = s) ∧
  (∀ (s : State),
    s.get HK.roundT + 12000000 ≤ s.now →
    ∃ t, exec (.hkStale) s = .next t ∧
      t.is HK.STATUS.STALE = true) ∧
  (∀ (s : State),
    (s.pdOn 2 = true) →
    ∃ t, exec (.bsRst) s = .next t ∧
      (∀ k < 3, t.get HK.BS_MIN.U k = 0x3FF ∧ t.get HK.BS_MIN.V k = 0x3FF ∧ t.get HK.BS_MIN.W k = 0x3FF)) ∧
  (∀ (bridge : Fin 3) (s : State),
    ∃ t, exec (.abiOt bridge) s = .next t ∧
      t.getBit HK.OT_STAT.ABI bridge = true ∧ t.getBit PU.tripIn 14 (2 + bridge) = true ∧
      (∀ k < 6, t.is PU.sw (2 + bridge) k = false)) ∧
  (∀ (belay : Bool) (s : State),
    ∃ t, exec (.dieOt belay) s = .next t ∧
      (if belay then t.is HK.OT_STAT.BI else t.is HK.OT_STAT.CI) = true ∧
      t.getBit BL.causeReq SsCause.dieOt.bit 0 = true ∧ t.getBit BL.causeReq SsCause.dieOt.bit 1 = true) ∧
  (∀ (sensor : Fin 38) (s : State),
    (s.cooled sensor = true) →
    (24 ≤ sensor.val → sensor.val < 30 → ∀ k < 6, s.cooled (24 + k) = true) →
    ∃ t, exec (.otRestart sensor) s = .next t ∧
      (sensor.val < 24 → t.getBit GI.iOt (sensor / 12) (sensor % 12) = false ∧ (s.getBit GI.iOt (1 - sensor / 12) (sensor % 12) = false → s.get GI.iOt (sensor % 12) < 4 → t.getBit HK.OT_STAT.GI (sensor % 12) = false)) ∧
      (24 ≤ sensor.val → sensor.val < 30 → t.is HK.OT_STAT.CI = false) ∧
      (sensor.val = 30 → t.is HK.OT_STAT.BI = false) ∧
      (31 ≤ sensor.val → sensor.val < 34 → t.getBit HK.OT_STAT.ABI (sensor - 31) = false ∧ t.getBit PU.tripIn 14 (sensor - 29) = false)) ∧
  (∀ (sensor : Fin 38) (s : State),
    (s.is HK.TEMP.FAULT sensor = true ∨ s.is HK.otFail sensor = true ∨ s.now < s.get HK.coolT sensor + 400000000) →
    ∃ t, exec (.otRestart sensor) s = .next t ∧ t = s) ∧
  (∀ (sens : BitVec 6) (sel : BitVec 4) (s : State),
    (s.pitAllowed = true ∧ sens.toNat ≤ 37 ∧ 1 ≤ sel.toNat ∧ sel.toNat ≤ 2) →
    (s.pdOn 2 = true) →
    ∃ t, exec (.hkPitArm sens sel) s = .next t ∧
      t.is HK.PIT_CTL.ARM = true ∧ t.get BL.PIT_STAT.SOURCE = 0x19 ∧ t.get HK.PIT_CTL.SENS = sens.toNat)

/-- Context table: REFRESH, VERIFY and SAVE, entries fetched, bound and checked (R236, R237, R238, R241, R243, R244, R245, R246, R247, R262, R387). -/
def Obligations.ContextTableJobsFetchAndCheck : Prop :=
  (∀ (mask : BitVec 8) (c : Fin 8) (s : State),
    (s.is ACT.job = false ∧ s.is ACT.CMD.GO = false) →
    (s.pdOn 2 = true) →
    ∃ t, exec (.actRefresh mask) s = .next t ∧
      (State.lowest mask.toNat = some c.val → s.is ACT.chEn c = true → t.get ACT.job = 1 ∧ t.get ACT.jobCh = c ∧ t.get ACT.jobStep = 1 ∧ t.is ACT.STAT.BUSY = true ∧ t.is ACT.CMD.GO = true) ∧
      ((∀ k < 8, bit mask.toNat k = true → s.is ACT.chEn k = false) → t.is ACT.job = false ∧ t.is ACT.CMD.GO = false)) ∧
  (∀ (mask : BitVec 8) (c : Fin 8) (s : State),
    (s.is ACT.job = false ∧ s.is ACT.CMD.GO = false) →
    (s.pdOn 2 = true) →
    ∃ t, exec (.actVerify mask) s = .next t ∧
      (State.lowest mask.toNat = some c.val → t.get ACT.job = 3 ∧ t.get ACT.jobCh = c ∧ t.get ACT.jobStep = 1) ∧
      (mask = 0 → t.is ACT.job = false ∧ t.is ACT.CMD.GO = false)) ∧
  (∀ (s : State),
    (s.is ACT.job = false ∧ s.is ACT.CMD.GO = false) →
    (s.pdOn 2 = true) →
    ∃ t, exec (.actSave) s = .next t ∧
      (s.actWrite s.linkRole = false → t.regs = s.regs ∧ (s.evWarning.length < 64 → t.evWarning.length = s.evWarning.length + 1)) ∧
      (s.actWrite s.linkRole = true → t.get ACT.job = 2 ∧ t.is ACT.STAT.BUSY = true ∧ t.is ACT.CMD.GO = true)) ∧
  (∀ (d : Desc) (c : Fin 8) (s : State),
    (s.running 0 3 = some d) →
    ∃ t, exec (.ringRefresh) s = .next t ∧
      (s.enableLoads (d.byte 0) = true → s.Completes t 0 d .busy 0) ∧
      (s.is ACT.job = false → d.byte 0 = 2 ^ c.val → s.is ACT.chEn c = false → s.Completes t 0 d .notEnabled 0) ∧
      (s.is ACT.job = false → d.byte 0 = 2 ^ c.val → s.is ACT.chEn c = true → t.get ACT.job = 1 ∧ t.get ACT.jobCh = c ∧ t.get ACT.jobStep = 1 ∧ t.desc 0 = some d)) ∧
  (∀ (d : Desc) (c : Fin 8) (s : State),
    (s.running 0 4 = some d ∧ s.is ACT.job = false) →
    ∃ t, exec (.ringVerify) s = .next t ∧
      (State.lowest (d.byte 0) = some c.val → t.get ACT.job = 3 ∧ t.get ACT.jobCh = c ∧ t.get ACT.jobStep = 1 ∧ t.desc 0 = some d) ∧
      (d.byte 0 = 0 → s.Completes t 0 d .ok 0)) ∧
  (∀ (d : Desc) (s : State),
    (s.running 0 5 = some d) →
    ∃ t, exec (.ringSave) s = .next t ∧
      (s.actWrite (s.get SEC.descRole 0) = false → s.Completes t 0 d .refused 0) ∧
      (s.actWrite (s.get SEC.descRole 0) = true → s.is ACT.job = false → t.get ACT.job = 2 ∧ t.is ACT.STAT.BUSY = true ∧ t.desc 0 = some d)) ∧
  (∀ (words : List (BitVec 32)) (complete : Bool) (s : State),
    (s.get ACT.job = 2) →
    ∃ t, exec (.saveDone words complete) s = .next t ∧
      t.is ACT.job = false ∧
      (complete = false → t.is ACT.ERR_LOC.IMG_FAIL = true ∧ t.get ACT.IMG_STAT.COPY = s.get ACT.IMG_STAT.COPY) ∧
      (complete = true → (∀ k < 8, entryCrc (((words.map (·.toNat)).drop (256 * k)).take 256) = (((words.map (·.toNat)).drop (256 * k)).take 256).getD 2 0) → t.get ACT.IMG_STAT.COPY = 1 - s.get ACT.IMG_STAT.COPY ∧ t.is ACT.IMG_STAT.IMG_VALID = true)) ∧
  (∀ (words words0 : List (BitVec 32)) (src1 : BitVec 2) (s : State),
    (s.get ACT.jobStep = 1 ∧ s.is ACT.CTL.SRC = false ∧ s.get ACT.jobCh < 7) →
    ∃ t, exec (.entryFetched words words0 src1) s = .next t ∧
      (s.is RING.linkUp = false → t.getBit ACT.ERR.FETCH (s.get ACT.jobCh) = true) ∧
      (s.is RING.linkUp = true → s.get ACT.job ≠ 4 → entryCrc (words.map (·.toNat)) ≠ (words.map (·.toNat)).getD 2 0 → t.getBit ACT.ERR.CRC (s.get ACT.jobCh) = true) ∧
      (s.is RING.linkUp = true → s.get ACT.job = 4 → bit ((words.map (·.toNat)).getD 3 0) 0 = false → t.getBit ACT.ERR.CRC (s.get ACT.jobCh) = s.getBit ACT.ERR.CRC (s.get ACT.jobCh) ∧ t.get ACT.jobStep ≠ 2) ∧
      (s.is RING.linkUp = true → entryCrc (words.map (·.toNat)) = (words.map (·.toNat)).getD 2 0 → s.get ACT.job ≠ 4 ∨ (2 ≤ s.get ACT.jobCh ∧ bit ((words.map (·.toNat)).getD 3 0) 0 = true) → t.get ACT.jobStep = 2 ∧ ∀ k < 256, t.get ACT.cand 0 k = (words.map (·.toNat)).getD k 0)) ∧
  (∀ (s : State),
    (s.get ACT.jobStep = 1) →
    ∃ t, exec (.fetchTmo) s = .next t ∧
      t.getBit ACT.ERR.FETCH (s.get ACT.jobCh) = true) ∧
  (∀ (s : State),
    (s.get ACT.jobStep = 2) →
    ∃ t, exec (.bindCheck) s = .next t ∧
      (s.get ACT.job ≠ 3 → s.get BL.BIND.BIND (s.get ACT.jobCh) = 0 ∨ s.get BL.BIND.BIND (s.get ACT.jobCh) ≠ s.candBind → t.getBit ACT.ERR.BIND (s.get ACT.jobCh) = true) ∧
      (s.get ACT.job = 3 → State.headerBad (s.get ACT.jobCh) (s.entryWords ACT.cand 0) = true → t.getBit ACT.ERR.RANGE (s.get ACT.jobCh) = true) ∧
      (s.get ACT.job = 3 → (∀ off ∈ s.candBad (s.get ACT.jobCh), t.getBit ACT.ERR.RANGE (s.get ACT.jobCh) = true) ∧ ∀ c < 8, ∀ k < 48, t.get BL.sec c k = s.get BL.sec c k) ∧
      (s.get ACT.job = 1 → s.get BL.BIND.BIND (s.get ACT.jobCh) ≠ 0 → s.get BL.BIND.BIND (s.get ACT.jobCh) = s.candBind → State.headerBad (s.get ACT.jobCh) (s.entryWords ACT.cand 0) = false → s.candBad (s.get ACT.jobCh) = none → 5 ≤ s.get ACT.jobCh ∧ s.get ACT.jobCh ≤ 6 → t.getBit ACT.STAT.PEND (s.get ACT.jobCh) = true) ∧
      (s.get ACT.job = 4 → s.get BL.BIND.BIND (s.get ACT.jobCh) ≠ 0 → s.get BL.BIND.BIND (s.get ACT.jobCh) = s.candBind → State.headerBad (s.get ACT.jobCh) (s.entryWords ACT.cand 0) = false → s.candBad (s.get ACT.jobCh) = none → 5 ≤ s.get ACT.jobCh ∧ s.get ACT.jobCh ≤ 6 → s.enablePre (s.get ACT.jobCh) = true → t.is ACT.chEn (s.get ACT.jobCh) = true ∧ t.getBit ACT.STAT.IN_FORCE (s.get ACT.jobCh) = true)) ∧
  (∀ (ch : Fin 8) (good : Bool) (s : State),
    ∃ t, exec (.cacheCheck ch good) s = .next t ∧
      (good = false → s.getBit ACT.STAT.CACHED ch = true → t.is ACT.ERR_LOC.CACHE = true) ∧
      (good = true ∨ s.getBit ACT.STAT.CACHED ch = false → t = s))

/-- Channels: ENABLE and DISABLE taken up, the disable ramp (R245, R263, R264, R315, R316). -/
def Obligations.ChannelsEnableAndDisable : Prop :=
  (∀ (net : Bool) (b : Nat) (c : Fin 8) (s : State),
    (s.command net 0x10 = some b ∧ s.is ACT.job = false ∧ b % 256 = 2 ^ c.val) →
    ∃ t, exec (.ringEnable net) s = .next t ∧
      (s.is ACT.chEn c = false → s.enablePre c = true → s.imageBars c = false → s.calNeeded c = false → t.get ACT.job = 4 ∧ t.get ACT.jobCh = c ∧ t.get ACT.jobStep = 1 ∧ t.is ACT.STAT.BUSY = true) ∧
      (s.is ACT.chEn c = false → s.enablePre c = false → t.is ACT.job = false ∧ t.is ACT.chEn c = false ∧ (net = false → ∀ d ∈ s.running 1 0x10, s.Completes t 1 d .state 0)) ∧
      (s.is ACT.chEn c = true → s.disRunning = false → c.val ≠ 0 → c.val ≠ 1 → c.val ≠ 7 → t.is ACT.job = false ∧ (net = false → ∀ d ∈ s.running 1 0x10, s.Completes t 1 d .ok 16))) ∧
  (∀ (net : Bool) (b : Nat) (c : Fin 8) (s : State),
    (s.command net 0x11 = some b ∧ s.is ACT.disSrc = false ∧ b % 256 = 2 ^ c.val) →
    ∃ t, exec (.ringDisable net) s = .next t ∧
      (s.is ACT.chEn c = false → net = false → ∀ d ∈ s.running 1 0x11, s.Completes t 1 d .ok 16) ∧
      (s.is ACT.chEn c = true → c.val < 2 → s.is BL.wind c = false → s.get SQ.STATUS.MODE c ∉ [1, 6, 7] → t.get ACT.rampN c = 1 ∧ t.is ACT.chEn c = true) ∧
      (s.is ACT.chEn c = true → c.val < 2 → s.is BL.wind c = false → s.get SQ.STATUS.MODE c ∈ [1, 6, 7] → t.is ACT.chEn c = false) ∧
      (s.is ACT.chEn c = true → 2 ≤ c.val → c.val ≤ 4 → t.get ACT.rampN c = 1) ∧
      (s.is ACT.chEn c = true → c.val = 5 → t.is ACT.chEn 5 = s.disRunning)) ∧
  (∀ (ch : Fin 8) (s : State),
    (s.is ACT.rampN ch = true) →
    ∃ t, exec (.disableRampEnd ch) s = .next t ∧
      (ch.val < 2 → 2 * s.get ACT.rampN ch < 5 * s.get SQ.OBS_CFG.RAMP_US ch → t = s) ∧
      (ch.val < 2 → 5 * s.get SQ.OBS_CFG.RAMP_US ch ≤ 2 * s.get ACT.rampN ch → t.is ACT.chEn ch = false) ∧
      (2 ≤ ch.val → ch.val ≤ 4 → s.is AX.ref (ch - 2) = false → t.is ACT.chEn ch = false ∧ t.get AX.CH_STAT.STATE (ch - 2) = 0) ∧
      (2 ≤ ch.val → ch.val ≤ 4 → s.is AX.ref (ch - 2) = true → t = s))

/-- Rings: link events, SIZE writes, doorbells, errors and timers (R249, R251, R252, R253, R254, R257, R258, R261). -/
def Obligations.RingsStopRestartAndTakeDoorbells : Prop :=
  (∀ (s : State),
    ∃ t, exec (.perstn) s = .next t ∧
      t.descs = [] ∧ t.plays = [] ∧ t.is RING.linkUp = false ∧ t.is SEC.hostRole = false ∧
      (∀ n < 32, s.ringOn n = true → s.is RING.sizePend n = false → t.is RING.STAT.HALT n = true ∧ t.is RING.STAT.LINK n = true ∧ t.get RING.HEAD.HEAD n = s.get RING.HEAD.HEAD n ∧ t.get RING.TAIL.TAIL n = s.get RING.TAIL.TAIL n)) ∧
  (∀ (s : State),
    ∃ t, exec (.linkDown) s = .next t ∧
      t.descs = [] ∧ t.plays = [] ∧ t.is RING.linkUp = false ∧ t.is SEC.hostRole = false ∧
      (∀ n < 32, s.ringOn n = true → s.is RING.sizePend n = false → t.is RING.STAT.HALT n = true ∧ t.is RING.STAT.LINK n = true)) ∧
  (∀ (s : State),
    ∃ t, exec (.busMasterClear) s = .next t ∧
      t.descs = [] ∧ t.plays = [] ∧ t.get RING.linkUp = s.get RING.linkUp ∧
      (∀ n < 32, s.ringOn n = true → s.is RING.sizePend n = false → t.is RING.STAT.HALT n = true ∧ t.is RING.STAT.LINK n = true)) ∧
  (∀ (s : State),
    ∃ t, exec (.functionLevelReset) s = .next t ∧
      t.descs = [] ∧ t.plays = [] ∧ t.get RING.linkUp = s.get RING.linkUp ∧ t.is SEC.hostRole = false ∧
      (∀ n < 32, t.ringOn n = false ∧ t.get RING.HEAD.HEAD n = 0 ∧ t.get RING.TAIL.TAIL n = 0 ∧ t.is RING.STAT.HALT n = false)) ∧
  (∀ (gen lanes mps mrrs : Nat) (s : State),
    ∃ t, exec (.pcieLinkUp gen lanes mps mrrs) s = .next t ∧
      t.is RING.linkUp = true ∧ t.get RING.mps = min mps 256 % 2 ^ RING.mps.width ∧ t.get RING.mrrs = min mrrs 512 % 2 ^ RING.mrrs.width ∧
      (3 ≤ gen → 2 ≤ lanes → t.evWarning = s.evWarning) ∧
      (gen < 3 ∨ lanes < 2 → s.evWarning.length < 64 → t.evWarning = s.evWarning ++ [{ time := s.now, inst := 0, source := 2, code := 6, arg0 := 0, arg1 := 0x100 }])) ∧
  (∀ (ring : Fin 32) (size : BitVec 13) (s : State),
    (s.pdOn 2 = true) →
    ∃ t, exec (.sizeWrite ring size) s = .next t ∧
      (s.is RING.CTL.LOCK = true → t.get RING.CFG.SIZE ring = s.get RING.CFG.SIZE ring) ∧
      (s.is RING.CTL.LOCK = false → sizeOk size.toNat = false → t = s.set RING.CTL.CFG_REJECT 1) ∧
      (s.is RING.CTL.LOCK = false → sizeOk size.toNat = true → s.desc ring = none → t.get RING.CFG.SIZE ring = size.toNat ∧ t.get RING.HEAD.HEAD ring = 0 ∧ t.get RING.TAIL.TAIL ring = 0 ∧ t.is RING.STAT.HALT ring = false) ∧
      (s.is RING.CTL.LOCK = false → sizeOk size.toNat = true → s.desc ring ≠ none → ringClass ring ≠ .buffer → t.is RING.sizePend ring = true ∧ t.get RING.CFG.SIZE ring = s.get RING.CFG.SIZE ring)) ∧
  (∀ (ring : Fin 32) (tail : BitVec 13) (highOnly : Bool) (s : State),
    (highOnly = false ∧ s.is RING.sizePend ring = false ∧ s.pdOn 2 = true) →
    ∃ t, exec (.doorbell ring tail highOnly) s = .next t ∧
      (tail.toNat < s.get RING.CFG.SIZE ring → (s.get RING.TAIL.TAIL ring + s.get RING.CFG.SIZE ring - s.get RING.HEAD.HEAD ring) % s.get RING.CFG.SIZE ring ≤ (tail.toNat + s.get RING.CFG.SIZE ring - s.get RING.HEAD.HEAD ring) % s.get RING.CFG.SIZE ring → t = s.set RING.TAIL.TAIL tail.toNat ring) ∧
      (s.get RING.CFG.SIZE ring ≤ tail.toNat → t.is RING.STAT.TAIL ring = true ∧ t.get RING.TAIL.TAIL ring = s.get RING.TAIL.TAIL ring)) ∧
  (∀ (ring : Fin 32) (payload : Bool) (s : State),
    ∃ t, exec (.dmaError ring payload) s = .next t ∧
      (payload = true → ∀ d ∈ s.desc ring, d.inl = false → (∀ p ∈ s.plays, p.ring ≠ ring.val) → s.Completes t ring d .dmaErr 0) ∧
      (payload = true → ∀ d ∈ s.desc ring, d.inl = true → t = s) ∧
      (payload = false → s.ringOn ring = true → t.is RING.STAT.HALT ring = true ∧ t.is RING.STAT.DMA ring = true ∧ t.desc ring = none) ∧
      (payload = false → s.ringOn ring = false → t = s)) ∧
  (∀ (ring : Fin 32) (s : State),
    ∃ t, exec (.irqTimer ring) s = .next t ∧
      (s.is RING.IRQ.TIME ring = true → s.is RING.unsig ring = true → t.get RING.unsig ring = 0 ∧
        (s.getBit RING.msixTable 0 (s.get RING.CFG.VEC ring) 3 = false → t.out = s.out ++ [.msix (s.get RING.CFG.VEC ring)]) ∧
        (s.getBit RING.msixTable 0 (s.get RING.CFG.VEC ring) 3 = true → t.out = s.out ∧ t.getBit RING.pba (s.get RING.CFG.VEC ring) = true)) ∧
      (s.is RING.IRQ.TIME ring = false ∨ s.is RING.unsig ring = false → t = s))

/-- Rings: descriptors fetched, records written, stores read out (R252, R255, R257, R259, R268, R269, R270, R271, R272, R326). -/
def Obligations.DescriptorsRecordsAndReadouts : Prop :=
  (∀ (ring : Fin 32) (d : Desc) (s : State),
    (s.handed ring = true ∧ s.desc ring = none ∧ s.is SEC.FW_STAT.BOOT_FAIL = false) →
    ∃ t, exec (.descFetch ring d) s = .next t ∧
      (ringClass ring = .record → t = s) ∧
      (ringClass ring ≠ .record → ∀ st ∈ descRefusal ring d, s.Completes t ring d st 0) ∧
      (ringClass ring ≠ .record → descRefusal ring d = none → ring.val ≠ 1 → ring.val < 24 ∨ 28 ≤ ring.val → t.desc ring = some d ∧ t.is RING.STAT.BUSY ring = true ∧ t.get SEC.descRole ring = s.linkRole ∧
        (payloadRead ring d = none → t.out = s.out) ∧ (∀ p ∈ payloadRead ring d, t.out = (s.hostRead p.1 p.2).out)) ∧
      (descRefusal ring d = none → ring.val = 1 → t.desc ring = some d ∧ t.ridgeIn = s.ridgeIn ++ [{ chan := 0, inst := 1, ident := 0, mac := 0, data := (List.range 16).map d.byte }])) ∧
  (∀ (ring : Fin 8) (bankFree : Bool) (s : State),
    (s.ringOn (8 + ring) = true ∧ s.now % 160 = 0 ∧ s.now / 160 % s.get RING.PARAM.SP_PER (8 + ring) = 0) →
    ∃ t, exec (.telemetryRecord ring bankFree) s = .next t ∧
      (s.handed (8 + ring) = false → t.get RING.CNT.DROP_FULL (8 + ring) = min (s.get RING.CNT.DROP_FULL (8 + ring) + 1) (2 ^ RING.CNT.DROP_FULL.width - 1) ∧ t.out = s.out) ∧
      (s.handed (8 + ring) = true → bankFree = false → t.get RING.CNT.DROP_BANK (8 + ring) = min (s.get RING.CNT.DROP_BANK (8 + ring) + 1) (2 ^ RING.CNT.DROP_BANK.width - 1) ∧ t.out = s.out) ∧
      (s.handed (8 + ring) = true → bankFree = true → Msg.record (8 + ring) (s.get RING.HEAD.HEAD (8 + ring)) (s.get RING.pass (8 + ring) % 2 == 0) (8 + ring) (s.get RING.recSeq (8 + ring)) (min (s.get RING.dropSince (8 + ring)) 0xFFFF) ((s.now % 2 ^ 64) :: s.teleVals (8 + ring)) ∈ t.out.drop s.out.length ∧ t.get RING.dropSince (8 + ring) = 0)) ∧
  (∀ (cls : Fin 4) (ev : Event) (q : List Event) (s : State),
    (s.queue (evClassOf cls) = ev :: q ∧ s.handed (16 + cls) = true) →
    ∃ t, exec (.eventRecord cls) s = .next t ∧
      t.queue (evClassOf cls) = q ∧ t.get RING.lost cls = 0 ∧
      Msg.record (16 + cls) (s.get RING.HEAD.HEAD (16 + cls)) (s.get RING.pass (16 + cls) % 2 == 0) cls (s.get RING.recSeq (16 + cls)) (min (s.get RING.lost cls) 0xFFFF) [ev.time, ev.inst, ev.source, ev.code, ev.arg0, ev.arg1] ∈ t.out.drop s.out.length) ∧
  (∀ (d : Desc) (s : State),
    (s.running 22 2 = some d) →
    ∃ t, exec (.eventStore) s = .next t ∧
      (d.len.toNat % 32 ≠ 0 → s.Completes t 22 d .range 0) ∧
      (d.len.toNat % 32 = 0 → s.Completes t 22 d .ok (min (d.len.toNat / 32) (s.evStore.length - d.w2.toNat) * 32))) ∧
  (∀ (d : Desc) (s : State),
    (s.running 22 1 = some d ∧ d.w2 ≠ 0xFFFFFFFF) →
    ∃ t, exec (.changeLog) s = .next t ∧
      (d.len.toNat % 96 ≠ 0 → s.Completes t 22 d .range 0) ∧
      (d.len.toNat % 96 = 0 → s.Completes t 22 d .ok (min (d.len.toNat / 96) (s.log.countP fun e => decide (d.w2.toNat ≤ e.index)) * 96)) ∧
      t.log = s.log)

/-- Belay: selection, safe states and their release, the torque monitors' verdicts (R278, R279, R280, R281, R284, R286, R287, R288, R289, R291, R292, R305). -/
def Obligations.BelaySelectionSafeStatesAndMonitors : Prop :=
  (∀ (axis : Fin 2) (s : State),
    ∃ t, exec (.blSelection axis) s = .next t ∧
      (s.is BL.lineFlt axis = true ∨ s.is BL.blTimed axis = false ∨ (s.secInForce axis = false ∧ s.is BL.idleOk axis = false) → t.is BL.spdKnown axis = false ∧ t.get (State.spdRow axis) = 0x8000) ∧
      (s.is BL.lineFlt axis = true ∨ s.is BL.blTimed axis = false → s.is BL.selOnce axis = true → t.is BL.AXIS.SEL_SHORT axis = s.is BL.AXIS.SEL_SHORT axis) ∧
      (s.is BL.lineFlt axis = false → s.is BL.blTimed axis = true → s.secInForce axis = true → s.get BL.blN axis < 2 ∨ 20000000 ≤ s.now - s.get BL.blT axis 0 → t.is BL.spdKnown axis = true ∧ t.get (State.spdRow axis) = 0) ∧
      (∀ w, s.blSpeed axis = some w → t.is BL.spdKnown axis = true ∧ t.geti (State.spdRow axis) = w ∧ ((t.emfSquares axis (t.polLo BL.POL_LO.SC_ON axis)).2 < (t.emfSquares axis (t.polLo BL.POL_LO.SC_ON axis)).1 → t.is BL.AXIS.SEL_SHORT axis = true)) ∧
      (∀ w, s.blSpeed axis = some w → (t.emfSquares axis (t.polLo BL.POL_LO.SC_ON axis)).1 ≤ (t.emfSquares axis (t.polLo BL.POL_LO.SC_ON axis)).2 → (t.emfSquares axis (t.polLo BL.POL_LO.SC_OFF axis)).1 < (t.emfSquares axis (t.polLo BL.POL_LO.SC_OFF axis)).2 → t.is BL.AXIS.SEL_SHORT axis = false) ∧
      (∀ a < 2, t.get BL.AXIS.LINE a = t.lineOf a)) ∧
  (∀ (axis : Fin 2) (s : State),
    (s.is BL.causeReq axis = true) →
    ∃ t, exec (.safeEnter axis) s = .next t ∧
      t.is BL.causeReq axis = false ∧ t.is BL.AXIS.SAFE (s.lead axis) = true ∧
      (s.joined = false → t.get BL.CAUSE.SS_CAUSE axis = (s.get BL.causeReq axis ||| s.get BL.CAUSE.SS_CAUSE axis) % 2 ^ 16 ∧ t.getBit PU.tripIn 15 axis = true ∧ t.is BL.run axis = false) ∧
      (s.joined = true → t.is BL.AXIS.SAFE 0 = true ∧ t.is BL.AXIS.SAFE 1 = true ∧ t.getBit PU.tripIn 15 0 = true) ∧
      (bit (s.get BL.causeReq axis) 13 = true ∨ bit (s.get BL.causeReq axis) 15 = true → ∀ p < 5, t.getBit PU.tripIn 15 p = true) ∧
      (∀ a < 2, t.get BL.AXIS.LINE a = t.lineOf a) ∧
      t.is BL.STATUS.SSOUT = false) ∧
  (∀ (pu : Fin 5) (s : State),
    s.get BL.belT pu + 400 ≤ s.now →
    ∃ t, exec (.belayRelease pu) s = .next t ∧
      (pu.val < 2 → s.causePresent (s.lead pu) = false → t.getBit PU.tripIn 15 pu = false) ∧
      (pu.val < 2 → s.causePresent (s.lead pu) = true → t = s) ∧
      (2 ≤ pu.val → s.is BL.STATUS.CI_LOST = false → s.is BL.dieOt = false → t.getBit PU.tripIn 15 pu = false)) ∧
  (∀ (mon : Fin 2) (s : State),
    ∃ t, exec (.tmError mon) s = .next t ∧
      (s.tmLimit mon ≤ s.get (cntRow mon) → t.getBit BL.causeReq 2 (s.monAxis mon) = true ∧ s.Logged t (s.monAxis mon) 0x0206 (s.get (tmRow (if s.joined = false ∧ s.getBit BL.STATUS.TM_LOST mon = true then 1 - mon else mon)) * 65536 + s.get BL.tCmd (s.monAxis mon)) (s.get BL.tCe (s.monAxis mon))) ∧
      (s.get (cntRow mon) < s.tmLimit mon → t = s)) ∧
  (∀ (mon : Fin 2) (pass : Bool) (s : State),
    ∃ t, exec (.katPeriodic mon pass) s = .next t ∧
      (pass = false → t.getBit BL.STATUS.TM_LOST mon = true) ∧
      (pass = false → s.getBit BL.STATUS.TM_LOST mon = false → t.getBit BL.CAUSE.BIV_CAUSE 9 0 = true) ∧
      (pass = false → s.getBit BL.STATUS.TM_LOST mon = false → s.joined = false → t.getBit BL.CAUSE.BIV_CAUSE 9 1 = true) ∧
      (pass = false → s.getBit BL.STATUS.TM_LOST mon = false → s.getBit BL.CAUSE.BIV_CAUSE 9 0 = true → t.getBit BL.causeReq 8 0 = true) ∧
      (pass = true → s.is BL.PIT_STAT.ARMED = false → t = s.set BL.katSkip 1 mon)) ∧
  (∀ (pass : Bool) (s : State),
    (s.mbx 0x03 = true) →
    ∃ t, exec (.mbxKat pass) s = .next t ∧
      t.is BL.MBX_STAT.BUSY = false ∧
      (1 < s.get BL.MBX_ARG.ARG 0 → t.get BL.MBX_STAT.RESULT = 2) ∧
      (s.get BL.MBX_ARG.ARG 0 ≤ 1 → s.is BL.PIT_STAT.ARMED = false → t.get BL.MBX_STAT.RESULT = 0 ∧ t.get BL.MBX_RSP.RSP = if pass then 0 else 1)) ∧
  (∀ (s : State),
    (s.joined = true ∧ s.is BL.STATUS.TM_LOST = false) →
    ∃ t, exec (.tmXchk) s = .next t ∧
      (s.is BL.tmXRun = true → 200 * s.gov BL.TM_XCFG.XTIME 3 0 ≤ s.get BL.tmXRun → t.getBit BL.causeReq 4 0 = true ∧ t.getBit BL.causeReq 4 1 = true) ∧
      (s.get BL.tmXRun < 200 * s.gov BL.TM_XCFG.XTIME 3 0 → t = s)) ∧
  (∀ (axis : Fin 2) (s : State),
    (s.axEn axis = true ∧ s.is BL.AXIS.ALIGN_OK axis = false) →
    ∃ t, exec (.blIndex axis) s = .next t ∧
      (s.alignDiff axis * 360 ≤ s.gov BL.TM_ALIGN.ALIGN_TOL 6 axis axis * 65536 * s.get POS.INC_CPR.CPR axis → t.is BL.AXIS.ALIGN_OK axis = true) ∧
      (s.gov BL.TM_ALIGN.ALIGN_TOL 6 axis axis * 65536 * s.get POS.INC_CPR.CPR axis < s.alignDiff axis * 360 → t.getBit BL.causeReq 3 axis = true ∧ t.is BL.AXIS.ALIGN_OK axis = false)) ∧
  (∀ (axis : Fin 2) (s : State),
    ∃ t, exec (.alignTimeout axis) s = .next t ∧
      (s.axEn axis = true → s.is BL.AXIS.ALIGN_OK axis = false → 2 * s.gov BL.TM_CPR.CPR_BL 7 axis axis ≤ (s.blSince axis BL.blEn).natAbs → t.getBit BL.causeReq 3 axis = true) ∧
      (s.axEn axis = false ∨ s.is BL.AXIS.ALIGN_OK axis = true ∨ (s.blSince axis BL.blEn).natAbs < 2 * s.gov BL.TM_CPR.CPR_BL 7 axis axis → t = s))

/-- Belay: bivouac, setpoint lapse, XTRIP, HVIL, SSOUT and the heartbeat (R78, R280, R294, R295, R296, R298, R299, R300, R301, R302, R304). -/
def Obligations.BelayBivouacLapseTripsAndHeartbeat : Prop :=
  (∀ (s : State),
    ∃ t, exec (.statusWord) s = .next t ∧
      (∀ a < 2, s.is PU.TRIP_STAT.TRIPPED a = true → s.getBit BL.CAUSE.SS_CAUSE 0 a = false → t.getBit BL.causeReq 0 a = true) ∧
      (∀ a < 2, s.is CE.RP_STAT.RP_FAULT (2 * a) = true → s.getBit BL.CAUSE.SS_CAUSE 1 a = false → t.getBit BL.causeReq 1 a = true) ∧
      (∀ a < 2, s.getBit POS.XCHK_STAT.LOST 0 a = true → t.getBit BL.CAUSE.BIV_CAUSE 0 (s.lead a) = true ∧ (s.getBit BL.CAUSE.BIV_CAUSE 0 (s.lead a) = false → t.is BL.AXIS.BIV (s.lead a) = true))) ∧
  (∀ (axis : Fin 2) (s : State),
    (s.is BL.AXIS.BIV axis = true ∧ s.axEn axis = true ∧ s.is BL.AXIS.BIV_EXPIRED axis = false ∧ s.is BL.bivWarned axis = false ∧ s.get BL.AXIS.BIV_LEFT axis ≤ 3000) →
    ∃ t, exec (.bivWarn axis) s = .next t ∧
      s.Logged t axis 0x0204 (min (s.gov BL.BIV_CFG.BIV_TIME 8 axis) 30) 0 ∧ t.is BL.AXIS.BIV axis = true) ∧
  (∀ (axis : Fin 2) (s : State),
    (s.is BL.AXIS.BIV axis = true ∧ s.axEn axis = true ∧ s.is BL.AXIS.BIV_EXPIRED axis = false ∧ s.get BL.AXIS.BIV_LEFT axis = 0) →
    ∃ t, exec (.bivExpire axis) s = .next t ∧
      t.is BL.AXIS.BIV_EXPIRED axis = true ∧ t.get BL.AXIS.BIV_LEFT axis = 0 ∧ t.getBit BL.causeReq 9 axis = true ∧ t.is BL.STATUS.HOLD_REQ = true ∧ s.Logged t axis 0x0205 axis 0) ∧
  (∀ (axis : Fin 2) (s : State),
    ∃ t, exec (.sglTimeout axis) s = .next t ∧
      (s.is BL.AXIS.SGL axis = true → s.get BL.sglT axis + 400000 * s.gov BL.SGL_CFG.SGL_TIME 9 axis ≤ s.now → t.getBit BL.CAUSE.BIV_CAUSE 10 (s.lead axis) = true) ∧
      (s.is BL.AXIS.SGL axis = false ∨ s.now < s.get BL.sglT axis + 400000 * s.gov BL.SGL_CFG.SGL_TIME 9 axis → t = s)) ∧
  (∀ (axis : Fin 2) (s : State),
    (s.is BL.AXIS.LAPSED axis = false ∧ ∀ k < 16, s.is BL.RS_CFG.EN k = true →
      s.get BL.RS_CFG.DST k = (if s.axisCh axis = 7 then 7 else s.axisCh axis + 2) →
      s.get BL.winT (s.axisCh axis) + 400000 * s.get BL.RS_CFG.WIN k ≤ s.now) →
    ∃ t, exec (.setpointLapse axis) s = .next t ∧
      t.is BL.AXIS.LAPSED axis = true ∧
      (s.axEn axis = true → s.polHi BL.POL_HI.LAPSE_ACT axis ≠ 0 → t.getBit BL.causeReq 10 axis = true) ∧
      (s.axEn axis = true → s.polHi BL.POL_HI.LAPSE_ACT axis = 0 → t.get BL.lapse axis = 1) ∧
      (s.axEn axis = false → t.get BL.lapse axis = s.get BL.lapse axis ∧ t.get BL.causeReq axis = s.get BL.causeReq axis)) ∧
  (∀ (axis : Fin 2) (s : State),
    (s.get BL.lapse axis = 1 ∧ s.axEn axis = true ∧ s.get BL.lapseT axis + s.lapseRamp axis ≤ s.now) →
    ∃ t, exec (.lapseRampEnd axis) s = .next t ∧
      t.get BL.lapse axis = 2 ∧ t.get BL.tqLimit axis = 0) ∧
  (∀ (axis : Fin 2) (s : State),
    (s.get BL.lapse axis = 2 ∧ s.axEn axis = true ∧ s.get BL.lapseT axis + 400000 * s.polHi BL.POL_HI.LAPSE_HOLD axis ≤ s.now) →
    ∃ t, exec (.lapseHoldEnd axis) s = .next t ∧
      t.getBit BL.causeReq 10 axis = true ∧ t.get BL.lapse axis = 0) ∧
  (∀ (asserted : Bool) (s : State),
    (s.is BL.STATUS.CFG_VALID = true) →
    ∃ t, exec (.xtripPin asserted) s = .next t ∧
      t.is BL.STATUS.XTRIP_ACT = asserted ∧
      (asserted = true → s.is BL.STATUS.XTRIP_ACT = false → ∀ a < 2, s.xtAxis a = true → t.getBit PU.tripIn 12 a = true ∧ t.getBit BL.causeReq 11 a = true) ∧
      (asserted = false → s.is BL.STATUS.XTRIP_ACT = true → ∀ p < 5, t.getBit PU.tripIn 12 p = false)) ∧
  (∀ (kind : Nat) (s : State),
    (s.is BL.HVIL_CFG.HVIL_EN = true ∧ s.is BL.STATUS.HVIL_OPEN = false) →
    ∃ t, exec (.hvilFault kind) s = .next t ∧
      t.is BL.STATUS.HVIL_OPEN = true ∧ s.Logged t 0 0x020A kind 0 ∧
      (s.is BL.HVIL_CFG.HVIL_SS = true → t.getBit BL.causeReq 12 0 = true ∧ t.getBit BL.causeReq 12 1 = true) ∧
      (s.is BL.HVIL_CFG.HVIL_DIS = true → s.disRunning = false → s.is BL.vblEver = true → s.is BL.vblStale = false → s.get BL.VDC_ACC.AGE < 10000 → s.is BL.storeOk 5 = true → s.vBelow s.vTgt = false → t.get BL.DIS_STAT.STATE = 1 ∧ t.get BL.disSrc = 3)) ∧
  (∀ (s : State),
    ∃ t, exec (.hvilRestore) s = .next t ∧
      t.is BL.STATUS.HVIL_OPEN = false ∧
      (s.is BL.STATUS.HVIL_OPEN = true → s.Logged t 0 0x020A 0 0)) ∧
  (∀ (s : State),
    (s.is BL.STATUS.SSOUT = true ∧ s.is BL.STATUS.SSOUT_FAULT = false) →
    ∃ t, exec (.ssoutFault) s = .next t ∧
      t.is BL.STATUS.SSOUT_FAULT = true ∧ s.Logged t 0 0x020F 0 0) ∧
  (∀ (s : State),
    ∃ t, exec (.heartbeatSend) s = .next t ∧
      t.get HK.hbSeq = (s.get HK.hbSeq + 1) % 65536 ∧ t.out = s.out ++ [.belayWord 1 [t.get HK.hbSeq]]) ∧
  (∀ (seq : BitVec 16) (s : State),
    (s.is BL.hbIgnore = false ∧ s.is BL.PIT_STAT.ARMED = false) →
    ∃ t, exec (.blHeartbeat seq) s = .next t ∧
      t.get BL.HB.HB_SEQ = seq.toNat ∧
      (seq.toNat = (s.get BL.HB.HB_SEQ + 1) % 65536 → t.get BL.HB.HB_MISS = 0) ∧
      (seq.toNat = (s.get BL.HB.HB_SEQ + 1) % 65536 → s.is BL.STATUS.CI_LOST = true → 9 ≤ s.get BL.hbRun → t.is BL.STATUS.CI_LOST = false) ∧
      (seq.toNat ≠ (s.get BL.HB.HB_SEQ + 1) % 65536 → t.get BL.hbRun = 0 ∧ t.is BL.STATUS.CI_LOST = s.is BL.STATUS.CI_LOST)) ∧
  (∀ (s : State),
    (s.is BL.STATUS.CI_LOST = false ∧ s.get BL.HB.HB_N ≤ s.get BL.HB.HB_MISS) →
    ∃ t, exec (.ciLost) s = .next t ∧
      t.is BL.STATUS.CI_LOST = true ∧ t.is BL.STATUS.SSOUT = false ∧
      (∀ a < 2, t.getBit BL.causeReq 13 a = true)) ∧
  (∀ (s : State),
    (s.is BL.vblEver = true ∧ s.is BL.vblStale = false ∧ 10000 ≤ s.get BL.VDC_ACC.AGE) →
    ∃ t, exec (.vdcFallback) s = .next t ∧
      t.is BL.vblStale = true ∧ t.get BL.VDC_ACC.V_BL = s.vdcMin 0 ∧
      (s.disRunning = true → t.get BL.DIS_STAT.STATE = 4 ∧ t.get BL.DIS_STAT.END = 4))

/-- Ridge: messages judged, sessions started, setpoints played, HOLD and its outputs (R264, R265, R266, R267, R286, R312, R313, R315, R317, R319, R320, R321). -/
def Obligations.RidgeMessagesSetpointsAndHold : Prop :=
  (∀ (m : RidgeMsg) (rest : List RidgeMsg) (k : Fin 16) (s : State),
    (s.ridgeIn = m :: rest ∧ s.msgSlot m = some k.val ∧ s.is BL.winDiscard = false ∧ s.is BL.PIT_STAT.ARMED = false ∧ (m.seq ≠ 0 ∨ s.ridgeJudge m ≠ 0)) →
    ∃ t, exec (.ridgeCheck) s = .next t ∧
      t.ridgeIn = rest ∧
      (s.ridgeJudge m ≠ 0 → s.ridgeJudge m ≠ 6 → t.get BL.RS_STAT.REASON k = s.ridgeJudge m ∧ t.get BL.RS_CNT.REFUSED k = min (s.get BL.RS_CNT.REFUSED k + 1) (2 ^ BL.RS_CNT.REFUSED.width - 1)) ∧
      (s.ridgeJudge m = 0 → t.get BL.RS_STAT.LAST k = m.seq % 2 ^ 16 ∧ t.get BL.RS_STAT.REFUSE_RUN k = 0) ∧
      (s.ridgeJudge m = 0 → 2 ≤ m.dst → m.dst ≤ 7 → s.is ACT.chEn (State.dstCh m.dst) = true → t.is CE.spPend (State.dstCh m.dst) = true ∧ t.get CE.spNewVal (State.dstCh m.dst) = (m.byte 0 + 256 * m.byte 1) % 2 ^ 16)) ∧
  (∀ (m : RidgeMsg) (rest : List RidgeMsg) (k : Fin 16) (s : State),
    (s.ridgeIn = m :: rest ∧ s.msgSlot m = some k.val ∧ m.seq = 0 ∧ s.ridgeJudge m = 0) →
    ∃ t, exec (.ridgeStart) s = .next t ∧
      t.ridgeIn = rest ∧ t.get BL.RS_STAT.STATE k = 1 ∧ t.get BL.RS_STAT.LAST k = 0 ∧ t.get BL.sesCnt k = (s.get BL.sesCnt k + 1) % 2 ^ BL.sesCnt.width ∧
      t.get BL.RS_SEED.SEED k = (if crc32c ([k.val] ++ m.data.take 4 ++ leBytes 4 (t.get BL.sesCnt k)) = 0 then 0xFFFFFFFF else crc32c ([k.val] ++ m.data.take 4 ++ leBytes 4 (t.get BL.sesCnt k))) % 2 ^ 32) ∧
  (∀ (ring : Fin 8) (records : List (BitVec 128)) (d : Desc) (rs : List Nat) (s : State),
    (s.desc ring = some d ∧ 2 ≤ ring.val ∧ s.play ring = none ∧ rs.length = d.len.toNat / 16) →
    (rs = if d.inl then [d.w0.toNat + 2 ^ 32 * d.w1.toNat + 2 ^ 64 * d.w2.toNat + 2 ^ 96 * d.w3.toNat] else (records.map (·.toNat)).take (d.len.toNat / 16)) →
    ∃ t, exec (.setpointDesc ring records) s = .next t ∧
      ((ring.val = 7 ∧ s.joined = false) ∨ (ring.val ≤ 3 ∧ s.joined = true) → s.Completes t ring d .state 0) ∧
      (4 ≤ ring.val → ring.val ≤ 6 → s.is ACT.chEn (ringCh ring) = false → s.Completes t ring d .notEnabled 0) ∧
      (4 ≤ ring.val → ring.val ≤ 6 → s.is ACT.chEn (ringCh ring) = true → t.play ring = some { ring := ring, left := rs, accepted := 0, refused := false, waits := false }) ∧
      ((ring.val ≤ 3 ∧ s.joined = false) ∨ (ring.val = 7 ∧ s.joined = true) → s.is ACT.chEn (ringCh ring) = true → (∀ r ∈ rs, r / 2 ^ 32 % 256 < 2) → t.play ring = some { ring := ring, left := rs, accepted := 0, refused := false, waits := false })) ∧
  (∀ (ring : Fin 8) (pl : Play) (r : Nat) (rest : List Nat) (s : State),
    (s.play ring = some pl ∧ pl.left = r :: rest) →
    ∃ t, exec (.setpointRecord ring) s = .next t ∧
      (s.is ACT.chEn (ringCh ring) = true → t.ridgeIn = s.ridgeIn ++ [{ chan := 0, inst := ring, ident := 0, mac := 0, data := leBytes 16 r }] ∧ t.play ring = some { pl with left := rest }) ∧
      (s.is ACT.chEn (ringCh ring) = false → ∀ d ∈ s.desc ring, s.Completes t ring d .notEnabled 0)) ∧
  (∀ (net : Bool) (b : Nat) (s : State),
    (s.command net 0x13 = some b ∧ b % 256 ≠ 0) →
    ∃ t, exec (.ringHold net) s = .next t ∧
      (b % 256 = 1 → s.is ACT.chEn 6 = true → t.is BL.STATUS.HOLD_REQ = true ∧ t.get BL.holdKind = 3) ∧
      (b % 256 = 1 → s.is ACT.chEn 6 = false → net = false → ∀ d ∈ s.running 1 0x13, s.Completes t 1 d .state 0) ∧
      (b % 256 ≠ 1 → net = false → ∀ d ∈ s.running 1 0x13, s.Completes t 1 d .range 0) ∧
      (net = true → t.is BL.netBusy = false)) ∧
  (∀ (net : Bool) (b : Nat) (s : State),
    (s.command net 0x13 = some b ∧ b % 256 = 0) →
    ∃ t, exec (.holdRelease net) s = .next t ∧
      (s.is BL.AXIS.BIV_EXPIRED 0 = false → s.is BL.AXIS.BIV_EXPIRED 1 = false → t.is BL.STATUS.HOLD_REQ = false ∧ t.get BL.SH_STAT.ON = 0 ∧ t.is BL.holdDriven = false) ∧
      (s.is BL.AXIS.BIV_EXPIRED 0 = true ∨ s.is BL.AXIS.BIV_EXPIRED 1 = true → t.get BL.SH_STAT.ON = s.get BL.SH_STAT.ON ∧ t.is BL.STATUS.HOLD_REQ = s.is BL.STATUS.HOLD_REQ)) ∧
  (∀ (s : State),
    ∃ t, exec (.holdDrive) s = .next t ∧
      (s.is BL.STATUS.HOLD_REQ = true → s.is BL.STATUS.HOLD_PEND = true → s.holdSlow = true → s.is BL.storeOk 6 = true → t.is BL.STATUS.HOLD_PEND = false ∧ t.get BL.SH_STAT.ON = s.shCan) ∧
      (s.holdSlow = false → t = s)) ∧
  (∀ (output : Fin 2) (agree : Bool) (vaux vh vl ic : Int) (s : State),
    ∃ t, exec (.shFault output agree vaux vh vl ic) s = .next t ∧
      t.get BL.SH_VAL.V_H output = min vh.toNat 1023 ∧ t.get BL.SH_VAL.V_L output = min vl.toNat 1023 ∧
      (s.shWatched output = false → t.getBit BL.SH_STAT.FAULT output = s.getBit BL.SH_STAT.FAULT output ∧ t.get BL.SH_STAT.ON = s.get BL.SH_STAT.ON) ∧
      (s.shWatched output = true → agree = false → t.getBit BL.SH_STAT.FAULT output = true ∧ t.get (shKindRow output) = 10 ∧ t.getBit BL.SH_STAT.ON output = false ∧ s.Logged t 6 0x0212 output 10) ∧
      (s.shWatched output = true → agree = true → 10 * s.shWord 0x048 31 16 < 2 * ic.natAbs → t.getBit BL.SH_STAT.FAULT output = true ∧ t.get (shKindRow output) = 7 ∧ t.getBit BL.SH_STAT.ON output = false) ∧
      (s.shWatched output = true → agree = true → 2 * ic.natAbs ≤ 10 * s.shWord 0x048 31 16 → s.shSettles output = true → t.getBit BL.SH_STAT.FAULT output = false) ∧
      (s.shWatched output = true → agree = true → 2 * ic.natAbs ≤ 10 * s.shWord 0x048 31 16 → s.shSettles output = false →
        t.getBit BL.SH_STAT.FAULT output = (s.shSteady (s.getBit BL.SH_STAT.ON output) vaux vh vl ic != 0))) ∧
  (∀ (output : Fin 2) (low agree : Bool) (vaux vh vl ic : Int) (s : State),
    (s.is ACT.chEn 6 = true ∧ bit s.shEn output = true ∧ s.getBit BL.SH_STAT.FAULT output = false ∧ s.getBit BL.SH_STAT.NO_SUPPLY output = false) →
    ∃ t, exec (.testPulse output low agree vaux vh vl ic) s = .next t ∧
      (s.shSettles output = true → t = s.incSat BL.SH_STAT.SKIP) ∧
      (s.shSettles output = false → agree = false → t.getBit BL.SH_STAT.FAULT output = true ∧ t.get (shKindRow output) = 10) ∧
      (s.shSettles output = false → agree = true → s.is BL.PIT_STAT.ARMED = false → t.getBit BL.SH_STAT.FAULT output = (shTest (s.getBit BL.SH_STAT.ON output) low vaux vh vl ic != 0) ∧ t.get BL.SH_VAL.V_H output = min vh.toNat 1023))

/-- Belay mailbox: passwords, sessions, CFG_WRITE, the change log and the pitons (R305, R306, R307, R322, R323, R324, R325, R326, R327, R328, R329, R330). -/
def Obligations.MailboxSessionsPasswordsLogAndPitons : Prop :=
  (∀ (s : State),
    ∃ t, exec (.pwdLockoutEnd) s = .next t ∧
      (s.get BL.PWD_STAT.LOCK_LEFT = 1 → s.get BL.lockUs = 1000000 → t.get BL.PWD_STAT.LOCK_LEFT = 0) ∧
      (s.get BL.PWD_STAT.LOCK_LEFT ≠ 1 ∨ s.get BL.lockUs ≠ 1000000 → t = s) ∧ t.get BL.PWD_STAT.FAILS = s.get BL.PWD_STAT.FAILS) ∧
  (∀ (s : State),
    (s.is BL.PWD_STAT.OPEN = true ∧ s.get BL.sesT + 400000000 * s.get BL.PWD_CFG.SES_TMO ≤ s.now) →
    ∃ t, exec (.sesTmo) s = .next t ∧
      (s.is BL.MBX_STAT.BUSY = true → t.is BL.sesTmoPend = true ∧ t.is BL.PWD_STAT.OPEN = true) ∧
      (s.is BL.MBX_STAT.BUSY = false → t.is BL.PWD_STAT.OPEN = false ∧ s.Logged t 0 0x0214 (s.get BL.PWD_STAT.ROLE) 0)) ∧
  (∀ (s : State),
    s.get BL.pwdT + 4000000000 ≤ s.now →
    ∃ t, exec (.pwdBufClear) s = .next t ∧
      t = { s with pwdBuf := [] }) ∧
  (∀ (s : State),
    (s.mbx 0x10 = true) →
    ∃ t, exec (.pwdLoad) s = .next t ∧
      (s.get BL.MBX_CMD.CNT ≤ 8 → s.pwdBuf.length ≤ 24 → t.get BL.MBX_STAT.RESULT = 0 ∧ t.pwdBuf.length = s.pwdBuf.length + (if s.get BL.MBX_CMD.CNT = 0 then 8 else s.get BL.MBX_CMD.CNT) ∧ t.get BL.MBX_RSP.RSP = t.pwdBuf.length) ∧
      (8 < s.get BL.MBX_CMD.CNT ∨ 32 ≤ s.pwdBuf.length → t.get BL.MBX_STAT.RESULT = 2 ∧ t.pwdBuf = s.pwdBuf)) ∧
  (∀ (s : State),
    (s.mbx 0x11 = true ∧ s.is BL.sesTmoPend = false) →
    ∃ t, exec (.sesOpen) s = .next t ∧
      t.pwdBuf = [] ∧ t.is BL.MBX_STAT.BUSY = false ∧
      (s.is BL.PWD_STAT.LOCK_LEFT = true ∨ s.is BL.PWD_STAT.OPEN = true → t.get BL.MBX_STAT.RESULT = 3 ∧ t.is BL.PWD_STAT.OPEN = s.is BL.PWD_STAT.OPEN ∧ t.get BL.PWD_STAT.FAILS = s.get BL.PWD_STAT.FAILS) ∧
      (s.is BL.PWD_STAT.LOCK_LEFT = false → s.is BL.PWD_STAT.OPEN = false → s.get SEC.LC_STAT.STATE = 0 → s.get BL.MBX_ARG.ARG 0 = 1 → s.get BL.mbxRole = 1 → t.is BL.PWD_STAT.OPEN = true ∧ t.get BL.PWD_STAT.ROLE = 1 ∧ t.get BL.MBX_STAT.RESULT = 0) ∧
      (s.is BL.PWD_STAT.LOCK_LEFT = false → s.is BL.PWD_STAT.OPEN = false → s.get SEC.LC_STAT.STATE = 2 → s.get BL.MBX_ARG.ARG 0 = 2 → s.get BL.mbxRole = 2 → s.is BL.pwdSet 0 = true → 8 ≤ s.pwdBuf.length → s.pwdHashOf (s.get BL.pwdSalt 0) = s.get BL.pwdHash 0 → t.is BL.PWD_STAT.OPEN = true ∧ t.get BL.PWD_STAT.ROLE = 2 ∧ t.get BL.PWD_STAT.FAILS = 0 ∧ t.get BL.MBX_STAT.RESULT = 0) ∧
      (s.is BL.PWD_STAT.LOCK_LEFT = false → s.is BL.PWD_STAT.OPEN = false → s.get SEC.LC_STAT.STATE = 2 → s.get BL.MBX_ARG.ARG 0 = 2 → s.get BL.mbxRole = 2 → s.is BL.pwdSet 0 = true → s.pwdBuf.length < 8 → t.is BL.PWD_STAT.OPEN = false ∧ t.get BL.PWD_STAT.FAILS = min (s.get BL.PWD_STAT.FAILS + 1) (2 ^ BL.PWD_STAT.FAILS.width - 1) ∧ t.get BL.MBX_STAT.RESULT = 3)) ∧
  (∀ (s : State),
    (s.mbx 0x12 = true) →
    ∃ t, exec (.sesClose) s = .next t ∧
      t.is BL.PWD_STAT.OPEN = false ∧ t.get BL.MBX_STAT.RESULT = 0 ∧ t.is BL.MBX_STAT.BUSY = false) ∧
  (∀ (written : Bool) (s : State),
    (s.mbx 0x13 = true) →
    ∃ t, exec (.pwdSet written) s = .next t ∧
      t.pwdBuf = [] ∧ t.is BL.MBX_STAT.BUSY = false ∧
      (s.get BL.MBX_ARG.ARG 0 ∉ [2, 4] → t.get BL.MBX_STAT.RESULT = 2 ∧ t.log = s.log) ∧
      (s.get BL.MBX_ARG.ARG 0 = 4 → s.is BL.PWD_STAT.OPEN = true → s.get BL.PWD_STAT.ROLE = 4 → 8 ≤ s.pwdBuf.length → written = true → s.log.length < 4096 → t.is BL.pwdSet 1 = true ∧ t.get BL.MBX_STAT.RESULT = 0 ∧ t.log.length = s.log.length + 1) ∧
      (s.get BL.MBX_ARG.ARG 0 = 4 → s.is BL.PWD_STAT.OPEN = true → s.get BL.PWD_STAT.ROLE = 4 → 8 ≤ s.pwdBuf.length → written = false → t.is BL.pwdSet 1 = s.is BL.pwdSet 1 ∧ t.get BL.pwdHash 1 = s.get BL.pwdHash 1 ∧ t.get BL.MBX_STAT.RESULT = 3 ∧ t.log = s.log)) ∧
  (∀ (s : State),
    (s.mbx 0x14 = true) →
    ∃ t, exec (.logVerify) s = .next t ∧
      t.get BL.MBX_STAT.RESULT = 0 ∧ t.get BL.MBX_RSP.RSP = chainCheck (s.get BL.logAnchor) s.log % 2 ^ 32 ∧ t.log = s.log) ∧
  (∀ (s : State),
    (s.mbx 0x15 = true) →
    ∃ t, exec (.logAnchor) s = .next t ∧
      (s.get BL.MBX_ARG.ARG 0 ≤ 7 → t.get BL.MBX_STAT.RESULT = 0 ∧ t.get BL.MBX_RSP.RSP = s.get BL.logAnchor / 2 ^ (32 * s.get BL.MBX_ARG.ARG 0) % 2 ^ 32) ∧
      (7 < s.get BL.MBX_ARG.ARG 0 → t.get BL.MBX_STAT.RESULT = 2)) ∧
  (∀ (written applied : Bool) (s : State),
    (s.mbx 0x01 = true) →
    ∃ t, exec (.mbxCfgWrite written applied) s = .next t ∧
      (applied = true → t.is BL.MBX_STAT.BUSY = false) ∧
      (s.is BL.PWD_STAT.OPEN = false → t.get BL.MBX_STAT.RESULT = 3 ∧ t.log = s.log) ∧
      (s.is BL.PWD_STAT.OPEN = true → s.get BL.MBX_ARG.ARG 0 = 0x204 → 1 ≤ s.get BL.MBX_ARG.ARG 1 % 32 ∧ s.get BL.MBX_ARG.ARG 1 % 32 ≤ 20 → written = true → applied = true → s.log.length < 4096 → t.get BL.MBX_STAT.RESULT = 0 ∧ t.log.length = s.log.length + 1 ∧ t.get BL.TM_XCFG.XTIME = s.get BL.MBX_ARG.ARG 1 % 32 ∧ t.get BL.TM_XCFG.XTOL = s.get BL.MBX_ARG.ARG 1 / 65536 % 65536) ∧
      (s.is BL.PWD_STAT.OPEN = true → s.get BL.MBX_ARG.ARG 0 = 0x204 → 1 ≤ s.get BL.MBX_ARG.ARG 1 % 32 ∧ s.get BL.MBX_ARG.ARG 1 % 32 ≤ 20 → written = true → applied = false → s.log.length < 4096 → t.log.length = s.log.length + 1 ∧ t.get BL.TM_XCFG.XTIME = s.get BL.TM_XCFG.XTIME ∧ t.rollForward.get BL.TM_XCFG.XTIME = s.get BL.MBX_ARG.ARG 1 % 32) ∧
      (s.is BL.PWD_STAT.OPEN = true → s.get BL.MBX_ARG.ARG 0 = 0x204 → 20 < s.get BL.MBX_ARG.ARG 1 % 32 → t.get BL.MBX_STAT.RESULT = 2 ∧ t.log = s.log ∧ t.get BL.TM_XCFG.XTIME = s.get BL.TM_XCFG.XTIME)) ∧
  (∀ (s : State),
    (s.mbx 0x02 = true ∧ 1 ≤ s.get BL.MBX_ARG.ARG 0 % 16 ∧ s.get BL.MBX_ARG.ARG 0 % 16 ≤ 10) →
    ∃ t, exec (.mbxPitArm) s = .next t ∧
      (s.pitAllowed = true → t.is BL.PIT_STAT.ARMED = true ∧ t.get BL.PIT_STAT.SOURCE = 0x30 ∧ t.get BL.PIT_STAT.SEL = s.get BL.MBX_ARG.ARG 0 % 16 ∧ t.get BL.MBX_STAT.RESULT = 0) ∧
      (s.pitAllowed = false → t.get BL.MBX_STAT.RESULT = 3 ∧ t.is BL.PIT_STAT.ARMED = s.is BL.PIT_STAT.ARMED)) ∧
  (∀ (s : State),
    ∃ t, exec (.pitTimeout) s = .next t ∧
      (s.get BL.pitT + 4000000000 ≤ s.now → t.is BL.PIT_STAT.ARMED = false) ∧ (s.now < s.get BL.pitT + 4000000000 → t = s) ∧ t.evSafety = s.evSafety)

/-- Active discharge: requests, steps, the DLI link and the end of an abseil (R300, R333, R334, R335, R336, R337, R338, R339, R340, R342, R345, R347). -/
def Obligations.DischargeRequestsStepsAndTheLink : Prop :=
  (∀ (net : Bool) (b : Nat) (s : State),
    (s.command net 0x12 = some b ∧ b % 256 ≠ 0) →
    ∃ t, exec (.ringDischarge net) s = .next t ∧
      (s.is ACT.chEn 5 = false → t.get BL.DIS_STAT.STATE = s.get BL.DIS_STAT.STATE ∧ (net = false → ∀ d ∈ s.running 1 0x12, s.Completes t 1 d .state 0)) ∧
      (s.is ACT.chEn 5 = true → b % 256 = 1 → s.disRunning = true → net = false → ∀ d ∈ s.running 1 0x12, s.Completes t 1 d .ok 2) ∧
      (s.is ACT.chEn 5 = true → b % 256 = 1 → s.disRunning = false → s.is BL.vblEver = true → s.is BL.vblStale = false → s.get BL.VDC_ACC.AGE < 10000 → s.is BL.storeOk 5 = true → s.vBelow s.vTgt = false → t.get BL.DIS_STAT.STATE = 1 ∧ t.is BL.disCond = true ∧ (∀ a < 2, t.getBit BL.causeReq 14 a = true) ∧ (net = false → ∀ d ∈ s.running 1 0x12, s.Completes t 1 d .ok 1)) ∧
      (s.is ACT.chEn 5 = true → b % 256 = 1 → s.disRunning = false → s.is BL.vblEver = true → s.is BL.vblStale = false → s.get BL.VDC_ACC.AGE < 10000 → s.is BL.storeOk 5 = true → s.vBelow s.vTgt = true → t.get BL.DIS_STAT.STATE = s.get BL.DIS_STAT.STATE ∧ (net = false → ∀ d ∈ s.running 1 0x12, s.Completes t 1 d .ok 0))) ∧
  (∀ (net : Bool) (b : Nat) (s : State),
    (s.command net 0x12 = some b ∧ b % 256 = 0 ∧ s.is ACT.chEn 5 = true) →
    ∃ t, exec (.dischargeCancel net) s = .next t ∧
      (s.disRunning = true → s.get BL.disSrc = 3 → t.get BL.DIS_STAT.STATE = s.get BL.DIS_STAT.STATE ∧ (net = false → ∀ d ∈ s.running 1 0x12, s.Completes t 1 d .state 0)) ∧
      (s.disRunning = true → s.get BL.disSrc ≠ 3 → s.is BL.stepOpen = false → t.get BL.DIS_STAT.STATE = 4 ∧ t.get BL.DIS_STAT.END = 5) ∧
      (s.disRunning = true → s.get BL.disSrc ≠ 3 → s.is BL.stepOpen = true → t.is BL.disCancel = true ∧ t.get BL.DIS_STAT.STATE = s.get BL.DIS_STAT.STATE)) ∧
  (∀ (s : State),
    (s.is BL.PIT_STAT.ARMED = false ∧ s.is DLI.linkPit = false) →
    (s.pdOn 2 = true ∧ s.get SYS.rstPhase ≠ 3) →
    ∃ t, exec (.dliDownlink) s = .next t ∧
      t.out = s.out ++ [.dliFrame (s.get DLI.cmdKind) (s.get DLI.cmdLen)] ∧ t.get DLI.cmdKind = 0) ∧
  (∀ (len : Nat) (s : State),
    (s.is DLI.powered = true ∧ 1 ≤ len ∧ len ≤ 50) →
    ∃ t, exec (.disStep len) s = .next t ∧
      (s.is DLI.stepLen = false → t.get DLI.stepLen = len ∧ t.is DLI.STATUS.DIS_ON = true) ∧
      (s.is DLI.stepLen = true → t.get DLI.stepQ = len ∧ t.get DLI.stepLen = s.get DLI.stepLen)) ∧
  (∀ (s : State),
    s.is DLI.stepLen = true ∧ s.get DLI.stepT + 400000 * s.get DLI.stepLen ≤ s.now →
    ∃ t, exec (.disStepEnd) s = .next t ∧
      t.get DLI.stepLen = s.get DLI.stepQ ∧ t.get DLI.stepQ = 0 ∧ t.is DLI.STATUS.DIS_ON = s.is DLI.stepQ) ∧
  (∀ (s : State),
    ∃ t, exec (.disEnd) s = .next t ∧
      t.get DLI.stepLen = 0 ∧ t.get DLI.stepQ = 0 ∧ t.is DLI.STATUS.DIS_ON = false) ∧
  (∀ (s : State),
    s.get DLI.dlT + 4000 ≤ s.now →
    ∃ t, exec (.dliLinkLoss) s = .next t ∧
      t.get DLI.stepLen = 0 ∧ t.get DLI.stepQ = 0 ∧ t.is DLI.STATUS.DIS_ON = false) ∧
  (∀ (s : State),
    ∃ t, exec (.dliPowerLoss) s = .next t ∧
      t.get DLI.stepLen = 0 ∧ t.get DLI.stepQ = 0 ∧ t.is DLI.STATUS.DIS_ON = false ∧ t.is DLI.STATUS.POWERED = false) ∧
  (∀ (s : State),
    ∃ t, exec (.stuckOff) s = .next t ∧
      t.is DLI.STATUS.STUCK_OFF = true ∧
      (s.disRunning = true → s.get BL.DIS_STAT.STATE ≠ 3 → s.wdAny = false → t.get BL.DIS_STAT.STATE = 4 ∧ t.get BL.DIS_STAT.END = 3 ∧ s.Logged t 5 0x021C 2 s.vReport) ∧
      (s.disRunning = true → s.wdAny = true → t.get BL.DIS_STAT.STATE = 3) ∧
      (s.get BL.DIS_STAT.STATE = 3 → t.get BL.DIS_STAT.STATE = 3)) ∧
  (∀ (s : State),
    ∃ t, exec (.stuckOn) s = .next t ∧
      t.is DLI.STATUS.STUCK_ON = true ∧
      (s.disRunning = true ∨ s.is DLI.STATUS.STUCK_ON = false → s.Logged t 5 0x021C 3 s.vReport) ∧
      (s.disRunning = true → t.get BL.DIS_STAT.STATE = 4 ∧ t.get BL.DIS_STAT.END = 3)) ∧
  (∀ (s : State),
    ∃ t, exec (.broadcastAssert) s = .next t ∧
      t.is DLI.STATUS.OVB = true ∧ t.is DLI.bcast = true) ∧
  (∀ (s : State),
    ∃ t, exec (.broadcastDeassert) s = .next t ∧
      t.is DLI.STATUS.OVB = false ∧ t.is DLI.bcast = false) ∧
  (∀ (s : State),
    (s.disRunning = true ∧ s.get BL.DIS_STAT.STATE ≠ 3 ∧ s.is BL.STATUS.CI_LOST = false ∧ s.is BL.PIT_STAT.ARMED = false) →
    ∃ t, exec (.abseilStep) s = .next t ∧
      (s.is BL.disCancel = true → s.is BL.stepOpen = false → t.get BL.DIS_STAT.STATE = 4 ∧ t.get BL.DIS_STAT.END = 5) ∧
      (s.is BL.disCancel = true → s.is BL.stepOpen = true → t = s) ∧
      (s.is BL.disCancel = false → s.stepFits (s.get BL.LED_RES.T_R) s.stepMsCfg = true → t.get DLI.cmdKind = 1 ∧ t.get DLI.cmdLen = s.stepMsCfg % 2 ^ DLI.cmdLen.width ∧ t.is BL.stepOpen = true ∧ t.get BL.DIS_STAT.STATE = 1) ∧
      (s.is BL.disCancel = false → s.stepFits (s.get BL.LED_RES.T_R) s.stepMsCfg = false → s.wdAny = false → s.longestStep (s.get BL.LED_RES.T_R) s.stepMsCfg = 0 → t.get BL.DIS_STAT.STATE = 2)) ∧
  (∀ (stepEnd : Bool) (s : State),
    (stepEnd = false ∧ s.get BL.DIS_STAT.STATE ≠ 3 ∧ s.is SYS.lowState = false) →
    ∃ t, exec (.ledgerUpdate stepEnd) s = .next t ∧
      t.get BL.LED_LINK.E_LINK = min s.eLink 0xFFFF ∧
      (s.is BL.DIS_STAT.STATE = true → t.get BL.DIS_TIME.T_RUN = min (s.get BL.DIS_TIME.T_RUN + 1) (2 ^ BL.DIS_TIME.T_RUN.width - 1)) ∧
      (s.is BL.DIS_STAT.STATE = true → s.get BL.DIS_TIME.T_SAFE = 0xFFFF → s.vBelow 600 = true → t.get BL.DIS_TIME.T_SAFE = t.get BL.DIS_TIME.T_RUN) ∧
      (s.is BL.DIS_STAT.STATE = false → t.get BL.DIS_TIME.T_RUN = s.get BL.DIS_TIME.T_RUN ∧ t.get BL.DIS_TIME.T_SAFE = s.get BL.DIS_TIME.T_SAFE)) ∧
  (∀ (s : State),
    (s.disRunning = true ∧ s.get BL.DIS_TIME.T_SAFE = 0xFFFF ∧ s.tDeadline ≤ s.get BL.DIS_TIME.T_RUN ∧ s.is BL.DIS_STAT.MISS = false) →
    ∃ t, exec (.disMiss) s = .next t ∧
      t.is BL.DIS_STAT.MISS = true ∧ s.Logged t 5 0x021B s.tDeadline s.vReport ∧ t.get BL.DIS_STAT.STATE = s.get BL.DIS_STAT.STATE) ∧
  (∀ (sel : BitVec 4) (s : State),
    (s.pitAllowed = true ∧ 1 ≤ sel.toNat ∧ sel.toNat ≤ 3) →
    (s.pdOn 2 = true) →
    ∃ t, exec (.dliPitArm sel) s = .next t ∧
      t.is DLI.PIT_CTL.ARM = true ∧ t.get BL.PIT_STAT.SOURCE = 0x21 ∧ t.get BL.PIT_STAT.SEL = sel.toNat) ∧
  (∀ (v : BitVec 16) (s : State),
    ∃ t, exec (.blVdcSample v) s = .next t ∧
      t.get BL.VDC_ACC.V_BL = v.toNat ∧ t.is BL.vblEver = true ∧ t.is BL.vblStale = false ∧
      (s.disRunning = true → v.toNat * s.vBase 0 < s.vTgt * 32768 → t.get BL.DIS_STAT.STATE = 4 ∧ t.get BL.DIS_STAT.END = 1 ∧ t.is BL.disCond = false))

/-- CAN: frames placed, cancelled, sent and failed (R273, R351, R352, R353, R354, R355, R357, R364, R365). -/
def Obligations.CanTransmitBuffersAndAttempts : Prop :=
  (∀ (ring : Fin 2) (w2 w3 : BitVec 32) (data : List Byte) (d : Desc) (c : Fin 4) (b : Fin 32) (s : State),
    (s.running (28 + ring) 1 = some d ∧ d.inl = false ∧ bits w3.toNat 5 4 = c.val ∧ bits w3.toNat 15 8 = b.val) →
    (data.length = dlcBytes (bit w2.toNat 30) (bit w3.toNat 6) (w3.toNat % 16) ∧ d.len.toNat = 16 + data.length ∧ (b = 31 → s.canReserved c = false)) →
    ∃ t, exec (.canSend ring w2 w3 data) s = .next t ∧
      (s.canFrame c b false = none → t.canFrame c b false = some (canFrameOf w2.toNat w3.toNat data) ∧ s.Completes t (28 + ring) d .ok b) ∧
      (s.canFrame c b false ≠ none → s.canFrame c b true = none → t.canFrame c b true = some (canFrameOf w2.toNat w3.toNat data) ∧ s.Completes t (28 + ring) d .ok b) ∧
      (s.canFrame c b false ≠ none → s.canFrame c b true ≠ none → t.canTx = s.canTx ∧ s.Completes t (28 + ring) d .busy 0)) ∧
  (∀ (ring : Fin 2) (w2 w3 : BitVec 32) (data : List Byte) (d : Desc) (c : Fin 4) (k : Fin 31) (s : State),
    (s.running (28 + ring) 1 = some d ∧ d.inl = true ∧ bits d.w3.toNat 5 4 = c.val ∧ bits d.w3.toNat 15 8 = 0xFF ∧ d.len.toNat = 16) →
    (dlcBytes (bit d.w2.toNat 30) (bit d.w3.toNat 6) (d.w3.toNat % 16) = 0 ∧ s.canFrame c k false = none ∧ ∀ j < k.val, s.canFrame c j false ≠ none) →
    ∃ t, exec (.canSend ring w2 w3 data) s = .next t ∧
      t.canFrame c k false = some (canFrameOf d.w2.toNat d.w3.toNat []) ∧ s.Completes t (28 + ring) d .ok k) ∧
  (∀ (ring : Fin 2) (onBus : Bool) (d : Desc) (c : Fin 4) (b : Fin 32) (s : State),
    (s.running (28 + ring) 2 = some d ∧ d.inl = true ∧ d.len.toNat = 16 ∧ bits d.w3.toNat 5 4 = c.val ∧ bits d.w3.toNat 15 8 = b.val) →
    ∃ t, exec (.canCancel ring onBus) s = .next t ∧
      t.canFrame c b true = none ∧
      (onBus = false ∨ s.get CAN.cur c ≠ b + 1 → t.canFrame c b false = none ∧ s.Completes t (28 + ring) d .ok (ofBool (s.canFrame c b false).isSome + 2 * ofBool (s.canFrame c b true).isSome)) ∧
      (onBus = true → s.get CAN.cur c = b + 1 → s.canOn c = true → s.canFrame c b false ≠ none → t.get CAN.cxl c ring = b + 1 ∧ t.canFrame c b false = s.canFrame c b false ∧ t.desc (28 + ring) = some d)) ∧
  (∀ (ctrl : Fin 4) (stamp : Nat) (b : Fin 32) (f : CanFrame) (s : State),
    (s.canOn ctrl = true ∧ s.get CAN.cur ctrl = b + 1 ∧ s.canFrame ctrl b false = some f ∧ s.get CAN.pitIdc ctrl = 0 ∧ s.get CAN.pitAck ctrl = 0 ∧ s.is BL.PIT_STAT.ARMED = false) →
    ∃ t, exec (.canTxDone ctrl stamp) s = .next t ∧
      Msg.canFrame ctrl { f with brs := f.brs && s.is CAN.CTL.BRSE ctrl } ∈ t.out.drop s.out.length ∧ t.get CAN.ERR.LEC ctrl = 0 ∧ t.get CAN.IDC.RUN ctrl = 0 ∧ t.get CAN.ERR.ACK_RUN ctrl = 0 ∧
      (s.cxlWaits ctrl b = false → s.canFrame ctrl b true ≠ none → t.canFrame ctrl b false = s.canFrame ctrl b true ∧ t.canFrame ctrl b true = none) ∧
      (s.cxlWaits ctrl b = false → s.canFrame ctrl b true = none → t.canFrame ctrl b false = none)) ∧
  (∀ (ctrl : Fin 4) (lec : Fin 7) (inData : Bool) (s : State),
    (s.canOn ctrl = true ∧ s.is CAN.cur ctrl = true ∧ lec.val ≠ 0 ∧ s.is CAN.pitIdc ctrl = false ∧ s.is CAN.pitAck ctrl = false ∧ s.pit 0x1A 1 ctrl = false ∧ s.pit 0x1A 2 ctrl = false) →
    ∃ t, exec (.canTxError ctrl lec inData) s = .next t ∧
      t.get CAN.ERR.LEC ctrl = lec ∧ t.get CAN.CNT.ERR_FRAMES ctrl = min (s.get CAN.CNT.ERR_FRAMES ctrl + 1) (2 ^ CAN.CNT.ERR_FRAMES.width - 1) ∧
      (lec.val = 3 → t.get CAN.ERR.ACK_RUN ctrl = min (s.get CAN.ERR.ACK_RUN ctrl + 1) (2 ^ CAN.ERR.ACK_RUN.width - 1) ∧ t.get CAN.IDC.RUN ctrl = 0) ∧
      (lec.val ≠ 3 → inData = true → t.get CAN.ERR.ACK_RUN ctrl = 0 ∧ 1 ≤ t.get CAN.IDC.RUN ctrl) ∧
      (s.get CAN.STATUS.STATE ctrl = 2 → t.get CAN.ERR.TEC ctrl = min (s.get CAN.ERR.TEC ctrl + 8) 511))

/-- CAN: states of a controller, errors, bus-off and recovery, reception and the piton (R273, R348, R349, R350, R354, R355, R356, R357, R358, R364, R365). -/
def Obligations.CanStatesReceptionAndPitons : Prop :=
  (∀ (ctrl : Fin 4) (s : State),
    (s.get CAN.STATUS.STATE ctrl = 1 ∧ s.is CAN.CTL.INIT ctrl = false ∧ s.is CAN.CTL.TRX_EN ctrl = true) →
    ∃ t, exec (.canJoin ctrl) s = .next t ∧
      t.canOn ctrl = true ∧ t.get CAN.STATUS.STATE ctrl = (if 128 ≤ s.get CAN.ERR.TEC ctrl || s.is CAN.ERR.RP ctrl then 3 else 2)) ∧
  (∀ (ctrl : Fin 4) (lec : Fin 7) (eight : Bool) (s : State),
    (s.canOn ctrl = true ∧ s.is CAN.CTL.ROM ctrl = false) →
    ∃ t, exec (.canRxError ctrl lec eight) s = .next t ∧
      (t.get CAN.ERR.LEC ctrl = lec ∧ t.get CAN.ERR.REC ctrl = min (s.get CAN.ERR.REC ctrl + if eight then 8 else 1) 127) ∧
      (128 ≤ s.get CAN.ERR.REC ctrl + (if eight then 8 else 1) → t.is CAN.ERR.RP ctrl = true ∧ t.get CAN.STATUS.STATE ctrl = 3)) ∧
  (∀ (ctrl : Fin 4) (s : State),
    (3 ≤ s.get CAN.IDC.RUN ctrl) →
    ∃ t, exec (.idCollision ctrl) s = .next t ∧
      t.is CAN.STATUS.ID_COLLISION ctrl = true ∧ t.get CAN.IDC.ID ctrl = s.get CAN.colId ctrl % 2 ^ 29 ∧ t.get CAN.IDC.IDE ctrl = s.get CAN.colId ctrl / 2 ^ 29 % 2) ∧
  (∀ (ctrl : Fin 4) (s : State),
    (16 ≤ s.get CAN.ERR.ACK_RUN ctrl) →
    ∃ t, exec (.canAlone ctrl) s = .next t ∧
      t.is CAN.STATUS.ALONE ctrl = true) ∧
  (∀ (ctrl : Fin 4) (s : State),
    (s.canOn ctrl = true ∧ 255 < s.get CAN.ERR.TEC ctrl) →
    ∃ t, exec (.busOff ctrl) s = .next t ∧
      t.is CAN.STATUS.BUS_OFF ctrl = true ∧ t.get CAN.STATUS.STATE ctrl = (if s.is CAN.CTL.BO_AUTO ctrl then 5 else 4) ∧ t.get CAN.cur ctrl = 0) ∧
  (∀ (ctrl : Fin 4) (s : State),
    (s.pdOn 6 = true) →
    ∃ t, exec (.boRecover ctrl) s = .next t ∧
      (s.get CAN.STATUS.STATE ctrl = 4 → t.get CAN.STATUS.STATE ctrl = 5) ∧
      (s.get CAN.STATUS.STATE ctrl ≠ 4 → t = s)) ∧
  (∀ (ctrl : Fin 4) (s : State),
    (s.get CAN.STATUS.STATE ctrl = 5 ∧ s.is CAN.CTL.INIT ctrl = false) →
    ∃ t, exec (.canRecovered ctrl) s = .next t ∧
      t.get CAN.STATUS.STATE ctrl = 2 ∧ t.get CAN.ERR.TEC ctrl = 0 ∧ t.get CAN.ERR.REC ctrl = 0 ∧ t.is CAN.CTL.BO_RECOVER ctrl = false) ∧
  (∀ (ctrl : Fin 4) (s : State),
    (s.is CAN.CTL.TRX_EN ctrl = true) →
    ∃ t, exec (.domTmo ctrl) s = .next t ∧
      t.is CAN.STATUS.DOM_TMO ctrl = true ∧ t.is CAN.STATUS.BUS_OFF ctrl = true ∧ t.get CAN.STATUS.STATE ctrl = (if s.is CAN.CTL.BO_AUTO ctrl then 5 else 4)) ∧
  (∀ (ctrl : Fin 4) (tdcv : Option (BitVec 8)) (s : State),
    ∃ t, exec (.canPex ctrl tdcv) s = .next t ∧
      (∀ v ∈ tdcv, (127 < v.toNat → t.is CAN.STATUS.PEX ctrl = true) ∧ (v.toNat ≤ 127 → t.get CAN.TDC.TDCV ctrl = v.toNat)) ∧
      (tdcv = none → s.canOn ctrl = true → s.is CAN.CTL.PXE ctrl = true → t.is CAN.STATUS.PEX ctrl = true ∧ t.get CAN.STATUS.STATE ctrl = 1) ∧
      (tdcv = none → s.canOn ctrl = true → s.is CAN.CTL.PXE ctrl = false → t.get CAN.ERR.LEC ctrl = 2)) ∧
  (∀ (ctrl : Fin 4) (frame : CanFrame) (stamp : Nat) (s : State),
    (s.canOn ctrl = true) →
    ∃ t, exec (.canRx ctrl frame stamp) s = .next t ∧
      (s.canRidge ctrl frame = true → t.ridgeIn = s.ridgeIn ++ [{ chan := 1, inst := ctrl, ident := frame.ident.toNat, mac := 0, data := frame.data.map (·.toNat) }] ∧ t.canRxQ = s.canRxQ) ∧
      (s.canRidge ctrl frame = false → s.canFilter ctrl frame = none → s.is CAN.CTL.DEF_ACC ctrl = false → t.canRxQ = s.canRxQ ∧ t.ridgeIn = s.ridgeIn) ∧
      (s.canRidge ctrl frame = false → s.canFilter ctrl frame = none → s.is CAN.CTL.DEF_ACC ctrl = true → s.desc (24 + ctrl) = none → s.canRxQ = [] → t.canRxQ.length = 1)) ∧
  (∀ (ctrl : Fin 4) (buf : BitVec 5) (sel : BitVec 4) (s : State),
    (s.pitAllowed = true ∧ 1 ≤ sel.toNat ∧ sel.toNat ≤ 2) →
    (s.pdOn 6 = true) →
    ∃ t, exec (.canPitArm ctrl buf sel) s = .next t ∧
      t.is CAN.PIT_CTL.ARM ctrl = true ∧ t.get CAN.PIT_CTL.BUF ctrl = buf.toNat ∧ t.get BL.PIT_STAT.SOURCE = 0x1A)

/-- Ethernet: frames sent and received, the link, peer delay (R274, R315, R359, R360, R361, R362, R363). -/
def Obligations.EthernetFramesLinkAndPeerDelay : Prop :=
  (∀ (frame : List Byte) (d : Desc) (s : State),
    (s.running 31 1 = some d ∧ 60 ≤ d.len.toNat ∧ d.len.toNat ≤ 1518 ∧ frame.length = d.len.toNat ∧ s.ethTxQ = []) →
    ∃ t, exec (.ethSend frame) s = .next t ∧
      (s.is ETH.PSTAT.LINK (d.w2.toNat % 2) = false → s.Completes t 31 d .state 0 ∧ t.ethTxQ = []) ∧
      (s.is ETH.PSTAT.LINK (d.w2.toNat % 2) = true → s.is ETH.MSEC_CFG.TX_EN (d.w2.toNat % 2) = false → t.ethTxQ = [(d.w2.toNat % 2, frame)]) ∧
      (s.is ETH.PSTAT.LINK (d.w2.toNat % 2) = true → s.is ETH.MSEC_CFG.TX_EN (d.w2.toNat % 2) = true → s.txSak (d.w2.toNat % 2) = false → s.macsecBypass frame = false → s.Completes t 31 d .state 0)) ∧
  (∀ (port : Fin 2) (stamp : Nat) (d : Desc) (f : List Byte) (s : State),
    (s.desc 31 = some d ∧ s.ethTxQ = [(port.val, f)]) →
    ∃ t, exec (.ethTxDone port .ring stamp) s = .next t ∧
      t.ethTxQ = [] ∧ s.Completes t 31 d .ok stamp ∧
      (s.is ETH.MSEC_CFG.TX_EN port = true → s.macsecBypass f = false → Msg.ethFrame port (some (s.secTag port)) f ∈ t.out.drop s.out.length) ∧
      (s.is ETH.MSEC_CFG.TX_EN port = false ∨ s.macsecBypass f = true → Msg.ethFrame port none f ∈ t.out.drop s.out.length) ∧
      (s.is ETH.MSEC_CFG.TX_EN port = true → s.macsecBypass f = false → s.get ETH.frameAn port = s.get ETH.MSEC_CFG.TX_AN port →
        t.get ETH.TX_PN.PN port = (s.get ETH.TX_PN.PN port + 1) % 2 ^ ETH.TX_PN.PN.width) ∧
      (s.is ETH.MSEC_CFG.TX_EN port = false → t.get ETH.TX_PN.PN port = s.get ETH.TX_PN.PN port)) ∧
  (∀ (port : Fin 2) (src : EthSrc) (stamp : Nat) (s : State),
    (src ≠ .ring) →
    ∃ t, exec (.ethTxDone port src stamp) s = .next t ∧
      (s.is ETH.MSEC_CFG.TX_EN port = false ∨ (src = .gptp ∧ s.is ETH.AS_CFG.AS_BYPASS = true) → t = s) ∧
      (s.is ETH.MSEC_CFG.TX_EN port = true → (src = .ridge ∨ s.is ETH.AS_CFG.AS_BYPASS = false) →
        t.get ETH.TX_PN.PN port = (s.get ETH.TX_PN.PN port + 1) % 2 ^ ETH.TX_PN.PN.width)) ∧
  (∀ (port : Fin 2) (frame : List Byte) (fcsOk : Bool) (tag : Option SecTag) (stamp : Nat) (s : State),
    (s.is ETH.PCFG.EN port = true ∧ s.is ETH.PSTAT.LINK port = true) →
    ∃ t, exec (.ethRx port frame fcsOk tag stamp) s = .next t ∧
      (fcsOk = false → t = s.incSat ETH.RX_BAD.FCS port) ∧
      (fcsOk = true → 60 ≤ frame.length → frame.length ≤ 1518 → etherType frame = 0x8808 → t = s.incSat ETH.RX_BAD.CTRL port) ∧
      (fcsOk = true → 60 ≤ frame.length → frame.length ≤ 1518 → etherType frame ≠ 0x8808 → s.is ETH.MSEC_CFG.RX_EN port = true → s.secOk port tag = false → s.macsecBypass frame = false → t = s.incSat ETH.MSEC_STAT.DROP port) ∧
      (fcsOk = true → 60 ≤ frame.length → frame.length ≤ 1518 → etherType frame ≠ 0x8808 → s.is ETH.MSEC_CFG.RX_EN port = false → s.ethAddrOk port frame = false → t = s) ∧
      (fcsOk = true → 60 ≤ frame.length → frame.length ≤ 1518 → etherType frame ≠ 0x8808 → s.is ETH.MSEC_CFG.RX_EN port = false → s.ethAddrOk port frame = true → etherType frame ≠ 0x88F7 → s.ethRidge port (etherType frame) = false → s.desc 30 = none → t = s.incSat RING.CNT.DROP_FULL 30)) ∧
  (∀ (port : Fin 2) (frame : List Byte) (tag : Option SecTag) (stamp : Nat) (d : Desc) (s : State),
    (s.is ETH.PCFG.EN port = true ∧ s.is ETH.PSTAT.LINK port = true ∧ 60 ≤ frame.length ∧ frame.length ≤ 1518 ∧ etherType frame ≠ 0x8808) →
    (s.is ETH.MSEC_CFG.RX_EN port = false ∨ s.secOk port tag = true ∨ s.macsecBypass frame = true) →
    (s.ethAddrOk port frame = true ∧ (etherType frame ≠ 0x88F7 ∨ s.is ETH.AS_CFG.AS_EN = false) ∧ s.ethRidge port (etherType frame) = false ∧ s.desc 30 = some d) →
    ∃ t, exec (.ethRx port frame true tag stamp) s = .next t ∧
      s.Completes t 30 d .ok (16 + frame.length) ∧
      Msg.hostData 30 ([stamp, frame.length, port.val] ++ frame.map (·.toNat)) ∈ t.out.drop s.out.length) ∧
  (∀ (port : Fin 2) (frame : List Byte) (tag : Option SecTag) (stamp : Nat) (s : State),
    (s.is ETH.PCFG.EN port = true ∧ s.is ETH.PSTAT.LINK port = true ∧ 60 ≤ frame.length ∧ frame.length ≤ 1518 ∧ etherType frame ≠ 0x8808) →
    (s.is ETH.MSEC_CFG.RX_EN port = false ∨ s.secOk port tag = true ∨ s.macsecBypass frame = true) →
    (s.ethAddrOk port frame = true ∧ (etherType frame ≠ 0x88F7 ∨ s.is ETH.AS_CFG.AS_EN = false) ∧ s.ethRidge port (etherType frame) = true) →
    ∃ t, exec (.ethRx port frame true tag stamp) s = .next t ∧
      t.ridgeIn = s.ridgeIn ++
        [{ chan := 2, inst := port, ident := etherType frame, mac := leNat (((frame.drop 6).take 6).map (·.toNat)), data := ((etherPayload frame).take 16).map (·.toNat) }] ∧
      t.descs = s.descs ∧ t.out = s.out) ∧
  (∀ (port : Fin 2) (up : Bool) (sqi : BitVec 3) (s : State),
    (s.is ETH.PCFG.EN port = true) →
    ∃ t, exec (.ethLinkChange port up sqi) s = .next t ∧
      t.is ETH.PSTAT.LINK port = up ∧ t.get ETH.PSTAT.SQI port = sqi.toNat ∧
      (up = false → s.is ETH.PSTAT.LINK port = true → t.get ETH.PSTAT.LINK_DOWN port = min (s.get ETH.PSTAT.LINK_DOWN port + 1) (2 ^ ETH.PSTAT.LINK_DOWN.width - 1)) ∧
      (up = s.is ETH.PSTAT.LINK port → t.evWarning = s.evWarning)) ∧
  (∀ (port : Fin 2) (s : State),
    (s.is ETH.PCFG.EN port = true ∧ s.is ETH.PSTAT.LINK port = false) →
    ∃ t, exec (.msFault port) s = .next t ∧
      t.is ETH.PSTAT.MS_FAULT port = true) ∧
  (∀ (port : Fin 2) (stamp : Nat) (s : State),
    (s.is ETH.AS_CFG.AS_EN = true ∧ s.is ETH.PCFG.EN port = true ∧ s.is ETH.PSTAT.LINK port = true) →
    ∃ t, exec (.pdelayRx port stamp) s = .next t ∧
      t = s.send (.pdelayResp port stamp))

/-- Images, life cycle and keys: loaded, checked, installed and revoked (R272, R363, R379, R380, R381, R382, R383, R387, R388, R390, R392, R393). -/
def Obligations.ImagesLifeCycleAndKeysTakeEffect : Prop :=
  (∀ (data : List Byte) (d : Desc) (s : State),
    (s.running 20 1 = some d ∧ s.is SEC.finalFw = false ∧ data.length = d.len.toNat) →
    ∃ t, exec (.fwChunk data) s = .next t ∧
      (d.w2.toNat ≠ s.fwImage.length → s.Completes t 20 d .range 0 ∧ t.fwImage = s.fwImage) ∧
      (d.w2.toNat = s.fwImage.length → d.w3.toNat % 2 = 0 → s.Completes t 20 d .ok d.len.toNat ∧ t.fwImage = s.fwImage ++ data) ∧
      (d.w2.toNat = s.fwImage.length → d.w3.toNat % 2 = 1 → t.is SEC.finalFw = true ∧ t.desc 20 = some d ∧ t.fwImage = s.fwImage ++ data)) ∧
  (∀ (keyOk sigOk : Bool) (s : State),
    (s.is SEC.finalFw = true) →
    ∃ t, exec (.fwCheckDone keyOk sigOk) s = .next t ∧
      t.fwImage = [] ∧ t.is SEC.finalFw = false ∧
      (s.fwReason s.fwImage keyOk sigOk ≠ 0 → (s.get SEC.finalFw = 1 → ∀ d ∈ s.desc 20, s.Completes t 20 d .authFail 0) ∧ t.get SEC.fwPend = s.get SEC.fwPend) ∧
      (s.fwReason s.fwImage keyOk sigOk = 0 → (s.get SEC.finalFw = 1 → ∀ d ∈ s.desc 20, s.Completes t 20 d .ok d.len.toNat) ∧ t.is SEC.FW_STAT.PEND = true ∧ t.is SEC.fwPend = true)) ∧
  (∀ (data : List Byte) (d : Desc) (s : State),
    (s.running 21 1 = some d ∧ s.is SEC.finalCal = false ∧ data.length = d.len.toNat) →
    ∃ t, exec (.calChunk data) s = .next t ∧
      (s.roleIn (s.get SEC.descRole 21) [2, 3] = false ∨ s.get SEC.LC_STAT.STATE = 4 → s.Completes t 21 d .refused 0 ∧ t.calImage = s.calImage) ∧
      (s.roleIn (s.get SEC.descRole 21) [2, 3] = true → s.get SEC.LC_STAT.STATE ≠ 4 → d.w2.toNat = s.calImage.length → t.calImage = s.calImage ++ data) ∧
      (s.roleIn (s.get SEC.descRole 21) [2, 3] = true → s.get SEC.LC_STAT.STATE ≠ 4 → d.w2.toNat = s.calImage.length → d.w3.toNat % 2 = 0 → s.Completes t 21 d .ok d.len.toNat) ∧
      (s.roleIn (s.get SEC.descRole 21) [2, 3] = true → s.get SEC.LC_STAT.STATE ≠ 4 → d.w2.toNat ≠ s.calImage.length → s.Completes t 21 d .range 0)) ∧
  (∀ (keyIdOk tagOk : Bool) (s : State),
    (s.is SEC.finalCal = true) →
    ∃ t, exec (.calCheckDone keyIdOk tagOk) s = .next t ∧
      t.calImage = [] ∧ t.is SEC.finalCal = false ∧
      (s.calReason s.calImage keyIdOk tagOk ≠ 0 → (s.get SEC.finalCal = 1 → ∀ d ∈ s.desc 21, s.Completes t 21 d .authFail 0) ∧ t.get SEC.CAL_STAT.IN_FORCE = s.get SEC.CAL_STAT.IN_FORCE) ∧
      (s.calReason s.calImage keyIdOk tagOk = 0 → t.is SEC.CAL_STAT.IN_FORCE = true ∧ t.is SEC.CAL_STAT.PEND = true ∧ t.get SEC.CAL_VER.VERSION = State.imgNat s.calImage 8 4 % 2 ^ 32)) ∧
  (∀ (target : BitVec 3) (fused whole : Bool) (s : State),
    (s.pdOn 2 = true) →
    ∃ t, exec (.lcTransition target fused whole) s = .next t ∧
      (s.is SEC.LC_STAT.LC_PEND = false → s.linkRole ∉ State.lcRoles (s.get SEC.LC_STAT.STATE) target.toNat → t.get SEC.LC_STAT.RESULT = 3 ∧ t.get SEC.LC_STAT.STATE = s.get SEC.LC_STAT.STATE) ∧
      (s.is SEC.LC_STAT.LC_PEND = true → t = s.set SEC.LC_CMD.TARGET target.toNat) ∧
      (s.get SEC.LC_STAT.STATE = 2 → target = 3 → s.is SEC.LC_STAT.LC_PEND = false → s.linkRole ∈ [2, 4] → s.get ACT.jobStep = 0 → s.is SEC.CAL_STAT.ZEROING = false → s.anyEnabled = false → whole = true → t.get SEC.LC_STAT.STATE = 3 ∧ t.get SEC.LC_STAT.RESULT = 0 ∧ t.is SEC.hostRole = false) ∧
      (s.get SEC.LC_STAT.STATE = 2 → target = 4 → s.is SEC.LC_STAT.LC_PEND = false → s.linkRole = 2 → s.get ACT.jobStep = 0 → s.is SEC.CAL_STAT.ZEROING = false → s.anyEnabled = false → whole = true → t.get SEC.LC_STAT.STATE = 4 ∧ t.is SEC.CAL_STAT.KEY_OK = false ∧ t.get SEC.KEY_STAT.ROLE_KEYS = 0)) ∧
  (∀ (slot : BitVec 4) (unwraps : Bool) (kInt : BitVec 256) (s : State),
    (s.linkRole = 2 ∧ s.get SEC.LC_STAT.STATE ∈ [1, 2, 3]) →
    (s.pdOn 2 = true) →
    ∃ t, exec (.intInstall slot unwraps kInt) s = .next t ∧
      (unwraps = true → t.get SEC.KEY_STAT.RESULT = 0 ∧ t.get SEC.kInt = kInt.toNat ∧ t.is SEC.CAL_STAT.KEY_OK = true ∧ t.getBit SEC.KEY_STAT.ROLE_KEYS 0 = true) ∧
      (unwraps = false → t.get SEC.KEY_STAT.RESULT = 1 ∧ t.get SEC.kInt = s.get SEC.kInt) ∧
      (∀ k < 64, t.get SEC.KEY_WIN.DATA k = 0)) ∧
  (∀ (slot : BitVec 4) (s : State),
    (s.pdOn 2 = true) →
    ∃ t, exec (.roleInstall slot) s = .next t ∧
      (s.roleMay [2] = false → t.regs = s.regs ∨ 64 ≤ s.evWarning.length) ∧
      (s.roleMay [2] = true → s.get SEC.LC_STAT.STATE ≠ 4 → slot = 3 ∨ slot = 4 → t.get SEC.KEY_STAT.RESULT = 0 ∧ t.get SEC.roleKey (slot.toNat - 2) = s.keyWords 0 24 % 2 ^ 768 ∧ t.getBit SEC.KEY_STAT.ROLE_KEYS (slot.toNat - 2) = true) ∧
      (s.roleMay [2] = true → s.get SEC.LC_STAT.STATE ≠ 4 → slot ≠ 3 → slot ≠ 4 → t.get SEC.KEY_STAT.RESULT = 7)) ∧
  (∀ (slot : BitVec 4) (s : State),
    (s.roleMay [2] = true ∧ s.get SEC.LC_STAT.STATE ≠ 4) →
    (s.pdOn 2 = true) →
    ∃ t, exec (.roleRevoke slot) s = .next t ∧
      (2 ≤ slot.toNat → slot.toNat ≤ 4 → t.get SEC.roleKey (slot.toNat - 2) = 0 ∧ t.getBit SEC.KEY_STAT.ROLE_KEYS (slot.toNat - 2) = false) ∧
      (4 < slot.toNat → t.get SEC.KEY_STAT.RESULT = 7)) ∧
  (∀ (slot : BitVec 4) (s : State),
    (slot.toNat < 8 ∧ s.getBit SYS.PWR_STAT.PD_ON 6 = true ∧ s.get SEC.LC_STAT.STATE ≠ 4) →
    (s.pdOn 2 = true) →
    ∃ t, exec (.sakInstall slot) s = .next t ∧
      (t.is ETH.sakOn slot.toNat = true ∧ t.get SEC.KEY_STAT.RESULT = 0 ∧ ∀ i < 12, t.get ETH.sak slot.toNat i = s.get SEC.KEY_WIN.DATA i % 2 ^ ETH.sak.width)) ∧
  (∀ (slot : BitVec 4) (s : State),
    (slot.toNat < 8 ∧ s.getBit SYS.PWR_STAT.PD_ON 6 = true ∧ s.get SEC.LC_STAT.STATE ≠ 4) →
    (s.pdOn 2 = true) →
    ∃ t, exec (.sakRetire slot) s = .next t ∧
      (t.is ETH.sakOn slot.toNat = false ∧ ∀ i < 12, t.get ETH.sak slot.toNat i = 0)) ∧
  (∀ (slot : BitVec 4) (s : State),
    (s.roleMay [2] = true ∧ s.get SEC.LC_STAT.STATE ≠ 4) →
    (s.pdOn 2 = true) →
    ∃ t, exec (.fuseBlow slot) s = .next t ∧
      (slot = 0 → t.is SEC.FUSE.PERF_USER = true) ∧
      (slot = 1 → t.is SEC.FUSE.DBG_PROD_DIS = true) ∧
      (1 < slot.toNat → t.get SEC.KEY_STAT.RESULT = 7 ∧ t.get SEC.FUSE.PERF_USER = s.get SEC.FUSE.PERF_USER)) ∧
  (∀ (s : State),
    (s.pdOn 2 = true) →
    ∃ t, exec (.fwCommit) s = .next t ∧
      t.get SEC.FW_STAT.FW_SVN = max (s.get SEC.FW_STAT.IMG_SVN) (s.get SEC.FW_STAT.FW_SVN) % 2 ^ SEC.FW_STAT.FW_SVN.width) ∧
  (∀ (tagOk : Bool) (kinds : List (BitVec 8)) (s : State),
    (s.get ACT.jobStep = 3 ∧ s.is SEC.lockZero = false) →
    ∃ t, exec (.calLoadDone tagOk kinds) s = .next t ∧
      (tagOk = true → t.is SEC.CAL_STAT.LOADED = true ∧ t.is SEC.CAL_STAT.ZEROING = false ∧ t.get ACT.jobStep = 1 ∧ ∀ k < 255, t.get SEC.calKind 0 (k + 1) = (kinds.getD (k + 1) 0).toNat % 2 ^ SEC.calKind.width) ∧
      (tagOk = false → t.is SEC.CAL_STAT.LOADED = false))

/-- Role and debug sessions, boot, the TAP and debug access (R384, R385, R386, R388, R389, R394, R395, R396, R397, R398, R399, R400). -/
def Obligations.SessionsBootAndTheDebugPort : Prop :=
  (∀ (debug : Bool) (role : BitVec 3) (level : BitVec 2) (s : State),
    (s.pdOn 2 = true) →
    ∃ t, exec (.authChallenge debug role level) s = .next t ∧
      (role.toNat < 1 ∨ 4 < role.toNat → t.get SEC.AUTH_STAT.RESULT = 7 ∧ t.is SEC.chalOn (ofBool debug) = s.is SEC.chalOn (ofBool debug)) ∧
      (debug = false → 1 ≤ role.toNat → role.toNat ≤ 4 → s.authBar false role.toNat 0 = none → t.get SEC.AUTH_STAT.RESULT = 0 ∧ t.is SEC.chalOn 0 = true ∧ t.get SEC.chalRole 0 = role.toNat) ∧
      (∀ r ∈ s.authBar debug role.toNat (if debug then level.toNat else 0), debug = false → 1 ≤ role.toNat → role.toNat ≤ 4 → t.get SEC.AUTH_STAT.RESULT = r)) ∧
  (∀ (debug good : Bool) (s : State),
    (s.is SEC.AUTH_STAT.LOCK_LEFT = false) →
    (s.pdOn 2 = true) →
    ∃ t, exec (.authVerify debug good) s = .next t ∧
      t.is SEC.chalOn (ofBool debug) = false ∧
      (s.is SEC.chalOn (ofBool debug) = false → t.get SEC.AUTH_STAT.RESULT = 5 ∧ t.get SEC.AUTH_STAT.FAILS = min (s.get SEC.AUTH_STAT.FAILS + 1) (2 ^ SEC.AUTH_STAT.FAILS.width - 1)) ∧
      (debug = false → good = true → s.is SEC.chalOn 0 = true → s.now ≤ s.get SEC.chalT 0 + 24000000000 → s.authBar false (s.get SEC.chalRole 0) (s.get SEC.chalLvl 0) = none → t.get SEC.AUTH_STAT.RESULT = 0 ∧ t.get SEC.hostRole = s.get SEC.chalRole 0 ∧ t.get SEC.AUTH_STAT.FAILS = 0) ∧
      (debug = false → good = false → s.is SEC.chalOn 0 = true → s.now ≤ s.get SEC.chalT 0 + 24000000000 → s.authBar false (s.get SEC.chalRole 0) (s.get SEC.chalLvl 0) = none → t.get SEC.AUTH_STAT.RESULT = 1 ∧ t.get SEC.hostRole = s.get SEC.hostRole)) ∧
  (∀ (debug : Bool) (s : State),
    (s.pdOn 2 = true) →
    ∃ t, exec (.authClose debug) s = .next t ∧
      (debug = false → t.is SEC.hostRole = false ∧ t.get SEC.ROLE.ROLE = 5) ∧
      (debug = true → t.is SEC.DBG_STAT.OPEN = false)) ∧
  (∀ (s : State),
    ∃ t, exec (.roleTmo) s = .next t ∧
      (s.is SEC.ROLE.OPEN = true → s.get SEC.idleT + 400000000 * s.get SEC.ROLE_CFG.ROLE_TMO ≤ s.now → t.is SEC.hostRole = false ∧ t.is SEC.ROLE.OPEN = false) ∧
      (s.is SEC.ROLE.OPEN = false ∨ s.now < s.get SEC.idleT + 400000000 * s.get SEC.ROLE_CFG.ROLE_TMO → t = s)) ∧
  (∀ (s : State),
    ∃ t, exec (.authLockoutEnd) s = .next t ∧
      (s.pdOn 2 = true → s.lockLeft = 0 → t.get SEC.AUTH_STAT.LOCK_LEFT = 0) ∧
      (s.pdOn 2 = false ∨ s.lockLeft ≠ 0 → t = s)) ∧
  (∀ (s : State),
    (s.is SEC.lockZero = true) →
    ∃ t, exec (.zeroingDone) s = .next t ∧
      t.is SEC.lockZero = false ∧ t.is SEC.heldRead = false ∧
      (s.is SEC.heldRead = true → t.out = s.out ++ [.readData 0])) ∧
  (∀ (inForce pending : Fin 5) (s : State),
    (s.get SYS.rstPhase = 0 ∧ s.is SYS.fwRun = false ∧ s.is SYS.lowState = false ∧ s.getBit SYS.stepped 2 = true ∧ s.getBit SYS.RST_STAT.PD_FAIL 1 = false) →
    ∃ t, exec (.bootRom inForce pending) s = .next t ∧
      (s.slotReason (s.get SEC.fwSlot) inForce = 0 → s.is SEC.fwPend = false → t.is SYS.fwRun = true ∧ t.get SEC.FW_STAT.SLOT = s.get SEC.fwSlot ∧ t.get SEC.FW_STAT.IMG_SVN = s.get SEC.slotSvn (s.get SEC.fwSlot)) ∧
      (s.slotReason (s.get SEC.fwSlot) inForce ≠ 0 → s.is SEC.fwPend = false → t.is SEC.FW_STAT.BOOT_FAIL = true ∧ t.is SYS.fwRun = false) ∧
      (s.is SEC.fwPend = true → s.get SYS.rstLvl ≠ 2 → s.slotReason (1 - s.get SEC.fwSlot) pending = 0 → t.is SYS.fwRun = true ∧ t.get SEC.FW_STAT.SLOT = 1 - s.get SEC.fwSlot ∧ t.is SEC.fwPend = false)) ∧
  (∀ (s : State),
    ∃ t, exec (.tapIdcode) s = .next t ∧
      (s.tapOn = true → t = s.set SEC.tapIr 0)) ∧
  (∀ (s : State),
    ∃ t, exec (.tapBypass) s = .next t ∧
      (s.tapOn = true → t = s.set SEC.tapIr 1)) ∧
  (∀ (s : State),
    ∃ t, exec (.dapSelect) s = .next t ∧
      (s.tapOn = true → t = s.set SEC.tapIr 4)) ∧
  (∀ (s : State),
    ∃ t, exec (.tapSamplePreload) s = .next t ∧
      (s.tapOn = true → t.get SEC.tapIr = if t.is SEC.DBG_STAT.VDC_OK && !s.is SYS.lowState then 2 else 1)) ∧
  (∀ (s : State),
    ∃ t, exec (.tapExtest) s = .next t ∧
      (s.tapOn = true → t.get SEC.tapIr = if t.is SEC.DBG_STAT.VDC_OK && !s.is SYS.lowState then 3 else 1)) ∧
  (∀ (s : State),
    ∃ t, exec (.dbgTrstn) s = .next t ∧
      t.is SEC.DBG_STAT.OPEN = false ∧ t.get SEC.tapIr = 0) ∧
  (∀ (s : State),
    ∃ t, exec (.dbgVrefLoss) s = .next t ∧
      t.is SEC.DBG_STAT.OPEN = false ∧ t.is SEC.DBG_STAT.VREF = false) ∧
  (∀ (s : State),
    ∃ t, exec (.dbgVrefPresent) s = .next t ∧
      t.is SEC.DBG_STAT.VREF = true ∧ t.get SEC.tapIr = 0) ∧
  (∀ (engine : Option (Fin 7)) (s : State),
    ∃ t, exec (.singleStep engine) s = .next t ∧
      (∀ k ∈ engine, s.is SEC.DBG_STAT.OPEN = true → 2 ≤ s.get SEC.DBG_STAT.LEVEL → s.is CE.STATUS.HALTED k = true → t.is CE.stepOnce k = true) ∧
      (s.is SEC.DBG_STAT.OPEN = false → t = s)) ∧
  (∀ (sp : DbgSpace) (write : Bool) (data : BitVec 32) (s : State),
    (s.dbgLevel < s.dbgNeeds sp write) →
    ∃ t, exec (.debugAccess sp write data) s = .next t ∧
      t.out = s.out ++ [.debugRefused false]) ∧
  (∀ (k : BitVec 6) (data : BitVec 32) (s : State),
    (2 ≤ s.dbgLevel ∧ k.toNat < 16) →
    ∃ t, exec (.debugAccess (.engReg 6 k) false data) s = .next t ∧
      t = s.send (.readData (s.get CE.d 6 k.toNat))) ∧
  (∀ (eng : Fin 7) (wd : BitVec 14) (data : BitVec 32) (s : State),
    (eng.val < 6 ∧ 2 ≤ s.dbgLevel ∧ s.is SEC.CAL_STAT.TBL_LOCK = false) →
    ∃ t, exec (.debugAccess (.localData eng wd) false data) s = .next t ∧
      (s.is ACT.chEn 0 = false → s.is ACT.chEn 1 = false → s.is ACT.chEn 7 = false → t.is SEC.CAL_STAT.TBL_LOCK = true ∧ t.is SEC.heldRead = true ∧ t.out = s.out) ∧
      (s.is ACT.chEn 0 = true ∨ s.is ACT.chEn 1 = true ∨ s.is ACT.chEn 7 = true → t = s.send (.debugRefused true))) ∧
  (∀ (addr : BitVec 26) (data : BitVec 32) (s : State),
    (2 ≤ s.dbgLevel ∧ addr.toNat < 0x01300000) →
    ∃ t, exec (.debugAccess (.bar0 addr) true data) s = .next t ∧
      t = ((s.set SEC.viaDbg 1).barWrite (addr.toNat - addr.toNat % 4) data.toNat).set SEC.viaDbg 0)

/-- Supplies, power states and domains (R404, R405, R406, R410, R412, R413, R415, R416, R418, R419, R421, R425). -/
def Obligations.PowerStatesAndDomainsTakeEffect : Prop :=
  (∀ (d : Desc) (s : State),
    (s.running 0 6 = some d) →
    ∃ t, exec (.ringPower) s = .next t ∧
      (∀ st ∈ s.powerCheck (d.byte 0), s.Completes t 0 d st 0 ∧ t.get SYS.PWR_STAT.RESULT = st.code ∧ t.get SYS.PWR_STAT.STATE = s.get SYS.PWR_STAT.STATE) ∧
      (s.powerCheck (d.byte 0) = none → d.byte 0 = 1 → t.get SYS.PWR_STAT.STATE = 1 ∧ t.get SYS.parkT = s.now % 2 ^ SYS.parkT.width ∧ t.desc 0 = some d) ∧
      (s.powerCheck (d.byte 0) = none → d.byte 0 = 2 → t.get SYS.lowState = 1 ∧ t.getBit SYS.PWR_STAT.PD_ON 2 = false)) ∧
  (∀ (target : BitVec 2) (s : State),
    (s.pdOn 2 = true) →
    ∃ t, exec (.pwrCmd target) s = .next t ∧
      (∀ st ∈ s.powerCheck target.toNat, t.get SYS.PWR_STAT.RESULT = st.code ∧ t.get SYS.PWR_STAT.STATE = s.get SYS.PWR_STAT.STATE) ∧
      (s.get SYS.PWR_STAT.STATE = 2 → target = 0 → t.get SYS.PWR_STAT.STATE = 3 ∧ t.is SYS.PWR_CMD.GO = true) ∧
      (s.powerCheck target.toNat = none → target = 1 → t.get SYS.PWR_STAT.STATE = 1 ∧ t.is SYS.PWR_CMD.GO = true) ∧
      (s.powerCheck target.toNat = none → target = 3 → t.get SYS.lowState = 2 ∧ t.getBit SYS.PWR_STAT.PD_ON 0 = false)) ∧
  (∀ (s : State),
    (s.get SYS.PWR_STAT.STATE = 1 ∧ s.tractionOn = [] ∧ s.disRunning = false) →
    ∃ t, exec (.parkRampEnd) s = .next t ∧
      t.get SYS.PWR_STAT.STATE = 2 ∧ t.is SYS.PWR_CMD.GO = false) ∧
  (∀ (s : State),
    (s.get SYS.PWR_STAT.STATE = 3) →
    ∃ t, exec (.unparkDone) s = .next t ∧
      t.get SYS.PWR_STAT.STATE = 0 ∧ t.is SYS.PWR_CMD.GO = false) ∧
  (∀ (s : State),
    ∃ t, exec (.autoUnpark) s = .next t ∧
      (s.unparkSpeed = true → s.get SYS.PWR_STAT.STATE = 2 → t.get SYS.PWR_STAT.STATE = 3) ∧
      (s.unparkSpeed = false → t = s)) ∧
  (∀ (value : BitVec 6) (s : State),
    (s.pdOn 2 = true) →
    ∃ t, exec (.pdEn value) s = .next t ∧
      (s.is SYS.PWR_CTL.LOCK = true → t.regs = s.regs ∨ s.evWarning.length ≥ 64) ∧
      (s.is SYS.PWR_CTL.LOCK = false → s.pdEnOk value.toNat = false → t = s.set SYS.PWR_CTL.CFG_REJECT 1) ∧
      (s.is SYS.PWR_CTL.LOCK = false → s.pdEnOk value.toNat = true → t.get SYS.PWR_CTL.PD_EN = value.toNat ∧ ∀ k < 6, bit value.toNat k = false → t.getBit SYS.PWR_STAT.PD_ON (3 + k) = false)) ∧
  (∀ (pd : Fin 9) (s : State),
    (3 ≤ pd.val ∧ pd.val ≤ 6 ∧ s.get SYS.rstPhase = 1 ∧ s.getBit SYS.PWR_STAT.PD_ON 2 = true ∧ s.getBit SYS.PWR_STAT.PD_ON pd = false ∧ s.getBit SYS.PWR_CTL.PD_EN (pd - 3) = true ∧ s.getBit SYS.boMask pd = false ∧ s.getBit SYS.RST_STAT.PD_FAIL (pd - 1) = false) →
    ∃ t, exec (.domainOn pd) s = .next t ∧
      t.getBit SYS.PWR_STAT.PD_ON pd = true) ∧
  (∀ (vlv : BitVec 12) (s : State),
    ∃ t, exec (.vlvLow vlv) s = .next t ∧
      t.get SYS.SUP_STAT.VLV = vlv.toNat ∧
      (vlv.toNat < 900 → t.is SYS.SUP_STAT.VLV_LOW = true) ∧
      (900 ≤ vlv.toNat → t.is SYS.SUP_STAT.VLV_LOW = s.is SYS.SUP_STAT.VLV_LOW)) ∧
  (∀ (vlv : BitVec 12) (s : State),
    ∃ t, exec (.vlvHigh vlv) s = .next t ∧
      t.get SYS.SUP_STAT.VLV = vlv.toNat ∧
      (1600 < vlv.toNat → t.is SYS.SUP_STAT.VLV_HIGH = true) ∧
      (vlv.toNat ≤ 1600 → t.is SYS.SUP_STAT.VLV_HIGH = s.is SYS.SUP_STAT.VLV_HIGH)) ∧
  (∀ (group : Fin 3) (s : State),
    (s.is SYS.lowState = false) →
    ∃ t, exec (.brownout group) s = .next t ∧
      (group = 2 → t.get SYS.RST_CAUSE.SRC = 1 ∧ t.get SYS.RST_CAUSE.LEVEL = 0 ∧ t.now = 0) ∧
      (group = 1 → s.get SYS.PWR_STAT.PD_ON &&& 0x180 ≠ 0 → t.getBit SYS.PWR_STAT.PD_ON 7 = false ∧ t.getBit SYS.PWR_STAT.PD_ON 8 = false ∧ t.get SYS.SUP_CNT.BO_LAST = (s.get SYS.PWR_STAT.PD_ON &&& 0x180))) ∧
  (∀ (group : Fin 3) (s : State),
    (group.val ≠ 1 ∧ s.get SYS.rstPhase = 3 ∧ s.get SYS.boMask = 0x7C ∧ s.is SYS.rstnLow = false ∧ s.is SYS.lowState = false) →
    ∃ t, exec (.brownoutRecover group) s = .next t ∧
      (group = 0 → t.get SYS.boMask = 0 ∧ t.get SYS.rstPhase = 0 ∧ t.get SYS.startT = s.now % 2 ^ SYS.startT.width)) ∧
  (∀ (s : State),
    ∃ t, exec (.wakePin) s = .next t ∧
      (s.get SYS.lowState = 1 → t.get SYS.lowState = 0 ∧ t.get SYS.WAKE_STAT.CAUSE = 2) ∧
      (s.get SYS.lowState = 2 → s.get SYS.boMask = 0 → t.get SYS.lowState = 0 ∧ t.get SYS.WAKE_STAT.CAUSE = 1) ∧
      (s.get SYS.lowState = 0 → t = s)) ∧
  (∀ (s : State),
    ∃ t, exec (.wakeAlarm) s = .next t ∧
      (s.get SYS.lowState = 1 → s.is SYS.WAKE_CFG.ALARM = true → s.get SYS.lowT + 400000000 * s.get SYS.WAKE_CFG.ALARM ≤ s.now → t.get SYS.lowState = 0 ∧ t.get SYS.WAKE_STAT.CAUSE = 3) ∧
      (s.is SYS.WAKE_CFG.ALARM = false ∨ s.now < s.get SYS.lowT + 400000000 * s.get SYS.WAKE_CFG.ALARM → t = s)) ∧
  (∀ (s : State),
    (s.is SYS.lowState = false) →
    ∃ t, exec (.pwrWakeLow) s = .next t ∧
      (t.regs = s.regs ∨ s.evInfo.length ≥ 64) ∧
      (s.evInfo.length < 64 → t.evInfo.length = s.evInfo.length + 1)) ∧
  (∀ (s : State),
    (s.is DLI.powered = false) →
    ∃ t, exec (.dliPowerOn) s = .next t ∧
      t.is DLI.powered = true ∧ t.get DLI.OV_CFG.OV_HW = 950 ∧ t.getBit SYS.PWR_STAT.PD_ON 9 = true)

/-- Clock monitors, device time, cairns and synchronization (R426, R427, R428, R429, R431, R432, R433, R434, R435, R436, R437, R438). -/
def Obligations.ClocksTimeAndCairnsTakeEffect : Prop :=
  (∀ (s : State),
    (s.pdOn 2 = true) →
    ∃ t, exec (.timeLoRead) s = .next t ∧
      t.get SYS.TIME.TIME 0 = s.now % 2 ^ 32 ∧ t.get SYS.TIME.TIME 1 = s.now / 2 ^ 32 % 2 ^ 32 ∧ t.out = s.out ++ [.readData (s.now % 2 ^ 32)]) ∧
  (∀ (dev : Nat) (s : State),
    (s.is SYS.pllDown = false) →
    ∃ t, exec (.pllFault dev) s = .next t ∧
      t.is SYS.pllDown = true ∧ t.is SYS.CLK_STAT.PLL = true ∧ t.is SYS.CLK_STAT.COARSE = true ∧
      (∀ p < 5, t.getBit PU.tripIn 17 p = true) ∧
      (∀ a < 2, t.getBit BL.causeReq 0 a = true) ∧
      (s.get SYS.AS_STAT.STATE ≠ 0 → t.get SYS.AS_STAT.STATE = 3)) ∧
  (∀ (s : State),
    (s.is SYS.pllDown = true) →
    ∃ t, exec (.pllLock) s = .next t ∧
      (s.is SYS.xtalBad = false → t.is SYS.pllDown = false ∧ t.is SYS.CLK_STAT.COARSE = false) ∧
      (s.is SYS.xtalBad = false → ∀ p < 5, t.is PU.TRIP_STAT.TRIPPED (s.tripUnit p) = true) ∧
      (s.is SYS.xtalBad = true → t = s)) ∧
  (∀ (clk : Fin 8) (inst : Fin 12) (dev : Nat) (s : State),
    ∃ t, exec (.clkFault clk inst dev) s = .next t ∧
      (clk.val = 0 → t.is SYS.xtalBad = true ∧ t.is SYS.pllDown = true) ∧
      (clk.val = 1 → t.descs = [] ∧ t.is RING.linkUp = false) ∧
      (clk.val = 2 → t.is ETH.PSTAT.LINK 0 = false) ∧
      (clk.val = 3 → t.is ETH.PSTAT.LINK 1 = false) ∧
      (clk.val = 4 → ∀ c < 4, t.is CAN.CTL.INIT c = true ∧ (s.get CAN.STATUS.STATE c < 4 → t.get CAN.STATUS.STATE c = 0)) ∧
      (clk.val = 5 → t.is BL.STATUS.SSOUT = false)) ∧
  (∀ (s : State),
    ∃ t, exec (.clkAmbig) s = .next t ∧
      t.is SYS.CLK_STAT.AMBIG = true) ∧
  (∀ (s : State),
    (s.pdOn 2 = true) →
    ∃ t, exec (.cairnGo) s = .next t ∧
      (s.is SYS.pllDown = true → t.is SYS.CAIRN_STAT.REFUSED = true ∧ t.snaps = s.snaps) ∧
      (s.is SYS.pllDown = false → s.is SYS.cairnWait = false → s.get SYS.cairnT + 80 ≤ s.now → t.get SYS.CAIRN_STAT.NUM = (s.get SYS.CAIRN_STAT.NUM + 1) % 2 ^ SYS.CAIRN_STAT.NUM.width ∧ (t.snaps.getLast?.map (·.time)) = some s.now) ∧
      (s.is SYS.pllDown = false → s.is SYS.cairnOn = true → s.now < s.get SYS.cairnT + 80 → t.get SYS.CAIRN_STAT.NUM = s.get SYS.CAIRN_STAT.NUM ∧ t.is SYS.CAIRN_STAT.QUEUED = true ∧ t.is SYS.cairnWait = true)) ∧
  (∀ (s : State),
    (s.pdOn 2 = true) →
    ∃ t, exec (.cairnArm) s = .next t ∧
      t.is SYS.CAIRN_CMD.ARM = true) ∧
  (∀ (s : State),
    ∃ t, exec (.cairnAt) s = .next t ∧
      (s.is SYS.CAIRN_CMD.ARM = true → s.get SYS.CAIRN_AT.AT 0 + 2 ^ 32 * s.get SYS.CAIRN_AT.AT 1 ≤ s.now → t.is SYS.CAIRN_CMD.ARM = false ∧ t.is SYS.cairnDone = true) ∧
      (s.is SYS.CAIRN_CMD.ARM = false ∨ s.now < s.get SYS.CAIRN_AT.AT 0 + 2 ^ 32 * s.get SYS.CAIRN_AT.AT 1 → t = s)) ∧
  (∀ (s : State),
    (s.is SYS.cairnWait = true ∧ s.get SYS.cairnT + 80 ≤ s.now) →
    ∃ t, exec (.cairnQueued) s = .next t ∧
      t.get SYS.CAIRN_STAT.NUM = (s.get SYS.CAIRN_STAT.NUM + 1) % 2 ^ SYS.CAIRN_STAT.NUM.width ∧ t.get SYS.cairnWait = s.get SYS.cairnWait - 1) ∧
  (∀ (eng : Fin 16) (s : State),
    ∃ t, exec (.engineBarrier eng) s = .next t ∧
      ((∀ k < 16, k = eng.val ∨ s.getBit SYS.barrier k = true) → t.get SYS.barrier = 0 ∧ t.get SYS.barrierAt = (s.now + 24) % 2 ^ SYS.barrierAt.width) ∧
      ((∃ k < 16, k ≠ eng.val ∧ s.getBit SYS.barrier k = false) → t.getBit SYS.barrier eng = true)) ∧
  (∀ (sel : BitVec 4) (s : State),
    (s.pitAllowed = true ∧ sel = 1) →
    (s.pdOn 2 = true) →
    ∃ t, exec (.sysPitArm sel) s = .next t ∧
      t.is SYS.CLK_STAT.PLL = true ∧ t.is BL.PIT_STAT.ARMED = false ∧
      (∀ a < 2, t.getBit BL.causeReq 0 a = true)) ∧
  (∀ (offset : Int) (s : State),
    ∃ t, exec (.syncRx offset) s = .next t ∧
      (s.takesSync = false → t = s) ∧
      (s.takesSync = true → s.get SYS.AS_STAT.STATE = 2 → t.now = s.now ∧ t.get SYS.AS_STAT.STATE = 2) ∧
      (s.takesSync = true → s.get SYS.AS_STAT.STATE ≠ 1 → s.get SYS.AS_STAT.STATE ≠ 2 → t.get SYS.AS_STAT.STATE = 1) ∧
      (s.takesSync = true → s.get SYS.AS_STAT.STATE = 1 → s.anyEnabled = false → s.get ACT.job ≠ 4 → 1000 * s.get SYS.AS_CTL.STEP_TH < 25 * offset.natAbs → t.now = ((s.now : Int) + offset).toNat)) ∧
  (∀ (s : State),
    ∃ t, exec (.asLocked) s = .next t ∧
      (s.get SYS.AS_STAT.STATE = 1 → 8 ≤ s.get SYS.asN → t.get SYS.AS_STAT.STATE = 2) ∧
      (s.get SYS.asN < 8 → t = s)) ∧
  (∀ (s : State),
    ∃ t, exec (.asHoldover) s = .next t ∧
      (s.get SYS.AS_STAT.STATE = 1 ∨ s.get SYS.AS_STAT.STATE = 2 → s.get SYS.asT + 40000000 * s.get SYS.AS_STAT.SYNC_TMO ≤ s.now → t.get SYS.AS_STAT.STATE = 3 ∧ t.get SYS.asN = 0) ∧
      (s.now < s.get SYS.asT + 40000000 * s.get SYS.AS_STAT.SYNC_TMO → t = s))

/-- Snapshots, performance counters and sample records (R262, R272, R434, R470, R471, R472, R473, R475). -/
def Obligations.SnapshotsCountersAndSamples : Prop :=
  (∀ (d : Desc) (s : State),
    (s.running 0 1 = some d) →
    ∃ t, exec (.ringSnapshot) s = .next t ∧
      (16 < d.byte 0 ∨ (1 ≤ d.byte 0 ∧ d.byte 2 + 256 * d.byte 3 < 10) → s.Completes t 0 d .range 0) ∧
      (s.is SYS.pllDown = true → 1 ≤ d.byte 0 → d.byte 0 ≤ 16 → 10 ≤ d.byte 2 + 256 * d.byte 3 → s.Completes t 0 d .state 0) ∧
      (s.is SYS.pllDown = false → d.byte 0 = 1 → 10 ≤ d.byte 2 + 256 * d.byte 3 → s.Completes t 0 d .ok ((s.get SYS.CAIRN_STAT.NUM + s.get SYS.cairnWait + 1) % 65536)) ∧
      (s.is SYS.pllDown = false → 2 ≤ d.byte 0 → d.byte 0 ≤ 16 → 10 ≤ d.byte 2 + 256 * d.byte 3 → t.get RING.snapLeft = d.byte 0 - 1 ∧ t.desc 0 = some d)) ∧
  (∀ (d : Desc) (s : State),
    (s.is RING.snapLeft = true ∧ s.running 0 1 = some d) →
    ∃ t, exec (.snapshotNext) s = .next t ∧
      (s.now < s.get RING.snapAt → t = s) ∧
      (s.get RING.snapAt ≤ s.now → s.get RING.snapLeft = 1 → s.Completes t 0 d .ok (s.get RING.snapNum)) ∧
      (s.get RING.snapAt ≤ s.now → 1 < s.get RING.snapLeft → t.get RING.snapLeft = s.get RING.snapLeft - 1 ∧ t.desc 0 = some d)) ∧
  (∀ (d : Desc) (s : State),
    (s.running 23 1 = some d) →
    ∃ t, exec (.snapshotRead) s = .next t ∧
      (d.len.toNat % 512 ≠ 0 → s.Completes t 23 d .range 0) ∧
      (d.len.toNat % 512 = 0 → s.Completes t 23 d .ok (512 * ((s.snaps.dropWhile (·.num != d.w2.toNat % 65536)).take (d.len.toNat / 512)).length))) ∧
  (∀ (n : Fin 32) (pc : BitVec 32) (s : State),
    (s.is PERF.CTL.EN = true ∧ s.is PERF.stopped = false ∧ s.is PERF.CNT_SEL.CEN n = true ∧ s.perfValue n = 2 ^ 48 - 1) →
    ∃ t, exec (.perfOvf n pc) s = .next t ∧
      t.getBit PERF.OVF.OVF n = true ∧ t.perfValue n = 0 ∧
      (s.getBit PERF.INT_EN.INT n = true → Msg.interrupt n 0x1C ∈ t.out)) ∧
  (∀ (core : Fin 2) (idle : Bool) (record : List Byte) (s : State),
    (s.is PERF.SMP_CFG.SMP_EN = true ∧ s.getBit PERF.SMP_CFG.CORE core = true) →
    ∃ t, exec (.sampleRecord core idle record) s = .next t ∧
      (idle = false → t = s.incSat PERF.SMP_STAT.SMP_DROP) ∧
      (idle = true → t.get PERF.SMP_STAT.SMP_WR = (s.get PERF.SMP_STAT.SMP_WR + 1) % (2 ^ s.get PERF.SMP_BASE.SMP_SIZE * 32) % 2 ^ PERF.SMP_STAT.SMP_WR.width) ∧
      (idle = true → ∀ j < 32, t.memGet ((s.get PERF.SMP_BASE.BASE * 4096 + 32 * (s.get PERF.SMP_STAT.SMP_WR % (2 ^ s.get PERF.SMP_BASE.SMP_SIZE * 32)) + j) % 2 ^ 22) = record.getD j 0)) ∧
  (∀ (n : Fin 32) (s : State),
    (s.pdOn 2 = true) →
    ∃ t, exec (.cntLoRead n) s = .next t ∧
      (s.is PERF.CTL.EN = false → t.get PERF.CNT_HI.CNT n = s.get PERF.cntHi n % 2 ^ PERF.CNT_HI.CNT.width ∧ t.out = s.out ++ [.readData (s.get PERF.CNT_LO.CNT n)]))

/-- Reset sources: commands, watchdogs, the pre-reset stage and block resets (R439, R441, R442, R443, R444, R446, R451, R453, R454, R455, R456, R262). -/
def Obligations.ResetSourcesStagesAndBlockResets : Prop :=
  (∀ (s : State),
    ∃ t, exec (.powerOn) s = .next t ∧
      t.get SYS.RST_CAUSE.SRC = 0 ∧ t.get SYS.RST_CAUSE.LEVEL = 0 ∧ t.now = 0 ∧ t.mem = [] ∧ t.descs = [] ∧ t.get SYS.lowState = 0 ∧
      ((∀ n < 32, t.ringOn n = false) ∧ ∀ c < 8, t.is ACT.chEn c = false)) ∧
  (∀ (s : State),
    ∃ t, exec (.rstnAssert) s = .next t ∧
      (s.get SYS.lowState = 2 → t = s) ∧
      (s.get SYS.lowState ≠ 2 → t.get SYS.RST_CAUSE.SRC = 3 ∧ t.get SYS.RST_CAUSE.LEVEL = 0 ∧ t.get SYS.rstPhase = 3 ∧ t.is SYS.rstnLow = true)) ∧
  (∀ (s : State),
    ∃ t, exec (.rstnRelease) s = .next t ∧
      t.is SYS.rstnLow = false ∧
      (s.get SYS.rstPhase = 3 → s.get SYS.boMask = 0 → s.is SYS.lowState = false → t.get SYS.rstPhase = 0)) ∧
  (∀ (level : BitVec 2) (warm : Bool) (source inst : BitVec 8) (debug : Bool) (s : State),
    (s.pdOn 2 = true) →
    ∃ t, exec (.rstCmd level warm source inst debug) s = .next t ∧
      (∀ st ∈ s.commandCheck level.toNat (if debug then 9 else 7) warm, t.get SYS.RST_STAT.RESULT = st.code ∧ t.get SYS.rstPhase = s.get SYS.rstPhase ∧ t.descs = s.descs) ∧
      (level = 1 → s.commandCheck 1 (if debug then 9 else 7) warm = none → s.get SYS.rstPhase = 1 → t.get SYS.rstPhase = 2 ∧ t.get SYS.rstLvl = 1 ∧ t.is SYS.RST_STAT.BUSY = true ∧ ∀ a < 2, t.getBit BL.causeReq 13 a = true) ∧
      (level = 3 → s.commandCheck 3 (if debug then 9 else 7) warm = none → s.blkCheck source.toNat inst.toNat = .ok → s.is SYS.blkOn = false → t.is SYS.blkOn = true ∧ t.get SYS.RST_STAT.BLK_SRC = source.toNat ∧ t.get SYS.RST_STAT.BLK_INST = inst.toNat % 2 ^ SYS.RST_STAT.BLK_INST.width)) ∧
  (∀ (d : Desc) (s : State),
    (s.running 0 7 = some d) →
    ∃ t, exec (.ringReset) s = .next t ∧
      (∀ st ∈ s.commandCheck (d.byte 0) 7 (d.byte 3 % 2 == 1), s.Completes t 0 d st 0 ∧ t.get SYS.rstPhase = s.get SYS.rstPhase) ∧
      (d.byte 0 = 1 → s.commandCheck 1 7 (d.byte 3 % 2 == 1) = none → s.get SYS.rstPhase = 1 → s.Completes t 0 d .ok 0 ∧ t.get SYS.rstPhase = 2)) ∧
  (∀ (a : Nat) (s : State),
    (s.command true 7 = some a) →
    ∃ t, exec (.netReset) s = .next t ∧
      t.is BL.netBusy = false ∧
      (a % 256 = 1 → s.commandCheck 1 8 false = none → s.get SYS.rstPhase = 1 → t.get SYS.rstPhase = 2 ∧ t.get SYS.rstSrc = 8)) ∧
  (∀ (s : State),
    ∃ t, exec (.preResetEnd) s = .next t ∧
      (s.get SYS.rstPhase = 2 → s.get SYS.stageEnd ≤ s.now → t.get SYS.RST_CAUSE.SRC = s.get SYS.rstSrc ∧ t.get SYS.RST_CAUSE.LEVEL = s.get SYS.rstLvl ∧ t.descs = [] ∧ t.canTx = [] ∧ ∀ c < 8, t.is ACT.chEn c = false) ∧
      (s.get SYS.rstPhase ≠ 2 ∨ s.now < s.get SYS.stageEnd → t = s)) ∧
  (∀ (s : State),
    ∃ t, exec (.blkReset) s = .next t ∧
      (s.is SYS.blkOn = true → t.is SYS.blkOn = false ∧ t.get SYS.RST_CAUSE.LEVEL = 3 ∧ t.get SYS.RST_CAUSE.SRC = s.get SYS.blkBy ∧ t.is SYS.RST_CAUSE.UNCLEAN = false) ∧
      (s.is SYS.blkOn = false → t = s)) ∧
  (∀ (s : State),
    s.get SYS.blkT + 400 * s.get SYS.RST_CTL.BLK_TMO ≤ s.now →
    ∃ t, exec (.blkTimeout) s = .next t ∧
      (s.is SYS.blkOn = true → t.is SYS.RST_CAUSE.UNCLEAN = true ∧ t.is SYS.RST_STAT.UNCLEAN = true ∧ t.get SYS.RST_CAUSE.LEVEL = 3) ∧
      (s.is SYS.blkOn = false → t = s)) ∧
  (∀ (core : Fin 2) (key : BitVec 16) (s : State),
    (s.pdOn 2 = true) →
    ∃ t, exec (.wdKick core key) s = .next t ∧
      (key = 0x5A5A → s.get SYS.wdSeq core = 0 → t.get SYS.wdSeq core = 1) ∧
      (key = 0xA5A5 → s.get SYS.wdSeq core = 1 → t.get SYS.wdSeq core = 0) ∧
      (key ≠ 0x5A5A → key ≠ 0xA5A5 → s.is SEC.DBG_STAT.HALT = false → s.get SYS.rstPhase = 1 → s.get SYS.RST_MAP.WD_HC = 1 → t.get SYS.rstPhase = 2 ∧ t.get SYS.rstSrc = 4)) ∧
  (∀ (core : Fin 2) (s : State),
    (s.is SEC.DBG_STAT.HALT = false ∧ s.is SYS.fwRun = true ∧ s.get SYS.rstPhase = 1 ∧ s.get SYS.RST_MAP.WD_HC ∈ [1, 2] ∧
      s.get SYS.wdT core + 400000 * s.get SYS.WD_CFG.WD_TMO ≤ s.now) →
    ∃ t, exec (.hcWatchdog core) s = .next t ∧
      t.get SYS.rstPhase = 2 ∧ t.get SYS.rstSrc = 4 ∧ t.get SYS.rstLvl = s.get SYS.RST_MAP.WD_HC ∧ t.get SYS.RST_CNT.WD_CNT = min (s.get SYS.RST_CNT.WD_CNT + 1) 255) ∧
  (∀ (engine : Fin 7) (stopped : Bool) (s : State),
    ((if stopped then s.is CE.stop engine && decide (s.get CE.stopT engine + 400000 ≤ s.now) else decide (s.get SYS.WD_CFG.WD_ENG ≤ s.get CE.ovRun engine)) = true ∧ s.is SEC.DBG_STAT.HALT = false ∧ (engine.val < 4 → s.is CE.RP_STAT.RP_FAULT (2 * (engine / 2)) = false) ∧ s.get SYS.rstPhase = 1) →
    ∃ t, exec (.engineWatchdog engine stopped) s = .next t ∧
      (s.get SYS.RST_MAP.WD_ENG ∈ [1, 2] → t.get SYS.rstPhase = 2 ∧ t.get SYS.rstSrc = 5) ∧
      (s.get SYS.RST_MAP.WD_ENG = 3 → engine.val < 4 → s.is SYS.blkOn = false → t.is SYS.blkOn = true ∧ t.get SYS.RST_STAT.BLK_SRC = 0x15)) ∧
  (∀ (bind : Option (Fin 8)) (s : State),
    (s.get SYS.rstPhase = 1 ∧ s.get SYS.RST_MAP.BELAY ∈ [1, 2]) →
    ∃ t, exec (.blRst bind) s = .next t ∧
      (bind = none → s.is BL.STATUS.CI_LOST = true → s.get BL.ciT + 400000 * s.get SYS.RST_CTL.BL_RST_MS ≤ s.now → t.get SYS.rstPhase = 2 ∧ t.get SYS.rstSrc = 6) ∧
      (∀ ch ∈ bind, 3 ≤ s.get ACT.bindRun ch → t.get SYS.rstPhase = 2 ∧ t.get SYS.rstSrc = 6))

/-- Start-up: the trim load, the domains' steps, the Belay island's start, READY (R299, R409, R413, R447, R449, R450, R451, R452, R453, R465, R469). -/
def Obligations.StartUpStepsAndBelayStart : Prop :=
  (∀ (copyA copyB whole : Bool) (s : State),
    (s.get SYS.rstPhase = 0 ∧ s.get SYS.rstLvl = 0 ∧ s.is SYS.trimOk = false ∧ s.is SYS.lowState = false) →
    ∃ t, exec (.trimLoad copyA copyB whole) s = .next t ∧
      (whole = true → copyA = true ∨ copyB = true → t.is SYS.trimOk = true ∧ t.is SYS.TRIM_STAT.TRIM_FAIL = false ∧ t.is SYS.TRIM_STAT.COPY = !copyA ∧ t.get SYS.TRIM_STAT.CRC_FAIL = (if copyA then 0 else 1) ∧ t.is SYS.bootMark = false) ∧
      (whole = true → copyA = false → copyB = false → t.is SYS.TRIM_STAT.TRIM_FAIL = true ∧ t.get SYS.TRIM_STAT.CRC_FAIL = 3 ∧ t.get SYS.rstPhase = 4) ∧
      (whole = false → t.is SYS.bootMark = true ∧ t.is SYS.trimOk = false)) ∧
  (∀ (pd : Fin 9) (pass : Bool) (misr : BitVec 64) (islands : BitVec 6) (s : State),
    (s.get SYS.rstPhase = 0 ∧ s.is SYS.lowState = false ∧ s.getBit SYS.boMask pd = false ∧ s.stepNext pd = true ∧ s.is SYS.trimOk = true ∧ (2 < pd.val → s.is SYS.fwRun = true) ∧ (2 ≤ pd.val → s.is SYS.pllDown = false)) →
    ∃ t, exec (.domainStep pd pass misr islands) s = .next t ∧
      (pass = true → t.getBit SYS.PWR_STAT.PD_ON pd = true ∧ t.getBit SYS.stepped pd = true) ∧
      (pass = false → 1 ≤ pd.val → s.get SYS.bistTry pd = 0 → t.get SYS.RST_CAUSE.SRC = 10 ∧ t.get SYS.bistTry pd = 1) ∧
      (pass = false → 1 ≤ pd.val → s.get SYS.bistTry pd ≠ 0 → t.getBit SYS.RST_STAT.PD_FAIL (pd - 1) = true ∧ t.getBit SYS.stepped pd = true)) ∧
  (∀ (storeGood : Bool) (s : State),
    (s.getBit SYS.PWR_STAT.PD_ON 1 = true ∧ s.is BL.STATUS.CFG_VALID = false) →
    ∃ t, exec (.belayStart storeGood) s = .next t ∧
      (storeGood = true → t.is BL.STATUS.CFG_VALID = true ∧ t.is BL.STATUS.XTRIP_ACT = s.is BL.xtripPin) ∧
      (storeGood = false → t = s)) ∧
  (∀ (pass : Bool) (s : State),
    ∃ t, exec (.blSelftest pass) s = .next t ∧
      (s.is BL.STATUS.CFG_VALID = true → pass = true → t.is BL.STATUS.SELFTEST_OK = true) ∧
      (pass = false → t = s)) ∧
  (∀ (s : State),
    (s.get SYS.rstPhase = 0 ∧ s.is SYS.trimOk = true ∧ s.get SYS.stepped = s.get SYS.plan ∧ s.is SYS.fwRun = true ∧ s.is BL.STATUS.CFG_VALID = true ∧ s.is BL.STATUS.SELFTEST_OK = true ∧ s.is BL.STATUS.CI_LOST = false ∧ s.is HK.rounded = true) →
    ∃ t, exec (.startReady) s = .next t ∧
      t.is SYS.RST_STAT.READY = true ∧ t.is SYS.RST_STAT.BUSY = false ∧ t.get SYS.rstPhase = 1 ∧ t.get SYS.PWR_CTL.PD_EN = s.get SYS.plan / 8 % 2 ^ SYS.PWR_CTL.PD_EN.width)

/-- Memories: scrubbing, march tests, window aborts, BIST, and NOP (R262, R329, R458, R459, R460, R462, R463, R465, R468, R469, R476). -/
def Obligations.MemoriesScrubberMarchAndBist : Prop :=
  (∀ (flips : Fin 3) (s : State),
    (s.getBit SYS.PWR_STAT.PD_ON 2 = true ∧ s.is MEM.CTL.SCRUB_EN = true ∧ s.get MEM.scrubMem = 0 ∧ s.eccOf 0 (s.get MEM.scrubWord) = 0) →
    ∃ t, exec (.memScrub flips) s = .next t ∧
      (flips.val = 0 → t.get MEM.ECC_STAT.SEC_CNT = s.get MEM.ECC_STAT.SEC_CNT ∧ t.get MEM.ECC_STAT.DED_CNT = s.get MEM.ECC_STAT.DED_CNT) ∧
      (flips.val = 1 → t.get MEM.ECC_STAT.SEC_CNT = min (s.get MEM.ECC_STAT.SEC_CNT + 1) (2 ^ MEM.ECC_STAT.SEC_CNT.width - 1) ∧ t.eccOf 0 (s.get MEM.scrubWord) = 0) ∧
      (flips.val = 2 → t.getBit MEM.ECC_STAT.DED 0 = true ∧ t.get MEM.ECC_ADDR.ADDR = s.get MEM.scrubWord % 2 ^ MEM.ECC_ADDR.ADDR.width)) ∧
  (∀ (offset : BitVec 22) (s : State),
    ∃ t, exec (.winAbort offset) s = .next t ∧
      t.get MEM.ARB_STAT.WIN_ABORT = min (s.get MEM.ARB_STAT.WIN_ABORT + 1) (2 ^ MEM.ARB_STAT.WIN_ABORT.width - 1) ∧
      (s.evWarning.length < 64 → t.evWarning = s.evWarning ++ [{ time := s.now, inst := 0, source := 0x1D, code := 0x0434, arg0 := offset.toNat, arg1 := 0 }])) ∧
  (∀ (target : BitVec 6) (destr repair : Bool) (s : State),
    (s.is MEM.MARCH_STAT.BUSY = false) →
    (s.pdOn 2 = true) →
    ∃ t, exec (.marchStart target destr repair) s = .next t ∧
      (destr = false ∨ s.marchBars target.toNat = false → t.is MEM.MARCH_STAT.BUSY = true ∧ t.get MEM.MARCH_CMD.TARGET = target.toNat ∧ t.get MEM.MARCH_STAT.FAIL_CNT = 0) ∧
      (destr = true → s.marchBars target.toNat = true → t.get MEM.MARCH_STAT.RESULT = 3 ∧ t.is MEM.CTL.CFG_REJECT = true ∧ t.is MEM.MARCH_STAT.BUSY = false)) ∧
  (∀ (boot : Bool) (fails : BitVec 16) (mem : Fin 6) (addr : BitVec 19) (pos : Fin 72) (left spent : BitVec 6) (rows cols : BitVec 8) (s : State),
    (boot = false ∧ s.is MEM.MARCH_STAT.BUSY = true) →
    ∃ t, exec (.marchDone boot fails mem addr pos left spent rows cols) s = .next t ∧
      (t.is MEM.MARCH_STAT.BUSY = false ∧ t.is MEM.MARCH_CMD.GO = false ∧ t.get MEM.MARCH_STAT.FAIL_CNT = fails.toNat ∧ t.get MEM.MARCH_STAT.RESULT = if fails = 0 then 1 else 2) ∧
      (fails ≠ 0 → t.get MEM.MARCH_FAIL.MEM = mem ∧ t.get MEM.MARCH_FAIL.ADDR = addr.toNat ∧ t.get MEM.MARCH_FAIL.BIT = pos) ∧
      (s.is MEM.MARCH_CMD.DESTR = true → bit (s.get MEM.MARCH_CMD.TARGET) 0 = true → t.mem = [])) ∧
  (∀ (domain : BitVec 4) (s : State),
    (s.pdOn 2 = true) →
    ∃ t, exec (.bistStart domain) s = .next t ∧
      (domain.toNat < 3 ∨ 8 < domain.toNat → t = s.set BIST.CTL.CFG_REJECT 1) ∧
      (3 ≤ domain.toNat → domain.toNat ≤ 8 → s.bistBars domain.toNat = true → t.get BIST.STAT.RESULT = 3 ∧ t.is BIST.CTL.CFG_REJECT = true ∧ t.is BIST.STAT.BUSY = s.is BIST.STAT.BUSY) ∧
      (3 ≤ domain.toNat → domain.toNat ≤ 8 → s.bistBars domain.toNat = false → t.is BIST.STAT.BUSY = true ∧ t.get BIST.CMD.DOMAIN = domain.toNat)) ∧
  (∀ (pass : Bool) (misr : BitVec 64) (islands : BitVec 6) (s : State),
    (s.is BIST.STAT.BUSY = true) →
    ∃ t, exec (.bistDone pass misr islands) s = .next t ∧
      (pass = true → (∀ p ∈ s.saveBad (s.get BIST.CMD.DOMAIN), p.2 < 2) → t.is BIST.STAT.BUSY = false ∧ t.get BIST.STAT.RESULT = 1 ∧ t.getBit BIST.STAT.PASS (s.get BIST.CMD.DOMAIN - 1) = (decide (s.get BIST.CMD.DOMAIN - 1 < BIST.STAT.PASS.width))) ∧
      ((pass = false ∨ ∃ p ∈ s.saveBad (s.get BIST.CMD.DOMAIN), 2 ≤ p.2) → s.get SYS.rstPhase = 1 → s.get SYS.RST_MAP.BIST = 1 →
        t.get SYS.RST_CAUSE.SRC = 10 ∧ t.get SYS.RST_CAUSE.LEVEL = 1)) ∧
  (∀ (addr : BitVec 19) (sel : BitVec 4) (s : State),
    (s.pitAllowed = true ∧ 1 ≤ sel.toNat ∧ sel.toNat ≤ 2) →
    (s.pdOn 2 = true) →
    ∃ t, exec (.memPitArm addr sel) s = .next t ∧
      t.is MEM.PIT_CTL.ARM = true ∧ t.get MEM.PIT_CTL.ADDR = addr.toNat ∧ t.get BL.PIT_STAT.SOURCE = 0x1D) ∧
  (∀ (d : Desc) (s : State),
    (s.running 0 0 = some d) →
    ∃ t, exec (.ringNop) s = .next t ∧
      s.Completes t 0 d .ok s.now)

/-- Frame of the ring, register, Ridge and mailbox commands: nothing changes but what each command's lists name (R3, R36, R250, R251, R256, R257, R261, R306, R312, R315, R326). -/
def Obligations.HostLinkAndRegisterFrames : Prop :=
  (∀ (c : Instr) (rs : List Row) (fs : List Rec) (s t : State), Touch.host c = some (rs, fs) → exec c s = .next t →
    State.RowsKept rs s t ∧ (∀ f, f ∉ fs → f.Kept s t) ∧ t.pending = s.pending) ∧
  (∀ (addr : BitVec 26) (data : BitVec 32) (s t : State) (r : Row) (i j : Nat), exec (.regWrite addr data) s = .next t →
    r.key i j / 32 ≠ addr.toNat - addr.toNat % 4 →
    (∀ q ∈ Touch.writeEffects addr.toNat, ∀ a < q.c1, ∀ b < q.c2, r.key i j ≠ q.key a b) → t.get r i j = s.get r i j) ∧
  (∀ (addr : BitVec 26) (write : Bool) (data : BitVec 32) (s t : State) (x : Nat),
    exec (.debugAccess (.bar0 addr) write data) s = .next t →
    (x < addr.toNat - addr.toNat % 4 ∨ addr.toNat - addr.toNat % 4 + 4 ≤ x) → t.memGet x = s.memGet x) ∧
  (∀ (written applied : Bool) (s t : State) (r : Row) (i j : Nat), exec (.mbxCfgWrite written applied) s = .next t →
    r.key i j / 32 ≠ 0x01300000 + s.get BL.MBX_ARG.ARG 0 →
    (∀ q ∈ Touch.logged ++ Touch.mbxDone, ∀ a < q.c1, ∀ b < q.c2, r.key i j ≠ q.key a b) → t.get r i j = s.get r i j)

/-- Frame of the Belay island and discharge commands: nothing changes but what each command's lists name (R278, R284, R292, R295, R301, R304, R333, R336, R339, R342, R346). -/
def Obligations.BelayAndDischargeFrames : Prop :=
  (∀ (c : Instr) (rs : List Row) (fs : List Rec) (s t : State), Touch.belay c = some (rs, fs) → exec c s = .next t →
    State.RowsKept rs s t ∧ (∀ f, f ∉ fs → f.Kept s t) ∧ t.pending = s.pending)

/-- Frame of the sensing, position and housekeeping commands: nothing changes but what each command's lists name (R43, R46, R50, R56, R60, R67, R70, R74, R80, R368, R373). -/
def Obligations.SensingPositionAndThermalFrames : Prop :=
  (∀ (c : Instr) (rs : List Row) (fs : List Rec) (s t : State), Touch.sense c = some (rs, fs) → exec c s = .next t →
    State.RowsKept rs s t ∧ (∀ f, f ∉ fs → f.Kept s t) ∧ t.pending = s.pending)

/-- Frame of the sequencer, PWM, trip unit and decision tick commands: nothing changes but what each command's lists name (R86, R87, R100, R114, R125, R140, R145, R153, R157, R161). -/
def Obligations.SequencerPwmAndTickFrames : Prop :=
  (∀ (c : Instr) (rs : List Row) (fs : List Rec) (s t : State), Touch.drive c = some (rs, fs) → exec c s = .next t →
    State.RowsKept rs s t ∧ (∀ f, f ∉ fs → f.Kept s t) ∧ t.pending = s.pending)

/-- Frame of the control engine commands and instructions: nothing changes but what each command's lists name (R164, R166, R167, R169, R172, R177, R178, R179, R181, R183). -/
def Obligations.ControlEngineFrames : Prop :=
  (∀ (c : Instr) (rs : List Row) (fs : List Rec) (s t : State), Touch.engine c = some (rs, fs) → exec c s = .next t →
    State.RowsKept rs s t ∧ (∀ f, f ∉ fs → f.Kept s t) ∧ t.pending = s.pending)

/-- Frame of the context table and aux drive commands: nothing changes but what each command's lists name (R218, R219, R221, R223, R226, R236, R243, R245, R246, R263). -/
def Obligations.ContextTableAndAuxiliaryFrames : Prop :=
  (∀ (c : Instr) (rs : List Row) (fs : List Rec) (s t : State), Touch.actor c = some (rs, fs) → exec c s = .next t →
    State.RowsKept rs s t ∧ (∀ f, f ∉ fs → f.Kept s t) ∧ t.pending = s.pending)

/-- Frame of the gate island and gate link commands: nothing changes but what each command's lists name (R9, R189, R193, R194, R197, R203, R205, R208, R210, R215). -/
def Obligations.GateIslandFrames : Prop :=
  (∀ (c : Instr) (rs : List Row) (fs : List Rec) (s t : State), Touch.gate c = some (rs, fs) → exec c s = .next t →
    State.RowsKept rs s t ∧ (∀ f, f ∉ fs → f.Kept s t) ∧ t.pending = s.pending)

/-- Frame of the CAN, Ethernet and security commands: nothing changes but what each command's lists name (R350, R351, R353, R357, R361, R362, R379, R384, R388, R393, R396). -/
def Obligations.NetworkAndSecurityFrames : Prop :=
  (∀ (c : Instr) (rs : List Row) (fs : List Rec) (s t : State), Touch.net c = some (rs, fs) → exec c s = .next t →
    State.RowsKept rs s t ∧ (∀ f, f ∉ fs → f.Kept s t) ∧ t.pending = s.pending)

/-- Frame of the clock, time, reset, power, BIST, memory and counter commands: nothing changes but what each command's lists name (R6, R412, R413, R423, R432, R434, R443, R446, R454, R459, R468, R471). -/
def Obligations.ClockResetPowerAndMemoryFrames : Prop :=
  (∀ (c : Instr) (rs : List Row) (fs : List Rec) (s t : State), Touch.system c = some (rs, fs) → exec c s = .next t →
    State.RowsKept rs s t ∧ (∀ f, f ∉ fs → f.Kept s t) ∧ t.pending = s.pending)

/-- A command on one CAN controller, gate island or engine leaves the rows of every other one alone (R11, R13, R164, R188, R348). -/
def Obligations.CommandsKeepToTheirInstance : Prop :=
  ∀ (c : Instr) (rs : List Row) (k : Nat) (s t : State), Touch.alone c = some (rs, k) → exec c s = .next t →
    ∀ r ∈ rs, ∀ i < r.c1, i ≠ k → ∀ j < r.c2, t.get r i j = s.get r i j

/-- INC_ILLEGAL: an illegal transition sets ILLEGAL, counts in ILL_CNT to 255 and changes nothing else (R70). -/
def Obligations.IllegalTransitionsAreCounted : Prop :=
  ∀ (axis : Fin 2) (s : State), ∃ t, exec (.incIllegal axis) s = .next t ∧
    t.is POS.INC_STAT.ILLEGAL axis = true ∧
    t.get POS.INC_STAT.ILL_CNT axis = min (s.get POS.INC_STAT.ILL_CNT axis + 1) 255 ∧
    (∀ (r : Row) (i j : Nat), r.key i j ≠ POS.INC_STAT.ILLEGAL.key axis 0 → r.key i j ≠ POS.INC_STAT.ILL_CNT.key axis 0 →
      t.get r i j = s.get r i j) ∧ t = { s with regs := t.regs }

/-- Engine data registers are signed Q15, accumulators Q9.30, and the product of two Q15 values is exact in an accumulator (R164). -/
def Obligations.NumberFormatsAndExactProduct : Prop :=
  (∀ (eng : Fin 7) (n : Fin 16) (s : State), -2 ^ 15 ≤ s.dVal eng n ∧ s.dVal eng n < 2 ^ 15) ∧
  (∀ (eng : Fin 7) (n : Fin 4) (s : State), -2 ^ (1 + 8 + 1 + 30 - 1) ≤ s.aVal eng n ∧ s.aVal eng n < 2 ^ (1 + 8 + 1 + 30 - 1)) ∧
  (∀ (eng : Fin 7) (dst : Fin 4) (x y : Fin 16) (s : State), s.engOn eng = true → s.aVal eng dst = 0 →
    ∃ t, exec (.engMac eng dst x y) s = .next t ∧ t.aVal eng dst = s.dVal eng x * s.dVal eng y ∧
      (s.dVal eng x = -2 ^ 15 → s.dVal eng y = -2 ^ 15 → t.aVal eng dst = 1 * 2 ^ 30))

/-- DIV by zero and ABS of 0x8000 give the limits of R166 and set their flags (R166). -/
def Obligations.DivideByZeroAndAbsoluteValue : Prop :=
  (∀ (eng : Fin 7) (dst x y : Fin 16) (s : State), s.engOn eng = true → s.get CE.d eng y = 0 →
    ∃ t, exec (.engDiv eng dst x y) s = .next t ∧
      t.get CE.d eng dst = (if 0 < s.dVal eng x then 0x7FFF else if s.dVal eng x < 0 then 0x8000 else 0) ∧
      t.is CE.FLAGS.DIV0 eng = true ∧ t.is CE.FLAGS.SAT eng = true) ∧
  (∀ (eng : Fin 7) (dst x : Fin 16) (s : State), s.engOn eng = true → s.get CE.d eng x = 0x8000 →
    ∃ t, exec (.engAbs eng (.d dst x)) s = .next t ∧ t.get CE.d eng dst = 0x7FFF ∧ t.is CE.FLAGS.SAT eng = true)

/-- Each HK round keeps the lowest bootstrap voltage of each aux phase, and BS_RST sets every BS_MIN to 0x3FF (R368, R371). With
AX's domain PD5 off there is no voltage to take and the fields stay: the model's choice, log entry 13. -/
def Obligations.LowestBootstrapVoltagesKept : Prop :=
  HK.BS_MIN.U.width = AX.CH_VBS.VBS_U.width ∧ HK.BS_MIN.V.width = AX.CH_VBS.VBS_V.width ∧
    HK.BS_MIN.W.width = AX.CH_VBS.VBS_W.width ∧
  (∀ (codes : List (Option (BitVec 10))) (mt : List (Option (BitVec 20))) (missing : BitVec 24) (s : State), s.hkRuns = true →
    ∃ t, exec (.slowRound codes mt missing) s = .next t ∧ ∀ k < 3,
      (s.getBit SYS.PWR_STAT.PD_ON 5 = true →
        t.get HK.BS_MIN.U k = min (s.get HK.BS_MIN.U k) (s.get AX.CH_VBS.VBS_U k) ∧
        t.get HK.BS_MIN.V k = min (s.get HK.BS_MIN.V k) (s.get AX.CH_VBS.VBS_V k) ∧
        t.get HK.BS_MIN.W k = min (s.get HK.BS_MIN.W k) (s.get AX.CH_VBS.VBS_W k)) ∧
      (s.getBit SYS.PWR_STAT.PD_ON 5 = false →
        t.get HK.BS_MIN.U k = s.get HK.BS_MIN.U k ∧ t.get HK.BS_MIN.V k = s.get HK.BS_MIN.V k ∧
        t.get HK.BS_MIN.W k = s.get HK.BS_MIN.W k)) ∧
  (∀ s : State, s.pdOn 2 = true → ∃ t, exec .bsRst s = .next t ∧ ∀ k < 3,
      t.get HK.BS_MIN.U k = 0x3FF ∧ t.get HK.BS_MIN.V k = 0x3FF ∧ t.get HK.BS_MIN.W k = 0x3FF)

/-- A read of TIME_LO latches the upper half of device time into TIME_HI; a read of TIME_HI returns the latched value (R432). -/
def Obligations.TimeReadsFormOneValue : Prop :=
  (∀ (data : BitVec 32) (s : State), s.is SEC.DBG_STAT.OPEN = true → s.is SYS.lowState = false → 1 ≤ s.get SEC.DBG_STAT.LEVEL →
      s.getBit SYS.PWR_STAT.PD_ON 2 = true →
    ∃ t, exec (.debugAccess (.bar0 0x01000208) false data) s = .next t ∧ t.out = s.out ++ [.readData (s.now % 2 ^ 32)] ∧
      t.get SYS.TIME.TIME 1 = s.now / 2 ^ 32 % 2 ^ 32 ∧
      (s.now < 2 ^ 64 → t.get SYS.TIME.TIME 1 * 2 ^ 32 + s.now % 2 ^ 32 = s.now)) ∧
  (∀ (data : BitVec 32) (s : State), s.is SEC.DBG_STAT.OPEN = true → s.is SYS.lowState = false → 1 ≤ s.get SEC.DBG_STAT.LEVEL →
      s.getBit SYS.PWR_STAT.PD_ON 2 = true →
    ∃ t, exec (.debugAccess (.bar0 0x0100020C) false data) s = .next t ∧
      t.out = s.out ++ [.readData (s.get SYS.TIME.TIME 1)] ∧ t.regs = s.regs)
end

