-- ==== Sys2Proof/Laws/Row.lean ====
section
/-!
SUPPORT. Laws of the two sparse stores: reading after writing, and the canonical forms that writing keeps.
-/
namespace Sys2Proof.Machine

@[simp] theorem Cells.find_nil (a : Nat) : Cells.find [] a = none := rfl

@[simp] theorem Cells.find_put_self (c : Cells) (a v : Nat) : (Cells.put c a v).find a = some v := by
  induction c with
  | nil => simp [Cells.put, Cells.find]
  | cons p c ih =>
    obtain ⟨k, w⟩ := p
    simp only [Cells.put]
    split
    · simp [Cells.find]
    · split
      · simp [Cells.find]
      · have h : k ≠ a := fun e => by simp_all
        simp [Cells.find, h, ih]

theorem Cells.find_put_ne (c : Cells) {a b : Nat} (v : Nat) (h : a ≠ b) : (Cells.put c a v).find b = c.find b := by
  induction c with
  | nil => simp [Cells.put, Cells.find, h]
  | cons p c ih =>
    obtain ⟨k, w⟩ := p
    simp only [Cells.put]
    split
    · simp [Cells.find, h]
    · split
      · subst_vars; simp [Cells.find, h]
      · simp [Cells.find, ih]

@[simp] theorem Cells.find_drop_self (c : Cells) (a : Nat) : (Cells.drop c a).find a = none := by
  induction c with
  | nil => rfl
  | cons p c ih =>
    obtain ⟨k, w⟩ := p
    simp only [Cells.drop]
    split
    · exact ih
    · rename_i h; simp [Cells.find, h, ih]

theorem Cells.find_drop_ne (c : Cells) {a b : Nat} (h : a ≠ b) : (Cells.drop c a).find b = c.find b := by
  induction c with
  | nil => rfl
  | cons p c ih =>
    obtain ⟨k, w⟩ := p
    simp only [Cells.drop]
    split
    · subst_vars; simp [Cells.find, h, ih]
    · simp [Cells.find, ih]

theorem Cells.mem_put {c : Cells} {a v : Nat} {p : Nat × Nat} (h : p ∈ Cells.put c a v) : p = (a, v) ∨ p ∈ c := by
  induction c with
  | nil => simpa [Cells.put] using h
  | cons q c ih =>
    obtain ⟨k, w⟩ := q
    simp only [Cells.put] at h
    split at h
    · simpa using h
    · split at h
      · rcases List.mem_cons.1 h with h | h <;> simp [h]
      · rcases List.mem_cons.1 h with h | h
        · simp [h]
        · rcases ih h with h | h <;> simp [h]

/-- Writing keeps the keys strictly rising. -/
theorem Cells.rising_put {c : Cells} (h : Cells.Rising c) (a v : Nat) : Cells.Rising (Cells.put c a v) := by
  induction c with
  | nil => simp [Cells.put, Cells.Rising]
  | cons q c ih =>
    obtain ⟨k, w⟩ := q
    obtain ⟨h1, h2⟩ := h
    simp only [Cells.put]
    split
    · rename_i hk
      refine ⟨fun p hp => ?_, h1, h2⟩
      rcases List.mem_cons.1 hp with e | hp
      · subst e; exact hk
      · exact Nat.lt_trans hk (h1 p hp)
    · split
      · subst_vars; exact ⟨h1, h2⟩
      · refine ⟨fun p hp => ?_, ih h2⟩
        rcases Cells.mem_put hp with e | hp
        · subst e; simp only; omega
        · exact h1 p hp

/-- Keeping only some cells keeps the keys strictly rising. -/
theorem Cells.rising_filter {c : Cells} (h : Cells.Rising c) (f : Nat × Nat → Bool) : Cells.Rising (c.filter f) := by
  induction c with
  | nil => trivial
  | cons q c ih =>
    obtain ⟨k, w⟩ := q
    obtain ⟨h1, h2⟩ := h
    simp only [List.filter]
    split
    · exact ⟨fun p hp => h1 p (List.mem_filter.1 hp).1, ih h2⟩
    · exact ih h2

theorem Cells.mem_drop {c : Cells} {a : Nat} {p : Nat × Nat} (h : p ∈ Cells.drop c a) : p ∈ c := by
  induction c with
  | nil => exact h
  | cons q c ih =>
    obtain ⟨k, w⟩ := q
    simp only [Cells.drop] at h
    split at h
    · exact List.mem_cons_of_mem _ (ih h)
    · rcases List.mem_cons.1 h with h | h
      · simp [h]
      · exact List.mem_cons_of_mem _ (ih h)

/-- Dropping a cell keeps the keys strictly rising. -/
theorem Cells.rising_drop {c : Cells} (h : Cells.Rising c) (a : Nat) : Cells.Rising (Cells.drop c a) := by
  induction c with
  | nil => trivial
  | cons q c ih =>
    obtain ⟨k, w⟩ := q
    obtain ⟨h1, h2⟩ := h
    simp only [Cells.drop]
    split
    · exact ih h2
    · exact ⟨fun p hp => h1 p (Cells.mem_drop hp), ih h2⟩

/-- The canonical form of memory, as a proposition. -/
theorem Memory.wf_cons {k : Nat} {v : BitVec 8} {c : Memory} :
    Memory.wf ((k, v) :: c) = true ↔ v ≠ 0 ∧ (∀ p ∈ c, k < p.1) ∧ Memory.wf c = true := by
  simp [Memory.wf, and_assoc]

theorem Memory.mem_put {c : Memory} {a : Nat} {v : BitVec 8} {p : Host.Cell} (h : p ∈ Memory.put c a v) :
    p = (a, v) ∨ p ∈ c := by
  induction c with
  | nil =>
    simp only [Memory.put] at h
    split at h <;> simp_all
  | cons q c ih =>
    obtain ⟨k, w⟩ := q
    simp only [Memory.put] at h
    have tail : p ∈ Memory.put c a v → p = (a, v) ∨ p ∈ (k, w) :: c := fun h =>
      (ih h).imp_right (List.mem_cons_of_mem _)
    have keep : p ∈ (k, w) :: Memory.put c a v → p = (a, v) ∨ p ∈ (k, w) :: c := fun h => by
      rcases List.mem_cons.1 h with h | h
      · exact .inr (by simp [h])
      · exact tail h
    split at h
    · split at h
      · exact tail h
      · exact keep h
    · split at h
      · exact List.mem_cons.1 h
      · split at h
        · exact (List.mem_cons.1 h).imp_right (List.mem_cons_of_mem _)
        · exact keep h

/-- Writing 0 leaves nothing listed at the address. -/
theorem Memory.put_zero_ne {c : Memory} {a : Nat} {p : Host.Cell} (h : p ∈ Memory.put c a 0) : p.1 ≠ a := by
  induction c with
  | nil => simp [Memory.put] at h
  | cons q c ih =>
    obtain ⟨k, w⟩ := q
    simp only [Memory.put, if_true] at h
    split at h
    · exact ih h
    · rcases List.mem_cons.1 h with h | h
      · subst h; exact fun e => by simp_all
      · exact ih h

/-- A write keeps memory's canonical form. -/
theorem Memory.wf_put {c : Memory} (h : Memory.wf c = true) (a : Nat) (v : BitVec 8) :
    Memory.wf (Memory.put c a v) = true := by
  induction c with
  | nil =>
    simp only [Memory.put]
    split
    · rfl
    · rename_i hv; simpa [Memory.wf] using hv
  | cons q c ih =>
    obtain ⟨k, w⟩ := q
    obtain ⟨hw, hk, hc⟩ := Memory.wf_cons.1 h
    simp only [Memory.put]
    split
    · rename_i hv; subst hv
      split
      · exact ih hc
      · refine Memory.wf_cons.2 ⟨hw, fun p hp => ?_, ih hc⟩
        rcases Memory.mem_put hp with e | hp'
        · exact absurd (by rw [e]) (Memory.put_zero_ne hp)
        · exact hk p hp'
    · rename_i hv
      split
      · rename_i hlt
        refine Memory.wf_cons.2 ⟨hv, fun p hp => ?_, h⟩
        rcases List.mem_cons.1 hp with e | hp
        · subst e; exact hlt
        · exact Nat.lt_trans hlt (hk p hp)
      · split
        · subst_vars; exact Memory.wf_cons.2 ⟨hv, hk, hc⟩
        · refine Memory.wf_cons.2 ⟨hw, fun p hp => ?_, ih hc⟩
          rcases Memory.mem_put hp with e | hp
          · subst e; simp only; omega
          · exact hk p hp

/-- A read after a write to the same address gives the byte written. -/
@[simp] theorem Memory.get_put_self (c : Memory) (a : Nat) (v : BitVec 8) : (Memory.put c a v).get a = v := by
  induction c with
  | nil =>
    simp only [Memory.put]
    split <;> simp_all [Memory.get]
  | cons q c ih =>
    obtain ⟨k, w⟩ := q
    simp only [Memory.put]
    split
    · split
      · exact ih
      · rename_i h; simp [Memory.get, Ne.symm h, ih]
    · split
      · simp [Memory.get]
      · split
        · simp [Memory.get]
        · rename_i h; simp [Memory.get, Ne.symm h, ih]

/-- A write leaves every other address alone. -/
theorem Memory.get_put_ne (c : Memory) {a b : Nat} (v : BitVec 8) (h : a ≠ b) : (Memory.put c a v).get b = c.get b := by
  induction c with
  | nil =>
    simp only [Memory.put]
    split <;> simp [Memory.get, h]
  | cons q c ih =>
    obtain ⟨k, w⟩ := q
    simp only [Memory.put]
    repeat' split
    all_goals simp_all [Memory.get]

end Sys2Proof.Machine
end

