-- ==== Sys2Proof/Laws/State.lean ====
section
/-!
SUPPORT. One lemma per field per primitive update of the state, so that no proof unfolds a record update; the other
ways of writing a row are brought to `set`.
-/
namespace Sys2Proof.Machine.State

variable (s : State) (r : Row) (v i j n : Nat) (x : Int) (b : Bool) (m : Msg) (c : EvClass) (q : List Event)

@[simp] theorem setb_eq : s.setb r b i j = s.set r (ofBool b) i j := rfl
@[simp] theorem seti_eq : s.seti r x i j = s.set r (ofSigned r.width x) i j := rfl
@[simp] theorem inc_eq : s.inc r i j = s.set r (s.get r i j + 1) i j := rfl
@[simp] theorem incSat_eq : s.incSat r i j = s.set r (min (s.get r i j + 1) (2 ^ r.width - 1)) i j := rfl
@[simp] theorem setBit_eq : s.setBit r n b i j =
    s.set r (s.get r i j - (if bit (s.get r i j) n then 2 ^ n else 0) + (if b then 2 ^ n else 0)) i j := rfl
@[simp] theorem on_true (f : State → State) : s.on true f = f s := rfl
@[simp] theorem on_false (f : State → State) : s.on false f = s := rfl

@[simp] theorem set_now : (s.set r v i j).now = s.now := rfl
@[simp] theorem set_fresh : (s.set r v i j).fresh = s.fresh := rfl
@[simp] theorem set_mem : (s.set r v i j).mem = s.mem := rfl
@[simp] theorem set_eccBad : (s.set r v i j).eccBad = s.eccBad := rfl
@[simp] theorem set_eccSeen : (s.set r v i j).eccSeen = s.eccSeen := rfl
@[simp] theorem set_evFault : (s.set r v i j).evFault = s.evFault := rfl
@[simp] theorem set_evWarning : (s.set r v i j).evWarning = s.evWarning := rfl
@[simp] theorem set_evInfo : (s.set r v i j).evInfo = s.evInfo := rfl
@[simp] theorem set_evSafety : (s.set r v i j).evSafety = s.evSafety := rfl
@[simp] theorem set_evStore : (s.set r v i j).evStore = s.evStore := rfl
@[simp] theorem set_descs : (s.set r v i j).descs = s.descs := rfl
@[simp] theorem set_plays : (s.set r v i j).plays = s.plays := rfl
@[simp] theorem set_ridgeIn : (s.set r v i j).ridgeIn = s.ridgeIn := rfl
@[simp] theorem set_log : (s.set r v i j).log = s.log := rfl
@[simp] theorem set_engCalls : (s.set r v i j).engCalls = s.engCalls := rfl
@[simp] theorem set_engLoops : (s.set r v i j).engLoops = s.engLoops := rfl
@[simp] theorem set_canTx : (s.set r v i j).canTx = s.canTx := rfl
@[simp] theorem set_canRxQ : (s.set r v i j).canRxQ = s.canRxQ := rfl
@[simp] theorem set_ethTxQ : (s.set r v i j).ethTxQ = s.ethTxQ := rfl
@[simp] theorem set_snaps : (s.set r v i j).snaps = s.snaps := rfl
@[simp] theorem set_fwImage : (s.set r v i j).fwImage = s.fwImage := rfl
@[simp] theorem set_calImage : (s.set r v i j).calImage = s.calImage := rfl
@[simp] theorem set_pwdBuf : (s.set r v i j).pwdBuf = s.pwdBuf := rfl
@[simp] theorem set_out : (s.set r v i j).out = s.out := rfl
@[simp] theorem set_pending : (s.set r v i j).pending = s.pending := rfl

@[simp] theorem send_regs : (s.send m).regs = s.regs := rfl
@[simp] theorem send_now : (s.send m).now = s.now := rfl
@[simp] theorem send_fresh : (s.send m).fresh = s.fresh := rfl
@[simp] theorem send_mem : (s.send m).mem = s.mem := rfl
@[simp] theorem send_eccBad : (s.send m).eccBad = s.eccBad := rfl
@[simp] theorem send_eccSeen : (s.send m).eccSeen = s.eccSeen := rfl
@[simp] theorem send_evFault : (s.send m).evFault = s.evFault := rfl
@[simp] theorem send_evWarning : (s.send m).evWarning = s.evWarning := rfl
@[simp] theorem send_evInfo : (s.send m).evInfo = s.evInfo := rfl
@[simp] theorem send_evSafety : (s.send m).evSafety = s.evSafety := rfl
@[simp] theorem send_evStore : (s.send m).evStore = s.evStore := rfl
@[simp] theorem send_descs : (s.send m).descs = s.descs := rfl
@[simp] theorem send_plays : (s.send m).plays = s.plays := rfl
@[simp] theorem send_ridgeIn : (s.send m).ridgeIn = s.ridgeIn := rfl
@[simp] theorem send_log : (s.send m).log = s.log := rfl
@[simp] theorem send_engCalls : (s.send m).engCalls = s.engCalls := rfl
@[simp] theorem send_engLoops : (s.send m).engLoops = s.engLoops := rfl
@[simp] theorem send_canTx : (s.send m).canTx = s.canTx := rfl
@[simp] theorem send_canRxQ : (s.send m).canRxQ = s.canRxQ := rfl
@[simp] theorem send_ethTxQ : (s.send m).ethTxQ = s.ethTxQ := rfl
@[simp] theorem send_snaps : (s.send m).snaps = s.snaps := rfl
@[simp] theorem send_fwImage : (s.send m).fwImage = s.fwImage := rfl
@[simp] theorem send_calImage : (s.send m).calImage = s.calImage := rfl
@[simp] theorem send_pwdBuf : (s.send m).pwdBuf = s.pwdBuf := rfl
@[simp] theorem send_pending : (s.send m).pending = s.pending := rfl
@[simp] theorem send_out : (s.send m).out = s.out ++ [m] := rfl

@[simp] theorem setFree_now : (s.setFree r i j).now = s.now := rfl
@[simp] theorem setFree_mem : (s.setFree r i j).mem = s.mem := rfl
@[simp] theorem setFree_eccBad : (s.setFree r i j).eccBad = s.eccBad := rfl
@[simp] theorem setFree_eccSeen : (s.setFree r i j).eccSeen = s.eccSeen := rfl
@[simp] theorem setFree_evFault : (s.setFree r i j).evFault = s.evFault := rfl
@[simp] theorem setFree_evWarning : (s.setFree r i j).evWarning = s.evWarning := rfl
@[simp] theorem setFree_evInfo : (s.setFree r i j).evInfo = s.evInfo := rfl
@[simp] theorem setFree_evSafety : (s.setFree r i j).evSafety = s.evSafety := rfl
@[simp] theorem setFree_evStore : (s.setFree r i j).evStore = s.evStore := rfl
@[simp] theorem setFree_descs : (s.setFree r i j).descs = s.descs := rfl
@[simp] theorem setFree_plays : (s.setFree r i j).plays = s.plays := rfl
@[simp] theorem setFree_ridgeIn : (s.setFree r i j).ridgeIn = s.ridgeIn := rfl
@[simp] theorem setFree_log : (s.setFree r i j).log = s.log := rfl
@[simp] theorem setFree_engCalls : (s.setFree r i j).engCalls = s.engCalls := rfl
@[simp] theorem setFree_engLoops : (s.setFree r i j).engLoops = s.engLoops := rfl
@[simp] theorem setFree_canTx : (s.setFree r i j).canTx = s.canTx := rfl
@[simp] theorem setFree_canRxQ : (s.setFree r i j).canRxQ = s.canRxQ := rfl
@[simp] theorem setFree_ethTxQ : (s.setFree r i j).ethTxQ = s.ethTxQ := rfl
@[simp] theorem setFree_snaps : (s.setFree r i j).snaps = s.snaps := rfl
@[simp] theorem setFree_fwImage : (s.setFree r i j).fwImage = s.fwImage := rfl
@[simp] theorem setFree_calImage : (s.setFree r i j).calImage = s.calImage := rfl
@[simp] theorem setFree_pwdBuf : (s.setFree r i j).pwdBuf = s.pwdBuf := rfl
@[simp] theorem setFree_out : (s.setFree r i j).out = s.out := rfl
@[simp] theorem setFree_pending : (s.setFree r i j).pending = s.pending := rfl
@[simp] theorem setFree_fresh : (s.setFree r i j).fresh = s.fresh + 1 := rfl
@[simp] theorem setFree_regs : (s.setFree r i j).regs = (s.set r (Config.fresh s.fresh) i j).regs := rfl

@[simp] theorem setQueue_regs : (s.setQueue c q).regs = s.regs := by cases c <;> rfl
@[simp] theorem setQueue_now : (s.setQueue c q).now = s.now := by cases c <;> rfl
@[simp] theorem setQueue_fresh : (s.setQueue c q).fresh = s.fresh := by cases c <;> rfl
@[simp] theorem setQueue_mem : (s.setQueue c q).mem = s.mem := by cases c <;> rfl
@[simp] theorem setQueue_eccBad : (s.setQueue c q).eccBad = s.eccBad := by cases c <;> rfl
@[simp] theorem setQueue_eccSeen : (s.setQueue c q).eccSeen = s.eccSeen := by cases c <;> rfl
@[simp] theorem setQueue_evStore : (s.setQueue c q).evStore = s.evStore := by cases c <;> rfl
@[simp] theorem setQueue_descs : (s.setQueue c q).descs = s.descs := by cases c <;> rfl
@[simp] theorem setQueue_plays : (s.setQueue c q).plays = s.plays := by cases c <;> rfl
@[simp] theorem setQueue_ridgeIn : (s.setQueue c q).ridgeIn = s.ridgeIn := by cases c <;> rfl
@[simp] theorem setQueue_log : (s.setQueue c q).log = s.log := by cases c <;> rfl
@[simp] theorem setQueue_engCalls : (s.setQueue c q).engCalls = s.engCalls := by cases c <;> rfl
@[simp] theorem setQueue_engLoops : (s.setQueue c q).engLoops = s.engLoops := by cases c <;> rfl
@[simp] theorem setQueue_canTx : (s.setQueue c q).canTx = s.canTx := by cases c <;> rfl
@[simp] theorem setQueue_canRxQ : (s.setQueue c q).canRxQ = s.canRxQ := by cases c <;> rfl
@[simp] theorem setQueue_ethTxQ : (s.setQueue c q).ethTxQ = s.ethTxQ := by cases c <;> rfl
@[simp] theorem setQueue_snaps : (s.setQueue c q).snaps = s.snaps := by cases c <;> rfl
@[simp] theorem setQueue_fwImage : (s.setQueue c q).fwImage = s.fwImage := by cases c <;> rfl
@[simp] theorem setQueue_calImage : (s.setQueue c q).calImage = s.calImage := by cases c <;> rfl
@[simp] theorem setQueue_pwdBuf : (s.setQueue c q).pwdBuf = s.pwdBuf := by cases c <;> rfl
@[simp] theorem setQueue_out : (s.setQueue c q).out = s.out := by cases c <;> rfl
@[simp] theorem setQueue_pending : (s.setQueue c q).pending = s.pending := by cases c <;> rfl
@[simp] theorem setQueue_queue : (s.setQueue c q).queue c = q := by cases c <;> rfl
theorem setQueue_queue_ne {c d : EvClass} (h : c ≠ d) : (s.setQueue c q).queue d = s.queue d := by
  cases c <;> cases d <;> first | rfl | exact absurd rfl h

end Sys2Proof.Machine.State
end

