-- ==== Sys2Proof/Laws/Ops.lean ====
section
/-!
SUPPORT. What each shared operation over the state can do, said once: the value a written row reads, the rows it leaves
alone, the records it leaves alone, and that it keeps the form of the state.
-/
namespace Sys2Proof.Machine.State

/-- A written row reads the value, cut to its width. -/
@[simp] theorem get_set_self (s : State) (r : Row) (v i j : Nat) : (s.set r v i j).get r i j = v % 2 ^ r.width := by
  simp only [get, set]
  split
  · rename_i h; rw [Cells.find_drop_self, Option.getD_none, ← h, Nat.mod_mod]
  · simp

/-- A row reads a value of its width, whatever the store lists. -/
theorem get_lt (s : State) (r : Row) (i j : Nat) : s.get r i j < 2 ^ r.width := Nat.mod_lt _ (Nat.two_pow_pos _)

/-- A write leaves every place but its own alone. -/
theorem get_set_ne (s : State) {r q : Row} (v i j a b : Nat) (h : r.key i j ≠ q.key a b) :
    (s.set r v i j).get q a b = s.get q a b := by
  simp only [get, set]
  split
  · rw [Cells.find_drop_ne _ h]
  · rw [Cells.find_put_ne _ _ h]

@[simp] theorem get_send (s : State) (m : Msg) (r : Row) (i j : Nat) : (s.send m).get r i j = s.get r i j := rfl

@[simp] theorem get_setQueue (s : State) (c : EvClass) (q : List Event) (r : Row) (i j : Nat) :
    (s.setQueue c q).get r i j = s.get r i j := by cases c <;> rfl

@[simp] theorem get_setFree (s : State) (r q : Row) (i j a b : Nat) :
    (s.setFree r i j).get q a b = (s.set r (Config.fresh s.fresh) i j).get q a b := rfl

/-- A row reads the same in states with the same store. -/
theorem get_congr {s t : State} (h : t.regs = s.regs) (r : Row) (i j : Nat) : t.get r i j = s.get r i j := by
  simp [get, h]

/-- An event touches no row but the count of lost records. -/
theorem get_eventAt (s : State) (time : Nat) (c : EvClass) (inst source code arg0 arg1 : Nat) (q : Row) (a b : Nat)
    (h : ∀ k < 4, RING.lost.key k 0 ≠ q.key a b) :
    (s.eventAt time c inst source code arg0 arg1).get q a b = s.get q a b := by
  have key : ∀ u : State, (∀ e : List (EvClass × Event), ({ u with evStore := e } : State).get q a b = u.get q a b) :=
    fun _ _ => rfl
  simp only [eventAt]
  have inner : (if (s.queue c).length < 64 then
      s.setQueue c (s.queue c ++ [⟨time, inst, source, code, arg0, arg1⟩])
      else s.incSat RING.lost (c.ring - 16)).get q a b = s.get q a b := by
    split
    · exact get_setQueue ..
    · exact get_set_ne _ _ _ _ _ _ (h _ (by cases c <;> decide))
  split
  · exact inner
  · rw [key]; exact inner

theorem get_event (s : State) (c : EvClass) (inst source code arg0 arg1 : Nat) (q : Row) (a b : Nat)
    (h : ∀ k < 4, RING.lost.key k 0 ≠ q.key a b) :
    (s.event c inst source code arg0 arg1).get q a b = s.get q a b := get_eventAt _ _ _ _ _ _ _ _ _ _ _ h

/-- The records an event touches are its class's queue and the event store. -/
theorem sameRecords_refl (s : State) : s.SameRecords s := rfl

theorem SameRecords.trans {s t u : State} (h : s.SameRecords t) (k : t.SameRecords u) : s.SameRecords u := by
  unfold SameRecords at *
  rw [k, h]

theorem sameRecords_set (s : State) (r : Row) (v i j : Nat) : s.SameRecords (s.set r v i j) := rfl

theorem sameRecords_send (s : State) (m : Msg) : s.SameRecords (s.send m) := rfl

theorem sameRecords_setFree (s : State) (r : Row) (i j : Nat) : s.SameRecords (s.setFree r i j) := rfl

theorem sameRecords_eventAt (s : State) (time : Nat) (c : EvClass) (inst source code arg0 arg1 : Nat) :
    s.SameRecords (s.eventAt time c inst source code arg0 arg1) := by
  unfold SameRecords eventAt
  by_cases h : (s.queue c).length < 64 <;> simp only [h, if_true, if_false] <;> cases c <;> rfl

theorem sameRecords_event (s : State) (c : EvClass) (inst source code arg0 arg1 : Nat) :
    s.SameRecords (s.event c inst source code arg0 arg1) := sameRecords_eventAt ..

theorem sameRecords_on {s : State} (c : Bool) {f : State → State} (h : c = true → s.SameRecords (f s)) :
    s.SameRecords (s.on c f) := by
  cases c
  · rfl
  · exact h rfl

theorem rowsKept_refl (rs : List Row) (s : State) : RowsKept rs s s := fun _ _ _ _ => rfl

theorem RowsKept.trans {rs : List Row} {s t u : State} (h : RowsKept rs s t) (k : RowsKept rs t u) : RowsKept rs s u :=
  fun r i j hr => (k r i j hr).trans (h r i j hr)

theorem RowsKept.mono {rs qs : List Row} {s t : State} (h : RowsKept rs s t) (hs : ∀ r ∈ rs, r ∈ qs) :
    RowsKept qs s t := fun r i j hr => h r i j fun q hq => hr q (hs q hq)

/-- Writing a row of the list keeps all others. -/
theorem rowsKept_set {rs : List Row} (s : State) {r : Row} (v i j : Nat) (h : r ∈ rs) (hi : i < r.c1)
    (hj : j < r.c2) : RowsKept rs s (s.set r v i j) :=
  fun _ _ _ hq => get_set_ne _ _ _ _ _ _ fun e => hq r h i hi j hj e.symm

theorem rowsKept_event {rs : List Row} (s : State) (c : EvClass) (inst source code arg0 arg1 : Nat)
    (h : RING.lost ∈ rs) : RowsKept rs s (s.event c inst source code arg0 arg1) :=
  fun _ _ _ hq => get_event _ _ _ _ _ _ _ _ _ _ fun k hk e => hq _ h k hk 0 (by decide) e.symm

theorem rowsKept_send (rs : List Row) (s : State) (m : Msg) : RowsKept rs s (s.send m) := fun _ _ _ _ => rfl

theorem rowsKept_on {rs : List Row} {s : State} (c : Bool) {f : State → State} (h : c = true → RowsKept rs s (f s)) :
    RowsKept rs s (s.on c f) := by
  cases c
  · exact rowsKept_refl _ _
  · exact h rfl

/-- A relation that is reflexive and transitive and holds of each change holds of all of them together. -/
theorem forN_rel {R : State → State → Prop} (refl : ∀ s, R s s) (trans : ∀ {s t u}, R s t → R t u → R s u)
    (n : Nat) (f : Nat → State → State) (h : ∀ k s, k < n → R s (f k s)) (s : State) : R s (s.forN n f) := by
  have go : ∀ (l : List Nat), (∀ k ∈ l, k < n) → ∀ s : State, R s (l.foldl (fun t k => f k t) s) := by
    intro l
    induction l with
    | nil => intro _ s; exact refl s
    | cons k l ih =>
      intro hl s
      exact trans (h k s (hl k (by simp))) (ih (fun m hm => hl m (by simp [hm])) _)
  exact go _ (fun k hk => List.mem_range.1 hk) s

/-- A property that each change keeps is kept by all of them together. -/
theorem forN_keeps {P : State → Prop} (n : Nat) (f : Nat → State → State) (h : ∀ k s, k < n → P s → P (f k s))
    {s : State} (hs : P s) : P (s.forN n f) :=
  forN_rel (R := fun s t => P s → P t) (fun _ h => h) (fun h k p => k (h p)) n f h s hs

/-! The form of the state. -/

theorem Inv.of_eq {s t : State} (h : s.Inv) (hr : t.regs = s.regs) (hm : t.mem = s.mem) (hq : ∀ c, t.queue c = s.queue c)
    (he : t.evStore = s.evStore) (hn : t.snaps = s.snaps) : t.Inv :=
  ⟨hr ▸ h.regs, hm ▸ h.mem, fun c => hq c ▸ h.queues c, he ▸ h.store, hn ▸ h.snaps⟩

theorem Inv.set {s : State} (h : s.Inv) (r : Row) (v i j : Nat) : (s.set r v i j).Inv := by
  refine ⟨?_, h.mem, fun c => ?_, h.store, h.snaps⟩
  · simp only [State.set]
    split
    · exact Cells.rising_drop h.regs _
    · exact Cells.rising_put h.regs _ _
  · have := h.queues c
    cases c <;> exact this

theorem Inv.setb {s : State} (h : s.Inv) (r : Row) (b : Bool) (i j : Nat) : (s.setb r b i j).Inv := h.set ..
theorem Inv.seti {s : State} (h : s.Inv) (r : Row) (x : Int) (i j : Nat) : (s.seti r x i j).Inv := h.set ..
theorem Inv.setBit {s : State} (h : s.Inv) (r : Row) (n : Nat) (b : Bool) (i j : Nat) : (s.setBit r n b i j).Inv :=
  h.set ..
theorem Inv.inc {s : State} (h : s.Inv) (r : Row) (i j : Nat) : (s.inc r i j).Inv := h.set ..
theorem Inv.incSat {s : State} (h : s.Inv) (r : Row) (i j : Nat) : (s.incSat r i j).Inv := h.set ..

theorem Inv.send {s : State} (h : s.Inv) (m : Msg) : (s.send m).Inv :=
  h.of_eq rfl rfl (fun c => by cases c <;> rfl) rfl rfl

theorem Inv.setFree {s : State} (h : s.Inv) (r : Row) (i j : Nat) : (s.setFree r i j).Inv :=
  (h.set r (Config.fresh s.fresh) i j).of_eq rfl rfl (fun c => by cases c <;> rfl) rfl rfl

theorem Inv.on {s : State} (h : s.Inv) (c : Bool) {f : State → State} (hf : c = true → (f s).Inv) : (s.on c f).Inv := by
  cases c
  · exact h
  · exact hf rfl

theorem Inv.forN {s : State} (h : s.Inv) (n : Nat) {f : Nat → State → State} (hf : ∀ k t, t.Inv → (f k t).Inv) :
    (s.forN n f).Inv := forN_keeps (P := State.Inv) n f (fun k t _ => hf k t) h

theorem Inv.eventAt {s : State} (h : s.Inv) (time : Nat) (c : EvClass) (inst source code arg0 arg1 : Nat) :
    (s.eventAt time c inst source code arg0 arg1).Inv := by
  have h1 : (if (s.queue c).length < 64 then s.setQueue c (s.queue c ++ [⟨time, inst, source, code, arg0, arg1⟩])
      else s.incSat RING.lost (c.ring - 16)).Inv := by
    split
    · rename_i hl
      refine ⟨by simpa using h.regs, by simpa using h.mem, fun d => ?_, by simpa using h.store, by simpa using h.snaps⟩
      by_cases e : c = d
      · subst e; simp; omega
      · rw [setQueue_queue_ne _ _ e]; exact h.queues d
    · exact h.incSat ..
  simp only [State.eventAt]
  generalize (if (s.queue c).length < 64 then s.setQueue c (s.queue c ++ [⟨time, inst, source, code, arg0, arg1⟩])
      else s.incSat RING.lost (c.ring - 16)) = u at h1 ⊢
  split
  · exact h1
  · refine ⟨h1.regs, h1.mem, fun d => ?_, ?_, h1.snaps⟩
    · have := h1.queues d
      cases d <;> exact this
    · have := h1.store
      simp only [List.length_append, List.length_singleton]
      split
      · omega
      · simp only [List.length_drop]; omega

theorem Inv.event {s : State} (h : s.Inv) (c : EvClass) (inst source code arg0 arg1 : Nat) :
    (s.event c inst source code arg0 arg1).Inv := h.eventAt ..

theorem Inv.raise {s : State} (h : s.Inv) (c : EvClass) (r : Row) (i j inst : Nat) : (s.raise c r i j inst).Inv := by
  unfold State.raise; split
  · exact h
  · exact (h.set ..).event ..

theorem Inv.raiseBit {s : State} (h : s.Inv) (c : EvClass) (r : Row) (n i j inst : Nat) :
    (s.raiseBit c r n i j inst).Inv := by
  unfold State.raiseBit; split
  · exact h
  · exact (h.setBit ..).event ..

theorem Inv.raiseArg {s : State} (h : s.Inv) (c : EvClass) (r : Row) (arg1 i j inst : Nat) :
    (s.raiseArg c r arg1 i j inst).Inv := by
  unfold State.raiseArg; split
  · exact h
  · exact (h.set ..).event ..

/-- `raise` touches no row but the flag and the count of lost records. -/
theorem get_raise_ne (s : State) (c : EvClass) {r q : Row} (i j inst a b : Nat) (h : r.key i j ≠ q.key a b)
    (hl : ∀ k < 4, RING.lost.key k 0 ≠ q.key a b) : (s.raise c r i j inst).get q a b = s.get q a b := by
  unfold State.raise; split
  · rfl
  · rw [get_event _ _ _ _ _ _ _ _ _ _ hl, get_set_ne _ _ _ _ _ _ h]

theorem get_raiseArg_ne (s : State) (c : EvClass) {r q : Row} (arg1 i j inst a b : Nat) (h : r.key i j ≠ q.key a b)
    (hl : ∀ k < 4, RING.lost.key k 0 ≠ q.key a b) : (s.raiseArg c r arg1 i j inst).get q a b = s.get q a b := by
  unfold State.raiseArg; split
  · rfl
  · rw [get_event _ _ _ _ _ _ _ _ _ _ hl, get_set_ne _ _ _ _ _ _ h]

theorem get_raiseBit_ne (s : State) (c : EvClass) {r q : Row} (n i j inst a b : Nat) (h : r.key i j ≠ q.key a b)
    (hl : ∀ k < 4, RING.lost.key k 0 ≠ q.key a b) : (s.raiseBit c r n i j inst).get q a b = s.get q a b := by
  unfold State.raiseBit; split
  · rfl
  · rw [get_event _ _ _ _ _ _ _ _ _ _ hl]; exact get_set_ne _ _ _ _ _ _ h

theorem get_on (s : State) (c : Bool) (f : State → State) (q : Row) (a b : Nat) :
    (s.on c f).get q a b = if c then (f s).get q a b else s.get q a b := by cases c <;> rfl

/-- After `raise` the flag is set. -/
theorem is_raise (s : State) (c : EvClass) (r : Row) (i j inst : Nat) (hw : 1 < 2 ^ r.width)
    (hl : ∀ k < 4, RING.lost.key k 0 ≠ r.key i j) : (s.raise c r i j inst).is r i j = true := by
  unfold State.raise; split
  · assumption
  · simp only [State.is]
    rw [get_event _ _ _ _ _ _ _ _ _ _ hl, get_set_self, Nat.mod_eq_of_lt hw]
    rfl

theorem sameRecords_raise (s : State) (c : EvClass) (r : Row) (i j inst : Nat) :
    s.SameRecords (s.raise c r i j inst) := by
  unfold State.raise; split
  · rfl
  · exact (sameRecords_set ..).trans (sameRecords_event ..)

theorem rowsKept_raise {rs : List Row} (s : State) (c : EvClass) {r : Row} (i j inst : Nat) (h : r ∈ rs)
    (hl : RING.lost ∈ rs) (hi : i < r.c1) (hj : j < r.c2) : RowsKept rs s (s.raise c r i j inst) := by
  unfold State.raise; split
  · exact rowsKept_refl _ _
  · exact (rowsKept_set _ _ _ _ h hi hj).trans (rowsKept_event _ _ _ _ _ _ _ hl)

/-- The trip level of a power unit: only its own row is written. -/
theorem rowsKept_tripIn {rs : List Row} (s : State) (pu src : Nat) (level : Bool) (h : PU.tripIn ∈ rs) (hp : pu < 5) :
    RowsKept rs s (s.tripIn pu src level) := rowsKept_set _ _ _ _ h hp (by decide)

theorem Inv.tripIn {s : State} (h : s.Inv) (pu src : Nat) (level : Bool) : (s.tripIn pu src level).Inv := h.setBit ..

theorem Inv.callSafe {s : State} (h : s.Inv) (a cause : Nat) : (s.callSafe a cause).Inv := by
  unfold State.callSafe; split
  · exact (h.setBit ..).setBit ..
  · exact h.setBit ..

theorem Inv.callSafeBoth {s : State} (h : s.Inv) (cause : Nat) : (s.callSafeBoth cause).Inv := (h.setBit ..).setBit ..

theorem Inv.safetyLog {s : State} (h : s.Inv) (inst code arg0 arg1 : Nat) : (s.safetyLog inst code arg0 arg1).Inv :=
  h.event ..

end Sys2Proof.Machine.State
end

