-- ==== Sys2Proof/Laws/Can.lean ====
section
/-!
SUPPORT. Laws of the CAN transmit buffers (15): what putting a frame into a buffer and taking it out leave in every buffer, and that both
write one row and keep the form of the state.
-/
namespace Sys2Proof.Machine.State

variable (s : State) (c b : Nat) (sh : Bool)

/-- Taking the entries of one key out of a list of pairs leaves the look-up of every other key. -/
theorem lookup_filter_ne {α β : Type} [BEq α] [LawfulBEq α] (l : List (α × β)) (k q : α) :
    (l.filter fun x => x.1 != k).lookup q = if q == k then none else l.lookup q := by
  induction l with
  | nil => simp
  | cons x l ih =>
    obtain ⟨a, v⟩ := x
    rw [List.filter_cons, List.lookup_cons]
    by_cases h : a = k
    · subst h
      simp only [bne_self_eq_false, Bool.false_eq_true, if_false, ih]
      cases q == a <;> rfl
    · have hk : (a != k) = true := by simpa using h
      simp only [hk, if_true, List.lookup_cons, ih]
      cases hq : q == a
      · rfl
      · simp [eq_of_beq hq, h]

/-- The buffer that a frame is put into holds it, and every other buffer what it held. -/
theorem canFrame_canPut (f : CanFrame) (c' b' : Nat) (sh' : Bool) :
    (s.canPut c b sh f).canFrame c' b' sh' = if (c', b', sh') = (c, b, sh) then some f else s.canFrame c' b' sh' := by
  simp only [canFrame, canPut, List.lookup_cons, lookup_filter_ne, setBit, set_canTx]
  cases h : (c', b', sh') == (c, b, sh) <;> simp_all

/-- The buffer that a frame is taken out of is empty, and every other buffer holds what it held. -/
theorem canFrame_canDrop (c' b' : Nat) (sh' : Bool) :
    (s.canDrop c b sh).canFrame c' b' sh' = if (c', b', sh') = (c, b, sh) then none else s.canFrame c' b' sh' := by
  simp [canFrame, canDrop, lookup_filter_ne, setBit]

/-- Putting a frame into a buffer writes the one row that shows it. -/
theorem get_canPut_ne (f : CanFrame) {q : Row} (i j : Nat)
    (h : (if sh then CAN.TXB_SHD.SHD else CAN.TXB_ACT.ACT).key c 0 ≠ q.key i j) : (s.canPut c b sh f).get q i j = s.get q i j :=
  get_set_ne _ _ _ _ _ _ h

/-- Taking a frame out of a buffer writes the one row that shows it. -/
theorem get_canDrop_ne {q : Row} (i j : Nat)
    (h : (if sh then CAN.TXB_SHD.SHD else CAN.TXB_ACT.ACT).key c 0 ≠ q.key i j) : (s.canDrop c b sh).get q i j = s.get q i j :=
  get_set_ne _ _ _ _ _ _ h

variable {s} in
theorem Inv.canPut (h : s.Inv) (f : CanFrame) : (s.canPut c b sh f).Inv :=
  (h.setBit (if sh then CAN.TXB_SHD.SHD else CAN.TXB_ACT.ACT) b true c 0).of_eq rfl rfl (fun k => by cases k <;> rfl) rfl rfl

variable {s} in
theorem Inv.canDrop (h : s.Inv) : (s.canDrop c b sh).Inv :=
  (h.setBit (if sh then CAN.TXB_SHD.SHD else CAN.TXB_ACT.ACT) b false c 0).of_eq rfl rfl (fun k => by cases k <;> rfl) rfl rfl

/-- When the active frame is done the shadow stands in its place, and no shadow is left (R351). -/
theorem canFrame_canShift (sh' : Bool) :
    (s.canShift c b).canFrame c b sh' = if sh' then none else s.canFrame c b true := by
  have h : (s.canDrop c b false).canFrame c b true = s.canFrame c b true := by simp [canFrame_canDrop]
  unfold canShift
  dsimp only
  split
  · rename_i f hf
    cases sh' <;> simp_all [canFrame_canPut, canFrame_canDrop]
  · rename_i hf
    cases sh' <;> simp_all [canFrame_canDrop]

variable {s} in
theorem Inv.canShift (h : s.Inv) : (s.canShift c b).Inv := by
  unfold State.canShift
  dsimp only
  split
  · exact ((h.canDrop c b false).canDrop c b true).canPut c b false _
  · exact h.canDrop c b false

end Sys2Proof.Machine.State
end

