-- ==== Sys2Proof/Laws/Discharge.lean ====
section
/-!
SUPPORT. Laws of the prediction before a discharge step (R338).
-/
namespace Sys2Proof.Machine.State

/-- A quotient is at most every number whose product with the divisor reaches the dividend, whichever way it is rounded. -/
theorem quotN_le {n d m : Nat} (hd : 0 < d) (h : n ≤ m * d) : quotN n d ≤ m := by
  have hle : n / d ≤ m := Nat.div_le_of_le_mul (by rwa [Nat.mul_comm])
  unfold quotN quot
  split
  · exact (Int.toNat_natCast _).le.trans hle
  · rename_i hm
    rw [if_neg (by omega)]
    have hlt : n / d < m := by
      refine lt_of_le_of_ne hle fun he => hm ?_
      have h1 := Nat.div_add_mod n d
      rw [he, Nat.mul_comm] at h1
      exact_mod_cast (by omega : n % d = 0)
    have : ((n / d : Nat) : Int) = (n : Int) / (d : Int) := Int.natCast_ediv _ _
    split <;> omega

/-- A step takes at most the energy of the link. -/
theorem eStep_le (s : State) (t : Nat) :
    s.eStep t ≤ (s.cLink * s.vLink * s.vLink + (2 * 1000000 * 2 ^ 30 - 1)) / (2 * 1000000 * 2 ^ 30) := by
  refine quotN_le (by decide) ?_
  have h1 : s.cLink * s.vLink * s.vLink * (2 ^ 64 - expNeg (20000 * t) (s.rDis * s.cLink))
      ≤ s.cLink * s.vLink * s.vLink * 2 ^ 64 := Nat.mul_le_mul_left _ (Nat.sub_le _ _)
  generalize s.cLink * s.vLink * s.vLink = e at h1 ⊢
  refine h1.trans ?_
  rw [← Nat.mul_assoc]
  refine Nat.mul_le_mul_right _ ?_
  omega

/-- The prediction allows a step when the whole energy of the link would fit. -/
theorem stepFits_of_link (s : State) (tr t : Nat)
    (h : tr * s.cTh + 10 * ((s.cLink * s.vLink * s.vLink + (2 * 1000000 * 2 ^ 30 - 1)) / (2 * 1000000 * 2 ^ 30))
      ≤ 10 * s.tRmax * s.cTh) : s.stepFits tr t = true := by
  have := s.eStep_le t
  simp only [stepFits, decide_eq_true_eq]
  omega

/-- It allows none above T_RMAX. -/
theorem stepFits_of_hot (s : State) (tr t : Nat) (h : 10 * s.tRmax * s.cTh < tr * s.cTh) : s.stepFits tr t = false := by
  simp only [stepFits, decide_eq_false_iff_not]
  omega

/-- Above T_RMAX no length fits. -/
theorem longestStep_of_hot (s : State) (tr n : Nat) (h : 10 * s.tRmax * s.cTh < tr * s.cTh) : s.longestStep tr n = 0 := by
  induction n with
  | zero => rfl
  | succ n ih => rw [longestStep, s.stepFits_of_hot tr (n + 1) h, ih]; rfl

end Sys2Proof.Machine.State
end

