-- ==== Sys2Proof/WellFormed.lean ====
section
/-!
DEFINITION. Which commands are well formed: a measured code fits its converter, a time or a count lies in the
range its rule gives it, a data list has the length its format has. An index is a Fin in Syntax.lean and needs no check.
-/
namespace Sys2Proof

/-- The part of an interval that lies in the tick. -/
def PvSeg.ticks : PvSeg → Nat
  | .settled n _ _ _ => n
  | .edge n _ _ _ _ => n

/-- A part of an edge does not go beyond the edge's end. -/
def PvSeg.wf : PvSeg → Bool
  | .settled _ _ _ _ => true
  | .edge n done total _ _ => 0 < total && done + n ≤ total

/-- A command is well formed when its operands fit the widths and lengths the spec gives them. -/
def Instr.wf : Instr → Bool
  | .regWrite _ _ => true
  | .fastSample => true
  | .ctrlSample _ => true
  | .comparatorSample _ => true
  | .chValid _ => true
  | .ofsStart _ => true
  | .ofsDone _ => true
  | .ofsAbandon _ => true
  | .senClip _ => true
  | .senBsl _ => true
  | .sumFault _ => true
  | .sup5Fault _ => true
  | .ihaSample codes => codes.length == 6
  | .ihaSat _ => true
  | .ihaCm _ => true
  | .ihaAdc _ => true
  | .ihaSum _ => true
  | .xchkWindow => true
  | .curXchk _ => true
  | .pvRecon _ legs => legs.length == 3 && legs.all (fun l => l.all PvSeg.wf && (l.map PvSeg.ticks).sum == 320)
  | .legMis _ => true
  | .vdcFrame _ _ _ _ => true
  | .vdcStale => true
  | .vdcLost => true
  | .senPitArm _ _ => true
  | .pitTimeout => true
  | .capRequest _ => true
  | .capFrame _ _ _ _ _ _ _ request => request < 2 ^ 64
  | .capTimeout _ => true
  | .capRecoveryEnd _ => true
  | .absLost _ => true
  | .incEdge _ _ stamp => stamp < 2 ^ 64
  | .incIllegal _ => true
  | .incIndex _ => true
  | .reref _ => true
  | .lineFlt _ _ _ => true
  | .posStill _ => true
  | .sourceLost _ => true
  | .posPitArm _ _ => true
  | .decisionTick => true
  | .tblSwap _ => true
  | .refStale _ => true
  | .bandWindow _ => true
  | .obsLost _ => true
  | .stoppingRampEnd _ => true
  | .xyHigh _ => true
  | .afConv _ => true
  | .obPitArm _ _ => true
  | .sqPitArm _ _ => true
  | .injConv _ => true
  | .polPulseEnd _ => true
  | .polFail _ => true
  | .injLost _ => true
  | .injLostRampEnd _ => true
  | .travRequest _ => true
  | .travHandover _ => true
  | .travAbort _ => true
  | .travHoldEnd _ => true
  | .travStep _ => true
  | .catchClassify _ => true
  | .catchPulse _ => true
  | .catchResult _ => true
  | .catchDeadline _ => true
  | .puReload _ _ stamp => stamp < 2 ^ 64
  | .cmpWrite _ _ _ _ => true
  | .puCommit _ _ => true
  | .puCompare _ _ stamp => stamp < 2 ^ 64
  | .puTrip _ _ _ stamp => stamp < 2 ^ 65
  | .captureClose _ => true
  | .tripClear _ _ _ => true
  | .firstFaultRearm _ => true
  | .swTrip _ => true
  | .debugHalt _ => true
  | .debugRelease => true
  | .puFrz _ _ => true
  | .frzAbort _ => true
  | .puPitArm _ _ _ => true
  | .cePeriodStart _ _ => true
  | .ceOverrun _ => true
  | .ceRelease _ _ _ => true
  | .coefWrite _ _ _ => true
  | .cePitArm _ _ => true
  | .engIllegal _ => true
  | .engMov _ _ => true
  | .engLdi _ _ _ => true
  | .engLd _ _ _ _ => true
  | .engSt _ _ _ => true
  | .engLda _ _ _ => true
  | .engSta _ _ _ => true
  | .engStaw _ _ _ => true
  | .engAdd _ _ => true
  | .engSub _ _ => true
  | .engNeg _ _ => true
  | .engAbs _ _ => true
  | .engShl _ _ _ => true
  | .engShr _ _ _ => true
  | .engMul _ _ _ _ => true
  | .engMac _ _ _ _ => true
  | .engMsu _ _ _ _ => true
  | .engCmplt _ _ _ _ => true
  | .engCmple _ _ _ _ => true
  | .engCmpeq _ _ _ _ => true
  | .engSel _ _ _ _ _ => true
  | .engMin _ _ _ _ => true
  | .engMax _ _ _ _ => true
  | .engClamp _ _ _ _ _ => true
  | .engSincos _ _ _ _ => true
  | .engPark _ _ _ _ _ _ => true
  | .engIpark _ _ _ _ _ _ => true
  | .engClarke _ _ _ _ _ _ => true
  | .engSqrt _ _ _ => true
  | .engDiv _ _ _ _ => true
  | .engPidf _ _ _ _ _ _ _ => true
  | .engTlu _ _ _ _ miss _ => miss == 0 || (12 ≤ miss && miss ≤ 40)
  | .engFfs _ _ _ miss _ => miss == 0 || (12 ≤ miss && miss ≤ 40)
  | .engIn _ _ _ => true
  | .engOut _ _ _ => true
  | .engOutrel _ => true
  | .engBr _ _ => true
  | .engBrc _ _ _ => true
  | .engCall _ _ => true
  | .engRet _ => true
  | .engLoop _ _ _ => true
  | .engEnd _ => true
  | .edgeCmd _ _ _ _ _ ref _ => ref < 2 ^ 65
  | .edgeStart _ dvdt => dvdt.length ≤ 512
  | .trimSatWarn _ _ => true
  | .softOff _ _ ref _ => ref < 2 ^ 65
  | .cfgWr _ _ _ => true
  | .cfgRd _ _ => true
  | .idleFrame _ => true
  | .cairnFrame _ ref _ => ref < 2 ^ 65
  | .islandRelease _ => true
  | .confDone _ => true
  | .islandSwap _ => true
  | .crcHi _ _ => true
  | .crcLo _ _ => true
  | .islandReset _ => true
  | .proxyRelease _ => true
  | .proxyConfDone _ => true
  | .proxySwap _ => true
  | .statusFrame _ _ _ => true
  | .edgeFrame _ _ _ _ _ _ first => first < 2 ^ 65
  | .tripFrame _ _ _ _ first => first < 2 ^ 65
  | .measFrame _ _ _ _ _ => true
  | .cfgRsp _ _ _ => true
  | .islandLinkLoss _ => true
  | .endpointLinkLoss _ => true
  | .belayCode _ _ => true
  | .scTurnOn _ start dvdt => start < 2 ^ 65 && dvdt.length ≤ 512
  | .ovbAssert _ _ => true
  | .bcTurnOn _ start dvdt => start < 2 ^ 65 && dvdt.length ≤ 512
  | .ovbDeassert _ => true
  | .islandUvlo _ _ => true
  | .uvloRecover _ => true
  | .islandDesat _ => true
  | .islandDidt _ => true
  | .islandOt _ _ => true
  | .islandPowerUp _ => true
  | .osdStart _ => true
  | .osdStep _ _ _ _ => true
  | .glkPitArm _ _ => true
  | .axPeriodStart _ _ _ _ _ => true
  | .auxOc _ _ _ _ => true
  | .vauxSample _ => true
  | .vauxRestart _ => true
  | .spLost _ => true
  | .auxCatch _ _ => true
  | .startFail _ => true
  | .auxAlignEnd _ => true
  | .auxInjConv _ => true
  | .auxPolPulseEnd _ => true
  | .obsSlow _ => true
  | .auxVlim _ => true
  | .vlimClear _ => true
  | .bsUv _ _ _ => true
  | .bsHoldEnd _ => true
  | .axPitArm _ _ _ => true
  | .actRefresh _ => true
  | .actSave => true
  | .actVerify _ => true
  | .entryFetched words words0 _ => words.length == 256 && words0.length == 256
  | .fetchTmo => true
  | .bindCheck => true
  | .cacheCheck _ _ => true
  | .saveDone words _ => words.length == 2048
  | .perstn => true
  | .functionLevelReset => true
  | .linkDown => true
  | .busMasterClear => true
  | .sizeWrite _ _ => true
  | .doorbell _ _ _ => true
  | .descFetch _ _ => true
  | .dmaError _ _ => true
  | .irqTimer _ => true
  | .ringNop => true
  | .ringSnapshot => true
  | .snapshotNext => true
  | .ringRefresh => true
  | .ringVerify => true
  | .ringSave => true
  | .ringPower => true
  | .ringReset => true
  | .ringEnable _ => true
  | .ringDisable _ => true
  | .disableRampEnd _ => true
  | .ringDischarge _ => true
  | .dischargeCancel _ => true
  | .ringHold _ => true
  | .holdRelease _ => true
  | .setpointDesc _ records => records.length ≤ 256
  | .setpointRecord _ => true
  | .telemetryRecord _ _ => true
  | .eventRecord _ => true
  | .fwChunk _ => true
  | .fwCheckDone _ _ => true
  | .calChunk _ => true
  | .calCheckDone _ _ => true
  | .changeLog => true
  | .eventStore => true
  | .snapshotRead => true
  | .canSend _ _ _ data => data.length ≤ 64
  | .canCancel _ _ => true
  | .ethSend frame => frame.length ≤ 1518
  | .canRx _ frame stamp => frame.data.length ≤ 64 && stamp < 2 ^ 64
  | .ethRx _ frame _ _ stamp => frame.length ≤ 2000 && stamp < 2 ^ 64
  | .blSelection _ => true
  | .safeEnter _ => true
  | .belayRelease _ => true
  | .tmError _ => true
  | .katPeriodic _ _ => true
  | .tmXchk => true
  | .blIndex _ => true
  | .alignTimeout _ => true
  | .statusWord => true
  | .bivWarn _ => true
  | .bivExpire _ => true
  | .sglTimeout _ => true
  | .setpointLapse _ => true
  | .lapseRampEnd _ => true
  | .lapseHoldEnd _ => true
  | .xtripPin _ => true
  | .hvilFault kind => 1 ≤ kind && kind ≤ 3
  | .hvilRestore => true
  | .ssoutFault => true
  | .heartbeatSend => true
  | .blHeartbeat _ => true
  | .ciLost => true
  | .holdDrive => true
  | .blVdcSample _ => true
  | .vdcFallback => true
  | .mbxCfgWrite _ _ => true
  | .mbxPitArm => true
  | .mbxKat _ => true
  | .pwdLoad => true
  | .sesOpen => true
  | .sesClose => true
  | .pwdSet _ => true
  | .logVerify => true
  | .logAnchor => true
  | .ridgeCheck => true
  | .ridgeStart => true
  | .netReset => true
  | .testPulse _ _ _ _ _ _ _ => true
  | .shFault _ _ _ _ _ _ => true
  | .pwdLockoutEnd => true
  | .sesTmo => true
  | .pwdBufClear => true
  | .dliDownlink => true
  | .disStep len => 1 ≤ len && len ≤ 50
  | .disStepEnd => true
  | .disEnd => true
  | .dliLinkLoss => true
  | .stuckOff => true
  | .stuckOn => true
  | .broadcastAssert => true
  | .broadcastDeassert => true
  | .abseilStep => true
  | .ledgerUpdate _ => true
  | .disMiss => true
  | .dliPitArm _ => true
  | .canJoin _ => true
  | .canTxDone _ stamp => stamp < 2 ^ 64
  | .canTxError _ _ _ => true
  | .idCollision _ => true
  | .canAlone _ => true
  | .busOff _ => true
  | .boRecover _ => true
  | .canRecovered _ => true
  | .domTmo _ => true
  | .canPex _ _ => true
  | .canPitArm _ _ _ => true
  | .ethLinkChange _ _ _ => true
  | .msFault _ => true
  | .ethTxDone _ _ stamp => stamp < 2 ^ 64
  | .pdelayRx _ stamp => stamp < 2 ^ 64
  | .syncRx offset => -(2 ^ 62) < offset && offset < 2 ^ 62
  | .asLocked => true
  | .asHoldover => true
  | .slowRound codes mt _ => codes.length == 10 && mt.length == 4
  | .roundDone => true
  | .hkStale => true
  | .bsRst => true
  | .abiOt _ => true
  | .dieOt _ => true
  | .otRestart _ => true
  | .hkPitArm _ _ => true
  | .lcTransition _ _ _ => true
  | .authChallenge _ _ _ => true
  | .authVerify _ _ => true
  | .authClose _ => true
  | .roleTmo => true
  | .authLockoutEnd => true
  | .intInstall _ _ _ => true
  | .roleInstall _ => true
  | .roleRevoke _ => true
  | .sakInstall _ => true
  | .sakRetire _ => true
  | .fuseBlow _ => true
  | .fwCommit => true
  | .calLoadDone _ _ => true
  | .debugAccess _ _ _ => true
  | .singleStep _ => true
  | .tapIdcode => true
  | .tapBypass => true
  | .tapSamplePreload => true
  | .tapExtest => true
  | .dapSelect => true
  | .dbgTrstn => true
  | .dbgVrefLoss => true
  | .bootRom _ _ => true
  | .pwrCmd _ => true
  | .parkRampEnd => true
  | .unparkDone => true
  | .autoUnpark => true
  | .pdEn _ => true
  | .domainOn _ => true
  | .vlvLow _ => true
  | .vlvHigh _ => true
  | .brownout _ => true
  | .brownoutRecover _ => true
  | .wakePin => true
  | .wakeAlarm => true
  | .pwrWakeLow => true
  | .dliPowerOn => true
  | .pllFault dev => dev < 2 ^ 32
  | .pllLock => true
  | .clkFault _ _ dev => dev < 2 ^ 32
  | .clkAmbig => true
  | .timeLoRead => true
  | .cairnGo => true
  | .cairnArm => true
  | .cairnAt => true
  | .cairnQueued => true
  | .engineBarrier _ => true
  | .sysPitArm _ => true
  | .powerOn => true
  | .rstnAssert => true
  | .rstCmd _ _ _ _ _ => true
  | .preResetEnd => true
  | .blkReset => true
  | .blkTimeout => true
  | .wdKick _ _ => true
  | .hcWatchdog _ => true
  | .engineWatchdog _ _ => true
  | .blRst _ => true
  | .trimLoad _ _ _ => true
  | .domainStep _ _ _ _ => true
  | .belayStart _ => true
  | .blSelftest _ => true
  | .startReady => true
  | .memScrub _ => true
  | .winAbort _ => true
  | .marchStart _ _ _ => true
  | .marchDone _ _ _ _ _ _ _ _ _ => true
  | .bistStart _ => true
  | .bistDone _ _ _ => true
  | .perfOvf _ _ => true
  | .sampleRecord _ _ record => record.length == 32
  | .cntLoRead _ => true
  | .memPitArm _ _ => true
  | .puStrobeLoss _ => true
  | .belayLineLoss _ => true
  | .invalidFrame _ _ _ => true
  | .canRxError _ _ _ => true
  | .pcieLinkUp gen lanes mps mrrs => (1 ≤ gen && gen ≤ 3) && (lanes == 1 || lanes == 2) && [128, 256, 512, 1024, 2048, 4096].contains mps
      && [128, 256, 512, 1024, 2048, 4096].contains mrrs
  | .rstnRelease => true
  | .dliPowerLoss => true
  | .zeroingDone => true
  | .commonModeEvent _ => true
  | .dbgVrefPresent => true

end Sys2Proof
end

