-- ==== Sys2Proof/Tests/Slice0.lean ====
section
/-!
SUPPORT. Tests: a witness for the hypotheses of each statement, clause by clause and with the conditions inside the clauses; the
well-formedness checks on an ill-formed term each; and small runs of one command with values from the spec.
-/
namespace Sys2Proof.Tests
open Sys2Proof Sys2Proof.Machine Sys2Proof.Machine.State
set_option maxRecDepth 20000
set_option Elab.async false

/-- A state with rows set: each entry names a row, an instance, an element and a value. -/
def sets (s : State) (l : List (Row × Nat × Nat × Nat)) : State := l.foldl (fun t p => t.set p.1 p.2.2.2 p.2.1 p.2.2.1) s

/-- The state that the witnesses begin with: after reset, every domain on. -/
def base : State := State.reset.set SYS.PWR_STAT.PD_ON 0x3FF

/-- It with rows set. -/
def st (l : List (Row × Nat × Nat × Nat)) : State := sets base l

/-- The image of an empty body for an ordering code. -/
def emptyImage (code : Nat) : List Byte :=
  (leBytes 4 0x4E564657 ++ [1, 0, code, 0, 0, 0, 0, 0, 0, 0, 0, 0] ++ List.replicate 200 0).map (BitVec.ofNat 8)

/-- Whatever the ordering code of the part, an image of its own passes. -/
theorem imageOk : ∃ (keyOk : Bool) (sigOk : Bool) (s : State), (s.is SEC.finalFw = true) ∧ (s.fwReason s.fwImage keyOk sigOk = 0) ∧ (s.get SEC.finalFw = 1) := by
  cases h : Config.orderingCode
  · refine ⟨true, true, { st [(SEC.finalFw,0,0,1)] with fwImage := emptyImage 1 }, by decide, ?_, by decide⟩
    simp only [State.fwReason, h]; decide
  · refine ⟨true, true, { st [(SEC.finalFw,0,0,1)] with fwImage := emptyImage 2 }, by decide, ?_, by decide⟩
    simp only [State.fwReason, h]; decide

/-- What a command answers, when it answers a next state. -/
def after (o : Out) (f : State → Bool) : Bool :=
  match o with
  | .next t => f t
  | _ => false

/-- A quotient at or above 0x7FFF saturates, however it is rounded. -/
theorem min_quot_top {n d : Int} (hd : 0 < d) (h : 0x7FFF * d ≤ n) : min 0x7FFF (quot n d).natAbs = 0x7FFF := by
  have : 0x7FFF ≤ n / d := (Int.le_ediv_iff_mul_le hd).2 h
  unfold quot
  split
  · omega
  · split <;> omega

/-- Axis B turning fast past a mean of its encoder, for the selection of SHORT. -/
def fastShaft : State := { sets base [(BL.lineFlt,1,0,0),(BL.blTimed,1,0,1),(BL.secOk,1,0,1),(SQ.STATUS.JOINED,0,0,0),(BL.blN,1,0,2),(BL.blT,1,0,90000),(BL.blT,1,1,80000),(BL.sec,1,2,0x00040001),(BL.TM_CPR.CPR_BL,1,0,4),(BL.TM_PSI.PSI_PM,1,0,1000)] with now := 90000 }

/-- Axis B's speed from one interval of 10,000 counts between two edges, with 4 edges a turn, 4 pole pairs and W_BASE 1. -/
theorem speed_top (s : State) (h : s.now = 90000 ∧ s.get BL.blN 1 = 2 ∧ s.get BL.blT 1 0 = 90000 ∧ s.get BL.blT 1 1 = 80000 ∧ s.is BL.lineFlt 1 = false
    ∧ s.is BL.blTimed 1 = true ∧ s.secInForce 1 = true ∧ s.wBase 1 = 1 ∧ s.poles 1 = 4 ∧ s.gov BL.TM_CPR.CPR_BL 7 1 1 = 4 ∧ s.is BL.blDir 1 = false) :
    s.blSpeed 1 = some 0x7FFF := by
  obtain ⟨h1, h2, h3, h4, h5, h6, h7, h8, h9, h10, h11⟩ := h
  simp only [blSpeed, rateOf, quotF, h1, h2, h3, h4, h5, h6, h7, h8, h9, h10, h11]
  simp (decide := true) [min_quot_top]

theorem fastShaft_speed : fastShaft.blSpeed 1 = some 0x7FFF := speed_top _ (by decide)

theorem fastShaft_clock : (fastShaft.belayClock 1).blSpeed 1 = some 0x7FFF := speed_top _ (by decide)

theorem fastShaft_fast : (after (exec (.blSelection 1) fastShaft) (fun t => decide ((t.emfSquares 1 (t.polLo BL.POL_LO.SC_ON 1)).2 < (t.emfSquares 1 (t.polLo BL.POL_LO.SC_ON 1)).1)) = true) := by
  show after (execBlSelection 1 fastShaft) _ = true
  unfold execBlSelection
  dsimp only
  rw [show (↑(1 : Fin 2) : Nat) = 1 from rfl, fastShaft_clock]
  decide


theorem test_witness_StepRunsTheFrontCommand : State.reset.pending = [] :=
  rfl

theorem test_witness_EveryStepKeepsTheForm : ∃ s t : State, step s = .next t ∧ s.pending = [.linkDown] :=
  ⟨{ State.reset with pending := [.linkDown] }, _, rfl, rfl⟩

theorem test_witness_RetiredIsFinal : ∃ s t : State, s.get SEC.LC_STAT.STATE = 4 ∧ s.get SEC.lcIntent = 0 ∧ step s = .next t ∧ s.pending = [.linkDown] :=
  ⟨{ State.reset.set SEC.LC_STAT.STATE 4 with pending := [.linkDown] }, _, by decide, by decide, rfl, rfl⟩

theorem test_witness_RegisterWritesByTheirAccessCode :
    (∃ (addr : BitVec 26) (wd : Fin 1048576) (s : State), (s.getBit SYS.PWR_STAT.PD_ON 2 = true ∧ addr.toNat = 4 * wd.val)) ∧
    (∃ (data : BitVec 32) (s : State), (s.getBit SYS.PWR_STAT.PD_ON 2 = true) ∧ (s.is MEM.CTL.LOCK = false) ∧ (16 ≤ data.toNat % 65536)) ∧
    (∃ (data : BitVec 32) (s : State), (s.getBit SYS.PWR_STAT.PD_ON 2 = true) ∧ (s.is MEM.CTL.LOCK = false) ∧ (data.toNat % 65536 < 16)) ∧
    (∃ (s : State), (s.getBit SYS.PWR_STAT.PD_ON 2 = true) ∧ (s.is MEM.CTL.LOCK = true)) ∧
    (∃ (s : State), (s.getBit SYS.PWR_STAT.PD_ON 2 = true ∧ s.getBit SYS.PWR_STAT.PD_ON 1 = true) ∧ (s.is BL.PWD_STAT.OPEN = false)) ∧
    (∃ (addr : BitVec 26) (s : State), ((0x00400000 ≤ addr.toNat ∧ addr.toNat < 0x01000000) ∨ 0x01400000 ≤ addr.toNat ∨ s.getBit SYS.PWR_STAT.PD_ON 2 = false) ∧ (s.is SEC.ROLE.OPEN = false)) ∧
    (∃ (addr : BitVec 26) (s : State), ((0x00400000 ≤ addr.toNat ∧ addr.toNat < 0x01000000) ∨ 0x01400000 ≤ addr.toNat ∨ s.getBit SYS.PWR_STAT.PD_ON 2 = false) ∧ (s.is SEC.ROLE.OPEN = true)) :=
  ⟨⟨0x3FFFFC, 0xFFFFF, st [(SYS.PWR_STAT.PD_ON,0,0,4)], by decide⟩,
   ⟨16, st [(SYS.PWR_STAT.PD_ON,0,0,4),(MEM.CTL.LOCK,0,0,0)], by decide⟩,
   ⟨15, st [(SYS.PWR_STAT.PD_ON,0,0,4),(MEM.CTL.LOCK,0,0,0)], by decide⟩,
   ⟨st [(SYS.PWR_STAT.PD_ON,0,0,4),(MEM.CTL.LOCK,0,0,1)], by decide⟩,
   ⟨st [(SYS.PWR_STAT.PD_ON,0,0,6),(BL.PWD_STAT.OPEN,0,0,0)], by decide⟩,
   ⟨0x00400000, st [], by decide⟩,
   ⟨0x00400000, st [(SEC.ROLE.OPEN,0,0,1)], by decide⟩⟩

theorem test_witness_CurrentSamplesScaledAndJudged :
    (∃ (ch : Fin 6) (s : State), (∀ k < 6, s.pit 0x16 4 k = false ∧ s.is SEN.sumPit k = false ∧ s.is SEN.CH_STAT.SUBST k = false) ∧ (s.getBit SEN.CTL.CH_EN ch = true)) ∧
    (∃ (axis : Fin 2) (k : Fin 3) (s : State), (∀ c < 6, s.is SEN.CH_STAT.SUBST c = false) ∧ (s.getBit SEN.CTL.CH_EN (3 * axis + k) = true) ∧ (s.is SEN.ctrlDue axis = true)) ∧
    (∃ (ch : Fin 6) (dat : BitVec 6) (s : State), (s.is SYS.pllDown = false ∧ s.is SYS.lowState = false) ∧ (s.getBit SEN.CTL.CH_EN ch = true) ∧ (∀ c < 6, ∀ k < 4, s.pit 0x16 k c = false) ∧ (s.is SEN.bitPit ch = false) ∧ (after (exec (.comparatorSample dat) s) (fun t => decide (s.geti SEN.CH_OC.OC_HI ch < (t.scale ch (t.compDensity ch)).2)) = true)) ∧
    (∃ (ch : Fin 6) (dat : BitVec 6) (s : State), (s.is SYS.pllDown = false ∧ s.is SYS.lowState = false) ∧ (s.getBit SEN.CTL.CH_EN ch = true) ∧ (∀ c < 6, ∀ k < 4, s.pit 0x16 k c = false) ∧ (s.is SEN.bitPit ch = false) ∧ (after (exec (.comparatorSample dat) s) (fun t => decide ((t.scale ch (t.compDensity ch)).2 < s.geti SEN.CH_OC.OC_LO ch)) = true)) ∧
    (∃ (ch : Fin 6) (s : State), (s.getBit SEN.CTL.CH_EN ch = true) ∧ (192 ≤ s.get SEN.clks ch)) ∧
    (∃ (star : Fin 2) (s : State), (s.get SEN.SUM_CFG.SUM_N ≤ s.get SEN.sumRun star)) ∧
    (∃ (s : State), (s.evWarning.length < 64)) :=
  ⟨⟨5, st ([(SEN.CTL.CH_EN,0,0,63),(BL.PIT_STAT.ARMED,0,0,0)] ++ (List.range 6).flatMap fun k => [(SEN.sumPit,k,0,0),(SEN.CH_STAT.SUBST,k,0,0)]), by decide⟩,
   ⟨1, 2, (let k : Fin 3 := 2; st ([(SEN.CTL.CH_EN,0,0,63),(SEN.ctrlDue,1,0,1)] ++ (List.range 6).map fun k => (SEN.CH_STAT.SUBST,k,0,0))), by decide⟩,
   ⟨5, 63, st [(SEN.CTL.CH_EN,0,0,32),(BL.PIT_STAT.ARMED,0,0,0),(SEN.hist,5,0,2^30-1)], by decide⟩,
   ⟨1, 0, st [(SEN.CTL.CH_EN,0,0,2),(BL.PIT_STAT.ARMED,0,0,0),(SEN.hist,1,0,0)], by decide⟩,
   ⟨5, st [(SEN.CTL.CH_EN,0,0,63),(SEN.clks,5,0,192)], by decide⟩,
   ⟨1, st [(SEN.SUM_CFG.SUM_N,0,0,8),(SEN.sumRun,1,0,8)], by decide⟩,
   ⟨st [], by decide⟩⟩

theorem test_witness_CurrentSensorFaultsAndOffsets :
    (∃ (k : Nat) (axis : Fin 2) (s : State), (s.is (State.ofsRow axis) = true) ∧ (s.ofsOk axis = true) ∧ (2 ^ s.get SEN.OFS_CMD.OFS_LEN ≤ s.get SEN.ofsCnt axis) ∧ (k < 3) ∧ (s.getBit SEN.CTL.CH_EN (3 * axis + k) = true) ∧ (s.is SEN.CH_STAT.SUBST (3 * axis + k) = false) ∧ (s.is SEN.ofsFlag (3 * axis + k) = true)) ∧
    (∃ (axis : Fin 2) (s : State), (s.is (State.ofsRow axis) = true) ∧ (s.ofsOk axis = false)) ∧
    (∃ (ch : Fin 6) (s : State), (24 ≤ s.get SEN.run ch)) ∧
    (∃ (ch : Fin 6) (s : State), (s.get SEN.CH_CFG.LOSS_WIN ch ≤ s.get SEN.run ch) ∧ ((∀ k < 6, k ≠ (ch : Nat) → s.chLost k = false)) ∧ (s.is SEN.CTL.RECON_EN = true)) ∧
    (∃ (axis : Fin 2) (s : State), (s.is (State.ofsRow axis) = false) ∧ (s.ofsOk axis = true) ∧ (s.pdOn 3 = true)) ∧
    (∃ (axis : Fin 2) (s : State), (s.is (State.ofsRow axis) = false) ∧ (s.ofsOk axis = false) ∧ (s.pdOn 3 = true)) :=
  ⟨⟨1, 1, st ([(SEN.OFS_CMD.START_B,0,0,1),(SEN.OFS_CMD.OFS_LEN,0,0,4),(SEN.ofsCnt,1,0,16),(SEN.CTL.CH_EN,0,0,63),(SEN.ofsFlag,4,0,1),(SEN.CTL.LOCK,0,0,0),(GLK.LINK_STAT.UP,0,0,4095),(SEN.ell,1,0,0),(SEN.vdcEver,0,0,1),(SEN.VDC_STAT.LOST,0,0,0),(SEN.VDC_VAL.FAST,0,0,1000)] ++ (List.range 12).flatMap fun k => [(GI.STATUS.ON,k,0,0),(GI.cmdOn,k,0,0)]), by decide⟩,
   ⟨0, st [(SEN.OFS_CMD.START_A,0,0,1)], by decide⟩,
   ⟨5, st [(SEN.run,5,0,24)], by decide⟩,
   ⟨0, st [(SEN.run,0,0,64)], by decide⟩,
   ⟨1, st ([(SEN.OFS_CMD.START_B,0,0,0),(SEN.CTL.LOCK,0,0,0),(GLK.LINK_STAT.UP,0,0,4095),(SEN.ell,1,0,0),(SEN.vdcEver,0,0,1),(SEN.VDC_STAT.LOST,0,0,0),(SEN.VDC_VAL.FAST,0,0,1000)] ++ (List.range 12).flatMap fun k => [(GI.STATUS.ON,k,0,0),(GI.cmdOn,k,0,0)]), by decide⟩,
   ⟨0, st [(SEN.OFS_CMD.START_A,0,0,0)], by decide⟩⟩

theorem test_witness_PhaseVoltageAndDcLinkSensing :
    (∃ (leg : Fin 6) (s : State), (s.axEn 0 = false ∧ s.axEn 1 = false) ∧ (s.get SEN.PVR_CFG.PV_N ≤ s.get SEN.pvRun leg) ∧ (s.getBit SEN.pvFail leg = true)) ∧
    (∃ (s : State), (s.axEn 0 = true ∧ s.axEn 1 = true) ∧ (∀ k < 6, s.getBit SEN.pvFail k = true ∧ s.getBit SEN.pvSign k = true)) ∧
    (∃ (s : State), (s.pit 0x16 5 0 = false ∧ s.is SEN.vdcPit = false) ∧ (s.is SEN.vdcEver = false)) ∧
    (∃ (sel : BitVec 4) (ch : BitVec 3) (s : State), (s.pitAllowed = true) ∧ (1 ≤ sel.toNat ∧ sel.toNat ≤ 6) ∧ (ch.toNat ≤ 5) ∧ (s.pdOn 3 = true)) :=
  ⟨⟨5, st [(ACT.chEn,0,0,0),(ACT.chEn,1,0,0),(ACT.chEn,7,0,0),(SEN.PVR_CFG.PV_N,0,0,4),(SEN.pvRun,5,0,4),(SEN.pvFail,0,0,63)], by decide⟩,
   ⟨st [(ACT.chEn,0,0,1),(ACT.chEn,1,0,1),(ACT.chEn,7,0,1),(SEN.pvFail,0,0,63),(SEN.pvSign,0,0,63)], by decide⟩,
   ⟨st [(BL.PIT_STAT.ARMED,0,0,0),(SEN.vdcPit,0,0,0),(SEN.vdcEver,0,0,0)], by decide⟩,
   ⟨6, 5, st [(BL.PIT_STAT.ARMED,0,0,0),(SEC.LC_STAT.STATE,0,0,0),(SEC.hostRole,0,0,1)], by decide⟩⟩

theorem test_witness_RedundantCurrentPathJudged :
    (∃ (s : State), (∀ k < 6, s.pit 0x30 1 k = false ∧ s.is BL.ihaPit k = false)) ∧
    (∃ (ch : Fin 6) (s : State), (3 ≤ s.get BL.satRun ch) ∧ (s.getBit BL.IHA_STAT.IHA_SAT ch = false) ∧ (s.getBit BL.IHA_STAT.IHA_CM ch = false) ∧ (s.getBit BL.IHA_STAT.IHA_ADC ch = false)) ∧
    (∃ (star : Fin 2) (s : State), (20 ≤ s.get BL.ihaSumRun star)) ∧
    (∃ (ch : Fin 6) (s : State), (3 ≤ s.get BL.xRun ch)) :=
  ⟨⟨st ([(BL.PIT_STAT.ARMED,0,0,0)] ++ (List.range 6).map fun k => (BL.ihaPit,k,0,0)), by decide⟩,
   ⟨5, st [(BL.satRun,5,0,3)], by decide⟩,
   ⟨1, st [(BL.ihaSumRun,1,0,20)], by decide⟩,
   ⟨5, st [(BL.xRun,5,0,3)], by decide⟩⟩

theorem test_witness_PositionSourcesTakeTheirInputs_1 :
    (∃ (axis : Fin 2) (s : State), (s.is POS.CAP_STAT.BUSY axis = true)) ∧
    (∃ (axis : Fin 2) (attn : Bool) (word : BitVec 32) (crc : BitVec 6) (s : State), (s.is POS.CAP_STAT.BUSY axis = true ∧ s.is POS.tmoPit axis = false ∧ s.is POS.crcPit axis = false ∧ s.is POS.lfCap axis = false) ∧ (crcM 6 0x19 0x3F ([true, attn] ++ (List.range (s.get POS.CAP_CFG.WLEN axis)).map fun i => bit word.toNat i) = crc.toNat) ∧ (s.is POS.CAP_CFG.GRAY axis = false) ∧ (attn = true) ∧ (s.is POS.wordRow axis = true)) ∧
    (∃ (axis : Fin 2) (aLeads : Bool) (stamp : Nat) (s : State), (s.pit 0x17 3 axis = false) ∧ (s.is POS.edgeEver axis = true) ∧ (stamp < s.get POS.edgeT axis 0 + 40) ∧ (s.is POS.INC_STAT.DIR axis = (aLeads != s.is POS.INC_CFG.SWAP axis))) ∧
    (∃ (axis : Fin 2) (startOk : Bool) (valid : Bool) (attn : Bool) (word : BitVec 32) (crc : BitVec 6) (s : State), (s.is POS.CAP_STAT.BUSY axis = true ∧ s.is POS.tmoPit axis = false ∧ s.is POS.crcPit axis = false ∧ s.is POS.lfCap axis = false) ∧ (startOk = false ∨ valid = false ∨ crcM 6 0x19 0x3F ([valid, attn] ++ (List.range (s.get POS.CAP_CFG.WLEN axis)).map fun i => bit word.toNat i) ≠ crc.toNat)) ∧
    (∃ (axis : Fin 2) (attn : Bool) (word : BitVec 32) (crc : BitVec 6) (s : State), (s.is POS.CAP_STAT.BUSY axis = true ∧ s.is POS.tmoPit axis = false ∧ s.is POS.crcPit axis = false ∧ s.is POS.lfCap axis = false) ∧ (crcM 6 0x19 0x3F ([true, attn] ++ (List.range (s.get POS.CAP_CFG.WLEN axis)).map fun i => bit word.toNat i) = crc.toNat) ∧ (s.is POS.wordRow axis = false)) ∧
    (∃ (axis : Fin 2) (s : State), (s.get POS.CAP_CFG.INV_N axis ≤ s.get POS.discards axis) ∧ (s.joined = false)) ∧
    (∃ (axis : Fin 2) (s : State), (s.is POS.INC_CFG.Z_EN axis = true ∧ s.getBit POS.lfInc 1 axis = false) ∧ (s.pit 0x17 4 axis = false ∧ s.is POS.idxWait axis = true)) ∧
    (∃ (pair : Fin 3), (pair = 2)) :=
  ⟨⟨0, st [(POS.CAP_STAT.BUSY,0,0,1)], by decide⟩,
   ⟨0, true, 0, BitVec.ofNat 6 (crcM 6 0x19 0x3F ([true, true] ++ List.replicate 24 false)), st [(POS.CAP_STAT.BUSY,0,0,1),(POS.tmoPit,0,0,0),(POS.crcPit,0,0,0),(POS.CAP_CFG.WLEN,0,0,24),(POS.CAP_CFG.GRAY,0,0,0),(POS.wordRow,0,0,1)], by decide⟩,
   ⟨1, true, 500, st [(BL.PIT_STAT.ARMED,0,0,0),(POS.edgeEver,1,0,1),(POS.edgeT,1,0,480),(POS.INC_STAT.DIR,1,0,1)], by decide⟩,
   ⟨1, false, false, false, 0, 0, st [(POS.CAP_STAT.BUSY,1,0,1),(POS.tmoPit,1,0,0),(POS.crcPit,1,0,0)], by decide⟩,
   ⟨0, true, 0, BitVec.ofNat 6 (crcM 6 0x19 0x3F ([true, true] ++ List.replicate 24 false)), st [(POS.CAP_STAT.BUSY,0,0,1),(POS.tmoPit,0,0,0),(POS.crcPit,0,0,0),(POS.CAP_CFG.WLEN,0,0,24),(POS.wordRow,0,0,0)], by decide⟩,
   ⟨1, st [(POS.CAP_CFG.INV_N,1,0,3),(POS.discards,1,0,3)], by decide⟩,
   ⟨1, st [(POS.INC_CFG.Z_EN,1,0,1),(POS.lfInc,1,0,0),(BL.PIT_STAT.ARMED,0,0,0),(POS.idxWait,1,0,1)], by decide⟩,
   ⟨2, by decide⟩⟩

theorem test_witness_PositionSourcesTakeTheirInputs_2 :
    (∃ (axis : Fin 2) (pair : Fin 3) (present : Bool) (s : State), (pair = 0) ∧ (present = true) ∧ (s.axEn (s.lead axis) = true) ∧ (s.joined = false ∨ (axis = 0 ∧ s.getBit POS.XCHK_STAT.VALID 4 0 = false))) ∧
    (∃ (axis : Fin 2) (s : State), (s.get POS.edgeT axis 0 + s.get POS.SPD_CFG.STILL_MS axis * 400000 ≤ s.now)) ∧
    (∃ (axis : Fin 2) (s : State), (s.pdOn (3 + axis) = true) ∧ (s.axEn (s.lead axis) = true)) ∧
    (∃ (axis : Fin 2) (s : State), (s.pdOn (3 + axis) = true) ∧ (s.axEn (s.lead axis) = false)) ∧
    (∃ (axis : Fin 2) (i j k : Fin 5) (s : State), (s.joined = false ∨ axis = 0) ∧ (i ≠ j ∧ i ≠ k ∧ j ≠ k ∧ ∀ n : Fin 5, s.getBit POS.XCHK_STAT.VALID n axis = (n == i || n == j || n == k)) ∧ (s.disagree axis i j = true ∧ s.disagree axis i k = true ∧ s.disagree axis j k = false)) ∧
    (∃ (sel : BitVec 4) (s : State), (s.pitAllowed = true) ∧ (1 ≤ sel.toNat ∧ sel.toNat ≤ 5) ∧ (s.pdOn 3 = true)) :=
  ⟨⟨1, 0, true, st [(SQ.STATUS.JOINED,0,0,0),(ACT.chEn,1,0,1)], by decide⟩,
   ⟨1, { st [(POS.SPD_CFG.STILL_MS,1,0,50)] with now := 20000000 }, by decide⟩,
   ⟨1, st [(SQ.STATUS.JOINED,0,0,0),(ACT.chEn,1,0,1)], by decide⟩,
   ⟨0, st [(POS.CAP_STAT.BUSY,0,0,1)], by decide⟩,
   ⟨1, 2, 0, 4, st [(POS.XCHK_STAT.VALID,1,0,21),(POS.XCHK_CFG.ANG_N,1,0,5),(POS.pairA,1,2,5),(POS.pairA,1,14,5)], by decide⟩,
   ⟨5, st [(BL.PIT_STAT.ARMED,0,0,0),(SEC.LC_STAT.STATE,0,0,0),(SEC.hostRole,0,0,1)], by decide⟩⟩

theorem test_witness_TableControlEventsTakeEffect_1 :
    (∃ (axis : Fin 2) (s : State), (2 ^ s.get SQ.BAND_CTL.WIN axis ≤ s.get SQ.winTick axis) ∧ (s.get SQ.STATUS.MODE axis ≠ 4 ∨ s.is SQ.BAND_CTL.BAND_EN axis = false ∨ 2 ^ s.get SQ.BAND_CTL.WIN axis < 4 * s.get SQ.bigErr axis) ∧ (s.get SQ.STATUS.MODE axis = 4) ∧ (s.is SQ.BAND_CTL.BAND_EN axis = true)) ∧
    (∃ (axis : Fin 2) (s : State), (2 * s.get SQ.REF_CFG.REF_DIV axis ≤ s.get SQ.refAge axis)) ∧
    (∃ (axis : Fin 2) (s : State), (8 ≤ s.get SQ.resRun axis ∧ s.get SQ.STATUS.MODE axis = 4)) ∧
    (∃ (axis : Fin 2) (s : State), (s.get SQ.STATUS.MODE axis = 6 ∧ s.is SQ.OBS_STAT.STOP axis = false ∧ s.cmdBarred axis = false) ∧ (5 * s.get SQ.OBS_CFG.RAMP_US axis ≤ 2 * s.get SQ.rampN axis) ∧ (s.is SQ.OBS_CFG.RETRY_MAX axis = false)) ∧
    (∃ (axis : Fin 2) (s : State), (s.get SQ.XY_CFG.XY_N axis ≤ s.get SQ.xyRun axis)) ∧
    (∃ (axis : Fin 2) (s : State), (8 * (s.geti OB.afSpd axis).natAbs < 7 * s.get OB.SLS_CFG.SLS_MIN axis)) ∧
    (∃ (axis : Fin 2) (s : State), (s.get OB.SLS_CFG.SLS_MIN axis < (s.geti OB.afSpd axis).natAbs) ∧ (s.get OB.afBad axis < s.get OB.SLS_CFG.CONV_N axis) ∧ (s.get OB.SLS_CFG.CONV_N axis ≤ s.get OB.afOk axis)) ∧
    (∃ (s : State), (s.is SYS.pllDown = true ∨ s.pdOn 2 = false)) :=
  ⟨⟨1, st [(SQ.BAND_CTL.WIN,1,0,8),(SQ.winTick,1,0,256),(SQ.STATUS.MODE,1,0,4),(SQ.BAND_CTL.BAND_EN,1,0,1),(SQ.bigErr,1,0,65)], by decide⟩,
   ⟨1, st [(SQ.REF_CFG.REF_DIV,1,0,8),(SQ.refAge,1,0,16)], by decide⟩,
   ⟨1, st [(SQ.resRun,1,0,8),(SQ.STATUS.MODE,1,0,4)], by decide⟩,
   ⟨1, st [(SQ.STATUS.MODE,1,0,6),(SQ.OBS_STAT.STOP,1,0,0),(SQ.OBS_CFG.RAMP_US,1,0,100),(SQ.rampN,1,0,250),(SQ.OBS_CFG.RETRY_MAX,1,0,0)], by decide⟩,
   ⟨0, st [(SQ.XY_CFG.XY_N,0,0,8),(SQ.xyRun,0,0,8)], by decide⟩,
   ⟨0, st [(OB.afSpd,0,0,500),(OB.SLS_CFG.SLS_MIN,0,0,1000)], by decide⟩,
   ⟨1, st [(OB.afSpd,1,0,2000),(OB.SLS_CFG.SLS_MIN,1,0,1000),(OB.SLS_CFG.CONV_N,1,0,50),(OB.afOk,1,0,50),(OB.afBad,1,0,0)], by decide⟩,
   ⟨st [(SYS.PWR_STAT.PD_ON,0,0,0x3FB)], by decide⟩⟩

theorem test_witness_TableControlEventsTakeEffect_2 :
    (∃ (s : State), (s.is SYS.pllDown = false) ∧ (s.pdOn 2 = true) ∧ (s.getBit SYS.PWR_STAT.PD_ON 3 = true) ∧ (s.getBit SYS.PWR_STAT.PD_ON 4 = true) ∧ (s.is SQ.TBL_CTL.SWAP 0 = true) ∧ (s.is ACT.STAT.PEND = false) ∧ (s.bankOk 0 (1 - s.get SQ.TBL_CTL.ACT_BANK 0) = true)) ∧
    (∃ (s : State), (s.is SYS.pllDown = false) ∧ (s.pdOn 2 = true) ∧ (s.getBit SYS.PWR_STAT.PD_ON 3 = true) ∧ (s.getBit SYS.PWR_STAT.PD_ON 4 = true) ∧ (s.is SQ.TBL_CTL.SWAP 0 = true) ∧ (s.is ACT.STAT.PEND = false) ∧ (s.bankOk 0 (1 - s.get SQ.TBL_CTL.ACT_BANK 0) = false)) ∧
    (∃ (axis : Fin 2) (s : State), (s.pdOn (3 + axis) = true) ∧ (s.bankOk axis (1 - s.get SQ.TBL_CTL.ACT_BANK axis) = true)) ∧
    (∃ (axis : Fin 2) (s : State), (s.pdOn (3 + axis) = true) ∧ (s.bankOk axis (1 - s.get SQ.TBL_CTL.ACT_BANK axis) = false)) ∧
    (∃ (axis : Fin 2) (sel : BitVec 4) (s : State), (s.pitAllowed = true ∧ 1 ≤ sel.toNat ∧ sel.toNat ≤ 5) ∧ (s.pdOn (3 + axis) = true)) ∧
    (∃ (axis : Fin 2) (sel : BitVec 4) (s : State), (s.pitAllowed = true ∧ 1 ≤ sel.toNat ∧ sel.toNat ≤ 3) ∧ (s.pdOn (3 + axis) = true)) :=
  ⟨⟨st [(SYS.PWR_STAT.PD_ON,0,0,1023),(SQ.TBL_CTL.SWAP,0,0,1)], by decide⟩,
   ⟨st [(SYS.PWR_STAT.PD_ON,0,0,1023),(SQ.TBL_CTL.SWAP,0,0,1),(SQ.tbl,0,0,0x4009),(SQ.TBL_CTL.ACT_BANK,0,0,1)], by decide⟩,
   ⟨1, st [(SYS.PWR_STAT.PD_ON,0,0,1023),(SQ.TBL_CTL.SWAP,0,0,1)], by decide⟩,
   ⟨1, st [(SQ.tbl,1,0,0x4009),(SQ.TBL_CTL.ACT_BANK,1,0,1)], by decide⟩,
   ⟨1, 5, st [(BL.PIT_STAT.ARMED,0,0,0),(SEC.LC_STAT.STATE,0,0,0),(SEC.hostRole,0,0,1)], by decide⟩,
   ⟨1, 3, st [(BL.PIT_STAT.ARMED,0,0,0),(SEC.LC_STAT.STATE,0,0,0),(SEC.hostRole,0,0,1)], by decide⟩⟩

theorem test_witness_InjectionTraverseAndCatchProceed_1 :
    (∃ (axis : Fin 2) (s : State), (s.is OB.INJ_STAT.INJ_ACTIVE axis = true ∧ s.get OB.INJ_CONV.INJ_N axis ≤ s.get OB.injIn axis)) ∧
    (∃ (axis : Fin 2) (s : State), (s.is OB.polRun axis = true) ∧ (s.get OB.polPh axis = 4 ∨ (s.get OB.polPh axis = 1 ∧ s.get OB.POL_CFG2.POL_TMAX axis * 25 ≤ s.get OB.polN axis)) ∧ (s.get OB.polPh axis = 1)) ∧
    (∃ (axis : Fin 2) (s : State), (s.is OB.polRun axis = true) ∧ (s.get OB.polPh axis = 4 ∨ (s.get OB.polPh axis = 1 ∧ s.get OB.POL_CFG2.POL_TMAX axis * 25 ≤ s.get OB.polN axis)) ∧ (s.get OB.polPh axis = 4) ∧ (s.get OB.polIdx axis + 1 < 2 * s.get OB.POL_CFG2.POL_N axis)) ∧
    (∃ (axis : Fin 2) (s : State), (s.is OB.polRun axis = true ∨ s.is OB.polWait axis = true) ∧ (s.is OB.POL_STAT.POL_DONE axis = false) ∧ (s.get OB.injT axis + 8000000 ≤ s.now)) ∧
    (∃ (axis : Fin 2) (s : State), (s.is OB.INJ_STAT.INJ_CONV axis = true ∧ s.get OB.INJ_CONV.INJ_N axis ≤ s.get OB.injOut axis)) ∧
    (∃ (axis : Fin 2) (s : State), (s.is SQ.injRamp axis = true ∧ 5 * s.get SQ.OBS_CFG.RAMP_US axis ≤ 2 * s.get SQ.injRampN axis)) ∧
    (∃ (axis : Fin 2) (s : State), (s.is SQ.TRAV_STAT.HOLD axis = false ∧ s.get SQ.TRAV_CFG.TRAV_N axis ≤ s.get SQ.travCnt axis) ∧ (s.get SQ.STATUS.MODE axis = 2)) ∧
    (∃ (axis : Fin 2) (s : State), (s.is SQ.TRAV_STAT.HOLD axis = false ∧ s.get SQ.TRAV_CFG.TRAV_N axis ≤ s.get SQ.travCnt axis) ∧ (s.get SQ.STATUS.MODE axis = 4)) :=
  ⟨⟨1, st [(OB.INJ_STAT.INJ_ACTIVE,1,0,1),(OB.INJ_CONV.INJ_N,1,0,20),(OB.injIn,1,0,20)], by decide⟩,
   ⟨1, st [(OB.polRun,1,0,1),(OB.polPh,1,0,1),(OB.POL_CFG2.POL_TMAX,1,0,2),(OB.polN,1,0,50)], by decide⟩,
   ⟨0, st [(OB.polRun,0,0,1),(OB.polPh,0,0,4),(OB.polIdx,0,0,0),(OB.POL_CFG2.POL_N,0,0,2)], by decide⟩,
   ⟨1, { st [(OB.polWait,1,0,1),(OB.POL_STAT.POL_DONE,1,0,0)] with now := 10 ^ 13 }, by decide⟩,
   ⟨1, st [(OB.INJ_STAT.INJ_CONV,1,0,1),(OB.INJ_CONV.INJ_N,1,0,20),(OB.injOut,1,0,20)], by decide⟩,
   ⟨1, st [(SQ.injRamp,1,0,1),(SQ.OBS_CFG.RAMP_US,1,0,100),(SQ.injRampN,1,0,250)], by decide⟩,
   ⟨1, st [(SQ.TRAV_STAT.HOLD,1,0,0),(SQ.TRAV_CFG.TRAV_N,1,0,4),(SQ.travCnt,1,0,4),(SQ.STATUS.MODE,1,0,2)], by decide⟩,
   ⟨0, st [(SQ.TRAV_STAT.HOLD,0,0,0),(SQ.TRAV_CFG.TRAV_N,0,0,4),(SQ.travCnt,0,0,4),(SQ.STATUS.MODE,0,0,4)], by decide⟩⟩

theorem test_witness_InjectionTraverseAndCatchProceed_2 :
    (∃ (axis : Fin 2) (s : State), (s.get PU.CNT.CNT axis = 0) ∧ (s.get SQ.STATUS.MODE axis = 3) ∧ (s.travUnmet axis = 0)) ∧
    (∃ (axis : Fin 2) (s : State), (s.get PU.CNT.CNT axis = 0) ∧ (s.get SQ.STATUS.MODE axis = 5)) ∧
    (∃ (axis : Fin 2) (s : State), (s.get SQ.STATUS.MODE axis = 3 ∧ s.is SQ.travWait axis = false ∧ s.travUnmet axis ≠ 0)) ∧
    (∃ (axis : Fin 2) (s : State), (s.get SQ.stepPend axis = 1) ∧ (s.pit (0x10 + axis) 3 axis = false)) ∧
    (∃ (axis : Fin 2) (s : State), (s.get SQ.STATUS.MODE axis = 1 ∧ 16 ≤ s.get OB.ellN axis) ∧ (s.is SQ.CATCH_STAT.RESULT axis = false ∧ s.is SQ.CATCH_STAT.METHOD axis = false) ∧ (s.joined = true → s.catchClass axis (quotN (s.get OB.ellSum 0) 16) = s.catchClass axis (quotN (s.get OB.ellSum 1) 16))) ∧
    (∃ (axis : Fin 2) (s : State), (s.get SQ.STATUS.MODE axis = 1 ∧ s.get SQ.CATCH_STAT.METHOD axis = 3 ∧ s.is SQ.CATCH_STAT.RESULT axis = false) ∧ (s.is SQ.pulseLeft axis = false ∧ s.cmdBarred axis = false ∧ s.get SQ.CATCH_CFG.CATCH_PER axis ≤ s.get SQ.pulseAge axis)) ∧
    (∃ (axis : Fin 2) (s : State), (s.get SQ.STATUS.MODE axis = 1 ∧ s.is SQ.CATCH_STAT.RESULT axis = false) ∧ (s.pit (0x13 + axis) 5 axis = false ∧ s.is OB.catchPit axis = false) ∧ (s.get SQ.CATCH_STAT.METHOD axis = 1) ∧ (s.ofsRuns axis = false) ∧ (s.get SQ.CATCH_LIM.STILL_WIN axis * 40000 ≤ s.now - s.get OB.catchT axis)) ∧
    (∃ (axis : Fin 2) (s : State), (s.get SQ.STATUS.MODE axis = 1 ∧ s.is SQ.CATCH_STAT.RESULT axis = false) ∧ (s.pit (0x13 + axis) 5 axis = false ∧ s.is OB.catchPit axis = false) ∧ (2 ≤ s.get SQ.CATCH_STAT.METHOD axis) ∧ (s.catchAgree axis = true)) :=
  ⟨⟨1, st [(PU.CNT.CNT,1,0,0),(SQ.STATUS.MODE,1,0,3),(OB.STATUS.AF_CONV,1,0,1),(OB.STATUS.EST_VALID,1,0,1),(OB.TQ_VAL.RES,1,0,0),(BL.tCmd,1,0,0),(OB.TQ_VAL.T_EST,1,0,0)], by decide⟩,
   ⟨1, st [(PU.CNT.CNT,1,0,0),(SQ.STATUS.MODE,1,0,5)], by decide⟩,
   ⟨1, st [(SQ.STATUS.MODE,1,0,3),(SQ.travWait,1,0,0)], by decide⟩,
   ⟨1, st [(SQ.stepPend,1,0,1),(BL.PIT_STAT.ARMED,0,0,0)], by decide⟩,
   ⟨1, st [(SQ.STATUS.MODE,1,0,1),(OB.ellN,1,0,16),(SQ.CATCH_STAT.RESULT,1,0,0),(SQ.catchGo,1,0,0)], by decide⟩,
   ⟨1, st [(SQ.STATUS.MODE,1,0,1),(SQ.CATCH_STAT.METHOD,1,0,3),(SQ.catchGo,1,0,0),(SQ.pulseLeft,1,0,0)], by decide⟩,
   ⟨1, { st [(SQ.STATUS.MODE,1,0,1),(SQ.CATCH_STAT.METHOD,1,0,1),(SQ.CATCH_STAT.RESULT,1,0,0),(BL.PIT_STAT.ARMED,0,0,0),(OB.catchPit,1,0,0),(SEN.OFS_CMD.START_A,0,0,0),(SEN.OFS_CMD.START_B,0,0,0),(SQ.CATCH_LIM.STILL_WIN,1,0,3),(OB.catchT,1,0,0)] with now := 120000 }, by decide⟩,
   ⟨1, st [(SQ.STATUS.MODE,1,0,1),(SQ.CATCH_STAT.METHOD,1,0,2),(SQ.CATCH_STAT.RESULT,1,0,0),(BL.PIT_STAT.ARMED,0,0,0),(OB.catchPit,1,0,0),(SQ.CATCH_CFG.CATCH_N,1,0,4),(OB.cN,1,0,4),(OB.cW,1,0,1000),(OB.cW,1,1,1000),(OB.cW,1,2,1000),(OB.cW,1,3,1000)], by decide⟩⟩

theorem test_witness_InjectionTraverseAndCatchProceed_3 :
    (∃ (axis : Fin 2) (s : State), (s.get SQ.STATUS.MODE axis = 1 ∧ s.is SQ.CATCH_STAT.RESULT axis = false ∧ s.catchLate axis = true)) ∧
    (∃ (axis : Fin 2) (s : State), (s.is SQ.TRAV_STAT.HOLD axis = true ∧ s.travHeld axis = true)) :=
  ⟨⟨1, { st [(SQ.STATUS.MODE,1,0,1),(OB.ellN,1,0,16),(SQ.CATCH_STAT.RESULT,1,0,0),(SQ.catchGo,1,0,0)] with now := 10 ^ 13 }, by decide⟩,
   ⟨1, { st [(SQ.TRAV_STAT.HOLD,1,0,1)] with now := 10 ^ 13 }, by decide⟩⟩

theorem test_witness_PwmUnitsReloadCommitAndTrip_1 :
    (∃ (pu : Fin 5) (peak : Bool) (s : State), (s.counts pu = true ∧ (s.joined = false ∨ pu.val ≠ 1)) ∧ (peak = false)) ∧
    (∃ (pu : Fin 5) (peak : Bool) (s : State), (s.counts pu = true ∧ (s.joined = false ∨ pu.val ≠ 1)) ∧ (peak = true)) ∧
    (∃ (pu : Fin 5) (s : State), (s.counts (if s.joined && pu == 1 then 0 else pu) = true) ∧ (s.is PU.TRIP_STAT.TRIPPED (s.tripUnit pu) = false ∧ (pu.val < 2 → s.is PU.STATUS.DETACHED pu = false)) ∧ (pu.val < 2)) ∧
    (∃ (pu : Fin 5) (s : State), (s.counts (if s.joined && pu == 1 then 0 else pu) = false ∨ s.is PU.TRIP_STAT.TRIPPED (s.tripUnit pu) = true)) ∧
    (∃ (pu : Fin 5) (src : Fin 19) (s : State), (srcApplies pu src = true ∧ s.xtripCut pu src = false ∧ s.is SYS.pllDown = false ∧ s.getBit PU.tripIn src pu = true ∧ s.getBit PU.TRIP_EN.EN src (s.tripUnit pu) = true)) ∧
    (∃ (pu : Fin 5) (s : State), (s.is PU.capOpen pu = true)) ∧
    (∃ (s : State), (s.is SEC.DBG_STAT.OPEN = true ∧ 2 ≤ s.get SEC.DBG_STAT.LEVEL)) ∧
    (∃ (s : State), (s.is SEC.DBG_STAT.HALT = true)) :=
  ⟨⟨4, false, st [(PU.CTL.RUN,4,0,1),(PU.STATUS.HALTED,4,0,0),(SQ.STATUS.JOINED,0,0,0),(SYS.pllDown,0,0,0)], by decide⟩,
   ⟨4, true, st [(PU.CTL.RUN,4,0,1),(PU.STATUS.HALTED,4,0,0),(SQ.STATUS.JOINED,0,0,0),(SYS.pllDown,0,0,0)], by decide⟩,
   ⟨1, st [(PU.CTL.RUN,1,0,1),(PU.STATUS.HALTED,1,0,0),(SQ.STATUS.JOINED,0,0,0),(SYS.pllDown,0,0,0),(PU.TRIP_STAT.TRIPPED,1,0,0),(PU.STATUS.DETACHED,1,0,0)], by decide⟩,
   ⟨1, st [(SQ.STATUS.JOINED,0,0,1),(PU.CTL.RUN,0,0,1),(PU.TRIP_STAT.TRIPPED,0,0,1)], by decide⟩,
   ⟨4, 12, st [(PU.tripIn,4,0,4096),(PU.TRIP_EN.EN,4,0,4096),(BL.XT_CFG.XT_AUX,0,0,1),(SYS.pllDown,0,0,0)], by decide⟩,
   ⟨4, st [(PU.capOpen,4,0,1)], by decide⟩,
   ⟨st [(SEC.DBG_STAT.OPEN,0,0,1),(SEC.DBG_STAT.LEVEL,0,0,2)], by decide⟩,
   ⟨st [(SEC.DBG_STAT.HALT,0,0,1)], by decide⟩⟩

theorem test_witness_PwmUnitsReloadCommitAndTrip_2 :
    (∃ (pu : Fin 5) (s : State), (s.frzOk = false ∧ s.is PU.STATUS.FROZEN pu = true)) ∧
    (∃ (pu : Fin 5) (s : State), (s.pdOn (puDomain pu) = true) ∧ (s.is PU.CTL.GRP_EN pu = false)) ∧
    (∃ (pu : Fin 5) (s : State), (s.is PU.CTL.GRP_EN pu = true) ∧ (s.pdOn (puDomain pu) = true) ∧ (s.joined = false ∨ pu.val ≠ 1)) ∧
    (∃ (pu : Fin 5) (s : State), (s.counts (if s.joined && pu == 1 then 0 else pu) = true) ∧ (s.is PU.TRIP_STAT.TRIPPED (s.tripUnit pu) = false ∧ (pu.val < 2 → s.is PU.STATUS.DETACHED pu = false)) ∧ (2 ≤ pu.val) ∧ (s.get AX.CH_STAT.STATE (pu - 2) < 2)) ∧
    (∃ (pu : Fin 5) (mask : BitVec 19) (quiet : BitVec 19) (k : Fin 19) (s : State), (s.pit 0x12 3 pu = false ∧ (s.joined = false ∨ pu.val ≠ 1)) ∧ (bit mask.toNat k = true ∧ s.getBit PU.TRIP_STAT.SRC k pu = true) ∧ (s.pdOn (puDomain pu) = true) ∧ (bit quiet.toNat k = true) ∧ (s.getBit PU.tripIn k pu = false) ∧ (s.joined = false ∨ pu.val ≠ 0 ∨ s.getBit PU.tripIn k 1 = false)) ∧
    (∃ (pu : Fin 5) (mask quiet : BitVec 19) (k : Fin 19) (s : State), (s.pit 0x12 3 pu = false ∧ (s.joined = false ∨ pu.val ≠ 1)) ∧ (bit mask.toNat k = true ∧ s.getBit PU.TRIP_STAT.SRC k pu = true) ∧ (s.pdOn (puDomain pu) = true) ∧ (bit quiet.toNat k = false ∨ s.getBit PU.tripIn k pu = true ∨ (s.joined = true ∧ pu.val = 0 ∧ s.getBit PU.tripIn k 1 = true))) ∧
    (∃ (pu : Fin 5) (s : State), (s.pdOn (puDomain pu) = true) ∧ (s.joined = false ∨ pu.val ≠ 1)) ∧
    (∃ (pu : Fin 5) (s : State), (s.is SYS.pllDown = false) ∧ (s.pdOn (puDomain pu) = true) ∧ (s.joined = false ∨ pu.val ≠ 1)) :=
  ⟨⟨4, st [(PU.STATUS.FROZEN,4,0,1),(SEC.LC_STAT.STATE,0,0,2)], by decide⟩,
   ⟨4, st [(PU.CTL.GRP_EN,4,0,0)], by decide⟩,
   ⟨4, st [(PU.CTL.RUN,4,0,1),(PU.STATUS.HALTED,4,0,0),(SQ.STATUS.JOINED,0,0,0),(SYS.pllDown,0,0,0)], by decide⟩,
   ⟨4, st [(PU.CTL.RUN,4,0,1),(PU.STATUS.HALTED,4,0,0),(SQ.STATUS.JOINED,0,0,0),(SYS.pllDown,0,0,0),(PU.TRIP_STAT.TRIPPED,4,0,0)], by decide⟩,
   ⟨4, 0x7FFFF, 0x7FFFF, 18, st [(SQ.STATUS.JOINED,0,0,0),(BL.PIT_STAT.ARMED,0,0,0),(PU.TRIP_STAT.SRC,4,0,0x7FFFF),(PU.tripIn,4,0,0)], by decide⟩,
   ⟨0, 0x7FFFF, 0x7FFFF, 0, st [(SQ.STATUS.JOINED,0,0,0),(BL.PIT_STAT.ARMED,0,0,0),(PU.TRIP_STAT.SRC,0,0,0x7FFFF),(PU.tripIn,0,0,1)], by decide⟩,
   ⟨4, st [(PU.CTL.RUN,4,0,1),(PU.STATUS.HALTED,4,0,0),(SQ.STATUS.JOINED,0,0,0),(SYS.pllDown,0,0,0)], by decide⟩,
   ⟨4, st [(PU.CTL.RUN,4,0,1),(PU.STATUS.HALTED,4,0,0),(SQ.STATUS.JOINED,0,0,0),(SYS.pllDown,0,0,0)], by decide⟩⟩

theorem test_witness_PwmUnitsReloadCommitAndTrip_3 :
    (∃ (pu : Fin 5) (value : Bool) (s : State), (2 ≤ pu.val) ∧ (s.pdOn (puDomain pu) = true) ∧ (value = false ∨ s.frzOk = true)) ∧
    (∃ (pu : Fin 5) (value : Bool) (s : State), (2 ≤ pu.val) ∧ (s.pdOn (puDomain pu) = true) ∧ (value = true) ∧ (s.frzOk = false)) ∧
    (∃ (pu : Fin 5) (sel : BitVec 4) (s : State), (s.pitAllowed = true ∧ 1 ≤ sel.toNat ∧ sel.toNat ≤ 4) ∧ (s.pdOn (puDomain pu) = true)) :=
  ⟨⟨4, false, st [], by decide⟩,
   ⟨4, true, st [(PU.CTL.RUN,4,0,1),(PU.STATUS.HALTED,4,0,0),(SQ.STATUS.JOINED,0,0,0),(SYS.pllDown,0,0,0)], by decide⟩,
   ⟨4, 4, st [(BL.PIT_STAT.ARMED,0,0,0),(SEC.LC_STAT.STATE,0,0,0),(SEC.hostRole,0,0,1)], by decide⟩⟩

/-- A state of an aux unit that runs, with its channel past the catch. -/
def auxOn (l : List (Row × Nat × Nat × Nat)) : State := st ([(PU.CTL.RUN,2,0,1),(AX.CH_STAT.STATE,0,0,4)] ++ l)

theorem test_witness_PwmUnitsReloadCommitAndTrip_aux :
    (∃ (pu : Fin 5) (leg : Fin 3) (stamp : Nat) (high : Bool) (s u : State), (s.counts (if s.joined && pu == 1 then 0 else pu) = true) ∧
      (s.is PU.TRIP_STAT.TRIPPED (s.tripUnit pu) = false ∧ (pu.val < 2 → s.is PU.STATUS.DETACHED pu = false)) ∧ 2 ≤ pu.val ∧ 2 ≤ s.get AX.CH_STAT.STATE (pu - 2) ∧ s.sideAt pu leg stamp = high ∧ u = s.bridgeEdges pu stamp ∧
      u.is PU.sw pu (2 * leg + (if high then 0 else 1)) = false ∧ u.is PU.onT pu (2 * leg + (if high then 0 else 1)) = false ∧ high = true ∧ u.getBit AX.CH_STAT.BS_UV leg (pu - 2) = false ∧
      u.is PU.sw pu (2 * leg + (if high then 1 else 0)) = true) ∧
    (∃ (pu : Fin 5) (leg : Fin 3) (stamp : Nat) (high : Bool) (s u : State), (s.counts (if s.joined && pu == 1 then 0 else pu) = true) ∧
      (s.is PU.TRIP_STAT.TRIPPED (s.tripUnit pu) = false ∧ (pu.val < 2 → s.is PU.STATUS.DETACHED pu = false)) ∧ 2 ≤ pu.val ∧ 2 ≤ s.get AX.CH_STAT.STATE (pu - 2) ∧ s.sideAt pu leg stamp = high ∧ u = s.bridgeEdges pu stamp ∧
      u.is PU.sw pu (2 * leg + (if high then 0 else 1)) = false ∧ u.is PU.onT pu (2 * leg + (if high then 0 else 1)) = false ∧ high = false ∧
      u.is PU.sw pu (2 * leg + (if high then 1 else 0)) = false ∧ u.is PU.onT pu (2 * leg + (if high then 1 else 0)) = false) :=
  ⟨⟨2, 1, 0, true, auxOn [(PU.perAct,2,0,10000),(PU.CMP.CMP,2,1,10000),(PU.sw,2,3,1)], _, by decide, by decide, by decide, by decide, by decide, rfl, by decide, by decide, rfl, by decide, by decide⟩,
   ⟨2, 1, 0, false, auxOn [(PU.perAct,2,0,10000),(PU.CMP.CMP,2,1,0)], _, by decide, by decide, by decide, by decide, by decide, rfl, by decide, by decide, rfl, by decide, by decide⟩⟩

theorem test_witness_PwmUnitsReloadCommitAndTrip_joined :
    (∃ (pu : Fin 5) (s : State), (s.counts pu = true ∧ (s.joined = false ∨ pu.val ≠ 1)) ∧ s.joined = true ∧ pu.val = 0) ∧
    (∃ (pu : Fin 5) (s : State), (s.is PU.CTL.GRP_EN pu = true) ∧ (s.pdOn (puDomain pu) = true) ∧ s.joined = true ∧ pu.val = 0) ∧
    (∃ (pu : Fin 5) (s : State), (s.is PU.CTL.GRP_EN pu = true) ∧ (s.pdOn (puDomain pu) = true) ∧ s.joined = true ∧ pu.val = 1) ∧
    (∃ (pu : Fin 5) (s : State), (s.pdOn (puDomain pu) = true) ∧ s.joined = true ∧ pu.val = 1) ∧
    (∃ (pu : Fin 5) (s : State), (s.is SYS.pllDown = false) ∧ (s.pdOn (puDomain pu) = true) ∧ s.joined = true ∧ pu.val = 1) :=
  ⟨⟨0, st [(SQ.STATUS.JOINED,0,0,1),(PU.CTL.RUN,0,0,1)], by decide⟩, ⟨0, st [(SQ.STATUS.JOINED,0,0,1),(PU.CTL.GRP_EN,0,0,1)], by decide⟩,
   ⟨1, st [(SQ.STATUS.JOINED,0,0,1),(PU.CTL.GRP_EN,1,0,1)], by decide⟩, ⟨1, st [(SQ.STATUS.JOINED,0,0,1)], by decide⟩,
   ⟨1, st [(SQ.STATUS.JOINED,0,0,1)], by decide⟩⟩

theorem test_witness_ResetSourcesStagesAndBlockResets_bind : ∃ (bind : Option (Fin 8)) (s : State),
    (s.get SYS.rstPhase = 1 ∧ s.get SYS.RST_MAP.BELAY ∈ [1, 2]) ∧ ∃ ch ∈ bind, 3 ≤ s.get ACT.bindRun ch :=
  ⟨some 7, st [(SYS.rstPhase,0,0,1),(SYS.RST_MAP.BELAY,0,0,2),(ACT.bindRun,7,0,3)], by decide, 7, rfl, by decide⟩

theorem test_witness_EngineMovesLoadsAndStores :
    (∃ (eng : Fin 7) (coef : Bool) (s : State), (s.engOn eng = true) ∧ (coef = false)) ∧
    (∃ (eng : Fin 7) (coef : Bool) (s : State), (s.engOn eng = true) ∧ (coef = true)) ∧
    (∃ (eng : Fin 7) (p : Fin 8) (s : State), (s.engOn eng = true ∧ s.is CE.pM eng p = false)) ∧
    (∃ (eng : Fin 7) (s : State), (s.engOn eng = true) ∧ (eng.val < 4)) :=
  ⟨⟨6, false, st [(CE.CTL.RUN,6,0,1),(CE.prog,6,0,1),(CE.stop,6,0,0),(CE.STATUS.HALTED,6,0,0)], by decide⟩,
   ⟨6, true, st [(CE.CTL.RUN,6,0,1),(CE.prog,6,0,1),(CE.stop,6,0,0),(CE.STATUS.HALTED,6,0,0)], by decide⟩,
   ⟨5, 7, st [(CE.CTL.RUN,5,0,1),(CE.prog,5,0,1),(CE.stop,5,0,0),(CE.STATUS.HALTED,5,0,0),(CE.pM,5,7,0)], by decide⟩,
   ⟨3, st [(CE.CTL.RUN,3,0,1),(CE.prog,3,0,1),(CE.stop,3,0,0),(CE.STATUS.HALTED,3,0,0)], by decide⟩⟩

theorem test_witness_EngineArithmeticExactThenSaturated :
    (∃ (eng : Fin 7) (x : Fin 16) (y : Fin 16) (s : State), (s.engOn eng = true) ∧ (sat16 (s.dVal eng x + s.dVal eng y) ≠ s.dVal eng x + s.dVal eng y)) ∧
    (∃ (eng : Fin 7) (x : Fin 4) (y : Fin 4) (s : State), (s.engOn eng = true) ∧ (satI 40 (s.aVal eng x + s.aVal eng y) ≠ s.aVal eng x + s.aVal eng y)) ∧
    (∃ (eng : Fin 7) (x : Fin 16) (s : State), (s.engOn eng = true) ∧ (s.dVal eng x = -32768)) ∧
    (∃ (eng : Fin 7) (lo : Fin 16) (hi : Fin 16) (s : State), (s.engOn eng = true ∧ s.dVal eng lo ≤ s.dVal eng hi)) :=
  ⟨⟨0, 3, 3, st [(CE.CTL.RUN,0,0,1),(CE.prog,0,0,1),(CE.stop,0,0,0),(CE.STATUS.HALTED,0,0,0),(CE.d,0,3,0x7000)], by decide⟩,
   ⟨0, 3, 3, st [(CE.CTL.RUN,0,0,1),(CE.prog,0,0,1),(CE.stop,0,0,0),(CE.STATUS.HALTED,0,0,0),(CE.a,0,3,0x7FFFFFFFFF)], by decide⟩,
   ⟨5, 2, st [(CE.CTL.RUN,5,0,1),(CE.prog,5,0,1),(CE.stop,5,0,0),(CE.STATUS.HALTED,5,0,0),(CE.d,5,2,0x8000)], by decide⟩,
   ⟨5, 3, 3, st [(CE.CTL.RUN,5,0,1),(CE.prog,5,0,1),(CE.stop,5,0,0),(CE.STATUS.HALTED,5,0,0)], by decide⟩⟩

theorem test_witness_EngineComparesAndFunctionsDeliver_1 :
    (∃ (eng : Fin 7) (sin : Fin 16) (cos : Fin 16) (s : State), (s.engOn eng = true) ∧ (sin ≠ cos)) ∧
    (∃ (eng : Fin 7) (dst1 : Fin 16) (dst2 : Fin 16) (s : State), (s.engOn eng = true) ∧ (dst1 ≠ dst2)) ∧
    (∃ (eng : Fin 7) (x : Fin 16) (s : State), (s.engOn eng = true) ∧ (0 ≤ s.dVal eng x)) ∧
    (∃ (eng : Fin 7) (y : Fin 16) (s : State), (s.engOn eng = true) ∧ (s.dVal eng y ≠ 0)) ∧
    (∃ (eng : Fin 7) (y : Fin 16) (s : State), (s.engOn eng = true) ∧ (s.dVal eng y = 0)) ∧
    (∃ (eng : Fin 7) (pc : Fin 8) (s : State), (s.engOn eng = true ∧ s.coefWord eng pc 6 ≤ s.coefWord eng pc 7)) ∧
    (∃ (eng : Fin 7) (s : State), (s.engOn eng = true) ∧ (s.portLocked eng = true)) ∧
    (∃ (eng : Fin 7) (bad : Option (BitVec 18)) (s : State), (s.engOn eng = true) ∧ (s.portLocked eng = false) ∧ (bad = none) ∧ (eng.val ≠ 6)) :=
  ⟨⟨5, 1, 2, st [(CE.CTL.RUN,5,0,1),(CE.prog,5,0,1),(CE.stop,5,0,0),(CE.STATUS.HALTED,5,0,0)], by decide⟩,
   ⟨5, 1, 2, st [(CE.CTL.RUN,5,0,1),(CE.prog,5,0,1),(CE.stop,5,0,0),(CE.STATUS.HALTED,5,0,0)], by decide⟩,
   ⟨5, 0, st [(CE.CTL.RUN,5,0,1),(CE.prog,5,0,1),(CE.stop,5,0,0),(CE.STATUS.HALTED,5,0,0)], by decide⟩,
   ⟨0, 0, st ([(CE.CTL.RUN,0,0,1),(CE.prog,0,0,1),(CE.stop,0,0,0),(CE.STATUS.HALTED,0,0,0)] ++ (List.range 16).map fun k => (CE.d,0,k,77*k+1)), by decide⟩,
   ⟨5, 0, st [(CE.CTL.RUN,5,0,1),(CE.prog,5,0,1),(CE.stop,5,0,0),(CE.STATUS.HALTED,5,0,0)], by decide⟩,
   ⟨5, 0, st [(CE.CTL.RUN,5,0,1),(CE.prog,5,0,1),(CE.stop,5,0,0),(CE.STATUS.HALTED,5,0,0),(CE.p,5,0,0),(CE.COEF_WIN.WORD,5,6,0xF000),(CE.COEF_WIN.WORD,5,7,0x0FFF)], by decide⟩,
   ⟨1, st [(CE.CTL.RUN,1,0,1),(CE.prog,1,0,1),(CE.stop,1,0,0),(CE.STATUS.HALTED,1,0,0),(SEC.CAL_STAT.TBL_LOCK,0,0,1)], by decide⟩,
   ⟨5, none, st [(CE.CTL.RUN,5,0,1),(CE.prog,5,0,1),(CE.stop,5,0,0),(CE.STATUS.HALTED,5,0,0),(SEC.CAL_STAT.TBL_LOCK,0,0,0)], by decide⟩⟩

theorem test_witness_EngineComparesAndFunctionsDeliver_2 : ∃ (eng : Fin 7) (slot : Fin 4) (s : State), (s.engOn eng = true ∧ s.is CE.FF_CFG.HANDLE eng slot = false) :=
  ⟨5, 3, st [(CE.CTL.RUN,5,0,1),(CE.prog,5,0,1),(CE.stop,5,0,0),(CE.STATUS.HALTED,5,0,0),(CE.FF_CFG.HANDLE,5,3,0)], by decide⟩

theorem test_witness_EnginePortsAndControlFlow_1 :
    (∃ (eng : Fin 7) (p : Fin 8) (s : State), (s.engOn eng = true) ∧ (s.is CE.pM eng p = false ∨ isRope eng = false)) ∧
    (∃ (eng : Fin 7) (p : Fin 8) (s : State), (s.engOn eng = true) ∧ (s.is CE.pM eng p = true) ∧ (isRope eng = true)) ∧
    (∃ (eng : Fin 7) (c : Fin 4) (s : State), (s.engOn eng = true ∧ s.is CE.cM eng c = false ∧ s.pit 0x15 3 (eng / 2) = false) ∧ (s.is CE.c eng c = false) ∧ (s.engLoops = [])) ∧
    (∃ (eng : Fin 7) (c : Fin 4) (s : State), (s.engOn eng = true ∧ s.is CE.cM eng c = false ∧ s.pit 0x15 3 (eng / 2) = false) ∧ (s.is CE.c eng c = true)) ∧
    (∃ (eng : Fin 7) (p : Fin 8) (s : State), (s.engOn eng = true ∧ s.is CE.pM eng p = false)) ∧
    (∃ (eng : Fin 7) (r : Fin 16384) (rest : List (Nat × Nat)) (s : State), (s.engOn eng = true ∧ s.engCalls = (eng.val, r.val) :: rest)) ∧
    (∃ (eng : Fin 7) (count : BitVec 16) (s : State), (s.engOn eng = true) ∧ (count = 0)) ∧
    (∃ (eng : Fin 7) (count : BitVec 16) (s : State), (s.engOn eng = true) ∧ (count ≠ 0)) :=
  ⟨⟨5, 0, st [(CE.CTL.RUN,5,0,1),(CE.prog,5,0,1),(CE.stop,5,0,0),(CE.STATUS.HALTED,5,0,0)], by decide⟩,
   ⟨3, 7, st [(CE.CTL.RUN,3,0,1),(CE.prog,3,0,1),(CE.stop,3,0,0),(CE.STATUS.HALTED,3,0,0),(CE.pM,3,7,1)], by decide⟩,
   ⟨5, 3, st [(CE.CTL.RUN,5,0,1),(CE.prog,5,0,1),(CE.stop,5,0,0),(CE.STATUS.HALTED,5,0,0),(CE.cM,5,3,0),(BL.PIT_STAT.ARMED,0,0,0)], by decide⟩,
   ⟨5, 3, st [(CE.CTL.RUN,5,0,1),(CE.prog,5,0,1),(CE.stop,5,0,0),(CE.STATUS.HALTED,5,0,0),(CE.cM,5,3,0),(CE.c,5,3,1),(BL.PIT_STAT.ARMED,0,0,0)], by decide⟩,
   ⟨5, 7, st [(CE.CTL.RUN,5,0,1),(CE.prog,5,0,1),(CE.stop,5,0,0),(CE.STATUS.HALTED,5,0,0),(CE.pM,5,7,0)], by decide⟩,
   ⟨5, 16383, [(1,2)], (let s : State := st [(CE.CTL.RUN,5,0,1),(CE.prog,5,0,1),(CE.stop,5,0,0),(CE.STATUS.HALTED,5,0,0)]; { s with engCalls := [(5,16383),(1,2)] }), by decide⟩,
   ⟨5, 0, st [(CE.CTL.RUN,5,0,1),(CE.prog,5,0,1),(CE.stop,5,0,0),(CE.STATUS.HALTED,5,0,0)], by decide⟩,
   ⟨5, 3, st [(CE.CTL.RUN,5,0,1),(CE.prog,5,0,1),(CE.stop,5,0,0),(CE.STATUS.HALTED,5,0,0)], by decide⟩⟩

theorem test_witness_EnginePortsAndControlFlow_2 :
    (∃ (eng : Fin 7) (s : State), (s.engOn eng = true ∧ s.pit 0x15 4 (eng / 2) = false ∧ s.is AX.pendQ = false)) ∧
    (∃ (unit : Fin 4) (reload : Bool) (e : Fin 7) (s : State), (e.val ∈ unitEngines unit ∧ s.is CE.CTL.RUN ((unitEngines unit).headD 0) = true ∧ s.is CE.STATUS.HALTED ((unitEngines unit).headD 0) = false) ∧ ((State.modeEntry (s.mode (unit % 2))).1 = reload)) ∧
    (∃ (unit : Fin 5) (e : Fin 7) (s : State), (e.val ∈ (if unit.val = 4 then [6] else unitEngines unit) ∧ s.is CE.prog e = true ∧ s.is CE.stop e = false ∧ s.is AX.pendQ = false)) ∧
    (∃ (unit : Fin 7) (e : Fin 7) (s : State), (unit.val < 4 ∧ e.val ∈ unitEngines unit) ∧ (∀ x ∈ unitEngines unit, s.is CE.rel x = true ∧ s.is CE.done x = false ∧ s.is CE.stop x = false) ∧ (s.is CE.lEnt ((unitEngines unit).headD 0) = true ∧ s.is CE.RP_STAT.RP_FAULT ((unitEngines unit).headD 0) = false)) ∧
    (∃ (unit : Fin 7) (s : State), (4 ≤ unit.val) ∧ (s.is CE.prog 6 = false ∧ s.is AX.oRel (unit - 4) = true)) ∧
    (∃ (eng : Fin 7) (index : BitVec 8) (s : State), (isRope eng = false ∨ s.is CE.CTL.LEAD eng = true) ∧ (s.is CE.COEF_CTL.PEND eng = false ∧ 32 ≤ index.toNat) ∧ (s.pdOn (engDomain eng) = true)) ∧
    (∃ (eng : Fin 7) (sel : BitVec 4) (s : State), (s.pitAllowed = true ∧ 1 ≤ sel.toNat ∧ sel.toNat ≤ 4 ∧ s.is CE.CTL.LEAD eng = true) ∧ (s.pdOn (engDomain eng) = true)) :=
  ⟨⟨6, st [(CE.CTL.RUN,6,0,1),(CE.prog,6,0,1),(CE.stop,6,0,0),(CE.STATUS.HALTED,6,0,0),(BL.PIT_STAT.ARMED,0,0,0),(AX.pendQ,0,0,0)], by decide⟩,
   ⟨3, true, 5, st [(CE.CTL.RUN,5,0,1),(CE.prog,5,0,1),(CE.stop,5,0,0),(CE.STATUS.HALTED,5,0,0),(SQ.STATUS.MODE,0,0,2),(SQ.STATUS.MODE,1,0,2)], by decide⟩,
   ⟨4, 6, st [(CE.CTL.RUN,6,0,1),(CE.prog,6,0,1),(CE.stop,6,0,0),(CE.STATUS.HALTED,6,0,0),(AX.pendQ,0,0,0)], by decide⟩,
   ⟨3, 5, st [(CE.rel,5,0,1),(CE.done,5,0,0),(CE.stop,5,0,0),(CE.lEnt,5,0,1),(CE.RP_STAT.RP_FAULT,5,0,0)], by decide⟩,
   ⟨6, st [(CE.prog,6,0,0),(AX.oRel,2,0,1)], by decide⟩,
   ⟨2, 255, st [(CE.CTL.LEAD,2,0,1),(CE.COEF_CTL.PEND,2,0,0)], by decide⟩,
   ⟨2, 4, st [(BL.PIT_STAT.ARMED,0,0,0),(SEC.LC_STAT.STATE,0,0,0),(SEC.hostRole,0,0,1),(CE.CTL.LEAD,2,0,1)], by decide⟩⟩

theorem test_witness_GateDownlinkFramesAtTheIsland_1 :
    (∃ (isl : Fin 12) (on : Bool) (s : State), (s.is GI.iPend isl = false) ∧ (on = true) ∧ (s.get GI.iSt isl = 3) ∧ (s.is GI.iOn isl = false)) ∧
    (∃ (isl : Fin 12) (dly : BitVec 12) (wait : BitVec 12) (s : State), (s.is GI.iPend isl = false) ∧ (dly.toNat < 48 + wait.toNat)) ∧
    (∃ (isl : Fin 12) (dly : BitVec 12) (wait : BitVec 12) (s : State), (s.is GI.iPend isl = false) ∧ (48 + wait.toNat ≤ dly.toNat)) ∧
    (∃ (isl : Fin 12) (busy : Option DownFrame) (s : State), (s.is GI.iPend isl = false) ∧ (busy = some .plain)) ∧
    (∃ (isl : Fin 12) (busy : Option DownFrame) (s : State), (s.is GI.iPend isl = false) ∧ (busy = none ∨ busy = some .cairn ∨ busy = some .softOff)) ∧
    (∃ (isl : Fin 12) (on : Bool) (s : State), (s.is GI.iPend isl = false) ∧ (on = true) ∧ (s.get GI.iSt isl = 1 ∨ s.get GI.iSt isl = 2)) ∧
    (∃ (isl : Fin 12) (on : Bool) (s : State), (s.is GI.iPend isl = false) ∧ (on = false) ∧ (s.is GI.iOn isl = true) ∧ (s.get GI.iSt isl ≠ 4)) ∧
    (∃ (isl : Fin 12) (on : Bool) (s : State), (s.is GI.iPend isl = false) ∧ (on = true) ∧ (s.get GI.iSt isl = 4)) :=
  ⟨⟨11, true, st [(GI.iSt,11,0,3),(GI.iOn,11,0,0)], by decide⟩,
   ⟨11, 47, 0, st [(GI.iPend,11,0,0)], by decide⟩,
   ⟨0, 0x830, 0x800, st [(GI.iPend,0,0,0)], by decide⟩,
   ⟨11, some .plain, st [(GI.iPend,11,0,0)], by decide⟩,
   ⟨0, some .softOff, st [(GI.iPend,0,0,0)], by decide⟩,
   ⟨11, true, st [(GI.iSt,11,0,2)], by decide⟩,
   ⟨0, false, st [(GI.iPend,0,0,0),(GI.iSt,0,0,2),(GI.iOn,0,0,1)], by decide⟩,
   ⟨11, true, st [(GI.iSt,11,0,4)], by decide⟩⟩

theorem test_witness_GateDownlinkFramesAtTheIsland_2 :
    (∃ (isl : Fin 12) (on : Bool) (s : State), (s.is GI.iPend isl = true ∧ s.is GI.iDir isl = on ∧ s.get GI.iSt isl = 3)) ∧
    (∃ (isl : Fin 12) (s : State), (s.is GI.iPend isl = true)) ∧
    (∃ (isl : Fin 12) (slot : Fin 16) (s : State), (64 ≤ s.get GI.iSatRun isl slot ∧ s.is GI.satWarn isl slot = false) ∧ (s.evWarning.length < 64)) ∧
    (∃ (isl : Fin 12) (s : State), (s.get GI.iSt isl ≠ 3)) ∧
    (∃ (busy : Option DownFrame), (busy = some .cairn)) ∧
    (∃ (addr : BitVec 10), (addr.toNat < 0x100)) ∧
    (∃ (addr : BitVec 10) (k : Fin 13), (addr.toNat = 0x180 + k)) ∧
    (∃ (busy : Option DownFrame), (busy = some .softOff)) :=
  ⟨⟨11, true, st [(GI.iPend,11,0,1),(GI.iDir,11,0,1),(GI.iSt,11,0,3)], by decide⟩,
   ⟨11, st [(GI.iPend,11,0,1)], by decide⟩,
   ⟨11, 15, st [(GI.iSatRun,11,15,64),(GI.satWarn,11,15,0)], by decide⟩,
   ⟨0, st [(GI.iSt,0,0,1)], by decide⟩,
   ⟨some .cairn, by decide⟩,
   ⟨0, by decide⟩,
   ⟨0x18C, 12, by decide⟩,
   ⟨some .softOff, by decide⟩⟩

theorem test_witness_GateDownlinkFramesAtTheIsland_3 :
    (∃ (up : Bool) (word : BitVec 40), (gateFrameOk word.toNat = false) ∧ (up = true)) ∧
    (∃ (up : Bool) (word : BitVec 40), (gateFrameOk word.toNat = false) ∧ (up = false)) ∧
    (∃ (isl : Fin 12), (isl.val % 2 = 1)) ∧
    (∃ (isl : Fin 12), (isl.val % 2 = 0)) :=
  ⟨⟨true, 0, by decide⟩,
   ⟨false, 0xFFFFFFFFFF, by decide⟩,
   ⟨11, by decide⟩,
   ⟨0, by decide⟩⟩

theorem test_witness_GateIslandConfigurationCommands_1 :
    (∃ (isl : Fin 12) (s : State), (s.get GI.iSt isl = 2) ∧ (s.noRelease isl = false)) ∧
    (∃ (isl : Fin 12) (s : State), (s.get GI.iSt isl = 2) ∧ (s.noRelease isl = true)) ∧
    (∃ (isl : Fin 12) (s : State), (s.get GI.iSt isl = 1)) ∧
    (∃ (isl : Fin 12) (s : State), (State.crc16w (s.storeWords isl) = s.get GI.iCrc isl 0 * 256 + s.get GI.iCrc isl 1)) ∧
    (∃ (isl : Fin 12) (s : State), (State.crc16w (s.storeWords isl) ≠ s.get GI.iCrc isl 0 * 256 + s.get GI.iCrc isl 1)) ∧
    (∃ (isl : Fin 12) (s : State), (s.get GI.iSt isl ≠ 0 ∧ s.get GI.iBl isl = 0 ∧ s.is GI.iOvb isl = false)) ∧
    (∃ (isl : Fin 12) (s : State), (∀ k ∈ s.islands (isl / 6), s.is GI.CTL.SWAP k = false) ∧ (s.pdOn (3 + isl / 6) = true)) ∧
    (∃ (isl : BitVec 4) (sel : BitVec 4) (s : State), (s.pitAllowed = true ∧ isl.toNat < 12 ∧ 1 ≤ sel.toNat ∧ sel.toNat ≤ 7) ∧ (s.pdOn 3 = true) ∧ (sel.toNat = 3)) :=
  ⟨⟨11, st [(GI.iSt,11,0,2),(GI.iUvlo,11,0,0),(GI.iOt,11,0,0),(HK.OT_STAT.GI,0,0,0),(GI.iLost,11,0,0),(GI.iBl,11,0,0)], by decide⟩,
   ⟨0, st [(GI.iSt,0,0,2),(GI.iUvlo,0,0,1)], by decide⟩,
   ⟨0, st [(GI.iSt,0,0,1)], by decide⟩,
   ⟨11, st [(GI.iCrc,11,0,State.crc16w (State.reset.storeWords 11) / 256),(GI.iCrc,11,1,State.crc16w (State.reset.storeWords 11) % 256)], by decide +kernel⟩,
   ⟨11, st [(GI.iCrc,11,0,0),(GI.iCrc,11,1,0)], by decide +kernel⟩,
   ⟨11, st [(GI.iSt,11,0,3),(GI.iBl,11,0,0),(GI.iOvb,11,0,0)], by decide⟩,
   ⟨11, st [(GI.iSt,11,0,2),(GI.iUvlo,11,0,0),(GI.iOt,11,0,0),(HK.OT_STAT.GI,0,0,0),(GI.iLost,11,0,0),(GI.iBl,11,0,0)], by decide⟩,
   ⟨0, 3, st [(BL.PIT_STAT.ARMED,0,0,0),(SEC.LC_STAT.STATE,0,0,0),(SEC.hostRole,0,0,1)], by decide⟩⟩

theorem test_witness_GateIslandConfigurationCommands_2 :
    (∃ (isl : BitVec 4) (sel : BitVec 4) (s : State), (s.pitAllowed = true ∧ isl.toNat < 12 ∧ 1 ≤ sel.toNat ∧ sel.toNat ≤ 7) ∧ (s.pdOn 3 = true) ∧ (sel.toNat = 4)) ∧
    (∃ (isl : BitVec 4) (sel : BitVec 4) (s : State), (s.pitAllowed = true ∧ isl.toNat < 12 ∧ 1 ≤ sel.toNat ∧ sel.toNat ≤ 7) ∧ (s.pdOn 3 = true) ∧ (sel.toNat ≠ 3) ∧ (sel.toNat ≠ 4)) :=
  ⟨⟨0, 4, st [(BL.PIT_STAT.ARMED,0,0,0),(SEC.LC_STAT.STATE,0,0,0),(SEC.hostRole,0,0,1)], by decide⟩,
   ⟨11, 7, st [(BL.PIT_STAT.ARMED,0,0,0),(SEC.LC_STAT.STATE,0,0,0),(SEC.hostRole,0,0,1)], by decide⟩⟩

theorem test_witness_GateUplinkFramesAndDiagnostics_1 :
    (∃ (isl : Fin 12) (s : State), (s.pit 0x20 5 isl = false) ∧ (bit (s.get GI.iCause isl) 4 = true) ∧ (bit (s.get GI.iCause isl) 3 = true) ∧ (bit (s.get GI.iCause isl) 2 = true) ∧ (bit (s.get GI.iCause isl) 1 = true)) ∧
    (∃ (isl : Fin 12) (s : State), (s.pit 0x20 5 isl = false) ∧ (s.get GI.iCause isl ≠ 0)) ∧
    (∃ (isl : Fin 12) (sel : BitVec 3) (s : State), (s.pit 0x20 5 isl = false ∧ s.pit 0x20 7 isl = false) ∧ (sel = 0)) ∧
    (∃ (isl : Fin 12) (sel : BitVec 3) (s : State), (s.pit 0x20 5 isl = false ∧ s.pit 0x20 7 isl = false) ∧ (sel = 2)) ∧
    (∃ (isl : Fin 12) (sel : BitVec 3) (s : State), (s.pit 0x20 5 isl = false ∧ s.pit 0x20 7 isl = false) ∧ (sel = 3)) ∧
    (∃ (isl : Fin 12) (sel : BitVec 3) (s : State), (s.pit 0x20 5 isl = false ∧ s.pit 0x20 7 isl = false) ∧ (sel = 1)) ∧
    (∃ (isl : Fin 12) (s : State), (s.pit 0x20 5 isl = false ∧ s.is GI.iRd isl = true) ∧ (s.get GI.iRdA isl < 0x100)) ∧
    (∃ (isl : Fin 12) (s : State), (s.get GI.iSt isl = 1 ∨ s.get GI.iSt isl = 2 ∨ s.get GI.iSt isl = 3)) :=
  ⟨⟨11, st [(BL.PIT_STAT.ARMED,0,0,0),(GI.iCause,11,0,31)], by decide⟩,
   ⟨11, st [(BL.PIT_STAT.ARMED,0,0,0),(GI.iCause,11,0,16)], by decide⟩,
   ⟨11, 0, st [(BL.PIT_STAT.ARMED,0,0,0)], by decide⟩,
   ⟨0, 2, st [(BL.PIT_STAT.ARMED,0,0,0)], by decide⟩,
   ⟨11, 3, st [(BL.PIT_STAT.ARMED,0,0,0)], by decide⟩,
   ⟨0, 1, st [(BL.PIT_STAT.ARMED,0,0,0)], by decide⟩,
   ⟨11, st [(BL.PIT_STAT.ARMED,0,0,0),(GI.iRd,11,0,1),(GI.iRdA,11,0,255)], by decide⟩,
   ⟨11, st [(GI.iSt,11,0,3)], by decide⟩⟩

theorem test_witness_GateUplinkFramesAndDiagnostics_2 :
    (∃ (isl : Fin 12) (s : State), (s.get GI.iSt isl = 4)) ∧
    (∃ (isl : Fin 12) (s : State), (s.is GI.trained isl = true)) ∧
    (∃ (star : Fin 2) (s : State), (s.get (if star = 0 then GLK.OSD_RES.STAT_A else GLK.OSD_RES.STAT_B) = 1 ∧ s.get GLK.osdN star < 12) ∧ (s.get GLK.osdN star < 11)) ∧
    (∃ (star : Fin 2) (s : State), (s.get (if star = 0 then GLK.OSD_RES.STAT_A else GLK.OSD_RES.STAT_B) = 1 ∧ s.get GLK.osdN star < 12) ∧ (s.get GLK.osdN star = 11)) ∧
    (∃ (star : Fin 2) (s : State), (s.get (if star = 0 then GLK.OSD_RES.STAT_A else GLK.OSD_RES.STAT_B) ≠ 1) ∧ (s.pdOn 3 = true) ∧ (s.osdOk star = true)) ∧
    (∃ (star : Fin 2) (s : State), (s.get (if star = 0 then GLK.OSD_RES.STAT_A else GLK.OSD_RES.STAT_B) ≠ 1) ∧ (s.pdOn 3 = true) ∧ (s.osdOk star = false)) :=
  ⟨⟨11, st [(GI.iSt,11,0,4)], by decide⟩,
   ⟨11, st [(GI.trained,11,0,1)], by decide⟩,
   ⟨0, st [(GLK.OSD_RES.STAT_A,0,0,1),(GLK.osdN,0,0,0)], by decide⟩,
   ⟨1, st [(GLK.OSD_RES.STAT_B,0,0,1),(GLK.osdN,1,0,11)], by decide⟩,
   ⟨0, st ([(GLK.OSD_RES.STAT_A,0,0,0),(ACT.chEn,0,0,0),(ACT.chEn,7,0,0),(SEN.VDC_STAT.LOST,0,0,0),(SEN.VDC_VAL.FILT,0,0,32767),(BL.secOk,0,0,1),(BL.secOk,7,0,1),(BL.sec,0,0,0x20000000),(BL.sec,7,0,0x20000000),(GLK.OSD_CMD.VLO,0,0,50)] ++ (List.range 6).flatMap fun k => [(GI.STATUS.ON,k,0,0),(GI.cmdOn,k,0,0),(GI.VDS.CODE,k,0,100)]), by decide⟩,
   ⟨1, st [(BL.PIT_STAT.ARMED,0,0,0)], by decide⟩⟩

theorem test_witness_GateIslandLineBroadcastAndProtection_1 :
    (∃ (isl : Fin 12) (word : BitVec 8) (s : State), (word = 0x33 ∨ word = 0x55) ∧ (s.get GI.iSt isl ≠ 0)) ∧
    (∃ (isl : Fin 12) (word : BitVec 8) (s : State), (word = 0x33) ∧ (isl.val % 2 = 0) ∧ (s.get GI.iSt isl = 3) ∧ (s.is GI.iPend isl = false) ∧ (s.is GI.iOn isl = true)) ∧
    (∃ (isl : Fin 12) (s : State), (s.is GI.iSc isl = true ∧ s.get GI.iSt isl = 4) ∧ (isl.val % 2 = 1 ∨ s.is GI.iOt isl = false)) ∧
    (∃ (isl : Fin 12) (s : State), (isl.val % 2 = 1) ∧ (s.get GI.iSt isl ≠ 0)) ∧
    (∃ (isl : Fin 12) (s : State), (s.is GI.iBc isl = true ∧ s.is GI.iOvb isl = true ∧ s.get GI.iSt isl = 4)) ∧
    (∃ (isl : Fin 12) (s : State), (s.is GI.iOvb isl = true) ∧ (s.get GI.iBl isl = 0) ∧ (s.get GI.iSt isl = 4)) ∧
    (∃ (isl : Fin 12) (s : State), (s.is GI.iUvlo isl = false)) ∧
    (∃ (isl : Fin 12) (s : State), (s.is GI.iUvlo isl = true ∧ s.is GI.iLow isl = false ∧ s.get GI.iBl isl = 0 ∧ s.is GI.iOvb isl = false)) :=
  ⟨⟨0, 0x55, st [(GI.iSt,0,0,1)], by decide⟩,
   ⟨10, 0x33, st [(GI.iSt,10,0,3),(GI.iPend,10,0,0),(GI.iOn,10,0,1)], by decide⟩,
   ⟨10, st [(GI.iSc,10,0,1),(GI.iSt,10,0,4),(GI.iOt,10,0,0)], by decide⟩,
   ⟨11, st [(GI.iSt,11,0,1)], by decide⟩,
   ⟨11, st [(GI.iBc,11,0,1),(GI.iOvb,11,0,1),(GI.iSt,11,0,4)], by decide⟩,
   ⟨11, st [(GI.iOvb,11,0,1),(GI.iBl,11,0,0),(GI.iSt,11,0,4)], by decide⟩,
   ⟨0, st [], by decide⟩,
   ⟨11, st [(GI.iUvlo,11,0,1),(GI.iLow,11,0,0),(GI.iBl,11,0,0),(GI.iOvb,11,0,0)], by decide⟩⟩

theorem test_witness_GateIslandLineBroadcastAndProtection_2 :
    (∃ (isl : Fin 12) (ntc : Bool) (s : State), (ntc = false ∨ s.get GI.iCtl isl < 16) ∧ (s.get GI.iSt isl = 1 ∨ s.get GI.iSt isl = 2 ∨ s.get GI.iSt isl = 3)) ∧
    (∃ (isl : Fin 12) (ntc : Bool) (s : State), (ntc = false ∨ s.get GI.iCtl isl < 16) ∧ (s.get GI.iSt isl = 4) ∧ (isl.val % 2 = 1)) ∧
    (∃ (isl : Fin 12) (ntc : Bool) (s : State), (ntc = false ∨ s.get GI.iCtl isl < 16) ∧ (s.get GI.iSt isl = 4) ∧ (isl.val % 2 = 0)) ∧
    (∃ (isl : Fin 12) (s : State), (s.getBit SYS.PWR_STAT.PD_ON (7 + isl / 6) = true ∧ s.get GI.iSt isl = 0 ∧ s.is GI.iUvlo isl = false) ∧ (s.get GI.iBl isl = 0 ∧ s.is GI.iOvb isl = false)) ∧
    (∃ (isl : Fin 12) (word : BitVec 8) (s : State), (word ≠ 0x66) ∧ (word ≠ 0x33) ∧ (word ≠ 0x55) ∧ (s.get GI.iSt isl = 3) ∧ (s.is GI.iConf isl = true) ∧ (s.is GI.iOvb isl = false)) :=
  ⟨⟨11, false, st [(GI.iSt,11,0,3)], by decide⟩,
   ⟨11, false, st [(GI.iSt,11,0,4)], by decide⟩,
   ⟨0, false, st [(GI.iSt,0,0,4)], by decide⟩,
   ⟨11, st [(SYS.PWR_STAT.PD_ON,0,0,1023),(GI.iSt,11,0,0),(GI.iUvlo,11,0,0),(GI.iBl,11,0,0),(GI.iOvb,11,0,0)], by decide⟩,
   ⟨11, 0, st [(GI.iSt,11,0,3),(GI.iConf,11,0,1),(GI.iOvb,11,0,0)], by decide⟩⟩

theorem test_witness_AuxiliaryDriveEventsTakeEffect_1 :
    (∃ (ch ph : Fin 3) (high : Bool) (amps : BitVec 8) (s : State), ((if high then s.get AX.CH_OC.OC_HS ch else s.get AX.CH_OC.OC_LS ch) < amps.toNat) ∧ (high = false ∨ s.get PU.hiT (2 + ch) ph = 0 ∨ s.get PU.hiT (2 + ch) ph + 200 ≤ s.now)) ∧
    (∃ (ch : Fin 3) (peak : Bool) (low : BitVec 3) (s : State), (s.is ACT.chEn (2 + ch) = true ∧ s.is PU.CTL.RUN (2 + ch) = true ∧ s.is PU.STATUS.HALTED (2 + ch) = false) ∧ (peak = false ∨ s.is PU.CTL.DBL_UPD (2 + ch) = true) ∧ (peak = false) ∧ (low = 7) ∧ (s.get AX.CH_STAT.STATE ch ≠ 0)) ∧
    (∃ (code : BitVec 12), (code.toNat < 450)) ∧
    (∃ (code : BitVec 12) (s : State), (50 * s.get AX.CTL.VAUX_OV < code.toNat)) ∧
    (∃ (ch : Fin 3) (s : State), (s.is AX.uvWait ch = true ∧ s.is AX.uvCond = false ∧ s.is AX.lost ch = false ∧ s.is ACT.chEn (2 + ch) = true ∧ s.get AX.okT + 40000000 ≤ s.now)) ∧
    (∃ (ch : Fin 3) (s : State), (s.is ACT.chEn (2 + ch) = true ∧ s.get AX.spT ch + 4000000 * s.get AX.CH_CFG.SP_TMO ch ≤ s.now) ∧ (s.get AX.CH_STAT.STATE ch = 4) ∧ (s.get AX.CH_CFG.MODE ch = 1) ∧ (s.is AX.step ch = false)) ∧
    (∃ (ch : Fin 3) (s : State), (s.get AX.CH_STAT.STATE ch = 1 ∧ s.get AX.startT ch + 4000000 * s.get AX.CH_START.START_WAIT ch ≤ s.now)) ∧
    (∃ (ch ph : Fin 3) (code : BitVec 10) (s : State), (s.pit 0x18 1 ch = false ∧ (s.get AX.bsPitT ch ph = 0 ∨ s.get AX.bsPitT ch ph < s.now)) ∧ (code.toNat < 375)) :=
  ⟨⟨2, 2, true, 255, st [(AX.CH_OC.OC_HS,2,0,60),(PU.hiT,4,2,0)], by decide⟩,
   ⟨0, false, 7, st [(ACT.chEn,2,0,1),(PU.CTL.RUN,2,0,1),(PU.STATUS.HALTED,2,0,0),(AX.CH_STAT.STATE,0,0,2)], by decide⟩,
   ⟨0, by decide⟩,
   ⟨0xFFF, st [(AX.CTL.VAUX_OV,0,0,15)], by decide⟩,
   ⟨2, { st [(AX.uvWait,2,0,1),(AX.uvCond,0,0,0),(AX.lost,2,0,0),(ACT.chEn,4,0,1)] with now := 10 ^ 13 }, by decide⟩,
   ⟨2, { st [(ACT.chEn,4,0,1),(AX.CH_STAT.STATE,2,0,4),(AX.CH_CFG.MODE,2,0,1),(AX.step,2,0,0)] with now := 10 ^ 13 }, by decide⟩,
   ⟨2, { st [(AX.CH_STAT.STATE,2,0,1)] with now := 10 ^ 13 }, by decide⟩,
   ⟨2, 2, 374, st [(BL.PIT_STAT.ARMED,0,0,0),(AX.bsPitT,2,2,0)], by decide⟩⟩

theorem test_witness_AuxiliaryDriveEventsTakeEffect_2 :
    (∃ (ch ph : Fin 3) (code : BitVec 10) (s : State), (s.pit 0x18 1 ch = false ∧ (s.get AX.bsPitT ch ph = 0 ∨ s.get AX.bsPitT ch ph < s.now)) ∧ (400 ≤ code.toNat)) ∧
    (∃ (ch : Fin 3) (s : State), (s.get AX.CH_STAT.BS_UV ch = 0 ∧ s.get AX.bsT ch + 400000 * s.get AX.CH_BS_LIM.BS_HOLD ch ≤ s.now)) ∧
    (∃ (ch : Fin 3) (peak : Bool) (s : State), (s.is ACT.chEn (2 + ch) = true ∧ s.counts (2 + ch) = true) ∧ (peak = false ∨ s.is PU.CTL.DBL_UPD (2 + ch) = true) ∧ (peak = false) ∧ (∀ n < 3, s.getBit AX.lowOk n ch = true)) ∧
    (∃ (ch : Fin 3) (peak : Bool) (s : State), (s.is ACT.chEn (2 + ch) = true ∧ s.counts (2 + ch) = true) ∧ (peak = false ∨ s.is PU.CTL.DBL_UPD (2 + ch) = true) ∧ (peak = false) ∧ (s.getBit AX.lowOk 1 ch = false) ∧ (s.getBit AX.lowOk 2 ch = false)) ∧
    (∃ (ch : Fin 3) (peak : Bool) (u : BitVec 12) (v : BitVec 12) (w : BitVec 12) (s : State), (s.is ACT.chEn (2 + ch) = true ∧ s.counts (2 + ch) = true) ∧ (peak = false ∨ s.is PU.CTL.DBL_UPD (2 + ch) = true) ∧ (after (exec (.axPeriodStart ch peak u v w) s) (fun t => decide (t.get AX.CH_STAT.STATE ch < 2 ∨ t.is AX.step ch = true ∨ t.get AX.src ch = 2)) = true)) ∧
    (∃ (ch : Fin 3) (nodes : List AuxNodes) (s : State), (s.get AX.CH_STAT.STATE ch = 1 ∧ s.get AX.watchT ch + 400000 * s.get AX.CH_START.CATCH_MS ch ≤ s.now) ∧ (nodes.getLast?.any State.nodeStill = true)) ∧
    (∃ (ch : Fin 3) (nodes : List AuxNodes) (s : State), (s.get AX.CH_STAT.STATE ch = 1 ∧ s.get AX.watchT ch + 400000 * s.get AX.CH_START.CATCH_MS ch ≤ s.now) ∧ (nodes.getLast?.any State.nodeStill = false) ∧ (s.get AX.CH_OBS.OBS_DN ch ≤ (s.crossSpeed ch (State.crossings nodes)).natAbs)) ∧
    (∃ (ch : Fin 3) (nodes : List AuxNodes) (s : State), (s.get AX.CH_STAT.STATE ch = 1 ∧ s.get AX.watchT ch + 400000 * s.get AX.CH_START.CATCH_MS ch ≤ s.now) ∧ (nodes.getLast?.any State.nodeStill = false) ∧ ((s.crossSpeed ch (State.crossings nodes)).natAbs < s.get AX.CH_OBS.OBS_DN ch)) :=
  ⟨⟨0, 0, 400, st [(BL.PIT_STAT.ARMED,0,0,0),(AX.bsPitT,0,0,0)], by decide⟩,
   ⟨2, { st [(AX.uvWait,2,0,1),(AX.uvCond,0,0,0),(AX.lost,2,0,0),(ACT.chEn,4,0,1)] with now := 10 ^ 13 }, by decide⟩,
   ⟨2, false, st [(ACT.chEn,4,0,1),(PU.CTL.RUN,4,0,1),(AX.lowOk,2,0,7)], by decide⟩,
   ⟨0, false, st [(ACT.chEn,2,0,1),(PU.CTL.RUN,2,0,1),(PU.STATUS.HALTED,2,0,0),(SYS.pllDown,0,0,0)], by decide⟩,
   ⟨2, false, 0, 0, 0, st [(ACT.chEn,4,0,1),(PU.CTL.RUN,4,0,1),(AX.lowOk,2,0,7)], by decide⟩,
   ⟨2, [{ time := 0, u := 1, v := 0, w := 0 }], { st [(AX.CH_STAT.STATE,2,0,1)] with now := 10 ^ 13 }, by decide⟩,
   ⟨2, [{ time := 0, u := 900, v := 100, w := 0 }], { st [(AX.CH_STAT.STATE,2,0,1),(AX.CH_OBS.OBS_DN,2,0,0)] with now := 10 ^ 13 }, by decide⟩,
   ⟨2, [{ time := 0, u := 900, v := 100, w := 0 }], { st [(AX.CH_STAT.STATE,2,0,1),(AX.CH_OBS.OBS_DN,2,0,0x7FFF)] with now := 10 ^ 13 }, by decide⟩⟩

theorem test_witness_AuxiliaryDriveEventsTakeEffect_3 :
    (∃ (ch : Fin 3) (p : Fin 3) (s : State), (s.get AX.step ch = 1 ∧ s.get AX.stepT ch + 800000 ≤ s.now) ∧ (10 * s.get AX.maxI ch p < s.get AX.CH_START.START_I ch)) ∧
    (∃ (ch : Fin 3) (s : State), (s.get AX.step ch = 1 ∧ s.get AX.stepT ch + 800000 ≤ s.now) ∧ (∀ n < 3, s.get AX.CH_START.START_I ch ≤ 10 * s.get AX.maxI ch n)) ∧
    (∃ (ch : Fin 3) (s : State), (s.get AX.step ch = 2 ∧ OB.INJ_CONV.INJ_N.reset ≤ s.get AX.injIn ch)) ∧
    (∃ (ch : Fin 3) (s : State), (s.get AX.step ch = 3) ∧ (s.get AX.injT ch + 8000000 ≤ s.now)) ∧
    (∃ (ch : Fin 3) (s : State), (s.get AX.step ch = 3) ∧ (s.now < s.get AX.injT ch + 8000000) ∧ (s.get AX.polPh ch = 4) ∧ (s.get AX.polIdx ch < 7)) ∧
    (∃ (ch : Fin 3) (s : State), (2 ≤ s.get AX.CH_STAT.STATE ch ∧ s.get AX.src ch ≠ 3) ∧ (0 < s.get AX.upT ch ∧ s.get AX.upT ch + 20000000 ≤ s.now)) ∧
    (∃ (ch : Fin 3) (s : State), (8 ≤ s.get AX.vN ch)) ∧
    (∃ (ch : Fin 3) (s : State), (8 ≤ s.get AX.vOkN ch)) :=
  ⟨⟨2, 2, { st [(AX.step,2,0,1),(AX.CH_START.START_I,2,0,1)] with now := 10 ^ 13 }, by decide⟩,
   ⟨2, { st [(AX.step,2,0,1),(AX.CH_START.START_I,2,0,10),(AX.maxI,2,0,200),(AX.maxI,2,1,200),(AX.maxI,2,2,200)] with now := 10 ^ 13 }, by decide⟩,
   ⟨2, st [(AX.step,2,0,2),(AX.injIn,2,0,0xFFFF)], by decide⟩,
   ⟨2, { st [(AX.step,2,0,3)] with now := 10 ^ 13 }, by decide⟩,
   ⟨2, st [(AX.step,2,0,3),(AX.polPh,2,0,4),(AX.polIdx,2,0,6)], by decide⟩,
   ⟨2, { st [(AX.CH_STAT.STATE,2,0,3),(AX.upT,2,0,1)] with now := 10 ^ 13 }, by decide⟩,
   ⟨2, st [(AX.vN,2,0,8)], by decide⟩,
   ⟨2, st [(AX.vOkN,2,0,8)], by decide⟩⟩

theorem test_witness_AuxiliaryDriveEventsTakeEffect_4 :
    (∃ (ch : BitVec 2) (ph : BitVec 2) (sel : BitVec 4) (s : State), (s.pitAllowed = true ∧ ch.toNat < 3 ∧ ph.toNat < 3 ∧ 1 ≤ sel.toNat ∧ sel.toNat ≤ 4) ∧ (s.pdOn 5 = true) ∧ (sel.toNat = 2)) ∧
    (∃ (ch : BitVec 2) (ph : BitVec 2) (sel : BitVec 4) (s : State), (s.pitAllowed = true ∧ ch.toNat < 3 ∧ ph.toNat < 3 ∧ 1 ≤ sel.toNat ∧ sel.toNat ≤ 4) ∧ (s.pdOn 5 = true) ∧ (sel.toNat ≠ 2)) :=
  ⟨⟨0, 0, 2, st [(BL.PIT_STAT.ARMED,0,0,0),(SEC.LC_STAT.STATE,0,0,0),(SEC.hostRole,0,0,1)], by decide⟩,
   ⟨2, 2, 4, st [(BL.PIT_STAT.ARMED,0,0,0),(SEC.LC_STAT.STATE,0,0,0),(SEC.hostRole,0,0,1)], by decide⟩⟩

theorem test_witness_TemperaturesThrottlesAndHolds_1 :
    (∃ (missing : BitVec 24) (n : Fin 12) (s : State), (s.hkRuns = true) ∧ (∀ k < 38, s.pit 0x19 1 k = false ∧ s.pit 0x19 2 k = false) ∧ (bit missing.toNat n = false) ∧ (76 ≤ s.get GI.MEAS_T.TDIE n) ∧ (s.get GI.MEAS_T.TDIE n ≤ 1016)) ∧
    (∃ (missing : BitVec 24) (n : Fin 12) (s : State), (s.hkRuns = true) ∧ (∀ k < 38, s.pit 0x19 1 k = false ∧ s.pit 0x19 2 k = false) ∧ (bit missing.toNat n = true)) ∧
    (∃ (s : State), (s.hkRuns = true ∧ s.is HK.busy = true) ∧ (s.is HK.CTL.THR_EN = false)) ∧
    (∃ (s : State), (s.get HK.roundT + 12000000 ≤ s.now)) ∧
    (∃ (sensor : Fin 38) (s : State), (s.cooled sensor = true) ∧ (24 ≤ sensor.val → sensor.val < 30 → ∀ k < 6, s.cooled (24 + k) = true) ∧ (sensor.val < 24) ∧ (s.getBit GI.iOt (1 - sensor / 12) (sensor % 12) = false) ∧ (s.get GI.iOt (sensor % 12) < 4)) ∧
    (∃ (sensor : Fin 38) (s : State), (s.cooled sensor = true) ∧ (24 ≤ sensor.val → sensor.val < 30 → ∀ k < 6, s.cooled (24 + k) = true) ∧ (24 ≤ sensor.val) ∧ (sensor.val < 30)) ∧
    (∃ (sensor : Fin 38) (s : State), (s.cooled sensor = true) ∧ (24 ≤ sensor.val → sensor.val < 30 → ∀ k < 6, s.cooled (24 + k) = true) ∧ (sensor.val = 30)) ∧
    (∃ (sensor : Fin 38) (s : State), (s.cooled sensor = true) ∧ (24 ≤ sensor.val → sensor.val < 30 → ∀ k < 6, s.cooled (24 + k) = true) ∧ (31 ≤ sensor.val) ∧ (sensor.val < 34)) :=
  ⟨⟨0xFFF000, 11, st [(BL.PIT_STAT.ARMED,0,0,0),(GI.MEAS_T.TDIE,11,0,1016)], by decide⟩,
   ⟨1, 0, st [(BL.PIT_STAT.ARMED,0,0,0)], by decide⟩,
   ⟨st [(HK.busy,0,0,1),(HK.CTL.THR_EN,0,0,0)], by decide⟩,
   ⟨{ st [(HK.busy,0,0,1),(HK.CTL.THR_EN,0,0,0)] with now := 10 ^ 13 }, by decide⟩,
   ⟨23, { st [(HK.TEMP.FAULT,23,0,0),(GI.iOt,11,0,2)] with now := 10 ^ 13 }, by decide⟩,
   ⟨24, { st [(HK.TEMP.FAULT,24,0,0)] with now := 10 ^ 13 }, by decide⟩,
   ⟨30, { st [(HK.TEMP.FAULT,30,0,0)] with now := 10 ^ 13 }, by decide⟩,
   ⟨33, { st [(HK.TEMP.FAULT,33,0,0)] with now := 10 ^ 13 }, by decide⟩⟩

theorem test_witness_EthernetFramesLinkAndPeerDelay_net :
    (∃ (port : Fin 2) (src : EthSrc) (s : State), src = .gptp ∧ s.is ETH.MSEC_CFG.TX_EN port = true ∧ s.is ETH.AS_CFG.AS_BYPASS = true) ∧
    (∃ (port : Fin 2) (s : State), s.is ETH.MSEC_CFG.TX_EN port = false) ∧
    (∃ (port : Fin 2) (src : EthSrc) (s : State), src = .ridge ∧ s.is ETH.MSEC_CFG.TX_EN port = true) :=
  ⟨⟨1, .gptp, st [(ETH.MSEC_CFG.TX_EN,1,0,1),(ETH.AS_CFG.AS_BYPASS,0,0,1)], by decide⟩, ⟨0, st [], by decide⟩,
   ⟨0, .ridge, st [(ETH.MSEC_CFG.TX_EN,0,0,1)], by decide⟩⟩

theorem test_witness_TemperaturesThrottlesAndHolds_held :
    (∃ s : State, s.hkRuns = false ∨ s.is HK.busy = false) ∧ (∃ (sensor : Fin 38) (s : State), s.is HK.TEMP.FAULT sensor = true) ∧
    (∃ (sensor : Fin 38) (s : State), s.is HK.otFail sensor = true) ∧
    (∃ (sensor : Fin 38) (s : State), s.now < s.get HK.coolT sensor + 400000000) :=
  ⟨⟨st [(SEC.DBG_STAT.HALT,0,0,1)], by decide⟩, ⟨37, st [(HK.TEMP.FAULT,37,0,1)], by decide⟩, ⟨37, st [(HK.otFail,37,0,1)], by decide⟩,
   ⟨0, st [], by decide⟩⟩

theorem test_witness_TemperaturesThrottlesAndHolds_2 : ∃ (sens : BitVec 6) (sel : BitVec 4) (s : State), (s.pitAllowed = true ∧ sens.toNat ≤ 37 ∧ 1 ≤ sel.toNat ∧ sel.toNat ≤ 2) ∧ (s.pdOn 2 = true) :=
  ⟨37, 2, st [(BL.PIT_STAT.ARMED,0,0,0),(SEC.LC_STAT.STATE,0,0,0),(SEC.hostRole,0,0,1)], by decide⟩

theorem test_witness_ContextTableJobsFetchAndCheck_1 :
    (∃ (d : Desc) (c : Fin 8) (s : State), (s.running 0 3 = some d) ∧ (s.is ACT.job = false) ∧ (d.byte 0 = 2 ^ c.val) ∧ (s.is ACT.chEn c = false)) ∧
    (∃ (d : Desc) (c : Fin 8) (s : State), (s.running 0 3 = some d) ∧ (s.is ACT.job = false) ∧ (d.byte 0 = 2 ^ c.val) ∧ (s.is ACT.chEn c = true)) ∧
    (∃ (d : Desc) (c : Fin 8) (s : State), (s.running 0 4 = some d ∧ s.is ACT.job = false) ∧ (State.lowest (d.byte 0) = some c.val)) ∧
    (∃ (d : Desc) (s : State), (s.running 0 4 = some d ∧ s.is ACT.job = false) ∧ (d.byte 0 = 0)) ∧
    (∃ (d : Desc) (s : State), (s.running 0 5 = some d) ∧ (s.actWrite (s.get SEC.descRole 0) = false)) ∧
    (∃ (d : Desc) (s : State), (s.running 0 5 = some d) ∧ (s.actWrite (s.get SEC.descRole 0) = true) ∧ (s.is ACT.job = false)) ∧
    (∃ (complete : Bool) (s : State), (s.get ACT.job = 2) ∧ (complete = false)) ∧
    (∃ (words : List (BitVec 32)) (complete : Bool) (s : State), (s.get ACT.job = 2) ∧ (complete = true) ∧ ((∀ k < 8, entryCrc (((words.map (·.toNat)).drop (256 * k)).take 256) = (((words.map (·.toNat)).drop (256 * k)).take 256).getD 2 0))) :=
  ⟨⟨{ op := 3, inl := true, fence := false, irq := true, preempt := false, tag := 9, len := 1, w0 := 1, w1 := 0, w2 := 0, w3 := 0 }, 0, (let s : State := st [(ACT.job,0,0,0),(ACT.chEn,0,0,0)]; { s with descs := [(0, { op := 3, inl := true, fence := false, irq := true, preempt := false, tag := 9, len := 1, w0 := 1, w1 := 0, w2 := 0, w3 := 0 })] }), by decide⟩,
   ⟨{ op := 3, inl := true, fence := false, irq := true, preempt := false, tag := 9, len := 1, w0 := 0x80, w1 := 0, w2 := 0, w3 := 0 }, 7, (let s : State := st [(ACT.job,0,0,0),(ACT.chEn,7,0,1)]; { s with descs := [(0, { op := 3, inl := true, fence := false, irq := true, preempt := false, tag := 9, len := 1, w0 := 0x80, w1 := 0, w2 := 0, w3 := 0 })] }), by decide⟩,
   ⟨{ op := 4, inl := true, fence := false, irq := true, preempt := false, tag := 9, len := 1, w0 := 0x80, w1 := 0, w2 := 0, w3 := 0 }, 7, (let s : State := st [(ACT.job,0,0,0)]; { s with descs := [(0, { op := 4, inl := true, fence := false, irq := true, preempt := false, tag := 9, len := 1, w0 := 0x80, w1 := 0, w2 := 0, w3 := 0 })] }), by decide⟩,
   ⟨{ op := 4, inl := true, fence := false, irq := true, preempt := false, tag := 9, len := 1, w0 := 0, w1 := 0, w2 := 0, w3 := 0 }, (let s : State := st [(ACT.job,0,0,0)]; { s with descs := [(0, { op := 4, inl := true, fence := false, irq := true, preempt := false, tag := 9, len := 1, w0 := 0, w1 := 0, w2 := 0, w3 := 0 })] }), by decide⟩,
   ⟨{ op := 5, inl := true, fence := false, irq := true, preempt := false, tag := 9, len := 1, w0 := 0, w1 := 0, w2 := 0, w3 := 0 }, (let s : State := st [(ACT.job,0,0,0),(SEC.hostRole,0,0,4)]; { s with descs := [(0, { op := 5, inl := true, fence := false, irq := true, preempt := false, tag := 9, len := 1, w0 := 0, w1 := 0, w2 := 0, w3 := 0 })] }), by decide⟩,
   ⟨{ op := 5, inl := true, fence := false, irq := true, preempt := false, tag := 9, len := 1, w0 := 0, w1 := 0, w2 := 0, w3 := 0 }, (let s : State := st [(ACT.job,0,0,0),(SEC.descRole,0,0,2)]; { s with descs := [(0, { op := 5, inl := true, fence := false, irq := true, preempt := false, tag := 9, len := 1, w0 := 0, w1 := 0, w2 := 0, w3 := 0 })] }), by decide⟩,
   ⟨false, st [(ACT.job,0,0,2)], by decide⟩,
   ⟨(List.replicate 8 ([0, 0, BitVec.ofNat 32 (entryCrc (List.replicate 256 0))] ++ List.replicate 253 0)).flatten, true, st [(ACT.job,0,0,2),(ACT.IMG_STAT.COPY,0,0,0)], by decide +kernel⟩⟩

theorem test_witness_ContextTableJobsFetchAndCheck_2 :
    (∃ (s : State), (s.get ACT.jobStep = 1 ∧ s.is ACT.CTL.SRC = false ∧ s.get ACT.jobCh < 7) ∧ (s.is RING.linkUp = false)) ∧
    (∃ (words : List (BitVec 32)) (s : State), (s.get ACT.jobStep = 1 ∧ s.is ACT.CTL.SRC = false ∧ s.get ACT.jobCh < 7) ∧ (s.is RING.linkUp = true) ∧ (s.get ACT.job ≠ 4) ∧ (entryCrc (words.map (·.toNat)) ≠ (words.map (·.toNat)).getD 2 0)) ∧
    (∃ (words : List (BitVec 32)) (s : State), (s.get ACT.jobStep = 1 ∧ s.is ACT.CTL.SRC = false ∧ s.get ACT.jobCh < 7) ∧ (s.is RING.linkUp = true) ∧ (s.get ACT.job = 4) ∧ (bit ((words.map (·.toNat)).getD 3 0) 0 = false)) ∧
    (∃ (k : Nat) (words : List (BitVec 32)) (s : State), (s.get ACT.jobStep = 1 ∧ s.is ACT.CTL.SRC = false ∧ s.get ACT.jobCh < 7) ∧ (s.is RING.linkUp = true) ∧ (entryCrc (words.map (·.toNat)) = (words.map (·.toNat)).getD 2 0) ∧ (s.get ACT.job ≠ 4 ∨ (2 ≤ s.get ACT.jobCh ∧ bit ((words.map (·.toNat)).getD 3 0) 0 = true)) ∧ (k < 256)) ∧
    (∃ (s : State), (s.get ACT.jobStep = 1)) ∧
    (∃ (s : State), (s.get ACT.jobStep = 2) ∧ (s.get ACT.job ≠ 3) ∧ (s.get BL.BIND.BIND (s.get ACT.jobCh) = 0 ∨ s.get BL.BIND.BIND (s.get ACT.jobCh) ≠ s.candBind)) ∧
    (∃ (s : State), (s.get ACT.jobStep = 2) ∧ (s.get ACT.job = 3) ∧ (State.headerBad (s.get ACT.jobCh) (s.entryWords ACT.cand 0) = true)) ∧
    (∃ (s : State), (s.get ACT.jobStep = 2) ∧ (s.get ACT.job = 1) ∧ (s.get BL.BIND.BIND (s.get ACT.jobCh) ≠ 0) ∧ (s.get BL.BIND.BIND (s.get ACT.jobCh) = s.candBind) ∧ (State.headerBad (s.get ACT.jobCh) (s.entryWords ACT.cand 0) = false) ∧ (s.candBad (s.get ACT.jobCh) = none) ∧ (5 ≤ s.get ACT.jobCh ∧ s.get ACT.jobCh ≤ 6)) :=
  ⟨⟨st [(ACT.jobStep,0,0,1),(ACT.CTL.SRC,0,0,0),(ACT.jobCh,0,0,6),(RING.linkUp,0,0,0)], by decide⟩,
   ⟨[7], st [(ACT.jobStep,0,0,1),(ACT.CTL.SRC,0,0,0),(ACT.jobCh,0,0,6),(ACT.job,0,0,1),(RING.linkUp,0,0,1)], by decide +kernel⟩,
   ⟨[7], st [(ACT.jobStep,0,0,1),(ACT.CTL.SRC,0,0,0),(ACT.jobCh,0,0,6),(ACT.job,0,0,4),(RING.linkUp,0,0,1)], by decide +kernel⟩,
   ⟨255, [0x04060001, 7, BitVec.ofNat 32 (entryCrc ([0x04060001, 7, 0, 9] ++ List.replicate 252 0)), 9] ++ List.replicate 252 0, st [(ACT.jobStep,0,0,1),(ACT.CTL.SRC,0,0,0),(ACT.jobCh,0,0,6),(ACT.job,0,0,1),(RING.linkUp,0,0,1)], by decide +kernel⟩,
   ⟨st [(ACT.jobStep,0,0,1),(ACT.jobCh,0,0,7)], by decide⟩,
   ⟨st [(ACT.jobStep,0,0,2),(ACT.job,0,0,1),(ACT.jobCh,0,0,7),(BL.BIND.BIND,7,0,0)], by decide⟩,
   ⟨st [(ACT.jobStep,0,0,2),(ACT.job,0,0,3),(ACT.jobCh,0,0,0)], by decide⟩,
   ⟨st ((let l := [(ACT.jobStep,0,0,2),(ACT.job,0,0,1),(ACT.jobCh,0,0,6),(ACT.cand,0,0,0x04060001),(ACT.cand,0,16,0x00640500),(ACT.cand,0,17,50),(ACT.cand,0,18,0x00640001)]; l ++ [(BL.BIND.BIND,6,0,(sets base l).candBind)])), by decide⟩⟩

theorem test_witness_ContextTableJobsFetchAndCheck_3 :
    (∃ (s : State), (s.get ACT.jobStep = 2) ∧ (s.get ACT.job = 4) ∧ (s.get BL.BIND.BIND (s.get ACT.jobCh) ≠ 0) ∧ (s.get BL.BIND.BIND (s.get ACT.jobCh) = s.candBind) ∧ (State.headerBad (s.get ACT.jobCh) (s.entryWords ACT.cand 0) = false) ∧ (s.candBad (s.get ACT.jobCh) = none) ∧ (5 ≤ s.get ACT.jobCh ∧ s.get ACT.jobCh ≤ 6) ∧ (s.enablePre (s.get ACT.jobCh) = true)) ∧
    (∃ (ch : Fin 8) (good : Bool) (s : State), (good = false) ∧ (s.getBit ACT.STAT.CACHED ch = true)) ∧
    (∃ (ch : Fin 8) (good : Bool) (s : State), (good = true ∨ s.getBit ACT.STAT.CACHED ch = false)) ∧
    (∃ (mask : BitVec 8) (c : Fin 8) (s : State), (s.is ACT.job = false ∧ s.is ACT.CMD.GO = false) ∧ (s.pdOn 2 = true) ∧ (State.lowest mask.toNat = some c.val) ∧ (s.is ACT.chEn c = true)) ∧
    (∃ (mask : BitVec 8) (s : State), (s.is ACT.job = false ∧ s.is ACT.CMD.GO = false) ∧ (s.pdOn 2 = true) ∧ (∀ k < 8, bit mask.toNat k = true → s.is ACT.chEn k = false)) ∧
    (∃ (mask : BitVec 8) (s : State), (s.is ACT.job = false ∧ s.is ACT.CMD.GO = false) ∧ (s.pdOn 2 = true) ∧ (mask = 0)) ∧
    (∃ (s : State), (s.is ACT.job = false ∧ s.is ACT.CMD.GO = false) ∧ (s.pdOn 2 = true) ∧ (s.actWrite s.linkRole = false) ∧ (s.evWarning.length < 64)) ∧
    (∃ (s : State), (s.is ACT.job = false ∧ s.is ACT.CMD.GO = false) ∧ (s.pdOn 2 = true) ∧ (s.actWrite s.linkRole = true)) :=
  ⟨⟨st ((let l := [(ACT.jobStep,0,0,2),(ACT.job,0,0,4),(ACT.jobCh,0,0,6),(SYS.RST_STAT.READY,0,0,1),(SYS.PWR_STAT.STATE,0,0,0),(SYS.PWR_STAT.PD_ON,0,0,0xFFFF),(SEC.LC_STAT.LC_PEND,0,0,0),(SEC.LC_STAT.STATE,0,0,2),(BIST.STAT.BUSY,0,0,0),(BL.DIS_STAT.STATE,0,0,0),(ACT.cand,0,0,0x04060001),(ACT.cand,0,16,0x00640500),(ACT.cand,0,17,50),(ACT.cand,0,18,0x00640001)]; l ++ [(BL.BIND.BIND,6,0,(sets base l).candBind)])), by decide⟩,
   ⟨7, false, st [(ACT.STAT.CACHED,0,0,0x80)], by decide⟩,
   ⟨7, true, st [], by decide⟩,
   ⟨0x80, 7, st [(ACT.job,0,0,0),(ACT.CMD.GO,0,0,0),(ACT.chEn,7,0,1)], by decide⟩,
   ⟨0, st [(ACT.job,0,0,0),(ACT.CMD.GO,0,0,0)], by decide⟩,
   ⟨0, st [(ACT.job,0,0,0),(ACT.CMD.GO,0,0,0)], by decide⟩,
   ⟨st [(ACT.job,0,0,0),(ACT.CMD.GO,0,0,0),(ACT.chEn,7,0,1)], by decide⟩,
   ⟨st [(ACT.job,0,0,0),(ACT.CMD.GO,0,0,0),(SEC.hostRole,0,0,2)], by decide⟩⟩

theorem test_witness_ContextTableJobsFetchAndCheck_4 : ∃ (d : Desc) (s : State), (s.running 0 3 = some d) ∧ (s.enableLoads (d.byte 0) = true) :=
  ⟨{ op := 3, inl := true, fence := false, irq := true, preempt := false, tag := 9, len := 1, w0 := 0x80, w1 := 0, w2 := 0, w3 := 0 }, (let s : State := st [(ACT.job,0,0,4),(ACT.jobStep,0,0,1),(ACT.jobCh,0,0,7)]; { s with descs := [(0, { op := 3, inl := true, fence := false, irq := true, preempt := false, tag := 9, len := 1, w0 := 0x80, w1 := 0, w2 := 0, w3 := 0 })] }), by decide⟩

theorem test_witness_ChannelsEnableAndDisable_1 :
    (∃ (net : Bool) (b : Nat) (c : Fin 8) (s : State), (s.command net 0x10 = some b ∧ s.is ACT.job = false ∧ b % 256 = 2 ^ c.val) ∧ (s.is ACT.chEn c = false) ∧ (s.enablePre c = false)) ∧
    (∃ (net : Bool) (b : Nat) (c : Fin 8) (s : State), (s.command net 0x11 = some b ∧ s.is ACT.disSrc = false ∧ b % 256 = 2 ^ c.val) ∧ (s.is ACT.chEn c = true) ∧ (c.val = 5)) ∧
    (∃ (net : Bool) (b : Nat) (c : Fin 8) (s : State), (s.command net 0x11 = some b ∧ s.is ACT.disSrc = false ∧ b % 256 = 2 ^ c.val) ∧ (s.is ACT.chEn c = true) ∧ (2 ≤ c.val) ∧ (c.val ≤ 4)) ∧
    (∃ (net : Bool) (b : Nat) (c : Fin 8) (s : State), (s.command net 0x11 = some b ∧ s.is ACT.disSrc = false ∧ b % 256 = 2 ^ c.val) ∧ (s.is ACT.chEn c = true) ∧ (c.val < 2) ∧ (s.is BL.wind c = false) ∧ (s.get SQ.STATUS.MODE c ∉ [1, 6, 7])) ∧
    (∃ (net : Bool) (b : Nat) (c : Fin 8) (s : State), (s.command net 0x11 = some b ∧ s.is ACT.disSrc = false ∧ b % 256 = 2 ^ c.val) ∧ (s.is ACT.chEn c = true) ∧ (c.val < 2) ∧ (s.is BL.wind c = false) ∧ (s.get SQ.STATUS.MODE c ∈ [1, 6, 7])) ∧
    (∃ (net : Bool) (b : Nat) (c : Fin 8) (s : State), (s.command net 0x11 = some b ∧ s.is ACT.disSrc = false ∧ b % 256 = 2 ^ c.val) ∧ (s.is ACT.chEn c = false) ∧ (net = false)) ∧
    (∃ (ch : Fin 8) (s : State), (s.is ACT.rampN ch = true) ∧ (ch.val < 2) ∧ (5 * s.get SQ.OBS_CFG.RAMP_US ch ≤ 2 * s.get ACT.rampN ch)) ∧
    (∃ (ch : Fin 8) (s : State), (s.is ACT.rampN ch = true) ∧ (ch.val < 2) ∧ (2 * s.get ACT.rampN ch < 5 * s.get SQ.OBS_CFG.RAMP_US ch)) :=
  ⟨⟨true, 0x80, 7, st [(ACT.job,0,0,0),(BL.netBusy,0,0,1),(BL.netOp,0,0,0x10),(BL.netArg,0,0,0x80),(ACT.chEn,7,0,0)], by decide⟩,
   ⟨true, 0x20, 5, st [(ACT.disSrc,0,0,0),(BL.netBusy,0,0,1),(BL.netOp,0,0,0x11),(BL.netArg,0,0,0x20),(ACT.chEn,5,0,1)], by decide⟩,
   ⟨true, 0x10, 4, st [(ACT.disSrc,0,0,0),(BL.netBusy,0,0,1),(BL.netOp,0,0,0x11),(BL.netArg,0,0,0x10),(ACT.chEn,4,0,1)], by decide⟩,
   ⟨false, 2, 1, (let s : State := st [(ACT.disSrc,0,0,0),(RING.ridgeOk,0,0,1),(ACT.chEn,1,0,1),(SQ.STATUS.MODE,1,0,2),(BL.wind,1,0,0)]; { s with descs := [(1, { op := 0x11, inl := true, fence := false, irq := true, preempt := false, tag := 9, len := 16, w0 := 2, w1 := 0, w2 := 0, w3 := 0 })] }), by decide⟩,
   ⟨false, 1, 0, (let s : State := st [(ACT.disSrc,0,0,0),(RING.ridgeOk,0,0,1),(ACT.chEn,0,0,1),(SQ.STATUS.MODE,0,0,7),(BL.wind,0,0,0)]; { s with descs := [(1, { op := 0x11, inl := true, fence := false, irq := true, preempt := false, tag := 9, len := 16, w0 := 1, w1 := 0, w2 := 0, w3 := 0 })] }), by decide⟩,
   ⟨false, 1, 0, (let s : State := st [(ACT.disSrc,0,0,0),(RING.ridgeOk,0,0,1),(ACT.chEn,0,0,0)]; { s with descs := [(1, { op := 0x11, inl := true, fence := false, irq := true, preempt := false, tag := 9, len := 16, w0 := 1, w1 := 0, w2 := 0, w3 := 0 })] }), by decide⟩,
   ⟨1, st [(ACT.rampN,1,0,65535),(SQ.OBS_CFG.RAMP_US,1,0,1)], by decide⟩,
   ⟨0, st [(ACT.rampN,0,0,1),(SQ.OBS_CFG.RAMP_US,0,0,100)], by decide⟩⟩

theorem test_witness_ChannelsEnableAndDisable_2 :
    (∃ (ch : Fin 8) (s : State), (s.is ACT.rampN ch = true) ∧ (2 ≤ ch.val) ∧ (ch.val ≤ 4) ∧ (s.is AX.ref (ch - 2) = false)) ∧
    (∃ (ch : Fin 8) (s : State), (s.is ACT.rampN ch = true) ∧ (2 ≤ ch.val) ∧ (ch.val ≤ 4) ∧ (s.is AX.ref (ch - 2) = true)) ∧
    (∃ (net : Bool) (b : Nat) (c : Fin 8) (s : State), (s.command net 0x10 = some b ∧ s.is ACT.job = false ∧ b % 256 = 2 ^ c.val) ∧ (s.is ACT.chEn c = false) ∧ (s.enablePre c = true) ∧ (s.imageBars c = false) ∧ (s.calNeeded c = false)) ∧
    (∃ (net : Bool) (b : Nat) (c : Fin 8) (s : State), (s.command net 0x10 = some b ∧ s.is ACT.job = false ∧ b % 256 = 2 ^ c.val) ∧ (s.is ACT.chEn c = true) ∧ (s.disRunning = false) ∧ (c.val ≠ 0) ∧ (c.val ≠ 1) ∧ (c.val ≠ 7) ∧ (net = false)) :=
  ⟨⟨4, st [(ACT.rampN,4,0,1),(AX.ref,2,0,0)], by decide⟩,
   ⟨2, st [(ACT.rampN,2,0,1),(AX.ref,0,0,9)], by decide⟩,
   ⟨true, 0x40, 6, st [(ACT.job,0,0,0),(BL.netBusy,0,0,1),(BL.netOp,0,0,0x10),(BL.netArg,0,0,0x40),(ACT.chEn,6,0,0),(SYS.RST_STAT.READY,0,0,1),(SYS.PWR_STAT.STATE,0,0,0),(SYS.PWR_STAT.PD_ON,0,0,0xFFFF),(SEC.LC_STAT.LC_PEND,0,0,0),(SEC.LC_STAT.STATE,0,0,2),(BIST.STAT.BUSY,0,0,0),(BL.DIS_STAT.STATE,0,0,0)], by decide⟩,
   ⟨false, 0x40, 6, (let s : State := st [(RING.ridgeOk,0,0,1),(ACT.chEn,6,0,1)]; { s with descs := [(1, { op := 16, inl := true, fence := false, irq := true, preempt := false, tag := 9, len := 16, w0 := 0x40, w1 := 0, w2 := 0, w3 := 0 })] }), by decide⟩⟩

theorem test_witness_RingsStopRestartAndTakeDoorbells_1 :
    (∃ (gen : Nat) (lanes : Nat), (3 ≤ gen) ∧ (2 ≤ lanes)) ∧
    (∃ (gen : Nat) (lanes : Nat) (s : State), (gen < 3 ∨ lanes < 2) ∧ (s.evWarning.length < 64)) ∧
    (∃ (ring : Fin 32) (payload : Bool) (s : State), (payload = false) ∧ (s.ringOn ring = true)) ∧
    (∃ (ring : Fin 32) (payload : Bool) (d : Desc) (s : State), (payload = true) ∧ (s.desc ring = some d) ∧ (d.inl = false) ∧ (∀ p ∈ s.plays, p.ring ≠ ring.val)) ∧
    (∃ (ring : Fin 32) (payload : Bool) (d : Desc) (s : State), (payload = true) ∧ (s.desc ring = some d) ∧ (d.inl = true)) ∧
    (∃ (ring : Fin 32) (payload : Bool) (s : State), (payload = false) ∧ (s.ringOn ring = false)) ∧
    (∃ (ring : Fin 32) (s : State), (s.is RING.IRQ.TIME ring = false ∨ s.is RING.unsig ring = false)) ∧
    (∃ (s : State), (s.pdOn 2 = true) ∧ (s.is RING.CTL.LOCK = true)) :=
  ⟨⟨3, 2, by decide⟩,
   ⟨0, 0, st [], by decide⟩,
   ⟨31, false, st [(RING.CFG.SIZE,31,0,8)], by decide⟩,
   ⟨20, true, { op := 1, inl := false, fence := false, irq := true, preempt := false, tag := 9, len := 64, w0 := 1, w1 := 0, w2 := 0, w3 := 0 }, { st [] with descs := [(20, { op := 1, inl := false, fence := false, irq := true, preempt := false, tag := 9, len := 64, w0 := 1, w1 := 0, w2 := 0, w3 := 0 })] }, by decide⟩,
   ⟨31, true, { op := 1, inl := true, fence := false, irq := true, preempt := false, tag := 9, len := 64, w0 := 1, w1 := 0, w2 := 0, w3 := 0 }, { st [] with descs := [(31, { op := 1, inl := true, fence := false, irq := true, preempt := false, tag := 9, len := 64, w0 := 1, w1 := 0, w2 := 0, w3 := 0 })] }, by decide⟩,
   ⟨31, false, st [], by decide⟩,
   ⟨0, st [], by decide⟩,
   ⟨st [(RING.CTL.LOCK,0,0,1)], by decide⟩⟩

theorem test_witness_RingsStopRestartAndTakeDoorbells_2 :
    (∃ (size : BitVec 13) (s : State), (s.pdOn 2 = true) ∧ (s.is RING.CTL.LOCK = false) ∧ (sizeOk size.toNat = false)) ∧
    (∃ (ring : Fin 32) (size : BitVec 13) (s : State), (s.pdOn 2 = true) ∧ (s.is RING.CTL.LOCK = false) ∧ (sizeOk size.toNat = true) ∧ (s.desc ring = none)) ∧
    (∃ (ring : Fin 32) (size : BitVec 13) (s : State), (s.pdOn 2 = true) ∧ (s.is RING.CTL.LOCK = false) ∧ (sizeOk size.toNat = true) ∧ (s.desc ring ≠ none) ∧ (ringClass ring ≠ .buffer)) ∧
    (∃ (ring : Fin 32) (tail : BitVec 13) (highOnly : Bool) (s : State), (highOnly = false ∧ s.is RING.sizePend ring = false ∧ s.pdOn 2 = true) ∧ (tail.toNat < s.get RING.CFG.SIZE ring) ∧ ((s.get RING.TAIL.TAIL ring + s.get RING.CFG.SIZE ring - s.get RING.HEAD.HEAD ring) % s.get RING.CFG.SIZE ring ≤ (tail.toNat + s.get RING.CFG.SIZE ring - s.get RING.HEAD.HEAD ring) % s.get RING.CFG.SIZE ring)) ∧
    (∃ (ring : Fin 32) (tail : BitVec 13) (highOnly : Bool) (s : State), (highOnly = false ∧ s.is RING.sizePend ring = false ∧ s.pdOn 2 = true) ∧ (s.get RING.CFG.SIZE ring ≤ tail.toNat)) ∧
    (∃ (ring : Fin 32) (s : State), (s.is RING.IRQ.TIME ring = true) ∧ (s.is RING.unsig ring = true) ∧ (s.getBit RING.msixTable 0 (s.get RING.CFG.VEC ring) 3 = false)) ∧
    (∃ (ring : Fin 32) (s : State), (s.is RING.IRQ.TIME ring = true) ∧ (s.is RING.unsig ring = true) ∧ (s.getBit RING.msixTable 0 (s.get RING.CFG.VEC ring) 3 = true)) :=
  ⟨⟨9, st [(RING.CTL.LOCK,0,0,0)], by decide⟩,
   ⟨31, 0, st [], by decide⟩,
   ⟨0, 8, (let s : State := st [(RING.CTL.LOCK,0,0,0)]; { s with descs := [(0, { op := 1, inl := true, fence := false, irq := true, preempt := false, tag := 9, len := 16, w0 := 1, w1 := 0, w2 := 0, w3 := 0 })] }), by decide⟩,
   ⟨31, 7, false, st [(RING.CFG.SIZE,31,0,8),(RING.HEAD.HEAD,31,0,0),(RING.TAIL.TAIL,31,0,3),(RING.sizePend,31,0,0)], by decide⟩,
   ⟨0, 8, false, st [(RING.CFG.SIZE,0,0,8),(RING.sizePend,0,0,0)], by decide⟩,
   ⟨31, st [(RING.IRQ.TIME,31,0,1),(RING.unsig,31,0,1)], by decide⟩,
   ⟨31, st [(RING.IRQ.TIME,31,0,1),(RING.unsig,31,0,1),(RING.CFG.VEC,31,0,31),(RING.msixTable,31,3,1)], by decide⟩⟩

theorem test_witness_DescriptorsRecordsAndReadouts_1 :
    (∃ (ring : Fin 32) (d : Desc) (s : State), (s.handed ring = true ∧ s.desc ring = none ∧ s.is SEC.FW_STAT.BOOT_FAIL = false) ∧ (ringClass ring ≠ .record) ∧ (descRefusal ring d = none) ∧ (ring.val = 1)) ∧
    (∃ (ring : Fin 32) (s : State), (s.handed ring = true ∧ s.desc ring = none ∧ s.is SEC.FW_STAT.BOOT_FAIL = false) ∧ (ringClass ring = .record)) ∧
    (∃ (ring : Fin 8) (bankFree : Bool) (s : State), (s.ringOn (8 + ring) = true ∧ s.now % 160 = 0 ∧ s.now / 160 % s.get RING.PARAM.SP_PER (8 + ring) = 0) ∧ (s.handed (8 + ring) = true) ∧ (bankFree = true)) ∧
    (∃ (ring : Fin 8) (bankFree : Bool) (s : State), (s.ringOn (8 + ring) = true ∧ s.now % 160 = 0 ∧ s.now / 160 % s.get RING.PARAM.SP_PER (8 + ring) = 0) ∧ (s.handed (8 + ring) = true) ∧ (bankFree = false)) ∧
    (∃ (ring : Fin 8) (s : State), (s.ringOn (8 + ring) = true ∧ s.now % 160 = 0 ∧ s.now / 160 % s.get RING.PARAM.SP_PER (8 + ring) = 0) ∧ (s.handed (8 + ring) = false)) ∧
    (∃ (cls : Fin 4) (ev : Event) (q : List Event) (s : State), (s.queue (evClassOf cls) = ev :: q ∧ s.handed (16 + cls) = true)) ∧
    (∃ (d : Desc) (s : State), (s.running 22 2 = some d) ∧ (d.len.toNat % 32 = 0)) ∧
    (∃ (d : Desc) (s : State), (s.running 22 2 = some d) ∧ (d.len.toNat % 32 ≠ 0)) :=
  ⟨⟨1, { op := 0x10, inl := true, fence := false, irq := true, preempt := false, tag := 9, len := 16, w0 := 0, w1 := 0, w2 := 0, w3 := 0 }, (let s : State := st [(RING.CFG.SIZE,1,0,8),(RING.HEAD.HEAD,1,0,0),(RING.TAIL.TAIL,1,0,3),(RING.STAT.HALT,1,0,0),(SEC.FW_STAT.BOOT_FAIL,0,0,0)]; { s with descs := [] }), by decide⟩,
   ⟨19, (let s : State := st [(RING.CFG.SIZE,19,0,8),(RING.HEAD.HEAD,19,0,7),(RING.TAIL.TAIL,19,0,3),(RING.STAT.HALT,19,0,0),(SEC.FW_STAT.BOOT_FAIL,0,0,0)]; { s with descs := [] }), by decide⟩,
   ⟨7, true, (let s : State := st [(RING.CFG.SIZE,15,0,8),(RING.HEAD.HEAD,15,0,0),(RING.TAIL.TAIL,15,0,3),(RING.STAT.HALT,15,0,0),(RING.PARAM.SP_PER,15,0,2)]; { s with now := 320 }), by decide⟩,
   ⟨0, false, (let s : State := st [(RING.CFG.SIZE,8,0,8),(RING.HEAD.HEAD,8,0,0),(RING.TAIL.TAIL,8,0,3),(RING.STAT.HALT,8,0,0),(RING.PARAM.SP_PER,8,0,1)]; { s with now := 160 }), by decide⟩,
   ⟨0, (let s : State := st [(RING.CFG.SIZE,8,0,8),(RING.HEAD.HEAD,8,0,0),(RING.TAIL.TAIL,8,0,0),(RING.STAT.HALT,8,0,0),(RING.PARAM.SP_PER,8,0,1)]; { s with now := 0 }), by decide⟩,
   ⟨3, { time := 5, inst := 0, source := 0x30, code := 0x201, arg0 := 0, arg1 := 0 }, [], (let s : State := st [(RING.CFG.SIZE,19,0,8),(RING.HEAD.HEAD,19,0,0),(RING.TAIL.TAIL,19,0,3),(RING.STAT.HALT,19,0,0)]; { s with evSafety := [{ time := 5, inst := 0, source := 0x30, code := 0x201, arg0 := 0, arg1 := 0 }] }), by decide⟩,
   ⟨{ op := 2, inl := false, fence := false, irq := true, preempt := false, tag := 9, len := 64, w0 := 0, w1 := 0, w2 := 0, w3 := 0 }, (let s : State := st []; { s with descs := [(22, { op := 2, inl := false, fence := false, irq := true, preempt := false, tag := 9, len := 64, w0 := 0, w1 := 0, w2 := 0, w3 := 0 })] }), by decide⟩,
   ⟨{ op := 2, inl := false, fence := false, irq := true, preempt := false, tag := 9, len := 65, w0 := 0, w1 := 0, w2 := 0, w3 := 0 }, (let s : State := st []; { s with descs := [(22, { op := 2, inl := false, fence := false, irq := true, preempt := false, tag := 9, len := 65, w0 := 0, w1 := 0, w2 := 0, w3 := 0 })] }), by decide⟩⟩

theorem test_witness_DescriptorsRecordsAndReadouts_2 :
    (∃ (d : Desc) (s : State), (s.running 22 1 = some d ∧ d.w2 ≠ 0xFFFFFFFF) ∧ (d.len.toNat % 96 = 0)) ∧
    (∃ (d : Desc) (s : State), (s.running 22 1 = some d ∧ d.w2 ≠ 0xFFFFFFFF) ∧ (d.len.toNat % 96 ≠ 0)) ∧
    (∃ (ring : Fin 32) (d : Desc) (s : State), (s.handed ring = true ∧ s.desc ring = none ∧ s.is SEC.FW_STAT.BOOT_FAIL = false) ∧ (ringClass ring ≠ .record) ∧ (descRefusal ring d = none) ∧ (ring.val ≠ 1) ∧ (ring.val < 24 ∨ 28 ≤ ring.val) ∧ (payloadRead ring d = none)) :=
  ⟨⟨{ op := 1, inl := false, fence := false, irq := true, preempt := false, tag := 9, len := 192, w0 := 0, w1 := 0, w2 := 0, w3 := 0 }, (let s : State := st []; { s with descs := [(22, { op := 1, inl := false, fence := false, irq := true, preempt := false, tag := 9, len := 192, w0 := 0, w1 := 0, w2 := 0, w3 := 0 })] }), by decide⟩,
   ⟨{ op := 1, inl := false, fence := false, irq := true, preempt := false, tag := 9, len := 97, w0 := 0, w1 := 0, w2 := 0, w3 := 0 }, (let s : State := st []; { s with descs := [(22, { op := 1, inl := false, fence := false, irq := true, preempt := false, tag := 9, len := 97, w0 := 0, w1 := 0, w2 := 0, w3 := 0 })] }), by decide⟩,
   ⟨0, { op := 1, inl := true, fence := false, irq := true, preempt := false, tag := 9, len := 16, w0 := 0, w1 := 0, w2 := 0, w3 := 0 }, st [(RING.CFG.SIZE,0,0,8),(RING.TAIL.TAIL,0,0,1)], by decide⟩⟩

theorem test_witness_BelaySelectionSafeStatesAndMonitors_1 :
    (∃ (axis : Fin 2) (s : State), (s.is BL.lineFlt axis = true ∨ s.is BL.blTimed axis = false ∨ (s.secInForce axis = false ∧ s.is BL.idleOk axis = false))) ∧
    (∃ (axis : Fin 2) (s : State), (s.is BL.lineFlt axis = true ∨ s.is BL.blTimed axis = false) ∧ (s.is BL.selOnce axis = true)) ∧
    (∃ (axis : Fin 2) (s : State), (s.is BL.lineFlt axis = false) ∧ (s.is BL.blTimed axis = true) ∧ (s.secInForce axis = true) ∧ (s.get BL.blN axis < 2 ∨ 20000000 ≤ s.now - s.get BL.blT axis 0)) ∧
    (∃ (axis : Fin 2) (w : Int) (s : State), (s.blSpeed axis = some w) ∧ (after (exec (.blSelection axis) s) (fun t => decide ((t.emfSquares axis (t.polLo BL.POL_LO.SC_ON axis)).2 < (t.emfSquares axis (t.polLo BL.POL_LO.SC_ON axis)).1)) = true)) ∧
    (∃ (axis : Fin 2) (w : Int) (s : State), (s.blSpeed axis = some w) ∧ (after (exec (.blSelection axis) s) (fun t => decide ((t.emfSquares axis (t.polLo BL.POL_LO.SC_ON axis)).1 ≤ (t.emfSquares axis (t.polLo BL.POL_LO.SC_ON axis)).2 ∧ (t.emfSquares axis (t.polLo BL.POL_LO.SC_OFF axis)).1 < (t.emfSquares axis (t.polLo BL.POL_LO.SC_OFF axis)).2)) = true)) ∧
    (∃ (axis : Fin 2) (s : State), (s.is BL.causeReq axis = true) ∧ (s.joined = false) ∧ (bit (s.get BL.causeReq axis) 13 = true ∨ bit (s.get BL.causeReq axis) 15 = true)) ∧
    (∃ (mon : Fin 2) (pass : Bool) (s : State), (pass = false) ∧ (s.getBit BL.STATUS.TM_LOST mon = false) ∧ (s.joined = false) ∧ (s.getBit BL.CAUSE.BIV_CAUSE 9 0 = true)) ∧
    (∃ (axis : Fin 2) (s : State), (s.is BL.causeReq axis = true) ∧ (s.joined = true)) :=
  ⟨⟨1, st [(BL.causeReq,1,0,0x2000),(SQ.STATUS.JOINED,0,0,0)], by decide⟩,
   ⟨1, st [(BL.blTimed,1,0,0),(BL.selOnce,1,0,1)], by decide⟩,
   ⟨1, st [(BL.lineFlt,1,0,0),(BL.blTimed,1,0,1),(BL.secOk,1,0,1),(SQ.STATUS.JOINED,0,0,0),(BL.blN,1,0,1)], by decide⟩,
   ⟨1, 0x7FFF, fastShaft, fastShaft_speed, fastShaft_fast⟩,
   ⟨1, 0, st [(BL.lineFlt,1,0,0),(BL.blTimed,1,0,1),(BL.secOk,1,0,1),(SQ.STATUS.JOINED,0,0,0),(BL.blN,1,0,1),(BL.vblEver,0,0,1),(BL.vblStale,0,0,0),(BL.VDC_ACC.V_BL,0,0,100),(BL.sec,1,0,0x20000000)], by decide⟩,
   ⟨1, st [(BL.causeReq,1,0,0x2000),(SQ.STATUS.JOINED,0,0,0)], by decide⟩,
   ⟨1, false, st [(SQ.STATUS.JOINED,0,0,0),(BL.STATUS.TM_LOST,0,0,1),(BL.CAUSE.BIV_CAUSE,0,0,0x200)], by decide⟩,
   ⟨0, st [(BL.causeReq,0,0,1),(SQ.STATUS.JOINED,0,0,1)], by decide⟩⟩

theorem test_witness_BelaySelectionSafeStatesAndMonitors_2 :
    (∃ (pu : Fin 5) (s : State), (s.get BL.belT pu + 400 ≤ s.now) ∧ (pu.val < 2) ∧ (s.causePresent (s.lead pu) = false)) ∧
    (∃ (pu : Fin 5) (s : State), (s.get BL.belT pu + 400 ≤ s.now) ∧ (pu.val < 2) ∧ (s.causePresent (s.lead pu) = true)) ∧
    (∃ (pu : Fin 5) (s : State), (s.get BL.belT pu + 400 ≤ s.now) ∧ (2 ≤ pu.val) ∧ (s.is BL.STATUS.CI_LOST = false) ∧ (s.is BL.dieOt = false)) ∧
    (∃ (mon : Fin 2) (s : State), (s.tmLimit mon ≤ s.get (cntRow mon))) ∧
    (∃ (mon : Fin 2) (s : State), (s.get (cntRow mon) < s.tmLimit mon)) ∧
    (∃ (pass : Bool) (s : State), (pass = true) ∧ (s.is BL.PIT_STAT.ARMED = false)) ∧
    (∃ (s : State), (s.mbx 0x03 = true) ∧ (1 < s.get BL.MBX_ARG.ARG 0)) ∧
    (∃ (s : State), (s.mbx 0x03 = true) ∧ (s.get BL.MBX_ARG.ARG 0 ≤ 1) ∧ (s.is BL.PIT_STAT.ARMED = false)) :=
  ⟨⟨1, { st [(BL.CAUSE.SS_CAUSE,1,0,1),(SQ.STATUS.JOINED,0,0,0)] with now := 10 ^ 13 }, by decide⟩,
   ⟨0, { st [(BL.CAUSE.SS_CAUSE,0,0,2048),(BL.STATUS.XTRIP_ACT,0,0,1)] with now := 10 ^ 13 }, by decide⟩,
   ⟨4, { st [(BL.STATUS.CI_LOST,0,0,0),(BL.dieOt,0,0,0)] with now := 10 ^ 13 }, by decide⟩,
   ⟨1, st [(BL.TM_ERR.CNT1,0,0,1),(BL.TM_WIN.TM_TIME,0,0,0)], by decide⟩,
   ⟨0, st [(BL.TM_ERR.CNT0,0,0,1),(BL.TM_WIN.TM_TIME,0,0,200)], by decide⟩,
   ⟨true, st [(BL.PIT_STAT.ARMED,0,0,0)], by decide⟩,
   ⟨st [(BL.MBX_STAT.BUSY,0,0,1),(BL.MBX_CMD.OP,0,0,3),(BL.MBX_ARG.ARG,0,0,2)], by decide⟩,
   ⟨st [(BL.MBX_STAT.BUSY,0,0,1),(BL.MBX_CMD.OP,0,0,3),(BL.MBX_ARG.ARG,0,0,1),(BL.PIT_STAT.ARMED,0,0,0)], by decide⟩⟩

theorem test_witness_BelaySelectionSafeStatesAndMonitors_3 :
    (∃ (s : State), (s.joined = true ∧ s.is BL.STATUS.TM_LOST = false) ∧ (s.is BL.tmXRun = true) ∧ (200 * s.gov BL.TM_XCFG.XTIME 3 0 ≤ s.get BL.tmXRun)) ∧
    (∃ (s : State), (s.joined = true ∧ s.is BL.STATUS.TM_LOST = false) ∧ (s.get BL.tmXRun < 200 * s.gov BL.TM_XCFG.XTIME 3 0)) ∧
    (∃ (axis : Fin 2) (s : State), (s.axEn axis = true ∧ s.is BL.AXIS.ALIGN_OK axis = false) ∧ (s.alignDiff axis * 360 ≤ s.gov BL.TM_ALIGN.ALIGN_TOL 6 axis axis * 65536 * s.get POS.INC_CPR.CPR axis)) ∧
    (∃ (axis : Fin 2) (s : State), (s.axEn axis = true ∧ s.is BL.AXIS.ALIGN_OK axis = false) ∧ (s.gov BL.TM_ALIGN.ALIGN_TOL 6 axis axis * 65536 * s.get POS.INC_CPR.CPR axis < s.alignDiff axis * 360)) ∧
    (∃ (axis : Fin 2) (s : State), (s.axEn axis = true) ∧ (s.is BL.AXIS.ALIGN_OK axis = false) ∧ (2 * s.gov BL.TM_CPR.CPR_BL 7 axis axis ≤ (s.blSince axis BL.blEn).natAbs)) ∧
    (∃ (axis : Fin 2) (s : State), (s.axEn axis = false ∨ s.is BL.AXIS.ALIGN_OK axis = true ∨ (s.blSince axis BL.blEn).natAbs < 2 * s.gov BL.TM_CPR.CPR_BL 7 axis axis)) :=
  ⟨⟨st [(SQ.STATUS.JOINED,0,0,1),(BL.STATUS.TM_LOST,0,0,0),(BL.tmXRun,0,0,200),(BL.TM_XCFG.XTIME,0,0,1)], by decide⟩,
   ⟨st [(SQ.STATUS.JOINED,0,0,1),(BL.STATUS.TM_LOST,0,0,0),(BL.TM_XCFG.XTOL,0,0,0),(BL.TM_VAL.T_TM0,0,0,9),(BL.TM_VAL.T_TM1,0,0,0),(BL.sec,7,1,5)], by decide⟩,
   ⟨1, st [(SQ.STATUS.JOINED,0,0,0),(ACT.chEn,1,0,1),(BL.AXIS.ALIGN_OK,1,0,0),(POS.INC_CPR.CPR,1,0,0)], by decide⟩,
   ⟨0, st [(SQ.STATUS.JOINED,0,0,0),(ACT.chEn,0,0,1),(BL.AXIS.ALIGN_OK,0,0,0),(POS.INC_CPR.CPR,0,0,4096),(BL.TM_ALIGN.ALIGN_TOL,0,0,1),(BL.TM_ALIGN.ZOFS_BL,0,0,0x4000),(POS.IDX_LAT.LAT,0,0,0),(POS.ALIGN.INC_OFS,0,0,0)], by decide⟩,
   ⟨1, st [(SQ.STATUS.JOINED,0,0,0),(ACT.chEn,1,0,1),(BL.AXIS.ALIGN_OK,1,0,0),(BL.blCnt,1,0,0x7FFFFFFF),(BL.blEn,1,0,0)], by decide⟩,
   ⟨1, st [(BL.causeReq,1,0,0x2000),(SQ.STATUS.JOINED,0,0,0)], by decide⟩⟩

theorem test_witness_BelayBivouacLapseTripsAndHeartbeat_1 :
    (∃ (axis : Fin 2) (s : State), (s.is BL.AXIS.BIV axis = true ∧ s.axEn axis = true ∧ s.is BL.AXIS.BIV_EXPIRED axis = false ∧ s.is BL.bivWarned axis = false ∧ s.get BL.AXIS.BIV_LEFT axis ≤ 3000)) ∧
    (∃ (axis : Fin 2) (s : State), (s.is BL.AXIS.BIV axis = true ∧ s.axEn axis = true ∧ s.is BL.AXIS.BIV_EXPIRED axis = false ∧ s.get BL.AXIS.BIV_LEFT axis = 0)) ∧
    (∃ (axis : Fin 2) (s : State), (s.is BL.AXIS.SGL axis = true) ∧ (s.get BL.sglT axis + 400000 * s.gov BL.SGL_CFG.SGL_TIME 9 axis ≤ s.now)) ∧
    (∃ (axis : Fin 2) (s : State), (s.is BL.AXIS.SGL axis = false ∨ s.now < s.get BL.sglT axis + 400000 * s.gov BL.SGL_CFG.SGL_TIME 9 axis)) ∧
    (∃ (axis : Fin 2) (s : State), (s.is BL.AXIS.LAPSED axis = false ∧ ∀ k < 16, s.is BL.RS_CFG.EN k = true → s.get BL.RS_CFG.DST k = (if s.axisCh axis = 7 then 7 else s.axisCh axis + 2) → s.get BL.winT (s.axisCh axis) + 400000 * s.get BL.RS_CFG.WIN k ≤ s.now) ∧ (s.axEn axis = true) ∧ (s.polHi BL.POL_HI.LAPSE_ACT axis ≠ 0)) ∧
    (∃ (axis : Fin 2) (s : State), (s.is BL.AXIS.LAPSED axis = false ∧ ∀ k < 16, s.is BL.RS_CFG.EN k = true → s.get BL.RS_CFG.DST k = (if s.axisCh axis = 7 then 7 else s.axisCh axis + 2) → s.get BL.winT (s.axisCh axis) + 400000 * s.get BL.RS_CFG.WIN k ≤ s.now) ∧ (s.axEn axis = true) ∧ (s.polHi BL.POL_HI.LAPSE_ACT axis = 0)) ∧
    (∃ (axis : Fin 2) (s : State), (s.is BL.AXIS.LAPSED axis = false ∧ ∀ k < 16, s.is BL.RS_CFG.EN k = true → s.get BL.RS_CFG.DST k = (if s.axisCh axis = 7 then 7 else s.axisCh axis + 2) → s.get BL.winT (s.axisCh axis) + 400000 * s.get BL.RS_CFG.WIN k ≤ s.now) ∧ (s.axEn axis = false)) ∧
    (∃ (axis : Fin 2) (s : State), (s.get BL.lapse axis = 1 ∧ s.axEn axis = true ∧ s.get BL.lapseT axis + s.lapseRamp axis ≤ s.now)) :=
  ⟨⟨1, st [(BL.AXIS.BIV,1,0,1),(BL.AXIS.BIV_EXPIRED,1,0,0),(SQ.STATUS.JOINED,0,0,0),(ACT.chEn,1,0,1)], by decide⟩,
   ⟨1, st [(BL.AXIS.BIV,1,0,1),(BL.AXIS.BIV_EXPIRED,1,0,0),(SQ.STATUS.JOINED,0,0,0),(ACT.chEn,1,0,1)], by decide⟩,
   ⟨1, { st [(BL.AXIS.SGL,1,0,1)] with now := 10 ^ 13 }, by decide⟩,
   ⟨1, st [(BL.AXIS.BIV,1,0,1),(BL.AXIS.BIV_EXPIRED,1,0,0)], by decide⟩,
   ⟨0, st [(BL.AXIS.LAPSED,0,0,0),(SQ.STATUS.JOINED,0,0,0),(ACT.chEn,0,0,1),(BL.secOk,0,0,1),(BL.AXIS.POLICY,0,0,3),(BL.POL_HI.LAPSE_ACT,3,0,1)], by decide⟩,
   ⟨1, st [(BL.AXIS.BIV,1,0,1),(BL.AXIS.BIV_EXPIRED,1,0,0),(SQ.STATUS.JOINED,0,0,0),(ACT.chEn,1,0,1)], by decide⟩,
   ⟨1, st [(BL.AXIS.BIV,1,0,1),(BL.AXIS.BIV_EXPIRED,1,0,0)], by decide⟩,
   ⟨1, { st [(BL.lapse,1,0,1),(SQ.STATUS.JOINED,0,0,0),(ACT.chEn,1,0,1)] with now := 10 ^ 13 }, by decide⟩⟩

theorem test_witness_BelayBivouacLapseTripsAndHeartbeat_2 :
    (∃ (axis : Fin 2) (s : State), (s.get BL.lapse axis = 2 ∧ s.axEn axis = true ∧ s.get BL.lapseT axis + 400000 * s.polHi BL.POL_HI.LAPSE_HOLD axis ≤ s.now)) ∧
    (∃ (asserted : Bool) (s : State), (s.is BL.STATUS.CFG_VALID = true) ∧ (asserted = true) ∧ (s.is BL.STATUS.XTRIP_ACT = false)) ∧
    (∃ (asserted : Bool) (s : State), (s.is BL.STATUS.CFG_VALID = true) ∧ (asserted = false) ∧ (s.is BL.STATUS.XTRIP_ACT = true)) ∧
    (∃ (s : State), (s.is BL.HVIL_CFG.HVIL_EN = true ∧ s.is BL.STATUS.HVIL_OPEN = false) ∧ (s.is BL.HVIL_CFG.HVIL_SS = true) ∧ (s.is BL.HVIL_CFG.HVIL_DIS = true) ∧ (s.disRunning = false) ∧ (s.is BL.vblEver = true) ∧ (s.is BL.vblStale = false) ∧ (s.get BL.VDC_ACC.AGE < 10000) ∧ (s.is BL.storeOk 5 = true) ∧ (s.vBelow s.vTgt = false)) ∧
    (∃ (s : State), (s.joined = false)) ∧
    (∃ (a : Nat) (s : State), (s.is BL.STATUS.CI_LOST = false ∧ s.get BL.HB.HB_N ≤ s.get BL.HB.HB_MISS) ∧ (a < 2)) ∧
    (∃ (s : State), (s.is BL.STATUS.HVIL_OPEN = true)) ∧
    (∃ (s : State), (s.is BL.STATUS.SSOUT = true ∧ s.is BL.STATUS.SSOUT_FAULT = false)) :=
  ⟨⟨1, { st [(BL.lapse,1,0,2),(SQ.STATUS.JOINED,0,0,0),(ACT.chEn,1,0,1)] with now := 10 ^ 13 }, by decide⟩,
   ⟨true, st [(BL.STATUS.CFG_VALID,0,0,1),(BL.STATUS.XTRIP_ACT,0,0,0)], by decide⟩,
   ⟨false, st [(BL.STATUS.CFG_VALID,0,0,1),(BL.STATUS.XTRIP_ACT,0,0,1)], by decide⟩,
   ⟨st [(BL.HVIL_CFG.HVIL_EN,0,0,1),(BL.STATUS.HVIL_OPEN,0,0,0),(BL.HVIL_CFG.HVIL_SS,0,0,1),(BL.HVIL_CFG.HVIL_DIS,0,0,1),(BL.DIS_STAT.STATE,0,0,0),(BL.vblEver,0,0,1),(BL.vblStale,0,0,0),(BL.VDC_ACC.AGE,0,0,0),(BL.storeOk,5,0,1),(BL.sec,5,3,0),(BL.VDC_ACC.V_BL,0,0,100)], by decide⟩,
   ⟨st [(SQ.STATUS.JOINED,0,0,0)], by decide⟩,
   ⟨1, st [(BL.STATUS.CI_LOST,0,0,0),(BL.HB.HB_N,0,0,5),(BL.HB.HB_MISS,0,0,5)], by decide⟩,
   ⟨st [(BL.STATUS.HVIL_OPEN,0,0,1)], by decide⟩,
   ⟨st [(BL.STATUS.SSOUT,0,0,1),(BL.STATUS.SSOUT_FAULT,0,0,0)], by decide⟩⟩

theorem test_witness_BelayBivouacLapseTripsAndHeartbeat_3 :
    (∃ (seq : BitVec 16) (s : State), (s.is BL.hbIgnore = false ∧ s.is BL.PIT_STAT.ARMED = false) ∧ (seq.toNat = (s.get BL.HB.HB_SEQ + 1) % 65536) ∧ (s.is BL.STATUS.CI_LOST = true) ∧ (9 ≤ s.get BL.hbRun)) ∧
    (∃ (seq : BitVec 16) (s : State), (s.is BL.hbIgnore = false ∧ s.is BL.PIT_STAT.ARMED = false) ∧ (seq.toNat ≠ (s.get BL.HB.HB_SEQ + 1) % 65536)) ∧
    (∃ (s : State), (s.is BL.vblEver = true ∧ s.is BL.vblStale = false ∧ 10000 ≤ s.get BL.VDC_ACC.AGE) ∧ (s.disRunning = true)) :=
  ⟨⟨0, st [(BL.hbIgnore,0,0,0),(BL.PIT_STAT.ARMED,0,0,0),(BL.HB.HB_SEQ,0,0,0xFFFF),(BL.STATUS.CI_LOST,0,0,1),(BL.hbRun,0,0,9)], by decide⟩,
   ⟨0, st [(BL.hbIgnore,0,0,0),(BL.PIT_STAT.ARMED,0,0,0),(BL.HB.HB_SEQ,0,0,0)], by decide⟩,
   ⟨st [(BL.vblEver,0,0,1),(BL.vblStale,0,0,0),(BL.DIS_STAT.STATE,0,0,2)], by decide⟩⟩

theorem test_witness_RidgeMessagesSetpointsAndHold_1 :
    (∃ (m : RidgeMsg) (rest : List RidgeMsg) (k : Fin 16) (s : State), (s.ridgeIn = m :: rest ∧ s.msgSlot m = some k.val ∧ s.is BL.winDiscard = false ∧ s.is BL.PIT_STAT.ARMED = false ∧ (m.seq ≠ 0 ∨ s.ridgeJudge m ≠ 0)) ∧ (s.ridgeJudge m = 0) ∧ (2 ≤ m.dst) ∧ (m.dst ≤ 7) ∧ (s.is ACT.chEn (State.dstCh m.dst) = true)) ∧
    (∃ (m : RidgeMsg) (rest : List RidgeMsg) (k : Fin 16) (s : State), (s.ridgeIn = m :: rest ∧ s.msgSlot m = some k.val ∧ s.is BL.winDiscard = false ∧ s.is BL.PIT_STAT.ARMED = false ∧ (m.seq ≠ 0 ∨ s.ridgeJudge m ≠ 0)) ∧ (s.ridgeJudge m ≠ 0) ∧ (s.ridgeJudge m ≠ 6)) ∧
    (∃ (m : RidgeMsg) (rest : List RidgeMsg) (k : Fin 16) (s : State), (s.ridgeIn = m :: rest ∧ s.msgSlot m = some k.val ∧ m.seq = 0 ∧ s.ridgeJudge m = 0)) ∧
    (∃ (ring : Fin 8) (records : List (BitVec 128)) (d : Desc) (rs : List Nat) (s : State), (s.desc ring = some d ∧ 2 ≤ ring.val ∧ s.play ring = none ∧ rs.length = d.len.toNat / 16) ∧ (rs = if d.inl then [d.w0.toNat + 2 ^ 32 * d.w1.toNat + 2 ^ 64 * d.w2.toNat + 2 ^ 96 * d.w3.toNat] else (records.map (·.toNat)).take (d.len.toNat / 16)) ∧ ((ring.val = 7 ∧ s.joined = false) ∨ (ring.val ≤ 3 ∧ s.joined = true))) ∧
    (∃ (ring : Fin 8) (records : List (BitVec 128)) (d : Desc) (rs : List Nat) (s : State), (s.desc ring = some d ∧ 2 ≤ ring.val ∧ s.play ring = none ∧ rs.length = d.len.toNat / 16) ∧ (rs = if d.inl then [d.w0.toNat + 2 ^ 32 * d.w1.toNat + 2 ^ 64 * d.w2.toNat + 2 ^ 96 * d.w3.toNat] else (records.map (·.toNat)).take (d.len.toNat / 16)) ∧ (4 ≤ ring.val) ∧ (ring.val ≤ 6) ∧ (s.is ACT.chEn (ringCh ring) = false)) ∧
    (∃ (ring : Fin 8) (records : List (BitVec 128)) (d : Desc) (rs : List Nat) (s : State), (s.desc ring = some d ∧ 2 ≤ ring.val ∧ s.play ring = none ∧ rs.length = d.len.toNat / 16) ∧ (rs = if d.inl then [d.w0.toNat + 2 ^ 32 * d.w1.toNat + 2 ^ 64 * d.w2.toNat + 2 ^ 96 * d.w3.toNat] else (records.map (·.toNat)).take (d.len.toNat / 16)) ∧ (4 ≤ ring.val) ∧ (ring.val ≤ 6) ∧ (s.is ACT.chEn (ringCh ring) = true)) ∧
    (∃ (ring : Fin 8) (records : List (BitVec 128)) (d : Desc) (rs : List Nat) (s : State), (s.desc ring = some d ∧ 2 ≤ ring.val ∧ s.play ring = none ∧ rs.length = d.len.toNat / 16) ∧ (rs = if d.inl then [d.w0.toNat + 2 ^ 32 * d.w1.toNat + 2 ^ 64 * d.w2.toNat + 2 ^ 96 * d.w3.toNat] else (records.map (·.toNat)).take (d.len.toNat / 16)) ∧ (ring.val ≤ 3) ∧ (s.joined = false) ∧ (s.is ACT.chEn (ringCh ring) = true) ∧ ((∀ r ∈ rs, r / 2 ^ 32 % 256 < 2))) ∧
    (∃ (ring : Fin 8) (pl : Play) (r : Nat) (rest : List Nat) (s : State), (s.play ring = some pl ∧ pl.left = r :: rest) ∧ (s.is ACT.chEn (ringCh ring) = true)) :=
  ⟨⟨{ chan := 1, inst := 2, ident := 5, mac := 0, data := [7, 8, 0, 0, 0, 0, 0, 0, 1, 0, 6, 9] ++ leBytes 4 (crc32c [7, 8, 0, 0, 0, 0, 0, 0, 6, 9, 1, 0, 0, 0, 0, 0]) }, [], 15, (let s : State := st [(BL.RS_CFG.EN,15,0,1),(BL.RS_CFG.DST,15,0,6),(BL.RS_CFG.CHAN,15,0,1),(BL.RS_CFG.INST,15,0,2),(BL.RS_CFG.SRC,15,0,9),(BL.RS_STAT.STATE,15,0,1),(BL.RS_CFG2.SEQ_GAP,15,0,1),(ACT.chEn,4,0,1)]; { State.reset with regs := (sets State.reset [(BL.RS_CFG.EN,15,0,1),(BL.RS_CFG.DST,15,0,6),(BL.RS_CFG.CHAN,15,0,1),(BL.RS_CFG.INST,15,0,2),(BL.RS_CFG.SRC,15,0,9),(BL.RS_STAT.STATE,15,0,1),(BL.RS_CFG2.SEQ_GAP,15,0,1),(ACT.chEn,4,0,1)]).regs, ridgeIn := [{ chan := 1, inst := 2, ident := 5, mac := 0, data := [7, 8, 0, 0, 0, 0, 0, 0, 1, 0, 6, 9] ++ leBytes 4 (crc32c [7, 8, 0, 0, 0, 0, 0, 0, 6, 9, 1, 0, 0, 0, 0, 0]) }] }), by decide⟩,
   ⟨{ chan := 1, inst := 0, ident := 5, mac := 0, data := List.replicate 10 0 ++ [1, 9, 0, 0, 0, 0] }, [], 0, (let s : State := st []; { State.reset with regs := (sets State.reset [(BL.RS_CFG.EN,0,0,1),(BL.RS_CFG.DST,0,0,1),(BL.RS_CFG.CHAN,0,0,1),(BL.RS_CFG.INST,0,0,0),(BL.RS_CFG.SRC,0,0,8)]).regs, ridgeIn := [{ chan := 1, inst := 0, ident := 5, mac := 0, data := List.replicate 10 0 ++ [1, 9, 0, 0, 0, 0] }] }), by decide⟩,
   ⟨{ chan := 2, inst := 1, ident := 5, mac := 0, data := [7, 8, 0, 0, 0, 0, 0, 0, 0, 0, 8, 9] ++ leBytes 4 (crc32c [7, 8, 0, 0, 0, 0, 0, 0, 8, 9, 0, 0, 0, 0, 0, 0]) }, [], 15, (let s : State := st []; { State.reset with regs := (sets State.reset [(BL.RS_CFG.EN,15,0,1),(BL.RS_CFG.DST,15,0,8),(BL.RS_CFG.CHAN,15,0,2),(BL.RS_CFG.INST,15,0,1),(BL.RS_CFG.SRC,15,0,9)]).regs, ridgeIn := [{ chan := 2, inst := 1, ident := 5, mac := 0, data := [7, 8, 0, 0, 0, 0, 0, 0, 0, 0, 8, 9] ++ leBytes 4 (crc32c [7, 8, 0, 0, 0, 0, 0, 0, 8, 9, 0, 0, 0, 0, 0, 0]) }] }), by decide⟩,
   ⟨7, [], { op := 1, inl := true, fence := false, irq := true, preempt := false, tag := 9, len := 16, w0 := 1, w1 := 0, w2 := 0, w3 := 0 }, [1], (let s : State := st [(SQ.STATUS.JOINED,0,0,0)]; { s with descs := [(7, { op := 1, inl := true, fence := false, irq := true, preempt := false, tag := 9, len := 16, w0 := 1, w1 := 0, w2 := 0, w3 := 0 })], plays := [] }), by decide⟩,
   ⟨6, [], { op := 1, inl := true, fence := false, irq := true, preempt := false, tag := 9, len := 16, w0 := 1, w1 := 0, w2 := 0, w3 := 0 }, [1], (let s : State := st [(ACT.chEn,4,0,0)]; { s with descs := [(6, { op := 1, inl := true, fence := false, irq := true, preempt := false, tag := 9, len := 16, w0 := 1, w1 := 0, w2 := 0, w3 := 0 })], plays := [] }), by decide⟩,
   ⟨4, [], { op := 1, inl := true, fence := false, irq := true, preempt := false, tag := 9, len := 16, w0 := 1, w1 := 0, w2 := 0, w3 := 0 }, [1], (let s : State := st [(ACT.chEn,2,0,1)]; { s with descs := [(4, { op := 1, inl := true, fence := false, irq := true, preempt := false, tag := 9, len := 16, w0 := 1, w1 := 0, w2 := 0, w3 := 0 })], plays := [] }), by decide⟩,
   ⟨2, [5, 6], { op := 1, inl := false, fence := false, irq := true, preempt := false, tag := 9, len := 32, w0 := 0, w1 := 0, w2 := 0, w3 := 0 }, [5, 6], (let s : State := st [(ACT.chEn,0,0,1),(SQ.STATUS.JOINED,0,0,0)]; { s with descs := [(2, { op := 1, inl := false, fence := false, irq := true, preempt := false, tag := 9, len := 32, w0 := 0, w1 := 0, w2 := 0, w3 := 0 })], plays := [] }), by decide⟩,
   ⟨7, { ring := 7, left := [3], accepted := 0, refused := false, waits := false }, 3, [], (let s : State := st [(ACT.chEn,7,0,1)]; { s with plays := [{ ring := 7, left := [3], accepted := 0, refused := false, waits := false }] }), by decide⟩⟩

theorem test_witness_RidgeMessagesSetpointsAndHold_2 :
    (∃ (ring : Fin 8) (pl : Play) (r : Nat) (rest : List Nat) (s : State), (s.play ring = some pl ∧ pl.left = r :: rest) ∧ (s.is ACT.chEn (ringCh ring) = false)) ∧
    (∃ (net : Bool) (b : Nat) (s : State), (s.command net 0x13 = some b ∧ b % 256 ≠ 0) ∧ (b % 256 = 1) ∧ (s.is ACT.chEn 6 = true) ∧ (net = true)) ∧
    (∃ (net : Bool) (b : Nat) (s : State), (s.command net 0x13 = some b ∧ b % 256 ≠ 0) ∧ (b % 256 = 1) ∧ (s.is ACT.chEn 6 = false) ∧ (net = false)) ∧
    (∃ (net : Bool) (b : Nat) (s : State), (s.command net 0x13 = some b ∧ b % 256 ≠ 0) ∧ (b % 256 ≠ 1) ∧ (net = false)) ∧
    (∃ (net : Bool) (b : Nat) (s : State), (s.command net 0x13 = some b ∧ b % 256 = 0) ∧ (s.is BL.AXIS.BIV_EXPIRED 0 = false) ∧ (s.is BL.AXIS.BIV_EXPIRED 1 = false)) ∧
    (∃ (net : Bool) (b : Nat) (s : State), (s.command net 0x13 = some b ∧ b % 256 = 0) ∧ (s.is BL.AXIS.BIV_EXPIRED 0 = true ∨ s.is BL.AXIS.BIV_EXPIRED 1 = true)) ∧
    (∃ (s : State), (s.is BL.STATUS.HOLD_REQ = true) ∧ (s.is BL.STATUS.HOLD_PEND = true) ∧ (s.holdSlow = true) ∧ (s.is BL.storeOk 6 = true)) ∧
    (∃ (s : State), (s.holdSlow = false)) :=
  ⟨⟨2, { ring := 2, left := [3], accepted := 0, refused := false, waits := false }, 3, [], (let s : State := st [(ACT.chEn,0,0,0)]; { s with plays := [{ ring := 2, left := [3], accepted := 0, refused := false, waits := false }] }), by decide⟩,
   ⟨true, 1, st [(BL.netBusy,0,0,1),(BL.netOp,0,0,0x13),(BL.netArg,0,0,1),(ACT.chEn,6,0,1)], by decide⟩,
   ⟨false, 1, (let s : State := st [(RING.ridgeOk,0,0,1),(ACT.chEn,6,0,0)]; { s with descs := [(1, { op := 0x13, inl := true, fence := false, irq := true, preempt := false, tag := 9, len := 16, w0 := 1, w1 := 0, w2 := 0, w3 := 0 })] }), by decide⟩,
   ⟨false, 255, (let s : State := st [(RING.ridgeOk,0,0,1)]; { s with descs := [(1, { op := 0x13, inl := true, fence := false, irq := true, preempt := false, tag := 9, len := 16, w0 := 255, w1 := 0, w2 := 0, w3 := 0 })] }), by decide⟩,
   ⟨true, 0, st [(BL.netBusy,0,0,1),(BL.netOp,0,0,0x13),(BL.netArg,0,0,0),(BL.AXIS.BIV_EXPIRED,0,0,0),(BL.AXIS.BIV_EXPIRED,1,0,0)], by decide⟩,
   ⟨true, 0, st [(BL.netBusy,0,0,1),(BL.netOp,0,0,0x13),(BL.netArg,0,0,0),(BL.AXIS.BIV_EXPIRED,1,0,1)], by decide⟩,
   ⟨st [(BL.STATUS.HOLD_REQ,0,0,1),(BL.STATUS.HOLD_PEND,0,0,1),(BL.storeOk,6,0,1),(BL.spdKnown,0,0,1),(BL.spdKnown,1,0,1),(BL.SPD.SPD_A,0,0,0),(BL.SPD.SPD_B,0,0,0)], by decide⟩,
   ⟨st [(BL.spdKnown,0,0,0)], by decide⟩⟩

theorem test_witness_RidgeMessagesSetpointsAndHold_3 :
    (∃ (output : Fin 2) (s : State), (s.shWatched output = false)) ∧
    (∃ (output : Fin 2) (agree : Bool) (s : State), (s.shWatched output = true) ∧ (agree = false)) ∧
    (∃ (output : Fin 2) (agree : Bool) (ic : Int) (s : State), (s.shWatched output = true) ∧ (agree = true) ∧ (10 * s.shWord 0x048 31 16 < 2 * ic.natAbs)) ∧
    (∃ (output : Fin 2) (agree : Bool) (ic : Int) (s : State), (s.shWatched output = true) ∧ (agree = true) ∧ (2 * ic.natAbs ≤ 10 * s.shWord 0x048 31 16) ∧ (s.shSettles output = true)) ∧
    (∃ (output : Fin 2) (agree : Bool) (ic : Int) (s : State), (s.shWatched output = true) ∧ (agree = true) ∧ (2 * ic.natAbs ≤ 10 * s.shWord 0x048 31 16) ∧ (s.shSettles output = false)) ∧
    (∃ (output : Fin 2) (s : State), (s.is ACT.chEn 6 = true ∧ bit s.shEn output = true ∧ s.getBit BL.SH_STAT.FAULT output = false ∧ s.getBit BL.SH_STAT.NO_SUPPLY output = false) ∧ (s.shSettles output = true)) ∧
    (∃ (output : Fin 2) (agree : Bool) (s : State), (s.is ACT.chEn 6 = true ∧ bit s.shEn output = true ∧ s.getBit BL.SH_STAT.FAULT output = false ∧ s.getBit BL.SH_STAT.NO_SUPPLY output = false) ∧ (s.shSettles output = false) ∧ (agree = false)) ∧
    (∃ (output : Fin 2) (agree : Bool) (s : State), (s.is ACT.chEn 6 = true ∧ bit s.shEn output = true ∧ s.getBit BL.SH_STAT.FAULT output = false ∧ s.getBit BL.SH_STAT.NO_SUPPLY output = false) ∧ (s.shSettles output = false) ∧ (agree = true) ∧ (s.is BL.PIT_STAT.ARMED = false)) :=
  ⟨⟨1, (let s : State := st [(BL.RS_CFG.EN,15,0,1),(BL.RS_CFG.DST,15,0,6),(BL.RS_CFG.CHAN,15,0,1),(BL.RS_CFG.INST,15,0,2),(BL.RS_CFG.SRC,15,0,9),(BL.RS_STAT.STATE,15,0,1),(BL.RS_CFG2.SEQ_GAP,15,0,1),(ACT.chEn,4,0,1)]; { State.reset with regs := (sets State.reset [(BL.RS_CFG.EN,15,0,1),(BL.RS_CFG.DST,15,0,6),(BL.RS_CFG.CHAN,15,0,1),(BL.RS_CFG.INST,15,0,2),(BL.RS_CFG.SRC,15,0,9),(BL.RS_STAT.STATE,15,0,1),(BL.RS_CFG2.SEQ_GAP,15,0,1),(ACT.chEn,4,0,1)]).regs, ridgeIn := [{ chan := 1, inst := 2, ident := 5, mac := 0, data := [7, 8, 0, 0, 0, 0, 0, 0, 1, 0, 6, 9] ++ leBytes 4 (crc32c [7, 8, 0, 0, 0, 0, 0, 0, 6, 9, 1, 0, 0, 0, 0, 0]) }] }), by decide⟩,
   ⟨0, false, st [(ACT.chEn,6,0,1),(BL.sec,6,0,3),(BL.SH_STAT.FAULT,0,0,0),(BL.SH_STAT.NO_SUPPLY,0,0,0)], by decide⟩,
   ⟨1, true, 2000, st [(ACT.chEn,6,0,1),(BL.sec,6,0,3),(BL.SH_STAT.FAULT,0,0,0),(BL.SH_STAT.NO_SUPPLY,0,0,0)], by decide⟩,
   ⟨1, true, 0, { st [(ACT.chEn,6,0,1),(BL.sec,6,0,3),(BL.SH_STAT.FAULT,0,0,0),(BL.SH_STAT.NO_SUPPLY,0,0,0),(BL.sec,6,2,1000),(BL.shT,1,0,90000)] with now := 100000 }, by decide⟩,
   ⟨1, true, 0, st [(ACT.chEn,6,0,1),(BL.sec,6,0,3),(BL.SH_STAT.FAULT,0,0,0),(BL.SH_STAT.NO_SUPPLY,0,0,0),(BL.SH_STAT.ON,0,0,0),(BL.PIT_STAT.ARMED,0,0,0)], by decide⟩,
   ⟨1, { st [(ACT.chEn,6,0,1),(BL.sec,6,0,3),(BL.SH_STAT.FAULT,0,0,0),(BL.SH_STAT.NO_SUPPLY,0,0,0),(BL.sec,6,2,1000),(BL.shT,1,0,90000)] with now := 100000 }, by decide⟩,
   ⟨0, false, st [(ACT.chEn,6,0,1),(BL.sec,6,0,3),(BL.SH_STAT.FAULT,0,0,0),(BL.SH_STAT.NO_SUPPLY,0,0,0)], by decide⟩,
   ⟨1, true, st [(ACT.chEn,6,0,1),(BL.sec,6,0,3),(BL.SH_STAT.FAULT,0,0,0),(BL.SH_STAT.NO_SUPPLY,0,0,0),(BL.SH_STAT.ON,0,0,0),(BL.PIT_STAT.ARMED,0,0,0)], by decide⟩⟩

theorem test_witness_MailboxSessionsPasswordsLogAndPitons_1 :
    (∃ (s : State), (s.is BL.PWD_STAT.OPEN = true ∧ s.get BL.sesT + 400000000 * s.get BL.PWD_CFG.SES_TMO ≤ s.now) ∧ (s.is BL.MBX_STAT.BUSY = true)) ∧
    (∃ (s : State), (s.is BL.PWD_STAT.OPEN = true ∧ s.get BL.sesT + 400000000 * s.get BL.PWD_CFG.SES_TMO ≤ s.now) ∧ (s.is BL.MBX_STAT.BUSY = false)) ∧
    (∃ (s : State), (s.get BL.pwdT + 4000000000 ≤ s.now)) ∧
    (∃ (s : State), (s.mbx 0x10 = true) ∧ (s.get BL.MBX_CMD.CNT ≤ 8) ∧ (s.pwdBuf.length ≤ 24)) ∧
    (∃ (s : State), (s.mbx 0x10 = true) ∧ (8 < s.get BL.MBX_CMD.CNT ∨ 32 ≤ s.pwdBuf.length)) ∧
    (∃ (s : State), (s.mbx 0x11 = true ∧ s.is BL.sesTmoPend = false) ∧ (s.is BL.PWD_STAT.LOCK_LEFT = true ∨ s.is BL.PWD_STAT.OPEN = true)) ∧
    (∃ (s : State), (s.mbx 0x11 = true ∧ s.is BL.sesTmoPend = false) ∧ (s.is BL.PWD_STAT.LOCK_LEFT = false) ∧ (s.is BL.PWD_STAT.OPEN = false) ∧ (s.get SEC.LC_STAT.STATE = 0) ∧ (s.get BL.MBX_ARG.ARG 0 = 1) ∧ (s.get BL.mbxRole = 1)) ∧
    (∃ (s : State), (s.mbx 0x11 = true ∧ s.is BL.sesTmoPend = false) ∧ (s.is BL.PWD_STAT.LOCK_LEFT = false) ∧ (s.is BL.PWD_STAT.OPEN = false) ∧ (s.get SEC.LC_STAT.STATE = 2) ∧ (s.get BL.MBX_ARG.ARG 0 = 2) ∧ (s.get BL.mbxRole = 2) ∧ (s.is BL.pwdSet 0 = true) ∧ (8 ≤ s.pwdBuf.length) ∧ (s.pwdHashOf (s.get BL.pwdSalt 0) = s.get BL.pwdHash 0)) :=
  ⟨⟨{ st [(BL.PWD_STAT.OPEN,0,0,1),(BL.MBX_STAT.BUSY,0,0,1)] with now := 10 ^ 13 }, by decide⟩,
   ⟨{ st [(BL.PWD_STAT.OPEN,0,0,1),(BL.MBX_STAT.BUSY,0,0,0)] with now := 10 ^ 13 }, by decide⟩,
   ⟨{ st [(BL.PWD_STAT.OPEN,0,0,1),(BL.MBX_STAT.BUSY,0,0,1)] with now := 10 ^ 13 }, by decide⟩,
   ⟨(let s : State := st [(BL.MBX_STAT.BUSY,0,0,1),(BL.MBX_CMD.OP,0,0,0x10),(BL.MBX_CMD.CNT,0,0,0)]; { s with pwdBuf := List.replicate 24 1 }), by decide⟩,
   ⟨(let s : State := st [(BL.MBX_STAT.BUSY,0,0,1),(BL.MBX_CMD.OP,0,0,0x10),(BL.MBX_CMD.CNT,0,0,1)]; { s with pwdBuf := List.replicate 32 1 }), by decide⟩,
   ⟨st [(BL.MBX_STAT.BUSY,0,0,1),(BL.MBX_CMD.OP,0,0,0x11),(BL.sesTmoPend,0,0,0),(BL.PWD_STAT.LOCK_LEFT,0,0,60)], by decide⟩,
   ⟨st [(BL.MBX_STAT.BUSY,0,0,1),(BL.MBX_CMD.OP,0,0,0x11),(BL.sesTmoPend,0,0,0),(BL.PWD_STAT.LOCK_LEFT,0,0,0),(BL.PWD_STAT.OPEN,0,0,0),(SEC.LC_STAT.STATE,0,0,0),(BL.MBX_ARG.ARG,0,0,1),(BL.mbxRole,0,0,1)], by decide⟩,
   ⟨(let s : State := st [(BL.MBX_STAT.BUSY,0,0,1),(BL.MBX_CMD.OP,0,0,0x11),(BL.sesTmoPend,0,0,0),(BL.PWD_STAT.LOCK_LEFT,0,0,0),(BL.PWD_STAT.OPEN,0,0,0),(SEC.LC_STAT.STATE,0,0,2),(BL.MBX_ARG.ARG,0,0,2),(BL.mbxRole,0,0,2),(BL.pwdSet,0,0,1),(BL.pwdHash,0,0,0xaae5f351fbf54b51ea68b99b4a2dc7d79b4afb869ed054c501b29e9d8354eb77)]; { s with pwdBuf := [1, 2, 3, 4, 5, 6, 7, 8] }), by decide +kernel⟩⟩

theorem test_witness_MailboxSessionsPasswordsLogAndPitons_2 :
    (∃ (s : State), (s.mbx 0x11 = true ∧ s.is BL.sesTmoPend = false) ∧ (s.is BL.PWD_STAT.LOCK_LEFT = false) ∧ (s.is BL.PWD_STAT.OPEN = false) ∧ (s.get SEC.LC_STAT.STATE = 2) ∧ (s.get BL.MBX_ARG.ARG 0 = 2) ∧ (s.get BL.mbxRole = 2) ∧ (s.is BL.pwdSet 0 = true) ∧ (s.pwdBuf.length < 8)) ∧
    (∃ (s : State), (s.mbx 0x12 = true)) ∧
    (∃ (s : State), (s.mbx 0x13 = true) ∧ (s.get BL.MBX_ARG.ARG 0 ∉ [2, 4])) ∧
    (∃ (s : State), (s.mbx 0x14 = true)) ∧
    (∃ (s : State), (s.mbx 0x15 = true) ∧ (s.get BL.MBX_ARG.ARG 0 ≤ 7)) ∧
    (∃ (s : State), (s.mbx 0x15 = true) ∧ (7 < s.get BL.MBX_ARG.ARG 0)) ∧
    (∃ (s : State), (s.mbx 0x01 = true) ∧ (s.is BL.PWD_STAT.OPEN = false)) ∧
    (∃ (s : State), (s.mbx 0x01 = true) ∧ (s.is BL.PWD_STAT.OPEN = true) ∧ (s.get BL.MBX_ARG.ARG 0 = 0x204) ∧ (20 < s.get BL.MBX_ARG.ARG 1 % 32)) :=
  ⟨⟨(let s : State := st [(BL.MBX_STAT.BUSY,0,0,1),(BL.MBX_CMD.OP,0,0,0x11),(BL.sesTmoPend,0,0,0),(BL.PWD_STAT.LOCK_LEFT,0,0,0),(BL.PWD_STAT.OPEN,0,0,0),(SEC.LC_STAT.STATE,0,0,2),(BL.MBX_ARG.ARG,0,0,2),(BL.mbxRole,0,0,2),(BL.pwdSet,0,0,1)]; { s with pwdBuf := [1, 2, 3, 4, 5, 6, 7] }), by decide⟩,
   ⟨st [(BL.MBX_STAT.BUSY,0,0,1),(BL.MBX_CMD.OP,0,0,0x12)], by decide⟩,
   ⟨st [(BL.MBX_STAT.BUSY,0,0,1),(BL.MBX_CMD.OP,0,0,0x13),(BL.MBX_ARG.ARG,0,0,3)], by decide⟩,
   ⟨st [(BL.MBX_STAT.BUSY,0,0,1),(BL.MBX_CMD.OP,0,0,0x14)], by decide⟩,
   ⟨st [(BL.MBX_STAT.BUSY,0,0,1),(BL.MBX_CMD.OP,0,0,0x15),(BL.MBX_ARG.ARG,0,0,7)], by decide⟩,
   ⟨st [(BL.MBX_STAT.BUSY,0,0,1),(BL.MBX_CMD.OP,0,0,0x15),(BL.MBX_ARG.ARG,0,0,8)], by decide⟩,
   ⟨st [(BL.MBX_STAT.BUSY,0,0,1),(BL.MBX_CMD.OP,0,0,1),(BL.PWD_STAT.OPEN,0,0,0)], by decide⟩,
   ⟨st [(BL.MBX_STAT.BUSY,0,0,1),(BL.MBX_CMD.OP,0,0,1),(BL.PWD_STAT.OPEN,0,0,1),(BL.MBX_ARG.ARG,0,0,0x204),(BL.MBX_ARG.ARG,1,0,21)], by decide⟩⟩

theorem test_witness_MailboxSessionsPasswordsLogAndPitons_3 :
    (∃ (s : State), (s.mbx 0x02 = true ∧ 1 ≤ s.get BL.MBX_ARG.ARG 0 % 16 ∧ s.get BL.MBX_ARG.ARG 0 % 16 ≤ 10) ∧ (s.pitAllowed = true)) ∧
    (∃ (s : State), (s.mbx 0x02 = true ∧ 1 ≤ s.get BL.MBX_ARG.ARG 0 % 16 ∧ s.get BL.MBX_ARG.ARG 0 % 16 ≤ 10) ∧ (s.pitAllowed = false)) ∧
    (∃ (s : State), (s.get BL.pitT + 4000000000 ≤ s.now)) ∧
    (∃ (s : State), (s.now < s.get BL.pitT + 4000000000)) ∧
    (∃ (s : State), (s.get BL.PWD_STAT.LOCK_LEFT = 1) ∧ (s.get BL.lockUs = 1000000)) ∧
    (∃ (s : State), (s.get BL.PWD_STAT.LOCK_LEFT ≠ 1 ∨ s.get BL.lockUs ≠ 1000000)) ∧
    (∃ (written : Bool) (s : State), (s.mbx 0x13 = true) ∧ (s.get BL.MBX_ARG.ARG 0 = 4) ∧ (s.is BL.PWD_STAT.OPEN = true) ∧ (s.get BL.PWD_STAT.ROLE = 4) ∧ (8 ≤ s.pwdBuf.length) ∧ (written = true) ∧ (s.log.length < 4096)) ∧
    (∃ (written : Bool) (s : State), (s.mbx 0x13 = true) ∧ (s.get BL.MBX_ARG.ARG 0 = 4) ∧ (s.is BL.PWD_STAT.OPEN = true) ∧ (s.get BL.PWD_STAT.ROLE = 4) ∧ (8 ≤ s.pwdBuf.length) ∧ (written = false)) :=
  ⟨⟨st [(BL.PIT_STAT.ARMED,0,0,0),(SEC.LC_STAT.STATE,0,0,0),(SEC.hostRole,0,0,1),(BL.MBX_STAT.BUSY,0,0,1),(BL.MBX_CMD.OP,0,0,2),(BL.MBX_ARG.ARG,0,0,10)], by decide⟩,
   ⟨st [(BL.PIT_STAT.ARMED,0,0,1),(BL.MBX_STAT.BUSY,0,0,1),(BL.MBX_CMD.OP,0,0,2),(BL.MBX_ARG.ARG,0,0,1)], by decide⟩,
   ⟨{ st [(BL.PWD_STAT.OPEN,0,0,1),(BL.MBX_STAT.BUSY,0,0,1)] with now := 10 ^ 13 }, by decide⟩,
   ⟨st [(BL.PWD_STAT.OPEN,0,0,1),(BL.MBX_STAT.BUSY,0,0,1)], by decide⟩,
   ⟨st [(BL.PWD_STAT.LOCK_LEFT,0,0,1),(BL.lockUs,0,0,1000000)], by decide⟩,
   ⟨{ st [(BL.PWD_STAT.OPEN,0,0,1),(BL.MBX_STAT.BUSY,0,0,1)] with now := 10 ^ 13 }, by decide⟩,
   ⟨true, (let s : State := st [(BL.MBX_STAT.BUSY,0,0,1),(BL.MBX_CMD.OP,0,0,0x13),(BL.MBX_ARG.ARG,0,0,4),(BL.PWD_STAT.OPEN,0,0,1),(BL.PWD_STAT.ROLE,0,0,4)]; { s with pwdBuf := [1, 2, 3, 4, 5, 6, 7, 8], log := [] }), by decide⟩,
   ⟨false, { st [(BL.MBX_STAT.BUSY,0,0,1),(BL.MBX_CMD.OP,0,0,0x13),(BL.MBX_ARG.ARG,0,0,4),(BL.PWD_STAT.OPEN,0,0,1),(BL.PWD_STAT.ROLE,0,0,4)] with pwdBuf := List.replicate 8 1 }, by decide⟩⟩

theorem test_witness_MailboxSessionsPasswordsLogAndPitons_4 :
    (∃ (written : Bool) (applied : Bool) (s : State), (s.mbx 0x01 = true) ∧ (s.is BL.PWD_STAT.OPEN = true) ∧ (s.get BL.MBX_ARG.ARG 0 = 0x204) ∧ (1 ≤ s.get BL.MBX_ARG.ARG 1 % 32 ∧ s.get BL.MBX_ARG.ARG 1 % 32 ≤ 20) ∧ (written = true) ∧ (applied = true) ∧ (s.log.length < 4096)) ∧
    (∃ (written : Bool) (applied : Bool) (s : State), (s.mbx 0x01 = true) ∧ (s.is BL.PWD_STAT.OPEN = true) ∧ (s.get BL.MBX_ARG.ARG 0 = 0x204) ∧ (1 ≤ s.get BL.MBX_ARG.ARG 1 % 32 ∧ s.get BL.MBX_ARG.ARG 1 % 32 ≤ 20) ∧ (written = true) ∧ (applied = false) ∧ (s.log.length < 4096)) :=
  ⟨⟨true, true, (let s : State := st [(BL.MBX_STAT.BUSY,0,0,1),(BL.MBX_CMD.OP,0,0,1),(BL.PWD_STAT.OPEN,0,0,1),(BL.MBX_ARG.ARG,0,0,0x204),(BL.MBX_ARG.ARG,1,0,0xFFFF0014)]; { s with log := [] }), by decide⟩,
   ⟨true, false, st [(BL.MBX_STAT.BUSY,0,0,1),(BL.MBX_CMD.OP,0,0,1),(BL.MBX_ARG.ARG,0,0,0x204),(BL.MBX_ARG.ARG,1,0,20),(BL.PWD_STAT.OPEN,0,0,1)], by decide⟩⟩

theorem test_witness_DischargeRequestsStepsAndTheLink_1 :
    (∃ (net : Bool) (b : Nat) (s : State), (s.command net 0x12 = some b ∧ b % 256 ≠ 0) ∧ (s.is ACT.chEn 5 = false)) ∧
    (∃ (net : Bool) (b : Nat) (s : State), (s.command net 0x12 = some b ∧ b % 256 ≠ 0) ∧ (s.is ACT.chEn 5 = true) ∧ (b % 256 = 1) ∧ (s.disRunning = true) ∧ (net = false)) ∧
    (∃ (net : Bool) (b : Nat) (s : State), (s.command net 0x12 = some b ∧ b % 256 ≠ 0) ∧ (s.is ACT.chEn 5 = true) ∧ (b % 256 = 1) ∧ (s.disRunning = false) ∧ (s.is BL.vblEver = true) ∧ (s.is BL.vblStale = false) ∧ (s.get BL.VDC_ACC.AGE < 10000) ∧ (s.is BL.storeOk 5 = true) ∧ (s.vBelow s.vTgt = false)) ∧
    (∃ (net : Bool) (b : Nat) (s : State), (s.command net 0x12 = some b ∧ b % 256 ≠ 0) ∧ (s.is ACT.chEn 5 = true) ∧ (b % 256 = 1) ∧ (s.disRunning = false) ∧ (s.is BL.vblEver = true) ∧ (s.is BL.vblStale = false) ∧ (s.get BL.VDC_ACC.AGE < 10000) ∧ (s.is BL.storeOk 5 = true) ∧ (s.vBelow s.vTgt = true)) ∧
    (∃ (net : Bool) (b : Nat) (s : State), (s.command net 0x12 = some b ∧ b % 256 = 0 ∧ s.is ACT.chEn 5 = true) ∧ (s.disRunning = true) ∧ (s.get BL.disSrc = 3)) ∧
    (∃ (net : Bool) (b : Nat) (s : State), (s.command net 0x12 = some b ∧ b % 256 = 0 ∧ s.is ACT.chEn 5 = true) ∧ (s.disRunning = true) ∧ (s.get BL.disSrc ≠ 3) ∧ (s.is BL.stepOpen = false)) ∧
    (∃ (net : Bool) (b : Nat) (s : State), (s.command net 0x12 = some b ∧ b % 256 = 0 ∧ s.is ACT.chEn 5 = true) ∧ (s.disRunning = true) ∧ (s.get BL.disSrc ≠ 3) ∧ (s.is BL.stepOpen = true)) ∧
    (∃ (len : Nat) (s : State), (s.is DLI.powered = true ∧ 1 ≤ len ∧ len ≤ 50) ∧ (s.is DLI.stepLen = false)) :=
  ⟨⟨true, 1, st [(BL.netBusy,0,0,1),(BL.netOp,0,0,0x12),(BL.netArg,0,0,1),(ACT.chEn,5,0,0)], by decide⟩,
   ⟨false, 1, (let s : State := st [(RING.ridgeOk,0,0,1),(ACT.chEn,5,0,1),(BL.DIS_STAT.STATE,0,0,2)]; { s with descs := [(1, { op := 0x12, inl := true, fence := false, irq := true, preempt := false, tag := 9, len := 16, w0 := 1, w1 := 0, w2 := 0, w3 := 0 })] }), by decide⟩,
   ⟨false, 1, (let s : State := st [(RING.ridgeOk,0,0,1),(ACT.chEn,5,0,1),(BL.DIS_STAT.STATE,0,0,4),(BL.vblEver,0,0,1),(BL.vblStale,0,0,0),(BL.VDC_ACC.AGE,0,0,0),(BL.storeOk,5,0,1),(BL.sec,5,3,0),(BL.VDC_ACC.V_BL,0,0,100)]; { s with descs := [(1, { op := 0x12, inl := true, fence := false, irq := true, preempt := false, tag := 9, len := 16, w0 := 1, w1 := 0, w2 := 0, w3 := 0 })] }), by decide⟩,
   ⟨true, 1, st [(BL.netBusy,0,0,1),(BL.netOp,0,0,0x12),(BL.netArg,0,0,1),(ACT.chEn,5,0,1),(BL.DIS_STAT.STATE,0,0,0),(BL.vblEver,0,0,1),(BL.vblStale,0,0,0),(BL.VDC_ACC.AGE,0,0,0),(BL.storeOk,5,0,1),(BL.sec,5,3,500),(BL.VDC_ACC.V_BL,0,0,0)], by decide⟩,
   ⟨true, 0, st [(BL.netBusy,0,0,1),(BL.netOp,0,0,0x12),(BL.netArg,0,0,0),(ACT.chEn,5,0,1),(BL.DIS_STAT.STATE,0,0,3),(BL.disSrc,0,0,3)], by decide⟩,
   ⟨true, 0, st [(BL.netBusy,0,0,1),(BL.netOp,0,0,0x12),(BL.netArg,0,0,0),(ACT.chEn,5,0,1),(BL.DIS_STAT.STATE,0,0,1),(BL.disSrc,0,0,2),(BL.stepOpen,0,0,0)], by decide⟩,
   ⟨true, 0, st [(BL.netBusy,0,0,1),(BL.netOp,0,0,0x12),(BL.netArg,0,0,0),(ACT.chEn,5,0,1),(BL.DIS_STAT.STATE,0,0,2),(BL.disSrc,0,0,1),(BL.stepOpen,0,0,1)], by decide⟩,
   ⟨50, st [(DLI.powered,0,0,1),(DLI.stepLen,0,0,0)], by decide⟩⟩

theorem test_witness_DischargeRequestsStepsAndTheLink_2 :
    (∃ (len : Nat) (s : State), (s.is DLI.powered = true ∧ 1 ≤ len ∧ len ≤ 50) ∧ (s.is DLI.stepLen = true)) ∧
    (∃ (s : State), (s.is DLI.stepLen = true ∧ s.get DLI.stepT + 400000 * s.get DLI.stepLen ≤ s.now)) ∧
    (∃ (s : State), (s.get DLI.dlT + 4000 ≤ s.now)) ∧
    (∃ (s : State), (s.disRunning = true) ∧ (s.get BL.DIS_STAT.STATE ≠ 3) ∧ (s.wdAny = false)) ∧
    (∃ (s : State), (s.disRunning = true) ∧ (s.wdAny = true)) ∧
    (∃ (s : State), (s.get BL.DIS_STAT.STATE = 3)) ∧
    (∃ (s : State), (s.disRunning = true ∨ s.is DLI.STATUS.STUCK_ON = false)) ∧
    (∃ (s : State), (s.disRunning = true ∧ s.get BL.DIS_STAT.STATE ≠ 3 ∧ s.is BL.STATUS.CI_LOST = false ∧ s.is BL.PIT_STAT.ARMED = false) ∧ (s.is BL.disCancel = true) ∧ (s.is BL.stepOpen = false)) :=
  ⟨⟨1, st [(DLI.powered,0,0,1),(DLI.stepLen,0,0,50)], by decide⟩,
   ⟨{ st [(DLI.stepLen,0,0,10),(DLI.stepT,0,0,0)] with now := 4000000 }, by decide⟩,
   ⟨{ st [(BL.PIT_STAT.ARMED,0,0,0)] with now := 10 ^ 13 }, by decide⟩,
   ⟨st [(BL.DIS_STAT.STATE,0,0,1),(BL.sec,5,4,0)], by decide⟩,
   ⟨st ([(BL.DIS_STAT.STATE,0,0,1),(BL.sec,5,4,0x41),(BL.spdKnown,0,0,1),(BL.SPD.SPD_A,0,0,0),(BL.HOLD_CFG.HOLD_WMAX,0,0,128),(POS.XCHK_STAT.VALID,0,0,1),(BL.CAUSE.SS_CAUSE,0,0,0x4000),(PU.TRIP_STAT.SRC,0,0,0),(BL.repReq,0,0,0),(BL.LED_WIND.E_WIND,0,0,0)] ++ (List.range 6).map fun k => (GI.STATUS.STATE,k,0,4)), by decide⟩,
   ⟨st [(BL.DIS_STAT.STATE,0,0,3)], by decide⟩,
   ⟨st [(DLI.STATUS.STUCK_ON,0,0,0)], by decide⟩,
   ⟨st [(BL.DIS_STAT.STATE,0,0,1),(BL.STATUS.CI_LOST,0,0,0),(BL.PIT_STAT.ARMED,0,0,0),(BL.disCancel,0,0,1),(BL.stepOpen,0,0,0)], by decide⟩⟩

theorem test_witness_DischargeRequestsStepsAndTheLink_3 :
    (∃ (s : State), (s.disRunning = true ∧ s.get BL.DIS_STAT.STATE ≠ 3 ∧ s.is BL.STATUS.CI_LOST = false ∧ s.is BL.PIT_STAT.ARMED = false) ∧ (s.is BL.disCancel = true) ∧ (s.is BL.stepOpen = true)) ∧
    (∃ (s : State), (s.disRunning = true ∧ s.get BL.DIS_STAT.STATE ≠ 3 ∧ s.is BL.STATUS.CI_LOST = false ∧ s.is BL.PIT_STAT.ARMED = false) ∧ (s.is BL.disCancel = false) ∧ (s.stepFits (s.get BL.LED_RES.T_R) s.stepMsCfg = true)) ∧
    (∃ (s : State), (s.disRunning = true ∧ s.get BL.DIS_STAT.STATE ≠ 3 ∧ s.is BL.STATUS.CI_LOST = false ∧ s.is BL.PIT_STAT.ARMED = false) ∧ (s.is BL.disCancel = false) ∧ (s.stepFits (s.get BL.LED_RES.T_R) s.stepMsCfg = false) ∧ (s.wdAny = false) ∧ (s.longestStep (s.get BL.LED_RES.T_R) s.stepMsCfg = 0)) ∧
    (∃ (stepEnd : Bool) (s : State), (stepEnd = false ∧ s.get BL.DIS_STAT.STATE ≠ 3 ∧ s.is SYS.lowState = false) ∧ (s.is BL.DIS_STAT.STATE = true) ∧ (s.get BL.DIS_TIME.T_SAFE = 0xFFFF) ∧ (s.vBelow 600 = true)) ∧
    (∃ (stepEnd : Bool) (s : State), (stepEnd = false ∧ s.get BL.DIS_STAT.STATE ≠ 3 ∧ s.is SYS.lowState = false) ∧ (s.is BL.DIS_STAT.STATE = false)) ∧
    (∃ (s : State), (s.disRunning = true ∧ s.get BL.DIS_TIME.T_SAFE = 0xFFFF ∧ s.tDeadline ≤ s.get BL.DIS_TIME.T_RUN ∧ s.is BL.DIS_STAT.MISS = false)) ∧
    (∃ (v : BitVec 16) (s : State), (s.disRunning = true) ∧ (v.toNat * s.vBase 0 < s.vTgt * 32768)) ∧
    (∃ (s : State), (s.is BL.PIT_STAT.ARMED = false ∧ s.is DLI.linkPit = false) ∧ (s.pdOn 2 = true ∧ s.get SYS.rstPhase ≠ 3)) :=
  ⟨⟨st [(BL.DIS_STAT.STATE,0,0,1),(BL.STATUS.CI_LOST,0,0,0),(BL.PIT_STAT.ARMED,0,0,0),(BL.disCancel,0,0,1),(BL.stepOpen,0,0,1)], by decide⟩,
   ⟨st [(BL.DIS_STAT.STATE,0,0,1),(BL.STATUS.CI_LOST,0,0,0),(BL.PIT_STAT.ARMED,0,0,0),(BL.disCancel,0,0,0),(BL.sec,5,1,0xFFFF0000),(BL.sec,5,2,0xFFFFFF32),(BL.LED_RES.T_R,0,0,0)], by decide, by decide, State.stepFits_of_link _ _ _ (by decide)⟩,
   ⟨st [(BL.DIS_STAT.STATE,0,0,1),(BL.STATUS.CI_LOST,0,0,0),(BL.PIT_STAT.ARMED,0,0,0),(BL.disCancel,0,0,0),(BL.storeOk,5,0,1),(BL.sec,5,1,0xFFFF0000),(BL.sec,5,2,0x32),(BL.sec,5,4,0),(BL.LED_RES.T_R,0,0,500)], by decide, by decide, State.stepFits_of_hot _ _ _ (by decide), by decide, State.longestStep_of_hot _ _ _ (by decide)⟩,
   ⟨false, st [(BL.DIS_STAT.STATE,0,0,1),(BL.DIS_TIME.T_SAFE,0,0,0xFFFF),(BL.VDC_ACC.V_BL,0,0,0)], by decide⟩,
   ⟨false, st [(BL.DIS_STAT.STATE,0,0,0)], by decide⟩,
   ⟨st [(BL.DIS_STAT.STATE,0,0,1),(BL.DIS_TIME.T_SAFE,0,0,0xFFFF),(BL.sec,5,3,0x00640000),(BL.DIS_TIME.T_RUN,0,0,100),(BL.DIS_STAT.MISS,0,0,0)], by decide⟩,
   ⟨0, st [(BL.DIS_STAT.STATE,0,0,1),(BL.sec,5,3,500)], by decide⟩,
   ⟨st [(BL.netBusy,0,0,1),(BL.netOp,0,0,0x12),(BL.netArg,0,0,1),(ACT.chEn,5,0,0)], by decide⟩⟩

theorem test_witness_DischargeRequestsStepsAndTheLink_4 : ∃ (sel : BitVec 4) (s : State), (s.pitAllowed = true ∧ 1 ≤ sel.toNat ∧ sel.toNat ≤ 3) ∧ (s.pdOn 2 = true) :=
  ⟨3, st [(BL.PIT_STAT.ARMED,0,0,0),(SEC.LC_STAT.STATE,0,0,0),(SEC.hostRole,0,0,1)], by decide⟩

theorem test_witness_CanTransmitBuffersAndAttempts_1 :
    (∃ (ring : Fin 2) (w2 : BitVec 32) (w3 : BitVec 32) (data : List Byte) (d : Desc) (c : Fin 4) (b : Fin 32) (s : State), (s.running (28 + ring) 1 = some d ∧ d.inl = false ∧ bits w3.toNat 5 4 = c.val ∧ bits w3.toNat 15 8 = b.val) ∧ (data.length = dlcBytes (bit w2.toNat 30) (bit w3.toNat 6) (w3.toNat % 16) ∧ d.len.toNat = 16 + data.length ∧ (b = 31 → s.canReserved c = false)) ∧ (s.canFrame c b false = none)) ∧
    (∃ (ring : Fin 2) (w2 : BitVec 32) (w3 : BitVec 32) (data : List Byte) (d : Desc) (c : Fin 4) (b : Fin 32) (s : State), (s.running (28 + ring) 1 = some d ∧ d.inl = false ∧ bits w3.toNat 5 4 = c.val ∧ bits w3.toNat 15 8 = b.val) ∧ (data.length = dlcBytes (bit w2.toNat 30) (bit w3.toNat 6) (w3.toNat % 16) ∧ d.len.toNat = 16 + data.length ∧ (b = 31 → s.canReserved c = false)) ∧ (s.canFrame c b false ≠ none) ∧ (s.canFrame c b true = none)) ∧
    (∃ (ring : Fin 2) (w2 : BitVec 32) (w3 : BitVec 32) (data : List Byte) (d : Desc) (c : Fin 4) (b : Fin 32) (s : State), (s.running (28 + ring) 1 = some d ∧ d.inl = false ∧ bits w3.toNat 5 4 = c.val ∧ bits w3.toNat 15 8 = b.val) ∧ (data.length = dlcBytes (bit w2.toNat 30) (bit w3.toNat 6) (w3.toNat % 16) ∧ d.len.toNat = 16 + data.length ∧ (b = 31 → s.canReserved c = false)) ∧ (s.canFrame c b false ≠ none) ∧ (s.canFrame c b true ≠ none)) ∧
    (∃ (ring : Fin 2) (w2 : BitVec 32) (w3 : BitVec 32) (d : Desc) (c : Fin 4) (k : Fin 31) (s : State), (s.running (28 + ring) 1 = some d ∧ d.inl = true ∧ bits d.w3.toNat 5 4 = c.val ∧ bits d.w3.toNat 15 8 = 0xFF ∧ d.len.toNat = 16) ∧ (dlcBytes (bit d.w2.toNat 30) (bit d.w3.toNat 6) (d.w3.toNat % 16) = 0 ∧ s.canFrame c k false = none ∧ ∀ j < k.val, s.canFrame c j false ≠ none)) ∧
    (∃ (ring : Fin 2) (onBus : Bool) (d : Desc) (c : Fin 4) (b : Fin 32) (s : State), (s.running (28 + ring) 2 = some d ∧ d.inl = true ∧ d.len.toNat = 16 ∧ bits d.w3.toNat 5 4 = c.val ∧ bits d.w3.toNat 15 8 = b.val) ∧ (onBus = true) ∧ (s.get CAN.cur c = b + 1) ∧ (s.canOn c = true) ∧ (s.canFrame c b false ≠ none)) ∧
    (∃ (ring : Fin 2) (onBus : Bool) (d : Desc) (c : Fin 4) (b : Fin 32) (s : State), (s.running (28 + ring) 2 = some d ∧ d.inl = true ∧ d.len.toNat = 16 ∧ bits d.w3.toNat 5 4 = c.val ∧ bits d.w3.toNat 15 8 = b.val) ∧ (onBus = false ∨ s.get CAN.cur c ≠ b + 1)) ∧
    (∃ (ctrl : Fin 4) (b : Fin 32) (f : CanFrame) (s : State), (s.canOn ctrl = true ∧ s.get CAN.cur ctrl = b + 1 ∧ s.canFrame ctrl b false = some f ∧ s.get CAN.pitIdc ctrl = 0 ∧ s.get CAN.pitAck ctrl = 0 ∧ s.is BL.PIT_STAT.ARMED = false) ∧ (s.cxlWaits ctrl b = false) ∧ (s.canFrame ctrl b true ≠ none)) ∧
    (∃ (ctrl : Fin 4) (b : Fin 32) (f : CanFrame) (s : State), (s.canOn ctrl = true ∧ s.get CAN.cur ctrl = b + 1 ∧ s.canFrame ctrl b false = some f ∧ s.get CAN.pitIdc ctrl = 0 ∧ s.get CAN.pitAck ctrl = 0 ∧ s.is BL.PIT_STAT.ARMED = false) ∧ (s.cxlWaits ctrl b = false) ∧ (s.canFrame ctrl b true = none)) :=
  ⟨⟨1, 0, 0x00001F31, [7], { op := 1, inl := false, fence := false, irq := true, preempt := false, tag := 9, len := 17, w0 := 0, w1 := 0, w2 := 0, w3 := 0 }, 3, 31, (let s : State := st []; { s with descs := [(29, { op := 1, inl := false, fence := false, irq := true, preempt := false, tag := 9, len := 17, w0 := 0, w1 := 0, w2 := 0, w3 := 0 })], regs := s.regs.filter fun p => !(List.range 16).any fun k => p.1 == BL.RS_CFG.EN.key k 0 }), by decide⟩,
   ⟨0, 0, 0x00001E01, [7], { op := 1, inl := false, fence := false, irq := true, preempt := false, tag := 9, len := 17, w0 := 0, w1 := 0, w2 := 0, w3 := 0 }, 0, 30, (let s : State := st []; { s with descs := [(28, { op := 1, inl := false, fence := false, irq := true, preempt := false, tag := 9, len := 17, w0 := 0, w1 := 0, w2 := 0, w3 := 0 })], canTx := [((0,30,false), canFrameOf 0 0 [])] }), by decide⟩,
   ⟨0, 0, 0x00000001, [7], { op := 1, inl := false, fence := false, irq := true, preempt := false, tag := 9, len := 17, w0 := 0, w1 := 0, w2 := 0, w3 := 0 }, 0, 0, (let s : State := st []; { s with descs := [(28, { op := 1, inl := false, fence := false, irq := true, preempt := false, tag := 9, len := 17, w0 := 0, w1 := 0, w2 := 0, w3 := 0 })], canTx := [((0,0,false), canFrameOf 0 0 []), ((0,0,true), canFrameOf 0 0 [])] }), by decide⟩,
   ⟨1, 0, 0, { op := 1, inl := true, fence := false, irq := false, preempt := false, tag := 9, len := 16, w0 := 0, w1 := 0, w2 := 5, w3 := 0xFF30 }, 3, 1, (let s : State := st []; { s with descs := [(29, { op := 1, inl := true, fence := false, irq := false, preempt := false, tag := 9, len := 16, w0 := 0, w1 := 0, w2 := 5, w3 := 0xFF30 })], canTx := [((3,0,false), canFrameOf 0 0 [])] }), by decide⟩,
   ⟨1, true, { op := 2, inl := true, fence := false, irq := false, preempt := false, tag := 9, len := 16, w0 := 0, w1 := 0, w2 := 5, w3 := 0x1F30 }, 3, 31, (let s : State := st [(CAN.cur,3,0,32),(CAN.STATUS.STATE,3,0,2),(CAN.cxl,3,0,0)]; { s with descs := [(29, { op := 2, inl := true, fence := false, irq := false, preempt := false, tag := 9, len := 16, w0 := 0, w1 := 0, w2 := 5, w3 := 0x1F30 })], canTx := [((3,31,false), canFrameOf 0 0 []), ((3,31,true), canFrameOf 0 0 [])] }), by decide⟩,
   ⟨0, true, { op := 2, inl := true, fence := false, irq := false, preempt := false, tag := 9, len := 16, w0 := 0, w1 := 0, w2 := 5, w3 := 0 }, 0, 0, (let s : State := st [(CAN.cur,0,0,32)]; { s with descs := [(28, { op := 2, inl := true, fence := false, irq := false, preempt := false, tag := 9, len := 16, w0 := 0, w1 := 0, w2 := 5, w3 := 0 })], canTx := [((0,0,false), canFrameOf 0 0 []), ((0,0,true), canFrameOf 0 0 [])] }), by decide⟩,
   ⟨3, 31, canFrameOf 7 0 [], (let s : State := st [(CAN.cur,3,0,32),(CAN.STATUS.STATE,3,0,2),(CAN.cxl,3,0,0),(CAN.pitIdc,3,0,0),(CAN.pitAck,3,0,0),(BL.PIT_STAT.ARMED,0,0,0)]; { s with canTx := [((3,31,false), canFrameOf 7 0 []), ((3,31,true), canFrameOf 0 0 [])] }), by decide⟩,
   ⟨0, 0, canFrameOf 7 0 [], (let s : State := st [(CAN.cur,0,0,1),(CAN.STATUS.STATE,0,0,3),(CAN.cxl,0,0,0),(CAN.pitIdc,0,0,0),(CAN.pitAck,0,0,0),(BL.PIT_STAT.ARMED,0,0,0)]; { s with canTx := [((0,0,false), canFrameOf 7 0 [])] }), by decide⟩⟩

theorem test_witness_CanTransmitBuffersAndAttempts_2 :
    (∃ (ctrl : Fin 4) (lec : Fin 7) (s : State), (s.canOn ctrl = true ∧ s.is CAN.cur ctrl = true ∧ lec.val ≠ 0 ∧ s.is CAN.pitIdc ctrl = false ∧ s.is CAN.pitAck ctrl = false ∧ s.pit 0x1A 1 ctrl = false ∧ s.pit 0x1A 2 ctrl = false) ∧ (lec.val = 3) ∧ (s.get CAN.STATUS.STATE ctrl = 2)) ∧
    (∃ (ctrl : Fin 4) (lec : Fin 7) (inData : Bool) (s : State), (s.canOn ctrl = true ∧ s.is CAN.cur ctrl = true ∧ lec.val ≠ 0 ∧ s.is CAN.pitIdc ctrl = false ∧ s.is CAN.pitAck ctrl = false ∧ s.pit 0x1A 1 ctrl = false ∧ s.pit 0x1A 2 ctrl = false) ∧ (lec.val ≠ 3) ∧ (inData = true) ∧ (s.get CAN.STATUS.STATE ctrl = 2)) :=
  ⟨⟨3, 3, st [(CAN.cur,3,0,32),(CAN.STATUS.STATE,3,0,2)], by decide⟩,
   ⟨0, 4, true, st [(CAN.cur,0,0,1),(CAN.STATUS.STATE,0,0,2)], by decide⟩⟩

theorem test_witness_CanStatesReceptionAndPitons_1 :
    (∃ (ctrl : Fin 4) (s : State), (s.get CAN.STATUS.STATE ctrl = 1 ∧ s.is CAN.CTL.INIT ctrl = false ∧ s.is CAN.CTL.TRX_EN ctrl = true)) ∧
    (∃ (ctrl : Fin 4) (eight : Bool) (s : State), (s.canOn ctrl = true ∧ s.is CAN.CTL.ROM ctrl = false) ∧ (128 ≤ s.get CAN.ERR.REC ctrl + (if eight then 8 else 1))) ∧
    (∃ (ctrl : Fin 4) (s : State), (3 ≤ s.get CAN.IDC.RUN ctrl)) ∧
    (∃ (ctrl : Fin 4) (s : State), (16 ≤ s.get CAN.ERR.ACK_RUN ctrl)) ∧
    (∃ (ctrl : Fin 4) (s : State), (s.canOn ctrl = true ∧ 255 < s.get CAN.ERR.TEC ctrl)) ∧
    (∃ (ctrl : Fin 4) (s : State), (s.is CAN.CTL.TRX_EN ctrl = true)) ∧
    (∃ (ctrl : Fin 4) (tdcv : Option (BitVec 8)) (s : State), (tdcv = none) ∧ (s.canOn ctrl = true) ∧ (s.is CAN.CTL.PXE ctrl = true)) ∧
    (∃ (ctrl : Fin 4) (tdcv : Option (BitVec 8)) (s : State), (tdcv = none) ∧ (s.canOn ctrl = true) ∧ (s.is CAN.CTL.PXE ctrl = false)) :=
  ⟨⟨3, st [(CAN.STATUS.STATE,3,0,1),(CAN.CTL.INIT,3,0,0),(CAN.CTL.TRX_EN,3,0,1)], by decide⟩,
   ⟨3, true, st [(CAN.STATUS.STATE,3,0,2),(CAN.ERR.REC,3,0,120)], by decide⟩,
   ⟨3, st [(CAN.IDC.RUN,3,0,3)], by decide⟩,
   ⟨3, st [(CAN.ERR.ACK_RUN,3,0,16)], by decide⟩,
   ⟨3, st [(CAN.STATUS.STATE,3,0,3),(CAN.ERR.TEC,3,0,256)], by decide⟩,
   ⟨3, st [(CAN.CTL.TRX_EN,3,0,1)], by decide⟩,
   ⟨3, none, st [(CAN.STATUS.STATE,3,0,2),(CAN.CTL.PXE,3,0,1)], by decide⟩,
   ⟨0, none, st [(CAN.STATUS.STATE,0,0,3),(CAN.CTL.PXE,0,0,0)], by decide⟩⟩

theorem test_witness_CanStatesReceptionAndPitons_2 :
    (∃ (ctrl : Fin 4) (frame : CanFrame) (s : State), (s.canOn ctrl = true) ∧ (s.canRidge ctrl frame = false) ∧ (s.canFilter ctrl frame = none) ∧ (s.is CAN.CTL.DEF_ACC ctrl = true) ∧ (s.desc (24 + ctrl) = none) ∧ (s.canRxQ = [])) ∧
    (∃ (ctrl : Fin 4) (frame : CanFrame) (s : State), (s.canOn ctrl = true) ∧ (s.canRidge ctrl frame = true)) ∧
    (∃ (ctrl : Fin 4) (frame : CanFrame) (s : State), (s.canOn ctrl = true) ∧ (s.canRidge ctrl frame = false) ∧ (s.canFilter ctrl frame = none) ∧ (s.is CAN.CTL.DEF_ACC ctrl = false)) ∧
    (∃ (ctrl : Fin 4) (s : State), (s.pdOn 6 = true) ∧ (s.get CAN.STATUS.STATE ctrl = 4)) ∧
    (∃ (ctrl : Fin 4) (s : State), (s.pdOn 6 = true) ∧ (s.get CAN.STATUS.STATE ctrl ≠ 4)) ∧
    (∃ (ctrl : Fin 4) (s : State), (s.get CAN.STATUS.STATE ctrl = 5 ∧ s.is CAN.CTL.INIT ctrl = false)) ∧
    (∃ (sel : BitVec 4) (s : State), (s.pitAllowed = true ∧ 1 ≤ sel.toNat ∧ sel.toNat ≤ 2) ∧ (s.pdOn 6 = true)) :=
  ⟨⟨3, { ide := false, fdf := false, brs := false, rtr := false, esi := false, ident := 0, dlc := 0, data := [] }, st [(CAN.STATUS.STATE,3,0,2)], by decide⟩,
   ⟨0, canFrameOf 5 0 [], st [(CAN.STATUS.STATE,0,0,2),(BL.RS_CFG.EN,15,0,1),(BL.RS_CFG.CHAN,15,0,1),(BL.RS_CFG.INST,15,0,0),(BL.RS_CFG2.RX_ID,15,0,5)], by decide⟩,
   ⟨3, { ide := false, fdf := false, brs := false, rtr := false, esi := false, ident := 0, dlc := 0, data := [] }, st [(CAN.STATUS.STATE,3,0,2),(CAN.CTL.DEF_ACC,3,0,0)], by decide⟩,
   ⟨3, st [(CAN.STATUS.STATE,3,0,4)], by decide⟩,
   ⟨3, st [(CAN.STATUS.STATE,3,0,1),(CAN.CTL.INIT,3,0,0),(CAN.CTL.TRX_EN,3,0,1)], by decide⟩,
   ⟨3, st [(CAN.STATUS.STATE,3,0,5),(CAN.CTL.INIT,3,0,0)], by decide⟩,
   ⟨2, st [(BL.PIT_STAT.ARMED,0,0,0),(SEC.LC_STAT.STATE,0,0,0),(SEC.hostRole,0,0,1)], by decide⟩⟩

theorem test_witness_EthernetFramesLinkAndPeerDelay_1 :
    (∃ (frame : List Byte) (d : Desc) (s : State), (s.running 31 1 = some d ∧ 60 ≤ d.len.toNat ∧ d.len.toNat ≤ 1518 ∧ frame.length = d.len.toNat ∧ s.ethTxQ = []) ∧ (s.is ETH.PSTAT.LINK (d.w2.toNat % 2) = false)) ∧
    (∃ (frame : List Byte) (d : Desc) (s : State), (s.running 31 1 = some d ∧ 60 ≤ d.len.toNat ∧ d.len.toNat ≤ 1518 ∧ frame.length = d.len.toNat ∧ s.ethTxQ = []) ∧ (s.is ETH.PSTAT.LINK (d.w2.toNat % 2) = true) ∧ (s.is ETH.MSEC_CFG.TX_EN (d.w2.toNat % 2) = false)) ∧
    (∃ (frame : List Byte) (d : Desc) (s : State), (s.running 31 1 = some d ∧ 60 ≤ d.len.toNat ∧ d.len.toNat ≤ 1518 ∧ frame.length = d.len.toNat ∧ s.ethTxQ = []) ∧ (s.is ETH.PSTAT.LINK (d.w2.toNat % 2) = true) ∧ (s.is ETH.MSEC_CFG.TX_EN (d.w2.toNat % 2) = true) ∧ (s.txSak (d.w2.toNat % 2) = false) ∧ (s.macsecBypass frame = false)) ∧
    (∃ (port : Fin 2) (d : Desc) (f : List Byte) (s : State), (s.desc 31 = some d ∧ s.ethTxQ = [(port.val, f)]) ∧ (s.is ETH.MSEC_CFG.TX_EN port = false)) ∧
    (∃ (port : Fin 2) (fcsOk : Bool) (s : State), (s.is ETH.PCFG.EN port = true ∧ s.is ETH.PSTAT.LINK port = true) ∧ (fcsOk = false)) ∧
    (∃ (port : Fin 2) (frame : List Byte) (fcsOk : Bool) (s : State), (s.is ETH.PCFG.EN port = true ∧ s.is ETH.PSTAT.LINK port = true) ∧ (fcsOk = true) ∧ (60 ≤ frame.length) ∧ (frame.length ≤ 1518) ∧ (etherType frame = 0x8808)) ∧
    (∃ (port : Fin 2) (frame : List Byte) (fcsOk : Bool) (s : State), (s.is ETH.PCFG.EN port = true ∧ s.is ETH.PSTAT.LINK port = true) ∧ (fcsOk = true) ∧ (60 ≤ frame.length) ∧ (frame.length ≤ 1518) ∧ (etherType frame ≠ 0x8808) ∧ (s.is ETH.MSEC_CFG.RX_EN port = false) ∧ (s.ethAddrOk port frame = false)) ∧
    (∃ (port : Fin 2) (frame : List Byte) (fcsOk : Bool) (s : State), (s.is ETH.PCFG.EN port = true ∧ s.is ETH.PSTAT.LINK port = true) ∧ (fcsOk = true) ∧ (60 ≤ frame.length) ∧ (frame.length ≤ 1518) ∧ (etherType frame ≠ 0x8808) ∧ (s.is ETH.MSEC_CFG.RX_EN port = false) ∧ (s.ethAddrOk port frame = true) ∧ (etherType frame ≠ 0x88F7) ∧ (s.ethRidge port (etherType frame) = false) ∧ (s.desc 30 = none)) :=
  ⟨⟨List.replicate 60 0, { op := 1, inl := false, fence := false, irq := false, preempt := false, tag := 9, len := 60, w0 := 0, w1 := 0, w2 := 1, w3 := 0 }, (let s : State := st []; { s with descs := [(31, { op := 1, inl := false, fence := false, irq := false, preempt := false, tag := 9, len := 60, w0 := 0, w1 := 0, w2 := 1, w3 := 0 })], ethTxQ := [] }), by decide⟩,
   ⟨List.replicate 60 0, { op := 1, inl := false, fence := false, irq := false, preempt := false, tag := 9, len := 60, w0 := 0, w1 := 0, w2 := 1, w3 := 0 }, (let s : State := st [(ETH.PSTAT.LINK,1,0,1),(ETH.MSEC_CFG.TX_EN,1,0,0)]; { s with descs := [(31, { op := 1, inl := false, fence := false, irq := false, preempt := false, tag := 9, len := 60, w0 := 0, w1 := 0, w2 := 1, w3 := 0 })], ethTxQ := [] }), by decide⟩,
   ⟨List.replicate 60 0, { op := 1, inl := false, fence := false, irq := false, preempt := false, tag := 9, len := 60, w0 := 0, w1 := 0, w2 := 1, w3 := 0 }, (let s : State := st [(ETH.PSTAT.LINK,1,0,1),(ETH.MSEC_CFG.TX_EN,1,0,1)]; { s with descs := [(31, { op := 1, inl := false, fence := false, irq := false, preempt := false, tag := 9, len := 60, w0 := 0, w1 := 0, w2 := 1, w3 := 0 })], ethTxQ := [] }), by decide⟩,
   ⟨0, { op := 1, inl := false, fence := false, irq := true, preempt := false, tag := 9, len := 60, w0 := 0, w1 := 0, w2 := 1, w3 := 0 }, [], (let s : State := st [(ETH.MSEC_CFG.TX_EN,0,0,0)]; { s with descs := [(31, { op := 1, inl := false, fence := false, irq := true, preempt := false, tag := 9, len := 60, w0 := 0, w1 := 0, w2 := 1, w3 := 0 })], ethTxQ := [(0,[])] }), by decide⟩,
   ⟨1, false, st [(ETH.PCFG.EN,1,0,1),(ETH.PSTAT.LINK,1,0,1)], by decide⟩,
   ⟨1, List.replicate 12 0 ++ [0x88, 0x08] ++ List.replicate 46 0, true, st [(ETH.PCFG.EN,1,0,1),(ETH.PSTAT.LINK,1,0,1)], by decide⟩,
   ⟨1, List.replicate 60 1, true, st [(ETH.PCFG.EN,1,0,1),(ETH.PSTAT.LINK,1,0,1),(ETH.MSEC_CFG.RX_EN,1,0,0),(ETH.PCFG.PROMISC,1,0,0)], by decide⟩,
   ⟨1, List.replicate 60 255, true, (let s : State := st [(ETH.PCFG.EN,1,0,1),(ETH.PSTAT.LINK,1,0,1),(ETH.MSEC_CFG.RX_EN,1,0,0),(ETH.PCFG.BCAST,1,0,1)]; { s with descs := [] }), by decide⟩⟩

theorem test_witness_EthernetFramesLinkAndPeerDelay_2 :
    (∃ (port : Fin 2) (up : Bool) (s : State), (s.is ETH.PCFG.EN port = true) ∧ (up = false) ∧ (s.is ETH.PSTAT.LINK port = true)) ∧
    (∃ (port : Fin 2) (up : Bool) (s : State), (s.is ETH.PCFG.EN port = true) ∧ (up = s.is ETH.PSTAT.LINK port)) ∧
    (∃ (port : Fin 2) (s : State), (s.is ETH.PCFG.EN port = true ∧ s.is ETH.PSTAT.LINK port = false)) ∧
    (∃ (port : Fin 2) (s : State), (s.is ETH.AS_CFG.AS_EN = true ∧ s.is ETH.PCFG.EN port = true ∧ s.is ETH.PSTAT.LINK port = true)) ∧
    (∃ (port : Fin 2) (d : Desc) (f : List Byte) (s : State), (s.desc 31 = some d ∧ s.ethTxQ = [(port.val, f)]) ∧ (s.is ETH.MSEC_CFG.TX_EN port = false ∨ s.macsecBypass f = true)) ∧
    (∃ (port : Fin 2) (d : Desc) (f : List Byte) (s : State), (s.desc 31 = some d ∧ s.ethTxQ = [(port.val, f)]) ∧ (s.is ETH.MSEC_CFG.TX_EN port = true) ∧ (s.macsecBypass f = false) ∧ (s.get ETH.frameAn port = s.get ETH.MSEC_CFG.TX_AN port)) ∧
    (∃ (port : Fin 2) (frame : List Byte) (fcsOk : Bool) (tag : Option SecTag) (s : State), (s.is ETH.PCFG.EN port = true ∧ s.is ETH.PSTAT.LINK port = true) ∧ (fcsOk = true) ∧ (60 ≤ frame.length) ∧ (frame.length ≤ 1518) ∧ (etherType frame ≠ 0x8808) ∧ (s.is ETH.MSEC_CFG.RX_EN port = true) ∧ (s.secOk port tag = false) ∧ (s.macsecBypass frame = false)) ∧
    (∃ (port : Fin 2) (frame : List Byte) (tag : Option SecTag) (d : Desc) (s : State), (s.is ETH.PCFG.EN port = true ∧ s.is ETH.PSTAT.LINK port = true ∧ 60 ≤ frame.length ∧ frame.length ≤ 1518 ∧ etherType frame ≠ 0x8808) ∧ (s.is ETH.MSEC_CFG.RX_EN port = false ∨ s.secOk port tag = true ∨ s.macsecBypass frame = true) ∧ (s.ethAddrOk port frame = true ∧ (etherType frame ≠ 0x88F7 ∨ s.is ETH.AS_CFG.AS_EN = false) ∧ s.ethRidge port (etherType frame) = false ∧ s.desc 30 = some d)) :=
  ⟨⟨1, false, st [(ETH.PCFG.EN,1,0,1),(ETH.PSTAT.LINK,1,0,1)], by decide⟩,
   ⟨0, false, st [(ETH.PCFG.EN,0,0,1),(ETH.PSTAT.LINK,0,0,0)], by decide⟩,
   ⟨1, st [(ETH.PCFG.EN,1,0,1),(ETH.PSTAT.LINK,1,0,0)], by decide⟩,
   ⟨1, st [(ETH.PCFG.EN,1,0,1),(ETH.PSTAT.LINK,1,0,1),(ETH.AS_CFG.AS_EN,0,0,1)], by decide⟩,
   ⟨0, { op := 1, inl := false, fence := false, irq := true, preempt := false, tag := 9, len := 60, w0 := 0, w1 := 0, w2 := 1, w3 := 0 }, [], (let s : State := st [(ETH.MSEC_CFG.TX_EN,0,0,0)]; { s with descs := [(31, { op := 1, inl := false, fence := false, irq := true, preempt := false, tag := 9, len := 60, w0 := 0, w1 := 0, w2 := 1, w3 := 0 })], ethTxQ := [(0,[])] }), by decide⟩,
   ⟨1, { op := 1, inl := false, fence := false, irq := false, preempt := false, tag := 9, len := 60, w0 := 0, w1 := 0, w2 := 1, w3 := 0 }, [], (let s : State := st [(ETH.MSEC_CFG.TX_EN,1,0,1)]; { s with descs := [(31, { op := 1, inl := false, fence := false, irq := false, preempt := false, tag := 9, len := 60, w0 := 0, w1 := 0, w2 := 1, w3 := 0 })], ethTxQ := [(1,[])] }), by decide⟩,
   ⟨1, List.replicate 60 255, true, none, st [(ETH.PCFG.EN,1,0,1),(ETH.PSTAT.LINK,1,0,1),(ETH.MSEC_CFG.RX_EN,1,0,1)], by decide⟩,
   ⟨1, List.replicate 60 255, none, { op := 2, inl := false, fence := false, irq := false, preempt := false, tag := 9, len := 1518, w0 := 0, w1 := 0, w2 := 0, w3 := 0 }, (let s : State := st [(ETH.PCFG.EN,1,0,1),(ETH.PSTAT.LINK,1,0,1),(ETH.MSEC_CFG.RX_EN,1,0,0),(ETH.PCFG.BCAST,1,0,1)]; { s with descs := [(30, { op := 2, inl := false, fence := false, irq := false, preempt := false, tag := 9, len := 1518, w0 := 0, w1 := 0, w2 := 0, w3 := 0 })] }), by decide⟩⟩

theorem test_witness_EthernetFramesLinkAndPeerDelay_3 : ∃ (port : Fin 2) (frame : List Byte) (tag : Option SecTag) (s : State), (s.is ETH.PCFG.EN port = true ∧ s.is ETH.PSTAT.LINK port = true ∧ 60 ≤ frame.length ∧ frame.length ≤ 1518 ∧ etherType frame ≠ 0x8808) ∧ (s.is ETH.MSEC_CFG.RX_EN port = false ∨ s.secOk port tag = true ∨ s.macsecBypass frame = true) ∧ (s.ethAddrOk port frame = true ∧ (etherType frame ≠ 0x88F7 ∨ s.is ETH.AS_CFG.AS_EN = false) ∧ s.ethRidge port (etherType frame) = true) :=
  ⟨1, List.replicate 12 255 ++ [0x88, 0xB5] ++ List.replicate 46 0, none, st [(ETH.PCFG.EN,1,0,1),(ETH.PSTAT.LINK,1,0,1),(ETH.MSEC_CFG.RX_EN,1,0,0),(ETH.PCFG.BCAST,1,0,1),(BL.RS_CFG.EN,3,0,1),(BL.RS_CFG.CHAN,3,0,2),(BL.RS_CFG.INST,3,0,1),(BL.RS_CFG2.RX_ID,3,0,0x88B5)], by decide⟩

theorem test_witness_ImagesLifeCycleAndKeysTakeEffect_1 :
    (∃ (data : List Byte) (d : Desc) (s : State), (s.running 20 1 = some d ∧ s.is SEC.finalFw = false ∧ data.length = d.len.toNat) ∧ (d.w2.toNat = s.fwImage.length) ∧ (d.w3.toNat % 2 = 1)) ∧
    (∃ (data : List Byte) (d : Desc) (s : State), (s.running 20 1 = some d ∧ s.is SEC.finalFw = false ∧ data.length = d.len.toNat) ∧ (d.w2.toNat = s.fwImage.length) ∧ (d.w3.toNat % 2 = 0)) ∧
    (∃ (data : List Byte) (d : Desc) (s : State), (s.running 20 1 = some d ∧ s.is SEC.finalFw = false ∧ data.length = d.len.toNat) ∧ (d.w2.toNat ≠ s.fwImage.length)) ∧
    (∃ (keyOk : Bool) (sigOk : Bool) (s : State), (s.is SEC.finalFw = true) ∧ (s.fwReason s.fwImage keyOk sigOk = 0) ∧ (s.get SEC.finalFw = 1)) ∧
    (∃ (keyIdOk : Bool) (tagOk : Bool) (s : State), (s.is SEC.finalCal = true) ∧ (s.calReason s.calImage keyIdOk tagOk = 0)) ∧
    (∃ (tagOk : Bool) (s : State), (s.get ACT.jobStep = 3 ∧ s.is SEC.lockZero = false) ∧ (tagOk = true)) ∧
    (∃ (tagOk : Bool) (s : State), (s.get ACT.jobStep = 3 ∧ s.is SEC.lockZero = false) ∧ (tagOk = false)) ∧
    (∃ (keyOk : Bool) (sigOk : Bool) (s : State), (s.is SEC.finalFw = true) ∧ (s.fwReason s.fwImage keyOk sigOk ≠ 0) ∧ (s.get SEC.finalFw = 1)) :=
  ⟨⟨[1], { op := 1, inl := false, fence := false, irq := true, preempt := false, tag := 9, len := 1, w0 := 0, w1 := 0, w2 := 0, w3 := 1 }, (let s : State := st [(SEC.finalFw,0,0,0)]; { s with descs := [(20, { op := 1, inl := false, fence := false, irq := true, preempt := false, tag := 9, len := 1, w0 := 0, w1 := 0, w2 := 0, w3 := 1 })], fwImage := [] }), by decide⟩,
   ⟨[1], { op := 1, inl := false, fence := false, irq := true, preempt := false, tag := 9, len := 1, w0 := 0, w1 := 0, w2 := 0, w3 := 0 }, (let s : State := st [(SEC.finalFw,0,0,0)]; { s with descs := [(20, { op := 1, inl := false, fence := false, irq := true, preempt := false, tag := 9, len := 1, w0 := 0, w1 := 0, w2 := 0, w3 := 0 })], fwImage := [] }), by decide⟩,
   ⟨[1], { op := 1, inl := false, fence := false, irq := true, preempt := false, tag := 9, len := 1, w0 := 0, w1 := 0, w2 := 5, w3 := 0 }, (let s : State := st [(SEC.finalFw,0,0,0)]; { s with descs := [(20, { op := 1, inl := false, fence := false, irq := true, preempt := false, tag := 9, len := 1, w0 := 0, w1 := 0, w2 := 5, w3 := 0 })], fwImage := [] }), by decide⟩,
   imageOk,
   ⟨true, true, (let s : State := st [(SEC.finalCal,0,0,1),(SEC.CAL_STAT.CAL_SVN,0,0,0),(SEC.CAL_STAT.KEY_OK,0,0,1)]; { s with calImage := (leBytes 4 0x4E564341 ++ [1, 0, 0, 0] ++ List.replicate 20 0 ++ leBytes 4 2048 ++ List.replicate 2096 0).map (BitVec.ofNat 8) }), by decide⟩,
   ⟨true, st [(ACT.jobStep,0,0,3),(SEC.lockZero,0,0,0)], by decide⟩,
   ⟨false, st [(ACT.jobStep,0,0,3),(SEC.lockZero,0,0,0),(ACT.job,0,0,0)], by decide⟩,
   ⟨false, false, (let s : State := st [(SEC.finalFw,0,0,1)]; { s with fwImage := [] }), by decide⟩⟩

theorem test_witness_ImagesLifeCycleAndKeysTakeEffect_2 :
    (∃ (data : List Byte) (d : Desc) (s : State), (s.running 21 1 = some d ∧ s.is SEC.finalCal = false ∧ data.length = d.len.toNat) ∧ (s.roleIn (s.get SEC.descRole 21) [2, 3] = false ∨ s.get SEC.LC_STAT.STATE = 4)) ∧
    (∃ (data : List Byte) (d : Desc) (s : State), (s.running 21 1 = some d ∧ s.is SEC.finalCal = false ∧ data.length = d.len.toNat) ∧ (s.roleIn (s.get SEC.descRole 21) [2, 3] = true) ∧ (s.get SEC.LC_STAT.STATE ≠ 4) ∧ (d.w2.toNat = s.calImage.length) ∧ (d.w3.toNat % 2 = 0)) ∧
    (∃ (data : List Byte) (d : Desc) (s : State), (s.running 21 1 = some d ∧ s.is SEC.finalCal = false ∧ data.length = d.len.toNat) ∧ (s.roleIn (s.get SEC.descRole 21) [2, 3] = true) ∧ (s.get SEC.LC_STAT.STATE ≠ 4) ∧ (d.w2.toNat ≠ s.calImage.length)) ∧
    (∃ (keyIdOk : Bool) (tagOk : Bool) (s : State), (s.is SEC.finalCal = true) ∧ (s.calReason s.calImage keyIdOk tagOk ≠ 0) ∧ (s.get SEC.finalCal = 1)) ∧
    (∃ (target : BitVec 3) (s : State), (s.pdOn 2 = true) ∧ (s.is SEC.LC_STAT.LC_PEND = false) ∧ (s.linkRole ∉ State.lcRoles (s.get SEC.LC_STAT.STATE) target.toNat)) ∧
    (∃ (s : State), (s.pdOn 2 = true) ∧ (s.is SEC.LC_STAT.LC_PEND = true)) ∧
    (∃ (target : BitVec 3) (whole : Bool) (s : State), (s.pdOn 2 = true) ∧ (s.get SEC.LC_STAT.STATE = 2) ∧ (target = 3) ∧ (s.is SEC.LC_STAT.LC_PEND = false) ∧ (s.linkRole ∈ [2, 4]) ∧ (s.get ACT.jobStep = 0) ∧ (s.is SEC.CAL_STAT.ZEROING = false) ∧ (s.anyEnabled = false) ∧ (whole = true)) ∧
    (∃ (target : BitVec 3) (whole : Bool) (s : State), (s.pdOn 2 = true) ∧ (s.get SEC.LC_STAT.STATE = 2) ∧ (target = 4) ∧ (s.is SEC.LC_STAT.LC_PEND = false) ∧ (s.linkRole = 2) ∧ (s.get ACT.jobStep = 0) ∧ (s.is SEC.CAL_STAT.ZEROING = false) ∧ (s.anyEnabled = false) ∧ (whole = true)) :=
  ⟨⟨[1], { op := 1, inl := false, fence := false, irq := true, preempt := false, tag := 9, len := 1, w0 := 0, w1 := 0, w2 := 0, w3 := 0 }, (let s : State := st [(SEC.finalCal,0,0,0),(SEC.hostRole,0,0,3),(SEC.LC_STAT.STATE,0,0,2)]; { s with descs := [(21, { op := 1, inl := false, fence := false, irq := true, preempt := false, tag := 9, len := 1, w0 := 0, w1 := 0, w2 := 0, w3 := 0 })], calImage := [] }), by decide⟩,
   ⟨[7], { op := 1, inl := true, fence := false, irq := true, preempt := false, tag := 9, len := 1, w0 := 0, w1 := 0, w2 := 0, w3 := 0 }, (let s : State := st [(SEC.descRole,21,0,3),(SEC.LC_STAT.STATE,0,0,2)]; { s with descs := [(21, { op := 1, inl := true, fence := false, irq := true, preempt := false, tag := 9, len := 1, w0 := 0, w1 := 0, w2 := 0, w3 := 0 })] }), by decide⟩,
   ⟨[7], { op := 1, inl := true, fence := false, irq := true, preempt := false, tag := 9, len := 1, w0 := 0, w1 := 0, w2 := 5, w3 := 0 }, (let s : State := st [(SEC.descRole,21,0,3),(SEC.LC_STAT.STATE,0,0,2)]; { s with descs := [(21, { op := 1, inl := true, fence := false, irq := true, preempt := false, tag := 9, len := 1, w0 := 0, w1 := 0, w2 := 5, w3 := 0 })] }), by decide⟩,
   ⟨false, false, (let s : State := st [(SEC.finalCal,0,0,1)]; { s with calImage := [] }), by decide⟩,
   ⟨0, (let s : State := st [(SEC.finalFw,0,0,0)]; { s with descs := [(20, { op := 1, inl := false, fence := false, irq := true, preempt := false, tag := 9, len := 1, w0 := 0, w1 := 0, w2 := 0, w3 := 1 })], fwImage := [] }), by decide⟩,
   ⟨st [(SEC.LC_STAT.LC_PEND,0,0,1)], by decide⟩,
   ⟨3, true, st ([(SEC.LC_STAT.STATE,0,0,2),(SEC.LC_STAT.LC_PEND,0,0,0),(SEC.hostRole,0,0,4),(ACT.jobStep,0,0,0),(SEC.CAL_STAT.ZEROING,0,0,0)] ++ (List.range 8).map fun k => (ACT.chEn,k,0,0)), by decide⟩,
   ⟨4, true, st ([(SEC.LC_STAT.STATE,0,0,2),(SEC.LC_STAT.LC_PEND,0,0,0),(SEC.hostRole,0,0,2),(ACT.jobStep,0,0,0),(SEC.CAL_STAT.ZEROING,0,0,0)] ++ (List.range 8).map fun k => (ACT.chEn,k,0,0)), by decide⟩⟩

theorem test_witness_ImagesLifeCycleAndKeysTakeEffect_3 :
    (∃ (unwraps : Bool) (s : State), (s.linkRole = 2 ∧ s.get SEC.LC_STAT.STATE ∈ [1, 2, 3]) ∧ (s.pdOn 2 = true) ∧ (unwraps = true)) ∧
    (∃ (unwraps : Bool) (s : State), (s.linkRole = 2 ∧ s.get SEC.LC_STAT.STATE ∈ [1, 2, 3]) ∧ (s.pdOn 2 = true) ∧ (unwraps = false)) ∧
    (∃ (s : State), (s.pdOn 2 = true) ∧ (s.roleMay [2] = false)) ∧
    (∃ (slot : BitVec 4) (s : State), (s.pdOn 2 = true) ∧ (s.roleMay [2] = true) ∧ (s.get SEC.LC_STAT.STATE ≠ 4) ∧ (slot = 3 ∨ slot = 4)) ∧
    (∃ (slot : BitVec 4) (s : State), (s.pdOn 2 = true) ∧ (s.roleMay [2] = true) ∧ (s.get SEC.LC_STAT.STATE ≠ 4) ∧ (slot ≠ 3) ∧ (slot ≠ 4)) ∧
    (∃ (slot : BitVec 4) (s : State), (s.roleMay [2] = true ∧ s.get SEC.LC_STAT.STATE ≠ 4) ∧ (s.pdOn 2 = true) ∧ (2 ≤ slot.toNat) ∧ (slot.toNat ≤ 4)) ∧
    (∃ (slot : BitVec 4) (s : State), (s.roleMay [2] = true ∧ s.get SEC.LC_STAT.STATE ≠ 4) ∧ (s.pdOn 2 = true) ∧ (4 < slot.toNat)) ∧
    (∃ (slot : BitVec 4) (s : State), (slot.toNat < 8 ∧ s.getBit SYS.PWR_STAT.PD_ON 6 = true ∧ s.get SEC.LC_STAT.STATE ≠ 4) ∧ (s.pdOn 2 = true)) :=
  ⟨⟨true, (let s : State := st [(SEC.finalCal,0,0,0),(SEC.hostRole,0,0,2),(SEC.LC_STAT.STATE,0,0,2)]; { s with descs := [(21, { op := 1, inl := false, fence := false, irq := true, preempt := false, tag := 9, len := 1, w0 := 0, w1 := 0, w2 := 5, w3 := 0 })], calImage := [] }), by decide⟩,
   ⟨false, st [(SEC.hostRole,0,0,2),(SEC.LC_STAT.STATE,0,0,1)], by decide⟩,
   ⟨(let s : State := st [(SEC.finalFw,0,0,0)]; { s with descs := [(20, { op := 1, inl := false, fence := false, irq := true, preempt := false, tag := 9, len := 1, w0 := 0, w1 := 0, w2 := 0, w3 := 1 })], fwImage := [] }), by decide⟩,
   ⟨4, st [(SEC.hostRole,0,0,2),(SEC.LC_STAT.STATE,0,0,2)], by decide⟩,
   ⟨0, (let s : State := st [(SEC.finalCal,0,0,0),(SEC.hostRole,0,0,2),(SEC.LC_STAT.STATE,0,0,2)]; { s with descs := [(21, { op := 1, inl := false, fence := false, irq := true, preempt := false, tag := 9, len := 1, w0 := 0, w1 := 0, w2 := 5, w3 := 0 })], calImage := [] }), by decide⟩,
   ⟨4, st [(SEC.hostRole,0,0,2),(SEC.LC_STAT.STATE,0,0,2)], by decide⟩,
   ⟨5, st [(SEC.hostRole,0,0,2),(SEC.LC_STAT.STATE,0,0,2)], by decide⟩,
   ⟨0, (let s : State := st [(SEC.finalFw,0,0,0)]; { s with descs := [(20, { op := 1, inl := false, fence := false, irq := true, preempt := false, tag := 9, len := 1, w0 := 0, w1 := 0, w2 := 0, w3 := 1 })], fwImage := [] }), by decide⟩⟩

theorem test_witness_ImagesLifeCycleAndKeysTakeEffect_4 :
    (∃ (slot : BitVec 4) (s : State), (s.roleMay [2] = true ∧ s.get SEC.LC_STAT.STATE ≠ 4) ∧ (s.pdOn 2 = true) ∧ (slot = 0)) ∧
    (∃ (slot : BitVec 4) (s : State), (s.roleMay [2] = true ∧ s.get SEC.LC_STAT.STATE ≠ 4) ∧ (s.pdOn 2 = true) ∧ (slot = 1)) ∧
    (∃ (slot : BitVec 4) (s : State), (s.roleMay [2] = true ∧ s.get SEC.LC_STAT.STATE ≠ 4) ∧ (s.pdOn 2 = true) ∧ (1 < slot.toNat)) :=
  ⟨⟨0, (let s : State := st [(SEC.finalCal,0,0,0),(SEC.hostRole,0,0,2),(SEC.LC_STAT.STATE,0,0,2)]; { s with descs := [(21, { op := 1, inl := false, fence := false, irq := true, preempt := false, tag := 9, len := 1, w0 := 0, w1 := 0, w2 := 5, w3 := 0 })], calImage := [] }), by decide⟩,
   ⟨1, st [(SEC.hostRole,0,0,2),(SEC.LC_STAT.STATE,0,0,2)], by decide⟩,
   ⟨4, st [(SEC.hostRole,0,0,2),(SEC.LC_STAT.STATE,0,0,2)], by decide⟩⟩

theorem test_witness_SessionsBootAndTheDebugPort_1 :
    (∃ (s : State), (s.is SEC.lockZero = true) ∧ (s.is SEC.heldRead = true)) ∧
    (∃ (inForce : Fin 5) (s : State), (s.get SYS.rstPhase = 0 ∧ s.is SYS.fwRun = false ∧ s.is SYS.lowState = false ∧ s.getBit SYS.stepped 2 = true ∧ s.getBit SYS.RST_STAT.PD_FAIL 1 = false) ∧ (s.slotReason (s.get SEC.fwSlot) inForce = 0) ∧ (s.is SEC.fwPend = false)) ∧
    (∃ (inForce : Fin 5) (s : State), (s.get SYS.rstPhase = 0 ∧ s.is SYS.fwRun = false ∧ s.is SYS.lowState = false ∧ s.getBit SYS.stepped 2 = true ∧ s.getBit SYS.RST_STAT.PD_FAIL 1 = false) ∧ (s.slotReason (s.get SEC.fwSlot) inForce ≠ 0) ∧ (s.is SEC.fwPend = false)) ∧
    (∃ (pending : Fin 5) (s : State), (s.get SYS.rstPhase = 0 ∧ s.is SYS.fwRun = false ∧ s.is SYS.lowState = false ∧ s.getBit SYS.stepped 2 = true ∧ s.getBit SYS.RST_STAT.PD_FAIL 1 = false) ∧ (s.is SEC.fwPend = true) ∧ (s.get SYS.rstLvl ≠ 2) ∧ (s.slotReason (1 - s.get SEC.fwSlot) pending = 0)) ∧
    (∃ (s : State), (s.tapOn = true)) ∧
    (∃ (s : State), (s.is SEC.DBG_STAT.OPEN = false)) ∧
    (∃ (sp : DbgSpace) (write : Bool) (s : State), (s.dbgLevel < s.dbgNeeds sp write)) ∧
    (∃ (k : BitVec 6) (s : State), (2 ≤ s.dbgLevel ∧ k.toNat < 16)) :=
  ⟨⟨st [(SEC.lockZero,0,0,1),(SEC.heldRead,0,0,1)], by decide⟩,
   ⟨0, st [(SYS.rstPhase,0,0,0),(SYS.fwRun,0,0,0),(SYS.lowState,0,0,0),(SYS.stepped,0,0,6),(SYS.RST_STAT.PD_FAIL,0,0,0),(SEC.fwSlot,0,0,0),(SEC.slotSvn,0,0,5),(SEC.FW_STAT.FW_SVN,0,0,5),(SEC.fwPend,0,0,0)], by decide⟩,
   ⟨4, st [(SYS.rstPhase,0,0,0),(SYS.fwRun,0,0,0),(SYS.lowState,0,0,0),(SYS.stepped,0,0,6),(SYS.RST_STAT.PD_FAIL,0,0,0),(SEC.fwPend,0,0,0)], by decide⟩,
   ⟨0, st [(SYS.rstPhase,0,0,0),(SYS.rstLvl,0,0,1),(SYS.fwRun,0,0,0),(SYS.lowState,0,0,0),(SYS.stepped,0,0,6),(SYS.RST_STAT.PD_FAIL,0,0,0),(SEC.fwPend,0,0,1),(SEC.fwSlot,0,0,0),(SEC.FW_STAT.FW_SVN,0,0,0)], by decide⟩,
   ⟨st [(SEC.DBG_STAT.VREF,0,0,1),(SYS.lowState,0,0,0)], by decide⟩,
   ⟨st [(SEC.DBG_STAT.OPEN,0,0,0)], by decide⟩,
   ⟨.engReg 6 63, false, st [(SEC.DBG_STAT.OPEN,0,0,0)], by decide⟩,
   ⟨15, st [(SEC.DBG_STAT.OPEN,0,0,1),(SEC.DBG_STAT.LEVEL,0,0,2),(SYS.lowState,0,0,0)], by decide⟩⟩

theorem test_witness_SessionsBootAndTheDebugPort_2 :
    (∃ (eng : Fin 7) (s : State), (eng.val < 6 ∧ 2 ≤ s.dbgLevel ∧ s.is SEC.CAL_STAT.TBL_LOCK = false) ∧ (s.is ACT.chEn 0 = false) ∧ (s.is ACT.chEn 1 = false) ∧ (s.is ACT.chEn 7 = false)) ∧
    (∃ (eng : Fin 7) (s : State), (eng.val < 6 ∧ 2 ≤ s.dbgLevel ∧ s.is SEC.CAL_STAT.TBL_LOCK = false) ∧ (s.is ACT.chEn 0 = true ∨ s.is ACT.chEn 1 = true ∨ s.is ACT.chEn 7 = true)) ∧
    (∃ (addr : BitVec 26) (s : State), (2 ≤ s.dbgLevel ∧ addr.toNat < 0x01300000)) ∧
    (∃ (role : BitVec 3) (s : State), (s.pdOn 2 = true) ∧ (role.toNat < 1 ∨ 4 < role.toNat)) ∧
    (∃ (debug : Bool) (role : BitVec 3) (s : State), (s.pdOn 2 = true) ∧ (debug = false) ∧ (1 ≤ role.toNat) ∧ (role.toNat ≤ 4) ∧ (s.authBar false role.toNat 0 = none)) ∧
    (∃ (debug : Bool) (s : State), (s.is SEC.AUTH_STAT.LOCK_LEFT = false) ∧ (s.pdOn 2 = true) ∧ (s.is SEC.chalOn (ofBool debug) = false)) ∧
    (∃ (debug : Bool) (good : Bool) (s : State), (s.is SEC.AUTH_STAT.LOCK_LEFT = false) ∧ (s.pdOn 2 = true) ∧ (debug = false) ∧ (good = true) ∧ (s.is SEC.chalOn 0 = true) ∧ (s.now ≤ s.get SEC.chalT 0 + 24000000000) ∧ (s.authBar false (s.get SEC.chalRole 0) (s.get SEC.chalLvl 0) = none)) ∧
    (∃ (debug : Bool) (good : Bool) (s : State), (s.is SEC.AUTH_STAT.LOCK_LEFT = false) ∧ (s.pdOn 2 = true) ∧ (debug = false) ∧ (good = false) ∧ (s.is SEC.chalOn 0 = true) ∧ (s.now ≤ s.get SEC.chalT 0 + 24000000000) ∧ (s.authBar false (s.get SEC.chalRole 0) (s.get SEC.chalLvl 0) = none)) :=
  ⟨⟨5, st [(SEC.DBG_STAT.OPEN,0,0,1),(SEC.DBG_STAT.LEVEL,0,0,2),(SYS.lowState,0,0,0),(SEC.CAL_STAT.TBL_LOCK,0,0,0),(ACT.chEn,0,0,0),(ACT.chEn,1,0,0),(ACT.chEn,7,0,0)], by decide⟩,
   ⟨0, st [(SEC.DBG_STAT.OPEN,0,0,1),(SEC.DBG_STAT.LEVEL,0,0,2),(SYS.lowState,0,0,0),(SEC.CAL_STAT.TBL_LOCK,0,0,0),(ACT.chEn,7,0,1)], by decide⟩,
   ⟨0, st [(SEC.DBG_STAT.OPEN,0,0,1),(SEC.DBG_STAT.LEVEL,0,0,2),(SYS.lowState,0,0,0)], by decide⟩,
   ⟨0, st [(SEC.AUTH_STAT.LOCK_LEFT,0,0,0),(SEC.chalOn,1,0,0)], by decide⟩,
   ⟨false, 2, st [(SEC.LC_STAT.STATE,0,0,2),(SEC.KEY_STAT.ROLE_KEYS,0,0,7)], by decide⟩,
   ⟨false, st [(SEC.LC_STAT.STATE,0,0,2),(SEC.KEY_STAT.ROLE_KEYS,0,0,7)], by decide⟩,
   ⟨false, true, (let s : State := st [(SEC.AUTH_STAT.LOCK_LEFT,0,0,0),(SEC.chalOn,0,0,1),(SEC.chalT,0,0,0),(SEC.chalRole,0,0,2),(SEC.LC_STAT.STATE,0,0,2),(SEC.KEY_STAT.ROLE_KEYS,0,0,7)]; { s with now := 24000000000 }), by decide⟩,
   ⟨false, false, (let s : State := st [(SEC.AUTH_STAT.LOCK_LEFT,0,0,0),(SEC.chalOn,0,0,1),(SEC.chalT,0,0,0),(SEC.chalRole,0,0,2),(SEC.LC_STAT.STATE,0,0,2),(SEC.KEY_STAT.ROLE_KEYS,0,0,7)]; { s with now := 0 }), by decide⟩⟩

theorem test_witness_SessionsBootAndTheDebugPort_3 :
    (∃ (debug : Bool) (s : State), (s.pdOn 2 = true) ∧ (debug = true)) ∧
    (∃ (s : State), (s.is SEC.ROLE.OPEN = true) ∧ (s.get SEC.idleT + 400000000 * s.get SEC.ROLE_CFG.ROLE_TMO ≤ s.now)) ∧
    (∃ (s : State), (s.is SEC.ROLE.OPEN = false ∨ s.now < s.get SEC.idleT + 400000000 * s.get SEC.ROLE_CFG.ROLE_TMO)) ∧
    (∃ (s : State), (s.pdOn 2 = true) ∧ (s.lockLeft = 0)) ∧
    (∃ (s : State), (s.pdOn 2 = false ∨ s.lockLeft ≠ 0)) :=
  ⟨⟨true, st [(SEC.AUTH_STAT.LOCK_LEFT,0,0,0),(SEC.chalOn,1,0,0)], by decide⟩,
   ⟨{ st [(SEC.ROLE.OPEN,0,0,1)] with now := 10 ^ 15 }, by decide⟩,
   ⟨st [(SEC.LC_STAT.STATE,0,0,2),(SEC.KEY_STAT.ROLE_KEYS,0,0,7)], by decide⟩,
   ⟨st [(SEC.LC_STAT.STATE,0,0,2),(SEC.KEY_STAT.ROLE_KEYS,0,0,7)], by decide⟩,
   ⟨st [(SEC.lockRest,0,0,5)], by decide⟩⟩

theorem test_witness_PowerStatesAndDomainsTakeEffect_1 :
    (∃ (d : Desc) (s : State), (s.running 0 6 = some d) ∧ (s.powerCheck (d.byte 0) = none) ∧ (d.byte 0 = 1)) ∧
    (∃ (d : Desc) (s : State), (s.running 0 6 = some d) ∧ (s.powerCheck (d.byte 0) = none) ∧ (d.byte 0 = 2)) ∧
    (∃ (value : BitVec 6) (s : State), (s.pdOn 2 = true) ∧ (s.is SYS.PWR_CTL.LOCK = false) ∧ (s.pdEnOk value.toNat = true)) ∧
    (∃ (s : State), (s.get SYS.PWR_STAT.STATE = 1 ∧ s.tractionOn = [] ∧ s.disRunning = false)) ∧
    (∃ (s : State), (s.get SYS.PWR_STAT.STATE = 3)) ∧
    (∃ (s : State), (s.unparkSpeed = true) ∧ (s.get SYS.PWR_STAT.STATE = 2)) ∧
    (∃ (s : State), (s.unparkSpeed = false)) ∧
    (∃ (pd : Fin 9) (s : State), (3 ≤ pd.val ∧ pd.val ≤ 6 ∧ s.get SYS.rstPhase = 1 ∧ s.getBit SYS.PWR_STAT.PD_ON 2 = true ∧ s.getBit SYS.PWR_STAT.PD_ON pd = false ∧ s.getBit SYS.PWR_CTL.PD_EN (pd - 3) = true ∧ s.getBit SYS.boMask pd = false ∧ s.getBit SYS.RST_STAT.PD_FAIL (pd - 1) = false)) :=
  ⟨⟨{ op := 6, inl := true, fence := false, irq := true, preempt := false, tag := 9, len := 4, w0 := 1, w1 := 0, w2 := 0, w3 := 0 }, (let s : State := st [(SYS.PWR_STAT.STATE,0,0,0),(BL.wind,0,0,0),(BL.wind,1,0,0),(ACT.chEn,0,0,0),(ACT.chEn,1,0,0),(ACT.chEn,7,0,0)]; { s with descs := [(0, { op := 6, inl := true, fence := false, irq := true, preempt := false, tag := 9, len := 4, w0 := 1, w1 := 0, w2 := 0, w3 := 0 })] }), by decide⟩,
   ⟨{ op := 6, inl := true, fence := false, irq := true, preempt := false, tag := 9, len := 4, w0 := 2, w1 := 0, w2 := 0, w3 := 0 }, (let s : State := st ([(SYS.PWR_STAT.STATE,0,0,0),(BL.DIS_STAT.STATE,0,0,0),(SEC.DBG_STAT.HALT,0,0,0),(SEC.LC_STAT.LC_PEND,0,0,0),(ACT.job,0,0,0),(ACT.jobStep,0,0,0),(SEC.finalFw,0,0,0),(SEC.finalCal,0,0,0)] ++ (List.range 8).map fun k => (ACT.chEn,k,0,0)); { s with descs := [(0, { op := 6, inl := true, fence := false, irq := true, preempt := false, tag := 9, len := 4, w0 := 2, w1 := 0, w2 := 0, w3 := 0 })] }), by decide⟩,
   ⟨0x1F, st ([(SYS.PWR_CTL.LOCK,0,0,0),(SYS.PWR_STAT.STATE,0,0,0)] ++ (List.range 8).map (fun k => (ACT.chEn,k,0,0)) ++ (List.range 16).map fun k => (BL.RS_CFG.EN,k,0,0)), by decide⟩,
   ⟨st [(SYS.PWR_STAT.STATE,0,0,1),(BL.DIS_STAT.STATE,0,0,0),(ACT.chEn,0,0,0),(ACT.chEn,1,0,0),(ACT.chEn,7,0,0)], by decide⟩,
   ⟨st [(SYS.PWR_STAT.STATE,0,0,3)], by decide⟩,
   ⟨st [(SYS.PWR_STAT.STATE,0,0,2),(SYS.PWR_CTL.AUTO_UNPARK,0,0,1),(ACT.chEn,0,0,1),(SQ.TRAV_SPD.W_CORNER,0,0,0),(POS.offSpd,0,0,0x7FFF)], by decide⟩,
   ⟨st [(SYS.PWR_CTL.AUTO_UNPARK,0,0,0)], by decide⟩,
   ⟨6, st [(SYS.rstPhase,0,0,1),(SYS.PWR_STAT.PD_ON,0,0,7),(SYS.PWR_CTL.PD_EN,0,0,63),(SYS.boMask,0,0,0),(SYS.RST_STAT.PD_FAIL,0,0,0)], by decide⟩⟩

theorem test_witness_PowerStatesAndDomainsTakeEffect_2 :
    (∃ (vlv : BitVec 12), (vlv.toNat < 900)) ∧
    (∃ (vlv : BitVec 12), (900 ≤ vlv.toNat)) ∧
    (∃ (vlv : BitVec 12), (1600 < vlv.toNat)) ∧
    (∃ (vlv : BitVec 12), (vlv.toNat ≤ 1600)) ∧
    (∃ (group : Fin 3) (s : State), (s.is SYS.lowState = false) ∧ (group = 2)) ∧
    (∃ (group : Fin 3) (s : State), (s.is SYS.lowState = false) ∧ (group = 1) ∧ (s.get SYS.PWR_STAT.PD_ON &&& 0x180 ≠ 0)) ∧
    (∃ (group : Fin 3) (s : State), (group.val ≠ 1 ∧ s.get SYS.rstPhase = 3 ∧ s.get SYS.boMask = 0x7C ∧ s.is SYS.rstnLow = false ∧ s.is SYS.lowState = false) ∧ (group = 0)) ∧
    (∃ (s : State), (s.get SYS.lowState = 2) ∧ (s.get SYS.boMask = 0)) :=
  ⟨⟨899, by decide⟩,
   ⟨900, by decide⟩,
   ⟨1601, by decide⟩,
   ⟨1600, by decide⟩,
   ⟨2, st [(SYS.lowState,0,0,0)], by decide⟩,
   ⟨1, st [(SYS.lowState,0,0,0),(SYS.PWR_STAT.PD_ON,0,0,0x180)], by decide⟩,
   ⟨0, st [(SYS.rstPhase,0,0,3),(SYS.boMask,0,0,0x7C),(SYS.rstnLow,0,0,0),(SYS.lowState,0,0,0)], by decide⟩,
   ⟨st [(SYS.lowState,0,0,2),(SYS.boMask,0,0,0)], by decide⟩⟩

theorem test_witness_PowerStatesAndDomainsTakeEffect_3 :
    (∃ (s : State), (s.get SYS.lowState = 0)) ∧
    (∃ (s : State), (s.get SYS.lowState = 1) ∧ (s.is SYS.WAKE_CFG.ALARM = true) ∧ (s.get SYS.lowT + 400000000 * s.get SYS.WAKE_CFG.ALARM ≤ s.now)) ∧
    (∃ (s : State), (s.is SYS.WAKE_CFG.ALARM = false ∨ s.now < s.get SYS.lowT + 400000000 * s.get SYS.WAKE_CFG.ALARM)) ∧
    (∃ (s : State), (s.is SYS.lowState = false) ∧ (s.evInfo.length < 64)) ∧
    (∃ (s : State), (s.is DLI.powered = false)) ∧
    (∃ (target : BitVec 2) (s : State), (s.pdOn 2 = true) ∧ (s.get SYS.PWR_STAT.STATE = 2) ∧ (target = 0)) ∧
    (∃ (target : BitVec 2) (s : State), (s.pdOn 2 = true) ∧ (s.powerCheck target.toNat = none) ∧ (target = 1)) ∧
    (∃ (target : BitVec 2) (s : State), (s.pdOn 2 = true) ∧ (s.powerCheck target.toNat = none) ∧ (target = 3)) :=
  ⟨⟨st [(SYS.lowState,0,0,0)], by decide⟩,
   ⟨{ st [(SYS.lowState,0,0,1),(SYS.WAKE_CFG.ALARM,0,0,5)] with now := 10 ^ 13 }, by decide⟩,
   ⟨st [(SYS.PWR_STAT.STATE,0,0,1),(BL.DIS_STAT.STATE,0,0,0),(ACT.chEn,0,0,0),(ACT.chEn,1,0,0),(ACT.chEn,7,0,0)], by decide⟩,
   ⟨st [(SYS.lowState,0,0,0)], by decide⟩,
   ⟨st [(DLI.powered,0,0,0)], by decide⟩,
   ⟨0, st [(SYS.PWR_STAT.STATE,0,0,2)], by decide⟩,
   ⟨1, st [(SYS.PWR_STAT.STATE,0,0,0),(BL.wind,0,0,0),(BL.wind,1,0,0),(ACT.chEn,0,0,0),(ACT.chEn,1,0,0),(ACT.chEn,7,0,0)], by decide⟩,
   ⟨3, st ([(SYS.PWR_STAT.STATE,0,0,0),(BL.DIS_STAT.STATE,0,0,0),(SEC.DBG_STAT.HALT,0,0,0),(SEC.LC_STAT.LC_PEND,0,0,0),(ACT.job,0,0,0),(ACT.jobStep,0,0,0),(SEC.finalFw,0,0,0),(SEC.finalCal,0,0,0)] ++ (List.range 8).map fun k => (ACT.chEn,k,0,0)), by decide⟩⟩

theorem test_witness_PowerStatesAndDomainsTakeEffect_4 :
    (∃ (s : State), (s.pdOn 2 = true) ∧ (s.is SYS.PWR_CTL.LOCK = true)) ∧
    (∃ (value : BitVec 6) (s : State), (s.pdOn 2 = true) ∧ (s.is SYS.PWR_CTL.LOCK = false) ∧ (s.pdEnOk value.toNat = false)) :=
  ⟨⟨st [(SYS.PWR_CTL.LOCK,0,0,1)], by decide⟩,
   ⟨0, st [(SYS.PWR_STAT.STATE,0,0,1),(BL.DIS_STAT.STATE,0,0,0),(ACT.chEn,0,0,0),(ACT.chEn,1,0,0),(ACT.chEn,7,0,0)], by decide⟩⟩

theorem test_witness_ClocksTimeAndCairnsTakeEffect_1 :
    (∃ (clk : Fin 8) (c : Nat) (s : State), (clk.val = 4) ∧ (c < 4) ∧ (s.get CAN.STATUS.STATE c < 4)) ∧
    (∃ (s : State), (s.is SYS.pllDown = false) ∧ (s.get SYS.AS_STAT.STATE ≠ 0)) ∧
    (∃ (s : State), (s.is SYS.pllDown = true) ∧ (s.is SYS.xtalBad = false)) ∧
    (∃ (s : State), (s.is SYS.pllDown = true) ∧ (s.is SYS.xtalBad = true)) ∧
    (∃ (clk : Fin 8), (clk.val = 0)) ∧
    (∃ (clk : Fin 8), (clk.val = 1)) ∧
    (∃ (clk : Fin 8), (clk.val = 2)) ∧
    (∃ (clk : Fin 8), (clk.val = 3)) :=
  ⟨⟨4, 3, st [(CAN.STATUS.STATE,3,0,3)], by decide⟩,
   ⟨st [(SYS.pllDown,0,0,0),(SYS.AS_STAT.STATE,0,0,2)], by decide⟩,
   ⟨st [(SYS.pllDown,0,0,1),(SYS.xtalBad,0,0,0),(SQ.STATUS.JOINED,0,0,0)], by decide⟩,
   ⟨st [(SYS.pllDown,0,0,1),(SYS.xtalBad,0,0,1)], by decide⟩,
   ⟨0, by decide⟩,
   ⟨1, by decide⟩,
   ⟨2, by decide⟩,
   ⟨3, by decide⟩⟩

theorem test_witness_ClocksTimeAndCairnsTakeEffect_2 :
    (∃ (clk : Fin 8), (clk.val = 5)) ∧
    (∃ (s : State), (s.is SYS.CAIRN_CMD.ARM = true) ∧ (s.get SYS.CAIRN_AT.AT 0 + 2 ^ 32 * s.get SYS.CAIRN_AT.AT 1 ≤ s.now)) ∧
    (∃ (s : State), (s.is SYS.CAIRN_CMD.ARM = false ∨ s.now < s.get SYS.CAIRN_AT.AT 0 + 2 ^ 32 * s.get SYS.CAIRN_AT.AT 1)) ∧
    (∃ (s : State), (s.is SYS.cairnWait = true ∧ s.get SYS.cairnT + 80 ≤ s.now)) ∧
    (∃ (eng : Fin 16) (s : State), ((∀ k < 16, k = eng.val ∨ s.getBit SYS.barrier k = true))) ∧
    (∃ (eng : Fin 16) (s : State), ((∃ k < 16, k ≠ eng.val ∧ s.getBit SYS.barrier k = false))) ∧
    (∃ (s : State), (s.takesSync = false)) ∧
    (∃ (s : State), (s.takesSync = true) ∧ (s.get SYS.AS_STAT.STATE ≠ 1) ∧ (s.get SYS.AS_STAT.STATE ≠ 2)) ∧
    (∃ (s : State), (s.takesSync = true) ∧ (s.get SYS.AS_STAT.STATE = 2)) :=
  ⟨⟨5, by decide⟩,
   ⟨(let s : State := st [(SYS.CAIRN_CMD.ARM,0,0,1),(SYS.CAIRN_AT.AT,0,0,100),(SYS.CAIRN_AT.AT,1,0,0)]; { s with now := 100 }), by decide⟩,
   ⟨(let s : State := st [(SYS.CAIRN_CMD.ARM,0,0,1),(SYS.CAIRN_AT.AT,0,0,101),(SYS.CAIRN_AT.AT,1,0,0)]; { s with now := 100 }), by decide⟩,
   ⟨(let s : State := st [(SYS.cairnWait,0,0,1),(SYS.cairnT,0,0,20)]; { s with now := 100 }), by decide⟩,
   ⟨15, st [(SYS.barrier,0,0,0x7FFF)], by decide⟩,
   ⟨0, st [(SYS.barrier,0,0,0)], by decide⟩,
   ⟨st [(SYS.AS_CTL.DISC_EN,0,0,0)], by decide⟩,
   ⟨st [(SYS.AS_CTL.DISC_EN,0,0,1),(ETH.AS_CFG.AS_EN,0,0,1),(ETH.PSTAT.LINK,0,0,1),(SYS.AS_STAT.STATE,0,0,3)], by decide⟩,
   ⟨st [(SYS.AS_CTL.DISC_EN,0,0,1),(ETH.AS_CFG.AS_EN,0,0,1),(ETH.PSTAT.LINK,0,0,1),(SYS.AS_STAT.STATE,0,0,2)], by decide⟩⟩

theorem test_witness_ClocksTimeAndCairnsTakeEffect_3 :
    (∃ (offset : Int) (s : State), (s.takesSync = true) ∧ (s.get SYS.AS_STAT.STATE = 1) ∧ (s.anyEnabled = false) ∧ (s.get ACT.job ≠ 4) ∧ (1000 * s.get SYS.AS_CTL.STEP_TH < 25 * offset.natAbs)) ∧
    (∃ (s : State), (s.get SYS.AS_STAT.STATE = 1) ∧ (8 ≤ s.get SYS.asN)) ∧
    (∃ (s : State), (s.get SYS.asN < 8)) ∧
    (∃ (s : State), (s.get SYS.AS_STAT.STATE = 1 ∨ s.get SYS.AS_STAT.STATE = 2) ∧ (s.get SYS.asT + 40000000 * s.get SYS.AS_STAT.SYNC_TMO ≤ s.now)) ∧
    (∃ (s : State), (s.now < s.get SYS.asT + 40000000 * s.get SYS.AS_STAT.SYNC_TMO)) ∧
    (∃ (s : State), (s.pdOn 2 = true) ∧ (s.is SYS.pllDown = true)) ∧
    (∃ (s : State), (s.pdOn 2 = true) ∧ (s.is SYS.pllDown = false) ∧ (s.is SYS.cairnWait = false) ∧ (s.get SYS.cairnT + 80 ≤ s.now)) ∧
    (∃ (s : State), (s.pdOn 2 = true) ∧ (s.is SYS.pllDown = false) ∧ (s.is SYS.cairnOn = true) ∧ (s.now < s.get SYS.cairnT + 80)) :=
  ⟨⟨4000000000, st ([(SYS.AS_CTL.DISC_EN,0,0,1),(ETH.AS_CFG.AS_EN,0,0,1),(ETH.PSTAT.LINK,0,0,1),(SYS.AS_STAT.STATE,0,0,1),(ACT.job,0,0,0)] ++ (List.range 8).map fun k => (ACT.chEn,k,0,0)), by decide⟩,
   ⟨st [(SYS.AS_STAT.STATE,0,0,1),(SYS.asN,0,0,8)], by decide⟩,
   ⟨st [(SYS.AS_STAT.STATE,0,0,1),(SYS.asN,0,0,7)], by decide⟩,
   ⟨{ st [(SYS.pllDown,0,0,0),(SYS.AS_STAT.STATE,0,0,2)] with now := 10 ^ 13 }, by decide⟩,
   ⟨st [(SYS.pllDown,0,0,0),(SYS.AS_STAT.STATE,0,0,2)], by decide⟩,
   ⟨st [(SYS.pllDown,0,0,1),(SYS.xtalBad,0,0,0),(SQ.STATUS.JOINED,0,0,0)], by decide⟩,
   ⟨(let s : State := st [(SYS.pllDown,0,0,0),(SYS.cairnWait,0,0,0),(SYS.cairnT,0,0,20)]; { s with now := 100 }), by decide⟩,
   ⟨(let s : State := st [(SYS.pllDown,0,0,0),(SYS.cairnOn,0,0,1),(SYS.cairnT,0,0,21),(SYS.CAIRN_STAT.NUM,0,0,7),(SYS.cairnWait,0,0,0)]; { s with now := 100 }), by decide⟩⟩

theorem test_witness_ClocksTimeAndCairnsTakeEffect_4 : ∃ (sel : BitVec 4) (s : State), (s.pitAllowed = true ∧ sel = 1) ∧ (s.pdOn 2 = true) :=
  ⟨1, st [(BL.PIT_STAT.ARMED,0,0,0),(SEC.LC_STAT.STATE,0,0,0),(SEC.hostRole,0,0,1)], by decide⟩

theorem test_witness_SnapshotsCountersAndSamples_1 :
    (∃ (d : Desc) (s : State), (s.running 0 1 = some d) ∧ (s.is SYS.pllDown = false) ∧ (2 ≤ d.byte 0) ∧ (d.byte 0 ≤ 16) ∧ (10 ≤ d.byte 2 + 256 * d.byte 3)) ∧
    (∃ (d : Desc) (s : State), (s.running 0 1 = some d) ∧ (s.is SYS.pllDown = false) ∧ (d.byte 0 = 1) ∧ (10 ≤ d.byte 2 + 256 * d.byte 3)) ∧
    (∃ (d : Desc) (s : State), (s.running 0 1 = some d) ∧ (s.is SYS.pllDown = true) ∧ (1 ≤ d.byte 0) ∧ (d.byte 0 ≤ 16) ∧ (10 ≤ d.byte 2 + 256 * d.byte 3)) ∧
    (∃ (d : Desc) (s : State), (s.running 0 1 = some d) ∧ (16 < d.byte 0 ∨ (1 ≤ d.byte 0 ∧ d.byte 2 + 256 * d.byte 3 < 10))) ∧
    (∃ (d : Desc) (s : State), (s.is RING.snapLeft = true ∧ s.running 0 1 = some d) ∧ (s.get RING.snapAt ≤ s.now) ∧ (s.get RING.snapLeft = 1)) ∧
    (∃ (d : Desc) (s : State), (s.is RING.snapLeft = true ∧ s.running 0 1 = some d) ∧ (s.get RING.snapAt ≤ s.now) ∧ (1 < s.get RING.snapLeft)) ∧
    (∃ (d : Desc) (s : State), (s.is RING.snapLeft = true ∧ s.running 0 1 = some d) ∧ (s.now < s.get RING.snapAt)) ∧
    (∃ (d : Desc) (s : State), (s.running 23 1 = some d) ∧ (d.len.toNat % 512 = 0)) :=
  ⟨⟨{ op := 1, inl := true, fence := false, irq := true, preempt := false, tag := 9, len := 4, w0 := 0x000A0010, w1 := 0, w2 := 0, w3 := 0 }, (let s : State := st [(SYS.pllDown,0,0,0)]; { s with descs := [(0, { op := 1, inl := true, fence := false, irq := true, preempt := false, tag := 9, len := 4, w0 := 0x000A0010, w1 := 0, w2 := 0, w3 := 0 })] }), by decide⟩,
   ⟨{ op := 1, inl := true, fence := false, irq := true, preempt := false, tag := 9, len := 4, w0 := 0x000A0001, w1 := 0, w2 := 0, w3 := 0 }, (let s : State := st [(SYS.pllDown,0,0,0)]; { s with descs := [(0, { op := 1, inl := true, fence := false, irq := true, preempt := false, tag := 9, len := 4, w0 := 0x000A0001, w1 := 0, w2 := 0, w3 := 0 })] }), by decide⟩,
   ⟨{ op := 1, inl := true, fence := false, irq := true, preempt := false, tag := 9, len := 4, w0 := 0x000A0010, w1 := 0, w2 := 0, w3 := 0 }, (let s : State := st [(SYS.pllDown,0,0,1)]; { s with descs := [(0, { op := 1, inl := true, fence := false, irq := true, preempt := false, tag := 9, len := 4, w0 := 0x000A0010, w1 := 0, w2 := 0, w3 := 0 })] }), by decide⟩,
   ⟨{ op := 1, inl := true, fence := false, irq := true, preempt := false, tag := 9, len := 4, w0 := 0x00090001, w1 := 0, w2 := 0, w3 := 0 }, (let s : State := st [(SYS.pllDown,0,0,1)]; { s with descs := [(0, { op := 1, inl := true, fence := false, irq := true, preempt := false, tag := 9, len := 4, w0 := 0x00090001, w1 := 0, w2 := 0, w3 := 0 })] }), by decide⟩,
   ⟨{ op := 1, inl := true, fence := false, irq := true, preempt := false, tag := 9, len := 4, w0 := 0x000A0010, w1 := 0, w2 := 0, w3 := 0 }, (let s : State := st [(RING.snapLeft,0,0,1),(RING.snapAt,0,0,100)]; { s with descs := [(0, { op := 1, inl := true, fence := false, irq := true, preempt := false, tag := 9, len := 4, w0 := 0x000A0010, w1 := 0, w2 := 0, w3 := 0 })], now := 100 }), by decide⟩,
   ⟨{ op := 1, inl := true, fence := false, irq := true, preempt := false, tag := 9, len := 4, w0 := 0x000A0010, w1 := 0, w2 := 0, w3 := 0 }, (let s : State := st [(RING.snapLeft,0,0,15),(RING.snapAt,0,0,100)]; { s with descs := [(0, { op := 1, inl := true, fence := false, irq := true, preempt := false, tag := 9, len := 4, w0 := 0x000A0010, w1 := 0, w2 := 0, w3 := 0 })], now := 100 }), by decide⟩,
   ⟨{ op := 1, inl := true, fence := false, irq := true, preempt := false, tag := 9, len := 4, w0 := 0x000A0010, w1 := 0, w2 := 0, w3 := 0 }, (let s : State := st [(RING.snapLeft,0,0,15),(RING.snapAt,0,0,101)]; { s with descs := [(0, { op := 1, inl := true, fence := false, irq := true, preempt := false, tag := 9, len := 4, w0 := 0x000A0010, w1 := 0, w2 := 0, w3 := 0 })], now := 100 }), by decide⟩,
   ⟨{ op := 1, inl := false, fence := false, irq := true, preempt := false, tag := 9, len := 512, w0 := 0, w1 := 0, w2 := 7, w3 := 0 }, (let s : State := st []; { s with descs := [(23, { op := 1, inl := false, fence := false, irq := true, preempt := false, tag := 9, len := 512, w0 := 0, w1 := 0, w2 := 7, w3 := 0 })] }), by decide⟩⟩

theorem test_witness_SnapshotsCountersAndSamples_2 :
    (∃ (d : Desc) (s : State), (s.running 23 1 = some d) ∧ (d.len.toNat % 512 ≠ 0)) ∧
    (∃ (n : Fin 32) (s : State), (s.is PERF.CTL.EN = true ∧ s.is PERF.stopped = false ∧ s.is PERF.CNT_SEL.CEN n = true ∧ s.perfValue n = 2 ^ 48 - 1) ∧ (s.getBit PERF.INT_EN.INT n = true)) ∧
    (∃ (core : Fin 2) (idle : Bool) (s : State), (s.is PERF.SMP_CFG.SMP_EN = true ∧ s.getBit PERF.SMP_CFG.CORE core = true) ∧ (idle = true)) ∧
    (∃ (core : Fin 2) (idle : Bool) (s : State), (s.is PERF.SMP_CFG.SMP_EN = true ∧ s.getBit PERF.SMP_CFG.CORE core = true) ∧ (idle = false)) ∧
    (∃ (s : State), (s.pdOn 2 = true) ∧ (s.is PERF.CTL.EN = false)) :=
  ⟨⟨{ op := 1, inl := false, fence := false, irq := true, preempt := false, tag := 9, len := 511, w0 := 0, w1 := 0, w2 := 7, w3 := 0 }, (let s : State := st []; { s with descs := [(23, { op := 1, inl := false, fence := false, irq := true, preempt := false, tag := 9, len := 511, w0 := 0, w1 := 0, w2 := 7, w3 := 0 })] }), by decide⟩,
   ⟨31, st [(PERF.CTL.EN,0,0,1),(PERF.stopped,0,0,0),(PERF.CNT_SEL.CEN,31,0,1),(PERF.CNT_LO.CNT,31,0,0xFFFFFFFF),(PERF.cntHi,31,0,0xFFFF),(PERF.INT_EN.INT,0,0,0x80000000)], by decide⟩,
   ⟨1, true, st [(PERF.SMP_CFG.SMP_EN,0,0,1),(PERF.SMP_CFG.CORE,0,0,3)], by decide⟩,
   ⟨0, false, st [(PERF.SMP_CFG.SMP_EN,0,0,1),(PERF.SMP_CFG.CORE,0,0,3)], by decide⟩,
   ⟨(let s : State := st [(SYS.pllDown,0,0,0)]; { s with descs := [(0, { op := 1, inl := true, fence := false, irq := true, preempt := false, tag := 9, len := 4, w0 := 0x000A0010, w1 := 0, w2 := 0, w3 := 0 })] }), by decide⟩⟩

theorem test_witness_ResetSourcesStagesAndBlockResets_1 :
    (∃ (s : State), (s.get SYS.lowState = 2)) ∧
    (∃ (s : State), (s.get SYS.lowState ≠ 2)) ∧
    (∃ (s : State), (s.get SYS.rstPhase = 3) ∧ (s.get SYS.boMask = 0) ∧ (s.is SYS.lowState = false)) ∧
    (∃ (d : Desc) (s : State), (s.running 0 7 = some d) ∧ (d.byte 0 = 1) ∧ (s.commandCheck 1 7 (d.byte 3 % 2 == 1) = none) ∧ (s.get SYS.rstPhase = 1)) ∧
    (∃ (a : Nat) (s : State), (s.command true 7 = some a) ∧ (a % 256 = 1) ∧ (s.commandCheck 1 8 false = none) ∧ (s.get SYS.rstPhase = 1)) ∧
    (∃ (s : State), (s.get SYS.blkT + 400 * s.get SYS.RST_CTL.BLK_TMO ≤ s.now) ∧ (s.is SYS.blkOn = true)) ∧
    (∃ (s : State), (s.get SYS.blkT + 400 * s.get SYS.RST_CTL.BLK_TMO ≤ s.now) ∧ (s.is SYS.blkOn = false)) ∧
    (∃ (core : Fin 2) (s : State), (s.is SEC.DBG_STAT.HALT = false ∧ s.is SYS.fwRun = true ∧ s.get SYS.rstPhase = 1 ∧ s.get SYS.RST_MAP.WD_HC ∈ [1, 2] ∧ s.get SYS.wdT core + 400000 * s.get SYS.WD_CFG.WD_TMO ≤ s.now)) :=
  ⟨⟨st [(SYS.lowState,0,0,2)], by decide⟩,
   ⟨st [(SYS.lowState,0,0,1)], by decide⟩,
   ⟨st [(SYS.rstPhase,0,0,3),(SYS.boMask,0,0,0),(SYS.lowState,0,0,0)], by decide⟩,
   ⟨{ op := 7, inl := true, fence := false, irq := true, preempt := false, tag := 9, len := 4, w0 := 1, w1 := 0, w2 := 0, w3 := 0 }, (let s : State := st [(SYS.RST_MAP.HOST,0,0,1),(SYS.rstPhase,0,0,1)]; { s with descs := [(0, { op := 7, inl := true, fence := false, irq := true, preempt := false, tag := 9, len := 4, w0 := 1, w1 := 0, w2 := 0, w3 := 0 })] }), by decide⟩,
   ⟨1, st [(BL.netBusy,0,0,1),(BL.netOp,0,0,7),(BL.netArg,0,0,1),(SYS.RST_MAP.NET,0,0,1),(SYS.rstPhase,0,0,1)], by decide⟩,
   ⟨{ st [(SYS.blkOn,0,0,1),(SYS.RST_STAT.BLK_SRC,0,0,0x1C),(SYS.blkBy,0,0,7)] with now := 10 ^ 13 }, by decide⟩,
   ⟨{ st [(SYS.lowState,0,0,2)] with now := 10 ^ 13 }, by decide⟩,
   ⟨1, { st [(SEC.DBG_STAT.HALT,0,0,0),(SYS.fwRun,0,0,1),(SYS.rstPhase,0,0,1),(SYS.RST_MAP.WD_HC,0,0,1)] with now := 10 ^ 13 }, by decide⟩⟩

theorem test_witness_ResetSourcesStagesAndBlockResets_2 :
    (∃ (engine : Fin 7) (stopped : Bool) (s : State), ((if stopped then s.is CE.stop engine && decide (s.get CE.stopT engine + 400000 ≤ s.now) else decide (s.get SYS.WD_CFG.WD_ENG ≤ s.get CE.ovRun engine)) = true ∧ s.is SEC.DBG_STAT.HALT = false ∧ (engine.val < 4 → s.is CE.RP_STAT.RP_FAULT (2 * (engine / 2)) = false) ∧ s.get SYS.rstPhase = 1) ∧ (s.get SYS.RST_MAP.WD_ENG ∈ [1, 2])) ∧
    (∃ (engine : Fin 7) (stopped : Bool) (s : State), ((if stopped then s.is CE.stop engine && decide (s.get CE.stopT engine + 400000 ≤ s.now) else decide (s.get SYS.WD_CFG.WD_ENG ≤ s.get CE.ovRun engine)) = true ∧ s.is SEC.DBG_STAT.HALT = false ∧ (engine.val < 4 → s.is CE.RP_STAT.RP_FAULT (2 * (engine / 2)) = false) ∧ s.get SYS.rstPhase = 1) ∧ (s.get SYS.RST_MAP.WD_ENG = 3) ∧ (engine.val < 4) ∧ (s.is SYS.blkOn = false)) ∧
    (∃ (bind : Option (Fin 8)) (s : State), (s.get SYS.rstPhase = 1 ∧ s.get SYS.RST_MAP.BELAY ∈ [1, 2]) ∧ (bind = none) ∧ (s.is BL.STATUS.CI_LOST = true) ∧ (s.get BL.ciT + 400000 * s.get SYS.RST_CTL.BL_RST_MS ≤ s.now)) ∧
    (∃ (level : BitVec 2) (warm : Bool) (debug : Bool) (s : State), (s.pdOn 2 = true) ∧ (level = 1) ∧ (s.commandCheck 1 (if debug then 9 else 7) warm = none) ∧ (s.get SYS.rstPhase = 1)) ∧
    (∃ (level : BitVec 2) (warm : Bool) (source : BitVec 8) (inst : BitVec 8) (debug : Bool) (s : State), (s.pdOn 2 = true) ∧ (level = 3) ∧ (s.commandCheck 3 (if debug then 9 else 7) warm = none) ∧ (s.blkCheck source.toNat inst.toNat = .ok) ∧ (s.is SYS.blkOn = false)) ∧
    (∃ (s : State), (s.get SYS.rstPhase = 2) ∧ (s.get SYS.stageEnd ≤ s.now)) ∧
    (∃ (s : State), (s.get SYS.rstPhase ≠ 2 ∨ s.now < s.get SYS.stageEnd)) ∧
    (∃ (core : Fin 2) (key : BitVec 16) (s : State), (s.pdOn 2 = true) ∧ (key = 0x5A5A) ∧ (s.get SYS.wdSeq core = 0)) :=
  ⟨⟨6, true, { st [(CE.stop,6,0,1),(SEC.DBG_STAT.HALT,0,0,0),(SYS.rstPhase,0,0,1),(SYS.RST_MAP.WD_ENG,0,0,2)] with now := 10 ^ 13 }, by decide⟩,
   ⟨3, true, { st [(CE.stop,3,0,1),(CE.RP_STAT.RP_FAULT,2,0,0),(SEC.DBG_STAT.HALT,0,0,0),(SYS.rstPhase,0,0,1),(SYS.RST_MAP.WD_ENG,0,0,3),(SYS.blkOn,0,0,0)] with now := 10 ^ 13 }, by decide⟩,
   ⟨none, { st [(SYS.rstPhase,0,0,1),(SYS.RST_MAP.BELAY,0,0,2),(BL.STATUS.CI_LOST,0,0,1)] with now := 10 ^ 13 }, by decide⟩,
   ⟨1, false, false, st [(SYS.RST_MAP.HOST,0,0,1),(SYS.rstPhase,0,0,1)], by decide⟩,
   ⟨3, false, 0x12, 4, false, st [(SYS.RST_MAP.HOST,0,0,1),(SYS.rstPhase,0,0,1),(SYS.blkOn,0,0,0)], by decide⟩,
   ⟨st [(SYS.rstPhase,0,0,2),(SYS.rstLvl,0,0,1),(SYS.rstSrc,0,0,7)], by decide⟩,
   ⟨st [(SYS.lowState,0,0,2)], by decide⟩,
   ⟨1, 0x5A5A, st [(SYS.wdSeq,1,0,0)], by decide⟩⟩

theorem test_witness_ResetSourcesStagesAndBlockResets_3 :
    (∃ (core : Fin 2) (key : BitVec 16) (s : State), (s.pdOn 2 = true) ∧ (key = 0xA5A5) ∧ (s.get SYS.wdSeq core = 1)) ∧
    (∃ (key : BitVec 16) (s : State), (s.pdOn 2 = true) ∧ (key ≠ 0x5A5A) ∧ (key ≠ 0xA5A5) ∧ (s.is SEC.DBG_STAT.HALT = false) ∧ (s.get SYS.rstPhase = 1) ∧ (s.get SYS.RST_MAP.WD_HC = 1)) :=
  ⟨⟨0, 0xA5A5, st [(SYS.wdSeq,0,0,1)], by decide⟩,
   ⟨0, st [(SEC.DBG_STAT.HALT,0,0,0),(SYS.rstPhase,0,0,1),(SYS.RST_MAP.WD_HC,0,0,1)], by decide⟩⟩

theorem test_witness_StartUpStepsAndBelayStart_1 :
    (∃ (copyA : Bool) (copyB : Bool) (whole : Bool) (s : State), (s.get SYS.rstPhase = 0 ∧ s.get SYS.rstLvl = 0 ∧ s.is SYS.trimOk = false ∧ s.is SYS.lowState = false) ∧ (whole = true) ∧ (copyA = true ∨ copyB = true)) ∧
    (∃ (copyA : Bool) (copyB : Bool) (whole : Bool) (s : State), (s.get SYS.rstPhase = 0 ∧ s.get SYS.rstLvl = 0 ∧ s.is SYS.trimOk = false ∧ s.is SYS.lowState = false) ∧ (whole = true) ∧ (copyA = false) ∧ (copyB = false)) ∧
    (∃ (whole : Bool) (s : State), (s.get SYS.rstPhase = 0 ∧ s.get SYS.rstLvl = 0 ∧ s.is SYS.trimOk = false ∧ s.is SYS.lowState = false) ∧ (whole = false)) ∧
    (∃ (storeGood : Bool) (s : State), (s.getBit SYS.PWR_STAT.PD_ON 1 = true ∧ s.is BL.STATUS.CFG_VALID = false) ∧ (storeGood = true)) ∧
    (∃ (storeGood : Bool) (s : State), (s.getBit SYS.PWR_STAT.PD_ON 1 = true ∧ s.is BL.STATUS.CFG_VALID = false) ∧ (storeGood = false)) ∧
    (∃ (pass : Bool) (s : State), (s.is BL.STATUS.CFG_VALID = true) ∧ (pass = true)) ∧
    (∃ (s : State), (s.get SYS.rstPhase = 0 ∧ s.is SYS.trimOk = true ∧ s.get SYS.stepped = s.get SYS.plan ∧ s.is SYS.fwRun = true ∧ s.is BL.STATUS.CFG_VALID = true ∧ s.is BL.STATUS.SELFTEST_OK = true ∧ s.is BL.STATUS.CI_LOST = false ∧ s.is HK.rounded = true)) ∧
    (∃ (pd : Fin 9) (pass : Bool) (s : State), (s.get SYS.rstPhase = 0 ∧ s.is SYS.lowState = false ∧ s.getBit SYS.boMask pd = false ∧ s.stepNext pd = true ∧ s.is SYS.trimOk = true ∧ (2 < pd.val → s.is SYS.fwRun = true) ∧ (2 ≤ pd.val → s.is SYS.pllDown = false)) ∧ (pass = true)) :=
  ⟨⟨false, true, true, st [(SYS.rstPhase,0,0,0),(SYS.rstLvl,0,0,0),(SYS.trimOk,0,0,0),(SYS.lowState,0,0,0)], by decide⟩,
   ⟨false, false, true, st [(SYS.rstPhase,0,0,0),(SYS.rstLvl,0,0,0),(SYS.trimOk,0,0,0),(SYS.lowState,0,0,0)], by decide⟩,
   ⟨false, st [(SYS.rstPhase,0,0,0),(SYS.rstLvl,0,0,0),(SYS.trimOk,0,0,0),(SYS.lowState,0,0,0)], by decide⟩,
   ⟨true, st [(SYS.PWR_STAT.PD_ON,0,0,3),(BL.STATUS.CFG_VALID,0,0,0)], by decide⟩,
   ⟨false, st [(SYS.PWR_STAT.PD_ON,0,0,2),(BL.STATUS.CFG_VALID,0,0,0)], by decide⟩,
   ⟨true, st [(BL.STATUS.CFG_VALID,0,0,1)], by decide⟩,
   ⟨st [(SYS.rstPhase,0,0,0),(SYS.trimOk,0,0,1),(SYS.plan,0,0,0x1FE),(SYS.stepped,0,0,0x1FE),(SYS.fwRun,0,0,1),(BL.STATUS.CFG_VALID,0,0,1),(BL.STATUS.SELFTEST_OK,0,0,1),(BL.STATUS.CI_LOST,0,0,0),(HK.rounded,0,0,1)], by decide⟩,
   ⟨8, true, st [(SYS.rstPhase,0,0,0),(SYS.lowState,0,0,0),(SYS.boMask,0,0,0),(SYS.trimOk,0,0,1),(SYS.fwRun,0,0,1),(SYS.plan,0,0,0x1FE),(SYS.stepped,0,0,0xFE)], by decide⟩⟩

theorem test_witness_StartUpStepsAndBelayStart_2 :
    (∃ (pd : Fin 9) (pass : Bool) (s : State), (s.get SYS.rstPhase = 0 ∧ s.is SYS.lowState = false ∧ s.getBit SYS.boMask pd = false ∧ s.stepNext pd = true ∧ s.is SYS.trimOk = true ∧ (2 < pd.val → s.is SYS.fwRun = true) ∧ (2 ≤ pd.val → s.is SYS.pllDown = false)) ∧ (pass = false) ∧ (1 ≤ pd.val) ∧ (s.get SYS.bistTry pd = 0)) ∧
    (∃ (pd : Fin 9) (pass : Bool) (s : State), (s.get SYS.rstPhase = 0 ∧ s.is SYS.lowState = false ∧ s.getBit SYS.boMask pd = false ∧ s.stepNext pd = true ∧ s.is SYS.trimOk = true ∧ (2 < pd.val → s.is SYS.fwRun = true) ∧ (2 ≤ pd.val → s.is SYS.pllDown = false)) ∧ (pass = false) ∧ (1 ≤ pd.val) ∧ (s.get SYS.bistTry pd ≠ 0)) :=
  ⟨⟨1, false, st [(SYS.rstPhase,0,0,0),(SYS.lowState,0,0,0),(SYS.boMask,0,0,0),(SYS.trimOk,0,0,1),(SYS.plan,0,0,0x1FE),(SYS.stepped,0,0,0),(SYS.bistTry,1,0,0)], by decide⟩,
   ⟨1, false, st [(SYS.rstPhase,0,0,0),(SYS.lowState,0,0,0),(SYS.boMask,0,0,0),(SYS.trimOk,0,0,1),(SYS.plan,0,0,0x1FE),(SYS.stepped,0,0,0),(SYS.bistTry,1,0,1)], by decide⟩⟩

theorem test_witness_MemoriesScrubberMarchAndBist_1 :
    (∃ (flips : Fin 3) (s : State), (s.getBit SYS.PWR_STAT.PD_ON 2 = true ∧ s.is MEM.CTL.SCRUB_EN = true ∧ s.get MEM.scrubMem = 0 ∧ s.eccOf 0 (s.get MEM.scrubWord) = 0) ∧ (flips.val = 2)) ∧
    (∃ (flips : Fin 3) (s : State), (s.getBit SYS.PWR_STAT.PD_ON 2 = true ∧ s.is MEM.CTL.SCRUB_EN = true ∧ s.get MEM.scrubMem = 0 ∧ s.eccOf 0 (s.get MEM.scrubWord) = 0) ∧ (flips.val = 1)) ∧
    (∃ (flips : Fin 3) (s : State), (s.getBit SYS.PWR_STAT.PD_ON 2 = true ∧ s.is MEM.CTL.SCRUB_EN = true ∧ s.get MEM.scrubMem = 0 ∧ s.eccOf 0 (s.get MEM.scrubWord) = 0) ∧ (flips.val = 0)) ∧
    (∃ (s : State), (s.evWarning.length < 64)) ∧
    (∃ (boot : Bool) (fails : BitVec 16) (s : State), (boot = false ∧ s.is MEM.MARCH_STAT.BUSY = true) ∧ (fails ≠ 0) ∧ (s.is MEM.MARCH_CMD.DESTR = true) ∧ (bit (s.get MEM.MARCH_CMD.TARGET) 0 = true)) ∧
    (∃ (pass : Bool) (s : State), (s.is BIST.STAT.BUSY = true) ∧ (pass = true) ∧ (∀ p ∈ s.saveBad (s.get BIST.CMD.DOMAIN), p.2 < 2)) ∧
    (∃ (pass : Bool) (s : State), (s.is BIST.STAT.BUSY = true) ∧ (pass = false ∨ ∃ p ∈ s.saveBad (s.get BIST.CMD.DOMAIN), 2 ≤ p.2) ∧ (s.get SYS.rstPhase = 1) ∧ (s.get SYS.RST_MAP.BIST = 1)) ∧
    (∃ (d : Desc) (s : State), (s.running 0 0 = some d)) :=
  ⟨⟨2, (let s : State := st [(SYS.PWR_STAT.PD_ON,0,0,4),(MEM.CTL.SCRUB_EN,0,0,1),(MEM.scrubMem,0,0,0),(MEM.scrubWord,0,0,524287)]; { s with eccBad := [] }), by decide⟩,
   ⟨1, (let s : State := st [(SYS.PWR_STAT.PD_ON,0,0,4),(MEM.CTL.SCRUB_EN,0,0,1),(MEM.scrubMem,0,0,0),(MEM.scrubWord,0,0,0)]; { s with eccBad := [] }), by decide⟩,
   ⟨0, (let s : State := st [(SYS.PWR_STAT.PD_ON,0,0,4),(MEM.CTL.SCRUB_EN,0,0,1),(MEM.scrubMem,0,0,0),(MEM.scrubWord,0,0,0)]; { s with eccBad := [] }), by decide⟩,
   ⟨st [], by decide⟩,
   ⟨false, 1, st [(MEM.MARCH_STAT.BUSY,0,0,1),(MEM.MARCH_CMD.DESTR,0,0,1),(MEM.MARCH_CMD.TARGET,0,0,1)], by decide⟩,
   ⟨true, st [(BIST.STAT.BUSY,0,0,1),(BIST.CMD.DOMAIN,0,0,8)], by decide⟩,
   ⟨false, st [(BIST.STAT.BUSY,0,0,1),(BIST.CMD.DOMAIN,0,0,3),(SYS.rstPhase,0,0,1),(SYS.RST_MAP.BIST,0,0,1)], by decide⟩,
   ⟨{ op := 0, inl := false, fence := false, irq := true, preempt := false, tag := 9, len := 0, w0 := 0, w1 := 0, w2 := 0, w3 := 0 }, (let s : State := st []; { s with descs := [(0, { op := 0, inl := false, fence := false, irq := true, preempt := false, tag := 9, len := 0, w0 := 0, w1 := 0, w2 := 0, w3 := 0 })] }), by decide⟩⟩

theorem test_witness_MemoriesScrubberMarchAndBist_2 :
    (∃ (target : BitVec 6) (destr : Bool) (s : State), (s.is MEM.MARCH_STAT.BUSY = false) ∧ (s.pdOn 2 = true) ∧ (destr = false ∨ s.marchBars target.toNat = false)) ∧
    (∃ (target : BitVec 6) (destr : Bool) (s : State), (s.is MEM.MARCH_STAT.BUSY = false) ∧ (s.pdOn 2 = true) ∧ (destr = true) ∧ (s.marchBars target.toNat = true)) ∧
    (∃ (domain : BitVec 4) (s : State), (s.pdOn 2 = true) ∧ (domain.toNat < 3 ∨ 8 < domain.toNat)) ∧
    (∃ (domain : BitVec 4) (s : State), (s.pdOn 2 = true) ∧ (3 ≤ domain.toNat) ∧ (domain.toNat ≤ 8) ∧ (s.bistBars domain.toNat = true)) ∧
    (∃ (domain : BitVec 4) (s : State), (s.pdOn 2 = true) ∧ (3 ≤ domain.toNat) ∧ (domain.toNat ≤ 8) ∧ (s.bistBars domain.toNat = false)) ∧
    (∃ (sel : BitVec 4) (s : State), (s.pitAllowed = true ∧ 1 ≤ sel.toNat ∧ sel.toNat ≤ 2) ∧ (s.pdOn 2 = true)) :=
  ⟨⟨0, true, (let s : State := st [(SYS.PWR_STAT.PD_ON,0,0,4),(MEM.CTL.SCRUB_EN,0,0,1),(MEM.scrubMem,0,0,0),(MEM.scrubWord,0,0,524287)]; { s with eccBad := [] }), by decide⟩,
   ⟨1, true, st [(MEM.MARCH_STAT.BUSY,0,0,0),(RING.CFG.SIZE,31,0,8)], by decide⟩,
   ⟨0, (let s : State := st [(SYS.PWR_STAT.PD_ON,0,0,4),(MEM.CTL.SCRUB_EN,0,0,1),(MEM.scrubMem,0,0,0),(MEM.scrubWord,0,0,524287)]; { s with eccBad := [] }), by decide⟩,
   ⟨8, st [(BIST.STAT.BUSY,0,0,1)], by decide⟩,
   ⟨8, st [], by decide⟩,
   ⟨2, st [(BL.PIT_STAT.ARMED,0,0,0),(SEC.LC_STAT.STATE,0,0,0),(SEC.hostRole,0,0,1)], by decide⟩⟩

theorem test_witness_HostLinkAndRegisterFrames_1 : ∃ c rs fs s t, Touch.host c = some (rs, fs) ∧ exec c s = .next t :=
  ⟨.perstn, _, _, State.reset, _, rfl, rfl⟩

theorem test_witness_HostLinkAndRegisterFrames_2 : ∃ (s t : State) (x : Nat), exec (.regWrite 0x01000114 1) s = .next t ∧ (PU.PER.PER.key 0 0 / 32 ≠ 0x01000114) :=
  ⟨State.reset, _, 0, rfl, by decide⟩

theorem test_witness_HostLinkAndRegisterFrames_3 : ∃ (s t : State) (x : Nat), exec (.debugAccess (.bar0 0x3FFFFC) true 1) s = .next t ∧ x < 0x3FFFFC :=
  ⟨State.reset, _, 0x3FFFFB, rfl, by decide⟩

theorem test_witness_HostLinkAndRegisterFrames_4 : ∃ (s t : State), exec (.mbxCfgWrite true true) s = .next t ∧ (PU.PER.PER.key 0 0 / 32 ≠ 0x01300000 + s.get BL.MBX_ARG.ARG 0) :=
  ⟨State.reset, _, rfl, by decide⟩

theorem test_witness_BelayAndDischargeFrames : ∃ c rs fs s t, Touch.belay c = some (rs, fs) ∧ exec c s = .next t :=
  ⟨.dliPowerLoss, _, _, State.reset, _, rfl, rfl⟩

theorem test_witness_SensingPositionAndThermalFrames : ∃ c rs fs s t, Touch.sense c = some (rs, fs) ∧ exec c s = .next t :=
  ⟨.hkStale, _, _, State.reset, _, rfl, rfl⟩

theorem test_witness_SequencerPwmAndTickFrames : ∃ c rs fs s t, Touch.drive c = some (rs, fs) ∧ exec c s = .next t :=
  ⟨.decisionTick, _, _, State.reset, _, rfl, rfl⟩

theorem test_witness_ControlEngineFrames : ∃ c rs fs s t, Touch.engine c = some (rs, fs) ∧ exec c s = .next t :=
  ⟨(.engRet 0), _, _, State.reset, _, rfl, rfl⟩

theorem test_witness_ContextTableAndAuxiliaryFrames : ∃ c rs fs s t, Touch.actor c = some (rs, fs) ∧ exec c s = .next t :=
  ⟨(.bsUv 0 0 0), _, _, State.reset, _, rfl, rfl⟩

theorem test_witness_GateIslandFrames : ∃ c rs fs s t, Touch.gate c = some (rs, fs) ∧ exec c s = .next t :=
  ⟨(.statusFrame 0 0 0), _, _, State.reset, _, rfl, rfl⟩

theorem test_witness_NetworkAndSecurityFrames : ∃ c rs fs s t, Touch.net c = some (rs, fs) ∧ exec c s = .next t :=
  ⟨(.canJoin 0), _, _, State.reset, _, rfl, rfl⟩

theorem test_witness_ClockResetPowerAndMemoryFrames : ∃ c rs fs s t, Touch.system c = some (rs, fs) ∧ exec c s = .next t :=
  ⟨.blkReset, _, _, State.reset, _, rfl, rfl⟩

theorem test_witness_CommandsKeepToTheirInstance_1 : ∃ c rs k s t, Touch.alone c = some (rs, k) ∧ exec c s = .next t :=
  ⟨.canJoin 3, _, _, State.reset, _, rfl, rfl⟩

theorem test_witness_CommandsKeepToTheirInstance_2 : ∃ r ∈ Touch.canRows, ∃ i, i < r.c1 ∧ i ≠ 3 :=
  ⟨CAN.CTL.INIT, by decide, 0, by decide, by decide⟩

theorem test_witness_IllegalTransitionsAreCounted : POS.INC_POS.POS.key 1 0 ≠ POS.INC_STAT.ILLEGAL.key 1 0 ∧ POS.INC_POS.POS.key 1 0 ≠ POS.INC_STAT.ILL_CNT.key 1 0 :=
  by decide

theorem test_witness_NumberFormatsAndExactProduct : ∃ (eng : Fin 7) (dst : Fin 4) (x y : Fin 16) (s : State), s.engOn eng = true ∧ s.aVal eng dst = 0 ∧ s.dVal eng x = -2 ^ 15 ∧ s.dVal eng y = -2 ^ 15 :=
  ⟨5, 3, 15, 15, st [(CE.CTL.RUN,5,0,1),(CE.prog,5,0,1),(CE.d,5,15,0x8000)], by decide⟩

theorem test_witness_DivideByZeroAndAbsoluteValue_1 : ∃ (eng : Fin 7) (y : Fin 16) (s : State), s.engOn eng = true ∧ s.get CE.d eng y = 0 :=
  ⟨6, 15, st [(CE.CTL.RUN,6,0,1),(CE.prog,6,0,1)], by decide⟩

theorem test_witness_DivideByZeroAndAbsoluteValue_2 : ∃ (eng : Fin 7) (x : Fin 16) (s : State), s.engOn eng = true ∧ s.get CE.d eng x = 0x8000 :=
  ⟨6, 15, st [(CE.CTL.RUN,6,0,1),(CE.prog,6,0,1),(CE.d,6,15,0x8000)], by decide⟩

theorem test_witness_StatusWord : ∃ s : State, (∀ a < 2, s.is PU.TRIP_STAT.TRIPPED a = true ∧ s.getBit BL.CAUSE.SS_CAUSE 0 a = false ∧
    s.is CE.RP_STAT.RP_FAULT (2 * a) = true ∧ s.getBit BL.CAUSE.SS_CAUSE 1 a = false ∧ s.getBit POS.XCHK_STAT.LOST 0 a = true ∧ s.getBit BL.CAUSE.BIV_CAUSE 0 (s.lead a) = false) :=
  ⟨st [(PU.TRIP_STAT.TRIPPED,0,0,1),(PU.TRIP_STAT.TRIPPED,1,0,1),(CE.RP_STAT.RP_FAULT,0,0,1),(CE.RP_STAT.RP_FAULT,2,0,1),(POS.XCHK_STAT.LOST,0,0,1),(POS.XCHK_STAT.LOST,1,0,1)], by decide⟩

theorem test_witness_CurXchkBothPaths : ∃ (ch : Fin 6) (s : State), 3 ≤ s.get BL.xRun ch ∧ s.is SEN.CH_STAT.BSL ch = true ∧ s.getBit BL.IHA_STAT.IHA_ADC ch = true :=
  ⟨5, st [(BL.xRun,5,0,3),(SEN.CH_STAT.BSL,5,0,1),(BL.IHA_STAT.IHA_ADC,0,0,32)], by decide⟩

theorem test_witness_TickSwap : ∃ s : State, s.getBit SYS.PWR_STAT.PD_ON 3 = true ∧ s.getBit SYS.PWR_STAT.PD_ON 4 = true ∧ s.is SQ.TBL_CTL.SWAP 0 = true ∧
    s.is ACT.STAT.PEND = false :=
  ⟨st [(SYS.PWR_STAT.PD_ON,0,0,24),(SQ.TBL_CTL.SWAP,0,0,1)], by decide⟩

theorem test_witness_BandDiscard : ∃ (axis : Fin 2) (s : State), s.get SQ.STATUS.MODE axis = 4 ∧ s.is SQ.BAND_CTL.BAND_EN axis = true ∧
    2 ^ s.get SQ.BAND_CTL.WIN axis ≤ s.get SQ.winTick axis ∧ 2 ^ s.get SQ.BAND_CTL.WIN axis < 4 * s.get SQ.bigErr axis :=
  ⟨1, st [(SQ.STATUS.MODE,1,0,4),(SQ.BAND_CTL.BAND_EN,1,0,1),(SQ.BAND_CTL.WIN,1,0,10),(SQ.winTick,1,0,1024),(SQ.bigErr,1,0,257)], by decide⟩

theorem test_witness_LifeCyclePends : ∃ s : State, s.is SEC.LC_STAT.LC_PEND = true := ⟨st [(SEC.LC_STAT.LC_PEND,0,0,1)], by decide⟩

theorem test_witness_SaveRefused : ∃ s : State, s.pdOn 2 = true ∧ s.actWrite s.linkRole = false ∧ s.evWarning.length < 64 ∧ s.is ACT.job = false ∧ s.is ACT.CMD.GO = false :=
  ⟨st [(ACT.job,0,0,0)], by decide⟩

theorem test_witness_HostCommands : ∃ s : State, s.command false 0x10 = some 4 ∧ s.is ACT.job = false ∧ s.is ACT.chEn 2 = true :=
  ⟨{ st [(RING.ridgeOk,0,0,1),(ACT.chEn,2,0,1),(ACT.job,0,0,0)] with descs := [(1, { op := 0x10, inl := true, fence := false, irq := true, preempt := false, tag := 9, len := 16, w0 := 4, w1 := 0, w2 := 0, w3 := 0 })] }, by decide⟩

theorem test_witness_LowestBootstrapVoltagesKept : (∃ s : State, s.hkRuns = true ∧ s.getBit SYS.PWR_STAT.PD_ON 5 = true) ∧ ∃ s : State, s.hkRuns = true ∧ s.getBit SYS.PWR_STAT.PD_ON 5 = false :=
  ⟨⟨st [(SYS.PWR_STAT.PD_ON,0,0,36)], by decide⟩, ⟨st [(SYS.PWR_STAT.PD_ON,0,0,4)], by decide⟩⟩

theorem test_witness_TimeReadsFormOneValue : ∃ s : State, s.is SEC.DBG_STAT.OPEN = true ∧ s.is SYS.lowState = false ∧ 1 ≤ s.get SEC.DBG_STAT.LEVEL ∧ s.getBit SYS.PWR_STAT.PD_ON 2 = true ∧ s.now < 2 ^ 64 :=
  ⟨st [(SEC.DBG_STAT.OPEN,0,0,1),(SEC.DBG_STAT.LEVEL,0,0,1),(SYS.PWR_STAT.PD_ON,0,0,4)], by decide⟩

/-! Well-formedness: an ill-formed term for each check, and its well-formed neighbour -/

/-- A frame with nothing in it. -/
def canFrame0 : CanFrame :=
  { ide := false, fdf := false, brs := false, rtr := false, esi := false, ident := 0, dlc := 0, data := [] }

theorem test_wf_ihaSample : Instr.wf (.ihaSample []) = false ∧ Instr.wf (.ihaSample [0, 0, 0, 0, 0, 0]) = true := by decide
theorem test_wf_pvRecon : Instr.wf (.pvRecon 0 [[], [], []]) = false ∧ Instr.wf (.pvRecon 0 (List.replicate 3 [.settled 320 0 (.low 0) 0])) = true := by decide
theorem test_wf_pvReconCount : Instr.wf (.pvRecon 0 []) = false ∧ Instr.wf (.pvRecon 1 (List.replicate 3 [.settled 319 0 (.off 0) 0, .edge 1 7 8 (.off 0) (.high 0)])) = true := by decide
theorem test_wf_pvReconEdge : Instr.wf (.pvRecon 1 (List.replicate 3 [.settled 319 0 (.off 0) 0, .edge 1 8 8 (.off 0) (.high 0)])) = false := by decide
theorem test_wf_capFrame : Instr.wf (.capFrame 0 true true true 0 0 0 (2 ^ 64)) = false ∧ Instr.wf (.capFrame 0 true true true 0 0 0 (2 ^ 64 - 1)) = true := by decide
theorem test_wf_incEdge : Instr.wf (.incEdge 0 true (2 ^ 64)) = false ∧ Instr.wf (.incEdge 0 true (2 ^ 64 - 1)) = true := by decide
theorem test_wf_puReload : Instr.wf (.puReload 0 true (2 ^ 64)) = false ∧ Instr.wf (.puReload 4 true (2 ^ 64 - 1)) = true := by decide
theorem test_wf_puCompare : Instr.wf (.puCompare 0 0 (2 ^ 64)) = false ∧ Instr.wf (.puCompare 4 2 (2 ^ 64 - 1)) = true := by decide
theorem test_wf_puTrip : Instr.wf (.puTrip 0 0 0 (2 ^ 65)) = false ∧ Instr.wf (.puTrip 0 0 0 (2 ^ 65 - 1)) = true := by decide
theorem test_wf_engTlu : Instr.wf (.engTlu 0 0 0 0 11 none) = false ∧ Instr.wf (.engTlu 0 0 0 0 12 none) = true := by decide
theorem test_wf_engFfs : Instr.wf (.engFfs 0 0 0 41 none) = false ∧ Instr.wf (.engFfs 0 0 0 40 none) = true := by decide
theorem test_wf_edgeCmd : Instr.wf (.edgeCmd 0 true 0 0 0 (2 ^ 65) none) = false ∧ Instr.wf (.edgeCmd 0 true 0 0 0 (2 ^ 65 - 1) none) = true := by decide
theorem test_wf_softOff : Instr.wf (.softOff 0 0 (2 ^ 65) none) = false ∧ Instr.wf (.softOff 0 0 (2 ^ 65 - 1) none) = true := by decide
theorem test_wf_cairnFrame : Instr.wf (.cairnFrame 0 (2 ^ 65) none) = false ∧ Instr.wf (.cairnFrame 0 (2 ^ 65 - 1) none) = true := by decide
theorem test_wf_edgeFrame : Instr.wf (.edgeFrame 0 0 0 true true 0 (2 ^ 65)) = false ∧ Instr.wf (.edgeFrame 0 0 0 true true 0 (2 ^ 65 - 1)) = true := by decide
theorem test_wf_tripFrame : Instr.wf (.tripFrame 0 0 0 0 (2 ^ 65)) = false ∧ Instr.wf (.tripFrame 0 0 0 0 (2 ^ 65 - 1)) = true := by decide
theorem test_wf_scTurnOn : Instr.wf (.scTurnOn 0 (2 ^ 65) []) = false ∧ Instr.wf (.scTurnOn 0 0 (List.replicate 513 none)) = false ∧ Instr.wf (.scTurnOn 0 (2 ^ 65 - 1) (List.replicate 512 none)) = true := by decide
theorem test_wf_bcTurnOn : Instr.wf (.bcTurnOn 0 (2 ^ 65) []) = false ∧ Instr.wf (.bcTurnOn 0 0 (List.replicate 513 none)) = false ∧ Instr.wf (.bcTurnOn 0 (2 ^ 65 - 1) (List.replicate 512 none)) = true := by decide
theorem test_wf_edgeStartCount : Instr.wf (.edgeStart 0 (List.replicate 513 none)) = false ∧ Instr.wf (.edgeStart 0 (List.replicate 512 none)) = true := by decide
theorem test_wf_entryFetched : Instr.wf (.entryFetched [] [] 0) = false ∧ Instr.wf (.entryFetched (List.replicate 256 0) (List.replicate 256 0) 0) = true := by decide
theorem test_wf_saveDone : Instr.wf (.saveDone [] true) = false ∧ Instr.wf (.saveDone (List.replicate 2048 0) true) = true := by decide
theorem test_wf_setpointDesc : Instr.wf (.setpointDesc 2 (List.replicate 257 0)) = false ∧ Instr.wf (.setpointDesc 2 (List.replicate 256 0)) = true := by decide
theorem test_wf_canSend : Instr.wf (.canSend 0 0 0 (List.replicate 65 0)) = false ∧ Instr.wf (.canSend 0 0 0 (List.replicate 64 0)) = true := by decide
theorem test_wf_ethSend : Instr.wf (.ethSend (List.replicate 1519 0)) = false ∧ Instr.wf (.ethSend (List.replicate 1518 0)) = true := by decide
theorem test_wf_canRx : Instr.wf (.canRx 0 canFrame0 (2 ^ 64)) = false ∧ Instr.wf (.canRx 0 canFrame0 0) = true := by decide
theorem test_wf_canRxData : Instr.wf (.canRx 0 { canFrame0 with data := List.replicate 65 0 } 0) = false ∧ Instr.wf (.canRx 0 { canFrame0 with data := List.replicate 64 0 } 0) = true := by decide
theorem test_wf_ethRx : Instr.wf (.ethRx 0 (List.replicate 2001 0) true none 0) = false ∧ Instr.wf (.ethRx 0 (List.replicate 2000 0) true none 0) = true := by decide
theorem test_wf_hvilFault : Instr.wf (.hvilFault 0) = false ∧ Instr.wf (.hvilFault 3) = true := by decide
theorem test_wf_pcieLinkUpSizes : Instr.wf (.pcieLinkUp 3 2 100 512) = false ∧ Instr.wf (.pcieLinkUp 3 2 256 100) = false := by decide
theorem test_wf_disStep : Instr.wf (.disStep 51) = false ∧ Instr.wf (.disStep 50) = true := by decide
theorem test_wf_disStepZero : Instr.wf (.disStep 0) = false ∧ Instr.wf (.disStep 1) = true := by decide
theorem test_wf_canTxDone : Instr.wf (.canTxDone 0 (2 ^ 64)) = false ∧ Instr.wf (.canTxDone 0 0) = true := by decide
theorem test_wf_ethTxDone : Instr.wf (.ethTxDone 0 .ring (2 ^ 64)) = false ∧ Instr.wf (.ethTxDone 0 .ring 0) = true := by decide
theorem test_wf_pdelayRx : Instr.wf (.pdelayRx 0 (2 ^ 64)) = false ∧ Instr.wf (.pdelayRx 0 0) = true := by decide
theorem test_wf_syncRx : Instr.wf (.syncRx (2 ^ 62)) = false ∧ Instr.wf (.syncRx (2 ^ 62 - 1)) = true := by decide
theorem test_wf_slowRound : Instr.wf (.slowRound [] [] 0) = false ∧ Instr.wf (.slowRound (List.replicate 10 none) (List.replicate 4 none) 0) = true := by decide
theorem test_wf_pllFault : Instr.wf (.pllFault (2 ^ 32)) = false ∧ Instr.wf (.pllFault 0) = true := by decide
theorem test_wf_clkFault : Instr.wf (.clkFault 0 0 (2 ^ 32)) = false ∧ Instr.wf (.clkFault 0 0 0) = true := by decide
theorem test_wf_sampleRecord : Instr.wf (.sampleRecord 0 true []) = false ∧ Instr.wf (.sampleRecord 0 true (List.replicate 32 0)) = true := by decide
theorem test_wf_pcieLinkUp : Instr.wf (.pcieLinkUp 3 4 256 512) = false ∧ Instr.wf (.pcieLinkUp 3 2 256 512) = true := by decide
theorem test_wf_pcieLinkUpGen : Instr.wf (.pcieLinkUp 4 2 256 512) = false ∧ Instr.wf (.pcieLinkUp 1 1 256 512) = true := by decide

/-! Decoding: the table gives no row any bits -/

theorem test_decode_none : decodeTableWord 32 0 = none ∧ decodeTableWord 0 0 = none := by decide

/-! Small runs of one command -/

/-- FIPS 180-4, the digest of the three bytes "abc": ba7816bf … f20015ad. -/
theorem test_sha256_abc : sha256 [0x61, 0x62, 0x63] % 2 ^ 32 = 0xBF1678BA ∧ sha256 [0x61, 0x62, 0x63] / 2 ^ 224 = 0xAD1500F2 := by
  decide +kernel

/-- R166: -1 divided by 0 is 0x8000, with DIV0 and SAT. -/
theorem test_engDiv_zero : after (execEngDiv 4 2 1 0 (st [(CE.CTL.RUN,4,0,1),(CE.prog,4,0,1),(CE.d,4,1,0xFFFF)])) (fun t =>
    t.get CE.d 4 2 == 0x8000 && t.is CE.FLAGS.DIV0 4 && t.is CE.FLAGS.SAT 4) = true := by decide +kernel

/-- R164: the exact product of -1 and -1 is +1 in an accumulator. -/
theorem test_engMac_one : after (execEngMac 4 0 1 1 (st [(CE.CTL.RUN,4,0,1),(CE.prog,4,0,1),(CE.d,4,1,0x8000)])) (fun t =>
    t.get CE.a 4 0 == 2 ^ 30) = true := by decide +kernel

/-- R70: the count of illegal transitions stays at 255. -/
theorem test_incIllegal_top : after (execIncIllegal 1 (st [(POS.INC_STAT.ILL_CNT,1,0,255)])) (fun t =>
    t.get POS.INC_STAT.ILL_CNT 1 == 255 && t.is POS.INC_STAT.ILLEGAL 1) = true := by decide +kernel

/-- R3, R250: a byte address in the shared SRAM takes a word, the least significant byte first. -/
theorem test_regWrite_sram : after (execRegWrite 0x3FFFFC 0x80000001 (st [(SYS.PWR_STAT.PD_ON,0,0,4)])) (fun t =>
    t.mem == [(0x3FFFFC, 1), (0x3FFFFF, 0x80)]) = true := by decide +kernel

/-- R3: a write of TIME (RO) changes nothing. -/
theorem test_regWrite_ro : after (execRegWrite 0x01000208 0xFFFFFFFF (st [(SYS.PWR_STAT.PD_ON,0,0,4)])) (fun t =>
    t.get SYS.TIME.TIME 0 == 0) = true := by decide +kernel

/-- R371: BS_RST. -/
theorem test_bsRst : after (execBsRst (st [(HK.BS_MIN.W,2,0,5)])) (fun t => t.get HK.BS_MIN.W 2 == 0x3FF) = true := by
  decide +kernel

/-- R350, R352: a controller that integrates joins the bus after 11 recessive bits. -/
theorem test_canJoin : after (execCanJoin 3 (st [(CAN.STATUS.STATE,3,0,1),(CAN.CTL.INIT,3,0,0),(CAN.CTL.TRX_EN,3,0,1)])) (fun t =>
    t.get CAN.STATUS.STATE 3 == 2) = true := by decide +kernel

/-- R251: PERSTN halts every enabled ring with HALT and LINK, and abandons what is in progress. -/
theorem test_perstn : after (execPerstn (st [(RING.CFG.SIZE,31,0,8),(RING.STAT.BUSY,31,0,1)])) (fun t =>
    t.is RING.STAT.HALT 31 && t.is RING.STAT.LINK 31 && !t.is RING.STAT.BUSY 31 && !t.is RING.STAT.HALT 30) = true := by
  decide +kernel

/-- R208, R335: the over-voltage broadcast stands in DLI STATUS.OVB until it is deasserted. -/
theorem test_broadcast : after (execBroadcastAssert (st [(DLI.powered,0,0,1)])) (fun t =>
    t.is DLI.STATUS.OVB && after (execBroadcastDeassert t) fun u => !u.is DLI.STATUS.OVB) = true := by decide +kernel

/-- R460, R459: a word with one wrong bit is corrected and counted by the scrubber. -/
theorem test_scrub_one : after (execMemScrub 1 (st [(SYS.PWR_STAT.PD_ON,0,0,0x3FF)])) (fun t =>
    t.get MEM.ECC_STAT.SEC_CNT == 1 && t.get MEM.ECC_STAT.DED_CNT == 0 && t.eccBad == []) = true := by decide +kernel

/-- R459: one with two wrong bits is not corrected. -/
theorem test_scrub_two : after (execMemScrub 2 (st [(SYS.PWR_STAT.PD_ON,0,0,0x3FF)])) (fun t =>
    t.get MEM.ECC_STAT.DED_CNT == 1 && t.getBit MEM.ECC_STAT.DED 0) = true := by decide +kernel

/-- R434, R435: the first cairn after reset has number 1. -/
theorem test_cairn_first : (st []).get SYS.CAIRN_STAT.NUM = 0 := by decide

end Sys2Proof.Tests
end

/-!
Scope (00): what a register write does by its access code (O7), and the frames of the host link commands (O46) and of the clock, reset, power
and memory commands (O54), which fail.
-/
section
namespace Sys2Proof.Machine

/-! ## Where the places of a row lie -/

theorem Row.addr_eq_add (r : Row) (i j : Nat) : r.addr i j = r.addr i 0 + r.s2 * j := by simp [Row.addr]

theorem Row.elemAt_addr_isSome (r : Row) (i : Nat) {j : Nat} (hj : j < r.c2) : (r.elemAt i (r.addr i j)).isSome = true := by
  rw [Row.addr_eq_add]
  by_cases h : r.s2 = 0
  · simp [Row.elemAt, h]
  · have hpos : 0 < r.s2 := Nat.pos_of_ne_zero h
    simp [Row.elemAt, h, Nat.mul_div_cancel_left j hpos, hj]

/-- A place of a row is found at its address. -/
theorem Row.placeAt_addr_isSome (r : Row) {i j : Nat} (hi : i < r.c1) (hj : j < r.c2) :
    (r.placeAt (r.addr i j)).isSome = true := by
  simp only [Row.placeAt, List.findSome?_isSome_iff]
  exact ⟨i, List.mem_range.2 hi, by simp [r.elemAt_addr_isSome i hj]⟩

/-- A key whose word holds no field of the rows is the key of none of their places, however many these are. -/
theorem keys_ne_of_placeAt_eq_none {rs : List Row} {key : Nat} (h : ∀ q ∈ rs, q.lo < 32 ∧ q.placeAt (key / 32) = none) :
    ∀ q ∈ rs, ∀ i < q.c1, ∀ j < q.c2, key ≠ q.key i j := by
  rintro q hq i hi j hj rfl
  obtain ⟨hlo, hnone⟩ := h q hq
  have hword : q.key i j / 32 = q.addr i j := by simp only [Row.key]; omega
  have hsome := q.placeAt_addr_isSome hi hj
  simp [← hword, hnone] at hsome

/-! ## Register writes by access code (R3 to R5) -/

/-- The fields for whose write some rule beside access code, range and LOCK says something: commands of their own, fields that some units
lack, rules on the state or on the values left, alignment, denied to some sessions, and effects beside the field. -/
def ruledFields : List Row :=
  ownFields ++ [PU.PER.PER, PU.CTL.RUN, PU.CTL.DBL_UPD, RING.PARAM.SP_PER] ++ tripFields ++ selRows ++ State.ropeFields
    ++ State.stateRules.flatMap (·.1) ++ State.valueRules.flatMap (·.1) ++ State.alignRules.map (·.1)
    ++ [SEC.ROLE_CFG.ROLE_TMO, PERF.CTL.USER_EN, PU.TRIP_EN.EN, SQ.TBL_WIN.ENTRY, POS.INC_STAT.LINE_FLT, DLI.PIT_CTL.SEL]
    ++ State.deadTimeFields ++ State.slotFields ++ State.proxyFields.map (·.1)
    ++ [SEN.CH_STAT.BSL, SQ.CAR_CFG.F_CAR, SQ.CAR_CFG.DBL_UPD, SEN.CTL.CH_EN, POS.PTO_CFG.SRC, RING.STAT.CFG, RING.STAT.TAIL,
      RING.STAT.LINK, RING.STAT.DMA, CAN.CTL.INIT, CAN.CTL.MON, CAN.CTL.ROM, CAN.CTL.FDOE, ETH.MSEC_CFG.TX_AN, SYS.AS_CTL.DISC_EN,
      PERF.CTL.EN, PERF.CNT_HI.CNT, HK.CTL.THR_EN, HK.BAND_GI.B1, HK.BAND_ABI.B1, GI.PROF_WIN.CUR, GI.SOFT_WIN.CUR]

namespace State

section
variable {r : Row} (hr : r ∉ ruledFields) (s : State)
include hr

theorem fieldAbsent_of_not_ruled (i : Nat) : s.fieldAbsent r i = false := by
  simp only [ruledFields, List.mem_append, not_or] at hr
  simp_all [fieldAbsent]

theorem fieldDenied_of_not_ruled (v : Nat) : s.fieldDenied r v = false := by
  simp only [ruledFields, List.mem_append, not_or] at hr
  simp_all [fieldDenied]

theorem fieldOpen_of_not_ruled (i data : Nat) : s.fieldOpen r i data = r.inRange (r.cut data) := by
  have hAlign : (alignRules.all fun p => p.1 != r || data % p.2 == 0) = true :=
    List.all_eq_true.2 fun p hp => by
      have : p.1 ≠ r := fun e => hr (by simp [ruledFields, List.mem_map_of_mem (f := Prod.fst) hp, ← e])
      simp [this]
  have hState : (stateRules.all fun p => !p.1.contains r || p.2 s i) = true :=
    List.all_eq_true.2 fun p hp => by
      have : r ∉ p.1 := fun e => hr (by simp [ruledFields, List.mem_flatMap_of_mem (f := Prod.fst) hp e])
      simp [this]
  have hDec : (r != RING.PARAM.SP_PER) = true := by simp_all [ruledFields]
  simp only [fieldOpen, hAlign, hState, hDec, Bool.and_true, Bool.true_or]

theorem fieldFits_of_not_ruled (i j : Nat) : s.fieldFits r i j = true :=
  List.all_eq_true.2 fun p hp => by
    have : r ∉ p.1 := fun e => hr (by simp [ruledFields, List.mem_flatMap_of_mem (f := Prod.fst) hp e])
    simp [this]

theorem proxyFrame_of_not_ruled (i j : Nat) : s.proxyFrame r i j = s := by
  have hFind : proxyFields.find? (fun p => p.1 == r) = none := List.find?_eq_none.2 fun p hp => by
    have : p.1 ≠ r := fun e => hr (by simp [ruledFields, List.mem_map_of_mem (f := Prod.fst) hp, ← e])
    simp [this]
  simp only [ruledFields, List.mem_append, not_or] at hr
  simp_all only [proxyFrame, List.mem_cons, not_or, if_false]

theorem fieldEffect_of_not_ruled (s0 : State) (i j : Nat) : fieldEffect s0 s r i j = s := by
  have hProxy := proxyFrame_of_not_ruled hr s i j
  simp only [ruledFields, List.mem_append, not_or] at hr
  simp_all [fieldEffect]

theorem fittingFields_of_not_ruled (i j data : Nat) : s.fittingFields data 1 [(r, i, j)] = [(r, i, j)] := by
  simp [fittingFields, fieldFits_of_not_ruled hr]

theorem putField_rwl (h : r.acc = .rwl) (i j v : Nat) : s.putField r i j v = s.set r v i j := by
  simp only [ruledFields, List.mem_append, not_or] at hr
  simp_all [putField]

/-- A write of a word with one field that no further rule names goes by LOCK, range and access code alone (R3 to R5). -/
theorem regFields_of_not_ruled {addr i j : Nat} (data : Nat) (hfs : fieldsAt addr = [(r, i, j)])
    (hpd : s.getBit SYS.PWR_STAT.PD_ON (fieldDomain addr r i) = true) :
    s.regFields addr data =
      if r.acc = .rwl ∧ s.is (blockCtl addr r i).1 (blockCtl addr r i).2.2 = true then s.accessRefused addr data
      else if r.inRange (r.cut data) = true then s.putField r i j (r.cut data)
      else s.set (blockCtl addr r i).2.1 1 (blockCtl addr r i).2.2 := by
  have hopen := fieldOpen_of_not_ruled hr s i data
  have heff := fun t => fieldEffect_of_not_ruled hr t s i j
  have hgood := fittingFields_of_not_ruled hr s i j data
  have hnone : s.fittingFields data 0 [] = [] := rfl
  have hden := fieldDenied_of_not_ruled hr s (r.cut data)
  have habs := fieldAbsent_of_not_ruled hr s i
  have hcar : (r == SQ.CAR_CFG.F_CAR) = false := by simp_all [ruledFields]
  have hsel : (r == DLI.PIT_CTL.SEL) = false := by simp_all [ruledFields]
  simp only [ruledFields, List.mem_append, not_or] at hr
  by_cases hl : r.acc = .rwl ∧ s.is (blockCtl addr r i).1 (blockCtl addr r i).2.2 = true
  · simp [regFields, hfs, hpd, hr, hopen, hden, habs, hl, hnone]
  · have hfree : ¬r.acc = .rwl ∨ s.is (blockCtl addr r i).1 (blockCtl addr r i).2.2 = false := by
      rwa [not_and_or, Bool.not_eq_true] at hl
    have hlock : (r.acc == .rwl && s.is (blockCtl addr r i).1 (blockCtl addr r i).2.2) = false := by simpa using hl
    by_cases hrange : r.inRange (r.cut data) = true
    · simp [regFields, hfs, hpd, hr, hopen, hden, habs, hl, hfree, hlock, hsel, hrange, hgood, heff]
    · simp [regFields, hfs, hpd, hr, hopen, hden, habs, hl, hfree, hlock, hsel, hcar, hrange, hnone]

end

/-! The access of the host -/

theorem get_hostAccess_ne (s : State) {q : Row} (i j : Nat) (h : SEC.idleT.key 0 0 ≠ q.key i j) :
    s.hostAccess.get q i j = s.get q i j := by
  unfold hostAccess
  rw [get_on, get_set_ne _ _ _ _ _ _ h, ite_self]

theorem hostAccess_mem (s : State) : s.hostAccess.mem = s.mem := by
  unfold hostAccess on; split <;> rfl

theorem hostAccess_now (s : State) : s.hostAccess.now = s.now := by
  unfold hostAccess on; split <;> rfl

theorem pdOn_hostAccess (s : State) (pd : Nat) : s.hostAccess.getBit SYS.PWR_STAT.PD_ON pd = s.getBit SYS.PWR_STAT.PD_ON pd := by
  simp only [getBit, get_hostAccess_ne s 0 0 (q := SYS.PWR_STAT.PD_ON) (by decide)]

/-! The window of the shared SRAM -/

theorem SameRecords.mem_eq {s t : State} (h : s.SameRecords t) : t.mem = s.mem := by
  unfold SameRecords at h
  rw [h]

theorem SameRecords.now_eq {s t : State} (h : s.SameRecords t) : t.now = s.now := by
  unfold SameRecords at h
  rw [h]

theorem pitDisarm_mem (s : State) : s.pitDisarm.mem = s.mem := by
  simp only [pitDisarm, apply_ite State.mem, set_mem, ite_self]

theorem pitAct_mem (s : State) : s.pitAct.mem = s.mem :=
  (pitDisarm_mem _).trans (sameRecords_event ..).mem_eq

theorem memPut_mem (s : State) {a : Nat} (v : BitVec 8) (ha : a < 2 ^ 22) : (s.memPut a v).mem = Memory.put s.mem a v := by
  have h : ∀ c, (s.on c (·.pitAct)).mem = s.mem := fun c => by cases c <;> simp [pitAct_mem]
  simp only [memPut, Nat.not_le.2 ha, if_false, setEcc, h]

/-- The bytes of the shared SRAM after a byte was stored (R457). -/
theorem memGet_memPut (s : State) {a : Nat} (v : BitVec 8) (ha : a < 2 ^ 22) (b : Nat) :
    (s.memPut a v).memGet b = if b = a then v else s.memGet b := by
  by_cases h : b = a
  · rw [if_pos h, h, memGet, if_pos ha, memPut_mem s v ha, Memory.get_put_self]
  · simp [memGet, memPut_mem s v ha, h, Memory.get_put_ne _ v (Ne.symm h)]

/-- The bytes of the shared SRAM after a word was stored, the least significant byte first (R3). -/
theorem memGet_memPut32 (s : State) {a : Nat} (v : Nat) (ha : a + 3 < 2 ^ 22) (b : Nat) :
    (s.memPut32 a v).memGet b = if a ≤ b ∧ b < a + 4 then BitVec.ofNat 8 (v / 256 ^ (b - a)) else s.memGet b := by
  simp only [memPut32, List.range, List.range.loop, List.foldl]
  rw [memGet_memPut _ _ (by omega), memGet_memPut _ _ (by omega), memGet_memPut _ _ (by omega), memGet_memPut _ _ (by omega)]
  by_cases h : a ≤ b ∧ b < a + 4
  · obtain ⟨k, rfl⟩ := Nat.exists_eq_add_of_le h.1
    have hk : k < 4 := by omega
    interval_cases k <;> simp
  · simp only [h, if_false]
    rw [if_neg (by omega), if_neg (by omega), if_neg (by omega), if_neg (by omega)]

theorem barWrite_sram (s : State) {addr : Nat} (data : Nat) (hpd : s.getBit SYS.PWR_STAT.PD_ON 2 = true)
    (ha : addr - addr % 4 < 0x00400000) : s.barWrite addr data = s.memPut32 (addr - addr % 4) data := by
  simp [barWrite, hpd, ha]

theorem barWrite_register (s : State) {addr : Nat} (data : Nat) (hpd : s.getBit SYS.PWR_STAT.PD_ON 2 = true)
    (hal : addr % 4 = 0) (ha : 0x01000000 ≤ addr ∧ addr < 0x01300000 ∧ ¬(0x01018000 ≤ addr ∧ addr < 0x01018200))
    (hsel : PERF.CNT_SEL.CEN.placeAt addr = none) : s.barWrite addr data = s.regFields addr data := by
  obtain ⟨h1, h2, h3⟩ := ha
  have h4 : ¬addr < 0x00400000 := by omega
  have h5 : ¬(addr < 0x01000000 ∨ 0x01400000 ≤ addr) := by omega
  simp [barWrite, hpd, hal, h3, h4, h5, hsel, Nat.not_le.2 h2]

theorem barWrite_nothing (s : State) {addr : Nat} (data : Nat)
    (h : (0x00400000 ≤ addr ∧ addr < 0x01000000) ∨ 0x01400000 ≤ addr ∨ s.getBit SYS.PWR_STAT.PD_ON 2 = false) :
    s.barWrite addr data = s := by
  by_cases hpd : s.getBit SYS.PWR_STAT.PD_ON 2 = true
  · have h1 : ¬addr - addr % 4 < 0x00400000 := by simp [hpd] at h; omega
    have h2 : addr - addr % 4 < 0x01000000 ∨ 0x01400000 ≤ addr - addr % 4 := by simp [hpd] at h; omega
    simp [barWrite, hpd, h1, h2]
  · simp [barWrite, hpd]

/-! The window of the Belay island -/

theorem barWrite_belay (s : State) {addr : Nat} (data : Nat) (hpd : s.getBit SYS.PWR_STAT.PD_ON 2 = true)
    (hpd1 : s.getBit SYS.PWR_STAT.PD_ON 1 = true) (hal : addr % 4 = 0) (ha : 0x01300000 ≤ addr) (hb : addr < 0x01400000) :
    s.barWrite addr data = s.belayWrite addr data := by
  have h1 : ¬addr < 0x00400000 := by omega
  have h2 : ¬(addr < 0x01000000 ∨ 0x01400000 ≤ addr) := by omega
  have h3 : ¬addr < 0x01018200 := by omega
  simp [barWrite, hpd, hpd1, hal, ha, h1, h2, h3]

theorem get_accessRefused (s : State) (addr data : Nat) (q : Row) (i j : Nat) (h : ∀ k < 4, RING.lost.key k 0 ≠ q.key i j) :
    (s.accessRefused addr data).get q i j = s.get q i j := get_event _ _ _ _ _ _ _ _ _ _ h

theorem get_safetyRefused (s : State) (what data role : Nat) (q : Row) (i j : Nat) (h : ∀ k < 4, RING.lost.key k 0 ≠ q.key i j) :
    (s.safetyRefused what data role).get q i j = s.get q i j := by
  rw [safetyRefused, safetyLog, get_event _ _ _ _ _ _ _ _ _ _ h, get_accessRefused _ _ _ _ _ _ h]

theorem event_now (s : State) (c : EvClass) (inst source code arg0 arg1 : Nat) :
    (s.event c inst source code arg0 arg1).now = s.now := (sameRecords_event ..).now_eq

/-- The last entry of the event store is the event raised, unless it is an information event (R271). -/
theorem mem_evStore_event (s : State) {c : EvClass} (hc : c ≠ .info) (inst source code arg0 arg1 : Nat) :
    (c, ({ time := s.now, inst := inst, source := source, code := code, arg0 := arg0, arg1 := arg1 } : Event))
      ∈ (s.event c inst source code arg0 arg1).evStore := by
  simp [event, eventAt, hc]

theorem logged_safetyRefused (s : State) (what data role : Nat) : s.Logged (s.safetyRefused what data role) 0 0x020E what role := by
  have h := mem_evStore_event (s.accessRefused (0x01300000 + what) data) (c := .safety) (by decide) 0 0x30 0x020E what role
  rwa [accessRefused, event_now] at h

/-- A write of an RWS field by a register write: it is refused, and without a safety password session entered in the safety log (R3,
R306). -/
theorem belayWrite_rws (s : State) {addr : Nat} (data : Nat) (hmbx : mbxAddr addr = false)
    (hrws : (fieldsAt addr).any (fun f => f.1.acc == .rws) = true) :
    s.belayWrite addr data = if s.is BL.PWD_STAT.OPEN then s.accessRefused addr data
      else s.safetyRefused (addr - 0x01300000) data s.linkRole := by
  simp only [mbxAddr, Bool.or_eq_false_iff, beq_eq_false_iff_ne] at hmbx
  obtain ⟨⟨⟨⟨h1, h2⟩, h3⟩, h4⟩, h5⟩ := hmbx
  cases hopen : s.is BL.PWD_STAT.OPEN <;> simp [belayWrite, h1, h2, h3, h4, h5, hrws, hopen]

theorem linkRole_hostAccess (s : State) : s.hostAccess.linkRole = s.linkRole := by
  simp [linkRole, is, get_hostAccess_ne s 0 0 (q := SEC.viaDbg) (by decide),
    get_hostAccess_ne s 0 0 (q := SEC.DBG_STAT.ROLE) (by decide), get_hostAccess_ne s 0 0 (q := SEC.hostRole) (by decide)]

/-- A row keeps what a value cut to the field leaves of it. -/
theorem set_mod (s : State) (r : Row) (v i j : Nat) : s.set r (v % 2 ^ r.width) i j = s.set r v i j := by
  simp [set]

theorem set_cut (s : State) {r : Row} (hlo : r.lo = 0) (v i j : Nat) : s.set r (r.cut v) i j = s.set r v i j := by
  simp [Row.cut, hlo, set_mod]

theorem is_hostAccess (s : State) {q : Row} (h : SEC.idleT.key 0 0 ≠ q.key 0 0) : s.hostAccess.is q = s.is q := by
  simp [is, get_hostAccess_ne _ _ _ h]

theorem logged_hostAccess (s : State) {t : State} {inst code arg0 arg1 : Nat} (h : s.hostAccess.Logged t inst code arg0 arg1) :
    s.Logged t inst code arg0 arg1 := by
  rwa [Logged, hostAccess_now] at h

end State

section
open State

theorem exec_regWrite (addr : BitVec 26) (data : BitVec 32) (s : State) :
    exec (.regWrite addr data) s = .next (s.hostAccess.barWrite addr.toNat data.toNat) := rfl

theorem exec_regWrite_sram (addr : BitVec 26) (data : BitVec 32) (wd : Fin 1048576) (s : State)
    (hpd : s.getBit SYS.PWR_STAT.PD_ON 2 = true) (haddr : addr.toNat = 4 * wd.val) :
    ∃ t, exec (.regWrite addr data) s = .next t ∧
      (∀ k < 4, t.memGet (addr.toNat + k) = BitVec.ofNat 8 (data.toNat / 256 ^ k)) ∧
      (∀ a, a / 4 ≠ wd.val → t.memGet a = s.memGet a) := by
  have hwrite : s.hostAccess.barWrite addr.toNat data.toNat = s.hostAccess.memPut32 addr.toNat data.toNat := by
    rw [barWrite_sram _ _ ((pdOn_hostAccess s 2).trans hpd) (by omega), show addr.toNat - addr.toNat % 4 = addr.toNat by omega]
  refine ⟨_, (exec_regWrite addr data s).trans (congrArg _ hwrite), fun k hk => ?_, fun a ha => ?_⟩
  · rw [memGet_memPut32 _ _ (by omega), if_pos (by omega), Nat.add_sub_cancel_left]
  · rw [memGet_memPut32 _ _ (by omega), if_neg (by omega)]
    simp only [memGet, hostAccess_mem]

/-- REG_WRITE of a word with one field that no further rule names: LOCK, range and access code decide (R3 to R5). -/
theorem exec_regWrite_of_not_ruled {r lock reject : Row} {addr : BitVec 26} {a : Nat} (data : BitVec 32) (s : State)
    (hr : r ∉ ruledFields) (hpd : s.getBit SYS.PWR_STAT.PD_ON 2 = true) (haddr : addr.toNat = a)
    (hblock : a % 4 = 0 ∧ 0x01000000 ≤ a ∧ a < 0x01300000 ∧ ¬(0x01018000 ≤ a ∧ a < 0x01018200) ∧
      PERF.CNT_SEL.CEN.placeAt a = none)
    (hword : fieldsAt a = [(r, 0, 0)] ∧ fieldDomain a r 0 = 2 ∧ blockCtl a r 0 = (lock, reject, 0))
    (hlock : SEC.idleT.key 0 0 ≠ lock.key 0 0) :
    exec (.regWrite addr data) s = .next (if r.acc = .rwl ∧ s.is lock = true then s.hostAccess.accessRefused a data.toNat
      else if r.inRange (r.cut data.toNat) = true then s.hostAccess.putField r 0 0 (r.cut data.toNat)
      else s.hostAccess.set reject 1) := by
  subst haddr
  obtain ⟨hal, hlo, hhi, hmsix, hsel⟩ := hblock
  obtain ⟨hfs, hdom, hctl⟩ := hword
  have hpd' : s.hostAccess.getBit SYS.PWR_STAT.PD_ON 2 = true := (pdOn_hostAccess s 2).trans hpd
  rw [exec_regWrite, barWrite_register _ _ hpd' hal ⟨hlo, hhi, hmsix⟩ hsel,
    regFields_of_not_ruled hr _ _ hfs (by rw [hdom]; exact hpd'), hctl, is_hostAccess s hlock]

/-- An RW field (ALARM) takes its bits. -/
theorem exec_regWrite_alarm (data : BitVec 32) (s : State) (hpd : s.getBit SYS.PWR_STAT.PD_ON 2 = true) :
    exec (.regWrite 0x01000114 data) s = .next (s.hostAccess.set SYS.WAKE_CFG.ALARM data.toNat) := by
  rw [exec_regWrite_of_not_ruled (a := 0x01000114) data s (r := SYS.WAKE_CFG.ALARM) (lock := SYS.PWR_CTL.LOCK)
    (reject := SYS.PWR_CTL.CFG_REJECT) (by decide) hpd rfl (by decide) (by decide) (by decide)]
  have hacc : SYS.WAKE_CFG.ALARM.acc = .rw := rfl
  have hrange : ∀ v, SYS.WAKE_CFG.ALARM.inRange v = true := fun _ => rfl
  simp [hacc, hrange, putField, set_cut _ (r := SYS.WAKE_CFG.ALARM) rfl]

/-- Of an RWL field (SCRUB_PER, 16 to 65535) LOCK refuses every write, and CFG_REJECT tells of a value out of range. -/
theorem exec_regWrite_scrubPer (data : BitVec 32) (s : State) (hpd : s.getBit SYS.PWR_STAT.PD_ON 2 = true) :
    exec (.regWrite 0x011D0004 data) s = .next (if s.is MEM.CTL.LOCK = true then s.hostAccess.accessRefused 0x011D0004 data.toNat
      else if 16 ≤ data.toNat % 65536 then s.hostAccess.set MEM.SCRUB.SCRUB_PER data.toNat
      else s.hostAccess.set MEM.CTL.CFG_REJECT 1) := by
  have hr : MEM.SCRUB.SCRUB_PER ∉ ruledFields := by decide
  have hacc : MEM.SCRUB.SCRUB_PER.acc = .rwl := rfl
  have hrange : MEM.SCRUB.SCRUB_PER.inRange (MEM.SCRUB.SCRUB_PER.cut data.toNat) = decide (16 ≤ data.toNat % 65536) := by
    have : data.toNat % 65536 ≤ 65535 := by omega
    simp [Row.inRange, Row.cut, MEM.SCRUB.SCRUB_PER, this]
  rw [exec_regWrite_of_not_ruled (a := 0x011D0004) data s (lock := MEM.CTL.LOCK) (reject := MEM.CTL.CFG_REJECT) hr hpd rfl
    (by decide) (by decide) (by decide)]
  simp [hacc, hrange, putField_rwl hr _ hacc, set_cut _ (r := MEM.SCRUB.SCRUB_PER) rfl]

/-- Of a W1C field without a persisting condition (OVF) the ones written are cleared. -/
theorem exec_regWrite_ovf (data : BitVec 32) (s : State) (hpd : s.getBit SYS.PWR_STAT.PD_ON 2 = true) :
    exec (.regWrite 0x011C0004 data) s =
      .next (s.hostAccess.set PERF.OVF.OVF (s.get PERF.OVF.OVF - (s.get PERF.OVF.OVF &&& data.toNat))) := by
  rw [exec_regWrite_of_not_ruled (a := 0x011C0004) data s (r := PERF.OVF.OVF) (lock := PERF.CTL.LOCK)
    (reject := PERF.CTL.CFG_REJECT) (by decide) hpd rfl (by decide) (by decide) (by decide)]
  have hacc : PERF.OVF.OVF.acc = .w1c := rfl
  have hrange : ∀ v, PERF.OVF.OVF.inRange v = true := fun _ => rfl
  have hpersist : ∀ t : State, t.persist PERF.OVF.OVF 0 = 0 := fun _ => rfl
  have hcut : PERF.OVF.OVF.cut data.toNat = data.toNat := by
    simpa [Row.cut, PERF.OVF.OVF] using Nat.mod_eq_of_lt data.isLt
  have hget := get_hostAccess_ne s 0 0 (q := PERF.OVF.OVF) (by decide)
  have hlf : (PERF.OVF.OVF == POS.INC_STAT.LINE_FLT) = false := by decide
  simp [hacc, hrange, putField, hpersist, hcut, hget, hlf]

/-- An RWS field (HOLD_WMAX) refuses a register write, and without a safety password session the safety log has it (R3, R306). -/
theorem exec_regWrite_holdWmax (data : BitVec 32) (s : State) (hpd : s.getBit SYS.PWR_STAT.PD_ON 2 = true)
    (hpd1 : s.getBit SYS.PWR_STAT.PD_ON 1 = true) :
    exec (.regWrite 0x01300310 data) s = .next (if s.is BL.PWD_STAT.OPEN = true then s.hostAccess.accessRefused 0x01300310 data.toNat
      else s.hostAccess.safetyRefused 0x310 data.toNat s.linkRole) := by
  rw [exec_regWrite, show (0x01300310 : BitVec 26).toNat = 0x01300310 from rfl,
    barWrite_belay _ _ ((pdOn_hostAccess s 2).trans hpd) ((pdOn_hostAccess s 1).trans hpd1) (by decide) (by decide) (by decide),
    belayWrite_rws _ _ (by decide) (by decide), is_hostAccess s (q := BL.PWD_STAT.OPEN) (by decide), linkRole_hostAccess]

/-- Settles O7: each access code by what the writes of its register come to, the shared SRAM by the four bytes stored, and what no block
occupies by the access of the host alone. -/
theorem registerWritesByTheirAccessCode : Obligations.RegisterWritesByTheirAccessCode := by
  unfold Obligations.RegisterWritesByTheirAccessCode
  refine ⟨fun addr data wd s ⟨hpd, haddr⟩ => exec_regWrite_sram addr data wd s hpd haddr,
    fun addr data s h => ⟨_, exec_regWrite addr data s, ?_⟩,
    fun data s hpd => ⟨_, exec_regWrite_alarm data s hpd, rfl⟩,
    fun data s hpd => ⟨_, exec_regWrite_scrubPer data s hpd, ?_, ?_, ?_⟩,
    fun data s hpd => ⟨_, exec_regWrite_ovf data s hpd, ?_⟩,
    fun data s ⟨hpd, hpd1⟩ => ⟨_, exec_regWrite_holdWmax data s hpd hpd1, ?_, fun hopen => ?_⟩⟩
  · exact barWrite_nothing _ _ (by rwa [pdOn_hostAccess])
  · exact fun hl hv => by simp [hl, hv]
  · exact fun hl hv => by simp [hl, Nat.not_le.2 hv]
  · exact fun hl => if_pos hl
  · exact (get_set_self ..).trans (Nat.mod_eq_of_lt ((Nat.sub_le _ _).trans_lt (get_lt ..)))
  · have hget := get_hostAccess_ne s 0 0 (q := BL.HOLD_CFG.HOLD_WMAX) (by decide)
    split
    · rw [get_accessRefused _ _ _ _ _ _ (by decide), hget]
    · rw [get_safetyRefused _ _ _ _ _ _ _ (by decide), hget]
  · rw [hopen]
    exact logged_hostAccess s (logged_safetyRefused ..)

end

/-! ## The access of the host beside the write (R386) -/

/-- A host has opened a role session, and device time has gone on since. -/
def roleSessionOpen : State := { State.reset.set SEC.ROLE.OPEN 1 with now := 1 }

/-- At an address where no block is the write has no effect of its own; the session's idle time begins anew all the same. -/
theorem exec_regWrite_zero_roleSessionOpen :
    exec (.regWrite 0 0) roleSessionOpen = .next (roleSessionOpen.set SEC.idleT 1) :=
  congrArg Host.Outcome.next (by decide : roleSessionOpen.hostAccess.barWrite 0 0 = roleSessionOpen.set SEC.idleT 1)

theorem idleT_not_in_writeEffects : ∀ q ∈ Touch.writeEffects 0,
    q.lo < 32 ∧ q.placeAt (SEC.idleT.key 0 0 / 32) = none := by decide +kernel

/-- Refutes O46, by its clause on REG_WRITE alone: a write through BAR0 is an access of the host, which restarts the idle time of an open role
session (R386), and the row that holds that time is neither at the word's address nor in Touch.writeEffects. The list of the command in
Touch.host names it. -/
theorem not_hostLinkAndRegisterFrames : ¬ Obligations.HostLinkAndRegisterFrames := by
  unfold Obligations.HostLinkAndRegisterFrames
  rintro ⟨-, regWriteFrame, -, -⟩
  have h : (roleSessionOpen.set SEC.idleT 1).get SEC.idleT = roleSessionOpen.get SEC.idleT :=
    regWriteFrame 0 0 _ _ SEC.idleT 0 0 exec_regWrite_zero_roleSessionOpen (by decide)
      (keys_ne_of_placeAt_eq_none idleT_not_in_writeEffects)
  exact absurd h (by decide)

/-! ## A response to a slot whose controller is none of the block's (R308, R316) -/

/-- A network RESET whose level is out of range ends as a command that is not done (R439). -/
theorem exec_netReset_of_level_gt_three {s : State} {a : Nat} (h : s.command true 7 = some a) (hl : 3 < a % 256) :
    exec .netReset s = .next (s.commandDone true .range 0) := by
  have hno : (Status.range == Status.refused) = false := rfl
  simp [exec, execNetReset, h, State.commandReset, State.commandCheck, hl, hno]

/-- PD2 and PD6 are on, and a network RESET with level 4 from slot 0 is under way. The slot is not enabled, and its configuration reads
CHAN 1 (CAN) and INST 4: R308 refuses that INST for an enabled slot only, so that a CFG_WRITE during the command can leave it so. -/
def resetFromRewrittenSlot : State :=
  (((((State.reset.set SYS.PWR_STAT.PD_ON 0x44).set BL.netBusy 1).set BL.netOp 7).set BL.netArg 4).set BL.RS_CFG.CHAN 1 0).set
    BL.RS_CFG.INST 4 0

theorem txbAct_four_commandDone_resetFromRewrittenSlot :
    (resetFromRewrittenSlot.commandDone true .range 0).get CAN.TXB_ACT.ACT 4 = 2 ^ 31 := by decide +kernel

theorem txbAct_four_not_touched : ∀ q ∈ Touch.commandDone ++ Touch.commandReset,
    q.lo < 32 ∧ q.placeAt (CAN.TXB_ACT.ACT.key 4 0 / 32) = none := by decide +kernel

/-- Refutes O54, by NET_RESET: the command's response goes into buffer 31 of the controller that the slot's INST names, without a check that
there is one. With INST 4 it sets a bit of a TXB_ACT of controller 4, a place of no row of the list, where the block has controllers 0 to 3. -/
theorem not_clockResetPowerAndMemoryFrames : ¬ Obligations.ClockResetPowerAndMemoryFrames := by
  unfold Obligations.ClockResetPowerAndMemoryFrames
  intro frame
  obtain ⟨rowsKept, -, -⟩ := frame .netReset _ _ resetFromRewrittenSlot _ rfl
    (exec_netReset_of_level_gt_three (a := 4) (by decide) (by decide))
  have h := rowsKept CAN.TXB_ACT.ACT 4 0 (keys_ne_of_placeAt_eq_none txbAct_four_not_touched)
  rw [txbAct_four_commandDone_resetFromRewrittenSlot] at h
  exact absurd h (by decide)

end Sys2Proof.Machine
end

/-!
Islands and ports (01): what a gate island does with the downlink frames it receives (O20). The frame of the gate island commands (O52) and
the separation of one controller, island or engine from the others (O55) fail.
-/
section
namespace Sys2Proof.Machine

/-! ## Rows without a common place -/

/-- The rows share no place: their lowest bits differ, or one ends below the other. -/
def Row.apart (r q : Row) : Bool :=
  decide (r.lo < 32 ∧ q.lo < 32) && (r.lo != q.lo || (!r.eng && !q.eng &&
    decide (r.addr (r.c1 - 1) (r.c2 - 1) < q.base ∨ q.addr (q.c1 - 1) (q.c2 - 1) < r.base)))

theorem Row.base_le_addr (r : Row) (i j : Nat) : r.base ≤ r.addr i j := by
  simp only [Row.addr]
  omega

/-- The last place of a row has the greatest address. -/
theorem Row.addr_le_last {r : Row} (he : r.eng = false) {i j : Nat} (hi : i < r.c1) (hj : j < r.c2) :
    r.addr i j ≤ r.addr (r.c1 - 1) (r.c2 - 1) := by
  have h1 : r.s1 * i ≤ r.s1 * (r.c1 - 1) := Nat.mul_le_mul_left _ (by omega)
  have h2 : r.s2 * j ≤ r.s2 * (r.c2 - 1) := Nat.mul_le_mul_left _ (by omega)
  simp only [Row.addr, he, Bool.false_eq_true, if_false]
  omega

theorem Row.key_ne_of_apart {r q : Row} (h : r.apart q = true) {i j a b : Nat} (hi : i < r.c1) (hj : j < r.c2) (ha : a < q.c1)
    (hb : b < q.c2) : r.key i j ≠ q.key a b := by
  intro e
  simp only [Row.apart, Bool.and_eq_true, decide_eq_true_eq, Bool.or_eq_true, bne_iff_ne, Bool.not_eq_true'] at h
  obtain ⟨⟨hr, hq⟩, hlo | ⟨⟨hre, hqe⟩, hspan⟩⟩ := h <;> simp only [Row.key] at e
  · omega
  · have := Row.addr_le_last hre hi hj
    have := Row.addr_le_last hqe ha hb
    have := r.base_le_addr i j
    have := q.base_le_addr a b
    omega

theorem bit_eq_testBit (v n : Nat) : bit v n = v.testBit n := by
  rw [Nat.testBit_eq_decide_div_mod_eq]
  rfl

namespace State

/-- A row that is apart from every row of the list reads as before. -/
theorem RowsKept.get_eq {rs : List Row} {s t : State} (h : RowsKept rs s t) {r : Row} (hr : rs.all r.apart = true) {i j : Nat}
    (hi : i < r.c1) (hj : j < r.c2) : t.get r i j = s.get r i j :=
  h r i j fun q hq _ ha _ hb => Row.key_ne_of_apart (List.all_eq_true.1 hr q hq) hi hj ha hb

/-- The same of element 0. -/
theorem RowsKept.get_zero {rs : List Row} {s t : State} (h : RowsKept rs s t) {r : Row} {i : Nat} (hi : i < r.c1)
    (hr : (decide (0 < r.c2) && rs.all r.apart) = true) : t.get r i = s.get r i := by
  rw [Bool.and_eq_true, decide_eq_true_eq] at hr
  exact h.get_eq hr.2 hi hr.1

theorem RowsKept.is_zero {rs : List Row} {s t : State} (h : RowsKept rs s t) {r : Row} {i : Nat} (hi : i < r.c1)
    (hr : (decide (0 < r.c2) && rs.all r.apart) = true) : t.is r i = s.is r i := by
  simp only [is, h.get_zero hi hr]

theorem RowsKept.getBit_zero {rs : List Row} {s t : State} (h : RowsKept rs s t) {r : Row} (n : Nat) {i : Nat} (hi : i < r.c1)
    (hr : (decide (0 < r.c2) && rs.all r.apart) = true) : t.getBit r n i = s.getBit r n i := by
  simp only [getBit, h.get_zero hi hr]

theorem rowsKept_set_zero {rs : List Row} {s : State} {r : Row} {v i : Nat} (hi : i < r.c1) (h : r ∈ rs ∧ 0 < r.c2) :
    RowsKept rs s (s.set r v i) := rowsKept_set _ _ _ _ h.1 hi h.2

theorem rowsKept_raiseBit {rs : List Row} (s : State) (c : EvClass) {r : Row} (n i j inst : Nat) (h : r ∈ rs)
    (hl : RING.lost ∈ rs) (hi : i < r.c1) (hj : j < r.c2) : RowsKept rs s (s.raiseBit c r n i j inst) := by
  unfold raiseBit
  split
  · exact rowsKept_refl _ _
  · exact (rowsKept_set _ _ _ _ h hi hj).trans (rowsKept_event _ _ _ _ _ _ _ hl)

/-! What a written row reads, as a flag and bit by bit -/

theorem is_set_self (s : State) (r : Row) (v i j : Nat) : (s.set r v i j).is r i j = (v % 2 ^ r.width != 0) := by
  simp only [is, get_set_self]

theorem is_setb_self (s : State) (r : Row) (b : Bool) (i j : Nat) (hw : 1 < 2 ^ r.width) : (s.setb r b i j).is r i j = b := by
  cases b <;> simp [ofBool, is_set_self, Nat.mod_eq_of_lt hw]

theorem get_incSat_self (s : State) (r : Row) (i j : Nat) :
    (s.incSat r i j).get r i j = min (s.get r i j + 1) (2 ^ r.width - 1) := by
  have := Nat.two_pow_pos r.width
  rw [incSat_eq, get_set_self, Nat.mod_eq_of_lt (by omega)]

theorem getBit_setBit_self (s : State) (r : Row) {n : Nat} (i j : Nat) (hn : n < r.width) :
    (s.setBit r n true i j).getBit r n i j = true := by
  simp only [getBit, setBit, get_set_self, if_true, bit_eq_testBit, Nat.testBit_mod_two_pow, hn, decide_true, Bool.true_and]
  by_cases h : (s.get r i j).testBit n = true
  · rw [if_pos h, Nat.sub_add_cancel (Nat.ge_two_pow_of_testBit h), h]
  · rw [if_neg h, Nat.sub_zero, Nat.add_comm, Nat.testBit_two_pow_add_eq, eq_false_of_ne_true h, Bool.not_false]

/-! The frames of the shared operations -/

theorem rowsKept_perfWrap (s : State) (n : Nat) : RowsKept Touch.perfAdd s (s.perfWrap n) :=
  (rowsKept_raiseBit s .warning (r := PERF.OVF.OVF) n 0 0 n (by decide) (by decide) (by decide) (by decide)).trans
    (rowsKept_on _ fun _ => rowsKept_send _ _ _)

theorem rowsKept_perfAdd (s : State) (source inst event n : Nat) : RowsKept Touch.perfAdd s (s.perfAdd source inst event n) := by
  unfold perfAdd
  split
  · exact rowsKept_refl _ _
  · refine forN_rel (R := RowsKept Touch.perfAdd) (rowsKept_refl _) RowsKept.trans 32 _ (fun k t hk => ?_) s
    split
    · exact ((rowsKept_set_zero hk (by decide)).trans (rowsKept_set_zero hk (by decide))).trans
        (rowsKept_on _ fun _ => rowsKept_perfWrap _ _)
    · exact rowsKept_refl _ _

theorem rowsKept_osdAbort (s : State) (star : Nat) : RowsKept Touch.osdAbort s (s.osdAbort star) := by
  unfold osdAbort
  split <;> exact rowsKept_on _ fun _ =>
    (rowsKept_set_zero (by decide) (by decide)).trans (rowsKept_set_zero (by decide) (by decide))

end State

/-! ## The downlink frames of a gate island (R188 to R199) -/

namespace State

theorem rowsKept_downlink (s : State) {i : Nat} (hi : i < 12) : RowsKept [GI.iLost] s (s.downlink i) :=
  rowsKept_set_zero hi (by decide)

theorem rowsKept_preempt (s : State) {i : Nat} (hi : i < 12) (rank : Nat) (busy : Option DownFrame) :
    RowsKept Touch.frameAbort s (s.preempt i rank busy) := by
  unfold preempt
  split
  · exact rowsKept_on _ fun _ => (rowsKept_set_zero hi (by decide)).trans
      ((rowsKept_perfAdd _ _ _ _ _).mono fun _ => List.mem_cons_of_mem _)
  · exact rowsKept_refl _ _

/-- The rows that are written before a frame is taken: its link counts as heard, and the frame that it cuts short is counted. -/
def heardRows : List Row := [GI.iLost] ++ Touch.frameAbort

theorem rowsKept_heard (s : State) {i : Nat} (hi : i < 12) (rank : Nat) (busy : Option DownFrame) :
    RowsKept heardRows s ((s.downlink i).preempt i rank busy) :=
  ((rowsKept_downlink s hi).mono fun _ => List.mem_append_left _).trans
    ((rowsKept_preempt _ hi rank busy).mono fun _ => List.mem_append_right _)

/-- ABORT counts a frame cut short (R188). -/
theorem abort_preempt (s : State) {i : Nat} (hi : i < 12) (rank : Nat) (busy : Option DownFrame) :
    (s.preempt i rank busy).get GI.LINK.ABORT i =
      if busy.any (fun f => decide (frameRank f < rank)) then min (s.get GI.LINK.ABORT i + 1) (2 ^ GI.LINK.ABORT.width - 1)
      else s.get GI.LINK.ABORT i := by
  cases busy with
  | none => simp [preempt]
  | some f =>
    simp only [preempt, get_on, Option.any_some]
    rw [(rowsKept_perfAdd _ _ _ _ _).get_zero (r := GI.LINK.ABORT) hi (by decide), get_incSat_self]

theorem rowsKept_badCmd (s : State) {i : Nat} (hi : i < 12) : RowsKept [GI.iFlag, GI.LINK.BAD_CMD_CNT] s (s.badCmd i) :=
  (rowsKept_set_zero hi (by decide)).trans (rowsKept_set_zero hi (by decide))

theorem rowsKept_islandFlag (s : State) {i : Nat} (hi : i < 12) (n : Nat) : RowsKept [GI.iFlag] s (s.islandFlag i n) :=
  rowsKept_set_zero hi (by decide)

/-- An ignored command sets BAD_CMD (R194, R197). -/
theorem iFlag_badCmd (s : State) {i : Nat} (hi : i < 12) : (s.badCmd i).getBit GI.iFlag 0 i = true := by
  have hcount : RowsKept [GI.LINK.BAD_CMD_CNT] (s.islandFlag i 0) (s.badCmd i) := rowsKept_set_zero hi (by decide)
  rw [hcount.getBit_zero 0 hi (by decide)]
  exact getBit_setBit_self _ _ _ _ (by decide)

/-! EDGE (R192, R194, R197) -/

/-- What every EDGE command begins with: a frame cut to 48 is counted, and diagnostics of the star end. -/
def edgeCounted (s : State) (i dly wait : Nat) : State :=
  (s.on (decide (dly < 48 + wait)) (·.incSat GI.LINK.LATE_EDGE i)).osdAbort (i / 6)

/-- An edge waits with its direction, slot and start. -/
def edgeSet (s : State) (i : Nat) (on : Bool) (slot start : Nat) : State :=
  (((s.set GI.iPend 1 i).setb GI.iDir on i).set GI.iSlot slot i).set GI.iStartT start i

/-- The rows that an EDGE command writes after it is counted. -/
def edgeRows : List Row := [GI.iPend, GI.iDir, GI.iSlot, GI.iStartT, GI.iFlag, GI.LINK.BAD_CMD_CNT]

/-- The direction in force: that of the edge waiting, else that of the switch (R197). -/
def edgeForce (s : State) (i : Nat) : Bool := if s.is GI.iPend i then s.is GI.iDir i else s.is GI.iOn i

/-- A turn-off waits, or runs at the instant `ref` (R197). -/
def edgeGoing (s : State) (i ref : Nat) : Bool :=
  if s.is GI.iPend i then !s.is GI.iDir i else !s.is GI.iOn i && !s.is GI.iRunDir i && decide (ref < s.get GI.iEndT i)

section
variable (s : State) {i : Nat} (hi : i < 12)
include hi

theorem rowsKept_edgeCounted (dly wait : Nat) : RowsKept ([GI.LINK.LATE_EDGE] ++ Touch.osdAbort) s (s.edgeCounted i dly wait) :=
  (rowsKept_on _ fun _ => rowsKept_set_zero hi (by decide)).trans ((rowsKept_osdAbort _ _).mono (by decide))

/-- LATE_EDGE counts a frame that waited too long (R192). -/
theorem lateEdge_edgeCounted (dly wait : Nat) : (s.edgeCounted i dly wait).get GI.LINK.LATE_EDGE i =
    if dly < 48 + wait then min (s.get GI.LINK.LATE_EDGE i + 1) (2 ^ GI.LINK.LATE_EDGE.width - 1) else s.get GI.LINK.LATE_EDGE i := by
  rw [edgeCounted, (rowsKept_osdAbort _ _).get_zero hi (by decide), get_on]
  simp only [decide_eq_true_eq, get_incSat_self]

theorem rowsKept_edgeSet (on : Bool) (slot start : Nat) : RowsKept edgeRows s (s.edgeSet i on slot start) :=
  (((rowsKept_set_zero hi (by decide)).trans (rowsKept_set_zero hi (by decide))).trans
    (rowsKept_set_zero hi (by decide))).trans (rowsKept_set_zero hi (by decide))

theorem rowsKept_edgeTaken_edgeCounted (on : Bool) (slot dly wait ref : Nat) :
    RowsKept edgeRows (s.edgeCounted i dly wait) (s.edgeTaken i on slot dly wait ref) := by
  have hbad (t : State) : RowsKept edgeRows t (t.badCmd i) := (rowsKept_badCmd t hi).mono (by decide)
  have hflag (t : State) : RowsKept edgeRows t (t.islandFlag i 1) := (rowsKept_islandFlag t hi 1).mono (by decide)
  have hset (t : State) (start : Nat) : RowsKept edgeRows t (t.edgeSet i on slot start) := rowsKept_edgeSet t hi on slot start
  unfold edgeTaken
  extract_lets counted st force going start
  split
  · split
    · exact rowsKept_refl _ _
    · split
      · exact (hbad _).trans (hflag _)
      · split
        · exact hbad _
        · split
          · exact hbad _
          · exact hset _ _
  · split
    · exact hbad _
    · split
      · exact rowsKept_refl _ _
      · split
        · exact hflag _
        · exact hset _ _

theorem rowsKept_edgeTaken (on : Bool) (slot dly wait ref : Nat) :
    RowsKept (edgeRows ++ [GI.LINK.LATE_EDGE] ++ Touch.osdAbort) s (s.edgeTaken i on slot dly wait ref) :=
  ((rowsKept_edgeCounted s hi dly wait).mono (by decide)).trans
    ((rowsKept_edgeTaken_edgeCounted s hi on slot dly wait ref).mono (by decide))

/-- What an EDGE command reads of its switch is as before it was counted. -/
theorem edgeCounted_reads (dly wait ref : Nat) : (s.edgeCounted i dly wait).get GI.iSt i = s.get GI.iSt i ∧
    (s.edgeCounted i dly wait).edgeForce i = s.edgeForce i ∧ (s.edgeCounted i dly wait).edgeGoing i ref = s.edgeGoing i ref := by
  have hk := rowsKept_edgeCounted s hi dly wait
  refine ⟨hk.get_zero hi (by decide), ?_, ?_⟩
  · simp only [edgeForce, hk.is_zero (r := GI.iPend) hi (by decide),
      hk.is_zero (r := GI.iDir) hi (by decide), hk.is_zero (r := GI.iOn) hi (by decide)]
  · simp only [edgeGoing, hk.is_zero (r := GI.iPend) hi (by decide),
      hk.is_zero (r := GI.iDir) hi (by decide), hk.is_zero (r := GI.iOn) hi (by decide),
      hk.is_zero (r := GI.iRunDir) hi (by decide), hk.get_zero (r := GI.iEndT) hi (by decide)]

/-- A turn-on (R194, R197, R210): executed in READY only, unless the direction is in force. -/
theorem edgeTaken_true (slot dly wait ref : Nat) : s.edgeTaken i true slot dly wait ref =
    if s.get GI.iSt i = 0 then s.edgeCounted i dly wait
    else if s.get GI.iSt i = 4 then ((s.edgeCounted i dly wait).badCmd i).islandFlag i 1
    else if s.get GI.iSt i ≠ 3 then (s.edgeCounted i dly wait).badCmd i
    else if s.edgeForce i then (s.edgeCounted i dly wait).badCmd i
    else (s.edgeCounted i dly wait).edgeSet i true slot (ref + max 48 (dly - wait)) := by
  obtain ⟨hSt, hForce, -⟩ := edgeCounted_reads s hi dly wait ref
  rw [← hSt, ← hForce]
  rfl

/-- A turn-off (R194, R197, R210): ignored while one waits or runs, and not executed in SAFE. -/
theorem edgeTaken_false (slot dly wait ref : Nat) : s.edgeTaken i false slot dly wait ref =
    if s.edgeGoing i ref then (s.edgeCounted i dly wait).badCmd i
    else if !s.edgeForce i then s.edgeCounted i dly wait
    else if s.get GI.iSt i = 4 then (s.edgeCounted i dly wait).islandFlag i 1
    else (s.edgeCounted i dly wait).edgeSet i false slot (ref + max 48 (dly - wait)) := by
  obtain ⟨hSt, hForce, hGoing⟩ := edgeCounted_reads s hi dly wait ref
  rw [← hSt, ← hForce, ← hGoing]
  rfl

/-- The edge that is set waits, with its direction, slot and start. -/
theorem edgeSet_reads (on : Bool) (slot start : Nat) :
    (s.edgeSet i on slot start).is GI.iPend i = true ∧ (s.edgeSet i on slot start).is GI.iDir i = on ∧
    (s.edgeSet i on slot start).get GI.iSlot i = slot % 2 ^ GI.iSlot.width ∧
    (s.edgeSet i on slot start).get GI.iStartT i = start % 2 ^ GI.iStartT.width := by
  have hStart (t : State) : RowsKept [GI.iStartT] t (t.set GI.iStartT start i) := rowsKept_set_zero hi (by decide)
  have hSlot (t : State) : RowsKept [GI.iSlot] t (t.set GI.iSlot slot i) := rowsKept_set_zero hi (by decide)
  have hDir (t : State) : RowsKept [GI.iDir] t (t.setb GI.iDir on i) := rowsKept_set_zero hi (by decide)
  unfold edgeSet
  refine ⟨?_, ?_, ?_, get_set_self ..⟩
  · rw [(hStart _).is_zero hi (by decide), (hSlot _).is_zero hi (by decide),
      (hDir _).is_zero hi (by decide), is_set_self]
    decide
  · rw [(hStart _).is_zero hi (by decide), (hSlot _).is_zero hi (by decide)]
    exact is_setb_self _ _ _ _ _ (by decide)
  · rw [(hStart _).get_zero hi (by decide), get_set_self]

theorem lateEdge_edgeTaken (on : Bool) (slot dly wait ref : Nat) : (s.edgeTaken i on slot dly wait ref).get GI.LINK.LATE_EDGE i =
    if dly < 48 + wait then min (s.get GI.LINK.LATE_EDGE i + 1) (2 ^ GI.LINK.LATE_EDGE.width - 1) else s.get GI.LINK.LATE_EDGE i :=
  ((rowsKept_edgeTaken_edgeCounted s hi on slot dly wait ref).get_zero hi (by decide)).trans (lateEdge_edgeCounted s hi dly wait)

theorem abort_edgeTaken (on : Bool) (slot dly wait ref : Nat) :
    (s.edgeTaken i on slot dly wait ref).get GI.LINK.ABORT i = s.get GI.LINK.ABORT i :=
  (rowsKept_edgeTaken s hi on slot dly wait ref).get_zero hi (by decide)

/-- An EDGE command that is ignored sets BAD_CMD; the edge waiting and the switch stay as they are (R194, R197). -/
theorem edgeCounted_badCmd_reads (dly wait : Nat) :
    ((s.edgeCounted i dly wait).badCmd i).getBit GI.iFlag 0 i = true ∧
    ((s.edgeCounted i dly wait).badCmd i).is GI.iPend i = s.is GI.iPend i ∧
    ((s.edgeCounted i dly wait).badCmd i).is GI.iOn i = s.is GI.iOn i ∧
    ((s.edgeCounted i dly wait).badCmd i).get GI.iStartT i = s.get GI.iStartT i ∧
    ((s.edgeCounted i dly wait).badCmd i).get GI.iSlot i = s.get GI.iSlot i := by
  have hk := ((rowsKept_edgeCounted s hi dly wait).mono fun _ => List.mem_append_left _).trans
    ((rowsKept_badCmd (s.edgeCounted i dly wait) hi).mono fun _ => List.mem_append_right _)
  exact ⟨iFlag_badCmd _ hi, hk.is_zero hi (by decide), hk.is_zero hi (by decide), hk.get_zero hi (by decide),
    hk.get_zero hi (by decide)⟩

/-- A turn-on of a switch that is off in READY waits (R192, R194). -/
theorem edgeTaken_turnOn_ready (slot dly wait ref : Nat) (hst : s.get GI.iSt i = 3) (hforce : s.edgeForce i = false) :
    s.edgeTaken i true slot dly wait ref = (s.edgeCounted i dly wait).edgeSet i true slot (ref + max 48 (dly - wait)) := by
  simp [edgeTaken_true s hi, hst, hforce]

/-- A turn-on is not executed in UNCONF and HELD (R194). -/
theorem edgeTaken_turnOn_held (slot dly wait ref : Nat) (hst : s.get GI.iSt i = 1 ∨ s.get GI.iSt i = 2) :
    s.edgeTaken i true slot dly wait ref = (s.edgeCounted i dly wait).badCmd i := by
  rcases hst with hst | hst <;> simp [edgeTaken_true s hi, hst]

/-- In SAFE the Belay line is followed (R194, R210). -/
theorem edgeTaken_turnOn_safe (slot dly wait ref : Nat) (hst : s.get GI.iSt i = 4) :
    s.edgeTaken i true slot dly wait ref = ((s.edgeCounted i dly wait).badCmd i).islandFlag i 1 := by
  simp [edgeTaken_true s hi, hst]

/-- A turn-off of a switch that is on waits outside SAFE (R194). -/
theorem edgeTaken_turnOff_on (slot dly wait ref : Nat) (hst : s.get GI.iSt i ≠ 4) (hgoing : s.edgeGoing i ref = false)
    (hforce : s.edgeForce i = true) :
    s.edgeTaken i false slot dly wait ref = (s.edgeCounted i dly wait).edgeSet i false slot (ref + max 48 (dly - wait)) := by
  simp [edgeTaken_false s hi, hst, hgoing, hforce]

/-- An edge of the direction that waits already is ignored in READY (R197). -/
theorem edgeTaken_waiting_same (slot dly wait ref : Nat) (hpend : s.is GI.iPend i = true) (hst : s.get GI.iSt i = 3) :
    s.edgeTaken i (s.is GI.iDir i) slot dly wait ref = (s.edgeCounted i dly wait).badCmd i := by
  cases hdir : s.is GI.iDir i
  · simp [edgeTaken_false s hi, edgeGoing, hpend, hdir]
  · simp [edgeTaken_true s hi, edgeForce, hpend, hdir, hst]

end

/-! EDGE_START (R191, R195, R197 to R199, R215) -/

/-- The rows that a piton of the gate links writes when it acts and disarms. -/
def gatePitonRows : List Row := [RING.lost, BL.PIT_STAT.ARMED, GLK.PIT_CTL.ARM]

theorem pitDisarm_of_gate {s : State} (h : s.get BL.PIT_STAT.SOURCE = 0x20) :
    s.pitDisarm = (s.set BL.PIT_STAT.ARMED 0).set GLK.PIT_CTL.ARM 0 := by
  simp [pitDisarm, h]

/-- A piton of the gate links disarms in GLK (R215, R330). -/
theorem rowsKept_pitAct_of_pit {s : State} {sel inst : Nat} (h : s.pit 0x20 sel inst = true) : RowsKept gatePitonRows s s.pitAct := by
  have hlog : RowsKept gatePitonRows s
      (s.safetyLog 0 0x0216 (s.get BL.PIT_STAT.SOURCE) (s.get BL.pitInst * 256 + s.get BL.PIT_STAT.SEL)) :=
    rowsKept_event _ _ _ _ _ _ _ (by decide)
  have hsource : s.get BL.PIT_STAT.SOURCE = 0x20 := by simp_all [pit]
  rw [pitAct, pitDisarm_of_gate ((hlog.get_zero (by decide) (by decide)).trans hsource)]
  exact hlog.trans ((rowsKept_set_zero (by decide) (by decide)).trans (rowsKept_set_zero (by decide) (by decide)))

theorem rowsKept_islandCause (s : State) {i : Nat} (hi : i < 12) (n : Nat) : RowsKept [GI.iCause, GI.iLast] s (s.islandCause i n) :=
  (rowsKept_set_zero hi (by decide)).trans (rowsKept_set_zero hi (by decide))

theorem rowsKept_onPitons (s : State) {i : Nat} (hi : i < 12) : RowsKept (gatePitonRows ++ [GI.iCause, GI.iLast]) s (s.onPitons i) := by
  have acts (t : State) (n b : Nat) : RowsKept (gatePitonRows ++ [GI.iCause, GI.iLast]) t
      (t.on (t.pit 0x20 n i) fun u => u.pitAct.islandCause i b) :=
    rowsKept_on _ fun h => ((rowsKept_pitAct_of_pit h).mono fun _ => List.mem_append_left _).trans
      ((rowsKept_islandCause _ hi b).mono fun _ => List.mem_append_right _)
  exact (acts s 2 3).trans (acts _ 1 4)

/-- The rows that an edge writes after the switch has its direction: the end of the profile, the trim and what the dv/dt loop reports. -/
def edgeRunRows : List Row :=
  [GI.iEndT, GI.iTrim, GI.iTrimEnd, GI.iEdges, GI.iFlag, GI.iSats, GI.iSatRun, GI.satWarn]

/-- An edge that runs is no longer waiting, and the switch has its direction. -/
theorem runEdge_reads (s : State) {i : Nat} (hi : i < 12) (on : Bool) {slot : Nat} (hslot : slot < 16) (start : Nat)
    (dvdt : List (Option (BitVec 10))) :
    (s.runEdge i on slot start dvdt).is GI.iOn i = on ∧ (s.runEdge i on slot start dvdt).is GI.iPend i = false ∧
      (s.runEdge i on slot start dvdt).is GI.iRunDir i = on := by
  unfold runEdge
  extract_lets dir k b ovf w tgt p loop steps ms r sat begun switched counted
  have hk : k < 32 := by
    have : dir < 2 := by cases on <;> decide
    omega
  have hrun : RowsKept edgeRunRows ((begun.setb GI.iOn on i).setb GI.iRunDir on i)
      (if sat = true then ((counted.islandFlag i 3).incSat GI.iSats i).incSat GI.iSatRun i slot
        else (counted.set GI.iSatRun 0 i slot).set GI.satWarn 0 i slot) := by
    have hcounted : RowsKept edgeRunRows ((begun.setb GI.iOn on i).setb GI.iRunDir on i) counted :=
      ((rowsKept_set_zero hi (by decide)).trans (rowsKept_set _ _ _ _ (by decide) hi hk)).trans
        ((rowsKept_set_zero hi (by decide)).trans (rowsKept_set_zero hi (by decide)))
    split
    · exact hcounted.trans (((rowsKept_set_zero hi (by decide)).trans (rowsKept_set_zero hi (by decide))).trans
        (rowsKept_set _ _ _ _ (by decide) hi hslot))
    · exact hcounted.trans ((rowsKept_set _ _ _ _ (by decide) hi hslot).trans (rowsKept_set _ _ _ _ (by decide) hi hslot))
  have hOn (t : State) : RowsKept [GI.iOn] t (t.setb GI.iOn on i) := rowsKept_set_zero hi (by decide)
  have hDir (t : State) : RowsKept [GI.iRunDir] t (t.setb GI.iRunDir on i) := rowsKept_set_zero hi (by decide)
  have hbegun : begun.is GI.iPend i = false := by simp [begun, is]
  refine ⟨?_, ?_, ?_⟩
  · rw [hrun.is_zero hi (by decide), (hDir _).is_zero hi (by decide)]
    exact is_setb_self _ _ _ _ _ (by decide)
  · rw [hrun.is_zero hi (by decide), (hDir _).is_zero hi (by decide), (hOn _).is_zero hi (by decide), hbegun]
  · rw [hrun.is_zero hi (by decide)]
    exact is_setb_self _ _ _ _ _ (by decide)

/-! SOFT_OFF and cairn frames (R188, R193, R194, R206) -/

theorem iOn_softTurnOff (s : State) {i : Nat} (hi : i < 12) (going : Bool) : (s.softTurnOff i going).is GI.iOn i = false := by
  have hrest (t : State) : RowsKept [GI.iPend, GI.iEndT, GI.iSc, GI.iBc] t
      ((((t.set GI.iPend 0 i).set GI.iEndT 0 i).set GI.iSc 0 i).set GI.iBc 0 i) :=
    (((rowsKept_set_zero hi (by decide)).trans (rowsKept_set_zero hi (by decide))).trans
      (rowsKept_set_zero hi (by decide))).trans (rowsKept_set_zero hi (by decide))
  rw [softTurnOff, switchOff, (hrest _).is_zero hi (by decide), is_set_self]
  simp

theorem rowsKept_snapTake (s : State) {i : Nat} (hi : i < 12) : RowsKept [GI.snap] s (s.snapTake i) :=
  (((rowsKept_set_zero hi (by decide)).trans (rowsKept_set _ _ i 1 (by decide) hi (by decide))).trans
    (rowsKept_set _ _ i 2 (by decide) hi (by decide))).trans (rowsKept_set _ _ i 3 (by decide) hi (by decide))

/-- The reads of the snapshot that follow a cairn frame are sent, and write no row. -/
theorem rowsKept_cairnTaken_snapTake (s : State) (i : Nat) : RowsKept [] (s.snapTake i) (s.cairnTaken i) :=
  forN_rel (R := RowsKept []) (rowsKept_refl _) RowsKept.trans 16 _ (fun _ _ _ => rowsKept_send _ _ _) _

theorem rowsKept_cairnTaken (s : State) {i : Nat} (hi : i < 12) : RowsKept [GI.snap] s (s.cairnTaken i) :=
  (rowsKept_snapTake s hi).trans ((rowsKept_cairnTaken_snapTake s i).mono (by simp))

theorem rowsKept_cairnLate {rs : List Row} (s : State) (h : GLK.LINK_STAT.CAIRN_LATE ∈ rs) (hl : RING.lost ∈ rs) :
    RowsKept rs s (s.raise .warning GLK.LINK_STAT.CAIRN_LATE) := rowsKept_raise _ _ _ _ _ h hl (by decide) (by decide)

theorem cairnLate_raise (s : State) :
    (s.raise .warning GLK.LINK_STAT.CAIRN_LATE).is GLK.LINK_STAT.CAIRN_LATE = true :=
  is_raise _ _ _ _ _ _ (by decide) (by decide)

/-- The snapshot holds the counts that the island held (R193). -/
theorem snap_cairnTaken (s : State) (i : Nat) :
    (s.cairnTaken i).get GI.snap i 0 = s.get GI.iEdges i % 2 ^ GI.snap.width ∧
      (s.cairnTaken i).get GI.snap i 3 = s.get GI.iLast i % 2 ^ GI.snap.width := by
  have hsnap (j k : Nat) (h : j ≠ k) : GI.snap.key i j ≠ GI.snap.key i k := by
    simp only [Row.key, Row.addr, GI.snap]
    omega
  constructor
  · rw [rowsKept_cairnTaken_snapTake s i GI.snap i 0 (by simp), snapTake, get_set_ne _ _ _ _ _ _ (hsnap 3 0 (by decide)),
      get_set_ne _ _ _ _ _ _ (hsnap 2 0 (by decide)), get_set_ne _ _ _ _ _ _ (hsnap 1 0 (by decide)), get_set_self]
  · rw [rowsKept_cairnTaken_snapTake s i GI.snap i 3 (by simp), snapTake, get_set_self]

section
variable (s : State) (i rank ref : Nat)

theorem resend_none : s.resend i rank ref none = s := rfl

theorem resend_plain : s.resend i rank ref (some .plain) = s := rfl

theorem resend_softOff : s.resend i rank ref (some .softOff) = s := rfl

theorem resend_edge (on : Bool) (slot : Fin 16) (dly : BitVec 12) (ahead : BitVec 8) :
    s.resend i rank ref (some (.edge on slot dly ahead)) =
      s.on (decide (1 < rank)) (·.edgeTaken i on slot dly.toNat (128 + ahead.toNat) (ref + 128)) := rfl

theorem resend_cairn : s.resend i rank ref (some .cairn) =
    s.on (decide (2 < rank)) fun t => (t.cairnTaken i).raise .warning GLK.LINK_STAT.CAIRN_LATE := rfl

end

/-- An EDGE frame that an urgent frame has cut short is taken again behind it, a cairn frame behind a SOFT_OFF only (R188, R192, R210). -/
theorem rowsKept_resend (s : State) {i : Nat} (hi : i < 12) {rs : List Row} {rank : Nat} (ref : Nat) (busy : Option DownFrame)
    (hedge : ∀ q ∈ edgeRows ++ [GI.LINK.LATE_EDGE] ++ Touch.osdAbort, q ∈ rs)
    (hcairn : 2 < rank → ∀ q ∈ [GI.snap, GLK.LINK_STAT.CAIRN_LATE, RING.lost], q ∈ rs) : RowsKept rs s (s.resend i rank ref busy) := by
  rcases busy with _ | _ | ⟨on, slot, dly, ahead⟩ | _ | _
  case none => exact resend_none s i rank ref ▸ rowsKept_refl rs s
  case some.plain => exact resend_plain s i rank ref ▸ rowsKept_refl rs s
  case some.softOff => exact resend_softOff s i rank ref ▸ rowsKept_refl rs s
  case some.edge =>
    rw [resend_edge]
    exact rowsKept_on _ fun _ => (rowsKept_edgeTaken s hi _ _ _ _ _).mono hedge
  case some.cairn =>
    rw [resend_cairn]
    refine rowsKept_on _ fun h => ?_
    have hrs := hcairn (of_decide_eq_true h)
    exact ((rowsKept_cairnTaken s hi).mono (by simp [hrs])).trans
      (rowsKept_cairnLate _ (hrs _ (by decide)) (hrs _ (by decide)))

end State

section
open State

/-! ## The clauses of O20 that judge a frame by the state of the switch -/

/-- What the island has heard before it takes a frame leaves its switch, its edge waiting and its state alone. -/
theorem heard_reads (s : State) {i : Nat} (hi : i < 12) (rank : Nat) (busy : Option DownFrame) :
    let u := (s.downlink i).preempt i rank busy
    u.get GI.iSt i = s.get GI.iSt i ∧ u.is GI.iPend i = s.is GI.iPend i ∧ u.is GI.iDir i = s.is GI.iDir i ∧
      u.is GI.iOn i = s.is GI.iOn i ∧ u.get GI.iStartT i = s.get GI.iStartT i ∧ u.get GI.iSlot i = s.get GI.iSlot i ∧
      u.get GI.LINK.LATE_EDGE i = s.get GI.LINK.LATE_EDGE i := by
  have hk := rowsKept_heard s hi rank busy
  exact ⟨hk.get_zero hi (by decide), hk.is_zero hi (by decide), hk.is_zero hi (by decide),
    hk.is_zero hi (by decide), hk.get_zero hi (by decide), hk.get_zero hi (by decide),
    hk.get_zero hi (by decide)⟩

/-- EDGE with no edge waiting. -/
theorem exec_edgeCmd_of_not_waiting (isl : Fin 12) (on : Bool) (slot : Fin 16) (dly wait : BitVec 12) (ref : Nat)
    (busy : Option DownFrame) (s : State) (hpend : s.is GI.iPend isl = false) :
    ∃ t, exec (.edgeCmd isl on slot dly wait ref busy) s = .next t ∧
      (on = true → s.get GI.iSt isl = 3 → s.is GI.iOn isl = false → t.is GI.iPend isl = true ∧ t.is GI.iDir isl = true ∧
        t.get GI.iSlot isl = slot.val ∧ t.get GI.iStartT isl = (ref + max 48 (dly.toNat - wait.toNat)) % 2 ^ GI.iStartT.width) ∧
      (dly.toNat < 48 + wait.toNat → t.get GI.LINK.LATE_EDGE isl = min (s.get GI.LINK.LATE_EDGE isl + 1) (2 ^ GI.LINK.LATE_EDGE.width - 1)) ∧
      (48 + wait.toNat ≤ dly.toNat → t.get GI.LINK.LATE_EDGE isl = s.get GI.LINK.LATE_EDGE isl) ∧
      (busy = some .plain → t.get GI.LINK.ABORT isl = min (s.get GI.LINK.ABORT isl + 1) (2 ^ GI.LINK.ABORT.width - 1)) ∧
      (busy = none ∨ busy = some .cairn ∨ busy = some .softOff → t.get GI.LINK.ABORT isl = s.get GI.LINK.ABORT isl) ∧
      (on = true → s.get GI.iSt isl = 1 ∨ s.get GI.iSt isl = 2 →
        t.getBit GI.iFlag 0 isl = true ∧ t.is GI.iPend isl = false ∧ t.is GI.iOn isl = s.is GI.iOn isl) ∧
      (on = false → s.is GI.iOn isl = true → s.get GI.iSt isl ≠ 4 → t.is GI.iPend isl = true ∧ t.is GI.iDir isl = false) ∧
      (on = true → s.get GI.iSt isl = 4 → t.getBit GI.iFlag 1 isl = true ∧ t.is GI.iPend isl = false) := by
  have hi : isl.val < 12 := isl.isLt
  have hAbort := abort_preempt (s.downlink isl) hi 1 busy
  rw [(rowsKept_downlink s hi).get_zero hi (by decide)] at hAbort
  obtain ⟨hSt, hPend, -, hOn, -, -, hLate⟩ := heard_reads s hi 1 busy
  generalize hu : (s.downlink isl).preempt isl 1 busy = u at hAbort hSt hPend hOn hLate
  rw [hpend] at hPend
  have hForce : u.edgeForce isl = s.is GI.iOn isl := by simp [edgeForce, hPend, hOn]
  obtain ⟨hbFlag, hbPend, hbOn, -, -⟩ := edgeCounted_badCmd_reads u hi dly.toNat wait.toNat
  have hSet := edgeSet_reads (u.edgeCounted isl dly.toNat wait.toNat) hi on slot.val (ref + max 48 (dly.toNat - wait.toNat))
  obtain ⟨hsPend, hsDir, hsSlot, hsStart⟩ := hSet
  refine ⟨u.edgeTaken isl on slot dly.toNat wait.toNat ref, by rw [← hu]; rfl, ?_, fun h => ?_, fun h => ?_, ?_, ?_, ?_, ?_, ?_⟩
  · rintro rfl hst hoff
    rw [edgeTaken_turnOn_ready u hi _ _ _ _ (hSt.trans hst) (hForce.trans hoff)]
    exact ⟨hsPend, hsDir, hsSlot.trans (Nat.mod_eq_of_lt slot.isLt), hsStart⟩
  · rw [lateEdge_edgeTaken u hi, if_pos h, hLate]
  · rw [lateEdge_edgeTaken u hi, if_neg (Nat.not_lt.2 h), hLate]
  · rintro rfl
    exact (abort_edgeTaken u hi ..).trans hAbort
  · rintro (rfl | rfl | rfl) <;> exact (abort_edgeTaken u hi ..).trans hAbort
  · rintro rfl hst
    rw [edgeTaken_turnOn_held u hi _ _ _ _ (hSt ▸ hst)]
    exact ⟨hbFlag, hbPend.trans hPend, hbOn.trans hOn⟩
  · rintro rfl hon hst
    rw [edgeTaken_turnOff_on u hi _ _ _ _ (hSt ▸ hst) (by simp [edgeGoing, hPend, hOn, hon]) (hForce.trans hon)]
    exact ⟨hsPend, hsDir⟩
  · rintro rfl hst
    rw [edgeTaken_turnOn_safe u hi _ _ _ _ (hSt.trans hst)]
    exact ⟨getBit_setBit_self _ _ _ _ (by decide),
      ((rowsKept_islandFlag _ hi 1).is_zero hi (by decide)).trans (hbPend.trans hPend)⟩

/-- EDGE in the direction that waits already. -/
theorem exec_edgeCmd_of_waiting (isl : Fin 12) (on : Bool) (slot : Fin 16) (dly wait : BitVec 12) (ref : Nat)
    (busy : Option DownFrame) (s : State) (h : s.is GI.iPend isl = true ∧ s.is GI.iDir isl = on ∧ s.get GI.iSt isl = 3) :
    ∃ t, exec (.edgeCmd isl on slot dly wait ref busy) s = .next t ∧
      t.getBit GI.iFlag 0 isl = true ∧ t.get GI.iStartT isl = s.get GI.iStartT isl ∧ t.get GI.iSlot isl = s.get GI.iSlot isl := by
  have hi : isl.val < 12 := isl.isLt
  obtain ⟨hpend, rfl, hst⟩ := h
  obtain ⟨hSt, hPend, hDir, -, hStart, hSlot, -⟩ := heard_reads s hi 1 busy
  refine ⟨_, rfl, ?_⟩
  rw [← hDir, edgeTaken_waiting_same _ hi _ _ _ _ (hPend.trans hpend) (hSt.trans hst)]
  obtain ⟨hbFlag, -, -, hbStart, hbSlot⟩ := edgeCounted_badCmd_reads ((s.downlink isl).preempt isl 1 busy) hi dly.toNat wait.toNat
  exact ⟨hbFlag, hbStart.trans hStart, hbSlot.trans hSlot⟩

/-- EDGE_START. -/
theorem exec_edgeStart (isl : Fin 12) (dvdt : List (Option (BitVec 10))) (s : State) (hpend : s.is GI.iPend isl = true) :
    ∃ t, exec (.edgeStart isl dvdt) s = .next t ∧
      t.is GI.iOn isl = s.is GI.iDir isl ∧ t.is GI.iPend isl = false ∧ t.is GI.iRunDir isl = s.is GI.iDir isl := by
  have hi : isl.val < 12 := isl.isLt
  have hrun := runEdge_reads s hi (s.is GI.iDir isl) (get_lt s GI.iSlot isl 0) (s.get GI.iStartT isl) dvdt
  generalize hu : s.runEdge isl (s.is GI.iDir isl) (s.get GI.iSlot isl) (s.get GI.iStartT isl) dvdt = u at hrun
  have hk : RowsKept (gatePitonRows ++ [GI.iCause, GI.iLast]) u (u.on (s.is GI.iDir isl) (·.onPitons isl)) :=
    rowsKept_on _ fun _ => rowsKept_onPitons u hi
  obtain ⟨hOn, hPend, hDir⟩ := hrun
  refine ⟨u.on (s.is GI.iDir isl) (·.onPitons isl), ?_, ?_⟩
  · rw [← hu]
    simp [exec, execEdgeStart, hpend]
  · exact ⟨(hk.is_zero hi (by decide)).trans hOn, (hk.is_zero hi (by decide)).trans hPend,
      (hk.is_zero hi (by decide)).trans hDir⟩

/-- TRIM_SAT_WARN. -/
theorem exec_trimSatWarn (isl : Fin 12) (slot : Fin 16) (s : State)
    (h : 64 ≤ s.get GI.iSatRun isl slot ∧ s.is GI.satWarn isl slot = false) :
    ∃ t, exec (.trimSatWarn isl slot) s = .next t ∧ t.is GI.satWarn isl slot = true ∧
      (s.evWarning.length < 64 → t.evWarning.length = s.evWarning.length + 1) := by
  obtain ⟨hrun, hwarn⟩ := h
  refine ⟨(s.set GI.satWarn 1 isl slot).event .warning isl 0x20 0x0001 (GI.STATUS.TRIM_SAT.addr isl 0) (2 ^ GI.STATUS.TRIM_SAT.lo),
    by simp [exec, execTrimSatWarn, hrun, hwarn], ?_, fun hlen => ?_⟩
  · have hk := rowsKept_event (rs := [RING.lost]) (s.set GI.satWarn 1 isl slot) .warning isl 0x20 0x0001
      (GI.STATUS.TRIM_SAT.addr isl 0) (2 ^ GI.STATUS.TRIM_SAT.lo) (by decide)
    rw [is, hk.get_eq (by decide) isl.isLt slot.isLt, get_set_self]
    decide
  · simp [event, eventAt, queue, setQueue, hlen]

/-- SOFT_OFF. -/
theorem exec_softOff (isl : Fin 12) (src : BitVec 5) (ref : Nat) (busy : Option DownFrame) (s : State) :
    ∃ t, exec (.softOff isl src ref busy) s = .next t ∧
      (s.get GI.iSt isl = 3 → t.get GI.iSt isl = 2 ∧ t.is GI.iOn isl = false) ∧
      (s.get GI.iSt isl ≠ 3 → t.get GI.iSt isl = s.get GI.iSt isl ∧ t.is GI.iOn isl = s.is GI.iOn isl) ∧
      (busy = some .cairn → t.is GLK.LINK_STAT.CAIRN_LATE = true) := by
  have hi : isl.val < 12 := isl.isLt
  obtain ⟨hSt, -, -, hOn, -⟩ := heard_reads s hi 3 busy
  simp only [exec, execSoftOff]
  generalize (s.downlink isl).preempt isl 3 busy = u at hSt hOn
  generalize (!u.is GI.iOn isl && !u.is GI.iRunDir isl && decide (ref + 64 < u.get GI.iEndT isl)) = going
  have hk (t : State) : RowsKept (edgeRows ++ [GI.LINK.LATE_EDGE] ++ Touch.osdAbort ++ [GI.snap, GLK.LINK_STAT.CAIRN_LATE, RING.lost])
      t (t.resend isl 3 ref busy) :=
    rowsKept_resend t hi ref busy (fun _ => List.mem_append_left _) (fun _ _ => List.mem_append_right _)
  refine ⟨_, rfl, fun hst => ?_, fun hst => ?_, ?_⟩
  · have hset := rowsKept_set (rs := [GI.iSt]) (u.softTurnOff isl going) (r := GI.iSt) 2 isl 0 (by decide) hi (by decide)
    simp only [hSt, hst, beq_self_eq_true, on_true]
    exact ⟨((hk _).get_zero hi (by decide)).trans (get_set_self ..),
      ((hk _).is_zero hi (by decide)).trans ((hset.is_zero hi (by decide)).trans (iOn_softTurnOff u hi going))⟩
  · simp only [hSt, beq_eq_false_iff_ne.2 hst, on_false]
    exact ⟨((hk _).get_zero hi (by decide)).trans hSt, ((hk _).is_zero hi (by decide)).trans hOn⟩
  · rintro rfl
    rw [resend_cairn]
    exact cairnLate_raise _

/-- A configuration frame taken leaves the banks alone (R216). -/
theorem iBank_cfgTaken (s : State) {i : Nat} (hi : i < 12) : (s.cfgTaken i).get GI.iBank i = s.get GI.iBank i := by
  have hk : RowsKept [GI.iLost, GI.cfgOut, GI.STATUS.PEND] s (s.cfgTaken i) :=
    (((rowsKept_downlink s hi).mono (by decide)).trans (rowsKept_set_zero hi (by decide))).trans
      (rowsKept_set_zero hi (by decide))
  exact hk.get_zero hi (by decide)

/-- CFG_WR of a profile word: the inactive bank takes it. -/
theorem exec_cfgWr_profile (isl : Fin 12) (addr : BitVec 10) (data : BitVec 12) (s : State) :
    ∃ t, exec (.cfgWr isl addr data) s = .next t ∧
      (addr.toNat < 0x100 → t.get GI.iPb isl (256 * (1 - s.get GI.iBank isl) + addr.toNat) = data.toNat) ∧
      (addr.toNat < 0x100 → t.get GI.iBank isl = s.get GI.iBank isl) := by
  have hi : isl.val < 12 := isl.isLt
  have hBank := iBank_cfgTaken s hi
  have hwrite (h : addr.toNat < 0x100) : (s.cfgTaken isl).islandWrite isl addr.toNat data.toNat =
      (s.cfgTaken isl).set GI.iPb data.toNat isl (256 * (1 - s.get GI.iBank isl) + addr.toNat) := by
    simp only [islandWrite, h, if_true, hBank]
  refine ⟨_, rfl, fun h => ?_, fun h => ?_⟩ <;> rw [hwrite h]
  · exact (get_set_self ..).trans (Nat.mod_eq_of_lt data.isLt)
  · have hk := rowsKept_set (rs := [GI.iPb]) (s.cfgTaken isl) (r := GI.iPb) data.toNat isl
      (256 * (1 - s.get GI.iBank isl) + addr.toNat) (by decide) hi (show _ < 512 by omega)
    exact (hk.get_zero hi (by decide)).trans hBank

/-- CFG_WR of a setting. -/
theorem exec_cfgWr_setting (isl : Fin 12) (addr : BitVec 10) (data : BitVec 12) (k : Fin 13) (s : State) (haddr : addr.toNat = 0x180 + k) :
    ∃ t, exec (.cfgWr isl addr data) s = .next t ∧
      t.get (islandSettings.getD k GI.iVpos) isl = data.toNat % 2 ^ (islandSettings.getD k GI.iVpos).width := by
  have hrow : ∀ k : Fin 13, islandSettings[k.val]? = some (islandSettings.getD k GI.iVpos) := by decide
  have hwrite : (s.cfgTaken isl).islandWrite isl addr.toNat data.toNat =
      (s.cfgTaken isl).set (islandSettings.getD k GI.iVpos) data.toNat isl := by
    have h1 : ¬384 + k.val < 256 := by omega
    have h2 : ¬384 + k.val < 288 := by omega
    have h3 : ¬384 + k.val < 296 := by omega
    have h4 : ¬384 + k.val < 384 := by omega
    have h5 : 384 + k.val < 397 := by omega
    simp only [islandWrite, haddr, h1, h2, h3, h4, h5, if_true, if_false, Nat.add_sub_cancel_left, hrow]
  exact ⟨_, rfl, hwrite ▸ get_set_self ..⟩

/-- CFG_RD. -/
theorem exec_cfgRd (isl : Fin 12) (addr : BitVec 10) (s : State) :
    ∃ t, exec (.cfgRd isl addr) s = .next t ∧ t.is GI.iRd isl = true ∧ t.get GI.iRdA isl = addr.toNat := by
  have hk := rowsKept_set (rs := [GI.iRdA]) ((s.downlink isl).set GI.iRd 1 isl) (r := GI.iRdA) addr.toNat isl 0 (by decide) isl.isLt
    (by decide)
  exact ⟨_, rfl, (hk.is_zero isl.isLt (by decide)).trans (is_set_self ..),
    (get_set_self ..).trans (Nat.mod_eq_of_lt addr.isLt)⟩

/-- A frame with CAIRN. -/
theorem exec_cairnFrame (isl : Fin 12) (ref : Nat) (busy : Option DownFrame) (s : State) :
    ∃ t, exec (.cairnFrame isl ref busy) s = .next t ∧
      t.get GI.snap isl 0 = s.get GI.iEdges isl % 2 ^ GI.snap.width ∧ t.get GI.snap isl 3 = s.get GI.iLast isl % 2 ^ GI.snap.width ∧
      (busy = some .softOff → t.is GLK.LINK_STAT.CAIRN_LATE = true) := by
  have hi : isl.val < 12 := isl.isLt
  have hheard := rowsKept_heard s hi 2 busy
  have hEdges := hheard.get_zero (r := GI.iEdges) hi (by decide)
  have hLast := hheard.get_zero (r := GI.iLast) hi (by decide)
  simp only [exec, execCairnFrame]
  generalize (s.downlink isl).preempt isl 2 busy = u at hEdges hLast
  obtain ⟨hsEdges, hsLast⟩ := snap_cairnTaken u isl
  rw [hEdges] at hsEdges
  rw [hLast] at hsLast
  have hlate : RowsKept [GLK.LINK_STAT.CAIRN_LATE, RING.lost] (u.cairnTaken isl)
      ((u.cairnTaken isl).on (busy == some .softOff) (·.raise .warning GLK.LINK_STAT.CAIRN_LATE)) :=
    rowsKept_on _ fun _ => rowsKept_cairnLate _ (by decide) (by decide)
  have hk := (hlate.mono fun _ => List.mem_append_left _).trans
    (rowsKept_resend (rank := 2) _ hi ref busy (fun _ => List.mem_append_right _) (by decide))
  refine ⟨_, rfl, (hk.get_eq (by decide) hi (by decide)).trans hsEdges, (hk.get_eq (by decide) hi (by decide)).trans hsLast, ?_⟩
  rintro rfl
  rw [resend_softOff]
  exact cairnLate_raise _

/-- A frame that is discarded is counted at its end. -/
theorem exec_invalidFrame (isl : Fin 12) (up : Bool) (word : BitVec 40) (s : State) (h : gateFrameOk word.toNat = false) :
    ∃ t, exec (.invalidFrame isl up word) s = .next t ∧
      (up = true → t.get GI.LINK.BAD_CRC isl = min (s.get GI.LINK.BAD_CRC isl + 1) (2 ^ GI.LINK.BAD_CRC.width - 1)) ∧
      (up = false → t.get GI.iBad isl = min (s.get GI.iBad isl + 1) (2 ^ GI.iBad.width - 1)) := by
  refine ⟨_, rfl, ?_, ?_⟩ <;> rintro rfl <;> simp only [h, if_true, if_false, Bool.false_eq_true]
  · exact get_incSat_self _ _ _ _
  · exact get_incSat_self _ _ _ _

/-- A common-mode event. -/
theorem exec_commonModeEvent (isl : Fin 12) (s : State) :
    ∃ t, exec (.commonModeEvent isl) s = .next t ∧
      (isl.val % 2 = 1 → t.getBit GI.iFlag 2 isl = true) ∧ (isl.val % 2 = 0 → t = s) := by
  refine ⟨_, rfl, fun h => ?_, fun h => ?_⟩
  · simp only [isLow, h, beq_self_eq_true, if_true]
    exact getBit_setBit_self _ _ _ _ (by decide)
  · simp [isLow, h]

end

/-- Settles O20: the EDGE clauses by the two equations of `edgeTaken`, every other clause by the row that the command writes and by what the
rest of it leaves alone. -/
theorem gateDownlinkFramesAtTheIsland : Obligations.GateDownlinkFramesAtTheIsland := by
  unfold Obligations.GateDownlinkFramesAtTheIsland
  exact ⟨exec_edgeCmd_of_not_waiting, exec_edgeCmd_of_waiting, exec_edgeStart, exec_trimSatWarn, exec_softOff, exec_cfgWr_profile,
    exec_cfgWr_setting, exec_cfgRd, fun _ _ => ⟨_, rfl, rfl⟩, exec_cairnFrame, exec_invalidFrame, exec_commonModeEvent⟩

/-! ## A step of the off-state diagnostics beyond the twelfth (R212, R213) -/

/-- Diagnostics of star B run, and their count of steps stands at 12; the count is a row of four bits. -/
def diagnosticsPastLastStep : State := (State.reset.set GLK.OSD_RES.STAT_B 1).set GLK.osdN 12 1

/-- The third node voltage of the step goes to element 38 of star B's voltages, whose place is that of the DLI command. -/
theorem cmdKind_osdStep_diagnosticsPastLastStep :
    ∃ t, exec (.osdStep 1 0 0 1) diagnosticsPastLastStep = .next t ∧ t.get DLI.cmdKind = 1 :=
  ⟨_, rfl, by decide +kernel⟩

/-- Refutes O52, by OSD_STEP: the step stores the node voltages at three times the count of steps, without a check that the count is below
12. From 12 on the places are beyond star B's 36 voltages, and one of them is that of the command to the DLI, which the command's list does
not name. The statement takes every state, so this one too. -/
theorem not_gateIslandFrames : ¬ Obligations.GateIslandFrames := by
  unfold Obligations.GateIslandFrames
  intro frame
  obtain ⟨t, hexec, hkind⟩ := cmdKind_osdStep_diagnosticsPastLastStep
  obtain ⟨rowsKept, -, -⟩ := frame _ _ _ _ t rfl hexec
  have h := rowsKept DLI.cmdKind 0 0 (keys_ne_of_placeAt_eq_none (by decide +kernel))
  rw [hkind] at h
  exact absurd h (by decide)

/-! ## A piton of one controller armed through another (R328, R330, R365) -/

/-- Controller 0 has an attempt of buffer 0 in progress, and its ACK piton is armed; the piton's unit, whose ARM bit stands, is
controller 1. -/
def pitonArmedThroughOther : State :=
  (((((((State.reset.set CAN.STATUS.STATE 2 0).set CAN.cur 1 0).set BL.PIT_STAT.ARMED 1).set BL.PIT_STAT.SOURCE 0x1A).set
    BL.PIT_STAT.SEL 2).set BL.pitInst 0).set BL.pitUnit 1).set CAN.PIT_CTL.ARM 1 1

/-- The piton acts at the end of controller 0's frame and disarms in controller 1. -/
theorem arm_canTxDone_pitonArmedThroughOther :
    ∃ t, exec (.canTxDone 0 0) pitonArmedThroughOther = .next t ∧ t.get CAN.PIT_CTL.ARM 1 = 0 :=
  ⟨_, rfl, by decide +kernel⟩

/-- Refutes O55, by CAN_TX_DONE: a piton acts on the controller that it is armed for (pitInst), and disarms in the one that it was armed
through (pitUnit). These are two rows; in a state where they differ the end of a frame on controller 0 clears PIT_CTL.ARM of
controller 1. The statement takes every state, so this one too. -/
theorem not_commandsKeepToTheirInstance : ¬ Obligations.CommandsKeepToTheirInstance := by
  unfold Obligations.CommandsKeepToTheirInstance
  intro alone
  obtain ⟨t, hexec, harm⟩ := arm_canTxDone_pitonArmedThroughOther
  have h := alone _ _ _ _ t rfl hexec CAN.PIT_CTL.ARM (by decide) 1 (by decide) (by decide) 0 (by decide)
  rw [harm] at h
  exact absurd h (by decide)

end Sys2Proof.Machine
end

/-!
Current and voltage sensing (02): what the current samples, the offset measurement, phase-voltage reconstruction, V_dc and the Belay
island's redundant path come to (O8 to O11), the reset values (O6), and the frame of the sensing, position and housekeeping commands (O48).
-/
section
namespace Sys2Proof.Machine

/-! ## Frames: the rows and the records that an operation leaves alone -/

namespace Rec

variable {f : Rec} {s t u : State}

theorem Kept.refl (f : Rec) (s : State) : f.Kept s s := by
  cases f <;> simp [Kept]

theorem Kept.trans (h : f.Kept s t) (k : f.Kept t u) : f.Kept s u := by
  cases f
  case events => exact fun c => (k c).trans (h c)
  case ecc => exact ⟨k.1.trans h.1, k.2.trans h.2⟩
  case eng => exact ⟨k.1.trans h.1, k.2.trans h.2⟩
  all_goals exact Eq.trans k h

/-- A change of rows alone keeps every record. -/
theorem kept_set (f : Rec) (s : State) (r : Row) (v i j : Nat) : f.Kept s (s.set r v i j) := by
  cases f
  case events => exact fun c => by cases c <;> rfl
  all_goals simp [Kept]

theorem kept_send (s : State) (m : Msg) (hf : f ≠ .out) : f.Kept s (s.send m) := by
  cases f
  case out => exact absurd rfl hf
  case events => exact fun c => by cases c <;> rfl
  all_goals simp [Kept]

theorem kept_setFree (s : State) (r : Row) (i j : Nat) (hf : f ≠ .fresh) : f.Kept s (s.setFree r i j) := by
  cases f
  case fresh => exact absurd rfl hf
  case events => exact fun c => by cases c <;> rfl
  all_goals simp [Kept]

theorem kept_setQueue (s : State) (c : EvClass) (q : List Event) (hf : f ≠ .events) : f.Kept s (s.setQueue c q) := by
  cases f
  case events => exact absurd rfl hf
  all_goals simp [Kept]

theorem kept_evStore (s : State) (e : List (EvClass × Event)) (hf : f ≠ .store) : f.Kept s { s with evStore := e } := by
  cases f
  case store => exact absurd rfl hf
  case events => exact fun c => by cases c <;> rfl
  all_goals simp [Kept]

/-- An event is entered in its class's queue and in the event store (R270, R271). -/
theorem kept_event (s : State) (c : EvClass) (inst source code arg0 arg1 : Nat) (he : f ≠ .events) (hs : f ≠ .store) :
    f.Kept s (s.event c inst source code arg0 arg1) := by
  unfold State.event State.eventAt
  extract_lets e s1
  have h1 : f.Kept s s1 := by
    simp only [s1]
    split
    · exact kept_setQueue _ _ _ he
    · exact kept_set ..
  split
  · exact h1
  · exact h1.trans (kept_evStore _ _ hs)

end Rec

theorem event_pending (s : State) (c : EvClass) (inst source code arg0 arg1 : Nat) :
    (s.event c inst source code arg0 arg1).pending = s.pending := by
  have h := State.sameRecords_event s c inst source code arg0 arg1
  unfold State.SameRecords at h
  rw [h]

/-- Between `s` and `t` nothing changes but the rows of `rs` and the records of `fs`. -/
structure State.Framed (rs : List Row) (fs : List Rec) (s t : State) : Prop where
  /-- Every other place reads as before. -/
  rows : State.RowsKept rs s t
  /-- Every other record is as before. -/
  recs : ∀ f, f ∉ fs → f.Kept s t
  /-- The queue of commands is as before. -/
  pending : t.pending = s.pending

namespace State

theorem framed_refl {rs : List Row} {fs : List Rec} (s : State) : Framed rs fs s s :=
  ⟨rowsKept_refl _ _, fun f _ => Rec.Kept.refl f s, rfl⟩

namespace Framed

variable {rs qs : List Row} {fs gs : List Rec} {s t u : State}

theorem trans (h : Framed rs fs s t) (k : Framed rs fs t u) : Framed rs fs s u :=
  ⟨h.rows.trans k.rows, fun f hf => (h.recs f hf).trans (k.recs f hf), k.pending.trans h.pending⟩

theorem mono (h : Framed rs fs s t) (hs : (∀ r ∈ rs, r ∈ qs) ∧ ∀ f ∈ fs, f ∈ gs) : Framed qs gs s t :=
  ⟨h.rows.mono hs.1, fun f hf => h.recs f fun hm => hf (hs.2 f hm), h.pending⟩

/-- A further operation whose lists are part of the ones in force. -/
theorem andThen (h : Framed qs gs s t) (k : Framed rs fs t u) (hs : (∀ r ∈ rs, r ∈ qs) ∧ ∀ f ∈ fs, f ∈ gs) :
    Framed qs gs s u :=
  h.trans (k.mono hs)

theorem set (h : Framed rs fs s t) {r : Row} {v i j : Nat} (hr : r ∈ rs ∧ i < r.c1 ∧ j < r.c2) : Framed rs fs s (t.set r v i j) :=
  h.trans ⟨rowsKept_set _ _ _ _ hr.1 hr.2.1 hr.2.2, fun f _ => Rec.kept_set f .., rfl⟩

/-- A write of a member that is given by a number. -/
theorem setIn (h : Framed rs fs s t) {r : Row} {v i j : Nat} (hi : i < r.c1) (hr : r ∈ rs ∧ j < r.c2) :
    Framed rs fs s (t.set r v i j) := h.set ⟨hr.1, hi, hr.2⟩

theorem event (h : Framed rs fs s t) {c : EvClass} {inst source code arg0 arg1 : Nat}
    (he : RING.lost ∈ rs ∧ .events ∈ fs ∧ .store ∈ fs) : Framed rs fs s (t.event c inst source code arg0 arg1) :=
  h.trans ⟨rowsKept_event _ _ _ _ _ _ _ he.1,
    fun _ hf => Rec.kept_event _ _ _ _ _ _ _ (fun e => hf (e ▸ he.2.1)) (fun e => hf (e ▸ he.2.2)), event_pending ..⟩

theorem raise (h : Framed rs fs s t) {c : EvClass} {r : Row} {i j inst : Nat} (hr : r ∈ rs ∧ i < r.c1 ∧ j < r.c2)
    (he : RING.lost ∈ rs ∧ .events ∈ fs ∧ .store ∈ fs) : Framed rs fs s (t.raise c r i j inst) := by
  unfold State.raise
  split
  · exact h
  · exact (h.set hr).event he

theorem raiseBit (h : Framed rs fs s t) {c : EvClass} {r : Row} {n i j inst : Nat} (hr : r ∈ rs ∧ i < r.c1 ∧ j < r.c2)
    (he : RING.lost ∈ rs ∧ .events ∈ fs ∧ .store ∈ fs) : Framed rs fs s (t.raiseBit c r n i j inst) := by
  unfold State.raiseBit
  split
  · exact h
  · exact (h.set hr).event he

theorem raiseArg (h : Framed rs fs s t) {c : EvClass} {r : Row} {arg1 i j inst : Nat} (hr : r ∈ rs ∧ i < r.c1 ∧ j < r.c2)
    (he : RING.lost ∈ rs ∧ .events ∈ fs ∧ .store ∈ fs) : Framed rs fs s (t.raiseArg c r arg1 i j inst) := by
  unfold State.raiseArg
  split
  · exact h
  · exact (h.set hr).event he

theorem send (h : Framed rs fs s t) {m : Msg} (ho : .out ∈ fs) : Framed rs fs s (t.send m) :=
  h.trans ⟨rowsKept_send _ _ _, fun _ hf => Rec.kept_send _ _ (fun e => hf (e ▸ ho)), rfl⟩

theorem on (h : Framed rs fs s t) {c : Bool} {f : State → State} (hf : c = true → Framed rs fs t (f t)) :
    Framed rs fs s (t.on c f) := by
  cases c
  · exact h
  · exact h.trans (hf rfl)

theorem ite {c : Prop} [Decidable c] (h : c → Framed rs fs s t) (k : ¬c → Framed rs fs s u) :
    Framed rs fs s (if c then t else u) := by
  split
  · exact h ‹_›
  · exact k ‹_›

theorem forN (h : Framed rs fs s t) {n : Nat} {f : Nat → State → State}
    (hf : ∀ k u, k < n → Framed rs fs u (f k u)) : Framed rs fs s (t.forN n f) :=
  h.trans (forN_rel (R := Framed rs fs) framed_refl (fun h k => h.trans k) n f hf t)

theorem foldl (h : Framed rs fs s t) {α : Type} {f : State → α → State} (l : List α)
    (hf : ∀ u, ∀ x ∈ l, Framed rs fs u (f u x)) : Framed rs fs s (l.foldl f t) := by
  induction l generalizing t with
  | nil => exact h
  | cons x l ih =>
    exact ih (h.trans (hf t x (by simp))) fun u y hy => hf u y (by simp [hy])

/-- The trip level of a power unit. -/
theorem tripIn (h : Framed rs fs s t) {pu src : Nat} {level : Bool} (hp : pu < 5) (hr : PU.tripIn ∈ rs) :
    Framed rs fs s (t.tripIn pu src level) := h.setIn hp ⟨hr, by decide⟩

end Framed

/-- A safe-state cause of an axis, in joined mode of both (R284). -/
theorem framed_callSafe (s : State) {a : Nat} (ha : a < 2) (cause : Nat) : Framed [BL.causeReq] [] s (s.callSafe a cause) :=
  .ite (fun _ => (framed_refl s).set (by decide) |>.set (by decide)) fun _ => (framed_refl s).setIn ha (by decide)

/-- A piton of a block with one ARM bit acts: it is logged and disarms (R330). -/
theorem framed_pitAct {s : State} {source sel inst : Nat} (h : s.pit source sel inst = true)
    (hs : source ≠ 0x12 ∧ source ≠ 0x15 ∧ source ≠ 0x1A) : Framed Touch.pitAct [.events, .store] s s.pitAct := by
  have hlog : Framed Touch.pitAct [.events, .store] s
      (s.safetyLog 0 0x0216 (s.get BL.PIT_STAT.SOURCE) (s.get BL.pitInst * 256 + s.get BL.PIT_STAT.SEL)) :=
    (framed_refl s).event (by decide)
  have hsource : s.get BL.PIT_STAT.SOURCE = source := by simp_all [pit]
  unfold pitAct
  generalize s.safetyLog 0 0x0216 (s.get BL.PIT_STAT.SOURCE) (s.get BL.pitInst * 256 + s.get BL.PIT_STAT.SEL) = u at hlog
  have hu : u.get BL.PIT_STAT.SOURCE = source := (hlog.rows.get_zero (by decide) (by decide)).trans hsource
  have hdis : Framed Touch.pitAct [.events, .store] s (u.set BL.PIT_STAT.ARMED 0) := hlog.set (by decide)
  have harm {c : Prop} [Decidable c] {arm : Row} {v : State} {i : Nat} (hr : arm ∈ Touch.pitAct ∧ i < arm.c1 ∧ 0 < arm.c2)
      (k : Framed Touch.pitAct [.events, .store] s v) :
      Framed Touch.pitAct [.events, .store] s (if c then (u.set BL.PIT_STAT.ARMED 0).set arm 0 i else v) :=
    .ite (fun _ => hdis.set hr) fun _ => k
  unfold pitDisarm
  simp only [hu, hs, if_false]
  exact harm (by decide) <| harm (by decide) <| harm (by decide) <| harm (by decide) <| harm (by decide) <| harm (by decide) <|
    harm (by decide) <| harm (by decide) <| harm (by decide) <| harm (by decide) <| harm (by decide) <| harm (by decide) hdis

/-- A piton is armed, or the write is ignored (R329, R330). -/
theorem framed_pitArm {rs : List Row} {s t : State} (h : Framed rs [.events, .store] s t) {arm : Row} {source sel inst data : Nat}
    {real : Bool} (harm : arm ∈ rs ∧ 0 < arm.c1 ∧ 0 < arm.c2) (hrs : ∀ r ∈ Touch.pitArm, r ∈ rs) :
    Framed rs [.events, .store] s (s.pitArm t arm 0 source sel inst data real) := by
  have hset (u : State) : Framed Touch.pitArm [.events, .store] u (u.pitSet source sel inst 0) := by
    unfold pitSet safetyLog
    exact (framed_refl u).set (by decide) |>.set (by decide) |>.set (by decide) |>.set (by decide) |>.set (by decide)
      |>.set (by decide) |>.event (by decide)
  unfold pitArm
  refine .ite (fun _ => h) fun _ => .ite (fun _ => ?_) fun _ => ?_
  · exact (h.trans ((hset t).mono ⟨hrs, fun _ hf => hf⟩)).set harm
  · exact (framed_refl s).event ⟨hrs _ (by decide), by decide⟩

/-- Whatever state a command answers is framed. -/
def FramedBy (rs : List Row) (fs : List Rec) (s : State) (o : Out) : Prop := ∀ t, o = .next t → Framed rs fs s t

theorem FramedBy.next {rs : List Row} {fs : List Rec} {s t : State} (h : Framed rs fs s t) : FramedBy rs fs s (.next t) :=
  fun _ e => Host.Outcome.next.inj e ▸ h

theorem FramedBy.ite {rs : List Row} {fs : List Rec} {s : State} {c : Prop} [Decidable c] {o p : Out} (h : c → FramedBy rs fs s o)
    (k : ¬c → FramedBy rs fs s p) : FramedBy rs fs s (if c then o else p) := by
  split
  · exact h ‹_›
  · exact k ‹_›

/-- The command changes nothing but what `touch` lists for it. -/
def Frames (touch : Instr → Option (List Row × List Rec)) (c : Instr) : Prop :=
  ∀ rs fs s, touch c = some (rs, fs) → FramedBy rs fs s (exec c s)

theorem Frames.intro {touch : Instr → Option (List Row × List Rec)} {c : Instr} {rs : List Row} {fs : List Rec}
    (ht : touch c = some (rs, fs)) (h : ∀ s, FramedBy rs fs s (exec c s)) : Frames touch c := by
  intro rs' fs' s ht'
  obtain ⟨rfl, rfl⟩ := Prod.mk.inj (Option.some.inj (ht.symm.trans ht'))
  exact h s

/-- A command without a list has no frame to keep. -/
theorem Frames.of_none {touch : Instr → Option (List Row × List Rec)} {c : Instr} (ht : touch c = none) : Frames touch c :=
  fun _ _ _ h => absurd (ht.symm.trans h) nofun

end State
end Sys2Proof.Machine
end

section
namespace Sys2Proof.Machine

namespace State

/-! ## Bits and flags -/

theorem getBit_setBit_false (s : State) (r : Row) (n i j : Nat) : (s.setBit r n false i j).getBit r n i j = false := by
  have hlt : s.get r i j < 2 ^ r.width := get_lt s r i j
  simp only [getBit, setBit, get_set_self, Bool.false_eq_true, if_false, Nat.add_zero]
  rw [Nat.mod_eq_of_lt (Nat.lt_of_le_of_lt (Nat.sub_le _ _) hlt)]
  by_cases h : bit (s.get r i j) n = true
  · have hv : s.get r i j / 2 ^ n % 2 = 1 := beq_iff_eq.1 h
    have hdiv := Nat.sub_mul_div (s.get r i j) (2 ^ n) 1
    rw [Nat.mul_one] at hdiv
    rw [if_pos h, bit, hdiv, beq_eq_false_iff_ne]
    omega
  · rw [if_neg h, Nat.sub_zero]
    exact Bool.eq_false_iff.2 h

theorem getBit_setBit (s : State) (r : Row) {n : Nat} (b : Bool) (i j : Nat) (hn : n < r.width) :
    (s.setBit r n b i j).getBit r n i j = b := by
  cases b
  · exact getBit_setBit_false ..
  · exact getBit_setBit_self s r i j hn

/-- A bit below the one that is written is kept. -/
theorem getBit_setBit_lt (s : State) (r : Row) {m n : Nat} (b : Bool) (i j : Nat) (hm : m < n) (hn : n < r.width) :
    (s.setBit r n b i j).getBit r m i j = s.getBit r m i j := by
  have hbit (v : Nat) : bit v m = bit (v % 2 ^ n) m := by
    rw [bit_eq_testBit, bit_eq_testBit, Nat.testBit_mod_two_pow, decide_eq_true hm, Bool.true_and]
  have hcut (v : Nat) : v % 2 ^ r.width % 2 ^ n = v % 2 ^ n := Nat.mod_mod_of_dvd _ (Nat.pow_dvd_pow 2 hn.le)
  have hsub : (s.get r i j - if bit (s.get r i j) n then 2 ^ n else 0) % 2 ^ n = s.get r i j % 2 ^ n := by
    split
    case isTrue h =>
      rw [bit_eq_testBit] at h
      exact (Nat.mod_eq_sub_mod (Nat.ge_two_pow_of_testBit h)).symm
    case isFalse => rw [Nat.sub_zero]
  have hadd (v : Nat) : (v + if b then 2 ^ n else 0) % 2 ^ n = v % 2 ^ n := by
    cases b
    · rfl
    · exact Nat.add_mod_right ..
  rw [getBit, getBit, setBit, get_set_self, hbit, hcut, hadd, hsub, ← hbit]

theorem is_set_one (s : State) (r : Row) (i j : Nat) (hw : 1 < 2 ^ r.width) : (s.set r 1 i j).is r i j = true := by
  rw [is_set_self, Nat.mod_eq_of_lt hw]
  rfl

theorem is_set_zero (s : State) (r : Row) (i j : Nat) : (s.set r 0 i j).is r i j = false := by
  rw [is_set_self, Nat.zero_mod]
  rfl

/-- A write leaves the rows that are distinct from the written one alone. -/
theorem rowsKept_set_only (s : State) {r : Row} {v i j : Nat} (hi : i < r.c1) (hj : j < r.c2) : RowsKept [r] s (s.set r v i j) :=
  rowsKept_set _ _ _ _ (by simp) hi hj

/-- A 16-bit register holds a saturated value as it is (R44, R53). -/
theorem geti_seti_sat16 (s : State) {r : Row}
    (hw : r.width = 16) (x : Int) (i j : Nat) : (s.seti r (sat16 x) i j).geti r i j = sat16 x := by
  have hx : -32768 ≤ sat16 x ∧ sat16 x ≤ 32767 := by
    simp only [sat16, satI, clampI]
    split <;> [skip; split] <;> omega
  generalize sat16 x = y at hx ⊢
  simp only [geti, seti, get_set_self, hw, toSigned, ofSigned]
  split <;> omega

/-- No piton of channel `k` is armed for `source` and `sel`. -/
def NoPit (source sel : Nat) (s : State) : Prop := ∀ k < 6, s.pit source sel k = false

/-- A cause of the safe state is requested for the axis. -/
theorem getBit_callSafe (s : State) {a cause : Nat} (ha : a < 2)
    (hc : cause < 16) : (s.callSafe a cause).getBit BL.causeReq cause a = true := by
  unfold callSafe
  split
  · by_cases h : a = 1
    · subst h
      exact getBit_setBit_self _ _ _ _ hc
    · obtain rfl : a = 0 := by omega
      rw [setBit, getBit, get_set_ne _ _ _ _ _ _ (by decide)]
      exact getBit_setBit_self _ _ _ _ hc
  · exact getBit_setBit_self _ _ _ _ hc

end State

/-! ## The members of a row -/

/-- Member `k` of a row (the register of channel, leg, axis or unit `k`), as a row of one member. -/
def Row.only (k : Nat) (r : Row) : Row := { r with base := r.addr k 0, s1 := 0, c1 := 1, eng := false }

theorem Row.key_only (r : Row) (k i j : Nat) : (r.only k).key i j = r.key k j := by
  simp [Row.key, Row.addr, Row.only]

/-- Member `k` of the rows of `rs`, and all of the rows of `cs`. -/
def rowsAt (rs : List Row) (k : Nat) (cs : List Row) : List Row := rs.map (Row.only k) ++ cs

/-- Rows whose members lie in common blocks: a member of one meets no other member of the other. -/
def Row.abreast (r q : Row) : Bool :=
  !r.eng && !q.eng && decide (r.lo < 32 ∧ q.lo < 32 ∧ r.c2 = 1 ∧ q.c2 = 1 ∧ r.s1 = q.s1 ∧ r.base < q.base + r.s1 ∧
    q.base < r.base + r.s1)

/-- No member of the one row meets a member of another number of the other. -/
def Row.elsewhere (r q : Row) : Bool := r.apart q || r.abreast q

/-- The rows share no place. -/
def Row.distinct (r q : Row) : Bool := r.apart q || (r.abreast q && r.base != q.base)

theorem Row.eq_of_abreast {r q : Row} (h : r.abreast q = true) {i a : Nat} (e : r.key i 0 = q.key a 0) : i = a ∧ r.base = q.base := by
  simp only [abreast, Bool.and_eq_true, Bool.not_eq_true', decide_eq_true_eq] at h
  obtain ⟨⟨hr, hq⟩, hlo, hlo', -, -, hs, hb, hb'⟩ := h
  simp only [key, addr, hr, hq, Bool.false_eq_true, if_false, hs] at e hb hb'
  have hi : i = a := by
    rcases Nat.lt_trichotomy i a with h | h | h
    · have := Nat.mul_le_mul_left q.s1 h
      rw [Nat.mul_succ] at this
      omega
    · exact h
    · have := Nat.mul_le_mul_left q.s1 h
      rw [Nat.mul_succ] at this
      omega
  subst hi
  exact ⟨rfl, by omega⟩

theorem Row.key_ne_of_elsewhere {r q : Row} (h : r.elsewhere q = true) {i j a b : Nat} (hi : i < r.c1) (hj : j < r.c2) (ha : a < q.c1)
    (hb : b < q.c2) (hne : i ≠ a) : r.key i j ≠ q.key a b := by
  rcases Bool.or_eq_true_iff.1 h with h | h
  · exact Row.key_ne_of_apart h hi hj ha hb
  · have hc : r.c2 = 1 ∧ q.c2 = 1 := by simp_all [abreast]
    obtain rfl : j = 0 := by omega
    obtain rfl : b = 0 := by omega
    exact fun e => hne (Row.eq_of_abreast h e).1

theorem Row.key_ne_of_distinct {r q : Row} (h : r.distinct q = true) {i j a b : Nat} (hi : i < r.c1) (hj : j < r.c2) (ha : a < q.c1)
    (hb : b < q.c2) : r.key i j ≠ q.key a b := by
  rcases Bool.or_eq_true_iff.1 h with h | h
  · exact Row.key_ne_of_apart h hi hj ha hb
  · rw [Bool.and_eq_true, bne_iff_ne] at h
    have hc : r.c2 = 1 ∧ q.c2 = 1 := by simp_all [abreast]
    obtain rfl : j = 0 := by omega
    obtain rfl : b = 0 := by omega
    exact fun e => h.2 (Row.eq_of_abreast h.1 e).2

namespace State

section
variable {rs cs : List Row} {s t u : State} {r : Row} {i j k : Nat}

/-- A row that is distinct from every row of the list reads as before. -/
theorem RowsKept.get_distinct (h : RowsKept rs s t) (hi : i < r.c1) (hr : rs.all r.distinct = true ∧ j < r.c2) :
    t.get r i j = s.get r i j :=
  h r i j fun q hq _ ha _ hb => Row.key_ne_of_distinct (List.all_eq_true.1 hr.1 q hq) hi hr.2 ha hb

theorem RowsKept.is_distinct (h : RowsKept rs s t) (hi : i < r.c1) (hr : rs.all r.distinct = true ∧ j < r.c2) :
    t.is r i j = s.is r i j := by
  rw [is, is, h.get_distinct hi hr]

theorem RowsKept.geti_distinct (h : RowsKept rs s t) (hi : i < r.c1) (hr : rs.all r.distinct = true ∧ j < r.c2) :
    t.geti r i j = s.geti r i j := by
  rw [geti, geti, h.get_distinct hi hr]

theorem RowsKept.getBit_distinct (h : RowsKept rs s t) {n : Nat} (hi : i < r.c1) (hr : rs.all r.distinct = true ∧ j < r.c2) :
    t.getBit r n i j = s.getBit r n i j := by
  rw [getBit, getBit, h.get_distinct hi hr]

/-- What keeps to member `k` keeps to the rows. -/
theorem RowsKept.widen (h : RowsKept (rowsAt rs k cs) s t) (hk : ∀ r ∈ rs, k < r.c1) : RowsKept (rs ++ cs) s t := by
  refine fun r i j hr => h r i j fun q hq a ha b hb => ?_
  rcases List.mem_append.1 hq with hq | hq
  · obtain ⟨p, hp, rfl⟩ := List.mem_map.1 hq
    rw [Row.key_only]
    exact hr p (List.mem_append_left _ hp) k (hk p hp) b hb
  · exact hr q (List.mem_append_right _ hq) a ha b hb

/-- Whether a piton is armed is as before where the rows that tell are kept. -/
theorem RowsKept.pit (h : RowsKept rs s t) (source sel inst : Nat)
    (hr : ([BL.PIT_STAT.ARMED, BL.PIT_STAT.SOURCE, BL.PIT_STAT.SEL, BL.pitInst].all fun r => rs.all r.distinct) = true) :
    t.pit source sel inst = s.pit source sel inst := by
  simp only [List.all_cons, List.all_nil, Bool.and_true, Bool.and_eq_true] at hr
  obtain ⟨hA, hSource, hSel, hInst⟩ := hr
  rw [State.pit, State.pit, h.is_distinct (r := BL.PIT_STAT.ARMED) (by decide) ⟨hA, by decide⟩,
    h.get_distinct (r := BL.PIT_STAT.SOURCE) (by decide) ⟨hSource, by decide⟩,
    h.get_distinct (r := BL.PIT_STAT.SEL) (by decide) ⟨hSel, by decide⟩,
    h.get_distinct (r := BL.pitInst) (by decide) ⟨hInst, by decide⟩]

/-- Between `s` and `t` no turn of member `ch` was taken: what is changed are other members of `rs`, and rows of `cs`. -/
def TurnKept (rs cs : List Row) (ch : Nat) (s t : State) : Prop :=
  ∀ r i j, i < r.c1 → j < r.c2 → cs.all r.distinct = true → (rs.all r.distinct = true ∨ i = ch ∧ rs.all r.elsewhere = true) →
    t.get r i j = s.get r i j

theorem turnKept_refl (rs cs : List Row) (ch : Nat) (s : State) : TurnKept rs cs ch s s := fun _ _ _ _ _ _ _ => rfl

theorem TurnKept.trans {ch : Nat} (h : TurnKept rs cs ch s t) (k : TurnKept rs cs ch t u) : TurnKept rs cs ch s u :=
  fun r i j hi hj hc hr => (k r i j hi hj hc hr).trans (h r i j hi hj hc hr)

theorem RowsKept.turn {n ch : Nat} (h : RowsKept (rowsAt rs k cs) s t) (hk : k < n) (hn : ∀ r ∈ rs, n ≤ r.c1) (hne : k ≠ ch) :
    TurnKept rs cs ch s t := by
  refine fun r i j hi hj hc hr => h r i j fun q hq a ha b hb => ?_
  rcases List.mem_append.1 hq with hq | hq
  · obtain ⟨p, hp, rfl⟩ := List.mem_map.1 hq
    have hkp : k < p.c1 := Nat.lt_of_lt_of_le hk (hn p hp)
    rw [Row.key_only]
    rcases hr with hr | ⟨rfl, hr⟩
    · exact Row.key_ne_of_distinct (List.all_eq_true.1 hr p hp) hi hj hkp hb
    · exact Row.key_ne_of_elsewhere (List.all_eq_true.1 hr p hp) hi hj hkp hb (Ne.symm hne)
  · exact Row.key_ne_of_distinct (List.all_eq_true.1 hc q hq) hi hj ha hb

/-- Member `ch` reads as before. -/
theorem TurnKept.get (h : TurnKept rs cs i s t) (hi : i < r.c1) (hr : (rs.all r.elsewhere && cs.all r.distinct) = true ∧ j < r.c2) :
    t.get r i j = s.get r i j := by
  obtain ⟨hr, hj⟩ := hr
  rw [Bool.and_eq_true] at hr
  exact h r i j hi hj hr.2 (.inr ⟨rfl, hr.1⟩)

theorem TurnKept.is (h : TurnKept rs cs i s t) (hi : i < r.c1) (hr : (rs.all r.elsewhere && cs.all r.distinct) = true ∧ j < r.c2) :
    t.is r i j = s.is r i j := by
  rw [State.is, State.is, h.get hi hr]

theorem TurnKept.geti (h : TurnKept rs cs i s t) (hi : i < r.c1) (hr : (rs.all r.elsewhere && cs.all r.distinct) = true ∧ j < r.c2) :
    t.geti r i j = s.geti r i j := by
  rw [State.geti, State.geti, h.get hi hr]

/-- A row apart from those that are changed reads as before in every member. -/
theorem TurnKept.get_distinct {ch : Nat} (h : TurnKept rs cs ch s t) (hi : i < r.c1)
    (hr : (rs.all r.distinct && cs.all r.distinct) = true ∧ j < r.c2) : t.get r i j = s.get r i j := by
  obtain ⟨hr, hj⟩ := hr
  rw [Bool.and_eq_true] at hr
  exact h r i j hi hj hr.2 (.inl hr.1)

/-- A list of changes comes to the change for `ch`, between changes for others. -/
theorem foldl_turn {R : State → State → Prop} (refl : ∀ s, R s s) (trans : ∀ {s t u}, R s t → R t u → R s u)
    {l : List Nat} {ch : Nat}
    (hch : ch ∈ l) (hl : l.Nodup) (f : State → Nat → State) (h : ∀ k ∈ l, ∀ t, k ≠ ch → R t (f t k)) (s : State) :
    ∃ u, R s u ∧ R (f u ch) (l.foldl f s) := by
  have others (l' : List Nat) (hl' : ∀ k ∈ l', k ∈ l ∧ k ≠ ch) (s : State) : R s (l'.foldl f s) := by
    induction l' generalizing s with
    | nil => exact refl s
    | cons k l' ih =>
      obtain ⟨hk, hne⟩ := hl' k (by simp)
      exact trans (h k hk s hne) (ih (fun j hj => hl' j (by simp [hj])) _)
  obtain ⟨l1, l2, rfl⟩ := List.append_of_mem hch
  simp only [List.nodup_append, List.nodup_cons, List.mem_cons] at hl
  obtain ⟨-, ⟨hl2, -⟩, hl1⟩ := hl
  rw [List.foldl_append, List.foldl_cons]
  exact ⟨_, others l1 (fun k hk => ⟨by simp [hk], hl1 k hk ch (.inl rfl)⟩) s,
    others l2 (fun k hk => ⟨by simp [hk], fun e => hl2 (e ▸ hk)⟩) _⟩

/-- The same for a change for each number below `n`. -/
theorem forN_turn {R : State → State → Prop} (refl : ∀ s, R s s) (trans : ∀ {s t u}, R s t → R t u → R s u) {n ch : Nat}
    (hch : ch < n) (f : Nat → State → State) (h : ∀ k t, k < n → k ≠ ch → R t (f k t)) (s : State) :
    ∃ u, R s u ∧ R (f ch u) (s.forN n f) :=
  foldl_turn refl trans (List.mem_range.2 hch) List.nodup_range (fun t k => f k t) (fun k hk t => h k t (List.mem_range.1 hk)) s

/-- A change for each number below `n`, from a state of which `P` holds, comes to the change for `ch`, between changes for others. -/
theorem forN_turn_of {P : State → Prop} {R : State → State → Prop} (refl : ∀ s, R s s)
    (trans : ∀ {s t u}, R s t → R t u → R s u) {n ch : Nat} (hch : ch < n) (f : Nat → State → State)
    (hP : ∀ k t, k < n → P t → P (f k t))
    (h : ∀ k t, k < n → k ≠ ch → P t → R t (f k t)) {s : State} (hs : P s) :
    ∃ u, P u ∧ R s u ∧ R (f ch u) (s.forN n f) := by
  obtain ⟨u, hu, hu'⟩ := forN_turn (R := fun s t => P s → P t ∧ R s t) (fun s hs => ⟨hs, refl s⟩)
    (fun h k hs => ⟨(k (h hs).1).1, trans (h hs).2 (k (h hs).1).2⟩) hch f (fun k t hk hne ht => ⟨hP k t hk ht, h k t hk hne ht⟩) s
  obtain ⟨hu, hR⟩ := hu hs
  exact ⟨u, hu, hR, (hu' (hP ch u hch hu)).2⟩

end

namespace Framed

variable {rs qs cs ds : List Row} {fs gs : List Rec} {s t u : State} {k : Nat}

theorem setAt (h : Framed (rowsAt rs k cs) fs s t) {r : Row} {v j : Nat} (hr : r ∈ rs ∧ j < r.c2) :
    Framed (rowsAt rs k cs) fs s (t.set r v k j) :=
  h.trans ⟨fun q a b hq => get_set_ne _ _ _ _ _ _ fun e =>
    hq (r.only k) (List.mem_append_left _ (List.mem_map_of_mem hr.1)) 0 Nat.one_pos j hr.2 (by rw [Row.key_only, e]),
    fun f _ => Rec.kept_set f .., rfl⟩

theorem setShared (h : Framed (rowsAt rs k cs) fs s t) {r : Row} {v i j : Nat} (hr : r ∈ cs ∧ i < r.c1 ∧ j < r.c2) :
    Framed (rowsAt rs k cs) fs s (t.set r v i j) := h.set ⟨List.mem_append_right _ hr.1, hr.2⟩

theorem raiseAt (h : Framed (rowsAt rs k cs) fs s t) {c : EvClass} {r : Row} {j inst : Nat} (hr : r ∈ rs ∧ j < r.c2)
    (he : RING.lost ∈ cs ∧ .events ∈ fs ∧ .store ∈ fs) : Framed (rowsAt rs k cs) fs s (t.raise c r k j inst) := by
  unfold State.raise
  split
  · exact h
  · exact (h.setAt hr).event ⟨List.mem_append_right _ he.1, he.2⟩

theorem setFreeAt (h : Framed (rowsAt rs k cs) fs s t) {r : Row} {j : Nat} (hr : r ∈ rs ∧ j < r.c2) (hf : .fresh ∈ fs) :
    Framed (rowsAt rs k cs) fs s (t.setFree r k j) :=
  h.trans ⟨((framed_refl t).setAt (fs := fs) (v := Config.fresh t.fresh) hr).rows,
    fun _ hg => Rec.kept_setFree _ _ _ _ (fun e => hg (e ▸ hf)), rfl⟩

/-- An operation on shared rows. -/
theorem shared (h : Framed (rowsAt rs k cs) fs s t) (h' : Framed ds gs t u) (hs : (∀ r ∈ ds, r ∈ cs) ∧ ∀ f ∈ gs, f ∈ fs) :
    Framed (rowsAt rs k cs) fs s u := h.andThen h' ⟨fun r hr => List.mem_append_right _ (hs.1 r hr), hs.2⟩

/-- A further operation on the member. -/
theorem andAt (h : Framed (rowsAt rs k cs) fs s t) (h' : Framed (rowsAt qs k ds) gs t u)
    (hs : (∀ r ∈ qs, r ∈ rs) ∧ (∀ r ∈ ds, r ∈ cs) ∧ ∀ f ∈ gs, f ∈ fs) : Framed (rowsAt rs k cs) fs s u := by
  obtain ⟨hr, hc, hfs⟩ := hs
  refine h.andThen h' ⟨fun r hm => ?_, hfs⟩
  rcases List.mem_append.1 hm with hm | hm
  · obtain ⟨p, hp, rfl⟩ := List.mem_map.1 hm
    exact List.mem_append_left _ (List.mem_map_of_mem (hr p hp))
  · exact List.mem_append_right _ (hc r hm)

/-- What keeps to member `k` of the rows keeps to the rows. -/
theorem widen (h : Framed (rowsAt rs k cs) fs s t) {n : Nat} (hk : k < n)
    (hs : (∀ r ∈ rs, n ≤ r.c1 ∧ r ∈ qs) ∧ (∀ r ∈ cs, r ∈ qs) ∧ ∀ f ∈ fs, f ∈ gs) : Framed qs gs s t := by
  obtain ⟨hr, hc, hfs⟩ := hs
  exact ⟨(h.rows.widen fun r hm => Nat.lt_of_lt_of_le hk (hr r hm).1).mono fun r hm =>
    (List.mem_append.1 hm).elim (fun hm => (hr r hm).2) (hc r), fun f hf => h.recs f fun hm => hf (hfs f hm), h.pending⟩

end Framed

theorem framedAt_pitAct {rs cs : List Row} {fs : List Rec} {s : State} {source sel inst k : Nat} (h : s.pit source sel inst = true)
    (hcs : ∀ r ∈ Touch.pitAct, r ∈ cs)
    (hs : (source ≠ 0x12 ∧ source ≠ 0x15 ∧ source ≠ 0x1A) ∧ .events ∈ fs ∧ .store ∈ fs) :
    Framed (rowsAt rs k cs) fs s s.pitAct :=
  (framed_refl s).shared (framed_pitAct h hs.1) ⟨hcs, by simp [hs.2]⟩

/-- A trip level that another unit's write does not touch. -/
theorem getBit_tripIn_ne (s : State) {pu qu src n : Nat} {level : Bool} (h : pu < 5 ∧ qu < 5 ∧ pu ≠ qu) :
    (s.tripIn pu src level).getBit PU.tripIn n qu = s.getBit PU.tripIn n qu := by
  rw [getBit, getBit, tripIn, setBit, get_set_ne _ _ _ _ _ _ (Row.key_ne_of_elsewhere (by decide) h.1 (by decide) h.2.1 (by decide) h.2.2)]

theorem getBit_tripIn_self (s : State) {pu src : Nat} (level : Bool) (h : src < PU.tripIn.width) :
    (s.tripIn pu src level).getBit PU.tripIn src pu = level := getBit_setBit _ _ _ _ _ h

end State
end Sys2Proof.Machine
end

section
namespace Sys2Proof.Machine
namespace State

/-! ## The current samples of SEN (R42 to R44, R49 to R51, R60, R61) -/

section
variable (s : State) (k : Nat)

/-- CH_FAULT follows the flags. -/
theorem framed_chFault : Framed [SEN.STATUS.CH_FAULT] [] s (s.chFault k) := (framed_refl s).set (by decide)

/-- The rows of a channel that the range check of a sample writes, the count of the sample's kind first (R60). -/
def rangeRows (run : Row) : List Row := [run, SEN.CH_STAT.OVR, SEN.chCond]

/-- What the range check writes for all channels. -/
def faultRows : List Row := [RING.lost, SEN.STATUS.CH_FAULT]

theorem framed_range {run : Row} (x : Int) (hrun : 0 < run.c2) :
    Framed (rowsAt (rangeRows run) k faultRows) [.events, .store] s (s.range run k x) := by
  have hmem : run ∈ rangeRows run ∧ 0 < run.c2 := ⟨List.mem_cons_self, hrun⟩
  have hO : SEN.CH_STAT.OVR ∈ rangeRows run ∧ 0 < SEN.CH_STAT.OVR.c2 := ⟨by simp [rangeRows], by decide⟩
  have hC : SEN.chCond ∈ rangeRows run ∧ 0 < SEN.chCond.c2 := ⟨by simp [rangeRows], by decide⟩
  unfold range
  extract_lets ovf s1 hit n s2
  have h1 : Framed (rowsAt (rangeRows run) k faultRows) [.events, .store] s s1 :=
    .ite (fun _ => (framed_refl s).setAt hmem) fun _ => (framed_refl s).setAt hmem
  exact (h1.setAt hC).on fun _ => ((framed_refl s2).raiseAt hO (by decide)).shared (framed_chFault _ k) (by decide)

/-- The rows of a channel that its fast sample writes. -/
def fastRows : List Row := rangeRows SEN.ovrF ++ [SEN.CH_VAL.FAST, SEN.satF, SEN.sumPit, SEN.unrelF]

theorem framed_fastOne {cs : List Row} (hcs : ∀ r ∈ faultRows, r ∈ cs)
    (hpit : s.pit 0x16 4 k = true → ∀ r ∈ Touch.pitAct, r ∈ cs) :
    Framed (rowsAt fastRows k cs) [.events, .store] s (s.fastOne k) := by
  unfold fastOne
  split
  · exact framed_refl s
  · extract_lets arm s1
    have h1 : Framed (rowsAt fastRows k cs) [.events, .store] s s1 := (framed_refl s).on fun h =>
      (framedAt_pitAct h (hpit h) (by decide)).setAt (by decide)
    split
    rename_i add s2 _ x y _
    extract_lets s3
    have h2 : Framed (rowsAt fastRows k cs) [.events, .store] s s2 := h1.on fun _ => (framed_refl s1).setAt (by decide)
    have h3 : Framed (rowsAt fastRows k cs) [.events, .store] s s3 := h2.setAt (by decide) |>.setAt (by decide)
        |>.andAt (framed_range _ k y (by decide)) ⟨by decide, hcs, by decide⟩
    exact h3.setAt (by decide)

theorem framed_substOne (r mark : Row) (hr : 0 < r.c2 ∧ 0 < mark.c2) : Framed (rowsAt [r, mark] k []) [] s (s.substOne r mark k) :=
  .ite (fun _ => (framed_refl s).setAt ⟨by simp, hr.1⟩ |>.setAt ⟨by simp, hr.2⟩) fun _ => framed_refl s

theorem framed_sumCheck {star : Nat} (h : star < 2) : Framed [SEN.sumRun, PU.tripIn] [] s (s.sumCheck star) := by
  have hp : star < PU.tripIn.c1 := by change star < 5; omega
  have hclear : Framed [SEN.sumRun, PU.tripIn] [] s ((s.set SEN.sumRun 0 star).tripIn star 6 false) :=
    ((framed_refl s).setIn h (by decide)).tripIn hp (by decide)
  unfold sumCheck
  exact .ite (fun _ => hclear) fun _ => .ite (fun _ => (framed_refl s).setIn h (by decide)) fun _ => hclear

/-- The fast samples after the substitution, as the engines read them (R43, R169). -/
theorem framed_fastPort : Framed [SEN.fastPort] [] s
    (s.forN 6 fun k t => t.on (t.chUsed k) (·.set SEN.fastPort (t.get SEN.CH_VAL.FAST k) k)) :=
  (framed_refl s).forN fun _ u hk => (framed_refl u).on fun _ => (framed_refl u).setIn hk (by decide)

/-- What a fast sample writes after its value (R43, R50). -/
theorem framed_fastTail : Framed [SEN.fastPort, SEN.sumRun, PU.tripIn] [] s
    (((s.forN 6 fun k t => t.on (t.chUsed k) (·.set SEN.fastPort (t.get SEN.CH_VAL.FAST k) k)).sumCheck 0).sumCheck 1) :=
  ((framed_fastPort s).mono (by decide)).andThen (framed_sumCheck _ (by decide)) (by decide)
    |>.andThen (framed_sumCheck _ (by decide)) (by decide)

/-- The rows of a channel that its control sample writes. -/
def ctrlRows : List Row := rangeRows SEN.ovrC ++ [SEN.CH_VAL.CTRL, SEN.satC, SEN.ofsSum]

theorem framed_ctrlOne (takes : Bool) : Framed (rowsAt ctrlRows k faultRows) [.events, .store] s (s.ctrlOne takes k) := by
  unfold ctrlOne
  split
  · exact framed_refl s
  · extract_lets d
    exact ((framed_refl s).setAt (by decide) |>.setAt (by decide) |>.andAt (framed_range _ k _ (by decide)) (by decide)).on
        fun _ => (framed_refl _).setAt (by decide)

theorem framed_ctrlForward : Framed (rowsAt [BL.isdSum, BL.isdCnt] k []) [] s (s.ctrlForward k) :=
  (framed_refl s).on fun _ => (framed_refl s).setAt (by decide) |>.setAt (by decide)

/-- The rows of OB that the control samples pass through (R116). -/
def portRows : List Row := [OB.cIdx, OB.cHist, OB.ctrlLast, OB.ctrlPort]

theorem framed_ctrlPorts {a : Nat} (ha : a < 2) (mid : Bool) : Framed portRows [] s (s.ctrlPorts a mid) := by
  unfold ctrlPorts
  refine .ite (fun _ => framed_refl s) fun _ => ?_
  refine ((framed_refl s).setIn ha (by decide)).forN fun k t hk => ?_
  extract_lets ok x u y
  have hIdx : 256 * k + t.get OB.cIdx a < OB.cHist.c2 := by
    have : t.get OB.cIdx a < 256 := get_lt t OB.cIdx a 0
    change _ < 768
    omega
  have hu : Framed portRows [] t u := (framed_refl t).setIn ha ⟨by decide, hIdx⟩
  exact (hu.on fun _ => (framed_refl u).setIn ha ⟨by decide, hk⟩).setIn ha ⟨by decide, hk⟩

theorem framed_ctrlOnes {a : Nat} (ha : a < 2) (takes : Bool) : Framed (ctrlRows ++ faultRows) [.events, .store] s
    (s.forN 3 fun j t => t.ctrlOne takes (3 * a + j)) :=
  (framed_refl s).forN fun j u hj => (framed_ctrlOne u _ _).widen (show 3 * a + j < 6 by omega) (by decide)

/-- What a control sample writes after its value (R46, R54, R116). -/
theorem framed_ctrlTail {a : Nat} (ha : a < 2) (mid takes : Bool) :
    Framed ([BL.isdSum, BL.isdCnt, SEN.ofsCnt] ++ portRows) [] s
      (((s.forN 3 fun k t => t.ctrlForward (3 * a + k)).ctrlPorts a mid).on takes (·.incSat SEN.ofsCnt a)) :=
  (((framed_refl s).forN fun k u hk => (framed_ctrlForward u _).widen (show 3 * a + k < 6 by omega) (by decide)).andThen
    (framed_ctrlPorts _ ha mid) (by decide)).on fun _ => (framed_refl _).setIn ha (by decide)

/-! One modulator clock (R42, R43, R48, R49, R61) -/

/-- The rows of a channel that a bit writes. -/
def bitRows : List Row := [SEN.bitPit, SEN.bitLvl, SEN.run, SEN.datLast, SEN.hist, SEN.clks, SEN.chCond]

theorem framed_bitPiton {cs : List Row} (hpit : ∀ sel < 4, s.pit 0x16 sel k = true → ∀ r ∈ Touch.pitAct, r ∈ cs) :
    Framed (rowsAt bitRows k cs) [.events, .store, .fresh] s (s.bitPiton k) := by
  have acts {sel : Nat} (hsel : sel < 4)
      (h : s.pit 0x16 sel k = true) : Framed (rowsAt bitRows k cs) [.events, .store, .fresh] s s.pitAct :=
    framedAt_pitAct h (hpit sel hsel h) (by decide)
  unfold bitPiton
  exact .ite (fun h => (acts (by decide) h).setAt (by decide) |>.setAt (by decide)) fun _ =>
    .ite (fun h => (acts (by decide) h).setAt (by decide) |>.setFreeAt (by decide) (by decide)) fun _ => framed_refl s

theorem framed_bitTake {cs : List Row} (hpit : ∀ sel < 4, s.pit 0x16 sel k = true → ∀ r ∈ Touch.pitAct, r ∈ cs) (dat : Bool) :
    Framed (rowsAt bitRows k cs) [.events, .store, .fresh] s (s.bitTake k dat) := by
  unfold bitTake
  extract_lets s1 b s2 s3 s4
  have h2 : Framed (rowsAt bitRows k cs) [.events, .store, .fresh] s s2 := (framed_bitPiton s k hpit).setAt (by decide)
  have h3 : Framed (rowsAt bitRows k cs) [.events, .store, .fresh] s s3 := .ite (fun _ => h2.setAt (by decide))
      fun _ => h2.setAt (by decide)
  exact h3.setAt (by decide) |>.setAt (by decide) |>.setAt (by decide) |>.setAt (by decide) |>.setAt (by decide)

/-- The rows of a channel that its comparator writes, and those it writes for all channels. -/
def compareRows : List Row := [SEN.chCond, SEN.CH_STAT.OC_HI, SEN.CH_STAT.OC_LO]

def compareShared : List Row := [SEN.STATUS.CH_FAULT, PU.tripIn]

/-- A comparator's verdict ends with that of its axis at the trip unit (R49). -/
theorem exists_compare_eq_ocTrip (v : Int) :
    ∃ u, Framed (rowsAt compareRows k [SEN.STATUS.CH_FAULT]) [] s u ∧ s.compare k v = u.ocTrip (chAxis k) := by
  unfold compare
  extract_lets hi lo s1 s2
  have h2 : Framed (rowsAt compareRows k [SEN.STATUS.CH_FAULT]) [] s s2 :=
    ((framed_refl s).setAt (by decide) |>.setAt (by decide) |>.on fun _ => (framed_refl _).setAt (by decide)).on
        fun _ => (framed_refl _).setAt (by decide)
  exact ⟨_, h2.shared (framed_chFault s2 k) (by decide), rfl⟩

theorem framed_compare (hk : k < 6) (v : Int) : Framed (rowsAt compareRows k compareShared) [] s (s.compare k v) := by
  have hp : chAxis k < PU.tripIn.c1 := by change k / 3 < 5; omega
  obtain ⟨u, hu, he⟩ := exists_compare_eq_ocTrip s k v
  rw [he]
  exact ((framed_refl s).andAt hu (by decide)).setShared ⟨by decide, hp, by decide⟩

theorem framed_compareOne {cs : List Row} (hk : k < 6) (hcs : ∀ r ∈ compareShared, r ∈ cs)
    (hpit : s.pit 0x16 3 k = true → ∀ r ∈ Touch.pitAct, r ∈ cs) :
    Framed (rowsAt compareRows k cs) [.events, .store] s (s.compareOne k) :=
  .ite (fun h => (framedAt_pitAct h (hpit h) (by decide)).andAt (framed_compare _ k hk _) ⟨by decide, hcs, by decide⟩)
    fun _ => (framed_refl s).andAt (framed_compare _ k hk _) ⟨by decide, hcs, by decide⟩

/-- The rows of a channel that a modulator clock writes. -/
def clockRows : List Row := bitRows ++ compareRows

theorem framed_clockOne (hk : k < 6) (dat : BitVec 6) :
    Framed (rowsAt clockRows k (compareShared ++ Touch.pitAct)) [.events, .store, .fresh] s (s.clockOne dat k) :=
  .ite (fun _ => ((framed_refl s).andAt (framed_bitTake s k (cs := Touch.pitAct) (fun _ _ _ _ h => h) _) (by decide)).andAt
    (framed_compareOne _ k (cs := compareShared ++ Touch.pitAct) hk (by decide) fun _ => by decide) (by decide)) fun _ => framed_refl s

theorem framed_ctrlClock {a : Nat} (ha : a < 2) :
    Framed [SEN.ctrlClk, SEN.ctrlMid, SEN.ctrlAim, SEN.ctrlDue, SEN.ctrlRaw] [] s (s.ctrlClock a) := by
  unfold ctrlClock
  extract_lets s1 s2
  have h1 : Framed [SEN.ctrlClk, SEN.ctrlMid, SEN.ctrlAim, SEN.ctrlDue, SEN.ctrlRaw] [] s s1 := (framed_refl s).setIn ha (by decide)
  exact .ite (fun _ => h1) fun _ => (((h1.setIn ha (by decide)).setIn ha (by decide)).setIn ha (by decide)).forN fun j u hj =>
    (framed_refl u).setIn (show 3 * a + j < 6 by omega) (by decide)

/-! Sensor faults and the offset measurement (R46 to R48, R51) -/

/-- The rows of a channel that CLIP writes. -/
def clipRows : List Row := [SEN.chCond, SEN.CH_STAT.CLIP, SEN.ofsFlag]

theorem framed_clip : Framed (rowsAt clipRows k faultRows) [.events, .store] s (s.clip k) :=
  (framed_refl s).setAt (by decide) |>.raiseAt (by decide) (by decide) |>.setAt (by decide) |>.shared (framed_chFault _ k) (by decide)

/-- The rows of a channel that BSL writes. -/
def bslRows : List Row := [SEN.lostCh, SEN.chCond, SEN.CH_STAT.BSL, SEN.ofsFlag]

theorem framed_bslFlag : Framed (rowsAt bslRows k faultRows) [.events, .store] s (s.bslFlag k) :=
  (framed_refl s).setAt (by decide) |>.setAt (by decide) |>.raiseAt (by decide) (by decide) |>.setAt (by decide)
      |>.shared (framed_chFault _ k) (by decide)

theorem framed_bsl : Framed (rowsAt (SEN.CH_STAT.SUBST :: bslRows) k (SEN.STATUS.SUBST :: faultRows)) [.events, .store] s (s.bsl k) :=
  ((framed_refl s).andAt (framed_bslFlag s k) (by decide)).on (fun _ => (framed_refl _).setAt (by decide) |>.setShared (by decide))
      |>.shared (framed_chFault _ k) (by decide)

/-- The START bits of the offset measurements. -/
def ofsStartRows : List Row := [SEN.OFS_CMD.START_A, SEN.OFS_CMD.START_B]

theorem framed_ofsRow (a v : Nat) : Framed ofsStartRows [] s (s.set (ofsRow a) v) := by
  unfold ofsRow
  split
  · exact (framed_refl s).set (by decide)
  · exact (framed_refl s).set (by decide)

theorem framed_ofsBegin {a : Nat} (ha : a < 2) : Framed Touch.ofsBegin [] s (s.ofsBegin a) :=
  ((((framed_refl s).andThen (framed_ofsRow s a 1) (by decide)).setIn ha (by decide)).set (by decide)).forN fun j u hj =>
    have hch : 3 * a + j < 6 := by omega
    ((framed_refl u).setIn hch (by decide)).setIn hch (by decide)

theorem framed_ofsFailAll {a : Nat} (ha : a < 2) :
    Framed (ofsStartRows ++ [SEN.CH_STAT.OFS_FAIL, SEN.STATUS.CH_FAULT]) [] s (s.ofsFailAll a) :=
  ((framed_refl s).andThen (framed_ofsRow s a 0) (by decide)).forN fun j u hj =>
    ((framed_refl u).setIn (show 3 * a + j < 6 by omega) (by decide)).andThen (framed_chFault _ _) (by decide)

theorem framed_ofsTake : Framed (rowsAt [SEN.CH_STAT.OFS_FAIL, SEN.CH_OFS.OFS] k [SEN.STATUS.CH_FAULT]) [] s (s.ofsTake k) :=
  .ite (fun _ => (framed_refl s).setAt (by decide) |>.shared (framed_chFault _ k) (by decide)) fun _ => (framed_refl s).setAt (by decide)

/-- The channels that are measured are those of the star. -/
theorem lt_of_mem_ofsChannels {s : State} {a ch : Nat} (ha : a < 2) (h : ch ∈ s.ofsChannels a) : ch < 6 := by
  have := List.mem_of_mem_filter h
  simp only [starCh, List.mem_cons, List.not_mem_nil, or_false] at this
  omega

theorem framed_ofsTakes {a : Nat} (ha : a < 2) :
    Framed [SEN.CH_STAT.OFS_FAIL, SEN.CH_OFS.OFS, SEN.STATUS.CH_FAULT] [] s ((s.ofsChannels a).foldl State.ofsTake s) :=
  (framed_refl s).foldl _ fun u _ hx => (framed_ofsTake u _).widen (lt_of_mem_ofsChannels ha hx) (by decide)

/-! Phase voltages and V_dc (R56 to R59, R398) -/

/-- The rows of a leg that its reconstruction writes. -/
def legRows : List Row := [SEN.pvPit, SEN.pv, SEN.pvRun]

theorem framed_pvLeg {a : Nat} (l : List PvSeg) :
    Framed (rowsAt legRows (3 * a + k) ([SEN.pvFail, SEN.pvSign] ++ Touch.pitAct)) [.events, .store] s (s.pvLeg a k l) := by
  unfold pvLeg
  extract_lets leg s1 bad s2
  have h1 : Framed (rowsAt legRows leg ([SEN.pvFail, SEN.pvSign] ++ Touch.pitAct)) [.events, .store] s s1 :=
    (framed_refl s).on fun h => ((framed_refl s).shared (framed_pitAct h (by decide)) (by decide)).setAt (by decide)
  have h2 : Framed (rowsAt legRows leg ([SEN.pvFail, SEN.pvSign] ++ Touch.pitAct)) [.events, .store] s s2 :=
    (h1.on fun _ => (framed_refl s1).setAt (by decide)).setAt (by decide)
  exact .ite (fun _ => h2.setAt (by decide) |>.setShared (by decide)) fun _ =>
    h2.setAt (by decide) |>.setShared (by decide) |>.setShared (by decide)

theorem framed_debugVdc : Framed [SEC.DBG_STAT.VDC_OK, SEC.tapIr] [] s s.debugVdc := by
  unfold debugVdc
  extract_lets low ok s1
  have h1 : Framed [SEC.DBG_STAT.VDC_OK, SEC.tapIr] [] s s1 := (framed_refl s).set (by decide)
  exact h1.on fun _ => (framed_refl s1).set (by decide)

/-- The rows of a good V_dc sample that are written after its value (R58, R60). -/
def vdcTailRows : List Row := [SEN.vdcFilt, SEN.VDC_VAL.FILT, SEN.vdcEver, SEN.vdcCond, SEN.VDC_STAT.OV, SEN.VDC_STAT.UV, RING.lost,
  OB.STATUS.VDC_HOLD, PU.tripIn]

theorem framed_vdcTake (code seq : Nat) :
    Framed vdcTailRows [.events, .store]
      (((s.set SEN.VDC_RAW.CODE code).set SEN.VDC_RAW.SEQ seq).set SEN.VDC_VAL.FAST
        (min (quotN (code * 11000 * 32768) (16383 * s.vBase 0)) 0x7FFF))
      (s.vdcTake code seq) := by
  unfold vdcTake
  extract_lets x f y s1 ov uv s2 s3 s4
  have h1 : Framed vdcTailRows [.events, .store] (((s.set SEN.VDC_RAW.CODE code).set SEN.VDC_RAW.SEQ seq).set SEN.VDC_VAL.FAST x) s1 :=
    (framed_refl _).set (by decide) |>.set (by decide) |>.set (by decide)
  have h2 : Framed vdcTailRows [.events, .store] (((s.set SEN.VDC_RAW.CODE code).set SEN.VDC_RAW.SEQ seq).set SEN.VDC_VAL.FAST x) s2 :=
    h1.set (by decide) |>.set (by decide) |>.set (by decide) |>.set (by decide)
  exact ((h2.on fun _ => (framed_refl _).set (by decide)).on fun _ => (framed_refl _).raise (by decide) (by decide)).set (by decide)
      |>.set (by decide) |>.tripIn (by decide) (by decide) |>.tripIn (by decide) (by decide) |>.tripIn (by decide) (by decide)
          |>.tripIn (by decide) (by decide)

/-- The rows of the DLI proxy that a good frame writes (R333 to R335). -/
def dliRows : List Row := [DLI.STATUS.POWERED, DLI.FB.CODE, DLI.STATUS.DIS_ON, DLI.STATUS.OVB, DLI.stuck]

theorem framed_dliReport (code fb : Nat) : Framed dliRows [] s (s.dliReport code fb) := by
  unfold dliReport
  extract_lets on s1 s2
  have h1 : Framed dliRows [] s s1 := (framed_refl s).set (by decide) |>.set (by decide) |>.set (by decide) |>.set (by decide)
  have h2 : Framed dliRows [] s s2 := h1.on fun _ => (framed_refl s1).set (by decide)
  exact h2.on fun _ => (framed_refl s2).set (by decide)

/-! The Belay island's current path (R53 to R55, R60, R287 to R295) -/

theorem framed_bivLog (a : Nat) : Framed [RING.lost] [.events, .store] s (s.bivLog a) := by
  unfold bivLog safetyLog
  exact (framed_refl s).event (by decide)

theorem framed_bivEnter1 {a : Nat} (ha : a < 2) (c : BivCause) : Framed Touch.bivEnter1 [.events, .store] s (s.bivEnter1 a c) := by
  unfold bivEnter1
  extract_lets t
  have ht : Framed Touch.bivEnter1 [.events, .store] s t := (framed_refl s).setIn ha (by decide)
  refine .ite (fun _ => framed_refl s) fun _ => .ite (fun _ =>
      (ht.andThen (framed_bivLog t a) (by decide)).andThen (framed_callSafe _ ha _) (by decide))
    fun _ => ?_
  exact ((ht.setIn ha (by decide)).setIn ha (by decide)).setIn ha (by decide) |>.setIn ha (by decide)
    |>.andThen (framed_bivLog _ a) (by decide)

theorem framed_bivLoss {a : Nat} (ha : a < 2) (c : BivCause) : Framed Touch.bivEnter1 [.events, .store] s (s.bivLoss a c) :=
  .ite (fun _ => (framed_refl s).andThen (framed_callSafe s ha _) (by decide)) fun _ => framed_bivEnter1 s ha c

theorem framed_bivSame {a : Nat} (ha : a < 2) (c : BivCause) : Framed Touch.bivEnter1 [.events, .store] s (s.bivSame a c) :=
  .ite (fun _ => framed_bivEnter1 s ha c) fun _ => .ite (fun _ => framed_refl s) fun _ =>
    ((framed_refl s).setIn ha (by decide)).andThen (framed_bivLog _ a) (by decide)

/-- The axis that governs one of the two is one of the two (R242). -/
theorem lead_lt {a : Nat} (ha : a < 2) : s.lead a < 2 := by
  unfold lead
  split <;> omega

/-- The rows of a redundant channel that its sample writes (R53). -/
def ihaRows : List Row := [BL.ihaPit, BL.satRun, BL.ihaAmp, BL.IHA_VAL.I, BL.ihaAcc]

theorem framed_ihaOne {cs : List Row} (hk : k < 6) (hsq : BL.ihaSq ∈ cs)
    (hpit : s.pit 0x30 1 k = true → ∀ r ∈ Touch.pitAct, r ∈ cs)
    (code : Nat) : Framed (rowsAt ihaRows k cs) [.events, .store] s (s.ihaOne k code) := by
  have hstar : k / 3 < BL.ihaSq.c1 := by change k / 3 < 2; omega
  unfold ihaOne
  extract_lets s1 forced c s2 s3 s4 i
  have h1 : Framed (rowsAt ihaRows k cs) [.events, .store] s s1 := (framed_refl s).on fun h =>
    (framedAt_pitAct h (hpit h) (by decide)).setAt (by decide)
  have h2 : Framed (rowsAt ihaRows k cs) [.events, .store] s s2 := h1.on fun _ => (framed_refl s1).setAt (by decide)
  have h3 : Framed (rowsAt ihaRows k cs) [.events, .store] s s3 := .ite (fun _ => h2.setAt (by decide)) fun _ => h2.setAt (by decide)
  exact h3.setAt (by decide) |>.setAt (by decide) |>.setAt (by decide) |>.setShared ⟨hsq, hstar, by decide⟩

theorem framed_ihaSumOne {star : Nat} (h : star < 2) : Framed [BL.ihaSumRun] [] s (s.ihaSumOne star) :=
  .ite (fun _ => (framed_refl s).setIn h (by decide)) fun _ => (framed_refl s).setIn h (by decide)

/-- What the samples of all channels and their sums write beside a piton's rows. -/
def ihaAllRows : List Row := BL.ihaSq :: ihaRows ++ Touch.pitAct

theorem framed_ihaOnes (code : Nat → Nat) : Framed ihaAllRows [.events, .store] s (s.forN 6 fun k t => t.ihaOne k (code k)) :=
  (framed_refl s).forN fun k u hk =>
    (framed_ihaOne u k (cs := BL.ihaSq :: Touch.pitAct) hk (by decide) (fun _ => by decide) _).widen hk (by decide)

theorem framed_ihaSums : Framed [BL.ihaSumRun] [] s ((s.ihaSumOne 0).ihaSumOne 1) :=
  (framed_ihaSumOne s (by decide)).trans (framed_ihaSumOne _ (by decide))

/-- The rows of the torque monitors that a sample writes beside a piton's (R287, R289). -/
def tmRows : List Row := [BL.TM_VAL.T_TM0, BL.TM_VAL.T_TM1, BL.TM_ERR.CNT0, BL.TM_ERR.CNT1, BL.tmPit, BL.katSkip, BL.tmAlt, BL.tmXRun]
  ++ Touch.pitAct

theorem framed_tmOne (m : Nat) {k : Nat} (hk : k < 2) (x : Nat) : Framed tmRows [.events, .store] s (s.tmOne m k x) := by
  unfold tmOne
  extract_lets a val cnt s1 w add s2 t s3 ovf dis
  have hval : val ∈ tmRows ∧ 0 < val.c1 ∧ 0 < val.c2 := by
    simp only [val]
    split <;> decide
  have hcnt : cnt ∈ tmRows ∧ 0 < cnt.c1 ∧ 0 < cnt.c2 := by
    simp only [cnt]
    split <;> decide
  have h1 : Framed tmRows [.events, .store] s s1 := (framed_refl s).on fun h =>
    ((framed_refl s).andThen (framed_pitAct h (by decide)) (by decide)).setIn hk (by decide)
  have h2 : Framed tmRows [.events, .store] s s2 := h1.on fun _ => (framed_refl s1).setIn hk (by decide)
  have h3 : Framed tmRows [.events, .store] s s3 := h2.set hval
  have counted (v : Nat) : Framed tmRows [.events, .store] s (s3.set cnt v) := h3.set hcnt
  exact .ite (fun _ => counted 0) fun _ => .ite (fun _ => counted _) fun _ => counted _

theorem framed_tmTurn {m k : Nat} (hm : m < 2) (hk : k < 2) (x : Nat) : Framed tmRows [.events, .store] s (s.tmTurn m k x) :=
  .ite (fun _ => (framed_refl s).setIn hm (by decide)) fun _ => framed_tmOne s m hk x

theorem framed_tmSamples : Framed tmRows [.events, .store] s s.tmSamples := by
  have turn (u : State) {m k : Nat} (hm : m < 2) (hk : k < 2) (x : Nat) : Framed tmRows [.events, .store] u (u.tmTurn m k x) :=
    framed_tmTurn u hm hk x
  unfold tmSamples
  extract_lets lost x y t d k
  have ht : Framed tmRows [.events, .store] s t :=
    ((framed_refl s).on fun _ => turn s (by decide) (by decide) y).on fun _ => turn _ (by decide) (by decide) x
  have hm : ofBool (lost 0) < 2 := by cases lost 0 <;> decide
  refine .ite (fun _ => .ite (fun _ => ht) fun _ => .ite (fun _ => ht.set (by decide)) fun _ => ht.set (by decide))
      fun _ => .ite (fun _ => framed_refl s)
    fun _ => .ite (fun _ => (turn s hm (get_lt s BL.tmAlt 0 0) k).set (by decide)) fun _ => ?_
  exact (turn s (by decide) (by decide) 0).trans (turn _ (by decide) (by decide) 1)

theorem framed_ihaLost {rs : List Row} {flag : Row} (hflag : flag ∈ rs) (hf : 0 < flag.c1 ∧ 0 < flag.c2)
    (hrs : ∀ r ∈ Touch.bivEnter1, r ∈ rs)
    (hk : k < 6) : Framed rs [.events, .store] s (s.ihaLost flag k) := by
  have hstar : chAxis k < 2 := by change k / 3 < 2; omega
  unfold ihaLost
  extract_lets had
  exact ((framed_refl s).set ⟨hflag, hf⟩).on fun _ => (framed_bivLoss _ (lead_lt _ hstar) _).mono ⟨hrs, fun _ hf => hf⟩

/-- The rows of a phase that the judgement of a window writes (R54). -/
def xchkRows : List Row := [BL.xPit, BL.xRun, BL.xPitted]

theorem framed_xchkOne {cs : List Row} (hpit : s.pit 0x30 2 k = true → ∀ r ∈ Touch.pitAct, r ∈ cs) :
    Framed (rowsAt xchkRows k cs) [.events, .store] s (s.xchkOne k) := by
  unfold xchkOne
  extract_lets a s1 n m isd iha tol on iha' s2
  have h1 : Framed (rowsAt xchkRows k cs) [.events, .store] s s1 := (framed_refl s).on fun h =>
    (framedAt_pitAct h (hpit h) (by decide)).setAt (by decide)
  have h2 : Framed (rowsAt xchkRows k cs) [.events, .store] s s2 := h1.on fun _ => (framed_refl s1).setAt (by decide)
  exact .ite (fun _ => h1.setAt (by decide)) fun _ => .ite (fun _ => h2.setAt (by decide) |>.on
      fun _ => (framed_refl _).setAt (by decide)) fun _ => h2.setAt (by decide) |>.setAt (by decide)

end
end State
end Sys2Proof.Machine
end

section
namespace Sys2Proof.Machine
open State

/-! ## The frames of the sensing commands (O48) -/

theorem frames_fastSample : Frames Touch.sense .fastSample := .intro rfl fun s => .next <|
  (((framed_refl s).forN fun k u hk =>
      (framed_fastOne u k (cs := faultRows ++ Touch.pitAct) (by decide) fun _ => by decide).widen hk (by decide)).forN
    fun k u hk => (framed_substOne u k SEN.CH_VAL.FAST SEN.satF (by decide)).widen hk (by decide)).andThen (framed_fastTail _) (by decide)

/-- Three turns of an axis's channels are turns of the six channels. -/
theorem axis_channel_lt (axis : Fin 2) {k : Nat} (hk : k < 3) : 3 * axis.val + k < 6 := by omega

theorem frames_ctrlSample (axis : Fin 2) : Frames Touch.sense (.ctrlSample axis) := .intro rfl fun s => .next <|
  .ite (fun _ => framed_refl s) fun _ =>
    (((((framed_refl s).setIn axis.isLt (by decide)).setIn axis.isLt (by decide)).andThen (framed_ctrlOnes _ axis.isLt _) (by decide)).forN
      fun k u hk => (framed_substOne u _ SEN.CH_VAL.CTRL SEN.satC (by decide)).widen (axis_channel_lt axis hk) (by decide)).andThen
      (framed_ctrlTail _ axis.isLt _ _) (by decide)

theorem frames_comparatorSample (dat : BitVec 6) : Frames Touch.sense (.comparatorSample dat) := .intro rfl fun s => .next <|
  .ite (fun _ => framed_refl s) fun _ =>
    (((framed_refl s).forN
        fun k u hk => (framed_clockOne u k hk dat).widen hk (by decide)).andThen (framed_ctrlClock _ (by decide)) (by decide)).andThen
      (framed_ctrlClock _ (by decide)) (by decide)

theorem frames_chValid (ch : Fin 6) : Frames Touch.sense (.chValid ch) := .intro rfl fun s => .next <|
  (framed_refl s).on fun _ => (framed_refl s).set (by decide)

theorem frames_ofsStart (axis : Fin 2) : Frames Touch.sense (.ofsStart axis) := .intro rfl fun s => .next <|
  .ite (fun _ => framed_refl s) fun _ => .ite (fun _ => framed_refl s) fun _ =>
    .ite (fun _ => (framed_refl s).andThen (framed_ofsBegin s axis.isLt) (by decide)) fun _ => (framed_refl s).set (by decide)

theorem frames_ofsDone (axis : Fin 2) : Frames Touch.sense (.ofsDone axis) := .intro rfl fun s => .next <|
  .ite (fun _ => framed_refl s) fun _ => .ite (fun _ => (framed_refl s).andThen (framed_ofsFailAll s axis.isLt) (by decide)) fun _ =>
    .ite (fun _ => framed_refl s) fun _ =>
      (((framed_refl s).andThen (framed_ofsTakes s axis.isLt) (by decide)).andThen (framed_ofsRow _ _ _) (by decide)).set (by decide)

theorem frames_ofsAbandon (axis : Fin 2) : Frames Touch.sense (.ofsAbandon axis) := .intro rfl fun s => .next <|
  .ite (fun _ => (framed_refl s).andThen (framed_ofsFailAll s axis.isLt) (by decide)) fun _ => framed_refl s

theorem frames_senClip (ch : Fin 6) : Frames Touch.sense (.senClip ch) := .intro rfl fun s => .next <|
  .ite (fun _ => (framed_clip s ch).widen ch.isLt (by decide)) fun _ => framed_refl s

theorem frames_senBsl (ch : Fin 6) : Frames Touch.sense (.senBsl ch) := .intro rfl fun s => .next <|
  .ite (fun _ => (framed_bsl s ch).widen ch.isLt (by decide)) fun _ => framed_refl s

theorem frames_sumFault (star : Fin 2) : Frames Touch.sense (.sumFault star) := .intro rfl fun s => .next <|
  .ite (fun _ => (framed_refl s).set (by decide) |>.tripIn (Nat.lt_trans star.isLt (by decide)) (by decide)) fun _ => framed_refl s

theorem frames_sup5Fault (b : Bool) : Frames Touch.sense (.sup5Fault b) := .intro rfl fun s => .next <|
  .ite (fun _ => (framed_refl s).event (by decide)) fun _ => (framed_refl s).event (by decide)

theorem frames_ihaSample (codes : List (BitVec 12)) : Frames Touch.sense (.ihaSample codes) := .intro rfl fun s => .next <|
  (((framed_ihaOnes s fun k => (codes.getD k 0).toNat).mono (by decide)).andThen (framed_ihaSums _) (by decide)).set (by decide)
    |>.andThen (framed_tmSamples _) (by decide)

theorem frames_ihaSat (ch : Fin 6) : Frames Touch.sense (.ihaSat ch) := .intro rfl fun s => .next <|
  .ite (fun _ => framed_ihaLost s ch (by decide) (by decide) (by decide) ch.isLt) fun _ => framed_refl s

theorem frames_ihaCm (ch : Fin 6) : Frames Touch.sense (.ihaCm ch) := .intro rfl fun s => .next <|
  framed_ihaLost s ch (by decide) (by decide) (by decide) ch.isLt

theorem frames_ihaAdc (ch : Fin 6) : Frames Touch.sense (.ihaAdc ch) := .intro rfl fun s => .next <|
  framed_ihaLost s ch (by decide) (by decide) (by decide) ch.isLt

theorem frames_ihaSum (star : Fin 2) : Frames Touch.sense (.ihaSum star) := .intro rfl fun s => .next <|
  .ite (fun _ => (framed_refl s).set (by decide) |>.andThen (framed_callSafe _ star.isLt _) (by decide)) fun _ => framed_refl s

theorem frames_xchkWindow : Frames Touch.sense .xchkWindow := .intro rfl fun s => .next <| by
  have hwindow (u : State) (k : Nat) (hk : k < 6) : Framed [BL.isdSum, BL.isdCnt, BL.ihaAcc] [] u
      (((u.set BL.isdSum 0 k).set BL.isdCnt 0 k).set BL.ihaAcc 0 k) :=
    (((framed_refl u).setIn hk (by decide)).setIn hk (by decide)).setIn hk (by decide)
  exact (((framed_refl s).forN fun k u hk => (framed_xchkOne u k (cs := Touch.pitAct) fun _ => by decide).widen hk (by decide)).forN
    fun k u hk => (hwindow u k hk).mono (by decide)).set (by decide)

/-- After three windows the flags of both paths are set, and what is judged after that changes the rows of the bivouac causes alone; with
flags on both paths the axis is called into the safe state (R55). -/
theorem exec_curXchk (ch : Fin 6) (s : State) (hrun : 3 ≤ s.get BL.xRun ch) : ∃ t, exec (.curXchk ch) s = .next t ∧
    Framed Touch.bivEnter1 [.events, .store] (((s.setBit BL.IHA_STAT.CUR_XCHK ch true).set SEN.CH_STAT.XCHK 1 ch).chFault ch) t ∧
    ((s.is SEN.CH_STAT.BSL ch || s.is SEN.CH_STAT.CLIP ch || s.is SEN.CH_STAT.SUBST ch || s.is SEN.CH_STAT.OVR ch) = true →
      (s.getBit BL.IHA_STAT.IHA_SAT ch || s.getBit BL.IHA_STAT.IHA_CM ch || s.getBit BL.IHA_STAT.IHA_ADC ch ||
        s.is BL.xPitted ch) = true →
      t.getBit BL.causeReq SsCause.xchkUnattr.bit (ch / 3) = true) := by
  change ∃ t, execCurXchk ch s = .next t ∧ _
  unfold execCurXchk
  rw [if_neg (Nat.not_lt.2 hrun)]
  extract_lets a isd known iha had l s1
  have ha : a < 2 := by change ch.val / 3 < 2; omega
  have hl : l < 2 := lead_lt s ha
  have hloss (c : BivCause) : Framed Touch.bivEnter1 [.events, .store] s1 (if had then s1.bivEnter1 l c else s1.bivLoss l c) :=
    .ite (fun _ => framed_bivEnter1 s1 hl c) fun _ => framed_bivLoss s1 hl c
  refine ⟨_, rfl, ?_, fun hisd hiha => ?_⟩
  · refine .ite (fun _ => .ite (fun _ => framed_bivSame s1 hl _) fun _ => hloss _) fun _ => .ite (fun _ => ?_) fun _ => ?_
    · exact .ite (fun _ => framed_bivSame s1 hl _) fun _ => hloss _
    · exact (framed_callSafe s1 ha _).mono (by decide)
  · rw [show isd = true from hisd, show iha = true from hiha]
    exact getBit_callSafe s1 ha (by decide)

theorem frames_curXchk (ch : Fin 6) : Frames Touch.sense (.curXchk ch) := .intro rfl fun s => by
  intro t ht
  by_cases hrun : 3 ≤ s.get BL.xRun ch
  · obtain ⟨u, hu, hframe, -⟩ := exec_curXchk ch s hrun
    obtain rfl := Host.Outcome.next.inj (ht.symm.trans hu)
    exact ((framed_refl s).set (by decide) |>.setIn ch.isLt (by decide)
        |>.andThen (framed_chFault _ _) (by decide)).andThen hframe (by decide)
  · obtain rfl := Host.Outcome.next.inj (ht.symm.trans (if_pos (Nat.lt_of_not_le hrun)))
    exact framed_refl _

theorem frames_pvRecon (axis : Fin 2) (legs : List (List PvSeg)) : Frames Touch.sense (.pvRecon axis legs) := .intro rfl fun s => .next <|
  ((((framed_refl s).forN fun k u hk => (framed_pvLeg u k _).widen (axis_channel_lt axis hk) (by decide)).on fun _ =>
    (framed_refl _).set (by decide) |>.tripIn (by decide) (by decide)
        |>.tripIn (by decide) (by decide)).setIn axis.isLt (by decide)).setIn axis.isLt (by decide)

theorem frames_legMis (leg : Fin 6) : Frames Touch.sense (.legMis leg) := .intro rfl fun s => .next <|
  .ite (fun _ => (framed_refl s).set (by decide) |>.set (by decide) |>.tripIn (by decide) (by decide) |>.tripIn (by decide) (by decide))
      fun _ => .ite (fun _ => (framed_refl s).raiseBit ⟨by decide, by decide, by decide⟩ (by decide)) fun _ => framed_refl s

theorem frames_vdcStale : Frames Touch.sense .vdcStale := .intro rfl fun s => .next <|
  (framed_refl s).set (by decide) |>.set (by decide) |>.set (by decide) |>.set (by decide)

theorem frames_vdcLost : Frames Touch.sense .vdcLost := .intro rfl fun s => .next <|
  (framed_refl s).set (by decide) |>.set (by decide) |>.tripIn (by decide) (by decide) |>.tripIn (by decide) (by decide)
      |>.andThen (framed_debugVdc _) (by decide)

end Sys2Proof.Machine
end

section
namespace Sys2Proof.Machine
namespace State

/-! ## Position and housekeeping: the frames of the shared operations -/

section
variable (s : State)

/-- The two places that the alignment of the increments forwards to the Belay island (R75, R287). -/
theorem framed_forwardAngle {a : Nat} (ha : a < 2) : Framed [BL.thRef, BL.blRef] [] s (s.forwardAngle a) :=
  ((framed_refl s).setIn ha (by decide)).setIn ha (by decide)

theorem framed_align {a : Nat} (ha : a < 2) (code pos angle : Nat) : Framed Touch.align [] s (s.align a code pos angle) :=
  .ite (fun _ => framed_refl s) fun _ =>
    (((framed_refl s).setIn ha (by decide)).setIn ha (by decide)).setIn ha (by decide) |>.andThen (framed_forwardAngle _ ha) (by decide)

theorem framed_capDiscard {a : Nat} (ha : a < 2) : Framed Touch.capTmo [] s (s.capDiscard a) :=
  (((framed_refl s).setIn ha (by decide)).setIn ha (by decide)).setIn ha (by decide) |>.setIn ha (by decide)

theorem framed_capTmo {a : Nat} (ha : a < 2) : Framed Touch.capTmo [] s (s.capTmo a) :=
  ((((framed_refl s).setIn ha (by decide)).setIn ha (by decide)).setIn ha (by decide)).trans (framed_capDiscard _ ha)

/-- The rows that a position word taken writes (R65, R66, R75). -/
def wordRows : List Row := [POS.CAP_WORD.WORD, POS.thM, POS.thWord, POS.wordT, POS.wordAge, POS.CAP_STAT.SENS_WRN, RING.lost]
  ++ Touch.align ++ Touch.capTmo

theorem framed_capUse {a : Nat} (ha : a < 2) (word : Nat) (attn : Bool) (request : Nat) :
    Framed wordRows [.events, .store] s (s.capUse a word attn request) := by
  unfold capUse
  extract_lets raw w th t el d spd s1 s2 s3 abs
  have h1 : Framed wordRows [.events, .store] s s1 :=
    ((((framed_refl s).setIn ha (by decide)).setIn ha (by decide)).setIn ha (by decide)).setIn ha (by decide) |>.setIn ha (by decide)
  have h3 : Framed wordRows [.events, .store] s s3 :=
    ((h1.setIn ha (by decide)).setIn ha (by decide)).setIn ha (by decide) |>.setIn ha (by decide)
  exact (h3.on fun _ => (framed_refl s3).raise ⟨by decide, ha, by decide⟩ (by decide)).andThen (framed_align _ ha ..) (by decide)

/-- The rows of the Belay island's own count of the edges (R287). -/
def blEdgeRows : List Row := [BL.blCnt, BL.blDir, BL.blN, BL.blT, BL.blTimed]

theorem framed_blEdge {a : Nat} (ha : a < 2) (up : Bool) (stamp : Nat) : Framed blEdgeRows [] s (s.blEdge a up stamp) := by
  unfold blEdge
  refine .ite (fun _ => framed_refl s) fun _ => ?_
  extract_lets goes s1 s2 s3
  have h1 : Framed blEdgeRows [] s s1 := ((framed_refl s).setIn ha (by decide)).setIn ha (by decide)
  have h2 : Framed blEdgeRows [] s s2 := h1.foldl _ fun u k hk => (framed_refl u).setIn ha ⟨by decide, by
    simp only [List.mem_cons, List.not_mem_nil, or_false] at hk
    change k < 5
    omega⟩
  have h3 : Framed blEdgeRows [] s s3 := h2.setIn ha (by decide)
  exact .ite (fun _ => (h3.setIn ha (by decide)).setIn ha (by decide)) fun _ => h3.setIn ha (by decide)

theorem framed_pushEdge {a : Nat} (ha : a < 2) (stamp : Nat) : Framed [POS.edgeT] [] s (s.pushEdge a stamp) :=
  (((framed_refl s).setIn ha (by decide)).setIn ha (by decide)).setIn ha (by decide) |>.setIn ha (by decide)

theorem framed_lineMove {a : Nat} (ha : a < 2) (d : Nat) : Framed [POS.lineQ, POS.ptoCnt] [] s (s.lineMove a d) := by
  unfold lineMove
  extract_lets s1
  have h1 : Framed [POS.lineQ, POS.ptoCnt] [] s s1 := (framed_refl s).setIn ha (by decide)
  exact h1.on fun _ => (framed_refl s1).setIn ha (by decide)

theorem framed_bivEnter {a : Nat} (ha : a < 2) (c : BivCause) : Framed Touch.bivEnter1 [.events, .store] s (s.bivEnter a c) :=
  framed_bivEnter1 s (lead_lt s ha) c

/-! Temperatures (R366 to R376) -/

/-- The rows of the faults of the sensors (R368). -/
def tempFaultRows : List Row := [HK.FAULT0.FAULT_LO, HK.FAULT1.FAULT_HI, RING.lost]

theorem framed_setFault (n : Nat) : Framed tempFaultRows [.events, .store] s (s.setFault n) := by
  unfold setFault
  extract_lets r
  have hr : r ∈ tempFaultRows ∧ 0 < r.c1 ∧ 0 < r.c2 := by
    simp only [r]
    split <;> decide
  exact .ite (fun _ => framed_refl s) fun _ => ((framed_refl s).set hr).event (by decide)

/-- The rows that a sensor's reading writes (R367, R368). -/
def sensorRows : List Row := [HK.TEMP.ABSENT, HK.TEMP.FAULT, HK.TEMP.VAL] ++ tempFaultRows ++ Touch.pitAct

theorem framed_latchSensor {n : Nat} (hn : n < 38) (reading : Option Nat) :
    Framed sensorRows [.events, .store] s (s.latchSensor n reading) := by
  unfold latchSensor
  refine .ite (fun _ => ((framed_refl s).setIn hn (by decide)).setIn hn (by decide) |>.setIn hn (by decide)) fun _ => ?_
  extract_lets openP addP s1 r s2
  have h1 : Framed sensorRows [.events, .store] s s1 := (framed_refl s).on fun h => by
    rcases Bool.or_eq_true_iff.1 h with h | h
    · exact (framed_pitAct h (by decide)).mono (by decide)
    · exact (framed_pitAct h (by decide)).mono (by decide)
  have h2 : Framed sensorRows [.events, .store] s s2 := h1.setIn hn (by decide)
  have hfault : Framed sensorRows [.events, .store] s (((s2.set HK.TEMP.FAULT 1 n).set HK.TEMP.VAL 0x3FF n).setFault n) :=
    ((h2.setIn hn (by decide)).setIn hn (by decide)).andThen (framed_setFault _ n) (by decide)
  cases r with
  | none => exact hfault
  | some c => exact .ite (fun _ => hfault) fun _ => (h2.setIn hn (by decide)).setIn hn (by decide)

theorem framed_bsMin {k : Nat} (hk : k < 3) : Framed [HK.BS_MIN.U, HK.BS_MIN.V, HK.BS_MIN.W] [] s (s.bsMin k) :=
  (((framed_refl s).setIn hk (by decide)).setIn hk (by decide)).setIn hk (by decide)

/-- The rows of the throttle factors (R370). -/
def throttleRows : List Row := [HK.thrN, HK.THR_VAL0.AXA, HK.THR_VAL0.AXB, HK.THR_VAL0.AUX0, HK.THR_VAL0.AUX1, HK.THR_VAL1.AUX2]

theorem framed_throttle : Framed throttleRows [] s s.throttle := by
  unfold throttle
  extract_lets s1
  have h1 : Framed throttleRows [] s s1 := (framed_refl s).forN fun k u hk =>
    .ite (fun _ => (framed_refl u).setIn hk (by decide)) fun _ => (framed_refl u).setIn hk (by decide)
  exact (h1.set (by decide) |>.set (by decide) |>.set (by decide)).set (by decide) |>.set (by decide)

theorem framed_bandRound : Framed [HK.BAND_STAT.GI, HK.BAND_STAT.ABI] [] s s.bandRound := by
  unfold bandRound
  extract_lets g new abi
  exact (framed_refl s).set (by decide) |>.set (by decide)

theorem framed_axBridgeOff {k : Nat} (hk : k < 3) : Framed [PU.sw, PU.onT] [] s (s.axBridgeOff k) := by
  have hp : 2 + k < 5 := by omega
  exact (framed_refl s).forN fun j u hj => ((framed_refl u).setIn hp ⟨by decide, hj⟩).setIn hp ⟨by decide, hj⟩

theorem framed_dieOtCall : Framed [BL.dieOt, BL.causeReq] [] s s.dieOtCall :=
  ((framed_refl s).set (by decide)).set (by decide) |>.set (by decide)

end
end State

open State

theorem frames_vdcFrame (code fb : BitVec 14) (seq : BitVec 4) (crcOk : Bool) : Frames Touch.sense (.vdcFrame code fb seq crcOk) :=
  .intro rfl fun s => by
    change FramedBy _ _ s (execVdcFrame code fb seq crcOk s)
    unfold execVdcFrame
    extract_lets s0 s1 d inOrder
    refine .next ?_
    have h0 := (framed_refl (rs := SEN.vdcPit :: Touch.pitAct) (fs := [.events, .store]) s).on (c := s.pit 0x16 5 0)
      (f := fun t => t.pitAct.set SEN.vdcPit (t.get SEN.VDC_CFG.LOST_US + 1)) fun h =>
        ((framed_pitAct h (by decide)).mono (by decide)).set (by decide)
    have h1 : Framed (SEN.dliEver :: SEN.vdcPit :: dliRows ++ Touch.pitAct) [.events, .store] s s1 :=
      ((h0.mono (by decide)).set (by decide)).on fun _ => (framed_dliReport _ _ _).mono (by decide)
    have htake := (framed_refl (rs := [SEN.VDC_RAW.CODE, SEN.VDC_RAW.SEQ, SEN.VDC_VAL.FAST] ++ vdcTailRows)
      (fs := [.events, .store]) s1).set (by decide)
      |>.set (by decide) |>.set (by decide) |>.andThen (framed_vdcTake s1 code.toNat seq.toNat) (by decide)
    refine .ite (fun _ => (h1.mono (by decide)).set (by decide)) fun _ => .ite (fun _ => ?_) fun _ => ?_
    · exact (((h1.mono (by decide)).andThen htake (by decide)).andThen (framed_debugVdc _) (by decide))
    · exact ((h1.mono (by decide)).set (by decide)).andThen (framed_debugVdc _) (by decide)

theorem frames_senPitArm (sel : BitVec 4) (ch : BitVec 3) : Frames Touch.sense (.senPitArm sel ch) := .intro rfl fun s => .next <|
  .ite (fun _ => framed_refl s) fun _ => .ite (fun _ => (framed_refl s).set (by decide)) fun _ =>
    framed_pitArm ((framed_refl s).set (by decide) |>.set (by decide)) (by decide) (by decide)

/-! ## The frames of the position commands (O48) -/

theorem frames_capRequest (axis : Fin 2) : Frames Touch.sense (.capRequest axis) := .intro rfl fun s => .next <|
  .ite (fun _ => (framed_refl s).setIn axis.isLt (by decide)) fun _ =>
    (((framed_refl s).setIn axis.isLt (by decide)).on
        fun h => ((framed_pitAct h (by decide)).mono (by decide)).setIn axis.isLt (by decide)).on
      fun h => ((framed_pitAct h (by decide)).mono (by decide)).setIn axis.isLt (by decide)

theorem frames_capFrame (axis : Fin 2) (startOk valid attn : Bool) (word : BitVec 32) (crc : BitVec 6) (delay : BitVec 8) (request : Nat) :
    Frames Touch.sense (.capFrame axis startOk valid attn word crc delay request) := .intro rfl fun s => by
  refine .ite (fun _ => .next (framed_refl s)) fun _ => .ite (fun _ => .next ((framed_capTmo s axis.isLt).mono (by decide))) fun _ => ?_
  extract_lets bs pit s1 crcOk
  refine .next ?_
  have h1 : Framed [POS.CAP_TIM.RX_DLY, POS.crcPit] [] s s1 :=
    ((framed_refl s).setIn axis.isLt (by decide)).on fun _ => (framed_refl _).setIn axis.isLt (by decide)
  refine (h1.mono (by decide)).trans <| .ite (fun _ => ?_) fun _ => .ite (fun _ => ?_)
      fun _ => (framed_capUse s1 axis.isLt ..).mono (by decide)
  · exact (((framed_refl s1).setIn axis.isLt (by decide)).setIn axis.isLt (by decide)).andThen (framed_capDiscard _ axis.isLt) (by decide)
  · exact ((framed_refl s1).setIn axis.isLt (by decide)).andThen (framed_capDiscard _ axis.isLt) (by decide)

theorem frames_capTimeout (axis : Fin 2) : Frames Touch.sense (.capTimeout axis) := .intro rfl fun s => .next <|
  .ite (fun _ => framed_capTmo s axis.isLt) fun _ => framed_refl s

theorem frames_capRecoveryEnd (axis : Fin 2) : Frames Touch.sense (.capRecoveryEnd axis) := .intro rfl fun s => .next <|
  (framed_refl s).setIn axis.isLt (by decide)

theorem frames_absLost (axis : Fin 2) : Frames Touch.sense (.absLost axis) := .intro rfl fun s => .next <|
  .ite (fun _ => (((framed_refl s).setIn axis.isLt (by decide)).setIn axis.isLt (by decide)).setIn (lead_lt s axis.isLt) (by decide))
    fun _ => framed_refl s

/-- What an edge of the lines may change (R67 to R70, R83, R287). -/
def incEdgeRows : List Row := [POS.INC_STAT.ILLEGAL, POS.INC_STAT.ILL_CNT, POS.INC_COUNT.COUNT, POS.INC_POS.POS, POS.INC_STAT.RATE,
  POS.INC_STAT.STILL, POS.edgeEver, POS.lineQ, POS.ptoCnt, POS.INC_STAT.DIR, POS.INC_STAT.DIR_CHG, POS.SPD_VAL.SPD_INC, POS.spdSat,
  POS.spdLast, POS.edgeN, POS.edgeT] ++ blEdgeRows ++ Touch.pitAct

theorem frames_incEdge (axis : Fin 2) (aLeads : Bool) (stamp : Nat) : Frames Touch.sense (.incEdge axis aLeads stamp) := by
  suffices h : ∀ s, FramedBy incEdgeRows [.events, .store, .out] s (exec (.incEdge axis aLeads stamp) s) from
    .intro rfl fun s t e => (h s t e).mono (by decide)
  intro s0
  have ha := axis.isLt
  change FramedBy _ _ s0 (execIncEdge axis aLeads stamp s0)
  unfold execIncEdge
  extract_lets a s tp up cpr pos s1 n s2 s3 restart td k dt v s4
  have hbl := framed_blEdge s0 ha (aLeads != s0.is POS.INC_CFG.SWAP axis) stamp
  have h : Framed incEdgeRows [.events, .store, .out] s0 s := Framed.mono hbl (by decide)
  refine .ite (fun hpit => .next ?_) fun _ => ?_
  · exact ((h.andThen (framed_pitAct hpit (by decide)) (by decide)).setIn ha (by decide)).setIn ha (by decide)
  have h1 : Framed incEdgeRows [.events, .store, .out] s0 s1 := (h.setIn ha (by decide)).setIn ha (by decide)
  have h2 : Framed incEdgeRows [.events, .store, .out] s0 s2 :=
    h1.on fun _ => (framed_refl s1).raise ⟨by decide, ha, by decide⟩ (by decide)
  have h3 : Framed incEdgeRows [.events, .store, .out] s0 s3 :=
    ((h2.setIn ha (by decide)).setIn ha (by decide)).andThen (framed_lineMove _ ha _) (by decide)
  have hrestart (t : State) (ht : Framed incEdgeRows [.events, .store, .out] s0 t) :
      Framed incEdgeRows [.events, .store, .out] s0 (restart t) :=
    ((ht.setIn ha (by decide)).setIn ha (by decide)).setIn ha (by decide) |>.setIn ha (by decide)
      |>.andThen (framed_pushEdge _ ha _) (by decide)
  refine .ite (fun _ => .next (hrestart _ ?_)) fun _ => .ite (fun _ => .next (hrestart _ h3)) fun _ => .next ?_
  · exact ((h3.setIn ha (by decide)).raise ⟨by decide, ha, by decide⟩ (by decide)).send (by decide)
  · have h4 : Framed incEdgeRows [.events, .store, .out] s0 s4 := h3.setIn ha (by decide)
    exact (((h4.setIn ha (by decide)).setIn ha (by decide)).setIn ha (by decide)).andThen (framed_pushEdge _ ha _) (by decide)

theorem frames_incIllegal (axis : Fin 2) : Frames Touch.sense (.incIllegal axis) := .intro rfl fun s => .next <|
  (((framed_refl s).setIn axis.isLt (by decide)).setIn axis.isLt (by decide)).andThen (framed_lineMove _ axis.isLt _) (by decide)

/-- What an index pulse may change (R71 to R73, R75, R83). -/
def indexRows : List Row := [POS.ptoZ, POS.IDX_LAT.LAT, POS.IDX_REF.REF, POS.IDX_REF.REF_VALID, POS.idxWait, POS.INC_STAT.INDEX_DRIFT]
  ++ Touch.align ++ Touch.pitAct

theorem frames_incIndex (axis : Fin 2) : Frames Touch.sense (.incIndex axis) := by
  suffices h : ∀ s, FramedBy indexRows [.events, .store] s (exec (.incIndex axis) s) from
    .intro rfl fun s t e => (h s t e).mono (by decide)
  intro s
  have ha := axis.isLt
  change FramedBy _ _ s (execIncIndex axis s)
  unfold execIncIndex
  extract_lets a sz cpr p s0 lat s1 d dev
  have hz : Framed indexRows [.events, .store] s sz := (framed_refl s).on fun _ => (framed_refl s).setIn ha (by decide)
  refine .ite (fun _ => .next hz) fun _ => ?_
  have hp (h : p = true) : sz.pit 0x17 4 a = true := by
    refine Eq.trans (RowsKept.pit (rs := [POS.ptoZ]) ?_ _ _ _ (by decide)) h
    exact ((framed_refl (fs := []) s).on fun _ => (framed_refl s).setIn ha (by decide)).rows
  have h0 : Framed indexRows [.events, .store] s s0 := hz.on fun h => (framed_pitAct (hp h) (by decide)).mono (by decide)
  have h1 : Framed indexRows [.events, .store] s s1 := (h0.setIn ha (by decide)).andThen (framed_align _ ha ..) (by decide)
  refine .ite (fun _ => .next ?_) fun _ => .ite (fun _ => .next h1) fun _ => .next ?_
  · exact ((h1.setIn ha (by decide)).setIn ha (by decide)).setIn ha (by decide)
  · exact h1.on fun _ => (framed_refl s1).raiseArg ⟨by decide, ha, by decide⟩ (by decide)

theorem frames_reref (axis : Fin 2) : Frames Touch.sense (.reref axis) := .intro rfl fun s => .next <|
  .ite (fun _ => framed_refl s) fun _ => .ite (fun _ => (framed_refl s).set (by decide)) fun _ =>
    ((framed_refl s).setIn axis.isLt (by decide)).setIn axis.isLt (by decide)

/-- What a line fault may change (R76, R287 to R289). -/
def lineFltRows : List Row := [POS.lfCap, POS.CAP_STAT.LINE_FLT, POS.lfInc, POS.INC_STAT.LINE_FLT, BL.lineFlt, POS.lfAB,
  POS.XCHK_STAT.VALID]
  ++ Touch.bivEnter1

theorem frames_lineFlt (axis : Fin 2) (pair : Fin 3) (present : Bool) : Frames Touch.sense (.lineFlt axis pair present) := by
  suffices h : ∀ s, FramedBy lineFltRows [.events, .store] s (exec (.lineFlt axis pair present) s) from
    .intro rfl fun s t e => (h s t e).mono (by decide)
  intro s
  have ha := axis.isLt
  change FramedBy _ _ s (execLineFlt axis pair present s)
  unfold execLineFlt
  extract_lets a s1 s2 s3
  have h1 : Framed lineFltRows [.events, .store] s s1 := (framed_refl s).setIn ha (by decide)
  have h2 : Framed lineFltRows [.events, .store] s s2 := h1.setIn ha (by decide)
  have h3 : Framed lineFltRows [.events, .store] s s3 := ((h2.setIn ha (by decide)).setIn ha (by decide)).setIn (lead_lt s2 ha) (by decide)
  refine .ite (fun _ => .next ?_) fun _ => .ite (fun _ => .next ?_) fun _ => .ite (fun _ => .next h2) fun _ => .next ?_
  · exact ((framed_refl s).setIn ha (by decide)).on fun _ => (framed_refl _).raise ⟨by decide, ha, by decide⟩ (by decide)
  · exact h1.on fun _ => (framed_refl s1).raise ⟨by decide, ha, by decide⟩ (by decide)
  · refine h3.trans <| .ite (fun _ => framed_refl s3) fun _ => .ite (fun _ => ?_) fun _ => .ite (fun _ => ?_) fun _ => ?_
    · exact (framed_refl s3).on fun _ => (framed_bivEnter s3 (by decide) _).mono (by decide)
    · exact (framed_bivEnter s3 (by decide) _).mono (by decide)
    · exact (framed_callSafe s3 ha _).mono (by decide)

theorem frames_posStill (axis : Fin 2) : Frames Touch.sense (.posStill axis) := .intro rfl fun s => .next <|
  have ha := axis.isLt
  .ite (fun _ => framed_refl s)
      fun _ => ((((framed_refl s).setIn ha (by decide)).setIn ha (by decide)).setIn ha (by decide)).setIn ha (by decide)
    |>.setIn ha (by decide)

theorem frames_sourceLost (axis : Fin 2) : Frames Touch.sense (.sourceLost axis) := .intro rfl fun s => by
  change FramedBy _ _ s (execSourceLost axis s)
  unfold execSourceLost
  extract_lets a v out
  have ha : a < 2 := axis.isLt
  cases out with
  | some k => exact .next (((framed_refl s).setIn ha (by decide)).setIn ha (by decide))
  | none => exact .next <| .ite (fun _ => (framed_callSafe s ha _).mono (by decide)) fun _ => framed_refl s

theorem frames_posPitArm (axis : Fin 2) (sel : BitVec 4) : Frames Touch.sense (.posPitArm axis sel) := .intro rfl fun s => .next <|
  .ite (fun _ => framed_refl s) fun _ =>
    framed_pitArm ((framed_refl s).set (by decide) |>.set (by decide)) (by decide) (by decide)

/-! ## The frames of the housekeeping commands (O48) -/

theorem frames_slowRound (codes : List (Option (BitVec 10))) (mt : List (Option (BitVec 20))) (missing : BitVec 24) :
    Frames Touch.sense (.slowRound codes mt missing) := .intro rfl fun s => .next <| by
  have hround (u : State) (n : Nat) (hn : n < 38) (r : Option Nat) :
      Framed ([HK.coolT, HK.otFail] ++ sensorRows) [.events, .store] u (((u.latchSensor n r).coolRound n).holdRound n) :=
    (((framed_latchSensor u hn r).mono (by decide)).on fun _ => (framed_refl _).setIn hn (by decide)).on fun _ =>
      (framed_refl _).setIn hn (by decide)
  refine .ite (fun _ => framed_refl s) fun _ => ?_
  refine (((framed_refl s).forN fun n u hn => (hround u n hn _).mono (by decide)).on fun _ => ?_).set (by decide)
  exact (framed_refl _).forN fun k u hk => (framed_bsMin u hk).mono (by decide)

theorem frames_roundDone : Frames Touch.sense .roundDone := .intro rfl fun s => .next <|
  .ite (fun _ => (((framed_refl s).set (by decide) |>.set (by decide) |>.set (by decide)).set (by decide) |>.andThen (framed_throttle _)
    (by decide)).andThen (framed_bandRound _) (by decide)) fun _ => framed_refl s

theorem frames_hkStale : Frames Touch.sense .hkStale := .intro rfl fun s => .next <|
  .ite (fun _ => framed_refl s) fun _ => (framed_refl s).raise (by decide) (by decide)

theorem frames_bsRst : Frames Touch.sense .bsRst := .intro rfl fun s => .next <|
  .ite (fun _ => framed_refl s) fun _ => (framed_refl s).forN fun k u hk =>
    (((framed_refl u).setIn hk (by decide)).setIn hk (by decide)).setIn hk (by decide)

theorem frames_abiOt (bridge : Fin 3) : Frames Touch.sense (.abiOt bridge) := .intro rfl fun s => .next <| by
  have hcool : 31 + bridge.val < HK.coolT.c1 := by change 31 + bridge.val < 38; omega
  have hp : 2 + bridge.val < 5 := by omega
  exact (((framed_refl s).set (by decide)).setIn hcool (by decide)
      |>.andThen (framed_axBridgeOff _ bridge.isLt) (by decide)).tripIn hp (by decide)

theorem frames_dieOt (belay : Bool) : Frames Touch.sense (.dieOt belay) := .intro rfl fun s => .next <| by
  refine Framed.andThen (.ite (fun _ => ?_) fun _ => ?_) (framed_dieOtCall _) (by decide)
  · exact (framed_refl s).set (by decide) |>.set (by decide)
  · exact ((framed_refl s).set (by decide)).forN fun k u hk => (framed_refl u).setIn (show 24 + k < 38 by omega) (by decide)

theorem frames_otRestart (sensor : Fin 38) : Frames Touch.sense (.otRestart sensor) := .intro rfl fun s => by
  change FramedBy _ _ s (execOtRestart sensor s)
  unfold execOtRestart
  generalize hn : sensor.val = n
  have hlt : n < 38 := hn ▸ sensor.isLt
  refine .next <| .ite (fun _ => framed_refl s) fun _ => .ite (fun h24 => ?_) fun _ => .ite (fun _ => ?_) fun _ => .ite (fun _ => ?_)
      fun _ =>
    .ite (fun h34 => ?_) fun _ => framed_refl s
  · have hi : n % 12 < GI.iOt.c1 := Nat.mod_lt _ (by decide)
    have hp : n % 12 / 6 < 5 := by omega
    exact (((framed_refl s).setIn hi (by decide)).on fun _ => (framed_refl _).set (by decide)).on
        fun _ => (framed_refl _).tripIn hp (by decide)
  · exact ((framed_refl s).set (by decide)).on fun _ => (framed_refl _).set (by decide)
  · exact ((framed_refl s).set (by decide)).on fun _ => (framed_refl _).set (by decide)
  · exact ((framed_refl s).set (by decide)).tripIn (by omega) (by decide)

theorem frames_hkPitArm (sens : BitVec 6) (sel : BitVec 4) : Frames Touch.sense (.hkPitArm sens sel) := .intro rfl fun s => .next <|
  .ite (fun _ => framed_refl s) fun _ =>
    framed_pitArm ((framed_refl s).set (by decide) |>.set (by decide)) (by decide) (by decide)

end Sys2Proof.Machine
end

section
namespace Sys2Proof.Machine
open State

/-- Every command of the sensing, position and housekeeping family keeps to its lists. -/
theorem frames_sense (c : Instr) : Frames Touch.sense c := by
  cases c
  case fastSample => exact frames_fastSample
  case ctrlSample axis => exact frames_ctrlSample axis
  case comparatorSample dat => exact frames_comparatorSample dat
  case chValid ch => exact frames_chValid ch
  case ofsStart axis => exact frames_ofsStart axis
  case ofsDone axis => exact frames_ofsDone axis
  case ofsAbandon axis => exact frames_ofsAbandon axis
  case senClip ch => exact frames_senClip ch
  case senBsl ch => exact frames_senBsl ch
  case sumFault star => exact frames_sumFault star
  case sup5Fault b => exact frames_sup5Fault b
  case ihaSample codes => exact frames_ihaSample codes
  case ihaSat ch => exact frames_ihaSat ch
  case ihaCm ch => exact frames_ihaCm ch
  case ihaAdc ch => exact frames_ihaAdc ch
  case ihaSum star => exact frames_ihaSum star
  case xchkWindow => exact frames_xchkWindow
  case curXchk ch => exact frames_curXchk ch
  case pvRecon axis legs => exact frames_pvRecon axis legs
  case legMis leg => exact frames_legMis leg
  case vdcFrame code fb seq crcOk => exact frames_vdcFrame code fb seq crcOk
  case vdcStale => exact frames_vdcStale
  case vdcLost => exact frames_vdcLost
  case senPitArm sel ch => exact frames_senPitArm sel ch
  case capRequest axis => exact frames_capRequest axis
  case capFrame axis startOk valid attn word crc delay request =>
    exact frames_capFrame axis startOk valid attn word crc delay request
  case capTimeout axis => exact frames_capTimeout axis
  case capRecoveryEnd axis => exact frames_capRecoveryEnd axis
  case absLost axis => exact frames_absLost axis
  case incEdge axis aLeads stamp => exact frames_incEdge axis aLeads stamp
  case incIllegal axis => exact frames_incIllegal axis
  case incIndex axis => exact frames_incIndex axis
  case reref axis => exact frames_reref axis
  case lineFlt axis pair present => exact frames_lineFlt axis pair present
  case posStill axis => exact frames_posStill axis
  case sourceLost axis => exact frames_sourceLost axis
  case posPitArm axis sel => exact frames_posPitArm axis sel
  case slowRound codes mt missing => exact frames_slowRound codes mt missing
  case roundDone => exact frames_roundDone
  case hkStale => exact frames_hkStale
  case bsRst => exact frames_bsRst
  case abiOt bridge => exact frames_abiOt bridge
  case dieOt belay => exact frames_dieOt belay
  case otRestart sensor => exact frames_otRestart sensor
  case hkPitArm sens sel => exact frames_hkPitArm sens sel
  all_goals exact .of_none rfl

/-- Settles O48: every operation that a command of the family is made of changes only rows and records of the command's lists; the
frame of a command is put together from those of its operations. -/
theorem sensingPositionAndThermalFrames : Obligations.SensingPositionAndThermalFrames :=
  fun c rs fs s t hc he =>
    have h : Framed rs fs s t := frames_sense c rs fs s hc t he
    ⟨h.rows, h.recs, h.pending⟩

end Sys2Proof.Machine
end

section
namespace Sys2Proof.Machine
namespace State

/-! ## Sensor faults and the offset measurement (O9) -/

theorem ofsRow_eq (a : Nat) : ofsRow a = SEN.OFS_CMD.START_A ∨ ofsRow a = SEN.OFS_CMD.START_B := by
  unfold ofsRow
  split
  · exact .inl rfl
  · exact .inr rfl

/-- START keeps its value where the rows that changed are distinct from both START bits. -/
theorem RowsKept.is_ofsRow {rs : List Row} {s t : State} (h : RowsKept rs s t) (a : Nat)
    (hr : (rs.all SEN.OFS_CMD.START_A.distinct && rs.all SEN.OFS_CMD.START_B.distinct) = true) : t.is (ofsRow a) = s.is (ofsRow a) := by
  rw [Bool.and_eq_true] at hr
  rcases ofsRow_eq a with e | e
  · rw [e]
    exact h.is_distinct (by decide) ⟨hr.1, by decide⟩
  · rw [e]
    exact h.is_distinct (by decide) ⟨hr.2, by decide⟩

theorem is_ofsRow_set (s : State) (a : Nat) (b : Bool) : (s.set (ofsRow a) (ofBool b)).is (ofsRow a) = b := by
  rcases ofsRow_eq a with e | e <;> exact is_setb_self _ _ _ _ _ (by rw [e]; decide)

theorem ofsBegin_reads (s : State) {a : Nat} (ha : a < 2) : (s.ofsBegin a).is (ofsRow a) = true ∧
    (s.ofsBegin a).get SEN.ofsCnt a = 0 ∧ (s.ofsBegin a).getBit SEN.STATUS.OFS_DONE a = false := by
  unfold ofsBegin
  extract_lets s1
  have hloop : RowsKept [SEN.ofsSum, SEN.ofsFlag] s1 (s1.forN 3 fun k t => (t.set SEN.ofsSum 0 (3 * a + k)).setb SEN.ofsFlag
      (t.getBit SEN.chCond 0 (3 * a + k) || t.getBit SEN.chCond 1 (3 * a + k)) (3 * a + k)) :=
    ((framed_refl (fs := []) s1).forN fun k u hk =>
      have hch : 3 * a + k < 6 := by omega
      ((framed_refl u).setIn hch (by decide)).setIn hch (by decide)).rows
  have hstart : RowsKept [SEN.ofsCnt, SEN.STATUS.OFS_DONE] (s.set (ofsRow a) 1) s1 :=
    (((framed_refl (fs := []) (s.set (ofsRow a) 1)).setIn ha (by decide)).set (by decide)).rows
  have hdone : RowsKept [SEN.STATUS.OFS_DONE] ((s.set (ofsRow a) 1).set SEN.ofsCnt 0 a) s1 :=
    ((framed_refl (fs := []) _).set (by decide)).rows
  refine ⟨?_, ?_, ?_⟩
  · rw [hloop.is_ofsRow a (by decide), hstart.is_ofsRow a (by decide)]
    exact is_ofsRow_set s a true
  · rw [hloop.get_distinct ha (by decide), hdone.get_distinct ha (by decide), get_set_self]
    rfl
  · rw [hloop.getBit_distinct (by decide) (by decide)]
    exact getBit_setBit_false ..

/-- The measurement is abandoned: START reads 0 and each channel of the axis fails (R46). -/
theorem ofsFailAll_reads (s : State) {a : Nat} (ha : a < 2) : (s.ofsFailAll a).is (ofsRow a) = false ∧
    ∀ k < 3, (s.ofsFailAll a).is SEN.CH_STAT.OFS_FAIL (3 * a + k) = true := by
  have hturn (u : State) (k : Nat) : Framed (rowsAt [SEN.CH_STAT.OFS_FAIL] (3 * a + k) [SEN.STATUS.CH_FAULT]) [] u
      ((u.set SEN.CH_STAT.OFS_FAIL 1 (3 * a + k)).chFault (3 * a + k)) :=
    ((framed_refl u).setAt (by decide)).shared (framed_chFault _ _) (by decide)
  refine ⟨?_, fun k hk => ?_⟩
  · have hloop : RowsKept [SEN.CH_STAT.OFS_FAIL, SEN.STATUS.CH_FAULT] (s.set (ofsRow a) 0) (s.ofsFailAll a) :=
      ((framed_refl (fs := []) _).forN fun k u hk => (hturn u k).widen (show 3 * a + k < 6 by omega) (by decide)).rows
    rw [hloop.is_ofsRow a (by decide)]
    exact is_ofsRow_set s a false
  · have hch : 3 * a + k < SEN.CH_STAT.OFS_FAIL.c1 := by change 3 * a + k < 6; omega
    obtain ⟨u, -, hu⟩ := forN_turn (R := TurnKept [SEN.CH_STAT.OFS_FAIL] [SEN.STATUS.CH_FAULT] (3 * a + k)) (turnKept_refl _ _ _)
      TurnKept.trans hk (fun k t => (t.set SEN.CH_STAT.OFS_FAIL 1 (3 * a + k)).chFault (3 * a + k))
      (fun j t hj hne => (hturn t j).rows.turn (show 3 * a + j < 6 by omega) (by decide) (by omega)) (s.set (ofsRow a) 0)
    rw [ofsFailAll, hu.is hch (by decide), (framed_chFault _ _).rows.is_distinct hch (by decide)]
    exact is_set_one _ _ _ _ (by decide)

/-- What a measured channel's turn at the end of a measurement changes. -/
abbrev OfsKept (ch : Nat) : State → State → Prop := TurnKept [SEN.CH_STAT.OFS_FAIL, SEN.CH_OFS.OFS] [SEN.STATUS.CH_FAULT] ch

/-- A channel that was flagged during the measurement keeps its OFS and sets OFS_FAIL (R47). -/
theorem ofsTakes_flagged (s : State) {a ch : Nat} (ha : a < 2) (hch : ch ∈ s.ofsChannels a) (hflag : s.is SEN.ofsFlag ch = true) :
    ((s.ofsChannels a).foldl State.ofsTake s).is SEN.CH_STAT.OFS_FAIL ch = true ∧
      ((s.ofsChannels a).foldl State.ofsTake s).get SEN.CH_OFS.OFS ch = s.get SEN.CH_OFS.OFS ch := by
  have hlt : ch < 6 := lt_of_mem_ofsChannels ha hch
  have hnodup : (s.ofsChannels a).Nodup := by
    have hstar : (starCh a).Nodup := by simp [starCh]
    exact hstar.filter _
  obtain ⟨u, hu, ht⟩ := foldl_turn (R := OfsKept ch) (turnKept_refl _ _ _) TurnKept.trans hch hnodup State.ofsTake
    (fun k hk t hne => (framed_ofsTake t k).rows.turn (lt_of_mem_ofsChannels ha hk) (by decide) hne) s
  have htake : u.ofsTake ch = (u.set SEN.CH_STAT.OFS_FAIL 1 ch).chFault ch := by
    have hbad : u.ofsBad ch = true := by
      rw [ofsBad, hu.is hlt (by decide), hflag, Bool.true_or]
    rw [ofsTake, if_pos hbad]
  have hrest : RowsKept [SEN.CH_STAT.OFS_FAIL, SEN.STATUS.CH_FAULT] u (u.ofsTake ch) := by
    rw [htake]
    exact (((framed_refl (fs := []) u).setIn hlt (by decide)).andThen (framed_chFault _ ch) (by decide)).rows
  refine ⟨?_, ?_⟩
  · rw [ht.is hlt (by decide), htake, (framed_chFault _ ch).rows.is_distinct hlt (by decide)]
    exact is_set_one _ _ _ _ (by decide)
  · rw [ht.get hlt (by decide), hrest.get_distinct hlt (by decide), hu.get hlt (by decide)]

theorem mem_ofsChannels {s : State} {a k : Nat} (hk : k < 3) (hen : s.getBit SEN.CTL.CH_EN (3 * a + k) = true)
    (hsub : s.is SEN.CH_STAT.SUBST (3 * a + k) = false) : 3 * a + k ∈ s.ofsChannels a := by
  refine List.mem_filter.2 ⟨?_, by rw [hen, hsub]; rfl⟩
  simp only [starCh, List.mem_cons, List.not_mem_nil, or_false]
  omega

/-- A channel's flags pass to CH_FAULT (R48). -/
theorem getBit_chFault (s : State) {k : Nat} (hk : k < 6) (h : s.is SEN.CH_STAT.CLIP k = true) :
    (s.chFault k).getBit SEN.STATUS.CH_FAULT k = true := by
  rw [chFault, getBit_setBit _ _ _ _ _ hk, h]
  simp

theorem is_raise_channel (s : State) (c : EvClass) {r : Row} {k inst : Nat} (hk : k < r.c1)
    (hr : (1 < 2 ^ r.width ∧ 0 < r.c2) ∧ RING.lost.distinct r = true) : (s.raise c r k 0 inst).is r k = true :=
  is_raise s c r k 0 inst hr.1.1 fun j hj => Row.key_ne_of_distinct hr.2 hj (by decide) hk hr.1.2

theorem clip_reads (s : State) {k : Nat} (hk : k < 6) :
    (s.clip k).is SEN.CH_STAT.CLIP k = true ∧ (s.clip k).getBit SEN.STATUS.CH_FAULT k = true := by
  have hclip : (((s.setBit SEN.chCond 1 true k).raise .warning SEN.CH_STAT.CLIP k).set SEN.ofsFlag 1 k).is SEN.CH_STAT.CLIP k = true := by
    rw [(rowsKept_set_only _ (r := SEN.ofsFlag) hk (by decide)).is_distinct hk (by decide)]
    exact is_raise_channel _ _ hk (by decide)
  refine ⟨?_, getBit_chFault _ hk hclip⟩
  rw [clip, (framed_chFault _ k).rows.is_distinct hk (by decide)]
  exact hclip

theorem is_bslFlag (s : State) {k : Nat} (hk : k < 6) : (s.bslFlag k).is SEN.CH_STAT.BSL k = true := by
  rw [bslFlag, (framed_chFault _ k).rows.is_distinct hk (by decide),
    (rowsKept_set_only _ (r := SEN.ofsFlag) hk (by decide)).is_distinct hk (by decide)]
  exact is_raise_channel _ _ hk (by decide)

/-- The channels that are lost after BSL: the channel, and those that were. -/
theorem chLost_bslFlag (s : State) {k j : Nat} (hk : k < 6) (hj : j < 6) :
    (s.bslFlag k).chLost j = if j = k then true else s.chLost j := by
  have hrest : RowsKept [SEN.chCond, SEN.CH_STAT.BSL, SEN.ofsFlag, SEN.STATUS.CH_FAULT, RING.lost] (s.set SEN.lostCh 1 k) (s.bslFlag k) :=
    (((framed_refl (fs := [.events, .store]) _).setIn hk (by decide)).raise ⟨by decide, hk, by decide⟩ (by decide)
      |>.setIn hk (by decide) |>.andThen (framed_chFault _ k) (by decide)).rows
  rw [chLost, hrest.is_distinct hj (by decide)]
  split
  case isTrue h =>
    subst h
    exact is_set_one _ _ _ _ (by decide)
  case isFalse h =>
    rw [is, get_set_ne _ _ _ _ _ _ (Row.key_ne_of_elsewhere (by decide) hk (by decide) hj (by decide) (Ne.symm h)), chLost, is]

/-- A channel that is the only one lost of its star is substituted where RECON_EN is set (R51). -/
theorem bsl_reads (s : State) {ch : Nat} (hch : ch < 6) : (s.bsl ch).is SEN.CH_STAT.BSL ch = true ∧
    ((∀ k < 6, k ≠ ch → s.chLost k = false) → s.is SEN.CTL.RECON_EN = true → (s.bsl ch).is SEN.CH_STAT.SUBST ch = true) := by
  unfold bsl
  extract_lets s1 n
  have hflag : RowsKept (SEN.CH_STAT.SUBST :: [SEN.STATUS.SUBST, SEN.STATUS.CH_FAULT]) s1 ((s1.on (n == 1 && s1.is SEN.CTL.RECON_EN)
      fun t =>
      (t.set SEN.CH_STAT.SUBST 1 ch).setBit SEN.STATUS.SUBST ch true).chFault ch) :=
    (((framed_refl (fs := []) s1).on
        fun _ => ((framed_refl _).setIn hch (by decide)).set (by decide)).andThen (framed_chFault _ ch) (by decide)).rows
  refine ⟨?_, fun hlost hrecon => ?_⟩
  · rw [hflag.is_distinct hch (by decide)]
    exact is_bslFlag s hch
  · have hn : n = 1 := by
      have hfilter : (starCh (chAxis ch)).filter (fun k => s1.chLost k) = (starCh (chAxis ch)).filter (fun k => k == ch) := by
        refine List.filter_congr fun k hk => ?_
        have hk6 : k < 6 := by
          simp only [starCh, chAxis, List.mem_cons, List.not_mem_nil, or_false] at hk
          omega
        rw [chLost_bslFlag s hch hk6]
        split
        case isTrue h => simp [h]
        case isFalse h => simp [h, hlost k hk6 h]
      change ((starCh (chAxis ch)).filter fun k => s1.chLost k).length = 1
      have honly : ∀ c < 6, ((starCh (chAxis c)).filter fun k => k == c).length = 1 := by decide
      rw [hfilter, honly ch hch]
    have hrecon1 : s1.is SEN.CTL.RECON_EN = true :=
      ((framed_bslFlag s ch).widen (qs := RING.lost :: SEN.STATUS.CH_FAULT :: bslRows) (gs := [.events, .store]) hch
        (by decide)).rows.is_distinct (by decide) (by decide) |>.trans hrecon
    rw [hn, hrecon1, (framed_chFault _ ch).rows.is_distinct hch (by decide)]
    change ((s1.set SEN.CH_STAT.SUBST 1 ch).setBit SEN.STATUS.SUBST ch true).is SEN.CH_STAT.SUBST ch = true
    rw [setBit, (rowsKept_set_only _ (r := SEN.STATUS.SUBST) (by decide) (by decide)).is_distinct hch (by decide)]
    exact is_set_one _ _ _ _ (by decide)

end State

open State

theorem exec_ofsStart (axis : Fin 2) (s : State) (hpd : s.pdOn 3 = true) (hrow : s.is (ofsRow axis) = false) :
    exec (.ofsStart axis) s = .next (if s.ofsOk axis then s.ofsBegin axis else s.set SEN.STATUS.CFG_REJECT 1) := by
  change Host.Outcome.next _ = _
  rw [hpd, hrow]
  rfl

theorem exec_ofsDone (axis : Fin 2) (s : State) (hrow : s.is (ofsRow axis) = true) (hok : s.ofsOk axis = true)
    (hcnt : 2 ^ s.get SEN.OFS_CMD.OFS_LEN ≤ s.get SEN.ofsCnt axis) :
    exec (.ofsDone axis) s = .next ((((s.ofsChannels axis).foldl State.ofsTake s).set (ofsRow axis) 0).setBit SEN.STATUS.OFS_DONE axis
      (!(s.ofsChannels axis).any s.ofsBad)) := by
  change Host.Outcome.next _ = _
  rw [hrow, hok, if_neg (by decide), if_neg (by decide), if_neg (Nat.not_lt.2 hcnt)]

/-- Settles O9: a turn of a channel changes no other channel's rows, so each channel's rows are read off its own turn. -/
theorem currentSensorFaultsAndOffsets : Obligations.CurrentSensorFaultsAndOffsets := by
  unfold Obligations.CurrentSensorFaultsAndOffsets
  refine ⟨fun axis s hrow hok hpd => ?start, fun axis s hrow hok hpd => ?refused, fun axis s hrow hok hcnt => ?done,
    fun axis s hrow hok => ?abandon, fun ch s hrun => ?clip, fun ch s hrun => ?bsl⟩
  case start =>
    refine ⟨_, exec_ofsStart axis s hpd hrow, ?_⟩
    rw [if_pos hok]
    exact ofsBegin_reads s axis.isLt
  case refused =>
    refine ⟨_, exec_ofsStart axis s hpd hrow, ?_⟩
    rw [if_neg (by rw [hok]; decide)]
    exact ⟨is_set_one _ _ _ _ (by decide), ((rowsKept_set_only s (by decide) (by decide)).is_ofsRow axis (by decide)).trans hrow⟩
  case done =>
    refine ⟨_, exec_ofsDone axis s hrow hok hcnt, ?_, fun k hk hen hsub hflag => ?_⟩
    · rw [setBit, (rowsKept_set_only _ (r := SEN.STATUS.OFS_DONE) (by decide) (by decide)).is_ofsRow axis (by decide)]
      exact is_ofsRow_set _ axis false
    · have hch : 3 * axis.val + k < 6 := by omega
      have hend (u : State) (b : Bool) : RowsKept (SEN.STATUS.OFS_DONE :: ofsStartRows) u
          ((u.set (ofsRow axis) 0).setBit SEN.STATUS.OFS_DONE axis b) :=
        (((framed_refl (fs := []) u).andThen (framed_ofsRow u axis 0) (by decide)).set (by decide)).rows
      obtain ⟨hfail, hofs⟩ := ofsTakes_flagged s axis.isLt (mem_ofsChannels hk hen hsub) hflag
      exact ⟨((hend _ _).is_distinct hch (by decide)).trans hfail, ((hend _ _).get_distinct hch (by decide)).trans hofs⟩
  case abandon => exact ⟨_, congrArg Host.Outcome.next (if_pos (by rw [hrow, hok]; rfl)), ofsFailAll_reads s axis.isLt⟩
  case clip => exact ⟨_, congrArg Host.Outcome.next (if_pos hrun), clip_reads s ch.isLt⟩
  case bsl => exact ⟨_, congrArg Host.Outcome.next (if_pos hrun), bsl_reads s ch.isLt⟩

end Sys2Proof.Machine
end

section
namespace Sys2Proof.Machine
namespace State

/-! ## Phase voltages, V_dc and the pitons of SEN (O10) -/

/-- A trip source that is raised at both traction units. -/
theorem getBit_tripIn_both (s : State) {src : Nat} (h : src < PU.tripIn.width) :
    ((s.tripIn 0 src).tripIn 1 src).getBit PU.tripIn src 0 = true ∧ ((s.tripIn 0 src).tripIn 1 src).getBit PU.tripIn src 1 = true :=
  ⟨(getBit_tripIn_ne _ (by decide)).trans (getBit_tripIn_self _ _ h), getBit_tripIn_self _ _ h⟩

theorem ellOf_set (s : State) {r : Row} {v i a : Nat} (ha : a < 2) (hi : i < r.c1) (hr : [r].all SEN.pv.distinct = true ∧ 0 < r.c2) :
    (s.set r v i).ellOf a = s.ellOf a := by
  have hpv (k : Nat) (hk : k < 3) : (s.set r v i).geti SEN.pv (3 * a + k) = s.geti SEN.pv (3 * a + k) :=
    (rowsKept_set_only s hi hr.2).geti_distinct (show 3 * a + k < 6 by omega) ⟨hr.1, by decide⟩
  simp only [ellOf, hpv 0 (by decide), hpv 1 (by decide), hpv 2 (by decide)]

theorem chAxis_eq {k : Nat} (hk : k < 6) : chAxis k = 0 ∨ chAxis k = 1 := by
  rw [chAxis]
  omega

theorem legsFailing_of_disabled (s : State) (h : s.axEn 0 = false ∧ s.axEn 1 = false) : s.legsFailing = 0 := by
  have hnone (sign : Bool) : (List.range 6).filter
      (fun k => s.axEn (chAxis k) && s.getBit SEN.pvFail k && s.getBit SEN.pvSign k == sign) = [] := by
    refine List.filter_eq_nil_iff.2 fun k hk => ?_
    rcases chAxis_eq (List.mem_range.1 hk) with e | e <;> simp [e, h]
  simp only [legsFailing, hnone, List.length_nil, Nat.max_self]

theorem le_legsFailing_of_all (s : State) (h : s.axEn 0 = true ∧ s.axEn 1 = true)
    (hf : ∀ k < 6, s.getBit SEN.pvFail k = true ∧ s.getBit SEN.pvSign k = true) : 4 ≤ s.legsFailing := by
  have hall : (List.range 6).filter
      (fun k => s.axEn (chAxis k) && s.getBit SEN.pvFail k && s.getBit SEN.pvSign k == true) = List.range 6 := by
    refine List.filter_eq_self.2 fun k hk => ?_
    obtain ⟨hfail, hsign⟩ := hf k (List.mem_range.1 hk)
    rcases chAxis_eq (List.mem_range.1 hk) with e | e <;> simp [e, h, hfail, hsign]
  simp only [legsFailing, hall, List.length_range]
  omega

/-- A bit raised with its event reads 1. -/
theorem getBit_raiseBit (s : State) (c : EvClass) (r : Row) {n : Nat} (inst : Nat) (hn : n < r.width)
    (hr : 0 < r.c1 ∧ 0 < r.c2 ∧ RING.lost.distinct r = true) : (s.raiseBit c r n 0 0 inst).getBit r n = true := by
  unfold raiseBit
  split
  · assumption
  · rw [getBit, get_event _ _ _ _ _ _ _ _ _ _ fun j hj => Row.key_ne_of_distinct hr.2.2 hj (by decide) hr.1 hr.2.1]
    exact getBit_setBit_self s r 0 0 hn

theorem code_dliReport (s : State) (code fb : Nat) : (s.dliReport code fb).get DLI.FB.CODE = fb % 2 ^ 14 := by
  unfold dliReport
  extract_lets on s1 s2
  have hrest : RowsKept [DLI.STATUS.DIS_ON, DLI.STATUS.OVB, DLI.stuck] ((s.set DLI.STATUS.POWERED 1).set DLI.FB.CODE fb)
      (s2.on (on || decide (code * 1100 ≤ (fb * 1100 + 50 * 16384))) (·.setBit DLI.stuck 1 false)) :=
    ((((framed_refl (fs := []) _).set (by decide)).set (by decide)).on fun _ => (framed_refl _).set (by decide)).on
      (fun _ => (framed_refl _).set (by decide)) |>.rows
  rw [hrest.get_distinct (by decide) (by decide), get_set_self]
  rfl

/-- The rows that tell V_base (R281). -/
def vBaseRows : List Row := [BL.secOk, BL.sec, SQ.STATUS.JOINED, BL.idleVBase]

theorem RowsKept.vBase_eq {rs : List Row} {s t : State} (h : RowsKept rs s t) (hr : (vBaseRows.all fun r => rs.all r.distinct) = true) :
    t.vBase 0 = s.vBase 0 := by
  simp only [vBaseRows, List.all_cons, List.all_nil, Bool.and_true, Bool.and_eq_true] at hr
  obtain ⟨hok, hsec, hjoined, hidle⟩ := hr
  have hch : t.axisCh 0 = s.axisCh 0 := by
    rw [axisCh, axisCh, joined, joined, h.is_distinct (r := SQ.STATUS.JOINED) (by decide) ⟨hjoined, by decide⟩]
  have hlt : s.axisCh 0 < 8 := by
    unfold axisCh
    split <;> decide
  rw [vBase, vBase, secInForce, secInForce, secField, secField, hch, h.is_distinct (r := BL.secOk) hlt ⟨hok, by decide⟩,
    h.get_distinct (r := BL.sec) hlt ⟨hsec, by decide⟩, h.get_distinct (r := BL.idleVBase) (by decide) ⟨hidle, by decide⟩]

/-- The V_dc registers after a good frame (R58). -/
theorem vdcTake_reads (s : State) (code seq : Nat) : (s.vdcTake code seq).get SEN.VDC_RAW.CODE = code % 2 ^ 14 ∧
    (s.vdcTake code seq).get SEN.VDC_RAW.SEQ = seq % 2 ^ 4 ∧
    (s.vdcTake code seq).get SEN.VDC_VAL.FAST = min (quotN (code * 11000 * 32768) (16383 * s.vBase 0)) 0x7FFF := by
  have htail := (framed_vdcTake s code seq).rows
  refine ⟨?_, ?_, ?_⟩
  · rw [htail.get_distinct (by decide) (by decide), get_set_ne _ _ _ _ _ _ (by decide), get_set_ne _ _ _ _ _ _ (by decide), get_set_self]
    rfl
  · rw [htail.get_distinct (by decide) (by decide), get_set_ne _ _ _ _ _ _ (by decide), get_set_self]
    rfl
  · rw [htail.get_distinct (by decide) (by decide), get_set_self]
    exact Nat.mod_eq_of_lt (Nat.lt_of_le_of_lt (Nat.min_le_right _ _) (by decide))

/-- What a V_dc frame changes before its sample is taken or counted (R333, R398). -/
theorem framed_vdcArrives (s : State) (crcOk : Bool) (code fb : Nat) :
    Framed (SEN.dliEver :: dliRows) [] s ((s.set SEN.dliEver 1).on crcOk (·.dliReport code fb)) :=
  ((framed_refl s).set (by decide)).on fun _ => (framed_dliReport _ _ _).mono (by decide)

end State

open State

theorem exec_vdcFrame_good (code fb : BitVec 14) (seq : BitVec 4) (s : State) (hpit : s.pit 0x16 5 0 = false)
    (hrun : s.is SEN.vdcPit = false) (hever : s.is SEN.vdcEver = false) : exec (.vdcFrame code fb seq true) s =
      .next ((((s.set SEN.dliEver 1).dliReport code.toNat fb.toNat).vdcTake code.toNat seq.toNat).debugVdc) := by
  have harrives := (framed_vdcArrives s true code.toNat fb.toNat).rows
  have hrun1 := (harrives.is_distinct (r := SEN.vdcPit) (j := 0) (by decide) (by decide)).trans hrun
  have hever1 := (harrives.is_distinct (r := SEN.vdcEver) (j := 0) (by decide) (by decide)).trans hever
  change execVdcFrame code fb seq true s = _
  simp only [execVdcFrame, hpit, State.on, Bool.false_eq_true, if_false, if_true, Bool.true_and] at hrun1 hever1 ⊢
  rw [hrun1, hever1]
  rfl

theorem exec_vdcFrame_bad (code fb : BitVec 14) (seq : BitVec 4) (s : State) (hpit : s.pit 0x16 5 0 = false)
    (hrun : s.is SEN.vdcPit = false) : exec (.vdcFrame code fb seq false) s =
      .next (((s.set SEN.dliEver 1).incSat SEN.VDC_STAT.BAD_FRAMES).debugVdc) := by
  have hrun1 :=
    ((framed_vdcArrives s false code.toNat fb.toNat).rows.is_distinct (r := SEN.vdcPit) (j := 0) (by decide) (by decide)).trans hrun
  change execVdcFrame code fb seq false s = _
  simp only [execVdcFrame, hpit, State.on, Bool.false_eq_true, if_false, Bool.false_and] at hrun1 ⊢
  rw [hrun1]
  rfl

theorem exec_senPitArm (sel : BitVec 4) (ch : BitVec 3) (s : State) (ha : s.pitAllowed = true) (hsel : 1 ≤ sel.toNat ∧ sel.toNat ≤ 6)
    (hch : ch.toNat ≤ 5) (hpd : s.pdOn 3 = true) : exec (.senPitArm sel ch) s =
      .next ((((s.set SEN.PIT_CTL.SEL sel.toNat).set SEN.PIT_CTL.CH ch.toNat).pitSet 0x16 sel.toNat
        (if sel.toNat = 5 then 0 else ch.toNat) 0).set SEN.PIT_CTL.ARM 1) := by
  change Host.Outcome.next _ = _
  rw [hpd, if_neg (by decide), if_neg (Nat.not_lt.2 hch), pitArm, decide_eq_true hsel, ha]
  rfl

/-- A piton that is armed is named in PIT_STAT (R330). -/
theorem pitSet_reads (s : State) (source sel inst unit : Nat) : (s.pitSet source sel inst unit).is BL.PIT_STAT.ARMED = true ∧
    (s.pitSet source sel inst unit).get BL.PIT_STAT.SOURCE = source % 2 ^ BL.PIT_STAT.SOURCE.width ∧
    (s.pitSet source sel inst unit).get BL.PIT_STAT.SEL = sel % 2 ^ BL.PIT_STAT.SEL.width := by
  have hrest (u : State) : RowsKept [BL.pitInst, BL.pitUnit, BL.pitT, RING.lost] u
      ((((u.set BL.pitInst inst).set BL.pitUnit unit).set BL.pitT s.now).event .safety 0 0x30 0x0215 source (inst * 256 + sel)) :=
    ((framed_refl (fs := [.events, .store]) u).set (by decide) |>.set (by decide) |>.set (by decide) |>.event (by decide)).rows
  unfold pitSet safetyLog
  refine ⟨?_, ?_, ?_⟩
  · rw [(hrest _).is_distinct (by decide) (by decide), is, get_set_ne _ _ _ _ _ _ (by decide), get_set_ne _ _ _ _ _ _ (by decide)]
    exact is_set_one _ _ _ _ (by decide)
  · rw [(hrest _).get_distinct (by decide) (by decide), get_set_ne _ _ _ _ _ _ (by decide), get_set_self]
  · rw [(hrest _).get_distinct (by decide) (by decide), get_set_self]

/-- Settles O10: each register is read back through the rows that the rest of the command leaves alone. -/
theorem phaseVoltageAndDcLinkSensing : Obligations.PhaseVoltageAndDcLinkSensing := by
  unfold Obligations.PhaseVoltageAndDcLinkSensing
  refine ⟨fun axis legs s => ?recon, fun leg s hdis hn hfail => ?leg, fun leg s hen hf => ?six, fun code fb seq s hpit hever => ?good,
    fun code fb seq s hpit => ?bad, fun s => ?stale, fun s => ?lost, fun sel ch s ha hsel hch hpd => ?arm⟩
  case recon =>
    refine ⟨_, rfl, ?_, ?_⟩
    · rw [(rowsKept_set_only _ (r := SEN.ell) axis.isLt (by decide)).is_distinct axis.isLt (by decide)]
      exact is_set_one _ _ _ _ (by decide)
    · rw [get_set_self, ellOf_set _ axis.isLt axis.isLt (by decide), ellOf_set _ axis.isLt axis.isLt (by decide)]
      exact Nat.mod_eq_of_lt (Nat.lt_of_le_of_lt (Nat.min_le_right _ _) (by decide))
  case leg =>
    have h4 : ¬4 ≤ s.legsFailing := by rw [legsFailing_of_disabled s hdis]; decide
    refine ⟨_, congrArg Host.Outcome.next ((if_neg h4).trans (if_pos (by simp [hn, hfail]))), ?_⟩
    exact getBit_raiseBit _ _ _ _ leg.isLt (by decide)
  case six =>
    refine ⟨_, congrArg Host.Outcome.next (if_pos (le_legsFailing_of_all s hen hf)), ?_, getBit_tripIn_both _ (by decide)⟩
    have htrips (u : State) : RowsKept [PU.tripIn] u ((u.tripIn 0 9).tripIn 1 9) :=
      ((framed_refl (fs := []) u).tripIn (by decide) (by decide) |>.tripIn (by decide) (by decide)).rows
    rw [(htrips _).is_distinct (by decide) (by decide)]
    exact is_set_one _ _ _ _ (by decide)
  case good =>
    obtain ⟨hpit, hrun⟩ := hpit
    refine ⟨_, exec_vdcFrame_good code fb seq s hpit hrun hever, ?_⟩
    have harrives := (framed_vdcArrives s true code.toNat fb.toNat).rows
    have hdebug := fun u : State => (framed_debugVdc u).rows
    obtain ⟨hcode, hseq, hfast⟩ := vdcTake_reads ((s.set SEN.dliEver 1).dliReport code.toNat fb.toNat) code.toNat seq.toNat
    have hbase : ((s.set SEN.dliEver 1).dliReport code.toNat fb.toNat).vBase 0 = s.vBase 0 := harrives.vBase_eq (by decide)
    have htail := (framed_vdcTake ((s.set SEN.dliEver 1).dliReport code.toNat fb.toNat) code.toNat seq.toNat).rows
    refine ⟨?_, ?_, ?_, ?_⟩
    · rw [(hdebug _).get_distinct (by decide) (by decide), htail.get_distinct (by decide) (by decide),
        get_set_ne _ _ _ _ _ _ (by decide), get_set_ne _ _ _ _ _ _ (by decide), get_set_ne _ _ _ _ _ _ (by decide), code_dliReport]
      exact Nat.mod_eq_of_lt fb.isLt
    · rw [(hdebug _).get_distinct (by decide) (by decide), hcode]
      exact Nat.mod_eq_of_lt code.isLt
    · rw [(hdebug _).get_distinct (by decide) (by decide), hseq]
      exact Nat.mod_eq_of_lt seq.isLt
    · rw [(hdebug _).get_distinct (by decide) (by decide), hfast, hbase]
  case bad =>
    obtain ⟨hpit, hrun⟩ := hpit
    refine ⟨_, exec_vdcFrame_bad code fb seq s hpit hrun, ?_, ?_⟩
    · rw [(framed_debugVdc _).rows.get_distinct (by decide) (by decide), incSat, get_set_ne _ _ _ _ _ _ (by decide),
        get_set_ne _ _ _ _ _ _ (by decide)]
    · rw [(framed_debugVdc _).rows.get_distinct (by decide) (by decide), get_incSat_self, get_set_ne _ _ _ _ _ _ (by decide)]
      rfl
  case stale =>
    refine ⟨_, rfl, ?_, ?_, is_set_one _ _ _ _ (by decide)⟩
    · rw [is, get_set_ne _ _ _ _ _ _ (by decide), get_set_ne _ _ _ _ _ _ (by decide)]
      exact is_set_one _ _ _ _ (by decide)
    · rw [is, get_set_ne _ _ _ _ _ _ (by decide)]
      exact is_set_one _ _ _ _ (by decide)
  case lost =>
    refine ⟨_, rfl, ?_, ?_⟩
    · have htrips (u : State) : RowsKept [PU.tripIn] u ((u.tripIn 0 8).tripIn 1 8) :=
        ((framed_refl (fs := []) u).tripIn (by decide) (by decide) |>.tripIn (by decide) (by decide)).rows
      rw [(framed_debugVdc _).rows.is_distinct (by decide) (by decide), (htrips _).is_distinct (by decide) (by decide)]
      exact is_set_one _ _ _ _ (by decide)
    · rw [(framed_debugVdc _).rows.getBit_distinct (by decide) (by decide),
        (framed_debugVdc _).rows.getBit_distinct (by decide) (by decide)]
      exact getBit_tripIn_both _ (by decide)
  case arm =>
    refine ⟨_, exec_senPitArm sel ch s ha hsel hch hpd, is_set_one _ _ _ _ (by decide), ?_⟩
    have harm := fun u : State => rowsKept_set_only u (r := SEN.PIT_CTL.ARM) (v := 1) (i := 0) (j := 0) (by decide) (by decide)
    obtain ⟨harmed, hsource, hsel'⟩ := pitSet_reads ((s.set SEN.PIT_CTL.SEL sel.toNat).set SEN.PIT_CTL.CH ch.toNat) 0x16 sel.toNat
      (if sel.toNat = 5 then 0 else ch.toNat) 0
    refine ⟨?_, ?_, ?_⟩
    · rw [(harm _).is_distinct (by decide) (by decide)]
      exact harmed
    · rw [(harm _).get_distinct (by decide) (by decide)]
      exact hsource
    · rw [(harm _).get_distinct (by decide) (by decide), hsel']
      exact Nat.mod_eq_of_lt (Nat.lt_of_lt_of_le sel.isLt (by decide))

end Sys2Proof.Machine
end

section
namespace Sys2Proof.Machine
namespace State

/-! ## The Belay island's current path (O11) -/

/-- Without a piton a redundant channel's sample is of its code (R53). -/
theorem geti_ihaOne (s : State) {k : Nat} (hk : k < 6) (hpit : s.pit 0x30 1 k = false) (hrun : s.is BL.ihaPit k = false) (code : Nat) :
    (s.ihaOne k code).geti BL.IHA_VAL.I k = sat16 (s.ihaI k code) := by
  unfold ihaOne
  extract_lets s1 forced c s2 s3 s4 i
  have h1 : s1 = s := by simp only [s1, hpit, on, Bool.false_eq_true, if_false]
  have hforced : forced = false := by simp only [forced, h1, hrun]
  have hc : c = code := by simp only [c, hforced, Bool.false_eq_true, if_false]
  have h2 : s2 = s := by simp only [s2, hforced, on, Bool.false_eq_true, if_false, h1]
  have h3 : RowsKept [BL.satRun] s s3 := by
    simp only [s3, h2]
    exact (Framed.ite (fs := []) (fun _ => (framed_refl s).setIn hk (by decide)) fun _ => (framed_refl s).setIn hk (by decide)).rows
  have hI : s3.ihaI k c = s.ihaI k code := by
    rw [hc, ihaI, ihaI, h3.geti_distinct hk (by decide), h3.get_distinct hk (by decide)]
  have hrest : RowsKept [BL.ihaAcc, BL.ihaSq] s4
      ((s4.seti BL.ihaAcc (s4.geti BL.ihaAcc k + i) k).set BL.ihaSq (s4.get BL.ihaSq (k / 3) + i.natAbs * i.natAbs) (k / 3)) :=
    (((framed_refl (fs := []) s4).setIn hk (by decide)).setIn (show k / 3 < 2 by omega) (by decide)).rows
  rw [hrest.geti_distinct hk (by decide), ← hI]
  exact geti_seti_sat16 _ rfl _ _ _

/-- The samples of all channels, without a piton: each channel's is of its code (R53). -/
theorem geti_ihaOnes (s : State) {ch : Nat} (hch : ch < 6) (hpit : NoPit 0x30 1 s) (hrun : s.is BL.ihaPit ch = false) (code : Nat → Nat) :
    (s.forN 6 fun k t => t.ihaOne k (code k)).geti BL.IHA_VAL.I ch = sat16 (s.ihaI ch (code ch)) := by
  have hturn (k : Nat) (t : State) (hk : k < 6)
      (ht : NoPit 0x30 1 t) : Framed (rowsAt ihaRows k [BL.ihaSq]) [.events, .store] t (t.ihaOne k (code k)) :=
    framed_ihaOne t k hk (by decide) (fun h => by rw [ht k hk] at h; exact absurd h (by decide)) _
  obtain ⟨u, hu, hsu, hut⟩ := forN_turn_of (P := NoPit 0x30 1) (R := TurnKept ihaRows [BL.ihaSq] ch) (turnKept_refl _ _ _)
    TurnKept.trans hch
    (fun k t => t.ihaOne k (code k))
    (fun k t hk ht j hj => ((hturn k t hk ht).widen (qs := ihaRows ++ [BL.ihaSq]) (gs := [.events, .store]) hk
      (by decide)).rows.pit _ _ _ (by decide) |>.trans (ht j hj))
    (fun k t hk hne ht => (hturn k t hk ht).rows.turn hk (by decide) hne) hpit
  rw [hut.geti hch (by decide), geti_ihaOne u hch (hu ch hch) ((hsu.is hch (by decide)).trans hrun)]
  rw [ihaI, ihaI, hsu.geti hch (by decide), hsu.get hch (by decide)]

theorem getBit_bivEnter1 (s : State) {a : Nat}
    (ha : a < 2) (c : BivCause) : (s.bivEnter1 a c).getBit BL.CAUSE.BIV_CAUSE c.bit a = true := by
  have hc : c.bit < BL.CAUSE.BIV_CAUSE.width := by cases c <;> decide
  unfold bivEnter1
  split
  case isTrue h => exact h
  case isFalse =>
    extract_lets t
    have hrest : RowsKept [BL.AXIS.BIV, BL.bivWarned, BL.selN, BL.AXIS.BIV_LEFT, BL.causeReq, RING.lost] t
        (if t.is BL.AXIS.BIV a then (t.bivLog a).callSafe a SsCause.bivSecond.bit
         else ((((t.set BL.AXIS.BIV 1 a).set BL.bivWarned 0 a).set BL.selN 0 a).set BL.AXIS.BIV_LEFT
          (t.gov BL.BIV_CFG.BIV_TIME 8 a * 100) a).bivLog a) :=
      (Framed.ite (fs := [.events, .store])
        (fun _ => ((framed_bivLog t a).mono (by decide)).andThen (framed_callSafe _ ha _) (by decide))
        (fun _ => ((((framed_refl t).setIn ha (by decide)).setIn ha (by decide)).setIn ha (by decide)).setIn ha (by decide)
          |>.andThen (framed_bivLog _ a) (by decide))).rows
    rw [hrest.getBit_distinct ha (by decide)]
    exact getBit_setBit_self _ _ _ _ hc

/-- A path that is lost is a cause of bivouac mode (R292). -/
theorem getBit_bivLoss (s : State) {a : Nat} (ha : a < 2) (c : BivCause) : (s.bivLoss a c).getBit BL.CAUSE.BIV_CAUSE c.bit a = true := by
  unfold bivLoss
  split
  case isTrue h => exact ((framed_callSafe s ha _).rows.getBit_distinct ha (by decide)).trans h
  case isFalse => exact getBit_bivEnter1 s ha c

theorem RowsKept.lead_eq {rs : List Row} {s t : State} (h : RowsKept rs s t) (hr : rs.all SQ.STATUS.JOINED.distinct = true) (a : Nat) :
    t.lead a = s.lead a := by
  rw [lead, lead, joined, joined, h.is_distinct (by decide) ⟨hr, by decide⟩]

/-- What a lost redundant channel leaves: its flag, and the bivouac cause where it is the channel's first (R60, R292). -/
theorem ihaLost_reads (s : State) {flag : Row} {ch : Nat} (hch : ch < 6) (hw : flag.width = 6)
    (hf : (0 < flag.c1 ∧ 0 < flag.c2) ∧ (Touch.bivEnter1.all flag.distinct && [flag].all SQ.STATUS.JOINED.distinct) = true) :
    (s.ihaLost flag ch).getBit flag ch = true ∧ (s.getBit BL.IHA_STAT.IHA_SAT ch = false → s.getBit BL.IHA_STAT.IHA_CM ch = false →
      s.getBit BL.IHA_STAT.IHA_ADC ch = false → (s.ihaLost flag ch).getBit BL.CAUSE.BIV_CAUSE BivCause.ihaCh.bit
        (s.lead (ch / 3)) = true) := by
  obtain ⟨hc, hd⟩ := hf
  rw [Bool.and_eq_true] at hd
  have hl (u : State) : u.lead (ch / 3) < 2 := lead_lt u (by omega)
  unfold ihaLost
  extract_lets had
  refine ⟨?_, fun hsat hcm hadc => ?_⟩
  · have hrest : RowsKept Touch.bivEnter1 (s.setBit flag ch true) ((s.setBit flag ch true).on (!had)
      fun t => t.bivLoss (t.lead (chAxis ch)) .ihaCh) :=
      ((framed_refl _).on fun _ => framed_bivLoss _ (hl _) _).rows
    rw [hrest.getBit_distinct hc.1 ⟨hd.1, hc.2⟩]
    exact getBit_setBit_self _ _ _ _ (hw ▸ hch)
  · have hhad : had = false := by simp only [had, hsat, hcm, hadc, Bool.or_self]
    have hlead : (s.setBit flag ch true).lead (ch / 3) = s.lead (ch / 3) := (rowsKept_set_only s hc.1 hc.2).lead_eq hd.2 _
    rw [hhad, ← hlead]
    exact getBit_bivLoss _ (hl _) _

/-- The next window of a phase starts empty (R54). -/
theorem xchkCleared_reads (s : State) {ch : Nat} (hch : ch < 6) :
    let t := s.forN 6 fun k t => ((t.set BL.isdSum 0 k).set BL.isdCnt 0 k).set BL.ihaAcc 0 k
    t.get BL.isdSum ch = 0 ∧ t.get BL.isdCnt ch = 0 ∧ t.get BL.ihaAcc ch = 0 := by
  intro t
  have hturn (u : State) (k : Nat) : Framed (rowsAt [BL.isdSum, BL.isdCnt, BL.ihaAcc] k []) [] u
      (((u.set BL.isdSum 0 k).set BL.isdCnt 0 k).set BL.ihaAcc 0 k) :=
    (framed_refl u).setAt (by decide) |>.setAt (by decide) |>.setAt (by decide)
  obtain ⟨u, -, hu⟩ := forN_turn (R := TurnKept [BL.isdSum, BL.isdCnt, BL.ihaAcc] [] ch) (turnKept_refl _ _ _) TurnKept.trans hch
    (fun k t => ((t.set BL.isdSum 0 k).set BL.isdCnt 0 k).set BL.ihaAcc 0 k)
    (fun k v hk hne => (hturn v k).rows.turn hk (by decide) hne) s
  refine ⟨?_, ?_, ?_⟩
  · rw [hu.get hch (by decide), (rowsKept_set_only _ hch (by decide)).get_distinct hch (by decide),
      (rowsKept_set_only _ hch (by decide)).get_distinct hch (by decide), get_set_self, Nat.zero_mod]
  · rw [hu.get hch (by decide), (rowsKept_set_only _ hch (by decide)).get_distinct hch (by decide), get_set_self, Nat.zero_mod]
  · rw [hu.get hch (by decide), get_set_self, Nat.zero_mod]

end State

open State

/-- Settles O11: a channel's sample is read off its own turn, a flag and its cause through the rows that the rest leaves alone. -/
theorem redundantCurrentPathJudged : Obligations.RedundantCurrentPathJudged := by
  unfold Obligations.RedundantCurrentPathJudged
  refine ⟨fun codes ch s hpit => ?sample, fun ch s hrun => ?sat, fun ch s => ?cm, fun ch s => ?adc, fun star s hrun => ?sum,
    fun ch s => ?window, fun ch s hrun => ?xchk⟩
  case sample =>
    refine ⟨_, rfl, ?_, ?_⟩
    · rw [(framed_tmSamples _).rows.geti_distinct ch.isLt (by decide), incSat,
        (rowsKept_set_only _ (r := BL.ihaCnt) (by decide) (by decide)).geti_distinct ch.isLt (by decide),
        (framed_ihaSums _).rows.geti_distinct ch.isLt (by decide)]
      exact geti_ihaOnes s ch.isLt (fun k hk => (hpit k hk).1) (hpit ch ch.isLt).2 fun k => (codes.getD k 0).toNat
    · rw [(framed_tmSamples _).rows.get_distinct (by decide) (by decide), get_incSat_self,
        (framed_ihaSums _).rows.get_distinct (by decide) (by decide),
        (framed_ihaOnes s fun k => (codes.getD k 0).toNat).rows.get_distinct (by decide) (by decide)]
  case sat => exact ⟨_, congrArg Host.Outcome.next (if_pos hrun), ihaLost_reads s ch.isLt rfl (by decide)⟩
  case cm => exact ⟨_, rfl, ihaLost_reads s ch.isLt rfl (by decide)⟩
  case adc => exact ⟨_, rfl, ihaLost_reads s ch.isLt rfl (by decide)⟩
  case sum =>
    refine ⟨_, congrArg Host.Outcome.next (if_pos hrun), ?_, getBit_callSafe _ star.isLt (by decide)⟩
    rw [unsafeAxis, (framed_callSafe _ star.isLt _).rows.getBit_distinct (by decide) (by decide)]
    exact getBit_setBit_self _ _ _ _ star.isLt
  case window =>
    refine ⟨_, rfl, ?_⟩
    obtain ⟨hsum, hcnt, hacc⟩ := xchkCleared_reads (s.forN 6 fun k t => t.xchkOne k) ch.isLt
    refine ⟨?_, ?_, ?_, ?_⟩
    · rw [(rowsKept_set_only _ (r := BL.ihaCnt) (by decide) (by decide)).get_distinct ch.isLt (by decide)]
      exact hcnt
    · rw [(rowsKept_set_only _ (r := BL.ihaCnt) (by decide) (by decide)).get_distinct ch.isLt (by decide)]
      exact hsum
    · rw [(rowsKept_set_only _ (r := BL.ihaCnt) (by decide) (by decide)).get_distinct ch.isLt (by decide)]
      exact hacc
    · rw [get_set_self, Nat.zero_mod]
  case xchk =>
    obtain ⟨t, hexec, ht, hboth⟩ := exec_curXchk ch s hrun
    refine ⟨t, hexec, ?_, ?_, hboth⟩
    · rw [ht.rows.getBit_distinct (by decide) (by decide), (framed_chFault _ _).rows.getBit_distinct (by decide) (by decide),
        (rowsKept_set_only _ (r := SEN.CH_STAT.XCHK) ch.isLt (by decide)).getBit_distinct (by decide) (by decide)]
      exact getBit_setBit_self _ _ _ _ ch.isLt
    · rw [ht.rows.is_distinct ch.isLt (by decide), (framed_chFault _ _).rows.is_distinct ch.isLt (by decide)]
      exact is_set_one _ _ _ _ (by decide)

end Sys2Proof.Machine
end

section
namespace Sys2Proof.Machine
namespace State

/-! ## The current samples of SEN (O8) -/

/-- A saturated value is saturated (R44). -/
theorem sat16_sat16 (x : Int) : sat16 (sat16 x) = sat16 x := by
  simp only [sat16, satI, clampI]
  split <;> [skip; split] <;> omega

/-- Changes that each leave the state as it is come to none. -/
theorem forN_id {n : Nat} {f : Nat → State → State} {s : State} (h : ∀ k < n, f k s = s) : s.forN n f = s :=
  forN_keeps (P := (· = s)) n f (fun k t hk ht => by rw [ht, h k hk]) rfl

/-- A channel's current depends on its OFS and GAIN (R44). -/
theorem scale_congr {s t : State} {ch : Nat} (hofs : t.geti SEN.CH_OFS.OFS ch = s.geti SEN.CH_OFS.OFS ch)
    (hgain : t.get SEN.CH_GAIN.GAIN ch = s.get SEN.CH_GAIN.GAIN ch) (d : Int) : t.scale ch d = s.scale ch d := by
  rw [scale, scale, hofs, hgain]

theorem scale_snd (s : State) (ch : Nat) (d : Int) : (s.scale ch d).2 = sat16 (s.scale ch d).1 := rfl

/-- Without a piton an enabled channel's fast sample is written first, and its range check and its mark follow (R42, R60). -/
theorem rowsKept_fastOne (s : State) {k : Nat} (hk : k < 6) (hen : s.getBit SEN.CTL.CH_EN k = true) (hpit : s.pit 0x16 4 k = false)
    (hsum : s.is SEN.sumPit k = false) : RowsKept (SEN.unrelF :: rangeRows SEN.ovrF ++ faultRows)
      ((s.seti SEN.CH_VAL.FAST (sat16 ((s.scale k (s.fastDensity k)).2 + 0)) k).setb SEN.satF
        ((s.scale k (s.fastDensity k)).1 != (s.scale k (s.fastDensity k)).2) k) (s.fastOne k) := by
  rw [fastOne, hen, hpit]
  simp only [on, Bool.not_true, Bool.false_eq_true, if_false, hsum]
  exact (((framed_range _ k _ (by decide)).widen (gs := [.events, .store]) hk (by decide)).setIn hk (by decide)).rows

/-- Without a piton an enabled channel's fast sample is the scaled density of its window (R42, R44). -/
theorem fastOne_reads (s : State) {k : Nat} (hk : k < 6) (hen : s.getBit SEN.CTL.CH_EN k = true) (hpit : s.pit 0x16 4 k = false)
    (hsum : s.is SEN.sumPit k = false) : (s.fastOne k).geti SEN.CH_VAL.FAST k = (s.scale k (s.fastDensity k)).2 ∧
      (s.fastOne k).is SEN.satF k = ((s.scale k (s.fastDensity k)).1 != (s.scale k (s.fastDensity k)).2) := by
  have hrest := rowsKept_fastOne s hk hen hpit hsum
  refine ⟨?_, ?_⟩
  · rw [hrest.geti_distinct hk (by decide), setb, (rowsKept_set_only _ (r := SEN.satF) hk (by decide)).geti_distinct hk (by decide),
      geti_seti_sat16 _ (r := SEN.CH_VAL.FAST) rfl, Int.add_zero, scale_snd]
    exact sat16_sat16 _
  · rw [hrest.is_distinct hk (by decide)]
    exact is_setb_self _ _ _ _ _ (by decide)

/-- A fast sample without a piton. -/
theorem framed_fastOne_of_noPit {s : State} {k : Nat} (hk : k < 6) (h : NoPit 0x16 4 s) :
    Framed (rowsAt fastRows k faultRows) [.events, .store] s (s.fastOne k) :=
  framed_fastOne s k (by decide) fun hp => absurd hp (by rw [h k hk]; decide)

theorem rowsKept_fastOne_of_noPit {s : State} {k : Nat} (hk : k < 6) (h : NoPit 0x16 4 s) :
    RowsKept (fastRows ++ faultRows) s (s.fastOne k) :=
  ((framed_fastOne_of_noPit hk h).widen (gs := [.events, .store]) hk (by decide)).rows

theorem noPit_fastOne {s : State} {k : Nat} (hk : k < 6) (h : NoPit 0x16 4 s) : NoPit 0x16 4 (s.fastOne k) := fun j hj =>
  ((rowsKept_fastOne_of_noPit hk h).pit _ _ _ (by decide)).trans (h j hj)

/-- The fast samples of all channels, without a piton: each channel's is of its own window. -/
theorem fastOnes_reads (s : State) {ch : Nat} (hch : ch < 6) (hen : s.getBit SEN.CTL.CH_EN ch = true) (hpit : NoPit 0x16 4 s)
    (hsum : s.is SEN.sumPit ch = false) : (s.forN 6 fun k t => t.fastOne k).geti SEN.CH_VAL.FAST ch = (s.scale ch (s.fastDensity ch)).2 ∧
      (s.forN 6 fun k t => t.fastOne k).is SEN.satF ch = ((s.scale ch (s.fastDensity ch)).1 != (s.scale ch (s.fastDensity ch)).2) := by
  obtain ⟨u, hu, hsu, hut⟩ := forN_turn_of (P := NoPit 0x16 4) (R := TurnKept fastRows faultRows ch) (turnKept_refl _ _ _)
    TurnKept.trans hch (fun k t => t.fastOne k) (fun k t hk ht => noPit_fastOne hk ht)
    (fun k t hk hne ht => (framed_fastOne_of_noPit hk ht).rows.turn hk (by decide) hne) hpit
  have henu : u.getBit SEN.CTL.CH_EN ch = true := by
    rw [getBit, hsu.get_distinct (by decide) (by decide)]
    exact hen
  have hscale (d : Int) : u.scale ch d = s.scale ch d := scale_congr (hsu.geti hch (by decide)) (hsu.get hch (by decide)) d
  have hdensity : u.fastDensity ch = s.fastDensity ch := by rw [fastDensity, fastDensity, hsu.get hch (by decide)]
  obtain ⟨hfast, hsat⟩ := fastOne_reads u hch henu (hu ch hch) ((hsu.is hch (by decide)).trans hsum)
  rw [hut.geti hch (by decide), hut.is hch (by decide), hfast, hsat, hscale, hdensity]
  exact ⟨rfl, rfl⟩

/-- No channel is substituted. -/
def NoSubst (s : State) : Prop := ∀ c < 6, s.is SEN.CH_STAT.SUBST c = false

theorem NoSubst.of_rowsKept {rs : List Row} {s t : State} (h : NoSubst s) (hr : RowsKept rs s t)
    (hd : rs.all SEN.CH_STAT.SUBST.distinct = true) : NoSubst t := fun c hc => (hr.is_distinct hc ⟨hd, by decide⟩).trans (h c hc)

theorem noSubst_fastOnes {s : State} (hpit : NoPit 0x16 4 s) (h : NoSubst s) : NoSubst (s.forN 6 fun k t => t.fastOne k) :=
  (forN_keeps (P := fun t => NoPit 0x16 4 t ∧ NoSubst t) 6 (fun k t => t.fastOne k)
    (fun k t hk ht => ⟨noPit_fastOne hk ht.1, ht.2.of_rowsKept (rowsKept_fastOne_of_noPit hk ht.1) (by decide)⟩) ⟨hpit, h⟩).2

/-- Where no channel is substituted every sample is its own (R51). -/
theorem substOnes_of_noSubst {s : State} (h : NoSubst s) (r mark : Row) {n : Nat} {c : Nat → Nat} (hc : ∀ k < n, c k < 6) :
    (s.forN n fun k t => t.substOne r mark (c k)) = s :=
  forN_id fun k hk => if_neg (by rw [h _ (hc k hk)]; decide)

/-! The control sample -/

/-- An enabled channel's control sample is the scaled density of its filter's count (R42, R44). -/
theorem geti_ctrlOne (s : State) {k : Nat} (hk : k < 6) (hen : s.getBit SEN.CTL.CH_EN k = true) (takes : Bool) :
    (s.ctrlOne takes k).geti SEN.CH_VAL.CTRL k = (s.scale k (s.ctrlDensity k)).2 := by
  have hone : s.ctrlOne takes k = (let y := (s.scale k (s.ctrlDensity k)).2
      (((s.seti SEN.CH_VAL.CTRL y k).setb SEN.satC ((s.scale k (s.ctrlDensity k)).1 != y) k).range SEN.ovrC k y).on takes fun t =>
        t.seti SEN.ofsSum (t.geti SEN.ofsSum k + s.ctrlDensity k) k) := by
    rw [ctrlOne, hen]
    rfl
  rw [hone]
  extract_lets y
  have hrest (u : State) : RowsKept (SEN.ofsSum :: rangeRows SEN.ovrC ++ faultRows) u ((u.range SEN.ovrC k y).on takes fun t =>
      t.seti SEN.ofsSum (t.geti SEN.ofsSum k + s.ctrlDensity k) k) :=
    (((framed_range u k y (by decide)).widen (gs := [.events, .store]) hk (by decide)).on
        fun _ => (framed_refl _).setIn hk (by decide)).rows
  rw [(hrest _).geti_distinct hk (by decide), setb, (rowsKept_set_only _ (r := SEN.satC) hk (by decide)).geti_distinct hk (by decide)]
  exact geti_seti_sat16 _ rfl _ _ _

/-- The three control samples of an axis: each channel's is of its own window. -/
theorem geti_ctrlOnes (s : State) {a k : Nat} (ha : a < 2) (hk : k < 3) (hen : s.getBit SEN.CTL.CH_EN (3 * a + k) = true) (takes : Bool) :
    (s.forN 3 fun j t => t.ctrlOne takes (3 * a + j)).geti SEN.CH_VAL.CTRL (3 * a + k) =
      (s.scale (3 * a + k) (s.ctrlDensity (3 * a + k))).2 := by
  have hch : 3 * a + k < 6 := by omega
  obtain ⟨u, hsu, hut⟩ := forN_turn (R := TurnKept ctrlRows faultRows (3 * a + k)) (turnKept_refl _ _ _) TurnKept.trans hk
    (fun j t => t.ctrlOne takes (3 * a + j)) (fun j t hj hne => (framed_ctrlOne t (3 * a + j) takes).rows.turn
      (show 3 * a + j < 6 by omega) (by decide) (by omega)) s
  have henu : u.getBit SEN.CTL.CH_EN (3 * a + k) = true := by
    rw [getBit, hsu.get_distinct (by decide) (by decide)]
    exact hen
  rw [hut.geti hch (by decide), geti_ctrlOne u hch henu, ctrlDensity, ctrlDensity, hsu.get hch (by decide),
    scale_congr (hsu.geti hch (by decide)) (hsu.get hch (by decide))]

end State
end Sys2Proof.Machine
end

section
namespace Sys2Proof.Machine
namespace State

/-! ## The comparator sample (O8) -/

/-- The comparator of channel `ch` has found a limit passed, and the axis's trip unit has been told (R49). -/
def OcTripped (ch : Nat) (s : State) : Prop :=
  (s.getBit SEN.chCond 3 ch || s.getBit SEN.chCond 4 ch) = true ∧ s.getBit PU.tripIn 5 (ch / 3) = true

theorem mem_starCh (ch : Nat) : ch ∈ starCh (ch / 3) := by
  simp only [starCh, List.mem_cons, List.not_mem_nil, or_false]
  omega

theorem chAxis_lt {k : Nat} (hk : k < 6) : chAxis k < 2 := by
  rw [chAxis]
  omega

theorem rowsKept_ocTrip (s : State) {a : Nat} (ha : a < 2) : RowsKept [PU.tripIn] s (s.ocTrip a) :=
  rowsKept_set_only s (show a < 5 by omega) (by decide)

/-- The verdict of a channel reaches the trip unit, whichever channel of the star passes it on. -/
theorem ocTripped_ocTrip (s : State) {ch : Nat} (hch : ch < 6)
    (h : (s.getBit SEN.chCond 3 ch || s.getBit SEN.chCond 4 ch) = true) : OcTripped ch (s.ocTrip (ch / 3)) := by
  refine ⟨?_, ?_⟩
  · rw [(rowsKept_ocTrip s (by omega)).getBit_distinct hch (by decide), (rowsKept_ocTrip s (by omega)).getBit_distinct hch (by decide)]
    exact h
  · rw [ocTrip, getBit_tripIn_self _ _ (by decide)]
    exact List.any_eq_true.2 ⟨ch, mem_starCh ch, h⟩

/-- Another channel's comparator leaves a trip in place. -/
theorem OcTripped.compare {s : State} {ch k : Nat} (h : OcTripped ch s) (hch : ch < 6) (hk : k < 6) (hne : k ≠ ch) (v : Int) :
    OcTripped ch (s.compare k v) := by
  obtain ⟨u, hu, he⟩ := exists_compare_eq_ocTrip s k v
  have hturn : TurnKept compareRows [SEN.STATUS.CH_FAULT] ch s u :=
    hu.rows.turn hk (by decide) hne
  have hcond : u.get SEN.chCond ch = s.get SEN.chCond ch := hturn.get hch (by decide)
  have htrip : u.get PU.tripIn (ch / 3) = s.get PU.tripIn (ch / 3) := hturn.get_distinct (show ch / 3 < 5 by omega) (by decide)
  have hu : OcTripped ch u := by
    rw [OcTripped, getBit, getBit, getBit, hcond, htrip]
    exact h
  rw [he]
  by_cases hstar : k / 3 = ch / 3
  · rw [chAxis, hstar]
    exact ocTripped_ocTrip u hch hu.1
  · have hpu : chAxis k < 5 ∧ ch / 3 < 5 ∧ chAxis k ≠ ch / 3 := ⟨Nat.lt_trans (chAxis_lt hk) (by decide), by omega, hstar⟩
    refine ⟨?_, (getBit_tripIn_ne u hpu).trans hu.2⟩
    rw [(rowsKept_ocTrip u (chAxis_lt hk)).getBit_distinct hch (by decide),
      (rowsKept_ocTrip u (chAxis_lt hk)).getBit_distinct hch (by decide)]
    exact hu.1

/-- A value beyond a limit sets the limit's flag and trips the axis (R49). -/
theorem compare_reads (s : State) {k : Nat} (hk : k < 6) (v : Int) :
    (s.geti SEN.CH_OC.OC_HI k < v → (s.compare k v).is SEN.CH_STAT.OC_HI k = true ∧ OcTripped k (s.compare k v)) ∧
    (v < s.geti SEN.CH_OC.OC_LO k → (s.compare k v).is SEN.CH_STAT.OC_LO k = true ∧ OcTripped k (s.compare k v)) := by
  unfold compare
  extract_lets hi lo s1 s2
  have hend : RowsKept [SEN.STATUS.CH_FAULT, PU.tripIn] s2 ((s2.chFault k).ocTrip (chAxis k)) :=
    ((framed_chFault s2 k).rows.mono (by decide)).trans ((rowsKept_ocTrip _ (chAxis_lt hk)).mono (by decide))
  have hflags : RowsKept [SEN.CH_STAT.OC_HI, SEN.CH_STAT.OC_LO] s1 s2 :=
    (((framed_refl (fs := []) s1).on fun _ => (framed_refl _).setIn hk (by decide)).on fun _ => (framed_refl _).setIn hk (by decide)).rows
  have hcond3 : (s2.chFault k).getBit SEN.chCond 3 k = hi := by
    rw [(framed_chFault s2 k).rows.getBit_distinct hk (by decide), hflags.getBit_distinct hk (by decide),
      getBit_setBit_lt _ _ _ _ _ (by decide) (by decide)]
    exact getBit_setBit _ _ _ _ _ (by decide)
  have hcond4 : (s2.chFault k).getBit SEN.chCond 4 k = lo := by
    rw [(framed_chFault s2 k).rows.getBit_distinct hk (by decide), hflags.getBit_distinct hk (by decide)]
    exact getBit_setBit _ _ _ _ _ (by decide)
  have htrip (h : (hi || lo) = true) : OcTripped k ((s2.chFault k).ocTrip (chAxis k)) :=
    ocTripped_ocTrip _ hk (by rw [hcond3, hcond4]; exact h)
  refine ⟨fun h => ?_, fun h => ?_⟩
  · have hhi : hi = true := decide_eq_true h
    refine ⟨?_, htrip (by rw [hhi, Bool.true_or])⟩
    have hlo : RowsKept [SEN.CH_STAT.OC_LO] (s1.set SEN.CH_STAT.OC_HI 1 k) s2 := by
      simp only [s2, hhi]
      exact ((framed_refl (fs := []) _).on fun _ => (framed_refl _).setIn hk (by decide)).rows
    rw [hend.is_distinct hk (by decide), hlo.is_distinct hk (by decide)]
    exact is_set_one _ _ _ _ (by decide)
  · have hlo : lo = true := decide_eq_true h
    refine ⟨?_, htrip (by rw [hlo, Bool.or_true])⟩
    rw [hend.is_distinct hk (by decide)]
    simp only [s2, hlo]
    exact is_set_one _ _ _ _ (by decide)

/-- No piton of a bit or of the comparator is armed for any channel. -/
def NoBitPit (s : State) : Prop := ∀ sel < 4, NoPit 0x16 sel s

theorem noBitPit_of_rowsKept {rs : List Row} {s t : State} (h : NoBitPit s) (hr : RowsKept rs s t)
    (hd : ([BL.PIT_STAT.ARMED, BL.PIT_STAT.SOURCE, BL.PIT_STAT.SEL, BL.pitInst].all fun r => rs.all r.distinct) = true) : NoBitPit t :=
  fun sel hsel c hc => (hr.pit _ _ _ hd).trans (h sel hsel c hc)

section
variable {s : State} {k : Nat}

theorem framed_bitTake_of_noBitPit (hk : k < 6) (h : NoBitPit s) (dat : Bool) :
    Framed (rowsAt bitRows k []) [.events, .store, .fresh] s (s.bitTake k dat) :=
  framed_bitTake s k (fun sel hsel hp => absurd hp (by rw [h sel hsel k hk]; decide)) dat

theorem rowsKept_bitTake (hk : k < 6) (h : NoBitPit s) (dat : Bool) : RowsKept bitRows s (s.bitTake k dat) :=
  ((framed_bitTake_of_noBitPit hk h dat).widen (gs := [.events, .store, .fresh]) hk (by decide)).rows

theorem noBitPit_bitTake (hk : k < 6) (h : NoBitPit s) (dat : Bool) : NoBitPit (s.bitTake k dat) :=
  noBitPit_of_rowsKept h (rowsKept_bitTake hk h dat) (by decide)

theorem compareOne_of_noBitPit (hk : k < 6) (h : NoBitPit s) : s.compareOne k = s.compare k (s.scale k (s.compDensity k)).2 :=
  if_neg (by rw [h 3 (by decide) k hk]; decide)

/-- Without a piton one modulator clock of an enabled channel takes its bit and compares (R42, R49). -/
theorem clockOne_of_enabled (hk : k < 6) (h : NoBitPit s) (hen : s.getBit SEN.CTL.CH_EN k = true) (dat : BitVec 6) :
    s.clockOne dat k = (s.bitTake k (dat.getLsbD k)).compare k
      ((s.bitTake k (dat.getLsbD k)).scale k ((s.bitTake k (dat.getLsbD k)).compDensity k)).2 :=
  (if_pos hen).trans (compareOne_of_noBitPit hk (noBitPit_bitTake hk h _))

theorem framed_clockOne_of_noBitPit (hk : k < 6) (h : NoBitPit s) (dat : BitVec 6) :
    Framed (rowsAt clockRows k compareShared) [.events, .store, .fresh] s (s.clockOne dat k) := by
  by_cases hen : s.getBit SEN.CTL.CH_EN k = true
  · rw [clockOne_of_enabled hk h hen]
    exact ((framed_refl s).andAt (framed_bitTake_of_noBitPit hk h _) (by decide)).andAt (framed_compare _ k hk _) (by decide)
  · exact .ite (fun h => absurd h hen) fun _ => framed_refl s

theorem noBitPit_clockOne (hk : k < 6) (h : NoBitPit s) (dat : BitVec 6) : NoBitPit (s.clockOne dat k) :=
  noBitPit_of_rowsKept h ((framed_clockOne_of_noBitPit hk h dat).widen (qs := clockRows ++ compareShared) (gs := [.events, .store, .fresh])
    hk (by decide)).rows (by decide)

theorem OcTripped.clockOne {ch : Nat} (ht : OcTripped ch s) (hch : ch < 6) (hk : k < 6) (hne : k ≠ ch) (h : NoBitPit s) (dat : BitVec 6) :
    OcTripped ch (s.clockOne dat k) := by
  by_cases hen : s.getBit SEN.CTL.CH_EN k = true
  · rw [clockOne_of_enabled hk h hen]
    refine OcTripped.compare ?_ hch hk hne _
    have hturn : TurnKept bitRows [] ch s (s.bitTake k (dat.getLsbD k)) :=
      (framed_bitTake_of_noBitPit hk h _).rows.turn hk (by decide) hne
    rw [OcTripped, getBit, getBit, getBit, hturn.get hch (by decide), hturn.get_distinct (show ch / 3 < 5 by omega) (by decide)]
    exact ht
  · rw [State.clockOne, if_neg hen]
    exact ht

/-- Without a piton the bit of a channel joins its bits, inverted where INV is set (R42). -/
theorem hist_bitTake (hk : k < 6) (h : NoBitPit s) (hrun : s.is SEN.bitPit k = false) (dat : Bool) :
    (s.bitTake k dat).get SEN.hist k = (2 * s.get SEN.hist k + ofBool (dat != s.is SEN.CH_CFG.INV k)) % 2 ^ 190 := by
  have hpiton : s.bitPiton k = s := by
    rw [bitPiton, if_neg (by rw [h 1 (by decide) k hk]; decide), if_neg (by rw [h 2 (by decide) k hk]; decide)]
  unfold bitTake
  extract_lets s1 b s2 s3 s4
  have h1 : s1 = s := hpiton
  have hb : b = dat := if_neg (by rw [h1, hrun]; decide)
  have h3 : RowsKept [SEN.bitPit, SEN.run] s1 s3 := by
    have h2 : Framed [SEN.bitPit, SEN.run] [] s1 s2 := (framed_refl s1).setIn hk (by decide)
    exact (Framed.ite (fun _ => h2.setIn hk (by decide)) fun _ => h2.setIn hk (by decide)).rows
  have hend : RowsKept [SEN.clks, SEN.chCond] ((s3.setb SEN.datLast b k).set SEN.hist
      (2 * s3.get SEN.hist k + ofBool (b != s3.is SEN.CH_CFG.INV k)) k)
      ((s4.setBit SEN.chCond 0 (decide (s4.get SEN.CH_CFG.LOSS_WIN k ≤ s4.get SEN.run k)) k).setBit SEN.chCond 1
        (decide (24 ≤ s4.get SEN.run k)) k) :=
    (((framed_refl (fs := []) _).setIn hk (by decide)).setIn hk (by decide)).setIn hk (by decide) |>.rows
  rw [hend.get_distinct hk (by decide), get_set_self, hb, h3.get_distinct hk (by decide), h3.is_distinct hk (by decide), h1]
  rfl

/-- What another channel's modulator clock leaves to channel `ch`: its rows, and a trip that stands. -/
def ClockStands (ch : Nat) (s t : State) : Prop := TurnKept clockRows compareShared ch s t ∧ (OcTripped ch s → OcTripped ch t)

/-- One modulator clock of all channels comes to the channel's own, between those of others. -/
theorem exists_clockOne_turn {ch : Nat} (hch : ch < 6) (h : NoBitPit s) (dat : BitVec 6) :
    ∃ u, NoBitPit u ∧ ClockStands ch s u ∧ ClockStands ch (u.clockOne dat ch) (s.forN 6 fun k t => t.clockOne dat k) :=
  forN_turn_of (P := NoBitPit) (R := ClockStands ch) (fun s => ⟨turnKept_refl _ _ _ s, id⟩)
    (fun h k => ⟨h.1.trans k.1, k.2 ∘ h.2⟩) hch (fun k t => t.clockOne dat k) (fun _ _ hk ht => noBitPit_clockOne hk ht dat)
    (fun k t hk hne ht => ⟨(framed_clockOne_of_noBitPit hk ht dat).rows.turn hk (by decide) hne,
      fun htrip => htrip.clockOne hch hk hne ht dat⟩) h

/-- The rows of the control windows. -/
def ctrlWindowRows : List Row := [SEN.ctrlClk, SEN.ctrlMid, SEN.ctrlAim, SEN.ctrlDue, SEN.ctrlRaw]

theorem rowsKept_ctrlClocks (s : State) : RowsKept ctrlWindowRows s ((s.ctrlClock 0).ctrlClock 1) :=
  ((framed_ctrlClock s (by decide)).trans (framed_ctrlClock _ (by decide))).rows

theorem OcTripped.of_rowsKept {rs : List Row} {t : State} {ch : Nat} (h : OcTripped ch s) (hch : ch < 6) (hr : RowsKept rs s t)
    (hd : (rs.all SEN.chCond.distinct && rs.all PU.tripIn.distinct) = true) : OcTripped ch t := by
  rw [Bool.and_eq_true] at hd
  rw [OcTripped, getBit, getBit, getBit, hr.get_distinct hch ⟨hd.1, by decide⟩,
    hr.get_distinct (show ch / 3 < 5 by omega) ⟨hd.2, by decide⟩]
  exact h

/-- The comparator sample of an enabled channel without a piton (R42, R49). -/
theorem clocks_reads {ch : Nat} (hch : ch < 6) (h : NoBitPit s) (hen : s.getBit SEN.CTL.CH_EN ch = true) (hrun : s.is SEN.bitPit ch = false)
    (dat : BitVec 6) : let t := ((s.forN 6 fun k t => t.clockOne dat k).ctrlClock 0).ctrlClock 1
    t.get SEN.hist ch = (2 * s.get SEN.hist ch + ofBool (dat.getLsbD ch != s.is SEN.CH_CFG.INV ch)) % 2 ^ 190 ∧
    (s.geti SEN.CH_OC.OC_HI ch < (t.scale ch (t.compDensity ch)).2 → t.is SEN.CH_STAT.OC_HI ch = true ∧ OcTripped ch t) ∧
    ((t.scale ch (t.compDensity ch)).2 < s.geti SEN.CH_OC.OC_LO ch → t.is SEN.CH_STAT.OC_LO ch = true ∧ OcTripped ch t) := by
  intro t
  obtain ⟨u, hu, ⟨hsu, -⟩, hul, htrip⟩ := exists_clockOne_turn hch h dat
  have hlt := rowsKept_ctrlClocks (s.forN 6 fun k t => t.clockOne dat k)
  have henu : u.getBit SEN.CTL.CH_EN ch = true := by
    rw [getBit, hsu.get_distinct (by decide) (by decide)]
    exact hen
  rw [clockOne_of_enabled hch hu henu] at hul htrip
  have hbit := rowsKept_bitTake hch hu (dat.getLsbD ch)
  have hhist := hist_bitTake hch hu ((hsu.is hch (by decide)).trans hrun) (dat.getLsbD ch)
  rw [hsu.get hch (by decide), hsu.is hch (by decide)] at hhist
  generalize hw : u.bitTake ch (dat.getLsbD ch) = w at *
  generalize hv : (w.scale ch (w.compDensity ch)).2 = v at *
  have hcompare := ((framed_compare w ch hch v).widen (qs := compareRows ++ compareShared) (gs := []) hch (by decide)).rows
  have hhist' : t.get SEN.hist ch = w.get SEN.hist ch := by
    rw [hlt.get_distinct hch (by decide), hul.get hch (by decide), hcompare.get_distinct hch (by decide)]
  have hvalue : (t.scale ch (t.compDensity ch)).2 = v := by
    rw [← hv, compDensity, compDensity, hhist']
    refine congrArg Prod.snd (scale_congr ?_ ?_ _)
    · rw [hlt.geti_distinct hch (by decide), hul.geti hch (by decide), hcompare.geti_distinct hch (by decide)]
    · rw [hlt.get_distinct hch (by decide), hul.get hch (by decide), hcompare.get_distinct hch (by decide)]
  have hHI : w.geti SEN.CH_OC.OC_HI ch = s.geti SEN.CH_OC.OC_HI ch := by
    rw [hbit.geti_distinct hch (by decide), hsu.geti hch (by decide)]
  have hLO : w.geti SEN.CH_OC.OC_LO ch = s.geti SEN.CH_OC.OC_LO ch := by
    rw [hbit.geti_distinct hch (by decide), hsu.geti hch (by decide)]
  obtain ⟨hhi, hlo⟩ := compare_reads w hch v
  have hstays (ht : OcTripped ch (w.compare ch v)) : OcTripped ch t := (htrip ht).of_rowsKept hch hlt (by decide)
  rw [hvalue, ← hHI, ← hLO]
  refine ⟨hhist'.trans hhist, fun hp => ?_, fun hp => ?_⟩
  · obtain ⟨hflag, ht⟩ := hhi hp
    refine ⟨?_, hstays ht⟩
    rw [hlt.is_distinct hch (by decide), hul.is hch (by decide)]
    exact hflag
  · obtain ⟨hflag, ht⟩ := hlo hp
    refine ⟨?_, hstays ht⟩
    rw [hlt.is_distinct hch (by decide), hul.is hch (by decide)]
    exact hflag

end

theorem fastDensity_eq (s : State) (ch : Nat) :
    s.fastDensity ch = ((sincRaw (sinc3Weight 8) 22 (s.get SEN.hist ch) : Nat) : Int) * 128 - 32768 := by
  rw [fastDensity]
  omega

/-- A warning event waits and changes no register (R32, R270). -/
theorem event_warning_reads (s : State) (inst source code arg0 arg1 : Nat) (h : s.evWarning.length < 64) :
    (s.event .warning inst source code arg0 arg1).evWarning = s.evWarning ++ [⟨s.now, inst, source, code, arg0, arg1⟩] ∧
    (s.event .warning inst source code arg0 arg1).regs = s.regs := by
  unfold event eventAt
  extract_lets e s1
  have hs1 : s1 = s.setQueue .warning (s.queue .warning ++ [e]) := if_pos h
  rw [if_neg (by decide), hs1]
  exact ⟨rfl, rfl⟩

end State

open State

theorem exec_ctrlSample (axis : Fin 2) (s : State) (hdue : s.is SEN.ctrlDue axis = true) : exec (.ctrlSample axis) s =
    .next ((((((((s.set SEN.ctrlDue 0 axis).set SEN.ctrlMid 0 axis).forN 3 fun k t => t.ctrlOne (s.ofsTakes axis) (3 * axis + k)).forN 3
      fun k t => t.substOne SEN.CH_VAL.CTRL SEN.satC (3 * axis + k)).forN 3 fun k t => t.ctrlForward (3 * axis + k)).ctrlPorts axis
      (s.is SEN.ctrlMid axis)).on (s.ofsTakes axis) (·.incSat SEN.ofsCnt axis))) :=
  congrArg Host.Outcome.next (if_neg (by rw [hdue]; decide))

/-- Settles O8: a channel's turn changes no other channel's rows, so its values are read off its own turn; the trip that its comparator
raises stands, since every later verdict of its star takes in its own. -/
theorem currentSamplesScaledAndJudged : Obligations.CurrentSamplesScaledAndJudged := by
  unfold Obligations.CurrentSamplesScaledAndJudged
  refine ⟨fun ch s hno hen => ?fast, fun axis k s hno hen hdue => ?ctrl, fun ch dat s hclock hen hpit hrun => ?comparator,
    fun ch s hen hclks => ?valid, fun star s hrun => ?sum, fun b s hlen => ?supply⟩
  case fast =>
    have hpit : NoPit 0x16 4 s := fun k hk => (hno k hk).1
    have hsub : NoSubst s := fun k hk => (hno k hk).2.2
    obtain ⟨hfast, hsat⟩ := fastOnes_reads s ch.isLt hen hpit (hno ch ch.isLt).2.1
    have hsubst : ((s.forN 6 fun k t => t.fastOne k).forN 6 fun k t => t.substOne SEN.CH_VAL.FAST SEN.satF k) =
        s.forN 6 fun k t => t.fastOne k :=
      substOnes_of_noSubst (noSubst_fastOnes hpit hsub) _ _ (c := id) fun _ hk => hk
    refine ⟨_, rfl, ?_, ?_⟩
    · rw [hsubst, (framed_fastTail _).rows.geti_distinct ch.isLt (by decide), hfast, fastDensity_eq]
    · rw [hsubst, (framed_fastTail _).rows.is_distinct ch.isLt (by decide), hsat]
  case ctrl =>
    have hch (j : Nat) (hj : j < 3) : 3 * axis.val + j < 6 := by omega
    have hstart : RowsKept [SEN.ctrlDue, SEN.ctrlMid] s ((s.set SEN.ctrlDue 0 axis).set SEN.ctrlMid 0 axis) :=
      ((framed_refl (fs := []) s).setIn axis.isLt (by decide)).setIn axis.isLt (by decide) |>.rows
    have hones := (framed_ctrlOnes ((s.set SEN.ctrlDue 0 axis).set SEN.ctrlMid 0 axis) axis.isLt (s.ofsTakes axis)).rows
    have hsub := ((NoSubst.of_rowsKept hno hstart (by decide)).of_rowsKept hones (by decide))
    refine ⟨_, exec_ctrlSample axis s hdue, ?_, ?_⟩
    · rw [substOnes_of_noSubst hsub _ _ hch, (framed_ctrlTail _ axis.isLt _ _).rows.geti_distinct (hch k k.isLt) (by decide)]
      have hen' : ((s.set SEN.ctrlDue 0 axis).set SEN.ctrlMid 0 axis).getBit SEN.CTL.CH_EN (3 * axis + k) = true :=
        (hstart.getBit_distinct (by decide) (by decide)).trans hen
      rw [geti_ctrlOnes _ axis.isLt k.isLt hen', ctrlDensity, hstart.get_distinct (hch k k.isLt) (by decide),
        scale_congr (hstart.geti_distinct (hch k k.isLt) (by decide)) (hstart.get_distinct (hch k k.isLt) (by decide))]
    · rw [substOnes_of_noSubst hsub _ _ hch, (framed_ctrlTail _ axis.isLt _ _).rows.is_distinct axis.isLt (by decide),
        hones.is_distinct axis.isLt (by decide),
        (rowsKept_set_only _ (r := SEN.ctrlMid) axis.isLt (by decide)).is_distinct axis.isLt (by decide)]
      exact is_set_zero ..
  case comparator =>
    have hpits : NoBitPit s := fun sel hsel c hc => hpit c hc sel hsel
    obtain ⟨hhist, hhi, hlo⟩ := clocks_reads ch.isLt hpits hen hrun dat
    have hexec : exec (.comparatorSample dat) s = .next (((s.forN 6 fun k t => t.clockOne dat k).ctrlClock 0).ctrlClock 1) :=
      congrArg Host.Outcome.next (if_neg (by rw [hclock.1, hclock.2]; decide))
    exact ⟨_, hexec, hhist, fun h => ⟨(hhi h).1, (hhi h).2.2⟩, fun h => ⟨(hlo h).1, (hlo h).2.2⟩⟩
  case valid =>
    have hexec : exec (.chValid ch) s = .next (s.setBit SEN.STATUS.CH_VALID ch true) :=
      congrArg Host.Outcome.next (if_pos (by rw [hen, decide_eq_true hclks]; rfl))
    exact ⟨_, hexec, getBit_setBit_self _ _ _ _ ch.isLt⟩
  case sum =>
    refine ⟨_, congrArg Host.Outcome.next (if_pos hrun), ?_, getBit_tripIn_self _ _ (by decide)⟩
    rw [tripIn, setBit, (rowsKept_set_only _ (r := PU.tripIn) (Nat.lt_trans star.isLt (by decide)) (by decide)).getBit_distinct
      (by decide) (by decide)]
    exact getBit_setBit_self _ _ _ _ star.isLt
  case supply =>
    cases b
    · exact ⟨_, rfl, event_warning_reads s 0 0x16 0x0102 0 0 hlen⟩
    · exact ⟨_, rfl, event_warning_reads s 0 0x30 0x0103 0 0 hlen⟩

end Sys2Proof.Machine
end

section
namespace Sys2Proof.Machine
namespace State

/-! ## The reset values (O6) -/

/-- Both table banks hold the default entries (R98). -/
theorem entry_reset (a b k : Nat) : State.reset.entry a b k = defaultEntry k := rfl

/-- The default table names no vector beyond index 35 (R98). -/
theorem defaultEntry_of_ge {k : Nat} (h : 36 ≤ k) : defaultEntry k = 0x8000 :=
  if_pos (by rw [decide_eq_true h, Bool.true_or])

end State

open State

/-- Settles O6: nothing is listed in the state after reset, so each register reads its row's reset value. -/
theorem resetValuesOfTheTables : Obligations.ResetValuesOfTheTables := by
  unfold Obligations.ResetValuesOfTheTables
  refine ⟨rfl, rfl, ?tables, ?per, ?init, rfl, ?bootstrap, rfl, rfl, ?entries, ?rings, ?channels, ?queues, fun _ => rfl, rfl, ?sram⟩
  case tables => decide
  case per => decide
  case init => decide
  case bootstrap => decide
  case entries =>
    intro a _ b _ k _ hk
    rw [entry_reset, defaultEntry_of_ge hk]
  case rings => decide
  case channels => decide
  case queues =>
    intro c
    cases c <;> rfl
  case sram =>
    intro a
    unfold memGet
    split <;> rfl

end Sys2Proof.Machine
end

/-!
Position feedback (03): what the position commands do (O12). That an illegal transition writes no row beside its flag and its count (O56), and
the statement on the Belay island's bivouac, lapse, XTRIP, HVIL and heartbeat commands (O31), fail.
-/
section
namespace Sys2Proof.Machine

/-! ## The lines at an illegal transition (R70, R82) -/

/-- Refutes O56: the filtered A and B lines, which a pass-through output copies, show the change of both (R82), and their levels are a row of
the state beside ILLEGAL, ILL_CNT and the counters. From reset on axis A their place in the quadrature cycle goes from 0 to 2. -/
theorem not_illegalTransitionsAreCounted : ¬ Obligations.IllegalTransitionsAreCounted := by
  unfold Obligations.IllegalTransitionsAreCounted
  intro counted
  obtain ⟨t, hexec, -, -, rowsKept, -⟩ := counted 0 State.reset
  obtain rfl := Host.Outcome.next.inj hexec
  exact absurd (rowsKept POS.lineQ 0 0 (by decide) (by decide)) (by decide)

/-! ## A new HVIL_EN before the next ENABLE (R300, R306) -/

/-- The configuration words that the last accepted ENABLE put in force for the module have HVIL_EN clear, and the store reads HVIL_EN 1 (its
reset value), as after a CFG_WRITE that no ENABLE has followed. -/
def hvilEnNotYetInForce : State := State.reset.set BL.govOk 1 2

theorem exec_hvilFault_hvilEnNotYetInForce : exec (.hvilFault 1) hvilEnNotYetInForce = .next hvilEnNotYetInForce :=
  congrArg Host.Outcome.next (if_pos (by decide))

/-- Refutes O31, by HVIL_FAULT: the clause takes HVIL_EN from the store, and the command from the words of the last accepted ENABLE, as a new
value governs from the next one only (R306). Where the two differ HVIL is still ignored, and HVIL_OPEN stays clear. -/
theorem not_belayBivouacLapseTripsAndHeartbeat : ¬ Obligations.BelayBivouacLapseTripsAndHeartbeat := by
  unfold Obligations.BelayBivouacLapseTripsAndHeartbeat
  rintro ⟨-, -, -, -, -, -, -, -, hvilFault, -⟩
  obtain ⟨t, hexec, hopen, -⟩ := hvilFault 1 hvilEnNotYetInForce (by decide)
  obtain rfl := Host.Outcome.next.inj (hexec.symm.trans exec_hvilFault_hvilEnNotYetInForce)
  exact absurd hopen (by decide)

end Sys2Proof.Machine
end

section
namespace Sys2Proof.Machine
namespace State

/-! ## What the shared reads of an axis rest on -/

theorem axisCh_lt (s : State) {a : Nat} (ha : a < 2) : s.axisCh a < 8 := by
  unfold axisCh
  split <;> omega

/-- The rows that tell an axis's safety section, and of which channel it is (R239, R242, R281). -/
def sectionRows : List Row := [BL.secOk, BL.sec, SQ.STATUS.JOINED]

section
variable {rs : List Row} {s t : State}

theorem RowsKept.joined_eq (h : RowsKept rs s t) (hr : rs.all SQ.STATUS.JOINED.distinct = true) : t.joined = s.joined := by
  rw [joined, joined, h.is_distinct (by decide) ⟨hr, by decide⟩]

theorem RowsKept.axisCh_eq (h : RowsKept rs s t) (hr : rs.all SQ.STATUS.JOINED.distinct = true) (a : Nat) : t.axisCh a = s.axisCh a := by
  rw [axisCh, axisCh, h.joined_eq hr]

variable {a : Nat} (ha : a < 2)
include ha

theorem RowsKept.axEn_eq (h : RowsKept rs s t) (hr : (rs.all SQ.STATUS.JOINED.distinct && rs.all ACT.chEn.distinct) = true) :
    t.axEn a = s.axEn a := by
  rw [Bool.and_eq_true] at hr
  rw [axEn, axEn, h.axisCh_eq hr.1, h.is_distinct (r := ACT.chEn) (axisCh_lt s ha) ⟨hr.2, by decide⟩]

theorem RowsKept.section_eq (h : RowsKept rs s t) (hr : (sectionRows.all fun r => rs.all r.distinct) = true) {off : Nat}
    (hoff : (off - 0x40) / 4 < BL.sec.c2) (hi lo : Nat) :
    t.secInForce a = s.secInForce a ∧ t.secField (t.axisCh a) off hi lo = s.secField (s.axisCh a) off hi lo := by
  simp only [sectionRows, List.all_cons, List.all_nil, Bool.and_true, Bool.and_eq_true] at hr
  obtain ⟨hok, hsec, hjoined⟩ := hr
  have hlt := axisCh_lt s ha
  rw [secInForce, secInForce, secField, secField, h.axisCh_eq hjoined, h.is_distinct (r := BL.secOk) hlt ⟨hok, by decide⟩,
    h.get_distinct (r := BL.sec) hlt ⟨hsec, hoff⟩]
  exact ⟨rfl, rfl⟩

theorem RowsKept.poles_eq (h : RowsKept rs s t) (hr : ((BL.idlePoles :: sectionRows).all fun r => rs.all r.distinct) = true) :
    t.poles a = s.poles a := by
  rw [List.all_cons, Bool.and_eq_true] at hr
  obtain ⟨hok, hfield⟩ := h.section_eq ha hr.2 (off := 0x048) (by decide) 23 16
  rw [poles, poles, hok, hfield, h.get_distinct (r := BL.idlePoles) ha ⟨hr.1, by decide⟩]

theorem RowsKept.rateOf_eq (h : RowsKept rs s t) (hr : ((BL.idleWBase :: sectionRows).all fun r => rs.all r.distinct) = true) (turns : Int)
    (per : Nat) (dt : Int) : t.rateOf a turns per dt = s.rateOf a turns per dt := by
  rw [List.all_cons, Bool.and_eq_true] at hr
  obtain ⟨hok, hfield⟩ := h.section_eq ha hr.2 (off := 0x048) (by decide) 15 0
  rw [rateOf, rateOf, wBase, wBase, hok, hfield, h.get_distinct (r := BL.idleWBase) ha ⟨hr.1, by decide⟩]

end

/-- A bit above the one that is written is kept. -/
theorem getBit_setBit_gt (s : State) (r : Row) {m n : Nat} (b : Bool) (i j : Nat) (hn : n < m) (hm : m < r.width) :
    (s.setBit r n b i j).getBit r m i j = s.getBit r m i j := by
  obtain ⟨k, rfl⟩ := Nat.exists_eq_add_of_lt hn
  have hcut (v : Nat) : bit (v % 2 ^ r.width) (n + k + 1) = bit v (n + k + 1) := by
    rw [bit_eq_testBit, bit_eq_testBit, Nat.testBit_mod_two_pow, decide_eq_true hm, Bool.true_and]
  have hbit (v : Nat) : bit v (n + k + 1) = bit (v / 2 ^ n / 2) k := by
    have hpow : 2 ^ (n + k + 1) = 2 ^ n * (2 * 2 ^ k) := by ring
    rw [bit, bit, hpow, Nat.div_div_eq_div_mul, Nat.div_div_eq_div_mul]
  have hsub (v : Nat) : (v - if bit v n then 2 ^ n else 0) / 2 ^ n = v / 2 ^ n - v / 2 ^ n % 2 := by
    have hdiv := Nat.sub_mul_div v (2 ^ n) 1
    rw [Nat.mul_one] at hdiv
    by_cases h : bit v n = true
    · rw [if_pos h, hdiv, beq_iff_eq.1 h]
    · have h0 : v / 2 ^ n % 2 = 0 := by
        rw [bit, beq_iff_eq] at h
        omega
      rw [if_neg h, Nat.sub_zero, h0, Nat.sub_zero]
  have hadd (v : Nat) : (v + if b then 2 ^ n else 0) / 2 ^ n = v / 2 ^ n + ofBool b := by
    cases b
    · rfl
    · exact Nat.add_div_right v (Nat.two_pow_pos n)
  have hhalf (x : Nat) : (x - x % 2 + ofBool b) / 2 = x / 2 := by
    have hb : ofBool b ≤ 1 := by cases b <;> decide
    omega
  rw [getBit, getBit, setBit, get_set_self, hcut, hbit, hadd, hsub, hhalf, ← hbit]

/-! ## Absolute words (R63 to R67, R75, R85) -/

/-- A 16-bit register holds a speed cut to ±0x7FFF as it is (R62). -/
theorem geti_seti_clampI (s : State) {r : Row} (hw : r.width = 16) (x : Int) (i j : Nat) :
    (s.seti r (clampI (-0x7FFF) 0x7FFF x) i j).geti r i j = clampI (-0x7FFF) 0x7FFF x := by
  have hsat : sat16 (clampI (-0x7FFF) 0x7FFF x) = clampI (-0x7FFF) 0x7FFF x := by
    simp only [sat16, satI, clampI]
    repeat' split
    all_goals omega
  rw [← hsat]
  exact geti_seti_sat16 s hw _ i j

theorem wrap16_mod (n : Nat) (x : Int) : wrap16 ((n % 2 ^ 16 : Nat) - x) = wrap16 (n - x) := by
  have h : ((n % 2 ^ 16 : Nat) - x) % (2 ^ 16 : Int) = (n - x) % (2 ^ 16 : Int) := by omega
  rw [wrap16, wrap16, ofSigned, ofSigned, h]

section
variable (s : State) {a : Nat} (ha : a < 2)
include ha

theorem rowsKept_capDiscard : RowsKept [POS.discards, POS.wordRow, POS.SPD_VAL.SPD_ABS, POS.spdSat] s (s.capDiscard a) :=
  ((framed_refl (fs := []) s).setIn ha (by decide) |>.setIn ha (by decide) |>.setIn ha (by decide) |>.setIn ha (by decide)).rows

/-- A discarded frame (R65). -/
theorem spdAbs_capDiscard : (s.capDiscard a).get POS.SPD_VAL.SPD_ABS a = 0 := by
  rw [capDiscard, setb, (rowsKept_set_only _ (r := POS.spdSat) ha (by decide)).get_distinct ha (by decide), get_set_self]
  rfl

/-- A request that has timed out (R65). -/
theorem capTmo_reads : (s.capTmo a).is POS.CAP_STAT.TMO a = true ∧ (s.capTmo a).get POS.SPD_VAL.SPD_ABS a = 0 := by
  refine ⟨?_, spdAbs_capDiscard _ ha⟩
  rw [capTmo, (rowsKept_capDiscard _ ha).is_distinct ha (by decide),
    (rowsKept_set_only _ (r := POS.tmoPit) ha (by decide)).is_distinct ha (by decide), incSat,
    (rowsKept_set_only _ (r := POS.CAP_STAT.TMO_CNT) ha (by decide)).is_distinct ha (by decide)]
  exact is_set_one _ _ _ _ (by decide)

/-- What a word that is used leaves (R65, R67, R75). -/
theorem capUse_reads (word : Nat) (attn : Bool) (request : Nat) {t : State} (ht : s.capUse a word attn request = t) :
    (s.is POS.CAP_CFG.GRAY a = false → t.get POS.CAP_WORD.WORD a = word % 2 ^ s.get POS.CAP_CFG.WLEN a % 2 ^ 32) ∧
    t.is POS.wordRow a = true ∧ t.get POS.discards a = 0 ∧
    (s.is POS.wordRow a = true → t.geti POS.SPD_VAL.SPD_ABS a = clampI (-0x7FFF) 0x7FFF
      (s.rateOf a (wrap16 (t.get POS.thM a - s.get POS.thM a) * s.poles a) 65536
        ((request + s.get POS.CAP_TIM.SENS_LAT a : Nat) - s.get POS.wordT a))) ∧
    (s.is POS.wordRow a = false → t.get POS.SPD_VAL.SPD_ABS a = 0) ∧
    (attn = true → t.is POS.CAP_STAT.SENS_WRN a = true) := by
  unfold capUse at ht
  extract_lets raw w th tim el d spd s1 s2 s3 abs at ht
  have halign : RowsKept Touch.align (s3.on attn (·.raise .warning POS.CAP_STAT.SENS_WRN a)) t := ht ▸ (framed_align _ ha ..).rows
  have hend : RowsKept (POS.CAP_STAT.SENS_WRN :: RING.lost :: Touch.align) s3 t :=
    (((framed_refl (fs := [.events, .store]) s3).on fun _ =>
      (framed_refl s3).raise ⟨by decide, ha, by decide⟩ (by decide)).rows).trans (halign.mono (by decide))
  have hstate : RowsKept [POS.wordRow, POS.discards, POS.spdSat] (s1.seti POS.SPD_VAL.SPD_ABS (clampI (-0x7FFF) 0x7FFF spd) a) s3 :=
    ((framed_refl (fs := []) _).setIn ha (by decide) |>.setIn ha (by decide) |>.setIn ha (by decide)).rows
  have hspd : t.geti POS.SPD_VAL.SPD_ABS a = clampI (-0x7FFF) 0x7FFF spd := by
    rw [hend.geti_distinct ha (by decide), hstate.geti_distinct ha (by decide)]
    exact geti_seti_clampI _ rfl _ _ _
  have hafter : RowsKept [POS.thM, POS.thWord, POS.wordT, POS.wordAge, POS.SPD_VAL.SPD_ABS, POS.wordRow, POS.discards, POS.spdSat]
      (s.set POS.CAP_WORD.WORD w a) s3 :=
    ((framed_refl (fs := []) _).setIn ha (by decide) |>.setIn ha (by decide) |>.setIn ha (by decide) |>.setIn ha (by decide)
      |>.setIn ha (by decide) |>.setIn ha (by decide) |>.setIn ha (by decide) |>.setIn ha (by decide)).rows
  have hthM : t.get POS.thM a = th % 2 ^ 16 := by
    have h : RowsKept [POS.thWord, POS.wordT, POS.wordAge, POS.SPD_VAL.SPD_ABS, POS.wordRow, POS.discards, POS.spdSat]
        ((s.set POS.CAP_WORD.WORD w a).set POS.thM th a) s3 :=
      ((framed_refl (fs := []) _).setIn ha (by decide) |>.setIn ha (by decide) |>.setIn ha (by decide) |>.setIn ha (by decide)
        |>.setIn ha (by decide) |>.setIn ha (by decide) |>.setIn ha (by decide)).rows
    rw [hend.get_distinct ha (by decide), h.get_distinct ha (by decide), get_set_self]
    rfl
  have hsat : RowsKept [POS.spdSat] s2 s3 := rowsKept_set_only _ ha (by decide)
  refine ⟨fun hgray => ?_, ?_, ?_, fun hrow => ?_, fun hrow => ?_, ?_⟩
  · have hw : w = raw := if_neg (by rw [hgray]; decide)
    rw [hend.get_distinct ha (by decide), hafter.get_distinct ha (by decide), get_set_self, hw]
    rfl
  · rw [hend.is_distinct ha (by decide), hsat.is_distinct ha (by decide),
      (rowsKept_set_only _ (r := POS.discards) ha (by decide)).is_distinct ha (by decide)]
    exact is_set_one _ _ _ _ (by decide)
  · rw [hend.get_distinct ha (by decide), hsat.get_distinct ha (by decide), get_set_self]
    rfl
  · have hd : spd = s.rateOf a (d * s.poles a) 65536 ((tim : Int) - s.get POS.wordT a) := if_pos hrow
    rw [hspd, hd, hthM, wrap16_mod]
  · have hd : spd = 0 := if_neg (by rw [hrow]; decide)
    rw [hend.get_distinct ha (by decide), hstate.get_distinct ha (by decide), seti, get_set_self, hd]
    rfl
  · rintro rfl
    rw [halign.is_distinct ha (by decide)]
    exact is_raise_channel _ _ ha (by decide)

end
end State

open State

/-- The pitons of a request (R85): a timeout, or as many frames with a wrong CRC as lose the source. -/
def State.capPitons (s : State) (a : Nat) : State :=
  (s.on (s.pit 0x17 2 a) fun v => v.pitAct.set POS.tmoPit 1 a).on
    ((s.on (s.pit 0x17 2 a) fun v => v.pitAct.set POS.tmoPit 1 a).pit 0x17 1 a) fun v =>
      v.pitAct.set POS.crcPit (v.get POS.CAP_CFG.INV_N a) a

theorem rowsKept_capPitons (s : State) {a : Nat} (ha : a < 2) : RowsKept (POS.tmoPit :: POS.crcPit :: Touch.pitAct) s (s.capPitons a) :=
  (((framed_refl (fs := [.events, .store]) s).on fun h => ((framed_pitAct h (by decide)).mono (by decide)).setIn ha (by decide)).on
    fun h => ((framed_pitAct h (by decide)).mono (by decide)).setIn ha (by decide)).rows

theorem exec_capRequest_of_free (axis : Fin 2) (s : State) (hbusy : s.is POS.CAP_STAT.BUSY axis = false) :
    exec (.capRequest axis) s = .next ((s.set POS.CAP_STAT.BUSY 1 axis).capPitons axis) :=
  congrArg Host.Outcome.next (if_neg (by rw [hbusy]; decide))

theorem exec_capRequest (axis : Fin 2) (s : State) : ∃ t, exec (.capRequest axis) s = .next t ∧
    (s.is POS.CAP_STAT.BUSY axis = true →
      t.get POS.CAP_STAT.SKIP axis = min (s.get POS.CAP_STAT.SKIP axis + 1) (2 ^ POS.CAP_STAT.SKIP.width - 1)) ∧
    t.is POS.CAP_STAT.BUSY axis = true := by
  cases hbusy : s.is POS.CAP_STAT.BUSY axis
  case true =>
    refine ⟨_, congrArg Host.Outcome.next (if_pos hbusy), fun _ => get_incSat_self .., ?_⟩
    rw [incSat, (rowsKept_set_only _ (r := POS.CAP_STAT.SKIP) axis.isLt (by decide)).is_distinct axis.isLt (by decide)]
    exact hbusy
  case false =>
    refine ⟨_, exec_capRequest_of_free axis s hbusy, fun h => absurd h (by decide), ?_⟩
    rw [(rowsKept_capPitons _ axis.isLt).is_distinct axis.isLt (by decide)]
    exact is_set_one _ _ _ _ (by decide)

/-- The bits of a frame that its CRC-6 covers, in the order sent (R63). -/
def capBits (s : State) (axis : Fin 2) (valid attn : Bool) (word : BitVec 32) : List Bool :=
  [valid, attn] ++ (List.range (s.get POS.CAP_CFG.WLEN axis)).map fun i => bit word.toNat i

/-- A frame of a request under way, with no piton and no line fault on its pair (R63 to R65). -/
theorem exec_capFrame (axis : Fin 2) (startOk valid attn : Bool) (word : BitVec 32) (crc : BitVec 6) (delay : BitVec 8) (request : Nat)
    (s : State) (h : s.is POS.CAP_STAT.BUSY axis = true ∧ s.is POS.tmoPit axis = false ∧ s.is POS.crcPit axis = false ∧
      s.is POS.lfCap axis = false) :
    exec (.capFrame axis startOk valid attn word crc delay request) s = .next (
      let s1 := s.set POS.CAP_TIM.RX_DLY delay.toNat axis
      if !(startOk && crcM 6 0x19 0x3F (capBits s axis valid attn word) == crc.toNat) then
        ((s1.set POS.CAP_STAT.CRC 1 axis).incSat POS.CAP_STAT.CRC_CNT axis).capDiscard axis
      else if !valid then (s1.set POS.CAP_STAT.SENS_ERR 1 axis).capDiscard axis
      else s1.capUse axis word.toNat attn request) := by
  obtain ⟨hbusy, htmo, hcrc, hlf⟩ := h
  change execCapFrame axis startOk valid attn word crc delay request s = _
  simp only [execCapFrame, hbusy, htmo, hcrc, hlf, on, capBits, Bool.not_true, Bool.not_false, Bool.or_self, Bool.and_true,
    Bool.false_eq_true, if_false]
  rfl

/-- A frame that is discarded. -/
theorem exec_capFrame_bad (axis : Fin 2) (startOk valid attn : Bool) (word : BitVec 32) (crc : BitVec 6) (delay : BitVec 8) (request : Nat)
    (s : State) (h : s.is POS.CAP_STAT.BUSY axis = true ∧ s.is POS.tmoPit axis = false ∧ s.is POS.crcPit axis = false ∧
      s.is POS.lfCap axis = false)
    (hbad : startOk = false ∨ valid = false ∨ crcM 6 0x19 0x3F (capBits s axis valid attn word) ≠ crc.toNat) :
    ∃ t, exec (.capFrame axis startOk valid attn word crc delay request) s = .next t ∧
      t.get POS.CAP_TIM.RX_DLY axis = delay.toNat ∧
      (t.is POS.CAP_STAT.CRC axis = true ∨ t.is POS.CAP_STAT.SENS_ERR axis = true) ∧
      t.get POS.CAP_WORD.WORD axis = s.get POS.CAP_WORD.WORD axis ∧ t.get POS.SPD_VAL.SPD_ABS axis = 0 := by
  have ha := axis.isLt
  refine ⟨_, exec_capFrame axis startOk valid attn word crc delay request s h, ?_⟩
  extract_lets s1
  have hkept {u : State} (hu : RowsKept [POS.CAP_STAT.CRC, POS.CAP_STAT.CRC_CNT, POS.CAP_STAT.SENS_ERR] s1 u) :
      (u.capDiscard axis).get POS.CAP_TIM.RX_DLY axis = delay.toNat ∧
        (u.capDiscard axis).get POS.CAP_WORD.WORD axis = s.get POS.CAP_WORD.WORD axis := by
    have hdiscard := rowsKept_capDiscard u ha
    rw [hdiscard.get_distinct ha (by decide), hdiscard.get_distinct ha (by decide), hu.get_distinct ha (by decide),
      hu.get_distinct ha (by decide)]
    exact ⟨(get_set_self ..).trans (Nat.mod_eq_of_lt delay.isLt),
      (rowsKept_set_only s (r := POS.CAP_TIM.RX_DLY) ha (by decide)).get_distinct ha (by decide)⟩
  split
  case isTrue =>
    obtain ⟨hdelay, hword⟩ := hkept (u := (s1.set POS.CAP_STAT.CRC 1 axis).incSat POS.CAP_STAT.CRC_CNT axis)
      ((framed_refl (fs := []) s1).setIn ha (by decide) |>.setIn ha (by decide)).rows
    refine ⟨hdelay, .inl ?_, hword, spdAbs_capDiscard _ ha⟩
    rw [(rowsKept_capDiscard _ ha).is_distinct ha (by decide), incSat,
      (rowsKept_set_only _ (r := POS.CAP_STAT.CRC_CNT) ha (by decide)).is_distinct ha (by decide)]
    exact is_set_one _ _ _ _ (by decide)
  case isFalse hgood =>
    have hvalid : valid = false := by
      simp only [Bool.not_eq_true', Bool.not_eq_false, Bool.and_eq_true, beq_iff_eq] at hgood
      rcases hbad with hb | hb | hb
      · exact absurd (hb.symm.trans hgood.1) (by decide)
      · exact hb
      · exact absurd hgood.2 hb
    obtain ⟨hdelay, hword⟩ := hkept (u := s1.set POS.CAP_STAT.SENS_ERR 1 axis)
      ((framed_refl (fs := []) s1).setIn ha (by decide)).rows
    rw [if_pos (by rw [hvalid]; rfl)]
    refine ⟨hdelay, .inr ?_, hword, spdAbs_capDiscard _ ha⟩
    rw [(rowsKept_capDiscard _ ha).is_distinct ha (by decide)]
    exact is_set_one _ _ _ _ (by decide)

/-- A frame whose word is used. -/
theorem exec_capFrame_good (axis : Fin 2) (attn : Bool) (word : BitVec 32) (crc : BitVec 6) (delay : BitVec 8) (request : Nat) (s : State)
    (h : s.is POS.CAP_STAT.BUSY axis = true ∧ s.is POS.tmoPit axis = false ∧ s.is POS.crcPit axis = false ∧ s.is POS.lfCap axis = false)
    (hcrc : crcM 6 0x19 0x3F (capBits s axis true attn word) = crc.toNat) :
    ∃ t, exec (.capFrame axis true true attn word crc delay request) s = .next t ∧
      (s.is POS.CAP_CFG.GRAY axis = false → t.get POS.CAP_WORD.WORD axis = word.toNat % 2 ^ s.get POS.CAP_CFG.WLEN axis % 2 ^ 32) ∧
      t.is POS.wordRow axis = true ∧ t.get POS.discards axis = 0 ∧
      (s.is POS.wordRow axis = true → t.geti POS.SPD_VAL.SPD_ABS axis = clampI (-0x7FFF) 0x7FFF
        (s.rateOf axis (wrap16 (t.get POS.thM axis - s.get POS.thM axis) * s.poles axis) 65536
          ((request + s.get POS.CAP_TIM.SENS_LAT axis : Nat) - s.get POS.wordT axis))) ∧
      (s.is POS.wordRow axis = false → t.get POS.SPD_VAL.SPD_ABS axis = 0) ∧
      (attn = true → t.is POS.CAP_STAT.SENS_WRN axis = true) := by
  have ha := axis.isLt
  have hdelay := rowsKept_set_only s (r := POS.CAP_TIM.RX_DLY) (v := delay.toNat) ha (j := 0) (by decide)
  have huse := capUse_reads (s.set POS.CAP_TIM.RX_DLY delay.toNat axis) ha word.toNat attn request rfl
  rw [hdelay.is_distinct (r := POS.CAP_CFG.GRAY) ha (by decide), hdelay.get_distinct (r := POS.CAP_CFG.WLEN) ha (by decide),
    hdelay.is_distinct (r := POS.wordRow) ha (by decide), hdelay.get_distinct (r := POS.thM) ha (by decide),
    hdelay.get_distinct (r := POS.CAP_TIM.SENS_LAT) ha (by decide), hdelay.get_distinct (r := POS.wordT) ha (by decide),
    hdelay.poles_eq ha (by decide), hdelay.rateOf_eq ha (by decide)] at huse
  refine ⟨_, (exec_capFrame axis true true attn word crc delay request s h).trans ?_, huse⟩
  rw [hcrc, beq_self_eq_true]
  rfl

/-- A loss of the absolute source after INV_N discards (R65). -/
theorem exec_absLost (axis : Fin 2) (s : State) (hn : s.get POS.CAP_CFG.INV_N axis ≤ s.get POS.discards axis) :
    ∃ t, exec (.absLost axis) s = .next t ∧ t.is POS.CAP_STAT.ABS_LOST axis = true ∧ t.is POS.CAP_STAT.VALID axis = false ∧
      t.getBit POS.XCHK_STAT.VALID (if s.joined && axis == 1 then 3 else 0) (s.lead axis) = false := by
  have ha := axis.isLt
  have hvalid := fun (u : State) v => rowsKept_set_only u (r := POS.XCHK_STAT.VALID) (v := v) (lead_lt s ha) (j := 0) (by decide)
  refine ⟨_, congrArg Host.Outcome.next (if_pos hn), ?_, ?_, ?_⟩
  · rw [setBit, (hvalid _ _).is_distinct ha (by decide), (rowsKept_set_only _ (r := POS.CAP_STAT.VALID) ha (by decide)).is_distinct ha
      (by decide)]
    exact is_set_one _ _ _ _ (by decide)
  · rw [setBit, (hvalid _ _).is_distinct ha (by decide)]
    exact is_set_zero ..
  · exact getBit_setBit_false ..

end Sys2Proof.Machine
end

section
namespace Sys2Proof.Machine
namespace State

/-! ## The incremental track (R68 to R74, R82, R85) -/

/-- Both counters move by one in the direction of the edge, INC_POS round by round (R69). -/
def edgeStep (s : State) (a : Nat) (up : Bool) : State :=
  (s.set POS.INC_COUNT.COUNT (s.get POS.INC_COUNT.COUNT a + (if up then 1 else 2 ^ 32 - 1)) a).set POS.INC_POS.POS
    (if up then (s.get POS.INC_POS.POS a + 1) % s.get POS.INC_CPR.CPR a
      else (s.get POS.INC_POS.POS a + s.get POS.INC_CPR.CPR a - 1) % s.get POS.INC_CPR.CPR a) a

/-- What an edge does beside the counters before its speed is formed (R69, R74, R82): RATE tells of a short interval, the track no longer
stands still, and the filtered lines move. -/
def edgeSeen (s : State) (a : Nat) (aLeads : Bool) (stamp : Nat) : State :=
  (((s.on (s.is POS.edgeEver a && decide (stamp < s.get POS.edgeT a 0 + 40)) (·.raise .warning POS.INC_STAT.RATE a)).set
    POS.INC_STAT.STILL 0 a).set POS.edgeEver 1 a).lineMove a (if aLeads then 1 else 3)

/-- The first edge after standstill or reversal gives no speed (R74). -/
def edgeRestart (s : State) (a stamp : Nat) : State :=
  ((((s.set POS.SPD_VAL.SPD_INC 0 a).setb POS.spdSat false a 1).set POS.spdLast 0 a).set POS.edgeN 1 a).pushEdge a stamp

/-- A reversal (R74). -/
def edgeReversed (s : State) (a : Nat) (up : Bool) : State :=
  ((s.setb POS.INC_STAT.DIR (!up) a).raise .info POS.INC_STAT.DIR_CHG a).send (.interrupt a 1)

/-- A further edge in the same direction gives the speed over the last intervals (R74); `n` edges have come since the first one. -/
def edgeTimed (s : State) (a n stamp : Nat) : State :=
  let k := min (s.kSel a) n
  let dt := stamp - s.get POS.edgeT a (k - 1)
  let v := s.edgeSpeed a k dt
  let s4 := s.setb POS.spdSat (decide (0x7FFF < s.edgeRate a k dt)) a 1
  (((s4.setSpdInc a v).set POS.spdLast v a).set POS.edgeN (min (n + 1) 5) a).pushEdge a stamp

section
variable (s : State) {a : Nat} (ha : a < 2)
include ha

/-- The rows that an edge writes once it has its direction. -/
def edgeSpeedRows : List Row := [POS.SPD_VAL.SPD_INC, POS.spdSat, POS.spdLast, POS.edgeN, POS.edgeT]

theorem rowsKept_edgeRestart (stamp : Nat) : RowsKept edgeSpeedRows s (s.edgeRestart a stamp) :=
  ((framed_refl (fs := []) s).setIn ha (by decide) |>.setIn ha (by decide) |>.setIn ha (by decide) |>.setIn ha (by decide)
    |>.andThen (framed_pushEdge _ ha _) (by decide)).rows

theorem rowsKept_edgeTimed (n stamp : Nat) : RowsKept edgeSpeedRows s (s.edgeTimed a n stamp) :=
  ((framed_refl (fs := []) s).setIn ha (by decide) |>.setIn ha (by decide) |>.setIn ha (by decide) |>.setIn ha (by decide)
    |>.andThen (framed_pushEdge _ ha _) (by decide)).rows

theorem spdInc_edgeRestart (stamp : Nat) : (s.edgeRestart a stamp).get POS.SPD_VAL.SPD_INC a = 0 := by
  have hrest : RowsKept [POS.spdSat, POS.spdLast, POS.edgeN, POS.edgeT] (s.set POS.SPD_VAL.SPD_INC 0 a) (s.edgeRestart a stamp) :=
    ((framed_refl (fs := []) _).setIn ha (by decide) |>.setIn ha (by decide) |>.setIn ha (by decide)
      |>.andThen (framed_pushEdge _ ha _) (by decide)).rows
  rw [hrest.get_distinct ha (by decide), get_set_self]
  rfl

theorem rowsKept_edgeReversed (up : Bool) :
    RowsKept [POS.INC_STAT.DIR_CHG, RING.lost] (s.setb POS.INC_STAT.DIR (!up) a) (s.edgeReversed a up) :=
  ((framed_refl (fs := [.events, .store, .out]) _).raise ⟨by decide, ha, by decide⟩ (by decide) |>.send (by decide)).rows

theorem dir_edgeReversed (up : Bool) : (s.edgeReversed a up).is POS.INC_STAT.DIR a = !up := by
  rw [(rowsKept_edgeReversed s ha up).is_distinct ha (by decide)]
  exact is_setb_self _ _ _ _ _ (by decide)

theorem rowsKept_edgeStep (up : Bool) : RowsKept [POS.INC_COUNT.COUNT, POS.INC_POS.POS] s (s.edgeStep a up) :=
  ((framed_refl (fs := []) s).setIn ha (by decide) |>.setIn ha (by decide)).rows

theorem count_edgeStep (up : Bool) :
    (s.edgeStep a up).get POS.INC_COUNT.COUNT a = (s.get POS.INC_COUNT.COUNT a + (if up then 1 else 2 ^ 32 - 1)) % 2 ^ 32 := by
  rw [edgeStep, (rowsKept_set_only _ (r := POS.INC_POS.POS) ha (by decide)).get_distinct ha (by decide), get_set_self]
  rfl

theorem rowsKept_edgeSeen (aLeads : Bool) (stamp : Nat) :
    RowsKept [POS.INC_STAT.RATE, RING.lost, POS.INC_STAT.STILL, POS.edgeEver, POS.lineQ, POS.ptoCnt] s (s.edgeSeen a aLeads stamp) :=
  ((((framed_refl (fs := [.events, .store]) s).on fun _ => (framed_refl s).raise ⟨by decide, ha, by decide⟩ (by decide)).setIn ha
    (by decide)).setIn ha (by decide) |>.andThen (framed_lineMove _ ha _) (by decide)).rows

theorem still_edgeSeen (aLeads : Bool) (stamp : Nat) : (s.edgeSeen a aLeads stamp).is POS.INC_STAT.STILL a = false := by
  rw [edgeSeen, (framed_lineMove _ ha _).rows.is_distinct ha (by decide),
    (rowsKept_set_only _ (r := POS.edgeEver) ha (by decide)).is_distinct ha (by decide)]
  exact is_set_zero ..

theorem rate_edgeSeen (aLeads : Bool) {stamp : Nat} (hever : s.is POS.edgeEver a = true) (hshort : stamp < s.get POS.edgeT a 0 + 40) :
    (s.edgeSeen a aLeads stamp).is POS.INC_STAT.RATE a = true := by
  rw [edgeSeen, hever, decide_eq_true hshort, (framed_lineMove _ ha _).rows.is_distinct ha (by decide),
    (rowsKept_set_only _ (r := POS.edgeEver) ha (by decide)).is_distinct ha (by decide),
    (rowsKept_set_only _ (r := POS.INC_STAT.STILL) ha (by decide)).is_distinct ha (by decide)]
  exact is_raise_channel _ _ ha (by decide)

end
end State

open State

/-- An edge of the lines (R69, R74): the counters move, and the speed goes by its direction and by the edges before it. -/
def State.incEdgeTaken (s : State) (a : Nat) (aLeads up : Bool) (stamp : Nat) : State :=
  let s1 := s.edgeStep a up
  let s3 := s1.edgeSeen a aLeads stamp
  if s3.is POS.INC_STAT.DIR a == up then (s3.edgeReversed a up).edgeRestart a stamp
  else if s1.get POS.edgeN a = 0 then s3.edgeRestart a stamp
  else s3.edgeTimed a (s1.get POS.edgeN a) stamp

/-- What reads of the track's registers after an edge (R69, R74). -/
theorem State.incEdgeTaken_reads (s : State) {a : Nat} (ha : a < 2) (aLeads up : Bool) (stamp : Nat) {t : State}
    (ht : s.incEdgeTaken a aLeads up stamp = t) :
    t.get POS.INC_COUNT.COUNT a = (s.get POS.INC_COUNT.COUNT a + (if up then 1 else 2 ^ 32 - 1)) % 2 ^ 32 ∧
    t.is POS.INC_STAT.STILL a = false ∧
    (s.is POS.edgeEver a = true → stamp < s.get POS.edgeT a 0 + 40 → t.is POS.INC_STAT.RATE a = true) ∧
    (s.is POS.INC_STAT.DIR a = up → t.get POS.SPD_VAL.SPD_INC a = 0) ∧ t.is POS.INC_STAT.DIR a = !up := by
  unfold incEdgeTaken at ht
  extract_lets s1 s3 at ht
  have hstep := rowsKept_edgeStep s ha up
  have hseen := rowsKept_edgeSeen s1 ha aLeads stamp
  have hdir : s3.is POS.INC_STAT.DIR a = s.is POS.INC_STAT.DIR a := by
    rw [hseen.is_distinct ha (by decide), hstep.is_distinct ha (by decide)]
  have hrest : RowsKept ([POS.INC_STAT.DIR, POS.INC_STAT.DIR_CHG, RING.lost] ++ edgeSpeedRows) s3 t := by
    rw [← ht]
    split
    · exact (((rowsKept_set_only s3 (r := POS.INC_STAT.DIR) ha (by decide)).mono (by decide)).trans
        ((rowsKept_edgeReversed s3 ha up).mono (by decide))).trans ((rowsKept_edgeRestart _ ha stamp).mono (by decide))
    · split
      · exact (rowsKept_edgeRestart _ ha stamp).mono (by decide)
      · exact (rowsKept_edgeTimed _ ha _ stamp).mono (by decide)
  refine ⟨?_, ?_, fun hever hshort => ?_, fun hrev => ?_, ?_⟩
  · rw [hrest.get_distinct ha (by decide), hseen.get_distinct ha (by decide)]
    exact count_edgeStep s ha up
  · rw [hrest.is_distinct ha (by decide)]
    exact still_edgeSeen s1 ha aLeads stamp
  · rw [hrest.is_distinct ha (by decide)]
    refine rate_edgeSeen s1 ha aLeads ((hstep.is_distinct ha (by decide)).trans hever) ?_
    rw [hstep.get_distinct ha (by decide)]
    exact hshort
  · rw [← ht, if_pos (by rw [hdir, hrev, beq_self_eq_true])]
    exact spdInc_edgeRestart _ ha stamp
  · rw [← ht]
    split
    case isTrue =>
      rw [(rowsKept_edgeRestart _ ha stamp).is_distinct ha (by decide)]
      exact dir_edgeReversed s3 ha up
    case isFalse hsame =>
      have hkeep : s3.is POS.INC_STAT.DIR a = !up := by
        rw [beq_iff_eq] at hsame
        exact Bool.eq_not_of_ne hsame
      split
      · rw [(rowsKept_edgeRestart _ ha stamp).is_distinct ha (by decide)]
        exact hkeep
      · rw [(rowsKept_edgeTimed _ ha _ stamp).is_distinct ha (by decide)]
        exact hkeep

theorem exec_incEdge_eq (axis : Fin 2) (aLeads : Bool) (stamp : Nat) (s : State) {u : State}
    (hu : s.blEdge axis (aLeads != s.is POS.INC_CFG.SWAP axis) stamp = u) (hpit : u.pit 0x17 3 axis = false) :
    exec (.incEdge axis aLeads stamp) s = .next (u.incEdgeTaken axis aLeads (aLeads != u.is POS.INC_CFG.SWAP axis) stamp) := by
  subst hu
  refine (if_neg (by rw [hpit]; decide)).trans ?_
  rw [incEdgeTaken, apply_ite Host.Outcome.next, apply_ite Host.Outcome.next]
  rfl

theorem exec_incEdge (axis : Fin 2) (aLeads : Bool) (stamp : Nat) (s : State) (hpit : s.pit 0x17 3 axis = false) :
    ∃ t, exec (.incEdge axis aLeads stamp) s = .next t ∧
      t.get POS.INC_COUNT.COUNT axis =
        (s.get POS.INC_COUNT.COUNT axis + (if aLeads != s.is POS.INC_CFG.SWAP axis then 1 else 2 ^ 32 - 1)) % 2 ^ 32 ∧
      t.is POS.INC_STAT.STILL axis = false ∧
      (s.is POS.edgeEver axis = true → stamp < s.get POS.edgeT axis 0 + 40 → t.is POS.INC_STAT.RATE axis = true) ∧
      (s.is POS.INC_STAT.DIR axis = (aLeads != s.is POS.INC_CFG.SWAP axis) → t.get POS.SPD_VAL.SPD_INC axis = 0) ∧
      t.is POS.INC_STAT.DIR axis = !(aLeads != s.is POS.INC_CFG.SWAP axis) := by
  have ha := axis.isLt
  have hbl := (framed_blEdge s ha (aLeads != s.is POS.INC_CFG.SWAP axis) stamp).rows
  have htaken := incEdgeTaken_reads (s.blEdge axis (aLeads != s.is POS.INC_CFG.SWAP axis) stamp) ha aLeads
    (aLeads != s.is POS.INC_CFG.SWAP axis) stamp rfl
  have hexec := exec_incEdge_eq axis aLeads stamp s rfl ((hbl.pit _ _ _ (by decide)).trans hpit)
  rw [hbl.is_distinct ha (by decide)] at hexec
  rw [hbl.get_distinct (r := POS.INC_COUNT.COUNT) ha (by decide), hbl.is_distinct (r := POS.edgeEver) ha (by decide),
    hbl.get_distinct (r := POS.edgeT) ha (by decide), hbl.is_distinct (r := POS.INC_STAT.DIR) ha (by decide)] at htaken
  exact ⟨_, hexec, htaken⟩

end Sys2Proof.Machine
end

section
namespace Sys2Proof.Machine
open State

theorem exec_incIllegal (axis : Fin 2) (s : State) : ∃ t, exec (.incIllegal axis) s = .next t ∧
    t.is POS.INC_STAT.ILLEGAL axis = true ∧
    t.get POS.INC_STAT.ILL_CNT axis = min (s.get POS.INC_STAT.ILL_CNT axis + 1) (2 ^ POS.INC_STAT.ILL_CNT.width - 1) := by
  have ha := axis.isLt
  have hlines := fun u : State => (framed_lineMove u ha 2).rows
  refine ⟨_, rfl, ?_, ?_⟩
  · rw [(hlines _).is_distinct ha (by decide), incSat,
      (rowsKept_set_only _ (r := POS.INC_STAT.ILL_CNT) ha (by decide)).is_distinct ha (by decide)]
    exact is_set_one _ _ _ _ (by decide)
  · rw [(hlines _).get_distinct ha (by decide), get_incSat_self,
      (rowsKept_set_only _ (r := POS.INC_STAT.ILLEGAL) ha (by decide)).get_distinct ha (by decide)]

/-- The Z line as a copying pass-through output shows it (R82). -/
def State.indexCopied (s : State) (a : Nat) : State :=
  s.on (s.ptoCopies a && s.is POS.PTO_CFG.Z_EN a && !s.getBit POS.lfInc 1 a) (·.inc POS.ptoZ a)

/-- INC_POS is latched, and the index may align the track (R71, R73). -/
def State.indexLatched (s : State) (a : Nat) : State :=
  (s.set POS.IDX_LAT.LAT (s.get POS.INC_POS.POS a) a).align a 2 (s.get POS.INC_POS.POS a) (s.get POS.ANG_OFS.ZOFS a)

/-- The first index without a piton becomes the reference (R71). -/
theorem exec_incIndex_first (axis : Fin 2) (s : State) (hz : s.is POS.INC_CFG.Z_EN axis = true ∧ s.getBit POS.lfInc 1 axis = false)
    (hpit : s.pit 0x17 4 axis = false) (hwait : ((s.indexCopied axis).indexLatched axis).is POS.idxWait axis = true) :
    exec (.incIndex axis) s = .next (((((s.indexCopied axis).indexLatched axis).set POS.IDX_REF.REF
      ((s.indexCopied axis).get POS.INC_POS.POS axis) axis).set POS.IDX_REF.REF_VALID 1 axis).set POS.idxWait 0 axis) := by
  change execIncIndex axis s = _
  unfold execIncIndex
  extract_lets a sz cpr p s0 lat s1 d dev
  rw [if_neg (by rw [hz.1, hz.2]; decide)]
  have hs0 : s0 = sz := by simp only [s0, show p = false from hpit, on, Bool.false_eq_true, if_false]
  have hlat : lat = sz.get POS.INC_POS.POS a := by simp only [lat, show p = false from hpit, hs0, Bool.false_eq_true, if_false]
  have hs1 : s1 = (s.indexCopied axis).indexLatched axis := by
    simp only [s1, hlat, hs0]
    rfl
  rw [if_pos (by rw [hs1]; exact hwait), hs1, hlat]
  rfl

theorem exec_incIndex (axis : Fin 2) (s : State) (hz : s.is POS.INC_CFG.Z_EN axis = true ∧ s.getBit POS.lfInc 1 axis = false)
    (hfirst : s.pit 0x17 4 axis = false ∧ s.is POS.idxWait axis = true) : ∃ t, exec (.incIndex axis) s = .next t ∧
      t.get POS.IDX_LAT.LAT axis = s.get POS.INC_POS.POS axis % 2 ^ POS.IDX_LAT.LAT.width ∧
      t.get POS.IDX_REF.REF axis = s.get POS.INC_POS.POS axis % 2 ^ POS.IDX_REF.REF.width ∧ t.is POS.IDX_REF.REF_VALID axis = true := by
  have ha := axis.isLt
  obtain ⟨hpit, hwait⟩ := hfirst
  have hcopy : RowsKept [POS.ptoZ] s (s.indexCopied axis) := rowsKept_on _ fun _ => rowsKept_set_only s ha (by decide)
  have halign : RowsKept Touch.align ((s.indexCopied axis).set POS.IDX_LAT.LAT ((s.indexCopied axis).get POS.INC_POS.POS axis) axis)
      ((s.indexCopied axis).indexLatched axis) := (framed_align _ ha ..).rows
  have hrest (u : State) (x : Nat) : RowsKept [POS.IDX_REF.REF, POS.IDX_REF.REF_VALID, POS.idxWait] u
      (((u.set POS.IDX_REF.REF x axis).set POS.IDX_REF.REF_VALID 1 axis).set POS.idxWait 0 axis) :=
    ((framed_refl (fs := []) u).setIn ha (by decide) |>.setIn ha (by decide) |>.setIn ha (by decide)).rows
  have hwait' : ((s.indexCopied axis).indexLatched axis).is POS.idxWait axis = true := by
    rw [halign.is_distinct ha (by decide), (rowsKept_set_only _ (r := POS.IDX_LAT.LAT) ha (by decide)).is_distinct ha (by decide),
      hcopy.is_distinct ha (by decide)]
    exact hwait
  have hlast := fun u : State => rowsKept_set_only u (r := POS.idxWait) (v := 0) ha (j := 0) (by decide)
  refine ⟨_, exec_incIndex_first axis s hz hpit hwait', ?_, ?_, ?_⟩
  · rw [(hrest _ _).get_distinct ha (by decide), halign.get_distinct ha (by decide), get_set_self, hcopy.get_distinct ha (by decide)]
  · rw [(hlast _).get_distinct ha (by decide),
      (rowsKept_set_only _ (r := POS.IDX_REF.REF_VALID) ha (by decide)).get_distinct ha (by decide), get_set_self,
      hcopy.get_distinct ha (by decide)]
  · rw [(hlast _).is_distinct ha (by decide)]
    exact is_set_one _ _ _ _ (by decide)

theorem exec_reref (axis : Fin 2) (s : State) (hpd : s.pdOn (3 + axis) = true) : ∃ t, exec (.reref axis) s = .next t ∧
    (s.axEn (s.lead axis) = true →
      t.is POS.CTL.CFG_REJECT = true ∧ t.is POS.IDX_REF.REF_VALID axis = s.is POS.IDX_REF.REF_VALID axis) ∧
    (s.axEn (s.lead axis) = false → t.is POS.IDX_REF.REF_VALID axis = false ∧ t.is POS.idxWait axis = true) := by
  have ha := axis.isLt
  have hoff : ¬(!s.pdOn (3 + axis)) = true := by rw [hpd]; decide
  cases hen : s.axEn (s.lead axis)
  case true =>
    refine ⟨_, congrArg Host.Outcome.next ((if_neg hoff).trans (if_pos hen)), fun _ => ⟨is_set_one _ _ _ _ (by decide), ?_⟩,
      fun h => absurd h (by decide)⟩
    exact (rowsKept_set_only s (r := POS.CTL.CFG_REJECT) (by decide) (by decide)).is_distinct ha (by decide)
  case false =>
    refine ⟨_, congrArg Host.Outcome.next ((if_neg hoff).trans (if_neg (by rw [hen]; decide))), fun h => absurd h (by decide),
      fun _ => ⟨?_, is_set_one _ _ _ _ (by decide)⟩⟩
    rw [(rowsKept_set_only _ (r := POS.idxWait) ha (by decide)).is_distinct ha (by decide)]
    exact is_set_zero ..

theorem exec_posStill (axis : Fin 2) (s : State)
    (hlong : s.get POS.edgeT axis 0 + s.get POS.SPD_CFG.STILL_MS axis * 400000 ≤ s.now) : ∃ t, exec (.posStill axis) s = .next t ∧
      t.is POS.INC_STAT.STILL axis = true ∧ t.get POS.SPD_VAL.SPD_INC axis = 0 := by
  have ha := axis.isLt
  have hrest (u : State) : RowsKept [POS.spdSat, POS.edgeN, POS.spdLast] u
      (((u.setb POS.spdSat false axis 1).set POS.edgeN 0 axis).set POS.spdLast 0 axis) :=
    ((framed_refl (fs := []) u).setIn ha (by decide) |>.setIn ha (by decide) |>.setIn ha (by decide)).rows
  refine ⟨_, congrArg Host.Outcome.next (if_neg (Nat.not_lt.2 hlong)), ?_, ?_⟩
  · rw [(hrest _).is_distinct ha (by decide), (rowsKept_set_only _ (r := POS.SPD_VAL.SPD_INC) ha (by decide)).is_distinct ha (by decide)]
    exact is_set_one _ _ _ _ (by decide)
  · rw [(hrest _).get_distinct ha (by decide), get_set_self]
    rfl

/-! ## Line faults (R72, R79) -/

/-- A or B of a track is lost: the flag stands, and its source is not valid (R72, R78). -/
def State.trackLost (s : State) (a : Nat) : State :=
  ((s.set POS.INC_STAT.LINE_FLT 1 a).set POS.lfAB 1 a).setBit POS.XCHK_STAT.VALID (if s.joined && a == 1 then 4 else 1) false (s.lead a)

/-- What the loss of a track calls for (R79, R292). -/
def State.trackLossCalls (s : State) (a : Nat) : State :=
  if !s.axEn (s.lead a) then s
  else if s.joined && a == 1 then s.on (s.srcEn 1 true) (·.bivEnter 0 .inc2)
  else if s.joined && s.getBit POS.XCHK_STAT.VALID 4 0 then s.bivEnter 0 .inc
  else s.callSafe a SsCause.incLost.bit

section
variable (s : State) {a : Nat} (ha : a < 2)
include ha

theorem rowsKept_trackLost : RowsKept [POS.INC_STAT.LINE_FLT, POS.lfAB, POS.XCHK_STAT.VALID] s (s.trackLost a) :=
  ((framed_refl (fs := []) s).setIn ha (by decide) |>.setIn ha (by decide) |>.setIn (lead_lt s ha) (by decide)).rows

theorem lineFlt_trackLost : (s.trackLost a).is POS.INC_STAT.LINE_FLT a = true := by
  have hrest (u : State) (v : Nat) : RowsKept [POS.lfAB, POS.XCHK_STAT.VALID] u ((u.set POS.lfAB 1 a).set POS.XCHK_STAT.VALID v (s.lead a)) :=
    ((framed_refl (fs := []) u).setIn ha (by decide) |>.setIn (lead_lt s ha) (by decide)).rows
  rw [trackLost, setBit, (hrest _ _).is_distinct ha (by decide)]
  exact is_set_one _ _ _ _ (by decide)

theorem rowsKept_trackLossCalls : RowsKept Touch.bivEnter1 s (s.trackLossCalls a) :=
  (Framed.ite (fs := [.events, .store]) (fun _ => framed_refl s) fun _ => .ite
    (fun _ => (framed_refl s).on fun _ => (framed_bivEnter s (by decide) _).mono (by decide)) fun _ => .ite
    (fun _ => (framed_bivEnter s (by decide) _).mono (by decide)) fun _ => (framed_callSafe s ha _).mono (by decide)).rows

/-- The loss of the track of an enabled axis calls it into the safe state, in joined mode that of the first axis with INC2 not valid (R79). -/
theorem getBit_trackLossCalls (hen : s.axEn (s.lead a) = true)
    (h : s.joined = false ∨ (a = 0 ∧ s.getBit POS.XCHK_STAT.VALID 4 0 = false)) :
    (s.trackLossCalls a).getBit BL.causeReq SsCause.incLost.bit a = true := by
  have hsecond : ¬(s.joined && a == 1) = true := by
    rcases h with h | ⟨rfl, -⟩
    · simp [h]
    · simp
  have hinc2 : ¬(s.joined && s.getBit POS.XCHK_STAT.VALID 4 0) = true := by
    rcases h with h | ⟨-, h⟩
    · simp [h]
    · simp [h]
  rw [trackLossCalls, if_neg (by rw [hen]; decide), if_neg hsecond, if_neg hinc2]
  exact getBit_callSafe s ha (by decide)

end

/-- The condition of A and B follows, at the Belay receiver of the track too (R72, R79). -/
def State.trackLine (s : State) (a : Nat) (present : Bool) : State := (s.setBit POS.lfInc 0 present a).setb BL.lineFlt present a

theorem rowsKept_trackLine (s : State) {a : Nat} (ha : a < 2) (present : Bool) : RowsKept [POS.lfInc, BL.lineFlt] s (s.trackLine a present) :=
  ((framed_refl (fs := []) s).setIn ha (by decide) |>.setIn ha (by decide)).rows

theorem trackLine_reads (s : State) {a : Nat} (ha : a < 2) (present : Bool) :
    (s.trackLine a present).getBit POS.lfInc 0 a = present ∧ (s.trackLine a present).is BL.lineFlt a = present := by
  refine ⟨?_, is_setb_self _ _ _ _ _ (by decide)⟩
  rw [trackLine, setb, (rowsKept_set_only _ (r := BL.lineFlt) ha (by decide)).getBit_distinct ha (by decide)]
  exact getBit_setBit _ _ _ _ _ (by decide)

theorem exec_lineFlt_cap (axis : Fin 2) (present : Bool) (s : State) : exec (.lineFlt axis 2 present) s =
    .next ((s.setb POS.lfCap present axis).on present (·.raise .warning POS.CAP_STAT.LINE_FLT axis)) := rfl

theorem exec_lineFlt_z (axis : Fin 2) (present : Bool) (s : State) : exec (.lineFlt axis 1 present) s =
    .next ((s.setBit POS.lfInc 1 present axis).on present (·.raise .warning POS.INC_STAT.LINE_FLT axis)) := rfl

theorem exec_lineFlt_track (axis : Fin 2) (present : Bool) (s : State) : exec (.lineFlt axis 0 present) s =
    .next ((s.trackLine axis present).on present fun t => (t.trackLost axis).trackLossCalls axis) := by
  cases present <;> rfl

/-- A line fault of A or B (R72, R79). -/
theorem lineFlt_track_reads (s : State) {a : Nat} (ha : a < 2) (present : Bool) {t : State}
    (ht : ((s.trackLine a present).on present fun t => (t.trackLost a).trackLossCalls a) = t) :
    t.getBit POS.lfInc 0 a = present ∧ t.is BL.lineFlt a = present ∧ (present = true → t.is POS.INC_STAT.LINE_FLT a = true) ∧
      (present = true → s.axEn (s.lead a) = true → s.joined = false ∨ (a = 0 ∧ s.getBit POS.XCHK_STAT.VALID 4 0 = false) →
        t.getBit BL.causeReq SsCause.incLost.bit a = true) := by
  have hline := rowsKept_trackLine s ha present
  have hlost := rowsKept_trackLost (s.trackLine a present) ha
  have hcalls := rowsKept_trackLossCalls ((s.trackLine a present).trackLost a) ha
  have hrest : RowsKept ([POS.INC_STAT.LINE_FLT, POS.lfAB, POS.XCHK_STAT.VALID] ++ Touch.bivEnter1) (s.trackLine a present) t :=
    ht ▸ rowsKept_on _ fun _ => (hlost.mono (by decide)).trans (hcalls.mono (by decide))
  obtain ⟨hbit, hflt⟩ := trackLine_reads s ha present
  refine ⟨?_, ?_, ?_, ?_⟩
  · rw [hrest.getBit_distinct ha (by decide)]
    exact hbit
  · rw [hrest.is_distinct ha (by decide)]
    exact hflt
  · rintro rfl
    rw [← ht]
    change (((s.trackLine a true).trackLost a).trackLossCalls a).is _ a = true
    rw [hcalls.is_distinct ha (by decide)]
    exact lineFlt_trackLost _ ha
  · rintro rfl hen h
    have hboth : RowsKept [POS.lfInc, BL.lineFlt, POS.INC_STAT.LINE_FLT, POS.lfAB, POS.XCHK_STAT.VALID] s ((s.trackLine a true).trackLost a) :=
      (hline.mono (by decide)).trans (hlost.mono (by decide))
    have hlead : ((s.trackLine a true).trackLost a).lead a = s.lead a := hboth.lead_eq (by decide) a
    rw [← ht]
    refine getBit_trackLossCalls _ ha ?_ ?_
    · rw [hlead, hboth.axEn_eq (lead_lt s ha) (by decide)]
      exact hen
    · rw [hboth.joined_eq (by decide)]
      refine h.imp id fun ⟨h0, hvalid⟩ => ⟨h0, ?_⟩
      subst h0
      have hone : ((s.trackLine 0 true).joined && (0 : Nat) == 1) = false := Bool.and_false _
      have hhead : (s.trackLine 0 true).lead 0 = 0 := by
        unfold lead
        split <;> rfl
      rw [trackLost, hone, hhead, if_neg (by decide), getBit_setBit_gt _ _ _ _ _ (by decide) (by decide),
        (rowsKept_set_only _ (r := POS.lfAB) (by decide) (by decide)).getBit_distinct (by decide) (by decide),
        (rowsKept_set_only _ (r := POS.INC_STAT.LINE_FLT) (by decide) (by decide)).getBit_distinct (by decide) (by decide),
        hline.getBit_distinct (by decide) (by decide)]
      exact hvalid

theorem exec_lineFlt (axis : Fin 2) (pair : Fin 3) (present : Bool) (s : State) : ∃ t, exec (.lineFlt axis pair present) s = .next t ∧
    (pair = 2 → t.is POS.lfCap axis = present ∧ (present = true → t.is POS.CAP_STAT.LINE_FLT axis = true)) ∧
    (pair = 1 → t.getBit POS.lfInc 1 axis = present ∧ (present = true → t.is POS.INC_STAT.LINE_FLT axis = true)) ∧
    (pair = 0 → t.getBit POS.lfInc 0 axis = present ∧ t.is BL.lineFlt axis = present ∧
      (present = true → t.is POS.INC_STAT.LINE_FLT axis = true)) ∧
    (pair = 0 → present = true → s.axEn (s.lead axis) = true →
      s.joined = false ∨ (axis = 0 ∧ s.getBit POS.XCHK_STAT.VALID 4 0 = false) →
      t.getBit BL.causeReq SsCause.incLost.bit axis = true) := by
  have ha := axis.isLt
  have hraise (u : State) {flag : Row} (hf : flag.c1 = 2 ∧ flag.c2 = 1) : RowsKept [flag, RING.lost] u
      (u.on present (·.raise .warning flag axis)) :=
    rowsKept_on _ fun _ => rowsKept_raise _ _ _ _ _ (by simp) (by simp) (by rw [hf.1]; exact ha) (by rw [hf.2]; decide)
  match pair with
  | 0 =>
    obtain ⟨hbit, hflt, hflag, hsafe⟩ := lineFlt_track_reads s ha present rfl
    refine ⟨_, exec_lineFlt_track axis present s, fun h => absurd h (by decide), fun h => absurd h (by decide),
      fun _ => ⟨hbit, hflt, hflag⟩, fun _ hp hen h => hsafe hp hen (h.imp id fun h => ⟨congrArg Fin.val h.1, h.2⟩)⟩
  | 1 =>
    refine ⟨_, exec_lineFlt_z axis present s, fun h => absurd h (by decide), fun _ => ⟨?_, ?_⟩, fun h => absurd h (by decide),
      fun h => absurd h (by decide)⟩
    · rw [(hraise _ ⟨rfl, rfl⟩).getBit_distinct ha (by decide)]
      exact getBit_setBit _ _ _ _ _ (by decide)
    · rintro rfl
      exact is_raise_channel _ _ ha (by decide)
  | 2 =>
    refine ⟨_, exec_lineFlt_cap axis present s, fun _ => ⟨?_, ?_⟩, fun h => absurd h (by decide), fun h => absurd h (by decide),
      fun h => absurd h (by decide)⟩
    · rw [(hraise _ ⟨rfl, rfl⟩).is_distinct ha (by decide)]
      exact is_setb_self _ _ _ _ _ (by decide)
    · rintro rfl
      exact is_raise_channel _ _ ha (by decide)

/-! ## The lost source (R78) -/

theorem disagree_comm (s : State) (a i j : Nat) : s.disagree a i j = s.disagree a j i := by
  rw [disagree, disagree, Nat.min_comm i j, Nat.max_comm i j]

/-- The source disagrees with every other one of the list, and the others, two at least, agree (R78). -/
def State.outvoted (s : State) (a : Nat) (v : List Nat) (k : Nat) : Bool :=
  let rest := v.filter (· != k)
  decide (2 ≤ rest.length) && rest.all (fun j => s.disagree a k j) && rest.all (fun i => rest.all fun j => i == j || !s.disagree a i j)

/-- The valid sources of an axis. -/
def State.validList (s : State) (a : Nat) : List Nat := (List.range 5).filter fun k => s.getBit POS.XCHK_STAT.VALID k a

/-- The first source of a list with a property is the only one that has it. -/
theorem find?_eq_some_of_unique {l : List Nat} {p : Nat → Bool} {x : Nat} (hx : x ∈ l ∧ p x = true) (h : ∀ y ∈ l, p y = true → y = x) :
    l.find? p = some x := by
  obtain ⟨y, hy⟩ := Option.isSome_iff_exists.1 (List.find?_isSome.2 ⟨x, hx⟩)
  rw [hy, h y (List.mem_of_find?_eq_some hy) (List.find?_some hy)]

/-- Of three sources the one that disagrees with two that agree is the only one outvoted (R78). -/
theorem find?_outvoted (s : State) (a : Nat) {v : List Nat} {i j k : Nat} (hv : ∀ n, n ∈ v ↔ n = i ∨ n = j ∨ n = k)
    (hne : i ≠ j ∧ i ≠ k ∧ j ≠ k) (hd : s.disagree a i j = true ∧ s.disagree a i k = true ∧ s.disagree a j k = false) :
    v.find? (s.outvoted a v) = some i := by
  obtain ⟨hij, hik, hjk⟩ := hne
  obtain ⟨dij, dik, djk⟩ := hd
  have hagree (x y : Nat) (hy : y ∈ v) (hxy : y ≠ x) (h : s.outvoted a v x = true) : s.disagree a x y = true := by
    simp only [outvoted, Bool.and_eq_true, List.all_eq_true] at h
    exact h.1.2 y (List.mem_filter.2 ⟨hy, bne_iff_ne.2 hxy⟩)
  refine find?_eq_some_of_unique ⟨(hv i).2 (.inl rfl), ?_⟩ fun x hx h => ?_
  · have hrest (n : Nat) : n ∈ v.filter (· != i) ↔ n = j ∨ n = k := by
      rw [List.mem_filter, hv, bne_iff_ne]
      constructor
      · rintro ⟨rfl | h, hn⟩
        · exact absurd rfl hn
        · exact h
      · rintro (rfl | rfl)
        · exact ⟨.inr (.inl rfl), hij.symm⟩
        · exact ⟨.inr (.inr rfl), hik.symm⟩
    have hlen : [j, k].length ≤ (v.filter (· != i)).length :=
      (List.Nodup.subperm (by simp [hjk]) fun n hn => (hrest n).2 (by simpa using hn)).length_le
    simp only [outvoted, Bool.and_eq_true, List.all_eq_true, decide_eq_true_eq, Bool.or_eq_true, beq_iff_eq, Bool.not_eq_true']
    refine ⟨⟨hlen, fun n hn => ?_⟩, fun m hm n hn => ?_⟩
    · rcases (hrest n).1 hn with rfl | rfl
      · exact dij
      · exact dik
    · rcases (hrest m).1 hm with rfl | rfl <;> rcases (hrest n).1 hn with rfl | rfl
      · exact .inl rfl
      · exact .inr djk
      · exact .inr ((disagree_comm s a _ _).trans djk)
      · exact .inl rfl
  · rcases (hv x).1 hx with rfl | rfl | rfl
    · rfl
    · exact absurd (hagree _ k ((hv k).2 (.inr (.inr rfl))) hjk.symm h) (by rw [djk]; decide)
    · exact absurd (hagree _ j ((hv j).2 (.inr (.inl rfl))) hjk h) (by rw [disagree_comm, djk]; decide)

theorem exec_sourceLost_of_outvoted (axis : Fin 2) (s : State) {k : Nat} (h : s.joined = false ∨ axis = 0)
    (hout : (s.validList axis).find? (s.outvoted axis (s.validList axis)) = some k) :
    exec (.sourceLost axis) s = .next ((s.setBit POS.XCHK_STAT.LOST k true axis).setBit POS.XCHK_STAT.VALID k false axis) := by
  have hmine : ¬(s.joined && decide (axis.val = 1)) = true := by
    rcases h with h | rfl
    · simp [h]
    · simp
  change execSourceLost axis s = _
  unfold execSourceLost
  extract_lets a v out
  have hv : v = s.validList axis := if_neg hmine
  have ho : out = some k := by
    rw [← hout, ← hv]
    rfl
  rw [ho]

theorem exec_sourceLost (axis : Fin 2) (i j k : Fin 5) (s : State) (h : s.joined = false ∨ axis = 0)
    (hv : i ≠ j ∧ i ≠ k ∧ j ≠ k ∧ ∀ n : Fin 5, s.getBit POS.XCHK_STAT.VALID n axis = (n == i || n == j || n == k))
    (hd : s.disagree axis i j = true ∧ s.disagree axis i k = true ∧ s.disagree axis j k = false) :
    ∃ t, exec (.sourceLost axis) s = .next t ∧ t.getBit POS.XCHK_STAT.LOST i axis = true ∧ t.getBit POS.XCHK_STAT.VALID i axis = false := by
  obtain ⟨hij, hik, hjk, hvalid⟩ := hv
  have hmem (n : Nat) : n ∈ s.validList axis ↔ n = i ∨ n = j ∨ n = k := by
    rw [validList, List.mem_filter, List.mem_range]
    constructor
    · rintro ⟨hn, hbit⟩
      have := (hvalid ⟨n, hn⟩).symm.trans hbit
      simpa [Fin.ext_iff, or_assoc] using this
    · intro hn
      have hlt : n < 5 := by omega
      refine ⟨hlt, (hvalid ⟨n, hlt⟩).trans ?_⟩
      simpa [Fin.ext_iff, or_assoc] using hn
  have hout := find?_outvoted s axis hmem ⟨Fin.val_ne_of_ne hij, Fin.val_ne_of_ne hik, Fin.val_ne_of_ne hjk⟩ hd
  refine ⟨_, exec_sourceLost_of_outvoted axis s h hout, ?_, getBit_setBit_false ..⟩
  rw [setBit, (rowsKept_set_only _ (r := POS.XCHK_STAT.VALID) axis.isLt (by decide)).getBit_distinct axis.isLt (by decide)]
  exact getBit_setBit_self _ _ _ _ i.isLt

/-! ## Pitons (R85) -/

theorem exec_posPitArm (axis : Fin 2) (sel : BitVec 4) (s : State) (hallow : s.pitAllowed = true) (hsel : 1 ≤ sel.toNat ∧ sel.toNat ≤ 5)
    (hpd : s.pdOn 3 = true) : ∃ t, exec (.posPitArm axis sel) s = .next t ∧
      t.is POS.PIT_CTL.ARM = true ∧ t.get BL.PIT_STAT.SOURCE = 0x17 ∧ t.get BL.PIT_STAT.SEL = sel.toNat := by
  have hexec : exec (.posPitArm axis sel) s = .next ((((s.set POS.PIT_CTL.SEL sel.toNat).set POS.PIT_CTL.AXIS axis.val).pitSet 0x17 sel.toNat
      axis 0).set POS.PIT_CTL.ARM 1) := by
    change Host.Outcome.next _ = _
    rw [hpd, if_neg (by decide), pitArm, decide_eq_true hsel, hallow]
    rfl
  have harm := fun u : State => rowsKept_set_only u (r := POS.PIT_CTL.ARM) (v := 1) (i := 0) (j := 0) (by decide) (by decide)
  obtain ⟨-, hsource, hsel'⟩ := pitSet_reads ((s.set POS.PIT_CTL.SEL sel.toNat).set POS.PIT_CTL.AXIS axis.val) 0x17 sel.toNat axis 0
  refine ⟨_, hexec, is_set_one _ _ _ _ (by decide), ?_, ?_⟩
  · rw [(harm _).get_distinct (by decide) (by decide)]
    exact hsource
  · rw [(harm _).get_distinct (by decide) (by decide), hsel']
    exact Nat.mod_eq_of_lt (Nat.lt_of_lt_of_le sel.isLt (by decide))

/-- Settles O12: each command's registers are read back through the rows that the rest of it leaves alone; the lost source by the vote of the
three that are valid. -/
theorem positionSourcesTakeTheirInputs : Obligations.PositionSourcesTakeTheirInputs := by
  unfold Obligations.PositionSourcesTakeTheirInputs
  exact ⟨exec_capRequest, exec_capFrame_bad, exec_capFrame_good,
    fun axis s hbusy => ⟨_, congrArg Host.Outcome.next (if_pos hbusy), capTmo_reads s axis.isLt⟩,
    fun axis s => ⟨_, rfl, is_set_zero ..⟩, exec_absLost, fun axis aLeads stamp s => exec_incEdge axis aLeads stamp s, exec_incIllegal,
    exec_incIndex, exec_reref, exec_lineFlt, exec_posStill, exec_sourceLost, exec_posPitArm⟩

end Sys2Proof.Machine
end

/-!
Table-switched torque control (04): the statement of the decision tick and the events of the sequencer (O13) fails at the tick, and so does the
frame of the sequencer, PWM, trip unit and decision tick commands (O49).
-/
section
namespace Sys2Proof.Machine

/-! ## A response to a slot whose controller is none of the block's, at a decision tick (R264, R308, R316) -/

/-- The word at an address lies below the row's first place, or above its last. -/
def Row.clearOf (addr : Nat) (r : Row) : Bool :=
  decide (r.lo < 32 ∧ ((r.eng = false ∧ addr < r.base) ∨
    r.base + (if r.eng then engBase 6 else r.s1 * (r.c1 - 1)) + r.s2 * (r.c2 - 1) < addr))

theorem engBase_le (e : Nat) : engBase e ≤ engBase 6 := by
  simp only [engBase]
  split_ifs <;> omega

theorem Row.key_ne_of_clearOf {r : Row} {key i j : Nat} (h : r.clearOf (key / 32) = true) (hi : i < r.c1) (hj : j < r.c2) :
    key ≠ r.key i j := by
  rintro rfl
  have hs1 := Nat.mul_le_mul_left r.s1 (Nat.le_sub_one_of_lt hi)
  have hs2 := Nat.mul_le_mul_left r.s2 (Nat.le_sub_one_of_lt hj)
  have heng := engBase_le i
  obtain ⟨hlo, h⟩ := of_decide_eq_true h
  have hword : r.key i j / 32 = r.addr i j := by simp only [key]; omega
  rw [hword, addr] at h
  rcases h with ⟨he, h⟩ | h
  · omega
  · split at h <;> omega

/-- The RWL fields of every block are clear of the place that a fifth CAN controller would have. -/
theorem blockRows_rwl_clearOf (addr : Nat) :
    ((blockRows addr).all fun r => r.acc != .rwl || r.clearOf (CAN.TXB_ACT.ACT.addr 4 0)) = true := by
  unfold blockRows
  iterate 20
    refine iteInduction (motive := fun l : List Row => (l.all fun r => r.acc != .rwl || r.clearOf (CAN.TXB_ACT.ACT.addr 4 0)) = true)
      (fun _ => by decide +kernel) fun _ => ?_
  decide +kernel

/-- An entry's images load RWL fields alone (R241). -/
theorem imaged_clearOf (r : Row) (h : r ∈ Touch.imaged) : r.clearOf (CAN.TXB_ACT.ACT.addr 4 0) = true := by
  obtain ⟨_, _, h⟩ := List.mem_flatMap.1 h
  obtain ⟨_, _, h⟩ := List.mem_flatMap.1 h
  obtain ⟨addr, _, h⟩ := List.mem_flatMap.1 h
  obtain ⟨f, hf, rfl⟩ := List.mem_map.1 h
  obtain ⟨hf, hacc⟩ := List.mem_filter.1 hf
  obtain ⟨q, hq, hf⟩ := List.mem_filterMap.1 hf
  split at hf
  · exact absurd hf nofun
  · obtain ⟨p, -, rfl⟩ := Option.map_eq_some_iff.1 hf
    have hclear := List.all_eq_true.1 (blockRows_rwl_clearOf addr) q hq
    rwa [eq_of_beq hacc] at hclear

theorem stagedIn_clearOf : ∀ r ∈ Touch.stagedIn, r.clearOf (CAN.TXB_ACT.ACT.addr 4 0) = true :=
  List.forall_mem_append.2 ⟨by decide +kernel, List.forall_mem_append.2
    ⟨List.forall_mem_append.2 ⟨by decide +kernel, by decide +kernel⟩, imaged_clearOf⟩⟩

/-- PD2 and PD6 are on, and a network DISABLE from slot 0 waits for no channel any more: it completes at the next decision tick. As in
`resetFromRewrittenSlot` the slot is not enabled, and its configuration reads CHAN 1 (CAN) and INST 4. -/
def disableFromRewrittenSlot : State :=
  ((resetFromRewrittenSlot.set BL.netOp 0x11).set BL.netArg 1).set ACT.disSrc 3

theorem txbAct_four_decisionTick_disableFromRewrittenSlot :
    ∃ t, exec .decisionTick disableFromRewrittenSlot = .next t ∧ t.get CAN.TXB_ACT.ACT 4 = 2 ^ 31 :=
  ⟨_, rfl, by decide +kernel⟩

/-- Refutes O49, by DECISION_TICK: the tick completes a network DISABLE with a response in buffer 31 of the controller that the slot's INST
names, without a check that there is one. With INST 4 it sets a bit of a TXB_ACT of controller 4, a place of no row of the list, where the
block has controllers 0 to 3. -/
theorem not_sequencerPwmAndTickFrames : ¬ Obligations.SequencerPwmAndTickFrames := by
  unfold Obligations.SequencerPwmAndTickFrames
  intro frame
  obtain ⟨t, hexec, hact⟩ := txbAct_four_decisionTick_disableFromRewrittenSlot
  obtain ⟨rowsKept, -, -⟩ := frame _ _ _ _ t rfl hexec
  have h := rowsKept CAN.TXB_ACT.ACT 4 0 fun q hq i hi j hj => Row.key_ne_of_clearOf (List.forall_mem_append.2
    ⟨List.forall_mem_append.2 ⟨by decide +kernel, stagedIn_clearOf⟩, by decide +kernel⟩ q hq) hi hj
  rw [hact] at h
  exact absurd h (by decide)

end Sys2Proof.Machine
end

section
namespace Sys2Proof.Machine

/-! ## A list of setpoints of a ring past the last, at a decision tick (R100, R267) -/

/-- A list of the ring with no entry left, which waits for the setpoint in hand to pass. -/
def listOfRing (n : Nat) : Play := { ring := n, left := [], accepted := 0, refused := false, waits := true }

/-- A descriptor with nothing in it. -/
def emptyDesc : Desc :=
  { op := 0, inl := true, fence := false, irq := false, preempt := false, tag := 0, len := 0, w0 := 0, w1 := 0, w2 := 0, w3 := 0 }

/-- All domains are on, nothing is staged, and axis A waits to swap in bank 1, whose entries are all 0 and pass the check. The flux of
65536 only keeps every angle exact, so that the tick evaluates. The list and the descriptor in progress are those of a ring 8949,
whose count of completions would lie at the first word of that bank (`RING.cplCount` and `SQ.tbl`). -/
def swapBesideListOfRing : State :=
  { (((State.reset.set SYS.PWR_STAT.PD_ON 0x3FF).set SQ.TBL_CTL.SWAP 1 0).set OB.psi 65536 0).set OB.psi 65536 1 with
    plays := [listOfRing 8949], descs := [(8949, emptyDesc)] }

theorem actBank_decisionTick_swapBesideListOfRing :
    ∃ t, exec .decisionTick swapBesideListOfRing = .next t ∧ t.get SQ.TBL_CTL.ACT_BANK 0 = 0 :=
  ⟨_, rfl, by decide +kernel⟩

/-- Refutes O13, by DECISION_TICK: the tick completes a list of setpoints that waits before it decides on the swap, and counts the completion
for the ring that the list names. The statement takes every state, so one whose list names ring 8949 too (the rings that play setpoints
lie below 32): there the count is written into the first entry of the bank to be swapped in, which then fails its check at the boundary,
and the bank in use stays. -/
theorem not_tableControlEventsTakeEffect : ¬ Obligations.TableControlEventsTakeEffect := by
  unfold Obligations.TableControlEventsTakeEffect
  rintro ⟨tick, -⟩
  obtain ⟨t, hexec, -, -, swap⟩ := tick swapBesideListOfRing
  obtain ⟨u, hexec', hbank⟩ := actBank_decisionTick_swapBesideListOfRing
  obtain rfl : t = u := Host.Outcome.next.inj (hexec.symm.trans hexec')
  obtain ⟨-, swapped, -⟩ := swap (by decide) (by decide) (by decide) (by decide) (by decide) (by decide)
  have h := swapped (by decide +kernel)
  rw [hbank] at h
  exact absurd h (by decide)

end Sys2Proof.Machine
end

section
namespace Sys2Proof.Machine

/-! ## A catch pulse that is due within a leg's minimum dwell (R101, R132) -/

/-- A catch pulse waits for the minimum dwell of every leg (R101). -/
theorem exec_catchPulse_of_dwell {axis : Fin 2} {s : State} {k : Nat} (hk : k < s.legs axis) (hdwell : s.is SQ.dwell axis k = true) :
    exec (.catchPulse axis) s = .next s := by
  have hany : (List.range (s.legs axis)).any (fun k => s.is SQ.dwell axis k) = true :=
    List.any_eq_true.2 ⟨k, List.mem_range.2 hk, hdwell⟩
  exact congrArg Host.Outcome.next (if_pos (by rw [hany, Bool.or_true]))

/-- Axis A in a catch by pulses, with a spacing of 10 ticks and a minimum dwell of 8, both within their ranges, when the next pulse is due:
10 ticks after the pulse before, whose legs could switch off at its eighth tick only and so have 6 ticks of dwell left. -/
def catchPulseDueWithinDwell : State :=
  (((((State.reset.set SQ.STATUS.MODE 1).set SQ.CATCH_STAT.METHOD 3).set SQ.CATCH_CFG.CATCH_PER 10).set SQ.MINP.MIN_TICKS 8).set
    SQ.pulseAge 10).forN 3 fun k t => t.set SQ.dwell 6 0 k

/-- Refutes O14, by CATCH_PULSE: the clause takes any axis that is neither tripped nor safe and has waited CATCH_PER ticks, and the command
also waits until no leg is in its minimum dwell (R101). Where a dwell outlasts the spacing the pulse does not begin. -/
theorem not_injectionTraverseAndCatchProceed : ¬ Obligations.InjectionTraverseAndCatchProceed := by
  unfold Obligations.InjectionTraverseAndCatchProceed
  rintro ⟨-, -, -, -, -, -, -, -, -, -, -, catchPulse, -⟩
  obtain ⟨t, hexec, hleft, -⟩ := catchPulse 0 catchPulseDueWithinDwell (by decide) (by decide)
  have hwaits : exec (.catchPulse 0) catchPulseDueWithinDwell = .next catchPulseDueWithinDwell :=
    exec_catchPulse_of_dwell (k := 0) (by decide) (by decide)
  obtain rfl := Host.Outcome.next.inj (hexec.symm.trans hwaits)
  exact absurd hleft (by decide)

end Sys2Proof.Machine
end

/-!
PWM units and trip units (06): the statement of their commands (O15) fails at the side of an aux leg while its bootstrap is refreshed.
-/
section
namespace Sys2Proof.Machine

/-! ## A leg at full duty whose bootstrap refresh is due (R141, R229) -/

theorem State.halfComp_of_minPw_zero {s : State} {pu : Nat} (hmin : s.is PU.MINPW.MIN_PW pu = false) (leg : Nat) :
    s.halfComp pu leg = s.get PU.CMP.CMP pu leg := by
  have hshort (w : Nat) : s.halfShort pu leg w = false := by rw [halfShort, hmin, Bool.false_and, Bool.false_and]
  rw [halfComp, hshort, hshort]
  rfl

/-- The low-side pulse of a refresh (R229): without the minimum-pulse check, a leg of an aux unit that is due for one has its edges formed
with a compare below PER, however high its own is. -/
theorem State.formed_lt_of_refresh {s : State} {pu leg : Nat} (hpu : 2 ≤ pu) (hmin : s.is PU.MINPW.MIN_PW pu = false)
    (hdue : s.getBit PU.refLegs leg pu = true) (hw : 0 < s.get AX.CH_BS.REF_W (pu - 2)) (hper : 0 < s.get PU.perAct pu)
    (hfull : s.get PU.perAct pu ≤ s.get PU.CMP.CMP pu leg) : s.formed pu leg < s.get PU.perAct pu := by
  have hshort : ¬4 * s.get AX.CH_BS.REF_W (pu - 2) + s.legDead pu leg ≤ 2 * (s.get PU.perAct pu - s.get PU.CMP.CMP pu leg) := by omega
  rw [formed, halfComp_of_minPw_zero hmin, if_neg (by simp [not_lt.2 hpu, hdue, hshort])]
  omega

/-- At the valley, on which a refresh is centred, its leg takes the low side. -/
theorem State.sideAt_valley_of_refresh {s : State} {pu leg t : Nat} (hpu : 2 ≤ pu) (hmin : s.is PU.MINPW.MIN_PW pu = false)
    (hdue : s.getBit PU.refLegs leg pu = true) (hw : 0 < s.get AX.CH_BS.REF_W (pu - 2)) (hper : 0 < s.get PU.perAct pu)
    (hfull : s.get PU.perAct pu ≤ s.get PU.CMP.CMP pu leg) (hvalley : s.cntAt pu t = 0) : s.sideAt pu leg t = false := by
  have hlow := formed_lt_of_refresh hpu hmin hdue hw hper hfull
  rw [sideAt, hvalley, Bool.or_eq_false_iff]
  exact ⟨decide_eq_false (by omega), decide_eq_false (by omega)⟩

/-- Aux channel 0 runs with a compare of PER on leg U and no minimum pulse, everything else as after reset; the seven periods between two
refreshes have passed. -/
def fullDutyBeforeRefresh : State :=
  ((((State.reset.set PU.CTL.RUN 1 2).set AX.CH_STAT.STATE 4 0).set PU.MINPW.MIN_PW 0 2).set PU.CMP.CMP 10000 2 0).set PU.bsN 7 2

/-- The peak decides on a refresh of leg U at the valley that follows, one PER later. -/
theorem exec_puReload_fullDutyBeforeRefresh : ∃ t, exec (.puReload 2 true 10000) fullDutyBeforeRefresh = .next t ∧
    (t.is PU.MINPW.MIN_PW 2 = false ∧ t.getBit PU.refLegs 0 2 = true ∧ 0 < t.get AX.CH_BS.REF_W 0 ∧ 0 < t.get PU.perAct 2) ∧
    t.get PU.perAct 2 ≤ t.get PU.CMP.CMP 2 0 ∧ t.cntAt 2 20000 = 0 :=
  ⟨_, rfl, by decide +kernel⟩

/-- Refutes O15, by the side that a compare of PER or more asks for: the clause takes any unit without a minimum pulse, and the refresh of an
aux unit's bootstrap lies outside that check (R229). A leg at full duty that is due for one takes the low side around the valley, so
that its high side is not asked for throughout. The state is what PU_RELOAD answers at the peak that decides on the refresh. -/
theorem not_pwmUnitsReloadCommitAndTrip : ¬ Obligations.PwmUnitsReloadCommitAndTrip := by
  unfold Obligations.PwmUnitsReloadCommitAndTrip
  rintro ⟨-, -, -, -, -, side, -⟩
  obtain ⟨s, -, ⟨hmin, hdue, hw, hper⟩, hfull, hvalley⟩ := exec_puReload_fullDutyBeforeRefresh
  have hlow : s.sideAt 2 0 20000 = false := State.sideAt_valley_of_refresh (by decide) hmin hdue hw hper hfull hvalley
  have hhigh : s.sideAt 2 0 20000 = true := (side 2 0 20000 s hmin).2 hfull
  exact Bool.false_ne_true (hlow.symm.trans hhigh)

end Sys2Proof.Machine
end

/-!
Control engines (07): what the engine instructions deliver (O16 to O18, O57, O58). The statement of the ports and of control flow (O19) fails
at an END that CE.OVR.PIT holds, and the frame of the control engine commands (O50) at a channel number of AX beyond its channels.
-/
section
namespace Sys2Proof.Machine

/-! ## The rows of one engine -/

/-- For every engine, its member of the row shares no place with its members of `rs`, nor with a row of `cs`. -/
def Row.engineApart (rs cs : List Row) (r : Row) : Bool := (List.range 7).all fun e => (rowsAt rs e cs).all (r.only e).apart

/-- What an instruction reads of its engine, and the flags that it may set. -/
def engineRows : List Row :=
  [CE.d, CE.dM, CE.a, CE.aM, CE.p, CE.pM, CE.c, CE.cM, CE.ld, CE.ldM, CE.COEF_WIN.WORD, CE.FF_CFG.HANDLE, CE.prog, CE.stop, CE.endHold,
    CE.FLAGS.SAT, CE.FLAGS.OVF, CE.FLAGS.DIV0, CE.FLAGS.ILLEGAL, CE.RP_STAT.RP_FAULT]

namespace State

theorem RowsKept.get_engine {rs cs : List Row} {s t : State} {e j : Nat} {r : Row} (h : RowsKept (rowsAt rs e cs) s t) (he : e < 7)
    (hr : r.engineApart rs cs = true ∧ j < r.c2) : t.get r e j = s.get r e j := by
  have hapart := List.all_eq_true.1 hr.1 e (List.mem_range.2 he)
  refine h r e j fun q hq a ha b hb => ?_
  rw [← Row.key_only r e 0 j]
  exact Row.key_ne_of_apart (List.all_eq_true.1 hapart q hq) Nat.one_pos hr.2 ha hb

theorem RowsKept.is_engine {rs cs : List Row} {s t : State} {e j : Nat} {r : Row} (h : RowsKept (rowsAt rs e cs) s t) (he : e < 7)
    (hr : r.engineApart rs cs = true ∧ j < r.c2) : t.is r e j = s.is r e j := by
  rw [is, is, h.get_engine he hr]

/-- The rows of `engineRows` read for engine `e` in `t` as in `s`. -/
def EngineKept (e : Fin 7) (s t : State) : Prop := ∀ r ∈ engineRows, ∀ j < r.c2, t.get r e j = s.get r e j

theorem RowsKept.engineKept {rs cs : List Row} {s t : State} {e : Fin 7} (h : RowsKept (rowsAt rs e cs) s t)
    (hr : engineRows.all (Row.engineApart rs cs) = true) : EngineKept e s t :=
  fun r hm _ hj => h.get_engine e.isLt ⟨List.all_eq_true.1 hr r hm, hj⟩

namespace EngineKept

variable {e : Fin 7} {s t : State} (h : EngineKept e s t)
include h

theorem get {r : Row} {j : Nat} (hr : r ∈ engineRows ∧ j < r.c2) : t.get r e j = s.get r e j := h r hr.1 j hr.2

theorem is {r : Row} {j : Nat} (hr : r ∈ engineRows ∧ j < r.c2) : t.is r e j = s.is r e j := by rw [State.is, State.is, h.get hr]

theorem dVal (n : Fin 16) : t.dVal e n = s.dVal e n :=
  congrArg (toSigned 16) (h.get (r := CE.d) ⟨by decide, n.isLt⟩)

theorem aVal (n : Fin 4) : t.aVal e n = s.aVal e n :=
  congrArg (toSigned 40) (h.get (r := CE.a) ⟨by decide, n.isLt⟩)

theorem dTag (n : Fin 16) : t.dTag e n = s.dTag e n :=
  congrArg (bit · 0) (h.get (r := CE.dM) ⟨by decide, n.isLt⟩)

theorem ldWord (w : Nat) : t.ldWord e w = s.ldWord e w :=
  congrArg (toSigned 16) (h.get (r := CE.ld) (j := w % 16384) ⟨by decide, Nat.mod_lt w (by decide)⟩)

theorem coef (k : Nat) : t.geti CE.COEF_WIN.WORD e (k % 256) = s.geti CE.COEF_WIN.WORD e (k % 256) :=
  congrArg (toSigned 16) (h.get (r := CE.COEF_WIN.WORD) (j := k % 256) ⟨by decide, Nat.mod_lt k (by decide)⟩)

theorem pReg (p : Fin 8) : t.get CE.p e p = s.get CE.p e p := h.get ⟨by decide, p.isLt⟩

theorem pTag (p : Fin 8) : t.is CE.pM e p = s.is CE.pM e p := h.is ⟨by decide, p.isLt⟩

theorem coefWord (p : Fin 8) (k : Nat) : t.coefWord e p k = s.coefWord e p k := by
  rw [State.coefWord, State.coefWord, h.pReg, h.coef]

end EngineKept

/-! ## How an instruction runs (R167, R170, R180) -/

theorem framed_perfAdd (s : State) (source inst event n : Nat) :
    Framed Touch.perfAdd [.events, .store, .out] s (s.perfAdd source inst event n) := by
  unfold perfAdd
  refine .ite (fun _ => framed_refl s) fun _ => (framed_refl s).forN fun k u hk => .ite (fun _ => ?_) fun _ => framed_refl u
  refine (((framed_refl u).setIn hk (by decide)).setIn hk (by decide)).on fun _ => ?_
  exact ((framed_refl _).raiseBit (by decide) (by decide)).on fun _ => (framed_refl _).send (by decide)

theorem framed_engCount (s : State) (e event n : Nat) : Framed Touch.perfAdd [.events, .store, .out] s (s.engCount e event n) :=
  .ite (fun _ => framed_perfAdd ..) fun _ => framed_perfAdd ..

theorem framed_engSign (s : State) (e : Nat) (xs : List Int) : Framed (rowsAt [CE.sig] e []) [] s (s.engSign e xs) :=
  (framed_refl s).on fun _ => (framed_refl s).setAt (by decide)

/-- The rows of the engine that the fetch of an instruction writes. -/
def fetchRows : List Row := [CE.stepOnce, CE.sig, CE.cyc, CE.total]

theorem framed_engFetch (s : State) (e cycles : Nat) :
    Framed (rowsAt fetchRows e Touch.perfAdd) [.events, .store, .out] s (s.engFetch e cycles) := by
  have hsign := ((framed_refl s).setAt (r := CE.stepOnce) (v := 0) (by decide)).andAt (framed_engSign (s.set CE.stepOnce 0 e) e [s.get CE.pc e])
    (rs := fetchRows) (cs := Touch.perfAdd) (fs := [.events, .store, .out]) (by decide)
  exact (((hsign.setAt (by decide)).setAt (by decide)).shared (framed_engCount ..) (by simp)).shared (framed_engCount ..) (by simp)

theorem engineKept_engFetch (s : State) (e : Fin 7) (cycles : Nat) : EngineKept e s (s.engFetch e cycles) :=
  (framed_engFetch s e cycles).rows.engineKept (by decide)

theorem rowsKept_engNext (s : State) (e : Nat) : RowsKept (rowsAt [CE.pc] e []) s (s.engNext e) := by
  have hset (v : Nat) : RowsKept (rowsAt [CE.pc] e []) s (s.set CE.pc v e) :=
    ((framed_refl s).setAt (fs := []) (by decide)).rows
  unfold engNext
  extract_lets pc
  split
  · split
    · extract_lets rest
      split <;> exact hset _
    · exact hset _
  · exact hset _

theorem engineKept_engNext (s : State) (e : Fin 7) : EngineKept e s (s.engNext e) := (rowsKept_engNext s e).engineKept (by decide)

theorem engRun_of_on {s : State} {e : Nat} (h : s.engOn e = true) (cycles : Nat) (f : State → State) :
    s.engRun e cycles f = (f (s.engFetch e cycles)).engNext e := if_pos h

theorem engJump_of_on {s : State} {e : Nat} (h : s.engOn e = true) (cycles : Nat) (f : State → State) :
    s.engJump e cycles f = f (s.engFetch e cycles) := if_pos h

theorem engOn_reads {s : State} {e : Nat} (h : s.engOn e = true) : s.is CE.prog e = true ∧ s.is CE.stop e = false := by
  simp only [engOn, Bool.and_eq_true, Bool.not_eq_true'] at h
  exact ⟨h.1.1.2, h.1.2⟩

end State

/-! ## The number formats (R164, R165) -/

theorem toSigned_eq (k v : Nat) : toSigned (k + 1) v =
    if v % (2 * 2 ^ k) < 2 ^ k then ((v % (2 * 2 ^ k) : Nat) : Int) else (v % (2 * 2 ^ k) : Nat) - (2 * 2 ^ k : Nat) := by
  simp [toSigned, pow_succ']

theorem ofSigned_eq (k : Nat) (x : Int) : ofSigned (k + 1) x = (x % (2 * 2 ^ k : Nat)).toNat := by
  simp [ofSigned, pow_succ']

theorem toSigned_bounds (k v : Nat) : -2 ^ k ≤ toSigned (k + 1) v ∧ toSigned (k + 1) v < 2 ^ k := by
  have hv : v % (2 * 2 ^ k) < 2 * 2 ^ k := Nat.mod_lt v (by positivity)
  have hcast : ((2 ^ k : Nat) : Int) = 2 ^ k := by norm_cast
  rw [toSigned_eq]
  split <;> omega

/-- A number within the bounds of its format is what its pattern reads as. -/
theorem toSigned_ofSigned {k : Nat} {x : Int} (hx : -2 ^ k ≤ x ∧ x < 2 ^ k) : toSigned (k + 1) (ofSigned (k + 1) x) = x := by
  have hcast : ((2 ^ k : Nat) : Int) = 2 ^ k := by norm_cast
  rw [← hcast] at hx
  rw [toSigned_eq, ofSigned_eq]
  clear hcast
  generalize 2 ^ k = p at *
  rcases lt_or_ge x 0 with h | h
  · have hmod : x % (2 * p : Nat) = x + (2 * p : Nat) := by
      rw [← Int.add_emod_right, Int.emod_eq_of_lt (by omega) (by omega)]
    rw [hmod, Nat.mod_eq_of_lt (by omega)]
    split <;> omega
  · rw [Int.emod_eq_of_lt h (by omega), Nat.mod_eq_of_lt (by omega)]
    split <;> omega

/-- The pattern of the number that `v` reads as is `v`. -/
theorem ofSigned_toSigned {k v : Nat} (hv : v < 2 * 2 ^ k) : ofSigned (k + 1) (toSigned (k + 1) v) = v := by
  rw [ofSigned_eq, toSigned_eq, Nat.mod_eq_of_lt hv]
  split
  · rw [Int.emod_eq_of_lt (by omega) (by omega)]; omega
  · rw [Int.sub_emod_right, Int.emod_eq_of_lt (by omega) (by omega)]; omega

theorem ofSigned_lt (k : Nat) (x : Int) : ofSigned (k + 1) x < 2 * 2 ^ k := by
  have := Int.emod_lt_of_pos x (b := ((2 * 2 ^ k : Nat) : Int)) (by positivity)
  have hpos : 0 < 2 * 2 ^ k := by positivity
  rw [ofSigned_eq]
  omega

theorem ofSigned_natCast (w n : Nat) : ofSigned w n = n % 2 ^ w := by
  rw [ofSigned]
  norm_cast

theorem satI_bounds (k : Nat) (x : Int) : -2 ^ k ≤ satI (k + 1) x ∧ satI (k + 1) x < 2 ^ k := by
  have : (0 : Int) < 2 ^ k := by positivity
  simp only [satI, clampI, Nat.add_sub_cancel]
  split_ifs <;> omega

/-- Saturation leaves alone what fits. -/
theorem satI_eq {k : Nat} {x : Int} (hx : -2 ^ k ≤ x ∧ x < 2 ^ k) : satI (k + 1) x = x := by
  simp only [satI, clampI, Nat.add_sub_cancel]
  split_ifs <;> omega

theorem clampI_eq_max_min {lo hi : Int} (h : lo ≤ hi) (x : Int) : clampI lo hi x = max lo (min x hi) := by
  simp only [clampI]
  split_ifs <;> omega

theorem mul_bounds {a b : Int} (ha : -32768 ≤ a ∧ a < 32768) (hb : -32768 ≤ b ∧ b < 32768) : -2 ^ 39 ≤ a * b ∧ a * b < 2 ^ 39 := by
  have h : |a * b| ≤ 32768 * 32768 := by
    rw [abs_mul]
    exact mul_le_mul (abs_le.2 (by omega)) (abs_le.2 (by omega)) (abs_nonneg b) (by decide)
  have := abs_le.1 h
  omega

theorem ediv_two_pow_bounds {k : Nat} {x : Int} (hx : -2 ^ k ≤ x ∧ x < 2 ^ k) (n : Nat) : -2 ^ k ≤ x / 2 ^ n ∧ x / 2 ^ n < 2 ^ k := by
  have hn : (0 : Int) < 2 ^ n := by positivity
  have hk : (0 : Int) < 2 ^ k := by positivity
  constructor
  · exact (Int.le_ediv_iff_mul_le hn).2 (by nlinarith)
  · exact (Int.ediv_lt_iff_lt_mul hn).2 (by nlinarith)

namespace State

theorem dVal_bounds (s : State) (e n : Nat) : -2 ^ 15 ≤ s.dVal e n ∧ s.dVal e n < 2 ^ 15 := toSigned_bounds 15 _

theorem aVal_bounds (s : State) (e n : Nat) : -2 ^ 39 ≤ s.aVal e n ∧ s.aVal e n < 2 ^ 39 := toSigned_bounds 39 _

theorem ldWord_bounds (s : State) (e w : Nat) : -2 ^ 15 ≤ s.ldWord e w ∧ s.ldWord e w < 2 ^ 15 := toSigned_bounds 15 _

theorem coef_bounds (s : State) (e k : Nat) : -2 ^ 15 ≤ s.geti CE.COEF_WIN.WORD e k ∧ s.geti CE.COEF_WIN.WORD e k < 2 ^ 15 := toSigned_bounds 15 _

/-- A data register's pattern is that of its value. -/
theorem get_d_eq (s : State) (e n : Nat) : s.get CE.d e n = ofSigned 16 (s.dVal e n) := (ofSigned_toSigned (get_lt s CE.d e n)).symm

/-- A row reads the signed number that was written into it, if that is within its bounds. -/
theorem geti_seti (s : State) {r : Row} {k : Nat} (hw : r.width = k + 1) {x : Int} (hx : -2 ^ k ≤ x ∧ x < 2 ^ k) (i j : Nat) :
    (s.seti r x i j).geti r i j = x := by
  rw [geti, seti_eq, get_set_self, hw, Nat.mod_eq_of_lt (pow_succ' 2 k ▸ ofSigned_lt k x), toSigned_ofSigned hx]

/-! ## The results of an instruction (R165, R179) -/

theorem key_ne_of_elem_ne (r : Row) (hs : 0 < r.s2) (i : Nat) {a b : Nat} (h : a ≠ b) : r.key i a ≠ r.key i b := by
  intro e
  have : r.s2 * a = r.s2 * b := by simp only [Row.key, Row.addr] at e; omega
  exact h (Nat.eq_of_mul_eq_mul_left hs this)

theorem rowsKept_setMember (s : State) {r : Row} (v e : Nat) {j : Nat} (hj : j < r.c2) : RowsKept (rowsAt [r] e []) s (s.set r v e j) :=
  ((framed_refl s).setAt (fs := []) ⟨by simp, hj⟩).rows

section
variable (s : State) (e : Fin 7)

theorem framed_putD (n : Fin 16) (v : Int) (tag clamped ovf : Bool) :
    Framed (rowsAt [CE.d, CE.dM] e []) [] s (s.putD e n v tag clamped ovf) :=
  ((framed_refl s).setAt ⟨by decide, n.isLt⟩).setAt ⟨by decide, n.isLt⟩

theorem get_putD (n : Fin 16) (v : Int) (tag clamped ovf : Bool) :
    (s.putD e n v tag clamped ovf).get CE.d e n = ofSigned 16 v % 2 ^ 16 ∧
    (s.putD e n v tag clamped ovf).get CE.dM e n = (ofBool (tag && isRope e) + 2 * ofBool clamped + 4 * ofBool ovf) % 2 ^ 3 := by
  exact ⟨((rowsKept_setMember _ _ _ n.isLt).get_engine e.isLt ⟨by decide, n.isLt⟩).trans (get_set_self ..), get_set_self ..⟩

theorem dVal_putD (n : Fin 16) {v : Int} (hv : -2 ^ 15 ≤ v ∧ v < 2 ^ 15) (tag clamped ovf : Bool) :
    (s.putD e n v tag clamped ovf).dVal e n = v := by
  rw [dVal, geti, putD, (rowsKept_setMember _ _ _ n.isLt).get_engine e.isLt ⟨by decide, n.isLt⟩]
  exact geti_seti s rfl hv e n

theorem dTag_putD (n : Fin 16) (v : Int) (tag clamped ovf : Bool) : (s.putD e n v tag clamped ovf).dTag e n = (tag && isRope e) := by
  rw [dTag, getBit, (get_putD s e n v tag clamped ovf).2]
  cases tag && isRope e <;> cases clamped <;> cases ovf <;> rfl

/-- Another data register reads as before. -/
theorem dVal_putD_ne {n m : Fin 16} (h : n ≠ m) (v : Int) (tag clamped ovf : Bool) :
    (s.putD e n v tag clamped ovf).dVal e m = s.dVal e m := by
  refine congrArg (toSigned 16) (((rowsKept_setMember _ _ _ n.isLt).get_engine (r := CE.d) e.isLt ⟨by decide, m.isLt⟩).trans ?_)
  exact get_set_ne _ _ _ _ _ _ (key_ne_of_elem_ne CE.d (by decide) e fun h' => h (Fin.ext h'))

theorem framed_satFlag (flag : Row) (c : Bool) (hflag : 0 < flag.c2) :
    Framed (rowsAt [flag] e [RING.lost]) [.events, .store] s (s.on c (·.raise .warning flag e)) :=
  (framed_refl s).on fun _ => (framed_refl s).raiseAt ⟨by simp, hflag⟩ (by decide)

theorem is_raise_engine (c : EvClass) (inst : Nat) {flag : Row} (hw : 1 < 2 ^ flag.width)
    (h : flag.engineApart [] [RING.lost] = true ∧ 0 < flag.c2) : (s.raise c flag e 0 inst).is flag e = true := by
  unfold State.raise
  split
  · assumption
  · rw [State.is, RowsKept.get_engine (rs := []) (rowsKept_event (rs := [RING.lost]) _ _ _ _ _ _ _ (by decide)) e.isLt h, ← State.is]
    exact is_set_one _ _ _ _ hw

/-- A result clamped into a data register. -/
theorem satD_reads (n : Fin 16) (x : Int) (tag ovf : Bool) : (s.satD e n x tag ovf).dVal e n = sat16 x ∧
    (s.satD e n x tag ovf).dTag e n = (tag && isRope e) ∧ (sat16 x ≠ x → (s.satD e n x tag ovf).is CE.FLAGS.SAT e = true) := by
  unfold satD
  extract_lets c
  have hk := (framed_satFlag (s.putD e n (sat16 x) tag c ovf) e CE.FLAGS.SAT c (by decide)).rows
  refine ⟨?_, ?_, fun h => ?_⟩
  · exact (congrArg (toSigned 16) (hk.get_engine (r := CE.d) e.isLt ⟨by decide, n.isLt⟩)).trans (dVal_putD s e n (satI_bounds 15 x) ..)
  · exact (congrArg (bit · 0) (hk.get_engine (r := CE.dM) e.isLt ⟨by decide, n.isLt⟩)).trans (dTag_putD s e n ..)
  · rw [show c = true from decide_eq_true h]
    exact is_raise_engine _ _ _ _ (by decide) (by decide)

theorem framed_satD (n : Fin 16) (x : Int) (tag ovf : Bool) :
    Framed (rowsAt [CE.FLAGS.SAT, CE.d, CE.dM] e [RING.lost]) [.events, .store] s (s.satD e n x tag ovf) :=
  ((framed_refl s).andAt (framed_putD s e n ..) (by decide)).andAt (framed_satFlag _ e CE.FLAGS.SAT _ (by decide)) (by decide)

/-- Clamping into one data register leaves the others. -/
theorem dVal_satD_ne {n m : Fin 16} (h : n ≠ m) (x : Int) (tag ovf : Bool) : (s.satD e n x tag ovf).dVal e m = s.dVal e m := by
  have hk := (framed_satFlag (s.putD e n (sat16 x) tag (decide (sat16 x ≠ x)) ovf) e CE.FLAGS.SAT (decide (sat16 x ≠ x)) (by decide)).rows
  exact (congrArg (toSigned 16) (hk.get_engine (r := CE.d) e.isLt ⟨by decide, m.isLt⟩)).trans (dVal_putD_ne s e h ..)

/-- A result clamped into an accumulator. -/
theorem satA_reads (n : Fin 4) (x : Int) (tag ovf : Bool) : (s.satA e n x tag ovf).aVal e n = satI 40 x ∧
    (satI 40 x ≠ x → (s.satA e n x tag ovf).is CE.FLAGS.OVF e = true) := by
  unfold satA
  extract_lets c
  have hflag (t : State) := (framed_satFlag t e CE.FLAGS.OVF c (by decide)).rows
  refine ⟨?_, fun h => ?_⟩
  · rw [aVal, geti, (hflag _).get_engine e.isLt ⟨by decide, n.isLt⟩, (rowsKept_setMember _ _ _ n.isLt).get_engine e.isLt ⟨by decide, n.isLt⟩]
    exact geti_seti s rfl (satI_bounds 39 x) e n
  · rw [show c = true from decide_eq_true h]
    exact is_raise_engine _ _ _ _ (by decide) (by decide)

theorem c_putC (n : Fin 4) (b tag : Bool) : (s.putC e n b tag).is CE.c e n = b ∧ (s.putC e n b tag).is CE.cM e n = (tag && isRope e) :=
  ⟨((rowsKept_setMember _ _ _ n.isLt).is_engine e.isLt ⟨by decide, n.isLt⟩).trans (is_setb_self _ _ _ _ _ (by decide)),
    is_setb_self _ _ _ _ _ (by decide)⟩

theorem p_putP (n : Fin 8) (v : Nat) (tag : Bool) : (s.putP e n v tag).get CE.p e n = v % 2 ^ 15 ∧
    (s.putP e n v tag).is CE.pM e n = (tag && isRope e) :=
  ⟨((rowsKept_setMember _ _ _ n.isLt).get_engine e.isLt ⟨by decide, n.isLt⟩).trans (get_set_self ..), is_setb_self _ _ _ _ _ (by decide)⟩

/-- Two results: where both go into one register the second stands. -/
theorem engPair_reads (d1 d2 : Fin 16) (v : Int × Int) (tag : Bool) : (s.engPair e d1 d2 v tag).dVal e d2 = sat16 v.2 ∧
    (d1 ≠ d2 → (s.engPair e d1 d2 v tag).dVal e d1 = sat16 v.1) :=
  ⟨(satD_reads _ e d2 v.2 tag false).1,
    fun h => (dVal_satD_ne _ e h.symm v.2 tag false).trans (satD_reads s e d1 v.1 tag false).1⟩

/-! Stores -/

/-- The word of local data that an address register points to, `off` words on. -/
def storeWord (p : Fin 8) (off : Nat) : Nat := (s.get CE.p e p + 2 * off) / 2 % 16384

/-- A store through an untagged address (R179 to R181) writes the word, and no other. -/
theorem engStore_reads (p : Fin 8) (off : Nat) {v : Int} (hv : -2 ^ 15 ≤ v ∧ v < 2 ^ 15) (tag : Bool) (hstop : s.is CE.stop e = false)
    (hp : s.is CE.pM e p = false) : RowsKept (rowsAt [CE.sig, CE.ld, CE.ldM] e []) s (s.engStore e p off v tag) ∧
    ∀ k, (s.engStore e p off v tag).ldWord e k = if k % 16384 = s.storeWord e p off then v else s.ldWord e k := by
  have hw : s.storeWord e p off < 16384 := Nat.mod_lt _ (by decide)
  have heq : s.engStore e p off v tag = ((s.on (!tag && !s.ldTag e (s.storeWord e p off))
      (·.engSign e [((s.get CE.p e p + 2 * off : Nat) : Int), v])).seti CE.ld v e (s.storeWord e p off)).setb CE.ldM (tag && isRope e) e
      (s.storeWord e p off) := by
    simp only [engStore, hstop, hp, Bool.and_false, Bool.false_and, Bool.false_eq_true, if_false]
    rfl
  have hsign : Framed (rowsAt [CE.sig] e []) [] s
      (s.on (!tag && !s.ldTag e (s.storeWord e p off)) (·.engSign e [((s.get CE.p e p + 2 * off : Nat) : Int), v])) :=
    (framed_refl s).on fun _ => framed_engSign ..
  rw [heq]
  generalize s.storeWord e p off = w at hw hsign
  generalize s.on (!tag && !s.ldTag e w) (·.engSign e [((s.get CE.p e p + 2 * off : Nat) : Int), v]) = u at hsign
  have hread (k : Nat) : ((u.seti CE.ld v e w).setb CE.ldM (tag && isRope e) e w).ldWord e k = (u.seti CE.ld v e w).ldWord e k :=
    congrArg (toSigned 16) ((rowsKept_setMember _ _ _ hw).get_engine (r := CE.ld) e.isLt ⟨by decide, Nat.mod_lt _ (by decide)⟩)
  refine ⟨((((framed_refl s).andAt (fs := []) hsign (by decide)).setAt ⟨by decide, hw⟩).setAt ⟨by decide, hw⟩).rows, fun k => ?_⟩
  rw [hread]
  split
  case isTrue hk =>
    rw [ldWord, hk]
    exact geti_seti u rfl hv e w
  case isFalse hk =>
    refine congrArg (toSigned 16) ?_
    rw [seti_eq, get_set_ne _ _ _ _ _ _ (key_ne_of_elem_ne CE.ld (by decide) e (Ne.symm hk))]
    exact hsign.rows.get_engine e.isLt ⟨by decide, Nat.mod_lt _ (by decide)⟩

end
/-! ## What an instruction of an engine that executes delivers -/

section
variable {s : State} {e : Fin 7} (hon : s.engOn e = true) {cycles : Nat} {f : State → State}
include hon

/-- The instruction works on what the engine held, and the step to the next one leaves its result. -/
theorem engRun_reads : ∃ u, EngineKept e s u ∧ EngineKept e (f u) (s.engRun e cycles f) := by
  rw [engRun_of_on hon]
  exact ⟨_, engineKept_engFetch s e cycles, engineKept_engNext _ e⟩

theorem engRun_satD {n : Fin 16} {x : Int} (hf : ∀ u, EngineKept e s u → ∃ tag ovf, f u = u.satD e n x tag ovf) :
    (s.engRun e cycles f).dVal e n = sat16 x ∧ (sat16 x ≠ x → (s.engRun e cycles f).is CE.FLAGS.SAT e = true) ∧
      (s.engRun e cycles f).is CE.prog e = true := by
  obtain ⟨u, hu, ht⟩ := engRun_reads hon (cycles := cycles) (f := f)
  obtain ⟨tag, ovf, hfu⟩ := hf u hu
  rw [hfu] at ht
  obtain ⟨hval, -, hsat⟩ := satD_reads u e n x tag ovf
  have hprog := (framed_satD u e n x tag ovf).rows.is_engine (r := CE.prog) (j := 0) e.isLt (by decide)
  exact ⟨(ht.dVal n).trans hval, fun h => (ht.is (by decide)).trans (hsat h),
    (ht.is (by decide)).trans (hprog.trans ((hu.is (by decide)).trans (engOn_reads hon).1))⟩

theorem engRun_satA {n : Fin 4} {x : Int} (hf : ∀ u, EngineKept e s u → ∃ tag ovf, f u = u.satA e n x tag ovf) :
    (s.engRun e cycles f).aVal e n = satI 40 x ∧ (satI 40 x ≠ x → (s.engRun e cycles f).is CE.FLAGS.OVF e = true) := by
  obtain ⟨u, hu, ht⟩ := engRun_reads hon (cycles := cycles) (f := f)
  obtain ⟨tag, ovf, hfu⟩ := hf u hu
  rw [hfu] at ht
  obtain ⟨hval, hovf⟩ := satA_reads u e n x tag ovf
  exact ⟨(ht.aVal n).trans hval, fun h => (ht.is (by decide)).trans (hovf h)⟩

theorem engRun_putD {n : Fin 16} {v : Int} (hv : -2 ^ 15 ≤ v ∧ v < 2 ^ 15)
    (hf : ∀ u, EngineKept e s u → ∃ tag clamped ovf, f u = u.putD e n v tag clamped ovf) : (s.engRun e cycles f).dVal e n = v ∧
      (s.engRun e cycles f).is CE.prog e = true := by
  obtain ⟨u, hu, ht⟩ := engRun_reads hon (cycles := cycles) (f := f)
  obtain ⟨tag, clamped, ovf, hfu⟩ := hf u hu
  rw [hfu] at ht
  have hprog := (framed_putD u e n v tag clamped ovf).rows.is_engine (r := CE.prog) (j := 0) e.isLt (by decide)
  exact ⟨(ht.dVal n).trans (dVal_putD u e n hv ..),
    (ht.is (by decide)).trans (hprog.trans ((hu.is (by decide)).trans (engOn_reads hon).1))⟩

theorem engRun_putC {n : Fin 4} {b tag : Bool} (hf : ∀ u, EngineKept e s u → f u = u.putC e n b tag) :
    (s.engRun e cycles f).is CE.c e n = b ∧ (s.engRun e cycles f).is CE.cM e n = (tag && isRope e) := by
  obtain ⟨u, hu, ht⟩ := engRun_reads hon (cycles := cycles) (f := f)
  rw [hf u hu] at ht
  obtain ⟨hval, htag⟩ := c_putC u e n b tag
  exact ⟨(ht.is ⟨by decide, n.isLt⟩).trans hval, (ht.is ⟨by decide, n.isLt⟩).trans htag⟩

theorem engRun_putP {n : Fin 8} {v : Nat} {tag : Bool} (hf : ∀ u, EngineKept e s u → f u = u.putP e n v tag) :
    (s.engRun e cycles f).get CE.p e n = v % 2 ^ 15 ∧ (s.engRun e cycles f).is CE.pM e n = (tag && isRope e) := by
  obtain ⟨u, hu, ht⟩ := engRun_reads hon (cycles := cycles) (f := f)
  rw [hf u hu] at ht
  obtain ⟨hval, htag⟩ := p_putP u e n v tag
  exact ⟨(ht.get ⟨by decide, n.isLt⟩).trans hval, (ht.is ⟨by decide, n.isLt⟩).trans htag⟩

theorem engRun_engPair {d1 d2 : Fin 16} {v : Int × Int} (hf : ∀ u, EngineKept e s u → ∃ tag, f u = u.engPair e d1 d2 v tag) :
    (s.engRun e cycles f).dVal e d2 = sat16 v.2 ∧ (d1 ≠ d2 → (s.engRun e cycles f).dVal e d1 = sat16 v.1) := by
  obtain ⟨u, hu, ht⟩ := engRun_reads hon (cycles := cycles) (f := f)
  obtain ⟨tag, hfu⟩ := hf u hu
  rw [hfu] at ht
  obtain ⟨hsecond, hfirst⟩ := engPair_reads u e d1 d2 v tag
  exact ⟨(ht.dVal d2).trans hsecond, fun h => (ht.dVal d1).trans (hfirst h)⟩

/-! The shapes of the arithmetic instructions -/

theorem engRun_engBin_d (op : Int → Int → Int) (n x y : Fin 16) :
    (s.engRun e cycles fun t => t.engBin e (.d n x y) op).dVal e n = sat16 (op (s.dVal e x) (s.dVal e y)) ∧
    (sat16 (op (s.dVal e x) (s.dVal e y)) ≠ op (s.dVal e x) (s.dVal e y) →
      (s.engRun e cycles fun t => t.engBin e (.d n x y) op).is CE.FLAGS.SAT e = true) :=
  (engRun_satD hon fun u hu => ⟨_, _, by rw [← hu.dVal x, ← hu.dVal y]; rfl⟩).imp_right And.left

theorem engRun_engBin_a (op : Int → Int → Int) (n x y : Fin 4) :
    (s.engRun e cycles fun t => t.engBin e (.a n x y) op).aVal e n = satI 40 (op (s.aVal e x) (s.aVal e y)) ∧
    (satI 40 (op (s.aVal e x) (s.aVal e y)) ≠ op (s.aVal e x) (s.aVal e y) →
      (s.engRun e cycles fun t => t.engBin e (.a n x y) op).is CE.FLAGS.OVF e = true) :=
  engRun_satA hon fun u hu => ⟨_, _, by rw [← hu.aVal x, ← hu.aVal y]; rfl⟩

theorem engRun_engUn_d (op : Int → Int) (n x : Fin 16) :
    (s.engRun e cycles fun t => t.engUn e (.d n x) op).dVal e n = sat16 (op (s.dVal e x)) ∧
    (sat16 (op (s.dVal e x)) ≠ op (s.dVal e x) → (s.engRun e cycles fun t => t.engUn e (.d n x) op).is CE.FLAGS.SAT e = true) :=
  (engRun_satD hon fun u hu => ⟨_, _, by rw [← hu.dVal x]; rfl⟩).imp_right And.left

theorem engRun_engUn_a (op : Int → Int) (n x : Fin 4) :
    (s.engRun e cycles fun t => t.engUn e (.a n x) op).aVal e n = satI 40 (op (s.aVal e x)) :=
  (engRun_satA hon fun u hu => ⟨_, _, by rw [← hu.aVal x]; rfl⟩).1

theorem engRun_engD2 (op : Int → Int → Int) (n x y : Fin 16) :
    (s.engRun e cycles fun t => t.engD2 e n x y op).dVal e n = sat16 (op (s.dVal e x) (s.dVal e y)) :=
  (engRun_satD hon fun u hu => ⟨_, _, by rw [← hu.dVal x, ← hu.dVal y]; rfl⟩).1

theorem engRun_engCmp (op : Int → Int → Bool) (n : Fin 4) (x y : Fin 16) :
    (s.engRun e cycles fun t => t.engCmp e n x y op).is CE.c e n = op (s.dVal e x) (s.dVal e y) :=
  (engRun_putC hon (tag := s.dTag e x || s.dTag e y) fun u hu => by
    rw [← hu.dVal x, ← hu.dVal y, ← hu.dTag x, ← hu.dTag y]; rfl).1

end
end State

section
open State

/-! ## Arithmetic (O17) -/

/-- ABS: of 0x8000 the limit, with SAT (R166). -/
theorem exec_engAbs_d (eng : Fin 7) (dst x : Fin 16) (s : State) (hon : s.engOn eng = true) :
    ∃ t, exec (.engAbs eng (.d dst x)) s = .next t ∧ t.dVal eng dst = sat16 (s.dVal eng x).natAbs ∧
      (s.dVal eng x = -32768 → t.dVal eng dst = 32767 ∧ t.is CE.FLAGS.SAT eng = true) := by
  obtain ⟨hval, hsat⟩ := engRun_engUn_d hon (cycles := 1) (fun x => x.natAbs) dst x
  refine ⟨_, rfl, hval, fun h => ?_⟩
  rw [h] at hval hsat
  exact ⟨hval, hsat (by decide)⟩

/-- SHR needs no saturation: the quotient is within the bounds of its operand. -/
theorem exec_engShr_d (eng : Fin 7) (dst x : Fin 16) (n : Fin 40) (s : State) (hon : s.engOn eng = true) :
    ∃ t, exec (.engShr eng (.d dst x) n) s = .next t ∧ t.dVal eng dst = s.dVal eng x / 2 ^ n.val :=
  ⟨_, rfl, (engRun_engUn_d hon (fun x => x / 2 ^ n.val) dst x).1.trans (satI_eq (ediv_two_pow_bounds (dVal_bounds ..) _))⟩

theorem exec_engShr_a (eng : Fin 7) (dst x : Fin 4) (n : Fin 40) (s : State) (hon : s.engOn eng = true) :
    ∃ t, exec (.engShr eng (.a dst x) n) s = .next t ∧ t.aVal eng dst = s.aVal eng x / 2 ^ n.val :=
  ⟨_, rfl, (engRun_engUn_a hon (fun x => x / 2 ^ n.val) dst x).trans (satI_eq (ediv_two_pow_bounds (aVal_bounds ..) _))⟩

theorem exec_engMac (eng : Fin 7) (dst : Fin 4) (x y : Fin 16) (s : State) (hon : s.engOn eng = true) :
    ∃ t, exec (.engMac eng dst x y) s = .next t ∧ t.aVal eng dst = satI 40 (s.aVal eng dst + s.dVal eng x * s.dVal eng y) :=
  ⟨_, rfl, (engRun_satA hon fun u hu => ⟨_, _, by rw [← hu.aVal dst, ← hu.dVal x, ← hu.dVal y]⟩).1⟩

theorem exec_engMsu (eng : Fin 7) (dst : Fin 4) (x y : Fin 16) (s : State) (hon : s.engOn eng = true) :
    ∃ t, exec (.engMsu eng dst x y) s = .next t ∧ t.aVal eng dst = satI 40 (s.aVal eng dst - s.dVal eng x * s.dVal eng y) :=
  ⟨_, rfl, (engRun_satA hon fun u hu => ⟨_, _, by rw [← hu.aVal dst, ← hu.dVal x, ← hu.dVal y]⟩).1⟩

/-- MIN and MAX are one of two data registers, so that nothing saturates. -/
theorem exec_engMin (eng : Fin 7) (dst x y : Fin 16) (s : State) (hon : s.engOn eng = true) :
    ∃ t, exec (.engMin eng dst x y) s = .next t ∧ t.dVal eng dst = min (s.dVal eng x) (s.dVal eng y) := by
  have hx := s.dVal_bounds eng x
  have hy := s.dVal_bounds eng y
  exact ⟨_, rfl, (engRun_engD2 hon min dst x y).trans (satI_eq (k := 15) (by omega))⟩

theorem exec_engMax (eng : Fin 7) (dst x y : Fin 16) (s : State) (hon : s.engOn eng = true) :
    ∃ t, exec (.engMax eng dst x y) s = .next t ∧ t.dVal eng dst = max (s.dVal eng x) (s.dVal eng y) := by
  have hx := s.dVal_bounds eng x
  have hy := s.dVal_bounds eng y
  exact ⟨_, rfl, (engRun_engD2 hon max dst x y).trans (satI_eq (k := 15) (by omega))⟩

/-- A value between two limits is a number of 16 bits, with the limits crossed a free one. -/
theorem State.clampF_bounds {tag : Nat} {lo hi x : Int} (hlo : -2 ^ 15 ≤ lo ∧ lo < 2 ^ 15) (hhi : -2 ^ 15 ≤ hi ∧ hi < 2 ^ 15) :
    -2 ^ 15 ≤ clampF tag lo hi x ∧ clampF tag lo hi x < 2 ^ 15 := by
  unfold clampF clampI
  split
  · exact toSigned_bounds 15 _
  · split_ifs <;> omega

theorem State.clampF_of_le {tag : Nat} {lo hi : Int} (h : lo ≤ hi) (x : Int) : clampF tag lo hi x = max lo (min x hi) :=
  (if_neg (by omega)).trans (clampI_eq_max_min h x)

/-- CLAMP: between limits in order; it completes with the limits crossed too. -/
theorem exec_engClamp (eng : Fin 7) (dst x lo hi : Fin 16) (s : State) (hon : s.engOn eng = true) :
    ∃ t, exec (.engClamp eng dst x lo hi) s = .next t ∧
      (s.dVal eng lo ≤ s.dVal eng hi → t.dVal eng dst = max (s.dVal eng lo) (min (s.dVal eng x) (s.dVal eng hi))) ∧
      t.is CE.prog eng = true :=
  ⟨_, rfl, (engRun_putD hon (clampF_bounds (s.dVal_bounds eng lo) (s.dVal_bounds eng hi)) fun u hu => ⟨_, _, _, by
    rw [← hu.dVal x, ← hu.dVal lo, ← hu.dVal hi]⟩).imp_left fun hval h => hval.trans (clampF_of_le h _)⟩

/-- Settles O17: each instruction by the shape of its result, an exact number that is clamped into its destination. -/
theorem engineArithmeticExactThenSaturated : Obligations.EngineArithmeticExactThenSaturated := by
  unfold Obligations.EngineArithmeticExactThenSaturated
  refine ⟨fun eng dst x y s hon => ⟨_, rfl, engRun_engBin_d hon _ dst x y⟩, fun eng dst x y s hon => ⟨_, rfl, engRun_engBin_a hon _ dst x y⟩,
    fun eng dst x y s hon => ⟨_, rfl, (engRun_engBin_d hon _ dst x y).1⟩, fun eng dst x y s hon => ⟨_, rfl, (engRun_engBin_a hon _ dst x y).1⟩,
    fun eng dst x s hon => ⟨_, rfl, (engRun_engUn_d hon _ dst x).1⟩, fun eng dst x s hon => ⟨_, rfl, engRun_engUn_a hon _ dst x⟩,
    exec_engAbs_d, fun eng dst x s hon => ⟨_, rfl, engRun_engUn_a hon _ dst x⟩,
    fun eng dst x n s hon => ⟨_, rfl, (engRun_engUn_d hon (fun x => x * 2 ^ n.val) dst x).1⟩,
    fun eng dst x n s hon => ⟨_, rfl, engRun_engUn_a hon (fun x => x * 2 ^ n.val) dst x⟩, exec_engShr_d, exec_engShr_a,
    fun eng dst x y s hon => ⟨_, rfl, engRun_engD2 hon (fun a b => round15 (a * b)) dst x y⟩, exec_engMac, exec_engMsu, exec_engMin,
    exec_engMax, fun eng dst x lo hi s ⟨hon, hle⟩ => ?_, fun eng dst x lo hi s hon => ?_⟩
  · obtain ⟨t, hexec, hval, -⟩ := exec_engClamp eng dst x lo hi s hon
    exact ⟨t, hexec, hval hle⟩
  · obtain ⟨t, hexec, -, hprog⟩ := exec_engClamp eng dst x lo hi s hon
    exact ⟨t, hexec, hprog⟩

/-! ## The formats (O57) -/

/-- Settles O57: the formats by the width of the rows; a product of two Q15 values has 31 bits, so that the accumulator does not clamp it. -/
theorem numberFormatsAndExactProduct : Obligations.NumberFormatsAndExactProduct := by
  unfold Obligations.NumberFormatsAndExactProduct
  refine ⟨fun eng n s => s.dVal_bounds eng n, fun eng n s => s.aVal_bounds eng n, fun eng dst x y s hon hzero => ?_⟩
  obtain ⟨t, hexec, hval⟩ := exec_engMac eng dst x y s hon
  have hprod : t.aVal eng dst = s.dVal eng x * s.dVal eng y := by
    rw [hval, hzero, Int.zero_add]
    exact satI_eq (mul_bounds (s.dVal_bounds eng x) (s.dVal_bounds eng y))
  exact ⟨t, hexec, hprod, fun hx hy => by rw [hprod, hx, hy]; rfl⟩

end

namespace State

/-! ## What the functions rest on (R166, R173, R174, R391, R395) -/

section
variable (s : State) (e : Fin 7)

/-- The limit of the dividend's sign in the place of a quotient by 0, with both flags (R166). -/
def divByZero (n : Nat) (x : Int) (tag : Bool) : State :=
  ((s.putD e n (if 0 < x then 32767 else if x < 0 then -32768 else 0) tag true).raise .warning CE.FLAGS.DIV0 e).raise .warning CE.FLAGS.SAT e

/-- What DIV does with the engine (R166). -/
def engDiv (n x y : Nat) : State :=
  if s.dVal e y = 0 then s.divByZero e n (s.dVal e x) (s.dTag e x || s.dTag e y)
  else s.satD e n (quot (s.dVal e x * 32768) (s.dVal e y)) (s.dTag e x || s.dTag e y)

theorem divByZero_reads (n : Fin 16) (x : Int) (tag : Bool) :
    (s.divByZero e n x tag).dVal e n = (if 0 < x then 32767 else if x < 0 then -32768 else 0) ∧
    (s.divByZero e n x tag).is CE.FLAGS.DIV0 e = true ∧ (s.divByZero e n x tag).is CE.FLAGS.SAT e = true := by
  have hflag (u : State) {flag : Row} (hflag : 0 < flag.c2) := (framed_satFlag u e flag true hflag).rows
  have hd (u : State) {flag : Row} (h : CE.d.engineApart [flag] [RING.lost] = true ∧ 0 < flag.c2) :
      (u.raise .warning flag e).dVal e n = u.dVal e n :=
    congrArg (toSigned 16) ((hflag u h.2).get_engine (r := CE.d) e.isLt ⟨h.1, n.isLt⟩)
  refine ⟨?_, ?_, is_raise_engine _ _ _ _ (by decide) (by decide)⟩
  · rw [divByZero, hd _ (by decide), hd _ (by decide), dVal_putD]
    split_ifs <;> decide
  · exact ((hflag _ (by decide)).is_engine e.isLt (by decide)).trans (is_raise_engine _ _ _ _ (by decide) (by decide))

/-- PIDF delivers a value between U_LO and U_HI (R173). -/
theorem dVal_pidf (n : Fin 16) (ps pc err meas ff : Nat) :
    ∃ x, (s.pidf e n ps pc err meas ff).dVal e n = clampF 1730 (s.coefWord e pc 6) (s.coefWord e pc 7) x := by
  unfold pidf
  extract_lets k w badSh sh y er i d x u hold lim iNew tag s1 s2
  have hk := (framed_satFlag (s2.putD e n u tag (u != x)) e CE.FLAGS.SAT (u != x || badSh) (by decide)).rows
  exact ⟨x, (congrArg (toSigned 16) (hk.get_engine (r := CE.d) e.isLt ⟨by decide, n.isLt⟩)).trans
    (dVal_putD s2 e n (clampF_bounds (s.coef_bounds ..) (s.coef_bounds ..)) ..)⟩

/-- A feed-forward slot with HANDLE 0 delivers 0 (R174). -/
theorem ffs_of_handle_zero (n slot : Nat) (h : s.get CE.FF_CFG.HANDLE e slot = 0) : s.ffs e n slot = s.satD e n 0 true := by
  rw [ffs, ffsValue, if_pos h]
  rfl

theorem engineKept_engCount (event n : Nat) : EngineKept e s (s.engCount e event n) :=
  RowsKept.engineKept (rs := []) (framed_engCount s e event n).rows (by decide)

end

/-! The calibration tables -/

theorem RowsKept.get_above {rs : List Row} {s t : State} (h : RowsKept rs s t) {r : Row}
    (hr : (rs.all fun q => !q.eng && decide (q.lo < 32 ∧ r.lo < 32 ∧ q.addr (q.c1 - 1) (q.c2 - 1) < r.base)) = true) (i j : Nat) :
    t.get r i j = s.get r i j := by
  refine h r i j fun q hq a ha b hb hkey => ?_
  have hq := List.all_eq_true.1 hr q hq
  simp only [Bool.and_eq_true, Bool.not_eq_true', decide_eq_true_eq] at hq
  obtain ⟨heng, hlo, hlo', hlast⟩ := hq
  have := Row.addr_le_last heng ha hb
  have := r.base_le_addr i j
  simp only [Row.key] at hkey
  omega

/-- The rows that a table is read from: the calibration RAM, the image that it holds and the kinds of the tables. -/
def tableRows : List Row := [SEC.calW, SEC.calOn, SEC.calRamId, SEC.calKind]

theorem tableLook_congr {s t : State} (h : ∀ r ∈ tableRows, ∀ i j, t.get r i j = s.get r i j) (handle : Nat) (x : Int) :
    t.tableLook handle x = s.tableLook handle x := by
  have his {r : Row} (hr : r ∈ tableRows) (i j : Nat) : t.is r i j = s.is r i j := by rw [is, is, h r hr]
  have hram (w : Nat) : t.calRam w = s.calRam w := by
    simp only [calRam, his (r := SEC.calOn) (by decide), his (r := SEC.calRamId) (by decide), h SEC.calW (by decide),
      h SEC.calRamId (by decide)]
  simp only [tableLook, tableMag, tableSigned, tableLin, tableWord, hram, h SEC.calKind (by decide), h SEC.calRamId (by decide)]

theorem rowsKept_engFetch (s : State) (e : Fin 7) (cycles : Nat) : RowsKept (fetchRows ++ Touch.perfAdd) s (s.engFetch e cycles) :=
  (framed_engFetch s e cycles).rows.widen fun r hr => Nat.lt_of_lt_of_le e.isLt ((by decide : ∀ r ∈ fetchRows, 7 ≤ r.c1) r hr)

theorem tableLook_engFetch (s : State) (e : Fin 7) (cycles handle : Nat) (x : Int) :
    (s.engFetch e cycles).tableLook handle x = s.tableLook handle x :=
  tableLook_congr (fun r hr => (rowsKept_engFetch s e cycles).get_above ((by decide : ∀ r ∈ tableRows, ((fetchRows ++ Touch.perfAdd).all
    fun q => !q.eng && decide (q.lo < 32 ∧ r.lo < 32 ∧ q.addr (q.c1 - 1) (q.c2 - 1) < r.base)) = true) r hr)) handle x

theorem portLocked_engFetch (s : State) (e : Fin 7) (cycles : Nat) : (s.engFetch e cycles).portLocked e = s.portLocked e := by
  rw [portLocked, portLocked, (rowsKept_engFetch s e cycles).is_distinct (by decide) (by decide)]

/-- A word with two wrong bits does nothing at a table port that is locked (R395, R459). -/
theorem tableBad_of_locked {s : State} {e : Nat} (h : s.portLocked e = true) (bad : Option (BitVec 18)) : s.tableBad e bad = s := by
  have he : e ≠ 6 := by
    rintro rfl
    exact absurd h (by simp [portLocked])
  cases bad with
  | none => rfl
  | some w => simp [tableBad, he, h]

end State

section
open State

/-! ## Comparisons, selections and functions (O18, O58) -/

theorem exec_engSel (eng : Fin 7) (dst : Fin 16) (c : Fin 4) (x y : Fin 16) (s : State) (hon : s.engOn eng = true) :
    ∃ t, exec (.engSel eng dst c x y) s = .next t ∧ (t.dVal eng dst = if s.is CE.c eng c then s.dVal eng x else s.dVal eng y) := by
  have hv : -2 ^ 15 ≤ (if s.is CE.c eng c then s.dVal eng x else s.dVal eng y) ∧
      (if s.is CE.c eng c then s.dVal eng x else s.dVal eng y) < 2 ^ 15 := by
    split
    · exact s.dVal_bounds eng x
    · exact s.dVal_bounds eng y
  exact ⟨_, rfl, (engRun_putD hon hv fun u hu => ⟨_, _, _, by rw [← hu.dVal x, ← hu.dVal y, ← hu.is ⟨by decide, c.isLt⟩]⟩).1⟩

theorem exec_engSincos (eng : Fin 7) (sin cos angle : Fin 16) (s : State) (hon : s.engOn eng = true) :
    ∃ t, exec (.engSincos eng sin cos angle) s = .next t ∧
      t.dVal eng cos = sat16 (unrotF 32768 0 (s.get CE.d eng angle)).1 ∧
      (sin ≠ cos → t.dVal eng sin = sat16 (unrotF 32768 0 (s.get CE.d eng angle)).2) := by
  generalize hr : unrotF 32768 0 (s.get CE.d eng angle) = r
  exact ⟨_, rfl, engRun_engPair hon (v := (r.2, r.1)) fun u hu => ⟨_, by
    rw [← hr, ← hu.get (r := CE.d) ⟨by decide, angle.isLt⟩]⟩⟩

theorem exec_engPark (eng : Fin 7) (dst1 dst2 x y angle : Fin 16) (s : State) (hon : s.engOn eng = true) :
    ∃ t, exec (.engPark eng dst1 dst2 x y angle) s = .next t ∧
      t.dVal eng dst2 = sat16 (rotF (s.dVal eng x) (s.dVal eng y) (s.get CE.d eng angle)).2 ∧
      (dst1 ≠ dst2 → t.dVal eng dst1 = sat16 (rotF (s.dVal eng x) (s.dVal eng y) (s.get CE.d eng angle)).1) :=
  ⟨_, rfl, engRun_engPair hon fun u hu => ⟨_, by
    rw [← hu.dVal x, ← hu.dVal y, ← hu.get (r := CE.d) ⟨by decide, angle.isLt⟩]⟩⟩

theorem exec_engIpark (eng : Fin 7) (dst1 dst2 x y angle : Fin 16) (s : State) (hon : s.engOn eng = true) :
    ∃ t, exec (.engIpark eng dst1 dst2 x y angle) s = .next t ∧
      t.dVal eng dst2 = sat16 (unrotF (s.dVal eng x) (s.dVal eng y) (s.get CE.d eng angle)).2 ∧
      (dst1 ≠ dst2 → t.dVal eng dst1 = sat16 (unrotF (s.dVal eng x) (s.dVal eng y) (s.get CE.d eng angle)).1) :=
  ⟨_, rfl, engRun_engPair hon fun u hu => ⟨_, by
    rw [← hu.dVal x, ← hu.dVal y, ← hu.get (r := CE.d) ⟨by decide, angle.isLt⟩]⟩⟩

theorem exec_engClarke (eng : Fin 7) (dst1 dst2 u v w : Fin 16) (s : State) (h : s.engOn eng = true ∧ dst1 ≠ dst2) :
    ∃ t, exec (.engClarke eng dst1 dst2 u v w) s = .next t ∧
      t.dVal eng dst1 = sat16 (quot (2 * s.dVal eng u - s.dVal eng v - s.dVal eng w) 3) ∧
      t.dVal eng dst2 = sat16 (quot ((s.dVal eng v - s.dVal eng w) * sqrt3F) (3 * unitF)) := by
  obtain ⟨hon, hne⟩ := h
  refine ⟨_, rfl, (engRun_engPair hon (v := clarke3 (s.dVal eng u) (s.dVal eng v) (s.dVal eng w)) fun t ht => ⟨_, by
    rw [← ht.dVal u, ← ht.dVal v, ← ht.dVal w]⟩).symm.imp_left fun hfirst => hfirst hne⟩

/-- SQRT: of a number that is not negative its root, and the engine runs on in any case. -/
theorem exec_engSqrt (eng : Fin 7) (dst x : Fin 16) (s : State) (hon : s.engOn eng = true) :
    ∃ t, exec (.engSqrt eng dst x) s = .next t ∧
      (0 ≤ s.dVal eng x → t.dVal eng dst = sat16 (sqrtQ ((s.dVal eng x).toNat * 32768) 1)) ∧ t.is CE.prog eng = true := by
  refine ⟨_, rfl, (engRun_satD hon fun u hu => ⟨_, _, by rw [hu.dVal x]⟩).imp (fun hval h => ?_) And.right⟩
  rw [hval, if_neg (by omega)]

theorem exec_engDiv_eq (eng : Fin 7) (dst x y : Fin 16) (s : State) :
    exec (.engDiv eng dst x y) s = .next (s.engRun eng 18 fun t => t.engDiv eng dst x y) := rfl

/-- DIV (R166): by 0 a limit by the sign of the dividend, with both flags. -/
theorem exec_engDiv (eng : Fin 7) (dst x y : Fin 16) (s : State) (hon : s.engOn eng = true) :
    ∃ t, exec (.engDiv eng dst x y) s = .next t ∧
      (s.dVal eng y ≠ 0 → t.dVal eng dst = sat16 (quot (s.dVal eng x * 32768) (s.dVal eng y))) ∧
      (s.dVal eng y = 0 → t.dVal eng dst = (if 0 < s.dVal eng x then 32767 else if s.dVal eng x < 0 then -32768 else 0) ∧
        t.is CE.FLAGS.DIV0 eng = true ∧ t.is CE.FLAGS.SAT eng = true) := by
  obtain ⟨u, hu, ht⟩ := engRun_reads hon (cycles := 18) (f := fun t => t.engDiv eng dst x y)
  simp only [State.engDiv, hu.dVal x, hu.dVal y] at ht
  refine ⟨_, exec_engDiv_eq .., fun h => ?_, fun h => ?_⟩
  · rw [if_neg h] at ht
    exact (ht.dVal dst).trans (satD_reads u eng dst _ _ _).1
  · rw [if_pos h] at ht
    obtain ⟨hval, hdiv0, hsat⟩ := divByZero_reads u eng dst (s.dVal eng x) (u.dTag eng x || u.dTag eng y)
    exact ⟨(ht.dVal dst).trans hval, (ht.is (by decide)).trans hdiv0, (ht.is (by decide)).trans hsat⟩

theorem exec_engPidf (eng : Fin 7) (dst : Fin 16) (ps pc : Fin 8) (err meas ff : Fin 16) (s : State)
    (h : s.engOn eng = true ∧ s.coefWord eng pc 6 ≤ s.coefWord eng pc 7) :
    ∃ t, exec (.engPidf eng dst ps pc err meas ff) s = .next t ∧
      s.coefWord eng pc 6 ≤ t.dVal eng dst ∧ t.dVal eng dst ≤ s.coefWord eng pc 7 := by
  obtain ⟨hon, hle⟩ := h
  obtain ⟨u, hu, ht⟩ := engRun_reads hon (cycles := 14) (f := fun t => t.pidf eng dst ps pc err meas ff)
  obtain ⟨x, hval⟩ := dVal_pidf u eng dst ps pc err meas ff
  rw [hu.coefWord, hu.coefWord, clampF_of_le hle] at hval
  refine ⟨_, rfl, ?_⟩
  rw [ht.dVal dst, hval]
  omega

/-- TLU: a locked port reads 0; of an open one the table of the calibration image. -/
theorem exec_engTlu (eng : Fin 7) (dst : Fin 16) (handle : BitVec 8) (x : Fin 16) (miss : Nat) (bad : Option (BitVec 18)) (s : State)
    (hon : s.engOn eng = true) : ∃ t, exec (.engTlu eng dst handle x miss bad) s = .next t ∧
      (s.portLocked eng = true → t.dVal eng dst = 0) ∧
      (s.portLocked eng = false → bad = none → eng.val ≠ 6 → t.dVal eng dst = sat16 (s.tableLook handle.toNat (s.dVal eng x))) := by
  have hu := engineKept_engFetch s eng (6 + miss)
  have hlock := portLocked_engFetch s eng (6 + miss)
  have htail (w : State) (m : Nat) : (((w.set CE.dM m eng dst).engCount eng 3 miss).engNext eng).dVal eng dst = w.dVal eng dst :=
    ((engineKept_engNext _ eng).dVal dst).trans (((engineKept_engCount _ eng 3 miss).dVal dst).trans
      (congrArg (toSigned 16) ((rowsKept_setMember _ _ _ dst.isLt).get_engine (r := CE.d) eng.isLt ⟨by decide, dst.isLt⟩)))
  refine ⟨_, congrArg Host.Outcome.next (engRun_of_on hon ..), fun h => ?_, fun h hbad hne => ?_⟩
  · rw [h] at hlock
    simp only [tableBad_of_locked hlock, hlock, if_true, htail]
    exact congrArg (toSigned 16) (get_set_self ..)
  · rw [h] at hlock
    subst hbad
    simp only [tableBad, hlock, hne, if_false, Bool.false_eq_true, htail, tableLook_engFetch, hu.dVal x]
    exact geti_seti _ rfl (satI_bounds 15 _) ..

theorem exec_engFfs (eng : Fin 7) (dst : Fin 16) (slot : Fin 4) (miss : Nat) (bad : Option (BitVec 18)) (s : State)
    (h : s.engOn eng = true ∧ s.is CE.FF_CFG.HANDLE eng slot = false) :
    ∃ t, exec (.engFfs eng dst slot miss bad) s = .next t ∧ t.dVal eng dst = 0 ∧ t.dTag eng dst = isRope eng := by
  obtain ⟨hon, hzero⟩ := h
  obtain ⟨u, hu, ht⟩ := engRun_reads hon (cycles := if s.is CE.FF_CFG.HANDLE eng slot then 8 + miss else 2) (f := fun t =>
    ((t.on (s.is CE.FF_CFG.HANDLE eng slot) (·.tableBad eng bad)).ffs eng dst slot).engCount eng 3 miss)
  refine ⟨_, rfl, ?_⟩
  have hhandle : u.get CE.FF_CFG.HANDLE eng slot = 0 := (hu.get ⟨by decide, slot.isLt⟩).trans (by simpa [is] using hzero)
  simp only [hzero, on_false, ffs_of_handle_zero u eng _ _ hhandle] at ht ⊢
  obtain ⟨hval, htag, -⟩ := satD_reads u eng dst 0 true false
  have hcount := engineKept_engCount (u.satD eng dst 0 true) eng 3 miss
  exact ⟨(ht.dVal dst).trans ((hcount.dVal dst).trans hval), (ht.dTag dst).trans ((hcount.dTag dst).trans htag)⟩

/-- Settles O18: comparisons, selections and rotations by the shape of their results, the functions by what they rest on. -/
theorem engineComparesAndFunctionsDeliver : Obligations.EngineComparesAndFunctionsDeliver := by
  unfold Obligations.EngineComparesAndFunctionsDeliver
  exact ⟨fun eng dst x y s hon => ⟨_, rfl, engRun_engCmp hon (fun a b => decide (a < b)) dst x y⟩,
    fun eng dst x y s hon => ⟨_, rfl, engRun_engCmp hon (fun a b => decide (a ≤ b)) dst x y⟩,
    fun eng dst x y s hon => ⟨_, rfl, engRun_engCmp hon (fun a b => decide (a = b)) dst x y⟩,
    exec_engSel, exec_engSincos, exec_engPark, exec_engIpark, exec_engClarke, exec_engSqrt, exec_engDiv, exec_engPidf, exec_engTlu,
    exec_engFfs⟩

/-- Settles O58: DIV and ABS as for their values (O17, O18), read as patterns of 16 bits. -/
theorem divideByZeroAndAbsoluteValue : Obligations.DivideByZeroAndAbsoluteValue := by
  unfold Obligations.DivideByZeroAndAbsoluteValue
  refine ⟨fun eng dst x y s hon hy => ?_, fun eng dst x s hon hx => ?_⟩
  · obtain ⟨t, hexec, -, hzero⟩ := exec_engDiv eng dst x y s hon
    obtain ⟨hval, hflags⟩ := hzero (congrArg (toSigned 16) hy)
    refine ⟨t, hexec, ?_, hflags⟩
    rw [get_d_eq, hval]
    split_ifs <;> rfl
  · obtain ⟨t, hexec, -, hlimit⟩ := exec_engAbs_d eng dst x s hon
    obtain ⟨hval, hsat⟩ := hlimit (congrArg (toSigned 16) hx)
    exact ⟨t, hexec, by rw [get_d_eq, hval]; rfl, hsat⟩

end

namespace State

/-! ## A stop of an engine (R167, R181, R183) -/

/-- The rows that the fault of a pair writes. -/
def pairFaultRows : List Row := [CE.RP_STAT.RP_FAULT, BL.causeReq, RING.lost]

theorem pairFault_reads (s : State) {p : Nat} (hp : p < 2) :
    RowsKept pairFaultRows s (s.pairFault p) ∧ (s.pairFault p).is CE.RP_STAT.RP_FAULT (2 * p) = true := by
  have h0 : 2 * p < 7 := by omega
  have h1 : 2 * p + 1 < 7 := by omega
  unfold pairFault
  split
  · exact ⟨rowsKept_refl _ _, ‹_›⟩
  · have hkey : CE.RP_STAT.RP_FAULT.key (2 * p + 1) 0 ≠ CE.RP_STAT.RP_FAULT.key (2 * p) 0 := by
      interval_cases p <;> decide
    have hraise := (framed_refl s).raise (rs := pairFaultRows) (fs := [.events, .store]) (c := .fault) (r := CE.RP_STAT.RP_FAULT) (i := 2 * p)
      (j := 0) (inst := p) ⟨by decide, h0, by decide⟩ (by decide)
    have hsafe (u : State) : Framed [BL.causeReq] [] u (u.unsafeAxis p .rpFault) := framed_callSafe u hp _
    refine ⟨((hraise.setIn h1 (by decide)).andThen (hsafe _) (by decide)).rows, ?_⟩
    rw [is, RowsKept.get_engine (rs := []) (hsafe _).rows h0 (by decide), get_set_ne _ _ _ _ _ _ hkey, ← is]
    exact is_raise_engine s ⟨2 * p, h0⟩ .fault p (by decide) (by decide)

/-- An engine that stops at an illegal word has the flag set and its program ended, and a pair faults. -/
theorem engStop_illegal_reads (s : State) (e : Fin 7) {t : State} (ht : t = s.engStop e CE.FLAGS.ILLEGAL) :
    t.is CE.FLAGS.ILLEGAL e = true ∧ t.is CE.stop e = true ∧ t.is CE.prog e = false ∧
      (e.val < 4 → t.is CE.RP_STAT.RP_FAULT (2 * (e / 2)) = true) := by
  subst ht
  unfold engStop
  extract_lets u
  have hset : Framed (rowsAt [CE.stop, CE.stopT, CE.prog] e []) [] (s.raise .fault CE.FLAGS.ILLEGAL e) u :=
    (((framed_refl _).setAt (by decide)).setAt (by decide)).setAt (by decide)
  have hstop : u.is CE.stop e = true := by
    rw [(rowsKept_setMember _ _ _ (by decide)).is_engine e.isLt (by decide), (rowsKept_setMember _ _ _ (by decide)).is_engine e.isLt (by decide)]
    exact is_set_one _ _ _ _ (by decide)
  have hflag : u.is CE.FLAGS.ILLEGAL e = true :=
    (hset.rows.is_engine e.isLt (by decide)).trans (is_raise_engine _ _ _ _ (by decide) (by decide))
  have hfault : RowsKept pairFaultRows u (u.on (isRope e) (·.pairFault (e / 2))) :=
    rowsKept_on _ fun h => (pairFault_reads u (p := e / 2) (by simp only [isRope, decide_eq_true_eq] at h; omega)).1
  have hkeep {r : Row} (hr : r.engineApart [] pairFaultRows = true ∧ 0 < r.c2) : (u.on (isRope e) (·.pairFault (e / 2))).is r e = u.is r e :=
    RowsKept.is_engine (rs := []) hfault e.isLt hr
  refine ⟨(hkeep (by decide)).trans hflag, (hkeep (by decide)).trans hstop, (hkeep (by decide)).trans (is_set_zero ..), fun h => ?_⟩
  rw [isRope, decide_eq_true h]
  exact (pairFault_reads u (by omega)).2

end State

section
open State

/-! ## Moves, loads and stores (O16) -/

/-- A value and its marks, copied within two rows of the engine. -/
theorem State.engRun_copy {s : State} {e : Fin 7} (hon : s.engOn e = true) {cycles : Nat} {r m : Row}
    (hrows : r ∈ engineRows ∧ m ∈ engineRows ∧ r.engineApart [m] [] = true) {d x : Nat}
    (hd : d < r.c2 ∧ d < m.c2) (hx : x < r.c2 ∧ x < m.c2) :
    (s.engRun e cycles fun t => (t.set r (t.get r e x) e d).set m (t.get m e x) e d).get r e d = s.get r e x % 2 ^ r.width ∧
    (s.engRun e cycles fun t => (t.set r (t.get r e x) e d).set m (t.get m e x) e d).get m e d = s.get m e x % 2 ^ m.width := by
  obtain ⟨hr, hm, hapart⟩ := hrows
  obtain ⟨u, hu, ht⟩ := engRun_reads hon (cycles := cycles) (f := fun t => (t.set r (t.get r e x) e d).set m (t.get m e x) e d)
  rw [ht.get ⟨hr, hd.1⟩, ht.get ⟨hm, hd.2⟩, (rowsKept_setMember _ _ _ hd.2).get_engine e.isLt ⟨hapart, hd.1⟩, get_set_self, get_set_self,
    hu.get ⟨hr, hx.1⟩, hu.get ⟨hm, hx.2⟩]
  exact ⟨rfl, rfl⟩

/-- MOV and LDI between register kinds: a data register holds the pattern, with the tag alone. -/
theorem State.engRun_putD_pattern {s : State} {e : Fin 7} (hon : s.engOn e = true) {cycles : Nat} {f : State → State} {n : Fin 16} {v : Int}
    {tag : Bool} (hf : ∀ u, EngineKept e s u → f u = u.putD e n v tag) :
    (s.engRun e cycles f).get CE.d e n = ofSigned 16 v % 2 ^ 16 ∧ (s.engRun e cycles f).get CE.dM e n = ofBool (tag && isRope e) := by
  obtain ⟨u, hu, ht⟩ := engRun_reads hon (cycles := cycles) (f := f)
  rw [hf u hu] at ht
  obtain ⟨hd, hM⟩ := get_putD u e n v tag false false
  refine ⟨(ht.get ⟨by decide, n.isLt⟩).trans hd, (ht.get ⟨by decide, n.isLt⟩).trans (hM.trans ?_)⟩
  cases tag && isRope e <;> rfl

theorem exec_engMov_dp (eng : Fin 7) (d : Fin 16) (x : Fin 8) (s : State) (hon : s.engOn eng = true) :
    ∃ t, exec (.engMov eng (.dp d x)) s = .next t ∧
      t.get CE.d eng d = s.get CE.p eng x % 2 ^ 16 ∧ t.get CE.dM eng d = ofBool (s.is CE.pM eng x && isRope eng) := by
  obtain ⟨hd, hM⟩ := engRun_putD_pattern hon (cycles := 1) (n := d) (v := (s.get CE.p eng x : Nat)) (tag := s.is CE.pM eng x)
    (f := fun t => t.putD eng d (t.get CE.p eng x) (t.is CE.pM eng x)) fun u hu => by rw [hu.pReg x, hu.pTag x]
  exact ⟨_, rfl, hd.trans (by rw [ofSigned_natCast, Nat.mod_mod]), hM⟩

theorem exec_engMov_pp (eng : Fin 7) (d x : Fin 8) (s : State) (hon : s.engOn eng = true) :
    ∃ t, exec (.engMov eng (.pp d x)) s = .next t ∧
      t.get CE.p eng d = s.get CE.p eng x % 2 ^ 15 ∧ t.is CE.pM eng d = (s.is CE.pM eng x && isRope eng) :=
  ⟨_, rfl, engRun_putP hon (v := s.get CE.p eng x) (tag := s.is CE.pM eng x) fun u hu => by rw [← hu.pReg x, ← hu.pTag x]⟩

theorem exec_engMov_pd (eng : Fin 7) (d : Fin 8) (x : Fin 16) (s : State) (hon : s.engOn eng = true) :
    ∃ t, exec (.engMov eng (.pd d x)) s = .next t ∧
      t.get CE.p eng d = s.get CE.d eng x % 2 ^ 15 ∧ t.is CE.pM eng d = (s.dTag eng x && isRope eng) :=
  ⟨_, rfl, engRun_putP hon (v := s.get CE.d eng x) (tag := s.dTag eng x) fun u hu => by
    rw [← hu.get (r := CE.d) ⟨by decide, x.isLt⟩, ← hu.dTag x]⟩

theorem exec_engMov_cc (eng : Fin 7) (d x : Fin 4) (s : State) (hon : s.engOn eng = true) :
    ∃ t, exec (.engMov eng (.cc d x)) s = .next t ∧
      t.is CE.c eng d = s.is CE.c eng x ∧ t.is CE.cM eng d = (s.is CE.cM eng x && isRope eng) :=
  ⟨_, rfl, engRun_putC hon (b := s.is CE.c eng x) (tag := s.is CE.cM eng x) fun u hu => by
    rw [← hu.is (r := CE.c) ⟨by decide, x.isLt⟩, ← hu.is (r := CE.cM) ⟨by decide, x.isLt⟩]⟩

theorem exec_engLdi_d (eng : Fin 7) (n : Fin 16) (imm : BitVec 16) (s : State) (hon : s.engOn eng = true) :
    ∃ t, exec (.engLdi eng (.d n) imm) s = .next t ∧ t.get CE.d eng n = imm.toNat ∧ t.get CE.dM eng n = 0 := by
  refine ⟨_, rfl, (engRun_putD_pattern hon fun u hu => rfl).imp_left fun h => h.trans ?_⟩
  rw [ofSigned_toSigned imm.isLt, Nat.mod_eq_of_lt imm.isLt]

theorem exec_engLd (eng : Fin 7) (dst : Fin 16) (p : Fin 8) (coef : Bool) (s : State) (hon : s.engOn eng = true) :
    ∃ t, exec (.engLd eng dst p coef) s = .next t ∧
      (coef = true → t.geti CE.d eng dst = s.geti CE.COEF_WIN.WORD eng (s.get CE.p eng p % 256)) ∧
      (coef = false → t.geti CE.d eng dst = s.ldWord eng (s.get CE.p eng p / 2)) := by
  refine ⟨_, rfl, ?_, ?_⟩ <;> rintro rfl
  · exact (engRun_putD hon (s.coef_bounds ..) fun u hu => ⟨_, _, _, by rw [← hu.coef, ← hu.pReg p]; rfl⟩).1
  · exact (engRun_putD hon (s.ldWord_bounds ..) fun u hu => ⟨_, _, _, by rw [← hu.ldWord, ← hu.pReg p]; rfl⟩).1

/-- Through an untagged address a store of an engine that executes writes its word. -/
theorem exec_engSt (eng : Fin 7) (src : Fin 16) (p : Fin 8) (s : State) (h : s.engOn eng = true ∧ s.is CE.pM eng p = false) :
    ∃ t, exec (.engSt eng src p) s = .next t ∧ t.ldWord eng (s.get CE.p eng p / 2) = s.dVal eng src := by
  obtain ⟨hon, htag⟩ := h
  obtain ⟨u, hu, ht⟩ := engRun_reads hon (cycles := 1) (f := fun t => t.engStore eng p 0 (t.dVal eng src) (t.dTag eng src))
  have hstop : u.is CE.stop eng = false := (hu.is (by decide)).trans (engOn_reads hon).2
  obtain ⟨-, hword⟩ := engStore_reads u eng p 0 (u.dVal_bounds eng src) (u.dTag eng src) hstop ((hu.pTag p).trans htag)
  exact ⟨_, rfl, (ht.ldWord _).trans ((hword _).trans ((if_pos (by rw [storeWord, hu.pReg p]; rfl)).trans (hu.dVal src)))⟩

/-- Two stores one word apart: the second one leaves the word of the first. -/
theorem State.engStore_two_reads (s : State) (e : Fin 7) (p : Fin 8) {v w : Int} (hv : -2 ^ 15 ≤ v ∧ v < 2 ^ 15)
    (hw : -2 ^ 15 ≤ w ∧ w < 2 ^ 15) (tag : Bool) (hstop : s.is CE.stop e = false) (hp : s.is CE.pM e p = false) :
    ((s.engStore e p 0 v tag).engStore e p 1 w tag).ldWord e (s.get CE.p e p / 2) = v ∧
    ((s.engStore e p 0 v tag).engStore e p 1 w tag).ldWord e ((s.get CE.p e p + 2) / 2) = w := by
  obtain ⟨hkept, hfirst⟩ := engStore_reads s e p 0 hv tag hstop hp
  have hstop' : (s.engStore e p 0 v tag).is CE.stop e = false := (hkept.is_engine e.isLt (by decide)).trans hstop
  have hp' : (s.engStore e p 0 v tag).is CE.pM e p = false := (hkept.is_engine e.isLt ⟨by decide, p.isLt⟩).trans hp
  have hreg : (s.engStore e p 0 v tag).get CE.p e p = s.get CE.p e p := hkept.get_engine e.isLt ⟨by decide, p.isLt⟩
  obtain ⟨-, hsecond⟩ := engStore_reads (s.engStore e p 0 v tag) e p 1 hw tag hstop' hp'
  rw [hsecond, hsecond, hfirst, storeWord, storeWord, hreg]
  exact ⟨(if_neg (by omega)).trans (if_pos rfl), if_pos rfl⟩

/-- STAW stores two words one after the other, the low one first. -/
theorem exec_engStaw (eng : Fin 7) (src : Fin 4) (p : Fin 8) (s : State) (h : s.engOn eng = true ∧ s.is CE.pM eng p = false) :
    ∃ t, exec (.engStaw eng src p) s = .next t ∧
      t.ldWord eng (s.get CE.p eng p / 2) = wrap16 (s.aVal eng src / 256) ∧
      t.ldWord eng ((s.get CE.p eng p + 2) / 2) = wrap16 (s.aVal eng src / 256 / 65536) := by
  obtain ⟨hon, htag⟩ := h
  obtain ⟨u, hu, ht⟩ := engRun_reads hon (cycles := 1) (f := fun t =>
    (t.engStore eng p 0 (wrap16 (t.aVal eng src / 256)) (t.aTag eng src)).engStore eng p 1
      (wrap16 (t.aVal eng src / 256 / 65536)) (t.aTag eng src))
  have hstop : u.is CE.stop eng = false := (hu.is (by decide)).trans (engOn_reads hon).2
  obtain ⟨hlow, hhigh⟩ := engStore_two_reads u eng p (toSigned_bounds 15 _) (toSigned_bounds 15 _) (u.aTag eng src) hstop ((hu.pTag p).trans htag)
  rw [← hu.pReg p, ← hu.aVal src]
  exact ⟨_, rfl, (ht.ldWord _).trans hlow, (ht.ldWord _).trans hhigh⟩

/-- LDA of a data register loses nothing: the accumulator holds 30 fraction bits. -/
theorem exec_engLda_reg (eng : Fin 7) (dst : Fin 4) (n : Fin 16) (s : State) (hon : s.engOn eng = true) :
    ∃ t, exec (.engLda eng dst (.reg n)) s = .next t ∧ t.aVal eng dst = s.dVal eng n * 32768 := by
  have hn := s.dVal_bounds eng n
  exact ⟨_, rfl, (engRun_satA hon fun u hu => ⟨_, _, by rw [← hu.dVal n]⟩).1.trans (satI_eq (k := 39) (by omega))⟩

/-- LDA of two words: 32 bits above 8 that are 0 fill the accumulator exactly. -/
theorem exec_engLda_mem (eng : Fin 7) (dst : Fin 4) (p : Fin 8) (s : State) (hon : s.engOn eng = true) :
    ∃ t, exec (.engLda eng dst (.mem p)) s = .next t ∧ t.aVal eng dst =
      (s.ldWord eng (s.get CE.p eng p / 2 + 1) * 65536 + ofSigned 16 (s.ldWord eng (s.get CE.p eng p / 2))) * 256 := by
  have hhi := s.ldWord_bounds eng (s.get CE.p eng p / 2 + 1)
  have hlo : ofSigned 16 (s.ldWord eng (s.get CE.p eng p / 2)) < 65536 := ofSigned_lt 15 _
  exact ⟨_, rfl, (engRun_satA hon fun u hu => ⟨_, _, by rw [← hu.ldWord, ← hu.ldWord, ← hu.pReg p]⟩).1.trans
    (satI_eq (k := 39) (by omega))⟩

theorem exec_engSta (eng : Fin 7) (dst : Fin 16) (src : Fin 4) (s : State) (hon : s.engOn eng = true) :
    ∃ t, exec (.engSta eng dst src) s = .next t ∧ t.dVal eng dst = sat16 (round15 (s.aVal eng src)) :=
  ⟨_, rfl, (engRun_satD hon fun u hu => ⟨_, _, by rw [← hu.aVal src]⟩).1⟩

/-- Settles O16: MOV, LDI, loads, stores and ILLEGAL deliver what the statement names. -/
theorem engineMovesLoadsAndStores : Obligations.EngineMovesLoadsAndStores :=
  ⟨fun _ d x _ hon => ⟨_, rfl, engRun_copy hon (by decide) ⟨d.isLt, d.isLt⟩ ⟨x.isLt, x.isLt⟩⟩,
    fun _ d x _ hon => ⟨_, rfl, engRun_copy hon (by decide) ⟨d.isLt, d.isLt⟩ ⟨x.isLt, x.isLt⟩⟩,
    exec_engMov_pp, exec_engMov_cc, exec_engMov_pd, exec_engMov_dp, exec_engLdi_d,
    fun _ _ _ _ hon => ⟨_, rfl, engRun_putP hon fun _ _ => rfl⟩,
    fun _ _ _ _ hon => ⟨_, rfl, engRun_putC hon fun _ _ => rfl⟩,
    exec_engLd, exec_engSt, exec_engLda_reg, exec_engLda_mem, exec_engSta, exec_engStaw,
    fun eng _ hon => ⟨_, congrArg Host.Outcome.next (engJump_of_on hon 0 _), engStop_illegal_reads _ eng rfl⟩⟩

end

section
open State

/-! ## An END that the piton CE.OVR.PIT has held (R172, R185) -/

/-- An END after the piton held the program's first one, with no piton armed any more, leaves the program as it is. -/
theorem exec_engEnd_of_endHold (eng : Fin 7) (s : State)
    (h : s.engOn eng = true ∧ s.pit 0x15 4 (eng / 2) = false ∧ s.is CE.endHold eng = true) :
    ∃ t, exec (.engEnd eng) s = .next t ∧ t.is CE.prog eng = true := by
  obtain ⟨hon, hpit, hhold⟩ := h
  have hkept := engineKept_engFetch s eng 1
  have hpit' : (s.engFetch eng 1).pit 0x15 4 (eng / 2) = false := ((rowsKept_engFetch s eng 1).pit _ _ _ (by decide)).trans hpit
  have hhold' : (s.engFetch eng 1).is CE.endHold eng = true := (hkept.is (by decide)).trans hhold
  have hdone : (s.engFetch eng 1).engDone eng = s.engFetch eng 1 := by
    simp only [engDone, hpit', Bool.false_and, on_false, hhold', if_true]
  have hexec : exec (.engEnd eng) s = .next (s.engFetch eng 1) := by
    refine congrArg Host.Outcome.next ((engJump_of_on hon 1 _).trans ?_)
    simp only [hdone, hhold', if_true]
  exact ⟨_, hexec, (hkept.is (by decide)).trans (engOn_reads hon).1⟩

/-- Engine 1 executes, its END held, with no piton armed and no period of AX pending. -/
def partnerWithEndHeld : State := ((State.reset.set CE.CTL.RUN 1 1).set CE.prog 1 1).set CE.endHold 1 1

/-- Refutes O19, by END: a program whose END the piton CE.OVR.PIT held stays in progress to the next period start, and the piton has
disarmed by then. A further END in that time meets the clause's hypotheses (no piton, no aux channel waiting) and does not end the program. -/
theorem not_enginePortsAndControlFlow : ¬ Obligations.EnginePortsAndControlFlow := by
  unfold Obligations.EnginePortsAndControlFlow
  rintro ⟨-, -, -, -, -, -, -, -, -, -, -, hend, -⟩
  obtain ⟨t, hexec, hended⟩ := hend 1 partnerWithEndHeld (by decide)
  obtain ⟨t', hexec', hgoes⟩ := exec_engEnd_of_endHold 1 partnerWithEndHeld (by decide)
  obtain rfl : t = t' := Host.Outcome.next.inj (hexec.symm.trans hexec')
  exact absurd (hended.symm.trans hgoes) (by decide)

/-! ## A program of AX for a channel that it does not have (R172, R222) -/

/-- AX's engine runs a program whose channel number reads 3; the field has two bits, and AX has the channels 0 to 2. -/
def axProgramOfFourthChannel : State := ((State.reset.set CE.prog 1 6).set CE.lCh 3 6).set CE.outV 5 6 7

/-- The last of the eight outputs goes to channel 3's row of outputs, whose place is that of a temperature sensor's step count. -/
theorem thrN_ceOverrun_axProgramOfFourthChannel :
    ∃ t, exec (.ceOverrun 4) axProgramOfFourthChannel = .next t ∧ t.get HK.thrN 0 = 5 :=
  ⟨_, rfl, by decide +kernel⟩

/-- Refutes O50, by CE_OVERRUN of AX: the program's end stores the outputs at the channel that CE.lCh names, without a check that it is
below 3. With 3 the places are beyond the outputs of AX's channels, and one of them is that of HK.thrN, which the command's list does not
name. The statement takes every state, so this one too. -/
theorem not_controlEngineFrames : ¬ Obligations.ControlEngineFrames := by
  unfold Obligations.ControlEngineFrames
  intro frame
  obtain ⟨t, hexec, hcount⟩ := thrN_ceOverrun_axProgramOfFourthChannel
  obtain ⟨rowsKept, -, -⟩ := frame _ _ _ _ t rfl hexec
  have h := rowsKept HK.thrN 0 0 (keys_ne_of_placeAt_eq_none (by decide +kernel))
  rw [hcount] at h
  exact absurd h (by decide)

end

end Sys2Proof.Machine
end

/-!
Gate islands (08): the uplink frames at the endpoint, link losses and the off-state diagnostics (O22); what RELEASE does after a link loss
(O21) and how long the turn-on of a short circuit lasts (O23), which fail.
-/
section
namespace Sys2Proof.Machine

/-! ## What a valid uplink frame does before its own fields are taken (R191, R193, R215) -/

namespace State

/-- The first frame after a loss: the proxy is at its reset values and RESET goes to the island (R193). -/
def linkBack (s : State) (i : Nat) : State :=
  s.on (s.is GI.glLost i) fun t => ((t.set GI.glLost 0 i).proxyClear i).gateWrite i 0x1C5 1

/-- The frame's Vds code and its age stand in the proxy, and the link is up (R191). -/
def vdsShown (s : State) (i vds vage : Nat) : State :=
  (((s.set GI.VDS.CODE vds i).set GI.VDS.VAGE vage i).setBit GLK.LINK_STAT.UP i true).set GI.trained 1 i

/-- GI_LINK falls at the trip unit when no island of the star is lost (R193). -/
def starHeard (s : State) (i : Nat) : State :=
  s.on (!(List.range 6).any fun k => s.is GI.glLost (6 * (i / 6) + k)) (·.tripIn (i / 6) 3 false)

/-- What a valid uplink frame does before its own fields are taken. -/
def uplinkHeard (s : State) (i vds vage : Nat) : State := ((s.linkBack i).vdsShown i vds vage).starHeard i

theorem uplink_of_no_pit {s : State} {i : Nat} (h : s.pit 0x20 5 i = false) (vds vage : Nat) (f : State → State) :
    s.uplink i vds vage f = f (s.uplinkHeard i vds vage) := by
  simp only [uplink, h, Bool.false_eq_true, if_false]
  rfl

/-- The rows that a valid uplink frame writes before its own fields are taken. -/
def heardUpRows : List Row := [GI.glLost, GI.trained, GLK.LINK_STAT.UP, PU.tripIn] ++ Touch.proxyClear

/-- The proxy's rows of several elements, which a RESET returns to their reset values. -/
def proxyWindows : List Row :=
  [GI.PROF_WIN.DUR, GI.PROF_WIN.CUR, GI.SLOT_CFG.DVDT_TGT, GI.SLOT_CFG.DV_FIRST, GI.SLOT_CFG.DV_LAST, GI.SOFT_WIN.DUR, GI.SOFT_WIN.CUR,
    GI.winB, GI.slotB, GI.satWarn]

theorem proxyFields_touched : ∀ r ∈ Machine.proxyFields, r ∈ Touch.proxyClear ∧ 12 ≤ r.c1 ∧ 0 < r.c2 := by decide +kernel

theorem proxyWindows_touched : ∀ r ∈ proxyWindows, r ∈ Touch.proxyClear ∧ 12 ≤ r.c1 := by decide

section
variable (s : State) {i : Nat} (hi : i < 12)
include hi

theorem framed_rowReset {r : Row} (hr : 12 ≤ r.c1) : Framed [r] [] s (s.rowReset r i) :=
  (framed_refl s).forN fun _ u hk => (framed_refl u).set ⟨List.mem_singleton.2 rfl, Nat.lt_of_lt_of_le hi hr, hk⟩

theorem framed_proxyFields : Framed Touch.proxyClear [] s (Machine.proxyFields.foldl (fun t r => t.toReset r i) s) :=
  (framed_refl s).foldl _ fun u r hr => by
    obtain ⟨hm, hc1, hc2⟩ := proxyFields_touched r hr
    exact (framed_refl u).set ⟨hm, Nat.lt_of_lt_of_le hi hc1, hc2⟩

theorem framed_proxyWindows : Framed Touch.proxyClear [] s (proxyWindows.foldl (fun t r => t.rowReset r i) s) :=
  (framed_refl s).foldl _ fun u r hr => by
    obtain ⟨hm, hc1⟩ := proxyWindows_touched r hr
    exact (framed_rowReset u hi hc1).mono (by simp [hm])

theorem rowsKept_proxyClear : RowsKept Touch.proxyClear s (s.proxyClear i) := by
  have hState (t : State) : RowsKept Touch.proxyClear t ((t.set GI.STATUS.STATE 1 i).setBit GLK.LINK_STAT.CONF i false) :=
    (rowsKept_set_zero hi (by decide)).trans (rowsKept_set_zero (by decide) (by decide))
  exact (framed_proxyFields s hi).rows.trans ((hState _).trans (framed_proxyWindows _ hi).rows)

theorem rowsKept_linkBack : RowsKept heardUpRows s (s.linkBack i) :=
  rowsKept_on _ fun _ => (rowsKept_set_zero hi (by decide)).trans <|
    ((rowsKept_proxyClear _ hi).mono fun _ => List.mem_append_right _).trans <|
      (rowsKept_send _ _ _).trans ((rowsKept_set_zero hi (by decide)).trans (rowsKept_set_zero hi (by decide)))

theorem rowsKept_starHeard : RowsKept [PU.tripIn] s (s.starHeard i) :=
  rowsKept_on _ fun _ => rowsKept_tripIn _ _ _ _ (by decide) (by omega)

theorem rowsKept_vdsShown (vds vage : Nat) :
    RowsKept [GI.VDS.CODE, GI.VDS.VAGE, GLK.LINK_STAT.UP, GI.trained] s (s.vdsShown i vds vage) :=
  ((rowsKept_set_zero hi (by decide)).trans (rowsKept_set_zero hi (by decide))).trans
    ((rowsKept_set_zero (by decide) (by decide)).trans (rowsKept_set_zero hi (by decide)))

theorem rowsKept_uplinkHeard (vds vage : Nat) : RowsKept heardUpRows s (s.uplinkHeard i vds vage) :=
  ((rowsKept_linkBack s hi).trans ((rowsKept_vdsShown _ hi vds vage).mono (by decide +kernel))).trans
    ((rowsKept_starHeard _ hi).mono (by decide))

/-- The frame's Vds code and its age stand in the proxy, and the link is up (R191, R193). -/
theorem uplinkHeard_reads (vds : BitVec 10) (vage : BitVec 4) :
    (s.uplinkHeard i vds.toNat vage.toNat).get GI.VDS.CODE i = vds.toNat ∧
      (s.uplinkHeard i vds.toNat vage.toNat).get GI.VDS.VAGE i = vage.toNat ∧
      (s.uplinkHeard i vds.toNat vage.toNat).getBit GLK.LINK_STAT.UP i = true := by
  have hStar := rowsKept_starHeard ((s.linkBack i).vdsShown i vds.toNat vage.toNat) hi
  have hTrained (t : State) : RowsKept [GI.trained] t (t.set GI.trained 1 i) := rowsKept_set_zero hi (by decide)
  have hUp (t : State) : RowsKept [GLK.LINK_STAT.UP] t (t.setBit GLK.LINK_STAT.UP i true) := rowsKept_set_zero (by decide) (by decide)
  have hAge (t : State) : RowsKept [GI.VDS.VAGE] t (t.set GI.VDS.VAGE vage.toNat i) := rowsKept_set_zero hi (by decide)
  rw [uplinkHeard, hStar.get_zero hi (by decide), hStar.get_zero hi (by decide), hStar.getBit_zero i (by decide) (by decide), vdsShown]
  refine ⟨?_, ?_, ?_⟩
  · rw [(hTrained _).get_zero hi (by decide), (hUp _).get_zero hi (by decide), (hAge _).get_zero hi (by decide), get_set_self]
    exact Nat.mod_eq_of_lt vds.isLt
  · rw [(hTrained _).get_zero hi (by decide), (hUp _).get_zero hi (by decide), get_set_self]
    exact Nat.mod_eq_of_lt vage.isLt
  · rw [(hTrained _).getBit_zero i (by decide) (by decide)]
    exact getBit_setBit_self _ _ _ _ hi

end

/-! STATUS and EDGE (R191, R194, R199) -/

/-- A write of one row of an island is not read in another. -/
theorem get_set_other (s : State) {r q : Row} {v i : Nat} (hi : i < 12)
    (h : r.distinct q = true ∧ (12 ≤ r.c1 ∧ 0 < r.c2) ∧ 12 ≤ q.c1 ∧ 0 < q.c2) : (s.set r v i).get q i = s.get q i :=
  get_set_ne _ _ _ _ _ _ (Row.key_ne_of_distinct h.1 (by omega) h.2.1.2 (by omega) h.2.2.2)

/-- The fields of a STATUS frame that are not flags. -/
def statusShown (s : State) (i : Nat) : State :=
  ((((s.set GI.STATUS.STATE (s.get GI.iSt i) i).set GI.STATUS.ON (s.get GI.iOn i) i).set GI.STATUS.OVB (s.get GI.iOvb i) i).set
    GI.STATUS.BL_CODE (s.get GI.iBl i) i).set GI.STATUS.BANK (s.get GI.iBank i) i

/-- The rows that a STATUS frame writes beside those. -/
def statusFlagRows : List Row :=
  [GI.STATUS.TRIM, GLK.LINK_STAT.CONF, GI.STATUS.TRIM_SAT, GI.STATUS.CM_EVT, GI.STATUS.BL_CONTRA, GI.STATUS.BAD_CMD, RING.lost, GI.iFlag]

theorem rowsKept_statusTaken (s : State) {i : Nat} (hi : i < 12) : RowsKept statusFlagRows (s.statusShown i) (s.statusTaken i) := by
  have flag (k : Nat) {r : Row} (hr : r ∈ statusFlagRows ∧ 12 ≤ r.c1 ∧ 0 < r.c2) (t : State) :
      RowsKept statusFlagRows t (t.on (t.getBit GI.iFlag k i) (·.raise .warning r i)) :=
    rowsKept_on _ fun _ => rowsKept_raise _ _ _ _ _ hr.1 (by decide) (Nat.lt_of_lt_of_le hi hr.2.1) hr.2.2
  have hshown (t : State) (v : Nat) (b : Bool) : RowsKept statusFlagRows t ((t.set GI.STATUS.TRIM v i).setBit GLK.LINK_STAT.CONF i b) :=
    (rowsKept_set_zero hi (by decide)).trans (rowsKept_set_zero (by decide) (by decide))
  unfold statusTaken
  exact (hshown _ _ _).trans <| (rowsKept_on _ fun _ => rowsKept_set_zero hi (by decide)).trans <|
    (flag 2 (by decide) _).trans <| (flag 1 (by decide) _).trans <| (flag 0 (by decide) _).trans (rowsKept_set_zero hi (by decide))

/-- The island's state, switch and line code stand in the proxy (R194). -/
theorem statusTaken_reads (s : State) {i : Nat} (hi : i < 12) :
    (s.statusTaken i).get GI.STATUS.STATE i = s.get GI.iSt i ∧ (s.statusTaken i).is GI.STATUS.ON i = s.is GI.iOn i ∧
      (s.statusTaken i).get GI.STATUS.BL_CODE i = s.get GI.iBl i := by
  have hk := rowsKept_statusTaken s hi
  rw [hk.get_zero hi (by decide), hk.is_zero hi (by decide), hk.get_zero hi (by decide), is, is, statusShown]
  simp (disch := decide) only [get_set_other _ hi, get_set_self]
  exact ⟨Nat.mod_eq_of_lt (get_lt s GI.iSt i 0), congrArg (· != 0) (Nat.mod_eq_of_lt (get_lt s GI.iOn i 0)),
    Nat.mod_eq_of_lt (get_lt s GI.iBl i 0)⟩

theorem iFlag_statusTaken (s : State) (i : Nat) : (s.statusTaken i).get GI.iFlag i = 0 := get_set_self ..

end State

section
open State

theorem exec_statusFrame (isl : Fin 12) (vds : BitVec 10) (vage : BitVec 4) (s : State) (hpit : s.pit 0x20 5 isl = false) :
    ∃ t, exec (.statusFrame isl vds vage) s = .next t ∧
      t.get GI.STATUS.STATE isl = s.get GI.iSt isl ∧ t.is GI.STATUS.ON isl = s.is GI.iOn isl ∧ t.get GI.STATUS.BL_CODE isl = s.get GI.iBl isl ∧
      t.get GI.VDS.CODE isl = vds.toNat ∧ t.get GI.iFlag isl = 0 := by
  have hi := isl.isLt
  have hk := rowsKept_uplinkHeard s hi vds.toNat vage.toNat
  obtain ⟨hcode, -, -⟩ := uplinkHeard_reads s hi vds vage
  obtain ⟨hst, hon, hbl⟩ := statusTaken_reads (s.uplinkHeard isl vds.toNat vage.toNat) hi
  have hvds : (statusShown (s.uplinkHeard isl vds.toNat vage.toNat) isl).get GI.VDS.CODE isl = vds.toNat := by
    simp (disch := decide) only [statusShown, get_set_other _ hi, hcode]
  refine ⟨_, congrArg Host.Outcome.next (uplink_of_no_pit hpit _ _ _), ?_, ?_, ?_, ?_, iFlag_statusTaken _ _⟩
  · exact hst.trans (hk.get_zero hi (by decide +kernel))
  · exact hon.trans (hk.is_zero hi (by decide +kernel))
  · exact hbl.trans (hk.get_zero hi (by decide +kernel))
  · exact ((rowsKept_statusTaken _ hi).get_distinct hi (by decide)).trans hvds

theorem exec_edgeFrame (isl : Fin 12) (vds : BitVec 10) (vage : BitVec 4) (atEnd on : Bool) (time : BitVec 11) (first : Nat) (s : State)
    (hpit : s.pit 0x20 5 isl = false) :
    ∃ t, exec (.edgeFrame isl vds vage atEnd on time first) s = .next t ∧
      t.get GI.edgeAt isl (ofBool atEnd) = (first - time.toNat) % 2 ^ GI.edgeAt.width ∧ t.is GI.edgeDir isl (ofBool atEnd) = on ∧
      t.get GI.VDS.CODE isl = vds.toNat ∧ t.get GI.VDS.VAGE isl = vage.toNat ∧ t.getBit GLK.LINK_STAT.UP isl = true := by
  have hi := isl.isLt
  have hend : ofBool atEnd < 2 := by cases atEnd <;> decide
  obtain ⟨hcode, hage, hup⟩ := uplinkHeard_reads s hi vds vage
  have hAt (t : State) (v : Nat) : RowsKept [GI.edgeAt] t (t.set GI.edgeAt v isl (ofBool atEnd)) := rowsKept_set_only _ hi hend
  have hDir (t : State) : RowsKept [GI.edgeDir] t (t.setb GI.edgeDir on isl (ofBool atEnd)) := rowsKept_set_only _ hi hend
  refine ⟨_, congrArg Host.Outcome.next (uplink_of_no_pit hpit _ _ _), ?_, is_setb_self _ _ _ _ _ (by decide), ?_, ?_, ?_⟩
  · rw [(hDir _).get_eq (by decide) hi hend, get_set_self]
  · rw [(hDir _).get_zero hi (by decide), (hAt _ _).get_zero hi (by decide), hcode]
  · rw [(hDir _).get_zero hi (by decide), (hAt _ _).get_zero hi (by decide), hage]
  · rw [(hDir _).getBit_zero isl.val (by decide) (by decide), (hAt _ _).getBit_zero isl.val (by decide) (by decide), hup]

end

/-! ## TRIP, MEAS and CFG_RSP (R191, R193, R205, R211) -/

namespace State

/-- A cause sets its flag (R205). -/
def causeFlagged (s : State) (i c k : Nat) (r : Row) : State := s.on (bit c k) (·.raise .fault r i)

/-- A cause raises its source at the trip unit until the frame's time is over (R205). -/
def sourceRaised (s : State) (i c first k n : Nat) : State :=
  s.on (bit c k) fun u => (u.tripIn (i / 6) n).set PU.giEnd ((first + 129) / 2 + 256) (i / 6) n

/-- The flags of the causes `c`. -/
def tripFlags (s : State) (i c : Nat) : State :=
  ((((s.causeFlagged i c 4 GI.TRIP.DESAT).causeFlagged i c 3 GI.TRIP.DIDT).causeFlagged i c 2 GI.TRIP.UVLO).causeFlagged i c 1
    GI.TRIP.OT).causeFlagged i c 0 GI.TRIP.LINK

/-- The trip sources of the causes `c`. -/
def tripSources (s : State) (i c first : Nat) : State :=
  (((s.sourceRaised i c first 4 0).sourceRaised i c first 3 1).sourceRaised i c first 2 2).sourceRaised i c first 1 4

/-- The hold after over-temperature and the report to the Belay island (R282, R340); the causes are reported. -/
def tripReported (s : State) (i c : Nat) : State :=
  ((s.on (bit c 1) (·.setBit HK.OT_STAT.GI i true)).on (1 < c) fun t =>
    (t.set BL.sideRep 1 (i / 6) (if isLow i then 0 else 1)).set BL.repReq 1 (i / 6)).set GI.iCause 0 i

theorem causesTaken_of_none {s : State} {i : Nat} (h : s.get GI.iCause i = 0) (first det : Nat) : s.causesTaken i first det = s :=
  if_pos h

theorem causesTaken_of_some {s : State} {i c : Nat} (h : s.get GI.iCause i = c) (hc : c ≠ 0) (first det : Nat) :
    s.causesTaken i first det =
      ((((s.tripFlags i c).incSat GI.TRIP.TRIP_CNT i).set GI.tDet det i).tripSources i c first).tripReported i c := by
  subst h
  exact if_neg hc

section
variable (s : State) {i : Nat} (hi : i < 12) (c : Nat)
include hi

theorem is_causeFlagged {k : Nat} {r : Row} (hk : bit c k = true)
    (hr : (1 < 2 ^ r.width ∧ 12 ≤ r.c1 ∧ 0 < r.c2) ∧ RING.lost.distinct r = true) : (s.causeFlagged i c k r).is r i = true := by
  obtain ⟨⟨hw, hc1, hc2⟩, hlost⟩ := hr
  rw [causeFlagged, hk]
  exact is_raise _ _ _ _ _ _ hw fun j hj => Row.key_ne_of_distinct hlost hj (by decide) (Nat.lt_of_lt_of_le hi hc1) hc2

/-- The flag of another cause is not read. -/
theorem is_causeFlagged_other {k : Nat} {r q : Row}
    (h : ([r, RING.lost].all q.distinct = true ∧ 0 < q.c2) ∧ 12 ≤ q.c1 ∧ 12 ≤ r.c1 ∧ 0 < r.c2) :
    (s.causeFlagged i c k r).is q i = s.is q i := by
  obtain ⟨hq, hqc, hrc, hr2⟩ := h
  have hk : RowsKept [r, RING.lost] s (s.causeFlagged i c k r) :=
    rowsKept_on _ fun _ => rowsKept_raise _ _ _ _ _ (by simp) (by simp) (Nat.lt_of_lt_of_le hi hrc) hr2
  exact hk.is_distinct (Nat.lt_of_lt_of_le hi hqc) hq

theorem tripFlags_reads :
    (bit c 4 = true → (s.tripFlags i c).is GI.TRIP.DESAT i = true) ∧ (bit c 3 = true → (s.tripFlags i c).is GI.TRIP.DIDT i = true) ∧
      (bit c 2 = true → (s.tripFlags i c).is GI.TRIP.UVLO i = true) ∧ (bit c 1 = true → (s.tripFlags i c).is GI.TRIP.OT i = true) := by
  refine ⟨fun h => ?_, fun h => ?_, fun h => ?_, fun h => ?_⟩ <;>
    simp (disch := decide) only [tripFlags, is_causeFlagged_other _ hi, is_causeFlagged _ hi c h]

theorem rowsKept_sourceRaised (first k : Nat) {n : Nat} (hn : n < 5) :
    RowsKept [PU.tripIn, PU.giEnd] s (s.sourceRaised i c first k n) :=
  rowsKept_on _ fun _ => (rowsKept_tripIn _ _ _ _ (by decide) (by omega)).trans
    (rowsKept_set _ _ _ _ (by decide) (show i / 6 < 2 by omega) hn)

theorem rowsKept_tripSources (first : Nat) : RowsKept [PU.tripIn, PU.giEnd] s (s.tripSources i c first) :=
  ((rowsKept_sourceRaised s hi c first 4 (by decide)).trans (rowsKept_sourceRaised _ hi c first 3 (by decide))).trans
    ((rowsKept_sourceRaised _ hi c first 2 (by decide)).trans (rowsKept_sourceRaised _ hi c first 1 (by decide)))

/-- The end of a source's time is not read. -/
theorem getBit_sourceEnd (v m : Nat) {n : Nat} (hn : n < 5) :
    (s.set PU.giEnd v (i / 6) n).getBit PU.tripIn m (i / 6) = s.getBit PU.tripIn m (i / 6) :=
  (rowsKept_set_only s (show i / 6 < 2 by omega) hn).getBit_zero m (show i / 6 < 5 by omega) (by decide)

theorem getBit_sourceRaised {k n : Nat} (first : Nat) (hk : bit c k = true) (hn : n < 5) :
    (s.sourceRaised i c first k n).getBit PU.tripIn n (i / 6) = true := by
  rw [sourceRaised, hk, on_true, getBit_sourceEnd _ hi _ _ hn]
  exact getBit_tripIn_self _ _ (Nat.lt_trans hn (by decide))

/-- A source below the one that is raised is not changed. -/
theorem getBit_sourceRaised_lt (first k : Nat) {m n : Nat} (hm : m < n ∧ n < 5) :
    (s.sourceRaised i c first k n).getBit PU.tripIn m (i / 6) = s.getBit PU.tripIn m (i / 6) := by
  cases h : bit c k
  · rw [sourceRaised, h, on_false]
  · rw [sourceRaised, h, on_true, getBit_sourceEnd _ hi _ _ hm.2]
    exact getBit_setBit_lt _ _ _ _ _ hm.1 (Nat.lt_trans hm.2 (by decide))

theorem tripSources_reads (first : Nat) :
    (bit c 4 = true → (s.tripSources i c first).getBit PU.tripIn 0 (i / 6) = true) ∧
      (bit c 3 = true → (s.tripSources i c first).getBit PU.tripIn 1 (i / 6) = true) ∧
      (bit c 2 = true → (s.tripSources i c first).getBit PU.tripIn 2 (i / 6) = true) ∧
      (bit c 1 = true → (s.tripSources i c first).getBit PU.tripIn 4 (i / 6) = true) := by
  refine ⟨fun h => ?_, fun h => ?_, fun h => ?_, fun h => ?_⟩ <;>
    simp (disch := decide) only [tripSources, getBit_sourceRaised_lt _ hi, getBit_sourceRaised _ hi c first h]

theorem rowsKept_tripReported : RowsKept [HK.OT_STAT.GI, BL.sideRep, BL.repReq, GI.iCause] s (s.tripReported i c) := by
  have hstar : i / 6 < 2 := by omega
  have hside : (if isLow i then 0 else 1) < 2 := by split <;> decide
  exact ((rowsKept_on _ fun _ => rowsKept_set_zero (by decide) (by decide)).trans
    (rowsKept_on _ fun _ => (rowsKept_set _ _ _ _ (by decide) hstar hside).trans (rowsKept_set_zero hstar (by decide)))).trans
      (rowsKept_set_zero hi (by decide))

/-- The rows that a TRIP frame writes beside its flags. -/
def tripRows : List Row :=
  [GI.TRIP.TRIP_CNT, GI.tDet, PU.tripIn, PU.giEnd, HK.OT_STAT.GI, BL.sideRep, BL.repReq, GI.iCause]

/-- A TRIP frame with causes sets their flags, raises their sources and gives the instant of the detection; they are reported then (R205). -/
theorem causesTaken_reads {first det : Nat} {t : State} (ht : s.causesTaken i first det = t) :
    (s.get GI.iCause i ≠ 0 → t.get GI.tDet i = det % 2 ^ GI.tDet.width) ∧
      (bit (s.get GI.iCause i) 4 = true → t.is GI.TRIP.DESAT i = true ∧ t.getBit PU.tripIn 0 (i / 6) = true) ∧
      (bit (s.get GI.iCause i) 3 = true → t.is GI.TRIP.DIDT i = true ∧ t.getBit PU.tripIn 1 (i / 6) = true) ∧
      (bit (s.get GI.iCause i) 2 = true → t.is GI.TRIP.UVLO i = true ∧ t.getBit PU.tripIn 2 (i / 6) = true) ∧
      (bit (s.get GI.iCause i) 1 = true → t.is GI.TRIP.OT i = true ∧ t.getBit PU.tripIn 4 (i / 6) = true) ∧
      t.get GI.iCause i = 0 := by
  by_cases hc : s.get GI.iCause i = 0
  case pos =>
    obtain rfl : s = t := (causesTaken_of_none hc first det).symm.trans ht
    rw [hc]
    exact ⟨fun h => absurd rfl h, nofun, nofun, nofun, nofun, rfl⟩
  case neg =>
    rw [causesTaken_of_some rfl hc] at ht
    generalize s.get GI.iCause i = c at ht
    obtain ⟨fDesat, fDidt, fUvlo, fOt⟩ := tripFlags_reads s hi c
    generalize s.tripFlags i c = u at ht fDesat fDidt fUvlo fOt
    generalize hv : (u.incSat GI.TRIP.TRIP_CNT i).set GI.tDet det i = v at ht
    obtain ⟨bDesat, bDidt, bUvlo, bOt⟩ := tripSources_reads v hi c first
    have hsrc := rowsKept_tripSources v hi c first
    have hrep := rowsKept_tripReported (v.tripSources i c first) hi c
    rw [ht] at hrep
    have hflag : RowsKept tripRows u t := by
      have hcount : RowsKept tripRows u v := hv ▸ (rowsKept_set_zero hi (by decide)).trans (rowsKept_set_zero hi (by decide))
      exact hcount.trans ((hsrc.mono (by decide)).trans (hrep.mono (by decide)))
    have hunit : i / 6 < 5 := by omega
    refine ⟨fun _ => ?_, fun h => ⟨(hflag.is_zero hi (by decide)).trans (fDesat h), (hrep.getBit_zero 0 hunit (by decide)).trans (bDesat h)⟩,
      fun h => ⟨(hflag.is_zero hi (by decide)).trans (fDidt h), (hrep.getBit_zero 1 hunit (by decide)).trans (bDidt h)⟩,
      fun h => ⟨(hflag.is_zero hi (by decide)).trans (fUvlo h), (hrep.getBit_zero 2 hunit (by decide)).trans (bUvlo h)⟩,
      fun h => ⟨(hflag.is_zero hi (by decide)).trans (fOt h), (hrep.getBit_zero 4 hunit (by decide)).trans (bOt h)⟩, ?_⟩
    · rw [hrep.get_zero hi (by decide), hsrc.get_zero hi (by decide), ← hv, get_set_self]
    · rw [← ht, tripReported, get_set_self, Nat.zero_mod]

end

/-- A MEAS frame puts its value where SEL says (R191). -/
def measTaken (s : State) (i sel v : Nat) : State :=
  match sel with
  | 0 => s.set GI.MEAS_T.TDIE v i
  | 1 => s.set GI.MEAS_T.TNTC v i
  | 2 => s.set GI.MEAS_V.VPOS v i
  | 3 => s.set GI.MEAS_V.VNEG v i
  | _ => s

/-- The answer of a CFG_RSP frame: the word read, or ERR (R191). -/
def cfgAnswer (s : State) (i : Nat) : Nat :=
  match s.islandRead i (s.get GI.iRdA i) with
  | some d => d
  | none => 4096

/-- A read of a profile word answers that of the inactive bank (R193). -/
theorem cfgAnswer_profile {s : State} {i : Nat} (h : s.get GI.iRdA i < 0x100) :
    s.cfgAnswer i = s.get GI.iPb i (256 * (1 - s.get GI.iBank i) + s.get GI.iRdA i) := by
  simp only [cfgAnswer, islandRead, h, if_true]

end State

section
open State

theorem exec_tripFrame (isl : Fin 12) (vds : BitVec 10) (vage : BitVec 4) (tdet : BitVec 8) (first : Nat) (s : State)
    (hpit : s.pit 0x20 5 isl = false) :
    ∃ t, exec (.tripFrame isl vds vage tdet first) s = .next t ∧
      (s.get GI.iCause isl ≠ 0 → t.get GI.tDet isl = (first - tdet.toNat) % 2 ^ GI.tDet.width) ∧
      (bit (s.get GI.iCause isl) 4 = true → t.is GI.TRIP.DESAT isl = true ∧ t.getBit PU.tripIn 0 (isl / 6) = true) ∧
      (bit (s.get GI.iCause isl) 3 = true → t.is GI.TRIP.DIDT isl = true ∧ t.getBit PU.tripIn 1 (isl / 6) = true) ∧
      (bit (s.get GI.iCause isl) 2 = true → t.is GI.TRIP.UVLO isl = true ∧ t.getBit PU.tripIn 2 (isl / 6) = true) ∧
      (bit (s.get GI.iCause isl) 1 = true → t.is GI.TRIP.OT isl = true ∧ t.getBit PU.tripIn 4 (isl / 6) = true) ∧
      t.get GI.iCause isl = 0 := by
  have hk := rowsKept_uplinkHeard s isl.isLt vds.toNat vage.toNat
  rw [← hk.get_zero (r := GI.iCause) isl.isLt (by decide +kernel)]
  exact ⟨_, congrArg Host.Outcome.next (uplink_of_no_pit hpit _ _ _), causesTaken_reads _ isl.isLt rfl⟩

theorem exec_measFrame (isl : Fin 12) (vds : BitVec 10) (vage : BitVec 4) (sel : BitVec 3) (val : BitVec 10) (s : State)
    (h : s.pit 0x20 5 isl = false ∧ s.pit 0x20 7 isl = false) :
    ∃ t, exec (.measFrame isl vds vage sel val) s = .next t ∧
      (sel = 0 → t.get GI.MEAS_T.TDIE isl = val.toNat) ∧
      (sel = 2 → t.get GI.MEAS_V.VPOS isl = val.toNat) ∧
      (sel = 3 → t.get GI.MEAS_V.VNEG isl = val.toNat) ∧
      (sel = 1 → t.get GI.MEAS_T.TNTC isl = if 16 ≤ s.get GI.iCtl isl then 0 else val.toNat) := by
  obtain ⟨hpit, hot⟩ := h
  have hval : val.toNat % 2 ^ 10 = val.toNat := Nat.mod_eq_of_lt val.isLt
  have hexec : exec (.measFrame isl vds vage sel val) s = .next ((s.uplinkHeard isl vds.toNat vage.toNat).measTaken isl sel.toNat
      (if sel == 1 && 16 ≤ s.get GI.iCtl isl then 0 else val.toNat)) := by
    simp only [exec, execMeasFrame, hot, Bool.false_and, on_false, Bool.false_eq_true, if_false, uplink_of_no_pit hpit]
    rfl
  refine ⟨_, hexec, ?_, ?_, ?_, ?_⟩ <;> rintro rfl
  · exact (get_set_self ..).trans hval
  · exact (get_set_self ..).trans hval
  · exact (get_set_self ..).trans hval
  · refine (get_set_self ..).trans ?_
    by_cases hctl : 16 ≤ s.get GI.iCtl isl
    · simp [hctl]
    · simp only [hctl, decide_false, Bool.and_false, Bool.false_eq_true, if_false]
      exact hval

theorem exec_cfgRsp (isl : Fin 12) (vds : BitVec 10) (vage : BitVec 4) (s : State)
    (h : s.pit 0x20 5 isl = false ∧ s.is GI.iRd isl = true) :
    ∃ t, exec (.cfgRsp isl vds vage) s = .next t ∧
      t.is GI.iRd isl = false ∧
      (s.get GI.iRdA isl < 0x100 →
        t.get GI.rsp isl = s.get GI.iPb isl (256 * (1 - s.get GI.iBank isl) + s.get GI.iRdA isl) % 2 ^ GI.rsp.width) := by
  obtain ⟨hpit, hrd⟩ := h
  have hi := isl.isLt
  have hdone : RowsKept [GI.iRd] s (s.set GI.iRd 0 isl) := rowsKept_set_zero hi (by decide)
  have hheard := rowsKept_uplinkHeard (s.set GI.iRd 0 isl) hi vds.toNat vage.toNat
  have hpit' : (s.set GI.iRd 0 isl).pit 0x20 5 isl = false := (hdone.pit _ _ _ (by decide)).trans hpit
  have hexec : exec (.cfgRsp isl vds vage) s = .next ((s.set GI.iRd 0 isl).uplink isl vds.toNat vage.toNat fun t =>
      t.set GI.rsp (t.cfgAnswer isl) isl) := congrArg Host.Outcome.next (if_neg (by simp [hrd]))
  rw [uplink_of_no_pit hpit'] at hexec
  refine ⟨_, hexec, ?_, fun haddr => ?_⟩
  · have hrsp (t : State) (v : Nat) : RowsKept [GI.rsp] t (t.set GI.rsp v isl) := rowsKept_set_zero hi (by decide)
    rw [(hrsp _ _).is_zero hi (by decide), hheard.is_zero hi (by decide +kernel)]
    exact is_set_zero ..
  · have hk : RowsKept ([GI.iRd] ++ heardUpRows) s ((s.set GI.iRd 0 isl).uplinkHeard isl vds.toNat vage.toNat) :=
      (hdone.mono fun _ => List.mem_append_left _).trans (hheard.mono fun _ => List.mem_append_right _)
    have hA : ((s.set GI.iRd 0 isl).uplinkHeard isl vds.toNat vage.toNat).get GI.iRdA isl = s.get GI.iRdA isl :=
      hk.get_zero hi (by decide +kernel)
    have hB : ((s.set GI.iRd 0 isl).uplinkHeard isl vds.toNat vage.toNat).get GI.iBank isl = s.get GI.iBank isl :=
      hk.get_zero hi (by decide +kernel)
    rw [get_set_self, cfgAnswer_profile (hA ▸ haddr), hA, hB]
    exact congrArg (· % 2 ^ GI.rsp.width) (hk.get_eq (r := GI.iPb) (by decide +kernel) hi (show _ < 512 by omega))

end

/-! ## Link losses (R193, R194, R210) -/

namespace State

section
variable (s : State) {i : Nat} (hi : i < 12)
include hi

/-- A cause waits for the next TRIP frame (R205). -/
theorem iCause_islandCause {n : Nat} (hn : n < 5) : (s.islandCause i n).getBit GI.iCause n i = true := by
  have hLast (t : State) (v : Nat) : RowsKept [GI.iLast] t (t.set GI.iLast v i) := rowsKept_set_zero hi (by decide)
  rw [islandCause, (hLast _ _).getBit_zero n hi (by decide)]
  exact getBit_setBit_self _ _ _ _ hn

/-- An island whose switch is off along the soft profile, in HELD. -/
theorem softHeld_reads : ((s.softTurnOff i).set GI.iSt 2 i).get GI.iSt i = 2 ∧ ((s.softTurnOff i).set GI.iSt 2 i).is GI.iOn i = false := by
  have hSt (t : State) : RowsKept [GI.iSt] t (t.set GI.iSt 2 i) := rowsKept_set_zero hi (by decide)
  exact ⟨get_set_self .., ((hSt _).is_zero hi (by decide)).trans (iOn_softTurnOff s hi false)⟩

end
end State

section
open State

theorem exec_islandLinkLoss (isl : Fin 12) (s : State) :
    ∃ t, exec (.islandLinkLoss isl) s = .next t ∧
      t.is GI.iLost isl = true ∧ t.getBit GI.iCause 0 isl = true ∧
      (s.get GI.iSt isl = 1 ∨ s.get GI.iSt isl = 2 ∨ s.get GI.iSt isl = 3 → t.get GI.iSt isl = 2 ∧ t.is GI.iOn isl = false) ∧
      (s.get GI.iSt isl = 4 → t.get GI.iSt isl = 4 ∧ t.is GI.iOn isl = s.is GI.iOn isl) := by
  have hi := isl.isLt
  have hcause (t : State) := rowsKept_islandCause (t.set GI.iLost 1 isl) hi 0
  have hlost (t : State) : RowsKept [GI.iLost, GI.iCause, GI.iLast] t ((t.set GI.iLost 1 isl).islandCause isl 0) :=
    (rowsKept_set_zero hi (by decide)).trans ((hcause t).mono (by decide))
  refine ⟨_, rfl, ?_, iCause_islandCause _ hi (by decide), fun hst => ?_, fun hst => ?_⟩
  · exact ((hcause _).is_zero hi (by decide)).trans (is_set_one _ _ _ _ (by decide))
  · have hheld : (s.get GI.iSt isl = 0 || s.get GI.iSt isl = 4) = false := by
      simp only [Bool.or_eq_false_iff, decide_eq_false_iff_not]
      omega
    obtain ⟨hSt, hOn⟩ := softHeld_reads s hi
    simp only [linkLost, hheld, Bool.false_eq_true, if_false]
    exact ⟨((hlost _).get_zero hi (by decide)).trans hSt, ((hlost _).is_zero hi (by decide)).trans hOn⟩
  · simp only [linkLost, hst, decide_true, Bool.or_true, if_true]
    exact ⟨((hlost _).get_zero hi (by decide)).trans hst, (hlost _).is_zero hi (by decide)⟩

theorem exec_endpointLinkLoss (isl : Fin 12) (s : State) (htrained : s.is GI.trained isl = true) :
    ∃ t, exec (.endpointLinkLoss isl) s = .next t ∧
      t.getBit GLK.LINK_STAT.UP isl = false ∧ t.getBit PU.tripIn 3 (isl / 6) = true := by
  have hi := isl.isLt
  have hexec : exec (.endpointLinkLoss isl) s =
      .next (((s.setBit GLK.LINK_STAT.UP isl false).set GI.glLost 1 isl).tripIn (isl / 6) 3) := by
    simp only [exec, execEndpointLinkLoss, htrained, if_true]
  have hk (t : State) : RowsKept [GI.glLost, PU.tripIn] t ((t.set GI.glLost 1 isl).tripIn (isl / 6) 3) :=
    (rowsKept_set_zero hi (by decide)).trans (rowsKept_tripIn _ _ _ _ (by decide) (by omega))
  refine ⟨_, hexec, ?_, getBit_tripIn_self _ _ (by decide)⟩
  exact ((hk _).getBit_zero isl.val (by decide) (by decide)).trans (getBit_setBit_false ..)

end

/-! ## Off-state diagnostics (R212, R213) -/

/-- The status of a star's diagnostics. -/
def osdStat (star : Fin 2) : Row := if star = 0 then GLK.OSD_RES.STAT_A else GLK.OSD_RES.STAT_B

/-- The START bit of a star's diagnostics. -/
def osdGo (star : Fin 2) : Row := if star = 0 then GLK.OSD_CMD.START_A else GLK.OSD_CMD.START_B

/-- The result of a star's diagnostics. -/
def osdRes (star : Fin 2) : Row := if star = 0 then GLK.OSD_RES.RES_A else GLK.OSD_RES.RES_B

namespace State

/-- The node voltages of a step stand, and the step is counted (R213). -/
def osdStored (s : State) (star : Fin 2) (u v w : Nat) : State :=
  let n := s.get GLK.osdN star
  (((s.set GLK.osd u star (3 * n)).set GLK.osd v star (3 * n + 1)).set GLK.osd w star (3 * n + 2)).set GLK.osdN (n + 1) star

/-- The diagnostics end with the result `r`. -/
def osdEnded (s : State) (star : Fin 2) (r : Nat) : State :=
  (((s.set (osdRes star) r).set (osdStat star) 2).set (osdGo star) 0).event .info star 0x20 0x0001 ((osdRes star).addr 0 0) r

/-- The result of the diagnostics, three bits for each phase (R213). -/
def osdResult (s : State) (star : Fin 2) : Nat := s.osdClass star 0 + 8 * s.osdClass star 1 + 64 * s.osdClass star 2

theorem osdStat_width : ∀ star, (osdStat star).width = 3 := by decide

theorem get_osdStat_set (s : State) (star : Fin 2) {v : Nat} (hv : v < 8) : (s.set (osdStat star) v).get (osdStat star) = v := by
  rw [get_set_self, osdStat_width]
  exact Nat.mod_eq_of_lt hv

/-- The status shares no place with the rows that are written with it. -/
theorem osdStat_key_ne : ∀ star : Fin 2, (osdGo star).key 0 0 ≠ (osdStat star).key 0 0 ∧ (osdRes star).key 0 0 ≠ (osdStat star).key 0 0 ∧
    GLK.osdN.key star 0 ≠ (osdStat star).key 0 0 ∧ ∀ k < 4, RING.lost.key k 0 ≠ (osdStat star).key 0 0 := by decide

theorem osdStat_osdEnded (s : State) (star : Fin 2) (r : Nat) : (s.osdEnded star r).get (osdStat star) = 2 := by
  obtain ⟨hgo, -, -, hlost⟩ := osdStat_key_ne star
  rw [osdEnded, get_event _ _ _ _ _ _ _ _ _ _ hlost, get_set_ne _ _ _ _ _ _ hgo, get_osdStat_set _ _ (by decide)]

/-- The end of diagnostics writes START, result and status. -/
theorem rowsKept_osdEnded (s : State) (star : Fin 2) (r : Nat) :
    RowsKept [osdRes star, osdStat star, osdGo star, RING.lost] s (s.osdEnded star r) := by
  have hone : ∀ star, ∀ r ∈ [osdRes star, osdStat star, osdGo star], 0 < r.c1 ∧ 0 < r.c2 := by decide
  have hset (t : State) {q : Row} (v : Nat) (hq : q ∈ [osdRes star, osdStat star, osdGo star]) :
      RowsKept [osdRes star, osdStat star, osdGo star, RING.lost] t (t.set q v) :=
    rowsKept_set _ _ _ _ (by simp only [List.mem_cons] at hq ⊢; tauto) (hone star q hq).1 (hone star q hq).2
  exact ((hset _ _ (by simp)).trans ((hset _ _ (by simp)).trans (hset _ _ (by simp)))).trans (rowsKept_event _ _ _ _ _ _ _ (by simp))

/-- The three node voltages of the step are recorded, and the steps are counted (R213). -/
theorem osdStored_reads (s : State) (star : Fin 2) (u v w : BitVec 10) {n : Nat} (hn : s.get GLK.osdN star = n) (hlast : n < 12) :
    let t := s.osdStored star u.toNat v.toNat w.toNat
    t.get GLK.osd star (3 * n) = u.toNat ∧ t.get GLK.osd star (3 * n + 1) = v.toNat ∧ t.get GLK.osd star (3 * n + 2) = w.toNat ∧
      t.get GLK.osdN star = n + 1 := by
  subst hn
  have hkey {j k : Nat} (h : j ≠ k) : GLK.osd.key star j ≠ GLK.osd.key star k := by
    simp only [Row.key, Row.addr, GLK.osd]
    omega
  have hcount (t : State) (x : Nat) : RowsKept [GLK.osdN] t (t.set GLK.osdN x star) := rowsKept_set_only _ star.isLt (by decide)
  have hcode (x : BitVec 10) : x.toNat % 2 ^ GLK.osd.width = x.toNat := Nat.mod_eq_of_lt x.isLt
  refine ⟨?_, ?_, ?_, (get_set_self ..).trans (Nat.mod_eq_of_lt (show _ < 16 by omega))⟩ <;>
    rw [osdStored, (hcount _ _).get_eq (by decide) star.isLt (show _ < 36 by omega)]
  · rw [get_set_ne _ _ _ _ _ _ (hkey (by omega)), get_set_ne _ _ _ _ _ _ (hkey (by omega)), get_set_self, hcode]
  · rw [get_set_ne _ _ _ _ _ _ (hkey (by omega)), get_set_self, hcode]
  · rw [get_set_self, hcode]

end State

section
open State

theorem exec_osdStart_eq (star : Fin 2) (s : State) : exec (.osdStart star) s = .next
    (if !s.pdOn 3 then s else if s.get (osdStat star) = 1 then s
      else if s.osdOk star then (((s.set (osdGo star) 1).set (osdStat star) 1).set (osdRes star) 0).set GLK.osdN 0 star
      else (s.set (osdStat star) 3).set (osdGo star) 0) :=
  match star with
  | 0 => rfl
  | 1 => rfl

theorem exec_osdStep_eq (star : Fin 2) (u v w : BitVec 10) (s : State) : exec (.osdStep star u v w) s = .next
    (if s.get (osdStat star) ≠ 1 then s
      else if s.get GLK.osdN star + 1 < 12 then s.osdStored star u.toNat v.toNat w.toNat
      else (s.osdStored star u.toNat v.toNat w.toNat).osdEnded star ((s.osdStored star u.toNat v.toNat w.toNat).osdResult star)) :=
  match star with
  | 0 => rfl
  | 1 => rfl

theorem exec_osdStart (star : Fin 2) (s : State) (hidle : s.get (osdStat star) ≠ 1) (hpd : s.pdOn 3 = true) :
    ∃ t, exec (.osdStart star) s = .next t ∧
      (s.osdOk star = true → t.get (osdStat star) = 1 ∧ t.get GLK.osdN star = 0) ∧
      (s.osdOk star = false → t.get (osdStat star) = 3) := by
  obtain ⟨hgo, hres, hcount, -⟩ := osdStat_key_ne star
  refine ⟨_, exec_osdStart_eq star s, fun hok => ?_, fun hok => ?_⟩ <;>
    simp only [hpd, hidle, hok, Bool.not_true, Bool.false_eq_true, if_false, if_true]
  · refine ⟨?_, get_set_self ..⟩
    rw [get_set_ne _ _ _ _ _ _ hcount, get_set_ne _ _ _ _ _ _ hres, get_osdStat_set _ _ (by decide)]
  · rw [get_set_ne _ _ _ _ _ _ hgo, get_osdStat_set _ _ (by decide)]

theorem exec_osdStep (star : Fin 2) (u v w : BitVec 10) (s : State) (h : s.get (osdStat star) = 1 ∧ s.get GLK.osdN star < 12) :
    ∃ t, exec (.osdStep star u v w) s = .next t ∧
      t.get GLK.osd star (3 * s.get GLK.osdN star) = u.toNat ∧ t.get GLK.osd star (3 * s.get GLK.osdN star + 1) = v.toNat ∧
      t.get GLK.osd star (3 * s.get GLK.osdN star + 2) = w.toNat ∧
      (s.get GLK.osdN star < 11 → t.get GLK.osdN star = s.get GLK.osdN star + 1) ∧
      (s.get GLK.osdN star = 11 → t.get (osdStat star) = 2) := by
  obtain ⟨hrun, hlast⟩ := h
  obtain ⟨hu, hv, hw, hcount⟩ := osdStored_reads s star u v w rfl hlast
  have hexec := exec_osdStep_eq star u v w s
  rw [if_neg (not_not.2 hrun)] at hexec
  by_cases hend : s.get GLK.osdN star + 1 < 12
  · rw [if_pos hend] at hexec
    exact ⟨_, hexec, hu, hv, hw, fun _ => hcount, fun h => by omega⟩
  · rw [if_neg hend] at hexec
    have hapart : ∀ star, [osdRes star, osdStat star, osdGo star, RING.lost].all GLK.osd.apart = true := by decide
    have hkept {j : Nat} (hj : j < 36) := (rowsKept_osdEnded (s.osdStored star u.toNat v.toNat w.toNat) star
      ((s.osdStored star u.toNat v.toNat w.toNat).osdResult star)).get_eq (hapart star) star.isLt hj
    exact ⟨_, hexec, (hkept (by omega)).trans hu, (hkept (by omega)).trans hv, (hkept (by omega)).trans hw, fun h => by omega,
      fun _ => osdStat_osdEnded ..⟩

end

/-- Settles O22: the uplink frames by what every valid one does before its own fields are taken, the losses and the diagnostics by the rows
that they write. -/
theorem gateUplinkFramesAndDiagnostics : Obligations.GateUplinkFramesAndDiagnostics := by
  unfold Obligations.GateUplinkFramesAndDiagnostics
  exact ⟨exec_statusFrame, exec_edgeFrame, exec_tripFrame, exec_measFrame, exec_cfgRsp, exec_islandLinkLoss, exec_endpointLinkLoss,
    exec_osdStart, exec_osdStep⟩

/-! ## RELEASE after a link loss (R193, R194) -/

/-- Island 1 is in HELD with its line at RUN, and the loss of its downlink is the only cause that stands. -/
def heldByLinkLoss : State := ((State.reset.set GI.iSt 2 1).set GI.iBl 0 1).set GI.iLost 1 1

theorem noRelease_heldByLinkLoss : heldByLinkLoss.noRelease 1 = true := by decide

/-- The frame that carries RELEASE is a valid downlink frame, so it ends the loss, and no cause stands when RELEASE is judged. -/
theorem iSt_islandRelease_heldByLinkLoss :
    ∃ t, exec (.islandRelease 1) heldByLinkLoss = .next t ∧ t.get GI.iSt 1 = 3 :=
  ⟨_, rfl, by decide +kernel⟩

/-- Refutes O21, by RELEASE with a cause standing: the statement judges the causes before the frame, and link loss is one of them. A valid
frame ends it, the one with RELEASE too, so that an island in HELD whose only cause is a link loss goes to READY and sets no BAD_CMD. -/
theorem not_gateIslandConfigurationCommands : ¬ Obligations.GateIslandConfigurationCommands := by
  unfold Obligations.GateIslandConfigurationCommands
  rintro ⟨hrelease, -⟩
  obtain ⟨t, hexec, hready⟩ := iSt_islandRelease_heldByLinkLoss
  obtain ⟨t', hexec', -, hheld, -⟩ := hrelease 1 heldByLinkLoss
  obtain rfl : t' = t := Host.Outcome.next.inj (hexec'.symm.trans hexec)
  obtain ⟨hst, -⟩ := hheld (by decide) noRelease_heldByLinkLoss
  exact absurd (hst.symm.trans hready) (by decide)

/-! ## The turn-on of a short circuit (R193, R195, R207) -/

/-- A short waits on low-side island 1 in SAFE. The first segment of the turn-on profile of slot 15, which SC_SLOT resets to, is one step
long, where every segment of its turn-off profile is four. -/
def shortWithBriefTurnOn : State := ((State.reset.set GI.iSt 4 1).set GI.iSc 1 1).set GI.iPb 0 1 240

/-- The edge ends when the turn-on profile has run. -/
theorem iEndT_scTurnOn_shortWithBriefTurnOn :
    ∃ t, exec (.scTurnOn 1 0 []) shortWithBriefTurnOn = .next t ∧
      t.get GI.iEndT 1 = shortWithBriefTurnOn.profTicks 1 15 (State.wordDir true) :=
  ⟨_, rfl, by decide +kernel⟩

/-- Refutes O23, by the end of a short's turn-on: the statement takes the duration of direction 1 of slot SC_SLOT, which is the turn-off
profile (R193). The edge runs direction 0, the turn-on profile, and here ends 12 × 1.25 ns before that. -/
theorem not_gateIslandLineBroadcastAndProtection : ¬ Obligations.GateIslandLineBroadcastAndProtection := by
  unfold Obligations.GateIslandLineBroadcastAndProtection
  rintro ⟨-, -, hturnOn, -⟩
  obtain ⟨t, hexec, hend⟩ := iEndT_scTurnOn_shortWithBriefTurnOn
  obtain ⟨t', hexec', hends, -⟩ := hturnOn 1 0 [] shortWithBriefTurnOn (by decide) (by decide)
  obtain rfl : t' = t := Host.Outcome.next.inj (hexec'.symm.trans hexec)
  exact absurd (hends.symm.trans hend) (by decide +kernel)

end Sys2Proof.Machine
end

/-!
Auxiliary drives (09): the frame of the context table and aux drive commands (O51) fails at a network DISABLE.
-/
section
namespace Sys2Proof.Machine

/-! ## A response to a slot whose controller is none of the block's, at a DISABLE (R263, R264, R308, R316) -/

/-- As in `resetFromRewrittenSlot` the slot is not enabled, and its configuration reads CHAN 1 (CAN) and INST 4; the network command under way
is a DISABLE of channel 2, which is off already. -/
def disableOfIdleChannelFromRewrittenSlot : State := resetFromRewrittenSlot.set BL.netOp 0x11

/-- No channel ramps, so that the DISABLE completes at once, with a response. -/
theorem txbAct_four_ringDisable_disableOfIdleChannelFromRewrittenSlot :
    ∃ t, exec (.ringDisable true) disableOfIdleChannelFromRewrittenSlot = .next t ∧ t.get CAN.TXB_ACT.ACT 4 = 2 ^ 31 :=
  ⟨_, rfl, by decide +kernel⟩

/-- Refutes O51, by DISABLE as a network command: its response goes into buffer 31 of the controller that the slot's INST names, without a
check that there is one. With INST 4 it sets a bit of a TXB_ACT of controller 4, a place of no row of the command's list, where the block
has controllers 0 to 3. The statement takes every state, so this one too. -/
theorem not_contextTableAndAuxiliaryFrames : ¬ Obligations.ContextTableAndAuxiliaryFrames := by
  unfold Obligations.ContextTableAndAuxiliaryFrames
  intro frame
  obtain ⟨t, hexec, hact⟩ := txbAct_four_ringDisable_disableOfIdleChannelFromRewrittenSlot
  obtain ⟨rowsKept, -, -⟩ := frame _ _ _ _ t rfl hexec
  have h := rowsKept CAN.TXB_ACT.ACT 4 0 (keys_ne_of_placeAt_eq_none (by decide +kernel))
  rw [hact] at h
  exact absurd h (by decide)

end Sys2Proof.Machine
end

/-!
Axis context table (10): the statement of the jobs of the table (O26) fails at a SAVE that is refused; ENABLE, DISABLE and the disable ramp
do what is said of them (O27).
-/
section
namespace Sys2Proof.Machine

/-! ## A refused SAVE with the queue of warnings full (R236, R271) -/

/-- A warning as ACCESS_REFUSED of a SAVE raises it. -/
def saveRefusedEvent : Event := { time := 0, inst := 0, source := 3, code := 2, arg0 := ACT.CMD.GO.addr 0 0, arg1 := 0x80000002 }

/-- PD2 is on, no role session is open, and 64 warnings wait, as many as the queue of a class holds. -/
def warningsFull : State := { State.reset.set SYS.PWR_STAT.PD_ON 4 with evWarning := List.replicate 64 saveRefusedEvent }

/-- The refused SAVE raises one more warning, for which the queue has no room: it is counted as lost. -/
theorem lost_actSave_warningsFull :
    ∃ t, exec .actSave warningsFull = .next t ∧ t.get RING.lost 1 = warningsFull.get RING.lost 1 + 1 :=
  ⟨_, rfl, by decide +kernel⟩

/-- Refutes O26, by ACT_SAVE of a role that may not write: the statement has every register as before, whether or not the queue of warnings
has room. Where 64 warnings wait the ACCESS_REFUSED is lost, and the count of lost records, which is a row of the state, goes up (R271). -/
theorem not_contextTableJobsFetchAndCheck : ¬ Obligations.ContextTableJobsFetchAndCheck := by
  unfold Obligations.ContextTableJobsFetchAndCheck
  rintro ⟨-, -, save, -⟩
  obtain ⟨t, hexec, hlost⟩ := lost_actSave_warningsFull
  obtain ⟨t', hexec', hrefused, -⟩ := save warningsFull (by decide) (by decide)
  obtain rfl : t' = t := Host.Outcome.next.inj (hexec'.symm.trans hexec)
  obtain ⟨hregs, -⟩ := hrefused (by decide)
  exact absurd (hlost.symm.trans (State.get_congr hregs ..)) (by decide)

end Sys2Proof.Machine
end

section
namespace Sys2Proof.Machine

namespace State

/-! ## Completing a descriptor (R251 to R253, R256 to R258) -/

/-- What was sent before stands at the front of what is sent now. -/
def OutGrows (s t : State) : Prop := s.out <+: t.out

namespace OutGrows

variable {s t u : State}

theorem refl (s : State) : OutGrows s s := List.prefix_rfl

theorem trans (h : OutGrows s t) (k : OutGrows t u) : OutGrows s u := List.IsPrefix.trans h k

theorem of_eq (h : t.out = s.out) : OutGrows s t := by rw [OutGrows, h]

theorem set (h : OutGrows s t) (r : Row) (v i j : Nat) : OutGrows s (t.set r v i j) := h

theorem send (h : OutGrows s t) (m : Msg) : OutGrows s (t.send m) := h.trans (List.prefix_append ..)

theorem on (h : OutGrows s t) (c : Bool) {f : State → State} (hf : OutGrows t (f t)) : OutGrows s (t.on c f) := by
  cases c
  · exact h
  · exact h.trans hf

end OutGrows

theorem Framed.outGrows {rs : List Row} {fs : List Rec} {s t : State} (h : Framed rs fs s t) (ho : Rec.out ∉ fs) : OutGrows s t :=
  .of_eq (h.recs .out ho)

/-- A performance counter that wraps may send an interrupt (R471). -/
theorem outGrows_perfWrap (s : State) (k : Nat) : OutGrows s (s.perfWrap k) := by
  have hraise : Framed Touch.perfAdd [.events, .store] s (s.raiseBit .warning PERF.OVF.OVF k) :=
    (framed_refl s).raiseBit (by decide) (by decide)
  exact (hraise.outGrows (by decide)).on _ ((OutGrows.refl _).send _)

theorem outGrows_perfAdd (s : State) (source inst event n : Nat) : OutGrows s (s.perfAdd source inst event n) := by
  unfold perfAdd
  split
  · exact .refl s
  · refine forN_rel (R := OutGrows) .refl .trans 32 _ (fun k u _ => ?_) s
    split
    · exact (((OutGrows.refl u).set ..).set ..).on _ (outGrows_perfWrap _ k)
    · exact .refl u

/-- The new head, and from slot 0 on the next pass (R252, R256). -/
def headMoved (s : State) (n : Nat) : State :=
  let head := (s.get RING.HEAD.HEAD n + 1) % s.get RING.CFG.SIZE n
  (s.set RING.HEAD.HEAD head n).on (head == 0) (·.inc RING.pass n)

/-- The completion counted, for the write-back, the interrupt and the performance counters (R257, R258, R470). -/
def slotCounted (s : State) (n : Nat) : State :=
  (((s.headMoved n).inc RING.cplCount n).incSat RING.unsig n).perfAdd 0x02 n 0x30 1

theorem ringAdvance_eq (s : State) (n : Nat) (irq : Bool) : ∃ m c,
    s.ringAdvance n irq = ((s.slotCounted n).send m).on c (·.ringSignal n) := ⟨_, _, rfl⟩

section
variable (s : State) {n : Nat} (hn : n < 32)
include hn

theorem framed_headMoved : Framed Touch.ringAdvance [.events, .store, .out] s (s.headMoved n) := by
  unfold headMoved
  exact ((framed_refl s).setIn hn (by decide)).on fun _ => (framed_refl _).setIn hn (by decide)

theorem framed_slotCounted : Framed Touch.ringAdvance [.events, .store, .out] s (s.slotCounted n) := by
  have hcount : Framed Touch.ringAdvance [.events, .store, .out] s (((s.headMoved n).inc RING.cplCount n).incSat RING.unsig n) :=
    ((s.framed_headMoved hn).setIn hn (by decide)).setIn hn (by decide)
  exact hcount.andThen (framed_perfAdd ..) (by decide)

theorem framed_ringSignal : Framed Touch.ringAdvance [.events, .store, .out] s (s.ringSignal n) := by
  have hset : Framed Touch.ringAdvance [.events, .store, .out] s (s.set RING.unsig 0 n) := (framed_refl s).setIn hn (by decide)
  exact .ite (fun _ => hset.set (by decide)) fun _ => hset.send (by decide)

theorem framed_ringAdvance (irq : Bool) : Framed Touch.ringAdvance [.events, .store, .out] s (s.ringAdvance n irq) := by
  obtain ⟨m, c, h⟩ := s.ringAdvance_eq n irq
  rw [h]
  exact ((s.framed_slotCounted hn).send (by decide)).on fun _ => framed_ringSignal _ hn

omit hn in
theorem outGrows_ringAdvance (n : Nat) (irq : Bool) : OutGrows s (s.ringAdvance n irq) := by
  have hmoved : OutGrows s (s.headMoved n) := ((OutGrows.refl s).set ..).on _ ((OutGrows.refl _).set ..)
  have hsignal (u : State) : OutGrows u (u.ringSignal n) := by
    unfold ringSignal msixSignal
    split
    · exact .refl u
    · exact (OutGrows.refl u).send _
  obtain ⟨m, c, h⟩ := s.ringAdvance_eq n irq
  rw [h]
  exact (((hmoved.set ..).set ..).trans (outGrows_perfAdd ..)).send _ |>.on _ (hsignal _)

end

/-- The ring has no descriptor in progress any more, and nothing of it waits. -/
def ringIdle (s : State) (n : Nat) : State :=
  ({ s with descs := s.descs.filter (·.1 != n), plays := s.plays.filter (·.ring != n),
            ridgeIn := s.ridgeIn.filter fun m => !(m.chan == 0 && m.inst == n) } : State).set RING.STAT.BUSY 0 n

/-- The rows that a restart of a ring writes once the ring is idle. -/
def restartRows : List Row := Touch.ringRestart.filter (· != RING.STAT.BUSY)

theorem framed_unask (s : State) {k : Nat} (hk : k < 5) : Framed restartRows [] s (s.unask k) := by
  unfold unask
  exact (((framed_refl s).on fun _ => (framed_refl s).set (by decide)).on fun _ =>
    (framed_refl _).set (by decide) |>.set (by decide)).setIn hk (by decide)

/-- What the ring has started elsewhere goes on for nobody (R251). -/
theorem framed_abandon (s : State) (n : Nat) : Framed restartRows [.ethTxQ] (s.ringIdle n) (s.abandon n) := by
  have hunask {k : Nat} (hk : k < 5) : Framed restartRows [.ethTxQ] (s.ringIdle n) ((s.ringIdle n).unask k) :=
    (framed_unask _ hk).mono (by decide)
  have hcxl {j : Nat} (hj : j < 2) :
      Framed restartRows [.ethTxQ] (s.ringIdle n) ((s.ringIdle n).forN 4 fun c t => (t.set CAN.cxl 0 c j).set CAN.cxlDone 0 c j) :=
    (framed_refl _).forN fun k v hk => (framed_refl v).set ⟨by decide, hk, hj⟩ |>.set ⟨by decide, hk, hj⟩
  unfold abandon
  dsimp only
  split
  · exact ((hunask (by decide)).set (by decide)).on fun _ => (framed_refl _).set (by decide)
  · exact ((hunask (by decide)).set (by decide)).on fun _ => (framed_refl _).set (by decide)
  · exact (framed_refl _).on fun _ => (framed_refl _).set (by decide)
  · exact (framed_refl _).on fun _ => (framed_refl _).set (by decide)
  · exact hcxl (by decide)
  · exact hcxl (by decide)
  · refine ⟨rowsKept_refl _ _, fun f hf => ?_, rfl⟩
    cases f
    case ethTxQ => exact absurd (by decide) hf
    case events => exact fun c => by cases c <;> rfl
    all_goals simp [Rec.Kept, ringIdle]
  · exact framed_refl _

theorem framed_ringRestart (s : State) {n : Nat} (hn : n < 32) (size : Nat) :
    Framed restartRows [.ethTxQ, .events, .store] (s.ringIdle n) (s.ringRestart n size) := by
  have hset := ((s.framed_abandon n).mono (qs := restartRows) (gs := [.ethTxQ, .events, .store]) (by decide)).setIn hn
    (r := RING.CFG.SIZE) (v := size) (j := 0) (by decide) |>.setIn hn (r := RING.HEAD.HEAD) (v := 0) (j := 0) (by decide)
    |>.setIn hn (r := RING.TAIL.TAIL) (v := 0) (j := 0) (by decide) |>.setIn hn (r := RING.pass) (v := 0) (j := 0) (by decide)
    |>.setIn hn (r := RING.STAT.HALT) (v := 0) (j := 0) (by decide) |>.setIn hn (r := RING.sizePend) (v := 0) (j := 0) (by decide)
  have hsums (u : State) : Framed restartRows [.ethTxQ, .events, .store] u (u.ringSums n) :=
    (framed_refl u).set (r := RING.ERR_SUM.ERR) (by decide) |>.set (r := RING.HALT_SUM.HALT) (by decide)
  unfold ringRestart
  exact ((hset.on fun _ => (framed_refl _).setIn hn (by decide)).trans (hsums _)).on fun _ => (framed_refl _).event (by decide)

/-- The completion is sent and the descriptor no longer in progress, before the head moves (R256, R257). -/
def completed (s : State) (n : Nat) (d : Desc) (st : Status) (result : Nat) : State :=
  let s1 := s.send (.completion n (s.get RING.HEAD.HEAD n) (s.get RING.pass n % 2 == 0) st.code d.tag.toNat (result % 2 ^ 32))
  ({ s1 with descs := s1.descs.filter (·.1 != n), plays := s1.plays.filter (·.ring != n) } : State).set RING.STAT.BUSY 0 n

/-- With or without a SIZE write that waited (R253), nothing comes between that and the state after it but the move of the head. -/
theorem complete_eq (s : State) {n : Nat} {d : Desc} (hd : s.desc n = some d) (st : Status) (result : Nat) :
    s.complete n st result = (s.completed n d st result).ringAdvance n d.irq ∨
    ∃ size, s.complete n st result = ((s.completed n d st result).ringAdvance n d.irq).ringRestart n size := by
  unfold complete
  rw [hd]
  dsimp only
  split
  · exact .inr ⟨_, rfl⟩
  · exact .inl rfl

theorem rowsKept_ringIdle (s : State) {n : Nat} (hn : n < 32) : RowsKept [RING.STAT.BUSY] s (s.ringIdle n) :=
  rowsKept_set_zero (s := { s with descs := _, plays := _, ridgeIn := _ }) hn (by decide)

theorem rowsKept_ringRestart (s : State) {n : Nat} (hn : n < 32) (size : Nat) : RowsKept Touch.ringRestart s (s.ringRestart n size) :=
  ((s.rowsKept_ringIdle hn).mono (by decide)).trans ((s.framed_ringRestart hn size).rows.mono (by decide))

theorem rowsKept_complete (s : State) {n : Nat} (hn : n < 32) (st : Status) (result : Nat) :
    RowsKept Touch.complete s (s.complete n st result) := by
  cases hd : s.desc n with
  | none =>
    unfold complete
    rw [hd]
    exact rowsKept_refl _ _
  | some d =>
    have hdone : RowsKept [RING.STAT.BUSY] s (s.completed n d st result) :=
      rowsKept_set_zero (s := { s.send _ with descs := _, plays := _ }) hn (by decide)
    have hmoved : RowsKept Touch.complete s ((s.completed n d st result).ringAdvance n d.irq) :=
      (hdone.mono (by decide)).trans ((framed_ringAdvance _ hn d.irq).rows.mono (by decide))
    rcases s.complete_eq hd st result with h | ⟨size, h⟩ <;> rw [h]
    · exact hmoved
    · exact hmoved.trans ((rowsKept_ringRestart _ hn size).mono (by decide))

/-- A descriptor in progress completes. -/
theorem completes_complete (s : State) {n : Nat} (hn : n < 32) {d : Desc} (hd : s.desc n = some d) (st : Status) (result : Nat) :
    s.Completes (s.complete n st result) n d st result := by
  have hfree (l : List (Nat × Desc)) : (l.filter fun x => x.1 != n).lookup n = none := by simp [lookup_filter_ne]
  have hadvance := framed_ringAdvance (s.completed n d st result) hn d.irq
  have hsent : OutGrows (s.send (.completion n (s.get RING.HEAD.HEAD n) (s.get RING.pass n % 2 == 0) st.code d.tag.toNat
    (result % 2 ^ 32))) ((s.completed n d st result).ringAdvance n d.irq) :=
    OutGrows.trans (.of_eq rfl) (outGrows_ringAdvance (s.completed n d st result) n d.irq)
  have hmem {t : State} (h : OutGrows (s.send (.completion n (s.get RING.HEAD.HEAD n) (s.get RING.pass n % 2 == 0) st.code d.tag.toNat
      (result % 2 ^ 32))) t) : Msg.completion n (s.get RING.HEAD.HEAD n) (s.get RING.pass n % 2 == 0) st.code d.tag.toNat
      (result % 2 ^ 32) ∈ t.out.drop s.out.length := by
    obtain ⟨l, hl⟩ := h
    rw [← hl]
    simp
  rcases s.complete_eq hd st result with h | ⟨size, h⟩ <;> rw [h]
  · refine ⟨?_, ?_, hmem hsent⟩
    · rw [desc, hadvance.recs .descs (by decide)]
      exact hfree _
    · rw [hadvance.rows.is_distinct hn (by decide)]
      exact is_set_self ..
  · have hrestart := framed_ringRestart ((s.completed n d st result).ringAdvance n d.irq) hn size
    refine ⟨?_, ?_, hmem ((hsent.trans (.of_eq rfl)).trans (hrestart.outGrows (by decide)))⟩
    · rw [desc, hrestart.recs .descs (by decide)]
      exact hfree _
    · rw [hrestart.rows.is_distinct hn (by decide)]
      exact is_set_self ..

/-! ## The end of a safety command (R256, R263, R316) -/

/-- The row with a member for every number that INST of a slot can name, of which the block has only some. -/
def anyInst (r : Row) : Row := { r with c1 := 16 }

/-- The rows that the end of a safety command writes: a response goes to the controller that the slot names. -/
def commandRows : List Row :=
  [BL.RS_CNT.TX_DROP, BL.netBusy, BL.respSeq] ++ [CAN.TXB_ACT.ACT, CAN.TXB_SHD.SHD, CAN.cur].map anyInst ++ Touch.complete

theorem rowsKept_set_anyInst {rs : List Row} (s : State) {r : Row} (v : Nat) {i : Nat} (hi : i < 16) (h : anyInst r ∈ rs ∧ 0 < r.c2) :
    RowsKept rs s (s.set r v i) := rowsKept_set s (r := anyInst r) v i 0 h.1 hi h.2

theorem rowsKept_canPut {c : Nat} (hc : c < 16) (s : State) (b : Nat) (shadow : Bool) (f : CanFrame) :
    RowsKept commandRows s (s.canPut c b shadow f) := by
  cases shadow
  · exact rowsKept_set_anyInst s (r := CAN.TXB_ACT.ACT) _ hc (by decide)
  · exact rowsKept_set_anyInst s (r := CAN.TXB_SHD.SHD) _ hc (by decide)

theorem rowsKept_canChoose {c : Nat} (hc : c < 16) (s : State) : RowsKept commandRows s (s.canChoose c) := by
  unfold canChoose
  dsimp only
  split <;> exact rowsKept_set_anyInst s (r := CAN.cur) _ hc (by decide)

theorem rowsKept_respond (s : State) {k : Nat} (hk : k < 16) (src dst mac op status result seq respSeq seed : Nat) :
    RowsKept commandRows s (s.respond k src dst mac op status result seq respSeq seed) := by
  have hdrop : RowsKept commandRows s (s.respDrop k) := rowsKept_set_zero hk (by decide)
  have hinst : s.get BL.RS_CFG.INST k < 16 := get_lt ..
  unfold respond
  dsimp only
  split
  · exact hdrop
  split
  · exact rowsKept_send _ _ _
  split
  · exact (rowsKept_canPut hinst _ _ _ _).trans (rowsKept_on _ fun _ => rowsKept_canChoose hinst _)
  split
  · exact rowsKept_canPut hinst _ _ _ _
  · exact hdrop

theorem rowsKept_commandDone (s : State) (net : Bool) (st : Status) (result : Nat) :
    RowsKept commandRows s (s.commandDone net st result) := by
  cases net
  · exact (rowsKept_set_zero (by decide) (by decide)).trans ((rowsKept_complete _ (by decide) st result).mono (by decide))
  · have hslot : s.get BL.netSlot < 16 := get_lt ..
    have hbusy : RowsKept commandRows s (s.set BL.netBusy 0) := rowsKept_set_zero (by decide) (by decide)
    exact (hbusy.trans (rowsKept_respond _ hslot _ _ _ _ _ _ _ _ _)).trans (rowsKept_set_zero hslot (by decide))

theorem rowsKept_commandOver (s : State) (net : Bool) (st : Status) : RowsKept commandRows s (s.commandOver net st) :=
  rowsKept_commandDone _ _ _ _

theorem desc_of_running {s : State} {n op : Nat} {d : Desc} (h : s.running n op = some d) : s.desc n = some d := by
  unfold running at h
  split at h
  · rename_i hd
    split at h
    · rwa [hd]
    · exact absurd h nofun
  · exact absurd h nofun

/-- On ring 1 the command's descriptor completes, with the 16 payload bytes where it is done. -/
theorem completes_commandOver {s : State} {d : Desc} (hd : s.desc 1 = some d) (st : Status) :
    s.Completes (s.commandOver false st) 1 d st (if st = .ok then 16 else 0) := by
  have hresult : (if !false && st == .ok then 16 else 0) = if st = .ok then 16 else 0 := by cases st <;> rfl
  unfold commandOver commandDone
  rw [hresult]
  obtain ⟨hdesc, hbusy, hout⟩ := completes_complete (s.set RING.ridgeOk 0) (n := 1) (by decide) hd st (if st = .ok then 16 else 0)
  rw [get_set_ne _ _ _ _ _ _ (by decide), get_set_ne _ _ _ _ _ _ (by decide)] at hout
  exact ⟨hdesc, hbusy, hout⟩

/-- What came before the completion and left the rings alone does not show in it. -/
theorem Completes.of_framed {rs : List Row} {fs : List Rec} {s u t : State} {n : Nat} (hn : n < 32) {d : Desc} {st : Status} {result : Nat}
    (h : Framed rs fs s u) (ho : Rec.out ∉ fs) (hr : (rs.all RING.HEAD.HEAD.distinct && rs.all RING.pass.distinct) = true)
    (hc : u.Completes t n d st result) : s.Completes t n d st result := by
  obtain ⟨hdesc, hbusy, hout⟩ := hc
  rw [Bool.and_eq_true] at hr
  rw [h.recs .out ho, h.rows.get_distinct hn ⟨hr.1, by decide⟩, h.rows.get_distinct hn ⟨hr.2, by decide⟩] at hout
  exact ⟨hdesc, hbusy, hout⟩

end State
end Sys2Proof.Machine
end

section
namespace Sys2Proof.Machine

namespace State

/-! ## DISABLE (R263, R264, R340) -/

/-- A place that every row of the list is clear of reads as before. -/
theorem RowsKept.get_of_clearOf {rs : List Row} {s t : State} (h : RowsKept rs s t) {r : Row} {i j : Nat}
    (hr : rs.all (Row.clearOf (r.key i j / 32)) = true) : t.get r i j = s.get r i j :=
  h r i j fun q hq _ ha _ hb => Row.key_ne_of_clearOf (List.all_eq_true.1 hr q hq) ha hb

theorem commandRows_clearOf_chEn : ∀ c : Fin 8, commandRows.all (Row.clearOf (ACT.chEn.key c 0 / 32)) = true := by decide +kernel

theorem RowsKept.chEn_of_commandRows {s t : State} (h : RowsKept commandRows s t) (c : Fin 8) : t.is ACT.chEn c = s.is ACT.chEn c := by
  rw [is, is, h.get_of_clearOf (commandRows_clearOf_chEn c)]

theorem rowsKept_disableDone (s : State) : RowsKept commandRows s s.disableDone := by
  have hdone : RowsKept commandRows s (s.set ACT.disSrc 0) := rowsKept_set_zero (by decide) (by decide)
  unfold disableDone
  dsimp only
  split
  · split
    · exact hdone
    · exact hdone.trans (rowsKept_commandOver _ _ _)
  · exact rowsKept_refl _ _

/-- The rows that the end of a traction channel writes beside the one that says that it is enabled. -/
def tractionRows : List Row := Touch.tractionEnd.filter (· != ACT.chEn)

theorem lt_of_mem_chAxes {ch a : Nat} (h : a ∈ chAxes ch) : a < 2 := by
  unfold chAxes chAx at h
  split_ifs at h <;> simp at h <;> omega

theorem lt_of_mem_chEngines {ch e : Nat} (h : e ∈ chEngines ch) : e < 7 := by
  unfold chEngines chAx at h
  split_ifs at h <;> simp at h <;> omega

theorem lt_of_mem_chRuns {ch e : Nat} (h : e ∈ chRuns ch) : e < 7 := by
  rcases List.mem_append.1 h with h | h
  · exact lt_of_mem_chEngines h
  · unfold chAx at h
    split_ifs at h <;> simp at h <;> omega

theorem framed_injStop (s : State) {a : Nat} (ha : a < 2) : Framed tractionRows [] s (s.injStop a) := by
  unfold injStop injEnd
  exact (framed_refl s).setIn ha (by decide) |>.setIn ha (by decide) |>.setIn ha (by decide) |>.setIn ha (by decide)
    |>.setIn ha (by decide) |>.setIn ha (by decide) |>.setIn ha (by decide)

theorem framed_catchAbort (s : State) {a : Nat} (ha : a < 2) : Framed tractionRows [] s (s.catchAbort a) :=
  (framed_refl s).on fun _ => ((framed_refl _).setIn (lead_lt _ ha) (by decide)).setIn (lead_lt _ ha) (by decide)

theorem framed_setMode (s : State) {a : Nat} (ha : a < 2) (m : Nat) : Framed tractionRows [.events, .store] s (s.setMode a m) :=
  .ite (fun _ => framed_refl s) fun _ => ((framed_refl s).setIn ha (by decide)).event (by decide)

theorem chAx_lt (ch : Nat) : chAx ch < 2 := by
  unfold chAx
  split <;> omega

theorem framed_tractionEnd (s : State) {ch : Nat} (hch : ch < 8) :
    Framed tractionRows [.events, .store] (s.set ACT.chEn 0 ch) (s.tractionEnd ch) := by
  have ha := chAx_lt ch
  unfold tractionEnd
  dsimp only
  refine Framed.set (Framed.set (Framed.setIn ?_ hch (by decide)) (by decide)) (by decide)
  refine Framed.forN ?_ fun k u hk => (framed_refl u).set ⟨by decide, ha, hk⟩
  refine Framed.trans (Framed.andThen (Framed.andThen ?_ (framed_injStop _ ha) (by decide)) (framed_catchAbort _ ha) (by decide))
    (framed_setMode _ ha 0)
  refine Framed.foldl (Framed.foldl (Framed.foldl (framed_refl _) _ fun u a h => ?_) _ fun u e h => ?_) _ fun u e h => ?_
  · have ha : a < 2 := lt_of_mem_chAxes h
    exact ((framed_refl u).setIn ha (by decide)).setIn (Nat.lt_of_lt_of_le ha (by decide)) (by decide)
  · exact (framed_refl u).setIn (lt_of_mem_chRuns h) (by decide)
  · exact (framed_refl u).setIn (lt_of_mem_chEngines h) (by decide)

theorem tractionRows_clearOf_chEn : ∀ c : Fin 8, tractionRows.all (Row.clearOf (ACT.chEn.key c 0 / 32)) = true := by decide +kernel

/-- A traction channel that ends is not enabled any more. -/
theorem chEn_traction0 (s : State) (c : Fin 8) : (s.traction0 c).is ACT.chEn c = false := by
  unfold traction0
  rw [is, (framed_tractionEnd _ c.isLt).rows.get_of_clearOf (tractionRows_clearOf_chEn c), get_set_self]
  rfl

/-- Of a mask that names one channel, the one turn is taken. -/
theorem forN_bit_two_pow (c : Fin 8) (f : Nat → State → State) (s : State) :
    (s.forN 8 fun ch t => if bit (2 ^ c.val) ch then f ch t else t) = f c s := by
  match c with
  | 0 | 1 | 2 | 3 | 4 | 5 | 6 | 7 => rfl

/-- A DISABLE as it is taken up, before its channel. -/
def disableTaken (s : State) (net : Bool) (m : Nat) : State :=
  ((s.set ACT.disSrc (if net then 3 else 2)).set ACT.disMask m).set ACT.disFail 0

theorem exec_ringDisable_eq {net : Bool} {b : Nat} {c : Fin 8} {s : State} (hcmd : s.command net 0x11 = some b)
    (hfree : s.is ACT.disSrc = false) (hmask : b % 256 = 2 ^ c.val) :
    exec (.ringDisable net) s = .next ((s.disableTaken net (2 ^ c.val)).disable1 c).disableDone := by
  change execRingDisable net s = _
  unfold execRingDisable
  simp only [hcmd, hfree, hmask, Bool.false_eq_true, if_false]
  rw [forN_bit_two_pow c (fun ch t => t.disable1 ch)]
  rfl

/-- The rows of a DISABLE that is taken up. -/
def disableRows : List Row := [ACT.disSrc, ACT.disMask, ACT.disFail]

theorem framed_disableTaken (s : State) (net : Bool) (m : Nat) : Framed disableRows [] s (s.disableTaken net m) :=
  (framed_refl s).set (r := ACT.disSrc) (by decide) |>.set (r := ACT.disMask) (by decide) |>.set (r := ACT.disFail) (by decide)

theorem disableTaken_reads (s : State) (c : Fin 8) : (s.disableTaken false (2 ^ c.val)).get ACT.disSrc = 2 ∧
    (s.disableTaken false (2 ^ c.val)).get ACT.disFail = 0 ∧
    ((s.disableTaken false (2 ^ c.val)).setBit ACT.disMask c false).is ACT.disMask = false := by
  have hmask : ∀ c : Fin 8, (2 ^ c.val % 256 - (if bit (2 ^ c.val % 256) c then 2 ^ c.val else 0) + 0) % 256 = 0 := by decide
  refine ⟨?_, get_set_self .., ?_⟩
  · rw [disableTaken, get_set_ne _ _ _ _ _ _ (by decide), get_set_ne _ _ _ _ _ _ (by decide), get_set_self]
    rfl
  · have hget : (s.disableTaken false (2 ^ c.val)).get ACT.disMask = 2 ^ c.val % 256 := by
      rw [disableTaken, get_set_ne _ _ _ _ _ _ (by decide), get_set_self]
      rfl
    rw [setBit, is, get_set_self, hget]
    exact bne_eq_false_iff_eq.2 (hmask c)

/-- A DISABLE whose channel is not enabled has nothing to wait for. -/
theorem completes_disable_idle {s : State} {d : Desc} {op : Nat} (hd : s.running 1 op = some d) (c : Fin 8) :
    s.Completes ((s.disableTaken false (2 ^ c.val)).setBit ACT.disMask c false).disableDone 1 d .ok 16 := by
  obtain ⟨hsrc, hfail, hmask⟩ := s.disableTaken_reads c
  have hframed : Framed disableRows [] s (((s.disableTaken false (2 ^ c.val)).setBit ACT.disMask c false).set ACT.disSrc 0) :=
    ((s.framed_disableTaken false (2 ^ c.val)).set (by decide)).set (by decide)
  have hdone : ((s.disableTaken false (2 ^ c.val)).setBit ACT.disMask c false).disableDone =
      (((s.disableTaken false (2 ^ c.val)).setBit ACT.disMask c false).set ACT.disSrc 0).commandOver false .ok := by
    have hsrc' : ((s.disableTaken false (2 ^ c.val)).setBit ACT.disMask c false).get ACT.disSrc = 2 :=
      (get_set_ne _ _ _ _ _ _ (by decide)).trans hsrc
    have hfail' : ((s.disableTaken false (2 ^ c.val)).setBit ACT.disMask c false).get ACT.disFail = 0 :=
      (get_set_ne _ _ _ _ _ _ (by decide)).trans hfail
    unfold disableDone
    rw [is, hsrc', hfail', hmask]
    rfl
  rw [hdone]
  refine .of_framed (by decide) hframed (by decide) (by decide) (completes_commandOver ?_ .ok)
  rw [desc, hframed.recs .descs (by decide)]
  exact desc_of_running hd

theorem rampN_disableDone (s : State) (c : Fin 8) : s.disableDone.get ACT.rampN c = s.get ACT.rampN c :=
  s.rowsKept_disableDone.get_of_clearOf
    ((by decide +kernel : ∀ c : Fin 8, commandRows.all (Row.clearOf (ACT.rampN.key c 0 / 32)) = true) c)

/-- What a DISABLE does to a channel that is enabled: nothing of it depends on the request itself. -/
theorem disable1_reads (s : State) (c : Fin 8) (hen : s.is ACT.chEn c = true) :
    (c.val < 2 → s.is BL.wind c = false → s.get SQ.STATUS.MODE c ∉ [1, 6, 7] → (s.disable1 c).get ACT.rampN c = 1 ∧
      (s.disable1 c).is ACT.chEn c = true) ∧
    (c.val < 2 → s.is BL.wind c = false → s.get SQ.STATUS.MODE c ∈ [1, 6, 7] → (s.disable1 c).is ACT.chEn c = false) ∧
    (2 ≤ c.val → c.val ≤ 4 → (s.disable1 c).get ACT.rampN c = 1) ∧
    (c.val = 5 → (s.disable1 c).is ACT.chEn 5 = s.disRunning) := by
  have hramp : (s.set ACT.rampN 1 c).get ACT.rampN c = 1 := get_set_self ..
  have haxis (h : c.val < 2) : s.is BL.wind c = false → s.disable1 c =
      if s.get SQ.STATUS.MODE c ∈ [1, 6, 7] then s.traction0 c else s.set ACT.rampN 1 c := fun hwind => by
    have hax : chAxes c = [c.val] ∧ chAx c = c.val ∧ isTraction c = true := (by decide : ∀ c : Fin 8, c.val < 2 →
      chAxes c = [c.val] ∧ chAx c = c.val ∧ isTraction c = true) c h
    obtain ⟨hall, hax, htr⟩ := hax
    simp only [disable1, hen, htr, hall, hax, hwind, List.any_cons, List.any_nil, Bool.or_false, Bool.not_true, Bool.false_eq_true,
      if_false, if_true, List.mem_cons, List.not_mem_nil, or_false, Bool.or_eq_true, decide_eq_true_eq]
    simp only [or_assoc]
  refine ⟨fun h hwind hmode => ?_, fun h hwind hmode => ?_, fun h2 h4 => ?_, fun h5 => ?_⟩
  · rw [haxis h hwind, if_neg hmode]
    refine ⟨hramp, ?_⟩
    rw [is, get_set_ne _ _ _ _ _ _ (Row.key_ne_of_apart (by decide) c.isLt (by decide) c.isLt (by decide))]
    exact hen
  · rw [haxis h hwind, if_pos hmode]
    exact s.chEn_traction0 c
  · have hkind : isTraction c = false ∧ c.val ≠ 5 ∧ c.val ≠ 6 := (by decide : ∀ c : Fin 8, 2 ≤ c.val → c.val ≤ 4 →
      isTraction c = false ∧ c.val ≠ 5 ∧ c.val ≠ 6) c h2 h4
    obtain ⟨htr, h5, h6⟩ := hkind
    simp only [disable1, hen, htr, h5, h6, Bool.not_true, Bool.false_eq_true, if_false, hramp]
  · obtain rfl : c = 5 := Fin.ext h5
    have hoff : ((s.set ACT.chEn 0 5).setBit ACT.disMask 5 false).is ACT.chEn 5 = false := by
      rw [is, setBit, get_set_ne _ _ _ _ _ _ (by decide), get_set_self]
      rfl
    have hon : ((s.on (!s.is ACT.disFail) (·.set ACT.disFail (Status.state.code + 1))).setBit ACT.disMask 5 false).is ACT.chEn 5 = true := by
      rw [is, setBit, get_set_ne _ _ _ _ _ _ (by decide), get_on, get_set_ne _ _ _ _ _ _ (by decide), ite_self]
      exact hen
    have hdisable : s.disable1 5 = if s.disRunning then (s.on (!s.is ACT.disFail) (·.set ACT.disFail (Status.state.code + 1))).setBit
        ACT.disMask 5 false else (s.set ACT.chEn 0 5).setBit ACT.disMask 5 false := by
      change s.is ACT.chEn 5 = true at hen
      unfold disable1
      rw [hen]
      rfl
    change (s.disable1 5).is ACT.chEn 5 = _
    rw [hdisable]
    cases s.disRunning
    · exact hoff
    · exact hon

theorem exec_ringDisable (net : Bool) (b : Nat) (c : Fin 8) (s : State)
    (h : s.command net 0x11 = some b ∧ s.is ACT.disSrc = false ∧ b % 256 = 2 ^ c.val) :
    ∃ t, exec (.ringDisable net) s = .next t ∧
      (s.is ACT.chEn c = false → net = false → ∀ d ∈ s.running 1 0x11, s.Completes t 1 d .ok 16) ∧
      (s.is ACT.chEn c = true → c.val < 2 → s.is BL.wind c = false → s.get SQ.STATUS.MODE c ∉ [1, 6, 7] →
        t.get ACT.rampN c = 1 ∧ t.is ACT.chEn c = true) ∧
      (s.is ACT.chEn c = true → c.val < 2 → s.is BL.wind c = false → s.get SQ.STATUS.MODE c ∈ [1, 6, 7] → t.is ACT.chEn c = false) ∧
      (s.is ACT.chEn c = true → 2 ≤ c.val → c.val ≤ 4 → t.get ACT.rampN c = 1) ∧
      (s.is ACT.chEn c = true → c.val = 5 → t.is ACT.chEn 5 = s.disRunning) := by
  obtain ⟨hcmd, hfree, hmask⟩ := h
  have htaken := (s.framed_disableTaken net (2 ^ c.val)).rows
  have hen : (s.disableTaken net (2 ^ c.val)).is ACT.chEn c = s.is ACT.chEn c := htaken.is_distinct c.isLt (by decide)
  have hwind (h2 : c.val < 2) : (s.disableTaken net (2 ^ c.val)).is BL.wind c = s.is BL.wind c := htaken.is_distinct h2 (by decide)
  have hmode (h2 : c.val < 2) : (s.disableTaken net (2 ^ c.val)).get SQ.STATUS.MODE c = s.get SQ.STATUS.MODE c :=
    htaken.get_distinct h2 (by decide)
  have hdis : (s.disableTaken net (2 ^ c.val)).disRunning = s.disRunning := by
    rw [disRunning, disRunning, htaken.get_distinct (r := BL.DIS_STAT.STATE) (by decide) (by decide)]
  have hdone (u : State) := u.rowsKept_disableDone.chEn_of_commandRows
  have hreads (h1 : s.is ACT.chEn c = true) := disable1_reads _ c (hen.trans h1)
  refine ⟨_, exec_ringDisable_eq hcmd hfree hmask, fun h0 hnet d hd => ?_, fun h1 h2 hw hm => ?_, fun h1 h2 hw hm => ?_,
    fun h1 h2 h4 => ?_, fun h1 h5 => ?_⟩
  · subst hnet
    have hdrop : (s.disableTaken false (2 ^ c.val)).disable1 c = (s.disableTaken false (2 ^ c.val)).setBit ACT.disMask c false := by
      unfold disable1
      rw [hen, h0]
      rfl
    rw [hdrop]
    exact completes_disable_idle hd c
  · obtain ⟨hramp, -⟩ := hreads h1
    rw [rampN_disableDone, hdone]
    exact hramp h2 ((hwind h2).trans hw) (by rwa [hmode h2])
  · obtain ⟨-, hends, -⟩ := hreads h1
    rw [hdone]
    exact hends h2 ((hwind h2).trans hw) (by rwa [hmode h2])
  · obtain ⟨-, -, hramp, -⟩ := hreads h1
    rw [rampN_disableDone]
    exact hramp h2 h4
  · obtain ⟨-, -, -, hlink⟩ := hreads h1
    exact (hdone _ 5).trans ((hlink h5).trans hdis)

/-! ## The end of a disable ramp (R264) -/

/-- The rows that the halt of an aux channel writes beside its bridge and its STATE. -/
def haltRows : List Row := Touch.axHalt.filter (· != AX.CH_STAT.STATE)

theorem framed_axHalt (s : State) {c : Nat} (hc : 2 ≤ c ∧ c ≤ 4) :
    Framed haltRows [] ((s.bridgeOff c).set AX.CH_STAT.STATE 0 (c - 2)) (s.axHalt c) := by
  have hk : c - 2 < 3 := by omega
  have hzero : ∀ r ∈ [AX.ref, AX.CH_SPD.SPD_REF, AX.iq, AX.idRef, AX.spInt, AX.src, AX.polPh], r ∈ haltRows ∧ r.c1 = 3 ∧ 0 < r.c2 := by
    decide
  unfold axHalt
  refine (((framed_refl _).set (by decide)).setIn hk (by decide)).foldl _ fun u r hr => ?_
  obtain ⟨hmem, hc1, hc2⟩ := hzero r hr
  exact (framed_refl u).set ⟨hmem, hc1 ▸ hk, hc2⟩

/-- An aux channel is off and no more in the DISABLE. -/
def auxEnded (s : State) (c : Nat) : State := (((s.axHalt c).set ACT.chEn 0 c).set ACT.rampN 0 c).setBit ACT.disMask c false

theorem auxEnded_reads (s : State) {c : Nat} (hc : 2 ≤ c ∧ c ≤ 4) :
    (s.auxEnded c).is ACT.chEn c = false ∧ (s.auxEnded c).get AX.CH_STAT.STATE (c - 2) = 0 := by
  have hch : c < 8 := by omega
  have hk : c - 2 < 3 := by omega
  have hrest : Framed [ACT.rampN, ACT.disMask] [] ((s.axHalt c).set ACT.chEn 0 c) (s.auxEnded c) :=
    ((framed_refl _).setIn (r := ACT.rampN) hch (by decide)).set (by decide)
  have hen : Framed [ACT.chEn] [] (s.axHalt c) ((s.axHalt c).set ACT.chEn 0 c) := (framed_refl _).setIn hch (by decide)
  constructor
  · rw [hrest.rows.is_distinct hch (by decide)]
    exact is_set_self ..
  · rw [hrest.rows.get_distinct hk (by decide), hen.rows.get_distinct hk (by decide), (framed_axHalt s hc).rows.get_distinct hk (by decide),
      get_set_self]
    rfl

theorem exec_disableRampEnd (ch : Fin 8) (s : State) (hramp : s.is ACT.rampN ch = true) :
    ∃ t, exec (.disableRampEnd ch) s = .next t ∧
      (ch.val < 2 → 2 * s.get ACT.rampN ch < 5 * s.get SQ.OBS_CFG.RAMP_US ch → t = s) ∧
      (ch.val < 2 → 5 * s.get SQ.OBS_CFG.RAMP_US ch ≤ 2 * s.get ACT.rampN ch → t.is ACT.chEn ch = false) ∧
      (2 ≤ ch.val → ch.val ≤ 4 → s.is AX.ref (ch - 2) = false → t.is ACT.chEn ch = false ∧ t.get AX.CH_STAT.STATE (ch - 2) = 0) ∧
      (2 ≤ ch.val → ch.val ≤ 4 → s.is AX.ref (ch - 2) = true → t = s) := by
  have hexec : exec (.disableRampEnd ch) s = .next (if isTraction ch then
      (if 2 * s.get ACT.rampN ch < 5 * s.get SQ.OBS_CFG.RAMP_US (chAx ch) then s else s.traction0 ch)
      else if 4 < ch.val || s.is AX.ref (ch - 2) then s else (s.auxEnded ch).disableDone) := by
    change execDisableRampEnd ch s = _
    unfold execDisableRampEnd
    dsimp only
    rw [hramp]
    rfl
  have haxis (h : ch.val < 2) : isTraction ch = true ∧ chAx ch = ch.val :=
    (by decide : ∀ c : Fin 8, c.val < 2 → isTraction c = true ∧ chAx c = c.val) ch h
  have haux (h2 : 2 ≤ ch.val) (h4 : ch.val ≤ 4) : isTraction ch = false ∧ decide (4 < ch.val) = false :=
    (by decide : ∀ c : Fin 8, 2 ≤ c.val → c.val ≤ 4 → isTraction c = false ∧ decide (4 < c.val) = false) ch h2 h4
  refine ⟨_, hexec, fun h hearly => ?_, fun h hdue => ?_, fun h2 h4 href => ?_, fun h2 h4 href => ?_⟩
  · obtain ⟨htr, hax⟩ := haxis h
    rw [if_pos htr, hax, if_pos hearly]
  · obtain ⟨htr, hax⟩ := haxis h
    rw [if_pos htr, hax, if_neg (by omega)]
    exact s.chEn_traction0 ch
  · obtain ⟨htr, hle⟩ := haux h2 h4
    have hk : ch.val - 2 < 3 := by omega
    obtain ⟨hen, hstate⟩ := s.auxEnded_reads ⟨h2, h4⟩
    have hdone := (s.auxEnded ch).rowsKept_disableDone
    simp only [htr, hle, href, Bool.false_eq_true, if_false, Bool.or_self]
    exact ⟨(hdone.chEn_of_commandRows ch).trans hen, (hdone.get_distinct hk (by decide)).trans hstate⟩
  · obtain ⟨htr, hle⟩ := haux h2 h4
    simp only [htr, href, Bool.false_eq_true, if_false, Bool.or_true, if_true]

/-! ## ENABLE (R242, R244, R263, R264, R393) -/

/-- The rows that tell whether a channel may be enabled: the conditions of ENABLE, the image that bars it, the calibration that is loaded first. -/
def enableRows : List Row :=
  [SYS.RST_STAT.READY, SEC.LC_STAT.LC_PEND, SEC.LC_STAT.STATE, SYS.PWR_STAT.STATE, SYS.PWR_STAT.PD_ON, BIST.STAT.BUSY, BIST.CMD.DOMAIN,
    BL.DIS_STAT.STATE, MEM.REPAIR.UNREP, PU.TRIP_STAT.TRIPPED, BL.CAUSE.SS_CAUSE, BL.STATUS.XTRIP_ACT, BL.STATUS.HVIL_OPEN,
    BL.STATUS.CI_LOST, BL.dieOt, CE.RP_STAT.RP_FAULT, SQ.STATUS.JOINED, BL.disCond, BL.wind, BL.AXIS.BIV_EXPIRED, ACT.chEn,
    ACT.CTL.SRC, ACT.IMG_STAT.IMG_VALID, ACT.IMG_STAT.COPY, ACT.img, SEC.CAL_STAT.IN_FORCE, SEC.CAL_STAT.KEY_OK, SEC.CAL_STAT.LOADED,
    SEC.CAL_STAT.PEND, SEC.CAL_STAT.TBL_LOCK]

/-- Between the two states no row of `enableRows` has changed. -/
def EnableKept (s t : State) : Prop := ∀ r ∈ enableRows, ∀ i < r.c1, ∀ j < r.c2, t.get r i j = s.get r i j

theorem all_chAxes_congr {ch : Nat} {p q : Nat → Bool} (h : ∀ a < 2, p a = q a) : (chAxes ch).all p = (chAxes ch).all q := by
  have hax := chAx_lt ch
  unfold chAxes
  split
  · simp [h]
  · simp [h _ hax]

namespace EnableKept

variable {s t : State} (h : EnableKept s t)
include h

theorem get {r : Row} {i j : Nat} (hi : i < r.c1) (hr : r ∈ enableRows ∧ j < r.c2) : t.get r i j = s.get r i j := h r hr.1 i hi j hr.2

theorem is {r : Row} {i j : Nat} (hi : i < r.c1) (hr : r ∈ enableRows ∧ j < r.c2) : t.is r i j = s.is r i j := by
  rw [State.is, State.is, h.get hi hr]

theorem getBit {r : Row} {i j : Nat} (n : Nat) (hi : i < r.c1) (hr : r ∈ enableRows ∧ j < r.c2) : t.getBit r n i j = s.getBit r n i j := by
  rw [State.getBit, State.getBit, h.get hi hr]

theorem disRunning : t.disRunning = s.disRunning := by
  rw [State.disRunning, State.disRunning, h.get (by decide) (by decide)]

theorem domainsOn (ch : Nat) : t.domainsOn ch = s.domainsOn ch := by
  refine List.all_congr rfl fun d => ?_
  rw [h.getBit (r := SYS.PWR_STAT.PD_ON) d (by decide) (by decide), h.is (r := BIST.STAT.BUSY) (by decide) (by decide),
    h.get (r := BIST.CMD.DOMAIN) (by decide) (by decide)]

theorem memOk (ch : Nat) : t.memOk ch = s.memOk ch := by
  have hbit (n : Nat) := h.getBit (r := MEM.REPAIR.UNREP) n (by decide : 0 < _) (by decide : _ ∧ 0 < _)
  simp only [State.memOk, hbit]

theorem causePresent {a : Nat} (ha : a < 2) : t.causePresent a = s.causePresent a := by
  have hbit (n : Nat) := h.getBit (r := BL.CAUSE.SS_CAUSE) (i := a) (j := 0) n ha (by decide)
  have hpair : 2 * a < CE.RP_STAT.RP_FAULT.c1 := Nat.lt_of_lt_of_le (by omega : 2 * a < 4) (by decide)
  have hrope : t.is CE.RP_STAT.RP_FAULT (2 * a) = s.is CE.RP_STAT.RP_FAULT (2 * a) := h.is hpair (by decide)
  simp only [State.causePresent, State.joined, hbit, hrope,
    h.is (r := BL.STATUS.XTRIP_ACT) (i := 0) (j := 0) (by decide) (by decide),
    h.is (r := BL.STATUS.HVIL_OPEN) (i := 0) (j := 0) (by decide) (by decide),
    h.is (r := BL.STATUS.CI_LOST) (i := 0) (j := 0) (by decide) (by decide),
    h.is (r := BL.dieOt) (i := 0) (j := 0) (by decide) (by decide),
    h.is (r := CE.RP_STAT.RP_FAULT) (i := 2) (j := 0) (by decide) (by decide),
    h.is (r := SQ.STATUS.JOINED) (i := 0) (j := 0) (by decide) (by decide),
    h.is (r := BL.disCond) (i := 0) (j := 0) (by decide) (by decide),
    h.is (r := BL.wind) (i := a) (j := 0) ha (by decide)]

theorem chEn {c : Nat} (hc : c < 8) : t.is ACT.chEn c = s.is ACT.chEn c := h.is hc (by decide)

theorem enablePre (ch : Nat) : t.enablePre ch = s.enablePre ch := by
  have haxes : ((chAxes ch).all fun a => !t.is PU.TRIP_STAT.TRIPPED a && !t.causePresent a && !t.is BL.AXIS.BIV_EXPIRED a &&
      !t.is CE.RP_STAT.RP_FAULT (2 * a)) = (chAxes ch).all fun a => !s.is PU.TRIP_STAT.TRIPPED a && !s.causePresent a &&
      !s.is BL.AXIS.BIV_EXPIRED a && !s.is CE.RP_STAT.RP_FAULT (2 * a) := all_chAxes_congr fun a ha => by
    have hunit : a < PU.TRIP_STAT.TRIPPED.c1 := Nat.lt_of_lt_of_le ha (by decide)
    have hpair : 2 * a < CE.RP_STAT.RP_FAULT.c1 := Nat.lt_of_lt_of_le (by omega : 2 * a < 4) (by decide)
    rw [h.is hunit (by decide), h.causePresent ha, h.is (r := BL.AXIS.BIV_EXPIRED) ha (by decide), h.is hpair (by decide)]
  have haux : (if ch < 5 then !t.is PU.TRIP_STAT.TRIPPED ch else true) = if ch < 5 then !s.is PU.TRIP_STAT.TRIPPED ch else true := by
    split
    · rw [h.is (r := PU.TRIP_STAT.TRIPPED) ‹_› (by decide)]
    · rfl
  unfold State.enablePre
  rw [h.is (r := SYS.RST_STAT.READY) (by decide) (by decide), h.is (r := SEC.LC_STAT.LC_PEND) (by decide) (by decide),
    h.get (r := SEC.LC_STAT.STATE) (by decide) (by decide), h.is (r := SYS.PWR_STAT.STATE) (by decide) (by decide), h.domainsOn,
    h.disRunning, h.memOk, haxes, haux, h.chEn (c := 0) (by decide), h.chEn (c := 1) (by decide), h.chEn (c := 7) (by decide)]

theorem calNeeded (ch : Nat) : t.calNeeded ch = s.calNeeded ch := by
  unfold State.calNeeded
  rw [h.is (r := SEC.CAL_STAT.IN_FORCE) (by decide) (by decide), h.is (r := SEC.CAL_STAT.KEY_OK) (by decide) (by decide),
    h.is (r := SEC.CAL_STAT.LOADED) (by decide) (by decide), h.is (r := SEC.CAL_STAT.PEND) (by decide) (by decide),
    h.is (r := SEC.CAL_STAT.TBL_LOCK) (by decide) (by decide), h.chEn (c := 0) (by decide), h.chEn (c := 1) (by decide),
    h.chEn (c := 7) (by decide)]

theorem imageEn {ch : Nat} (hch : ch < 8) : t.imageEn ch = s.imageEn ch := by
  have hcopy : s.get ACT.IMG_STAT.COPY < 2 := get_lt ..
  have hword : 256 * ch + 3 < ACT.img.c2 := Nat.lt_of_lt_of_le (by omega : 256 * ch + 3 < 2048) (by decide)
  unfold State.imageEn
  rw [h.get (r := ACT.IMG_STAT.COPY) (by decide) (by decide), h.get (r := ACT.img) hcopy ⟨by decide, hword⟩]

theorem imageBars {ch : Nat} (hch : ch < 8) : t.imageBars ch = s.imageBars ch := by
  unfold State.imageBars
  rw [h.is (r := ACT.CTL.SRC) (by decide) (by decide), h.is (r := ACT.IMG_STAT.IMG_VALID) (by decide) (by decide), h.imageEn hch,
    h.imageEn (ch := 7) (by decide)]

end EnableKept

/-- The rows that an ENABLE writes of its job until the fetch of its channel starts or the job ends. -/
def jobRows : List Row :=
  [ACT.job, ACT.jobSrc, ACT.jobMask, ACT.jobDone, ACT.jobFail, ACT.jobWait, ACT.jobStep, ACT.jobCh, ACT.vdcUnknown]

theorem RowsKept.enableKept {s t : State} (h : RowsKept jobRows s t) : EnableKept s t := fun r hr _ hi _ hj =>
  h.get_eq ((by decide +kernel : ∀ r ∈ enableRows, jobRows.all r.apart = true) r hr) hi hj

/-- A job as it starts, before its first channel. -/
def jobTaken (s : State) (op src mask : Nat) : State :=
  ((((((s.set ACT.job op).set ACT.jobSrc src).set ACT.jobMask mask).set ACT.jobDone 0).set ACT.jobFail 0).set ACT.jobWait 0).set ACT.jobStep 0

/-- An ENABLE comes to one channel of its mask. -/
def enableAt (s : State) (c : Nat) : State :=
  ((s.set ACT.jobMask (s.get ACT.jobMask - 2 ^ c)).set ACT.jobCh c).set ACT.vdcUnknown 0 c

/-- The ENABLE of one channel as it comes to that channel. -/
def enabling (s : State) (net : Bool) (c : Fin 8) : State :=
  ((s.jobTaken 4 (if net then 3 else 2) (2 ^ c.val)).set ACT.jobStep 0).enableAt c

/-- The channel is skipped or refused, waits for the calibration, or its fetch starts. -/
def enableTurn (u : State) (c : Nat) : State :=
  if u.is ACT.chEn c && !(isTraction c && u.get SQ.STATUS.MODE (chAx c) == 7) && !u.disRunning then u
  else if !u.enablePre c || u.imageBars c then u.jobRefuse .state
  else if u.calNeeded c then
    ((u.set ACT.jobStep 3).set ACT.STAT.BUSY 1).on (!u.is SEC.CAL_STAT.ZEROING) (·.set SEC.CAL_STAT.ZEROING 1)
  else (u.set ACT.jobStep 1).set ACT.STAT.BUSY 1

theorem jobTake_of_enable {s : State} (hjob : s.get ACT.job = 4) (c : Fin 8) : s.jobTake c = (s.enableAt c).enableTurn c := by
  have hat : ((s.set ACT.jobMask (s.get ACT.jobMask - 2 ^ c.val)).set ACT.jobCh c).on (s.get ACT.job == 4) (·.set ACT.vdcUnknown 0 c)
      = s.enableAt c := by
    rw [hjob]
    rfl
  have hjob' : (s.enableAt c).get ACT.job = 4 := by
    unfold enableAt
    rw [get_set_ne _ _ _ _ _ _ (Row.key_ne_of_apart (by decide) c.isLt (by decide) (by decide) (by decide)),
      get_set_ne _ _ _ _ _ _ (by decide), get_set_ne _ _ _ _ _ _ (by decide), hjob]
  unfold jobTake
  rw [hat]
  dsimp only
  rw [hjob']
  rfl

theorem jobNext_of_some {s : State} (hjob : s.is ACT.job = true) {ch : Nat} (hl : lowest (s.get ACT.jobMask) = some ch) (n : Nat) :
    jobNext (n + 1) s = if ((s.set ACT.jobStep 0).jobTake ch).is ACT.jobStep then (s.set ACT.jobStep 0).jobTake ch
      else jobNext n ((s.set ACT.jobStep 0).jobTake ch) := by
  rw [jobNext, hjob, hl]
  rfl

/-- No channel is left and none is awaited. -/
theorem jobNext_of_none {s : State} (hjob : s.is ACT.job = true) (hl : s.get ACT.jobMask = 0) (hw : s.get ACT.jobWait = 0) (n : Nat) :
    jobNext (n + 1) s = s.jobFinish := by
  have hlow : lowest 0 = none := by decide
  rw [jobNext, hjob, hl, hlow, is, hw]
  rfl

theorem framed_enabling (s : State) (net : Bool) (c : Fin 8) : Framed jobRows [] s (s.enabling net c) := by
  unfold enabling enableAt jobTaken
  refine Framed.setIn ?_ c.isLt (by decide)
  exact (framed_refl s).set (by decide) |>.set (by decide) |>.set (by decide) |>.set (by decide) |>.set (by decide) |>.set (by decide)
    |>.set (by decide) |>.set (by decide) |>.set (by decide) |>.set (by decide)

theorem enabling_reads (s : State) (net : Bool) (c : Fin 8) :
    (s.enabling net c).get ACT.job = 4 ∧ (s.enabling net c).get ACT.jobSrc = (if net then 3 else 2) ∧
    (s.enabling net c).get ACT.jobMask = 0 ∧ (s.enabling net c).get ACT.jobFail = 0 ∧
    (s.enabling net c).get ACT.jobWait = 0 ∧ (s.enabling net c).get ACT.jobStep = 0 ∧ (s.enabling net c).get ACT.jobCh = c := by
  have hkept (u : State) {r : Row} (hr : ([ACT.vdcUnknown].all r.distinct = true ∧ 0 < r.c2) ∧ 0 < r.c1) :
      (u.set ACT.vdcUnknown 0 c).get r = u.get r :=
    (rowsKept_set_zero (rs := [ACT.vdcUnknown]) c.isLt (by decide)).get_distinct hr.2 hr.1
  have hmask : ∀ c : Fin 8, (2 ^ c.val % 2 ^ ACT.jobMask.width - 2 ^ c.val) % 2 ^ ACT.jobMask.width = 0 := by decide
  have hch : ∀ c : Fin 8, c.val % 2 ^ ACT.jobCh.width = c := by decide
  unfold enabling enableAt jobTaken
  refine ⟨?_, ?_, ?_, ?_, ?_, ?_, ?_⟩ <;> rw [hkept _ (by decide)] <;> simp (disch := decide) only [get_set_self, get_set_ne]
  · rfl
  · cases net <;> rfl
  · exact hmask c
  · rfl
  · rfl
  · rfl
  · exact hch c

theorem jobStart_enable (s : State) (net : Bool) (c : Fin 8) : s.jobStart 4 (if net then 3 else 2) (2 ^ c.val) =
    if ((s.enabling net c).enableTurn c).is ACT.jobStep then (s.enabling net c).enableTurn c
    else jobNext 8 ((s.enabling net c).enableTurn c) := by
  have hjob : (s.jobTaken 4 (if net then 3 else 2) (2 ^ c.val)).get ACT.job = 4 := by
    unfold jobTaken
    simp (disch := decide) only [get_set_self, get_set_ne]
    rfl
  have hlow : lowest ((s.jobTaken 4 (if net then 3 else 2) (2 ^ c.val)).get ACT.jobMask) = some c.val := by
    unfold jobTaken
    simp (disch := decide) only [get_set_self, get_set_ne]
    exact (by decide : ∀ c : Fin 8, lowest (2 ^ c.val % 2 ^ ACT.jobMask.width) = some c.val) c
  have htake := jobTake_of_enable (s := (s.jobTaken 4 (if net then 3 else 2) (2 ^ c.val)).set ACT.jobStep 0)
    ((get_set_ne _ _ _ _ _ _ (by decide)).trans hjob) c
  have hbusy : (s.jobTaken 4 (if net then 3 else 2) (2 ^ c.val)).is ACT.job = true := by
    rw [is, hjob]
    rfl
  rw [enabling, ← htake, ← jobNext_of_some hbusy hlow]
  rfl

/-- The request of a job without a channel left completes by its source, with the status of the first refusal. -/
theorem jobFinish_of_command {u : State} {net : Bool} (hsrc : u.get ACT.jobSrc = if net then 3 else 2) {st : Status}
    (h : u.get ACT.jobFail = 9 ∧ st = .state ∨ u.get ACT.jobFail = 0 ∧ st = .ok) : u.jobFinish = u.jobClear.commandOver net st := by
  unfold jobFinish requestDone
  rw [hsrc]
  rcases h with ⟨hfail, rfl⟩ | ⟨hfail, rfl⟩ <;> rw [hfail] <;> cases net <;> rfl

/-- The states in which an ENABLE of one channel can be over, with its status: the channel was skipped, or refused. -/
def EnableOver (u x : State) (st : Status) : Prop := x = u ∧ st = .ok ∨ x = u.set ACT.jobFail (Status.state.code + 1) ∧ st = .state

theorem jobStart_of_over {s x : State} {net : Bool} {c : Fin 8} {st : Status}
    (hturn : (s.enabling net c).enableTurn c = x) (hover : EnableOver (s.enabling net c) x st) :
    s.jobStart 4 (if net then 3 else 2) (2 ^ c.val) = x.jobClear.commandOver net st := by
  obtain ⟨hjob, hsrc, hmask, hfail, hwait, hstep, -⟩ := s.enabling_reads net c
  have hx {r : Row} (hr : ACT.jobFail.key 0 0 ≠ r.key 0 0) : x.get r = (s.enabling net c).get r := by
    rcases hover with ⟨rfl, -⟩ | ⟨rfl, -⟩
    · rfl
    · exact get_set_ne _ _ _ _ _ _ hr
  have hidle : x.is ACT.jobStep = false := by
    rw [is, hx (by decide), hstep]
    rfl
  have hbusy : x.is ACT.job = true := by
    rw [is, hx (by decide), hjob]
    rfl
  rw [jobStart_enable, hturn, hidle, if_neg Bool.false_ne_true,
    jobNext_of_none hbusy ((hx (by decide)).trans hmask) ((hx (by decide)).trans hwait)]
  refine jobFinish_of_command ((hx (by decide)).trans hsrc) ?_
  rcases hover with ⟨rfl, hst⟩ | ⟨rfl, hst⟩
  · exact .inr ⟨hfail, hst⟩
  · exact .inl ⟨get_set_self .., hst⟩

theorem framed_jobClear_of_over {s x : State} {net : Bool} {c : Fin 8} {st : Status}
    (hover : EnableOver (s.enabling net c) x st) : Framed (ACT.STAT.BUSY :: jobRows) [] s x.jobClear := by
  have hat : Framed (ACT.STAT.BUSY :: jobRows) [] s (s.enabling net c) := (framed_enabling ..).mono (by decide)
  have hx : Framed (ACT.STAT.BUSY :: jobRows) [] s x := by
    rcases hover with ⟨rfl, -⟩ | ⟨rfl, -⟩
    · exact hat
    · exact hat.set (by decide)
  unfold jobClear
  exact hx.set (by decide) |>.set (by decide) |>.set (by decide)

/-- The request of an ENABLE that is over has completed; no job runs, and the channel is enabled as it was. -/
theorem enableOver_reads {s x : State} {net : Bool} {c : Fin 8} {st : Status}
    (hover : EnableOver (s.enabling net c) x st) :
    (x.jobClear.commandOver net st).is ACT.job = false ∧ (x.jobClear.commandOver net st).is ACT.chEn c = s.is ACT.chEn c ∧
    (net = false → ∀ d ∈ s.running 1 0x10, s.Completes (x.jobClear.commandOver net st) 1 d st (if st = .ok then 16 else 0)) := by
  have hframed := framed_jobClear_of_over hover
  have hcommand := rowsKept_commandOver x.jobClear net st
  have hjob : x.jobClear.is ACT.job = false := by
    unfold jobClear
    rw [is, get_set_ne _ _ _ _ _ _ (by decide), get_set_ne _ _ _ _ _ _ (by decide), get_set_self]
    rfl
  refine ⟨?_, ?_, fun hnet d hd => ?_⟩
  · rw [is, hcommand.get_of_clearOf (by decide +kernel)]
    exact hjob
  · rw [hcommand.chEn_of_commandRows, hframed.rows.is_distinct c.isLt (by decide)]
  · subst hnet
    refine .of_framed (by decide) hframed (by decide) (by decide) (completes_commandOver ?_ st)
    rw [desc, hframed.recs .descs (by decide)]
    exact desc_of_running hd

theorem exec_ringEnable (net : Bool) (b : Nat) (c : Fin 8) (s : State)
    (h : s.command net 0x10 = some b ∧ s.is ACT.job = false ∧ b % 256 = 2 ^ c.val) :
    ∃ t, exec (.ringEnable net) s = .next t ∧
      (s.is ACT.chEn c = false → s.enablePre c = true → s.imageBars c = false → s.calNeeded c = false →
        t.get ACT.job = 4 ∧ t.get ACT.jobCh = c ∧ t.get ACT.jobStep = 1 ∧ t.is ACT.STAT.BUSY = true) ∧
      (s.is ACT.chEn c = false → s.enablePre c = false → t.is ACT.job = false ∧ t.is ACT.chEn c = false ∧
        (net = false → ∀ d ∈ s.running 1 0x10, s.Completes t 1 d .state 0)) ∧
      (s.is ACT.chEn c = true → s.disRunning = false → c.val ≠ 0 → c.val ≠ 1 → c.val ≠ 7 → t.is ACT.job = false ∧
        (net = false → ∀ d ∈ s.running 1 0x10, s.Completes t 1 d .ok 16)) := by
  obtain ⟨hcmd, hfree, hmask⟩ := h
  have hexec : exec (.ringEnable net) s = .next (s.jobStart 4 (if net then 3 else 2) (2 ^ c.val)) := by
    change execRingEnable net s = _
    unfold execRingEnable
    simp only [hcmd, hfree, hmask, Bool.false_eq_true, if_false]
  obtain ⟨hjob, -, -, hfail, -, -, hch⟩ := s.enabling_reads net c
  have hkept := (s.framed_enabling net c).rows.enableKept
  have hen := hkept.chEn c.isLt
  have hpre := hkept.enablePre c
  refine ⟨_, hexec, fun h0 h1 hbars hcal => ?_, fun h0 h1 => ?_, fun h1 hdis h0 h1' h7 => ?_⟩
  · have hturn : (s.enabling net c).enableTurn c = ((s.enabling net c).set ACT.jobStep 1).set ACT.STAT.BUSY 1 := by
      simp only [enableTurn, hen, hpre, hkept.imageBars c.isLt, hkept.calNeeded, h0, h1, hbars, hcal, Bool.false_and, Bool.not_true,
        Bool.or_self, Bool.false_eq_true, if_false]
    have hstep : (((s.enabling net c).set ACT.jobStep 1).set ACT.STAT.BUSY 1).get ACT.jobStep = 1 := by
      rw [get_set_ne _ _ _ _ _ _ (by decide), get_set_self]
      rfl
    rw [jobStart_enable, hturn, is, hstep, if_pos (by decide)]
    refine ⟨?_, ?_, hstep, is_set_self ..⟩
    · rw [get_set_ne _ _ _ _ _ _ (by decide), get_set_ne _ _ _ _ _ _ (by decide), hjob]
    · rw [get_set_ne _ _ _ _ _ _ (by decide), get_set_ne _ _ _ _ _ _ (by decide), hch]
  · have hrefuse : (s.enabling net c).jobRefuse .state = (s.enabling net c).set ACT.jobFail (Status.state.code + 1) := by
      rw [jobRefuse, is, hfail]
      rfl
    have hturn : (s.enabling net c).enableTurn c = (s.enabling net c).set ACT.jobFail (Status.state.code + 1) := by
      simp only [enableTurn, hen, hpre, h0, h1, Bool.false_and, Bool.not_false, Bool.true_or, Bool.false_eq_true, if_false, if_true, hrefuse]
    have hover : EnableOver (s.enabling net c) _ .state := .inr ⟨rfl, rfl⟩
    rw [jobStart_of_over hturn hover]
    obtain ⟨hidle, hstill, hdone⟩ := enableOver_reads hover
    exact ⟨hidle, hstill.trans h0, hdone⟩
  · have hkind : isTraction c = false :=
      (by decide : ∀ c : Fin 8, c.val ≠ 0 → c.val ≠ 1 → c.val ≠ 7 → isTraction c = false) c h0 h1' h7
    have hturn : (s.enabling net c).enableTurn c = s.enabling net c := by
      simp only [enableTurn, hen, h1, hkind, hkept.disRunning, hdis, Bool.false_and, Bool.not_false, Bool.and_self, if_true]
    have hover : EnableOver (s.enabling net c) _ .ok := .inl ⟨rfl, rfl⟩
    rw [jobStart_of_over hturn hover]
    obtain ⟨hidle, -, hdone⟩ := enableOver_reads hover
    exact ⟨hidle, hdone⟩

end State

/-- Settles O27: each command by what it comes to for the one channel, and what its completion leaves alone, whichever controller a response
goes to. -/
theorem channelsEnableAndDisable : Obligations.ChannelsEnableAndDisable := by
  unfold Obligations.ChannelsEnableAndDisable
  exact ⟨State.exec_ringEnable, State.exec_ringDisable, State.exec_disableRampEnd⟩

end Sys2Proof.Machine
end

/-!
Life cycle, discharge and networks (17, 14, 15): the statements that take every state fail where a record or a slot names a member that the
block does not have (O5, O47, O53).
-/
section
namespace Sys2Proof.Machine
set_option Elab.async false

/-! ## A list of setpoints of a ring past the last, in the retired module (R267, R380) -/

/-- A message of a ring without any bytes: no slot takes it, so that it is refused. -/
def emptyMsgOfRing (n : Nat) : RidgeMsg := { chan := 0, inst := n, ident := 0, mac := 0, data := [] }

/-- The module is retired, and a message of a ring 766058 waits to be judged, with the list and the descriptor of that ring, whose count of
completions would lie where the intent of a life-cycle transition does (`RING.cplCount` and `SEC.lcIntent`). -/
def retiredBesideListOfRing : State :=
  { State.reset.set SEC.LC_STAT.STATE 4 with
    plays := [listOfRing 766058], descs := [(766058, emptyDesc)], ridgeIn := [emptyMsgOfRing 766058], pending := [.ridgeCheck] }

theorem lcIntent_step_retiredBesideListOfRing :
    ∃ t, step retiredBesideListOfRing = .next t ∧ t.get SEC.lcIntent = 1 :=
  ⟨_, rfl, by decide⟩

/-- Refutes O5, by RIDGE_CHECK: the refusal of a list's last record completes the list and counts the completion for the ring that the message
names. The statement takes every state, so one whose message names ring 766058 too (the rings lie below 32): there the count is written into
the row that holds the intent of a transition, so that one stands half done, to MANUFACTURE. -/
theorem not_retiredIsFinal : ¬ Obligations.RetiredIsFinal := by
  unfold Obligations.RetiredIsFinal
  intro final
  obtain ⟨t, hstep, hintent⟩ := lcIntent_step_retiredBesideListOfRing
  obtain ⟨-, hnone⟩ := final _ t (by decide) (by decide) hstep
  exact absurd (hintent.symm.trans hnone) (by decide)

/-! ## A response to a slot whose controller is none of the block's, at a DISCHARGE and at the end of a load (R263, R308, R316, R393) -/

/-- As in `resetFromRewrittenSlot` the slot is not enabled, and its configuration reads CHAN 1 (CAN) and INST 4; the network command under way
is a DISCHARGE, with CH5 disabled. -/
def dischargeFromRewrittenSlot : State := resetFromRewrittenSlot.set BL.netOp 0x12

/-- The DISCHARGE is refused at once, with a response. -/
theorem txbAct_four_ringDischarge_dischargeFromRewrittenSlot :
    ∃ t, exec (.ringDischarge true) dischargeFromRewrittenSlot = .next t ∧ t.get CAN.TXB_ACT.ACT 4 = 2 ^ 31 :=
  ⟨_, rfl, by decide⟩

/-- Refutes O47, by DISCHARGE as a network command: its response goes into buffer 31 of the controller that the slot's INST names, without a
check that there is one. With INST 4 it sets a bit of a TXB_ACT of controller 4, a place of no row of the command's list, where the block
has controllers 0 to 3. -/
theorem not_belayAndDischargeFrames : ¬ Obligations.BelayAndDischargeFrames := by
  unfold Obligations.BelayAndDischargeFrames
  intro frame
  obtain ⟨t, hexec, hact⟩ := txbAct_four_ringDischarge_dischargeFromRewrittenSlot
  obtain ⟨rowsKept, -, -⟩ := frame _ _ _ _ t rfl hexec
  have h := rowsKept CAN.TXB_ACT.ACT 4 0 (keys_ne_of_placeAt_eq_none (by decide))
  rw [hact] at h
  exact absurd h (by decide)

/-- The same slot has asked for an ENABLE, whose load of the calibration image is under way. -/
def loadFromRewrittenSlot : State := ((resetFromRewrittenSlot.set ACT.job 4).set ACT.jobStep 3).set ACT.jobSrc 3

set_option maxRecDepth 4000 in
/-- A load that fails refuses the ENABLE, with a response. -/
theorem txbAct_four_calLoadDone_loadFromRewrittenSlot :
    ∃ t, exec (.calLoadDone false []) loadFromRewrittenSlot = .next t ∧ t.get CAN.TXB_ACT.ACT 4 = 2 ^ 31 :=
  ⟨_, rfl, by decide⟩

/-- Refutes O53, by CAL_LOAD_DONE: where the load fails, the network ENABLE that asked for it ends with a response in buffer 31 of the
controller that the slot's INST names, as in the refutation of O47. -/
theorem not_networkAndSecurityFrames : ¬ Obligations.NetworkAndSecurityFrames := by
  unfold Obligations.NetworkAndSecurityFrames
  intro frame
  obtain ⟨t, hexec, hact⟩ := txbAct_four_calLoadDone_loadFromRewrittenSlot
  obtain ⟨rowsKept, -, -⟩ := frame _ _ _ _ t rfl hexec
  have h := rowsKept CAN.TXB_ACT.ACT 4 0 (keys_ne_of_placeAt_eq_none (by decide))
  rw [hact] at h
  exact absurd h (by decide)

end Sys2Proof.Machine
end

/-!
Host rings, Ridge, CAN and clocks (11, 13, 15, 18): the statements that a concrete state or input refutes (O28, O29, O32, O35, O36, O41).
-/
section
namespace Sys2Proof.Machine
set_option Elab.async false

/-! ## A descriptor in progress of a ring past the last (R250, R429) -/

/-- The state after reset, with a descriptor in progress of a ring 32, which the block does not have. -/
def descOfNoRing : State := { State.reset with descs := [(32, emptyDesc)] }

set_option maxRecDepth 4000 in
theorem descs_perstn_descOfNoRing : ∃ t, exec .perstn descOfNoRing = .next t ∧ t.descs ≠ [] :=
  ⟨_, rfl, by decide⟩

set_option maxRecDepth 4000 in
theorem descs_clkFault_descOfNoRing : ∃ t, exec (.clkFault 1 0 0) descOfNoRing = .next t ∧ t.descs ≠ [] :=
  ⟨_, rfl, by decide⟩

/-- Refutes O28, by PERSTN: the stop goes through the rings 0 to 31, and the statement takes every state, so one with a descriptor of ring 32
in progress too: that one is not abandoned. -/
theorem not_ringsStopRestartAndTakeDoorbells : ¬ Obligations.RingsStopRestartAndTakeDoorbells := by
  unfold Obligations.RingsStopRestartAndTakeDoorbells
  rintro ⟨perstn, -⟩
  obtain ⟨t, hexec, hdescs⟩ := descs_perstn_descOfNoRing
  obtain ⟨t', hexec', hnone, -⟩ := perstn descOfNoRing
  obtain rfl : t' = t := Host.Outcome.next.inj (hexec'.symm.trans hexec)
  exact hdescs hnone

/-- Refutes O41, by CLK_FAULT of the PCIe reference clock, which stops the rings as PERSTN does. -/
theorem not_clocksTimeAndCairnsTakeEffect : ¬ Obligations.ClocksTimeAndCairnsTakeEffect := by
  unfold Obligations.ClocksTimeAndCairnsTakeEffect
  rintro ⟨-, -, -, clkFault, -⟩
  obtain ⟨t, hexec, hdescs⟩ := descs_clkFault_descOfNoRing
  obtain ⟨t', hexec', -, hpcie, -⟩ := clkFault 1 0 0 descOfNoRing
  obtain rfl : t' = t := Host.Outcome.next.inj (hexec'.symm.trans hexec)
  exact hdescs (hpcie rfl).1

/-! ## An event record at the last value of a performance counter (R271, R475) -/

/-- Performance counter 0 counts the records of ring 17 and stands at its last value. -/
def recordsCountedToTheLast : State :=
  ((((((State.reset.set PERF.CTL.EN 1).set PERF.CNT_SEL.CEN 1).set PERF.CNT_SEL.SOURCE 2).set PERF.CNT_SEL.INST 17).set
    PERF.CNT_SEL.EVENT 0x30).set PERF.CNT_LO.CNT (2 ^ 32 - 1)).set PERF.cntHi (2 ^ 16 - 1)

/-- Ring 17, the ring of warnings, has a slot handed to the device, and one event waits for it. -/
def warningHandedAtLastCount : State :=
  { (recordsCountedToTheLast.set RING.CFG.SIZE 8 17).set RING.TAIL.TAIL 1 17 with evWarning := [saveRefusedEvent] }

set_option maxRecDepth 4000 in
theorem evWarning_eventRecord_warningHandedAtLastCount :
    ∃ t, exec (.eventRecord 1) warningHandedAtLastCount = .next t ∧ t.evWarning ≠ [] :=
  ⟨_, rfl, by decide⟩

/-- Refutes O29, by EVENT_RECORD: the record that goes out advances the ring's head, which a performance counter may count; where the counter
wraps, its OVF is a new warning, so that the queue does not hold the rest of the waiting events alone. -/
theorem not_descriptorsRecordsAndReadouts : ¬ Obligations.DescriptorsRecordsAndReadouts := by
  unfold Obligations.DescriptorsRecordsAndReadouts
  rintro ⟨-, -, eventRecord, -⟩
  obtain ⟨t, hexec, hmore⟩ := evWarning_eventRecord_warningHandedAtLastCount
  obtain ⟨t', hexec', hqueue, -⟩ := eventRecord 1 saveRefusedEvent [] warningHandedAtLastCount (by decide)
  obtain rfl : t' = t := Host.Outcome.next.inj (hexec'.symm.trans hexec)
  exact hmore hqueue

/-! ## A refused setpoint whose ring waits to restart (R252, R253, R317) -/

/-- A message of ring 2 with CNT 1, which slot 0 refuses. -/
def setpointMsg : RidgeMsg := { chan := 0, inst := 2, ident := 0, mac := 0, data := [0, 0, 0, 0, 0, 0, 0, 0, 1, 0, 2] }

/-- Two messages of the list of ring 2 wait for slot 0, and a SIZE write waits for the ring's descriptor. -/
def refusedBesideSizeWrite : State :=
  { (((State.reset.set BL.RS_CFG.EN 1).set BL.RS_CFG.DST 2).set RING.sizePend 1 2) with
    plays := [listOfRing 2], descs := [(2, emptyDesc)], ridgeIn := [setpointMsg, setpointMsg] }

theorem ridgeIn_ridgeCheck_refusedBesideSizeWrite :
    ∃ t, exec .ridgeCheck refusedBesideSizeWrite = .next t ∧ t.ridgeIn = [] :=
  ⟨_, rfl, by decide⟩

/-- Refutes O32, by RIDGE_CHECK: the refusal ends the list, whose descriptor completes; with a SIZE write waiting the ring then restarts
empty, which drops the ring's other waiting messages, where the statement keeps all but the first. -/
theorem not_ridgeMessagesSetpointsAndHold : ¬ Obligations.RidgeMessagesSetpointsAndHold := by
  unfold Obligations.RidgeMessagesSetpointsAndHold
  rintro ⟨ridgeCheck, -⟩
  obtain ⟨t, hexec, hempty⟩ := ridgeIn_ridgeCheck_refusedBesideSizeWrite
  obtain ⟨t', hexec', hrest, -⟩ := ridgeCheck setpointMsg [setpointMsg] 0 refusedBesideSizeWrite (by decide)
  obtain rfl : t' = t := Host.Outcome.next.inj (hexec'.symm.trans hexec)
  exact absurd (hrest.symm.trans hempty) (by decide)

/-! ## Classical and CAN FD frames (R348, R357) -/

/-- A Classical frame, as a record with bit 7 of word 3 set asks for one (R273). -/
def classicalWithEsi : CanFrame := canFrameOf 0 128 []

/-- It is chosen in buffer 0 of controller 0, which is error-active. -/
def classicalChosen : State :=
  { (State.reset.set CAN.STATUS.STATE 2).set CAN.cur 1 with canTx := [((0, 0, false), classicalWithEsi)] }

/-- A controller sends a Classical frame without an ESI. -/
theorem sent_canTxDone_classicalChosen :
    ∃ t, exec (.canTxDone 0 0) classicalChosen = .next t ∧
      ∀ brs, Msg.canFrame 0 { classicalWithEsi with brs := brs } ∉ t.out.drop classicalChosen.out.length :=
  ⟨_, rfl, by decide⟩

/-- Refutes O35, by CAN_TX_DONE: the statement has the frame sent as it was placed but for BRS; ESI of a sent frame is the controller's own
error state, and a Classical one has none. -/
theorem not_canTransmitBuffersAndAttempts : ¬ Obligations.CanTransmitBuffersAndAttempts := by
  unfold Obligations.CanTransmitBuffersAndAttempts
  rintro ⟨-, -, -, canTxDone, -⟩
  obtain ⟨t, hexec, hnot⟩ := sent_canTxDone_classicalChosen
  obtain ⟨t', hexec', hsent, -⟩ := canTxDone 0 0 0 classicalWithEsi classicalChosen (by decide)
  obtain rfl : t' = t := Host.Outcome.next.inj (hexec'.symm.trans hexec)
  exact hnot _ hsent

/-- A CAN FD frame without data. -/
def fdFrame : CanFrame := canFrameOf (2 ^ 30) 0 []

/-- Controller 0 is error-active, takes Classical frames alone (FDOE 0) and keeps what no filter matches. -/
def classicalOnly : State := ((State.reset.set CAN.STATUS.STATE 2).set CAN.CTL.FDOE 0).set CAN.CTL.DEF_ACC 1

theorem canRxQ_canRx_classicalOnly : ∃ t, exec (.canRx 0 fdFrame 0) classicalOnly = .next t ∧ t.canRxQ = [] :=
  ⟨_, rfl, by decide⟩

/-- Refutes O36, by CAN_RX: the statement's reception has no condition on the frame's format, and a controller with FDOE clear answers a CAN FD
frame with an error, so that DEF_ACC does not keep it. -/
theorem not_canStatesReceptionAndPitons : ¬ Obligations.CanStatesReceptionAndPitons := by
  unfold Obligations.CanStatesReceptionAndPitons
  rintro ⟨-, -, -, -, -, -, -, -, -, canRx, -⟩
  obtain ⟨t, hexec, hempty⟩ := canRxQ_canRx_classicalOnly
  obtain ⟨t', hexec', -, -, hkept⟩ := canRx 0 fdFrame 0 classicalOnly (by decide)
  obtain rfl : t' = t := Host.Outcome.next.inj (hexec'.symm.trans hexec)
  have h := hkept (by decide) (by decide) (by decide) (by decide) (by decide)
  rw [hempty] at h
  exact absurd h (by decide)

end Sys2Proof.Machine
end

/-!
Discharge, the step and the reset state (14, 00): the statement that a locked DLI refutes (O34), and what a step and the reset are (O1, O3).
-/
section
namespace Sys2Proof.Machine
set_option Elab.async false

/-! ## A piton of a locked DLI (R347) -/

/-- VENDOR in MANUFACTURE may arm a piton, PD2 is on, and LOCK of the DLI is set. -/
def dliLocked : State := ((State.reset.set SEC.hostRole 1).set SYS.PWR_STAT.PD_ON 4).set DLI.CTL.LOCK 1

theorem arm_dliPitArm_dliLocked : ∃ t, exec (.dliPitArm 1) dliLocked = .next t ∧ t.is DLI.PIT_CTL.ARM = false :=
  ⟨_, rfl, by decide⟩

/-- Refutes O34, by DLI_PIT_ARM: LOCK locks PIT_CTL of the DLI, and the statement, that a permitted piton is armed, has no condition on it. -/
theorem not_dischargeRequestsStepsAndTheLink : ¬ Obligations.DischargeRequestsStepsAndTheLink := by
  unfold Obligations.DischargeRequestsStepsAndTheLink
  rintro ⟨-, -, -, -, -, -, -, -, -, -, -, -, -, -, -, dliPitArm, -⟩
  obtain ⟨t, hexec, harm⟩ := arm_dliPitArm_dliLocked
  obtain ⟨t', hexec', harmed, -⟩ := dliPitArm 1 dliLocked (by decide) (by decide)
  obtain rfl : t' = t := Host.Outcome.next.inj (hexec'.symm.trans hexec)
  exact absurd (harmed.symm.trans harm) (by decide)

/-! ## The step and the reset -/

/-- Settles O1: the step is defined so. -/
theorem stepRunsTheFrontCommand : Obligations.StepRunsTheFrontCommand := by
  unfold Obligations.StepRunsTheFrontCommand
  refine ⟨fun _ _ _ => rfl, fun s hnone => ?_⟩
  unfold step
  rw [hnone]

/-- Settles O3: after reset the stores, the SRAM and the queues are empty. -/
theorem resetKeepsTheForm : Obligations.ResetKeepsTheForm where
  regs := trivial
  mem := rfl
  queues c := by cases c <;> exact Nat.zero_le 64
  store := Nat.zero_le 32768
  snaps := Nat.zero_le 16

end Sys2Proof.Machine
end

/-!
Housekeeping and device time (16, 19): the reads of device time (O60) and the lowest bootstrap voltages (O59).
-/
section
namespace Sys2Proof.Machine
set_option Elab.async false
namespace State

/-! ## Device time through the debug port (R432) -/

theorem dbgLevel_eq {s : State} (hopen : s.is SEC.DBG_STAT.OPEN = true) (hlow : s.is SYS.lowState = false) :
    s.dbgLevel = s.get SEC.DBG_STAT.LEVEL := by
  simp [dbgLevel, hopen, hlow]

/-- A granted access that locks no table ports. -/
theorem exec_debugAccess_granted {s : State} {sp : DbgSpace} {write : Bool} {data : BitVec 32} (hlevel : s.dbgNeeds sp write ≤ s.dbgLevel)
    (hlocks : dbgLocks sp write = none) :
    exec (.debugAccess sp write data) s = .next (if write then s.dbgWrite sp data.toNat else s.dbgRead sp) := by
  show execDebugAccess _ _ _ _ = _
  simp only [execDebugAccess, if_neg (Nat.not_lt.2 hlevel), hlocks]

theorem exec_debugAccess_barRead {s u : State} {addr : BitVec 26} {data : BitVec 32} {v : Nat} (hlevel : 1 ≤ s.dbgLevel)
    (hread : s.barRead addr.toNat = (u, v)) : exec (.debugAccess (.bar0 addr) false data) s = .next (u.send (.readData v)) := by
  rw [exec_debugAccess_granted (write := false) (show s.dbgNeeds (.bar0 addr) false ≤ s.dbgLevel from hlevel) rfl, if_neg (by decide)]
  simp only [dbgRead, hread]

theorem barRead_timeLo {s : State} (hpd : s.getBit SYS.PWR_STAT.PD_ON 2 = true) :
    s.barRead 0x01000208 = ((s.set SYS.TIME.TIME s.now 0).set SYS.TIME.TIME (s.now / 2 ^ 32) 1, s.now % 2 ^ 32) := by
  simp only [barRead, hpd, Bool.not_true, Bool.false_eq_true, if_false]
  rfl

theorem readField_timeHi {s : State} (hpd : s.getBit SYS.PWR_STAT.PD_ON 2 = true) :
    s.readField 0x0100020C (SYS.TIME.TIME, 1, 0) = s.get SYS.TIME.TIME 1 := by
  have hdomain : fieldDomain 0x0100020C SYS.TIME.TIME 1 = 2 := by decide
  have hro : SYS.TIME.TIME.acc ≠ .wo := by decide
  have hother : SYS.TIME.TIME ≠ PU.TRIP_EN.EN ∧ SYS.TIME.TIME ≠ PU.TRIP_STAT.SRC ∧ SYS.TIME.TIME ≠ SEC.AUTH_STAT.LOCK_LEFT ∧
    SYS.TIME.TIME ≠ SEC.ROLE.IDLE_LEFT ∧ SYS.TIME.TIME ≠ SQ.TBL_WIN.ENTRY ∧ SYS.TIME.TIME ∉ tripFields := by decide
  obtain ⟨hen, hsrc, hlock, hidle, htbl, htrip⟩ := hother
  simp [readField, hdomain, hpd, hro, hen, hsrc, hlock, hidle, htbl, htrip]

theorem barRead_timeHi {s : State} (hpd : s.getBit SYS.PWR_STAT.PD_ON 2 = true) :
    s.barRead 0x0100020C = (s, s.get SYS.TIME.TIME 1) := by
  have hfields : fieldsAt 0x0100020C = [(SYS.TIME.TIME, 1, 0)] := by decide
  have hcounter : PERF.CNT_LO.CNT.placeAt 0x0100020C = none := by decide
  have hother : ¬0x0100020C = SYS.TIME.TIME.addr 0 0 := by decide
  have hlo : SYS.TIME.TIME.lo = 0 := rfl
  simp [barRead, hpd, hother, hcounter, hfields, readField_timeHi hpd, hlo]

end State

/-- Settles O60, by the two reads through BAR0. -/
theorem timeReadsFormOneValue : Obligations.TimeReadsFormOneValue := by
  unfold Obligations.TimeReadsFormOneValue
  refine ⟨fun data s hopen hlow hlevel hpd => ?_, fun data s hopen hlow hlevel hpd => ?_⟩
  · have hlatched : ((s.set SYS.TIME.TIME s.now 0).set SYS.TIME.TIME (s.now / 2 ^ 32) 1).get SYS.TIME.TIME 1 =
        s.now / 2 ^ 32 % 2 ^ 32 := State.get_set_self ..
    refine ⟨_, State.exec_debugAccess_barRead (by rwa [State.dbgLevel_eq hopen hlow]) (State.barRead_timeLo hpd), rfl, hlatched,
      fun hnow => ?_⟩
    rw [State.get_send, hlatched]
    omega
  · exact ⟨_, State.exec_debugAccess_barRead (by rwa [State.dbgLevel_eq hopen hlow]) (State.barRead_timeHi hpd), rfl, rfl⟩

namespace State

/-! ## The lowest bootstrap voltages (R371) -/

/-- A write leaves a row that shares no place with the written one alone. -/
theorem get_set_distinct (s : State) {r q : Row} {v i j a b : Nat} (hi : i < r.c1) (ha : a < q.c1)
    (h : r.distinct q = true ∧ j < r.c2 ∧ b < q.c2) : (s.set r v i j).get q a b = s.get q a b :=
  get_set_ne _ _ _ _ _ _ (Row.key_ne_of_distinct h.1 hi h.2.1 ha h.2.2)

/-- A row holds the lesser of what it held and another value. -/
theorem get_set_min (s : State) (r : Row) (v i j : Nat) :
    (s.set r (min (s.get r i j) v) i j).get r i j = min (s.get r i j) v := by
  rw [get_set_self, Nat.mod_eq_of_lt (Nat.lt_of_le_of_lt (Nat.min_le_left ..) (get_lt ..))]

/-- The rows of the lowest bootstrap voltages. -/
def bsRows : List Row := [HK.BS_MIN.U, HK.BS_MIN.V, HK.BS_MIN.W]

theorem framedAt_bsMin (s : State) (k : Nat) : Framed (rowsAt bsRows k []) [] s (s.bsMin k) :=
  (((framed_refl s).setAt (by decide)).setAt (by decide)).setAt (by decide)

theorem get_bsMin (s : State) {k : Nat} (hk : k < 3) :
    (s.bsMin k).get HK.BS_MIN.U k = min (s.get HK.BS_MIN.U k) (s.get AX.CH_VBS.VBS_U k) ∧
    (s.bsMin k).get HK.BS_MIN.V k = min (s.get HK.BS_MIN.V k) (s.get AX.CH_VBS.VBS_V k) ∧
    (s.bsMin k).get HK.BS_MIN.W k = min (s.get HK.BS_MIN.W k) (s.get AX.CH_VBS.VBS_W k) := by
  unfold bsMin
  extract_lets s1 s2
  have h1 {q : Row} (hq : k < q.c1) (h : HK.BS_MIN.U.distinct q = true ∧ 0 < 1 ∧ 0 < q.c2) : s1.get q k = s.get q k :=
    get_set_distinct s hk hq h
  have h2 {q : Row} (hq : k < q.c1) (h : HK.BS_MIN.V.distinct q = true ∧ 0 < 1 ∧ 0 < q.c2) : s2.get q k = s1.get q k :=
    get_set_distinct s1 hk hq h
  have h3 {q : Row} {v : Nat} (hq : k < q.c1) (h : HK.BS_MIN.W.distinct q = true ∧ 0 < 1 ∧ 0 < q.c2) :
      (s2.set HK.BS_MIN.W v k).get q k = s2.get q k := get_set_distinct s2 hk hq h
  refine ⟨?_, ?_, ?_⟩
  · rw [h3 hk (by decide), h2 hk (by decide)]
    exact get_set_min ..
  · rw [h3 hk (by decide), ← h1 (q := HK.BS_MIN.V) hk (by decide), ← h1 (q := AX.CH_VBS.VBS_V) hk (by decide)]
    exact get_set_min ..
  · rw [get_set_min, h2 hk (by decide), h1 hk (by decide), h2 (q := AX.CH_VBS.VBS_W) hk (by decide), h1 hk (by decide)]

/-- All phases of all bridges, each by its own fields. -/
theorem get_bsMins (s : State) {k : Nat} (hk : k < 3) : ∃ u : State, (∀ r ∈ [AX.CH_VBS.VBS_U, AX.CH_VBS.VBS_V, AX.CH_VBS.VBS_W] ++ bsRows,
      u.get r k = s.get r k) ∧ ∀ r ∈ bsRows, (s.forN 3 fun k u => u.bsMin k).get r k = (u.bsMin k).get r k := by
  obtain ⟨u, hu, ht⟩ := forN_turn (R := TurnKept bsRows [] k) (turnKept_refl _ _ _) TurnKept.trans hk _
    (fun j t hj hne => ((framedAt_bsMin t j).rows.turn hj (by decide) hne)) s
  have hall : ∀ r ∈ [AX.CH_VBS.VBS_U, AX.CH_VBS.VBS_V, AX.CH_VBS.VBS_W] ++ bsRows,
      3 = r.c1 ∧ (bsRows.all r.elsewhere && [].all r.distinct) = true ∧ 0 < r.c2 := by decide
  refine ⟨u, fun r hr => ?_, fun r hr => ?_⟩
  · exact hu.get ((hall r hr).1 ▸ hk) (hall r hr).2
  · exact ht.get ((hall r (List.mem_append_right _ hr)).1 ▸ hk) (hall r (List.mem_append_right _ hr)).2

/-- The rows that a sensor's part of a round writes. -/
def roundRows : List Row := [HK.coolT, HK.otFail] ++ sensorRows

theorem framed_sensorRound (s : State) {n : Nat} (hn : n < 38) (r : Option Nat) :
    Framed roundRows [.events, .store] s (((s.latchSensor n r).coolRound n).holdRound n) :=
  (((framed_latchSensor s hn r).mono (by decide)).on fun _ => (framed_refl _).setIn hn (by decide)).on fun _ =>
    (framed_refl _).setIn hn (by decide)

/-- The state that the sensors of a round leave. -/
def sensorsRound (s : State) (codes : List (Option (BitVec 10))) (mt : List (Option (BitVec 20))) (missing : Nat) : State :=
  s.forN 38 fun n t => ((t.latchSensor n (t.sensorReading n codes mt missing)).coolRound n).holdRound n

theorem framed_sensorsRound (s : State) (codes : List (Option (BitVec 10))) (mt : List (Option (BitVec 20))) (missing : Nat) :
    Framed roundRows [.events, .store] s (s.sensorsRound codes mt missing) :=
  (framed_refl s).forN fun _ t hn => framed_sensorRound t hn _

/-- A row of the lowest bootstrap voltages, and the voltage beside it, is not one of a sensor's. -/
theorem get_sensorsRound (s : State) (codes : List (Option (BitVec 10))) (mt : List (Option (BitVec 20))) (missing : Nat) {k : Nat} (hk : k < 3) :
    ∀ r ∈ [AX.CH_VBS.VBS_U, AX.CH_VBS.VBS_V, AX.CH_VBS.VBS_W] ++ bsRows, (s.sensorsRound codes mt missing).get r k = s.get r k := by
  have hall : ∀ r ∈ [AX.CH_VBS.VBS_U, AX.CH_VBS.VBS_V, AX.CH_VBS.VBS_W] ++ bsRows,
      3 = r.c1 ∧ (roundRows.all r.distinct = true ∧ 0 < r.c2) := by decide
  intro r hr
  exact (framed_sensorsRound s codes mt missing).rows.get_distinct ((hall r hr).1 ▸ hk) (hall r hr).2

/-- A round by its parts: the sensors, then the phases of the bridges that have a supply. -/
theorem exec_slowRound {s : State} (codes : List (Option (BitVec 10))) (mt : List (Option (BitVec 20))) (missing : BitVec 24)
    (hruns : s.hkRuns = true) : exec (.slowRound codes mt missing) s = .next
      (((s.sensorsRound codes mt missing.toNat).on (s.getBit SYS.PWR_STAT.PD_ON 5) fun t => t.forN 3 fun k u => u.bsMin k).set HK.busy 1) := by
  have hpd : (s.sensorsRound codes mt missing.toNat).getBit SYS.PWR_STAT.PD_ON 5 = s.getBit SYS.PWR_STAT.PD_ON 5 :=
    (framed_sensorsRound s codes mt missing.toNat).rows.getBit_zero 5 (by decide) (by decide)
  show execSlowRound codes mt missing s = _
  rw [← hpd]
  simp only [execSlowRound, hruns, Bool.not_true, Bool.false_eq_true, if_false, sensorsRound]

theorem get_bsRst (s : State) {k : Nat} (hk : k < 3) :
    ∀ r ∈ bsRows, (s.forN 3 fun k t => ((t.set HK.BS_MIN.U 0x3FF k).set HK.BS_MIN.V 0x3FF k).set HK.BS_MIN.W 0x3FF k).get r k = 0x3FF := by
  have hframe (t : State) (j : Nat) : Framed (rowsAt bsRows j []) [] t
      (((t.set HK.BS_MIN.U 0x3FF j).set HK.BS_MIN.V 0x3FF j).set HK.BS_MIN.W 0x3FF j) :=
    (((framed_refl t).setAt (by decide)).setAt (by decide)).setAt (by decide)
  obtain ⟨u, -, ht⟩ := forN_turn (R := TurnKept bsRows [] k) (turnKept_refl _ _ _) TurnKept.trans hk
    (fun k t => ((t.set HK.BS_MIN.U 0x3FF k).set HK.BS_MIN.V 0x3FF k).set HK.BS_MIN.W 0x3FF k)
    (fun j t hj hne => ((hframe t j).rows.turn hj (by decide) hne)) s
  have hall : ∀ r ∈ bsRows, 3 = r.c1 ∧ (bsRows.all r.elsewhere && [].all r.distinct) = true ∧ 0 < r.c2 := by decide
  intro r hr
  rw [ht.get ((hall r hr).1 ▸ hk) (hall r hr).2]
  simp only [bsRows, List.mem_cons, List.not_mem_nil, or_false] at hr
  rcases hr with rfl | rfl | rfl
  · rw [get_set_distinct _ hk hk (by decide), get_set_distinct _ hk hk (by decide)]
    exact get_set_self ..
  · rw [get_set_distinct _ hk hk (by decide)]
    exact get_set_self ..
  · exact get_set_self ..

end State

/-- Settles O59: the sensors of a round leave the bootstrap voltages and their minima alone, and of the phases each writes its own field. -/
theorem lowestBootstrapVoltagesKept : Obligations.LowestBootstrapVoltagesKept := by
  unfold Obligations.LowestBootstrapVoltagesKept
  refine ⟨rfl, rfl, rfl, fun codes mt missing s hruns => ?_, fun s hpd => ?_⟩
  · refine ⟨_, State.exec_slowRound codes mt missing hruns, fun k hk => ?_⟩
    have hbusy (u : State) : ∀ r ∈ State.bsRows, (u.set HK.busy 1).get r k = u.get r k := by
      have hall : ∀ r ∈ State.bsRows, 3 = r.c1 ∧ HK.busy.distinct r = true ∧ 0 < HK.busy.c2 ∧ 0 < r.c2 := by decide
      exact fun r hr => State.get_set_distinct u (by decide) ((hall r hr).1 ▸ hk) (hall r hr).2
    have hround := State.get_sensorsRound s codes mt missing.toNat hk
    rw [hbusy _ _ (by decide), hbusy _ _ (by decide), hbusy _ _ (by decide)]
    refine ⟨fun hon => ?_, fun hoff => ?_⟩
    · rw [hon, State.on_true]
      obtain ⟨u, hu, ht⟩ := State.get_bsMins (s.sensorsRound codes mt missing.toNat) hk
      obtain ⟨hU, hV, hW⟩ := State.get_bsMin u hk
      rw [ht _ (by decide), ht _ (by decide), ht _ (by decide), hU, hV, hW]
      have hread : ∀ r ∈ [AX.CH_VBS.VBS_U, AX.CH_VBS.VBS_V, AX.CH_VBS.VBS_W] ++ State.bsRows, u.get r k = s.get r k :=
        fun r hr => (hu r hr).trans (hround r hr)
      rw [hread HK.BS_MIN.U (by decide), hread HK.BS_MIN.V (by decide), hread HK.BS_MIN.W (by decide),
        hread AX.CH_VBS.VBS_U (by decide), hread AX.CH_VBS.VBS_V (by decide), hread AX.CH_VBS.VBS_W (by decide)]
      exact ⟨rfl, rfl, rfl⟩
    · rw [hoff, State.on_false]
      exact ⟨hround _ (by decide), hround _ (by decide), hround _ (by decide)⟩
  · have hexec : exec .bsRst s = .next
        (s.forN 3 fun k t => ((t.set HK.BS_MIN.U 0x3FF k).set HK.BS_MIN.V 0x3FF k).set HK.BS_MIN.W 0x3FF k) := by
      show execBsRst s = _
      simp only [execBsRst, hpd, Bool.not_true, Bool.false_eq_true, if_false]
    refine ⟨_, hexec, fun k hk => ?_⟩
    have hmin := State.get_bsRst s hk
    exact ⟨hmin _ (by decide), hmin _ (by decide), hmin _ (by decide)⟩

end Sys2Proof.Machine
end

/-!
Snapshots, performance counters, sample records and the memories (20): the statements O42 and O45.
-/
section
namespace Sys2Proof.Machine
set_option Elab.async false

namespace State

/-! ## A free value, a message and a snapshot in a frame -/

section
variable {rs : List Row} {fs : List Rec} {s t u : State}

theorem Framed.setFree (h : Framed rs fs s t) {r : Row} {i j : Nat} (hi : i < r.c1) (hr : r ∈ rs ∧ j < r.c2 ∧ .fresh ∈ fs) :
    Framed rs fs s (t.setFree r i j) :=
  h.trans ⟨rowsKept_set _ _ _ _ hr.1 hi hr.2.1, fun _ hf => Rec.kept_setFree _ _ _ _ fun e => hf (e ▸ hr.2.2), rfl⟩

theorem Framed.snaps (h : Framed rs fs s t) (l : List Snap) (hs : .snaps ∈ fs) : Framed rs fs s { t with snaps := l } := by
  refine h.trans ⟨rowsKept_refl _ _, fun f hf => ?_, rfl⟩
  cases f
  case snaps => exact absurd hs hf
  case events => exact fun c => by cases c <;> rfl
  all_goals simp [Rec.Kept]

theorem OutGrows.forN (h : OutGrows s t) {n : Nat} {f : Nat → State → State} (hf : ∀ k u, OutGrows u (f k u)) :
    OutGrows s (t.forN n f) :=
  h.trans (forN_rel (R := OutGrows) .refl .trans n f (fun k u _ => hf k u) t)

theorem OutGrows.snaps (h : OutGrows s t) (l : List Snap) : OutGrows s { t with snaps := l } := h

/-- What came before the completion, and sent messages of its own, does not show in it. -/
theorem Completes.of_outGrows {n : Nat} {d : Desc} {st : Status} {result : Nat} (hn : n < 32) (h : RowsKept rs s u) (ho : OutGrows s u)
    (hr : (rs.all RING.HEAD.HEAD.distinct && rs.all RING.pass.distinct) = true) (hc : u.Completes t n d st result) :
    s.Completes t n d st result := by
  obtain ⟨hdesc, hbusy, hout⟩ := hc
  rw [Bool.and_eq_true] at hr
  rw [h.get_distinct hn ⟨hr.1, by decide⟩, h.get_distinct hn ⟨hr.2, by decide⟩] at hout
  exact ⟨hdesc, hbusy, (List.drop_suffix_drop_left _ ho.length_le).subset hout⟩

end

/-! ## Cairns (R434, R435, R473) -/

/-- The records that a cairn may change. -/
def cairnRecs : List Rec := [.events, .store, .out, .fresh, .snaps]

theorem framed_perfLatch (s : State) {k : Nat} (hk : k < 32) : Framed Touch.cairnNow cairnRecs s (s.perfLatch k) :=
  .ite (fun _ => ((framed_refl s).setFree hk (by decide)).setFree hk (by decide)) fun _ => framed_refl s

theorem framed_cairnNow (s : State) : Framed Touch.cairnNow cairnRecs s s.cairnNow := by
  unfold cairnNow
  extract_lets s1 s2 s3 s4
  have h1 : Framed Touch.cairnNow cairnRecs s s1 := (framed_refl s).set (by decide) |>.set (by decide) |>.set (by decide)
  have h2 : Framed Touch.cairnNow cairnRecs s s2 := h1.forN fun _ u _ => (framed_refl u).on fun _ => (framed_refl u).send (by decide)
  have h3 : Framed Touch.cairnNow cairnRecs s s3 := h2.forN fun _ u hk => framed_perfLatch u hk
  exact (h3.snaps _ (by decide)).on fun _ => (framed_refl s4).set (by decide)

theorem framed_cairn (s : State) : Framed Touch.cairn cairnRecs s s.cairn := by
  unfold cairn
  refine .ite (fun _ => (framed_refl s).raise (by decide) (by decide)) fun _ => .ite (fun _ => ?_) fun _ => ?_
  · exact ((framed_refl s).set (by decide)).raise (by decide) (by decide)
  · exact (framed_cairnNow s).mono (by decide)

theorem outGrows_perfLatch (s : State) (k : Nat) : OutGrows s (s.perfLatch k) := by
  unfold perfLatch
  split
  · exact .of_eq rfl
  · exact .refl s

theorem outGrows_cairnNow (s : State) : OutGrows s s.cairnNow := by
  unfold cairnNow
  extract_lets s1 s2 s3 s4
  have h1 : OutGrows s s1 := .of_eq rfl
  have h2 : OutGrows s s2 := h1.forN fun _ u => (OutGrows.refl u).on _ ((OutGrows.refl u).send _)
  have h3 : OutGrows s s3 := h2.forN fun k u => outGrows_perfLatch u k
  have h4 : OutGrows s s4 := h3.snaps _
  exact h4.on _ ((OutGrows.refl s4).set ..)

theorem outGrows_cairn (s : State) : OutGrows s s.cairn := by
  have hraise {u : State} {r : Row} (hr : r ∈ Touch.cairn ∧ 0 < r.c1 ∧ 0 < r.c2) : OutGrows u (u.raise .warning r) :=
    ((framed_refl (fs := [.events, .store]) u).raise hr (by decide)).outGrows (by decide)
  unfold cairn
  split
  · exact hraise (by decide)
  · split
    · exact OutGrows.trans ((OutGrows.refl s).set ..) (hraise (by decide))
    · exact outGrows_cairnNow s

/-- The ring's descriptor is in progress still after a cairn. -/
theorem desc_cairn (s : State) (n : Nat) : s.cairn.desc n = s.desc n := by
  rw [desc, desc, (framed_cairn s).recs .descs (by decide)]

theorem completes_cairn_complete {s : State} {d : Desc} (hd : s.desc 0 = some d) (st : Status) (result : Nat) :
    s.Completes (s.cairn.complete 0 st result) 0 d st result :=
  Completes.of_outGrows (by decide) (framed_cairn s).rows (outGrows_cairn s) (by decide)
    (completes_complete s.cairn (by decide) ((desc_cairn s 0).trans hd) st result)

end State

/-- SNAPSHOT, judged by its COUNT and spacing. -/
theorem exec_ringSnapshot {s : State} {d : Desc} (hd : s.running 0 1 = some d) : exec .ringSnapshot s = .next
    (if 16 < d.byte 0 then s.complete 0 .range 0
      else if d.byte 0 = 0 then ({ s with fresh := s.fresh + 1 } : State).complete 0 .ok (Config.fresh s.fresh)
      else if d.byte 2 + 256 * d.byte 3 < 10 then s.complete 0 .range 0
      else if s.is SYS.pllDown then s.cairn.complete 0 .state 0
      else if d.byte 0 = 1 then s.cairn.complete 0 .ok ((s.get SYS.CAIRN_STAT.NUM + s.get SYS.cairnWait + 1) % 65536)
      else (((s.cairn.set RING.snapLeft (d.byte 0 - 1)).set RING.snapSp (d.byte 2 + 256 * d.byte 3)).set RING.snapAt
        (s.cairn.now + 400 * (d.byte 2 + 256 * d.byte 3))).set RING.snapNum
          ((s.get SYS.CAIRN_STAT.NUM + s.get SYS.cairnWait + 1) % 65536)) := by
  show execRingSnapshot s = _
  simp only [execRingSnapshot, hd]

/-- SNAPSHOT_NEXT with a descriptor whose cairns are not all taken. -/
theorem exec_snapshotNext {s : State} {d : Desc} (hleft : s.is RING.snapLeft = true) (hd : s.running 0 1 = some d) :
    exec .snapshotNext s = .next (if s.now < s.get RING.snapAt then s
      else ((s.cairn.set RING.snapLeft (s.get RING.snapLeft - 1)).set RING.snapAt
        (s.get RING.snapAt + 400 * s.get RING.snapSp)).on (s.get RING.snapLeft - 1 == 0) (·.complete 0 .ok (s.get RING.snapNum))) := by
  show execSnapshotNext s = _
  have hsp : s.cairn.get RING.snapSp = s.get RING.snapSp := (State.framed_cairn s).rows.get_distinct (by decide) (by decide)
  simp [execSnapshotNext, hd, hleft]

/-- The snapshots that a descriptor of ring 23 asks for. -/
def State.snapsFrom (s : State) (d : Desc) : List Snap :=
  (s.snaps.dropWhile (·.num != d.w2.toNat % 65536)).take (d.len.toNat / 512)

/-- The words of a snapshot as the host reads them. -/
def Snap.words (r : Snap) : List Nat := [r.time, r.num, r.stopped, r.enabled] ++ r.counters ++ r.values

/-- SNAPSHOT_READ sends what it reads to the host and completes. -/
theorem exec_snapshotRead {s : State} {d : Desc} (hd : s.running 23 1 = some d) : exec .snapshotRead s = .next
    (if d.len.toNat % 512 ≠ 0 then s.complete 23 .range 0
      else (s.send (.hostData 23 ((s.snapsFrom d).flatMap Snap.words))).complete 23 .ok (512 * (s.snapsFrom d).length)) := by
  show execSnapshotRead s = _
  simp only [execSnapshotRead, hd, bne_iff_ne, State.snapsFrom]
  rfl

namespace State

/-! ## Sample records (R472, R475) -/

/-- The bytes of a record written one behind the other, from a place on that keeps them below 4 MiB, are read back, and nothing else of
the SRAM is written. -/
theorem memGet_foldl_memPut (place : Nat → Nat) (v : Nat → Byte) (s : State) (n : Nat)
    (hplace : ∀ j < n, place j < 2 ^ 22) (hinj : ∀ j < n, ∀ k < n, place j = place k → j = k) {j : Nat} (hj : j < n) :
    ((List.range n).foldl (fun t j => t.memPut (place j) (v j)) s).memGet (place j) = v j := by
  induction n with
  | zero => exact absurd hj (Nat.not_lt_zero _)
  | succ n ih =>
    rw [List.range_succ, List.foldl_append, List.foldl_cons, List.foldl_nil, memGet_memPut _ _ (hplace n (by omega))]
    by_cases h : j = n
    · rw [h, if_pos rfl]
    · rw [if_neg fun e => h (hinj j hj n (by omega) e)]
      exact ih (fun k hk => hplace k (by omega)) (fun a ha b hb => hinj a (by omega) b (by omega)) (by omega)

/-! ## Performance counters (R470, R471) -/

/-- A counter that wraps sets its bit, and the interrupt that it asks for is sent. -/
theorem perfWrap_reads (s : State) {n : Nat} (hn : n < 32) : (s.perfWrap n).getBit PERF.OVF.OVF n = true ∧
    (s.perfWrap n).perfValue n = s.perfValue n ∧
    (s.getBit PERF.INT_EN.INT n = true → Msg.interrupt n 0x1C ∈ (s.perfWrap n).out) := by
  have hflag : (s.raiseBit .warning PERF.OVF.OVF n).getBit PERF.OVF.OVF n = true := getBit_raiseBit s _ _ _ hn (by decide)
  have hkept : Framed [PERF.OVF.OVF, RING.lost] [.events, .store] s (s.raiseBit .warning PERF.OVF.OVF n) :=
    (framed_refl s).raiseBit (by decide) (by decide)
  have hvalue : (s.raiseBit .warning PERF.OVF.OVF n).perfValue n = s.perfValue n := by
    rw [perfValue, perfValue, hkept.rows.get_distinct hn (by decide), hkept.rows.get_distinct hn (by decide)]
  unfold perfWrap
  cases s.getBit PERF.INT_EN.INT n
  · exact ⟨hflag, hvalue, nofun⟩
  · exact ⟨hflag, hvalue, fun _ => by simp⟩

/-- The counter after it passed its greatest value. -/
theorem perfValue_cleared (s : State) {n : Nat} (hn : n < 32) : ((s.set PERF.CNT_LO.CNT 0 n).set PERF.cntHi 0 n).perfValue n = 0 := by
  rw [perfValue, get_set_distinct _ hn hn (by decide), get_set_self, get_set_self]
  rfl

end State

/-- An enabled counter passes 2^48 − 1 (R471). -/
theorem exec_perfOvf (n : Fin 32) (pc : BitVec 32) (s : State) (hrun : s.is PERF.CTL.EN = true ∧ s.is PERF.stopped = false)
    (hcen : s.is PERF.CNT_SEL.CEN n = true) (hvalue : s.perfValue n = 2 ^ 48 - 1) :
    ∃ t, exec (.perfOvf n pc) s = .next t ∧ t.getBit PERF.OVF.OVF n = true ∧ t.perfValue n = 0 ∧
      (s.getBit PERF.INT_EN.INT n = true → Msg.interrupt n 0x1C ∈ t.out) := by
  have hn : n.val < 32 := n.isLt
  obtain ⟨hen, hstopped⟩ := hrun
  generalize hu : ((s.set PERF.CNT_LO.CNT 0 n).set PERF.cntHi 0 n) = u
  have hexec : exec (.perfOvf n pc) s = .next ((u.perfWrap n).on
      (s.getBit PERF.INT_EN.INT n && [0x13, 0x14, 0x15, 0x18].contains (s.get PERF.CNT_SEL.SOURCE n)) (·.set PERF.PERF_PC.PC pc.toNat)) := by
    show execPerfOvf n pc s = _
    simp [execPerfOvf, hen, hstopped, hcen, hvalue, ← hu]
  have hint : u.getBit PERF.INT_EN.INT n = s.getBit PERF.INT_EN.INT n := by
    rw [← hu, State.getBit, State.getBit, State.get_set_distinct _ hn (by decide) (by decide),
      State.get_set_distinct _ hn (by decide) (by decide)]
  obtain ⟨hflag, hcount, hsent⟩ := u.perfWrap_reads hn
  have hzero : u.perfValue n = 0 := hu ▸ s.perfValue_cleared hn
  generalize hv : u.perfWrap n = v at hflag hcount hsent hexec
  have hpc (c : Bool) : State.Framed [PERF.PERF_PC.PC] [] v (v.on c (·.set PERF.PERF_PC.PC pc.toNat)) :=
    (State.framed_refl v).on fun _ => (State.framed_refl v).set (by decide)
  refine ⟨_, hexec, ?_, ?_, fun h => ?_⟩
  · rw [(hpc _).rows.getBit_distinct (by decide) (by decide), hflag]
  · rw [State.perfValue, (hpc _).rows.get_distinct hn (by decide), (hpc _).rows.get_distinct hn (by decide)]
    exact hcount.trans hzero
  · rw [(hpc _).recs .out (by decide)]
    exact hsent (hint.trans h)

/-- The record of a sampled instruction of a sampled core (R472, R475). -/
theorem exec_sampleRecord (core : Fin 2) (idle : Bool) (record : List Byte) (s : State) (hen : s.is PERF.SMP_CFG.SMP_EN = true)
    (hcore : s.getBit PERF.SMP_CFG.CORE core = true) :
    ∃ t, exec (.sampleRecord core idle record) s = .next t ∧
      (idle = false → t = s.incSat PERF.SMP_STAT.SMP_DROP) ∧
      (idle = true → t.get PERF.SMP_STAT.SMP_WR =
        (s.get PERF.SMP_STAT.SMP_WR + 1) % (2 ^ s.get PERF.SMP_BASE.SMP_SIZE * 32) % 2 ^ PERF.SMP_STAT.SMP_WR.width) ∧
      (idle = true → ∀ j < 32, t.memGet ((s.get PERF.SMP_BASE.BASE * 4096 +
        32 * (s.get PERF.SMP_STAT.SMP_WR % (2 ^ s.get PERF.SMP_BASE.SMP_SIZE * 32)) + j) % 2 ^ 22) = record.getD j 0) := by
  have hexec : exec (.sampleRecord core idle record) s = .next (if !idle then s.incSat PERF.SMP_STAT.SMP_DROP
      else ((List.range 32).foldl (fun t j => t.memPut ((s.get PERF.SMP_BASE.BASE * 4096 +
        32 * (s.get PERF.SMP_STAT.SMP_WR % (2 ^ s.get PERF.SMP_BASE.SMP_SIZE * 32)) + j) % 2 ^ 22) (record.getD j 0)) s).set
          PERF.SMP_STAT.SMP_WR ((s.get PERF.SMP_STAT.SMP_WR + 1) % (2 ^ s.get PERF.SMP_BASE.SMP_SIZE * 32))) := by
    show execSampleRecord core idle record s = _
    simp [execSampleRecord, hen, hcore]
  cases idle
  · exact ⟨_, hexec, fun _ => rfl, nofun, nofun⟩
  · exact ⟨_, hexec, nofun, fun _ => State.get_set_self .., fun _ j hj =>
      State.memGet_foldl_memPut _ (record.getD · 0) s 32 (fun _ _ => Nat.mod_lt _ (by decide)) (fun a ha b hb h => by omega) hj⟩

/-- Settles O42, command by command. -/
theorem snapshotsCountersAndSamples : Obligations.SnapshotsCountersAndSamples := by
  unfold Obligations.SnapshotsCountersAndSamples
  refine ⟨fun d s hd => ?_, fun d s ⟨hleft, hd⟩ => ?_, fun d s hd => ?_, fun n pc s ⟨hen, hstopped, hcen, hvalue⟩ => ?_,
    fun core idle record s ⟨hen, hcore⟩ => ?_, fun n s hpd => ?_⟩
  case _ =>
    have hdesc := State.desc_of_running hd
    refine ⟨_, exec_ringSnapshot hd, fun h => ?_, fun hdown h1 h16 hsp => ?_, fun hdown h1 hsp => ?_, fun hdown h2 h16 hsp => ?_⟩
    · rcases h with h | ⟨h1, hsp⟩
      · rw [if_pos h]
        exact State.completes_complete s (by decide) hdesc _ _
      · split
        · exact State.completes_complete s (by decide) hdesc _ _
        · rw [if_neg (by omega)]
          exact State.completes_complete s (by decide) hdesc _ _
    · rw [if_neg (by omega), if_neg (by omega), if_neg (by omega), if_pos hdown]
      exact State.completes_cairn_complete hdesc _ _
    · rw [if_neg (by omega), if_neg (by omega), if_neg (by omega), hdown, if_neg nofun, if_pos h1]
      exact State.completes_cairn_complete hdesc _ _
    · rw [if_neg (by omega), if_neg (by omega), if_neg (by omega), hdown, if_neg nofun, if_neg (by omega)]
      have hkept (u : State) (sp at' num : Nat) : State.Framed [RING.snapSp, RING.snapAt, RING.snapNum] [] u
          (((u.set RING.snapSp sp).set RING.snapAt at').set RING.snapNum num) :=
        (State.framed_refl u).set (by decide) |>.set (by decide) |>.set (by decide)
      refine ⟨?_, ?_⟩
      · rw [(hkept _ _ _ _).rows.get_distinct (by decide) (by decide), State.get_set_self, Nat.mod_eq_of_lt]
        change _ < 32
        omega
      · exact (State.desc_cairn s 0).trans hdesc
  case _ =>
    have hdesc := State.desc_of_running hd
    refine ⟨_, exec_snapshotNext hleft hd, fun h => if_pos h, fun h h1 => ?_, fun h h1 => ?_⟩
    · rw [if_neg (by omega), h1]
      have hkept : State.Framed (RING.snapLeft :: RING.snapAt :: Touch.cairn) State.cairnRecs s
          ((s.cairn.set RING.snapLeft (1 - 1)).set RING.snapAt (s.get RING.snapAt + 400 * s.get RING.snapSp)) :=
        ((State.framed_cairn s).mono (by decide)).set (by decide) |>.set (by decide)
      have hd' : ((s.cairn.set RING.snapLeft (1 - 1)).set RING.snapAt (s.get RING.snapAt + 400 * s.get RING.snapSp)).desc 0 = some d :=
        (State.desc_cairn s 0).trans hdesc
      exact State.Completes.of_outGrows (by decide) hkept.rows ((State.outGrows_cairn s).set .. |>.set ..) (by decide)
        (State.completes_complete _ (by decide) hd' _ _)
    · rw [if_neg (by omega)]
      have hnot : (s.get RING.snapLeft - 1 == 0) = false := beq_false_of_ne (by omega)
      have hlt : s.get RING.snapLeft < 2 ^ RING.snapLeft.width := State.get_lt ..
      rw [hnot, State.on_false]
      refine ⟨?_, (State.desc_cairn s 0).trans hdesc⟩
      rw [State.get_set_ne _ _ _ _ _ _ (by decide), State.get_set_self, Nat.mod_eq_of_lt (by omega)]
  case _ =>
    have hdesc := State.desc_of_running hd
    refine ⟨_, exec_snapshotRead hd, fun h => ?_, fun h => ?_⟩
    · rw [if_pos h]
      exact State.completes_complete s (by decide) hdesc _ _
    · rw [if_neg (not_not.2 h)]
      exact State.Completes.of_outGrows (by decide) (State.rowsKept_send (rs := []) s (.hostData 23 ((s.snapsFrom d).flatMap Snap.words)))
        ((State.OutGrows.refl s).send _) (by decide) (State.completes_complete (s.send _) (by decide) hdesc _ _)
  case _ => exact exec_perfOvf n pc s ⟨hen, hstopped⟩ hcen hvalue
  case _ => exact exec_sampleRecord core idle record s hen hcore
  case _ =>
    have hexec : exec (.cntLoRead n) s = .next (((s.perfLatch n).set PERF.CNT_HI.CNT ((s.perfLatch n).get PERF.cntHi n) n).send
        (.readData ((s.perfLatch n).get PERF.CNT_LO.CNT n))) := by
      show execCntLoRead n s = _
      simp [execCntLoRead, hpd]
    refine ⟨_, hexec, fun hen => ?_⟩
    have hlatch : s.perfLatch n = s := by simp [State.perfLatch, hen]
    rw [hlatch]
    exact ⟨State.get_set_self .., rfl⟩

end Sys2Proof.Machine
end

/-!
The memories (20, 21): cells that are dropped, wrong bits and their checks, the march engine and the logic BIST (O45).
-/
section
namespace Sys2Proof.Machine
set_option Elab.async false

/-! ## Dropped cells -/

theorem Cells.find_filter (c : Cells) (f : Nat × Nat → Bool) {a : Nat} (h : ∀ v, f (a, v) = true) :
    Cells.find (c.filter f) a = Cells.find c a := by
  induction c with
  | nil => rfl
  | cons p c ih =>
    obtain ⟨k, v⟩ := p
    by_cases hk : k = a
    · subst hk
      simp [h, Cells.find]
    · cases hf : f (k, v) <;> simp [hf, Cells.find, hk, ih]

/-- The key of a row's instance is one of its places. -/
theorem Row.key_of_instAt {r : Row} {key i : Nat} (h0 : 0 < r.c2) (h : r.instAt key = some i) :
    i < r.c1 ∧ ∃ j < r.c2, key = r.key i j := by
  unfold Row.instAt at h
  split at h
  case isFalse => exact absurd h nofun
  case isTrue hlo =>
    obtain ⟨⟨i', j⟩, hplace, rfl⟩ := Option.map_eq_some_iff.1 h
    obtain ⟨k, hk, helem⟩ := List.exists_of_findSome?_eq_some hplace
    obtain ⟨j', hj, heq⟩ := Option.map_eq_some_iff.1 helem
    obtain ⟨rfl, rfl⟩ := Prod.mk.inj heq
    refine ⟨List.mem_range.1 hk, j', ?_⟩
    have haddr : j' < r.c2 ∧ key / 32 = r.addr k j' := by
      rw [r.addr_eq_add]
      simp only [Row.elemAt] at hj
      split at hj
      · exact absurd hj nofun
      · split at hj
        · split at hj
          · obtain rfl := Option.some.inj hj
            exact ⟨h0, by omega⟩
          · exact absurd hj nofun
        · split at hj
          · rename_i hle hs2 hdiv
            obtain rfl := Option.some.inj hj
            obtain ⟨hmod, hlt⟩ := Bool.and_eq_true_iff.1 hdiv
            have hmul := Nat.div_add_mod (key / 32 - r.addr k 0) r.s2
            exact ⟨of_decide_eq_true hlt, by rw [of_decide_eq_true hmod] at hmul; omega⟩
          · exact absurd hj nofun
    exact ⟨haddr.1, by rw [Row.key, ← haddr.2]; omega⟩

namespace State

section
variable {rs : List Row} {fs : List Rec} {s t : State}

theorem rowsKept_dropCells (s : State) (l : List Row) (p : Row → Nat → Bool) (hl : ∀ r ∈ l, r ∈ rs ∧ 0 < r.c2) :
    RowsKept rs s (s.dropCells l p) := by
  intro q i j hq
  simp only [get, dropCells]
  rw [Cells.find_filter]
  intro v
  simp only [Bool.not_eq_true', List.any_eq_false]
  intro r hr hp
  split at hp
  case h_1 k hk =>
    obtain ⟨hk1, b, hb, hkey⟩ := Row.key_of_instAt (hl r hr).2 hk
    exact hq r (hl r hr).1 k hk1 b hb hkey
  case h_2 => exact absurd hp nofun

theorem Rec.kept_regs (f : Rec) (s : State) (c : Cells) : f.Kept s { s with regs := c } := by
  cases f
  case events => exact fun c => by cases c <;> rfl
  all_goals simp [Rec.Kept]

theorem Framed.dropCells (h : Framed rs fs s t) {l : List Row} {p : Row → Nat → Bool} (hl : ∀ r ∈ l, r ∈ rs ∧ 0 < r.c2) :
    Framed rs fs s (t.dropCells l p) :=
  h.trans ⟨rowsKept_dropCells t l p hl, fun f _ => Rec.kept_regs f t _, rfl⟩

theorem Framed.ecc (h : Framed rs fs s t) (bad : List ((Nat × Nat) × Nat)) (seen : List (Nat × Nat)) (hf : .ecc ∈ fs) :
    Framed rs fs s { t with eccBad := bad, eccSeen := seen } := by
  refine h.trans ⟨rowsKept_refl _ _, fun f hn => ?_, rfl⟩
  cases f
  case ecc => exact absurd hf hn
  case events => exact fun c => by cases c <;> rfl
  all_goals simp [Rec.Kept]

theorem Framed.mem (h : Framed rs fs s t) (m : Memory) (hf : .mem ∈ fs) : Framed rs fs s { t with mem := m } := by
  refine h.trans ⟨rowsKept_refl _ _, fun f hn => ?_, rfl⟩
  cases f
  case mem => exact absurd hf hn
  case events => exact fun c => by cases c <;> rfl
  all_goals simp [Rec.Kept]

end

theorem framed_pitSet (s : State) (source sel inst unit : Nat) :
    Framed Touch.pitSet [.events, .store] s (s.pitSet source sel inst unit) := by
  unfold pitSet safetyLog
  exact ((framed_refl s).set (by decide) |>.set (by decide) |>.set (by decide) |>.set (by decide) |>.set (by decide)
    |>.set (by decide)).event (by decide)

/-- A bit that is set reads set, if the row has it. -/
theorem getBit_setBit_true (s : State) (r : Row) (n i j : Nat) : (s.setBit r n true i j).getBit r n i j = decide (n < r.width) := by
  by_cases h : n < r.width
  · rw [getBit_setBit_self s r i j h, decide_eq_true h]
  · have hlt : (s.setBit r n true i j).get r i j < 2 ^ n :=
      Nat.lt_of_lt_of_le (get_lt ..) (Nat.pow_le_pow_right (by decide) (Nat.le_of_not_lt h))
    rw [decide_eq_false h, getBit, bit_eq_testBit, Nat.testBit_lt_two_pow hlt]

/-! ## Wrong bits of a word (R459) -/

theorem framed_setEcc (s : State) (m w n : Nat) : Framed [] [.ecc] s (s.setEcc m w n) := (framed_refl s).ecc _ _ (by decide)

theorem framed_eccDed (s : State) (m w : Nat) : Framed Touch.eccDed [.events, .store] s (s.eccDed m w) :=
  ((framed_refl s).set (by decide) |>.set (by decide) |>.set (by decide) |>.set (by decide)).event (by decide)

/-- The records that the check of a word may change. -/
def eccRecs : List Rec := [.events, .store, .ecc]

theorem framed_eccCheck (s : State) (m w : Nat) : Framed Touch.eccCheck eccRecs s (s.eccCheck m w) := by
  unfold eccCheck
  split
  · exact framed_refl s
  · have hset : Framed Touch.eccCheck eccRecs s ((s.setEcc m w 0).incSat MEM.ECC_STAT.SEC_CNT) :=
      ((framed_setEcc s m w 0).mono (by decide)).set (by decide)
    exact .ite (fun _ => hset.event (by decide)) fun _ => hset.ecc _ _ (by decide)
  · exact (framed_eccDed s m w).mono (by decide)

/-- A word's wrong bits after they were replaced. -/
theorem eccOf_setEcc (s : State) (m w n : Nat) : (s.setEcc m w n).eccOf m w = n := by
  have hrest : (s.eccBad.filter fun p => p.1 != (m, w)).lookup (m, w) = none := by
    simp [lookup_filter_ne]
  by_cases h : n = 0 <;> simp [eccOf, setEcc, h, hrest, List.lookup_append]

/-- A word with one wrong bit is corrected, and counted. -/
theorem eccCheck_of_one {s : State} {m w : Nat} (h : s.eccOf m w = 1) : (s.eccCheck m w).eccOf m w = 0 ∧
    (s.eccCheck m w).get MEM.ECC_STAT.SEC_CNT = min (s.get MEM.ECC_STAT.SEC_CNT + 1) (2 ^ MEM.ECC_STAT.SEC_CNT.width - 1) := by
  have hcount : ((s.setEcc m w 0).incSat MEM.ECC_STAT.SEC_CNT).get MEM.ECC_STAT.SEC_CNT =
      min (s.get MEM.ECC_STAT.SEC_CNT + 1) (2 ^ MEM.ECC_STAT.SEC_CNT.width - 1) := get_incSat_self (s.setEcc m w 0) _ _ _
  have hecc : ((s.setEcc m w 0).incSat MEM.ECC_STAT.SEC_CNT).eccOf m w = 0 := s.eccOf_setEcc m w 0
  simp only [eccCheck, h]
  generalize (s.setEcc m w 0).incSat MEM.ECC_STAT.SEC_CNT = u at hcount hecc
  have hevent : Framed [RING.lost] [.events, .store] u (u.event .warning 0 0x1D 0x0430 m w) := (framed_refl u).event (by decide)
  split
  · refine ⟨?_, (hevent.rows.get_distinct (by decide) (by decide)).trans hcount⟩
    rw [eccOf, (hevent.recs .ecc (by decide)).1]
    exact hecc
  · exact ⟨hecc, hcount⟩

theorem eccCheck_of_none {s : State} {m w : Nat} (h : s.eccOf m w = 0) : s.eccCheck m w = s := by
  simp only [eccCheck, h]

/-- A word with two wrong bits is flagged with its address. -/
theorem eccCheck_of_two {s : State} {m w : Nat} (hm : m < MEM.ECC_STAT.DED.width) (h : s.eccOf m w = 2) :
    (s.eccCheck m w).getBit MEM.ECC_STAT.DED m = true ∧
    (s.eccCheck m w).get MEM.ECC_ADDR.ADDR = w % 2 ^ MEM.ECC_ADDR.ADDR.width := by
  have hevent (u : State) : Framed [RING.lost] [.events, .store] u (u.event .fault 0 0x1D 0x0431 m w) :=
    (framed_refl u).event (by decide)
  simp only [eccCheck, h, eccDed]
  refine ⟨?_, ?_⟩
  · rw [(hevent _).rows.getBit_distinct (by decide) (by decide), getBit, get_set_ne _ _ _ _ _ _ (by decide),
      get_set_ne _ _ _ _ _ _ (by decide), incSat_eq, get_set_ne _ _ _ _ _ _ (by decide)]
    exact getBit_setBit_self _ _ _ _ hm
  · rw [(hevent _).rows.get_distinct (by decide) (by decide), get_set_self]

theorem framed_scrubNext (s : State) (last : Bool) : Framed [MEM.scrubMem, MEM.scrubWord] [.ecc] s (s.scrubNext last) := by
  unfold scrubNext
  exact .ite (fun _ => ((framed_refl s).set (by decide) |>.set (by decide)).ecc _ _ (by decide)) fun _ => (framed_refl s).set (by decide)

theorem eccOf_scrubNext (s : State) (last : Bool) (m w : Nat) : (s.scrubNext last).eccOf m w = s.eccOf m w := by
  cases last <;> rfl

/-! ## The march engine (R462, R463) -/

theorem framed_calZero (s : State) : Framed Touch.calZero [] s s.calZero := by
  unfold calZero
  exact (((framed_refl s).dropCells (by decide)).set (by decide) |>.set (by decide)).forN fun h u hh =>
    (framed_refl u).set ⟨by decide, by decide, hh⟩

/-- The rows that a destructive run of a memory clears. -/
def marchZeroRows : List Row := [MEM.host, MEM.hostOn, MEM.blank, CE.ld, CE.ldM, CE.code, CE.codeOn, SQ.store, SQ.storeOn] ++ Touch.calZero

theorem framed_marchZero (s : State) {m : Nat} (hm : m ≠ 0) : Framed marchZeroRows [.ecc] s (s.marchZero m) := by
  unfold marchZero
  extract_lets s1 s2
  have h1 : Framed marchZeroRows [.ecc] s s1 := (framed_refl s).ecc _ _ (by decide)
  rw [if_neg hm]
  refine .ite (fun _ => h1.andThen (framed_calZero s1) (by decide)) fun _ => .ite (fun _ => ?_) fun _ => ?_
  · exact (h1.dropCells (by decide)).set (by decide)
  · have h2 : Framed marchZeroRows [.ecc] s s2 := (h1.dropCells (by decide)).dropCells (by decide)
    exact h2.foldl _ fun u b _ => (framed_refl u).on fun _ => (framed_refl u).set (by decide)

theorem framed_marchZero_zero (s : State) : Framed [] [.ecc, .mem] s (s.marchZero 0) :=
  ((framed_refl s).ecc _ _ (by decide)).mem [] (by decide)

/-- The rows and the records that the memories' part of a run may change. -/
def marchRows : List Row := marchZeroRows ++ Touch.eccCheck

def marchRecs : List Rec := [.events, .store, .ecc, .mem]

theorem framed_marchKeep (s : State) (m : Nat) : Framed marchRows marchRecs s (s.marchKeep m) :=
  (framed_refl s).foldl _ fun u p _ => (framed_eccCheck u m p.1.2).mono (by decide)

/-- What a run does to each memory of its target. -/
def marchMemories (s : State) (destr : Bool) (target : Nat) : State :=
  (List.range 6).foldl (fun u m => u.on (bit target m) fun v => if destr then v.marchZero m else v.marchKeep m) s

theorem framed_marchMemories (s : State) (destr : Bool) (target : Nat) : Framed marchRows marchRecs s (s.marchMemories destr target) := by
  refine (framed_refl s).foldl _ fun u m _ => (framed_refl u).on fun _ => .ite (fun _ => ?_) fun _ => framed_marchKeep u m
  by_cases hm : m = 0
  · subst hm
    exact (framed_marchZero_zero u).mono (by decide)
  · exact (framed_marchZero u hm).mono (by decide)

/-- A destructive run of the shared SRAM leaves it all 0. -/
theorem mem_marchMemories (s : State) {target : Nat} (h : bit target 0 = true) : (s.marchMemories true target).mem = [] := by
  have hrest (u : State) : Framed marchZeroRows [.ecc] u
      ([1, 2, 3, 4, 5].foldl (fun u m => u.on (bit target m) fun v => v.marchZero m) u) :=
    (framed_refl u).foldl _ fun v m hm => (framed_refl v).on fun _ => framed_marchZero v (by rintro rfl; simp at hm)
  have hrun : s.marchMemories true target =
      [1, 2, 3, 4, 5].foldl (fun u m => u.on (bit target m) fun v => v.marchZero m) (s.marchZero 0) := by
    have hrange : List.range 6 = 0 :: [1, 2, 3, 4, 5] := rfl
    simp only [marchMemories, hrange, List.foldl_cons, h, on_true, if_true]
  rw [hrun, (hrest _).recs .mem (by decide)]
  rfl

/-- The rows that the report of a run writes after its count and its first failure. -/
def repairRows : List Row := [MEM.REPAIR.ROWS, MEM.REPAIR.COLS, MEM.REPAIR.UNREP, RING.lost]

/-- The count, and where there is one the first failure, of a report. -/
theorem marchReport_reads (s : State) (target left spent rows cols : Nat) {fails addr : Nat} (mem : Fin 6) (pos : Fin 72) (hfails : fails < 65536)
    (haddr : addr < 2 ^ 19) : Framed (MEM.MARCH_STAT.FAIL_CNT :: [MEM.MARCH_FAIL.MEM, MEM.MARCH_FAIL.BIT, MEM.MARCH_FAIL.ADDR] ++ repairRows)
      [.events, .store] s (s.marchReport target fails mem addr pos left spent rows cols) ∧
    (s.marchReport target fails mem addr pos left spent rows cols).get MEM.MARCH_STAT.FAIL_CNT = fails ∧
    (fails ≠ 0 → (s.marchReport target fails mem addr pos left spent rows cols).get MEM.MARCH_FAIL.MEM = mem ∧
      (s.marchReport target fails mem addr pos left spent rows cols).get MEM.MARCH_FAIL.ADDR = addr ∧
      (s.marchReport target fails mem addr pos left spent rows cols).get MEM.MARCH_FAIL.BIT = pos) := by
  unfold marchReport
  extract_lets s1 s2 s3 unrep
  have h2 : Framed (MEM.MARCH_STAT.FAIL_CNT :: [MEM.MARCH_FAIL.MEM, MEM.MARCH_FAIL.BIT, MEM.MARCH_FAIL.ADDR] ++ repairRows)
      [.events, .store] s s2 :=
    ((framed_refl s).set (by decide)).on fun _ => (framed_refl s1).set (by decide) |>.set (by decide) |>.set (by decide)
  have hrest : Framed repairRows [.events, .store] s2 (unrep.on (spent &&& target != 0) (·.event .fault 0 0x1D 0x0433
      (unrep.get MEM.MARCH_FAIL.MEM * 2 ^ 28 + unrep.get MEM.MARCH_FAIL.BIT * 2 ^ 20 + unrep.get MEM.MARCH_FAIL.ADDR)
      (unrep.get MEM.REPAIR.UNREP))) := by
    have h3 : Framed repairRows [.events, .store] s2 s3 := (framed_refl s2).set (by decide) |>.set (by decide)
    refine (h3.foldl _ fun u m _ => ?_).on fun _ => (framed_refl unrep).event (by decide)
    refine .ite (fun _ => framed_refl u) fun _ => .ite (fun _ => (framed_refl u).set (by decide)) fun _ => ?_
    exact (framed_refl u).on fun _ => (framed_refl u).set (by decide)
  have hcount : s2.get MEM.MARCH_STAT.FAIL_CNT = fails := by
    have hkept : Framed [MEM.MARCH_FAIL.MEM, MEM.MARCH_FAIL.BIT, MEM.MARCH_FAIL.ADDR] [] s1 s2 :=
      (framed_refl s1).on fun _ => (framed_refl s1).set (by decide) |>.set (by decide) |>.set (by decide)
    rw [hkept.rows.get_distinct (by decide) (by decide), get_set_self, Nat.mod_eq_of_lt]
    · omega
    · change _ < 65536
      omega
  have hmem : mem.val < 2 ^ MEM.MARCH_FAIL.MEM.width := Nat.lt_of_lt_of_le mem.isLt (by decide)
  have hpos : pos.val < 2 ^ MEM.MARCH_FAIL.BIT.width := Nat.lt_of_lt_of_le pos.isLt (by decide)
  have hwidth : addr < 2 ^ MEM.MARCH_FAIL.ADDR.width := Nat.lt_of_lt_of_le haddr (by decide)
  refine ⟨h2.trans (hrest.mono (by decide)), (hrest.rows.get_distinct (by decide) (by decide)).trans hcount, fun hne => ?_⟩
  have hfirst : s2 = ((s1.set MEM.MARCH_FAIL.MEM mem).set MEM.MARCH_FAIL.BIT pos).set MEM.MARCH_FAIL.ADDR addr := by
    simp only [s2, bne_iff_ne.2 hne, on_true]
  rw [hrest.rows.get_distinct (by decide) (by decide), hrest.rows.get_distinct (by decide) (by decide),
    hrest.rows.get_distinct (by decide) (by decide), hfirst]
  refine ⟨?_, ?_, ?_⟩
  · rw [get_set_ne _ _ _ _ _ _ (by decide), get_set_ne _ _ _ _ _ _ (by decide), get_set_self, Nat.mod_eq_of_lt hmem]
  · rw [get_set_self, Nat.mod_eq_of_lt hwidth]
  · rw [get_set_ne _ _ _ _ _ _ (by decide), get_set_self, Nat.mod_eq_of_lt hpos]

/-! ## BIST (R465, R467 to R469) -/

theorem Framed.fresh {rs : List Row} {fs : List Rec} {s t : State} (h : Framed rs fs s t) (n : Nat) (hf : .fresh ∈ fs) :
    Framed rs fs s { t with fresh := n } := by
  refine h.trans ⟨rowsKept_refl _ _, fun f hn => ?_, rfl⟩
  cases f
  case fresh => exact absurd hf hn
  case events => exact fun c => by cases c <;> rfl
  all_goals simp [Rec.Kept]

/-- The records that a byte written into the shared SRAM may change. -/
def memPutRecs : List Rec := [.events, .store, .mem, .ecc]

theorem framed_memPut (s : State) (a : Nat) (v : BitVec 8) : Framed Touch.pitAct memPutRecs s (s.memPut a v) := by
  unfold memPut
  refine .ite (fun _ => framed_refl s) fun _ => ?_
  extract_lets w here one two s1 s2
  have h1 : Framed Touch.pitAct memPutRecs s s1 := by
    refine (framed_refl s).on fun h => ?_
    have hpit : s.pit 0x1D 1 0 = true ∨ s.pit 0x1D 2 0 = true := by
      simp only [one, two, Bool.or_eq_true, Bool.and_eq_true] at h
      exact h.imp And.right And.right
    rcases hpit with hpit | hpit
    · exact (framed_pitAct hpit (by decide)).mono (by decide)
    · exact (framed_pitAct hpit (by decide)).mono (by decide)
  exact (h1.mem _ (by decide)).ecc _ _ (by decide)

theorem framed_bistSave (s : State) (pd : Nat) : Framed Touch.pitAct (.fresh :: memPutRecs) s (s.bistSave pd) := by
  unfold bistSave
  extract_lets a t
  have ht : Framed Touch.pitAct (.fresh :: memPutRecs) s t :=
    (framed_refl s).foldl (List.range 8192) fun u k _ => (framed_memPut u _ _).mono (by decide)
  clear_value t
  exact ht.fresh _ (by decide)

/-- The rows that the warm reset of a BIST run clears. -/
def bistZeroRows : List Row := [CE.ld, CE.ldM, CE.code, CE.codeOn, SQ.store, SQ.storeOn, MEM.blank] ++ Touch.calZero

theorem framed_unblank (s : State) (p : Nat → Bool) : Framed [MEM.blank] [] s (s.unblank p) := (framed_refl s).set (by decide)

theorem framed_bistZero (s : State) (pd : Nat) : Framed bistZeroRows [.ecc] s (s.bistZero pd) := by
  unfold bistZero
  extract_lets s0 s1
  have h0 : Framed bistZeroRows [.ecc] s s0 := (framed_refl s).dropCells (by decide)
  have h1 : Framed bistZeroRows [.ecc] s s1 := h0.ecc _ _ (by decide)
  exact ((h1.dropCells (by decide)).andThen (framed_unblank _ _) (by decide)).on fun _ => (framed_calZero _).mono (by decide)

/-- The state that the run of a domain ends in before its result is taken. -/
def bistOver (s : State) : State :=
  (((((s.saveBad (s.get BIST.CMD.DOMAIN)).foldl (fun t p => t.eccCheck 0 p.1) s).set BIST.STAT.BUSY 0).set BIST.CMD.GO 0).incSat
    BIST.CNT.RUNS).bistZero (s.get BIST.CMD.DOMAIN)

/-- The rows that it writes beside BUSY. -/
def bistOverRows : List Row := [BIST.CMD.GO, BIST.CNT.RUNS] ++ bistZeroRows ++ Touch.eccCheck

theorem framed_bistOver (s : State) : Framed (BIST.STAT.BUSY :: bistOverRows) eccRecs s s.bistOver := by
  have hread : Framed (BIST.STAT.BUSY :: bistOverRows) eccRecs s ((s.saveBad (s.get BIST.CMD.DOMAIN)).foldl (fun t p => t.eccCheck 0 p.1) s) :=
    (framed_refl s).foldl _ fun u p _ => (framed_eccCheck u 0 p.1).mono (by decide)
  exact (hread.set (by decide) |>.set (by decide) |>.set (by decide)).andThen (framed_bistZero _ _) (by decide)

theorem busy_bistOver (s : State) : s.bistOver.is BIST.STAT.BUSY = false := by
  unfold bistOver
  rw [(framed_bistZero _ _).rows.is_distinct (by decide) (by decide), is, incSat_eq, get_set_ne _ _ _ _ _ _ (by decide),
    get_set_ne _ _ _ _ _ _ (by decide)]
  exact is_set_zero ..

/-- A run that the saved state does not spoil passes. -/
def bistGood (s : State) (pass : Bool) : Bool := pass && !(s.saveBad (s.get BIST.CMD.DOMAIN)).any fun p => decide (2 ≤ p.2)

/-- The rows of the reset map. -/
def mapRows : List Row := [SYS.RST_MAP.BIST, SYS.RST_MAP.NET, SYS.RST_MAP.HOST, SYS.RST_MAP.BELAY, SYS.RST_MAP.WD_ENG, SYS.RST_MAP.WD_HC,
  SYS.RST_MAP.BO_CTL]

theorem framed_loadMap (s : State) : Framed mapRows [] s s.loadMap := by
  unfold loadMap
  extract_lets m
  exact .ite (fun _ => framed_refl s) fun _ => (framed_refl s).set (by decide) |>.set (by decide) |>.set (by decide) |>.set (by decide)
    |>.set (by decide) |>.set (by decide) |>.set (by decide)

theorem framed_startUp (s : State) (lvl banks : Nat) : Framed Touch.startUp [] s (s.startUp lvl banks) :=
  (framed_refl s).set (by decide) |>.set (by decide) |>.set (by decide) |>.set (by decide) |>.set (by decide)

/-- Before its cause is written: what a reset clears, and what it does with the domains and the outputs (R443, R444, R454). -/
def holdBegun (s : State) (lvl src : Nat) (warm : Bool) : State :=
  let banks := s.get SYS.PWR_STAT.PD_ON / 128 % 4 * 128
  let kept := if lvl = 0 then s.get SYS.PWR_STAT.PD_ON / 512 % 2 * 512
    else s.get SYS.PWR_STAT.PD_ON % 4 + banks + s.get SYS.PWR_STAT.PD_ON / 512 % 2 * 512
  let s0 := (s.on (s.get ACT.job == 2) (·.set ACT.ERR_LOC.IMG_FAIL 1)).set SEC.autoCom (s.get SEC.FW_CMD.AUTO_COMMIT)
  let s1 := ((s0.clearLevel lvl warm).set SYS.PWR_STAT.PD_ON kept).shSet 0
  let s1 := s1.on (decide (lvl ≤ 1)) (·.set SYS.xtalBad 0)
  let s1 := s1.on (src == 10) fun t => (t.set BIST.SIG.SIG (s.get BIST.SIG.SIG 0 0) 0 0).set BIST.SIG.SIG (s.get BIST.SIG.SIG 0 1) 0 1
  s1.on (lvl == 0 && s.is SEC.DBG_STAT.OPEN) (·.event .info 0 0x1F 0x0304 (s.get SEC.DBG_STAT.LEVEL) 3)

/-- The rows that a reset writes after its cause, but for the marks of failed BIST runs. -/
def afterCauseRows : List Row := [SYS.rstEv, SEC.DBG_STAT.HALT, SYS.RST_CNT.RESETS, GI.glLost, SYS.rstLvl, SYS.rstSrc, SYS.rstWarm,
  SYS.RST_CTL.LOCK] ++ mapRows ++ Touch.startUp

/-- A reset writes its cause, and after it these rows alone, and the marks of failed BIST runs unless a failed run is its source. -/
theorem framed_takeHold_writeCause {rs : List Row} (s : State) (lvl src : Nat) (warm : Bool) (hrs : ∀ r ∈ afterCauseRows, r ∈ rs)
    (htry : src = 10 ∨ SYS.bistTry ∈ rs) :
    Framed rs [] ((s.holdBegun lvl src warm).writeCause src lvl warm) (s.takeHold lvl src warm) := by
  have hin {u v : State} (h : Framed afterCauseRows [] u v) : Framed rs [] u v := h.mono ⟨hrs, nofun⟩
  change Framed rs [] _ (let s2 := (((s.holdBegun lvl src warm).writeCause src lvl warm).set SYS.rstEv 1).set SEC.DBG_STAT.HALT 0
    let s3 := if lvl = 0 then s2.loadMap else (s2.incSat SYS.RST_CNT.RESETS).forN 12 fun i t => t.set GI.glLost 1 i
    let s4 := ((s3.set SYS.rstLvl lvl).set SYS.rstSrc src).setb SYS.rstWarm warm
    let s5 := s4.on (src != 10) fun t => t.forN 9 fun pd u => u.set SYS.bistTry 0 pd
    (s5.on (decide (2 ≤ s5.get SEC.LC_STAT.STATE)) (·.set SYS.RST_CTL.LOCK 1)).startUp lvl (s.get SYS.PWR_STAT.PD_ON / 128 % 4 * 128))
  extract_lets s2 s3 s4 s5
  have h2 : Framed afterCauseRows [] ((s.holdBegun lvl src warm).writeCause src lvl warm) s2 := (framed_refl _).set (by decide) |>.set (by decide)
  have h3 : Framed afterCauseRows [] ((s.holdBegun lvl src warm).writeCause src lvl warm) s3 :=
    .ite (fun _ => h2.andThen (framed_loadMap s2) (by decide)) fun _ =>
      (h2.set (by decide)).forN fun i u hi => (framed_refl u).setIn hi (by decide)
  have h4 : Framed afterCauseRows [] ((s.holdBegun lvl src warm).writeCause src lvl warm) s4 :=
    h3.set (by decide) |>.set (by decide) |>.set (by decide)
  have h5 : Framed rs [] ((s.holdBegun lvl src warm).writeCause src lvl warm) s5 := by
    refine (hin h4).on fun h => (framed_refl s4).forN fun pd u hpd => (framed_refl u).setIn hpd ⟨?_, by decide⟩
    exact htry.resolve_left (bne_iff_ne.1 h)
  exact (h5.trans (hin ((framed_refl s5).on fun _ => (framed_refl s5).set (by decide)))).trans (hin ((framed_startUp _ _ _).mono (by decide)))

/-- RST_CAUSE names the reset that took hold (R456). -/
theorem cause_takeHold (s : State) (lvl src : Nat) (warm : Bool) :
    (s.takeHold lvl src warm).get SYS.RST_CAUSE.SRC = src % 2 ^ SYS.RST_CAUSE.SRC.width ∧
    (s.takeHold lvl src warm).get SYS.RST_CAUSE.LEVEL = lvl % 2 ^ SYS.RST_CAUSE.LEVEL.width := by
  have hu := s.framed_takeHold_writeCause (rs := SYS.bistTry :: afterCauseRows) lvl src warm (fun _ => List.mem_cons_of_mem _) (.inr (by simp))
  rw [hu.rows.get_distinct (by decide) (by decide), hu.rows.get_distinct (by decide) (by decide)]
  unfold writeCause
  refine ⟨?_, ?_⟩
  · rw [setb_eq, get_set_ne _ _ _ _ _ _ (by decide), get_set_ne _ _ _ _ _ _ (by decide), get_set_self]
  · rw [setb_eq, get_set_ne _ _ _ _ _ _ (by decide), get_set_self]

/-- The signature's second word has the place of its first. -/
theorem set_sig_one (s : State) (v : Nat) : s.set BIST.SIG.SIG v 0 1 = s.set BIST.SIG.SIG v := rfl

/-- A failed run resets at the level of the map, at once: what the report and the mark of the try write, one of them past the last domain,
holds neither the phase nor the cause. -/
theorem cause_bistFailed (s : State) (pd : Fin 16) (misr islands : Nat) (hphase : s.get SYS.rstPhase = 1) :
    (((s.bistReport pd misr islands).set SYS.bistTry 1 pd).resetRequest 1 10 false).get SYS.RST_CAUSE.SRC = 10 ∧
    (((s.bistReport pd misr islands).set SYS.bistTry 1 pd).resetRequest 1 10 false).get SYS.RST_CAUSE.LEVEL = 1 := by
  have hreport : Framed [BIST.SIG.SIG, RING.lost] [.events, .store] s (s.bistReport pd misr islands) := by
    unfold bistReport
    rw [set_sig_one]
    exact .ite (fun _ => (framed_refl s).event (by decide)) fun _ => ((framed_refl s).set (by decide) |>.set (by decide)).event (by decide)
  have hrow : ∀ pd : Fin 16, SYS.bistTry.key pd 0 ≠ SYS.rstPhase.key 0 0 := by decide
  have hstill : ((s.bistReport pd misr islands).set SYS.bistTry 1 pd).get SYS.rstPhase = 1 := by
    rw [get_set_ne _ _ _ _ _ _ (hrow pd), hreport.rows.get_distinct (by decide) (by decide), hphase]
  generalize (s.bistReport pd misr islands).set SYS.bistTry 1 pd = u at hstill
  have hreset : u.resetRequest 1 10 false = u.takeHold 1 10 false := by
    rw [resetRequest, hstill]
    rfl
  rw [hreset]
  exact cause_takeHold u 1 10 false

end State

/-- BIST_DONE, by its result. -/
theorem exec_bistDone {s : State} (hbusy : s.is BIST.STAT.BUSY = true) (pass : Bool) (misr : BitVec 64) (islands : BitVec 6) :
    exec (.bistDone pass misr islands) s = .next
      (if s.bistGood pass then (((s.bistOver.set BIST.STAT.RESULT 1).event .info 0 0x1E 0x0435 (s.get BIST.CMD.DOMAIN) 0).setBit
          BIST.STAT.PASS (s.get BIST.CMD.DOMAIN - 1) true)
        else ((((((s.bistOver.set BIST.STAT.RESULT 2).event .info 0 0x1E 0x0435 (s.get BIST.CMD.DOMAIN) 1).incSat BIST.CNT.FAILS).bistReport
          (s.get BIST.CMD.DOMAIN) misr.toNat islands.toNat).set SYS.bistTry 1 (s.get BIST.CMD.DOMAIN)).resetRequest
            (s.get SYS.RST_MAP.BIST) 10 false)) := by
  show execBistDone pass misr islands s = _
  simp only [execBistDone, hbusy, Bool.not_true, Bool.false_eq_true, if_false]
  rw [State.bistOver, State.bistGood]
  generalize (pass && !(s.saveBad (s.get BIST.CMD.DOMAIN)).any fun p => decide (2 ≤ p.2)) = good
  cases good <;> rfl

/-- SCRUB of the word of the shared SRAM at hand. -/
theorem exec_memScrub (flips : Fin 3) {s : State} (hpd : s.getBit SYS.PWR_STAT.PD_ON 2 = true) (hen : s.is MEM.CTL.SCRUB_EN = true)
    (hmem : s.get MEM.scrubMem = 0) (hecc : s.eccOf 0 (s.get MEM.scrubWord) = 0) : ∃ last, exec (.memScrub flips) s = .next
      (((s.setEcc 0 (s.get MEM.scrubWord) flips).eccCheck 0 (s.get MEM.scrubWord)).scrubNext last) := by
  have hflips : min 2 (0 + flips.val) = flips := by omega
  have hdomain : State.memDomain 0 = 2 := rfl
  refine ⟨decide (memWords 0 ≤ s.get MEM.scrubWord + 1), ?_⟩
  show execMemScrub flips s = _
  simp only [execMemScrub, hmem, hdomain, hpd, hen, hecc, hflips, Bool.not_true, Bool.or_self, Bool.false_eq_true, if_false]

theorem exec_memScrub_counts (flips : Fin 3) (s : State) (hpd : s.getBit SYS.PWR_STAT.PD_ON 2 = true) (hen : s.is MEM.CTL.SCRUB_EN = true)
    (hmem : s.get MEM.scrubMem = 0) (hecc : s.eccOf 0 (s.get MEM.scrubWord) = 0) :
    ∃ t, exec (.memScrub flips) s = .next t ∧
      (flips.val = 0 → t.get MEM.ECC_STAT.SEC_CNT = s.get MEM.ECC_STAT.SEC_CNT ∧ t.get MEM.ECC_STAT.DED_CNT = s.get MEM.ECC_STAT.DED_CNT) ∧
      (flips.val = 1 → t.get MEM.ECC_STAT.SEC_CNT = min (s.get MEM.ECC_STAT.SEC_CNT + 1) (2 ^ MEM.ECC_STAT.SEC_CNT.width - 1) ∧
        t.eccOf 0 (s.get MEM.scrubWord) = 0) ∧
      (flips.val = 2 → t.getBit MEM.ECC_STAT.DED 0 = true ∧
        t.get MEM.ECC_ADDR.ADDR = s.get MEM.scrubWord % 2 ^ MEM.ECC_ADDR.ADDR.width) := by
  obtain ⟨last, hexec⟩ := exec_memScrub flips hpd hen hmem hecc
  have hword := s.eccOf_setEcc 0 (s.get MEM.scrubWord) flips
  have hnext (u : State) := (State.framed_scrubNext u last).rows
  refine ⟨_, hexec, fun h => ?_, fun h => ?_, fun h => ?_⟩ <;> rw [h] at hword ⊢
  · rw [State.eccCheck_of_none hword, (hnext _).get_distinct (by decide) (by decide), (hnext _).get_distinct (by decide) (by decide)]
    exact ⟨rfl, rfl⟩
  · obtain ⟨hcleared, hcount⟩ := State.eccCheck_of_one hword
    rw [(hnext _).get_distinct (by decide) (by decide), State.eccOf_scrubNext]
    exact ⟨hcount, hcleared⟩
  · obtain ⟨hflag, haddr⟩ := State.eccCheck_of_two (by decide) hword
    rw [(hnext _).getBit_distinct (by decide) (by decide), (hnext _).get_distinct (by decide) (by decide)]
    exact ⟨hflag, haddr⟩

/-- A window read that is aborted is counted, and the event waits. -/
theorem exec_winAbort (offset : BitVec 22) (s : State) : ∃ t, exec (.winAbort offset) s = .next t ∧
    t.get MEM.ARB_STAT.WIN_ABORT = min (s.get MEM.ARB_STAT.WIN_ABORT + 1) (2 ^ MEM.ARB_STAT.WIN_ABORT.width - 1) ∧
    (s.evWarning.length < 64 → t.evWarning = s.evWarning ++
      [{ time := s.now, inst := 0, source := 0x1D, code := 0x0434, arg0 := offset.toNat, arg1 := 0 }]) := by
  have hevent : State.Framed [RING.lost] [.events, .store] (s.incSat MEM.ARB_STAT.WIN_ABORT)
      ((s.incSat MEM.ARB_STAT.WIN_ABORT).event .warning 0 0x1D 0x0434 offset.toNat 0) := (State.framed_refl _).event (by decide)
  refine ⟨_, rfl, ?_, fun h => ?_⟩
  · rw [hevent.rows.get_distinct (by decide) (by decide), State.get_incSat_self]
  · simp [State.event, State.eventAt, State.queue, h, State.setQueue]

/-- MARCH_START with no run under way. -/
theorem exec_marchStart (target : BitVec 6) (destr repair : Bool) (s : State) (hidle : s.is MEM.MARCH_STAT.BUSY = false)
    (hpd : s.pdOn 2 = true) : ∃ t, exec (.marchStart target destr repair) s = .next t ∧
      (destr = false ∨ s.marchBars target.toNat = false →
        t.is MEM.MARCH_STAT.BUSY = true ∧ t.get MEM.MARCH_CMD.TARGET = target.toNat ∧ t.get MEM.MARCH_STAT.FAIL_CNT = 0) ∧
      (destr = true → s.marchBars target.toNat = true →
        t.get MEM.MARCH_STAT.RESULT = 3 ∧ t.is MEM.CTL.CFG_REJECT = true ∧ t.is MEM.MARCH_STAT.BUSY = false) := by
  have htarget : target.toNat < 2 ^ MEM.MARCH_CMD.TARGET.width := Nat.lt_of_lt_of_le target.isLt (by decide)
  have hexec : exec (.marchStart target destr repair) s = .next
      (if destr && s.marchBars target.toNat then (s.set MEM.MARCH_STAT.RESULT 3).set MEM.CTL.CFG_REJECT 1
        else (((((((s.set MEM.MARCH_CMD.TARGET target.toNat).setb MEM.MARCH_CMD.DESTR destr).setb MEM.MARCH_CMD.REPAIR_EN repair).set
          MEM.MARCH_CMD.GO 1).set MEM.MARCH_STAT.BUSY 1).set MEM.MARCH_STAT.FAIL_CNT 0).set MEM.MARCH_STAT.RESULT 0).on
            (destr && bit target.toNat 1) (·.calZero)) := by
    show execMarchStart target destr repair s = _
    simp only [execMarchStart, hpd, hidle, Bool.not_true, Bool.false_eq_true, if_false]
  refine ⟨_, hexec, fun h => ?_, fun hd hb => ?_⟩
  · have hstart : (destr && s.marchBars target.toNat) = false := by
      rcases h with h | h <;> simp [h]
    have hcal (u : State) : State.Framed Touch.calZero [] u (u.on (destr && bit target.toNat 1) (·.calZero)) :=
      (State.framed_refl u).on fun _ => State.framed_calZero u
    rw [hstart, if_neg nofun, (hcal _).rows.is_distinct (by decide) (by decide), (hcal _).rows.get_distinct (by decide) (by decide),
      (hcal _).rows.get_distinct (by decide) (by decide)]
    simp (disch := decide) only [State.is, State.setb_eq, State.get_set_ne, State.get_set_self, Nat.mod_eq_of_lt htarget]
    decide
  · rw [hd, hb]
    have hresult : (s.set MEM.MARCH_STAT.RESULT 3).get MEM.MARCH_STAT.RESULT = 3 := State.get_set_self ..
    have hbusy : (s.set MEM.MARCH_STAT.RESULT 3).is MEM.MARCH_STAT.BUSY = false := by
      rwa [State.is, State.get_set_ne _ _ _ _ _ _ (by decide)]
    generalize s.set MEM.MARCH_STAT.RESULT 3 = u at hresult hbusy
    refine ⟨?_, State.is_set_one _ _ _ _ (by decide), ?_⟩
    · exact (State.get_set_ne _ _ _ _ _ _ (by decide)).trans hresult
    · rwa [Bool.and_self, if_pos rfl, State.is, State.get_set_ne _ _ _ _ _ _ (by decide)]

/-- What a run that was asked for reports: the spares count where REPAIR_EN asks for them. -/
def State.marchReported (s : State) (fails : BitVec 16) (mem : Fin 6) (addr : BitVec 19) (pos : Fin 72) (left spent : BitVec 6)
    (rows cols : BitVec 8) (target : Nat) : State :=
  s.marchReport target fails.toNat mem addr.toNat pos left.toNat
    (if s.is MEM.MARCH_CMD.REPAIR_EN then spent.toNat &&& left.toNat else 0)
    (if s.is MEM.MARCH_CMD.REPAIR_EN then rows.toNat else 0) (if s.is MEM.MARCH_CMD.REPAIR_EN then cols.toNat else 0)

/-- The run that ends. -/
theorem exec_marchDone_eq (fails : BitVec 16) (mem : Fin 6) (addr : BitVec 19) (pos : Fin 72) (left spent : BitVec 6)
    (rows cols : BitVec 8) {s : State} (hbusy : s.is MEM.MARCH_STAT.BUSY = true) : ∃ u v : State,
      u = ((s.marchMemories (s.is MEM.MARCH_CMD.DESTR) (s.get MEM.MARCH_CMD.TARGET)).set MEM.MARCH_STAT.BUSY 0).set MEM.MARCH_CMD.GO 0 ∧
      v = u.marchReported fails mem addr pos left spent rows cols (s.get MEM.MARCH_CMD.TARGET) ∧
      exec (.marchDone false fails mem addr pos left spent rows cols) s = .next ((v.set MEM.MARCH_STAT.RESULT (if fails = 0 then 1 else 2)).event
        .info 0 0x1D 0x0432 (s.get MEM.MARCH_CMD.TARGET) (v.get MEM.MARCH_STAT.FAIL_CNT)) := by
  refine ⟨_, _, rfl, rfl, ?_⟩
  show execMarchDone _ _ _ _ _ _ _ _ _ _ = _
  simp only [execMarchDone, hbusy, Bool.not_true, Bool.false_eq_true, if_false, Bool.false_or]
  rfl

theorem exec_marchDone (fails : BitVec 16) (mem : Fin 6) (addr : BitVec 19) (pos : Fin 72) (left spent : BitVec 6)
    (rows cols : BitVec 8) (s : State) (hbusy : s.is MEM.MARCH_STAT.BUSY = true) :
    ∃ t, exec (.marchDone false fails mem addr pos left spent rows cols) s = .next t ∧
      (t.is MEM.MARCH_STAT.BUSY = false ∧ t.is MEM.MARCH_CMD.GO = false ∧ t.get MEM.MARCH_STAT.FAIL_CNT = fails.toNat ∧
        t.get MEM.MARCH_STAT.RESULT = if fails = 0 then 1 else 2) ∧
      (fails ≠ 0 → t.get MEM.MARCH_FAIL.MEM = mem ∧ t.get MEM.MARCH_FAIL.ADDR = addr.toNat ∧ t.get MEM.MARCH_FAIL.BIT = pos) ∧
      (s.is MEM.MARCH_CMD.DESTR = true → bit (s.get MEM.MARCH_CMD.TARGET) 0 = true → t.mem = []) := by
  obtain ⟨u, v, hu, hv, hexec⟩ := exec_marchDone_eq fails mem addr pos left spent rows cols hbusy
  have hbusy' : u.is MEM.MARCH_STAT.BUSY = false := by
    rw [hu, State.is, State.get_set_ne _ _ _ _ _ _ (by decide)]
    exact State.is_set_zero ..
  have hgo : u.is MEM.MARCH_CMD.GO = false := by
    rw [hu]
    exact State.is_set_zero ..
  obtain ⟨hkept, hcount, hfirst⟩ := u.marchReport_reads (s.get MEM.MARCH_CMD.TARGET) left.toNat
    (if u.is MEM.MARCH_CMD.REPAIR_EN then spent.toNat &&& left.toNat else 0) (if u.is MEM.MARCH_CMD.REPAIR_EN then rows.toNat else 0)
    (if u.is MEM.MARCH_CMD.REPAIR_EN then cols.toNat else 0) mem pos fails.isLt addr.isLt
  rw [← State.marchReported, ← hv] at hkept hcount hfirst
  have hresult (n : Nat) : State.Framed [MEM.MARCH_STAT.RESULT, RING.lost] [.events, .store] v ((v.set MEM.MARCH_STAT.RESULT n).event
      .info 0 0x1D 0x0432 (s.get MEM.MARCH_CMD.TARGET) (v.get MEM.MARCH_STAT.FAIL_CNT)) :=
    ((State.framed_refl v).set (by decide)).event (by decide)
  refine ⟨_, hexec, ⟨?_, ?_, ?_, ?_⟩, fun hne => ?_, fun hdestr hsram => ?_⟩
  · rw [(hresult _).rows.is_distinct (by decide) (by decide), hkept.rows.is_distinct (by decide) (by decide), hbusy']
  · rw [(hresult _).rows.is_distinct (by decide) (by decide), hkept.rows.is_distinct (by decide) (by decide), hgo]
  · rw [(hresult _).rows.get_distinct (by decide) (by decide), hcount]
  · rw [State.get_event _ _ _ _ _ _ _ _ _ _ fun j hj => Row.key_ne_of_distinct (r := RING.lost) (by decide) hj (by decide) (by decide) (by decide),
      State.get_set_self]
    split <;> decide
  · have hne' : fails.toNat ≠ 0 := fun h => hne (BitVec.eq_of_toNat_eq h)
    rw [(hresult _).rows.get_distinct (by decide) (by decide), (hresult _).rows.get_distinct (by decide) (by decide),
      (hresult _).rows.get_distinct (by decide) (by decide)]
    exact hfirst hne'
  · rw [(hresult _).recs .mem (by decide), hkept.recs .mem (by decide), hu, hdestr]
    exact State.mem_marchMemories s hsram

/-- BIST_START of a domain. -/
theorem exec_bistStart (domain : BitVec 4) (s : State) (hpd : s.pdOn 2 = true) : ∃ t, exec (.bistStart domain) s = .next t ∧
    (domain.toNat < 3 ∨ 8 < domain.toNat → t = s.set BIST.CTL.CFG_REJECT 1) ∧
    (3 ≤ domain.toNat → domain.toNat ≤ 8 → s.bistBars domain.toNat = true →
      t.get BIST.STAT.RESULT = 3 ∧ t.is BIST.CTL.CFG_REJECT = true ∧ t.is BIST.STAT.BUSY = s.is BIST.STAT.BUSY) ∧
    (3 ≤ domain.toNat → domain.toNat ≤ 8 → s.bistBars domain.toNat = false →
      t.is BIST.STAT.BUSY = true ∧ t.get BIST.CMD.DOMAIN = domain.toNat) := by
  have hexec : exec (.bistStart domain) s = .next (if domain.toNat < 3 ∨ 8 < domain.toNat then s.set BIST.CTL.CFG_REJECT 1
      else if s.bistBars domain.toNat then (s.set BIST.STAT.RESULT 3).set BIST.CTL.CFG_REJECT 1
      else ((((s.bistSave domain.toNat).set BIST.CMD.DOMAIN domain.toNat).set BIST.CMD.GO 1).set BIST.STAT.BUSY 1).set BIST.STAT.RESULT 0) := by
    show execBistStart domain s = _
    simp only [execBistStart, hpd, Bool.not_true, Bool.false_eq_true, if_false, Bool.or_eq_true, decide_eq_true_eq]
  refine ⟨_, hexec, fun h => if_pos h, fun h3 h8 hbars => ?_, fun h3 h8 hbars => ?_⟩
  · rw [if_neg (by omega), if_pos hbars]
    refine ⟨?_, State.is_set_one _ _ _ _ (by decide), ?_⟩
    · rw [State.get_set_ne _ _ _ _ _ _ (by decide)]
      exact State.get_set_self ..
    · rw [State.is, State.get_set_ne _ _ _ _ _ _ (by decide), State.get_set_ne _ _ _ _ _ _ (by decide)]
      rfl
  · have hdomain : domain.toNat < 2 ^ BIST.CMD.DOMAIN.width := Nat.lt_of_lt_of_le domain.isLt (by decide)
    rw [if_neg (by omega), hbars, if_neg nofun]
    refine ⟨?_, ?_⟩
    · rw [State.is, State.get_set_ne _ _ _ _ _ _ (by decide)]
      exact State.is_set_one _ _ _ _ (by decide)
    · rw [State.get_set_ne _ _ _ _ _ _ (by decide), State.get_set_ne _ _ _ _ _ _ (by decide), State.get_set_ne _ _ _ _ _ _ (by decide),
        State.get_set_self, Nat.mod_eq_of_lt hdomain]

/-- A BIST run ends: what its result shows, and after a failure the reset. -/
theorem exec_bistDone_reads (pass : Bool) (misr : BitVec 64) (islands : BitVec 6) (s : State) (hbusy : s.is BIST.STAT.BUSY = true) :
    ∃ t, exec (.bistDone pass misr islands) s = .next t ∧
      (pass = true → (∀ p ∈ s.saveBad (s.get BIST.CMD.DOMAIN), p.2 < 2) → t.is BIST.STAT.BUSY = false ∧ t.get BIST.STAT.RESULT = 1 ∧
        t.getBit BIST.STAT.PASS (s.get BIST.CMD.DOMAIN - 1) = (decide (s.get BIST.CMD.DOMAIN - 1 < BIST.STAT.PASS.width))) ∧
      ((pass = false ∨ ∃ p ∈ s.saveBad (s.get BIST.CMD.DOMAIN), 2 ≤ p.2) → s.get SYS.rstPhase = 1 → s.get SYS.RST_MAP.BIST = 1 →
        t.get SYS.RST_CAUSE.SRC = 10 ∧ t.get SYS.RST_CAUSE.LEVEL = 1) := by
  have hevent (u : State) (n : Nat) : State.Framed [RING.lost] [.events, .store] u (u.event .info 0 0x1E 0x0435 (s.get BIST.CMD.DOMAIN) n) :=
    (State.framed_refl u).event (by decide)
  refine ⟨_, exec_bistDone hbusy pass misr islands, fun hpass hsave => ?_, fun hfail hphase hmap => ?_⟩
  · have hgood : s.bistGood pass = true := by
      simp only [State.bistGood, hpass, Bool.true_and, Bool.not_eq_true', List.any_eq_false, decide_eq_true_eq]
      exact fun p hp => Nat.not_le.2 (hsave p hp)
    rw [if_pos hgood]
    refine ⟨?_, ?_, ?_⟩
    · rw [State.is, State.setBit, State.get_set_ne _ _ _ _ _ _ (by decide), (hevent _ _).rows.get_distinct (by decide) (by decide),
        State.get_set_ne _ _ _ _ _ _ (by decide)]
      exact s.busy_bistOver
    · rw [State.setBit, State.get_set_ne _ _ _ _ _ _ (by decide), (hevent _ _).rows.get_distinct (by decide) (by decide)]
      exact State.get_set_self ..
    · exact State.getBit_setBit_true ..
  · have hbad : s.bistGood pass = false := by
      rw [State.bistGood, Bool.and_eq_false_iff, Bool.not_eq_false', List.any_eq_true]
      exact hfail.imp id fun ⟨p, hp, h⟩ => ⟨p, hp, decide_eq_true h⟩
    rw [hbad, if_neg nofun, hmap]
    refine State.cause_bistFailed _ ⟨s.get BIST.CMD.DOMAIN, State.get_lt ..⟩ misr.toNat islands.toNat ?_
    rw [State.incSat_eq, State.get_set_ne _ _ _ _ _ _ (by decide), (hevent _ _).rows.get_distinct (by decide) (by decide),
      State.get_set_ne _ _ _ _ _ _ (by decide), s.framed_bistOver.rows.get_distinct (by decide) (by decide), hphase]

/-- MEM_PIT_ARM of a piton that is permitted. -/
theorem exec_memPitArm (addr : BitVec 19) (sel : BitVec 4) (s : State) (ha : s.pitAllowed = true) (hsel : 1 ≤ sel.toNat ∧ sel.toNat ≤ 2)
    (hpd : s.pdOn 2 = true) : ∃ t, exec (.memPitArm addr sel) s = .next t ∧
      t.is MEM.PIT_CTL.ARM = true ∧ t.get MEM.PIT_CTL.ADDR = addr.toNat ∧ t.get BL.PIT_STAT.SOURCE = 0x1D := by
  generalize hu : (s.set MEM.PIT_CTL.ADDR addr.toNat).set MEM.PIT_CTL.SEL sel.toNat = u
  have hexec : exec (.memPitArm addr sel) s = .next ((u.pitSet 0x1D sel.toNat 0 0).set MEM.PIT_CTL.ARM 1) := by
    show execMemPitArm addr sel s = _
    rw [execMemPitArm, hpd, State.pitArm, ha, decide_eq_true hsel, ← hu]
    rfl
  have hset := u.framed_pitSet 0x1D sel.toNat 0 0
  obtain ⟨-, hsource, -⟩ := pitSet_reads u 0x1D sel.toNat 0 0
  refine ⟨_, hexec, State.is_set_one _ _ _ _ (by decide), ?_, ?_⟩
  · rw [State.get_set_ne _ _ _ _ _ _ (by decide), hset.rows.get_distinct (by decide) (by decide), ← hu,
      State.get_set_ne _ _ _ _ _ _ (by decide), State.get_set_self, Nat.mod_eq_of_lt]
    exact Nat.lt_of_lt_of_le addr.isLt (by decide)
  · rw [State.get_set_ne _ _ _ _ _ _ (by decide), hsource]
    rfl

/-- Settles O45, command by command. -/
theorem memoriesScrubberMarchAndBist : Obligations.MemoriesScrubberMarchAndBist := by
  unfold Obligations.MemoriesScrubberMarchAndBist
  refine ⟨fun flips s ⟨hpd, hen, hmem, hecc⟩ => exec_memScrub_counts flips s hpd hen hmem hecc, exec_winAbort,
    exec_marchStart, fun boot fails mem addr pos left spent rows cols s ⟨hboot, hbusy⟩ => ?_, exec_bistStart, exec_bistDone_reads,
    fun addr sel s ⟨ha, hsel⟩ hpd => exec_memPitArm addr sel s ha hsel hpd, fun d s hd => ?_⟩
  · subst hboot
    exact exec_marchDone fails mem addr pos left spent rows cols s hbusy
  · have hexec : exec .ringNop s = .next (s.complete 0 .ok s.now) := by
      show execRingNop s = _
      simp only [execRingNop, hd]
    exact ⟨_, hexec, State.completes_complete s (by decide) (State.desc_of_running hd) _ _⟩

end Sys2Proof.Machine
end

/-!
Reset and start-up (20): what a level clears and what a reset that takes hold leaves alone, and the steps of start-up (O44).
-/
section
namespace Sys2Proof.Machine
set_option Elab.async false

/-- The place of a row that is found at an address. -/
theorem Row.addr_of_placeAt {r : Row} {a i j : Nat} (h0 : 0 < r.c2) (h : r.placeAt a = some (i, j)) :
    i < r.c1 ∧ j < r.c2 ∧ a = r.addr i j := by
  obtain ⟨k, hk, helem⟩ := List.exists_of_findSome?_eq_some h
  obtain ⟨j', hj, heq⟩ := Option.map_eq_some_iff.1 helem
  obtain ⟨rfl, rfl⟩ := Prod.mk.inj heq
  refine ⟨List.mem_range.1 hk, ?_⟩
  rw [r.addr_eq_add]
  simp only [Row.elemAt] at hj
  split at hj
  · exact absurd hj nofun
  · split at hj
    · split at hj
      · obtain rfl := Option.some.inj hj
        exact ⟨h0, by omega⟩
      · exact absurd hj nofun
    · split at hj
      · rename_i hle hs2 hdiv
        obtain rfl := Option.some.inj hj
        obtain ⟨hmod, hlt⟩ := Bool.and_eq_true_iff.1 hdiv
        have hmul := Nat.div_add_mod (a - r.addr k 0) r.s2
        exact ⟨of_decide_eq_true hlt, by rw [of_decide_eq_true hmod] at hmul; omega⟩
      · exact absurd hj nofun

/-- The words from `a` to `b` lie below the row's first place, or above its last. -/
def Row.clearOfSpan (a b : Nat) (r : Row) : Bool :=
  decide (r.lo < 32 ∧ ((r.eng = false ∧ b < r.base) ∨
    r.base + (if r.eng then engBase 6 else r.s1 * (r.c1 - 1)) + r.s2 * (r.c2 - 1) < a))

theorem Row.clearOf_of_clearOfSpan {a b addr : Nat} {r : Row} (h : r.clearOfSpan a b = true) (haddr : a ≤ addr ∧ addr ≤ b) :
    r.clearOf addr = true := by
  simp only [Row.clearOfSpan, Row.clearOf, decide_eq_true_eq] at h ⊢
  obtain ⟨hlo, hside⟩ := h
  exact ⟨hlo, hside.imp (fun ⟨heng, hb⟩ => ⟨heng, Nat.lt_of_le_of_lt haddr.2 hb⟩) fun ha => Nat.lt_of_lt_of_le ha haddr.1⟩

namespace State

/-! ## What a level clears (R6, R454) -/

/-- Cells dropped of some instances of the rows that the condition names. -/
theorem rowsKept_dropCells_of {rs : List Row} (s : State) (l : List Row) (p : Row → Nat → Bool)
    (hl : ∀ r ∈ l, (r ∈ rs ∧ 0 < r.c2) ∨ ∀ i, p r i = false) : RowsKept rs s (s.dropCells l p) := by
  intro q i j hq
  simp only [get, dropCells]
  rw [Cells.find_filter]
  intro v
  simp only [Bool.not_eq_true', List.any_eq_false]
  intro r hr hp
  split at hp
  case h_1 k hk =>
    rcases hl r hr with ⟨hrs, h0⟩ | hnot
    · obtain ⟨hk1, b, hb, hkey⟩ := Row.key_of_instAt h0 hk
      exact hq r hrs k hk1 b hb hkey
    · exact absurd (hnot k) (by rw [hp]; decide)
  case h_2 => exact absurd hp nofun

theorem framed_clearWhere (s : State) (p : Row → Nat → Nat → Bool) (hp : ∀ r i d, p r i d = true → r.clr ≠ .never) :
    Framed Touch.clearable [] s (s.clearWhere p) := by
  have hpos : ∀ d ∈ domainRows, ∀ r ∈ d.1, 0 < r.c2 := by decide +kernel
  refine (framed_refl s).foldl domainRows fun u d hd => ⟨?_, fun f _ => Rec.kept_regs f u _, rfl⟩
  refine rowsKept_dropCells_of u d.1 _ fun r hr => ?_
  by_cases hclr : r.clr = .never
  · exact .inr fun i => Bool.eq_false_iff.2 fun h => hp r i _ h hclr
  · exact .inl ⟨List.mem_flatMap.2 ⟨d, hd, List.mem_filter.2 ⟨hr, bne_iff_ne.2 hclr⟩⟩, hpos d hd r hr⟩

/-- The records that a reset clears. -/
def clearedRecs : List Rec := [.now, .mem, .ecc, .events, .store, .descs, .plays, .ridgeIn, .eng, .canTx, .canRxQ, .ethTxQ, .snaps, .fwImage, .calImage, .pwdBuf]

theorem framed_bivEnd (s : State) : Framed [RING.lost] [.events, .store] s s.bivEnd :=
  (framed_refl s).forN fun _ u _ => (framed_refl u).on fun _ => (framed_refl u).event (by decide)

theorem framed_lockPause (s : State) : Framed [SEC.lockRest, SEC.lockT] [] s s.lockPause := by
  unfold lockPause
  exact (framed_refl s).set (by decide) |>.set (by decide)

/-- A state that differs in what a reset clears alone. -/
theorem Framed.cleared {rs : List Row} {s t u : State} (h : Framed rs clearedRecs s t) (hregs : u.regs = t.regs) (hlog : u.log = t.log)
    (hout : u.out = t.out) (hfresh : u.fresh = t.fresh) (hpending : u.pending = t.pending) : Framed rs clearedRecs s u := by
  refine ⟨fun r i j hr => ?_, fun f hf => ?_, hpending.trans h.pending⟩
  · rw [← h.rows r i j hr, get, get, hregs]
  · cases f
    case log => exact hlog.trans (h.recs .log hf)
    case out => exact hout.trans (h.recs .out hf)
    case fresh => exact hfresh.trans (h.recs .fresh hf)
    all_goals exact absurd (by decide) hf

/-- The rows that a level clears, with what the end of bivouac mode and of the lockout's count write. -/
def levelRows : List Row := [RING.lost, SEC.lockRest, SEC.lockT] ++ Touch.clearable

/-- What a level clears beside the rows. -/
def clearRecords (s1 : State) (lvl : Nat) (warm : Bool) : State :=
  let s2 := ({ (s1.clearCommon warm).clearNet.clearEngines (fun _ => true) with
    eccBad := if warm then s1.eccBad.filter fun p => p.1.1 == 0 else [] } : State)
  if lvl = 0 then { s2 with now := 0, ridgeIn := [], pwdBuf := [] } else s2

theorem framed_clearRecords (s : State) (lvl : Nat) (warm : Bool) : Framed levelRows clearedRecs s (s.clearRecords lvl warm) :=
  .ite (fun _ => (framed_refl s).cleared rfl rfl rfl rfl rfl) fun _ => (framed_refl s).cleared rfl rfl rfl rfl rfl

/-- A reset of a level clears these rows. -/
def levelClears (lvl : Nat) (r : Row) (d : Nat) : Bool :=
  if lvl = 0 then r.clr != .never else d != 1 && (r.clr == .blk || r.clr == .ctl)

theorem clearLevel_eq (s : State) (lvl : Nat) (warm : Bool) : s.clearLevel lvl warm =
    ((s.on (lvl == 0) fun t => t.bivEnd.lockPause).clearWhere fun r _ d => levelClears lvl r d).clearRecords lvl warm := rfl

theorem framed_clearLevel (s : State) (lvl : Nat) (warm : Bool) : Framed levelRows clearedRecs s (s.clearLevel lvl warm) := by
  have hlost : ∀ r ∈ [RING.lost], r ∈ levelRows := fun r hr => List.mem_append_left _ (List.mem_cons.2 (.inl (List.mem_singleton.1 hr)))
  have hlock : ∀ r ∈ [SEC.lockRest, SEC.lockT], r ∈ levelRows := fun r hr => List.mem_append_left _ (List.mem_cons_of_mem _ hr)
  have h0 : Framed levelRows clearedRecs s (s.on (lvl == 0) fun t => t.bivEnd.lockPause) :=
    (framed_refl s).on fun _ => ((framed_bivEnd s).mono ⟨hlost, by decide⟩).andThen (framed_lockPause _) ⟨hlock, nofun⟩
  have hclears : ∀ (r : Row) (i d : Nat), levelClears lvl r d = true → r.clr ≠ .never := by
    intro r _ d h hn
    unfold levelClears at h
    split at h <;> simp [hn] at h
  rw [clearLevel_eq]
  exact (h0.andThen (framed_clearWhere _ _ hclears) ⟨fun r hr => List.mem_append_right _ hr, nofun⟩).trans (framed_clearRecords _ _ _)

/-- The rows that a reset writes before its cause beside those that its level clears. -/
def beforeCauseRows : List Row := [ACT.ERR_LOC.IMG_FAIL, SEC.autoCom, SYS.PWR_STAT.PD_ON, BL.SH_STAT.ON, BL.shT, SYS.xtalBad, BIST.SIG.SIG, RING.lost]

theorem framed_shSet (s : State) (on : Nat) : Framed [BL.SH_STAT.ON, BL.shT] [] s (s.shSet on) := by
  unfold shSet
  refine Framed.set ?_ (by decide)
  exact (framed_refl s).forN fun o u ho => (framed_refl u).on fun _ => (framed_refl u).setIn ho (by decide)

/-- The rows that a reset may change before its cause is written. -/
def holdBegunRows : List Row := beforeCauseRows ++ levelRows

/-- Before the cause is written a reset clears its level, of a state that differs from the one before in two rows, and sets the domains and
the outputs. -/
theorem framed_clearLevel_holdBegun (s : State) (lvl src : Nat) (warm : Bool) : ∃ u : State, Framed [ACT.ERR_LOC.IMG_FAIL, SEC.autoCom] [] s u ∧
    Framed beforeCauseRows [.events, .store] (u.clearLevel lvl warm) (s.holdBegun lvl src warm) := by
  unfold holdBegun
  extract_lets banks kept s0 s1a s1b s1c
  have ha : Framed beforeCauseRows [.events, .store] (s0.clearLevel lvl warm) s1a :=
    ((framed_refl _).set (by decide)).andThen (framed_shSet _ 0) (by decide)
  have hb : Framed beforeCauseRows [.events, .store] (s0.clearLevel lvl warm) s1b := ha.on fun _ => (framed_refl s1a).set (by decide)
  have hc : Framed beforeCauseRows [.events, .store] (s0.clearLevel lvl warm) s1c := hb.on fun _ => by
    rw [set_sig_one]
    exact (framed_refl s1b).set (by decide) |>.set (by decide)
  exact ⟨s0, ((framed_refl s).on fun _ => (framed_refl s).set (by decide)).set (by decide), hc.on fun _ => (framed_refl s1c).event (by decide)⟩

theorem framed_holdBegun (s : State) (lvl src : Nat) (warm : Bool) : Framed holdBegunRows clearedRecs s (s.holdBegun lvl src warm) := by
  have hin : ∀ r ∈ beforeCauseRows, r ∈ holdBegunRows := fun _ hr => List.mem_append_left _ hr
  have hfirst : ∀ r ∈ [ACT.ERR_LOC.IMG_FAIL, SEC.autoCom], r ∈ beforeCauseRows := by decide
  obtain ⟨u, hu, hrest⟩ := s.framed_clearLevel_holdBegun lvl src warm
  have hclear : Framed holdBegunRows clearedRecs u (u.clearLevel lvl warm) :=
    (framed_clearLevel u lvl warm).mono ⟨fun _ hr => List.mem_append_right _ hr, fun _ hf => hf⟩
  exact ((hu.mono ⟨fun r hr => hin r (hfirst r hr), nofun⟩).trans hclear).andThen hrest ⟨hin, by decide⟩

/-- The rows that a reset may change, but for the marks of failed BIST runs. -/
def takeHoldRows : List Row := [SYS.RST_CAUSE.SRC, SYS.RST_CAUSE.LEVEL, SYS.RST_CAUSE.WARM] ++ afterCauseRows ++ holdBegunRows

theorem framed_takeHold {rs : List Row} (s : State) (lvl src : Nat) (warm : Bool) (hrs : ∀ r ∈ takeHoldRows, r ∈ rs)
    (htry : src = 10 ∨ SYS.bistTry ∈ rs) : Framed rs clearedRecs s (s.takeHold lvl src warm) := by
  have hcause : ∀ r ∈ [SYS.RST_CAUSE.SRC, SYS.RST_CAUSE.LEVEL, SYS.RST_CAUSE.WARM], r ∈ rs :=
    fun r hr => hrs r (List.mem_append_left _ (List.mem_append_left _ hr))
  have hbegun : Framed rs clearedRecs s (s.holdBegun lvl src warm) :=
    (framed_holdBegun s lvl src warm).mono ⟨fun r hr => hrs r (List.mem_append_right _ hr), fun f hf => hf⟩
  have hwrite (u : State) : Framed [SYS.RST_CAUSE.SRC, SYS.RST_CAUSE.LEVEL, SYS.RST_CAUSE.WARM] [] u (u.writeCause src lvl warm) :=
    (framed_refl u).set (by decide) |>.set (by decide) |>.set (by decide)
  have hrest := s.framed_takeHold_writeCause lvl src warm
    (fun r hr => hrs r (List.mem_append_left _ (List.mem_append_right _ hr))) htry
  exact (hbegun.andThen (hwrite _) ⟨hcause, nofun⟩).andThen hrest ⟨fun r hr => hr, nofun⟩

/-- No place of a mark of a failed BIST run holds anything that a reset changes. -/
theorem takeHoldRows_clearOf_bistTry : takeHoldRows.all (Row.clearOfSpan 0x80000040 0x80000060) = true := by decide +kernel

/-- The mark of a failed run outlasts the reset that it causes (R452). -/
theorem bistTry_takeHold (s : State) (lvl : Nat) (warm : Bool) (pd : Fin 9) :
    (s.takeHold lvl 10 warm).get SYS.bistTry pd = s.get SYS.bistTry pd := by
  have hspan : ∀ pd : Fin 9, 0x80000040 ≤ SYS.bistTry.key pd 0 / 32 ∧ SYS.bistTry.key pd 0 / 32 ≤ 0x80000060 := by decide
  refine (s.framed_takeHold lvl 10 warm (fun _ hr => hr) (.inl rfl)).rows.get_of_clearOf (List.all_eq_true.2 fun r hr => ?_)
  exact Row.clearOf_of_clearOfSpan (List.all_eq_true.1 takeHoldRows_clearOf_bistTry r hr) (hspan pd)

/-! ## The domains' logic (R411, R413) -/

/-- The rows that a domain's rise or fall writes beside PD_ON. -/
def pdSetRows : List Row := [BL.SH_STAT.ON, BL.holdDriven, BL.shT, GI.trained, PU.CNT.CNT, PU.STATUS.DOWN, PU.cntT, SEC.DBG_STAT.VDC_OK,
  SEC.lockT, SEC.tapIr, SYS.PWR_STAT.ZERO_DONE]

theorem framed_cntStart (s : State) {pu : Nat} (hp : pu < 5) : Framed pdSetRows [] s (s.cntStart pu) :=
  (framed_refl s).setIn hp (by decide) |>.setIn hp (by decide) |>.setIn hp (by decide)

theorem framed_shRedrive (s : State) : Framed pdSetRows [] s s.shRedrive := by
  unfold shRedrive
  exact (framed_refl s).on fun _ => ((framed_shSet s s.shCan).mono (by decide)).set (by decide)

/-- What comes of a domain's rise or fall. -/
def pdFollows (s : State) (pd : Nat) (on : Bool) : State :=
  let s0 := s.on (decide (2 ≤ pd) && decide (pd ≤ 8)) (·.setBit SYS.PWR_STAT.ZERO_DONE (pd - 2) on)
  let units := if !on then [] else if pd = 3 then [0] else if pd = 4 then [1] else if pd = 5 then [2, 3, 4] else []
  let s1 := units.foldl State.cntStart s0
  if pd = 2 then s1.set SEC.lockT s1.now
  else if pd = 3 then s1.debugVdc
  else if pd = 5 then (if on then s1.shRedrive else s1.shSet 0)
  else if (pd = 7 || pd = 8) && on then s1.forN 6 fun k t => t.set GI.trained 0 (6 * (pd - 7) + k)
  else s1

theorem pdSet_eq (s : State) (pd : Nat) (on : Bool) : s.pdSet pd on = (s.setBit SYS.PWR_STAT.PD_ON pd on).pdFollows pd on := rfl

theorem framed_pdFollows (s : State) (pd : Nat) (on : Bool) : Framed pdSetRows [] s (s.pdFollows pd on) := by
  unfold pdFollows
  extract_lets s0 units s1
  have h0 : Framed pdSetRows [] s s0 := (framed_refl s).on fun _ => (framed_refl s).set (by decide)
  have h1 : Framed pdSetRows [] s s1 := by
    refine h0.foldl _ fun u pu hpu => framed_cntStart u ?_
    simp only [units] at hpu
    split at hpu
    · exact absurd hpu (by simp)
    · split at hpu
      · simp at hpu; omega
      · split at hpu
        · simp at hpu; omega
        · split at hpu
          · simp at hpu; omega
          · exact absurd hpu (by simp)
  refine .ite (fun _ => h1.set (by decide)) fun _ => .ite (fun _ => h1.andThen (framed_debugVdc s1) (by decide)) fun _ =>
    .ite (fun _ => .ite (fun _ => h1.trans (framed_shRedrive s1)) fun _ => h1.andThen (framed_shSet s1 0) (by decide)) fun _ =>
    .ite (fun h => h1.forN fun k u hk => (framed_refl u).setIn ?_ (by decide)) fun _ => h1
  have hpd : pd = 7 ∨ pd = 8 := by simpa using (Bool.and_eq_true_iff.1 h).1
  change _ < 12
  omega

theorem framed_pdSet (s : State) (pd : Nat) (on : Bool) : Framed (SYS.PWR_STAT.PD_ON :: pdSetRows) [] s (s.pdSet pd on) := by
  rw [pdSet_eq]
  exact ((framed_refl s).set (by decide)).andThen (framed_pdFollows _ pd on) (by decide)

/-- A domain that rises is on. -/
theorem pdOn_pdSet (s : State) {pd : Nat} (hpd : pd < 10) : (s.pdSet pd true).getBit SYS.PWR_STAT.PD_ON pd = true := by
  rw [pdSet_eq, (framed_pdFollows _ pd true).rows.getBit_distinct (by decide) (by decide)]
  exact getBit_setBit_self _ _ _ _ hpd

end State
end Sys2Proof.Machine
end

/-!
The steps of start-up (20): the trim load, the domains, the Belay island's start, its self-test, READY (O44).
-/
section
namespace Sys2Proof.Machine
set_option Elab.async false

/-- TRIM_LOAD in its place. -/
theorem exec_trimLoad (copyA copyB whole : Bool) (s : State) (hphase : s.get SYS.rstPhase = 0) (htrim : s.is SYS.trimOk = false)
    (hlow : s.is SYS.lowState = false) : ∃ t, exec (.trimLoad copyA copyB whole) s = .next t ∧
      (whole = true → copyA = true ∨ copyB = true → t.is SYS.trimOk = true ∧ t.is SYS.TRIM_STAT.TRIM_FAIL = false ∧
        t.is SYS.TRIM_STAT.COPY = !copyA ∧ t.get SYS.TRIM_STAT.CRC_FAIL = (if copyA then 0 else 1) ∧ t.is SYS.bootMark = false) ∧
      (whole = true → copyA = false → copyB = false → t.is SYS.TRIM_STAT.TRIM_FAIL = true ∧ t.get SYS.TRIM_STAT.CRC_FAIL = 3 ∧
        t.get SYS.rstPhase = 4) ∧
      (whole = false → t.is SYS.bootMark = true ∧ t.is SYS.trimOk = false) := by
  generalize hu : ((s.on (s.is SYS.bootMark) (·.incSat SYS.TRIM_STAT.INT_CNT)).set SYS.bootMark 1).on (s.is SYS.bootMark)
    (·.set SYS.trimInt (if copyA then 1 else 2)) = u
  have hexec : exec (.trimLoad copyA copyB whole) s = .next (if !whole then u
      else if copyA || copyB then (((((u.set SYS.TRIM_STAT.TRIM_FAIL 0).set SYS.TRIM_STAT.CRC_FAIL (if copyA then 0 else 1)).setb
        SYS.TRIM_STAT.COPY (!copyA)).set SYS.bootMark 0).set SYS.trimOk 1).pdSet 0 true
      else (((u.set SYS.TRIM_STAT.TRIM_FAIL 1).set SYS.TRIM_STAT.CRC_FAIL 3).set SYS.rstPhase 4).safetyLog 0 0x021E 3 0) := by
    show execTrimLoad copyA copyB whole s = _
    simp only [execTrimLoad, hphase, htrim, hlow, ← hu]
    rfl
  refine ⟨_, hexec, fun hwhole hcopy => ?_, fun hwhole hA hB => ?_, fun hwhole => ?_⟩
  · have hgood : (copyA || copyB) = true := by simpa using hcopy
    have hset (v : State) := (v.framed_pdSet 0 true).rows
    rw [hwhole, if_neg (by decide), if_pos hgood, (hset _).is_distinct (by decide) (by decide), (hset _).is_distinct (by decide) (by decide),
      (hset _).is_distinct (by decide) (by decide), (hset _).get_distinct (by decide) (by decide), (hset _).is_distinct (by decide) (by decide)]
    simp (disch := decide) only [State.is, State.setb_eq, State.get_set_ne, State.get_set_self]
    cases copyA <;> decide
  · have hlog (v : State) : State.Framed [RING.lost] [.events, .store] v (v.safetyLog 0 0x021E 3 0) := (State.framed_refl v).event (by decide)
    rw [hwhole, hA, hB, if_neg (by decide), if_neg (by decide), (hlog _).rows.is_distinct (by decide) (by decide),
      (hlog _).rows.get_distinct (by decide) (by decide), (hlog _).rows.get_distinct (by decide) (by decide)]
    simp (disch := decide) only [State.is, State.get_set_ne, State.get_set_self]
    decide
  · have hint (v : State) : State.Framed [SYS.trimInt] [] v (v.on (s.is SYS.bootMark) (·.set SYS.trimInt (if copyA then 1 else 2))) :=
      (State.framed_refl v).on fun _ => (State.framed_refl v).set (by decide)
    have hcount : State.Framed [SYS.TRIM_STAT.INT_CNT] [] s (s.on (s.is SYS.bootMark) (·.incSat SYS.TRIM_STAT.INT_CNT)) :=
      (State.framed_refl s).on fun _ => (State.framed_refl s).set (by decide)
    rw [hwhole, if_pos (by decide), ← hu, (hint _).rows.is_distinct (by decide) (by decide), (hint _).rows.is_distinct (by decide) (by decide)]
    refine ⟨State.is_set_one _ _ _ _ (by decide), ?_⟩
    rw [State.is, State.get_set_ne _ _ _ _ _ _ (by decide), hcount.rows.get_distinct (by decide) (by decide)]
    exact htrim

namespace State

/-! ## The steps of the domains (R449, R452) -/

/-- The rows that a report of a failed run writes. -/
theorem framed_bistReport (s : State) (pd misr islands : Nat) :
    Framed [BIST.SIG.SIG, RING.lost] [.events, .store] s (s.bistReport pd misr islands) := by
  unfold bistReport
  rw [set_sig_one]
  exact .ite (fun _ => (framed_refl s).event (by decide)) fun _ => ((framed_refl s).set (by decide) |>.set (by decide)).event (by decide)

/-- The first failure of a domain's BIST resets, at whatever level, with the failure marked. -/
theorem stepFails_first {s : State} (pd : Fin 9) (h : s.get SYS.bistTry pd = 0) :
    (s.stepFails pd).get SYS.RST_CAUSE.SRC = 10 ∧ (s.stepFails pd).get SYS.bistTry pd = 1 := by
  rw [stepFails, if_pos h]
  refine ⟨(cause_takeHold _ _ 10 false).1, (bistTry_takeHold _ _ false pd).trans (get_set_self ..)⟩

/-- The second keeps the domain off, as stepped. -/
theorem stepFails_second {s : State} (pd : Fin 9) (hpd : 1 ≤ pd.val) (h : s.get SYS.bistTry pd ≠ 0) :
    (s.stepFails pd).getBit SYS.RST_STAT.PD_FAIL (pd - 1) = true ∧ (s.stepFails pd).getBit SYS.stepped pd = true := by
  have hend (u : State) (pd : Nat) : Framed [RING.lost, SYS.rstPhase] [.events, .store] u
      ((u.event .fault 0 0x00 0x0424 (2 ^ pd) 2).on (decide (pd ≤ 2)) (·.set SYS.rstPhase 4)) :=
    ((framed_refl u).event (by decide)).on fun _ => (framed_refl _).set (by decide)
  rw [stepFails, if_neg h]
  dsimp only
  rw [(hend _ _).rows.getBit_distinct (by decide) (by decide), (hend _ _).rows.getBit_distinct (by decide) (by decide)]
  refine ⟨?_, getBit_setBit_self _ _ _ _ (Nat.lt_of_lt_of_le pd.isLt (by decide))⟩
  rw [getBit, setBit, get_set_ne _ _ _ _ _ _ (by decide)]
  exact getBit_setBit_self _ _ _ _ (by change _ < 8; omega)

/-- A domain whose BIST has passed is stepped. -/
def stepPassed (s : State) (d : Nat) : State :=
  let s0 := (s.pdSet d true).on (decide (3 ≤ d) || d == 2 && s.is SYS.rstWarm) (·.bistSave d)
  (s0.setBit SYS.stepped d true).on (1 ≤ d) (·.setBit BIST.STAT.PASS (d - 1) true)

theorem stepPassed_reads (s : State) (pd : Fin 9) :
    (s.stepPassed pd).getBit SYS.PWR_STAT.PD_ON pd = true ∧ (s.stepPassed pd).getBit SYS.stepped pd = true := by
  have hsave (u : State) (c : Bool) : Framed Touch.pitAct (.fresh :: memPutRecs) u (u.on c (·.bistSave pd)) :=
    (framed_refl u).on fun _ => framed_bistSave u pd
  have hpass (u : State) : Framed [BIST.STAT.PASS] [] u (u.on (decide (1 ≤ pd.val)) (·.setBit BIST.STAT.PASS (pd - 1) true)) :=
    (framed_refl u).on fun _ => (framed_refl u).set (by decide)
  unfold stepPassed
  dsimp only
  rw [(hpass _).rows.getBit_distinct (by decide) (by decide), (hpass _).rows.getBit_distinct (by decide) (by decide)]
  refine ⟨?_, getBit_setBit_self _ _ _ _ (Nat.lt_of_lt_of_le pd.isLt (by decide))⟩
  rw [getBit, setBit, get_set_ne _ _ _ _ _ _ (by decide), (hsave _ _).rows.get_distinct (by decide) (by decide)]
  exact pdOn_pdSet s (Nat.lt_of_lt_of_le pd.isLt (by decide))

end State

/-- DOMAIN_STEP of the domain whose turn it is. -/
theorem exec_domainStep_eq (pd : Fin 9) (pass : Bool) (misr : BitVec 64) (islands : BitVec 6) {s : State} (hphase : s.get SYS.rstPhase = 0)
    (hlow : s.is SYS.lowState = false) (hbo : s.getBit SYS.boMask pd = false) (hnext : s.stepNext pd = true) (htrim : s.is SYS.trimOk = true)
    (hfw : 2 < pd.val → s.is SYS.fwRun = true) (hpll : 2 ≤ pd.val → s.is SYS.pllDown = false) :
    exec (.domainStep pd pass misr islands) s = .next (if !pass then (s.bistReport pd misr.toNat islands.toNat).stepFails pd
      else if pd.val = 2 then ((s.stepPassed pd).pdSet 0 true).set SYS.RST_STAT.BUSY 1
      else (s.stepPassed pd).on (decide (2 < pd.val)) (·.event .info 0 0x00 0x0401 (2 ^ pd.val) 0)) := by
  have hfw' : (decide (2 < pd.val) && !s.is SYS.fwRun) = false := by
    by_cases h : 2 < pd.val <;> simp [h, hfw]
  have hpll' : (decide (2 ≤ pd.val) && s.is SYS.pllDown) = false := by
    by_cases h : 2 ≤ pd.val <;> simp [h, hpll]
  show execDomainStep pd pass misr islands s = _
  simp only [execDomainStep, hphase, hlow, hbo, hnext, htrim, hfw', hpll']
  rfl

theorem exec_domainStep (pd : Fin 9) (pass : Bool) (misr : BitVec 64) (islands : BitVec 6) (s : State)
    (h : s.get SYS.rstPhase = 0 ∧ s.is SYS.lowState = false ∧ s.getBit SYS.boMask pd = false ∧ s.stepNext pd = true ∧
      s.is SYS.trimOk = true ∧ (2 < pd.val → s.is SYS.fwRun = true) ∧ (2 ≤ pd.val → s.is SYS.pllDown = false)) :
    ∃ t, exec (.domainStep pd pass misr islands) s = .next t ∧
      (pass = true → t.getBit SYS.PWR_STAT.PD_ON pd = true ∧ t.getBit SYS.stepped pd = true) ∧
      (pass = false → 1 ≤ pd.val → s.get SYS.bistTry pd = 0 → t.get SYS.RST_CAUSE.SRC = 10 ∧ t.get SYS.bistTry pd = 1) ∧
      (pass = false → 1 ≤ pd.val → s.get SYS.bistTry pd ≠ 0 →
        t.getBit SYS.RST_STAT.PD_FAIL (pd - 1) = true ∧ t.getBit SYS.stepped pd = true) := by
  obtain ⟨hphase, hlow, hbo, hnext, htrim, hfw, hpll⟩ := h
  have htry : (s.bistReport pd misr.toNat islands.toNat).get SYS.bistTry pd = s.get SYS.bistTry pd :=
    (s.framed_bistReport pd misr.toNat islands.toNat).rows.get_distinct pd.isLt (by decide)
  refine ⟨_, exec_domainStep_eq pd pass misr islands hphase hlow hbo hnext htrim hfw hpll, fun hpass => ?_, fun hpass _ h0 => ?_,
    fun hpass h1 h0 => ?_⟩
  · obtain ⟨hon, hstepped⟩ := s.stepPassed_reads pd
    rw [hpass, if_neg (by decide)]
    split
    case isTrue h2 =>
      have hset := ((s.stepPassed pd).framed_pdSet 0 true).rows
      have hbit : ((s.stepPassed pd).pdSet 0 true).getBit SYS.PWR_STAT.PD_ON pd = (s.stepPassed pd).getBit SYS.PWR_STAT.PD_ON pd := by
        rw [State.pdSet_eq, (State.framed_pdFollows _ 0 true).rows.getBit_distinct (by decide) (by decide), h2]
        exact State.getBit_setBit_gt _ _ _ _ _ (by decide) (by decide)
      refine ⟨?_, ?_⟩
      · rw [State.getBit, State.get_set_ne _ _ _ _ _ _ (by decide)]
        exact hbit.trans hon
      · rw [State.getBit, State.get_set_ne _ _ _ _ _ _ (by decide), hset.get_distinct (by decide) (by decide)]
        exact hstepped
    case isFalse =>
      have hevent : State.Framed [RING.lost] [.events, .store] (s.stepPassed pd)
          ((s.stepPassed pd).on (decide (2 < pd.val)) (·.event .info 0 0x00 0x0401 (2 ^ pd.val) 0)) :=
        (State.framed_refl _).on fun _ => (State.framed_refl _).event (by decide)
      rw [hevent.rows.getBit_distinct (by decide) (by decide), hevent.rows.getBit_distinct (by decide) (by decide)]
      exact ⟨hon, hstepped⟩
  · rw [hpass, if_pos (by decide)]
    exact State.stepFails_first pd (htry.trans h0)
  · rw [hpass, if_pos (by decide)]
    exact State.stepFails_second pd h1 (htry.trans_ne h0)

namespace State

/-! ## The Belay island's start (R299, R326, R327) -/

theorem Framed.log {rs : List Row} {fs : List Rec} {s t : State} (h : Framed rs fs s t) (l : List LogEntry) (hf : .log ∈ fs) :
    Framed rs fs s { t with log := l } := by
  refine h.trans ⟨rowsKept_refl _ _, fun f hn => ?_, rfl⟩
  cases f
  case log => exact absurd hf hn
  case events => exact fun c => by cases c <;> rfl
  all_goals simp [Rec.Kept]

/-- The rows that an entry of the change log writes. -/
def logRows : List Row := [BL.logCount, BL.LOG_STAT.INDEX, BL.logAnchor, BL.chain0]

theorem framed_logAppend (s : State) (kind role field value : Nat) (old : List Nat) :
    Framed logRows [.log] s (s.logAppend kind role field value old) := by
  unfold logAppend
  extract_lets i e prev full t c u
  have ht : Framed logRows [.log] s t := ((framed_refl s).set (by decide) |>.set (by decide)).on fun _ => (framed_refl _).set (by decide)
  have hu : Framed logRows [.log] s u := ht.set (by decide)
  exact hu.log _ (by decide)

theorem framed_genesis (s : State) : Framed (BL.genesis :: logRows) [.log] s s.genesis :=
  .ite (fun _ => framed_refl s) fun _ => ((framed_logAppend s 5 0 0 0 (leBytes 4 0)).mono (by decide)).set (by decide)

/-- The configuration fields of the Belay island. -/
def configRows : List Row := BL.rows.filter fun r => r.acc == .rws

/-- The rows that the change log's last entry writes again are configuration fields (R306, R326). -/
theorem framed_rollForward (s : State) : Framed configRows [] s s.rollForward := by
  have hpos : ∀ r ∈ BL.rows, 0 < r.c2 := by decide +kernel
  have hfold (off : Nat) (v : Row → Nat) (u : State) :
      Framed configRows [] u ((rwsAt off).foldl (fun t f => t.set f.1 (v f.1) f.2.1 f.2.2) u) := by
    refine (framed_refl u).foldl _ fun w f hf => (framed_refl w).set ?_
    obtain ⟨hfield, hacc⟩ := List.mem_filter.1 hf
    obtain ⟨r, hr, hplace⟩ := List.mem_filterMap.1 hfield
    have hblock : blockRows (0x01300000 + off) = BL.rows := by
      unfold blockRows
      iterate 20 rw [if_neg (by omega)]
    rw [hblock] at hr
    split at hplace
    · exact absurd hplace nofun
    · obtain ⟨⟨i, j⟩, hij, rfl⟩ := Option.map_eq_some_iff.1 hplace
      obtain ⟨hi, hj, -⟩ := Row.addr_of_placeAt (hpos r hr) hij
      exact ⟨List.mem_filter.2 ⟨hr, hacc⟩, hi, hj⟩
  unfold rollForward
  split
  case h_1 e _ => exact .ite (fun _ => hfold e.field (·.cut e.value) s) fun _ => framed_refl s
  case h_2 => exact framed_refl s

/-- An asserted XTRIP is shown; what it does with the units and the axes is elsewhere (R299). -/
theorem xtripAct_reads (s : State) : Framed [BL.STATUS.XTRIP_ACT, RING.lost, PU.tripIn, BL.causeReq] [.events, .store] s s.xtripAct ∧
    s.xtripAct.is BL.STATUS.XTRIP_ACT = true := by
  have hcalls (u : State) : Framed [RING.lost, PU.tripIn, BL.causeReq] [.events, .store] (u.set BL.STATUS.XTRIP_ACT 1) u.xtripAct := by
    unfold xtripAct
    extract_lets s1 s2
    have h1 : Framed [RING.lost, PU.tripIn, BL.causeReq] [.events, .store] (u.set BL.STATUS.XTRIP_ACT 1) s1 := (framed_refl _).event (by decide)
    have h2 : Framed [RING.lost, PU.tripIn, BL.causeReq] [.events, .store] (u.set BL.STATUS.XTRIP_ACT 1) s2 :=
      h1.forN fun a v ha => (framed_refl v).on fun _ =>
        ((framed_refl v).tripIn (by omega) (by decide)).andThen (framed_callSafe _ ha _) (by decide)
    exact h2.on fun _ => (framed_refl s2).tripIn (by decide) (by decide) |>.tripIn (by decide) (by decide) |>.tripIn (by decide) (by decide)
  refine ⟨((framed_refl s).set (by decide)).andThen (hcalls s) (by decide), ?_⟩
  rw [(hcalls s).rows.is_distinct (by decide) (by decide)]
  exact is_set_one _ _ _ _ (by decide)

theorem framed_lines (s : State) : Framed [BL.AXIS.LINE] [] s s.lines := (framed_refl s).set (by decide) |>.set (by decide)

theorem framed_ssout (s : State) : Framed [BL.STATUS.SSOUT] [] s s.ssout := (framed_refl s).set (by decide)

end State

/-- BELAY_START with a good store. -/
theorem exec_belayStart (storeGood : Bool) (s : State) (hpd : s.getBit SYS.PWR_STAT.PD_ON 1 = true) (hvalid : s.is BL.STATUS.CFG_VALID = false) :
    ∃ t, exec (.belayStart storeGood) s = .next t ∧
      (storeGood = true → t.is BL.STATUS.CFG_VALID = true ∧ t.is BL.STATUS.XTRIP_ACT = s.is BL.xtripPin) ∧ (storeGood = false → t = s) := by
  generalize hu : ((s.genesis.rollForward.set BL.STATUS.CFG_VALID 1).set BL.LED_RES.T_R (10 * (s.tAmb + s.dtInit))).set BL.tRes
    (1000000 * (s.tAmb + s.dtInit)) = u
  have hexec : exec (.belayStart storeGood) s = .next (if !storeGood then s
      else (if u.is BL.xtripPin then u.xtripAct else u.set BL.STATUS.XTRIP_ACT 0).lines.ssout) := by
    show execBelayStart storeGood s = _
    simp only [execBelayStart, hpd, hvalid, hu]
    rfl
  have hcfg : u.is BL.STATUS.CFG_VALID = true := by
    rw [← hu, State.is, State.get_set_ne _ _ _ _ _ _ (by decide), State.get_set_ne _ _ _ _ _ _ (by decide)]
    exact State.is_set_one _ _ _ _ (by decide)
  have hpin : u.is BL.xtripPin = s.is BL.xtripPin := by
    rw [← hu, State.is, State.get_set_ne _ _ _ _ _ _ (by decide), State.get_set_ne _ _ _ _ _ _ (by decide),
      State.get_set_ne _ _ _ _ _ _ (by decide), (State.framed_rollForward _).rows.get_distinct (by decide) (by decide +kernel),
      (State.framed_genesis s).rows.get_distinct (by decide) (by decide)]
    rfl
  have hend (v : State) : State.Framed [BL.AXIS.LINE, BL.STATUS.SSOUT] [] v v.lines.ssout :=
    ((State.framed_lines v).mono (by decide)).andThen (State.framed_ssout _) (by decide)
  refine ⟨_, hexec, fun hgood => ?_, fun hgood => by rw [hgood]; rfl⟩
  rw [hgood, if_neg (by decide), (hend _).rows.is_distinct (by decide) (by decide), (hend _).rows.is_distinct (by decide) (by decide), ← hpin]
  split
  case isTrue h =>
    obtain ⟨hkept, hact⟩ := u.xtripAct_reads
    rw [hkept.rows.is_distinct (by decide) (by decide)]
    exact ⟨hcfg, hact.trans h.symm⟩
  case isFalse h =>
    refine ⟨?_, (State.is_set_zero ..).trans (Bool.eq_false_iff.2 h).symm⟩
    rw [State.is, State.get_set_ne _ _ _ _ _ _ (by decide)]
    exact hcfg

/-- SELFTEST. -/
theorem exec_blSelftest (pass : Bool) (s : State) : ∃ t, exec (.blSelftest pass) s = .next t ∧
    (s.is BL.STATUS.CFG_VALID = true → pass = true → t.is BL.STATUS.SELFTEST_OK = true) ∧ (pass = false → t = s) := by
  refine ⟨_, rfl, fun hcfg hpass => ?_, fun hpass => ?_⟩
  · rw [hcfg, hpass, Bool.and_self, if_pos rfl, (State.framed_ssout _).rows.is_distinct (by decide) (by decide)]
    exact State.is_set_one _ _ _ _ (by decide)
  · rw [hpass, Bool.and_false, if_neg (by decide)]

/-- READY with every condition there. -/
theorem exec_startReady (s : State) (h : s.get SYS.rstPhase = 0 ∧ s.is SYS.trimOk = true ∧ s.get SYS.stepped = s.get SYS.plan ∧
      s.is SYS.fwRun = true ∧ s.is BL.STATUS.CFG_VALID = true ∧ s.is BL.STATUS.SELFTEST_OK = true ∧ s.is BL.STATUS.CI_LOST = false ∧
      s.is HK.rounded = true) : ∃ t, exec .startReady s = .next t ∧ t.is SYS.RST_STAT.READY = true ∧ t.is SYS.RST_STAT.BUSY = false ∧
      t.get SYS.rstPhase = 1 ∧ t.get SYS.PWR_CTL.PD_EN = s.get SYS.plan / 8 % 2 ^ SYS.PWR_CTL.PD_EN.width := by
  obtain ⟨hphase, htrim, hstepped, hfw, hcfg, htest, hci, hround⟩ := h
  generalize hu : (((s.set SYS.RST_STAT.READY 1).set SYS.RST_STAT.BUSY 0).set SYS.rstPhase 1).set SYS.PWR_CTL.PD_EN (s.get SYS.plan / 8) = u
  generalize hv : u.forN 9 (fun pd t => t.set SYS.bistTry 0 pd) = v
  have hplan : (((s.set SYS.RST_STAT.READY 1).set SYS.RST_STAT.BUSY 0).set SYS.rstPhase 1).get SYS.plan = s.get SYS.plan := by
    rw [State.get_set_ne _ _ _ _ _ _ (by decide), State.get_set_ne _ _ _ _ _ _ (by decide), State.get_set_ne _ _ _ _ _ _ (by decide)]
  have hexec : exec .startReady s = .next
      (v.event .info 0 0x00 0x0422 (quotN (v.now - v.get SYS.startT) 40000) (v.get SYS.plan)).ssout := by
    show execStartReady s = _
    simp [execStartReady, hphase, htrim, hstepped, hfw, hcfg, htest, hci, hround, hplan, hu, hv]
  have hkept : State.Framed [SYS.bistTry, RING.lost, BL.STATUS.SSOUT] [.events, .store] u
      (v.event .info 0 0x00 0x0422 (quotN (v.now - v.get SYS.startT) 40000) (v.get SYS.plan)).ssout := by
    have hmarks : State.Framed [SYS.bistTry, RING.lost, BL.STATUS.SSOUT] [.events, .store] u v :=
      hv ▸ (State.framed_refl u).forN fun pd w hpd => (State.framed_refl w).setIn hpd (by decide)
    exact (hmarks.event (by decide)).andThen (State.framed_ssout _) (by decide)
  refine ⟨_, hexec, ?_⟩
  rw [hkept.rows.is_distinct (by decide) (by decide), hkept.rows.is_distinct (by decide) (by decide), hkept.rows.get_distinct (by decide) (by decide),
    hkept.rows.get_distinct (by decide) (by decide), ← hu]
  refine ⟨?_, ?_, ?_, State.get_set_self ..⟩
  · rw [State.is, State.get_set_ne _ _ _ _ _ _ (by decide), State.get_set_ne _ _ _ _ _ _ (by decide), State.get_set_ne _ _ _ _ _ _ (by decide)]
    exact State.is_set_one _ _ _ _ (by decide)
  · rw [State.is, State.get_set_ne _ _ _ _ _ _ (by decide), State.get_set_ne _ _ _ _ _ _ (by decide)]
    exact State.is_set_zero ..
  · rw [State.get_set_ne _ _ _ _ _ _ (by decide)]
    exact State.get_set_self ..

/-- Settles O44, step by step. -/
theorem startUpStepsAndBelayStart : Obligations.StartUpStepsAndBelayStart := by
  unfold Obligations.StartUpStepsAndBelayStart
  exact ⟨fun copyA copyB whole s ⟨hphase, _, htrim, hlow⟩ => exec_trimLoad copyA copyB whole s hphase htrim hlow, exec_domainStep,
    fun storeGood s ⟨hpd, hvalid⟩ => exec_belayStart storeGood s hpd hvalid, exec_blSelftest, exec_startReady⟩

end Sys2Proof.Machine
end

/-!
Resets (20): the pre-reset stage, the trip of a unit and the block reset that stops its channels, what a reset clears (O43).
-/
section
namespace Sys2Proof.Machine
set_option Elab.async false

theorem Cells.find_filter_none (c : Cells) (f : Nat × Nat → Bool) {a : Nat} (h : ∀ v, f (a, v) = false) :
    Cells.find (c.filter f) a = none := by
  induction c with
  | nil => rfl
  | cons p c ih =>
    obtain ⟨k, v⟩ := p
    by_cases hk : k = a
    · subst hk
      simp [h, ih]
    · cases hf : f (k, v) <;> simp [hf, Cells.find, hk, ih]

theorem Cells.find_filter_of_none {c : Cells} (f : Nat × Nat → Bool) {a : Nat} (h : Cells.find c a = none) :
    Cells.find (c.filter f) a = none := by
  induction c with
  | nil => rfl
  | cons p c ih =>
    obtain ⟨k, v⟩ := p
    by_cases hk : k = a
    · simp [Cells.find, hk] at h
    · have hc : Cells.find c a = none := by simpa [Cells.find, hk] using h
      cases hf : f (k, v) <;> simp [hf, Cells.find, hk, ih hc]

namespace State

/-! ## SOFT_OFF to an axis, and the trip of a unit (R153 to R157, R190) -/

theorem Framed.out {rs : List Row} {fs : List Rec} {s t : State} (h : Framed rs fs s t) (l : List Msg) (hf : .out ∈ fs) :
    Framed rs fs s { t with out := l } := by
  refine h.trans ⟨rowsKept_refl _ _, fun f hn => ?_, rfl⟩
  cases f
  case out => exact absurd hf hn
  case events => exact fun c => by cases c <;> rfl
  all_goals simp [Rec.Kept]

theorem framed_gateSoftOff (s : State) {i : Nat} (hi : i < 12) (src : Nat) : Framed [GI.cmdOn] [.out] s (s.gateSoftOff i src) :=
  ((framed_refl s).send (by decide)).setIn hi (by decide)

/-- An event of a time of its own. -/
theorem Framed.eventAt {rs : List Row} {fs : List Rec} {s t : State} (h : Framed rs fs s t) {time : Nat} {c : EvClass}
    {inst source code arg0 arg1 : Nat} (he : RING.lost ∈ rs ∧ .events ∈ fs ∧ .store ∈ fs) :
    Framed rs fs s (t.eventAt time c inst source code arg0 arg1) := by
  have hring : ∀ c : EvClass, c.ring - 16 < RING.lost.c1 := by
    intro c
    cases c <;> decide
  have hqueue (u : State) (q : List Event) : Framed rs fs u (u.setQueue c q) :=
    ⟨by cases c <;> exact rowsKept_refl _ _, fun f hf => Rec.kept_setQueue u c q fun e => hf (e ▸ he.2.1), by cases c <;> rfl⟩
  have hstore (u : State) (l : List (EvClass × Event)) : Framed rs fs u { u with evStore := l } :=
    ⟨rowsKept_refl _ _, fun f hf => Rec.kept_evStore u l fun e => hf (e ▸ he.2.2), rfl⟩
  unfold State.eventAt
  extract_lets e s1
  have h1 : Framed rs fs s s1 := .ite (fun _ => h.trans (hqueue t _)) fun _ => h.setIn (hring c) ⟨he.1, by decide⟩
  exact .ite (fun _ => h1) fun _ => h1.trans (hstore s1 _)

/-- The records that a trip may change. -/
def tripRecs : List Rec := [.events, .store, .out]

theorem framed_setFirst (s : State) {pu : Nat} (hp : pu < 5) (src unit tick : Nat) : Framed Touch.trip [] s (s.setFirst pu src unit tick) :=
  (framed_refl s).setIn hp (by decide) |>.setIn hp (by decide) |>.setIn hp (by decide) |>.setIn hp (by decide) |>.setIn hp (by decide)

theorem framed_setSecond (s : State) {pu : Nat} (hp : pu < 5) (src unit tick : Nat) : Framed Touch.trip [] s (s.setSecond pu src unit tick) :=
  (framed_refl s).setIn hp (by decide) |>.setIn hp (by decide) |>.setIn hp (by decide) |>.setIn hp (by decide)

theorem framed_simul (s : State) {pu : Nat} (hp : pu < 5) : Framed Touch.trip [] s (s.simul pu) := (framed_refl s).setIn hp (by decide)

theorem framed_capture (s : State) {pu : Nat} (hp : pu < 5) (src unit tick : Nat) : Framed Touch.trip [] s (s.capture pu src unit tick) := by
  have hsecond (u : State) (a b c : Nat) : Framed Touch.trip [] u ((u.setSecond pu a b c).simul pu) :=
    (framed_setSecond u hp a b c).trans (framed_simul _ hp)
  unfold capture
  extract_lets before same
  refine .ite (fun _ => ?_) fun _ => .ite (fun _ => framed_refl s) fun _ => .ite (fun _ => .ite (fun _ => ?_) fun _ => ?_) fun _ => ?_
  · exact ((framed_setFirst s hp src unit tick).setIn hp (by decide) |>.setIn hp (by decide)).trans (framed_simul _ hp)
  · exact ((framed_setSecond s hp _ _ _).trans (framed_setFirst _ hp src unit tick)).trans (framed_simul _ hp)
  · exact .ite (fun _ => hsecond s src unit tick) fun _ => framed_refl s
  · exact .ite (fun _ => hsecond s src unit tick) fun _ => framed_refl s

theorem islands_lt (s : State) {a i : Nat} (ha : a < 2) (h : i ∈ s.islands a) : i < 12 := by
  unfold islands at h
  split at h
  · exact List.mem_range.1 h
  · obtain ⟨k, hk, rfl⟩ := List.mem_map.1 h
    have := List.mem_range.1 hk
    omega

/-- The bridge of an aux unit and the rest of its halt (R219). -/
theorem framed_axHalted (s : State) {c : Nat} (hc : 2 ≤ c ∧ c ≤ 4) : Framed Touch.axHalt [] s (s.axHalt c) := by
  have hc5 : c < 5 := by omega
  have hk : c - 2 < 3 := by omega
  have hoff : Framed Touch.axHalt [] s (s.bridgeOff c) :=
    (framed_refl s).forN fun j u hj => ((framed_refl u).setIn hc5 ⟨by decide, hj⟩).setIn hc5 ⟨by decide, hj⟩
  exact (hoff.setIn hk (by decide)).trans ((framed_axHalt s hc).mono (by decide))

theorem framed_puOff (s : State) {pu : Nat} (hp : pu < 5) (src : Nat) : Framed Touch.trip tripRecs s (s.puOff pu src) := by
  refine .ite (fun h2 => ?_) fun h2 => ?_
  · exact (framed_refl s).foldl _ fun u i hi => (framed_gateSoftOff u (s.islands_lt h2 hi) src).mono (by decide)
  · exact (((framed_axHalted s (c := pu) (by omega)).mono (by decide)).setIn hp (by decide)).setIn (by change _ < 8; omega) (by decide)

theorem framed_tripEvent (s : State) {pu : Nat} (hp : pu < 5) : Framed Touch.trip tripRecs s (s.tripEvent pu) :=
  .ite (fun _ => ((framed_refl s).setIn hp (by decide)).eventAt (by decide)) fun _ => framed_refl s

theorem framed_trip (s : State) {unitPu : Nat} (hp : unitPu < 5) (src unit tick : Nat) :
    Framed Touch.trip tripRecs s (s.trip unitPu src unit tick) := by
  unfold trip
  extract_lets pu s1 s2 s3 s4
  have hpu : pu < 5 := by
    simp only [pu, tripUnit]
    split <;> omega
  have h1 : Framed Touch.trip tripRecs s s1 := ((framed_capture s hpu src unit tick).mono (by decide)).setIn hpu (by decide)
  have h2 : Framed Touch.trip tripRecs s s2 :=
    ((h1.setIn hpu (by decide) |>.setIn hpu (by decide)).trans (framed_puOff _ hpu src)).setIn hpu (by decide)
  have h3 : Framed Touch.trip tripRecs s s3 := h2.setIn hpu (by decide)
  have h4 : Framed Touch.trip tripRecs s s4 := .ite (fun _ => h3) fun _ => h3.trans (framed_tripEvent s3 hpu)
  refine .ite (fun _ => h1) fun _ => .ite (fun ha => ?_) fun _ => h4
  have hcatch : Framed Touch.trip tripRecs s (s4.catchAbort pu) :=
    h4.on fun _ => ((framed_refl s4).setIn (s4.lead_lt ha) (by decide)).setIn (s4.lead_lt ha) (by decide)
  exact hcatch.andThen (framed_callSafe _ ha _) (by decide)

theorem framed_tripNow (s : State) {pu : Nat} (hp : pu < 5) (src : Nat) : Framed Touch.trip tripRecs s (s.tripNow pu src) :=
  ((framed_refl s).on fun _ => (framed_refl s).out _ (by decide)).trans (framed_trip _ hp src 0 s.now)

/-! ## A block reset that is asked for (R446) -/

/-- The rows that the stop of a block's channels writes. -/
def blkStopRows : List Row := Touch.trip ++ Touch.tractionEnd

theorem isTraction_lt_three {ch : Nat} (hch : ch < 8) (h : isTraction ch = true) : ch < 2 ∨ ch = 7 := by
  have hall : ∀ ch < 8, isTraction ch = true → ch < 2 ∨ ch = 7 := by decide
  exact hall ch hch h

theorem framed_blkStop (s : State) {ch : Nat} (hch : ch < 5 ∨ ch = 7) : Framed blkStopRows tripRecs s (s.blkStop ch) := by
  have haux : ∀ ch, (ch < 5 ∨ ch = 7) → ¬isTraction ch = true → 2 ≤ ch ∧ ch ≤ 4 := by
    intro ch h
    have hall : ∀ ch < 8, (ch < 5 ∨ ch = 7) → ¬isTraction ch = true → 2 ≤ ch ∧ ch ≤ 4 := by decide
    exact hall ch (by omega) h
  refine .ite (fun _ => framed_refl s) fun _ => .ite (fun _ => ?_) fun htr => ?_
  · have hax := chAx_lt ch
    have htrip := (framed_tripNow s (pu := chAx ch) (by omega) 18).mono (qs := blkStopRows) (gs := tripRecs) (by decide)
    exact (htrip.setIn (r := ACT.chEn) (v := 0) (j := 0) (show ch < 8 by omega) (by decide)).andThen (framed_tractionEnd _ (by omega)) (by decide)
  · obtain ⟨h2, h4⟩ := haux ch hch htr
    have htrip := (framed_tripNow s (pu := ch) (by omega) 18).mono (qs := blkStopRows) (gs := tripRecs) (by decide)
    have hsum : 2 + (ch - 2) = ch := by omega
    unfold axDisable axStop
    rw [hsum]
    exact (htrip.andThen (framed_axHalted _ ⟨h2, h4⟩) (by decide)).setIn (show ch < 8 by omega) (by decide)

theorem blkChannels_lt (source : Nat) {inst : Nat} (hinst : source = 0x12 → inst < 5) : ∀ ch ∈ blkChannels source inst, ch < 5 ∨ ch = 7 := by
  unfold blkChannels
  split
  case h_5 =>
    have := hinst rfl
    split
    · simp
    · split <;> simp
      omega
  all_goals first | (split <;> simp) | simp

/-- A block reset that is asked for waits, with its block. -/
theorem blkBegin_reads {s : State} (source inst src : Nat) (hon : s.is SYS.blkOn = false) (hinst : source = 0x12 → inst < 5) :
    (s.blkBegin source inst src).is SYS.blkOn = true ∧
    (s.blkBegin source inst src).get SYS.RST_STAT.BLK_SRC = source % 2 ^ SYS.RST_STAT.BLK_SRC.width ∧
    (s.blkBegin source inst src).get SYS.RST_STAT.BLK_INST = inst % 2 ^ SYS.RST_STAT.BLK_INST.width := by
  unfold blkBegin
  rw [hon, if_neg nofun]
  extract_lets s1 s2
  have hrest : Framed (SYS.RST_STAT.BUSY :: blkStopRows) tripRecs s1 ((blkChannels source inst).foldl (fun t ch => t.blkStop ch) s2) := by
    have h2 : Framed (SYS.RST_STAT.BUSY :: blkStopRows) tripRecs s1 s2 :=
      ((framed_refl s1).set (by decide)).on fun h =>
        (framed_tripNow _ (hinst (by simpa using h)) 18).mono (by decide)
    exact h2.foldl _ fun u ch hch => (framed_blkStop u (blkChannels_lt source hinst ch hch)).mono (by decide)
  rw [is, hrest.rows.get_of_clearOf (by decide), hrest.rows.get_distinct (by decide) (by decide), hrest.rows.get_distinct (by decide) (by decide)]
  refine ⟨?_, ?_, get_set_self ..⟩
  · simp (disch := decide) only [s1, get_set_ne, get_set_self]
    decide
  · simp (disch := decide) only [s1, get_set_ne, get_set_self]

/-! ## The pre-reset stage (R443) -/

theorem chIslands_lt {ch : Nat} (hch : ch ∈ [0, 1, 7]) : ∀ i ∈ chIslands ch, i < 12 := by
  have hall : ∀ ch ∈ [0, 1, 7], ∀ i ∈ chIslands ch, i < 12 := by decide
  exact hall ch hch

/-- The rows that the stage writes before both axes are called safe. -/
def stageRows : List Row := [GI.cmdOn, PU.sw, PU.onT, SYS.stageEnd]

/-- A stage begins: its level, its source and BUSY stand, and both axes are called safe. -/
theorem framed_stage1 (s : State) (lvl src : Nat) (warm : Bool) : ∃ u : State,
    Framed stageRows [.out] (((((s.set SYS.rstPhase 2).set SYS.rstLvl lvl).set SYS.rstSrc src).setb SYS.rstWarm warm).set SYS.RST_STAT.BUSY 1) u ∧
    OutGrows s u ∧ s.stage1 lvl src warm = u.callSafeBoth SsCause.ciLost.bit := by
  unfold stage1
  extract_lets s1 s2 s3 isl wait
  have hgate (u : State) {ch : Nat} (hch : ch ∈ [0, 1, 7]) :
      Framed stageRows [.out] u ((chIslands ch).foldl (fun v i => v.gateSoftOff i 31) u) :=
    (framed_refl u).foldl _ fun v i hi => (framed_gateSoftOff v (chIslands_lt hch i hi) 31).mono (by decide)
  have hsent (u : State) (l : List Nat) : OutGrows u (l.foldl (fun v i => v.gateSoftOff i 31) u) := by
    induction l generalizing u with
    | nil => exact .refl u
    | cons i l ih => exact OutGrows.trans (((OutGrows.refl u).send _).set ..) (ih _)
  have h2 : Framed stageRows [.out] s1 s2 := (framed_refl s1).foldl _ fun u ch hch => (framed_refl u).on fun _ => hgate u hch
  have hout : OutGrows s s2 := by
    have hfold (l : List Nat) (u : State) : OutGrows u (l.foldl (fun t ch => t.on (s1.is ACT.chEn ch) fun u =>
        (chIslands ch).foldl (fun v i => v.gateSoftOff i 31) u) u) := by
      induction l generalizing u with
      | nil => exact .refl u
      | cons ch l ih => exact OutGrows.trans ((OutGrows.refl u).on _ (hsent u _)) (ih _)
    exact OutGrows.trans (.of_eq rfl) (hfold [0, 1, 7] s1)
  have h3 : Framed stageRows [.out] s2 s3 := (framed_refl s2).forN fun k u hk => (framed_axBridgeOff u hk).mono (by decide)
  have hout3 : OutGrows s2 s3 := by
    have hoff : Framed [PU.sw, PU.onT] [] s2 s3 := (framed_refl s2).forN fun k u hk => framed_axBridgeOff u hk
    exact hoff.outGrows (by decide)
  exact ⟨_, (h2.trans h3).set (by decide), (hout.trans hout3).set .., rfl⟩

/-- What a stage shows as it begins. -/
theorem stage1_reads (s : State) (lvl src : Nat) (warm : Bool) : (s.stage1 lvl src warm).get SYS.rstPhase = 2 ∧
    (s.stage1 lvl src warm).get SYS.rstLvl = lvl % 2 ^ SYS.rstLvl.width ∧ (s.stage1 lvl src warm).get SYS.rstSrc = src % 2 ^ SYS.rstSrc.width ∧
    (s.stage1 lvl src warm).is SYS.RST_STAT.BUSY = true ∧ ∀ a < 2, (s.stage1 lvl src warm).getBit BL.causeReq 13 a = true := by
  obtain ⟨u, hu, -, h⟩ := framed_stage1 s lvl src warm
  have hcall : Framed [BL.causeReq] [] u (u.callSafeBoth SsCause.ciLost.bit) := (framed_refl u).set (by decide) |>.set (by decide)
  rw [h, hcall.rows.get_distinct (by decide) (by decide), hcall.rows.get_distinct (by decide) (by decide),
    hcall.rows.get_distinct (by decide) (by decide), hcall.rows.is_distinct (by decide) (by decide),
    hu.rows.get_distinct (by decide) (by decide), hu.rows.get_distinct (by decide) (by decide),
    hu.rows.get_distinct (by decide) (by decide), hu.rows.is_distinct (by decide) (by decide)]
  refine ⟨?_, ?_, ?_, is_set_one _ _ _ _ (by decide), fun a ha => ?_⟩
  · simp (disch := decide) only [setb_eq, get_set_ne, get_set_self]
    decide
  · simp (disch := decide) only [setb_eq, get_set_ne, get_set_self]
  · simp (disch := decide) only [setb_eq, get_set_ne, get_set_self]
  · have hbit : SsCause.ciLost.bit = 13 := rfl
    rw [hbit, callSafeBoth]
    obtain rfl | rfl : a = 0 ∨ a = 1 := by omega
    · rw [getBit, setBit, get_set_ne _ _ _ _ _ _ (by decide)]
      exact getBit_setBit_self _ _ _ _ (by decide)
    · exact getBit_setBit_self _ _ _ _ (by decide)

/-! ## What a reset clears (R444, R454) -/

/-- The rows that a reset may write after its level is cleared. -/
def holdTailRows : List Row := beforeCauseRows ++ [SYS.RST_CAUSE.SRC, SYS.RST_CAUSE.LEVEL, SYS.RST_CAUSE.WARM] ++ (SYS.bistTry :: afterCauseRows)

theorem framed_clearLevel_takeHold (s : State) (lvl src : Nat) (warm : Bool) : ∃ u : State, Framed [ACT.ERR_LOC.IMG_FAIL, SEC.autoCom] [] s u ∧
    Framed holdTailRows [.events, .store] (u.clearLevel lvl warm) (s.takeHold lvl src warm) := by
  obtain ⟨u, hu, hbegun⟩ := s.framed_clearLevel_holdBegun lvl src warm
  have hwrite (v : State) : Framed holdTailRows [.events, .store] v (v.writeCause src lvl warm) :=
    (framed_refl v).set (by decide) |>.set (by decide) |>.set (by decide)
  have hrest := s.framed_takeHold_writeCause (rs := holdTailRows) lvl src warm
    (fun r hr => List.mem_append_right _ (List.mem_cons_of_mem _ hr)) (.inr (by decide))
  refine ⟨u, hu, ((hbegun.mono ⟨fun r hr => ?_, fun _ hf => hf⟩).trans (hwrite _)).andThen hrest ⟨fun _ hr => hr, nofun⟩⟩
  exact List.mem_append_left _ (List.mem_append_left _ hr)

/-- A place that the condition names reads its reset value. -/
theorem get_clearWhere (s : State) (p : Row → Nat → Nat → Bool) {d : List Row × (Row → Nat → Nat)} (hd : d ∈ domainRows) {r : Row} (hr : r ∈ d.1)
    {i j : Nat} (hi : r.instAt (r.key i j) = some i) (hp : p r i (d.2 r i) = true) :
    (s.clearWhere p).get r i j = r.resetAt i % 2 ^ r.width := by
  have hdrop (u : State) : (u.dropCells d.1 fun r i => p r i (d.2 r i)).regs.find (r.key i j) = none := by
    refine Cells.find_filter_none _ _ fun v => ?_
    rw [Bool.not_eq_false', List.any_eq_true]
    exact ⟨r, hr, by rw [hi]; exact hp⟩
  have hkeep (l : List (List Row × (Row → Nat → Nat))) (u : State) (hu : u.regs.find (r.key i j) = none) :
      (l.foldl (fun t d => t.dropCells d.1 fun r i => p r i (d.2 r i)) u).regs.find (r.key i j) = none := by
    induction l generalizing u with
    | nil => exact hu
    | cons e l ih => exact ih _ (Cells.find_filter_of_none _ hu)
  obtain ⟨l1, l2, hl⟩ := List.append_of_mem hd
  have hnone : (s.clearWhere p).regs.find (r.key i j) = none := by
    rw [clearWhere, hl, List.foldl_append, List.foldl_cons]
    exact hkeep l2 _ (hdrop _)
  rw [get, hnone]
  rfl

theorem get_clearRecords (s : State) (lvl : Nat) (warm : Bool) (r : Row) (i j : Nat) : (s.clearRecords lvl warm).get r i j = s.get r i j := by
  unfold clearRecords
  dsimp only
  split <;> rfl

/-- A register of the host, the rings or the actors is cleared by every level of a reset. -/
theorem get_takeHold_of_ctl (s : State) (lvl src : Nat) (warm : Bool) {r : Row} (hr : r ∈ DOOR.rows ++ RING.rows ++ ACT.rows) (hclr : r.clr = .ctl)
    {i j : Nat} (hi : r.instAt (r.key i j) = some i) (hrows : i < r.c1 ∧ j < r.c2 ∧ holdTailRows.all r.distinct = true) :
    (s.takeHold lvl src warm).get r i j = r.resetAt i % 2 ^ r.width := by
  obtain ⟨hi1, hj, hdistinct⟩ := hrows
  obtain ⟨u, -, htail⟩ := s.framed_clearLevel_takeHold lvl src warm
  rw [htail.rows.get_distinct hi1 ⟨hdistinct, hj⟩, clearLevel_eq, get_clearRecords]
  refine get_clearWhere _ _ (d := (DOOR.rows ++ RING.rows ++ ACT.rows, fun _ _ => 2)) (List.mem_cons_of_mem _ (List.mem_cons_self ..)) hr hi ?_
  unfold levelClears
  rw [hclr]
  split <;> rfl

/-- No channel is enabled after a reset. -/
theorem chEn_takeHold (s : State) (lvl src : Nat) (warm : Bool) {c : Nat} (hc : c < 8) : (s.takeHold lvl src warm).is ACT.chEn c = false := by
  have hinst : ∀ c < 8, ACT.chEn.instAt (ACT.chEn.key c 0) = some c := by decide
  rw [is, get_takeHold_of_ctl s lvl src warm (by decide) rfl (hinst c hc) ⟨hc, by decide⟩]
  rfl

/-- No ring is enabled after one. -/
theorem ringOn_takeHold (s : State) (lvl src : Nat) (warm : Bool) {n : Nat} (hn : n < 32) : (s.takeHold lvl src warm).ringOn n = false := by
  have hinst : ∀ n < 32, RING.CFG.SIZE.instAt (RING.CFG.SIZE.key n 0) = some n := by decide
  rw [ringOn, is, get_takeHold_of_ctl s lvl src warm (by decide) rfl (hinst n hn) ⟨hn, by decide⟩]
  rfl

/-- What lies beside the rows is gone: the descriptors and the network's frames at every level, device time at COLD, the SRAM unless warm. -/
theorem records_takeHold (s : State) (lvl src : Nat) (warm : Bool) : (s.takeHold lvl src warm).descs = [] ∧ (s.takeHold lvl src warm).canTx = [] ∧
    (lvl = 0 → (s.takeHold lvl src warm).now = 0) ∧ (warm = false → (s.takeHold lvl src warm).mem = []) := by
  obtain ⟨u, -, htail⟩ := s.framed_clearLevel_takeHold lvl src warm
  have hclear (v : State) : (v.clearRecords lvl warm).descs = [] ∧ (v.clearRecords lvl warm).canTx = [] ∧
      (lvl = 0 → (v.clearRecords lvl warm).now = 0) ∧ (warm = false → (v.clearRecords lvl warm).mem = []) := by
    unfold clearRecords
    dsimp only
    split
    · exact ⟨rfl, rfl, fun _ => rfl, fun h => by rw [h]; rfl⟩
    · exact ⟨rfl, rfl, fun h => absurd h ‹_›, fun h => by rw [h]; rfl⟩
  obtain ⟨hdescs, hcan, hnow, hmem⟩ := hclear ((u.on (lvl == 0) fun t => t.bivEnd.lockPause).clearWhere fun r _ d => levelClears lvl r d)
  rw [← clearLevel_eq] at hdescs hcan hnow hmem
  exact ⟨Eq.trans (htail.recs .descs (by decide)) hdescs, Eq.trans (htail.recs .canTx (by decide)) hcan,
    fun h => Eq.trans (htail.recs .now (by decide)) (hnow h), fun h => Eq.trans (htail.recs .mem (by decide)) (hmem h)⟩

/-- The supplies' state is not a reset's to change. -/
theorem lowState_takeHold (s : State) (lvl src : Nat) (warm : Bool) : (s.takeHold lvl src warm).get SYS.lowState = s.get SYS.lowState := by
  have hclear : (SYS.bistTry :: takeHoldRows).all (Row.clearOf (SYS.lowState.key 0 0 / 32)) = true := by decide +kernel
  exact (s.framed_takeHold lvl src warm (fun _ => List.mem_cons_of_mem _) (.inr (List.mem_cons_self ..))).rows.get_of_clearOf hclear

theorem rstnLow_takeHold (s : State) (lvl src : Nat) (warm : Bool) : (s.takeHold lvl src warm).get SYS.rstnLow = s.get SYS.rstnLow := by
  have hclear : (SYS.bistTry :: takeHoldRows).all (Row.clearOf (SYS.rstnLow.key 0 0 / 32)) = true := by decide +kernel
  exact (s.framed_takeHold lvl src warm (fun _ => List.mem_cons_of_mem _) (.inr (List.mem_cons_self ..))).rows.get_of_clearOf hclear

end State
end Sys2Proof.Machine
end

/-!
Reset sources, the pre-reset stage and block resets, command by command (20): O43.
-/
section
namespace Sys2Proof.Machine
set_option Elab.async false

namespace State

/-! ## A commanded reset (R439, R445, R446) -/

theorem is_on {s : State} {c : Bool} {f : State → State} {r : Row} {b : Bool} (h : s.is r = b) (hf : c = true → (f s).is r = b) :
    (s.on c f).is r = b := by
  cases c
  · exact h
  · exact hf rfl

theorem resetRequest_of_up {s : State} (hup : s.get SYS.rstPhase = 1) (lvl src : Nat) (warm : Bool) :
    s.resetRequest lvl src warm = s.resetBegin lvl src warm := by
  rw [resetRequest, hup]
  rfl

/-- SYS and CTL of any source but a brown-out and a failed BIST pass through the stage (R443). -/
theorem resetRequest_staged {s : State} (hup : s.get SYS.rstPhase = 1) {lvl src : Nat} (warm : Bool) (hlvl : lvl = 1 ∨ lvl = 2)
    (hsrc : src ≠ 2 ∧ src ≠ 10) : s.resetRequest lvl src warm = s.stage1 lvl src warm := by
  have hstaged : staged lvl src = true := by
    rcases hlvl with rfl | rfl <;> simp [staged, hsrc]
  rw [resetRequest_of_up hup, resetBegin, if_pos hstaged]

/-- The rows that the checks of a reset that is asked for read (R439, R445, R446). -/
def resetCheckRows : List Row := [SYS.RST_MAP.HOST, SYS.RST_MAP.NET, SEC.DBG_STAT.OPEN, SEC.DBG_STAT.LEVEL, SEC.LC_STAT.STATE]

theorem commandCheck_congr {s t : State} (h : ∀ r ∈ resetCheckRows, t.get r = s.get r) (lvl src : Nat) (warm : Bool) :
    t.commandCheck lvl src warm = s.commandCheck lvl src warm := by
  have hwide : t.widest src = s.widest src := by
    simp only [widest, is, h SYS.RST_MAP.HOST (by decide), h SYS.RST_MAP.NET (by decide), h SEC.DBG_STAT.OPEN (by decide),
      h SEC.DBG_STAT.LEVEL (by decide)]
    rfl
  have hwarm : t.warmOk lvl = s.warmOk lvl := by
    simp only [warmOk, is, h SEC.LC_STAT.STATE (by decide), h SEC.DBG_STAT.OPEN (by decide), h SEC.DBG_STAT.LEVEL (by decide)]
  simp only [commandCheck, hwide, hwarm]

theorem commandReset_of_some {s : State} {lvl src : Nat} {warm : Bool} {st : Status} (h : s.commandCheck lvl src warm = some st)
    (source inst : Nat) (ack : State → Status → State) : ∃ u : State, Framed [RING.lost] [.events, .store] s u ∧
      s.commandReset lvl source inst src warm ack = ack u st := by
  refine ⟨s.on (st == .refused && decide (lvl < s.widest src)) (·.resetRefused lvl source inst warm), ?_, ?_⟩
  · refine (framed_refl s).on fun _ => ?_
    unfold resetRefused accessRefused
    exact (framed_refl s).event (by decide)
  · simp only [commandReset, h]

theorem commandReset_of_none {s : State} {lvl src : Nat} {warm : Bool} (h : s.commandCheck lvl src warm = none) (hlvl : lvl ≠ 3)
    (source inst : Nat) (ack : State → Status → State) :
    s.commandReset lvl source inst src warm ack = (ack s .ok).resetRequest lvl src warm := by
  simp only [commandReset, h, if_neg hlvl]

theorem commandReset_block {s : State} {src : Nat} {warm : Bool} (h : s.commandCheck 3 src warm = none) (source inst : Nat)
    (ack : State → Status → State) : s.commandReset 3 source inst src warm ack =
      (ack s (s.blkCheck source inst)).on (s.blkCheck source inst == .ok) (·.blkBegin source inst src) := by
  simp only [commandReset, h, if_true]

/-- A block request is judged by the block, and by these rows. -/
theorem blkCheck_congr {s t : State} (h : ∀ r ∈ [BL.DIS_STAT.STATE, SYS.rstPhase, SYS.blkOn, SYS.RST_STAT.BLK_SRC, SYS.RST_STAT.BLK_INST], t.get r = s.get r)
    (source inst : Nat) : t.blkCheck source inst = s.blkCheck source inst := by
  simp only [blkCheck, disRunning, blkSame, is, h BL.DIS_STAT.STATE (by decide), h SYS.rstPhase (by decide), h SYS.blkOn (by decide),
    h SYS.RST_STAT.BLK_SRC (by decide), h SYS.RST_STAT.BLK_INST (by decide)]
  rfl

/-- What the network asks for passes through the stage: COLD is refused to it (R439, R443). -/
theorem staged_of_commandCheck {s : State} {lvl : Nat} {warm : Bool} (h : s.commandCheck lvl 8 warm = none) (h3 : lvl ≠ 3) :
    staged lvl 8 = true := by
  by_cases hr : 3 < lvl
  · simp [commandCheck, hr] at h
  by_cases h0 : lvl = 0
  · simp [commandCheck, h0] at h
  · obtain rfl | rfl : lvl = 1 ∨ lvl = 2 := by omega
    · rfl
    · rfl

/-- A block that may be reset exists. -/
theorem inst_lt_of_blkCheck {s : State} {source inst : Nat} (h : s.blkCheck source inst = .ok) : source = 0x12 → inst < 5 := by
  rintro rfl
  by_contra hge
  have h5 : blkInstances 0x12 ≤ inst := Nat.not_lt.1 hge
  simp [blkCheck, h5] at h

/-! ## The network's answer (R308, R316) -/

/-- The rows that a response writes: it goes to the controller that the slot names. -/
def respondRows : List Row := BL.RS_CNT.TX_DROP :: [CAN.TXB_ACT.ACT, CAN.TXB_SHD.SHD, CAN.cur].map anyInst

theorem rowsKept_respond_of (s : State) {k : Nat} (hk : k < 16) (src dst mac op status result seq respSeq seed : Nat) :
    RowsKept respondRows s (s.respond k src dst mac op status result seq respSeq seed) := by
  have hdrop : RowsKept respondRows s (s.respDrop k) := rowsKept_set_zero hk (by decide)
  have hinst : s.get BL.RS_CFG.INST k < 16 := get_lt ..
  have hput (u : State) {c : Nat} (hc : c < 16) (b : Nat) (shadow : Bool) (f : CanFrame) : RowsKept respondRows u (u.canPut c b shadow f) := by
    cases shadow
    · exact rowsKept_set_anyInst u (r := CAN.TXB_ACT.ACT) _ hc (by decide)
    · exact rowsKept_set_anyInst u (r := CAN.TXB_SHD.SHD) _ hc (by decide)
  have hchoose (u : State) {c : Nat} (hc : c < 16) : RowsKept respondRows u (u.canChoose c) := by
    unfold canChoose
    dsimp only
    split <;> exact rowsKept_set_anyInst u (r := CAN.cur) _ hc (by decide)
  unfold respond
  dsimp only
  split
  · exact hdrop
  split
  · exact rowsKept_send _ _ _
  split
  · exact (hput _ hinst _ _ _).trans (rowsKept_on _ fun _ => hchoose _ hinst)
  split
  · exact hput _ hinst _ _ _
  · exact hdrop

/-- The network's command is over once it is answered. -/
theorem netBusy_commandDone (s : State) (st : Status) (result : Nat) : (s.commandDone true st result).is BL.netBusy = false := by
  have hslot : s.get BL.netSlot < 16 := get_lt ..
  have hseq (u : State) : RowsKept [BL.respSeq] u (u.inc BL.respSeq (s.get BL.netSlot)) := rowsKept_set_zero hslot (by decide)
  unfold commandDone respondNext
  rw [if_pos rfl, (hseq _).is_distinct (by decide) (by decide), (rowsKept_respond_of _ hslot _ _ _ _ _ _ _ _ _).is_distinct (by decide) (by decide)]
  exact is_set_zero ..

/-- The rows that the network's answer writes. -/
theorem rowsKept_commandDone_net (s : State) (st : Status) (result : Nat) :
    RowsKept ([BL.netBusy, BL.respSeq] ++ respondRows) s (s.commandDone true st result) := by
  have hslot : s.get BL.netSlot < 16 := get_lt ..
  have hbusy : RowsKept ([BL.netBusy, BL.respSeq] ++ respondRows) s (s.set BL.netBusy 0) := rowsKept_set_zero (by decide) (by decide)
  have hseq (u : State) : RowsKept ([BL.netBusy, BL.respSeq] ++ respondRows) u (u.inc BL.respSeq (s.get BL.netSlot)) :=
    rowsKept_set_zero hslot (by decide)
  unfold commandDone respondNext
  rw [if_pos rfl]
  exact (hbusy.trans ((rowsKept_respond_of _ hslot _ _ _ _ _ _ _ _ _).mono fun _ hr => List.mem_append_right _ hr)).trans (hseq _)

/-- A block reset that is asked for writes its request and stops the block's channels. -/
theorem framed_blkBegin (s : State) (source inst src : Nat) (hinst : source = 0x12 → inst < 5) :
    Framed ([SYS.blkOn, SYS.blkT, SYS.blkBy, SYS.RST_STAT.BLK_SRC, SYS.RST_STAT.BLK_INST, SYS.RST_STAT.BUSY] ++ blkStopRows) tripRecs s
      (s.blkBegin source inst src) := by
  unfold blkBegin
  refine .ite (fun _ => framed_refl s) fun _ => ?_
  extract_lets s1 s2
  have h1 : Framed ([SYS.blkOn, SYS.blkT, SYS.blkBy, SYS.RST_STAT.BLK_SRC, SYS.RST_STAT.BLK_INST, SYS.RST_STAT.BUSY] ++ blkStopRows) tripRecs s
      (s1.set SYS.RST_STAT.BUSY 1) :=
    (framed_refl s).set (by decide) |>.set (by decide) |>.set (by decide) |>.set (by decide) |>.set (by decide) |>.set (by decide)
  have h2 : Framed ([SYS.blkOn, SYS.blkT, SYS.blkBy, SYS.RST_STAT.BLK_SRC, SYS.RST_STAT.BLK_INST, SYS.RST_STAT.BUSY] ++ blkStopRows) tripRecs s s2 :=
    h1.trans ((framed_refl _).on fun h => (framed_tripNow _ (hinst (by simpa using h)) 18).mono (by decide))
  exact h2.trans ((framed_refl s2).foldl _ fun u ch hch => (framed_blkStop u (blkChannels_lt source hinst ch hch)).mono (by decide))

/-- A start-up is held while RSTN is asserted (R449). -/
theorem rstPhase_takeHold_of_rstnLow {s : State} {lvl src : Nat} {warm : Bool} (h : (s.takeHold lvl src warm).is SYS.rstnLow = true) :
    (s.takeHold lvl src warm).get SYS.rstPhase = 3 := by
  have hheld (v : State) (banks : Nat) (hv : (v.startUp lvl banks).is SYS.rstnLow = true) : (v.startUp lvl banks).get SYS.rstPhase = 3 := by
    unfold startUp at hv ⊢
    extract_lets at hv ⊢
    rw [is, get_set_ne _ _ _ _ _ _ (by decide), ← is] at hv
    rw [hv, Bool.true_or, if_pos rfl, get_set_self]
    rfl
  have hends : ∃ (v : State) (banks : Nat), s.takeHold lvl src warm = v.startUp lvl banks := by
    unfold takeHold
    exact ⟨_, _, rfl⟩
  obtain ⟨v, banks, hv⟩ := hends
  rw [hv] at h ⊢
  exact hheld v banks h

/-- What a reset that is asked for, and is not at once taken hold of, leaves alone. -/
theorem rowsKept_resetRequest_staged (s : State) {lvl src : Nat} (warm : Bool) (hstaged : staged lvl src = true) :
    RowsKept ([SYS.RST_CNT.MERGED, SYS.rstPhase, SYS.rstLvl, SYS.rstSrc, SYS.rstWarm, SYS.RST_STAT.BUSY, BL.causeReq] ++ stageRows) s
      (s.resetRequest lvl src warm) := by
  unfold resetRequest resetBegin
  rw [if_pos hstaged]
  split
  · obtain ⟨u, hu, -, h⟩ := framed_stage1 s lvl src warm
    have hbegin : Framed ([SYS.RST_CNT.MERGED, SYS.rstPhase, SYS.rstLvl, SYS.rstSrc, SYS.rstWarm, SYS.RST_STAT.BUSY, BL.causeReq] ++ stageRows)
        [.out] s u :=
      ((framed_refl s).set (by decide) |>.set (by decide) |>.set (by decide) |>.set (by decide) |>.set (by decide)).andThen hu (by decide)
    rw [h]
    exact (hbegin.set (by decide) |>.set (by decide)).rows
  · exact rowsKept_set_zero (by decide) (by decide)

/-- A descriptor that was completed before the stage of a reset began is completed. -/
theorem completes_stage1 {s u : State} {n : Nat} {d : Desc} {st : Status} {result : Nat} (hn : n < 32) (h : s.Completes u n d st result)
    (lvl src : Nat) (warm : Bool) : s.Completes (u.stage1 lvl src warm) n d st result := by
  obtain ⟨hdesc, hbusy, hout⟩ := h
  obtain ⟨v, hv, hgrows, h⟩ := framed_stage1 u lvl src warm
  have hall : Framed ([SYS.rstPhase, SYS.rstLvl, SYS.rstSrc, SYS.rstWarm, SYS.RST_STAT.BUSY, BL.causeReq] ++ stageRows) [.out] u
      (u.stage1 lvl src warm) := by
    rw [h]
    exact (((framed_refl u).set (by decide) |>.set (by decide) |>.set (by decide) |>.set (by decide) |>.set (by decide)).andThen hv
      (by decide)).set (by decide) |>.set (by decide)
  refine ⟨?_, ?_, ?_⟩
  · rw [desc, hall.recs .descs (by decide)]
    exact hdesc
  · rw [hall.rows.is_distinct hn (by decide)]
    exact hbusy
  · obtain ⟨l, hl⟩ := hgrows
    have hcall : Framed [BL.causeReq] [] v (v.callSafeBoth SsCause.ciLost.bit) := (framed_refl v).set (by decide) |>.set (by decide)
    have hsame : (u.stage1 lvl src warm).out = u.out ++ l := by
      rw [h, hl]
      exact hcall.recs .out (by decide)
    rw [hsame]
    by_cases hle : s.out.length ≤ u.out.length
    · rw [List.drop_append_of_le_length hle]
      exact List.mem_append_left _ hout
    · rw [List.drop_eq_nil_of_le (by omega)] at hout
      exact absurd hout (List.not_mem_nil)

/-- A block that is reset: the request is over, and RST_CAUSE names it. -/
theorem blkDone_reads (s : State) (forced : Bool) (hon : s.is SYS.blkOn = true) : (s.blkDone forced).is SYS.blkOn = false ∧
    (s.blkDone forced).get SYS.RST_CAUSE.LEVEL = 3 ∧ (s.blkDone forced).get SYS.RST_CAUSE.SRC = s.get SYS.blkBy ∧
    (s.blkDone forced).is SYS.RST_CAUSE.UNCLEAN = forced ∧ (forced = true → (s.blkDone forced).is SYS.RST_STAT.UNCLEAN = true) := by
  unfold blkDone
  rw [hon, if_neg nofun]
  extract_lets source inst b s0 s1 s2 s3
  have hev (c : EvClass) (arg : Nat) : Framed [RING.lost] [.events, .store] s3 (s3.event c 0 0x00 0x0421 (source * 256 + inst) arg) :=
    (framed_refl s3).event (by decide)
  rw [is, is, is, (hev _ _).rows.get_distinct (by decide) (by decide), (hev _ _).rows.get_distinct (by decide) (by decide),
    (hev _ _).rows.get_distinct (by decide) (by decide), (hev _ _).rows.get_distinct (by decide) (by decide),
    (hev _ _).rows.get_distinct (by decide) (by decide)]
  clear hev
  have hby : s.get SYS.blkBy < 2 ^ SYS.RST_CAUSE.SRC.width := get_lt ..
  have h3 : Framed [SYS.RST_STAT.UNCLEAN, SYS.RST_CNT.UNCLEAN_CNT] [] (s2.setb SYS.RST_CAUSE.UNCLEAN forced) s3 :=
    (framed_refl _).on fun _ => (framed_refl _).set (by decide) |>.set (by decide)
  refine ⟨?_, ?_, ?_, ?_, fun hf => ?_⟩
  · rw [h3.rows.get_distinct (by decide) (by decide)]
    simp (disch := decide) only [s2, writeCause, setb_eq, get_set_ne, get_set_self]
    decide
  · rw [h3.rows.get_distinct (by decide) (by decide)]
    simp (disch := decide) only [s2, writeCause, setb_eq, get_set_ne, get_set_self]
    decide
  · rw [h3.rows.get_distinct (by decide) (by decide)]
    simp (disch := decide) only [s2, writeCause, setb_eq, get_set_ne, get_set_self]
    exact Nat.mod_eq_of_lt hby
  · rw [h3.rows.get_distinct (by decide) (by decide), setb_eq, get_set_self]
    cases forced <;> decide
  · simp only [s3, hf, on, if_true]
    rw [incSat, get_set_ne _ _ _ _ _ _ (by decide), get_set_self]
    decide

end State

/-! ## The commands -/

theorem exec_powerOn (s : State) : ∃ t, exec .powerOn s = .next t ∧ t.get SYS.RST_CAUSE.SRC = 0 ∧ t.get SYS.RST_CAUSE.LEVEL = 0 ∧ t.now = 0 ∧
    t.mem = [] ∧ t.descs = [] ∧ t.get SYS.lowState = 0 ∧ ((∀ n < 32, t.ringOn n = false) ∧ ∀ c < 8, t.is ACT.chEn c = false) := by
  refine ⟨_, rfl, ?_⟩
  obtain ⟨hsrc, hlevel⟩ := State.cause_takeHold (((s.lcFinish.set SYS.lowState 0).set SYS.boMask 0).set SYS.wakeEv 1) 0 0 false
  obtain ⟨hdescs, -, hnow, hmem⟩ := State.records_takeHold (((s.lcFinish.set SYS.lowState 0).set SYS.boMask 0).set SYS.wakeEv 1) 0 0 false
  refine ⟨hsrc, hlevel, hnow rfl, hmem rfl, hdescs, ?_, fun n hn => State.ringOn_takeHold _ 0 0 false hn, fun c hc => State.chEn_takeHold _ 0 0 false hc⟩
  rw [State.lowState_takeHold, State.get_set_ne _ _ _ _ _ _ (by decide), State.get_set_ne _ _ _ _ _ _ (by decide)]
  exact State.get_set_self ..

theorem exec_rstnAssert (s : State) : ∃ t, exec .rstnAssert s = .next t ∧ (s.get SYS.lowState = 2 → t = s) ∧
    (s.get SYS.lowState ≠ 2 → t.get SYS.RST_CAUSE.SRC = 3 ∧ t.get SYS.RST_CAUSE.LEVEL = 0 ∧ t.get SYS.rstPhase = 3 ∧ t.is SYS.rstnLow = true) := by
  refine ⟨_, rfl, fun h => if_pos h, fun h => ?_⟩
  obtain ⟨hsrc, hlevel⟩ := State.cause_takeHold (s.set SYS.rstnLow 1) 0 3 false
  have hlow : ((s.set SYS.rstnLow 1).takeHold 0 3 false).is SYS.rstnLow = true := by
    rw [State.is, State.rstnLow_takeHold]
    exact State.is_set_one _ _ _ _ (by decide)
  rw [if_neg h]
  exact ⟨hsrc, hlevel, State.rstPhase_takeHold_of_rstnLow hlow, hlow⟩

theorem exec_rstnRelease (s : State) : ∃ t, exec .rstnRelease s = .next t ∧ t.is SYS.rstnLow = false ∧
    (s.get SYS.rstPhase = 3 → s.get SYS.boMask = 0 → s.is SYS.lowState = false → t.get SYS.rstPhase = 0) := by
  have hexec : exec .rstnRelease s = .next (if (s.set SYS.rstnLow 0).get SYS.rstPhase = 3 && (s.set SYS.rstnLow 0).get SYS.boMask % 128 == 0 &&
      !(s.set SYS.rstnLow 0).is SYS.lowState then
      ((s.set SYS.rstnLow 0).set SYS.rstPhase 0).set SYS.startT (s.set SYS.rstnLow 0).now else s.set SYS.rstnLow 0) := rfl
  have hlow : (s.set SYS.rstnLow 0).is SYS.rstnLow = false := State.is_set_zero s SYS.rstnLow 0 0
  have hread (r : Row) (h : SYS.rstnLow.key 0 0 ≠ r.key 0 0) : (s.set SYS.rstnLow 0).get r = s.get r := State.get_set_ne _ _ _ _ _ _ h
  generalize s.set SYS.rstnLow 0 = u at hlow hexec hread
  refine ⟨_, hexec, ?_, fun hphase hbo hlowState => ?_⟩
  · split
    · rwa [State.is, State.get_set_ne _ _ _ _ _ _ (by decide), State.get_set_ne _ _ _ _ _ _ (by decide)]
    · exact hlow
  · have hlow' : u.is SYS.lowState = false := by rw [State.is, hread SYS.lowState (by decide)]; exact hlowState
    rw [hread SYS.rstPhase (by decide), hread SYS.boMask (by decide), hphase, hbo, hlow', if_pos (by decide),
      State.get_set_ne _ _ _ _ _ _ (by decide)]
    exact State.get_set_self ..

/-- A debug access that the source is, or the host: neither is a brown-out or a failed BIST. -/
theorem rstCmd_source (debug : Bool) : (if debug then 9 else 7) ≠ 2 ∧ (if debug then 9 else 7) ≠ 10 := by
  cases debug <;> decide

theorem exec_rstCmd (level : BitVec 2) (warm : Bool) (source inst : BitVec 8) (debug : Bool) (s : State) (hpd : s.pdOn 2 = true) :
    ∃ t, exec (.rstCmd level warm source inst debug) s = .next t ∧
      (∀ st ∈ s.commandCheck level.toNat (if debug then 9 else 7) warm,
        t.get SYS.RST_STAT.RESULT = st.code ∧ t.get SYS.rstPhase = s.get SYS.rstPhase ∧ t.descs = s.descs) ∧
      (level = 1 → s.commandCheck 1 (if debug then 9 else 7) warm = none → s.get SYS.rstPhase = 1 → t.get SYS.rstPhase = 2 ∧
        t.get SYS.rstLvl = 1 ∧ t.is SYS.RST_STAT.BUSY = true ∧ ∀ a < 2, t.getBit BL.causeReq 13 a = true) ∧
      (level = 3 → s.commandCheck 3 (if debug then 9 else 7) warm = none → s.blkCheck source.toNat inst.toNat = .ok → s.is SYS.blkOn = false →
        t.is SYS.blkOn = true ∧ t.get SYS.RST_STAT.BLK_SRC = source.toNat ∧
        t.get SYS.RST_STAT.BLK_INST = inst.toNat % 2 ^ SYS.RST_STAT.BLK_INST.width) := by
  generalize hu : (((s.set SYS.RST_CMD.LEVEL level.toNat).setb SYS.RST_CMD.WARM warm).set SYS.RST_CMD.SOURCE source.toNat).set
    SYS.RST_CMD.INST inst.toNat = u
  generalize hsrc : (if debug then 9 else 7) = src
  have hne : src ≠ 2 ∧ src ≠ 10 := hsrc ▸ rstCmd_source debug
  have hfields : State.Framed [SYS.RST_CMD.LEVEL, SYS.RST_CMD.WARM, SYS.RST_CMD.SOURCE, SYS.RST_CMD.INST] [] s u :=
    hu ▸ ((State.framed_refl s).set (by decide) |>.set (by decide) |>.set (by decide) |>.set (by decide))
  have hread {r : Row} (h : (decide (0 < r.c1) && decide (0 < r.c2) && [SYS.RST_CMD.LEVEL, SYS.RST_CMD.WARM, SYS.RST_CMD.SOURCE,
      SYS.RST_CMD.INST].all r.distinct) = true) : u.get r = s.get r := by
    simp only [Bool.and_eq_true, decide_eq_true_eq] at h
    exact hfields.rows.get_distinct h.1.1 ⟨h.2, h.1.2⟩
  have hcheck (lvl : Nat) : u.commandCheck lvl src warm = s.commandCheck lvl src warm := by
    refine State.commandCheck_congr (fun r hr => hread ?_) lvl src warm
    revert r
    decide
  have hblk : u.blkCheck source.toNat inst.toNat = s.blkCheck source.toNat inst.toNat := by
    refine State.blkCheck_congr (fun r hr => hread ?_) _ _
    revert r
    decide
  have hcode : ∀ st : Status, st.code < 2 ^ SYS.RST_STAT.RESULT.width := fun st => by cases st <;> decide
  have hexec : exec (.rstCmd level warm source inst debug) s = .next (u.commandReset level.toNat source.toNat inst.toNat src warm fun t st =>
      t.set SYS.RST_STAT.RESULT st.code) := by
    show execRstCmd level warm source inst debug s = _
    simp only [execRstCmd, hpd, hu, hsrc]
    rfl
  refine ⟨_, hexec, fun st hst => ?_, fun hl hnone hup => ?_, fun hl hnone hok hoff => ?_⟩
  · obtain ⟨v, hv, h⟩ := State.commandReset_of_some ((hcheck _).trans hst) source.toNat inst.toNat fun t st => t.set SYS.RST_STAT.RESULT st.code
    rw [h]
    refine ⟨(State.get_set_self ..).trans (Nat.mod_eq_of_lt (hcode st)), ?_, ?_⟩
    · rw [State.get_set_ne _ _ _ _ _ _ (by decide), hv.rows.get_distinct (by decide) (by decide), hread (by decide)]
    · exact Eq.trans (hv.recs .descs (by decide)) (hfields.recs .descs (by decide))
  · have hup' : (u.set SYS.RST_STAT.RESULT Status.ok.code).get SYS.rstPhase = 1 := by
      rw [State.get_set_ne _ _ _ _ _ _ (by decide), hread (by decide), hup]
    subst hl
    obtain ⟨hphase, hlvl, -, hbusy, hcause⟩ := (u.set SYS.RST_STAT.RESULT Status.ok.code).stage1_reads 1 src warm
    have h : u.commandReset 1 source.toNat inst.toNat src warm (fun t st => t.set SYS.RST_STAT.RESULT st.code) = _ :=
      (State.commandReset_of_none ((hcheck 1).trans hnone) (by decide) _ _ _).trans (State.resetRequest_staged hup' warm (.inl rfl) hne)
    have hl1 : (1 : BitVec 2).toNat = 1 := rfl
    rw [hl1, h]
    exact ⟨hphase, hlvl, hbusy, hcause⟩
  · subst hl
    have h := State.commandReset_block ((hcheck 3).trans hnone) source.toNat inst.toNat fun t st => t.set SYS.RST_STAT.RESULT st.code
    rw [hblk, hok] at h
    have hl3 : (3 : BitVec 2).toNat = 3 := rfl
    have hoff' : (u.set SYS.RST_STAT.RESULT Status.ok.code).is SYS.blkOn = false := by
      rwa [State.is, State.get_set_ne _ _ _ _ _ _ (by decide), hread (by decide)]
    obtain ⟨hon, hsource, hinst⟩ := State.blkBegin_reads source.toNat inst.toNat src hoff' (State.inst_lt_of_blkCheck hok)
    rw [hl3, h]
    refine ⟨hon, hsource.trans (Nat.mod_eq_of_lt ?_), hinst⟩
    exact Nat.lt_of_lt_of_le source.isLt (by decide)

theorem exec_ringReset (d : Desc) (s : State) (hd : s.running 0 7 = some d) : ∃ t, exec .ringReset s = .next t ∧
    (∀ st ∈ s.commandCheck (d.byte 0) 7 (d.byte 3 % 2 == 1), s.Completes t 0 d st 0 ∧ t.get SYS.rstPhase = s.get SYS.rstPhase) ∧
    (d.byte 0 = 1 → s.commandCheck 1 7 (d.byte 3 % 2 == 1) = none → s.get SYS.rstPhase = 1 →
      s.Completes t 0 d .ok 0 ∧ t.get SYS.rstPhase = 2) := by
  have hdesc := State.desc_of_running hd
  have hexec : exec .ringReset s = .next (s.commandReset (d.byte 0) (d.byte 1) (d.byte 2) 7 (d.byte 3 % 2 == 1) fun t st => t.complete 0 st 0) := by
    show execRingReset s = _
    simp only [execRingReset, hd]
  have hphase (u : State) (st : Status) : (u.complete 0 st 0).get SYS.rstPhase = u.get SYS.rstPhase :=
    (State.rowsKept_complete u (by decide) st 0).get_distinct (by decide) (by decide)
  refine ⟨_, hexec, fun st hst => ?_, fun hl hnone hup => ?_⟩
  · obtain ⟨v, hv, h⟩ := State.commandReset_of_some hst (d.byte 1) (d.byte 2) fun t st => t.complete 0 st 0
    have hdv : v.desc 0 = some d := by rw [State.desc, hv.recs .descs (by decide)]; exact hdesc
    rw [h]
    refine ⟨State.Completes.of_framed (by decide) hv (by decide) (by decide) (State.completes_complete v (by decide) hdv st 0), ?_⟩
    rw [hphase, hv.rows.get_distinct (by decide) (by decide)]
  · rw [hl, State.commandReset_of_none hnone (by decide), State.resetRequest_staged ((hphase s .ok).trans hup) _ (.inl rfl) (by decide)]
    obtain ⟨hphase2, -⟩ := (s.complete 0 .ok 0).stage1_reads 1 7 (d.byte 3 % 2 == 1)
    exact ⟨State.completes_stage1 (by decide) (State.completes_complete s (by decide) hdesc .ok 0) 1 7 _, hphase2⟩

theorem exec_netReset (a : Nat) (s : State) (ha : s.command true 7 = some a) : ∃ t, exec .netReset s = .next t ∧ t.is BL.netBusy = false ∧
    (a % 256 = 1 → s.commandCheck 1 8 false = none → s.get SYS.rstPhase = 1 → t.get SYS.rstPhase = 2 ∧ t.get SYS.rstSrc = 8) := by
  have hexec : exec .netReset s = .next (s.commandReset (a % 256) (a / 256 % 256) (a / 65536 % 256) 8 false fun t st => t.commandDone true st 0) := by
    show execNetReset s = _
    simp only [execNetReset, ha]
  refine ⟨_, hexec, ?_, fun hl hnone hup => ?_⟩
  · cases hcheck : s.commandCheck (a % 256) 8 false with
    | some st =>
      obtain ⟨u, -, h⟩ := State.commandReset_of_some hcheck (a / 256 % 256) (a / 65536 % 256) fun t st => t.commandDone true st 0
      rw [h]
      exact State.netBusy_commandDone u st 0
    | none =>
      by_cases h3 : a % 256 = 3
      · rw [h3] at hcheck ⊢
        rw [State.commandReset_block hcheck]
        refine State.is_on (State.netBusy_commandDone s _ 0) fun hok => ?_
        rw [State.is, (State.framed_blkBegin _ _ _ 8 (State.inst_lt_of_blkCheck (eq_of_beq hok))).rows.get_of_clearOf (by decide)]
        exact State.netBusy_commandDone s _ 0
      · rw [State.commandReset_of_none hcheck h3, (State.rowsKept_resetRequest_staged _ false
          (State.staged_of_commandCheck hcheck h3)).is_distinct (by decide) (by decide)]
        exact State.netBusy_commandDone s _ 0
  · have hup' : (s.commandDone true .ok 0).get SYS.rstPhase = 1 := by
      rw [(s.rowsKept_commandDone_net .ok 0).get_distinct (by decide) (by decide), hup]
    rw [hl, State.commandReset_of_none hnone (by decide), State.resetRequest_staged hup' _ (.inl rfl) (by decide)]
    obtain ⟨hphase, -, hsrc, -⟩ := (s.commandDone true .ok 0).stage1_reads 1 8 false
    exact ⟨hphase, hsrc⟩

theorem exec_preResetEnd (s : State) : ∃ t, exec .preResetEnd s = .next t ∧
    (s.get SYS.rstPhase = 2 → s.get SYS.stageEnd ≤ s.now → t.get SYS.RST_CAUSE.SRC = s.get SYS.rstSrc ∧
      t.get SYS.RST_CAUSE.LEVEL = s.get SYS.rstLvl ∧ t.descs = [] ∧ t.canTx = [] ∧ ∀ c < 8, t.is ACT.chEn c = false) ∧
    (s.get SYS.rstPhase ≠ 2 ∨ s.now < s.get SYS.stageEnd → t = s) := by
  refine ⟨_, rfl, fun hphase hend => ?_, fun h => if_neg ?_⟩
  · obtain ⟨hsrc, hlevel⟩ := s.cause_takeHold (s.get SYS.rstLvl) (s.get SYS.rstSrc) (s.is SYS.rstWarm)
    obtain ⟨hdescs, hcan, -, -⟩ := s.records_takeHold (s.get SYS.rstLvl) (s.get SYS.rstSrc) (s.is SYS.rstWarm)
    have hwidth (r c : Row) (h : r.width = c.width) : s.get r % 2 ^ c.width = s.get r := Nat.mod_eq_of_lt (h ▸ State.get_lt ..)
    rw [if_pos (by simp [hphase, hend])]
    exact ⟨hsrc.trans (hwidth _ _ rfl), hlevel.trans (hwidth _ _ rfl), hdescs, hcan, fun c hc => s.chEn_takeHold _ _ _ hc⟩
  · rcases h with h | h <;> simp [h]

theorem exec_blkReset (s : State) : ∃ t, exec .blkReset s = .next t ∧
    (s.is SYS.blkOn = true → t.is SYS.blkOn = false ∧ t.get SYS.RST_CAUSE.LEVEL = 3 ∧ t.get SYS.RST_CAUSE.SRC = s.get SYS.blkBy ∧
      t.is SYS.RST_CAUSE.UNCLEAN = false) ∧ (s.is SYS.blkOn = false → t = s) := by
  refine ⟨_, rfl, fun hon => ?_, fun hoff => ?_⟩
  · obtain ⟨hdone, hlevel, hsrc, hclean, -⟩ := s.blkDone_reads false hon
    exact ⟨hdone, hlevel, hsrc, hclean⟩
  · rw [State.blkDone, hoff]
    rfl

theorem exec_blkTimeout (s : State) (ht : s.get SYS.blkT + 400 * s.get SYS.RST_CTL.BLK_TMO ≤ s.now) : ∃ t, exec .blkTimeout s = .next t ∧
    (s.is SYS.blkOn = true → t.is SYS.RST_CAUSE.UNCLEAN = true ∧ t.is SYS.RST_STAT.UNCLEAN = true ∧ t.get SYS.RST_CAUSE.LEVEL = 3) ∧
    (s.is SYS.blkOn = false → t = s) := by
  have hexec : exec .blkTimeout s = .next (s.blkDone true) := congrArg Host.Outcome.next (if_neg (Nat.not_lt.2 ht))
  refine ⟨_, hexec, fun hon => ?_, fun hoff => ?_⟩
  · obtain ⟨-, hlevel, -, hcause, hstat⟩ := s.blkDone_reads true hon
    exact ⟨hcause, hstat rfl, hlevel⟩
  · rw [State.blkDone, hoff]
    rfl

/-! ## Watchdogs (R441, R442) -/

namespace State

/-- What a watchdog's reset shows: an event and the count of the watchdogs' resets come before it. -/
theorem stage1_incSat_event {s : State} (c : EvClass) (inst arg0 arg1 lvl src : Nat) (warm : Bool) (hup : s.get SYS.rstPhase = 1)
    (hlvl : lvl = 1 ∨ lvl = 2) (hsrc : src ≠ 2 ∧ src ≠ 10) :
    (((s.event c inst 0x00 0x0425 arg0 arg1).incSat SYS.RST_CNT.WD_CNT).resetRequest lvl src warm).get SYS.rstPhase = 2 ∧
    (((s.event c inst 0x00 0x0425 arg0 arg1).incSat SYS.RST_CNT.WD_CNT).resetRequest lvl src warm).get SYS.rstSrc = src % 2 ^ SYS.rstSrc.width ∧
    (((s.event c inst 0x00 0x0425 arg0 arg1).incSat SYS.RST_CNT.WD_CNT).resetRequest lvl src warm).get SYS.rstLvl = lvl % 2 ^ SYS.rstLvl.width ∧
    (((s.event c inst 0x00 0x0425 arg0 arg1).incSat SYS.RST_CNT.WD_CNT).resetRequest lvl src warm).get SYS.RST_CNT.WD_CNT =
      min (s.get SYS.RST_CNT.WD_CNT + 1) 255 := by
  have hev : Framed [RING.lost] [.events, .store] s (s.event c inst 0x00 0x0425 arg0 arg1) := (framed_refl s).event (by decide)
  have hup' : ((s.event c inst 0x00 0x0425 arg0 arg1).incSat SYS.RST_CNT.WD_CNT).get SYS.rstPhase = 1 := by
    rw [incSat, get_set_ne _ _ _ _ _ _ (by decide), hev.rows.get_distinct (by decide) (by decide), hup]
  have hstaged : staged lvl src = true := by rcases hlvl with rfl | rfl <;> simp [staged, hsrc]
  have hcount : min (s.get SYS.RST_CNT.WD_CNT + 1) 255 < 2 ^ SYS.RST_CNT.WD_CNT.width := by
    have h : 2 ^ SYS.RST_CNT.WD_CNT.width = 256 := rfl
    omega
  obtain ⟨hphase, hlevel, hsource, -, -⟩ := ((s.event c inst 0x00 0x0425 arg0 arg1).incSat SYS.RST_CNT.WD_CNT).stage1_reads lvl src warm
  have hkept : (((s.event c inst 0x00 0x0425 arg0 arg1).incSat SYS.RST_CNT.WD_CNT).resetRequest lvl src warm).get SYS.RST_CNT.WD_CNT =
      ((s.event c inst 0x00 0x0425 arg0 arg1).incSat SYS.RST_CNT.WD_CNT).get SYS.RST_CNT.WD_CNT :=
    (rowsKept_resetRequest_staged _ warm hstaged).get_distinct (by decide) (by decide)
  rw [hkept, resetRequest_staged hup' warm hlvl hsrc]
  refine ⟨hphase, hsource, hlevel, ?_⟩
  rw [incSat, get_set_self, hev.rows.get_distinct (by decide) (by decide)]
  exact Nat.mod_eq_of_lt hcount

end State

theorem exec_wdKick (core : Fin 2) (key : BitVec 16) (s : State) (hpd : s.pdOn 2 = true) : ∃ t, exec (.wdKick core key) s = .next t ∧
    (key = 0x5A5A → s.get SYS.wdSeq core = 0 → t.get SYS.wdSeq core = 1) ∧
    (key = 0xA5A5 → s.get SYS.wdSeq core = 1 → t.get SYS.wdSeq core = 0) ∧
    (key ≠ 0x5A5A → key ≠ 0xA5A5 → s.is SEC.DBG_STAT.HALT = false → s.get SYS.rstPhase = 1 → s.get SYS.RST_MAP.WD_HC = 1 →
      t.get SYS.rstPhase = 2 ∧ t.get SYS.rstSrc = 4) := by
  have hexec : exec (.wdKick core key) s = .next (if key = 0x5A5A && !s.is SYS.wdSeq core then s.set SYS.wdSeq 1 core
      else if key = 0xA5A5 && s.is SYS.wdSeq core then (s.set SYS.wdSeq 0 core).set SYS.wdT s.now core
      else if s.is SEC.DBG_STAT.HALT then s else s.hcFire core) := by
    show execWdKick core key s = _
    simp only [execWdKick, hpd]
    rfl
  refine ⟨_, hexec, fun hk hseq => ?_, fun hk hseq => ?_, fun hk1 hk2 hhalt hup hmap => ?_⟩
  · rw [if_pos (by simp [hk, State.is, hseq])]
    exact State.get_set_self ..
  · rw [if_neg (by simp [hk]), if_pos (by simp [hk, State.is, hseq]), State.get_set_distinct _ core.isLt core.isLt (by decide)]
    exact State.get_set_self ..
  · rw [decide_eq_false hk1, decide_eq_false hk2, Bool.false_and, Bool.false_and, if_neg nofun, if_neg nofun, hhalt, if_neg nofun, State.hcFire]
    obtain ⟨hphase, hsrc, -⟩ := State.stage1_incSat_event .warning core 0 core (s.get SYS.RST_MAP.WD_HC) 4 (s.is SYS.RST_CTL.WD_WARM) hup
      (.inl hmap) (by decide)
    exact ⟨hphase, hsrc⟩

theorem exec_hcWatchdog (core : Fin 2) (s : State) (h : s.is SEC.DBG_STAT.HALT = false ∧ s.is SYS.fwRun = true ∧ s.get SYS.rstPhase = 1 ∧
      s.get SYS.RST_MAP.WD_HC ∈ [1, 2] ∧ s.get SYS.wdT core + 400000 * s.get SYS.WD_CFG.WD_TMO ≤ s.now) :
    ∃ t, exec (.hcWatchdog core) s = .next t ∧ t.get SYS.rstPhase = 2 ∧ t.get SYS.rstSrc = 4 ∧ t.get SYS.rstLvl = s.get SYS.RST_MAP.WD_HC ∧
      t.get SYS.RST_CNT.WD_CNT = min (s.get SYS.RST_CNT.WD_CNT + 1) 255 := by
  obtain ⟨hhalt, hrun, hup, hmap, hdue⟩ := h
  have hexec : exec (.hcWatchdog core) s = .next (s.hcFire core) := by
    show execHcWatchdog core s = _
    simp only [execHcWatchdog, hhalt, hrun, Nat.not_lt.2 hdue, Bool.not_true, Bool.or_false, decide_false, Bool.false_eq_true, if_false]
  obtain ⟨hphase, hsrc, hlvl, hcnt⟩ := State.stage1_incSat_event .warning core 0 core (s.get SYS.RST_MAP.WD_HC) 4 (s.is SYS.RST_CTL.WD_WARM) hup
    (by simpa using hmap) (by decide)
  exact ⟨_, hexec, hphase, hsrc, hlvl.trans (Nat.mod_eq_of_lt (State.get_lt ..)), hcnt⟩

theorem exec_engineWatchdog (engine : Fin 7) (stopped : Bool) (s : State)
    (h : (if stopped then s.is CE.stop engine && decide (s.get CE.stopT engine + 400000 ≤ s.now)
        else decide (s.get SYS.WD_CFG.WD_ENG ≤ s.get CE.ovRun engine)) = true ∧ s.is SEC.DBG_STAT.HALT = false ∧
      (engine.val < 4 → s.is CE.RP_STAT.RP_FAULT (2 * (engine / 2)) = false) ∧ s.get SYS.rstPhase = 1) :
    ∃ t, exec (.engineWatchdog engine stopped) s = .next t ∧
      (s.get SYS.RST_MAP.WD_ENG ∈ [1, 2] → t.get SYS.rstPhase = 2 ∧ t.get SYS.rstSrc = 5) ∧
      (s.get SYS.RST_MAP.WD_ENG = 3 → engine.val < 4 → s.is SYS.blkOn = false → t.is SYS.blkOn = true ∧ t.get SYS.RST_STAT.BLK_SRC = 0x15) := by
  obtain ⟨hdue, hhalt, hpair, hup⟩ := h
  have hfault : (decide (engine.val < 4) && s.is CE.RP_STAT.RP_FAULT (2 * (engine / 2))) = false := by
    by_cases h4 : engine.val < 4
    · simp [hpair h4]
    · simp [h4]
  generalize hu : (s.event .warning engine 0x00 0x0425 1 ((State.engBlock engine).1 * 256 + (State.engBlock engine).2)).incSat
    SYS.RST_CNT.WD_CNT = u
  have hframe : State.Framed [RING.lost, SYS.RST_CNT.WD_CNT] [.events, .store] s u :=
    hu ▸ State.Framed.set ((State.framed_refl s).event (by decide)) (by decide)
  have hmap : u.get SYS.RST_MAP.WD_ENG = s.get SYS.RST_MAP.WD_ENG := hframe.rows.get_distinct (by decide) (by decide)
  have hexec : exec (.engineWatchdog engine stopped) s = .next (if s.get SYS.RST_MAP.WD_ENG = 3 then
      u.on (u.blkCheck (State.engBlock engine).1 (State.engBlock engine).2 == .ok)
        (·.blkBegin (State.engBlock engine).1 (State.engBlock engine).2 5)
      else u.resetRequest (s.get SYS.RST_MAP.WD_ENG) 5 false) := by
    show execEngineWatchdog engine stopped s = _
    rw [← hmap]
    simp only [execEngineWatchdog, hdue, hhalt, hfault, hu]
    rfl
  refine ⟨_, hexec, fun hlvl => ?_, fun h3 h4 hoff => ?_⟩
  · have hlvl' : s.get SYS.RST_MAP.WD_ENG = 1 ∨ s.get SYS.RST_MAP.WD_ENG = 2 := by simpa using hlvl
    rw [if_neg (by omega), ← hu]
    obtain ⟨hphase, hsrc, -⟩ := State.stage1_incSat_event .warning engine 1 ((State.engBlock engine).1 * 256 + (State.engBlock engine).2)
      (s.get SYS.RST_MAP.WD_ENG) 5 false hup hlvl' (by decide)
    exact ⟨hphase, hsrc⟩
  · have hblock : State.engBlock engine = (0x15, engine.val) := if_pos h4
    have hcheck : u.blkCheck 0x15 engine = .ok := by
      have hoff' : u.is SYS.blkOn = false := (hframe.rows.is_distinct (by decide) (by decide)).trans hoff
      have hup' : u.get SYS.rstPhase = 1 := (hframe.rows.get_distinct (by decide) (by decide)).trans hup
      have hinst : ¬blkInstances 0x15 ≤ engine.val := Nat.not_le.2 h4
      simp [State.blkCheck, hoff', hup', hinst]
    have hoff' : u.is SYS.blkOn = false := (hframe.rows.is_distinct (by decide) (by decide)).trans hoff
    obtain ⟨hon, hsource, -⟩ := State.blkBegin_reads 0x15 engine 5 hoff' nofun
    rw [if_pos h3, hblock, hcheck]
    exact ⟨hon, hsource⟩

theorem exec_blRst (bind : Option (Fin 8)) (s : State) (h : s.get SYS.rstPhase = 1 ∧ s.get SYS.RST_MAP.BELAY ∈ [1, 2]) :
    ∃ t, exec (.blRst bind) s = .next t ∧
      (bind = none → s.is BL.STATUS.CI_LOST = true → s.get BL.ciT + 400000 * s.get SYS.RST_CTL.BL_RST_MS ≤ s.now →
        t.get SYS.rstPhase = 2 ∧ t.get SYS.rstSrc = 6) ∧
      (∀ ch ∈ bind, 3 ≤ s.get ACT.bindRun ch → t.get SYS.rstPhase = 2 ∧ t.get SYS.rstSrc = 6) := by
  obtain ⟨hup, hmap⟩ := h
  have hreset : (s.resetRequest (s.get SYS.RST_MAP.BELAY) 6 false).get SYS.rstPhase = 2 ∧
      (s.resetRequest (s.get SYS.RST_MAP.BELAY) 6 false).get SYS.rstSrc = 6 := by
    rw [State.resetRequest_staged hup false (by simpa using hmap) (by decide)]
    obtain ⟨hphase, -, hsrc, -⟩ := s.stage1_reads (s.get SYS.RST_MAP.BELAY) 6 false
    exact ⟨hphase, hsrc⟩
  refine ⟨_, rfl, fun hb hlost hdue => ?_, fun ch hch hrun => ?_⟩
  · subst hb
    rw [if_pos (by simp [hlost, hdue])]
    exact hreset
  · cases hch
    rw [if_pos (by simpa using hrun)]
    exact hreset

/-- Settles O43, command by command: what a reset leaves is read through `takeHold`'s frame, what the stage before it shows through `stage1`'s. -/
theorem resetSourcesStagesAndBlockResets : Obligations.ResetSourcesStagesAndBlockResets := by
  unfold Obligations.ResetSourcesStagesAndBlockResets
  exact ⟨exec_powerOn, exec_rstnAssert, exec_rstnRelease, exec_rstCmd, exec_ringReset, exec_netReset, exec_preResetEnd, exec_blkReset,
    exec_blkTimeout, exec_wdKick, exec_hcWatchdog, exec_engineWatchdog, exec_blRst⟩

end Sys2Proof.Machine
end

/-!
Role and debug sessions, boot and the debug port (17): O39.
-/
section
namespace Sys2Proof.Machine
set_option Elab.async false

namespace State

/-! ## The end of a session (R160, R161, R386, R400) -/

theorem framed_frzEnd (s : State) {pu : Nat} (hp : pu < 5) : Framed Touch.frzEnd [] s (s.frzEnd pu) := by
  refine (framed_refl s).on fun _ => ?_
  have hoff : Framed Touch.frzEnd [] s (s.bridgeOff pu) :=
    (framed_refl s).forN fun k u hk => ((framed_refl u).setIn hp ⟨by decide, hk⟩).setIn hp ⟨by decide, hk⟩
  exact hoff.setIn hp (by decide) |>.setIn hp (by decide) |>.setIn hp (by decide)

theorem framed_engRelease (s : State) : Framed Touch.engRelease [] s s.engRelease := by
  have hengines (u : State) : Framed Touch.engRelease [] u (u.forN 7 fun e t =>
      (((t.set CE.STATUS.HALTED 0 e).set CE.stepOnce 0 e).set CE.ovRun 0 e).set CE.stopT t.now e) :=
    (framed_refl u).forN fun e v he => (framed_refl v).setIn he (by decide) |>.setIn he (by decide) |>.setIn he (by decide) |>.setIn he (by decide)
  have hcores (u : State) : Framed Touch.engRelease [] u (u.forN 2 fun c t => t.set SYS.wdT t.now c) :=
    (framed_refl u).forN fun c v hc => (framed_refl v).setIn hc (by decide)
  have hunits (u : State) : Framed Touch.engRelease [] u (u.forN 5 fun k t => t.on (t.is PU.STATUS.HALTED k) fun t =>
      (((t.set PU.STATUS.HALTED 0 k).set PU.STATUS.FROZEN 0 k).tripIn k 16 false).cntResume k) := by
    refine (framed_refl u).forN fun k v hk => (framed_refl v).on fun _ => ?_
    have hunit : Framed Touch.engRelease [] v (((v.set PU.STATUS.HALTED 0 k).set PU.STATUS.FROZEN 0 k).tripIn k 16 false) :=
      (framed_refl v).setIn hk (by decide) |>.setIn hk (by decide) |>.tripIn hk (by decide)
    exact hunit.on fun _ => (framed_refl _).setIn hk (by decide)
  unfold engRelease
  refine .ite (fun _ => framed_refl s) fun _ => ?_
  have h1 := ((hengines s).set (r := SEC.DBG_STAT.HALT) (v := 0) (i := 0) (j := 0) (by decide)).trans (hcores _)
  refine (h1.trans (hunits _)).on fun _ => ?_
  exact (((framed_refl _).set (by decide)).andThen (framed_lines _) (by decide)).andThen (framed_ssout _) (by decide)

/-- A debug session that is closed is closed, and writes only the rows of its list. -/
theorem framed_dbgClose (s : State) (cause : Nat) : Framed Touch.dbgClose [.events, .store] s (s.dbgClose cause) := by
  unfold dbgClose secEvent
  refine .ite (fun _ => framed_refl s) fun _ => ?_
  have hclosed : Framed Touch.dbgClose [.events, .store] s
      ((s.event .info 0 0x1F 0x0304 (s.get SEC.DBG_STAT.LEVEL) cause).forN 5 fun pu t => t.frzEnd pu) :=
    ((framed_refl s).event (by decide)).forN fun pu u hp => (framed_frzEnd u hp).mono (by decide)
  exact (hclosed.set (by decide) |>.set (by decide) |>.set (by decide)).andThen (framed_engRelease _) (by decide)

theorem is_open_dbgClose (s : State) (cause : Nat) : (s.dbgClose cause).is SEC.DBG_STAT.OPEN = false := by
  unfold dbgClose
  cases hopen : s.is SEC.DBG_STAT.OPEN
  · exact hopen
  · rw [if_neg nofun, (framed_engRelease _).rows.is_distinct (by decide) (by decide), is, get_set_ne _ _ _ _ _ _ (by decide),
      get_set_ne _ _ _ _ _ _ (by decide), ← is]
    exact is_set_zero ..

theorem is_closeHostRole (s : State) : s.closeHostRole.is SEC.hostRole = false ∧ s.closeHostRole.is SEC.ROLE.OPEN = false ∧
    s.closeHostRole.get SEC.ROLE.ROLE = 5 := by
  unfold closeHostRole is
  simp (disch := decide) only [get_set_ne, get_set_self]
  decide

/-! ## A session is opened (R384, R385) -/

/-- What bars a role is judged on these rows. -/
def authRows : List Row := [SEC.LC_STAT.STATE, SEC.DBG_STAT.OPEN, SEC.FUSE.DBG_PROD_DIS, SEC.FW_STAT.BOOT_FAIL, SEC.KEY_STAT.ROLE_KEYS]

theorem authBar_congr {s t : State} (h : ∀ r ∈ authRows, t.get r = s.get r) (debug : Bool) (role level : Nat) :
    t.authBar debug role level = s.authBar debug role level := by
  have hallowed : t.dbgAllowed role level = s.dbgAllowed role level := by
    simp only [dbgAllowed, is, h SEC.LC_STAT.STATE (by decide), h SEC.FUSE.DBG_PROD_DIS (by decide)]
  simp only [authBar, hallowed, roleKeyOk, is, getBit, h SEC.LC_STAT.STATE (by decide), h SEC.DBG_STAT.OPEN (by decide),
    h SEC.FW_STAT.BOOT_FAIL (by decide), h SEC.KEY_STAT.ROLE_KEYS (by decide)]
  rfl

theorem authBar_lt {s : State} {debug : Bool} {role level e : Nat} (h : e ∈ s.authBar debug role level) : e < 8 := by
  unfold authBar at h
  dsimp only at h
  split_ifs at h <;> cases h <;> decide

/-- The rows that the verdict of a VERIFY writes. -/
theorem framed_authEvent (s : State) (debug : Bool) (role result : Nat) :
    Framed [SEC.AUTH_STAT.RESULT, RING.lost] [.events, .store] s (s.authEvent debug role result) := by
  unfold authEvent secEvent
  exact ((framed_refl s).set (by decide)).event (by decide)

theorem result_authEvent (s : State) (debug : Bool) (role : Nat) {result : Nat} (h : result < 8) :
    (s.authEvent debug role result).get SEC.AUTH_STAT.RESULT = result := by
  unfold authEvent secEvent
  have hev (u : State) (c : EvClass) (a b : Nat) : Framed [RING.lost] [.events, .store] u (u.event c 0 0x1F 0x0302 a b) :=
    (framed_refl u).event (by decide)
  rw [(hev _ _ _ _).rows.get_distinct (by decide) (by decide), get_set_self]
  exact Nat.mod_eq_of_lt (Nat.lt_of_lt_of_le h (by decide))

/-- A failure is counted, and may start a lockout. -/
theorem authFail_reads (s : State) (debug : Bool) (role : Nat) {result : Nat} (h : result < 8) :
    Framed [SEC.AUTH_STAT.FAILS, SEC.AUTH_STAT.LOCK_LEFT, SEC.lockRest, SEC.lockT, SEC.AUTH_STAT.RESULT, RING.lost] [.events, .store] s
      (s.authFail debug role result) ∧
    (s.authFail debug role result).get SEC.AUTH_STAT.RESULT = result ∧
    (s.authFail debug role result).get SEC.AUTH_STAT.FAILS = min (s.get SEC.AUTH_STAT.FAILS + 1) (2 ^ SEC.AUTH_STAT.FAILS.width - 1) := by
  unfold authFail
  extract_lets s1
  have hlock (n : Nat) : Framed [SEC.AUTH_STAT.LOCK_LEFT, SEC.lockRest, SEC.lockT] [] s1 (s1.lockStart n) :=
    (framed_refl s1).set (by decide) |>.set (by decide) |>.set (by decide)
  have hs2 : Framed [SEC.AUTH_STAT.LOCK_LEFT, SEC.lockRest, SEC.lockT] [] s1
      (s1.on (decide (3 ≤ s1.get SEC.AUTH_STAT.FAILS)) fun t => t.lockStart (t.get SEC.AUTH_STAT.FAILS)) :=
    (framed_refl s1).on fun _ => hlock _
  generalize s1.on (decide (3 ≤ s1.get SEC.AUTH_STAT.FAILS)) (fun t => t.lockStart (t.get SEC.AUTH_STAT.FAILS)) = s2 at hs2
  have hfails : s1.get SEC.AUTH_STAT.FAILS = min (s.get SEC.AUTH_STAT.FAILS + 1) (2 ^ SEC.AUTH_STAT.FAILS.width - 1) :=
    get_incSat_self ..
  refine ⟨?_, result_authEvent _ _ _ h, ?_⟩
  · have h1 : Framed [SEC.AUTH_STAT.FAILS, SEC.AUTH_STAT.LOCK_LEFT, SEC.lockRest, SEC.lockT, SEC.AUTH_STAT.RESULT, RING.lost] [.events, .store]
        s s1 := (framed_refl s).set (by decide)
    exact (h1.andThen hs2 (by decide)).andThen (framed_authEvent _ _ _ _) (by decide)
  · rw [(framed_authEvent _ _ _ _).rows.get_distinct (by decide) (by decide), hs2.rows.get_distinct (by decide) (by decide), hfails]

/-- The rows that a session writes as it opens. -/
def authOpenRows : List Row := [SEC.AUTH_STAT.FAILS, SEC.AUTH_STAT.RESULT, RING.lost, SEC.DBG_STAT.OPEN, SEC.DBG_STAT.ROLE, SEC.DBG_STAT.LEVEL,
  SEC.hostRole, SEC.ROLE.OPEN, SEC.ROLE.ROLE, SEC.ROLE.IDLE_LEFT, SEC.idleT]

theorem framed_authOpen (s : State) (debug : Bool) (role level : Nat) : Framed authOpenRows [.events, .store] s (s.authOpen debug role level) := by
  have hev (u : State) : Framed authOpenRows [.events, .store] s ((s.set SEC.AUTH_STAT.FAILS 0).authEvent debug role 0) :=
    ((framed_refl s).set (by decide)).andThen (framed_authEvent _ _ _ _) (by decide)
  unfold authOpen secEvent
  refine .ite (fun _ => ?_) fun _ => ?_
  · exact (((hev s).set (by decide) |>.set (by decide) |>.set (by decide))).event (by decide)
  · exact (hev s).set (by decide) |>.set (by decide) |>.set (by decide) |>.set (by decide) |>.set (by decide)

/-- A role session that opens: its role stands, and the count of failures is 0. -/
theorem authOpen_reads (s : State) {role : Nat} (level : Nat) (h : role < 8) : (s.authOpen false role level).get SEC.AUTH_STAT.RESULT = 0 ∧
    (s.authOpen false role level).get SEC.hostRole = role ∧ (s.authOpen false role level).get SEC.AUTH_STAT.FAILS = 0 := by
  unfold authOpen
  rw [if_neg nofun]
  have hrole : (role % 2 ^ SEC.hostRole.width) = role := Nat.mod_eq_of_lt h
  refine ⟨?_, ?_, ?_⟩
  · simp (disch := decide) only [get_set_ne]
    exact result_authEvent _ _ _ (by decide)
  · simp (disch := decide) only [get_set_ne, get_set_self]
    exact hrole
  · simp (disch := decide) only [get_set_ne]
    rw [(framed_authEvent _ _ _ _).rows.get_distinct (by decide) (by decide), get_set_self]
    rfl

/-! ## Boot (R389) -/

theorem framed_bootEvents (s : State) : Framed Touch.bootEvents [.events, .store] s s.bootEvents := by
  have hev (u : State) {r : Row} (c : EvClass) (code a b : Nat) (h : r ∈ Touch.bootEvents ∧ 0 < r.c1 ∧ 0 < r.c2) :
      Framed Touch.bootEvents [.events, .store] u ((u.event c 0 0x00 code a b).set r 0) :=
    ((framed_refl u).event (by decide)).set h
  unfold bootEvents
  extract_lets s1 s2 s3
  have h1 : Framed Touch.bootEvents [.events, .store] s s1 := (framed_refl s).on fun _ => ((framed_refl s).set (by decide)).event (by decide)
  have h2 : Framed Touch.bootEvents [.events, .store] s s2 := h1.on fun _ => hev _ _ _ _ _ (by decide)
  have h3 : Framed Touch.bootEvents [.events, .store] s s3 := h2.on fun _ => hev _ _ _ _ _ (by decide)
  exact h3.on fun _ => hev _ _ _ _ _ (by decide)

/-- The rows that an image's start writes beside its own. -/
def bootRestRows : List Row := [SYS.wdT, SEC.FW_STAT.FW_SVN, SEC.CAL_STAT.CAL_SVN] ++ Touch.bootEvents

theorem framed_bootSlot (s : State) (slot : Nat) (first : Bool) : Framed bootRestRows [.events, .store]
    ((((s.set SEC.fwSlot slot).set SEC.FW_STAT.SLOT slot).set SEC.FW_STAT.IMG_SVN (s.get SEC.slotSvn slot)).set SYS.fwRun 1)
    (s.bootSlot slot first) := by
  unfold bootSlot secEvent
  extract_lets svn s1 s2 s3
  have h1 : Framed bootRestRows [.events, .store]
      ((((s.set SEC.fwSlot slot).set SEC.FW_STAT.SLOT slot).set SEC.FW_STAT.IMG_SVN (s.get SEC.slotSvn slot)).set SYS.fwRun 1) s1 :=
    (framed_refl _).forN fun c u hc => (framed_refl u).setIn hc (by decide)
  have h2 : Framed bootRestRows [.events, .store] s1 s2 := (framed_refl s1).on fun _ => (framed_refl s1).set (by decide)
  have h3 : Framed bootRestRows [.events, .store] s2 s3 := (framed_refl s2).on fun _ => (framed_refl s2).set (by decide)
  exact (((h1.trans h2).trans h3).event (by decide)).andThen (framed_bootEvents _) (by decide)

/-- What an image that runs shows. -/
theorem bootSlot_reads (s : State) {slot : Nat} (first : Bool) (h : slot < 2) : (s.bootSlot slot first).is SYS.fwRun = true ∧
    (s.bootSlot slot first).get SEC.FW_STAT.SLOT = slot ∧ (s.bootSlot slot first).get SEC.FW_STAT.IMG_SVN = s.get SEC.slotSvn slot ∧
    (s.bootSlot slot first).is SEC.fwPend = s.is SEC.fwPend := by
  have hrest := (s.framed_bootSlot slot first).rows
  have hsvn : s.get SEC.slotSvn slot % 2 ^ SEC.FW_STAT.IMG_SVN.width = s.get SEC.slotSvn slot := Nat.mod_eq_of_lt (get_lt s SEC.slotSvn slot 0)
  rw [is, is, hrest.get_distinct (by decide) (by decide), hrest.get_distinct (by decide) (by decide), hrest.get_distinct (by decide) (by decide),
    hrest.get_distinct (by decide) (by decide)]
  simp (disch := decide) only [get_set_ne, get_set_self]
  exact ⟨by decide, Nat.mod_eq_of_lt h, hsvn, rfl⟩

theorem framed_bootReject (s : State) (slot reason : Nat) : Framed [RING.lost] [.events, .store] s (s.bootReject slot reason) :=
  (framed_refl s).on fun _ => by
    unfold secEvent
    exact (framed_refl s).event (by decide)

/-! ## The table-port lock of a debug access (R395) -/

/-- A table-port lock that begins: it stands, with the zeroing. -/
theorem tblLock_reads (s : State) (arg0 engine : Nat) : Framed Touch.tblLock [.events, .store] s (s.tblLock arg0 engine) ∧
    (s.tblLock arg0 engine).is SEC.CAL_STAT.TBL_LOCK = true ∧ (s.tblLock arg0 engine).is SEC.lockZero = true := by
  unfold tblLock secEvent
  extract_lets s1
  have hzero : Framed Touch.calZero [] (((s.set SEC.CAL_STAT.TBL_LOCK 1).set SEC.CAL_STAT.ZEROING 1).set SEC.lockZero 1) s1 := framed_calZero _
  have hrest : Framed [CE.ld, CE.ldM, RING.lost] [.events, .store] s1
      ((s1.dropCells [CE.ld, CE.ldM] fun _ i => i < 6).event .warning 0 0x1F 0x0308 arg0 engine) :=
    ((framed_refl s1).dropCells (by decide)).event (by decide)
  refine ⟨?_, ?_, ?_⟩
  · have hset : Framed Touch.tblLock [.events, .store] s (((s.set SEC.CAL_STAT.TBL_LOCK 1).set SEC.CAL_STAT.ZEROING 1).set SEC.lockZero 1) :=
      (framed_refl s).set (by decide) |>.set (by decide) |>.set (by decide)
    exact (hset.andThen hzero (by decide)).andThen hrest (by decide)
  · rw [hrest.rows.is_distinct (by decide) (by decide), hzero.rows.is_distinct (by decide) (by decide), is, get_set_ne _ _ _ _ _ _ (by decide),
      get_set_ne _ _ _ _ _ _ (by decide), ← is]
    exact is_set_one _ _ _ _ (by decide)
  · rw [hrest.rows.is_distinct (by decide) (by decide), hzero.rows.is_distinct (by decide) (by decide)]
    exact is_set_one _ _ _ _ (by decide)

/-- The instruction that a boundary scan leaves in force (R398). -/
theorem tapIr_tapScan (s : State) {ir : Nat} (h : ir < 8) :
    (s.tapScan ir).get SEC.tapIr = if (s.tapScan ir).is SEC.DBG_STAT.VDC_OK && !s.is SYS.lowState then ir else 1 := by
  have hlow : s.debugVdc.is SYS.lowState = s.is SYS.lowState := (framed_debugVdc s).rows.is_distinct (by decide) (by decide)
  unfold tapScan
  dsimp only
  have hvdc (v : Nat) : (s.debugVdc.set SEC.tapIr v).is SEC.DBG_STAT.VDC_OK = s.debugVdc.is SEC.DBG_STAT.VDC_OK := by
    rw [is, get_set_ne _ _ _ _ _ _ (by decide), ← is]
  rw [get_set_self, hvdc, hlow]
  split
  · exact Nat.mod_eq_of_lt h
  · rfl

end State

/-! ## The commands -/

theorem exec_authChallenge (debug : Bool) (role : BitVec 3) (level : BitVec 2) (s : State) (hpd : s.pdOn 2 = true) :
    ∃ t, exec (.authChallenge debug role level) s = .next t ∧
      (role.toNat < 1 ∨ 4 < role.toNat → t.get SEC.AUTH_STAT.RESULT = 7 ∧ t.is SEC.chalOn (ofBool debug) = s.is SEC.chalOn (ofBool debug)) ∧
      (debug = false → 1 ≤ role.toNat → role.toNat ≤ 4 → s.authBar false role.toNat 0 = none →
        t.get SEC.AUTH_STAT.RESULT = 0 ∧ t.is SEC.chalOn 0 = true ∧ t.get SEC.chalRole 0 = role.toNat) ∧
      (∀ r ∈ s.authBar debug role.toNat (if debug then level.toNat else 0), debug = false → 1 ≤ role.toNat → role.toNat ≤ 4 →
        t.get SEC.AUTH_STAT.RESULT = r) := by
  generalize hu : ((s.set SEC.AUTH_CMD.ROLE role.toNat).set SEC.AUTH_CMD.LEVEL level.toNat).set SEC.AUTH_CMD.OP 1 = u
  have hframe : State.Framed [SEC.AUTH_CMD.ROLE, SEC.AUTH_CMD.LEVEL, SEC.AUTH_CMD.OP] [] s u :=
    hu ▸ ((State.framed_refl s).set (by decide) |>.set (by decide) |>.set (by decide))
  have hbar (l : Nat) : u.authBar debug role.toNat l = s.authBar debug role.toNat l := by
    refine State.authBar_congr (fun r hr => ?_) _ _ _
    have hd : (decide (0 < r.c1) && decide (0 < r.c2) && [SEC.AUTH_CMD.ROLE, SEC.AUTH_CMD.LEVEL, SEC.AUTH_CMD.OP].all r.distinct) = true := by
      revert r
      decide
    simp only [Bool.and_eq_true, decide_eq_true_eq] at hd
    exact hframe.rows.get_distinct hd.1.1 ⟨hd.2, hd.1.2⟩
  refine ⟨_, rfl, fun hrange => ?_, fun hd h1 h4 hnone => ?_, fun r hr hd h1 h4 => ?_⟩ <;>
    rw [hpd, hu, if_neg nofun]
  · have hout : (decide (role.toNat < 1) || decide (4 < role.toNat) || debug && (if debug then level.toNat else 0) == 0) = true := by
      rcases hrange with h | h <;> simp [h]
    have hp : ofBool debug < 2 := by cases debug <;> decide
    rw [if_pos hout, State.get_set_self]
    refine ⟨rfl, ?_⟩
    rw [State.is, State.get_set_distinct _ (by decide) hp (by decide), ← State.is, hframe.rows.is_distinct hp (by decide)]
  all_goals
    subst hd
    simp only [Bool.false_eq_true, if_false, Bool.false_and]
    have hin : ¬(decide (role.toNat < 1) || decide (4 < role.toNat) || false) = true := by
      simp
      omega
    rw [if_neg hin, hbar]
  · have hp : ofBool false = 0 := rfl
    rw [hnone, hp]
    simp (disch := decide) only [State.is, State.get_set_ne, State.get_set_self]
    exact ⟨rfl, rfl, Nat.mod_eq_of_lt role.isLt⟩
  · have hbars : s.authBar false role.toNat 0 = some r := hr
    rw [hbars]
    exact (State.get_set_self ..).trans (Nat.mod_eq_of_lt (Nat.lt_of_lt_of_le (State.authBar_lt hr) (by decide)))

theorem exec_authVerify (debug good : Bool) (s : State) (hlock : s.is SEC.AUTH_STAT.LOCK_LEFT = false) (hpd : s.pdOn 2 = true) :
    ∃ t, exec (.authVerify debug good) s = .next t ∧
      t.is SEC.chalOn (ofBool debug) = false ∧
      (s.is SEC.chalOn (ofBool debug) = false → t.get SEC.AUTH_STAT.RESULT = 5 ∧
        t.get SEC.AUTH_STAT.FAILS = min (s.get SEC.AUTH_STAT.FAILS + 1) (2 ^ SEC.AUTH_STAT.FAILS.width - 1)) ∧
      (debug = false → good = true → s.is SEC.chalOn 0 = true → s.now ≤ s.get SEC.chalT 0 + 24000000000 →
        s.authBar false (s.get SEC.chalRole 0) (s.get SEC.chalLvl 0) = none →
        t.get SEC.AUTH_STAT.RESULT = 0 ∧ t.get SEC.hostRole = s.get SEC.chalRole 0 ∧ t.get SEC.AUTH_STAT.FAILS = 0) ∧
      (debug = false → good = false → s.is SEC.chalOn 0 = true → s.now ≤ s.get SEC.chalT 0 + 24000000000 →
        s.authBar false (s.get SEC.chalRole 0) (s.get SEC.chalLvl 0) = none →
        t.get SEC.AUTH_STAT.RESULT = 1 ∧ t.get SEC.hostRole = s.get SEC.hostRole) := by
  have hp : ofBool debug < 2 := by cases debug <;> decide
  generalize hu : (s.set SEC.AUTH_CMD.OP 2).set SEC.chalOn 0 (ofBool debug) = u
  have hframe : State.Framed [SEC.AUTH_CMD.OP, SEC.chalOn] [] s u := hu ▸ ((State.framed_refl s).set (by decide) |>.setIn hp (by decide))
  have hoff : u.is SEC.chalOn (ofBool debug) = false := hu ▸ State.is_set_zero ..
  have hlock' : u.is SEC.AUTH_STAT.LOCK_LEFT = false := (hframe.rows.is_distinct (by decide) (by decide)).trans hlock
  have hbar (r l : Nat) : u.authBar debug r l = s.authBar debug r l := by
    refine State.authBar_congr (fun r hr => ?_) _ _ _
    have hd : (decide (0 < r.c1) && decide (0 < r.c2) && [SEC.AUTH_CMD.OP, SEC.chalOn].all r.distinct) = true := by
      revert r
      decide
    simp only [Bool.and_eq_true, decide_eq_true_eq] at hd
    exact hframe.rows.get_distinct hd.1.1 ⟨hd.2, hd.1.2⟩
  have hexec : exec (.authVerify debug good) s = .next (
      if s.is SEC.chalOn (ofBool debug) && decide (s.now ≤ s.get SEC.chalT (ofBool debug) + 24000000000) then
        match s.authBar debug (s.get SEC.chalRole (ofBool debug)) (s.get SEC.chalLvl (ofBool debug)) with
        | some e => u.authEvent debug (s.get SEC.chalRole (ofBool debug)) e
        | none => if good then u.authOpen debug (s.get SEC.chalRole (ofBool debug)) (s.get SEC.chalLvl (ofBool debug))
          else u.authFail debug (s.get SEC.chalRole (ofBool debug)) 1
      else u.authFail debug (s.get SEC.chalRole (ofBool debug)) 5) := by
    show execAuthVerify debug good s = _
    simp only [execAuthVerify, hpd, hu, hlock', hbar]
    cases s.is SEC.chalOn (ofBool debug) && decide (s.now ≤ s.get SEC.chalT (ofBool debug) + 24000000000) <;> rfl
  obtain ⟨hfail1, hres1, hcnt1⟩ := u.authFail_reads debug (s.get SEC.chalRole (ofBool debug)) (result := 1) (by decide)
  obtain ⟨hfail5, hres5, hcnt5⟩ := u.authFail_reads debug (s.get SEC.chalRole (ofBool debug)) (result := 5) (by decide)
  refine ⟨_, hexec, ?_, fun hchal => ?_, fun hd hg hchal hnow hnone => ?_, fun hd hg hchal hnow hnone => ?_⟩
  · split
    · split
      · rw [(u.framed_authEvent _ _ _).rows.is_distinct hp (by decide), hoff]
      · split
        · rw [(u.framed_authOpen _ _ _).rows.is_distinct hp (by decide), hoff]
        · rw [hfail1.rows.is_distinct hp (by decide), hoff]
    · rw [hfail5.rows.is_distinct hp (by decide), hoff]
  · rw [hchal, Bool.false_and, if_neg nofun, hcnt5, hframe.rows.get_distinct (by decide) (by decide)]
    exact ⟨hres5, rfl⟩
  all_goals
    subst hd hg
    have hzero : ofBool false = 0 := rfl
    simp only [hzero, hchal, hnow, hnone, decide_true, Bool.and_self, if_true]
  · obtain ⟨hres, hrole, hcnt⟩ := u.authOpen_reads (s.get SEC.chalLvl 0) (role := s.get SEC.chalRole 0) (State.get_lt ..)
    exact ⟨hres, hrole, hcnt⟩
  · rw [hzero] at hfail1 hres1
    rw [if_neg nofun]
    refine ⟨hres1, ?_⟩
    rw [hfail1.rows.get_distinct (by decide) (by decide), hframe.rows.get_distinct (by decide) (by decide)]

theorem exec_authClose (debug : Bool) (s : State) (hpd : s.pdOn 2 = true) : ∃ t, exec (.authClose debug) s = .next t ∧
    (debug = false → t.is SEC.hostRole = false ∧ t.get SEC.ROLE.ROLE = 5) ∧ (debug = true → t.is SEC.DBG_STAT.OPEN = false) := by
  refine ⟨_, rfl, fun hd => ?_, fun hd => ?_⟩ <;> subst hd <;> rw [hpd, if_neg nofun]
  · obtain ⟨hrole, -, hnum⟩ := ((s.set SEC.AUTH_CMD.OP 3).set SEC.AUTH_STAT.RESULT 0).is_closeHostRole
    exact ⟨hrole, hnum⟩
  · exact State.is_open_dbgClose _ 0

theorem exec_roleTmo (s : State) : ∃ t, exec .roleTmo s = .next t ∧
    (s.is SEC.ROLE.OPEN = true → s.get SEC.idleT + 400000000 * s.get SEC.ROLE_CFG.ROLE_TMO ≤ s.now →
      t.is SEC.hostRole = false ∧ t.is SEC.ROLE.OPEN = false) ∧
    (s.is SEC.ROLE.OPEN = false ∨ s.now < s.get SEC.idleT + 400000000 * s.get SEC.ROLE_CFG.ROLE_TMO → t = s) := by
  refine ⟨_, rfl, fun hopen hend => ?_, fun h => ?_⟩
  · obtain ⟨hrole, hclosed, -⟩ := s.is_closeHostRole
    rw [hopen, decide_eq_true hend]
    exact ⟨hrole, hclosed⟩
  · rcases h with h | h
    · rw [h]
      rfl
    · rw [decide_eq_false (Nat.not_le.2 h), Bool.and_false]
      rfl

theorem exec_authLockoutEnd (s : State) : ∃ t, exec .authLockoutEnd s = .next t ∧
    (s.pdOn 2 = true → s.lockLeft = 0 → t.get SEC.AUTH_STAT.LOCK_LEFT = 0) ∧ (s.pdOn 2 = false ∨ s.lockLeft ≠ 0 → t = s) := by
  refine ⟨_, rfl, fun hpd hleft => ?_, fun h => ?_⟩
  · have hon : s.getBit SYS.PWR_STAT.PD_ON 2 = true := hpd
    rw [hon, hleft]
    exact State.get_set_self ..
  · have hoff : (s.getBit SYS.PWR_STAT.PD_ON 2 && s.lockLeft == 0) = false := by
      rcases h with h | h
      · have hpd : s.getBit SYS.PWR_STAT.PD_ON 2 = false := h
        rw [hpd, Bool.false_and]
      · rw [beq_eq_false_iff_ne.2 h, Bool.and_false]
    rw [hoff]
    rfl

theorem exec_zeroingDone (s : State) (h : s.is SEC.lockZero = true) : ∃ t, exec .zeroingDone s = .next t ∧
    t.is SEC.lockZero = false ∧ t.is SEC.heldRead = false ∧ (s.is SEC.heldRead = true → t.out = s.out ++ [.readData 0]) := by
  generalize hu : (s.set SEC.lockZero 0).setb SEC.CAL_STAT.ZEROING (s.get ACT.jobStep == 3) = u
  have hzero : u.is SEC.lockZero = false := by
    rw [← hu, State.is, State.setb_eq, State.get_set_ne _ _ _ _ _ _ (by decide), ← State.is]
    exact State.is_set_zero ..
  have hout : u.out = s.out := hu ▸ rfl
  have hexec : exec .zeroingDone s = .next ((u.on (s.is SEC.heldRead) (·.send (.readData 0))).set SEC.heldRead 0) := by
    show execZeroingDone s = _
    simp only [execZeroingDone, h, hu]
    rfl
  refine ⟨_, hexec, ?_, State.is_set_zero .., fun hheld => ?_⟩
  · rw [State.is, State.get_set_ne _ _ _ _ _ _ (by decide), ← State.is]
    exact State.is_on hzero fun _ => hzero
  · rw [hheld, ← hout]
    rfl

theorem exec_bootRom (inForce pending : Fin 5) (s : State) (h : s.get SYS.rstPhase = 0 ∧ s.is SYS.fwRun = false ∧ s.is SYS.lowState = false ∧
      s.getBit SYS.stepped 2 = true ∧ s.getBit SYS.RST_STAT.PD_FAIL 1 = false) :
    ∃ t, exec (.bootRom inForce pending) s = .next t ∧
      (s.slotReason (s.get SEC.fwSlot) inForce = 0 → s.is SEC.fwPend = false → t.is SYS.fwRun = true ∧
        t.get SEC.FW_STAT.SLOT = s.get SEC.fwSlot ∧ t.get SEC.FW_STAT.IMG_SVN = s.get SEC.slotSvn (s.get SEC.fwSlot)) ∧
      (s.slotReason (s.get SEC.fwSlot) inForce ≠ 0 → s.is SEC.fwPend = false → t.is SEC.FW_STAT.BOOT_FAIL = true ∧ t.is SYS.fwRun = false) ∧
      (s.is SEC.fwPend = true → s.get SYS.rstLvl ≠ 2 → s.slotReason (1 - s.get SEC.fwSlot) pending = 0 → t.is SYS.fwRun = true ∧
        t.get SEC.FW_STAT.SLOT = 1 - s.get SEC.fwSlot ∧ t.is SEC.fwPend = false) := by
  obtain ⟨hphase, hrun, hlow, hstep, hpd⟩ := h
  have hslot : s.get SEC.fwSlot < 2 := State.get_lt ..
  refine ⟨_, rfl, ?_⟩
  rw [if_neg (by simp [hphase, hrun, hlow, hstep, hpd])]
  extract_lets k p rf rp s1 s2
  have h1 : State.Framed [RING.lost, SEC.FW_STAT.PEND] [.events, .store] s s2 := by
    have hreject : State.Framed [RING.lost, SEC.FW_STAT.PEND] [.events, .store] s s1 :=
      (State.Framed.mono (s.framed_bootReject k rf) (by decide)).on fun _ => (State.framed_bootReject _ (1 - k) rp).mono (by decide)
    exact hreject.set (by decide)
  clear_value s1 s2
  refine ⟨fun hgood hpend => ?_, fun hbad hpend => ?_, fun hpend hlvl hgood => ?_⟩
  · have hp : p = false := by simp [p, hpend]
    obtain ⟨hrun2, hslot2, hsvn2, -⟩ := s2.bootSlot_reads false hslot
    rw [hp, Bool.false_and, if_neg nofun, if_pos hgood]
    exact ⟨hrun2, hslot2, hsvn2.trans (h1.rows.get_distinct hslot (by decide))⟩
  · have hp : p = false := by simp [p, hpend]
    rw [hp, Bool.false_and, if_neg nofun, if_neg hbad, (State.framed_bootEvents _).rows.is_distinct (by decide) (by decide),
      (State.framed_bootEvents _).rows.is_distinct (by decide) (by decide)]
    refine ⟨State.is_set_one _ _ _ _ (by decide), ?_⟩
    rw [State.is, State.get_set_ne _ _ _ _ _ _ (by decide), ← State.is, h1.rows.is_distinct (by decide) (by decide), hrun]
  · have hp : (p && rp == 0) = true := by
      have hrp : rp = 0 := hgood
      simp [p, hpend, hlvl, hrp]
    obtain ⟨hrun2, hslot2, -, hpend2⟩ := (s2.set SEC.fwPend 0).bootSlot_reads (slot := 1 - k) true (by omega)
    rw [if_pos hp]
    exact ⟨hrun2, hslot2, hpend2.trans (State.is_set_zero ..)⟩

theorem exec_singleStep (engine : Option (Fin 7)) (s : State) : ∃ t, exec (.singleStep engine) s = .next t ∧
    (∀ k ∈ engine, s.is SEC.DBG_STAT.OPEN = true → 2 ≤ s.get SEC.DBG_STAT.LEVEL → s.is CE.STATUS.HALTED k = true → t.is CE.stepOnce k = true) ∧
    (s.is SEC.DBG_STAT.OPEN = false → t = s) := by
  refine ⟨_, rfl, fun k hk hopen hlvl hhalt => ?_, fun hopen => ?_⟩
  · cases hk
    dsimp only
    rw [hopen, hhalt, decide_eq_true hlvl]
    exact State.is_set_one _ _ _ _ (by decide)
  · cases engine with
    | none => rfl
    | some e => simp only [hopen, Bool.false_and, State.on, Bool.false_eq_true, if_false]

theorem exec_debugAccess_refused (sp : DbgSpace) (write : Bool) (data : BitVec 32) (s : State) (h : s.dbgLevel < s.dbgNeeds sp write) :
    ∃ t, exec (.debugAccess sp write data) s = .next t ∧ t.out = s.out ++ [.debugRefused false] := by
  refine ⟨_, congrArg Host.Outcome.next (if_pos h), ?_⟩
  cases sp with
  | calRam w =>
    have hev : State.Framed [RING.lost] [.events, .store] s (s.on (1 ≤ s.dbgLevel) (·.secEvent .fault 0x0307 4 w.toNat)) :=
      (State.framed_refl s).on fun _ => by
        unfold State.secEvent
        exact (State.framed_refl s).event (by decide)
    exact congrArg (· ++ [Msg.debugRefused false]) (hev.recs .out (by decide))
  | _ => rfl

theorem exec_debugAccess_register (k : BitVec 6) (data : BitVec 32) (s : State) (h : 2 ≤ s.dbgLevel ∧ k.toNat < 16) :
    ∃ t, exec (.debugAccess (.engReg 6 k) false data) s = .next t ∧ t = s.send (.readData (s.get CE.d 6 k.toNat)) := by
  obtain ⟨hlevel, hk⟩ := h
  have hrow : State.engRegRow k.toNat = some (CE.d, k.toNat) := if_pos hk
  have hexec : exec (.debugAccess (.engReg 6 k) false data) s = .next (s.dbgRead (.engReg 6 k)) :=
    congrArg Host.Outcome.next (if_neg (Nat.not_lt.2 hlevel))
  refine ⟨_, hexec, ?_⟩
  simp only [State.dbgRead, hrow]
  rfl

theorem exec_debugAccess_localData (eng : Fin 7) (wd : BitVec 14) (data : BitVec 32) (s : State)
    (h : eng.val < 6 ∧ 2 ≤ s.dbgLevel ∧ s.is SEC.CAL_STAT.TBL_LOCK = false) :
    ∃ t, exec (.debugAccess (.localData eng wd) false data) s = .next t ∧
      (s.is ACT.chEn 0 = false → s.is ACT.chEn 1 = false → s.is ACT.chEn 7 = false → t.is SEC.CAL_STAT.TBL_LOCK = true ∧
        t.is SEC.heldRead = true ∧ t.out = s.out) ∧
      (s.is ACT.chEn 0 = true ∨ s.is ACT.chEn 1 = true ∨ s.is ACT.chEn 7 = true → t = s.send (.debugRefused true)) := by
  obtain ⟨heng, hlevel, hlock⟩ := h
  obtain ⟨hframe, hlocked, hzero⟩ := s.tblLock_reads 1 eng
  have hneeds : s.dbgNeeds (.localData eng wd) false = 2 := by
    have h6 : eng ≠ 6 := fun e => by subst e; exact absurd heng (by decide)
    simp [State.dbgNeeds, h6]
  have hlocks : State.dbgLocks (.localData eng wd) false = some eng.val := if_pos heng
  have hexec : exec (.debugAccess (.localData eng wd) false data) s = .next (
      if [0, 1, 7].any (fun ch => s.is ACT.chEn ch) then s.send (.debugRefused true) else (s.tblLock 1 eng).set SEC.heldRead 1) := by
    show execDebugAccess _ _ _ _ = _
    have hnot : ¬s.dbgLevel < 2 := Nat.not_lt.2 hlevel
    simp only [execDebugAccess, hneeds, hlocks, hnot, hlock, hzero, if_false, Bool.not_false, Bool.true_and, Bool.false_eq_true, if_true]
  have hout : (s.tblLock 1 eng).out = s.out := hframe.recs .out (by decide)
  clear hframe hzero
  generalize s.tblLock 1 eng = u at hexec hlocked hout
  refine ⟨_, hexec, fun h0 h1 h7 => ?_, fun h => if_pos ?_⟩
  · rw [if_neg (by simp [h0, h1, h7])]
    refine ⟨?_, State.is_set_one _ _ _ _ (by decide), hout⟩
    rwa [State.is, State.get_set_ne _ _ _ _ _ _ (by decide), ← State.is]
  · simpa using h

theorem exec_debugAccess_bar0 (addr : BitVec 26) (data : BitVec 32) (s : State) (h : 2 ≤ s.dbgLevel ∧ addr.toNat < 0x01300000) :
    ∃ t, exec (.debugAccess (.bar0 addr) true data) s = .next t ∧
      t = ((s.set SEC.viaDbg 1).barWrite (addr.toNat - addr.toNat % 4) data.toNat).set SEC.viaDbg 0 := by
  obtain ⟨hlevel, haddr⟩ := h
  have hneeds : s.dbgNeeds (.bar0 addr) true = 2 := by simp [State.dbgNeeds, Nat.not_le.2 haddr]
  have hwin : ¬0x01300000 ≤ addr.toNat - addr.toNat % 4 := by omega
  have hexec : exec (.debugAccess (.bar0 addr) true data) s = .next (s.dbgWrite (.bar0 addr) data.toNat) := by
    refine congrArg Host.Outcome.next (if_neg ?_)
    omega
  refine ⟨_, hexec, ?_⟩
  simp only [State.dbgWrite, hwin, decide_false, Bool.false_and, Bool.false_eq_true, if_false]

/-- Settles O39, command by command: a session's verdict through `authBar` and the reads of `authOpen` and `authFail`, the boot through
`bootSlot`'s, a debug access through the level that it needs and the lock that it takes. -/
theorem sessionsBootAndTheDebugPort : Obligations.SessionsBootAndTheDebugPort := by
  unfold Obligations.SessionsBootAndTheDebugPort
  have hscan (s : State) (ir : Nat) (hir : ir < 8) (hon : s.tapOn = true) : (s.on s.tapOn (·.tapScan ir)).get SEC.tapIr =
      if (s.on s.tapOn (·.tapScan ir)).is SEC.DBG_STAT.VDC_OK && !s.is SYS.lowState then ir else 1 := by
    rw [hon]
    exact s.tapIr_tapScan hir
  have htap (s : State) (ir : Nat) (hon : s.tapOn = true) : s.on s.tapOn (·.set SEC.tapIr ir) = s.set SEC.tapIr ir := by
    rw [hon]
    rfl
  refine ⟨exec_authChallenge, exec_authVerify, exec_authClose, exec_roleTmo, exec_authLockoutEnd, exec_zeroingDone, exec_bootRom,
    fun s => ⟨_, rfl, htap s 0⟩, fun s => ⟨_, rfl, htap s 1⟩, fun s => ⟨_, rfl, htap s 4⟩, fun s => ⟨_, rfl, hscan s 2 (by decide)⟩,
    fun s => ⟨_, rfl, hscan s 3 (by decide)⟩, fun s => ⟨_, rfl, ?_, State.get_set_self ..⟩, fun s => ⟨_, rfl, ?_, ?_⟩,
    fun s => ⟨_, rfl, ?_, State.get_set_self ..⟩, exec_singleStep, exec_debugAccess_refused, exec_debugAccess_register,
    exec_debugAccess_localData, exec_debugAccess_bar0⟩
  · rw [State.is, State.get_set_ne _ _ _ _ _ _ (by decide), ← State.is]
    exact s.is_open_dbgClose 1
  · rw [State.is, State.get_set_ne _ _ _ _ _ _ (by decide), State.get_set_ne _ _ _ _ _ _ (by decide), ← State.is]
    exact s.is_open_dbgClose 2
  · rw [State.is, State.get_set_ne _ _ _ _ _ _ (by decide), ← State.is]
    exact State.is_set_zero ..
  · rw [State.is, State.get_set_ne _ _ _ _ _ _ (by decide), ← State.is]
    exact State.is_set_one _ _ _ _ (by decide)

end Sys2Proof.Machine
end

/-!
Supplies, power states and domains (18): O40.
-/
section
namespace Sys2Proof.Machine
set_option Elab.async false

/-- The words from `a` to `b` lie below the row's first place, or above its last; an engine's rows lie in the blocks of OB, CE and AX. -/
def Row.beyondSpan (a b : Nat) (r : Row) : Bool := decide (r.lo < 32 ∧ (b < r.base + (if r.eng then 0x01130800 else 0) ∨
  r.base + (if r.eng then engBase 6 else r.s1 * (r.c1 - 1)) + r.s2 * (r.c2 - 1) < a))

theorem Row.key_ne_of_beyondSpan {a b key i j : Nat} {r : Row} (h : r.beyondSpan a b = true) (hkey : a ≤ key / 32 ∧ key / 32 ≤ b) (hi : i < r.c1)
    (hj : j < r.c2) : key ≠ r.key i j := by
  rintro rfl
  have hs1 := Nat.mul_le_mul_left r.s1 (Nat.le_sub_one_of_lt hi)
  have hs2 := Nat.mul_le_mul_left r.s2 (Nat.le_sub_one_of_lt hj)
  have heng := engBase_le i
  have hlow : 0x01130800 ≤ engBase i := by
    simp only [engBase]
    split_ifs <;> omega
  obtain ⟨hlo, h⟩ := of_decide_eq_true h
  have hword : r.key i j / 32 = r.addr i j := by simp only [key]; omega
  rw [hword, addr] at hkey
  split at hkey <;> simp_all <;> omega

namespace State

/-! ## A domain that falls (R411, R413) -/

theorem rowsKept_of_regs {rs : List Row} {s t : State} (h : t.regs = s.regs) : RowsKept rs s t := fun r i j _ => get_congr h r i j

/-- The domain's rows beside those of SYS, which lie in PD0 and PD2. -/
def axisClearable : List Row := domainRows.tail.flatMap fun d => d.1.filter fun r => r.clr != .never

/-- The fall of a domain from PD3 on clears no row of SYS. -/
theorem rowsKept_clearWhere_of_axis (s : State) {pd : Nat} (h : 3 ≤ pd) :
    RowsKept axisClearable s (s.clearWhere fun r _ d => d == pd && r.clr != .never) := by
  have hpos : ∀ d ∈ domainRows.tail, ∀ r ∈ d.1, 0 < r.c2 := by decide +kernel
  have hsys (u : State) : RowsKept axisClearable u (u.dropCells SYS.rows fun r i => (if r.clr = .cold && !sysCommon r then 0 else 2) == pd &&
      r.clr != .never) := by
    refine rowsKept_dropCells_of u _ _ fun r _ => .inr fun _ => ?_
    have hne : ((if r.clr = .cold && !sysCommon r then 0 else 2) == pd) = false := by
      rw [beq_eq_false_iff_ne]
      split <;> omega
    rw [hne, Bool.false_and]
  have htail (l : List (List Row × (Row → Nat → Nat))) (u : State) (hl : ∀ d ∈ l, d ∈ domainRows.tail) :
      RowsKept axisClearable u (l.foldl (fun t d => t.dropCells d.1 fun r i => d.2 r i == pd && r.clr != .never) u) := by
    induction l generalizing u with
    | nil => exact rowsKept_refl _ _
    | cons d l ih =>
      have hd := hl d (List.mem_cons_self ..)
      refine RowsKept.trans (rowsKept_dropCells_of u d.1 _ fun r hr => ?_) (ih _ fun e he => hl e (List.mem_cons_of_mem _ he))
      by_cases hclr : r.clr = .never
      · exact .inr fun i => by rw [hclr]; exact Bool.and_false _
      · exact .inl ⟨List.mem_flatMap.2 ⟨d, hd, List.mem_filter.2 ⟨hr, bne_iff_ne.2 hclr⟩⟩, hpos d hd r hr⟩
  exact (hsys s).trans (htail domainRows.tail _ fun _ hd => hd)

/-- The rows that a controller that stops writes: a CANCEL that waited is told, and a frame that follows takes the place. -/
def canStopRows : List Row := [CAN.TXB_ACT.ACT, CAN.TXB_SHD.SHD, CAN.cxl, CAN.cxlRes, CAN.cxlDone] ++ Touch.complete

theorem rowsKept_canDrop (s : State) {c : Nat} (hc : c < 4) (b : Nat) (shadow : Bool) : RowsKept canStopRows s (s.canDrop c b shadow) := by
  cases shadow <;> exact rowsKept_set_zero hc (by decide)

theorem rowsKept_canShift (s : State) {c : Nat} (hc : c < 4) (b : Nat) : RowsKept canStopRows s (s.canShift c b) := by
  unfold canShift
  extract_lets s1
  have h1 : RowsKept canStopRows s s1 := rowsKept_canDrop s hc b false
  have hput (u : State) (f : CanFrame) : RowsKept canStopRows u (u.canPut c b false f) :=
    rowsKept_set_zero (r := CAN.TXB_ACT.ACT) hc (by decide)
  split
  · exact (h1.trans (rowsKept_canDrop s1 hc b true)).trans (hput _ _)
  · exact h1

theorem rowsKept_cancelDone (s : State) {c : Nat} (hc : c < 4) : RowsKept canStopRows s (s.cancelDone c) := by
  have hone (u : State) {r : Nat} (hr : r < 2) (b : Bool) : RowsKept canStopRows u (u.on b fun u =>
      ((u.set CAN.cxl 0 c r).set CAN.cxlDone 0 c r).complete (28 + r) .ok (u.get CAN.cxlRes c r)) := by
    refine rowsKept_on _ fun _ => ?_
    have hset : RowsKept canStopRows u ((u.set CAN.cxl 0 c r).set CAN.cxlDone 0 c r) :=
      (rowsKept_set (r := CAN.cxl) u 0 c r (by decide) hc hr).trans (rowsKept_set (r := CAN.cxlDone) _ 0 c r (by decide) hc hr)
    exact hset.trans ((rowsKept_complete _ (by omega) _ _).mono fun _ h => List.mem_append_right _ h)
  exact (hone s (r := 0) (by decide) _).trans (hone _ (r := 1) (by decide) _)

theorem rowsKept_frameGone (s : State) {c : Nat} (hc : c < 4) (b add : Nat) : RowsKept canStopRows s (s.frameGone c b add) := by
  have hone (u : State) {r : Nat} (hr : r < 2) (q : Bool) : RowsKept canStopRows u (u.on q fun u =>
      (u.set CAN.cxlRes (u.get CAN.cxlRes c r + add) c r).set CAN.cxlDone 1 c r) :=
    rowsKept_on _ fun _ => (rowsKept_set (r := CAN.cxlRes) u _ c r (by decide) hc hr).trans
      (rowsKept_set (r := CAN.cxlDone) _ 1 c r (by decide) hc hr)
  unfold frameGone
  extract_lets s1
  have htold : RowsKept canStopRows s s1 := (hone s (r := 0) (by decide) _).trans (hone _ (r := 1) (by decide) _)
  exact (htold.trans (rowsKept_canShift _ hc b)).trans (rowsKept_cancelDone _ hc)

theorem rowsKept_canStop (s : State) {c : Nat} (hc : c < 4) : RowsKept canStopRows s (s.canStop c) := by
  have hone (b : Nat) (v : State) : RowsKept canStopRows v (v.on (v.cxlWaits c b) (·.frameGone c b 1)) :=
    rowsKept_on _ fun _ => rowsKept_frameGone v hc b 1
  have hgone (u : State) : RowsKept canStopRows u (u.forN 32 fun b t => t.on (t.cxlWaits c b) (·.frameGone c b 1)) :=
    forN_rel (rowsKept_refl _) (fun h k => h.trans k) 32 _ (fun b v _ => hone b v) u
  have hregs : RowsKept canStopRows s { s with canTx := s.canTx.filter fun p => p.1.1 != c } := rowsKept_of_regs rfl
  unfold canStop
  generalize ({ s with canTx := s.canTx.filter fun p => p.1.1 != c } : State) = u at hregs
  exact (hregs.trans (hgone u)).trans (rowsKept_cancelDone _ hc)

theorem rowsKept_ethStop (s : State) : RowsKept canStopRows s s.ethStop := by
  unfold ethStop
  split
  · exact rowsKept_refl _ _
  · exact (rowsKept_of_regs rfl).trans ((rowsKept_complete _ (by decide) .state 0).mono fun _ h => List.mem_append_right _ h)

/-- The rows that the fall of a domain from PD3 on writes before its own bit. -/
def fallRows : List Row := canStopRows ++ axisClearable

/-- What the state was before the domain's own bit, and that nothing but the marks of what is loaded follows it. -/
theorem rowsKept_fall (s : State) (pd : Nat) : ∃ u : State, (3 ≤ pd → RowsKept fallRows s u) ∧ RowsKept [MEM.blank] (u.pdSet pd false) (s.fall pd) := by
  refine ⟨(((s.on (pd == 1) (·.bivEnd)).on (pd == 2) (·.lockPause)).on (pd == 6)
    fun t => (t.forN 4 fun c u => u.canStop c).ethStop).clearWhere fun r _ d => d == pd && r.clr != .never, fun h3 => ?_, ?_⟩
  · have h1 : (pd == 1) = false := by rw [beq_eq_false_iff_ne]; omega
    have h2 : (pd == 2) = false := by rw [beq_eq_false_iff_ne]; omega
    have hnet : RowsKept fallRows s (s.on (pd == 6) fun t => (t.forN 4 fun c u => u.canStop c).ethStop) := by
      refine rowsKept_on _ fun _ => RowsKept.mono (rs := canStopRows) ?_ fun r hr => List.mem_append_left _ hr
      exact (forN_rel (R := RowsKept canStopRows) (rowsKept_refl _) (fun h k => h.trans k) 4 _ (fun c v hc => rowsKept_canStop v hc) s).trans
        (rowsKept_ethStop _)
    rw [h1, h2]
    exact hnet.trans ((rowsKept_clearWhere_of_axis _ h3).mono fun r hr => List.mem_append_right _ hr)
  · unfold fall
    extract_lets s0 s1
    have hblank : RowsKept [MEM.blank] ((s0.clearWhere fun r _ d => d == pd && r.clr != .never).pdSet pd false) s1 := (framed_unblank _ _).rows
    clear_value s1
    split <;> exact hblank.trans (rowsKept_of_regs rfl)

/-- A register of the power domains reads as before, but for what the domain's own rise or fall writes. -/
theorem rowsKept_fall_power (s : State) {pd : Nat} (h : 3 ≤ pd) (r : Row) (i j : Nat) (hr : 0x01000100 ≤ r.key i j / 32 ∧ r.key i j / 32 ≤ 0x01000118) :
    ∃ u : State, u.get r i j = s.get r i j ∧ RowsKept [MEM.blank] (u.pdSet pd false) (s.fall pd) := by
  have hbeyond : fallRows.all (Row.beyondSpan 0x01000100 0x01000118) = true := by decide +kernel
  obtain ⟨u, hbefore, hrest⟩ := s.rowsKept_fall pd
  exact ⟨u, hbefore h r i j fun q hq a ha b hb => Row.key_ne_of_beyondSpan (List.all_eq_true.1 hbeyond q hq) hr ha hb, hrest⟩

/-- A domain that falls is off. -/
theorem pdOff_fall (s : State) (pd : Nat) : (s.fall pd).getBit SYS.PWR_STAT.PD_ON pd = false := by
  obtain ⟨u, -, hrest⟩ := s.rowsKept_fall pd
  rw [hrest.getBit_distinct (by decide) (by decide), pdSet_eq, (framed_pdFollows _ pd false).rows.getBit_distinct (by decide) (by decide)]
  exact getBit_setBit_false ..

theorem getBit_setBit_ne (s : State) (r : Row) {m n : Nat} (b : Bool) (i j : Nat) (hm : m < r.width) (hn : n < r.width) (hne : m ≠ n) :
    (s.setBit r n b i j).getBit r m i j = s.getBit r m i j := by
  rcases Nat.lt_or_gt_of_ne hne with h | h
  · exact getBit_setBit_lt s r b i j h hn
  · exact getBit_setBit_gt s r b i j h hm

/-- Another domain's bit is as before. -/
theorem pdOn_fall_ne (s : State) {pd k : Nat} (h : 3 ≤ pd) (hpd : pd < 10) (hk : k < 10) (hne : k ≠ pd) :
    (s.fall pd).getBit SYS.PWR_STAT.PD_ON k = s.getBit SYS.PWR_STAT.PD_ON k := by
  obtain ⟨u, hread, hrest⟩ := s.rowsKept_fall_power h SYS.PWR_STAT.PD_ON 0 0 (by decide)
  rw [hrest.getBit_distinct (by decide) (by decide), pdSet_eq, (framed_pdFollows _ pd false).rows.getBit_distinct (by decide) (by decide),
    getBit_setBit_ne _ _ _ _ _ hk hpd hne, getBit, getBit, hread]

/-- A register of the power domains that no domain's rise or fall writes. -/
theorem get_fall_of_power (s : State) {pd : Nat} (h : 3 ≤ pd) {r : Row} (hr : 0x01000100 ≤ r.key 0 0 / 32 ∧ r.key 0 0 / 32 ≤ 0x01000118)
    (hd : (decide (0 < r.c1) && decide (0 < r.c2) && (MEM.blank :: SYS.PWR_STAT.PD_ON :: pdSetRows).all r.distinct) = true) :
    (s.fall pd).get r = s.get r := by
  simp only [Bool.and_eq_true, decide_eq_true_eq, List.all_cons] at hd
  obtain ⟨⟨hc1, hc2⟩, hblank, hon, hset⟩ := hd
  obtain ⟨u, hread, hrest⟩ := s.rowsKept_fall_power h r 0 0 hr
  rw [hrest.get_distinct hc1 ⟨by simpa using hblank, hc2⟩, (framed_pdSet u pd false).rows.get_distinct hc1 ⟨by simpa using ⟨hon, fun x hx => List.all_eq_true.1 hset x hx⟩, hc2⟩, hread]

/-! ## The power states (R415 to R419) -/

/-- The module's state with its event. -/
theorem pwrState_reads (s : State) {st : Nat} (h : st < 8) : Framed [SYS.PWR_STAT.STATE, RING.lost] [.events, .store] s (s.pwrState st) ∧
    (s.pwrState st).get SYS.PWR_STAT.STATE = st := by
  have hev (u : State) (a b : Nat) : Framed [RING.lost] [.events, .store] u (u.event .info 0 0x00 0x0400 a b) := (framed_refl u).event (by decide)
  unfold pwrState
  refine ⟨((framed_refl s).set (by decide)).event (by decide), ?_⟩
  rw [(hev _ _ _).rows.get_distinct (by decide) (by decide), get_set_self]
  exact Nat.mod_eq_of_lt h

/-- From PARKED the module begins to leave it. -/
theorem state_unparkBegin {s : State} (h : s.get SYS.PWR_STAT.STATE = 2) (arg1 : Nat) : (s.unparkBegin arg1).get SYS.PWR_STAT.STATE = 3 := by
  have hev (u : State) (a b : Nat) : Framed [RING.lost] [.events, .store] u (u.event .info 0 0x00 0x0400 a b) := (framed_refl u).event (by decide)
  have hparked : s.parked = true := by simp [parked, h]
  unfold unparkBegin
  rw [hparked]
  exact ((hev _ _ _).rows.get_distinct (by decide) (by decide)).trans (get_set_self ..)

theorem framed_unparkBegin (s : State) (arg1 : Nat) : Framed [SYS.PWR_STAT.STATE, RING.lost] [.events, .store] s (s.unparkBegin arg1) :=
  (framed_refl s).on fun _ => ((framed_refl s).set (by decide)).event (by decide)

/-- STANDBY and OFF as they are entered: the low state stands, and PD2, for OFF PD0 too, is off. -/
theorem enterLow_reads (s : State) (off : Bool) : (s.enterLow off).get SYS.lowState = (if off then 2 else 1) ∧
    (s.enterLow off).getBit SYS.PWR_STAT.PD_ON (if off then 0 else 2) = false := by
  unfold enterLow
  extract_lets s1 s2
  have hlast : ∃ u : State, s2 = u.fall 2 := ⟨_, rfl⟩
  clear_value s2
  obtain ⟨u, rfl⟩ := hlast
  refine ⟨?_, ?_⟩
  · rw [get_set_ne _ _ _ _ _ _ (by decide), get_set_self]
    cases off <;> rfl
  · rw [getBit, get_set_ne _ _ _ _ _ _ (by decide), get_set_ne _ _ _ _ _ _ (by decide), ← getBit]
    cases off
    · exact u.pdOff_fall 2
    · exact ((u.fall 2).fall 1).pdOff_fall 0

/-- The rows that a request writes as its transition ends. -/
def powerDoneRows : List Row := [SYS.pwrBy, SYS.PWR_CMD.GO] ++ Touch.complete

theorem powerDone_reads (s : State) : RowsKept powerDoneRows s s.powerDone ∧ s.powerDone.is SYS.PWR_CMD.GO = false := by
  have hset : RowsKept powerDoneRows s ((s.set SYS.pwrBy 0).set SYS.PWR_CMD.GO 0) :=
    (rowsKept_set_zero (r := SYS.pwrBy) (by decide) (by decide)).trans (rowsKept_set_zero (r := SYS.PWR_CMD.GO) (by decide) (by decide))
  have hgo : ((s.set SYS.pwrBy 0).set SYS.PWR_CMD.GO 0).is SYS.PWR_CMD.GO = false := is_set_zero ..
  unfold powerDone
  dsimp only
  generalize (s.set SYS.pwrBy 0).set SYS.PWR_CMD.GO 0 = u at hset hgo
  refine ⟨hset.trans (rowsKept_on _ fun _ => (rowsKept_complete u (by decide) .ok 0).mono fun _ h => List.mem_append_right _ h), ?_⟩
  exact is_on hgo fun _ => ((rowsKept_complete u (by decide) .ok 0).is_distinct (by decide) (by decide)).trans hgo

/-- The rows beside the module's state on which a requested state is judged (R415). -/
def powerCheckRows : List Row := [ACT.chEn, SQ.STATUS.MODE, POS.offSpd, SQ.TRAV_CFG.DN_PCT, SQ.TRAV_SPD.W_CORNER, BL.wind, BL.DIS_STAT.STATE,
  SEC.DBG_STAT.HALT, SEC.LC_STAT.LC_PEND, ACT.job, ACT.jobStep, SEC.finalFw, SEC.finalCal]

theorem powerCheck_congr {s t : State} (hstate : t.get SYS.PWR_STAT.STATE = s.get SYS.PWR_STAT.STATE)
    (h : ∀ r ∈ powerCheckRows, ∀ i, t.get r i = s.get r i) (tgt : Nat) : t.powerCheck tgt = s.powerCheck tgt := by
  simp only [powerCheck, parkOk, lowOk, tractionOn, travDn, anyEnabled, disRunning, is, geti, hstate, h ACT.chEn (by decide),
    h SQ.STATUS.MODE (by decide), h POS.offSpd (by decide), h SQ.TRAV_CFG.DN_PCT (by decide), h SQ.TRAV_SPD.W_CORNER (by decide),
    h BL.wind (by decide), h BL.DIS_STAT.STATE (by decide), h SEC.DBG_STAT.HALT (by decide), h SEC.LC_STAT.LC_PEND (by decide),
    h ACT.job (by decide), h ACT.jobStep (by decide), h SEC.finalFw (by decide), h SEC.finalCal (by decide)]
  rfl

/-- A request is judged on the state, whatever its TARGET shows: these rows lie above it. -/
theorem powerCheck_set_target (s : State) (v tgt : Nat) : (s.set SYS.PWR_CMD.TARGET v).powerCheck tgt = s.powerCheck tgt := by
  have habove : ∀ r ∈ powerCheckRows, SYS.PWR_CMD.TARGET.key 0 0 < 32 * r.base := by decide
  refine powerCheck_congr (get_set_ne _ _ _ _ _ _ (by decide)) (fun r hr i => get_set_ne _ _ _ _ _ _ (Nat.ne_of_lt ?_)) tgt
  have hbase := r.base_le_addr i 0
  have hkey : r.key i 0 = r.addr i 0 * 32 + r.lo := rfl
  have := habove r hr
  omega

/-- A status's code fits its field. -/
theorem code_result (st : Status) : st.code % 2 ^ SYS.PWR_STAT.RESULT.width = st.code := by
  cases st <;> decide

/-- The rows that the wake from STANDBY writes. -/
def wakeRows : List Row := [SYS.wakeEv, SYS.rstEv, SYS.bistTry, SYS.rstLvl, SYS.RST_CTL.LOCK, SYS.plan, SYS.stepped, SYS.startT, SYS.RST_STAT.PD_FAIL,
  SYS.rstPhase, SYS.PWR_STAT.PD_ON] ++ pdSetRows

theorem framed_wakeStandby (s : State) (cause : Nat) : Framed wakeRows [] ((s.set SYS.lowState 0).set SYS.WAKE_STAT.CAUSE cause) (s.wakeStandby cause) := by
  unfold wakeStandby
  extract_lets b banks s1 s2 s3
  have h1 : Framed wakeRows [] ((s.set SYS.lowState 0).set SYS.WAKE_STAT.CAUSE cause) s1 := (framed_refl _).set (by decide) |>.set (by decide)
  have hpd (u : State) (pd : Nat) : Framed wakeRows [] u (u.pdSet pd true) := (framed_pdSet u pd true).mono (by decide)
  have h2 : Framed wakeRows [] s1 s2 := ((hpd s1 0).on fun _ => hpd _ 1).on fun _ => hpd _ 9
  have h3 : Framed wakeRows [] s2 s3 := (framed_refl s2).forN fun pd u hpd => (framed_refl u).setIn hpd (by decide)
  have h4 : Framed wakeRows [] s3 ((s3.set SYS.rstLvl 1).on (decide (2 ≤ s3.get SEC.LC_STAT.STATE)) (·.set SYS.RST_CTL.LOCK 1)) :=
    ((framed_refl s3).set (by decide)).on fun _ => (framed_refl _).set (by decide)
  exact (((h1.trans h2).trans h3).trans h4).andThen (framed_startUp _ 1 banks) (by decide)

theorem wakeStandby_reads (s : State) {cause : Nat} (h : cause < 8) : (s.wakeStandby cause).get SYS.lowState = 0 ∧
    (s.wakeStandby cause).get SYS.WAKE_STAT.CAUSE = cause := by
  have hrest := (s.framed_wakeStandby cause).rows
  rw [hrest.get_distinct (by decide) (by decide), hrest.get_distinct (by decide) (by decide), get_set_ne _ _ _ _ _ _ (by decide), get_set_self,
    get_set_self]
  exact ⟨rfl, Nat.mod_eq_of_lt h⟩

end State

/-! ## The commands -/

theorem exec_ringPower (d : Desc) (s : State) (hd : s.running 0 6 = some d) : ∃ t, exec .ringPower s = .next t ∧
    (∀ st ∈ s.powerCheck (d.byte 0), s.Completes t 0 d st 0 ∧ t.get SYS.PWR_STAT.RESULT = st.code ∧
      t.get SYS.PWR_STAT.STATE = s.get SYS.PWR_STAT.STATE) ∧
    (s.powerCheck (d.byte 0) = none → d.byte 0 = 1 → t.get SYS.PWR_STAT.STATE = 1 ∧ t.get SYS.parkT = s.now % 2 ^ SYS.parkT.width ∧
      t.desc 0 = some d) ∧
    (s.powerCheck (d.byte 0) = none → d.byte 0 = 2 → t.get SYS.lowState = 1 ∧ t.getBit SYS.PWR_STAT.PD_ON 2 = false) := by
  have hdesc := State.desc_of_running hd
  have hexec : exec .ringPower s = .next (match s.powerCheck (d.byte 0) with
      | some st => (s.set SYS.PWR_STAT.RESULT st.code).complete 0 st 0
      | none => (s.set SYS.PWR_STAT.RESULT 0).powerBegin (d.byte 0) 2 fun t => t.complete 0 .ok 0) := by
    show execRingPower s = _
    simp only [execRingPower, hd] <;> rfl
  refine ⟨_, hexec, fun st hst => ?_, fun hnone h1 => ?_, fun hnone h2 => ?_⟩
  · have hst' : s.powerCheck (d.byte 0) = some st := hst
    have hset : State.Framed [SYS.PWR_STAT.RESULT] [] s (s.set SYS.PWR_STAT.RESULT st.code) := (State.framed_refl s).set (by decide)
    have hrows := State.rowsKept_complete (s.set SYS.PWR_STAT.RESULT st.code) (n := 0) (by decide) st 0
    rw [hst']
    refine ⟨State.Completes.of_framed (by decide) hset (by decide) (by decide) (State.completes_complete (s.set SYS.PWR_STAT.RESULT st.code)
      (by decide) hdesc st 0), ?_, ?_⟩
    · exact (hrows.get_distinct (by decide) (by decide)).trans ((State.get_set_self ..).trans (State.code_result st))
    · exact (hrows.get_distinct (by decide) (by decide)).trans (hset.rows.get_distinct (by decide) (by decide))
  · obtain ⟨hframe, hstate⟩ := (s.set SYS.PWR_STAT.RESULT 0).pwrState_reads (st := 1) (by decide)
    have hdesc1 : ((s.set SYS.PWR_STAT.RESULT 0).pwrState 1).desc 0 = some d := by
      rw [State.desc, hframe.recs .descs (by decide)]
      exact hdesc
    have hnow : (s.set SYS.PWR_STAT.RESULT 0).now = s.now := rfl
    rw [hnone, h1]
    dsimp only
    rw [State.powerBegin, if_pos rfl, hnow]
    clear hframe hnow
    generalize (s.set SYS.PWR_STAT.RESULT 0).pwrState 1 = u at hstate hdesc1
    refine ⟨?_, ?_, hdesc1⟩
    · rw [State.get_set_ne _ _ _ _ _ _ (by decide), State.get_set_ne _ _ _ _ _ _ (by decide), hstate]
    · rw [State.get_set_ne _ _ _ _ _ _ (by decide), State.get_set_self]
  · rw [hnone, h2]
    dsimp only
    rw [State.powerBegin, if_neg (by decide), if_neg (by decide)]
    exact State.enterLow_reads _ false

theorem exec_pwrCmd (target : BitVec 2) (s : State) (hpd : s.pdOn 2 = true) : ∃ t, exec (.pwrCmd target) s = .next t ∧
    (∀ st ∈ s.powerCheck target.toNat, t.get SYS.PWR_STAT.RESULT = st.code ∧ t.get SYS.PWR_STAT.STATE = s.get SYS.PWR_STAT.STATE) ∧
    (s.get SYS.PWR_STAT.STATE = 2 → target = 0 → t.get SYS.PWR_STAT.STATE = 3 ∧ t.is SYS.PWR_CMD.GO = true) ∧
    (s.powerCheck target.toNat = none → target = 1 → t.get SYS.PWR_STAT.STATE = 1 ∧ t.is SYS.PWR_CMD.GO = true) ∧
    (s.powerCheck target.toNat = none → target = 3 → t.get SYS.lowState = 2 ∧ t.getBit SYS.PWR_STAT.PD_ON 0 = false) := by
  generalize hu : (((s.set SYS.PWR_CMD.TARGET target.toNat).set SYS.PWR_STAT.RESULT 0).set SYS.PWR_CMD.GO 1) = u
  have hgo : u.is SYS.PWR_CMD.GO = true := hu ▸ State.is_set_one _ _ _ _ (by decide)
  have hstate : u.get SYS.PWR_STAT.STATE = s.get SYS.PWR_STAT.STATE := by
    rw [← hu, State.get_set_ne _ _ _ _ _ _ (by decide), State.get_set_ne _ _ _ _ _ _ (by decide), State.get_set_ne _ _ _ _ _ _ (by decide)]
  have hexec : exec (.pwrCmd target) s = .next (match s.powerCheck target.toNat with
      | some st => (s.set SYS.PWR_CMD.TARGET target.toNat).set SYS.PWR_STAT.RESULT st.code
      | none => u.powerBegin target.toNat 1 fun t => t) := by
    show execPwrCmd target s = _
    simp only [execPwrCmd, hpd, State.powerCheck_set_target, hu]
    rfl
  have hkept {fs : List Rec} {t : State} (h : State.Framed [SYS.PWR_STAT.STATE, RING.lost] fs u t) : t.is SYS.PWR_CMD.GO = true :=
    (h.rows.is_distinct (by decide) (by decide)).trans hgo
  refine ⟨_, hexec, fun st hst => ?_, fun h2 ht => ?_, fun hnone ht => ?_, fun hnone ht => ?_⟩
  · have hst' : s.powerCheck target.toNat = some st := hst
    rw [hst']
    dsimp only
    rw [State.get_set_self, State.get_set_ne _ _ _ _ _ _ (by decide), State.get_set_ne _ _ _ _ _ _ (by decide)]
    exact ⟨State.code_result st, rfl⟩
  · subst ht
    have hnone : s.powerCheck (0 : BitVec 2).toNat = none := by simp [State.powerCheck, h2]
    rw [hnone]
    dsimp only
    rw [State.powerBegin, if_neg (by decide), if_pos (by decide), State.is, State.get_set_ne _ _ _ _ _ _ (by decide),
      State.get_set_ne _ _ _ _ _ _ (by decide), ← State.is]
    exact ⟨State.state_unparkBegin (hstate.trans h2) 3, hkept (u.framed_unparkBegin 3)⟩
  · subst ht
    obtain ⟨hframe, hnew⟩ := u.pwrState_reads (st := 1) (by decide)
    rw [hnone]
    dsimp only
    rw [State.powerBegin, if_pos (by decide), State.is, State.get_set_ne _ _ _ _ _ _ (by decide), State.get_set_ne _ _ _ _ _ _ (by decide),
      State.get_set_ne _ _ _ _ _ _ (by decide), State.get_set_ne _ _ _ _ _ _ (by decide), ← State.is]
    exact ⟨hnew, hkept hframe⟩
  · subst ht
    rw [hnone]
    dsimp only
    rw [State.powerBegin, if_neg (by decide), if_neg (by decide)]
    exact State.enterLow_reads u true

theorem exec_parkRampEnd (s : State) (h : s.get SYS.PWR_STAT.STATE = 1 ∧ s.tractionOn = [] ∧ s.disRunning = false) :
    ∃ t, exec .parkRampEnd s = .next t ∧ t.get SYS.PWR_STAT.STATE = 2 ∧ t.is SYS.PWR_CMD.GO = false := by
  obtain ⟨hstate, htraction, hdis⟩ := h
  generalize hu : s.forN 3 (fun k t => t.axStop k) = u
  have hstop : State.Framed Touch.axHalt [] s u := hu ▸ (State.framed_refl s).forN fun k v hk =>
    State.framed_axHalted v (c := 2 + k) ⟨by omega, by omega⟩
  obtain ⟨hpwr, hnew⟩ := u.pwrState_reads (st := 2) (by decide)
  obtain ⟨hdone, hgo⟩ := (u.pwrState 2).powerDone_reads
  have hch (c : Nat) (hc : c < 8) : (u.pwrState 2).powerDone.is ACT.chEn c = s.is ACT.chEn c := by
    rw [hdone.is_distinct hc (by decide), hpwr.rows.is_distinct hc (by decide), hstop.rows.is_distinct hc (by decide)]
  have hnone : (u.pwrState 2).powerDone.tractionOn = [] := by
    rw [← htraction, State.tractionOn, State.tractionOn]
    refine List.filter_congr fun c hc => hch c ?_
    have hall : ∀ c ∈ [0, 1, 7], c < 8 := by decide
    exact hall c hc
  have hslow : (u.pwrState 2).powerDone.unparkSpeed = false := by
    rw [State.unparkSpeed, hnone]
    exact Bool.and_false _
  have hrun : (u.pwrState 2).powerDone.disRunning = false := by
    have hread : (u.pwrState 2).powerDone.get BL.DIS_STAT.STATE = s.get BL.DIS_STAT.STATE := by
      rw [hdone.get_distinct (by decide) (by decide), hpwr.rows.get_distinct (by decide) (by decide), hstop.rows.get_distinct (by decide) (by decide)]
    rw [← hdis, State.disRunning, State.disRunning, hread]
  have hexec : exec .parkRampEnd s = .next (u.pwrState 2).powerDone := by
    show execParkRampEnd s = _
    simp only [execParkRampEnd, hstate, htraction, List.all_nil, List.foldl_nil, hu, hrun, hslow, ne_eq, not_true, decide_false, Bool.not_true,
      Bool.or_false, Bool.false_eq_true, if_false, Bool.false_and, State.on]
  exact ⟨_, hexec, (hdone.get_distinct (by decide) (by decide)).trans hnew, hgo⟩

theorem exec_unparkDone (s : State) (h : s.get SYS.PWR_STAT.STATE = 3) :
    ∃ t, exec .unparkDone s = .next t ∧ t.get SYS.PWR_STAT.STATE = 0 ∧ t.is SYS.PWR_CMD.GO = false := by
  refine ⟨_, rfl, ?_⟩
  rw [if_neg (by simp [h])]
  extract_lets s1
  obtain ⟨-, hnew⟩ := s1.pwrState_reads (st := 0) (by decide)
  obtain ⟨hdone, hgo⟩ := (s1.pwrState 0).powerDone_reads
  exact ⟨(hdone.get_distinct (by decide) (by decide)).trans hnew, hgo⟩

theorem exec_autoUnpark (s : State) : ∃ t, exec .autoUnpark s = .next t ∧
    (s.unparkSpeed = true → s.get SYS.PWR_STAT.STATE = 2 → t.get SYS.PWR_STAT.STATE = 3) ∧ (s.unparkSpeed = false → t = s) := by
  refine ⟨_, rfl, fun hfast h2 => ?_, fun hslow => ?_⟩
  · rw [hfast]
    exact State.state_unparkBegin h2 0x100
  · rw [hslow]
    rfl

/-- Domains fall one after another: each of them is off after it, the others' bits and PD_EN are as before. -/
theorem foldl_fall (l : List Nat) (hl : ∀ pd ∈ l, 3 ≤ pd ∧ pd < 10) (s : State) :
    (l.foldl (fun t pd => t.fall pd) s).get SYS.PWR_CTL.PD_EN = s.get SYS.PWR_CTL.PD_EN ∧
    ∀ k < 10, (l.foldl (fun t pd => t.fall pd) s).getBit SYS.PWR_STAT.PD_ON k = (s.getBit SYS.PWR_STAT.PD_ON k && !l.contains k) := by
  induction l generalizing s with
  | nil => exact ⟨rfl, fun k _ => by simp⟩
  | cons pd l ih =>
    obtain ⟨h3, h10⟩ := hl pd (List.mem_cons_self ..)
    obtain ⟨hen, hon⟩ := ih (fun q hq => hl q (List.mem_cons_of_mem _ hq)) (s.fall pd)
    refine ⟨hen.trans (s.get_fall_of_power h3 (by decide) (by decide)), fun k hk => (hon k hk).trans ?_⟩
    by_cases hkp : k = pd
    · subst hkp
      rw [s.pdOff_fall, List.contains_cons, beq_self_eq_true, Bool.true_or, Bool.not_true, Bool.and_false, Bool.false_and]
    · rw [s.pdOn_fall_ne h3 h10 hk hkp, List.contains_cons, beq_eq_false_iff_ne.2 hkp, Bool.false_or]

/-- An event that finds room in its queue changes no row. -/
theorem regs_event_of_room {s : State} {c : EvClass} (h : (s.queue c).length < 64) {inst source code arg0 arg1 : Nat} :
    (s.event c inst source code arg0 arg1).regs = s.regs := by
  simp only [State.event, State.eventAt, h, if_true]
  cases c <;> rfl

theorem exec_pdEn (value : BitVec 6) (s : State) (hpd : s.pdOn 2 = true) : ∃ t, exec (.pdEn value) s = .next t ∧
    (s.is SYS.PWR_CTL.LOCK = true → t.regs = s.regs ∨ s.evWarning.length ≥ 64) ∧
    (s.is SYS.PWR_CTL.LOCK = false → s.pdEnOk value.toNat = false → t = s.set SYS.PWR_CTL.CFG_REJECT 1) ∧
    (s.is SYS.PWR_CTL.LOCK = false → s.pdEnOk value.toNat = true → t.get SYS.PWR_CTL.PD_EN = value.toNat ∧
      ∀ k < 6, bit value.toNat k = false → t.getBit SYS.PWR_STAT.PD_ON (3 + k) = false) := by
  refine ⟨_, rfl, fun hlock => ?_, fun hlock hbad => ?_, fun hlock hok => ?_⟩ <;> rw [hpd, if_neg nofun, hlock]
  · by_cases hfull : s.evWarning.length < 64
    · exact .inl (regs_event_of_room (s := s) (c := .warning) hfull)
    · exact .inr (Nat.le_of_not_lt hfull)
  · rw [if_neg nofun, hbad]
    rfl
  · rw [if_neg nofun, hok, if_neg nofun]
    extract_lets off s1
    have hoff : ∀ pd ∈ off, 3 ≤ pd ∧ pd < 10 := by
      have hall : ∀ pd ∈ [6, 5, 7, 8, 4, 3], 3 ≤ pd ∧ pd < 10 := by decide
      exact fun pd hpd => hall pd (List.mem_filter.1 hpd).1
    obtain ⟨hen, hon⟩ := foldl_fall off hoff (s.set SYS.PWR_CTL.PD_EN value.toNat)
    have hev (c : Bool) (a : Nat) : State.Framed [RING.lost] [.events, .store] s1 (s1.on c (·.event .info 0 0x00 0x0401 0 a)) :=
      (State.framed_refl s1).on fun _ => (State.framed_refl s1).event (by decide)
    refine ⟨((hev _ _).rows.get_distinct (by decide) (by decide)).trans (hen.trans ((State.get_set_self ..).trans (Nat.mod_eq_of_lt value.isLt))),
      fun k hk hbit => ((hev _ _).rows.getBit_distinct (by decide) (by decide)).trans ((hon (3 + k) (by omega)).trans ?_)⟩
    rw [State.getBit, State.get_set_ne _ _ _ _ _ _ (by decide), ← State.getBit]
    cases hwas : s.getBit SYS.PWR_STAT.PD_ON (3 + k)
    · rfl
    · have hk3 : 3 + k - 3 = k := by omega
      have hmem : 3 + k ∈ off := by
        refine List.mem_filter.2 ⟨?_, by rw [hwas, hk3, hbit]; rfl⟩
        have hall : ∀ k < 6, 3 + k ∈ [6, 5, 7, 8, 4, 3] := by decide
        exact hall k hk
      rw [List.contains_iff_mem.2 hmem]
      rfl

theorem exec_domainOn (pd : Fin 9) (s : State) (h : 3 ≤ pd.val ∧ pd.val ≤ 6 ∧ s.get SYS.rstPhase = 1 ∧ s.getBit SYS.PWR_STAT.PD_ON 2 = true ∧
      s.getBit SYS.PWR_STAT.PD_ON pd = false ∧ s.getBit SYS.PWR_CTL.PD_EN (pd - 3) = true ∧ s.getBit SYS.boMask pd = false ∧
      s.getBit SYS.RST_STAT.PD_FAIL (pd - 1) = false) :
    ∃ t, exec (.domainOn pd) s = .next t ∧ t.getBit SYS.PWR_STAT.PD_ON pd = true := by
  obtain ⟨h3, h6, hphase, hon2, hoff, hen, hbo, hfail⟩ := h
  have hev (u : State) : State.Framed [RING.lost] [.events, .store] u (u.event .info 0 0x00 0x0401 (2 ^ pd.val) 0) :=
    (State.framed_refl u).event (by decide)
  have hn3 : ¬pd.val < 3 := by omega
  have hn7 : ¬7 ≤ pd.val := by omega
  have hexec : exec (.domainOn pd) s = .next ((s.pdSet pd true).event .info 0 0x00 0x0401 (2 ^ pd.val) 0) :=
    congrArg Host.Outcome.next (if_neg (by simp [hphase, hon2, hoff, hen, hbo, hfail, hn3, hn7]))
  exact ⟨_, hexec, ((hev _).rows.getBit_distinct (by decide) (by decide)).trans (s.pdOn_pdSet (by omega))⟩

theorem exec_vlvLow (vlv : BitVec 12) (s : State) : ∃ t, exec (.vlvLow vlv) s = .next t ∧ t.get SYS.SUP_STAT.VLV = vlv.toNat ∧
    (vlv.toNat < 900 → t.is SYS.SUP_STAT.VLV_LOW = true) ∧ (900 ≤ vlv.toNat → t.is SYS.SUP_STAT.VLV_LOW = s.is SYS.SUP_STAT.VLV_LOW) := by
  have hvlv : (s.set SYS.SUP_STAT.VLV vlv.toNat).get SYS.SUP_STAT.VLV = vlv.toNat := (State.get_set_self ..).trans (Nat.mod_eq_of_lt vlv.isLt)
  have hlow : (s.set SYS.SUP_STAT.VLV vlv.toNat).is SYS.SUP_STAT.VLV_LOW = s.is SYS.SUP_STAT.VLV_LOW := by
    rw [State.is, State.get_set_ne _ _ _ _ _ _ (by decide), ← State.is]
  refine ⟨_, rfl, ?_⟩
  generalize s.set SYS.SUP_STAT.VLV vlv.toNat = u at hvlv hlow
  have hev (v : State) : State.Framed [RING.lost] [.events, .store] v (v.event .warning 0 0x00 0x0402 vlv.toNat 0) :=
    (State.framed_refl v).event (by decide)
  have hframe : State.Framed [SYS.SUP_STAT.VLV_LOW, RING.lost] [.events, .store] u
      (u.on (decide (vlv.toNat < 900) && !s.is SYS.SUP_STAT.VLV_LOW) fun t => (t.set SYS.SUP_STAT.VLV_LOW 1).event .warning 0 0x00 0x0402 vlv.toNat 0) :=
    (State.framed_refl u).on fun _ => ((State.framed_refl u).set (by decide)).event (by decide)
  refine ⟨(hframe.rows.get_distinct (by decide) (by decide)).trans hvlv, fun hlt => ?_, fun hge => ?_⟩
  · rw [decide_eq_true hlt]
    cases hwas : s.is SYS.SUP_STAT.VLV_LOW
    · exact ((hev _).rows.is_distinct (by decide) (by decide)).trans (State.is_set_one _ _ _ _ (by decide))
    · exact hlow.trans hwas
  · rw [decide_eq_false (Nat.not_lt.2 hge)]
    exact hlow

theorem exec_vlvHigh (vlv : BitVec 12) (s : State) : ∃ t, exec (.vlvHigh vlv) s = .next t ∧ t.get SYS.SUP_STAT.VLV = vlv.toNat ∧
    (1600 < vlv.toNat → t.is SYS.SUP_STAT.VLV_HIGH = true) ∧ (vlv.toNat ≤ 1600 → t.is SYS.SUP_STAT.VLV_HIGH = s.is SYS.SUP_STAT.VLV_HIGH) := by
  have hvlv : (s.set SYS.SUP_STAT.VLV vlv.toNat).get SYS.SUP_STAT.VLV = vlv.toNat := (State.get_set_self ..).trans (Nat.mod_eq_of_lt vlv.isLt)
  have hhigh : (s.set SYS.SUP_STAT.VLV vlv.toNat).is SYS.SUP_STAT.VLV_HIGH = s.is SYS.SUP_STAT.VLV_HIGH := by
    rw [State.is, State.get_set_ne _ _ _ _ _ _ (by decide), ← State.is]
  refine ⟨_, rfl, ?_⟩
  generalize s.set SYS.SUP_STAT.VLV vlv.toNat = u at hvlv hhigh
  have hev (v : State) : State.Framed [RING.lost] [.events, .store] v (v.event .warning 0 0x00 0x0403 vlv.toNat 0) :=
    (State.framed_refl v).event (by decide)
  have hframe : State.Framed [SYS.SUP_STAT.VLV_HIGH, RING.lost] [.events, .store] u
      (u.on (decide (1600 < vlv.toNat) && !s.is SYS.SUP_STAT.VLV_HIGH) fun t => (t.set SYS.SUP_STAT.VLV_HIGH 1).event .warning 0 0x00 0x0403 vlv.toNat 0) :=
    (State.framed_refl u).on fun _ => ((State.framed_refl u).set (by decide)).event (by decide)
  refine ⟨(hframe.rows.get_distinct (by decide) (by decide)).trans hvlv, fun hlt => ?_, fun hle => ?_⟩
  · rw [decide_eq_true hlt]
    cases hwas : s.is SYS.SUP_STAT.VLV_HIGH
    · exact ((hev _).rows.is_distinct (by decide) (by decide)).trans (State.is_set_one _ _ _ _ (by decide))
    · exact hhigh.trans hwas
  · rw [decide_eq_false (Nat.not_lt.2 hle)]
    exact hhigh

theorem exec_brownout (group : Fin 3) (s : State) (hawake : s.is SYS.lowState = false) : ∃ t, exec (.brownout group) s = .next t ∧
    (group = 2 → t.get SYS.RST_CAUSE.SRC = 1 ∧ t.get SYS.RST_CAUSE.LEVEL = 0 ∧ t.now = 0) ∧
    (group = 1 → s.get SYS.PWR_STAT.PD_ON &&& 0x180 ≠ 0 → t.getBit SYS.PWR_STAT.PD_ON 7 = false ∧ t.getBit SYS.PWR_STAT.PD_ON 8 = false ∧
      t.get SYS.SUP_CNT.BO_LAST = (s.get SYS.PWR_STAT.PD_ON &&& 0x180)) := by
  refine ⟨_, rfl, fun hg => ?_, fun hg hon => ?_⟩ <;> subst hg
  · obtain ⟨hsrc, hlevel⟩ := ((s.boHold 0x1FF).set SYS.lowState (if s.is SYS.lowState then 2 else 0)).cause_takeHold 0 1 false
    obtain ⟨-, -, hnow, -⟩ := ((s.boHold 0x1FF).set SYS.lowState (if s.is SYS.lowState then 2 else 0)).records_takeHold 0 1 false
    exact ⟨hsrc, hlevel, hnow rfl⟩
  · have hsome : (s.get SYS.PWR_STAT.PD_ON &&& State.boDomains (1 : Fin 3)) ≠ 0 := hon
    rw [if_neg (by decide), hawake, if_neg (by simpa using hsome), if_pos (by decide)]
    have hlast : ((s.boRecord (s.get SYS.PWR_STAT.PD_ON &&& State.boDomains (1 : Fin 3))).boHold 0x180).get SYS.SUP_CNT.BO_LAST =
        (s.get SYS.PWR_STAT.PD_ON &&& 0x180) := by
      unfold State.boHold State.boRecord
      rw [State.get_set_ne _ _ _ _ _ _ (by decide), State.get_set_ne _ _ _ _ _ _ (by decide), State.get_set_self]
      exact Nat.mod_eq_of_lt (Nat.lt_of_le_of_lt Nat.and_le_right (by decide))
    generalize (s.boRecord (s.get SYS.PWR_STAT.PD_ON &&& State.boDomains (1 : Fin 3))).boHold 0x180 = u at hlast
    refine ⟨?_, State.pdOff_fall _ 8, ?_⟩
    · rw [State.pdOn_fall_ne _ (by decide) (by decide) (by decide) (by decide)]
      exact u.pdOff_fall 7
    · rw [State.get_fall_of_power _ (by decide) (by decide) (by decide), State.get_fall_of_power _ (by decide) (by decide) (by decide), hlast]

theorem exec_brownoutRecover (group : Fin 3) (s : State) (h : group.val ≠ 1 ∧ s.get SYS.rstPhase = 3 ∧ s.get SYS.boMask = 0x7C ∧
      s.is SYS.rstnLow = false ∧ s.is SYS.lowState = false) :
    ∃ t, exec (.brownoutRecover group) s = .next t ∧
      (group = 0 → t.get SYS.boMask = 0 ∧ t.get SYS.rstPhase = 0 ∧ t.get SYS.startT = s.now % 2 ^ SYS.startT.width) := by
  obtain ⟨-, hphase, hmask, hrstn, hlow⟩ := h
  refine ⟨_, rfl, fun hg => ?_⟩
  subst hg
  have hzero : s.get SYS.boMask - (s.get SYS.boMask &&& (if (0 : Fin 3) = 2 then 3 else State.boDomains (0 : Fin 3))) = 0 := by
    rw [hmask]
    decide
  rw [hzero]
  have hread (r : Row) (h : SYS.boMask.key 0 0 ≠ r.key 0 0) : (s.set SYS.boMask 0).get r = s.get r := State.get_set_ne _ _ _ _ _ _ h
  have hmask0 : (s.set SYS.boMask 0).get SYS.boMask = 0 := State.get_set_self ..
  have hphase0 : (s.set SYS.boMask 0).get SYS.rstPhase = 3 := (hread _ (by decide)).trans hphase
  have hrstn0 : (s.set SYS.boMask 0).is SYS.rstnLow = false := by rw [State.is, hread _ (by decide)]; exact hrstn
  have hlow0 : (s.set SYS.boMask 0).is SYS.lowState = false := by rw [State.is, hread _ (by decide)]; exact hlow
  have hnow : (s.set SYS.boMask 0).now = s.now := rfl
  rw [← hnow]
  generalize s.set SYS.boMask 0 = u at *
  rw [if_pos (by simp [hphase0, hmask0, hrstn0, hlow0]), State.get_set_ne _ _ _ _ _ _ (by decide), State.get_set_ne _ _ _ _ _ _ (by decide),
    State.get_set_ne _ _ _ _ _ _ (by decide), State.get_set_self, State.get_set_self]
  exact ⟨hmask0, rfl, rfl⟩

theorem exec_wakePin (s : State) : ∃ t, exec .wakePin s = .next t ∧
    (s.get SYS.lowState = 1 → t.get SYS.lowState = 0 ∧ t.get SYS.WAKE_STAT.CAUSE = 2) ∧
    (s.get SYS.lowState = 2 → s.get SYS.boMask = 0 → t.get SYS.lowState = 0 ∧ t.get SYS.WAKE_STAT.CAUSE = 1) ∧
    (s.get SYS.lowState = 0 → t = s) := by
  refine ⟨_, rfl, fun h1 => ?_, fun h2 hmask => ?_, fun h0 => ?_⟩
  · rw [if_pos h1]
    exact s.wakeStandby_reads (by decide)
  · rw [if_neg (by omega), if_pos (by simp [h2, hmask]), State.get_set_ne _ _ _ _ _ _ (by decide), State.lowState_takeHold,
      State.get_set_ne _ _ _ _ _ _ (by decide), State.get_set_self, State.get_set_self]
    exact ⟨rfl, rfl⟩
  · rw [if_neg (by omega), if_neg (by simp [h0])]

theorem exec_wakeAlarm (s : State) : ∃ t, exec .wakeAlarm s = .next t ∧
    (s.get SYS.lowState = 1 → s.is SYS.WAKE_CFG.ALARM = true → s.get SYS.lowT + 400000000 * s.get SYS.WAKE_CFG.ALARM ≤ s.now →
      t.get SYS.lowState = 0 ∧ t.get SYS.WAKE_STAT.CAUSE = 3) ∧
    (s.is SYS.WAKE_CFG.ALARM = false ∨ s.now < s.get SYS.lowT + 400000000 * s.get SYS.WAKE_CFG.ALARM → t = s) := by
  refine ⟨_, rfl, fun h1 halarm hdue => ?_, fun h => if_neg ?_⟩
  · rw [if_pos (by simp [h1, halarm, hdue])]
    exact s.wakeStandby_reads (by decide)
  · rcases h with h | h <;> simp [h]

theorem exec_pwrWakeLow (s : State) (hawake : s.is SYS.lowState = false) : ∃ t, exec .pwrWakeLow s = .next t ∧
    (t.regs = s.regs ∨ s.evInfo.length ≥ 64) ∧ (s.evInfo.length < 64 → t.evInfo.length = s.evInfo.length + 1) := by
  have hexec : exec .pwrWakeLow s = .next (s.event .info 0 0x00 0x0406 0 0) := by
    refine congrArg Host.Outcome.next (if_neg ?_)
    rw [hawake]
    exact nofun
  refine ⟨_, hexec, ?_, fun hroom => ?_⟩
  · by_cases hroom : s.evInfo.length < 64
    · exact .inl (regs_event_of_room (s := s) (c := .info) hroom)
    · exact .inr (Nat.le_of_not_lt hroom)
  · simp [State.event, State.eventAt, State.queue, State.setQueue, hroom]

theorem exec_dliPowerOn (s : State) (hoff : s.is DLI.powered = false) : ∃ t, exec .dliPowerOn s = .next t ∧
    t.is DLI.powered = true ∧ t.get DLI.OV_CFG.OV_HW = 950 ∧ t.getBit SYS.PWR_STAT.PD_ON 9 = true := by
  have hrows := (((s.set DLI.powered 1).set DLI.OV_CFG.OV_HW 950).framed_pdSet 9 true).rows
  have hon := ((s.set DLI.powered 1).set DLI.OV_CFG.OV_HW 950).pdOn_pdSet (pd := 9) (by decide)
  have hexec : exec .dliPowerOn s = .next ((((((s.set DLI.powered 1).set DLI.OV_CFG.OV_HW 950).pdSet 9 true).set DLI.stepLen 0).set
      DLI.stepQ 0).set DLI.bcast 0) := by
    refine congrArg Host.Outcome.next (if_neg ?_)
    rw [hoff]
    exact nofun
  refine ⟨_, hexec, ?_⟩
  simp (disch := decide) only [State.is, State.getBit, State.get_set_ne] at hon ⊢
  rw [hrows.get_distinct (by decide) (by decide), hrows.get_distinct (by decide) (by decide), State.get_set_ne _ _ _ _ _ _ (by decide),
    State.get_set_self, State.get_set_self]
  exact ⟨rfl, rfl, hon⟩

/-- Settles O40, command by command: a domain's rise through `pdSet`, its fall through `rowsKept_fall`, the low states through `enterLow` and
`wakeStandby`. -/
theorem powerStatesAndDomainsTakeEffect : Obligations.PowerStatesAndDomainsTakeEffect := by
  unfold Obligations.PowerStatesAndDomainsTakeEffect
  exact ⟨exec_ringPower, exec_pwrCmd, exec_parkRampEnd, exec_unparkDone, exec_autoUnpark, exec_pdEn, exec_domainOn, exec_vlvLow, exec_vlvHigh,
    exec_brownout, exec_brownoutRecover, exec_wakePin, exec_wakeAlarm, exec_pwrWakeLow, exec_dliPowerOn⟩

end Sys2Proof.Machine
end

/-!
The mailbox of the Belay island (13): passwords, sessions, the change log and the pitons (O33).
-/
section
namespace Sys2Proof.Machine
set_option Elab.async false

namespace State

/-! ## The end of a session and of a mailbox command (R305, R325) -/

theorem framed_safetyLog (s : State) (inst code arg0 arg1 : Nat) : Framed [RING.lost] [.events, .store] s (s.safetyLog inst code arg0 arg1) :=
  (framed_refl s).event (by decide)

theorem framed_safetyRefused (s : State) (what data role : Nat) : Framed [RING.lost] [.events, .store] s (s.safetyRefused what data role) := by
  unfold safetyRefused accessRefused
  exact ((framed_refl s).event (by decide)).trans (framed_safetyLog _ _ _ _ _)

/-- The rows that a session's end writes. -/
def sesCloseRows : List Row := [BL.PWD_STAT.OPEN, BL.PWD_STAT.ROLE, RING.lost]

theorem framed_sesClose (s : State) : Framed sesCloseRows [.events, .store] s s.sesClose :=
  .ite (fun _ => ((framed_safetyLog s _ _ _ _).mono (by decide)).set (by decide) |>.set (by decide)) fun _ => framed_refl s

theorem is_open_sesClose (s : State) : s.sesClose.is BL.PWD_STAT.OPEN = false := by
  unfold sesClose
  cases hopen : s.is BL.PWD_STAT.OPEN
  · exact hopen
  · rw [if_pos rfl, is, get_set_ne _ _ _ _ _ _ (by decide), ← is]
    exact is_set_zero ..

/-- The event of a session that closes is in the event store. -/
theorem logged_sesClose {s : State} (h : s.is BL.PWD_STAT.OPEN = true) : s.Logged s.sesClose 0 0x0214 (s.get BL.PWD_STAT.ROLE) 0 := by
  unfold sesClose
  rw [if_pos h]
  exact mem_evStore_event s (by decide) 0 0x30 0x0214 _ 0

/-- The rows that show how a command ended. -/
def mbxStatRows : List Row := [BL.MBX_STAT.BUSY, BL.MBX_CMD.GO, BL.MBX_STAT.RESULT, BL.MBX_RSP.RSP]

/-- The command's completion, before a session that waited for it closes. -/
def mbxAnswered (s : State) (result rsp : Nat) : State :=
  (((s.set BL.MBX_STAT.BUSY 0).set BL.MBX_CMD.GO 0).set BL.MBX_STAT.RESULT result).set BL.MBX_RSP.RSP rsp

theorem framed_mbxAnswered (s : State) (result rsp : Nat) : Framed mbxStatRows [] s (s.mbxAnswered result rsp) :=
  (framed_refl s).set (by decide) |>.set (by decide) |>.set (by decide) |>.set (by decide)

theorem framed_mbxDone (s : State) (result rsp : Nat) :
    Framed (BL.sesTmoPend :: sesCloseRows) [.events, .store] (s.mbxAnswered result rsp) (s.mbxDone result rsp) :=
  .ite (fun _ => ((framed_refl _).set (by decide)).andThen (framed_sesClose _) (by decide)) fun _ => framed_refl _

/-- A command that has ended: its result and its response stand. -/
theorem mbxDone_reads (s : State) (result rsp : Nat) : (s.mbxDone result rsp).is BL.MBX_STAT.BUSY = false ∧
    (s.mbxDone result rsp).get BL.MBX_STAT.RESULT = result % 256 ∧ (s.mbxDone result rsp).get BL.MBX_RSP.RSP = rsp % 2 ^ 32 := by
  have hrest := (s.framed_mbxDone result rsp).rows
  rw [hrest.is_distinct (by decide) (by decide), hrest.get_distinct (by decide) (by decide), hrest.get_distinct (by decide) (by decide)]
  unfold mbxAnswered is
  simp (disch := decide) only [get_set_ne, get_set_self]
  exact ⟨rfl, rfl, rfl⟩

/-- The rows that the end of a command may write. -/
def mbxDoneRows : List Row := mbxStatRows ++ BL.sesTmoPend :: sesCloseRows

theorem framed_mbxDone_all (s : State) (result rsp : Nat) : Framed mbxDoneRows [.events, .store] s (s.mbxDone result rsp) :=
  ((s.framed_mbxAnswered result rsp).mono (by decide)).andThen (s.framed_mbxDone result rsp) (by decide)

/-- No session waits to close: the command's end is its completion alone. -/
theorem mbxDone_of_noPend {s : State} (h : s.is BL.sesTmoPend = false) (result rsp : Nat) : s.mbxDone result rsp = s.mbxAnswered result rsp := by
  refine if_neg ?_
  rw [← mbxAnswered, (s.framed_mbxAnswered result rsp).rows.is_distinct (by decide) (by decide), h]
  exact nofun

/-! ## Sessions (R323, R324) -/

/-- A session that opens. -/
theorem sesStart_reads {s : State} (hpend : s.is BL.sesTmoPend = false) {role : Nat} (hrole : role < 8) :
    (s.sesStart role).is BL.PWD_STAT.OPEN = true ∧ (s.sesStart role).get BL.PWD_STAT.ROLE = role ∧
    (s.sesStart role).get BL.PWD_STAT.FAILS = 0 ∧ (s.sesStart role).get BL.MBX_STAT.RESULT = 0 ∧ (s.sesStart role).is BL.MBX_STAT.BUSY = false ∧
    (s.sesStart role).pwdBuf = s.pwdBuf := by
  generalize ht : (((s.set BL.PWD_STAT.OPEN 1).set BL.PWD_STAT.ROLE role).set BL.PWD_STAT.FAILS 0).inc BL.sesNum = t
  have hframe : Framed [BL.PWD_STAT.OPEN, BL.PWD_STAT.ROLE, BL.PWD_STAT.FAILS, BL.sesNum] [] s t :=
    ht ▸ ((framed_refl s).set (by decide) |>.set (by decide) |>.set (by decide) |>.set (by decide))
  have hreads : t.is BL.PWD_STAT.OPEN = true ∧ t.get BL.PWD_STAT.ROLE = role ∧ t.get BL.PWD_STAT.FAILS = 0 := by
    rw [← ht]
    unfold inc is
    simp (disch := decide) only [get_set_ne, get_set_self]
    exact ⟨rfl, Nat.mod_eq_of_lt hrole, rfl⟩
  obtain ⟨hopen, hrole', hfails⟩ := hreads
  have hlog : Framed [RING.lost] [.events, .store] t (t.safetyLog 0 0x0214 role 1) := t.framed_safetyLog 0 0x0214 role 1
  have hpend' : (t.safetyLog 0 0x0214 role 1).is BL.sesTmoPend = false := by
    rw [hlog.rows.is_distinct (by decide) (by decide), hframe.rows.is_distinct (by decide) (by decide), hpend]
  have heq : s.sesStart role = (t.safetyLog 0 0x0214 role 1).mbxDone 0 (t.get BL.sesNum) := by rw [← ht]; rfl
  obtain ⟨hbusy, hresult, -⟩ := (t.safetyLog 0 0x0214 role 1).mbxDone_reads 0 (t.get BL.sesNum)
  rw [heq]
  refine ⟨?_, ?_, ?_, hresult, hbusy, ?_⟩
  all_goals rw [mbxDone_of_noPend hpend']
  · rw [(framed_mbxAnswered _ _ _).rows.is_distinct (by decide) (by decide), hlog.rows.is_distinct (by decide) (by decide), hopen]
  · rw [(framed_mbxAnswered _ _ _).rows.get_distinct (by decide) (by decide), hlog.rows.get_distinct (by decide) (by decide), hrole']
  · rw [(framed_mbxAnswered _ _ _).rows.get_distinct (by decide) (by decide), hlog.rows.get_distinct (by decide) (by decide), hfails]
  · exact ((hframe.recs .pwdBuf (by decide)).trans (hlog.recs .pwdBuf (by decide))).trans ((framed_mbxAnswered _ _ _).recs .pwdBuf (by decide))

/-- A failed SES_OPEN is counted. -/
theorem sesFail_reads {s : State} (hpend : s.is BL.sesTmoPend = false) (role : Nat) :
    (s.sesFail role).is BL.PWD_STAT.OPEN = s.is BL.PWD_STAT.OPEN ∧
    (s.sesFail role).get BL.PWD_STAT.FAILS = min (s.get BL.PWD_STAT.FAILS + 1) (2 ^ BL.PWD_STAT.FAILS.width - 1) ∧
    (s.sesFail role).get BL.MBX_STAT.RESULT = 3 ∧ (s.sesFail role).is BL.MBX_STAT.BUSY = false ∧ (s.sesFail role).pwdBuf = s.pwdBuf := by
  unfold sesFail
  extract_lets t n
  have ht : Framed [BL.PWD_STAT.FAILS] [] s t := (framed_refl s).set (by decide)
  have hfails : t.get BL.PWD_STAT.FAILS = min (s.get BL.PWD_STAT.FAILS + 1) (2 ^ BL.PWD_STAT.FAILS.width - 1) := get_incSat_self ..
  have hlog : Framed [BL.PWD_STAT.LOCK_LEFT, BL.lockUs, RING.lost] [.events, .store] t
      ((t.on (3 ≤ n) fun u => (u.set BL.PWD_STAT.LOCK_LEFT (lockoutAfter n)).set BL.lockUs 0).safetyLog 0 0x0213 role n) :=
    ((framed_refl t).on fun _ => (framed_refl t).set (by decide) |>.set (by decide)).andThen (framed_safetyLog _ _ _ _ _) (by decide)
  generalize (t.on (3 ≤ n) fun u => (u.set BL.PWD_STAT.LOCK_LEFT (lockoutAfter n)).set BL.lockUs 0).safetyLog 0 0x0213 role n = v at hlog
  have hpend' : v.is BL.sesTmoPend = false := by
    rw [hlog.rows.is_distinct (by decide) (by decide), ht.rows.is_distinct (by decide) (by decide), hpend]
  obtain ⟨hbusy, hresult, -⟩ := v.mbxDone_reads 3 0
  refine ⟨?_, ?_, hresult, hbusy, ?_⟩
  all_goals rw [mbxDone_of_noPend hpend']
  · rw [(framed_mbxAnswered _ _ _).rows.is_distinct (by decide) (by decide), hlog.rows.is_distinct (by decide) (by decide),
      ht.rows.is_distinct (by decide) (by decide)]
  · rw [(framed_mbxAnswered _ _ _).rows.get_distinct (by decide) (by decide), hlog.rows.get_distinct (by decide) (by decide), hfails]
  · exact ((ht.recs .pwdBuf (by decide)).trans (hlog.recs .pwdBuf (by decide))).trans ((framed_mbxAnswered _ _ _).recs .pwdBuf (by decide))

/-! ## The change log (R326) -/

/-- A log with room is longer by one entry, which is the newest and holds what was given. -/
theorem log_logAppend {s : State} (h : s.log.length < 4096) (kind role field value : Nat) (old : List Nat) :
    ∃ e : LogEntry, (s.logAppend kind role field value old).log = s.log ++ [e] ∧ e.kind = kind ∧ e.field = field ∧ e.value = value := by
  have hfull : ¬4096 ≤ s.log.length := Nat.not_le.2 h
  simp only [logAppend, hfull, if_false]
  exact ⟨_, rfl, rfl, rfl, rfl⟩

/-- TM_XCFG's fields are the two of its register. -/
theorem rwsAt_tmXcfg : rwsAt 0x204 = [(BL.TM_XCFG.XTOL, 0, 0), (BL.TM_XCFG.XTIME, 0, 0)] := by decide +kernel

/-- The entry that stands last in the log is a CFG_WRITE to TM_XCFG: the roll-forward gives its fields their new values. -/
theorem rollForward_tmXcfg {s : State} {l : List LogEntry} {e : LogEntry} (h : s.log = l ++ [e]) (hkind : e.kind = 1) (hfield : e.field = 0x204) :
    s.rollForward.get BL.TM_XCFG.XTIME = e.value % 32 ∧ s.rollForward.get BL.TM_XCFG.XTOL = e.value / 65536 % 65536 := by
  have hlast : s.log.getLast? = some e := by rw [h, List.getLast?_concat]
  unfold rollForward
  rw [hlast]
  dsimp only
  rw [if_pos hkind, hfield, rwsAt_tmXcfg]
  simp (disch := decide) only [List.foldl_cons, List.foldl_nil, get_set_ne, get_set_self, Row.cut]
  have hwide (v : Nat) : v / 2 ^ 0 % 2 ^ 5 % 2 ^ 5 = v % 32 := by omega
  have hhigh (v : Nat) : v / 2 ^ 16 % 2 ^ 16 % 2 ^ 16 = v / 65536 % 65536 := by omega
  exact ⟨hwide e.value, hhigh e.value⟩

/-- A value of TM_XCFG is in range by its XTIME. -/
theorem cfgInRange_tmXcfg (s : State) (data : Nat) : s.cfgInRange 0x204 data (rwsAt 0x204) = (decide (1 ≤ data % 32) && decide (data % 32 ≤ 20)) := by
  have hrange : BL.TM_XCFG.XTIME.inRange (BL.TM_XCFG.XTIME.cut data) = (decide (1 ≤ data % 32) && decide (data % 32 ≤ 20)) := by
    have hcut : BL.TM_XCFG.XTIME.cut data = data % 32 := by
      have hwide : data / 2 ^ 0 % 2 ^ 5 = data % 32 := by omega
      exact hwide
    rw [hcut]
    simp [Row.inRange, BL.TM_XCFG.XTIME]
  rw [rwsAt_tmXcfg, cfgInRange]
  have hxtol : BL.TM_XCFG.XTOL.inRange (BL.TM_XCFG.XTOL.cut data) = true := rfl
  simp only [List.all_cons, List.all_nil, hrange, hxtol]
  simp

end State

/-! ## The commands -/

theorem exec_pwdLockoutEnd (s : State) : ∃ t, exec .pwdLockoutEnd s = .next t ∧
    (s.get BL.PWD_STAT.LOCK_LEFT = 1 → s.get BL.lockUs = 1000000 → t.get BL.PWD_STAT.LOCK_LEFT = 0) ∧
    (s.get BL.PWD_STAT.LOCK_LEFT ≠ 1 ∨ s.get BL.lockUs ≠ 1000000 → t = s) ∧ t.get BL.PWD_STAT.FAILS = s.get BL.PWD_STAT.FAILS := by
  have hframe : State.Framed [BL.PWD_STAT.LOCK_LEFT, BL.lockUs] [] s (s.on (s.get BL.PWD_STAT.LOCK_LEFT == 1 && s.get BL.lockUs == 1000000)
      fun t => (t.set BL.PWD_STAT.LOCK_LEFT 0).set BL.lockUs 0) :=
    (State.framed_refl s).on fun _ => (State.framed_refl s).set (by decide) |>.set (by decide)
  refine ⟨_, rfl, fun hleft hus => ?_, fun h => ?_, hframe.rows.get_distinct (by decide) (by decide)⟩
  · rw [hleft, hus]
    exact (State.get_set_ne _ _ _ _ _ _ (by decide)).trans (State.get_set_self ..)
  · have hnot : (s.get BL.PWD_STAT.LOCK_LEFT == 1 && s.get BL.lockUs == 1000000) = false := by
      rcases h with h | h <;> simp [h]
    rw [hnot]
    rfl

theorem exec_sesTmo (s : State) (h : s.is BL.PWD_STAT.OPEN = true ∧ s.get BL.sesT + 400000000 * s.get BL.PWD_CFG.SES_TMO ≤ s.now) :
    ∃ t, exec .sesTmo s = .next t ∧
      (s.is BL.MBX_STAT.BUSY = true → t.is BL.sesTmoPend = true ∧ t.is BL.PWD_STAT.OPEN = true) ∧
      (s.is BL.MBX_STAT.BUSY = false → t.is BL.PWD_STAT.OPEN = false ∧ s.Logged t 0 0x0214 (s.get BL.PWD_STAT.ROLE) 0) := by
  obtain ⟨hopen, hdue⟩ := h
  have hexec : exec .sesTmo s = .next (if s.is BL.MBX_STAT.BUSY then s.set BL.sesTmoPend 1 else s.sesClose) := by
    refine congrArg Host.Outcome.next (if_neg ?_)
    rw [hopen, decide_eq_false (Nat.not_lt.2 hdue)]
    exact nofun
  refine ⟨_, hexec, fun hbusy => ?_, fun hbusy => ?_⟩
  · rw [if_pos hbusy]
    refine ⟨State.is_set_one _ _ _ _ (by decide), ?_⟩
    rw [State.is, State.get_set_ne _ _ _ _ _ _ (by decide), ← State.is, hopen]
  · rw [hbusy, if_neg nofun]
    exact ⟨s.is_open_sesClose, State.logged_sesClose hopen⟩

/-- The bytes of a PWD_LOAD. -/
theorem length_pwdBytes (a b : Nat) {n : Nat} (h : n ≤ 8) : (((leBytes 4 a ++ leBytes 4 b).take n).map (BitVec.ofNat 8)).length = n := by
  simp [leBytes, h]

theorem exec_pwdLoad (s : State) (h : s.mbx 0x10 = true) : ∃ t, exec .pwdLoad s = .next t ∧
    (s.get BL.MBX_CMD.CNT ≤ 8 → s.pwdBuf.length ≤ 24 → t.get BL.MBX_STAT.RESULT = 0 ∧
      t.pwdBuf.length = s.pwdBuf.length + (if s.get BL.MBX_CMD.CNT = 0 then 8 else s.get BL.MBX_CMD.CNT) ∧
      t.get BL.MBX_RSP.RSP = t.pwdBuf.length) ∧
    (8 < s.get BL.MBX_CMD.CNT ∨ 32 ≤ s.pwdBuf.length → t.get BL.MBX_STAT.RESULT = 2 ∧ t.pwdBuf = s.pwdBuf) := by
  generalize hn : (if s.get BL.MBX_CMD.CNT = 0 then 8 else s.get BL.MBX_CMD.CNT) = n
  generalize hbytes : ((leBytes 4 (s.get BL.MBX_ARG.ARG 0) ++ leBytes 4 (s.get BL.MBX_ARG.ARG 1)).take n).map (BitVec.ofNat 8) = bytes
  have hexec : exec .pwdLoad s = .next (if 8 < n ∨ 32 < s.pwdBuf.length + n then s.mbxDone 2 s.pwdBuf.length
      else (({ s with pwdBuf := s.pwdBuf ++ bytes } : State).set BL.pwdT s.now).mbxDone 0 (s.pwdBuf ++ bytes).length) := by
    show execPwdLoad s = _
    simp only [execPwdLoad, h, hn, hbytes, Bool.not_true, Bool.false_eq_true, if_false, Bool.or_eq_true, decide_eq_true_eq]
  refine ⟨_, hexec, fun hcnt hlen => ?_, fun hbad => ?_⟩
  · have hn8 : n ≤ 8 := by rw [← hn]; split <;> omega
    have hlength : (s.pwdBuf ++ bytes).length = s.pwdBuf.length + n := by
      rw [List.length_append, ← hbytes, length_pwdBytes _ _ hn8]
    rw [if_neg (by omega)]
    generalize hu : ({ s with pwdBuf := s.pwdBuf ++ bytes } : State).set BL.pwdT s.now = u
    have hbuf : (u.mbxDone 0 (s.pwdBuf ++ bytes).length).pwdBuf = s.pwdBuf ++ bytes := by
      refine Eq.trans ((u.framed_mbxDone_all 0 (s.pwdBuf ++ bytes).length).recs .pwdBuf (by decide)) ?_
      rw [← hu]
      rfl
    obtain ⟨-, hresult, hrsp⟩ := u.mbxDone_reads 0 (s.pwdBuf ++ bytes).length
    rw [hbuf]
    exact ⟨hresult, hlength, hrsp.trans (Nat.mod_eq_of_lt (by omega))⟩
  · have hn1 : 1 ≤ n := by rw [← hn]; split <;> omega
    have hover : 8 < n ∨ 32 < s.pwdBuf.length + n := by
      rcases hbad with hcnt | hfull
      · refine .inl ?_
        rw [← hn, if_neg (by omega)]
        exact hcnt
      · exact .inr (by omega)
    obtain ⟨-, hresult, -⟩ := s.mbxDone_reads 2 s.pwdBuf.length
    rw [if_pos hover]
    exact ⟨hresult, (s.framed_mbxDone_all 2 s.pwdBuf.length).recs .pwdBuf (by decide)⟩

theorem exec_sesOpen (s : State) (h : s.mbx 0x11 = true ∧ s.is BL.sesTmoPend = false) : ∃ t, exec .sesOpen s = .next t ∧
    t.pwdBuf = [] ∧ t.is BL.MBX_STAT.BUSY = false ∧
    (s.is BL.PWD_STAT.LOCK_LEFT = true ∨ s.is BL.PWD_STAT.OPEN = true → t.get BL.MBX_STAT.RESULT = 3 ∧
      t.is BL.PWD_STAT.OPEN = s.is BL.PWD_STAT.OPEN ∧ t.get BL.PWD_STAT.FAILS = s.get BL.PWD_STAT.FAILS) ∧
    (s.is BL.PWD_STAT.LOCK_LEFT = false → s.is BL.PWD_STAT.OPEN = false → s.get SEC.LC_STAT.STATE = 0 → s.get BL.MBX_ARG.ARG 0 = 1 →
      s.get BL.mbxRole = 1 → t.is BL.PWD_STAT.OPEN = true ∧ t.get BL.PWD_STAT.ROLE = 1 ∧ t.get BL.MBX_STAT.RESULT = 0) ∧
    (s.is BL.PWD_STAT.LOCK_LEFT = false → s.is BL.PWD_STAT.OPEN = false → s.get SEC.LC_STAT.STATE = 2 → s.get BL.MBX_ARG.ARG 0 = 2 →
      s.get BL.mbxRole = 2 → s.is BL.pwdSet 0 = true → 8 ≤ s.pwdBuf.length → s.pwdHashOf (s.get BL.pwdSalt 0) = s.get BL.pwdHash 0 →
      t.is BL.PWD_STAT.OPEN = true ∧ t.get BL.PWD_STAT.ROLE = 2 ∧ t.get BL.PWD_STAT.FAILS = 0 ∧ t.get BL.MBX_STAT.RESULT = 0) ∧
    (s.is BL.PWD_STAT.LOCK_LEFT = false → s.is BL.PWD_STAT.OPEN = false → s.get SEC.LC_STAT.STATE = 2 → s.get BL.MBX_ARG.ARG 0 = 2 →
      s.get BL.mbxRole = 2 → s.is BL.pwdSet 0 = true → s.pwdBuf.length < 8 → t.is BL.PWD_STAT.OPEN = false ∧
      t.get BL.PWD_STAT.FAILS = min (s.get BL.PWD_STAT.FAILS + 1) (2 ^ BL.PWD_STAT.FAILS.width - 1) ∧ t.get BL.MBX_STAT.RESULT = 3) := by
  obtain ⟨hmbx, hpend⟩ := h
  generalize hu : ({ s with pwdBuf := [] } : State) = u
  have hread (r : Row) (i : Nat) : u.get r i = s.get r i := hu ▸ rfl
  have hbuf : u.pwdBuf = [] := hu ▸ rfl
  have hpend' : u.is BL.sesTmoPend = false := by rw [State.is, hread]; exact hpend
  generalize hrole : s.get BL.MBX_ARG.ARG 0 = role
  have hexec : exec .sesOpen s = .next (
      if s.is BL.PWD_STAT.LOCK_LEFT || s.is BL.PWD_STAT.OPEN || !s.sesRoleOk role || role != s.get BL.mbxRole then u.mbxDone 3 0
      else if s.get SEC.LC_STAT.STATE = 0 then u.sesStart role
      else if !s.is BL.pwdSet (pwdSlot role) then u.mbxDone 3 0
      else if 8 ≤ s.pwdBuf.length && s.pwdHashOf (s.get BL.pwdSalt (pwdSlot role)) == s.get BL.pwdHash (pwdSlot role) then u.sesStart role
      else u.sesFail role) := by
    show execSesOpen s = _
    simp only [execSesOpen, hmbx, hrole, hu]
    rfl
  obtain ⟨hbusy3, hresult3, -⟩ := u.mbxDone_reads 3 0
  obtain ⟨hfopen, hffails, hfresult, hfbusy, hfbuf⟩ := State.sesFail_reads hpend' role
  have hanswered := u.framed_mbxAnswered 3 0
  have hbuf3 : (u.mbxDone 3 0).pwdBuf = [] := by
    rw [State.mbxDone_of_noPend hpend']
    exact Eq.trans (hanswered.recs .pwdBuf (by decide)) hbuf
  have hstart (q : Nat) (hq : q < 8) := State.sesStart_reads hpend' hq
  have hlt : (s.is BL.PWD_STAT.LOCK_LEFT || s.is BL.PWD_STAT.OPEN || !s.sesRoleOk role || role != s.get BL.mbxRole) = false → role < 8 := by
    intro hok
    have hrole8 : s.get BL.mbxRole < 8 := State.get_lt ..
    have heq : role = s.get BL.mbxRole := by simpa using (Bool.or_eq_false_iff.1 hok).2
    omega
  refine ⟨_, hexec, ?_, ?_, fun hbar => ?_, fun hlock hopen hstate hr hmr => ?_, fun hlock hopen hstate hr hmr hset hlen hhash => ?_,
    fun hlock hopen hstate hr hmr hset hlen => ?_⟩
  · split
    · exact hbuf3
    next hok =>
      obtain ⟨-, -, -, -, -, hsbuf⟩ := hstart role (hlt (Bool.eq_false_iff.2 hok))
      split
      · exact hsbuf.trans hbuf
      · split
        · exact hbuf3
        · split
          · exact hsbuf.trans hbuf
          · exact hfbuf.trans hbuf
  · split
    · exact hbusy3
    next hok =>
      obtain ⟨-, -, -, -, hsbusy, -⟩ := hstart role (hlt (Bool.eq_false_iff.2 hok))
      split
      · exact hsbusy
      · split
        · exact hbusy3
        · split
          · exact hsbusy
          · exact hfbusy
  · rw [if_pos (by rcases hbar with hb | hb <;> simp [hb])]
    refine ⟨hresult3, ?_, ?_⟩
    · rw [State.mbxDone_of_noPend hpend', hanswered.rows.is_distinct (by decide) (by decide), State.is, hread]
      rfl
    · rw [State.mbxDone_of_noPend hpend', hanswered.rows.get_distinct (by decide) (by decide), hread]
  · obtain ⟨hsopen, hsrole, -, hsresult, -, -⟩ := hstart 1 (by decide)
    subst hr
    rw [if_neg (by simp [hlock, hopen, State.sesRoleOk, hstate, hmr]), if_pos hstate]
    exact ⟨hsopen, hsrole, hsresult⟩
  · obtain ⟨hsopen, hsrole, hsfails, hsresult, -, -⟩ := hstart 2 (by decide)
    subst hr
    have hslot : pwdSlot 2 = 0 := rfl
    rw [if_neg (by simp [hlock, hopen, State.sesRoleOk, hstate, hmr]), if_neg (by omega), hslot, hset, if_neg nofun,
      if_pos (by simp [hlen, hhash])]
    exact ⟨hsopen, hsrole, hsfails, hsresult⟩
  · subst hr
    have hslot : pwdSlot 2 = 0 := rfl
    have hshort : ¬8 ≤ s.pwdBuf.length := by omega
    rw [if_neg (by simp [hlock, hopen, State.sesRoleOk, hstate, hmr]), if_neg (by omega), hslot, hset, if_neg nofun,
      if_neg (by simp [hshort])]
    refine ⟨hfopen.trans ?_, hffails.trans (by rw [hread]), hfresult⟩
    rw [State.is, hread]
    exact hopen

theorem exec_sesClose (s : State) (h : s.mbx 0x12 = true) : ∃ t, exec .sesClose s = .next t ∧
    t.is BL.PWD_STAT.OPEN = false ∧ t.get BL.MBX_STAT.RESULT = 0 ∧ t.is BL.MBX_STAT.BUSY = false := by
  obtain ⟨hbusy, hresult, -⟩ := s.sesClose.mbxDone_reads 0 0
  have hopen : (s.sesClose.mbxDone 0 0).is BL.PWD_STAT.OPEN = false := by
    unfold State.mbxDone
    dsimp only
    split
    · exact State.is_open_sesClose _
    · simp (disch := decide) only [State.is, State.get_set_ne]
      exact s.is_open_sesClose
  exact ⟨_, congrArg Host.Outcome.next (if_pos h), hopen, hresult, hbusy⟩

theorem exec_pwdSet (written : Bool) (s : State) (h : s.mbx 0x13 = true) : ∃ t, exec (.pwdSet written) s = .next t ∧
    t.pwdBuf = [] ∧ t.is BL.MBX_STAT.BUSY = false ∧
    (s.get BL.MBX_ARG.ARG 0 ∉ [2, 4] → t.get BL.MBX_STAT.RESULT = 2 ∧ t.log = s.log) ∧
    (s.get BL.MBX_ARG.ARG 0 = 4 → s.is BL.PWD_STAT.OPEN = true → s.get BL.PWD_STAT.ROLE = 4 → 8 ≤ s.pwdBuf.length → written = true →
      s.log.length < 4096 → t.is BL.pwdSet 1 = true ∧ t.get BL.MBX_STAT.RESULT = 0 ∧ t.log.length = s.log.length + 1) ∧
    (s.get BL.MBX_ARG.ARG 0 = 4 → s.is BL.PWD_STAT.OPEN = true → s.get BL.PWD_STAT.ROLE = 4 → 8 ≤ s.pwdBuf.length → written = false →
      t.is BL.pwdSet 1 = s.is BL.pwdSet 1 ∧ t.get BL.pwdHash 1 = s.get BL.pwdHash 1 ∧ t.get BL.MBX_STAT.RESULT = 3 ∧ t.log = s.log) := by
  generalize hslot : s.get BL.MBX_ARG.ARG 0 = slot
  generalize hu : ({ s with pwdBuf := [] } : State) = u
  generalize hb : ({ s with pwdBuf := [], fresh := s.fresh + 1 } : State) = b
  generalize hv : (((b.logAppend 2 slot slot 0 (leBytes 32 (s.get BL.pwdHash (pwdSlot slot)))).set BL.pwdSet 1
    (pwdSlot slot)).set BL.pwdSalt (Config.fresh s.fresh % 2 ^ 128) (pwdSlot slot)).set BL.pwdHash
    (s.pwdHashOf (Config.fresh s.fresh % 2 ^ 128)) (pwdSlot slot) = v
  have hread (r : Row) (i : Nat) : u.get r i = s.get r i := hu ▸ rfl
  have hubuf : u.pwdBuf = [] := hu ▸ rfl
  have hulog : u.log = s.log := hu ▸ rfl
  have hk : pwdSlot slot < 2 := by
    unfold pwdSlot
    split <;> decide
  have hblog : b.log = s.log := hb ▸ rfl
  have hbbuf : b.pwdBuf = [] := hb ▸ rfl
  have hstored : State.Framed ([BL.pwdSet, BL.pwdSalt, BL.pwdHash] ++ State.logRows) [.log] b v :=
    hv ▸ ((State.framed_logAppend b _ _ _ _ _).mono (by decide) |>.setIn hk (by decide) |>.setIn hk (by decide) |>.setIn hk (by decide))
  have hkept : v.pwdBuf = b.pwdBuf := hstored.recs .pwdBuf (by decide)
  have hvbuf : v.pwdBuf = [] := hkept.trans hbbuf
  have hexec : exec (.pwdSet written) s = .next (if slot ≠ 2 ∧ slot ≠ 4 then u.mbxDone 2 0
      else if !(s.is BL.PWD_STAT.OPEN && s.get BL.PWD_STAT.ROLE == slot) &&
        !(!s.is BL.pwdSet (pwdSlot slot) && s.get BL.mbxRole == slot && s.sesRoleOk slot) then u.mbxDone 3 0
      else if s.pwdBuf.length < 8 then u.mbxDone 2 0 else if !written then u.mbxDone 3 0 else v.mbxDone 0 0) := by
    show execPwdSet written s = _
    simp only [execPwdSet, h, hslot, hu, hb, hv]
    rfl
  have hdone (w : State) (result : Nat) := w.framed_mbxDone_all result 0
  have hulogs (result : Nat) : (u.mbxDone result 0).log = u.log := (hdone u result).recs .log (by decide)
  refine ⟨_, hexec, ?_, ?_, fun hbad => ?_, fun hs hopen hrole hlen hw hroom => ?_, fun hs hopen hrole hlen hw => ?_⟩
  · have hclear (w : State) (result : Nat) (hw : w.pwdBuf = []) : (w.mbxDone result 0).pwdBuf = [] := by
      have hsame : (w.mbxDone result 0).pwdBuf = w.pwdBuf := (hdone w result).recs .pwdBuf (by decide)
      exact hsame.trans hw
    have hite {c : Prop} [Decidable c] {w x : State} (hw : w.pwdBuf = []) (hx : x.pwdBuf = []) : (if c then w else x).pwdBuf = [] := by
      split <;> assumption
    exact hite (hclear u 2 hubuf) <| hite (hclear u 3 hubuf) <| hite (hclear u 2 hubuf) <| hite (hclear u 3 hubuf) (hclear v 0 hvbuf)
  · split_ifs
    all_goals exact (State.mbxDone_reads _ _ 0).1
  · rw [if_pos (by simpa using hbad)]
    exact ⟨(u.mbxDone_reads 2 0).2.1, (hulogs 2).trans hulog⟩
  all_goals
    subst hs hw
    have hshort : ¬s.pwdBuf.length < 8 := Nat.not_lt.2 hlen
    rw [if_neg (by decide), if_neg (by simp [hopen, hrole]), if_neg hshort]
  · obtain ⟨-, hresult, -⟩ := v.mbxDone_reads 0 0
    have hset : v.is BL.pwdSet 1 = true := by
      have hslot4 : pwdSlot 4 = 1 := rfl
      rw [← hv, hslot4, State.is, State.get_set_distinct _ (by decide) (by decide) (by decide),
        State.get_set_distinct _ (by decide) (by decide) (by decide), ← State.is]
      exact State.is_set_one _ _ _ _ (by decide)
    have hlog : v.log.length = s.log.length + 1 := by
      have hroom' : b.log.length < 4096 := by rwa [hblog]
      obtain ⟨e, he, -⟩ := State.log_logAppend hroom' 2 4 4 0 (leBytes 32 (s.get BL.pwdHash (pwdSlot 4)))
      have hvlog : v.log = b.log ++ [e] := hv ▸ he
      rw [hvlog, hblog, List.length_append, List.length_singleton]
    rw [Bool.not_true, if_neg nofun]
    refine ⟨((hdone v 0).rows.is_distinct (by decide) (by decide)).trans hset, hresult, ?_⟩
    have hkept : (v.mbxDone 0 0).log = v.log := (hdone v 0).recs .log (by decide)
    rw [hkept, hlog]
  · obtain ⟨-, hresult, -⟩ := u.mbxDone_reads 3 0
    rw [Bool.not_false, if_pos rfl, (hdone u 3).rows.is_distinct (by decide) (by decide), (hdone u 3).rows.get_distinct (by decide) (by decide),
      State.is, hread, hread]
    exact ⟨rfl, rfl, hresult, (hulogs 3).trans hulog⟩

theorem exec_logVerify (s : State) (h : s.mbx 0x14 = true) : ∃ t, exec .logVerify s = .next t ∧ t.get BL.MBX_STAT.RESULT = 0 ∧
    t.get BL.MBX_RSP.RSP = chainCheck (s.get BL.logAnchor) s.log % 2 ^ 32 ∧ t.log = s.log := by
  obtain ⟨-, hresult, hrsp⟩ := s.mbxDone_reads 0 (chainCheck (s.get BL.logAnchor) s.log)
  exact ⟨_, congrArg Host.Outcome.next (if_pos h), hresult, hrsp, (s.framed_mbxDone_all 0 _).recs .log (by decide)⟩

theorem exec_logAnchor (s : State) (h : s.mbx 0x15 = true) : ∃ t, exec .logAnchor s = .next t ∧
    (s.get BL.MBX_ARG.ARG 0 ≤ 7 → t.get BL.MBX_STAT.RESULT = 0 ∧
      t.get BL.MBX_RSP.RSP = s.get BL.logAnchor / 2 ^ (32 * s.get BL.MBX_ARG.ARG 0) % 2 ^ 32) ∧
    (7 < s.get BL.MBX_ARG.ARG 0 → t.get BL.MBX_STAT.RESULT = 2) := by
  refine ⟨_, rfl, fun hle => ?_, fun hgt => ?_⟩ <;> rw [h, Bool.not_true, if_neg nofun]
  · obtain ⟨-, hresult, hrsp⟩ := s.mbxDone_reads 0 (s.get BL.logAnchor / 2 ^ (32 * s.get BL.MBX_ARG.ARG 0) % 2 ^ 32)
    rw [if_neg (Nat.not_lt.2 hle)]
    exact ⟨hresult, hrsp.trans (Nat.mod_mod _ _)⟩
  · rw [if_pos hgt]
    exact (s.mbxDone_reads 2 0).2.1

theorem exec_mbxCfgWrite (written applied : Bool) (s : State) (h : s.mbx 0x01 = true) : ∃ t, exec (.mbxCfgWrite written applied) s = .next t ∧
    (applied = true → t.is BL.MBX_STAT.BUSY = false) ∧
    (s.is BL.PWD_STAT.OPEN = false → t.get BL.MBX_STAT.RESULT = 3 ∧ t.log = s.log) ∧
    (s.is BL.PWD_STAT.OPEN = true → s.get BL.MBX_ARG.ARG 0 = 0x204 → 1 ≤ s.get BL.MBX_ARG.ARG 1 % 32 ∧ s.get BL.MBX_ARG.ARG 1 % 32 ≤ 20 →
      written = true → applied = true → s.log.length < 4096 → t.get BL.MBX_STAT.RESULT = 0 ∧ t.log.length = s.log.length + 1 ∧
      t.get BL.TM_XCFG.XTIME = s.get BL.MBX_ARG.ARG 1 % 32 ∧ t.get BL.TM_XCFG.XTOL = s.get BL.MBX_ARG.ARG 1 / 65536 % 65536) ∧
    (s.is BL.PWD_STAT.OPEN = true → s.get BL.MBX_ARG.ARG 0 = 0x204 → 1 ≤ s.get BL.MBX_ARG.ARG 1 % 32 ∧ s.get BL.MBX_ARG.ARG 1 % 32 ≤ 20 →
      written = true → applied = false → s.log.length < 4096 → t.log.length = s.log.length + 1 ∧
      t.get BL.TM_XCFG.XTIME = s.get BL.TM_XCFG.XTIME ∧ t.rollForward.get BL.TM_XCFG.XTIME = s.get BL.MBX_ARG.ARG 1 % 32) ∧
    (s.is BL.PWD_STAT.OPEN = true → s.get BL.MBX_ARG.ARG 0 = 0x204 → 20 < s.get BL.MBX_ARG.ARG 1 % 32 →
      t.get BL.MBX_STAT.RESULT = 2 ∧ t.log = s.log ∧ t.get BL.TM_XCFG.XTIME = s.get BL.TM_XCFG.XTIME) := by
  generalize hoff : s.get BL.MBX_ARG.ARG 0 = off
  generalize hdata : s.get BL.MBX_ARG.ARG 1 = data
  generalize hheld : s.readWord (0x01300000 + off) = held
  generalize hu : s.logAppend 1 (s.get BL.PWD_STAT.ROLE) off data (leBytes 4 held) = u
  have hexec : exec (.mbxCfgWrite written applied) s = .next (
      if !s.is BL.PWD_STAT.OPEN || (rwsAt off).isEmpty || 0x00100000 ≤ off then
        (s.safetyRefused (off % 0x00100000) data (s.get BL.mbxRole)).mbxDone 3 held
      else if !s.cfgInRange off data (rwsAt off) then s.mbxDone 2 held
      else if !written then s.mbxDone 3 held
      else if !applied then u else (u.rollForward.safetyLog 0 0x020D off data).mbxDone 0 (u.rollForward.readWord (0x01300000 + off))) := by
    show execMbxCfgWrite written applied s = _
    simp only [execMbxCfgWrite, h, hoff, hdata, hheld, hu]
    rfl
  have hrange (ho : off = 0x204) : s.cfgInRange off data (rwsAt off) = (decide (1 ≤ data % 32) && decide (data % 32 ≤ 20)) := by
    subst ho
    exact s.cfgInRange_tmXcfg data
  have hgo (hopen : s.is BL.PWD_STAT.OPEN = true) (ho : off = 0x204) :
      ¬(!s.is BL.PWD_STAT.OPEN || (rwsAt off).isEmpty || decide (0x00100000 ≤ off)) = true := by
    rw [hopen, ho, State.rwsAt_tmXcfg]
    decide
  have hentry (hroom : s.log.length < 4096) (ho : off = 0x204) : u.log.length = s.log.length + 1 ∧ u.rollForward.get BL.TM_XCFG.XTIME = data % 32 ∧
      u.rollForward.get BL.TM_XCFG.XTOL = data / 65536 % 65536 := by
    obtain ⟨e, he, hkind, hfield, hvalue⟩ := State.log_logAppend hroom 1 (s.get BL.PWD_STAT.ROLE) off data (leBytes 4 held)
    rw [hu] at he
    obtain ⟨htime, htol⟩ := State.rollForward_tmXcfg he hkind (hfield.trans ho)
    rw [hvalue] at htime htol
    refine ⟨?_, htime, htol⟩
    rw [he, List.length_append, List.length_singleton]
  refine ⟨_, hexec, fun ha => ?_, fun hopen => ?_, fun hopen ho hr hw ha hroom => ?_, fun hopen ho hr hw ha hroom => ?_, fun hopen ho hr => ?_⟩
  · subst ha
    split_ifs
    all_goals first | exact (State.mbxDone_reads _ _ _).1 | contradiction
  · rw [hopen, if_pos (by simp)]
    obtain ⟨-, hresult, -⟩ := (s.safetyRefused (off % 0x00100000) data (s.get BL.mbxRole)).mbxDone_reads 3 held
    exact ⟨hresult, Eq.trans ((State.framed_mbxDone_all _ 3 held).recs .log (by decide))
      ((s.framed_safetyRefused (off % 0x00100000) data (s.get BL.mbxRole)).recs .log (by decide))⟩
  · obtain ⟨hlen, htime, htol⟩ := hentry hroom ho
    have hlog := u.rollForward.framed_safetyLog 0 0x020D off data
    have hdone := (u.rollForward.safetyLog 0 0x020D off data).framed_mbxDone_all 0 (u.rollForward.readWord (0x01300000 + off))
    have hkept : ((u.rollForward.safetyLog 0 0x020D off data).mbxDone 0 (u.rollForward.readWord (0x01300000 + off))).log = u.log :=
      Eq.trans (hdone.recs .log (by decide)) (Eq.trans (hlog.recs .log (by decide)) (u.framed_rollForward.recs .log (by decide)))
    obtain ⟨-, hresult, -⟩ := (u.rollForward.safetyLog 0 0x020D off data).mbxDone_reads 0 (u.rollForward.readWord (0x01300000 + off))
    subst hw ha
    rw [if_neg (hgo hopen ho), hrange ho, if_neg (by simp [hr]), if_neg (by decide), if_neg (by decide), hkept,
      hdone.rows.get_distinct (r := BL.TM_XCFG.XTIME) (by decide) (by decide), hdone.rows.get_distinct (r := BL.TM_XCFG.XTOL) (by decide) (by decide),
      hlog.rows.get_distinct (by decide) (by decide), hlog.rows.get_distinct (by decide) (by decide)]
    exact ⟨hresult, hlen, htime, htol⟩
  · obtain ⟨hlen, htime, -⟩ := hentry hroom ho
    have hkept : u.get BL.TM_XCFG.XTIME = s.get BL.TM_XCFG.XTIME := by
      rw [← hu]
      exact (s.framed_logAppend 1 _ off data _).rows.get_distinct (by decide) (by decide)
    subst hw ha
    rw [if_neg (hgo hopen ho), hrange ho, if_neg (by simp [hr]), if_neg (by decide), if_pos (by decide)]
    exact ⟨hlen, hkept, htime⟩
  · have hdone := s.framed_mbxDone_all 2 held
    have hover : ¬data % 32 ≤ 20 := Nat.not_le.2 hr
    rw [if_neg (hgo hopen ho), hrange ho, if_pos (by simp [hover])]
    exact ⟨(s.mbxDone_reads 2 held).2.1, hdone.recs .log (by decide), hdone.rows.get_distinct (by decide) (by decide)⟩

theorem exec_mbxPitArm (s : State) (h : s.mbx 0x02 = true ∧ 1 ≤ s.get BL.MBX_ARG.ARG 0 % 16 ∧ s.get BL.MBX_ARG.ARG 0 % 16 ≤ 10) :
    ∃ t, exec .mbxPitArm s = .next t ∧
      (s.pitAllowed = true → t.is BL.PIT_STAT.ARMED = true ∧ t.get BL.PIT_STAT.SOURCE = 0x30 ∧
        t.get BL.PIT_STAT.SEL = s.get BL.MBX_ARG.ARG 0 % 16 ∧ t.get BL.MBX_STAT.RESULT = 0) ∧
      (s.pitAllowed = false → t.get BL.MBX_STAT.RESULT = 3 ∧ t.is BL.PIT_STAT.ARMED = s.is BL.PIT_STAT.ARMED) := by
  obtain ⟨hmbx, h1, h10⟩ := h
  generalize hsel : s.get BL.MBX_ARG.ARG 0 % 16 = sel at h1 h10
  have hexec : exec .mbxPitArm s = .next (if s.pitAllowed then (s.pitSet 0x30 sel (bits (s.get BL.MBX_ARG.ARG 0) 11 8) 0).mbxDone 0 0
      else ((s.accessRefused 0x01300020 (2 ^ 31 + 2)).safetyLog 0 0x020E 0x02 (s.get BL.mbxRole)).mbxDone 3 0) := by
    have hin : (decide (sel = 0) || decide (10 < sel)) = false := by
      simp
      omega
    show execMbxPitArm s = _
    simp only [execMbxPitArm, hmbx, hsel, hin, Bool.not_true, Bool.false_eq_true, if_false]
  refine ⟨_, hexec, fun hok => ?_, fun hno => ?_⟩
  · obtain ⟨harmed, hsource, hselr⟩ := pitSet_reads s 0x30 sel (bits (s.get BL.MBX_ARG.ARG 0) 11 8) 0
    obtain ⟨-, hresult, -⟩ := (s.pitSet 0x30 sel (bits (s.get BL.MBX_ARG.ARG 0) 11 8) 0).mbxDone_reads 0 0
    have hdone := (State.framed_mbxDone_all (s.pitSet 0x30 sel (bits (s.get BL.MBX_ARG.ARG 0) 11 8) 0) 0 0).rows
    rw [if_pos hok, hdone.is_distinct (by decide) (by decide), hdone.get_distinct (r := BL.PIT_STAT.SOURCE) (by decide) (by decide),
      hdone.get_distinct (r := BL.PIT_STAT.SEL) (by decide) (by decide)]
    exact ⟨harmed, hsource, hselr.trans (Nat.mod_eq_of_lt (Nat.lt_of_le_of_lt h10 (by decide))), hresult⟩
  · have hlogged : State.Framed [RING.lost] [.events, .store] s ((s.accessRefused 0x01300020 (2 ^ 31 + 2)).safetyLog 0 0x020E 0x02 (s.get BL.mbxRole)) := by
      unfold State.accessRefused
      exact ((State.framed_refl s).event (by decide)).trans (State.framed_safetyLog _ _ _ _ _)
    rw [hno, if_neg nofun, (State.framed_mbxDone_all _ 3 0).rows.is_distinct (by decide) (by decide), hlogged.rows.is_distinct (by decide) (by decide)]
    exact ⟨(State.mbxDone_reads _ 3 0).2.1, rfl⟩

namespace State

/-- A piton that disarms is not armed, whatever block its ARM bit lies in; no event is raised. -/
theorem pitDisarm_reads (s : State) : s.pitDisarm.is BL.PIT_STAT.ARMED = false ∧ s.pitDisarm.evSafety = s.evSafety := by
  have hunit : s.get BL.pitUnit < 256 := get_lt ..
  have hfar : ∀ r ∈ [PU.PIT_CTL.ARM, CE.PIT_CTL.ARM, CAN.PIT_CTL.ARM], ∀ u < 256, r.key u 0 ≠ BL.PIT_STAT.ARMED.key 0 0 := by decide +kernel
  have hoff : (s.set BL.PIT_STAT.ARMED 0).is BL.PIT_STAT.ARMED = false := is_set_zero ..
  have hset {c : Prop} [Decidable c] {r : Row} {i : Nat} {v : State} (h : r.key i 0 ≠ BL.PIT_STAT.ARMED.key 0 0)
      (hv : v.is BL.PIT_STAT.ARMED = false ∧ v.evSafety = s.evSafety) :
      (if c then (s.set BL.PIT_STAT.ARMED 0).set r 0 i else v).is BL.PIT_STAT.ARMED = false ∧
      (if c then (s.set BL.PIT_STAT.ARMED 0).set r 0 i else v).evSafety = s.evSafety := by
    split
    · refine ⟨?_, rfl⟩
      rw [is, get_set_ne _ _ _ _ _ _ h, ← is, hoff]
    · exact hv
  exact hset (by decide) <| hset (by decide) <| hset (by decide) <| hset (by decide) <| hset (by decide) <| hset (by decide) <|
    hset (hfar _ (by decide) _ hunit) <| hset (hfar _ (by decide) _ hunit) <| hset (by decide) <| hset (by decide) <| hset (by decide) <|
    hset (by decide) <| hset (hfar _ (by decide) _ hunit) <| hset (by decide) <| hset (by decide) ⟨hoff, rfl⟩

end State

theorem exec_pitTimeout (s : State) : ∃ t, exec .pitTimeout s = .next t ∧
    (s.get BL.pitT + 4000000000 ≤ s.now → t.is BL.PIT_STAT.ARMED = false) ∧ (s.now < s.get BL.pitT + 4000000000 → t = s) ∧
    t.evSafety = s.evSafety := by
  obtain ⟨hoff, hsafety⟩ := s.pitDisarm_reads
  refine ⟨_, rfl, fun hdue => ?_, fun hearly => if_neg ?_, ?_⟩
  · cases harmed : s.is BL.PIT_STAT.ARMED
    · exact harmed
    · rw [decide_eq_true hdue]
      exact hoff
  · rw [decide_eq_false (Nat.not_le.2 hearly), Bool.and_false]
    exact nofun
  · split
    · exact hsafety
    · rfl

/-- Settles O33, command by command: how a command ends is `mbxDone`'s, what a session and the change log keep is said once. -/
theorem mailboxSessionsPasswordsLogAndPitons : Obligations.MailboxSessionsPasswordsLogAndPitons := by
  unfold Obligations.MailboxSessionsPasswordsLogAndPitons
  refine ⟨exec_pwdLockoutEnd, exec_sesTmo, fun s h => ⟨_, rfl, if_neg (Nat.not_lt.2 h)⟩, exec_pwdLoad, exec_sesOpen, exec_sesClose, exec_pwdSet,
    exec_logVerify, exec_logAnchor, exec_mbxCfgWrite, exec_mbxPitArm, exec_pitTimeout⟩

end Sys2Proof.Machine
end

/-!
Temperatures (16): the rounds of the sensors, the holds of a hardware shutdown and their end (O25).
-/
section
namespace Sys2Proof.Machine
set_option Elab.async false
namespace State

/-! ## A round of the sensors (R368 to R370) -/

/-- The rows that a sensor's part of a round writes at its own number. -/
def sensorOwn : List Row := [HK.TEMP.ABSENT, HK.TEMP.FAULT, HK.TEMP.VAL, HK.coolT, HK.otFail]

/-- No piton of a sensor is armed (R377). -/
def NoSensorPit (s : State) : Prop := ∀ k < 38, s.pit 0x19 1 k = false ∧ s.pit 0x19 2 k = false

theorem sensorOwn_mem {r : Row} (hr : r ∈ sensorOwn) : 38 ≤ r.c1 := by
  revert r
  decide

theorem framedAt_setFault (s : State) (n : Nat) : Framed (rowsAt sensorOwn n tempFaultRows) [.events, .store] s (s.setFault n) :=
  (framed_setFault s n).mono ⟨fun _ h => List.mem_append_right _ h, by decide⟩

/-- Where no piton is armed, a sensor's reading is a matter of its own registers and the fault words. -/
theorem framedAt_latchSensor {s : State} {n : Nat} (hpit : s.pit 0x19 1 n = false ∧ s.pit 0x19 2 n = false) (reading : Option Nat) :
    Framed (rowsAt sensorOwn n tempFaultRows) [.events, .store] s (s.latchSensor n reading) := by
  obtain ⟨hopen, hadd⟩ := hpit
  unfold latchSensor
  simp only [hopen, hadd, Bool.or_self, on_false, Bool.false_eq_true, if_false]
  refine .ite (fun _ => (((framed_refl s).setAt (by decide)).setAt (by decide)).setAt (by decide)) fun _ => ?_
  have hfault : Framed (rowsAt sensorOwn n tempFaultRows) [.events, .store] s
      ((((s.set HK.TEMP.ABSENT 0 n).set HK.TEMP.FAULT 1 n).set HK.TEMP.VAL 0x3FF n).setFault n) :=
    ((((framed_refl s).setAt (by decide)).setAt (by decide)).setAt (by decide)).trans (framedAt_setFault _ n)
  cases reading with
  | none => exact hfault
  | some c => exact .ite (fun _ => hfault) fun _ => (((framed_refl s).setAt (by decide)).setAt (by decide)).setAt (by decide)

/-- One sensor's part of a round. -/
def sensorTurn (codes : List (Option (BitVec 10))) (mt : List (Option (BitVec 20))) (missing n : Nat) (t : State) : State :=
  ((t.latchSensor n (t.sensorReading n codes mt missing)).coolRound n).holdRound n

theorem framedAt_coolHold (t : State) (n : Nat) : Framed (rowsAt [HK.coolT, HK.otFail] n []) [] t ((t.coolRound n).holdRound n) :=
  ((framed_refl t).on fun _ => (framed_refl _).setAt (by decide)).on fun _ => (framed_refl _).setAt (by decide)

theorem framedAt_sensorTurn {t : State} {n : Nat} (hpit : t.pit 0x19 1 n = false ∧ t.pit 0x19 2 n = false)
    (codes : List (Option (BitVec 10))) (mt : List (Option (BitVec 20))) (missing : Nat) :
    Framed (rowsAt sensorOwn n tempFaultRows) [.events, .store] t (sensorTurn codes mt missing n t) :=
  (framedAt_latchSensor hpit (t.sensorReading n codes mt missing)).trans ((framedAt_coolHold _ n).mono (by
    refine ⟨fun r hr => ?_, by decide⟩
    rw [rowsAt, List.append_nil] at hr
    exact List.mem_append_left _ (List.map_subset _ (by decide) hr)))

/-- A sensor's part of a round arms no piton. -/
theorem noSensorPit_sensorTurn {t : State} {n : Nat} (hn : n < 38) (hpit : t.NoSensorPit) (codes : List (Option (BitVec 10)))
    (mt : List (Option (BitVec 20))) (missing : Nat) : (sensorTurn codes mt missing n t).NoSensorPit := by
  intro k hk
  have hrows := (framedAt_sensorTurn (hpit n hn) codes mt missing).rows.widen fun r hr => Nat.lt_of_lt_of_le hn (sensorOwn_mem hr)
  rw [hrows.pit _ _ _ (by decide), hrows.pit _ _ _ (by decide)]
  exact hpit k hk

/-- What a die's good reading latches (R370). -/
theorem latchSensor_reads_good {s : State} {n c : Nat} (hn : n < 12) (hpit : s.pit 0x19 1 n = false ∧ s.pit 0x19 2 n = false)
    (hc : 76 ≤ c ∧ c ≤ 1016) : (s.latchSensor n (some c)).get HK.TEMP.VAL n = c ∧ (s.latchSensor n (some c)).is HK.TEMP.FAULT n = false := by
  have habsent : s.sensorAbsent n = false := by
    rw [sensorAbsent, if_neg (by simp; omega), if_neg (by omega)]
  have hin : ¬(c < 76 ∨ 1016 < c) := by omega
  have hval : n < HK.TEMP.VAL.c1 := Nat.lt_trans hn (by decide)
  have hfault : n < HK.TEMP.FAULT.c1 := hval
  have hstate : s.latchSensor n (some c) = ((s.set HK.TEMP.ABSENT 0 n).set HK.TEMP.FAULT 0 n).set HK.TEMP.VAL c n := by
    simp [latchSensor, habsent, hpit.1, hpit.2, hin]
  rw [hstate]
  refine ⟨?_, ?_⟩
  · rw [get_set_self]
    exact Nat.mod_eq_of_lt (Nat.lt_of_le_of_lt hc.2 (by decide))
  · rw [is, get_set_distinct _ hval hfault (by decide)]
    exact is_set_zero ..

/-- What a die whose reading did not arrive latches (R370). -/
theorem latchSensor_reads_none {s : State} {n : Nat} (hn : n < 12) (hpit : s.pit 0x19 1 n = false ∧ s.pit 0x19 2 n = false) :
    (s.latchSensor n none).get HK.TEMP.VAL n = 0x3FF ∧ (s.latchSensor n none).is HK.TEMP.FAULT n = true := by
  have habsent : s.sensorAbsent n = false := by
    rw [sensorAbsent, if_neg (by simp; omega), if_neg (by omega)]
  have hval : n < HK.TEMP.VAL.c1 := Nat.lt_trans hn (by decide)
  have hfault : n < HK.TEMP.FAULT.c1 := hval
  have hstate : s.latchSensor n none = (((s.set HK.TEMP.ABSENT 0 n).set HK.TEMP.FAULT 1 n).set HK.TEMP.VAL 0x3FF n).setFault n := by
    simp [latchSensor, habsent, hpit.1, hpit.2]
  have hrows := (framed_setFault (((s.set HK.TEMP.ABSENT 0 n).set HK.TEMP.FAULT 1 n).set HK.TEMP.VAL 0x3FF n) n).rows
  rw [hstate]
  refine ⟨?_, ?_⟩
  · rw [hrows.get_distinct hval (by decide), get_set_self]
    rfl
  · rw [hrows.is_distinct hfault (by decide), is, get_set_distinct _ hval hfault (by decide)]
    exact is_set_one _ _ _ _ (by decide)

/-- A die's reading is its temperature, where it arrived (R368). -/
theorem sensorReading_die (s : State) {n : Nat} (hn : n < 12) (codes : List (Option (BitVec 10))) (mt : List (Option (BitVec 20)))
    (missing : Nat) : s.sensorReading n codes mt missing = if bit missing n then none else some (s.get GI.MEAS_T.TDIE n) := by
  rw [sensorReading, if_pos hn]

/-- What a round latches of a gate die: the turns of the other sensors leave it alone. -/
theorem sensorsRound_reads {s : State} {n : Nat} (hn : n < 12) (hpit : s.NoSensorPit) (codes : List (Option (BitVec 10)))
    (mt : List (Option (BitVec 20))) (missing : Nat) :
    (bit missing n = false → 76 ≤ s.get GI.MEAS_T.TDIE n → s.get GI.MEAS_T.TDIE n ≤ 1016 →
      (s.sensorsRound codes mt missing).get HK.TEMP.VAL n = s.get GI.MEAS_T.TDIE n ∧
      (s.sensorsRound codes mt missing).is HK.TEMP.FAULT n = false) ∧
    (bit missing n = true → (s.sensorsRound codes mt missing).get HK.TEMP.VAL n = 0x3FF ∧
      (s.sensorsRound codes mt missing).is HK.TEMP.FAULT n = true) := by
  have hn38 : n < 38 := Nat.lt_trans hn (by decide)
  obtain ⟨u, hu, hsu, hut⟩ := forN_turn_of (P := NoSensorPit) (R := TurnKept sensorOwn tempFaultRows n) (turnKept_refl _ _ _)
    TurnKept.trans hn38 (sensorTurn codes mt missing) (fun k t hk ht => noSensorPit_sensorTurn hk ht codes mt missing)
    (fun k t hk hne ht => (framedAt_sensorTurn (ht k hk) codes mt missing).rows.turn hk (fun _ hr => sensorOwn_mem hr) hne) hpit
  have hdie : u.get GI.MEAS_T.TDIE n = s.get GI.MEAS_T.TDIE n := hsu.get_distinct hn (by decide)
  have hlatch (r : Option Nat) : RowsKept (rowsAt [HK.coolT, HK.otFail] n []) (u.latchSensor n r)
      (((u.latchSensor n r).coolRound n).holdRound n) := (framedAt_coolHold _ n).rows
  have hwide (r : Option Nat) : RowsKept ([HK.coolT, HK.otFail] ++ []) (u.latchSensor n r)
      (((u.latchSensor n r).coolRound n).holdRound n) :=
    (hlatch r).widen fun q hq => Nat.lt_of_lt_of_le hn38 (sensorOwn_mem (by revert q; decide))
  have hread (r : Option Nat) (hr : u.sensorReading n codes mt missing = r) :
      (s.sensorsRound codes mt missing).get HK.TEMP.VAL n = (u.latchSensor n r).get HK.TEMP.VAL n ∧
      (s.sensorsRound codes mt missing).is HK.TEMP.FAULT n = (u.latchSensor n r).is HK.TEMP.FAULT n := by
    subst hr
    exact ⟨(hut.get (r := HK.TEMP.VAL) hn38 (by decide)).trans ((hwide _).get_distinct (r := HK.TEMP.VAL) hn38 (by decide)),
      (hut.is (r := HK.TEMP.FAULT) hn38 (by decide)).trans ((hwide _).is_distinct (r := HK.TEMP.FAULT) hn38 (by decide))⟩
  have hreading := sensorReading_die u hn codes mt missing
  refine ⟨fun hbit hlo hhi => ?_, fun hbit => ?_⟩
  · rw [hbit, if_neg nofun, hdie] at hreading
    obtain ⟨hval, hfault⟩ := hread _ hreading
    rw [hval, hfault]
    exact latchSensor_reads_good hn (hu n hn38) ⟨hlo, hhi⟩
  · rw [hbit, if_pos rfl] at hreading
    obtain ⟨hval, hfault⟩ := hread _ hreading
    rw [hval, hfault]
    exact latchSensor_reads_none hn (hu n hn38)

/-- The phases of the bridges that have a supply, and the mark of a round under way. -/
theorem framed_bsMins (s : State) (on : Bool) :
    Framed (HK.busy :: bsRows) [] s ((s.on on fun t => t.forN 3 fun k u => u.bsMin k).set HK.busy 1) := by
  have hone (k : Nat) (t : State) (hk : k < 3) : Framed (HK.busy :: bsRows) [] t (t.bsMin k) := (framed_bsMin t hk).mono (by decide)
  have hmins : Framed (HK.busy :: bsRows) [] s (s.forN 3 fun k u => u.bsMin k) := (framed_refl s).forN hone
  have hon : Framed (HK.busy :: bsRows) [] s (s.on on fun t => t.forN 3 fun k u => u.bsMin k) := by
    cases on
    · exact framed_refl s
    · exact hmins
  exact hon.set ⟨List.mem_cons_self .., by decide⟩

theorem exec_slowRound_die (codes : List (Option (BitVec 10))) (mt : List (Option (BitVec 20))) (missing : BitVec 24) (n : Fin 12) (s : State)
    (hruns : s.hkRuns = true) (hpit : ∀ k < 38, s.pit 0x19 1 k = false ∧ s.pit 0x19 2 k = false) :
    ∃ t, exec (.slowRound codes mt missing) s = .next t ∧
      t.is HK.busy = true ∧
      (bit missing.toNat n = false → 76 ≤ s.get GI.MEAS_T.TDIE n → s.get GI.MEAS_T.TDIE n ≤ 1016 →
        t.get HK.TEMP.VAL n = s.get GI.MEAS_T.TDIE n ∧ t.is HK.TEMP.FAULT n = false) ∧
      (bit missing.toNat n = true → t.get HK.TEMP.VAL n = 0x3FF ∧ t.is HK.TEMP.FAULT n = true) := by
  have hn38 : n.val < 38 := Nat.lt_trans n.isLt (by decide)
  have hrest (u : State) := (framed_bsMins u (s.getBit SYS.PWR_STAT.PD_ON 5)).rows
  have hread := sensorsRound_reads n.isLt hpit codes mt missing.toNat
  have hexec := exec_slowRound codes mt missing hruns
  generalize s.sensorsRound codes mt missing.toNat = u at hread hexec
  refine ⟨_, hexec, is_set_one _ _ _ _ (by decide), ?_⟩
  rw [(hrest _).get_distinct hn38 (by decide), (hrest _).is_distinct hn38 (by decide)]
  exact hread

/-! ## The end of a round (R372, R376) -/

theorem thrFactor_off {s : State} (h : s.is HK.CTL.THR_EN = false) (l : List Nat) : s.thrFactor l = 16 := by
  rw [thrFactor, h, if_neg nofun]

/-- Without THR_EN the factors are 16/16 (R372). -/
theorem throttle_reads_off {s : State} (h : s.is HK.CTL.THR_EN = false) :
    s.throttle.get HK.THR_VAL0.AXA = 16 ∧ s.throttle.get HK.THR_VAL0.AXB = 16 ∧ s.throttle.get HK.THR_VAL0.AUX0 = 16 ∧
      s.throttle.get HK.THR_VAL0.AUX1 = 16 ∧ s.throttle.get HK.THR_VAL1.AUX2 = 16 := by
  unfold throttle
  extract_lets s1
  have h1 : s1.is HK.CTL.THR_EN = false := by
    have hframe : Framed [HK.thrN] [] s s1 := (framed_refl s).forN fun k u hk =>
      .ite (fun _ => (framed_refl u).setIn hk (by decide)) fun _ => (framed_refl u).setIn hk (by decide)
    rw [hframe.rows.is_distinct (by decide) (by decide), h]
  simp only [thrFactor_off h1]
  clear_value s1
  refine ⟨?_, ?_, ?_, ?_, ?_⟩
  · rw [get_set_distinct _ (by decide) (by decide) (by decide), get_set_distinct _ (by decide) (by decide) (by decide),
      get_set_distinct _ (by decide) (by decide) (by decide), get_set_distinct _ (by decide) (by decide) (by decide)]
    exact get_set_self ..
  · rw [get_set_distinct _ (by decide) (by decide) (by decide), get_set_distinct _ (by decide) (by decide) (by decide),
      get_set_distinct _ (by decide) (by decide) (by decide)]
    exact get_set_self ..
  · rw [get_set_distinct _ (by decide) (by decide) (by decide), get_set_distinct _ (by decide) (by decide) (by decide)]
    exact get_set_self ..
  · rw [get_set_distinct _ (by decide) (by decide) (by decide)]
    exact get_set_self ..
  · exact get_set_self ..

theorem exec_roundDone_busy (s : State) (h : s.hkRuns = true ∧ s.is HK.busy = true) :
    ∃ t, exec .roundDone s = .next t ∧
      t.is HK.busy = false ∧ t.get HK.STATUS.ROUND_CNT = (s.get HK.STATUS.ROUND_CNT + 1) % 2 ^ HK.STATUS.ROUND_CNT.width ∧
      (s.is HK.CTL.THR_EN = false → t.get HK.THR_VAL0.AXA = 16 ∧ t.get HK.THR_VAL0.AXB = 16 ∧ t.get HK.THR_VAL0.AUX0 = 16 ∧
        t.get HK.THR_VAL0.AUX1 = 16 ∧ t.get HK.THR_VAL1.AUX2 = 16) := by
  have hcond : (s.hkRuns && s.is HK.busy) = true := by rw [h.1, h.2, Bool.and_self]
  refine ⟨_, congrArg Host.Outcome.next (if_pos hcond), ?_⟩
  generalize hu : ((((s.set HK.busy 0).inc HK.STATUS.ROUND_CNT).set HK.rounded 1).set HK.roundT s.now) = u
  have hrows : RowsKept [HK.rounded, HK.roundT] ((s.set HK.busy 0).inc HK.STATUS.ROUND_CNT) u :=
    hu ▸ ((framed_refl (fs := []) _).set (by decide) |>.set (by decide)).rows
  have hthr := (framed_throttle u).rows
  have hband := (framed_bandRound u.throttle).rows
  refine ⟨?_, ?_, fun hoff => ?_⟩
  · rw [hband.is_distinct (by decide) (by decide), hthr.is_distinct (by decide) (by decide), hrows.is_distinct (by decide) (by decide),
      is, inc, get_set_distinct _ (by decide) (by decide) (by decide)]
    exact is_set_zero ..
  · rw [hband.get_distinct (by decide) (by decide), hthr.get_distinct (by decide) (by decide), hrows.get_distinct (by decide) (by decide),
      inc, get_set_self, get_set_distinct _ (by decide) (by decide) (by decide)]
  · have hoff' : u.is HK.CTL.THR_EN = false := by
      rw [hrows.is_distinct (by decide) (by decide), is, inc, get_set_distinct _ (by decide) (by decide) (by decide),
        get_set_distinct _ (by decide) (by decide) (by decide)]
      exact hoff
    rw [hband.get_distinct (by decide) (by decide), hband.get_distinct (by decide) (by decide), hband.get_distinct (by decide) (by decide),
      hband.get_distinct (by decide) (by decide), hband.get_distinct (by decide) (by decide)]
    exact throttle_reads_off hoff'

theorem exec_roundDone_idle (s : State) (h : s.hkRuns = false ∨ s.is HK.busy = false) : ∃ t, exec .roundDone s = .next t ∧ t = s := by
  have hcond : ¬(s.hkRuns && s.is HK.busy) = true := by
    rcases h with h | h <;> rw [h] <;> simp
  exact ⟨_, congrArg Host.Outcome.next (if_neg hcond), rfl⟩

/-- A flag that is raised stands. -/
theorem exec_hkStale (s : State) (h : s.get HK.roundT + 12000000 ≤ s.now) :
    ∃ t, exec .hkStale s = .next t ∧ t.is HK.STATUS.STALE = true :=
  ⟨_, congrArg Host.Outcome.next (if_neg (Nat.not_lt.2 h)), is_raise _ _ _ _ _ _ (by decide) (by decide)⟩

theorem exec_bsRst (s : State) (hpd : s.pdOn 2 = true) :
    ∃ t, exec .bsRst s = .next t ∧ ∀ k < 3, t.get HK.BS_MIN.U k = 0x3FF ∧ t.get HK.BS_MIN.V k = 0x3FF ∧ t.get HK.BS_MIN.W k = 0x3FF := by
  have hcond : ¬(!s.pdOn 2) = true := by rw [hpd]; exact nofun
  refine ⟨_, congrArg Host.Outcome.next (if_neg hcond), fun k hk => ?_⟩
  have hmin := get_bsRst s hk
  exact ⟨hmin _ (by decide), hmin _ (by decide), hmin _ (by decide)⟩

/-! ## Hardware shutdown holds (R373, R374) -/

/-- The members of one bridge's switches are places of their own. -/
theorem sw_key_ne (bridge : Fin 3) (j k : Fin 6) (h : j ≠ k) : PU.sw.key (2 + bridge) j ≠ PU.sw.key (2 + bridge) k := by
  revert bridge j k
  decide

/-- A bridge that is off has no switch on. -/
theorem is_sw_axBridgeOff (s : State) (bridge : Fin 3) {k : Nat} (hk : k < 6) :
    (s.axBridgeOff bridge).is PU.sw (2 + bridge) k = false := by
  have hp : 2 + bridge.val < 5 := by omega
  have honT (t : State) {j v : Nat} (hj : j < 6) : (t.set PU.onT v (2 + bridge) j).get PU.sw (2 + bridge) k = t.get PU.sw (2 + bridge) k :=
    get_set_ne _ _ _ _ _ _ (Row.key_ne_of_distinct (by decide) hp hj hp hk)
  obtain ⟨u, -, hu⟩ := forN_turn (R := fun s t => t.get PU.sw (2 + bridge) k = s.get PU.sw (2 + bridge) k) (fun _ => rfl)
    (fun h h' => h'.trans h) hk (fun j t => (t.set PU.sw 0 (2 + bridge) j).set PU.onT 0 (2 + bridge) j)
    (fun j t hj hne => by
      rw [honT _ hj, get_set_ne _ _ _ _ _ _ (sw_key_ne bridge ⟨j, hj⟩ ⟨k, hk⟩ fun e => hne (Fin.mk.inj e))]) s
  rw [is, axBridgeOff, bridgeOff, hu, honT _ hk]
  exact is_set_zero ..

theorem exec_abiOt (bridge : Fin 3) (s : State) :
    ∃ t, exec (.abiOt bridge) s = .next t ∧
      t.getBit HK.OT_STAT.ABI bridge = true ∧ t.getBit PU.tripIn 14 (2 + bridge) = true ∧ ∀ k < 6, t.is PU.sw (2 + bridge) k = false := by
  have hp : 2 + bridge.val < 5 := by omega
  have hcool : 31 + bridge.val < HK.coolT.c1 := by
    change 31 + bridge.val < 38
    omega
  have htrip (u : State) : RowsKept [PU.tripIn] u (u.tripIn (2 + bridge) 14) := ((framed_refl (fs := []) u).tripIn hp (by decide)).rows
  have hoff (u : State) : RowsKept [HK.coolT, PU.sw, PU.onT] u ((u.set HK.coolT s.now (31 + bridge)).axBridgeOff bridge) :=
    (((framed_refl (fs := []) u).setIn hcool (by decide)).andThen (framed_axBridgeOff _ bridge.isLt) (by decide)).rows
  refine ⟨_, rfl, ?_, getBit_setBit_self _ _ _ _ (by decide), fun k hk => ?_⟩
  · rw [(htrip _).getBit_distinct (by decide) (by decide), (hoff _).getBit_distinct (by decide) (by decide)]
    exact getBit_setBit_self _ _ _ _ bridge.isLt
  · rw [(htrip _).is_distinct hp ⟨by decide, hk⟩]
    exact is_sw_axBridgeOff _ bridge hk

/-- Both axes are called into the safe state for a die's over-temperature (R373). -/
theorem dieOtCall_reads (s : State) : s.dieOtCall.getBit BL.causeReq SsCause.dieOt.bit 0 = true ∧
    s.dieOtCall.getBit BL.causeReq SsCause.dieOt.bit 1 = true := by
  refine ⟨?_, getBit_setBit_self _ _ _ _ (by decide)⟩
  rw [dieOtCall, callSafeBoth, setBit, getBit, get_set_ne _ _ _ _ _ _ (by decide)]
  exact getBit_setBit_self _ _ _ _ (by decide)

theorem exec_dieOt (belay : Bool) (s : State) :
    ∃ t, exec (.dieOt belay) s = .next t ∧ (if belay then t.is HK.OT_STAT.BI else t.is HK.OT_STAT.CI) = true ∧
      t.getBit BL.causeReq SsCause.dieOt.bit 0 = true ∧ t.getBit BL.causeReq SsCause.dieOt.bit 1 = true := by
  refine ⟨_, rfl, ?_, dieOtCall_reads _⟩
  have hcall (u : State) := (framed_dieOtCall u).rows
  cases belay
  · have hcool (u : State) : RowsKept [HK.coolT] u (u.forN 6 fun k t => t.set HK.coolT s.now (24 + k)) :=
      ((framed_refl (fs := []) u).forN fun k t hk => (framed_refl t).setIn (show 24 + k < 38 by omega) (by decide)).rows
    rw [if_neg nofun, if_neg nofun, (hcall _).is_distinct (by decide) (by decide), (hcool _).is_distinct (by decide) (by decide)]
    exact is_set_one _ _ _ _ (by decide)
  · rw [if_pos rfl, if_pos rfl, (hcall _).is_distinct (by decide) (by decide), is, get_set_distinct _ (by decide) (by decide) (by decide)]
    exact is_set_one _ _ _ _ (by decide)

/-- An island's two flags of a shutdown are clear together where each is. -/
theorem iOt_clear {s : State} {d i : Nat} (hd : d < 2) (hother : s.getBit GI.iOt (1 - d) i = false) :
    (s.setBit GI.iOt d false i).is GI.iOt i = false := by
  have hself : (s.setBit GI.iOt d false i).getBit GI.iOt d i = false := getBit_setBit_false ..
  have hne : (s.setBit GI.iOt d false i).getBit GI.iOt (1 - d) i = false := by
    rw [getBit_setBit_ne _ _ _ _ _ (show 1 - d < 2 by omega) hd (by omega), hother]
  have hwidth : (s.setBit GI.iOt d false i).get GI.iOt i < 2 ^ 2 := get_lt ..
  rw [is, bne_eq_false_iff_eq]
  have hd' : d = 0 ∨ d = 1 := by omega
  simp only [getBit, bit, beq_eq_false_iff_ne] at hself hne
  rcases hd' with rfl | rfl <;> simp only [Nat.sub_zero, Nat.sub_self, pow_zero, pow_one] at hself hne <;> omega

theorem exec_otRestart_cooled (sensor : Fin 38) (s : State) (hcool : s.cooled sensor = true)
    (hall : 24 ≤ sensor.val → sensor.val < 30 → ∀ k < 6, s.cooled (24 + k) = true) :
    ∃ t, exec (.otRestart sensor) s = .next t ∧
      (sensor.val < 24 → t.getBit GI.iOt (sensor / 12) (sensor % 12) = false ∧
        (s.getBit GI.iOt (1 - sensor / 12) (sensor % 12) = false → s.get GI.iOt (sensor % 12) < 4 →
          t.getBit HK.OT_STAT.GI (sensor % 12) = false)) ∧
      (24 ≤ sensor.val → sensor.val < 30 → t.is HK.OT_STAT.CI = false) ∧
      (sensor.val = 30 → t.is HK.OT_STAT.BI = false) ∧
      (31 ≤ sensor.val → sensor.val < 34 → t.getBit HK.OT_STAT.ABI (sensor - 31) = false ∧ t.getBit PU.tripIn 14 (sensor - 29) = false) := by
  have hdie (u : State) {c : Bool} : RowsKept [BL.dieOt] u (u.on c (·.set BL.dieOt 0)) :=
    ((framed_refl (fs := []) u).on fun _ => (framed_refl u).set (by decide)).rows
  have hgo : ¬(!s.cooled sensor || (24 ≤ sensor.val && sensor.val < 30 && !(List.range 6).all fun k => s.cooled (24 + k))) = true := by
    rw [hcool]
    simp only [Bool.not_true, Bool.false_or, Bool.and_eq_true, decide_eq_true_eq, Bool.not_eq_true', not_and, Bool.not_eq_false,
      List.all_eq_true, List.mem_range, and_imp]
    exact hall
  obtain ⟨n, hn⟩ := sensor
  simp only at hgo hall
  show ∃ t, execOtRestart ⟨n, hn⟩ s = .next t ∧ _
  simp only [execOtRestart]
  rw [if_neg hgo]
  rcases (by omega : n < 24 ∨ 24 ≤ n ∧ n < 30 ∨ n = 30 ∨ 31 ≤ n ∧ n < 34 ∨ 34 ≤ n) with h | ⟨hlo, hhi⟩ | rfl | ⟨hlo, hhi⟩ | h
  · refine ⟨_, congrArg Host.Outcome.next (if_pos h), fun _ => ?_, by omega, by omega, by omega⟩
    have hi : n % 12 < 12 := Nat.mod_lt _ (by decide)
    have hd : n / 12 < 2 := by omega
    have hp : n % 12 / 6 < 5 := by omega
    have htrip (u : State) {c : Bool} : RowsKept [PU.tripIn] u (u.on c (·.tripIn (n % 12 / 6) 4 false)) :=
      ((framed_refl (fs := []) u).on fun _ => (framed_refl u).tripIn hp (by decide)).rows
    have hgi (u : State) {c : Bool} : RowsKept [HK.OT_STAT.GI] u (u.on c (·.setBit HK.OT_STAT.GI (n % 12) false)) :=
      ((framed_refl (fs := []) u).on fun _ => (framed_refl u).set (by decide)).rows
    rw [(htrip _).getBit_distinct hi (by decide), (hgi _).getBit_distinct hi (by decide), (htrip _).getBit_distinct (by decide) (by decide)]
    refine ⟨getBit_setBit_false .., fun hother _ => ?_⟩
    rw [iOt_clear hd hother]
    exact getBit_setBit_false ..
  · refine ⟨_, congrArg Host.Outcome.next ((if_neg (by omega)).trans (if_pos hhi)), by omega, fun _ _ => ?_, by omega, by omega⟩
    rw [(hdie _).is_distinct (by decide) (by decide)]
    exact is_set_zero ..
  · refine ⟨_, congrArg Host.Outcome.next ((if_neg (by decide)).trans <| (if_neg (by decide)).trans (if_pos (by decide))),
      by omega, by omega, fun _ => ?_, by omega⟩
    rw [(hdie _).is_distinct (by decide) (by decide)]
    exact is_set_zero ..
  · have hp : 2 + (n - 31) < 5 := by omega
    have hunit : 2 + (n - 31) = n - 29 := by omega
    refine ⟨_, congrArg Host.Outcome.next ((if_neg (by omega)).trans <| (if_neg (by omega)).trans <| (if_neg (by omega)).trans (if_pos hhi)),
      by omega, by omega, by omega, fun _ _ => ⟨?_, ?_⟩⟩
    · rw [((framed_refl (fs := []) _).tripIn (rs := [PU.tripIn]) hp (by decide)).rows.getBit_distinct (by decide) (by decide)]
      exact getBit_setBit_false ..
    · rw [hunit]
      exact getBit_setBit_false ..
  · exact ⟨_, congrArg Host.Outcome.next ((if_neg (by omega)).trans <| (if_neg (by omega)).trans <| (if_neg (by omega)).trans
      (if_neg (by omega))), by omega, by omega, by omega, by omega⟩

theorem exec_otRestart_warm (sensor : Fin 38) (s : State)
    (h : s.is HK.TEMP.FAULT sensor = true ∨ s.is HK.otFail sensor = true ∨ s.now < s.get HK.coolT sensor + 400000000) :
    ∃ t, exec (.otRestart sensor) s = .next t ∧ t = s := by
  have hcooled : s.cooled sensor = false := by
    rcases h with h | h | h
    · simp [cooled, h]
    · simp [cooled, h]
    · simp [cooled, Nat.not_le.2 h]
  refine ⟨_, congrArg Host.Outcome.next (if_pos ?_), rfl⟩
  rw [hcooled]
  rfl

theorem exec_hkPitArm (sens : BitVec 6) (sel : BitVec 4) (s : State)
    (h : s.pitAllowed = true ∧ sens.toNat ≤ 37 ∧ 1 ≤ sel.toNat ∧ sel.toNat ≤ 2) (hpd : s.pdOn 2 = true) :
    ∃ t, exec (.hkPitArm sens sel) s = .next t ∧
      t.is HK.PIT_CTL.ARM = true ∧ t.get BL.PIT_STAT.SOURCE = 0x19 ∧ t.get HK.PIT_CTL.SENS = sens.toNat := by
  obtain ⟨ha, hreal⟩ := h
  have hexec : exec (.hkPitArm sens sel) s = .next
      ((((s.set HK.PIT_CTL.SENS sens.toNat).set HK.PIT_CTL.SEL sel.toNat).pitSet 0x19 sel.toNat sens.toNat 0).set HK.PIT_CTL.ARM 1) := by
    show execHkPitArm sens sel s = _
    simp only [execHkPitArm, hpd, pitArm, ha, decide_eq_true hreal, Bool.not_true, Bool.false_eq_true, if_false, if_true]
  have harm (u : State) : RowsKept [HK.PIT_CTL.ARM] u (u.set HK.PIT_CTL.ARM 1) := rowsKept_set_only u (by decide) (by decide)
  refine ⟨_, hexec, is_set_one _ _ _ _ (by decide), ?_, ?_⟩
  · rw [(harm _).get_distinct (by decide) (by decide)]
    exact (pitSet_reads ..).2.1
  · rw [(harm _).get_distinct (by decide) (by decide), (framed_pitSet ..).rows.get_distinct (by decide) (by decide),
      get_set_distinct _ (by decide) (by decide) (by decide), get_set_self]
    exact Nat.mod_eq_of_lt sens.isLt

end State

/-- Settles O25: a round latches each sensor at its own registers, and the end of a hold clears the flag of what cooled. -/
theorem temperaturesThrottlesAndHolds : Obligations.TemperaturesThrottlesAndHolds := by
  unfold Obligations.TemperaturesThrottlesAndHolds
  exact ⟨State.exec_slowRound_die, State.exec_roundDone_busy, State.exec_roundDone_idle, State.exec_hkStale, State.exec_bsRst,
    State.exec_abiOt, State.exec_dieOt, State.exec_otRestart_cooled, State.exec_otRestart_warm, State.exec_hkPitArm⟩

end Sys2Proof.Machine
end

/-!
The Belay island (12): what its selection, its lines and its safe states read, and which rows they leave alone.
-/
section
namespace Sys2Proof.Machine
set_option Elab.async false
namespace State

variable {rs : List Row} {s t : State}

/-! ## What governs an axis (R281, R306) -/

theorem RowsKept.gov_eq (h : RowsKept rs s t) {r : Row} {k a i : Nat} (ha : a < 3) (hk : k < 13) (hi : i < r.c1)
    (hr : ([BL.govOk, BL.gov, r].all fun q => rs.all q.distinct) = true ∧ 0 < r.c2) : t.gov r k a i = s.gov r k a i := by
  obtain ⟨hr, hc2⟩ := hr
  simp only [List.all_cons, List.all_nil, Bool.and_true, Bool.and_eq_true] at hr
  obtain ⟨hok, hgov, hrow⟩ := hr
  rw [gov, gov, h.is_distinct (r := BL.govOk) ha ⟨hok, by decide⟩, h.get_distinct (r := BL.gov) ha ⟨hgov, hk⟩, h.get_distinct hi ⟨hrow, hc2⟩]

/-- The rows that tell which policy governs an axis (R281). -/
def policyRows : List Row := [BL.AXIS.POLICY, BL.idleOk, BL.idlePolicy] ++ sectionRows

theorem all_of_append {p : Row → Bool} {l m : List Row} (h : ((l ++ m).all p) = true) : l.all p = true ∧ m.all p = true := by
  rwa [List.all_append, Bool.and_eq_true] at h

theorem policy_lt (s : State) (a : Nat) : s.policy a < 16 := by
  unfold policy
  split
  · exact get_lt s BL.AXIS.POLICY a 0
  · split
    · exact get_lt s BL.idlePolicy a 0
    · decide

theorem RowsKept.policy_eq (h : RowsKept rs s t) {a : Nat} (ha : a < 2) (hr : (policyRows.all fun r => rs.all r.distinct) = true) :
    t.policy a = s.policy a := by
  obtain ⟨hown, hsection⟩ := all_of_append hr
  simp only [List.all_cons, List.all_nil, Bool.and_true, Bool.and_eq_true] at hown
  obtain ⟨hpolicy, hok, hidle⟩ := hown
  obtain ⟨hin, -⟩ := h.section_eq ha hsection (off := 0x048) (by decide) 0 0
  rw [policy, policy, hin, h.get_distinct (r := BL.AXIS.POLICY) ha ⟨hpolicy, by decide⟩, h.is_distinct (r := BL.idleOk) ha ⟨hok, by decide⟩,
    h.get_distinct (r := BL.idlePolicy) ha ⟨hidle, by decide⟩]

theorem RowsKept.pol_eq (h : RowsKept rs s t) {a k : Nat} (ha : a < 2) (hr : (policyRows.all fun r => rs.all r.distinct) = true) {r : Row}
    (hk : k < 13) (hg : ([BL.govOk, BL.gov, r].all fun q => rs.all q.distinct) = true ∧ 0 < r.c2) (hc1 : r.c1 = 16) :
    t.gov r k a (t.policy a) = s.gov r k a (s.policy a) := by
  rw [h.policy_eq ha hr, h.gov_eq (by omega) hk (hc1 ▸ s.policy_lt a) hg]

/-! ## The line of an axis (R277, R278) -/

/-- The rows that the line of an axis follows. -/
def lineRows : List Row := [BL.halted, BL.clkLost, BL.wind, BL.run, BL.AXIS.SAFE, BL.AXIS.SEL_SHORT, GI.STATUS.OVB, BL.sideRep, BL.govOk,
  BL.gov, BL.POL_HI.SHORT_SIDE] ++ policyRows

theorem RowsKept.shortCode_eq (h : RowsKept rs s t) {a : Nat} (ha : a < 2) (hr : (lineRows.all fun r => rs.all r.distinct) = true) :
    t.shortCode a = s.shortCode a := by
  have hd : ∀ r ∈ lineRows, rs.all r.distinct = true := List.all_eq_true.1 hr
  have hpolicy := (all_of_append hr).2
  have hjoined : t.joined = s.joined := h.joined_eq (hd _ (by decide))
  have hovb : ∀ i < 12, t.is GI.STATUS.OVB i = s.is GI.STATUS.OVB i := fun i hi => h.is_distinct hi ⟨hd _ (by decide), by decide⟩
  have hside : ∀ i < 2, ∀ j < 2, t.is BL.sideRep i j = s.is BL.sideRep i j := fun i hi j hj => h.is_distinct hi ⟨hd _ (by decide), hj⟩
  have hpol : t.polHi BL.POL_HI.SHORT_SIDE a = s.polHi BL.POL_HI.SHORT_SIDE a := h.pol_eq ha hpolicy (by decide)
    ⟨List.all_eq_true.2 fun r hr => hd r (by revert r; decide), by decide⟩ rfl
  have hislands : t.axisOvb a = s.axisOvb a := by
    simp only [axisOvb, hjoined]
    split
    · simp (disch := decide) only [List.any_cons, List.any_nil, hovb]
    · simp only [List.any_cons, List.any_nil, hovb (6 * a + 1) (by omega), hovb (6 * a + 3) (by omega), hovb (6 * a + 5) (by omega)]
  have hreported : ∀ i < 2, t.sideReported a i = s.sideReported a i := fun i hi => by
    simp only [sideReported, hjoined, hside i hi 0 (by decide), hside i hi 1 (by decide), hside i hi a ha]
  simp only [shortCode, hislands, hpol, hreported 0 (by decide), hreported 1 (by decide)]

theorem RowsKept.lineOf_eq (h : RowsKept rs s t) {a : Nat} (ha : a < 2) (hr : (lineRows.all fun r => rs.all r.distinct) = true) :
    t.lineOf a = s.lineOf a := by
  have hd : ∀ r ∈ lineRows, rs.all r.distinct = true := List.all_eq_true.1 hr
  have hl : s.lead a < 2 := lead_lt s ha
  simp only [lineOf, selCode, h.lead_eq (hd _ (by decide)), h.shortCode_eq hl hr,
    h.is_distinct (r := BL.halted) (i := 0) (j := 0) (by decide) ⟨hd _ (by decide), by decide⟩,
    h.is_distinct (r := BL.clkLost) (i := 0) (j := 0) (by decide) ⟨hd _ (by decide), by decide⟩,
    h.is_distinct (r := BL.wind) (j := 0) hl ⟨hd _ (by decide), by decide⟩, h.is_distinct (r := BL.run) (j := 0) hl ⟨hd _ (by decide), by decide⟩,
    h.is_distinct (r := BL.AXIS.SAFE) (j := 0) hl ⟨hd _ (by decide), by decide⟩,
    h.is_distinct (r := BL.AXIS.SEL_SHORT) (j := 0) hl ⟨hd _ (by decide), by decide⟩]

theorem lineOf_lt (s : State) (a : Nat) : s.lineOf a < 8 := by
  have hshort (b : Nat) : s.shortCode b < 8 := by
    unfold shortCode
    split
    · decide
    · split
      · decide
      · split <;> decide
      · decide
  simp only [lineOf, selCode]
  split
  · decide
  · split
    · decide
    · split
      · exact hshort _
      · decide

/-- Every line carries its code, and what goes before keeps it so. -/
theorem lines_reads (s : State) {a : Nat} (ha : a < 2) : s.lines.get BL.AXIS.LINE a = s.lines.lineOf a := by
  have hcode : s.lines.lineOf a = s.lineOf a := (framed_lines s).rows.lineOf_eq ha (by decide)
  have hline : s.lines.get BL.AXIS.LINE a = s.lineOf a % 8 := by
    have ha' : a = 0 ∨ a = 1 := by omega
    rcases ha' with rfl | rfl
    · exact (get_set_ne _ _ _ _ _ _ (by decide)).trans (get_set_self ..)
    · exact get_set_self ..
  rw [hline, hcode, Nat.mod_eq_of_lt (s.lineOf_lt a)]

theorem RowsKept.lines_eq (h : RowsKept rs s t) (hr : ((BL.AXIS.LINE :: lineRows).all fun r => rs.all r.distinct) = true)
    (hs : ∀ a < 2, s.get BL.AXIS.LINE a = s.lineOf a) : ∀ a < 2, t.get BL.AXIS.LINE a = t.lineOf a := by
  rw [List.all_cons, Bool.and_eq_true] at hr
  intro a ha
  rw [h.get_distinct (r := BL.AXIS.LINE) ha ⟨hr.1, by decide⟩, h.lineOf_eq ha hr.2]
  exact hs a ha

/-! ## The back-EMF and the speed (R279, R280) -/

theorem spdRow_mem (a : Nat) : spdRow a ∈ [BL.SPD.SPD_A, BL.SPD.SPD_B] := by
  unfold spdRow
  split <;> decide

theorem RowsKept.spdRow_eq (h : RowsKept rs s t) (a : Nat) (hr : ([BL.SPD.SPD_A, BL.SPD.SPD_B].all fun r => rs.all r.distinct) = true) :
    t.get (spdRow a) = s.get (spdRow a) := by
  have hone : ∀ r ∈ [BL.SPD.SPD_A, BL.SPD.SPD_B], 0 < r.c1 ∧ 0 < r.c2 := by decide
  have hrow := hone _ (spdRow_mem a)
  exact h.get_distinct hrow.1 ⟨List.all_eq_true.1 hr _ (spdRow_mem a), hrow.2⟩

/-- The rows that the back-EMF and the voltage beside it follow. -/
def emfRows : List Row := [BL.SPD.SPD_A, BL.SPD.SPD_B, BL.TM_PSI.PSI_PM, BL.govOk, BL.gov, BL.idleWBase, BL.idleVBase, BL.idleVmin, BL.vblEver,
  BL.vblStale, BL.VDC_ACC.V_BL, BL.POL_LO.SC_ON, BL.POL_LO.SC_OFF] ++ policyRows

theorem RowsKept.emfSquares_eq (h : RowsKept rs s t) {a : Nat} (ha : a < 2) (hr : (emfRows.all fun r => rs.all r.distinct) = true) (k : Nat) :
    t.emfSquares a k = s.emfSquares a k := by
  have hd : ∀ r ∈ emfRows, rs.all r.distinct = true := List.all_eq_true.1 hr
  have hsection : (sectionRows.all fun r => rs.all r.distinct) = true := (all_of_append (all_of_append hr).2).2
  obtain ⟨hin, hw⟩ := h.section_eq ha hsection (off := 0x048) (by decide) 15 0
  obtain ⟨-, hv⟩ := h.section_eq ha hsection (off := 0x040) (by decide) 31 16
  obtain ⟨-, hmin⟩ := h.section_eq ha hsection (off := 0x058) (by decide) 15 0
  have hspd : t.geti (spdRow a) = s.geti (spdRow a) := by
    rw [geti, geti, h.spdRow_eq a (List.all_eq_true.2 fun r hr => hd r (by revert r; decide))]
  have hpsi : t.gov BL.TM_PSI.PSI_PM 4 a a = s.gov BL.TM_PSI.PSI_PM 4 a a := h.gov_eq (by omega) (by decide) ha
    ⟨List.all_eq_true.2 fun r hr => hd r (by revert r; decide), by decide⟩
  simp only [emfSquares, vBl, wBase, vBase, vdcMin, hspd, hpsi, hin, hw, hv, hmin,
    h.get_distinct (r := BL.idleWBase) (j := 0) ha ⟨hd _ (by decide), by decide⟩, h.get_distinct (r := BL.idleVBase) (j := 0) ha ⟨hd _ (by decide), by decide⟩,
    h.get_distinct (r := BL.idleVmin) (j := 0) ha ⟨hd _ (by decide), by decide⟩, h.is_distinct (r := BL.idleOk) (j := 0) ha ⟨hd _ (by decide), by decide⟩,
    h.is_distinct (r := BL.vblEver) (i := 0) (j := 0) (by decide) ⟨hd _ (by decide), by decide⟩,
    h.is_distinct (r := BL.vblStale) (i := 0) (j := 0) (by decide) ⟨hd _ (by decide), by decide⟩,
    h.get_distinct (r := BL.VDC_ACC.V_BL) (i := 0) (j := 0) (by decide) ⟨hd _ (by decide), by decide⟩]

theorem RowsKept.polLo_eq (h : RowsKept rs s t) {a : Nat} (ha : a < 2) (hr : (emfRows.all fun r => rs.all r.distinct) = true) :
    t.polLo BL.POL_LO.SC_ON a = s.polLo BL.POL_LO.SC_ON a ∧ t.polLo BL.POL_LO.SC_OFF a = s.polLo BL.POL_LO.SC_OFF a := by
  have hd : ∀ r ∈ emfRows, rs.all r.distinct = true := List.all_eq_true.1 hr
  have hpolicy := (all_of_append hr).2
  exact ⟨h.pol_eq ha hpolicy (by decide) ⟨List.all_eq_true.2 fun r hr => hd r (by revert r; decide), by decide⟩ rfl,
    h.pol_eq ha hpolicy (by decide) ⟨List.all_eq_true.2 fun r hr => hd r (by revert r; decide), by decide⟩ rfl⟩

/-- The rows that the Belay clock counts in. -/
def belayClockRows : List Row := [BL.VDC_ACC.AGE, BL.hbT, BL.HB.HB_MISS, BL.lockUs, BL.PWD_STAT.LOCK_LEFT, BL.selN, BL.AXIS.BIV_LEFT]

theorem framed_lockCount (s : State) : Framed belayClockRows [] s s.lockCount := by
  unfold lockCount
  refine .ite (fun _ => framed_refl s) fun _ => ?_
  extract_lets n
  exact .ite (fun _ => (framed_refl s).set (by decide)) fun _ => .ite (fun _ => (framed_refl s).set (by decide)) fun _ =>
    ((framed_refl s).set (by decide)).set (by decide)

theorem framed_belayClock (s : State) {a : Nat} (ha : a < 2) : Framed belayClockRows [] s (s.belayClock a) := by
  unfold belayClock
  extract_lets s1
  have h1 : Framed belayClockRows [] s s1 := (framed_refl s).on fun _ =>
    ((((framed_refl s).set (by decide)).set (by decide)).set (by decide)).trans (framed_lockCount _)
  clear_value s1
  exact .ite (fun _ => h1) fun _ => .ite (fun _ => h1.setIn ha (by decide)) fun _ => (h1.setIn ha (by decide)).setIn ha (by decide)

/-- The Belay clock counts in no row that tells of edges. -/
theorem blSpeed_belayClock (s : State) {a : Nat} (ha : a < 2) : (s.belayClock a).blSpeed a = s.blSpeed a := by
  have h := (s.framed_belayClock ha).rows
  have hnow : (s.belayClock a).now = s.now := (s.framed_belayClock ha).recs .now (by decide)
  have hcpr : (s.belayClock a).gov BL.TM_CPR.CPR_BL 7 a a = s.gov BL.TM_CPR.CPR_BL 7 a a := h.gov_eq (by omega) (by decide) ha (by decide)
  have hrate := h.rateOf_eq ha (by decide)
  have hpoles := h.poles_eq ha (by decide)
  have hin : (s.belayClock a).secInForce a = s.secInForce a := (h.section_eq ha (by decide) (off := 0x048) (by decide) 0 0).1
  have hN : s.get BL.blN a < 8 := get_lt s BL.blN a 0
  have htimes : ∀ j < 7, (s.belayClock a).get BL.blT a j = s.get BL.blT a j := by
    intro j hj
    refine h _ _ _ fun q hq i hi b hb => Row.key_ne_of_beyondSpan (a := BL.blT.key 0 0 / 32) (b := BL.blT.key 1 6 / 32) ?_ ?_ hi hb
    · have hrows : ∀ q ∈ belayClockRows, q.beyondSpan (BL.blT.key 0 0 / 32) (BL.blT.key 1 6 / 32) = true := by decide
      exact hrows q hq
    · have hall : ∀ (i : Fin 2) (j : Fin 7), BL.blT.key 0 0 / 32 ≤ BL.blT.key i j / 32 ∧ BL.blT.key i j / 32 ≤ BL.blT.key 1 6 / 32 := by decide
      exact hall ⟨a, ha⟩ ⟨j, hj⟩
  simp only [blSpeed, hcpr, hrate, hpoles, hin, hnow, htimes 0 (by decide), htimes (s.get BL.blN a - 1) (by omega),
    h.get_distinct (r := BL.blN) (j := 0) ha (by decide), h.is_distinct (r := BL.lineFlt) (j := 0) ha (by decide), h.is_distinct (r := BL.blTimed) (j := 0) ha (by decide),
    h.is_distinct (r := BL.idleOk) (j := 0) ha (by decide), h.is_distinct (r := BL.blDir) (j := 0) ha (by decide)]

/-- A speed of the Belay island fits its register (R280). -/
theorem blSpeed_bounds {s : State} {a : Nat} {w : Int} (h : s.blSpeed a = some w) : -2 ^ 15 ≤ w ∧ w < 2 ^ 15 := by
  simp only [blSpeed] at h
  split at h
  · exact absurd h nofun
  · split at h
    · obtain rfl := Option.some.inj h
      decide
    · obtain rfl := Option.some.inj h
      generalize (if s.now - s.get BL.blT a 0 = 0 then _ else _ : Nat) = m
      split <;> omega

end State
end Sys2Proof.Machine
end

/-!
The Belay island (12): its selection, its safe states and their release, and the torque monitors' verdicts (O30).
-/
section
namespace Sys2Proof.Machine
set_option Elab.async false
namespace State

/-! ## The selection (R279, R280) -/

/-- The speed formed, or marked unknown (R280). -/
def spdFormed (s : State) (a : Nat) : Option Int → State
  | some x => (s.set BL.spdKnown 1 a).seti (spdRow a) x
  | none => (s.set BL.spdKnown 0 a).set (spdRow a) 0x8000

theorem framed_spdFormed (s : State) {a : Nat} (ha : a < 2) (w : Option Int) :
    Framed [BL.spdKnown, BL.SPD.SPD_A, BL.SPD.SPD_B] [] s (s.spdFormed a w) := by
  have hrow : spdRow a ∈ [BL.spdKnown, BL.SPD.SPD_A, BL.SPD.SPD_B] ∧ 0 < (spdRow a).c1 ∧ 0 < (spdRow a).c2 := by
    unfold spdRow
    split <;> decide
  cases w with
  | none => exact ((framed_refl s).setIn ha (by decide)).set hrow
  | some x => exact ((framed_refl s).setIn ha (by decide)).set hrow

theorem spdKnown_spdFormed (s : State) {a : Nat} (ha : a < 2) (w : Option Int) : (s.spdFormed a w).is BL.spdKnown a = w.isSome := by
  have hrow (u : State) (v : Nat) : (u.set (spdRow a) v).is BL.spdKnown a = u.is BL.spdKnown a := by
    unfold spdRow is
    split
    · rw [get_set_distinct _ (by decide) ha (by decide)]
    · rw [get_set_distinct _ (by decide) ha (by decide)]
  cases w with
  | none => exact (hrow _ _).trans (is_set_zero ..)
  | some x => exact (hrow _ _).trans (is_set_one _ _ _ _ (by decide))

theorem spdRow_width (a : Nat) : (spdRow a).width = 16 := by
  unfold spdRow
  split <;> rfl

/-- The rows that a selection writes once the speed is formed. -/
def selectRows : List Row := [BL.AXIS.SEL_SHORT, BL.selOnce, BL.AXIS.LINE, RING.lost]

/-- A selection by its parts: the clock, the speed, the selection and the lines. -/
theorem exec_blSelection (axis : Fin 2) (s : State) : ∃ t, exec (.blSelection axis) s = .next t ∧
    Framed selectRows [.events, .store] ((s.belayClock axis).spdFormed axis (s.blSpeed axis)) t ∧
    t.is BL.AXIS.SEL_SHORT axis = ((s.belayClock axis).spdFormed axis (s.blSpeed axis)).selNext axis ∧
    ∀ a < 2, t.get BL.AXIS.LINE a = t.lineOf a := by
  have hspeed := s.blSpeed_belayClock axis.isLt
  generalize hu : (s.belayClock axis).spdFormed axis (s.blSpeed axis) = u
  generalize hv : (u.setb BL.AXIS.SEL_SHORT (u.selNext axis) axis).set BL.selOnce 1 axis = v
  have hexec : exec (.blSelection axis) s = .next ((v.on (u.is BL.AXIS.SEL_SHORT axis != u.selNext axis) fun t =>
      t.safetyLog (s.lead axis) 0x0202 (ofBool (u.is BL.AXIS.SEL_SHORT axis)) (ofBool (u.selNext axis) * 65536 + t.emfReport axis)).lines) := by
    show execBlSelection axis s = _
    rw [← hv, ← hu, execBlSelection, hspeed]
    cases s.blSpeed axis <;> rfl
  have hv' : Framed selectRows [.events, .store] u v := hv ▸ ((framed_refl u).setIn axis.isLt (by decide)).setIn axis.isLt (by decide)
  have hlog : Framed [RING.lost] [.events, .store] v (v.on (u.is BL.AXIS.SEL_SHORT axis != u.selNext axis) fun t =>
      t.safetyLog (s.lead axis) 0x0202 (ofBool (u.is BL.AXIS.SEL_SHORT axis)) (ofBool (u.selNext axis) * 65536 + t.emfReport axis)) :=
    (framed_refl v).on fun _ => framed_safetyLog ..
  generalize v.on (u.is BL.AXIS.SEL_SHORT axis != u.selNext axis) _ = w at hlog hexec
  have hsel : v.is BL.AXIS.SEL_SHORT axis = u.selNext axis := by
    rw [← hv, is, get_set_distinct _ axis.isLt axis.isLt (by decide)]
    exact is_setb_self _ _ _ _ _ (by decide)
  refine ⟨_, hexec, (hv'.andThen hlog (by decide)).andThen (framed_lines w) (by decide), ?_, fun a ha => lines_reads w ha⟩
  rw [(framed_lines w).rows.is_distinct axis.isLt (by decide), hlog.rows.is_distinct axis.isLt (by decide), hsel]

theorem selNext_unknown {s : State} {a : Nat} (h : s.is BL.spdKnown a = false) (honce : s.is BL.selOnce a = true) :
    s.selNext a = s.is BL.AXIS.SEL_SHORT a := by
  simp [selNext, h, honce]

theorem selNext_short {s : State} {a : Nat} (h : s.is BL.spdKnown a = true)
    (hon : (s.emfSquares a (s.polLo BL.POL_LO.SC_ON a)).2 < (s.emfSquares a (s.polLo BL.POL_LO.SC_ON a)).1) : s.selNext a = true := by
  simp [selNext, h, hon]

theorem selNext_open {s : State} {a : Nat} (h : s.is BL.spdKnown a = true)
    (hon : (s.emfSquares a (s.polLo BL.POL_LO.SC_ON a)).1 ≤ (s.emfSquares a (s.polLo BL.POL_LO.SC_ON a)).2)
    (hoff : (s.emfSquares a (s.polLo BL.POL_LO.SC_OFF a)).1 < (s.emfSquares a (s.polLo BL.POL_LO.SC_OFF a)).2) : s.selNext a = false := by
  simp [selNext, h, Nat.not_lt.2 hon, hoff]

/-- The speed is unknown with a line fault, without a timed interval, or with no values of the axis (R280). -/
theorem blSpeed_none {s : State} {a : Nat} (h : s.is BL.lineFlt a = true ∨ s.is BL.blTimed a = false ∨
    (s.secInForce a = false ∧ s.is BL.idleOk a = false)) : s.blSpeed a = none := by
  rw [blSpeed, if_pos]
  rcases h with h | h | ⟨h, h'⟩ <;> simp [*]

/-- With fewer than two edges, or none for 50 ms, the speed is 0 (R280). -/
theorem blSpeed_zero {s : State} {a : Nat} (hflt : s.is BL.lineFlt a = false) (htimed : s.is BL.blTimed a = true) (hin : s.secInForce a = true)
    (h : s.get BL.blN a < 2 ∨ 20000000 ≤ s.now - s.get BL.blT a 0) : s.blSpeed a = some 0 := by
  simp only [blSpeed, hflt, htimed, hin]
  rw [if_neg (by simp), if_pos (by simpa using h)]

theorem exec_blSelection_reads (axis : Fin 2) (s : State) :
    ∃ t, exec (.blSelection axis) s = .next t ∧
      (s.is BL.lineFlt axis = true ∨ s.is BL.blTimed axis = false ∨ (s.secInForce axis = false ∧ s.is BL.idleOk axis = false) →
        t.is BL.spdKnown axis = false ∧ t.get (State.spdRow axis) = 0x8000) ∧
      (s.is BL.lineFlt axis = true ∨ s.is BL.blTimed axis = false → s.is BL.selOnce axis = true →
        t.is BL.AXIS.SEL_SHORT axis = s.is BL.AXIS.SEL_SHORT axis) ∧
      (s.is BL.lineFlt axis = false → s.is BL.blTimed axis = true → s.secInForce axis = true →
        s.get BL.blN axis < 2 ∨ 20000000 ≤ s.now - s.get BL.blT axis 0 → t.is BL.spdKnown axis = true ∧ t.get (State.spdRow axis) = 0) ∧
      (∀ w, s.blSpeed axis = some w → t.is BL.spdKnown axis = true ∧ t.geti (State.spdRow axis) = w ∧
        ((t.emfSquares axis (t.polLo BL.POL_LO.SC_ON axis)).2 < (t.emfSquares axis (t.polLo BL.POL_LO.SC_ON axis)).1 →
          t.is BL.AXIS.SEL_SHORT axis = true)) ∧
      (∀ w, s.blSpeed axis = some w →
        (t.emfSquares axis (t.polLo BL.POL_LO.SC_ON axis)).1 ≤ (t.emfSquares axis (t.polLo BL.POL_LO.SC_ON axis)).2 →
        (t.emfSquares axis (t.polLo BL.POL_LO.SC_OFF axis)).1 < (t.emfSquares axis (t.polLo BL.POL_LO.SC_OFF axis)).2 →
        t.is BL.AXIS.SEL_SHORT axis = false) ∧
      (∀ a < 2, t.get BL.AXIS.LINE a = t.lineOf a) := by
  obtain ⟨t, hexec, hframe, hsel, hlines⟩ := exec_blSelection axis s
  have hclock := (s.framed_belayClock axis.isLt).rows
  have hformed := ((s.belayClock axis).framed_spdFormed axis.isLt (s.blSpeed axis)).rows
  have hknown := (s.belayClock axis).spdKnown_spdFormed axis.isLt (s.blSpeed axis)
  have honce : ((s.belayClock axis).spdFormed axis (s.blSpeed axis)).is BL.selOnce axis = s.is BL.selOnce axis :=
    (hformed.is_distinct axis.isLt (by decide)).trans (hclock.is_distinct axis.isLt (by decide))
  have hshort : ((s.belayClock axis).spdFormed axis (s.blSpeed axis)).is BL.AXIS.SEL_SHORT axis = s.is BL.AXIS.SEL_SHORT axis :=
    (hformed.is_distinct axis.isLt (by decide)).trans (hclock.is_distinct axis.isLt (by decide))
  have hspd := hframe.rows.spdRow_eq axis (by decide)
  have hpol := hframe.rows.polLo_eq axis.isLt (by decide)
  have hemf := hframe.rows.emfSquares_eq axis.isLt (by decide)
  have hknown' : t.is BL.spdKnown axis = (s.blSpeed axis).isSome := (hframe.rows.is_distinct axis.isLt (by decide)).trans hknown
  refine ⟨t, hexec, fun h => ?_, fun h hsame => ?_, fun hflt htimed hin hslow => ?_, fun w hw => ⟨?_, ?_, fun hon => ?_⟩,
    fun w hw hon hoff => ?_, hlines⟩
  · rw [hknown', hspd, blSpeed_none h]
    exact ⟨rfl, (get_set_self ..).trans (by rw [spdRow_width]; rfl)⟩
  · rw [blSpeed_none (h.imp id .inl)] at hknown honce hshort hsel
    rw [hsel, selNext_unknown hknown (honce.trans hsame), hshort]
  · rw [hknown', hspd, blSpeed_zero hflt htimed hin hslow]
    exact ⟨rfl, (get_set_self ..).trans (by rw [spdRow_width]; rfl)⟩
  · rw [hknown', hw]
    rfl
  · have hbounds := blSpeed_bounds hw
    rw [hw] at hspd
    have hgeti : t.geti (spdRow axis) = ((s.belayClock axis).spdFormed axis (some w)).geti (spdRow axis) := by rw [geti, geti, hspd]
    rw [hgeti]
    exact geti_seti _ (spdRow_width _) hbounds 0 0
  · rw [hsel]
    rw [hpol.1, hemf] at hon
    exact selNext_short (hknown.trans (by rw [hw]; rfl)) hon
  · rw [hsel]
    rw [hpol.1, hemf] at hon
    rw [hpol.2, hemf] at hoff
    exact selNext_open (hknown.trans (by rw [hw]; rfl)) hon hoff

/-! ## Safe states (R284, R301, R303) -/

/-- The rows that an axis's entry into its safe state writes at its own number. -/
def markRows : List Row := [BL.CAUSE.SS_CAUSE, BL.AXIS.SAFE, BL.run, BL.wind]

theorem framedAt_safeMark (s : State) (a : Nat) : Framed (rowsAt markRows a [RING.lost]) [.events, .store] s (s.safeMark a) := by
  unfold safeMark
  extract_lets u c
  have hu : Framed (rowsAt markRows a [RING.lost]) [.events, .store] s u := (framed_refl s).on fun _ =>
    (framed_safetyLog ..).mono ⟨fun _ h => List.mem_append_right _ h, fun _ h => h⟩
  clear_value u c
  exact (((hu.setAt (by decide)).setAt (by decide)).setAt (by decide)).setAt (by decide)

theorem framed_safeMark (s : State) {a : Nat} (ha : a < 2) : RowsKept (markRows ++ [RING.lost]) s (s.safeMark a) :=
  (framedAt_safeMark s a).rows.widen fun r hr => by
    have hc1 : ∀ r ∈ markRows, r.c1 = 2 := by decide
    rw [hc1 r hr]
    exact ha

/-- The axis's entry: its causes, SAFE, and RUN off its line. -/
theorem safeMark_reads (s : State) {a : Nat} (ha : a < 2) :
    (s.safeMark a).get BL.CAUSE.SS_CAUSE a = (s.get BL.causeReq a ||| s.get BL.CAUSE.SS_CAUSE a) % 2 ^ 16 ∧
    (s.safeMark a).is BL.AXIS.SAFE a = true ∧ (s.safeMark a).is BL.run a = false := by
  have hlog : RowsKept [RING.lost] s (s.on (s.is BL.wind a) (·.safetyLog 5 0x0219 (2 ^ a) 0)) :=
    ((framed_refl s).on fun _ => framed_safetyLog ..).rows
  unfold safeMark
  extract_lets u c
  have hc : c = s.get BL.causeReq a ||| s.get BL.CAUSE.SS_CAUSE a := by
    simp only [c]
    rw [hlog.get_distinct (r := BL.causeReq) ha (by decide), hlog.get_distinct (r := BL.CAUSE.SS_CAUSE) ha (by decide)]
  rw [← hc]
  clear_value u c
  refine ⟨?_, ?_, ?_⟩
  · rw [get_set_distinct _ ha ha (by decide), get_set_distinct _ ha ha (by decide), get_set_distinct _ ha ha (by decide), get_set_self]
    rfl
  · rw [is, get_set_distinct _ ha ha (by decide), get_set_distinct _ ha ha (by decide)]
    exact is_set_one _ _ _ _ (by decide)
  · rw [is, get_set_distinct _ ha ha (by decide)]
    exact is_set_zero ..

/-- The axes that enter together: both in joined mode (R284). -/
def safeMarks (s : State) (a : Nat) : State := if s.joined then (s.safeMark 0).safeMark 1 else s.safeMark a

/-- Their causes are taken. -/
def reqTaken (s t : State) (a : Nat) : State := if s.joined then (t.set BL.causeReq 0 0).set BL.causeReq 0 1 else t.set BL.causeReq 0 a

theorem rowsKept_safeMarks (s : State) {a : Nat} (ha : a < 2) : RowsKept (markRows ++ [RING.lost]) s (s.safeMarks a) := by
  unfold safeMarks
  split
  · exact (framed_safeMark s (by decide)).trans (framed_safeMark _ (by decide))
  · exact framed_safeMark s ha

/-- In joined mode both axes are in their safe state. -/
theorem safeMarks_joined {s : State} (h : s.joined = true) (a : Nat) : (s.safeMarks a).is BL.AXIS.SAFE 0 = true ∧
    (s.safeMarks a).is BL.AXIS.SAFE 1 = true := by
  rw [safeMarks, if_pos h]
  have hturn : TurnKept markRows [RING.lost] 0 (s.safeMark 0) ((s.safeMark 0).safeMark 1) :=
    (framedAt_safeMark _ 1).rows.turn (n := 2) (by decide) (by decide) (by decide)
  exact ⟨(hturn.is (by decide) (by decide)).trans (s.safeMark_reads (by decide)).2.1, ((s.safeMark 0).safeMark_reads (by decide)).2.1⟩

theorem framed_reqTaken (s t : State) {a : Nat} (ha : a < 2) : Framed [BL.causeReq] [] t (s.reqTaken t a) :=
  .ite (fun _ => (framed_refl t).set (by decide) |>.set (by decide)) fun _ => (framed_refl t).setIn ha (by decide)

theorem is_causeReq_reqTaken (s t : State) {a : Nat} (ha : a < 2) : (s.reqTaken t a).is BL.causeReq a = false := by
  unfold reqTaken
  split
  · have ha' : a = 0 ∨ a = 1 := by omega
    rcases ha' with rfl | rfl
    · rw [is, get_set_ne _ _ _ _ _ _ (by decide)]
      exact is_set_zero ..
    · exact is_set_zero ..
  · exact is_set_zero ..

theorem framed_belayAssert (s : State) {p : Nat} (hp : p < 5) : Framed [PU.tripIn, BL.belT] [] s (s.belayAssert p) :=
  ((framed_refl s).tripIn hp (by decide)).setIn hp (by decide)

theorem getBit_belayAssert (s : State) {p : Nat} (hp : p < 5) : (s.belayAssert p).getBit PU.tripIn 15 p = true := by
  rw [belayAssert, getBit, get_set_distinct _ hp hp (by decide)]
  exact getBit_setBit_self _ _ _ _ (by decide)

/-- BELAY that stands at a unit stays, whichever unit it is asserted at. -/
theorem getBit_belayAssert_of (s : State) {p q : Nat} (hp : p < 5) (hq : q < 5) (h : s.getBit PU.tripIn 15 p = true) :
    (s.belayAssert q).getBit PU.tripIn 15 p = true := by
  by_cases e : q = p
  · subst e
    exact getBit_belayAssert s hq
  · have hne : ∀ p q : Fin 5, q ≠ p → PU.tripIn.key q 0 ≠ PU.tripIn.key p 0 := by decide
    rw [belayAssert, getBit, get_set_distinct _ hq hp (by decide), tripIn, setBit,
      get_set_ne _ _ _ _ _ _ (hne ⟨p, hp⟩ ⟨q, hq⟩ fun h => e (Fin.mk.inj h))]
    exact h

theorem getBit_belayAsserts (s : State) {p : Nat} (hp : p < 5) : (s.forN 5 fun p u => u.belayAssert p).getBit PU.tripIn 15 p = true := by
  obtain ⟨u, -, hu⟩ := forN_turn (R := fun s t => s.getBit PU.tripIn 15 p = true → t.getBit PU.tripIn 15 p = true) (fun _ h => h)
    (fun h k h' => k (h h')) hp (fun p u => u.belayAssert p) (fun q t hq _ h => getBit_belayAssert_of t hp hq h) s
  exact hu (getBit_belayAssert u hp)

theorem framed_holdTryDrive (s : State) : Framed Touch.holdTryDrive [.events, .store] s s.holdTryDrive := by
  unfold holdTryDrive
  refine .ite (fun _ => ?_) fun _ => framed_refl s
  extract_lets t u
  have ht : Framed Touch.holdTryDrive [.events, .store] s t := ((framed_refl s).set (by decide)).andThen (framed_shSet _ _) (by decide)
  have hu : Framed Touch.holdTryDrive [.events, .store] s u := ht.set (by decide)
  clear_value t u
  exact hu.on fun _ => ((framed_safetyLog ..).trans (framed_safetyLog ..)).mono (by decide)

theorem framed_holdIssue (s : State) (kind : Nat) : Framed Touch.holdIssue [.events, .store] s (s.holdIssue kind) := by
  unfold holdIssue
  extract_lets t
  have ht : Framed Touch.holdIssue [.events, .store] s t :=
    (((framed_refl s).set (by decide)).set (by decide) |>.set (by decide)).andThen (framed_holdTryDrive _) (by decide)
  exact ht.andThen (framed_safetyLog ..) (by decide)

/-- The rows that follow SSOUT in an entry into the safe state. -/
def enterRows : List Row := [PU.tripIn, BL.belT] ++ Touch.holdIssue

/-- What follows SSOUT: BELAY at the units, the log and HOLD (R284, R286, R292, R304). -/
theorem safeEnter_tail (s u : State) {a : Nat} (ha : a < 2) {all : Bool} (inst kind : Nat) (f g : State → Nat) (hold : State → Bool) :
    ∃ t, (let s4 := if s.joined then u.belayAssert 0 else u.belayAssert a
      let s5 := s4.on all fun t => t.forN 5 fun p u => u.belayAssert p
      let s6 := s5.safetyLog inst kind (f s5) (g s5)
      s6.on (hold s6) (·.holdIssue 2)) = t ∧
      RowsKept enterRows u t ∧ (s.joined = false → t.getBit PU.tripIn 15 a = true) ∧ (s.joined = true → t.getBit PU.tripIn 15 0 = true) ∧
      (all = true → ∀ p < 5, t.getBit PU.tripIn 15 p = true) := by
  extract_lets s4 s5 s6
  have hp : a < 5 := by omega
  have h4 : RowsKept enterRows u s4 := by
    simp only [s4]
    split
    · exact ((framed_belayAssert u (by decide)).rows).mono (by decide)
    · exact ((framed_belayAssert u hp).rows).mono (by decide)
  have hbit4 : (s.joined = false → s4.getBit PU.tripIn 15 a = true) ∧ (s.joined = true → s4.getBit PU.tripIn 15 0 = true) := by
    refine ⟨fun h => ?_, fun h => ?_⟩
    · simp only [s4, h, Bool.false_eq_true, if_false]
      exact getBit_belayAssert u hp
    · simp only [s4, h, if_true]
      exact getBit_belayAssert u (by decide)
  clear_value s4
  have hone (p : Nat) (t : State) (hp : p < 5) : Framed enterRows [] t (t.belayAssert p) := (framed_belayAssert t hp).mono (by decide)
  have h5 : RowsKept enterRows s4 s5 := by
    simp only [s5]
    cases all
    · exact rowsKept_refl _ _
    · exact ((framed_refl s4).forN hone).rows
  have hkeep {p : Nat} (hp : p < 5) (h : s4.getBit PU.tripIn 15 p = true) : s5.getBit PU.tripIn 15 p = true := by
    simp only [s5]
    cases all
    · exact h
    · exact getBit_belayAsserts s4 hp
  have hall : all = true → ∀ p < 5, s5.getBit PU.tripIn 15 p = true := fun h p hp => by
    simp only [s5, h, on_true]
    exact getBit_belayAsserts s4 hp
  clear_value s5
  have hlog : RowsKept [RING.lost] s5 s6 := (framed_safetyLog ..).rows
  have hend : RowsKept Touch.holdIssue s5 (s6.on (hold s6) (·.holdIssue 2)) :=
    (hlog.mono (by decide)).trans ((framed_refl s6).on fun _ => framed_holdIssue s6 2).rows
  have hread {p : Nat} (hp : p < 5) : (s6.on (hold s6) (·.holdIssue 2)).getBit PU.tripIn 15 p = s5.getBit PU.tripIn 15 p :=
    hend.getBit_distinct hp (by decide)
  refine ⟨_, rfl, (h4.trans h5).trans (hend.mono (by decide)), fun h => ?_, fun h => ?_, fun h p hp => ?_⟩
  · rw [hread hp]
    exact hkeep hp (hbit4.1 h)
  · rw [hread (by decide)]
    exact hkeep (by decide) (hbit4.2 h)
  · rw [hread hp]
    exact hall h p hp

theorem exec_safeEnter (axis : Fin 2) (s : State) (h : s.is BL.causeReq axis = true) :
    ∃ t, exec (.safeEnter axis) s = .next t ∧
      t.is BL.causeReq axis = false ∧ t.is BL.AXIS.SAFE (s.lead axis) = true ∧
      (s.joined = false → t.get BL.CAUSE.SS_CAUSE axis = (s.get BL.causeReq axis ||| s.get BL.CAUSE.SS_CAUSE axis) % 2 ^ 16 ∧
        t.getBit PU.tripIn 15 axis = true ∧ t.is BL.run axis = false) ∧
      (s.joined = true → t.is BL.AXIS.SAFE 0 = true ∧ t.is BL.AXIS.SAFE 1 = true ∧ t.getBit PU.tripIn 15 0 = true) ∧
      (bit (s.get BL.causeReq axis) 13 = true ∨ bit (s.get BL.causeReq axis) 15 = true → ∀ p < 5, t.getBit PU.tripIn 15 p = true) ∧
      (∀ a < 2, t.get BL.AXIS.LINE a = t.lineOf a) ∧
      t.is BL.STATUS.SSOUT = false := by
  have ha := axis.isLt
  have hreq : ¬s.get BL.causeReq axis = 0 := by
    rw [is, bne_iff_ne] at h
    exact h
  have hmarks := s.rowsKept_safeMarks ha
  have htaken := (s.framed_reqTaken (s.safeMarks axis) ha).rows
  have hclear := s.is_causeReq_reqTaken (s.safeMarks axis) ha
  have hjoined := fun h => safeMarks_joined (s := s) h axis
  have hsplit : s.joined = false → s.safeMarks axis = s.safeMark axis := fun h => by rw [safeMarks, if_neg (h ▸ nofun)]
  have hlead : s.lead axis < 2 := lead_lt s ha
  have hsafe : (s.safeMarks axis).is BL.AXIS.SAFE (s.lead axis) = true := by
    cases hj : s.joined
    · rw [hsplit hj, lead, if_neg (hj ▸ nofun)]
      exact (s.safeMark_reads ha).2.1
    · rw [lead, if_pos hj]
      exact (hjoined hj).1
  obtain ⟨t, ht, hrows, hone, hboth, hall⟩ := safeEnter_tail s (s.reqTaken (s.safeMarks axis) axis).lines.ssout ha
    (all := bit (s.get BL.causeReq axis) 13 || bit (s.get BL.causeReq axis) 15) (s.lead axis) 0x0200 (·.causeWord axis)
    (fun u => u.get BL.AXIS.LINE axis * 2 ^ 29 + u.get (State.spdRow axis)) (fun u => u.polHi BL.POL_HI.HOLD_ON_SAFE (s.lead axis) != 0)
  have hexec : exec (.safeEnter axis) s = .next t := (congrArg Host.Outcome.next (if_neg hreq)).trans (congrArg Host.Outcome.next ht)
  generalize s.safeMarks axis = m at hmarks htaken hclear hjoined hsplit hsafe hrows
  generalize s.reqTaken m axis = u at htaken hclear hrows
  have hlines := (framed_lines u).rows
  have hssout := (framed_ssout u.lines).rows
  have hsafe' : ∀ a < 2, u.lines.is BL.AXIS.SAFE a = m.is BL.AXIS.SAFE a := fun a ha =>
    (hlines.is_distinct ha (by decide)).trans (htaken.is_distinct ha (by decide))
  have hend : RowsKept (enterRows ++ [BL.STATUS.SSOUT, BL.AXIS.LINE, BL.causeReq]) m t :=
    ((htaken.mono (by decide)).trans (hlines.mono (by decide))).trans ((hssout.mono (by decide)).trans (hrows.mono (by decide)))
  have hout : u.lines.ssout.is BL.STATUS.SSOUT = false := by
    have hzero : u.lines.is BL.AXIS.SAFE 0 = true ∨ u.lines.is BL.AXIS.SAFE 1 = true := by
      have hl : s.lead axis = 0 ∨ s.lead axis = 1 := by omega
      rcases hl with h | h
      · exact .inl ((hsafe' 0 (by decide)).trans (h ▸ hsafe))
      · exact .inr ((hsafe' 1 (by decide)).trans (h ▸ hsafe))
    refine (is_setb_self _ _ _ _ _ (by decide)).trans ?_
    rcases hzero with h | h <;> simp [h]
  refine ⟨t, hexec, ?_, ?_, fun hj => ⟨?_, hone hj, ?_⟩, fun hj => ⟨?_, ?_, hboth hj⟩, fun h => hall (by simpa using h), ?_, ?_⟩
  · rw [hrows.is_distinct ha (by decide), hssout.is_distinct ha (by decide), hlines.is_distinct ha (by decide), hclear]
  · rw [hend.is_distinct hlead (by decide), hsafe]
  · rw [hend.get_distinct ha (by decide), hsplit hj]
    exact (s.safeMark_reads ha).1
  · rw [hend.is_distinct ha (by decide), hsplit hj]
    exact (s.safeMark_reads ha).2.2
  · rw [hend.is_distinct (by decide) (by decide), (hjoined hj).1]
  · rw [hend.is_distinct (by decide) (by decide), (hjoined hj).2]
  · exact ((hssout.mono (qs := enterRows ++ [BL.STATUS.SSOUT]) (by decide)).trans (hrows.mono (by decide))).lines_eq (by decide) fun a ha => u.lines_reads ha
  · rw [hrows.is_distinct (by decide) (by decide), hout]

theorem exec_belayRelease (pu : Fin 5) (s : State) (h : s.get BL.belT pu + 400 ≤ s.now) :
    ∃ t, exec (.belayRelease pu) s = .next t ∧
      (pu.val < 2 → s.causePresent (s.lead pu) = false → t.getBit PU.tripIn 15 pu = false) ∧
      (pu.val < 2 → s.causePresent (s.lead pu) = true → t = s) ∧
      (2 ≤ pu.val → s.is BL.STATUS.CI_LOST = false → s.is BL.dieOt = false → t.getBit PU.tripIn 15 pu = false) := by
  have hexec : exec (.belayRelease pu) s = .next (if (if pu.val < 2 then s.causePresent (s.lead pu) else s.is BL.STATUS.CI_LOST || s.is BL.dieOt) then s
      else s.tripIn pu 15 false) := by
    show execBelayRelease pu s = _
    simp only [execBelayRelease, decide_eq_false (Nat.not_lt.2 h), Bool.or_false]
  have hfall : (s.tripIn pu 15 false).getBit PU.tripIn 15 pu = false := getBit_setBit_false ..
  refine ⟨_, hexec, fun hp hc => ?_, fun hp hc => ?_, fun hp hc hd => ?_⟩
  · rwa [if_pos hp, hc, if_neg nofun]
  · rw [if_pos hp, hc, if_pos rfl]
  · rwa [if_neg (Nat.not_lt.2 hp), hc, hd, Bool.or_self, if_neg nofun]

/-! ## The torque monitors (R287 to R291) -/

theorem exec_tmError (mon : Fin 2) (s : State) :
    ∃ t, exec (.tmError mon) s = .next t ∧
      (s.tmLimit mon ≤ s.get (cntRow mon) → t.getBit BL.causeReq 2 (s.monAxis mon) = true ∧
        s.Logged t (s.monAxis mon) 0x0206 (s.get (tmRow (if s.joined = false ∧ s.getBit BL.STATUS.TM_LOST mon = true then 1 - mon else mon)) *
          65536 + s.get BL.tCmd (s.monAxis mon)) (s.get BL.tCe (s.monAxis mon))) ∧
      (s.get (cntRow mon) < s.tmLimit mon → t = s) := by
  refine ⟨_, rfl, fun h => ?_, fun h => if_pos h⟩
  have hm : s.monAxis mon < 2 := lead_lt s mon.isLt
  rw [if_neg (Nat.not_lt.2 h)]
  refine ⟨getBit_callSafe _ hm (by decide), ?_⟩
  have hjudge : (if (!s.joined && s.getBit BL.STATUS.TM_LOST mon) = true then 1 - mon.val else mon.val) =
      if s.joined = false ∧ s.getBit BL.STATUS.TM_LOST mon = true then 1 - mon.val else mon.val := by simp
  rw [← hjudge]
  have hstore (u : State) : (u.unsafeAxis (s.monAxis mon) .tmErr).evStore = u.evStore := (framed_callSafe u hm _).recs .store (by decide)
  rw [Logged, hstore]
  exact mem_evStore_event s (by decide) ..

/-- The rows of an axis's bivouac. -/
def bivOwn : List Row := [BL.AXIS.BIV, BL.AXIS.BIV_LEFT, BL.CAUSE.BIV_CAUSE, BL.bivWarned, BL.causeReq, BL.selN]

theorem framedAt_callSafe {s : State} (hj : s.joined = false) (a cause : Nat) :
    Framed (rowsAt bivOwn a [RING.lost]) [.events, .store] s (s.callSafe a cause) := by
  rw [callSafe, if_neg (hj ▸ nofun)]
  exact (framed_refl s).setAt (by decide)

/-- In split mode an axis's loss of a path is its own (R292, R295). -/
theorem framedAt_bivLoss {s : State} (hj : s.joined = false) {a : Nat} (ha : a < 2) (c : BivCause) :
    Framed (rowsAt bivOwn a [RING.lost]) [.events, .store] s (s.bivLoss a c) := by
  have hlog (u : State) : Framed (rowsAt bivOwn a [RING.lost]) [.events, .store] u (u.bivLog a) :=
    (framed_bivLog u a).mono ⟨fun _ h => List.mem_append_right _ h, fun _ h => h⟩
  refine .ite (fun _ => framedAt_callSafe hj a _) fun _ => ?_
  unfold bivEnter1
  refine .ite (fun _ => framed_refl s) fun _ => ?_
  extract_lets t
  have ht : Framed (rowsAt bivOwn a [RING.lost]) [.events, .store] s t := (framed_refl s).setAt (by decide)
  have hset : RowsKept [BL.CAUSE.BIV_CAUSE] s t := rowsKept_set_only s ha (by decide)
  have htj : (t.bivLog a).joined = false := ((framed_bivLog t a).rows.joined_eq (by decide)).trans ((hset.joined_eq (by decide)).trans hj)
  clear_value t
  exact .ite (fun _ => (ht.trans (hlog t)).trans (framedAt_callSafe htj a _)) fun _ =>
    ((((ht.setAt (by decide)).setAt (by decide)).setAt (by decide)).setAt (by decide)).trans (hlog _)

/-- The cause and the call of axis A stay when axis B loses a path of its own. -/
theorem bivLoss_one_reads {s : State} (hj : s.joined = false) (c : BivCause) (n : Nat) :
    (s.bivLoss 1 c).getBit BL.CAUSE.BIV_CAUSE n 0 = s.getBit BL.CAUSE.BIV_CAUSE n 0 ∧
    (s.bivLoss 1 c).getBit BL.causeReq n 0 = s.getBit BL.causeReq n 0 := by
  have hturn : TurnKept bivOwn [RING.lost] 0 s (s.bivLoss 1 c) :=
    (framedAt_bivLoss hj (by decide) c).rows.turn (n := 2) (by decide) (by decide) (by decide)
  rw [getBit, getBit, getBit, getBit, hturn.get (r := BL.CAUSE.BIV_CAUSE) (by decide) (by decide),
    hturn.get (r := BL.causeReq) (by decide) (by decide)]
  exact ⟨rfl, rfl⟩

/-- The state in which a known-answer test is judged: a piton that acts is gone, and the monitor's next sample is passed over. -/
def katTaken (s : State) (m : Nat) : State := (s.on (s.pit 0x30 4 m) (·.pitAct)).set BL.katSkip 1 m

theorem framed_katTaken (s : State) {m : Nat} (hm : m < 2) : Framed (BL.katSkip :: Touch.pitAct) [.events, .store] s (s.katTaken m) :=
  ((framed_refl s).on fun h => (framed_pitAct h (by decide)).mono (by decide)).setIn hm (by decide)

/-- A failed test: the monitor is lost, and a first loss is a loss of one path of the machine, in split mode of both axes (R291, R292). -/
def katFailed (s : State) (m : Nat) : State :=
  let t := (s.setBit BL.STATUS.TM_LOST m true).safetyLog (s.monAxis m) 0x0207 m 1
  if t.joined then t.bivLoss 0 .tmKat else (t.bivLoss 0 .tmKat).bivLoss 1 .tmKat

theorem kat_pass {s : State} {m : Nat} (h : s.pit 0x30 4 m = false) : s.kat m true = (s.set BL.katSkip 1 m, true) := by
  simp [kat, h]

theorem kat_fail (s : State) (m : Nat) : s.kat m false =
    (if (s.katTaken m).getBit BL.STATUS.TM_LOST m then s.katTaken m else (s.katTaken m).katFailed m, false) := by
  show (if (s.katTaken m).getBit BL.STATUS.TM_LOST m then (s.katTaken m, false) else ((s.katTaken m).katFailed m, false)) = _
  split <;> rfl

theorem katFailed_reads (s : State) {m : Nat} (hm : m < 2) : (s.katFailed m).getBit BL.STATUS.TM_LOST m = true ∧
    (s.katFailed m).getBit BL.CAUSE.BIV_CAUSE 9 0 = true ∧ (s.joined = false → (s.katFailed m).getBit BL.CAUSE.BIV_CAUSE 9 1 = true) ∧
    (s.getBit BL.CAUSE.BIV_CAUSE 9 0 = true → (s.katFailed m).getBit BL.causeReq 8 0 = true) := by
  unfold katFailed
  extract_lets t
  have ht : RowsKept [BL.STATUS.TM_LOST, RING.lost] s t :=
    (rowsKept_set _ _ _ _ (by decide) (by decide) (by decide)).trans ((framed_safetyLog ..).rows.mono (by decide))
  have hlost : t.getBit BL.STATUS.TM_LOST m = true := by
    rw [(framed_safetyLog ..).rows.getBit_distinct (by decide) (by decide)]
    exact getBit_setBit_self _ _ _ _ hm
  have htj : t.joined = s.joined := ht.joined_eq (by decide)
  have hcause : t.getBit BL.CAUSE.BIV_CAUSE 9 0 = s.getBit BL.CAUSE.BIV_CAUSE 9 0 := ht.getBit_distinct (by decide) (by decide)
  clear_value t
  have hA := framed_bivLoss t (a := 0) (by decide) .tmKat
  have hcauseA : (t.bivLoss 0 .tmKat).getBit BL.CAUSE.BIV_CAUSE 9 0 = true := getBit_bivLoss t (a := 0) (by decide) .tmKat
  have hcallA (h : t.getBit BL.CAUSE.BIV_CAUSE BivCause.tmKat.bit 0 = true) : (t.bivLoss 0 .tmKat).getBit BL.causeReq 8 0 = true := by
    rw [bivLoss, if_pos h]
    exact getBit_callSafe t (by decide) (by decide)
  have hlostA : (t.bivLoss 0 .tmKat).getBit BL.STATUS.TM_LOST m = true := by
    rw [hA.rows.getBit_distinct (by decide) (by decide), hlost]
  have hjA : (t.bivLoss 0 .tmKat).joined = t.joined := hA.rows.joined_eq (by decide)
  cases hj : t.joined
  · rw [if_neg nofun]
    have hB := framed_bivLoss (t.bivLoss 0 .tmKat) (a := 1) (by decide) .tmKat
    have hkeep := bivLoss_one_reads (hjA.trans hj) .tmKat
    refine ⟨?_, ?_, fun _ => getBit_bivLoss _ (a := 1) (by decide) .tmKat, fun h => ?_⟩
    · rw [hB.rows.getBit_distinct (by decide) (by decide), hlostA]
    · rw [(hkeep 9).1, hcauseA]
    · rw [(hkeep 8).2, hcallA (hcause.trans h)]
  · rw [if_pos rfl]
    exact ⟨hlostA, hcauseA, fun h => absurd (hj.symm.trans (htj.trans h)) nofun, fun h => hcallA (hcause.trans h)⟩

theorem exec_katPeriodic (mon : Fin 2) (pass : Bool) (s : State) :
    ∃ t, exec (.katPeriodic mon pass) s = .next t ∧
      (pass = false → t.getBit BL.STATUS.TM_LOST mon = true) ∧
      (pass = false → s.getBit BL.STATUS.TM_LOST mon = false → t.getBit BL.CAUSE.BIV_CAUSE 9 0 = true) ∧
      (pass = false → s.getBit BL.STATUS.TM_LOST mon = false → s.joined = false → t.getBit BL.CAUSE.BIV_CAUSE 9 1 = true) ∧
      (pass = false → s.getBit BL.STATUS.TM_LOST mon = false → s.getBit BL.CAUSE.BIV_CAUSE 9 0 = true → t.getBit BL.causeReq 8 0 = true) ∧
      (pass = true → s.is BL.PIT_STAT.ARMED = false → t = s.set BL.katSkip 1 mon) := by
  have htaken := (s.framed_katTaken mon.isLt).rows
  have hlost : (s.katTaken mon).getBit BL.STATUS.TM_LOST mon = s.getBit BL.STATUS.TM_LOST mon :=
    htaken.getBit_distinct (by decide) (by decide)
  have hcause : (s.katTaken mon).getBit BL.CAUSE.BIV_CAUSE 9 0 = s.getBit BL.CAUSE.BIV_CAUSE 9 0 :=
    htaken.getBit_distinct (by decide) (by decide)
  have hjoined : (s.katTaken mon).joined = s.joined := htaken.joined_eq (by decide)
  obtain ⟨hfl, hfa, hfb, hfc⟩ := (s.katTaken mon).katFailed_reads mon.isLt
  refine ⟨(s.kat mon pass).1, rfl, ?_, ?_, ?_, ?_, ?_⟩
  · rintro rfl
    rw [kat_fail]
    show (if _ then _ else _ : State).getBit _ _ = true
    split
    · assumption
    · exact hfl
  · rintro rfl h
    rw [kat_fail, hlost, h]
    exact hfa
  · rintro rfl h hj
    rw [kat_fail, hlost, h]
    exact hfb (hjoined.trans hj)
  · rintro rfl h hc
    rw [kat_fail, hlost, h]
    exact hfc (hcause.trans hc)
  · rintro rfl h
    rw [kat_pass (by simp [pit, h])]

theorem exec_mbxKat (pass : Bool) (s : State) (h : s.mbx 0x03 = true) :
    ∃ t, exec (.mbxKat pass) s = .next t ∧
      t.is BL.MBX_STAT.BUSY = false ∧
      (1 < s.get BL.MBX_ARG.ARG 0 → t.get BL.MBX_STAT.RESULT = 2) ∧
      (s.get BL.MBX_ARG.ARG 0 ≤ 1 → s.is BL.PIT_STAT.ARMED = false →
        t.get BL.MBX_STAT.RESULT = 0 ∧ t.get BL.MBX_RSP.RSP = if pass then 0 else 1) := by
  have hgo : ¬(!s.mbx 0x03) = true := by rw [h]; exact nofun
  have hexec : exec (.mbxKat pass) s = .next (if 1 < s.get BL.MBX_ARG.ARG 0 then s.mbxDone 2 0
      else (s.kat (s.get BL.MBX_ARG.ARG 0) pass).1.mbxDone 0 (if (s.kat (s.get BL.MBX_ARG.ARG 0) pass).2 then 0 else 1)) :=
    congrArg Host.Outcome.next (if_neg hgo)
  refine ⟨_, hexec, ?_, fun harg => ?_, fun harg hpit => ?_⟩
  · split
    · exact (mbxDone_reads ..).1
    · exact (mbxDone_reads ..).1
  · rw [if_pos harg]
    exact (mbxDone_reads ..).2.1
  · rw [if_neg (Nat.not_lt.2 harg)]
    have hok : (s.kat (s.get BL.MBX_ARG.ARG 0) pass).2 = pass := by
      cases pass
      · rw [kat_fail]
      · rw [kat_pass (by simp [pit, hpit])]
    obtain ⟨-, hresult, hrsp⟩ := mbxDone_reads (s.kat (s.get BL.MBX_ARG.ARG 0) pass).1 0
      (if (s.kat (s.get BL.MBX_ARG.ARG 0) pass).2 then 0 else 1)
    refine ⟨hresult, hrsp.trans ?_⟩
    rw [hok]
    cases pass <;> rfl

/-- In joined mode a cause of one axis is called for both (R284). -/
theorem getBit_callSafe_joined {s : State} (h : s.joined = true) (a : Nat) {cause : Nat} (hc : cause < 16) :
    (s.callSafe a cause).getBit BL.causeReq cause 0 = true ∧ (s.callSafe a cause).getBit BL.causeReq cause 1 = true := by
  rw [callSafe, if_pos h]
  refine ⟨?_, getBit_setBit_self _ _ _ _ hc⟩
  rw [setBit, getBit, get_set_ne _ _ _ _ _ _ (by decide)]
  exact getBit_setBit_self _ _ _ _ hc

theorem exec_tmXchk (s : State) (h : s.joined = true ∧ s.is BL.STATUS.TM_LOST = false) :
    ∃ t, exec .tmXchk s = .next t ∧
      (s.is BL.tmXRun = true → 200 * s.gov BL.TM_XCFG.XTIME 3 0 ≤ s.get BL.tmXRun →
        t.getBit BL.causeReq 4 0 = true ∧ t.getBit BL.causeReq 4 1 = true) ∧
      (s.get BL.tmXRun < 200 * s.gov BL.TM_XCFG.XTIME 3 0 → t = s) := by
  refine ⟨_, rfl, fun hrun htime => ?_, fun htime => if_neg ?_⟩
  · rw [if_pos (by simp [h.1, h.2, hrun, htime])]
    exact getBit_callSafe_joined h.1 0 (by decide)
  · simp [Nat.not_le.2 htime]

/-! ## The alignment at the first index (R288) -/

theorem exec_blIndex (axis : Fin 2) (s : State) (h : s.axEn axis = true ∧ s.is BL.AXIS.ALIGN_OK axis = false) :
    ∃ t, exec (.blIndex axis) s = .next t ∧
      (s.alignDiff axis * 360 ≤ s.gov BL.TM_ALIGN.ALIGN_TOL 6 axis axis * 65536 * s.get POS.INC_CPR.CPR axis →
        t.is BL.AXIS.ALIGN_OK axis = true) ∧
      (s.gov BL.TM_ALIGN.ALIGN_TOL 6 axis axis * 65536 * s.get POS.INC_CPR.CPR axis < s.alignDiff axis * 360 →
        t.getBit BL.causeReq 3 axis = true ∧ t.is BL.AXIS.ALIGN_OK axis = false) := by
  have hgo : ¬(!s.axEn axis || s.is BL.AXIS.ALIGN_OK axis) = true := by simp [h.1, h.2]
  refine ⟨_, congrArg Host.Outcome.next (if_neg hgo), fun hin => ?_, fun hout => ?_⟩
  · rw [if_neg (Nat.not_lt.2 hin), is, get_set_distinct _ axis.isLt axis.isLt (by decide)]
    exact is_set_one _ _ _ _ (by decide)
  · rw [if_pos hout]
    refine ⟨getBit_callSafe s axis.isLt (by decide), ?_⟩
    exact ((framed_callSafe s axis.isLt _).rows.is_distinct axis.isLt (by decide)).trans h.2

theorem exec_alignTimeout (axis : Fin 2) (s : State) :
    ∃ t, exec (.alignTimeout axis) s = .next t ∧
      (s.axEn axis = true → s.is BL.AXIS.ALIGN_OK axis = false →
        2 * s.gov BL.TM_CPR.CPR_BL 7 axis axis ≤ (s.blSince axis BL.blEn).natAbs → t.getBit BL.causeReq 3 axis = true) ∧
      (s.axEn axis = false ∨ s.is BL.AXIS.ALIGN_OK axis = true ∨
        (s.blSince axis BL.blEn).natAbs < 2 * s.gov BL.TM_CPR.CPR_BL 7 axis axis → t = s) := by
  refine ⟨_, rfl, fun hen hok hturns => ?_, fun h => if_neg ?_⟩
  · rw [if_pos (by simp [hen, hok, hturns])]
    exact getBit_callSafe s axis.isLt (by decide)
  · rcases h with h | h | h
    · simp [h]
    · simp [h]
    · simp [Nat.not_le.2 h]

end State

/-- Settles O30: each verdict is read back through the rows that the rest of its command leaves alone. -/
theorem belaySelectionSafeStatesAndMonitors : Obligations.BelaySelectionSafeStatesAndMonitors := by
  unfold Obligations.BelaySelectionSafeStatesAndMonitors
  exact ⟨State.exec_blSelection_reads, State.exec_safeEnter, State.exec_belayRelease, State.exec_tmError, State.exec_katPeriodic,
    State.exec_mbxKat, State.exec_tmXchk, State.exec_blIndex, State.exec_alignTimeout⟩

end Sys2Proof.Machine
end

/-!
The Ethernet ports (15): frames sent and received, the link and peer delay (O37).
-/
section
namespace Sys2Proof.Machine
set_option Elab.async false
namespace State

/-! ## What a completion sends, and the frames that wait -/

theorem outGrows_ringRestart (s : State) {n : Nat} (hn : n < 32) (size : Nat) : OutGrows s (s.ringRestart n size) :=
  OutGrows.trans (.of_eq rfl) ((s.framed_ringRestart hn size).outGrows (by decide))

theorem outGrows_complete (s : State) {n : Nat} (hn : n < 32) (st : Status) (result : Nat) : OutGrows s (s.complete n st result) := by
  cases hd : s.desc n with
  | none =>
    unfold complete
    rw [hd]
    exact .refl s
  | some d =>
    have hsent : OutGrows s (s.completed n d st result) := (OutGrows.refl s).send _
    have hmoved := hsent.trans (outGrows_ringAdvance (s.completed n d st result) n d.irq)
    rcases s.complete_eq hd st result with h | ⟨size, h⟩ <;> rw [h]
    · exact hmoved
    · exact hmoved.trans (outGrows_ringRestart _ hn size)

/-- A restart of a ring touches the frames that wait for the ports only to take them away. -/
theorem ethTxQ_ringRestart (s : State) {n : Nat} (hn : n < 32) (size : Nat) :
    (s.ringRestart n size).ethTxQ = (s.abandon n).ethTxQ := by
  have hset := (framed_refl (rs := restartRows) (fs := [.events, .store]) (s.abandon n)).setIn hn
    (r := RING.CFG.SIZE) (v := size) (j := 0) (by decide) |>.setIn hn (r := RING.HEAD.HEAD) (v := 0) (j := 0) (by decide)
    |>.setIn hn (r := RING.TAIL.TAIL) (v := 0) (j := 0) (by decide) |>.setIn hn (r := RING.pass) (v := 0) (j := 0) (by decide)
    |>.setIn hn (r := RING.STAT.HALT) (v := 0) (j := 0) (by decide) |>.setIn hn (r := RING.sizePend) (v := 0) (j := 0) (by decide)
  have hsums (u : State) : Framed restartRows [.events, .store] u (u.ringSums n) :=
    (framed_refl u).set (r := RING.ERR_SUM.ERR) (by decide) |>.set (r := RING.HALT_SUM.HALT) (by decide)
  have hend : Framed restartRows [.events, .store] (s.abandon n) (s.ringRestart n size) := by
    unfold ringRestart
    exact ((hset.on fun _ => (framed_refl _).setIn hn (by decide)).trans (hsums _)).on fun _ => (framed_refl _).event (by decide)
  exact hend.recs .ethTxQ (by decide)

/-- With no frame waiting, none waits when the descriptor of the port's ring has completed. -/
theorem ethTxQ_complete {s : State} (h : s.ethTxQ = []) (st : Status) (result : Nat) : (s.complete 31 st result).ethTxQ = [] := by
  cases hd : s.desc 31 with
  | none =>
    unfold complete
    rwa [hd]
  | some d =>
    have hmoved : ((s.completed 31 d st result).ringAdvance 31 d.irq).ethTxQ = [] :=
      Eq.trans ((framed_ringAdvance (s.completed 31 d st result) (by decide) d.irq).recs .ethTxQ (by decide)) h
    rcases s.complete_eq hd st result with e | ⟨size, e⟩ <;> rw [e]
    · exact hmoved
    · exact ethTxQ_ringRestart _ (by decide) size

/-! ## Packet numbers (R363) -/

/-- The rows that a protected frame writes (R363). -/
def pnRows : List Row := [ETH.TX_PN.PN, ETH.sakPn, ETH.pnHi, ETH.MSEC_STAT.PN_LOW, ETH.MSEC_STAT.PN_EXH, RING.lost]

theorem framed_pnNext (s : State) {p : Nat} (hp : p < 2) : Framed pnRows [.events, .store] s (s.pnNext p) := by
  have han : s.get ETH.frameAn p < 2 := get_lt s ETH.frameAn p 0
  unfold pnNext
  extract_lets an r n s1
  have hr : r.1 ∈ pnRows ∧ p < r.1.c1 ∧ r.2 < r.1.c2 := by
    simp only [r, pnRow]
    split
    · exact ⟨show ETH.TX_PN.PN ∈ pnRows by decide, hp, Nat.one_pos⟩
    · exact ⟨show ETH.sakPn ∈ pnRows by decide, hp, han⟩
  have h1 : Framed pnRows [.events, .store] s s1 := (framed_refl s).set hr
  clear_value s1
  refine .ite (fun _ => h1.on fun _ => (framed_refl s1).set ⟨by decide, hp, han⟩) fun _ => .ite (fun _ => h1) fun _ => ?_
  exact (h1.on fun _ => (framed_refl s1).raise ⟨by decide, hp, by decide⟩ (by decide)).on fun _ => (framed_refl _).setIn hp (by decide)

/-- The selected association's frame takes its packet number. -/
theorem pnNext_reads {s : State} {p : Nat} (hp : p < 2) (h : s.get ETH.frameAn p = s.get ETH.MSEC_CFG.TX_AN p) :
    (s.pnNext p).get ETH.TX_PN.PN p = (s.get ETH.TX_PN.PN p + 1) % 2 ^ ETH.TX_PN.PN.width := by
  have han : s.get ETH.frameAn p < 2 := get_lt s ETH.frameAn p 0
  have hrow : s.pnRow p (s.get ETH.frameAn p) = (ETH.TX_PN.PN, 0) := if_pos h.symm
  generalize hu : s.set ETH.TX_PN.PN (s.get ETH.TX_PN.PN p + 1) p = u
  have hrest : Framed [ETH.pnHi, ETH.MSEC_STAT.PN_LOW, ETH.MSEC_STAT.PN_EXH, RING.lost] [.events, .store] u (s.pnNext p) := by
    simp only [pnNext, hrow, hu]
    refine .ite (fun _ => (framed_refl u).on fun _ => (framed_refl u).set ⟨by decide, hp, han⟩) fun _ => .ite (fun _ => framed_refl u) fun _ => ?_
    exact ((framed_refl u).on fun _ => (framed_refl u).raise ⟨by decide, hp, by decide⟩ (by decide)).on fun _ => (framed_refl _).setIn hp (by decide)
  rw [hrest.rows.get_distinct hp (by decide), ← hu]
  exact get_set_self ..

/-! ## Frames sent (R274, R361, R363) -/

theorem exec_ethSend (frame : List Byte) (d : Desc) (s : State) (h : s.running 31 1 = some d ∧ 60 ≤ d.len.toNat ∧ d.len.toNat ≤ 1518 ∧
      frame.length = d.len.toNat ∧ s.ethTxQ = []) :
    ∃ t, exec (.ethSend frame) s = .next t ∧
      (s.is ETH.PSTAT.LINK (d.w2.toNat % 2) = false → s.Completes t 31 d .state 0 ∧ t.ethTxQ = []) ∧
      (s.is ETH.PSTAT.LINK (d.w2.toNat % 2) = true → s.is ETH.MSEC_CFG.TX_EN (d.w2.toNat % 2) = false →
        t.ethTxQ = [(d.w2.toNat % 2, frame)]) ∧
      (s.is ETH.PSTAT.LINK (d.w2.toNat % 2) = true → s.is ETH.MSEC_CFG.TX_EN (d.w2.toNat % 2) = true →
        s.txSak (d.w2.toNat % 2) = false → s.macsecBypass frame = false → s.Completes t 31 d .state 0) := by
  obtain ⟨hd, hlo, hhi, hlen, hq⟩ := h
  have hrange : ¬(d.len.toNat < 60 || 1518 < d.len.toNat) = true := by simp; omega
  have hready : ¬(frame.length ≠ d.len.toNat || s.ethTxQ.length ≠ 0) = true := by simp [hlen, hq]
  have hcompletes := completes_complete s (n := 31) (by decide) (desc_of_running hd) .state 0
  generalize hbar : (!s.is ETH.PSTAT.LINK (d.w2.toNat % 2) || (s.is ETH.MSEC_CFG.TX_EN (d.w2.toNat % 2) &&
    (s.is ETH.MSEC_STAT.PN_EXH (d.w2.toNat % 2) || (!s.txSak (d.w2.toNat % 2) && !s.macsecBypass frame)))) = bar
  have hexec : exec (.ethSend frame) s = .next (if bar then s.complete 31 .state 0
      else { s.set ETH.frameAn (s.get ETH.MSEC_CFG.TX_AN (d.w2.toNat % 2)) (d.w2.toNat % 2) with
        ethTxQ := s.ethTxQ ++ [(d.w2.toNat % 2, frame)] }) := by
    show execEthSend frame s = _
    rw [execEthSend, hd, ← hbar]
    exact congrArg Host.Outcome.next ((if_neg hrange).trans (if_neg hready))
  refine ⟨_, hexec, fun hlink => ?_, fun hlink hen => ?_, fun hlink hen hsak hby => ?_⟩
  · rw [hlink] at hbar
    rw [← hbar]
    exact ⟨hcompletes, ethTxQ_complete hq .state 0⟩
  · rw [hlink, hen] at hbar
    rw [← hbar, if_neg (by simp)]
    exact congrArg (· ++ _) hq
  · rw [hlink, hen, hsak, hby] at hbar
    rw [← hbar, if_pos (by simp)]
    exact hcompletes

theorem exec_ethTxDone_ring (port : Fin 2) (stamp : Nat) (d : Desc) (f : List Byte) (s : State)
    (h : s.desc 31 = some d ∧ s.ethTxQ = [(port.val, f)]) :
    ∃ t, exec (.ethTxDone port .ring stamp) s = .next t ∧
      t.ethTxQ = [] ∧ s.Completes t 31 d .ok stamp ∧
      (s.is ETH.MSEC_CFG.TX_EN port = true → s.macsecBypass f = false →
        Msg.ethFrame port (some (s.secTag port)) f ∈ t.out.drop s.out.length) ∧
      (s.is ETH.MSEC_CFG.TX_EN port = false ∨ s.macsecBypass f = true → Msg.ethFrame port none f ∈ t.out.drop s.out.length) ∧
      (s.is ETH.MSEC_CFG.TX_EN port = true → s.macsecBypass f = false → s.get ETH.frameAn port = s.get ETH.MSEC_CFG.TX_AN port →
        t.get ETH.TX_PN.PN port = (s.get ETH.TX_PN.PN port + 1) % 2 ^ ETH.TX_PN.PN.width) ∧
      (s.is ETH.MSEC_CFG.TX_EN port = false → t.get ETH.TX_PN.PN port = s.get ETH.TX_PN.PN port) := by
  obtain ⟨hd, hq⟩ := h
  generalize hsafe : (s.is ETH.MSEC_CFG.TX_EN port && !s.macsecBypass f) = safe
  generalize hu : ({ s with ethTxQ := [] } : State).send (.ethFrame port (if safe then some (s.secTag port) else none) f) = u
  have hexec : exec (.ethTxDone port .ring stamp) s = .next ((u.on safe (·.pnNext port)).complete 31 .ok stamp) := by
    show execEthTxDone port .ring stamp s = _
    simp only [execEthTxDone, hq, ← hu, ← hsafe]
    exact congrArg Host.Outcome.next (if_neg fun h => h rfl)
  have hkept : RowsKept [] s u := rowsKept_of_regs (hu ▸ rfl)
  have hsent : u.out = s.out ++ [.ethFrame port (if safe then some (s.secTag port) else none) f] := hu ▸ rfl
  have hdesc : u.desc 31 = some d := hu ▸ hd
  have hempty : u.ethTxQ = [] := hu ▸ rfl
  have han : u.get ETH.frameAn port = s.get ETH.frameAn port := hu ▸ rfl
  have hsel : u.get ETH.MSEC_CFG.TX_AN port = s.get ETH.MSEC_CFG.TX_AN port := hu ▸ rfl
  have hpn : u.get ETH.TX_PN.PN port = s.get ETH.TX_PN.PN port := hu ▸ rfl
  clear hu
  have hnext : Framed pnRows [.events, .store] u (u.on safe (·.pnNext port)) := (framed_refl u).on fun _ => framed_pnNext u port.isLt
  have hread : safe = true → s.get ETH.frameAn port = s.get ETH.MSEC_CFG.TX_AN port →
      (u.on safe (·.pnNext port)).get ETH.TX_PN.PN port = (s.get ETH.TX_PN.PN port + 1) % 2 ^ ETH.TX_PN.PN.width := by
    rintro rfl hsame
    rw [on_true, pnNext_reads port.isLt (by rw [han, hsel, hsame]), hpn]
  have hidle : safe = false → (u.on safe (·.pnNext port)).get ETH.TX_PN.PN port = s.get ETH.TX_PN.PN port := by
    rintro rfl
    exact hpn
  generalize u.on safe (·.pnNext port) = v at hexec hnext hread hidle
  have hout : v.out = u.out := hnext.recs .out (by decide)
  have hdesc' : v.desc 31 = some d := (congrArg (List.lookup 31) (hnext.recs .descs (by decide))).trans hdesc
  have hrows := rowsKept_complete v (n := 31) (by decide) .ok stamp
  have hgrows : OutGrows u (v.complete 31 .ok stamp) := OutGrows.trans (.of_eq hout) (outGrows_complete v (by decide) .ok stamp)
  have hmem : Msg.ethFrame port (if safe then some (s.secTag port) else none) f ∈ (v.complete 31 .ok stamp).out.drop s.out.length := by
    obtain ⟨l, hl⟩ := hgrows
    rw [← hl, hsent]
    simp
  have hpn' : (v.complete 31 .ok stamp).get ETH.TX_PN.PN port = v.get ETH.TX_PN.PN port := hrows.get_distinct port.isLt (by decide)
  refine ⟨_, hexec, ethTxQ_complete (Eq.trans (hnext.recs .ethTxQ (by decide)) hempty) .ok stamp, ?_, fun hen hby => ?_, fun h => ?_,
    fun hen hby hsame => ?_, fun hen => ?_⟩
  · have huv : RowsKept pnRows s v := (hkept.mono nofun).trans hnext.rows
    have hsu : OutGrows s u := ⟨_, hsent.symm⟩
    have hsv : OutGrows s v := hsu.trans (.of_eq hout)
    exact Completes.of_outGrows (by decide) huv hsv (by decide) (completes_complete v (by decide) hdesc' .ok stamp)
  · rw [hen, hby] at hsafe
    rwa [← hsafe, if_pos (by decide)] at hmem
  · have hoff : safe = false := by
      rw [← hsafe]
      rcases h with h | h <;> simp [h]
    rwa [hoff, if_neg nofun] at hmem
  · rw [hpn']
    exact hread (by rw [← hsafe, hen, hby]; rfl) hsame
  · rw [hpn']
    exact hidle (by rw [← hsafe, hen]; rfl)

/-- A frame of NET takes its packet number where it is protected. -/
theorem exec_ethTxDone_net (port : Fin 2) (src : EthSrc) (stamp : Nat) (s : State) (h : src ≠ .ring) :
    ∃ t, exec (.ethTxDone port src stamp) s = .next t ∧
      (s.is ETH.MSEC_CFG.TX_EN port = false ∨ (src = .gptp ∧ s.is ETH.AS_CFG.AS_BYPASS = true) → t = s) ∧
      (s.is ETH.MSEC_CFG.TX_EN port = true → (src = .ridge ∨ s.is ETH.AS_CFG.AS_BYPASS = false) →
        t.get ETH.TX_PN.PN port = (s.get ETH.TX_PN.PN port + 1) % 2 ^ ETH.TX_PN.PN.width) := by
  generalize hu : s.set ETH.frameAn (s.get ETH.MSEC_CFG.TX_AN port) port = u
  have han : u.get ETH.frameAn port = s.get ETH.MSEC_CFG.TX_AN port := by
    rw [← hu, get_set_self]
    exact Nat.mod_eq_of_lt (get_lt s ETH.MSEC_CFG.TX_AN port 0)
  have hkept : RowsKept [ETH.frameAn] s u := hu ▸ rowsKept_set_only s port.isLt (by decide)
  have hread : (u.pnNext port).get ETH.TX_PN.PN port = (s.get ETH.TX_PN.PN port + 1) % 2 ^ ETH.TX_PN.PN.width := by
    have hsame : u.get ETH.frameAn port = u.get ETH.MSEC_CFG.TX_AN port := by
      rw [han, hkept.get_distinct (r := ETH.MSEC_CFG.TX_AN) port.isLt (by decide)]
    rw [pnNext_reads port.isLt hsame, hkept.get_distinct (r := ETH.TX_PN.PN) port.isLt (by decide)]
  cases src
  case ring => exact absurd rfl h
  case gptp =>
    refine ⟨s.on (s.is ETH.MSEC_CFG.TX_EN port && !s.is ETH.AS_CFG.AS_BYPASS) fun t => (t.set ETH.frameAn (t.get ETH.MSEC_CFG.TX_AN port) port).pnNext port,
      rfl, fun h => ?_, fun hen h => ?_⟩
    · have hoff : (s.is ETH.MSEC_CFG.TX_EN port && !s.is ETH.AS_CFG.AS_BYPASS) = false := by
        rcases h with h | ⟨-, h⟩ <;> simp [h]
      rw [hoff, on_false]
    · subst hu
      rw [hen, h.resolve_left nofun]
      exact hread
  case ridge =>
    refine ⟨s.on (s.is ETH.MSEC_CFG.TX_EN port && true) fun t => (t.set ETH.frameAn (t.get ETH.MSEC_CFG.TX_AN port) port).pnNext port,
      rfl, fun h => ?_, fun hen _ => ?_⟩
    · rw [h.resolve_right fun h => absurd h.1 nofun]
      rfl
    · subst hu
      rw [hen]
      exact hread

/-! ## Frames received (R274, R315, R359, R360, R363) -/

/-- The state in which a frame is received: a valid one has moved the replay window of its association on. -/
def secPassed (s : State) (p : Nat) (frame : List Byte) (tag : Option SecTag) : State :=
  s.on (s.is ETH.MSEC_CFG.RX_EN p && !s.macsecBypass frame && s.secOk p tag) (·.secSeen p tag)

/-- Where a frame goes that MACsec lets through. -/
def ethPassed (s : State) (p : Nat) (frame : List Byte) (stamp : Nat) : State :=
  if !s.ethAddrOk p frame then s
  else if etherType frame = 0x88F7 && s.is ETH.AS_CFG.AS_EN then (if s.is ETH.AS_CFG.AS_BRIDGE then s.ethDeliver p frame stamp else s)
  else if s.ethRidge p (etherType frame) then
    { s with ridgeIn := s.ridgeIn
        ++ [{ chan := 2, inst := p, ident := etherType frame, mac := leNat (((frame.drop 6).take 6).map (·.toNat)), data := ((etherPayload frame).take 16).map (·.toNat) }] }
  else s.ethDeliver p frame stamp

theorem exec_ethRx {port : Fin 2} {s : State} (h : s.is ETH.PCFG.EN port = true ∧ s.is ETH.PSTAT.LINK port = true) (frame : List Byte)
    (fcsOk : Bool) (tag : Option SecTag) (stamp : Nat) : exec (.ethRx port frame fcsOk tag stamp) s = .next (
      if !fcsOk || frame.length < 60 || 1518 < frame.length then s.incSat ETH.RX_BAD.FCS port
      else if etherType frame = 0x8808 then s.incSat ETH.RX_BAD.CTRL port
      else if s.is ETH.MSEC_CFG.RX_EN port && !s.macsecBypass frame && !s.secOk port tag then s.incSat ETH.MSEC_STAT.DROP port
      else (s.secPassed port frame tag).ethPassed port frame stamp) := by
  have hon : ¬(!s.is ETH.PCFG.EN port || !s.is ETH.PSTAT.LINK port) = true := by simp [h.1, h.2]
  exact congrArg Host.Outcome.next (if_neg hon)

/-- A frame of a right length with a good FCS that is no MAC control frame and passes MACsec. -/
theorem exec_ethRx_passed {port : Fin 2} {frame : List Byte} {s : State} (h : s.is ETH.PCFG.EN port = true ∧ s.is ETH.PSTAT.LINK port = true)
    (hlen : 60 ≤ frame.length ∧ frame.length ≤ 1518) (hty : etherType frame ≠ 0x8808) {tag : Option SecTag}
    (hsec : s.is ETH.MSEC_CFG.RX_EN port = false ∨ s.secOk port tag = true ∨ s.macsecBypass frame = true) (stamp : Nat) :
    exec (.ethRx port frame true tag stamp) s = .next ((s.secPassed port frame tag).ethPassed port frame stamp) := by
  have hgood : ¬(!true || frame.length < 60 || 1518 < frame.length) = true := by
    simp
    omega
  have hpass : ¬(s.is ETH.MSEC_CFG.RX_EN port && !s.macsecBypass frame && !s.secOk port tag) = true := by
    rcases hsec with h | h | h <;> simp [h]
  rw [exec_ethRx h]
  exact congrArg Host.Outcome.next ((if_neg hgood).trans ((if_neg hty).trans (if_neg hpass)))

theorem secPassed_off {s : State} {p : Nat} (h : s.is ETH.MSEC_CFG.RX_EN p = false) (frame : List Byte) (tag : Option SecTag) :
    s.secPassed p frame tag = s := by
  rw [secPassed, h]
  rfl

/-- A valid frame moves on nothing but the replay window of an association of its port (R363). -/
theorem framed_secPassed (s : State) {p : Nat} (hp : p < 2) (frame : List Byte) (tag : Option SecTag) :
    Framed [ETH.rxPn] [] s (s.secPassed p frame tag) := by
  refine (framed_refl s).on fun hsafe => ?_
  cases tag with
  | none => exact framed_refl s
  | some t =>
    have han : t.an.toNat < 2 := by
      simp only [secOk, Bool.and_eq_true, decide_eq_true_eq] at hsafe
      exact hsafe.2.1.1.1.2
    exact (framed_refl s).set ⟨by decide, hp, han⟩

section
variable {rs : List Row} {s t : State} {p : Nat}

/-- The rows that the address filter and the Ridge slots read. -/
def receiveRows : List Row := [ETH.MAC_LO.MAC_ADDR_LO, ETH.MAC_HI.MAC_ADDR_HI, ETH.PCFG.BCAST, ETH.PCFG.PROMISC, ETH.MC_HI.MC_EN,
  ETH.MC_LO.MC_ADDR_LO, ETH.MC_HI.MC_ADDR_HI, BL.RS_CFG.EN, BL.RS_CFG.CHAN, BL.RS_CFG.INST, BL.RS_CFG2.RX_ID, ETH.AS_CFG.AS_EN]

theorem RowsKept.ethAddrOk_eq (h : RowsKept rs s t) (hp : p < 2) (hr : (receiveRows.all fun r => rs.all r.distinct) = true) (f : List Byte) :
    t.ethAddrOk p f = s.ethAddrOk p f := by
  have hd : ∀ r ∈ receiveRows, rs.all r.distinct = true := List.all_eq_true.1 hr
  have hany : ((List.range 16).any fun m => t.is ETH.MC_HI.MC_EN p m && t.get ETH.MC_LO.MC_ADDR_LO p m
        + 2 ^ 32 * t.get ETH.MC_HI.MC_ADDR_HI p m == etherDst f) =
      (List.range 16).any fun m => s.is ETH.MC_HI.MC_EN p m && s.get ETH.MC_LO.MC_ADDR_LO p m
        + 2 ^ 32 * s.get ETH.MC_HI.MC_ADDR_HI p m == etherDst f := by
    rw [Bool.eq_iff_iff, List.any_eq_true, List.any_eq_true]
    refine exists_congr fun m => and_congr_right fun hm => ?_
    have hm16 : m < 16 := List.mem_range.1 hm
    rw [h.is_distinct (r := ETH.MC_HI.MC_EN) hp ⟨hd _ (by decide), hm16⟩, h.get_distinct (r := ETH.MC_LO.MC_ADDR_LO) hp ⟨hd _ (by decide), hm16⟩,
      h.get_distinct (r := ETH.MC_HI.MC_ADDR_HI) hp ⟨hd _ (by decide), hm16⟩]
  simp only [ethAddrOk, macAddr, hany, h.get_distinct (r := ETH.MAC_LO.MAC_ADDR_LO) (j := 0) hp ⟨hd _ (by decide), by decide⟩,
    h.get_distinct (r := ETH.MAC_HI.MAC_ADDR_HI) (j := 0) hp ⟨hd _ (by decide), by decide⟩,
    h.is_distinct (r := ETH.PCFG.BCAST) (j := 0) hp ⟨hd _ (by decide), by decide⟩,
    h.is_distinct (r := ETH.PCFG.PROMISC) (j := 0) hp ⟨hd _ (by decide), by decide⟩]

theorem RowsKept.ethRidge_eq (h : RowsKept rs s t) (hr : (receiveRows.all fun r => rs.all r.distinct) = true) (p ty : Nat) :
    t.ethRidge p ty = s.ethRidge p ty := by
  have hd : ∀ r ∈ receiveRows, rs.all r.distinct = true := List.all_eq_true.1 hr
  rw [Bool.eq_iff_iff, ethRidge, ethRidge, List.any_eq_true, List.any_eq_true]
  refine exists_congr fun k => and_congr_right fun hk => ?_
  have hk16 : k < 16 := List.mem_range.1 hk
  rw [slotType, slotType, h.is_distinct (r := BL.RS_CFG.EN) hk16 ⟨hd _ (by decide), by decide⟩,
    h.get_distinct (r := BL.RS_CFG.CHAN) hk16 ⟨hd _ (by decide), by decide⟩,
    h.get_distinct (r := BL.RS_CFG.INST) hk16 ⟨hd _ (by decide), by decide⟩,
    h.get_distinct (r := BL.RS_CFG2.RX_ID) hk16 ⟨hd _ (by decide), by decide⟩]

end

/-- No 802.1AS frame that the port takes for itself. -/
theorem noAs {s : State} {ty : Nat} (h : ty ≠ 0x88F7 ∨ s.is ETH.AS_CFG.AS_EN = false) : ¬(ty = 0x88F7 && s.is ETH.AS_CFG.AS_EN) = true := by
  rcases h with h | h <;> simp [h]

theorem exec_ethRx_dropped (port : Fin 2) (frame : List Byte) (fcsOk : Bool) (tag : Option SecTag) (stamp : Nat) (s : State)
    (h : s.is ETH.PCFG.EN port = true ∧ s.is ETH.PSTAT.LINK port = true) :
    ∃ t, exec (.ethRx port frame fcsOk tag stamp) s = .next t ∧
      (fcsOk = false → t = s.incSat ETH.RX_BAD.FCS port) ∧
      (fcsOk = true → 60 ≤ frame.length → frame.length ≤ 1518 → etherType frame = 0x8808 → t = s.incSat ETH.RX_BAD.CTRL port) ∧
      (fcsOk = true → 60 ≤ frame.length → frame.length ≤ 1518 → etherType frame ≠ 0x8808 → s.is ETH.MSEC_CFG.RX_EN port = true →
        s.secOk port tag = false → s.macsecBypass frame = false → t = s.incSat ETH.MSEC_STAT.DROP port) ∧
      (fcsOk = true → 60 ≤ frame.length → frame.length ≤ 1518 → etherType frame ≠ 0x8808 → s.is ETH.MSEC_CFG.RX_EN port = false →
        s.ethAddrOk port frame = false → t = s) ∧
      (fcsOk = true → 60 ≤ frame.length → frame.length ≤ 1518 → etherType frame ≠ 0x8808 → s.is ETH.MSEC_CFG.RX_EN port = false →
        s.ethAddrOk port frame = true → etherType frame ≠ 0x88F7 → s.ethRidge port (etherType frame) = false → s.desc 30 = none →
        t = s.incSat RING.CNT.DROP_FULL 30) := by
  have hgood : fcsOk = true → 60 ≤ frame.length → frame.length ≤ 1518 → ¬(!fcsOk || frame.length < 60 || 1518 < frame.length) = true := by
    rintro rfl hlo hhi
    simp
    omega
  have hopen (hrx : s.is ETH.MSEC_CFG.RX_EN port = false) :
      ¬(s.is ETH.MSEC_CFG.RX_EN port && !s.macsecBypass frame && !s.secOk port tag) = true := by simp [hrx]
  refine ⟨_, exec_ethRx h frame fcsOk tag stamp, fun hfcs => if_pos (by simp [hfcs]), fun hfcs hlo hhi hctrl => ?_,
    fun hfcs hlo hhi hctrl hrx hsec hby => ?_, fun hfcs hlo hhi hctrl hrx haddr => ?_, fun hfcs hlo hhi hctrl hrx haddr has hridge hdesc => ?_⟩
  · exact (if_neg (hgood hfcs hlo hhi)).trans (if_pos hctrl)
  · exact (if_neg (hgood hfcs hlo hhi)).trans ((if_neg hctrl).trans (if_pos (by simp [hrx, hsec, hby])))
  · refine (if_neg (hgood hfcs hlo hhi)).trans ((if_neg hctrl).trans ((if_neg (hopen hrx)).trans ?_))
    rw [secPassed_off hrx, ethPassed, if_pos (by simp [haddr])]
  · refine (if_neg (hgood hfcs hlo hhi)).trans ((if_neg hctrl).trans ((if_neg (hopen hrx)).trans ?_))
    rw [secPassed_off hrx, ethPassed, if_neg (by simp [haddr]), if_neg (noAs (.inl has)), if_neg (by simp [hridge]), ethDeliver,
      if_neg (by simp [hdesc])]

theorem exec_ethRx_ring (port : Fin 2) (frame : List Byte) (tag : Option SecTag) (stamp : Nat) (d : Desc) (s : State)
    (h : s.is ETH.PCFG.EN port = true ∧ s.is ETH.PSTAT.LINK port = true ∧ 60 ≤ frame.length ∧ frame.length ≤ 1518 ∧ etherType frame ≠ 0x8808)
    (hsec : s.is ETH.MSEC_CFG.RX_EN port = false ∨ s.secOk port tag = true ∨ s.macsecBypass frame = true)
    (htake : s.ethAddrOk port frame = true ∧ (etherType frame ≠ 0x88F7 ∨ s.is ETH.AS_CFG.AS_EN = false) ∧
      s.ethRidge port (etherType frame) = false ∧ s.desc 30 = some d) :
    ∃ t, exec (.ethRx port frame true tag stamp) s = .next t ∧
      s.Completes t 30 d .ok (16 + frame.length) ∧
      Msg.hostData 30 ([stamp, frame.length, port.val] ++ frame.map (·.toNat)) ∈ t.out.drop s.out.length := by
  obtain ⟨hen, hlink, hlo, hhi, hctrl⟩ := h
  obtain ⟨haddr, has, hridge, hdesc⟩ := htake
  refine ⟨_, exec_ethRx_passed ⟨hen, hlink⟩ ⟨hlo, hhi⟩ hctrl hsec stamp, ?_⟩
  have hkept := s.framed_secPassed port.isLt frame tag
  generalize s.secPassed port frame tag = u at hkept
  have haddr' := (hkept.rows.ethAddrOk_eq port.isLt (by decide) frame).trans haddr
  have hridge' := (hkept.rows.ethRidge_eq (by decide) port (etherType frame)).trans hridge
  have has' : etherType frame ≠ 0x88F7 ∨ u.is ETH.AS_CFG.AS_EN = false :=
    has.imp_right fun h => (hkept.rows.is_distinct (by decide) (by decide)).trans h
  have hdesc' : u.desc 30 = some d := (congrArg (List.lookup 30) (hkept.recs .descs (by decide))).trans hdesc
  have hout : u.out = s.out := hkept.recs .out (by decide)
  have hstate : u.ethPassed port frame stamp =
      (u.send (.hostData 30 ([stamp, frame.length, port.val] ++ frame.map (·.toNat)))).complete 30 .ok (16 + frame.length) := by
    rw [ethPassed, if_neg (by simp [haddr']), if_neg (noAs has'), if_neg (by simp [hridge']), ethDeliver, if_pos (by simp [hdesc'])]
  rw [hstate]
  generalize hv : u.send (.hostData 30 ([stamp, frame.length, port.val] ++ frame.map (·.toNat))) = v
  have hsent : v.out = s.out ++ [.hostData 30 ([stamp, frame.length, port.val] ++ frame.map (·.toNat))] := by
    rw [← hv, ← hout]
    rfl
  have hrows : RowsKept [ETH.rxPn] s v := hkept.rows.trans (hv ▸ rowsKept_send _ _ _)
  refine ⟨Completes.of_outGrows (by decide) hrows ⟨_, hsent.symm⟩ (by decide)
    (completes_complete v (by decide) (show v.desc 30 = some d from hv ▸ hdesc') .ok (16 + frame.length)), ?_⟩
  obtain ⟨l, hl⟩ := outGrows_complete v (n := 30) (by decide) .ok (16 + frame.length)
  rw [← hl, hsent]
  simp

theorem exec_ethRx_ridge (port : Fin 2) (frame : List Byte) (tag : Option SecTag) (stamp : Nat) (s : State)
    (h : s.is ETH.PCFG.EN port = true ∧ s.is ETH.PSTAT.LINK port = true ∧ 60 ≤ frame.length ∧ frame.length ≤ 1518 ∧ etherType frame ≠ 0x8808)
    (hsec : s.is ETH.MSEC_CFG.RX_EN port = false ∨ s.secOk port tag = true ∨ s.macsecBypass frame = true)
    (htake : s.ethAddrOk port frame = true ∧ (etherType frame ≠ 0x88F7 ∨ s.is ETH.AS_CFG.AS_EN = false) ∧
      s.ethRidge port (etherType frame) = true) :
    ∃ t, exec (.ethRx port frame true tag stamp) s = .next t ∧
      t.ridgeIn = s.ridgeIn ++
        [{ chan := 2, inst := port, ident := etherType frame, mac := leNat (((frame.drop 6).take 6).map (·.toNat)), data := ((etherPayload frame).take 16).map (·.toNat) }] ∧
      t.descs = s.descs ∧ t.out = s.out := by
  obtain ⟨hen, hlink, hlo, hhi, hctrl⟩ := h
  obtain ⟨haddr, has, hridge⟩ := htake
  refine ⟨_, exec_ethRx_passed ⟨hen, hlink⟩ ⟨hlo, hhi⟩ hctrl hsec stamp, ?_⟩
  have hkept := s.framed_secPassed port.isLt frame tag
  generalize s.secPassed port frame tag = u at hkept
  have haddr' := (hkept.rows.ethAddrOk_eq port.isLt (by decide) frame).trans haddr
  have hridge' := (hkept.rows.ethRidge_eq (by decide) port (etherType frame)).trans hridge
  have has' : etherType frame ≠ 0x88F7 ∨ u.is ETH.AS_CFG.AS_EN = false :=
    has.imp_right fun h => (hkept.rows.is_distinct (by decide) (by decide)).trans h
  rw [ethPassed, if_neg (by simp [haddr']), if_neg (noAs has'), if_pos hridge']
  exact ⟨congrArg (· ++ _) (hkept.recs .ridgeIn (by decide)), hkept.recs .descs (by decide), hkept.recs .out (by decide)⟩

/-! ## The link and peer delay (R359, R361, R362) -/

theorem exec_ethLinkChange (port : Fin 2) (up : Bool) (sqi : BitVec 3) (s : State) (hen : s.is ETH.PCFG.EN port = true) :
    ∃ t, exec (.ethLinkChange port up sqi) s = .next t ∧
      t.is ETH.PSTAT.LINK port = up ∧ t.get ETH.PSTAT.SQI port = sqi.toNat ∧
      (up = false → s.is ETH.PSTAT.LINK port = true →
        t.get ETH.PSTAT.LINK_DOWN port = min (s.get ETH.PSTAT.LINK_DOWN port + 1) (2 ^ ETH.PSTAT.LINK_DOWN.width - 1)) ∧
      (up = s.is ETH.PSTAT.LINK port → t.evWarning = s.evWarning) := by
  generalize hu : s.set ETH.PSTAT.SQI sqi.toNat port = u
  have hexec : exec (.ethLinkChange port up sqi) s = .next (u.ethLink port up) := by
    show execEthLinkChange port up sqi s = _
    simp only [execEthLinkChange, hen, hu, Bool.not_true, Bool.and_false, Bool.false_eq_true, if_false]
  have hkept : RowsKept [ETH.PSTAT.SQI] s u := hu ▸ rowsKept_set_only s port.isLt (by decide)
  have hsqi : u.get ETH.PSTAT.SQI port = sqi.toNat := by
    rw [← hu, get_set_self]
    exact Nat.mod_eq_of_lt sqi.isLt
  have hlink : u.is ETH.PSTAT.LINK port = s.is ETH.PSTAT.LINK port := hkept.is_distinct port.isLt (by decide)
  have hdown : u.get ETH.PSTAT.LINK_DOWN port = s.get ETH.PSTAT.LINK_DOWN port := hkept.get_distinct port.isLt (by decide)
  have hwarning : u.evWarning = s.evWarning := hu ▸ rfl
  refine ⟨_, hexec, ?_⟩
  by_cases hsame : u.is ETH.PSTAT.LINK port = up
  · have hstay : u.ethLink port up = u := if_pos (by simp [hsame])
    rw [hstay]
    exact ⟨hsame, hsqi, fun hup hon => absurd ((hsame.symm.trans hlink).trans hon) (by rw [hup]; exact nofun), fun _ => hwarning⟩
  · generalize hv : (u.setb ETH.PSTAT.LINK up port).on (!up) (·.incSat ETH.PSTAT.LINK_DOWN port) = v
    have hchange : RowsKept (RING.lost :: Touch.complete) v (u.ethLink port up) := by
      have hevent : RowsKept (RING.lost :: Touch.complete) v (v.event .warning port 0x1B 0x0001 (ETH.PSTAT.LINK.addr port 0) (2 ^ 31)) :=
        rowsKept_event _ _ _ _ _ _ _ (List.mem_cons_self ..)
      have heq : u.ethLink port up = if !up && (v.event .warning port 0x1B 0x0001 (ETH.PSTAT.LINK.addr port 0) (2 ^ 31)).ethTxQ.any (·.1 == port) then
          ({ v.event .warning port 0x1B 0x0001 (ETH.PSTAT.LINK.addr port 0) (2 ^ 31) with ethTxQ := [] } : State).complete 31 .state 0
          else v.event .warning port 0x1B 0x0001 (ETH.PSTAT.LINK.addr port 0) (2 ^ 31) := by
        rw [ethLink, if_neg (by simpa using hsame), hv]
      rw [heq]
      generalize v.event .warning port 0x1B 0x0001 (ETH.PSTAT.LINK.addr port 0) (2 ^ 31) = w at hevent
      split
      · have hempty : RowsKept (RING.lost :: Touch.complete) w { w with ethTxQ := [] } := rowsKept_of_regs rfl
        exact hevent.trans (hempty.trans ((rowsKept_complete _ (by decide) .state 0).mono (List.subset_cons_self ..)))
      · exact hevent
    have hcount : RowsKept [ETH.PSTAT.LINK_DOWN] (u.setb ETH.PSTAT.LINK up port) v := by
      rw [← hv]
      exact rowsKept_on _ fun _ => rowsKept_set_only _ port.isLt (by decide)
    have hset : RowsKept [ETH.PSTAT.LINK] u (u.setb ETH.PSTAT.LINK up port) := rowsKept_set_only _ port.isLt (by decide)
    refine ⟨?_, ?_, fun hup _ => ?_, fun h => absurd (hlink.trans h.symm) hsame⟩
    · rw [hchange.is_distinct port.isLt (by decide), hcount.is_distinct port.isLt (by decide)]
      exact is_setb_self _ _ _ _ _ (by decide)
    · rw [hchange.get_distinct port.isLt (by decide), hcount.get_distinct port.isLt (by decide), hset.get_distinct port.isLt (by decide), hsqi]
    · rw [hchange.get_distinct port.isLt (by decide), ← hv, hup, Bool.not_false, on_true, get_incSat_self, ← hup,
        hset.get_distinct (r := ETH.PSTAT.LINK_DOWN) port.isLt (by decide), hdown]

theorem exec_msFault (port : Fin 2) (s : State) (h : s.is ETH.PCFG.EN port = true ∧ s.is ETH.PSTAT.LINK port = false) :
    ∃ t, exec (.msFault port) s = .next t ∧ t.is ETH.PSTAT.MS_FAULT port = true := by
  have hlost : ∀ (p : Fin 2) (k : Fin 4), RING.lost.key k 0 ≠ ETH.PSTAT.MS_FAULT.key p 0 := by decide
  exact ⟨_, congrArg Host.Outcome.next (if_pos (by simp [h.1, h.2])), is_raise _ _ _ _ _ _ (by decide) fun k hk => hlost port ⟨k, hk⟩⟩

theorem exec_pdelayRx (port : Fin 2) (stamp : Nat) (s : State)
    (h : s.is ETH.AS_CFG.AS_EN = true ∧ s.is ETH.PCFG.EN port = true ∧ s.is ETH.PSTAT.LINK port = true) :
    ∃ t, exec (.pdelayRx port stamp) s = .next t ∧ t = s.send (.pdelayResp port stamp) := by
  obtain ⟨has, hen, hlink⟩ := h
  exact ⟨_, congrArg Host.Outcome.next (if_pos (by simp [has, hen, hlink])), rfl⟩

end State

/-- Settles O37: each frame by where it goes, and a protected one by the packet number that it takes. -/
theorem ethernetFramesLinkAndPeerDelay : Obligations.EthernetFramesLinkAndPeerDelay := by
  unfold Obligations.EthernetFramesLinkAndPeerDelay
  exact ⟨State.exec_ethSend, State.exec_ethTxDone_ring, State.exec_ethTxDone_net, State.exec_ethRx_dropped, State.exec_ethRx_ring,
    State.exec_ethRx_ridge, State.exec_ethLinkChange, State.exec_msFault, State.exec_pdelayRx⟩

end Sys2Proof.Machine
end

/-!
What every operation keeps (O2, O4): the form of the state, `State.Inv`, and the commands that wait. `Sound s t` says it of the way
from `s` to `t`. It holds of the state itself, and each operation carries it on; the rules below are those of the shared operations, the
parts after this one state it once for each operation of the model, in the order of its definition, and for each command.
-/
section
namespace Sys2Proof.Machine
set_option Elab.async false
open State

/-- On the way from `s` to `t` the form is kept (R271, R457, R461, R473), and the commands that wait. -/
structure Sound (s t : State) : Prop where
  /-- A state of the form leads to one of the form. -/
  form : s.Inv → t.Inv
  /-- The queue of commands is as before. -/
  pending : t.pending = s.pending

/-- A command answers a next state, and what it does is sound. -/
def Steps (s : State) (o : Out) : Prop := ∃ t, o = .next t ∧ Sound s t

section
variable {s t u : State}

/-! ## The ways in which a state is built -/

theorem Sound.refl (s : State) : Sound s s := ⟨id, rfl⟩

theorem Sound.ite {c : Prop} [Decidable c] (h : c → Sound s t) (k : ¬c → Sound s u) : Sound s (if c then t else u) := by
  split
  · exact h ‹_›
  · exact k ‹_›

theorem Sound.on (h : Sound s t) {c : Bool} {f : State → State} (hf : ∀ {u}, Sound s u → Sound s (f u)) : Sound s (t.on c f) := by
  cases c
  · exact h
  · exact hf h

theorem Sound.foldl (h : Sound s t) {α : Type} {f : State → α → State} {l : List α} (hf : ∀ {u x}, Sound s u → Sound s (f u x)) :
    Sound s (l.foldl f t) := by
  induction l generalizing t with
  | nil => exact h
  | cons x l ih => exact ih (hf h)

theorem Sound.forN (h : Sound s t) {n : Nat} {f : Nat → State → State} (hf : ∀ {k u}, Sound s u → Sound s (f k u)) :
    Sound s (t.forN n f) := .foldl h fun h => hf h

theorem Sound.elim {α : Type} {o : Option α} {f : α → State} (h : Sound s t) (hf : ∀ {x}, Sound s (f x)) : Sound s (o.elim t f) := by
  cases o
  · exact h
  · exact hf

/-- The state of a pair. -/
theorem Sound.pair (h : Sound s t) {α : Type} {a : α} : Sound s (t, a).1 := h

theorem Sound.iteFst {α : Type} {c : Prop} [Decidable c] {p q : State × α} (h : c → Sound s p.1) (k : ¬c → Sound s q.1) :
    Sound s (if c then p else q).1 := by
  split
  · exact h ‹_›
  · exact k ‹_›

theorem Sound.iteSnd {α : Type} {c : Prop} [Decidable c] {p q : α × State} (h : c → Sound s p.2) (k : ¬c → Sound s q.2) :
    Sound s (if c then p else q).2 := by
  split
  · exact h ‹_›
  · exact k ‹_›

/-- The state of an option. -/
theorem Sound.iteGetD {c : Prop} [Decidable c] {o p : Option State} (h : c → Sound s (o.getD t)) (k : ¬c → Sound s (p.getD t)) :
    Sound s ((if c then o else p).getD t) := by
  split
  · exact h ‹_›
  · exact k ‹_›

theorem Sound.getD_some (h : Sound s t) : Sound s ((some t).getD u) := h

theorem Sound.getD_none (h : Sound s t) : Sound s (none.getD t) := h

theorem Sound.of_getD {o : Option State} (h : Sound s (o.getD t)) (e : o = some u) : Sound s u := by
  subst e
  exact h

theorem Sound.of_fst {α : Type} {p : State × α} {a : α} (h : Sound s p.1) (e : p = (t, a)) : Sound s t := by
  subst e
  exact h

theorem Steps.next (h : Sound s t) : Steps s (.next t) := ⟨t, rfl, h⟩

theorem Steps.ite {c : Prop} [Decidable c] {o p : Out} (h : c → Steps s o) (k : ¬c → Steps s p) : Steps s (if c then o else p) := by
  split
  · exact h ‹_›
  · exact k ‹_›

/-! ## The rows and the records -/

/-- What the form says, part by part. -/
theorem Sound.parts (h : Sound s t) (hr : Cells.Rising t.regs → Cells.Rising u.regs)
    (hm : Memory.wf t.mem = true → Memory.wf u.mem = true)
    (hq : ∀ c, (u.queue c).length ≤ (t.queue c).length) (he : u.evStore = t.evStore)
    (hn : t.snaps.length ≤ 16 → u.snaps.length ≤ 16)
    (hp : u.pending = t.pending) : Sound s u := by
  refine ⟨fun hs => ?_, hp.trans h.pending⟩
  obtain ⟨hregs, hmem, hqueues, hstore, hsnaps⟩ := h.form hs
  exact ⟨hr hregs, hm hmem, fun c => (hq c).trans (hqueues c), he ▸ hstore, hn hsnaps⟩

/-- The records of which the form says nothing. -/
theorem Sound.records (h : Sound s t) {now fresh eccBad eccSeen descs plays ridgeIn log engCalls engLoops canTx canRxQ ethTxQ fwImage
    calImage pwdBuf out} :
    Sound s { t with now := now, fresh := fresh, eccBad := eccBad, eccSeen := eccSeen, descs := descs, plays := plays, ridgeIn := ridgeIn,
                     log := log, engCalls := engCalls, engLoops := engLoops, canTx := canTx, canRxQ := canRxQ, ethTxQ := ethTxQ,
                     fwImage := fwImage, calImage := calImage, pwdBuf := pwdBuf, out := out } :=
  h.parts id id (fun c => by cases c <;> exact le_rfl) rfl id rfl

/-- The store of rows stays canonical. -/
theorem Sound.cells (h : Sound s t) {c : Cells} (hc : Cells.Rising t.regs → Cells.Rising c) : Sound s { t with regs := c } :=
  h.parts hc id (fun c => by cases c <;> exact le_rfl) rfl id rfl

/-- The shared SRAM stays in its canonical form (R457). -/
theorem Sound.memory (h : Sound s t) {m : List Host.Cell} (hm : Memory.wf t.mem = true → Memory.wf m = true) :
    Sound s { t with mem := m } :=
  h.parts id hm (fun c => by cases c <;> exact le_rfl) rfl id rfl

/-- The snapshot store holds no more than the last 16 (R473). -/
theorem Sound.snapshots (h : Sound s t) {l : List Snap} (hl : t.snaps.length ≤ 16 → l.length ≤ 16) : Sound s { t with snaps := l } :=
  h.parts id id (fun c => by cases c <;> exact le_rfl) rfl hl rfl

theorem Sound.set (h : Sound s t) {r v i j} : Sound s (t.set r v i j) := ⟨fun hs => (h.form hs).set .., h.pending⟩

theorem Sound.dropCells (h : Sound s t) {rows p} : Sound s (t.dropCells rows p) := .cells h fun hc => Cells.rising_filter hc _

/-- The queues and the event store take no more than they hold (R271, R461). -/
theorem Sound.eventAt (h : Sound s t) {time c inst source code arg0 arg1} : Sound s (t.eventAt time c inst source code arg0 arg1) :=
  ⟨fun hs => (h.form hs).eventAt ..,
    ((State.framed_refl (rs := [RING.lost]) (fs := [.events, .store]) t).eventAt (by decide)).pending.trans h.pending⟩

/-- A queue that loses entries. -/
theorem Sound.dequeue (h : Sound s t) {c q} (hq : q.length ≤ (t.queue c).length) : Sound s (t.setQueue c q) :=
  h.parts (setQueue_regs .. ▸ id) (setQueue_mem .. ▸ id) (fun d => by
    by_cases e : c = d
    · subst e; rwa [setQueue_queue]
    · rw [setQueue_queue_ne (h := e)]) (setQueue_evStore ..) (setQueue_snaps .. ▸ id) (setQueue_pending ..)

end

end Sys2Proof.Machine
end
/-!
What every operation keeps (O2, O4), the rows, the rings and the events: one lemma for each operation and each command, in the
order of the model.
-/
section
namespace Sys2Proof.Machine
set_option Elab.async false
open State

section
variable {s t u : State}

theorem Sound.setb (h : Sound s t) {r b i j} : Sound s (t.setb r b i j) := .set h

theorem Sound.seti (h : Sound s t) {r x i j} : Sound s (t.seti r x i j) := .set h

theorem Sound.setBit (h : Sound s t) {r n b i j} : Sound s (t.setBit r n b i j) := .set h

theorem Sound.incSat (h : Sound s t) {r i j} : Sound s (t.incSat r i j) := .set h

theorem Sound.inc (h : Sound s t) {r i j} : Sound s (t.inc r i j) := .set h

theorem Sound.send (h : Sound s t) {m} : Sound s (t.send m) := .records h

theorem Sound.setFree (h : Sound s t) {r i j} : Sound s (t.setFree r i j) := .records (.set h)

theorem Sound.event (h : Sound s t) {c inst source code arg0 arg1} : Sound s (t.event c inst source code arg0 arg1) := .eventAt h

theorem Sound.raise (h : Sound s t) {c r i j inst} : Sound s (t.raise c r i j inst) := .ite (fun _ => h) (fun _ => .event (.set h))

theorem Sound.raiseBit (h : Sound s t) {c r n i j inst} : Sound s (t.raiseBit c r n i j inst) :=
  .ite (fun _ => h) (fun _ => .event (.setBit h))

theorem Sound.raiseArg (h : Sound s t) {c r arg1 i j inst} : Sound s (t.raiseArg c r arg1 i j inst) :=
  .ite (fun _ => h) (fun _ => .event (.set h))

theorem Sound.perfWrap (h : Sound s t) {n} : Sound s (t.perfWrap n) := .on (.raiseBit h) (fun h => .send h)

theorem Sound.perfAdd (h : Sound s t) {source inst event n} : Sound s (t.perfAdd source inst event n) :=
  .ite (fun _ => h) (fun _ => .forN h (fun h => .ite (fun _ => .on (.set (.set h)) (fun h => .perfWrap h)) (fun _ => h)))

theorem Sound.tripIn (h : Sound s t) {pu src level} : Sound s (t.tripIn pu src level) := .setBit h

theorem Sound.callSafe (h : Sound s t) {a cause} : Sound s (t.callSafe a cause) := .ite (fun _ => .setBit (.setBit h)) (fun _ => .setBit h)

theorem Sound.callSafeBoth (h : Sound s t) {cause} : Sound s (t.callSafeBoth cause) := .setBit (.setBit h)

theorem Sound.safetyLog (h : Sound s t) {inst code arg0 arg1} : Sound s (t.safetyLog inst code arg0 arg1) := .event h

theorem Sound.govTake (h : Sound s t) {a} : Sound s (t.govTake a) := .set (.forN (.set (.forN h (fun h => .set h))) (fun h => .set h))

theorem Sound.blEdge (h : Sound s t) {a up stamp} : Sound s (t.blEdge a up stamp) := by
  unfold State.blEdge
  exact .ite (fun _ => h) (fun _ => by
    extract_lets +onlyGivenNames _ _ _ s3
    have hs3 : Sound s s3 := .set (.foldl (.setb (.seti h)) (fun h => .set h))
    exact .ite (fun _ => .set (.set hs3)) (fun _ => .set hs3))

theorem Sound.lines (h : Sound s t) : Sound s t.lines := .set (.set h)

theorem Sound.ssout (h : Sound s t) : Sound s t.ssout := .setb h

theorem Sound.unsafeAxis (h : Sound s t) {a c} : Sound s (t.unsafeAxis a c) := .callSafe h

theorem Sound.bivLog (h : Sound s t) {a} : Sound s (t.bivLog a) := .safetyLog h

theorem Sound.bivEnd (h : Sound s t) : Sound s t.bivEnd := .forN h (fun h => .on h (fun h => .safetyLog h))

theorem Sound.bivEnter1 (h : Sound s t) {a c} : Sound s (t.bivEnter1 a c) := by
  unfold State.bivEnter1
  exact .ite (fun _ => h) (fun _ => by
    extract_lets +onlyGivenNames t'
    have ht' : Sound s t' := .setBit h
    exact .ite (fun _ => .callSafe (.bivLog ht')) (fun _ => .bivLog (.set (.set (.set (.set ht'))))))

theorem Sound.bivEnter (h : Sound s t) {a c} : Sound s (t.bivEnter a c) := .bivEnter1 h

theorem Sound.bivLoss (h : Sound s t) {a c} : Sound s (t.bivLoss a c) := .ite (fun _ => .callSafe h) (fun _ => .bivEnter1 h)

theorem Sound.bivSame (h : Sound s t) {a c} : Sound s (t.bivSame a c) :=
  .ite (fun _ => .bivEnter1 h) (fun _ => .ite (fun _ => h) (fun _ => .bivLog (.setBit h)))

theorem Sound.substTaken (h : Sound s t) {a} : Sound s (t.substTaken a) := .ite (fun _ => h) (fun _ => .bivLoss (.setBit h))

theorem Sound.lapseTo (h : Sound s t) {a ph} : Sound s (t.lapseTo a ph) := .set (.set (.set h))

theorem Sound.shSet (h : Sound s t) {on} : Sound s (t.shSet on) := .set (.forN h (fun h => .on h (fun h => .set h)))

theorem Sound.holdTryDrive (h : Sound s t) : Sound s t.holdTryDrive := by
  unfold State.holdTryDrive
  exact .ite (fun _ => by
    extract_lets +onlyGivenNames _ u'
    have hu' : Sound s u' := .setb (.shSet (.set h))
    exact .on hu' (fun h => .safetyLog (.safetyLog h))) (fun _ => h)

theorem Sound.shRedrive (h : Sound s t) : Sound s t.shRedrive := .on h (fun h => .setb (.shSet h))

theorem Sound.shSupply (h : Sound s t) {ok} : Sound s (t.shSupply ok) :=
  .ite (fun _ => .shSet (.set h)) (fun _ => .on (.set h) (fun h => .shRedrive h))

theorem Sound.holdIssue (h : Sound s t) {kind} : Sound s (t.holdIssue kind) := by
  unfold State.holdIssue
  extract_lets +onlyGivenNames t'
  have ht' : Sound s t' := .holdTryDrive (.setb (.set (.set h)))
  exact .safetyLog ht'

theorem Sound.sesClose (h : Sound s t) : Sound s t.sesClose := .ite (fun _ => .set (.set (.safetyLog h))) (fun _ => h)

theorem Sound.mbxDone (h : Sound s t) {result rsp} : Sound s (t.mbxDone result rsp) := by
  unfold State.mbxDone
  extract_lets +onlyGivenNames t'
  have ht' : Sound s t' := .set (.set (.set (.set h)))
  exact .ite (fun _ => .sesClose (.set ht')) (fun _ => ht')

theorem Sound.pitDisarm (h : Sound s t) : Sound s t.pitDisarm := by
  unfold State.pitDisarm
  extract_lets +onlyGivenNames _ _ t'
  have ht' : Sound s t' := .set h
  exact .ite (fun _ => .set ht') (fun _ => .ite (fun _ => .set ht') (fun _ => .ite (fun _ => .set ht') (fun _ => .ite (fun _ => .set ht')
    (fun _ => .ite (fun _ => .set ht') (fun _ => .ite (fun _ => .set ht') (fun _ => .ite (fun _ => .set ht') (fun _ => .ite
      (fun _ => .set ht') (fun _ => .ite (fun _ => .set ht') (fun _ => .ite (fun _ => .set ht') (fun _ => .ite (fun _ => .set ht')
        (fun _ => .ite (fun _ => .set ht') (fun _ => .ite (fun _ => .set ht') (fun _ => .ite (fun _ => .set ht') (fun _ => .ite
          (fun _ => .set ht') (fun _ => ht')))))))))))))))

theorem Sound.pitAct (h : Sound s t) : Sound s t.pitAct := .pitDisarm (.safetyLog h)

theorem Sound.pitSet (h : Sound s t) {source sel inst unit} : Sound s (t.pitSet source sel inst unit) :=
  .safetyLog (.set (.set (.set (.set (.set (.set h))))))

theorem Sound.accessRefused (h : Sound s t) {addr data} : Sound s (t.accessRefused addr data) := .event h

theorem Sound.safetyRefused (h : Sound s t) {what data role} : Sound s (t.safetyRefused what data role) := .safetyLog (.accessRefused h)

theorem Sound.pitArm (h : Sound s t) (hu : Sound s u) {arm u' source sel inst data real} :
  Sound s (t.pitArm u arm u' source sel inst data real) :=
  .ite (fun _ => hu) (fun _ => .ite (fun _ => .set (.pitSet hu)) (fun _ => .accessRefused h))

theorem Sound.ringSums (h : Sound s t) {n} : Sound s (t.ringSums n) := .setBit (.setBit h)

theorem Sound.ringEvent (h : Sound s t) {n} : Sound s (t.ringEvent n) := .event h

theorem Sound.msixSignal (h : Sound s t) {v} : Sound s (t.msixSignal v) := .ite (fun _ => .setBit h) (fun _ => .send h)

theorem Sound.msixWrite (h : Sound s t) {v word data} : Sound s (t.msixWrite v word data) := by
  unfold State.msixWrite
  extract_lets +onlyGivenNames t'
  have ht' : Sound s t' := .set h
  exact .on ht' (fun h => .send (.setBit h))

theorem Sound.ringSignal (h : Sound s t) {n} : Sound s (t.ringSignal n) := .msixSignal (.set h)

theorem Sound.hostRead (h : Sound s t) {addr len} : Sound s (t.hostRead addr len) := .foldl h (fun h => .send h)

theorem Sound.ringAdvance (h : Sound s t) {n irq} : Sound s (t.ringAdvance n irq) := by
  unfold State.ringAdvance
  extract_lets size head s1 s2 s3
  have hs1 : Sound s s1 := .inc (.on (.set h) (fun h => .inc h))
  have hs2 : Sound s s2 := .perfAdd (.incSat hs1)
  have hs3 : Sound s s3 := .send hs2
  exact .on hs3 (fun h => .ringSignal h)

theorem Sound.unask (h : Sound s t) {k} : Sound s (t.unask k) := by
  unfold State.unask
  extract_lets +onlyGivenNames s1 _
  have hs1 : Sound s s1 := .on h (fun h => .set h)
  exact .set (.on hs1 (fun h => .set (.set h)))

theorem Sound.abandon (h : Sound s t) {n} : Sound s (t.abandon n) := by
  unfold State.abandon
  extract_lets +onlyGivenNames s1
  have hs1 : Sound s s1 := .set (.records h)
  split
  · exact .on (.set (.unask hs1)) (fun h => .set h)
  · exact .on (.set (.unask hs1)) (fun h => .set h)
  · exact .on hs1 (fun h => .set h)
  · exact .on hs1 (fun h => .set h)
  · exact .forN hs1 (fun h => .set (.set h))
  · exact .forN hs1 (fun h => .set (.set h))
  · exact .records hs1
  · exact hs1

theorem Sound.ringRestart (h : Sound s t) {n size} : Sound s (t.ringRestart n size) :=
  .on (.ringSums (.on (.set (.set (.set (.set (.set (.set (.abandon h))))))) (fun h => .set h))) (fun h => .ringEvent h)

theorem Sound.complete (h : Sound s t) {n st result} : Sound s (t.complete n st result) := by
  unfold State.complete
  split
  · exact h
  · extract_lets +onlyGivenNames s1 _ s3
    have hs1 : Sound s s1 := .send h
    have hs3 : Sound s s3 := .ringAdvance (.set (.records hs1))
    exact .ite (fun _ => .ringRestart hs3) (fun _ => hs3)

theorem Sound.writeRecord (h : Sound s t) {n rtype last payload} : Sound s (t.writeRecord n rtype last payload) :=
  .ringAdvance (.inc (.send h))

theorem Sound.stopRings (h : Sound s t) : Sound s t.stopRings := by
  unfold State.stopRings
  exact .forN h (fun h => by
    extract_lets +onlyGivenNames t1 t2
    have ht1 : Sound s t1 := .abandon h
    have ht2 : Sound s t2 := .on ht1 (fun h => .ringRestart h)
    exact .on ht2 (fun h => .ringSums (.set (.set h))))

theorem Sound.haltRing (h : Sound s t) {n} : Sound s (t.haltRing n) := .ringEvent (.ringSums (.set (.set (.abandon h))))

theorem Sound.canDeliver (h : Sound s t) {c} : Sound s (t.canDeliver c) := by
  unfold State.canDeliver
  split
  · exact h
  · exact .ite (fun _ => h) (fun _ => .complete (.send (.records h)))

theorem Sound.canQueue (h : Sound s t) {r} : Sound s (t.canQueue r) := .ite (fun _ => .canDeliver (.records h)) (fun _ => .incSat h)

theorem Sound.canPut (h : Sound s t) {c b shadow f} : Sound s (t.canPut c b shadow f) := by
  unfold State.canPut
  extract_lets +onlyGivenNames s1
  have hs1 : Sound s s1 := .setBit h
  exact .records hs1

theorem Sound.canDrop (h : Sound s t) {c b shadow} : Sound s (t.canDrop c b shadow) := by
  unfold State.canDrop
  extract_lets +onlyGivenNames s1
  have hs1 : Sound s s1 := .setBit h
  exact .records hs1

theorem Sound.canShift (h : Sound s t) {c b} : Sound s (t.canShift c b) := by
  unfold State.canShift
  extract_lets +onlyGivenNames s1
  have hs1 : Sound s s1 := .canDrop h
  split
  · exact .canPut (.canDrop hs1)
  · exact hs1

theorem Sound.canChoose (h : Sound s t) {c} : Sound s (t.canChoose c) := .ite (fun _ => .set h) (fun _ => .set h)

theorem Sound.countRefusal (h : Sound s t) {k reason run} : Sound s (t.countRefusal k reason run) := by
  unfold State.countRefusal
  extract_lets +onlyGivenNames s1
  have hs1 : Sound s s1 := .incSat (.set h)
  exact .ite (fun _ => hs1) (fun _ => by
    extract_lets +onlyGivenNames s2
    have hs2 : Sound s s2 := .incSat hs1
    exact .ite (fun _ => .safetyLog (.set hs2)) (fun _ => hs2))

theorem Sound.refuseCount (h : Sound s t) {m reason} : Sound s (t.refuseCount m reason) :=
  .ite (fun _ => .forN h (fun h => .on h (fun h => .countRefusal h))) (fun _ => .ite (fun _ => .elim h (.countRefusal h)) (fun _ => .elim h
    (.countRefusal h)))

theorem Sound.respDrop (h : Sound s t) {k} : Sound s (t.respDrop k) := .incSat h

theorem Sound.respond (h : Sound s t) {k src dst mac op status result seq respSeq seed} :
  Sound s (t.respond k src dst mac op status result seq respSeq seed) :=
  .ite (fun _ => .respDrop h) (fun _ => .ite (fun _ => .send h) (fun _ => .ite (fun _ => .on (.canPut h) (fun h => .canChoose h))
    (fun _ => .ite (fun _ => .canPut h) (fun _ => .respDrop h))))

theorem Sound.respondNext (h : Sound s t) {k src dst mac op status result seq} :
  Sound s (t.respondNext k src dst mac op status result seq) :=
  .inc (.respond h)

theorem Sound.respondTo (h : Sound s t) {m k status result} : Sound s (t.respondTo m k status result) := .respondNext h

theorem Sound.setPlay (h : Sound s t) {p} : Sound s (t.setPlay p) := .records h

theorem Sound.playDone (h : Sound s t) {p} : Sound s (t.playDone p) := .complete h

theorem Sound.playJudged (h : Sound s t) {n ok} : Sound s (t.playJudged n ok) := by
  unfold State.playJudged
  split
  · exact h
  · exact .ite (fun _ => .setPlay h) (fun _ => .ite (fun _ => .setPlay h) (fun _ => .playDone h))

theorem Sound.playsForced (h : Sound s t) : Sound s t.playsForced := .foldl h (fun h => .on h (fun h => .playDone h))

theorem Sound.preempted (h : Sound s t) {n} : Sound s (t.preempted n) := .complete h

theorem Sound.refuse (h : Sound s t) {m reason} : Sound s (t.refuse m reason) := by
  unfold State.refuse
  extract_lets +onlyGivenNames s1
  have hs1 : Sound s s1 := .refuseCount h
  exact .ite (fun _ => .ite (fun _ => .complete hs1) (fun _ => .playJudged hs1)) (fun _ => .ite (fun _ => hs1) (fun _ => .ite
    (fun _ => .elim hs1 (.respond hs1)) (fun _ => .ite (fun _ => .elim hs1 (.respondTo hs1)) (fun _ => hs1))))

theorem Sound.lapseEnd (h : Sound s t) {a} : Sound s (t.lapseEnd a) := .on (.set h) (fun h => .lapseTo h)

theorem Sound.acceptSetpoint (h : Sound s t) {m} : Sound s (t.acceptSetpoint m) := by
  unfold State.acceptSetpoint
  extract_lets +onlyGivenNames _ s0 s1
  have hs0 : Sound s s0 := .set (.set h)
  have hs1 : Sound s s1 := .ite (fun _ => .ite (fun _ => .lapseEnd (.lapseEnd hs0)) (fun _ => hs0)) (fun _ => .ite (fun _ => .lapseEnd hs0)
    (fun _ => hs0))
  exact .ite (fun _ => hs1) (fun _ => by
    extract_lets +onlyGivenNames s2
    have hs2 : Sound s s2 := .set (.set (.set (.set hs1)))
    exact .ite (fun _ => hs2) (fun _ => .on (.set hs2) (fun h => .set h)))

theorem Sound.acceptData (h : Sound s t) {m k} : Sound s (t.acceptData m k) := by
  unfold State.acceptData
  extract_lets +onlyGivenNames _ s1
  have hs1 : Sound s s1 := .set (.set (.set h))
  exact .ite (fun _ => by
    extract_lets +onlyGivenNames s2
    have hs2 : Sound s s2 := .acceptSetpoint hs1
    exact .ite (fun _ => .playJudged hs2) (fun _ => hs2)) (fun _ => .ite (fun _ => .setb hs1) (fun _ => .ite (fun _ => .respondTo hs1)
      (fun _ => .ite (fun _ => .respondTo hs1) (fun _ => .set (.set (.set (.set (.set (.set hs1)))))))))

theorem Sound.openSession (h : Sound s t) {m k} : Sound s (t.openSession m k) := by
  unfold State.openSession
  extract_lets +onlyGivenNames s1 _ _
  have hs1 : Sound s s1 := .inc h
  exact .on (.safetyLog (.set (.set (.set (.set hs1))))) (fun h => .set h)

theorem Sound.acceptStart (h : Sound s t) {m k} : Sound s (t.acceptStart m k) := by
  unfold State.acceptStart
  extract_lets +onlyGivenNames s1
  have hs1 : Sound s s1 := .openSession h
  exact .ite (fun _ => .ite (fun _ => .complete hs1) (fun _ => .playJudged hs1)) (fun _ => .set (.respond hs1))

theorem Sound.ridgeSpoil (h : Sound s t) {m k} : Sound s (t.ridgeSpoil m k).1 :=
  .iteFst (fun _ => .pair h) (fun _ => .iteFst (fun _ => .pair h) (fun _ => .pair h))

theorem Sound.ridgeTake (h : Sound s t) {m} : Sound s (t.ridgeTake m) := by
  unfold State.ridgeTake
  exact .ite (fun _ => .refuse h) (fun _ => by
    split
    · exact h
    · exact .ite (fun _ => .acceptStart h) (fun _ => .acceptData h))

theorem Sound.ridgeDiscard (h : Sound s t) {m} : Sound s (t.ridgeDiscard m) :=
  .ite (fun _ => h) (fun _ => .ite (fun _ => .complete h) (fun _ => .playJudged h))

theorem Sound.ridgeMeet (h : Sound s t) {m} : Sound s (t.ridgeMeet m) := by
  unfold State.ridgeMeet
  split
  · exact .ridgeTake h
  · exact .ite (fun _ => .ridgeDiscard h) (fun _ => .ite (fun _ => .ridgeDiscard (.set (.set (.pitAct h)))) (fun _ => .ite (fun _ => by
      split
      rename_i t' m' heq
      have ht' : Sound s t' := .of_fst (.ridgeSpoil h) heq
      exact .ridgeTake (.pitAct ht')) (fun _ => .ite (fun _ => by
      extract_lets +onlyGivenNames t' _
      have ht' : Sound s t' := .ridgeTake (.pitAct h)
      exact .ite (fun _ => .refuseCount ht') (fun _ => .on ht' (fun h => .openSession h))) (fun _ => .ridgeTake h))))

theorem Sound.ridgeDrain (h : Sound s t) {n} : Sound s (t.ridgeDrain n) := by
  unfold State.ridgeDrain
  split
  · exact h
  · exact .ridgeMeet (.records h)

theorem Sound.commandDone (h : Sound s t) {net st result} : Sound s (t.commandDone net st result) :=
  .ite (fun _ => .respondNext (.set h)) (fun _ => .complete (.set h))

theorem Sound.commandOver (h : Sound s t) {net st} : Sound s (t.commandOver net st) := .commandDone h

theorem Sound.ocTrip (h : Sound s t) {a} : Sound s (t.ocTrip a) := .tripIn h

theorem Sound.gate (h : Sound s t) {island ftype body} : Sound s (t.gate island ftype body) := .send h

theorem Sound.gateEdge (h : Sound s t) {island on slot dly} : Sound s (t.gateEdge island on slot dly) := .setb (.gate h)

theorem Sound.gateSoftOff (h : Sound s t) {island src} : Sound s (t.gateSoftOff island src) := .set (.gate h)

theorem Sound.gateWrite (h : Sound s t) {island addr data} : Sound s (t.gateWrite island addr data) := .set (.incSat (.gate h))

theorem Sound.gateRelease (h : Sound s t) {island} : Sound s (t.gateRelease island) := .gateWrite (.set h)

theorem Sound.osdAbort (h : Sound s t) {star} : Sound s (t.osdAbort star) :=
  .ite (fun _ => .on h (fun h => .set (.set h))) (fun _ => .on h (fun h => .set (.set h)))

theorem Sound.gateRead (h : Sound s t) {island addr} : Sound s (t.gateRead island addr) := .gate h

theorem Sound.setMode (h : Sound s t) {a m} : Sound s (t.setMode a m) := .ite (fun _ => h) (fun _ => .event (.set h))

theorem Sound.detach (h : Sound s t) {a b} : Sound s (t.detach a b) := .on (.setb h) (fun h => .setb h)

theorem Sound.follow (h : Sound s t) : Sound s t.follow := .ite (fun _ => h) (fun _ => .foldl h (fun h => .set h))

theorem Sound.bridgeOff (h : Sound s t) {pu} : Sound s (t.bridgeOff pu) := .forN h (fun h => .set (.set h))

theorem Sound.axHalt (h : Sound s t) {pu} : Sound s (t.axHalt pu) := .foldl (.set (.setBit (.set (.bridgeOff h)))) (fun h => .set h)

theorem Sound.puOff (h : Sound s t) {pu src} : Sound s (t.puOff pu src) :=
  .ite (fun _ => .foldl h (fun h => .gateSoftOff h)) (fun _ => .set (.set (.axHalt h)))

theorem Sound.tripEvent (h : Sound s t) {pu} : Sound s (t.tripEvent pu) := .ite (fun _ => .eventAt (.set h)) (fun _ => h)

theorem Sound.setFirst (h : Sound s t) {pu src unit tick} : Sound s (t.setFirst pu src unit tick) := .set (.set (.set (.set (.set h))))

theorem Sound.setSecond (h : Sound s t) {pu src unit tick} : Sound s (t.setSecond pu src unit tick) := .set (.set (.set (.set h)))

theorem Sound.simul (h : Sound s t) {pu} : Sound s (t.simul pu) := .setb h

theorem Sound.capture (h : Sound s t) {pu src unit tick} : Sound s (t.capture pu src unit tick) :=
  .ite (fun _ => .simul (.set (.set (.setFirst h)))) (fun _ => .ite (fun _ => h) (fun _ => .ite (fun _ => .ite (fun _ => .simul (.setFirst
    (.setSecond h))) (fun _ => .ite (fun _ => .simul (.setSecond h)) (fun _ => h))) (fun _ => .ite (fun _ => .simul (.setSecond h))
      (fun _ => h))))

theorem Sound.catchAbort (h : Sound s t) {a} : Sound s (t.catchAbort a) := .on h (fun h => .set (.set h))

theorem Sound.trip (h : Sound s t) {unitPu src unit tick} : Sound s (t.trip unitPu src unit tick) := by
  unfold State.trip
  extract_lets +onlyGivenNames _ s1
  have hs1 : Sound s s1 := .setBit (.capture h)
  exact .ite (fun _ => hs1) (fun _ => by
    extract_lets +onlyGivenNames s2 s3 s4
    have hs2 : Sound s s2 := .set (.puOff (.set (.set hs1)))
    have hs3 : Sound s s3 := .set hs2
    have hs4 : Sound s s4 := .ite (fun _ => hs3) (fun _ => .tripEvent hs3)
    exact .ite (fun _ => .unsafeAxis (.catchAbort hs4)) (fun _ => hs4))

theorem Sound.dropEdges (h : Sound s t) {pu} : Sound s (t.dropEdges pu) := .records h

theorem Sound.tripNow (h : Sound s t) {pu src} : Sound s (t.tripNow pu src) := .trip (.on h (fun h => .dropEdges h))

theorem Sound.bands (h : Sound s t) {pu} : Sound s (t.bands pu) := .forN h (fun h => .set h)

theorem Sound.legTo (h : Sound s t) {a leg high} : Sound s (t.legTo a leg high) :=
  .ite (fun _ => h) (fun _ => .gateEdge (.on h (fun h => .gateEdge h)))

theorem Sound.legsOff (h : Sound s t) {a} : Sound s (t.legsOff a) := .foldl h (fun h => .on h (fun h => .gateEdge h))

theorem Sound.legsLow (h : Sound s t) {a} : Sound s (t.legsLow a) := .foldl h (fun h => .ite (fun _ => .legTo h) (fun _ => h))

theorem Sound.thrTake (h : Sound s t) {c} : Sound s (t.thrTake c) := .set h

end

end Sys2Proof.Machine
end
/-!
What every operation keeps (O2, O4), the commands of the host: one lemma for each operation and each command, in the
order of the model.
-/
section
namespace Sys2Proof.Machine
set_option Elab.async false
open State

section
variable {s t u : State}

theorem Sound.posEnable (h : Sound s t) {a} : Sound s (t.posEnable a) := .setb (.set (.set (.set (.set (.set (.set h))))))

theorem Sound.forwardAngle (h : Sound s t) {a} : Sound s (t.forwardAngle a) := .set (.set h)

theorem Sound.align (h : Sound s t) {a code pos angle} : Sound s (t.align a code pos angle) :=
  .ite (fun _ => h) (fun _ => .forwardAngle (.set (.set (.seti h))))

theorem Sound.capDiscard (h : Sound s t) {a} : Sound s (t.capDiscard a) := .setb (.set (.set (.incSat h)))

theorem Sound.capTmo (h : Sound s t) {a} : Sound s (t.capTmo a) := .capDiscard (.set (.incSat (.set h)))

theorem Sound.capUse (h : Sound s t) {a word attn request} : Sound s (t.capUse a word attn request) := by
  unfold State.capUse
  extract_lets +onlyGivenNames _ _ _ _ _ _ _ _ _ s3 _
  have hs3 : Sound s s3 := .setb (.set (.set (.seti (.set (.set (.set (.set (.set h))))))))
  exact .align (.on hs3 (fun h => .raise h))

theorem Steps.execCapRequest {axis} : Steps s (Machine.execCapRequest axis s) := by
  unfold Machine.execCapRequest
  exact .next (.ite (fun _ => .incSat (.refl s)) (fun _ => by
    extract_lets +onlyGivenNames t' u'
    have ht' : Sound s t' := .set (.refl s)
    have hu' : Sound s u' := .on ht' (fun h => .set (.pitAct h))
    exact .on hu' (fun h => .set (.pitAct h))))

theorem Steps.execCapFrame
  {axis startOk valid attn word crc delay request} : Steps s (Machine.execCapFrame axis startOk valid attn word crc delay request s) := by
  unfold Machine.execCapFrame
  exact .ite (fun _ => .next (.refl s)) (fun _ => .ite (fun _ => .next (.capTmo (.refl s))) (fun _ => by
    extract_lets +onlyGivenNames _ _ s1 _
    have hs1 : Sound s s1 := .on (.set (.refl s)) (fun h => .set h)
    exact .next (.ite (fun _ => .capDiscard (.incSat (.set hs1))) (fun _ => .ite (fun _ => .capDiscard (.set hs1))
      (fun _ => .capUse hs1)))))

theorem Steps.execCapTimeout {axis} : Steps s (Machine.execCapTimeout axis s) :=
  .next (.ite (fun _ => .capTmo (.refl s)) (fun _ => .refl s))

theorem Steps.execCapRecoveryEnd {axis} : Steps s (Machine.execCapRecoveryEnd axis s) := .next (.set (.refl s))

theorem Steps.execAbsLost {axis} : Steps s (Machine.execAbsLost axis s) :=
  .next (.ite (fun _ => .setBit (.set (.set (.refl s)))) (fun _ => .refl s))

theorem Sound.pushEdge (h : Sound s t) {a stamp} : Sound s (t.pushEdge a stamp) := .set (.set (.set (.set h)))

theorem Sound.setSpdInc (h : Sound s t) {a mag} : Sound s (t.setSpdInc a mag) := .seti h

theorem Sound.ptoStart (h : Sound s t) {a} : Sound s (t.ptoStart a) := by
  unfold State.ptoStart
  extract_lets +onlyGivenNames _ s1
  have hs1 : Sound s s1 := .setb h
  exact .ite (fun _ => hs1) (fun _ => .ite (fun _ => .on hs1 (fun h => .set h)) (fun _ => .set (.set (.set hs1))))

theorem Sound.lineMove (h : Sound s t) {a d} : Sound s (t.lineMove a d) := by
  unfold State.lineMove
  extract_lets +onlyGivenNames s1
  have hs1 : Sound s s1 := .set h
  exact .on hs1 (fun h => .set h)

theorem Steps.execIncEdge {axis aLeads stamp} : Steps s (Machine.execIncEdge axis aLeads stamp s) := by
  unfold Machine.execIncEdge
  extract_lets +onlyGivenNames _ s'
  have hs' : Sound s s' := .blEdge (.refl s)
  exact .ite (fun _ => .next (.incSat (.set (.pitAct hs')))) (fun _ => by
    extract_lets +onlyGivenNames _ _ _ s1 _ _ s3 _
    have hs1 : Sound s s1 := .set (.set hs')
    have hs3 : Sound s s3 := .lineMove (.set (.set (.on hs1 (fun h => .raise h))))
    exact .ite (fun _ => .next (.pushEdge (.set (.set (.setb (.set (.send (.raise (.setb hs3))))))))) (fun _ => .ite (fun _ => .next
      (.pushEdge (.set (.set (.setb (.set hs3)))))) (fun _ => .next (.pushEdge (.set (.set (.setSpdInc (.setb hs3))))))))

theorem Steps.execIncIllegal {axis} : Steps s (Machine.execIncIllegal axis s) := .next (.lineMove (.incSat (.set (.refl s))))

theorem Steps.execIncIndex {axis} : Steps s (Machine.execIncIndex axis s) := by
  unfold Machine.execIncIndex
  extract_lets +onlyGivenNames _ sz
  have hsz : Sound s sz := .on (.refl s) (fun h => .inc h)
  exact .ite (fun _ => .next hsz) (fun _ => by
    extract_lets +onlyGivenNames _ _ s0 _ s1
    have hs0 : Sound s s0 := .on hsz (fun h => .pitAct h)
    have hs1 : Sound s s1 := .align (.set hs0)
    exact .ite (fun _ => .next (.set (.set (.set hs1)))) (fun _ => .ite (fun _ => .next hs1) (fun _ => .next (.on hs1
      (fun h => .raiseArg h)))))

theorem Steps.execReref {axis} : Steps s (Machine.execReref axis s) :=
  .next (.ite (fun _ => .refl s) (fun _ => .ite (fun _ => .set (.refl s)) (fun _ => .set (.set (.refl s)))))

theorem Steps.execLineFlt {axis pair present} : Steps s (Machine.execLineFlt axis pair present s) := by
  unfold Machine.execLineFlt
  exact .ite (fun _ => .next (.on (.setb (.refl s)) (fun h => .raise h))) (fun _ => by
    extract_lets +onlyGivenNames s1
    have hs1 : Sound s s1 := .setBit (.refl s)
    exact .ite (fun _ => .next (.on hs1 (fun h => .raise h))) (fun _ => by
      extract_lets +onlyGivenNames s2
      have hs2 : Sound s s2 := .setb hs1
      exact .ite (fun _ => .next hs2) (fun _ => by
        extract_lets +onlyGivenNames s3
        have hs3 : Sound s s3 := .setBit (.set (.set hs2))
        exact .next (.ite (fun _ => hs3) (fun _ => .ite (fun _ => .on hs3 (fun h => .bivEnter h)) (fun _ => .ite (fun _ => .bivEnter hs3)
          (fun _ => .unsafeAxis hs3)))))))

theorem Steps.execPosStill {axis} : Steps s (Machine.execPosStill axis s) :=
  .next (.ite (fun _ => .refl s) (fun _ => .set (.set (.setb (.set (.set (.refl s)))))))

theorem Sound.pairTick (h : Sound s t) {a i j} : Sound s (t.pairTick a i j) :=
  .ite (fun _ => h) (fun _ => .ite (fun _ => .incSat (.ite (fun _ => .incSat h) (fun _ => .set h))) (fun _ => .set (.ite
    (fun _ => .incSat h) (fun _ => .set h))))

theorem Sound.xchkTick (h : Sound s t) {a} : Sound s (t.xchkTick a) :=
  .foldl (.foldl (.set h) (fun h => .pairTick h)) (fun h => .ite (fun _ => .setBit h) (fun _ => h))

theorem Sound.offerTick (h : Sound s t) {a} : Sound s (t.offerTick a) := by
  unfold State.offerTick
  split
  · exact .setb (.seti (.set h))
  · exact .set h

theorem Sound.angleTick (h : Sound s t) {a} : Sound s (t.angleTick a) := by
  unfold State.angleTick
  extract_lets +onlyGivenNames _ _ s1 s2 _ _ _ s3 _ _ s4 _ _ _
  have hs1 : Sound s s1 := .setb (.incSat h)
  have hs2 : Sound s s2 := .on hs1 (fun h => .set (.pitAct h))
  have hs3 : Sound s s3 := .on (.seti hs2) (fun h => .set h)
  have hs4 : Sound s s4 := .ite (fun _ => .setb (.setSpdInc hs3)) (fun _ => hs3)
  exact .seti hs4

theorem Sound.ptoTick (h : Sound s t) {a} : Sound s (t.ptoTick a) :=
  .ite (fun _ => .setb h) (fun _ => .ite (fun _ => .set h) (fun _ => .on (.seti (.on (.set (.set (.seti h))) (fun h => .inc h)))
    (fun h => .set h)))

theorem Sound.posTick (h : Sound s t) : Sound s t.posTick := by
  unfold State.posTick
  extract_lets +onlyGivenNames s1 s2 _
  have hs1 : Sound s s1 := .angleTick (.angleTick h)
  have hs2 : Sound s s2 := .on (.xchkTick hs1) (fun h => .xchkTick h)
  exact .ptoTick (.ptoTick (.on (.offerTick hs2) (fun h => .offerTick h)))

theorem Steps.execSourceLost {axis} : Steps s (Machine.execSourceLost axis s) := by
  unfold Machine.execSourceLost
  dsimp only
  split
  · exact .next (.setBit (.setBit (.refl s)))
  · exact .next (.ite (fun _ => .unsafeAxis (.refl s)) (fun _ => .refl s))

theorem Steps.execPosPitArm {axis sel} : Steps s (Machine.execPosPitArm axis sel s) :=
  .next (.ite (fun _ => .refl s) (fun _ => .pitArm (.refl s) (.set (.set (.refl s)))))

theorem Sound.chFault (h : Sound s t) {ch} : Sound s (t.chFault ch) := .setBit h

theorem Sound.range (h : Sound s t) {run ch x} : Sound s (t.range run ch x) := by
  unfold State.range
  extract_lets +onlyGivenNames _ s1 _ _ _
  have hs1 : Sound s s1 := .ite (fun _ => .incSat h) (fun _ => .set h)
  exact .on (.setBit hs1) (fun h => .chFault (.raise h))

theorem Sound.fastOne (h : Sound s t) {ch} : Sound s (t.fastOne ch) := by
  unfold State.fastOne
  exact .ite (fun _ => h) (fun _ => by
    extract_lets +onlyGivenNames _ s1
    have hs1 : Sound s s1 := .on h (fun h => .set (.pitAct h))
    split
    extract_lets +onlyGivenNames _ _ s3
    have hs3 : Sound s s3 := .range (.setb (.seti (.on hs1 (fun h => .set h))))
    exact .setb hs3)

theorem Sound.substOne (h : Sound s t) {r mark ch} : Sound s (t.substOne r mark ch) := .ite (fun _ => .setb (.seti h)) (fun _ => h)

theorem Sound.sumCheck (h : Sound s t) {star} : Sound s (t.sumCheck star) :=
  .ite (fun _ => .tripIn (.set h)) (fun _ => .ite (fun _ => .incSat h) (fun _ => .tripIn (.set h)))

theorem Steps.execFastSample : Steps s (Machine.execFastSample s) :=
  .next (.sumCheck (.sumCheck (.forN (.forN (.forN (.refl s) (fun h => .fastOne h)) (fun h => .substOne h)) (fun h => .on h
    (fun h => .set h)))))

theorem Sound.ctrlPorts (h : Sound s t) {a mid} : Sound s (t.ctrlPorts a mid) := by
  unfold State.ctrlPorts
  exact .ite (fun _ => h) (fun _ => .forN (.set h) (fun h => by
    extract_lets +onlyGivenNames _ _ u' _
    have hu' : Sound s u' := .seti h
    exact .seti (.on hu' (fun h => .seti h))))

theorem Sound.ctrlOne (h : Sound s t) {takes ch} : Sound s (t.ctrlOne takes ch) :=
  .ite (fun _ => h) (fun _ => .on (.range (.setb (.seti h))) (fun h => .seti h))

theorem Sound.ctrlForward (h : Sound s t) {ch} : Sound s (t.ctrlForward ch) := .on h (fun h => .incSat (.seti h))

theorem Steps.execCtrlSample {axis} : Steps s (Machine.execCtrlSample axis s) :=
  .next (.ite (fun _ => .refl s) (fun _ => .on (.ctrlPorts (.forN (.forN (.forN (.set (.set (.refl s))) (fun h => .ctrlOne h))
    (fun h => .substOne h)) (fun h => .ctrlForward h))) (fun h => .incSat h)))

theorem Sound.clip (h : Sound s t) {ch} : Sound s (t.clip ch) := .chFault (.set (.raise (.setBit h)))

theorem Sound.bslFlag (h : Sound s t) {ch} : Sound s (t.bslFlag ch) := .chFault (.set (.raise (.setBit (.set h))))

theorem Sound.bsl (h : Sound s t) {ch} : Sound s (t.bsl ch) := by
  unfold State.bsl
  extract_lets +onlyGivenNames s1 _
  have hs1 : Sound s s1 := .bslFlag h
  exact .chFault (.on hs1 (fun h => .setBit (.set h)))

theorem Sound.compare (h : Sound s t) {ch v} : Sound s (t.compare ch v) :=
  .ocTrip (.chFault (.on (.on (.setBit (.setBit h)) (fun h => .set h)) (fun h => .set h)))

theorem Sound.bitPiton (h : Sound s t) {ch} : Sound s (t.bitPiton ch) :=
  .ite (fun _ => .set (.set (.pitAct h))) (fun _ => .ite (fun _ => .setFree (.set (.pitAct h))) (fun _ => h))

theorem Sound.bitTake (h : Sound s t) {ch dat} : Sound s (t.bitTake ch dat) := by
  unfold State.bitTake
  extract_lets +onlyGivenNames s1 _ s2 s3 s4
  have hs1 : Sound s s1 := .bitPiton h
  have hs2 : Sound s s2 := .set hs1
  have hs3 : Sound s s3 := .ite (fun _ => .incSat hs2) (fun _ => .set hs2)
  have hs4 : Sound s s4 := .incSat (.set (.setb hs3))
  exact .setBit (.setBit hs4)

theorem Sound.compareOne (h : Sound s t) {ch} : Sound s (t.compareOne ch) := .ite (fun _ => .compare (.pitAct h)) (fun _ => .compare h)

theorem Sound.clockOne (h : Sound s t) {dat ch} : Sound s (t.clockOne dat ch) := .ite (fun _ => .compareOne (.bitTake h)) (fun _ => h)

theorem Sound.ctrlClock (h : Sound s t) {a} : Sound s (t.ctrlClock a) := by
  unfold State.ctrlClock
  extract_lets +onlyGivenNames s1
  have hs1 : Sound s s1 := .inc h
  exact .ite (fun _ => hs1) (fun _ => .forN (.set (.set (.setb hs1))) (fun h => .set h))

theorem Steps.execComparatorSample {dat} : Steps s (Machine.execComparatorSample dat s) :=
  .next (.ite (fun _ => .refl s) (fun _ => .ctrlClock (.ctrlClock (.forN (.refl s) (fun h => .clockOne h)))))

theorem Steps.execChValid {ch} : Steps s (Machine.execChValid ch s) := .next (.on (.refl s) (fun h => .setBit h))

theorem Sound.ofsBegin (h : Sound s t) {a} : Sound s (t.ofsBegin a) := .forN (.setBit (.set (.set h))) (fun h => .setb (.set h))

theorem Sound.ofsFailAll (h : Sound s t) {a} : Sound s (t.ofsFailAll a) := .forN (.set h) (fun h => .chFault (.set h))

theorem Steps.execOfsStart {axis} : Steps s (Machine.execOfsStart axis s) :=
  .next (.ite (fun _ => .refl s) (fun _ => .ite (fun _ => .refl s) (fun _ => .ite (fun _ => .ofsBegin (.refl s)) (fun _ => .set (.refl
    s)))))

theorem Sound.ofsTake (h : Sound s t) {ch} : Sound s (t.ofsTake ch) := .ite (fun _ => .chFault (.set h)) (fun _ => .seti h)

theorem Steps.execOfsDone {axis} : Steps s (Machine.execOfsDone axis s) :=
  .next (.ite (fun _ => .refl s) (fun _ => .ite (fun _ => .ofsFailAll (.refl s)) (fun _ => .ite (fun _ => .refl s) (fun _ => .setBit (.set
    (.foldl (.refl s) (fun h => .ofsTake h)))))))

theorem Steps.execOfsAbandon {axis} : Steps s (Machine.execOfsAbandon axis s) :=
  .next (.ite (fun _ => .ofsFailAll (.refl s)) (fun _ => .refl s))

theorem Steps.execSenClip {ch} : Steps s (Machine.execSenClip ch s) := .next (.ite (fun _ => .clip (.refl s)) (fun _ => .refl s))

theorem Steps.execSenBsl {ch} : Steps s (Machine.execSenBsl ch s) := .next (.ite (fun _ => .bsl (.refl s)) (fun _ => .refl s))

theorem Steps.execSumFault {star} : Steps s (Machine.execSumFault star s) :=
  .next (.ite (fun _ => .tripIn (.setBit (.refl s))) (fun _ => .refl s))

theorem Steps.execSup5Fault {b} : Steps s (Machine.execSup5Fault b s) :=
  .next (.ite (fun _ => .event (.refl s)) (fun _ => .event (.refl s)))

theorem Sound.ihaOne (h : Sound s t) {ch code} : Sound s (t.ihaOne ch code) := by
  unfold State.ihaOne
  extract_lets +onlyGivenNames s1 _ _ s2 s3 s4 _
  have hs1 : Sound s s1 := .on h (fun h => .set (.pitAct h))
  have hs2 : Sound s s2 := .on hs1 (fun h => .set h)
  have hs3 : Sound s s3 := .ite (fun _ => .incSat hs2) (fun _ => .set hs2)
  have hs4 : Sound s s4 := .seti (.seti hs3)
  exact .set (.seti hs4)

theorem Sound.ihaSumOne (h : Sound s t) {star} : Sound s (t.ihaSumOne star) := .ite (fun _ => .incSat h) (fun _ => .set h)

theorem Sound.tmOne (h : Sound s t) {m k x} : Sound s (t.tmOne m k x) := by
  unfold State.tmOne
  extract_lets +onlyGivenNames _ _ _ s1 _ _ s2 _ s3
  have hs1 : Sound s s1 := .on h (fun h => .set (.pitAct h))
  have hs2 : Sound s s2 := .on hs1 (fun h => .set h)
  have hs3 : Sound s s3 := .seti hs2
  exact .ite (fun _ => .set hs3) (fun _ => .ite (fun _ => .incSat hs3) (fun _ => .set hs3))

theorem Sound.tmTurn (h : Sound s t) {m k x} : Sound s (t.tmTurn m k x) := .ite (fun _ => .set h) (fun _ => .tmOne h)

theorem Sound.tmSamples (h : Sound s t) : Sound s t.tmSamples := by
  unfold State.tmSamples
  exact .ite (fun _ => by
    extract_lets +onlyGivenNames _ _ t' _
    have ht' : Sound s t' := .on (.on h (fun h => .tmTurn h)) (fun h => .tmTurn h)
    exact .ite (fun _ => ht') (fun _ => .ite (fun _ => .incSat ht') (fun _ => .set ht'))) (fun _ => .ite (fun _ => h) (fun _ => .ite
      (fun _ => .set (.tmTurn h)) (fun _ => .tmTurn (.tmTurn h))))

theorem Sound.ihaLost (h : Sound s t) {flag ch} : Sound s (t.ihaLost flag ch) := .on (.setBit h) (fun h => .bivLoss h)

theorem Steps.execIhaSample {codes} : Steps s (Machine.execIhaSample codes s) :=
  .next (.tmSamples (.incSat (.ihaSumOne (.ihaSumOne (.forN (.refl s) (fun h => .ihaOne h))))))

theorem Steps.execIhaSat {ch} : Steps s (Machine.execIhaSat ch s) := .next (.ite (fun _ => .ihaLost (.refl s)) (fun _ => .refl s))

theorem Steps.execIhaCm {ch} : Steps s (Machine.execIhaCm ch s) := .next (.ihaLost (.refl s))

theorem Steps.execIhaAdc {ch} : Steps s (Machine.execIhaAdc ch s) := .next (.ihaLost (.refl s))

theorem Steps.execIhaSum {star} : Steps s (Machine.execIhaSum star s) :=
  .next (.ite (fun _ => .unsafeAxis (.setBit (.refl s))) (fun _ => .refl s))

theorem Sound.xchkOne (h : Sound s t) {ch} : Sound s (t.xchkOne ch) := by
  unfold State.xchkOne
  extract_lets +onlyGivenNames _ s1 _ _
  have hs1 : Sound s s1 := .on h (fun h => .set (.pitAct h))
  exact .ite (fun _ => .set hs1) (fun _ => by
    extract_lets +onlyGivenNames _ _ _ _ _ s2
    have hs2 : Sound s s2 := .on hs1 (fun h => .set h)
    exact .ite (fun _ => .on (.incSat hs2) (fun h => .set h)) (fun _ => .set (.set hs2)))

theorem Steps.execXchkWindow : Steps s (Machine.execXchkWindow s) :=
  .next (.set (.forN (.forN (.refl s) (fun h => .xchkOne h)) (fun h => .set (.set (.set h)))))

theorem Steps.execCurXchk {ch} : Steps s (Machine.execCurXchk ch s) := by
  unfold Machine.execCurXchk
  exact .ite (fun _ => .next (.refl s)) (fun _ => by
    extract_lets +onlyGivenNames _ _ _ _ _ _ s1
    have hs1 : Sound s s1 := .chFault (.set (.setBit (.refl s)))
    exact .next (.ite (fun _ => .ite (fun _ => .bivSame hs1) (fun _ => .ite (fun _ => .bivEnter1 hs1) (fun _ => .bivLoss hs1)))
      (fun _ => .ite (fun _ => .ite (fun _ => .bivSame hs1) (fun _ => .ite (fun _ => .bivEnter1 hs1) (fun _ => .bivLoss hs1)))
        (fun _ => .unsafeAxis hs1))))

theorem Sound.pvLeg (h : Sound s t) {a k l} : Sound s (t.pvLeg a k l) := by
  unfold State.pvLeg
  extract_lets +onlyGivenNames _ s1 _ s2
  have hs1 : Sound s s1 := .on h (fun h => .set (.pitAct h))
  have hs2 : Sound s s2 := .seti (.on hs1 (fun h => .set h))
  exact .ite (fun _ => .setBit (.set hs2)) (fun _ => .setBit (.setBit (.incSat hs2)))

theorem Steps.execPvRecon {axis legs} : Steps s (Machine.execPvRecon axis legs s) := by
  unfold Machine.execPvRecon
  extract_lets +onlyGivenNames s1 s2
  have hs1 : Sound s s1 := .forN (.refl s) (fun h => .pvLeg h)
  have hs2 : Sound s s2 := .on hs1 (fun h => .tripIn (.tripIn (.setBit h)))
  exact .next (.set (.set hs2))

theorem Steps.execLegMis {leg} : Steps s (Machine.execLegMis leg s) :=
  .next (.ite (fun _ => .tripIn (.tripIn (.set (.setBit (.refl s))))) (fun _ => .ite (fun _ => .raiseBit (.refl s)) (fun _ => .refl s)))

theorem Sound.debugVdc (h : Sound s t) : Sound s t.debugVdc := by
  unfold State.debugVdc
  extract_lets +onlyGivenNames _ _ s1
  have hs1 : Sound s s1 := .setb h
  exact .on hs1 (fun h => .set h)

theorem Sound.vdcTake (h : Sound s t) {code seq} : Sound s (t.vdcTake code seq) := by
  unfold State.vdcTake
  extract_lets +onlyGivenNames _ _ _ s1 _ _ _ _ _
  have hs1 : Sound s s1 := .set (.set (.set (.set (.set (.set h)))))
  exact .tripIn (.tripIn (.tripIn (.tripIn (.set (.set (.on (.on (.setBit (.setBit (.setBit (.setBit hs1)))) (fun h => .set h))
    (fun h => .raise h)))))))

theorem Sound.dliReport (h : Sound s t) {code fb} : Sound s (t.dliReport code fb) :=
  .on (.on (.setb (.setb (.set (.set h)))) (fun h => .setBit h)) (fun h => .setBit h)

theorem Steps.execVdcFrame {code fb seq crcOk} : Steps s (Machine.execVdcFrame code fb seq crcOk s) := by
  unfold Machine.execVdcFrame
  extract_lets +onlyGivenNames _ s1 _ _
  have hs1 : Sound s s1 := .on (.set (.on (.refl s) (fun h => .set (.pitAct h)))) (fun h => .dliReport h)
  exact .next (.ite (fun _ => .set hs1) (fun _ => .ite (fun _ => .debugVdc (.vdcTake hs1)) (fun _ => .debugVdc (.incSat hs1))))

theorem Steps.execVdcStale : Steps s (Machine.execVdcStale s) := .next (.set (.set (.set (.setBit (.refl s)))))

theorem Steps.execVdcLost : Steps s (Machine.execVdcLost s) := .next (.debugVdc (.tripIn (.tripIn (.set (.setBit (.refl s))))))

theorem Steps.execSenPitArm {sel ch} : Steps s (Machine.execSenPitArm sel ch s) :=
  .next (.ite (fun _ => .refl s) (fun _ => .ite (fun _ => .set (.refl s)) (fun _ => .pitArm (.refl s) (.set (.set (.refl s))))))

theorem Sound.legGo (h : Sound s t) {a k low} : Sound s (t.legGo a k low) :=
  .ite (fun _ => .legTo h) (fun _ => .foldl h (fun h => .on h (fun h => .gateEdge h)))

theorem Sound.restLeg (h : Sound s t) {a k low} : Sound s (t.restLeg a k low) := .set (.on (.legGo h) (fun h => .set h))

theorem Sound.restLegs (h : Sound s t) {a low} : Sound s (t.restLegs a low) :=
  .forN h (fun h => .ite (fun _ => .set h) (fun _ => .restLeg h))

theorem Steps.execTblSwap {axis} : Steps s (Machine.execTblSwap axis s) :=
  .next (.ite (fun _ => .refl s) (fun _ => .ite (fun _ => .set (.refl s)) (fun _ => .set (.refl s))))

theorem Steps.execRefStale {axis} : Steps s (Machine.execRefStale axis s) :=
  .next (.ite (fun _ => .tripIn (.set (.refl s))) (fun _ => .refl s))

theorem Steps.execBandWindow {axis} : Steps s (Machine.execBandWindow axis s) := by
  unfold Machine.execBandWindow
  exact .ite (fun _ => .next (.refl s)) (fun _ => by
    extract_lets +onlyGivenNames s0
    have hs0 : Sound s s0 := .set (.set (.set (.refl s)))
    exact .ite (fun _ => .next hs0) (fun _ => .ite (fun _ => .next (.incSat hs0)) (fun _ => .next (.on (.on (.set (.seti hs0))
      (fun h => .raise h)) (fun h => .raise h)))))

theorem Sound.axisOut (h : Sound s t) {a} : Sound s (t.axisOut a) := .set (.set h)

theorem Steps.execObsLost {axis} : Steps s (Machine.execObsLost axis s) := by
  unfold Machine.execObsLost
  exact .ite (fun _ => .next (.refl s)) (fun _ => by
    extract_lets +onlyGivenNames _ s1 s2 s3 s4
    have hs1 : Sound s s1 := .event (.set (.refl s))
    have hs2 : Sound s s2 := .forN hs1 (fun h => .set h)
    have hs3 : Sound s s3 := .set (.set hs2)
    have hs4 : Sound s s4 := .set (.set (.set (.set hs3)))
    exact .next (.setMode (.set (.set hs4))))

theorem Sound.injEnd (h : Sound s t) {a} : Sound s (t.injEnd a) := .set (.set (.set (.set (.set (.set h)))))

theorem Sound.injStop (h : Sound s t) {a} : Sound s (t.injStop a) := .set (.injEnd h)

theorem Sound.catchClear (h : Sound s t) {a} : Sound s (t.catchClear a) := .set (.set (.set (.set (.set (.set h)))))

theorem Sound.catchStart (h : Sound s t) {a re} : Sound s (t.catchStart a re) := by
  unfold State.catchStart
  extract_lets +onlyGivenNames _ s2 _ _ _
  have hs2 : Sound s s2 := .set (.set (.set (.set (.set (.set (.restLegs h))))))
  exact .setMode (.detach (.set (.injStop (.set (.set (.set (.setb (.catchClear (.set (.set (.forN hs2 (fun h => .set (.set h)))))))))))))

theorem Steps.execStoppingRampEnd {axis} : Steps s (Machine.execStoppingRampEnd axis s) := by
  unfold Machine.execStoppingRampEnd
  exact .ite (fun _ => .next (.refl s)) (fun _ => by
    extract_lets +onlyGivenNames _ s1 s2
    have hs1 : Sound s s1 := .ite (fun _ => .set (.restLegs (.refl s))) (fun _ => .set (.restLegs (.refl s)))
    have hs2 : Sound s s2 := .set hs1
    exact .next (.ite (fun _ => .catchStart hs2) (fun _ => .event (.axisOut hs2))))

theorem Steps.execXyHigh {axis} : Steps s (Machine.execXyHigh axis s) := .next (.ite (fun _ => .raise (.refl s)) (fun _ => .refl s))

theorem Sound.slsUpdate (h : Sound s t) {a} : Sound s (t.slsUpdate a) := .set (.seti (.setb h))

theorem Sound.injDemod (h : Sound s t) {a} : Sound s (t.injDemod a) := by
  unfold State.injDemod
  extract_lets +onlyGivenNames _ _ _ s1 _ s3 _ _ _ _ _ _
  have hs1 : Sound s s1 := .set (.seti (.seti h))
  have hs3 : Sound s s3 := .seti (.seti (.seti (.seti (.set hs1))))
  exact .set (.seti hs3)

theorem Sound.injUpdate (h : Sound s t) {a} : Sound s (t.injUpdate a) := by
  unfold State.injUpdate
  exact .ite (fun _ => .on h (fun h => .slsUpdate (.injEnd h))) (fun _ => .ite (fun _ => .slsUpdate (.seti h)) (fun _ => .ite (fun _ => h)
    (fun _ => by
    extract_lets +onlyGivenNames _ s1 _ _ _ s2 _ s3 s4
    have hs1 : Sound s s1 := .injDemod (.on h (fun h => .set (.pitAct h)))
    have hs2 : Sound s s2 := .on (.seti hs1) (fun h => .set h)
    have hs3 : Sound s s3 := .set (.seti (.seti hs2))
    have hs4 : Sound s s4 := .ite (fun _ => .incSat hs3) (fun _ => .set hs3)
    exact .slsUpdate (.ite (fun _ => .incSat hs4) (fun _ => .set hs4)))))

theorem Steps.execAfConv {axis} : Steps s (Machine.execAfConv axis s) :=
  .next (.slsUpdate (.ite (fun _ => .set (.refl s)) (fun _ => .ite (fun _ => .set (.refl s)) (fun _ => .refl s))))

theorem Steps.execObPitArm {axis sel} : Steps s (Machine.execObPitArm axis sel s) :=
  .next (.ite (fun _ => .refl s) (fun _ => .pitArm (.refl s) (.set (.refl s))))

theorem Steps.execSqPitArm {axis sel} : Steps s (Machine.execSqPitArm axis sel s) :=
  .next (.ite (fun _ => .refl s) (fun _ => .pitArm (.refl s) (.set (.refl s))))

theorem Sound.polNear (h : Sound s t) {a ang} : Sound s (t.polNear a ang) := .on h (fun h => .set h)

theorem Sound.polDone (h : Sound s t) {a src} : Sound s (t.polDone a src) := .set (.set (.set (.set (.set (.set (.set h))))))

theorem Sound.polPulse (h : Sound s t) {a} : Sound s (t.polPulse a) := .setb (.set (.set (.set (.set h))))

theorem Sound.polStart (h : Sound s t) {a} : Sound s (t.polStart a) :=
  .polPulse (.set (.set (.set (.set (.set (.on h (fun h => .set (.pitAct h))))))))

theorem Sound.polFailed (h : Sound s t) {a data} : Sound s (t.polFailed a data) :=
  .slsUpdate (.setMode (.axisOut (.detach (.set (.set (.set (.set (.legsOff (.raiseArg h)))))))))

theorem Steps.execInjConv {axis} : Steps s (Machine.execInjConv axis s) := by
  unfold Machine.execInjConv
  refine .ite (fun _ => .next (.refl s)) (fun _ => ?_)
  extract_lets +onlyGivenNames s1 w s2
  have hs1 : Sound s s1 := .set (.set (.set (.refl s)))
  have hw : Sound s w := .set hs1
  have hs2 : Sound s s2 := .ite (fun _ => .ite (fun _ => hw) (fun _ => by
    split
    · exact .polDone (.polNear hw)
    · exact .polStart hw)) (fun _ => hs1)
  exact .next (.slsUpdate hs2)

theorem Sound.polSample (h : Sound s t) {a d} : Sound s (t.polSample a d) := by
  unfold State.polSample
  extract_lets +onlyGivenNames _ t' _
  have ht' : Sound s t' := .set h
  split
  · extract_lets +onlyGivenNames u'
    have hu' : Sound s u' := .seti (.set ht')
    exact .ite (fun _ => .set (.set (.set hu'))) (fun _ => hu')
  · exact .ite (fun _ => .set (.set ht')) (fun _ => ht')
  · exact .ite (fun _ => .set (.set ht')) (fun _ => ht')
  · exact h

theorem Steps.execPolPulseEnd {axis} : Steps s (Machine.execPolPulseEnd axis s) := by
  unfold Machine.execPolPulseEnd
  exact .ite (fun _ => .next (.refl s)) (fun _ => .ite (fun _ => .next (.polFailed (.refl s))) (fun _ => by
    extract_lets +onlyGivenNames _ _ s1
    have hs1 : Sound s s1 := .set (.set (.refl s))
    exact .ite (fun _ => .next (.polPulse hs1)) (fun _ => by
      extract_lets +onlyGivenNames _ _ _ _ s2 _
      have hs2 : Sound s s2 := .on (.set hs1) (fun h => .set h)
      exact .next (.ite (fun _ => .slsUpdate (.align (.polDone hs2))) (fun _ => .ite (fun _ => .slsUpdate (.align (.polDone (.set
        (.set hs2))))) (fun _ => .ite (fun _ => .polFailed hs2) (fun _ => .polPulse (.set (.set (.set (.set (.set hs2))))))))))))

theorem Steps.execPolFail {axis} : Steps s (Machine.execPolFail axis s) := .next (.ite (fun _ => .polFailed (.refl s)) (fun _ => .refl s))

theorem Steps.execInjLost {axis} : Steps s (Machine.execInjLost axis s) :=
  .ite (fun _ => .next (.refl s)) (fun _ => .next (.on (.slsUpdate (.setBit (.setBit (.set (.set (.raise (.refl s))))))) (fun h => .set
    (.set h))))

theorem Steps.execInjLostRampEnd {axis} : Steps s (Machine.execInjLostRampEnd axis s) :=
  .next (.ite (fun _ => .slsUpdate (.setMode (.axisOut (.detach (.set (.legsOff (.set (.refl s)))))))) (fun _ => .refl s))

theorem Sound.travHold (h : Sound s t) {a} : Sound s (t.travHold a) := .set (.set (.setb h))

theorem Sound.tableEntry (h : Sound s t) {a} : Sound s (t.tableEntry a) :=
  .forN (.set (.set (.set (.set (.set (.setb (.set h))))))) (fun h => .set h)

theorem Sound.injStart (h : Sound s t) {a ang spd seed} : Sound s (t.injStart a ang spd seed) := by
  unfold State.injStart
  exact .ite (fun _ => h) (fun _ => by
    extract_lets +onlyGivenNames s1 _ _
    have hs1 : Sound s s1 := .set (.set (.set h))
    exact .on (.set (.set (.set (.set (.set (.set hs1)))))) (fun h => .set (.set h)))

theorem Sound.stepArm (h : Sound s t) {a} : Sound s (t.stepArm a) := .set (.set (.set h))

theorem Steps.execTravRequest {axis} : Steps s (Machine.execTravRequest axis s) :=
  .next (.ite (fun _ => .refl s) (fun _ => .ite (fun _ => .setMode (.set (.set (.refl s)))) (fun _ => .ite (fun _ => .setMode (.set (.refl
    s))) (fun _ => .refl s))))

theorem Steps.execTravHandover {axis} : Steps s (Machine.execTravHandover axis s) := by
  unfold Machine.execTravHandover
  exact .ite (fun _ => .next (.refl s)) (fun _ => .ite (fun _ => by
    extract_lets +onlyGivenNames s1 s3 _
    have hs1 : Sound s s1 := .set (.set (.detach (.refl s)))
    have hs3 : Sound s s3 := .set (.set hs1)
    exact .next (.slsUpdate (.setMode (.travHold (.set (.stepArm (.tableEntry (.set (.set (.set (.set hs3))))))))))) (fun _ => .ite
      (fun _ => .next (.slsUpdate (.setMode (.travHold (.set (.stepArm (.set (.set (.set (.injStart (.detach (.refl s))))))))))))
        (fun _ => .next (.refl s))))

theorem Steps.execTravAbort {axis} : Steps s (Machine.execTravAbort axis s) :=
  .next (.ite (fun _ => .setMode (.travHold (.incSat (.raiseArg (.refl s))))) (fun _ => .refl s))

theorem Steps.execTravHoldEnd {axis} : Steps s (Machine.execTravHoldEnd axis s) := .next (.on (.refl s) (fun h => .set (.set h)))

theorem Steps.execTravStep {axis} : Steps s (Machine.execTravStep axis s) := by
  unfold Machine.execTravStep
  exact .ite (fun _ => .next (.refl s)) (fun _ => by
    extract_lets +onlyGivenNames _ s0 _ _ s1
    have hs0 : Sound s s0 := .on (.refl s) (fun h => .pitAct h)
    have hs1 : Sound s s1 := .seti (.set hs0)
    exact .next (.on hs1 (fun h => .raise h)))

theorem Sound.obSample (h : Sound s t) {a ch} : Sound s (t.obSample a ch) := by
  unfold State.obSample
  exact .ite (fun _ => by
    extract_lets +onlyGivenNames s1
    have hs1 : Sound s s1 := .on (.incSat h) (fun h => .set h)
    exact .on hs1 (fun h => .tripIn (.set h))) (fun _ => .set (.set h))

theorem Sound.obSamples (h : Sound s t) {a} : Sound s (t.obSamples a) := by
  unfold State.obSamples
  extract_lets +onlyGivenNames s1
  have hs1 : Sound s s1 := .foldl h (fun h => .obSample h)
  exact .on hs1 (fun h => .tripIn (.set h))

theorem Sound.obCurrentModel (h : Sound s t) {a} : Sound s (t.obCurrentModel a) := .seti (.seti h)

theorem Sound.psiTake (h : Sound s t) {a k x v} : Sound s (t.psiTake a k x v) := .on (.seti (.seti h)) (fun h => .set h)

theorem Sound.obVoltage (h : Sound s t) {a r} : Sound s (t.obVoltage a r) := .set (.psiTake (.psiTake h))

theorem Sound.driftClear (h : Sound s t) {a on} : Sound s (t.driftClear a on) := .set (.set (.set (.set h)))

theorem Sound.driftAdd (h : Sound s t) {a x y} : Sound s (t.driftAdd a x y) := .inc (.seti (.seti h))

theorem Sound.driftTake (h : Sound s t) {a k} : Sound s (t.driftTake a k) := .seti (.seti h)

theorem Sound.obDrift (h : Sound s t) {a} : Sound s (t.obDrift a) := by
  unfold State.obDrift
  extract_lets +onlyGivenNames _ _ s1
  have hs1 : Sound s s1 := .set h
  exact .ite (fun _ => .driftClear hs1) (fun _ => .driftAdd (.on hs1 (fun h => .driftClear (.on h (fun h => .driftTake (.driftTake h))))))

theorem Sound.obOutputs (h : Sound s t) {a} : Sound s (t.obOutputs a) := by
  unfold State.obOutputs
  extract_lets +onlyGivenNames _ _ _ _ _ _ s1 _ _ s2 _
  have hs1 : Sound s s1 := .on h (fun h => .set (.pitAct h))
  have hs2 : Sound s s2 := .on (.on hs1 (fun h => .set h)) (fun h => .set h)
  exact .set (.set (.set (.setb (.set (.seti hs2)))))

theorem Sound.obTracker (h : Sound s t) {a} : Sound s (t.obTracker a) := by
  unfold State.obTracker
  extract_lets +onlyGivenNames _ _ _ s1 _ s2
  have hs1 : Sound s s1 := .seti (.seti h)
  have hs2 : Sound s s2 := .ite (fun _ => .incSat hs1) (fun _ => .set hs1)
  exact .ite (fun _ => .incSat hs2) (fun _ => .set hs2)

theorem Sound.obXy (h : Sound s t) : Sound s t.obXy := .seti (.seti h)

theorem Sound.obRs (h : Sound s t) {a} : Sound s (t.obRs a) := .set h

theorem Sound.polTick (h : Sound s t) {a} : Sound s (t.polTick a) := .ite (fun _ => .polSample h) (fun _ => h)

theorem Sound.obPass (h : Sound s t) {a} : Sound s (t.obPass a) := by
  unfold State.obPass
  extract_lets +onlyGivenNames s1 _ s2 s3 _ s5 s6
  have hs1 : Sound s s1 := .polTick (.obCurrentModel (.obRs (.obSamples h)))
  have hs2 : Sound s s2 := .on hs1 (fun h => .incSat h)
  have hs3 : Sound s s3 := .obVoltage hs2
  have hs5 : Sound s s5 := .obTracker (.obDrift (.on (.obOutputs (.on (.set hs3) (fun h => .set h))) (fun h => .obXy h)))
  have hs6 : Sound s s6 := .on hs5 (fun h => .set (.pitAct h))
  exact .on (.slsUpdate hs6) (fun h => .set h)

theorem Sound.dwellTick (h : Sound s t) {a} : Sound s (t.dwellTick a) := by
  unfold State.dwellTick
  exact .forN h (fun h => by
    extract_lets +onlyGivenNames u'
    have hu' : Sound s u' := .set h
    exact .on hu' (fun h => .restLeg h))

theorem Sound.catchMethod (h : Sound s t) {a e} : Sound s (t.catchMethod a e) := .on (.set (.set h)) (fun h => .set h)

theorem Sound.ellTake (h : Sound s t) {a} : Sound s (t.ellTake a) := .ite (fun _ => h) (fun _ => .foldl h (fun h => .incSat (.set h)))

theorem Sound.stillWatch (h : Sound s t) {a} : Sound s (t.stillWatch a) := .ite (fun _ => .catchMethod h) (fun _ => h)

theorem Sound.catchPush (h : Sound s t) {a w} : Sound s (t.catchPush a w) := by
  unfold State.catchPush
  extract_lets +onlyGivenNames s1 _
  have hs1 : Sound s s1 := .on h (fun h => .seti (.set h))
  exact .incSat (.seti (.forN hs1 (fun h => .set h)))

theorem Sound.catchAngle (h : Sound s t) {a ang t'} : Sound s (t.catchAngle a ang t') := .set (.set (.set h))

theorem Sound.bemfTick (h : Sound s t) {a} : Sound s (t.bemfTick a) := by
  unfold State.bemfTick
  extract_lets +onlyGivenNames s1
  have hs1 : Sound s s1 := .inc h
  exact .ite (fun _ => hs1) (fun _ => .catchAngle (.on hs1 (fun h => .catchPush h)))

theorem Sound.pulseRead (h : Sound s t) {a x y mid} : Sound s (t.pulseRead a x y mid) := .catchAngle (.catchPush (.on h (fun h => .seti h)))

theorem Sound.pulseTick (h : Sound s t) {a} : Sound s (t.pulseTick a) := by
  unfold State.pulseTick
  extract_lets +onlyGivenNames _ _ t' _ _ _
  have ht' : Sound s t' := .set h
  exact .ite (fun _ => h) (fun _ => .ite (fun _ => .seti (.seti (.seti (.seti ht')))) (fun _ => .ite (fun _ => .ite (fun _ => .seti (.seti
    (.set ht'))) (fun _ => .pulseRead (.set h))) (fun _ => ht')))

theorem Sound.pulseEnd (h : Sound s t) {a} : Sound s (t.pulseEnd a) := by
  unfold State.pulseEnd
  exact .ite (fun _ => h) (fun _ => by
    extract_lets +onlyGivenNames s1
    have hs1 : Sound s s1 := .set h
    exact .on hs1 (fun h => .restLegs h))

theorem Sound.catchPass (h : Sound s t) {a} : Sound s (t.catchPass a) := by
  unfold State.catchPass
  extract_lets +onlyGivenNames s1
  have hs1 : Sound s s1 := .stillWatch (.ellTake (.incSat (.dwellTick h)))
  exact .pulseEnd (.pulseTick (.on hs1 (fun h => .bemfTick h)))

theorem Sound.carrierStart (h : Sound s t) {a} : Sound s (t.carrierStart a) := .setMode (.detach h)

theorem Sound.catchStill (h : Sound s t) {a} : Sound s (t.catchStill a) :=
  .slsUpdate (.carrierStart (.injStart (.set (.set (.set (.setb (.set h)))))))

theorem Sound.catchConverge (h : Sound s t) {a} : Sound s (t.catchConverge a) := by
  unfold State.catchConverge
  extract_lets +onlyGivenNames _ _ _ _ _ _ s3 _
  have hs3 : Sound s s3 := .set (.driftClear (.set (.set (.seti (.seti (.seti (.set (.setb (.set h)))))))))
  exact .set (.set (.set (.align (.seti hs3))))

theorem Steps.execCatchClassify {axis} : Steps s (Machine.execCatchClassify axis s) := by
  unfold Machine.execCatchClassify
  exact .ite (fun _ => .next (.refl s)) (fun _ => by
    extract_lets +onlyGivenNames _ s1
    have hs1 : Sound s s1 := .forN (.refl s) (fun h => .ite (fun _ => .set (.set h)) (fun _ => h))
    exact .next (.ite (fun _ => hs1) (fun _ => .catchMethod hs1)))

theorem Steps.execCatchPulse {axis} : Steps s (Machine.execCatchPulse axis s) :=
  .next (.ite (fun _ => .refl s) (fun _ => .incSat (.set (.set (.set (.set (.forN (.legsLow (.refl s)) (fun h => .set h))))))))

theorem Steps.execCatchResult {axis} : Steps s (Machine.execCatchResult axis s) := by
  unfold Machine.execCatchResult
  exact .ite (fun _ => .next (.refl s)) (fun _ => by
    extract_lets +onlyGivenNames s0 _ s1
    have hs0 : Sound s s0 := .on (.refl s) (fun h => .set (.pitAct h))
    have hs1 : Sound s s1 := .set hs0
    exact .next (.ite (fun _ => hs0) (fun _ => .ite (fun _ => .ite (fun _ => hs0) (fun _ => .catchStill hs1)) (fun _ => .ite
      (fun _ => .catchConverge hs1) (fun _ => hs0)))))

theorem Steps.execCatchDeadline {axis} : Steps s (Machine.execCatchDeadline axis s) := by
  unfold Machine.execCatchDeadline
  exact .ite (fun _ => .next (.refl s)) (fun _ => by
    extract_lets +onlyGivenNames s1 _
    have hs1 : Sound s s1 := .event (.set (.refl s))
    exact .next (.setMode (.axisOut (.set (.ite (fun _ => .set (.restLegs hs1)) (fun _ => .set (.restLegs hs1)))))))

theorem Sound.refCommit (h : Sound s t) {a} : Sound s (t.refCommit a) := by
  unfold State.refCommit
  extract_lets +onlyGivenNames s1 _ w s2
  have hs1 : Sound s s1 := .incSat h
  have hw : Sound s w := .set (.set hs1)
  have hs2 : Sound s s2 := .ite (fun _ => .on hw (fun h => .set h)) (fun _ => hs1)
  exact .set (.set hs2)

theorem Sound.psiRamp (h : Sound s t) {a} : Sound s (t.psiRamp a) :=
  .ite (fun _ => h) (fun _ => .ite (fun _ => .set h) (fun _ => .set (.setb (.set h))))

theorem Sound.stopRamp (h : Sound s t) {a} : Sound s (t.stopRamp a) := by
  unfold State.stopRamp
  exact .ite (fun _ => by
    extract_lets +onlyGivenNames _ t' _
    have ht' : Sound s t' := .incSat h
    exact .seti ht') (fun _ => h)

theorem Sound.tblBoundary (h : Sound s t) {a} : Sound s (t.tblBoundary a) :=
  .ite (fun _ => h) (fun _ => .set (.ite (fun _ => .set h) (fun _ => .set h)))

theorem Sound.safeBoundary (h : Sound s t) {a} : Sound s (t.safeBoundary a) :=
  .ite (fun _ => .forN (.slsUpdate (.setMode (.injStop (.detach h)))) (fun h => .set h)) (fun _ => h)

theorem Sound.applyVec (h : Sound s t) {a want} : Sound s (t.applyVec a want) := by
  unfold State.applyVec
  extract_lets +onlyGivenNames _ _ _ _ s1 s2
  have hs1 : Sound s s1 := .dwellTick (.on h (fun h => .pitAct h))
  have hs2 : Sound s s2 := .forN hs1 (fun h => .ite (fun _ => h) (fun _ => .ite (fun _ => .perfAdd (.incSat (.set h))) (fun _ => by
    extract_lets +onlyGivenNames u'
    have hu' : Sound s u' := .set (.legTo h)
    exact .perfAdd (.on hu' (fun h => .incSat h)))))
  exact .set hs2

theorem Sound.tablePass (h : Sound s t) {a} : Sound s (t.tablePass a) := by
  unfold State.tablePass
  extract_lets +onlyGivenNames _ _ _ _ _ _ s1 s2 s3
  have hs1 : Sound s s1 := .setb (.set h)
  have hs2 : Sound s s2 := .ite (fun _ => .on (.incSat hs1) (fun h => .incSat h)) (fun _ => hs1)
  have hs3 : Sound s s3 := .set hs2
  exact .ite (fun _ => hs3) (fun _ => .ite (fun _ => .set (.applyVec (.on hs3 (fun h => .set h)))) (fun _ => .set (.applyVec (.setb (.on hs3
    (fun h => .setb h))))))

theorem Sound.xyPass (h : Sound s t) : Sound s t.xyPass := by
  unfold State.xyPass
  exact .ite (fun _ => .set h) (fun _ => by
    extract_lets +onlyGivenNames s1 _ _ _ _ s2
    have hs1 : Sound s s1 := .on h (fun h => .set (.pitAct h))
    have hs2 : Sound s s2 := .on hs1 (fun h => .set h)
    exact .ite (fun _ => .incSat hs2) (fun _ => .set hs2))

theorem Sound.catchEnter (h : Sound s t) {a} : Sound s (t.catchEnter a) := by
  unfold State.catchEnter
  exact .ite (fun _ => h) (fun _ => by
    extract_lets +onlyGivenNames s1 _
    have hs1 : Sound s s1 := .set h
    exact .ite (fun _ => .setMode (.tableEntry hs1)) (fun _ => .slsUpdate (.carrierStart (.injStart hs1))))

theorem Sound.periodSums (h : Sound s t) {a} : Sound s (t.periodSums a) := .incSat (.seti (.seti h))

theorem Sound.sqPass (h : Sound s t) {a} : Sound s (t.sqPass a) := by
  unfold State.sqPass
  extract_lets +onlyGivenNames _ s1 _
  have hs1 : Sound s s1 := .periodSums (.stopRamp (.on (.set h) (fun h => .incSat h)))
  exact .ite (fun _ => .catchEnter (.catchPass hs1)) (fun _ => .ite (fun _ => .tablePass hs1) (fun _ => .dwellTick hs1))

theorem Sound.sqBoundary (h : Sound s t) {a} : Sound s (t.sqBoundary a) := by
  unfold State.sqBoundary
  extract_lets +onlyGivenNames s1
  have hs1 : Sound s s1 := .safeBoundary (.psiRamp (.refCommit (.on (.tblBoundary h) (fun h => .tblBoundary h))))
  exact .on hs1 (fun h => .on (.bands h) (fun h => .bands h))

theorem Sound.putEntry (h : Sound s t) {r ch ws} : Sound s (t.putEntry r ch ws) := .forN h (fun h => .set h)

theorem Sound.minpWarn (hu : Sound s u) {a} : Sound s (t.minpWarn u a) := .on hu (fun h => .event h)

end

end Sys2Proof.Machine
end
/-!
What every operation keeps (O2, O4), the actors and the tables: one lemma for each operation and each command, in the
order of the model.
-/
section
namespace Sys2Proof.Machine
set_option Elab.async false
open State

section
variable {s t u : State}

theorem Sound.lockCount (h : Sound s t) : Sound s t.lockCount :=
  .ite (fun _ => h) (fun _ => .ite (fun _ => .set h) (fun _ => .ite (fun _ => .set h) (fun _ => .set (.set h))))

theorem Sound.belayClock (h : Sound s t) {a} : Sound s (t.belayClock a) := by
  unfold State.belayClock
  extract_lets +onlyGivenNames s1
  have hs1 : Sound s s1 := .on h (fun h => by
    extract_lets +onlyGivenNames u'
    have hu' : Sound s u' := .incSat (.set h)
    exact .lockCount (.set hu'))
  exact .ite (fun _ => hs1) (fun _ => .ite (fun _ => .inc hs1) (fun _ => .set (.set hs1)))

theorem Steps.execBlSelection {axis} : Steps s (Machine.execBlSelection axis s) := by
  unfold Machine.execBlSelection
  extract_lets +onlyGivenNames _ s0 speed s1
  have hs0 : Sound s s0 := .belayClock (.refl s)
  have hs1 : Sound s s1 := by
    unfold s1 speed
    split
    · exact .seti (.set hs0)
    · exact .set (.set hs0)
  exact .next (.lines (.on (.set (.setb hs1)) (fun h => .safetyLog h)))

theorem Sound.belayAssert (h : Sound s t) {pu} : Sound s (t.belayAssert pu) := .set (.tripIn h)

theorem Sound.safeMark (h : Sound s t) {a} : Sound s (t.safeMark a) := by
  unfold State.safeMark
  extract_lets +onlyGivenNames s' _
  have hs' : Sound s s' := .on h (fun h => .safetyLog h)
  exact .set (.set (.set (.set hs')))

theorem Steps.execSafeEnter {axis} : Steps s (Machine.execSafeEnter axis s) := by
  unfold Machine.execSafeEnter
  exact .next (.ite (fun _ => .refl s) (fun _ => by
    extract_lets +onlyGivenNames s1 _ s3 _ s5 s6
    have hs1 : Sound s s1 := .ite (fun _ => .safeMark (.safeMark (.refl s))) (fun _ => .safeMark (.refl s))
    have hs3 : Sound s s3 := .ssout (.lines (.ite (fun _ => .set (.set hs1)) (fun _ => .set hs1)))
    have hs5 : Sound s s5 := .on (.ite (fun _ => .belayAssert hs3) (fun _ => .belayAssert hs3)) (fun h => .forN h (fun h => .belayAssert h))
    have hs6 : Sound s s6 := .safetyLog hs5
    exact .on hs6 (fun h => .holdIssue h)))

theorem Steps.execBelayRelease {pu} : Steps s (Machine.execBelayRelease pu s) :=
  .next (.ite (fun _ => .refl s) (fun _ => .tripIn (.refl s)))

theorem Steps.execTmError {mon} : Steps s (Machine.execTmError mon s) :=
  .next (.ite (fun _ => .refl s) (fun _ => .unsafeAxis (.safetyLog (.refl s))))

theorem Sound.kat (h : Sound s t) {m pass} : Sound s (t.kat m pass).1 := by
  unfold State.kat
  extract_lets +onlyGivenNames _ s1 _
  have hs1 : Sound s s1 := .set (.on h (fun h => .pitAct h))
  exact .iteFst (fun _ => .pair hs1) (fun _ => by
    extract_lets +onlyGivenNames s2
    have hs2 : Sound s s2 := .safetyLog (.setBit hs1)
    exact .pair (.ite (fun _ => .bivLoss hs2) (fun _ => .bivLoss (.bivLoss hs2))))

theorem Steps.execKatPeriodic {mon pass} : Steps s (Machine.execKatPeriodic mon pass s) := .next (.kat (.refl s))

theorem Steps.execMbxKat {pass} : Steps s (Machine.execMbxKat pass s) := by
  unfold Machine.execMbxKat
  exact .next (.ite (fun _ => .refl s) (fun _ => .ite (fun _ => .mbxDone (.refl s)) (fun _ => by
    split
    rename_i t' ok heq
    have ht' : Sound s t' := .of_fst (.kat (.refl s)) heq
    exact .mbxDone ht')))

theorem Steps.execTmXchk : Steps s (Machine.execTmXchk s) := .next (.ite (fun _ => .unsafeAxis (.refl s)) (fun _ => .refl s))

theorem Steps.execBlIndex {axis} : Steps s (Machine.execBlIndex axis s) :=
  .next (.ite (fun _ => .refl s) (fun _ => .ite (fun _ => .unsafeAxis (.refl s)) (fun _ => .set (.set (.refl s)))))

theorem Steps.execAlignTimeout {axis} : Steps s (Machine.execAlignTimeout axis s) :=
  .next (.ite (fun _ => .unsafeAxis (.refl s)) (fun _ => .refl s))

theorem Sound.wordCause (h : Sound s t) {a present c} : Sound s (t.wordCause a present c) := .on h (fun h => .unsafeAxis h)

theorem Sound.wordPosition (h : Sound s t) {a} : Sound s (t.wordPosition a) := by
  unfold State.wordPosition
  extract_lets +onlyGivenNames _ _ s2
  have hs2 : Sound s s2 := .on (.on (.on (.on h (fun h => .bivEnter h)) (fun h => .bivEnter h)) (fun h => .bivEnter h))
    (fun h => .bivEnter h)
  exact .ite (fun _ => .ite (fun _ => .bivEnter hs2) (fun _ => .wordCause hs2)) (fun _ => hs2)

theorem Steps.execStatusWord : Steps s (Machine.execStatusWord s) := by
  unfold Machine.execStatusWord
  exact .next (.forN (.refl s) (fun h => by
    extract_lets +onlyGivenNames t1 _ _ t4 _
    have ht1 : Sound s t1 := .wordCause h
    have ht4 : Sound s t4 := .substTaken (.wordPosition (.wordCause ht1))
    exact .setb (.on ht4 (fun h => .set h))))

theorem Steps.execBivWarn {axis} : Steps s (Machine.execBivWarn axis s) :=
  .next (.ite (fun _ => .event (.safetyLog (.set (.refl s)))) (fun _ => .refl s))

theorem Steps.execBivExpire {axis} : Steps s (Machine.execBivExpire axis s) :=
  .next (.ite (fun _ => .holdIssue (.unsafeAxis (.safetyLog (.set (.refl s))))) (fun _ => .refl s))

theorem Steps.execSglTimeout {axis} : Steps s (Machine.execSglTimeout axis s) :=
  .next (.ite (fun _ => .bivEnter (.refl s)) (fun _ => .refl s))

theorem Steps.execSetpointLapse {axis} : Steps s (Machine.execSetpointLapse axis s) := by
  unfold Machine.execSetpointLapse
  exact .next (.ite (fun _ => .refl s) (fun _ => by
    extract_lets +onlyGivenNames s1 _
    have hs1 : Sound s s1 := .set (.refl s)
    exact .ite (fun _ => .safetyLog hs1) (fun _ => .ite (fun _ => .unsafeAxis (.safetyLog hs1)) (fun _ => .safetyLog (.lapseTo hs1)))))

theorem Steps.execLapseRampEnd {axis} : Steps s (Machine.execLapseRampEnd axis s) :=
  .next (.ite (fun _ => .lapseTo (.refl s)) (fun _ => .refl s))

theorem Steps.execLapseHoldEnd {axis} : Steps s (Machine.execLapseHoldEnd axis s) :=
  .next (.ite (fun _ => .unsafeAxis (.safetyLog (.set (.refl s)))) (fun _ => .refl s))

theorem Sound.xtripAct (h : Sound s t) : Sound s t.xtripAct := by
  unfold State.xtripAct
  extract_lets +onlyGivenNames _ s2
  have hs2 : Sound s s2 := .forN (.safetyLog (.set h)) (fun h => .on h (fun h => .unsafeAxis (.tripIn h)))
  exact .on hs2 (fun h => .tripIn (.tripIn (.tripIn h)))

theorem Sound.xtripOff (h : Sound s t) : Sound s t.xtripOff := .forN (.set h) (fun h => .tripIn h)

theorem Steps.execXtripPin {asserted} : Steps s (Machine.execXtripPin asserted s) := by
  unfold Machine.execXtripPin
  extract_lets +onlyGivenNames s1
  have hs1 : Sound s s1 := .setb (.refl s)
  exact .next (.ite (fun _ => hs1) (fun _ => .ite (fun _ => .xtripAct hs1) (fun _ => .safetyLog (.xtripOff hs1))))

theorem Steps.execHvilRestore : Steps s (Machine.execHvilRestore s) :=
  .next (.ite (fun _ => .safetyLog (.set (.refl s))) (fun _ => .refl s))

theorem Steps.execSsoutFault : Steps s (Machine.execSsoutFault s) :=
  .next (.ite (fun _ => .event (.safetyLog (.set (.refl s)))) (fun _ => .refl s))

theorem Steps.execHeartbeatSend : Steps s (Machine.execHeartbeatSend s) := by
  unfold Machine.execHeartbeatSend
  extract_lets +onlyGivenNames t'
  have ht' : Sound s t' := .inc (.refl s)
  exact .next (.send ht')

theorem Steps.execBlHeartbeat {seq} : Steps s (Machine.execBlHeartbeat seq s) := by
  unfold Machine.execBlHeartbeat
  extract_lets +onlyGivenNames _ s0
  have hs0 : Sound s s0 := .on (.refl s) (fun h => .set (.pitAct h))
  exact .next (.ite (fun _ => .set hs0) (fun _ => by
    extract_lets +onlyGivenNames _ s1
    have hs1 : Sound s s1 := .set hs0
    exact .ite (fun _ => .set hs1) (fun _ => by
      extract_lets +onlyGivenNames s2
      have hs2 : Sound s s2 := .incSat (.set (.set hs1))
      exact .ite (fun _ => .ssout (.set hs2)) (fun _ => hs2))))

theorem Steps.execCiLost : Steps s (Machine.execCiLost s) :=
  .next (.ite (fun _ => .refl s) (fun _ => .callSafeBoth (.ssout (.safetyLog (.set (.set (.set (.refl s))))))))

theorem Sound.dliCommand (h : Sound s t) {kind len} : Sound s (t.dliCommand kind len) := .set (.set h)

theorem Sound.dliEnd (h : Sound s t) : Sound s t.dliEnd := .on h (fun h => .set (.set (.dliCommand h)))

theorem Sound.wdStop (h : Sound s t) {mask} : Sound s (t.wdStop mask) :=
  .ite (fun _ => h) (fun _ => .safetyLog (.lines (.forN h (fun h => .on h (fun h => .on (.tripIn (.set h)) (fun h => .foldl h
    (fun h => .set h)))))))

theorem Sound.wdEnd (h : Sound s t) : Sound s t.wdEnd := .wdStop h

theorem Sound.disEnds (h : Sound s t) {code} : Sound s (t.disEnds code) := .set (.set (.set (.set (.set (.set (.wdEnd h))))))

theorem Sound.disCauseClear (h : Sound s t) : Sound s t.disCauseClear := by
  unfold State.disCauseClear
  exact .ssout (.lines (.forN h (fun h => by
    extract_lets +onlyGivenNames u'
    have hu' : Sound s u' := .setBit h
    exact .setb hu')))

theorem Sound.disFault (h : Sound s t) {kind} : Sound s (t.disFault kind) := .safetyLog (.disEnds (.dliEnd h))

theorem Sound.disDone (h : Sound s t) : Sound s t.disDone := by
  unfold State.disDone
  extract_lets +onlyGivenNames t'
  have ht' : Sound s t' := .disCauseClear (.disEnds (.dliEnd h))
  exact .safetyLog ht'

theorem Sound.disCancelled (h : Sound s t) : Sound s t.disCancelled := .safetyLog (.disCauseClear (.disEnds h))

theorem Sound.disStart (h : Sound s t) {src} : Sound s (t.disStart src) := by
  unfold State.disStart
  extract_lets +onlyGivenNames _ _ _ _ s5
  have hs5 : Sound s s5 := .set (.set (.set (.set (.set (.set (.set (.set (.forN (.set (.set (.set (.set (.set (.set (.set (.set h))))))))
    (fun h => .set (.set h))))))))))
  exact .callSafeBoth (.safetyLog hs5)

theorem Sound.unparkBegin (h : Sound s t) {arg1} : Sound s (t.unparkBegin arg1) := .on h (fun h => .event (.set h))

theorem Sound.disRequest (h : Sound s t) {src} : Sound s (t.disRequest src).1 := by
  unfold State.disRequest
  extract_lets +onlyGivenNames s'
  have hs' : Sound s s' := .on h (fun h => .unparkBegin h)
  exact .iteFst (fun _ => .pair (.on hs' (fun h => .set (.set h)))) (fun _ => .iteFst (fun _ => .pair (.disFault (.disStart hs')))
    (fun _ => .iteFst (fun _ => .pair hs') (fun _ => .iteFst (fun _ => .pair (.disFault (.disStart hs'))) (fun _ => .pair
      (.disStart hs')))))

theorem Sound.wdStart1 (h : Sound s t) {a} : Sound s (t.wdStart1 a) := by
  unfold State.wdStart1
  extract_lets +onlyGivenNames s1 _ _
  have hs1 : Sound s s1 := .setBit (.tripIn (.set h))
  exact .detach (.setMode (.set (.foldl (.forN (.setb (.setb hs1)) (fun h => .gateWrite h)) (fun h => .set h))))

theorem Sound.wdStart (h : Sound s t) : Sound s t.wdStart :=
  .safetyLog (.set (.lines (.on (.on h (fun h => .wdStart1 h)) (fun h => .wdStart1 h))))

theorem Sound.stepBegin (h : Sound s t) {t'} : Sound s (t.stepBegin t') := .set (.set (.set (.set h)))

theorem Sound.issueStep (h : Sound s t) {t'} : Sound s (t.issueStep t') := by
  unfold State.issueStep
  extract_lets +onlyGivenNames s1
  have hs1 : Sound s s1 := .set (.incSat (.dliCommand h))
  exact .ite (fun _ => .set hs1) (fun _ => .stepBegin hs1)

theorem Steps.execRingDischarge {net} : Steps s (Machine.execRingDischarge net s) := by
  unfold Machine.execRingDischarge
  exact .next (by
    split
    · exact .refl s
    · exact .ite (fun _ => .refl s) (fun _ => .ite (fun _ => .commandDone (.refl s)) (fun _ => .ite (fun _ => .commandDone (.refl s))
        (fun _ => by
        split
        rename_i t' r heq
        have ht' : Sound s t' := .of_fst (.disRequest (.refl s)) heq
        exact .commandDone ht'))))

theorem Steps.execDischargeCancel {net} : Steps s (Machine.execDischargeCancel net s) := by
  unfold Machine.execDischargeCancel
  exact .next (by
    split
    · exact .refl s
    · exact .ite (fun _ => .refl s) (fun _ => .ite (fun _ => .commandDone (.refl s)) (fun _ => .ite (fun _ => .commandOver (.refl s))
        (fun _ => .ite (fun _ => .commandDone (.refl s)) (fun _ => .commandOver (.ite (fun _ => .set (.refl s)) (fun _ => .disCancelled
          (.refl s))))))))

theorem Steps.execHvilFault {kind} : Steps s (Machine.execHvilFault kind s) := by
  unfold Machine.execHvilFault
  exact .next (.ite (fun _ => .refl s) (fun _ => by
    extract_lets +onlyGivenNames _ s2
    have hs2 : Sound s s2 := .forN (.safetyLog (.set (.refl s))) (fun h => .on h (fun h => .unsafeAxis h))
    exact .ite (fun _ => .disRequest hs2) (fun _ => hs2)))

theorem Steps.execDliDownlink : Steps s (Machine.execDliDownlink s) := by
  unfold Machine.execDliDownlink
  extract_lets +onlyGivenNames _ s0 s1
  have hs0 : Sound s s0 := .on (.refl s) (fun h => .set (.set (.pitAct h)))
  have hs1 : Sound s s1 := .on hs0 (fun h => .set (.pitAct h))
  exact .next (.ite (fun _ => .refl s) (fun _ => .ite (fun _ => .set (.set (.incSat (.set hs1)))) (fun _ => .send (.set (.set
    (.set hs1))))))

theorem Sound.disG (h : Sound s t) : Sound s t.disG := .setb h

theorem Steps.execDisStep {len} : Steps s (Machine.execDisStep len s) :=
  .next (.ite (fun _ => .refl s) (fun _ => .ite (fun _ => .set (.refl s)) (fun _ => .disG (.set (.set (.refl s))))))

theorem Steps.execDisStepEnd : Steps s (Machine.execDisStepEnd s) :=
  .next (.ite (fun _ => .refl s) (fun _ => .disG (.set (.set (.set (.refl s))))))

theorem Steps.execDisEnd : Steps s (Machine.execDisEnd s) := .next (.disG (.set (.set (.refl s))))

theorem Steps.execDliLinkLoss : Steps s (Machine.execDliLinkLoss s) := by
  unfold Machine.execDliLinkLoss
  extract_lets +onlyGivenNames s1
  have hs1 : Sound s s1 := .disG (.set (.set (.refl s)))
  exact .next (.ite (fun _ => .refl s) (fun _ => .ite (fun _ => .disFault hs1) (fun _ => hs1)))

theorem Steps.execDliPowerLoss : Steps s (Machine.execDliPowerLoss s) := .next (.set (.set (.disG (.set (.set (.set (.set (.refl s))))))))

theorem Steps.execStuckOff : Steps s (Machine.execStuckOff s) := by
  unfold Machine.execStuckOff
  extract_lets +onlyGivenNames s1
  have hs1 : Sound s s1 := .setBit (.set (.refl s))
  exact .next (.ite (fun _ => hs1) (fun _ => .ite (fun _ => .dliEnd hs1) (fun _ => .ite (fun _ => .wdStart (.dliEnd hs1))
    (fun _ => .disFault hs1))))

theorem Steps.execStuckOn : Steps s (Machine.execStuckOn s) := by
  unfold Machine.execStuckOn
  extract_lets +onlyGivenNames s1
  have hs1 : Sound s s1 := .setBit (.set (.refl s))
  exact .next (.ite (fun _ => .disFault hs1) (fun _ => .ite (fun _ => hs1) (fun _ => .safetyLog hs1)))

theorem Steps.execBroadcastAssert : Steps s (Machine.execBroadcastAssert s) := .next (.set (.set (.refl s)))

theorem Steps.execBroadcastDeassert : Steps s (Machine.execBroadcastDeassert s) := .next (.set (.set (.refl s)))

theorem Steps.execAbseilStep : Steps s (Machine.execAbseilStep s) := by
  unfold Machine.execAbseilStep
  exact .next (.ite (fun _ => .refl s) (fun _ => .ite (fun _ => .ite (fun _ => .refl s) (fun _ => .disCancelled (.refl s))) (fun _ => by
    extract_lets +onlyGivenNames _ s1 _
    have hs1 : Sound s s1 := .on (.refl s) (fun h => .pitAct h)
    exact .ite (fun _ => .issueStep hs1) (fun _ => by
      extract_lets +onlyGivenNames s2
      have hs2 : Sound s s2 := .on hs1 (fun h => .safetyLog h)
      exact .ite (fun _ => .wdStart hs2) (fun _ => by
        split
        · exact .set hs2
        · exact .issueStep hs2)))))

theorem Sound.stepJudged (h : Sound s t) : Sound s t.stepJudged := by
  unfold State.stepJudged
  extract_lets +onlyGivenNames _ _ _ _ _ s1
  have hs1 : Sound s s1 := .set (.set h)
  exact .ite (fun _ => .disFault hs1) (fun _ => .ite (fun _ => .disCancelled (.on hs1 (fun h => .dliCommand h))) (fun _ => .ite
    (fun _ => hs1) (fun _ => .set (.stepBegin hs1))))

theorem Sound.resistorHeat (h : Sound s t) {ms} : Sound s (t.resistorHeat ms) := by
  unfold State.resistorHeat
  extract_lets +onlyGivenNames _ _ s1
  have hs1 : Sound s s1 := .set h
  exact .set hs1

theorem Sound.ledgerBook (h : Sound s t) : Sound s t.ledgerBook := by
  unfold State.ledgerBook
  extract_lets +onlyGivenNames _ s1 s2 _ s4
  have hs1 : Sound s s1 := .set (.set (.resistorHeat h))
  have hs2 : Sound s s2 := .set (.set hs1)
  have hs4 : Sound s s4 := .forN (.set hs2) (fun h => .set (.on h (fun h => by
    extract_lets +onlyGivenNames v
    have hv : Sound s v := .seti h
    exact .set hv)))
  exact .on hs4 (fun h => by
    extract_lets +onlyGivenNames u'
    have hu' : Sound s u' := .set h
    exact .set hu')

theorem Steps.execLedgerUpdate {stepEnd} : Steps s (Machine.execLedgerUpdate stepEnd s) := by
  unfold Machine.execLedgerUpdate
  extract_lets +onlyGivenNames s1 s2 s3 s4
  have hs1 : Sound s s1 := .ledgerBook (.refl s)
  have hs2 : Sound s s2 := .on hs1 (fun h => by
    extract_lets +onlyGivenNames t1
    have ht1 : Sound s t1 := .incSat h
    exact .on ht1 (fun h => .set h))
  have hs3 : Sound s s3 := .ite (fun _ => .stepJudged hs2) (fun _ => hs2)
  have hs4 : Sound s s4 := .wdStop hs3
  exact .next (.ite (fun _ => .on (.refl s) (fun h => .resistorHeat h)) (fun _ => .ite (fun _ => hs3) (fun _ => .ite (fun _ => .disDone hs3)
    (fun _ => .on hs4 (fun h => .set h)))))

theorem Steps.execDisMiss : Steps s (Machine.execDisMiss s) := .next (.ite (fun _ => .safetyLog (.set (.refl s))) (fun _ => .refl s))

theorem Steps.execDliPitArm {sel} : Steps s (Machine.execDliPitArm sel s) :=
  .next (.ite (fun _ => .refl s) (fun _ => .ite (fun _ => .accessRefused (.refl s)) (fun _ => .pitArm (.refl s) (.set (.refl s)))))

theorem Steps.execBlVdcSample {v} : Steps s (Machine.execBlVdcSample v s) := by
  unfold Machine.execBlVdcSample
  extract_lets +onlyGivenNames s1
  have hs1 : Sound s s1 := .set (.set (.set (.set (.refl s))))
  exact .next (.ite (fun _ => .disDone hs1) (fun _ => hs1))

theorem Steps.execVdcFallback : Steps s (Machine.execVdcFallback s) := by
  unfold Machine.execVdcFallback
  exact .next (.ite (fun _ => by
    extract_lets +onlyGivenNames s1
    have hs1 : Sound s s1 := .set (.set (.refl s))
    exact .ite (fun _ => .disFault hs1) (fun _ => hs1)) (fun _ => .refl s))

theorem Sound.loadReg (h : Sound s t) {addr word} : Sound s (t.loadReg addr word) := .foldl h (fun h => .set h)

theorem Sound.carCopy (h : Sound s t) {a} : Sound s (t.carCopy a) := .set (.set h)

theorem Sound.takeSafety (h : Sound s t) {r ch} : Sound s (t.takeSafety r ch) := .set (.forN h (fun h => .set h))

theorem Sound.takeCoef (h : Sound s t) {r ch running} : Sound s (t.takeCoef r ch running) := by
  unfold State.takeCoef
  exact .ite (fun _ => h) (fun _ => .foldl h (fun h => by
    extract_lets +onlyGivenNames t1
    have ht1 : Sound s t1 := .forN h (fun h => .ite (fun _ => .set h) (fun _ => .set h))
    exact .ite (fun _ => .set ht1) (fun _ => .set (.set ht1))))

theorem Sound.takeImages (h : Sound s t) {r ch src} : Sound s (t.takeImages r ch src) := by
  unfold State.takeImages
  extract_lets +onlyGivenNames s1
  have hs1 : Sound s s1 := .foldl h (fun h => .foldl h (fun h => .loadReg h))
  exact .ite (fun _ => by
    extract_lets +onlyGivenNames _ _ _ _ _ _ s5 _ _ _
    have hs5 : Sound s s5 := .foldl (.setb (.setb (.setb (.setb (.forN (.forN hs1 (fun h => .set h)) (fun h => .set h))))))
      (fun h => .forN h (fun h => .set h))
    exact .foldl (.set hs5) (fun h => .ite (fun _ => h) (fun _ => .carCopy h))) (fun _ => .ite (fun _ => .forN hs1 (fun h => .set h))
      (fun _ => hs1))

theorem Sound.takeRest (h : Sound s t) {r ch} : Sound s (t.takeRest r ch) :=
  .on (.on (.on (.setBit (.setBit (.set (.forN h (fun h => .set h))))) (fun h => .set h)) (fun h => .set h)) (fun h => .holdTryDrive h)

theorem Sound.entryInForce (h : Sound s t) {r ch src running} : Sound s (t.entryInForce r ch src running) :=
  .set (.takeRest (.takeCoef (.takeImages (.takeSafety h))))

theorem Sound.entryEvent (h : Sound s t) {ch} : Sound s (t.entryEvent ch) := .event h

theorem Sound.candInForce (h : Sound s t) {ch src} : Sound s (t.candInForce ch src) :=
  .entryEvent (.entryInForce (.forN (.setBit (.on h (fun h => .incSat h))) (fun h => .set h)))

theorem Sound.errEvent (h : Sound s t) {cls ch} : Sound s (t.errEvent cls ch) := .event h

theorem Sound.requestDone (h : Sound s t) {src op fail done} : Sound s (t.requestDone src op fail done) := by
  unfold State.requestDone
  dsimp only
  split
  · exact .set h
  · exact .complete h
  · exact .commandOver h
  · exact .commandOver h
  · exact h

theorem Sound.jobClear (h : Sound s t) : Sound s t.jobClear := .set (.set (.set h))

theorem Sound.jobFinish (h : Sound s t) : Sound s t.jobFinish := .requestDone (.jobClear h)

theorem Sound.jobPark (h : Sound s t) : Sound s t.jobPark :=
  .ite (fun _ => .jobClear h) (fun _ => .jobClear (.set (.set (.set (.set h)))))

theorem Sound.waitRefuse (h : Sound s t) {k st} : Sound s (t.waitRefuse k st) := .on h (fun h => .set h)

theorem Sound.jobRefuse (h : Sound s t) {st} : Sound s (t.jobRefuse st) := .on h (fun h => .set h)

theorem Sound.jobTake (h : Sound s t) {ch} : Sound s (t.jobTake ch) := by
  unfold State.jobTake
  extract_lets +onlyGivenNames t'
  have ht' : Sound s t' := .on (.set (.set h)) (fun h => .set h)
  split
  · exact .ite (fun _ => ht') (fun _ => .ite (fun _ => .jobRefuse ht') (fun _ => .ite (fun _ => .on (.set (.set ht')) (fun h => .set h))
      (fun _ => .set (.set ht'))))
  · exact .ite (fun _ => .set (.set ht')) (fun _ => .jobRefuse ht')
  · exact .set (.set ht')

/-- By induction on the channels that are left. -/
theorem Sound.jobNext (h : Sound s t) {n} : Sound s (State.jobNext n t) := by
  induction n generalizing t with
  | zero => exact h
  | succ n ih =>
    unfold State.jobNext
    split
    · exact h
    · split
      · exact .ite (fun _ => .jobPark h) (fun _ => .jobFinish h)
      · exact .ite (fun _ => .jobTake (.set h)) (fun _ => ih (.jobTake (.set h)))

theorem Sound.jobGo (h : Sound s t) : Sound s t.jobGo := .jobNext (.set h)

theorem Sound.jobStart (h : Sound s t) {op src mask} : Sound s (t.jobStart op src mask) :=
  .jobGo (.set (.set (.set (.set (.set (.set h))))))

theorem Sound.actAbort (h : Sound s t) : Sound s t.actAbort := by
  unfold State.actAbort
  extract_lets +onlyGivenNames s0 s1
  have hs0 : Sound s s0 := .set h
  have hs1 : Sound s s1 := .on hs0 (fun h => .requestDone (.set h))
  exact .ite (fun _ => hs1) (fun _ => by
    extract_lets +onlyGivenNames _ _ u'
    have hu' : Sound s u' := .set (.set (.on (.jobRefuse hs1) (fun h => .set h)))
    exact .ite (fun _ => .jobPark hu') (fun _ => .jobFinish hu'))

theorem Sound.jobErr (h : Sound s t) {err cls st} : Sound s (t.jobErr err cls st) :=
  .jobGo (.on (.errEvent (.setBit h)) (fun h => .jobRefuse h))

theorem Sound.jobRange (h : Sound s t) {off} : Sound s (t.jobRange off) := .jobErr (.on h (fun h => .set (.set h)))

theorem Sound.saveStart (h : Sound s t) {src} : Sound s (t.saveStart src) := .set (.set (.set (.set (.set h))))

theorem Sound.cmdStart (h : Sound s t) : Sound s t.cmdStart := by
  unfold State.cmdStart
  exact .ite (fun _ => .set h) (fun _ => by
    extract_lets +onlyGivenNames t'
    have ht' : Sound s t' := .set h
    exact .ite (fun _ => .saveStart ht') (fun _ => .jobStart ht'))

theorem Steps.execActRefresh {mask} : Steps s (Machine.execActRefresh mask s) := by
  unfold Machine.execActRefresh
  extract_lets +onlyGivenNames t'
  have ht' : Sound s t' := .set (.set (.refl s))
  exact .next (.ite (fun _ => .refl s) (fun _ => .ite (fun _ => .refl s) (fun _ => .ite (fun _ => ht') (fun _ => .cmdStart (.set ht')))))

theorem Steps.execActVerify {mask} : Steps s (Machine.execActVerify mask s) :=
  .next (.ite (fun _ => .refl s) (fun _ => .ite (fun _ => .refl s) (fun _ => .cmdStart (.set (.set (.set (.refl s)))))))

theorem Steps.execActSave : Steps s (Machine.execActSave s) :=
  .next (.ite (fun _ => .refl s) (fun _ => .ite (fun _ => .accessRefused (.refl s)) (fun _ => .ite (fun _ => .refl s) (fun _ => .cmdStart
    (.set (.set (.refl s)))))))

theorem Steps.execRingRefresh : Steps s (Machine.execRingRefresh s) := by
  unfold Machine.execRingRefresh
  exact .next (by
    split
    · exact .refl s
    · exact .ite (fun _ => .complete (.refl s)) (fun _ => .ite (fun _ => .refl s) (fun _ => .jobStart (.refl s))))

theorem Steps.execRingVerify : Steps s (Machine.execRingVerify s) := by
  unfold Machine.execRingVerify
  exact .next (by
    split
    · exact .refl s
    · exact .ite (fun _ => .refl s) (fun _ => .jobStart (.refl s)))

theorem Steps.execRingSave : Steps s (Machine.execRingSave s) := by
  unfold Machine.execRingSave
  exact .next (by
    split
    · exact .refl s
    · exact .ite (fun _ => .complete (.accessRefused (.refl s))) (fun _ => .ite (fun _ => .refl s) (fun _ => .saveStart (.refl s))))

theorem Steps.execSaveDone {words complete} : Steps s (Machine.execSaveDone words complete s) := by
  unfold Machine.execSaveDone
  exact .ite (fun _ => .next (.refl s)) (fun _ => by
    extract_lets +onlyGivenNames _ _ s1 _
    have hs1 : Sound s s1 := .forN (.refl s) (fun h => .set h)
    exact .next (.jobFinish (.ite (fun _ => .incSat (.set (.set hs1))) (fun _ => .set hs1))))

theorem Sound.unjoin (h : Sound s t) : Sound s t.unjoin := .lines (.set (.set (.set h)))

theorem Steps.execEntryFetched {words words0 src1} : Steps s (Machine.execEntryFetched words words0 src1 s) :=
  .ite (fun _ => .next (.refl s)) (fun _ => .next (.ite (fun _ => .jobErr (.refl s)) (fun _ => .ite (fun _ => .jobGo (.jobRefuse (.errEvent
    (.refl s)))) (fun _ => .ite (fun _ => .jobErr (.refl s)) (fun _ => .set (.set (.putEntry (.on (.refl s) (fun h => .unjoin h)))))))))

theorem Steps.execFetchTmo : Steps s (Machine.execFetchTmo s) := .next (.ite (fun _ => .jobErr (.refl s)) (fun _ => .refl s))

theorem Sound.belayEnable (h : Sound s t) {ch a} : Sound s (t.belayEnable ch a) := by
  unfold State.belayEnable
  extract_lets +onlyGivenNames _ _ _ s3 _ _ _
  have hs3 : Sound s s3 := .set (.lines (.set (.govTake (.set (.set (.set (.set (.set (.set (.set (.set h)))))))))))
  exact .ssout (.substTaken (.forwardAngle (.on (.set (.set (.set (.set (.set (.set (.set (.set hs3)))))))) (fun h => .safetyLog h))))

theorem Sound.enableTraction (h : Sound s t) {ch} : Sound s (t.enableTraction ch) := by
  unfold State.enableTraction
  extract_lets +onlyGivenNames _ _ _ _ _ _ _ s6
  have hs6 : Sound s s6 := .catchStart (.set (.set (.foldl (.foldl (.foldl (.foldl (.set (.candInForce (.on h (fun h => .follow (.set (.set
    (.set h))))))) (fun h => .set (.belayEnable (.posEnable h)))) (fun h => .gateRelease h)) (fun h => .osdAbort h)) (fun h => .set h))))
  exact .on hs6 (fun h => .foldl h (fun h => .ofsBegin h))

theorem Sound.enableOther (h : Sound s t) {ch} : Sound s (t.enableOther ch) :=
  .on (.set (.candInForce h)) (fun h => .set (.set (.set (.set h))))

theorem Sound.rangeAt (h : Sound s t) {off} : Sound s (t.rangeAt off) := .setBit (.on h (fun h => .set (.set h)))

theorem Sound.enableChecks (h : Sound s t) {ch} : Sound s ((t.enableChecks ch).getD t) :=
  .iteGetD (fun _ => .getD_some (.jobRefuse (.on (.on h (fun h => .set h)) (fun h => .rangeAt h))))
    (fun _ => .iteGetD (fun _ => .getD_some (.jobRefuse (.set h))) (fun _ => .iteGetD (fun _ => .getD_some (.jobRefuse h))
    (fun _ => .iteGetD (fun _ => .getD_some (.jobRefuse (.set h))) (fun _ => .iteGetD (fun _ => .getD_some (.jobRefuse h))
    (fun _ => .iteGetD (fun _ => .getD_some (.jobRefuse (.set h))) (fun _ => .iteGetD (fun _ => .getD_some (.jobRefuse (.set h)))
    (fun _ => .iteGetD (fun _ => .getD_some (.jobRefuse (.set (by
      split
      · exact .rangeAt h
      · exact h))))
    (fun _ => .iteGetD (fun _ => .getD_some (.jobRefuse (.set h)))
    (fun _ => .iteGetD (fun _ => .getD_some (.jobRefuse (.set (.on h (fun h => .rangeAt h))))) (fun _ => .getD_none h))))))))))

theorem Sound.stage (h : Sound s t) {ch} : Sound s (t.stage ch) := by
  unfold State.stage
  extract_lets +onlyGivenNames s1
  have hs1 : Sound s s1 := .on h (fun h => .incSat h)
  exact .on (.setBit (.forN hs1 (fun h => .set h))) (fun h => .set h)

theorem Sound.baseRefused (h : Sound s t) {ch} : Sound s (t.baseRefused ch) := .event (.setBit (.on h (fun h => .set (.set h))))

theorem Sound.entryPass (h : Sound s t) {ch} : Sound s (t.entryPass ch) := by
  unfold State.entryPass
  extract_lets s1
  have hs1 : Sound s s1 := .setBit h
  split
  · refine .ite (fun _ => ?_) (fun _ => .ite (fun _ => .jobGo (.jobRefuse (.set hs1)))
      (fun _ => .ite (fun _ => .jobGo (.jobRefuse hs1)) (fun _ => .jobGo (.enableOther hs1))))
    split
    next e => exact .jobGo (.of_getD (.enableChecks hs1) e)
    · exact .jobGo (.setBit (.enableTraction hs1))
  · refine .ite (fun _ => .jobGo (.jobRefuse (.baseRefused (.setBit hs1)))) (fun _ => ?_)
    split
    · exact .jobRange (.setBit hs1)
    · exact .jobGo (.setBit (.stage hs1))
  · exact .jobGo hs1

theorem Steps.execBindCheck : Steps s (Machine.execBindCheck s) := by
  unfold Machine.execBindCheck
  exact .ite (fun _ => .next (.refl s)) (fun _ => .next (.ite (fun _ => .jobErr (.safetyLog (.incSat (.refl s)))) (fun _ => by
    extract_lets +onlyGivenNames s1
    have hs1 : Sound s s1 := .on (.refl s) (fun h => .set h)
    split
    · exact .jobRange (.on (.on hs1 (fun h => .set h)) (fun h => .set h))
    · exact .entryPass hs1)))

theorem Steps.execCacheCheck {ch good} : Steps s (Machine.execCacheCheck ch good s) :=
  .next (.ite (fun _ => .raise (.refl s)) (fun _ => .refl s))

theorem Steps.execRingEnable {net} : Steps s (Machine.execRingEnable net s) := by
  unfold Machine.execRingEnable
  exact .next (by
    split
    · exact .refl s
    · exact .ite (fun _ => .refl s) (fun _ => .jobStart (.refl s)))

theorem Sound.tractionEnd (h : Sound s t) {ch} : Sound s (t.tractionEnd ch) :=
  .lines (.set (.forN (.setMode (.catchAbort (.injStop (.foldl (.foldl (.foldl (.set h) (fun h => .set (.set h))) (fun h => .set h))
    (fun h => .set h))))) (fun h => .set h)))

theorem Sound.traction0 (h : Sound s t) {ch} : Sound s (t.traction0 ch) := .tractionEnd (.foldl h (fun h => .gateSoftOff h))

theorem Sound.disableDone (h : Sound s t) : Sound s t.disableDone := by
  unfold State.disableDone
  exact .ite (fun _ => by
    extract_lets +onlyGivenNames _ t'
    have ht' : Sound s t' := .set h
    exact .ite (fun _ => ht') (fun _ => .commandOver ht')) (fun _ => h)

theorem Sound.disable1 (h : Sound s t) {ch} : Sound s (t.disable1 ch) :=
  .ite (fun _ => .setBit h) (fun _ => .ite (fun _ => .ite (fun _ => .setBit (.on h (fun h => .set h))) (fun _ => .ite
    (fun _ => .traction0 h) (fun _ => .set h))) (fun _ => .ite (fun _ => .ite (fun _ => .setBit (.on h (fun h => .set h))) (fun _ => .setBit
      (.set h))) (fun _ => .ite (fun _ => .ite (fun _ => .setBit (.on h (fun h => .set h))) (fun _ => .setBit (.set h)))
        (fun _ => .set h))))

theorem Sound.waitChannel (h : Sound s t) {k ch} : Sound s (t.waitChannel k ch) := by
  unfold State.waitChannel
  extract_lets +onlyGivenNames got
  have hgot : Sound s got := .setBit h
  exact .ite (fun _ => h) (fun _ => .ite (fun _ => .ite (fun _ => h) (fun _ => hgot)) (fun _ => .ite (fun _ => .waitRefuse hgot)
    (fun _ => .ite (fun _ => .waitRefuse (.traction0 hgot)) (fun _ => .ite (fun _ => hgot) (fun _ => h)))))

theorem Sound.waitPoll (h : Sound s t) {k} : Sound s (t.waitPoll k) := by
  unfold State.waitPoll
  exact .ite (fun _ => h) (fun _ => by
    extract_lets +onlyGivenNames t'
    have ht' : Sound s t' := .forN h (fun h => .waitChannel h)
    exact .ite (fun _ => ht') (fun _ => .requestDone ht'))

theorem Sound.actPoll (h : Sound s t) : Sound s t.actPoll := by
  unfold State.actPoll
  extract_lets +onlyGivenNames _ _ s2
  have hs2 : Sound s s2 := .forN (.disableDone (.forN h (fun h => .ite (fun _ => .setBit h) (fun _ => h)))) (fun h => .waitPoll h)
  exact .on hs2 (fun h => .cmdStart h)

theorem Sound.stagedIn (h : Sound s t) {ch} : Sound s (t.stagedIn ch) :=
  .ite (fun _ => h) (fun _ => .ite (fun _ => .forN (.on (.baseRefused (.setBit h)) (fun h => .jobRefuse (.setBit h))) (fun h => .on h
    (fun h => .waitRefuse (.setBit h)))) (fun _ => .entryEvent (.incSat (.setBit (.entryInForce h)))))

theorem Sound.stagedTick (h : Sound s t) : Sound s t.stagedTick := by
  unfold State.stagedTick
  extract_lets +onlyGivenNames _ s1 s2
  have hs1 : Sound s s1 := .ite (fun _ => .ite (fun _ => .ite (fun _ => h) (fun _ => .stagedIn h)) (fun _ => .stagedIn (.ite (fun _ => h)
    (fun _ => .stagedIn h)))) (fun _ => .stagedIn (.ite (fun _ => .ite (fun _ => h) (fun _ => .stagedIn h)) (fun _ => .stagedIn (.ite
      (fun _ => h) (fun _ => .stagedIn h)))))
  have hs2 : Sound s s2 := .ite (fun _ => hs1) (fun _ => .stagedIn hs1)
  exact .ite (fun _ => hs2) (fun _ => .stagedIn hs2)

theorem Sound.disableTick (h : Sound s t) : Sound s t.disableTick := .forN h (fun h => .on h (fun h => .incSat h))

theorem Steps.execRingDisable {net} : Steps s (Machine.execRingDisable net s) := by
  unfold Machine.execRingDisable
  exact .next (by
    split
    · exact .refl s
    · exact .ite (fun _ => .refl s) (fun _ => .disableDone (.forN (.set (.set (.set (.refl s)))) (fun h => .ite (fun _ => .disable1 h)
        (fun _ => h)))))

theorem Steps.execDisableRampEnd {ch} : Steps s (Machine.execDisableRampEnd ch s) :=
  .next (.ite (fun _ => .refl s) (fun _ => .ite (fun _ => .ite (fun _ => .refl s) (fun _ => .traction0 (.refl s))) (fun _ => .ite
    (fun _ => .refl s) (fun _ => .disableDone (.setBit (.set (.set (.axHalt (.refl s)))))))))

theorem Sound.axSamples (h : Sound s t) {k u' v w} : Sound s (t.axSamples k u' v w) :=
  .ite (fun _ => .incSat h) (fun _ => .seti (.seti (.seti h)))

theorem Sound.axRmsShift (h : Sound s t) {k} : Sound s (t.axRmsShift k) :=
  .set (.forN h (fun h => .forN (.set (.set h)) (fun h => .set (.set h))))

theorem Sound.axRmsAdd (h : Sound s t) {k i} : Sound s (t.axRmsAdd k i) := .forN (.inc (.inc h)) (fun h => .set (.set h))

theorem Sound.axRms (h : Sound s t) {k} : Sound s (t.axRms k) := by
  unfold State.axRms
  extract_lets +onlyGivenNames s0 s1 s2 _
  have hs0 : Sound s s0 := .axRmsShift h
  have hs1 : Sound s s1 := .axRmsAdd hs0
  have hs2 : Sound s s2 := .set hs1
  exact .ite (fun _ => .raise (.set hs2)) (fun _ => .ite (fun _ => .set hs2) (fun _ => hs2))

theorem Sound.axInjUpdate (h : Sound s t) {k} : Sound s (t.axInjUpdate k) := by
  unfold State.axInjUpdate
  extract_lets +onlyGivenNames _ _ _ _ s1 s2 _ _ _ _ s3
  have hs1 : Sound s s1 := .set (.seti (.seti h))
  have hs2 : Sound s s2 := .set hs1
  have hs3 : Sound s s3 := .seti (.seti (.seti hs2))
  exact .ite (fun _ => .incSat hs3) (fun _ => .set hs3)

theorem Sound.axInjBegin (h : Sound s t) {k ang spd} : Sound s (t.axInjBegin k ang spd) := .set (.set (.set (.set (.set (.set h)))))

theorem Sound.axPolPart (h : Sound s t) {k n t'} : Sound s (t.axPolPart k n t') := .set (.set h)

theorem Sound.axPolPulse (h : Sound s t) {k} : Sound s (t.axPolPulse k) := .setb (.seti (.axPolPart h))

theorem Sound.axPolUpdate (h : Sound s t) {k} : Sound s (t.axPolUpdate k) := by
  unfold State.axPolUpdate
  extract_lets +onlyGivenNames _ _ _ _ s1 _
  have hs1 : Sound s s1 := .seti h
  split
  · extract_lets +onlyGivenNames _ _ s2
    have hs2 : Sound s s2 := .seti hs1
    exact .ite (fun _ => .set (.axPolPart hs2)) (fun _ => hs2)
  · exact .ite (fun _ => .axPolPart hs1) (fun _ => hs1)
  · exact .ite (fun _ => .axPolPart hs1) (fun _ => hs1)
  · exact hs1

theorem Sound.axForced (h : Sound s t) {k} : Sound s (t.axForced k) := .seti (.seti h)

theorem Sound.axFluxStep (h : Sound s t) {k n v i} : Sound s (t.axFluxStep k n v i) := .seti h

theorem Sound.axSeed (h : Sound s t) {k ang spd} : Sound s (t.axSeed k ang spd) := .set (.set (.set (.set (.seti (.seti h)))))

theorem Sound.axConv (h : Sound s t) {k} : Sound s (t.axConv k) := .ite (fun _ => .set h) (fun _ => .ite (fun _ => .set h) (fun _ => h))

theorem Sound.axObserver (h : Sound s t) {k} : Sound s (t.axObserver k) := by
  unfold State.axObserver
  extract_lets +onlyGivenNames _ _ s1 _ _ _ _ s2 _ s3
  have hs1 : Sound s s1 := .axFluxStep (.axFluxStep h)
  have hs2 : Sound s s2 := .seti (.seti hs1)
  have hs3 : Sound s s3 := .ite (fun _ => .incSat hs2) (fun _ => .set hs2)
  exact .axConv (.ite (fun _ => .incSat hs3) (fun _ => .set hs3))

theorem Sound.axEstimate (h : Sound s t) {k} : Sound s (t.axEstimate k) := by
  unfold State.axEstimate
  exact .ite (fun _ => h) (fun _ => .ite (fun _ => .forN h (fun h => .set h)) (fun _ => .ite (fun _ => .axPolUpdate h) (fun _ => by
    extract_lets +onlyGivenNames s1
    have hs1 : Sound s s1 := .on h (fun h => .axInjUpdate h)
    exact .ite (fun _ => hs1) (fun _ => by
      extract_lets +onlyGivenNames s2 _
      have hs2 : Sound s s2 := .axObserver (.on hs1 (fun h => .axForced h))
      exact .set hs2))))

theorem Sound.axVoltLimit (h : Sound s t) {k} : Sound s (t.axVoltLimit k) := by
  unfold State.axVoltLimit
  extract_lets +onlyGivenNames s1 _ _ _ _ _ _ _ s2 s3
  have hs1 : Sound s s1 := .on h (fun h => .set (.pitAct h))
  have hs2 : Sound s s2 := .on hs1 (fun h => .set h)
  have hs3 : Sound s s3 := .ite (fun _ => .incSat hs2) (fun _ => .set hs2)
  exact .ite (fun _ => .incSat hs3) (fun _ => .set hs3)

theorem Sound.setEcc (h : Sound s t) {m w n} : Sound s (t.setEcc m w n) := .records h

theorem Sound.memPut (h : Sound s t) {a v} : Sound s (t.memPut a v) :=
  .ite (fun _ => h) (fun _ => .setEcc (.memory (.on h (fun h => .pitAct h)) fun hm => Memory.wf_put hm _ _))

theorem Sound.memPut32 (h : Sound s t) {a v} : Sound s (t.memPut32 a v) := .foldl h (fun h => .memPut h)

theorem Sound.eccDed (h : Sound s t) {m w} : Sound s (t.eccDed m w) := .event (.set (.set (.incSat (.setBit h))))

theorem Sound.eccCheck (h : Sound s t) {m w} : Sound s (t.eccCheck m w) := by
  unfold State.eccCheck
  split
  · exact h
  · extract_lets +onlyGivenNames s1
    have hs1 : Sound s s1 := .incSat (.setEcc h)
    exact .ite (fun _ => .event hs1) (fun _ => .records hs1)
  · exact .eccDed h

theorem Sound.bistSave (h : Sound s t) {pd} : Sound s (t.bistSave pd) := by
  unfold State.bistSave
  extract_lets +onlyGivenNames _ t'
  have ht' : Sound s t' := .foldl h (fun h => .memPut h)
  exact .records ht'

theorem Sound.secEvent (h : Sound s t) {c code a0 a1} : Sound s (t.secEvent c code a0 a1) := .event h

theorem Sound.calZero (h : Sound s t) : Sound s t.calZero := .forN (.set (.set (.dropCells h))) (fun h => .set h)

theorem Sound.tblLock (h : Sound s t) {arg0 engine} : Sound s (t.tblLock arg0 engine) :=
  .secEvent (.dropCells (.calZero (.set (.set (.set h)))))

theorem Sound.unblank (h : Sound s t) {p} : Sound s (t.unblank p) := .set h

theorem Sound.cntStop (h : Sound s t) {pu} : Sound s (t.cntStop pu) := .on h (fun h => .set h)

theorem Sound.cntResume (h : Sound s t) {pu} : Sound s (t.cntResume pu) := .on h (fun h => .set h)

theorem Sound.transfer (h : Sound s t) {pu leg} : Sound s (t.transfer pu leg) := .set h

theorem Sound.reloadShadows (h : Sound s t) {pu} : Sound s (t.reloadShadows pu) := by
  unfold State.reloadShadows
  extract_lets +onlyGivenNames s1
  have hs1 : Sound s s1 := .forN h (fun h => by
    extract_lets +onlyGivenNames u'
    have hu' : Sound s u' := .on h (fun h => .transfer h)
    exact .set (.set (.setb hu')))
  exact .setb hs1

theorem Sound.halfCount (h : Sound s t) {pu} : Sound s (t.halfCount pu) :=
  .ite (fun _ => h) (fun _ => .forN h (fun h => .on h (fun h => .incSat h)))

theorem Sound.reloadPoint (h : Sound s t) {pu peak} : Sound s (t.reloadPoint pu peak) :=
  .halfCount (.on h (fun h => .on (.reloadShadows h) (fun h => .bands h)))

theorem Sound.periodEnd (h : Sound s t) {a} : Sound s (t.periodEnd a) := by
  unfold State.periodEnd
  extract_lets +onlyGivenNames _ _ _ s2
  have hs2 : Sound s s2 := .set (.set (.set (.seti (.seti h))))
  exact .on hs2 (fun h => .set h)

theorem Sound.travValley (h : Sound s t) {a} : Sound s (t.travValley a) :=
  .ite (fun _ => .ite (fun _ => .setMode (.set h)) (fun _ => .set h)) (fun _ => .ite (fun _ => .set h) (fun _ => .ite (fun _ => .incSat h)
    (fun _ => .set h)))

theorem Sound.bsRefresh (h : Sound s t) {pu} : Sound s (t.bsRefresh pu) :=
  .ite (fun _ => .set h) (fun _ => .ite (fun _ => .set (.incSat h)) (fun _ => .set (.set h)))

theorem Sound.bridgeEdges (h : Sound s t) {pu t'} : Sound s (t.bridgeEdges pu t') :=
  .forN h (fun h => .ite (fun _ => h) (fun _ => .on (.on (.set (.set h)) (fun h => .set h)) (fun h => .set h)))

theorem Sound.auxKeep (h : Sound s t) {pu peak stamp} : Sound s (t.auxKeep pu peak stamp) := by
  unfold State.auxKeep
  exact .on (.forN h (fun h => .set h)) (fun h => by
    extract_lets +onlyGivenNames u' _
    have hu' : Sound s u' := .bridgeEdges h
    exact .set hu')

theorem Sound.ctrlStart (h : Sound s t) {pu} : Sound s (t.ctrlStart pu) := .set (.set h)

theorem Sound.reload1 (h : Sound s t) {pu peak stamp} : Sound s (t.reload1 pu peak stamp) := by
  unfold State.reload1
  extract_lets +onlyGivenNames s0 s1 _ s3
  have hs0 : Sound s s0 := .on h (fun h => .auxKeep h)
  have hs1 : Sound s s1 := .ite (fun _ => hs0) (fun _ => .set hs0)
  have hs3 : Sound s s3 := .on (.reloadPoint (.set (.set (.setb hs1)))) (fun h => .bsRefresh h)
  exact .ite (fun _ => by
    extract_lets +onlyGivenNames s4
    have hs4 : Sound s s4 := .on hs3 (fun h => .injUpdate (.ctrlStart h))
    exact .ite (fun _ => hs4) (fun _ => by
      extract_lets +onlyGivenNames s5 s6
      have hs5 : Sound s s5 := .travValley (.periodEnd hs4)
      have hs6 : Sound s s6 := .set hs5
      exact .on hs6 (fun h => .set h))) (fun _ => .ite (fun _ => hs3) (fun _ => by
    extract_lets +onlyGivenNames _ _ _ s4 _ s5 s6 _
    have hs4 : Sound s s4 := .on (.on hs3 (fun h => .set h)) (fun h => .set (.set (.pitAct h)))
    have hs5 : Sound s s5 := .on hs4 (fun h => .set h)
    have hs6 : Sound s s6 := .on hs5 (fun h => .set (.set (.set (.set (.on h (fun h => .axHalt h))))))
    exact .stagedIn (.playsForced (.on hs6 (fun h => .set h)))))

theorem Steps.execPuReload {pu peak stamp} : Steps s (Machine.execPuReload pu peak stamp s) := by
  unfold Machine.execPuReload
  exact .next (.ite (fun _ => .refl s) (fun _ => .on (.perfAdd (.reload1 (.refl s))) (fun h => by
    extract_lets +onlyGivenNames u'
    have hu' : Sound s u' := .reloadPoint (.set (.follow h))
    exact .on hu' (fun h => .ctrlStart h))))

theorem Sound.commit (h : Sound s t) {pu legs late} : Sound s (t.commit pu legs late) := by
  unfold State.commit
  extract_lets +onlyGivenNames _ s0 _
  have hs0 : Sound s s0 := .on h (fun h => .pitAct h)
  exact .foldl (.on hs0 (fun h => .perfAdd (.incSat h))) (fun h => .set (.on h (fun h => .set h)))

theorem Sound.cmpWrite (h : Sound s t) {pu leg value late} : Sound s (t.cmpWrite pu leg value late) := by
  unfold State.cmpWrite
  extract_lets +onlyGivenNames _ s1
  have hs1 : Sound s s1 := .set (.on h (fun h => .set h))
  exact .ite (fun _ => hs1) (fun _ => .commit hs1)

theorem Sound.commitGo (h : Sound s t) {pu late} : Sound s (t.commitGo pu late) :=
  .ite (fun _ => h) (fun _ => .on (.commit (.set h)) (fun h => .commit (.set h)))

theorem Steps.execCmpWrite {pu leg value late} : Steps s (Machine.execCmpWrite pu leg value late s) :=
  .next (.ite (fun _ => .refl s) (fun _ => .cmpWrite (.refl s)))

theorem Steps.execPuCommit {pu late} : Steps s (Machine.execPuCommit pu late s) :=
  .next (.ite (fun _ => .refl s) (fun _ => .commitGo (.refl s)))

theorem Sound.bridgeLeg (h : Sound s t) {pu leg high t'} : Sound s (t.bridgeLeg pu leg high t') := by
  unfold State.bridgeLeg
  extract_lets +onlyGivenNames _ _ s1
  have hs1 : Sound s s1 := .set (.set h)
  exact .ite (fun _ => hs1) (fun _ => .ite (fun _ => .set hs1) (fun _ => .set (.set hs1)))

theorem Steps.execPuCompare {pu leg stamp} : Steps s (Machine.execPuCompare pu leg stamp s) :=
  .next (.ite (fun _ => .refl s) (fun _ => .ite (fun _ => .on (.legTo (.refl s)) (fun h => .set h)) (fun _ => .ite (fun _ => .refl s)
    (fun _ => .bridgeLeg (.bridgeEdges (.refl s))))))

theorem Steps.execPuTrip {pu src unit stamp} : Steps s (Machine.execPuTrip pu src unit stamp s) :=
  .ite (fun _ => .next (.refl s)) (fun _ => .next (.on (.trip (.on (.on (.refl s) (fun h => .pitAct h)) (fun h => .dropEdges h)))
    (fun h => .trip h)))

theorem Steps.execCaptureClose {pu} : Steps s (Machine.execCaptureClose pu s) :=
  .next (.ite (fun _ => .tripEvent (.set (.set (.refl s)))) (fun _ => .refl s))

theorem Steps.execTripClear {pu mask quiet} : Steps s (Machine.execTripClear pu mask quiet s) := by
  unfold Machine.execTripClear
  exact .ite (fun _ => .next (.refl s)) (fun _ => by
    extract_lets +onlyGivenNames _ _ s1 _
    have hs1 : Sound s s1 := .forN (.on (.refl s) (fun h => .pitAct h)) (fun h => .ite (fun _ => h) (fun _ => .ite (fun _ => .setBit h)
      (fun _ => .set h)))
    exact .next (.setb (.setb hs1)))

theorem Steps.execFirstFaultRearm {pu} : Steps s (Machine.execFirstFaultRearm pu s) :=
  .next (.ite (fun _ => .refl s) (fun _ => .ite (fun _ => .refl s) (fun _ => .set (.tripEvent (.set (.refl s))))))

theorem Steps.execSwTrip {pu} : Steps s (Machine.execSwTrip pu s) :=
  .next (.ite (fun _ => .refl s) (fun _ => .ite (fun _ => .refl s) (fun _ => .tripNow (.refl s))))

theorem Sound.engHalt (h : Sound s t) : Sound s t.engHalt := by
  unfold State.engHalt
  exact .forN (.set (.forN h (fun h => .set (.set h)))) (fun h => by
    extract_lets +onlyGivenNames t1
    have ht1 : Sound s t1 := .set (.cntStop h)
    exact .ite (fun _ => .forN (.set ht1) (fun h => .set h)) (fun _ => .tripNow (.tripIn ht1)))

theorem Sound.engRelease (h : Sound s t) : Sound s t.engRelease := by
  unfold State.engRelease
  exact .ite (fun _ => h) (fun _ => by
    extract_lets +onlyGivenNames _ s2
    have hs2 : Sound s s2 := .forN (.forN (.set (.forN h (fun h => .set (.set (.set (.set h)))))) (fun h => .set h)) (fun h => .on h
      (fun h => .cntResume (.tripIn (.set (.set h)))))
    exact .on hs2 (fun h => .ssout (.lines (.set h))))

theorem Steps.execDebugHalt {belay} : Steps s (Machine.execDebugHalt belay s) :=
  .next (.ite (fun _ => .refl s) (fun _ => .on (.engHalt (.refl s)) (fun h => .ssout (.lines (.set h)))))

theorem Steps.execDebugRelease : Steps s (Machine.execDebugRelease s) := .next (.engRelease (.refl s))

theorem Steps.execPuFrz {pu value} : Steps s (Machine.execPuFrz pu value s) :=
  .next (.ite (fun _ => .refl s) (fun _ => .ite (fun _ => .refl s) (fun _ => .ite (fun _ => .set (.refl s)) (fun _ => .ite (fun _ => .set
    (.refl s)) (fun _ => .accessRefused (.refl s))))))

theorem Sound.frzEnd (h : Sound s t) {pu} : Sound s (t.frzEnd pu) := .on h (fun h => .set (.set (.set (.bridgeOff h))))

theorem Steps.execFrzAbort {pu} : Steps s (Machine.execFrzAbort pu s) := .next (.on (.refl s) (fun h => .frzEnd h))

theorem Steps.execPuPitArm {pu sel src} : Steps s (Machine.execPuPitArm pu sel src s) :=
  .next (.ite (fun _ => .refl s) (fun _ => .pitArm (.refl s) (.set (.set (.refl s)))))

theorem Steps.execPuStrobeLoss {pu} : Steps s (Machine.execPuStrobeLoss pu s) :=
  .next (.ite (fun _ => .refl s) (fun _ => .bridgeOff (.refl s)))

end

end Sys2Proof.Machine
end
/-!
What every operation keeps (O2, O4), the engines, the islands and the network: one lemma for each operation and each command, in the
order of the model.
-/
section
namespace Sys2Proof.Machine
set_option Elab.async false
open State

section
variable {s t u : State}

theorem Sound.pairFault (h : Sound s t) {p} : Sound s (t.pairFault p) := .ite (fun _ => h) (fun _ => .unsafeAxis (.set (.raise h)))

theorem Sound.pairCause (h : Sound s t) {p cause} : Sound s (t.pairCause p cause) := .pairFault (.set (.set h))

theorem Sound.engStop (h : Sound s t) {e flag} : Sound s (t.engStop e flag) := .on (.set (.set (.set (.raise h)))) (fun h => .pairFault h)

theorem Sound.engTaint (h : Sound s t) {e flag} : Sound s (t.engTaint e flag) := .pairCause (.engStop h)

theorem Sound.engSign (h : Sound s t) {e xs} : Sound s (t.engSign e xs) := .on h (fun h => .set h)

theorem Sound.engCount (h : Sound s t) {e event n} : Sound s (t.engCount e event n) := .ite (fun _ => .perfAdd h) (fun _ => .perfAdd h)

theorem Sound.engFetch (h : Sound s t) {e cycles} : Sound s (t.engFetch e cycles) := .engCount (.engCount (.set (.set (.engSign (.set h)))))

theorem Sound.engNext (h : Sound s t) {e} : Sound s (t.engNext e) := by
  unfold State.engNext
  dsimp only
  split
  · exact .ite (fun _ => .ite (fun _ => .records (.set h)) (fun _ => .records (.set h))) (fun _ => .set h)
  · exact .set h

theorem Sound.engRun {f : State → State} (h : Sound s t) (hf : ∀ {w}, Sound s w → Sound s (f w)) {e cycles} :
  Sound s (t.engRun e cycles f) :=
  .ite (fun _ => .engNext (hf (.engFetch h))) (fun _ => h)

theorem Sound.engJump {f : State → State} (h : Sound s t) (hf : ∀ {w}, Sound s w → Sound s (f w)) {e cycles} :
  Sound s (t.engJump e cycles f) :=
  .ite (fun _ => hf (.engFetch h)) (fun _ => h)

theorem Sound.putD (h : Sound s t) {e n v tag clamped ovf} : Sound s (t.putD e n v tag clamped ovf) := .set (.seti h)

theorem Sound.satD (h : Sound s t) {e n x tag ovf} : Sound s (t.satD e n x tag ovf) := .on (.putD h) (fun h => .raise h)

theorem Sound.satA (h : Sound s t) {e n x tag ovf} : Sound s (t.satA e n x tag ovf) := .on (.set (.seti h)) (fun h => .raise h)

theorem Sound.putC (h : Sound s t) {e n b tag} : Sound s (t.putC e n b tag) := .setb (.setb h)

theorem Sound.putP (h : Sound s t) {e n v tag} : Sound s (t.putP e n v tag) := .setb (.set h)

theorem Sound.engStore (h : Sound s t) {e p off v tag} : Sound s (t.engStore e p off v tag) :=
  .ite (fun _ => h) (fun _ => .ite (fun _ => .engTaint h) (fun _ => .setb (.seti (.on h (fun h => .engSign h)))))

theorem Sound.engGoto {f : State → State} (h : Sound s t) (hf : ∀ {w}, Sound s w → Sound s (f w)) {e t'} : Sound s (t.engGoto e t' f) :=
  .ite (fun _ => .engTaint h) (fun _ => .set (hf h))

theorem Sound.tolCount (h : Sound s t) {p n bad} : Sound s (t.tolCount p n bad) := by
  unfold State.tolCount
  extract_lets +onlyGivenNames s1
  have hs1 : Sound s s1 := .set h
  exact .ite (fun _ => .pairCause (.set hs1)) (fun _ => hs1)

theorem Sound.tolPeriod (h : Sound s t) {p judged bad} : Sound s (t.tolPeriod p judged bad) :=
  .on (.set (.set (.forN h (fun h => .ite (fun _ => .tolCount h) (fun _ => h))))) (fun h => .incSat (.incSat h))

theorem Sound.engDone (h : Sound s t) {e} : Sound s (t.engDone e) := by
  unfold State.engDone
  extract_lets +onlyGivenNames s1
  have hs1 : Sound s s1 := .on h (fun h => .set (.pitAct h))
  exact .ite (fun _ => hs1) (fun _ => .set hs1)

theorem Sound.dropOutputs (h : Sound s t) {es} : Sound s (t.dropOutputs es) := .foldl h (fun h => .set (.set h))

theorem Sound.overrun (h : Sound s t) {u'} : Sound s (t.overrun u') := by
  unfold State.overrun
  exact .ite (fun _ => h) (fun _ => by
    extract_lets +onlyGivenNames _ s2
    have hs2 : Sound s s2 := .dropOutputs (.foldl h (fun h => .incSat (.raise (.set h))))
    exact .ite (fun _ => hs2) (fun _ => .ite (fun _ => .pairCause hs2) (fun _ => .tolPeriod hs2)))

theorem Sound.closeWindow (h : Sound s t) {p} : Sound s (t.closeWindow p) := by
  unfold State.closeWindow
  exact .ite (fun _ => h) (fun _ => by
    extract_lets +onlyGivenNames _ s1 _ _ s2
    have hs1 : Sound s s1 := .on h (fun h => .set (.pitAct h))
    have hs2 : Sound s s2 := .set (.set (.set (.set hs1)))
    exact .ite (fun _ => hs2) (fun _ => .pairCause hs2))

theorem Sound.coefApply (h : Sound s t) {e} : Sound s (t.coefApply e) := by
  unfold State.coefApply
  extract_lets +onlyGivenNames s1
  have hs1 : Sound s s1 := .on h (fun h => by
    extract_lets +onlyGivenNames u'
    have hu' : Sound s u' := .forN h (fun h => .set (.set h))
    exact .set (.set hu'))
  exact .forN hs1 (fun h => .ite (fun _ => .inc (.set (.set h))) (fun _ => h))

theorem Sound.engBegin (h : Sound s t) {e mode chg} : Sound s (t.engBegin e mode chg) := by
  unfold State.engBegin
  extract_lets +onlyGivenNames _ s1 s2 _ _ s4 s5
  have hs1 : Sound s s1 := .inc (.coefApply h)
  have hs2 : Sound s s2 := .setb (.set (.set (.set hs1)))
  have hs4 : Sound s s4 := .set (.set (.set (.set (.set (.set (.set (.set (.set hs2))))))))
  have hs5 : Sound s s5 := .setb (.set (.set hs4))
  exact .records hs5

theorem Sound.periodStart (h : Sound s t) {u' reload} : Sound s (t.periodStart u' reload) :=
  .ite (fun _ => h) (fun _ => .foldl (.on (.ite (fun _ => .overrun h) (fun _ => .dropOutputs h)) (fun h => .closeWindow h))
    (fun h => .engBegin h))

theorem Sound.deliver (h : Sound s t) {a code v lateCmp lateRef} : Sound s (t.deliver a code v lateCmp lateRef) := by
  unfold State.deliver
  dsimp only
  split
  · exact .cmpWrite h
  · exact .cmpWrite h
  · exact .cmpWrite h
  · exact .commitGo h
  · exact .tripIn (.set (.ite (fun _ => .incSat (.set (.set h))) (fun _ => .set (.set h))))
  · exact .tripIn (.set (.ite (fun _ => .incSat (.set (.set h))) (fun _ => .set (.set h))))
  · exact .set h
  · exact .set h
  · exact .on h (fun h => .cmpWrite h)
  · exact .on h (fun h => .cmpWrite h)
  · exact .on h (fun h => .cmpWrite h)
  · exact h

theorem Sound.deliverAll (h : Sound s t) {e a lateCmp lateRef} : Sound s (t.deliverAll e a lateCmp lateRef) :=
  .foldl h (fun h => .deliver h)

theorem Sound.showOut (h : Sound s t) {src e} : Sound s (t.showOut src e) := .forN h (fun h => .on h (fun h => .set h))

theorem Sound.tolPiton (h : Sound s t) {p} : Sound s (t.tolPiton p) := by
  unfold State.tolPiton
  extract_lets +onlyGivenNames s1
  have hs1 : Sound s s1 := .on h (fun h => .set (.pitAct h))
  exact .on hs1 (fun h => .set (.seti h))

theorem Sound.pairRelease (h : Sound s t) {p lateCmp lateRef} : Sound s (t.pairRelease p lateCmp lateRef) := by
  unfold State.pairRelease
  exact .ite (fun _ => .dropOutputs (.pairCause h)) (fun _ => by
    extract_lets +onlyGivenNames s1 _ _ _ s2 _
    have hs1 : Sound s s1 := .tolPiton h
    have hs2 : Sound s s2 := .ite (fun _ => hs1) (fun _ => .deliverAll hs1)
    exact .set (.set (.tolPeriod (.ite (fun _ => hs2) (fun _ => .showOut (.showOut hs2))))))

theorem Sound.axBegin (h : Sound s t) {k} : Sound s (t.axBegin k) := by
  unfold State.axBegin
  extract_lets +onlyGivenNames s1
  have hs1 : Sound s s1 := .set (.engBegin h)
  exact .set hs1

theorem Sound.axEnd (h : Sound s t) : Sound s t.axEnd := by
  unfold State.axEnd
  extract_lets +onlyGivenNames _ s1 _ s3 _
  have hs1 : Sound s s1 := .forN h (fun h => .set h)
  have hs3 : Sound s s3 := .set (.set (.setb (.set hs1)))
  exact .ite (fun _ => hs3) (fun _ => .axBegin (.set hs3))

theorem Sound.axOverrun (h : Sound s t) : Sound s t.axOverrun := .ite (fun _ => .set (.axEnd (.incSat (.raise h)))) (fun _ => h)

theorem Sound.axTrigger (h : Sound s t) {k} : Sound s (t.axTrigger k) := by
  unfold State.axTrigger
  extract_lets +onlyGivenNames _ s1 s2 _ _
  have hs1 : Sound s s1 := .ite (fun _ => .axOverrun h) (fun _ => h)
  have hs2 : Sound s s2 := .set hs1
  exact .ite (fun _ => hs2) (fun _ => .ite (fun _ => .incSat (.raise hs2)) (fun _ => .ite (fun _ => .axBegin hs2) (fun _ => .set hs2)))

theorem Sound.axRelease (h : Sound s t) {k late} : Sound s (t.axRelease k late) := by
  unfold State.axRelease
  exact .ite (fun _ => h) (fun _ => by
    extract_lets +onlyGivenNames _ _ _ _ _ _ s3
    have hs3 : Sound s s3 := .forN (.on (.forN h (fun h => .ite (fun _ => .cmpWrite h) (fun _ => h))) (fun h => .commitGo h)) (fun h => .ite
      (fun _ => .set h) (fun _ => h))
    exact .ite (fun _ => .set hs3) (fun _ => .set hs3))

theorem Sound.lawEngine (h : Sound s t) {p e} : Sound s (t.lawEngine p e) := by
  unfold State.lawEngine
  extract_lets +onlyGivenNames s1
  have hs1 : Sound s s1 := .foldl h (fun h => by
    split
    · exact .setBit (.seti h)
    · exact h)
  exact .engDone (.set (.on hs1 (fun h => .raise h)))

theorem Sound.lawRun (h : Sound s t) {p} : Sound s (t.lawRun p) := by
  unfold State.lawRun
  extract_lets +onlyGivenNames _ s1
  have hs1 : Sound s s1 := .foldl h (fun h => .lawEngine h)
  exact .ite (fun _ => .set (.seti (.seti (.set hs1)))) (fun _ => .on hs1 (fun h => .set h))

theorem Steps.execCePeriodStart {unit reload} : Steps s (Machine.execCePeriodStart unit reload s) := .next (.periodStart (.refl s))

theorem Steps.execCeOverrun {unit} : Steps s (Machine.execCeOverrun unit s) :=
  .next (.ite (fun _ => .axOverrun (.refl s)) (fun _ => .overrun (.refl s)))

theorem Steps.execCeRelease {unit lateCmp lateRef} : Steps s (Machine.execCeRelease unit lateCmp lateRef s) := by
  unfold Machine.execCeRelease
  extract_lets +onlyGivenNames _ _ _ s'
  have hs' : Sound s s' := .ite (fun _ => .lawRun (.refl s)) (fun _ => .refl s)
  exact .next (.ite (fun _ => .axRelease hs') (fun _ => .ite (fun _ => .ite (fun _ => .pairRelease hs') (fun _ => .set (.showOut hs')))
    (fun _ => hs')))

theorem Steps.execCoefWrite {eng index word} : Steps s (Machine.execCoefWrite eng index word s) :=
  .next (.ite (fun _ => .refl s) (fun _ => .ite (fun _ => .set (.refl s)) (fun _ => .ite (fun _ => .set (.set (.set (.set (.refl s)))))
    (fun _ => .set (.set (.refl s))))))

theorem Steps.execCePitArm {eng sel} : Steps s (Machine.execCePitArm eng sel s) :=
  .next (.ite (fun _ => .refl s) (fun _ => .pitArm (.refl s) (.ite (fun _ => .refl s) (fun _ => .set (.refl s)))))

theorem Steps.execEngIllegal {eng} : Steps s (Machine.execEngIllegal eng s) := .next (.engJump (.refl s) (fun h => .engStop h))

theorem Steps.execEngMov {eng m} : Steps s (Machine.execEngMov eng m s) := by
  unfold Machine.execEngMov
  exact .next (.engRun (.refl s) (fun h => by
    split
    · exact .set (.set h)
    · exact .set (.set h)
    · exact .putP h
    · exact .putC h
    · exact .putP h
    · exact .putD h))

theorem Steps.execEngLdi {eng dst imm} : Steps s (Machine.execEngLdi eng dst imm s) := by
  unfold Machine.execEngLdi
  exact .next (.engRun (.refl s) (fun h => by
    split
    · exact .putD h
    · exact .putP h
    · exact .putC h))

theorem Steps.execEngLd {eng dst p coef} : Steps s (Machine.execEngLd eng dst p coef s) :=
  .next (.engRun (.refl s) (fun h => .ite (fun _ => .putD h) (fun _ => .putD h)))

theorem Steps.execEngSt {eng src p} : Steps s (Machine.execEngSt eng src p s) := .next (.engRun (.refl s) (fun h => .engStore h))

theorem Steps.execEngLda {eng dst src} : Steps s (Machine.execEngLda eng dst src s) := by
  unfold Machine.execEngLda
  exact .next (.engRun (.refl s) (fun h => by
    split
    · exact .satA h
    · exact .satA h))

theorem Steps.execEngSta {eng dst src} : Steps s (Machine.execEngSta eng dst src s) := .next (.engRun (.refl s) (fun h => .satD h))

theorem Steps.execEngStaw {eng src p} : Steps s (Machine.execEngStaw eng src p s) :=
  .next (.engRun (.refl s) (fun h => .engStore (.engStore h)))

theorem Sound.engBin (h : Sound s t) {e r op} : Sound s (t.engBin e r op) := by
  unfold State.engBin
  split
  · exact .satD h
  · exact .satA h

theorem Sound.engUn (h : Sound s t) {e r op} : Sound s (t.engUn e r op) := by
  unfold State.engUn
  split
  · exact .satD h
  · exact .satA h

theorem Sound.engD2 (h : Sound s t) {e dst x y op} : Sound s (t.engD2 e dst x y op) := .satD h

theorem Sound.engCmp (h : Sound s t) {e dst x y op} : Sound s (t.engCmp e dst x y op) := .putC h

theorem Sound.engPair (h : Sound s t) {e d1 d2 v tag} : Sound s (t.engPair e d1 d2 v tag) := .satD (.satD h)

theorem Steps.execEngAdd {eng r} : Steps s (Machine.execEngAdd eng r s) := .next (.engRun (.refl s) (fun h => .engBin h))

theorem Steps.execEngSub {eng r} : Steps s (Machine.execEngSub eng r s) := .next (.engRun (.refl s) (fun h => .engBin h))

theorem Steps.execEngNeg {eng r} : Steps s (Machine.execEngNeg eng r s) := .next (.engRun (.refl s) (fun h => .engUn h))

theorem Steps.execEngAbs {eng r} : Steps s (Machine.execEngAbs eng r s) := .next (.engRun (.refl s) (fun h => .engUn h))

theorem Steps.execEngShl {eng r n} : Steps s (Machine.execEngShl eng r n s) := .next (.engRun (.refl s) (fun h => .engUn h))

theorem Steps.execEngShr {eng r n} : Steps s (Machine.execEngShr eng r n s) := .next (.engRun (.refl s) (fun h => .engUn h))

theorem Steps.execEngMul {eng dst x y} : Steps s (Machine.execEngMul eng dst x y s) := .next (.engRun (.refl s) (fun h => .engD2 h))

theorem Steps.execEngMac {eng dst x y} : Steps s (Machine.execEngMac eng dst x y s) := .next (.engRun (.refl s) (fun h => .satA h))

theorem Steps.execEngMsu {eng dst x y} : Steps s (Machine.execEngMsu eng dst x y s) := .next (.engRun (.refl s) (fun h => .satA h))

theorem Steps.execEngCmplt {eng dst x y} : Steps s (Machine.execEngCmplt eng dst x y s) := .next (.engRun (.refl s) (fun h => .engCmp h))

theorem Steps.execEngCmple {eng dst x y} : Steps s (Machine.execEngCmple eng dst x y s) := .next (.engRun (.refl s) (fun h => .engCmp h))

theorem Steps.execEngCmpeq {eng dst x y} : Steps s (Machine.execEngCmpeq eng dst x y s) := .next (.engRun (.refl s) (fun h => .engCmp h))

theorem Steps.execEngSel {eng dst c x y} : Steps s (Machine.execEngSel eng dst c x y s) := .next (.engRun (.refl s) (fun h => .putD h))

theorem Steps.execEngMin {eng dst x y} : Steps s (Machine.execEngMin eng dst x y s) := .next (.engRun (.refl s) (fun h => .engD2 h))

theorem Steps.execEngMax {eng dst x y} : Steps s (Machine.execEngMax eng dst x y s) := .next (.engRun (.refl s) (fun h => .engD2 h))

theorem Steps.execEngClamp {eng dst x lo hi} : Steps s (Machine.execEngClamp eng dst x lo hi s) :=
  .next (.engRun (.refl s) (fun h => .putD h))

theorem Steps.execEngSincos {eng sin cos angle} : Steps s (Machine.execEngSincos eng sin cos angle s) :=
  .next (.engRun (.refl s) (fun h => .engPair h))

theorem Steps.execEngPark {eng dst1 dst2 x y angle} : Steps s (Machine.execEngPark eng dst1 dst2 x y angle s) :=
  .next (.engRun (.refl s) (fun h => .engPair h))

theorem Steps.execEngIpark {eng dst1 dst2 x y angle} : Steps s (Machine.execEngIpark eng dst1 dst2 x y angle s) :=
  .next (.engRun (.refl s) (fun h => .engPair h))

theorem Steps.execEngClarke {eng dst1 dst2 u' v w} : Steps s (Machine.execEngClarke eng dst1 dst2 u' v w s) :=
  .next (.engRun (.refl s) (fun h => .engPair h))

theorem Steps.execEngSqrt {eng dst x} : Steps s (Machine.execEngSqrt eng dst x s) := .next (.engRun (.refl s) (fun h => .satD h))

theorem Steps.execEngDiv {eng dst x y} : Steps s (Machine.execEngDiv eng dst x y s) :=
  .next (.engRun (.refl s) (fun h => .ite (fun _ => .raise (.raise (.putD h))) (fun _ => .satD h)))

theorem Sound.pidf (h : Sound s t) {e dst ps pc err meas ff} : Sound s (t.pidf e dst ps pc err meas ff) :=
  .on (.putD (.engStore (.engStore (.engStore (.engStore h))))) (fun h => .raise h)

theorem Sound.tableBad (h : Sound s t) {e bad} : Sound s (t.tableBad e bad) := by
  unfold State.tableBad
  split
  · exact h
  · exact .ite (fun _ => .engStop (.eccDed h)) (fun _ => .ite (fun _ => h) (fun _ => by
      extract_lets +onlyGivenNames s1
      have hs1 : Sound s s1 := .tripNow (.tblLock (.eccDed h))
      exact .on hs1 (fun h => .tripNow h)))

theorem Sound.ffs (h : Sound s t) {e dst slot} : Sound s (t.ffs e dst slot) := .on (.satD h) (fun h => .raise h)

theorem Steps.execEngPidf {eng dst ps pc err meas ff} : Steps s (Machine.execEngPidf eng dst ps pc err meas ff s) :=
  .next (.engRun (.refl s) (fun h => .pidf h))

theorem Steps.execEngTlu {eng dst handle x miss bad} : Steps s (Machine.execEngTlu eng dst handle x miss bad s) := by
  unfold Machine.execEngTlu
  exact .next (.engRun (.refl s) (fun h => by
    extract_lets +onlyGivenNames u' _
    have hu' : Sound s u' := .tableBad h
    exact .engCount (.set (.ite (fun _ => .set hu') (fun _ => .ite (fun _ => .setFree hu') (fun _ => .seti hu'))))))

theorem Steps.execEngFfs {eng dst slot miss bad} : Steps s (Machine.execEngFfs eng dst slot miss bad s) :=
  .next (.engRun (.refl s) (fun h => .engCount (.ffs (.on h (fun h => .tableBad h)))))

theorem Steps.execEngIn {eng dst port} : Steps s (Machine.execEngIn eng dst port s) := by
  unfold Machine.execEngIn
  exact .next (.engRun (.refl s) (fun h => by
    extract_lets +onlyGivenNames u'
    have hu' : Sound s u' := .putD h
    exact .ite (fun _ => .records hu') (fun _ => hu')))

theorem Steps.execEngOut {eng out src} : Steps s (Machine.execEngOut eng out src s) := by
  unfold Machine.execEngOut
  exact .next (.engRun (.refl s) (fun h => by
    dsimp only
    split
    · exact .on (.on (.setBit (.seti h)) (fun h => .raiseBit h)) (fun h => .raiseBit h)
    · exact .on (.on (.on (.setBit (.seti h)) (fun h => .raiseBit h)) (fun h => .raiseBit h)) (fun h => .raise h)))

theorem Steps.execEngOutrel {eng} : Steps s (Machine.execEngOutrel eng s) :=
  .next (.engRun (.refl s) (fun h => .on (.set (.set (.set h))) (fun h => .engCount (.incSat (.raise h)))))

theorem Steps.execEngBr {eng target} : Steps s (Machine.execEngBr eng target s) :=
  .next (.engJump (.refl s) (fun h => .engGoto h (fun h => h)))

theorem Steps.execEngBrc {eng c target} : Steps s (Machine.execEngBrc eng c target s) := by
  unfold Machine.execEngBrc
  exact .next (.engJump (.refl s) (fun h => by
    extract_lets +onlyGivenNames _ t1
    have ht1 : Sound s t1 := .on h (fun h => .pitAct h)
    exact .ite (fun _ => .engTaint ht1) (fun _ => .ite (fun _ => .set ht1) (fun _ => .engNext ht1))))

theorem Steps.execEngCall {eng target} : Steps s (Machine.execEngCall eng target s) :=
  .next (.engJump (.refl s) (fun h => .engGoto h (fun h => .records h)))

theorem Steps.execEngRet {eng} : Steps s (Machine.execEngRet eng s) := by
  unfold Machine.execEngRet
  exact .next (.engJump (.refl s) (fun h => by
    split
    · exact .records (.set h)
    · exact .setFree h))

theorem Steps.execEngLoop {eng count last} : Steps s (Machine.execEngLoop eng count last s) :=
  .next (.engJump (.refl s) (fun h => .ite (fun _ => .set h) (fun _ => .records (.set h))))

theorem Steps.execEngEnd {eng} : Steps s (Machine.execEngEnd eng s) := by
  unfold Machine.execEngEnd
  exact .next (.engJump (.refl s) (fun h => by
    extract_lets +onlyGivenNames t1
    have ht1 : Sound s t1 := .engDone h
    exact .ite (fun _ => ht1) (fun _ => .on (.set ht1) (fun h => .axEnd h))))

theorem Sound.axBridgeOff (h : Sound s t) {k} : Sound s (t.axBridgeOff k) := .bridgeOff h

theorem Sound.axStop (h : Sound s t) {k} : Sound s (t.axStop k) := .axHalt h

theorem Sound.axDisable (h : Sound s t) {k} : Sound s (t.axDisable k) := .set (.axStop h)

theorem Sound.axStart (h : Sound s t) {k} : Sound s (t.axStart k) := .set (.set (.set (.set (.set (.setBit (.set (.axBridgeOff h)))))))

theorem Sound.axStepTo (h : Sound s t) {k st} : Sound s (t.axStepTo k st) := .set (.set h)

theorem Sound.axRamp (h : Sound s t) {k} : Sound s (t.axRamp k) := .seti (.seti h)

theorem Sound.axSpeedLoop (h : Sound s t) {k} : Sound s (t.axSpeedLoop k).1 := .pair (.on h (fun h => .set h))

theorem Sound.axReference (h : Sound s t) {k} : Sound s (t.axReference k) := by
  unfold State.axReference
  extract_lets +onlyGivenNames s0
  have hs0 : Sound s s0 := .seti h
  exact .ite (fun _ => .set hs0) (fun _ => .ite (fun _ => .seti hs0) (fun _ => .seti (.axSpeedLoop hs0)))

theorem Sound.axSource (h : Sound s t) {k n} : Sound s (t.axSource k n) := .set (.set h)

theorem Sound.axHandover (h : Sound s t) {k} : Sound s (t.axHandover k) := by
  unfold State.axHandover
  extract_lets +onlyGivenNames _ _ _ _ s1 _ _
  have hs1 : Sound s s1 := .set h
  exact .ite (fun _ => .set hs1) (fun _ => .ite (fun _ => .ite (fun _ => .set (.axInjBegin hs1)) (fun _ => .set (.set (.set hs1))))
    (fun _ => hs1))

theorem Sound.axUpdate (h : Sound s t) {k} : Sound s (t.axUpdate k) := by
  unfold State.axUpdate
  exact .ite (fun _ => .ite (fun _ => .axStart h) (fun _ => h)) (fun _ => .ite (fun _ => .ite (fun _ => .axStop h) (fun _ => h))
    (fun _ => .ite (fun _ => .axStop h) (fun _ => by
    extract_lets +onlyGivenNames _ s2
    have hs2 : Sound s s2 := .axHandover (.on (.on h (fun h => .set h)) (fun h => .axRamp h))
    exact .ite (fun _ => .ite (fun _ => .axStop hs2) (fun _ => hs2)) (fun _ => .axSource hs2))))

theorem Sound.axVlimSet (h : Sound s t) {k} : Sound s (t.axVlimSet k) := .raise (.set h)

theorem Sound.axBootstrap (h : Sound s t) {k ph code} : Sound s (t.axBootstrap k ph code) := by
  unfold State.axBootstrap
  extract_lets +onlyGivenNames s1
  have hs1 : Sound s s1 := .set h
  exact .ite (fun _ => .raise (.set (.set (.set (.setBit hs1))))) (fun _ => .ite (fun _ => by
    extract_lets +onlyGivenNames s2
    have hs2 : Sound s s2 := .setBit hs1
    exact .on hs2 (fun h => .set h)) (fun _ => hs1))

theorem Sound.axOcLevel (h : Sound s t) {k} : Sound s (t.axOcLevel k) := .tripIn h

theorem Steps.execAxPeriodStart {ch peak u' v w} : Steps s (Machine.execAxPeriodStart ch peak u' v w s) :=
  .next (.ite (fun _ => .refl s) (fun _ => .axTrigger (.axVoltLimit (.axReference (.axUpdate (.axEstimate (.thrTake (.on (.refl s)
    (fun h => .axRms (.axSamples h))))))))))

theorem Steps.execAuxOc {ch ph high amps} : Steps s (Machine.execAuxOc ch ph high amps s) := .next (.axOcLevel (.setBit (.refl s)))

theorem Steps.execVauxSample {code} : Steps s (Machine.execVauxSample code s) := by
  unfold Machine.execVauxSample
  extract_lets +onlyGivenNames _ _ s1 s2 s3
  have hs1 : Sound s s1 := .set (.refl s)
  have hs2 : Sound s s2 := .ite (fun _ => .forN (.set hs1) (fun h => by
    extract_lets +onlyGivenNames t1
    have ht1 : Sound s t1 := .raise h
    exact .on ht1 (fun h => .set (.axStop h)))) (fun _ => .ite (fun _ => .set (.set hs1)) (fun _ => hs1))
  have hs3 : Sound s s3 := .shSupply hs2
  exact .next (.ite (fun _ => .forN (.set hs3) (fun h => .seti (.raise h))) (fun _ => .ite (fun _ => .forN (.set hs3) (fun h => .set h))
    (fun _ => hs3)))

theorem Steps.execVauxRestart {ch} : Steps s (Machine.execVauxRestart ch s) := .next (.ite (fun _ => .axStart (.refl s)) (fun _ => .refl s))

theorem Steps.execSpLost {ch} : Steps s (Machine.execSpLost ch s) := by
  unfold Machine.execSpLost
  exact .next (.ite (fun _ => .refl s) (fun _ => by
    extract_lets +onlyGivenNames s1
    have hs1 : Sound s s1 := .raise (.set (.refl s))
    exact .ite (fun _ => .axStop hs1) (fun _ => .on hs1 (fun h => .set h))))

theorem Steps.execAuxCatch {ch nodes} : Steps s (Machine.execAuxCatch ch nodes s) :=
  .next (.ite (fun _ => .refl s) (fun _ => .ite (fun _ => .set (.set (.forN (.axStepTo (.axSource (.refl s))) (fun h => .set h))))
    (fun _ => .ite (fun _ => .seti (.seti (.seti (.set (.axSeed (.axSource (.refl s))))))) (fun _ => .set (.refl s)))))

theorem Steps.execStartFail {ch} : Steps s (Machine.execStartFail ch s) :=
  .next (.ite (fun _ => .axDisable (.raise (.refl s))) (fun _ => .refl s))

theorem Steps.execAuxAlignEnd {ch} : Steps s (Machine.execAuxAlignEnd ch s) :=
  .next (.ite (fun _ => .refl s) (fun _ => .ite (fun _ => .axDisable (.raise (.refl s))) (fun _ => .ite (fun _ => .axInjBegin (.axStepTo
    (.refl s))) (fun _ => .axSeed (.axStepTo (.refl s))))))

theorem Sound.axPolStart (h : Sound s t) {k rep} : Sound s (t.axPolStart k rep) := .axPolPulse (.set (.set (.set (.set h))))

theorem Sound.axPolFail (h : Sound s t) {k} : Sound s (t.axPolFail k) := .axDisable (.set (.raise h))

theorem Sound.axPolDone (h : Sound s t) {k flip} : Sound s (t.axPolDone k flip) := by
  unfold State.axPolDone
  extract_lets +onlyGivenNames _ t'
  have ht' : Sound s t' := .set (.set (.set (.set h)))
  exact .axSeed ht'

theorem Sound.axPolJudge (h : Sound s t) {k} : Sound s (t.axPolJudge k) :=
  .ite (fun _ => .axPolDone h) (fun _ => .ite (fun _ => .axPolDone h) (fun _ => .ite (fun _ => .axPolFail h) (fun _ => .axPolStart h)))

theorem Steps.execAuxInjConv {ch} : Steps s (Machine.execAuxInjConv ch s) :=
  .next (.ite (fun _ => .axPolStart (.axStepTo (.refl s))) (fun _ => .refl s))

theorem Steps.execAuxPolPulseEnd {ch} : Steps s (Machine.execAuxPolPulseEnd ch s) := by
  unfold Machine.execAuxPolPulseEnd
  exact .next (.ite (fun _ => .refl s) (fun _ => .ite (fun _ => .axPolFail (.refl s)) (fun _ => .ite (fun _ => .refl s) (fun _ => by
    extract_lets +onlyGivenNames _ s1
    have hs1 : Sound s s1 := .inc (.set (.refl s))
    exact .ite (fun _ => .axPolPulse hs1) (fun _ => .axPolJudge hs1)))))

theorem Steps.execObsSlow {ch} : Steps s (Machine.execObsSlow ch s) := .next (.on (.refl s) (fun h => .raise h))

theorem Steps.execAuxVlim {ch} : Steps s (Machine.execAuxVlim ch s) := .next (.on (.refl s) (fun h => .axVlimSet h))

theorem Steps.execVlimClear {ch} : Steps s (Machine.execVlimClear ch s) := .next (.on (.refl s) (fun h => .set (.set h)))

theorem Steps.execBsUv {ch ph code} : Steps s (Machine.execBsUv ch ph code s) := by
  unfold Machine.execBsUv
  extract_lets +onlyGivenNames _ s1 _
  have hs1 : Sound s s1 := .on (.refl s) (fun h => .set (.pitAct h))
  exact .next (.axBootstrap (.on hs1 (fun h => .set h)))

theorem Steps.execBsHoldEnd {ch} : Steps s (Machine.execBsHoldEnd ch s) := .next (.ite (fun _ => .refl s) (fun _ => .set (.refl s)))

theorem Steps.execAxPitArm {ch ph sel} : Steps s (Machine.execAxPitArm ch ph sel s) := by
  unfold Machine.execAxPitArm
  extract_lets +onlyGivenNames _ _ _ s2
  have hs2 : Sound s s2 := .pitArm (.refl s) (.set (.set (.set (.refl s))))
  exact .next (.ite (fun _ => .refl s) (fun _ => .ite (fun _ => .axOcLevel (.setBit (.set (.set (.pitAct hs2))))) (fun _ => hs2)))

theorem Sound.closeHostRole (h : Sound s t) : Sound s t.closeHostRole := .set (.set (.set (.set h)))

theorem Steps.execPerstn : Steps s (Machine.execPerstn s) := .next (.closeHostRole (.set (.stopRings (.refl s))))

theorem Steps.execFunctionLevelReset : Steps s (Machine.execFunctionLevelReset s) := by
  unfold Machine.execFunctionLevelReset
  extract_lets +onlyGivenNames t'
  have ht' : Sound s t' := .closeHostRole (.stopRings (.refl s))
  exact .next (.set (.set (.set (.dropCells ht'))))

theorem Steps.execLinkDown : Steps s (Machine.execLinkDown s) := .next (.closeHostRole (.set (.stopRings (.refl s))))

theorem Steps.execBusMasterClear : Steps s (Machine.execBusMasterClear s) := .next (.stopRings (.refl s))

theorem Steps.execPcieLinkUp {gen lanes mps mrrs} : Steps s (Machine.execPcieLinkUp gen lanes mps mrrs s) :=
  .next (.on (.send (.set (.set (.set (.refl s))))) (fun h => .event h))

theorem Steps.execSizeWrite {ring size} : Steps s (Machine.execSizeWrite ring size s) :=
  .next (.ite (fun _ => .refl s) (fun _ => .ite (fun _ => .accessRefused (.refl s)) (fun _ => .ite (fun _ => .set (.refl s)) (fun _ => .ite
    (fun _ => .set (.set (.refl s))) (fun _ => .ringRestart (.refl s))))))

theorem Steps.execDoorbell {ring tail highOnly} : Steps s (Machine.execDoorbell ring tail highOnly s) :=
  .next (.ite (fun _ => .refl s) (fun _ => .ite (fun _ => .ringSums (.set (.refl s))) (fun _ => .set (.refl s))))

theorem Steps.execDescFetch {ring d} : Steps s (Machine.execDescFetch ring d s) := by
  unfold Machine.execDescFetch
  extract_lets +onlyGivenNames _ p s1
  have hp : Sound s p := .preempted (.ridgeDrain (.refl s))
  have hs1 : Sound s s1 := .ite (fun _ => hp) (fun _ => .refl s)
  exact .next (.ite (fun _ => hs1) (fun _ => by
    extract_lets +onlyGivenNames s2
    have hs2 : Sound s s2 := .set (.set (.records hs1))
    split
    · exact .complete hs2
    · exact .ite (fun _ => .set (.records hs2)) (fun _ => .ite (fun _ => .canDeliver hs2) (fun _ => .elim hs2 (.hostRead hs2)))))

theorem Steps.execDmaError {ring payload} : Steps s (Machine.execDmaError ring payload s) :=
  .next (.ite (fun _ => .ite (fun _ => .complete (.refl s)) (fun _ => .refl s)) (fun _ => .ite (fun _ => .haltRing (.refl s))
    (fun _ => .refl s)))

theorem Steps.execIrqTimer {ring} : Steps s (Machine.execIrqTimer ring s) :=
  .next (.ite (fun _ => .ringSignal (.refl s)) (fun _ => .refl s))

theorem Sound.dropRecord (h : Sound s t) {n ctr} : Sound s (t.dropRecord n ctr) := .inc (.incSat (.incSat h))

theorem Steps.execTelemetryRecord {ring bankFree} : Steps s (Machine.execTelemetryRecord ring bankFree s) :=
  .next (.ite (fun _ => .refl s) (fun _ => .ite (fun _ => .dropRecord (.refl s)) (fun _ => .ite (fun _ => .dropRecord (.refl s))
    (fun _ => .set (.writeRecord (.refl s))))))

theorem Steps.execEventRecord {cls} : Steps s (Machine.execEventRecord cls s) := by
  unfold Machine.execEventRecord
  refine .next ?_
  split
  · exact .refl s
  next e => exact .ite (fun _ => .set (.writeRecord (.dequeue (.refl s) (by rw [e, List.length_cons]; omega)))) (fun _ => .refl s)

theorem Sound.readout (h : Sound s t) {d entry store} : Sound s (t.readout d entry store) :=
  .ite (fun _ => .complete h) (fun _ => .complete (.send h))

theorem Steps.execEventStore : Steps s (Machine.execEventStore s) := by
  unfold Machine.execEventStore
  exact .next (by
    split
    · exact .refl s
    · exact .readout (.refl s))

theorem Steps.execChangeLog : Steps s (Machine.execChangeLog s) := by
  unfold Machine.execChangeLog
  exact .next (by
    split
    · exact .refl s
    · exact .ite (fun _ => .readout (.refl s)) (fun _ => .readout (.refl s)))

theorem Sound.canPlace (h : Sound s t) {n c b shadow f} : Sound s (t.canPlace n c b shadow f) := by
  unfold State.canPlace
  extract_lets +onlyGivenNames s1
  have hs1 : Sound s s1 := .canPut h
  exact .complete (.ite (fun _ => hs1) (fun _ => .canChoose hs1))

theorem Sound.cancelDone (h : Sound s t) {c} : Sound s (t.cancelDone c) := .foldl h (fun h => .on h (fun h => .complete (.set (.set h))))

theorem Sound.frameGone (h : Sound s t) {c b add} : Sound s (t.frameGone c b add) :=
  .cancelDone (.canShift (.foldl h (fun h => .on h (fun h => .set (.set h)))))

theorem Sound.cancelEnd (h : Sound s t) {c} : Sound s (t.cancelEnd c) := .forN h (fun h => .on h (fun h => .frameGone h))

theorem Sound.canInit (h : Sound s t) {c} : Sound s (t.canInit c) := .cancelEnd (.set (.set h))

theorem Sound.canLeaveInit (h : Sound s t) {c} : Sound s (t.canLeaveInit c) := .on h (fun h => .set h)

theorem Sound.canMode (h : Sound s t) {c} : Sound s (t.canMode c) := .on h (fun h => .canChoose h)

theorem Sound.canState (h : Sound s t) {c} : Sound s (t.canState c) := .ite (fun _ => .set h) (fun _ => h)

theorem Sound.canBusOff (h : Sound s t) {c} : Sound s (t.canBusOff c) := .cancelEnd (.set (.set (.set (.set (.raise h)))))

theorem Steps.execCanSend {ring w2 w3 data} : Steps s (Machine.execCanSend ring w2 w3 data s) := by
  unfold Machine.execCanSend
  exact .next (by
    split
    · exact .refl s
    · exact .ite (fun _ => .complete (.refl s)) (fun _ => .ite (fun _ => by
        split
        · exact .canPlace (.refl s)
        · exact .complete (.refl s)) (fun _ => .ite (fun _ => .complete (.refl s)) (fun _ => .ite (fun _ => .complete (.refl s))
            (fun _ => .ite (fun _ => .canPlace (.refl s)) (fun _ => .ite (fun _ => .canPlace (.refl s)) (fun _ => .complete (.refl s))))))))

theorem Steps.execCanCancel {ring onBus} : Steps s (Machine.execCanCancel ring onBus s) := by
  unfold Machine.execCanCancel
  exact .next (by
    split
    · exact .refl s
    · exact .ite (fun _ => .complete (.refl s)) (fun _ => by
        extract_lets +onlyGivenNames _ _ s1
        have hs1 : Sound s s1 := .canDrop (.refl s)
        exact .ite (fun _ => .set (.set (.set hs1))) (fun _ => .complete (.cancelDone (.on (.canDrop hs1) (fun h => .canChoose h))))))

theorem Steps.execCanJoin {ctrl} : Steps s (Machine.execCanJoin ctrl s) :=
  .next (.ite (fun _ => .canChoose (.canState (.set (.refl s)))) (fun _ => .refl s))

theorem Sound.canAttemptBad (h : Sound s t) {c lec inData} : Sound s (t.canAttemptBad c lec inData) := by
  unfold State.canAttemptBad
  extract_lets +onlyGivenNames _ _ s0 s1 _ s2 _ s3 s4
  have hs0 : Sound s s0 := .on h (fun h => .set h)
  have hs1 : Sound s s1 := .incSat (.set hs0)
  have hs2 : Sound s s2 := .ite (fun _ => hs1) (fun _ => .set hs1)
  have hs3 : Sound s s3 := .ite (fun _ => .set (.set (.incSat hs2))) (fun _ => .ite (fun _ => .set (.set (.set hs2))) (fun _ => hs2))
  have hs4 : Sound s s4 := .ite (fun _ => hs0) (fun _ => .canState hs3)
  exact .canChoose (.ite (fun _ => .frameGone hs4) (fun _ => hs4))

theorem Sound.canPitons (h : Sound s t) {c} : Sound s (t.canPitons c) := by
  unfold State.canPitons
  extract_lets +onlyGivenNames _ s1
  have hs1 : Sound s s1 := .on h (fun h => .set (.pitAct h))
  exact .on hs1 (fun h => .set (.pitAct h))

theorem Sound.canForced (h : Sound s t) {c inData} : Sound s ((t.canForced c inData).getD t) :=
  .iteGetD (fun _ => .getD_none h) (fun _ => .iteGetD (fun _ => .getD_some (.canAttemptBad (.set h)))
    (fun _ => .iteGetD (fun _ => .getD_some (.canAttemptBad (.set h))) (fun _ => .getD_none h)))

theorem Steps.execCanTxDone {ctrl stamp} : Steps s (Machine.execCanTxDone ctrl stamp s) := by
  unfold Machine.execCanTxDone
  refine .next (.ite (fun _ => .refl s) (fun _ => ?_))
  extract_lets +onlyGivenNames s0
  have hs0 : Sound s s0 := .canPitons (.refl s)
  split
  next e => exact .of_getD (.canForced hs0) e
  · extract_lets +onlyGivenNames b
    split
    · exact hs0
    · extract_lets +onlyGivenNames _ s1 s2 s3
      have hs1 : Sound s s1 := .set (.set (.incSat hs0))
      have hs2 : Sound s s2 := .send (.set (.set (.set hs1)))
      have hs3 : Sound s s3 := .on hs2 (fun h => .canQueue h)
      exact .canChoose (.canState (.frameGone hs3))

theorem Steps.execCanTxError {ctrl lec inData} : Steps s (Machine.execCanTxError ctrl lec inData s) := by
  unfold Machine.execCanTxError
  refine .next (.ite (fun _ => .refl s) (fun _ => ?_))
  extract_lets +onlyGivenNames s0 forced
  have hs0 : Sound s s0 := .on (.refl s) (fun h => .canPitons h)
  have h : Sound s (s0.canAttemptBad ctrl lec inData) := .canAttemptBad hs0
  rcases e : forced with _ | w
  · exact h
  · exact .of_getD (t := s0) (.iteGetD (fun _ => .canForced hs0) (fun _ => .getD_none hs0)) e

theorem Sound.canRxBad (h : Sound s t) {c lec eight} : Sound s (t.canRxBad c lec eight) :=
  .canChoose (.canState (.on (.set (.incSat (.set h))) (fun h => .set h)))

theorem Steps.execCanRxError {ctrl lec eight} : Steps s (Machine.execCanRxError ctrl lec eight s) :=
  .next (.ite (fun _ => .refl s) (fun _ => .canRxBad (.refl s)))

theorem Steps.execIdCollision {ctrl} : Steps s (Machine.execIdCollision ctrl s) :=
  .next (.ite (fun _ => .refl s) (fun _ => .raiseArg (.set (.set (.refl s)))))

theorem Steps.execCanAlone {ctrl} : Steps s (Machine.execCanAlone ctrl s) :=
  .next (.ite (fun _ => .refl s) (fun _ => .raiseArg (.set (.refl s))))

theorem Steps.execBusOff {ctrl} : Steps s (Machine.execBusOff ctrl s) := .next (.ite (fun _ => .canBusOff (.refl s)) (fun _ => .refl s))

theorem Steps.execBoRecover {ctrl} : Steps s (Machine.execBoRecover ctrl s) :=
  .next (.ite (fun _ => .refl s) (fun _ => .ite (fun _ => .set (.set (.refl s))) (fun _ => .refl s)))

theorem Steps.execCanRecovered {ctrl} : Steps s (Machine.execCanRecovered ctrl s) :=
  .next (.ite (fun _ => .canChoose (.set (.set (.set (.set (.set (.set (.refl s)))))))) (fun _ => .refl s))

theorem Steps.execDomTmo {ctrl} : Steps s (Machine.execDomTmo ctrl s) :=
  .next (.ite (fun _ => .canBusOff (.raise (.refl s))) (fun _ => .refl s))

theorem Sound.canException (h : Sound s t) {c} : Sound s (t.canException c) := .ite (fun _ => .set (.set (.raise h))) (fun _ => .canRxBad h)

theorem Steps.execCanPex {ctrl tdcv} : Steps s (Machine.execCanPex ctrl tdcv s) := by
  unfold Machine.execCanPex
  exact .next (by
    split
    · exact .ite (fun _ => .on (.raise (.refl s)) (fun h => .canAttemptBad h)) (fun _ => .set (.refl s))
    · exact .ite (fun _ => .refl s) (fun _ => .canException (.refl s)))

theorem Sound.canRecGood (h : Sound s t) {c} : Sound s (t.canRecGood c) :=
  .ite (fun _ => h) (fun _ => .ite (fun _ => .records (.set (.set h))) (fun _ => .set h))

theorem Steps.execCanRx {ctrl frame stamp} : Steps s (Machine.execCanRx ctrl frame stamp s) := by
  unfold Machine.execCanRx
  exact .next (.ite (fun _ => .refl s) (fun _ => .ite (fun _ => .canException (.refl s)) (fun _ => by
    extract_lets +onlyGivenNames s1 _
    have hs1 : Sound s s1 := .perfAdd (.canChoose (.canState (.canRecGood (.refl s))))
    exact .ite (fun _ => .records hs1) (fun _ => by
      split
      · exact .ite (fun _ => .canQueue hs1) (fun _ => hs1)
      · exact .ite (fun _ => .canQueue hs1) (fun _ => hs1)))))

theorem Sound.canStop (h : Sound s t) {c} : Sound s (t.canStop c) :=
  .cancelDone (.forN (.records h) (fun h => .on h (fun h => .frameGone h)))

theorem Steps.execCanPitArm {ctrl buf sel} : Steps s (Machine.execCanPitArm ctrl buf sel s) :=
  .next (.ite (fun _ => .refl s) (fun _ => .pitArm (.refl s) (.set (.set (.refl s)))))

theorem Sound.ethDeliver (h : Sound s t) {p f stamp} : Sound s (t.ethDeliver p f stamp) :=
  .ite (fun _ => .complete (.send h)) (fun _ => .incSat h)

theorem Sound.secSeen (h : Sound s t) {p tag} : Sound s (t.secSeen p tag) := by
  unfold State.secSeen
  split
  · exact h
  · exact .set h

theorem Sound.pnExh (h : Sound s t) {p} : Sound s (t.pnExh p) := .setb h

theorem Sound.txAn (h : Sound s t) {p an} : Sound s (t.txAn p an) := .ite (fun _ => h) (fun _ => .pnExh (.set (.set (.set h))))

theorem Sound.pnNext (h : Sound s t) {p} : Sound s (t.pnNext p) := by
  unfold State.pnNext
  extract_lets +onlyGivenNames _ _ _ s1
  have hs1 : Sound s s1 := .set h
  exact .ite (fun _ => .on hs1 (fun h => .set h)) (fun _ => .ite (fun _ => hs1) (fun _ => .on (.on hs1 (fun h => .raise h))
    (fun h => .set h)))

theorem Steps.execEthSend {frame} : Steps s (Machine.execEthSend frame s) := by
  unfold Machine.execEthSend
  exact .next (by
    split
    · exact .refl s
    · exact .ite (fun _ => .complete (.refl s)) (fun _ => .ite (fun _ => .refl s) (fun _ => .ite (fun _ => .complete (.refl s))
        (fun _ => .records (.set (.refl s))))))

theorem Steps.execEthTxDone {port src stamp} : Steps s (Machine.execEthTxDone port src stamp s) := by
  unfold Machine.execEthTxDone
  exact .next (by
    split
    · exact .on (.refl s) (fun h => .pnNext (.set h))
    · exact .on (.refl s) (fun h => .pnNext (.set h))
    · exact .refl s
    · exact .ite (fun _ => .refl s) (fun _ => .complete (.on (.send (.records (.refl s))) (fun h => .pnNext h))))

theorem Steps.execEthRx {port frame fcsOk tag stamp} : Steps s (Machine.execEthRx port frame fcsOk tag stamp s) := by
  unfold Machine.execEthRx
  extract_lets +onlyGivenNames _ _ _ s'
  have hs' : Sound s s' := .on (.refl s) (fun h => .secSeen h)
  exact .next (.ite (fun _ => .refl s) (fun _ => .ite (fun _ => .incSat (.refl s)) (fun _ => .ite (fun _ => .incSat (.refl s))
    (fun _ => .ite (fun _ => .incSat (.refl s)) (fun _ => .ite (fun _ => hs') (fun _ => .ite (fun _ => .ite (fun _ => .ethDeliver hs')
      (fun _ => hs')) (fun _ => .ite (fun _ => .records hs') (fun _ => .ethDeliver hs'))))))))

theorem Sound.ethStop (h : Sound s t) : Sound s t.ethStop := .ite (fun _ => h) (fun _ => .complete (.records h))

theorem Sound.ethLink (h : Sound s t) {p up} : Sound s (t.ethLink p up) := by
  unfold State.ethLink
  exact .ite (fun _ => h) (fun _ => by
    extract_lets +onlyGivenNames _ s2
    have hs2 : Sound s s2 := .event (.on (.setb h) (fun h => .incSat h))
    exact .ite (fun _ => .complete (.records hs2)) (fun _ => hs2))

theorem Steps.execEthLinkChange {port up sqi} : Steps s (Machine.execEthLinkChange port up sqi s) := by
  unfold Machine.execEthLinkChange
  extract_lets +onlyGivenNames _ s0
  have hs0 : Sound s s0 := .set (.refl s)
  exact .next (.ite (fun _ => hs0) (fun _ => .ethLink hs0))

theorem Steps.execMsFault {port} : Steps s (Machine.execMsFault port s) := .next (.ite (fun _ => .raise (.refl s)) (fun _ => .refl s))

theorem Steps.execPdelayRx {port stamp} : Steps s (Machine.execPdelayRx port stamp s) :=
  .next (.ite (fun _ => .send (.refl s)) (fun _ => .refl s))

end

end Sys2Proof.Machine
end
/-!
What every operation keeps (O2, O4), the clocks, resets and keys: one lemma for each operation and each command, in the
order of the model.
-/
section
namespace Sys2Proof.Machine
set_option Elab.async false
open State

section
variable {s t u : State}

theorem Sound.toReset (h : Sound s t) {r i j} : Sound s (t.toReset r i j) := .set h

theorem Sound.rowReset (h : Sound s t) {r i} : Sound s (t.rowReset r i) := .forN h (fun h => .toReset h)

theorem Sound.islandClear (h : Sound s t) {i} : Sound s (t.islandClear i) := .foldl (.foldl h (fun h => .toReset h)) (fun h => .rowReset h)

theorem Sound.proxyClear (h : Sound s t) {i} : Sound s (t.proxyClear i) :=
  .foldl (.setBit (.set (.foldl h (fun h => .toReset h)))) (fun h => .rowReset h)

theorem Sound.switchOff (h : Sound s t) {i} : Sound s (t.switchOff i) := .set (.set (.set (.set (.set h))))

theorem Sound.softTurnOff (h : Sound s t) {i going} : Sound s (t.softTurnOff i going) := .switchOff (.on h (fun h => .send h))

theorem Sound.islandFlag (h : Sound s t) {i bit} : Sound s (t.islandFlag i bit) := .setBit h

theorem Sound.badCmd (h : Sound s t) {i} : Sound s (t.badCmd i) := .incSat (.islandFlag h)

theorem Sound.leaveSafe (h : Sound s t) {i} : Sound s (t.leaveSafe i) := .set (.softTurnOff h)

theorem Sound.contra (h : Sound s t) {i on} : Sound s (t.contra i on) := .on h (fun h => .islandFlag h)

theorem Sound.govern (h : Sound s t) {i} : Sound s (t.govern i) := by
  unfold State.govern
  exact .ite (fun _ => h) (fun _ => .ite (fun _ => .setb (.set (.set h))) (fun _ => by
    split
    · exact .ite (fun _ => .leaveSafe h) (fun _ => h)
    · exact .ite (fun _ => .set (.softTurnOff (.contra h))) (fun _ => .ite (fun _ => h) (fun _ => .leaveSafe (.contra h)))
    · extract_lets +onlyGivenNames t'
      have ht' : Sound s t' := .set (.contra h)
      exact .ite (fun _ => .setb (.set (.set ht'))) (fun _ => .softTurnOff ht')))

theorem Sound.runEdge (h : Sound s t) {i on slot start dvdt} : Sound s (t.runEdge i on slot start dvdt) := by
  unfold State.runEdge
  extract_lets +onlyGivenNames _ _ _ _ _ _ _ _ _ _ _ _ s1 _ s3
  have hs1 : Sound s s1 := .send (.set (.on (.on h (fun h => .pitAct h)) (fun h => .raise h)))
  have hs3 : Sound s s3 := .incSat (.seti (.seti (.set (.setb (.setb hs1)))))
  exact .ite (fun _ => .incSat (.incSat (.islandFlag hs3))) (fun _ => .set (.set hs3))

theorem Sound.islandCause (h : Sound s t) {i bit} : Sound s (t.islandCause i bit) := by
  unfold State.islandCause
  extract_lets +onlyGivenNames t'
  have ht' : Sound s t' := .setBit h
  exact .set ht'

theorem Sound.onPitons (h : Sound s t) {i} : Sound s (t.onPitons i) :=
  .on (.on h (fun h => .islandCause (.pitAct h))) (fun h => .islandCause (.pitAct h))

theorem Sound.scOn (h : Sound s t) {i start dvdt} : Sound s (t.scOn i start dvdt) := .set (.set (.onPitons (.runEdge h)))

theorem Sound.uvloEnter (h : Sound s t) {i below6} : Sound s (t.uvloEnter i below6) := by
  unfold State.uvloEnter
  extract_lets +onlyGivenNames s1
  have hs1 : Sound s s1 := .on h (fun h => .set h)
  exact .ite (fun _ => hs1) (fun _ => .islandCause (.set (.set (.ite (fun _ => .switchOff hs1) (fun _ => .softTurnOff hs1)))))

theorem Sound.linkLost (h : Sound s t) {i} : Sound s (t.linkLost i) :=
  .islandCause (.set (.ite (fun _ => h) (fun _ => .set (.softTurnOff h))))

theorem Sound.otEnter (h : Sound s t) {i ntc} : Sound s (t.otEnter i ntc) :=
  .islandCause (.set (.setBit (.ite (fun _ => h) (fun _ => .ite (fun _ => .softTurnOff h) (fun _ => .set (.softTurnOff h))))))

theorem Sound.releaseTaken (h : Sound s t) {i} : Sound s (t.releaseTaken i) := by
  unfold State.releaseTaken
  extract_lets +onlyGivenNames s1
  have hs1 : Sound s s1 := .set h
  exact .ite (fun _ => hs1) (fun _ => .ite (fun _ => .set hs1) (fun _ => .set (.badCmd hs1)))

theorem Sound.winSwap (h : Sound s t) {i} : Sound s (t.winSwap i) := by
  unfold State.winSwap
  extract_lets +onlyGivenNames _ s2
  have hs2 : Sound s s2 := .forN (.forN h (fun h => .set (.set (.set h)))) (fun h => .set (.set (.set (.set h))))
  exact .set hs2

theorem Sound.bankSwap (h : Sound s t) {i} : Sound s (t.bankSwap i) := by
  unfold State.bankSwap
  extract_lets +onlyGivenNames s1
  have hs1 : Sound s s1 := .rowReset (.set h)
  exact .minpWarn (.set (.winSwap hs1))

theorem Sound.swapTaken (h : Sound s t) {i} : Sound s (t.swapTaken i) := .set (.bankSwap h)

theorem Sound.confTaken (h : Sound s t) {i} : Sound s (t.confTaken i) := by
  unfold State.confTaken
  extract_lets +onlyGivenNames _ s1
  have hs1 : Sound s s1 := .set (.set h)
  exact .ite (fun _ => by
    extract_lets +onlyGivenNames s2
    have hs2 : Sound s s2 := .set (.bankSwap hs1)
    exact .ite (fun _ => .govern (.set hs2)) (fun _ => hs2)) (fun _ => .raise hs1)

theorem Sound.resetTaken (h : Sound s t) {i} : Sound s (t.resetTaken i) := by
  unfold State.resetTaken
  extract_lets +onlyGivenNames s1
  have hs1 : Sound s s1 := .islandClear (.softTurnOff h)
  exact .ite (fun _ => hs1) (fun _ => .govern (.set hs1))

theorem Sound.downlink (h : Sound s t) {i} : Sound s (t.downlink i) := .set h

theorem Sound.cfgTaken (h : Sound s t) {i} : Sound s (t.cfgTaken i) := by
  unfold State.cfgTaken
  extract_lets +onlyGivenNames s1
  have hs1 : Sound s s1 := .set (.downlink h)
  exact .setb hs1

theorem Sound.islandWrite (h : Sound s t) {i addr data} : Sound s (t.islandWrite i addr data) := by
  unfold State.islandWrite
  exact .ite (fun _ => .set h) (fun _ => .ite (fun _ => .set h) (fun _ => .ite (fun _ => .set h) (fun _ => .ite (fun _ => h) (fun _ => .ite
    (fun _ => by
    split
    · exact .set h
    · exact h) (fun _ => by
    split
    · exact .releaseTaken h
    · exact .confTaken h
    · exact .swapTaken h
    · exact .set h
    · exact .set h
    · exact .resetTaken h
    · exact h)))))

theorem Sound.uplink {f : State → State} (h : Sound s t) (hf : ∀ {w}, Sound s w → Sound s (f w)) {i vds vage} :
  Sound s (t.uplink i vds vage f) := by
  unfold State.uplink
  exact .ite (fun _ => .incSat (.pitAct h)) (fun _ => by
    extract_lets +onlyGivenNames _ s2 _
    have hs2 : Sound s s2 := .set (.setBit (.set (.set (.on h (fun h => .gateWrite (.proxyClear (.set h)))))))
    exact hf (.on hs2 (fun h => .tripIn h)))

theorem Sound.statusTaken (h : Sound s t) {i} : Sound s (t.statusTaken i) := by
  unfold State.statusTaken
  extract_lets +onlyGivenNames s1 s2 _ _
  have hs1 : Sound s s1 := .set (.set (.set (.set (.set h))))
  have hs2 : Sound s s2 := .setBit (.set hs1)
  exact .set (.on (.on (.on (.on hs2 (fun h => .set h)) (fun h => .raise h)) (fun h => .raise h)) (fun h => .raise h))

theorem Sound.causesTaken (h : Sound s t) {i first det} : Sound s (t.causesTaken i first det) :=
  .ite (fun _ => h) (fun _ => .set (.on (.on (.on (.on (.on (.on (.set (.incSat (.on (.on (.on (.on (.on h (fun h => .raise h))
    (fun h => .raise h)) (fun h => .raise h)) (fun h => .raise h)) (fun h => .raise h)))) (fun h => .set (.tripIn h))) (fun h => .set
      (.tripIn h))) (fun h => .set (.tripIn h))) (fun h => .set (.tripIn h))) (fun h => .setBit h)) (fun h => .set (.set h))))

theorem Sound.giTick (h : Sound s t) : Sound s t.giTick := by
  unfold State.giTick
  exact .forN h (fun h => .forN h (fun h => .ite (fun _ => h) (fun _ => by
    extract_lets +onlyGivenNames v
    have hv : Sound s v := .set h
    exact .ite (fun _ => hv) (fun _ => .tripIn hv))))

theorem Sound.axOcTick (h : Sound s t) : Sound s t.axOcTick := by
  unfold State.axOcTick
  exact .forN h (fun h => .ite (fun _ => h) (fun _ => by
    extract_lets +onlyGivenNames v
    have hv : Sound s v := .setBit (.set h)
    exact .tripIn hv))

theorem Sound.spTick (h : Sound s t) : Sound s t.spTick :=
  .ite (fun _ => h) (fun _ => .playsForced (.foldl h (fun h => .on h (fun h => .set (.set (.set (.set h)))))))

theorem Sound.cntTick (h : Sound s t) : Sound s t.cntTick := .forN (.follow (.forN h (fun h => .cntStop h))) (fun h => .bridgeEdges h)

theorem Sound.axisBoundary (h : Sound s t) {a} : Sound s (t.axisBoundary a) := .ite (fun _ => .sqBoundary h) (fun _ => h)

theorem Sound.axisPass (h : Sound s t) {a} : Sound s (t.axisPass a) := .ite (fun _ => .sqPass (.obPass h)) (fun _ => h)

theorem Steps.execDecisionTick : Steps s (Machine.execDecisionTick s) := by
  unfold Machine.execDecisionTick
  extract_lets +onlyGivenNames s0
  have hs0 : Sound s s0 := .records (.refl s)
  exact .ite (fun _ => .next hs0) (fun _ => by
    extract_lets +onlyGivenNames s1 _ s3 _
    have hs1 : Sound s s1 := .disableTick (.thrTake (.thrTake (.stagedTick (.spTick (.axOcTick (.giTick hs0))))))
    have hs3 : Sound s s3 := .posTick (.cntTick (.on (.axisBoundary hs1) (fun h => .axisBoundary h)))
    exact .next (.actPoll (.xyPass (.on (.axisPass hs3) (fun h => .axisPass h)))))

theorem Sound.setFault (h : Sound s t) {n} : Sound s (t.setFault n) := .ite (fun _ => h) (fun _ => .event (.setBit h))

theorem Sound.latchSensor (h : Sound s t) {n reading} : Sound s (t.latchSensor n reading) := by
  unfold State.latchSensor
  refine .ite (fun _ => .set (.set (.set h))) (fun _ => ?_)
  extract_lets +onlyGivenNames _ _ s1 code s2
  have hs2 : Sound s s2 := .set (.on h (fun h => .pitAct h))
  clear_value code
  split
  · exact .ite (fun _ => .setFault (.set (.set hs2))) (fun _ => .set (.set hs2))
  · exact .setFault (.set (.set hs2))

theorem Sound.bsMin (h : Sound s t) {k} : Sound s (t.bsMin k) := by
  unfold State.bsMin
  extract_lets +onlyGivenNames s1 s2
  have hs1 : Sound s s1 := .set h
  have hs2 : Sound s s2 := .set hs1
  exact .set hs2

theorem Sound.thrOff (h : Sound s t) : Sound s t.thrOff := .set (.set (.set (.set (.set h))))

theorem Sound.throttle (h : Sound s t) : Sound s t.throttle := by
  unfold State.throttle
  extract_lets +onlyGivenNames s1
  have hs1 : Sound s s1 := .forN h (fun h => .ite (fun _ => .set h) (fun _ => .set h))
  exact .set (.set (.set (.set (.set hs1))))

theorem Sound.bandRound (h : Sound s t) : Sound s t.bandRound := .set (.set h)

theorem Sound.coolRound (h : Sound s t) {n} : Sound s (t.coolRound n) := .on h (fun h => .set h)

theorem Sound.holdRound (h : Sound s t) {n} : Sound s (t.holdRound n) := .on h (fun h => .set h)

theorem Sound.dieOtCall (h : Sound s t) : Sound s t.dieOtCall := .callSafeBoth (.set h)

theorem Steps.execSlowRound {codes mt missing} : Steps s (Machine.execSlowRound codes mt missing s) := by
  unfold Machine.execSlowRound
  extract_lets +onlyGivenNames s1
  have hs1 : Sound s s1 := .forN (.refl s) (fun h => .holdRound (.coolRound (.latchSensor h)))
  exact .next (.ite (fun _ => .refl s) (fun _ => .set (.on hs1 (fun h => .forN h (fun h => .bsMin h)))))

theorem Steps.execRoundDone : Steps s (Machine.execRoundDone s) :=
  .next (.ite (fun _ => .bandRound (.throttle (.set (.set (.inc (.set (.refl s))))))) (fun _ => .refl s))

theorem Steps.execHkStale : Steps s (Machine.execHkStale s) := .next (.ite (fun _ => .refl s) (fun _ => .raise (.refl s)))

theorem Steps.execBsRst : Steps s (Machine.execBsRst s) :=
  .next (.ite (fun _ => .refl s) (fun _ => .forN (.refl s) (fun h => .set (.set (.set h)))))

theorem Steps.execAbiOt {bridge} : Steps s (Machine.execAbiOt bridge s) := .next (.tripIn (.axBridgeOff (.set (.setBit (.refl s)))))

theorem Steps.execDieOt {belay} : Steps s (Machine.execDieOt belay s) :=
  .next (.dieOtCall (.ite (fun _ => .set (.set (.refl s))) (fun _ => .forN (.set (.refl s)) (fun h => .set h))))

theorem Steps.execOtRestart {sensor} : Steps s (Machine.execOtRestart sensor s) := by
  unfold Machine.execOtRestart
  exact .next (.ite (fun _ => .refl s) (fun _ => .ite (fun _ => by
    extract_lets +onlyGivenNames _ s0 s1
    have hs0 : Sound s s0 := .setBit (.refl s)
    have hs1 : Sound s s1 := .on hs0 (fun h => .setBit h)
    exact .on hs1 (fun h => .tripIn h)) (fun _ => .ite (fun _ => by
    extract_lets +onlyGivenNames s1
    have hs1 : Sound s s1 := .set (.refl s)
    exact .on hs1 (fun h => .set h)) (fun _ => .ite (fun _ => by
    extract_lets +onlyGivenNames s1
    have hs1 : Sound s s1 := .set (.refl s)
    exact .on hs1 (fun h => .set h)) (fun _ => .ite (fun _ => .tripIn (.setBit (.refl s))) (fun _ => .refl s))))))

theorem Steps.execHkPitArm {sens sel} : Steps s (Machine.execHkPitArm sens sel s) :=
  .next (.ite (fun _ => .refl s) (fun _ => .pitArm (.refl s) (.set (.set (.refl s)))))

theorem Sound.clkRecord (h : Sound s t) {k inst dev} : Sound s (t.clkRecord k inst dev) := .event (.set h)

theorem Sound.setAs (h : Sound s t) {st} : Sound s (t.setAs st) := .ite (fun _ => h) (fun _ => .event (.on (.set h) (fun h => .set h)))

theorem Sound.pllFail (h : Sound s t) {dev} : Sound s (t.pllFail dev) := by
  unfold State.pllFail
  exact .ite (fun _ => h) (fun _ => by
    extract_lets +onlyGivenNames _ _ s3
    have hs3 : Sound s s3 := .forN (.callSafeBoth (.forN (.clkRecord (.set (.set (.forN h (fun h => .cntStop h))))) (fun h => .tripIn h)))
      (fun h => .bslFlag h)
    exact .on hs3 (fun h => .setAs h))

theorem Sound.steer (h : Sound s t) {offset} : Sound s (t.steer offset) := .seti h

theorem Sound.timeStep (h : Sound s t) {offset} : Sound s (t.timeStep offset) := by
  unfold State.timeStep
  extract_lets +onlyGivenNames _ _ s1 _
  have hs1 : Sound s s1 := .event (.records h)
  exact .on hs1 (fun h => .set (.set h))

theorem Sound.perfLatch (h : Sound s t) {k} : Sound s (t.perfLatch k) := .ite (fun _ => .setFree (.setFree h)) (fun _ => h)

/-- The snapshot store gives up its oldest for a new one (R473). -/
theorem Sound.cairnNow (h : Sound s t) : Sound s t.cairnNow := by
  unfold State.cairnNow
  extract_lets +onlyGivenNames s1 s2 s3 s4
  have hs1 : Sound s s1 := .set (.set (.inc h))
  have hs2 : Sound s s2 := .forN hs1 (fun h => .on h (fun h => .gate h))
  have hs3 : Sound s s3 := .forN hs2 (fun h => .perfLatch h)
  have hs4 : Sound s s4 := .snapshots hs3 fun hl => by
    rw [List.length_append, List.length_singleton]
    split
    · omega
    · rw [List.length_drop]; omega
  exact .on hs4 (fun h => .set h)

theorem Sound.cairn (h : Sound s t) : Sound s t.cairn :=
  .ite (fun _ => .raise h) (fun _ => .ite (fun _ => .raise (.incSat h)) (fun _ => .cairnNow h))

theorem Steps.execTimeLoRead : Steps s (Machine.execTimeLoRead s) :=
  .next (.ite (fun _ => .send (.refl s)) (fun _ => .send (.set (.set (.refl s)))))

theorem Steps.execPllFault {dev} : Steps s (Machine.execPllFault dev s) := .next (.pllFail (.refl s))

theorem Steps.execPllLock : Steps s (Machine.execPllLock s) := by
  unfold Machine.execPllLock
  exact .next (.ite (fun _ => .refl s) (fun _ => by
    extract_lets +onlyGivenNames s1
    have hs1 : Sound s s1 := .set (.set (.refl s))
    exact .forN hs1 (fun h => .cntResume (.tripIn (.ite (fun _ => h) (fun _ => .tripNow h))))))

theorem Steps.execClkFault {clk inst dev} : Steps s (Machine.execClkFault clk inst dev s) := by
  unfold Machine.execClkFault
  extract_lets +onlyGivenNames s1
  have hs1 : Sound s s1 := .clkRecord (.refl s)
  exact .next (by
    split
    · exact .pllFail (.set hs1)
    · exact .closeHostRole (.set (.stopRings hs1))
    · exact .ethLink hs1
    · exact .ethLink hs1
    · exact .forN (.event hs1) (fun h => .canInit (.set h))
    · exact .set (.on (.callSafeBoth hs1) (fun h => .lines (.set h)))
    · exact .linkLost hs1
    · exact .event hs1)

theorem Steps.execClkAmbig : Steps s (Machine.execClkAmbig s) := .next (.raise (.refl s))

theorem Steps.execCairnGo : Steps s (Machine.execCairnGo s) := .next (.on (.refl s) (fun h => .cairn h))

theorem Steps.execCairnArm : Steps s (Machine.execCairnArm s) := .next (.ite (fun _ => .refl s) (fun _ => .set (.set (.refl s))))

theorem Steps.execCairnAt : Steps s (Machine.execCairnAt s) := .next (.ite (fun _ => .cairn (.set (.set (.refl s)))) (fun _ => .refl s))

theorem Steps.execCairnQueued : Steps s (Machine.execCairnQueued s) := .next (.ite (fun _ => .cairnNow (.set (.refl s))) (fun _ => .refl s))

theorem Steps.execEngineBarrier {eng} : Steps s (Machine.execEngineBarrier eng s) := by
  unfold Machine.execEngineBarrier
  extract_lets +onlyGivenNames s1
  have hs1 : Sound s s1 := .setBit (.refl s)
  exact .next (.ite (fun _ => .set (.set hs1)) (fun _ => hs1))

theorem Steps.execSysPitArm {sel} : Steps s (Machine.execSysPitArm sel s) := by
  unfold Machine.execSysPitArm
  extract_lets +onlyGivenNames s1
  have hs1 : Sound s s1 := .pitArm (.refl s) (.set (.refl s))
  exact .next (.ite (fun _ => .refl s) (fun _ => .ite (fun _ => by
    extract_lets +onlyGivenNames s2 _
    have hs2 : Sound s s2 := .callSafeBoth (.forN (.pitAct hs1) (fun h => .tripIn h))
    exact .event (.set (.forN hs2 (fun h => .tripIn (.ite (fun _ => h) (fun _ => .tripNow h)))))) (fun _ => hs1)))

theorem Steps.execSyncRx {offset} : Steps s (Machine.execSyncRx offset s) := by
  unfold Machine.execSyncRx
  extract_lets +onlyGivenNames _ s1 _ s2 _
  have hs1 : Sound s s1 := .on (.refl s) (fun h => .setAs (.set h))
  have hs2 : Sound s s2 := .ite (fun _ => .ite (fun _ => .inc hs1) (fun _ => hs1)) (fun _ => .set hs1)
  exact .next (.ite (fun _ => .refl s) (fun _ => by
    extract_lets +onlyGivenNames s3
    have hs3 : Sound s s3 := .ite (fun _ => .timeStep hs2) (fun _ => .steer hs2)
    exact .set hs3))

theorem Steps.execAsLocked : Steps s (Machine.execAsLocked s) := .next (.ite (fun _ => .setAs (.refl s)) (fun _ => .refl s))

theorem Steps.execAsHoldover : Steps s (Machine.execAsHoldover s) := .next (.ite (fun _ => .setAs (.refl s)) (fun _ => .refl s))

theorem Steps.execRingSnapshot : Steps s (Machine.execRingSnapshot s) := by
  unfold Machine.execRingSnapshot
  exact .next (by
    split
    · exact .refl s
    · exact .ite (fun _ => .complete (.refl s)) (fun _ => .ite (fun _ => .complete (.records (.refl s))) (fun _ => .ite (fun _ => .complete
        (.refl s)) (fun _ => .ite (fun _ => .complete (.cairn (.refl s))) (fun _ => by
        extract_lets +onlyGivenNames _ s1
        have hs1 : Sound s s1 := .cairn (.refl s)
        exact .ite (fun _ => .complete hs1) (fun _ => .set (.set (.set (.set hs1)))))))))

theorem Steps.execSnapshotNext : Steps s (Machine.execSnapshotNext s) :=
  .next (.ite (fun _ => .refl s) (fun _ => .ite (fun _ => .set (.refl s)) (fun _ => .ite (fun _ => .refl s) (fun _ => .on (.set (.set
    (.cairn (.refl s)))) (fun h => .complete h)))))

theorem Steps.execSnapshotRead : Steps s (Machine.execSnapshotRead s) := by
  unfold Machine.execSnapshotRead
  exact .next (by
    split
    · exact .refl s
    · exact .ite (fun _ => .complete (.refl s)) (fun _ => .complete (.send (.refl s))))

theorem Steps.execPerfOvf {n pc} : Steps s (Machine.execPerfOvf n pc s) :=
  .next (.ite (fun _ => .refl s) (fun _ => .on (.perfWrap (.set (.set (.refl s)))) (fun h => .set h)))

theorem Steps.execSampleRecord {core idle record} : Steps s (Machine.execSampleRecord core idle record s) :=
  .next (.ite (fun _ => .refl s) (fun _ => .ite (fun _ => .incSat (.refl s)) (fun _ => .set (.foldl (.refl s) (fun h => .memPut h)))))

theorem Steps.execCntLoRead {n} : Steps s (Machine.execCntLoRead n s) := by
  unfold Machine.execCntLoRead
  extract_lets +onlyGivenNames s1
  have hs1 : Sound s s1 := .perfLatch (.refl s)
  exact .next (.ite (fun _ => .send (.refl s)) (fun _ => .send (.set hs1)))

theorem Sound.preempt (h : Sound s t) {i rank busy} : Sound s (t.preempt i rank busy) := by
  unfold State.preempt
  split
  · exact .on h (fun h => .perfAdd (.incSat h))
  · exact h

theorem Sound.edgeTaken (h : Sound s t) {i on slot dly wait ref} : Sound s (t.edgeTaken i on slot dly wait ref) := by
  unfold State.edgeTaken
  extract_lets +onlyGivenNames s1 _ _ _ _
  have hs1 : Sound s s1 := .osdAbort (.on h (fun h => .incSat h))
  exact .ite (fun _ => .ite (fun _ => hs1) (fun _ => .ite (fun _ => .islandFlag (.badCmd hs1)) (fun _ => .ite (fun _ => .badCmd hs1)
    (fun _ => .ite (fun _ => .badCmd hs1) (fun _ => .set (.set (.setb (.set hs1)))))))) (fun _ => .ite (fun _ => .badCmd hs1) (fun _ => .ite
      (fun _ => hs1) (fun _ => .ite (fun _ => .islandFlag hs1) (fun _ => .set (.set (.setb (.set hs1)))))))

theorem Sound.snapTake (h : Sound s t) {i} : Sound s (t.snapTake i) := .set (.set (.set (.set h)))

theorem Sound.cairnTaken (h : Sound s t) {i} : Sound s (t.cairnTaken i) := .forN (.snapTake h) (fun h => .gateRead h)

theorem Sound.resend (h : Sound s t) {i rank ref busy} : Sound s (t.resend i rank ref busy) := by
  cases busy with
  | none => exact h
  | some f =>
    cases f with
    | edge => exact .on h (fun h => .edgeTaken h)
    | cairn => exact .on h (fun h => .raise (.cairnTaken h))
    | plain => exact h
    | softOff => exact h

theorem Steps.execEdgeCmd {isl on slot dly wait ref busy} : Steps s (Machine.execEdgeCmd isl on slot dly wait ref busy s) :=
  .next (.edgeTaken (.preempt (.downlink (.refl s))))

theorem Steps.execEdgeStart {isl dvdt} : Steps s (Machine.execEdgeStart isl dvdt s) :=
  .next (.ite (fun _ => .refl s) (fun _ => .on (.runEdge (.refl s)) (fun h => .onPitons h)))

theorem Steps.execTrimSatWarn {isl slot} : Steps s (Machine.execTrimSatWarn isl slot s) :=
  .next (.ite (fun _ => .event (.set (.refl s))) (fun _ => .refl s))

theorem Steps.execSoftOff {isl src ref busy} : Steps s (Machine.execSoftOff isl src ref busy s) := by
  unfold Machine.execSoftOff
  extract_lets +onlyGivenNames _ s1 _
  have hs1 : Sound s s1 := .preempt (.downlink (.refl s))
  exact .next (.resend (.on hs1 (fun h => .set (.softTurnOff h))))

theorem Steps.execCfgWr {isl addr data} : Steps s (Machine.execCfgWr isl addr data s) := .next (.islandWrite (.cfgTaken (.refl s)))

theorem Steps.execCfgRd {isl addr} : Steps s (Machine.execCfgRd isl addr s) := .next (.set (.set (.downlink (.refl s))))

theorem Steps.execIdleFrame {isl} : Steps s (Machine.execIdleFrame isl s) := .next (.downlink (.refl s))

theorem Steps.execCairnFrame {isl ref busy} : Steps s (Machine.execCairnFrame isl ref busy s) :=
  .next (.resend (.on (.cairnTaken (.preempt (.downlink (.refl s)))) (fun h => .raise h)))

theorem Steps.execIslandRelease {isl} : Steps s (Machine.execIslandRelease isl s) := .next (.releaseTaken (.cfgTaken (.refl s)))

theorem Steps.execConfDone {isl} : Steps s (Machine.execConfDone isl s) := .next (.confTaken (.cfgTaken (.refl s)))

theorem Steps.execIslandSwap {isl} : Steps s (Machine.execIslandSwap isl s) := .next (.swapTaken (.cfgTaken (.refl s)))

theorem Steps.execCrcHi {isl data} : Steps s (Machine.execCrcHi isl data s) := .next (.set (.cfgTaken (.refl s)))

theorem Steps.execCrcLo {isl data} : Steps s (Machine.execCrcLo isl data s) := .next (.set (.cfgTaken (.refl s)))

theorem Steps.execIslandReset {isl} : Steps s (Machine.execIslandReset isl s) := .next (.resetTaken (.cfgTaken (.refl s)))

theorem Steps.execProxyRelease {isl} : Steps s (Machine.execProxyRelease isl s) :=
  .next (.ite (fun _ => .refl s) (fun _ => .gateRelease (.set (.refl s))))

theorem Steps.execProxyConfDone {isl} : Steps s (Machine.execProxyConfDone isl s) :=
  .next (.ite (fun _ => .refl s) (fun _ => .gateWrite (.gateWrite (.gateWrite (.set (.set (.refl s)))))))

theorem Steps.execProxySwap {isl} : Steps s (Machine.execProxySwap isl s) :=
  .next (.ite (fun _ => .refl s) (fun _ => .ite (fun _ => .refl s) (fun _ => .foldl (.refl s) (fun h => .gateWrite (.set h)))))

theorem Steps.execStatusFrame {isl vds vage} : Steps s (Machine.execStatusFrame isl vds vage s) :=
  .next (.uplink (.refl s) (fun h => .statusTaken h))

theorem Steps.execEdgeFrame {isl vds vage atEnd on t' first} : Steps s (Machine.execEdgeFrame isl vds vage atEnd on t' first s) :=
  .next (.uplink (.refl s) (fun h => .setb (.set h)))

theorem Steps.execTripFrame {isl vds vage tdet first} : Steps s (Machine.execTripFrame isl vds vage tdet first s) :=
  .next (.uplink (.refl s) (fun h => .causesTaken h))

theorem Steps.execMeasFrame {isl vds vage sel val} : Steps s (Machine.execMeasFrame isl vds vage sel val s) := by
  unfold Machine.execMeasFrame
  exact .next (.uplink (.on (.refl s) (fun h => .otEnter (.pitAct h))) (fun h => by
    split
    · exact .set h
    · exact .set h
    · exact .set h
    · exact .set h
    · exact h))

theorem Steps.execCfgRsp {isl vds vage} : Steps s (Machine.execCfgRsp isl vds vage s) :=
  .next (.ite (fun _ => .refl s) (fun _ => .uplink (.set (.refl s)) (fun h => .set h)))

theorem Steps.execIslandLinkLoss {isl} : Steps s (Machine.execIslandLinkLoss isl s) := .next (.linkLost (.refl s))

theorem Steps.execEndpointLinkLoss {isl} : Steps s (Machine.execEndpointLinkLoss isl s) :=
  .next (.ite (fun _ => .tripIn (.set (.setBit (.refl s)))) (fun _ => .refl s))

theorem Steps.execBelayCode {isl word} : Steps s (Machine.execBelayCode isl word s) :=
  .next (.govern (.on (.set (.refl s)) (fun h => .osdAbort h)))

theorem Steps.execScTurnOn {isl start dvdt} : Steps s (Machine.execScTurnOn isl start dvdt s) :=
  .next (.ite (fun _ => .scOn (.refl s)) (fun _ => .refl s))

theorem Steps.execOvbAssert {isl cm} : Steps s (Machine.execOvbAssert isl cm s) :=
  .next (.ite (fun _ => .refl s) (fun _ => .govern (.osdAbort (.on (.set (.refl s)) (fun h => .islandFlag h)))))

theorem Steps.execBcTurnOn {isl start dvdt} : Steps s (Machine.execBcTurnOn isl start dvdt s) :=
  .next (.ite (fun _ => .scOn (.refl s)) (fun _ => .refl s))

theorem Steps.execOvbDeassert {isl} : Steps s (Machine.execOvbDeassert isl s) :=
  .next (.ite (fun _ => .govern (.set (.set (.refl s)))) (fun _ => .refl s))

theorem Steps.execIslandUvlo {isl below6} : Steps s (Machine.execIslandUvlo isl below6 s) := .next (.uvloEnter (.refl s))

theorem Steps.execUvloRecover {isl} : Steps s (Machine.execUvloRecover isl s) := by
  unfold Machine.execUvloRecover
  exact .next (.ite (fun _ => .refl s) (fun _ => by
    extract_lets +onlyGivenNames s1 s2
    have hs1 : Sound s s1 := .set (.refl s)
    have hs2 : Sound s s2 := .on hs1 (fun h => .set (.islandClear h))
    exact .govern (.set hs2)))

theorem Steps.execIslandDesat {isl} : Steps s (Machine.execIslandDesat isl s) :=
  .next (.ite (fun _ => .islandCause (.refl s)) (fun _ => .refl s))

theorem Steps.execIslandDidt {isl} : Steps s (Machine.execIslandDidt isl s) := .next (.islandCause (.refl s))

theorem Steps.execIslandOt {isl ntc} : Steps s (Machine.execIslandOt isl ntc s) :=
  .next (.ite (fun _ => .refl s) (fun _ => .otEnter (.refl s)))

theorem Steps.execIslandPowerUp {isl} : Steps s (Machine.execIslandPowerUp isl s) :=
  .next (.ite (fun _ => .govern (.set (.islandClear (.refl s)))) (fun _ => .refl s))

theorem Steps.execOsdStart {star} : Steps s (Machine.execOsdStart star s) :=
  .next (.ite (fun _ => .refl s) (fun _ => .ite (fun _ => .refl s) (fun _ => .ite (fun _ => .set (.set (.set (.set (.refl s)))))
    (fun _ => .set (.set (.refl s))))))

theorem Steps.execOsdStep {star u' v w} : Steps s (Machine.execOsdStep star u' v w s) := by
  unfold Machine.execOsdStep
  exact .next (.ite (fun _ => .refl s) (fun _ => by
    extract_lets +onlyGivenNames _ _ s2
    have hs2 : Sound s s2 := .set (.set (.set (.set (.refl s))))
    exact .ite (fun _ => hs2) (fun _ => .event (.set (.set (.set hs2))))))

theorem Steps.execGlkPitArm {isl sel} : Steps s (Machine.execGlkPitArm isl sel s) := by
  unfold Machine.execGlkPitArm
  extract_lets +onlyGivenNames _ _ _ s2 _
  have hs2 : Sound s s2 := .pitArm (.refl s) (.set (.set (.refl s)))
  exact .next (.ite (fun _ => .refl s) (fun _ => .ite (fun _ => .uvloEnter (.pitAct hs2)) (fun _ => .ite (fun _ => .linkLost (.pitAct hs2))
    (fun _ => hs2))))

theorem Steps.execBelayLineLoss {isl} : Steps s (Machine.execBelayLineLoss isl s) := .next (.govern (.osdAbort (.set (.refl s))))

theorem Steps.execInvalidFrame {isl up word} : Steps s (Machine.execInvalidFrame isl up word s) :=
  .next (.ite (fun _ => .refl s) (fun _ => .ite (fun _ => .incSat (.refl s)) (fun _ => .incSat (.refl s))))

theorem Steps.execCommonModeEvent {isl} : Steps s (Machine.execCommonModeEvent isl s) :=
  .next (.ite (fun _ => .islandFlag (.refl s)) (fun _ => .refl s))

theorem Sound.logAppend (h : Sound s t) {kind role field value old} : Sound s (t.logAppend kind role field value old) :=
  .records (.set (.on (.set (.inc h)) (fun h => .set h)))

theorem Sound.genesis (h : Sound s t) : Sound s t.genesis := .ite (fun _ => h) (fun _ => .set (.logAppend h))

theorem Sound.rollForward (h : Sound s t) : Sound s t.rollForward := by
  unfold State.rollForward
  split
  · exact .ite (fun _ => .foldl h (fun h => .set h)) (fun _ => h)
  · exact h

theorem Sound.clearWhere (h : Sound s t) {p} : Sound s (t.clearWhere p) := .foldl h (fun h => .dropCells h)

theorem Sound.cntStart (h : Sound s t) {pu} : Sound s (t.cntStart pu) := .set (.set (.set h))

theorem Sound.pdSet (h : Sound s t) {pd on} : Sound s (t.pdSet pd on) := by
  unfold State.pdSet
  extract_lets +onlyGivenNames _ _ s1
  have hs1 : Sound s s1 := .foldl (.on (.setBit h) (fun h => .setBit h)) (fun h => .cntStart h)
  exact .ite (fun _ => .set hs1) (fun _ => .ite (fun _ => .debugVdc hs1) (fun _ => .ite (fun _ => .ite (fun _ => .shRedrive hs1)
    (fun _ => .shSet hs1)) (fun _ => .ite (fun _ => .forN hs1 (fun h => .set h)) (fun _ => hs1))))

theorem Sound.lockPause (h : Sound s t) : Sound s t.lockPause := .set (.set h)

theorem Sound.clearCommon (h : Sound s t) {keepMem} : Sound s (t.clearCommon keepMem) :=
  .parts h id (fun hm => by cases keepMem; exacts [rfl, hm]) (fun c => by cases c <;> exact Nat.zero_le _) rfl (fun _ => Nat.zero_le _) rfl

theorem Sound.clearEngines (h : Sound s t) {p} : Sound s (t.clearEngines p) := .records h

theorem Sound.clearNet (h : Sound s t) : Sound s t.clearNet := .records h

theorem Sound.fall (h : Sound s t) {pd} : Sound s (t.fall pd) := by
  unfold State.fall
  extract_lets +onlyGivenNames _ s1
  have hs1 : Sound s s1 := .unblank (.pdSet (.clearWhere (.on (.on (.on h (fun h => .bivEnd h)) (fun h => .lockPause h)) (fun h => .ethStop
    (.forN h (fun h => .canStop h))))))
  split
  · exact .records hs1
  · exact .clearCommon hs1
  · exact .records (.clearEngines hs1)
  · exact .records (.clearEngines hs1)
  · exact .records (.clearEngines hs1)
  · exact .clearNet hs1
  · exact hs1

theorem Sound.clearLevel (h : Sound s t) {lvl warm} : Sound s (t.clearLevel lvl warm) := by
  unfold State.clearLevel
  extract_lets +onlyGivenNames s1 _ s2
  have hs1 : Sound s s1 := .clearWhere (.on h (fun h => .lockPause (.bivEnd h)))
  have hs2 : Sound s s2 := .records (.clearEngines (.clearNet (.clearCommon hs1)))
  exact .ite (fun _ => .records hs2) (fun _ => hs2)

theorem Sound.writeCause (h : Sound s t) {src lvl warm} : Sound s (t.writeCause src lvl warm) := .setb (.set (.set h))

theorem Sound.loadMap (h : Sound s t) : Sound s t.loadMap := .ite (fun _ => h) (fun _ => .set (.set (.set (.set (.set (.set (.set h)))))))

theorem Sound.shipped (h : Sound s t) : Sound s t.shipped := .on (.setb h) (fun h => .set (.set (.setBit (.set h))))

theorem Sound.lcFinish (h : Sound s t) : Sound s t.lcFinish := by
  unfold State.lcFinish
  exact .ite (fun _ => h) (fun _ => by
    extract_lets +onlyGivenNames _ s1 _
    have hs1 : Sound s s1 := .set (.set (.set h))
    exact .on (.on (.on hs1 (fun h => .shipped h)) (fun h => .set h)) (fun h => .set h))

theorem Sound.startUp (h : Sound s t) {lvl banks} : Sound s (t.startUp lvl banks) := by
  unfold State.startUp
  extract_lets +onlyGivenNames _ s2
  have hs2 : Sound s s2 := .set (.set (.set (.set h)))
  exact .set hs2

theorem Sound.takeHold (h : Sound s t) {lvl src warm} : Sound s (t.takeHold lvl src warm) := by
  unfold State.takeHold
  extract_lets +onlyGivenNames _ _ _ _ _ _ _ s2 _ _ s5
  have hs2 : Sound s s2 := .set (.set (.writeCause (.on (.on (.on (.shSet (.set (.clearLevel (.set (.on h (fun h => .set h))))))
    (fun h => .set h)) (fun h => .set (.set h))) (fun h => .event h))))
  have hs5 : Sound s s5 := .on (.setb (.set (.set (.ite (fun _ => .loadMap hs2) (fun _ => .forN (.incSat hs2) (fun h => .set h))))))
    (fun h => .forN h (fun h => .set h))
  exact .startUp (.on hs5 (fun h => .set h))

theorem Sound.stage1 (h : Sound s t) {lvl src warm} : Sound s (t.stage1 lvl src warm) := by
  unfold State.stage1
  extract_lets +onlyGivenNames s1 _ _ _ _
  have hs1 : Sound s s1 := .set (.setb (.set (.set (.set h))))
  exact .callSafeBoth (.set (.forN (.foldl hs1 (fun h => .on h (fun h => .foldl h (fun h => .gateSoftOff h)))) (fun h => .axBridgeOff h)))

theorem Sound.resetBegin (h : Sound s t) {lvl src warm} : Sound s (t.resetBegin lvl src warm) :=
  .ite (fun _ => .stage1 h) (fun _ => .takeHold h)

theorem Sound.resetRequest (h : Sound s t) {lvl src warm} : Sound s (t.resetRequest lvl src warm) :=
  .ite (fun _ => .resetBegin h) (fun _ => .incSat h)

theorem Sound.blkStop (h : Sound s t) {ch} : Sound s (t.blkStop ch) :=
  .ite (fun _ => h) (fun _ => .ite (fun _ => .tractionEnd (.tripNow h)) (fun _ => .axDisable (.tripNow h)))

theorem Sound.blkBegin (h : Sound s t) {source inst src} : Sound s (t.blkBegin source inst src) :=
  .ite (fun _ => h) (fun _ => .foldl (.on (.set (.set (.set (.set (.set (.set h)))))) (fun h => .tripNow h)) (fun h => .blkStop h))

theorem Sound.blkRest (h : Sound s t) {source inst} : Sound s (t.blkRest source inst) := by
  unfold State.blkRest
  split
  · exact .unblank h
  · exact .unblank h
  · exact .unblank (.clearEngines h)
  · exact .unblank (.clearEngines h)
  · exact .unblank (.clearEngines h)
  · exact .unblank (.clearEngines h)
  · exact .records h
  · exact .records h
  · exact .snapshots h fun _ => Nat.zero_le _
  · exact .forN h (fun h => .set h)
  · exact h

theorem Sound.blkCarrier (h : Sound s t) {source inst} : Sound s (t.blkCarrier source inst) :=
  .ite (fun _ => h) (fun _ => .cntStart (.on h (fun h => .carCopy h)))

theorem Sound.blkDone (h : Sound s t) {forced} : Sound s (t.blkDone forced) :=
  .ite (fun _ => h) (fun _ => .event (.on (.setb (.writeCause (.set (.set (.blkCarrier (.blkRest (.dropCells (.on (.on (.on h
    (fun h => .actAbort h)) (fun h => .canStop h)) (fun h => .ethStop h))))))))) (fun h => .incSat (.set h))))

theorem Sound.resetRefused (h : Sound s t) {lvl source inst warm} : Sound s (t.resetRefused lvl source inst warm) := .accessRefused h

theorem Sound.commandReset {ack : State → Status → State} (h : Sound s t) (hf : ∀ {w st}, Sound s w → Sound s (ack w st))
    {lvl source inst src warm} : Sound s (t.commandReset lvl source inst src warm ack) := by
  unfold State.commandReset
  split
  · exact hf (.on h (fun h => .resetRefused h))
  · exact .ite (fun _ => .on (hf h) (fun h => .blkBegin h)) (fun _ => .resetRequest (hf h))

theorem Sound.hcFire (h : Sound s t) {core} : Sound s (t.hcFire core) := .resetRequest (.incSat (.event h))

theorem Sound.bistReport (h : Sound s t) {pd misr islands} : Sound s (t.bistReport pd misr islands) :=
  .ite (fun _ => .event h) (fun _ => .event (.set (.set h)))

theorem Sound.stepFails (h : Sound s t) {pd} : Sound s (t.stepFails pd) :=
  .ite (fun _ => .takeHold (.set h)) (fun _ => .on (.event (.setBit (.setBit (.set h)))) (fun h => .set h))

theorem Steps.execPowerOn : Steps s (Machine.execPowerOn s) := .next (.takeHold (.set (.set (.set (.lcFinish (.refl s))))))

theorem Steps.execRstnAssert : Steps s (Machine.execRstnAssert s) := .next (.ite (fun _ => .refl s) (fun _ => .takeHold (.set (.refl s))))

theorem Steps.execRstnRelease : Steps s (Machine.execRstnRelease s) := by
  unfold Machine.execRstnRelease
  extract_lets +onlyGivenNames s1
  have hs1 : Sound s s1 := .set (.refl s)
  exact .next (.ite (fun _ => .set (.set hs1)) (fun _ => hs1))

theorem Steps.execRstCmd {level warm source inst debug} : Steps s (Machine.execRstCmd level warm source inst debug s) :=
  .next (.ite (fun _ => .refl s) (fun _ => .commandReset (.set (.set (.setb (.set (.refl s))))) (fun h => .set h)))

theorem Steps.execRingReset : Steps s (Machine.execRingReset s) := by
  unfold Machine.execRingReset
  exact .next (by
    split
    · exact .refl s
    · exact .commandReset (.refl s) (fun h => .complete h))

theorem Steps.execNetReset : Steps s (Machine.execNetReset s) := by
  unfold Machine.execNetReset
  exact .next (by
    split
    · exact .refl s
    · exact .commandReset (.refl s) (fun h => .commandDone h))

theorem Steps.execPreResetEnd : Steps s (Machine.execPreResetEnd s) := .next (.ite (fun _ => .takeHold (.refl s)) (fun _ => .refl s))

theorem Steps.execBlkReset : Steps s (Machine.execBlkReset s) := .next (.blkDone (.refl s))

theorem Steps.execBlkTimeout : Steps s (Machine.execBlkTimeout s) := .next (.ite (fun _ => .refl s) (fun _ => .blkDone (.refl s)))

theorem Steps.execWdKick {core key} : Steps s (Machine.execWdKick core key s) :=
  .next (.ite (fun _ => .refl s) (fun _ => .ite (fun _ => .set (.refl s)) (fun _ => .ite (fun _ => .set (.set (.refl s))) (fun _ => .ite
    (fun _ => .refl s) (fun _ => .hcFire (.refl s))))))

theorem Steps.execHcWatchdog {core} : Steps s (Machine.execHcWatchdog core s) :=
  .next (.ite (fun _ => .refl s) (fun _ => .hcFire (.refl s)))

theorem Steps.execEngineWatchdog {engine stopped} : Steps s (Machine.execEngineWatchdog engine stopped s) := by
  unfold Machine.execEngineWatchdog
  exact .next (.ite (fun _ => .refl s) (fun _ => by
    extract_lets +onlyGivenNames _ s1
    have hs1 : Sound s s1 := .incSat (.event (.refl s))
    exact .ite (fun _ => .on hs1 (fun h => .blkBegin h)) (fun _ => .resetRequest hs1)))

theorem Steps.execBlRst {bind} : Steps s (Machine.execBlRst bind s) := .next (.ite (fun _ => .resetRequest (.refl s)) (fun _ => .refl s))

theorem Steps.execTrimLoad {copyA copyB whole} : Steps s (Machine.execTrimLoad copyA copyB whole s) := by
  unfold Machine.execTrimLoad
  exact .next (.ite (fun _ => .refl s) (fun _ => by
    extract_lets +onlyGivenNames _ _ s2
    have hs2 : Sound s s2 := .on (.set (.on (.refl s) (fun h => .incSat h))) (fun h => .set h)
    exact .ite (fun _ => hs2) (fun _ => .ite (fun _ => .pdSet (.set (.set (.setb (.set (.set hs2)))))) (fun _ => .safetyLog (.set (.set
      (.set hs2)))))))

theorem Steps.execDomainStep {pd pass misr islands} : Steps s (Machine.execDomainStep pd pass misr islands s) := by
  unfold Machine.execDomainStep
  exact .next (.ite (fun _ => .refl s) (fun _ => .ite (fun _ => .stepFails (.bistReport (.refl s))) (fun _ => by
    extract_lets +onlyGivenNames _ s1
    have hs1 : Sound s s1 := .on (.setBit (.on (.pdSet (.refl s)) (fun h => .bistSave h))) (fun h => .setBit h)
    exact .ite (fun _ => .set (.pdSet hs1)) (fun _ => .on hs1 (fun h => .event h)))))

theorem Steps.execBelayStart {storeGood} : Steps s (Machine.execBelayStart storeGood s) := by
  unfold Machine.execBelayStart
  exact .next (.ite (fun _ => .refl s) (fun _ => by
    extract_lets +onlyGivenNames s1
    have hs1 : Sound s s1 := .set (.set (.set (.rollForward (.genesis (.refl s)))))
    exact .ssout (.lines (.ite (fun _ => .xtripAct hs1) (fun _ => .set hs1)))))

theorem Steps.execBlSelftest {pass} : Steps s (Machine.execBlSelftest pass s) :=
  .next (.ite (fun _ => .ssout (.set (.refl s))) (fun _ => .refl s))

theorem Steps.execStartReady : Steps s (Machine.execStartReady s) := by
  unfold Machine.execStartReady
  exact .next (.ite (fun _ => .refl s) (fun _ => by
    extract_lets +onlyGivenNames s1 s2
    have hs1 : Sound s s1 := .set (.set (.set (.refl s)))
    have hs2 : Sound s s2 := .forN (.set hs1) (fun h => .set h)
    exact .ssout (.event hs2)))

theorem Sound.pwrState (h : Sound s t) {st} : Sound s (t.pwrState st) := .event (.set h)

theorem Sound.lowDebug (h : Sound s t) {off} : Sound s (t.lowDebug off) := .on h (fun h => .set (.set (.set h)))

theorem Sound.netSessions (h : Sound s t) : Sound s t.netSessions := .forN h (fun h => .on h (fun h => .safetyLog (.set h)))

theorem Sound.enterLow (h : Sound s t) {off} : Sound s (t.enterLow off) := by
  unfold State.enterLow
  extract_lets +onlyGivenNames _ s2
  have hs2 : Sound s s2 := .foldl (.set (.set (.netSessions (.lowDebug (.sesClose h))))) (fun h => .fall h)
  exact .set (.set (.ite (fun _ => .fall (.fall hs2)) (fun _ => hs2)))

theorem Sound.powerBegin {ack : State → State} (h : Sound s t) (hf : ∀ {w}, Sound s w → Sound s (ack w)) {tgt by'} :
  Sound s (t.powerBegin tgt by' ack) :=
  .ite (fun _ => .set (.set (.pwrState h))) (fun _ => .ite (fun _ => .set (.unparkBegin h)) (fun _ => .enterLow (hf h)))

theorem Sound.powerDone (h : Sound s t) : Sound s t.powerDone := by
  unfold State.powerDone
  extract_lets +onlyGivenNames s1
  have hs1 : Sound s s1 := .set (.set h)
  exact .on hs1 (fun h => .complete h)

theorem Sound.wakeStandby (h : Sound s t) {cause} : Sound s (t.wakeStandby cause) := by
  unfold State.wakeStandby
  extract_lets +onlyGivenNames _ _ s1 _ s3
  have hs1 : Sound s s1 := .set (.set (.set (.set h)))
  have hs3 : Sound s s3 := .forN (.on (.on (.pdSet hs1) (fun h => .pdSet h)) (fun h => .pdSet h)) (fun h => .set h)
  exact .startUp (.on (.set hs3) (fun h => .set h))

theorem Sound.boRecord (h : Sound s t) {mask} : Sound s (t.boRecord mask) := .set (.set (.incSat h))

theorem Sound.boHold (h : Sound s t) {mask} : Sound s (t.boHold mask) := .set h

theorem Steps.execRingPower : Steps s (Machine.execRingPower s) := by
  unfold Machine.execRingPower
  exact .next (by
    split
    · exact .refl s
    · split
      · exact .complete (.set (.refl s))
      · exact .powerBegin (.set (.refl s)) (fun h => .complete h))

theorem Steps.execPwrCmd {target} : Steps s (Machine.execPwrCmd target s) := by
  unfold Machine.execPwrCmd
  extract_lets +onlyGivenNames s1
  have hs1 : Sound s s1 := .set (.refl s)
  exact .next (.ite (fun _ => .refl s) (fun _ => by
    split
    · exact .set hs1
    · exact .powerBegin (.set (.set hs1)) (fun h => h)))

theorem Steps.execParkRampEnd : Steps s (Machine.execParkRampEnd s) := by
  unfold Machine.execParkRampEnd
  exact .next (.ite (fun _ => .refl s) (fun _ => by
    extract_lets +onlyGivenNames _ s2
    have hs2 : Sound s s2 := .powerDone (.pwrState (.forN (.foldl (.refl s) (fun h => .ite (fun _ => h) (fun _ => .setMode (.set (.foldl
      (.foldl h (fun h => .gateSoftOff h)) (fun h => .set h)))))) (fun h => .axStop h)))
    exact .ite (fun _ => .unparkBegin hs2) (fun _ => .on hs2 (fun h => .unparkBegin h))))

theorem Steps.execUnparkDone : Steps s (Machine.execUnparkDone s) :=
  .next (.ite (fun _ => .refl s) (fun _ => .powerDone (.pwrState (.foldl (.refl s) (fun h => .ite (fun _ => h) (fun _ => .catchStart
    (.foldl h (fun h => .gateWrite h))))))))

theorem Steps.execAutoUnpark : Steps s (Machine.execAutoUnpark s) := .next (.on (.refl s) (fun h => .unparkBegin h))

theorem Steps.execPdEn {value} : Steps s (Machine.execPdEn value s) :=
  .next (.ite (fun _ => .refl s) (fun _ => .ite (fun _ => .accessRefused (.refl s)) (fun _ => .ite (fun _ => .set (.refl s)) (fun _ => .on
    (.foldl (.set (.refl s)) (fun h => .fall h)) (fun h => .event h)))))

theorem Steps.execDomainOn {pd} : Steps s (Machine.execDomainOn pd s) :=
  .next (.ite (fun _ => .refl s) (fun _ => .event (.pdSet (.refl s))))

theorem Steps.execVlvLow {vlv} : Steps s (Machine.execVlvLow vlv s) := .next (.on (.set (.refl s)) (fun h => .event (.set h)))

theorem Steps.execVlvHigh {vlv} : Steps s (Machine.execVlvHigh vlv s) := .next (.on (.set (.refl s)) (fun h => .event (.set h)))

theorem Steps.execBrownout {group} : Steps s (Machine.execBrownout group s) := by
  unfold Machine.execBrownout
  exact .next (.ite (fun _ => .takeHold (.set (.boHold (.refl s)))) (fun _ => .ite (fun _ => .refl s) (fun _ => .ite (fun _ => .fall (.fall
    (.boHold (.boRecord (.refl s))))) (fun _ => by
    extract_lets +onlyGivenNames s1 _ _
    have hs1 : Sound s s1 := .boHold (.boRecord (.refl s))
    exact .ite (fun _ => .takeHold (.incSat hs1)) (fun _ => .takeHold hs1)))))

theorem Steps.execBrownoutRecover {group} : Steps s (Machine.execBrownoutRecover group s) := by
  unfold Machine.execBrownoutRecover
  extract_lets +onlyGivenNames s1
  have hs1 : Sound s s1 := .set (.refl s)
  exact .next (.ite (fun _ => .set (.set hs1)) (fun _ => .ite (fun _ => .on (.foldl hs1 (fun h => .pdSet h)) (fun h => .event h))
    (fun _ => hs1)))

theorem Steps.execWakePin : Steps s (Machine.execWakePin s) :=
  .next (.ite (fun _ => .wakeStandby (.refl s)) (fun _ => .ite (fun _ => .set (.takeHold (.set (.set (.lcFinish (.refl s))))))
    (fun _ => .refl s)))

theorem Steps.execWakeAlarm : Steps s (Machine.execWakeAlarm s) := .next (.ite (fun _ => .wakeStandby (.refl s)) (fun _ => .refl s))

theorem Steps.execPwrWakeLow : Steps s (Machine.execPwrWakeLow s) := .next (.ite (fun _ => .refl s) (fun _ => .event (.refl s)))

theorem Steps.execDliPowerOn : Steps s (Machine.execDliPowerOn s) :=
  .next (.ite (fun _ => .refl s) (fun _ => .set (.set (.set (.pdSet (.set (.set (.refl s))))))))

theorem Sound.dbgClose (h : Sound s t) {cause} : Sound s (t.dbgClose cause) :=
  .ite (fun _ => h) (fun _ => .engRelease (.set (.set (.set (.forN (.secEvent h) (fun h => .frzEnd h))))))

theorem Sound.lockStart (h : Sound s t) {n} : Sound s (t.lockStart n) := .set (.set (.set h))

theorem Sound.authEvent (h : Sound s t) {debug role result} : Sound s (t.authEvent debug role result) := .secEvent (.set h)

theorem Sound.authFail (h : Sound s t) {debug role result} : Sound s (t.authFail debug role result) := by
  unfold State.authFail
  extract_lets +onlyGivenNames s1
  have hs1 : Sound s s1 := .incSat h
  exact .authEvent (.on hs1 (fun h => .lockStart h))

theorem Sound.authOpen (h : Sound s t) {debug role level} : Sound s (t.authOpen debug role level) := by
  unfold State.authOpen
  extract_lets +onlyGivenNames s1
  have hs1 : Sound s s1 := .authEvent (.set h)
  exact .ite (fun _ => .secEvent (.set (.set (.set hs1)))) (fun _ => .set (.set (.set (.set (.set hs1)))))

theorem Sound.keyOp {f : State → Nat × State} (h : Sound s t) (hf : ∀ {w}, Sound s w → Sound s (f w).2) {op slot may} :
    Sound s (t.keyOp op slot may f) :=
  .ite (fun _ => .accessRefused h)
    (fun _ => .on (.forN (.set (.iteSnd (fun _ => .set (.set h)) (fun _ => hf (.set (.set h))))) (fun h => .set h)) (fun h => .secEvent h))

theorem Sound.lcClose (h : Sound s t) : Sound s t.lcClose := .sesClose (.dbgClose (.closeHostRole h))

theorem Sound.lcErase (h : Sound s t) : Sound s t.lcErase := .calZero (.forN (.set (.set (.set h))) (fun h => .set h))

theorem Sound.calEvent (h : Sound s t) {final reason} : Sound s (t.calEvent final reason) := .secEvent h

theorem Sound.bootEvents (h : Sound s t) : Sound s t.bootEvents := by
  unfold State.bootEvents
  extract_lets +onlyGivenNames s1 s2 s3
  have hs1 : Sound s s1 := .on h (fun h => .event (.set h))
  have hs2 : Sound s s2 := .on hs1 (fun h => .set (.event h))
  have hs3 : Sound s s3 := .on hs2 (fun h => .set (.event h))
  exact .on hs3 (fun h => .set (.event h))

theorem Sound.bootReject (h : Sound s t) {slot reason} : Sound s (t.bootReject slot reason) := .on h (fun h => .secEvent h)

theorem Sound.bootSlot (h : Sound s t) {slot first} : Sound s (t.bootSlot slot first) := by
  unfold State.bootSlot
  extract_lets +onlyGivenNames _ s1 s2 s3
  have hs1 : Sound s s1 := .forN (.set (.set (.set (.set h)))) (fun h => .set h)
  have hs2 : Sound s s2 := .on hs1 (fun h => .set h)
  have hs3 : Sound s s3 := .on hs2 (fun h => .set h)
  exact .bootEvents (.secEvent hs3)

theorem Steps.execRingNop : Steps s (Machine.execRingNop s) := by
  unfold Machine.execRingNop
  exact .next (by
    split
    · exact .refl s
    · exact .complete (.refl s))

theorem Steps.execFwChunk {data} : Steps s (Machine.execFwChunk data s) := by
  unfold Machine.execFwChunk
  exact .next (by
    split
    · exact .refl s
    · exact .ite (fun _ => .refl s) (fun _ => .ite (fun _ => .complete (.refl s)) (fun _ => by
        extract_lets +onlyGivenNames s1
        have hs1 : Sound s s1 := .records (.refl s)
        exact .ite (fun _ => .set hs1) (fun _ => .complete hs1))))

theorem Sound.finalDone (h : Sound s t) {n waits ok} : Sound s (t.finalDone n waits ok) := .ite (fun _ => h) (fun _ => .complete h)

theorem Steps.execFwCheckDone {keyOk sigOk} : Steps s (Machine.execFwCheckDone keyOk sigOk s) := by
  unfold Machine.execFwCheckDone
  exact .next (.ite (fun _ => .refl s) (fun _ => by
    extract_lets +onlyGivenNames _ _ _ s1
    have hs1 : Sound s s1 := .records (.set (.refl s))
    exact .ite (fun _ => .finalDone hs1) (fun _ => .finalDone (.set (.set (.set (.set hs1)))))))

theorem Steps.execCalChunk {data} : Steps s (Machine.execCalChunk data s) := by
  unfold Machine.execCalChunk
  exact .next (by
    split
    · exact .refl s
    · exact .ite (fun _ => .refl s) (fun _ => .ite (fun _ => .complete (.refl s)) (fun _ => .ite (fun _ => .complete (.refl s)) (fun _ => by
        extract_lets +onlyGivenNames s1
        have hs1 : Sound s s1 := .records (.refl s)
        exact .ite (fun _ => .set hs1) (fun _ => .complete hs1)))))

theorem Steps.execCalCheckDone {keyIdOk tagOk} : Steps s (Machine.execCalCheckDone keyIdOk tagOk s) := by
  unfold Machine.execCalCheckDone
  exact .next (.ite (fun _ => .refl s) (fun _ => by
    extract_lets +onlyGivenNames _ _ _ _ s1
    have hs1 : Sound s s1 := .records (.set (.refl s))
    exact .ite (fun _ => .finalDone (.calEvent hs1)) (fun _ => .finalDone (.calEvent (.set (.set (.inc (.set (.set (.set
      (.set hs1)))))))))))

theorem Steps.execLcTransition {target fused whole} : Steps s (Machine.execLcTransition target fused whole s) := by
  unfold Machine.execLcTransition
  extract_lets +onlyGivenNames _ s0 _ _
  have hs0 : Sound s s0 := .set (.refl s)
  exact .next (.ite (fun _ => .refl s) (fun _ => .ite (fun _ => hs0) (fun _ => .ite (fun _ => .set hs0) (fun _ => .ite (fun _ => .set hs0)
    (fun _ => .ite (fun _ => .ite (fun _ => .secEvent (.lcClose (.set (.set hs0)))) (fun _ => hs0)) (fun _ => by
    extract_lets +onlyGivenNames _ s2
    have hs2 : Sound s s2 := .set (.set (.set (.on hs0 (fun h => .lcErase h))))
    exact .ite (fun _ => hs2) (fun _ => .on (.resetRequest (.secEvent (.lcClose (.lcFinish hs2)))) (fun h => .setFree h))))))))

theorem Steps.execAuthChallenge {debug role level} : Steps s (Machine.execAuthChallenge debug role level s) := by
  unfold Machine.execAuthChallenge
  extract_lets +onlyGivenNames _ _ _ s0
  have hs0 : Sound s s0 := .set (.set (.set (.refl s)))
  exact .next (.ite (fun _ => .refl s) (fun _ => .ite (fun _ => .set hs0) (fun _ => by
    split
    · exact .set hs0
    · extract_lets +onlyGivenNames s1
      have hs1 : Sound s s1 := .forN hs0 (fun h => .ite (fun _ => .setFree h) (fun _ => .setFree h))
      exact .set (.set (.set (.set (.set hs1)))))))

theorem Steps.execAuthVerify {debug good} : Steps s (Machine.execAuthVerify debug good s) := by
  unfold Machine.execAuthVerify
  extract_lets +onlyGivenNames _ _ _ _ s0
  have hs0 : Sound s s0 := .set (.set (.refl s))
  exact .next (.ite (fun _ => .refl s) (fun _ => .ite (fun _ => .authEvent hs0) (fun _ => .ite (fun _ => .authFail hs0) (fun _ => by
    split
    · exact .authEvent hs0
    · exact .ite (fun _ => .authOpen hs0) (fun _ => .authFail hs0)))))

theorem Steps.execAuthClose {debug} : Steps s (Machine.execAuthClose debug s) := by
  unfold Machine.execAuthClose
  extract_lets +onlyGivenNames s0
  have hs0 : Sound s s0 := .set (.set (.refl s))
  exact .next (.ite (fun _ => .refl s) (fun _ => .ite (fun _ => .dbgClose hs0) (fun _ => .closeHostRole hs0)))

theorem Steps.execRoleTmo : Steps s (Machine.execRoleTmo s) := .next (.on (.refl s) (fun h => .closeHostRole h))

theorem Steps.execAuthLockoutEnd : Steps s (Machine.execAuthLockoutEnd s) := .next (.on (.refl s) (fun h => .set h))

theorem Steps.execIntInstall {slot unwraps kInt} : Steps s (Machine.execIntInstall slot unwraps kInt s) :=
  .next (.ite (fun _ => .refl s) (fun _ => .keyOp (.refl s) (fun h => .iteSnd (fun _ => h) (fun _ => .setBit (.set (.set (.set h)))))))

theorem Steps.execRoleInstall {slot} : Steps s (Machine.execRoleInstall slot s) :=
  .next (.ite (fun _ => .refl s) (fun _ => .keyOp (.refl s) (fun h => .iteSnd (fun _ => .setBit (.set h)) (fun _ => h))))

theorem Steps.execRoleRevoke {slot} : Steps s (Machine.execRoleRevoke slot s) :=
  .next (.ite (fun _ => .refl s) (fun _ => .keyOp (.refl s) (fun h => .iteSnd (fun _ => .setBit (.set h)) (fun _ => h))))

theorem Steps.execSakInstall {slot} : Steps s (Machine.execSakInstall slot s) :=
  .next (.ite (fun _ => .refl s) (fun _ => .keyOp (.refl s) (fun h => .iteSnd (fun _ => h) (fun _ => .iteSnd (fun _ => h) (fun _ =>
    have ht : Sound s _ := .on (.set (.forN h (fun h => .set h))) (fun h => .set h)
    .ite (fun _ => .set ht) (fun _ => .ite (fun _ => .pnExh (.set ht)) (fun _ => .set ht)))))))

theorem Steps.execSakRetire {slot} : Steps s (Machine.execSakRetire slot s) :=
  .next (.ite (fun _ => .refl s) (fun _ => .keyOp (.refl s) (fun h => .iteSnd (fun _ => h)
    (fun _ => .iteSnd (fun _ => h) (fun _ => .set (.forN h (fun h => .set h)))))))

theorem Steps.execFuseBlow {slot} : Steps s (Machine.execFuseBlow slot s) :=
  .next (.ite (fun _ => .refl s) (fun _ => .keyOp (.refl s)
    (fun h => .iteSnd (fun _ => .set h) (fun _ => .iteSnd (fun _ => .set h) (fun _ => h)))))

theorem Steps.execFwCommit : Steps s (Machine.execFwCommit s) := .next (.ite (fun _ => .refl s) (fun _ => .set (.refl s)))

theorem Steps.execCalLoadDone {tagOk kinds} : Steps s (Machine.execCalLoadDone tagOk kinds s) := by
  unfold Machine.execCalLoadDone
  exact .next (.ite (fun _ => .refl s) (fun _ => by
    extract_lets +onlyGivenNames s1
    have hs1 : Sound s s1 := .set (.calZero (.refl s))
    exact .ite (fun _ => .jobGo (.jobRefuse (.calEvent hs1))) (fun _ => by
      extract_lets +onlyGivenNames s2
      have hs2 : Sound s s2 := .forN hs1 (fun h => .set h)
      exact .set (.calEvent (.set (.set (.set (.set hs2))))))))

theorem Steps.execZeroingDone : Steps s (Machine.execZeroingDone s) :=
  .next (.ite (fun _ => .refl s) (fun _ => .set (.on (.setb (.set (.refl s))) (fun h => .send h))))

theorem Steps.execBootRom {inForce pending} : Steps s (Machine.execBootRom inForce pending s) := by
  unfold Machine.execBootRom
  exact .next (.ite (fun _ => .refl s) (fun _ => by
    extract_lets +onlyGivenNames _ _ _ _ s1 s2
    have hs1 : Sound s s1 := .on (.bootReject (.refl s)) (fun h => .bootReject h)
    have hs2 : Sound s s2 := .setb hs1
    exact .ite (fun _ => .bootSlot (.set hs2)) (fun _ => .ite (fun _ => .bootSlot (.on hs2 (fun h => .set h))) (fun _ => .bootEvents
      (.set hs2)))))

theorem Sound.tapScan (h : Sound s t) {ir} : Sound s (t.tapScan ir) := by
  unfold State.tapScan
  extract_lets +onlyGivenNames s1
  have hs1 : Sound s s1 := .debugVdc h
  exact .set hs1

theorem Steps.execTapIdcode : Steps s (Machine.execTapIdcode s) := .next (.on (.refl s) (fun h => .set h))

theorem Steps.execTapBypass : Steps s (Machine.execTapBypass s) := .next (.on (.refl s) (fun h => .set h))

theorem Steps.execTapSamplePreload : Steps s (Machine.execTapSamplePreload s) := .next (.on (.refl s) (fun h => .tapScan h))

theorem Steps.execTapExtest : Steps s (Machine.execTapExtest s) := .next (.on (.refl s) (fun h => .tapScan h))

theorem Steps.execDapSelect : Steps s (Machine.execDapSelect s) := .next (.on (.refl s) (fun h => .set h))

theorem Steps.execDbgTrstn : Steps s (Machine.execDbgTrstn s) := .next (.set (.dbgClose (.refl s)))

theorem Steps.execDbgVrefLoss : Steps s (Machine.execDbgVrefLoss s) := .next (.set (.set (.dbgClose (.refl s))))

theorem Steps.execDbgVrefPresent : Steps s (Machine.execDbgVrefPresent s) := .next (.set (.set (.refl s)))

theorem Steps.execSingleStep {engine} : Steps s (Machine.execSingleStep engine s) := by
  unfold Machine.execSingleStep
  exact .next (by
    split
    · exact .refl s
    · exact .on (.refl s) (fun h => .set h))

theorem Sound.scrubNext (h : Sound s t) {last} : Sound s (t.scrubNext last) := .ite (fun _ => .records (.set (.set h))) (fun _ => .inc h)

theorem Sound.marchZero (h : Sound s t) {m} : Sound s (t.marchZero m) := by
  unfold State.marchZero
  extract_lets s1
  have hs1 : Sound s s1 := .records h
  exact .ite (fun _ => .memory hs1 fun _ => rfl) (fun _ => .ite (fun _ => .calZero hs1)
    (fun _ => .ite (fun _ => .setBit (.dropCells hs1)) (fun _ => .foldl (.dropCells (.dropCells hs1)) (fun h => .on h
      (fun h => .setBit h)))))

theorem Sound.marchKeep (h : Sound s t) {m} : Sound s (t.marchKeep m) := .foldl h (fun h => .eccCheck h)

theorem Sound.marchReport (h : Sound s t) {target fails mem addr pos left spent rows cols} :
  Sound s (t.marchReport target fails mem addr pos left spent rows cols) := by
  unfold State.marchReport
  extract_lets +onlyGivenNames _ _ _ unrep
  have hunrep : Sound s unrep := .foldl (.set (.set (.on (.set h) (fun h => .set (.set (.set h)))))) (fun h => .ite (fun _ => h)
    (fun _ => .ite (fun _ => .setBit h) (fun _ => .on h (fun h => .setBit h))))
  exact .on hunrep (fun h => .event h)

theorem Sound.bistZero (h : Sound s t) {pd} : Sound s (t.bistZero pd) :=
  .on (.unblank (.dropCells (.records (.dropCells h)))) (fun h => .calZero h)

theorem Steps.execMemScrub {flips} : Steps s (Machine.execMemScrub flips s) :=
  .next (.ite (fun _ => .refl s) (fun _ => .ite (fun _ => .scrubNext (.refl s)) (fun _ => .scrubNext (.eccCheck (.setEcc (.refl s))))))

theorem Steps.execWinAbort {offset} : Steps s (Machine.execWinAbort offset s) := .next (.event (.incSat (.refl s)))

theorem Steps.execMarchStart {target destr repair} : Steps s (Machine.execMarchStart target destr repair s) :=
  .next (.ite (fun _ => .refl s) (fun _ => .ite (fun _ => .refl s) (fun _ => .ite (fun _ => .set (.set (.refl s))) (fun _ => .on (.set (.set
    (.set (.set (.setb (.setb (.set (.refl s)))))))) (fun h => .calZero h)))))

theorem Steps.execMarchDone
  {boot fails mem addr pos left spent rows cols} : Steps s (Machine.execMarchDone boot fails mem addr pos left spent rows cols s) := by
  unfold Machine.execMarchDone
  exact .next (.ite (fun _ => .ite (fun _ => .refl s) (fun _ => .marchReport (.refl s))) (fun _ => .ite (fun _ => .refl s) (fun _ => by
    extract_lets +onlyGivenNames _ _ s2
    have hs2 : Sound s s2 := .marchReport (.set (.set (.foldl (.refl s) (fun h => .on h (fun h => .ite (fun _ => .marchZero h)
      (fun _ => .marchKeep h))))))
    exact .event (.set hs2))))

theorem Steps.execBistStart {domain} : Steps s (Machine.execBistStart domain s) :=
  .next (.ite (fun _ => .refl s) (fun _ => .ite (fun _ => .set (.refl s)) (fun _ => .ite (fun _ => .set (.set (.refl s))) (fun _ => .set
    (.set (.set (.set (.bistSave (.refl s)))))))))

theorem Steps.execBistDone {pass misr islands} : Steps s (Machine.execBistDone pass misr islands s) := by
  unfold Machine.execBistDone
  exact .next (.ite (fun _ => .refl s) (fun _ => by
    extract_lets +onlyGivenNames _ _ _ _ s2
    have hs2 : Sound s s2 := .event (.set (.bistZero (.incSat (.set (.set (.foldl (.refl s) (fun h => .eccCheck h)))))))
    exact .ite (fun _ => .setBit hs2) (fun _ => .resetRequest (.set (.bistReport (.incSat hs2))))))

theorem Steps.execMemPitArm {addr sel} : Steps s (Machine.execMemPitArm addr sel s) :=
  .next (.ite (fun _ => .refl s) (fun _ => .pitArm (.refl s) (.set (.set (.refl s)))))

end

end Sys2Proof.Machine
end
/-!
What every operation keeps (O2, O4), power, memories and debug: one lemma for each operation and each command, in the
order of the model.
-/
section
namespace Sys2Proof.Machine
set_option Elab.async false
open State

section
variable {s t u : State}

theorem Sound.putField (h : Sound s t) {r i j v} : Sound s (t.putField r i j v) := by
  unfold State.putField
  split
  · exact .set h
  · exact .set h
  · exact .ite (fun _ => .set h) (fun _ => .ite (fun _ => .set h) (fun _ => .set h))
  · exact .on (.set h) (fun h => .setb h)
  · exact .ite (fun _ => h) (fun _ => .set h)
  · exact h

theorem Sound.proxyFrame (h : Sound s t) {r i j} : Sound s (t.proxyFrame r i j) := by
  unfold State.proxyFrame
  exact .ite (fun _ => .gateWrite h) (fun _ => .ite (fun _ => .set (.gateWrite h)) (fun _ => by
    split
    · exact .gateWrite h
    · exact h))

theorem Sound.chStop (h : Sound s t) {ch} : Sound s (t.chStop ch) := .ocTrip (.set (.set (.set (.set (.set (.set (.setBit h)))))))

theorem Sound.fieldEffect (hu : Sound s u) {r i j} : Sound s (t.fieldEffect u r i j) :=
  .ite (fun _ => .chFault hu) (fun _ => .ite (fun _ => .on hu (fun h => .carCopy h)) (fun _ => .ite (fun _ => .forN hu (fun h => .on h
    (fun h => .chStop h))) (fun _ => .ite (fun _ => .ptoStart hu) (fun _ => .ite (fun _ => .ringSums hu) (fun _ => .ite (fun _ => .on hu
      (fun h => .set (.set h))) (fun _ => .ite (fun _ => .ite (fun _ => .canInit hu) (fun _ => .canLeaveInit hu)) (fun _ => .ite
        (fun _ => .canMode hu) (fun _ => .ite (fun _ => .txAn (.set hu)) (fun _ => .ite (fun _ => .on hu (fun h => .setAs (.set h)))
          (fun _ => .ite (fun _ => .on hu (fun h => .set h)) (fun _ => .ite (fun _ => .set hu) (fun _ => .ite (fun _ => .on hu
            (fun h => .thrOff h)) (fun _ => .ite (fun _ => .bandRound hu) (fun _ => .proxyFrame hu))))))))))))))

theorem Sound.regFields (h : Sound s t) {addr data} : Sound s (t.regFields addr data) := by
  unfold State.regFields
  extract_lets +onlyGivenNames _ _ _ _ _ _ _ s1 _ s2 s3 s4 s5 s6
  have hs1 : Sound s s1 := .foldl h (fun h => .putField h)
  have hs2 : Sound s s2 := .foldl hs1 (fun h => .set h)
  have hs3 : Sound s s3 := .foldl hs2 (fun h => .fieldEffect h)
  have hs4 : Sound s s4 := .on hs3 (fun h => .foldl h (fun h => .on h (fun h => .set h)))
  have hs5 : Sound s s5 := by
    unfold s5
    split
    · exact .minpWarn hs4
    · exact hs4
  have hs6 : Sound s s6 := by
    unfold s6
    split
    · exact .gateWrite hs5
    · exact hs5
  exact .on hs6 (fun h => .accessRefused h)

theorem Sound.selWrite (h : Sound s t) {n data} : Sound s (t.selWrite n data) :=
  .ite (fun _ => .on (.set h) (fun h => .set h)) (fun _ => .ite (fun _ => .set h) (fun _ => .foldl h (fun h => .set h)))

theorem Sound.belayWrite (h : Sound s t) {addr data} : Sound s (t.belayWrite addr data) := by
  unfold State.belayWrite
  exact .ite (fun _ => .ite (fun _ => .on h (fun h => .set h)) (fun _ => .on (.set (.set h)) (fun h => by
    extract_lets +onlyGivenNames u'
    have hu' : Sound s u' := .set (.set (.set (.set h)))
    exact .ite (fun _ => hu') (fun _ => .mbxDone hu')))) (fun _ => .ite (fun _ => .ite (fun _ => h) (fun _ => .set h)) (fun _ => .ite
      (fun _ => .on h (fun h => .set h)) (fun _ => .ite (fun _ => h) (fun _ => .ite (fun _ => .safetyRefused h)
        (fun _ => .accessRefused h)))))

theorem Sound.barWrite (h : Sound s t) {addr data} : Sound s (t.barWrite addr data) := by
  unfold State.barWrite
  exact .ite (fun _ => h) (fun _ => .ite (fun _ => .memPut32 h) (fun _ => .ite (fun _ => h) (fun _ => .ite (fun _ => .msixWrite h)
    (fun _ => .ite (fun _ => .on h (fun h => .belayWrite h)) (fun _ => by
    split
    · exact .selWrite h
    · exact .regFields h)))))

theorem Sound.barRead (h : Sound s t) {addr} : Sound s (t.barRead addr).1 := by
  refine .iteFst (fun _ => h) (fun _ => .iteFst (fun _ => .iteFst (fun _ => .records (.eccCheck h)) (fun _ => .eccCheck h))
    (fun _ => .iteFst (fun _ => h) (fun _ => .iteFst (fun _ => h) (fun _ => .iteFst (fun _ => h)
    (fun _ => .iteFst (fun _ => .set (.set h)) (fun _ => ?_))))))
  split
  · exact .set (.perfLatch h)
  · exact h

theorem Sound.sendFree (h : Sound s t) : Sound s t.sendFree := .records (.send h)

theorem Sound.sendHeld (h : Sound s t) {r on i j b} : Sound s (t.sendHeld r on i j b) := .ite (fun _ => .send h) (fun _ => .sendFree h)

theorem Sound.dbgRead (h : Sound s t) {sp} : Sound s (t.dbgRead sp) := by
  unfold State.dbgRead
  split
  · exact .send (.barRead h)
  · exact .send h
  · split
    · exact .send h
    · exact .send h
  · exact .sendHeld h
  · exact .sendHeld h
  · exact .sendHeld h
  · exact .send h

theorem Sound.dbgWrite (h : Sound s t) {sp data} : Sound s (t.dbgWrite sp data) := by
  unfold State.dbgWrite
  split
  · exact .ite (fun _ => .foldl h (fun h => .set h)) (fun _ => .set (.barWrite (.set h)))
  · exact .set (.set h)
  · split
    · exact .set h
    · exact h
  · exact .set (.set h)
  · exact .set (.set h)
  · exact .set (.set h)
  · exact .set (.set h)

theorem Sound.hostAccess (h : Sound s t) : Sound s t.hostAccess := .on h (fun h => .set h)

theorem Steps.execRegWrite {addr data} : Steps s (Machine.execRegWrite addr data s) := .next (.barWrite (.hostAccess (.refl s)))

theorem Steps.execDebugAccess {sp write data} : Steps s (Machine.execDebugAccess sp write data s) := by
  unfold Machine.execDebugAccess
  exact .next (.ite (fun _ => by
    split
    · exact .send (.on (.refl s) (fun h => .secEvent h))
    · exact .send (.refl s)) (fun _ => by
    split
    · exact .ite (fun _ => .dbgWrite (.refl s)) (fun _ => .dbgRead (.refl s))
    · exact .ite (fun _ => .send (.refl s)) (fun _ => by
        extract_lets +onlyGivenNames _ s1
        have hs1 : Sound s s1 := .ite (fun _ => .refl s) (fun _ => .tblLock (.refl s))
        exact .ite (fun _ => .dbgWrite hs1) (fun _ => .ite (fun _ => .set hs1) (fun _ => .dbgRead hs1)))))

theorem Sound.popRidge (h : Sound s t) : Sound s t.popRidge := .records h

theorem Steps.execRidgeCheck : Steps s (Machine.execRidgeCheck s) := by
  unfold Machine.execRidgeCheck
  exact .next (by
    split
    · exact .refl s
    · exact .ite (fun _ => .refl s) (fun _ => .ridgeMeet (.popRidge (.refl s))))

theorem Steps.execRidgeStart : Steps s (Machine.execRidgeStart s) := by
  unfold Machine.execRidgeStart
  exact .next (by
    split
    · exact .refl s
    · exact .ite (fun _ => .ridgeMeet (.popRidge (.refl s))) (fun _ => .refl s))

theorem Steps.execSetpointDesc {ring records} : Steps s (Machine.execSetpointDesc ring records s) := by
  unfold Machine.execSetpointDesc
  exact .next (by
    split
    · exact .refl s
    · exact .ite (fun _ => .refl s) (fun _ => .ite (fun _ => .complete (.refl s)) (fun _ => .ite (fun _ => .complete (.refl s))
        (fun _ => .ite (fun _ => .complete (.refl s)) (fun _ => .setPlay (.refl s))))))

theorem Steps.execSetpointRecord {ring} : Steps s (Machine.execSetpointRecord ring s) := by
  unfold Machine.execSetpointRecord
  exact .next (by
    split
    · exact .refl s
    · split
      · exact .refl s
      · exact .ite (fun _ => .complete (.refl s)) (fun _ => by
          extract_lets +onlyGivenNames t'
          have ht' : Sound s t' := .setPlay (.refl s)
          exact .records ht'))

theorem Steps.execRingHold {net} : Steps s (Machine.execRingHold net s) := by
  unfold Machine.execRingHold
  exact .next (by
    split
    · exact .refl s
    · exact .ite (fun _ => .refl s) (fun _ => .ite (fun _ => .commandDone (.refl s)) (fun _ => .ite (fun _ => .commandDone (.refl s))
        (fun _ => .commandOver (.holdIssue (.refl s))))))

theorem Steps.execHoldRelease {net} : Steps s (Machine.execHoldRelease net s) := by
  unfold Machine.execHoldRelease
  exact .next (by
    split
    · exact .refl s
    · exact .ite (fun _ => .refl s) (fun _ => .ite (fun _ => .commandDone (.refl s)) (fun _ => .commandOver (.shSet (.set (.set (.set (.refl
        s))))))))

theorem Steps.execHoldDrive : Steps s (Machine.execHoldDrive s) := .next (.holdTryDrive (.refl s))

theorem Sound.shFault (h : Sound s t) {o kind} : Sound s (t.shFault o kind) := by
  unfold State.shFault
  exact .ite (fun _ => h) (fun _ => by
    extract_lets +onlyGivenNames s1
    have hs1 : Sound s s1 := .safetyLog (.shSet (.set (.setBit h)))
    exact .on hs1 (fun h => .setb h))

theorem Sound.shVal (h : Sound s t) {o vh vl ic} : Sound s (t.shVal o vh vl ic) := .seti (.set (.set h))

theorem Steps.execShFault {output agree vaux vh vl ic} : Steps s (Machine.execShFault output agree vaux vh vl ic s) :=
  .next (.on (.shVal (.refl s)) (fun h => .shFault h))

theorem Steps.execTestPulse {output low agree vaux vh vl ic} : Steps s (Machine.execTestPulse output low agree vaux vh vl ic s) :=
  .next (.ite (fun _ => .refl s) (fun _ => .ite (fun _ => .incSat (.refl s)) (fun _ => .on (.shVal (.on (.refl s) (fun h => .pitAct h)))
    (fun h => .shFault h))))

theorem Steps.execPwdLockoutEnd : Steps s (Machine.execPwdLockoutEnd s) := .next (.on (.refl s) (fun h => .set (.set h)))

theorem Steps.execSesTmo : Steps s (Machine.execSesTmo s) :=
  .next (.ite (fun _ => .refl s) (fun _ => .ite (fun _ => .set (.refl s)) (fun _ => .sesClose (.refl s))))

theorem Steps.execPwdBufClear : Steps s (Machine.execPwdBufClear s) := .next (.ite (fun _ => .refl s) (fun _ => .records (.refl s)))

theorem Steps.execPwdLoad : Steps s (Machine.execPwdLoad s) :=
  .next (.ite (fun _ => .refl s) (fun _ => .ite (fun _ => .mbxDone (.refl s)) (fun _ => .mbxDone (.set (.records (.refl s))))))

theorem Sound.sesStart (h : Sound s t) {role} : Sound s (t.sesStart role) := by
  unfold State.sesStart
  extract_lets +onlyGivenNames t'
  have ht' : Sound s t' := .inc (.set (.set (.set h)))
  exact .mbxDone (.safetyLog ht')

theorem Sound.sesFail (h : Sound s t) {role} : Sound s (t.sesFail role) := by
  unfold State.sesFail
  extract_lets +onlyGivenNames t' _
  have ht' : Sound s t' := .incSat h
  exact .mbxDone (.safetyLog (.on ht' (fun h => .set (.set h))))

theorem Steps.execSesOpen : Steps s (Machine.execSesOpen s) := by
  unfold Machine.execSesOpen
  exact .next (.ite (fun _ => .refl s) (fun _ => by
    extract_lets +onlyGivenNames _ t'
    have ht' : Sound s t' := .records (.refl s)
    exact .ite (fun _ => .mbxDone ht') (fun _ => .ite (fun _ => .sesStart ht') (fun _ => .ite (fun _ => .mbxDone ht') (fun _ => .ite
      (fun _ => .sesStart ht') (fun _ => .sesFail ht'))))))

theorem Steps.execSesClose : Steps s (Machine.execSesClose s) := .next (.ite (fun _ => .mbxDone (.sesClose (.refl s))) (fun _ => .refl s))

theorem Steps.execPwdSet {written} : Steps s (Machine.execPwdSet written s) := by
  unfold Machine.execPwdSet
  exact .next (.ite (fun _ => .refl s) (fun _ => by
    extract_lets +onlyGivenNames _ t' _ _ _
    have ht' : Sound s t' := .records (.refl s)
    exact .ite (fun _ => .mbxDone ht') (fun _ => .ite (fun _ => .mbxDone ht') (fun _ => .ite (fun _ => .mbxDone ht') (fun _ => .ite
      (fun _ => .mbxDone ht') (fun _ => .mbxDone (.set (.set (.set (.logAppend (.records ht')))))))))))

theorem Steps.execLogVerify : Steps s (Machine.execLogVerify s) := .next (.ite (fun _ => .mbxDone (.refl s)) (fun _ => .refl s))

theorem Steps.execLogAnchor : Steps s (Machine.execLogAnchor s) :=
  .next (.ite (fun _ => .refl s) (fun _ => .ite (fun _ => .mbxDone (.refl s)) (fun _ => .mbxDone (.refl s))))

theorem Steps.execMbxCfgWrite {written applied} : Steps s (Machine.execMbxCfgWrite written applied s) := by
  unfold Machine.execMbxCfgWrite
  exact .next (.ite (fun _ => .refl s) (fun _ => .ite (fun _ => .mbxDone (.safetyRefused (.refl s))) (fun _ => .ite (fun _ => .mbxDone
    (.refl s)) (fun _ => .ite (fun _ => .mbxDone (.refl s)) (fun _ => by
    extract_lets +onlyGivenNames s1 s2
    have hs1 : Sound s s1 := .logAppend (.refl s)
    have hs2 : Sound s s2 := .rollForward hs1
    exact .ite (fun _ => hs1) (fun _ => .mbxDone (.safetyLog hs2)))))))

theorem Steps.execMbxPitArm : Steps s (Machine.execMbxPitArm s) :=
  .next (.ite (fun _ => .refl s) (fun _ => .ite (fun _ => .ite (fun _ => .mbxDone (.refl s)) (fun _ => .mbxDone (.pitSet (.refl s))))
    (fun _ => .mbxDone (.safetyLog (.accessRefused (.refl s))))))

theorem Steps.execPitTimeout : Steps s (Machine.execPitTimeout s) := .next (.ite (fun _ => .pitDisarm (.refl s)) (fun _ => .refl s))

end

end Sys2Proof.Machine
end
/-!
Every command completes (O2), and every step keeps the form (O4).
-/
section
namespace Sys2Proof.Machine
set_option Elab.async false

/-- Every command is sound: each answers by its own lemma. -/
theorem Steps.exec (i : Instr) (s : State) : Steps s (exec i s) := by
  cases i with
  | regWrite => exact .execRegWrite
  | fastSample => exact .execFastSample
  | ctrlSample => exact .execCtrlSample
  | comparatorSample => exact .execComparatorSample
  | chValid => exact .execChValid
  | ofsStart => exact .execOfsStart
  | ofsDone => exact .execOfsDone
  | ofsAbandon => exact .execOfsAbandon
  | senClip => exact .execSenClip
  | senBsl => exact .execSenBsl
  | sumFault => exact .execSumFault
  | sup5Fault => exact .execSup5Fault
  | ihaSample => exact .execIhaSample
  | ihaSat => exact .execIhaSat
  | ihaCm => exact .execIhaCm
  | ihaAdc => exact .execIhaAdc
  | ihaSum => exact .execIhaSum
  | xchkWindow => exact .execXchkWindow
  | curXchk => exact .execCurXchk
  | pvRecon => exact .execPvRecon
  | legMis => exact .execLegMis
  | vdcFrame => exact .execVdcFrame
  | vdcStale => exact .execVdcStale
  | vdcLost => exact .execVdcLost
  | senPitArm => exact .execSenPitArm
  | pitTimeout => exact .execPitTimeout
  | capRequest => exact .execCapRequest
  | capFrame => exact .execCapFrame
  | capTimeout => exact .execCapTimeout
  | capRecoveryEnd => exact .execCapRecoveryEnd
  | absLost => exact .execAbsLost
  | incEdge => exact .execIncEdge
  | incIllegal => exact .execIncIllegal
  | incIndex => exact .execIncIndex
  | reref => exact .execReref
  | lineFlt => exact .execLineFlt
  | posStill => exact .execPosStill
  | sourceLost => exact .execSourceLost
  | posPitArm => exact .execPosPitArm
  | decisionTick => exact .execDecisionTick
  | tblSwap => exact .execTblSwap
  | refStale => exact .execRefStale
  | bandWindow => exact .execBandWindow
  | obsLost => exact .execObsLost
  | stoppingRampEnd => exact .execStoppingRampEnd
  | xyHigh => exact .execXyHigh
  | afConv => exact .execAfConv
  | obPitArm => exact .execObPitArm
  | sqPitArm => exact .execSqPitArm
  | injConv => exact .execInjConv
  | polPulseEnd => exact .execPolPulseEnd
  | polFail => exact .execPolFail
  | injLost => exact .execInjLost
  | injLostRampEnd => exact .execInjLostRampEnd
  | travRequest => exact .execTravRequest
  | travHandover => exact .execTravHandover
  | travAbort => exact .execTravAbort
  | travHoldEnd => exact .execTravHoldEnd
  | travStep => exact .execTravStep
  | catchClassify => exact .execCatchClassify
  | catchPulse => exact .execCatchPulse
  | catchResult => exact .execCatchResult
  | catchDeadline => exact .execCatchDeadline
  | puReload => exact .execPuReload
  | cmpWrite => exact .execCmpWrite
  | puCommit => exact .execPuCommit
  | puCompare => exact .execPuCompare
  | puTrip => exact .execPuTrip
  | captureClose => exact .execCaptureClose
  | tripClear => exact .execTripClear
  | firstFaultRearm => exact .execFirstFaultRearm
  | swTrip => exact .execSwTrip
  | debugHalt => exact .execDebugHalt
  | debugRelease => exact .execDebugRelease
  | puFrz => exact .execPuFrz
  | frzAbort => exact .execFrzAbort
  | puPitArm => exact .execPuPitArm
  | cePeriodStart => exact .execCePeriodStart
  | ceOverrun => exact .execCeOverrun
  | ceRelease => exact .execCeRelease
  | coefWrite => exact .execCoefWrite
  | cePitArm => exact .execCePitArm
  | engIllegal => exact .execEngIllegal
  | engMov => exact .execEngMov
  | engLdi => exact .execEngLdi
  | engLd => exact .execEngLd
  | engSt => exact .execEngSt
  | engLda => exact .execEngLda
  | engSta => exact .execEngSta
  | engStaw => exact .execEngStaw
  | engAdd => exact .execEngAdd
  | engSub => exact .execEngSub
  | engNeg => exact .execEngNeg
  | engAbs => exact .execEngAbs
  | engShl => exact .execEngShl
  | engShr => exact .execEngShr
  | engMul => exact .execEngMul
  | engMac => exact .execEngMac
  | engMsu => exact .execEngMsu
  | engCmplt => exact .execEngCmplt
  | engCmple => exact .execEngCmple
  | engCmpeq => exact .execEngCmpeq
  | engSel => exact .execEngSel
  | engMin => exact .execEngMin
  | engMax => exact .execEngMax
  | engClamp => exact .execEngClamp
  | engSincos => exact .execEngSincos
  | engPark => exact .execEngPark
  | engIpark => exact .execEngIpark
  | engClarke => exact .execEngClarke
  | engSqrt => exact .execEngSqrt
  | engDiv => exact .execEngDiv
  | engPidf => exact .execEngPidf
  | engTlu => exact .execEngTlu
  | engFfs => exact .execEngFfs
  | engIn => exact .execEngIn
  | engOut => exact .execEngOut
  | engOutrel => exact .execEngOutrel
  | engBr => exact .execEngBr
  | engBrc => exact .execEngBrc
  | engCall => exact .execEngCall
  | engRet => exact .execEngRet
  | engLoop => exact .execEngLoop
  | engEnd => exact .execEngEnd
  | edgeCmd => exact .execEdgeCmd
  | edgeStart => exact .execEdgeStart
  | trimSatWarn => exact .execTrimSatWarn
  | softOff _ src => exact .execSoftOff (src := src)
  | cfgWr => exact .execCfgWr
  | cfgRd => exact .execCfgRd
  | idleFrame => exact .execIdleFrame
  | cairnFrame => exact .execCairnFrame
  | islandRelease => exact .execIslandRelease
  | confDone => exact .execConfDone
  | islandSwap => exact .execIslandSwap
  | crcHi => exact .execCrcHi
  | crcLo => exact .execCrcLo
  | islandReset => exact .execIslandReset
  | proxyRelease => exact .execProxyRelease
  | proxyConfDone => exact .execProxyConfDone
  | proxySwap => exact .execProxySwap
  | statusFrame => exact .execStatusFrame
  | edgeFrame => exact .execEdgeFrame
  | tripFrame => exact .execTripFrame
  | measFrame => exact .execMeasFrame
  | cfgRsp => exact .execCfgRsp
  | islandLinkLoss => exact .execIslandLinkLoss
  | endpointLinkLoss => exact .execEndpointLinkLoss
  | belayCode => exact .execBelayCode
  | scTurnOn => exact .execScTurnOn
  | ovbAssert => exact .execOvbAssert
  | bcTurnOn => exact .execBcTurnOn
  | ovbDeassert => exact .execOvbDeassert
  | islandUvlo => exact .execIslandUvlo
  | uvloRecover => exact .execUvloRecover
  | islandDesat => exact .execIslandDesat
  | islandDidt => exact .execIslandDidt
  | islandOt => exact .execIslandOt
  | islandPowerUp => exact .execIslandPowerUp
  | osdStart => exact .execOsdStart
  | osdStep => exact .execOsdStep
  | glkPitArm => exact .execGlkPitArm
  | axPeriodStart => exact .execAxPeriodStart
  | auxOc => exact .execAuxOc
  | vauxSample => exact .execVauxSample
  | vauxRestart => exact .execVauxRestart
  | spLost => exact .execSpLost
  | auxCatch => exact .execAuxCatch
  | startFail => exact .execStartFail
  | auxAlignEnd => exact .execAuxAlignEnd
  | auxInjConv => exact .execAuxInjConv
  | auxPolPulseEnd => exact .execAuxPolPulseEnd
  | obsSlow => exact .execObsSlow
  | auxVlim => exact .execAuxVlim
  | vlimClear => exact .execVlimClear
  | bsUv => exact .execBsUv
  | bsHoldEnd => exact .execBsHoldEnd
  | axPitArm => exact .execAxPitArm
  | actRefresh => exact .execActRefresh
  | actSave => exact .execActSave
  | actVerify => exact .execActVerify
  | entryFetched => exact .execEntryFetched
  | fetchTmo => exact .execFetchTmo
  | bindCheck => exact .execBindCheck
  | cacheCheck => exact .execCacheCheck
  | saveDone => exact .execSaveDone
  | perstn => exact .execPerstn
  | functionLevelReset => exact .execFunctionLevelReset
  | linkDown => exact .execLinkDown
  | busMasterClear => exact .execBusMasterClear
  | sizeWrite => exact .execSizeWrite
  | doorbell => exact .execDoorbell
  | descFetch => exact .execDescFetch
  | dmaError => exact .execDmaError
  | irqTimer => exact .execIrqTimer
  | ringNop => exact .execRingNop
  | ringSnapshot => exact .execRingSnapshot
  | snapshotNext => exact .execSnapshotNext
  | ringRefresh => exact .execRingRefresh
  | ringVerify => exact .execRingVerify
  | ringSave => exact .execRingSave
  | ringPower => exact .execRingPower
  | ringReset => exact .execRingReset
  | ringEnable => exact .execRingEnable
  | ringDisable => exact .execRingDisable
  | disableRampEnd => exact .execDisableRampEnd
  | ringDischarge => exact .execRingDischarge
  | dischargeCancel => exact .execDischargeCancel
  | ringHold => exact .execRingHold
  | holdRelease => exact .execHoldRelease
  | setpointDesc => exact .execSetpointDesc
  | setpointRecord => exact .execSetpointRecord
  | telemetryRecord => exact .execTelemetryRecord
  | eventRecord => exact .execEventRecord
  | fwChunk => exact .execFwChunk
  | fwCheckDone => exact .execFwCheckDone
  | calChunk => exact .execCalChunk
  | calCheckDone => exact .execCalCheckDone
  | changeLog => exact .execChangeLog
  | eventStore => exact .execEventStore
  | snapshotRead => exact .execSnapshotRead
  | canSend => exact .execCanSend
  | canCancel => exact .execCanCancel
  | ethSend => exact .execEthSend
  | canRx => exact .execCanRx
  | ethRx => exact .execEthRx
  | blSelection => exact .execBlSelection
  | safeEnter => exact .execSafeEnter
  | belayRelease => exact .execBelayRelease
  | tmError => exact .execTmError
  | katPeriodic => exact .execKatPeriodic
  | tmXchk => exact .execTmXchk
  | blIndex => exact .execBlIndex
  | alignTimeout => exact .execAlignTimeout
  | statusWord => exact .execStatusWord
  | bivWarn => exact .execBivWarn
  | bivExpire => exact .execBivExpire
  | sglTimeout => exact .execSglTimeout
  | setpointLapse => exact .execSetpointLapse
  | lapseRampEnd => exact .execLapseRampEnd
  | lapseHoldEnd => exact .execLapseHoldEnd
  | xtripPin => exact .execXtripPin
  | hvilFault => exact .execHvilFault
  | hvilRestore => exact .execHvilRestore
  | ssoutFault => exact .execSsoutFault
  | heartbeatSend => exact .execHeartbeatSend
  | blHeartbeat => exact .execBlHeartbeat
  | ciLost => exact .execCiLost
  | holdDrive => exact .execHoldDrive
  | blVdcSample => exact .execBlVdcSample
  | vdcFallback => exact .execVdcFallback
  | mbxCfgWrite => exact .execMbxCfgWrite
  | mbxPitArm => exact .execMbxPitArm
  | mbxKat => exact .execMbxKat
  | pwdLoad => exact .execPwdLoad
  | sesOpen => exact .execSesOpen
  | sesClose => exact .execSesClose
  | pwdSet => exact .execPwdSet
  | logVerify => exact .execLogVerify
  | logAnchor => exact .execLogAnchor
  | ridgeCheck => exact .execRidgeCheck
  | ridgeStart => exact .execRidgeStart
  | netReset => exact .execNetReset
  | testPulse => exact .execTestPulse
  | shFault => exact .execShFault
  | pwdLockoutEnd => exact .execPwdLockoutEnd
  | sesTmo => exact .execSesTmo
  | pwdBufClear => exact .execPwdBufClear
  | dliDownlink => exact .execDliDownlink
  | disStep => exact .execDisStep
  | disStepEnd => exact .execDisStepEnd
  | disEnd => exact .execDisEnd
  | dliLinkLoss => exact .execDliLinkLoss
  | stuckOff => exact .execStuckOff
  | stuckOn => exact .execStuckOn
  | broadcastAssert => exact .execBroadcastAssert
  | broadcastDeassert => exact .execBroadcastDeassert
  | abseilStep => exact .execAbseilStep
  | ledgerUpdate => exact .execLedgerUpdate
  | disMiss => exact .execDisMiss
  | dliPitArm => exact .execDliPitArm
  | canJoin => exact .execCanJoin
  | canTxDone => exact .execCanTxDone
  | canTxError => exact .execCanTxError
  | idCollision => exact .execIdCollision
  | canAlone => exact .execCanAlone
  | busOff => exact .execBusOff
  | boRecover => exact .execBoRecover
  | canRecovered => exact .execCanRecovered
  | domTmo => exact .execDomTmo
  | canPex => exact .execCanPex
  | canPitArm => exact .execCanPitArm
  | ethLinkChange => exact .execEthLinkChange
  | msFault => exact .execMsFault
  | ethTxDone => exact .execEthTxDone
  | pdelayRx => exact .execPdelayRx
  | syncRx => exact .execSyncRx
  | asLocked => exact .execAsLocked
  | asHoldover => exact .execAsHoldover
  | slowRound => exact .execSlowRound
  | roundDone => exact .execRoundDone
  | hkStale => exact .execHkStale
  | bsRst => exact .execBsRst
  | abiOt => exact .execAbiOt
  | dieOt => exact .execDieOt
  | otRestart => exact .execOtRestart
  | hkPitArm => exact .execHkPitArm
  | lcTransition => exact .execLcTransition
  | authChallenge => exact .execAuthChallenge
  | authVerify => exact .execAuthVerify
  | authClose => exact .execAuthClose
  | roleTmo => exact .execRoleTmo
  | authLockoutEnd => exact .execAuthLockoutEnd
  | intInstall => exact .execIntInstall
  | roleInstall => exact .execRoleInstall
  | roleRevoke => exact .execRoleRevoke
  | sakInstall => exact .execSakInstall
  | sakRetire => exact .execSakRetire
  | fuseBlow => exact .execFuseBlow
  | fwCommit => exact .execFwCommit
  | calLoadDone => exact .execCalLoadDone
  | debugAccess => exact .execDebugAccess
  | singleStep => exact .execSingleStep
  | tapIdcode => exact .execTapIdcode
  | tapBypass => exact .execTapBypass
  | tapSamplePreload => exact .execTapSamplePreload
  | tapExtest => exact .execTapExtest
  | dapSelect => exact .execDapSelect
  | dbgTrstn => exact .execDbgTrstn
  | dbgVrefLoss => exact .execDbgVrefLoss
  | bootRom => exact .execBootRom
  | pwrCmd => exact .execPwrCmd
  | parkRampEnd => exact .execParkRampEnd
  | unparkDone => exact .execUnparkDone
  | autoUnpark => exact .execAutoUnpark
  | pdEn => exact .execPdEn
  | domainOn => exact .execDomainOn
  | vlvLow => exact .execVlvLow
  | vlvHigh => exact .execVlvHigh
  | brownout => exact .execBrownout
  | brownoutRecover => exact .execBrownoutRecover
  | wakePin => exact .execWakePin
  | wakeAlarm => exact .execWakeAlarm
  | pwrWakeLow => exact .execPwrWakeLow
  | dliPowerOn => exact .execDliPowerOn
  | pllFault => exact .execPllFault
  | pllLock => exact .execPllLock
  | clkFault => exact .execClkFault
  | clkAmbig => exact .execClkAmbig
  | timeLoRead => exact .execTimeLoRead
  | cairnGo => exact .execCairnGo
  | cairnArm => exact .execCairnArm
  | cairnAt => exact .execCairnAt
  | cairnQueued => exact .execCairnQueued
  | engineBarrier => exact .execEngineBarrier
  | sysPitArm => exact .execSysPitArm
  | powerOn => exact .execPowerOn
  | rstnAssert => exact .execRstnAssert
  | rstCmd => exact .execRstCmd
  | preResetEnd => exact .execPreResetEnd
  | blkReset => exact .execBlkReset
  | blkTimeout => exact .execBlkTimeout
  | wdKick => exact .execWdKick
  | hcWatchdog => exact .execHcWatchdog
  | engineWatchdog => exact .execEngineWatchdog
  | blRst => exact .execBlRst
  | trimLoad => exact .execTrimLoad
  | domainStep => exact .execDomainStep
  | belayStart => exact .execBelayStart
  | blSelftest => exact .execBlSelftest
  | startReady => exact .execStartReady
  | memScrub => exact .execMemScrub
  | winAbort => exact .execWinAbort
  | marchStart => exact .execMarchStart
  | marchDone => exact .execMarchDone
  | bistStart => exact .execBistStart
  | bistDone => exact .execBistDone
  | perfOvf => exact .execPerfOvf
  | sampleRecord => exact .execSampleRecord
  | cntLoRead => exact .execCntLoRead
  | memPitArm => exact .execMemPitArm
  | puStrobeLoss => exact .execPuStrobeLoss
  | belayLineLoss => exact .execBelayLineLoss
  | invalidFrame => exact .execInvalidFrame
  | canRxError => exact .execCanRxError
  | pcieLinkUp => exact .execPcieLinkUp
  | rstnRelease => exact .execRstnRelease
  | dliPowerLoss => exact .execDliPowerLoss
  | zeroingDone => exact .execZeroingDone
  | commonModeEvent => exact .execCommonModeEvent
  | dbgVrefPresent => exact .execDbgVrefPresent

/-- Settles O2: of a command that is sound the answer is a next state, with the commands that wait. -/
theorem everyCommandCompletes : Obligations.EveryCommandCompletes := by
  unfold Obligations.EveryCommandCompletes
  intro c s
  obtain ⟨t, ht, h⟩ := Steps.exec c s
  exact ⟨t, ht, h.pending⟩

/-- Settles O4: an empty queue leaves the state, and the command at its front is sound; the form says nothing of the queue itself. -/
theorem everyStepKeepsTheForm : Obligations.EveryStepKeepsTheForm := by
  unfold Obligations.EveryStepKeepsTheForm
  intro s t hs ht
  unfold step at ht
  split at ht
  · cases ht
    exact hs
  next c rest _ =>
    obtain ⟨u, hu, h⟩ := Steps.exec c { s with pending := rest }
    cases hu.symm.trans ht
    exact h.form (hs.of_eq rfl rfl (fun c => by cases c <;> rfl) rfl rfl)

end Sys2Proof.Machine
end
